-- ==== Sys2Proof/Word.lean ====
section
/-! DEFINITION. The word types of the Usberex model and their plainest arithmetic.
A register is 32 bits wide (R4); a stamp is 64 bits (R328); a value the manual calls binary32 or binary64
is held as its bit pattern. -/

namespace Sys2Proof

/-- A 32-bit register word or point value (R4). -/
abbrev Word := BitVec 32
/-- A byte. -/
abbrev Byte := BitVec 8
/-- A binary32 bit pattern. -/
abbrev F32 := BitVec 32
/-- A binary64 bit pattern. -/
abbrev F64 := BitVec 64

/-- The low 32 bits of a number. -/
def lo32 (n : Nat) : Nat := n % 0x100000000
/-- Bits 63:32 of a number. -/
def hi32 (n : Nat) : Nat := (n / 0x100000000) % 0x100000000
/-- A count that saturates at 0xFFFF_FFFF. -/
def satInc (n k : Nat) : Nat := min (n + k) 0xFFFFFFFF
/-- Bit `i` of a number, as 0 or 1. -/
def bitOf (n i : Nat) : Nat := (n / 2 ^ i) % 2
/-- Bits `hi : lo` of a number. -/
def bitsOf (n hi lo : Nat) : Nat := (n / 2 ^ lo) % 2 ^ (hi + 1 - lo)
/-- 1 for true, 0 for false. -/
def ofBool (b : Bool) : Nat := if b then 1 else 0
/-- The two's-complement reading of the low `w` bits of a number. -/
def toSigned (w n : Nat) : Int :=
  let m := n % 2 ^ w
  if 2 * m < 2 ^ w then (m : Int) else (m : Int) - (2 ^ w : Nat)
/-- The two's-complement writing of an integer in `w` bits. -/
def ofSigned (w : Nat) (i : Int) : Nat := (i % (2 ^ w : Nat)).toNat
/-- An integer held to the int32 range. -/
def clampI32 (i : Int) : Int := max (-2147483648) (min i 2147483647)

end Sys2Proof
end

