-- ==== Sys2Proof/Syntax/Common.lean ====
section
/-! DEFINITION. Operand types that several commands share. -/

namespace Sys2Proof

/-- The way a command reaches its unit: a write to the unit's CMD register over PCIe, the submission queue
(R505), or the management port (R509). The order is the tie order of R78. -/
inductive Transport where
  | bar | queue | mgmt
deriving DecidableEq, Repr

/-- Who sends a command: the transport, the session slot it travels under (a BAR write uses the BAR session
instead), and the transports of other commands that reached the unit in the same CLK_CORE cycle (R78). DESIGN CHOICE, log entry 13. -/
structure Caller where
  transport : Transport
  session : Option Nat
  rivals : List Transport
  /-- The argument words that the command's row lists as 0 (R237). -/
  spare : List Nat := []
deriving DecidableEq, Repr

/-- A point as its sixteen bytes give it (R107). -/
structure PointVal where
  value : Word := 0
  source : Nat := 0
  typ : Nat := 0
  quality : Nat := 0
  stamp : Nat := 0
deriving DecidableEq, Repr

/-- A network address of a frame. -/
abbrev MacAddr := Nat

end Sys2Proof
end

