-- ==== Sys2Proof/Syntax/Clap.lean ====
section
/-! DEFINITION. PTP messages as operands (R333). -/

namespace Sys2Proof

/-- A received Announce: the port of the pair (0 lower, 1 upper), the domain number, the grandmaster identity, bytes
0 to 3 and 4 to 7, the grandmaster's data that the best master clock algorithm compares, and whether the message is of a
supported kind. -/
structure Announce where
  port : Nat
  ptpDomain : Nat
  gmLo : Nat
  gmHi : Nat
  priority1 : Nat := 128
  clockClass : Nat := 248
  accuracy : Nat := 254
  variance : Nat := 65535
  priority2 : Nat := 128
  stepsRemoved : Nat := 0
  supported : Bool := true
deriving DecidableEq, Repr

/-- A received Pdelay_Req: domain number, source port identity, sequence number and receipt stamp. -/
structure PdelayMsg where
  ptpDomain : Nat
  source : Nat
  sequence : Nat
  receivedNs : Nat
deriving DecidableEq, Repr

end Sys2Proof
end

