-- ==== Sys2Proof/Syntax/Host.lean ====
section
/-! DEFINITION. Operands of the commands that reach the block over the host port, and of the start of the device. -/

namespace Sys2Proof

/-- A submission queue entry (R505). -/
structure Submission where
  unit : Nat
  opcode : Nat
  tag : Nat
  arg0 : Nat
  arg1 : Nat
  arg2 : Nat
deriving DecidableEq, Repr

/-- A transmit ring entry (R506). -/
structure TxEntry where
  length : Nat
  queue : Nat
  last : Bool
  bytes : List Nat
deriving DecidableEq, Repr

/-- What the boot self-tests find: the start-up self-test of the image of slot A and of slot B (R54), where one is started,
and the four tests of R56 in the order known-answer, entropy, LPDDR training, ECC initialisation. -/
structure BootOutcome where
  startA : Bool
  startB : Bool
  katOk : Bool
  entropyOk : Bool
  trainingOk : Bool
  eccOk : Bool
deriving DecidableEq, Repr

/-- A UDP datagram on the management port (R508): its source and destination ports, and its payload. -/
structure Datagram where
  port : Nat := 0
  dest : Nat := 0
  bytes : List Nat := []
deriving DecidableEq, Repr

end Sys2Proof
end

