-- ==== Sys2Proof/Syntax/Can.lean ====
section
/-! DEFINITION. The body of the Reel section CAN (R405) and a received CAN frame as an operand (R388). -/

namespace Sys2Proof

/-- A buffer entry. -/
structure CanBufCfg where
  buffer : Nat := 0
  kind : Nat := 0
  fdf : Bool := false
  brs : Bool := false
  ide : Bool := false
  dlc : Nat := 0
  id : Nat := 0
  signalFirst : Nat := 0
  signals : Nat := 0
  maxAge : Nat := 0
  period : Nat := 0
  phase : Nat := 0
deriving DecidableEq, Repr

/-- A filter entry. -/
structure CanFilter where
  id : Nat := 0
  mask : Nat := 0
  ide : Bool := false
  highPriority : Bool := false
  host : Bool := false
  buffer : Nat := 0xFF
deriving DecidableEq, Repr

/-- A signal entry. -/
structure CanSignal where
  startBit : Nat := 0
  length : Nat := 1
  bigEndian : Bool := false
  signed : Bool := false
  float : Bool := false
  point : Nat := 0
  scale : F32 := 0
  offset : F32 := 0
deriving DecidableEq, Repr

/-- A window entry. -/
structure CanWindow where
  kind : Nat := 0
  startNs : Nat := 0
  lengthNs : Nat := 1
deriving DecidableEq, Repr

/-- A port header with its tables. `matrix` is keyed 64 × cycle count + window. -/
structure CanPortCfg where
  windowCount : Nat := 0
  bufferCount : Nat := 0
  filterCount : Nat := 0
  signalCount : Nat := 0
  /-- BUFFER_OFFSET to MATRIX_OFFSET. -/
  offsets : List Nat := []
  tt : Bool := false
  autoRecover : Bool := false
  tdc : Bool := false
  nbrp : Nat := 1
  ntseg1 : Nat := 2
  ntseg2 : Nat := 1
  nsjw : Nat := 1
  dbrp : Nat := 1
  dtseg1 : Nat := 2
  dtseg2 : Nat := 1
  dsjw : Nat := 1
  tdcOffset : Nat := 0
  cycleTicks : Nat := 0
  cyclePhase : Nat := 0
  refId : Nat := 0
  refIde : Bool := false
  buffers : List CanBufCfg := []
  filters : List CanFilter := []
  signals : List CanSignal := []
  windows : List CanWindow := []
  matrix : List Nat := []
deriving DecidableEq, Repr

/-- CAN (R405): the entry of each port, none for an unused one. -/
structure CanSec where
  /-- PORT_OFFSET of each port. -/
  offsets : List Nat := []
  ports : List (Option CanPortCfg) := [none, none, none, none]
deriving DecidableEq, Repr

/-- A received frame: identifier and format, DLC, the data with byte 0 least significant, and, where the read of the
buffer's configuration or message met an uncorrectable error, its address (R403). -/
structure CanFrame where
  id : Nat
  ide : Bool
  fdf : Bool
  brs : Bool
  esi : Bool
  remote : Bool
  dlc : Nat
  data : Nat
  bufferError : Option Nat
  /-- Nanoseconds from the frame's start-of-frame edge to its end. -/
  ago : Nat
deriving DecidableEq, Repr

end Sys2Proof
end

