-- ==== Sys2Proof/Syntax/Field.lean ====
section
/-! DEFINITION. The bodies of the Reel sections NETWORK, LONG_REACH and STATIONS (R375 to R378), and received
frames as operands (R351, R354, R364). An address is the number whose bytes, least first, are the 16 of the field. -/

namespace Sys2Proof

/-- A point entry of NETWORK (R376). -/
structure NetPoint where
  point : Nat := 0
  quantity : Nat := 1
  object : Nat := 0
deriving DecidableEq, Repr

/-- NETWORK (R375). Lists are by pair. -/
structure NetworkSec where
  portMask : Nat := 0
  modes : List Nat := [0, 0]
  ipv6 : Nat := 0
  udpPort : Nat := 18716
  dscp : Nat := 46
  service : List Nat := [0, 0]
  group : List Nat := [0, 0]
  lifeCheckMs : Nat := 2000
  entryForgetMs : Nat := 400
  pointCount : Nat := 0
  points : List NetPoint := []
deriving DecidableEq, Repr

/-- A port entry of LONG_REACH (R377). -/
structure LrPort where
  used : Bool := false
  powerClass : Nat := 0
  amplitude : Nat := 0
  ipv6 : Bool := false
  addr : Nat := 0
deriving DecidableEq, Repr

/-- LONG_REACH (R377). -/
structure LongReachSec where
  budgetMw : Nat := 0
  ports : List LrPort := []
deriving DecidableEq, Repr

/-- A slot entry of STATIONS (R378). `arg` is POINT, or INITIAL for a setpoint slot. -/
structure SlotCfg where
  slot : Nat := 0
  output : Bool := false
  cls : Nat := 0
  typ : Nat := 0
  outSource : Nat := 0
  arg : Nat := 0
deriving DecidableEq, Repr

/-- A station entry of STATIONS with its slots (R378). `phases` are FAST, MEDIUM, SLOW. -/
structure StationCfg where
  station : Nat := 0
  attach : Nat := 0
  lrPort : Nat := 0
  missLimit : Nat := 1
  keyId : Nat := 0
  address : Nat := 0
  mac : MacAddr := 0
  holdMs : Nat := 1
  phases : List Nat := [0, 0, 0]
  launchNs : Nat := 0
  slotFirst : Nat := 0
  slotCount : Nat := 0
  slots : List SlotCfg := []
deriving DecidableEq, Repr

/-- STATIONS (R378). -/
structure StationsSec where
  stationCount : Nat := 0
  slotCount : Nat := 0
  slotOffset : Nat := 0
  stations : List StationCfg := []
deriving DecidableEq, Repr

/-- What a received frame is, as far as R351 and R354 ask: a PTP message; a PRP supervision frame of a node; a UDP
datagram without VLAN tag, IPv4 option, IPv6 extension header or fragmentation, whose checksum is right or, over
IPv4, 0, with its UDP port and its destination and source addresses; anything else. -/
inductive RxKind where
  | ptp
  | supervision (node : MacAddr)
  | datagram (udpPort dst src : Nat)
  | unsupported
deriving DecidableEq, Repr

/-- A redundancy control trailer: its sequence number, and LAN identifier B (R352). -/
structure RctTrailer where
  sequence : Nat
  lanB : Bool
deriving DecidableEq, Repr

/-- A frame received on a port: backbone 0 to 3, or 8 + l for long-reach port l. -/
structure RxFrame where
  port : Nat
  source : MacAddr
  dest : MacAddr := 0
  kind : RxKind
  trailer : Option RctTrailer
deriving DecidableEq, Repr

/-- One entry of a station frame's body (R364). -/
structure SlotEntry where
  slot : Nat
  typ : Nat
  quality : Nat
  value : Word
deriving DecidableEq, Repr

/-- A station frame as STN takes it from a port (R364, R365): the port, the datagram's source address, the bytes of its
payload; and the address of an uncorrectable error met in the station's context, if any (R373). -/
structure InputFrame where
  port : Nat
  address : Nat
  payload : List Nat
  contextError : Option Nat := none
deriving DecidableEq, Repr

end Sys2Proof
end

