-- ==== Sys2Proof/Syntax/Logic.lean ====
section
/-! DEFINITION. The body of the Reel section LOGIC (R248, R259, R260). -/

namespace Sys2Proof

/-- A Carousel task (R260). -/
structure TaskCfg where
  task : Nat := 0
  first : Nat := 0
  len : Nat := 1
  slots : Nat := 0
deriving DecidableEq, Repr

/-- A timer declaration (R260). -/
structure TimerCfg where
  key : Nat := 1
  preset : Nat := 0
  kind : Nat := 0
deriving DecidableEq, Repr

/-- A counter declaration (R260). -/
structure CounterCfg where
  key : Nat := 1
  pv : Nat := 0
  down : Bool := false
deriving DecidableEq, Repr

/-- LOGIC (R259): instructions as their words, constants with their TYPE, edge keys, initial flags. -/
structure LogicSec where
  instrCount : Nat := 0
  taskCount : Nat := 0
  constCount : Nat := 0
  timerCount : Nat := 0
  counterCount : Nat := 0
  edgeCount : Nat := 0
  flagCount : Nat := 0
  /-- TASK_OFFSET to FLAG_INIT_OFFSET. -/
  offsets : List Nat := []
  tasks : List TaskCfg := []
  instrs : List Word := []
  consts : List (Word × Nat) := []
  timers : List TimerCfg := []
  counters : List CounterCfg := []
  edges : List Nat := []
  flagInit : List Bool := []
  scratchCount : Nat := 0
deriving DecidableEq, Repr

end Sys2Proof
end

