-- ==== Sys2Proof/Syntax/Loops.lean ====
section
/-! DEFINITION. The body of the Reel section LOOPS (R217 to R219, R227, R233, R235). -/

namespace Sys2Proof

/-- A loop entry (R218) with its 64 parameters (R219). -/
structure LoopCfg where
  loop : Nat := 0
  form : Nat := 0
  rateExp : Nat := 0
  phase : Nat := 0
  comp : Nat := 0
  fallback : Nat := 0
  reverse : Bool := false
  onQuestionable : Bool := false
  onAbsent : Bool := false
  spFromPoint : Bool := false
  repLength : Nat := 0
  pvPoint : Nat := 0
  spPoint : Nat := 0
  ffPoint : Option Nat := none
  posPoint : Option Nat := none
  outPoint : Nat := 0
  tableIndex : Option Nat := none
  statusPoint : Option Nat := none
  repLead : Nat := 0
  params : List F32 := []
deriving DecidableEq, Repr

/-- An injection profile (R233). -/
structure Profile where
  shape : Nat := 0
  injectAt : Nat := 0
  amplitude : F32 := 0
  period : Nat := 0
  duration : Nat := 1
  seed : Nat := 0
deriving DecidableEq, Repr

/-- A capture descriptor (R235): per signal, the loop and the code, bits 9:0 and 15:12 of its word. -/
structure CaptureCfg where
  rateExp : Nat := 0
  trigger : Nat := 0
  preSamples : Nat := 0
  samples : Nat := 1
  trigPoint : Nat := 0
  trigLevel : F32 := 0
  signals : List (Nat × Nat) := []
deriving DecidableEq, Repr

/-- LOOPS (R217): the two totals of its header, and its tables; a position pair is its opening and closing table. -/
structure LoopsSec where
  loopCount : Nat := 0
  profileCount : Nat := 0
  captureCount : Nat := 0
  tableCount : Nat := 0
  /-- LOOP_OFFSET to CAPTURE_OFFSET. -/
  offsets : List Nat := []
  worstCycles : Nat := 0
  maxDue : Nat := 0
  loops : List LoopCfg := []
  tables : List (List F32 × List F32) := []
  profiles : List Profile := []
  captures : List CaptureCfg := []
deriving DecidableEq, Repr

end Sys2Proof
end

