-- ==== Sys2Proof/Syntax/Mem.lean ====
section
/-! DEFINITION. What a read of a protected word finds (R435, R438), and whose data an uncorrectable error is (R439). -/

namespace Sys2Proof

/-- The data that an uncorrectable error lies in, by the rows of R439. -/
inductive MemOwner where
  | loop (l : Nat)
  | carousel (t : Nat)
  | collector | recorder | clapper
  | meter (m : Nat)
  /-- A voltage channel's (false) or a current channel's configuration, and the analysis memory of a voltage set (R287). -/
  | meterChannel (current : Bool) (c : Nat)
  | window (set : Nat)
  | calculator (k : Nat)
  /-- A billing register: one of its copies, or both (R305). -/
  | accumulator (reg : Nat) (both : Bool)
  | station (n : Nat)
  | canBuffer (c b : Nat)
  | canPort (c : Nat)
  | key (id : Nat)
  | epochCopy | elapsedSeconds
  | point (i : Nat) (entry : Bool)
  /-- What a cluster reads in a round (R182), and what ASM reads (R158). -/
  | cluster (c : Nat)
  | assembly (inData : Bool)
  | hostRing (r : Nat)
  /-- A record of the volatile ring, by its number, and a 1 KiB sector of the persistent ring, by its number (R467). -/
  | volatileRecord (seq : Nat)
  | persistentSector (n : Nat)
  /-- Data of another unit. -/
  | unit (u : Nat)
deriving DecidableEq, Repr

/-- A read that finds an uncorrectable error (R438): whose data it was, the memory, and the memory-local byte address of
the protected word. -/
structure ReadError where
  owner : MemOwner
  memory : Nat
  address : Nat
deriving DecidableEq, Repr

/-- What the code of a word shows: nothing; a correctable error, with the bits corrected in a flash sector and whether
the spare area still has a block (R443); an uncorrectable one. -/
inductive ScrubFinding where
  | clean
  | correctable (bits : Nat) (spareLeft : Bool)
  | uncorrectable (owner : MemOwner)
deriving DecidableEq, Repr

end Sys2Proof
end

