-- ==== Sys2Proof/Syntax/Metro.lean ====
section
/-! DEFINITION. The bodies of the Reel sections METROLOGY and METERING (R270 to R272, R284, R296, R312), and the data of
a closed measuring window as an operand. -/

namespace Sys2Proof

/-- A voltage channel entry (R271). -/
structure VoltCfg where
  used : Bool := false
  ratio : F32 := 0
  gain : F32 := 0
  offset : F32 := 0
deriving DecidableEq, Repr

/-- A current channel entry (R271). -/
structure CurrCfg where
  sensor : Nat := 0
  voltChannel : Nat := 0
  phaseDelay : Int := 0
  ratio : F32 := 0
  iGain : F32 := 0
  iOffset : F32 := 0
  pGain : F32 := 0
  pOffset : F32 := 0
  qGain : F32 := 0
  qOffset : F32 := 0
deriving DecidableEq, Repr

/-- A meter entry (R271): the elements are its current channels. -/
structure MeterCfg where
  meter : Nat := 0
  wiring : Nat := 1
  voltageSet : Nat := 0
  elements : List Nat := []
deriving DecidableEq, Repr

/-- The electrical part of METROLOGY (R271). -/
structure ElecMetro where
  meterCount : Nat := 0
  nominalHz : Nat := 50
  grouping : Nat := 0
  nominalV : F32 := 0
  noload : F32 := 0
  vloss : F32 := 0
  volts : List VoltCfg := []
  currents : List CurrCfg := []
  meters : List MeterCfg := []
deriving DecidableEq, Repr

/-- A calculator entry (R296). -/
structure CalcCfg where
  number : Nat := 0
  mode : Nat := 0
  flowKind : Nat := 1
  install : Nat := 0
  rtdForward : Nat := 0
  rtdReturn : Nat := 1
  flowPoint : Nat := 0
  directionPoint : Option Nat := none
  volumePerPulse : F32 := 0
  flowCutoff : F32 := 0
  pressure : F32 := 0
  dtCutoff : F32 := 0
  switchTemp : F32 := 0
  tFwdOffset : F32 := 0
  tRetOffset : F32 := 0
  tariffSource : Nat := 0
  tariffPoint : Option Nat := none
  returnLimit : F32 := 0
deriving DecidableEq, Repr

/-- The thermal part of METROLOGY (R296). -/
structure ThermMetro where
  calcCount : Nat := 0
  batThreshold : F32 := 0
  calcs : List CalcCfg := []
deriving DecidableEq, Repr

/-- METROLOGY (R270). -/
structure MetrologySec where
  /-- ELEC_OFFSET and THERMAL_OFFSET. -/
  elecAt : Nat := 0
  thermAt : Nat := 0
  /-- SHA-384 of the body, as twelve words (R70). -/
  hash : List Nat := []
  elec : Option ElecMetro := none
  therm : Option ThermMetro := none
deriving DecidableEq, Repr

/-- A point entry of METERING (R284, R312): `order` is the harmonic order, or the tariff. -/
structure MeterPoint where
  point : Nat := 0
  quantity : Nat := 0
  object : Nat := 0
  order : Nat := 0
deriving DecidableEq, Repr

/-- A part of METERING (R284, R312): DEMAND_MIN or INTERVAL_MIN, INTERVAL_EXPORT, SAVE_MIN, and the points. -/
structure MeterPart where
  intervalMin : Nat := 1
  export_ : Bool := false
  saveMin : Nat := 15
  entryCount : Nat := 0
  points : List MeterPoint := []
deriving DecidableEq, Repr

/-- METERING (R270). -/
structure MeteringSec where
  /-- ELEC_OFFSET and THERMAL_OFFSET. -/
  elecAt : Nat := 0
  thermAt : Nat := 0
  elec : Option MeterPart := none
  therm : Option MeterPart := none
deriving DecidableEq, Repr

/-- What a window brings of one channel: its readings in steps of the 24-bit code, before clipping, in the order of the
samples and with PHASE_DELAY applied (R268, R273); the fundamental's RMS phasor in input volts; the bins C(k) in input volts,
and the phases φ_h in degrees (R281). -/
structure ChannelWindow where
  readings : List Int := []
  re : F64 := 0
  im : F64 := 0
  bins : List F64 := []
  phases : List F64 := []
  /-- Whole cycles between the first and the last positive-going zero crossing, and their time in CLK_AFE cycles. -/
  cycles : Nat := 0
  span : Nat := 1
deriving DecidableEq, Repr

/-- A memory error that BOE meets (R287): 0 meter, 1 voltage channel, 2 current channel, 3 analysis memory of the set. -/
structure BoeError where
  kind : Nat
  index : Nat
  addr : Nat
deriving DecidableEq, Repr

/-- The data of a window of one voltage set: its length in samples, its three voltage channels, and the current
channels of its meters by number. -/
structure WindowData where
  set : Nat
  samples : Nat
  volts : List ChannelWindow := []
  currents : List (Nat × ChannelWindow) := []
  errors : List BoeError := []
deriving DecidableEq, Repr

end Sys2Proof
end

