-- ==== Sys2Proof/Syntax/Model.lean ====
section
/-! DEFINITION. The bodies of the Reel sections MODEL, STENCILS, STORYBOARD and SOLVER (R139 to R149, R162 to R165,
R190, R191). -/

namespace Sys2Proof

/-- An entity record (R140). -/
structure EntityCfg where
  id : Nat := 1
  kind : Nat := 11
  vars : Nat := 1
  cons : Nat := 0
  firstRow : Nat := 0
  paramFirst : Nat := 0
  paramCount : Nat := 0
  inputFirst : Nat := 0
  inputCount : Nat := 0
deriving DecidableEq, Repr

/-- An input record (R143). -/
structure InputCfg where
  point : Nat := 0
  policy : Nat := 0
  onQuestionable : Bool := false
  onAbsent : Bool := false
  holdRounds : Nat := 0
  dflt : F32 := 0
  planRow : Nat := 0
deriving DecidableEq, Repr

/-- MODEL (R139, R142): signs hold true for a primal row. -/
structure ModelSec where
  horizon : Nat := 1
  stepTicks : Nat := 2000
  rowCount : Nat := 1
  primalCount : Nat := 1
  substLimit : Nat := 0
  slotCount : Nat := 1
  entityCount : Nat := 1
  inputCount : Nat := 0
  paramCount : Nat := 0
  /-- ENTITY_OFFSET to ROWIDX_OFFSET. -/
  offsets : List Nat := []
  /-- SHA-384 of the sign bitmap, column pointers and row indices as stored (R162), as twelve words. -/
  patternHash : List Nat := []
  entities : List EntityCfg := []
  inputs : List InputCfg := []
  params : List F32 := []
  signs : List Bool := []
  colPtr : List Nat := []
  rowIdx : List Nat := []
deriving DecidableEq, Repr

/-- A stencil entry (R145): target and operands as class or kind with index. -/
structure StencilCfg where
  targetClass : Nat := 0
  target : Nat := 0
  kernel : Nat := 0
  accumulate : Bool := false
  rep : Nat := 1
  targetStride : Nat := 0
  a : Nat × Nat := (0, 0)
  b : Nat × Nat := (0, 0)
  c : Nat × Nat := (0, 0)
  k : F32 := 0
  planStride : Nat := 0
deriving DecidableEq, Repr

/-- STENCILS (R145). -/
structure StencilsSec where
  entryCount : Nat := 1
  constCount : Nat := 0
  evalCount : Nat := 1
  scratchCount : Nat := 0
  consts : List F64 := []
  entries : List StencilCfg := []
deriving DecidableEq, Repr

/-- A supernode record (R163). -/
structure SupernodeCfg where
  first : Nat := 0
  width : Nat := 1
  height : Nat := 1
  snrowFirst : Nat := 0
  factorOffset : Nat := 0
  parent : Option Nat := none
  home : Nat := 0
  sramAddr : Nat := 0
deriving DecidableEq, Repr

/-- An operation record (R165). -/
structure StoryOp where
  opcode : Nat := 8
  cluster : Nat := 0
  tileFirst : Nat := 0
  tileCount : Nat := 0
  target : Nat := 0
  source : Nat := 0
  count : Nat := 0
  srcRow : Nat := 0
  srcCol : Nat := 0
  arg : Nat := 0
  stream : Bool := false
  joined : Bool := false
  peer : Nat := 0
  cycles : Nat := 0
deriving DecidableEq, Repr

/-- STORYBOARD (R162): barriers as participants and arrivals; segments as first operation, count and predicted
cycles; PATTERN_HASH as twelve words; PERM_OFFSET to OP_OFFSET. -/
structure StorySec where
  rowCount : Nat := 1
  supernodeCount : Nat := 1
  opCount : Nat := 1
  snrowCount : Nat := 0
  barrierCount : Nat := 0
  offsets : List Nat := []
  factorEntries : Nat := 1
  clusterMask : Nat := 0
  refineSteps : Nat := 0
  iterTicks : Nat := 0
  factorFlop : Nat := 0
  patternHash : List Nat := []
  perm : List Nat := []
  supernodes : List SupernodeCfg := []
  snrows : List Nat := []
  barriers : List (Nat × Nat) := []
  ops : List StoryOp := []
  segments : List (Nat × Nat × Nat) := []
deriving DecidableEq, Repr

/-- A setpoint map entry (R191). -/
structure SetpointCfg where
  row : Nat := 0
  kind : Nat := 1
  convert : Nat := 0
  target : Nat := 0
deriving DecidableEq, Repr

/-- SOLVER (R190, R191). -/
structure SolverSec where
  period : Nat := 2000
  phase : Nat := 0
  deadline : Nat := 0
  maxIter : Nat := 40
  refineMax : Nat := 3
  terminal : Nat := 0
  startGuard : Bool := true
  pivotTau : F32 := 0
  refineTol : F32 := 0
  feasGate : F32 := 0
  primalTol : F32 := 0
  dualTol : F32 := 0
  gapTol : F32 := 0
  sigma : F32 := 0
  stepFraction : F32 := 0
  alphaMin : F32 := 0
  mu0 : F32 := 0
  push : F32 := 0
  setpointCount : Nat := 0
  /-- INITIAL_OFFSET, RATE_OFFSET, SETPOINT_OFFSET. -/
  offsets : List Nat := []
  initial : List F64 := []
  rates : List Bool := []
  setpoints : List SetpointCfg := []
deriving DecidableEq, Repr

end Sys2Proof
end

