-- ==== Sys2Proof/Syntax/Sec.lean ====
section
/-! DEFINITION. SECURITY (R493), and a command of SEC. -/

namespace Sys2Proof

/-- SECURITY (R493). -/
structure SecuritySec where
  certifiedMode : Bool := false
  tamperAction : Nat := 0
  idleS : Nat := 300
  maxS : Nat := 28800
  lockoutFails : Nat := 5
  lockoutS : Nat := 300
  mgmtRoles : Nat := 0x0F
deriving DecidableEq, Repr

/-- A SEC command with its arguments. -/
structure SecCall where
  opcode : Nat := 0
  a0 : Nat := 0
  a1 : Nat := 0
  a2 : Nat := 0
  /-- The mailbox words, or those of the management message. -/
  input : List Nat := []
  caller : Caller
deriving DecidableEq, Repr

end Sys2Proof
end

