-- ==== Sys2Proof/Syntax/Spot.lean ====
section
/-! DEFINITION. SPOTLIGHT (R411) and the operands of the commands that reach SPOT: the Ringmaster's inputs, and the
mirror's frames with their records (R422, R423). -/

namespace Sys2Proof

/-- SPOTLIGHT (R411). -/
structure SpotlightSec where
  witness : Bool := false
  preferredB : Bool := false
  mismatchLimit : Nat := 8
  missLimit : Nat := 8
  healthMask : Nat := 0x00FFC7FF
  pairKeyId : Nat := 0
  stepLimitNs : Nat := 2000
  startWindowMs : Nat := 5000
deriving DecidableEq, Repr

/-- What the Ringmaster sees of one side at a decision (R413, R418): the nanoseconds since the last edge of its BEAT, its
READY and AIR levels, and for how many milliseconds READY has been high. -/
structure SideInputs where
  beatNs : Nat
  ready : Bool
  air : Bool
  readyMs : Nat
deriving DecidableEq, Repr

/-- One staged write of a Take: tunable ID, TYPE, value (R86). -/
structure TakeWrite where
  id : Nat
  typ : Nat
  value : Word
deriving DecidableEq, Repr

/-- How an entry of the Splice log stands (R91, R98). -/
inductive LogMark where
  | marked | unmarked | filler | unreadable
deriving DecidableEq, Repr

/-- One entry of the Splice log (R97), `length` bytes with its mark. -/
structure LogEntry where
  takeId : Nat
  writes : List TakeWrite
  role : Nat
  mirrored : Bool
  stamp : Nat
  principal : Nat
  length : Nat
  mark : LogMark
  /-- CHAIN of the commit mark, 48 bytes. -/
  chain : List Nat := []
deriving DecidableEq, Repr

/-- A plan with its header (R192, R207). -/
structure Plan where
  round : Nat := 0
  status : Nat := 0
  cause : Nat := 13
  iterations : Nat := 0
  advance : Nat := 0
  planStart : Nat := 0
  sourceRound : Nat := 0
  stamp : Nat := 0
  publishTick : Nat := 0
  thetaP : F64 := 0
  thetaD : F64 := 0
  mu : F64 := 0
  perturbed : Nat := 0
  wrongSign : Nat := 0
  values : List (Nat × F64) := []
deriving DecidableEq, Repr

/-- LOOP_STATE (R423). -/
structure LoopRec where
  loop : Nat
  resume : Bool := false
  closing : Bool := false
  injecting : Bool := false
  index : Nat := 0
  e1 : F64 := 0
  e2 : F64 := 0
  e3 : F64 := 0
  u1 : F64 := 0
  u2 : F64 := 0
  u3 : F64 := 0
  yPrev : F64 := 0
  posPrev : F64 := 0
  sample : F32 := 0
  made : Nat := 0
  reg : Nat := 0
deriving DecidableEq, Repr

/-- An item of CAR_SCAN, with its index, or of CAR_KEYED, with its KEY (R423): kind 0 point, 1 flag, 2 scratch,
3 timer, 4 counter, 5 edge; value; state bits Q, RUNNING, LAST_IN, lowest first; and KIND or DIRECTION. -/
structure CarItem where
  kind : Nat
  index : Nat
  value : Nat := 0
  bits : Nat := 0
  variety : Nat := 0
deriving DecidableEq, Repr

/-- CAR_SCAN (R423). -/
structure CarScan where
  task : Nat
  items : List CarItem
deriving DecidableEq, Repr

/-- One sample of LIO_SAMPLES (R423). -/
structure LioSample where
  channel : Nat
  reason : Nat := 0
  value : Word := 0
  stamp : Nat := 0
deriving DecidableEq, Repr

/-- ROUND (R423). -/
structure RoundRec where
  round : Nat
  status : Nat := 0
  cause : Nat := 0
  planStart : Nat := 0
  crc : Nat := 0
deriving DecidableEq, Repr

/-- CURTAIN (R423). -/
structure CurtainRec where
  publishedRound : Nat := 0
  roundNumber : Nat := 0
  nextSequence : Nat := 0
  nextTakeId : Nat := 0
  t1 : Nat := 0
  t3 : Nat := 0
  t4 : Nat := 0
  /-- REEL_HASH bytes 0 to 7 as two words. -/
  reelHash : List Nat := []
  handover : Bool := false
  quality : Nat := 0
  health : Nat := 0
deriving DecidableEq, Repr

/-- The data of a BULK record (R420): a loop's state, and its repetitive samples from an index on; Carousel items; an
exchange number; a ring's index; the plan's header, and its values from a row on; an entry of the Splice log; the end. -/
inductive BulkItem where
  | loop (r : LoopRec)
  | samples (l first : Nat) (v : List F32)
  | car (items : List CarItem)
  | exchange (station number : Nat)
  | ringIndex (ring index : Nat)
  | plan (p : Plan)
  | planValues (first : Nat) (v : List F64)
  | takeEntry (e : LogEntry)
  | done
deriving DecidableEq, Repr
/-- A record of a DELTA frame (R423). -/
inductive MirrorRecord where
  | curtain (c : CurtainRec)
  | takeApply (id : Nat)
  | takeEntry (e : LogEntry)
  | loop (r : LoopRec)
  | scan (x : CarScan)
  | keyed (i : CarItem)
  | lio (l : List LioSample)
  | exchange (station number : Nat)
  | ringIndex (ring index : Nat)
  | round (r : RoundRec)
  | point (i : Nat) (p : PointVal)
  | command (unit op a0 a1 a2 : Nat)
  | bulk (b : BulkItem)
deriving DecidableEq, Repr
/-- A DELTA frame (R422): FRAME, FRAME_COUNT, TICK, SENDER and EPOCH of its header, its records, and its tag. -/
structure MirrorFrame where
  index : Nat
  count : Nat
  tick : Nat
  sender : Nat
  epoch : Nat
  records : List MirrorRecord
  tag : List Nat
deriving DecidableEq, Repr

/-- The delta of one tick (R422 to R424): what the headers carry, and the records in their order. `rxNs` is t2, and
`lastBulk` tells that the last BULK item has arrived with it. -/
structure MirrorDelta where
  tick : Nat := 0
  sender : Nat := 0
  epoch : Nat := 0
  rxNs : Nat := 0
  curtain : CurtainRec := {}
  takeApply : Option Nat := none
  round : Option RoundRec := none
  takeEntries : List LogEntry := []
  loops : List LoopRec := []
  scans : List CarScan := []
  keyed : List CarItem := []
  lio : List LioSample := []
  exchanges : List (Nat × Nat) := []
  rings : List (Nat × Nat) := []
  points : List (Nat × PointVal) := []
  commands : List (Nat × Nat × Nat × Nat × Nat) := []
  bulk : List BulkItem := []
  lastBulk : Bool := false
deriving DecidableEq, Repr

/-- A RETURN frame (R422, R423): COUNT and TICK of its header, its STATUS or TAKE_DURABLE record, and its tag. -/
structure ReturnFrame where
  count : Nat := 0
  tick : Nat := 0
  standInState : Nat := 0
  health : Nat := 0
  ready : Bool := false
  mismatches : Nat := 0
  t2 : Nat := 0
  /-- Launch stamp of the frame on the sender (R421). -/
  t3 : Nat := 0
  takeDurable : Option Nat := none
  tag : List Nat := []
deriving DecidableEq, Repr

/-- JOIN_REQUEST (R420, R423), with COUNT, TICK, the serial number and the epoch of its frame's header, and its tag. -/
structure JoinRequest where
  count : Nat := 0
  tick : Nat := 0
  tag : List Nat := []
  sender : Nat := 0
  epoch : Nat := 0
  reelHash : List Nat := []
  nextTakeId : Nat := 0
  /-- Both Reels' STORYBOARD sections have the same PATTERN_HASH (R431). -/
  samePattern : Bool := true
deriving DecidableEq, Repr

end Sys2Proof
end

