-- ==== Sys2Proof/Syntax/Start.lean ====
section
/-! DEFINITION. The bodies of the Reel sections START, POWER, RECORDER, HOST, CALL_SHEET, SAFE_VALUES, TIME, POINTS, LOCAL_IO
and TUNABLES, field by field as R33 to R35, R69, R82, R125, R127, R134, R344, R470, R512 and R526 give them. -/

namespace Sys2Proof

/-- START (R69). -/
structure StartSec where
  startMode : Nat := 0
  timePolicy : Nat := 0
  lockDomain : Nat := 0
  lockWaitS : Nat := 1
deriving DecidableEq, Repr

/-- POWER (R526). -/
structure PowerSec where
  domainEnable : Nat := 0x800F
  idleGating : Nat := 0
  crossCompat : Nat := 0
  crossTimeoutUs : Nat := 250
  supplyMode : Nat := 1
deriving DecidableEq, Repr

/-- An entry of RECORDER (R470). -/
structure RateEntry where
  code : Nat := 0
  rate : Nat := 1
  burst : Nat := 1
deriving DecidableEq, Repr

/-- RECORDER (R470). -/
structure RecorderSec where
  flushS : Nat := 60
  entries : List RateEntry := []
deriving DecidableEq, Repr

/-- HOST (R512). An address is the number whose bytes, least first, are the 16 of the field. -/
structure HostSec where
  mgmtEnable : Nat := 0
  ipv6 : Nat := 0
  prefixLen : Nat := 1
  mgmtPort : Nat := 18717
  address : Nat := 1
  gateway : Nat := 0
deriving DecidableEq, Repr

/-- One unit entry of the Call sheet (R34). -/
structure UnitEntry where
  unit : Nat := 0
  flags : Nat := 0
  limit : Nat := 0
  maxEntries : Nat := 0
  startCycle : Nat := 0
  budgetCycles : Nat := 0
  safeSet : Nat := 0xFFFFFFFF
deriving DecidableEq, Repr

/-- One work entry of the Call sheet (R35). -/
structure WorkEntry where
  unit : Nat := 0
  work : Nat := 0
  flags : Nat := 0
  period : Nat := 1
  phase : Nat := 0
  slice : Nat := 0
deriving DecidableEq, Repr

/-- CALL_SHEET (R33). -/
structure CallSheet where
  version : Nat := 1
  unitEntryCount : Nat := 24
  curtainUs : Nat := 100
  overrunLimit : Nat := 3
  outputCycles : Nat := 0
  units : List UnitEntry := []
  works : List WorkEntry := []
deriving DecidableEq, Repr

/-- A directory entry of SAFE_VALUES (R127). -/
structure SafeSet where
  first : Nat := 0
  count : Nat := 1
deriving DecidableEq, Repr

/-- SAFE_VALUES (R127): its directory, ENTRY_COUNT, and its value entries, point and value. -/
structure SafeSec where
  sets : List SafeSet := []
  entryCount : Nat := 0
  entries : List (Nat × Word) := []
deriving DecidableEq, Repr

/-- One domain entry of TIME (R344). -/
structure TimeDomain where
  enabled : Bool := false
  ptpDomain : Nat := 0
  portPair : Nat := 0
  servo : Nat := 0
  stepMode : Nat := 1
  lockNs : Nat := 250
  jumpNs : Nat := 10000
  lockCount : Nat := 8
  syncTimeoutMs : Nat := 3000
  kp : F32 := 0
  ki : F32 := 0
  stepNs : Nat := 100000
deriving DecidableEq, Repr

/-- TIME (R344): PRIORITY of four entries, four domains, seventeen port adjustments (RX, TX). -/
structure TimeSec where
  priority : List Nat := [0, 0, 0, 0]
  slewPpm : Nat := 100
  alignNs : Nat := 100
  holdoverS : Nat := 3600
  revertS : Nat := 60
  domains : List TimeDomain := []
  ports : List (Int × Int) := []
deriving DecidableEq, Repr

/-- One entry of POINTS (R125). -/
structure PointCfg where
  index : Nat := 0
  typ : Nat := 0
  source : Nat := 0xFF
  rangeAction : Nat := 0
  filter : Nat := 0
  filterParam : Nat := 0
  timeout : Nat := 0
  lo : Word := 0
  hi : Word := 0
  maxRate : F32 := 0
  initial : Word := 0
deriving DecidableEq, Repr

/-- One channel entry of LOCAL_IO (R134). -/
structure LioChannel where
  mode : Nat := 0
  debounceUs : Nat := 0
  point : Nat := 0
  scale : F32 := 0
  offset : F32 := 0
deriving DecidableEq, Repr

/-- One entry of TUNABLES (R82). -/
structure Tunable where
  id : Nat := 0
  cls : Nat := 0
  typ : Nat := 0
  kind : Nat := 0
  lsb : Nat := 0
  width : Nat := 0
  target : Nat := 0
  min : Word := 0
  max : Word := 0
  maxStep : Word := 0
deriving DecidableEq, Repr

/-- TUNABLES (R82). -/
structure TunablesSec where
  count : Nat := 0
  defaultLifetime : Nat := 10
  entries : List Tunable := []
deriving DecidableEq, Repr

end Sys2Proof
end

