-- ==== Sys2Proof/Syntax/Reel.lean ====
section
/-! DEFINITION. The Reel card (R57, R59) and the Reel (R61 to R65): the bytes that the loader reads, and the sections
that it reads from them. -/

namespace Sys2Proof

/-- A GPT as the card holds it: its header block, and its partition entries. -/
structure GptCopy where
  header : List Nat := []
  entries : List (List Nat) := []
deriving DecidableEq, Repr

/-- The card as identification finds it (R57, R59): its capacity class, 0 SDSC, 1 SDHC, 2 SDXC or 3 SDUC, the bus modes
that it offers, and its two GPTs. -/
structure CardInfo where
  present : Bool := true
  readError : Option Nat := none
  capacityClass : Nat := 1
  sdr50 : Bool := true
  highSpeed : Bool := true
  primary : GptCopy := {}
  backup : GptCopy := {}
  /-- The first domain that step 11 switches on and that is not ready within its wake time (R525). -/
  wakeFailed : Option Nat := none
deriving DecidableEq, Repr

/-- A Reel as its partition holds it: the 256 bytes of the header, the bytes from 256 on that hold the section table, and
for each table entry the stored bytes from its OFFSET on. -/
structure ReelImage where
  header : List Nat := []
  table : List Nat := []
  stored : List (List Nat) := []
deriving DecidableEq, Repr

/-- The header (R61). -/
structure ReelHeader where
  magic : Nat := 0
  formatMajor : Nat := 0
  formatMinor : Nat := 0
  totalLength : Nat := 0
  sectionCount : Nat := 0
  flags : Nat := 0
  requiredUnits : Nat := 0
  requiredClusters : Nat := 0
  requiredPorts : Nat := 0
  reserved : Nat := 0
  buildNumber : Nat := 0
  serial : Nat := 0
  engKeyId : Nat := 0
  reelKeyId : Nat := 0
  salt : List Nat := []
  label : List Nat := []
  compiler : List Nat := []
  signature : List Nat := []
deriving DecidableEq, Repr

/-- One section table entry (R62). `aad` are its bytes 0 to 31 (R66). -/
structure SectionEntry where
  typ : Nat := 0
  bodyVersion : Nat := 1
  flags : Nat := 0
  offset : Nat := 0
  length : Nat := 0
  plainLength : Nat := 0
  hash : List Nat := []
  aad : List Nat := []
deriving DecidableEq, Repr

/-- METROLOGY_SEAL (R70), its METRO_HASH as twelve words. -/
structure SealSec where
  keyId : Nat := 0
  hash : List Nat := []
  signature : List Nat := []
deriving DecidableEq, Repr

/-- A Reel. A section that is absent is `none`. -/
structure Reel where
  header : ReelHeader := {}
  /-- REEL_HASH as twelve words, first word first (R64). -/
  hash : List Nat := []
  table : List SectionEntry := []
  /-- By section TYPE, the body offset of the lowest byte that breaks the layout: a byte missing, a reserved byte or a
  reserved bit that is not 0, an offset field that breaks its rule. -/
  breaches : List (Nat × Nat) := []
  start : StartSec := {}
  sheet : CallSheet := {}
  safe : SafeSec := {}
  time : TimeSec := {}
  points : List PointCfg := []
  /-- COUNT of POINTS. -/
  pointCount : Nat := 0
  localIo : Option (List LioChannel) := none
  tunables : Option TunablesSec := none
  metroSeal : Option SealSec := none
  loops : Option LoopsSec := none
  logic : Option LogicSec := none
  model : Option ModelSec := none
  stencils : Option StencilsSec := none
  story : Option StorySec := none
  solver : Option SolverSec := none
  metrology : Option MetrologySec := none
  metering : Option MeteringSec := none
  network : Option NetworkSec := none
  longReach : Option LongReachSec := none
  stations : Option StationsSec := none
  can : Option CanSec := none
  spotlight : Option SpotlightSec := none
  security : Option SecuritySec := none
  power : PowerSec := {}
  recorder : Option RecorderSec := none
  host : Option HostSec := none
deriving DecidableEq, Repr

end Sys2Proof
end

