-- ==== Sys2Proof/Syntax.lean ====
section
/-! DEFINITION. The commands of the Usberex: one constructor for each row of spec/opcode_table.json, in the table's
order, with the operands that the command or event brings from outside. -/

namespace Sys2Proof

/-- A command or event that reaches the block. -/
inductive Instr where
  /-- X1_GOOD (R52). When the supply monitor reports X1 good, PWR switches on PD1, PD2, PD3 and PD15, the bootstrap counter starts and BOOT is entered. -/
  | x1Good (aMv : Nat) (bMv : Nat) (pd0 : Bool)
  /-- BOOT_SELF_TESTS_DONE (R56). Microcode verification and the boot self-tests end; the device enters LOAD, enters MAINTENANCE on request, or halts. -/
  | bootSelfTestsDone (o : BootOutcome)
  /-- LOAD_DONE (R72). All load steps pass; the Splice log is bound or replayed, Local starts, and the device enters ARMED. -/
  | loadDone (x : ReelImage) (c : CardInfo)
  /-- LOAD_FAILED (R72). A load step fails; the device sets LOAD_ERROR, switches the step-11 domains off again and enters MAINTENANCE. -/
  | loadFailed (x : ReelImage) (c : CardInfo)
  /-- CARD_REMOVED (R60). Removal of the Reel card is recorded, and during LOAD it fails the load with CARD_ERROR. -/
  | cardRemoved
  /-- LOCK_WAIT_EXPIRED (R75). LOCK_WAIT_S expires in ARMED; under WAIT_THEN_FREE it meets the time condition, and under WAIT_LOCK it is only recorded. -/
  | lockWaitExpired
  /-- START_CONDITION_MET (R75). The last start condition is met in ARMED, and tick 0 is scheduled at least 250 µs later. -/
  | startConditionMet (peer : Bool)
  /-- GO_LIVE (R76). Tick 0 starts at the scheduled multiple of 125,000 ns of Local, and the device enters LIVE. -/
  | goLive
  /-- GO (R78). The GO command meets the last start condition under START_MODE HOST. -/
  | go (c : Caller) (a0 : Nat)
  /-- RESTART (R79). The RESTART command releases ON_AIR, de-energises outputs, flushes, switches domains off and enters BOOT. -/
  | restart (c : Caller) (a0 : Nat)
  /-- MAINTENANCE (R78). The MAINTENANCE command restarts the module into MAINTENANCE without reading the card. -/
  | maintenance (c : Caller) (a0 : Nat)
  /-- DISCARD_SPLICE_LOG (R100). In MAINTENANCE, the Splice log is erased and bound to no Reel. -/
  | discardSpliceLog (c : Caller) (a0 : Nat)
  /-- TICK_START (R25). Local crosses a multiple of 125,000 ns; TICK.NUMBER increments, PIMG freezes the snapshot, wired outputs are driven and due work starts. -/
  | tickStart (crossing : Nat) (ue : (List ReadError))
  /-- INJECT_ENDED (R234). An injection reaches DURATION evaluations and ends. -/
  | injectEnded (l : Nat)
  /-- CURTAIN (R38). The collector applies every due staging entry and the committed Take in one step and publishes the point and solution windows. -/
  | curtain
  /-- HEALTH_PERIODIC (R501). Every 8,000 ticks a HEALTH entry is produced on ring 4. -/
  | healthPeriodic
  /-- STAGING_POST (R37). A unit posts a result entry to its staging queue for a given Curtain. -/
  | stagingPost (u : Nat) (cycle : Nat)
  /-- CLEAR_COUNTS (R47). The CLEAR_COUNTS command sets UNIT_OVERRUN_COUNT to 0 for one or all units. -/
  | clearCounts (c : Caller) (a0 : Nat)
  /-- POWER_FAIL_STARTED (R17). X1 falls below 16 V for 50 µs, commands are refused from then on, and the power-fail sequence and recorder flush start. -/
  | powerFailStarted (aMv : Nat) (bMv : Nat) (mw : Nat)
  /-- POWER_FAIL_SHED (R17). At each of four successive tick starts, PWR sheds the next group of power domains. -/
  | powerFailShed
  /-- POWER_FAIL_OFF (R17). Once the recorder and accumulator flushes end, PD2 and PD3 go off, then PD1 and PD15, and the device is OFF. -/
  | powerFailOff
  /-- INPUT_LOST (R521). One X1 input falls below 16 V while the other stays good. -/
  | inputLost (x : Nat) (mv : Nat)
  /-- INPUT_RESTORED (R534). A lost X1 input returns. -/
  | inputRestored (x : Nat) (mv : Nat)
  /-- INPUT_OVERVOLTAGE (R521). An input above 38 V for 1 ms is disconnected until it falls below 36 V. -/
  | inputOvervoltage (x : Nat) (mv : Nat)
  /-- PLL_UNLOCKED (R19). A PLL loses lock; its clock stops and the units it drives become FAILED. -/
  | pllUnlocked (p : Nat)
  /-- PLL_RELOCKED (R19). A PLL locks again; PWR restarts its clock and the crossings deliver what they held. -/
  | pllRelocked (p : Nat)
  /-- REFERENCE_LOST (R19). The 50 MHz reference stops for more than 20 µs; ON_AIR is released and the device enters FAULT_SAFE. -/
  | referenceLost (us : Nat)
  /-- TEMP_HIGH (R528). The base temperature stays at 75 °C or above for 1 s and PWR becomes DEGRADED. -/
  | tempHigh (t : Int)
  /-- TEMP_NORMAL (R528). The base temperature stays below 72 °C for 10 s after TEMP_HIGH. -/
  | tempNormal (t : Int)
  /-- TEMP_FAILED (R528). The base temperature stays at 85 °C or above for 1 s and PWR becomes FAILED. -/
  | tempFailed (t : Int)
  /-- THERMAL_SHUTDOWN (R528). The base temperature stays at 95 °C or above for 100 ms and the power-fail sequence starts. -/
  | thermalShutdown (t : Int)
  /-- OPEN (R84). The OPEN command takes the lowest FREE Take slot and returns a handle. -/
  | open_ (c : Caller) (a0 : Nat)
  /-- STAGE (R86). The STAGE command checks a value against its tunable and claims the tunable in the Take. -/
  | stage (c : Caller) (a0 : Nat) (a1 : Nat) (a2 : Word)
  /-- COMMIT (R90). The COMMIT command issues a Take ID and makes the Take COMMITTING, returning PENDING. -/
  | commit (c : Caller) (a0 : Nat)
  /-- CUT (R89). The CUT command ends an OPEN Take without effect. -/
  | cut (c : Caller) (a0 : Nat)
  /-- READ_TUNABLE (R103). The READ_TUNABLE command returns the value in force for a tunable. -/
  | readTunable (c : Caller) (a0 : Nat) (a1 : Nat)
  /-- TAKE_EXPIRED (R88). An OPEN Take reaches its expiry tick and its slot becomes FREE. -/
  | takeExpired (k : Nat)
  /-- WRITE_AHEAD_TURN (R90). When every lower Take ID is COMMITTED or void, TXN starts writing the Take's entry body to the Splice log. -/
  | writeAheadTurn
  /-- TAKE_BODY_WRITTEN (R90). The entry body write ends; the entry is mirrored to the Stand-in or the mark write starts. -/
  | takeBodyWritten
  /-- TAKE_COMMITTED (R90). The commit mark is written and the Take becomes COMMITTED. -/
  | takeCommitted
  /-- TAKE_VOIDED (R91). A body write that has not ended after 50 ms, or a failed mark write in SOLO, voids the Take. -/
  | takeVoided (readBack : Bool)
  /-- SPLICE_WRITE_FAILED (R91). A mark write fails on a Lead whose Stand-in holds the entry durable, or void-span programming fails. -/
  | spliceWriteFailed
  /-- POINT_SAMPLE (R115). A sample arrives for a point and PIMG conditions it into the live image. -/
  | pointSample (u : Nat) (p : Nat) (v : Word) (stamp : Nat) (ue : (Option (Nat × Bool)))
  /-- POINT_STALE (R119). At a freeze, a point's timeout expires and PIMG sets STALE and clears VALID. -/
  | pointStale (p : Nat)
  /-- ANALOG_INPUT_SAMPLE (R129). At T minus 40 µs, LIO samples every enabled analog input. -/
  | analogInputSample (raws : (List F64))
  /-- SHUNT_OPEN (R128). A current-mode input above 30 mA opens its shunt. -/
  | shuntOpen (c : Nat)
  /-- SHUNT_RECLOSE (R128). An open current shunt recloses after 1,000 ticks. -/
  | shuntReclose (c : Nat)
  /-- RTD_CONVERSION (R131). At the end of an RTD input's slot, LIO converts its reading and delivers it to its point and to BOT. -/
  | rtdConversion (k : Nat) (ohms : F64) (broken : Bool)
  /-- DIGITAL_INPUT_CHANGE (R132). A digital input that holds a new level for DEBOUNCE_US changes state in the live image. -/
  | digitalInputChange (c : Nat) (level : Bool)
  /-- PULSE_TRANSFER (R133). At each T, a pulse counter snapshot crosses by handshake and its delta is added to the point. -/
  | pulseTransfer
  /-- DIGITAL_OUTPUT_OVERCURRENT (R130). A digital output above 1.2 A switches off and sets DO_FAULT. -/
  | digitalOutputOvercurrent (c : Nat) (raw : Word)
  /-- OUTPUT_RETRY (R130). Every 1,000th tick after a switch-off, LIO retries a faulted digital output whose point asks for on. -/
  | outputRetry (c : Nat) (above : Bool)
  /-- ANALOG_OUTPUT_FAULT (R130). An analog output reports an open load or a short. -/
  | analogOutputFault (c : Nat) (raw : Word)
  /-- ROUND_START (R152). At a round's start tick, ASM takes the round snapshot, judges substitution and starts assembly. -/
  | roundStart
  /-- ROUND_ASSEMBLED (R157). ASM ends its ASM_CYCLES and hands the scaled arrays to STB and JUG at the next tick. -/
  | roundAssembled (ue : (Option Nat)) (inData : Bool)
  /-- LOAD_PANEL (R166). Zero a panel and load its pattern slots from ASM's arrays as binary32. -/
  | loadPanel (k : Nat) (ue : Option (Nat × Nat))
  /-- FACTOR (R200). LDLᵀ of a diagonal block under the static pivot rule. -/
  | factor (k : Nat) (ue : Option (Nat × Nat))
  /-- TRSM (R172). Form a supernode's off-diagonal L. -/
  | trsm (k : Nat) (ue : Option (Nat × Nat))
  /-- UPDATE (R172). Subtract a source block contribution from a panel on the same cluster. -/
  | update (k : Nat) (ue : Option (Nat × Nat))
  /-- STB_SEND (R166). Form a block contribution and write it to the exchange buffer for another cluster. -/
  | stbSend (k : Nat) (ue : Option (Nat × Nat))
  /-- EXTEND_ADD (R166). Subtract an exchange buffer from a peer cluster into a panel. -/
  | extendAdd (k : Nat) (ue : Option (Nat × Nat))
  /-- STORE_PANEL (R166). Write a packed panel to the factor store. -/
  | storePanel (k : Nat) (ue : Option (Nat × Nat))
  /-- ARRIVE (R171). Count one arrival at a barrier. -/
  | arrive (k : Nat)
  /-- WAIT (R171). Wait until a barrier is complete. -/
  | wait (k : Nat)
  /-- FWD (R172). Forward substitution with a supernode's columns on vector W. -/
  | fwd (k : Nat) (ue : Option (Nat × Nat))
  /-- DIAG (R166). Divide W by D over a supernode's columns. -/
  | diag (k : Nat) (ue : Option (Nat × Nat))
  /-- BWD (R172). Backward substitution with a supernode's columns on vector W. -/
  | bwd (k : Nat) (ue : Option (Nat × Nat))
  /-- RESID (R198). Compute rhs minus K times v over a slot range in binary64. -/
  | resid (k : Nat) (ue : Option (Nat × Nat))
  /-- BOUND_STEP (R197). VECTOR function that forms the bound steps and α_max. -/
  | boundStep (k : Nat) (ue : Option (Nat × Nat))
  /-- MOVE (R197). VECTOR function that forms the starting iterate or advances the iterate by α. -/
  | move (k : Nat) (ue : Option (Nat × Nat))
  /-- RESIDUALS (R197). VECTOR function that forms or updates r_d and r_p. -/
  | residuals (k : Nat) (ue : Option (Nat × Nat))
  /-- MEASURE (R197). VECTOR function that forms θ_p, θ_d and μ. -/
  | measure (k : Nat) (ue : Option (Nat × Nat))
  /-- PREPARE (R197). VECTOR function that forms σ and the next right-hand side. -/
  | prepare (k : Nat) (ue : Option (Nat × Nat))
  /-- REDUCE (R198). Combine the clusters' partial norms and dot products. -/
  | reduce (k : Nat) (ue : Option (Nat × Nat))
  /-- SEGMENT_RUN_END (R195). A Storyboard segment run ends and the round loop decides convergence, refinement, the next run or the round's end. -/
  | segmentRunEnd (cycles : Nat) (ue : Option (Nat × Nat))
  /-- SEGMENT_STALLED (R177). A segment run reaches 2 × PRED_CYCLES + 156,250 cycles and is stopped. -/
  | segmentStalled
  /-- ROUND_DEADLINE (R179). T(D) falls during a run; STB stops dispatch and the iteration is abandoned. -/
  | roundDeadline (ue : Option (Nat × Nat)) (same : Bool)
  /-- PLAN_WRITTEN (R206). JUG ends writing the plan into the solution window's back buffer and waits for its Curtain. -/
  | planWritten
  /-- CLUSTER_WAKE_FAILED (R180). A cluster not ready by hand-over becomes FAILED. -/
  | clusterWakeFailed (k : Nat)
  /-- INJECT_START (R237). The INJECT_START command starts a test signal on a loop at its next evaluation. -/
  | injectStart (c : Caller) (a0 : Nat) (a1 : Nat)
  /-- INJECT_STOP (R237). The INJECT_STOP command ends a loop's injection. -/
  | injectStop (c : Caller) (a0 : Nat)
  /-- CAPTURE_ARM (R236). The CAPTURE_ARM command moves a capture slot to ARMED. -/
  | captureArm (c : Caller) (a0 : Nat) (a1 : Nat)
  /-- CAPTURE_STOP (R237). The CAPTURE_STOP command stops a capture or its export. -/
  | captureStop (c : Caller) (a0 : Nat)
  /-- REP_CLEAR (R237). The REP_CLEAR command zeroes a loop's repetitive samples and keeps its index. -/
  | repClear (c : Caller) (a0 : Nat)
  /-- NOP (R250). Do nothing. -/
  | carNop (t : Nat) (ue : Option Nat)
  /-- LD (R250). BA := b. -/
  | carLd (t : Nat) (ue : Option Nat)
  /-- LDN (R250). BA := not b. -/
  | carLdn (t : Nat) (ue : Option Nat)
  /-- AND (R250). BA := BA and b. -/
  | carAnd (t : Nat) (ue : Option Nat)
  /-- ANDN (R250). BA := BA and not b. -/
  | carAndn (t : Nat) (ue : Option Nat)
  /-- OR (R250). BA := BA or b. -/
  | carOr (t : Nat) (ue : Option Nat)
  /-- ORN (R250). BA := BA or not b. -/
  | carOrn (t : Nat) (ue : Option Nat)
  /-- XOR (R250). BA := BA xor b. -/
  | carXor (t : Nat) (ue : Option Nat)
  /-- ST (R250). Store BA to a point or flag. -/
  | carSt (t : Nat) (ue : Option Nat)
  /-- STN (R250). Store not BA to a point or flag. -/
  | carStn (t : Nat) (ue : Option Nat)
  /-- SET (R250). If BA, set the target to 1. -/
  | carSet (t : Nat) (ue : Option Nat)
  /-- RST (R250). If BA, set the target to 0. -/
  | carRst (t : Nat) (ue : Option Nat)
  /-- LDQ (R250). BA := a quality bit of a point. -/
  | carLdq (t : Nat) (ue : Option Nat)
  /-- NOT (R250). BA := not BA. -/
  | carNot (t : Nat) (ue : Option Nat)
  /-- TRUE (R250). BA := 1. -/
  | carTrue (t : Nat) (ue : Option Nat)
  /-- PUSH (R250). Push BA onto the branch stack. -/
  | carPush (t : Nat) (ue : Option Nat)
  /-- READ (R250). BA := top of the branch stack. -/
  | carRead (t : Nat) (ue : Option Nat)
  /-- POP (R250). BA := top, then pop. -/
  | carPop (t : Nat) (ue : Option Nat)
  /-- ANDP (R250). BA := BA and top, then pop. -/
  | carAndp (t : Nat) (ue : Option Nat)
  /-- ORP (R250). BA := BA or top, then pop. -/
  | carOrp (t : Nat) (ue : Option Nat)
  /-- RTRIG (R255). Rising-edge detector on BA. -/
  | carRtrig (t : Nat) (ue : Option Nat)
  /-- FTRIG (R255). Falling-edge detector on BA. -/
  | carFtrig (t : Nat) (ue : Option Nat)
  /-- TON (R253). On-delay timer. -/
  | carTon (t : Nat) (ue : Option Nat)
  /-- TOF (R253). Off-delay timer. -/
  | carTof (t : Nat) (ue : Option Nat)
  /-- TP (R253). Pulse timer. -/
  | carTp (t : Nat) (ue : Option Nat)
  /-- CNT (R254). Counter step on a rising edge of BA. -/
  | carCnt (t : Nat) (ue : Option Nat)
  /-- CRST (R254). Counter reset when BA is 1. -/
  | carCrst (t : Nat) (ue : Option Nat)
  /-- LDW (R250). WA := w. -/
  | carLdw (t : Nat) (ue : Option Nat)
  /-- STW (R250). Store WA to a point or scratch word. -/
  | carStw (t : Nat) (ue : Option Nat)
  /-- ADDI (R251). Saturating integer add. -/
  | carAddi (t : Nat) (ue : Option Nat)
  /-- SUBI (R251). Saturating integer subtract. -/
  | carSubi (t : Nat) (ue : Option Nat)
  /-- MULI (R251). Saturating integer multiply. -/
  | carMuli (t : Nat) (ue : Option Nat)
  /-- DIVI (R251). Integer divide truncated toward 0. -/
  | carDivi (t : Nat) (ue : Option Nat)
  /-- ANDW (R250). Bitwise and of WA with w. -/
  | carAndw (t : Nat) (ue : Option Nat)
  /-- ORW (R250). Bitwise or of WA with w. -/
  | carOrw (t : Nat) (ue : Option Nat)
  /-- ADDF (R251). Binary32 add. -/
  | carAddf (t : Nat) (ue : Option Nat)
  /-- SUBF (R251). Binary32 subtract. -/
  | carSubf (t : Nat) (ue : Option Nat)
  /-- MULF (R251). Binary32 multiply. -/
  | carMulf (t : Nat) (ue : Option Nat)
  /-- DIVF (R251). Binary32 divide. -/
  | carDivf (t : Nat) (ue : Option Nat)
  /-- MINF (R251). Binary32 minimum. -/
  | carMinf (t : Nat) (ue : Option Nat)
  /-- MAXF (R251). Binary32 maximum. -/
  | carMaxf (t : Nat) (ue : Option Nat)
  /-- ITOF (R251). Convert int32 to binary32. -/
  | carItof (t : Nat) (ue : Option Nat)
  /-- FTOI (R251). Convert binary32 to int32, rounding half to even and saturating. -/
  | carFtoi (t : Nat) (ue : Option Nat)
  /-- EQI (R250). BA := WA equals w. -/
  | carEqi (t : Nat) (ue : Option Nat)
  /-- LTI (R250). BA := WA less than w, signed. -/
  | carLti (t : Nat) (ue : Option Nat)
  /-- GTI (R250). BA := WA greater than w, signed. -/
  | carGti (t : Nat) (ue : Option Nat)
  /-- LTF (R250). BA := WA less than w in binary32. -/
  | carLtf (t : Nat) (ue : Option Nat)
  /-- GTF (R250). BA := WA greater than w in binary32. -/
  | carGtf (t : Nat) (ue : Option Nat)
  /-- EQW (R250). BA := the two 32-bit patterns are equal. -/
  | carEqw (t : Nat) (ue : Option Nat)
  /-- SEL (R250). If BA, WA := w. -/
  | carSel (t : Nat) (ue : Option Nat)
  /-- JMP (R250). Jump forward. -/
  | carJmp (t : Nat) (ue : Option Nat)
  /-- JMPT (R250). Jump forward if BA. -/
  | carJmpt (t : Nat) (ue : Option Nat)
  /-- JMPF (R250). Jump forward if not BA. -/
  | carJmpf (t : Nat) (ue : Option Nat)
  /-- END (R250). End the scan; its result waits for its Curtain. -/
  | carEnd (t : Nat) (ue : Option Nat)
  /-- WINDOW_CLOSE (R278). A voltage set's window reaches L samples; BOE adds its energy to the accumulators and opens the next window. -/
  | windowClose (d : WindowData)
  /-- WINDOW_PROCESSED (R275). BOE ends the processing of a window, and its results are staged for the next Curtain. -/
  | windowProcessed (errors : List BoeError)
  /-- DEMAND_INTERVAL_CLOSE (R282). At a demand boundary, BOE closes an electrical interval record per meter. -/
  | demandIntervalClose
  /-- THERMAL_INTERVAL_CLOSE (R313). At an interval boundary, BOT closes a thermal interval record per calculator. -/
  | thermalIntervalClose
  /-- CAL_START (R291). The CAL_START command starts a calibration run and returns PENDING. -/
  | calStart (c : Caller) (a0 : Nat) (a1 : Nat)
  /-- CAL_ABORT (R291). The CAL_ABORT command aborts the run in progress. -/
  | calAbort (c : Caller) (a0 : Nat)
  /-- CAL_DONE (R291). A calibration run completes its windows and its means are stored. -/
  | calDone
  /-- PERIODIC_SAVE (R307). At a SAVE_MIN boundary, the accumulator image is copied and written to the next save slot. -/
  | periodicSave
  /-- SAVE_FAILED (R307). A save write fails and is counted. -/
  | saveFailed (cause : Nat)
  /-- FLUSH_SAVE (R308). After the last window and tick are integrated in a power-fail or restart, the FLUSH or RESTART save is written. -/
  | flushSave
  /-- BATTERY_SECOND (R315). Each CLK_AON second in battery measurement, BAT adds each channel's RMS charge to MAH. -/
  | batterySecond (rms : (List F64))
  /-- BATTERY_CHECK (R318). Every 60 s, BAT measures the X2 battery. -/
  | batteryCheck (mv : Nat)
  /-- TAMPER_OPEN (R319). The tamper loop reads open for 10 consecutive samples. -/
  | tamperOpen
  /-- TAMPER_CLOSED (R319). The tamper loop closes again and LOOP_OPEN clears. -/
  | tamperClosed
  /-- TAMPER_CLEAR (R320). The TAMPER_CLEAR command clears the TAMPER bit. -/
  | tamperClear (c : Caller) (a0 : Nat)
  /-- OFFSET_MEASUREMENT (R332). A Sync, with its Follow_Up, yields an offset that the internal servo steps, rejects or steers on. -/
  | offsetMeasurement (b : Nat) (o : Int)
  /-- DOMAIN_HOLDOVER (R327). SYNC_TIMEOUT_MS passes without an accepted measurement and the domain enters HOLDOVER. -/
  | domainHoldover (b : Nat)
  /-- DOMAIN_INVALID (R327). HOLDOVER lasts HOLDOVER_S and the domain becomes INVALID. -/
  | domainInvalid (b : Nat)
  /-- LOCAL_REVERT (R335). A higher-priority domain that has stayed LOCKED for REVERT_S replaces the selection. -/
  | localRevert (b : Nat)
  /-- ANNOUNCE_RECEIVED (R333). A PTP Announce is received and the port choice is made by the best master clock algorithm. -/
  | announceReceived (b : Nat) (m : Announce)
  /-- PDELAY_REQ (R333). A received Pdelay_Req is answered with Pdelay_Resp. -/
  | pdelayReq (port : Nat) (req : PdelayMsg)
  /-- SET_INCREMENT (R346). The SET_INCREMENT command writes a host-servo domain's increment. -/
  | setIncrement (c : Caller) (a0 : Nat) (a1 : Nat) (a2 : Nat)
  /-- STEP (R346). The STEP command steps a host-servo domain's count. -/
  | step (c : Caller) (a0 : Nat) (a1 : Nat) (a2 : Nat)
  /-- SET_LOCK (R346). The SET_LOCK command sets a host-servo domain's lock state. -/
  | setLock (c : Caller) (a0 : Nat) (a1 : Nat)
  /-- SELECT (R335). The SELECT command forces Local's selected domain or returns to the PRIORITY list. -/
  | select (c : Caller) (a0 : Nat)
  /-- LINK_UP (R352). A backbone, mirror or long-reach port gains link. -/
  | linkUp (x : Nat)
  /-- LINK_DOWN (R352). A backbone, mirror or long-reach port loses link. -/
  | linkDown (x : Nat)
  /-- SFP_MISMATCH (R349). An SFP module that does not offer the pair's mode holds its link down. -/
  | sfpMismatch (x : Nat) (code : Nat)
  /-- BACKBONE_FRAME_RX (R351). A backbone frame is received, PRP duplicates are discarded, and unsupported frames are dropped. -/
  | backboneFrameRx (f : RxFrame)
  /-- PRP_SUPERVISION_SEND (R352). Every LIFE_CHECK_MS a pair sends PRP supervision on both ports. -/
  | prpSupervisionSend (k : Nat)
  /-- PRP_NODE_FORGET (R352). A PRP node or duplicate entry reaches its forget time and is removed. -/
  | prpNodeForget (k : Nat)
  /-- FRAME_LAUNCH (R359). A free port chooses its next ready frame and starts it at its launch time. -/
  | frameLaunch (p : Nat)
  /-- DETECTION (R356). LRP runs clause 104 detection on a powered port, staggered on entry to ARMED, repeated every 1 s, or retried 10 s after a fault. -/
  | detection (l : Nat) (valid : Bool) (mw : Nat)
  /-- POWER_FAULT (R356). Overcurrent, undervoltage or the 33 W total rule switches a port off into FAULT. -/
  | powerFault (l : Nat) (kind : Nat) (ma : Nat)
  /-- POWER_OFF (R357). The POWER_OFF command switches a port off and holds it DISABLED. -/
  | powerOff (c : Caller) (a0 : Nat)
  /-- POWER_ON (R357). The POWER_ON command ends DISABLED and starts detection. -/
  | powerOn (c : Caller) (a0 : Nat)
  /-- INPUT_FRAME (R365). A station INPUT frame is checked and, when accepted, its entries are applied to their points. -/
  | inputFrame (f : InputFrame)
  /-- STATION_ABSENT (R371). A station misses MISS_LIMIT exchanges, loses link or leaves, and becomes ABSENT. -/
  | stationAbsent (n : Nat)
  /-- STATION_SUMMARY (R501). Each station produces a SUMMARY entry on ring 8 at its tick modulo 8,000. -/
  | stationSummary (n : Nat)
  /-- NET_DROP_POINT (R376). Every 8,000 ticks, NET writes its dropped-frame count points. -/
  | netDropPoint
  /-- CAN_FRAME_RX (R388). A received CAN frame is filtered into a buffer and its signals are written to points. -/
  | canFrameRx (c : Nat) (f : CanFrame)
  /-- MESSAGE_AGED (R390). An RX buffer without a frame for MAX_AGE_TICKS sets SOURCE_ABSENT on its points. -/
  | messageAged (c : Nat) (b : Nat)
  /-- CAN_WINDOW_START (R397). A window of a time-triggered port opens and its reference or scheduled frame may start. -/
  | canWindowStart (c : Nat) (k : Nat)
  /-- CAN_WINDOW_END (R398). A cell ends; a cell without a complete send is counted as missed. -/
  | canWindowEnd (c : Nat)
  /-- CAN_FRAME_SENT (R395). A CAN frame completes on the bus and its buffer leaves its queue. -/
  | canFrameSent (c : Nat)
  /-- CAN_BUS_ERROR (R400). A bus error or an arbitration loss updates TEC and REC, and the frame is offered again. -/
  | canBusError (c : Nat) (tec : Nat) (rec : Nat)
  /-- RECOVERY_DONE (R401). Recovery ends after 128 runs of 11 recessive bits, and TEC and REC become 0. -/
  | recoveryDone (c : Nat)
  /-- SEND (R407). The SEND command copies the host transmit registers into a host frame on the port's queue. -/
  | send (c : Caller) (a0 : Nat) (a1 : Nat)
  /-- RECOVER (R407). The RECOVER command starts bus-off recovery. -/
  | recover (c : Caller) (a0 : Nat) (a1 : Nat)
  /-- GRANT_CONFIRMED (R416). A GRANT change followed by an RM_ALIVE edge within 20 µs is confirmed; a fall forces ON_AIR low. -/
  | grantConfirmed (level : Bool) (side : Nat) (peer : Bool)
  /-- RINGMASTER_LOST (R419). RM_ALIVE shows no edge for 250 µs and the controller latches its grant. -/
  | ringmasterLost
  /-- RINGMASTER_RETURNED (R419). RM_ALIVE edges return and the latch ends. -/
  | ringmasterReturned (level : Bool) (side : Nat) (peer : Bool)
  /-- RINGMASTER_START_GRANT (R418). With no grant, the Ringmaster grants the preferred side, or the other side after START_WINDOW_MS. -/
  | ringmasterStartGrant (a : SideInputs) (b : SideInputs)
  /-- GRANT_MOVED (R418). The granted side fails and the Ringmaster releases its grant. -/
  | grantMoved (a : SideInputs) (b : SideInputs)
  /-- GRANT_RAISE (R418). 62.5 µs after a release, the Ringmaster raises the new grant. -/
  | grantRaise
  /-- SPOT_LEAD (R427). At the first tick start with the grant high and PEER_ON_AIR low, a Stand-in raises ON_AIR, becomes LEAD and applies the counter jumps. -/
  | spotLead (peer : Bool)
  /-- OUTPUT_RELEASE (R428). 125 µs after PEER_ON_AIR rises, an off-air module releases its held outputs to the off-air state. -/
  | outputRelease
  /-- JOIN_REQUEST (R420). A Lead receives a JOIN_REQUEST and starts sending deltas and BULK records from the next Curtain. -/
  | joinRequest (j : JoinRequest)
  /-- MIRROR_DELTA (R425). A Stand-in receives a tick's mirror delta, applies its records and compares results. -/
  | mirrorDelta (frames : List MirrorFrame) (rxNs : Nat)
  /-- MIRROR_MISS (R425). A head frame not received by T(K + 1) counts as a miss. -/
  | mirrorMiss
  /-- RETURN_SEND (R424). At T(K + 1) + 20 µs, the Stand-in sends its RETURN frame. -/
  | returnSend
  /-- RETURN_FRAME (R424). The Lead receives a RETURN frame, with STATUS and TAKE_DURABLE records. -/
  | returnFrame (f : ReturnFrame)
  /-- PEER_LOST (R424). After 8 ticks without a RETURN frame, or on READY low or link down, the Lead declares the Stand-in lost. -/
  | peerLost
  /-- HANDOVER (R430). The HANDOVER command sets HANDOVER at the next Curtain, after which the Lead releases ON_AIR. -/
  | handover (c : Caller) (a0 : Nat)
  /-- REJOIN (R430). The REJOIN command makes a Stand-in join again. -/
  | rejoin (c : Caller) (a0 : Nat)
  /-- SCRUB_READ (R441). The scrubber reads the next protected word, writes back corrected data or reports an uncorrectable error. -/
  | scrubRead (m : Nat) (found : ScrubFinding) (requester : (Option Nat))
  /-- CROSSING_STALLED (R449). A crossing with a stopped clock reaches CROSS_TIMEOUT and its points gain CROSSING_STALL. -/
  | crossingStalled (g : Nat)
  /-- CROSSING_RESUMED (R449). The clock returns and the crossing delivers its held data first. -/
  | crossingResumed (g : Nat) (items : Nat)
  /-- CLEAR_TABLE (R454). The CLEAR_TABLE command empties a memory's error table. -/
  | clearTable (c : Caller) (a0 : Nat) (a1 : Nat)
  /-- SET_SCRUB (R454). The SET_SCRUB command changes a memory's scrub period. -/
  | setScrub (c : Caller) (a0 : Nat) (a1 : Nat)
  /-- RECORD_ADMIT (R458). CONT numbers an arriving record, applies its bucket and the cap, and writes it to the volatile ring and ring 1. -/
  | recordAdmit (ue : Option Nat)
  /-- SUMMARY_TIMEOUT (R462). 8,000 ticks after the first suppression of a run, a summary record is written. -/
  | summaryTimeout (code : Nat)
  /-- FLUSH_TIMER (R465). FLUSH_S passes with records unpersisted and a flush starts. -/
  | flushTimer
  /-- FLUSH_DONE (R465). A flush ends and FLUSH_DONE is numbered. -/
  | flushDone (failures : Nat)
  /-- FLUSH (R471). The FLUSH command starts a flush. -/
  | flush (c : Caller) (a0 : Nat)
  /-- CONT_READ (R471). The READ command starts delivering persistent records onto a general ring. -/
  | contRead (c : Caller) (a0 : Nat) (a1 : Nat) (a2 : Nat)
  /-- READ_STOP (R471). The READ_STOP command stops a read. -/
  | readStop (c : Caller) (a0 : Nat)
  /-- READ_DONE (R471). A read delivers its last record and ends. -/
  | readDone (ring : Nat)
  /-- SESSION_BEGIN (R479). The SESSION_BEGIN command creates a half-open session, or a claim session, and returns the signed response. -/
  | sessionBegin (c : Caller) (a0 : Nat) (slow : Bool)
  /-- SESSION_PROVE (R479). The SESSION_PROVE command verifies the credential's signature and opens the session. -/
  | sessionProve (c : Caller) (a0 : Nat) (slow : Bool)
  /-- SESSION_PROOF_TIMEOUT (R480). A session not proved within 10 s is discarded. -/
  | sessionProofTimeout (k : Nat)
  /-- SESSION_CLOSE (R480). The SESSION_CLOSE command ends the session. -/
  | sessionClose (c : Caller) (a0 : Nat) (slow : Bool)
  /-- SESSION_ENDED (R480). A session ends after IDLE_S or MAX_S, and its OPEN Takes are cut. -/
  | sessionEnded (k : Nat)
  /-- INSTALL_KEY (R484). The INSTALL_KEY command unwraps and stores a key. -/
  | installKey (c : Caller) (a0 : Nat) (slow : Bool)
  /-- DELETE_KEY (R485). The DELETE_KEY command removes a key. -/
  | deleteKey (c : Caller) (a0 : Nat) (a1 : Nat) (slow : Bool)
  /-- KEY_INFO (R494). The KEY_INFO command returns a key store entry's metadata. -/
  | keyInfo (c : Caller) (a0 : Nat) (slow : Bool)
  /-- ZEROISE (R487). The ZEROISE command erases every key, ends every session and restarts the module. -/
  | zeroise (c : Caller) (a0 : Nat) (slow : Bool)
  /-- GET_CERT (R476). The GET_CERT command returns the IDevID certificate. -/
  | getCert (c : Caller) (a0 : Nat) (slow : Bool)
  /-- ATTEST (R492). The ATTEST command returns a signed attestation report. -/
  | attest (c : Caller) (a0 : Nat) (slow : Bool)
  /-- RANDOM (R492). The RANDOM command returns DRBG bytes. -/
  | random (c : Caller) (a0 : Nat) (slow : Bool)
  /-- SELF_TEST_FAILED (R492). A failed continuous health test stops the DRBG and SEC reports FAILED. -/
  | selfTestFailed (which : Nat)
  /-- MICROCODE_WRITE (R489). The MICROCODE_WRITE command writes a chunk into the slot that is not running and checks the image at the last chunk. -/
  | microcodeWrite (c : Caller) (a0 : Nat) (a1 : Nat) (a2 : Nat) (slow : Bool)
  /-- SET_MIN_VERSION (R490). The SET_MIN_VERSION command writes a new minimum version to one-time-programmable memory. -/
  | setMinVersion (c : Caller) (a0 : Nat) (slow : Bool)
  /-- DEBUG_UNLOCK (R491). The DEBUG_UNLOCK command checks a signed token, then zeroises, blows the fuse and restarts. -/
  | debugUnlock (c : Caller) (a0 : Nat) (slow : Bool)
  /-- HOST_RESET (R498). An FLR, a hot reset or a link loss resets HOST's PCIe side. -/
  | hostReset (cause : Nat)
  /-- LINK_CHANGED (R516). The PCIe or X8 link goes up or down. -/
  | linkChanged (which : Nat) (up : Bool) (speed : Nat) (width : Nat)
  /-- RING_WRITE (R502). A staged device-to-host entry is written to a freed ring slot and PROD advances. -/
  | ringWrite (r : Nat) (ep : Bool)
  /-- RING_MODERATION (R500). MOD_US passes after the first unsignalled entry and the ring's vector is raised. -/
  | ringModeration (r : Nat)
  /-- CONS_WRITE (R500). A host write of a ring's CONS frees slots or is dropped as invalid. -/
  | consWrite (r : Nat) (v : Nat)
  /-- RING_ENABLE (R500). Enabling a ring sets PROD and CONS to 0. -/
  | ringEnable (r : Nat)
  /-- SUBMISSION_FETCH (R505). After SQ_TAIL is written, HOST fetches a submission entry, presents it to its unit and writes a COMPLETION. -/
  | submissionFetch (e : Submission) (rivals : (List Transport)) (slow : Bool)
  /-- TX_RING_DOORBELL (R506). A PROD write on a transmit ring makes HOST read frames into their queue. -/
  | txRingDoorbell (r : Nat) (prod : Nat) (es : (List TxEntry))
  /-- MGMT_BEGIN (R508). A BEGIN message opens a session over the management port. -/
  | mgmtBegin (d : Datagram) (slow : Bool)
  /-- MGMT_PROVE (R508). A PROVE message proves a management session. -/
  | mgmtProve (d : Datagram) (slow : Bool)
  /-- MGMT_COMMAND (R509). A sealed COMMAND message stores mailbox data or runs a command, and its RESPONSE is sent. -/
  | mgmtCommand (d : Datagram) (rivals : (List Transport)) (slow : Bool)
  /-- MGMT_READ (R509). A READ message returns BAR0 words in READ_DATA. -/
  | mgmtRead (d : Datagram)
  /-- MGMT_WRITE (R509). A WRITE message writes one RW or W1C field. -/
  | mgmtWrite (d : Datagram)
  /-- ARP_REQUEST (R507). The management port answers an ARP request or Neighbor Solicitation for its address. -/
  | arpRequest (target : Nat) (v6 : Bool)
  /-- SUBSCRIBE (R513). The SUBSCRIBE command subscribes a point to ring 3. -/
  | subscribe (c : Caller) (a0 : Nat)
  /-- UNSUBSCRIBE (R513). The UNSUBSCRIBE command removes a subscription. -/
  | unsubscribe (c : Caller) (a0 : Nat)
  /-- RING_BIND (R513). The RING_BIND command binds a general ring as device-to-host or as transmit. -/
  | ringBind (c : Caller) (a0 : Nat) (a1 : Nat) (a2 : Nat)
  /-- BAD_ACCESS (R4). A narrow, unaligned or disallowed BAR0 access completes with 0 or is dropped. -/
  | badAccess (a : Nat) (width : Nat) (write : Bool)
  /-- ABSENT_ACCESS (R2). An access to an absent unit's window is answered from PD15 and counted. -/
  | absentAccess (a : Nat) (write : Bool)
  /-- GATED_ACCESS (R15). An access to a unit whose domain is off or whose clock is stopped is answered from the PD15 shadow. -/
  | gatedAccess (a : Nat) (write : Bool)
  /-- TK_WRITE_DROPPED (R7). A direct host write to a TK field outside a Take is dropped and recorded. -/
  | tkWriteDropped (a : Nat) (v : Nat)
  /-- RC_READ (R6). A read of an RC field returns its value and clears it. -/
  | rcRead (a : Nat)
  /-- LATCHED_LO_READ (R27). A read of a LO word latches its HI word. -/
  | latchedLoRead (a : Nat)
  /-- W1C_WRITE (R6). A write to a W1C field clears the bits written as 1. -/
  | w1cWrite (a : Nat) (v : Nat)
  /-- NEW_DATA_CLEAR (R391). Writing 1 to a CAN buffer's NEW_DATA marks the message read and clears the high-priority cause. -/
  | newDataClear (c : Nat) (b : Nat)
  /-- REGISTER_WRITE (R6). A host write to a register without behaviour of its own sets RW fields and is ignored elsewhere. -/
  | registerWrite (a : Nat) (v : Nat) (slow : Bool)
  /-- PULSE_EDGE (R133). A qualified rising edge on a pulse input increments its 32-bit counter in CLK_IO. -/
  | pulseEdge (c : Nat)
  /-- ARMED_BEAT (R413). In ARMED, the controller toggles BEAT every 125 µs of Local. -/
  | armedBeat
  /-- REFERENCE_RETURNED (R19). The 50 MHz reference resumes after a loss, and the module that entered FAULT_SAFE can run its clocks again. -/
  | referenceReturned
  /-- HOLD_UP_EXHAUSTED (R17). The hold-up store runs out before the flush to flash has ended, and PD1 and PD15 lose power. -/
  | holdUpExhausted
  /-- LOCKOUT_EXPIRED (R481). A locked credential, or a locked transport, is unlocked when LOCKOUT_S seconds, or 60 s, have passed. -/
  | lockoutExpired (credential : Nat) (transport : (Option Nat))
  /-- SEC_COMMAND_DONE (R494). A SEC command that returned PENDING ends, sets its final result and raises interrupt cause 24. -/
  | secCommandDone
  /-- MIRRORED_ENTRY_DURABLE (R424). On the Stand-in, a mirrored Splice log entry's body and mark writes end, and a TAKE_DURABLE record is sent at once, or FAILED is reported if the entry cannot be made durable. -/
  | mirroredEntryDurable (ok : Bool)
  /-- PDELAY_RESP_RECEIVED (R333). A Pdelay_Resp answering the module's own peer-delay request is received, and the domain's peer delay is updated. -/
  | pdelayRespReceived (port : Nat) (delay : Int)
  /-- MSIX_UNMASK (R499). The host unmasks an MSI-X vector whose pending bit is set, and the held message is sent. -/
  | msixUnmask (v : Nat)
  /-- BUS_MASTER_ENABLE (R498). The host sets or clears Bus Master Enable, which stops or resumes ring writes as though every ring were full. -/
  | busMasterEnable (on : Bool)
  /-- ANALOG_OUTPUT_FAULT_CLEARED (R136). An analog output's open load or short ends, and its AO_FAULT bit clears. -/
  | analogOutputFaultCleared (c : Nat)
deriving DecidableEq, Repr

end Sys2Proof
end

