-- ==== Sys2Proof/Decode.lean ====
section
/-! DEFINITION. The decoder. The commands of this block are register writes, frames and events: the opcode table gives
none of its rows any bits, so no word spells a command. -/

namespace Sys2Proof

/-- The command that a word of the table's bits spells. No row of the table has bits, so there is none. DESIGN CHOICE, log entry 10. -/
def decodeTableWord (_nbits _w : Nat) : Option Instr := none

end Sys2Proof
end

