-- ==== Sys2Proof/Machine/Crypto.lean ====
section
/-! DEFINITION. The cryptographic functions that the spec names by their standards: SHA-384, HMAC and HKDF with it,
AES-256-GCM, AES-KW, ECDSA and ECDH on P-384, and CRC-32. PRESUMED: the algorithms are those of FIPS 180-4, 197, 198-1
and 186, of SP 800-38D and SP 800-38F, and of RFC 5869; the spec gives their names and parameters only (log entry 35). Bytes are numbers
below 256 in lists, first byte first; numbers inside the algorithms are big-endian. -/

namespace Sys2Proof.Machine

/-- Evaluate a number before it is used. -/
def strict {α : Type} (n : Nat) (f : Nat → α) : α :=
  match n with
  | 0 => f 0
  | k + 1 => f (k + 1)

/-! ### Bytes and numbers -/

/-- The big-endian number of some bytes. -/
def natBE (bs : List Nat) : Nat := bs.foldl (fun a b => strict (a * 256 + b) id) 0
/-- The low `n` bytes of a number, big-endian. -/
def bytesBE : Nat → Nat → List Nat
  | 0, _ => []
  | n + 1, v => v / 256 ^ n % 256 :: bytesBE n v
/-- The low `n` bytes of a number, little-endian. -/
def bytesLE : Nat → Nat → List Nat
  | 0, _ => []
  | n + 1, v => v % 256 :: bytesLE n (v / 256)
/-- The little-endian number of some bytes. -/
def natLE : List Nat → Nat
  | [] => 0
  | b :: t => b + 256 * natLE t
/-- Bytes by exclusive or, as far as both go. -/
def xorBytes (a b : List Nat) : List Nat := List.zipWith (fun x y => x ^^^ y) a b
/-- Cut bytes into pieces of `k`, `n` of them at most. -/
def cutBytes (k : Nat) : Nat → List Nat → List (List Nat)
  | 0, _ => []
  | n + 1, bs => if bs.isEmpty then [] else bs.take k :: cutBytes k n (bs.drop k)
/-- The 32-bit words of some bytes, little-endian. -/
def wordsLE (bs : List Nat) : List Nat := (cutBytes 4 bs.length bs).map natLE
/-- The bytes of some 32-bit words, little-endian. -/
def bytesOfWords (ws : List Nat) : List Nat := ws.flatMap (bytesLE 4)

/-! ### SHA-384 -/

/-- Constants 0 to 19 of the rounds. -/
def shaK0 : Nat := 0x428A2F98D728AE227137449123EF65CDB5C0FBCFEC4D3B2FE9B5DBA58189DBBC3956C25BF348B53859F111F1B605D019923F82A4AF194F9BAB1C5ED5DA6D8118D807AA98A303024212835B0145706FBE243185BE4EE4B28C550C7DC3D5FFB4E272BE5D74F27B896F80DEB1FE3B1696B19BDC06A725C71235C19BF174CF692694E49B69C19EF14AD2EFBE4786384F25E30FC19DC68B8CD5B5240CA1CC77AC9C65
/-- Constants 20 to 39 of the rounds. -/
def shaK1 : Nat := 0x2DE92C6F592B02754A7484AA6EA6E4835CB0A9DCBD41FBD476F988DA831153B5983E5152EE66DFABA831C66D2DB43210B00327C898FB213FBF597FC7BEEF0EE4C6E00BF33DA88FC2D5A79147930AA72506CA6351E003826F142929670A0E6E7027B70A8546D22FFC2E1B21385C26C9264D2C6DFC5AC42AED53380D139D95B3DF650A73548BAF63DE766A0ABB3C77B2A881C2C92E47EDAEE692722C851482353B
/-- Constants 40 to 59 of the rounds. -/
def shaK2 : Nat := 0xA2BFE8A14CF10364A81A664BBC423001C24B8B70D0F89791C76C51A30654BE30D192E819D6EF5218D69906245565A910F40E35855771202A106AA07032BBD1B819A4C116B8D2D0C81E376C085141AB532748774CDF8EEB9934B0BCB5E19B48A8391C0CB3C5C95A634ED8AA4AE3418ACB5B9CCA4F7763E373682E6FF3D6B2B8A3748F82EE5DEFB2FC78A5636F43172F6084C87814A1F0AB728CC702081A6439EC
/-- Constants 60 to 79 of the rounds. -/
def shaK3 : Nat := 0x90BEFFFA23631E28A4506CEBDE82BDE9BEF9A3F7B2C67915C67178F2E372532BCA273ECEEA26619CD186B8C721C0C207EADA7DD6CDE0EB1EF57D4F7FEE6ED17806F067AA72176FBA0A637DC5A2C898A6113F9804BEF90DAE1B710B35131C471B28DB77F523047D8432CAAB7B40C724933C9EBE0A15C9BEBC431D67C49C100D4C4CC5D4BECB3E42B6597F299CFC657E2A5FCB6FAB3AD6FAEC6C44198C4A475817
/-- The constant of round `t`. -/
def shaK (t : Nat) : Nat :=
  let big := if t < 20 then shaK0 else if t < 40 then shaK1 else if t < 60 then shaK2 else shaK3
  big / 2 ^ (64 * (19 - t % 20)) % 2 ^ 64
/-- The working variables. -/
structure ShaRegs where
  a : Nat
  b : Nat
  c : Nat
  d : Nat
  e : Nat
  f : Nat
  g : Nat
  h : Nat
deriving DecidableEq, Repr

/-- Rotate a 64-bit word right. -/
def ror64 (x n : Nat) : Nat := (x / 2 ^ n) ||| (x % 2 ^ n * 2 ^ (64 - n))
/-- The next word of the schedule, of the sixteen before it. -/
def shaNext (w : List Nat) : Nat :=
  let x := w.getD 1 0
  let y := w.getD 14 0
  let s0 := ror64 x 1 ^^^ ror64 x 8 ^^^ (x / 2 ^ 7)
  let s1 := ror64 y 19 ^^^ ror64 y 61 ^^^ (y / 2 ^ 6)
  (w.getD 0 0 + s0 + w.getD 9 0 + s1) % 2 ^ 64
/-- The rounds that remain, `n` of them. -/
def shaRounds : Nat → List Nat → ShaRegs → ShaRegs
  | 0, _, r => r
  | n + 1, w, r =>
    let t1 := r.h + (ror64 r.e 14 ^^^ ror64 r.e 18 ^^^ ror64 r.e 41) +
      ((r.e &&& r.f) ^^^ ((2 ^ 64 - 1 - r.e) &&& r.g)) + shaK (79 - n) + w.getD 0 0
    let t2 := (ror64 r.a 28 ^^^ ror64 r.a 34 ^^^ ror64 r.a 39) + ((r.a &&& r.b) ^^^ (r.a &&& r.c) ^^^ (r.b &&& r.c))
    strict ((t1 + t2) % 2 ^ 64) (fun a => strict ((r.d + t1) % 2 ^ 64) (fun e => strict (shaNext w) (fun x =>
      shaRounds n (w.drop 1 ++ [x]) { a := a, b := r.a, c := r.b, d := r.c, e := e, f := r.e, g := r.f, h := r.g })))
/-- Sums modulo 2⁶⁴, evaluated. -/
def shaAdd : List Nat → List Nat → List Nat
  | x :: xs, y :: ys => strict ((x + y) % 2 ^ 64) (fun z => z :: shaAdd xs ys)
  | _, _ => []
/-- One block of 128 bytes. -/
def shaBlock (h : List Nat) (block : List Nat) : List Nat :=
  let w := (cutBytes 8 16 block).map natBE
  let r := shaRounds 80 w { a := h.getD 0 0, b := h.getD 1 0, c := h.getD 2 0, d := h.getD 3 0, e := h.getD 4 0,
                            f := h.getD 5 0, g := h.getD 6 0, h := h.getD 7 0 }
  shaAdd h [r.a, r.b, r.c, r.d, r.e, r.f, r.g, r.h]
/-- The message with its padding and length. -/
def shaPad (m : List Nat) : List Nat :=
  m ++ 0x80 :: List.replicate ((239 - m.length % 128) % 128) 0 ++ bytesBE 16 (8 * m.length)
/-- SHA-384: 48 bytes. PRESUMED, log entry 35. -/
def sha384 (m : List Nat) : List Nat :=
  let p := shaPad m
  let h := (cutBytes 128 p.length p).foldl shaBlock
    [0xCBBB9D5DC1059ED8, 0x629A292A367CD507, 0x9159015A3070DD17, 0x152FECD8F70E5939,
     0x67332667FFC00B31, 0x8EB44A8768581511, 0xDB0C2E0D64F98FA7, 0x47B5481DBEFA4FA4]
  (h.take 6).flatMap (bytesBE 8)

/-! ### HMAC and HKDF with SHA-384 -/

/-- HMAC-SHA-384. -/
def hmac384 (key m : List Nat) : List Nat :=
  let k0 := if 128 < key.length then sha384 key else key
  let k := k0 ++ List.replicate (128 - k0.length) 0
  sha384 (k.map (fun b => b ^^^ 0x5C) ++ sha384 (k.map (fun b => b ^^^ 0x36) ++ m))
/-- The output blocks of HKDF, from block `i` on. -/
def hkdfBlocks (prk info : List Nat) : Nat → Nat → List Nat → List Nat
  | 0, _, _ => []
  | n + 1, i, last =>
    let t := hmac384 prk (last ++ info ++ [i])
    t ++ hkdfBlocks prk info n (i + 1) t
/-- HKDF-SHA-384: `n` bytes of keying material. An empty salt is 48 zero bytes. PRESUMED, log entry 35. -/
def hkdf384 (salt ikm info : List Nat) (n : Nat) : List Nat :=
  (hkdfBlocks (hmac384 (if salt.isEmpty then List.replicate 48 0 else salt) ikm) info ((n + 47) / 48) 1 []).take n

/-! ### AES-256 -/

/-- Rows 0 to 3 of the byte substitution. -/
def aesS0 : Nat := 0x637C777BF26B6FC53001672BFED7AB76CA82C97DFA5947F0ADD4A2AF9CA472C0B7FD9326363FF7CC34A5E5F171D8311504C723C31896059A071280E2EB27B275
/-- Rows 4 to 7 of the byte substitution. -/
def aesS1 : Nat := 0x09832C1A1B6E5AA0523BD6B329E32F8453D100ED20FCB15B6ACBBE394A4C58CFD0EFAAFB434D338545F9027F503C9FA851A3408F929D38F5BCB6DA2110FFF3D2
/-- Rows 8 to 11 of the byte substitution. -/
def aesS2 : Nat := 0xCD0C13EC5F974417C4A77E3D645D197360814FDC222A908846EEB814DE5E0BDBE0323A0A4906245CC2D3AC629195E479E7C8376D8DD54EA96C56F4EA657AAE08
/-- Rows 12 to 15 of the byte substitution. -/
def aesS3 : Nat := 0xBA78252E1CA6B4C6E8DD741F4BBD8B8A703EB5664803F60E613557B986C11D9EE1F8981169D98E949B1E87E9CE5528DF8CA1890DBFE6426841992D0FB054BB16
/-- The byte substitution. -/
def aesSub (x : Nat) : Nat :=
  let big := if x < 64 then aesS0 else if x < 128 then aesS1 else if x < 192 then aesS2 else aesS3
  big / 2 ^ (8 * (63 - x % 64)) % 256
/-- Twice a byte in the field of AES. -/
def aesTwice (x : Nat) : Nat := if x < 128 then 2 * x else (2 * x) % 256 ^^^ 0x1B
/-- The next word of the key schedule: `i` is its number, `w` the eight words before it, `rc` the round constant. -/
def aesKeyWord (i rc : Nat) (w : List (List Nat)) : List Nat :=
  let t := w.getD 7 []
  let t' := if i % 8 = 0 then
      match (t.drop 1 ++ t.take 1).map aesSub with
      | b :: bs => (b ^^^ rc) :: bs
      | [] => []
    else if i % 8 = 4 then t.map aesSub
    else t
  xorBytes (w.getD 0 []) t'
/-- The words of the key schedule from number `i` on. -/
def aesKeyWords : Nat → Nat → Nat → List (List Nat) → List (List Nat)
  | 0, _, _, _ => []
  | n + 1, i, rc, w =>
    let x := aesKeyWord i rc w
    x :: aesKeyWords n (i + 1) (if i % 8 = 0 then aesTwice rc else rc) (w.drop 1 ++ [x])
/-- The fifteen round keys of a 32-byte key. -/
def aesKeys (key : List Nat) : List (List Nat) :=
  let w := cutBytes 4 8 key
  cutBytes 16 15 (w ++ aesKeyWords 52 8 1 w).flatten
/-- Shift the rows of a state of sixteen bytes, column by column. -/
def aesShift (b : List Nat) : List Nat := (List.range 16).map (fun i => b.getD ((5 * i) % 16) 0)
/-- Mix one column. -/
def aesMix : List Nat → List Nat
  | [a, b, c, d] =>
    let t := a ^^^ b ^^^ c ^^^ d
    [a ^^^ t ^^^ aesTwice (a ^^^ b), b ^^^ t ^^^ aesTwice (b ^^^ c), c ^^^ t ^^^ aesTwice (c ^^^ d), d ^^^ t ^^^ aesTwice (d ^^^ a)]
  | l => l
/-- The rounds after the first key addition. -/
def aesRounds : List (List Nat) → List Nat → List Nat
  | [], b => b
  | [k], b => xorBytes (aesShift (b.map aesSub)) k
  | k :: ks, b => aesRounds ks (xorBytes ((cutBytes 4 4 (aesShift (b.map aesSub))).flatMap aesMix) k)
/-- AES-256 of one block under round keys. -/
def aesBlock (ks : List (List Nat)) (b : List Nat) : List Nat := aesRounds (ks.drop 1) (xorBytes b (ks.getD 0 []))

/-! ### AES key wrapping -/

/-- Rows 0 to 3 of the inverse byte substitution. -/
def aesI0 : Nat := 0x52096AD53036A538BF40A39E81F3D7FB7CE339829B2FFF87348E4344C4DEE9CB547B9432A6C2233DEE4C950B42FAC34E082EA16628D924B2765BA2496D8BD125
/-- Rows 4 to 7 of the inverse byte substitution. -/
def aesI1 : Nat := 0x72F8F66486689816D4A45CCC5D65B6926C704850FDEDB9DA5E154657A78D9D8490D8AB008CBCD30AF7E45805B8B34506D02C1E8FCA3F0F02C1AFBD0301138A6B
/-- Rows 8 to 11 of the inverse byte substitution. -/
def aesI2 : Nat := 0x3A9111414F67DCEA97F2CFCEF0B4E67396AC7422E7AD3585E2F937E81C75DF6E47F11A711D29C5896FB7620EAA18BE1BFC563E4BC6D279209ADBC0FE78CD5AF4
/-- Rows 12 to 15 of the inverse byte substitution. -/
def aesI3 : Nat := 0x1FDDA8338807C731B11210592780EC5F60517FA919B54A0D2DE57A9F93C99CEFA0E03B4DAE2AF5B0C8EBBB3C83539961172B047EBA77D626E169146355210C7D
/-- The inverse byte substitution. -/
def aesUnsub (x : Nat) : Nat :=
  let big := if x < 64 then aesI0 else if x < 128 then aesI1 else if x < 192 then aesI2 else aesI3
  big / 2 ^ (8 * (63 - x % 64)) % 256
/-- Shift the rows back, and undo the substitution. -/
def aesUnshift (b : List Nat) : List Nat := (List.range 16).map (fun i => aesUnsub (b.getD ((13 * i) % 16) 0))
/-- Undo the mixing of one column. -/
def aesUnmix : List Nat → List Nat
  | [a, b, c, d] =>
    let u := aesTwice (aesTwice (a ^^^ c))
    let v := aesTwice (aesTwice (b ^^^ d))
    aesMix [a ^^^ u, b ^^^ v, c ^^^ u, d ^^^ v]
  | l => l
/-- The rounds of decryption, the round keys being in reverse order. -/
def aesUnrounds : List (List Nat) → List Nat → List Nat
  | [], b => b
  | [k], b => xorBytes (aesUnshift b) k
  | k :: ks, b => aesUnrounds ks ((cutBytes 4 4 (xorBytes (aesUnshift b) k)).flatMap aesUnmix)
/-- One block decrypted under round keys in reverse order. -/
def aesUnblock (ks : List (List Nat)) (b : List Nat) : List Nat := aesUnrounds (ks.drop 1) (xorBytes b (ks.getD 0 []))
/-- The steps of an unwrap that remain, `t` of them, over `n` half-blocks `r` and the check value `a`. -/
def unwrapSteps (ks : List (List Nat)) (n : Nat) : Nat → List Nat → List (List Nat) → List Nat × List (List Nat)
  | 0, a, r => (a, r)
  | t + 1, a, r =>
    let b := aesUnblock ks (xorBytes a (bytesBE 8 (t + 1)) ++ r.getD (t % n) [])
    unwrapSteps ks n t (b.take 8) (r.set (t % n) (b.drop 8))
/-- AES-KW under a 32-byte key: the plain text, where the integrity check passes. PRESUMED, log entry 35. -/
def keyUnwrap (key ct : List Nat) : Option (List Nat) :=
  let n := ct.length / 8 - 1
  let x := unwrapSteps (aesKeys key).reverse n (6 * n) (ct.take 8) (cutBytes 8 n (ct.drop 8))
  if x.1 = List.replicate 8 0xA6 then some x.2.flatten else none

/-! ### GCM -/

/-- Multiply in the field of GCM, `n` bits of `x` still to come. -/
def gcmTimes : Nat → Nat → Nat → Nat → Nat
  | 0, _, _, z => z
  | n + 1, x, v, z =>
    let z' := if x / 2 ^ n % 2 = 1 then z ^^^ v else z
    let v' := if v % 2 = 1 then v / 2 ^^^ (0xE1 * 2 ^ 120) else v / 2
    strict z' (fun z1 => strict v' (fun v1 => gcmTimes n x v1 z1))
/-- The hash of GCM over bytes padded to blocks of sixteen. -/
def ghash (h : Nat) (bs : List Nat) : Nat :=
  (cutBytes 16 bs.length bs).foldl (fun y b => gcmTimes 128 (y ^^^ natBE b) h 0) 0
/-- Pad bytes to sixteen. -/
def pad16 (bs : List Nat) : List Nat := bs ++ List.replicate ((16 - bs.length % 16) % 16) 0
/-- The counter blocks' key stream, from counter `i` on, over pieces of the data. -/
def gcmStream (ks : List (List Nat)) (iv : List Nat) : Nat → List (List Nat) → List Nat
  | _, [] => []
  | i, p :: ps => xorBytes p (aesBlock ks (iv ++ bytesBE 4 i)) ++ gcmStream ks iv (i + 1) ps
/-- The tag of GCM over associated data and ciphertext, under a 12-byte nonce. -/
def gcmTag (key iv aad ct : List Nat) : List Nat :=
  let ks := aesKeys key
  let h := natBE (aesBlock ks (List.replicate 16 0))
  let y := ghash h (pad16 aad ++ pad16 ct ++ bytesBE 8 (8 * aad.length) ++ bytesBE 8 (8 * ct.length))
  xorBytes (bytesBE 16 y) (aesBlock ks (iv ++ [0, 0, 0, 1]))
/-- Encrypt, or decrypt, the text of GCM. -/
def gcmText (key iv data : List Nat) : List Nat := gcmStream (aesKeys key) iv 2 (cutBytes 16 data.length data)
/-- AES-256-GCM sealed: the cipher text and its tag. PRESUMED, log entry 35. -/
def gcmSeal (key iv aad text : List Nat) : List Nat :=
  let ct := gcmText key iv text
  ct ++ gcmTag key iv aad ct
/-- AES-256-GCM opened: the plain text, where the tag verifies. -/
def gcmOpen (key iv aad ct tag : List Nat) : Option (List Nat) :=
  if gcmTag key iv aad ct = tag then some (gcmText key iv ct) else none

/-! ### P-384 -/

/-- The prime of the field. -/
def p384 : Nat := 2 ^ 384 - 2 ^ 128 - 2 ^ 96 + 2 ^ 32 - 1
/-- The order of the group. -/
def n384 : Nat := 0xFFFFFFFFFFFFFFFFFFFFFFFFFFFFFFFFFFFFFFFFFFFFFFFFC7634D81F4372DDF581A0DB248B0A77AECEC196ACCC52973
/-- The constant term of the curve. -/
def b384 : Nat := 0xB3312FA7E23EE7E4988E056BE3F82D19181D9C6EFE8141120314088F5013875AC656398D8A2ED19D2A85C8EDD3EC2AEF
/-- The base point. -/
def g384 : Nat × Nat :=
  (0xAA87CA22BE8B05378EB1C71EF320AD746E1D3B628BA79B9859F741E082542A385502F25DBF55296C3A545E3872760AB7,
   0x3617DE4A96262C6F5D9E98BF9292DC29F8F41DBD289A147CE9DA3113B5F0B8C00A60B1CE1D7E819D7A431D7C90EA0E5F)
/-- A power modulo `m`, the exponent given by its `k` low bits. -/
def powMod (m b : Nat) : Nat → Nat → Nat → Nat
  | 0, _, acc => acc
  | k + 1, e, acc => strict (acc * acc * (if e / 2 ^ k % 2 = 1 then b else 1) % m) (fun a => powMod m b k e a)
/-- The inverse modulo a prime below 2³⁸⁴. -/
def invMod (m a : Nat) : Nat := powMod m (a % m) 384 (m - 2) 1
/-- A point: X / Z², Y / Z³; Z = 0 at infinity. -/
structure Jac where
  x : Nat
  y : Nat
  z : Nat
deriving DecidableEq, Repr

/-- A point with its numbers evaluated. -/
def jacOf (x y z : Nat) : Jac := strict (x % p384) (fun a => strict (y % p384) (fun b => strict (z % p384) (fun c => ⟨a, b, c⟩)))
/-- Subtract in the field, both below the prime. -/
def subP (a b : Nat) : Nat := (a + p384 - b % p384) % p384
/-- Double a point of the curve with a = −3. -/
def jacDouble (q : Jac) : Jac :=
  strict (q.z * q.z % p384) (fun d => strict (q.y * q.y % p384) (fun g => strict (q.x * g % p384) (fun b =>
    strict (3 * subP q.x d * (q.x + d) % p384) (fun a =>
      strict (subP (a * a % p384) (8 * b)) (fun x3 =>
        jacOf x3 (subP (a * subP (4 * b % p384) x3 % p384) (8 * g * g)) (2 * q.y * q.z))))))
/-- Add two points. -/
def jacAdd (q r : Jac) : Jac :=
  if q.z = 0 then r
  else if r.z = 0 then q
  else
    strict (q.z * q.z % p384) (fun zq => strict (r.z * r.z % p384) (fun zr =>
      strict (q.x * zr % p384) (fun u1 => strict (r.x * zq % p384) (fun u2 =>
        strict (q.y * r.z * zr % p384) (fun s1 => strict (r.y * q.z * zq % p384) (fun s2 =>
          if u1 = u2 then if s1 = s2 then jacDouble q else ⟨1, 1, 0⟩
          else
            strict (subP u2 u1) (fun h => strict (subP s2 s1) (fun w =>
              strict (h * h % p384) (fun h2 => strict (h * h2 % p384) (fun h3 => strict (u1 * h2 % p384) (fun v =>
                strict (subP (w * w % p384) (h3 + 2 * v)) (fun x3 =>
                  jacOf x3 (subP (w * subP v x3 % p384) (s1 * h3)) (h * q.z * r.z)))))))))))))
/-- `e` times a point, over its `k` low bits. -/
def jacTimes (q : Jac) : Nat → Nat → Jac → Jac
  | 0, _, acc => acc
  | k + 1, e, acc =>
    let d := jacDouble acc
    jacTimes q k e (if e / 2 ^ k % 2 = 1 then jacAdd d q else d)
/-- A scalar times a point, at infinity for 0. -/
def timesP (e : Nat) (q : Jac) : Jac := jacTimes q 384 e ⟨1, 1, 0⟩
/-- The affine x of a point not at infinity. -/
def jacX (q : Jac) : Nat :=
  let i := invMod p384 q.z
  q.x * (i * i % p384) % p384
/-- The affine y of a point not at infinity. -/
def jacY (q : Jac) : Nat :=
  let i := invMod p384 q.z
  q.y * (i * i % p384 * i % p384) % p384
/-- The public key of a private number, uncompressed: 97 bytes. -/
def publicKey (d : Nat) : List Nat :=
  let q := timesP (d % n384) ⟨g384.1, g384.2, 1⟩
  0x04 :: bytesBE 48 (jacX q) ++ bytesBE 48 (jacY q)
/-- A public key of 96 bytes as a point, if it lies on the curve. -/
def pointOn (key : List Nat) : Option Jac :=
  let x := natBE (key.take 48)
  let y := natBE ((key.drop 48).take 48)
  if key.length = 96 && decide (x < p384) && decide (y < p384) && y * y % p384 == (x * x * x + (p384 - 3) * x + b384) % p384
  then some ⟨x, y, 1⟩ else none
/-- ECDSA P-384: a signature, r and s of 48 bytes each, over a hash of 48 bytes. -/
def ecdsaVerify (key hash sig : List Nat) : Bool :=
  let r := natBE (sig.take 48)
  let t := natBE ((sig.drop 48).take 48)
  match pointOn key with
  | none => false
  | some q =>
    if sig.length != 96 || r = 0 || n384 ≤ r || t = 0 || n384 ≤ t then false
    else
      strict (invMod n384 t) (fun w =>
        let sum := jacAdd (timesP (natBE hash * w % n384) ⟨g384.1, g384.2, 1⟩) (timesP (r * w % n384) q)
        sum.z != 0 && jacX sum % n384 == r)
/-- ECDH P-384: the shared x of a private number and a public key. -/
def ecdhShared (d : Nat) (key : List Nat) : Option (List Nat) :=
  match pointOn key with
  | none => none
  | some q =>
    let z := timesP (d % n384) q
    if z.z = 0 then none else some (bytesBE 48 (jacX z))

/-! ### CRC-32 -/

/-- One bit of a reflected CRC of 32 bits with a given polynomial. -/
def crcStep (poly c : Nat) : Nat := if c % 2 = 1 then c / 2 ^^^ poly else c / 2
/-- One byte. -/
def crcEight (poly c b : Nat) : Nat := (List.range 8).foldl (fun x _ => strict (crcStep poly x) id) (c ^^^ b)
/-- A CRC of 32 bits over some bytes, started at and finished with all ones. -/
def crcOf (poly : Nat) (bs : List Nat) : Nat := bs.foldl (crcEight poly) 0xFFFFFFFF ^^^ 0xFFFFFFFF
/-- CRC-32, of IEEE 802.3 and the GPT. -/
def crc32 (bs : List Nat) : Nat := crcOf 0xEDB88320 bs
/-- CRC32C (R423). -/
def crc32c (bs : List Nat) : Nat := crcOf 0x82F63B78 bs

end Sys2Proof.Machine
end

