-- ==== Sys2Proof/Machine/Bytes.lean ====
section
/-! DEFINITION. Reading a Reel's bytes: numbers and rows of a body, and the breaches of a body's layout that only its
bytes show. All integers are little-endian (R61). -/

namespace Sys2Proof.Machine

open Sys2Proof

/-! ### Numbers -/

/-- `n` bytes from `o` on. -/
def slice (b : List Nat) (o n : Nat) : List Nat := (b.drop o).take n
/-- A byte; 0 past the end. -/
def u8 (b : List Nat) (o : Nat) : Nat := b.getD o 0
/-- A 16-bit number. -/
def u16 (b : List Nat) (o : Nat) : Nat := natLE (slice b o 2)
/-- A 32-bit number. -/
def u32 (b : List Nat) (o : Nat) : Nat := natLE (slice b o 4)
/-- A 64-bit number. -/
def u64 (b : List Nat) (o : Nat) : Nat := natLE (slice b o 8)
/-- A word. -/
def wordAt (b : List Nat) (o : Nat) : Word := BitVec.ofNat 32 (u32 b o)
/-- A number of `w` bits in two's complement. -/
def signedOf (w n : Nat) : Int := if n < 2 ^ (w - 1) then n else (n : Int) - 2 ^ w
/-- A number that stands for none when it is all ones. -/
def optAt (b : List Nat) (o : Nat) : Option Nat := if u32 b o = 0xFFFFFFFF then none else some (u32 b o)
/-- Bit `i` of the byte at `o`. -/
def bitAt (b : List Nat) (o i : Nat) : Bool := u8 b o / 2 ^ i % 2 == 1
/-- A table of rows: `n` of `size` bytes from `o` on, as far as the body reaches. -/
def rowsAt (b : List Nat) (o size n : Nat) : List (List Nat) := cutBytes size (min n ((b.length - o) / size)) (b.drop o)
/-- A bitmap of `n` bits from byte `o` on. -/
def bitsAt (b : List Nat) (o n : Nat) : List Bool :=
  ((slice b o ((n + 7) / 8)).flatMap (fun x => (List.range 8).map (fun i => x / 2 ^ i % 2 == 1))).take n

/-- An offset field of a header, by its place among the header's offset fields. -/
def tableOffset (offsets : List Nat) (i : Nat) : Nat := offsets.getD i 0

/-! ### Breaches -/

/-- A breach of a layout: the offset of its byte. -/
abbrev Breach := Option Nat
/-- The lowest of some breaches. -/
def lowest : List Breach → Breach
  | [] => none
  | a :: t => match a, lowest t with
    | some x, some y => some (min x y)
    | some x, none => some x
    | none, y => y
/-- A condition on the byte or field at an offset. -/
def holdsAt (ok : Bool) (o : Nat) : Breach := if ok then none else some o
/-- `n` bytes from `o` on are 0. -/
def zeros (b : List Nat) (o n : Nat) : Breach := ((slice b o n).findIdx? (fun x => x != 0)).map (o + ·)
/-- A byte is 0 or 1. -/
def boolByte (b : List Nat) (o : Nat) : Breach := holdsAt (decide (u8 b o ≤ 1)) o
/-- A byte has bits below bit `n` only. -/
def lowBits (b : List Nat) (o n : Nat) : Breach := holdsAt (decide (u8 b o < 2 ^ n)) o
/-- The body reaches `n` bytes. -/
def reaches (b : List Nat) (n : Nat) : Breach := holdsAt (decide (n ≤ b.length)) b.length
/-- Bits past the last of a bitmap of `n` bits from byte `o` on are 0. -/
def padBits (b : List Nat) (o n : Nat) : Breach :=
  if n % 8 = 0 then none else holdsAt (decide (u8 b (o + n / 8) < 2 ^ (n % 8))) (o + n / 8)
/-- A breach of each row of a table at `o`. -/
def eachRow (f : List Nat → Breach) (size : Nat) : Nat → List (List Nat) → Breach
  | _, [] => none
  | o, r :: t => match f r with
    | some x => some (o + x)
    | none => eachRow f size (o + size) t
/-- Tables in order: each one's offset field, its offset and its length. Each offset is a multiple of 64 and not before
the end of the table before it, and the body reaches the end of the last. -/
def tablesAt (b : List Nat) : Nat → List (Nat × Nat × Nat) → Breach
  | stop, [] => reaches b stop
  | stop, (field, o, n) :: t => if o % 64 = 0 && stop ≤ o then tablesAt b (o + n) t else some field

end Sys2Proof.Machine
end

