-- ==== Sys2Proof/Machine/ParseBase.lean ====
section
/-! DEFINITION. The bodies of START, CALL_SHEET, SAFE_VALUES, POWER, TIME, POINTS, LOCAL_IO, TUNABLES, METROLOGY_SEAL,
SPOTLIGHT, RECORDER, SECURITY and HOST read from their bytes (R33 to R35, R69, R70, R82, R125, R127, R134, R344, R411, R470,
R493, R512, R526), and the breaches of their layouts. -/

namespace Sys2Proof.Machine

open Sys2Proof

/-- START (R69). -/
def readStart (b : List Nat) : StartSec :=
  { startMode := u8 b 0, timePolicy := u8 b 1, lockDomain := u8 b 2, lockWaitS := u32 b 4 }
/-- See readStart. -/
def breachStart (b : List Nat) : Breach := lowest [zeros b 3 1, zeros b 8 8, reaches b 16]

/-- A unit entry (R34). -/
def readUnit (b : List Nat) : UnitEntry :=
  { unit := u8 b 0, flags := u8 b 1, limit := u8 b 2, maxEntries := u8 b 3, startCycle := u32 b 4, budgetCycles := u32 b 8
    safeSet := u32 b 12 }
/-- A work entry (R35). -/
def readWork (b : List Nat) : WorkEntry :=
  { unit := u8 b 0, work := u8 b 1, flags := u16 b 2, period := u32 b 4, phase := u32 b 8, slice := u32 b 12 }
/-- CALL_SHEET (R33 to R35). -/
def readSheet (b : List Nat) : CallSheet :=
  { version := u32 b 0, unitEntryCount := u16 b 4, curtainUs := u16 b 8, overrunLimit := u8 b 10, outputCycles := u32 b 12
    units := (rowsAt b 32 16 24).map readUnit, works := (rowsAt b 416 16 (u16 b 6)).map readWork }
/-- See readSheet. -/
def breachSheet (b : List Nat) : Breach :=
  lowest [holdsAt (decide (u16 b 6 ≤ 32)) 6, zeros b 11 1, zeros b 16 16, reaches b (416 + 16 * u16 b 6)]

/-- SAFE_VALUES (R127). -/
def readSafe (b : List Nat) : SafeSec :=
  { sets := (rowsAt b 16 8 (u32 b 0)).map (fun r => { first := u32 r 0, count := u32 r 4 }), entryCount := u32 b 4
    entries := (rowsAt b (16 + 8 * u32 b 0) 8 (u32 b 4)).map (fun r => (u32 r 0, wordAt r 4)) }
/-- See readSafe. -/
def breachSafe (b : List Nat) : Breach :=
  lowest [holdsAt (decide (u32 b 0 ≤ 24)) 0, zeros b 8 8, reaches b (16 + 8 * u32 b 0 + 8 * u32 b 4)]

/-- POWER (R526). -/
def readPower (b : List Nat) : PowerSec :=
  { domainEnable := u16 b 0, idleGating := u8 b 2, crossCompat := u8 b 3, crossTimeoutUs := u16 b 4, supplyMode := u8 b 6 }
/-- See readPower. -/
def breachPower (b : List Nat) : Breach := lowest [zeros b 7 25, reaches b 32]

/-- A domain entry of TIME (R344). -/
def readDomain (b : List Nat) : TimeDomain :=
  { enabled := u8 b 0 == 1, ptpDomain := u8 b 1, portPair := u8 b 2, servo := u8 b 3, stepMode := u8 b 4, lockNs := u32 b 8
    jumpNs := u32 b 12, lockCount := u16 b 16, syncTimeoutMs := u16 b 18, kp := wordAt b 20, ki := wordAt b 24
    stepNs := u32 b 28 }
/-- TIME (R344). -/
def readTime (b : List Nat) : TimeSec :=
  { priority := slice b 0 4, slewPpm := u8 b 4, alignNs := u16 b 6, holdoverS := u32 b 8, revertS := u32 b 12
    domains := (rowsAt b 32 32 4).map readDomain
    ports := (rowsAt b 160 8 17).map (fun r => (signedOf 32 (u32 r 0), signedOf 32 (u32 r 4))) }
/-- See readTime. -/
def breachTime (b : List Nat) : Breach :=
  lowest [zeros b 5 1, zeros b 16 16, eachRow (fun r => lowest [boolByte r 0, zeros r 5 3]) 32 32 (rowsAt b 32 32 4),
    reaches b 296]

/-- An entry of POINTS (R125). -/
def readPoint (b : List Nat) : PointCfg :=
  { index := u32 b 0, typ := u8 b 4, source := u8 b 5, rangeAction := u8 b 6, filter := u8 b 7, filterParam := u8 b 8
    timeout := u16 b 10, lo := wordAt b 12, hi := wordAt b 16, maxRate := wordAt b 20, initial := wordAt b 24 }
/-- POINTS (R125). -/
def readPoints (b : List Nat) : List PointCfg := (rowsAt b 16 32 (u32 b 0)).map readPoint
/-- See readPoints: a breach in an entry has the entry's offset (R126). -/
def breachPoints (b : List Nat) : Breach :=
  lowest [zeros b 4 12,
    eachRow (fun r => holdsAt ((lowest [zeros r 9 1, zeros r 28 4]).isNone) 0) 32 16 (rowsAt b 16 32 (u32 b 0)),
    reaches b (16 + 32 * u32 b 0)]

/-- A channel entry of LOCAL_IO (R134). -/
def readChannel (b : List Nat) : LioChannel :=
  { mode := u8 b 0, debounceUs := u16 b 2, point := u32 b 4, scale := wordAt b 8, offset := wordAt b 12 }
/-- LOCAL_IO (R134). -/
def readLocalIo (b : List Nat) : List LioChannel := (rowsAt b 16 16 208).map readChannel
/-- See readLocalIo. -/
def breachLocalIo (b : List Nat) : Breach :=
  lowest [holdsAt (u16 b 0 == 208) 0, zeros b 2 14, eachRow (fun r => zeros r 1 1) 16 16 (rowsAt b 16 16 208),
    reaches b (16 + 16 * 208)]

/-- An entry of TUNABLES (R82). -/
def readTunable (b : List Nat) : Tunable :=
  { id := natLE (slice b 0 3), cls := u8 b 3, typ := u8 b 4, kind := u8 b 5, lsb := u8 b 6, width := u8 b 7, target := u32 b 8
    min := wordAt b 12, max := wordAt b 16, maxStep := wordAt b 20 }
/-- TUNABLES (R82). -/
def readTunables (b : List Nat) : TunablesSec :=
  { count := u32 b 0, defaultLifetime := u16 b 4, entries := (rowsAt b 16 32 (u32 b 0)).map readTunable }
/-- See readTunables. -/
def breachTunables (b : List Nat) : Breach :=
  lowest [zeros b 6 10, eachRow (fun r => zeros r 24 8) 32 16 (rowsAt b 16 32 (u32 b 0)), reaches b (16 + 32 * u32 b 0)]

/-- METROLOGY_SEAL (R70). -/
def readSeal (b : List Nat) : SealSec := { keyId := u64 b 0, hash := wordsLE (slice b 16 48), signature := slice b 64 96 }
/-- See readSeal. -/
def breachSeal (b : List Nat) : Breach := lowest [zeros b 8 8, reaches b 160]

/-- SPOTLIGHT (R411). -/
def readSpotlight (b : List Nat) : SpotlightSec :=
  { witness := u8 b 0 == 1, preferredB := u8 b 1 == 1, mismatchLimit := u8 b 2, missLimit := u8 b 3, healthMask := u32 b 4
    pairKeyId := u64 b 8, stepLimitNs := u32 b 16, startWindowMs := u32 b 20 }
/-- See readSpotlight. -/
def breachSpotlight (b : List Nat) : Breach := lowest [boolByte b 0, boolByte b 1, zeros b 24 8, reaches b 32]

/-- RECORDER (R470). -/
def readRecorder (b : List Nat) : RecorderSec :=
  { flushS := u16 b 0
    entries := (rowsAt b 16 8 (u16 b 4)).map (fun r => { code := u16 r 0, rate := u16 r 2, burst := u16 r 4 }) }
/-- See readRecorder. -/
def breachRecorder (b : List Nat) : Breach :=
  lowest [zeros b 2 2, holdsAt (decide (u16 b 4 ≤ 6144)) 4, zeros b 6 10,
    eachRow (fun r => zeros r 6 2) 8 16 (rowsAt b 16 8 (u16 b 4)), reaches b (16 + 8 * u16 b 4)]

/-- SECURITY (R493). -/
def readSecurity (b : List Nat) : SecuritySec :=
  { certifiedMode := u8 b 0 == 1, tamperAction := u8 b 1, idleS := u16 b 2, maxS := u32 b 4, lockoutFails := u16 b 8
    lockoutS := u16 b 10, mgmtRoles := u8 b 12 }
/-- See readSecurity. -/
def breachSecurity (b : List Nat) : Breach := lowest [boolByte b 0, zeros b 13 19, reaches b 32]

/-- A 16-byte address. -/
def address (b : List Nat) (o : Nat) : Nat := natLE (slice b o 16)
/-- HOST (R512). -/
def readHost (b : List Nat) : HostSec :=
  { mgmtEnable := u8 b 0, ipv6 := u8 b 1, prefixLen := u8 b 2, mgmtPort := u16 b 4, address := address b 16
    gateway := address b 32 }
/-- See readHost. -/
def breachHost (b : List Nat) : Breach := lowest [zeros b 3 1, zeros b 6 10, zeros b 48 16, reaches b 64]

end Sys2Proof.Machine
end

