-- ==== Sys2Proof/Machine/ParseSolve.lean ====
section
/-! DEFINITION. The bodies of MODEL, STENCILS, STORYBOARD, SOLVER, LOOPS and LOGIC read from their bytes (R139 to R145, R162
to R165, R190, R191, R217, R218, R227, R233, R235, R259, R260), and the breaches of their layouts. -/

namespace Sys2Proof.Machine

open Sys2Proof

/-- `n` 32-bit fields from `o` on. -/
def fields32 (b : List Nat) (o n : Nat) : List Nat := (rowsAt b o 4 n).map natLE
/-- `n` binary32 values from `o` on. -/
def floats32 (b : List Nat) (o n : Nat) : List F32 := (fields32 b o n).map (BitVec.ofNat 32)
/-- `n` binary64 values from `o` on. -/
def floats64 (b : List Nat) (o n : Nat) : List F64 := (rowsAt b o 8 n).map (fun r => BitVec.ofNat 64 (natLE r))

/-! ### MODEL and STENCILS -/

/-- An entity record (R140). -/
def readEntity (b : List Nat) : EntityCfg :=
  { id := u32 b 0, kind := u8 b 4, vars := u8 b 5, cons := u8 b 6, firstRow := u32 b 8, paramFirst := u32 b 12
    paramCount := u16 b 16, inputFirst := u32 b 20, inputCount := u16 b 24 }
/-- An input record (R143). -/
def readInput (b : List Nat) : InputCfg :=
  { point := u32 b 0, policy := u8 b 4, onQuestionable := bitAt b 5 0, onAbsent := bitAt b 5 1, holdRounds := u16 b 6
    dflt := wordAt b 8, planRow := u32 b 12 }
/-- The tables of MODEL: offset field, offset, bytes. -/
def modelTables (b : List Nat) : List (Nat × Nat × Nat) :=
  [(40, u32 b 40, 32 * u32 b 20), (44, u32 b 44, 16 * u32 b 24), (48, u32 b 48, 4 * u32 b 28), (52, u32 b 52, (u32 b 8 + 7) / 8),
    (56, u32 b 56, 4 * (u32 b 8 + 1)), (60, u32 b 60, 4 * u32 b 16)]
/-- The sign bitmap, column pointers and row indices as stored (R162). -/
def patternBytes (b : List Nat) : List Nat :=
  slice b (u32 b 52) ((u32 b 8 + 7) / 8) ++ slice b (u32 b 56) (4 * (u32 b 8 + 1)) ++ slice b (u32 b 60) (4 * u32 b 16)
/-- MODEL (R139 to R143). -/
def readModel (b : List Nat) : ModelSec :=
  let n := u32 b 8
  { horizon := u32 b 0, stepTicks := u32 b 4, rowCount := n, primalCount := u32 b 12, slotCount := u32 b 16, entityCount := u32 b 20
    inputCount := u32 b 24, paramCount := u32 b 28, substLimit := u16 b 32, offsets := fields32 b 40 6
    patternHash := wordsLE (sha384 (patternBytes b))
    entities := (rowsAt b (u32 b 40) 32 (u32 b 20)).map readEntity, inputs := (rowsAt b (u32 b 44) 16 (u32 b 24)).map readInput
    params := floats32 b (u32 b 48) (u32 b 28), signs := bitsAt b (u32 b 52) n, colPtr := fields32 b (u32 b 56) (n + 1)
    rowIdx := fields32 b (u32 b 60) (u32 b 16) }
/-- See readModel. -/
def breachModel (b : List Nat) : Breach :=
  lowest [zeros b 34 6, tablesAt b 64 (modelTables b),
    eachRow (fun r => lowest [zeros r 7 1, zeros r 18 2, zeros r 26 6]) 32 (u32 b 40) (rowsAt b (u32 b 40) 32 (u32 b 20)),
    eachRow (fun r => lowBits r 5 2) 16 (u32 b 44) (rowsAt b (u32 b 44) 16 (u32 b 24)), padBits b (u32 b 52) (u32 b 8)]

/-- An operand word: kind and index (R147). -/
def readOperand (b : List Nat) (o : Nat) : Nat × Nat := (u32 b o / 2 ^ 28, u32 b o % 2 ^ 28)
/-- A stencil entry (R145). -/
def readStencil (b : List Nat) : StencilCfg :=
  { targetClass := u32 b 0 / 2 ^ 29, target := u32 b 0 % 2 ^ 29, kernel := u8 b 4, accumulate := bitAt b 5 0, rep := u16 b 6
    targetStride := u32 b 8, a := readOperand b 12, b := readOperand b 16, c := readOperand b 20, k := wordAt b 24
    planStride := u32 b 28 }
/-- Where the entries of STENCILS begin. -/
def stencilsAt (constCount : Nat) : Nat := (32 + 8 * constCount + 31) / 32 * 32
/-- STENCILS (R145). -/
def readStencils (b : List Nat) : StencilsSec :=
  { entryCount := u32 b 0, constCount := u32 b 4, evalCount := u32 b 8, scratchCount := u32 b 12
    consts := floats64 b 32 (u32 b 4), entries := (rowsAt b (stencilsAt (u32 b 4)) 32 (u32 b 0)).map readStencil }
/-- See readStencils. -/
def breachStencils (b : List Nat) : Breach :=
  let o := stencilsAt (u32 b 4)
  lowest [zeros b 16 16, eachRow (fun r => lowBits r 5 1) 32 o (rowsAt b o 32 (u32 b 0)), reaches b (o + 32 * u32 b 0)]

/-! ### STORYBOARD -/

/-- A supernode record (R163). -/
def readSupernode (b : List Nat) : SupernodeCfg :=
  { first := u32 b 0, width := u32 b 4, height := u32 b 8, snrowFirst := u32 b 12, factorOffset := u32 b 16, parent := optAt b 20
    home := u8 b 24, sramAddr := u32 b 28 }
/-- An operation record (R165). -/
def readOp (b : List Nat) : StoryOp :=
  { opcode := u8 b 0, cluster := u8 b 1, tileFirst := u8 b 2, tileCount := u8 b 3, target := u32 b 4, source := u32 b 8
    count := u32 b 12, srcRow := u32 b 16, srcCol := u32 b 20, arg := u16 b 24, stream := bitAt b 26 0, joined := bitAt b 26 1
    peer := u8 b 27, cycles := u32 b 28 }
/-- The tables of STORYBOARD: offset field, offset, bytes. -/
def storyTables (b : List Nat) : List (Nat × Nat × Nat) :=
  [(24, u32 b 24, 4 * u32 b 0), (28, u32 b 28, 32 * u32 b 4), (32, u32 b 32, 4 * u32 b 16), (36, u32 b 36, 8 * u16 b 20),
    (40, u32 b 40, 32 * u32 b 12)]
/-- STORYBOARD (R162 to R165). -/
def readStory (b : List Nat) : StorySec :=
  { rowCount := u32 b 0, supernodeCount := u32 b 4, factorEntries := u32 b 8, opCount := u32 b 12, snrowCount := u32 b 16
    barrierCount := u16 b 20, clusterMask := u8 b 22, refineSteps := u8 b 23, offsets := fields32 b 24 5, iterTicks := u32 b 44
    segments := (rowsAt b 48 16 4).map (fun r => (u32 r 0, u32 r 4, u32 r 8)), factorFlop := u64 b 112
    patternHash := wordsLE (slice b 128 48), perm := fields32 b (u32 b 24) (u32 b 0)
    supernodes := (rowsAt b (u32 b 28) 32 (u32 b 4)).map readSupernode, snrows := fields32 b (u32 b 32) (u32 b 16)
    barriers := (rowsAt b (u32 b 36) 8 (u16 b 20)).map (fun r => (u8 r 0, u16 r 2))
    ops := (rowsAt b (u32 b 40) 32 (u32 b 12)).map readOp }
/-- See readStory. A breach in an operation has the record's offset (R175). -/
def breachStory (b : List Nat) : Breach :=
  lowest [eachRow (fun r => zeros r 12 4) 16 48 (rowsAt b 48 16 4), zeros b 120 8, zeros b 176 16, tablesAt b 192 (storyTables b),
    eachRow (fun r => zeros r 25 3) 32 (u32 b 28) (rowsAt b (u32 b 28) 32 (u32 b 4)),
    eachRow (fun r => lowest [zeros r 1 1, zeros r 4 4]) 8 (u32 b 36) (rowsAt b (u32 b 36) 8 (u16 b 20)),
    eachRow (fun r => holdsAt (decide (u8 r 26 < 4)) 0) 32 (u32 b 40) (rowsAt b (u32 b 40) 32 (u32 b 12))]

/-! ### SOLVER -/

/-- A setpoint map entry (R191). -/
def readSetpoint (b : List Nat) : SetpointCfg := { row := u32 b 0, kind := u8 b 4, convert := u8 b 5, target := u32 b 8 }
/-- SOLVER (R190, R191) over `n` rows. -/
def readSolver (n : Nat) (b : List Nat) : SolverSec :=
  { period := u32 b 0, phase := u32 b 4, deadline := u32 b 8, maxIter := u8 b 12, refineMax := u8 b 13, terminal := u8 b 14
    startGuard := bitAt b 15 0, pivotTau := wordAt b 16, refineTol := wordAt b 20, feasGate := wordAt b 24, primalTol := wordAt b 28
    dualTol := wordAt b 32, gapTol := wordAt b 36, sigma := wordAt b 40, stepFraction := wordAt b 44, alphaMin := wordAt b 48
    mu0 := wordAt b 52, push := wordAt b 56, setpointCount := u32 b 60, offsets := fields32 b 64 3
    initial := floats64 b (u32 b 64) n, rates := if u32 b 68 = 0 then [] else bitsAt b (u32 b 68) n
    setpoints := (rowsAt b (u32 b 72) 16 (u32 b 60)).map readSetpoint }
/-- See readSolver. -/
def breachSolver (n : Nat) (b : List Nat) : Breach :=
  lowest [lowBits b 15 1, holdsAt (u32 b 64 % 64 == 0) 64, holdsAt (u32 b 68 % 64 == 0) 68, holdsAt (u32 b 72 % 64 == 0) 72,
    zeros b 76 52, reaches b 128, reaches b (u32 b 64 + 8 * n), if u32 b 68 = 0 then none else reaches b (u32 b 68 + (n + 7) / 8),
    reaches b (u32 b 72 + 16 * u32 b 60),
    eachRow (fun r => lowest [zeros r 6 2, zeros r 12 4]) 16 (u32 b 72) (rowsAt b (u32 b 72) 16 (u32 b 60))]

/-! ### LOOPS -/

/-- A loop entry (R218, R219). -/
def readLoop (b : List Nat) : LoopCfg :=
  { loop := u16 b 0, form := u8 b 2, rateExp := u8 b 3, phase := u16 b 4, comp := u8 b 6, fallback := u8 b 7, reverse := bitAt b 8 0
    onQuestionable := bitAt b 8 1, onAbsent := bitAt b 8 2, spFromPoint := bitAt b 8 3, repLength := u16 b 10, pvPoint := u32 b 12
    spPoint := u32 b 16, ffPoint := optAt b 20, posPoint := optAt b 24, outPoint := u32 b 28, tableIndex := optAt b 32
    statusPoint := optAt b 36, repLead := u16 b 40, params := floats32 b 64 64 }
/-- An injection profile (R233). -/
def readProfile (b : List Nat) : Profile :=
  { shape := u8 b 0, injectAt := u8 b 1, amplitude := wordAt b 4, period := u32 b 8, duration := u32 b 12, seed := u32 b 16 }
/-- A capture descriptor (R235). -/
def readCapture (b : List Nat) : CaptureCfg :=
  { rateExp := u8 b 0, trigger := u8 b 1, preSamples := u16 b 2, samples := u32 b 4, trigPoint := u32 b 8, trigLevel := wordAt b 12
    signals := (fields32 b 16 4).map (fun v => (v % 1024, v / 4096 % 16)) }
/-- The tables of LOOPS: offset field, offset, bytes. -/
def loopTables (b : List Nat) : List (Nat × Nat × Nat) :=
  [(20, u32 b 20, 320 * u32 b 0), (24, u32 b 24, 2048 * u32 b 16), (28, u32 b 28, 32 * u16 b 4), (32, u32 b 32, 32 * u16 b 6)]
/-- LOOPS (R217). -/
def readLoops (b : List Nat) : LoopsSec :=
  { loopCount := u32 b 0, profileCount := u16 b 4, captureCount := u16 b 6, tableCount := u32 b 16, offsets := fields32 b 20 4
    worstCycles := u32 b 8, maxDue := u32 b 12, loops := (rowsAt b (u32 b 20) 320 (u32 b 0)).map readLoop
    tables := (rowsAt b (u32 b 24) 2048 (u32 b 16)).map (fun r => (floats32 r 0 256, floats32 r 1024 256))
    profiles := (rowsAt b (u32 b 28) 32 (u16 b 4)).map readProfile, captures := (rowsAt b (u32 b 32) 32 (u16 b 6)).map readCapture }
/-- Bits 11:10 and 31:16 of a signal word are 0 (R235). -/
def signalBits0 (b : List Nat) (o : Nat) : Breach := holdsAt (u32 b o / 1024 % 4 == 0 && u32 b o / 65536 == 0) o
/-- See readLoops. -/
def breachLoops (b : List Nat) : Breach :=
  lowest [zeros b 36 28, tablesAt b 64 (loopTables b),
    eachRow (fun r => lowest [lowBits r 8 4, zeros r 9 1, zeros r 42 22]) 320 (u32 b 20) (rowsAt b (u32 b 20) 320 (u32 b 0)),
    eachRow (fun r => lowest [zeros r 2 2, zeros r 20 12]) 32 (u32 b 28) (rowsAt b (u32 b 28) 32 (u16 b 4)),
    eachRow (fun r => lowest ([16, 20, 24, 28].map (signalBits0 r))) 32 (u32 b 32) (rowsAt b (u32 b 32) 32 (u16 b 6))]

/-! ### LOGIC -/

/-- The tables of LOGIC: offset field, offset, bytes. -/
def logicTables (b : List Nat) : List (Nat × Nat × Nat) :=
  [(32, u32 b 32, 16 * u8 b 4), (36, u32 b 36, 4 * u32 b 0), (40, u32 b 40, 8 * u32 b 8), (44, u32 b 44, 8 * u32 b 12),
    (48, u32 b 48, 8 * u32 b 16), (52, u32 b 52, 4 * u32 b 20), (56, u32 b 56, (u32 b 24 + 7) / 8)]
/-- LOGIC (R259, R260). -/
def readLogic (b : List Nat) : LogicSec :=
  { instrCount := u32 b 0, taskCount := u8 b 4, constCount := u32 b 8, timerCount := u32 b 12, counterCount := u32 b 16
    edgeCount := u32 b 20, flagCount := u32 b 24, scratchCount := u16 b 28, offsets := fields32 b 32 7
    tasks := (rowsAt b (u32 b 32) 16 (u8 b 4)).map (fun r => { task := u8 r 0, first := u32 r 4, len := u32 r 8, slots := u32 r 12 })
    instrs := floats32 b (u32 b 36) (u32 b 0)
    consts := (rowsAt b (u32 b 40) 8 (u32 b 8)).map (fun r => (wordAt r 0, u8 r 4))
    timers := (rowsAt b (u32 b 44) 8 (u32 b 12)).map (fun r => { key := u32 r 0, preset := u16 r 4, kind := u8 r 6 })
    counters := (rowsAt b (u32 b 48) 8 (u32 b 16)).map (fun r => { key := u32 r 0, pv := u16 r 4, down := u8 r 6 == 1 })
    edges := fields32 b (u32 b 52) (u32 b 20), flagInit := bitsAt b (u32 b 56) (u32 b 24) }
/-- See readLogic. -/
def breachLogic (b : List Nat) : Breach :=
  lowest [zeros b 5 3, zeros b 30 2, zeros b 60 4, tablesAt b 64 (logicTables b),
    eachRow (fun r => zeros r 1 3) 16 (u32 b 32) (rowsAt b (u32 b 32) 16 (u8 b 4)),
    eachRow (fun r => zeros r 5 3) 8 (u32 b 40) (rowsAt b (u32 b 40) 8 (u32 b 8)),
    eachRow (fun r => zeros r 7 1) 8 (u32 b 44) (rowsAt b (u32 b 44) 8 (u32 b 12)),
    eachRow (fun r => lowest [boolByte r 6, zeros r 7 1]) 8 (u32 b 48) (rowsAt b (u32 b 48) 8 (u32 b 16))]

end Sys2Proof.Machine
end

