-- ==== Sys2Proof/Machine/ParseField.lean ====
section
/-! DEFINITION. The bodies of METROLOGY, METERING, NETWORK, LONG_REACH, STATIONS and CAN read from their bytes (R270, R271,
R284, R296, R312, R375 to R378, R405), and the breaches of their layouts. -/

namespace Sys2Proof.Machine

open Sys2Proof

/-! ### METROLOGY and METERING -/

/-- The bytes of a part, by the position of its OFFSET field; none where its offset and length are 0 (R270). -/
def partAt (b : List Nat) (field : Nat) : Option (List Nat) :=
  if u32 b field = 0 && u32 b (field + 4) = 0 then none else some (slice b (u32 b field) (u32 b (field + 4)))
/-- A part at an offset that is a multiple of 64 past the header, and that holds the bytes it needs; `f` is the breach
within the part. -/
def breachPart (b : List Nat) (field : Nat) (need_ : List Nat → Nat) (f : List Nat → Breach) : Breach :=
  match partAt b field with
  | none => none
  | some p =>
    lowest [holdsAt (u32 b field % 64 == 0 && decide (64 ≤ u32 b field)) field, holdsAt (decide (need_ p ≤ u32 b (field + 4))) (field + 4),
      reaches b (u32 b field + u32 b (field + 4)), (f p).map (u32 b field + ·)]

/-- A voltage channel entry (R271). -/
def readVolt (b : List Nat) : VoltCfg := { used := u8 b 0 == 1, ratio := wordAt b 4, gain := wordAt b 8, offset := wordAt b 12 }
/-- A current channel entry. -/
def readCurr (b : List Nat) : CurrCfg :=
  { sensor := u8 b 0, voltChannel := u8 b 1, phaseDelay := signedOf 16 (u16 b 2), ratio := wordAt b 4, iGain := wordAt b 8
    iOffset := wordAt b 12, pGain := wordAt b 16, pOffset := wordAt b 20, qGain := wordAt b 24, qOffset := wordAt b 28 }
/-- A meter entry: the elements before the first 0xFF. -/
def readMeter (b : List Nat) : MeterCfg :=
  { meter := u8 b 0, wiring := u8 b 1, voltageSet := u8 b 2, elements := (slice b 4 3).filter (fun e => e != 0xFF) }
/-- The electrical part of METROLOGY (R271). -/
def readElec (b : List Nat) : ElecMetro :=
  { meterCount := u8 b 1, nominalHz := u8 b 0, grouping := u8 b 2, nominalV := wordAt b 4, noload := wordAt b 8, vloss := wordAt b 12
    volts := (rowsAt b 32 16 12).map readVolt, currents := (rowsAt b 224 32 48).map readCurr
    meters := (rowsAt b 1760 16 (u8 b 1)).map readMeter }
/-- Elements fill from ELEMENT_0; the rest is 0xFF. -/
def breachMeter (r : List Nat) : Breach :=
  let n := if u8 r 1 = 2 then 3 else 1
  lowest ([zeros r 3 1, zeros r 7 9] ++ [0, 1, 2].map (fun i => holdsAt ((u8 r (4 + i) == 0xFF) == decide (n ≤ i)) (4 + i)))
/-- See readElec. -/
def breachElec (b : List Nat) : Breach :=
  lowest [zeros b 3 1, zeros b 16 16, eachRow (fun r => lowest [boolByte r 0, zeros r 1 3]) 16 32 (rowsAt b 32 16 12),
    eachRow breachMeter 16 1760 (rowsAt b 1760 16 (u8 b 1))]
/-- A calculator entry (R296). -/
def readCalc (b : List Nat) : CalcCfg :=
  { number := u8 b 0, mode := u8 b 1, flowKind := u8 b 2, install := u8 b 3, rtdForward := u8 b 4, rtdReturn := u8 b 5
    flowPoint := u32 b 8, directionPoint := optAt b 12, volumePerPulse := wordAt b 16, flowCutoff := wordAt b 20
    pressure := wordAt b 24, dtCutoff := wordAt b 28, switchTemp := wordAt b 32, tFwdOffset := wordAt b 36, tRetOffset := wordAt b 40
    tariffSource := u8 b 44, tariffPoint := optAt b 48, returnLimit := wordAt b 52 }
/-- The thermal part of METROLOGY (R296). -/
def readTherm (b : List Nat) : ThermMetro :=
  { calcCount := u8 b 0, batThreshold := wordAt b 4, calcs := (rowsAt b 32 64 (u8 b 0)).map readCalc }
/-- See readTherm. -/
def breachTherm (b : List Nat) : Breach :=
  lowest [zeros b 1 3, zeros b 8 24,
    eachRow (fun r => lowest [zeros r 6 2, zeros r 45 3, zeros r 56 8]) 64 32 (rowsAt b 32 64 (u8 b 0))]
/-- METROLOGY (R270). -/
def readMetrology (b : List Nat) : MetrologySec :=
  { elecAt := u32 b 0, thermAt := u32 b 8, hash := wordsLE (sha384 b), elec := (partAt b 0).map readElec, therm := (partAt b 8).map readTherm }
/-- See readMetrology. -/
def breachMetrology (b : List Nat) : Breach :=
  lowest [zeros b 16 48, reaches b 64, breachPart b 0 (fun p => 1760 + 16 * u8 p 1) breachElec,
    breachPart b 8 (fun p => 32 + 64 * u8 p 0) breachTherm]

/-- A point entry of METERING (R284, R312). -/
def readMeterPoint (b : List Nat) : MeterPoint := { point := u32 b 0, quantity := u8 b 4, object := u8 b 5, order := u8 b 6 }
/-- The electrical part of METERING (R284). -/
def readElecMeter (b : List Nat) : MeterPart :=
  { intervalMin := u8 b 0, export_ := bitAt b 1 0, entryCount := u16 b 2, points := (rowsAt b 16 8 (u16 b 2)).map readMeterPoint }
/-- See readElecMeter. -/
def breachElecMeter (b : List Nat) : Breach :=
  lowest [lowBits b 1 1, zeros b 4 12, eachRow (fun r => zeros r 7 1) 8 16 (rowsAt b 16 8 (u16 b 2))]
/-- The thermal part of METERING (R312). -/
def readThermMeter (b : List Nat) : MeterPart :=
  { intervalMin := u8 b 0, export_ := bitAt b 1 0, saveMin := u8 b 2, entryCount := u16 b 4
    points := (rowsAt b 16 8 (u16 b 4)).map readMeterPoint }
/-- See readThermMeter. -/
def breachThermMeter (b : List Nat) : Breach :=
  lowest [lowBits b 1 1, zeros b 3 1, zeros b 6 10, eachRow (fun r => zeros r 7 1) 8 16 (rowsAt b 16 8 (u16 b 4))]
/-- METERING (R270). -/
def readMetering (b : List Nat) : MeteringSec :=
  { elecAt := u32 b 0, thermAt := u32 b 8, elec := (partAt b 0).map readElecMeter, therm := (partAt b 8).map readThermMeter }
/-- See readMetering. -/
def breachMetering (b : List Nat) : Breach :=
  lowest [zeros b 16 48, reaches b 64, breachPart b 0 (fun p => 16 + 8 * u16 p 2) breachElecMeter,
    breachPart b 8 (fun p => 16 + 8 * u16 p 4) breachThermMeter]

/-! ### NETWORK, LONG_REACH and STATIONS -/

/-- NETWORK (R375, R376). -/
def readNetwork (b : List Nat) : NetworkSec :=
  { portMask := u8 b 0, modes := slice b 1 2, ipv6 := u8 b 3, udpPort := u16 b 4, dscp := u8 b 6
    service := [address b 8, address b 24], group := [address b 40, address b 56], lifeCheckMs := u16 b 72, entryForgetMs := u16 b 74
    pointCount := u16 b 76
    points := (rowsAt b 96 8 (u16 b 76)).map (fun r => { point := u32 r 0, quantity := u8 r 4, object := u8 r 5 }) }
/-- See readNetwork. -/
def breachNetwork (b : List Nat) : Breach :=
  lowest [zeros b 7 1, zeros b 78 18, eachRow (fun r => zeros r 6 2) 8 96 (rowsAt b 96 8 (u16 b 76)), reaches b (96 + 8 * u16 b 76)]

/-- A port entry of LONG_REACH (R377). -/
def readLrPort (b : List Nat) : LrPort :=
  { used := u8 b 0 == 1, powerClass := u8 b 1, amplitude := u8 b 2, ipv6 := u8 b 3 == 1, addr := address b 4 }
/-- LONG_REACH (R377). -/
def readLongReach (b : List Nat) : LongReachSec := { budgetMw := u32 b 0, ports := (rowsAt b 16 32 8).map readLrPort }
/-- See readLongReach. -/
def breachLongReach (b : List Nat) : Breach :=
  lowest [zeros b 4 12, eachRow (fun r => lowest [boolByte r 0, boolByte r 3, zeros r 20 12]) 32 16 (rowsAt b 16 32 8), reaches b 272]

/-- A slot entry (R378). -/
def readSlot (b : List Nat) : SlotCfg :=
  { slot := u8 b 0, output := bitAt b 1 7, cls := u8 b 1 % 4, typ := u8 b 2, outSource := u8 b 3, arg := u32 b 4 }
/-- A station entry, whose slots are among those given. -/
def readStation (slots : List SlotCfg) (b : List Nat) : StationCfg :=
  { station := u16 b 0, attach := u8 b 2, lrPort := u8 b 3, missLimit := u8 b 4, keyId := u64 b 8, address := address b 16
    mac := natLE (slice b 32 6), holdMs := u16 b 38, phases := [u16 b 40, u16 b 42, u16 b 44], launchNs := u32 b 48
    slotFirst := u32 b 52, slotCount := u16 b 56, slots := (slots.drop (u32 b 52)).take (u16 b 56) }
/-- STATIONS (R378). -/
def readStations (b : List Nat) : StationsSec :=
  let slots := (rowsAt b (u32 b 8) 8 (u32 b 4)).map readSlot
  { stationCount := u16 b 0, slotCount := u32 b 4, slotOffset := u32 b 8
    stations := (rowsAt b 16 64 (u16 b 0)).map (readStation slots) }
/-- See readStations. -/
def breachStations (b : List Nat) : Breach :=
  lowest [zeros b 2 2, zeros b 12 4, holdsAt (u32 b 8 % 64 == 0 && decide (16 + 64 * u16 b 0 ≤ u32 b 8)) 8,
    reaches b (u32 b 8 + 8 * u32 b 4),
    eachRow (fun r => lowest [zeros r 5 3, zeros r 46 2, holdsAt (decide (u32 r 52 + u16 r 56 ≤ u32 b 4)) 52, zeros r 58 6]) 64 16
      (rowsAt b 16 64 (u16 b 0)),
    eachRow (fun r => holdsAt (u8 r 1 / 4 % 32 == 0) 1) 8 (u32 b 8) (rowsAt b (u32 b 8) 8 (u32 b 4))]

/-! ### CAN -/

/-- A buffer entry (R405). -/
def readCanBuffer (b : List Nat) : CanBufCfg :=
  { buffer := u8 b 0, kind := u8 b 1, fdf := bitAt b 2 0, brs := bitAt b 2 1, ide := bitAt b 2 2, dlc := u8 b 3, id := u32 b 4
    signalFirst := u32 b 8, signals := u16 b 12, maxAge := u16 b 14, period := u32 b 16, phase := u32 b 20 }
/-- A filter entry. -/
def readCanFilter (b : List Nat) : CanFilter :=
  { id := u32 b 0, mask := u32 b 4, ide := bitAt b 8 0, highPriority := bitAt b 8 1, host := bitAt b 8 2, buffer := u8 b 9 }
/-- A signal entry. -/
def readCanSignal (b : List Nat) : CanSignal :=
  { startBit := u16 b 0, length := u8 b 2, bigEndian := bitAt b 3 0, signed := bitAt b 3 1, float := bitAt b 3 2, point := u32 b 4
    scale := wordAt b 8, offset := wordAt b 12 }
/-- A window entry. -/
def readCanWindow (b : List Nat) : CanWindow := { kind := u8 b 0, startNs := u32 b 4, lengthNs := u32 b 8 }
/-- The port header at `o`, with its tables. -/
def readCanPort (b : List Nat) (o : Nat) : CanPortCfg :=
  let h := slice b o 64
  { windowCount := u8 h 10, bufferCount := u8 h 11, filterCount := u16 h 12, signalCount := u16 h 14, offsets := fields32 h 24 5
    tt := bitAt h 0 0, autoRecover := bitAt h 0 1, tdc := bitAt h 0 2, nbrp := u8 h 1, ntseg1 := u8 h 2, ntseg2 := u8 h 3, nsjw := u8 h 4
    dbrp := u8 h 5, dtseg1 := u8 h 6, dtseg2 := u8 h 7, dsjw := u8 h 8, tdcOffset := u8 h 9, cycleTicks := u16 h 16
    cyclePhase := u16 h 18, refId := u32 h 20 % 2 ^ 29, refIde := bitAt h 23 7
    buffers := (rowsAt b (u32 h 24) 32 (u8 h 11)).map readCanBuffer, filters := (rowsAt b (u32 h 28) 16 (u16 h 12)).map readCanFilter
    signals := (rowsAt b (u32 h 32) 16 (u16 h 14)).map readCanSignal, windows := (rowsAt b (u32 h 36) 16 (u8 h 10)).map readCanWindow
    matrix := if bitAt h 0 0 then slice b (u32 h 40) 4096 else [] }
/-- The offset of a port's header; none for an unused port. -/
def canPortOffset (b : List Nat) (c : Nat) : Option Nat := if bitAt b 0 c then some (u32 b (4 + 4 * c)) else none
/-- CAN (R405). -/
def readCan (b : List Nat) : CanSec :=
  { offsets := fields32 b 4 4, ports := (List.range 4).map (fun c => (canPortOffset b c).map (readCanPort b)) }
/-- A table's offset is a multiple of 64 past the body's header, and the body reaches the table's end. -/
def canTable (b : List Nat) (field size n : Nat) : Breach :=
  if n = 0 then holdsAt (u32 b field % 64 == 0) field
  else lowest [holdsAt (u32 b field % 64 == 0 && decide (32 ≤ u32 b field)) field, reaches b (u32 b field + size * n)]
/-- See readCanPort, for the port header at `o`. -/
def breachCanPort (b : List Nat) (o : Nat) : Breach :=
  let rows := fun (field size n : Nat) (f : List Nat → Breach) => eachRow f size (u32 b (o + field)) (rowsAt b (u32 b (o + field)) size n)
  let nb := u8 b (o + 11)
  let nf := u16 b (o + 12)
  let ns := u16 b (o + 14)
  let nw := u8 b (o + 10)
  lowest [lowBits b o 3, holdsAt (u32 b (o + 20) / 2 ^ 29 % 4 == 0) (o + 20), zeros b (o + 44) 20, reaches b (o + 64),
    canTable b (o + 24) 32 nb, canTable b (o + 28) 16 nf, canTable b (o + 32) 16 ns, canTable b (o + 36) 16 nw,
    if bitAt b o 0 then canTable b (o + 40) 1 4096 else none,
    rows 24 32 nb (fun r => lowest [lowBits r 2 3, zeros r 24 8]), rows 28 16 nf (fun r => lowest [lowBits r 8 3, zeros r 10 6]),
    rows 32 16 ns (fun r => lowBits r 3 3), rows 36 16 nw (fun r => lowest [zeros r 1 3, zeros r 12 4])]
/-- See readCan. -/
def breachCan (b : List Nat) : Breach :=
  lowest ([lowBits b 0 4, zeros b 1 3, zeros b 20 12, reaches b 32] ++
    (List.range 4).map (fun c => match canPortOffset b c with
      | none => zeros b (4 + 4 * c) 4
      | some o => lowest [holdsAt (o % 64 == 0 && decide (32 ≤ o)) (4 + 4 * c), breachCanPort b o]))

end Sys2Proof.Machine
end

