-- ==== Sys2Proof/Machine/Parse.lean ====
section
/-! DEFINITION. A Reel read from its bytes: header, section table and, once a section is decrypted, its body (R61 to R66). -/

namespace Sys2Proof.Machine

open Sys2Proof

/-- The header (R61). -/
def readHeader (b : List Nat) : ReelHeader :=
  { magic := u32 b 0, formatMajor := u16 b 4, formatMinor := u16 b 6, totalLength := u64 b 8, sectionCount := u16 b 16
    flags := u16 b 18, requiredUnits := u32 b 20, requiredClusters := u8 b 24, requiredPorts := u8 b 25, reserved := u16 b 26
    buildNumber := u32 b 28, serial := u64 b 32, engKeyId := u64 b 40, reelKeyId := u64 b 48, salt := slice b 56 32
    label := slice b 88 64, compiler := (rowsAt b 152 2 4).map natLE, signature := slice b 160 96 }
/-- A section table entry (R62). -/
def readEntry (b : List Nat) : SectionEntry :=
  { typ := u16 b 0, bodyVersion := u16 b 2, flags := u32 b 4, offset := u64 b 8, length := u64 b 16, plainLength := u64 b 24
    hash := slice b 32 48, aad := slice b 0 32 }
/-- A section type of R65. -/
def knownType (t : Nat) : Bool := decide (1 ≤ t) && decide (t ≤ 0x19)
/-- A table entry is one that this manual defines. -/
def knownEntry (e : SectionEntry) : Bool := knownType e.typ && e.bodyVersion == 1
/-- A table entry is encrypted, or optional. -/
def entEncrypted (e : SectionEntry) : Bool := e.flags % 2 == 1
/-- See entEncrypted. -/
def entOptional (e : SectionEntry) : Bool := e.flags / 2 % 2 == 1

/-! ### Decryption (R66) -/

/-- The ASCII bytes of WNRL-CONTENT. -/
def contentInfo : List Nat := [0x57, 0x4E, 0x52, 0x4C, 0x2D, 0x43, 0x4F, 0x4E, 0x54, 0x45, 0x4E, 0x54]
/-- The content key, from the Reel key. DEDUCED, log entry 38. -/
def contentKey (h : ReelHeader) (reelKey : List Nat) : List Nat := hkdf384 h.salt reelKey (contentInfo ++ bytesLE 8 h.serial) 32
/-- The nonce of the section with an index. DEDUCED, log entry 38. -/
def sectionNonce (i : Nat) : List Nat := bytesLE 4 i ++ List.replicate 8 0
/-- The stored bytes of the section with an index. -/
def storedBytes (x : ReelImage) (i : Nat) (e : SectionEntry) : List Nat := (x.stored.getD i []).take e.length
/-- The body of a section: what it stores, or the plaintext of that. DEDUCED, log entry 38. -/
def plainBody (h : ReelHeader) (reelKey : List Nat) (i : Nat) (e : SectionEntry) (stored : List Nat) : List Nat :=
  if entEncrypted e then gcmText (contentKey h reelKey) (sectionNonce i) (stored.take (e.length - 16)) else stored
/-- The tag of an encrypted section verifies. DEDUCED, log entry 38. -/
def tagOk (h : ReelHeader) (reelKey : List Nat) (i : Nat) (e : SectionEntry) (stored : List Nat) : Bool :=
  let n := e.length - 16
  gcmTag (contentKey h reelKey) (sectionNonce i) e.aad (stored.take n) == stored.drop n
/-- The bodies of the entries that this manual defines, by TYPE; entries from index `i` on. -/
def bodiesFrom (x : ReelImage) (h : ReelHeader) (reelKey : List Nat) : Nat → List SectionEntry → List (Nat × List Nat)
  | _, [] => []
  | i, e :: t =>
    let rest := bodiesFrom x h reelKey (i + 1) t
    if knownEntry e then (e.typ, plainBody h reelKey i e (storedBytes x i e)) :: rest else rest
/-- The body of a TYPE. -/
def bodyFor (l : List (Nat × List Nat)) (t : Nat) : Option (List Nat) := (l.find? (fun e => e.1 == t)).map Prod.snd

/-! ### The whole -/

/-- The lowest breach of a body's layout, by TYPE; `n` is MODEL's ROW_COUNT. DEDUCED, log entry 24. -/
def breachOf (n t : Nat) (b : List Nat) : Breach :=
  match t with
  | 0x01 => breachStart b
  | 0x02 => breachSheet b
  | 0x03 => breachSafe b
  | 0x04 => breachPower b
  | 0x05 => breachTime b
  | 0x06 => breachPoints b
  | 0x07 => breachLocalIo b
  | 0x08 => breachTunables b
  | 0x09 => breachModel b
  | 0x0A => breachStencils b
  | 0x0B => breachStory b
  | 0x0C => breachSolver n b
  | 0x0D => breachLoops b
  | 0x0E => breachLogic b
  | 0x0F => breachMetrology b
  | 0x10 => breachMetering b
  | 0x11 => breachSeal b
  | 0x12 => breachNetwork b
  | 0x13 => breachStations b
  | 0x14 => breachLongReach b
  | 0x15 => breachCan b
  | 0x16 => breachSpotlight b
  | 0x17 => breachRecorder b
  | 0x18 => breachSecurity b
  | 0x19 => breachHost b
  | _ => none
/-- REEL_HASH (R64): SHA-384 of header bytes 0 to 159 and the section table. -/
def reelHashBytes (x : ReelImage) : List Nat := sha384 (x.header.take 160 ++ x.table.take (80 * u16 x.header 16))
/-- The Reel of an image, its encrypted sections read with a Reel key. -/
def readReel (reelKey : List Nat) (x : ReelImage) : Reel :=
  let h := readHeader x.header
  let table := (rowsAt x.table 0 80 h.sectionCount).map readEntry
  let bodies := bodiesFrom x h reelKey 0 table
  let body := bodyFor bodies
  let rows := ((body 0x09).map (fun b => u32 b 8)).getD 0
  { header := h, hash := wordsLE (reelHashBytes x), table := table
    breaches := bodies.filterMap (fun e => (breachOf rows e.1 e.2).map (fun o => (e.1, o)))
    start := ((body 0x01).map readStart).getD {}, sheet := ((body 0x02).map readSheet).getD {}
    safe := ((body 0x03).map readSafe).getD {}, power := ((body 0x04).map readPower).getD {}
    time := ((body 0x05).map readTime).getD {}, points := ((body 0x06).map readPoints).getD []
    pointCount := ((body 0x06).map (fun b => u32 b 0)).getD 0
    localIo := (body 0x07).map readLocalIo, tunables := (body 0x08).map readTunables, model := (body 0x09).map readModel
    stencils := (body 0x0A).map readStencils, story := (body 0x0B).map readStory, solver := (body 0x0C).map (readSolver rows)
    loops := (body 0x0D).map readLoops, logic := (body 0x0E).map readLogic, metrology := (body 0x0F).map readMetrology
    metering := (body 0x10).map readMetering, metroSeal := (body 0x11).map readSeal, network := (body 0x12).map readNetwork
    stations := (body 0x13).map readStations, longReach := (body 0x14).map readLongReach, can := (body 0x15).map readCan
    spotlight := (body 0x16).map readSpotlight, recorder := (body 0x17).map readRecorder
    security := (body 0x18).map readSecurity, host := (body 0x19).map readHost }

end Sys2Proof.Machine
end

