-- ==== Sys2Proof/Config.lean ====
section
/-! DEFINITION. Values that the manual leaves open, as uninterpreted constants: nothing can be proved of what
they are, so a claim about the machine holds for every value of them. Each is named in the assumption log. -/

namespace Sys2Proof

/-- The n-th free value a step draws: random bytes, first exchange numbers and every other value the manual
leaves undefined or to chance. The counter is State.free. DESIGN CHOICE, log entry 3. -/
opaque Config.freeValue : Nat → BitVec 64

/-- The order of the roundings of a linear interpolation in binary64 (R149), which the manual does not give: one of four. -/
opaque Config.interpolationOrder : Nat

/-- Converter code of an analog output in a mode for the value to drive (R130); the manual does not give the scale
of the 16-bit converter. DESIGN CHOICE, log entry 5. -/
opaque Config.aoCode : Nat → BitVec 64 → Nat

/-- Weight of one code of a 24-bit voltage input, in volts, and of a current input, in volts at the input (R268,
R273); the manual does not give them. DESIGN CHOICE, log entry 5. -/
opaque Config.voltageCode : BitVec 64
/-- See voltageCode. DESIGN CHOICE, log entry 5. -/
opaque Config.currentCode : BitVec 64

/-- Value of a metrology parameter by its index, as a tunable of KIND 5 names it (R82); the manual does not number
the parameters. The first argument is the METRO_HASH of the METROLOGY section in force. DESIGN CHOICE, log entry 6. -/
opaque Config.metrologyParameter : List Nat → Nat → BitVec 32

/-- Length in bytes of the device certificate, and its mailbox words (R476); the manual bounds the length at 2,048 and
leaves the content to manufacture. DESIGN CHOICE, log entry 7. -/
opaque Config.certificateLength : Nat
/-- See certificateLength. DESIGN CHOICE, log entry 7. -/
opaque Config.certificateWord : Nat → BitVec 32

/-- The level of the RM_ALIVE input at a CLK_CORE count (R413): the edges between the commands of the model are the
Ringmaster's. DESIGN CHOICE, log entry 8. -/
opaque Config.rmAliveLevel : Nat → Bool

end Sys2Proof
end

