-- ==== Sys2Proof/Machine/Table.lean ====
section
/-! DEFINITION. A table keyed by numbers, in one canonical form: keys strictly rising, and no entry equal to
the default an unlisted key reads as. Registers, points and every other indexed store of the machine use it. -/

namespace Sys2Proof.Machine

/-- A sparse table: (key, value) pairs. -/
abbrev Table (α : Type) := List (Nat × α)

/-- The value at a key; an unlisted key reads as `d`. -/
def tableGet {α : Type} (d : α) : Table α → Nat → α
  | [], _ => d
  | (k, v) :: t, i => if k = i then v else tableGet d t i

/-- Remove a key. -/
def tableErase {α : Type} : Table α → Nat → Table α
  | [], _ => []
  | (k, v) :: t, i => if k = i then t else if i < k then (k, v) :: t else (k, v) :: tableErase t i

/-- Insert or replace a key, keeping the keys rising. -/
def tableInsert {α : Type} : Table α → Nat → α → Table α
  | [], i, x => [(i, x)]
  | (k, v) :: t, i, x =>
    if k = i then (i, x) :: t else if i < k then (i, x) :: (k, v) :: t else (k, v) :: tableInsert t i x

/-- Write a key. Writing the default removes the entry, so that equal tables are equal data. -/
def tablePut {α : Type} [DecidableEq α] (d : α) (t : Table α) (i : Nat) (x : α) : Table α :=
  if x = d then tableErase t i else tableInsert t i x

/-- The canonical form: keys strictly rising and no entry equal to the default. -/
def tableWf {α : Type} [DecidableEq α] (d : α) : Table α → Bool
  | [] => true
  | [(_, v)] => decide (v ≠ d)
  | (k, v) :: (k', v') :: t => decide (v ≠ d) && decide (k < k') && tableWf d ((k', v') :: t)

/-- The element of a list at an index, or a default. -/
def listGet {α : Type} (d : α) (l : List α) (i : Nat) : α := l.getD i d

/-- A list with one element replaced; an index outside the list changes nothing. -/
def listPut {α : Type} (l : List α) (i : Nat) (x : α) : List α := l.set i x

/-- Update one element of a list through a function. -/
def listUpd {α : Type} (d : α) (l : List α) (i : Nat) (f : α → α) : List α := l.set i (f (l.getD i d))

end Sys2Proof.Machine
end

