-- ==== Sys2Proof/Machine/Regs.lean ====
section
/-! DEFINITION. The register map: every field of every register window, with its bits, access code and reset
value, as the register tables of the unit chapters give them (R10, R5, R6; the windows of R46, R105, R136, R137,
R159, R184, R185, R213, R238, R266, R293, R321, R322, R347, R379, R380, R381, R408, R432, R455, R472, R495, R511,
R514, R533). The UNIT.REGISTER.FIELD names are the manual's; a register with one field carries the register's name.
A retained field (PD0, flash, one-time-programmable) has the value of a module fresh from the factory as its reset
value. -/

namespace Sys2Proof.Machine

/-- Access codes of R6. -/
inductive Access where
  | ro | rw | wo | w1c | rc | tk | lk
deriving DecidableEq, Repr

/-- One field of one register: BAR0 address of its word, lowest bit, width, access code, reset value. -/
structure Field where
  addr : Nat
  lsb : Nat
  width : Nat
  access : Access
  reset : Nat
deriving DecidableEq, Repr

/-- The key a field has in the register file. -/
def fieldKey (f : Field) : Nat := f.addr * 32 + f.lsb

/-- The registers of one row of an offset table: the first register's address, its index strides and counts
(widest first), and its fields. -/
structure RegRow where
  base : Nat
  dims : List (Nat × Nat)
  fields : List Field
deriving DecidableEq, Repr

/-! ### DEV -/

def F.DEV.UNIT_ID_IDENT : Field := ⟨0x0000000, 16, 16, .ro, 0x4445⟩
def F.DEV.UNIT_ID_UNIT : Field := ⟨0x0000000, 8, 8, .ro, 0⟩
def F.DEV.UNIT_ID_REVISION : Field := ⟨0x0000000, 0, 8, .ro, 1⟩
def F.DEV.STATE_BOOT_HALTED : Field := ⟨0x0000004, 9, 1, .ro, 0⟩
def F.DEV.STATE_RECOVERY : Field := ⟨0x0000004, 8, 1, .ro, 0⟩
def F.DEV.STATE_STATE : Field := ⟨0x0000004, 0, 4, .ro, 1⟩
def F.DEV.UNITS_PRESENT : Field := ⟨0x0000008, 0, 24, .ro, 0xFFFFFF⟩
def F.DEV.PART : Field := ⟨0x000000C, 0, 16, .ro, 0⟩
def F.DEV.SERIAL_LO : Field := ⟨0x0000010, 0, 32, .ro, 0⟩
def F.DEV.SERIAL_HI : Field := ⟨0x0000014, 0, 32, .ro, 0⟩
def F.DEV.BOOT_IMAGE_VERSION : Field := ⟨0x0000018, 16, 16, .ro, 0⟩
def F.DEV.BOOT_IMAGE_IMAGE : Field := ⟨0x0000018, 0, 1, .ro, 0⟩
def F.DEV.BOOT_STATUS : Field := ⟨0x000001C, 0, 4, .ro, 0⟩
def F.DEV.ABSENT_ACCESS_COUNT : Field := ⟨0x0000020, 0, 32, .rc, 0⟩
def F.DEV.GATED_ACCESS_COUNT : Field := ⟨0x0000024, 0, 32, .rc, 0⟩
def F.DEV.HEALTH_LO : Field := ⟨0x0000028, 0, 32, .ro, 0⟩
def F.DEV.HEALTH_HI : Field := ⟨0x000002C, 0, 32, .ro, 0⟩
def rowsDEV0 : List RegRow := [
  ⟨0x0000000, [], [F.DEV.UNIT_ID_IDENT, F.DEV.UNIT_ID_UNIT, F.DEV.UNIT_ID_REVISION]⟩,
  ⟨0x0000004, [], [F.DEV.STATE_BOOT_HALTED, F.DEV.STATE_RECOVERY, F.DEV.STATE_STATE]⟩,
  ⟨0x0000008, [], [F.DEV.UNITS_PRESENT]⟩,
  ⟨0x000000C, [], [F.DEV.PART]⟩,
  ⟨0x0000010, [], [F.DEV.SERIAL_LO]⟩,
  ⟨0x0000014, [], [F.DEV.SERIAL_HI]⟩,
  ⟨0x0000018, [], [F.DEV.BOOT_IMAGE_VERSION, F.DEV.BOOT_IMAGE_IMAGE]⟩,
  ⟨0x000001C, [], [F.DEV.BOOT_STATUS]⟩,
  ⟨0x0000020, [], [F.DEV.ABSENT_ACCESS_COUNT]⟩,
  ⟨0x0000024, [], [F.DEV.GATED_ACCESS_COUNT]⟩,
  ⟨0x0000028, [], [F.DEV.HEALTH_LO]⟩,
  ⟨0x000002C, [], [F.DEV.HEALTH_HI]⟩]
/-- The registers of the DEV window. -/
def rowsDEV : List RegRow := rowsDEV0

/-! ### TICK -/

def F.TICK.UNIT_ID_IDENT : Field := ⟨0x0100000, 16, 16, .ro, 0x5449⟩
def F.TICK.UNIT_ID_UNIT : Field := ⟨0x0100000, 8, 8, .ro, 1⟩
def F.TICK.UNIT_ID_REVISION : Field := ⟨0x0100000, 0, 8, .ro, 1⟩
def F.TICK.STATUS_OUTPUT_LATE : Field := ⟨0x0100004, 2, 1, .w1c, 0⟩
def F.TICK.STATUS_CLAMPED : Field := ⟨0x0100004, 1, 1, .w1c, 0⟩
def F.TICK.STATUS_RUNNING : Field := ⟨0x0100004, 0, 1, .ro, 0⟩
def F.TICK.NUMBER_LO : Field := ⟨0x0100008, 0, 32, .ro, 0⟩
def F.TICK.NUMBER_HI : Field := ⟨0x010000C, 0, 32, .ro, 0⟩
def F.TICK.CONFIG_OVERRUN_LIMIT : Field := ⟨0x0100010, 8, 4, .lk, 0⟩
def F.TICK.CONFIG_CURTAIN_US : Field := ⟨0x0100010, 0, 7, .lk, 0⟩
def F.TICK.CURTAIN_CYCLE : Field := ⟨0x0100014, 0, 16, .ro, 0⟩
def F.TICK.OUTPUT_CYCLES : Field := ⟨0x0100018, 0, 16, .lk, 0⟩
def F.TICK.LENGTH_LAST : Field := ⟨0x010001C, 0, 16, .ro, 0⟩
def F.TICK.LENGTH_RANGE_MAX : Field := ⟨0x0100020, 16, 16, .rc, 0⟩
def F.TICK.LENGTH_RANGE_MIN : Field := ⟨0x0100020, 0, 16, .rc, 0xffff⟩
def F.TICK.OVERRUN : Field := ⟨0x0100024, 0, 24, .w1c, 0⟩
def F.TICK.OVERRUN_NOW : Field := ⟨0x0100028, 0, 24, .ro, 0⟩
def F.TICK.FAULTED : Field := ⟨0x010002C, 0, 24, .ro, 0⟩
def F.TICK.LATE : Field := ⟨0x0100030, 0, 24, .w1c, 0⟩
def F.TICK.OUTPUT_LATE_COUNT : Field := ⟨0x0100034, 0, 32, .rc, 0⟩
def F.TICK.CLAMP_COUNT : Field := ⟨0x0100038, 0, 32, .rc, 0⟩
def F.TICK.WORK_COUNT : Field := ⟨0x010003C, 0, 6, .lk, 0⟩
def F.TICK.CMD : Field := ⟨0x0100040, 0, 8, .wo, 0⟩
def F.TICK.CMD_ARG : Field := ⟨0x0100044, 0, 8, .rw, 0⟩
def F.TICK.CMD_RESULT_OPCODE : Field := ⟨0x0100048, 8, 8, .ro, 0⟩
def F.TICK.CMD_RESULT_RESULT : Field := ⟨0x0100048, 0, 8, .ro, 0⟩
def F.TICK.UNIT_BUDGET_START_CYCLE (i : Nat) : Field := ⟨(0x0100100 + 0x10 * i), 16, 16, .lk, 0⟩
def F.TICK.UNIT_BUDGET_BUDGET_CYCLES (i : Nat) : Field := ⟨(0x0100100 + 0x10 * i), 0, 16, .lk, 0⟩
def F.TICK.UNIT_OVERRUN_COUNT (i : Nat) : Field := ⟨(0x0100104 + 0x10 * i), 0, 32, .ro, 0⟩
def F.TICK.UNIT_STATE_POSTS (i : Nat) : Field := ⟨(0x0100108 + 0x10 * i), 24, 1, .lk, 0⟩
def F.TICK.UNIT_STATE_FAULTED (i : Nat) : Field := ⟨(0x0100108 + 0x10 * i), 20, 1, .ro, 0⟩
def F.TICK.UNIT_STATE_HEALTH (i : Nat) : Field := ⟨(0x0100108 + 0x10 * i), 16, 2, .ro, 0⟩
def F.TICK.UNIT_STATE_LIMIT (i : Nat) : Field := ⟨(0x0100108 + 0x10 * i), 8, 4, .lk, 0⟩
def F.TICK.UNIT_STATE_RUN (i : Nat) : Field := ⟨(0x0100108 + 0x10 * i), 0, 4, .ro, 0⟩
def F.TICK.UNIT_LAST_POST_ENTRIES (i : Nat) : Field := ⟨(0x010010C + 0x10 * i), 16, 7, .ro, 0⟩
def F.TICK.UNIT_LAST_POST_CYCLE (i : Nat) : Field := ⟨(0x010010C + 0x10 * i), 0, 16, .ro, 0xffff⟩
def F.TICK.WORK_ID_ROUND (i : Nat) : Field := ⟨(0x0100400 + 0x10 * i), 16, 1, .lk, 0⟩
def F.TICK.WORK_ID_UNIT (i : Nat) : Field := ⟨(0x0100400 + 0x10 * i), 8, 8, .lk, 0⟩
def F.TICK.WORK_ID_WORK (i : Nat) : Field := ⟨(0x0100400 + 0x10 * i), 0, 8, .lk, 0⟩
def F.TICK.WORK_PERIOD (i : Nat) : Field := ⟨(0x0100404 + 0x10 * i), 0, 32, .lk, 0⟩
def F.TICK.WORK_PHASE (i : Nat) : Field := ⟨(0x0100408 + 0x10 * i), 0, 32, .lk, 0⟩
def F.TICK.WORK_SLICE (i : Nat) : Field := ⟨(0x010040C + 0x10 * i), 0, 32, .lk, 0⟩
def rowsTICK0 : List RegRow := [
  ⟨0x0100000, [], [F.TICK.UNIT_ID_IDENT, F.TICK.UNIT_ID_UNIT, F.TICK.UNIT_ID_REVISION]⟩,
  ⟨0x0100004, [], [F.TICK.STATUS_OUTPUT_LATE, F.TICK.STATUS_CLAMPED, F.TICK.STATUS_RUNNING]⟩,
  ⟨0x0100008, [], [F.TICK.NUMBER_LO]⟩,
  ⟨0x010000C, [], [F.TICK.NUMBER_HI]⟩,
  ⟨0x0100010, [], [F.TICK.CONFIG_OVERRUN_LIMIT, F.TICK.CONFIG_CURTAIN_US]⟩,
  ⟨0x0100014, [], [F.TICK.CURTAIN_CYCLE]⟩,
  ⟨0x0100018, [], [F.TICK.OUTPUT_CYCLES]⟩,
  ⟨0x010001C, [], [F.TICK.LENGTH_LAST]⟩,
  ⟨0x0100020, [], [F.TICK.LENGTH_RANGE_MAX, F.TICK.LENGTH_RANGE_MIN]⟩,
  ⟨0x0100024, [], [F.TICK.OVERRUN]⟩,
  ⟨0x0100028, [], [F.TICK.OVERRUN_NOW]⟩,
  ⟨0x010002C, [], [F.TICK.FAULTED]⟩,
  ⟨0x0100030, [], [F.TICK.LATE]⟩,
  ⟨0x0100034, [], [F.TICK.OUTPUT_LATE_COUNT]⟩,
  ⟨0x0100038, [], [F.TICK.CLAMP_COUNT]⟩,
  ⟨0x010003C, [], [F.TICK.WORK_COUNT]⟩,
  ⟨0x0100040, [], [F.TICK.CMD]⟩,
  ⟨0x0100044, [], [F.TICK.CMD_ARG]⟩,
  ⟨0x0100048, [], [F.TICK.CMD_RESULT_OPCODE, F.TICK.CMD_RESULT_RESULT]⟩,
  ⟨0x0100100, [(0x10, 24)], [(F.TICK.UNIT_BUDGET_START_CYCLE 0), (F.TICK.UNIT_BUDGET_BUDGET_CYCLES 0)]⟩,
  ⟨0x0100104, [(0x10, 24)], [(F.TICK.UNIT_OVERRUN_COUNT 0)]⟩,
  ⟨0x0100108, [(0x10, 24)], [(F.TICK.UNIT_STATE_POSTS 0), (F.TICK.UNIT_STATE_FAULTED 0), (F.TICK.UNIT_STATE_HEALTH 0), (F.TICK.UNIT_STATE_LIMIT 0), (F.TICK.UNIT_STATE_RUN 0)]⟩,
  ⟨0x010010C, [(0x10, 24)], [(F.TICK.UNIT_LAST_POST_ENTRIES 0), (F.TICK.UNIT_LAST_POST_CYCLE 0)]⟩,
  ⟨0x0100400, [(0x10, 32)], [(F.TICK.WORK_ID_ROUND 0), (F.TICK.WORK_ID_UNIT 0), (F.TICK.WORK_ID_WORK 0)]⟩]
def rowsTICK1 : List RegRow := [
  ⟨0x0100404, [(0x10, 32)], [(F.TICK.WORK_PERIOD 0)]⟩,
  ⟨0x0100408, [(0x10, 32)], [(F.TICK.WORK_PHASE 0)]⟩,
  ⟨0x010040C, [(0x10, 32)], [(F.TICK.WORK_SLICE 0)]⟩]
/-- The registers of the TICK window. -/
def rowsTICK : List RegRow := rowsTICK0 ++ rowsTICK1

/-! ### TXN -/

def F.TXN.UNIT_ID_IDENT : Field := ⟨0x0200000, 16, 16, .ro, 0x5458⟩
def F.TXN.UNIT_ID_UNIT : Field := ⟨0x0200000, 8, 8, .ro, 2⟩
def F.TXN.UNIT_ID_REVISION : Field := ⟨0x0200000, 0, 8, .ro, 1⟩
def F.TXN.STATUS_LOG_FULL : Field := ⟨0x0200004, 9, 1, .ro, 0⟩
def F.TXN.STATUS_LOG_NEARLY_FULL : Field := ⟨0x0200004, 8, 1, .ro, 0⟩
def F.TXN.STATUS_QUEUED : Field := ⟨0x0200004, 3, 3, .ro, 0⟩
def F.TXN.STATUS_OPEN : Field := ⟨0x0200004, 0, 3, .ro, 0⟩
def F.TXN.LOAD_ERROR_SECTION : Field := ⟨0x0200008, 8, 8, .ro, 0xff⟩
def F.TXN.LOAD_ERROR_CODE : Field := ⟨0x0200008, 0, 8, .ro, 0⟩
def F.TXN.LOAD_DETAIL : Field := ⟨0x020000C, 0, 32, .ro, 0⟩
def F.TXN.REEL_HASH (i : Nat) : Field := ⟨(0x0200010 + 4 * i), 0, 32, .lk, 0⟩
def F.TXN.CMD : Field := ⟨0x0200040, 0, 8, .wo, 0⟩
def F.TXN.CMD_ARG0 : Field := ⟨0x0200044, 0, 32, .rw, 0⟩
def F.TXN.CMD_ARG1 : Field := ⟨0x0200048, 0, 32, .rw, 0⟩
def F.TXN.CMD_ARG2 : Field := ⟨0x020004C, 0, 32, .rw, 0⟩
def F.TXN.CMD_RESULT_OPCODE : Field := ⟨0x0200050, 8, 8, .ro, 0⟩
def F.TXN.CMD_RESULT_RESULT : Field := ⟨0x0200050, 0, 8, .ro, 0⟩
def F.TXN.CMD_RETURN : Field := ⟨0x0200054, 0, 32, .ro, 0⟩
def F.TXN.LAST_APPLIED_ID : Field := ⟨0x0200058, 0, 32, .ro, 0⟩
def F.TXN.NEXT_TAKE_ID : Field := ⟨0x020005C, 0, 32, .ro, 0⟩
def F.TXN.LOG_TAKES : Field := ⟨0x0200060, 0, 32, .ro, 0⟩
def F.TXN.LOG_BYTES : Field := ⟨0x0200064, 0, 32, .ro, 0⟩
def F.TXN.REFUSED_COUNT : Field := ⟨0x0200068, 0, 32, .rc, 0⟩
def F.TXN.SLOT_STATE_HANDLE (i : Nat) : Field := ⟨(0x0200100 + 0x10 * i), 16, 16, .ro, 0⟩
def F.TXN.SLOT_STATE_RESULT (i : Nat) : Field := ⟨(0x0200100 + 0x10 * i), 8, 8, .ro, 0⟩
def F.TXN.SLOT_STATE_STATE (i : Nat) : Field := ⟨(0x0200100 + 0x10 * i), 0, 4, .ro, 0⟩
def F.TXN.SLOT_WRITES (i : Nat) : Field := ⟨(0x0200104 + 0x10 * i), 0, 32, .ro, 0⟩
def F.TXN.SLOT_EXPIRY (i : Nat) : Field := ⟨(0x0200108 + 0x10 * i), 0, 32, .ro, 0⟩
def F.TXN.SLOT_TAKE_ID (i : Nat) : Field := ⟨(0x020010C + 0x10 * i), 0, 32, .ro, 0⟩
def rowsTXN0 : List RegRow := [
  ⟨0x0200000, [], [F.TXN.UNIT_ID_IDENT, F.TXN.UNIT_ID_UNIT, F.TXN.UNIT_ID_REVISION]⟩,
  ⟨0x0200004, [], [F.TXN.STATUS_LOG_FULL, F.TXN.STATUS_LOG_NEARLY_FULL, F.TXN.STATUS_QUEUED, F.TXN.STATUS_OPEN]⟩,
  ⟨0x0200008, [], [F.TXN.LOAD_ERROR_SECTION, F.TXN.LOAD_ERROR_CODE]⟩,
  ⟨0x020000C, [], [F.TXN.LOAD_DETAIL]⟩,
  ⟨0x0200010, [(4, 12)], [(F.TXN.REEL_HASH 0)]⟩,
  ⟨0x0200040, [], [F.TXN.CMD]⟩,
  ⟨0x0200044, [], [F.TXN.CMD_ARG0]⟩,
  ⟨0x0200048, [], [F.TXN.CMD_ARG1]⟩,
  ⟨0x020004C, [], [F.TXN.CMD_ARG2]⟩,
  ⟨0x0200050, [], [F.TXN.CMD_RESULT_OPCODE, F.TXN.CMD_RESULT_RESULT]⟩,
  ⟨0x0200054, [], [F.TXN.CMD_RETURN]⟩,
  ⟨0x0200058, [], [F.TXN.LAST_APPLIED_ID]⟩,
  ⟨0x020005C, [], [F.TXN.NEXT_TAKE_ID]⟩,
  ⟨0x0200060, [], [F.TXN.LOG_TAKES]⟩,
  ⟨0x0200064, [], [F.TXN.LOG_BYTES]⟩,
  ⟨0x0200068, [], [F.TXN.REFUSED_COUNT]⟩,
  ⟨0x0200100, [(0x10, 4)], [(F.TXN.SLOT_STATE_HANDLE 0), (F.TXN.SLOT_STATE_RESULT 0), (F.TXN.SLOT_STATE_STATE 0)]⟩,
  ⟨0x0200104, [(0x10, 4)], [(F.TXN.SLOT_WRITES 0)]⟩,
  ⟨0x0200108, [(0x10, 4)], [(F.TXN.SLOT_EXPIRY 0)]⟩,
  ⟨0x020010C, [(0x10, 4)], [(F.TXN.SLOT_TAKE_ID 0)]⟩]
/-- The registers of the TXN window. -/
def rowsTXN : List RegRow := rowsTXN0

/-! ### CLAP -/

def F.CLAP.UNIT_ID_IDENT : Field := ⟨0x0300000, 16, 16, .ro, 0x434c⟩
def F.CLAP.UNIT_ID_UNIT : Field := ⟨0x0300000, 8, 8, .ro, 3⟩
def F.CLAP.UNIT_ID_REVISION : Field := ⟨0x0300000, 0, 8, .ro, 1⟩
def F.CLAP.STATUS_FORCED : Field := ⟨0x0300004, 9, 1, .ro, 0⟩
def F.CLAP.STATUS_ALIGNED : Field := ⟨0x0300004, 8, 1, .ro, 0⟩
def F.CLAP.STATUS_LOCAL_QUALITY : Field := ⟨0x0300004, 4, 4, .ro, 0⟩
def F.CLAP.STATUS_LOCAL_RUNNING : Field := ⟨0x0300004, 3, 1, .ro, 0⟩
def F.CLAP.STATUS_SELECTED : Field := ⟨0x0300004, 0, 3, .ro, 0⟩
def F.CLAP.POWER_EPOCH : Field := ⟨0x0300008, 0, 32, .ro, 0⟩
def F.CLAP.CONFIG_SLEW_PPM : Field := ⟨0x030000C, 24, 8, .lk, 0⟩
def F.CLAP.CONFIG_ENABLED : Field := ⟨0x030000C, 20, 4, .lk, 0⟩
def F.CLAP.CONFIG_ALIGN_NS : Field := ⟨0x030000C, 0, 14, .lk, 0⟩
def F.CLAP.K_OFF_LO : Field := ⟨0x0300010, 0, 32, .ro, 0⟩
def F.CLAP.K_OFF_HI : Field := ⟨0x0300014, 0, 32, .ro, 0⟩
def F.CLAP.PHASE_ERROR : Field := ⟨0x0300018, 0, 32, .ro, 0⟩
def F.CLAP.RATE_OFFSET : Field := ⟨0x030001C, 0, 32, .ro, 0⟩
def F.CLAP.SWITCH_COUNT : Field := ⟨0x0300020, 0, 32, .rc, 0⟩
def F.CLAP.CMD : Field := ⟨0x0300040, 0, 8, .wo, 0⟩
def F.CLAP.CMD_ARG0 : Field := ⟨0x0300044, 0, 32, .rw, 0⟩
def F.CLAP.CMD_ARG1 : Field := ⟨0x0300048, 0, 32, .rw, 0⟩
def F.CLAP.CMD_ARG2 : Field := ⟨0x030004C, 0, 32, .rw, 0⟩
def F.CLAP.CMD_RESULT_OPCODE : Field := ⟨0x0300050, 8, 8, .ro, 0⟩
def F.CLAP.CMD_RESULT_RESULT : Field := ⟨0x0300050, 0, 8, .ro, 0⟩
def F.CLAP.NOW_LO (i : Nat) : Field := ⟨(0x0300100 + 0x40 * i), 0, 32, .ro, 0⟩
def F.CLAP.NOW_HI (i : Nat) : Field := ⟨(0x0300104 + 0x40 * i), 0, 32, .ro, 0⟩
def F.CLAP.INC_FRAC (i : Nat) : Field := ⟨(0x0300108 + 0x40 * i), 0, 32, .ro, 0⟩
def F.CLAP.INC_NS (i : Nat) : Field := ⟨(0x030010C + 0x40 * i), 0, 32, .ro, 4⟩
def F.CLAP.BASE_PTP_DOMAIN (i : Nat) : Field := ⟨(0x0300110 + 0x40 * i), 24, 8, .lk, 0⟩
def F.CLAP.BASE_ACTIVE_PORT (i : Nat) : Field := ⟨(0x0300110 + 0x40 * i), 16, 1, .ro, 0⟩
def F.CLAP.BASE_QUALITY (i : Nat) : Field := ⟨(0x0300110 + 0x40 * i), 12, 4, .ro, 0xf⟩
def F.CLAP.BASE_SERVO (i : Nat) : Field := ⟨(0x0300110 + 0x40 * i), 2, 1, .lk, 0⟩
def F.CLAP.BASE_STATE (i : Nat) : Field := ⟨(0x0300110 + 0x40 * i), 0, 2, .ro, 0⟩
def F.CLAP.OFFSET_LAST (i : Nat) : Field := ⟨(0x0300114 + 0x40 * i), 0, 32, .ro, 0⟩
def F.CLAP.PATH_DELAY (i : Nat) : Field := ⟨(0x0300118 + 0x40 * i), 0, 32, .ro, 0⟩
def F.CLAP.SYNC_COUNT (i : Nat) : Field := ⟨(0x030011C + 0x40 * i), 0, 32, .rc, 0⟩
def F.CLAP.REJECT_COUNT (i : Nat) : Field := ⟨(0x0300120 + 0x40 * i), 0, 32, .rc, 0⟩
def F.CLAP.STEP_COUNT (i : Nat) : Field := ⟨(0x0300124 + 0x40 * i), 0, 32, .rc, 0⟩
def F.CLAP.LOCK_LOSS_COUNT (i : Nat) : Field := ⟨(0x0300128 + 0x40 * i), 0, 32, .rc, 0⟩
def F.CLAP.GM_ID_LO (i : Nat) : Field := ⟨(0x030012C + 0x40 * i), 0, 32, .ro, 0⟩
def F.CLAP.GM_ID_HI (i : Nat) : Field := ⟨(0x0300130 + 0x40 * i), 0, 32, .ro, 0⟩
def F.CLAP.HOLDOVER_ELAPSED (i : Nat) : Field := ⟨(0x0300134 + 0x40 * i), 0, 32, .ro, 0⟩
def F.CLAP.RX_ADJ (i : Nat) : Field := ⟨(0x0300400 + 8 * i), 0, 32, .lk, 0⟩
def F.CLAP.TX_ADJ (i : Nat) : Field := ⟨(0x0300404 + 8 * i), 0, 32, .lk, 0⟩
def rowsCLAP0 : List RegRow := [
  ⟨0x0300000, [], [F.CLAP.UNIT_ID_IDENT, F.CLAP.UNIT_ID_UNIT, F.CLAP.UNIT_ID_REVISION]⟩,
  ⟨0x0300004, [], [F.CLAP.STATUS_FORCED, F.CLAP.STATUS_ALIGNED, F.CLAP.STATUS_LOCAL_QUALITY, F.CLAP.STATUS_LOCAL_RUNNING, F.CLAP.STATUS_SELECTED]⟩,
  ⟨0x0300008, [], [F.CLAP.POWER_EPOCH]⟩,
  ⟨0x030000C, [], [F.CLAP.CONFIG_SLEW_PPM, F.CLAP.CONFIG_ENABLED, F.CLAP.CONFIG_ALIGN_NS]⟩,
  ⟨0x0300010, [], [F.CLAP.K_OFF_LO]⟩,
  ⟨0x0300014, [], [F.CLAP.K_OFF_HI]⟩,
  ⟨0x0300018, [], [F.CLAP.PHASE_ERROR]⟩,
  ⟨0x030001C, [], [F.CLAP.RATE_OFFSET]⟩,
  ⟨0x0300020, [], [F.CLAP.SWITCH_COUNT]⟩,
  ⟨0x0300040, [], [F.CLAP.CMD]⟩,
  ⟨0x0300044, [], [F.CLAP.CMD_ARG0]⟩,
  ⟨0x0300048, [], [F.CLAP.CMD_ARG1]⟩,
  ⟨0x030004C, [], [F.CLAP.CMD_ARG2]⟩,
  ⟨0x0300050, [], [F.CLAP.CMD_RESULT_OPCODE, F.CLAP.CMD_RESULT_RESULT]⟩,
  ⟨0x0300100, [(0x40, 6)], [(F.CLAP.NOW_LO 0)]⟩,
  ⟨0x0300104, [(0x40, 6)], [(F.CLAP.NOW_HI 0)]⟩,
  ⟨0x0300108, [(0x40, 6)], [(F.CLAP.INC_FRAC 0)]⟩,
  ⟨0x030010C, [(0x40, 6)], [(F.CLAP.INC_NS 0)]⟩,
  ⟨0x0300110, [(0x40, 6)], [(F.CLAP.BASE_PTP_DOMAIN 0), (F.CLAP.BASE_ACTIVE_PORT 0), (F.CLAP.BASE_QUALITY 0), (F.CLAP.BASE_SERVO 0), (F.CLAP.BASE_STATE 0)]⟩,
  ⟨0x0300114, [(0x40, 6)], [(F.CLAP.OFFSET_LAST 0)]⟩,
  ⟨0x0300118, [(0x40, 6)], [(F.CLAP.PATH_DELAY 0)]⟩,
  ⟨0x030011C, [(0x40, 6)], [(F.CLAP.SYNC_COUNT 0)]⟩,
  ⟨0x0300120, [(0x40, 6)], [(F.CLAP.REJECT_COUNT 0)]⟩,
  ⟨0x0300124, [(0x40, 6)], [(F.CLAP.STEP_COUNT 0)]⟩]
def rowsCLAP1 : List RegRow := [
  ⟨0x0300128, [(0x40, 6)], [(F.CLAP.LOCK_LOSS_COUNT 0)]⟩,
  ⟨0x030012C, [(0x40, 6)], [(F.CLAP.GM_ID_LO 0)]⟩,
  ⟨0x0300130, [(0x40, 6)], [(F.CLAP.GM_ID_HI 0)]⟩,
  ⟨0x0300134, [(0x40, 6)], [(F.CLAP.HOLDOVER_ELAPSED 0)]⟩,
  ⟨0x0300400, [(8, 17)], [(F.CLAP.RX_ADJ 0)]⟩,
  ⟨0x0300404, [(8, 17)], [(F.CLAP.TX_ADJ 0)]⟩]
/-- The registers of the CLAP window. -/
def rowsCLAP : List RegRow := rowsCLAP0 ++ rowsCLAP1

/-! ### PIMG -/

def F.PIMG.UNIT_ID_IDENT : Field := ⟨0x0400000, 16, 16, .ro, 0x5049⟩
def F.PIMG.UNIT_ID_UNIT : Field := ⟨0x0400000, 8, 8, .ro, 4⟩
def F.PIMG.UNIT_ID_REVISION : Field := ⟨0x0400000, 0, 8, .ro, 1⟩
def F.PIMG.STATUS_MEMORY_ERROR : Field := ⟨0x0400004, 1, 1, .w1c, 0⟩
def F.PIMG.STATUS_RUNNING : Field := ⟨0x0400004, 0, 1, .ro, 0⟩
def F.PIMG.POINT_COUNT : Field := ⟨0x0400008, 0, 21, .lk, 0⟩
def F.PIMG.STALE_NOW : Field := ⟨0x040000C, 0, 21, .ro, 0⟩
def F.PIMG.ABSENT_NOW : Field := ⟨0x0400010, 0, 21, .ro, 0⟩
def F.PIMG.INVALID_NOW : Field := ⟨0x0400014, 0, 21, .ro, 0⟩
def F.PIMG.REJECT_COUNT : Field := ⟨0x0400018, 0, 32, .rc, 0⟩
def F.PIMG.CLAMP_COUNT : Field := ⟨0x040001C, 0, 32, .rc, 0⟩
def F.PIMG.RATE_COUNT : Field := ⟨0x0400020, 0, 32, .rc, 0⟩
def F.PIMG.FILTER_COUNT : Field := ⟨0x0400024, 0, 32, .rc, 0⟩
def F.PIMG.WRITE_REFUSED_COUNT : Field := ⟨0x0400028, 0, 32, .rc, 0⟩
def F.PIMG.MEMORY_COUNT : Field := ⟨0x040002C, 0, 32, .rc, 0⟩
def rowsPIMG0 : List RegRow := [
  ⟨0x0400000, [], [F.PIMG.UNIT_ID_IDENT, F.PIMG.UNIT_ID_UNIT, F.PIMG.UNIT_ID_REVISION]⟩,
  ⟨0x0400004, [], [F.PIMG.STATUS_MEMORY_ERROR, F.PIMG.STATUS_RUNNING]⟩,
  ⟨0x0400008, [], [F.PIMG.POINT_COUNT]⟩,
  ⟨0x040000C, [], [F.PIMG.STALE_NOW]⟩,
  ⟨0x0400010, [], [F.PIMG.ABSENT_NOW]⟩,
  ⟨0x0400014, [], [F.PIMG.INVALID_NOW]⟩,
  ⟨0x0400018, [], [F.PIMG.REJECT_COUNT]⟩,
  ⟨0x040001C, [], [F.PIMG.CLAMP_COUNT]⟩,
  ⟨0x0400020, [], [F.PIMG.RATE_COUNT]⟩,
  ⟨0x0400024, [], [F.PIMG.FILTER_COUNT]⟩,
  ⟨0x0400028, [], [F.PIMG.WRITE_REFUSED_COUNT]⟩,
  ⟨0x040002C, [], [F.PIMG.MEMORY_COUNT]⟩]
/-- The registers of the PIMG window. -/
def rowsPIMG : List RegRow := rowsPIMG0

/-! ### LIO -/

def F.LIO.UNIT_ID_IDENT : Field := ⟨0x0500000, 16, 16, .ro, 0x4c49⟩
def F.LIO.UNIT_ID_UNIT : Field := ⟨0x0500000, 8, 8, .ro, 5⟩
def F.LIO.UNIT_ID_REVISION : Field := ⟨0x0500000, 0, 8, .ro, 1⟩
def F.LIO.STATUS_CROSSING_STALL : Field := ⟨0x0500004, 2, 1, .ro, 0⟩
def F.LIO.STATUS_FAULT_ANY : Field := ⟨0x0500004, 1, 1, .ro, 0⟩
def F.LIO.STATUS_RUNNING : Field := ⟨0x0500004, 0, 1, .ro, 0⟩
def F.LIO.AI_FAULT : Field := ⟨0x0500008, 0, 32, .ro, 0⟩
def F.LIO.AO_FAULT : Field := ⟨0x050000C, 0, 16, .ro, 0⟩
def F.LIO.RTD_FAULT_LO : Field := ⟨0x0500010, 0, 32, .ro, 0⟩
def F.LIO.RTD_FAULT_HI : Field := ⟨0x0500014, 0, 32, .ro, 0⟩
def F.LIO.DO_FAULT_LO : Field := ⟨0x0500018, 0, 32, .ro, 0⟩
def F.LIO.DO_FAULT_HI : Field := ⟨0x050001C, 0, 32, .ro, 0⟩
def F.LIO.DI_STATE_LO : Field := ⟨0x0500020, 0, 32, .ro, 0⟩
def F.LIO.DI_STATE_HI : Field := ⟨0x0500024, 0, 32, .ro, 0⟩
def F.LIO.PULSE_STALL_COUNT : Field := ⟨0x0500028, 0, 32, .rc, 0⟩
def F.LIO.PULSE_COUNT (i : Nat) : Field := ⟨(0x0500100 + 4 * i), 0, 32, .ro, 0⟩
def rowsLIO0 : List RegRow := [
  ⟨0x0500000, [], [F.LIO.UNIT_ID_IDENT, F.LIO.UNIT_ID_UNIT, F.LIO.UNIT_ID_REVISION]⟩,
  ⟨0x0500004, [], [F.LIO.STATUS_CROSSING_STALL, F.LIO.STATUS_FAULT_ANY, F.LIO.STATUS_RUNNING]⟩,
  ⟨0x0500008, [], [F.LIO.AI_FAULT]⟩,
  ⟨0x050000C, [], [F.LIO.AO_FAULT]⟩,
  ⟨0x0500010, [], [F.LIO.RTD_FAULT_LO]⟩,
  ⟨0x0500014, [], [F.LIO.RTD_FAULT_HI]⟩,
  ⟨0x0500018, [], [F.LIO.DO_FAULT_LO]⟩,
  ⟨0x050001C, [], [F.LIO.DO_FAULT_HI]⟩,
  ⟨0x0500020, [], [F.LIO.DI_STATE_LO]⟩,
  ⟨0x0500024, [], [F.LIO.DI_STATE_HI]⟩,
  ⟨0x0500028, [], [F.LIO.PULSE_STALL_COUNT]⟩,
  ⟨0x0500100, [(4, 32)], [(F.LIO.PULSE_COUNT 0)]⟩]
/-- The registers of the LIO window. -/
def rowsLIO : List RegRow := rowsLIO0

/-! ### ASM -/

def F.ASM.UNIT_ID_IDENT : Field := ⟨0x0600000, 16, 16, .ro, 0x4153⟩
def F.ASM.UNIT_ID_UNIT : Field := ⟨0x0600000, 8, 8, .ro, 6⟩
def F.ASM.UNIT_ID_REVISION : Field := ⟨0x0600000, 0, 8, .ro, 1⟩
def F.ASM.STATUS_LAST_FAILED : Field := ⟨0x0600004, 2, 1, .ro, 0⟩
def F.ASM.STATUS_MEMORY_ERROR : Field := ⟨0x0600004, 1, 1, .w1c, 0⟩
def F.ASM.STATUS_ASSEMBLING : Field := ⟨0x0600004, 0, 1, .ro, 0⟩
def F.ASM.ROW_COUNT : Field := ⟨0x0600008, 0, 32, .lk, 0⟩
def F.ASM.SLOT_COUNT : Field := ⟨0x060000C, 0, 32, .lk, 0⟩
def F.ASM.EVAL_COUNT : Field := ⟨0x0600010, 0, 32, .lk, 0⟩
def F.ASM.PREDICTED_CYCLES : Field := ⟨0x0600014, 0, 32, .lk, 0⟩
def F.ASM.HORIZON : Field := ⟨0x0600018, 0, 8, .lk, 0⟩
def F.ASM.STEP_TICKS : Field := ⟨0x060001C, 0, 32, .lk, 0⟩
def F.ASM.LAST_ROUND : Field := ⟨0x0600020, 0, 32, .ro, 0⟩
def F.ASM.LAST_RESULT : Field := ⟨0x0600024, 0, 3, .ro, 0⟩
def F.ASM.LAST_DETAIL : Field := ⟨0x0600028, 0, 32, .ro, 0⟩
def F.ASM.LAST_CYCLES : Field := ⟨0x060002C, 0, 32, .ro, 0⟩
def F.ASM.LAST_SUBST : Field := ⟨0x0600030, 0, 32, .ro, 0⟩
def F.ASM.LAST_ZERO_ROWS : Field := ⟨0x0600034, 0, 32, .ro, 0⟩
def F.ASM.LAST_EXP_RANGE_MAX_EXP : Field := ⟨0x0600038, 8, 8, .ro, 0⟩
def F.ASM.LAST_EXP_RANGE_MIN_EXP : Field := ⟨0x0600038, 0, 8, .ro, 0⟩
def F.ASM.FAIL_COUNT : Field := ⟨0x060003C, 0, 32, .rc, 0⟩
def F.ASM.SUBST_TOTAL : Field := ⟨0x0600040, 0, 32, .rc, 0⟩
def F.ASM.INPUT_STATE_STATE (i : Nat) : Field := ⟨(0x0640000 + 4 * i), 30, 2, .ro, 0⟩
def F.ASM.INPUT_STATE_POLICY (i : Nat) : Field := ⟨(0x0640000 + 4 * i), 28, 2, .ro, 0⟩
def F.ASM.INPUT_STATE_HELD (i : Nat) : Field := ⟨(0x0640000 + 4 * i), 0, 16, .ro, 0⟩
def rowsASM0 : List RegRow := [
  ⟨0x0600000, [], [F.ASM.UNIT_ID_IDENT, F.ASM.UNIT_ID_UNIT, F.ASM.UNIT_ID_REVISION]⟩,
  ⟨0x0600004, [], [F.ASM.STATUS_LAST_FAILED, F.ASM.STATUS_MEMORY_ERROR, F.ASM.STATUS_ASSEMBLING]⟩,
  ⟨0x0600008, [], [F.ASM.ROW_COUNT]⟩,
  ⟨0x060000C, [], [F.ASM.SLOT_COUNT]⟩,
  ⟨0x0600010, [], [F.ASM.EVAL_COUNT]⟩,
  ⟨0x0600014, [], [F.ASM.PREDICTED_CYCLES]⟩,
  ⟨0x0600018, [], [F.ASM.HORIZON]⟩,
  ⟨0x060001C, [], [F.ASM.STEP_TICKS]⟩,
  ⟨0x0600020, [], [F.ASM.LAST_ROUND]⟩,
  ⟨0x0600024, [], [F.ASM.LAST_RESULT]⟩,
  ⟨0x0600028, [], [F.ASM.LAST_DETAIL]⟩,
  ⟨0x060002C, [], [F.ASM.LAST_CYCLES]⟩,
  ⟨0x0600030, [], [F.ASM.LAST_SUBST]⟩,
  ⟨0x0600034, [], [F.ASM.LAST_ZERO_ROWS]⟩,
  ⟨0x0600038, [], [F.ASM.LAST_EXP_RANGE_MAX_EXP, F.ASM.LAST_EXP_RANGE_MIN_EXP]⟩,
  ⟨0x060003C, [], [F.ASM.FAIL_COUNT]⟩,
  ⟨0x0600040, [], [F.ASM.SUBST_TOTAL]⟩,
  ⟨0x0640000, [(4, 65536)], [(F.ASM.INPUT_STATE_STATE 0), (F.ASM.INPUT_STATE_POLICY 0), (F.ASM.INPUT_STATE_HELD 0)]⟩]
/-- The registers of the ASM window. -/
def rowsASM : List RegRow := rowsASM0

/-! ### STB -/

def F.STB.UNIT_ID_IDENT : Field := ⟨0x0700000, 16, 16, .ro, 0x5342⟩
def F.STB.UNIT_ID_UNIT : Field := ⟨0x0700000, 8, 8, .ro, 7⟩
def F.STB.UNIT_ID_REVISION : Field := ⟨0x0700000, 0, 8, .ro, 1⟩
def F.STB.STATUS_STALLED : Field := ⟨0x0700004, 4, 1, .w1c, 0⟩
def F.STB.STATUS_SLOW : Field := ⟨0x0700004, 3, 1, .w1c, 0⟩
def F.STB.STATUS_SEGMENT : Field := ⟨0x0700004, 1, 2, .ro, 0⟩
def F.STB.STATUS_RUNNING : Field := ⟨0x0700004, 0, 1, .ro, 0⟩
def F.STB.OP_COUNT : Field := ⟨0x0700008, 0, 32, .lk, 0⟩
def F.STB.SUPERNODE_COUNT : Field := ⟨0x070000C, 0, 32, .lk, 0⟩
def F.STB.FACTOR_ENTRIES : Field := ⟨0x0700010, 0, 32, .lk, 0⟩
def F.STB.ITER_TICKS : Field := ⟨0x0700014, 0, 32, .lk, 0⟩
def F.STB.REFINE_STEPS : Field := ⟨0x0700018, 0, 4, .lk, 0⟩
def F.STB.PRED_CYCLES (i : Nat) : Field := ⟨(0x0700020 + 4 * i), 0, 32, .lk, 0⟩
def F.STB.LAST_CYCLES (i : Nat) : Field := ⟨(0x0700030 + 4 * i), 0, 32, .ro, 0⟩
def F.STB.WORST_CYCLES (i : Nat) : Field := ⟨(0x0700040 + 4 * i), 0, 32, .rc, 0⟩
def F.STB.CURRENT_OP : Field := ⟨0x0700050, 0, 32, .ro, 0⟩
def F.STB.SLOW_COUNT : Field := ⟨0x0700054, 0, 32, .rc, 0⟩
def F.STB.STALL_COUNT : Field := ⟨0x0700058, 0, 32, .rc, 0⟩
def F.STB.LAST_ITER_CYCLES : Field := ⟨0x070005C, 0, 32, .ro, 0⟩
def rowsSTB0 : List RegRow := [
  ⟨0x0700000, [], [F.STB.UNIT_ID_IDENT, F.STB.UNIT_ID_UNIT, F.STB.UNIT_ID_REVISION]⟩,
  ⟨0x0700004, [], [F.STB.STATUS_STALLED, F.STB.STATUS_SLOW, F.STB.STATUS_SEGMENT, F.STB.STATUS_RUNNING]⟩,
  ⟨0x0700008, [], [F.STB.OP_COUNT]⟩,
  ⟨0x070000C, [], [F.STB.SUPERNODE_COUNT]⟩,
  ⟨0x0700010, [], [F.STB.FACTOR_ENTRIES]⟩,
  ⟨0x0700014, [], [F.STB.ITER_TICKS]⟩,
  ⟨0x0700018, [], [F.STB.REFINE_STEPS]⟩,
  ⟨0x0700020, [(4, 4)], [(F.STB.PRED_CYCLES 0)]⟩,
  ⟨0x0700030, [(4, 4)], [(F.STB.LAST_CYCLES 0)]⟩,
  ⟨0x0700040, [(4, 4)], [(F.STB.WORST_CYCLES 0)]⟩,
  ⟨0x0700050, [], [F.STB.CURRENT_OP]⟩,
  ⟨0x0700054, [], [F.STB.SLOW_COUNT]⟩,
  ⟨0x0700058, [], [F.STB.STALL_COUNT]⟩,
  ⟨0x070005C, [], [F.STB.LAST_ITER_CYCLES]⟩]
/-- The registers of the STB window. -/
def rowsSTB : List RegRow := rowsSTB0

/-! ### JUG -/

def F.JUG.UNIT_ID_IDENT : Field := ⟨0x0800000, 16, 16, .ro, 0x4a47⟩
def F.JUG.UNIT_ID_UNIT : Field := ⟨0x0800000, 8, 8, .ro, 8⟩
def F.JUG.UNIT_ID_REVISION : Field := ⟨0x0800000, 0, 8, .ro, 1⟩
def F.JUG.STATUS_MEMORY_ERROR : Field := ⟨0x0800004, 1, 1, .w1c, 0⟩
def F.JUG.STATUS_SOLVING : Field := ⟨0x0800004, 0, 1, .ro, 0⟩
def F.JUG.CLUSTERS_PRESENT : Field := ⟨0x0800008, 0, 4, .ro, 0xF⟩
def F.JUG.CONFIG_IDLE_GATING : Field := ⟨0x080000C, 8, 1, .lk, 0⟩
def F.JUG.CONFIG_USED : Field := ⟨0x080000C, 0, 4, .lk, 0⟩
def F.JUG.CLUSTER_STATE_UE_COUNT (i : Nat) : Field := ⟨(0x0800010 + 4 * i), 24, 8, .ro, 0⟩
def F.JUG.CLUSTER_STATE_HEALTH (i : Nat) : Field := ⟨(0x0800010 + 4 * i), 16, 2, .ro, 0⟩
def F.JUG.CLUSTER_STATE_POWERED (i : Nat) : Field := ⟨(0x0800010 + 4 * i), 9, 1, .ro, 0⟩
def F.JUG.CLUSTER_STATE_USED (i : Nat) : Field := ⟨(0x0800010 + 4 * i), 8, 1, .lk, 0⟩
def F.JUG.ROUND_NUMBER : Field := ⟨0x0800100, 0, 32, .ro, 0⟩
def F.JUG.PUBLISHED_ROUND : Field := ⟨0x0800104, 0, 32, .ro, 0⟩
def F.JUG.ROUND_STATE_ITERATION : Field := ⟨0x0800108, 16, 8, .ro, 0⟩
def F.JUG.ROUND_STATE_PHASE : Field := ⟨0x0800108, 0, 3, .ro, 0⟩
def F.JUG.LAST_RESULT_ITERATIONS : Field := ⟨0x080010C, 16, 8, .ro, 0⟩
def F.JUG.LAST_RESULT_CAUSE : Field := ⟨0x080010C, 8, 8, .ro, 0⟩
def F.JUG.LAST_RESULT_STATUS : Field := ⟨0x080010C, 0, 2, .ro, 0⟩
def F.JUG.DEADLINE_TICK : Field := ⟨0x0800110, 0, 32, .ro, 0⟩
def F.JUG.PUBLISH_TICK : Field := ⟨0x0800114, 0, 32, .ro, 0⟩
def F.JUG.LAST_THETA_P : Field := ⟨0x0800118, 0, 32, .ro, 0⟩
def F.JUG.LAST_THETA_D : Field := ⟨0x080011C, 0, 32, .ro, 0⟩
def F.JUG.LAST_MU : Field := ⟨0x0800120, 0, 32, .ro, 0⟩
def F.JUG.LAST_RHO : Field := ⟨0x0800124, 0, 32, .ro, 0⟩
def F.JUG.LAST_PERTURBED : Field := ⟨0x0800128, 0, 32, .ro, 0⟩
def F.JUG.LAST_WRONG_SIGN : Field := ⟨0x080012C, 0, 32, .ro, 0⟩
def F.JUG.CONVERGED_COUNT : Field := ⟨0x0800130, 0, 32, .rc, 0⟩
def F.JUG.EARLY_COUNT : Field := ⟨0x0800134, 0, 32, .rc, 0⟩
def F.JUG.SHIFTED_COUNT : Field := ⟨0x0800138, 0, 32, .rc, 0⟩
def F.JUG.ABANDON_COUNT : Field := ⟨0x080013C, 0, 32, .rc, 0⟩
def F.JUG.ITER_MAX : Field := ⟨0x0800140, 0, 32, .lk, 0⟩
def F.JUG.SOLVE_CONFIG_SHIFT_STEPS : Field := ⟨0x0800144, 16, 8, .lk, 0⟩
def F.JUG.SOLVE_CONFIG_START_GUARD : Field := ⟨0x0800144, 13, 1, .lk, 0⟩
def F.JUG.SOLVE_CONFIG_TERMINAL : Field := ⟨0x0800144, 12, 1, .lk, 0⟩
def F.JUG.SOLVE_CONFIG_REFINE_MAX : Field := ⟨0x0800144, 8, 4, .lk, 0⟩
def F.JUG.SOLVE_CONFIG_MAX_ITER : Field := ⟨0x0800144, 0, 7, .tk, 0⟩
def F.JUG.PERIOD_TICKS : Field := ⟨0x0800148, 0, 32, .lk, 0⟩
def F.JUG.PHASE_TICKS : Field := ⟨0x080014C, 0, 32, .lk, 0⟩
def F.JUG.DEADLINE_TICKS : Field := ⟨0x0800150, 0, 32, .lk, 0⟩
def F.JUG.PIVOT_TAU : Field := ⟨0x0800160, 0, 32, .tk, 0⟩
def F.JUG.REFINE_TOL : Field := ⟨0x0800164, 0, 32, .tk, 0⟩
def F.JUG.FEAS_GATE : Field := ⟨0x0800168, 0, 32, .tk, 0⟩
def F.JUG.PRIMAL_TOL : Field := ⟨0x080016C, 0, 32, .tk, 0⟩
def F.JUG.DUAL_TOL : Field := ⟨0x0800170, 0, 32, .tk, 0⟩
def F.JUG.GAP_TOL : Field := ⟨0x0800174, 0, 32, .tk, 0⟩
def F.JUG.SIGMA : Field := ⟨0x0800178, 0, 32, .lk, 0⟩
def F.JUG.STEP_FRACTION : Field := ⟨0x080017C, 0, 32, .lk, 0⟩
def F.JUG.ALPHA_MIN : Field := ⟨0x0800180, 0, 32, .lk, 0⟩
def F.JUG.MU0 : Field := ⟨0x0800184, 0, 32, .lk, 0⟩
def F.JUG.PUSH : Field := ⟨0x0800188, 0, 32, .lk, 0⟩
def rowsJUG0 : List RegRow := [
  ⟨0x0800000, [], [F.JUG.UNIT_ID_IDENT, F.JUG.UNIT_ID_UNIT, F.JUG.UNIT_ID_REVISION]⟩,
  ⟨0x0800004, [], [F.JUG.STATUS_MEMORY_ERROR, F.JUG.STATUS_SOLVING]⟩,
  ⟨0x0800008, [], [F.JUG.CLUSTERS_PRESENT]⟩,
  ⟨0x080000C, [], [F.JUG.CONFIG_IDLE_GATING, F.JUG.CONFIG_USED]⟩,
  ⟨0x0800010, [(4, 4)], [(F.JUG.CLUSTER_STATE_UE_COUNT 0), (F.JUG.CLUSTER_STATE_HEALTH 0), (F.JUG.CLUSTER_STATE_POWERED 0), (F.JUG.CLUSTER_STATE_USED 0)]⟩,
  ⟨0x0800100, [], [F.JUG.ROUND_NUMBER]⟩,
  ⟨0x0800104, [], [F.JUG.PUBLISHED_ROUND]⟩,
  ⟨0x0800108, [], [F.JUG.ROUND_STATE_ITERATION, F.JUG.ROUND_STATE_PHASE]⟩,
  ⟨0x080010C, [], [F.JUG.LAST_RESULT_ITERATIONS, F.JUG.LAST_RESULT_CAUSE, F.JUG.LAST_RESULT_STATUS]⟩,
  ⟨0x0800110, [], [F.JUG.DEADLINE_TICK]⟩,
  ⟨0x0800114, [], [F.JUG.PUBLISH_TICK]⟩,
  ⟨0x0800118, [], [F.JUG.LAST_THETA_P]⟩,
  ⟨0x080011C, [], [F.JUG.LAST_THETA_D]⟩,
  ⟨0x0800120, [], [F.JUG.LAST_MU]⟩,
  ⟨0x0800124, [], [F.JUG.LAST_RHO]⟩,
  ⟨0x0800128, [], [F.JUG.LAST_PERTURBED]⟩,
  ⟨0x080012C, [], [F.JUG.LAST_WRONG_SIGN]⟩,
  ⟨0x0800130, [], [F.JUG.CONVERGED_COUNT]⟩,
  ⟨0x0800134, [], [F.JUG.EARLY_COUNT]⟩,
  ⟨0x0800138, [], [F.JUG.SHIFTED_COUNT]⟩,
  ⟨0x080013C, [], [F.JUG.ABANDON_COUNT]⟩,
  ⟨0x0800140, [], [F.JUG.ITER_MAX]⟩,
  ⟨0x0800144, [], [F.JUG.SOLVE_CONFIG_SHIFT_STEPS, F.JUG.SOLVE_CONFIG_START_GUARD, F.JUG.SOLVE_CONFIG_TERMINAL, F.JUG.SOLVE_CONFIG_REFINE_MAX, F.JUG.SOLVE_CONFIG_MAX_ITER]⟩,
  ⟨0x0800148, [], [F.JUG.PERIOD_TICKS]⟩]
def rowsJUG1 : List RegRow := [
  ⟨0x080014C, [], [F.JUG.PHASE_TICKS]⟩,
  ⟨0x0800150, [], [F.JUG.DEADLINE_TICKS]⟩,
  ⟨0x0800160, [], [F.JUG.PIVOT_TAU]⟩,
  ⟨0x0800164, [], [F.JUG.REFINE_TOL]⟩,
  ⟨0x0800168, [], [F.JUG.FEAS_GATE]⟩,
  ⟨0x080016C, [], [F.JUG.PRIMAL_TOL]⟩,
  ⟨0x0800170, [], [F.JUG.DUAL_TOL]⟩,
  ⟨0x0800174, [], [F.JUG.GAP_TOL]⟩,
  ⟨0x0800178, [], [F.JUG.SIGMA]⟩,
  ⟨0x080017C, [], [F.JUG.STEP_FRACTION]⟩,
  ⟨0x0800180, [], [F.JUG.ALPHA_MIN]⟩,
  ⟨0x0800184, [], [F.JUG.MU0]⟩,
  ⟨0x0800188, [], [F.JUG.PUSH]⟩]
/-- The registers of the JUG window. -/
def rowsJUG : List RegRow := rowsJUG0 ++ rowsJUG1

/-! ### TRP -/

def F.TRP.UNIT_ID_IDENT : Field := ⟨0x0900000, 16, 16, .ro, 0x5452⟩
def F.TRP.UNIT_ID_UNIT : Field := ⟨0x0900000, 8, 8, .ro, 9⟩
def F.TRP.UNIT_ID_REVISION : Field := ⟨0x0900000, 0, 8, .ro, 1⟩
def F.TRP.STATUS_MEMORY_ERROR : Field := ⟨0x0900004, 4, 1, .w1c, 0⟩
def F.TRP.STATUS_INJECTING : Field := ⟨0x0900004, 3, 1, .ro, 0⟩
def F.TRP.STATUS_FALLBACK : Field := ⟨0x0900004, 2, 1, .ro, 0⟩
def F.TRP.STATUS_LOOP_FAULTED : Field := ⟨0x0900004, 1, 1, .ro, 0⟩
def F.TRP.STATUS_RUNNING : Field := ⟨0x0900004, 0, 1, .ro, 0⟩
def F.TRP.LOOP_COUNT : Field := ⟨0x0900008, 0, 32, .lk, 0⟩
def F.TRP.MAX_DUE : Field := ⟨0x090000C, 0, 32, .lk, 0⟩
def F.TRP.PREDICTED_CYCLES : Field := ⟨0x0900010, 0, 32, .lk, 0⟩
def F.TRP.LAST_CYCLES : Field := ⟨0x0900014, 0, 32, .ro, 0⟩
def F.TRP.WORST_CYCLES : Field := ⟨0x0900018, 0, 32, .rc, 0⟩
def F.TRP.FAULTED_LOOPS : Field := ⟨0x090001C, 0, 11, .ro, 0⟩
def F.TRP.FALLBACK_NOW : Field := ⟨0x0900020, 0, 11, .ro, 0⟩
def F.TRP.INJECT_NOW : Field := ⟨0x0900024, 0, 11, .ro, 0⟩
def F.TRP.FALLBACK_COUNT : Field := ⟨0x0900028, 0, 32, .rc, 0⟩
def F.TRP.NONFINITE_COUNT : Field := ⟨0x090002C, 0, 32, .rc, 0⟩
def F.TRP.SHADOW_MISMATCH_COUNT : Field := ⟨0x0900030, 0, 32, .rc, 0⟩
def F.TRP.SAT_COUNT : Field := ⟨0x0900034, 0, 32, .rc, 0⟩
def F.TRP.CMD : Field := ⟨0x0900040, 0, 8, .wo, 0⟩
def F.TRP.CMD_ARG0 : Field := ⟨0x0900044, 0, 32, .rw, 0⟩
def F.TRP.CMD_ARG1 : Field := ⟨0x0900048, 0, 32, .rw, 0⟩
def F.TRP.CMD_RESULT_OPCODE : Field := ⟨0x090004C, 8, 8, .ro, 0⟩
def F.TRP.CMD_RESULT_RESULT : Field := ⟨0x090004C, 0, 8, .ro, 0⟩
def F.TRP.CAP_STATE_DESCRIPTOR (i : Nat) : Field := ⟨(0x0900080 + 0x10 * i), 16, 4, .ro, 0⟩
def F.TRP.CAP_STATE_STATE (i : Nat) : Field := ⟨(0x0900080 + 0x10 * i), 0, 3, .ro, 0⟩
def F.TRP.CAP_FILLED (i : Nat) : Field := ⟨(0x0900084 + 0x10 * i), 0, 32, .ro, 0⟩
def F.TRP.CAP_TRIGGER_LO (i : Nat) : Field := ⟨(0x0900088 + 0x10 * i), 0, 32, .ro, 0⟩
def F.TRP.CAP_TRIGGER_HI (i : Nat) : Field := ⟨(0x090008C + 0x10 * i), 0, 32, .ro, 0⟩
def F.TRP.LOOP_STATUS_CONFIGURED (i : Nat) : Field := ⟨(0x0901000 + 4 * i), 31, 1, .lk, 0⟩
def F.TRP.LOOP_STATUS_INJECTING (i : Nat) : Field := ⟨(0x0901000 + 4 * i), 27, 1, .ro, 0⟩
def F.TRP.LOOP_STATUS_STATE (i : Nat) : Field := ⟨(0x0901000 + 4 * i), 24, 3, .ro, 0⟩
def F.TRP.LOOP_STATUS_CLOSING (i : Nat) : Field := ⟨(0x0901000 + 4 * i), 16, 1, .ro, 0⟩
def F.TRP.LOOP_STATUS_REP_INDEX (i : Nat) : Field := ⟨(0x0901000 + 4 * i), 0, 12, .ro, 0⟩
def F.TRP.LOOP_OUTPUT (i : Nat) : Field := ⟨(0x0902000 + 4 * i), 0, 32, .ro, 0⟩
def F.TRP.PARAM (i : Nat) (j : Nat) : Field := ⟨(0x0940000 + 0x100 * i + 4 * j), 0, 32, .ro, 0⟩
def rowsTRP0 : List RegRow := [
  ⟨0x0900000, [], [F.TRP.UNIT_ID_IDENT, F.TRP.UNIT_ID_UNIT, F.TRP.UNIT_ID_REVISION]⟩,
  ⟨0x0900004, [], [F.TRP.STATUS_MEMORY_ERROR, F.TRP.STATUS_INJECTING, F.TRP.STATUS_FALLBACK, F.TRP.STATUS_LOOP_FAULTED, F.TRP.STATUS_RUNNING]⟩,
  ⟨0x0900008, [], [F.TRP.LOOP_COUNT]⟩,
  ⟨0x090000C, [], [F.TRP.MAX_DUE]⟩,
  ⟨0x0900010, [], [F.TRP.PREDICTED_CYCLES]⟩,
  ⟨0x0900014, [], [F.TRP.LAST_CYCLES]⟩,
  ⟨0x0900018, [], [F.TRP.WORST_CYCLES]⟩,
  ⟨0x090001C, [], [F.TRP.FAULTED_LOOPS]⟩,
  ⟨0x0900020, [], [F.TRP.FALLBACK_NOW]⟩,
  ⟨0x0900024, [], [F.TRP.INJECT_NOW]⟩,
  ⟨0x0900028, [], [F.TRP.FALLBACK_COUNT]⟩,
  ⟨0x090002C, [], [F.TRP.NONFINITE_COUNT]⟩,
  ⟨0x0900030, [], [F.TRP.SHADOW_MISMATCH_COUNT]⟩,
  ⟨0x0900034, [], [F.TRP.SAT_COUNT]⟩,
  ⟨0x0900040, [], [F.TRP.CMD]⟩,
  ⟨0x0900044, [], [F.TRP.CMD_ARG0]⟩,
  ⟨0x0900048, [], [F.TRP.CMD_ARG1]⟩,
  ⟨0x090004C, [], [F.TRP.CMD_RESULT_OPCODE, F.TRP.CMD_RESULT_RESULT]⟩,
  ⟨0x0900080, [(0x10, 4)], [(F.TRP.CAP_STATE_DESCRIPTOR 0), (F.TRP.CAP_STATE_STATE 0)]⟩,
  ⟨0x0900084, [(0x10, 4)], [(F.TRP.CAP_FILLED 0)]⟩,
  ⟨0x0900088, [(0x10, 4)], [(F.TRP.CAP_TRIGGER_LO 0)]⟩,
  ⟨0x090008C, [(0x10, 4)], [(F.TRP.CAP_TRIGGER_HI 0)]⟩,
  ⟨0x0901000, [(4, 1024)], [(F.TRP.LOOP_STATUS_CONFIGURED 0), (F.TRP.LOOP_STATUS_INJECTING 0), (F.TRP.LOOP_STATUS_STATE 0), (F.TRP.LOOP_STATUS_CLOSING 0), (F.TRP.LOOP_STATUS_REP_INDEX 0)]⟩,
  ⟨0x0902000, [(4, 1024)], [(F.TRP.LOOP_OUTPUT 0)]⟩]
def rowsTRP1 : List RegRow := [
  ⟨0x0940000, [(0x100, 1024), (4, 64)], [(F.TRP.PARAM 0 0)]⟩]
/-- The registers of the TRP window. -/
def rowsTRP : List RegRow := rowsTRP0 ++ rowsTRP1

/-! ### CAR -/

def F.CAR.UNIT_ID_IDENT : Field := ⟨0x0A00000, 16, 16, .ro, 0x4341⟩
def F.CAR.UNIT_ID_UNIT : Field := ⟨0x0A00000, 8, 8, .ro, 0xa⟩
def F.CAR.UNIT_ID_REVISION : Field := ⟨0x0A00000, 0, 8, .ro, 1⟩
def F.CAR.STATUS_TRANSFERRED : Field := ⟨0x0A00004, 3, 1, .ro, 0⟩
def F.CAR.STATUS_ARITH : Field := ⟨0x0A00004, 2, 1, .w1c, 0⟩
def F.CAR.STATUS_MEMORY_ERROR : Field := ⟨0x0A00004, 1, 1, .w1c, 0⟩
def F.CAR.STATUS_RUNNING : Field := ⟨0x0A00004, 0, 1, .ro, 0⟩
def F.CAR.INSTR_COUNT : Field := ⟨0x0A00008, 0, 32, .lk, 0⟩
def F.CAR.TIMER_COUNT : Field := ⟨0x0A0000C, 0, 32, .lk, 0⟩
def F.CAR.COUNTER_COUNT : Field := ⟨0x0A00010, 0, 32, .lk, 0⟩
def F.CAR.EDGE_COUNT : Field := ⟨0x0A00014, 0, 32, .lk, 0⟩
def F.CAR.ARITH_COUNT : Field := ⟨0x0A00018, 0, 32, .rc, 0⟩
def F.CAR.SHADOW_MISMATCH_COUNT : Field := ⟨0x0A0001C, 0, 32, .rc, 0⟩
def F.CAR.TRANSFER_MATCHED : Field := ⟨0x0A00020, 0, 32, .ro, 0⟩
def F.CAR.TRANSFER_RESET : Field := ⟨0x0A00024, 0, 32, .ro, 0⟩
def F.CAR.LAST_FAULT_ADDR : Field := ⟨0x0A00028, 0, 32, .ro, 0⟩
def F.CAR.TASK_FIRST (i : Nat) : Field := ⟨(0x0A00100 + 0x10 * i), 0, 32, .lk, 0⟩
def F.CAR.TASK_SLOTS (i : Nat) : Field := ⟨(0x0A00104 + 0x10 * i), 0, 32, .lk, 0⟩
def F.CAR.TASK_STATE_CONFIGURED (i : Nat) : Field := ⟨(0x0A00108 + 0x10 * i), 31, 1, .lk, 0⟩
def F.CAR.TASK_STATE_SCANNING (i : Nat) : Field := ⟨(0x0A00108 + 0x10 * i), 25, 1, .ro, 0⟩
def F.CAR.TASK_STATE_DEPTH (i : Nat) : Field := ⟨(0x0A00108 + 0x10 * i), 20, 5, .ro, 0⟩
def F.CAR.TASK_STATE_ADDR (i : Nat) : Field := ⟨(0x0A00108 + 0x10 * i), 0, 20, .ro, 0⟩
def F.CAR.TASK_SCANS (i : Nat) : Field := ⟨(0x0A0010C + 0x10 * i), 0, 32, .ro, 0⟩
def F.CAR.CONST (i : Nat) : Field := ⟨(0x0A40000 + 4 * i), 0, 32, .ro, 0⟩
def F.CAR.TIMER_ELAPSED (i : Nat) : Field := ⟨(0x0A80000 + 4 * i), 0, 32, .ro, 0⟩
def F.CAR.COUNTER_VALUE (i : Nat) : Field := ⟨(0x0AC0000 + 4 * i), 0, 32, .ro, 0⟩
def rowsCAR0 : List RegRow := [
  ⟨0x0A00000, [], [F.CAR.UNIT_ID_IDENT, F.CAR.UNIT_ID_UNIT, F.CAR.UNIT_ID_REVISION]⟩,
  ⟨0x0A00004, [], [F.CAR.STATUS_TRANSFERRED, F.CAR.STATUS_ARITH, F.CAR.STATUS_MEMORY_ERROR, F.CAR.STATUS_RUNNING]⟩,
  ⟨0x0A00008, [], [F.CAR.INSTR_COUNT]⟩,
  ⟨0x0A0000C, [], [F.CAR.TIMER_COUNT]⟩,
  ⟨0x0A00010, [], [F.CAR.COUNTER_COUNT]⟩,
  ⟨0x0A00014, [], [F.CAR.EDGE_COUNT]⟩,
  ⟨0x0A00018, [], [F.CAR.ARITH_COUNT]⟩,
  ⟨0x0A0001C, [], [F.CAR.SHADOW_MISMATCH_COUNT]⟩,
  ⟨0x0A00020, [], [F.CAR.TRANSFER_MATCHED]⟩,
  ⟨0x0A00024, [], [F.CAR.TRANSFER_RESET]⟩,
  ⟨0x0A00028, [], [F.CAR.LAST_FAULT_ADDR]⟩,
  ⟨0x0A00100, [(0x10, 4)], [(F.CAR.TASK_FIRST 0)]⟩,
  ⟨0x0A00104, [(0x10, 4)], [(F.CAR.TASK_SLOTS 0)]⟩,
  ⟨0x0A00108, [(0x10, 4)], [(F.CAR.TASK_STATE_CONFIGURED 0), (F.CAR.TASK_STATE_SCANNING 0), (F.CAR.TASK_STATE_DEPTH 0), (F.CAR.TASK_STATE_ADDR 0)]⟩,
  ⟨0x0A0010C, [(0x10, 4)], [(F.CAR.TASK_SCANS 0)]⟩,
  ⟨0x0A40000, [(4, 65536)], [(F.CAR.CONST 0)]⟩,
  ⟨0x0A80000, [(4, 65536)], [(F.CAR.TIMER_ELAPSED 0)]⟩,
  ⟨0x0AC0000, [(4, 65536)], [(F.CAR.COUNTER_VALUE 0)]⟩]
/-- The registers of the CAR window. -/
def rowsCAR : List RegRow := rowsCAR0

/-! ### BOE -/

def F.BOE.UNIT_ID_IDENT : Field := ⟨0x0B00000, 16, 16, .ro, 0x4245⟩
def F.BOE.UNIT_ID_UNIT : Field := ⟨0x0B00000, 8, 8, .ro, 0xb⟩
def F.BOE.UNIT_ID_REVISION : Field := ⟨0x0B00000, 0, 8, .ro, 1⟩
def F.BOE.STATUS_CAL_BUSY : Field := ⟨0x0B00004, 4, 1, .ro, 0⟩
def F.BOE.STATUS_ACCUM_GAP : Field := ⟨0x0B00004, 3, 1, .w1c, 0⟩
def F.BOE.STATUS_OVERLOAD : Field := ⟨0x0B00004, 2, 1, .w1c, 0⟩
def F.BOE.STATUS_MEMORY_ERROR : Field := ⟨0x0B00004, 1, 1, .w1c, 0⟩
def F.BOE.STATUS_INTEGRATING : Field := ⟨0x0B00004, 0, 1, .ro, 0⟩
def F.BOE.METER_COUNT : Field := ⟨0x0B00008, 0, 5, .lk, 0⟩
def F.BOE.METRO_EVENT_COUNT : Field := ⟨0x0B0000C, 0, 32, .ro, 0⟩
def F.BOE.METRO_HASH (i : Nat) : Field := ⟨(0x0B00010 + 4 * i), 0, 32, .lk, 0⟩
def F.BOE.FREQ (i : Nat) : Field := ⟨(0x0B00040 + 4 * i), 0, 32, .ro, 0⟩
def F.BOE.SET_STATE_SAMPLES (i : Nat) : Field := ⟨(0x0B00050 + 4 * i), 16, 16, .ro, 0⟩
def F.BOE.SET_STATE_REFERENCE (i : Nat) : Field := ⟨(0x0B00050 + 4 * i), 4, 2, .ro, 0⟩
def F.BOE.SET_STATE_FREQ_RANGE (i : Nat) : Field := ⟨(0x0B00050 + 4 * i), 2, 1, .ro, 0⟩
def F.BOE.SET_STATE_NO_VOLTAGE (i : Nat) : Field := ⟨(0x0B00050 + 4 * i), 1, 1, .ro, 0⟩
def F.BOE.SET_STATE_ACTIVE (i : Nat) : Field := ⟨(0x0B00050 + 4 * i), 0, 1, .lk, 0⟩
def F.BOE.CMD : Field := ⟨0x0B00080, 0, 8, .wo, 0⟩
def F.BOE.CMD_ARG0 : Field := ⟨0x0B00084, 0, 32, .rw, 0⟩
def F.BOE.CMD_ARG1 : Field := ⟨0x0B00088, 0, 32, .rw, 0⟩
def F.BOE.CMD_RESULT_OPCODE : Field := ⟨0x0B0008C, 8, 8, .ro, 0⟩
def F.BOE.CMD_RESULT_RESULT : Field := ⟨0x0B0008C, 0, 8, .ro, 0⟩
def F.BOE.CAL_STATE_WINDOWS : Field := ⟨0x0B00090, 16, 16, .ro, 0⟩
def F.BOE.CAL_STATE_METER : Field := ⟨0x0B00090, 8, 4, .ro, 0⟩
def F.BOE.CAL_STATE_STATE : Field := ⟨0x0B00090, 0, 2, .ro, 0⟩
def F.BOE.IMPORT_LO (i : Nat) : Field := ⟨(0x0B01000 + 0x100 * i), 0, 32, .ro, 0⟩
def F.BOE.IMPORT_HI (i : Nat) : Field := ⟨(0x0B01004 + 0x100 * i), 0, 32, .ro, 0⟩
def F.BOE.EXPORT_LO (i : Nat) : Field := ⟨(0x0B01008 + 0x100 * i), 0, 32, .ro, 0⟩
def F.BOE.EXPORT_HI (i : Nat) : Field := ⟨(0x0B0100C + 0x100 * i), 0, 32, .ro, 0⟩
def F.BOE.Q1_LO (i : Nat) : Field := ⟨(0x0B01010 + 0x100 * i), 0, 32, .ro, 0⟩
def F.BOE.Q1_HI (i : Nat) : Field := ⟨(0x0B01014 + 0x100 * i), 0, 32, .ro, 0⟩
def F.BOE.Q2_LO (i : Nat) : Field := ⟨(0x0B01018 + 0x100 * i), 0, 32, .ro, 0⟩
def F.BOE.Q2_HI (i : Nat) : Field := ⟨(0x0B0101C + 0x100 * i), 0, 32, .ro, 0⟩
def F.BOE.Q3_LO (i : Nat) : Field := ⟨(0x0B01020 + 0x100 * i), 0, 32, .ro, 0⟩
def F.BOE.Q3_HI (i : Nat) : Field := ⟨(0x0B01024 + 0x100 * i), 0, 32, .ro, 0⟩
def F.BOE.Q4_LO (i : Nat) : Field := ⟨(0x0B01028 + 0x100 * i), 0, 32, .ro, 0⟩
def F.BOE.Q4_HI (i : Nat) : Field := ⟨(0x0B0102C + 0x100 * i), 0, 32, .ro, 0⟩
def F.BOE.METER_STATE_VOLTAGE_SET (i : Nat) : Field := ⟨(0x0B01030 + 0x100 * i), 4, 2, .lk, 0⟩
def F.BOE.METER_STATE_WIRING (i : Nat) : Field := ⟨(0x0B01030 + 0x100 * i), 2, 2, .lk, 0⟩
def F.BOE.METER_STATE_HALTED (i : Nat) : Field := ⟨(0x0B01030 + 0x100 * i), 1, 1, .ro, 0⟩
def F.BOE.METER_STATE_CONFIGURED (i : Nat) : Field := ⟨(0x0B01030 + 0x100 * i), 0, 1, .lk, 0⟩
def F.BOE.METER_P (i : Nat) : Field := ⟨(0x0B01034 + 0x100 * i), 0, 32, .ro, 0⟩
def F.BOE.METER_Q (i : Nat) : Field := ⟨(0x0B01038 + 0x100 * i), 0, 32, .ro, 0⟩
def F.BOE.METER_S (i : Nat) : Field := ⟨(0x0B0103C + 0x100 * i), 0, 32, .ro, 0⟩
def F.BOE.METER_PF (i : Nat) : Field := ⟨(0x0B01040 + 0x100 * i), 0, 32, .ro, 0⟩
def F.BOE.DEMAND_IMPORT (i : Nat) : Field := ⟨(0x0B01044 + 0x100 * i), 0, 32, .ro, 0⟩
def F.BOE.DEMAND_EXPORT (i : Nat) : Field := ⟨(0x0B01048 + 0x100 * i), 0, 32, .ro, 0⟩
def F.BOE.INTERVAL_SEQ (i : Nat) : Field := ⟨(0x0B0104C + 0x100 * i), 0, 32, .ro, 0⟩
def F.BOE.V_RMS (i : Nat) : Field := ⟨(0x0B02000 + 0x20 * i), 0, 32, .ro, 0⟩
def F.BOE.V_FUND (i : Nat) : Field := ⟨(0x0B02004 + 0x20 * i), 0, 32, .ro, 0⟩
def F.BOE.V_THD (i : Nat) : Field := ⟨(0x0B02008 + 0x20 * i), 0, 32, .ro, 0⟩
def F.BOE.I_RMS (i : Nat) : Field := ⟨(0x0B03000 + 0x40 * i), 0, 32, .ro, 0⟩
def F.BOE.I_FUND (i : Nat) : Field := ⟨(0x0B03004 + 0x40 * i), 0, 32, .ro, 0⟩
def F.BOE.I_THD (i : Nat) : Field := ⟨(0x0B03008 + 0x40 * i), 0, 32, .ro, 0⟩
def F.BOE.I_P (i : Nat) : Field := ⟨(0x0B0300C + 0x40 * i), 0, 32, .ro, 0⟩
def F.BOE.I_Q (i : Nat) : Field := ⟨(0x0B03010 + 0x40 * i), 0, 32, .ro, 0⟩
def F.BOE.I_S (i : Nat) : Field := ⟨(0x0B03014 + 0x40 * i), 0, 32, .ro, 0⟩
def F.BOE.I_PF (i : Nat) : Field := ⟨(0x0B03018 + 0x40 * i), 0, 32, .ro, 0⟩
def F.BOE.V_STATE_BELOW (i : Nat) : Field := ⟨(0x0B0200C + 0x20 * i), 2, 1, .ro, 0⟩
def F.BOE.V_STATE_OVERLOAD (i : Nat) : Field := ⟨(0x0B0200C + 0x20 * i), 1, 1, .ro, 0⟩
def F.BOE.V_STATE_USED (i : Nat) : Field := ⟨(0x0B0200C + 0x20 * i), 0, 1, .lk, 0⟩
def F.BOE.I_STATE_BELOW (i : Nat) : Field := ⟨(0x0B0301C + 0x40 * i), 2, 1, .ro, 0⟩
def F.BOE.I_STATE_OVERLOAD (i : Nat) : Field := ⟨(0x0B0301C + 0x40 * i), 1, 1, .ro, 0⟩
def F.BOE.I_STATE_USED (i : Nat) : Field := ⟨(0x0B0301C + 0x40 * i), 0, 1, .lk, 0⟩
def F.BOE.CAL_V_RMS (i : Nat) : Field := ⟨(0x0B03020 + 0x40 * i), 0, 32, .ro, 0⟩
def F.BOE.CAL_I_RMS (i : Nat) : Field := ⟨(0x0B03024 + 0x40 * i), 0, 32, .ro, 0⟩
def F.BOE.CAL_P (i : Nat) : Field := ⟨(0x0B03028 + 0x40 * i), 0, 32, .ro, 0⟩
def F.BOE.CAL_Q (i : Nat) : Field := ⟨(0x0B0302C + 0x40 * i), 0, 32, .ro, 0⟩
def F.BOE.V_RATIO (i : Nat) : Field := ⟨(0x0B04000 + 0x10 * i), 0, 32, .lk, 0⟩
def F.BOE.V_GAIN (i : Nat) : Field := ⟨(0x0B04004 + 0x10 * i), 0, 32, .lk, 0⟩
def F.BOE.V_OFFSET (i : Nat) : Field := ⟨(0x0B04008 + 0x10 * i), 0, 32, .lk, 0⟩
def F.BOE.I_RATIO (i : Nat) : Field := ⟨(0x0B05000 + 0x20 * i), 0, 32, .lk, 0⟩
def F.BOE.I_GAIN (i : Nat) : Field := ⟨(0x0B05004 + 0x20 * i), 0, 32, .lk, 0⟩
def F.BOE.I_OFFSET (i : Nat) : Field := ⟨(0x0B05008 + 0x20 * i), 0, 32, .lk, 0⟩
def F.BOE.P_GAIN (i : Nat) : Field := ⟨(0x0B0500C + 0x20 * i), 0, 32, .lk, 0⟩
def F.BOE.P_OFFSET (i : Nat) : Field := ⟨(0x0B05010 + 0x20 * i), 0, 32, .lk, 0⟩
def F.BOE.Q_GAIN (i : Nat) : Field := ⟨(0x0B05014 + 0x20 * i), 0, 32, .lk, 0⟩
def F.BOE.Q_OFFSET (i : Nat) : Field := ⟨(0x0B05018 + 0x20 * i), 0, 32, .lk, 0⟩
def F.BOE.PHASE_DELAY (i : Nat) : Field := ⟨(0x0B0501C + 0x20 * i), 0, 32, .lk, 0⟩
def F.BOE.V_MAG (i : Nat) (j : Nat) : Field := ⟨(0x0B80000 + 0x200 * i + 8 * j), 0, 32, .ro, 0⟩
def F.BOE.V_PHASE (i : Nat) (j : Nat) : Field := ⟨(0x0B80004 + 0x200 * i + 8 * j), 0, 32, .ro, 0⟩
def F.BOE.I_MAG (i : Nat) (j : Nat) : Field := ⟨(0x0B90000 + 0x200 * i + 8 * j), 0, 32, .ro, 0⟩
def F.BOE.I_PHASE (i : Nat) (j : Nat) : Field := ⟨(0x0B90004 + 0x200 * i + 8 * j), 0, 32, .ro, 0⟩
def rowsBOE0 : List RegRow := [
  ⟨0x0B00000, [], [F.BOE.UNIT_ID_IDENT, F.BOE.UNIT_ID_UNIT, F.BOE.UNIT_ID_REVISION]⟩,
  ⟨0x0B00004, [], [F.BOE.STATUS_CAL_BUSY, F.BOE.STATUS_ACCUM_GAP, F.BOE.STATUS_OVERLOAD, F.BOE.STATUS_MEMORY_ERROR, F.BOE.STATUS_INTEGRATING]⟩,
  ⟨0x0B00008, [], [F.BOE.METER_COUNT]⟩,
  ⟨0x0B0000C, [], [F.BOE.METRO_EVENT_COUNT]⟩,
  ⟨0x0B00010, [(4, 12)], [(F.BOE.METRO_HASH 0)]⟩,
  ⟨0x0B00040, [(4, 4)], [(F.BOE.FREQ 0)]⟩,
  ⟨0x0B00050, [(4, 4)], [(F.BOE.SET_STATE_SAMPLES 0), (F.BOE.SET_STATE_REFERENCE 0), (F.BOE.SET_STATE_FREQ_RANGE 0), (F.BOE.SET_STATE_NO_VOLTAGE 0), (F.BOE.SET_STATE_ACTIVE 0)]⟩,
  ⟨0x0B00080, [], [F.BOE.CMD]⟩,
  ⟨0x0B00084, [], [F.BOE.CMD_ARG0]⟩,
  ⟨0x0B00088, [], [F.BOE.CMD_ARG1]⟩,
  ⟨0x0B0008C, [], [F.BOE.CMD_RESULT_OPCODE, F.BOE.CMD_RESULT_RESULT]⟩,
  ⟨0x0B00090, [], [F.BOE.CAL_STATE_WINDOWS, F.BOE.CAL_STATE_METER, F.BOE.CAL_STATE_STATE]⟩,
  ⟨0x0B01000, [(0x100, 16)], [(F.BOE.IMPORT_LO 0)]⟩,
  ⟨0x0B01004, [(0x100, 16)], [(F.BOE.IMPORT_HI 0)]⟩,
  ⟨0x0B01008, [(0x100, 16)], [(F.BOE.EXPORT_LO 0)]⟩,
  ⟨0x0B0100C, [(0x100, 16)], [(F.BOE.EXPORT_HI 0)]⟩,
  ⟨0x0B01010, [(0x100, 16)], [(F.BOE.Q1_LO 0)]⟩,
  ⟨0x0B01014, [(0x100, 16)], [(F.BOE.Q1_HI 0)]⟩,
  ⟨0x0B01018, [(0x100, 16)], [(F.BOE.Q2_LO 0)]⟩,
  ⟨0x0B0101C, [(0x100, 16)], [(F.BOE.Q2_HI 0)]⟩,
  ⟨0x0B01020, [(0x100, 16)], [(F.BOE.Q3_LO 0)]⟩,
  ⟨0x0B01024, [(0x100, 16)], [(F.BOE.Q3_HI 0)]⟩,
  ⟨0x0B01028, [(0x100, 16)], [(F.BOE.Q4_LO 0)]⟩,
  ⟨0x0B0102C, [(0x100, 16)], [(F.BOE.Q4_HI 0)]⟩]
def rowsBOE1 : List RegRow := [
  ⟨0x0B01030, [(0x100, 16)], [(F.BOE.METER_STATE_VOLTAGE_SET 0), (F.BOE.METER_STATE_WIRING 0), (F.BOE.METER_STATE_HALTED 0), (F.BOE.METER_STATE_CONFIGURED 0)]⟩,
  ⟨0x0B01034, [(0x100, 16)], [(F.BOE.METER_P 0)]⟩,
  ⟨0x0B01038, [(0x100, 16)], [(F.BOE.METER_Q 0)]⟩,
  ⟨0x0B0103C, [(0x100, 16)], [(F.BOE.METER_S 0)]⟩,
  ⟨0x0B01040, [(0x100, 16)], [(F.BOE.METER_PF 0)]⟩,
  ⟨0x0B01044, [(0x100, 16)], [(F.BOE.DEMAND_IMPORT 0)]⟩,
  ⟨0x0B01048, [(0x100, 16)], [(F.BOE.DEMAND_EXPORT 0)]⟩,
  ⟨0x0B0104C, [(0x100, 16)], [(F.BOE.INTERVAL_SEQ 0)]⟩,
  ⟨0x0B02000, [(0x20, 12)], [(F.BOE.V_RMS 0)]⟩,
  ⟨0x0B02004, [(0x20, 12)], [(F.BOE.V_FUND 0)]⟩,
  ⟨0x0B02008, [(0x20, 12)], [(F.BOE.V_THD 0)]⟩,
  ⟨0x0B03000, [(0x40, 48)], [(F.BOE.I_RMS 0)]⟩,
  ⟨0x0B03004, [(0x40, 48)], [(F.BOE.I_FUND 0)]⟩,
  ⟨0x0B03008, [(0x40, 48)], [(F.BOE.I_THD 0)]⟩,
  ⟨0x0B0300C, [(0x40, 48)], [(F.BOE.I_P 0)]⟩,
  ⟨0x0B03010, [(0x40, 48)], [(F.BOE.I_Q 0)]⟩,
  ⟨0x0B03014, [(0x40, 48)], [(F.BOE.I_S 0)]⟩,
  ⟨0x0B03018, [(0x40, 48)], [(F.BOE.I_PF 0)]⟩,
  ⟨0x0B0200C, [(0x20, 12)], [(F.BOE.V_STATE_BELOW 0), (F.BOE.V_STATE_OVERLOAD 0), (F.BOE.V_STATE_USED 0)]⟩,
  ⟨0x0B0301C, [(0x40, 48)], [(F.BOE.I_STATE_BELOW 0), (F.BOE.I_STATE_OVERLOAD 0), (F.BOE.I_STATE_USED 0)]⟩,
  ⟨0x0B03020, [(0x40, 48)], [(F.BOE.CAL_V_RMS 0)]⟩,
  ⟨0x0B03024, [(0x40, 48)], [(F.BOE.CAL_I_RMS 0)]⟩,
  ⟨0x0B03028, [(0x40, 48)], [(F.BOE.CAL_P 0)]⟩,
  ⟨0x0B0302C, [(0x40, 48)], [(F.BOE.CAL_Q 0)]⟩]
def rowsBOE2 : List RegRow := [
  ⟨0x0B04000, [(0x10, 12)], [(F.BOE.V_RATIO 0)]⟩,
  ⟨0x0B04004, [(0x10, 12)], [(F.BOE.V_GAIN 0)]⟩,
  ⟨0x0B04008, [(0x10, 12)], [(F.BOE.V_OFFSET 0)]⟩,
  ⟨0x0B05000, [(0x20, 48)], [(F.BOE.I_RATIO 0)]⟩,
  ⟨0x0B05004, [(0x20, 48)], [(F.BOE.I_GAIN 0)]⟩,
  ⟨0x0B05008, [(0x20, 48)], [(F.BOE.I_OFFSET 0)]⟩,
  ⟨0x0B0500C, [(0x20, 48)], [(F.BOE.P_GAIN 0)]⟩,
  ⟨0x0B05010, [(0x20, 48)], [(F.BOE.P_OFFSET 0)]⟩,
  ⟨0x0B05014, [(0x20, 48)], [(F.BOE.Q_GAIN 0)]⟩,
  ⟨0x0B05018, [(0x20, 48)], [(F.BOE.Q_OFFSET 0)]⟩,
  ⟨0x0B0501C, [(0x20, 48)], [(F.BOE.PHASE_DELAY 0)]⟩,
  ⟨0x0B80000, [(0x200, 12), (8, 64)], [(F.BOE.V_MAG 0 0)]⟩,
  ⟨0x0B80004, [(0x200, 12), (8, 64)], [(F.BOE.V_PHASE 0 0)]⟩,
  ⟨0x0B90000, [(0x200, 48), (8, 64)], [(F.BOE.I_MAG 0 0)]⟩,
  ⟨0x0B90004, [(0x200, 48), (8, 64)], [(F.BOE.I_PHASE 0 0)]⟩]
/-- The registers of the BOE window. -/
def rowsBOE : List RegRow := rowsBOE0 ++ rowsBOE1 ++ rowsBOE2

/-! ### BOT -/

def F.BOT.UNIT_ID_IDENT : Field := ⟨0x0C00000, 16, 16, .ro, 0x4254⟩
def F.BOT.UNIT_ID_UNIT : Field := ⟨0x0C00000, 8, 8, .ro, 0xc⟩
def F.BOT.UNIT_ID_REVISION : Field := ⟨0x0C00000, 0, 8, .ro, 1⟩
def F.BOT.STATUS_ERROR_ANY : Field := ⟨0x0C00004, 4, 1, .ro, 0⟩
def F.BOT.STATUS_ACCUM_GAP : Field := ⟨0x0C00004, 3, 1, .w1c, 0⟩
def F.BOT.STATUS_REVERSED : Field := ⟨0x0C00004, 2, 1, .w1c, 0⟩
def F.BOT.STATUS_MEMORY_ERROR : Field := ⟨0x0C00004, 1, 1, .w1c, 0⟩
def F.BOT.STATUS_INTEGRATING : Field := ⟨0x0C00004, 0, 1, .ro, 0⟩
def F.BOT.CONFIG_SAVE_MIN : Field := ⟨0x0C00008, 24, 8, .lk, 0⟩
def F.BOT.CONFIG_INTERVAL_MIN : Field := ⟨0x0C00008, 16, 8, .lk, 0⟩
def F.BOT.CONFIG_CALC_COUNT : Field := ⟨0x0C00008, 0, 6, .lk, 0⟩
def F.BOT.HEAT_FWD_LO (i : Nat) : Field := ⟨(0x0C01000 + 0x100 * i), 0, 32, .ro, 0⟩
def F.BOT.HEAT_FWD_HI (i : Nat) : Field := ⟨(0x0C01004 + 0x100 * i), 0, 32, .ro, 0⟩
def F.BOT.HEAT_REV_LO (i : Nat) : Field := ⟨(0x0C01008 + 0x100 * i), 0, 32, .ro, 0⟩
def F.BOT.HEAT_REV_HI (i : Nat) : Field := ⟨(0x0C0100C + 0x100 * i), 0, 32, .ro, 0⟩
def F.BOT.COLD_FWD_LO (i : Nat) : Field := ⟨(0x0C01010 + 0x100 * i), 0, 32, .ro, 0⟩
def F.BOT.COLD_FWD_HI (i : Nat) : Field := ⟨(0x0C01014 + 0x100 * i), 0, 32, .ro, 0⟩
def F.BOT.COLD_REV_LO (i : Nat) : Field := ⟨(0x0C01018 + 0x100 * i), 0, 32, .ro, 0⟩
def F.BOT.COLD_REV_HI (i : Nat) : Field := ⟨(0x0C0101C + 0x100 * i), 0, 32, .ro, 0⟩
def F.BOT.VOL_FWD_LO (i : Nat) : Field := ⟨(0x0C01020 + 0x100 * i), 0, 32, .ro, 0⟩
def F.BOT.VOL_FWD_HI (i : Nat) : Field := ⟨(0x0C01024 + 0x100 * i), 0, 32, .ro, 0⟩
def F.BOT.VOL_REV_LO (i : Nat) : Field := ⟨(0x0C01028 + 0x100 * i), 0, 32, .ro, 0⟩
def F.BOT.VOL_REV_HI (i : Nat) : Field := ⟨(0x0C0102C + 0x100 * i), 0, 32, .ro, 0⟩
def F.BOT.TARIFF_0_LO (i : Nat) : Field := ⟨(0x0C01030 + 0x100 * i), 0, 32, .ro, 0⟩
def F.BOT.TARIFF_0_HI (i : Nat) : Field := ⟨(0x0C01034 + 0x100 * i), 0, 32, .ro, 0⟩
def F.BOT.TARIFF_1_LO (i : Nat) : Field := ⟨(0x0C01038 + 0x100 * i), 0, 32, .ro, 0⟩
def F.BOT.TARIFF_1_HI (i : Nat) : Field := ⟨(0x0C0103C + 0x100 * i), 0, 32, .ro, 0⟩
def F.BOT.TARIFF_2_LO (i : Nat) : Field := ⟨(0x0C01040 + 0x100 * i), 0, 32, .ro, 0⟩
def F.BOT.TARIFF_2_HI (i : Nat) : Field := ⟨(0x0C01044 + 0x100 * i), 0, 32, .ro, 0⟩
def F.BOT.TARIFF_3_LO (i : Nat) : Field := ⟨(0x0C01048 + 0x100 * i), 0, 32, .ro, 0⟩
def F.BOT.TARIFF_3_HI (i : Nat) : Field := ⟨(0x0C0104C + 0x100 * i), 0, 32, .ro, 0⟩
def F.BOT.TARIFF_4_LO (i : Nat) : Field := ⟨(0x0C01050 + 0x100 * i), 0, 32, .ro, 0⟩
def F.BOT.TARIFF_4_HI (i : Nat) : Field := ⟨(0x0C01054 + 0x100 * i), 0, 32, .ro, 0⟩
def F.BOT.TARIFF_5_LO (i : Nat) : Field := ⟨(0x0C01058 + 0x100 * i), 0, 32, .ro, 0⟩
def F.BOT.TARIFF_5_HI (i : Nat) : Field := ⟨(0x0C0105C + 0x100 * i), 0, 32, .ro, 0⟩
def F.BOT.TARIFF_6_LO (i : Nat) : Field := ⟨(0x0C01060 + 0x100 * i), 0, 32, .ro, 0⟩
def F.BOT.TARIFF_6_HI (i : Nat) : Field := ⟨(0x0C01064 + 0x100 * i), 0, 32, .ro, 0⟩
def F.BOT.TARIFF_7_LO (i : Nat) : Field := ⟨(0x0C01068 + 0x100 * i), 0, 32, .ro, 0⟩
def F.BOT.TARIFF_7_HI (i : Nat) : Field := ⟨(0x0C0106C + 0x100 * i), 0, 32, .ro, 0⟩
def F.BOT.CALC_STATE_CONFIGURED (i : Nat) : Field := ⟨(0x0C01070 + 0x100 * i), 31, 1, .lk, 0⟩
def F.BOT.CALC_STATE_TARIFF (i : Nat) : Field := ⟨(0x0C01070 + 0x100 * i), 24, 3, .ro, 0⟩
def F.BOT.CALC_STATE_HALTED (i : Nat) : Field := ⟨(0x0C01070 + 0x100 * i), 7, 1, .ro, 0⟩
def F.BOT.CALC_STATE_DIRECTION (i : Nat) : Field := ⟨(0x0C01070 + 0x100 * i), 6, 1, .ro, 0⟩
def F.BOT.CALC_STATE_TARIFF_DEFAULTED (i : Nat) : Field := ⟨(0x0C01070 + 0x100 * i), 5, 1, .ro, 0⟩
def F.BOT.CALC_STATE_INTEGRATION_STOPPED (i : Nat) : Field := ⟨(0x0C01070 + 0x100 * i), 4, 1, .ro, 0⟩
def F.BOT.CALC_STATE_FLOW_ERROR (i : Nat) : Field := ⟨(0x0C01070 + 0x100 * i), 3, 1, .ro, 0⟩
def F.BOT.CALC_STATE_TEMP_ERROR (i : Nat) : Field := ⟨(0x0C01070 + 0x100 * i), 2, 1, .ro, 0⟩
def F.BOT.CALC_STATE_MODE (i : Nat) : Field := ⟨(0x0C01070 + 0x100 * i), 0, 2, .lk, 0⟩
def F.BOT.T_FWD (i : Nat) : Field := ⟨(0x0C01074 + 0x100 * i), 0, 32, .ro, 0⟩
def F.BOT.T_RET (i : Nat) : Field := ⟨(0x0C01078 + 0x100 * i), 0, 32, .ro, 0⟩
def F.BOT.FLOW (i : Nat) : Field := ⟨(0x0C0107C + 0x100 * i), 0, 32, .ro, 0⟩
def F.BOT.POWER (i : Nat) : Field := ⟨(0x0C01080 + 0x100 * i), 0, 32, .ro, 0⟩
def F.BOT.K_FACTOR (i : Nat) : Field := ⟨(0x0C01084 + 0x100 * i), 0, 32, .ro, 0⟩
def F.BOT.ERROR_S (i : Nat) : Field := ⟨(0x0C01088 + 0x100 * i), 0, 32, .ro, 0⟩
def F.BOT.INTERVAL_SEQ (i : Nat) : Field := ⟨(0x0C0108C + 0x100 * i), 0, 32, .ro, 0⟩
def rowsBOT0 : List RegRow := [
  ⟨0x0C00000, [], [F.BOT.UNIT_ID_IDENT, F.BOT.UNIT_ID_UNIT, F.BOT.UNIT_ID_REVISION]⟩,
  ⟨0x0C00004, [], [F.BOT.STATUS_ERROR_ANY, F.BOT.STATUS_ACCUM_GAP, F.BOT.STATUS_REVERSED, F.BOT.STATUS_MEMORY_ERROR, F.BOT.STATUS_INTEGRATING]⟩,
  ⟨0x0C00008, [], [F.BOT.CONFIG_SAVE_MIN, F.BOT.CONFIG_INTERVAL_MIN, F.BOT.CONFIG_CALC_COUNT]⟩,
  ⟨0x0C01000, [(0x100, 32)], [(F.BOT.HEAT_FWD_LO 0)]⟩,
  ⟨0x0C01004, [(0x100, 32)], [(F.BOT.HEAT_FWD_HI 0)]⟩,
  ⟨0x0C01008, [(0x100, 32)], [(F.BOT.HEAT_REV_LO 0)]⟩,
  ⟨0x0C0100C, [(0x100, 32)], [(F.BOT.HEAT_REV_HI 0)]⟩,
  ⟨0x0C01010, [(0x100, 32)], [(F.BOT.COLD_FWD_LO 0)]⟩,
  ⟨0x0C01014, [(0x100, 32)], [(F.BOT.COLD_FWD_HI 0)]⟩,
  ⟨0x0C01018, [(0x100, 32)], [(F.BOT.COLD_REV_LO 0)]⟩,
  ⟨0x0C0101C, [(0x100, 32)], [(F.BOT.COLD_REV_HI 0)]⟩,
  ⟨0x0C01020, [(0x100, 32)], [(F.BOT.VOL_FWD_LO 0)]⟩,
  ⟨0x0C01024, [(0x100, 32)], [(F.BOT.VOL_FWD_HI 0)]⟩,
  ⟨0x0C01028, [(0x100, 32)], [(F.BOT.VOL_REV_LO 0)]⟩,
  ⟨0x0C0102C, [(0x100, 32)], [(F.BOT.VOL_REV_HI 0)]⟩,
  ⟨0x0C01030, [(0x100, 32)], [(F.BOT.TARIFF_0_LO 0)]⟩,
  ⟨0x0C01034, [(0x100, 32)], [(F.BOT.TARIFF_0_HI 0)]⟩,
  ⟨0x0C01038, [(0x100, 32)], [(F.BOT.TARIFF_1_LO 0)]⟩,
  ⟨0x0C0103C, [(0x100, 32)], [(F.BOT.TARIFF_1_HI 0)]⟩,
  ⟨0x0C01040, [(0x100, 32)], [(F.BOT.TARIFF_2_LO 0)]⟩,
  ⟨0x0C01044, [(0x100, 32)], [(F.BOT.TARIFF_2_HI 0)]⟩,
  ⟨0x0C01048, [(0x100, 32)], [(F.BOT.TARIFF_3_LO 0)]⟩,
  ⟨0x0C0104C, [(0x100, 32)], [(F.BOT.TARIFF_3_HI 0)]⟩,
  ⟨0x0C01050, [(0x100, 32)], [(F.BOT.TARIFF_4_LO 0)]⟩]
def rowsBOT1 : List RegRow := [
  ⟨0x0C01054, [(0x100, 32)], [(F.BOT.TARIFF_4_HI 0)]⟩,
  ⟨0x0C01058, [(0x100, 32)], [(F.BOT.TARIFF_5_LO 0)]⟩,
  ⟨0x0C0105C, [(0x100, 32)], [(F.BOT.TARIFF_5_HI 0)]⟩,
  ⟨0x0C01060, [(0x100, 32)], [(F.BOT.TARIFF_6_LO 0)]⟩,
  ⟨0x0C01064, [(0x100, 32)], [(F.BOT.TARIFF_6_HI 0)]⟩,
  ⟨0x0C01068, [(0x100, 32)], [(F.BOT.TARIFF_7_LO 0)]⟩,
  ⟨0x0C0106C, [(0x100, 32)], [(F.BOT.TARIFF_7_HI 0)]⟩,
  ⟨0x0C01070, [(0x100, 32)], [(F.BOT.CALC_STATE_CONFIGURED 0), (F.BOT.CALC_STATE_TARIFF 0), (F.BOT.CALC_STATE_HALTED 0), (F.BOT.CALC_STATE_DIRECTION 0), (F.BOT.CALC_STATE_TARIFF_DEFAULTED 0), (F.BOT.CALC_STATE_INTEGRATION_STOPPED 0), (F.BOT.CALC_STATE_FLOW_ERROR 0), (F.BOT.CALC_STATE_TEMP_ERROR 0), (F.BOT.CALC_STATE_MODE 0)]⟩,
  ⟨0x0C01074, [(0x100, 32)], [(F.BOT.T_FWD 0)]⟩,
  ⟨0x0C01078, [(0x100, 32)], [(F.BOT.T_RET 0)]⟩,
  ⟨0x0C0107C, [(0x100, 32)], [(F.BOT.FLOW 0)]⟩,
  ⟨0x0C01080, [(0x100, 32)], [(F.BOT.POWER 0)]⟩,
  ⟨0x0C01084, [(0x100, 32)], [(F.BOT.K_FACTOR 0)]⟩,
  ⟨0x0C01088, [(0x100, 32)], [(F.BOT.ERROR_S 0)]⟩,
  ⟨0x0C0108C, [(0x100, 32)], [(F.BOT.INTERVAL_SEQ 0)]⟩]
/-- The registers of the BOT window. -/
def rowsBOT : List RegRow := rowsBOT0 ++ rowsBOT1

/-! ### BAT -/

def F.BAT.UNIT_ID_IDENT : Field := ⟨0x0D00000, 16, 16, .ro, 0x4241⟩
def F.BAT.UNIT_ID_UNIT : Field := ⟨0x0D00000, 8, 8, .ro, 0xd⟩
def F.BAT.UNIT_ID_REVISION : Field := ⟨0x0D00000, 0, 8, .ro, 1⟩
def F.BAT.STATUS_ELAPSED_UNKNOWN : Field := ⟨0x0D00004, 6, 1, .ro, 0⟩
def F.BAT.STATUS_ACCUM_LOST : Field := ⟨0x0D00004, 5, 1, .ro, 0⟩
def F.BAT.STATUS_PD0_RETAINED : Field := ⟨0x0D00004, 4, 1, .ro, 0⟩
def F.BAT.STATUS_LOOP_OPEN : Field := ⟨0x0D00004, 3, 1, .ro, 0⟩
def F.BAT.STATUS_TAMPER : Field := ⟨0x0D00004, 2, 1, .ro, 0⟩
def F.BAT.STATUS_BATTERY_ABSENT : Field := ⟨0x0D00004, 1, 1, .ro, 0⟩
def F.BAT.STATUS_BATTERY_LOW : Field := ⟨0x0D00004, 0, 1, .ro, 0⟩
def F.BAT.BATTERY_MV : Field := ⟨0x0D00008, 0, 16, .ro, 0⟩
def F.BAT.OUTAGE_S : Field := ⟨0x0D0000C, 0, 32, .ro, 0⟩
def F.BAT.OUTAGE_EPOCH : Field := ⟨0x0D00010, 0, 32, .ro, 0⟩
def F.BAT.LOG_ENTRIES : Field := ⟨0x0D00014, 0, 32, .ro, 0⟩
def F.BAT.LOG_DROPPED : Field := ⟨0x0D00018, 0, 32, .ro, 0⟩
def F.BAT.ELAPSED_S : Field := ⟨0x0D0001C, 0, 32, .ro, 0⟩
def F.BAT.LAST_SAVE_SEQ : Field := ⟨0x0D00020, 0, 32, .ro, 0⟩
def F.BAT.LAST_SAVE_EPOCH : Field := ⟨0x0D00024, 0, 32, .ro, 0⟩
def F.BAT.LAST_SAVE_STAMP_LO : Field := ⟨0x0D00028, 0, 32, .ro, 0⟩
def F.BAT.LAST_SAVE_STAMP_HI : Field := ⟨0x0D0002C, 0, 32, .ro, 0⟩
def F.BAT.SAVE_STATE_SOURCE : Field := ⟨0x0D00030, 8, 2, .ro, 0⟩
def F.BAT.SAVE_STATE_CAUSE : Field := ⟨0x0D00030, 0, 2, .ro, 0⟩
def F.BAT.SAVE_FAIL_COUNT : Field := ⟨0x0D00034, 0, 32, .rc, 0⟩
def F.BAT.CMD : Field := ⟨0x0D00040, 0, 8, .wo, 0⟩
def F.BAT.CMD_ARG0 : Field := ⟨0x0D00044, 0, 32, .rw, 0⟩
def F.BAT.CMD_RESULT_OPCODE : Field := ⟨0x0D00048, 8, 8, .ro, 0⟩
def F.BAT.CMD_RESULT_RESULT : Field := ⟨0x0D00048, 0, 8, .ro, 0⟩
def F.BAT.MAH_LO (i : Nat) : Field := ⟨(0x0D00100 + 0x10 * i), 0, 32, .ro, 0⟩
def F.BAT.MAH_HI (i : Nat) : Field := ⟨(0x0D00104 + 0x10 * i), 0, 32, .ro, 0⟩
def F.BAT.RMS_LAST (i : Nat) : Field := ⟨(0x0D00108 + 0x10 * i), 0, 32, .ro, 0⟩
def rowsBAT0 : List RegRow := [
  ⟨0x0D00000, [], [F.BAT.UNIT_ID_IDENT, F.BAT.UNIT_ID_UNIT, F.BAT.UNIT_ID_REVISION]⟩,
  ⟨0x0D00004, [], [F.BAT.STATUS_ELAPSED_UNKNOWN, F.BAT.STATUS_ACCUM_LOST, F.BAT.STATUS_PD0_RETAINED, F.BAT.STATUS_LOOP_OPEN, F.BAT.STATUS_TAMPER, F.BAT.STATUS_BATTERY_ABSENT, F.BAT.STATUS_BATTERY_LOW]⟩,
  ⟨0x0D00008, [], [F.BAT.BATTERY_MV]⟩,
  ⟨0x0D0000C, [], [F.BAT.OUTAGE_S]⟩,
  ⟨0x0D00010, [], [F.BAT.OUTAGE_EPOCH]⟩,
  ⟨0x0D00014, [], [F.BAT.LOG_ENTRIES]⟩,
  ⟨0x0D00018, [], [F.BAT.LOG_DROPPED]⟩,
  ⟨0x0D0001C, [], [F.BAT.ELAPSED_S]⟩,
  ⟨0x0D00020, [], [F.BAT.LAST_SAVE_SEQ]⟩,
  ⟨0x0D00024, [], [F.BAT.LAST_SAVE_EPOCH]⟩,
  ⟨0x0D00028, [], [F.BAT.LAST_SAVE_STAMP_LO]⟩,
  ⟨0x0D0002C, [], [F.BAT.LAST_SAVE_STAMP_HI]⟩,
  ⟨0x0D00030, [], [F.BAT.SAVE_STATE_SOURCE, F.BAT.SAVE_STATE_CAUSE]⟩,
  ⟨0x0D00034, [], [F.BAT.SAVE_FAIL_COUNT]⟩,
  ⟨0x0D00040, [], [F.BAT.CMD]⟩,
  ⟨0x0D00044, [], [F.BAT.CMD_ARG0]⟩,
  ⟨0x0D00048, [], [F.BAT.CMD_RESULT_OPCODE, F.BAT.CMD_RESULT_RESULT]⟩,
  ⟨0x0D00100, [(0x10, 48)], [(F.BAT.MAH_LO 0)]⟩,
  ⟨0x0D00104, [(0x10, 48)], [(F.BAT.MAH_HI 0)]⟩,
  ⟨0x0D00108, [(0x10, 48)], [(F.BAT.RMS_LAST 0)]⟩]
/-- The registers of the BAT window. -/
def rowsBAT : List RegRow := rowsBAT0

/-! ### NET -/

def F.NET.UNIT_ID_IDENT : Field := ⟨0x0E00000, 16, 16, .ro, 0x4e45⟩
def F.NET.UNIT_ID_UNIT : Field := ⟨0x0E00000, 8, 8, .ro, 0xe⟩
def F.NET.UNIT_ID_REVISION : Field := ⟨0x0E00000, 0, 8, .ro, 1⟩
def F.NET.STATUS_MIRROR_UP : Field := ⟨0x0E00004, 3, 1, .ro, 0⟩
def F.NET.STATUS_PAIR1_UP : Field := ⟨0x0E00004, 2, 1, .ro, 0⟩
def F.NET.STATUS_PAIR0_UP : Field := ⟨0x0E00004, 1, 1, .ro, 0⟩
def F.NET.STATUS_RUNNING : Field := ⟨0x0E00004, 0, 1, .ro, 0⟩
def F.NET.PORTS_PRESENT : Field := ⟨0x0E00008, 0, 4, .ro, 0xF⟩
def F.NET.CONFIG_IPV6 : Field := ⟨0x0E0000C, 16, 2, .lk, 0⟩
def F.NET.CONFIG_MODE_1 : Field := ⟨0x0E0000C, 9, 1, .lk, 0⟩
def F.NET.CONFIG_MODE_0 : Field := ⟨0x0E0000C, 8, 1, .lk, 0⟩
def F.NET.CONFIG_USED : Field := ⟨0x0E0000C, 0, 4, .lk, 0⟩
def F.NET.MAC_BASE_LO : Field := ⟨0x0E00010, 0, 32, .ro, 0⟩
def F.NET.MAC_BASE_HI : Field := ⟨0x0E00014, 0, 32, .ro, 0⟩
def F.NET.MIRROR_STATE_SFP_MISMATCH : Field := ⟨0x0E00018, 2, 1, .ro, 0⟩
def F.NET.MIRROR_STATE_LINK_UP : Field := ⟨0x0E00018, 1, 1, .ro, 0⟩
def F.NET.MIRROR_STATE_ENABLED : Field := ⟨0x0E00018, 0, 1, .lk, 0⟩
def F.NET.PORT_STATE_USED (i : Nat) : Field := ⟨(0x0E00100 + 0x20 * i), 3, 1, .lk, 0⟩
def F.NET.PORT_STATE_SFP_MISMATCH (i : Nat) : Field := ⟨(0x0E00100 + 0x20 * i), 2, 1, .ro, 0⟩
def F.NET.PORT_STATE_SFP_PRESENT (i : Nat) : Field := ⟨(0x0E00100 + 0x20 * i), 1, 1, .ro, 0⟩
def F.NET.PORT_STATE_LINK_UP (i : Nat) : Field := ⟨(0x0E00100 + 0x20 * i), 0, 1, .ro, 0⟩
def F.NET.RX_FRAMES (i : Nat) : Field := ⟨(0x0E00104 + 0x20 * i), 0, 32, .rc, 0⟩
def F.NET.TX_FRAMES (i : Nat) : Field := ⟨(0x0E00108 + 0x20 * i), 0, 32, .rc, 0⟩
def F.NET.RX_DROPPED (i : Nat) : Field := ⟨(0x0E0010C + 0x20 * i), 0, 32, .rc, 0⟩
def F.NET.LATE_DISCARDED (i : Nat) : Field := ⟨(0x0E00110 + 0x20 * i), 0, 32, .rc, 0⟩
def F.NET.PRP_NODES (i : Nat) : Field := ⟨(0x0E00200 + 0x10 * i), 0, 32, .ro, 0⟩
def F.NET.PRP_DUPLICATE (i : Nat) : Field := ⟨(0x0E00204 + 0x10 * i), 0, 32, .rc, 0⟩
def F.NET.PRP_UNIQUE (i : Nat) : Field := ⟨(0x0E00208 + 0x10 * i), 0, 32, .rc, 0⟩
def F.NET.PRP_WRONG_LAN (i : Nat) : Field := ⟨(0x0E0020C + 0x10 * i), 0, 32, .rc, 0⟩
def F.NET.Q_FILL (i : Nat) : Field := ⟨(0x0E01000 + 0x10 * i), 0, 32, .ro, 0⟩
def F.NET.Q_SENT (i : Nat) : Field := ⟨(0x0E01004 + 0x10 * i), 0, 32, .rc, 0⟩
def F.NET.Q_REFUSED (i : Nat) : Field := ⟨(0x0E01008 + 0x10 * i), 0, 32, .rc, 0⟩
def F.NET.Q_LATE (i : Nat) : Field := ⟨(0x0E0100C + 0x10 * i), 0, 32, .rc, 0⟩
def rowsNET0 : List RegRow := [
  ⟨0x0E00000, [], [F.NET.UNIT_ID_IDENT, F.NET.UNIT_ID_UNIT, F.NET.UNIT_ID_REVISION]⟩,
  ⟨0x0E00004, [], [F.NET.STATUS_MIRROR_UP, F.NET.STATUS_PAIR1_UP, F.NET.STATUS_PAIR0_UP, F.NET.STATUS_RUNNING]⟩,
  ⟨0x0E00008, [], [F.NET.PORTS_PRESENT]⟩,
  ⟨0x0E0000C, [], [F.NET.CONFIG_IPV6, F.NET.CONFIG_MODE_1, F.NET.CONFIG_MODE_0, F.NET.CONFIG_USED]⟩,
  ⟨0x0E00010, [], [F.NET.MAC_BASE_LO]⟩,
  ⟨0x0E00014, [], [F.NET.MAC_BASE_HI]⟩,
  ⟨0x0E00018, [], [F.NET.MIRROR_STATE_SFP_MISMATCH, F.NET.MIRROR_STATE_LINK_UP, F.NET.MIRROR_STATE_ENABLED]⟩,
  ⟨0x0E00100, [(0x20, 4)], [(F.NET.PORT_STATE_USED 0), (F.NET.PORT_STATE_SFP_MISMATCH 0), (F.NET.PORT_STATE_SFP_PRESENT 0), (F.NET.PORT_STATE_LINK_UP 0)]⟩,
  ⟨0x0E00104, [(0x20, 4)], [(F.NET.RX_FRAMES 0)]⟩,
  ⟨0x0E00108, [(0x20, 4)], [(F.NET.TX_FRAMES 0)]⟩,
  ⟨0x0E0010C, [(0x20, 4)], [(F.NET.RX_DROPPED 0)]⟩,
  ⟨0x0E00110, [(0x20, 4)], [(F.NET.LATE_DISCARDED 0)]⟩,
  ⟨0x0E00200, [(0x10, 2)], [(F.NET.PRP_NODES 0)]⟩,
  ⟨0x0E00204, [(0x10, 2)], [(F.NET.PRP_DUPLICATE 0)]⟩,
  ⟨0x0E00208, [(0x10, 2)], [(F.NET.PRP_UNIQUE 0)]⟩,
  ⟨0x0E0020C, [(0x10, 2)], [(F.NET.PRP_WRONG_LAN 0)]⟩,
  ⟨0x0E01000, [(0x10, 32)], [(F.NET.Q_FILL 0)]⟩,
  ⟨0x0E01004, [(0x10, 32)], [(F.NET.Q_SENT 0)]⟩,
  ⟨0x0E01008, [(0x10, 32)], [(F.NET.Q_REFUSED 0)]⟩,
  ⟨0x0E0100C, [(0x10, 32)], [(F.NET.Q_LATE 0)]⟩]
/-- The registers of the NET window. -/
def rowsNET : List RegRow := rowsNET0

/-! ### LRP -/

def F.LRP.UNIT_ID_IDENT : Field := ⟨0x0F00000, 16, 16, .ro, 0x4c52⟩
def F.LRP.UNIT_ID_UNIT : Field := ⟨0x0F00000, 8, 8, .ro, 0xf⟩
def F.LRP.UNIT_ID_REVISION : Field := ⟨0x0F00000, 0, 8, .ro, 1⟩
def F.LRP.STATUS_TOTAL_SHED : Field := ⟨0x0F00004, 2, 1, .w1c, 0⟩
def F.LRP.STATUS_POWER_ANY : Field := ⟨0x0F00004, 1, 1, .ro, 0⟩
def F.LRP.STATUS_RUNNING : Field := ⟨0x0F00004, 0, 1, .ro, 0⟩
def F.LRP.BUDGET_MW : Field := ⟨0x0F00008, 0, 32, .lk, 0⟩
def F.LRP.POWER_MW : Field := ⟨0x0F0000C, 0, 32, .ro, 0⟩
def F.LRP.CMD : Field := ⟨0x0F00040, 0, 8, .wo, 0⟩
def F.LRP.CMD_ARG0 : Field := ⟨0x0F00044, 0, 32, .rw, 0⟩
def F.LRP.CMD_RESULT_OPCODE : Field := ⟨0x0F00048, 8, 8, .ro, 0⟩
def F.LRP.CMD_RESULT_RESULT : Field := ⟨0x0F00048, 0, 8, .ro, 0⟩
def F.LRP.PORT_STATE_AMPLITUDE (i : Nat) : Field := ⟨(0x0F00100 + 0x20 * i), 16, 1, .lk, 0⟩
def F.LRP.PORT_STATE_CLASS (i : Nat) : Field := ⟨(0x0F00100 + 0x20 * i), 12, 4, .lk, 0⟩
def F.LRP.PORT_STATE_LINK_UP (i : Nat) : Field := ⟨(0x0F00100 + 0x20 * i), 8, 1, .ro, 0⟩
def F.LRP.PORT_STATE_USED (i : Nat) : Field := ⟨(0x0F00100 + 0x20 * i), 3, 1, .lk, 0⟩
def F.LRP.PORT_STATE_POWER (i : Nat) : Field := ⟨(0x0F00100 + 0x20 * i), 0, 3, .ro, 0⟩
def F.LRP.PORT_POWER_MW (i : Nat) : Field := ⟨(0x0F00104 + 0x20 * i), 0, 32, .ro, 0⟩
def F.LRP.POWER_FAULT_COUNT (i : Nat) : Field := ⟨(0x0F00108 + 0x20 * i), 0, 32, .rc, 0⟩
def F.LRP.RX_FRAMES (i : Nat) : Field := ⟨(0x0F0010C + 0x20 * i), 0, 32, .rc, 0⟩
def F.LRP.TX_FRAMES (i : Nat) : Field := ⟨(0x0F00110 + 0x20 * i), 0, 32, .rc, 0⟩
def F.LRP.RX_DROPPED (i : Nat) : Field := ⟨(0x0F00114 + 0x20 * i), 0, 32, .rc, 0⟩
def F.LRP.LATE_DISCARDED (i : Nat) : Field := ⟨(0x0F00118 + 0x20 * i), 0, 32, .rc, 0⟩
def F.LRP.Q_FILL (i : Nat) : Field := ⟨(0x0F01000 + 0x10 * i), 0, 32, .ro, 0⟩
def F.LRP.Q_SENT (i : Nat) : Field := ⟨(0x0F01004 + 0x10 * i), 0, 32, .rc, 0⟩
def F.LRP.Q_REFUSED (i : Nat) : Field := ⟨(0x0F01008 + 0x10 * i), 0, 32, .rc, 0⟩
def F.LRP.Q_LATE (i : Nat) : Field := ⟨(0x0F0100C + 0x10 * i), 0, 32, .rc, 0⟩
def rowsLRP0 : List RegRow := [
  ⟨0x0F00000, [], [F.LRP.UNIT_ID_IDENT, F.LRP.UNIT_ID_UNIT, F.LRP.UNIT_ID_REVISION]⟩,
  ⟨0x0F00004, [], [F.LRP.STATUS_TOTAL_SHED, F.LRP.STATUS_POWER_ANY, F.LRP.STATUS_RUNNING]⟩,
  ⟨0x0F00008, [], [F.LRP.BUDGET_MW]⟩,
  ⟨0x0F0000C, [], [F.LRP.POWER_MW]⟩,
  ⟨0x0F00040, [], [F.LRP.CMD]⟩,
  ⟨0x0F00044, [], [F.LRP.CMD_ARG0]⟩,
  ⟨0x0F00048, [], [F.LRP.CMD_RESULT_OPCODE, F.LRP.CMD_RESULT_RESULT]⟩,
  ⟨0x0F00100, [(0x20, 8)], [(F.LRP.PORT_STATE_AMPLITUDE 0), (F.LRP.PORT_STATE_CLASS 0), (F.LRP.PORT_STATE_LINK_UP 0), (F.LRP.PORT_STATE_USED 0), (F.LRP.PORT_STATE_POWER 0)]⟩,
  ⟨0x0F00104, [(0x20, 8)], [(F.LRP.PORT_POWER_MW 0)]⟩,
  ⟨0x0F00108, [(0x20, 8)], [(F.LRP.POWER_FAULT_COUNT 0)]⟩,
  ⟨0x0F0010C, [(0x20, 8)], [(F.LRP.RX_FRAMES 0)]⟩,
  ⟨0x0F00110, [(0x20, 8)], [(F.LRP.TX_FRAMES 0)]⟩,
  ⟨0x0F00114, [(0x20, 8)], [(F.LRP.RX_DROPPED 0)]⟩,
  ⟨0x0F00118, [(0x20, 8)], [(F.LRP.LATE_DISCARDED 0)]⟩,
  ⟨0x0F01000, [(0x10, 16)], [(F.LRP.Q_FILL 0)]⟩,
  ⟨0x0F01004, [(0x10, 16)], [(F.LRP.Q_SENT 0)]⟩,
  ⟨0x0F01008, [(0x10, 16)], [(F.LRP.Q_REFUSED 0)]⟩,
  ⟨0x0F0100C, [(0x10, 16)], [(F.LRP.Q_LATE 0)]⟩]
/-- The registers of the LRP window. -/
def rowsLRP : List RegRow := rowsLRP0

/-! ### STN -/

def F.STN.UNIT_ID_IDENT : Field := ⟨0x1000000, 16, 16, .ro, 0x5354⟩
def F.STN.UNIT_ID_UNIT : Field := ⟨0x1000000, 8, 8, .ro, 0x10⟩
def F.STN.UNIT_ID_REVISION : Field := ⟨0x1000000, 0, 8, .ro, 1⟩
def F.STN.STATUS_EPOCH_EXHAUSTED : Field := ⟨0x1000004, 3, 1, .ro, 0⟩
def F.STN.STATUS_OVERLOAD : Field := ⟨0x1000004, 2, 1, .w1c, 0⟩
def F.STN.STATUS_MEMORY_ERROR : Field := ⟨0x1000004, 1, 1, .w1c, 0⟩
def F.STN.STATUS_RUNNING : Field := ⟨0x1000004, 0, 1, .ro, 0⟩
def F.STN.STATION_COUNT : Field := ⟨0x1000008, 0, 13, .lk, 0⟩
def F.STN.WAITING_NOW : Field := ⟨0x100000C, 0, 13, .ro, 0⟩
def F.STN.ACTIVE_NOW : Field := ⟨0x1000010, 0, 13, .ro, 0⟩
def F.STN.ABSENT_NOW : Field := ⟨0x1000014, 0, 13, .ro, 0⟩
def F.STN.AUTH_FAIL_COUNT : Field := ⟨0x1000018, 0, 32, .rc, 0⟩
def F.STN.REPLAY_COUNT : Field := ⟨0x100001C, 0, 32, .rc, 0⟩
def F.STN.LATE_COUNT : Field := ⟨0x1000020, 0, 32, .rc, 0⟩
def F.STN.MALFORMED_COUNT : Field := ⟨0x1000024, 0, 32, .rc, 0⟩
def F.STN.ECHO_FAIL_COUNT : Field := ⟨0x1000028, 0, 32, .rc, 0⟩
def F.STN.OVERLOAD_COUNT : Field := ⟨0x100002C, 0, 32, .rc, 0⟩
def F.STN.OUT_DISCARDED_COUNT : Field := ⟨0x1000030, 0, 32, .rc, 0⟩
def F.STN.ST_STATE_CONFIGURED (i : Nat) : Field := ⟨(0x1010000 + 0x20 * i), 31, 1, .lk, 0⟩
def F.STN.ST_STATE_CLASSES (i : Nat) : Field := ⟨(0x1010000 + 0x20 * i), 16, 3, .lk, 0⟩
def F.STN.ST_STATE_MISSES (i : Nat) : Field := ⟨(0x1010000 + 0x20 * i), 8, 8, .ro, 0⟩
def F.STN.ST_STATE_CAUSE (i : Nat) : Field := ⟨(0x1010000 + 0x20 * i), 4, 4, .ro, 0⟩
def F.STN.ST_STATE_STATE (i : Nat) : Field := ⟨(0x1010000 + 0x20 * i), 0, 3, .ro, 0⟩
def F.STN.ST_EXCHANGE (i : Nat) : Field := ⟨(0x1010004 + 0x20 * i), 0, 32, .ro, 0⟩
def F.STN.ST_UP_SEQ_LO (i : Nat) : Field := ⟨(0x1010008 + 0x20 * i), 0, 32, .ro, 0⟩
def F.STN.ST_UP_SEQ_HI (i : Nat) : Field := ⟨(0x101000C + 0x20 * i), 0, 32, .ro, 0⟩
def F.STN.ST_STATUS (i : Nat) : Field := ⟨(0x1010010 + 0x20 * i), 0, 32, .ro, 0⟩
def F.STN.ST_IN_FRAMES (i : Nat) : Field := ⟨(0x1010014 + 0x20 * i), 0, 32, .rc, 0⟩
def F.STN.ST_OUT_FRAMES (i : Nat) : Field := ⟨(0x1010018 + 0x20 * i), 0, 32, .rc, 0⟩
def F.STN.ST_OUT_DISCARDED (i : Nat) : Field := ⟨(0x101001C + 0x20 * i), 0, 32, .rc, 0⟩
def rowsSTN0 : List RegRow := [
  ⟨0x1000000, [], [F.STN.UNIT_ID_IDENT, F.STN.UNIT_ID_UNIT, F.STN.UNIT_ID_REVISION]⟩,
  ⟨0x1000004, [], [F.STN.STATUS_EPOCH_EXHAUSTED, F.STN.STATUS_OVERLOAD, F.STN.STATUS_MEMORY_ERROR, F.STN.STATUS_RUNNING]⟩,
  ⟨0x1000008, [], [F.STN.STATION_COUNT]⟩,
  ⟨0x100000C, [], [F.STN.WAITING_NOW]⟩,
  ⟨0x1000010, [], [F.STN.ACTIVE_NOW]⟩,
  ⟨0x1000014, [], [F.STN.ABSENT_NOW]⟩,
  ⟨0x1000018, [], [F.STN.AUTH_FAIL_COUNT]⟩,
  ⟨0x100001C, [], [F.STN.REPLAY_COUNT]⟩,
  ⟨0x1000020, [], [F.STN.LATE_COUNT]⟩,
  ⟨0x1000024, [], [F.STN.MALFORMED_COUNT]⟩,
  ⟨0x1000028, [], [F.STN.ECHO_FAIL_COUNT]⟩,
  ⟨0x100002C, [], [F.STN.OVERLOAD_COUNT]⟩,
  ⟨0x1000030, [], [F.STN.OUT_DISCARDED_COUNT]⟩,
  ⟨0x1010000, [(0x20, 4096)], [(F.STN.ST_STATE_CONFIGURED 0), (F.STN.ST_STATE_CLASSES 0), (F.STN.ST_STATE_MISSES 0), (F.STN.ST_STATE_CAUSE 0), (F.STN.ST_STATE_STATE 0)]⟩,
  ⟨0x1010004, [(0x20, 4096)], [(F.STN.ST_EXCHANGE 0)]⟩,
  ⟨0x1010008, [(0x20, 4096)], [(F.STN.ST_UP_SEQ_LO 0)]⟩,
  ⟨0x101000C, [(0x20, 4096)], [(F.STN.ST_UP_SEQ_HI 0)]⟩,
  ⟨0x1010010, [(0x20, 4096)], [(F.STN.ST_STATUS 0)]⟩,
  ⟨0x1010014, [(0x20, 4096)], [(F.STN.ST_IN_FRAMES 0)]⟩,
  ⟨0x1010018, [(0x20, 4096)], [(F.STN.ST_OUT_FRAMES 0)]⟩,
  ⟨0x101001C, [(0x20, 4096)], [(F.STN.ST_OUT_DISCARDED 0)]⟩]
/-- The registers of the STN window. -/
def rowsSTN : List RegRow := rowsSTN0

/-! ### CAN -/

def F.CAN.UNIT_ID_IDENT : Field := ⟨0x1100000, 16, 16, .ro, 0x434e⟩
def F.CAN.UNIT_ID_UNIT : Field := ⟨0x1100000, 8, 8, .ro, 0x11⟩
def F.CAN.UNIT_ID_REVISION : Field := ⟨0x1100000, 0, 8, .ro, 1⟩
def F.CAN.STATUS_MEMORY_ERROR : Field := ⟨0x1100004, 3, 1, .w1c, 0⟩
def F.CAN.STATUS_BUS_OFF_ANY : Field := ⟨0x1100004, 2, 1, .ro, 0⟩
def F.CAN.STATUS_PASSIVE_ANY : Field := ⟨0x1100004, 1, 1, .ro, 0⟩
def F.CAN.STATUS_RUNNING : Field := ⟨0x1100004, 0, 1, .ro, 0⟩
def F.CAN.CMD : Field := ⟨0x1100040, 0, 8, .wo, 0⟩
def F.CAN.CMD_ARG0 : Field := ⟨0x1100044, 0, 32, .rw, 0⟩
def F.CAN.CMD_ARG1 : Field := ⟨0x1100048, 0, 32, .rw, 0⟩
def F.CAN.CMD_RESULT_OPCODE : Field := ⟨0x110004C, 8, 8, .ro, 0⟩
def F.CAN.CMD_RESULT_RESULT : Field := ⟨0x110004C, 0, 8, .ro, 0⟩
def F.CAN.PORT_STATE_USED (i : Nat) : Field := ⟨(0x1100100 + 0x100 * i), 31, 1, .lk, 0⟩
def F.CAN.PORT_STATE_TT (i : Nat) : Field := ⟨(0x1100100 + 0x100 * i), 30, 1, .lk, 0⟩
def F.CAN.PORT_STATE_AUTO_RECOVER (i : Nat) : Field := ⟨(0x1100100 + 0x100 * i), 29, 1, .lk, 0⟩
def F.CAN.PORT_STATE_MODE (i : Nat) : Field := ⟨(0x1100100 + 0x100 * i), 24, 2, .ro, 0⟩
def F.CAN.PORT_STATE_ERROR_STATE (i : Nat) : Field := ⟨(0x1100100 + 0x100 * i), 16, 2, .ro, 0⟩
def F.CAN.ERROR_COUNTERS_TEC (i : Nat) : Field := ⟨(0x1100104 + 0x100 * i), 16, 9, .ro, 0⟩
def F.CAN.ERROR_COUNTERS_REC (i : Nat) : Field := ⟨(0x1100104 + 0x100 * i), 0, 8, .ro, 0⟩
def F.CAN.CYCLE_WINDOW (i : Nat) : Field := ⟨(0x1100108 + 0x100 * i), 8, 6, .ro, 0⟩
def F.CAN.CYCLE_COUNT (i : Nat) : Field := ⟨(0x1100108 + 0x100 * i), 0, 6, .ro, 0⟩
def F.CAN.BUS_OFF_COUNT (i : Nat) : Field := ⟨(0x110010C + 0x100 * i), 0, 32, .rc, 0⟩
def F.CAN.RX_FRAMES (i : Nat) : Field := ⟨(0x1100110 + 0x100 * i), 0, 32, .rc, 0⟩
def F.CAN.TX_FRAMES (i : Nat) : Field := ⟨(0x1100114 + 0x100 * i), 0, 32, .rc, 0⟩
def F.CAN.RX_UNMATCHED (i : Nat) : Field := ⟨(0x1100118 + 0x100 * i), 0, 32, .rc, 0⟩
def F.CAN.RX_ERRORS (i : Nat) : Field := ⟨(0x110011C + 0x100 * i), 0, 32, .rc, 0⟩
def F.CAN.WINDOW_MISSED (i : Nat) : Field := ⟨(0x1100120 + 0x100 * i), 0, 32, .rc, 0⟩
def F.CAN.REF_MISSED (i : Nat) : Field := ⟨(0x1100124 + 0x100 * i), 0, 32, .rc, 0⟩
def F.CAN.SUPERSEDED (i : Nat) : Field := ⟨(0x1100128 + 0x100 * i), 0, 32, .rc, 0⟩
def F.CAN.HTX_ID (i : Nat) : Field := ⟨(0x1100140 + 0x100 * i), 0, 32, .rw, 0⟩
def F.CAN.HTX_CTRL (i : Nat) : Field := ⟨(0x1100144 + 0x100 * i), 0, 32, .rw, 0⟩
def F.CAN.HTX_DATA (i : Nat) (j : Nat) : Field := ⟨(0x1100180 + 0x100 * i + 4 * j), 0, 32, .rw, 0⟩
def F.CAN.Q_FILL (i : Nat) : Field := ⟨(0x1100800 + 0x10 * i), 0, 32, .ro, 0⟩
def F.CAN.Q_SENT (i : Nat) : Field := ⟨(0x1100804 + 0x10 * i), 0, 32, .rc, 0⟩
def F.CAN.Q_REFUSED (i : Nat) : Field := ⟨(0x1100808 + 0x10 * i), 0, 32, .rc, 0⟩
def F.CAN.Q_LATE (i : Nat) : Field := ⟨(0x110080C + 0x10 * i), 0, 32, .rc, 0⟩
def F.CAN.BUF_STATUS_CONFIGURED (i : Nat) (j : Nat) : Field := ⟨(0x1110000 + 0x8000 * i + 0x80 * j), 31, 1, .lk, 0⟩
def F.CAN.BUF_STATUS_KIND (i : Nat) (j : Nat) : Field := ⟨(0x1110000 + 0x8000 * i + 0x80 * j), 29, 2, .lk, 0⟩
def F.CAN.BUF_STATUS_HALTED (i : Nat) (j : Nat) : Field := ⟨(0x1110000 + 0x8000 * i + 0x80 * j), 28, 1, .ro, 0⟩
def F.CAN.BUF_STATUS_SEQ (i : Nat) (j : Nat) : Field := ⟨(0x1110000 + 0x8000 * i + 0x80 * j), 16, 8, .ro, 0⟩
def F.CAN.BUF_STATUS_DLC (i : Nat) (j : Nat) : Field := ⟨(0x1110000 + 0x8000 * i + 0x80 * j), 8, 4, .ro, 0⟩
def F.CAN.BUF_STATUS_ESI (i : Nat) (j : Nat) : Field := ⟨(0x1110000 + 0x8000 * i + 0x80 * j), 4, 1, .ro, 0⟩
def F.CAN.BUF_STATUS_AGED (i : Nat) (j : Nat) : Field := ⟨(0x1110000 + 0x8000 * i + 0x80 * j), 3, 1, .ro, 0⟩
def F.CAN.BUF_STATUS_PENDING (i : Nat) (j : Nat) : Field := ⟨(0x1110000 + 0x8000 * i + 0x80 * j), 2, 1, .ro, 0⟩
def F.CAN.BUF_STATUS_UPDATING (i : Nat) (j : Nat) : Field := ⟨(0x1110000 + 0x8000 * i + 0x80 * j), 1, 1, .ro, 0⟩
def F.CAN.BUF_STATUS_NEW_DATA (i : Nat) (j : Nat) : Field := ⟨(0x1110000 + 0x8000 * i + 0x80 * j), 0, 1, .w1c, 0⟩
def F.CAN.BUF_ID (i : Nat) (j : Nat) : Field := ⟨(0x1110004 + 0x8000 * i + 0x80 * j), 0, 32, .ro, 0⟩
def F.CAN.BUF_STAMP_LO (i : Nat) (j : Nat) : Field := ⟨(0x1110008 + 0x8000 * i + 0x80 * j), 0, 32, .ro, 0⟩
def F.CAN.BUF_STAMP_HI (i : Nat) (j : Nat) : Field := ⟨(0x111000C + 0x8000 * i + 0x80 * j), 0, 32, .ro, 0⟩
def F.CAN.BUF_DATA (i : Nat) (j : Nat) (k : Nat) : Field := ⟨(0x1110040 + 0x8000 * i + 0x80 * j + 4 * k), 0, 32, .ro, 0⟩
def rowsCAN0 : List RegRow := [
  ⟨0x1100000, [], [F.CAN.UNIT_ID_IDENT, F.CAN.UNIT_ID_UNIT, F.CAN.UNIT_ID_REVISION]⟩,
  ⟨0x1100004, [], [F.CAN.STATUS_MEMORY_ERROR, F.CAN.STATUS_BUS_OFF_ANY, F.CAN.STATUS_PASSIVE_ANY, F.CAN.STATUS_RUNNING]⟩,
  ⟨0x1100040, [], [F.CAN.CMD]⟩,
  ⟨0x1100044, [], [F.CAN.CMD_ARG0]⟩,
  ⟨0x1100048, [], [F.CAN.CMD_ARG1]⟩,
  ⟨0x110004C, [], [F.CAN.CMD_RESULT_OPCODE, F.CAN.CMD_RESULT_RESULT]⟩,
  ⟨0x1100100, [(0x100, 4)], [(F.CAN.PORT_STATE_USED 0), (F.CAN.PORT_STATE_TT 0), (F.CAN.PORT_STATE_AUTO_RECOVER 0), (F.CAN.PORT_STATE_MODE 0), (F.CAN.PORT_STATE_ERROR_STATE 0)]⟩,
  ⟨0x1100104, [(0x100, 4)], [(F.CAN.ERROR_COUNTERS_TEC 0), (F.CAN.ERROR_COUNTERS_REC 0)]⟩,
  ⟨0x1100108, [(0x100, 4)], [(F.CAN.CYCLE_WINDOW 0), (F.CAN.CYCLE_COUNT 0)]⟩,
  ⟨0x110010C, [(0x100, 4)], [(F.CAN.BUS_OFF_COUNT 0)]⟩,
  ⟨0x1100110, [(0x100, 4)], [(F.CAN.RX_FRAMES 0)]⟩,
  ⟨0x1100114, [(0x100, 4)], [(F.CAN.TX_FRAMES 0)]⟩,
  ⟨0x1100118, [(0x100, 4)], [(F.CAN.RX_UNMATCHED 0)]⟩,
  ⟨0x110011C, [(0x100, 4)], [(F.CAN.RX_ERRORS 0)]⟩,
  ⟨0x1100120, [(0x100, 4)], [(F.CAN.WINDOW_MISSED 0)]⟩,
  ⟨0x1100124, [(0x100, 4)], [(F.CAN.REF_MISSED 0)]⟩,
  ⟨0x1100128, [(0x100, 4)], [(F.CAN.SUPERSEDED 0)]⟩,
  ⟨0x1100140, [(0x100, 4)], [(F.CAN.HTX_ID 0)]⟩,
  ⟨0x1100144, [(0x100, 4)], [(F.CAN.HTX_CTRL 0)]⟩,
  ⟨0x1100180, [(0x100, 4), (4, 16)], [(F.CAN.HTX_DATA 0 0)]⟩,
  ⟨0x1100800, [(0x10, 16)], [(F.CAN.Q_FILL 0)]⟩,
  ⟨0x1100804, [(0x10, 16)], [(F.CAN.Q_SENT 0)]⟩,
  ⟨0x1100808, [(0x10, 16)], [(F.CAN.Q_REFUSED 0)]⟩,
  ⟨0x110080C, [(0x10, 16)], [(F.CAN.Q_LATE 0)]⟩]
def rowsCAN1 : List RegRow := [
  ⟨0x1110000, [(0x8000, 4), (0x80, 129)], [(F.CAN.BUF_STATUS_CONFIGURED 0 0), (F.CAN.BUF_STATUS_KIND 0 0), (F.CAN.BUF_STATUS_HALTED 0 0), (F.CAN.BUF_STATUS_SEQ 0 0), (F.CAN.BUF_STATUS_DLC 0 0), (F.CAN.BUF_STATUS_ESI 0 0), (F.CAN.BUF_STATUS_AGED 0 0), (F.CAN.BUF_STATUS_PENDING 0 0), (F.CAN.BUF_STATUS_UPDATING 0 0), (F.CAN.BUF_STATUS_NEW_DATA 0 0)]⟩,
  ⟨0x1110004, [(0x8000, 4), (0x80, 129)], [(F.CAN.BUF_ID 0 0)]⟩,
  ⟨0x1110008, [(0x8000, 4), (0x80, 129)], [(F.CAN.BUF_STAMP_LO 0 0)]⟩,
  ⟨0x111000C, [(0x8000, 4), (0x80, 129)], [(F.CAN.BUF_STAMP_HI 0 0)]⟩,
  ⟨0x1110040, [(0x8000, 4), (0x80, 129), (4, 16)], [(F.CAN.BUF_DATA 0 0 0)]⟩]
/-- The registers of the CAN window. -/
def rowsCAN : List RegRow := rowsCAN0 ++ rowsCAN1

/-! ### SPOT -/

def F.SPOT.UNIT_ID_IDENT : Field := ⟨0x1200000, 16, 16, .ro, 0x5350⟩
def F.SPOT.UNIT_ID_UNIT : Field := ⟨0x1200000, 8, 8, .ro, 0x12⟩
def F.SPOT.UNIT_ID_REVISION : Field := ⟨0x1200000, 0, 8, .ro, 1⟩
def F.SPOT.STATUS_GRANTED : Field := ⟨0x1200004, 16, 2, .ro, 0⟩
def F.SPOT.STATUS_PROGRAM_EXCHANGE : Field := ⟨0x1200004, 12, 1, .ro, 0⟩
def F.SPOT.STATUS_PEER_PRESENT : Field := ⟨0x1200004, 11, 1, .ro, 0⟩
def F.SPOT.STATUS_RM_LATCHED : Field := ⟨0x1200004, 10, 1, .ro, 0⟩
def F.SPOT.STATUS_SIDE : Field := ⟨0x1200004, 9, 1, .ro, 0⟩
def F.SPOT.STATUS_READY : Field := ⟨0x1200004, 8, 1, .ro, 0⟩
def F.SPOT.STATUS_STANDIN_STATE : Field := ⟨0x1200004, 4, 3, .ro, 0⟩
def F.SPOT.STATUS_ROLE : Field := ⟨0x1200004, 0, 3, .ro, 7⟩
def F.SPOT.INTERLOCK_READY_AB : Field := ⟨0x1200008, 24, 2, .ro, 0⟩
def F.SPOT.INTERLOCK_ALIVE_AB : Field := ⟨0x1200008, 20, 2, .ro, 0⟩
def F.SPOT.INTERLOCK_AIR_AB : Field := ⟨0x1200008, 16, 2, .ro, 0⟩
def F.SPOT.INTERLOCK_RM_OUT : Field := ⟨0x1200008, 8, 3, .ro, 0⟩
def F.SPOT.INTERLOCK_PEER_ON_AIR : Field := ⟨0x1200008, 6, 1, .ro, 0⟩
def F.SPOT.INTERLOCK_RM_ALIVE : Field := ⟨0x1200008, 5, 1, .ro, 0⟩
def F.SPOT.INTERLOCK_GRANT : Field := ⟨0x1200008, 4, 1, .ro, 0⟩
def F.SPOT.INTERLOCK_READY : Field := ⟨0x1200008, 2, 1, .ro, 0⟩
def F.SPOT.INTERLOCK_BEAT : Field := ⟨0x1200008, 1, 1, .ro, 0⟩
def F.SPOT.INTERLOCK_ON_AIR : Field := ⟨0x1200008, 0, 1, .ro, 0⟩
def F.SPOT.HEALTH_MODULE : Field := ⟨0x120000C, 30, 2, .ro, 0⟩
def F.SPOT.HEALTH_FAILED_UNITS : Field := ⟨0x120000C, 0, 24, .ro, 0⟩
def F.SPOT.PEER_HEALTH_MODULE : Field := ⟨0x1200010, 30, 2, .ro, 0⟩
def F.SPOT.PEER_HEALTH_FAILED_UNITS : Field := ⟨0x1200010, 0, 24, .ro, 0⟩
def F.SPOT.SYNC_ERROR : Field := ⟨0x1200014, 0, 32, .ro, 0⟩
def F.SPOT.MIRROR_DELAY : Field := ⟨0x1200018, 0, 32, .ro, 0⟩
def F.SPOT.LAST_TICK_LO : Field := ⟨0x120001C, 0, 32, .ro, 0⟩
def F.SPOT.LAST_TICK_HI : Field := ⟨0x1200020, 0, 32, .ro, 0⟩
def F.SPOT.DELTA_BYTES : Field := ⟨0x1200024, 0, 32, .rc, 0⟩
def F.SPOT.DELTA_BOUND : Field := ⟨0x1200028, 0, 32, .lk, 0⟩
def F.SPOT.SWITCH_COUNT : Field := ⟨0x120002C, 0, 32, .rc, 0⟩
def F.SPOT.MISMATCH_COUNT : Field := ⟨0x1200030, 0, 32, .ro, 0⟩
def F.SPOT.MIRROR_MISS_COUNT : Field := ⟨0x1200034, 0, 32, .rc, 0⟩
def F.SPOT.JOIN_COUNT : Field := ⟨0x1200038, 0, 32, .rc, 0⟩
def F.SPOT.LIO_DIVERGE_COUNT : Field := ⟨0x120003C, 0, 32, .rc, 0⟩
def F.SPOT.CMD : Field := ⟨0x1200040, 0, 8, .wo, 0⟩
def F.SPOT.CMD_ARG0 : Field := ⟨0x1200044, 0, 32, .rw, 0⟩
def F.SPOT.CMD_RESULT_OPCODE : Field := ⟨0x1200048, 8, 8, .ro, 0⟩
def F.SPOT.CMD_RESULT_RESULT : Field := ⟨0x1200048, 0, 8, .ro, 0⟩
def rowsSPOT0 : List RegRow := [
  ⟨0x1200000, [], [F.SPOT.UNIT_ID_IDENT, F.SPOT.UNIT_ID_UNIT, F.SPOT.UNIT_ID_REVISION]⟩,
  ⟨0x1200004, [], [F.SPOT.STATUS_GRANTED, F.SPOT.STATUS_PROGRAM_EXCHANGE, F.SPOT.STATUS_PEER_PRESENT, F.SPOT.STATUS_RM_LATCHED, F.SPOT.STATUS_SIDE, F.SPOT.STATUS_READY, F.SPOT.STATUS_STANDIN_STATE, F.SPOT.STATUS_ROLE]⟩,
  ⟨0x1200008, [], [F.SPOT.INTERLOCK_READY_AB, F.SPOT.INTERLOCK_ALIVE_AB, F.SPOT.INTERLOCK_AIR_AB, F.SPOT.INTERLOCK_RM_OUT, F.SPOT.INTERLOCK_PEER_ON_AIR, F.SPOT.INTERLOCK_RM_ALIVE, F.SPOT.INTERLOCK_GRANT, F.SPOT.INTERLOCK_READY, F.SPOT.INTERLOCK_BEAT, F.SPOT.INTERLOCK_ON_AIR]⟩,
  ⟨0x120000C, [], [F.SPOT.HEALTH_MODULE, F.SPOT.HEALTH_FAILED_UNITS]⟩,
  ⟨0x1200010, [], [F.SPOT.PEER_HEALTH_MODULE, F.SPOT.PEER_HEALTH_FAILED_UNITS]⟩,
  ⟨0x1200014, [], [F.SPOT.SYNC_ERROR]⟩,
  ⟨0x1200018, [], [F.SPOT.MIRROR_DELAY]⟩,
  ⟨0x120001C, [], [F.SPOT.LAST_TICK_LO]⟩,
  ⟨0x1200020, [], [F.SPOT.LAST_TICK_HI]⟩,
  ⟨0x1200024, [], [F.SPOT.DELTA_BYTES]⟩,
  ⟨0x1200028, [], [F.SPOT.DELTA_BOUND]⟩,
  ⟨0x120002C, [], [F.SPOT.SWITCH_COUNT]⟩,
  ⟨0x1200030, [], [F.SPOT.MISMATCH_COUNT]⟩,
  ⟨0x1200034, [], [F.SPOT.MIRROR_MISS_COUNT]⟩,
  ⟨0x1200038, [], [F.SPOT.JOIN_COUNT]⟩,
  ⟨0x120003C, [], [F.SPOT.LIO_DIVERGE_COUNT]⟩,
  ⟨0x1200040, [], [F.SPOT.CMD]⟩,
  ⟨0x1200044, [], [F.SPOT.CMD_ARG0]⟩,
  ⟨0x1200048, [], [F.SPOT.CMD_RESULT_OPCODE, F.SPOT.CMD_RESULT_RESULT]⟩]
/-- The registers of the SPOT window. -/
def rowsSPOT : List RegRow := rowsSPOT0

/-! ### MEM -/

def F.MEM.UNIT_ID_IDENT : Field := ⟨0x1300000, 16, 16, .ro, 0x4d45⟩
def F.MEM.UNIT_ID_UNIT : Field := ⟨0x1300000, 8, 8, .ro, 0x13⟩
def F.MEM.UNIT_ID_REVISION : Field := ⟨0x1300000, 0, 8, .ro, 1⟩
def F.MEM.STATUS_STALL_ANY : Field := ⟨0x1300004, 3, 1, .ro, 0⟩
def F.MEM.STATUS_UE_ANY : Field := ⟨0x1300004, 2, 1, .w1c, 0⟩
def F.MEM.STATUS_CE_ANY : Field := ⟨0x1300004, 1, 1, .w1c, 0⟩
def F.MEM.STATUS_SCRUBBING : Field := ⟨0x1300004, 0, 1, .ro, 0⟩
def F.MEM.CROSS_TIMEOUT : Field := ⟨0x1300008, 0, 14, .lk, 0xfa⟩
def F.MEM.CROSS_STALL : Field := ⟨0x130000C, 0, 12, .ro, 0⟩
def F.MEM.CROSS_STALL_COUNT : Field := ⟨0x1300010, 0, 32, .rc, 0⟩
def F.MEM.CMD : Field := ⟨0x1300040, 0, 8, .wo, 0⟩
def F.MEM.CMD_ARG0 : Field := ⟨0x1300044, 0, 32, .rw, 0⟩
def F.MEM.CMD_ARG1 : Field := ⟨0x1300048, 0, 32, .rw, 0⟩
def F.MEM.CMD_RESULT_OPCODE : Field := ⟨0x130004C, 8, 8, .ro, 0⟩
def F.MEM.CMD_RESULT_RESULT : Field := ⟨0x130004C, 0, 8, .ro, 0⟩
def F.MEM.MEM_INFO_PRESENT (i : Nat) : Field := ⟨(0x1300100 + 0x20 * i), 31, 1, .ro, 0⟩
def F.MEM.MEM_INFO_PRIVILEGED (i : Nat) : Field := ⟨(0x1300100 + 0x20 * i), 30, 1, .ro, if i = 6 || i = 7 then 1 else 0⟩
def F.MEM.MEM_INFO_CODE (i : Nat) : Field := ⟨(0x1300100 + 0x20 * i), 28, 2, .ro, if i = 7 then 1 else if i = 8 then 2 else 0⟩
def F.MEM.MEM_INFO_SIZE_KIB (i : Nat) : Field := ⟨(0x1300100 + 0x20 * i), 0, 24, .ro, [14680064, 16384, 16384, 16384, 16384, 32768, 8192, 256, 2097152].getD i 0⟩
def F.MEM.CE_COUNT (i : Nat) : Field := ⟨(0x1300104 + 0x20 * i), 0, 32, .rc, 0⟩
def F.MEM.UE_COUNT (i : Nat) : Field := ⟨(0x1300108 + 0x20 * i), 0, 32, .ro, 0⟩
def F.MEM.SCRUB_PERIOD (i : Nat) : Field := ⟨(0x130010C + 0x20 * i), 0, 32, .ro, if i = 0 then 86400 else if i = 8 then 604800 else 600⟩
def F.MEM.SCRUB_PROGRESS (i : Nat) : Field := ⟨(0x1300110 + 0x20 * i), 0, 16, .ro, 0⟩
def F.MEM.SCRUB_PASSES (i : Nat) : Field := ⟨(0x1300114 + 0x20 * i), 0, 32, .rc, 0⟩
def F.MEM.TABLE_FILL (i : Nat) : Field := ⟨(0x1300118 + 0x20 * i), 0, 32, .ro, 0⟩
def F.MEM.TABLE_OVERFLOW (i : Nat) : Field := ⟨(0x130011C + 0x20 * i), 0, 32, .rc, 0⟩
def F.MEM.ENT_ADDR_LO (i : Nat) (j : Nat) : Field := ⟨(0x1301000 + 0x200 * i + 0x10 * j), 0, 32, .ro, 0⟩
def F.MEM.ENT_ADDR_HI (i : Nat) (j : Nat) : Field := ⟨(0x1301004 + 0x200 * i + 0x10 * j), 0, 32, .ro, 0⟩
def F.MEM.ENT_INFO_VALID (i : Nat) (j : Nat) : Field := ⟨(0x1301008 + 0x200 * i + 0x10 * j), 31, 1, .ro, 0⟩
def F.MEM.ENT_INFO_KIND (i : Nat) (j : Nat) : Field := ⟨(0x1301008 + 0x200 * i + 0x10 * j), 30, 1, .ro, 0⟩
def F.MEM.ENT_INFO_STICKY (i : Nat) (j : Nat) : Field := ⟨(0x1301008 + 0x200 * i + 0x10 * j), 29, 1, .ro, 0⟩
def F.MEM.ENT_INFO_COUNT (i : Nat) (j : Nat) : Field := ⟨(0x1301008 + 0x200 * i + 0x10 * j), 0, 16, .ro, 0⟩
def F.MEM.ENT_TICK (i : Nat) (j : Nat) : Field := ⟨(0x130100C + 0x200 * i + 0x10 * j), 0, 32, .ro, 0⟩
def rowsMEM0 : List RegRow := [
  ⟨0x1300000, [], [F.MEM.UNIT_ID_IDENT, F.MEM.UNIT_ID_UNIT, F.MEM.UNIT_ID_REVISION]⟩,
  ⟨0x1300004, [], [F.MEM.STATUS_STALL_ANY, F.MEM.STATUS_UE_ANY, F.MEM.STATUS_CE_ANY, F.MEM.STATUS_SCRUBBING]⟩,
  ⟨0x1300008, [], [F.MEM.CROSS_TIMEOUT]⟩,
  ⟨0x130000C, [], [F.MEM.CROSS_STALL]⟩,
  ⟨0x1300010, [], [F.MEM.CROSS_STALL_COUNT]⟩,
  ⟨0x1300040, [], [F.MEM.CMD]⟩,
  ⟨0x1300044, [], [F.MEM.CMD_ARG0]⟩,
  ⟨0x1300048, [], [F.MEM.CMD_ARG1]⟩,
  ⟨0x130004C, [], [F.MEM.CMD_RESULT_OPCODE, F.MEM.CMD_RESULT_RESULT]⟩,
  ⟨0x1300100, [(0x20, 9)], [(F.MEM.MEM_INFO_PRESENT 0), (F.MEM.MEM_INFO_PRIVILEGED 0), (F.MEM.MEM_INFO_CODE 0), (F.MEM.MEM_INFO_SIZE_KIB 0)]⟩,
  ⟨0x1300104, [(0x20, 9)], [(F.MEM.CE_COUNT 0)]⟩,
  ⟨0x1300108, [(0x20, 9)], [(F.MEM.UE_COUNT 0)]⟩,
  ⟨0x130010C, [(0x20, 9)], [(F.MEM.SCRUB_PERIOD 0)]⟩,
  ⟨0x1300110, [(0x20, 9)], [(F.MEM.SCRUB_PROGRESS 0)]⟩,
  ⟨0x1300114, [(0x20, 9)], [(F.MEM.SCRUB_PASSES 0)]⟩,
  ⟨0x1300118, [(0x20, 9)], [(F.MEM.TABLE_FILL 0)]⟩,
  ⟨0x130011C, [(0x20, 9)], [(F.MEM.TABLE_OVERFLOW 0)]⟩,
  ⟨0x1301000, [(0x200, 9), (0x10, 32)], [(F.MEM.ENT_ADDR_LO 0 0)]⟩,
  ⟨0x1301004, [(0x200, 9), (0x10, 32)], [(F.MEM.ENT_ADDR_HI 0 0)]⟩,
  ⟨0x1301008, [(0x200, 9), (0x10, 32)], [(F.MEM.ENT_INFO_VALID 0 0), (F.MEM.ENT_INFO_KIND 0 0), (F.MEM.ENT_INFO_STICKY 0 0), (F.MEM.ENT_INFO_COUNT 0 0)]⟩,
  ⟨0x130100C, [(0x200, 9), (0x10, 32)], [(F.MEM.ENT_TICK 0 0)]⟩]
/-- The registers of the MEM window. -/
def rowsMEM : List RegRow := rowsMEM0

/-! ### CONT -/

def F.CONT.UNIT_ID_IDENT : Field := ⟨0x1400000, 16, 16, .ro, 0x434f⟩
def F.CONT.UNIT_ID_UNIT : Field := ⟨0x1400000, 8, 8, .ro, 0x14⟩
def F.CONT.UNIT_ID_REVISION : Field := ⟨0x1400000, 0, 8, .ro, 1⟩
def F.CONT.STATUS_EXHAUSTED : Field := ⟨0x1400004, 3, 1, .ro, 0⟩
def F.CONT.STATUS_DROPPED : Field := ⟨0x1400004, 2, 1, .w1c, 0⟩
def F.CONT.STATUS_FLUSHING : Field := ⟨0x1400004, 1, 1, .ro, 0⟩
def F.CONT.STATUS_RUNNING : Field := ⟨0x1400004, 0, 1, .ro, 0⟩
def F.CONT.NEXT_SEQUENCE : Field := ⟨0x1400008, 0, 32, .ro, 0⟩
def F.CONT.VOL_UNPERSISTED : Field := ⟨0x140000C, 0, 32, .ro, 0⟩
def F.CONT.PERSIST_HEAD : Field := ⟨0x1400010, 0, 32, .ro, 0⟩
def F.CONT.FLUSH_S : Field := ⟨0x1400014, 0, 32, .lk, 0⟩
def F.CONT.SUPPRESSED_COUNT : Field := ⟨0x1400018, 0, 32, .rc, 0⟩
def F.CONT.DROPPED_COUNT : Field := ⟨0x140001C, 0, 32, .rc, 0⟩
def F.CONT.VOL_LOST_COUNT : Field := ⟨0x1400020, 0, 32, .rc, 0⟩
def F.CONT.FLUSH_COUNT : Field := ⟨0x1400024, 0, 32, .rc, 0⟩
def F.CONT.FLUSH_FAIL_COUNT : Field := ⟨0x1400028, 0, 32, .rc, 0⟩
def F.CONT.PERSIST_UE_COUNT : Field := ⟨0x140002C, 0, 32, .rc, 0⟩
def F.CONT.CMD : Field := ⟨0x1400040, 0, 8, .wo, 0⟩
def F.CONT.CMD_ARG0 : Field := ⟨0x1400044, 0, 32, .rw, 0⟩
def F.CONT.CMD_ARG1 : Field := ⟨0x1400048, 0, 32, .rw, 0⟩
def F.CONT.CMD_ARG2 : Field := ⟨0x140004C, 0, 32, .rw, 0⟩
def F.CONT.CMD_RESULT_OPCODE : Field := ⟨0x1400050, 8, 8, .ro, 0⟩
def F.CONT.CMD_RESULT_RESULT : Field := ⟨0x1400050, 0, 8, .ro, 0⟩
def F.CONT.CODE_STATE_RATE (i : Nat) : Field := ⟨(0x1410000 + 4 * i), 16, 16, .lk, 0x64⟩
def F.CONT.CODE_STATE_PENDING (i : Nat) : Field := ⟨(0x1410000 + 4 * i), 0, 16, .ro, 0⟩
def rowsCONT0 : List RegRow := [
  ⟨0x1400000, [], [F.CONT.UNIT_ID_IDENT, F.CONT.UNIT_ID_UNIT, F.CONT.UNIT_ID_REVISION]⟩,
  ⟨0x1400004, [], [F.CONT.STATUS_EXHAUSTED, F.CONT.STATUS_DROPPED, F.CONT.STATUS_FLUSHING, F.CONT.STATUS_RUNNING]⟩,
  ⟨0x1400008, [], [F.CONT.NEXT_SEQUENCE]⟩,
  ⟨0x140000C, [], [F.CONT.VOL_UNPERSISTED]⟩,
  ⟨0x1400010, [], [F.CONT.PERSIST_HEAD]⟩,
  ⟨0x1400014, [], [F.CONT.FLUSH_S]⟩,
  ⟨0x1400018, [], [F.CONT.SUPPRESSED_COUNT]⟩,
  ⟨0x140001C, [], [F.CONT.DROPPED_COUNT]⟩,
  ⟨0x1400020, [], [F.CONT.VOL_LOST_COUNT]⟩,
  ⟨0x1400024, [], [F.CONT.FLUSH_COUNT]⟩,
  ⟨0x1400028, [], [F.CONT.FLUSH_FAIL_COUNT]⟩,
  ⟨0x140002C, [], [F.CONT.PERSIST_UE_COUNT]⟩,
  ⟨0x1400040, [], [F.CONT.CMD]⟩,
  ⟨0x1400044, [], [F.CONT.CMD_ARG0]⟩,
  ⟨0x1400048, [], [F.CONT.CMD_ARG1]⟩,
  ⟨0x140004C, [], [F.CONT.CMD_ARG2]⟩,
  ⟨0x1400050, [], [F.CONT.CMD_RESULT_OPCODE, F.CONT.CMD_RESULT_RESULT]⟩,
  ⟨0x1410000, [(4, 6144)], [(F.CONT.CODE_STATE_RATE 0), (F.CONT.CODE_STATE_PENDING 0)]⟩]
/-- The registers of the CONT window. -/
def rowsCONT : List RegRow := rowsCONT0

/-! ### SEC -/

def F.SEC.UNIT_ID_IDENT : Field := ⟨0x1500000, 16, 16, .ro, 0x5345⟩
def F.SEC.UNIT_ID_UNIT : Field := ⟨0x1500000, 8, 8, .ro, 0x15⟩
def F.SEC.UNIT_ID_REVISION : Field := ⟨0x1500000, 0, 8, .ro, 1⟩
def F.SEC.STATUS_ZEROISE_PENDING : Field := ⟨0x1500004, 6, 1, .ro, 0⟩
def F.SEC.STATUS_DRBG_FAILED : Field := ⟨0x1500004, 5, 1, .ro, 0⟩
def F.SEC.STATUS_CLAIMABLE : Field := ⟨0x1500004, 4, 1, .ro, 0⟩
def F.SEC.STATUS_DEBUG_OPENED : Field := ⟨0x1500004, 3, 1, .ro, 0⟩
def F.SEC.STATUS_VALIDATED_IMAGE : Field := ⟨0x1500004, 2, 1, .ro, 0⟩
def F.SEC.STATUS_CERTIFIED : Field := ⟨0x1500004, 1, 1, .ro, 0⟩
def F.SEC.STATUS_RUNNING : Field := ⟨0x1500004, 0, 1, .ro, 0⟩
def F.SEC.CONFIG_IDLE_S : Field := ⟨0x1500008, 16, 16, .lk, 0⟩
def F.SEC.CONFIG_MGMT_ROLES : Field := ⟨0x1500008, 8, 5, .lk, 0⟩
def F.SEC.CONFIG_TAMPER_ACTION : Field := ⟨0x1500008, 1, 1, .lk, 0⟩
def F.SEC.CONFIG_CERTIFIED_MODE : Field := ⟨0x1500008, 0, 1, .lk, 0⟩
def F.SEC.KEY_COUNT_PUBLIC : Field := ⟨0x150000C, 16, 8, .ro, 0⟩
def F.SEC.KEY_COUNT_SECRET : Field := ⟨0x150000C, 0, 13, .ro, 0⟩
def F.SEC.MIN_VERSION_WRITES_LEFT : Field := ⟨0x1500010, 16, 8, .ro, 64⟩
def F.SEC.MIN_VERSION_VERSION : Field := ⟨0x1500010, 0, 16, .ro, 0⟩
def F.SEC.AUTH_FAIL_COUNT : Field := ⟨0x1500014, 0, 32, .rc, 0⟩
def F.SEC.ZEROISE_COUNT : Field := ⟨0x1500018, 0, 32, .ro, 0⟩
def F.SEC.CMD : Field := ⟨0x1500040, 0, 8, .wo, 0⟩
def F.SEC.CMD_ARG0 : Field := ⟨0x1500044, 0, 32, .rw, 0⟩
def F.SEC.CMD_ARG1 : Field := ⟨0x1500048, 0, 32, .rw, 0⟩
def F.SEC.CMD_ARG2 : Field := ⟨0x150004C, 0, 32, .rw, 0⟩
def F.SEC.CMD_RESULT_OPCODE : Field := ⟨0x1500050, 8, 8, .ro, 0⟩
def F.SEC.CMD_RESULT_RESULT : Field := ⟨0x1500050, 0, 8, .ro, 0⟩
def F.SEC.CMD_RETURN : Field := ⟨0x1500054, 0, 32, .ro, 0⟩
def F.SEC.SES_STATE_SESSION_ID (i : Nat) : Field := ⟨(0x1500100 + 0x10 * i), 16, 16, .ro, 0⟩
def F.SEC.SES_STATE_ROLE (i : Nat) : Field := ⟨(0x1500100 + 0x10 * i), 8, 4, .ro, 0⟩
def F.SEC.SES_STATE_BAR (i : Nat) : Field := ⟨(0x1500100 + 0x10 * i), 4, 1, .ro, 0⟩
def F.SEC.SES_STATE_TRANSPORT (i : Nat) : Field := ⟨(0x1500100 + 0x10 * i), 2, 2, .ro, 0⟩
def F.SEC.SES_STATE_STATE (i : Nat) : Field := ⟨(0x1500100 + 0x10 * i), 0, 2, .ro, 0⟩
def F.SEC.SES_CRED_LO (i : Nat) : Field := ⟨(0x1500104 + 0x10 * i), 0, 32, .ro, 0⟩
def F.SEC.SES_CRED_HI (i : Nat) : Field := ⟨(0x1500108 + 0x10 * i), 0, 32, .ro, 0⟩
def F.SEC.SES_IDLE (i : Nat) : Field := ⟨(0x150010C + 0x10 * i), 0, 32, .ro, 0⟩
def F.SEC.MAILBOX (i : Nat) : Field := ⟨(0x1501000 + 4 * i), 0, 32, .rw, 0⟩
def rowsSEC0 : List RegRow := [
  ⟨0x1500000, [], [F.SEC.UNIT_ID_IDENT, F.SEC.UNIT_ID_UNIT, F.SEC.UNIT_ID_REVISION]⟩,
  ⟨0x1500004, [], [F.SEC.STATUS_ZEROISE_PENDING, F.SEC.STATUS_DRBG_FAILED, F.SEC.STATUS_CLAIMABLE, F.SEC.STATUS_DEBUG_OPENED, F.SEC.STATUS_VALIDATED_IMAGE, F.SEC.STATUS_CERTIFIED, F.SEC.STATUS_RUNNING]⟩,
  ⟨0x1500008, [], [F.SEC.CONFIG_IDLE_S, F.SEC.CONFIG_MGMT_ROLES, F.SEC.CONFIG_TAMPER_ACTION, F.SEC.CONFIG_CERTIFIED_MODE]⟩,
  ⟨0x150000C, [], [F.SEC.KEY_COUNT_PUBLIC, F.SEC.KEY_COUNT_SECRET]⟩,
  ⟨0x1500010, [], [F.SEC.MIN_VERSION_WRITES_LEFT, F.SEC.MIN_VERSION_VERSION]⟩,
  ⟨0x1500014, [], [F.SEC.AUTH_FAIL_COUNT]⟩,
  ⟨0x1500018, [], [F.SEC.ZEROISE_COUNT]⟩,
  ⟨0x1500040, [], [F.SEC.CMD]⟩,
  ⟨0x1500044, [], [F.SEC.CMD_ARG0]⟩,
  ⟨0x1500048, [], [F.SEC.CMD_ARG1]⟩,
  ⟨0x150004C, [], [F.SEC.CMD_ARG2]⟩,
  ⟨0x1500050, [], [F.SEC.CMD_RESULT_OPCODE, F.SEC.CMD_RESULT_RESULT]⟩,
  ⟨0x1500054, [], [F.SEC.CMD_RETURN]⟩,
  ⟨0x1500100, [(0x10, 8)], [(F.SEC.SES_STATE_SESSION_ID 0), (F.SEC.SES_STATE_ROLE 0), (F.SEC.SES_STATE_BAR 0), (F.SEC.SES_STATE_TRANSPORT 0), (F.SEC.SES_STATE_STATE 0)]⟩,
  ⟨0x1500104, [(0x10, 8)], [(F.SEC.SES_CRED_LO 0)]⟩,
  ⟨0x1500108, [(0x10, 8)], [(F.SEC.SES_CRED_HI 0)]⟩,
  ⟨0x150010C, [(0x10, 8)], [(F.SEC.SES_IDLE 0)]⟩,
  ⟨0x1501000, [(4, 1024)], [(F.SEC.MAILBOX 0)]⟩]
/-- The registers of the SEC window. -/
def rowsSEC : List RegRow := rowsSEC0

/-! ### HOST -/

def F.HOST.UNIT_ID_IDENT : Field := ⟨0x1600000, 16, 16, .ro, 0x484f⟩
def F.HOST.UNIT_ID_UNIT : Field := ⟨0x1600000, 8, 8, .ro, 0x16⟩
def F.HOST.UNIT_ID_REVISION : Field := ⟨0x1600000, 0, 8, .ro, 1⟩
def F.HOST.STATUS_WIDTH : Field := ⟨0x1600004, 12, 4, .ro, 0⟩
def F.HOST.STATUS_SPEED : Field := ⟨0x1600004, 8, 4, .ro, 0⟩
def F.HOST.STATUS_BAR_SESSION : Field := ⟨0x1600004, 4, 1, .ro, 0⟩
def F.HOST.STATUS_MGMT_LINK : Field := ⟨0x1600004, 3, 1, .ro, 0⟩
def F.HOST.STATUS_BUS_MASTER : Field := ⟨0x1600004, 2, 1, .ro, 0⟩
def F.HOST.STATUS_LINK_UP : Field := ⟨0x1600004, 1, 1, .ro, 0⟩
def F.HOST.STATUS_RUNNING : Field := ⟨0x1600004, 0, 1, .ro, 0⟩
def F.HOST.CONFIG_MGMT_PORT : Field := ⟨0x1600008, 16, 16, .lk, 0⟩
def F.HOST.CONFIG_IPV6 : Field := ⟨0x1600008, 1, 1, .lk, 0⟩
def F.HOST.CONFIG_MGMT_ENABLE : Field := ⟨0x1600008, 0, 1, .lk, 0⟩
def F.HOST.INT_CAUSE_HIGH : Field := ⟨0x160000C, 20, 6, .w1c, 0⟩
def F.HOST.INT_CAUSE_CAN_HP : Field := ⟨0x160000C, 16, 4, .ro, 0⟩
def F.HOST.INT_CAUSE_RINGS : Field := ⟨0x160000C, 0, 16, .w1c, 0⟩
def F.HOST.INT_ENABLE : Field := ⟨0x1600010, 0, 26, .rw, 0⟩
def F.HOST.TICK_DIVIDER : Field := ⟨0x1600014, 0, 13, .rw, 0⟩
def F.HOST.BAD_ACCESS_COUNT : Field := ⟨0x1600018, 0, 32, .rc, 0⟩
def F.HOST.MGMT_DROPPED : Field := ⟨0x160001C, 0, 32, .rc, 0⟩
def F.HOST.TX_DROPPED : Field := ⟨0x1600020, 0, 32, .rc, 0⟩
def F.HOST.SUBSCRIBED : Field := ⟨0x1600024, 0, 32, .ro, 0⟩
def F.HOST.CMD : Field := ⟨0x1600040, 0, 8, .wo, 0⟩
def F.HOST.CMD_ARG0 : Field := ⟨0x1600044, 0, 32, .rw, 0⟩
def F.HOST.CMD_ARG1 : Field := ⟨0x1600048, 0, 32, .rw, 0⟩
def F.HOST.CMD_ARG2 : Field := ⟨0x160004C, 0, 32, .rw, 0⟩
def F.HOST.CMD_RESULT_OPCODE : Field := ⟨0x1600050, 8, 8, .ro, 0⟩
def F.HOST.CMD_RESULT_RESULT : Field := ⟨0x1600050, 0, 8, .ro, 0⟩
def F.HOST.SQ_BASE_LO : Field := ⟨0x1600080, 0, 32, .rw, 0⟩
def F.HOST.SQ_BASE_HI : Field := ⟨0x1600084, 0, 32, .rw, 0⟩
def F.HOST.SQ_SIZE : Field := ⟨0x1600088, 0, 32, .rw, 0⟩
def F.HOST.SQ_TAIL : Field := ⟨0x160008C, 0, 32, .rw, 0⟩
def F.HOST.SQ_HEAD : Field := ⟨0x1600090, 0, 32, .ro, 0⟩
def F.HOST.BASE_LO (i : Nat) : Field := ⟨(0x1600100 + 0x20 * i), 0, 32, .rw, 0⟩
def F.HOST.BASE_HI (i : Nat) : Field := ⟨(0x1600104 + 0x20 * i), 0, 32, .rw, 0⟩
def F.HOST.SIZE (i : Nat) : Field := ⟨(0x1600108 + 0x20 * i), 0, 32, .rw, 0⟩
def F.HOST.RING_CONFIG_ENABLE (i : Nat) : Field := ⟨(0x160010C + 0x20 * i), 31, 1, .rw, 0⟩
def F.HOST.RING_CONFIG_DIRECTION (i : Nat) : Field := ⟨(0x160010C + 0x20 * i), 30, 1, .ro, 0⟩
def F.HOST.RING_CONFIG_FUNCTION (i : Nat) : Field := ⟨(0x160010C + 0x20 * i), 28, 2, .ro, 0⟩
def F.HOST.RING_CONFIG_MOD_US (i : Nat) : Field := ⟨(0x160010C + 0x20 * i), 16, 10, .rw, 0⟩
def F.HOST.RING_CONFIG_MOD_ENTRIES (i : Nat) : Field := ⟨(0x160010C + 0x20 * i), 8, 8, .rw, 0⟩
def F.HOST.RING_CONFIG_QUEUE (i : Nat) : Field := ⟨(0x160010C + 0x20 * i), 0, 8, .ro, 0⟩
def F.HOST.PROD (i : Nat) : Field := ⟨(0x1600110 + 0x20 * i), 0, 32, .ro, 0⟩
def F.HOST.CONS (i : Nat) : Field := ⟨(0x1600114 + 0x20 * i), 0, 32, .rw, 0⟩
def F.HOST.NEXT_INDEX (i : Nat) : Field := ⟨(0x1600118 + 0x20 * i), 0, 32, .ro, 0⟩
def F.HOST.LOST_COUNT (i : Nat) : Field := ⟨(0x160011C + 0x20 * i), 0, 32, .rc, 0⟩
def rowsHOST0 : List RegRow := [
  ⟨0x1600000, [], [F.HOST.UNIT_ID_IDENT, F.HOST.UNIT_ID_UNIT, F.HOST.UNIT_ID_REVISION]⟩,
  ⟨0x1600004, [], [F.HOST.STATUS_WIDTH, F.HOST.STATUS_SPEED, F.HOST.STATUS_BAR_SESSION, F.HOST.STATUS_MGMT_LINK, F.HOST.STATUS_BUS_MASTER, F.HOST.STATUS_LINK_UP, F.HOST.STATUS_RUNNING]⟩,
  ⟨0x1600008, [], [F.HOST.CONFIG_MGMT_PORT, F.HOST.CONFIG_IPV6, F.HOST.CONFIG_MGMT_ENABLE]⟩,
  ⟨0x160000C, [], [F.HOST.INT_CAUSE_HIGH, F.HOST.INT_CAUSE_CAN_HP, F.HOST.INT_CAUSE_RINGS]⟩,
  ⟨0x1600010, [], [F.HOST.INT_ENABLE]⟩,
  ⟨0x1600014, [], [F.HOST.TICK_DIVIDER]⟩,
  ⟨0x1600018, [], [F.HOST.BAD_ACCESS_COUNT]⟩,
  ⟨0x160001C, [], [F.HOST.MGMT_DROPPED]⟩,
  ⟨0x1600020, [], [F.HOST.TX_DROPPED]⟩,
  ⟨0x1600024, [], [F.HOST.SUBSCRIBED]⟩,
  ⟨0x1600040, [], [F.HOST.CMD]⟩,
  ⟨0x1600044, [], [F.HOST.CMD_ARG0]⟩,
  ⟨0x1600048, [], [F.HOST.CMD_ARG1]⟩,
  ⟨0x160004C, [], [F.HOST.CMD_ARG2]⟩,
  ⟨0x1600050, [], [F.HOST.CMD_RESULT_OPCODE, F.HOST.CMD_RESULT_RESULT]⟩,
  ⟨0x1600080, [], [F.HOST.SQ_BASE_LO]⟩,
  ⟨0x1600084, [], [F.HOST.SQ_BASE_HI]⟩,
  ⟨0x1600088, [], [F.HOST.SQ_SIZE]⟩,
  ⟨0x160008C, [], [F.HOST.SQ_TAIL]⟩,
  ⟨0x1600090, [], [F.HOST.SQ_HEAD]⟩,
  ⟨0x1600100, [(0x20, 16)], [(F.HOST.BASE_LO 0)]⟩,
  ⟨0x1600104, [(0x20, 16)], [(F.HOST.BASE_HI 0)]⟩,
  ⟨0x1600108, [(0x20, 16)], [(F.HOST.SIZE 0)]⟩,
  ⟨0x160010C, [(0x20, 16)], [(F.HOST.RING_CONFIG_ENABLE 0), (F.HOST.RING_CONFIG_DIRECTION 0), (F.HOST.RING_CONFIG_FUNCTION 0), (F.HOST.RING_CONFIG_MOD_US 0), (F.HOST.RING_CONFIG_MOD_ENTRIES 0), (F.HOST.RING_CONFIG_QUEUE 0)]⟩]
def rowsHOST1 : List RegRow := [
  ⟨0x1600110, [(0x20, 16)], [(F.HOST.PROD 0)]⟩,
  ⟨0x1600114, [(0x20, 16)], [(F.HOST.CONS 0)]⟩,
  ⟨0x1600118, [(0x20, 16)], [(F.HOST.NEXT_INDEX 0)]⟩,
  ⟨0x160011C, [(0x20, 16)], [(F.HOST.LOST_COUNT 0)]⟩]
/-- The registers of the HOST window. -/
def rowsHOST : List RegRow := rowsHOST0 ++ rowsHOST1

/-! ### PWR -/

def F.PWR.UNIT_ID_IDENT : Field := ⟨0x1700000, 16, 16, .ro, 0x5057⟩
def F.PWR.UNIT_ID_UNIT : Field := ⟨0x1700000, 8, 8, .ro, 0x17⟩
def F.PWR.UNIT_ID_REVISION : Field := ⟨0x1700000, 0, 8, .ro, 1⟩
def F.PWR.STATUS_TEMP_FAILED : Field := ⟨0x1700004, 5, 1, .ro, 0⟩
def F.PWR.STATUS_TEMP_HIGH : Field := ⟨0x1700004, 4, 1, .ro, 0⟩
def F.PWR.STATUS_POWER_FAIL : Field := ⟨0x1700004, 3, 1, .ro, 0⟩
def F.PWR.STATUS_INPUT_B_GOOD : Field := ⟨0x1700004, 2, 1, .ro, 0⟩
def F.PWR.STATUS_INPUT_A_GOOD : Field := ⟨0x1700004, 1, 1, .ro, 0⟩
def F.PWR.STATUS_RUNNING : Field := ⟨0x1700004, 0, 1, .ro, 0⟩
def F.PWR.CONFIG_SUPPLY_MODE : Field := ⟨0x1700008, 18, 1, .lk, 0⟩
def F.PWR.CONFIG_IDLE_GATING : Field := ⟨0x1700008, 17, 1, .lk, 0⟩
def F.PWR.CONFIG_DOMAIN_ENABLE : Field := ⟨0x1700008, 0, 16, .lk, 0x800f⟩
def F.PWR.CROSS_COMPAT : Field := ⟨0x170000C, 0, 1, .lk, 0⟩
def F.PWR.DOMAIN_STATE : Field := ⟨0x1700010, 0, 16, .ro, 0x800f⟩
def F.PWR.SUPPLY_B_MV : Field := ⟨0x1700014, 16, 16, .ro, 0⟩
def F.PWR.SUPPLY_A_MV : Field := ⟨0x1700014, 0, 16, .ro, 0⟩
def F.PWR.INPUT_POWER : Field := ⟨0x1700018, 0, 32, .ro, 0⟩
def F.PWR.TEMPERATURE_PEAK : Field := ⟨0x170001C, 16, 16, .rc, 0⟩
def F.PWR.TEMPERATURE_BASE : Field := ⟨0x170001C, 0, 16, .ro, 0⟩
def F.PWR.PLL_LOCK : Field := ⟨0x1700020, 0, 11, .ro, 0⟩
def F.PWR.POWER_FAIL_COUNT : Field := ⟨0x1700024, 0, 32, .ro, 0⟩
def F.PWR.INPUT_LOST_COUNT : Field := ⟨0x1700028, 0, 32, .rc, 0⟩
def rowsPWR0 : List RegRow := [
  ⟨0x1700000, [], [F.PWR.UNIT_ID_IDENT, F.PWR.UNIT_ID_UNIT, F.PWR.UNIT_ID_REVISION]⟩,
  ⟨0x1700004, [], [F.PWR.STATUS_TEMP_FAILED, F.PWR.STATUS_TEMP_HIGH, F.PWR.STATUS_POWER_FAIL, F.PWR.STATUS_INPUT_B_GOOD, F.PWR.STATUS_INPUT_A_GOOD, F.PWR.STATUS_RUNNING]⟩,
  ⟨0x1700008, [], [F.PWR.CONFIG_SUPPLY_MODE, F.PWR.CONFIG_IDLE_GATING, F.PWR.CONFIG_DOMAIN_ENABLE]⟩,
  ⟨0x170000C, [], [F.PWR.CROSS_COMPAT]⟩,
  ⟨0x1700010, [], [F.PWR.DOMAIN_STATE]⟩,
  ⟨0x1700014, [], [F.PWR.SUPPLY_B_MV, F.PWR.SUPPLY_A_MV]⟩,
  ⟨0x1700018, [], [F.PWR.INPUT_POWER]⟩,
  ⟨0x170001C, [], [F.PWR.TEMPERATURE_PEAK, F.PWR.TEMPERATURE_BASE]⟩,
  ⟨0x1700020, [], [F.PWR.PLL_LOCK]⟩,
  ⟨0x1700024, [], [F.PWR.POWER_FAIL_COUNT]⟩,
  ⟨0x1700028, [], [F.PWR.INPUT_LOST_COUNT]⟩]
/-- The registers of the PWR window. -/
def rowsPWR : List RegRow := rowsPWR0

/-- Does an offset decompose into indices of the given strides and counts? -/
def dimsMatch : List (Nat × Nat) → Nat → Bool
  | [], r => r == 0
  | (st, n) :: ds, r => decide (r / st < n) && dimsMatch ds (r % st)

/-- Does a row hold the register at an address? -/
def rowHolds (r : RegRow) (a : Nat) : Bool := decide (r.base ≤ a) && dimsMatch r.dims (a - r.base)

/-- A field moved to the register at an address. -/
def fieldAt (f : Field) (a : Nat) : Field := { f with addr := a }

/-- The rows of a unit's window. -/
def unitRows : Nat → List RegRow
  | 0 => rowsDEV
  | 1 => rowsTICK
  | 2 => rowsTXN
  | 3 => rowsCLAP
  | 4 => rowsPIMG
  | 5 => rowsLIO
  | 6 => rowsASM
  | 7 => rowsSTB
  | 8 => rowsJUG
  | 9 => rowsTRP
  | 10 => rowsCAR
  | 11 => rowsBOE
  | 12 => rowsBOT
  | 13 => rowsBAT
  | 14 => rowsNET
  | 15 => rowsLRP
  | 16 => rowsSTN
  | 17 => rowsCAN
  | 18 => rowsSPOT
  | 19 => rowsMEM
  | 20 => rowsCONT
  | 21 => rowsSEC
  | 22 => rowsHOST
  | 23 => rowsPWR
  | _ => []

/-- The unit whose window holds an address (R10). -/
def unitOfAddr (a : Nat) : Nat := a / 0x100000

/-- The fields of the register at an address; none where the window lists no register. -/
def fieldsAt (a : Nat) : List Field :=
  match (unitRows (unitOfAddr a)).find? (fun r => rowHolds r a) with
  | some r => r.fields.map (fun f => fieldAt f a)
  | none => []

end Sys2Proof.Machine
end

