-- ==== Sys2Proof/Machine/Parts/Base.lean ====
section
/-! DEFINITION. State of the units DEV, TICK, CLAP, PIMG, LIO and TXN beyond their registers. -/

namespace Sys2Proof.Machine

/-- The device state of R49. OFF has no DEV.STATE code. -/
inductive DevState where
  | off | boot | load | armed | live | faultSafe | maintenance
deriving DecidableEq, Repr

/-- What the start-up sequence remembers beyond DEV's registers (R51, R54, R71, R75, R78, R80). -/
structure DevPart where
  state : DevState := .off
  /-- An entry to MAINTENANCE is pending (R80). -/
  maintenanceRequested : Bool := false
  /-- HEALTH set to FAILED by R19, one bit per unit, until the next BOOT. -/
  failedSticky : Nat := 0
  /-- A card is in slot X21. -/
  cardPresent : Bool := false
  /-- The card's bus mode (R57): 2 SDR50, 1 High Speed, 0 before it is chosen. -/
  cardMode : Nat := 0
  /-- A GO has been accepted since entry to ARMED (R78). -/
  goAccepted : Bool := false
  /-- LOCK_WAIT_S has passed since entry to ARMED, and the Local count at that entry (R75). -/
  lockWaited : Bool := false
  armedAt : Nat := 0
  /-- The start condition is met and tick 0 is scheduled at this Local count (R76). -/
  tickZeroAt : Option Nat := none
  /-- G, the Local count at which the start condition was met. -/
  startMetAt : Nat := 0
  /-- METRO_HASH kept in PD0 (R71). -/
  metroHash : List Nat := []
  /-- The power epoch kept in PD0, and its flash copy (R53). -/
  epochPd0 : Nat := 0
  epochFlash : Nat := 0
  /-- The 50 MHz reference has stopped (R19). -/
  referenceLost : Bool := false
  /-- A restart that waits for the reference (R19): into MAINTENANCE or not. -/
  restartWaits : Option Bool := none
  /-- A restart that flushes: it waits for BOE's partial windows (R79, R285). No command finds the module in a device state
  meanwhile. -/
  flushing : Option Bool := none
  /-- REEL_HASH of the Reel in force, as twelve words. -/
  reelHash : List Nat := []
deriving DecidableEq, Repr

/-- The count of one time base: whole nanoseconds, and 2⁻³² ns (R326). -/
structure BaseCount where
  ns : Nat := 0
  frac : Nat := 0
deriving DecidableEq, Repr

/-- The data of the last Announce seen on one port of a pair (R333): rank, identity words, and base 0's count. -/
structure AnnounceData where
  rank : Nat
  gmLo : Nat
  gmHi : Nat
  atNs : Nat
deriving DecidableEq, Repr

/-- The servo of one PTP domain (R332) and what the Clapper watches on its ports. -/
structure Domain where
  f : F64 := 0
  oPred : Option Int := none
  nLock : Nat := 0
  nRej : Nat := 0
  /-- Identity of the present grandmaster, bytes 0 to 3 and 4 to 7; `none` before the first Announce. -/
  gm : Option (Nat × Nat) := none
  /-- The Announce data of the lower and the upper port of the pair. -/
  announceLo : Option AnnounceData := none
  announceHi : Option AnnounceData := none
  /-- Base 0 counts: when the domain last became LOCKED, entered HOLDOVER, and took a measurement or command. -/
  lockedSince : Nat := 0
  holdoverSince : Nat := 0
  lastAccept : Nat := 0
deriving DecidableEq, Repr

/-- The Clapper (R326 to R337) beyond its registers. -/
structure ClapPart where
  bases : List BaseCount := [{}, {}, {}, {}, {}, {}]
  /-- CLK_CORE cycles since power-on, halves of a CLK_TS cycle. -/
  cycles : Nat := 0
  domains : List Domain := [{}, {}, {}, {}]
  kOff : Int := 0
  /-- The count at which Local started (R74). -/
  localStart : Nat := 0
  /-- inc_sel as last used, in 2⁻³² ns (R336). -/
  incSel : Nat := 0x400000000
  /-- Ticks since the last change of selection, for LOCAL_ALIGNED. -/
  ticksSinceSwitch : Nat := 0
deriving DecidableEq, Repr

/-- A value published for a point by its source unit. `conds` is the mask of R110 conditions it carries. -/
structure PubPoint where
  index : Nat
  value : Word
  stamp : Nat
  conds : Nat := 0
deriving DecidableEq, Repr

/-- A setpoint of a plan (R209): kind, target, value. -/
structure Setpoint where
  kind : Nat
  target : Nat
  value : Word
deriving DecidableEq, Repr

/-- One staging entry (R37): the unit, the tick at whose Curtain it is due, its arrival cycle and tick, the
points and registers it publishes, and whether it completes the unit's result. `tag` tells the unit's results
apart (a Carousel task, an interval record). -/
structure StagedEntry where
  unit : Nat
  due : Nat
  arrival : Nat := 0
  arrivalTick : Nat := 0
  tag : Nat := 0
  final : Bool := true
  points : List PubPoint := []
  fields : List (Field × Nat) := []
  setpoints : List Setpoint := []
deriving DecidableEq, Repr

/-- The sequencer and the collector of TICK. -/
structure TickPart where
  /-- TICK.NUMBER, 64 bits (R27). -/
  number : Nat := 0
  /-- CLK_CORE cycles since the present T. -/
  cycle : Nat := 0
  /-- The Curtain of the present tick has fallen. -/
  curtainDone : Bool := true
  /-- At least one Curtain has fallen since go-live. -/
  anyCurtain : Bool := false
  /-- Results formed and not yet posted, in the order of their forming. -/
  outbox : List StagedEntry := []
  /-- The staging queues of all units, in arrival order (R37). -/
  staging : List StagedEntry := []
  /-- Units whose post was refused, with the tick of the Curtain that withholds their entries (R39). -/
  withheld : List (Nat × Nat) := []
  /-- Results that a Curtain is to find complete: unit, tick and tag (R41). -/
  expected : List (Nat × Nat × Nat) := []
  /-- Units that become FAULTED at the next Curtain whatever their results (R262). -/
  forceFault : List Nat := []
  /-- Output moves begun at the last Curtain: group 0 LIO, 1 STN, 2 CAN, whether the move still waits at its crossing, and
  the CLK_CORE count at that Curtain (R30). -/
  moves : List (Nat × Bool × Nat) := []
  /-- Local count at the present T. -/
  startNs : Nat := 0
deriving DecidableEq, Repr

/-- Conditioning state of one point (R115 to R123). `conds` holds one bit per R110 condition present, by its code. -/
structure PointCond where
  conds : Nat := 0
  /-- The latest sample was rejected (R116). -/
  rejected : Bool := false
  hasRate : Bool := false
  rateValue : Word := 0
  rateStamp : Nat := 0
  /-- LOW_PASS and CONFIRM: the last y alone; AVERAGE: the last accepted samples, newest first; empty at a restart. -/
  filt : List Word := []
  /-- CONFIRM: the state that is being counted, and its consecutive samples. -/
  confirmState : Word := 0
  confirmRun : Nat := 0
  /-- The tick of the last source write; 0 when none (R119). -/
  lastWrite : Nat := 0
  /-- The POINTS entry cannot be read (R123). -/
  cfgFailed : Bool := false
deriving DecidableEq, Repr

/-- A source write that waits for the end of a publication (R113): unit, point, value, stamp and, for a front-end fault,
its condition. -/
structure HeldSample where
  unit : Nat
  point : Nat
  value : Word
  stamp : Nat
  cond : Option Nat := none
deriving DecidableEq, Repr

/-- PIMG: the live image, the frozen snapshot and the point window (R113, R114). -/
structure PimgPart where
  live : Table PointVal := []
  snap : Table PointVal := []
  window : Table PointVal := []
  cond : Table PointCond := []
  /-- Source writes that reached PIMG in the Curtain's cycle and land after the publication (R113). -/
  afterCurtain : List HeldSample := []
deriving DecidableEq, Repr

/-- LIO: what the front ends hold (R128 to R133). -/
structure LioPart where
  /-- Tick at which an analog input's shunt opened, by channel. -/
  shuntOpen : Table (Option Nat) := []
  /-- Value driven on each analog output, in mA or V (binary64), and its converter code (R130). -/
  aoOut : Table F64 := []
  aoCode : Table Nat := []
  /-- Level driven on each digital output. -/
  doOn : Table Bool := []
  /-- Tick of the switch-off of a faulted digital output, and its retries. -/
  doFaultAt : Table Nat := []
  doRetries : Table Nat := []
  /-- Launch registers: the value moved for each output channel (R30). -/
  launch : Table (Option Word) := []
  /-- Qualifying instant of each digital input's state less DEBOUNCE_US, on Local; none where it qualified before Local
  started. -/
  diSince : Table (Option Nat) := []
  /-- The reason code of each channel's fault (R137). -/
  reason : Table Nat := []
  /-- Pulse transfers: last captured count, and Local count and tick of the last completed transfer. -/
  pulseLast : Table Nat := []
  pulseNs : Table Nat := []
  pulseTick : Table Nat := []
  /-- The latest RTD conversion of each input, as delivered to BOT: value and stamp; none after a front-end fault. -/
  rtd : Table (Option (Word × Nat × Nat)) := []
  rtdFault : Table Bool := []
deriving DecidableEq, Repr

/-- One Take slot, beyond its SLOT registers (R84). -/
structure TakeSlot where
  gen : Nat := 0
  /-- Session slot of the owner; none once that session has ended. -/
  owner : Option Nat := none
  writes : List TakeWrite := []
  expiry : Nat := 0
  /-- The Take of the present handle expired (R88). -/
  expired : Bool := false
  role : Nat := 0
  principal : Nat := 0
  /-- Stamp of the COMMIT's acceptance. -/
  stamp : Nat := 0
  /-- CLK_CORE count at which the Take became COMMITTED (R92). -/
  committedAt : Nat := 0
deriving DecidableEq, Repr

/-- The write-ahead in progress (R90): its slot, its step, and the stamping base's count when the step began.
Step 4 stands for a mark write that failed on a Lead whose Stand-in holds the entry (R91).
DEDUCED, log entry 53; DESIGN CHOICE, log entry 57. -/
structure WriteAhead where
  slot : Nat
  stage : Nat
  startedNs : Nat
  /-- FLAGS.MIRRORED of the entry (R97). DESIGN CHOICE: the unit was LEAD with a Stand-in when the body write started
  (log entry 57). -/
  mirrored : Bool := false
  /-- The Stand-in has reported the entry durable. -/
  durable : Bool := false
deriving DecidableEq, Repr

/-- A copy of the Splice log's header (R97), its hashes as twelve words each, little-endian. -/
structure LogHeader where
  magic : Nat := 0xFFFFFFFF
  format : Nat := 0xFFFF
  generation : Nat := 0xFFFFFFFFFFFFFFFF
  reelHash : List Nat := List.replicate 12 0xFFFFFFFF
  nextTakeId : Nat := 0xFFFFFFFF
  headerHash : List Nat := List.replicate 12 0xFFFFFFFF
deriving DecidableEq, Repr

/-- TXN: the slots, the write-ahead and the Splice log with its header copies (R97). -/
structure TxnPart where
  slots : List TakeSlot := [{}, {}, {}, {}]
  ahead : Option WriteAhead := none
  /-- The two header copies. DESIGN CHOICE: both are erased flash when the module leaves manufacture (log entry 56). -/
  headers : List LogHeader := [{}, {}]
  log : List LogEntry := []
  /-- The next Take ID, retained and never set back (R100). -/
  nextId : Nat := 1
  /-- Take ID of a void entry whose span is being programmed to 0x00 (R91). -/
  spanId : Option Nat := none
  /-- That programming failed: no COMMIT until the log is emptied (R91). -/
  logBroken : Bool := false
  /-- Values that Takes put in force for targets of KIND 1 to 5, by kind × 2²⁴ + target. -/
  values : Table (Option Word) := []
  /-- On a Stand-in: entries received and not yet durable, and durable entries not yet applied, each with the CLK_CORE
  count at which it became durable (R92, R95, R425). -/
  arriving : List LogEntry := []
  held : List (LogEntry × Nat) := []
deriving DecidableEq, Repr

end Sys2Proof.Machine
end

