-- ==== Sys2Proof/Machine/Parts/Can.lean ====
section
/-! DEFINITION. State of CAN beyond its registers. -/

namespace Sys2Proof.Machine

/-- What a port sends: the reference message, a SCHEDULED or PERIODIC buffer, a host frame. -/
inductive CanSource where
  | reference | scheduled (b : Nat) | periodic (b : Nat) | host
deriving DecidableEq, Repr

/-- A buffer waiting in its queue (R393). -/
structure CanWait where
  buffer : Nat
  launch : Nat
deriving DecidableEq, Repr

/-- A host frame (R407): HTX_ID, HTX_CTRL, the data with byte 0 least significant. -/
structure HostMessage where
  id : Nat
  ctrl : Nat
  data : Nat
  launch : Nat
deriving DecidableEq, Repr

/-- A frame on the wire: what it is, the data it started with, its launch time, its start on Local and its stamp. -/
structure CanTx where
  source : CanSource
  data : Nat
  launch : Nat
  startNs : Nat
  stamp : Nat
deriving DecidableEq, Repr

/-- The age of an RX buffer (R390): the tick it runs from, and the tick at which it aged. -/
structure CanAge where
  since : Nat := 0
  agedAt : Nat := 0
deriving DecidableEq, Repr

/-- One port. -/
structure CanPort where
  scheduled : List CanWait := []
  periodic : List CanWait := []
  host : List HostMessage := []
  /-- The pending reference message: its data and launch time (R399). -/
  reference : Option (Nat × Nat) := none
  onWire : Option CanTx := none
  /-- The open window, what has been tried in it and whether its frame has been sent whole (R398). -/
  window : Option Nat := none
  attempted : Bool := false
  complete : Bool := false
  /-- The frame that must be the first after recovery (R401). -/
  mustFirst : Option CanSource := none
  /-- Local count at which recovery began. -/
  recoverFrom : Nat := 0
  ages : Table CanAge := []
  /-- A new Lead's first Curtain has not fallen yet (R402). -/
  awaitCurtain : Bool := false
  /-- Recovery has ended and no frame has been sent since: the first one is recorded (R401). -/
  recovered : Bool := false
  /-- The port's timing or matrix configuration has failed (R403). -/
  halted : Bool := false
deriving DecidableEq, Repr

/-- CAN (R384 to R407) beyond its registers. -/
structure CanPart where
  ports : List CanPort := [{}, {}, {}, {}]
deriving DecidableEq, Repr

end Sys2Proof.Machine
end

