-- ==== Sys2Proof/Machine/Parts/Field.lean ====
section
/-! DEFINITION. State of NET, LRP and STN beyond their registers. -/

namespace Sys2Proof.Machine

/-- What carries a datagram (R350, R351): MAC and IP addresses, the UDP port and checksum, DSCP and TTL or hop limit. -/
structure TxHeader where
  srcMac : Nat
  dstMac : Nat
  v6 : Bool
  src : Nat
  dst : Nat
  udpPort : Nat
  dscp : Nat
  ttl : Nat
  checksum : Nat
deriving DecidableEq, Repr

/-- A station OUTPUT frame (R364, R367): SEQUENCE's bits 63:40 are `epoch`, its bits 39:0 `count`; the sealed payload. -/
structure OutputFrame where
  header : TxHeader
  payload : List Nat
  station : Nat
  cls : Nat
  session : Bool
  sender : Nat
  epoch : Nat
  count : Nat
  exchange : Nat
  snapshotStamp : Nat
  holdMs : Nat
  entries : List SlotEntry
deriving DecidableEq, Repr

/-- What a frame that the module sends carries. A Pdelay answer (R333) is a response or its follow-up. -/
inductive TxBody where
  | output (f : OutputFrame)
  | pdelay (followUp : Bool) (source sequence receivedNs : Nat)
  | supervision
  | host (bytes : List Nat)
deriving DecidableEq, Repr

/-- A frame in a queue (R358, R359): its bits on the wire, its launch time on a launch-time queue, its PRP sequence
number where it carries a trailer (R352). -/
structure TxFrame where
  body : TxBody
  bits : Nat
  launch : Option Nat := none
  trailer : Option Nat := none
deriving DecidableEq, Repr

/-- A frame that a port has started, with its stamp (R338). -/
structure SentFrame where
  port : Nat
  queue : Nat
  frame : TxFrame
  stamp : Nat
deriving DecidableEq, Repr

/-- An entry of a pair's duplicate table (R352). -/
structure PrpEntry where
  pair : Nat
  source : Nat
  sequence : Nat
  atNs : Nat
  twice : Bool := false
deriving DecidableEq, Repr

/-- An entry of a pair's node table (R352). -/
structure PrpNode where
  pair : Nat
  node : Nat
  atNs : Nat
deriving DecidableEq, Repr

/-- NET (R349 to R360) beyond its registers. Queues 0 to 47 of R358 are here, ports 0 to 3 and 8 + l. DESIGN CHOICE, log entry 181. -/
structure NetPart where
  queues : Table (List TxFrame) := []
  /-- Local count at which each port is free again. -/
  busyUntil : Table Nat := []
  /-- Frames started, oldest first. -/
  sent : List SentFrame := []
  /-- Next trailer sequence number of each pair. -/
  trailerSeq : List Nat := [0, 0]
  entries : List PrpEntry := []
  nodes : List PrpNode := []
  /-- Base 0 count of each pair's last supervision frames. -/
  lastLife : List Nat := [0, 0]
  /-- Frames dropped under R351 since go-live, by backbone port (R376). -/
  drops : List Nat := [0, 0, 0, 0]
deriving DecidableEq, Repr

/-- LRP (R354 to R357) beyond its registers: the stamping base's count at which each port's next detection is due. -/
structure LrpPart where
  detectAt : List (Option Nat) := [none, none, none, none, none, none, none, none]
deriving DecidableEq, Repr

/-- A station's context (R361 to R374). -/
structure StationState where
  /-- 0 WAITING, 1 ACTIVE, 2 ABSENT, 3 HALTED. -/
  state : Nat := 0
  cause : Nat := 0
  misses : Nat := 0
  /-- An INPUT frame of the fastest input class has been applied since that class's last exchange tick. -/
  heard : Bool := false
  /-- H, and the SEQUENCEs seen at H − k for k below 64, one bit each (R365). -/
  high : Nat := 0
  seen : Nat := 0
  /-- Next exchange number, the latest consumed, and how many have been consumed, up to 64. -/
  nextExchange : Nat := 0
  latest : Nat := 0
  consumed : Nat := 0
  /-- Frames built since go-live (R363). -/
  built : Nat := 0
  /-- Exchange numbers whose frame a port has sent, newest first; each frame is counted once. -/
  sentNumbers : List Nat := []
deriving DecidableEq, Repr

/-- STN beyond its registers. -/
structure StnPart where
  stations : Table StationState := []
  /-- INPUT frames applied and dropped in the present tick (R365). -/
  applied : Nat := 0
  overflow : Nat := 0
deriving DecidableEq, Repr

end Sys2Proof.Machine
end

