-- ==== Sys2Proof/Machine/Parts/Mem.lean ====
section
/-! DEFINITION. State of MEM beyond its registers (R434 to R455). -/

namespace Sys2Proof.Machine

/-- MEM: the scrubber's next address in each memory, with the errors of its pass; errors in privileged memories that
their owners act on at the next Curtain; the CLK_CORE count at which each stalled crossing stopped; and bit g for each
crossing group g that has left its reset (R451). -/
structure MemPart where
  position : List Nat := [0, 0, 0, 0, 0, 0, 0, 0, 0]
  passCe : List Nat := [0, 0, 0, 0, 0, 0, 0, 0, 0]
  passUe : List Nat := [0, 0, 0, 0, 0, 0, 0, 0, 0]
  atCurtain : List (MemOwner × Nat) := []
  stallSince : Table Nat := []
  released : Nat := 0
deriving DecidableEq, Repr

end Sys2Proof.Machine
end

