-- ==== Sys2Proof/Machine/Parts/Meter.lean ====
section
/-! DEFINITION. State of BOE, BOT and BAT beyond their registers. -/

namespace Sys2Proof.Machine

/-- One billing register in the always-on SRAM (R279, R304): its count and its residue. -/
structure Accum where
  count : Nat := 0
  residue : F64 := 0
deriving DecidableEq, Repr

/-- The results of one channel's window (R276, R281). -/
structure ChannelResult where
  rms : F64 := 0
  fund : F64 := 0
  thd : F64 := 0
  p : F64 := 0
  q : F64 := 0
  sApp : F64 := 0
  pf : F64 := 0
  pFund : F64 := 0
  peak : Nat := 0
  full : Bool := false
  below : Bool := false
  mags : List F64 := []
  phases : List F64 := []
deriving DecidableEq, Repr

/-- The results of one window, from its close to its publication (R274, R275). -/
structure WindowResult where
  set : Nat
  stamp : Nat := 0
  samples : Nat := 0
  freq : F64 := 0
  reference : Option Nat := none
  freqRange : Bool := false
  analysis : Bool := true
  analysisAddr : Nat := 0
  volts : List ChannelResult := []
  currents : List (Nat × ChannelResult) := []
deriving DecidableEq, Repr

/-- A voltage set's sequence of windows (R274): the length of the one in progress, the reference for it, whether a
previous one exists, the CLK_CORE count at its opening; `running` until it is to close for good; an uncorrectable error that
the scrubber has found in its analysis memory. -/
structure VoltageSet where
  active : Bool := false
  running : Bool := false
  length : Nat := 0
  reference : Option Nat := none
  openedAt : Nat := 0
  badAnalysis : Option Nat := none
deriving DecidableEq, Repr

/-- What an interval has opened with, and its flags so far (R283, R313). -/
structure Interval where
  startStamp : Nat := 0
  /-- The count of Local at the opening boundary. -/
  startNs : Nat := 0
  counts : List Nat := []
  errorS : Nat := 0
  flags : Nat := 0
  seq : Nat := 0
deriving DecidableEq, Repr

/-- A calibration run (R291): meter, windows wanted; `fromCycle` is the CLK_CORE count of the command's Curtain once
it has fallen; sums of V_RMS, I_RMS, P and Q by current channel. -/
structure Calibration where
  meter : Nat
  windows : Nat
  fromCycle : Option Nat := none
  done : Nat := 0
  sums : List (Nat × F64 × F64 × F64 × F64) := []
deriving DecidableEq, Repr

/-- BOE (R268 to R294) beyond its registers. -/
structure BoePart where
  sets : List VoltageSet := [{}, {}, {}, {}]
  /-- Windows closed and still in processing, and results that wait for the next tick's post. -/
  closed : List WindowResult := []
  ready : List WindowResult := []
  readyPoints : List PubPoint := []
  readyFields : List (Field × Nat) := []
  halted : List Nat := []
  intervals : Table Interval := []
  /-- Voltage channels below VLOSS, and sets out of the frequency range, as last recorded. -/
  lost : List Nat := []
  rangeSets : List Nat := []
  cal : Option Calibration := none
deriving DecidableEq, Repr

/-- One calculator's state (R298 to R302). -/
structure CalcState where
  prevCount : Option Word := none
  /-- The sign of the last tick with volume: true for reverse. -/
  lastSign : Option Bool := none
  lastTariff : Nat := 0
  errorTicks : Nat := 0
  tempRun : Nat := 0
  flowRun : Nat := 0
  missed : Nat := 0
  volume : F64 := 0
  energy : F64 := 0
deriving DecidableEq, Repr

/-- BOT (R295 to R313) beyond its registers. -/
structure BotPart where
  calcs : Table CalcState := []
  intervals : Table Interval := []
deriving DecidableEq, Repr

/-- An accumulator save (R306). -/
structure Save where
  seq : Nat := 0
  cause : Nat := 1
  stamp : Nat := 0
  epoch : Nat := 0
  image : Table Accum := []
  errorS : List Nat := []
  valid : Bool := true
deriving DecidableEq, Repr

/-- A current-without-voltage episode (R316): mAh drawn so far, and consecutive seconds below the threshold. -/
structure Episode where
  mah : F64 := 0
  below : Nat := 0
deriving DecidableEq, Repr

/-- An entry of the battery log (R316). -/
structure BatLog where
  elapsed : Nat
  kind : Nat
  channel : Nat
  value : Nat
deriving DecidableEq, Repr

/-- BAT and the always-on SRAM (R304 to R320) beyond BAT's registers. Accumulators are keyed by their place in the
save image (R306): image byte ÷ 16. -/
structure BatPart where
  accum : Table Accum := []
  /-- Registers whose two copies have failed (R305). -/
  badRegs : List Nat := []
  saves : Table (Option Save) := [(0, some { cause := 2 })]
  nextSeq : Nat := 1
  /-- The tick in which a PERIODIC save was last written. -/
  savedTick : Option Nat := none
  /-- The counts as they stood at the latest interval boundary, and its tick and stamp. -/
  boundary : Option (Nat × Nat × Table Accum × List Nat) := none
  measuring : Bool := false
  stopped : Bool := false
  /-- Copies in PD0 (R315): BAT_THRESHOLD; RATIO and I_N by current channel. -/
  threshold : F32 := 0
  ratios : Table (Option (F32 × F64)) := []
  episodes : Table (Option Episode) := []
  log : List BatLog := []
  /-- The epoch in which supply was lost. -/
  lostEpoch : Nat := 0
  /-- The first thermal record of each calculator carries ACCUM_GAP (R310). -/
  gapRecords : Bool := false
deriving DecidableEq, Repr

end Sys2Proof.Machine
end

