-- ==== Sys2Proof/Machine/Parts/Solve.lean ====
section
/-! DEFINITION. State of ASM, STB and JUG beyond their registers. -/

namespace Sys2Proof.Machine

/-- Which run of the round is in progress (R195). -/
inductive RunMode where
  | start | residualFirst | measure | factor | solve | residual | step
deriving DecidableEq, Repr

/-- A segment run (R170, R171): its operations that have ended, and the barriers' arrival counts. -/
structure SegRun where
  mode : RunMode
  done : List Nat := []
  barriers : Table Nat := []
deriving DecidableEq, Repr

/-- What a cluster's MEASURE operations have formed (R197, R198): norms of r_p, b, r_d, q, sum and count for μ. -/
structure MeasPart where
  rp : F64 := 0
  b : F64 := 0
  rd : F64 := 0
  q : F64 := 0
  sum : F64 := 0
  count : Nat := 0
deriving DecidableEq, Repr

/-- The values of the TK fields that a round started with (R212). -/
structure RoundCfg where
  maxIter : Nat := 1
  pivotTau : F32 := 0
  refineTol : F32 := 0
  feasGate : F32 := 0
  primalTol : F32 := 0
  dualTol : F32 := 0
  gapTol : F32 := 0
deriving DecidableEq, Repr

/-- A round (R187, R195) from its snapshot to its end. Vectors are indexed by pivot position (R161). -/
structure Round where
  number : Nat
  start : Nat
  cfg : RoundCfg := {}
  stamp : Nat := 0
  /-- Round snapshot: inputs after substitution, values in force, warm-start plan and where it comes from. -/
  inputs : List F64 := []
  values : Table (Option Word) := []
  warm : Table F64 := []
  warmRound : Nat := 0
  warmAdvance : Nat := 0
  /-- ASM's arrays: matrix slots, right-hand side, bounds, scratch; exponents and row scales (R146, R155). -/
  mat : Table F64 := []
  rhs0 : Table F64 := []
  lower : Table F64 := []
  upper : Table F64 := []
  scratch : Table F64 := []
  exps : Table Int := []
  scale : Table F32 := []
  /-- Tick at whose start the arrays are handed over (R157). -/
  handOver : Option Nat := none
  /-- Iterate (x, y), multipliers, step, right-hand side, residuals, σ. -/
  x : Table F64 := []
  zl : Table F64 := []
  zu : Table F64 := []
  dzl : Table F64 := []
  dzu : Table F64 := []
  delta : Table F64 := []
  rhs : Table F64 := []
  res : Table F64 := []
  rlin : Table F64 := []
  sigma : Table F64 := []
  /-- The shared vectors R and W (R168). -/
  r : Table F64 := []
  w : Table F64 := []
  /-- Panels in cluster SRAM, the factor store, D in the working areas, exchange buffers (R163, R167 to R169). -/
  panel : Table F32 := []
  store : Table F32 := []
  dwork : Table F32 := []
  exch : Table (List F32) := []
  alphaParts : Table (Option F64) := []
  measParts : Table MeasPart := []
  alphaMax : F64 := 0x7FF0000000000000
  alpha : F64 := 0
  thetaP : F64 := 0
  thetaD : F64 := 0
  mu : F64 := 0
  /-- θ_p, θ_d and μ of the last completed iterate, and that iterate (R195, R204). -/
  lastX : Table F64 := []
  lastThetaP : F64 := 0
  lastThetaD : F64 := 0
  lastMu : F64 := 0
  rho : F64 := 0
  refineStep : Nat := 0
  steps : Nat := 0
  perturbed : Nat := 0
  wrongSign : Nat := 0
  iterCycles : Nat := 0
  run : Option SegRun := none
  /-- CLK_SOLVE cycles of the runs that have ended since hand-over. -/
  runCycles : Nat := 0
  /-- Cause and status once the round has ended (R204). -/
  ended : Option (Nat × Nat) := none
  /-- CLK_CORE count at which it ended, and the segment that ran then: 4 for none (R179). -/
  endCycle : Nat := 0
  endSegment : Nat := 4
deriving DecidableEq, Repr

/-- ASM: the table of last good input values (R153, R154), and data whose error ends each later round (R158). -/
structure AsmPart where
  lastGood : Table (Option F64) := []
  /-- Consecutive rounds in which each input has been bad, counted past what INPUT_STATE.HELD can show. -/
  heldRounds : Table Nat := []
  badData : Option Nat := none
deriving DecidableEq, Repr

/-- JUG and STB: the round in progress, the solution window's front and back buffers (R206, R207). -/
structure JugPart where
  round : Option Round := none
  front : Option Plan := none
  back : Option Plan := none
  /-- The plan that a joining Stand-in has received: the front buffer takes it at its next Curtain (R208, R420). -/
  bulkPlan : Option Plan := none
  /-- Round M's plan, which a new Lead advances at its first Curtain (R211). -/
  switchFrom : Option Plan := none
  /-- A plan has been published since go-live. -/
  published : Bool := false
  /-- Clusters whose domain is to switch off at the next tick boundary (R180). -/
  gateOff : Bool := false
  /-- A switch-over's round is to be published at the next Curtain (R211). -/
  switchPending : Bool := false
  /-- Round that a new Lead without a round of its own publishes at the publication Curtain of the round in progress
  (R427). -/
  shiftNext : Option Nat := none
deriving DecidableEq, Repr

end Sys2Proof.Machine
end

