-- ==== Sys2Proof/Machine/Parts/Work.lean ====
section
/-! DEFINITION. State of TRP and CAR beyond their registers. -/

namespace Sys2Proof.Machine

/-- An injection on a loop (R234): profile, evaluations made, PRBS register, and whether it has begun. -/
structure Injection where
  profile : Nat
  made : Nat := 0
  reg : Nat := 0
  begun : Bool := false
deriving DecidableEq, Repr

/-- The signals of a loop that a capture can store (R235), by code 1 to 8, as last committed. -/
structure LoopSignals where
  sp : F32 := 0
  pv : F32 := 0
  e : F32 := 0
  acc : F32 := 0
  y : F32 := 0
  inj : F32 := 0
  comp : F32 := 0
  ff : F32 := 0
deriving DecidableEq, Repr

/-- The state of a loop (R221). -/
structure LoopState where
  e1 : F64 := 0
  e2 : F64 := 0
  e3 : F64 := 0
  u1 : F64 := 0
  u2 : F64 := 0
  u3 : F64 := 0
  yPrev : F32 := 0
  index : Nat := 0
  posPrev : Option F64 := none
  closing : Bool := false
  resume : Bool := true
  /-- Repetitive samples that are not 0 (R226). -/
  rep : List (Nat × F32) := []
  inj : Option Injection := none
  /-- STATE code of R225. -/
  code : Nat := 0
  inFallback : Bool := false
  fallbackRun : Nat := 0
  /-- OUT_MIN stood above OUT_MAX at the latest evaluation (R223). -/
  crossed : Bool := false
  /-- The loop is to end its injection at its first evaluation as Lead (R232). -/
  leadEnds : Bool := false
  signals : LoopSignals := {}
deriving DecidableEq, Repr

/-- A capture slot (R236) beyond its CAP registers. -/
structure Capture where
  /-- Samples held, oldest first, each of four signals. -/
  held : List (List F32) := []
  /-- Pre-trigger samples missing at the trigger. -/
  missing : Nat := 0
  /-- TRIG_POINT's value at the previous sample tick. -/
  prev : Option F32 := none
  /-- An injection has started on signal 0's loop since the slot was armed. -/
  started : Bool := false
deriving DecidableEq, Repr

/-- TRP (R214 to R239) beyond its registers. -/
structure TrpPart where
  loops : Table LoopState := []
  /-- Loop states of the present tick's evaluations, committed when their Curtain publishes TRP's result (R224). -/
  next : List (Nat × LoopState) := []
  /-- Commands accepted and not yet in effect: opcode and two arguments (R237). -/
  commands : List (Nat × Nat × Nat) := []
  /-- Loops whose data had an uncorrectable error, with the address, FAULTED at the next Curtain (R230). -/
  errors : List (Nat × Nat) := []
  faulted : List Nat := []
  captures : List Capture := [{}, {}, {}, {}]
deriving DecidableEq, Repr

/-- A Carousel timer (R253). -/
structure TimerState where
  elapsed : Nat := 0
  q : Bool := false
  running : Bool := false
  lastIn : Bool := false
deriving DecidableEq, Repr

/-- A Carousel counter (R254). -/
structure CounterState where
  cv : Int := 0
  q : Bool := false
  lastIn : Bool := false
deriving DecidableEq, Repr

/-- What the Carousel's tasks keep between scans (R243, R245), as last published. -/
structure CarItems where
  flags : Table Bool := []
  scratch : Table Word := []
  timers : Table TimerState := []
  counters : Table CounterState := []
  edges : Table Bool := []
deriving DecidableEq, Repr

/-- What a scan has written so far (R246). -/
structure CarWrites where
  flags : Table (Option Bool) := []
  scratch : Table (Option Word) := []
  timers : Table (Option TimerState) := []
  counters : Table (Option CounterState) := []
  edges : Table (Option Bool) := []
  points : Table (Option Word) := []
deriving DecidableEq, Repr

/-- A scan in progress (R240 to R246). -/
structure Scan where
  start : Nat
  addr : Nat
  ba : Bool := false
  wa : Word := 0
  /-- The branch stack, top first. -/
  stack : List Bool := []
  slots : Nat := 0
  /-- The tick whose window the scan has reached, and the slots of that window that are gone (R241). -/
  winTick : Nat := 0
  winSlots : Nat := 0
  ended : Bool := false
  /-- Stamp of tick S's snapshot. -/
  stamp : Nat := 0
  /-- The snapshot, the applied values and the published items as they stood at T(S). -/
  snap : Table PointVal := []
  values : Table (Option Word) := []
  items : CarItems := {}
  writes : CarWrites := {}
deriving DecidableEq, Repr

/-- CAR (R240 to R267) beyond its registers. -/
structure CarPart where
  items : CarItems := {}
  scans : Table (Option Scan) := []
  /-- Stamp of the snapshot that each task's latest scan reads (R246). -/
  stamps : Table Nat := []
  /-- Instances that a mirrored item has matched before a program exchange (R264): kind × 2²⁴ + index. -/
  matched : List Nat := []
deriving DecidableEq, Repr

end Sys2Proof.Machine
end

