-- ==== Sys2Proof/Machine/Parts/Spot.lean ====
section
/-! DEFINITION. State of SPOT beyond its registers (R410 to R433). -/

namespace Sys2Proof.Machine

/-- What the Lead's deltas last carried to a Stand-in (R425). -/
structure Mirrored where
  /-- A delta has been received since the join. -/
  known : Bool := false
  tick : Nat := 0
  publishedRound : Nat := 0
  roundNumber : Nat := 0
  nextSequence : Nat := 0
  nextTakeId : Nat := 1
  /-- The Lead's Local stamp quality, and the HANDOVER flag of its last CURTAIN record. -/
  quality : Nat := 2
  handover : Bool := false
  rings : Table Nat := []
  /-- t2 of the latest delta. -/
  t2 : Nat := 0
  /-- Points mirrored at a program exchange (R431), with the last value of each. -/
  points : Table PointVal := []
  /-- The plan of the round published last, as far as it is known here. -/
  plan : Option Plan := none
deriving DecidableEq, Repr

/-- What a join has still to send in BULK records (R420): names, so that each carries its value as of the Curtain at which
it is sent; the values of a plan are kept from the Curtain at which its header goes. -/
inductive BulkName where
  | loop (l : Nat)
  | samples (l first : Nat)
  | cars (first : Nat)
  | exchange (n : Nat)
  | ringIndex (r : Nat)
  | plan
  | planValues (first : Nat) (v : List F64)
  | takeEntry (id : Nat)
  | done
deriving DecidableEq, Repr

/-- SPOT beyond its registers. DESIGN CHOICE, log entry 181. -/
structure SpotPart where
  /-- Lead: the peer's READY in its last STATUS; its serial; a JOIN_REQUEST stands to be answered with BULK. -/
  peerReady : Bool := false
  peerSerial : Nat := 0
  peerEpoch : Nat := 0
  /-- The BULK of the join carries the latest plan (R431). -/
  bulkPlan : Bool := true
  bulkDue : Bool := false
  /-- BULK items still to be sent. -/
  bulkLeft : List BulkName := []
  /-- The joining Stand-in's last Take ID. -/
  bulkAfter : Nat := 0
  /-- Lead: a JOIN_REQUEST has come and the pair is not lost, so deltas are sent. -/
  sending : Bool := false
  /-- Lead: COUNT, TICK of its arrival and receipt count of the last RETURN frame accepted, and its t2's echo. -/
  returnCount : Nat := 0
  returnTick : Nat := 0
  t3 : Nat := 0
  t4 : Nat := 0
  /-- Lead: HANDOVER is accepted and takes place at the next Curtain. -/
  handover : Bool := false
  /-- The outputs of the last Curtain as Lead are still to be driven at the next T (R428). -/
  driveOnce : Bool := false
  /-- The last delta sent, and the last RETURN frame or JOIN_REQUEST sent. -/
  sentDelta : List MirrorFrame := []
  sentReturn : Option ReturnFrame := none
  sentJoin : Option JoinRequest := none
  /-- RETURN frames sent since BOOT (R422), and the launch stamp of the last. -/
  sentCount : Nat := 0
  sentNs : Nat := 0
  /-- The tick in which the last RETURN frame with a STATUS record has been sent. -/
  sentTick : Option Nat := none
  /-- Stand-in: a join is waiting for its first delta; e and d; misses in a row; ticks of the mismatches in the
  window, newest first; tasks that have started a scan since the join. -/
  joining : Bool := false
  misses : Nat := 0
  /-- The tick of the last miss. -/
  missedTick : Nat := 0
  mismatchTicks : List Nat := []
  scanned : List Nat := []
  bulkDone : Bool := false
  mirrored : Mirrored := {}
  /-- Take entries made durable and not yet reported in a TAKE_DURABLE record. -/
  durable : List Nat := []
  /-- Ringmaster: AIR of the granted side has been high; a NO_STANDBY has been recorded for the present failure; the
  side that a move goes to, and the Local count of the release. -/
  airSeen : Bool := false
  noStandby : Bool := false
  moving : Option (Nat × Nat) := none
  /-- Wired inputs sampled by a Lead since its last Curtain, for the delta (R423), and a Stand-in's own samples. -/
  lioMirror : List LioSample := []
  lioOwn : Table (Option (Nat × Word)) := []
  /-- What the latest Curtain published: loops evaluated, scans, the Take, whether a round, TRP commands. -/
  loopsNow : List Nat := []
  scansNow : List CarScan := []
  takeNow : Option Nat := none
  roundNow : Bool := false
  commandsNow : List (Nat × Nat × Nat) := []
  pointsNow : List Nat := []
  keyedNow : List CarItem := []
  /-- CAR's items and points as they stood before the latest Curtain (R263). -/
  itemsBefore : CarItems := {}
  pointsBefore : Table PointVal := []
deriving DecidableEq, Repr

end Sys2Proof.Machine
end

