-- ==== Sys2Proof/Machine/Parts/Sys.lean ====
section
/-! DEFINITION. State of the units CONT, HOST, SEC and PWR beyond their registers. -/

namespace Sys2Proof.Machine

/-- A record on its way to CONT (R446, R458): the stamp its source made, its code and payload. -/
structure Arrival where
  stamp : Nat
  code : Nat
  payload : List Nat
  replayed : Bool := false
  /-- The CLK_CORE cycle that it arrives in. -/
  cycle : Nat := 0
deriving DecidableEq, Repr

/-- An event record (R456). -/
structure Rec where
  stamp : Nat := 0
  seq : Nat := 0
  code : Nat := 0
  summary : Bool := false
  gap : Bool := false
  replayed : Bool := false
  persisted : Bool := false
  role : Nat := 7
  payload : List Nat := [0, 0, 0, 0]
deriving DecidableEq, Repr

/-- A token bucket (R461): tokens in 1/8,000 of a record, and the 125 µs interval they were last filled in. -/
structure Bucket where
  tokens : Nat
  at125 : Nat
deriving DecidableEq, Repr

/-- A run of suppressed records of one code (R462): first and last tick, last stamp. PENDING is in CODE_STATE. -/
structure Suppressed where
  firstTick : Nat := 0
  lastTick : Nat := 0
  lastStamp : Nat := 0
  /-- Time of the first suppression, in 125 µs intervals of the stamping time base. -/
  first125 : Nat := 0
deriving DecidableEq, Repr

/-- A read of persistent records onto a general ring (R471): the slot of the record that was newest when it was accepted, and
how many slots up to and with that one are still to be read; the records delivered and the slots skipped so far. -/
structure ContRead where
  ring : Nat
  last : Nat
  left : Nat
  delivered : Nat := 0
  skipped : Nat := 0
deriving DecidableEq, Repr

/-- A flush in progress (R465): the number of records it takes and its trigger. -/
structure Flush where
  upTo : Nat
  trigger : Nat
deriving DecidableEq, Repr

/-- A slot of the persistent ring (R464); a bad one lies in the flash sector at that address (R467). -/
inductive Slot where
  | erased | bad (sector : Nat) | held (r : Rec)
deriving DecidableEq, Repr

/-- CONT (R456 to R473) beyond its registers. -/
structure ContPart where
  /-- Records produced and not yet numbered, in arrival order. -/
  arrivals : List Arrival := []
  /-- The cycle of the latest Curtain, whose records keep the collector's order (R458). -/
  curtainAt : Option Nat := none
  buckets : Table (Option Bucket) := []
  /-- BURST of each code that the RECORDER section changes (R461, R470). -/
  burst : Table Nat := []
  suppressed : Table Suppressed := []
  /-- The present cap interval and the records admitted in it (R459). -/
  capInterval : Nat := 0
  capUsed : Nat := 0
  /-- A record has been dropped in it. -/
  capDropped : Bool := false
  /-- The volatile ring, oldest first; the unpersisted records are its newest VOL_UNPERSISTED ones (R463). -/
  volatileRing : List Rec := []
  /-- Unpersisted records overwritten: first lost number and how many (R466). -/
  lostRun : Option (Nat × Nat) := none
  /-- Volatile records that cannot be read back (R467): sequence number and address. -/
  unreadable : List (Nat × Nat) := []
  persistent : Table Slot := []
  /-- The persistent ring's head as PD0 retains it (R468). -/
  headPd0 : Nat := 0
  flush : Option Flush := none
  /-- Triggers that arrived during a flush (R465). -/
  queuedFlush : Option Nat := none
  /-- Stamping-time-base count at the end of the last flush, or at the entry to BOOT. -/
  lastFlushNs : Nat := 0
  /-- FLUSH_S has passed while nothing was unpersisted. -/
  timerDue : Bool := false
  reads : List ContRead := []
deriving DecidableEq, Repr

/-- One entry of a device-to-host ring (R501): header fields and body words. -/
structure RingEntry where
  index : Nat := 0
  typ : Nat := 0
  length : Nat := 0
  poisoned : Bool := false
  lostBefore : Bool := false
  phase : Nat := 0
  stamp : Nat := 0
  body : List Nat := []
deriving DecidableEq, Repr

/-- A point subscription of ring 3 (R503): the last entry produced for it. -/
structure Subscription where
  point : Nat
  last : Option PointVal := none
deriving DecidableEq, Repr

/-- A command that returned PENDING: where its second completion goes (R505), and its unit and opcode. -/
structure PendingCmd where
  unit : Nat
  opcode : Nat
  tag : Option Nat
  /-- The first argument, which tells several such commands apart. -/
  key : Nat
  /-- SESSION_ID and TAG of the management message that gave it, if one did (R509). -/
  mgmt : Option (Nat × Nat) := none
deriving DecidableEq, Repr

/-- An export that runs onto ring 2 or ring 6: the next row or sample it writes (R503, R236). -/
structure Export where
  kind : Nat
  headed : Bool := false
  next : Nat := 0
  total : Nat := 0
  round : Nat := 0
deriving DecidableEq, Repr

/-- A register write of the Curtain's cycle, which takes effect after the publication (R13). -/
structure HeldWrite where
  addr : Nat
  value : Nat
  slow : Bool := false
deriving DecidableEq, Repr

/-- HOST (R497 to R516) beyond its registers. DESIGN CHOICE, log entry 181. -/
structure HostPart where
  /-- Register writes of the Curtain's cycle (R13). -/
  afterCurtain : List HeldWrite := []
  /-- Staged entries of each ring, oldest first (R502). -/
  staging : Table (List RingEntry) := []
  /-- Entries written to the ring arrays in host memory, keyed ring × 65,536 + slot. -/
  written : Table (Option RingEntry) := []
  /-- An entry of the ring was dropped since the last one written, and the INDEX of the first dropped. -/
  lostFrom : Table (Option Nat) := []
  /-- Entries produced on a ring since its cause was last cleared, and the count at the first of them. -/
  modCount : Table Nat := []
  modFirstNs : Table (Option Nat) := []
  /-- MSI-X: the mask bits, the pending bits, and messages sent, newest last (R499). -/
  msixMask : List Bool := []
  msixPending : List Nat := []
  messages : List Nat := []
  subs : List Subscription := []
  /-- Submission entries written by the host and not yet fetched: UNIT, OPCODE, TAG, three arguments (R505). -/
  pendingCmds : List PendingCmd := []
  /-- The entries of the frame being gathered from each transmit ring (R506). -/
  txGather : Table (List TxEntry) := []
  /-- Highest SEQUENCE accepted and the window of 64 below it, per session slot (R509). -/
  mgmtHigh : Table Nat := []
  mgmtSeen : Table Nat := []
  /-- Device message counts per session slot, and the datagrams sent on X8, newest last, as their bytes. -/
  mgmtSent : Table Nat := []
  mgmtReplies : List (List Nat) := []
  /-- Mailbox data stored under MORE, per session slot (R509). -/
  mgmtData : Table (List Nat) := []
  /-- The message whose reply waits for a PENDING command of SEC: its kind, its session ID, its TAG. -/
  mgmtWaits : Option (Nat × Nat × Nat) := none
  /-- High words latched by a read of their low words, by address. -/
  latched : Table (Option Nat) := []
  /-- The word that the latest register read returned. -/
  readData : Nat := 0
  /-- The solution export of ring 2, and the captures that export on ring 6 (R503, R236). -/
  ring2 : Option Export := none
  ring6 : List Export := []
  /-- The HOST section kept in flash (R507): ADDRESS, PREFIX_LEN, GATEWAY. -/
  address : Nat := 0
  prefixLen : Nat := 0
  gateway : Nat := 0
  /-- The last HEALTH entry produced on ring 4. -/
  lastHealth : List Nat := []
deriving DecidableEq, Repr

/-- A session slot (R479, R480) beyond its SES registers: base 0 counts of its creation, its opening and its last
command; H1, and the traffic and wrap keys, as bytes. -/
structure Session where
  beganNs : Nat := 0
  openedNs : Nat := 0
  lastNs : Nat := 0
  h1 : List Nat := []
  traffic : List Nat := []
  wrap : List Nat := []
deriving DecidableEq, Repr

/-- An entry of the key store (R483). Its material is 32 secret bytes, or the 97 of a public key. -/
structure KeyEntry where
  id : Nat := 0
  kind : Nat := 0
  roles : Nat := 0
  material : List Nat := []
deriving DecidableEq, Repr

/-- A microcode slot (R54, R489): the length of its image, 0 where no last chunk has been written, and its chunks of 4,096
bytes by number. -/
structure ImageSlot where
  size : Nat := 0
  chunks : Table (List Nat) := []
deriving DecidableEq, Repr

/-- The microcode image that slot A holds when the module leaves manufacture. DESIGN CHOICE: the spec gives none (log
entry 129). DESIGN CHOICE, log entry 129. -/
def factoryImage : List Nat := bytesBE 224 0x010000000000000004E1FA17E044F0A191D16272D63EB68CDB9451F4726C866E1AB341EA4461A10C4B960AE1C55D2EBCB9F97CDF1C72F1C3D6C6C798498BDD32570D8B0606B3E3CCBF777F9D197EFC72407F343A7DF1F950E904B0C9A62F56CE1296E43B89D9C07A4700000000000000506ED50A5A6752BDDA5940575275FD32C57D52A8E0827CEC8B2D470FE86CB9E6C9812278D9A13FE1A771CDEB995FFB133C2789400DF96D88B5F883D4C2A22C6AC427F3C515DAC216EC740FE17533F7AC7D3F6E98F39427FACF3065D3A2F1CC1A6D6963726F636F64652D310000000000
/-- The public key of the debug signature, which the microcode carries. DESIGN CHOICE (log entry 129). -/
def factoryDebugKey : List Nat := bytesBE 97 0x04DD16DA00248FFF4C5627BADFCFBAFF2141C89CE040412FF04EB565180713A383553FCF920682BE3F3ADCC7CEF97BDC447D249D0946430052A442B512CD39AEDB87BFD8F5D6B62480569891DD4B084DF41A89059421E45C526DD01D7731E3BE80
/-- SHA-384 of the public key of microcode images, in one-time-programmable memory. DESIGN CHOICE (log entry 129). -/
def factoryImageKeyHash : List Nat := bytesBE 48 0x9C2EAE56CD05190FF152D0B9F84CBDF7F7629B75238461688267CA81425BC18157F715D18A7F2589797D8D1564BF3C65
/-- SHA-384 of the debug public key, in one-time-programmable memory. DESIGN CHOICE (log entry 129). -/
def factoryDebugKeyHash : List Nat := bytesBE 48 0x275DA2D5ECB329CE6CC26180905ADFCC4DC73802B5DD2A668A0FBE7F01CC6008999F4526882E597DF8C95539DA97FA04

/-- SEC (R474 to R496) beyond its registers. -/
structure SecPart where
  sessions : List Session := [{}, {}, {}, {}, {}, {}, {}, {}]
  /-- The store by entry number: 0 to 4,607 secret, 4,608 to 4,735 public (R494). -/
  keys : Table (Option KeyEntry) := []
  /-- The command that has returned PENDING (R494). -/
  busy : Option SecCall := none
  /-- Failed authentications of a credential, and of a transport, with the base 0 count of each; what is locked, and
  since when (R481). -/
  fails : List (Nat × Nat) := []
  locked : List (Nat × Nat) := []
  transportFails : List (Nat × Nat) := []
  transportLocked : List (Nat × Nat) := []
  lastSessionId : Nat := 0
  /-- The mark of R487 in PD0 and in the secure store, and the cause that ZEROISE_DONE will name. -/
  zeroisePending : Bool := false
  zeroiseCause : Nat := 0
  /-- The PAIR key has been zeroised by R486. -/
  pairKeyLost : Bool := false
  /-- A management message's words in, and the words out. -/
  inbox : List Nat := []
  outbox : List Nat := []
  /-- The two microcode slots, and the one that runs. -/
  images : List ImageSlot := [{ size := 224, chunks := [(0, factoryImage)] }, {}]
  runningSlot : Nat := 0
  /-- The hashes in one-time-programmable memory that bind the key of microcode images and the debug key, and that key
  (R54, R491). -/
  imageKeyHash : List Nat := factoryImageKeyHash
  debugKeyHash : List Nat := factoryDebugKeyHash
  debugKey : List Nat := factoryDebugKey
deriving DecidableEq, Repr

/-- PWR (R517 to R534) beyond its registers. -/
structure PwrPart where
  /-- Power-fail step that is next (R17, R522): 0 outside the sequence, 1 to 4 the group to be shed, 5 all shed. -/
  failStep : Nat := 0
  /-- P: the number of the first tick after it started (R522). -/
  failTick : Option Nat := none
  /-- Inputs of X1 that are good (R517), and those cut off by the overvoltage stage (R519). -/
  inputGood : List Bool := [false, false]
  disconnected : List Bool := [false, false]
  /-- Clocks stopped by their PLL, one bit per clock domain of R18 (R19). -/
  stoppedClocks : Nat := 0
  /-- CLK_CORE count at which each of them stopped. -/
  stoppedAt : Table Nat := []
  /-- The flushes of the power-fail sequence that have ended: recorder, accumulators. -/
  flushedCont : Bool := false
  flushedAccum : Bool := false
deriving DecidableEq, Repr

end Sys2Proof.Machine
end

