-- ==== Sys2Proof/Machine/State.lean ====
section
/-! DEFINITION. The state of the Usberex and its state after reset. Registers live in `regs`, one entry per field
that differs from its reset value; everything else the manual gives a unit is in that unit's part. -/

namespace Sys2Proof.Machine

/-- The ways a command can stop. DESIGN CHOICE, log entry 17. -/
inductive Fault where
  /-- Raised by a register access whose offset lies outside the 64 MiB of BAR0 (R11): no such address exists.
  Safe: the machine stops. -/
  | outsideBar0
deriving DecidableEq, Repr

/-- Refusals. -/
inductive Refusal where
  /-- A command that has no meaning yet. Raised by exec's arm alone. Safe: the machine stops. -/
  | notModelled (mnemonic : String)
deriving DecidableEq, Repr

/-- The machine. -/
structure State where
  /-- Commands waiting, first in first out. -/
  pending : List Instr
  /-- The register file: field key to value. -/
  regs : Table Nat
  dev : DevPart
  clap : ClapPart
  tick : TickPart
  pimg : PimgPart
  lio : LioPart
  txn : TxnPart
  trp : TrpPart
  car : CarPart
  asm : AsmPart
  jug : JugPart
  boe : BoePart
  bot : BotPart
  bat : BatPart
  net : NetPart
  lrp : LrpPart
  stn : StnPart
  can : CanPart
  spot : SpotPart
  mem : MemPart
  cont : ContPart
  host : HostPart
  sec : SecPart
  pwr : PwrPart
  /-- The Reel in force, from the end of LOAD onward. -/
  cfg : Reel
  /-- How many free values have been drawn. The model's own field. -/
  free : Nat
deriving DecidableEq, Repr

/-- The machine as it stands before power first comes on: the fully fitted part, fresh from manufacture, in OFF (R1, R49).
Every field of the register file is at the reset value of its row in the register map, but for PART, which names the
part, and DOMAIN_STATE, which shows PD0 alone. DESIGN CHOICE, log entries 2 and 56. -/
def State.reset : State :=
  { pending := [], regs := [(fieldKey F.DEV.PART, 0x9648), (fieldKey F.PWR.DOMAIN_STATE, 1)]
    dev := {}, clap := {}, tick := {}, pimg := {}, lio := {}, txn := {}, trp := {}, car := {}, asm := {}, jug := {}
    boe := {}, bot := {}, bat := {}, net := {}, lrp := {}, stn := {}, can := {}, spot := {}, mem := {}, cont := {}
    host := {}, sec := {}, pwr := {}, cfg := {}, free := 0 }

end Sys2Proof.Machine
end

