-- ==== Sys2Proof/Machine/Ops.lean ====
section
/-! DEFINITION. The operations every unit shares: register fields, units, domains and clocks, stamps and event
records, health and interrupts, host ring entries, and the checks of a command (R102). -/

namespace Sys2Proof.Machine

open Sys2Proof

/-- What a command answers. DESIGN CHOICE, log entry 9. -/
abbrev Result := Host.Outcome State Fault Refusal

/-! ### Register fields -/

/-- The value of a field. -/
def getF (s : State) (f : Field) : Nat := tableGet f.reset s.regs (fieldKey f)
/-- Write a field; bits above its width are lost. -/
def setF (f : Field) (v : Nat) (s : State) : State :=
  { s with regs := tablePut f.reset s.regs (fieldKey f) (v % 2 ^ f.width) }
/-- A one-bit field read as a Bool. -/
def flag (s : State) (f : Field) : Bool := getF s f != 0
/-- Count up a field, saturating at all ones. -/
def bumpF (f : Field) (k : Nat) (s : State) : State := setF f (min (getF s f + k) (2 ^ f.width - 1)) s
/-- Set bit `i` of a field. -/
def setBit (f : Field) (i : Nat) (b : Bool) (s : State) : State :=
  let v := getF s f
  setF f (if (v / 2 ^ i % 2 == 1) == b then v else if b then v + 2 ^ i else v - 2 ^ i) s
/-- Read bit `i` of a field. -/
def bitF (s : State) (f : Field) (i : Nat) : Bool := getF s f / 2 ^ i % 2 == 1
/-- Return a list of fields to their reset values. -/
def resetFields (fs : List Field) (s : State) : State := fs.foldl (fun t f => setF f f.reset t) s

/-- The values of a set of SAFE_VALUES: point and value (R127). -/
def safeSetValues (x : SafeSec) (k : SafeSet) : List (Nat × Word) := (x.entries.drop k.first).take k.count
/-- The values of the set with a number; none of a set that the directory lacks. -/
def safeValues (x : SafeSec) (n : Nat) : List (Nat × Word) := ((x.sets[n]?).map (safeSetValues x)).getD []

/-- Draw a free value (undefined or random); the next draw is another one. DESIGN CHOICE, log entry 3. -/
def drawFree (s : State) : BitVec 64 × State := (Config.freeValue s.free, { s with free := s.free + 1 })

/-! ### Units, domains, clocks -/

/-- The power domain that holds each unit's window (R10). -/
def unitDomain : Nat → Nat
  | 4 => 2 | 5 => 11 | 6 => 8 | 7 => 8 | 8 => 8 | 9 => 9 | 10 => 9 | 11 => 10 | 12 => 10 | 13 => 0
  | 14 => 12 | 15 => 13 | 16 => 12 | 17 => 14 | 19 => 2 | 22 => 15 | _ => 1

/-- The main clock of each unit (R10), numbered in the order of R18 from CLK_SOLVE 0 to CLK_AON 10. -/
def unitClock : Nat → Nat
  | 3 => 8 | 5 => 7 | 7 => 0 | 8 => 0 | 11 => 6 | 12 => 6 | 13 => 10 | 14 => 3 | 15 => 4 | 16 => 3 | 17 => 5
  | 19 => 2 | 22 => 9 | _ => 1

/-- Unit `u` is fitted (R1). -/
def present (s : State) (u : Nat) : Bool := bitF s F.DEV.UNITS_PRESENT u
/-- Domain `d` is on. -/
def domainOn (s : State) (d : Nat) : Bool := bitF s F.PWR.DOMAIN_STATE d
/-- Clock `c` runs. -/
def clockRuns (s : State) (c : Nat) : Bool := s.pwr.stoppedClocks / 2 ^ c % 2 == 0
/-- Unit `u` is fitted, powered and clocked. -/
def unitRuns (s : State) (u : Nat) : Bool := present s u && domainOn s (unitDomain u) && clockRuns s (unitClock u)

/-- The module's serial number. -/
def serialNumber (s : State) : Nat := getF s F.DEV.SERIAL_HI * 2 ^ 32 + getF s F.DEV.SERIAL_LO
/-- The device state; none while a restart flushes (R79). -/
def inState (s : State) (d : DevState) : Bool := s.dev.state == d && s.dev.flushing.isNone
/-- DEV.STATE code of a state (R49); 0 for OFF, which cannot be read. -/
def devCode : DevState → Nat
  | .off => 0 | .boot => 1 | .load => 2 | .armed => 3 | .live => 4 | .faultSafe => 5 | .maintenance => 6

/-- The Spotlight role, 7 when not in LIVE (R456). -/
def role (s : State) : Nat := getF s F.SPOT.STATUS_ROLE
/-- The low word of TICK.NUMBER. -/
def tickLo (s : State) : Nat := lo32 s.tick.number

/-- A Stand-in that waits for its join or is out of step evaluates nothing (R420, R425). DEDUCED, log entry 122. -/
def shadowIdle (s : State) : Bool :=
  role s == 2 && !(getF s F.SPOT.STATUS_STANDIN_STATE == 2 || getF s F.SPOT.STATUS_STANDIN_STATE == 3)
/-- A complete result of unit `u` is due at the Curtain of tick `due` (R41). -/
def expectResult (u due tag : Nat) (s : State) : State :=
  { s with tick := { s.tick with expected := s.tick.expected ++ [(u, due, tag)] } }

/-! ### Time and stamps -/

/-- The count of base `b` in nanoseconds. -/
def nowNs (s : State) (b : Nat) : Nat := (s.clap.bases.getD b {}).ns
/-- The base that stamps are made on (R329). -/
def stampBase (s : State) : Nat :=
  if inState s .armed || inState s .live || inState s .faultSafe then 1 else 0
/-- The count of the stamping time base. -/
def stampNs (s : State) : Nat := nowNs s (stampBase s)
/-- The quality of base `b` (R328, R421). DEDUCED, log entry 121. -/
def baseQuality (s : State) (b : Nat) : Nat :=
  if b = 0 then 3
  else if b = 1 then
    let sel := getF s F.CLAP.STATUS_SELECTED
    if role s = 2 then
      if (toSigned 32 (getF s F.SPOT.SYNC_ERROR)).natAbs > getF s F.CLAP.CONFIG_ALIGN_NS then 1 else s.spot.mirrored.quality
    else if sel = 0 then 2
    else if getF s (F.CLAP.BASE_STATE sel) == 2 && flag s F.CLAP.STATUS_ALIGNED then 0 else 1
  else match getF s (F.CLAP.BASE_STATE b) with
    | 2 => 0
    | 0 => 0xF
    | _ => 1
/-- A stamp on base `b` for a count (R328). -/
def mkStamp (s : State) (b ns : Nat) : Nat :=
  ns % 2 ^ 40 + b * 2 ^ 40 + baseQuality s b * 2 ^ 44 + getF s F.CLAP.POWER_EPOCH % 2 ^ 16 * 2 ^ 48
/-- The stamp of the present instant. -/
def nowStamp (s : State) : Nat := mkStamp s (stampBase s) (stampNs s)
/-- A stamp on the stamping base for an earlier or later instant. -/
def stampAt (s : State) (ns : Nat) : Nat := mkStamp s (stampBase s) ns
/-- The stamp of a frame received or sent through port entry `e` of TIME (R338, R344): the adjustment of the path is added on
receipt and subtracted on transmission. -/
def portStamp (s : State) (e : Nat) (sends : Bool) : Nat :=
  let adj := if sends then -toSigned 32 (getF s (F.CLAP.TX_ADJ e)) else toSigned 32 (getF s (F.CLAP.RX_ADJ e))
  stampAt s ((stampNs s : Int) + adj).toNat
/-- The stamp of a CAN frame received through port entry `e` whose start-of-frame edge passed `ago` ns ago (R338). -/
def portStampAgo (s : State) (e ago : Nat) : Nat :=
  stampAt s ((stampNs s : Int) - (ago : Int) + toSigned 32 (getF s (F.CLAP.RX_ADJ e))).toNat
/-- The count in bits 39:0 of a stamp. -/
def stampCount (st : Nat) : Nat := st % 2 ^ 40

/-- Base `b` counts: base 0 from BOOT, Local once started, a PTP domain while PD12 is on (R326). -/
def baseRuns (s : State) (b : Nat) : Bool :=
  if b = 0 then !inState s .off
  else if b = 1 then flag s F.CLAP.STATUS_LOCAL_RUNNING
  else domainOn s 12
/-- The increment of base `b` in 2⁻³² ns (R326). -/
def baseInc (s : State) (b : Nat) : Nat := getF s (F.CLAP.INC_NS b) * 2 ^ 32 + getF s (F.CLAP.INC_FRAC b)
/-- Write the increment of base `b`. -/
def setInc (b inc : Nat) (s : State) : State :=
  setF (F.CLAP.INC_NS b) (inc / 2 ^ 32) (setF (F.CLAP.INC_FRAC b) (inc % 2 ^ 32) s)
/-- A count advanced by `k` increments. -/
def advanceCount (c : BaseCount) (inc k : Nat) : BaseCount :=
  let t := c.frac + inc * k
  { ns := c.ns + t / 2 ^ 32, frac := t % 2 ^ 32 }
/-- Let `n` CLK_CORE cycles pass: two of them are one CLK_TS cycle, at which every running base advances
(R18, R326). DESIGN CHOICE, log entry 1. -/
def elapse (n : Nat) (s : State) : State :=
  let k := if clockRuns s 8 then (s.clap.cycles + n) / 2 - s.clap.cycles / 2 else 0
  let bases := (List.range 6).map (fun b =>
    let c := s.clap.bases.getD b {}
    if baseRuns s b then advanceCount c (baseInc s b) k else c)
  { s with
    clap := { s.clap with bases := bases, cycles := s.clap.cycles + n }
    tick := { s.tick with cycle := s.tick.cycle + n } }
/-- Let time pass to a CLK_CORE cycle of the present tick; an earlier cycle changes nothing. DESIGN CHOICE, log entry 1. -/
def elapseTo (c : Nat) (s : State) : State := elapse (c - s.tick.cycle) s
/-- No command waits: one CLK_TS cycle passes (R18, R326). In OFF no clock of the tick runs (R50). DESIGN CHOICE, log entry 1. -/
def idle (s : State) : Result := .next (if inState s .off then s else elapse 2 s)
/-- The cycle of the present tick. -/
def cycleOf (s : State) : Nat := s.tick.cycle

/-! ### Event records -/

/-- Hand an event record to CONT (R446, R456). A unit that is absent produces none (R457). -/
def emitAt (stamp code : Nat) (payload : List Nat) (s : State) : State :=
  if present s (code / 256) then
    { s with cont := { s.cont with arrivals := s.cont.arrivals ++
      [{ stamp := stamp, code := code, payload := payload, cycle := s.clap.cycles }] } }
  else s
/-- An event now, with the low word of TICK.NUMBER as payload word 0. -/
def emit (code w1 w2 w3 : Nat) (s : State) : State :=
  emitAt (nowStamp s) code [tickLo s, lo32 w1, lo32 w2, lo32 w3] s

/-! ### Interrupts (R499) -/

/-- Raise interrupt cause `c`: the bit, and one message unless the bit stands already. DEDUCED, log entry 162. -/
def raiseCause (c : Nat) (s : State) : State :=
  let f := if c < 16 then F.HOST.INT_CAUSE_RINGS else if c < 20 then F.HOST.INT_CAUSE_CAN_HP else F.HOST.INT_CAUSE_HIGH
  let i := if c < 16 then c else if c < 20 then c - 16 else c - 20
  if bitF s f i then s
  else
    let s1 := setBit f i true s
    if !bitF s F.HOST.INT_ENABLE c then s1
    else if s.host.msixMask.getD c true then
      { s1 with host := { s1.host with
          msixPending := if s1.host.msixPending.contains c then s1.host.msixPending else s1.host.msixPending ++ [c] } }
    else { s1 with host := { s1.host with messages := s1.host.messages ++ [c] } }

/-! ### Health (R42, R19) -/

/-- The two health bits of unit `u` in DEV.HEALTH: 0 OK, 1 DEGRADED, 2 FAILED, 3 absent. -/
def unitHealth (s : State) (u : Nat) : Nat :=
  if !present s u then 3
  else if u < 16 then getF s F.DEV.HEALTH_LO / 4 ^ u % 4 else getF s F.DEV.HEALTH_HI / 4 ^ (u - 16) % 4
/-- Set the health of a unit. FAILED from R19 stays until the next entry to BOOT. A HEALTH that becomes FAILED
raises cause 22 (R499). -/
def setHealth (u v : Nat) (s : State) : State :=
  if !present s u then s
  else
    let v := if s.dev.failedSticky / 2 ^ u % 2 == 1 then 2 else v
    let old := unitHealth s u
    let f := if u < 16 then F.DEV.HEALTH_LO else F.DEV.HEALTH_HI
    let i := if u < 16 then u else u - 16
    let s1 := setF f (getF s f + v * 4 ^ i - old * 4 ^ i) s
    let s2 := setF (F.TICK.UNIT_STATE_HEALTH u) v s1
    if v == 2 && old != 2 then raiseCause 22 s2 else s2
/-- Make a unit's FAILED health stay until the next BOOT (R19). -/
def setFailedSticky (u : Nat) (s : State) : State :=
  if !present s u then s
  else
    let d := s.dev.failedSticky
    setHealth u 2 { s with dev := { s.dev with failedSticky := if d / 2 ^ u % 2 == 1 then d else d + 2 ^ u } }

/-- SEC's HEALTH (R486, R488, R492): FAILED with the DRBG stopped, DEGRADED while tampered under RECORD or without the
PAIR key. -/
def showSecHealth (s : State) : State :=
  setHealth 21 (if flag s F.SEC.STATUS_DRBG_FAILED then 2
    else if (flag s F.BAT.STATUS_TAMPER && !flag s F.SEC.CONFIG_TAMPER_ACTION) || s.sec.pairKeyLost then 1 else 0) s

/-! ### Host ring entries (R501, R502, R504) -/

/-- Does ring `r` produce entries now: enabled, device-to-host, and not silent on a Stand-in (R504). -/
def ringProduces (s : State) (r : Nat) : Bool :=
  flag s (F.HOST.RING_CONFIG_ENABLE r) && !flag s (F.HOST.RING_CONFIG_DIRECTION r) &&
    !(role s == 2 && (r == 2 || r == 3 || r == 6 || r == 7 || r == 8))

/-- Produce an entry on a ring: the next INDEX is consumed, and the entry is staged, or dropped where 4,096 wait
on a ring that may drop. -/
def stageEntry (r typ length stamp : Nat) (body : List Nat) (s : State) : State :=
  if !ringProduces s r then s
  else
    let idx := getF s (F.HOST.NEXT_INDEX r)
    let s1 := setF (F.HOST.NEXT_INDEX r) (idx + 1) s
    let q := tableGet [] s.host.staging r
    if q.length ≥ 4096 && !(r == 0 || r == 2 || r == 6) then
      let s2 := bumpF (F.HOST.LOST_COUNT r) 1 s1
      let first := (tableGet none s.host.lostFrom r).getD idx
      emit 0x1603 r (getF s2 (F.HOST.LOST_COUNT r)) first
        { s2 with host := { s2.host with lostFrom := tablePut none s2.host.lostFrom r (some first) } }
    else
      let e : RingEntry := { index := idx, typ := typ, length := length, stamp := stamp, body := body }
      { s1 with host := { s1.host with staging := tablePut [] s1.host.staging r (q ++ [e]) } }

/-- Staging places that are free on a ring (R502). -/
def stagingFree (s : State) (r : Nat) : Nat := 4096 - (tableGet [] s.host.staging r).length

/-- The two words of a 64-bit number, low first. -/
def words2 (n : Nat) : List Nat := [lo32 n, hi32 n]
/-- The words of a point as its sixteen bytes (R107). -/
def pointWords (p : PointVal) : List Nat :=
  [p.value.toNat, p.source * 2 ^ 24 + p.typ * 2 ^ 16 + p.quality, lo32 p.stamp, hi32 p.stamp]

/-! ### Commands (R78, R101 to R104) -/

/-- Shared result codes (R101). -/
def resOk : Nat := 0x00
/-- Another command reached the unit in the same cycle, or the unit cannot take one now. -/
def resBusy : Nat := 0x01
/-- Unknown opcode, or an argument out of range, unknown or stale. -/
def resBadArgument : Nat := 0x02
/-- Not legal in the present device state, role or object state. -/
def resIllegal : Nat := 0x03
/-- Names a unit, cluster or port that the variant lacks. -/
def resUnitAbsent : Nat := 0x04
/-- The caller's role or session does not permit it. -/
def resNotAuthorised : Nat := 0x05
/-- A lifetime or time limit has passed. -/
def resTimeout : Nat := 0x06
/-- Targets a METROLOGY-class value. -/
def resMetrologyLocked : Nat := 0x07
/-- A table, queue or log is full. -/
def resExhausted : Nat := 0x08
/-- Another object already claims the target. -/
def resConflict : Nat := 0x09
/-- Accepted; completion is reported later. -/
def resPending : Nat := 0x0A

/-- Roles of R478. -/
def roleObserver : Nat := 0
/-- OPERATOR. -/
def roleOperator : Nat := 1
/-- ENGINEER. -/
def roleEngineer : Nat := 2
/-- METROLOGIST. -/
def roleMetrologist : Nat := 3
/-- SECURITY_OFFICER. -/
def roleSecurity : Nat := 4
/-- Every role. -/
def anyRole : List Nat := [0, 1, 2, 3, 4]

/-- Session slot `k` is open (R480). -/
def sessionOpen (s : State) (k : Nat) : Bool := decide (k < 8) && getF s (F.SEC.SES_STATE_STATE k) == 2
/-- The slot of the BAR session, if one is open (R480). -/
def barSlot (s : State) : Option Nat :=
  (List.range 8).find? (fun k => sessionOpen s k && flag s (F.SEC.SES_STATE_BAR k))
/-- The session a command travels under. -/
def callerSlot (s : State) (c : Caller) : Option Nat :=
  match c.transport with
  | .mgmt =>
    match c.session with
    | some k => if sessionOpen s k && getF s (F.SEC.SES_STATE_TRANSPORT k) == 1 then some k else none
    | none => none
  | _ => barSlot s
/-- The role a command carries. -/
def callerRole (s : State) (c : Caller) : Option Nat :=
  (callerSlot s c).map (fun k => getF s (F.SEC.SES_STATE_ROLE k))

/-- What a unit's command answers its sender: the result code and the return value. -/
structure Reply where
  result : Nat
  ret : Nat := 0
deriving DecidableEq, Repr

/-- The outcome of a command's own steps: a refusal code, or the new state with result and return value. -/
abbrev Body := Except Nat (State × Nat × Nat)

/-- The CMD_RESULT fields, OPCODE and RESULT, of a unit with a command register. -/
def cmdResultFields : Nat → Option (Field × Field)
  | 1 => some (F.TICK.CMD_RESULT_OPCODE, F.TICK.CMD_RESULT_RESULT)
  | 2 => some (F.TXN.CMD_RESULT_OPCODE, F.TXN.CMD_RESULT_RESULT)
  | 3 => some (F.CLAP.CMD_RESULT_OPCODE, F.CLAP.CMD_RESULT_RESULT)
  | 9 => some (F.TRP.CMD_RESULT_OPCODE, F.TRP.CMD_RESULT_RESULT)
  | 11 => some (F.BOE.CMD_RESULT_OPCODE, F.BOE.CMD_RESULT_RESULT)
  | 13 => some (F.BAT.CMD_RESULT_OPCODE, F.BAT.CMD_RESULT_RESULT)
  | 15 => some (F.LRP.CMD_RESULT_OPCODE, F.LRP.CMD_RESULT_RESULT)
  | 17 => some (F.CAN.CMD_RESULT_OPCODE, F.CAN.CMD_RESULT_RESULT)
  | 18 => some (F.SPOT.CMD_RESULT_OPCODE, F.SPOT.CMD_RESULT_RESULT)
  | 19 => some (F.MEM.CMD_RESULT_OPCODE, F.MEM.CMD_RESULT_RESULT)
  | 20 => some (F.CONT.CMD_RESULT_OPCODE, F.CONT.CMD_RESULT_RESULT)
  | 21 => some (F.SEC.CMD_RESULT_OPCODE, F.SEC.CMD_RESULT_RESULT)
  | 22 => some (F.HOST.CMD_RESULT_OPCODE, F.HOST.CMD_RESULT_RESULT)
  | _ => none

/-- Show a command's result in the unit's CMD_RESULT, and in CMD_RETURN where the unit has one. -/
def showResult (u op : Nat) (r : Reply) (s : State) : State :=
  let s1 := match cmdResultFields u with
    | some (fo, fr) => setF fr r.result (setF fo op s)
    | none => s
  if u = 2 then setF F.TXN.CMD_RETURN r.ret s1 else if u = 21 then setF F.SEC.CMD_RETURN r.ret s1 else s1

/-- A command marks its session as used (R480). -/
def touchSession (c : Caller) (s : State) : State :=
  match callerSlot s c with
  | some k =>
    setF (F.SEC.SES_IDLE k) 0
      { s with sec := { s.sec with sessions := listUpd {} s.sec.sessions k (fun x => { x with lastNs := nowNs s 0 }) } }
  | none => s

/-- The power-fail sequence refuses every command from its start on (R522). -/
def powerFailing (s : State) : Bool := decide (s.pwr.failStep > 0)

/-- The order in which a unit takes same-cycle commands (R78). -/
def transportOrder : Transport → Nat
  | .bar => 0
  | .queue => 1
  | .mgmt => 2
/-- Another command of the same cycle is taken instead (R78). DESIGN CHOICE, log entry 13. -/
def lostTie (c : Caller) : Bool := c.rivals.any (fun t => decide (transportOrder t < transportOrder c.transport))

/-- Every argument word that the command's row lists as 0 is 0. DEDUCED: another value is out of range (log entry 46). -/
def spareClear (c : Caller) : Bool := c.spare.all (fun a => a == 0)

/-- A command's checks in the order of R102 after the opcode: role, device state, simultaneous arrival, then its
arguments, those listed as 0 first. `roles` none means that the command needs no session. A refusal has no side effect but its record.
DEDUCED, log entries 16 and 46 and 55. -/
def runCommand (u op : Nat) (c : Caller) (a0 : Nat) (roles : Option (List Nat)) (legal : Bool)
    (body : State → Body) (s : State) : State × Reply :=
  let t := touchSession c s
  let authorised := match roles with
    | none => true
    | some rs => match callerRole s c with
      | some r => rs.contains r
      | none => false
  let out : Body :=
    if !authorised then .error resNotAuthorised
    else if powerFailing s || !legal then .error resIllegal
    else if lostTie c then .error resBusy
    else if !spareClear c then .error resBadArgument
    else body t
  match out with
  | .ok (s', res, ret) =>
    let r : Reply := { result := res, ret := ret }
    (showResult u op r s', r)
  | .error e =>
    let r : Reply := { result := e }
    let t1 := emit (u * 256 + 0xFF) op e a0 t
    let t2 := if u = 2 then bumpF F.TXN.REFUSED_COUNT 1 t1 else t1
    (showResult u op r t2, r)

/-- A refusal of the opcode itself (R101, R102). DEDUCED, log entry 55. -/
def refuseOpcode (u op : Nat) (c : Caller) (a0 : Nat) (s : State) : State × Reply :=
  let r : Reply := { result := resBadArgument }
  let t1 := emit (u * 256 + 0xFF) op resBadArgument a0 (touchSession c s)
  let t2 := if u = 2 then bumpF F.TXN.REFUSED_COUNT 1 t1 else t1
  (showResult u op r t2, r)

/-! ### Messages that leave on the management port (R508, R509) -/

/-- The session slot on the management port with an ID. -/
def mgmtSlot (s : State) (id : Nat) : Option Nat :=
  (List.range 8).find? (fun k => getF s (F.SEC.SES_STATE_STATE k) != 0 && getF s (F.SEC.SES_STATE_SESSION_ID k) == id &&
    getF s (F.SEC.SES_STATE_TRANSPORT k) == 1)
/-- The header of a message: its kind, FLAGS, SESSION_ID, LENGTH, SEQUENCE and TAG. -/
def mgmtHeader (kind flags id length seq tag : Nat) : List Nat :=
  bytesLE 4 0x474D4E57 ++ [1, kind, flags, 0] ++ bytesLE 2 id ++ bytesLE 2 length ++ bytesLE 8 seq ++ bytesLE 4 tag ++ bytesLE 8 0
/-- The nonce of a message: 1 from the host or 2 from the device, then its SEQUENCE. -/
def mgmtNonce (sender seq : Nat) : List Nat := bytesLE 4 sender ++ bytesLE 8 seq
/-- Send a message: its SEQUENCE is the device's next count for the session, and all but BEGIN_RESPONSE are sealed under the
session's traffic key. -/
def sendMessage (kind id tag : Nat) (more : Bool) (body : List Nat) (s : State) : State :=
  let k := mgmtSlot s id
  let n := match k with
    | some j => tableGet 0 s.host.mgmtSent j + 1
    | none => 1
  let bs := bytesOfWords body
  let head := mgmtHeader kind (ofBool more) id bs.length n tag
  let key := (k.map (fun j => (s.sec.sessions.getD j {}).traffic)).getD []
  { s with host := { s.host with
    mgmtSent := match k with
      | some j => tablePut 0 s.host.mgmtSent j n
      | none => s.host.mgmtSent
    mgmtReplies := s.host.mgmtReplies ++ [head ++ (if kind = 2 then bs else gcmSeal key (mgmtNonce 2 n) head bs)] } }
/-- A RESPONSE: a completion body, then the mailbox data in parts of 1,024 bytes, MORE on all but the last. -/
def sendResponse (id tag unit op result ret : Nat) : Nat → List Nat → State → State
  | 0, _, s => s
  | n + 1, ws, s =>
    let more := decide (256 < ws.length)
    let s1 := sendMessage 5 id tag more ([unit + op * 2 ^ 8 + result * 2 ^ 16, tag % 2 ^ 16, ret] ++ ws.take 256) s
    if more then sendResponse id tag unit op result ret n (ws.drop 256) s1 else s1

/-- A PENDING command reached its final result: cause 24, and its second completion (R499, R505), or its response to the
management session that gave it (R90). `key` is the first argument of a command that may be pending several times. -/
def commandDone (u op : Nat) (key : Option Nat) (result ret : Nat) (s : State) : State :=
  let mine := s.host.pendingCmds.find? (fun p => p.unit == u && p.opcode == op && (key.isNone || key == some p.key))
  let s1 := raiseCause 24 s
  match mine with
  | some p =>
    let s2 := { s1 with host := { s1.host with pendingCmds := s1.host.pendingCmds.filter (fun q => !(q == p)) } }
    match p.tag with
    | some tag => stageEntry 0 1 12 (nowStamp s2) [u + op * 2 ^ 8 + result * 2 ^ 16, tag, ret] s2
    | none =>
      match p.mgmt with
      | some (id, tag) => if (mgmtSlot s2 id).isSome then sendResponse id tag u op result ret 4 [] s2 else s2
      | none => s2
  | none => s1

end Sys2Proof.Machine
end

