-- ==== Sys2Proof/Machine/Keys.lean ====
section
/-! DEFINITION. Reading the key store (R483). -/

namespace Sys2Proof.Machine

open Sys2Proof

/-- The entries in use, by number. -/
def keyEntries (s : State) : List (Nat × KeyEntry) := s.sec.keys.filterMap (fun e => e.2.map (fun k => (e.1, k)))
/-- The entry with an ID. -/
def findKey (s : State) (id : Nat) : Option (Nat × KeyEntry) := (keyEntries s).find? (fun e => e.2.id == id)
/-- A key of a kind and ID is in the store; under another kind it counts as missing. -/
def hasKey (s : State) (kind id : Nat) : Bool := (keyEntries s).any (fun e => e.2.id == id && e.2.kind == kind)
/-- The material of a key; none of a key that is not in the store. -/
def keyMaterial (s : State) (kind id : Nat) : List Nat :=
  (((keyEntries s).find? (fun e => e.2.id == id && e.2.kind == kind)).map (fun e => e.2.material)).getD []

end Sys2Proof.Machine
end

