-- ==== Sys2Proof/Machine/ErrTable.lean ====
section
/-! DEFINITION. The nine memories and their error tables (R434 to R438, R444). -/

namespace Sys2Proof.Machine

open Sys2Proof

/-! ### Memories (R434) -/

/-- Memory `m` is fitted. -/
def memPresent (s : State) (m : Nat) : Bool :=
  match m with
  | 0 | 6 | 7 | 8 => true
  | 1 | 2 | 3 | 4 => bitF s F.JUG.CLUSTERS_PRESENT (m - 1)
  | 5 => present s 8
  | _ => false
/-- The memory is privileged. -/
def privileged (m : Nat) : Bool := m == 6 || m == 7
/-- The domain that powers each memory (R14). -/
def memDomain : Nat → Nat
  | 0 => 3 | 1 => 4 | 2 => 5 | 3 => 6 | 4 => 7 | 5 => 2 | 6 => 1 | 7 => 0 | _ => 15
/-- Bytes of a protected word. -/
def wordBytes (m : Nat) : Nat := if m = 7 then 4 else if m = 8 then 1024 else 8
/-- Bytes of a memory. -/
def memBytes (m : Nat) : Nat := (F.MEM.MEM_INFO_SIZE_KIB m).reset * 1024

/-! ### Error tables (R435 to R438, R444) -/

/-- The address of a table entry. -/
def entryAddr (s : State) (m i : Nat) : Nat := getF s (F.MEM.ENT_ADDR_LO m i) + 2 ^ 32 * getF s (F.MEM.ENT_ADDR_HI m i)
/-- A table entry is in use. -/
def entryUsed (s : State) (m i : Nat) : Bool := flag s (F.MEM.ENT_INFO_VALID m i)
/-- The entry numbers of a table. -/
def entryNumbers : List Nat := List.range 32
/-- MEM becomes DEGRADED in LIVE (R444). -/
def memDegraded (s : State) : State := if inState s .live then setHealth 19 (max 1 (unitHealth s 19)) s else s
/-- Write a new entry. -/
def writeEntry (m i addr : Nat) (ue : Bool) (s : State) : State :=
  let fresh := !entryUsed s m i
  let s1 := setF (F.MEM.ENT_ADDR_LO m i) (lo32 addr) (setF (F.MEM.ENT_ADDR_HI m i) (hi32 addr)
    (setF (F.MEM.ENT_INFO_VALID m i) 1 (setF (F.MEM.ENT_INFO_KIND m i) (ofBool ue) (setF (F.MEM.ENT_INFO_STICKY m i) 0
      (setF (F.MEM.ENT_INFO_COUNT m i) 1 (setF (F.MEM.ENT_TICK m i) (tickLo s) s))))))
  let s2 := if fresh then bumpF (F.MEM.TABLE_FILL m) 1 s1 else s1
  if ue then s2 else emit 0x1301 m (lo32 addr) (hi32 addr) s2
/-- A further error at an entry's address. -/
def countEntry (m i addr : Nat) (ue : Bool) (s : State) : State :=
  let s1 := bumpF (F.MEM.ENT_INFO_COUNT m i) 1 (setF (F.MEM.ENT_TICK m i) (tickLo s) s)
  let s2 := if ue then setF (F.MEM.ENT_INFO_KIND m i) 1 s1 else s1
  if getF s2 (F.MEM.ENT_INFO_COUNT m i) ≥ 16 && !flag s2 (F.MEM.ENT_INFO_STICKY m i) then
    memDegraded (emit 0x1303 m (lo32 addr) (hi32 addr) (setF (F.MEM.ENT_INFO_STICKY m i) 1 s2))
  else s2
/-- The CE entry whose latest error is oldest, the lowest number of several. DEDUCED, log entry 130. -/
def oldestCe (s : State) (m : Nat) : Option Nat :=
  (entryNumbers.filter (fun i => !flag s (F.MEM.ENT_INFO_KIND m i))).foldl (fun best i => match best with
    | none => some i
    | some b => if getF s (F.MEM.ENT_TICK m i) < getF s (F.MEM.ENT_TICK m b) then some i else some b) none
/-- Log an error's address (R437). -/
def logAddress (m addr : Nat) (ue : Bool) (s : State) : State :=
  match entryNumbers.find? (fun i => entryUsed s m i && entryAddr s m i == addr) with
  | some i => countEntry m i addr ue s
  | none =>
    match entryNumbers.find? (fun i => !entryUsed s m i) with
    | some i => writeEntry m i addr ue s
    | none =>
      match oldestCe s m with
      | some i => writeEntry m i addr ue s
      | none =>
        let s1 := bumpF (F.MEM.TABLE_OVERFLOW m) 1 s
        emit 0x1304 m (getF s1 (F.MEM.TABLE_OVERFLOW m)) 0 s1
/-- A correctable error (R435). DEDUCED, log entry 130. -/
def noteCe (m addr : Nat) (s : State) : State :=
  logAddress m addr false (setF F.MEM.STATUS_CE_ANY 1 (bumpF (F.MEM.CE_COUNT m) 1 s))
/-- An uncorrectable error, found by a requester or, with none, by the scrubber (R438, R442). DEDUCED, log entries 130 and 131. -/
def noteUe (m addr : Nat) (requester : Option Nat) (s : State) : State :=
  let who := match requester with
    | some u => 256 * u
    | none => 0xFF00
  let s1 := logAddress m addr true (setF F.MEM.STATUS_UE_ANY 1 (bumpF (F.MEM.UE_COUNT m) 1 s))
  let s2 := emit 0x1302 (m + who) (lo32 addr) (hi32 addr) s1
  if m = 0 || m = 8 then memDegraded s2 else s2

end Sys2Proof.Machine
end

