-- ==== Sys2Proof/Machine/Cont.lean ====
section
/-! DEFINITION. The Continuity recorder: numbering, rate limits, the two rings, flushes and reads (R456 to R473). -/

namespace Sys2Proof.Machine

open Sys2Proof

/-- Whole 125 µs intervals of the stamping time base (R459, R461). -/
def now125 (s : State) : Nat := stampNs s / 125000

/-- The eight words of a record (R456). -/
def recWords (r : Rec) : List Nat :=
  let flags := ofBool r.persisted + 2 * ofBool r.summary + 4 * ofBool r.gap + 8 * ofBool r.replayed + 16 * (r.role % 8)
  [lo32 r.stamp, hi32 r.stamp, lo32 r.seq, r.code + flags * 2 ^ 16] ++ r.payload

/-- BURST of a code (R461, R470). -/
def burstOf (s : State) (code : Nat) : Nat := tableGet 200 s.cont.burst code
/-- The tokens of a code's bucket now, in 1/8,000 of a record (R461). Buckets start full. -/
def bucketTokens (s : State) (code : Nat) : Nat :=
  let cap := burstOf s code * 8000
  match tableGet none s.cont.buckets code with
  | none => cap
  | some b => min cap (b.tokens + getF s (F.CONT.CODE_STATE_RATE code) * (now125 s - b.at125))
/-- Store a bucket. -/
def setBucket (code tokens : Nat) (s : State) : State :=
  { s with cont := { s.cont with buckets := tablePut none s.cont.buckets code (some { tokens := tokens, at125 := now125 s }) } }
/-- Codes that no bucket limits (R461). -/
def unlimited (code : Nat) : Bool := code == 0x1401 || code == 0x1405

/-- Write a numbered record to the volatile ring and to host ring 1 (R463, R466). -/
def writeVolatile (r : Rec) (s : State) : State :=
  let c := s.cont
  let un := getF s F.CONT.VOL_UNPERSISTED
  let ring := c.volatileRing ++ [r]
  let ring' := if ring.length > 65536 then ring.drop (ring.length - 65536) else ring
  let lost := if un ≥ 65536 then
      match c.lostRun, c.volatileRing.head? with
      | some (first, n), _ => some (first, n + 1)
      | none, some old => some (old.seq, 1)
      | none, none => none
    else c.lostRun
  let s1 := { s with cont := { c with volatileRing := ring', lostRun := lost } }
  let s2 := if un ≥ 65536 then bumpF F.CONT.VOL_LOST_COUNT 1 s1 else setF F.CONT.VOL_UNPERSISTED (un + 1) s1
  stageEntry 1 1 32 r.stamp (recWords r) s2

/-- Drop a record that cannot be numbered (R459). -/
def dropRecord (s : State) : State := bumpF F.CONT.DROPPED_COUNT 1 s

/-- Give a record the next SEQUENCE and write it (R458). The number 0xFFFF_FFFF goes to a SEQUENCE_EXHAUSTED
record, after which every record is dropped (R459). -/
def numberRecord (r : Rec) (s : State) : State :=
  if flag s F.CONT.STATUS_EXHAUSTED then dropRecord s
  else
    let seq := getF s F.CONT.NEXT_SEQUENCE
    if seq = 0xFFFFFFFF then
      let x : Rec := { stamp := nowStamp s, seq := seq, code := 0x1405, role := role s,
                       payload := [tickLo s, getF s F.CONT.DROPPED_COUNT, 0, 0] }
      dropRecord (setHealth 20 1 (setF F.CONT.STATUS_EXHAUSTED 1 (writeVolatile x s)))
    else writeVolatile { r with seq := seq, role := role s } (setF F.CONT.NEXT_SEQUENCE (seq + 1) s)

/-- Write the summary record of a code whose PENDING is not 0 (R462). DEDUCED, log entry 140. -/
def writeSummary (code : Nat) (s : State) : State :=
  let n := getF s (F.CONT.CODE_STATE_PENDING code)
  if n = 0 then s
  else
    let x := tableGet {} s.cont.suppressed code
    let r : Rec := { stamp := x.lastStamp, code := code, summary := true, payload := [n, x.firstTick, x.lastTick, 0] }
    let s1 := numberRecord r s
    setF (F.CONT.CODE_STATE_PENDING code) 0
      { s1 with cont := { s1.cont with suppressed := tablePut {} s1.cont.suppressed code {} } }

/-- Start a flush (R465): summaries of every suppressed code first (R462). DEDUCED, log entry 141. -/
def startFlush (trigger : Nat) (s : State) : State :=
  let s1 := (s.cont.suppressed.map Prod.fst).foldl (fun t c => writeSummary c t) s
  setF F.CONT.STATUS_FLUSHING 1
    { s1 with cont := { s1.cont with
        flush := some { upTo := getF s1 F.CONT.VOL_UNPERSISTED, trigger := trigger }, timerDue := false } }
/-- A flush trigger: a flush starts, or another follows the one that runs (R465). -/
def triggerFlush (trigger : Nat) (s : State) : State :=
  if s.cont.flush.isSome then { s with cont := { s.cont with queuedFlush := some trigger } } else startFlush trigger s

/-- The triggers that a newly numbered record can meet: 75 % full, and a timer that has passed (R465). -/
def fillTriggers (s : State) : State :=
  if getF s F.CONT.VOL_UNPERSISTED = 49152 then triggerFlush 0 s
  else if s.cont.timerDue && s.cont.flush.isNone && decide (getF s F.CONT.VOL_UNPERSISTED > 0) then triggerFlush 1 s
  else s

/-- Count a suppressed record (R462). -/
def suppressRecord (a : Arrival) (s : State) : State :=
  let n := getF s (F.CONT.CODE_STATE_PENDING a.code)
  let x := tableGet {} s.cont.suppressed a.code
  let y : Suppressed := if n = 0
    then { firstTick := tickLo s, lastTick := tickLo s, lastStamp := a.stamp, first125 := now125 s }
    else { x with lastTick := tickLo s, lastStamp := a.stamp }
  bumpF F.CONT.SUPPRESSED_COUNT 1 (bumpF (F.CONT.CODE_STATE_PENDING a.code) 1
    { s with cont := { s.cont with suppressed := tablePut {} s.cont.suppressed a.code y } })

/-- Enter the present cap interval (R459). -/
def refreshCap (s : State) : State :=
  let k := if inState s .live then s.tick.number else now125 s
  if s.cont.capInterval = k then s
  else { s with cont := { s.cont with capInterval := k, capUsed := 0, capDropped := false } }
/-- The cap drops a record; the first drop of an interval sets STATUS.DROPPED (R459). -/
def dropAtCap (s : State) : State :=
  dropRecord (if s.cont.capDropped then s
    else setF F.CONT.STATUS_DROPPED 1 { s with cont := { s.cont with capDropped := true } })

/-- Admit one record: its bucket, then the cap, then the summary before it, then its number (R458 to R462). DEDUCED, log entry 140. -/
def admitRecord (a : Arrival) (s0 : State) : State :=
  let s := refreshCap s0
  let r : Rec := { stamp := a.stamp, code := a.code, payload := a.payload, replayed := a.replayed, gap := a.code == 0x1401 }
  if unlimited a.code then fillTriggers (numberRecord r s)
  else
    let tokens := bucketTokens s a.code
    if tokens < 8000 then suppressRecord a (setBucket a.code tokens s)
    else
      let s1 := setBucket a.code (tokens - 8000) s
      if s1.cont.capUsed ≥ 1024 then dropAtCap s1
      else
        let s2 := { s1 with cont := { s1.cont with capUsed := s1.cont.capUsed + 1 } }
        fillTriggers (numberRecord r (writeSummary a.code s2))

/-- The record that CONT numbers next, and those that wait behind it (R458): the first to arrive; of several that arrive in one
cycle, that of the lowest unit; in a Curtain's cycle, the collector's order. DEDUCED, log entry 140. -/
def nextArrival (s : State) : Option (Arrival × List Arrival) :=
  match s.cont.arrivals with
  | [] => none
  | a :: rest =>
    if s.cont.curtainAt = some a.cycle then some (a, rest)
    else
      let b := (rest.takeWhile (fun x => x.cycle == a.cycle)).foldl
        (fun m x => if x.code / 256 < m.code / 256 then x else m) a
      some (b, (a :: rest).erase b)
/-- CONT admits the next record. -/
def admitNext (s : State) : State :=
  match nextArrival s with
  | none => s
  | some (a, rest) => admitRecord a { s with cont := { s.cont with arrivals := rest } }

/-- SUMMARY_TIMEOUT (R462): the summary of a code, 8,000 ticks after the first suppression of its run. -/
def execSummaryTimeout (code : Nat) (s : State) : Result :=
  let x := tableGet {} s.cont.suppressed code
  .next (if now125 s ≥ x.first125 + 8000 then writeSummary code s else s)

/-- FLUSH_S in force: 60 without a RECORDER section (R470). -/
def flushSeconds (s : State) : Nat :=
  let v := getF s F.CONT.FLUSH_S
  if v = 0 then 60 else v

/-- FLUSH_TIMER (R465): FLUSH_S has passed since the last flush ended. DEDUCED, log entry 141. -/
def execFlushTimer (s : State) : Result :=
  .next (if stampNs s ≥ s.cont.lastFlushNs + flushSeconds s * 1000000000 then
      if getF s F.CONT.VOL_UNPERSISTED > 0 then (if s.cont.flush.isSome then s else startFlush 1 s)
      else { s with cont := { s.cont with timerDue := true } }
    else s)

/-- Slots of the persistent ring (R464). -/
def persistSlots : Nat := 33554432

/-- Erase the block of 8,192 slots that a slot lies in. -/
def eraseBlock (k : Nat) (s : State) : State :=
  { s with cont := { s.cont with persistent := s.cont.persistent.filter (fun e => e.1 / 8192 != k / 8192) } }
/-- Move the head to the next slot; the next block is erased before the head reaches it (R464). -/
def nextSlot (s : State) : State :=
  let k := (getF s F.CONT.PERSIST_HEAD + 1) % persistSlots
  let n := (k + 1) % persistSlots
  let s1 := if n % 8192 = 0 then eraseBlock n s else s
  setF F.CONT.PERSIST_HEAD k { s1 with cont := { s1.cont with headPd0 := k } }
/-- Write a record to the persistent ring (R464, R465). -/
def writePersistent (r : Rec) (s : State) : State :=
  let s1 := nextSlot s
  { s1 with cont := { s1.cont with
      persistent := tablePut .erased s1.cont.persistent (getF s1 F.CONT.PERSIST_HEAD) (.held { r with persisted := true }) } }
/-- A block that fails to program: the flush goes on in the next erased block (R466). -/
def failBlock (s : State) : State :=
  let k := getF s F.CONT.PERSIST_HEAD
  let n := (k / 8192 + 1) * 8192 % persistSlots
  let s1 := setF F.CONT.PERSIST_HEAD ((n + persistSlots - 1) % persistSlots) (bumpF F.CONT.FLUSH_FAIL_COUNT 1 (eraseBlock n s))
  emit 0x1404 (k / 8192) 1 0 s1

/-- The GAP record of a lost run, written only to the persistent ring (R466, R467). -/
def gapRec (s : State) (cause first : Nat) (after : Rec) : Rec :=
  { stamp := after.stamp, seq := first, code := 0x1401, gap := true, role := role s,
    payload := [tickLo s, cause, first, after.seq] }

/-- Copy records to the persistent ring; a run that cannot be read gives one GAP record with cause 3 (R467). -/
def persistAll : List Rec → Option Nat → State → State
  | [], _, s => s
  | r :: rs, run, s =>
    match s.cont.unreadable.find? (fun x => x.1 == r.seq) with
    | some (_, addr) => persistAll rs (some (run.getD r.seq)) (noteUe 0 addr (some 20) s)
    | none =>
      let s1 := match run with
        | some first => writePersistent (gapRec s 3 first r) s
        | none => s
      persistAll rs none (writePersistent r s1)

/-- Number every record that waits. -/
def admitAll (s : State) : State := Nat.repeat admitNext s.cont.arrivals.length s
/-- The flush of the power-fail sequence takes every record until PD2 and PD3 are shed, so that it cannot end before the
other domains are off and the accumulators are saved (R17, R465). DEDUCED, log entry 97. -/
def flushHeld (s : State) : Bool :=
  decide (0 < s.pwr.failStep) && (decide (s.pwr.failStep < 5) || (present s 13 && !s.pwr.flushedAccum))
/-- The flush that runs ends (R465, R466): `failures` blocks failed to program on the way. DEDUCED, log entry 141. -/
def finishFlush (failures : Nat) (s0 : State) : State :=
  match s0.cont.flush with
  | none => s0
  | some fl =>
    if fl.trigger = 4 && flushHeld s0 then s0 else
    let s := if fl.trigger = 4 then admitAll s0 else s0
    let un := getF s F.CONT.VOL_UNPERSISTED
    let n := if fl.trigger = 4 then un else min fl.upTo un
    let todo := (s.cont.volatileRing.drop (s.cont.volatileRing.length - un)).take n
    let s1 := (List.range failures).foldl (fun t _ => failBlock t) s
    let s2 := match s.cont.lostRun, todo.head? with
      | some (first, _), some r => writePersistent (gapRec s 1 first r) s1
      | _, _ => s1
    let s3 := persistAll todo none s2
    let c := s3.cont
    let s4 := setF F.CONT.STATUS_FLUSHING 0 (setF F.CONT.VOL_UNPERSISTED (un - n) (bumpF F.CONT.FLUSH_COUNT 1
      { s3 with
        cont := { c with
          flush := none, queuedFlush := none, lastFlushNs := stampNs s3
          lostRun := if todo = [] then c.lostRun else none
          unreadable := c.unreadable.filter (fun q => !(todo.map Rec.seq).contains q.1) }
        pwr := if fl.trigger = 4 then { s3.pwr with flushedCont := true } else s3.pwr }))
    let s5 := admitRecord
      { stamp := nowStamp s4, code := 0x1403, payload := [tickLo s4, n, fl.trigger, getF s4 F.CONT.PERSIST_HEAD] } s4
    match s.cont.queuedFlush with
    | some t => triggerFlush t s5
    | none => s5
/-- FLUSH_DONE (R465, R466). -/
def execFlushDone (failures : Nat) (s : State) : Result := .next (finishFlush failures s)
/-- A restart's flush (R79, R465) from its beginning to its end, with one that was still running before it. -/
def flushAll (s : State) : State :=
  let s1 := finishFlush 0 (triggerFlush 4 (admitAll s))
  if s1.cont.flush.isSome then finishFlush 0 s1 else s1

/-! ### Commands (R471) -/

/-- The FLUSH command. -/
def cmdFlush (c : Caller) (a0 : Nat) (s : State) : State × Reply :=
  runCommand 20 0x01 { c with spare := a0 :: c.spare } a0 (some [roleOperator]) true (fun t => .ok (triggerFlush 5 t, resOk, 0)) s
/-- FLUSH (R471). -/
def execFlush (c : Caller) (a0 : Nat) (s : State) : Result := .next (cmdFlush c a0 s).1

/-- The persistent records in slot order, from the oldest, with their slots (R464, R469). -/
def persistentOrder (s : State) : List (Nat × Rec) :=
  let h := getF s F.CONT.PERSIST_HEAD
  let held := fun (e : Nat × Slot) => match e.2 with
    | .held r => some (e.1, r)
    | _ => none
  ((s.cont.persistent.filter (fun e => e.1 > h)) ++ (s.cont.persistent.filter (fun e => e.1 ≤ h))).filterMap held

/-- The READ command: it starts at the oldest record whose key is at or after the given one (R471). -/
def cmdContRead (c : Caller) (ring epoch seq : Nat) (s : State) : State × Reply :=
  runCommand 20 0x02 c ring (some anyRole) true (fun t =>
    if ring < 9 || ring > 15 || getF t (F.HOST.RING_CONFIG_FUNCTION ring) == 2 then .error resBadArgument
    else if t.cont.reads.any (fun r => r.ring == ring) then .error resConflict
    else if t.cont.reads.length ≥ 4 then .error resExhausted
    else
      let order := persistentOrder t
      let first := if epoch = 0xFFFFFFFF then order.head? else
        order.find? (fun e => decide (e.2.stamp / 2 ^ 48 > epoch % 2 ^ 16) ||
          (e.2.stamp / 2 ^ 48 == epoch % 2 ^ 16 && decide (e.2.seq ≥ seq)))
      let h := getF t F.CONT.PERSIST_HEAD
      let rd : ContRead :=
        { ring := ring, last := h, left := ((first.map (fun e => (h + persistSlots - e.1) % persistSlots + 1)).getD 0) }
      .ok (setF (F.HOST.RING_CONFIG_FUNCTION ring) 1 { t with cont := { t.cont with reads := t.cont.reads ++ [rd] } }, resOk, 0)) s
/-- READ (R471). -/
def execContRead (c : Caller) (a0 a1 a2 : Nat) (s : State) : Result := .next (cmdContRead c a0 a1 a2 s).1

/-- End the read on a ring. -/
def endRead (ring : Nat) (s : State) : State :=
  setF (F.HOST.RING_CONFIG_FUNCTION ring) 0
    { s with cont := { s.cont with reads := s.cont.reads.filter (fun r => r.ring != ring) } }

/-- The READ_STOP command. -/
def cmdReadStop (c : Caller) (ring : Nat) (s : State) : State × Reply :=
  runCommand 20 0x03 c ring (some anyRole) true (fun t =>
    if ring < 9 || ring > 15 then .error resBadArgument
    else if t.cont.reads.any (fun r => r.ring == ring) then .ok (endRead ring t, resOk, 0)
    else .error resIllegal) s
/-- READ_STOP (R471). -/
def execReadStop (c : Caller) (a0 : Nat) (s : State) : Result := .next (cmdReadStop c a0 s).1

/-- Stage RECORDS entries of up to seven records each (R501). `fuel` is the number of records. DESIGN CHOICE, log entry 142. -/
def stageRecords (ring : Nat) : Nat → List Rec → State → State
  | 0, _, s => s
  | _, [], s => s
  | fuel + 1, rs, s =>
    let part := rs.take 7
    stageRecords ring fuel (rs.drop 7)
      (stageEntry ring 1 (16 + 32 * part.length) (nowStamp s) ([part.length, 0, 0, 0] ++ part.flatMap recWords) s)

/-- What a read finds in the slot that stands `left` slots before the end of its span: a slot written since it was accepted is
not the read's any more. -/
def spanSlot (s : State) (rd : ContRead) (left : Nat) : Slot :=
  if persistSlots - left < (getF s F.CONT.PERSIST_HEAD + persistSlots - rd.last) % persistSlots then .erased
  else tableGet .erased s.cont.persistent ((rd.last + 1 + persistSlots - left) % persistSlots)
/-- Up to `n` records from the next slots of a read; with them the sectors that cannot be read, one for each such slot, and how
many slots are left. DESIGN CHOICE, log entry 142. -/
def readOn (s : State) (rd : ContRead) : Nat → Nat → List Rec × List Nat × Nat
  | 0, _ => ([], [], 0)
  | left + 1, 0 => ([], [], left + 1)
  | left + 1, n + 1 =>
    match spanSlot s rd (left + 1) with
    | .held r => let (l, b, k) := readOn s rd left n; (r :: l, b, k)
    | .bad a => let (l, b, k) := readOn s rd left (n + 1); (l, a :: b, k)
    | .erased => readOn s rd left (n + 1)
/-- Records that a read can deliver now: seven for each place that its ring has. -/
def readPlaces (s : State) (ring : Nat) : Nat := if ringProduces s ring then 7 * stagingFree s ring else 0

/-- READ_DONE (R471): the read delivers its records, as far as its ring has places, and ends with the last. Slots that cannot
be read are skipped and counted (R467). DESIGN CHOICE, log entry 142. -/
def execReadDone (ring : Nat) (s : State) : Result :=
  .next (match s.cont.reads.find? (fun r => r.ring == ring) with
    | none => s
    | some rd =>
      let (rs, bad, left) := readOn s rd rd.left (readPlaces s ring)
      let delivered := rd.delivered + rs.length
      let skipped := rd.skipped + (rd.left - left - rs.length)
      let s1 := bad.eraseDups.foldl (fun t a => noteUe 8 a (some 20) t) (stageRecords ring rs.length rs s)
      let s2 := bumpF F.CONT.PERSIST_UE_COUNT bad.length s1
      if left = 0 then emit 0x1406 ring delivered skipped (endRead ring s2)
      else { s2 with cont := { s2.cont with reads := s2.cont.reads.map (fun r =>
        if r.ring = ring then { r with left := left, delivered := delivered, skipped := skipped } else r) } })

end Sys2Proof.Machine
end

