-- ==== Sys2Proof/Machine/Float.lean ====
section
/-! DEFINITION. IEEE 754 binary32 and binary64 arithmetic on bit patterns, computed exactly on integers and
rounded once, half to even. Subnormal numbers are kept. A NaN result is the quiet NaN with a clear sign and
a zero payload. -/

namespace Sys2Proof.Machine

/-- A floating-point value taken apart: `fin neg m e` is (−1)^neg · m · 2^e. -/
inductive FVal where
  | nan
  | inf (neg : Bool)
  | fin (neg : Bool) (m : Nat) (e : Int)
deriving DecidableEq, Repr

/-- The bias of a format with `eb` exponent bits. -/
def fBias (eb : Nat) : Nat := 2 ^ (eb - 1) - 1

/-- Take a bit pattern with `mb` fraction bits and `eb` exponent bits apart. -/
def fUnpack (mb eb n : Nat) : FVal :=
  let frac := n % 2 ^ mb
  let ex := (n / 2 ^ mb) % 2 ^ eb
  let neg := (n / 2 ^ (mb + eb)) % 2 == 1
  if ex = 2 ^ eb - 1 then (if frac = 0 then .inf neg else .nan)
  else if ex = 0 then .fin neg frac (1 - (fBias eb : Int) - mb)
  else .fin neg (frac + 2 ^ mb) ((ex : Int) - fBias eb - mb)

/-- The pattern of an infinity. -/
def fInfBits (mb eb : Nat) (neg : Bool) : Nat := (if neg then 2 ^ (mb + eb) else 0) + (2 ^ eb - 1) * 2 ^ mb
/-- The pattern of the quiet NaN. -/
def fNanBits (mb eb : Nat) : Nat := (2 ^ eb - 1) * 2 ^ mb + 2 ^ (mb - 1)

/-- Round a value with `sticky` lost bits below it half to even, to an integer. -/
def roundShift (m sh : Nat) : Nat :=
  let q := m / 2 ^ sh
  let r := m % 2 ^ sh
  if sh = 0 then m
  else if r > 2 ^ (sh - 1) || (r == 2 ^ (sh - 1) && q % 2 == 1) then q + 1 else q

/-- Round m · 2^e once to the format, half to even. -/
def fRound (mb eb : Nat) (neg : Bool) (m : Nat) (e : Int) : Nat :=
  let sgn := if neg then 2 ^ (mb + eb) else 0
  if m = 0 then sgn
  else
    let len : Int := (Nat.log2 m : Int) + 1
    let emin : Int := 1 - (fBias eb : Int) - mb
    let e' := max (e + len - (mb + 1 : Nat)) emin
    let q := if e' ≤ e then m * 2 ^ (e - e').toNat else roundShift m (e' - e).toNat
    let field := (e' - emin).toNat
    let bits := field * 2 ^ mb + q
    if bits ≥ (2 ^ eb - 1) * 2 ^ mb then fInfBits mb eb neg else sgn + bits

/-- Put a value together in a format, rounding once. -/
def fPack (mb eb : Nat) : FVal → Nat
  | .nan => fNanBits mb eb
  | .inf neg => fInfBits mb eb neg
  | .fin neg m e => fRound mb eb neg m e

/-- Exact negation. -/
def fvNeg : FVal → FVal
  | .nan => .nan
  | .inf n => .inf (!n)
  | .fin n m e => .fin (!n) m e

/-- Exact sum. An exact zero sum of opposite signs is +0. -/
def fvAdd : FVal → FVal → FVal
  | .nan, _ => .nan
  | _, .nan => .nan
  | .inf a, .inf b => if a = b then .inf a else .nan
  | .inf a, _ => .inf a
  | _, .inf b => .inf b
  | .fin na ma ea, .fin nb mb eb =>
    let e := min ea eb
    let a : Int := (ma * 2 ^ (ea - e).toNat : Nat)
    let b : Int := (mb * 2 ^ (eb - e).toNat : Nat)
    let t := (if na then -a else a) + (if nb then -b else b)
    if t = 0 then .fin (na && nb) 0 e else .fin (t < 0) t.natAbs e

/-- Exact product. -/
def fvMul : FVal → FVal → FVal
  | .nan, _ => .nan
  | _, .nan => .nan
  | .inf a, .inf b => .inf (a != b)
  | .inf a, .fin nb m _ => if m = 0 then .nan else .inf (a != nb)
  | .fin na m _, .inf b => if m = 0 then .nan else .inf (na != b)
  | .fin na ma ea, .fin nb mb eb => .fin (na != nb) (ma * mb) (ea + eb)

/-- Quotient to well over the precision of either format, with the lost part kept as a sticky last bit. -/
def fvDiv : FVal → FVal → FVal
  | .nan, _ => .nan
  | _, .nan => .nan
  | .inf _, .inf _ => .nan
  | .inf a, .fin nb _ _ => .inf (a != nb)
  | .fin na _ _, .inf b => .fin (na != b) 0 0
  | .fin na ma ea, .fin nb mb eb =>
    let s := na != nb
    if mb = 0 then (if ma = 0 then .nan else .inf s)
    else
      let k : Nat := 128
      let n := ma * 2 ^ k
      let q := n / mb
      .fin s (q * 2 + (if n % mb = 0 then 0 else 1)) (ea - eb - (k : Int) - 1)

/-- Square root with a sticky last bit. −0 gives −0, any other negative value NaN. -/
def fvSqrt : FVal → FVal
  | .nan => .nan
  | .inf true => .nan
  | .inf false => .inf false
  | .fin n m e =>
    if m = 0 then .fin n 0 0
    else if n then .nan
    else
      let odd := e % 2 = 1
      let m' := (if odd then m * 2 else m) * 2 ^ 128
      let e' := (if odd then e - 1 else e) - 128
      let r := Nat.sqrt m'
      .fin false (r * 2 + (if r * r = m' then 0 else 1)) (e' / 2 - 1)

/-- Comparison: `none` when unordered, else the sign of a − b. -/
def fvCmp : FVal → FVal → Option Int
  | .nan, _ => none
  | _, .nan => none
  | .inf a, .inf b => some (if a = b then 0 else if a then -1 else 1)
  | .inf a, _ => some (if a then -1 else 1)
  | _, .inf b => some (if b then 1 else -1)
  | .fin na ma ea, .fin nb mb eb =>
    let e := min ea eb
    let a : Int := (ma * 2 ^ (ea - e).toNat : Nat)
    let b : Int := (mb * 2 ^ (eb - e).toNat : Nat)
    some (((if na then -a else a) - (if nb then -b else b)).sign)

/-- Round a finite value half to even to an integer. -/
def fvToInt : FVal → Int
  | .fin n m e =>
    let q := if 0 ≤ e then m * 2 ^ e.toNat else roundShift m (-e).toNat
    if n then -(q : Int) else q
  | _ => 0

/-- Truncate a finite value towards zero. -/
def fvTrunc : FVal → Int
  | .fin n m e =>
    let q := if 0 ≤ e then m * 2 ^ e.toNat else m / 2 ^ (-e).toNat
    if n then -(q : Int) else q
  | _ => 0

/-- The greatest integer not above a finite value. -/
def fvFloor : FVal → Int
  | .fin n m e =>
    let v : Int := if n then -(m : Int) else m
    if 0 ≤ e then v * 2 ^ e.toNat else v / ((2 ^ (-e).toNat : Nat) : Int)
  | _ => 0

/-- An integer as an exact value. -/
def fvOfInt (i : Int) : FVal := .fin (i < 0) i.natAbs 0
/-- A ratio of integers, to well over the precision of either format. -/
def fvOfRatio (n : Int) (d : Nat) : FVal := fvDiv (fvOfInt n) (fvOfInt d)

/-- A binary32 pattern taken apart. -/
def f32v (x : F32) : FVal := fUnpack 23 8 x.toNat
/-- A binary64 pattern taken apart. -/
def f64v (x : F64) : FVal := fUnpack 52 11 x.toNat
/-- A value rounded once to binary32. -/
def f32 (v : FVal) : F32 := BitVec.ofNat 32 (fPack 23 8 v)
/-- A value rounded once to binary64. -/
def f64 (v : FVal) : F64 := BitVec.ofNat 64 (fPack 52 11 v)

/-- binary32 sum, one rounding. -/
def f32Add (a b : F32) : F32 := f32 (fvAdd (f32v a) (f32v b))
/-- binary32 difference, one rounding. -/
def f32Sub (a b : F32) : F32 := f32 (fvAdd (f32v a) (fvNeg (f32v b)))
/-- binary32 product, one rounding. -/
def f32Mul (a b : F32) : F32 := f32 (fvMul (f32v a) (f32v b))
/-- binary32 quotient, one rounding. -/
def f32Div (a b : F32) : F32 := f32 (fvDiv (f32v a) (f32v b))
/-- binary32 fused a · b + c, one rounding. -/
def f32Fma (a b c : F32) : F32 := f32 (fvAdd (fvMul (f32v a) (f32v b)) (f32v c))
/-- The sign of a binary32 pattern flipped. -/
def f32Neg (a : F32) : F32 := a ^^^ 0x80000000#32
/-- binary32 magnitude. -/
def f32Abs (a : F32) : F32 := a &&& 0x7FFFFFFF#32
/-- binary32 less-than; false when unordered. -/
def f32Lt (a b : F32) : Bool := fvCmp (f32v a) (f32v b) == some (-1)
/-- binary32 less-or-equal; false when unordered. -/
def f32Le (a b : F32) : Bool := fvCmp (f32v a) (f32v b) == some (-1) || fvCmp (f32v a) (f32v b) == some 0
/-- binary32 equality; false when unordered. -/
def f32Eq (a b : F32) : Bool := fvCmp (f32v a) (f32v b) == some 0
/-- A finite binary32 pattern. -/
def f32Finite (a : F32) : Bool := a.toNat / 2 ^ 23 % 256 != 255
/-- A binary32 NaN pattern. -/
def f32Nan (a : F32) : Bool := f32v a == .nan

/-- binary64 sum, one rounding. -/
def f64Add (a b : F64) : F64 := f64 (fvAdd (f64v a) (f64v b))
/-- binary64 difference, one rounding. -/
def f64Sub (a b : F64) : F64 := f64 (fvAdd (f64v a) (fvNeg (f64v b)))
/-- binary64 product, one rounding. -/
def f64Mul (a b : F64) : F64 := f64 (fvMul (f64v a) (f64v b))
/-- binary64 quotient, one rounding. -/
def f64Div (a b : F64) : F64 := f64 (fvDiv (f64v a) (f64v b))
/-- binary64 square root, one rounding. -/
def f64Sqrt (a : F64) : F64 := f64 (fvSqrt (f64v a))
/-- binary64 fused a · b + c, one rounding. -/
def f64Fma (a b c : F64) : F64 := f64 (fvAdd (fvMul (f64v a) (f64v b)) (f64v c))
/-- The sign of a binary64 pattern flipped. -/
def f64Neg (a : F64) : F64 := a ^^^ 0x8000000000000000#64
/-- binary64 magnitude. -/
def f64Abs (a : F64) : F64 := a &&& 0x7FFFFFFFFFFFFFFF#64
/-- binary64 less-than; false when unordered. -/
def f64Lt (a b : F64) : Bool := fvCmp (f64v a) (f64v b) == some (-1)
/-- binary64 less-or-equal; false when unordered. -/
def f64Le (a b : F64) : Bool := fvCmp (f64v a) (f64v b) == some (-1) || fvCmp (f64v a) (f64v b) == some 0
/-- A finite binary64 pattern. -/
def f64Finite (a : F64) : Bool := a.toNat / 2 ^ 52 % 2048 != 2047
/-- binary64 smaller of two; the first when they compare equal. -/
def f64Min (a b : F64) : F64 := if f64Lt b a then b else a
/-- binary64 larger of two; the first when they compare equal. -/
def f64Max (a b : F64) : F64 := if f64Lt a b then b else a
/-- binary32 to binary64, exact. -/
def f32to64 (a : F32) : F64 := f64 (f32v a)
/-- binary64 to binary32, one rounding. -/
def f64to32 (a : F64) : F32 := f32 (f64v a)
/-- An integer rounded once to binary64. -/
def f64OfInt (i : Int) : F64 := f64 (fvOfInt i)
/-- An integer rounded once to binary32. -/
def f32OfInt (i : Int) : F32 := f32 (fvOfInt i)
/-- A ratio rounded once to binary64. -/
def f64OfRatio (n : Int) (d : Nat) : F64 := f64 (fvOfRatio n d)
/-- A ratio rounded once to binary32. -/
def f32OfRatio (n : Int) (d : Nat) : F32 := f32 (fvOfRatio n d)
/-- binary64 rounded half to even to an integer; 0 for a NaN or an infinity. -/
def f64ToInt (a : F64) : Int := fvToInt (f64v a)

end Sys2Proof.Machine
end

