-- ==== Sys2Proof/Machine/Pimg.lean ====
section
/-! DEFINITION. The process image: quality, conditioning, timeouts, the freeze and the writes of sources, Takes and
safe sets (R107 to R126). -/

namespace Sys2Proof.Machine

open Sys2Proof

/-! ### Conditions and quality (R109, R110, R121) -/

/-- Condition codes of R110 that the text names. -/
def condInitial : Nat := 1
/-- Below LO. -/
def condLow : Nat := 2
/-- Above HI. -/
def condHigh : Nat := 3
/-- Rate-limited. -/
def condRate : Nat := 4
/-- Filter restarted. -/
def condFilter : Nat := 5
/-- Timeout expired. -/
def condTimeout : Nat := 6
/-- Source declared lost. -/
def condAbsent : Nat := 7
/-- Crossing stalled. -/
def condCrossing : Nat := 8
/-- Open circuit. -/
def condOpenWire : Nat := 9
/-- Short circuit. -/
def condShort : Nat := 10
/-- Beyond the measuring range. -/
def condOverload : Nat := 11
/-- Written by a Take. -/
def condTake : Nat := 12
/-- From a safe-value set, or held for it. -/
def condSafe : Nat := 13
/-- Uncorrectable error. -/
def condMemory : Nat := 14

/-- A condition is present in a mask. -/
def hasCond (m c : Nat) : Bool := m / 2 ^ c % 2 == 1
/-- Any of some conditions is present. -/
def anyCond (m : Nat) (cs : List Nat) : Bool := cs.any (hasCond m)
/-- Put a condition into a mask, or take it out. -/
def putCond (m c : Nat) (b : Bool) : Nat := if hasCond m c == b then m else if b then m + 2 ^ c else m - 2 ^ c
/-- Take conditions out of a mask. -/
def dropConds (m : Nat) (cs : List Nat) : Nat := cs.foldl (fun x c => putCond x c false) m
/-- The largest code present, 0 with none (R110). -/
def reasonOf (m : Nat) : Nat :=
  ([14, 13, 12, 11, 10, 9, 8, 7, 6, 5, 4, 3, 2, 1].find? (hasCond m)).getD 0
/-- VALID is cleared by exactly the conditions of R121. -/
def validOf (m : Nat) (rejected : Bool) : Bool :=
  !(rejected || anyCond m [condInitial, condTimeout, condOpenWire, condShort, condOverload, condMemory])
/-- The QUALITY field from the conditions (R109). -/
def qualityBits (m : Nat) (rejected : Bool) : Nat :=
  let valid := validOf m rejected
  let oor := anyCond m [condLow, condHigh]
  let rate := hasCond m condRate
  let absent := hasCond m condAbsent
  let filt := hasCond m condFilter
  let cross := hasCond m condCrossing
  ofBool valid + 2 * ofBool (valid && (oor || rate || absent || filt || cross)) + 4 * ofBool oor + 8 * ofBool rate +
    16 * ofBool (hasCond m condTimeout) + 32 * ofBool (anyCond m [condInitial, condTake, condSafe]) +
    64 * ofBool absent + 128 * ofBool filt + 256 * ofBool cross + 4096 * reasonOf m
/-- A point's VALID bit. -/
def pointValid (p : PointVal) : Bool := p.quality % 2 == 1

/-! ### The table -/

/-- A point of the live image. -/
def livePoint (s : State) (i : Nat) : PointVal := tableGet {} s.pimg.live i
/-- A point of the snapshot. -/
def snapPoint (s : State) (i : Nat) : PointVal := tableGet {} s.pimg.snap i
/-- A point of the point window. -/
def windowPoint (s : State) (i : Nat) : PointVal := tableGet {} s.pimg.window i
/-- A point's conditioning state. -/
def pointCond (s : State) (i : Nat) : PointCond := tableGet {} s.pimg.cond i
/-- A point's POINTS entry. -/
def pointCfg (s : State) (i : Nat) : Option PointCfg := s.cfg.points.find? (fun c => c.index == i)
/-- Write a point and its conditions to the live image; QUALITY follows from the conditions. -/
def putPoint (i : Nat) (p : PointVal) (c : PointCond) (s : State) : State :=
  { s with pimg := { s.pimg with
      live := tablePut {} s.pimg.live i { p with quality := qualityBits c.conds c.rejected }
      cond := tablePut {} s.pimg.cond i c } }

/-! ### Conditioning (R115 to R118) -/

/-- x lies below LO, or above HI, in the point's TYPE (R116); `none` inside. -/
def outside (typ : Nat) (x lo hi : Word) : Option Nat :=
  let below := if typ = 0 then f32Lt x lo else if typ = 1 then x.slt lo else x.ult lo
  let above := if typ = 0 then f32Lt hi x else if typ = 1 then hi.slt x else hi.ult x
  if below then some condLow else if above then some condHigh else none

/-- A value of TYPE 0 or 1 widened exactly to binary64. -/
def widen (typ : Nat) (x : Word) : F64 := if typ = 0 then f32to64 x else f64OfInt x.toInt

/-- The rate limit (R117): the value to go on with, and whether it was limited. `dt` is in nanoseconds. DEDUCED, log entry 61. -/
def rateLimit (typ : Nat) (maxRate : F32) (rv x : Word) (dt : Int) : Word × Bool :=
  let d := f64Mul (f32to64 maxRate) (f64Div (f64OfInt dt) (f64OfInt 1000000000))
  let diff := f64Sub (widen typ x) (widen typ rv)
  if !f64Lt d (f64Abs diff) then (x, false)
  else if typ = 0 then
    (f32 (fvAdd (f32v rv) (if f64Lt diff 0 then fvNeg (f64v d) else f64v d)), true)
  else
    let st := fvFloor (f64v d)
    (BitVec.ofInt 32 (rv.toInt + (if f64Lt diff 0 then -st else st)), true)

/-- The filter (R118): y, the new history, and whether the filter restarted. DEDUCED, log entry 60. -/
def filterStep (c : PointCfg) (k : PointCond) (x : Word) : Word × PointCond × Bool :=
  match c.filter with
  | 1 =>
    match k.filt with
    | [] => (x, { k with filt := [x] }, false)
    | y :: _ =>
      let y' := f32Add y (f32Mul (f32Sub x y) (f32OfRatio 1 (2 ^ c.filterParam)))
      if f32Finite y' then (y', { k with filt := [y'] }, false) else (x, { k with filt := [x] }, true)
  | 2 =>
    let h := (x :: k.filt).take (2 ^ c.filterParam)
    let sum := h.reverse.foldl (fun a v => f64Add a (f32to64 v)) 0
    let y := f32 (fvDiv (f64v sum) (fvOfInt h.length))
    if f32Finite y then (y, { k with filt := h }, false) else (x, { k with filt := [x] }, true)
  | 3 =>
    match k.filt with
    | [] => (x, { k with filt := [x], confirmState := x, confirmRun := 0 }, false)
    | y :: _ =>
      if x = y then (y, { k with confirmRun := 0 }, false)
      else
        let run := if k.confirmRun > 0 && k.confirmState = x then k.confirmRun + 1 else 1
        if run ≥ c.filterParam then (x, { k with filt := [x], confirmState := x, confirmRun := 0 }, false)
        else (y, { k with confirmState := x, confirmRun := run }, false)
  | _ => (x, k, false)

/-- What every source write does: it is the last write, and it ends STALE, SOURCE_ABSENT, CROSSING_STALL, a
front-end fault and a MEMORY mark (R119 to R121, R123). -/
def sourceWrote (s : State) (k : PointCond) : PointCond :=
  { k with
    lastWrite := s.tick.number
    conds := dropConds k.conds [condTimeout, condAbsent, condCrossing, condOpenWire, condShort, condOverload, condMemory] }

/-- `reject` of R115: VALUE and STAMP stay. DEDUCED, log entry 61. -/
def rejectSample (i : Nat) (reason : Nat) (x : Word) (k : PointCond) (s : State) : State :=
  let k1 := { k with rejected := true, conds := putCond (dropConds k.conds [condLow, condHigh, condRate, condFilter]) reason true }
  emit 0x0402 i reason x.toNat (bumpF F.PIMG.REJECT_COUNT 1 (putPoint i (livePoint s i) k1 s))

/-- Condition a sample that its source brings (R115). DEDUCED, log entry 61. -/
def conditionSample (u i : Nat) (c : PointCfg) (x : Word) (stamp : Nat) (s : State) : State :=
  let k := sourceWrote s (pointCond s i)
  if c.typ = 0 && !f32Finite x then
    rejectSample i (if !f32Nan x && x.toNat ≥ 2 ^ 31 then condLow else condHigh) x k s
  else
    let out := if c.rangeAction ≠ 0 && (c.typ = 0 || c.typ = 1 || c.typ = 4) then outside c.typ x c.lo c.hi else none
    if c.rangeAction = 2 && out.isSome then rejectSample i (out.getD 0) x k s
    else
      let x1 := if out = some condLow then c.lo else if out = some condHigh then c.hi else x
      let dt := toSigned 40 (stampCount stamp + 2 ^ 40 - stampCount k.rateStamp)
      let rl := if (c.typ = 0 || c.typ = 1) && f32Lt 0 c.maxRate && k.hasRate
        then rateLimit c.typ c.maxRate k.rateValue x1 dt else (x1, false)
      let k1 := { k with rateValue := rl.1, rateStamp := stamp, hasRate := true, rejected := false }
      let (y, k2, restarted) := filterStep c k1 rl.1
      let m0 := dropConds k2.conds [condInitial, condLow, condHigh, condRate, condFilter, condTake, condSafe]
      let m1 := match out with
        | some r => putCond m0 r true
        | none => m0
      let m := putCond (putCond m1 condRate rl.2) condFilter restarted
      let s1 := putPoint i { value := y, source := u, typ := c.typ, stamp := stamp } { k2 with conds := m } s
      let s2 := if out.isSome then bumpF F.PIMG.CLAMP_COUNT 1 s1 else s1
      let s3 := if rl.2 then bumpF F.PIMG.RATE_COUNT 1 s2 else s2
      if restarted then emit 0x0404 i c.filter 0 (bumpF F.PIMG.FILTER_COUNT 1 s3) else s3

/-- The image is in use: PIMG freezes snapshots. -/
def imageUp (s : State) : Bool := flag s F.PIMG.STATUS_RUNNING

/-- A source's write that is not its own point's: dropped and counted (R112). -/
def refuseWrite (u i : Nat) (s : State) : State :=
  emit 0x0403 i u 0 (bumpF F.PIMG.WRITE_REFUSED_COUNT 1 s)

/-- The present cycle is the Curtain's, and the publication is still to come (R13, R113). -/
def inCurtainCycle (s : State) : Bool :=
  inState s .live && flag s F.TICK.STATUS_RUNNING && !s.tick.curtainDone && s.tick.cycle == getF s F.TICK.CURTAIN_CYCLE
/-- A source write of the Curtain's cycle waits for the publication (R113). DESIGN CHOICE, log entry 13. -/
def holdSample (h : HeldSample) (s : State) : State :=
  { s with pimg := { s.pimg with afterCurtain := s.pimg.afterCurtain ++ [h] } }

/-- Unit `u` writes a sample of point `i` (R112, R115). A bool value other than 0 or 1 is refused at its source
(R108); a point whose POINTS entry failed takes no sample (R123), and the points of a FAULTED unit keep their safe or last
value (R122). DEDUCED, log entry 62. -/
def sampleIn (u i : Nat) (x : Word) (stamp : Nat) (s : State) : State :=
  if !imageUp s || bitF s F.TICK.FAULTED u then s
  else if inCurtainCycle s then holdSample { unit := u, point := i, value := x, stamp := stamp } s
  else match pointCfg s i with
    | none => refuseWrite u i s
    | some c =>
      if c.source ≠ u then refuseWrite u i s
      else if (pointCond s i).cfgFailed then s
      else if c.typ = 2 && x.toNat > 1 then s
      else conditionSample u i c x stamp s

/-- A front end reports a fault for its point: the value is held and VALID cleared (R119, R121). -/
def frontFault (u i code : Nat) (s : State) : State :=
  if !imageUp s || bitF s F.TICK.FAULTED u then s
  else if inCurtainCycle s then holdSample { unit := u, point := i, value := 0, stamp := 0, cond := some code } s
  else match pointCfg s i with
    | none => refuseWrite u i s
    | some c =>
      if c.source ≠ u then refuseWrite u i s
      else if (pointCond s i).cfgFailed then s
      else
        let k := sourceWrote s (pointCond s i)
        putPoint i (livePoint s i) { k with conds := putCond k.conds code true } s

/-- Discard the rate and filter history (R117, R118). -/
def forgetHistory (k : PointCond) : PointCond := { k with hasRate := false, filt := [], confirmRun := 0 }

/-- A source unit declares the source of a point lost (R120). -/
def declareAbsent (i : Nat) (s : State) : State :=
  if !imageUp s || (pointCfg s i).isNone then s
  else
    let k := pointCond s i
    putPoint i (livePoint s i) (forgetHistory { k with conds := putCond k.conds condAbsent true }) s

/-- A crossing sets or clears CROSSING_STALL on a point (R120, R449). -/
def crossingStall (i : Nat) (on : Bool) (s : State) : State :=
  if !imageUp s || (pointCfg s i).isNone then s
  else
    let k := pointCond s i
    putPoint i (livePoint s i) { k with conds := putCond k.conds condCrossing on } s

/-- A Take writes a point (R93, R107, R121, R123): SOURCE 0x02, SUBSTITUTED, REASON TAKE. STALE stays, and so does what the
latest accepted sample has shown (R109). -/
def takeWritePoint (i : Nat) (x : Word) (stamp : Nat) (s : State) : State :=
  match pointCfg s i with
  | none => s
  | some c =>
    let k := pointCond s i
    if k.cfgFailed then s
    else
      let latest := if k.rejected then [condLow, condHigh] else []
      let m := dropConds k.conds ([condInitial, condOpenWire, condShort, condOverload, condSafe, condMemory] ++ latest)
      putPoint i { value := x, source := 2, typ := c.typ, stamp := stamp }
        { k with rejected := false, conds := putCond m condTake true } s

/-- An uncorrectable error in a point, or in its POINTS entry (R123). -/
def memoryPoint (i : Nat) (entry : Bool) (s : State) : State :=
  if (pointCfg s i).isNone then s
  else
    let k := pointCond s i
    let p := livePoint s i
    let k1 := { k with conds := putCond k.conds condMemory true, cfgFailed := k.cfgFailed || entry }
    emit 0x0405 i (ofBool entry) 0 (setF F.PIMG.STATUS_MEMORY_ERROR 1 (bumpF F.PIMG.MEMORY_COUNT 1
      (putPoint i { p with value := 0 } k1 s)))

/-- A point of a FAULTED unit's safe-value set takes the set's value (R122). -/
def safePoint (u i : Nat) (x : Word) (stamp : Nat) (s : State) : State :=
  match pointCfg s i with
  | none => s
  | some c =>
    putPoint i { value := x, source := u, typ := c.typ, stamp := stamp }
      { pointCond s i with rejected := false, conds := 2 ^ condSafe } s
/-- Another point of a FAULTED unit keeps its value (R122). -/
def holdForSafe (u i : Nat) (s : State) : State :=
  let k := pointCond s i
  putPoint i { livePoint s i with source := u } { k with conds := putCond k.conds condSafe true } s

/-! ### Freeze and timeouts (R28, R113, R119) -/

/-- The timeout of a point has expired and it is not STALE yet. -/
def timeoutDue (s : State) (c : PointCfg) : Bool :=
  let k := pointCond s c.index
  c.timeout > 0 && s.tick.number ≥ k.lastWrite + c.timeout && !hasCond k.conds condTimeout
/-- Set STALE in the live image (R119). -/
def markStale (c : PointCfg) (s : State) : State :=
  let k := pointCond s c.index
  emit 0x0401 c.index (lo32 k.lastWrite) c.timeout
    (putPoint c.index (livePoint s c.index) (forgetHistory { k with conds := putCond k.conds condTimeout true }) s)
/-- The timeouts of all points. -/
def checkTimeouts (s : State) : State :=
  s.cfg.points.foldl (fun t c => if timeoutDue t c then markStale c t else t) s
/-- Write a system point (R111). -/
def sysPoint (i typ v stamp : Nat) (s : State) : State :=
  { s with pimg := { s.pimg with
      live := tablePut {} s.pimg.live i { value := BitVec.ofNat 32 v, source := 4, typ := typ, quality := 1, stamp := stamp } } }
/-- The snapshot becomes a copy of the live image (R28, R113). -/
def freezeSnapshot (s : State) : State := { s with pimg := { s.pimg with snap := s.pimg.live } }

/-- Every Reel point at the first tick of LIVE (R122). -/
def initImage (stamp : Nat) (s : State) : State :=
  s.cfg.points.foldl (fun t c =>
      putPoint c.index { value := c.initial, source := 0xFF, typ := c.typ, stamp := stamp } { conds := 2 ^ condInitial } t)
    { s with pimg := {} }

/-- POINT_SAMPLE (R115): unit `u` brings value `v`, acquired at `stamp`, for point `p`. `ue` tells that PIMG's read of the point
or, with true, of its POINTS entry finds an uncorrectable error at an address (R123): the sample is not conditioned. -/
def execPointSample (u p : Nat) (v : Word) (stamp : Nat) (ue : Option (Nat × Bool)) (s : State) : Result :=
  .next (match ue with
    | none => sampleIn u p v stamp s
    | some (addr, entry) => if imageUp s then memoryPoint p entry (noteUe 0 addr (some 4) s) else s)

/-- POINT_STALE (R119): the check of one point at the freeze, in the live image and in the snapshot being frozen. -/
def execPointStale (p : Nat) (s : State) : Result :=
  match pointCfg s p with
  | none => .next s
  | some c =>
    if imageUp s && timeoutDue s c then
      let t := markStale c s
      .next { t with pimg := { t.pimg with snap := tablePut {} t.pimg.snap p (livePoint t p) } }
    else .next s

end Sys2Proof.Machine
end

