-- ==== Sys2Proof/Machine/Accum.lean ====
section
/-! DEFINITION. The billing accumulators of the Box Office in the always-on SRAM (R279, R304, R305). -/

namespace Sys2Proof.Machine

open Sys2Proof

/-- A billing register by its place in the save image (R306). -/
def accumAt (s : State) (i : Nat) : Accum := tableGet {} s.bat.accum i
/-- Key of register `r` of meter `m`: IMPORT, EXPORT, Q1 to Q4. -/
def meterReg (m r : Nat) : Nat := 6 * m + r
/-- Key of register `r` of calculator `k`: HEAT_FWD, HEAT_REV, COLD_FWD, COLD_REV, VOL_FWD, VOL_REV, TARIFF_0 to 7. -/
def calcReg (k r : Nat) : Nat := 96 + 14 * k + r
/-- Key of MAH of current channel `e`. -/
def mahReg (e : Nat) : Nat := 552 + e
/-- Number of ERROR_S of calculator `k` among the registers, beside those of 16 bytes in the image. -/
def errorReg (k : Nat) : Nat := 600 + k
/-- The largest count. -/
def countMax : Nat := 0xFFFFFFFFFFFFFFFF
/-- Add a contribution (R279): the register, and the whole number it stepped by. -/
def stepAccum (x : F64) (a : Accum) : Accum × Nat :=
  let t := f64Add a.residue x
  let n := (fvFloor (f64v t)).toNat
  ({ count := min (a.count + n) countMax, residue := f64Sub t (f64OfInt n) }, n)
/-- Add to a register; a register whose copies have both failed keeps its value (R305). -/
def addAccum (i : Nat) (x : F64) (s : State) : State :=
  if s.bat.badRegs.contains i then s
  else { s with bat := { s.bat with accum := tablePut {} s.bat.accum i (stepAccum x (accumAt s i)).1 } }
/-- What `addAccum` steps by. -/
def accumStep (s : State) (i : Nat) (x : F64) : Nat :=
  if s.bat.badRegs.contains i then 0 else (stepAccum x (accumAt s i)).2
/-- Step a register without a residue. -/
def stepCount (i n : Nat) (s : State) : State :=
  let a := accumAt s i
  if s.bat.badRegs.contains i then s
  else { s with bat := { s.bat with accum := tablePut {} s.bat.accum i { a with count := min (a.count + n) countMax } } }

/-- BOE, BOT and BAT integrate only with valid accumulators (R311). -/
def accumLost (s : State) : Bool := flag s F.BAT.STATUS_ACCUM_LOST

/-- A stamp's quality field. -/
def stampQuality (st : Nat) : Nat := st / 2 ^ 44 % 16
/-- The present tick starts at a whole multiple of some minutes of Local; a clamped start belongs to the crossing nearest
to it (R26, R282, R307). DEDUCED, log entry 92. -/
def minuteBoundary (s : State) (mins : Nat) : Bool := (s.tick.startNs + 62500) / 125000 * 125000 % (mins * 60000000000) == 0
/-- Words of some 64-bit numbers, low word first. -/
def words64 (l : List Nat) : List Nat := l.flatMap words2
/-- At a tick start, keep the counts as they stand for the intervals that close there (R282, R313). DEDUCED, log entry 92. -/
def keepBoundary (s : State) : State :=
  let b := (s.tick.number, stampAt s s.tick.startNs, s.bat.accum, (List.range 32).map (fun k => getF s (F.BOT.ERROR_S k)))
  { s with bat := { s.bat with boundary := some b } }

end Sys2Proof.Machine
end

