-- ==== Sys2Proof/Machine/Boe.lean ====
section
/-! DEFINITION. The electrical Box Office: windows, quantities, energy, intervals and calibration (R268 to R294). -/

namespace Sys2Proof.Machine

open Sys2Proof

/-! ### Configuration -/

/-- The electrical part of METROLOGY, if any. -/
def elecMetro (s : State) : Option ElecMetro := s.cfg.metrology.bind MetrologySec.elec
/-- The electrical part of METERING, if any. -/
def elecMeter (s : State) : Option MeterPart := s.cfg.metering.bind MeteringSec.elec
/-- A voltage channel's entry. -/
def voltCfg (e : ElecMetro) (c : Nat) : VoltCfg := e.volts.getD c {}
/-- A current channel's entry. -/
def currCfg (e : ElecMetro) (c : Nat) : CurrCfg := e.currents.getD c {}
/-- The meter that a current channel belongs to. -/
def meterOf (e : ElecMetro) (c : Nat) : Option MeterCfg := e.meters.find? (fun m => m.elements.contains c)
/-- I_N of an element (R269). -/
def ratedCurrent (c : CurrCfg) : F64 := f64Mul (f32to64 c.ratio) (f64OfRatio 333 1000)
/-- Fundamental cycles of a window (R274). -/
def windowCycles (e : ElecMetro) : Nat := if e.nominalHz = 50 then 10 else 12
/-- BOE integrates. -/
def boeRuns (s : State) : Bool := unitRuns s 11 && flag s F.BOE.STATUS_INTEGRATING && !accumLost s
/-- A voltage set. -/
def voltSet (s : State) (k : Nat) : VoltageSet := s.boe.sets.getD k {}
/-- Change a voltage set. -/
def updSet (k : Nat) (f : VoltageSet → VoltageSet) (s : State) : State :=
  { s with boe := { s.boe with sets := listUpd {} s.boe.sets k f } }

/-! ### Samples (R268, R273) -/

/-- A 24-bit code: a reading at or beyond the measuring range is clipped at full scale. -/
def clipCode (x : Int) : Int := max (-8388608) (min 8388607 x)
/-- The codes of a channel's window. -/
def codesOf (w : ChannelWindow) : List Int := w.readings.map clipCode
/-- A sample of the window has reached full scale. -/
def reachesFull (w : ChannelWindow) : Bool := w.readings.any (fun x => decide (x ≤ -8388608) || decide (8388607 ≤ x))
/-- The largest magnitude of the window's codes. -/
def peakCode (w : ChannelWindow) : Nat := (codesOf w).foldl (fun a x => max a x.natAbs) 0
/-- The exact sum of the squares of the codes. -/
def sumSquares (w : ChannelWindow) : Int := (codesOf w).foldl (fun a x => a + x * x) 0
/-- The exact sum of the products of two channels' codes, sample by sample. -/
def sumProducts (v i : ChannelWindow) : Int := (List.zipWith (· * ·) (codesOf v) (codesOf i)).foldl (· + ·) 0

/-! ### Quantities of a window (R276, R281) -/

/-- sqrt(max(0, gain² × sum ÷ L − offset²)). -/
def rmsOf (gain offset sum : F64) (n : Nat) : F64 :=
  f64Sqrt (f64Max 0 (f64Sub (f64Div (f64Mul (f64Mul gain gain) sum) (f64OfInt n)) (f64Mul offset offset)))
/-- C(k) of a channel. -/
def binAt (w : ChannelWindow) (k : Nat) : F64 := w.bins.getD k 0
/-- A square. -/
def sq (x : F64) : F64 := f64Mul x x
/-- M_h before the channel's gain and ratio (R281). -/
def groupMagnitude (grouping cyc : Nat) (w : ChannelWindow) (h : Nat) : F64 :=
  let k := cyc * h
  match grouping with
  | 0 => binAt w k
  | 1 =>
    let half := cyc / 2
    let inner := (List.range (2 * half - 1)).foldl (fun a i => f64Add a (sq (binAt w (k + i + 1 - half))))
      (f64Mul (f64OfRatio 1 2) (sq (binAt w (k - half))))
    f64Sqrt (f64Add inner (f64Mul (f64OfRatio 1 2) (sq (binAt w (k + half)))))
  | _ => f64Sqrt (f64Add (f64Add (sq (binAt w (k - 1))) (sq (binAt w k))) (sq (binAt w (k + 1))))
/-- An angle brought to −180 to 180 degrees. DEDUCED, log entry 90. -/
def wrapDegrees (a : F64) : F64 :=
  let turns := f64ToInt (f64Div a (f64OfInt 360))
  f64Sub a (f64Mul (f64OfInt 360) (f64OfInt turns))
/-- THD (R281). `floor_` is the magnitude below which it is 0. DEDUCED, log entry 90. -/
def thdOf (mags : List F64) (floor_ : F64) : F64 :=
  let m1 := mags.getD 1 0
  if f64Lt m1 floor_ || m1 = 0 then 0
  else f64Div (f64Sqrt ((List.range 62).foldl (fun a i => f64Add a (sq (mags.getD (i + 2) 0))) 0)) m1
/-- Magnitudes and phases of the orders 1 to 63, at index h, with gain and ratio applied. -/
def harmonics (e : ElecMetro) (scale phi1 : F64) (w : ChannelWindow) : List F64 × List F64 :=
  let hs := List.range 64
  (hs.map (fun h => if h = 0 then 0 else f64Mul scale (groupMagnitude e.grouping (windowCycles e) w h)),
   hs.map (fun h => if h = 0 then 0 else wrapDegrees (f64Sub (w.phases.getD h 0) (f64Mul (f64OfInt h) phi1))))

/-- A voltage channel's results. DEDUCED, log entry 90. -/
def voltResult (e : ElecMetro) (n : Nat) (phi1 : F64) (c : VoltCfg) (w : ChannelWindow) : ChannelResult :=
  let ratio := f32to64 c.ratio
  let gain := f32to64 c.gain
  let k := f64Mul ratio Config.voltageCode
  let rms := rmsOf gain (f32to64 c.offset) (f64Mul (f64OfInt (sumSquares w)) (f64Mul k k)) n
  let hm := harmonics e (f64Mul gain ratio) phi1 w
  let nominal := f32to64 e.nominalV
  { rms := rms, fund := f64Mul (f64Mul gain ratio) (f64Sqrt (f64Add (sq w.re) (sq w.im)))
    thd := thdOf hm.1 (f64Mul (f64OfRatio 1 100) nominal), peak := peakCode w, full := reachesFull w
    below := f64Lt rms (f64Mul (f32to64 e.vloss) nominal), mags := hm.1, phases := hm.2 }
/-- Σ(v × i) of an element, scaled. -/
def sumVI (v : VoltCfg) (vw : ChannelWindow) (c : CurrCfg) (w : ChannelWindow) : F64 :=
  f64Mul (f64OfInt (sumProducts vw w))
    (f64Mul (f64Mul (f32to64 v.ratio) Config.voltageCode) (f64Mul (f32to64 c.ratio) Config.currentCode))
/-- A current channel's results, with its element's power (R276). -/
def currResult (e : ElecMetro) (n : Nat) (phi1 vrms : F64) (v : VoltCfg) (vw : ChannelWindow) (c : CurrCfg)
    (w : ChannelWindow) : ChannelResult :=
  let ratio := f32to64 c.ratio
  let gain := f32to64 c.iGain
  let k := f64Mul ratio Config.currentCode
  let rms := rmsOf gain (f32to64 c.iOffset) (f64Mul (f64OfInt (sumSquares w)) (f64Mul k k)) n
  let hm := harmonics e (f64Mul gain ratio) phi1 w
  let vr := f64Mul (f32to64 v.ratio) vw.re
  let vi := f64Mul (f32to64 v.ratio) vw.im
  let ir := f64Mul ratio w.re
  let ii := f64Mul ratio w.im
  let re := f64Add (f64Mul vr ir) (f64Mul vi ii)
  let im := f64Sub (f64Mul vi ir) (f64Mul vr ii)
  let p := f64Sub (f64Div (f64Mul (f32to64 c.pGain) (sumVI v vw c w)) (f64OfInt n)) (f32to64 c.pOffset)
  let sa := f64Mul vrms rms
  { rms := rms, fund := f64Mul (f64Mul gain ratio) (f64Sqrt (f64Add (sq w.re) (sq w.im)))
    thd := thdOf hm.1 (f64Mul (f64OfRatio 1 100) (ratedCurrent c)), p := p
    q := f64Sub (f64Mul (f32to64 c.qGain) im) (f32to64 c.qOffset), sApp := sa
    pf := if sa = 0 then 0 else f64Div p sa
    pFund := f64Sub (f64Mul (f32to64 c.pGain) re) (f32to64 c.pOffset), peak := peakCode w, full := reachesFull w
    below := f64Lt rms (f64Mul (f32to64 e.noload) (ratedCurrent c)), mags := hm.1, phases := hm.2 }

/-- f of a window on its reference channel, to 0.001 Hz (R274): CLK_AFE runs at 32,000 × 1,024 Hz. -/
def windowFreq (e : ElecMetro) (d : WindowData) (ref : Option Nat) : F64 :=
  match ref with
  | none => f64OfInt e.nominalHz
  | some i =>
    let w := d.volts.getD i {}
    f64OfRatio ((w.cycles * 32768000000 + w.span / 2) / w.span : Nat) 1000
/-- L of the next window: round(N_cyc × 32,000 ÷ f), f clamped to 45 Hz to 65 Hz. -/
def nextLength (e : ElecMetro) (f : F64) : Nat :=
  let g := f64Min (f64Max f (f64OfInt 45)) (f64OfInt 65)
  (f64ToInt (f64Div (f64OfInt (windowCycles e * 32000 : Nat)) g)).toNat

/-- The current channels of the meters on a voltage set. -/
def setCurrents (e : ElecMetro) (k : Nat) : List Nat := (e.meters.filter (fun m => m.voltageSet == k)).flatMap MeterCfg.elements

/-- All results of a window; `open_` stands for φ_1 of a set without a reference channel. -/
def windowResult (s : State) (e : ElecMetro) (d : WindowData) (analysis : Bool) (addr : Nat) (open_ : F64) : WindowResult :=
  let ref := (voltSet s d.set).reference
  let phi1 := match ref with
    | some i => (d.volts.getD i {}).phases.getD 1 0
    | none => open_
  let volts := (List.range 3).map (fun i => voltResult e d.samples phi1 (voltCfg e (3 * d.set + i)) (d.volts.getD i {}))
  let currs := (setCurrents e d.set).map (fun c =>
    let cc := currCfg e c
    let i := cc.voltChannel % 3
    let w := ((d.currents.find? (fun x => x.1 == c)).map Prod.snd).getD {}
    (c, currResult e d.samples phi1 (volts.getD i {}).rms (voltCfg e cc.voltChannel) (d.volts.getD i {}) cc w))
  let f := windowFreq e d ref
  { set := d.set, stamp := nowStamp s, samples := d.samples, freq := f, reference := ref
    freqRange := f64Lt f (f64OfInt 45) || f64Lt (f64OfInt 65) f, analysis := analysis, analysisAddr := addr
    volts := volts, currents := currs }

/-! ### Intervals (R282, R283) -/

/-- A meter's interval. -/
def meterInterval (s : State) (m : Nat) : Interval := tableGet {} s.boe.intervals m
/-- Set a flag bit of a meter's interval. -/
def flagInterval (m bit : Nat) (s : State) : State :=
  let x := meterInterval s m
  let y : Interval := { x with flags := if bitOf x.flags bit = 1 then x.flags else x.flags + 2 ^ bit }
  { s with boe := { s.boe with intervals := tablePut {} s.boe.intervals m y } }
/-- The meters on a voltage set. -/
def metersOfSet (e : ElecMetro) (k : Nat) : List Nat := (e.meters.filter (fun m => m.voltageSet == k)).map MeterCfg.meter
/-- Flag the intervals of some meters. -/
def flagMeters (ms : List Nat) (bit : Nat) (s : State) : State := ms.foldl (fun t m => flagInterval m bit t) s

/-! ### Errors (R287) -/

/-- HALT a meter. -/
def haltMeter (m addr : Nat) (s : State) : State :=
  if s.boe.halted.contains m then s
  else
    let s1 := flagInterval m 4 { s with boe := { s.boe with halted := s.boe.halted ++ [m] } }
    emit 0x0B06 m (lo32 addr) 0 (setF F.BOE.STATUS_MEMORY_ERROR 1 (setF (F.BOE.METER_STATE_HALTED m) 1 s1))
/-- The meters that use a configuration item: 0 a meter, 1 a voltage channel, 2 a current channel. -/
def metersUsing (e : ElecMetro) (kind index : Nat) : List Nat :=
  (e.meters.filter (fun m => match kind with
    | 0 => m.meter == index
    | 1 => m.elements.any (fun c => (currCfg e c).voltChannel == index)
    | _ => m.elements.contains index)).map MeterCfg.meter
/-- An uncorrectable error in BOE's configuration. DEDUCED, log entry 93. -/
def boeConfigError (x : BoeError) (s : State) : State :=
  match elecMetro s with
  | some e => (metersUsing e x.kind x.index).foldl (fun t m => haltMeter m x.addr t) s
  | none => s

/-! ### Energy (R278, R279) -/

/-- A meter's window energies: watt-seconds, var-seconds, and its P and Q. -/
def meterEnergy (e : ElecMetro) (d : WindowData) (r : WindowResult) (m : MeterCfg) : F64 × F64 × F64 × F64 :=
  m.elements.foldl (fun a c =>
    let cc := currCfg e c
    let x := ((r.currents.find? (fun y => y.1 == c)).map Prod.snd).getD {}
    let w := ((d.currents.find? (fun y => y.1 == c)).map Prod.snd).getD {}
    let n := f64OfInt d.samples
    let vw := d.volts.getD (cc.voltChannel % 3) {}
    let ep := f64Div (f64Sub (f64Mul (f32to64 cc.pGain) (sumVI (voltCfg e cc.voltChannel) vw cc w))
      (f64Mul (f32to64 cc.pOffset) n)) (f64OfInt 32000)
    let eq := f64Div (f64Mul x.q n) (f64OfInt 32000)
    (if x.below then a.1 else f64Add a.1 ep, if x.below then a.2.1 else f64Add a.2.1 eq,
      f64Add a.2.2.1 x.p, f64Add a.2.2.2 x.q)) (0, 0, 0, 0)
/-- A binary64 with its sign bit clear, or a zero of either sign. -/
def nonNegative (x : F64) : Bool := f64Le 0 x
/-- Add a window's energy to a meter's registers. DEDUCED, log entry 91. -/
def addEnergy (e : ElecMetro) (d : WindowData) (r : WindowResult) (m : MeterCfg) (s : State) : State :=
  if s.boe.halted.contains m.meter || accumLost s then s
  else
    let (ep, eq, p, q) := meterEnergy e d r m
    let mwh := fun (x : F64) => f64Div (f64Abs x) (f64OfRatio 36 10)
    let s1 := addAccum (meterReg m.meter (if nonNegative ep then 0 else 1)) (mwh ep) s
    if r.analysis then
      let quad := if nonNegative p then (if nonNegative q then 2 else 5) else (if nonNegative q then 3 else 4)
      addAccum (meterReg m.meter quad) (mwh eq) s1
    else flagInterval m.meter 5 s1

/-! ### Calibration (R291) -/

/-- A whole window of the run's set counts; one whose analysis was discarded (R287) does not: it has no Q. DEDUCED, log entry 93. -/
def calWindow (e : ElecMetro) (openedAt : Nat) (r : WindowResult) (s : State) : State :=
  match s.boe.cal with
  | none => s
  | some c =>
    match e.meters.find? (fun m => m.meter == c.meter), c.fromCycle with
    | some m, some t0 =>
      if m.voltageSet ≠ r.set || openedAt < t0 || c.done ≥ c.windows || !r.analysis then s
      else
        let add := m.elements.map (fun ch =>
          let x := ((r.currents.find? (fun y => y.1 == ch)).map Prod.snd).getD {}
          let v := (r.volts.getD ((currCfg e ch).voltChannel % 3) {}).rms
          let o := ((c.sums.find? (fun y => y.1 == ch)).map Prod.snd).getD (0, 0, 0, 0)
          (ch, f64Add o.1 v, f64Add o.2.1 x.rms, f64Add o.2.2.1 x.p, f64Add o.2.2.2 x.q))
        setF F.BOE.CAL_STATE_WINDOWS (c.done + 1) { s with boe := { s.boe with cal := some { c with done := c.done + 1, sums := add } } }
    | _, _ => s

/-! ### The window (R274, R275, R278) -/

/-- An element is overloaded: its current or its voltage channel. -/
def elementOver (e : ElecMetro) (r : WindowResult) (c : Nat) : Bool :=
  (((r.currents.find? (fun y => y.1 == c)).map Prod.snd).getD {}).full ||
    (r.volts.getD ((currCfg e c).voltChannel % 3) {}).full

/-- What a window's samples and frequency leave in the interval that it belongs to (R282, R283, R286): OVERLOAD in the record
of a meter with a clipped element, VOLTAGE_LOST where the set has no reference, FREQ_RANGE. -/
def windowFlags (e : ElecMetro) (r : WindowResult) (s : State) : State :=
  let s1 := (e.meters.filter (fun m => m.voltageSet == r.set && m.elements.any (elementOver e r))).foldl (fun t m => flagInterval m.meter 1 t) s
  let s2 := if r.reference.isNone then flagMeters (metersOfSet e r.set) 2 s1 else s1
  if r.freqRange then flagMeters (metersOfSet e r.set) 3 s2 else s2
/-- A window in progress has not been closed. -/
def windowsOpen (s : State) : Bool := s.boe.sets.any (fun v => v.active && v.length != 0)
/-- The window of a set reaches L samples, or is closed as a partial one where integration ends (R285), be it empty. Its
energy is added, and the next one opens. DEDUCED, log entries 90 and 91. -/
def closeWindow (d : WindowData) (s : State) : State :=
  match elecMetro s with
  | none => s
  | some e =>
    let v := voltSet s d.set
    let whole := d.samples == v.length
    if !v.active || v.length = 0 || !(if v.running then whole && boeRuns s else decide (d.samples ≤ v.length)) then s
    else if d.samples = 0 then updSet d.set (fun x => { x with length := 0 }) s
    else
      let cfgErrs := d.errors.filter (fun x => x.kind < 3)
      let mem := ((d.errors.find? (fun x => decide (3 ≤ x.kind))).map BoeError.addr).or v.badAnalysis
      let (open_, sf) := if v.reference.isNone then drawFree s else (0, s)
      let s0 := cfgErrs.foldl (fun t x => boeConfigError x t) sf
      let r := windowResult s0 e d mem.isNone (mem.getD 0) open_
      let meters := e.meters.filter (fun m => m.voltageSet == d.set)
      let s1 := windowFlags e r (meters.foldl (fun t m => addEnergy e d r m t) s0)
      let ref := (List.range 3).find? (fun i => (voltCfg e (3 * d.set + i)).used && !(r.volts.getD i {}).below)
      let sc := { s1 with boe := { s1.boe with closed := s1.boe.closed ++ [r] } }
      let s2 := if v.running then calWindow e v.openedAt r sc else sc
      let s3 := match mem with
        | some x => emit 0x0B07 d.set (lo32 x) 0 (setF F.BOE.STATUS_MEMORY_ERROR 1 s2)
        | none => s2
      updSet d.set (fun x => { x with
        length := if x.running then nextLength e r.freq else 0, reference := ref, openedAt := s.clap.cycles, badAnalysis := none }) s3

/-- The records of one voltage channel's results (R286). -/
def voltConditions (e : ElecMetro) (k i : Nat) (x : ChannelResult) (s : State) : State :=
  let c := 3 * k + i
  if !(voltCfg e c).used then s
  else
    let s1 := if x.full then emit 0x0B02 c x.peak k (setF F.BOE.STATUS_OVERLOAD 1 s) else s
    let was := s1.boe.lost.contains c
    if x.below && !was then
      emit 0x0B03 k c (f64to32 x.rms).toNat { s1 with boe := { s1.boe with lost := s1.boe.lost ++ [c] } }
    else if !x.below && was then
      emit 0x0B04 k c (f64to32 x.rms).toNat { s1 with boe := { s1.boe with lost := s1.boe.lost.filter (fun y => y != c) } }
    else s1
/-- The records of a current channel's results. -/
def currConditions (k : Nat) (x : Nat × ChannelResult) (s : State) : State :=
  if x.2.full then emit 0x0B02 (0x100 + x.1) x.2.peak k (setF F.BOE.STATUS_OVERLOAD 1 s) else s
/-- The records of a window's frequency. -/
def freqConditions (r : WindowResult) (s : State) : State :=
  if r.freqRange then
    if s.boe.rangeSets.contains r.set then s
    else emit 0x0B05 r.set (f64to32 r.freq).toNat 0 { s with boe := { s.boe with rangeSets := s.boe.rangeSets ++ [r.set] } }
  else { s with boe := { s.boe with rangeSets := s.boe.rangeSets.filter (fun k => k != r.set) } }

/-- Errors that BOE meets in the processing of a window (R287): the window without its analysis results where they lie in the
analysis memory. Its reactive energy stands as it was added at the close. DEDUCED, log entries 91 and 93. -/
def processErrors (errors : List BoeError) (r : WindowResult) (s : State) : WindowResult × State :=
  let s1 := (errors.filter (fun x => x.kind < 3)).foldl (fun t x => boeConfigError x t) s
  match errors.find? (fun x => decide (3 ≤ x.kind)) with
  | some x => ({ r with analysis := false, analysisAddr := x.addr },
      emit 0x0B07 r.set (lo32 x.addr) 0 (setF F.BOE.STATUS_MEMORY_ERROR 1 s1))
  | none => (r, s1)
/-- WINDOW_PROCESSED (R275): the oldest closed window's results stand ready for the next tick's post. -/
def execWindowProcessed (errors : List BoeError) (s : State) : Result :=
  match s.boe.closed, elecMetro s with
  | r0 :: rest, some e =>
    let (r, s0) := processErrors errors r0 s
    let s1 := { s0 with boe := { s0.boe with closed := rest, ready := s0.boe.ready ++ [r] } }
    let s2 := (List.range 3).foldl (fun t i => voltConditions e r.set i (r.volts.getD i {}) t) s1
    let s3 := r.currents.foldl (fun t x => currConditions r.set x t) s2
    .next (freqConditions r s3)
  | _, _ => .next s

/-! ### Points and registers (R275, R284, R286, R293) -/

/-- binary64 as the binary32 word of a register or point. -/
def word64 (x : F64) : Nat := (f64to32 x).toNat
/-- A meter's P, Q, S and PF (R277). -/
def meterQuantities (r : WindowResult) (m : MeterCfg) : F64 × F64 × F64 × F64 :=
  let t := m.elements.foldl (fun a c =>
    let x := ((r.currents.find? (fun y => y.1 == c)).map Prod.snd).getD {}
    (f64Add a.1 x.p, f64Add a.2.1 x.q, f64Add a.2.2 x.sApp)) ((0, 0, 0) : F64 × F64 × F64)
  (t.1, t.2.1, t.2.2, if t.2.2 = 0 then 0 else f64Div t.1 t.2.2)
/-- A published value, held with OVERLOAD where its source clipped; analysis results only where they stand. -/
def resultPoint (i stamp : Nat) (full ok : Bool) (v : F64) : List PubPoint :=
  if !ok then [] else [{ index := i, value := f64to32 v, stamp := stamp, conds := if full then 2 ^ condOverload else 0 }]
/-- The points that one window's results give for one METERING entry (R284). -/
def windowPoint11 (s : State) (e : ElecMetro) (r : WindowResult) (p : MeterPoint) : List PubPoint :=
  let volt := fun (f : ChannelResult → F64) (ok : Bool) =>
    if p.object / 3 = r.set then
      let x := r.volts.getD (p.object % 3) {}
      resultPoint p.point r.stamp x.full ok (f x)
    else []
  let curr := fun (f : ChannelResult → F64) (ok : Bool) =>
    match r.currents.find? (fun y => y.1 == p.object) with
    | some x => resultPoint p.point r.stamp (elementOver e r p.object) ok (f x.2)
    | none => []
  let meter := fun (f : MeterCfg → Word) (analysis : Bool) =>
    match e.meters.find? (fun m => m.meter == p.object && m.voltageSet == r.set) with
    | some m =>
      if s.boe.halted.contains m.meter then [{ index := p.point, value := 0, stamp := r.stamp, conds := 2 ^ condSafe }]
      else if !analysis then []
      else [{ index := p.point, value := f m, stamp := r.stamp,
              conds := if m.elements.any (elementOver e r) then 2 ^ condOverload else 0 }]
    | none => []
  match p.quantity with
  | 0x01 => volt ChannelResult.rms true
  | 0x02 => volt ChannelResult.fund r.analysis
  | 0x03 => volt ChannelResult.thd r.analysis
  | 0x04 => volt (fun x => x.mags.getD p.order 0) r.analysis
  | 0x05 => volt (fun x => x.phases.getD p.order 0) r.analysis
  | 0x06 =>
    if p.object ≠ r.set then []
    else if r.reference.isNone then [{ index := p.point, value := 0, stamp := r.stamp, conds := 2 ^ condAbsent }]
    else resultPoint p.point r.stamp false true r.freq
  | 0x10 => curr ChannelResult.rms true
  | 0x11 => curr ChannelResult.fund r.analysis
  | 0x12 => curr ChannelResult.thd r.analysis
  | 0x13 => curr (fun x => x.mags.getD p.order 0) r.analysis
  | 0x14 => curr (fun x => x.phases.getD p.order 0) r.analysis
  | 0x15 => curr ChannelResult.p true
  | 0x16 => curr ChannelResult.q r.analysis
  | 0x17 => curr ChannelResult.sApp true
  | 0x18 => curr ChannelResult.pf true
  | 0x19 => curr ChannelResult.pFund r.analysis
  | 0x20 => meter (fun m => f64to32 (meterQuantities r m).1) true
  | 0x21 => meter (fun m => f64to32 (meterQuantities r m).2.1) r.analysis
  | 0x22 => meter (fun m => f64to32 (meterQuantities r m).2.2.1) true
  | 0x23 => meter (fun m => f64to32 (meterQuantities r m).2.2.2) true
  | 0x24 => meter (fun m => BitVec.ofNat 32 ((accumAt s (meterReg m.meter 0)).count / 1000)) true
  | 0x25 => meter (fun m => BitVec.ofNat 32 ((accumAt s (meterReg m.meter 1)).count / 1000)) true
  | _ => []

/-- The registers of one channel's harmonics. -/
def harmonicFields (mag phase : Nat → Field) (x : ChannelResult) : List (Field × Nat) :=
  (List.range 63).flatMap (fun h => [(mag (h + 1), word64 (x.mags.getD (h + 1) 0)), (phase (h + 1), word64 (x.phases.getD (h + 1) 0))])
/-- The registers that a window's results give (R293). -/
def windowFields (s : State) (e : ElecMetro) (r : WindowResult) : List (Field × Nat) :=
  let volts := (List.range 3).flatMap (fun i =>
    let c := 3 * r.set + i
    let x := r.volts.getD i {}
    if !(voltCfg e c).used then []
    else [(F.BOE.V_RMS c, word64 x.rms), (F.BOE.V_STATE_OVERLOAD c, ofBool x.full), (F.BOE.V_STATE_BELOW c, ofBool x.below)] ++
      (if r.analysis then [(F.BOE.V_FUND c, word64 x.fund), (F.BOE.V_THD c, word64 x.thd)] ++
        harmonicFields (F.BOE.V_MAG c) (F.BOE.V_PHASE c) x else []))
  let currs := r.currents.flatMap (fun y =>
    let c := y.1
    let x := y.2
    [(F.BOE.I_RMS c, word64 x.rms), (F.BOE.I_P c, word64 x.p), (F.BOE.I_S c, word64 x.sApp), (F.BOE.I_PF c, word64 x.pf),
      (F.BOE.I_STATE_OVERLOAD c, ofBool x.full), (F.BOE.I_STATE_BELOW c, ofBool x.below)] ++
      (if r.analysis then [(F.BOE.I_FUND c, word64 x.fund), (F.BOE.I_THD c, word64 x.thd), (F.BOE.I_Q c, word64 x.q)] ++
        harmonicFields (F.BOE.I_MAG c) (F.BOE.I_PHASE c) x else []))
  let meters := (e.meters.filter (fun m => m.voltageSet == r.set && !s.boe.halted.contains m.meter)).flatMap (fun m =>
    let q := meterQuantities r m
    [(F.BOE.METER_P m.meter, word64 q.1), (F.BOE.METER_S m.meter, word64 q.2.2.1), (F.BOE.METER_PF m.meter, word64 q.2.2.2)] ++
      (if r.analysis then [(F.BOE.METER_Q m.meter, word64 q.2.1)] else []))
  [(F.BOE.FREQ r.set, word64 r.freq), (F.BOE.SET_STATE_SAMPLES r.set, r.samples),
    (F.BOE.SET_STATE_REFERENCE r.set, r.reference.getD 0), (F.BOE.SET_STATE_FREQ_RANGE r.set, ofBool r.freqRange),
    (F.BOE.SET_STATE_NO_VOLTAGE r.set, ofBool r.reference.isNone)] ++ volts ++ currs ++ meters

/-- BOE's post of a tick: the results of every window whose processing ended before T (R275). -/
def boeTick (s : State) : State :=
  match elecMetro s with
  | none => s
  | some e =>
    if !unitRuns s 11 then s
    else
      let pts := ((elecMeter s).map MeterPart.points).getD []
      let fromWindows := s.boe.ready.flatMap (fun r => pts.flatMap (fun p => windowPoint11 s e r p))
      let entry : StagedEntry := { unit := 11, due := s.tick.number, points := fromWindows ++ s.boe.readyPoints,
                                   fields := s.boe.ready.flatMap (fun r => windowFields s e r) ++ s.boe.readyFields }
      { s with boe := { s.boe with ready := [], readyPoints := [], readyFields := [] },
               tick := { s.tick with outbox := s.tick.outbox ++ [entry] } }

/-- The Curtain after a CAL_START: windows that start from now on count (R291). -/
def boeCurtain (s : State) : State :=
  match s.boe.cal with
  | some c => if c.fromCycle.isNone then { s with boe := { s.boe with cal := some { c with fromCycle := some s.clap.cycles } } } else s
  | none => s

/-! ### Interval records (R282, R283) -/

/-- Close one meter's interval against the counts of the boundary. DEDUCED, log entry 92. -/
def closeMeterInterval (stamp : Nat) (counts : Table Accum) (m : Nat) (s : State) : State :=
  let x := meterInterval s m
  let now := (List.range 6).map (fun r => (tableGet {} counts (meterReg m r)).count)
  let deltas := (List.range 6).map (fun r => now.getD r 0 - x.counts.getD r 0)
  let quality := stampQuality x.startStamp ≠ 0 || stampQuality stamp ≠ 0
  let flags := x.flags + (if quality && bitOf x.flags 7 = 0 then 128 else 0)
  let words := [1 + m * 2 ^ 16 + flags * 2 ^ 24, x.seq] ++ words64 ([x.startStamp, stamp] ++ deltas ++ [now.getD 0 0, now.getD 1 0, 0])
  let ns : Nat := s.tick.startNs - x.startNs
  let demand := fun (r : Nat) =>
    f64Div (f64Mul (f64OfInt (deltas.getD r 0)) (f64OfRatio 36 10)) (f64Div (f64OfInt ns) (f64OfInt 1000000000))
  let pts := ((elecMeter s).map MeterPart.points).getD []
  let out := pts.flatMap (fun p =>
    if p.object ≠ m then []
    else if (p.quantity = 0x26 || p.quantity = 0x27) && s.boe.halted.contains m then
      [{ index := p.point, value := 0, stamp := stamp, conds := 2 ^ condSafe }]
    else if p.quantity = 0x26 then resultPoint p.point stamp false true (demand 0)
    else if p.quantity = 0x27 then resultPoint p.point stamp false true (demand 1) else [])
  let keep := (if bitOf x.flags 4 = 1 then 16 else 0) + (if bitOf x.flags 6 = 1 && !flag s F.BOE.STATUS_INTEGRATING then 64 else 0)
  let s1 := { s with boe := { s.boe with
    intervals := tablePut {} s.boe.intervals m { startStamp := stamp, startNs := s.tick.startNs, counts := now, flags := keep, seq := x.seq + 1 }
    readyPoints := s.boe.readyPoints ++ out
    readyFields := s.boe.readyFields ++ [(F.BOE.DEMAND_IMPORT m, word64 (demand 0)), (F.BOE.DEMAND_EXPORT m, word64 (demand 1)),
      (F.BOE.INTERVAL_SEQ m, x.seq)] } }
  if ((elecMeter s).map MeterPart.export_).getD false then stageEntry 5 1 96 stamp words s1 else s1

/-- DEMAND_INTERVAL_CLOSE (R282): at a tick start on an interval boundary, one record per meter. -/
def execDemandIntervalClose (s : State) : Result :=
  .next (match elecMetro s, elecMeter s, s.bat.boundary with
    | some e, some p, some (n, stamp, counts, _) =>
      let fresh := e.meters.any (fun m => (meterInterval s m.meter).startStamp != stamp)
      if n = s.tick.number && minuteBoundary s p.intervalMin && fresh && inState s .live then
        e.meters.foldl (fun t m => closeMeterInterval stamp counts m.meter t) s
      else s
    | _, _, _ => s)

/-! ### Start and stop (R285, R288) -/

/-- The first windows and intervals at T(0) of go-live. `stamp` is that of T(0). -/
def boeGoLive (stamp : Nat) (s : State) : State :=
  match elecMetro s with
  | none => { s with boe := {} }
  | some e =>
    if accumLost s || !unitRuns s 11 then { s with boe := {} }
    else
      let l := nextLength e (f64OfInt e.nominalHz)
      let sets := (List.range 4).map (fun k =>
        let used := e.meters.any (fun m => m.voltageSet == k)
        ({ active := used, running := used, length := if used then l else 0, openedAt := s.clap.cycles } : VoltageSet))
      let iv := e.meters.foldl (fun t m =>
        tablePut {} t m.meter { startStamp := stamp, startNs := s.tick.startNs, counts := (List.range 6).map (fun r => (accumAt s (meterReg m.meter r)).count), flags := 1 })
        ([] : Table Interval)
      let count := ((elecMeter s).map MeterPart.points).getD []
      let ev := count.flatMap (fun p =>
        if p.quantity = 0x28 then [{ index := p.point, value := BitVec.ofNat 32 (getF s F.BOE.METRO_EVENT_COUNT), stamp := stamp }] else [])
      setF F.BOE.STATUS_INTEGRATING 1 { s with boe := { sets := sets, intervals := iv, readyPoints := ev } }
/-- Clear the CAL registers. -/
def clearCal (s : State) : State :=
  (List.range 48).foldl (fun t c => setF (F.BOE.CAL_V_RMS c) 0 (setF (F.BOE.CAL_I_RMS c) 0 (setF (F.BOE.CAL_P c) 0
    (setF (F.BOE.CAL_Q c) 0 t)))) s
/-- A calibration run ends before its windows are complete (R291). The final result of its CAL_START is a free value: the
manual gives none. DEDUCED, log entry 93. -/
def abortCal (s : State) : State :=
  match s.boe.cal with
  | none => s
  | some r =>
    let (v, t) := drawFree s
    commandDone 11 1 none (v.toNat % 256) 0 (emit 0x0B08 r.meter r.done 1 (clearCal (setF F.BOE.STATUS_CAL_BUSY 0
      (setF F.BOE.CAL_STATE_STATE 3 { t with boe := { t.boe with cal := none } }))))
/-- Integration ends: windows in progress are to be closed as partial ones (R285), a calibration run ends with it, and no
meter is shown HALTED any more (R287); a halted meter's partial window still adds nothing. DEDUCED, log entry 91. -/
def boeStop (s : State) : State :=
  let sets := s.boe.sets.map (fun x => { x with running := false })
  let s1 := s.boe.halted.foldl (fun t m => setF (F.BOE.METER_STATE_HALTED m) 0 t) s
  setF F.BOE.STATUS_INTEGRATING 0 (abortCal { s1 with boe := { s1.boe with sets := sets } })
/-- CLK_AFE stops (R288). -/
def boeClockStop (s : State) : State :=
  if !flag s F.BOE.STATUS_INTEGRATING then s
  else
    let active := (List.range 4).filter (fun k => (voltSet s k).active)
    let ms := ((elecMetro s).map ElecMetro.meters).getD []
    emit 0x0B09 ((active.map (fun k => 2 ^ k)).sum) 0 0
      (flagMeters (ms.map MeterCfg.meter) 6 (setF F.BOE.STATUS_INTEGRATING 0 s))

/-! ### Commands (R291) -/

/-- The CAL_START command. -/
def cmdCalStart (c : Caller) (m n : Nat) (s : State) : State × Reply :=
  runCommand 11 0x01 c m (some [roleMetrologist]) (inState s .live) (fun t =>
    if !(((elecMetro t).map ElecMetro.meters).getD []).any (fun x => x.meter == m) || n = 0 || n > 1024 then .error resBadArgument
    else if t.boe.cal.isSome then .error resBusy
    else .ok (setF F.BOE.STATUS_CAL_BUSY 1 (setF F.BOE.CAL_STATE_STATE 1 (setF F.BOE.CAL_STATE_METER m
      (setF F.BOE.CAL_STATE_WINDOWS 0 { t with boe := { t.boe with cal := some { meter := m, windows := n } } }))), resPending, 0)) s
/-- CAL_START (R291). -/
def execCalStart (c : Caller) (a0 a1 : Nat) (s : State) : Result := .next (cmdCalStart c a0 a1 s).1

/-- The CAL_ABORT command. DESIGN CHOICE, log entry 19. -/
def cmdCalAbort (c : Caller) (a0 : Nat) (s : State) : State × Reply :=
  runCommand 11 0x02 { c with spare := a0 :: c.spare } a0 (some [roleMetrologist]) (inState s .live) (fun t =>
    if t.boe.cal.isNone then .error resIllegal else .ok (abortCal t, resOk, 0)) s
/-- CAL_ABORT (R291). -/
def execCalAbort (c : Caller) (a0 : Nat) (s : State) : Result := .next (cmdCalAbort c a0 s).1

/-- CAL_DONE (R291): the run's windows are complete; the means stand in the CAL registers. -/
def execCalDone (s : State) : Result :=
  .next (match s.boe.cal with
    | some c =>
      if c.done < c.windows then s
      else
        let n := f64OfInt c.windows
        let s1 := c.sums.foldl (fun t x =>
          setF (F.BOE.CAL_V_RMS x.1) (word64 (f64Div x.2.1 n)) (setF (F.BOE.CAL_I_RMS x.1) (word64 (f64Div x.2.2.1 n))
            (setF (F.BOE.CAL_P x.1) (word64 (f64Div x.2.2.2.1 n)) (setF (F.BOE.CAL_Q x.1) (word64 (f64Div x.2.2.2.2 n)) t)))) s
        commandDone 11 1 none resOk 0 (emit 0x0B08 c.meter c.windows 0 (setF F.BOE.STATUS_CAL_BUSY 0
          (setF F.BOE.CAL_STATE_STATE 2 { s1 with boe := { s1.boe with cal := none } })))
    | none => s)

/-- Commands of BOE by opcode. -/
def boeCommand (op : Nat) (c : Caller) (a0 a1 : Nat) (s : State) : State × Reply :=
  match op with
  | 1 => cmdCalStart c a0 a1 s
  | 2 => cmdCalAbort { c with spare := [a1] } a0 s
  | _ => refuseOpcode 11 op c a0 s

end Sys2Proof.Machine
end

