-- ==== Sys2Proof/Machine/Physics.lean ====
section
/-! DEFINITION. Physical formulas that the manual takes from standards: the Callendar–Van Dusen equation of IEC 60751 (R131)
and region 1 of IAPWS-IF97 (R299). They are computed on exact ratios of integers and rounded once to binary64; their
coefficients are those of the standards. -/

namespace Sys2Proof.Machine

open Sys2Proof

/-- A finite binary64 as a ratio of integers; 0 for a NaN or an infinity. -/
def ratioOf (x : F64) : Int × Nat :=
  match f64v x with
  | .fin neg m e =>
    let n : Int := (m * 2 ^ e.toNat : Nat)
    (if neg then -n else n, 2 ^ (-e).toNat)
  | _ => (0, 1)
/-- A ratio of two integers rounded once to binary64. -/
def f64OfQuotient (n d : Int) : F64 := f64 (fvDiv (fvOfInt n) (fvOfInt d))

/-! ### The temperature of an RTD (R131) -/

/-- R(t) ÷ R₀ at t = n ÷ 2⁶⁰ °C, times 10¹⁵ × 2²⁴⁰: 1 + A t + B t², and below 0 °C also C (t − 100) t³. -/
def rtdRatio (n : Int) : Int :=
  let cubic := if n < 0 then -4183 * (n - 100 * 2 ^ 60) * n ^ 3 else 0
  10 ^ 15 * 2 ^ 240 + 3908300000000 * n * 2 ^ 180 - 577500000 * n ^ 2 * 2 ^ 120 + cubic
/-- The last n of an interval of length 2^fuel at which R(t) does not exceed a ratio. -/
def rtdSearch (num : Int) (den : Nat) : Nat → Int → Int
  | 0, lo => lo
  | fuel + 1, lo =>
    let mid := lo + 2 ^ fuel
    if rtdRatio mid * den ≤ num * 10 ^ 15 * 2 ^ 240 then rtdSearch num den fuel mid else rtdSearch num den fuel lo
/-- The temperature of a resistance in ohms, to 2⁻⁶⁰ °C and then to the nearest binary64. PRESUMED, log entry 4. -/
def rtdTemperature (ohms : F64) (nominal : Nat) : F64 :=
  let (n, d) := ratioOf ohms
  let t := rtdSearch n (d * nominal) 71 (-(300 * 2 ^ 60))
  let exact := rtdRatio t * (d * nominal : Nat) == n * 10 ^ 15 * 2 ^ 240
  let v := 2 * t + (if exact then 0 else 1)
  f64 (.fin (decide (v < 0)) v.natAbs (-61))

/-! ### Water (R299) -/

/-- The terms of region 1: I, J, and n as a whole number of 10⁻³⁹ with its trailing zeros apart. PRESUMED, log entry 4. -/
def waterTerms : List (Nat × Int × Int × Nat) :=
  [(0, -2, 14632971213167, 25), (0, -1, -84548187169114, 25), (0, 0, -3756360367204, 27), (0, 1, 33855169168385, 26),
    (0, 2, -95791963387872, 25), (0, 3, 15772038513228, 25), (0, 4, -16616417199501, 24), (0, 5, 81214629983568, 22),
    (1, -9, 28319080123804, 22), (1, -7, -60706301565874, 22), (1, -1, -18990068218419, 24),
    (1, 0, -32529748770505, 24), (1, 1, -21841717175414, 24), (1, 3, -5283835796993, 22),
    (2, -3, -47184321073267, 22), (2, 0, -30001780793026, 22), (2, 1, 47661393906987, 21)] ++
  [(2, 3, -44141845330846, 20), (2, 17, -72694996297594, 10), (3, -4, -31679644845054, 21),
    (3, 0, -28270797985312, 20), (3, 6, -85205128120103, 16), (4, -5, -22425281908, 23),
    (4, -2, -65171222895601, 19), (4, 10, -14341729937924, 13), (5, -8, -40516996860117, 19),
    (8, -11, -12734301741641, 17), (8, -6, -17424871230634, 16), (21, -29, -68762131295531, 7),
    (23, -31, 14478307828521, 6), (29, -38, 26335781662795, 3), (30, -39, -11947622640071, 3),
    (31, -40, 18228094581404, 2), (32, -41, -93537087292458, 0)]
/-- 7.1 − π and τ − 1.222 as ratios, and T, for a pressure in MPa and a temperature in °C. -/
structure WaterPoint where
  an : Int
  ad : Int
  bn : Int
  bd : Int
  tn : Int
  td : Int
/-- The ratios of a pressure and a temperature. -/
def waterPoint (p t : F64) : WaterPoint :=
  let (pn, pd) := ratioOf p
  let (hn, hd) := ratioOf t
  let tn := 100 * hn + 27315 * hd
  let td : Int := 100 * hd
  { an := 117363 * pd - 1000 * pn, ad := 16530 * pd, bn := 1386000 * td - 1222 * tn, bd := 1000 * tn, tn := tn, td := td }
/-- Σ n w(I, J) (7.1 − π)^(I − i) (τ − 1.222)^J over common powers; `i` is 1 for the derivative by π. -/
def waterSum (x : WaterPoint) (i : Nat) (weight : Nat → Int → Int) : Int :=
  (waterTerms.map (fun e => weight e.1 e.2.1 * e.2.2.1 * 10 ^ e.2.2.2 * x.an ^ (e.1 - i) * x.ad ^ (32 - e.1) *
    x.bn ^ (41 + e.2.1).toNat * x.bd ^ (17 - e.2.1).toNat)).foldl (· + ·) 0
/-- ρ in kg/m³: 1 ÷ v with v = π γ_π R T ÷ p. PRESUMED, log entry 4. -/
def waterDensity (p t : F64) : F64 :=
  let x := waterPoint p t
  let s := waterSum x 1 (fun i _ => -(i : Int))
  f64OfQuotient (16530 * 10 ^ 45 * x.ad ^ 31 * x.bn ^ 41 * x.bd ^ 17 * x.td) (s * 461526 * x.tn)
/-- h in kJ/kg: τ γ_τ R T. PRESUMED, log entry 4. -/
def waterEnthalpy (p t : F64) : F64 :=
  let x := waterPoint p t
  let s := waterSum x 0 (fun _ j => j)
  f64OfQuotient (1386 * 461526 * s) (10 ^ 45 * x.ad ^ 32 * x.bn ^ 42 * x.bd ^ 16)

/-! ### Linear interpolation (R149) -/

/-- Between (x0, y0) and (x1, y1), in the order of roundings that Config leaves open: by the product first, by the slope, by
the fraction of the segment, or rounded once at the end. DESIGN CHOICE, log entry 5. -/
def interpolate (x0 y0 x1 y1 a : F64) : F64 :=
  let dx := f64Sub x1 x0
  let dy := f64Sub y1 y0
  let da := f64Sub a x0
  match Config.interpolationOrder % 4 with
  | 0 => f64Add y0 (f64Div (f64Mul da dy) dx)
  | 1 => f64Add y0 (f64Mul da (f64Div dy dx))
  | 2 => f64Add y0 (f64Mul (f64Div da dx) dy)
  | _ =>
    let v := fvAdd (fvMul (f64v y0) (fvAdd (f64v x1) (fvNeg (f64v a)))) (fvMul (f64v y1) (fvAdd (f64v a) (fvNeg (f64v x0))))
    f64 (fvDiv v (fvAdd (f64v x1) (fvNeg (f64v x0))))

end Sys2Proof.Machine
end

