-- ==== Sys2Proof/Machine/Lio.lean ====
section
/-! DEFINITION. The wired front ends: analog, RTD, digital and pulse channels (R128 to R136). -/

namespace Sys2Proof.Machine

open Sys2Proof

/-- The LOCAL_IO entry of LIO channel `n` (R134). -/
def lioCh (s : State) (n : Nat) : LioChannel := (s.cfg.localIo.getD []).getD n {}
/-- LIO samples and drives: powered, clocked, and configured. -/
def lioRuns (s : State) : Bool := unitRuns s 5 && flag s F.LIO.STATUS_RUNNING

/-- A front end's fault report on LIO channel `n`: its bit, and its record at the start or with another reason (R136, R137).
DEDUCED, log entry 66. -/
def channelFault (f : Field) (bit n code : Nat) (raw : Nat) (s : State) : State :=
  if bitF s f bit && tableGet 0 s.lio.reason n == code then s
  else emit 0x0501 n code raw (setBit f bit true { s with lio := { s.lio with reason := tablePut 0 s.lio.reason n code } })
/-- The end of a front end's fault, recorded with the reason that it had last. -/
def channelClear (f : Field) (bit n : Nat) (s : State) : State :=
  if bitF s f bit then
    emit 0x0502 n (tableGet 0 s.lio.reason n) 0
      (setBit f bit false { s with lio := { s.lio with reason := tablePut 0 s.lio.reason n 0 } })
  else s

/-- raw × SCALE + OFFSET in binary64, rounded once to binary32 (R129, R131). -/
def engineering (c : LioChannel) (raw : F64) : F32 :=
  f64to32 (f64Add (f64Mul raw (f32to64 c.scale)) (f32to64 c.offset))

/-! ### The pair (R423, R425) -/

/-- Log a wired sample of channel `n` for the mirror, or keep it for the divergence check. -/
def keepWired (n reason : Nat) (v : Word) (stamp : Nat) (s : State) : State :=
  if role s = 2 then { s with spot := { s.spot with lioOwn := tablePut none s.spot.lioOwn n (some (reason, v)) } }
  else if role s = 1 then
    { s with spot := { s.spot with
      lioMirror := s.spot.lioMirror ++ [{ channel := n, reason := reason, value := v, stamp := stamp }] } }
  else s
/-- A wired sample of channel `n` for its point. On a Stand-in the Lead's sample takes its place (R425). -/
def wiredSample (n i : Nat) (v : Word) (stamp : Nat) (s : State) : State :=
  let s1 := keepWired n 0 v stamp s
  if role s = 2 then s1 else sampleIn 5 i v stamp s1
/-- A wired channel's fault for its point. -/
def wiredFault (n i code : Nat) (s : State) : State :=
  let s1 := keepWired n code 0 (nowStamp s) s
  if role s = 2 then s1 else frontFault 5 i code s1
/-- The Lead's sample differs from the Stand-in's own beyond the limits of R425: 0.2 % of range, 0.5 °C, or a
different digital or pulse state. -/
def wiredDiffers (n : Nat) (lead own : Nat × Word) (s : State) : Bool :=
  let c := lioCh s n
  let scale := f64Abs (f32to64 c.scale)
  let gap := f64Abs (f64Sub (f32to64 lead.2) (f32to64 own.2))
  if lead.1 ≠ own.1 then true
  else if n < 32 then f64Lt (f64Mul scale (f64OfRatio 1 25)) gap
  else if n < 112 then f64Lt (f64Mul scale (f64OfRatio 1 2)) gap
  else lead.2 != own.2
/-- A sample of the Lead's delta: the divergence check, and the point (R425). -/
def mirrorSample (x : LioSample) (s : State) : State :=
  let i := (lioCh s x.channel).point
  let s1 := match tableGet none s.spot.lioOwn x.channel with
    | some own =>
      if wiredDiffers x.channel (x.reason, x.value) own s then
        emit 0x1208 x.channel x.value.toNat own.2.toNat (bumpF F.SPOT.LIO_DIVERGE_COUNT 1 s)
      else s
    | none => s
  let s2 := { s1 with spot := { s1.spot with lioOwn := tablePut none s1.spot.lioOwn x.channel none } }
  if x.reason = 0 then sampleIn 5 i x.value x.stamp s2 else frontFault 5 i x.reason s2

/-! ### Analog inputs (R129) -/

/-- An analog input's sample gives OVERLOAD: a voltage beyond ±10.5 V, a current above 22 mA, or an open shunt. -/
def overload (mode : Nat) (shunt : Bool) (raw : F64) : Bool :=
  if mode = 1 then f64Lt (f64OfRatio 21 2) (f64Abs raw) else shunt || f64Lt (f64OfInt 22) raw
/-- The instant at which LIO samples for the next tick start: T − 40 µs (R129). -/
def analogInstant (s : State) : Nat := s.tick.startNs + 85000
/-- One analog input's sample. DEDUCED, log entry 66. -/
def analogSample (c : Nat) (raw : F64) (s : State) : State :=
  let ch := lioCh s c
  if ch.mode = 0 then s
  else if overload ch.mode (tableGet none s.lio.shuntOpen c).isSome raw then
    wiredFault c ch.point condOverload (channelFault F.LIO.AI_FAULT c c condOverload (f64to32 raw).toNat s)
  else wiredSample c ch.point (engineering ch raw) (stampAt s (analogInstant s)) (channelClear F.LIO.AI_FAULT c c s)

/-- ANALOG_INPUT_SAMPLE (R129): all enabled analog inputs at T − 40 µs, T being the next tick start; `raws` in volts or
milliamperes. -/
def execAnalogInputSample (raws : List F64) (s : State) : Result :=
  .next (if lioRuns s then (List.range 32).foldl (fun t c => analogSample c (raws.getD c 0) t) (elapseTo 42500 s) else s)

/-- SHUNT_OPEN (R128): a current-mode input above 30 mA. -/
def execShuntOpen (c : Nat) (s : State) : Result :=
  .next (if c < 32 && (lioCh s c).mode == 2 && (tableGet none s.lio.shuntOpen c).isNone then
      { s with lio := { s.lio with shuntOpen := tablePut none s.lio.shuntOpen c (some s.tick.number) } }
    else s)
/-- SHUNT_RECLOSE (R128): after 1,000 ticks. -/
def execShuntReclose (c : Nat) (s : State) : Result :=
  .next (match tableGet none s.lio.shuntOpen c with
    | some t => if s.tick.number ≥ t + 1000 then
        { s with lio := { s.lio with shuntOpen := tablePut none s.lio.shuntOpen c none } } else s
    | none => s)

/-! ### RTD inputs (R131) -/

/-- The nominal resistance of an RTD mode. -/
def rtdNominal (mode : Nat) : Nat := if mode = 1 then 100 else if mode = 2 then 500 else 1000
/-- The middle of the slot of input `k` that ended last (R131): slots of 1,562.5 µs, one round in 800 ticks. DEDUCED, log entry 64. -/
def rtdMiddle (s : State) (k : Nat) : Nat :=
  let base := s.tick.startNs - (s.tick.number % 800) * 125000
  if base + (k + 1) * 1562500 > nowNs s 1 then base + k * 1562500 + 781250 - 100000000 else base + k * 1562500 + 781250
/-- Keep a conversion for BOT: its value, its stamp and the count of Local at the middle of its slot. -/
def keepRtd (k : Nat) (v : Option (Word × Nat × Nat)) (fault : Bool) (s : State) : State :=
  { s with lio := { s.lio with rtd := tablePut none s.lio.rtd k v, rtdFault := tablePut false s.lio.rtdFault k fault } }

/-- RTD_CONVERSION (R131): input `k` read `ohms`, or has a broken sense lead. -/
def rtdConversion (k : Nat) (ohms : F64) (broken : Bool) (s : State) : State :=
  let ch := lioCh s (48 + k)
  if !lioRuns s || k ≥ 64 || ch.mode = 0 then s
  else
    let r := rtdNominal ch.mode
    let f := if k < 32 then F.LIO.RTD_FAULT_LO else F.LIO.RTD_FAULT_HI
    let raw := (f64to32 ohms).toNat
    if broken || f64Lt (f64OfInt (4 * r)) ohms then
      keepRtd k none true (wiredFault (48 + k) ch.point condOpenWire (channelFault f (k % 32) (48 + k) condOpenWire raw s))
    else if f64Lt ohms (f64OfRatio (6 * r) 10) then
      keepRtd k none true (wiredFault (48 + k) ch.point condShort (channelFault f (k % 32) (48 + k) condShort raw s))
    else
      let stamp := stampAt s (rtdMiddle s k)
      let v := engineering ch (rtdTemperature ohms r)
      keepRtd k (some (v, stamp, rtdMiddle s k)) false
        (wiredSample (48 + k) ch.point v stamp (channelClear f (k % 32) (48 + k) s))

/-! ### Digital and pulse inputs (R132, R133) -/

/-- Bit of a digital channel in DI_STATE or DO_FAULT. -/
def diField (c : Nat) : Field := if c < 32 then F.LIO.DI_STATE_LO else F.LIO.DI_STATE_HI
/-- See diField. -/
def doField (c : Nat) : Field := if c < 32 then F.LIO.DO_FAULT_LO else F.LIO.DO_FAULT_HI
/-- Write a digital input's debounced state to its point, stamped at the qualifying instant less DEBOUNCE_US, or at the start
of Local where the state qualified before that (R132). -/
def writeDigital (c : Nat) (s : State) : State :=
  let v : Word := BitVec.ofNat 32 (ofBool (bitF s (diField c) (c % 32)))
  wiredSample (112 + c) (lioCh s (112 + c)).point v (stampAt s ((tableGet none s.lio.diSince c).getD s.clap.localStart)) s

/-- DIGITAL_INPUT_CHANGE (R132): digital channel `c` has held `level` for DEBOUNCE_US. -/
def execDigitalInputChange (c : Nat) (level : Bool) (s : State) : Result :=
  let ch := lioCh s (112 + c)
  .next (if unitRuns s 5 && c < 64 && ch.mode == 1 && bitF s (diField c) (c % 32) != level then
      let since := if flag s F.CLAP.STATUS_LOCAL_RUNNING then some (nowNs s 1 - ch.debounceUs * 1000) else none
      let s1 := setBit (diField c) (c % 32) level { s with lio := { s.lio with diSince := tablePut none s.lio.diSince c since } }
      if lioRuns s then writeDigital c s1 else s1
    else s)

/-- In the first tick LIO writes each enabled digital input once (R132). -/
def digitalFirst (s : State) : State :=
  if !lioRuns s then s
  else (List.range 64).foldl (fun t c => if (lioCh t (112 + c)).mode = 1 then writeDigital c t else t) s
/-- At go-live no pulse transfer is overdue: its time counts from then (R133). -/
def pulseGoLive (s : State) : State :=
  let at_ := fun (v : Nat) => (List.range 32).foldl (fun (t : Table Nat) c => tablePut 0 t c v) []
  { s with lio := { s.lio with pulseNs := at_ (nowNs s 1), pulseTick := at_ s.tick.number } }

/-- PULSE_EDGE (R133): a qualified rising edge counts, modulo 2³². -/
def execPulseEdge (c : Nat) (s : State) : Result :=
  .next (if unitRuns s 5 && c < 32 && (lioCh s (176 + c)).mode == 1 then
      setF (F.LIO.PULSE_COUNT c) (getF s (F.LIO.PULSE_COUNT c) + 1) s
    else s)

/-- One channel's transfer (R133). After more than 2³¹ ÷ 10,000 s of stall the transfer leaves CROSSING_STALL set,
and the next one clears it. DEDUCED, log entry 65. -/
def pulseTransfer (c : Nat) (s : State) : State :=
  let ch := lioCh s (176 + c)
  if ch.mode = 0 then s
  else
    let count := getF s (F.LIO.PULSE_COUNT c)
    let delta := (count + 2 ^ 32 - tableGet 0 s.lio.pulseLast c) % 2 ^ 32
    let p := livePoint s ch.point
    let stalled := hasCond (pointCond s ch.point).conds condCrossing
    let long := decide (nowNs s 1 > tableGet 0 s.lio.pulseNs c + 214748 * 1000000000)
    let s1 := wiredSample (176 + c) ch.point (p.value + BitVec.ofNat 32 delta) (nowStamp s) s
    let s2 := if stalled && long then crossingStall ch.point true s1 else s1
    { s2 with lio := { s2.lio with
        pulseLast := tablePut 0 s2.lio.pulseLast c count
        pulseNs := tablePut 0 s2.lio.pulseNs c (nowNs s 1)
        pulseTick := tablePut 0 s2.lio.pulseTick c s.tick.number } }

/-- PULSE_TRANSFER (R133): at each T; it holds while CLK_IO stands still. -/
def execPulseTransfer (s : State) : Result :=
  .next (if lioRuns s then (List.range 32).foldl (fun t c => pulseTransfer c t) s else s)

/-! ### Outputs (R30, R130) -/

/-- The top of an analog output's range (R128): 20.5 mA or 10.25 V. DEDUCED, log entry 63. -/
def aoTop (mode : Nat) : F64 := if mode = 1 then f64OfRatio 41 2 else f64OfRatio 41 4
/-- (VALUE − OFFSET) ÷ SCALE, clamped to the range; `none` for a NaN (R130). DEDUCED, log entry 63. -/
def aoValue (ch : LioChannel) (v : Word) : Option F64 :=
  if f32Nan v then none
  else
    let x := f64Div (f64Sub (f32to64 v) (f32to64 ch.offset)) (f32to64 ch.scale)
    some (f64Min (f64Max x 0) (aoTop ch.mode))
/-- Drive an analog output from its launch register at T (R130). DEDUCED, log entry 63. -/
def driveAnalog (c : Nat) (s : State) : State :=
  let ch := lioCh s (32 + c)
  match ch.mode, tableGet none s.lio.launch (32 + c) with
  | 0, _ => s
  | _, none => s
  | m, some v =>
    match aoValue ch v with
    | none => s
    | some x => { s with lio := { s.lio with
        aoOut := tablePut 0 s.lio.aoOut c x, aoCode := tablePut 0 s.lio.aoCode c (Config.aoCode m x) } }
/-- A digital output is switched off by R130. -/
def doFaulted (s : State) (c : Nat) : Bool := bitF s (doField c) (c % 32)
/-- The level that a digital output's point asks for. -/
def doAsked (s : State) (c : Nat) : Bool := (tableGet none s.lio.launch (112 + c)).getD 0 != 0
/-- Switch a digital output. -/
def setOutput (c : Nat) (on : Bool) (s : State) : State :=
  { s with lio := { s.lio with doOn := tablePut false s.lio.doOn c on } }
/-- Drive a digital output from its launch register at T; a faulted one stays off (R130). -/
def driveDigital (c : Nat) (s : State) : State :=
  if (lioCh s (112 + c)).mode ≠ 2 || doFaulted s c || (tableGet none s.lio.launch (112 + c)).isNone then s
  else setOutput c (doAsked s c) s
/-- At T, LIO drives each enabled output (R130). -/
def driveOutputs (s : State) : State :=
  if !lioRuns s then s
  else
    let s1 := (List.range 16).foldl (fun t c => driveAnalog c t) s
    (List.range 64).foldl (fun t c => driveDigital c t) s1

/-- The value that an output channel reads from the point window, for its launch register (R30). -/
def launchOutput (n : Nat) (s : State) : State :=
  { s with lio := { s.lio with launch := tablePut none s.lio.launch n (some (windowPoint s (lioCh s n).point).value) } }
/-- LIO's outputs by channel, in channel order. -/
def lioOutputs (s : State) : List Nat :=
  ((List.range 16).map (32 + ·)).filter (fun n => (lioCh s n).mode != 0) ++
    ((List.range 64).map (112 + ·)).filter (fun n => (lioCh s n).mode == 2)
/-- LIO's output move (R30): the first `n` outputs. -/
def moveLioOutputs (n : Nat) (s : State) : State := ((lioOutputs s).take n).foldl (fun t k => launchOutput k t) s

/-- DIGITAL_OUTPUT_OVERCURRENT (R130): above 1.2 A the channel switches off. `raw` is the reading recorded. DEDUCED, log entry 66. -/
def execDigitalOutputOvercurrent (c : Nat) (raw : Word) (s : State) : Result :=
  .next (if lioRuns s && c < 64 && (lioCh s (112 + c)).mode == 2 && tableGet false s.lio.doOn c && !doFaulted s c then
      let s1 := setOutput c false (channelFault (doField c) (c % 32) (112 + c) condShort raw.toNat s)
      { s1 with lio := { s1.lio with
          doFaultAt := tablePut 0 s1.lio.doFaultAt c s.tick.number, doRetries := tablePut 0 s1.lio.doRetries c 0 } }
    else s)

/-- OUTPUT_RETRY (R130): at a 1,000th tick after the switch-off, with the point asking for on; `above` when the
retry draws more than 1.2 A. DEDUCED, log entry 66. -/
def execOutputRetry (c : Nat) (above : Bool) (s : State) : Result :=
  let d := s.tick.number - tableGet 0 s.lio.doFaultAt c
  .next (if lioRuns s && c < 64 && doFaulted s c && doAsked s c && d > 0 && d % 1000 == 0 then
      let n := tableGet 0 s.lio.doRetries c + 1
      let s1 := emit 0x0503 (112 + c) n 0 { s with lio := { s.lio with doRetries := tablePut 0 s.lio.doRetries c n } }
      if above then setOutput c false s1
      else setOutput c true (channelClear (doField c) (c % 32) (112 + c) s1)
    else s)

/-- The reason of an analog output's fault: an open load in current mode, a short in voltage mode (R130). -/
def aoReason (s : State) (c : Nat) : Nat := if (lioCh s (32 + c)).mode = 1 then condOpenWire else condShort
/-- ANALOG_OUTPUT_FAULT (R130): the output keeps driving. `raw` is the reading recorded. -/
def execAnalogOutputFault (c : Nat) (raw : Word) (s : State) : Result :=
  .next (if lioRuns s && c < 16 && (lioCh s (32 + c)).mode != 0 then
      channelFault F.LIO.AO_FAULT c (32 + c) (aoReason s c) raw.toNat s else s)
/-- ANALOG_OUTPUT_FAULT_CLEARED (R136). -/
def execAnalogOutputFaultCleared (c : Nat) (s : State) : Result :=
  .next (if c < 16 then channelClear F.LIO.AO_FAULT c (32 + c) s else s)

/-- De-energise every wired output (R53, R130). -/
def dropOutputs (s : State) : State :=
  { s with lio := { s.lio with aoOut := [], aoCode := [], doOn := [], launch := [] } }

end Sys2Proof.Machine
end

