-- ==== Sys2Proof/Machine/Bot.lean ====
section
/-! DEFINITION. The thermal Box Office: calculators, tariffs, thermal intervals (R295 to R304, R312, R313). -/

namespace Sys2Proof.Machine

open Sys2Proof

/-- The thermal part of METROLOGY, if any. -/
def thermMetro (s : State) : Option ThermMetro := s.cfg.metrology.bind MetrologySec.therm
/-- The thermal part of METERING, if any. -/
def thermMeter (s : State) : Option MeterPart := s.cfg.metering.bind MeteringSec.therm
/-- A calculator's state. -/
def calcState (s : State) (k : Nat) : CalcState := tableGet {} s.bot.calcs k
/-- Store a calculator's state. -/
def putCalc (k : Nat) (x : CalcState) (s : State) : State :=
  { s with bot := { s.bot with calcs := tablePut {} s.bot.calcs k x } }
/-- A calculator's interval. -/
def calcInterval (s : State) (k : Nat) : Interval := tableGet {} s.bot.intervals k
/-- Set a flag bit of a calculator's interval. -/
def flagCalc (k bit : Nat) (s : State) : State :=
  let x := calcInterval s k
  let y : Interval := { x with flags := if bitOf x.flags bit = 1 then x.flags else x.flags + 2 ^ bit }
  { s with bot := { s.bot with intervals := tablePut {} s.bot.intervals k y } }
/-- A calculator is HALTED (R305). -/
def calcHalted (s : State) (k : Nat) : Bool := flag s (F.BOT.CALC_STATE_HALTED k)
/-- Snapshot inputs do not reach BOT: its crossing is stalled (R302, R445). -/
def botStalled (s : State) : Bool := bitF s F.MEM.CROSS_STALL 6 || !clockRuns s 6

/-! ### Inputs (R298, R302) -/

/-- One temperature of a tick: its value, whether it is valid, the reason code if not, its stamp. -/
structure TickTemp where
  value : F64
  valid : Bool
  reason : Nat
  stamp : Nat
deriving DecidableEq, Repr

/-- The temperature of RTD input `r` with its sealed offset; `open_` stands for the temperature of a failed conversion, or of
none since go-live, which is none of the manual's. -/
def tickTemp (s : State) (r : Nat) (offset : F32) (open_ : F64) : TickTemp :=
  match tableGet none s.lio.rtd r with
  | none =>
    let why := tableGet 0 s.lio.reason (48 + r)
    { value := open_, valid := false, stamp := 0, reason := if why = 0 then condInitial else why }
  | some (v, st, ns) =>
    let t := f64Add (f32to64 v) (f32to64 offset)
    let old := decide (s.tick.startNs > ns + 1600 * 125000)
    let out := f64Lt t 0 || f64Lt (f64OfInt 180) t
    { value := t, valid := !old && !out, reason := if old then condTimeout else if out then condOverload else 0, stamp := st }

/-- The tick's volume in litres with its sign, from the snapshot; `none` where the flow point is not valid. -/
def tickVolume (s : State) (c : CalcCfg) (x : CalcState) : Option F64 :=
  let p := snapPoint s c.flowPoint
  if !pointValid p then none
  else if c.flowKind = 2 then
    let q := f32to64 p.value
    some (if f64Lt (f64Abs q) (f32to64 c.flowCutoff) then 0
      else f64Div (f64Mul q (f64OfRatio 125 1000)) (f64OfInt 3600))
  else
    let delta : Word := match x.prevCount with
      | some o => p.value - o
      | none => 0
    let v := f64Mul (f64OfInt delta.toNat) (f32to64 c.volumePerPulse)
    let back := match c.directionPoint with
      | some d => (snapPoint s d).value == 1
      | none => false
    some (if back then f64Neg v else v)

/-! ### Tariff (R301) -/

/-- The tariff of a tick, and whether it is a default. -/
def tickTariff (s : State) (c : CalcCfg) (x : CalcState) (ret : TickTemp) : Nat × Bool :=
  match c.tariffSource, c.tariffPoint with
  | 0, _ => (0, false)
  | 1, some p =>
    let v := snapPoint s p
    if pointValid v && decide (v.value.toNat ≤ 7) then (v.value.toNat, false) else (x.lastTariff, true)
  | 1, none => (x.lastTariff, true)
  | _, _ => (if ret.valid && f64Lt (f32to64 c.returnLimit) ret.value then 1 else 0, false)
/-- Show a tick's tariff. -/
def showTariff (c : CalcCfg) (t : Nat × Bool) (s : State) : State :=
  let k := c.number
  let was := flag s (F.BOT.CALC_STATE_TARIFF_DEFAULTED k)
  let s1 := setF (F.BOT.CALC_STATE_TARIFF k) t.1 (setF (F.BOT.CALC_STATE_TARIFF_DEFAULTED k) (ofBool t.2) s)
  if !t.2 then s1
  else
    let s2 := flagCalc k 4 s1
    let read := (c.tariffPoint.map (fun p => (snapPoint s p).value.toNat)).getD 0
    if was then s2 else emit 0x0C07 k read t.1 s2

/-! ### Errors (R302) -/

/-- Enter, count or leave TEMP_ERROR. -/
def tempCondition (c : CalcCfg) (fwd ret : TickTemp) (s : State) : State :=
  let k := c.number
  let x := calcState s k
  let bad := !fwd.valid || !ret.valid
  if bad then
    let s1 := flagCalc k 1 (setF (F.BOT.CALC_STATE_TEMP_ERROR k) 1 (putCalc k { x with tempRun := x.tempRun + 1 } s))
    if x.tempRun > 0 then s1
    else if !fwd.valid then emit 0x0C02 k c.rtdForward fwd.reason s1 else emit 0x0C02 k c.rtdReturn ret.reason s1
  else if x.tempRun > 0 then
    emit 0x0C03 k x.tempRun 0 (setF (F.BOT.CALC_STATE_TEMP_ERROR k) 0 (putCalc k { x with tempRun := 0 } s))
  else s
/-- Enter, count or leave FLOW_ERROR. -/
def flowCondition (c : CalcCfg) (bad : Bool) (s : State) : State :=
  let k := c.number
  let x := calcState s k
  if bad then
    let s1 := flagCalc k 2 (setF (F.BOT.CALC_STATE_FLOW_ERROR k) 1 (putCalc k { x with flowRun := x.flowRun + 1 } s))
    if x.flowRun > 0 then s1 else emit 0x0C04 k c.flowPoint ((snapPoint s c.flowPoint).quality / 4096 % 16) s1
  else if x.flowRun > 0 then
    emit 0x0C05 k x.flowRun 0 (setF (F.BOT.CALC_STATE_FLOW_ERROR k) 0 (putCalc k { x with flowRun := 0 } s))
  else s
/-- Count an error tick: ERROR_S adds 1 at each 8,000 of them. -/
def countError (k : Nat) (s : State) : State :=
  let x := calcState s k
  let n := x.errorTicks + 1
  let s1 := putCalc k { x with errorTicks := n % 8000 } s
  if n % 8000 = 0 && !s.bat.badRegs.contains (errorReg k) then bumpF (F.BOT.ERROR_S k) 1 s1 else s1

/-! ### Energy and volume (R299, R300, R304) -/

/-- Δh in kJ/kg, and the density at θ_m. DEDUCED, log entry 94. -/
def heatTerms (c : CalcCfg) (f r : F64) : F64 × F64 :=
  let p := f32to64 c.pressure
  (f64Sub (waterEnthalpy p f) (waterEnthalpy p r), waterDensity p (if c.install = 1 then r else f))
/-- E of a tick in Wh (R299). -/
def tickEnergy (v dh rho : F64) : F64 :=
  f64Div (f64Mul (f64Mul (f64Div (f64Abs v) (f64OfInt 1000)) rho) (f64Abs dh)) (f64OfRatio 36 10)
/-- What a tick counts: some true for heat, some false for cold (R295). DEDUCED, log entry 94. -/
def energyKind (c : CalcCfg) (dh f : F64) : Option Bool :=
  let hot := f64Lt 0 dh
  let cold := f64Lt dh 0
  match c.mode with
  | 0 => if hot then some true else none
  | 1 => if cold then some false else none
  | _ =>
    let above := f64Le (f32to64 c.switchTemp) f
    if hot && above then some true else if cold && !above then some false else none
/-- Note the sign of a tick with volume (R300): true for reverse. -/
def noteDirection (c : CalcCfg) (back : Bool) (s : State) : State :=
  let k := c.number
  let x := calcState s k
  let s1 := setF (F.BOT.CALC_STATE_DIRECTION k) (ofBool back) (putCalc k { x with lastSign := some back } s)
  if x.lastSign = some (!back) then
    let p := if c.flowKind = 2 then c.flowPoint else c.directionPoint.getD c.flowPoint
    let st := (snapPoint s p).stamp
    emitAt (stampAt s s.tick.startNs) 0x0C01 [tickLo s, k + 256 * ofBool back, lo32 st, hi32 st]
      (flagCalc k 3 (setF F.BOT.STATUS_REVERSED 1 s1))
  else s1
/-- Add a tick's energy, with the tariff's steps (R304). -/
def addHeat (c : CalcCfg) (heat back : Bool) (tariff : Nat) (e : F64) (s : State) : State :=
  let k := c.number
  let r := if heat then (if back then 1 else 0) else (if back then 3 else 2)
  let i := calcReg k r
  let n := accumStep s i e
  let s1 := addAccum i e s
  let tariffed := if c.mode = 1 then r == 2 else r == 0
  if tariffed then stepCount (calcReg k (6 + tariff)) n s1 else s1

/-- One tick of a calculator (R298 to R302). DEDUCED, log entry 94. -/
def calcTick (c : CalcCfg) (s : State) : State :=
  let k := c.number
  let x := calcState s k
  if calcHalted s k then s
  else if botStalled s then
    flagCalc k 5 (setF (F.BOT.CALC_STATE_INTEGRATION_STOPPED k) 1 (putCalc k { x with missed := x.missed + 1 } s))
  else
    let s0 := if x.missed = 0 then s
      else emit 0x0C08 k x.missed 0 (setF (F.BOT.CALC_STATE_INTEGRATION_STOPPED k) 0 (putCalc k { x with missed := 0 } s))
    let (of_, sf) := if (tableGet none s.lio.rtd c.rtdForward).isNone then drawFree s0 else (0, s0)
    let (or_, sr) := if (tableGet none s.lio.rtd c.rtdReturn).isNone then drawFree sf else (0, sf)
    let fwd := tickTemp s c.rtdForward c.tFwdOffset of_
    let ret := tickTemp s c.rtdReturn c.tRetOffset or_
    let vol := tickVolume s c x
    let tariff := tickTariff s c x ret
    let s1 := flowCondition c vol.isNone (tempCondition c fwd ret (showTariff c tariff sr))
    let s2 := putCalc k { calcState s1 k with lastTariff := tariff.1 } s1
    let ok := fwd.valid && ret.valid
    let s3 := if !ok || vol.isNone then countError k s2 else s2
    let v := vol.getD 0
    let s4 := if vol.isSome && c.flowKind = 1 then
        putCalc k { calcState s3 k with prevCount := some (snapPoint s c.flowPoint).value } s3 else s3
    let moving := f64Lt 0 v || f64Lt v 0
    let back := f64Lt v 0
    let s5 := if moving then addAccum (calcReg k (if back then 5 else 4)) (f64Abs v) (noteDirection c back s4) else s4
    let terms := heatTerms c fwd.value ret.value
    let wide := !f64Lt (f64Abs (f64Sub fwd.value ret.value)) (f32to64 c.dtCutoff)
    let e := if moving && ok && wide then tickEnergy v terms.1 terms.2 else 0
    let s6 := match energyKind c terms.1 fwd.value with
      | some heat => if moving && ok && wide then addHeat c heat back tariff.1 e s5 else s5
      | none => s5
    let flow := f64Div (f64Mul v (f64OfInt 3600)) (f64OfRatio 125 1000)
    let power := f64Mul (if f64Lt terms.1 0 then f64Neg e else e) (f64OfInt 28800)
    let kf := f64Div (f64Div (f64Mul terms.2 terms.1) (f64Sub fwd.value ret.value)) (f64OfInt 3600)
    let w := fun (y : F64) => (f64to32 y).toNat
    setF (F.BOT.T_FWD k) (w fwd.value) (setF (F.BOT.T_RET k) (w ret.value) (setF (F.BOT.FLOW k) (w flow)
      (setF (F.BOT.POWER k) (w power) (setF (F.BOT.K_FACTOR k) (w kf)
        (putCalc k { calcState s6 k with volume := v, energy := e } s6)))))

/-! ### Points (R312) -/

/-- How long before the start of the present tick a stamp lies. -/
def stampAge (s : State) (st : Nat) : Nat := (s.tick.startNs % 2 ^ 40 + 2 ^ 40 - stampCount st) % 2 ^ 40
/-- The newest of some stamps. -/
def newestStamp (s : State) : List Nat → Nat
  | [] => 0
  | a :: l => l.foldl (fun x y => if stampAge s y < stampAge s x then y else x) a
/-- The stamps of the inputs that a quantity of a calculator rests on (R312). -/
def quantityInputs (s : State) (c : CalcCfg) (quantity : Nat) : List Nat :=
  let rtd := fun (r : Nat) => ((tableGet none s.lio.rtd r).map (fun x => [x.2.1])).getD []
  let temps := rtd c.rtdForward ++ rtd c.rtdReturn
  let flow := (snapPoint s c.flowPoint).stamp :: (c.directionPoint.map (fun d => [(snapPoint s d).stamp])).getD []
  let tariff := (c.tariffPoint.map (fun p => [(snapPoint s p).stamp])).getD []
  match quantity with
  | 0x01 => rtd c.rtdForward
  | 0x02 => rtd c.rtdReturn
  | 0x03 => temps
  | 0x06 => temps
  | 0x04 => flow
  | 0x09 => flow
  | 0x0A => flow ++ temps ++ tariff
  | _ => flow ++ temps
/-- A calculator's point of a tick. -/
def calcPoint (s : State) (c : CalcCfg) (p : MeterPoint) : PubPoint :=
  let k := c.number
  let stamp := newestStamp s (quantityInputs s c p.quantity)
  let reg := fun (f : Field) => BitVec.ofNat 32 (getF s f)
  let count := fun (r : Nat) => BitVec.ofNat 32 (accumAt s (calcReg k r)).count
  let v : Word := match p.quantity with
    | 0x01 => reg (F.BOT.T_FWD k)
    | 0x02 => reg (F.BOT.T_RET k)
    | 0x03 => f64to32 (f64Sub (f32to64 (reg (F.BOT.T_FWD k))) (f32to64 (reg (F.BOT.T_RET k))))
    | 0x04 => reg (F.BOT.FLOW k)
    | 0x05 => reg (F.BOT.POWER k)
    | 0x06 => reg (F.BOT.K_FACTOR k)
    | 0x07 => count 0
    | 0x08 => count 2
    | 0x09 => count 4
    | 0x0A => count (6 + p.order)
    | _ => if calcHalted s k then 3 else if flag s (F.BOT.CALC_STATE_FLOW_ERROR k) then 2
      else if flag s (F.BOT.CALC_STATE_TEMP_ERROR k) then 1 else 0
  { index := p.point, value := v, stamp := stamp }

/-- BOT's tick: every calculator in increasing number, and its one staging entry (R303). -/
def botTick (s : State) : State :=
  match thermMetro s with
  | none => s
  | some m =>
    if !present s 12 || !domainOn s 10 || !flag s F.BOT.STATUS_INTEGRATING then s
    else
      let s1 := m.calcs.foldl (fun t c => calcTick c t) s
      let err := m.calcs.any (fun c => flag s1 (F.BOT.CALC_STATE_TEMP_ERROR c.number) || flag s1 (F.BOT.CALC_STATE_FLOW_ERROR c.number))
      let s2 := setF F.BOT.STATUS_ERROR_ANY (ofBool err) s1
      let pts := ((thermMeter s).map MeterPart.points).getD []
      let entry : StagedEntry := { unit := 12, due := s.tick.number, points := pts.filterMap (fun p =>
        (m.calcs.find? (fun c => c.number == p.object)).map (fun c => calcPoint s2 c p)) }
      if botStalled s then s2 else { s2 with tick := { s2.tick with outbox := s2.tick.outbox ++ [entry] } }

/-- RTD_CONVERSION (R131): input `k` read `ohms`, or has a broken sense lead; BOT takes it from the next tick on. -/
def execRtdConversion (k : Nat) (ohms : F64) (broken : Bool) (s : State) : Result := .next (rtdConversion k ohms broken s)

/-- HALT a calculator (R305). -/
def haltCalc (k addr : Nat) (s : State) : State :=
  if calcHalted s k then s
  else emit 0x0C06 k (lo32 addr) 0 (flagCalc k 7 (setF F.BOT.STATUS_MEMORY_ERROR 1 (setF (F.BOT.CALC_STATE_HALTED k) 1 s)))

/-! ### Intervals (R313) -/

/-- Close one calculator's interval against the counts of the boundary. -/
def closeCalcInterval (stamp : Nat) (counts : Table Accum) (errs : List Nat) (k : Nat) (s : State) : State :=
  let x := calcInterval s k
  let now := (List.range 14).map (fun r => (tableGet {} counts (calcReg k r)).count)
  let delta := fun (r : Nat) => now.getD r 0 - x.counts.getD r 0
  let quality := stampQuality x.startStamp ≠ 0 || stampQuality stamp ≠ 0
  let gap := s.bat.gapRecords && bitOf x.flags 8 = 1
  let flags := x.flags + (if quality && bitOf x.flags 6 = 0 then 64 else 0)
  let err := errs.getD k 0
  let words := [2 + k * 2 ^ 16 + getF s (F.BOT.CALC_STATE_TARIFF k) * 2 ^ 24, flags, x.seq, err - x.errorS] ++
    words64 ([x.startStamp, stamp] ++ (List.range 6).map delta) ++ (List.range 8).map (fun t => lo32 (delta (6 + t))) ++
    words64 [now.getD 0 0, now.getD 2 0]
  let keep := if bitOf x.flags 7 = 1 then 128 else 0
  let y : Interval := { startStamp := stamp, startNs := s.tick.startNs, counts := now, errorS := err, flags := keep, seq := x.seq + 1 }
  let s1 := setF (F.BOT.INTERVAL_SEQ k) x.seq { s with bot := { s.bot with intervals := tablePut {} s.bot.intervals k y } }
  let s2 := if gap then { s1 with bat := { s1.bat with gapRecords := false } } else s1
  if ((thermMeter s).map MeterPart.export_).getD false then stageEntry 5 2 128 stamp words s2 else s2

/-- THERMAL_INTERVAL_CLOSE (R313): at a tick start on an interval boundary, one record per calculator. -/
def execThermalIntervalClose (s : State) : Result :=
  .next (match thermMetro s, thermMeter s, s.bat.boundary with
    | some m, some p, some (n, stamp, counts, errs) =>
      let fresh := m.calcs.any (fun c => (calcInterval s c.number).startStamp != stamp)
      if n = s.tick.number && minuteBoundary s p.intervalMin && fresh && inState s .live then
        m.calcs.foldl (fun t c => closeCalcInterval stamp counts errs c.number t) s
      else s
    | _, _, _ => s)

/-- The calculators at T(0) of go-live (R303, R310, R313). -/
def botGoLive (stamp : Nat) (s : State) : State :=
  match thermMetro s with
  | none => { s with bot := {} }
  | some m =>
    if accumLost s || !unitRuns s 12 then { s with bot := {} }
    else
      let flags := 1 + (if s.bat.gapRecords then 256 else 0)
      let iv := m.calcs.foldl (fun t c =>
        let i : Interval := { startStamp := stamp, startNs := s.tick.startNs, errorS := getF s (F.BOT.ERROR_S c.number), flags := flags,
                              counts := (List.range 14).map (fun r => (accumAt s (calcReg c.number r)).count) }
        tablePut {} t c.number i) ([] : Table Interval)
      setF F.BOT.STATUS_INTEGRATING 1 { s with bot := { intervals := iv } }
/-- Integration ends (R303), and no calculator is HALTED any more (R305). -/
def botStop (s : State) : State :=
  setF F.BOT.STATUS_INTEGRATING 0 ((List.range 32).foldl (fun t k => setF (F.BOT.CALC_STATE_HALTED k) 0 t) s)

end Sys2Proof.Machine
end

