-- ==== Sys2Proof/Machine/Bat.lean ====
section
/-! DEFINITION. The battery domain: saves, restore, battery measurement, log, tamper loop (R305 to R320, R324, R325). -/

namespace Sys2Proof.Machine

open Sys2Proof

/-- The full power epoch. -/
def epochNow (s : State) : Nat := getF s F.CLAP.POWER_EPOCH
/-- An event of BAT (R325): word 0 is the epoch in which supply was lost, or the current one with X1 good. -/
def emitBat (epoch code w1 w2 w3 : Nat) (s : State) : State :=
  emitAt (nowStamp s) code [lo32 epoch, lo32 w1, lo32 w2, lo32 w3] s

/-! ### Errors of the accumulators (R305) -/

/-- The meter or calculator that owns a register HALTs when both of its copies fail. -/
def accumFailed (i addr : Nat) (s : State) : State :=
  let s1 := { s with bat := { s.bat with badRegs := if s.bat.badRegs.contains i then s.bat.badRegs else s.bat.badRegs ++ [i] } }
  if i < 96 then haltMeter (i / 6) addr s1
  else if i < 544 then haltCalc ((i - 96) / 14) addr s1
  else if 600 ≤ i && i < 632 then haltCalc (i - 600) addr s1
  else s1
/-- One copy of a register is rebuilt from the other. -/
def accumRepaired (i : Nat) (s : State) : State :=
  emitBat (epochNow s) 0x0D04 (if i < 600 then 16 * i else 8704 + 4 * (i - 600)) 0 0 s

/-! ### Saves (R306 to R308) -/

/-- ERROR_S of the calculators, as the image holds them. -/
def errorImage (s : State) : List Nat := (List.range 32).map (fun k => getF s (F.BOT.ERROR_S k))
/-- Show the latest valid save. -/
def showSave (v : Save) (s : State) : State :=
  setF F.BAT.LAST_SAVE_SEQ (lo32 v.seq) (setF F.BAT.LAST_SAVE_EPOCH v.epoch (setF F.BAT.LAST_SAVE_STAMP_LO (lo32 v.stamp)
    (setF F.BAT.LAST_SAVE_STAMP_HI (hi32 v.stamp) (setF F.BAT.SAVE_STATE_CAUSE v.cause s))))
/-- Write a save of the image as it stands, with its cause. DEDUCED, log entry 95. -/
def writeSave (cause : Nat) (ok : Bool) (s : State) : State :=
  let v : Save := { seq := s.bat.nextSeq, cause := cause, stamp := nowStamp s, epoch := epochNow s, image := s.bat.accum,
                    errorS := errorImage s, valid := ok }
  let s1 := { s with bat := { s.bat with saves := tablePut none s.bat.saves (v.seq % 256) (some v), nextSeq := v.seq + 1 } }
  if ok then showSave v s1 else s1
/-- The latest save (R306). -/
def latestSave (s : State) : Option Save :=
  s.bat.saves.foldl (fun best e => match e.2, best with
    | some v, some b => if v.valid && decide (b.seq < v.seq) then some v else some b
    | some v, none => if v.valid then some v else none
    | none, b => b) none
/-- A PERIODIC save still in progress is abandoned: its slot fails its hash (R308). A save takes at most the 4 ms of R308, and
whether one that began less than that ago has ended is a free value. DEDUCED, log entry 95. -/
def abandonSave (s : State) : State :=
  match s.bat.savedTick with
  | none => s
  | some t =>
    let (v, s0) := drawFree s
    let s1 := { s0 with bat := { s0.bat with savedTick := none } }
    let slot := (s.bat.nextSeq - 1) % 256
    if s.tick.number ≥ t + 32 || v.toNat % 2 = 0 then s1
    else
      let s2 := { s1 with bat := { s1.bat with
        saves := tablePut none s1.bat.saves slot ((tableGet none s1.bat.saves slot).map (fun x => { x with valid := false })) } }
      match latestSave s2 with
      | some x => showSave x s2
      | none => s2
/-- The save that a flush or a restart writes (R308). -/
def writeLastSave (cause : Nat) (ok : Bool) (s : State) : State := writeSave cause ok (abandonSave s)
/-- SAVE_MIN in force (R307). -/
def saveMinutes (s : State) : Nat := ((thermMeter s).map MeterPart.saveMin).getD 15
/-- A periodic save is due at this tick. -/
def saveDue (s : State) : Bool := inState s .live && present s 13 && minuteBoundary s (saveMinutes s) && !s.tick.curtainDone &&
  s.bat.savedTick != some s.tick.number
/-- A PERIODIC save of this tick. -/
def periodicSave (ok : Bool) (s : State) : State :=
  writeSave 1 ok { s with bat := { s.bat with savedTick := some s.tick.number } }
/-- The flush save is due: BOE has closed its windows, BOE and BOT no longer integrate, and the power-fail sequence runs. -/
def flushDue (s : State) : Bool :=
  present s 13 && powerFailing s && !s.pwr.flushedAccum &&
    !flag s F.BOE.STATUS_INTEGRATING && !flag s F.BOT.STATUS_INTEGRATING && !windowsOpen s

/-- PERIODIC_SAVE (R307). -/
def execPeriodicSave (s : State) : Result := .next (if saveDue s && !powerFailing s then periodicSave true s else s)
/-- The cause of the last save of the power-fail sequence: 2 FLUSH; 3 RESTART, the save of a restart that was running when the
sequence began (R522). DEDUCED, log entry 97. -/
def flushCause (s : State) : Nat := if s.dev.flushing.isSome then 3 else 2
/-- FLUSH_SAVE (R308): the last save of the power-fail sequence. The save of any other restart is part of the restart.
DEDUCED, log entry 97. -/
def execFlushSave (s : State) : Result :=
  .next (if flushDue s then
      let s1 := writeLastSave (flushCause s) true s
      { s1 with pwr := { s1.pwr with flushedAccum := true } }
    else s)
/-- The RESTART save of the restart that has just led to BOOT, if its write is not known to have failed. -/
def restartSave (s : State) : Option Save :=
  if inState s .boot then (tableGet none s.bat.saves ((s.bat.nextSeq - 1) % 256)).filter (fun v =>
    v.valid && v.cause == 3 && v.epoch + 1 == epochNow s) else none
/-- SAVE_FAILED (R307): the write of the save that is due, of this cause, fails; its slot fails its hash. A RESTART save
fails after the restart has led to BOOT. -/
def execSaveFailed (cause : Nat) (s : State) : Result :=
  .next (match restartSave s with
    | some v =>
      if cause ≠ 3 then s
      else
        let s1 := { s with bat := { s.bat with saves := tablePut none s.bat.saves (v.seq % 256) (some { v with valid := false }) } }
        let s2 := match latestSave s1 with
          | some x => showSave x s1
          | none => s1
        emitBat (epochNow s) 0x0D05 (lo32 v.seq) 3 0 (bumpF F.BAT.SAVE_FAIL_COUNT 1 s2)
    | none =>
      if cause = 1 && saveDue s && !powerFailing s then
        emitBat (epochNow s) 0x0D05 (lo32 s.bat.nextSeq) 1 0 (bumpF F.BAT.SAVE_FAIL_COUNT 1 (periodicSave false s))
      else if cause = flushCause s && flushDue s then
        let s1 := bumpF F.BAT.SAVE_FAIL_COUNT 1 (writeLastSave cause false s)
        emitBat (epochNow s) 0x0D05 (lo32 s.bat.nextSeq) cause 0 { s1 with pwr := { s1.pwr with flushedAccum := true } }
      else s)

/-! ### Restore (R309 to R311) -/

/-- The larger of two registers. DEDUCED, log entry 95. -/
def largerAccum (a b : Accum) : Accum :=
  if a.count < b.count then b else if b.count < a.count then a else if f64Lt a.residue b.residue then b else a
/-- Take the billing registers from the save where PD0 does not hold them: the state, and how many. -/
def restoreAccum (retained : Bool) (s : State) : State × Nat :=
  match latestSave s with
  | none => (s, 0)
  | some v =>
    if retained then
      let bad := s.bat.badRegs.filter (fun i => decide (i < 600))
      let fixed := bad.filter (fun i => accumAt s i != largerAccum (accumAt s i) (tableGet {} v.image i))
      let acc := bad.foldl (fun t i => tablePut {} t i (largerAccum (tableGet {} t i) (tableGet {} v.image i))) s.bat.accum
      let errs := (List.range 32).filter (fun k => s.bat.badRegs.contains (errorReg k) &&
        decide (getF s (F.BOT.ERROR_S k) < v.errorS.getD k 0))
      (errs.foldl (fun t k => setF (F.BOT.ERROR_S k) (v.errorS.getD k 0) t) { s with bat := { s.bat with accum := acc } },
        fixed.length + errs.length)
    else
      let s1 := { s with bat := { s.bat with accum := v.image } }
      ((List.range 32).foldl (fun t k => setF (F.BOT.ERROR_S k) (v.errorS.getD k 0) t) s1, 632)
/-- The energy since the save is unknown (R310). -/
def markGap (v : Save) (s : State) : State :=
  let s1 := setF F.BOE.STATUS_ACCUM_GAP 1 (setF F.BOT.STATUS_ACCUM_GAP 1 { s with bat := { s.bat with gapRecords := true } })
  emitBat (epochNow s) 0x0D02 (lo32 v.stamp) (hi32 v.stamp) v.epoch s1
/-- Restore the accumulators at the entry to BOOT, after the power epoch is set. DEDUCED, log entries 34 and 95. -/
def batRestore (retained : Bool) (s : State) : State :=
  if !present s 13 then s
  else
    let s0 := setF F.BAT.STATUS_PD0_RETAINED (ofBool retained) s
    match latestSave s0, retained && s0.bat.badRegs = [] with
    | some v, true => emitBat (epochNow s) 0x0D01 (lo32 v.seq) 0 0 (showSave v (setF F.BAT.SAVE_STATE_SOURCE 0 s0))
    | none, true => emitBat (epochNow s) 0x0D01 0 0 0 (setF F.BAT.SAVE_STATE_SOURCE 0 s0)
    | some v, false =>
      let (s1, n) := restoreAccum retained s0
      let src := if retained then 1 else 2
      let s2 := { s1 with bat := { s1.bat with badRegs := [] } }
      let s3 := emitBat (epochNow s) 0x0D01 (lo32 v.seq) src n (showSave v (setF F.BAT.SAVE_STATE_SOURCE src s2))
      let covered := (v.cause == 2 || v.cause == 3) && v.epoch + 1 == epochNow s
      if covered || (retained && n = 0) then s3 else markGap v s3
    | none, false =>
      if retained then
        emitBat (epochNow s) 0x0D01 0 1 0 (setF F.BAT.SAVE_STATE_SOURCE 1 { s0 with bat := { s0.bat with badRegs := [] } })
      else
        let s1 := setHealth 11 2 (setHealth 12 2 (setHealth 13 2 (setF F.BAT.SAVE_STATE_SOURCE 3 (setF F.BAT.STATUS_ACCUM_LOST 1 s0))))
        emitBat (epochNow s) 0x0D03 0 0 0 s1

/-! ### Battery measurement (R314 to R316) -/

/-- Add an entry to the battery log. DEDUCED, log entry 96. -/
def logBattery (kind channel value : Nat) (s : State) : State :=
  if s.bat.log.length ≥ 512 then bumpF F.BAT.LOG_DROPPED 1 s
  else
    let e : BatLog := { elapsed := getF s F.BAT.ELAPSED_S, kind := kind, channel := channel, value := value }
    { s with bat := { s.bat with log := s.bat.log ++ [e] } }
/-- Battery measurement starts, in the tick in which PWR sheds PD10 (R314). -/
def startMeasuring (s : State) : State :=
  if !present s 13 || s.bat.measuring then s
  else setF F.BAT.ELAPSED_S 0 (setF F.BAT.LOG_DROPPED 0
    { s with bat := { s.bat with measuring := true, stopped := false, log := [], episodes := [], lostEpoch := epochNow s } })
/-- Copies for battery measurement, made at each go-live (R315). -/
def batGoLive (s : State) : State :=
  match elecMetro s with
  | none => s
  | some e =>
    let th := ((thermMetro s).map ThermMetro.batThreshold).getD 0
    let r := (List.range 48).foldl (fun t c =>
      let cc := currCfg e c
      tablePut none t c (if cc.sensor = 0 then none else some (cc.ratio, ratedCurrent cc))) ([] : Table (Option (F32 × F64)))
    { s with bat := { s.bat with threshold := th, ratios := r } }
/-- One channel of a battery second: `v` is the input's RMS in volts. DEDUCED, log entry 96. -/
def batteryChannel (c : Nat) (v : F64) (s : State) : State :=
  match tableGet none s.bat.ratios c with
  | none => s
  | some (ratio, rated) =>
    let a := f64Mul v (f32to64 ratio)
    let mah := f64Div a (f64OfRatio 36 10)
    let s1 := setF (F.BAT.RMS_LAST c) (f64to32 a).toNat (if accumLost s then s else addAccum (mahReg c) mah s)
    let on := s.bat.threshold ≠ 0 && f64Le (f64Mul (f32to64 s.bat.threshold) rated) a
    match tableGet none s1.bat.episodes c with
    | none =>
      if on then
        logBattery 1 c (f64to32 a).toNat
          { s1 with bat := { s1.bat with episodes := tablePut none s1.bat.episodes c (some { mah := mah }) } }
      else s1
    | some ep =>
      let e : Episode := { mah := f64Add ep.mah mah, below := if on then 0 else ep.below + 1 }
      if e.below ≥ 10 then
        logBattery 2 c (f64to32 e.mah).toNat { s1 with bat := { s1.bat with episodes := tablePut none s1.bat.episodes c none } }
      else { s1 with bat := { s1.bat with episodes := tablePut none s1.bat.episodes c (some e) } }
/-- BATTERY_SECOND (R314, R315, R316): a second of CLK_AON in battery measurement; `rms` in volts at the inputs. -/
def execBatterySecond (rms : List F64) (s : State) : Result :=
  .next (if !s.bat.measuring then s
    else
      let s1 := bumpF F.BAT.ELAPSED_S 1 s
      if s.bat.stopped then s1 else (List.range 48).foldl (fun t c => batteryChannel c (rms.getD c 0) t) s1)

/-- Supply is back (R314, R316): episodes close and OUTAGE_S is latched. -/
def stopMeasuring (s : State) : State :=
  if !s.bat.measuring then s
  else
    let s1 := s.bat.episodes.foldl (fun t e => match e.2 with
      | some ep => logBattery 2 e.1 (f64to32 ep.mah).toNat t
      | none => t) s
    setF F.BAT.OUTAGE_S (getF s F.BAT.ELAPSED_S) (setF F.BAT.OUTAGE_EPOCH s.bat.lostEpoch (setF F.BAT.ELAPSED_S 0
      { s1 with bat := { s1.bat with measuring := false, episodes := [] } }))
/-- The record of one log entry (R317, R325). -/
def replayBattery (e : BatLog) (s : State) : State :=
  let ep := s.bat.lostEpoch
  match e.kind with
  | 1 => emitBat ep 0x0D06 e.elapsed e.channel e.value s
  | 2 => emitBat ep 0x0D07 e.elapsed e.channel e.value s
  | 3 => emitBat ep 0x0D08 e.elapsed 0 0 s
  | 4 => emitBat ep 0x0D09 e.elapsed 0 0 s
  | 5 => emitBat ep 0x0D0A e.elapsed e.value 0 s
  | _ => emitBat ep 0x0D0A e.elapsed e.value 1 s
/-- The battery log at the entry to BOOT, after the restore (R317). `outage` tells that supply had been lost. With PD0 the log
and the epoch of the loss are lost too: the epoch is a free value. DEDUCED, log entry 96. -/
def batReplay (retained outage : Bool) (s : State) : State :=
  if !present s 13 || !outage then s
  else if !retained then
    let (v, s0) := drawFree s
    let ep := v.toNat % 2 ^ 32
    let s1 := setF F.BAT.OUTAGE_S 0xFFFFFFFF (setF F.BAT.STATUS_ELAPSED_UNKNOWN 1 (setF F.BAT.LOG_ENTRIES 0 (setF F.BAT.LOG_DROPPED 0
      (setF F.BAT.OUTAGE_EPOCH ep { s0 with bat := { s0.bat with log := [], lostEpoch := ep } }))))
    emitBat ep 0x0D0C 0xFFFFFFFF 0 0 s1
  else
    let n := s.bat.log.length
    let s1 := s.bat.log.foldl (fun t e => replayBattery e t) s
    let s2 := emitBat s.bat.lostEpoch 0x0D0C (getF s F.BAT.OUTAGE_S) n (getF s F.BAT.LOG_DROPPED) s1
    setF F.BAT.STATUS_ELAPSED_UNKNOWN 0 (setF F.BAT.LOG_ENTRIES n { s2 with bat := { s2.bat with log := [] } })

/-- BATTERY_CHECK (R318): the X2 battery reads `mv`. -/
def execBatteryCheck (mv : Nat) (s : State) : Result :=
  if !present s 13 then .next s
  else
    let low := decide (mv < 3000)
    let wasLow := flag s F.BAT.STATUS_BATTERY_LOW
    let wasAbsent := flag s F.BAT.STATUS_BATTERY_ABSENT
    let x1 := !s.bat.measuring && !inState s .off
    let absent := decide (mv < 1000) && x1
    let s1 := setF F.BAT.BATTERY_MV mv (setF F.BAT.STATUS_BATTERY_LOW (ofBool low)
      (setF F.BAT.STATUS_BATTERY_ABSENT (ofBool absent) s))
    let s2 := if low && !wasLow then (if x1 then emitBat (epochNow s) 0x0D0A 0 mv 0 s1 else logBattery 5 0xFF mv s1) else s1
    let s3 := if low && s2.bat.measuring && !s2.bat.stopped then
        logBattery 6 0xFF mv { s2 with bat := { s2.bat with stopped := true } } else s2
    .next (if absent && !wasAbsent then emitBat (epochNow s) 0x0D0B mv 0 0 s3 else s3)

/-! ### Tamper loop (R319, R320) -/

/-- X1 is good. -/
def x1Good (s : State) : Bool := !s.bat.measuring && !inState s .off
/-- The loop has been open for 10 samples. -/
def tamperOpen (s : State) : State :=
  if !present s 13 || flag s F.BAT.STATUS_LOOP_OPEN then s
  else
    let s1 := setF F.BAT.STATUS_TAMPER 1 (setF F.BAT.STATUS_LOOP_OPEN 1 s)
    if x1Good s then emitBat (epochNow s) 0x0D08 0 0 0 s1 else logBattery 3 0xFF 0 s1
/-- TAMPER_CLOSED (R319). -/
def execTamperClosed (s : State) : Result :=
  .next (if !present s 13 || !flag s F.BAT.STATUS_LOOP_OPEN then s
    else
      let s1 := setF F.BAT.STATUS_LOOP_OPEN 0 s
      if x1Good s then emitBat (epochNow s) 0x0D09 0 0 0 s1 else logBattery 4 0xFF 0 s1)
/-- The TAMPER_CLEAR command: legal in every state with host access. -/
def cmdTamperClear (c : Caller) (a0 : Nat) (s : State) : State × Reply :=
  runCommand 13 0x01 c a0 (some [roleSecurity]) (!inState s .off) (fun t =>
    if flag t F.BAT.STATUS_LOOP_OPEN then .error resIllegal
    else .ok (showSecHealth (setF F.BAT.STATUS_TAMPER 0 t), resOk, 0)) s
/-- TAMPER_CLEAR (R320). -/
def execTamperClear (c : Caller) (a0 : Nat) (s : State) : Result := .next (cmdTamperClear c a0 s).1

/-- Commands of BAT by opcode. -/
def batCommand (op : Nat) (c : Caller) (a0 : Nat) (s : State) : State × Reply :=
  match op with
  | 1 => cmdTamperClear c a0 s
  | _ => refuseOpcode 13 op c a0 s

end Sys2Proof.Machine
end

