-- ==== Sys2Proof/Machine/Net.lean ====
section
/-! DEFINITION. The backbone: ports, PRP pairs, the frame queues of the backbone and of the long-reach ports, and the
points of the NETWORK section (R349 to R360, R376). Ports are 0 to 3 for the backbone and 8 + l for long-reach port
l. -/

namespace Sys2Proof.Machine

open Sys2Proof

/-- The NETWORK section in force. -/
def netCfg (s : State) : NetworkSec := s.cfg.network.getD {}
/-- NET runs: PD12 and CLK_NET. -/
def netRuns (s : State) : Bool := unitRuns s 14
/-- LRP runs: PD13 and CLK_LR. -/
def lrpRuns (s : State) : Bool := unitRuns s 15
/-- The port entry of TIME of a port (R344): backbone ports, the mirror port, long-reach ports. -/
def portEntry (p : Nat) : Nat := if p < 4 then p else p - 3
/-- The module's MAC address `k` above the base (R350): pairs 0 and 1, mirror port 2, long-reach port l 3 + l, management 11.
PRESUMED, log entry 105. -/
def macOf (s : State) (k : Nat) : MacAddr :=
  natLE (bytesBE 6 (natBE (bytesLE 4 (getF s F.NET.MAC_BASE_LO) ++ bytesLE 2 (getF s F.NET.MAC_BASE_HI)) + k))

/-! ### Points of NET (R376) -/

/-- Write the points of a quantity and object. -/
def netPoint (quantity object : Nat) (v : Nat) (stamp : Nat) (s : State) : State :=
  ((netCfg s).points.filter (fun e => e.quantity == quantity && e.object == object)).foldl
    (fun t e => sampleIn 14 e.point (BitVec.ofNat 32 v) stamp t) s
/-- A pair is up (R352): 1 or 0. -/
def pairUp (s : State) (k : Nat) : Nat := if k = 0 then getF s F.NET.STATUS_PAIR0_UP else getF s F.NET.STATUS_PAIR1_UP
/-- The present value of a quantity, for the write at go-live. -/
def netQuantity (s : State) (quantity object : Nat) : Nat :=
  match quantity with
  | 1 => if object = 4 then getF s F.NET.MIRROR_STATE_LINK_UP else getF s (F.NET.PORT_STATE_LINK_UP object)
  | 2 => pairUp s object
  | 3 => getF s (F.CLAP.BASE_STATE (object + 2))
  | 4 => getF s (F.CLAP.OFFSET_LAST (object + 2))
  | 5 => getF s (F.CLAP.PATH_DELAY (object + 2))
  | _ => lo32 (s.net.drops.getD object 0)
/-- Go-live: drops count from 0, and every point is written once, stamped at T(0). -/
def netGoLive (stamp : Nat) (s : State) : State :=
  let s0 := { s with net := { s.net with drops := [0, 0, 0, 0] } }
  (netCfg s0).points.foldl (fun t e =>
    sampleIn 14 e.point (BitVec.ofNat 32 (netQuantity t e.quantity e.object)) stamp t) s0

/-- NET_DROP_POINT (R376): the dropped-frame counts, stamped at T of the tick. -/
def execNetDropPoint (s : State) : Result :=
  .next (if inState s .live && netRuns s && s.tick.number % 8000 == 0 then
    (List.range 4).foldl (fun t p => netPoint 6 p (lo32 (t.net.drops.getD p 0)) (stampAt t t.tick.startNs) t) s
  else s)

/-! ### Queues (R358 to R360, R340, R341) -/

/-- The port of a queue. -/
def queuePort (q : Nat) : Nat := if q < 32 then q / 8 else 8 + (q - 32) / 2
/-- The queues of a port, highest first. -/
def portQueues (p : Nat) : List Nat :=
  if p < 4 then (List.range 8).reverse.map (fun k => 8 * p + k) else [33 + 2 * (p - 8), 32 + 2 * (p - 8)]
/-- The queue's depth. -/
def queueDepth (q : Nat) : Nat :=
  if q < 32 then (if q % 8 ≥ 6 then 1024 else if q % 8 = 5 then 64 else if q % 8 = 4 then 16 else 256) else 64
/-- Q_FILL, Q_SENT, Q_REFUSED and Q_LATE of a queue. -/
def qFillF (q : Nat) : Field := if q < 32 then F.NET.Q_FILL q else F.LRP.Q_FILL (q - 32)
/-- See qFillF. -/
def qSentF (q : Nat) : Field := if q < 32 then F.NET.Q_SENT q else F.LRP.Q_SENT (q - 32)
/-- See qFillF. -/
def qRefusedF (q : Nat) : Field := if q < 32 then F.NET.Q_REFUSED q else F.LRP.Q_REFUSED (q - 32)
/-- See qFillF. -/
def qLateF (q : Nat) : Field := if q < 32 then F.NET.Q_LATE q else F.LRP.Q_LATE (q - 32)
/-- The event of NET's or LRP's range. -/
def queueEvent (q code : Nat) : Nat := if q < 32 then 0x0E00 + code else 0x0F00 + code

/-- The frames of a queue. -/
def queueOf (s : State) (q : Nat) : List TxFrame := tableGet [] s.net.queues q
/-- Store a queue. -/
def putQueue (q : Nat) (fs : List TxFrame) (s : State) : State :=
  setF (qFillF q) fs.length { s with net := { s.net with queues := tablePut [] s.net.queues q fs } }
/-- Insert in launch order behind frames of an equal launch time; at the end where there is no launch time. -/
def insertFrame (f : TxFrame) : List TxFrame → List TxFrame
  | [] => [f]
  | g :: gs =>
    match f.launch, g.launch with
    | some a, some b => if a < b then f :: g :: gs else g :: insertFrame f gs
    | _, _ => g :: insertFrame f gs
/-- Enqueue a frame; a full queue refuses it (R360). The answer says whether it was taken. DEDUCED, log entry 111. -/
def enqueue (q : Nat) (f : TxFrame) (s : State) : State × Bool :=
  let fs := queueOf s q
  if fs.length ≥ queueDepth q then (emit (queueEvent q 5) q fs.length 0 (bumpF (qRefusedF q) 1 s), false)
  else (putQueue q (insertFrame f fs) s, true)

/-- Take the next trailer sequence number of a pair (R352). -/
def nextTrailer (k : Nat) (s : State) : Nat × State :=
  let n := s.net.trailerSeq.getD k 0
  (n, { s with net := { s.net with trailerSeq := listPut s.net.trailerSeq k ((n + 1) % 2 ^ 16) } })
/-- Enqueue one frame for a pair on the queue `j` of each of its ports, under one trailer number (R358). The answer
says whether a port took it. -/
def enqueuePair (k j : Nat) (f : TxFrame) (s : State) : State × Bool :=
  let (n, s1) := nextTrailer k s
  let (s2, a) := enqueue (16 * k + j) { f with trailer := some n } s1
  let (s3, b) := enqueue (16 * k + 8 + j) { f with trailer := some n } s2
  (s3, a || b)

/-- Wire time of a frame on a port, in ns, rounded up (R349, R354). DEDUCED, log entry 111. -/
def wireNs (s : State) (p bits : Nat) : Nat :=
  if p ≥ 8 then bits * 100
  else if (netCfg s).modes.getD (p / 2) 0 = 0 then (bits + 9) / 10 else bits
/-- The late window of a port (R341). -/
def lateWindow (p : Nat) : Nat := if p < 4 then 1000 else 10000
/-- A port has link. -/
def portLink (s : State) (p : Nat) : Bool :=
  if p < 4 then flag s (F.NET.PORT_STATE_LINK_UP p) else flag s (F.LRP.PORT_STATE_LINK_UP (p - 8))
/-- The unit of a port runs. -/
def portRuns (s : State) (p : Nat) : Bool := if p < 4 then netRuns s else lrpRuns s

/-- A station frame has been sent: ST_OUT_FRAMES counts it once, whichever of a pair's ports sent it first (R382). -/
def noteSent (f : TxFrame) (s : State) : State :=
  match f.body with
  | .output o =>
    let x := tableGet {} s.stn.stations o.station
    if x.sentNumbers.contains o.exchange then s
    else
      let y := { x with sentNumbers := (o.exchange :: x.sentNumbers).take 1024 }
      bumpF (F.STN.ST_OUT_FRAMES o.station) 1
        { s with stn := { s.stn with stations := tablePut {} s.stn.stations o.station y } }
  | _ => s
/-- The port starts the head of a queue now. -/
def startFrame (p q : Nat) (f : TxFrame) (rest : List TxFrame) (s : State) : State :=
  let sent : SentFrame := { port := p, queue := q, frame := f, stamp := portStamp s (portEntry p) true }
  let s1 := putQueue q rest { s with net := { s.net with
    busyUntil := tablePut 0 s.net.busyUntil p (nowNs s 1 + wireNs s p f.bits)
    sent := s.net.sent ++ [sent] } }
  let s2 := bumpF (qSentF q) 1 (bumpF (if p < 4 then F.NET.TX_FRAMES p else F.LRP.TX_FRAMES (p - 8)) 1 s1)
  noteSent f s2
/-- A late frame is dropped (R341, R359). DEDUCED, log entry 111. -/
def discardLate (p q : Nat) (f : TxFrame) (s : State) : State :=
  emit (queueEvent q 6) q (nowNs s 1 - f.launch.getD 0) 0
    (bumpF (qLateF q) 1 (bumpF (if p < 4 then F.NET.LATE_DISCARDED p else F.LRP.LATE_DISCARDED (p - 8)) 1 s))

/-- The port's choice over its queues, highest first (R359). `wait` is the earliest launch time that waits on a
higher queue. DEDUCED, log entry 111. -/
def chooseFrame (p : Nat) : List Nat → Option Nat → State → State
  | [], _, s => s
  | q :: qs, wait, s =>
    let now := nowNs s 1
    let fs := queueOf s q
    let isLate := fun (f : TxFrame) => match f.launch with
      | some l => decide (now > l + lateWindow p)
      | none => false
    let late := fs.takeWhile isLate
    let rest := fs.dropWhile isLate
    let s1 := if late = [] then s else late.foldl (fun t f => discardLate p q f t) (putQueue q rest s)
    match rest with
    | [] => chooseFrame p qs wait s1
    | f :: more =>
      let ready := match f.launch with
        | some l => decide (l ≤ now)
        | none => true
      if ready then
        let blocked := match wait with
          | some w => decide (now + wireNs s p f.bits > w)
          | none => false
        if blocked then chooseFrame p qs wait s1 else startFrame p q f more s1
      else
        let l := f.launch.getD 0
        chooseFrame p qs (some (match wait with
          | some w => min w l
          | none => l)) s1

/-- An Ethernet port's turn of FRAME_LAUNCH (R359): a port that is free, with link, chooses its next ready frame and
starts it. -/
def launchPort (p : Nat) (s : State) : State :=
  if (p < 4 || (8 ≤ p && p < 16)) && portRuns s p && portLink s p && tableGet 0 s.net.busyUntil p ≤ nowNs s 1 then
    chooseFrame p (portQueues p) none s
  else s

/-! ### Links and modules (R349, R352, R353) -/

/-- Set a backbone port's link; the pair follows (R352). -/
def setPortLink (p : Nat) (up : Bool) (s : State) : State :=
  let k := p / 2
  let was := pairUp s k
  let s1 := emit (if up then 0x0E01 else 0x0E02) p 0 0 (setF (F.NET.PORT_STATE_LINK_UP p) (ofBool up) s)
  let s2 := netPoint 1 p (ofBool up) (nowStamp s1) s1
  let now := ofBool (flag s2 (F.NET.PORT_STATE_LINK_UP (2 * k)) || flag s2 (F.NET.PORT_STATE_LINK_UP (2 * k + 1)))
  if now = was then s2
  else
    let s3 := setF (if k = 0 then F.NET.STATUS_PAIR0_UP else F.NET.STATUS_PAIR1_UP) now s2
    let s4 := netPoint 2 k now (nowStamp s3) s3
    if now = 0 then emit 0x0E03 k 0 0 s4 else s4
/-- Set the mirror port's link (R353). -/
def setMirrorLink (up : Bool) (s : State) : State :=
  let s1 := setF F.NET.STATUS_MIRROR_UP (ofBool up) (setF F.NET.MIRROR_STATE_LINK_UP (ofBool up) s)
  netPoint 1 4 (ofBool up) (nowStamp s1) (emit (if up then 0x0E01 else 0x0E02) 4 0 0 s1)
/-- Set a long-reach port's link. -/
def setLrLink (l : Nat) (up : Bool) (s : State) : State :=
  emit (if up then 0x0F03 else 0x0F04) l 0 0 (setF (F.LRP.PORT_STATE_LINK_UP l) (ofBool up) s)

/-- A port can have link: fitted, configured and running. Links are 0 to 3, 4 for the mirror port, 8 + l. -/
def linkUsable (s : State) (x : Nat) : Bool :=
  if x < 4 then netRuns s && bitF s F.NET.PORTS_PRESENT x && flag s (F.NET.PORT_STATE_USED x)
  else if x = 4 then netRuns s && flag s F.NET.MIRROR_STATE_ENABLED
  else decide (8 ≤ x) && decide (x < 16) && lrpRuns s && flag s (F.LRP.PORT_STATE_USED (x - 8))
/-- A link is up. -/
def linkIsUp (s : State) (x : Nat) : Bool :=
  if x < 4 then flag s (F.NET.PORT_STATE_LINK_UP x)
  else if x = 4 then flag s F.NET.MIRROR_STATE_LINK_UP
  else flag s (F.LRP.PORT_STATE_LINK_UP (x - 8))
/-- Change a link's state. -/
def changeLink (x : Nat) (up : Bool) (s : State) : State :=
  if x < 4 then setPortLink x up s else if x = 4 then setMirrorLink up s else setLrLink (x - 8) up s

/-- LINK_UP (R352): a module that gives link is fitted and offers the mode. -/
def execLinkUp (x : Nat) (s : State) : Result :=
  .next (if linkUsable s x && !linkIsUp s x then
      let s1 := if x < 4 then setF (F.NET.PORT_STATE_SFP_PRESENT x) 1 (setF (F.NET.PORT_STATE_SFP_MISMATCH x) 0 s)
        else if x = 4 then setF F.NET.MIRROR_STATE_SFP_MISMATCH 0 s else s
      changeLink x true s1
    else s)

/-! ### Reception and PRP (R351, R352, R354) -/

/-- A datagram's source is the address of a station on attachment `attach` (0 and 1 the pairs, 2 + l). -/
def stationAddress (s : State) (attach src : Nat) : Bool :=
  match s.cfg.stations with
  | some x => x.stations.any (fun c => c.address == src && (if c.attach = 2 then 2 + c.lrPort else c.attach) == attach)
  | none => false
/-- The frame is one that R351, or on a long-reach port R354, lets in. -/
def frameSupported (s : State) (f : RxFrame) : Bool :=
  match f.kind with
  | .ptp => decide (f.port < 4)
  | .supervision _ => decide (f.port < 4)
  | .datagram port dst src =>
    let n := netCfg s
    port == n.udpPort &&
      (if f.port < 4 then dst == n.group.getD (f.port / 2) 0 && stationAddress s (f.port / 2) src
       else
        let lr := (s.cfg.longReach.getD {}).ports.getD (f.port - 8) {}
        ((dst == lr.addr && (f.dest == macOf s (3 + (f.port - 8)) || f.dest == 2 ^ 48 - 1)) || n.group.contains dst) && stationAddress s (2 + (f.port - 8)) src)
  | .unsupported => false

/-- Show a pair's node count. -/
def showNodes (k : Nat) (s : State) : State :=
  setF (F.NET.PRP_NODES k) (s.net.nodes.filter (fun n => n.pair == k)).length s
/-- See a node (R352): a full table loses the entry seen longest ago. DEDUCED, log entry 110. -/
def seeNode (k node : Nat) (s : State) : State :=
  let mine := s.net.nodes.filter (fun n => n.pair == k && n.node != node)
  let others := s.net.nodes.filter (fun n => n.pair != k)
  let kept := if mine.length ≥ 1024 then mine.drop (mine.length - 1023) else mine
  showNodes k { s with net := { s.net with nodes := others ++ kept ++ [{ pair := k, node := node, atNs := nowNs s 0 }] } }
/-- Remove duplicate entries of a pair; each one seen once counts in PRP_UNIQUE (R352). DEDUCED, log entry 110. -/
def dropEntries (k : Nat) (gone : PrpEntry → Bool) (s : State) : State :=
  let out := s.net.entries.filter (fun e => e.pair == k && gone e)
  bumpF (F.NET.PRP_UNIQUE k) (out.filter (fun e => !e.twice)).length
    { s with net := { s.net with entries := s.net.entries.filter (fun e => !(e.pair == k && gone e)) } }
/-- A frame with a trailer on a pair (R352): the second copy is discarded and counted, and the window of 64 sequence
numbers of its source moves with the newest. DEDUCED, log entry 110. -/
def prpReceive (f : RxFrame) (t : RctTrailer) (s : State) : State :=
  let k := f.port / 2
  let s0 := if t.lanB == (f.port % 2 == 1) then s else bumpF (F.NET.PRP_WRONG_LAN k) 1 s
  let old := fun (e : PrpEntry) => e.source == f.source &&
    (let d := (t.sequence + 65536 - e.sequence % 65536) % 65536
     decide (64 ≤ d) && decide (d < 32768))
  let s1 := seeNode k f.source (dropEntries k old s0)
  let same := fun (e : PrpEntry) => e.pair == k && e.source == f.source && e.sequence == t.sequence
  if s1.net.entries.any same then
    bumpF (F.NET.PRP_DUPLICATE k) 1
      { s1 with net := { s1.net with entries := s1.net.entries.map (fun e => if same e then { e with twice := true } else e) } }
  else
    { s1 with net := { s1.net with
        entries := s1.net.entries ++ [{ pair := k, source := f.source, sequence := t.sequence, atNs := nowNs s1 0 }] } }

/-- BACKBONE_FRAME_RX (R351, R352, R354): a frame is counted, dropped where it is not one of those received, and
passed through duplicate discard. What PTP, a station and a duplicate's first copy go on to do are commands of their
own. -/
def execBackboneFrameRx (f : RxFrame) (s : State) : Result :=
  if f.port < 4 then
    if !netRuns s || !portLink s f.port then .next s
    else
      let s1 := bumpF (F.NET.RX_FRAMES f.port) 1 s
      if !frameSupported s1 f then
        .next (bumpF (F.NET.RX_DROPPED f.port) 1
          { s1 with net := { s1.net with drops := listUpd 0 s1.net.drops f.port (fun n => n + 1) } })
      else
        let s2 := match f.kind with
          | .supervision node => seeNode (f.port / 2) node s1
          | _ => s1
        .next (match f.kind, f.trailer with
          | .ptp, _ => s2
          | _, some t => prpReceive f t s2
          | _, none => s2)
  else if 8 ≤ f.port && f.port < 16 && lrpRuns s && portLink s f.port then
    let s1 := bumpF (F.LRP.RX_FRAMES (f.port - 8)) 1 s
    .next (if frameSupported s1 f then s1 else bumpF (F.LRP.RX_DROPPED (f.port - 8)) 1 s1)
  else .next s

/-- Bits on the wire of a PRP supervision frame, at the least Ethernet length, with preamble and gap. -/
def supervisionBits : Nat := (64 + 20) * 8
/-- PRP_SUPERVISION_SEND (R352): both ports of a used pair send every LIFE_CHECK_MS. -/
def execPrpSupervisionSend (k : Nat) (s : State) : Result :=
  let due := decide (nowNs s 0 ≥ s.net.lastLife.getD k 0 + (netCfg s).lifeCheckMs * 1000000)
  .next (if k < 2 && netRuns s && flag s (F.NET.PORT_STATE_USED (2 * k)) && due then
      (enqueuePair k 4 { body := .supervision, bits := supervisionBits }
        { s with net := { s.net with lastLife := listPut s.net.lastLife k (nowNs s 0) } }).1
    else s)

/-- PRP_NODE_FORGET (R352): nodes unseen for 60 s, and duplicate entries of ENTRY_FORGET_MS, are removed. -/
def execPrpNodeForget (k : Nat) (s : State) : Result :=
  let now := nowNs s 0
  let s1 := { s with net := { s.net with
    nodes := s.net.nodes.filter (fun n => !(n.pair == k && decide (now ≥ n.atNs + 60000000000))) } }
  .next (if k < 2 then
      dropEntries k (fun e => decide (now ≥ e.atNs + (netCfg s).entryForgetMs * 1000000)) (showNodes k s1)
    else s)

/-- Bits on the wire of a Pdelay answer: 54 bytes in an Ethernet frame without trailer, with preamble and gap. -/
def pdelayBits : Nat := (18 + 54 + 20) * 8
/-- A Pdelay_Resp, and with STEP_MODE two-step its follow-up, on the PTP queue of a port (R333, R358). -/
def enqueuePdelay (port source sequence receivedNs : Nat) (twoStep : Bool) (s : State) : State :=
  let s1 := (enqueue (8 * port + 5) { body := .pdelay false source sequence receivedNs, bits := pdelayBits } s).1
  if twoStep then (enqueue (8 * port + 5) { body := .pdelay true source sequence receivedNs, bits := pdelayBits } s1).1
  else s1

end Sys2Proof.Machine
end

