-- ==== Sys2Proof/Machine/Clap.lean ====
section
/-! DEFINITION. The Clapper: the servos of the PTP domains, the selection that Local follows and Local's rate
(R326 to R348). -/

namespace Sys2Proof.Machine

open Sys2Proof

/-! ### Domains -/

/-- The TIME entry of base `b`, 2 to 5 (R344). -/
def domCfg (s : State) (b : Nat) : TimeDomain := s.cfg.time.domains.getD (b - 2) {}
/-- The servo state of base `b`. -/
def dom (s : State) (b : Nat) : Domain := s.clap.domains.getD (b - 2) {}
/-- Change the servo state of base `b`. -/
def updDom (b : Nat) (f : Domain → Domain) (s : State) : State :=
  { s with clap := { s.clap with domains := listUpd {} s.clap.domains (b - 2) f } }
/-- Base `b` is an enabled PTP domain whose clocks run. -/
def domainEnabled (s : State) (b : Nat) : Bool :=
  decide (2 ≤ b) && decide (b ≤ 5) && bitF s F.CLAP.CONFIG_ENABLED (b - 2) && domainOn s 12
/-- The lock state of R327: 0 INVALID, 1 ACQUIRING, 2 LOCKED, 3 HOLDOVER. -/
def domState (s : State) (b : Nat) : Nat := getF s (F.CLAP.BASE_STATE b)

/-- Least and greatest increment of a PTP domain in 2⁻³² ns (R331): 3.9998 ns and 4.0002 ns. -/
def incMin : Nat := 17179010191
/-- See incMin. -/
def incMax : Nat := 17180728177
/-- An increment held to the bounds of R331. -/
def clampInc (i : Int) : Nat := (max (incMin : Int) (min i incMax)).toNat
/-- The increment 4 ns × (1 + x) for a binary64 x, to the nearest 2⁻³² ns, within R331. -/
def incOf (x : F64) : Nat :=
  clampInc (f64ToInt (f64Mul (f64OfInt 17179869184) (f64Add (f64OfInt 1) x)))

/-! ### Which domain Local follows (R335 to R337) -/

/-- The count of base `b`. -/
def baseNs (s : State) (b : Nat) : Int := (nowNs s b : Int)
/-- The multiple of 125,000 nearest to a difference; the lower of two (R336). -/
def nearestTick (d : Int) : Int := ((d + 62499) / 125000) * 125000
/-- The phase error of the selected domain (R336); 0 with none selected. -/
def phaseError (s : State) : Int :=
  let sel := getF s F.CLAP.STATUS_SELECTED
  if sel = 0 then 0 else baseNs s sel - baseNs s 1 - s.clap.kOff
/-- Local is ALIGNED while |e| ≤ ALIGN_NS; reaching it is recorded (R336, R337). DEDUCED, log entries 102 and 104. -/
def checkAligned (s : State) : State :=
  let sel := getF s F.CLAP.STATUS_SELECTED
  let al := sel != 0 && decide ((phaseError s).natAbs ≤ getF s F.CLAP.CONFIG_ALIGN_NS)
  let was := flag s F.CLAP.STATUS_ALIGNED
  let s1 := setF F.CLAP.STATUS_ALIGNED (ofBool al) s
  if al && !was then emit 0x0307 sel s.clap.ticksSinceSwitch 0 s1 else s1

/-- Make `d` the selected domain, 0 for none (R336, R337). -/
def selectDomain (d : Nat) (s : State) : State :=
  let old := getF s F.CLAP.STATUS_SELECTED
  if d = old then s
  else
    let k := if d = 0 then s.clap.kOff else nearestTick (baseNs s d - baseNs s 1)
    let s1 := bumpF F.CLAP.SWITCH_COUNT 1 (setF F.CLAP.STATUS_SELECTED d
      { s with clap := { s.clap with kOff := k, ticksSinceSwitch := 0 } })
    let s2 := emit 0x0306 old d (ofSigned 32 (phaseError s1)) s1
    checkAligned s2

/-- The entries of PRIORITY (R335). -/
def priorityList (s : State) : List Nat := s.cfg.time.priority.filter (fun b => 2 ≤ b && b ≤ 5)
/-- The selection that the list gives, the present one being `cur`. DEDUCED, log entry 101. -/
def listChoice (s : State) (cur : Nat) : Nat :=
  if cur ≠ 0 && domState s cur == 2 && (priorityList s).contains cur then cur
  else match (priorityList s).find? (fun b => domainEnabled s b && domState s b == 2) with
    | some b => b
    | none => if cur ≠ 0 && domState s cur == 3 then cur else 0
/-- Decide the selection anew after a change of a domain's state (R335). DEDUCED, log entry 101. -/
def reselect (s : State) : State :=
  if !flag s F.CLAP.STATUS_LOCAL_RUNNING then s
  else
    let cur := getF s F.CLAP.STATUS_SELECTED
    if flag s F.CLAP.STATUS_FORCED && (domState s cur == 2 || domState s cur == 3) then s
    else
      let s1 := setF F.CLAP.STATUS_FORCED 0 s
      selectDomain (listChoice s1 cur) s1

/-- A module leaves STAND_IN: the Clapper returns to R335, as a change of selection (R421). -/
def clapLeaveStandIn (s : State) : State :=
  let cur := getF s F.CLAP.STATUS_SELECTED
  let d := if flag s F.CLAP.STATUS_FORCED then cur else listChoice s cur
  let k := if d = 0 then s.clap.kOff else nearestTick (baseNs s d - baseNs s 1)
  let s1 := bumpF F.CLAP.SWITCH_COUNT 1 (setF F.CLAP.STATUS_SELECTED d
    { s with clap := { s.clap with kOff := k, ticksSinceSwitch := 0 } })
  checkAligned (emit 0x0306 cur d (ofSigned 32 (phaseError s1)) s1)

/-- Change a domain's lock state, with its records and counts, and decide the selection anew. `cause` is the
cause of DOMAIN_HOLDOVER (R348). DEDUCED, log entry 100. -/
def setDomState (b st cause : Nat) (s : State) : State :=
  let old := domState s b
  if old = st then s
  else
    let s0 := setF (F.CLAP.BASE_STATE b) st s
    let s1 := netPoint 3 (b - 2) st (nowStamp s0) s0
    let s2 :=
      if st = 2 then emit 0x0301 b (getF s (F.CLAP.OFFSET_LAST b)) 0
        (updDom b (fun d => { d with lockedSince := nowNs s 0 }) s1)
      else if st = 3 then
        let s3 := if old = 2 then bumpF (F.CLAP.LOCK_LOSS_COUNT b) 1 s1 else s1
        emit 0x0302 b cause 0 (updDom b (fun d => { d with holdoverSince := nowNs s 0 }) s3)
      else if st = 0 then emit 0x0303 b s.cfg.time.holdoverS 0 s1
      else s1
    reselect s2

/-- Step a domain's count (R332): one CLK_TS cycle, recorded and counted, never reaching Local. DEDUCED, log entry 102. -/
def stepDomain (b : Nat) (x : Int) (s : State) : State :=
  let c := s.clap.bases.getD b {}
  let n := ofSigned 64 ((c.ns : Int) + x)
  let s1 := { s with clap := { s.clap with bases := s.clap.bases.set b { c with ns := n } } }
  let w := ofSigned 64 x
  let s2 := emit 0x0305 b (lo32 w) (hi32 w) (bumpF (F.CLAP.STEP_COUNT b) 1 s1)
  if getF s F.CLAP.STATUS_SELECTED = b then checkAligned s2 else s2

/-- Take a measurement as accepted: its offset is shown and counted, and NET's points of it are written (R376). -/
def acceptOffset (b : Nat) (o : Int) (s : State) : State :=
  let s1 := bumpF (F.CLAP.SYNC_COUNT b) 1 (setF (F.CLAP.OFFSET_LAST b) (ofSigned 32 (clampI32 o))
    (updDom b (fun d => { d with lastAccept := nowNs s 0 }) s))
  netPoint 5 (b - 2) (getF s1 (F.CLAP.PATH_DELAY b)) (nowStamp s1)
    (netPoint 4 (b - 2) (ofSigned 32 (clampI32 o)) (nowStamp s1) s1)

/-- KI × o ÷ (T_s × 10⁹) and its like, T_s being 1 s (R332, R333). -/
def gainTerm (k : F32) (o : Int) : F64 := f64Div (f64Mul (f32to64 k) (f64OfInt o)) (f64OfInt 1000000000)

/-- The internal servo on one offset measurement (R332). DEDUCED, log entry 102. -/
def servo (b : Nat) (o : Int) (s : State) : State :=
  let cfg := domCfg s b
  let d := dom s b
  let st := domState s b
  if (st = 0 || st = 1 || d.oPred.isNone) && decide (o.natAbs > cfg.stepNs) then
    let s1 := stepDomain b (-o) (acceptOffset b o s)
    setDomState b 1 0 (updDom b (fun x =>
      { x with f := if st = 3 then x.f else 0, nLock := 0, oPred := none }) s1)
  else
    let jump := match d.oPred with
      | some p => decide ((o - p).natAbs > cfg.jumpNs)
      | none => false
    if (st = 2 || st = 3) && jump then
      let s1 := emit 0x0304 b (ofSigned 32 (clampI32 o)) (ofSigned 32 (clampI32 (d.oPred.getD 0)))
        (bumpF (F.CLAP.REJECT_COUNT b) 1 (updDom b (fun x => { x with nRej := x.nRej + 1 }) s))
      if d.nRej + 1 = 4 then
        setDomState b 3 1 (updDom b (fun x => { x with nLock := 0, nRej := 0, oPred := none }) s1)
      else s1
    else
      let f := f64Sub d.f (gainTerm cfg.ki o)
      let n := if o.natAbs ≤ cfg.lockNs then d.nLock + 1 else 0
      let s1 := updDom b (fun x => { x with nRej := 0, f := f, oPred := some o, nLock := n }) (acceptOffset b o s)
      let s2 := setInc b (incOf (f64Sub f (gainTerm cfg.kp o))) s1
      let s3 := if st = 0 || st = 3 then setDomState b 1 0 s2 else s2
      if n ≥ cfg.lockCount then setDomState b 2 0 s3 else s3

/-- OFFSET_MEASUREMENT (R332): a Sync yields offset `o` for base `b`; a host servo's domain ignores it. -/
def execOffsetMeasurement (b : Nat) (o : Int) (s : State) : Result :=
  .next (if domainEnabled s b && !flag s (F.CLAP.BASE_SERVO b) && clockRuns s 8 then servo b o s else s)

/-- DOMAIN_HOLDOVER (R327, R346): SYNC_TIMEOUT_MS passed without an accepted measurement, or command. An internal
servo counts on without the KP term. DEDUCED, log entry 100. -/
def execDomainHoldover (b : Nat) (s : State) : Result :=
  let st := domState s b
  let due := decide (nowNs s 0 ≥ (dom s b).lastAccept + (domCfg s b).syncTimeoutMs * 1000000)
  .next (if domainEnabled s b && (st = 1 || st = 2) && due then
      let s1 := if flag s (F.CLAP.BASE_SERVO b) then s else setInc b (incOf (dom s b).f) s
      setDomState b 3 0 s1
    else s)

/-- DOMAIN_INVALID (R327): HOLDOVER has lasted HOLDOVER_S seconds. -/
def execDomainInvalid (b : Nat) (s : State) : Result :=
  let due := decide (nowNs s 0 ≥ (dom s b).holdoverSince + s.cfg.time.holdoverS * 1000000000)
  .next (if domainEnabled s b && domState s b == 3 && due then setDomState b 0 0 s else s)

/-- The place of a base in PRIORITY; 4 where it is not listed. -/
def priorityOf (s : State) (b : Nat) : Nat := ((priorityList s).findIdx? (fun x => x == b)).getD 4

/-- LOCAL_REVERT (R335): a domain of higher priority has stayed LOCKED for REVERT_S seconds. -/
def execLocalRevert (b : Nat) (s : State) : Result :=
  let cur := getF s F.CLAP.STATUS_SELECTED
  let rs := s.cfg.time.revertS
  let due := decide (nowNs s 0 ≥ (dom s b).lockedSince + rs * 1000000000)
  .next (if flag s F.CLAP.STATUS_LOCAL_RUNNING && !flag s F.CLAP.STATUS_FORCED && cur != 0 && rs != 0 &&
      domainEnabled s b && domState s b == 2 && decide (priorityOf s b < priorityOf s cur) && due
    then selectDomain b s else s)

/-! ### PTP messages (R333, R334) -/

/-- The bytes of a word in the other order. -/
def swapBytes (w : Nat) : Nat := w % 256 * 2 ^ 24 + w / 256 % 256 * 2 ^ 16 + w / 65536 % 256 * 256 + w / 2 ^ 24 % 256
/-- The rank of a grandmaster under the best master clock algorithm (R333), the smaller the better. PRESUMED (IEEE 1588-2019):
priority1, clockClass, clockAccuracy, offsetScaledLogVariance, priority2, the identity, and for one grandmaster the steps.
PRESUMED, log entry 103. -/
def announceRank (m : Announce) : Nat :=
  [(m.clockClass, 256), (m.accuracy, 256), (m.variance, 65536), (m.priority2, 256), (swapBytes m.gmLo, 2 ^ 32),
    (swapBytes m.gmHi, 2 ^ 32), (m.stepsRemoved, 65536)].foldl (fun r x => r * x.2 + x.1) m.priority1
/-- The Announce data of a port are not older than the receipt timeout of three intervals of 1 s (R333). -/
def announceFresh (s : State) (a : AnnounceData) : Bool := decide (nowNs s 0 ≤ a.atNs + 3000000000)
/-- The port of the pair to use: the better master's; the present one where they are equal (R333). PRESUMED, log entry 103. -/
def choosePort (s : State) (b : Nat) : Nat :=
  let d := dom s b
  let cur := getF s (F.CLAP.BASE_ACTIVE_PORT b)
  match d.announceLo.filter (announceFresh s), d.announceHi.filter (announceFresh s) with
  | some x, some y => if x.rank < y.rank then 0 else if y.rank < x.rank then 1 else cur
  | some _, none => 0
  | none, some _ => 1
  | none, none => cur

/-- ANNOUNCE_RECEIVED (R333, R334). An unsupported message is counted and dropped. A change of grandmaster makes
the domain ACQUIRING. -/
def execAnnounceReceived (b : Nat) (m : Announce) (s : State) : Result :=
  if !domainEnabled s b then .next s
  else if !m.supported then .next (bumpF (F.CLAP.REJECT_COUNT b) 1 s)
  else if m.ptpDomain ≠ getF s (F.CLAP.BASE_PTP_DOMAIN b) then .next s
  else
    let a : AnnounceData := { rank := announceRank m, gmLo := m.gmLo, gmHi := m.gmHi, atNs := nowNs s 0 }
    let s1 := updDom b (fun d => if m.port = 0 then { d with announceLo := some a } else { d with announceHi := some a }) s
    let p := choosePort s1 b
    let s2 := setF (F.CLAP.BASE_ACTIVE_PORT b) p s1
    match (if p = 0 then (dom s2 b).announceLo else (dom s2 b).announceHi) with
    | none => .next s2
    | some x =>
      let old := (dom s2 b).gm
      let s3 := setF (F.CLAP.GM_ID_LO b) x.gmLo (setF (F.CLAP.GM_ID_HI b) x.gmHi
        (updDom b (fun d => { d with gm := some (x.gmLo, x.gmHi) }) s2))
      .next (match old with
        | some o =>
          if o = (x.gmLo, x.gmHi) then s3
          else
            let s4 := emit 0x0308 b x.gmLo x.gmHi s3
            if domState s4 b = 0 then s4 else setDomState b 1 0 s4
        | none => s3)

/-- The enabled domains whose pair holds a backbone port (R333, R344). -/
def domainsOnPort (s : State) (port : Nat) : List Nat :=
  [2, 3, 4, 5].filter (fun b => domainEnabled s b && (domCfg s b).portPair == port / 2)

/-- PDELAY_REQ (R333): answered on every backbone port with an enabled domain, as STEP_MODE gives. PRESUMED, log entry 103. -/
def execPdelayReq (port : Nat) (req : PdelayMsg) (s : State) : Result :=
  let ds := domainsOnPort s port
  .next (match (ds.filter (fun b => (domCfg s b).ptpDomain == req.ptpDomain) ++ ds).head? with
    | none => s
    | some b => enqueuePdelay port req.source req.sequence req.receivedNs ((domCfg s b).stepMode == 1) s)

/-- PDELAY_RESP_RECEIVED (R333): the peer delay of the domains that use the port. -/
def execPdelayRespReceived (port : Nat) (delay : Int) (s : State) : Result :=
  let ds := (domainsOnPort s port).filter (fun b => getF s (F.CLAP.BASE_ACTIVE_PORT b) == port % 2)
  .next (ds.foldl (fun t b => setF (F.CLAP.PATH_DELAY b) (ofSigned 32 (clampI32 delay)) t) s)

/-! ### Local (R336) -/

/-- Local's increment for a phase error `e` about the increment `isel` (R336). DEDUCED, log entry 104. -/
def slewLocal (e : Int) (isel : Nat) (s : State) : State :=
  let slew := getF s F.CLAP.CONFIG_SLEW_PPM
  let inc : Int :=
    if e.natAbs ≤ 8 * slew then ((isel : Int) * (8000000 + e) + 4000000) / 8000000
    else ((isel : Int) * (1000000 + e.sign * slew) + 500000) / 1000000
  let ppm : F32 := if e.natAbs ≤ 8 * slew then f32OfRatio e 8 else f32OfInt (e.sign * slew)
  setInc 1 inc.toNat (setF F.CLAP.PHASE_ERROR (ofSigned 32 (clampI32 e)) (setF F.CLAP.RATE_OFFSET ppm.toNat s))
/-- At each tick start the Clapper sets Local's increment, e and s (R336). A Stand-in's Local slews on the phase error
of the mirror (R421). -/
def localRateUpdate (s : State) : State :=
  let sel := getF s F.CLAP.STATUS_SELECTED
  let s0 := { s with clap := { s.clap with ticksSinceSwitch := s.clap.ticksSinceSwitch + 1 } }
  if role s = 2 then slewLocal (toSigned 32 (getF s F.SPOT.SYNC_ERROR)) s.clap.incSel s0
  else if sel = 0 then setF F.CLAP.RATE_OFFSET 0 (setInc 1 s.clap.incSel s0)
  else
    let isel := baseInc s sel
    checkAligned (slewLocal (phaseError s) isel { s0 with clap := { s0.clap with incSel := isel } })

/-! ### Commands (R346) -/

/-- Commands of CLAP are legal in ARMED and in LIVE. -/
def clapLegal (s : State) : Bool := inState s .armed || inState s .live
/-- A base number of a PTP domain. -/
def ptpBase (b : Nat) : Bool := decide (2 ≤ b) && decide (b ≤ 5)
/-- A host servo runs the domain. -/
def hostServo (s : State) (b : Nat) : Bool := domainEnabled s b && flag s (F.CLAP.BASE_SERVO b)
/-- A host-servo command marks the domain as served. DEDUCED, log entry 100. -/
def served (b : Nat) (s : State) : State := updDom b (fun d => { d with lastAccept := nowNs s 0 }) s

/-- The SET_INCREMENT command. -/
def cmdSetIncrement (c : Caller) (b frac ns : Nat) (s : State) : State × Reply :=
  runCommand 3 0x01 c b (some [roleOperator]) (clapLegal s) (fun t =>
    let inc := ns * 2 ^ 32 + frac
    if !ptpBase b || inc < incMin || inc > incMax then .error resBadArgument
    else if !hostServo t b then .error resIllegal
    else
      let t1 := served b (setInc b inc t)
      .ok (if domState t b = 0 then setDomState b 1 0 t1 else t1, resOk, 0)) s
/-- SET_INCREMENT (R346). -/
def execSetIncrement (c : Caller) (a0 a1 a2 : Nat) (s : State) : Result := .next (cmdSetIncrement c a0 a1 a2 s).1

/-- The STEP command. -/
def cmdStep (c : Caller) (b lo hi : Nat) (s : State) : State × Reply :=
  runCommand 3 0x02 c b (some [roleOperator]) (clapLegal s) (fun t =>
    let x := toSigned 64 (hi * 2 ^ 32 + lo)
    if !ptpBase b || x.natAbs ≥ 2 ^ 62 then .error resBadArgument
    else if !hostServo t b then .error resIllegal
    else
      let t1 := served b (stepDomain b x t)
      .ok (if domState t b = 0 || domState t b = 2 then setDomState b 1 0 t1 else t1, resOk, 0)) s
/-- STEP (R346). -/
def execStep (c : Caller) (a0 a1 a2 : Nat) (s : State) : Result := .next (cmdStep c a0 a1 a2 s).1

/-- The SET_LOCK command. -/
def cmdSetLock (c : Caller) (b v : Nat) (s : State) : State × Reply :=
  runCommand 3 0x03 c b (some [roleOperator]) (clapLegal s) (fun t =>
    if !ptpBase b || v > 1 then .error resBadArgument
    else if !hostServo t b || (domState t b == 0 && v == 0) then .error resIllegal
    else .ok (setDomState b (if v = 1 then 2 else 3) 2 (served b t), resOk, 0)) s
/-- SET_LOCK (R346). -/
def execSetLock (c : Caller) (a0 a1 : Nat) (s : State) : Result := .next (cmdSetLock c a0 a1 s).1

/-- The SELECT command: each one is recorded (R337). DEDUCED, log entry 101. -/
def cmdSelect (c : Caller) (b : Nat) (s : State) : State × Reply :=
  runCommand 3 0x04 c b (some [roleEngineer]) (clapLegal s) (fun t =>
    let cur := getF t F.CLAP.STATUS_SELECTED
    let again := fun (u : State) =>
      if getF u F.CLAP.STATUS_SELECTED = cur then emit 0x0306 cur cur (ofSigned 32 (phaseError u)) u else u
    if b ≠ 0 && !ptpBase b then .error resBadArgument
    else if b = 0 then .ok (again (reselect (setF F.CLAP.STATUS_FORCED 0 t)), resOk, 0)
    else if !(domState t b == 2 || domState t b == 3) then .error resIllegal
    else .ok (again (selectDomain b (setF F.CLAP.STATUS_FORCED 1 t)), resOk, 0)) s
/-- SELECT (R335, R346). -/
def execSelect (c : Caller) (a0 : Nat) (s : State) : Result := .next (cmdSelect c a0 s).1

/-- Commands of CLAP by opcode. -/
def clapCommand (op : Nat) (c : Caller) (a0 a1 a2 : Nat) (s : State) : State × Reply :=
  match op with
  | 1 => cmdSetIncrement c a0 a1 a2 s
  | 2 => cmdStep c a0 a1 a2 s
  | 3 => cmdSetLock { c with spare := [a2] } a0 a1 s
  | 4 => cmdSelect { c with spare := [a1, a2] } a0 s
  | _ => refuseOpcode 3 op c a0 s

end Sys2Proof.Machine
end

