-- ==== Sys2Proof/Machine/Can.lean ====
section
/-! DEFINITION. The CAN ports: reception, signals, queues, the schedule matrix, error states (R384 to R407). -/

namespace Sys2Proof.Machine

open Sys2Proof

/-- A used port's entry. -/
def canCfg (s : State) (c : Nat) : Option CanPortCfg := (s.cfg.can.getD {}).ports.getD c none
/-- A port's state. -/
def canPort (s : State) (c : Nat) : CanPort := s.can.ports.getD c {}
/-- Change a port's state. -/
def updPort (c : Nat) (f : CanPort → CanPort) (s : State) : State :=
  { s with can := { s.can with ports := listUpd {} s.can.ports c f } }
/-- CAN has power and clock. -/
def canRuns (s : State) : Bool := unitRuns s 17
/-- A port's MODE: 0 OFF, 1 NORMAL, 2 MONITORING. -/
def canMode (s : State) (c : Nat) : Nat := getF s (F.CAN.PORT_STATE_MODE c)
/-- A port's ERROR_STATE: 0 ACTIVE, 1 PASSIVE, 2 BUS_OFF, 3 RECOVERING. -/
def canError (s : State) (c : Nat) : Nat := getF s (F.CAN.PORT_STATE_ERROR_STATE c)
/-- The used ports. -/
def usedPorts (s : State) : List (Nat × CanPortCfg) :=
  [0, 1, 2, 3].filterMap (fun c => (canCfg s c).map (fun p => (c, p)))
/-- A buffer's entry. -/
def bufCfg (p : CanPortCfg) (b : Nat) : Option CanBufCfg := p.buffers.find? (fun x => x.buffer == b)
/-- A buffer is HALTED (R403). -/
def bufHalted (s : State) (c b : Nat) : Bool := flag s (F.CAN.BUF_STATUS_HALTED c b)

/-! ### Frames and their bound (R384 to R386) -/

/-- Data bytes of a DLC. -/
def dlcBytes (d : Nat) : Nat := [0, 1, 2, 3, 4, 5, 6, 7, 8, 12, 16, 20, 24, 32, 48].getD d 64
/-- Nominal and data bit time in 1/2 ns (R385). -/
def nominalBit (p : CanPortCfg) : Nat := p.nbrp * (1 + p.ntseg1 + p.ntseg2) * 25
/-- See nominalBit. -/
def dataBit (p : CanPortCfg) : Nat := p.dbrp * (1 + p.dtseg1 + p.dtseg2) * 25
/-- The wire-time bound in ns, rounded up (R386). -/
def wireBound (p : CanPortCfg) (fdf brs ide : Bool) (dlc : Nat) : Nat :=
  let n := dlcBytes dlc
  let half :=
    if fdf then
      let a := if ide then 36 else 17
      let td := if brs then dataBit p else nominalBit p
      (a + 12 + (a + 4 + 8 * n) / 4) * nominalBit p + (if n ≤ 16 then 8 * n + 33 else 8 * n + 38) * td
    else if ide then (67 + 8 * n + (53 + 8 * n) / 4) * nominalBit p
    else (47 + 8 * n + (33 + 8 * n) / 4) * nominalBit p
  (half + 1) / 2
/-- The identifier as it competes on the bus: a base identifier stands before every extended one with its bits. -/
def arbKey (id : Nat) (ide : Bool) : Nat := if ide then 2 * id + 1 else 2 * (id * 2 ^ 18)
/-- BUF_ID of an identifier and format (R408). -/
def bufIdWord (id : Nat) (fdf brs ide : Bool) : Nat :=
  id + ofBool fdf * 2 ^ 29 + ofBool brs * 2 ^ 30 + ofBool ide * 2 ^ 31

/-! ### Signals (R389) -/

/-- The bit positions of a signal, least significant first, from its most significant one downward. -/
def bePositions : Nat → Nat → List Nat
  | _, 0 => []
  | b, n + 1 => bePositions (if b % 8 = 0 then b + 15 else b - 1) n ++ [b]
/-- The bit positions of a signal, least significant first. -/
def signalBits (x : CanSignal) : List Nat :=
  if x.bigEndian then bePositions x.startBit x.length else (List.range x.length).map (fun k => x.startBit + k)
/-- The raw field of a signal. -/
def rawOf (x : CanSignal) (data : Nat) : Nat :=
  (signalBits x).foldr (fun b a => 2 * a + data / 2 ^ b % 2) 0
/-- Place a raw field into data whose bits there are 0. -/
def placeRaw (x : CanSignal) (raw data : Nat) : Nat :=
  ((signalBits x).zip (List.range x.length)).foldl (fun d e => d + raw / 2 ^ e.2 % 2 * 2 ^ e.1) data
/-- A received signal's value by its point's TYPE. DEDUCED, log entry 116. -/
def decodeSignal (x : CanSignal) (typ data : Nat) : Word :=
  let raw := rawOf x data
  let i : Int := if x.signed then toSigned x.length raw else raw
  if typ = 0 then
    if x.float then BitVec.ofNat 32 raw
    else f64to32 (f64Add (f64Mul (f64OfInt i) (f32to64 x.scale)) (f32to64 x.offset))
  else BitVec.ofInt 32 i
/-- A sent signal's raw field. DEDUCED, log entry 116. -/
def encodeSignal (x : CanSignal) (typ : Nat) (v : Word) : Nat :=
  let lo : Int := if x.signed then -(2 ^ (x.length - 1) : Nat) else 0
  let hi : Int := if x.signed then (2 ^ (x.length - 1) : Nat) - 1 else (2 ^ x.length : Nat) - 1
  let sat := fun (i : Int) => ofSigned x.length (max lo (min hi i))
  if typ = 0 then
    if x.float then v.toNat
    else sat (f64ToInt (f64Div (f64Sub (f32to64 v) (f32to64 x.offset)) (f32to64 x.scale)))
  else if typ = 1 then sat v.toInt
  else if typ = 4 then sat v.toNat
  else v.toNat % 2 ^ x.length
/-- The signals of a buffer. -/
def bufSignals (p : CanPortCfg) (b : CanBufCfg) : List CanSignal := (p.signals.drop b.signalFirst).take b.signals

/-! ### Buffers (R390 to R392) -/

/-- Write a message into the registers of a buffer: identifier, stamp, DLC and data. -/
def putMessage (c b idWord dlc data : Nat) (s : State) : State :=
  (List.range 16).foldl (fun t k => setF (F.CAN.BUF_DATA c b k) (data / 2 ^ (32 * k)) t)
    (setF (F.CAN.BUF_ID c b) idWord (setF (F.CAN.BUF_STATUS_DLC c b) dlc s))
/-- Write the stamp of the last frame received or sent. -/
def putStamp (c b stamp : Nat) (s : State) : State :=
  setF (F.CAN.BUF_STAMP_LO c b) (lo32 stamp) (setF (F.CAN.BUF_STAMP_HI c b) (hi32 stamp) s)
/-- The stamp of a received frame: its start-of-frame edge with the CAN port entry's adjustment (R338, R385). -/
def canStamp (c : Nat) (f : CanFrame) (s : State) : Nat := portStampAgo s (13 + c) f.ago
/-- A received frame updates a buffer as one step: identifier, stamp, data, SEQ, NEW_DATA (R391). -/
def fillBuffer (c b : Nat) (f : CanFrame) (s : State) : State :=
  let data := f.data % 2 ^ (8 * dlcBytes f.dlc)
  let s1 := putStamp c b (canStamp c f s) (putMessage c b (bufIdWord f.id f.fdf f.brs f.ide) f.dlc data s)
  setF (F.CAN.BUF_STATUS_SEQ c b) (getF s1 (F.CAN.BUF_STATUS_SEQ c b) + 1)
    (setF (F.CAN.BUF_STATUS_NEW_DATA c b) 1 (setF (F.CAN.BUF_STATUS_ESI c b) (ofBool f.esi) s1))

/-- The aging path of an RX buffer (R390). -/
def ageBuffer (c : Nat) (p : CanPortCfg) (b : CanBufCfg) (s : State) : State :=
  if flag s (F.CAN.BUF_STATUS_AGED c b.buffer) then s
  else
    let s1 := (bufSignals p b).foldl (fun t x => declareAbsent x.point t) s
    let s2 := updPort c (fun q =>
      let a := tableGet {} q.ages b.buffer
      { q with ages := tablePut {} q.ages b.buffer { a with agedAt := s1.tick.number } }) s1
    emit 0x1106 c b.buffer b.maxAge (setF (F.CAN.BUF_STATUS_AGED c b.buffer) 1 s2)
/-- An RX buffer whose age has reached MAX_AGE_TICKS. -/
def ageDue (s : State) (c : Nat) (b : CanBufCfg) : Bool :=
  b.kind == 0 && b.maxAge != 0 && !bufHalted s c b.buffer &&
    decide (s.tick.number ≥ (tableGet {} (canPort s c).ages b.buffer).since + b.maxAge)
/-- The ages of all buffers at the freeze. -/
def canFreeze (s : State) : State :=
  if !canRuns s || !inState s .live then s
  else (usedPorts s).foldl (fun t e =>
    e.2.buffers.foldl (fun u b => if ageDue u e.1 b then ageBuffer e.1 e.2 b u else u) t) s

/-- MESSAGE_AGED (R390): the check of one buffer at the freeze, in the live image and the snapshot. -/
def execMessageAged (c b : Nat) (s : State) : Result :=
  .next (match canCfg s c with
    | none => s
    | some p => match bufCfg p b with
      | none => s
      | some x =>
        if canRuns s && inState s .live && ageDue s c x && !flag s (F.CAN.BUF_STATUS_AGED c b) then
          let t := ageBuffer c p x s
          (bufSignals p x).foldl (fun u g =>
            { u with pimg := { u.pimg with snap := tablePut {} u.pimg.snap g.point (livePoint u g.point) } }) t
        else s)

/-! ### Queues (R393, R394) -/

/-- Q_FILL of a port's four queues. -/
def showQueues (c : Nat) (s : State) : State :=
  let q := canPort s c
  setF (F.CAN.Q_FILL (4 * c)) q.host.length (setF (F.CAN.Q_FILL (4 * c + 1)) q.periodic.length
    (setF (F.CAN.Q_FILL (4 * c + 2)) q.scheduled.length (setF (F.CAN.Q_FILL (4 * c + 3)) (ofBool q.reference.isSome) s)))
/-- The queue of a source, 48 + 4c + k, as k. -/
def sourceQueue : CanSource → Nat
  | .reference => 3
  | .scheduled _ => 2
  | .periodic _ => 1
  | .host => 0
/-- Insert in launch order. -/
def insertWait (w : CanWait) : List CanWait → List CanWait
  | [] => [w]
  | x :: xs => if w.launch < x.launch then w :: x :: xs else x :: insertWait w xs
/-- A SCHEDULED or PERIODIC buffer becomes pending. -/
def makePending (c : Nat) (b : CanBufCfg) (launch : Nat) (s : State) : State :=
  let w : CanWait := { buffer := b.buffer, launch := launch }
  showQueues c (setF (F.CAN.BUF_STATUS_PENDING c b.buffer) 1 (updPort c (fun q =>
    if b.kind = 2 then { q with scheduled := insertWait w q.scheduled } else { q with periodic := insertWait w q.periodic }) s))
/-- CAN's transmit buffers, in port order and then in buffer order. -/
def canOutputs (s : State) : List (Nat × CanPortCfg × CanBufCfg) :=
  (usedPorts s).flatMap (fun e => (e.2.buffers.filter (fun b => b.kind != 0)).map (fun b => (e.1, e.2, b)))
/-- The published values go into the transmit buffers (R394): the output move of CAN (R30), for the first `n` of them. -/
def moveCanOutputs (n : Nat) (s : State) : State :=
  ((canOutputs s).take n).foldl (fun u x =>
    if bufHalted u x.1 x.2.2.buffer then u
    else
      let b := x.2.2
      let data := (bufSignals x.2.1 b).foldl (fun d y =>
        placeRaw y (encodeSignal y (windowPoint u y.point).typ (windowPoint u y.point).value) d) 0
      putMessage x.1 b.buffer (bufIdWord b.id b.fdf b.brs b.ide) b.dlc data u) s
/-- At a Curtain the due PERIODIC buffers become pending, with launch time T(X + 1) (R394); the wait of a new Lead
for its first Curtain ends (R402). -/
def canCurtain (s : State) : State :=
  (usedPorts s).foldl (fun t e =>
    let c := e.1
    let t0 := updPort c (fun q => { q with awaitCurtain := false }) t
    if canMode t0 c ≠ 1 then t0
    else (e.2.buffers.filter (fun b => b.kind == 1 && !bufHalted t0 c b.buffer)).foldl (fun u b =>
      if ((u.tick.number : Int) - (b.phase : Int)) % (b.period : Int) ≠ 0 then u
      else if flag u (F.CAN.BUF_STATUS_PENDING c b.buffer) then bumpF (F.CAN.SUPERSEDED c) 1 u
      else makePending c b (u.tick.startNs + 125000) u) t0) s

/-! ### Starting frames (R395 to R399) -/

/-- What a source would send: identifier, format, DLC, data, launch time; none where it does not wait. -/
def offerOf (s : State) (c : Nat) (p : CanPortCfg) (x : CanSource) : Option (Nat × Bool × Bool × Bool × Nat × Nat × Nat) :=
  let q := canPort s c
  let ofBuf := fun (ws : List CanWait) (b : Nat) =>
    match ws.find? (fun w => w.buffer == b), bufCfg p b with
    | some w, some k =>
      let data := (List.range 16).foldr (fun j a => a * 2 ^ 32 + getF s (F.CAN.BUF_DATA c b j)) 0
      some (k.id, k.ide, k.fdf, k.brs, k.dlc, data, w.launch)
    | _, _ => none
  match x with
  | .reference => q.reference.map (fun r => (p.refId, p.refIde, false, false, 4, r.1, r.2))
  | .scheduled b => ofBuf q.scheduled b
  | .periodic b => ofBuf q.periodic b
  | .host => q.host.head?.map (fun h => (h.id % 2 ^ 29, h.ctrl / 64 % 2 == 1, h.ctrl / 16 % 2 == 1,
      h.ctrl / 32 % 2 == 1, h.ctrl % 16, h.data, h.launch))
/-- Start a source's frame now, unless its bound, with the suspend delay of an error-passive port (R400), passes the
end of the window. DEDUCED, log entry 115. -/
def startCan (c : Nat) (p : CanPortCfg) (x : CanSource) (stop : Option Nat) (s : State) : State :=
  match offerOf s c p x with
  | none => s
  | some (_, ide, fdf, brs, dlc, data, launch) =>
    let wait := if canError s c = 1 then (8 * nominalBit p + 1) / 2 else 0
    let now := nowNs s 1
    let fits := match stop with
      | some e => decide (now + wait + wireBound p fdf brs ide dlc ≤ e)
      | none => true
    let free := match (canPort s c).mustFirst with
      | some m => m == x
      | none => true
    if fits && free then
      let w : CanTx := { source := x, data := data, launch := launch, startNs := now + wait,
                         stamp := stampAt s (((stampNs s + wait : Nat) : Int) - toSigned 32 (getF s (F.CLAP.TX_ADJ (13 + c)))).toNat }
      updPort c (fun q => { q with onWire := some w, attempted := true }) s
    else s

/-- The heads of the PERIODIC and host queues with their identifiers, those ready only where asked (R395). -/
def arbHeads (s : State) (c : Nat) (p : CanPortCfg) (onlyReady : Bool) : List (Nat × CanSource) :=
  let q := canPort s c
  let heads := (q.periodic.head?.map (fun w => CanSource.periodic w.buffer)).toList ++
    (q.host.head?.map (fun _ => CanSource.host)).toList
  heads.filterMap (fun x =>
    match offerOf s c p x with
    | some (id, ide, _, _, _, _, launch) =>
      if !onlyReady || launch ≤ nowNs s 1 then some (arbKey id ide, x) else none
    | none => none)
/-- The waiting SCHEDULED buffers with their identifiers. -/
def scheduledWaits (s : State) (c : Nat) (p : CanPortCfg) : List (Nat × CanSource) :=
  (canPort s c).scheduled.filterMap (fun w => (bufCfg p w.buffer).map (fun b => (arbKey b.id b.ide, CanSource.scheduled b.buffer)))
/-- The source with the lowest identifier. -/
def lowestOf : List (Nat × CanSource) → Option CanSource
  | [] => none
  | e :: es => some (es.foldl (fun a b => if b.1 < a.1 then b else a) e).2

/-- The cycle count and the cycle's start on Local and in ticks, at the present tick (R396). -/
def cycleCount (s : State) (p : CanPortCfg) : Nat :=
  (((s.tick.number : Int) - (p.cyclePhase : Int)) / (p.cycleTicks : Int) % 64).toNat
/-- Ticks since the basic cycle began. -/
def cycleTick (s : State) (p : CanPortCfg) : Nat :=
  (((s.tick.number : Int) - (p.cyclePhase : Int)) % (p.cycleTicks : Int)).toNat
/-- Local count at the start of the basic cycle. -/
def cycleStart (s : State) (p : CanPortCfg) : Nat := s.tick.startNs - 125000 * cycleTick s p
/-- Start and end of a window on Local. -/
def windowSpan (s : State) (p : CanPortCfg) (w : CanWindow) : Nat × Nat :=
  (cycleStart s p + w.startNs, cycleStart s p + w.startNs + w.lengthNs)
/-- The cell of a window in the present cycle. -/
def cellOf (s : State) (p : CanPortCfg) (w : Nat) : Nat := p.matrix.getD (64 * cycleCount s p + w) 0xFF

/-- The port offers what may start now (R395, R397, R398). DEDUCED, log entry 115. -/
def offerCan (c : Nat) (p : CanPortCfg) (s : State) : State :=
  let q := canPort s c
  if canMode s c ≠ 1 || canError s c ≥ 2 || q.onWire.isSome then s
  else
    let lowest := match q.mustFirst with
      | some m => if (arbHeads s c p true).any (fun e => e.2 == m) then some m else none
      | none => lowestOf (arbHeads s c p true)
    let arb := fun (stop : Option Nat) => match lowest with
      | some x => startCan c p x stop s
      | none => s
    if !p.tt then arb none
    else match q.window with
      | none => s
      | some k =>
        let w := p.windows.getD k {}
        let span := windowSpan s p w
        if nowNs s 1 < span.1 || nowNs s 1 ≥ span.2 then s
        else match w.kind with
          | 1 => if q.attempted then s else startCan c p .reference (some span.2) s
          | 2 => if q.attempted then s else startCan c p (.scheduled (cellOf s p k)) (some span.2) s
          | 3 => arb (some span.2)
          | _ => s

/-- CAN_WINDOW_START (R396 to R399): a window opens at its start; its reference message or the buffer of its cell
becomes pending, and what may start does. -/
def execCanWindowStart (c k : Nat) (s : State) : Result :=
  .next (match canCfg s c with
    | none => s
    | some p =>
      let w := p.windows.getD k {}
      let span := windowSpan s p w
      let q := canPort s c
      if !canRuns s || !inState s .live || !p.tt || k ≥ p.windows.length || q.window.isSome ||
          nowNs s 1 < span.1 || nowNs s 1 ≥ span.2 then s
      else
        let n := cycleCount s p
        let s1 := setF (F.CAN.CYCLE_WINDOW c) k (setF (F.CAN.CYCLE_COUNT c) n
          (updPort c (fun q => { q with window := some k, attempted := false, complete := false }) s))
        let s2 :=
          if canMode s1 c ≠ 1 then s1
          else if w.kind = 1 && !(canPort s1 c).awaitCurtain then
            let t := (s1.tick.number - cycleTick s1 p) % 2 ^ 24
            showQueues c (updPort c (fun q => { q with reference := some (n + 256 * t, span.1) }) s1)
          else if w.kind = 2 then
            match bufCfg p (cellOf s1 p k) with
            | some b =>
              if bufHalted s1 c b.buffer || flag s1 (F.CAN.BUF_STATUS_PENDING c b.buffer) then s1
              else makePending c b span.1 s1
            | none => s1
          else s1
        offerCan c p s2)

/-- The open window of a port is over: the instant lies outside its span in the present cycle. -/
def windowOver (s : State) (p : CanPortCfg) (k : Nat) : Bool :=
  let span := windowSpan s p (p.windows.getD k {})
  decide (nowNs s 1 < span.1) || decide (nowNs s 1 ≥ span.2)

/-- CAN_WINDOW_END (R398): a cell, or a REFERENCE window, that ends without a complete send is missed; a frame that
waits under HOLD counts in Q_LATE (R393). -/
def execCanWindowEnd (c : Nat) (s : State) : Result :=
  .next (match canCfg s c, (canPort s c).window with
    | some p, some k =>
      if !windowOver s p k then s else
      let w := p.windows.getD k {}
      let q := canPort s c
      let n := getF s (F.CAN.CYCLE_COUNT c)
      let b := p.matrix.getD (64 * n + k) 0xFF
      let s1 := updPort c (fun x => { x with window := none }) s
      if canMode s c ≠ 1 then s1
      else match w.kind with
        | 1 =>
          if q.complete || q.reference.isNone then s1
          else bumpF (F.CAN.REF_MISSED c) 1 (bumpF (F.CAN.Q_LATE (4 * c + 3)) 1
            (showQueues c (updPort c (fun x => { x with reference := none }) s1)))
        | 2 =>
          if b = 0xFF || q.complete then s1
          else
            let s2 := emit 0x1105 c b (n * 64 + k) (bumpF (F.CAN.WINDOW_MISSED c) 1 s1)
            if flag s2 (F.CAN.BUF_STATUS_PENDING c b) then bumpF (F.CAN.Q_LATE (4 * c + 2)) 1 s2 else s2
        | 3 =>
          (arbHeads s1 c p true).foldl (fun t e => bumpF (F.CAN.Q_LATE (4 * c + sourceQueue e.2)) 1 t) s1
        | _ => s1
    | _, _ => s)

/-- A CAN port's turn of FRAME_LAUNCH (R359, R395): what may start now does. -/
def canLaunch (c : Nat) (s : State) : State :=
  match canCfg s c with
  | some p => if canRuns s && inState s .live then offerCan c p s else s
  | none => s

/-- FRAME_LAUNCH (R359): the port chooses its next ready frame and starts it. Ports are 0 to 3 for the backbone, 8 + l
for long-reach port l, 16 + c for CAN port c. -/
def execFrameLaunch (p : Nat) (s : State) : Result :=
  .next (if 16 ≤ p && p < 20 then canLaunch (p - 16) s else launchPort p s)

/-! ### Error states (R400, R401) -/

/-- Show PASSIVE_ANY and BUS_OFF_ANY. -/
def showErrors (s : State) : State :=
  setF F.CAN.STATUS_PASSIVE_ANY (ofBool ([0, 1, 2, 3].any (fun c => canError s c == 1)))
    (setF F.CAN.STATUS_BUS_OFF_ANY (ofBool ([0, 1, 2, 3].any (fun c => canError s c ≥ 2))) s)
/-- Set TEC and REC; error-passive is entered and left at 128 (R400). -/
def setCounters (c tec rec : Nat) (s : State) : State :=
  let was := canError s c
  let s1 := setF (F.CAN.ERROR_COUNTERS_TEC c) (min tec 256) (setF (F.CAN.ERROR_COUNTERS_REC c) (min rec 255) s)
  let passive := decide (tec ≥ 128) || decide (rec ≥ 128)
  if was ≥ 2 then s1
  else
    let s2 := showErrors (setF (F.CAN.PORT_STATE_ERROR_STATE c) (ofBool passive) s1)
    if passive && was = 0 then emit 0x1101 c tec rec s2
    else if !passive && was = 1 then emit 0x1102 c tec rec s2
    else s2
/-- The buffer number that a record shows for a source: 0xFF where it is no buffer. -/
def sourceBuffer : CanSource → Nat
  | .scheduled b => b
  | .periodic b => b
  | _ => 0xFF
/-- The SCHEDULED buffer whose cell a port serves: that of its open EXCLUSIVE window, while it waits (R401). -/
def servedCell (s : State) (c : Nat) (p : CanPortCfg) : Option CanSource :=
  match (canPort s c).window with
  | none => none
  | some k =>
    let b := p.matrix.getD (64 * getF s (F.CAN.CYCLE_COUNT c) + k) 0xFF
    if (p.windows.getD k {}).kind == 2 && b != 0xFF && flag s (F.CAN.BUF_STATUS_PENDING c b) then some (.scheduled b) else none
/-- The port goes bus-off (R401). DEDUCED, log entry 115. -/
def busOff (c : Nat) (p : CanPortCfg) (sending : Option CanSource) (s : State) : State :=
  let served := servedCell s c p
  let s1 := bumpF (F.CAN.BUS_OFF_COUNT c) 1 (setF (F.CAN.ERROR_COUNTERS_TEC c) 256
    (setF (F.CAN.PORT_STATE_ERROR_STATE c) (if p.autoRecover then 3 else 2)
      (updPort c (fun q => { q with mustFirst := served, recoverFrom := nowNs s 1 }) s)))
  let s2 := emit 0x1103 c ((sending.map sourceBuffer).getD 0xFF) (getF s1 (F.CAN.BUS_OFF_COUNT c)) (showErrors s1)
  (p.buffers.filter (fun b => b.kind == 0)).foldl (fun t b => ageBuffer c p b t) s2

/-- CAN_BUS_ERROR (R400, R401): an error or a loss of arbitration on port `c`; `tec` and `rec` are the counters as
ISO 11898-1 then gives them. A frame on the wire ends; it waits in its queue and is offered again. -/
def execCanBusError (c tec rec : Nat) (s : State) : Result :=
  .next (match canCfg s c with
    | none => s
    | some p =>
      if !canRuns s || canMode s c = 0 || canError s c ≥ 2 then s
      else
        let sending := (canPort s c).onWire.map CanTx.source
        let s1 := setCounters c tec rec (updPort c (fun q => { q with onWire := none }) s)
        if tec > 255 then busOff c p sending s1 else s1)

/-- RECOVERY_DONE (R401): 128 occurrences of 11 recessive bits have passed since recovery began. -/
def execRecoveryDone (c : Nat) (s : State) : Result :=
  .next (match canCfg s c with
    | none => s
    | some p =>
      let q := canPort s c
      if canError s c ≠ 3 || nowNs s 1 < q.recoverFrom + (1408 * nominalBit p + 1) / 2 then s
      else
        let first := match q.mustFirst with
          | some m => some m
          | none => lowestOf (arbHeads s c p false ++ scheduledWaits s c p)
        showErrors (setF (F.CAN.PORT_STATE_ERROR_STATE c) 0 (setF (F.CAN.ERROR_COUNTERS_TEC c) 0
          (setF (F.CAN.ERROR_COUNTERS_REC c) 0 (updPort c (fun q => { q with mustFirst := first, recovered := true }) s)))))

/-- A ring 7 entry (R501): the port, flags, DLC, identifier and data. -/
def stageCan (c : Nat) (fdf brs ide esi sent : Bool) (dlc id data stamp : Nat) (s : State) : State :=
  let flags := ofBool fdf + 2 * ofBool brs + 4 * ofBool ide + 8 * ofBool esi + 16 * ofBool sent
  stageEntry 7 1 72 stamp ([c + flags * 2 ^ 8 + dlc * 2 ^ 16, id] ++
    (List.range 16).map (fun k => lo32 (data / 2 ^ (32 * k)))) s

/-- Take the sent frame out of its queue. -/
def leaveQueue (c : Nat) (x : CanSource) (stamp : Nat) (s : State) : State :=
  match x with
  | .reference => updPort c (fun q => { q with reference := none }) s
  | .scheduled b => putStamp c b stamp (setF (F.CAN.BUF_STATUS_PENDING c b) 0
      (updPort c (fun q => { q with scheduled := q.scheduled.filter (fun w => w.buffer != b) }) s))
  | .periodic b => putStamp c b stamp (setF (F.CAN.BUF_STATUS_PENDING c b) 0
      (updPort c (fun q => { q with periodic := q.periodic.filter (fun w => w.buffer != b) }) s))
  | .host => updPort c (fun q => { q with host := q.host.drop 1 }) s

/-- CAN_FRAME_SENT (R395, R401): the frame on the wire completes and leaves its queue; the first one after recovery is
recorded with its delay. -/
def execCanFrameSent (c : Nat) (s : State) : Result :=
  .next (match canCfg s c, (canPort s c).onWire with
    | some p, some w =>
      if !canRuns s || canMode s c ≠ 1 then s else
      let offer := offerOf s c p w.source
      let s1 := updPort c (fun q => { q with onWire := none, complete := true }) s
      let s2 := showQueues c (leaveQueue c w.source w.stamp s1)
      let s3 := bumpF (F.CAN.TX_FRAMES c) 1 (bumpF (F.CAN.Q_SENT (4 * c + sourceQueue w.source)) 1 s2)
      let s4 := match offer with
        | some (id, ide, fdf, brs, dlc, _, _) =>
          if w.source = .host then stageCan c fdf brs ide false true dlc id w.data w.stamp s3 else s3
        | none => s3
      let s5 := if (canPort s4 c).recovered then
          emit 0x1104 c (sourceBuffer w.source) ((w.startNs - w.launch) / 1000)
            (updPort c (fun q => { q with mustFirst := none, recovered := false }) s4)
        else s4
      setCounters c (getF s5 (F.CAN.ERROR_COUNTERS_TEC c) - 1) (getF s5 (F.CAN.ERROR_COUNTERS_REC c)) s5
    | _, _ => s)

/-! ### Faults (R403, R404) -/

/-- An error in a buffer's configuration or stored message HALTs it (R403). -/
def haltBuffer (c b addr : Nat) (s : State) : State :=
  match canCfg s c with
  | none => s
  | some p => match bufCfg p b with
    | none => s
    | some x =>
      if bufHalted s c b then s
      else
        let s1 := if x.kind = 0 then ageBuffer c p x s
          else showQueues c (setF (F.CAN.BUF_STATUS_PENDING c b) 0 (updPort c (fun q => { q with
            scheduled := q.scheduled.filter (fun w => w.buffer != b)
            periodic := q.periodic.filter (fun w => w.buffer != b)
            mustFirst := if q.mustFirst = some (.scheduled b) || q.mustFirst = some (.periodic b) then none
              else q.mustFirst }) s))
        emit 0x1108 c b (lo32 addr) (setF F.CAN.STATUS_MEMORY_ERROR 1 (setF (F.CAN.BUF_STATUS_HALTED c b) 1 s1))
/-- An error in a port's timing or matrix configuration (R403). -/
def haltPort (c addr : Nat) (s : State) : State :=
  match canCfg s c with
  | none => s
  | some p =>
    let s1 := p.buffers.foldl (fun t b =>
      let t1 := if b.kind = 0 then ageBuffer c p b t else setF (F.CAN.BUF_STATUS_PENDING c b.buffer) 0 t
      setF (F.CAN.BUF_STATUS_HALTED c b.buffer) 1 t1) s
    let s2 := showQueues c (updPort c (fun q => { q with
      scheduled := [], periodic := [], reference := none, onWire := none, mustFirst := none, halted := true }) s1)
    emit 0x1108 c 0xFF (lo32 addr) (setF F.CAN.STATUS_MEMORY_ERROR 1 (setF (F.CAN.PORT_STATE_MODE c) 2 s2))
/-- A FAULTED CAN: every port monitors (R404); a frame on the wire breaks off. -/
def canFault (s : State) : State :=
  (usedPorts s).foldl (fun t e =>
    setF (F.CAN.PORT_STATE_MODE e.1) 2 (updPort e.1 (fun q => { q with onWire := none }) t)) s

/-! ### Reception (R388) -/

/-- The first filter that takes the frame. -/
def filterFor (p : CanPortCfg) (f : CanFrame) : Option CanFilter :=
  p.filters.find? (fun x => x.ide == f.ide && (x.id &&& x.mask) == (f.id &&& x.mask))
/-- A frame reaches its buffer: the aging ends, the buffer is filled and its signals are written. -/
def receiveInto (c : Nat) (p : CanPortCfg) (b : CanBufCfg) (f : CanFrame) (s : State) : State :=
  if bufHalted s c b.buffer then s
  else match f.bufferError with
    | some a => haltBuffer c b.buffer a (noteUe 6 a (some 17) s)
    | none =>
      let a := tableGet {} (canPort s c).ages b.buffer
      let s0 := updPort c (fun q => { q with ages := tablePut {} q.ages b.buffer { since := s.tick.number + 1 } }) s
      let s1 := if flag s0 (F.CAN.BUF_STATUS_AGED c b.buffer) then
          emit 0x1107 c b.buffer (s0.tick.number - a.agedAt) (setF (F.CAN.BUF_STATUS_AGED c b.buffer) 0 s0)
        else s0
      let s2 := fillBuffer c b.buffer f s1
      if f.dlc ≠ b.dlc then bumpF (F.CAN.RX_ERRORS c) 1 s2
      else (bufSignals p b).foldl (fun t x =>
        sampleIn 17 x.point (decodeSignal x (((pointCfg t x.point).map PointCfg.typ).getD 0) f.data) (canStamp c f s) t) s2
/-- A successful reception lowers REC; from above 127 it falls to a value that ISO 11898-1 leaves open. -/
def lowerRec (c : Nat) (s : State) : State :=
  let r := getF s (F.CAN.ERROR_COUNTERS_REC c)
  let tec := getF s (F.CAN.ERROR_COUNTERS_TEC c)
  if r > 127 then
    let (v, t) := drawFree s
    setCounters c tec (119 + v.toNat % 9) t
  else setCounters c tec (r - 1) s

/-- CAN_FRAME_RX (R388): a frame is counted, filtered, and brought to its buffers, the host and the points. -/
def execCanFrameRx (c : Nat) (f : CanFrame) (s : State) : Result :=
  .next (match canCfg s c with
    | none => s
    | some p =>
      if !canRuns s || canMode s c = 0 || canError s c ≥ 2 then s
      else
        let s0 := lowerRec c (bumpF (F.CAN.RX_FRAMES c) 1 s)
        if f.remote then bumpF (F.CAN.RX_ERRORS c) 1 s0
        else match filterFor p f with
          | none => bumpF (F.CAN.RX_UNMATCHED c) 1 s0
          | some x =>
            let s1 := match bufCfg p x.buffer with
              | some b => receiveInto c p b f s0
              | none => s0
            let s2 := if x.highPriority then raiseCause (16 + c) (fillBuffer c 128 f s1) else s1
            if x.host then
              stageCan c f.fdf f.brs f.ide f.esi false f.dlc f.id (f.data % 2 ^ (8 * dlcBytes f.dlc)) (canStamp c f s) s2
            else s2)

/-! ### Go-live, switch-over (R402) -/

/-- Go-live: ports NORMAL, or MONITORING on a Stand-in; buffers as the Reel configures them. -/
def canGoLive (standIn : Bool) (s : State) : State :=
  (usedPorts s).foldl (fun t e =>
    let c := e.1
    let t1 := setF (F.CAN.PORT_STATE_MODE c) (if standIn then 2 else 1) (setF (F.CAN.PORT_STATE_ERROR_STATE c) 0
      (setF (F.CAN.ERROR_COUNTERS_TEC c) 0 (setF (F.CAN.ERROR_COUNTERS_REC c) 0 (updPort c (fun _ => {}) t))))
    showQueues c (e.2.buffers.foldl (fun u b => resetFields
      [F.CAN.BUF_STATUS_HALTED c b.buffer, F.CAN.BUF_STATUS_AGED c b.buffer, F.CAN.BUF_STATUS_PENDING c b.buffer] u) t1)) s
/-- Leaving LIVE: the ports are off, and a frame on the wire breaks off. -/
def canStop (s : State) : State :=
  (usedPorts s).foldl (fun t e => setF (F.CAN.PORT_STATE_MODE e.1) 0 (updPort e.1 (fun q => { q with onWire := none }) t)) s
/-- The first tick as Lead (R402): ports NORMAL, TEC and REC 0; the first reference waits for the first Curtain. A port
whose configuration failed, and every port of a FAULTED CAN, goes on monitoring (R403, R404). -/
def canSwitchOver (s : State) : State :=
  showErrors ((usedPorts s).foldl (fun t e =>
    let c := e.1
    let t1 := if canError t c = 1 then emit 0x1102 c 0 0 t else t
    let mode := if (canPort t c).halted || bitF t F.TICK.FAULTED 17 then 2 else 1
    setF (F.CAN.PORT_STATE_MODE c) mode (setF (F.CAN.PORT_STATE_ERROR_STATE c) 0 (setF (F.CAN.ERROR_COUNTERS_TEC c) 0
      (setF (F.CAN.ERROR_COUNTERS_REC c) 0
        (updPort c (fun q => { q with awaitCurtain := true, mustFirst := none, recovered := false }) t1))))) s)
/-- CAN's entry of the tick (R404). -/
def canTick (s : State) : State :=
  if !canRuns s || !inState s .live || (usedPorts s).isEmpty || bitF s F.TICK.FAULTED 17 then s
  else { s with tick := { s.tick with outbox := s.tick.outbox ++ [{ unit := 17, due := s.tick.number }] } }

/-! ### Commands (R407) -/

/-- An enqueue that a full queue refuses is counted. DEDUCED, log entry 115. -/
def countRefused (port : Nat) (x : State × Reply) : State × Reply :=
  if x.2.result = resExhausted then (bumpF (F.CAN.Q_REFUSED (4 * port)) 1 x.1, x.2) else x
/-- The SEND command. -/
def cmdSend (c : Caller) (port a1 : Nat) (s : State) : State × Reply :=
  countRefused port <| runCommand 17 0x01 c port (some [roleEngineer]) (inState s .live && (role s == 0 || role s == 1)) (fun t =>
    let ctrl := getF t (F.CAN.HTX_CTRL port)
    if a1 ≠ 0 || (canCfg t port).isNone || ctrl ≥ 128 || (ctrl / 16 % 2 = 0 && ctrl % 16 > 8) then .error resBadArgument
    else if canError t port = 2 || canMode t port = 2 then .error resIllegal
    else if (canPort t port).host.length ≥ 32 then .error resExhausted
    else
      let data := (List.range 16).foldr (fun j a => a * 2 ^ 32 + getF t (F.CAN.HTX_DATA port j)) 0
      let m : HostMessage := { id := getF t (F.CAN.HTX_ID port), ctrl := ctrl, data := data, launch := nowNs t 1 }
      .ok (showQueues port (updPort port (fun q => { q with host := q.host ++ [m] }) t), resOk, 0)) s
/-- SEND (R407). -/
def execSend (c : Caller) (a0 a1 : Nat) (s : State) : Result := .next (cmdSend c a0 a1 s).1

/-- The RECOVER command: recovery starts. -/
def cmdRecover (c : Caller) (port a1 : Nat) (s : State) : State × Reply :=
  runCommand 17 0x02 c port (some [roleOperator]) (inState s .live) (fun t =>
    match canCfg t port with
    | none => .error resBadArgument
    | some p =>
      if a1 ≠ 0 then .error resBadArgument
      else if canError t port ≠ 2 || p.autoRecover then .error resIllegal
      else .ok (showErrors (setF (F.CAN.PORT_STATE_ERROR_STATE port) 3
        (updPort port (fun q => { q with recoverFrom := nowNs t 1 }) t)), resOk, 0)) s
/-- RECOVER (R407). -/
def execRecover (c : Caller) (a0 a1 : Nat) (s : State) : Result := .next (cmdRecover c a0 a1 s).1

/-- Commands of CAN by opcode. -/
def canCommand (op : Nat) (c : Caller) (a0 a1 : Nat) (s : State) : State × Reply :=
  match op with
  | 1 => cmdSend c a0 a1 s
  | 2 => cmdRecover c a0 a1 s
  | _ => refuseOpcode 17 op c a0 s

end Sys2Proof.Machine
end

