-- ==== Sys2Proof/Machine/Tunable.lean ====
section
/-! DEFINITION. Tunables: their declarations, the values in force, and the writes of a Take (R81 to R87, R93). -/

namespace Sys2Proof.Machine

open Sys2Proof

/-- The declaration of a tunable ID. -/
def tunableOf (s : State) (id : Nat) : Option Tunable :=
  match s.cfg.tunables with
  | some t => t.entries.find? (fun e => e.id == id)
  | none => none

/-- The value that the Reel gives a target of KIND 1, 2, 3 or 5 (R82). DESIGN CHOICE, log entry 6. -/
def reelValue (r : Reel) (kind target : Nat) : Word :=
  match kind with
  | 1 => ((r.logic.getD {}).consts.getD target (0, 0)).1
  | 2 => match ((r.loops.getD {}).loops.find? (fun c => c.loop == target / 64)) with
    | some c => c.params.getD (target % 64) 0
    | none => 0
  | 3 => (r.model.getD {}).params.getD target 0
  | 5 => Config.metrologyParameter (r.metroSeal.getD {}).hash target
  | _ => 0

/-- Key of a target in the table of applied values. -/
def targetKey (kind target : Nat) : Nat := kind * 2 ^ 24 + target
/-- The value in force for a target of KIND 1, 2, 3 or 5. -/
def inForce (s : State) (kind target : Nat) : Word :=
  (tableGet none s.txn.values (targetKey kind target)).getD (reelValue s.cfg kind target)

/-- The field of a KIND 0 target. -/
def targetField (t : Tunable) : Option Field := (fieldsAt t.target).find? (fun f => f.lsb == t.lsb && f.width == t.width)

/-- The value in force for a tunable: the value that new work would use (R103). DEDUCED, log entry 54. -/
def tunableValue (s : State) (t : Tunable) : Word :=
  match t.kind with
  | 0 => match targetField t with
    | some f => BitVec.ofNat 32 (getF s f)
    | none => 0
  | 4 =>
    if s.tick.anyCurtain then (windowPoint s t.target).value
    else (tableGet none s.txn.values (targetKey 4 t.target)).getD (((pointCfg s t.target).map PointCfg.initial).getD 0)
  | k => inForce s k t.target

/-- A value lies in MIN to MAX, in the tunable's TYPE. -/
def inBounds (t : Tunable) (v : Word) : Bool := (outside t.typ v t.min t.max).isNone
/-- A change exceeds MAX_STEP, in the tunable's TYPE; 0 is no limit (R82). DEDUCED, log entry 47. -/
def stepTooLarge (t : Tunable) (cur v : Word) : Bool :=
  if t.maxStep = 0 then false
  else if t.typ = 0 then
    let d := fvAdd (f32v v) (fvNeg (f32v cur))
    fvCmp d (f32v t.maxStep) == some 1 || fvCmp (fvNeg d) (f32v t.maxStep) == some 1
  else if t.typ = 1 then decide ((v.toInt - cur.toInt).natAbs > t.maxStep.toInt.natAbs)
  else decide (((v.toNat : Int) - cur.toNat).natAbs > t.maxStep.toNat)
/-- The range of a TK field of JUG in binary32 (R190): powers of two from 2⁻¹⁰⁰ to 1. -/
def fieldRange (f : Field) : Option (F32 × F32) :=
  if f = F.JUG.PIVOT_TAU then some (0x0D800000, 0x3D800000)
  else if f = F.JUG.REFINE_TOL then some (0x25800000, 0x3A800000)
  else if f = F.JUG.FEAS_GATE then some (0x2B800000, 0x3F800000)
  else if f = F.JUG.PRIMAL_TOL || f = F.JUG.DUAL_TOL || f = F.JUG.GAP_TOL then some (0x26800000, 0x3D800000)
  else none
/-- A Take's value for a TK field lies in the field's own range (R190). -/
def fieldTakes (t : Tunable) (v : Word) : Bool :=
  match if t.kind = 0 then targetField t else none with
  | none => true
  | some f =>
    if f = F.JUG.SOLVE_CONFIG_MAX_ITER then decide (1 ≤ v.toNat) && decide (v.toNat ≤ 64)
    else match fieldRange f with
      | some (lo, hi) => f32Finite v && f32Le lo v && f32Le v hi
      | none => true
/-- The value check of STAGE (R87). -/
def valueOk (t : Tunable) (cur v : Word) : Bool :=
  (t.typ != 0 || f32Finite v) && inBounds t v && !stepTooLarge t cur v && fieldTakes t v

/-- Put one write of a Take in force (R93). `stamp` is that of the tick's snapshot. -/
def applyWrite (stamp : Nat) (w : TakeWrite) (s : State) : State :=
  match tunableOf s w.id with
  | none => s
  | some t =>
    match t.kind with
    | 0 => match targetField t with
      | some f => setF f w.value.toNat s
      | none => s
    | 4 => takeWritePoint t.target w.value stamp s
    | k => { s with txn := { s.txn with values := tablePut none s.txn.values (targetKey k t.target) (some w.value) } }

/-- Put a Take's writes in force, in staging order. -/
def applyWrites (stamp : Nat) (ws : List TakeWrite) (s : State) : State := ws.foldl (fun t w => applyWrite stamp w t) s

/-- The points that a Take's writes name. -/
def writtenPoints (s : State) (ws : List TakeWrite) : List Nat :=
  ws.filterMap (fun w => match tunableOf s w.id with
    | some t => if t.kind = 4 then some t.target else none
    | none => none)

end Sys2Proof.Machine
end

