-- ==== Sys2Proof/Machine/Car.lean ====
section
/-! DEFINITION. The Carousel logic processor: scans, the instruction set, timers and counters (R240 to R267). -/

namespace Sys2Proof.Machine

open Sys2Proof

/-! ### Configuration and scans -/

/-- The LOGIC section; empty where the Reel has none. -/
def logicSec (s : State) : LogicSec := s.cfg.logic.getD {}
/-- The declaration of task `t` (R260). -/
def logicTask (s : State) (t : Nat) : TaskCfg := ((logicSec s).tasks.find? (fun c => c.task == t)).getD {}
/-- The Call sheet's work entry of task `t` (R240). -/
def taskWork (s : State) (t : Nat) : Option WorkEntry := s.cfg.sheet.works.find? (fun w => w.unit == 10 && w.work == t)
/-- CAR scans: running, not FAULTED, and not waiting for a program exchange (R264). -/
def carRuns (s : State) : Bool :=
  unitRuns s 10 && flag s F.CAR.STATUS_RUNNING && !bitF s F.TICK.FAULTED 10 && !shadowIdle s &&
    !(role s == 2 && flag s F.SPOT.STATUS_PROGRAM_EXCHANGE)
/-- The scan of task `t`. -/
def scanOf (s : State) (t : Nat) : Option Scan := tableGet none s.car.scans t
/-- Store the scan of task `t`. -/
def putScan (t : Nat) (x : Option Scan) (s : State) : State :=
  { s with car := { s.car with scans := tablePut none s.car.scans t x } }
/-- TASK_STATE of task `t` (R266): SCANNING, DEPTH and ADDR. -/
def taskShown (s : State) (t : Nat) : Nat × Nat × Nat :=
  match scanOf s t with
  | some x => if x.ended then (0, 0, (logicTask s t).first) else (1, x.stack.length, x.addr)
  | none => (0, 0, (logicTask s t).first)
/-- A scan of task `t` starts at this tick (R240, R243, R244, R245). -/
def startScan (t : Nat) (s : State) : State :=
  let stamp := stampAt s s.tick.startNs
  let x : Scan := { start := s.tick.number, winTick := s.tick.number, addr := (logicTask s t).first, snap := s.pimg.snap,
                    stamp := stamp, values := s.txn.values, items := s.car.items }
  let due := s.tick.number + ((taskWork s t).map WorkEntry.period).getD 1 - 1
  expectResult 10 due t (putScan t (some x) { s with
    car := { s.car with stamps := tablePut 0 s.car.stamps t stamp }
    spot := { s.spot with scanned := if s.spot.scanned.contains t then s.spot.scanned else s.spot.scanned ++ [t] } })
/-- The scans that start at the present tick (R31, R240). -/
def startScans (s : State) : State :=
  if !carRuns s then s
  else
    let n := s.tick.number
    (s.cfg.sheet.works.filter (fun w => w.unit == 10 && decide (w.phase ≤ n) && (n - w.phase) % w.period == 0)).foldl
      (fun t w => startScan w.work t) s

/-! ### The instruction word (R248, R249) -/

/-- OPCODE. -/
def carOpcode (w : Word) : Nat := bitsOf w.toNat 31 26
/-- KIND. -/
def carKind (w : Word) : Nat := bitsOf w.toNat 25 24
/-- QBIT. -/
def carQbit (w : Word) : Nat := bitsOf w.toNat 23 20
/-- INDEX, or OFFSET of a jump. -/
def carIndex (w : Word) : Nat := bitsOf w.toNat 19 0

/-- A timer as the scan sees it. -/
def seeTimer (x : Scan) (i : Nat) : TimerState := (tableGet none x.writes.timers i).getD (tableGet {} x.items.timers i)
/-- A counter as the scan sees it. -/
def seeCounter (x : Scan) (i : Nat) : CounterState :=
  (tableGet none x.writes.counters i).getD (tableGet {} x.items.counters i)
/-- A flag as the scan sees it. -/
def seeFlag (x : Scan) (i : Nat) : Bool := (tableGet none x.writes.flags i).getD (tableGet false x.items.flags i)
/-- A scratch word as the scan sees it. -/
def seeScratch (x : Scan) (i : Nat) : Word := (tableGet none x.writes.scratch i).getD (tableGet 0 x.items.scratch i)
/-- An edge detector as the scan sees it. -/
def seeEdge (x : Scan) (i : Nat) : Bool := (tableGet none x.writes.edges i).getD (tableGet false x.items.edges i)
/-- A point in the snapshot of tick S (R244). -/
def seePoint (x : Scan) (i : Nat) : PointVal := tableGet {} x.snap i
/-- A constant in force at T(S) (R244). -/
def seeConst (s : State) (x : Scan) (i : Nat) : Word :=
  (tableGet none x.values (targetKey 1 i)).getD (reelValue s.cfg 1 i)

/-- The bit operand b. -/
def bitOperand (x : Scan) (w : Word) : Bool :=
  match carKind w with
  | 0 => (seePoint x (carIndex w)).value.getLsbD 0
  | 1 => seeFlag x (carIndex w)
  | 2 => (seeTimer x (carIndex w)).q
  | _ => (seeCounter x (carIndex w)).q
/-- The word operand w. -/
def wordOperand (s : State) (x : Scan) (w : Word) : Word :=
  match carKind w with
  | 0 => (seePoint x (carIndex w)).value
  | 1 => seeConst s x (carIndex w)
  | _ => seeScratch x (carIndex w)
/-- Store to a bit target: a point of TYPE 2, or a flag. -/
def storeBit (w : Word) (b : Bool) (x : Scan) : Scan :=
  if carKind w = 0 then
    { x with writes := { x.writes with
        points := tablePut none x.writes.points (carIndex w) (some (if b then 1 else 0)) } }
  else { x with writes := { x.writes with flags := tablePut none x.writes.flags (carIndex w) (some b) } }
/-- Store to a word target: a point, or a scratch word. -/
def storeWord (w v : Word) (x : Scan) : Scan :=
  if carKind w = 0 then { x with writes := { x.writes with points := tablePut none x.writes.points (carIndex w) (some v) } }
  else { x with writes := { x.writes with scratch := tablePut none x.writes.scratch (carIndex w) (some v) } }

/-! ### Executing an instruction (R241, R242) -/

/-- The cycle at which task `t`'s window begins in each tick (R241). -/
def windowStart (s : State) (t : Nat) : Nat :=
  (s.cfg.sheet.units.getD 10 {}).startCycle +
    ((s.cfg.sheet.works.filter (fun w => w.unit == 10 && decide (w.work < t))).map WorkEntry.slice).foldl (· + ·) 0
/-- The slots that are gone in the present tick's window, of `slice` cycles with two slots each; an instruction that began in
an earlier window may have taken its first ones (R241, R242). -/
def windowUsed (s : State) (slice : Nat) (x : Scan) : Nat := x.winSlots - 2 * slice * (s.tick.number - x.winTick)
/-- The cycle at which the next instruction of task `t` issues: where the window stands, or now. DEDUCED, log entry 83. -/
def issueCycle (s : State) (t slice : Nat) (x : Scan) : Nat :=
  max s.tick.cycle (windowStart s t + windowUsed s slice x / 2)
/-- The window has a slot left at the cycle at which the instruction issues. DEDUCED, log entry 83. -/
def windowOpen (s : State) (t slice : Nat) (x : Scan) : Bool :=
  decide (issueCycle s t slice x < windowStart s t + slice)
/-- The scan with an instruction of `slots` slots taken from its window; slots that have passed unused are gone too. -/
def takeSlots (s : State) (t slice slots : Nat) (x : Scan) : Scan :=
  { x with
    addr := x.addr + 1, slots := x.slots + slots, winTick := s.tick.number
    winSlots := max (windowUsed s slice x) (2 * (issueCycle s t slice x - windowStart s t)) + slots }
/-- An arithmetic event (R251). -/
def arithEvent (t addr op : Nat) (s : State) : State :=
  emit 0x0A02 t addr op (setF F.CAR.STATUS_ARITH 1 (bumpF F.CAR.ARITH_COUNT 1 s))
/-- An uncorrectable error aborts the scan in progress (R262): of task `t`, at memory address `addr`. Every task stops, and CAR
becomes FAULTED at the tick's Curtain. -/
def abortScan (t addr : Nat) (s : State) : State :=
  let pc := ((scanOf s t).map Scan.addr).getD 0
  let s1 := emit 0x0A01 t pc addr (setF F.CAR.STATUS_MEMORY_ERROR 1 (setF F.CAR.LAST_FAULT_ADDR (lo32 addr) s))
  { s1 with
    car := { s1.car with scans := [] }
    tick := { s1.tick with
      outbox := s1.tick.outbox.filter (fun e => e.unit != 10), forceFault := s1.tick.forceFault ++ [10] } }
/-- Task `t` executes its next instruction, which has opcode `op` and takes `slots` slots: time passes to the cycle at which it
issues. `f` gives the scan after it, from the scan already advanced to the next address, and whether it counts as an
arithmetic event. `ue` is the address in the core SRAMs of an uncorrectable error that it reads. Nothing happens where the
task's scan does not stand at such an instruction, or the window of the present tick has no slot left. DEDUCED, log entry 83. -/
def carStep (t op slots : Nat) (ue : Option Nat) (f : Word → Scan → Scan × Bool) (s : State) : State :=
  match scanOf s t, taskWork s t with
  | some x, some k =>
    match (logicSec s).instrs[x.addr]? with
    | none => s
    | some w =>
      if carRuns s && !x.ended && carOpcode w == op && windowOpen s t k.slice x then
        let s0 := elapseTo (issueCycle s t k.slice x) s
        match ue with
        | some addr => abortScan t addr (noteUe 6 addr (some 10) s0)
        | none =>
          let r := f w (takeSlots s t k.slice slots x)
          let s1 := putScan t (some r.1) s0
          if r.2 then arithEvent t x.addr op s1 else s1
      else s
  | _, _ => s
/-- An instruction without arithmetic events. -/
def plain (f : Word → Scan → Scan) : Word → Scan → Scan × Bool := fun w x => (f w x, false)
/-- The top of the branch stack. -/
def top (x : Scan) : Bool := x.stack.headD false
/-- Jump: the address is already that of the next instruction. -/
def jump (w : Word) (x : Scan) : Scan := { x with addr := x.addr - 1 + carIndex w }

/-! ### Word arithmetic (R251) -/

/-- An integer saturated to int32. -/
def satWord (i : Int) : Word := BitVec.ofInt 32 (clampI32 i)
/-- DIVI. DEDUCED, log entry 84. -/
def carDiv (a b : Word) : Word := if b = 0 then 0 else satWord (a.toInt.tdiv b.toInt)
/-- MINF. DEDUCED, log entry 84. -/
def carMin (a b : F32) : F32 :=
  if f32Nan a || f32Nan b then 0x7FC00000 else if f32Eq a b then a ||| b else if f32Lt a b then a else b
/-- MAXF. DEDUCED, log entry 84. -/
def carMax (a b : F32) : F32 :=
  if f32Nan a || f32Nan b then 0x7FC00000 else if f32Eq a b then a &&& b else if f32Lt a b then b else a
/-- FTOI before saturation; infinities lie outside the range. DEDUCED, log entry 84. -/
def carRound (a : F32) : Int :=
  match f32v a with
  | .nan => 0
  | .inf neg => if neg then -2147483649 else 2147483648
  | v => fvToInt v
/-- FTOI counts as an arithmetic event. -/
def ftoiEvent (a : F32) : Bool := f32Nan a || carRound a != clampI32 (carRound a)
/-- DIVF counts as an arithmetic event. -/
def divfEvent (a b : F32) : Bool := f32Finite a && f32Finite b && !f32Finite (f32Div a b)

/-! ### Timers and counters (R253, R254) -/

/-- Store a timer, with BA := Q. -/
def finishTimer (i : Nat) (y : TimerState) (x : Scan) : Scan :=
  { x with ba := y.q, writes := { x.writes with timers := tablePut none x.writes.timers i (some y) } }
/-- PRESET of a timer at T(S). -/
def presetOf (s : State) (x : Scan) (i : Nat) : Nat := (seeConst s x ((logicSec s).timers.getD i {}).preset).toNat
/-- PV of a counter at T(S). -/
def pvOf (s : State) (x : Scan) (i : Nat) : Int := (seeConst s x ((logicSec s).counters.getD i {}).pv).toInt
/-- The task's period. -/
def periodOf (s : State) (t : Nat) : Nat := ((taskWork s t).map WorkEntry.period).getD 1
/-- TON (R253). -/
def timerOn (inp : Bool) (p preset : Nat) (y : TimerState) : TimerState :=
  let e := if inp then min (y.elapsed + p) 0xFFFFFFFF else 0
  { y with elapsed := e, q := inp && decide (e ≥ preset), lastIn := inp }
/-- TOF (R253). -/
def timerOff (inp : Bool) (p preset : Nat) (y : TimerState) : TimerState :=
  if inp then { y with elapsed := 0, q := true, lastIn := inp }
  else if y.q then
    let e := min (y.elapsed + p) 0xFFFFFFFF
    { y with elapsed := e, q := decide (e < preset), lastIn := inp }
  else { y with lastIn := inp }
/-- TP (R253). -/
def timerPulse (inp : Bool) (p preset : Nat) (y : TimerState) : TimerState :=
  let start := inp && !y.running && !y.lastIn
  let running := y.running || start
  let e0 := if start then 0 else y.elapsed
  let e := if running then min (e0 + p) 0xFFFFFFFF else e0
  let run := running && decide (e < preset)
  { elapsed := e, q := run, running := run, lastIn := inp }
/-- Q of a counter (R254). -/
def counterQ (down : Bool) (pv cv : Int) : Bool := if down then decide (cv ≤ 0) else decide (cv ≥ pv)
/-- CNT (R254). -/
def counterStep (inp down : Bool) (pv : Int) (y : CounterState) : CounterState :=
  let cv := if inp && !y.lastIn then clampI32 (if down then y.cv - 1 else y.cv + 1) else y.cv
  { cv := cv, q := counterQ down pv cv, lastIn := inp }
/-- The reset of a counter (R254, R264). -/
def counterReset (down : Bool) (pv : Int) (y : CounterState) : CounterState :=
  let cv := if down then pv else 0
  { y with cv := cv, q := counterQ down pv cv }
/-- Store a counter. -/
def storeCounter (i : Nat) (y : CounterState) (x : Scan) : Scan :=
  { x with writes := { x.writes with counters := tablePut none x.writes.counters i (some y) } }
/-- Store an edge detector. -/
def storeEdge (i : Nat) (b : Bool) (x : Scan) : Scan :=
  { x with writes := { x.writes with edges := tablePut none x.writes.edges i (some b) } }

/-! ### The instruction set (R250) -/

/-- NOP: nothing. -/
def execCarNop (t : Nat) (ue : Option Nat) (s : State) : Result :=
  .next (carStep t 0x00 1 ue (plain (fun _ x => x)) s)
/-- LD: BA := b. -/
def execCarLd (t : Nat) (ue : Option Nat) (s : State) : Result :=
  .next (carStep t 0x01 1 ue (plain (fun w x => { x with ba := bitOperand x w })) s)
/-- LDN: BA := not b. -/
def execCarLdn (t : Nat) (ue : Option Nat) (s : State) : Result :=
  .next (carStep t 0x02 1 ue (plain (fun w x => { x with ba := !bitOperand x w })) s)
/-- AND: BA := BA and b. -/
def execCarAnd (t : Nat) (ue : Option Nat) (s : State) : Result :=
  .next (carStep t 0x03 1 ue (plain (fun w x => { x with ba := x.ba && bitOperand x w })) s)
/-- ANDN: BA := BA and not b. -/
def execCarAndn (t : Nat) (ue : Option Nat) (s : State) : Result :=
  .next (carStep t 0x04 1 ue (plain (fun w x => { x with ba := x.ba && !bitOperand x w })) s)
/-- OR: BA := BA or b. -/
def execCarOr (t : Nat) (ue : Option Nat) (s : State) : Result :=
  .next (carStep t 0x05 1 ue (plain (fun w x => { x with ba := x.ba || bitOperand x w })) s)
/-- ORN: BA := BA or not b. -/
def execCarOrn (t : Nat) (ue : Option Nat) (s : State) : Result :=
  .next (carStep t 0x06 1 ue (plain (fun w x => { x with ba := x.ba || !bitOperand x w })) s)
/-- XOR: BA := BA xor b. -/
def execCarXor (t : Nat) (ue : Option Nat) (s : State) : Result :=
  .next (carStep t 0x07 1 ue (plain (fun w x => { x with ba := xor x.ba (bitOperand x w) })) s)
/-- ST: target := BA. -/
def execCarSt (t : Nat) (ue : Option Nat) (s : State) : Result :=
  .next (carStep t 0x08 1 ue (plain (fun w x => storeBit w x.ba x)) s)
/-- STN: target := not BA. -/
def execCarStn (t : Nat) (ue : Option Nat) (s : State) : Result :=
  .next (carStep t 0x09 1 ue (plain (fun w x => storeBit w (!x.ba) x)) s)
/-- SET: if BA, target := 1. -/
def execCarSet (t : Nat) (ue : Option Nat) (s : State) : Result :=
  .next (carStep t 0x0A 1 ue (plain (fun w x => if x.ba then storeBit w true x else x)) s)
/-- RST: if BA, target := 0. -/
def execCarRst (t : Nat) (ue : Option Nat) (s : State) : Result :=
  .next (carStep t 0x0B 1 ue (plain (fun w x => if x.ba then storeBit w false x else x)) s)
/-- LDQ: BA := quality bit QBIT of the point. -/
def execCarLdq (t : Nat) (ue : Option Nat) (s : State) : Result :=
  .next (carStep t 0x0C 1 ue (plain (fun w x => { x with ba := bitOf (seePoint x (carIndex w)).quality (carQbit w) == 1 })) s)
/-- NOT: BA := not BA. -/
def execCarNot (t : Nat) (ue : Option Nat) (s : State) : Result :=
  .next (carStep t 0x0D 1 ue (plain (fun _ x => { x with ba := !x.ba })) s)
/-- TRUE: BA := 1. -/
def execCarTrue (t : Nat) (ue : Option Nat) (s : State) : Result :=
  .next (carStep t 0x0E 1 ue (plain (fun _ x => { x with ba := true })) s)
/-- PUSH: push BA. -/
def execCarPush (t : Nat) (ue : Option Nat) (s : State) : Result :=
  .next (carStep t 0x10 1 ue (plain (fun _ x => { x with stack := x.ba :: x.stack })) s)
/-- READ: BA := top. -/
def execCarRead (t : Nat) (ue : Option Nat) (s : State) : Result :=
  .next (carStep t 0x11 1 ue (plain (fun _ x => { x with ba := top x })) s)
/-- POP: BA := top; pop. -/
def execCarPop (t : Nat) (ue : Option Nat) (s : State) : Result :=
  .next (carStep t 0x12 1 ue (plain (fun _ x => { x with ba := top x, stack := x.stack.tail })) s)
/-- ANDP: BA := BA and top; pop. -/
def execCarAndp (t : Nat) (ue : Option Nat) (s : State) : Result :=
  .next (carStep t 0x13 1 ue (plain (fun _ x => { x with ba := x.ba && top x, stack := x.stack.tail })) s)
/-- ORP: BA := BA or top; pop. -/
def execCarOrp (t : Nat) (ue : Option Nat) (s : State) : Result :=
  .next (carStep t 0x14 1 ue (plain (fun _ x => { x with ba := x.ba || top x, stack := x.stack.tail })) s)
/-- RTRIG: BA := BA and not PREV; PREV := BA as it entered (R255). -/
def execCarRtrig (t : Nat) (ue : Option Nat) (s : State) : Result :=
  .next (carStep t 0x18 1 ue (plain (fun w x => storeEdge (carIndex w) x.ba { x with ba := x.ba && !seeEdge x (carIndex w) })) s)
/-- FTRIG: BA := PREV and not BA; PREV := BA as it entered (R255). -/
def execCarFtrig (t : Nat) (ue : Option Nat) (s : State) : Result :=
  .next (carStep t 0x19 1 ue (plain (fun w x => storeEdge (carIndex w) x.ba { x with ba := seeEdge x (carIndex w) && !x.ba })) s)
/-- TON: timer INDEX (R253); BA := Q. -/
def execCarTon (t : Nat) (ue : Option Nat) (s : State) : Result :=
  .next (carStep t 0x1A 1 ue (plain (fun w x => finishTimer (carIndex w) (timerOn x.ba (periodOf s t) (presetOf s x (carIndex w)) (seeTimer x (carIndex w))) x)) s)
/-- TOF: timer INDEX (R253); BA := Q. -/
def execCarTof (t : Nat) (ue : Option Nat) (s : State) : Result :=
  .next (carStep t 0x1B 1 ue (plain (fun w x => finishTimer (carIndex w) (timerOff x.ba (periodOf s t) (presetOf s x (carIndex w)) (seeTimer x (carIndex w))) x)) s)
/-- TP: timer INDEX (R253); BA := Q. -/
def execCarTp (t : Nat) (ue : Option Nat) (s : State) : Result :=
  .next (carStep t 0x1C 1 ue (plain (fun w x => finishTimer (carIndex w) (timerPulse x.ba (periodOf s t) (presetOf s x (carIndex w)) (seeTimer x (carIndex w))) x)) s)
/-- CNT: counter INDEX (R254); BA := Q. -/
def execCarCnt (t : Nat) (ue : Option Nat) (s : State) : Result :=
  .next (carStep t 0x1D 1 ue (plain (fun w x => 
    let y := counterStep x.ba ((logicSec s).counters.getD (carIndex w) {}).down (pvOf s x (carIndex w)) (seeCounter x (carIndex w))
    storeCounter (carIndex w) y { x with ba := y.q })) s)
/-- CRST: if BA, reset counter INDEX (R254). -/
def execCarCrst (t : Nat) (ue : Option Nat) (s : State) : Result :=
  .next (carStep t 0x1E 1 ue (plain (fun w x => if x.ba then
    storeCounter (carIndex w) (counterReset ((logicSec s).counters.getD (carIndex w) {}).down (pvOf s x (carIndex w))
      (seeCounter x (carIndex w))) x else x)) s)
/-- LDW: WA := w. -/
def execCarLdw (t : Nat) (ue : Option Nat) (s : State) : Result :=
  .next (carStep t 0x20 1 ue (plain (fun w x => { x with wa := wordOperand s x w })) s)
/-- STW: target := WA. -/
def execCarStw (t : Nat) (ue : Option Nat) (s : State) : Result :=
  .next (carStep t 0x21 1 ue (plain (fun w x => storeWord w x.wa x)) s)
/-- ADDI: WA := sat(WA + w). -/
def execCarAddi (t : Nat) (ue : Option Nat) (s : State) : Result :=
  .next (carStep t 0x22 1 ue (plain (fun w x => { x with wa := satWord (x.wa.toInt + (wordOperand s x w).toInt) })) s)
/-- SUBI: WA := sat(WA − w). -/
def execCarSubi (t : Nat) (ue : Option Nat) (s : State) : Result :=
  .next (carStep t 0x23 1 ue (plain (fun w x => { x with wa := satWord (x.wa.toInt - (wordOperand s x w).toInt) })) s)
/-- MULI: WA := sat(WA × w). -/
def execCarMuli (t : Nat) (ue : Option Nat) (s : State) : Result :=
  .next (carStep t 0x24 2 ue (plain (fun w x => { x with wa := satWord (x.wa.toInt * (wordOperand s x w).toInt) })) s)
/-- DIVI: WA := WA ÷ w, truncated toward 0. -/
def execCarDivi (t : Nat) (ue : Option Nat) (s : State) : Result :=
  .next (carStep t 0x25 16 ue ((fun w x => ({ x with wa := carDiv x.wa (wordOperand s x w) }, wordOperand s x w == 0))) s)
/-- ANDW: WA := WA bitwise and w. -/
def execCarAndw (t : Nat) (ue : Option Nat) (s : State) : Result :=
  .next (carStep t 0x26 1 ue (plain (fun w x => { x with wa := x.wa &&& wordOperand s x w })) s)
/-- ORW: WA := WA bitwise or w. -/
def execCarOrw (t : Nat) (ue : Option Nat) (s : State) : Result :=
  .next (carStep t 0x27 1 ue (plain (fun w x => { x with wa := x.wa ||| wordOperand s x w })) s)
/-- ADDF: WA := WA + w. -/
def execCarAddf (t : Nat) (ue : Option Nat) (s : State) : Result :=
  .next (carStep t 0x28 2 ue (plain (fun w x => { x with wa := f32Add x.wa (wordOperand s x w) })) s)
/-- SUBF: WA := WA − w. -/
def execCarSubf (t : Nat) (ue : Option Nat) (s : State) : Result :=
  .next (carStep t 0x29 2 ue (plain (fun w x => { x with wa := f32Sub x.wa (wordOperand s x w) })) s)
/-- MULF: WA := WA × w. -/
def execCarMulf (t : Nat) (ue : Option Nat) (s : State) : Result :=
  .next (carStep t 0x2A 2 ue (plain (fun w x => { x with wa := f32Mul x.wa (wordOperand s x w) })) s)
/-- DIVF: WA := WA ÷ w. -/
def execCarDivf (t : Nat) (ue : Option Nat) (s : State) : Result :=
  .next (carStep t 0x2B 16 ue ((fun w x => ({ x with wa := f32Div x.wa (wordOperand s x w) }, divfEvent x.wa (wordOperand s x w)))) s)
/-- MINF: WA := min(WA, w). -/
def execCarMinf (t : Nat) (ue : Option Nat) (s : State) : Result :=
  .next (carStep t 0x2C 2 ue (plain (fun w x => { x with wa := carMin x.wa (wordOperand s x w) })) s)
/-- MAXF: WA := max(WA, w). -/
def execCarMaxf (t : Nat) (ue : Option Nat) (s : State) : Result :=
  .next (carStep t 0x2D 2 ue (plain (fun w x => { x with wa := carMax x.wa (wordOperand s x w) })) s)
/-- ITOF: WA := int32 WA converted to binary32. -/
def execCarItof (t : Nat) (ue : Option Nat) (s : State) : Result :=
  .next (carStep t 0x2E 2 ue (plain (fun _ x => { x with wa := f32OfInt x.wa.toInt })) s)
/-- FTOI: WA := binary32 WA converted to int32. -/
def execCarFtoi (t : Nat) (ue : Option Nat) (s : State) : Result :=
  .next (carStep t 0x2F 2 ue ((fun _ x => ({ x with wa := satWord (carRound x.wa) }, ftoiEvent x.wa))) s)
/-- EQI: BA := WA = w. -/
def execCarEqi (t : Nat) (ue : Option Nat) (s : State) : Result :=
  .next (carStep t 0x30 1 ue (plain (fun w x => { x with ba := x.wa == wordOperand s x w })) s)
/-- LTI: BA := WA < w, signed. -/
def execCarLti (t : Nat) (ue : Option Nat) (s : State) : Result :=
  .next (carStep t 0x31 1 ue (plain (fun w x => { x with ba := x.wa.slt (wordOperand s x w) })) s)
/-- GTI: BA := WA > w, signed. -/
def execCarGti (t : Nat) (ue : Option Nat) (s : State) : Result :=
  .next (carStep t 0x32 1 ue (plain (fun w x => { x with ba := (wordOperand s x w).slt x.wa })) s)
/-- LTF: BA := WA < w; false if either is NaN. -/
def execCarLtf (t : Nat) (ue : Option Nat) (s : State) : Result :=
  .next (carStep t 0x33 1 ue (plain (fun w x => { x with ba := f32Lt x.wa (wordOperand s x w) })) s)
/-- GTF: BA := WA > w; false if either is NaN. -/
def execCarGtf (t : Nat) (ue : Option Nat) (s : State) : Result :=
  .next (carStep t 0x34 1 ue (plain (fun w x => { x with ba := f32Lt (wordOperand s x w) x.wa })) s)
/-- EQW: BA := the two 32-bit patterns are equal. -/
def execCarEqw (t : Nat) (ue : Option Nat) (s : State) : Result :=
  .next (carStep t 0x35 1 ue (plain (fun w x => { x with ba := x.wa == wordOperand s x w })) s)
/-- SEL: if BA, WA := w. -/
def execCarSel (t : Nat) (ue : Option Nat) (s : State) : Result :=
  .next (carStep t 0x36 1 ue (plain (fun w x => if x.ba then { x with wa := wordOperand s x w } else x)) s)
/-- JMP: jump to address + OFFSET. -/
def execCarJmp (t : Nat) (ue : Option Nat) (s : State) : Result :=
  .next (carStep t 0x38 1 ue (plain (fun w x => jump w x)) s)
/-- JMPT: if BA, jump to address + OFFSET. -/
def execCarJmpt (t : Nat) (ue : Option Nat) (s : State) : Result :=
  .next (carStep t 0x39 1 ue (plain (fun w x => if x.ba then jump w x else x)) s)
/-- JMPF: if not BA, jump to address + OFFSET. -/
def execCarJmpf (t : Nat) (ue : Option Nat) (s : State) : Result :=
  .next (carStep t 0x3A 1 ue (plain (fun w x => if x.ba then x else jump w x)) s)
/-- The staging entry of a finished scan (R246): its stores, with the stamp of tick S's snapshot. -/
def scanEntry (s : State) (t : Nat) (x : Scan) : StagedEntry :=
  { unit := 10, due := x.start + periodOf s t - 1, tag := t,
    points := x.writes.points.filterMap (fun e => e.2.map (fun v => { index := e.1, value := v, stamp := x.stamp })) }
/-- END: the scan ends; its result waits for its Curtain (R241, R247). -/
def execCarEnd (t : Nat) (ue : Option Nat) (s : State) : Result :=
  let ended := fun (u : State) => ((scanOf u t).map Scan.ended).getD false
  let s1 := carStep t 0x3B 1 ue (plain (fun _ x => { x with ended := true })) s
  .next (match scanOf s1 t with
    | some x =>
      if !ended s && ended s1 then
        { s1 with tick := { s1.tick with outbox := s1.tick.outbox ++ [scanEntry s1 t x] } }
      else s1
    | none => s1)

/-! ### Publication, faults, start (R245, R246, R261, R262) -/

/-- Lay a scan's writes over the published items. -/
def mergeWrites (w : CarWrites) (i : CarItems) : CarItems :=
  { flags := w.flags.foldl (fun m e => tablePut false m e.1 (e.2.getD false)) i.flags
    scratch := w.scratch.foldl (fun m e => tablePut 0 m e.1 (e.2.getD 0)) i.scratch
    timers := w.timers.foldl (fun m e => tablePut {} m e.1 (e.2.getD {})) i.timers
    counters := w.counters.foldl (fun m e => tablePut {} m e.1 (e.2.getD {})) i.counters
    edges := w.edges.foldl (fun m e => tablePut false m e.1 (e.2.getD false)) i.edges }
/-- The Curtain publishes the scan of task `t` (R245, R246). -/
def carCommit (t : Nat) (s : State) : State :=
  match scanOf s t with
  | none => s
  | some x =>
    let s1 := { s with car := { s.car with items := mergeWrites x.writes s.car.items } }
    putScan t none (setF (F.CAR.TASK_SCANS t) (getF s (F.CAR.TASK_SCANS t) + 1) s1)
/-- On leaving LIVE, and once CAR is FAULTED, no scan is in progress. -/
def carStop (s : State) : State := { s with car := { s.car with scans := [] } }

/-- The Carousel's items at the first tick of LIVE (R261, R264). -/
def initialItems (s : State) : CarItems :=
  let l := logicSec s
  let flags := (List.range l.flagInit.length).foldl (fun m i => tablePut false m i (l.flagInit.getD i false)) []
  let counters := (List.range l.counters.length).foldl (fun m i =>
    let c := l.counters.getD i {}
    let pv := (inForce s 1 c.pv).toInt
    tablePut {} m i (counterReset c.down pv {})) []
  { flags := flags, counters := counters }
/-- CAR at the first tick of LIVE. -/
def carGoLive (s : State) : State := { s with car := { items := initialItems s } }

end Sys2Proof.Machine
end

