-- ==== Sys2Proof/Machine/Asm.lean ====
section
/-! DEFINITION. The assembler: round snapshot, substitution, stencils and row scaling (R138 to R160), with the
plans in time that the snapshot reads (R192, R193). -/

namespace Sys2Proof.Machine

open Sys2Proof

/-! ### Sections -/

/-- The MODEL section; the default where the Reel has none. -/
def modelSec (s : State) : ModelSec := s.cfg.model.getD {}
/-- The STENCILS section. -/
def stencilsSec (s : State) : StencilsSec := s.cfg.stencils.getD {}
/-- The STORYBOARD section. -/
def storySec (s : State) : StorySec := s.cfg.story.getD {}
/-- The SOLVER section. -/
def solverSec (s : State) : SolverSec := s.cfg.solver.getD {}
/-- Rounds run: a SOLVER section is in force and the three units can work. -/
def roundsRun (s : State) : Bool :=
  s.cfg.solver.isSome && unitRuns s 6 && unitRuns s 7 && unitRuns s 8 && !bitF s F.TICK.FAULTED 8 &&
    inState s .live && !shadowIdle s

/-- Row `i` is a primal row (R138). -/
def primalRow (m : ModelSec) (i : Nat) : Bool := m.signs.getD i false
/-- The column of a slot (R142). -/
def slotCol (m : ModelSec) (k : Nat) : Nat :=
  ((List.range m.rowCount).find? (fun j => decide (m.colPtr.getD j 0 ≤ k) && decide (k < m.colPtr.getD (j + 1) 0))).getD 0
/-- The row of a slot. -/
def slotRow (m : ModelSec) (k : Nat) : Nat := m.rowIdx.getD k 0
/-- ASM_CYCLES (R157). -/
def asmCycles (m : ModelSec) (t : StencilsSec) : Nat :=
  4096 + (m.inputs.length + 7) / 8 + (t.evalCount + 1) / 2 + (m.rowIdx.length + 1) / 2 + (m.rowCount + 3) / 4
/-- SLICE_CYCLES of ASM's round work entry (R157). -/
def asmSlice (s : State) : Nat := ((s.cfg.sheet.works.find? (fun w => w.unit == 6)).map WorkEntry.slice).getD 1
/-- The ticks of an assembly (R157). -/
def asmTicks (s : State) : Nat := (asmCycles (modelSec s) (stencilsSec s) + asmSlice s - 1) / asmSlice s
/-- The cycles that an assembly has used after `n` ticks: the slices of those ticks (R157). DEDUCED, log entry 77. -/
def asmUsed (s : State) (n : Nat) : Nat := min (asmCycles (modelSec s) (stencilsSec s)) (n * asmSlice s)
/-- The evaluations done in so many cycles (R156, LAST_DETAIL of DEADLINE): two in each cycle after the fixed part and the
inputs, the terms of ASM_CYCLES being taken in their order. DEDUCED, log entry 77. -/
def asmSteps (s : State) (cycles : Nat) : Nat :=
  min (stencilsSec s).evalCount (2 * (cycles - 4096 - ((modelSec s).inputs.length + 7) / 8))

/-! ### Plans in time (R192, R193) -/

/-- The entity that owns a row. -/
def entityOf (m : ModelSec) (row : Nat) : Option EntityCfg :=
  m.entities.find? (fun e => decide (e.firstRow ≤ row) && decide (row < e.firstRow + m.horizon * (e.vars + e.cons)))
/-- The value of a row in a plan moved on by `k` steps. -/
def advanceRow (m : ModelSec) (rates : List Bool) (terminal k : Nat) (plan : Table F64) (row : Nat) : F64 :=
  match entityOf m row with
  | none => tableGet 0 plan row
  | some e =>
    let w := e.vars + e.cons
    let j := (row - e.firstRow) / w
    let off := (row - e.firstRow) % w
    if j + k ≤ m.horizon - 1 then tableGet 0 plan (e.firstRow + (j + k) * w + off)
    else if terminal = 1 && rates.getD row false then 0
    else tableGet 0 plan (e.firstRow + (m.horizon - 1) * w + off)
/-- A plan moved on by `k` steps (R192). -/
def advancePlan (m : ModelSec) (rates : List Bool) (terminal k : Nat) (plan : Table F64) : Table F64 :=
  (List.range m.rowCount).foldl (fun t i => tablePut 0 t i (advanceRow m rates terminal k plan i)) []
/-- A table of the elements of a list. -/
def tableOf (l : List F64) : Table F64 := (List.range l.length).foldl (fun t i => tablePut 0 t i (l.getD i 0)) []
/-- The steps between two plan start ticks (R192). -/
def stepsBetween (m : ModelSec) (old new : Nat) : Nat := (new - old) / m.stepTicks
/-- The latest published plan moved on to plan start tick `ps`: its values, the steps, and the round it comes from.
Before any publication it is the initial plan as it stands (R152). DEDUCED, log entry 71. -/
def warmPlan (s : State) (ps : Nat) : Table F64 × Nat × Nat :=
  match s.jug.front with
  | none => (tableOf (solverSec s).initial, 0, 0)
  | some p =>
    let k := stepsBetween (modelSec s) p.planStart ps
    (advancePlan (modelSec s) (solverSec s).rates (solverSec s).terminal k p.values, k, p.round)

/-! ### The exponential (R148) -/

/-- ln 2 × 2⁴⁰⁰. -/
def ln2Fixed : Int :=
  1789879222497203190815761498240779176894896805856420935579692301363062920687047601279850318367644315849030039181347319086
/-- The terms of the exponential series at r, scaled by 2⁴⁰⁰: `fuel` more terms after `term`, the k-th. -/
def expSeries : Nat → Int → Int → Nat → Int
  | 0, _, _, _ => 0
  | fuel + 1, r, term, k => term + expSeries fuel r (term * r / 2 ^ 400 / ((k + 1 : Nat) : Int)) (k + 1)
/-- exp of a binary64, correctly rounded. DEDUCED, log entry 70. -/
def f64Exp (a : F64) : F64 :=
  match f64v a with
  | .nan => f64 .nan
  | .inf neg => if neg then 0 else f64 (.inf false)
  | .fin neg m e =>
    if m = 0 then f64OfInt 1
    else
      let mag : Nat := if 0 ≤ e + 400 then m * 2 ^ (min (e + 400) 2000).toNat else m / 2 ^ (-(e + 400)).toNat
      let t : Int := if neg then -(mag : Int) else mag
      if t > 800 * 2 ^ 400 then f64 (.inf false)
      else if t < -(800 * 2 ^ 400) then 0
      else
        let k := t / ln2Fixed
        let v := (expSeries 130 (t - k * ln2Fixed) (2 ^ 400) 0).toNat
        f64 (.fin false (v * 2 + 1) (k - 401))

/-! ### Stencils (R145 to R150) -/

/-- The upper bound of a row that nothing has written. -/
def f64Inf : F64 := 0x7FF0000000000000
/-- The lower bound of a row that nothing has written. -/
def f64NegInf : F64 := 0xFFF0000000000000

/-- An operand's value at step `r` (R147). -/
def stencilOperand (s : State) (x : Round) (e : StencilCfg) (op : Nat × Nat) (r : Nat) : F64 :=
  let step := f64OfRatio ((modelSec s).stepTicks * 125 : Nat) 1000000
  match op.1 with
  | 1 => (stencilsSec s).consts.getD op.2 0
  | 2 => f32to64 ((tableGet none x.values (targetKey 3 op.2)).getD (reelValue s.cfg 3 op.2))
  | 3 => x.inputs.getD op.2 0
  | 4 => tableGet 0 x.warm (op.2 + r * e.planStride)
  | 5 => tableGet 0 x.scratch (op.2 + r)
  | 6 => if op.2 = 0 then f64OfInt r else if op.2 = 1 then step else f64Mul (f64OfInt r) step
  | _ => 0

/-- Breakpoint `i` of the table whose count stands at constant `b` (R149). -/
def tablePoint (c : List F64) (b i : Nat) : F64 × F64 := (c.getD (b + 1 + 2 * i) 0, c.getD (b + 2 + 2 * i) 0)
/-- The count of breakpoints. -/
def tableCount (c : List F64) (b : Nat) : Nat := (f64ToInt (c.getD b 0)).toNat
/-- The first of the two breakpoints of the segment that holds `a`: the last one at or below it. -/
def tableSegment (c : List F64) (b : Nat) (a : F64) : Nat :=
  ((List.range (tableCount c b)).filter (fun i => f64Le (tablePoint c b i).1 a)).length - 1
/-- TABLE: interpolated inside, held outside (R149). -/
def tableValue (c : List F64) (b : Nat) (a : F64) : F64 :=
  let n := tableCount c b
  let p := tablePoint c b (tableSegment c b a)
  let q := tablePoint c b (tableSegment c b a + 1)
  if f64Lt a (tablePoint c b 0).1 then (tablePoint c b 0).2
  else if tableSegment c b a = n - 1 then (tablePoint c b (n - 1)).2
  else if !f64Lt p.1 a then p.2
  else interpolate p.1 p.2 q.1 q.2 a
/-- SLOPE: of the segment that holds `a`, the last one at the last breakpoint, 0 outside (R149). -/
def tableSlope (c : List F64) (b : Nat) (a : F64) : F64 :=
  let n := tableCount c b
  if f64Lt a (tablePoint c b 0).1 || f64Lt (tablePoint c b (n - 1)).1 a then 0
  else
    let i := min (tableSegment c b a) (n - 2)
    let p := tablePoint c b i
    let q := tablePoint c b (i + 1)
    f64Div (f64Sub q.2 p.2) (f64Sub q.1 p.1)

/-- A kernel (R148). DEDUCED, log entry 70. -/
def stencilKernel (consts : List F64) (e : StencilCfg) (k a b c : F64) : F64 :=
  match e.kernel with
  | 0x0 => k
  | 0x1 => f64Mul k a
  | 0x2 => f64Mul k (f64Add a b)
  | 0x3 => f64Mul k (f64Sub a b)
  | 0x4 => f64Mul (f64Mul k a) b
  | 0x5 => f64Div (f64Mul k a) b
  | 0x6 => f64 (fvAdd (fvMul (fvMul (f64v k) (f64v a)) (f64v b)) (f64v c))
  | 0x7 => f64Mul (f64Mul k a) a
  | 0x8 => f64Mul k (f64Abs a)
  | 0x9 => f64Mul k (f64Min a b)
  | 0xA => f64Mul k (f64Max a b)
  | 0xB => f64Mul k (f64Min (f64Max a b) c)
  | 0xC => f64Mul k (tableValue consts e.b.2 a)
  | 0xD => f64Mul k (tableSlope consts e.b.2 a)
  | 0xE => f64Mul k (if f64Le 0 a then b else c)
  | _ => f64Mul k (f64Exp (f64Mul a b))

/-- The present value of a target (R146). -/
def targetValue (x : Round) (cls i : Nat) : F64 :=
  match cls with
  | 0 => tableGet 0 x.mat i
  | 1 => tableGet 0 x.rhs0 i
  | 2 => tableGet f64NegInf x.lower i
  | 3 => tableGet f64Inf x.upper i
  | _ => tableGet 0 x.scratch i
/-- Write a target. -/
def putTarget (cls i : Nat) (v : F64) (x : Round) : Round :=
  match cls with
  | 0 => { x with mat := tablePut 0 x.mat i v }
  | 1 => { x with rhs0 := tablePut 0 x.rhs0 i v }
  | 2 => { x with lower := tablePut f64NegInf x.lower i v }
  | 3 => { x with upper := tablePut f64Inf x.upper i v }
  | _ => { x with scratch := tablePut 0 x.scratch i v }
/-- A value that a target may not hold (R156). -/
def targetBad (cls : Nat) (v : F64) : Bool :=
  match cls with
  | 2 => f64v v == .nan || v == f64Inf
  | 3 => f64v v == .nan || v == f64NegInf
  | _ => !f64Finite v
/-- One evaluation: the round after it, and whether it is NONFINITE. -/
def stencilStep (s : State) (e : StencilCfg) (r : Nat) (x : Round) : Round × Bool :=
  let y := stencilKernel (stencilsSec s).consts e (f32to64 e.k) (stencilOperand s x e e.a r) (stencilOperand s x e e.b r)
    (stencilOperand s x e e.c r)
  let i := e.target + r * (if e.targetClass = 4 then 1 else e.targetStride)
  let v := if e.accumulate then f64Add (targetValue x e.targetClass i) y else y
  (putTarget e.targetClass i v x, targetBad e.targetClass v)
/-- The steps of one entry, in increasing r; they stop at a NONFINITE one. -/
def stencilEntry (s : State) (e : StencilCfg) (x : Round) : Round × Bool :=
  (List.range e.rep).foldl (fun a r => if a.2 then a else stencilStep s e r a.1) (x, false)
/-- All entries in entry order, or the number of the first that is NONFINITE (R150, R156). -/
def runStencils (s : State) (x : Round) : Round × Option Nat :=
  (List.range (stencilsSec s).entries.length).foldl (fun a n => match a.2 with
    | some _ => a
    | none =>
      let o := stencilEntry s ((stencilsSec s).entries.getD n {}) a.1
      (o.1, if o.2 then some n else none)) (x, none)

/-! ### Row scaling (R155) -/

/-- floor(log2 |v|) of a finite value other than 0. -/
def f64Log2 (v : F64) : Int :=
  match f64v v with
  | .fin _ m e => (Nat.log2 m : Int) + e
  | _ => 0
/-- v × 2^k, one rounding. -/
def f64Scale (v : F64) (k : Int) : F64 :=
  match f64v v with
  | .fin n m e => f64 (.fin n m (e + k))
  | x => f64 x
/-- A binary64 rounded up to binary32. -/
def f32Up (v : F64) : F32 :=
  let r := f64to32 v
  if f64Lt (f32to64 r) v then r + 1 else r
/-- The largest magnitude over the stored slots of each row and column. -/
def rowMax (m : ModelSec) (mat : Table F64) : Table F64 :=
  mat.foldl (fun t e =>
    let a := f64Abs e.2
    let i := slotRow m e.1
    let j := slotCol m e.1
    let t1 := tablePut 0 t i (f64Max (tableGet 0 t i) a)
    tablePut 0 t1 j (f64Max (tableGet 0 t1 j) a)) []
/-- e_i of a row. -/
def rowExp (mx : Table F64) (i : Nat) : Int :=
  let v := tableGet 0 mx i
  if v = 0 then 0 else max (-120) (min (f64Log2 v / 2) 120)
/-- The round with its system scaled, its exponents and its row scales. DEDUCED, log entry 71. -/
def scaleSystem (m : ModelSec) (x : Round) : Round :=
  let mx := rowMax m x.mat
  let ex := rowExp mx
  let mat := x.mat.foldl (fun t e =>
    tablePut 0 t e.1 (f64Scale (f64Scale e.2 (-(ex (slotRow m e.1)))) (-(ex (slotCol m e.1))))) []
  let sm := rowMax m mat
  { x with
    mat := mat
    rhs0 := x.rhs0.foldl (fun t e => tablePut 0 t e.1 (f64Scale e.2 (-(ex e.1)))) []
    lower := x.lower.foldl (fun t e => tablePut f64NegInf t e.1 (f64Scale e.2 (ex e.1))) []
    upper := x.upper.foldl (fun t e => tablePut f64Inf t e.1 (f64Scale e.2 (ex e.1))) []
    exps := (List.range m.rowCount).foldl (fun t i => tablePut 0 t i (ex i)) []
    scale := (List.range m.rowCount).foldl (fun t i =>
      let v := tableGet 0 sm i
      tablePut 0 t i (if v = 0 then f32OfInt 1 else f32Up v)) [] }

/-! ### Substitution (R153, R154) -/

/-- A point's value as a binary64, by its TYPE. -/
def pointNumber (p : PointVal) : F64 :=
  match p.typ with
  | 0 => f32to64 p.value
  | 1 => f64OfInt p.value.toInt
  | _ => f64OfInt p.value.toNat
/-- An input is bad (R153). -/
def inputBad (c : InputCfg) (p : PointVal) : Bool :=
  !pointValid p || (bitOf p.quality 1 == 1 && c.onQuestionable) || (bitOf p.quality 6 == 1 && c.onAbsent)
/-- Judge one input at the round snapshot: the value (none for REQUIRE), and the state with its registers and
records. A bad REQUIRE input, which takes no value, counts as substituted and shows STATE 1 or 2 (log entry 76). -/
def judgeInput (i : Nat) (c : InputCfg) (warm : Table F64) (s : State) : Option F64 × State :=
  let p := snapPoint s c.point
  let held := tableGet 0 s.asm.heldRounds i
  let count := fun (n : Nat) (t : State) => setF (F.ASM.INPUT_STATE_HELD i) (min n 0xFFFF)
    { t with asm := { t.asm with heldRounds := tablePut 0 t.asm.heldRounds i n } }
  let was := getF s (F.ASM.INPUT_STATE_STATE i)
  if !inputBad c p then
    let v := pointNumber p
    let s1 := { s with asm := { s.asm with lastGood := tablePut none s.asm.lastGood i (some v) } }
    let s2 := setF (F.ASM.INPUT_STATE_STATE i) 0 (count 0 (setF (F.ASM.INPUT_STATE_POLICY i) c.policy s1))
    (some v, if was ≠ 0 then emit 0x0604 i held c.point s2 else s2)
  else
    let n := held + 1
    let good := tableGet none s.asm.lastGood i
    let v : Option F64 := match c.policy with
      | 0 => match good with
        | some g => some (if n ≤ c.holdRounds then g else f32to64 c.dflt)
        | none => some (f32to64 c.dflt)
      | 1 => some (f32to64 c.dflt)
      | 2 => some (tableGet 0 warm c.planRow)
      | _ => none
    let s1 := setF (F.ASM.INPUT_STATE_STATE i) (if good.isSome then 1 else 2) (count n
      (setF (F.ASM.INPUT_STATE_POLICY i) c.policy s))
    (v, if was = 0 then emit 0x0603 i c.policy c.point s1 else s1)

/-- Judge every input: the values, how many are substituted, the first REQUIRE input that is bad. DEDUCED, log entry 76. -/
def judgeInputs (warm : Table F64) (s : State) : (List F64 × Nat × Option Nat) × State :=
  (List.range (modelSec s).inputs.length).foldl (fun a i =>
    let c := (modelSec s).inputs.getD i {}
    let bad := inputBad c (snapPoint s c.point)
    let o := judgeInput i c warm a.2
    ((a.1.1 ++ [o.1.getD 0], a.1.2.1 + ofBool bad,
      match a.1.2.2 with
      | some j => some j
      | none => if o.1.isNone then some i else none), o.2)) (([], 0, none), s)

/-! ### Results (R156, R159, R160) -/

/-- No row of a failed assembly has been scaled: no zero rows, no exponents. -/
def clearScaling (s : State) : State :=
  setF F.ASM.LAST_ZERO_ROWS 0 (setF F.ASM.LAST_EXP_RANGE_MAX_EXP 0 (setF F.ASM.LAST_EXP_RANGE_MIN_EXP 0 s))
/-- An assembly ends: its registers and its record. DEDUCED, log entry 76. -/
def asmResult (round result detail cycles : Nat) (s : State) : State :=
  let s1 := setF F.ASM.LAST_ROUND round (setF F.ASM.LAST_RESULT result (setF F.ASM.LAST_DETAIL detail
    (setF F.ASM.LAST_CYCLES cycles (setF F.ASM.STATUS_LAST_FAILED (ofBool (result != 0))
      (if result = 0 || result = 5 then s else clearScaling s)))))
  if result = 0 then emit 0x0601 round cycles (getF s1 F.ASM.LAST_SUBST) s1
  else emit 0x0602 round result detail (bumpF F.ASM.FAIL_COUNT 1 (setF F.ASM.STATUS_ASSEMBLING 0 s1))

/-- The smallest and the largest exponent, and the zero rows, of an assembly. -/
def showScaling (m : ModelSec) (mx : Table F64) (x : Round) (s : State) : State :=
  let es := (List.range m.rowCount).map (fun i => tableGet 0 x.exps i)
  let hi := es.foldl max (es.headD 0)
  let lo := es.foldl min (es.headD 0)
  let zeros := ((List.range m.rowCount).filter (fun i => tableGet 0 mx i == 0)).length
  setF F.ASM.LAST_ZERO_ROWS zeros (setF F.ASM.LAST_EXP_RANGE_MAX_EXP (ofSigned 8 hi)
    (setF F.ASM.LAST_EXP_RANGE_MIN_EXP (ofSigned 8 lo) s))

/-- The whole assembly of a round: the round with its scaled arrays, result and detail (R156). -/
def assemble (s : State) (x : Round) : Round × Nat × Nat :=
  let m := modelSec s
  let o := runStencils s x
  match o.2 with
  | some n => (o.1, 3, n)
  | none =>
    let y := o.1
    match (List.range m.rowCount).find? (fun i => f64Lt (tableGet f64Inf y.upper i) (tableGet f64NegInf y.lower i)) with
    | some i => (y, 4, i)
    | none =>
      let z := scaleSystem m y
      match z.mat.find? (fun e => f64Lt (f32to64 0x7F7FFFFF) (f64Abs e.2)) with
      | some e => (z, 5, e.1)
      | none => (z, 0, 0)

end Sys2Proof.Machine
end

