-- ==== Sys2Proof/Machine/Story.lean ====
section
/-! DEFINITION. The Storyboard operations on the Juggler clusters, and how a round ends (R161 to R186, R194 to
R204). -/

namespace Sys2Proof.Machine

open Sys2Proof

/-! ### The end of a round (R195, R204) -/

/-- Change the round in progress. -/
def updRound (f : Round → Round) (s : State) : State := { s with jug := { s.jug with round := s.jug.round.map f } }
/-- The round in progress is dropped without a result. Under idle gating its clusters switch off at the next tick boundary
(R180). -/
def dropRound (s : State) : State :=
  setF F.ASM.STATUS_ASSEMBLING 0 (setF F.JUG.STATUS_SOLVING 0 (setF F.STB.STATUS_RUNNING 0 (setF F.JUG.ROUND_STATE_PHASE 0
    { s with jug := { s.jug with
        round := none, back := none, gateOff := s.jug.gateOff || (s.jug.round.isSome && flag s F.JUG.CONFIG_IDLE_GATING) } })))
/-- The segment of a run. -/
def segmentOf : RunMode → Nat
  | .factor => 0 | .solve => 1 | .residual => 2 | .residualFirst => 2 | _ => 3
/-- Causes of R204 that are judged. -/
def judgedCause (c : Nat) : Bool := decide (1 ≤ c) && decide (c ≤ 8)
/-- The status that a cause gives (R204). -/
def endStatus (r : Round) (cause : Nat) : Nat :=
  if cause = 0 then 1
  else if judgedCause cause && decide (r.steps > 0) && f64Le r.lastThetaP (f32to64 r.cfg.feasGate) then 2 else 3
/-- The operations of a segment: first, count, predicted cycles. -/
def segment (t : StorySec) (g : Nat) : Nat × Nat × Nat := t.segments.getD g (0, 0, 0)
/-- The upper bound of a segment run (R176). -/
def runBound (pred : Nat) : Nat := (pred + 256) * 102 / 100 + 1024
/-- The cycles at which a run of segment `g` is stopped (R177). -/
def stallLimit (s : State) (g : Nat) : Nat := 2 * (segment (storySec s) g).2.2 + 156250
/-- A run of segment `g` that has taken `cycles` CLK_SOLVE cycles has exceeded its bound, or has not (R177). DEDUCED, log entry 78. -/
def noteSlow (g cycles : Nat) (s : State) : State :=
  let pred := (segment (storySec s) g).2.2
  if cycles > runBound pred then
    emit 0x0701 g cycles pred (bumpF F.STB.SLOW_COUNT 1 (setF F.STB.STATUS_SLOW 1 s))
  else s
/-- The CLK_SOLVE cycles that the run in progress has taken: the runs follow one another from cycle 64 of the hand-over tick
(R178), at five CLK_SOLVE cycles in two of CLK_CORE. DEDUCED, log entry 78. -/
def runElapsed (s : State) (r : Round) : Nat :=
  ((s.tick.number - r.handOver.getD s.tick.number) * 62500 + s.tick.cycle) * 5 / 2 - 64 - r.runCycles
/-- The round in progress ends: registers, record, and the clusters' idle gating; a run that it cuts short may have been slow.
`detail` is the third payload word of ROUND_FAILED. DEDUCED, log entry 74. -/
def endRound (cause detail : Nat) (s : State) : State :=
  match s.jug.round with
  | none => s
  | some r =>
    if r.ended.isSome then s
    else
      let st := endStatus r cause
      let seg := if decide (4 ≤ cause) && decide (cause ≤ 8) || cause == 10 then getF s F.STB.STATUS_SEGMENT else 4
      let s0 := match r.run with
        | some g => noteSlow (segmentOf g.mode) (runElapsed s r) s
        | none => s
      let s1 := updRound (fun x =>
        { x with ended := some (cause, st), run := none, endCycle := s.clap.cycles, endSegment := seg }) s0
      let s2 := setF F.JUG.LAST_RESULT_ITERATIONS r.steps (setF F.JUG.LAST_RESULT_CAUSE cause
        (setF F.JUG.LAST_RESULT_STATUS st (setF F.JUG.LAST_PERTURBED r.perturbed
          (setF F.JUG.LAST_WRONG_SIGN r.wrongSign s1))))
      let s3 := setF F.JUG.STATUS_SOLVING 0 (setF F.STB.STATUS_RUNNING 0 (setF F.ASM.STATUS_ASSEMBLING 0
        (setF F.JUG.ROUND_STATE_PHASE 4 s2)))
      let s4 := if cause = 2 then bumpF F.JUG.ABANDON_COUNT 1 s3 else s3
      let s5 := { s4 with jug := { s4.jug with gateOff := flag s F.JUG.CONFIG_IDLE_GATING } }
      if cause = 0 then s5 else emit 0x0804 r.number cause detail s5

/-- An uncorrectable error that cluster `c` reads (R182). DEDUCED, log entry 75. -/
def jugMemory (c addr : Nat) (s : State) : State :=
  let n := ((s.jug.round.map Round.number).getD (getF s F.JUG.ROUND_NUMBER))
  let s1 := setF F.JUG.STATUS_MEMORY_ERROR 1 (bumpF (F.JUG.CLUSTER_STATE_UE_COUNT c) 1 s)
  let s2 := if getF s1 (F.JUG.CLUSTER_STATE_HEALTH c) = 0 then setF (F.JUG.CLUSTER_STATE_HEALTH c) 1 s1 else s1
  endRound 10 0 (emit 0x0801 c (lo32 addr) n s2)

/-- An uncorrectable error that an operation of cluster `c` can read (R182): in LPDDR (ASM's arrays, the factor store), in the
cluster's own SRAM or in the shared solver SRAM. The cluster that counts it, its memory and its address. DEDUCED, log entry 75. -/
def solverError (c : Nat) (ue : Option (Nat × Nat)) : Option (Nat × Nat × Nat) :=
  match ue with
  | some (m, a) => if m == 0 || m == 1 + c || m == 5 then some (c, m, a) else none
  | none => none
/-- The Juggler reads it. DEDUCED, log entry 75. -/
def solverMemory (e : Nat × Nat × Nat) (s : State) : State := jugMemory e.1 e.2.2 (noteUe e.2.1 e.2.2 (some 8) s)

/-! ### Panels and positions (R161, R163) -/

/-- The model row of a pivot position. -/
def permRow (t : StorySec) (p : Nat) : Nat := t.perm.getD p 0
/-- The pivot position of a model row. -/
def permPos (t : StorySec) (row : Nat) : Nat := (t.perm.findIdx? (fun x => x == row)).getD 0
/-- A supernode record. -/
def supernode (t : StorySec) (k : Nat) : SupernodeCfg := t.supernodes.getD k {}
/-- The pivot position of a panel's local row. -/
def panelPos (t : StorySec) (n : SupernodeCfg) (li : Nat) : Nat :=
  if li < n.width then n.first + li else t.snrows.getD (n.snrowFirst + (li - n.width)) 0
/-- The local row of a pivot position in a panel. -/
def panelLocal (t : StorySec) (n : SupernodeCfg) (p : Nat) : Nat :=
  if p < n.first + n.width then p - n.first
  else ((List.range (n.height - n.width)).find? (fun i => t.snrows.getD (n.snrowFirst + i) 0 == p)).getD 0 + n.width
/-- Entries of a packed panel. -/
def panelSize (n : SupernodeCfg) : Nat := n.width * n.height - n.width * (n.width - 1) / 2
/-- The key of a panel entry: its index in the factor store. -/
def panelKey (n : SupernodeCfg) (li k : Nat) : Nat := n.factorOffset + k * n.height - k * (k - 1) / 2 + (li - k)
/-- A panel entry. -/
def panelAt (r : Round) (n : SupernodeCfg) (li k : Nat) : F32 := tableGet 0 r.panel (panelKey n li k)
/-- Write a panel entry. -/
def putPanel (n : SupernodeCfg) (li k : Nat) (v : F32) (r : Round) : Round :=
  { r with panel := tablePut 0 r.panel (panelKey n li k) v }
/-- An entry of the factor store. -/
def storeAt (r : Round) (n : SupernodeCfg) (li k : Nat) : F32 := tableGet 0 r.store (panelKey n li k)

/-- What an operation answers: the round, and a cause and detail that end it. -/
abbrev OpOut := Round × Option (Nat × Nat)
/-- NUMERIC_OVERFLOW at the first pivot position of a panel (R201). -/
def overflow (n : SupernodeCfg) : Option (Nat × Nat) := some (6, n.first)
/-- Fold over indices, stopping at the first failure. -/
def foldOps (k : Nat) (f : Nat → Round → OpOut) (r : Round) : OpOut :=
  (List.range k).foldl (fun a i => match a.2 with
    | some _ => a
    | none => f i a.1) (r, none)

/-! ### FACTOR segment (R166, R172, R199 to R201) -/

/-- LOAD_PANEL (R199). -/
def opLoadPanel (s : State) (o : StoryOp) (r : Round) : OpOut :=
  let t := storySec s
  let m := modelSec s
  let n := supernode t o.target
  let zeroed := { r with panel := r.panel.filter (fun e =>
    decide (e.1 < n.factorOffset) || decide (n.factorOffset + panelSize n ≤ e.1)) }
  foldOps m.rowIdx.length (fun k x =>
    let i := slotRow m k
    let j := slotCol m k
    let pi := permPos t i
    let pj := permPos t j
    let c := min pi pj
    if c < n.first || n.first + n.width ≤ c then (x, none)
    else
      let v := tableGet 0 x.mat k
      let w := if i = j && primalRow m i then f64Add v (tableGet 0 x.sigma c) else v
      let b := f64to32 w
      (putPanel n (panelLocal t n (max pi pj)) (c - n.first) b x, if f32Finite b then none else overflow n)) zeroed

/-- The chain of one panel entry over the columns before column `c` (R172). DEDUCED, log entry 72. -/
def chainEntry (n : SupernodeCfg) (r : Round) (li c : Nat) : F32 :=
  (List.range c).foldl (fun a k =>
    f32Fma (f32Neg (f32Mul (panelAt r n c k) (panelAt r n k k))) (panelAt r n li k) a) (panelAt r n li c)
/-- The pivot rule (R200) at local column `c`: the pivot, and what it counts. -/
def pivotRule (s : State) (n : SupernodeCfg) (c : Nat) (d : F32) (r : Round) : F32 × Round :=
  let row := permRow (storySec s) (n.first + c)
  let tau := f32Mul r.cfg.pivotTau (tableGet 0 r.scale row)
  let neg := !primalRow (modelSec s) row
  if f32Lt (f32Abs d) tau then (if neg then f32Neg tau else tau, { r with perturbed := r.perturbed + 1 })
  else if decide (d.toNat ≥ 2 ^ 31) != neg then (d, { r with wrongSign := r.wrongSign + 1 })
  else (d, r)
/-- FACTOR: LDLᵀ of the diagonal block (R200). -/
def opFactor (s : State) (o : StoryOp) (r : Round) : OpOut :=
  let n := supernode (storySec s) o.target
  foldOps n.width (fun c x =>
    let d0 := chainEntry n x c c
    let (d, x1) := pivotRule s n c d0 x
    let x2 := putPanel n c c d { x1 with dwork := tablePut 0 x1.dwork (n.first + c) d }
    if !f32Finite d then (x2, overflow n)
    else if !f32Finite (f32Div (f32OfInt 1) d) then (x2, some (6, n.first + c))
    else
      foldOps (n.width - 1 - c) (fun i y =>
        let li := c + 1 + i
        let v := f32Div (chainEntry n y li c) d
        (putPanel n li c v y, if f32Finite v then none else overflow n)) x2) r
/-- TRSM: the off-diagonal L (R172). -/
def opTrsm (s : State) (o : StoryOp) (r : Round) : OpOut :=
  let n := supernode (storySec s) o.target
  foldOps n.width (fun c x => foldOps (n.height - n.width) (fun i y =>
    let li := n.width + i
    let v := f32Div (chainEntry n y li c) (panelAt y n c c)
    (putPanel n li c v y, if f32Finite v then none else overflow n)) x) r
/-- The contribution of SOURCE's block to one entry (R172). DEDUCED, log entry 72. -/
def contribution (n : SupernodeCfg) (r : Round) (li lj : Nat) : F32 :=
  (List.range n.width).foldl (fun a k =>
    f32Fma (f32Neg (f32Mul (panelAt r n lj k) (panelAt r n k k))) (panelAt r n li k) a) 0
/-- UPDATE: subtract SOURCE's contribution from TARGET's panel (R172). -/
def opUpdate (s : State) (o : StoryOp) (r : Round) : OpOut :=
  let t := storySec s
  let n := supernode t o.target
  let q := supernode t o.source
  foldOps o.count (fun ib x => foldOps o.arg (fun jb y =>
    let i := t.snrows.getD (o.srcRow + ib) 0
    let j := t.snrows.getD (o.srcCol + jb) 0
    if i < j then (y, none)
    else
      let acc := contribution q y (q.width + (o.srcRow + ib - q.snrowFirst)) (q.width + (o.srcCol + jb - q.snrowFirst))
      let li := panelLocal t n i
      let v := f32Add (panelAt y n li (j - n.first)) acc
      (putPanel n li (j - n.first) v y, if f32Finite v && f32Finite acc then none else overflow n)) x) r
/-- SEND: the same contribution, negated, into the exchange buffer for PEER (R166, R168). -/
def opSend (s : State) (o : StoryOp) (r : Round) : OpOut :=
  let t := storySec s
  let q := supernode t o.source
  let block := (List.range (o.count * o.arg)).map (fun e =>
    let ib := e / o.arg
    let jb := e % o.arg
    if t.snrows.getD (o.srcRow + ib) 0 < t.snrows.getD (o.srcCol + jb) 0 then (0 : F32)
    else f32Neg (contribution q r (q.width + (o.srcRow + ib - q.snrowFirst)) (q.width + (o.srcCol + jb - q.snrowFirst))))
  ({ r with exch := tablePut [] r.exch (4 * o.cluster + o.peer) block },
    if block.all f32Finite then none else overflow (supernode t o.target))
/-- EXTEND_ADD: subtract the exchange buffer from PEER (R172). -/
def opExtendAdd (s : State) (o : StoryOp) (r : Round) : OpOut :=
  let t := storySec s
  let n := supernode t o.target
  let block := tableGet [] r.exch (4 * o.peer + o.cluster)
  foldOps (o.count * o.arg) (fun e y =>
    let i := t.snrows.getD (o.srcRow + e / o.arg) 0
    let j := t.snrows.getD (o.srcCol + e % o.arg) 0
    if i < j then (y, none)
    else
      let li := panelLocal t n i
      let v := f32Sub (panelAt y n li (j - n.first)) (block.getD e 0)
      (putPanel n li (j - n.first) v y, if f32Finite v then none else overflow n)) r
/-- STORE_PANEL: the packed panel goes to the factor store. -/
def opStorePanel (s : State) (o : StoryOp) (r : Round) : OpOut :=
  let n := supernode (storySec s) o.target
  ({ r with store := (List.range (panelSize n)).foldl (fun m e =>
      tablePut 0 m (n.factorOffset + e) (tableGet 0 r.panel (n.factorOffset + e))) r.store }, none)

/-! ### SOLVE and RESIDUAL segments (R172, R198) -/

/-- A binary64 result that is not finite ends the round (R198). -/
def finiteOr (v : F64) : Option (Nat × Nat) := if f64Finite v then none else some (7, 0)
/-- W at a pivot position. -/
def wAt (r : Round) (p : Nat) : F64 := tableGet 0 r.w p
/-- Write W. -/
def putW (p : Nat) (v : F64) (r : Round) : Round := { r with w := tablePut 0 r.w p v }
/-- FWD: forward substitution, columns and rows in increasing order. DEDUCED, log entry 72. -/
def opFwd (s : State) (o : StoryOp) (r : Round) : OpOut :=
  let t := storySec s
  let n := supernode t o.target
  foldOps n.width (fun c x => foldOps (n.height - 1 - c) (fun i y =>
    let li := c + 1 + i
    let p := panelPos t n li
    let v := f64Fma (f64Neg (f32to64 (storeAt y n li c))) (wAt y (n.first + c)) (wAt y p)
    (putW p v y, finiteOr v)) x) r
/-- DIAG: W(k) := W(k) ÷ D(k). -/
def opDiag (s : State) (o : StoryOp) (r : Round) : OpOut :=
  let n := supernode (storySec s) o.target
  foldOps n.width (fun c x =>
    let p := n.first + c
    let v := f64Div (wAt x p) (f32to64 (tableGet 0 x.dwork p))
    (putW p v x, finiteOr v)) r
/-- BWD: backward substitution, columns in decreasing and rows in increasing order. DEDUCED, log entry 72. -/
def opBwd (s : State) (o : StoryOp) (r : Round) : OpOut :=
  let t := storySec s
  let n := supernode t o.target
  foldOps n.width (fun b x =>
    let c := n.width - 1 - b
    foldOps (n.height - 1 - c) (fun i y =>
      let li := c + 1 + i
      let v := f64Fma (f64Neg (f32to64 (storeAt y n li c))) (wAt y (panelPos t n li)) (wAt y (n.first + c))
      (putW (n.first + c) v y, finiteOr v)) x) r
/-- R := R − a × v at a position. -/
def subR (p : Nat) (a v : F64) (r : Round) : Round :=
  { r with r := tablePut 0 r.r p (f64Sub (tableGet 0 r.r p) (f64Mul a v)) }
/-- RESID: the residual terms of some slots (R198). -/
def opResid (s : State) (o : StoryOp) (r : Round) : OpOut :=
  let t := storySec s
  let m := modelSec s
  foldOps o.count (fun e x =>
    let k := o.target + e
    let i := slotRow m k
    let j := slotCol m k
    let pi := permPos t i
    let pj := permPos t j
    let a := tableGet 0 x.mat k
    let y := if i = j then
        subR pi (if primalRow m i then f64Add a (tableGet 0 x.sigma pi) else a) (wAt x pi) x
      else subR pj a (wAt x pi) (subR pi a (wAt x pj) x)
    (y, if f64Finite (tableGet 0 y.r pi) && f64Finite (tableGet 0 y.r pj) then none else some (7, 0))) r

/-! ### VECTOR segment (R196, R197) -/

/-- The bounds of a primal row as the Juggler uses them (R194). -/
def boundsOf (s : State) (r : Round) (row : Nat) : F64 × F64 :=
  let l := tableGet f64NegInf r.lower row
  let u := tableGet f64Inf r.upper row
  if l = u || (!f64Lt l u && !f64Lt u l && f64Finite l) then
    let d := f64Mul (f32to64 (solverSec s).push) (f64Max (f64OfInt 1) (f64Abs l))
    let h := f64Div d (f64OfInt 2)
    (f64Sub l h, f64Add u h)
  else (l, u)
/-- Fold an operation's positions in increasing order. -/
def foldPositions (o : StoryOp) (f : Nat → Round → OpOut) (r : Round) : OpOut :=
  foldOps o.count (fun e x => f (o.target + e) x) r
/-- The larger step that keeps `v` + α `dv` positive does not exceed this; +∞ where `dv` does not lessen it. -/
def stepLimit (v dv : F64) : F64 := if f64Lt dv 0 then f64Div v (f64Neg dv) else f64Inf
/-- An element of a vector. -/
def vecAt (t : Table F64) (p : Nat) : F64 := tableGet 0 t p

/-- BOUND_STEP at one position (R197). -/
def boundStepAt (s : State) (cluster p : Nat) (r : Round) : OpOut :=
  let row := permRow (storySec s) p
  if !primalRow (modelSec s) row then (r, none)
  else
    let (l, u) := boundsOf s r row
    let x := vecAt r.x p
    let dx := vecAt r.delta p
    let mt := f64Mul (f32to64 (solverSec s).sigma) r.mu
    let gl := f64Sub x l
    let gu := f64Sub u x
    let zl := vecAt r.zl p
    let zu := vecAt r.zu p
    let dzl := if f64Finite l then f64Sub (f64Sub (f64Div mt gl) zl) (f64Mul (f64Div zl gl) dx) else 0
    let dzu := if f64Finite u then f64Add (f64Sub (f64Div mt gu) zu) (f64Mul (f64Div zu gu) dx) else 0
    let a0 := (tableGet none r.alphaParts cluster).getD f64Inf
    let a1 := if f64Finite l then f64Min (f64Min a0 (stepLimit gl dx)) (stepLimit zl dzl) else a0
    let a2 := if f64Finite u then f64Min (f64Min a1 (stepLimit gu (f64Neg dx))) (stepLimit zu dzu) else a1
    ({ r with dzl := tablePut 0 r.dzl p dzl, dzu := tablePut 0 r.dzu p dzu,
              alphaParts := tablePut none r.alphaParts cluster (some a2) },
      if f64Finite dzl && f64Finite dzu then none else some (7, 0))
/-- The starting iterate at one position (R196). -/
def startAt (s : State) (p : Nat) (r : Round) : OpOut :=
  let row := permRow (storySec s) p
  let v := f64Scale (tableGet 0 r.warm row) (tableGet 0 r.exps row)
  if !primalRow (modelSec s) row then ({ r with x := tablePut 0 r.x p v }, finiteOr v)
  else
    let push := f32to64 (solverSec s).push
    let mu0 := f32to64 (solverSec s).mu0
    let (l, u) := boundsOf s r row
    let dl := f64Mul push (f64Max (f64OfInt 1) (f64Abs l))
    let du := f64Mul push (f64Max (f64OfInt 1) (f64Abs u))
    let both := f64Finite l && f64Finite u
    let x := if both && f64Lt (f64Sub u l) (f64Add dl du) then f64Div (f64Add l u) (f64OfInt 2)
      else
        let x1 := if f64Finite l then f64Max v (f64Add l dl) else v
        if f64Finite u then f64Min x1 (f64Sub u du) else x1
    let zl := if f64Finite l then f64Div mu0 (f64Sub x l) else 0
    let zu := if f64Finite u then f64Div mu0 (f64Sub u x) else 0
    ({ r with x := tablePut 0 r.x p x, zl := tablePut 0 r.zl p zl, zu := tablePut 0 r.zu p zu },
      if f64Finite x && f64Finite zl && f64Finite zu then none else some (7, 0))
/-- α (R197). -/
def stepAlpha (s : State) (r : Round) : F64 :=
  f64Min (f64OfInt 1) (f64Mul (f32to64 (solverSec s).stepFraction) r.alphaMax)
/-- MOVE in a STEP run at one position. -/
def moveAt (s : State) (p : Nat) (r : Round) : OpOut :=
  let a := stepAlpha s r
  let go := fun (v d : F64) => f64Add v (f64Mul a d)
  let x := go (vecAt r.x p) (vecAt r.delta p)
  let zl := go (vecAt r.zl p) (vecAt r.dzl p)
  let zu := go (vecAt r.zu p) (vecAt r.dzu p)
  ({ r with alpha := a, x := tablePut 0 r.x p x, zl := tablePut 0 r.zl p zl, zu := tablePut 0 r.zu p zu },
    if f64Finite x && f64Finite zl && f64Finite zu then none else some (7, 0))
/-- RESIDUALS at one position: the MEASURE run takes the RESIDUAL run's −r_d and −r_p, a STEP run updates them. -/
def residualsAt (step : Bool) (p : Nat) (r : Round) : OpOut :=
  let v := if step then
      f64Sub (f64Mul (f64Sub (f64OfInt 1) r.alpha) (vecAt r.res p)) (f64Mul r.alpha (vecAt r.rlin p))
    else f64Neg (vecAt r.r p)
  ({ r with res := tablePut 0 r.res p v }, finiteOr v)
/-- MEASURE at one position: the cluster's norms and sum (R197). -/
def measureAt (s : State) (cluster p : Nat) (r : Round) : OpOut :=
  let row := permRow (storySec s) p
  let m := tableGet {} r.measParts cluster
  let a := f64Abs (vecAt r.res p)
  let b := f64Abs (tableGet 0 r.rhs0 row)
  let m' := if !primalRow (modelSec s) row then { m with rp := f64Max m.rp a, b := f64Max m.b b }
    else
      let (l, u) := boundsOf s r row
      let x := vecAt r.x p
      let m1 := { m with rd := f64Max m.rd a, q := f64Max m.q b }
      let m2 := if f64Finite l then
          { m1 with sum := f64Add m1.sum (f64Mul (f64Sub x l) (vecAt r.zl p)), count := m1.count + 1 } else m1
      if f64Finite u then
        { m2 with sum := f64Add m2.sum (f64Mul (f64Sub u x) (vecAt r.zu p)), count := m2.count + 1 } else m2
  ({ r with measParts := tablePut {} r.measParts cluster m' }, finiteOr m'.sum)
/-- PREPARE at one position: σ and the right-hand side of the next iteration (R197). -/
def prepareAt (s : State) (p : Nat) (r : Round) : OpOut :=
  let row := permRow (storySec s) p
  let res := vecAt r.res p
  if !primalRow (modelSec s) row then ({ r with rhs := tablePut 0 r.rhs p (f64Neg res) }, none)
  else
    let (l, u) := boundsOf s r row
    let x := vecAt r.x p
    let mt := f64Mul (f32to64 (solverSec s).sigma) r.mu
    let zl := vecAt r.zl p
    let zu := vecAt r.zu p
    let gl := f64Sub x l
    let gu := f64Sub u x
    let h1 := f64Neg res
    let h2 := if f64Finite l then f64Sub (f64Add h1 (f64Div mt gl)) zl else h1
    let h3 := if f64Finite u then f64Add (f64Sub h2 (f64Div mt gu)) zu else h2
    let sl := if f64Finite l then f64Div zl gl else 0
    let su := if f64Finite u then f64Div zu gu else 0
    let sg := f64Add sl su
    ({ r with rhs := tablePut 0 r.rhs p h3, sigma := tablePut 0 r.sigma p sg },
      if f64Finite h3 && f64Finite sg then none else some (7, 0))

/-- The clusters in increasing number. -/
def clusterList : List Nat := [0, 1, 2, 3]
/-- REDUCE: combine the clusters' partials in increasing cluster number (R198). -/
def opReduce (r : Round) : OpOut :=
  let r1 := if r.alphaParts = [] then r
    else { r with
      alphaMax := clusterList.foldl (fun a c => f64Min a ((tableGet none r.alphaParts c).getD f64Inf)) f64Inf
      alphaParts := [] }
  if r1.measParts = [] then (r1, none)
  else
    let parts := clusterList.map (fun c => tableGet ({} : MeasPart) r1.measParts c)
    let big := fun (f : MeasPart → F64) => parts.foldl (fun a m => f64Max a (f m)) 0
    let sum := parts.foldl (fun a m => f64Add a m.sum) 0
    let n : Nat := (parts.map MeasPart.count).sum
    let tp := f64Div (big MeasPart.rp) (f64Add (f64OfInt 1) (big MeasPart.b))
    let td := f64Div (big MeasPart.rd) (f64Add (f64OfInt 1) (big MeasPart.q))
    let mu := if n = 0 then 0 else f64Div sum (f64OfInt n)
    ({ r1 with thetaP := tp, thetaD := td, mu := mu, measParts := [] },
      if f64Finite tp && f64Finite td && f64Finite mu then none else some (7, 0))

/-- A VECTOR operation by its function code and run (R197). -/
def opVector (s : State) (o : StoryOp) (r : Round) : OpOut :=
  let mode := (r.run.map SegRun.mode).getD .start
  match o.source % 256, mode with
  | 1, .step => foldPositions o (boundStepAt s o.cluster) r
  | 2, .start => foldPositions o (startAt s) r
  | 2, .step => foldPositions o (moveAt s) r
  | 3, .measure => foldPositions o (residualsAt false) r
  | 3, .step => foldPositions o (residualsAt true) r
  | 4, .measure => foldPositions o (measureAt s o.cluster) r
  | 4, .step => foldPositions o (measureAt s o.cluster) r
  | 5, .measure => foldPositions o (prepareAt s) r
  | 5, .step => foldPositions o (prepareAt s) r
  | _, _ => (r, none)

/-! ### Dispatch (R170, R171) -/

/-- The operation uses the stream lane. -/
def streamLane (o : StoryOp) : Bool := o.opcode == 0x01 || o.opcode == 0x07 || o.stream
/-- Operation `k` may run now: it lies in the run's segment, has not run, and what it waits for has ended. DEDUCED, log entry 73. -/
def opReady (t : StorySec) (g : SegRun) (k : Nat) : Bool :=
  let o := t.ops.getD k {}
  let (first, cnt, _) := segment t (segmentOf g.mode)
  let before := (List.range (k - first)).map (fun i => first + i)
  decide (first ≤ k) && decide (k < first + cnt) && !g.done.contains k &&
    before.all (fun i =>
      let b := t.ops.getD i {}
      b.cluster != o.cluster || g.done.contains i || (streamLane b != streamLane o && !o.joined)) &&
    (o.opcode != 0x09 || decide (tableGet 0 g.barriers o.arg ≥ (t.barriers.getD o.arg (0, 0)).2))
/-- Operation `k` is dispatched and ends, if it has the opcode (and for VECTOR the function code) and is ready. `ue` holds the
memory and the address of an uncorrectable error that it reads. DEDUCED, log entry 73. -/
def storyOp (opcode code k : Nat) (ue : Option (Nat × Nat)) (f : State → StoryOp → Round → OpOut) (s : State) : State :=
  match s.jug.round with
  | none => s
  | some r =>
    match r.run with
    | none => s
    | some g =>
      let o := (storySec s).ops.getD k {}
      if !unitRuns s 7 || o.opcode ≠ opcode || (opcode == 0x0E && o.source % 256 != code) || !opReady (storySec s) g k then s
      else
        let s0 := setF F.STB.CURRENT_OP k s
        match solverError o.cluster ue with
        | some e => solverMemory e s0
        | none =>
          let out := f s o r
          let barriers := if opcode = 0x08 then tablePut 0 g.barriers o.arg (tableGet 0 g.barriers o.arg + 1) else g.barriers
          let r' := { out.1 with run := some { g with done := g.done ++ [k], barriers := barriers } }
          let s1 := updRound (fun _ => r') s0
          match out.2 with
          | some (cause, detail) => endRound cause detail s1
          | none => s1

/-- LOAD_PANEL (R166, R199). `ue` holds the memory and the address of an uncorrectable error that it reads. -/
def execLoadPanel (k : Nat) (ue : Option (Nat × Nat)) (s : State) : Result := .next (storyOp 0x01 0 k ue opLoadPanel s)
/-- FACTOR (R200). -/
def execFactor (k : Nat) (ue : Option (Nat × Nat)) (s : State) : Result := .next (storyOp 0x02 0 k ue opFactor s)
/-- TRSM (R172). -/
def execTrsm (k : Nat) (ue : Option (Nat × Nat)) (s : State) : Result := .next (storyOp 0x03 0 k ue opTrsm s)
/-- UPDATE (R172). -/
def execUpdate (k : Nat) (ue : Option (Nat × Nat)) (s : State) : Result := .next (storyOp 0x04 0 k ue opUpdate s)
/-- SEND (R166). -/
def execStbSend (k : Nat) (ue : Option (Nat × Nat)) (s : State) : Result := .next (storyOp 0x05 0 k ue opSend s)
/-- EXTEND_ADD (R172). -/
def execExtendAdd (k : Nat) (ue : Option (Nat × Nat)) (s : State) : Result := .next (storyOp 0x06 0 k ue opExtendAdd s)
/-- STORE_PANEL (R166). -/
def execStorePanel (k : Nat) (ue : Option (Nat × Nat)) (s : State) : Result := .next (storyOp 0x07 0 k ue opStorePanel s)
/-- ARRIVE (R171). -/
def execArrive (k : Nat) (s : State) : Result := .next (storyOp 0x08 0 k none (fun _ _ r => (r, none)) s)
/-- WAIT (R171): it starts when its barrier is complete, and ends. -/
def execWait (k : Nat) (s : State) : Result := .next (storyOp 0x09 0 k none (fun _ _ r => (r, none)) s)
/-- FWD (R172). -/
def execFwd (k : Nat) (ue : Option (Nat × Nat)) (s : State) : Result := .next (storyOp 0x0A 0 k ue opFwd s)
/-- DIAG (R166). -/
def execDiag (k : Nat) (ue : Option (Nat × Nat)) (s : State) : Result := .next (storyOp 0x0B 0 k ue opDiag s)
/-- BWD (R172). -/
def execBwd (k : Nat) (ue : Option (Nat × Nat)) (s : State) : Result := .next (storyOp 0x0C 0 k ue opBwd s)
/-- RESID (R198). -/
def execResid (k : Nat) (ue : Option (Nat × Nat)) (s : State) : Result := .next (storyOp 0x0D 0 k ue opResid s)
/-- BOUND_STEP (R197). -/
def execBoundStep (k : Nat) (ue : Option (Nat × Nat)) (s : State) : Result := .next (storyOp 0x0E 1 k ue opVector s)
/-- MOVE (R197). -/
def execMove (k : Nat) (ue : Option (Nat × Nat)) (s : State) : Result := .next (storyOp 0x0E 2 k ue opVector s)
/-- RESIDUALS (R197). -/
def execResiduals (k : Nat) (ue : Option (Nat × Nat)) (s : State) : Result := .next (storyOp 0x0E 3 k ue opVector s)
/-- MEASURE (R197). -/
def execMeasure (k : Nat) (ue : Option (Nat × Nat)) (s : State) : Result := .next (storyOp 0x0E 4 k ue opVector s)
/-- PREPARE (R197). -/
def execPrepare (k : Nat) (ue : Option (Nat × Nat)) (s : State) : Result := .next (storyOp 0x0E 5 k ue opVector s)
/-- REDUCE (R198). -/
def execReduce (k : Nat) (ue : Option (Nat × Nat)) (s : State) : Result := .next (storyOp 0x0F 0 k ue (fun _ _ r => opReduce r) s)

end Sys2Proof.Machine
end

