-- ==== Sys2Proof/Machine/Jug.lean ====
section
/-! DEFINITION. Solver rounds: start, hand-over, the round loop, deadline, plans and their publication (R178 to R183,
R187 to R213). -/

namespace Sys2Proof.Machine

open Sys2Proof

/-! ### Clusters and idle gating (R180) -/

/-- Power domain of cluster `c`. -/
def clusterDomain (c : Nat) : Nat := 4 + c
/-- The clusters of CLUSTER_MASK. -/
def usedClusters (s : State) : List Nat := clusterList.filter (fun c => bitF s F.JUG.CONFIG_USED c)
/-- Switch a cluster's domain; POWERED shows it. -/
def setCluster (on : Bool) (c : Nat) (s : State) : State := setBit F.PWR.DOMAIN_STATE (clusterDomain c) on s
/-- At a round's start tick the used clusters switch on. -/
def wakeClusters (s : State) : State :=
  if flag s F.JUG.CONFIG_IDLE_GATING then (usedClusters s).foldl (fun t c => setCluster true c t) s else s
/-- At the first tick boundary after a round's end the used clusters switch off. -/
def gateClusters (s : State) : State :=
  if s.jug.gateOff then
    (usedClusters s).foldl (fun t c => setCluster false c t) { s with jug := { s.jug with gateOff := false } }
  else s

/-! ### The start of a round (R152, R187, R189, R195) -/

/-- Tick `n` is a round's start tick (R187). -/
def roundStartTick (s : State) (n : Nat) : Bool :=
  let v := solverSec s
  decide (v.phase ≤ n) && (n - v.phase) % v.period == 0
/-- The configuration that a round starts with (R212). -/
def roundCfgNow (s : State) : RoundCfg :=
  let w := fun (f : Field) => BitVec.ofNat 32 (getF s f)
  { maxIter := getF s F.JUG.SOLVE_CONFIG_MAX_ITER, pivotTau := w F.JUG.PIVOT_TAU, refineTol := w F.JUG.REFINE_TOL,
    feasGate := w F.JUG.FEAS_GATE, primalTol := w F.JUG.PRIMAL_TOL, dualTol := w F.JUG.DUAL_TOL, gapTol := w F.JUG.GAP_TOL }
/-- The round snapshot and the judging of its inputs (R152 to R154). A bad REQUIRE input fails the round before
SUBST_LIMIT is looked at (log entry 76). -/
def startRound (s : State) : State :=
  let n := s.tick.number
  let v := solverSec s
  let num := getF s F.JUG.ROUND_NUMBER + 1
  let (warm, adv, src) := warmPlan s (n + v.period)
  let (j, s1) := judgeInputs warm (wakeClusters s)
  let (inputs, subst, missing) := j
  let r : Round :=
    { number := num, start := n, cfg := roundCfgNow s, stamp := stampAt s s.tick.startNs, inputs := inputs,
      values := s.txn.values, warm := warm, warmRound := src, warmAdvance := adv }
  let s2 := { s1 with jug := { s1.jug with round := some r } }
  let s3 := setF F.JUG.ROUND_NUMBER num (setF F.JUG.ROUND_STATE_ITERATION 0 (setF F.JUG.ROUND_STATE_PHASE 1
    (setF F.JUG.DEADLINE_TICK (lo32 (n + v.deadline)) (setF F.JUG.PUBLISH_TICK (lo32 (n + v.period - 1))
      (setF F.ASM.STATUS_ASSEMBLING 1 (setF F.ASM.LAST_SUBST subst (bumpF F.ASM.SUBST_TOTAL subst s2)))))))
  match missing with
  | some i => endRound 9 0 (asmResult num 1 i 0 s3)
  | none =>
    if (modelSec s).substLimit ≠ 0 && decide (subst > (modelSec s).substLimit) then
      endRound 9 0 (asmResult num 2 subst 0 s3)
    else s3

/-- ROUND_START (R152): at cycle 0 of a round's start tick. -/
def execRoundStart (s : State) : Result :=
  let fresh := (s.jug.round.map Round.start) != some s.tick.number
  .next (if roundsRun s && imageUp s && roundStartTick s s.tick.number && !s.tick.curtainDone && fresh then startRound s else s)

/-- An uncorrectable error that ASM reads (R158). DEDUCED, log entry 75. -/
def asmMemory (addr : Nat) (inData : Bool) (s : State) : State :=
  match s.jug.round with
  | none => s
  | some r =>
    let s1 := if inData then { s with asm := { s.asm with badData := some addr } } else s
    let s2 := emit 0x0605 r.number (lo32 addr) 0 (setF F.ASM.STATUS_MEMORY_ERROR 1 s1)
    endRound 9 0 (asmResult r.number 6 (lo32 addr) (asmCycles (modelSec s) (stencilsSec s)) s2)

/-- ROUND_ASSEMBLED (R157): ASM_CYCLES have passed. `ue` is the address of an uncorrectable error that ASM has read,
`inData` tells that it lies in the MODEL or STENCILS data. -/
def execRoundAssembled (ue : Option Nat) (inData : Bool) (s : State) : Result :=
  match s.jug.round with
  | none => .next s
  | some r =>
    if r.ended.isSome || r.handOver.isSome || !unitRuns s 6 || decide (s.tick.number + 1 < r.start + asmTicks s) then .next s
    else .next (match ue, s.asm.badData with
      | some addr, _ => asmMemory addr inData (noteUe 0 addr (some 6) s)
      | none, some addr => asmMemory addr true (noteUe 0 addr (some 6) s)
      | none, none =>
        let (r1, result, detail) := assemble s r
        let cycles := asmCycles (modelSec s) (stencilsSec s)
        let s1 := updRound (fun _ => { r1 with handOver := if result = 0 then some (s.tick.number + 1) else none }) s
        let s2 := if result = 0 || result = 5 then showScaling (modelSec s) (rowMax (modelSec s) (runStencils s r).1.mat) r1 s1 else s1
        let s3 := asmResult r.number result detail cycles s2
        if result = 0 then s3 else endRound 9 0 s3)

/-! ### Runs (R195) -/

/-- A run of a segment starts: its barriers' counts are 0 (R171). -/
def startRun (mode : RunMode) (s : State) : State :=
  setF F.STB.STATUS_RUNNING 1 (setF F.STB.STATUS_SEGMENT (segmentOf mode)
    (updRound (fun r => { r with run := some { mode := mode } }) s))
/-- The residual's right-hand side and vector of the prologue (R196). -/
def prologueVectors (s : State) (r : Round) : Round :=
  let m := modelSec s
  let t := storySec s
  (List.range m.rowCount).foldl (fun y p =>
    let row := permRow t p
    let q := tableGet 0 y.rhs0 row
    let v := if primalRow m row then f64Sub (f64Add (f64Neg q) (vecAt y.zl p)) (vecAt y.zu p) else q
    { y with r := tablePut 0 y.r p v }) { r with r := [], w := r.x }
/-- The hand-over of a round's arrays at the start of a tick (R157, R178, R180). -/
def handOver (s : State) : State :=
  match s.jug.round with
  | none => s
  | some r =>
    if r.ended.isSome || r.handOver ≠ some s.tick.number || r.run.isSome then s
    else
      let s1 := setF F.ASM.STATUS_ASSEMBLING 0 s
      if (usedClusters s).any (fun c => getF s (F.JUG.CLUSTER_STATE_HEALTH c) == 2) then endRound 11 0 s1
      else startRun .start (setF F.JUG.STATUS_SOLVING 1 (setF F.JUG.ROUND_STATE_PHASE 2 s1))

/-- ITER_MAX (R188). -/
def iterMax (t : StorySec) (m : Nat) : Nat :=
  let u := fun g => runBound (segment t g).2.2
  u 0 + (1 + m) * u 1 + m * u 2 + u 3
/-- CLK_SOLVE cycles left before T(D), in halves of a cycle (R205). -/
def solveHalvesTo (s : State) (d : Nat) : Nat := ((d - s.tick.number) * 62500 - s.tick.cycle) * 5
/-- converged() (R203). -/
def converged (r : Round) : Bool :=
  f64Le r.thetaP (f32to64 r.cfg.primalTol) && f64Le r.thetaD (f32to64 r.cfg.dualTol) && f64Le r.mu (f32to64 r.cfg.gapTol)
/-- Take the present iterate as the last completed one, and show its measures. -/
def completeIterate (s : State) : State :=
  match s.jug.round with
  | none => s
  | some r =>
    setF F.JUG.LAST_THETA_P (f64to32 r.thetaP).toNat (setF F.JUG.LAST_THETA_D (f64to32 r.thetaD).toNat
      (setF F.JUG.LAST_MU (f64to32 r.mu).toNat
        (updRound (fun x => { x with lastX := x.x, lastThetaP := x.thetaP, lastThetaD := x.thetaD, lastMu := x.mu }) s)))
/-- The top of the loop of R195: the round ends, or the next FACTOR run starts. -/
def nextIteration (s : State) : State :=
  match s.jug.round with
  | none => s
  | some r =>
    let d := r.start + (solverSec s).deadline
    if converged r then endRound 0 0 s
    else if r.steps = r.cfg.maxIter then endRound 3 0 s
    else if (solverSec s).startGuard && decide (solveHalvesTo s d < 2 * iterMax (storySec s) (solverSec s).refineMax) then
      endRound 1 0 s
    else startRun .factor (setF F.JUG.ROUND_STATE_PHASE 3
      (updRound (fun x => { x with iterCycles := 0, refineStep := 0, delta := [] }) s))
/-- ‖·‖∞ of a vector. -/
def maxNorm (t : Table F64) : F64 := t.foldl (fun a e => f64Max a (f64Abs e.2)) 0
/-- ρ (R202). -/
def rhoOf (r : Round) : F64 :=
  let kmax := f64Add (r.scale.foldl (fun a e => f64Max a (f32to64 e.2)) 0) (r.sigma.foldl (fun a e => f64Max a e.2) 0)
  let d := f64Add (maxNorm r.rhs) (f64Mul kmax (maxNorm r.delta))
  if f64Le d 0 then 0 else f64Div (maxNorm r.r) d
/-- After a SOLVE run: refine, or step (R195, R202). -/
def afterSolve (s : State) : State :=
  match s.jug.round with
  | none => s
  | some r =>
    if r.refineStep < (solverSec s).refineMax then
      startRun .residual (updRound (fun x => { x with refineStep := x.refineStep + 1, w := x.delta, r := x.rhs }) s)
    else startRun .step (updRound (fun x => { x with rlin := [] }) s)
/-- Δ := Δ + the solution of the last SOLVE run; the first one gives Δ. -/
def addSolution (r : Round) : Round × Bool :=
  let d := if r.refineStep = 0 then r.w
    else (r.delta ++ r.w).foldl (fun t e => tablePut 0 t e.1 (f64Add (vecAt r.delta e.1) (vecAt r.w e.1))) []
  ({ r with delta := d }, d.all (fun e => f64Finite e.2))

/-- What follows the end of a run (R195). -/
def afterRun (mode : RunMode) (s : State) : State :=
  match mode with
  | .start => startRun .residualFirst (updRound (prologueVectors s) s)
  | .residualFirst => startRun .measure s
  | .measure => nextIteration (completeIterate s)
  | .factor => startRun .solve (updRound (fun r => { r with w := r.rhs }) s)
  | .solve =>
    let ok := ((s.jug.round.map addSolution).map Prod.snd).getD true
    let s1 := updRound (fun r => (addSolution r).1) s
    if ok then afterSolve s1 else endRound 7 0 s1
  | .residual =>
    match s.jug.round with
    | none => s
    | some r =>
      let rho := rhoOf r
      let s1 := setF F.JUG.LAST_RHO (f64to32 rho).toNat (updRound (fun x => { x with rho := rho }) s)
      if f64Le rho (f32to64 r.cfg.refineTol) then startRun .step (updRound (fun x => { x with rlin := x.r }) s1)
      else if r.refineStep = (solverSec s).refineMax then endRound 5 (f64to32 rho).toNat s1
      else startRun .solve (updRound (fun x => { x with w := x.r }) s1)
  | .step =>
    match s.jug.round with
    | none => s
    | some r =>
      let s1 := setF F.STB.LAST_ITER_CYCLES (min r.iterCycles 0xFFFFFFFF) (setF F.JUG.ROUND_STATE_ITERATION (r.steps + 1)
        (completeIterate (updRound (fun x => { x with steps := x.steps + 1 }) s)))
      if f64Lt r.alpha (f32to64 (solverSec s).alphaMin) then endRound 4 0 s1 else nextIteration s1

/-- The registers of a completed segment run, and SEGMENT_SLOW (R177, R184). -/
def runRegisters (g cycles : Nat) (s : State) : State :=
  noteSlow g cycles
    (setF (F.STB.LAST_CYCLES g) cycles (setF (F.STB.WORST_CYCLES g) (max cycles (getF s (F.STB.WORST_CYCLES g))) s))
/-- A run of segment `g` reaches 2 × PRED_CYCLES + 156,250 cycles and is stopped (R177). -/
def stallRun (g : Nat) (s : State) : State :=
  let op := getF s F.STB.CURRENT_OP
  let s1 := noteSlow g (stallLimit s g) (updRound (fun x => { x with run := none }) s)
  let s2 := setF F.STB.STATUS_STALLED 1 (bumpF F.STB.STALL_COUNT 1 s1)
  endRound 8 0 (emit 0x0702 g op ((storySec s).ops.getD op {}).cluster s2)
/-- Every operation of the run's segment has ended. -/
def runComplete (s : State) (g : SegRun) : Bool :=
  let (first, cnt, _) := segment (storySec s) (segmentOf g.mode)
  (List.range cnt).all (fun i => g.done.contains (first + i))

/-- SEGMENT_RUN_END (R195): the run has ended after `cycles` CLK_SOLVE cycles, gap included; one that would last longer than R177
allows has been stopped. `ue` holds the memory and the address of an uncorrectable error that the Juggler has read at the end of
the run. DEDUCED, log entry 78. -/
def execSegmentRunEnd (cycles : Nat) (ue : Option (Nat × Nat)) (s : State) : Result :=
  match s.jug.round with
  | none => .next s
  | some r =>
    match r.run with
    | none => .next s
    | some g =>
      let n := segmentOf g.mode
      if !unitRuns s 7 || !runComplete s g then .next s
      else if cycles ≥ stallLimit s n then .next (stallRun n s)
      else
        let s1 := setF F.STB.STATUS_RUNNING 0
          (updRound (fun x => { x with run := none, iterCycles := x.iterCycles + cycles, runCycles := x.runCycles + cycles })
            (runRegisters n cycles s))
        .next (match solverError ((storySec s).ops.getD (getF s F.STB.CURRENT_OP) {}).cluster ue with
          | some e => solverMemory e s1
          | none => afterRun g.mode s1)

/-- SEGMENT_STALLED (R177): the run has reached 2 × PRED_CYCLES + 156,250 cycles and is stopped. -/
def execSegmentStalled (s : State) : Result :=
  match s.jug.round with
  | none => .next s
  | some r =>
    match r.run with
    | none => .next s
    | some g =>
      .next (stallRun (segmentOf g.mode) s)

/-- ROUND_DEADLINE (R179, R205): T(D). The segment run is abandoned; where ASM has not handed over, its result is DEADLINE.
`ue` holds the memory and the address of an uncorrectable error that the Juggler reads in the CLK_SOLVE cycle of T(D): it is
reported, and the abandoned run recorded too. So it is with any failure that ended the round in that cycle, as `same` says of one
that has come in this CLK_CORE cycle, which holds more than one of CLK_SOLVE. DEDUCED, log entries 77 and 78. -/
def execRoundDeadline (ue : Option (Nat × Nat)) (same : Bool) (s : State) : Result :=
  match s.jug.round with
  | none => .next s
  | some r =>
    if s.tick.number < r.start + (solverSec s).deadline then .next s
    else if r.ended.isSome then
      .next (if same && r.endCycle = s.clap.cycles && r.endSegment < 4 then
          emit 0x0703 r.number r.endSegment (getF s F.STB.CURRENT_OP) { s with jug := { s.jug with round := some { r with endSegment := 4 } } }
        else s)
    else match r.run with
      | some g =>
        let op := getF s F.STB.CURRENT_OP
        let s1 := emit 0x0703 r.number (segmentOf g.mode) op s
        .next (match solverError ((storySec s).ops.getD op {}).cluster ue with
          | some e => updRound (fun x => { x with endSegment := 4 }) (solverMemory e s1)
          | none => endRound 2 0 s1)
      | none =>
        let cycles := asmUsed s (solverSec s).deadline
        .next (endRound 9 0 (asmResult r.number 7 (asmSteps s cycles) cycles s))

/-- CLUSTER_WAKE_FAILED (R180): used cluster `k` is not ready by hand-over. -/
def execClusterWakeFailed (k : Nat) (s : State) : Result :=
  .next (if k < 4 && bitF s F.JUG.CONFIG_USED k && inState s .live then
      setHealth 8 2 (emit 0x0802 k (getF s F.JUG.ROUND_NUMBER) 0 (setF (F.JUG.CLUSTER_STATE_HEALTH k) 2 s))
    else s)

/-! ### Plans and publication (R189, R204, R206 to R211) -/

/-- The plan of an ended round (R204, R207). -/
def planOf (s : State) (r : Round) : Plan :=
  let v := solverSec s
  let (cause, st) := r.ended.getD (13, 3)
  let shifted := st == 3
  let t := storySec s
  let values := if shifted then r.warm
    else (List.range (modelSec s).rowCount).foldl (fun m p =>
      let row := permRow t p
      tablePut 0 m row (f64Scale (vecAt r.lastX p) (-(tableGet 0 r.exps row)))) []
  { round := r.number, status := st, cause := cause, iterations := r.steps, advance := if shifted then r.warmAdvance else 0,
    planStart := r.start + v.period, sourceRound := if shifted then r.warmRound else r.number, stamp := r.stamp,
    publishTick := r.start + v.period - 1, thetaP := if shifted then 0 else r.lastThetaP,
    thetaD := if shifted then 0 else r.lastThetaD, mu := if shifted then 0 else r.lastMu,
    perturbed := r.perturbed, wrongSign := r.wrongSign, values := values }

/-- PLAN_WRITTEN (R206): the ended round's plan stands in the back buffer. -/
def execPlanWritten (s : State) : Result :=
  .next (match s.jug.round with
    | some r =>
      if r.ended.isSome && getF s F.JUG.ROUND_STATE_PHASE == 4 && unitRuns s 8 then
        setF F.JUG.ROUND_STATE_PHASE 5 { s with jug := { s.jug with back := some (planOf s r) } }
      else s
    | none => s)

/-- A plan value converted for a setpoint (R209). -/
def setpointValue (convert : Nat) (v : F64) : Word :=
  if convert = 0 then
    let b := f64to32 v
    if f32v b = .inf false then 0x7F7FFFFF else if f32v b = .inf true then 0xFF7FFFFF else b
  else BitVec.ofInt 32 (clampI32 (f64ToInt v))
/-- The setpoints of step `j` of a plan (R209). DEDUCED, log entry 79. -/
def planSetpoints (s : State) (values : Table F64) (j : Nat) : List Setpoint :=
  (solverSec s).setpoints.map (fun e =>
    let w := match entityOf (modelSec s) e.row with
      | some n => n.vars + n.cons
      | none => 0
    { kind := e.kind, target := e.target, value := setpointValue e.convert (tableGet 0 values (e.row + j * w)) })

/-- The step of the front plan that JUG posts at the Curtain of tick `n`: j from 1 to s − 1 (R209). -/
def stepDue (s : State) (n : Nat) : Option Nat :=
  match s.jug.front with
  | none => none
  | some p =>
    let st := (modelSec s).stepTicks
    let d := n + 1 - p.planStart
    if p.planStart < n + 1 && d % st = 0 && decide (d / st < (solverSec s).period / st) then some (d / st) else none
/-- JUG's posts of a tick: the publication, or a step (R206, R209). The tag tells them apart: 0, or the step. -/
def jugTick (s : State) : State :=
  let n := s.tick.number
  let put := fun (e : StagedEntry) => { s with tick := { s.tick with outbox := s.tick.outbox ++ [e] } }
  if !roundsRun s then s
  else match s.jug.back, stepDue s n with
    | some p, d =>
      if p.publishTick = n then put { unit := 8, due := n, setpoints := planSetpoints s p.values 0 }
      else match d, s.jug.front with
        | some j, some f => put { unit := 8, due := n, tag := j, setpoints := planSetpoints s f.values j }
        | _, _ => s
    | none, some j =>
      match s.jug.front with
      | some f => put { unit := 8, due := n, tag := j, setpoints := planSetpoints s f.values j }
      | none => s
    | none, none => s
/-- A step post missed its Curtain (R209). DEDUCED, log entry 74. -/
def stepSkipped (j : Nat) (s : State) : State :=
  emit 0x0806 ((s.jug.front.map Plan.round).getD 0) j 0 s
/-- A result of JUG is due at the Curtain of tick `n` (R187). -/
def roundDue (s : State) (n : Nat) : Bool :=
  match s.jug.round with
  | some r => r.start + (solverSec s).period - 1 == n
  | none => false

/-- A plan becomes the front buffer, with its counts and records (R208, R213). -/
def publishPlan (p : Plan) (s : State) : State :=
  let s1 := setF F.JUG.PUBLISHED_ROUND p.round
    { s with jug := { s.jug with front := some p, back := none, published := true } }
  let s2 := match p.status with
    | 1 => bumpF F.JUG.CONVERGED_COUNT 1 s1
    | 2 => bumpF F.JUG.EARLY_COUNT 1 s1
    | 3 => bumpF F.JUG.SHIFTED_COUNT 1 s1
    | _ => s1
  let s3 := emit 0x0803 p.round (p.status + 256 * p.cause) p.iterations s2
  if p.perturbed ≠ 0 || p.wrongSign ≠ 0 then emit 0x0805 p.round p.perturbed p.wrongSign s3 else s3
/-- The Curtain publishes the round's result. -/
def jugCommit (s : State) : State :=
  match s.jug.back with
  | some p => setF F.JUG.ROUND_STATE_PHASE 0 (publishPlan p s)
  | none => s
/-- Round 0 at the first Curtain of LIVE (R189), and its setpoints of step 0 (R209). DEDUCED, log entry 79. -/
def publishInitial (s : State) : State × List Setpoint :=
  if !roundsRun s then (s, [])
  else
    let p : Plan :=
      { planStart := (solverSec s).phase, publishTick := s.tick.number, values := tableOf (solverSec s).initial
        perturbed := getF s F.JUG.LAST_PERTURBED, wrongSign := getF s F.JUG.LAST_WRONG_SIGN }
    (publishPlan p s, planSetpoints s p.values 0)

/-- Tick `n` ends a round period: its Curtain is a publication Curtain (R187). -/
def publicationTick (s : State) (n : Nat) : Bool :=
  let v := solverSec s
  decide (v.phase < n + 1) && (n + 1 - v.phase) % v.period == 0
/-- A plan advanced to a plan start, as SHIFTED with cause SWITCH_OVER (R211). -/
def shiftedPlan (s : State) (f : Plan) (num ps : Nat) : Plan :=
  let k := stepsBetween (modelSec s) f.planStart ps
  { round := num, status := 3, cause := 12, advance := k, planStart := ps, sourceRound := f.round, stamp := f.stamp
    publishTick := s.tick.number, perturbed := getF s F.JUG.LAST_PERTURBED, wrongSign := getF s F.JUG.LAST_WRONG_SIGN
    values := advancePlan (modelSec s) (solverSec s).rates (solverSec s).terminal k f.values }
/-- Publish a plan and keep the back buffer of the round in progress. -/
def publishKeep (p : Plan) (s : State) : State :=
  let keep := s.jug.back
  let t := publishPlan p s
  { t with jug := { t.jug with back := keep } }
/-- The new Lead's first Curtain is the publication Curtain of the round in progress, whose own result is discarded (R211). -/
def switchesOwn (s : State) : Bool :=
  roundDue s s.tick.number || (s.jug.round.isNone && publicationTick s s.tick.number)
/-- The round that the new Lead publishes at its first Curtain (R211): the state, and the setpoints in force. A module
that has started no round of its own publishes one more at the publication Curtain of the round in progress (R427). -/
def switchRound (s : State) : State × List Setpoint :=
  let s0 := { s with jug := { s.jug with switchPending := false, switchFrom := none } }
  match s.jug.switchPending && roundsRun s, s.jug.switchFrom with
  | true, some f =>
    let n := s.tick.number
    let m := s.spot.mirrored.publishedRound
    let st := (modelSec s).stepTicks
    let own := switchesOwn s
    let ps := if own then n + 1 else f.planStart + (n + 1 - f.planStart) / st * st
    let p := shiftedPlan s f (m + 2) ps
    let s1 := if own then setF F.JUG.ROUND_NUMBER (m + 2) { s0 with jug := { s0.jug with back := none, round := none } }
      else
        let t := setF F.JUG.ROUND_NUMBER (m + 3) (updRound (fun r => { r with number := m + 3 }) s0)
        let back := t.jug.back.map (fun b =>
          { b with round := m + 3, sourceRound := if b.status = 3 then b.sourceRound else m + 3 })
        { t with jug := { t.jug with back := back, shiftNext := if s0.jug.round.isNone then some (m + 3) else none } }
    let s2 := publishKeep p s1
    (emit 0x0807 (m + 2) p.advance (ofBool own) s2, planSetpoints s p.values 0)
  | _, _ => (s0, [])
/-- The further SHIFTED round of a new Lead without a round of its own, at its publication Curtain (R427); `source` is
round M's plan. DEDUCED, log entry 74. -/
def shiftRound (source : Option Plan) (s : State) : State × List Setpoint :=
  match s.jug.shiftNext, source with
  | some num, some f =>
    if roundsRun s && publicationTick s s.tick.number then
      let p := shiftedPlan s f num (s.tick.number + 1)
      (publishKeep p { s with jug := { s.jug with shiftNext := none } }, planSetpoints s p.values 0)
    else (s, [])
  | _, _ => (s, [])

/-- JUG and ASM when the device enters LIVE, and when it leaves (R154, R189). -/
def jugReset (s : State) : State :=
  setF F.JUG.ROUND_NUMBER 0 (setF F.JUG.PUBLISHED_ROUND 0 (setF F.JUG.ROUND_STATE_PHASE 0 (setF F.JUG.STATUS_SOLVING 0
    (setF F.STB.STATUS_RUNNING 0 (setF F.ASM.STATUS_ASSEMBLING 0
      { s with jug := { front := none }, asm := {} })))))

end Sys2Proof.Machine
end

