-- ==== Sys2Proof/Machine/Sine.lean ====
section
/-! DEFINITION. The sine table of the test signals (R234): S[q] is sin(2π q ÷ 4,096) rounded to binary32. -/

namespace Sys2Proof.Machine

/-- π × 2¹²⁸, truncated. -/
def piFixed : Nat := 1069028584064966747859680373161870783300
/-- The terms of the sine series at an angle scaled by 2¹²⁸: `fuel` more terms after `term`, the k-th. -/
def sineSeries : Nat → Int → Int → Nat → Int
  | 0, _, _, _ => 0
  | fuel + 1, x2, term, k =>
    term + sineSeries fuel x2 (-(term * x2 / 2 ^ 128) / (((2 * k + 2) * (2 * k + 3) : Nat) : Int)) (k + 1)
/-- sin(2π r ÷ 4,096) for r from 0 to 1,024, scaled by 2¹²⁸. -/
def sineQuarter (r : Nat) : Nat :=
  if r = 1024 then 2 ^ 128
  else
    let x : Int := (piFixed * r / 2048 : Nat)
    (sineSeries 30 (x * x / 2 ^ 128) x 0).toNat
/-- S[q] of R234. -/
def sineEntry (q : Nat) : F32 :=
  let p := q % 4096
  let r := p % 1024
  let m := if p / 1024 % 2 = 0 then sineQuarter r else sineQuarter (1024 - r)
  f32 (.fin (p ≥ 2048) m (-128))

end Sys2Proof.Machine
end

