-- ==== Sys2Proof/Machine/Trp.lean ====
section
/-! DEFINITION. The Tightrope loop engine: evaluation, fallback, test signals, captures (R214 to R239). -/

namespace Sys2Proof.Machine

open Sys2Proof

/-! ### Configuration -/

/-- The LOOPS section; empty where the Reel has none. -/
def loopsSec (s : State) : LoopsSec := s.cfg.loops.getD {}
/-- A loop's entry. -/
def loopCfg (s : State) (l : Nat) : Option LoopCfg := (loopsSec s).loops.find? (fun c => c.loop == l)
/-- A loop's committed state. -/
def loopState (s : State) (l : Nat) : LoopState := tableGet {} s.trp.loops l
/-- Parameter `p` of loop `l` in force (R219, R231). -/
def loopParam (s : State) (l p : Nat) : F32 := inForce s 2 (l * 64 + p)
/-- The loop is due in tick `n` (R214). -/
def loopDue (c : LoopCfg) (n : Nat) : Bool := (n + 2 ^ c.rateExp - c.phase) % 2 ^ c.rateExp == 0
/-- The cost of a loop (R216). -/
def loopCost (c : LoopCfg) : Nat :=
  (if c.form = 0 then 48 else 60) + (if c.comp = 1 then 24 else if c.comp = 2 then 16 else 0)
/-- TRP evaluates loops. -/
def trpRuns (s : State) : Bool :=
  unitRuns s 9 && flag s F.TRP.STATUS_RUNNING && !bitF s F.TICK.FAULTED 9 && !shadowIdle s &&
    !(role s == 2 && flag s F.SPOT.STATUS_PROGRAM_EXCHANGE)
/-- A loop is FAULTED (R230). -/
def loopFaulted (s : State) (l : Nat) : Bool := s.trp.faulted.contains l

/-! ### Test signals (R234) -/

/-- The PRBS register after evaluation `j` of an injection whose register stood at `r`. -/
def prbsNext (r : Nat) : Nat := (r * 2 + (bitOf r 30 + bitOf r 27) % 2) % 2 ^ 31
/-- Evaluation j of an injection: its value, and the PRBS register. -/
def injectValue (p : Profile) (j reg : Nat) : F64 × Nat :=
  let a := f32to64 p.amplitude
  match p.shape with
  | 0 => (a, reg)
  | 1 => (if j % p.period < p.period / 2 then a else f64Neg a, reg)
  | 2 => (f64Mul a (f32to64 (sineEntry (4096 * (j % p.period) / p.period))), reg)
  | _ =>
    let r := if j > 0 && j % p.period = 0 then prbsNext reg else reg
    (if r % 2 = 1 then a else f64Neg a, r)
/-- The records of an injection's end (R234, R237): one that has not begun is recorded as started too. -/
def injectionEnd (l : Nat) (i : Injection) (cause : Nat) : List (Nat × Nat × Nat × Nat) :=
  (if i.begun then [] else [(0x0906, l, i.profile, 0)]) ++ [(0x0907, l, i.made, cause)]

/-! ### One evaluation (R222 to R229) -/

/-- A point is bad for a loop (R222, R227). -/
def pointBad (c : LoopCfg) (p : PointVal) : Bool :=
  !pointValid p || (bitOf p.quality 1 == 1 && c.onQuestionable) || (bitOf p.quality 6 == 1 && c.onAbsent)
/-- y := max(min(v, hi), lo). -/
def clampOut (lo hi v : F64) : F64 := f64Max (f64Min v hi) lo
/-- What an evaluation gives: the new state, the output, the status code, its records, and what it counts. -/
structure EvalOut where
  state : LoopState
  records : List (Nat × Nat × Nat × Nat) := []
  fallback : Bool := false
  nonfinite : Bool := false
  saturated : Bool := false
deriving DecidableEq, Repr

/-- A repetitive sample. -/
def repSample (x : LoopState) (i : Nat) : F32 := tableGet 0 x.rep i
/-- `learn` of R226: a sample unless nothing is learned, and the index. DEDUCED, log entry 80. -/
def learn (c : LoopCfg) (gain forget limit e : F64) (hold : Bool) (x : LoopState) : LoopState :=
  if c.comp ≠ 1 then x
  else
    let v := f64Fma gain e (f64Mul forget (f32to64 (repSample x x.index)))
    let w := f64to32 (f64Max (f64Min v limit) (f64Neg limit))
    { x with
      rep := if hold then x.rep else tablePut 0 x.rep x.index w
      index := (x.index + 1) % c.repLength }
/-- The compensation term by position (R227): the term, and the state with direction and position. `open_` is the
free value of a table index that the manual leaves open (POS_MAX equal to POS_MIN). -/
def positionTerm (c : LoopCfg) (tables : List (List F32 × List F32)) (posMin posMax hyst pos free : F64)
    (x : LoopState) : F64 × LoopState :=
  let prev := x.posPrev.getD pos
  let d := f64Sub pos prev
  let closing := if f64Lt hyst d then false else if f64Lt d (f64Neg hyst) then true else x.closing
  let q := f64Mul (f64Div (f64Sub pos posMin) (f64Sub posMax posMin)) (f64OfInt 255)
  let q := if f64v q = .nan then free else q
  let f := f64Max (f64Min q (f64OfInt 255)) 0
  let j := (fvFloor (f64v f)).toNat % 256
  let frac := f64Sub f (f64OfInt j)
  let pair := tables.getD (c.tableIndex.getD 0) ([], [])
  let t := if closing then pair.2 else pair.1
  let t0 := f32to64 (t.getD j 0)
  let t1 := f32to64 (t.getD (min (j + 1) 255) 0)
  (f64Fma (f64Sub t1 t0) frac t0, { x with closing := closing, posPrev := some pos })

/-- OUT_MIN has passed OUT_MAX: recorded once per crossing (R223). -/
def crossing (s : State) (l : Nat) (x : LoopState) : Bool × List (Nat × Nat × Nat × Nat) :=
  let now := f64Lt (f32to64 (loopParam s l 9)) (f32to64 (loopParam s l 8))
  (now, if now && !x.crossed then [(0x0905, l, (loopParam s l 8).toNat, (loopParam s l 9).toNat)] else [])
/-- pos_prev after an evaluation that reads no table (R227): the position, where its point is good. -/
def notePosition (s : State) (c : LoopCfg) (x : LoopState) : LoopState :=
  match c.comp, c.posPoint with
  | 2, some p => if pointBad c (snapPoint s p) then x else { x with posPrev := some (f32to64 (snapPoint s p).value) }
  | _, _ => x
/-- Fallback of a loop (R228), its bad point being `i`. -/
def evalFallback (s : State) (c : LoopCfg) (ff : F64) (i : Nat) (x : LoopState) : EvalOut :=
  let par := fun k => f32to64 (loopParam s c.loop k)
  let y := if c.fallback = 0 then f32to64 x.yPrev
    else if c.fallback = 1 then clampOut (par 8) (par 9) (par 13)
    else clampOut (par 8) (par 9) (f64Fma (par 11) ff (par 12))
  let first := !x.inFallback
  let recs := if first then [(0x0901, c.loop, i, (snapPoint s i).quality / 4096)] else []
  let ended := match x.inj with
    | some j => injectionEnd c.loop j 2
    | none => []
  let (crossed, crossRec) := crossing s c.loop x
  let x1 := learn c 0 0 0 0 true { notePosition s c x with
    resume := true, code := 4, crossed := crossed, inj := none, inFallback := true, yPrev := f64to32 y
    fallbackRun := if first then 1 else x.fallbackRun + 1
    signals := { x.signals with y := f64to32 y, inj := 0, ff := f64to32 ff, pv := (snapPoint s c.pvPoint).value } }
  { state := x1, records := recs ++ ended ++ crossRec, fallback := first }

/-- An evaluation with good inputs (R222). `free` serves R227. DEDUCED, log entry 80. -/
def evalGood (s : State) (c : LoopCfg) (ff free : F64) (x : LoopState) : EvalOut :=
  let l := c.loop
  let par := fun k => f32to64 (loopParam s l k)
  let resumed := if x.inFallback then [(0x0902, l, x.fallbackRun, 0)] else []
  let begun := match x.inj with
    | some j => if j.begun then [] else [(0x0906, l, j.profile, 0)]
    | none => []
  let prof := match x.inj with
    | some j => (loopsSec s).profiles.getD j.profile {}
    | none => {}
  let (inj, reg) : F64 × Nat := match x.inj with
    | some j => injectValue prof j.made (if j.begun then j.reg else prof.seed)
    | none => (0, 0)
  let at_ := if x.inj.isSome then prof.injectAt else 3
  let pv := f32to64 (snapPoint s c.pvPoint).value
  let sp0 := if c.spFromPoint then f32to64 (snapPoint s c.spPoint).value else par 0
  let sp := if at_ = 0 then f64Add sp0 inj else sp0
  let e0 := if c.reverse then f64Sub pv sp else f64Sub sp pv
  let e := if at_ = 1 then f64Add e0 inj else e0
  let (comp, x1) : F64 × LoopState := match c.comp, c.posPoint with
    | 1, _ => (f32to64 (repSample x ((x.index + c.repLead) % c.repLength)), x)
    | 2, some p =>
      if pointBad c (snapPoint s p) then (0, x)
      else positionTerm c (loopsSec s).tables (par 18) (par 19) (par 20) (f32to64 (snapPoint s p).value) free x
    | _, _ => (0, x)
  let ext0 := f64Fma (par 17) comp (f64Fma (par 11) ff (par 12))
  let ext := if at_ = 2 then f64Add ext0 inj else ext0
  let yp := f32to64 x1.yPrev
  let u0 := f64Sub yp ext
  let x2 := if x1.resume then { x1 with e1 := 0, e2 := 0, e3 := 0, u1 := u0, u2 := u0, u3 := u0, resume := false } else x1
  let a1 := f64Fma (par 3) x2.e2 (f64Fma (par 2) x2.e1 (f64Mul (par 1) e))
  let a2 := f64Fma (par 4) x2.e3 a1
  let acc := f64Fma (f64Neg (par 7)) x2.u3 (f64Fma (f64Neg (par 6)) x2.u2 (f64Fma (f64Neg (par 5)) x2.u1 a2))
  let v := f64Add acc ext
  let (crossed, crossRec) := crossing s l x
  let inj' := x.inj.map (fun j => { j with made := j.made + 1, reg := reg, begun := true })
  let sig : LoopSignals := { sp := f64to32 sp, pv := f64to32 pv, e := f64to32 e, acc := f64to32 acc,
                             inj := f64to32 inj, comp := f64to32 comp, ff := f64to32 ff }
  let x3 := { x2 with inj := inj', inFallback := false, fallbackRun := 0, crossed := crossed }
  let recs := resumed ++ begun ++ crossRec
  if !f64Finite v then
    { state := learn c 0 0 0 0 true { x3 with resume := true, code := 6, signals := { sig with y := x.yPrev } }
      records := recs ++ [(0x0903, l, (f64to32 v).toNat, 0)], nonfinite := true }
  else
    let dv := f64Sub v yp
    let limited := f64Lt 0 (par 10) && f64Lt (par 10) (f64Abs dv)
    let v1 := if limited then (if f64Lt dv 0 then f64Sub yp (par 10) else f64Add yp (par 10)) else v
    let y := clampOut (par 8) (par 9) v1
    let high := f64Lt y v1
    let low := f64Lt v1 y
    let sat := high || low || limited || crossed
    let x4 := if sat then x3 else
      { x3 with e3 := x3.e2, e2 := x3.e1, e1 := e, u3 := x3.u2, u2 := x3.u1, u1 := acc }
    let code := if high then 1 else if low then 2 else if limited then 3 else 0
    let y32 := f64to32 y
    { state := learn c (par 14) (par 15) (par 16) e sat { x4 with code := code, yPrev := y32, signals := { sig with y := y32 } }
      records := recs, saturated := sat }

/-- The evaluation of a due loop (R222, R232). DEDUCED, log entry 80. -/
def evalLoop (s : State) (c : LoopCfg) (free : F64) (x0 : LoopState) : EvalOut :=
  let done := fun (j : Injection) => j.made ≥ ((loopsSec s).profiles.getD j.profile {}).duration
  let (x, pre) : LoopState × List (Nat × Nat × Nat × Nat) := match x0.inj with
    | some j =>
      if x0.leadEnds then ({ x0 with inj := none, leadEnds := false }, injectionEnd c.loop j 4)
      else if done j then ({ x0 with inj := none }, injectionEnd c.loop j 0) else (x0, [])
    | none => ({ x0 with leadEnds := false }, [])
  let ff := match c.ffPoint with
    | some p => if pointBad c (snapPoint s p) then 0 else f32to64 (snapPoint s p).value
    | none => 0
  let out := if pointBad c (snapPoint s c.pvPoint) then evalFallback s c ff c.pvPoint x
    else if c.spFromPoint && pointBad c (snapPoint s c.spPoint) then evalFallback s c ff c.spPoint x
    else evalGood s c ff free x
  { out with records := pre ++ out.records }

/-! ### The tick (R214, R216, R224) -/

/-- Add some records. -/
def emitAll (rs : List (Nat × Nat × Nat × Nat)) (s : State) : State :=
  rs.foldl (fun t r => emit r.1 r.2.1 r.2.2.1 r.2.2.2 t) s

/-- Evaluate one due loop: its records and counts, and its new state for the Curtain. DEDUCED, log entry 80. -/
def runLoop (c : LoopCfg) (s : State) : State :=
  let (fr, s0) := drawFree s
  let o := evalLoop s0 c fr (loopState s0 c.loop)
  let s1 := emitAll o.records { s0 with trp := { s0.trp with next := s0.trp.next ++ [(c.loop, o.state)] } }
  let s2 := bumpF F.TRP.FALLBACK_COUNT (ofBool o.fallback) s1
  bumpF F.TRP.SAT_COUNT (ofBool o.saturated) (bumpF F.TRP.NONFINITE_COUNT (ofBool o.nonfinite) s2)

/-- The status code of R225. -/
def statusCode (x : LoopState) : Nat := x.code + 8 * ofBool x.inj.isSome
/-- The output and the status point of an evaluated loop. -/
def loopPoints (s : State) (stamp : Nat) (e : Nat × LoopState) : List PubPoint :=
  match loopCfg s e.1 with
  | some c => [{ index := c.outPoint, value := e.2.yPrev, stamp := stamp }]
  | none => []
/-- See loopPoints. -/
def loopStatusPoints (s : State) (stamp : Nat) (e : Nat × LoopState) : List PubPoint :=
  match loopCfg s e.1 with
  | some c => match c.statusPoint with
    | some p => [{ index := p, value := BitVec.ofNat 32 (statusCode e.2), stamp := stamp }]
    | none => []
  | none => []
/-- Cut a list into pieces of 16. -/
def sixteens {α : Type} : Nat → List α → List (List α)
  | 0, _ => []
  | _, [] => []
  | fuel + 1, l => l.take 16 :: sixteens fuel (l.drop 16)

/-- Put a unit's staged result for the present tick into the outbox of the collector. -/
def queueEntry (e : StagedEntry) (s : State) : State :=
  { s with tick := { s.tick with outbox := s.tick.outbox ++ [e] } }

/-- TRP's work of a tick: every due loop in increasing number, then ceil(due ÷ 16) entries of outputs and one of
loop state and status points (R214, R216). -/
def trpTick (s : State) : State :=
  if !trpRuns s then s
  else
    let n := s.tick.number
    let due := (loopsSec s).loops.filter (fun c => loopDue c n)
    let cycles := 512 + (due.map loopCost).foldl (· + ·) 0
    let s0 := setF F.TRP.LAST_CYCLES cycles (setF F.TRP.WORST_CYCLES (max cycles (getF s F.TRP.WORST_CYCLES))
      { s with trp := { s.trp with next := [] } })
    let s1 := (due.filter (fun c => !loopFaulted s c.loop)).foldl (fun t c => runLoop c t) s0
    let stamp := stampAt s s.tick.startNs
    let outs := sixteens due.length due
    let entry := fun (part : List LoopCfg) => ({ unit := 9, due := n, final := false, points :=
        (s1.trp.next.filter (fun e => part.any (fun c => c.loop == e.1))).flatMap (loopPoints s1 stamp) } : StagedEntry)
    let last : StagedEntry := { unit := 9, due := n, points := s1.trp.next.flatMap (loopStatusPoints s1 stamp) }
    expectResult 9 n 0 ((outs.map entry ++ [last]).foldl (fun t e => queueEntry e t) s1)

/-- Show a loop's state in its registers (R238). -/
def showLoop (l : Nat) (x : LoopState) (s : State) : State :=
  setF (F.TRP.LOOP_STATUS_STATE l) x.code (setF (F.TRP.LOOP_STATUS_INJECTING l) (ofBool x.inj.isSome)
    (setF (F.TRP.LOOP_STATUS_CLOSING l) (ofBool x.closing) (setF (F.TRP.LOOP_STATUS_REP_INDEX l) x.index
      (setF (F.TRP.LOOP_OUTPUT l) x.yPrev.toNat s))))
/-- Store a loop's state. -/
def putLoop (l : Nat) (x : LoopState) (s : State) : State :=
  showLoop l x { s with trp := { s.trp with loops := tablePut {} s.trp.loops l x } }
/-- Loops in fallback, and loops injecting. -/
def loopsInFallback (s : State) : Nat := (s.trp.loops.filter (fun e => e.2.inFallback)).length
/-- See loopsInFallback. -/
def loopsInjecting (s : State) : Nat := (s.trp.loops.filter (fun e => e.2.inj.isSome)).length
/-- Show TRP's totals (R238). -/
def showTrp (s : State) : State :=
  let f := s.trp.faulted.length
  setF F.TRP.FAULTED_LOOPS f (setF F.TRP.FALLBACK_NOW (loopsInFallback s) (setF F.TRP.INJECT_NOW (loopsInjecting s)
    (setF F.TRP.STATUS_LOOP_FAULTED (ofBool (f != 0)) (setF F.TRP.STATUS_FALLBACK (ofBool (loopsInFallback s != 0))
      (setF F.TRP.STATUS_INJECTING (ofBool (loopsInjecting s != 0)) s)))))

/-- TRP reports DEGRADED while a loop is FAULTED, and FAILED once it is FAULTED itself (R42, R230). -/
def loopHealth (s : State) : State := if bitF s F.TICK.FAULTED 9 || s.trp.faulted = [] then s else setHealth 9 1 s
/-- A loop becomes FAULTED at a Curtain (R230). `addr` is the address of the error. -/
def faultLoop (stamp l addr : Nat) (s : State) : State :=
  if loopFaulted s l then s
  else match loopCfg s l with
    | none => s
    | some c =>
      let entry := s.cfg.sheet.units.find? (fun u => u.unit == 9)
      let set := match entry with
        | some u => safeValues s.cfg.safe u.safeSet
        | none => []
      let safe : Word := ((set.find? (fun v => v.1 == c.outPoint)).map Prod.snd).getD 0
      let x := loopState s l
      let s1 := safePoint 9 c.outPoint safe stamp { s with trp := { s.trp with faulted := s.trp.faulted ++ [l] } }
      let s2 := match c.statusPoint with
        | some p => sampleIn 9 p 5 stamp s1
        | none => s1
      let s3 := loopHealth (setF F.TRP.STATUS_MEMORY_ERROR 1 (emit 0x0904 l addr safe.toNat s2))
      let s4 := match x.inj with
        | some j => emitAll (injectionEnd l j 3) s3
        | none => s3
      putLoop l { x with inj := none, code := 5 } s4

/-! ### Captures (R235, R236) -/

/-- A signal of a capture by its code. -/
def signalOf (g : LoopSignals) : Nat → F32
  | 1 => g.sp | 2 => g.pv | 3 => g.e | 4 => g.acc | 5 => g.y | 6 => g.inj | 7 => g.comp | 8 => g.ff | _ => 0
/-- Change a capture slot. -/
def updCapture (k : Nat) (f : Capture → Capture) (s : State) : State :=
  { s with trp := { s.trp with captures := listUpd {} s.trp.captures k f } }
/-- A capture holds its samples: it moves to DONE, and its export starts on ring 6 (R236). -/
def captureDone (k : Nat) (s : State) : State :=
  let n := (s.trp.captures.getD k {}).held.length
  emit 0x0909 k n 0 (setF (F.TRP.CAP_STATE_STATE k) 3
    { s with host := { s.host with ring6 := s.host.ring6 ++ [{ kind := k, total := n }] } })
/-- Store a sample. -/
def storeSample (k : Nat) (v : List F32) (keep : Nat) (s : State) : State :=
  let c := s.trp.captures.getD k {}
  let h := c.held ++ [v]
  let h' := if h.length > keep then h.drop (h.length - keep) else h
  setF (F.TRP.CAP_FILLED k) h'.length (updCapture k (fun x => { x with held := h' }) s)
/-- The trigger of an armed slot fires (R236). -/
def triggerFires (d : CaptureCfg) (c : Capture) (v : F32) : Bool :=
  match d.trigger with
  | 0 => true
  | 1 => c.started
  | 2 => match c.prev with
    | some p => f32Le d.trigLevel v && f32Lt p d.trigLevel
    | none => false
  | _ => match c.prev with
    | some p => f32Le v d.trigLevel && f32Lt d.trigLevel p
    | none => false
/-- A slot's sample after the Curtain of a sample tick (R236). DEDUCED, log entry 82. -/
def captureSample (k : Nat) (s : State) : State :=
  let st := getF s (F.TRP.CAP_STATE_STATE k)
  let dn := getF s (F.TRP.CAP_STATE_DESCRIPTOR k)
  match (loopsSec s).captures[dn]? with
  | none => s
  | some d =>
    if !(st = 1 || st = 2) || s.tick.number % 2 ^ d.rateExp ≠ 0 then s
    else
      let v := (List.range 4).map (fun i =>
        let g := d.signals.getD i (0, 0)
        signalOf (loopState s g.1).signals g.2)
      let c := s.trp.captures.getD k {}
      let x := (snapPoint s d.trigPoint).value
      let s0 := updCapture k (fun y => { y with prev := some x, started := false }) s
      let s1 := if st = 1 && triggerFires d c x then
          let missing := d.preSamples - c.held.length
          let s2 := updCapture k (fun y => { y with missing := missing, held := List.replicate missing [0, 0, 0, 0] ++ y.held }) s0
          emit 0x0908 k dn c.held.length (setF (F.TRP.CAP_STATE_STATE k) 2
            (setF (F.TRP.CAP_TRIGGER_LO k) (lo32 s.tick.number) (setF (F.TRP.CAP_TRIGGER_HI k) (hi32 s.tick.number) s2)))
        else s0
      if getF s1 (F.TRP.CAP_STATE_STATE k) = 1 then storeSample k v d.preSamples s1
      else
        let s3 := storeSample k v d.samples s1
        if (s3.trp.captures.getD k {}).held.length ≥ d.samples then captureDone k s3 else s3
/-- The samples of every slot. -/
def captureSamples (s : State) : State :=
  if trpRuns s then [0, 1, 2, 3].foldl (fun t k => captureSample k t) s else s

/-! ### The Curtain (R224, R230, R237) -/

/-- An accepted command takes effect (R237). DEDUCED, log entry 81. -/
def trpEffect (cmd : Nat × Nat × Nat) (s : State) : State :=
  let (op, a, b) := cmd
  match op with
  | 1 =>
    let x := loopState s a
    let i : Injection := { profile := b }
    if loopFaulted s a then emitAll (injectionEnd a i 3) s
    else if x.inFallback then emitAll (injectionEnd a i 2) s
    else putLoop a { x with inj := some i } s
  | 2 =>
    let x := loopState s a
    match x.inj with
    | some i => putLoop a { x with inj := none } (emitAll (injectionEnd a i 1) s)
    | none => s
  | 3 => updCapture a (fun _ => {}) (setF (F.TRP.CAP_STATE_STATE a) 1 (setF (F.TRP.CAP_STATE_DESCRIPTOR a) b
      (setF (F.TRP.CAP_FILLED a) 0 s)))
  | 4 =>
    match getF s (F.TRP.CAP_STATE_STATE a) with
    | 1 => setF (F.TRP.CAP_STATE_STATE a) 0 s
    | 2 => captureDone a s
    | _ => setF (F.TRP.CAP_STATE_STATE a) 0 { s with host := { s.host with ring6 := s.host.ring6.filter (fun e => e.kind != a) } }
  | _ => let x := loopState s a
    putLoop a { x with rep := [] } s

/-- A committed state whose injection has begun starts the captures that wait for it (R235). -/
def noteStart (l : Nat) (old new : LoopState) (s : State) : State :=
  let began := match old.inj, new.inj with
    | some a, some b => !a.begun && b.begun
    | _, _ => false
  if !began then s
  else (List.range 4).foldl (fun t k =>
    match (loopsSec t).captures[getF t (F.TRP.CAP_STATE_DESCRIPTOR k)]? with
    | some d => if (d.signals.getD 0 (0, 0)).1 = l then updCapture k (fun y => { y with started := true }) t else t
    | none => t) s

/-- The Curtain publishes TRP's result: the loop states of the tick are committed (R224). -/
def trpCommit (s : State) : State :=
  let s1 := s.trp.next.foldl (fun t e =>
    if loopFaulted t e.1 then t else putLoop e.1 e.2 (noteStart e.1 (loopState t e.1) e.2 t)) s
  { s1 with trp := { s1.trp with next := [] } }
/-- What the Curtain does in TRP whether or not it publishes a result: faults, commands, captures. -/
def trpCurtain (stamp : Nat) (s : State) : State :=
  let s1 := s.trp.errors.foldl (fun t e => faultLoop stamp e.1 e.2 t) { s with trp := { s.trp with next := [] } }
  let s2 := s1.trp.commands.foldl (fun t c => trpEffect c t) s1
  showTrp (captureSamples (showTrp { s2 with trp := { s2.trp with commands := [], errors := [] } }))

/-- On leaving LIVE no loop is FAULTED any longer (R230). -/
def trpStop (s : State) : State :=
  let s1 := s.trp.faulted.foldl (fun t l => putLoop l { loopState t l with code := 0 } t) s
  showTrp { s1 with trp := { s1.trp with faulted := [], errors := [], next := [] } }
/-- The captures in progress are lost, with what waits to be exported: every slot is IDLE (R232). -/
def dropCaptures (s : State) : State :=
  let s1 := [0, 1, 2, 3].foldl (fun t k =>
    setF (F.TRP.CAP_FILLED k) 0 (setF (F.TRP.CAP_STATE_STATE k) 0 (updCapture k (fun _ => {}) t))) s
  { s1 with host := { s1.host with ring6 := s1.host.ring6.filter (fun e => decide (4 ≤ e.kind)) } }

/-- INJECT_ENDED (R234): the injection of loop `l` has made its DURATION evaluations. -/
def execInjectEnded (l : Nat) (s : State) : Result :=
  let x := loopState s l
  .next (match x.inj with
    | some j =>
      if j.made ≥ ((loopsSec s).profiles.getD j.profile {}).duration then
        showTrp (putLoop l { x with inj := none } (emitAll (injectionEnd l j 0) s))
      else s
    | none => s)

/-- The loops at the first tick of LIVE (R221). -/
def trpGoLive (s : State) : State :=
  let s0 := { s with trp := {} }
  (loopsSec s).loops.foldl (fun t c =>
    putLoop c.loop { yPrev := ((pointCfg t c.outPoint).map PointCfg.initial).getD 0 } t) s0

/-! ### Commands (R237) -/

/-- TRP commands are legal in LIVE as SOLO or LEAD. -/
def trpLegal (s : State) : Bool := inState s .live && (role s == 0 || role s == 1)
/-- Accept a command: it takes effect at the next Curtain. DEDUCED, log entry 81. -/
def acceptTrp (op a b : Nat) (s : State) : Body :=
  .ok ({ s with trp := { s.trp with commands := s.trp.commands ++ [(op, a, b)] } }, resOk, 0)
/-- The loop is injecting, or is to start. -/
def injecting (s : State) (l : Nat) : Bool :=
  (loopState s l).inj.isSome || s.trp.commands.any (fun c => c.1 == 1 && c.2.1 == l)

/-- The INJECT_START command. -/
def cmdInjectStart (c : Caller) (l p : Nat) (s : State) : State × Reply :=
  runCommand 9 0x01 c l (some [roleEngineer]) (trpLegal s) (fun t =>
    if (loopCfg t l).isNone || p ≥ (loopsSec t).profiles.length then .error resBadArgument
    else if (loopState t l).inFallback || loopFaulted t l then .error resIllegal
    else if injecting t l then .error resConflict
    else if loopsInjecting t + (t.trp.commands.filter (fun x => x.1 == 1)).length ≥ 16 then .error resExhausted
    else acceptTrp 1 l p t) s
/-- INJECT_START (R237). -/
def execInjectStart (c : Caller) (a0 a1 : Nat) (s : State) : Result := .next (cmdInjectStart c a0 a1 s).1

/-- The INJECT_STOP command. -/
def cmdInjectStop (c : Caller) (l : Nat) (s : State) : State × Reply :=
  runCommand 9 0x02 c l (some [roleOperator, roleEngineer]) (trpLegal s) (fun t =>
    if (loopCfg t l).isNone then .error resBadArgument
    else if !injecting t l then .error resIllegal
    else acceptTrp 2 l 0 t) s
/-- INJECT_STOP (R237). -/
def execInjectStop (c : Caller) (a0 : Nat) (s : State) : Result := .next (cmdInjectStop c a0 s).1

/-- The CAPTURE_ARM command. -/
def cmdCaptureArm (c : Caller) (k d : Nat) (s : State) : State × Reply :=
  runCommand 9 0x03 c k (some [roleEngineer]) (trpLegal s) (fun t =>
    if k > 3 || d ≥ (loopsSec t).captures.length then .error resBadArgument
    else if getF t (F.TRP.CAP_STATE_STATE k) ≠ 0 || t.trp.commands.any (fun x => x.1 == 3 && x.2.1 == k) then
      .error resConflict
    else acceptTrp 3 k d t) s
/-- CAPTURE_ARM (R236, R237). -/
def execCaptureArm (c : Caller) (a0 a1 : Nat) (s : State) : Result := .next (cmdCaptureArm c a0 a1 s).1

/-- The CAPTURE_STOP command. -/
def cmdCaptureStop (c : Caller) (k : Nat) (s : State) : State × Reply :=
  runCommand 9 0x04 c k (some [roleEngineer]) (trpLegal s) (fun t =>
    if k > 3 then .error resBadArgument
    else if getF t (F.TRP.CAP_STATE_STATE k) = 0 then .error resIllegal
    else acceptTrp 4 k 0 t) s
/-- CAPTURE_STOP (R237). -/
def execCaptureStop (c : Caller) (a0 : Nat) (s : State) : Result := .next (cmdCaptureStop c a0 s).1

/-- The REP_CLEAR command. -/
def cmdRepClear (c : Caller) (l : Nat) (s : State) : State × Reply :=
  runCommand 9 0x05 c l (some [roleEngineer]) (trpLegal s) (fun t =>
    match loopCfg t l with
    | none => .error resBadArgument
    | some x => if x.comp ≠ 1 then .error resBadArgument
      else if loopFaulted t l then .error resIllegal
      else acceptTrp 5 l 0 t) s
/-- REP_CLEAR (R237). -/
def execRepClear (c : Caller) (a0 : Nat) (s : State) : Result := .next (cmdRepClear c a0 s).1

/-- Commands of TRP by opcode. -/
def trpCommand (op : Nat) (c : Caller) (a0 a1 : Nat) (s : State) : State × Reply :=
  match op with
  | 1 => cmdInjectStart c a0 a1 s
  | 2 => cmdInjectStop { c with spare := [a1] } a0 s
  | 3 => cmdCaptureArm c a0 a1 s
  | 4 => cmdCaptureStop { c with spare := [a1] } a0 s
  | 5 => cmdRepClear { c with spare := [a1] } a0 s
  | _ => refuseOpcode 9 op c a0 s

end Sys2Proof.Machine
end

