-- ==== Sys2Proof/Machine/Rings.lean ====
section
/-! DEFINITION. What the Curtain gives the host rings: health, subscriptions and exports, and the tick divider
(R236, R499, R501 to R503). -/

namespace Sys2Proof.Machine

open Sys2Proof

/-! ### Module health (R417) and health entries (R501) -/

/-- The SPOTLIGHT section; its defaults where the Reel has none. -/
def spotCfg (s : State) : SpotlightSec := s.cfg.spotlight.getD {}
/-- The units that count towards module health. -/
def countedUnits (s : State) : List Nat :=
  (List.range 24).filter (fun u => present s u && (spotCfg s).healthMask / 2 ^ u % 2 == 1)
/-- Module health: the worst HEALTH of the units that count. DEDUCED, log entry 120. -/
def moduleHealth (s : State) : Nat := (countedUnits s).foldl (fun w u => max w (unitHealth s u)) 0
/-- The health of every unit, two bits each (R501). -/
def healthBits (s : State) : Nat := (List.range 24).foldl (fun a u => a + unitHealth s u * 4 ^ u) 0
/-- The words of a HEALTH entry before its TICK.NUMBER. -/
def healthWords (s : State) : List Nat :=
  let h := healthBits s
  [devCode s.dev.state + role s * 2 ^ 8 + moduleHealth s * 2 ^ 16, lo32 h, h / 2 ^ 32 % 2 ^ 16, 0]
/-- A HEALTH entry on ring 4 (R501). -/
def healthEntry (s : State) : State :=
  let w := healthWords s
  stageEntry 4 1 24 (nowStamp s) (w ++ words2 s.tick.number) { s with host := { s.host with lastHealth := w } }
/-- A HEALTH entry at a Curtain at which a field changes. DEDUCED, log entry 164. -/
def healthIfChanged (s : State) : State := if s.host.lastHealth = healthWords s then s else healthEntry s

/-- HEALTH_PERIODIC (R501): every 8,000 ticks. -/
def execHealthPeriodic (s : State) : Result :=
  .next (if inState s .live && s.tick.number % 8000 == 0 then healthEntry s else s)

/-! ### Point subscriptions (R503) -/

/-- The entry of a subscription, where the published point differs from the last one produced. -/
def subscriptionEntry (x : Subscription) (s : State) : Subscription × State :=
  let p := windowPoint s x.point
  if x.last = some p then (x, s)
  else if !ringProduces s 3 then (x, s)
  else ({ x with last := some p }, stageEntry 3 1 24 p.stamp ([x.point, 0] ++ pointWords p) s)
/-- The subscribed points in the order of their entries (R38): those that the Curtain has published, each where it was written
last, then the others. DEDUCED, log entry 163. -/
def subscriptionOrder (published : List Nat) (s : State) : List Nat :=
  let l := published.reverse.eraseDups.reverse
  let subs := s.host.subs.map Subscription.point
  l.filter subs.contains ++ subs.filter (fun p => !l.contains p)
/-- The entry of one subscribed point. -/
def pointEntry (i : Nat) (s : State) : State :=
  match s.host.subs.find? (fun x => x.point == i) with
  | none => s
  | some x =>
    let (y, t) := subscriptionEntry x s
    { t with host := { t.host with subs := t.host.subs.map (fun z => if z.point = i then y else z) } }
/-- The entries of every subscription at a Curtain that has published these points. -/
def subscriptionEntries (published : List Nat) (s : State) : State :=
  (subscriptionOrder published s).foldl (fun t i => pointEntry i t) s

/-! ### Exports (R236, R503) -/

/-- The words of solution window bytes 0x0000 to 0x0057 for a plan (R207). -/
def planHeader (s : State) (p : Plan) : List Nat :=
  let m := modelSec s
  [0x4C534E57, 1, p.round, p.status + p.cause * 2 ^ 8 + p.iterations * 2 ^ 16 + p.advance * 2 ^ 24] ++ words2 p.planStart ++
    [m.stepTicks, m.horizon, m.rowCount, p.sourceRound] ++ words2 p.stamp ++ words2 p.publishTick ++
    words2 p.thetaP.toNat ++ words2 p.thetaD.toNat ++ words2 p.mu.toNat ++ [p.perturbed, p.wrongSign]

/-- One VALUES entry of the solution export: up to 28 rows. -/
def exportRows (p : Plan) (e : Export) (s : State) : Export × State :=
  let n := min 28 (e.total - e.next)
  let vals := (List.range n).flatMap (fun i => words2 (tableGet 0 p.values (e.next + i)).toNat)
  ({ e with next := e.next + n }, stageEntry 2 2 (16 + 8 * n) p.stamp ([e.round, e.next, n, 0] ++ vals) s)
/-- The solution export goes on while staging places are free; `fuel` bounds the entries. -/
def pumpSolution : Nat → State → State
  | 0, s => s
  | fuel + 1, s =>
    match s.host.ring2, s.jug.front with
    | some e, some p =>
      if e.next ≥ e.total then { s with host := { s.host with ring2 := none } }
      else if stagingFree s 2 = 0 || !ringProduces s 2 then s
      else
        let (e1, s1) := exportRows p e s
        pumpSolution fuel { s1 with host := { s1.host with ring2 := some e1 } }
    | _, _ => s

/-- At a publication Curtain, ring 2 abandons the old round and starts the new one with its header (R503). -/
def startExport (p : Plan) (s : State) : State :=
  let s1 := match s.host.ring2 with
    | some e => stageEntry 2 3 8 (nowStamp s) [e.round, e.next] { s with host := { s.host with ring2 := none } }
    | none => s
  if !ringProduces s1 2 then s1
  else
    let s2 := stageEntry 2 1 88 p.stamp (planHeader s1 p) s1
    pumpSolution 4096 { s2 with host := { s2.host with
      ring2 := some { kind := 0, headed := true, total := (modelSec s2).rowCount, round := p.round } } }

/-- The header of a capture's export (R501). -/
def captureHeader (k : Nat) (s : State) : State :=
  let c := s.trp.captures.getD k {}
  let dn := getF s (F.TRP.CAP_STATE_DESCRIPTOR k)
  let d := ((loopsSec s).captures[dn]?).getD {}
  let sig := fun (i : Nat) => (d.signals.getD i (0, 0)).1 + (d.signals.getD i (0, 0)).2 * 2 ^ 12
  stageEntry 6 1 40 (nowStamp s)
    ([k + dn * 2 ^ 8, d.samples, c.missing, 0, getF s (F.TRP.CAP_TRIGGER_LO k), getF s (F.TRP.CAP_TRIGGER_HI k)] ++
      (List.range 4).map sig) (setF (F.TRP.CAP_STATE_STATE k) 4 s)
/-- One SAMPLES entry: up to 14 samples. -/
def exportSamples (e : Export) (s : State) : Export × State :=
  let held := (s.trp.captures.getD e.kind {}).held
  let n := min 14 (e.total - e.next)
  let vals := ((held.drop e.next).take n).flatMap (fun v => v.map BitVec.toNat)
  ({ e with next := e.next + n }, stageEntry 6 2 (16 + 16 * n) (nowStamp s) ([e.next, n, 0, 0] ++ vals) s)
/-- The captures' exports go on while staging places are free; a slot is IDLE once its last sample is out (R236). DEDUCED, log entry 82. -/
def pumpCaptures : Nat → State → State
  | 0, s => s
  | fuel + 1, s =>
    match s.host.ring6 with
    | [] => s
    | e :: rest =>
      if stagingFree s 6 = 0 || !ringProduces s 6 then s
      else if !e.headed then
        pumpCaptures fuel (let t := captureHeader e.kind s
          { t with host := { t.host with ring6 := { e with headed := true } :: rest } })
      else if e.next ≥ e.total then
        pumpCaptures fuel (setF (F.TRP.CAP_STATE_STATE e.kind) 0 { s with host := { s.host with ring6 := rest } })
      else
        let (e1, s1) := exportSamples e s
        pumpCaptures fuel { s1 with host := { s1.host with ring6 := e1 :: rest } }
/-- Both exports go on. DEDUCED, log entry 164. -/
def pumpExports (s : State) : State := pumpCaptures 4200 (pumpSolution 4097 s)

/-- The tick divider's cause (R499). -/
def tickDivider (s : State) : State :=
  let d := getF s F.HOST.TICK_DIVIDER
  if d > 0 && s.tick.number % d = 0 then raiseCause 25 s else s

end Sys2Proof.Machine
end

