-- ==== Sys2Proof/Machine/Lrp.lean ====
section
/-! DEFINITION. Single-pair power of the long-reach ports (R355 to R357). -/

namespace Sys2Proof.Machine

open Sys2Proof

/-- The LONG_REACH entry of port `l`. -/
def lrCfg (s : State) (l : Nat) : LrPort := (s.cfg.longReach.getD {}).ports.getD l {}
/-- A port with a POWER_CLASS that is used. -/
def lrPowered (s : State) (l : Nat) : Bool := decide (l < 8) && (lrCfg s l).used && (lrCfg s l).powerClass != 0
/-- Power codes of PORT_STATE (R381). -/
def powerOff : Nat := 0
/-- See powerOff. -/
def powerDetecting : Nat := 1
/-- See powerOff. -/
def powerOn : Nat := 2
/-- See powerOff. -/
def powerFault : Nat := 3
/-- See powerOff. -/
def powerDisabled : Nat := 4
/-- POWER of a port. -/
def lrPower (s : State) (l : Nat) : Nat := getF s (F.LRP.PORT_STATE_POWER l)
/-- Show POWER_ANY and the total power. -/
def showPower (s : State) : State :=
  let on := (List.range 8).filter (fun l => lrPower s l == powerOn)
  setF F.LRP.STATUS_POWER_ANY (ofBool (!on.isEmpty))
    (setF F.LRP.POWER_MW ((on.map (fun l => getF s (F.LRP.PORT_POWER_MW l))).sum) s)
/-- Set a port's POWER and the power it delivers, and when its next detection is due. -/
def setPower (l code mw : Nat) (due : Option Nat) (s : State) : State :=
  showPower (setF (F.LRP.PORT_POWER_MW l) mw (setF (F.LRP.PORT_STATE_POWER l) code
    { s with lrp := { s.lrp with detectAt := listPut s.lrp.detectAt l due } }))

/-- Entry to ARMED: detection on each powered port in port order, one every 100 ms (R356). -/
def lrpArm (s : State) : State :=
  let ps := (List.range 8).filter (lrPowered s)
  (ps.zip (List.range 8)).foldl (fun t e =>
    setPower e.1 powerDetecting 0 (some (stampNs t + e.2 * 100000000)) t) s
/-- Leaving LIVE, or PD13 off: every port is switched off, and DISABLED ends (R356, R357). -/
def lrpOff (s : State) : State :=
  (List.range 8).foldl (fun t l => if lrPower t l = powerOff then t else setPower l powerOff 0 none t) s

/-- LRP's ports source power: ARMED or LIVE with PD13 on. -/
def lrpPowers (s : State) : Bool := (inState s .armed || inState s .live) && lrpRuns s

/-- DETECTION (R356): a due detection on a port. A valid signature switches the port ON, delivering `mw`; an invalid
one leaves it DETECTING and is repeated after 1 s. DEDUCED, log entry 112. -/
def execDetection (l : Nat) (valid : Bool) (mw : Nat) (s : State) : Result :=
  let due := match s.lrp.detectAt.getD l none with
    | some t => decide (stampNs s ≥ t)
    | none => false
  .next (if lrpPowers s && lrPowered s l && (lrPower s l == powerDetecting || lrPower s l == powerFault) && due then
      if valid then emit 0x0F01 l (lrCfg s l).powerClass 0 (setPower l powerOn mw none s)
      else setPower l powerDetecting 0 (some (stampNs s + 1000000000)) s
    else s)

/-- Switch a faulted port off (R356): `kind` as POWER_FAULT's record gives it, `ma` the current. DEDUCED, log entry 112. -/
def faultPort (l kind ma : Nat) (s : State) : State :=
  emit 0x0F02 l kind ma (bumpF (F.LRP.POWER_FAULT_COUNT l) 1
    (setPower l powerFault 0 (some (stampNs s + 10000000000)) s))

/-- POWER_FAULT (R356): overcurrent (0) or undervoltage (1) on port `l`; or the 33 W rule (2), which takes the ON
port with the highest number. -/
def execPowerFault (l kind ma : Nat) (s : State) : Result :=
  .next (if !lrpPowers s then s
    else if kind = 2 then
      match (List.range 8).reverse.find? (fun i => lrPower s i == powerOn) with
      | some i => setF F.LRP.STATUS_TOTAL_SHED 1 (faultPort i 2 ma s)
      | none => s
    else if kind < 2 && l < 8 && lrPower s l = powerOn then faultPort l kind ma s
    else s)

/-! ### Commands (R357) -/

/-- LRP's commands are legal in ARMED and LIVE. -/
def lrpLegal (s : State) : Bool := inState s .armed || inState s .live
/-- The POWER_OFF command. -/
def cmdPowerOff (c : Caller) (l : Nat) (s : State) : State × Reply :=
  runCommand 15 0x01 c l (some [roleOperator]) (lrpLegal s) (fun t =>
    if !lrPowered t l then .error resBadArgument
    else if lrPower t l = powerDisabled then .error resIllegal
    else .ok (setPower l powerDisabled 0 none t, resOk, 0)) s
/-- POWER_OFF (R357). -/
def execPowerOff (c : Caller) (a0 : Nat) (s : State) : Result := .next (cmdPowerOff c a0 s).1

/-- The POWER_ON command: detection starts. DEDUCED, log entry 112. -/
def cmdPowerOn (c : Caller) (l : Nat) (s : State) : State × Reply :=
  runCommand 15 0x02 c l (some [roleOperator]) (lrpLegal s) (fun t =>
    if !lrPowered t l then .error resBadArgument
    else if lrPower t l ≠ powerDisabled then .error resIllegal
    else .ok (setPower l powerDetecting 0 (some (stampNs t)) t, resOk, 0)) s
/-- POWER_ON (R357). -/
def execPowerOn (c : Caller) (a0 : Nat) (s : State) : Result := .next (cmdPowerOn c a0 s).1

/-- Commands of LRP by opcode. -/
def lrpCommand (op : Nat) (c : Caller) (a0 : Nat) (s : State) : State × Reply :=
  match op with
  | 1 => cmdPowerOff c a0 s
  | 2 => cmdPowerOn c a0 s
  | _ => refuseOpcode 15 op c a0 s

end Sys2Proof.Machine
end

