-- ==== Sys2Proof/Machine/Stn.lean ====
section
/-! DEFINITION. Stations: contexts, INPUT frames, the exchange, loss and return (R361 to R374). -/

namespace Sys2Proof.Machine

open Sys2Proof

/-- The stations of the Reel. -/
def stationList (s : State) : List StationCfg := (s.cfg.stations.getD {}).stations
/-- A station's entry. -/
def stationCfg (s : State) (n : Nat) : Option StationCfg := (stationList s).find? (fun c => c.station == n)
/-- A station's context. -/
def stnState (s : State) (n : Nat) : StationState := tableGet {} s.stn.stations n
/-- Change a station's context. -/
def updStation (n : Nat) (f : StationState → StationState) (s : State) : State :=
  { s with stn := { s.stn with stations := tablePut {} s.stn.stations n (f (stnState s n)) } }
/-- STN runs exchanges and takes input (R373). -/
def stnRuns (s : State) : Bool := unitRuns s 16 && flag s F.STN.STATUS_RUNNING && !bitF s F.TICK.FAULTED 16

/-- State codes. -/
def stnWaiting : Nat := 0
/-- See stnWaiting. -/
def stnActive : Nat := 1
/-- See stnWaiting. -/
def stnAbsent : Nat := 2
/-- See stnWaiting. -/
def stnHalted : Nat := 3

/-- Period of a class in ticks (R367). -/
def classPeriod (c : Nat) : Nat := if c = 0 then 8 else if c = 1 then 64 else 8000
/-- The classes in which a station has a slot (R367). -/
def stationClasses (c : StationCfg) : List Nat := [0, 1, 2].filter (fun k => c.slots.any (fun x => x.cls == k))
/-- The fastest class in which it has an input slot (R371). -/
def fastestInput (c : StationCfg) : Option Nat := [0, 1, 2].find? (fun k => c.slots.any (fun x => x.cls == k && !x.output))
/-- The present tick is an exchange tick of a class (R367). -/
def exchangeTick (s : State) (c : StationCfg) (k : Nat) : Bool :=
  ((s.tick.number : Int) - (c.phases.getD k 0 : Int)) % (classPeriod k : Int) == 0
/-- The station's input points. -/
def inputPoints (c : StationCfg) : List Nat := (c.slots.filter (fun x => !x.output)).map SlotCfg.arg
/-- At least one port of the station's attachment has link (R371). -/
def attachmentUp (s : State) (c : StationCfg) : Bool :=
  if c.attach = 2 then portLink s (8 + c.lrPort) else pairUp s c.attach == 1
/-- A port belongs to the station's attachment (R365). -/
def onAttachment (c : StationCfg) (port : Nat) : Bool :=
  if c.attach = 2 then port == 8 + c.lrPort else decide (port < 4) && port / 2 == c.attach

/-- The words of a ring 8 entry for a station (R501). -/
def stationWords (s : State) (n : Nat) : List Nat :=
  let x := stnState s n
  [n + x.state * 2 ^ 16 + x.cause * 2 ^ 24, x.latest, lo32 x.high, hi32 x.high, getF s (F.STN.ST_IN_FRAMES n),
    getF s (F.STN.ST_OUT_FRAMES n), getF s (F.STN.ST_OUT_DISCARDED n)]
/-- Move a station to a state; ring 8 takes a STATE entry (R501). -/
def setStation (n st : Nat) (s : State) : State :=
  if (stnState s n).state = st then s
  else
    let s1 := updStation n (fun x => { x with state := st }) s
    stageEntry 8 1 28 (nowStamp s1) (stationWords s1 n) s1

/-! ### Leaving ACTIVE (R370, R371, R373) -/

/-- A queued frame is an OUTPUT frame of station `n` with SESSION clear. -/
def isOutputOf (n : Nat) (f : TxFrame) : Bool :=
  match f.body with
  | .output o => o.station == n && !o.session
  | _ => false
/-- The exchange number and class of an OUTPUT frame. -/
def outputKey (f : TxFrame) : Option (Nat × Nat) :=
  match f.body with
  | .output o => some (o.exchange, o.cls)
  | _ => none
/-- Count a discarded frame of a station (R370, R360). -/
def countDiscarded (n : Nat) (k : Nat × Nat) (s : State) : State :=
  emit 0x1006 n k.1 k.2 (bumpF F.STN.OUT_DISCARDED_COUNT 1 (bumpF (F.STN.ST_OUT_DISCARDED n) 1 s))
/-- Remove the station's waiting OUTPUT frames with SESSION clear from every queue (R370); the copies of one frame on
the two ports of a pair are one frame. -/
def discardOutputs (n : Nat) (s : State) : State :=
  let gone := ((List.range 48).flatMap (queueOf s)).filter (isOutputOf n)
  let keys := (gone.filterMap outputKey).dedup
  let s1 := (List.range 48).foldl (fun t q =>
    if (queueOf t q).any (isOutputOf n) then putQueue q ((queueOf t q).filter (fun f => !isOutputOf n f)) t else t) s
  keys.foldl (fun t k => countDiscarded n k t) s1
/-- SOURCE_ABSENT on the station's input points (R371). -/
def absentInputs (c : StationCfg) (s : State) : State := (inputPoints c).foldl (fun t p => declareAbsent p t) s
/-- A station becomes ABSENT (R371): 1 MISS, 2 LINK, 3 LEAVE, 5 FAULT. -/
def stationLost (c : StationCfg) (cause : Nat) (s : State) : State :=
  let n := c.station
  let s1 := setStation n stnAbsent (updStation n (fun x => { x with cause := cause }) s)
  emit 0x1002 n cause (stnState s1 n).latest (discardOutputs n (absentInputs c s1))
/-- WAITING or ACTIVE. -/
def canLose (s : State) (n : Nat) : Bool := (stnState s n).state == stnWaiting || (stnState s n).state == stnActive
/-- A station becomes HALTED (R373). -/
def stationHalt (c : StationCfg) (addr : Nat) (s : State) : State :=
  let n := c.station
  if (stnState s n).state = stnHalted then s
  else
    let s1 := setStation n stnHalted (updStation n (fun x => { x with cause := 4 }) s)
    emit 0x1007 n (lo32 addr) 0 (setF F.STN.STATUS_MEMORY_ERROR 1 (discardOutputs n (absentInputs c s1)))
/-- An uncorrectable error in a station's context (R373). -/
def haltStation (n addr : Nat) (s : State) : State :=
  match stationCfg s n with
  | some c => if flag s F.STN.STATUS_RUNNING then stationHalt c addr s else s
  | none => s
/-- A FAULTED STN: every station becomes ABSENT (R373). -/
def stnFault (s : State) : State :=
  (stationList s).foldl (fun t c => if canLose t c.station then stationLost c 5 t else t) s

/-- MISS at the freeze of an exchange tick of the fastest input class (R371). DEDUCED, log entry 113. -/
def stationMiss (c : StationCfg) (s : State) : State :=
  let n := c.station
  match fastestInput c with
  | none => s
  | some k =>
    if (stnState s n).state = stnHalted || !exchangeTick s c k then s
    else
      let s1 := updStation n (fun x =>
        { x with misses := if x.heard then 0 else min (x.misses + 1) 255, heard := false }) s
      if canLose s1 n && (stnState s1 n).misses ≥ c.missLimit then stationLost c 1 s1 else s1
/-- What STN does at the freeze. DEDUCED, log entry 113. -/
def stnFreeze (s : State) : State :=
  if stnRuns s then (stationList s).foldl (fun t c => stationMiss c t) s else s

/-- STATION_ABSENT (R371): the check of one station at a freeze, or at the loss of link; the frame that LEAVES is
INPUT_FRAME's. -/
def execStationAbsent (n : Nat) (s : State) : Result :=
  .next (match stationCfg s n with
    | none => s
    | some c =>
      if !stnRuns s || !canLose s n then s
      else if !attachmentUp s c then stationLost c 2 s
      else if (stnState s n).misses ≥ c.missLimit then stationLost c 1 s
      else s)

/-- A link is lost (R352, R371): a pair with both ports down is recorded, and a station whose attachment has no link left
becomes ABSENT. -/
def loseLink (x : Nat) (s : State) : State :=
  if !linkIsUp s x then s
  else
    let s1 := changeLink x false s
    if stnRuns s1 then
      (stationList s1).foldl (fun t c =>
        if onAttachment c x && !attachmentUp t c && canLose t c.station then stationLost c 2 t else t) s1
    else s1
/-- LINK_DOWN (R352, R371). -/
def execLinkDown (x : Nat) (s : State) : Result := .next (if linkUsable s x then loseLink x s else s)
/-- SFP_MISMATCH (R349): a module that does not offer the mode holds the link of its port down. `code` is its
SFF-8472 compliance byte. -/
def execSfpMismatch (x code : Nat) (s : State) : Result :=
  .next (if x ≤ 4 && linkUsable s x then
      let s1 := if x < 4 then setF (F.NET.PORT_STATE_SFP_PRESENT x) 1 (setF (F.NET.PORT_STATE_SFP_MISMATCH x) 1 s)
        else setF F.NET.MIRROR_STATE_SFP_MISMATCH 1 s
      loseLink x (emit 0x0E04 x (code % 256) 0 s1)
    else s)

/-- STATION_SUMMARY (R501): ring 8 takes a SUMMARY entry of station s at its tick modulo 8,000. -/
def execStationSummary (n : Nat) (s : State) : Result :=
  .next (if stnRuns s && (stationCfg s n).isSome && s.tick.number % 8000 == n then
      stageEntry 8 2 28 (nowStamp s) (stationWords s n) s
    else s)

/-! ### Keys and frames (R362 to R364) -/

/-- The uplink key of a station (R362). -/
def uplinkKey (s : State) (c : StationCfg) : List Nat :=
  hkdf384 (List.replicate 48 0) (keyMaterial s 4 c.keyId) ([0x57, 0x4E, 0x53, 0x54, 0x2D, 0x55, 0x50] ++ bytesLE 2 c.station) 32
/-- This module's downlink key of a station (R362). -/
def downlinkKey (s : State) (c : StationCfg) : List Nat :=
  hkdf384 (List.replicate 48 0) (keyMaterial s 4 c.keyId)
    ([0x57, 0x4E, 0x53, 0x54, 0x2D, 0x44, 0x4E] ++ bytesLE 2 c.station ++ bytesLE 8 (serialNumber s)) 32
/-- The nonce of a frame (R364): 1 for INPUT or 2 for OUTPUT, and SEQUENCE. -/
def frameNonce (kind sequence : Nat) : List Nat := bytesLE 4 kind ++ bytesLE 8 sequence
/-- The number of entries that a frame's header gives. -/
def frameEntries (b : List Nat) : Nat := u16 b 10
/-- Check 2 of R365: an INPUT frame of version 1 whose length agrees with ENTRIES. -/
def frameForm (b : List Nat) : Bool :=
  u32 b 0 == 0x58534E57 && u8 b 4 == 1 && u8 b 5 == 1 && decide (frameEntries b ≤ 160) && b.length == 64 + 8 * frameEntries b
/-- Check 3 of R365: the body of a frame whose tag verifies under the uplink key. -/
def frameBody (s : State) (c : StationCfg) (b : List Nat) : Option (List Nat) :=
  let n := 16 + 8 * frameEntries b
  gcmOpen (uplinkKey s c) (frameNonce 1 (u64 b 20)) (b.take 32) (slice b 32 n) (slice b (32 + n) 16)
/-- The entries of a body. -/
def bodyEntries (b : List Nat) : List SlotEntry :=
  (rowsAt b 16 8 160).map (fun r => { slot := u8 r 0, typ := u8 r 1, quality := u16 r 2, value := wordAt r 4 })
/-- The bytes of an entry. -/
def slotBytes (e : SlotEntry) : List Nat := [e.slot % 256, e.typ % 256] ++ bytesLE 2 e.quality ++ bytesLE 4 e.value.toNat
/-- The sealed payload of an OUTPUT frame. -/
def outputPayload (s : State) (c : StationCfg) (k : Nat) (session : Bool) (sequence exchange stamp : Nat)
    (entries : List SlotEntry) : List Nat :=
  let header := bytesLE 4 0x58534E57 ++ [1, 2, k, ofBool session] ++ bytesLE 2 c.station ++ bytesLE 2 entries.length ++
    bytesLE 8 (serialNumber s) ++ bytesLE 8 sequence ++ bytesLE 4 exchange
  let body := bytesLE 8 stamp ++ bytesLE 2 c.holdMs ++ [0, 0, 0, 0, 0, 0] ++ entries.flatMap slotBytes
  header ++ gcmSeal (downlinkKey s c) (frameNonce 2 sequence) header body
/-- The 16-bit sum of some bytes with its carries folded in, and complemented; never 0 (R351). -/
def onesChecksum (b : List Nat) : Nat :=
  65535 - ((cutBytes 2 b.length b).foldl (fun a x => a + u8 x 0 * 256 + u8 x 1) 0) % 65535
/-- A station's attachment uses IPv6. -/
def attachmentV6 (s : State) (c : StationCfg) : Bool :=
  if c.attach = 2 then (lrCfg s c.lrPort).ipv6 else (netCfg s).ipv6 / 2 ^ c.attach % 2 == 1
/-- What carries an OUTPUT frame (R350, R351, R375): from the attachment's MAC and source address to the station's.
PRESUMED, log entry 105. -/
def outputHeader (s : State) (c : StationCfg) (payload : List Nat) : TxHeader :=
  let n := netCfg s
  let v6 := attachmentV6 s c
  let width := if v6 then 16 else 4
  let src := if c.attach = 2 then (lrCfg s c.lrPort).addr else n.service.getD c.attach 0
  let ends := bytesLE width src ++ bytesLE width c.address
  let udp := bytesBE 2 n.udpPort ++ bytesBE 2 n.udpPort ++ bytesBE 2 (8 + payload.length) ++ [0, 0] ++ payload
  let pseudo := if v6 then ends ++ bytesBE 4 (8 + payload.length) ++ [0, 0, 0, 17] else ends ++ [0, 17] ++ bytesBE 2 (8 + payload.length)
  { srcMac := macOf s (if c.attach = 2 then 3 + c.lrPort else c.attach), dstMac := c.mac, v6 := v6, src := src, dst := c.address
    udpPort := n.udpPort, dscp := n.dscp, ttl := 64, checksum := onesChecksum (pseudo ++ udp) }

/-! ### INPUT frames (R365, R372) -/

/-- Bit k of `seen` stands for H − k. Mark SEQUENCE `q` seen. -/
def markSeen (q : Nat) (x : StationState) : StationState :=
  if q > x.high then { x with high := q, seen := (x.seen * 2 ^ (min (q - x.high) 64) + 1) % 2 ^ 64 }
  else
    let k := x.high - q
    if x.seen / 2 ^ k % 2 = 1 then x else { x with seen := x.seen + 2 ^ k }
/-- Check 4 of R365: SEQUENCE lies above H − 64 and has not been seen. -/
def sequenceFresh (x : StationState) (q : Nat) : Bool :=
  decide (q > x.high) || (decide (q + 64 > x.high) && x.seen / 2 ^ (x.high - q) % 2 == 0)
/-- Check 5 of R365: EXCHANGE is one of the last 64 numbers consumed. -/
def echoFresh (x : StationState) (e : Nat) : Bool :=
  decide ((x.latest + 2 ^ 32 - e % 2 ^ 32) % 2 ^ 32 < x.consumed)
/-- The input slot that an entry names (check 6). -/
def entrySlot (c : StationCfg) (cls : Nat) (e : SlotEntry) : Option SlotCfg :=
  c.slots.find? (fun x => !x.output && x.slot == e.slot && x.cls == cls && x.typ == e.typ)
/-- Apply one entry: a sample, or a front-end fault (R365). -/
def applyEntry (c : StationCfg) (cls stamp : Nat) (e : SlotEntry) (s : State) : State :=
  match entrySlot c cls e with
  | none => s
  | some x =>
    let reason := e.quality / 4096 % 16
    if e.quality % 2 = 0 && 9 ≤ reason && reason ≤ 11 then frontFault 16 x.arg reason s
    else sampleIn 16 x.arg e.value stamp s
/-- A new frame that has passed every check, with its decrypted body: H moves and every entry is applied (R365, R371, R372). -/
def applyInput (c : StationCfg) (f : InputFrame) (body : List Nat) (s : State) : State :=
  let n := c.station
  let b := f.payload
  let st := portStamp s (portEntry f.port) false
  let s1 := updStation n (markSeen (u64 b 20)) { s with stn := { s.stn with applied := s.stn.applied + 1 } }
  let s2 := setF (F.STN.ST_UP_SEQ_LO n) (lo32 (u64 b 20)) (setF (F.STN.ST_UP_SEQ_HI n) (hi32 (u64 b 20))
    (setF (F.STN.ST_STATUS n) (u32 body 8) (bumpF (F.STN.ST_IN_FRAMES n) 1 s1)))
  let s3 := (bodyEntries body).foldl (fun t e => applyEntry c (u8 b 6) st e t) s2
  let s4 := if fastestInput c = some (u8 b 6) then updStation n (fun x => { x with heard := true, misses := 0 }) s3 else s3
  if u8 b 7 % 2 = 1 then (if canLose s4 n then stationLost c 3 s4 else s4)
  else if (stnState s4 n).state = stnActive then s4
  else emit 0x1001 n (u32 b 28) 0 (setStation n stnActive s4)

/-- Frames beyond 1,024 in one tick are dropped (R365). -/
def dropOverload (s : State) : State :=
  let k := s.stn.overflow + 1
  emit 0x1008 k 0 0 (setF F.STN.STATUS_OVERLOAD 1 (bumpF F.STN.OVERLOAD_COUNT 1
    { s with stn := { s.stn with overflow := k } }))

/-- The checks of R365 in their order. DEDUCED, log entry 113. -/
def receiveInput (f : InputFrame) (s : State) : State :=
  let malformed := bumpF F.STN.MALFORMED_COUNT 1 s
  let b := f.payload
  match stationCfg s (u16 b 8) with
  | none => malformed
  | some c =>
    let n := c.station
    let x := stnState s n
    if x.state = stnHalted || !onAttachment c f.port || c.address ≠ f.address then malformed
    else match f.contextError with
      | some a => stationHalt c a (noteUe 6 a (some 16) s)
      | none =>
        if !frameForm b then malformed
        else match frameBody s c b with
          | none => emit 0x1003 n f.port 0 (bumpF F.STN.AUTH_FAIL_COUNT 1 s)
          | some body =>
            if !sequenceFresh x (u64 b 20) then
              emit 0x1004 n (lo32 (u64 b 20)) (lo32 x.high) (bumpF F.STN.REPLAY_COUNT 1 s)
            else if !echoFresh x (u32 b 28) then emit 0x1005 n (u32 b 28) x.latest (bumpF F.STN.ECHO_FAIL_COUNT 1 s)
            else if (bodyEntries body).any (fun e => (entrySlot c (u8 b 6) e).isNone) then malformed
            else if u64 b 20 ≤ x.high then updStation n (markSeen (u64 b 20)) (bumpF F.STN.LATE_COUNT 1 s)
            else if s.stn.applied ≥ 1024 then dropOverload s
            else applyInput c f body s

/-- INPUT_FRAME (R365). -/
def execInputFrame (f : InputFrame) (s : State) : Result := .next (if stnRuns s then receiveInput f s else s)

/-! ### The exchange (R367 to R369, R374) -/

/-- Every station is WAITING at go-live; as SOLO or LEAD its first exchange number comes from the entropy source
(R361, R369). DEDUCED, log entry 114. -/
def stnGoLive (draw : Bool) (s : State) : State :=
  let s0 := { s with stn := {} }
  let s1 := (stationList s0).foldl (fun t c =>
    if draw then
      let (v, t1) := drawFree t
      updStation c.station (fun x => { x with nextExchange := v.toNat % 2 ^ 32 }) t1
    else t) s0
  let epoch := getF s1 F.CLAP.POWER_EPOCH
  let s2 := setF F.STN.STATUS_RUNNING 1 s1
  if epoch ≥ 2 ^ 24 && !(stationList s2).isEmpty then emit 0x1009 epoch 0 0 (setF F.STN.STATUS_EPOCH_EXHAUSTED 1 s2)
  else setF F.STN.STATUS_EPOCH_EXHAUSTED 0 s2

/-- The registers that STN's entry of a tick carries: station states and consumed exchange numbers (R373, R382). -/
def stationFields (s : State) : List (Field × Nat) :=
  let cs := stationList s
  let count := fun (p : Nat → Bool) => (cs.filter (fun c => p (stnState s c.station).state)).length
  [(F.STN.WAITING_NOW, count (fun k => k == stnWaiting)), (F.STN.ACTIVE_NOW, count (fun k => k == stnActive)),
   (F.STN.ABSENT_NOW, count (fun k => k == stnAbsent || k == stnHalted))] ++
  cs.flatMap (fun c =>
    let n := c.station
    let x := stnState s n
    [(F.STN.ST_STATE_STATE n, x.state), (F.STN.ST_STATE_CAUSE n, x.cause), (F.STN.ST_STATE_MISSES n, x.misses),
     (F.STN.ST_EXCHANGE n, x.latest)])
/-- STN forms its entry of the tick (R373); counts of the tick start anew. -/
def stnTick (s : State) : State :=
  if !stnRuns s || (stationList s).isEmpty then s
  else
    let e : StagedEntry := { unit := 16, due := s.tick.number, fields := stationFields s }
    let s1 := { s with stn := { s.stn with applied := 0, overflow := 0 } }
    { s1 with tick := { s1.tick with outbox := s1.tick.outbox ++ [e] } }

/-- An output slot's entry (R368). -/
def outputEntry (s : State) (n : Nat) (x : SlotCfg) : SlotEntry :=
  if x.outSource = 0 then
    let p := windowPoint s x.arg
    { slot := x.slot, typ := x.typ, quality := p.quality, value := p.value }
  else
    match tableGet none s.txn.values (6 * 2 ^ 24 + n * 256 + x.slot) with
    | some v => { slot := x.slot, typ := x.typ, quality := 1, value := v }
    | none => { slot := x.slot, typ := x.typ, quality := 33, value := BitVec.ofNat 32 x.arg }
/-- Put an entry in the order of slots (R364). -/
def insertEntry (e : SlotEntry) : List SlotEntry → List SlotEntry
  | [] => [e]
  | x :: t => if e.slot < x.slot then e :: x :: t else x :: insertEntry e t
/-- Every output slot of a class, in the order of slots (R367). -/
def outputEntries (s : State) (c : StationCfg) (k : Nat) : List SlotEntry :=
  ((c.slots.filter (fun y => y.output && y.cls == k)).map (outputEntry s c.station)).foldl (fun l e => insertEntry e l) []
/-- Bits on the wire of a station frame of `n` entries on an attachment (R379). -/
def stationBits (s : State) (c : StationCfg) (n : Nat) : Nat :=
  (64 + 8 * n + 8 + (if attachmentV6 s c then 40 else 20) + (if c.attach = 2 then 38 else 44)) * 8
/-- Build, seal and enqueue one OUTPUT frame (R367, R369); a refused frame counts as discarded (R360). -/
def buildOutput (c : StationCfg) (k : Nat) (s : State) : State :=
  let n := c.station
  let x := stnState s n
  if x.built ≥ 2 ^ 40 then
    discardOutputs n (setStation n stnHalted s)
  else
    let active := x.state == stnActive
    let entries := if active then outputEntries s c k else []
    let epoch := getF s F.CLAP.POWER_EPOCH % 2 ^ 24
    let stamp := stampAt s s.tick.startNs
    let payload := outputPayload s c k (!active) (epoch * 2 ^ 40 + x.built) x.nextExchange stamp entries
    let o : OutputFrame := {
      header := outputHeader s c payload, payload := payload, station := n, cls := k, session := !active, sender := serialNumber s
      epoch := epoch, count := x.built, exchange := x.nextExchange
      snapshotStamp := stamp, holdMs := c.holdMs, entries := entries }
    let f : TxFrame := { body := .output o, bits := stationBits s c entries.length,
                         launch := some (s.tick.startNs + 125000 + c.launchNs) }
    let s1 := updStation n (fun y => { y with
      built := y.built + 1, latest := y.nextExchange, nextExchange := (y.nextExchange + 1) % 2 ^ 32
      consumed := min (y.consumed + 1) 64 }) s
    let (s2, taken) := if c.attach = 2 then enqueue (32 + 2 * c.lrPort) f s1
      else enqueuePair c.attach (if k = 0 then 7 else 6) f s1
    if taken then s2 else countDiscarded n (o.exchange, k) s2
/-- After the Curtain that published STN's entry: one frame for each class whose exchange tick this is, station by
station, FAST first (R367). A Stand-in builds none (R374), nor does a module whose epoch is exhausted (R363). -/
def stnBuild (s : State) : State :=
  if !stnRuns s || !(role s == 0 || role s == 1) || flag s F.STN.STATUS_EPOCH_EXHAUSTED then s
  else (stationList s).foldl (fun t c =>
    (stationClasses c).foldl (fun u k =>
      if exchangeTick u c k && (stnState u c.station).state != stnHalted then buildOutput c k u else u) t) s
/-- A Stand-in takes a station's latest consumed exchange number from the mirror (R374); the numbers up to it are consumed. -/
def mirrorExchange (n k : Nat) (s : State) : State :=
  updStation n (fun x => { x with
    latest := k, consumed := if x.consumed = 0 then 64 else min 64 (x.consumed + (k + 2 ^ 32 - x.latest) % 2 ^ 32) }) s
/-- Frames queued on a Lead that stands down are lost (R374). -/
def loseFrames (s : State) : State :=
  (List.range 48).foldl (fun t q =>
    if (queueOf t q).any (fun f => (outputKey f).isSome) then putQueue q ((queueOf t q).filter (fun f => (outputKey f).isNone)) t else t) s
/-- A switch-over: the new Lead continues 16 beyond the last mirrored number (R374). DEDUCED, log entry 114. -/
def stnSwitchOver (s : State) : State :=
  (stationList s).foldl (fun t c =>
    updStation c.station (fun x => { x with nextExchange := (x.latest + 16) % 2 ^ 32 }) t) s
/-- STN stops: leaving LIVE. -/
def stnStop (s : State) : State := setF F.STN.STATUS_RUNNING 0 s

end Sys2Proof.Machine
end

