-- ==== Sys2Proof/Machine/Txn.lean ====
section
/-! DEFINITION. Takes: slots, staging, write-ahead, application, and the Splice log (R84 to R106). -/

namespace Sys2Proof.Machine

open Sys2Proof

/-! ### Slots -/

/-- Slot states of R84. -/
def slotFree : Nat := 0
/-- Accepting STAGE, COMMIT and CUT. -/
def slotOpen : Nat := 1
/-- Write-ahead in progress. -/
def slotCommitting : Nat := 2
/-- Durable; waiting for its Curtain. -/
def slotCommitted : Nat := 3

/-- The slot's part beyond its registers. -/
def takeSlot (s : State) (k : Nat) : TakeSlot := s.txn.slots.getD k {}
/-- The slot's state code. -/
def slotState (s : State) (k : Nat) : Nat := getF s (F.TXN.SLOT_STATE_STATE k)
/-- Change a slot's part. -/
def updSlot (k : Nat) (f : TakeSlot → TakeSlot) (s : State) : State :=
  { s with txn := { s.txn with slots := listUpd {} s.txn.slots k f } }
/-- The slot's handle. -/
def handleOf (s : State) (k : Nat) : Nat := getF s (F.TXN.SLOT_STATE_HANDLE k)
/-- The slots in a state. -/
def slotsIn (s : State) (st : Nat) : List Nat := [0, 1, 2, 3].filter (fun k => slotState s k == st)
/-- Show how many slots are in use and how many Takes wait (R105). -/
def showSlots (s : State) : State :=
  setF F.TXN.STATUS_OPEN (4 - (slotsIn s slotFree).length)
    (setF F.TXN.STATUS_QUEUED ((slotsIn s slotCommitted).length) s)
/-- Change a slot's state. -/
def setSlotState (k st : Nat) (s : State) : State := showSlots (setF (F.TXN.SLOT_STATE_STATE k) st s)
/-- A slot becomes FREE: its claims are released. -/
def freeSlot (k : Nat) (s : State) : State :=
  setSlotState k slotFree (setF (F.TXN.SLOT_WRITES k) 0 (setF (F.TXN.SLOT_TAKE_ID k) 0
    (updSlot k (fun x => { x with writes := [], owner := none }) s)))
/-- End an OPEN Take without effect, recording its cause (R106). -/
def cutTake (k cause : Nat) (s : State) : State := freeSlot k (emit 0x020D (handleOf s k) cause 0 s)
/-- A session ended: its OPEN Takes are cut, its others go on without an owner (R85). -/
def sessionTakes (ses : Nat) (s : State) : State :=
  [0, 1, 2, 3].foldl (fun t k =>
    if (takeSlot t k).owner = some ses then
      if slotState t k = slotOpen then cutTake k 1 t else updSlot k (fun x => { x with owner := none }) t
    else t) s

/-- An OPEN Take has reached its expiry tick (R88). -/
def takeExpiredNow (s : State) (k : Nat) : Bool :=
  slotState s k == slotOpen && decide (s.tick.number ≥ (takeSlot s k).expiry)
/-- An OPEN Take expires (R88). -/
def expireTake (k : Nat) (s : State) : State :=
  if takeExpiredNow s k then
    updSlot k (fun x => { x with expired := true })
      (freeSlot k (emit 0x020E (handleOf s k) (getF s (F.TXN.SLOT_WRITES k)) 0 s))
  else s
/-- The expiries of a tick start. -/
def expireTakes (s : State) : State := [0, 1, 2, 3].foldl (fun t k => expireTake k t) s
/-- TAKE_EXPIRED (R88): slot `k` reaches its expiry tick. -/
def execTakeExpired (k : Nat) (s : State) : Result := .next (if k < 4 then expireTake k s else s)

/-- Find a handle's slot (R84, R88): a stale handle gives BAD_ARGUMENT, an expired one TIMEOUT. -/
def findHandle (s : State) (h : Nat) : Except Nat Nat :=
  let k := h % 4
  let x := takeSlot s k
  if x.gen ≠ h / 4 || h / 4 = 0 then .error resBadArgument
  else if slotState s k = slotFree then .error (if x.expired then resTimeout else resBadArgument)
  else if takeExpiredNow s k then .error resTimeout
  else .ok k

/-- The first checks of STAGE, COMMIT and CUT within the argument step (R103): handle, owner, state. -/
def openTake (s : State) (c : Caller) (h : Nat) : Except Nat Nat :=
  match findHandle s h with
  | .error e => .error e
  | .ok k =>
    if (takeSlot s k).owner ≠ callerSlot s c || (callerSlot s c).isNone then .error resNotAuthorised
    else if slotState s k ≠ slotOpen then .error resIllegal
    else .ok k

/-! ### The pair (R90, R96) -/

/-- The unit is LEAD with a Stand-in in the pair. -/
def standInPaired (s : State) : Bool := role s == 1 && flag s F.SPOT.STATUS_PEER_PRESENT
/-- Take commands are legal in LIVE, and not on a Stand-in (R104). -/
def takesLegal (s : State) : Bool := inState s .live && role s != 2

/-! ### The Splice log (R97 to R100) -/

/-- The roles that OPEN, STAGE, COMMIT and CUT allow. -/
def takeRoles : List Nat := [roleOperator, roleEngineer]
/-- Bytes of an entry with `n` writes: head, writes padded to 64, mark. -/
def entryLength (n : Nat) : Nat := 128 + (8 * n + 63) / 64 * 64
/-- Bytes of the entry region. -/
def logRegion : Nat := 67100672
/-- Marked entries in the log (R99). -/
def logTakes (s : State) : Nat := (s.txn.log.filter (fun e => e.mark == .marked)).length
/-- Bytes used in the entry region. -/
def logBytes (s : State) : Nat := (s.txn.log.map LogEntry.length).foldl (· + ·) 0
/-- The log has reached seven-eighths of a limit (R99). -/
def logNear (s : State) : Bool := decide (logTakes s ≥ 57344 || logBytes s ≥ 58713088)
/-- The registers that show the log's fill (R99, R105). The log is full when not even the smallest entry, of one write,
fits. DEDUCED, log entry 50. -/
def putLogFill (s : State) : State :=
  let n := logTakes s
  let b := logBytes s
  setF F.TXN.LOG_TAKES n (setF F.TXN.LOG_BYTES b (setF F.TXN.STATUS_LOG_NEARLY_FULL (ofBool (logNear s))
    (setF F.TXN.STATUS_LOG_FULL (ofBool (decide (n ≥ 65536 || b + entryLength 1 > logRegion) || s.txn.logBroken)) s)))
/-- Show the log's fill; reaching seven-eighths is recorded. -/
def showLog (s : State) : State :=
  if logNear s && !flag s F.TXN.STATUS_LOG_NEARLY_FULL then emit 0x0211 (logTakes s) (logBytes s) 0 (putLogFill s)
  else putLogFill s
/-- Bytes 0 to 79 of a header copy. -/
def headerBytes (h : LogHeader) : List Nat :=
  bytesLE 4 h.magic ++ bytesLE 2 h.format ++ bytesLE 2 0 ++ bytesLE 8 h.generation ++ bytesOfWords h.reelHash ++
    bytesLE 4 h.nextTakeId ++ List.replicate 12 0
/-- A header copy is valid: MAGIC, FORMAT and HEADER_HASH hold. -/
def headerValid (h : LogHeader) : Bool :=
  h.magic == 0x474C5053 && h.format == 1 && h.headerHash == wordsLE (sha384 (headerBytes h))
/-- The copy in use: of the valid copies, the one with the higher GENERATION. DESIGN CHOICE, log entry 56. -/
def headerInUse (s : State) : Option Nat :=
  let h := fun (k : Nat) => s.txn.headers.getD k {}
  match headerValid (h 0), headerValid (h 1) with
  | true, true => some (if (h 0).generation < (h 1).generation then 1 else 0)
  | true, false => some 0
  | false, true => some 1
  | false, false => none
/-- The Reel hash that the log is bound to, as twelve words; zeros bind it to none, and so does a log without a valid
header (R100). -/
def logHash (s : State) : List Nat :=
  match headerInUse s with
  | some k => (s.txn.headers.getD k {}).reelHash
  | none => List.replicate 12 0
/-- Write a header, bound to a Reel hash, to the copy not in use. DESIGN CHOICE, log entry 56. -/
def writeHeader (hash : List Nat) (s : State) : State :=
  let u := headerInUse s
  let gen := match u with
    | some k => (s.txn.headers.getD k {}).generation + 1
    | none => 1
  let h : LogHeader := { magic := 0x474C5053, format := 1, generation := gen, reelHash := hash, nextTakeId := s.txn.nextId }
  { s with txn := { s.txn with
    headers := listUpd {} s.txn.headers (if u = some 0 then 1 else 0)
      (fun _ => { h with headerHash := wordsLE (sha384 (headerBytes h)) }) } }
/-- The bytes of an entry, from 0 to the end of its padding. -/
def entryBytes (e : LogEntry) : List Nat :=
  let ws := e.writes.flatMap (fun w => bytesLE 3 w.id ++ bytesLE 1 w.typ ++ bytesLE 4 w.value.toNat)
  bytesLE 4 0x454B4154 ++ bytesLE 4 e.length ++ bytesLE 4 e.takeId ++ bytesLE 2 e.writes.length ++ bytesLE 1 e.role ++
    bytesLE 1 (ofBool e.mirrored) ++ bytesLE 8 e.stamp ++ bytesLE 8 e.principal ++ List.replicate 32 0 ++ ws ++
    List.replicate ((64 - ws.length % 64) % 64) 0
/-- CHAIN of an entry that follows a CHAIN. -/
def chainOf (before : List Nat) (e : LogEntry) : List Nat := sha384 (before ++ entryBytes e)
/-- CHAIN of the last marked entry of a log bound to a hash. -/
def lastChain (hash : List Nat) (log : List LogEntry) : List Nat :=
  match (log.filter (fun e => e.mark == .marked)).getLast? with
  | some e => e.chain
  | none => bytesOfWords hash
/-- Append an entry; a marked one takes its CHAIN. -/
def appendLog (e : LogEntry) (s : State) : State :=
  let x : LogEntry := if e.mark = .marked then { e with chain := chainOf (lastChain (logHash s) s.txn.log) e } else e
  showLog { s with txn := { s.txn with log := s.txn.log ++ [x] } }
/-- The log can take an entry of `n` writes beside those of every Take still COMMITTING (R90, R99). -/
def logTakesEntry (s : State) (n : Nat) : Bool :=
  let ks := slotsIn s slotCommitting
  let waiting := (ks.map (fun k => entryLength (takeSlot s k).writes.length)).foldl (· + ·) 0
  !s.txn.logBroken && decide (logTakes s + ks.length + 1 ≤ 65536) &&
    decide (logBytes s + waiting + entryLength n ≤ logRegion)
/-- A log's last TAKE entry, where it has no commit mark: it is torn (R98). -/
def tornEntry (log : List LogEntry) : Option LogEntry :=
  ((log.filter (fun e => e.mark != .filler)).getLast?).filter (fun e => e.mark == .unmarked)
/-- A log without its torn entry and what lies after it. -/
def withoutTorn (log : List LogEntry) : List LogEntry :=
  match tornEntry log with
  | some _ => ((log.reverse.dropWhile (fun e => e.mark == .filler)).drop 1).reverse
  | none => log
/-- Empty the log and bind it to a Reel hash (R73, R100). -/
def resetLog (hash : List Nat) (s : State) : State :=
  let t := writeHeader hash s
  showLog { t with txn := { t.txn with log := [], logBroken := false, spanId := none } }
/-- The entry of a slot's Take. -/
def entryOf (s : State) (k : Nat) (mirrored : Bool) (mark : LogMark) : LogEntry :=
  let x := takeSlot s k
  { takeId := getF s (F.TXN.SLOT_TAKE_ID k), writes := x.writes, role := x.role, mirrored := mirrored, stamp := x.stamp,
    principal := x.principal, length := entryLength x.writes.length, mark := mark }

/-! ### Commands (R84 to R90, R103) -/

/-- The OPEN command. -/
def cmdOpen (c : Caller) (life : Nat) (s : State) : State × Reply :=
  runCommand 2 0x01 c life (some takeRoles) (takesLegal s && !flag s F.SPOT.STATUS_PROGRAM_EXCHANGE) (fun t =>
    if life > 600 then .error resBadArgument
    else match t.cfg.tunables, (slotsIn t slotFree).head? with
      | some tn, some k =>
        let secs := if life = 0 then tn.defaultLifetime else life
        let gen := if (takeSlot t k).gen ≥ 16383 then 1 else (takeSlot t k).gen + 1
        let h := gen * 4 + k
        let ex := t.tick.number + secs * 8000
        let t1 := updSlot k (fun _ => { gen := gen, owner := callerSlot t c, expiry := ex }) t
        let t2 := setF (F.TXN.SLOT_STATE_HANDLE k) h (setF (F.TXN.SLOT_WRITES k) 0
          (setF (F.TXN.SLOT_EXPIRY k) (lo32 ex) (setF (F.TXN.SLOT_TAKE_ID k) 0 t1)))
        .ok (emit 0x020A h secs 0 (setSlotState k slotOpen t2), resOk, h)
      | _, _ => .error resExhausted) s
/-- OPEN (R84). -/
def execOpen (c : Caller) (a0 : Nat) (s : State) : Result := .next (cmdOpen c a0 s).1

/-- A tunable is claimed by a Take other than that of slot `k` (R86). -/
def claimedElsewhere (s : State) (k id : Nat) : Bool :=
  [0, 1, 2, 3].any (fun j => j != k && slotState s j != slotFree && (takeSlot s j).writes.any (fun w => w.id == id))
/-- A write added to a Take's list; a second one for a tunable replaces the value in its place (R86). -/
def stageWrite (w : TakeWrite) (ws : List TakeWrite) : List TakeWrite :=
  if ws.any (fun x => x.id == w.id) then ws.map (fun x => if x.id = w.id then w else x) else ws ++ [w]

/-- The STAGE command. -/
def cmdStage (c : Caller) (h id : Nat) (v : Word) (s : State) : State × Reply :=
  runCommand 2 0x02 c h (some takeRoles) (takesLegal s) (fun t =>
    match openTake t c h with
    | .error e => .error e
    | .ok k =>
      match tunableOf t id with
      | none => .error resBadArgument
      | some tn =>
        let ws := (takeSlot t k).writes
        if tn.cls = 2 then .error resMetrologyLocked
        else if tn.cls = 1 && callerRole t c != some roleEngineer then .error resNotAuthorised
        else if !valueOk tn (tunableValue t tn) v then .error resBadArgument
        else if claimedElsewhere t k id then .error resConflict
        else if ws.length ≥ 4096 && !ws.any (fun x => x.id == id) then .error resExhausted
        else
          let ws' := stageWrite { id := id, typ := tn.typ, value := v } ws
          .ok (setF (F.TXN.SLOT_WRITES k) ws'.length (updSlot k (fun x => { x with writes := ws' }) t), resOk, ws'.length)) s
/-- STAGE (R86, R87). -/
def execStage (c : Caller) (a0 a1 : Nat) (a2 : Word) (s : State) : Result := .next (cmdStage c a0 a1 a2 s).1

/-- The COMMIT command. DEDUCED, log entry 51. -/
def cmdCommit (c : Caller) (h : Nat) (s : State) : State × Reply :=
  runCommand 2 0x03 c h (some takeRoles) (takesLegal s) (fun t =>
    match openTake t c h with
    | .error e => .error e
    | .ok k =>
      let n := (takeSlot t k).writes.length
      let id := getF t F.TXN.NEXT_TAKE_ID
      if n = 0 then .error resBadArgument
      else if !logTakesEntry t n || id = 0xFFFFFFFF then .error resExhausted
      else
        let ses := (callerSlot t c).getD 0
        let cred := getF t (F.SEC.SES_CRED_LO ses) + 2 ^ 32 * getF t (F.SEC.SES_CRED_HI ses)
        let t1 := updSlot k (fun x =>
          { x with role := (callerRole t c).getD 0, principal := cred, stamp := nowStamp t }) t
        let t2 := setF F.TXN.NEXT_TAKE_ID (id + 1) { t1 with txn := { t1.txn with nextId := id + 1 } }
        .ok (setSlotState k slotCommitting (setF (F.TXN.SLOT_TAKE_ID k) id
          (setF (F.TXN.SLOT_STATE_RESULT k) resPending t2)), resPending, 0)) s
/-- COMMIT (R90). -/
def execCommit (c : Caller) (a0 : Nat) (s : State) : Result := .next (cmdCommit c a0 s).1

/-- The CUT command. -/
def cmdCut (c : Caller) (h : Nat) (s : State) : State × Reply :=
  runCommand 2 0x04 c h (some takeRoles) (takesLegal s) (fun t =>
    match openTake t c h with
    | .error e => .error e
    | .ok k => .ok (cutTake k 0 t, resOk, 0)) s
/-- CUT (R89). -/
def execCut (c : Caller) (a0 : Nat) (s : State) : Result := .next (cmdCut c a0 s).1

/-- The READ_TUNABLE command. -/
def cmdReadTunable (c : Caller) (a0 id : Nat) (s : State) : State × Reply :=
  runCommand 2 0x05 { c with spare := a0 :: c.spare } a0 (some anyRole)
    (inState s .armed || inState s .live || inState s .faultSafe) (fun t =>
    match tunableOf t id with
    | none => .error resBadArgument
    | some tn => .ok (t, resOk, (tunableValue t tn).toNat)) s
/-- READ_TUNABLE (R103). -/
def execReadTunable (c : Caller) (a0 a1 : Nat) (s : State) : Result := .next (cmdReadTunable c a0 a1 s).1

/-! ### Write-ahead (R90, R91) -/

/-- Time of the write-ahead's limits: 50 ms on the stamping time base (R90, R91). -/
def writeLimitNs : Nat := 50000000
/-- The slot with the lowest Take ID among some slots. -/
def lowestTake (s : State) (ks : List Nat) : Option Nat :=
  ks.foldl (fun best k => match best with
    | none => some k
    | some b => if getF s (F.TXN.SLOT_TAKE_ID k) < getF s (F.TXN.SLOT_TAKE_ID b) then some k else some b) none
/-- Enter a step of the write-ahead. -/
def setAhead (a : Option WriteAhead) (s : State) : State := { s with txn := { s.txn with ahead := a } }

/-- WRITE_AHEAD_TURN (R90): the COMMITTING Take with the lowest ID starts its body write. DESIGN CHOICE, log entry 57. -/
def execWriteAheadTurn (s : State) : Result :=
  .next (match s.txn.ahead, lowestTake s (slotsIn s slotCommitting) with
    | none, some k =>
      { s with txn := { s.txn with
        ahead := some { slot := k, stage := 1, startedNs := stampNs s, mirrored := standInPaired s }, spanId := none } }
    | _, _ => s)

/-- Step 2 has ended: the mark write starts (R90). -/
def startMark (durable : Bool) (s : State) : State :=
  match s.txn.ahead with
  | some a => if a.stage = 2 then setAhead (some { a with stage := 3, startedNs := stampNs s, durable := durable }) s else s
  | none => s

/-- TAKE_BODY_WRITTEN (R90): step 1 ends within its limit; the entry is mirrored, or its mark write starts. -/
def execTakeBodyWritten (s : State) : Result :=
  .next (match s.txn.ahead with
    | some a =>
      if a.stage = 1 && stampNs s ≤ a.startedNs + writeLimitNs then
        setAhead (some { a with stage := if standInPaired s then 2 else 3, startedNs := stampNs s }) s
      else s
    | none => s)

/-- TAKE_COMMITTED (R90): the mark is written within 50 ms and the Take becomes COMMITTED. DESIGN CHOICE, log entry 57. -/
def execTakeCommitted (s : State) : Result :=
  .next (match s.txn.ahead with
    | some a =>
      if a.stage = 3 && stampNs s ≤ a.startedNs + writeLimitNs then
        let k := a.slot
        let id := getF s (F.TXN.SLOT_TAKE_ID k)
        let s1 := appendLog (entryOf s k a.mirrored .marked) (setAhead none s)
        let s2 := updSlot k (fun x => { x with committedAt := s.clap.cycles }) s1
        let s3 := setSlotState k slotCommitted (setF (F.TXN.SLOT_STATE_RESULT k) resOk s2)
        commandDone 2 3 (some (handleOf s k)) resOk 0
          (emit 0x020B id (takeSlot s k).writes.length (handleOf s k) s3)
      else s
    | none => s)

/-- TAKE_VOIDED (R91): the body write has not ended after 50 ms, or the mark write failed and no Stand-in holds the
entry. `readBack` tells whether MAGIC and ENTRY_LENGTH read back as written. -/
def execTakeVoided (readBack : Bool) (s : State) : Result :=
  .next (match s.txn.ahead with
    | some a =>
      let late := decide (stampNs s ≥ a.startedNs + writeLimitNs)
      if (a.stage = 1 && late) || (a.stage = 3 && !(role s == 1 && a.durable)) then
        let k := a.slot
        let id := getF s (F.TXN.SLOT_TAKE_ID k)
        let s1 := appendLog (entryOf s k a.mirrored (if readBack then .unmarked else .filler)) (setAhead none s)
        let s2 := { s1 with txn := { s1.txn with spanId := if readBack then none else some id } }
        let s3 := freeSlot k (setF (F.TXN.SLOT_STATE_RESULT k) resTimeout s2)
        commandDone 2 3 (some (handleOf s k)) resTimeout 0 (emit 0x020F id a.stage (handleOf s k) s3)
      else s
    | none => s)

/-- SPLICE_WRITE_FAILED (R91): a mark write fails on a Lead whose Stand-in holds the entry durable, or the
programming of a void span fails. DEDUCED, log entry 53. -/
def execSpliceWriteFailed (s : State) : Result :=
  .next (match s.txn.ahead, s.txn.spanId with
    | some a, none =>
      if a.stage = 3 && role s == 1 && a.durable then
        setHealth 2 2 (emit 0x0212 (getF s (F.TXN.SLOT_TAKE_ID a.slot)) 0 0 (setAhead (some { a with stage := 4 }) s))
      else s
    | _, some id =>
      showLog (emit 0x0212 id 0 0 { s with txn := { s.txn with logBroken := true, spanId := none } })
    | none, none => s)

/-! ### Application (R92 to R95) -/

/-- The committed Take that is due at a Curtain now, 2,048 CLK_CORE cycles after it became COMMITTED (R92): its slot, or
the head of the entries held as Stand-in, which became so when they were durable (R95). DEDUCED, log entry 48. -/
def dueTake (s : State) : Option (Nat ⊕ LogEntry) :=
  match s.txn.held with
  | e :: _ => if s.clap.cycles ≥ e.2 + 2048 then some (.inr e.1) else none
  | [] =>
    match lowestTake s (slotsIn s slotCommitted) with
    | some k => if s.clap.cycles ≥ (takeSlot s k).committedAt + 2048 then some (.inl k) else none
    | none => none
/-- Record that a Take has been applied (R92). -/
def takeApplied (id n : Nat) (s : State) : State := emit 0x020C id n 0 (setF F.TXN.LAST_APPLIED_ID id s)
/-- Apply the due Take; the points it wrote are returned for the point window. DEDUCED, log entry 48. -/
def applyDueTake (stamp : Nat) (s : State) : State × List Nat :=
  match dueTake s with
  | none => (s, [])
  | some (.inl k) =>
    let ws := (takeSlot s k).writes
    let id := getF s (F.TXN.SLOT_TAKE_ID k)
    (takeApplied id ws.length (freeSlot k (applyWrites stamp ws s)), writtenPoints s ws)
  | some (.inr e) =>
    let s1 := { s with txn := { s.txn with held := s.txn.held.drop 1 } }
    (takeApplied e.takeId e.writes.length (applyWrites stamp e.writes s1), writtenPoints s e.writes)

/-- The write-ahead ends where it stands: an entry whose body is written stays in the log without a mark (R94, R98).
DEDUCED, log entry 52. -/
def abandonAhead (s : State) : State :=
  match s.txn.ahead with
  | some a => setAhead none (if a.stage = 1 then s else appendLog (entryOf s a.slot a.mirrored .unmarked) s)
  | none => s
/-- Leaving LIVE ends OPEN and COMMITTING Takes without effect (R94). DEDUCED, log entry 52. -/
def takesLeaveLive (s0 : State) : State :=
  let s := abandonAhead s0
  [0, 1, 2, 3].foldl (fun t k =>
    if slotState t k = slotOpen then cutTake k 2 t
    else if slotState t k = slotCommitting then freeSlot k t else t) s

/-- MIRRORED_ENTRY_DURABLE (R90, R91, R424): on the Stand-in, the oldest mirrored entry is durable, or cannot be
made so (`ok` false) and TXN reports FAILED. DEDUCED, log entry 51. -/
def mirroredEntryDurable (ok : Bool) (s : State) : State × Option Nat :=
  match s.txn.arriving with
  | [] => (s, none)
  | e :: rest =>
    let s1 := { s with txn := { s.txn with arriving := rest } }
    if ok then
      let s2 := appendLog { e with mark := .marked } s1
      ({ s2 with txn := { s2.txn with held := s2.txn.held ++ [(e, s.clap.cycles)], nextId := max s2.txn.nextId (e.takeId + 1) } }, some e.takeId)
    else (setHealth 2 2 s1, none)

end Sys2Proof.Machine
end

