-- ==== Sys2Proof/Machine/Wire.lean ====
section
/-! DEFINITION. The mirror's frames as bytes (R422, R423): records, headers, session key, nonces and tags. -/

namespace Sys2Proof.Machine

open Sys2Proof

/-! ### Records (R423) -/

/-- A length padded to eight bytes. -/
def pad8 (n : Nat) : Nat := (n + 7) / 8 * 8
/-- Bytes that pad `n` bytes to eight. -/
def padTo8 (n : Nat) : List Nat := List.replicate (pad8 n - n) 0
/-- A record: TYPE, the length of its body, and the body, padded. -/
def recordOf (typ : Nat) (body : List Nat) : List Nat :=
  bytesLE 2 typ ++ [0, 0] ++ bytesLE 4 body.length ++ body ++ padTo8 body.length
/-- The body of CURTAIN. -/
def curtainBody (c : CurtainRec) : List Nat :=
  bytesLE 4 c.publishedRound ++ bytesLE 4 c.roundNumber ++ bytesLE 4 c.nextSequence ++ bytesLE 4 c.nextTakeId ++
    bytesLE 8 c.t1 ++ bytesLE 8 c.t3 ++ bytesLE 8 c.t4 ++ c.reelHash.flatMap (bytesLE 4) ++
    [ofBool c.handover, c.quality, c.health] ++ List.replicate 13 0
/-- The body of LOOP_STATE. -/
def loopBody (r : LoopRec) : List Nat :=
  bytesLE 2 r.loop ++ [ofBool r.resume + 2 * ofBool r.closing + 4 * ofBool r.injecting, 0] ++ bytesLE 4 r.index ++
    [r.e1, r.e2, r.e3, r.u1, r.u2, r.u3, r.yPrev, r.posPrev].flatMap (fun x => bytesLE 8 x.toNat) ++
    bytesLE 4 r.sample.toNat ++ bytesLE 4 r.made ++ bytesLE 4 r.reg ++ [0, 0, 0, 0]
/-- An item of the Carousel. DESIGN CHOICE, log entry 117. -/
def itemBytes (i : CarItem) : List Nat :=
  [i.kind] ++ bytesLE 3 i.index ++ bytesLE 4 i.value ++ [i.bits, i.variety] ++ List.replicate 6 0
/-- A sample of LIO_SAMPLES. -/
def sampleBytes (x : LioSample) : List Nat :=
  bytesLE 2 x.channel ++ bytesLE 2 x.reason ++ bytesLE 4 x.value.toNat ++ bytesLE 8 x.stamp
/-- The header of a plan in a BULK record. -/
def planBytes (p : Plan) : List Nat :=
  bytesLE 4 p.round ++ [p.status, p.cause] ++ bytesLE 2 p.iterations ++ bytesLE 4 p.advance ++ bytesLE 4 p.sourceRound ++
    bytesLE 8 p.planStart ++ bytesLE 8 p.stamp ++ bytesLE 8 p.publishTick ++
    [p.thetaP, p.thetaD, p.mu].flatMap (fun x => bytesLE 8 x.toNat) ++ bytesLE 4 p.perturbed ++ bytesLE 4 p.wrongSign
/-- Item kind, item offset and data of a BULK record. DESIGN CHOICE, log entry 117. -/
def bulkData : BulkItem → Nat × Nat × List Nat
  | .loop r => (1, 0, loopBody r)
  | .samples l first v => (2, first, bytesLE 4 l ++ v.flatMap (fun x => bytesLE 4 x.toNat))
  | .car items => (3, 0, items.flatMap itemBytes)
  | .exchange n k => (4, 0, bytesLE 4 n ++ bytesLE 4 k)
  | .ringIndex r k => (5, 0, bytesLE 4 r ++ bytesLE 4 k)
  | .plan p => (6, 0, planBytes p)
  | .planValues first v => (7, first, v.flatMap (fun x => bytesLE 8 x.toNat))
  | .takeEntry e => (8, 0, entryBytes e ++ e.chain)
  | .done => (9, 0, [])
/-- A record's bytes. -/
def recordBytes : MirrorRecord → List Nat
  | .curtain c => recordOf 0x0001 (curtainBody c)
  | .takeApply id => recordOf 0x0002 (bytesLE 4 id)
  | .takeEntry e => recordOf 0x0003 (entryBytes e)
  | .loop r => recordOf 0x0004 (loopBody r)
  | .scan x => recordOf 0x0005 ([x.task, 0, 0, 0] ++ bytesLE 4 x.items.length ++ x.items.flatMap itemBytes)
  | .keyed i => recordOf 0x0006 (itemBytes i)
  | .lio l => recordOf 0x0007 (bytesLE 4 l.length ++ l.flatMap sampleBytes)
  | .exchange n k => recordOf 0x0008 (bytesLE 2 n ++ [0, 0] ++ bytesLE 4 k)
  | .ringIndex r k => recordOf 0x0009 ([r, 0, 0, 0] ++ bytesLE 4 k)
  | .round r => recordOf 0x000A (bytesLE 4 r.round ++ [r.status, r.cause, 0, 0] ++ bytesLE 8 r.planStart ++ bytesLE 4 r.crc ++
      [0, 0, 0, 0])
  | .point i p => recordOf 0x000B (bytesLE 4 i ++ (pointWords p).flatMap (bytesLE 4))
  | .command u op a b c => recordOf 0x000C ([u, op, 0, 0] ++ bytesLE 4 a ++ bytesLE 4 b ++ bytesLE 4 c)
  | .bulk b =>
    let (kind, offset, data) := bulkData b
    recordOf 0x0100 ([kind, 0, 0, 0] ++ bytesLE 4 offset ++ data)
/-- Bytes of a record. -/
def recordSize (r : MirrorRecord) : Nat := (recordBytes r).length

/-! ### Frames, session key, nonces and tags (R422) -/

/-- A mirror frame's header; KIND is 1 DELTA or 2 RETURN. -/
def mirrorHeader (kind index count tick sender epoch returns : Nat) : List Nat :=
  [0x57, 0x4E, 0x4D, 0x52, 1, kind, index, count] ++ bytesLE 8 tick ++ bytesLE 8 sender ++ bytesLE 4 epoch ++
    List.replicate 12 0 ++ bytesLE 8 returns
/-- The session key of a Lead and a Stand-in, from their serial numbers and epochs. -/
def mirrorKey (s : State) (lead standIn leadEpoch standInEpoch : Nat) : List Nat :=
  hkdf384 (List.replicate 48 0) (keyMaterial s 5 ((s.cfg.spotlight.getD {}).pairKeyId))
    ([0x57, 0x4E, 0x4D, 0x52] ++ bytesLE 8 lead ++ bytesLE 8 standIn ++ bytesLE 4 leadEpoch ++ bytesLE 4 standInEpoch) 32
/-- The nonce of a DELTA frame. -/
def deltaNonce (index tick : Nat) : List Nat := bytesLE 4 (1 + 256 * index) ++ bytesLE 8 tick
/-- The nonce of a RETURN frame. -/
def returnNonce (count : Nat) : List Nat := bytesLE 4 2 ++ bytesLE 8 count
/-- The tag of a DELTA frame under a session key: its header and records are the associated data. -/
def deltaTag (key : List Nat) (f : MirrorFrame) : List Nat :=
  gcmTag key (deltaNonce f.index f.tick)
    (mirrorHeader 1 f.index f.count f.tick f.sender f.epoch 0 ++ f.records.flatMap recordBytes) []
/-- The records of a RETURN frame: TAKE_DURABLE, or STATUS. -/
def returnBody (f : ReturnFrame) : List Nat :=
  match f.takeDurable with
  | some id => recordOf 0x0202 (bytesLE 4 id)
  | none => recordOf 0x0201 ([f.standInState, f.health, ofBool f.ready, 0] ++ bytesLE 4 f.mismatches ++ bytesLE 8 f.t2)
/-- The tag of a RETURN frame of a sender. -/
def returnTag (key : List Nat) (sender epoch : Nat) (f : ReturnFrame) : List Nat :=
  gcmTag key (returnNonce f.count) (mirrorHeader 2 0 1 f.tick sender epoch f.count ++ returnBody f) []
/-- The tag of the RETURN frame that carries a JOIN_REQUEST. -/
def joinTag (key : List Nat) (j : JoinRequest) : List Nat :=
  gcmTag key (returnNonce j.count) (mirrorHeader 2 0 1 j.tick j.sender j.epoch j.count ++
    recordOf 0x0203 (j.reelHash.flatMap (bytesLE 4) ++ bytesLE 4 j.nextTakeId)) []
/-- The session key of this module as Lead with its Stand-in. -/
def leadKey (s : State) : List Nat := mirrorKey s (serialNumber s) s.spot.peerSerial (getF s F.CLAP.POWER_EPOCH) s.spot.peerEpoch
/-- The session key of this module as Stand-in of a Lead. -/
def standInKey (s : State) (lead leadEpoch : Nat) : List Nat :=
  mirrorKey s lead (serialNumber s) leadEpoch (getF s F.CLAP.POWER_EPOCH)
/-- The pair key is in the key store. -/
def hasPairKey (s : State) : Bool := hasKey s 5 ((s.cfg.spotlight.getD {}).pairKeyId) && !s.sec.pairKeyLost
/-- A DELTA frame's tag verifies on the Stand-in. -/
def deltaGenuine (s : State) (f : MirrorFrame) : Bool := hasPairKey s && f.tag == deltaTag (standInKey s f.sender f.epoch) f
/-- A RETURN frame's tag verifies on the Lead. -/
def returnGenuine (s : State) (f : ReturnFrame) : Bool :=
  hasPairKey s && f.tag == returnTag (leadKey s) s.spot.peerSerial s.spot.peerEpoch f
/-- A JOIN_REQUEST's tag verifies on the Lead. -/
def joinGenuine (s : State) (j : JoinRequest) : Bool :=
  hasPairKey s && j.tag == joinTag (mirrorKey s (serialNumber s) j.sender (getF s F.CLAP.POWER_EPOCH) j.epoch) j
/-- A RETURN frame of this module, sealed for the Lead that its last delta came from. -/
def sealReturn (s : State) (f : ReturnFrame) : ReturnFrame :=
  { f with tag := returnTag (standInKey s s.spot.peerSerial s.spot.peerEpoch) (serialNumber s) (getF s F.CLAP.POWER_EPOCH) f }

/-! ### A delta in frames (R422 to R424) -/

/-- The bytes of records that a frame of 9,000 bytes holds. -/
def frameRoom : Nat := 9000 - 48 - 16
/-- Records packed in their order into frames; `cur` is the frame being filled, in reverse, of `n` bytes. DESIGN CHOICE, log entry 117. -/
def packRecords (cur : List MirrorRecord) (n : Nat) : List MirrorRecord → List (List MirrorRecord)
  | [] => if cur.isEmpty then [] else [cur.reverse]
  | r :: rs =>
    let k := recordSize r
    if n + k ≤ frameRoom || cur.isEmpty then packRecords (r :: cur) (n + k) rs
    else cur.reverse :: packRecords [r] k rs
/-- The records of frame 0. -/
def headRecords (d : MirrorDelta) : List MirrorRecord :=
  [.curtain d.curtain] ++ (d.takeApply.map MirrorRecord.takeApply).toList ++ (d.round.map MirrorRecord.round).toList
/-- The records of the other frames that are never deferred. -/
def bodyRecords (d : MirrorDelta) : List MirrorRecord :=
  d.loops.map .loop ++ d.scans.map .scan ++ d.keyed.map .keyed ++ (if d.lio.isEmpty then [] else [.lio d.lio]) ++
    d.exchanges.map (fun e => .exchange e.1 e.2) ++ d.rings.map (fun e => .ringIndex e.1 e.2) ++
    d.points.map (fun e => .point e.1 e.2) ++ d.commands.map (fun c => .command c.1 c.2.1 c.2.2.1 c.2.2.2.1 c.2.2.2.2) ++
    d.takeEntries.map .takeEntry
/-- All records of a delta. -/
def deltaRecords (d : MirrorDelta) : List MirrorRecord := headRecords d ++ bodyRecords d ++ d.bulk.map .bulk
/-- Bytes of records in a delta. DEDUCED, log entry 123. -/
def deltaBytes (d : MirrorDelta) : Nat := ((deltaRecords d).map recordSize).foldl (· + ·) 0
/-- The frames of a delta, sealed under a session key. DESIGN CHOICE, log entry 117. -/
def deltaFrames (key : List Nat) (d : MirrorDelta) : List MirrorFrame :=
  let groups := headRecords d :: packRecords [] 0 (bodyRecords d ++ d.bulk.map .bulk)
  (groups.zip (List.range groups.length)).map (fun g =>
    let f : MirrorFrame := { index := g.2, count := groups.length, tick := d.tick, sender := d.sender, epoch := d.epoch, records := g.1, tag := [] }
    { f with tag := deltaTag key f })
/-- Take a record into a delta. -/
def addRecord (d : MirrorDelta) : MirrorRecord → MirrorDelta
  | .curtain c => { d with curtain := c }
  | .takeApply id => { d with takeApply := some id }
  | .takeEntry e => { d with takeEntries := d.takeEntries ++ [e] }
  | .loop r => { d with loops := d.loops ++ [r] }
  | .scan x => { d with scans := d.scans ++ [x] }
  | .keyed i => { d with keyed := d.keyed ++ [i] }
  | .lio l => { d with lio := d.lio ++ l }
  | .exchange n k => { d with exchanges := d.exchanges ++ [(n, k)] }
  | .ringIndex r k => { d with rings := d.rings ++ [(r, k)] }
  | .round r => { d with round := some r }
  | .point i p => { d with points := d.points ++ [(i, p)] }
  | .command u op a b c => { d with commands := d.commands ++ [(u, op, a, b, c)] }
  | .bulk b => { d with bulk := d.bulk ++ [b], lastBulk := d.lastBulk || b == .done }
/-- The delta that frames carry, its head frame received at `rxNs`; none without a head frame. -/
def gatherFrames (fs : List MirrorFrame) (rxNs : Nat) : Option MirrorDelta :=
  match fs.find? (fun f => f.index == 0) with
  | none => none
  | some h => some ((fs.filter (fun f => f.tick == h.tick)).foldl (fun d f => f.records.foldl addRecord d)
      { tick := h.tick, sender := h.sender, epoch := h.epoch, rxNs := rxNs })

end Sys2Proof.Machine
end

