-- ==== Sys2Proof/Machine/Mirror.lean ====
section
/-! DEFINITION. The mirror's records (R420, R423, R426, R431): what a Lead puts into a delta, and what a Stand-in does
with each record. -/

namespace Sys2Proof.Machine

open Sys2Proof

/-- Update SPOT's part. -/
def updSpot (f : SpotPart → SpotPart) (s : State) : State := { s with spot := f s.spot }
/-- The Reel of a pair (R410). -/
def pairReel (s : State) : Bool :=
  match s.cfg.spotlight with
  | some c => !c.witness
  | none => false
/-- The Stand-in's Reel differs from the Lead's (R431). DEDUCED, log entry 126. -/
def exchanging (s : State) : Bool := flag s F.SPOT.STATUS_PROGRAM_EXCHANGE

/-! ### Loops (R232) -/

/-- LOOP_STATE of loop `l`, its sample being the one at the index before the present one. -/
def loopRec (s : State) (l : Nat) : LoopRec :=
  let x := loopState s l
  let len := ((loopCfg s l).map LoopCfg.repLength).getD 0
  let at_ := (x.index + len - 1) % max len 1
  { loop := l, resume := x.resume, closing := x.closing, injecting := x.inj.isSome, index := x.index, e1 := x.e1, e2 := x.e2,
    e3 := x.e3, u1 := x.u1, u2 := x.u2, u3 := x.u3, yPrev := f32to64 x.yPrev, posPrev := x.posPrev.getD 0,
    sample := if len = 0 then 0 else repSample x at_, made := (x.inj.map Injection.made).getD 0,
    reg := (x.inj.map Injection.reg).getD 0 }
/-- Take a loop's state from its record. -/
def adoptLoop (r : LoopRec) (s : State) : State :=
  match loopCfg s r.loop with
  | none => s
  | some c =>
    let x := loopState s r.loop
    let at_ := (r.index + c.repLength - 1) % max c.repLength 1
    let inj : Option Injection := if r.injecting
      then some { profile := (x.inj.map Injection.profile).getD 0, made := r.made, reg := r.reg, begun := decide (r.made > 0) }
      else none
    putLoop r.loop { x with
      resume := r.resume, closing := r.closing, index := r.index, e1 := r.e1, e2 := r.e2, e3 := r.e3, u1 := r.u1, u2 := r.u2
      u3 := r.u3, yPrev := f64to32 r.yPrev, posPrev := if c.comp = 2 then some r.posPrev else x.posPrev, inj := inj
      rep := if c.comp = 1 then tablePut 0 x.rep at_ r.sample else x.rep } s
/-- Compare a loop with its record, and take the record's state (R232): the state, and whether they differ. -/
def compareLoop (r : LoopRec) (s : State) : State × Bool :=
  let own := loopRec s r.loop
  if (loopCfg s r.loop).isNone || own = r then (s, false)
  else
    (adoptLoop r (emit 0x090A r.loop (f64to32 r.yPrev).toNat (f64to32 own.yPrev).toNat
      (bumpF F.TRP.SHADOW_MISMATCH_COUNT 1 s)), true)

/-! ### The Carousel (R263, R264) -/

/-- State bits of a timer and a counter. -/
def timerBits (y : TimerState) : Nat := ofBool y.q + 2 * ofBool y.running + 4 * ofBool y.lastIn
/-- See timerBits. -/
def counterBits (y : CounterState) : Nat := ofBool y.q + 4 * ofBool y.lastIn
/-- The items that a scan writes, points first (R423). -/
def writeItems (w : CarWrites) : List CarItem :=
  w.points.map (fun e => { kind := 0, index := e.1, value := (e.2.getD 0).toNat }) ++
  w.flags.map (fun e => { kind := 1, index := e.1, value := ofBool (e.2.getD false) }) ++
  w.scratch.map (fun e => { kind := 2, index := e.1, value := (e.2.getD 0).toNat }) ++
  w.timers.map (fun e =>
    { kind := 3, index := e.1, value := (e.2.getD {}).elapsed, bits := timerBits (e.2.getD {}) }) ++
  w.counters.map (fun e =>
    { kind := 4, index := e.1, value := ofSigned 32 (e.2.getD {}).cv, bits := counterBits (e.2.getD {}) }) ++
  w.edges.map (fun e => { kind := 5, index := e.1, value := ofBool (e.2.getD false) })
/-- CAR_SCAN of the scan that task `t` publishes. -/
def carRec (s : State) (t : Nat) : Option CarScan :=
  (scanOf s t).map (fun x => { task := t, items := writeItems x.writes })
/-- CAR_KEYED of an item (R264): the instance's KEY, and its KIND or DIRECTION. -/
def keyedItem (s : State) (i : CarItem) : Option CarItem :=
  let l := logicSec s
  match i.kind with
  | 3 => (l.timers[i.index]?).map (fun c => { i with index := c.key, variety := c.kind })
  | 4 => (l.counters[i.index]?).map (fun c => { i with index := c.key, variety := ofBool c.down })
  | 5 => (l.edges[i.index]?).map (fun k => { i with index := k })
  | _ => none

/-- An item as some items hold it (R264). -/
def presentItem (x : CarItems) (i : CarItem) : CarItem :=
  match i.kind with
  | 1 => { i with value := ofBool (tableGet false x.flags i.index), bits := 0 }
  | 2 => { i with value := (tableGet 0 x.scratch i.index).toNat, bits := 0 }
  | 3 =>
    let y := tableGet {} x.timers i.index
    { i with value := y.elapsed, bits := timerBits y }
  | 4 =>
    let y := tableGet {} x.counters i.index
    { i with value := ofSigned 32 y.cv, bits := counterBits y }
  | 5 => { i with value := ofBool (tableGet false x.edges i.index), bits := 0 }
  | _ => i
/-- Every item that LOGIC declares, as it stands (R420). -/
def allItems (s : State) : List CarItem :=
  let l := logicSec s
  [(1, l.flagCount), (2, l.scratchCount), (3, l.timers.length), (4, l.counters.length), (5, l.edges.length)].flatMap (fun k =>
    (List.range k.2).map (fun i => presentItem s.car.items { kind := k.1, index := i, value := 0 }))

/-- Put the point a scan or loop of the Lead publishes in place of the Stand-in's own, with the stamp of tick S's snapshot. -/
def adoptPoint (u i stamp : Nat) (v : Word) (s : State) : State :=
  let s1 := sampleIn u i v stamp s
  { s1 with pimg := { s1.pimg with window := tablePut {} s1.pimg.window i (livePoint s1 i) } }
/-- Take one item of the Carousel; `stamp` is that of the snapshot that its scan reads. -/
def adoptItem (stamp : Nat) (i : CarItem) (s : State) : State :=
  let x := s.car.items
  let put := fun (y : CarItems) => { s with car := { s.car with items := y } }
  match i.kind with
  | 0 => adoptPoint 10 i.index stamp (BitVec.ofNat 32 i.value) s
  | 1 => put { x with flags := tablePut false x.flags i.index (i.value == 1) }
  | 2 => put { x with scratch := tablePut 0 x.scratch i.index (BitVec.ofNat 32 i.value) }
  | 3 =>
    let y : TimerState :=
      { elapsed := i.value, q := bitOf i.bits 0 == 1, running := bitOf i.bits 1 == 1, lastIn := bitOf i.bits 2 == 1 }
    put { x with timers := tablePut {} x.timers i.index y }
  | 4 =>
    let y : CounterState := { cv := toSigned 32 i.value, q := bitOf i.bits 0 == 1, lastIn := bitOf i.bits 2 == 1 }
    put { x with counters := tablePut {} x.counters i.index y }
  | _ => put { x with edges := tablePut false x.edges i.index (i.value == 1) }
/-- The first item of the Lead's scan that the Stand-in's lacks: its index, and 0 for a point, 1 for a flag or other. -/
def firstDifference (lead own : List CarItem) : Option (Nat × Nat) :=
  match lead.find? (fun i => !own.contains i), own.find? (fun i => !lead.contains i) with
  | some i, _ => some (i.index, if i.kind = 0 then 0 else 1)
  | none, some i => some (i.index, if i.kind = 0 then 0 else 1)
  | none, none => none
/-- The stamp of the snapshot that the scan of task `t` published at the latest Curtain has read. DEDUCED, log entry 86. -/
def scanStamp (s : State) (t : Nat) : Nat := tableGet (stampAt s s.tick.startNs) s.car.stamps t
/-- Undo one item of the Stand-in's own publication: it stands as before the Curtain. DEDUCED, log entry 86. -/
def undoItem (i : CarItem) (s : State) : State :=
  if i.kind = 0 then
    let p := tableGet {} s.spot.pointsBefore i.index
    { s with pimg := { s.pimg with
        live := tablePut {} s.pimg.live i.index p, window := tablePut {} s.pimg.window i.index p } }
  else adoptItem 0 (presentItem s.spot.itemsBefore i) s
/-- Take the Lead's values of a task's scan in place of the Stand-in's own ones. DEDUCED, log entry 86. -/
def takeScan (task : Nat) (lead own : List CarItem) (s : State) : State :=
  let extra := own.filter (fun i => !lead.any (fun x => x.kind == i.kind && x.index == i.index))
  lead.foldl (fun t x => adoptItem (scanStamp s task) x t) (extra.foldl (fun t x => undoItem x t) s)
/-- Compare what the two sides have published of a task, and take the Lead's values where they differ (R263). A scan that one
side alone has published is a difference too. DEDUCED, log entries 86 and 123. -/
def compareTask (task : Nat) (lead own : Option (List CarItem)) (s : State) : State × Bool :=
  let a := lead.getD []
  let b := own.getD []
  if lead.isSome == own.isSome && (firstDifference a b).isNone then (s, false)
  else
    let (i, k) := (firstDifference a b).getD (0, 0)
    (takeScan task a b (emit 0x0A03 task i k (bumpF F.CAR.SHADOW_MISMATCH_COUNT 1 s)), true)
/-- Compare the scans of a delta with the Stand-in's own, by task: the state, and how many differ. -/
def compareScans (l : List CarScan) (s : State) : State × Nat :=
  let items := fun (x : List CarScan) (t : Nat) => (x.find? (fun y => y.task == t)).map CarScan.items
  [0, 1, 2, 3].foldl (fun (a : State × Nat) t =>
    let (u, b) := compareTask t (items l t) (items s.spot.scansNow t) a.1
    (u, a.2 + ofBool b)) (s, 0)

/-- The own instance that a keyed item matches (R264). DEDUCED, log entry 85. -/
def matchKeyed (s : State) (i : CarItem) : Option Nat :=
  let l := logicSec s
  match i.kind with
  | 3 => l.timers.findIdx? (fun c => c.key == i.index && c.kind == i.variety)
  | 4 => l.counters.findIdx? (fun c => c.key == i.index && ofBool c.down == i.variety)
  | 5 => l.edges.findIdx? (fun k => k == i.index)
  | _ => none
/-- Store a keyed item on the instance that matches it. DEDUCED, log entry 85. -/
def adoptKeyed (i : CarItem) (s : State) : State :=
  match matchKeyed s i with
  | none => s
  | some n =>
    let s1 := adoptItem 0 { i with index := n } s
    let k := i.kind * 2 ^ 24 + n
    if s1.car.matched.contains k then s1 else { s1 with car := { s1.car with matched := s1.car.matched ++ [k] } }

/-! ### CRC32C of a plan (R423) -/

/-- CRC32C of a plan's values, row by row, each as eight little-endian bytes. DEDUCED, log entry 123. -/
def planCrc (s : State) (p : Plan) : Nat :=
  crc32c ((List.range (modelSec s).rowCount).flatMap (fun r =>
    let v := (tableGet 0 p.values r).toNat
    (List.range 8).map (fun j => v / 2 ^ (8 * j) % 256)))

/-! ### The delta (R420, R423, R424) -/

/-- The entry that the write-ahead mirrors in its second step (R90). -/
def entryToMirror (s : State) : List LogEntry :=
  match s.txn.ahead with
  | some a => if a.stage = 2 then [entryOf s a.slot a.mirrored .unmarked] else []
  | none => []
/-- The exchange number last consumed for each station that has one (R374). -/
def consumedNumbers (s : State) : List (Nat × Nat) :=
  ((stationList s).filter (fun c => (stnState s c.station).consumed != 0)).map (fun c => (c.station, (stnState s c.station).latest))
/-- The Carousel items that BULK carries. -/
def bulkCars (s : State) : List CarItem :=
  if exchanging s then (allItems s).filterMap (keyedItem s) else allItems s
/-- The numbers 0, `n`, 2`n` … below `len`. -/
def cuts (n len : Nat) : List Nat := (List.range ((len + n - 1) / n)).map (· * n)
/-- What the BULK records of a join carry (R420): loops, Carousel state, exchange numbers, ring indices, plan, and the
marked entries of the Splice log after the Stand-in's last Take ID. -/
def bulkNames (s : State) (afterTake : Nat) : List BulkName :=
  (loopsSec s).loops.flatMap (fun c => .loop c.loop :: (cuts 2047 c.repLength).map (.samples c.loop)) ++
  (cuts 512 (bulkCars s).length).map .cars ++
  (consumedNumbers s).map (fun e => .exchange e.1) ++ (List.range 16).map .ringIndex ++
  (if s.jug.front.isSome && s.spot.bulkPlan then [.plan] else []) ++
  ((s.txn.log.filter (fun e => e.mark == .marked && decide (e.takeId > afterTake))).map (fun e => .takeEntry e.takeId)) ++ [.done]
/-- A plan's values by row. -/
def planRows (s : State) (p : Plan) : List F64 := (List.range (modelSec s).rowCount).map (tableGet 0 p.values)
/-- A named item with its value as of this Curtain, and what it leaves to be sent after it. -/
def bulkItem (s : State) : BulkName → Option BulkItem × List BulkName
  | .loop l => (some (.loop (loopRec s l)), [])
  | .samples l first =>
    let n := ((loopCfg s l).map LoopCfg.repLength).getD 0
    (some (.samples l first ((List.range (min 2047 (n - first))).map (fun k => repSample (loopState s l) (first + k)))), [])
  | .cars first => (some (.car (((bulkCars s).drop first).take 512)), [])
  | .exchange n => ((consumedNumbers s).find? (fun e => e.1 == n) |>.map (fun e => .exchange e.1 e.2), [])
  | .ringIndex r => (some (.ringIndex r (getF s (F.HOST.NEXT_INDEX r))), [])
  | .plan =>
    match s.jug.front with
    | none => (none, [])
    | some p =>
      let rows := planRows s p
      (some (.plan { p with values := [] }), (cuts 1024 rows.length).map (fun k => .planValues k ((rows.drop k).take 1024)))
  | .planValues first v => (some (.planValues first v), [])
  | .takeEntry id => (s.txn.log.find? (fun e => e.takeId == id && e.mark == .marked) |>.map .takeEntry, [])
  | .done => (some .done, [])
/-- The BULK items that a delta still holds: in their order, while its records stay within 131,072 bytes and 16 frames
(R424); `used` bytes are taken, `frames` frames begun and `fill` bytes of the last one filled. What does not fit is left. -/
def fitBulk (s : State) : Nat → Nat → Nat → Nat → List BulkName → List BulkItem × List BulkName
  | 0, _, _, _, left => ([], left)
  | _, _, _, _, [] => ([], [])
  | k + 1, used, frames, fill, n :: ns =>
    match bulkItem s n with
    | (none, more) => fitBulk s k used frames fill (more ++ ns)
    | (some b, more) =>
      let size := recordSize (.bulk b)
      let joins := decide (fill + size ≤ frameRoom)
      if used + size > 131072 || (!joins && frames ≥ 15) then ([], n :: ns)
      else
        let (bs, left) := fitBulk s k (used + size) (if joins then frames else frames + 1) (if joins then fill + size else size)
          (more ++ ns)
        (b :: bs, left)
/-- The ROUND record of the plan published at this Curtain. -/
def roundRec (s : State) : Option RoundRec :=
  if !s.spot.roundNow then none
  else (s.jug.front).map (fun p =>
    { round := p.round, status := p.status, cause := p.cause, planStart := p.planStart, crc := planCrc s p })
/-- The delta of the Curtain that has just fallen, without BULK records. -/
def deltaNow (handover : Bool) (s : State) : MirrorDelta :=
  let x := s.spot
  { tick := s.tick.number, sender := serialNumber s, epoch := getF s F.CLAP.POWER_EPOCH
    curtain := {
      publishedRound := getF s F.JUG.PUBLISHED_ROUND, roundNumber := getF s F.JUG.ROUND_NUMBER
      nextSequence := getF s F.CONT.NEXT_SEQUENCE, nextTakeId := getF s F.TXN.NEXT_TAKE_ID
      t1 := s.tick.startNs + getF s F.TICK.CONFIG_CURTAIN_US * 1000 + 1000, t3 := x.t3, t4 := x.t4
      reelHash := s.dev.reelHash.take 2, handover := handover, quality := baseQuality s 1, health := moduleHealth s }
    takeApply := x.takeNow, round := roundRec s, takeEntries := entryToMirror s
    loops := x.loopsNow.map (loopRec s), scans := if exchanging s then [] else x.scansNow
    keyed := if exchanging s then x.keyedNow else [], lio := x.lioMirror
    exchanges := consumedNumbers s
    rings := (List.range 16).map (fun r => (r, getF s (F.HOST.NEXT_INDEX r)))
    points := if exchanging s then x.pointsNow.map (fun i => (i, windowPoint s i)) else []
    commands := x.commandsNow.map (fun c => (9, c.1, c.2.1, c.2.2, 0)) }
/-- The delta with the BULK items that fit into it, and those that are left. -/
def deltaWithBulk (handover : Bool) (s : State) : MirrorDelta × List BulkName :=
  let d := deltaNow handover s
  let names := if s.spot.bulkDue then bulkNames s s.spot.bulkAfter else s.spot.bulkLeft
  let groups := packRecords [] 0 (bodyRecords d)
  let fill := ((groups.getLast?.getD []).map recordSize).foldl (· + ·) 0
  let (bulk, left) := fitBulk s (2 * names.length + 64) (deltaBytes d) groups.length fill names
  ({ d with bulk := bulk, lastBulk := bulk.contains .done }, left)
/-- A Lead with a Stand-in, or one that joins, sends the delta of the Curtain (R420, R424); what it carries is
gathered anew for the next. -/
def sendDelta (handover : Bool) (s : State) : State :=
  let s1 := if role s == 1 && s.spot.sending then
      let (d, left) := deltaWithBulk handover s
      setF F.SPOT.DELTA_BYTES (max (getF s F.SPOT.DELTA_BYTES) (deltaBytes d))
        (setF F.SPOT.LAST_TICK_LO (lo32 d.tick) (setF F.SPOT.LAST_TICK_HI (hi32 d.tick)
          (updSpot (fun x => { x with sentDelta := deltaFrames (leadKey s) d, bulkDue := false, bulkLeft := left }) s)))
    else s
  updSpot (fun x => { x with lioMirror := [] }) s1

/-! ### A Stand-in takes records (R425, R431) -/

/-- A BULK item. DEDUCED, log entries 87 and 119. -/
def adoptBulk (b : BulkItem) (s : State) : State :=
  match b with
  | .loop r => if exchanging s then s else adoptLoop r s
  | .samples l first v =>
    if exchanging s || (loopCfg s l).isNone then s
    else
      let x := loopState s l
      putLoop l { x with rep := (v.zip (List.range v.length)).foldl (fun m e => tablePut 0 m (first + e.2) e.1) x.rep } s
  | .car items => items.foldl (fun t i => if exchanging s then adoptKeyed i t else adoptItem 0 i t) s
  | .exchange n k => mirrorExchange n k s
  | .ringIndex r i => updSpot (fun x => { x with mirrored := { x.mirrored with rings := tablePut 0 x.mirrored.rings r i } }) s
  | .plan p =>
    let s1 := updSpot (fun x => { x with mirrored := { x.mirrored with plan := some p } }) s
    { s1 with jug := { s1.jug with bulkPlan := some p } }
  | .planValues first v =>
    let put := fun (p : Plan) =>
      { p with values := (v.zip (List.range v.length)).foldl (fun m e => tablePut 0 m (first + e.2) e.1) p.values }
    let s1 := updSpot (fun x => { x with mirrored := { x.mirrored with plan := x.mirrored.plan.map put } }) s
    { s1 with jug := { s1.jug with bulkPlan := s1.jug.bulkPlan.map put } }
  | .done => s
  | .takeEntry e =>
    if s.txn.log.any (fun x => x.takeId == e.takeId) || exchanging s then s
    else
      let s1 := appendLog e (applyWrites (stampAt s s.tick.startNs) e.writes s)
      { s1 with txn := { s1.txn with held := s1.txn.held ++ [(e, s.clap.cycles)] } }
/-- The durable entry of a Take on the Stand-in. -/
def durableEntry (s : State) (id : Nat) : Option LogEntry :=
  s.txn.log.find? (fun e => e.mark == .marked && e.takeId == id)
/-- TAKE_APPLY: the Take that the Lead applied at its Curtain completes the Stand-in's publication (R425). The Lead applies
Takes in Take ID order (R92), so neither it nor an earlier one is held any longer. -/
def mirrorTake (id : Nat) (s : State) : State :=
  match durableEntry s id with
  | none => s
  | some e =>
    let s1 := { s with txn := { s.txn with held := s.txn.held.filter (fun x => decide (id < x.1.takeId)) } }
    let s2 := takeApplied id e.writes.length (applyWrites (stampAt s s.tick.startNs) e.writes s1)
    (writtenPoints s e.writes).foldl (fun t i =>
      { t with pimg := { t.pimg with window := tablePut {} t.pimg.window i (livePoint t i) } }) s2
/-- UNIT_COMMAND: a TRP command takes effect here as on the Lead; captures stay with the Lead (R232, R237). -/
def mirrorCommand (c : Nat × Nat × Nat × Nat × Nat) (s : State) : State :=
  if c.1 = 9 && (c.2.1 == 1 || c.2.1 == 2 || c.2.1 == 5) then trpEffect (c.2.1, c.2.2.1, c.2.2.2.1) s else s
/-- Count mismatches over the window of 8,000 ticks (R426). -/
def countMismatches (n : Nat) (s : State) : State :=
  let t := s.tick.number
  let l := List.replicate n t ++ s.spot.mismatchTicks.filter (fun k => decide (k + 8000 > t))
  setF F.SPOT.MISMATCH_COUNT l.length (updSpot (fun x => { x with mismatchTicks := l }) s)

end Sys2Proof.Machine
end

