-- ==== Sys2Proof/Machine/Live.lean ====
section
/-! DEFINITION. The device state and the Spotlight role: entering LIVE with every unit, leaving it, FAULT_SAFE, and
the change between Lead and Stand-in (R43, R49, R50, R76, R94, R410, R416, R417, R428). -/

namespace Sys2Proof.Machine

open Sys2Proof

/-! ### State and role -/

/-- Move to a device state: DEV.STATE, STATE_CHANGED and cause 20 (R50, R499, R516). -/
def setState (d : DevState) (s : State) : State :=
  if s.dev.state = d then s
  else
    let s1 := setF F.DEV.STATE_STATE (devCode d) { s with dev := { s.dev with state := d } }
    raiseCause 20 (emit 0x0001 (devCode s.dev.state) (devCode d) 0 s1)
/-- Set SPOT.STATUS.ROLE; a change raises cause 21 (R499). -/
def setRole (r : Nat) (s : State) : State :=
  if role s = r then s else raiseCause 21 (setF F.SPOT.STATUS_ROLE r s)
/-- Release ON_AIR. -/
def releaseAir (s : State) : State := setF F.SPOT.INTERLOCK_ON_AIR 0 s
/-- Raise ON_AIR: the hardware gate of R416 lets it rise only with the confirmed grant high and the peer off air. DEDUCED, log entry 31. -/
def raiseAir (s : State) : State :=
  if flag s F.SPOT.INTERLOCK_GRANT && !flag s F.SPOT.INTERLOCK_PEER_ON_AIR then setF F.SPOT.INTERLOCK_ON_AIR 1 s else s

/-- LOCK_DOMAIN is locked. -/
def lockDomainLocked (s : State) : Bool := getF s (F.CLAP.BASE_STATE s.cfg.start.lockDomain) == 2
/-- The time condition (R75). -/
def timeMet (s : State) : Bool :=
  match s.cfg.start.timePolicy with
  | 0 => true
  | 1 => lockDomainLocked s
  | _ => lockDomainLocked s || s.dev.lockWaited
/-- The time condition and, under START_MODE HOST, the GO command (R75). -/
def startReady (s : State) : Bool := timeMet s && (s.cfg.start.startMode == 0 || s.dev.goAccepted)
/-- READY of a controller (R417, R431). DEDUCED, log entry 120. -/
def ready (s : State) : Bool :=
  pairReel s &&
    (if inState s .armed then startReady s
     else if inState s .live && role s == 1 then moduleHealth s != 2
     else if inState s .live && role s == 2 then
       moduleHealth s != 2 &&
         (if exchanging s then s.spot.bulkDone else getF s F.SPOT.STATUS_STANDIN_STATE == 3)
     else false)
/-- A LEAD with a healthy Stand-in (R78, R417). -/
def healthyStandIn (s : State) : Bool := standInPaired s && s.spot.peerReady

/-! ### Entering LIVE (R76, R420) -/

/-- Points of KIND 4 that a replayed Take wrote (R73). -/
def replayPoints (stamp : Nat) (s : State) : State :=
  s.txn.values.foldl (fun t e =>
    if e.1 / 2 ^ 24 = 4 then
      match e.2 with
      | some v => takeWritePoint (e.1 % 2 ^ 24) v stamp t
      | none => t
    else t) s
/-- The tick sequencer and the process image at the first tick. -/
def startTicks (number startNs : Nat) (s : State) : State :=
  let cycle := (nowNs s 1 - startNs) / 2
  let s1 := setF F.TICK.STATUS_RUNNING 1 { s with tick := { number := number, startNs := startNs, cycle := cycle } }
  let stamp := stampAt s1 startNs
  setF F.PIMG.STATUS_RUNNING 1 (replayPoints stamp (initImage stamp s1))
/-- Every unit at the first tick: SOLO, LEAD or WITNESS, or as Stand-in. -/
def startUnits (standIn : Bool) (s : State) : State :=
  let stamp := stampAt s s.tick.startNs
  let s1 := setF F.LIO.STATUS_RUNNING (ofBool (s.cfg.localIo.isSome && unitRuns s 5)) s
  let s2 := pulseGoLive s1
  let s3 := setF F.TRP.STATUS_RUNNING (ofBool (s2.cfg.loops.isSome && unitRuns s2 9)) (trpGoLive s2)
  let s4 := setF F.CAR.STATUS_RUNNING (ofBool (s3.cfg.logic.isSome && unitRuns s3 10)) (carGoLive s3)
  let s5 := netGoLive stamp (jugReset s4)
  let s6 := if s5.cfg.stations.isSome && unitRuns s5 16 then stnGoLive (!standIn) s5 else s5
  let s7 := canGoLive standIn s6
  batGoLive (botGoLive stamp (boeGoLive stamp s7))
/-- Enter LIVE in a role, `number` and `startNs` being those of the first tick. A LEAD goes on air, and the recorder
flushes at the change (R416, R465). DEDUCED, log entry 31. -/
def enterLive (r number startNs : Nat) (s : State) : State :=
  let t := startUnits (r == 2) (startTicks number startNs (setRole r (setState .live s)))
  if r = 1 then triggerFlush 3 (emit 0x1201 0 0 0 (raiseAir t)) else t

/-! ### Leaving LIVE (R43, R94) -/

/-- A FAULTED unit stays so until the module leaves LIVE (R43). DEDUCED, log entries 33 and 45. -/
def clearFaulted (s : State) : State :=
  (List.range 24).foldl (fun t u =>
    if bitF t F.TICK.FAULTED u then
      setHealth u 0 (setF (F.TICK.UNIT_STATE_RUN u) 0 (setF (F.TICK.UNIT_STATE_FAULTED u) 0 (setBit F.TICK.FAULTED u false t)))
    else t) s
/-- PWR's HEALTH: FAILED from the 85 °C threshold on, DEGRADED while warm, and under SUPPLY_MODE DUAL while an input is
low (R521, R528). -/
def supplyHealth (s : State) : State :=
  setHealth 23 (if flag s F.PWR.STATUS_TEMP_FAILED then 2
    else if flag s F.PWR.STATUS_TEMP_HIGH ||
      (flag s F.PWR.CONFIG_SUPPLY_MODE && !(flag s F.PWR.STATUS_INPUT_A_GOOD && flag s F.PWR.STATUS_INPUT_B_GOOD)) then 1 else 0) s
/-- What every exit from LIVE ends: ticks, Takes, units, the role. -/
def leaveLive (s : State) : State :=
  if !inState s .live then s
  else
    let s1 := takesLeaveLive s
    let s2 := setF F.TICK.STATUS_RUNNING 0 (setF F.PIMG.STATUS_RUNNING 0 (setF F.LIO.STATUS_RUNNING 0
      (setF F.TRP.STATUS_RUNNING 0 (setF F.CAR.STATUS_RUNNING 0 s1))))
    let s3 := botStop (boeStop (lrpOff (canStop (stnStop s2))))
    let s4 := dropRound (carStop (trpStop s3))
    let s5 := setF F.SPOT.STATUS_PEER_PRESENT 0 (setF F.SPOT.STATUS_STANDIN_STATE 0 (setF F.SPOT.STATUS_PROGRAM_EXCHANGE 0 s4))
    supplyHealth <| setF F.PWR.STATUS_TEMP_FAILED 0 <| setRole 7 (setHealth 19 0 <| setHealth 9 0 <| clearFaulted (releaseAir { s5 with
      tick := { s5.tick with outbox := [], staging := [], expected := [], forceFault := [], moves := [] }
      spot := { s5.spot with joining := false, sending := false, handover := false } }))
/-- FAULT_SAFE (R19, R43): ON_AIR released, the heartbeat stopped, no further Curtain; the wired outputs hold. -/
def enterFaultSafe (s : State) : State :=
  if inState s .live then triggerFlush 2 (setState .faultSafe (leaveLive s)) else s

/-! ### Lead and Stand-in (R416, R420, R428) -/

/-- Insert a held Take in Take ID order. -/
def insertHeld (e : LogEntry × Nat) : List (LogEntry × Nat) → List (LogEntry × Nat)
  | [] => [e]
  | x :: t => if e.1.takeId < x.1.takeId then e :: x :: t else x :: insertHeld e t
/-- Committed Takes that a Lead has not applied are held, in Take ID order, for the new Lead's TAKE_APPLY (R95); its OPEN
and COMMITTING Takes end. DEDUCED, log entries 48 and 124. -/
def takesStandDown (s : State) : State :=
  let ks := slotsIn s slotCommitted
  let es := ks.map (fun k => (entryOf s k true .marked, (takeSlot s k).committedAt))
  let s1 := takesLeaveLive s
  let s2 := ks.foldl (fun t k => freeSlot k t) s1
  { s2 with txn := { s2.txn with held := es.foldl (fun l e => insertHeld e l) s2.txn.held } }
/-- Units 8, 9 and 10 begin afresh: their results in progress and in staging are dropped (R425). -/
def dropShadowWork (s : State) : State :=
  let other := fun (e : StagedEntry) => !(e.unit == 8 || e.unit == 9 || e.unit == 10)
  let s1 := dropRound s
  { s1 with
    car := { s1.car with scans := [] }
    jug := { s1.jug with shiftNext := none, switchPending := false, switchFrom := none, bulkPlan := none }
    trp := { s1.trp with next := [] }
    tick := { s1.tick with
      outbox := s1.tick.outbox.filter other, staging := s1.tick.staging.filter other
      expected := s1.tick.expected.filter (fun x => !(x.1 == 8 || x.1 == 9 || x.1 == 10)) } }
/-- Start a join: a JOIN_REQUEST is sent (R420). -/
def startJoin (s0 : State) : State :=
  let s := if inState s0 .live then dropShadowWork s0 else s0
  let req : JoinRequest := {
    count := s.spot.sentCount + 1, tick := s.spot.mirrored.tick, epoch := getF s F.CLAP.POWER_EPOCH, sender := serialNumber s
    reelHash := s.dev.reelHash, nextTakeId := getF s F.TXN.NEXT_TAKE_ID }
  let key := standInKey s s.spot.peerSerial s.spot.peerEpoch
  bumpF F.SPOT.JOIN_COUNT 1 (countMismatches 0 (updSpot (fun x =>
    { x with joining := true, misses := 0, mismatchTicks := [], scanned := [], bulkDone := false,
             sentJoin := some { req with tag := joinTag key req }, sentCount := req.count, mirrored := {} }) s))
/-- A module that was LEAD goes on in LIVE as STAND_IN and joins afresh (R428): its wired outputs are driven once
more at the next T and then hold. DESIGN CHOICE, log entry 118; DEDUCED, log entry 124. -/
def standDown (cause : Nat) (s : State) : State :=
  let s1 := triggerFlush 3 (emit 0x1202 cause 0 0 (loseFrames (releaseAir s)))
  let s2 := setF F.SPOT.STATUS_PEER_PRESENT 0 (setF F.SPOT.STATUS_STANDIN_STATE 1 (takesStandDown (setRole 2 (dropCaptures s1))))
  let s3 := (usedPorts s2).foldl (fun t e => setF (F.CAN.PORT_STATE_MODE e.1) 2 (updPort e.1 (fun _ => {}) t)) s2
  startJoin (updSpot (fun x => { x with driveOnce := true, sending := false, handover := false, peerReady := false }) s3)
/-- A Lead that fails while its grant is latched releases ON_AIR (R419). DESIGN CHOICE, log entry 118. -/
def latchedFailure (s : State) : State :=
  if inState s .live && role s == 1 && flag s F.SPOT.STATUS_RM_LATCHED && moduleHealth s == 2 then standDown 0 s else s

end Sys2Proof.Machine
end

