-- ==== Sys2Proof/Machine/Spot.lean ====
section
/-! DEFINITION. Spotlight: the interlock, the Ringmaster's decisions, the mirror and the change of Lead
(R410 to R433). -/

namespace Sys2Proof.Machine

open Sys2Proof

/-! ### The controller's interlock (R416, R419, R428) -/

/-- The confirmed grant changes: a rise is counted; a fall forces ON_AIR low, and a LEAD becomes STAND_IN. -/
def confirmGrant (level : Bool) (side : Nat) (peer : Bool) (s : State) : State :=
  let was := flag s F.SPOT.INTERLOCK_GRANT
  let s1 := setF F.SPOT.INTERLOCK_GRANT (ofBool level) (setF F.SPOT.STATUS_SIDE side
    (setF F.SPOT.INTERLOCK_PEER_ON_AIR (ofBool peer) s))
  if level && !was then bumpF F.SPOT.SWITCH_COUNT 1 s1
  else if !level && inState s .live && role s == 1 then standDown 0 s1
  else if !level then releaseAir s1
  else s1

/-- GRANT_CONFIRMED (R416): a GRANT change to `level` is confirmed by an RM_ALIVE edge on side `side` (0 A, 1 B); `peer`
is the level of PEER_ON_AIR. A latched grant ignores it (R419). -/
def execGrantConfirmed (level : Bool) (side : Nat) (peer : Bool) (s : State) : Result :=
  .next (if pairReel s && !flag s F.SPOT.STATUS_RM_LATCHED then confirmGrant level side peer s else s)

/-- RINGMASTER_LOST (R419): RM_ALIVE shows no edge for 250 µs, and the confirmed grant is latched. -/
def execRingmasterLost (s : State) : Result :=
  .next (if pairReel s && !flag s F.SPOT.STATUS_RM_LATCHED then
      latchedFailure (raiseCause 21 (emit 0x1209 (getF s F.SPOT.INTERLOCK_GRANT) 0 0 (setF F.SPOT.STATUS_RM_LATCHED 1 s)))
    else s)

/-- RINGMASTER_RETURNED (R419): the latch ends; a GRANT level that differs is a confirmed change. -/
def execRingmasterReturned (level : Bool) (side : Nat) (peer : Bool) (s : State) : Result :=
  .next (if flag s F.SPOT.STATUS_RM_LATCHED then
      let s1 := raiseCause 21 (emit 0x120A (ofBool level) 0 0 (setF F.SPOT.STATUS_RM_LATCHED 0 s))
      if level == flag s F.SPOT.INTERLOCK_GRANT then s1 else confirmGrant level side peer s1
    else s)

/-- OUTPUT_RELEASE (R428): 125 µs after PEER_ON_AIR rises, a module that is off air releases its held outputs. -/
def execOutputRelease (s : State) : Result :=
  .next (if pairReel s then
      let s1 := setF F.SPOT.INTERLOCK_PEER_ON_AIR 1 s
      if flag s F.SPOT.INTERLOCK_ON_AIR then s1 else dropOutputs s1
    else s)

/-- ARMED_BEAT (R413): in ARMED, BEAT toggles every 125 µs of Local; without the reference it stands (R19). -/
def execArmedBeat (s : State) : Result :=
  .next (if pairReel s && inState s .armed && !s.dev.referenceLost then
      setF F.SPOT.INTERLOCK_BEAT (1 - getF s F.SPOT.INTERLOCK_BEAT) s else s)

/-! ### The Ringmaster (R413, R418) -/

/-- The module is the Ringmaster, in LIVE. -/
def ringmaster (s : State) : Bool := inState s .live && role s == 3
/-- A side is alive while its BEAT has shown an edge within the last 250 µs (R418). -/
def sideAlive (x : SideInputs) : Bool := decide (x.beatNs < 250000)
/-- Show what the Ringmaster sees; side A in the low bit. -/
def showSides (a b : SideInputs) (s : State) : State :=
  setF F.SPOT.INTERLOCK_READY_AB (ofBool a.ready + 2 * ofBool b.ready)
    (setF F.SPOT.INTERLOCK_ALIVE_AB (ofBool (sideAlive a) + 2 * ofBool (sideAlive b))
      (setF F.SPOT.INTERLOCK_AIR_AB (ofBool a.air + 2 * ofBool b.air) s))
/-- Drive the GRANT lines to side 0 none, 1 A, 2 B; RM_ALIVE toggles 2 µs after the change (R413). DEDUCED, log entry 125. -/
def driveGrant (g : Nat) (s : State) : State :=
  let alive := 4 - getF s F.SPOT.INTERLOCK_RM_OUT / 4 * 4
  setF F.SPOT.STATUS_GRANTED g (setF F.SPOT.INTERLOCK_RM_OUT (alive + g) s)
/-- The Ringmaster grants a side. -/
def grantSide (g : Nat) (s : State) : State :=
  bumpF F.SPOT.SWITCH_COUNT 1 (driveGrant g (updSpot (fun x => { x with airSeen := false, noStandby := false, moving := none }) s))
/-- The side that the Ringmaster grants at the start (R418): the one already on air, or PREFERRED, or the other after
START_WINDOW_MS. -/
def startChoice (s : State) (a b : SideInputs) : Option Nat :=
  let c := spotCfg s
  let (pref, other) := if c.preferredB then (b, a) else (a, b)
  let (p, o) : Nat × Nat := if c.preferredB then (2, 1) else (1, 2)
  if a.air && !b.air then some 1
  else if b.air && !a.air then some 2
  else if sideAlive pref && pref.ready then some p
  else if sideAlive other && other.ready && decide (other.readyMs ≥ c.startWindowMs) then some o
  else none

/-- RINGMASTER_START_GRANT (R418): with no grant, and none on its way, the Ringmaster grants a side. DEDUCED, log entry 125. -/
def execRingmasterStartGrant (a b : SideInputs) (s : State) : Result :=
  .next (if ringmaster s && getF s F.SPOT.STATUS_GRANTED == 0 && s.spot.moving.isNone then
      let s1 := showSides a b s
      match startChoice s a b with
      | some g => grantSide g s1
      | none => s1
    else s)

/-- How the granted side fails: 0 beat, 1 READY, 2 AIR (R418). -/
def sideFailure (seen : Bool) (x : SideInputs) : Option Nat :=
  if !sideAlive x then some 0 else if !x.ready then some 1 else if seen && !x.air then some 2 else none

/-- GRANT_MOVED (R418): the granted side fails, and the Ringmaster releases its grant; with no other side alive and
READY it keeps it and records NO_STANDBY once. DEDUCED, log entry 125. -/
def execGrantMoved (a b : SideInputs) (s : State) : Result :=
  let g := getF s F.SPOT.STATUS_GRANTED
  .next (if ringmaster s && g != 0 then
      let (x, y) := if g = 1 then (a, b) else (b, a)
      let s1 := updSpot (fun p => { p with airSeen := p.airSeen || x.air }) (showSides a b s)
      match sideFailure s1.spot.airSeen x with
      | none => updSpot (fun p => { p with noStandby := false }) s1
      | some cause =>
        if sideAlive y && y.ready then
          emit 0x120B g (3 - g) cause
            (driveGrant 0 (updSpot (fun p => { p with moving := some (3 - g, nowNs s 1), noStandby := false }) s1))
        else if s1.spot.noStandby then s1
        else emit 0x120C g cause (ofBool y.ready) (updSpot (fun p => { p with noStandby := true }) s1)
    else s)

/-- GRANT_RAISE (R418): 62.5 µs after the release, the new grant rises. -/
def execGrantRaise (s : State) : Result :=
  .next (match s.spot.moving with
    | some (g, at_) => if ringmaster s && decide (nowNs s 1 ≥ at_ + 62500) then grantSide g s else s
    | none => s)

/-! ### A Stand-in out of step (R421, R425, R426) -/

/-- The Stand-in becomes OUT_OF_STEP, drops READY and starts a new join. `cause`: 0 misses, 1 phase, 2 delay. -/
def outOfStep (cause : Nat) (s : State) : State :=
  startJoin (emit 0x1204 cause (getF s F.SPOT.SYNC_ERROR) (getF s F.SPOT.MIRROR_DELAY) (setF F.SPOT.STATUS_STANDIN_STATE 4 s))
/-- Mismatches reach the limit, or a plan differs (R426). -/
def shadowDiverged (plan : Bool) (s : State) : State :=
  startJoin (setF F.SPOT.STATUS_STANDIN_STATE 1 (emit 0x1205 (getF s F.SPOT.MISMATCH_COUNT) (ofBool plan) 0 s))

/-- MIRROR_MISS (R425): the head frame of the tick before has not been received by T. -/
def execMirrorMiss (s : State) : Result :=
  let n := s.tick.number
  .next (if inState s .live && role s == 2 && !s.spot.joining && decide (s.spot.mirrored.tick + 1 < n) &&
      s.spot.missedTick != n then
      let k := s.spot.misses + 1
      let s1 := emit 0x1206 (lo32 (n - 1)) k 0 (bumpF F.SPOT.MIRROR_MISS_COUNT 1
        (updSpot (fun x => { x with misses := k, missedTick := n }) s))
      if k ≥ (spotCfg s).missLimit then outOfStep 0 s1 else s1
    else s)

/-! ### The delta on the Stand-in (R420, R421, R425, R426) -/

/-- Link delay and phase error (R421), K_OFF taken out of the Lead's counts: e and d. Before the first RETURN frame has
come back, the delay is taken as that of the head frame alone. DEDUCED, log entries 119 and 121. -/
def mirrorPhase (s : State) (d : MirrorDelta) : Int × Int :=
  let t1 : Int := (d.curtain.t1 : Int) - s.clap.kOff
  let t4 : Int := (d.curtain.t4 : Int) - s.clap.kOff
  let up : Int := (d.rxNs : Int) - t1
  let dl : Int := if d.curtain.t3 = 0 then up else (up + (t4 - d.curtain.t3)) / 2
  (t1 + dl - d.rxNs, dl)
/-- The Splice log and the held Takes at a join: entries that the Lead lacks are dropped, and so is one that this module
wrote as Lead and did not mirror (R95, R420). Takes still held from before the join are put in force: the Lead applies
them from its first Curtain on. -/
def joinTakes (next : Nat) (s : State) : State :=
  let keep := (withoutTorn s.txn.log).filter (fun e => decide (e.takeId < next))
  let due := s.txn.held.filter (fun e => decide (e.1.takeId < next))
  let s1 := due.foldl (fun t e => applyWrites (stampAt s s.tick.startNs) e.1.writes t) s
  showLog { s1 with txn := { s1.txn with log := keep, held := [], arriving := [] } }
/-- The join Curtain's delta: K_OFF, and from ARMED the entry to LIVE as STAND_IN (R420, R421). DEDUCED, log entries 48 and 122. -/
def joinDelta (d : MirrorDelta) (s : State) : State :=
  let k := nearestTick ((d.curtain.t1 : Int) - d.rxNs)
  let s1 := { s with clap := { s.clap with kOff := k } }
  let start := ((d.curtain.t1 : Int) - k - ((getF s F.TICK.CONFIG_CURTAIN_US : Int) + 1) * 1000).toNat
  let s2 := if inState s1 .armed then
      let t := enterLive 2 d.tick start s1
      { t with tick := { t.tick with curtainDone := true, anyCurtain := true } }
    else { s1 with tick := { s1.tick with number := d.tick, curtainDone := true } }
  let differs := d.curtain.reelHash != s.dev.reelHash.take 2
  let s3 := setF F.SPOT.STATUS_PROGRAM_EXCHANGE (ofBool differs) (setF F.SPOT.STATUS_STANDIN_STATE 1 s2)
  let s4 := joinTakes d.curtain.nextTakeId s3
  emit 0x1203 (ofBool differs) (lo32 d.sender) (lo32 d.tick)
    (updSpot (fun x => { x with joining := false, peerSerial := d.sender, peerEpoch := d.epoch }) s4)
/-- The counters that CURTAIN, EXCHANGE and RING_INDEX give (R425). -/
def mirrorCounters (d : MirrorDelta) (s : State) : State :=
  let c := d.curtain
  let s1 := updSpot (fun x => { x with misses := 0, mirrored := { x.mirrored with
    known := true, tick := d.tick, publishedRound := c.publishedRound, roundNumber := c.roundNumber
    nextSequence := c.nextSequence, nextTakeId := c.nextTakeId, quality := c.quality, handover := c.handover, t2 := d.rxNs
    rings := d.rings.foldl (fun t e => tablePut 0 t e.1 e.2) x.mirrored.rings } }) s
  let s2 := setF F.SPOT.LAST_TICK_LO (lo32 d.tick) (setF F.SPOT.LAST_TICK_HI (hi32 d.tick)
    (setF F.SPOT.PEER_HEALTH_MODULE c.health s1))
  let s3 := setF F.TXN.NEXT_TAKE_ID (max (getF s F.TXN.NEXT_TAKE_ID) c.nextTakeId) s2
  let s4 := setF F.JUG.ROUND_NUMBER c.roundNumber { s3 with txn := { s3.txn with nextId := max s3.txn.nextId c.nextTakeId } }
  d.exchanges.foldl (fun t e => mirrorExchange e.1 e.2 t) s4
/-- The ROUND record: M, its plan, and the plan check; true for a plan mismatch (R425, R426). -/
def mirrorRound (compare : Bool) (d : MirrorDelta) (s : State) : State × Bool :=
  match d.round, s.jug.front with
  | some r, some p =>
    let s1 := updSpot (fun x => { x with mirrored := { x.mirrored with plan := if s.spot.roundNow then some p else x.mirrored.plan } }) s
    (s1, compare && s.spot.roundNow && !(p.round == r.round && p.status == r.status && p.cause == r.cause &&
      p.planStart == r.planStart && planCrc s p == r.crc))
  | _, _ => (s, false)
/-- Compare the results of the tick (R232, R263, R426), or take them as they come: the state, and how many differ. -/
def mirrorResults (compare : Bool) (d : MirrorDelta) (s : State) : State × Nat :=
  let s0 := d.commands.foldl (fun t c => mirrorCommand c t) s
  if exchanging s0 then (d.keyed.foldl (fun t i => adoptKeyed i t) s0, 0)
  else if !compare then
    (d.scans.foldl (fun t r => r.items.foldl (fun u i => adoptItem (scanStamp s0 r.task) i u) t)
      (d.loops.foldl (fun t r => adoptLoop r t) s0), 0)
  else
    let (s1, n1) := d.loops.foldl (fun (a : State × Nat) r =>
      let (t, b) := compareLoop r a.1
      (t, a.2 + ofBool b)) (s0, 0)
    let (s2, n2) := compareScans d.scans s1
    (s2, n1 + n2)
/-- Every task has started a scan since the join (R420). -/
def allScanned (s : State) : Bool :=
  (s.cfg.sheet.works.filter (fun w => w.unit == 10)).all (fun w => s.spot.scanned.contains w.work)
/-- A CATCHING_UP Stand-in becomes SHADOWING (R420). -/
def checkShadowing (s : State) : State :=
  if role s = 2 && getF s F.SPOT.STATUS_STANDIN_STATE = 2 && !exchanging s && allScanned s then
    setF F.SPOT.STATUS_STANDIN_STATE 3 s else s
/-- BULK records; with the last one the Stand-in becomes CATCHING_UP (R420). -/
def mirrorBulk (d : MirrorDelta) (s : State) : State :=
  let s1 := d.bulk.foldl (fun t b => adoptBulk b t) s
  if d.lastBulk && getF s F.SPOT.STATUS_STANDIN_STATE = 1 then
    setF F.SPOT.STATUS_STANDIN_STATE 2 (updSpot (fun x => { x with bulkDone := true }) s1)
  else s1
/-- The whole delta, aligned and in order. BULK items come first: a delta's own records override them. -/
def takeDelta (d : MirrorDelta) (s : State) : State :=
  let st := getF s F.SPOT.STATUS_STANDIN_STATE
  let compare := st ≥ 2 && st ≠ 4 && !exchanging s
  let s1 := mirrorBulk d s
  let s2 := d.lio.foldl (fun t x => mirrorSample x t) s1
  let (s3, n) := mirrorResults compare d s2
  let (s4, planBad) := mirrorRound compare d s3
  let s5 := d.points.foldl (fun t e => updSpot (fun x =>
    { x with mirrored := { x.mirrored with points := tablePut {} x.mirrored.points e.1 e.2 } }) t) s4
  let s6 := { s5 with txn := { s5.txn with arriving := s5.txn.arriving ++ d.takeEntries } }
  let s7 := match d.takeApply with
    | some id => mirrorTake id s6
    | none => s6
  let s8 := countMismatches n s7
  if planBad || (n > 0 && decide (s8.spot.mismatchTicks.length ≥ (spotCfg s).mismatchLimit)) then shadowDiverged planBad s8
  else s8
/-- Phase error and delay (R421); out of step when either is too large. DEDUCED, log entry 121. -/
def takePhase (d : MirrorDelta) (s : State) : State :=
  let (e, dl) := mirrorPhase s d
  let s1 := setF F.SPOT.SYNC_ERROR (ofSigned 32 (clampI32 e)) (setF F.SPOT.MIRROR_DELAY (ofSigned 32 (clampI32 dl)) s)
  if e.natAbs > (spotCfg s).stepLimitNs then outOfStep 1 s1 else if dl > 2500 then outOfStep 2 s1 else s1

/-- A gathered delta, on a Stand-in or a module that joins; one of another tick than the present is late, and is dropped. -/
def receiveDelta (d : MirrorDelta) (s : State) : State :=
    if s.spot.joining && (inState s .armed || (inState s .live && role s == 2)) then
      takeDelta d (mirrorCounters d (joinDelta d s))
    else if inState s .live && role s == 2 && s.tick.number == d.tick && s.spot.mirrored.tick != d.tick then
      takePhase d (takeDelta d (mirrorCounters d s))
    else s
/-- MIRROR_DELTA (R425): a tick's delta reaches the Stand-in in frames, the head frame at `rxNs`. A frame whose tag fails
is dropped and counted (R422); without a head frame nothing is used, and a miss is counted when T comes.
DEDUCED, log entries 119 and 122. -/
def execMirrorDelta (frames : List MirrorFrame) (rxNs : Nat) (s : State) : Result :=
  let good := frames.filter (deltaGenuine s)
  .next (if !pairReel s then s
    else
      let s1 := bumpF F.SPOT.MIRROR_MISS_COUNT (frames.length - good.length) s
      match gatherFrames good rxNs with
      | none => s1
      | some d =>
        let s2 := receiveDelta d s1
        if decide (frames.length = good.length) || s2.spot.mirrored.tick ≠ d.tick then s2
        else setF F.SPOT.LAST_TICK_LO (getF s F.SPOT.LAST_TICK_LO) (setF F.SPOT.LAST_TICK_HI (getF s F.SPOT.LAST_TICK_HI) s2))

/-- RETURN_SEND (R424): at T(K + 1) + 20 µs the Stand-in sends its RETURN frame, one in a tick. -/
def execReturnSend (s0 : State) : Result :=
  .next (if inState s0 .live && role s0 == 2 && hasPairKey s0 && s0.spot.sentTick != some s0.tick.number then
      let s := elapseTo 10000 s0
      let f : ReturnFrame := {
        count := s.spot.sentCount + 1, tick := s.spot.mirrored.tick, standInState := getF s F.SPOT.STATUS_STANDIN_STATE
        health := moduleHealth s, ready := ready s, mismatches := getF s F.SPOT.MISMATCH_COUNT, t2 := s.spot.mirrored.t2
        t3 := nowNs s 1 }
      updSpot (fun x => { x with
        sentReturn := some (sealReturn s f), sentCount := f.count, sentNs := f.t3, sentTick := some s.tick.number }) s
    else s0)

/-- MIRRORED_ENTRY_DURABLE (R91, R424): the oldest mirrored entry is durable, and a RETURN frame with TAKE_DURABLE is
sent; or it cannot be made so. -/
def execMirroredEntryDurable (ok : Bool) (s : State) : Result :=
  .next (if role s == 2 then
      let (s1, id) := mirroredEntryDurable ok s
      match id with
      | some k =>
        let f : ReturnFrame := { count := s.spot.sentCount + 1, tick := s.spot.mirrored.tick, takeDurable := some k }
        updSpot (fun x => { x with sentReturn := some (sealReturn s f), sentCount := f.count }) s1
      | none => s1
    else s)

/-! ### The Lead's side (R420, R424) -/

/-- JOIN_REQUEST (R420): from the next Curtain the Lead sends deltas, and BULK records. -/
def execJoinRequest (j : JoinRequest) (s : State) : Result :=
  .next (if !(inState s .live && role s == 1) then s
    else if !joinGenuine s j || (s.spot.peerSerial == j.sender && s.spot.peerEpoch == j.epoch &&
        decide (j.count ≤ s.spot.returnCount)) then bumpF F.SPOT.MIRROR_MISS_COUNT 1 s
    else
      bumpF F.SPOT.JOIN_COUNT 1 (setF F.SPOT.STATUS_PROGRAM_EXCHANGE (ofBool (j.reelHash != s.dev.reelHash))
        (updSpot (fun x => { x with
          returnCount := j.count, peerEpoch := j.epoch
          bulkPlan := j.reelHash == s.dev.reelHash || j.samePattern
          sending := true, bulkDue := true, bulkAfter := j.nextTakeId - 1, peerSerial := j.sender, returnTick := s.tick.number
          peerReady := false }) s)))

/-- RETURN_FRAME (R422, R424): STATUS shows the Stand-in's state; TAKE_DURABLE lets the mark write start (R90). DEDUCED, log entry 120. -/
def execReturnFrame (f : ReturnFrame) (s : State) : Result :=
  .next (if !(inState s .live && role s == 1 && s.spot.sending) then s
    else if !returnGenuine s f || decide (f.count ≤ s.spot.returnCount) then bumpF F.SPOT.MIRROR_MISS_COUNT 1 s
    else
      let s1 := updSpot (fun x => { x with returnCount := f.count, returnTick := s.tick.number }) s
      match f.takeDurable with
      | some id =>
        match s.txn.ahead with
        | some a => if getF s (F.TXN.SLOT_TAKE_ID a.slot) = id then startMark true s1 else s1
        | none => s1
      | none =>
        let s2 := setF F.SPOT.PEER_HEALTH_MODULE f.health (updSpot (fun x => { x with peerReady := f.ready, t3 := f.t3, t4 := nowNs s 1 }) s1)
        if f.ready then setF F.SPOT.STATUS_PEER_PRESENT 1 s2 else s2)

/-- Why the Stand-in is lost (R424): 0 no RETURN for 8 ticks, 1 READY low, 2 link down. One that is still joining has not
raised READY yet. -/
def peerLostCause (s : State) : Option Nat :=
  if !flag s F.SPOT.STATUS_PEER_PRESENT && !s.spot.sending then none
  else if s.tick.number ≥ s.spot.returnTick + 8 then some 0
  else if flag s F.SPOT.STATUS_PEER_PRESENT && !s.spot.peerReady then some 1
  else if !flag s F.NET.STATUS_MIRROR_UP then some 2
  else none
/-- PEER_LOST (R424): the Lead declares the Stand-in lost; a write-ahead that waits for it goes on (R90).
DEDUCED, log entries 58 and 124. -/
def execPeerLost (s : State) : Result :=
  .next (if inState s .live && role s == 1 then
      match peerLostCause s with
      | some c =>
        startMark false (emit 0x1207 c 0 0 (setF F.SPOT.STATUS_PEER_PRESENT 0 (setF F.SPOT.STATUS_PROGRAM_EXCHANGE 0
          (updSpot (fun x => { x with sending := false, peerReady := false, handover := false }) s))))
      | none => s
    else s)

/-! ### Going on air (R427, R431, R45) -/

/-- The GAP record and the counter jumps of R45. -/
def switchCounters (s : State) : State :=
  let m := s.spot.mirrored
  let seq := max (getF s F.CONT.NEXT_SEQUENCE) (min (m.nextSequence + 65536) 0xFFFFFFFF)
  let gap : Rec := { stamp := nowStamp s, code := 0x1401, gap := true, payload := [tickLo s, 0, lo32 m.nextSequence, lo32 seq] }
  let s1 := numberRecord gap (setF F.CONT.NEXT_SEQUENCE seq s)
  let s2 := (List.range 16).foldl (fun t r =>
    setF (F.HOST.NEXT_INDEX r) (max (getF t (F.HOST.NEXT_INDEX r)) (tableGet 0 m.rings r + 64)) t) s1
  stnSwitchOver s2
/-- The loops at the first tick as Lead: their injections end, and captures are IDLE (R232). -/
def switchLoops (s : State) : State :=
  dropCaptures ((loopsSec s).loops.foldl (fun t c => putLoop c.loop { loopState t c.loop with leadEnds := true } t) s)
/-- The loops of a new Reel (R431). DEDUCED, log entry 126. -/
def exchangeLoops (s : State) : State :=
  (loopsSec s).loops.foldl (fun t c =>
    match s.spot.mirrored.points.find? (fun e => e.1 == c.outPoint && e.2.source == 9) with
    | some e => putLoop c.loop { yPrev := e.2.value, resume := true } t
    | none => t) (trpGoLive s)
/-- A CAR point that the old Lead's Reel wrote from CAR keeps the value last published by it, in the snapshot of the first tick
too (R265). DEDUCED, log entry 85. -/
def keepPoint (i : Nat) (p : PointVal) (s : State) : State :=
  match pointCfg s i with
  | some c =>
    if c.source = 10 then
      let q := { p with typ := c.typ }
      { s with pimg := { s.pimg with live := tablePut {} s.pimg.live i q, snap := tablePut {} s.pimg.snap i q } }
    else s
  | none => s
/-- The Carousel of a new Reel: instances that no mirrored item has matched are reset (R265). DEDUCED, log entries 85 and 126. -/
def exchangeCar (s : State) : State :=
  let l := logicSec s
  let fresh := initialItems s
  let has := fun (k i : Nat) => s.car.matched.contains (k * 2 ^ 24 + i)
  let x := s.car.items
  let items : CarItems := {
    flags := fresh.flags
    timers := x.timers.filter (fun e => has 3 e.1)
    counters := (List.range l.counters.length).foldl (fun m i =>
      tablePut {} m i (if has 4 i then tableGet {} x.counters i else tableGet {} fresh.counters i)) []
    edges := x.edges.filter (fun e => has 5 e.1) }
  let total := l.timers.length + l.counters.length + l.edges.length
  let n := s.car.matched.length
  let s1 := setF F.CAR.STATUS_TRANSFERRED 1 (setF F.CAR.TRANSFER_MATCHED n (setF F.CAR.TRANSFER_RESET (total - n)
    { s with car := { items := items } }))
  let s2 := s.spot.mirrored.points.foldl (fun t e => if e.2.source = 10 then keepPoint e.1 e.2 t else t) s1
  emit 0x0A04 n (total - n) (s.dev.reelHash.getD 0 0) s2
/-- The plan that the first Curtain as Lead advances (R211, R431). DEDUCED, log entry 87. -/
def switchPlan (s : State) : State :=
  let m := s.spot.mirrored
  let from_ : Option Plan := match m.plan, exchanging s with
    | some p, _ => some p
    | none, true =>
      let v := solverSec s
      let st := (modelSec s).stepTicks
      some { round := 0, planStart := v.phase + (s.tick.number + 1 - v.phase) / st * st, values := tableOf v.initial }
    | none, false => s.jug.front
  { s with jug := { s.jug with switchFrom := from_, switchPending := true } }

/-- The evaluations and scans of the tick at whose start the module becomes LEAD are made as LEAD: a loop that injects is
evaluated again (R232), and after a program exchange loops and tasks start (R265, R431). -/
def leadTick (s : State) : State :=
  if exchanging s || decide (loopsInjecting s > 0) then
    let n := s.tick.number
    let s1 := { s with tick := { s.tick with
      outbox := s.tick.outbox.filter (fun e => e.unit != 9), staging := s.tick.staging.filter (fun e => e.unit != 9)
      expected := s.tick.expected.filter (fun x => x != (9, n, 0)) } }
    let s2 := trpTick s1
    if exchanging s then setF F.SPOT.STATUS_PROGRAM_EXCHANGE 0 (startScans s2) else s2
  else s
/-- The Stand-in becomes LEAD (R427), in the order of that rule. DEDUCED, log entry 124. -/
def becomeLead (s : State) : State :=
  let s1 := setRole 1 (raiseAir (setF F.SPOT.INTERLOCK_PEER_ON_AIR 0 s))
  let s2 := switchCounters s1
  let s3 := setF F.SPOT.STATUS_STANDIN_STATE 0 (canSwitchOver (clapLeaveStandIn s2))
  let s4 := switchPlan (if exchanging s then exchangeCar (exchangeLoops s3) else switchLoops s3)
  let m := s.spot.mirrored
  leadTick <| triggerFlush 3 <| emit 0x1201 (if m.handover then 2 else 1) (lo32 m.tick) m.publishedRound
    (updSpot (fun x => { x with
      driveOnce := false, joining := false, sending := false, peerReady := false, lioOwn := [] }) s4)

/-- SPOT_LEAD (R427): at the first tick start with the confirmed grant high and PEER_ON_AIR, `peer`, low. -/
def execSpotLead (peer : Bool) (s : State) : Result :=
  .next (if inState s .live && role s == 2 && flag s F.SPOT.INTERLOCK_GRANT && !peer && !s.tick.curtainDone then becomeLead s
    else s)

/-! ### Commands (R430) -/

/-- The HANDOVER command. -/
def cmdHandover (c : Caller) (a0 : Nat) (s : State) : State × Reply :=
  runCommand 18 0x01 c a0 (some [roleEngineer]) (inState s .live && healthyStandIn s) (fun t =>
    if a0 ≠ 0 then .error resBadArgument
    else .ok (updSpot (fun x => { x with handover := true }) t, resOk, 0)) s
/-- HANDOVER (R430). -/
def execHandover (c : Caller) (a0 : Nat) (s : State) : Result := .next (cmdHandover c a0 s).1

/-- The REJOIN command. -/
def cmdRejoin (c : Caller) (a0 : Nat) (s : State) : State × Reply :=
  runCommand 18 0x02 c a0 (some [roleEngineer]) (inState s .live && role s == 2) (fun t =>
    if a0 ≠ 0 then .error resBadArgument
    else .ok (startJoin (setF F.SPOT.STATUS_STANDIN_STATE 1 t), resOk, 0)) s
/-- REJOIN (R430). -/
def execRejoin (c : Caller) (a0 : Nat) (s : State) : Result := .next (cmdRejoin c a0 s).1

/-- Commands of SPOT by opcode. -/
def spotCommand (op : Nat) (c : Caller) (a0 : Nat) (s : State) : State × Reply :=
  match op with
  | 1 => cmdHandover c a0 s
  | 2 => cmdRejoin c a0 s
  | _ => refuseOpcode 18 op c a0 s

end Sys2Proof.Machine
end

