-- ==== Sys2Proof/Machine/Sec.lean ====
section
/-! DEFINITION. SEC's own state: the key store, sessions, failed authentications, certified operation, zeroisation, and
the loss of a key (R474 to R488). The commands are in SecCmd. -/

namespace Sys2Proof.Machine

open Sys2Proof

/-- The SECURITY section in force; its defaults where there is none (R493). -/
def secCfg (s : State) : SecuritySec := s.cfg.security.getD {}
/-- Update SEC's part. -/
def updSec (f : SecPart → SecPart) (s : State) : State := { s with sec := f s.sec }

/-! ### The key store (R483) -/

/-- A signature over a digest verifies under a public key of the store: its point follows the byte 0x04. -/
def signedBy (s : State) (kind id : Nat) (digest signature : List Nat) : Bool :=
  ecdsaVerify ((keyMaterial s kind id).drop 1) digest signature
/-- Kinds in the public pool. -/
def publicKind (k : Nat) : Bool := k == 1 || k == 3 || k == 6
/-- First entry number and size of a kind's pool. -/
def keyPool (kind : Nat) : Nat × Nat := if publicKind kind then (4608, 128) else (0, 4608)
/-- Entries of a pool in use. -/
def poolUsed (s : State) (kind : Nat) : Nat := (keyEntries s).countP (fun e => publicKind e.2.kind == publicKind kind)
/-- A credential with the SECURITY_OFFICER role. -/
def officerKey (k : KeyEntry) : Bool := k.kind == 6 && k.roles / 16 % 2 == 1
/-- How many such credentials the store holds. -/
def officers (s : State) : Nat := (keyEntries s).countP (fun e => officerKey e.2)

/-! ### Microcode images (R54) -/

/-- The bytes of the image in a slot; none where it has no last chunk. A chunk not written is erased flash. -/
def imageBytes (x : ImageSlot) : List Nat :=
  ((List.range ((x.size + 4095) / 4096)).flatMap (fun i =>
    let c := tableGet [] x.chunks i
    c ++ List.replicate (4096 - c.length) 0xFF)).take x.size
/-- The version of an image. DESIGN CHOICE: the spec lays no image out. The model's has its version in bytes 0 to 3, the
VALIDATED flag in bit 0 of byte 4, its public key in bytes 8 to 104 and its signature in bytes 112 to 207, over SHA-384 of
bytes 0 to 111 and of all that follows the signature (log entry 129). -/
def imageVersion (b : List Nat) : Nat := natLE (b.take 4)
/-- The VALIDATED flag of an image's signed header (R475). -/
def imageValidated (b : List Nat) : Bool := bitOf (b.getD 4 0) 0 == 1
/-- The image's public key is the one bound in one-time-programmable memory, and its signature verifies under it.
DESIGN CHOICE, log entry 129. -/
def imageSigned (keyHash b : List Nat) : Bool :=
  let key := (b.drop 8).take 97
  decide (208 ≤ b.length) && sha384 key == keyHash &&
    ecdsaVerify (key.drop 1) (sha384 (b.take 112 ++ b.drop 208)) ((b.drop 112).take 96)
/-- The image in slot `k`. -/
def slotImage (s : State) (k : Nat) : List Nat := imageBytes (s.sec.images.getD k {})
/-- A slot holds a valid image: signed, and of the minimum version at least. -/
def imageValid (s : State) (k : Nat) : Bool :=
  let b := slotImage s k
  imageSigned s.sec.imageKeyHash b && decide (getF s F.SEC.MIN_VERSION_VERSION ≤ imageVersion b)

/-! ### Certified operation (R475) -/

/-- The first condition of R475 that fails; none when all hold. -/
def certifiedFails (s : State) : Option Nat :=
  if flag s F.SEC.STATUS_DEBUG_OPENED then some 1
  else if !flag s F.SEC.STATUS_VALIDATED_IMAGE then some 2
  else if !flag s F.SEC.CONFIG_CERTIFIED_MODE then some 3
  else if officers s = 0 then some 4
  else if flag s F.SEC.STATUS_DRBG_FAILED then some 5
  else none
/-- CERTIFIED follows its conditions; its fall is recorded. -/
def showCertified (s : State) : State :=
  match certifiedFails s, flag s F.SEC.STATUS_CERTIFIED with
  | none, _ => setF F.SEC.STATUS_CERTIFIED 1 s
  | some k, true => emit 0x150E k 0 0 (setF F.SEC.STATUS_CERTIFIED 0 s)
  | some _, false => s
/-- The registers that follow the key store: KEY_COUNT, CLAIMABLE, CERTIFIED. -/
def showKeys (s : State) : State :=
  showCertified (setF F.SEC.KEY_COUNT_PUBLIC (poolUsed s 6) (setF F.SEC.KEY_COUNT_SECRET (poolUsed s 2)
    (setF F.SEC.STATUS_CLAIMABLE (ofBool (officers s == 0)) s)))
/-- Store an entry, or empty it. -/
def putKey (n : Nat) (k : Option KeyEntry) (s : State) : State :=
  showKeys (updSec (fun x => { x with keys := tablePut none x.keys n k }) s)

/-! ### Sessions (R480, R85) -/

/-- State of a session slot: 0 free, 1 half-open, 2 open. -/
def sesState (s : State) (k : Nat) : Nat := getF s (F.SEC.SES_STATE_STATE k)
/-- The credential of a session slot. -/
def sesCredential (s : State) (k : Nat) : Nat := getF s (F.SEC.SES_CRED_LO k) + 2 ^ 32 * getF s (F.SEC.SES_CRED_HI k)
/-- Free a session slot, with what the management port keeps for it. -/
def freeSession (k : Nat) (s : State) : State :=
  let s1 := resetFields [F.SEC.SES_STATE_SESSION_ID k, F.SEC.SES_STATE_ROLE k, F.SEC.SES_STATE_BAR k,
    F.SEC.SES_STATE_TRANSPORT k, F.SEC.SES_STATE_STATE k, F.SEC.SES_CRED_LO k, F.SEC.SES_CRED_HI k, F.SEC.SES_IDLE k] s
  { s1 with
    sec := { s1.sec with sessions := listUpd {} s1.sec.sessions k (fun _ => {}) }
    host := { s1.host with
      mgmtHigh := tablePut 0 s1.host.mgmtHigh k 0, mgmtSeen := tablePut 0 s1.host.mgmtSeen k 0
      mgmtSent := tablePut 0 s1.host.mgmtSent k 0 } }
/-- A session ends, for a cause of R496; its OPEN Takes are cut (R85). A half-open one only goes. -/
def endSession (k cause : Nat) (s : State) : State :=
  match sesState s k with
  | 0 => s
  | 1 => freeSession k s
  | _ => freeSession k (emit 0x1502 (getF s (F.SEC.SES_STATE_SESSION_ID k)) cause 0 (sessionTakes k s))
/-- Every session ends. -/
def endSessions (cause : Nat) (s : State) : State := (List.range 8).foldl (fun t k => endSession k cause t) s
/-- The sessions of a credential end. -/
def endCredential (id : Nat) (s : State) : State :=
  (List.range 8).foldl (fun t k => if sesState t k ≠ 0 && sesCredential t k = id then endSession k 3 t else t) s

/-! ### Failed authentications (R481) -/

/-- Failures of a key in a list, at or after a time. -/
def recentFails (l : List (Nat × Nat)) (key since : Nat) : Nat := l.countP (fun e => e.1 == key && decide (e.2 ≥ since))
/-- Nanoseconds of some seconds. -/
def secondsNs (n : Nat) : Nat := n * 1000000000
/-- Record a failed authentication, and lock what has failed too often. -/
def authFailed (transport cred cause : Nat) (s : State) : State :=
  let now := nowNs s 0
  let lockNs := secondsNs (secCfg s).lockoutS
  let s1 := emit 0x1503 transport (lo32 cred) cause (bumpF F.SEC.AUTH_FAIL_COUNT 1 s)
  let tf := (transport, now) :: s1.sec.transportFails.filter (fun e => decide (e.2 + secondsNs 60 > now))
  let cf := (cred, now) :: s1.sec.fails.filter (fun e => decide (e.2 + lockNs > now))
  let known := (findKey s cred).isSome
  let lockT := recentFails tf transport 0 ≥ 20 && !s1.sec.transportLocked.any (fun e => e.1 == transport)
  let lockC := known && recentFails cf cred 0 ≥ (secCfg s).lockoutFails && !s1.sec.locked.any (fun e => e.1 == cred)
  let s2 := updSec (fun x => { x with
    transportFails := tf, fails := if known then cf else x.fails
    transportLocked := if lockT then x.transportLocked ++ [(transport, now)] else x.transportLocked
    locked := if lockC then x.locked ++ [(cred, now)] else x.locked }) s1
  if lockC then emit 0x1504 (lo32 cred) (secCfg s).lockoutS 0 s2 else s2

/-! ### Zeroisation (R486, R487) -/

/-- Erase every key, end every session and leave the mark; the restart that follows finishes (R487). -/
def eraseKeys (cause : Nat) (s : State) : State :=
  let s1 := updSec (fun x => { x with zeroisePending := true, zeroiseCause := cause, keys := [], locked := [], fails := [] })
    (setF F.SEC.STATUS_ZEROISE_PENDING 1 s)
  showKeys (endSessions 5 s1)
/-- At the entry to BOOT, SEC finishes a pending zeroisation. -/
def finishZeroise (s : State) : State :=
  if !s.sec.zeroisePending then s
  else
    let s1 := updSec (fun x => { x with zeroisePending := false, keys := [] })
      (setF F.SEC.STATUS_ZEROISE_PENDING 0 (bumpF F.SEC.ZEROISE_COUNT 1 s))
    emit 0x1508 (getF s1 F.SEC.ZEROISE_COUNT) s.sec.zeroiseCause 0 (showKeys s1)
/-- What a lost key means for its users (R486). -/
def keyLost (k : KeyEntry) (addr : Nat) (s : State) : State :=
  if k.kind = 4 then
    (stationList s).foldl (fun t c => if c.keyId = k.id then haltStation c.station addr t else t) s
  else if k.kind = 5 then
    let s1 := updSpot (fun x => { x with sending := false }) (updSec (fun x => { x with pairKeyLost := true }) s)
    let s2 := if role s1 = 2 && inState s1 .live then
        dropShadowWork (setF F.SPOT.STATUS_STANDIN_STATE 4 (updSpot (fun x => { x with joining := false }) s1)) else s1
    showSecHealth s2
  else if k.kind = 6 then endCredential k.id s
  else s
/-- An uncorrectable error in a key zeroises it (R439, R486). -/
def zeroiseKey (id addr : Nat) (s : State) : State :=
  match findKey s id with
  | none => s
  | some (n, k) => keyLost k addr (emit 0x1507 (lo32 k.id) (hi32 k.id) k.kind (putKey n none s))

end Sys2Proof.Machine
end

