-- ==== Sys2Proof/Machine/LoadForm.lean ====
section
/-! DEFINITION. Load steps 1 to 11: the card, the header, the section table, keys, signatures and domains (R57 to R68,
R70, R72). A check answers none, or the load error's code and detail word. -/

namespace Sys2Proof.Machine

open Sys2Proof

/-- A load check: none when it passes, else the code and the detail word of R72. -/
abbrev Chk := Option (Nat × Nat)
/-- A condition, with the error that its breach gives. -/
def need (ok : Bool) (code detail : Nat) : Chk := if ok then none else some (code, detail)
/-- The detail of an error is a body offset. -/
def byOffset (e : Nat × Nat) : Bool := e.1 == 0x13 || e.1 == 0x15
/-- Of two errors in a body, the one without an offset, or the one at the lower offset; the earlier on a tie. -/
def lowerBad (a b : Chk) : Chk :=
  match a, b with
  | some x, some y => if byOffset x && (!byOffset y || decide (y.2 < x.2)) then some y else some x
  | some x, none => some x
  | none, y => y
/-- The first bad field of a body, of some checks. -/
def lowestBad (l : List Chk) : Chk := l.foldr lowerBad none
/-- A condition on a body: SECTION_CONTENT at a byte offset. -/
def inBody (ok : Bool) (off : Nat) : Chk := need ok 0x13 off
/-- A capacity of a unit: CAPACITY at a byte offset. -/
def inCap (ok : Bool) (off : Nat) : Chk := need ok 0x15 off
/-- The first failure of some checks, in their order. -/
def firstBad (l : List Chk) : Chk := l.findSome? id
/-- The first failure over the items of a table, each with its position. -/
def eachAt {α : Type} (f : Nat → α → Chk) : Nat → List α → Chk
  | _, [] => none
  | i, x :: t => match f i x with
    | some e => some e
    | none => eachAt f (i + 1) t
/-- As eachAt, each item with the one before it. -/
def eachNext {α : Type} (f : Option α → Nat → α → Chk) : Option α → Nat → List α → Chk
  | _, _, [] => none
  | p, i, x :: t => match f p i x with
    | some e => some e
    | none => eachNext f (some x) (i + 1) t
/-- A number lies in a range. -/
def within (lo hi n : Nat) : Bool := decide (lo ≤ n) && decide (n ≤ hi)
/-- An item is above the one before it. -/
def above (prev : Option Nat) (n : Nat) : Bool := match prev with | none => true | some p => decide (p < n)

/-! ### Sections -/

/-- The Reel carries a section. -/
def carries (r : Reel) (t : Nat) : Bool := r.table.any (fun e => e.typ == t && knownEntry e)
/-- Index of a section's entry, 0xFF where there is none. -/
def sectionIndex (r : Reel) (t : Nat) : Nat := (r.table.findIdx? (fun e => e.typ == t && knownEntry e)).getD 0xFF
/-- The position at which a section is applied; after the last where there is none. -/
def sectionPos (r : Reel) (t : Nat) : Nat := (r.table.findIdx? (fun e => e.typ == t && knownEntry e)).getD r.table.length
/-- Units that a section belongs to (R65). -/
def sectionUnits : Nat → List Nat
  | 0x02 | 0x03 => [1] | 0x04 => [23] | 0x05 => [3] | 0x06 => [4] | 0x07 => [5] | 0x01 | 0x08 => [2] | 0x09 | 0x0A => [6]
  | 0x0B => [7] | 0x0C => [8] | 0x0D => [9] | 0x0E => [10] | 0x0F | 0x10 => [11, 12] | 0x11 => [11] | 0x12 => [14]
  | 0x13 => [16] | 0x14 => [15] | 0x15 => [17] | 0x16 => [18] | 0x17 => [20] | 0x18 => [21] | 0x19 => [22] | _ => []
/-! ### Steps 1 to 4 -/

/-- The bus mode that is chosen: 2 SDR50, 1 High Speed; none where the card offers neither (R57). DEDUCED, log entry 37. -/
def cardMode (c : CardInfo) : Option Nat := if c.sdr50 then some 2 else if c.highSpeed then some 1 else none
/-- The card lies in the SD subset of R57. -/
def cardSupported (c : CardInfo) : Bool := within 1 2 c.capacityClass && (cardMode c).isSome
/-- The GPT's signature, EFI PART. -/
def gptSignature : List Nat := [0x45, 0x46, 0x49, 0x20, 0x50, 0x41, 0x52, 0x54]
/-- A GPT header is good: its signature, and the CRC32 over its bytes with the CRC's own four as 0 (R59). PRESUMED, log entry 36. -/
def gptGood (h : List Nat) : Bool :=
  let n := u32 h 12
  slice h 0 8 == gptSignature && within 92 h.length n &&
    crc32 (slice h 0 16 ++ [0, 0, 0, 0] ++ slice h 20 (n - 20)) == u32 h 16
/-- The partition entries that are used: the primary's, else the backup's, else none. -/
def gptEntries (c : CardInfo) : List (List Nat) :=
  if gptGood c.primary.header then c.primary.entries else if gptGood c.backup.header then c.backup.entries else []
/-- The type GUID of the Reel's partition, in the GPT's byte order. -/
def reelGuid : List Nat := [0x1E, 0x9C, 0x3B, 0x5A, 0x24, 0x7D, 0x86, 0x4F, 0xB0, 0xA1, 0x2C, 0x6E, 0x8F, 0x4D, 0x71, 0x53]
/-- The partitions of that type. PRESUMED, log entry 36. -/
def reelPartitions (c : CardInfo) : List (List Nat) := (gptEntries c).filter (fun e => slice e 0 16 == reelGuid)
/-- The Reel's partition in bytes, from its first and last block of 512 bytes. -/
def partitionBytes (c : CardInfo) : Nat :=
  let e := (reelPartitions c).getD 0 []
  (u64 e 40 + 1 - u64 e 32) * 512
/-- Steps 1 and 2 (R57, R59, R60), with the upper bound of the partition. PRESUMED, log entry 36; DEDUCED, log entry 37. -/
def checkCard (c : CardInfo) : Chk :=
  if !c.present then some (0x01, 0)
  else match c.readError with
    | some e => some (0x02, e)
    | none => firstBad [need (cardSupported c) 0x03 c.capacityClass,
        need ((reelPartitions c).length == 1) 0x04 (reelPartitions c).length,
        need (decide (partitionBytes c ≤ 1073741824)) 0x05 (partitionBytes c / 4096)]
/-- Header flag bits. -/
def hdrEncrypted (h : ReelHeader) : Bool := h.flags % 2 == 1
/-- See hdrEncrypted. -/
def hdrBound (h : ReelHeader) : Bool := h.flags / 2 % 2 == 1
/-- See hdrEncrypted. -/
def hdrMetrology (h : ReelHeader) : Bool := h.flags / 4 % 2 == 1
/-- Step 3 (R61), and the lower bound of the partition, known now. DEDUCED, log entry 24. -/
def checkHeader (h : ReelHeader) (c : CardInfo) : Chk :=
  let bad (ok : Bool) (off : Nat) : Chk := need ok 0x08 off
  firstBad [need (h.magic == 0x4C524E57) 0x06 h.magic, need (h.formatMajor == 1) 0x07 h.formatMajor,
    bad (within 4096 1073741824 h.totalLength && h.totalLength % 4096 == 0) 8, bad (within 1 64 h.sectionCount) 16,
    bad (decide (h.flags < 8)) 18, bad (decide (h.requiredUnits < 2 ^ 24)) 20, bad (decide (h.requiredClusters < 16)) 24,
    bad (decide (h.requiredPorts < 16)) 25, bad (h.reserved == 0) 26, bad (hdrBound h || h.serial == 0) 32,
    bad (hdrEncrypted h || h.reelKeyId == 0) 48, bad (hdrEncrypted h || h.salt.all (· == 0)) 56,
    need (decide (h.totalLength ≤ partitionBytes c)) 0x05 (partitionBytes c / 4096)]
/-- A section that belongs to units needs them required: METROLOGY and METERING one of theirs (R63). DEDUCED, log entry 25. -/
def unitsRequired (h : ReelHeader) (e : SectionEntry) : Bool :=
  !knownEntry e || (sectionUnits e.typ).isEmpty || (sectionUnits e.typ).any (fun u => h.requiredUnits / 2 ^ u % 2 == 1)
/-- The rules of R62 and R63 on one entry: `lo` is where its body may begin, `seen` the types before it. -/
def entryOk (h : ReelHeader) (e : SectionEntry) (lo : Nat) (seen : List Nat) : Bool :=
  let tag := if entEncrypted e then 16 else 0
  decide (e.flags < 4) && e.offset % 4096 == 0 && decide (lo ≤ e.offset) && decide (e.offset + e.length ≤ h.totalLength) &&
    decide (tag ≤ e.length) && e.plainLength + tag == e.length && !seen.contains e.typ && unitsRequired h e
/-- The entries in table order. -/
def checkEntries (h : ReelHeader) : Nat → Option SectionEntry → List Nat → List SectionEntry → Chk
  | _, _, _, [] => none
  | i, prev, seen, e :: t =>
    let lo := match prev with
      | none => 256 + 80 * h.sectionCount
      | some p => max (p.offset + 1) (p.offset + p.length)
    if entryOk h e lo seen then checkEntries h (i + 1) (some e) (e.typ :: seen) t else some (0x09, i)
/-- The first entry that satisfies a condition, 0 with none. -/
def firstEntry (r : Reel) (p : SectionEntry → Bool) : Nat := (r.table.findIdx? p).getD 0
/-- A METROLOGY or METROLOGY_SEAL entry. -/
def metroEntry (e : SectionEntry) : Bool := knownEntry e && (e.typ == 0x0F || e.typ == 0x11)
/-- Step 4 (R63). DEDUCED, log entry 23. -/
def checkTable (r : Reel) : Chk :=
  firstBad [need (r.table.length == r.header.sectionCount) 0x09 (min r.table.length r.header.sectionCount),
    checkEntries r.header 0 none [] r.table,
    need (hdrEncrypted r.header == r.table.any entEncrypted) 0x09 (firstEntry r entEncrypted),
    need (hdrMetrology r.header == (r.table.countP metroEntry == 2)) 0x09 (firstEntry r metroEntry)]

/-! ### Steps 5 to 11 -/

/-- The first bit of a mask that another lacks, of the low `n`. -/
def missingBit (n mask have_ : Nat) : Option Nat :=
  (List.range n).find? (fun i => mask / 2 ^ i % 2 == 1 && have_ / 2 ^ i % 2 == 0)
/-- Step 8 (R3), and R181: the Storyboard's clusters too. -/
def checkRequired (r : Reel) (s : State) : Chk :=
  let clusters := getF s F.JUG.CLUSTERS_PRESENT
  firstBad [(missingBit 24 r.header.requiredUnits (getF s F.DEV.UNITS_PRESENT)).map (fun u => (0x0D, u)),
    (missingBit 4 r.header.requiredClusters clusters).map (fun c => (0x0D, 0x100 + c)),
    (missingBit 4 (r.story.getD {}).clusterMask clusters).map (fun c => (0x0D, 0x100 + c)),
    (missingBit 4 r.header.requiredPorts (getF s F.NET.PORTS_PRESENT)).map (fun p => (0x0D, 0x200 + p))]
/-- Step 9 (R66), with the index of the section that fails: sections are read in OFFSET order, the table's. -/
def checkStored (x : ReelImage) (h : ReelHeader) (s : State) : Nat → List SectionEntry → Option (Nat × Nat × Nat)
  | _, [] => none
  | i, e :: t =>
    let b := storedBytes x i e
    match firstBad [need (sha384 b == e.hash) 0x0E 0, need (!entEncrypted e || hasKey s 2 h.reelKeyId) 0x0A 2,
        need (!entEncrypted e || tagOk h (keyMaterial s 2 h.reelKeyId) i e b) 0x0F 0] with
    | some (c, d) => some (c, i, d)
    | none => checkStored x h s (i + 1) t
/-- Step 10 (R70). -/
def checkSeal (r : Reel) (s : State) : Chk :=
  match r.metroSeal with
  | none => none
  | some x => firstBad [need (hasKey s 3 x.keyId) 0x0A 3,
      need (r.metrology.any (fun m => m.hash == x.hash) && signedBy s 3 x.keyId (bytesOfWords x.hash) x.signature) 0x10 0]
/-- Put the "no section" index on a check. -/
def nowhere (c : Chk) : Option (Nat × Nat × Nat) := c.map (fun e => (e.1, 0xFF, e.2))
/-- Steps 1 to 10 for an image and the Reel that it holds: code, section index, detail. -/
def checkForm (x : ReelImage) (r : Reel) (c : CardInfo) (s : State) : Option (Nat × Nat × Nat) :=
  let h := r.header
  [nowhere (checkCard c), nowhere (checkHeader h c), nowhere (checkTable r), nowhere (need (hasKey s 1 h.engKeyId) 0x0A 1),
    nowhere (need (signedBy s 1 h.engKeyId (bytesOfWords r.hash) h.signature) 0x0B 0),
    nowhere (need (!hdrBound h || h.serial == serialNumber s) 0x0C (getF s F.DEV.SERIAL_LO)),
    nowhere (checkRequired r s), checkStored x h s 0 r.table,
    (checkSeal r s).map (fun e => (e.1, sectionIndex r 0x11, e.2))].findSome? id
/-- Bit `d` of DOMAIN_ENABLE. -/
def enables (r : Reel) (d : Nat) : Bool := r.power.domainEnable / 2 ^ d % 2 == 1
/-- A domain holds a unit or a cluster that is fitted. -/
def domainFitted (s : State) (d : Nat) : Bool :=
  match d with
  | 4 => bitF s F.JUG.CLUSTERS_PRESENT 0 | 5 => bitF s F.JUG.CLUSTERS_PRESENT 1
  | 6 => bitF s F.JUG.CLUSTERS_PRESENT 2 | 7 => bitF s F.JUG.CLUSTERS_PRESENT 3
  | 8 => present s 6 || present s 7 || present s 8 | 9 => present s 9 || present s 10
  | 10 => present s 11 || present s 12 | 11 => present s 5 | 12 => present s 14 || present s 16
  | 13 => present s 15 | 14 => present s 17 | _ => true
/-- Step 11 switches a domain on. -/
def switchedOn (r : Reel) (s : State) (d : Nat) : Bool := enables r d && domainFitted s d && within 4 14 d
/-- The domain whose wake fails in step 11, if it is one that this load switches on. -/
def wakeError (r : Reel) (c : CardInfo) (s : State) : Option Nat := c.wakeFailed.filter (switchedOn r s)

end Sys2Proof.Machine
end

