-- ==== Sys2Proof/Machine/LoadBase.lean ====
section
/-! DEFINITION. Load checks on START, CALL_SHEET, SAFE_VALUES, POWER, TIME, POINTS, LOCAL_IO, TUNABLES, RECORDER,
SECURITY and HOST: the checks that each body decides by itself, and those between the Call sheet or the points and
another section (R36, R69, R82, R108, R125 to R127, R134, R219, R257, R345, R470, R493, R512, R526, R527). -/

namespace Sys2Proof.Machine

open Sys2Proof

/-- CALL_SHEET, with a failed check of R36. -/
def sheetBad (ok : Bool) (check : Nat) : Chk := need ok 0x12 check
/-- a ≤ b in a point TYPE. -/
def typedLe (typ : Nat) (a b : Word) : Bool :=
  if typ = 0 then f32Le a b else if typ = 1 then a.sle b else a.ule b
/-- A word is a value of a TYPE: a bool is 0 or 1 (R108). -/
def typedOk (typ : Nat) (v : Word) : Bool := typ != 2 || v.ule 1
/-- The declaration of a point. -/
def pointOf (r : Reel) (i : Nat) : Option PointCfg := r.points.find? (fun c => c.index == i)
/-- The TYPE of a point; none where POINTS lacks it. -/
def pointType (r : Reel) (i : Nat) : Option Nat := (pointOf r i).map PointCfg.typ

/-! ### START, POWER, RECORDER, SECURITY, HOST -/

/-- START (R69). -/
def checkStart (x : StartSec) : Chk :=
  firstBad [inBody (decide (x.startMode ≤ 1)) 0, inBody (decide (x.timePolicy ≤ 2)) 1,
    inBody (x.timePolicy == 0 || within 2 5 x.lockDomain) 2, inBody (within 1 600 x.lockWaitS) 4]
/-- The Reel uses unit `u`: it carries a section that belongs to it (R527). DEDUCED, log entry 25. -/
def usesUnit (r : Reel) (u : Nat) : Bool :=
  r.table.any (fun e => knownEntry e && (sectionUnits e.typ).contains u) && r.header.requiredUnits / 2 ^ u % 2 == 1
/-- ROLE PAIR in SPOTLIGHT (R411). -/
def pairRole (r : Reel) : Bool := match r.spotlight with | some x => !x.witness | none => false
/-- A domain whose units the Reel uses (R527). DEDUCED, log entry 25. -/
def domainUsed (r : Reel) (d : Nat) : Bool :=
  match d with
  | 0 | 1 | 2 | 3 | 15 => true
  | 4 | 5 | 6 | 7 => (r.story.getD {}).clusterMask / 2 ^ (d - 4) % 2 == 1
  | 8 => usesUnit r 6 || usesUnit r 7 || usesUnit r 8
  | 9 => usesUnit r 9 || usesUnit r 10
  | 10 => usesUnit r 11 || usesUnit r 12
  | 11 => usesUnit r 5 || ((r.metrology.getD {}).therm.map (fun t => !t.calcs.isEmpty)).getD false
  | 12 => usesUnit r 14 || usesUnit r 16 || pairRole r
  | 13 => usesUnit r 15
  | 14 => usesUnit r 17
  | _ => false
/-- The number that UNIT_ABSENT gives for a domain: its first unit, or its cluster. -/
def domainUnit : Nat → Nat
  | 4 => 0x100 | 5 => 0x101 | 6 => 0x102 | 7 => 0x103 | 8 => 6 | 9 => 9 | 10 => 11 | 11 => 5 | 12 => 14 | 13 => 15 | 14 => 17 | _ => 0
/-- POWER (R526, R527). DEDUCED, log entry 25. -/
def checkPower (r : Reel) (s : State) : Chk :=
  let p := r.power
  firstBad [((List.range 16).find? (fun d => enables r d && !domainFitted s d)).map (fun d => (0x0D, domainUnit d)),
    inBody ((List.range 16).all (fun d => enables r d == domainUsed r d) && decide (p.domainEnable < 65536)) 0,
    inBody (p.idleGating == 0 || (p.idleGating == 1 && r.model.isSome)) 2, inBody (decide (p.crossCompat ≤ 1)) 3,
    inBody (within 50 10000 p.crossTimeoutUs) 4, inBody (decide (p.supplyMode ≤ 1)) 6]
/-- RECORDER (R470). -/
def checkRecorder (x : RecorderSec) (s : State) : Chk :=
  firstBad [inBody (within 10 3600 x.flushS) 0,
    eachNext (fun p i e =>
      let o := 16 + 8 * i
      firstBad [inBody (above (p.map RateEntry.code) e.code && present s (e.code / 256) && !unlimited e.code) o,
        inBody (within 1 8000 e.rate) (o + 2), inBody (within 1 65535 e.burst) (o + 4)]) none 0 x.entries]
/-- SECURITY (R493). -/
def checkSecurity (x : SecuritySec) : Chk :=
  firstBad [inBody (decide (x.tamperAction ≤ 1)) 1, inBody (within 60 (if x.certifiedMode then 900 else 3600) x.idleS) 2,
    inBody (within 600 86400 x.maxS) 4, inBody (within 3 20 x.lockoutFails) 8, inBody (within 60 3600 x.lockoutS) 10,
    inBody (decide (x.mgmtRoles < 32) && !(x.certifiedMode && x.mgmtRoles / 16 % 2 == 1)) 12]
/-- Byte `i` of a 16-byte address. -/
def addrByte (a i : Nat) : Nat := a / 256 ^ i % 256
/-- An IPv4 address stands in the first four bytes of its field. -/
def fitsVersion (v6 : Bool) (a : Nat) : Bool := v6 || decide (a < 2 ^ 32)
/-- An IP multicast address. -/
def multicast (v6 : Bool) (a : Nat) : Bool :=
  fitsVersion v6 a && (if v6 then addrByte a 0 == 255 else within 224 239 (addrByte a 0))
/-- A unicast address: not 0, not multicast, and over IPv4 below the reserved block. -/
def unicast (v6 : Bool) (a : Nat) : Bool :=
  fitsVersion v6 a && a != 0 && (if v6 then addrByte a 0 != 255 else decide (addrByte a 0 < 224))
/-- HOST (R512). -/
def checkHost (x : HostSec) : Chk :=
  let v6 := x.ipv6 == 1
  firstBad [inBody (decide (x.mgmtEnable ≤ 1)) 0, inBody (decide (x.ipv6 ≤ 1)) 1,
    inBody (within 1 (if v6 then 128 else 32) x.prefixLen) 2, inBody (within 1 65535 x.mgmtPort) 4,
    inBody (unicast v6 x.address) 16, inBody (x.gateway == 0 || unicast v6 x.gateway) 32]

/-! ### TIME (R344, R345) -/

/-- No item stands twice. -/
def noRepeat : List Nat → Bool
  | [] => true
  | x :: t => !t.contains x && noRepeat t
/-- A domain of TIME is enabled. -/
def timeEnabled (x : TimeSec) (b : Nat) : Bool := within 2 5 b && (x.domains.getD (b - 2) {}).enabled
/-- TIME by itself. -/
def checkTime (r : Reel) (s : State) : Chk :=
  let x := r.time
  let ports := getF s F.NET.PORTS_PRESENT
  firstBad [
    eachAt (fun k p => inBody (p == 0 || (timeEnabled x p && !(x.priority.take k).contains p)) k) 0 x.priority,
    inBody (within 1 200 x.slewPpm) 4, inBody (within 10 10000 x.alignNs) 6, inBody (within 1 86400 x.holdoverS) 8,
    inBody (decide (x.revertS ≤ 3600)) 12,
    eachAt (fun i d =>
      let o := 32 + 32 * i
      firstBad [
        need (!d.enabled || d.portPair != 0 || ports % 4 == 3) 0x0D (if ports % 2 == 1 then 0x201 else 0x200),
        need (!d.enabled || d.portPair != 1 || ports / 4 % 4 == 3) 0x0D (if ports / 4 % 2 == 1 then 0x203 else 0x202),
        inBody (!d.enabled || carries r 0x12) o,
        inBody (decide (d.ptpDomain ≤ 127) && !(d.enabled && (x.domains.take i).any (fun e => e.enabled && e.portPair == d.portPair &&
          e.ptpDomain == d.ptpDomain))) (o + 1),
        inBody (decide (d.portPair ≤ 1)) (o + 2), inBody (decide (d.servo ≤ 1)) (o + 3), inBody (decide (d.stepMode ≤ 1)) (o + 4),
        inBody (within 10 100000 d.lockNs) (o + 8), inBody (within 100 10000000 d.jumpNs) (o + 12),
        inBody (within 1 64 d.lockCount) (o + 16), inBody (within 100 10000 d.syncTimeoutMs) (o + 18),
        inBody (f32Lt 0 d.kp && f32Le d.kp 0x3F800000) (o + 20), inBody (f32Lt 0 d.ki && f32Le d.ki 0x3F800000) (o + 24),
        inBody (within 1000 1000000000 d.stepNs) (o + 28)]) 0 x.domains,
    eachAt (fun i p => firstBad [inBody (decide (p.1.natAbs ≤ 100000)) (160 + 8 * i),
      inBody (decide (p.2.natAbs ≤ 100000)) (164 + 8 * i)]) 0 x.ports]
/-- LOCK_DOMAIN names an enabled domain, unless TIME_POLICY is FREE: a check of TIME. -/
def checkLockDomain (r : Reel) : Chk :=
  inBody (r.start.timePolicy == 0 || timeEnabled r.time r.start.lockDomain) (32 + 32 * (r.start.lockDomain - 2))

/-! ### CALL_SHEET (R36) -/

/-- Units that may post. -/
def mayPost (u : Nat) : Bool := [8, 9, 10, 11, 12, 16, 17].contains u
/-- The sum of SLICE_CYCLES over a unit's work entries. -/
def sliceSum (x : CallSheet) (u : Nat) : Nat := ((x.works.filter (fun w => w.unit == u)).map WorkEntry.slice).foldl (· + ·) 0
/-- Check 2 on one entry. -/
def checkUnitEntry (s : State) (i : Nat) (e : UnitEntry) : Chk :=
  if present s i then
    sheetBad (e.unit == i && decide (e.flags < 4) && decide (e.limit ≤ 15) && decide (e.maxEntries ≤ 64)) 2
  else firstBad [sheetBad (e.unit == i) 2,
    need (e.flags == 0 && e.limit == 0 && e.maxEntries == 0 && e.startCycle == 0 && e.budgetCycles == 0 && e.safeSet == 0) 0x0D i]
/-- Check 7 on one entry, by itself. -/
def workOk (w : WorkEntry) : Bool :=
  decide (w.flags < 2) && decide (w.phase < w.period) &&
    (if w.unit = 10 then decide (w.work ≤ 3) && w.flags == 0 && within 1 8000 w.period
     else [6, 7, 8].contains w.unit && w.work == 0 && w.flags == 1 && within 2000 28800000 w.period)
/-- No two work entries share UNIT and WORK. -/
def worksDistinct : List WorkEntry → Bool
  | [] => true
  | w :: t => !t.any (fun v => v.unit == w.unit && v.work == w.work) && worksDistinct t
/-- CALL_SHEET by itself. -/
def checkSheet (r : Reel) (s : State) : Chk :=
  let x := r.sheet
  let curtain := x.curtainUs * 500
  firstBad [
    sheetBad (x.version == 1 && x.unitEntryCount == 24 && within 50 120 x.curtainUs && within 1 15 x.overrunLimit) 1,
    eachAt (checkUnitEntry s) 0 x.units,
    sheetBad ((List.range 24).all (fun u =>
      let posts := (x.units.getD u {}).flags / 2 % 2 == 1
      if posts then mayPost u else !(mayPost u && usesUnit r u))) 3,
    sheetBad (x.units.all (fun e => e.budgetCycles == 0 || decide (e.startCycle + e.budgetCycles + 16 ≤ curtain))) 4,
    sheetBad ((List.range 24).all (fun u => decide (sliceSum x u ≤ (x.units.getD u {}).budgetCycles))) 5,
    sheetBad (decide (curtain + x.outputCycles ≤ 62484)) 6,
    sheetBad (x.works.all workOk && worksDistinct x.works) 7]
/-- The SAFE_SET part of check 2. -/
def checkSafeSets (r : Reel) (s : State) : Chk :=
  sheetBad ((List.range 24).all (fun u =>
    let e := r.sheet.units.getD u {}
    !present s u || e.safeSet == 0xFFFFFFFF || decide (e.safeSet < r.safe.sets.length))) 2
/-- A unit's MAX_ENTRIES. -/
def maxEntriesOf (r : Reel) (u : Nat) : Nat := (r.sheet.units.getD u {}).maxEntries

/-! ### POINTS and SAFE_VALUES (R108, R125 to R127) -/

/-- The conditioning of R108 suits the TYPE. -/
def conditioningOk (p : PointCfg) : Bool :=
  (p.typ ≤ 1 || (p.typ == 4 && p.rangeAction != 1) || p.rangeAction == 0) && (decide (p.typ ≤ 1) || p.maxRate == 0)
/-- A filter and its parameter suit the TYPE (R108, R118). -/
def filterOk (p : PointCfg) : Bool :=
  match p.filter with
  | 0 => p.filterParam == 0
  | 1 => p.typ == 0 && within 1 15 p.filterParam
  | 2 => p.typ == 0 && within 1 8 p.filterParam
  | 3 => p.typ == 2 && within 1 255 p.filterParam
  | _ => false
/-- POINTS by itself: every breach carries the entry's offset. -/
def checkPoints (r : Reel) (s : State) : Chk :=
  firstBad [inCap (decide (r.pointCount ≤ 1047552)) 0,
    eachNext (fun prev i p =>
      let o := 16 + 32 * i
      firstBad [
        inBody (above (prev.map PointCfg.index) p.index && within 0x400 0xFFFFF p.index && decide (p.typ ≤ 4) &&
          [5, 9, 10, 11, 12, 14, 16, 17, 0xFF].contains p.source && decide (p.rangeAction ≤ 2) &&
          typedOk p.typ p.lo && typedOk p.typ p.hi && typedOk p.typ p.initial && typedLe p.typ p.lo p.hi &&
          f32Finite p.maxRate && f32Le 0 p.maxRate && conditioningOk p && filterOk p) o,
        need (p.source == 0xFF || present s p.source) 0x0D p.source]) none 0 r.points]
/-- Where the value entries of SAFE_VALUES begin. -/
def safeValuesAt (x : SafeSec) : Nat := 16 + 8 * x.sets.length
/-- The position of a set's value `i`. -/
def safeEntryAt (x : SafeSec) (k : SafeSet) (i : Nat) : Nat := safeValuesAt x + 8 * (k.first + i)
/-- A check on every value of SAFE_VALUES: set number, body offset, values before it in the set, point and value. -/
def eachSafe (x : SafeSec) (f : Nat → Nat → List (Nat × Word) → Nat × Word → Chk) : Chk :=
  lowestBad ((List.range x.sets.length).map (fun n =>
    let k := x.sets.getD n {}
    let l := safeSetValues x k
    eachAt (fun i v => f n (safeEntryAt x k i) (l.take i) v) 0 l))
/-- Two sets share an entry. -/
def setsOverlap (a b : SafeSet) : Bool := decide (a.first < b.first + b.count) && decide (b.first < a.first + a.count)
/-- SAFE_VALUES by itself. -/
def checkSafe (x : SafeSec) : Chk :=
  lowestBad [inCap (decide (x.entryCount ≤ 262144)) 4,
    eachAt (fun i k =>
      let o := 16 + 8 * i
      firstBad [inBody (decide (k.first ≤ x.entryCount) && !(x.sets.take i).any (setsOverlap k)) o,
        inBody (decide (1 ≤ k.count) && decide (k.first + k.count ≤ x.entryCount)) (o + 4)]) 0 x.sets,
    eachSafe x (fun _ o before v => inBody (decide (v.1 < 2 ^ 20) && !before.any (fun w => w.1 == v.1)) o)]
/-- SAFE_VALUES against POINTS: each value fits its point. -/
def checkSafePoints (r : Reel) : Chk :=
  eachSafe r.safe (fun _ o _ v => match pointOf r v.1 with
    | none => inBody false o
    | some p => inBody (typedOk p.typ v.2 && typedLe p.typ p.lo v.2 && typedLe p.typ v.2 p.hi) (o + 4))
/-- SAFE_VALUES against CALL_SHEET and POINTS: a unit's set names only its own points. -/
def checkSafeOwners (r : Reel) : Chk :=
  eachSafe r.safe (fun k o _ v =>
    inBody (r.sheet.units.all (fun e => e.safeSet != k || (pointOf r v.1).map PointCfg.source == some e.unit)) o)

/-! ### LOCAL_IO (R134) -/

/-- The kind of a LIO channel: 0 analog input, 1 analog output, 2 RTD input, 3 digital, 4 pulse. -/
def lioKind (n : Nat) : Nat := if n < 32 then 0 else if n < 48 then 1 else if n < 112 then 2 else if n < 176 then 3 else 4
/-- The highest MODE of a kind. -/
def lioModes : Nat → Nat | 2 => 3 | 4 => 1 | _ => 2
/-- An entry is an input. -/
def lioInput (n : Nat) (c : LioChannel) : Bool := lioKind n == 0 || lioKind n == 2 || lioKind n == 4 || (lioKind n == 3 && c.mode == 1)
/-- The TYPE of a channel's point. -/
def lioType (n : Nat) : Nat := match lioKind n with | 3 => 2 | 4 => 3 | _ => 0
/-- LOCAL_IO by itself. -/
def checkLocalIo (x : List LioChannel) : Chk :=
  firstBad [
    eachAt (fun n c =>
      let o := 16 + 16 * n
      let analog := decide (lioKind n ≤ 2)
      if c.mode = 0 then none
      else firstBad [inBody (decide (c.mode ≤ lioModes (lioKind n))) o,
        inBody (if lioKind n = 3 && c.mode == 1 then decide (c.debounceUs ≤ 10000)
          else if lioKind n = 4 then decide (c.debounceUs ≤ 40) else c.debounceUs == 0) (o + 2),
        inBody (if analog then !f32Eq c.scale 0 else c.scale == 0) (o + 8),
        inBody (analog || c.offset == 0) (o + 12)]) 0 x]
/-- LOCAL_IO against POINTS, for the outputs: the point exists, with its TYPE. -/
def checkLioOutputs (r : Reel) : Chk :=
  eachAt (fun n c => if c.mode = 0 || lioInput n c then none
    else inBody (pointType r c.point == some (lioType n)) (16 + 16 * n + 4)) 0 (r.localIo.getD [])

/-! ### TUNABLES (R82, R219, R257) -/

/-- TUNABLES by itself. -/
def checkTunables (x : TunablesSec) (s : State) : Chk :=
  firstBad [inBody (decide (1 ≤ x.count)) 0, inCap (decide (x.count ≤ 262144)) 0, inBody (within 1 600 x.defaultLifetime) 4,
    eachNext (fun prev i t =>
      let o := 16 + 32 * i
      let same := fun (u : Tunable) => u.kind == t.kind && u.target == t.target && u.lsb == t.lsb
      firstBad [inBody (above (prev.map Tunable.id) t.id && within 1 0xFFFFFF t.id) o,
        inBody (decide (t.cls ≤ 2) && (t.cls == 2) == (t.kind == 5)) (o + 3), inBody (decide (t.typ ≤ 4)) (o + 4),
        inBody (decide (t.kind ≤ 5)) (o + 5), inBody (if t.kind = 0 then decide (t.lsb ≤ 31) else t.lsb == 0) (o + 6),
        inBody (if t.kind = 0 then within 1 32 t.width else t.width == 0) (o + 7),
        need (t.kind != 0 || present s (t.target / 2 ^ 20) || decide (t.target / 2 ^ 20 ≥ 24)) 0x0D (t.target / 2 ^ 20),
        inBody (t.kind != 0 || (targetField t).map Field.access == some .tk) (o + 8),
        inBody (!(x.entries.take i).any same) (o + 8),
        inBody (typedOk t.typ t.min && (t.typ != 2 || t.min == 0)) (o + 12),
        inBody (typedOk t.typ t.max && typedLe t.typ t.min t.max && (t.typ != 2 || t.max == 1)) (o + 16)]) none 0 x.entries]
/-- The checks of one entry against the section that holds its target, KIND 1 to 4. -/
def checkTunableTarget (range : Nat → Word → Bool) (r : Reel) (i : Nat) (t : Tunable) : Chk :=
  let o := 16 + 32 * i
  match t.kind with
  | 1 => match (r.logic.getD {}).consts[t.target]? with
    | none => inBody false (o + 8)
    | some c => inBody (t.typ == c.2) (o + 4)
  | 2 => firstBad [inBody ((r.loops.getD {}).loops.any (fun c => c.loop == t.target / 64) && decide (t.target % 64 ≤ 21)) (o + 8),
      inBody (t.typ == 0) (o + 4), inBody (range (t.target % 64) t.min) (o + 12), inBody (range (t.target % 64) t.max) (o + 16)]
  | 3 => firstBad [inBody (decide (t.target < (r.model.getD {}).params.length)) (o + 8), inBody (t.typ == 0) (o + 4)]
  | 4 => match pointType r t.target with
    | none => inBody false (o + 8)
    | some typ => inBody (t.typ == typ) (o + 4)
  | _ => none
/-- The section that holds a target. -/
def targetSection : Nat → Nat | 1 => 0x0E | 2 => 0x0D | 3 => 0x09 | _ => 0x06

end Sys2Proof.Machine
end

