-- ==== Sys2Proof/Machine/LoadLogic.lean ====
section
/-! DEFINITION. Load checks on LOOPS and LOGIC (R217 to R220, R227, R233, R235, R242, R245, R247 to R250, R252, R254,
R256, R259 to R261). -/

namespace Sys2Proof.Machine

open Sys2Proof

/-- The next multiple of 64. -/
def up64 (n : Nat) : Nat := (n + 63) / 64 * 64
/-- 0 or positive. -/
def notNegative (v : F32) : Bool := f32Le 0 v

/-! ### LOOPS -/

/-- The load range of parameter `p` of a loop of FORM `form` (R219). -/
def paramOk (form p : Nat) (v : F32) : Bool :=
  if p = 4 || p = 7 then f32Finite v && (form == 1 || f32Eq v 0)
  else if p = 10 || p = 16 || p = 20 then notNegative v
  else if p = 15 then f32Le 0 v && f32Le v 0x3F800000
  else if p ≥ 21 then f32Eq v 0
  else f32Finite v
/-- A parameter of a loop. -/
def cfgParam (c : LoopCfg) (p : Nat) : F32 := c.params.getD p 0
/-- The parameters of a loop (R219), at body offset `o`. -/
def checkParams (o : Nat) (c : LoopCfg) : Chk :=
  lowestBad [eachAt (fun _ p => inBody (paramOk c.form p (cfgParam c p)) (o + 64 + 4 * p)) 0 (List.range 64),
    inBody (f32Le (cfgParam c 8) (cfgParam c 9)) (o + 64 + 32),
    inBody (c.comp != 2 || f32Lt (cfgParam c 18) (cfgParam c 19)) (o + 64 + 72)]
/-- A loop entry by itself (R218). -/
def checkLoop (tables o : Nat) (c : LoopCfg) : Chk :=
  lowestBad [inBody (decide (c.form ≤ 1)) (o + 2), inBody (decide (c.rateExp ≤ 12)) (o + 3),
    inBody (decide (c.phase < 2 ^ c.rateExp)) (o + 4), inBody (decide (c.comp ≤ 2)) (o + 6), inBody (decide (c.fallback ≤ 2)) (o + 7),
    inBody (if c.comp = 1 then within 2 4096 c.repLength else c.repLength == 0) (o + 10),
    inBody (c.spFromPoint || c.spPoint == 0) (o + 16), inBody (c.posPoint.isSome == (c.comp == 2)) (o + 24),
    inBody (match c.tableIndex with | some k => c.comp == 2 && decide (k < tables) | none => c.comp != 2) (o + 32),
    inBody (if c.comp = 1 then decide (c.repLead < c.repLength) else c.repLead == 0) (o + 40), checkParams o c]
/-- TRP_CYCLES and the number of due loops in tick `t` (R216). -/
def trpLoad (ls : List LoopCfg) (t : Nat) : Nat × Nat :=
  let due := ls.filter (fun c => loopDue c t)
  (512 + (due.map loopCost).foldl (· + ·) 0, due.length)
/-- WORST_CYCLES and MAX_DUE (R216). -/
def trpWorst (ls : List LoopCfg) : Nat × Nat :=
  (List.range 4096).foldl (fun (a : Nat × Nat) t =>
    let x := trpLoad ls t
    (max a.1 x.1, max a.2 x.2)) (0, 0)
/-- An injection profile (R233). -/
def checkProfile (o : Nat) (p : Profile) : Chk :=
  firstBad [inBody (decide (p.shape ≤ 3)) o, inBody (decide (p.injectAt ≤ 2)) (o + 1), inBody (f32Finite p.amplitude) (o + 4),
    inBody (match p.shape with
      | 0 => p.period == 0
      | 1 => decide (2 ≤ p.period)
      | 2 => decide (4 ≤ p.period)
      | _ => decide (1 ≤ p.period)) (o + 8),
    inBody (within 1 16777216 p.duration) (o + 12),
    inBody (if p.shape = 3 then within 1 0x7FFFFFFF p.seed else p.seed == 0) (o + 16)]
/-- A capture descriptor (R235). -/
def checkCapture (o : Nat) (c : CaptureCfg) : Chk :=
  firstBad [inBody (decide (c.rateExp ≤ 12)) o, inBody (decide (c.trigger ≤ 3)) (o + 1), inBody (decide (c.preSamples < c.samples)) (o + 2),
    inBody (within 1 65536 c.samples) (o + 4), inBody (decide (2 ≤ c.trigger) || c.trigPoint == 0) (o + 8),
    inBody (f32Finite c.trigLevel) (o + 12), eachAt (fun i g => inBody (decide (g.1 < 1024) && decide (g.2 ≤ 8)) (o + 16 + 4 * i)) 0 c.signals]
/-- Where the loop table, the position tables, the profiles (2) and the descriptors (3) of LOOPS begin. -/
def loopsAt (x : LoopsSec) (i : Nat) : Nat := tableOffset x.offsets i
/-- LOOPS by itself (R220). -/
def checkLoops (x : LoopsSec) : Chk :=
  let worst := trpWorst x.loops
  lowestBad [inBody (within 1 1024 x.loopCount) 0, inBody (decide (x.profileCount ≤ 64)) 4, inBody (decide (x.captureCount ≤ 16)) 6,
    inCap (decide (x.maxDue ≤ 512)) 12, inBody (x.worstCycles == worst.1) 8, inBody (x.maxDue == worst.2) 12,
    inBody (decide (x.tableCount ≤ 512)) 16,
    eachNext (fun prev i c =>
      let o := loopsAt x 0 + 320 * i
      lowestBad [inBody (above (prev.map LoopCfg.loop) c.loop && decide (c.loop < 1024)) o, checkLoop x.tableCount o c,
        inBody (!(x.loops.take i).any (fun d => d.outPoint == c.outPoint)) (o + 28),
        inBody (c.tableIndex.isNone || !(x.loops.take i).any (fun d => d.tableIndex == c.tableIndex)) (o + 32)]) none 0 x.loops,
    eachAt (fun i t => eachAt (fun j v => inBody (f32Finite v) (loopsAt x 1 + 2048 * i + 4 * j)) 0 (t.1 ++ t.2)) 0 x.tables,
    eachAt (fun i p => checkProfile (loopsAt x 2 + 32 * i) p) 0 x.profiles,
    eachAt (fun i c => checkCapture (loopsAt x 3 + 32 * i) c) 0 x.captures]
/-- LOOPS against POINTS: inputs are of TYPE 0; an output takes no conditioning. -/
def checkLoopPoints (r : Reel) : Chk :=
  let x := r.loops.getD {}
  let typed := fun (p o : Nat) => inBody (pointType r p == some 0) o
  let used := fun (p : Option Nat) (o : Nat) => (match p with | some i => typed i o | none => none : Chk)
  lowestBad [
    eachAt (fun i c =>
      let o := loopsAt x 0 + 320 * i
      firstBad [typed c.pvPoint (o + 12), used (if c.spFromPoint then some c.spPoint else none) (o + 16), used c.ffPoint (o + 20),
        used c.posPoint (o + 24),
        inBody ((pointOf r c.outPoint).any (fun p => p.typ == 0 && p.rangeAction == 0 && p.filter == 0 && f32Eq p.maxRate 0)) (o + 28),
        (match c.statusPoint with | some p => inBody (pointType r p == some 4) (o + 36) | none => none)]) 0 x.loops,
    eachAt (fun i c => if 2 ≤ c.trigger then typed c.trigPoint (loopsAt x 3 + 32 * i + 8) else none) 0 x.captures]
/-- LOOPS against CALL_SHEET and SAFE_VALUES (R220, 5 and 8). -/
def checkLoopSheet (r : Reel) : Chk :=
  let x := r.loops.getD {}
  let e := r.sheet.units.getD 9 {}
  let set := safeValues r.safe e.safeSet
  lowestBad [eachAt (fun i c => inBody (set.any (fun v => v.1 == c.outPoint)) (loopsAt x 0 + 320 * i + 28)) 0 x.loops,
    inCap (decide (x.worstCycles ≤ e.budgetCycles)) 8, inCap (decide ((x.maxDue + 15) / 16 + 1 ≤ e.maxEntries)) 12]

/-! ### LOGIC: the instruction set (R248 to R250) -/

/-- What an opcode takes: nothing, a bit operand, a word operand, an edge detector, a timer, a counter, a jump. -/
inductive CarForm where
  | none_ | bit | word | edge | timer | counter | jump
deriving DecidableEq, Repr
/-- Slots, form, operand kinds, and the TYPEs of a point or constant; none for an opcode that the table lacks. -/
def carSpec (op : Nat) : Option (Nat × CarForm × List Nat × List Nat) :=
  let w := [0, 1, 3, 4]
  let i := [1, 3, 4]
  if [0x00, 0x0D, 0x0E, 0x10, 0x11, 0x12, 0x13, 0x14, 0x3B].contains op then some (1, .none_, [0], [])
  else if within 0x01 0x07 op then some (1, .bit, [0, 1, 2, 3], [2])
  else if within 0x08 0x0B op then some (1, .bit, [0, 1], [2])
  else if op = 0x0C then some (1, .bit, [0], [0, 1, 2, 3, 4])
  else if within 0x18 0x19 op then some (1, .edge, [0], [])
  else if within 0x1A 0x1C op then some (1, .timer, [0], [])
  else if within 0x1D 0x1E op then some (1, .counter, [0], [])
  else if op = 0x20 || op = 0x35 || op = 0x36 then some (1, .word, [0, 1, 2], w)
  else if op = 0x21 then some (1, .word, [0, 2], w)
  else if op = 0x22 || op = 0x23 || op = 0x26 || op = 0x27 || within 0x30 0x32 op then some (1, .word, [0, 1, 2], i)
  else if op = 0x24 then some (2, .word, [0, 1, 2], i)
  else if op = 0x25 then some (16, .word, [0, 1, 2], i)
  else if within 0x28 0x2A op || within 0x2C 0x2D op then some (2, .word, [0, 1, 2], [0])
  else if op = 0x2B then some (16, .word, [0, 1, 2], [0])
  else if within 0x2E 0x2F op then some (2, .none_, [0], [])
  else if within 0x33 0x34 op then some (1, .word, [0, 1, 2], [0])
  else if within 0x38 0x3A op then some (1, .jump, [0], [])
  else none
/-- Slots of an instruction. -/
def carSlots (w : Word) : Nat := ((carSpec (carOpcode w)).map (fun x => x.1)).getD 0
/-- An instruction's own fields (R248 to R250), points and jump targets apart. -/
def instrOk (x : LogicSec) (w : Word) : Bool :=
  match carSpec (carOpcode w) with
  | none => false
  | some (_, form, kinds, types) =>
    let k := carKind w
    let i := carIndex w
    kinds.contains k && (if carOpcode w = 0x0C then decide (carQbit w ≤ 8) else carQbit w == 0) &&
      (match form with
        | .none_ => i == 0
        | .bit => match k with
          | 0 => decide (0x400 ≤ i)
          | 1 => decide (i < x.flagCount)
          | 2 => decide (i < x.timerCount)
          | _ => decide (i < x.counterCount)
        | .word => match k with
          | 0 => decide (0x400 ≤ i)
          | 1 => (x.consts[i]?).any (fun c => types.contains c.2)
          | _ => decide (i < x.scratchCount)
        | .edge => decide (i < x.edgeCount)
        | .timer => (x.timers[i]?).any (fun t => t.kind + 0x1A == carOpcode w)
        | .counter => decide (i < x.counterCount)
        | .jump => true)
/-- The point that an instruction names, with the TYPEs it may have, and whether it is written. -/
def instrPoint (w : Word) : Option (Nat × List Nat × Bool) :=
  match carSpec (carOpcode w) with
  | some (_, .bit, _, types) => if carKind w = 0 then some (carIndex w, types, within 0x08 0x0B (carOpcode w)) else none
  | some (_, .word, _, types) => if carKind w = 0 then some (carIndex w, types, carOpcode w == 0x21) else none
  | _ => none
/-- What an instruction writes, by class (0 point, 1 flag, 2 scratch word, 3 timer, 4 counter, 5 edge detector) and
index (R245). -/
def instrWrites (w : Word) : Option (Nat × Nat) :=
  let op := carOpcode w
  let i := carIndex w
  if within 0x08 0x0B op then some (if carKind w = 0 then 0 else 1, i)
  else if op = 0x21 then some (if carKind w = 0 then 0 else 2, i)
  else if within 0x1A 0x1C op then some (3, i)
  else if op = 0x1D || op = 0x1E then some (4, i)
  else if within 0x18 0x19 op then some (5, i)
  else none

/-! ### LOGIC: the walk of a task (R252) -/

/-- The depth an address is reached with: none where it is unreachable, or the two depths that differ. -/
def reachDepth (fall : Option Nat) (jumps : List (Nat × Nat)) (a : Nat) : Except Unit (Option Nat) :=
  let ds := fall.toList ++ ((jumps.filter (fun j => j.1 == a)).map Prod.snd)
  match ds with
  | [] => .ok none
  | d :: t => if t.all (· == d) then .ok (some d) else .error ()
/-- The address of the first breach in a task whose instructions end before `stop`. DEDUCED, log entry 83. -/
def walkTask (stop : Nat) : Nat → Option Nat → List (Nat × Nat) → List Word → Option Nat
  | _, _, _, [] => none
  | a, fall, jumps, w :: rest =>
    let op := carOpcode w
    if rest.isEmpty && op ≠ 0x3B then some a
    else match reachDepth fall jumps a with
      | .error () => some a
      | .ok none => walkTask stop (a + 1) none jumps rest
      | .ok (some d) =>
        let pops := op = 0x12 || op = 0x13 || op = 0x14
        if (op = 0x10 && d ≥ 16) || ((op = 0x11 || pops) && d = 0) || (op = 0x3B && d ≠ 0) then some a
        else
          let next := if op = 0x10 then d + 1 else if pops then d - 1 else d
          let isJump := within 0x38 0x3A op
          if isJump && (carIndex w = 0 || a + carIndex w ≥ stop) then some a
          else walkTask stop (a + 1) (if op = 0x38 || op = 0x3B then none else some next)
            (if isJump then (a + carIndex w, d) :: jumps else jumps) rest

/-! ### LOGIC: the body (R259 to R261) -/

/-- The tasks that the section declares, with their numbers. -/
def tasksOf (x : LogicSec) : List (Nat × TaskCfg) := x.tasks.map (fun t => (t.task, t))
/-- The task that holds an address. -/
def taskAt (x : LogicSec) (a : Nat) : Option Nat :=
  ((tasksOf x).find? (fun e => decide (e.2.first ≤ a) && decide (a < e.2.first + e.2.len))).map Prod.fst
/-- Where the tasks (0), instructions (1), constants (2), timers (3), counters (4) and edge keys (5) of LOGIC begin. -/
def logicAt (x : LogicSec) (i : Nat) : Nat := tableOffset x.offsets i
/-- Body offset of the instruction at an address. -/
def instrOffset (x : LogicSec) (a : Nat) : Nat := logicAt x 1 + 4 * a
/-- The task ranges follow one another from address 0 and cover the instructions (R261, 2). -/
def checkRanges (n : Nat) : Nat → Nat → List (Nat × TaskCfg) → Chk
  | o, a, [] => inBody (a == n) (o - 8)
  | o, a, (_, t) :: rest => if t.first = a then checkRanges n (o + 16) (a + t.len) rest else some (0x13, o + 4)
/-- No item is written by two tasks (R245): each instruction against those before it. -/
def checkOwners (x : LogicSec) (a : Nat) (w : Word) : Chk :=
  match instrWrites w with
  | none => none
  | some k =>
    let earlier := (x.instrs.take a).zip (List.range a)
    inBody (!earlier.any (fun e => instrWrites e.1 == some k && taskAt x e.2 != taskAt x a)) (instrOffset x a)
/-- The instruction that runs a timer, a counter or an edge detector; CRST does not count (R256). -/
def runsItem (cls i : Nat) (w : Word) : Bool := carOpcode w != 0x1E && instrWrites w == some (cls, i)
/-- Each item of a class is used by exactly one instruction (R256): a second one, or an item with none. -/
def checkUses (x : LogicSec) (cls size count declared : Nat) : Chk :=
  eachAt (fun _ i =>
    match (x.instrs.zip (List.range x.instrs.length)).filter (fun e => runsItem cls i e.1) with
    | [] => inBody false (declared + size * i)
    | [_] => none
    | _ :: e :: _ => inBody false (instrOffset x e.2)) 0 (List.range count)
/-- Keys of a table: non-zero and unique. -/
def checkKeys (o size : Nat) (ks : List Nat) : Chk :=
  eachAt (fun i k => inBody (k != 0 && !(ks.take i).contains k) (o + size * i)) 0 ks
/-- The instructions of a task. -/
def taskInstrs (x : LogicSec) (t : TaskCfg) : List Word := (x.instrs.drop t.first).take t.len
/-- LOGIC by itself (R261). -/
def checkLogic (x : LogicSec) : Chk :=
  let at_ := logicAt x
  let ts := tasksOf x
  lowestBad [
    inCap (decide (x.instrCount ≤ 1048576)) 0, inCap (decide (x.taskCount ≤ 4)) 4, inCap (decide (x.constCount ≤ 65536)) 8,
    inCap (decide (x.timerCount ≤ 65536)) 12, inCap (decide (x.counterCount ≤ 65536)) 16, inCap (decide (x.edgeCount ≤ 262144)) 20,
    inCap (decide (x.flagCount ≤ 1048576)) 24, inCap (decide (x.scratchCount ≤ 16384)) 28,
    inBody (decide (1 ≤ x.instrCount)) 0, inBody (decide (1 ≤ x.taskCount)) 4,
    eachNext (fun prev i t => lowestBad [inBody (above (prev.map TaskCfg.task) t.task && decide (t.task ≤ 3)) (at_ 0 + 16 * i),
      inBody (decide (1 ≤ t.len)) (at_ 0 + 16 * i + 8),
      inBody (((taskInstrs x t).map carSlots).foldl (· + ·) 0 == t.slots) (at_ 0 + 16 * i + 12)]) none 0 x.tasks,
    checkRanges x.instrCount (at_ 0) 0 ts,
    eachAt (fun a w => inBody (instrOk x w) (instrOffset x a)) 0 x.instrs,
    lowestBad (x.tasks.map (fun t => (walkTask (t.first + t.len) t.first (some 0) [] (taskInstrs x t)).map (fun a => (0x13, instrOffset x a)))),
    eachAt (fun i c => firstBad [inBody (typedOk c.2 c.1) (at_ 2 + 8 * i), inBody (decide (c.2 ≤ 4)) (at_ 2 + 8 * i + 4)]) 0 x.consts,
    eachAt (fun i t => firstBad [inBody ((x.consts[t.preset]?).any (fun c => c.2 == 3)) (at_ 3 + 8 * i + 4),
      inBody (decide (t.kind ≤ 2)) (at_ 3 + 8 * i + 6)]) 0 x.timers,
    eachAt (fun i c => inBody ((x.consts[c.pv]?).any (fun k => k.2 == 1)) (at_ 4 + 8 * i + 4)) 0 x.counters,
    eachAt (checkOwners x) 0 x.instrs, checkUses x 3 8 x.timers.length (at_ 3), checkUses x 4 8 x.counters.length (at_ 4),
    checkUses x 5 4 x.edges.length (at_ 5), checkKeys (at_ 3) 8 (x.timers.map TimerCfg.key), checkKeys (at_ 4) 8 (x.counters.map CounterCfg.key),
    checkKeys (at_ 5) 4 x.edges]
/-- LOGIC against POINTS: each point that an instruction names, its TYPE, and SOURCE 10 where it is written. -/
def checkLogicPoints (r : Reel) : Chk :=
  let x := r.logic.getD {}
  eachAt (fun a w =>
    match instrPoint w with
    | none => none
    | some (i, types, written) =>
      inBody ((pointOf r i).any (fun p => types.contains p.typ && (!written || p.source == 10))) (instrOffset x a)) 0 x.instrs
/-- LOGIC against CALL_SHEET: MAX_ENTRIES (R247). -/
def checkLogicEntries (r : Reel) : Chk := inCap (decide ((tasksOf (r.logic.getD {})).length ≤ maxEntriesOf r 10)) 4
/-- The CAR work entries against LOGIC: CALL_SHEET with detail 5 (R261, 4). -/
def checkTaskWorks (r : Reel) : Chk :=
  let ts := tasksOf (r.logic.getD {})
  let ws := r.sheet.works.filter (fun w => w.unit == 10)
  sheetBad (ws.all (fun w => ts.any (fun e => e.1 == w.work)) &&
    ts.all (fun e => match ws.filter (fun w => w.work == e.1) with
      | [w] => decide (e.2.slots ≤ 2 * w.slice * w.period)
      | _ => false)) 5

end Sys2Proof.Machine
end

