-- ==== Sys2Proof/Machine/LoadModel.lean ====
section
/-! DEFINITION. Load checks on MODEL, STENCILS and SOLVER (R139 to R151, R188, R190, R191, R219, R257). -/

namespace Sys2Proof.Machine

open Sys2Proof

/-! ### MODEL (R139 to R144) -/

/-- Primal and dual rows per step that KIND fixes (R141); none where the Reel chooses. -/
def kindShape : Nat → Option (Nat × Nat)
  | 0 => some (2, 2) | 1 => some (3, 3) | 2 => some (3, 2) | 3 => some (2, 1) | 4 => some (2, 2) | 5 => some (2, 2)
  | 6 => some (2, 2) | 7 => some (3, 3) | 8 => some (2, 1) | 9 => some (4, 2) | 10 => some (3, 1) | _ => none
/-- The variant's largest KKT order (R1). -/
def largestOrder (s : State) : Nat := if bitF s F.JUG.CLUSTERS_PRESENT 2 then 1048576 else 524288
/-- Where the entities (0), inputs, parameters, signs, column pointers and row indices (5) of MODEL begin. -/
def modelAt (m : ModelSec) (i : Nat) : Nat := tableOffset m.offsets i
/-- A row is primal by the entity layout (R140). -/
def primalByLayout (m : ModelSec) (row : Nat) : Bool :=
  match entityOf m row with
  | some e => decide ((row - e.firstRow) % (e.vars + e.cons) < e.vars)
  | none => false
/-- An entity record, whose rows begin at `row` (R140, R141). -/
def checkEntity (m : ModelSec) (i row : Nat) (e : EntityCfg) : Chk :=
  let o := modelAt m 0 + 32 * i
  firstBad [inBody (e.id != 0 && !(m.entities.take i).any (fun d => d.id == e.id)) o, inBody (decide (e.kind ≤ 11)) (o + 4),
    inBody (match kindShape e.kind with | some (v, _) => e.vars == v | none => within 1 16 e.vars) (o + 5),
    inBody (match kindShape e.kind with | some (_, c) => e.cons == c | none => decide (e.cons ≤ 16)) (o + 6),
    inBody (e.firstRow == row) (o + 8), inBody (decide (e.paramFirst + e.paramCount ≤ m.paramCount)) (o + 12),
    inBody (decide (e.inputFirst + e.inputCount ≤ m.inputCount)) (o + 20)]
/-- The entities cover the rows in order. -/
def checkEntities (m : ModelSec) : Nat → Nat → List EntityCfg → Chk
  | _, row, [] => inBody (row == m.rowCount) 8
  | i, row, e :: t =>
    match checkEntity m i row e with
    | some x => some x
    | none => checkEntities m (i + 1) (row + m.horizon * (e.vars + e.cons)) t
/-- The position of an index in a column that breaks the order: the first index is the diagonal, each is above the one
before it and below ROW_COUNT. -/
def columnBreach (m : ModelSec) : Option Nat → Nat → List Nat → Option Nat
  | _, _, [] => none
  | prev, k, i :: t => if above prev i && decide (i < m.rowCount) then columnBreach m (some i) (k + 1) t else some k
/-- Column `j` of the pattern (R142): its pointers, then its indices. -/
def checkColumn (m : ModelSec) (j : Nat) : Chk :=
  let lo := m.colPtr.getD j 0
  let hi := m.colPtr.getD (j + 1) 0
  if hi ≤ lo || m.slotCount < hi then inBody false (modelAt m 4 + 4 * (j + 1))
  else if m.rowIdx.getD lo 0 ≠ j then inBody false (modelAt m 5 + 4 * lo)
  else (columnBreach m none lo ((m.rowIdx.drop lo).take (hi - lo))).map (fun k => (0x13, modelAt m 5 + 4 * k))
/-- MODEL by itself. -/
def checkModel (m : ModelSec) (s : State) : Chk :=
  let n := m.rowCount
  lowestBad [inBody (within 1 192 m.horizon) 0, inBody (within 2000 28800000 m.stepTicks) 4, inCap (decide (n ≤ largestOrder s)) 8,
    inBody (decide (1 ≤ n)) 8, inCap (decide (m.primalCount ≤ n)) 12,
    inBody (decide (1 ≤ m.primalCount) && m.signs.countP id == m.primalCount) 12,
    inCap (decide (m.slotCount ≤ 33554432)) 16, inBody (decide (n ≤ m.slotCount)) 16, inCap (decide (m.entityCount ≤ 262144)) 20,
    inBody (decide (1 ≤ m.entityCount)) 20, inCap (decide (m.inputCount ≤ 65536)) 24, inCap (decide (m.paramCount ≤ 1048576)) 28,
    checkEntities m 0 0 m.entities,
    eachAt (fun i c =>
      let o := modelAt m 1 + 16 * i
      firstBad [inBody (within 0x400 0xFFFFF c.point) o, inBody (decide (c.policy ≤ 3)) (o + 4),
        inBody (if c.policy = 0 then within 1 65535 c.holdRounds else c.holdRounds == 0) (o + 6), inBody (f32Finite c.dflt) (o + 8),
        inBody (if c.policy = 2 then primalByLayout m c.planRow else c.planRow == 0) (o + 12)]) 0 m.inputs,
    eachAt (fun i v => inBody (f32Finite v) (modelAt m 2 + 4 * i)) 0 m.params,
    eachAt (fun i b => inBody (b == primalByLayout m i) (modelAt m 3 + i / 8)) 0 m.signs,
    inBody (m.colPtr.getD 0 0 == 0) (modelAt m 4), inBody (m.colPtr.getD n 0 == m.slotCount) (modelAt m 4 + 4 * n),
    eachAt (fun _ j => checkColumn m j) 0 (List.range n)]
/-- MODEL against POINTS: each input's point is there. -/
def checkModelPoints (r : Reel) : Chk :=
  let m := r.model.getD {}
  eachAt (fun i c => inBody (pointOf r c.point).isSome (modelAt m 1 + 16 * i)) 0 m.inputs

/-! ### STENCILS (R145 to R151) -/

/-- Operands that a kernel uses, A, B and C (R148). -/
def kernelUses (k : Nat) : Bool × Bool × Bool :=
  match k with
  | 0 => (false, false, false)
  | 1 | 7 | 8 => (true, false, false)
  | 6 | 11 | 14 => (true, true, true)
  | _ => (true, true, false)
/-- Every index that a target reaches lies in its range (R146). -/
def targetOk (m : ModelSec) (x : StencilsSec) (e : StencilCfg) : Bool :=
  let reach := fun (r : Nat) => e.target + r * (if e.targetClass = 4 then 1 else e.targetStride)
  (List.range e.rep).all (fun r => match e.targetClass with
    | 0 => decide (reach r < m.slotCount)
    | 1 => decide (reach r < m.rowCount)
    | 2 | 3 => decide (reach r < m.rowCount) && primalRow m (reach r)
    | 4 => decide (reach r < x.scratchCount)
    | _ => false)
/-- Every index that an operand reaches lies in its range (R147). -/
def operandOk (m : ModelSec) (x : StencilsSec) (e : StencilCfg) (o : Nat × Nat) : Bool :=
  match o.1 with
  | 0 => o.2 == 0
  | 1 => decide (o.2 < x.constCount)
  | 2 => decide (o.2 < m.paramCount)
  | 3 => decide (o.2 < m.inputCount)
  | 4 => (List.range e.rep).all (fun r => decide (o.2 + r * e.planStride < m.rowCount) && primalRow m (o.2 + r * e.planStride))
  | 5 => decide (o.2 + e.rep ≤ x.scratchCount)
  | 6 => decide (o.2 ≤ 2)
  | _ => false
/-- The table that a TABLE or SLOPE names (R149). -/
def stencilTableOk (x : StencilsSec) (b : Nat) : Bool :=
  let n := tableCount x.consts b
  f64Finite (x.consts.getD b 0) && f64OfInt n == x.consts.getD b 0 && within 2 256 n && decide (b + 2 * n < x.constCount) &&
    (List.range (n - 1)).all (fun i => f64Lt (tablePoint x.consts b i).1 (tablePoint x.consts b (i + 1)).1)
/-- A stencil entry. -/
def checkStencil (m : ModelSec) (x : StencilsSec) (o : Nat) (e : StencilCfg) : Chk :=
  let (ua, ub, uc) := kernelUses e.kernel
  let operand := fun (used : Bool) (v : Nat × Nat) => if used then operandOk m x e v else v == (0, 0)
  firstBad [inBody (targetOk m x e) o, inBody (decide (e.kernel ≤ 15)) (o + 4),
    inBody (!(e.accumulate && (e.targetClass == 2 || e.targetClass == 3))) (o + 5), inBody (within 1 192 e.rep) (o + 6),
    inBody (operand ua e.a) (o + 12),
    inBody (operand ub e.b && (!(e.kernel == 12 || e.kernel == 13) || (e.b.1 == 1 && stencilTableOk x e.b.2))) (o + 16),
    inBody (operand uc e.c) (o + 20)]
/-- STENCILS by itself. -/
def checkStencils (x : StencilsSec) : Chk :=
  lowestBad [inCap (decide (x.entryCount ≤ 8388608)) 0, inBody (decide (1 ≤ x.entryCount)) 0, inCap (decide (x.constCount ≤ 1048576)) 4,
    inCap (decide (x.evalCount ≤ 268435456)) 8, inBody (x.evalCount == (x.entries.map StencilCfg.rep).foldl (· + ·) 0) 8,
    inCap (decide (x.scratchCount ≤ 65536)) 12]
/-- The entries of STENCILS, against MODEL. -/
def checkStencilEntries (r : Reel) : Chk :=
  let x := r.stencils.getD {}
  eachAt (fun i e => checkStencil (r.model.getD {}) x (stencilsAt x.constCount + 32 * i) e) 0 x.entries

/-! ### SOLVER (R188, R190, R191) -/

/-- 2^k as a binary32. -/
def pow2 (k : Int) : F32 := f32 (.fin false 1 k)
/-- A finite value in a range. -/
def f32Within (lo hi v : F32) : Bool := f32Finite v && f32Le lo v && f32Le v hi
/-- Where the initial plan (0), the rate bitmap (1) and the setpoint map (2) of SOLVER begin. -/
def solverAt (x : SolverSec) (i : Nat) : Nat := tableOffset x.offsets i
/-- SOLVER by itself. -/
def checkSolver (x : SolverSec) : Chk :=
  let p := pow2
  lowestBad [inBody (within 2000 28800000 x.period) 0, inBody (decide (x.phase < x.period)) 4,
    inBody (within 1 64 x.maxIter) 12, inBody (decide (x.refineMax ≤ 8)) 13, inBody (decide (x.terminal ≤ 1)) 14,
    inBody (f32Within (p (-100)) (p (-4)) x.pivotTau) 16, inBody (f32Within (p (-52)) (p (-10)) x.refineTol) 20,
    inBody (f32Within (p (-40)) (p 0) x.feasGate) 24, inBody (f32Within (p (-50)) (p (-4)) x.primalTol) 28,
    inBody (f32Within (p (-50)) (p (-4)) x.dualTol) 32, inBody (f32Within (p (-50)) (p (-4)) x.gapTol) 36,
    inBody (f32Within (p (-10)) (p (-1)) x.sigma) 40, inBody (f32Within (p (-1)) (f32OfRatio 999 1000) x.stepFraction) 44,
    inBody (f32Within (p (-60)) (p (-4)) x.alphaMin) 48, inBody (f32Within (p (-30)) (p 20) x.mu0) 52,
    inBody (f32Within (p (-30)) (p (-2)) x.push) 56, inCap (decide (x.setpointCount ≤ 16384)) 60,
    inBody (x.terminal == 0 || solverAt x 1 != 0) 68,
    eachAt (fun i v => inBody (f64Finite v) (solverAt x 0 + 8 * i)) 0 x.initial,
    eachAt (fun i e =>
      let o := solverAt x 2 + 16 * i
      firstBad [inBody ([1, 2, 6].contains e.kind) (o + 4), inBody (decide (e.convert ≤ 1)) (o + 5),
        inBody (!(x.setpoints.take i).any (fun d => d.kind == e.kind && d.target == e.target)) (o + 8)]) 0 x.setpoints]
/-- SOLVER against MODEL: the rate variables and the setpoints' rows. -/
def checkSolverModel (r : Reel) : Chk :=
  let x := r.solver.getD {}
  let m := r.model.getD {}
  lowestBad [eachAt (fun i b => inBody (!b || primalRow m i) (solverAt x 1 + i / 8)) 0 x.rates,
    eachAt (fun i e => inBody (match entityOf m e.row with
      | some y => decide (e.row < y.firstRow + y.vars)
      | none => false) (solverAt x 2 + 16 * i)) 0 x.setpoints]
/-- What a setpoint of KIND 1 or 2 names (R219, R257). -/
def setpointOk (r : Reel) (e : SetpointCfg) : Bool :=
  if e.kind = 1 then ((r.logic.getD {}).consts[e.target]?).any (fun c => decide (c.2 ≤ 1) && e.convert == c.2)
  else if e.kind = 2 then
    [0, 8, 9, 12, 13].contains (e.target % 64) && e.convert == 0 && (r.loops.getD {}).loops.any (fun c => c.loop == e.target / 64)
  else true
/-- The check of R379 on KIND 6: a setpoint slot of the station, whose TYPE equals CONVERT. -/
def stationSetpointOk (r : Reel) (e : SetpointCfg) : Bool :=
  e.kind != 6 || (r.stations.getD {}).stations.any (fun c => c.station == e.target / 256 &&
    c.slots.any (fun x => x.slot == e.target % 256 && x.output && x.outSource == 1 && x.typ == e.convert))
/-- Setpoints of a KIND against the section that holds their targets. -/
def checkSetpoints (r : Reel) (kind : Nat) : Chk :=
  let x := r.solver.getD {}
  eachAt (fun i e => inBody (e.kind != kind || (setpointOk r e && stationSetpointOk r e)) (solverAt x 2 + 16 * i + 8)) 0 x.setpoints
/-- No setpoint names a target that a tunable also names. -/
def checkSetpointTunables (r : Reel) : Chk :=
  let x := r.solver.getD {}
  eachAt (fun i e => inBody (!(r.tunables.getD {}).entries.any (fun t => t.kind == e.kind && t.target == e.target))
    (solverAt x 2 + 16 * i + 8)) 0 x.setpoints
/-- PROLOGUE_MAX and ITER_MAX together (R188). -/
def longestStart (r : Reel) : Nat :=
  let t := r.story.getD {}
  let u := fun g => runBound (segment t g).2.2
  2 * u 3 + u 2 + iterMax t (r.solver.getD {}).refineMax
/-- DEADLINE_TICKS lies in its range (R188). -/
def checkDeadline (r : Reel) (s : State) : Chk :=
  let x := r.solver.getD {}
  let a := asmTicks { s with cfg := r }
  inBody (within (a + 1 + (longestStart r + 156249) / 156250) (x.period - 16) x.deadline) 8
/-- The ROUND work entries. -/
def roundWorks (r : Reel) : List WorkEntry := r.sheet.works.filter (fun w => [6, 7, 8].contains w.unit)
/-- The ROUND work entries agree with one another and with SOLVER, and the shift is whole and in its range (R188):
CALL_SHEET with detail 7. -/
def checkRounds (r : Reel) : Chk :=
  let x := r.solver.getD {}
  let m := r.model.getD {}
  sheetBad ((roundWorks r).all (fun w => w.period == x.period && w.phase == x.phase) && x.period % m.stepTicks == 0 &&
    within 1 m.horizon (x.period / m.stepTicks)) 7
/-- All three ROUND work entries stand with SOLVER, and none without it (R188), once the last body has been applied. -/
def checkRoundsThere (r : Reel) : Chk := sheetBad ((roundWorks r).length == if r.solver.isSome then 3 else 0) 7

end Sys2Proof.Machine
end

