-- ==== Sys2Proof/Machine/LoadStory.lean ====
section
/-! DEFINITION. Load checks on STORYBOARD: its tables, its operations and their costs, the precedence that the FACTOR
segment needs, and the replay of each segment (R162 to R166, R170 to R176, R181, R197). -/

namespace Sys2Proof.Machine

open Sys2Proof

/-- Where PERM (0), the supernodes (1), the row list (2), the barriers (3) and the operations (4) of STORYBOARD begin. -/
def storyAt (t : StorySec) (i : Nat) : Nat := tableOffset t.offsets i
/-- Round a quotient up. -/
def ceilDiv (a b : Nat) : Nat := (a + b - 1) / b
/-- The numbers of an operation table, first to last. -/
def opNumbers (t : StorySec) (g : Nat) : List Nat := (List.range (segment t g).2.1).map (fun i => (segment t g).1 + i)
/-- Operation `k`. -/
def opAt (t : StorySec) (k : Nat) : StoryOp := t.ops.getD k {}

/-! ### Supernodes (R163) -/

/-- The off-diagonal rows of a supernode. -/
def offRows (t : StorySec) (n : SupernodeCfg) : List Nat := (t.snrows.drop n.snrowFirst).take (n.height - n.width)
/-- A pivot position lies in a supernode's columns. -/
def inColumns (n : SupernodeCfg) (p : Nat) : Bool := decide (n.first ≤ p) && decide (p < n.first + n.width)
/-- A pivot position lies in a panel's rows. -/
def inPanel (t : StorySec) (n : SupernodeCfg) (p : Nat) : Bool := inColumns n p || (offRows t n).contains p
/-- Each element is above the one before it. -/
def risingList : List Nat → Bool
  | a :: b :: t => decide (a < b) && risingList (b :: t)
  | _ => true
/-- A supernode record whose columns begin at `pos` and whose panel begins at `off` in the factor store. -/
def checkSupernode (t : StorySec) (i pos off : Nat) (n : SupernodeCfg) : Chk :=
  let o := storyAt t 1 + 32 * i
  let rows := offRows t n
  firstBad [inBody (n.first == pos) o, inBody (within 1 512 n.width) (o + 4),
    inBody (decide (n.width ≤ n.height) && rows.length == n.height - n.width) (o + 8),
    inBody (risingList rows && rows.all (fun p => decide (n.first + n.width ≤ p) && decide (p < t.rowCount))) (o + 12),
    inBody (n.factorOffset == off) (o + 16),
    inBody (match n.parent, rows with
      | none, [] => true
      | some k, p :: rest => decide (i < k) && (t.supernodes[k]?).any (fun m => inColumns m p && rest.all (inPanel t m))
      | _, _ => false) (o + 20),
    inBody (decide (n.home ≤ 3) && t.clusterMask / 2 ^ n.home % 2 == 1) (o + 24),
    inBody (n.sramAddr % 256 == 0 && decide (n.sramAddr + 4 * panelSize n ≤ 15728640)) (o + 28)]
/-- The supernodes cover the positions and the factor store in order. -/
def checkSupernodes (t : StorySec) : Nat → Nat → Nat → List SupernodeCfg → Chk
  | _, pos, off, [] => firstBad [inBody (pos == t.rowCount) 4, inBody (off == t.factorEntries) 8]
  | i, pos, off, n :: rest =>
    match checkSupernode t i pos off n with
    | some e => some e
    | none => checkSupernodes t (i + 1) (pos + n.width) (off + panelSize n) rest
/-- No cluster is home to more than 262,144 positions (R175, 2): the record that passes it. -/
def checkHomes (t : StorySec) : Chk :=
  eachAt (fun i n => inBody (decide (((t.supernodes.take (i + 1)).filter (fun k => k.home == n.home)).foldl (fun a k => a + k.width) 0
    ≤ 262144)) (storyAt t 1 + 32 * i + 24)) 0 t.supernodes
/-- A stored slot of the pattern falls in the panel of the supernode that owns its column (R175, 3): else that
supernode's record, or PERM where none owns the column. -/
def checkSlot3 (t : StorySec) (m : ModelSec) (k : Nat) : Chk :=
  let a := permPos t (slotRow m k)
  let b := permPos t (slotCol m k)
  match t.supernodes.findIdx? (fun n => inColumns n (min a b)) with
  | some i => inBody (inPanel t (supernode t i) (max a b)) (storyAt t 1 + 32 * i)
  | none => inBody false (storyAt t 0)

/-! ### Operations (R165, R166, R173) -/

/-- Segments that allow an opcode: 0 FACTOR, 1 SOLVE, 2 RESIDUAL, 3 VECTOR. -/
def opSegments : Nat → List Nat
  | 8 | 9 => [0, 1, 2, 3] | 10 | 11 | 12 => [1] | 13 => [2] | 14 => [3] | 15 => [2, 3] | k => if within 1 7 k then [0] else []
/-- CYCLES of an operation (R173). -/
def opCost (t : StorySec) (o : StoryOp) : Nat :=
  let n := supernode t o.target
  let w := n.width
  let e := panelSize n
  let tc := o.tileCount
  let block := ceilDiv (o.count * o.arg * (supernode t o.source).width) (32 * tc)
  match o.opcode with
  | 1 => 32 + ceilDiv (12 * o.count) 108
  | 2 => 64 + 8 * w + ceilDiv (w * w * w) (192 * tc)
  | 3 => 32 + ceilDiv ((n.height - w) * w * w) (64 * tc)
  | 4 => 32 + block
  | 5 => 32 + block + ceilDiv (o.count * o.arg) 16
  | 6 => 32 + ceilDiv (o.count * o.arg) 16
  | 7 => 32 + ceilDiv (4 * e) 108
  | 10 | 12 => 16 + max (ceilDiv e (16 * tc)) (ceilDiv (4 * e) 108)
  | 11 => 16 + ceilDiv w (16 * tc)
  | 13 => 16 + max (ceilDiv (2 * o.count) (16 * tc)) (ceilDiv (12 * o.count) 108)
  | 14 => 32 + max (ceilDiv (o.count * o.arg) (16 * tc)) (ceilDiv (8 * o.count * o.arg) 108)
  | 15 => 64
  | _ => 4
/-- Channel bytes of an operation (R173). -/
def opBytes (t : StorySec) (o : StoryOp) : Nat :=
  match o.opcode with
  | 1 | 13 => 12 * o.count
  | 7 | 10 | 12 => 4 * panelSize (supernode t o.target)
  | 14 => 8 * o.count * o.arg
  | _ => 0
/-- The cost of an operation depends on its tiles. -/
def usesTiles (k : Nat) : Bool := [2, 3, 4, 5, 10, 11, 12, 13, 14].contains k
/-- A block of SOURCE's off-diagonal rows (R165). -/
def blockOk (t : StorySec) (o : StoryOp) : Bool :=
  let q := supernode t o.source
  let stop := q.snrowFirst + (q.height - q.width)
  decide (o.source < t.supernodes.length) && decide (1 ≤ o.count) && decide (1 ≤ o.arg) && decide (q.snrowFirst ≤ o.srcRow) &&
    decide (o.srcRow + o.count ≤ stop) && decide (q.snrowFirst ≤ o.srcCol) && decide (o.srcCol + o.arg ≤ stop)
/-- The stored slots of the pattern that fall in a supernode's columns: the COUNT of its LOAD_PANEL (R166). -/
def columnSlots (t : StorySec) (m : ModelSec) (n : SupernodeCfg) : Nat :=
  (List.range m.slotCount).countP (fun k => inColumns n (min (permPos t (slotRow m k)) (permPos t (slotCol m k))))
/-- Fields that an opcode does not use are 0, and those that it uses lie in their ranges. DEDUCED, log entry 24. -/
def opFieldsOk (t : StorySec) (m : ModelSec) (o : StoryOp) : Bool :=
  let node := decide (o.target < t.supernodes.length)
  let noBlock := o.srcRow == 0 && o.srcCol == 0
  let plain := o.source == 0 && noBlock && o.arg == 0 && o.peer == 0
  match o.opcode with
  | 1 => node && plain && o.count == columnSlots t m (supernode t o.target)
  | 2 | 3 | 7 | 10 | 11 | 12 => node && plain && o.count == 0
  | 4 => node && blockOk t o && o.peer == 0
  | 5 => node && blockOk t o && o.peer != o.cluster && decide (o.peer ≤ 3) && t.clusterMask / 2 ^ o.peer % 2 == 1 &&
      decide (o.count * o.arg * 4 ≤ 262144)
  | 6 => node && blockOk t o && o.peer != o.cluster
  | 8 | 9 => o.target == 0 && o.source == 0 && o.count == 0 && noBlock && o.peer == 0 && decide (o.arg < t.barriers.length)
  | 13 => plain && decide (1 ≤ o.count) && decide (o.target + o.count ≤ m.slotCount)
  | 14 => noBlock && o.peer == 0 && within 1 5 o.source && within 1 64 o.arg && decide (1 ≤ o.count) &&
      decide (o.target + o.count ≤ t.rowCount)
  | 15 => plain && o.target == 0 && o.count == 0
  | _ => false
/-- The cluster that an operation must run on (R166). -/
def opHome (t : StorySec) (o : StoryOp) : Bool :=
  let target := (supernode t o.target).home
  let source := (supernode t o.source).home
  match o.opcode with
  | 1 | 2 | 3 | 7 | 10 | 11 | 12 => o.cluster == target
  | 4 => o.cluster == target && o.cluster == source
  | 5 => o.cluster == source
  | 6 => o.cluster == target && o.peer == source
  | 8 => (t.barriers.getD o.arg (0, 0)).1 / 2 ^ o.cluster % 2 == 1
  | _ => true
/-- Operation `k` of segment `g`. -/
def checkOp (t : StorySec) (m : ModelSec) (g k : Nat) : Chk :=
  let o := opAt t k
  inBody ((opSegments o.opcode).contains g && decide (o.cluster ≤ 3) && t.clusterMask / 2 ^ o.cluster % 2 == 1 &&
    (if usesTiles o.opcode then decide (1 ≤ o.tileCount) && decide (o.tileFirst + o.tileCount ≤ 16)
     else o.tileFirst == 0 && o.tileCount == 0) &&
    (!o.stream || o.opcode == 8 || o.opcode == 9) && opFieldsOk t m o && opHome t o && o.cycles == opCost t o)
    (storyAt t 4 + 32 * k)

/-! ### Precedence (R175, 5 and 7) -/

/-- Operation `a` directly precedes `b` of the same segment: lane order, JOIN, or an ARRIVE and WAIT pair. -/
def directBefore (t : StorySec) (a b : Nat) : Bool :=
  let x := opAt t a
  let y := opAt t b
  (decide (a < b) && x.cluster == y.cluster && (streamLane x == streamLane y || y.joined)) ||
    (x.opcode == 8 && y.opcode == 9 && x.arg == y.arg)
/-- The operations of `ops` that precede one of `found`, in `fuel` further steps. -/
def closeBefore (t : StorySec) (ops : List Nat) : Nat → List Nat → List Nat
  | 0, found => found
  | fuel + 1, found => closeBefore t ops fuel (ops.filter (fun a => found.contains a || found.any (directBefore t a)))
/-- `a` precedes `b` in a segment. -/
def precedes (t : StorySec) (ops : List Nat) (a b : Nat) : Bool :=
  a != b && (closeBefore t ops ops.length [b]).contains a
/-- Operations of the FACTOR segment with an opcode that name a supernode as TARGET, or as SOURCE. -/
def opsOn (t : StorySec) (ops : List Nat) (code k : Nat) : List Nat :=
  ops.filter (fun i => (opAt t i).opcode == code && (opAt t i).target == k)
/-- See opsOn. -/
def opsFrom (t : StorySec) (ops : List Nat) (code k : Nat) : List Nat :=
  ops.filter (fun i => (opAt t i).opcode == code && (opAt t i).source == k)
/-- The order of the operations on supernode `k` (R175, 5). -/
def factorOrderOk (t : StorySec) (ops : List Nat) (k : Nat) : Bool :=
  let before := precedes t ops
  let n := supernode t k
  let into := opsOn t ops 4 k ++ opsOn t ops 6 k
  let out := opsFrom t ops 4 k ++ opsFrom t ops 5 k
  match opsOn t ops 1 k, opsOn t ops 2 k, opsOn t ops 7 k, opsOn t ops 3 k with
  | [ld], [fac], [sto], trs =>
    (n.height == n.width || trs.length == 1) && before ld fac && into.all (fun u => before ld u && before u fac) &&
      before fac sto && out.all (before fac) &&
      trs.all (fun x => before fac x && before x sto && out.all (before x))
  | _, _, _, _ => false
/-- A SEND and the EXTEND_ADD that takes its block. -/
def sendMatches (t : StorySec) (a b : Nat) : Bool :=
  let x := opAt t a
  let y := opAt t b
  y.opcode == 6 && y.source == x.source && y.srcRow == x.srcRow && y.srcCol == x.srcCol && y.count == x.count && y.arg == x.arg &&
    y.cluster == x.peer && y.peer == x.cluster
/-- Each SEND precedes exactly one EXTEND_ADD of its block, and that one the next SEND into the same buffer. -/
def sendOk (t : StorySec) (ops : List Nat) (a : Nat) : Bool :=
  let same := fun (b : Nat) => (opAt t b).opcode == 5 && (opAt t b).cluster == (opAt t a).cluster && (opAt t b).peer == (opAt t a).peer
  match ops.filter (fun b => sendMatches t a b && precedes t ops a b &&
      !(ops.any (fun c => same c && c != a && decide (a < c) && sendMatches t c b && precedes t ops c b))) with
  | [b] => match ops.find? (fun c => same c && decide (a < c)) with
    | some c => precedes t ops b c
    | none => true
  | _ => false
/-- Vector entries that an operation writes: vector (0 X and the others of VECTOR, 1 R, 2 W) and positions. -/
def opWrites (t : StorySec) (m : ModelSec) (o : StoryOp) : List (Nat × Nat) :=
  let n := supernode t o.target
  let cols := (List.range n.width).map (fun i => (2, n.first + i))
  match o.opcode with
  | 10 => cols ++ (offRows t n).map (fun p => (2, p))
  | 11 | 12 => cols
  | 13 => (List.range o.count).flatMap (fun e => [(1, permPos t (slotRow m (o.target + e))), (1, permPos t (slotCol m (o.target + e)))])
  | 14 => (List.range o.count).map (fun i => (0, o.target + i))
  | _ => []
/-- Two operations on different clusters that write one entry, neither before the other. -/
def writesClash (t : StorySec) (m : ModelSec) (ops : List Nat) (a b : Nat) : Bool :=
  (opAt t a).cluster != (opAt t b).cluster &&
    (opWrites t m (opAt t a)).any (fun w => (opWrites t m (opAt t b)).contains w) && !precedes t ops a b && !precedes t ops b a

/-! ### The replay (R170 to R174) -/

/-- A replay in progress: when each operation started and ended, when the channel is free, the arrivals at each
barrier (their count and the cycle of the latest), and whether an ARRIVE fell on a complete one. -/
structure Replay where
  ended : Table (Option (Nat × Nat)) := []
  channelFree : Nat := 0
  arrivals : Table (Nat × Nat) := []
  overfull : Bool := false
deriving DecidableEq, Repr

/-- The start and end of an operation that has run. -/
def ranAt (x : Replay) (k : Nat) : Option (Nat × Nat) := tableGet none x.ended k
/-- The cycle at which operation `k` starts, once everything that it waits for is known. -/
def replayStart (t : StorySec) (ops : List Nat) (x : Replay) (k : Nat) : Option Nat :=
  let o := opAt t k
  let waits := ops.filter (fun i => decide (i < k) && (opAt t i).cluster == o.cluster && (streamLane (opAt t i) == streamLane o || o.joined))
  let count := tableGet (0, 0) x.arrivals o.arg
  let barrier := if o.opcode = 9 then
      (if count.1 ≥ (t.barriers.getD o.arg (0, 0)).2 then some count.2 else none)
    else some 0
  if (ranAt x k).isSome || !waits.all (fun i => (ranAt x i).isSome) then none
  else barrier.map (fun b => waits.foldl (fun a i => max a (((ranAt x i).map Prod.snd).getD 0)) b)
/-- An operation runs from a cycle on. -/
def replayRun (t : StorySec) (k start : Nat) (x : Replay) : Replay :=
  let o := opAt t k
  let bytes := opBytes t o
  let served := max start x.channelFree + ceilDiv bytes 108
  let compute := opCost t o - (if o.opcode = 14 then 32 else 16)
  let tileTerm := match o.opcode with
    | 10 | 12 => ceilDiv (panelSize (supernode t o.target)) (16 * o.tileCount)
    | 13 => ceilDiv (2 * o.count) (16 * o.tileCount)
    | 14 => ceilDiv (o.count * o.arg) (16 * o.tileCount)
    | _ => compute
  let stop :=
    if bytes = 0 then start + opCost t o
    else if o.opcode = 1 || o.opcode = 7 then served + 32
    else max (start + tileTerm) served + (if o.opcode = 14 then 32 else 16)
  let a := tableGet (0, 0) x.arrivals o.arg
  { ended := tablePut none x.ended k (some (start, stop))
    channelFree := if bytes = 0 then x.channelFree else served
    arrivals := if o.opcode = 8 then tablePut (0, 0) x.arrivals o.arg (a.1 + 1, max a.2 stop) else x.arrivals
    overfull := x.overfull || (o.opcode == 8 && decide (a.1 ≥ (t.barriers.getD o.arg (0, 0)).2)) }
/-- An operation that starts at `a` is taken before one that starts at `b`: earlier cycle, lower cluster, stream lane. -/
def takenBefore (t : StorySec) (a b : Nat × Nat) : Bool :=
  let x := opAt t a.1
  let y := opAt t b.1
  decide (a.2 < b.2) || (a.2 == b.2 && (decide (x.cluster < y.cluster) || (x.cluster == y.cluster && streamLane x && !streamLane y)))
/-- The next operation to start. -/
def replayNext (t : StorySec) (ops : List Nat) (x : Replay) : Option (Nat × Nat) :=
  (ops.filterMap (fun k => (replayStart t ops x k).map (fun c => (k, c)))).foldl (fun (best : Option (Nat × Nat)) e =>
    match best with
    | none => some e
    | some b => if takenBefore t e b then some e else some b) none
/-- A segment's operations, one after another in the order of their starts. -/
def replaySegment (t : StorySec) (ops : List Nat) : Nat → Replay → Replay
  | 0, x => x
  | fuel + 1, x => match replayNext t ops x with
    | none => x
    | some (k, c) => replaySegment t ops fuel (replayRun t k c x)
/-- The replay of segment `g`. -/
def replayOf (t : StorySec) (g : Nat) : Replay :=
  let ops := opNumbers t g
  replaySegment t ops ops.length {}
/-- Check 8 on a segment: everything ended, every barrier that it uses complete, and the predicted cycles. -/
def replayOk (t : StorySec) (g : Nat) : Bool :=
  let ops := opNumbers t g
  let x := replayOf t g
  let used := ops.filter (fun k => (opAt t k).opcode == 8 || (opAt t k).opcode == 9)
  ops.all (fun k => (ranAt x k).isSome) && !x.overfull &&
    used.all (fun k => (tableGet (0, 0) x.arrivals (opAt t k).arg).1 == (t.barriers.getD (opAt t k).arg (0, 0)).2) &&
    ops.foldl (fun a k => max a (((ranAt x k).map Prod.snd).getD 0)) 0 == (segment t g).2.2 && decide ((segment t g).2.2 ≤ 0xFFFFFFFF)
/-- While a panel is live in the replay of FACTOR: from LOAD_PANEL's start to STORE_PANEL's end. -/
def liveSpan (t : StorySec) (ops : List Nat) (x : Replay) (k : Nat) : Nat × Nat :=
  ((((opsOn t ops 1 k).head?.bind (ranAt x)).map Prod.fst).getD 0, (((opsOn t ops 7 k).head?.bind (ranAt x)).map Prod.snd).getD 0)
/-- Two panels of one cluster that share bytes while both are live (R175, 6). -/
def panelsClash (t : StorySec) (ops : List Nat) (x : Replay) (a b : Nat) : Bool :=
  let m := supernode t a
  let n := supernode t b
  let (sa, ea) := liveSpan t ops x a
  let (sb, eb) := liveSpan t ops x b
  m.home == n.home && decide (m.sramAddr < n.sramAddr + 4 * panelSize n) && decide (n.sramAddr < m.sramAddr + 4 * panelSize m) &&
    decide (sa < eb) && decide (sb < ea)
/-- ITER_TICKS (R176). -/
def iterTicksOf (t : StorySec) : Nat :=
  let p := fun g => (segment t g).2.2 + 256
  ceilDiv (p 0 + (1 + t.refineSteps) * p 1 + t.refineSteps * p 2 + p 3) 156250

/-! ### The body (R175) -/

/-- The segments follow one another and sum to OP_COUNT. -/
def checkSegments (t : StorySec) : Chk :=
  firstBad [inBody ((segment t 0).1 == 0) 48,
    eachAt (fun _ g => inBody ((segment t (g + 1)).1 == (segment t g).1 + (segment t g).2.1) (48 + 16 * (g + 1))) 0 [0, 1, 2],
    inBody ((segment t 3).1 + (segment t 3).2.1 == t.opCount) (48 + 16 * 3 + 4)]
/-- The clusters that issue ARRIVE on barrier `i`, as a mask. -/
def arrivingMask (t : StorySec) (i : Nat) : Nat :=
  (clusterList.map (fun c => ofBool (t.ops.any (fun o => o.opcode == 8 && o.arg == i && o.cluster == c)) * 2 ^ c)).foldl (· + ·) 0
/-- STORYBOARD by itself: header, tables, and the fields of its barriers. -/
def checkStory (r : Reel) : Chk :=
  let t := r.story.getD {}
  lowestBad [inCap (decide (t.supernodeCount ≤ t.rowCount)) 4, inBody (decide (1 ≤ t.supernodeCount)) 4,
    inCap (decide (t.factorEntries ≤ 100663296)) 8, inBody (decide (t.rowCount ≤ t.factorEntries)) 8,
    inCap (decide (t.opCount ≤ 4194304)) 12, inBody (decide (1 ≤ t.opCount)) 12, inCap (decide (t.snrowCount ≤ t.factorEntries)) 16,
    inCap (decide (t.barrierCount ≤ 4096)) 20, inBody (t.clusterMask == r.header.requiredClusters) 22,
    inBody (decide (t.refineSteps ≤ 8)) 23, inBody (t.iterTicks == iterTicksOf t) 44, checkSegments t,
    eachAt (fun i p => inBody (decide (p < t.rowCount) && !(t.perm.take i).contains p) (storyAt t 0 + 4 * i)) 0 t.perm,
    checkSupernodes t 0 0 0 t.supernodes, checkHomes t,
    eachAt (fun i b => firstBad [inBody (b.1 == arrivingMask t i) (storyAt t 3 + 8 * i), inBody (decide (1 ≤ b.2)) (storyAt t 3 + 8 * i + 2)])
      0 t.barriers]
/-- STORYBOARD against MODEL: the order of the matrix, the pattern and the places of its slots. -/
def checkStoryModel (r : Reel) : Chk :=
  let t := r.story.getD {}
  let m := r.model.getD {}
  lowestBad [inBody (t.rowCount == m.rowCount) 0, inBody (t.patternHash == m.patternHash) 128,
    lowestBad ((List.range m.slotCount).map (checkSlot3 t m))]
/-- STORYBOARD against SOLVER: the refinement steps. -/
def checkStoryRefine (r : Reel) : Chk := inBody ((r.story.getD {}).refineSteps == (r.solver.getD {}).refineMax) 23
/-- The operations, their order, the panels and the replay, which need MODEL's slots. -/
def checkStoryOps (r : Reel) : Chk :=
  let t := r.story.getD {}
  let m := r.model.getD {}
  let ok_ := storyAt t 1
  let oo := storyAt t 4
  let fac := opNumbers t 0
  let x := replayOf t 0
  lowestBad [eachAt (fun _ g => eachAt (fun _ k => checkOp t m g k) 0 (opNumbers t g)) 0 [0, 1, 2, 3],
    eachAt (fun i _ => inBody (factorOrderOk t fac i) (ok_ + 32 * i)) 0 t.supernodes,
    eachAt (fun _ a => inBody ((opAt t a).opcode != 5 || sendOk t fac a) (oo + 32 * a)) 0 fac,
    eachAt (fun i _ => inBody (!(List.range i).any (fun j => panelsClash t fac x i j)) (ok_ + 32 * i)) 0 t.supernodes,
    eachAt (fun _ g => eachAt (fun _ a => inBody (!(opNumbers t g).any (fun b => decide (b < a) && writesClash t m (opNumbers t g) a b))
      (oo + 32 * a)) 0 (opNumbers t g)) 0 [1, 2, 3],
    eachAt (fun _ g => inBody (replayOk t g) (48 + 16 * g + 8)) 0 [0, 1, 2, 3]]

end Sys2Proof.Machine
end

