-- ==== Sys2Proof/Machine/LoadField.lean ====
section
/-! DEFINITION. Load checks on METROLOGY, METERING, NETWORK, LONG_REACH, STATIONS, CAN and SPOTLIGHT (R269 to R272, R275,
R284, R296, R297, R303, R312, R355, R375 to R379, R404 to R406, R411, R412). -/

namespace Sys2Proof.Machine

open Sys2Proof

/-! ### METROLOGY (R269 to R272, R296, R297) -/

/-- n ÷ d as a binary32. -/
def ratio (n : Int) (d : Nat) : F32 := f32OfRatio n d
/-- A voltage channel that an element of a meter may use (R269): L1 to L3 of the set, in order for three elements. -/
def elementVolt (m : MeterCfg) (i ch : Nat) : Bool :=
  if m.wiring = 2 then ch == 3 * m.voltageSet + i else ch / 3 == m.voltageSet
/-- The electrical part by itself, at body offset `o0`. -/
def checkElec (o0 : Nat) (x : ElecMetro) : Chk :=
  let gain := fun (v : F32) => f32Within (ratio 9 10) (ratio 11 10) v
  lowestBad [inBody (x.nominalHz == 50 || x.nominalHz == 60) o0, inBody (decide (x.meterCount ≤ 16)) (o0 + 1), inBody (decide (x.grouping ≤ 2)) (o0 + 2),
    inBody (f32Finite x.nominalV && f32Lt 0 x.nominalV) (o0 + 4), inBody (f32Within (ratio 1 10000) (ratio 1 100) x.noload) (o0 + 8),
    inBody (f32Within (ratio 1 20) (ratio 1 2) x.vloss) (o0 + 12),
    eachAt (fun i v =>
      let o := o0 + 32 + 16 * i
      firstBad [inBody (f32Within (ratio 1 1) (ratio 10000 1) v.ratio) (o + 4), inBody (gain v.gain) (o + 8),
        inBody (f32Finite v.offset && notNegative v.offset) (o + 12)]) 0 x.volts,
    eachAt (fun i c =>
      let o := o0 + 224 + 32 * i
      firstBad [inBody (decide (c.sensor ≤ 2) && (c.sensor == 0 || x.meters.any (fun m => m.elements.contains i))) o,
        inBody (decide (c.voltChannel ≤ 11)) (o + 1),
        inBody (decide (-16384 ≤ c.phaseDelay) && decide (c.phaseDelay ≤ 16383)) (o + 2),
        inBody (f32Finite c.ratio && f32Lt 0 c.ratio) (o + 4), inBody (gain c.iGain) (o + 8),
        inBody (f32Finite c.iOffset && notNegative c.iOffset) (o + 12), inBody (gain c.pGain) (o + 16),
        inBody (f32Finite c.pOffset) (o + 20), inBody (gain c.qGain) (o + 24), inBody (f32Finite c.qOffset) (o + 28)]) 0 x.currents,
    eachNext (fun prev i m =>
      let o := o0 + 1760 + 16 * i
      lowestBad [inBody (above (prev.map MeterCfg.meter) m.meter && decide (m.meter ≤ 15)) o, inBody (within 1 2 m.wiring) (o + 1),
        inBody (decide (m.voltageSet ≤ 3)) (o + 2),
        eachAt (fun j e =>
          let c := x.currents.getD e {}
          lowestBad [inBody (decide (e < 48) && c.sensor != 0 && !(m.elements.take j).contains e &&
              !(x.meters.take i).any (fun n => n.elements.contains e)) (o + 4 + j),
            inBody (elementVolt m j c.voltChannel && (x.volts.getD c.voltChannel {}).used) (o0 + 224 + 32 * e + 1)]) 0 m.elements])
      none 0 x.meters]
/-- The thermal part by itself, at body offset `o0`. -/
def checkTherm (o0 : Nat) (x : ThermMetro) : Chk :=
  let in_ := fun (lo hi : F32) (used : Bool) (v : F32) => if used then f32Within lo hi v else f32Eq v 0
  let half := ratio 1 2
  lowestBad [inBody (decide (x.calcCount ≤ 32)) o0, inBody (f32Eq x.batThreshold 0 || f32Within (ratio 1 200) half x.batThreshold) (o0 + 4),
    eachNext (fun prev i c =>
      let o := o0 + 32 + 64 * i
      let pulse := c.flowKind == 1
      firstBad [inBody (above (prev.map CalcCfg.number) c.number && decide (c.number ≤ 31)) o, inBody (decide (c.mode ≤ 2)) (o + 1),
        inBody (within 1 2 c.flowKind) (o + 2), inBody (decide (c.install ≤ 1)) (o + 3), inBody (decide (c.rtdForward ≤ 63)) (o + 4),
        inBody (decide (c.rtdReturn ≤ 63) && c.rtdReturn != c.rtdForward) (o + 5), inBody (pulse || c.directionPoint.isNone) (o + 12),
        inBody (in_ (ratio 1 1000) (ratio 10000 1) pulse c.volumePerPulse) (o + 16),
        inBody (if pulse then f32Eq c.flowCutoff 0 else f32Finite c.flowCutoff && notNegative c.flowCutoff) (o + 20),
        inBody (f32Within (ratio 1 10) (ratio 5 2) c.pressure) (o + 24), inBody (f32Within 0 (ratio 1 1) c.dtCutoff) (o + 28),
        inBody (in_ 0 (ratio 180 1) (c.mode == 2) c.switchTemp) (o + 32), inBody (f32Within (f32Neg half) half c.tFwdOffset) (o + 36),
        inBody (f32Within (f32Neg half) half c.tRetOffset) (o + 40), inBody (decide (c.tariffSource ≤ 2)) (o + 44),
        inBody (c.tariffPoint.isSome == (c.tariffSource == 1)) (o + 48),
        inBody (in_ 0 (ratio 180 1) (c.tariffSource == 2) c.returnLimit) (o + 52)]) none 0 x.calcs]
/-- METROLOGY by itself. It needs BOE (R71); its thermal part BOT too (R297). -/
def checkMetrology (m : MetrologySec) (s : State) : Chk :=
  lowestBad [need (present s 11) 0x0D 11, need (m.therm.isNone || present s 12) 0x0D 12,
    m.elec.bind (checkElec m.elecAt), m.therm.bind (checkTherm m.thermAt)]
/-- The thermal part against LOCAL_IO: each RTD input measures, uncorrected (R297). -/
def checkThermLio (r : Reel) : Chk :=
  let m := r.metrology.getD {}
  let bare := fun (k : Nat) =>
    let c := (r.localIo.getD []).getD (48 + k) {}
    within 1 3 c.mode && c.scale == 0x3F800000 && f32Eq c.offset 0
  eachAt (fun i c =>
    let o := m.thermAt + 32 + 64 * i
    firstBad [inBody (bare c.rtdForward) (o + 4), inBody (bare c.rtdReturn) (o + 5)]) 0 ((m.therm.map ThermMetro.calcs).getD [])
/-- The thermal part against POINTS: flow, direction and tariff points. -/
def checkThermPoints (r : Reel) : Chk :=
  let m := r.metrology.getD {}
  let typed := fun (p : Option Nat) (t o : Nat) => (match p with | some i => inBody (pointType r i == some t) o | none => none : Chk)
  eachAt (fun i c =>
    let o := m.thermAt + 32 + 64 * i
    firstBad [inBody ((pointOf r c.flowPoint).any (fun p => if c.flowKind = 1 then p.typ == 3 && p.source == 5 else p.typ == 0)) (o + 8),
      typed c.directionPoint 2 (o + 12), typed c.tariffPoint 4 (o + 48)]) 0 ((m.therm.map ThermMetro.calcs).getD [])

/-! ### METERING (R284, R303, R312) -/

/-- The divisors of an hour that an interval may last (R282). -/
def intervalOk (n : Nat) : Bool := [1, 2, 3, 4, 5, 6, 10, 12, 15, 20, 30, 60].contains n
/-- TYPE and the bound on OBJECT of an electrical quantity (R284). -/
def elecQuantity (q : Nat) : Option (Nat × Nat) :=
  if within 1 5 q then some (0, 12) else if q = 6 then some (0, 4) else if within 0x10 0x19 q then some (0, 48)
  else if within 0x20 0x23 q then some (0, 16) else if within 0x24 0x25 q then some (3, 16)
  else if within 0x26 0x27 q then some (0, 16) else if q = 0x28 then some (3, 1) else none
/-- A harmonic quantity. -/
def harmonic (q : Nat) : Bool := q == 4 || q == 5 || q == 0x13 || q == 0x14
/-- TYPE of a thermal quantity (R312). -/
def thermQuantity (q : Nat) : Option Nat :=
  if within 1 6 q then some 0 else if within 7 10 q then some 3 else if q = 11 then some 4 else none
/-- METERING by itself. -/
def checkMetering (m : MeteringSec) (s : State) : Chk :=
  let oe := m.elecAt
  let ot := m.thermAt
  lowestBad [need (m.elec.isNone || present s 11) 0x0D 11, need (m.therm.isNone || present s 12) 0x0D 12,
    m.elec.bind (fun x => firstBad [inBody (intervalOk x.intervalMin) oe, inBody (decide (x.entryCount ≤ 16384)) (oe + 2),
      eachAt (fun i p =>
        let o := oe + 16 + 8 * i
        firstBad [inBody (elecQuantity p.quantity).isSome (o + 4), inBody ((elecQuantity p.quantity).any (fun q => decide (p.object < q.2))) (o + 5),
          inBody (if harmonic p.quantity then within 1 63 p.order else p.order == 0) (o + 6)]) 0 x.points]),
    m.therm.bind (fun x => firstBad [inBody (intervalOk x.intervalMin) ot, inBody (within 1 60 x.saveMin) (ot + 2),
      inBody (decide (x.entryCount ≤ 4096)) (ot + 4),
      eachAt (fun i p =>
        let o := ot + 16 + 8 * i
        firstBad [inBody (thermQuantity p.quantity).isSome (o + 4), inBody (decide (p.object < 32)) (o + 5),
          inBody (if p.quantity = 10 then decide (p.order ≤ 7) else p.order == 0) (o + 6)]) 0 x.points])]
/-- METERING against CALL_SHEET (R275, R303). -/
def checkMeteringEntries (r : Reel) : Chk :=
  let m := r.metering.getD {}
  lowestBad [inCap (m.elec.isNone || decide (5 ≤ maxEntriesOf r 11)) m.elecAt, inCap (m.therm.isNone || decide (2 ≤ maxEntriesOf r 12)) m.thermAt]

/-! ### NETWORK and LONG_REACH (R355, R375 to R379) -/

/-- A backbone port, or a pair, is used. -/
def portInMask (r : Reel) (p : Nat) : Bool := (r.network.getD {}).portMask / 2 ^ p % 2 == 1
/-- See portInMask. -/
def pairInMask (r : Reel) (k : Nat) : Bool := decide (k < 2) && portInMask r (2 * k)
/-- A pair uses IPv6. -/
def pairV6 (r : Reel) (k : Nat) : Bool := (r.network.getD {}).ipv6 / 2 ^ k % 2 == 1
/-- NETWORK by itself. -/
def checkNetwork (r : Reel) (s : State) : Chk :=
  let x := r.network.getD {}
  lowestBad [inCap (decide (x.pointCount ≤ 64)) 76,
    inBody (decide (x.portMask < 16) && portInMask r 0 == portInMask r 1 && portInMask r 2 == portInMask r 3) 0,
    (missingBit 4 x.portMask (getF s F.NET.PORTS_PRESENT)).map (fun p => (0x0D, 0x200 + p)),
    eachAt (fun k m => inBody (decide (m ≤ 1)) (1 + k)) 0 x.modes, inBody (decide (x.ipv6 ≤ 3)) 3, inBody (within 1 65535 x.udpPort) 4,
    inBody (decide (x.dscp ≤ 63)) 6,
    eachAt (fun _ k => inBody (!pairInMask r k || unicast (pairV6 r k) (x.service.getD k 0)) (8 + 16 * k)) 0 [0, 1],
    eachAt (fun _ k => inBody (!pairInMask r k || multicast (pairV6 r k) (x.group.getD k 0)) (40 + 16 * k)) 0 [0, 1],
    inBody (within 500 10000 x.lifeCheckMs) 72, inBody (within 10 10000 x.entryForgetMs) 74]
/-- TYPE of a NETWORK quantity (R376). -/
def netType : Nat → Option Nat | 1 => some 2 | 2 => some 2 | 3 => some 4 | 4 => some 1 | 5 => some 1 | 6 => some 3 | _ => none
/-- The object that an entry names is there (R376, R379). -/
def netObjectOk (r : Reel) (e : NetPoint) : Bool :=
  let domain := timeEnabled r.time (e.object + 2)
  match e.quantity with
  | 1 => if e.object = 4 then pairRole r else decide (e.object < 4) && portInMask r e.object
  | 2 => pairInMask r e.object
  | 3 => domain
  | 4 | 5 => domain && (r.time.domains.getD e.object {}).servo == 0
  | 6 => decide (e.object < 4) && portInMask r e.object
  | _ => false
/-- The point entries of NETWORK, against TIME and SPOTLIGHT. -/
def checkNetEntries (r : Reel) : Chk :=
  eachAt (fun i e =>
    let o := 96 + 8 * i
    firstBad [inBody (netType e.quantity).isSome (o + 4), inBody (netObjectOk r e) (o + 5),
      inBody (!((r.network.getD {}).points.take i).any (fun d => d.point == e.point)) o]) 0 (r.network.getD {}).points
/-- The budget allotment of a power class, in mW (R355). -/
def allotmentMw : Nat → Nat | 10 => 2760 | 11 => 7200 | 12 => 18960 | _ => 0
/-- LONG_REACH by itself. -/
def checkLongReach (x : LongReachSec) : Chk :=
  let used := x.ports.filter (fun p => p.used)
  lowestBad [
    eachAt (fun l p =>
      let o := 16 + 32 * l
      firstBad [inBody ([0, 10, 11, 12].contains p.powerClass) (o + 1), inBody (decide (p.amplitude ≤ 1)) (o + 2),
        inBody (!p.used || unicast p.ipv6 p.addr) (o + 4)]) 0 x.ports,
    inCap (x.budgetMw == (used.map (fun p => allotmentMw p.powerClass)).foldl (· + ·) 0 && decide (x.budgetMw ≤ 32000)) 0]

/-! ### STATIONS (R378, R379) -/

/-- Body offset of a station's slot entry `j`. -/
def slotAt (x : StationsSec) (c : StationCfg) (j : Nat) : Nat := x.slotOffset + 8 * (c.slotFirst + j)
/-- Slots of a direction, and of a class in it. -/
def slotsIn_ (c : StationCfg) (out : Bool) : List SlotCfg := c.slots.filter (fun x => x.output == out)
/-- A slot entry at body offset `o`, the slots before it given. -/
def checkSlot (before : List SlotCfg) (o : Nat) (x : SlotCfg) : Chk :=
  firstBad [inBody (decide (x.slot ≤ 255) && !before.any (fun y => y.output == x.output && y.slot == x.slot)) o,
    inBody (decide (x.cls ≤ 2)) (o + 1), inBody (decide (x.typ ≤ 4) && (x.outSource != 1 || x.typ ≤ 1)) (o + 2),
    inBody (if x.output then decide (x.outSource ≤ 1) else x.outSource == 0) (o + 3)]
/-- STATIONS by itself, with the key store. -/
def checkStations (x : StationsSec) (s : State) : Chk :=
  lowestBad [inBody (within 1 4096 x.stationCount) 0, inBody (within 1 2097152 x.slotCount) 4,
    eachNext (fun prev i c =>
      let o := 16 + 64 * i
      lowestBad [inBody (above (prev.map StationCfg.station) c.station && decide (c.station ≤ 4095)) o, inBody (decide (c.attach ≤ 2)) (o + 2),
        inBody (if c.attach = 2 then decide (c.lrPort ≤ 7) else c.lrPort == 0) (o + 3), inBody (within 1 255 c.missLimit) (o + 4),
        need (hasKey s 4 c.keyId) 0x0A 4,
        inBody (!(x.stations.take i).any (fun d => d.attach == c.attach && d.lrPort == c.lrPort && d.address == c.address)) (o + 16),
        inBody (within 1 60000 c.holdMs) (o + 38), inBody (decide (c.phases.getD 0 0 ≤ 7)) (o + 40),
        inBody (decide (c.phases.getD 1 0 ≤ 63)) (o + 42), inBody (decide (c.phases.getD 2 0 ≤ 7999)) (o + 44),
        inBody (decide (c.launchNs ≤ 124000)) (o + 48),
        inBody (within 1 512 c.slotCount && [false, true].all (fun d => decide ((slotsIn_ c d).length ≤ 256) &&
          [0, 1, 2].all (fun k => decide ((slotsIn_ c d).countP (fun y => y.cls == k) ≤ 160)))) (o + 56),
        eachAt (fun j y => checkSlot (c.slots.take j) (slotAt x c j) y) 0 c.slots]) none 0 x.stations]
/-- STATIONS against NETWORK and LONG_REACH: attachments. -/
def checkAttachments (r : Reel) : Chk :=
  let x := r.stations.getD {}
  eachAt (fun i c =>
    let o := 16 + 64 * i
    let p := (r.longReach.getD {}).ports.getD c.lrPort {}
    if c.attach = 2 then firstBad [inBody p.used (o + 3), inBody (unicast p.ipv6 c.address) (o + 16)]
    else firstBad [inBody (pairInMask r c.attach) (o + 2), inBody (unicast (pairV6 r c.attach) c.address) (o + 16)]) 0 x.stations
/-- Output point slots name points of their TYPE. -/
def checkSlotPoints (r : Reel) : Chk :=
  let x := r.stations.getD {}
  eachAt (fun _ c => eachAt (fun j y =>
    inBody (!(y.output && y.outSource == 0) || pointType r y.arg == some y.typ) (slotAt x c j + 4)) 0 c.slots) 0 x.stations
/-- A frame of the replay of R379: launch time and wire time, in tenths of a nanosecond. -/
abbrev ReplayFrame := Nat × Nat
/-- Insert a frame after every one that is launched no later. -/
def insertLaunch (f : ReplayFrame) : List ReplayFrame → List ReplayFrame
  | [] => [f]
  | g :: t => if f.1 < g.1 then f :: g :: t else g :: insertLaunch f t
/-- The frames of exchange tick `n` on a link: pair 0 or 1, or 2 + l. -/
def linkFrames (r : Reel) (link n : Nat) : List ReplayFrame :=
  let mine := (r.stations.getD {}).stations.filter (fun c => (if c.attach = 2 then 2 + c.lrPort else c.attach) == link)
  let v6 := if link < 2 then pairV6 r link else ((r.longReach.getD {}).ports.getD (link - 2) {}).ipv6
  let perBit := if link ≥ 2 then 1000 else if (r.network.getD {}).modes.getD link 0 = 1 then 10 else 1
  let frames := mine.flatMap (fun c => ((stationClasses c).filter (fun k =>
      ((n : Int) - (c.phases.getD k 0 : Int)) % (classPeriod k : Int) == 0)).map (fun k =>
    let payload := 64 + 8 * (slotsIn_ c true).countP (fun y => y.cls == k)
    (((n + 1) * 125000 + c.launchNs) * 10, (payload + 8 + (if v6 then 40 else 20) + (if link ≥ 2 then 38 else 44)) * 8 * perBit)))
  frames.foldr insertLaunch []
/-- Frames started back to back: when the link is free again, or none when one starts after its late window. -/
def replayLink (window : Nat) : Nat → List ReplayFrame → Option Nat
  | busy, [] => some busy
  | busy, f :: t =>
    let start := max busy f.1
    if start ≤ f.1 + window then replayLink window (start + f.2) t else none
/-- The replay of 8,000 ticks on a link. -/
def linkReplayOk (r : Reel) (link : Nat) : Bool :=
  ((List.range 8000).foldl (fun (a : Option Nat) n =>
    a.bind (fun busy => replayLink (if link ≥ 2 then 100000 else 10000) busy (linkFrames r link n))) (some 0)).isSome
/-- The replay on every link, and at most 1,024 frames in a tick (R379, 8). -/
def checkReplay (r : Reel) : Chk :=
  inCap ((List.range 10).all (linkReplayOk r) &&
    (List.range 8000).all (fun n => decide (((List.range 10).map (fun l => (linkFrames r l n).length)).foldl (· + ·) 0 ≤ 1024))) 0
/-- STATIONS against CALL_SHEET. -/
def checkStationEntries (r : Reel) : Chk := inCap (decide (1 ≤ maxEntriesOf r 16)) 0

/-! ### CAN (R404 to R406) -/

/-- Where a port's buffers (0), filters (1), signals (2), windows (3) and matrix (4) begin. -/
def canAt (p : CanPortCfg) (i : Nat) : Nat := tableOffset p.offsets i
/-- A buffer entry. -/
def checkCanBuffer (p : CanPortCfg) (o : Nat) (prev : Option Nat) (b : CanBufCfg) : Chk :=
  let sig := bufSignals p b
  let bits := sig.flatMap signalBits
  firstBad [inBody (above prev b.buffer && decide (b.buffer ≤ 127)) o, inBody (decide (b.kind ≤ 2) && (p.tt || b.kind != 2)) (o + 1),
    inBody (decide (b.dlc ≤ (if b.fdf then 15 else 8))) (o + 3), inBody (decide (b.id < (if b.ide then 2 ^ 29 else 2 ^ 11))) (o + 4),
    inBody (decide (b.signals ≤ 64) && decide (b.signalFirst + b.signals ≤ p.signalCount)) (o + 8),
    inBody (decide (b.maxAge ≤ 65535) && (b.kind == 0 || b.maxAge == 0)) (o + 14),
    inBody (if b.kind = 1 then within 1 8000 b.period else b.period == 0) (o + 16),
    inBody (if b.kind = 1 then decide (b.phase < b.period) else b.phase == 0) (o + 20),
    inBody (bits.all (fun i => decide (i < 8 * dlcBytes b.dlc)) && noRepeat bits) (o + 8)]
/-- A window entry, with the one before it. -/
def checkWindow (p : CanPortCfg) (o i : Nat) (prev : Option CanWindow) (w : CanWindow) : Chk :=
  firstBad [inBody (decide (w.kind ≤ 3) && (w.kind != 1 || i == 0)) o,
    inBody ((w.kind != 1 || w.startNs == 0) && prev.all (fun v => decide (v.startNs + v.lengthNs ≤ w.startNs))) (o + 4),
    inBody (decide (1 ≤ w.lengthNs) && decide (w.startNs + w.lengthNs ≤ p.cycleTicks * 125000) &&
      (w.kind != 1 || decide (wireBound p false false p.refIde 4 ≤ 2 * w.lengthNs))) (o + 8)]
/-- A cell of the matrix: 0xFF, or a SCHEDULED buffer whose frame fits its EXCLUSIVE window. -/
def cellOk (p : CanPortCfg) (i b : Nat) : Bool :=
  b == 0xFF || match p.windows[i % 64]?, bufCfg p b with
    | some w, some c => w.kind == 2 && c.kind == 2 && decide (wireBound p c.fdf c.brs c.ide c.dlc ≤ 2 * w.lengthNs)
    | _, _ => false
/-- A port. -/
def checkCanPort (o : Nat) (p : CanPortCfg) : Chk :=
  let ob := canAt p 0
  let of_ := canAt p 1
  let os := canAt p 2
  let ow := canAt p 3
  let om := canAt p 4
  lowestBad [inBody (within 1 32 p.nbrp) (o + 1), inBody (within 2 128 p.ntseg1) (o + 2), inBody (within 1 64 p.ntseg2) (o + 3),
    inBody (within 1 p.ntseg2 p.nsjw) (o + 4), inBody (within 1 4 p.dbrp) (o + 5), inBody (within 2 32 p.dtseg1) (o + 6),
    inBody (within 1 16 p.dtseg2) (o + 7), inBody (within 1 p.dtseg2 p.dsjw) (o + 8), inBody (decide (p.tdcOffset ≤ 127)) (o + 9),
    inBody (within 2000 16000 (nominalBit p)) (o + 1), inBody (within 400 (nominalBit p) (dataBit p)) (o + 5),
    inBody (if p.tt then within 1 64 p.windowCount else p.windowCount == 0) (o + 10), inBody (within 1 128 p.bufferCount) (o + 11),
    inBody (decide (p.filterCount ≤ 256)) (o + 12), inBody (decide (p.signalCount ≤ 4096)) (o + 14),
    inBody (if p.tt then within 1 64 p.cycleTicks else p.cycleTicks == 0) (o + 16),
    inBody (if p.tt then decide (p.cyclePhase < p.cycleTicks) else p.cyclePhase == 0) (o + 18),
    inBody (decide (p.refId < (if p.refIde then 2 ^ 29 else 2 ^ 11))) (o + 20),
    eachNext (fun prev i b => checkCanBuffer p (ob + 32 * i) (prev.map CanBufCfg.buffer) b) none 0 p.buffers,
    eachAt (fun i f => firstBad [inBody (decide (f.id < 2 ^ 29)) (of_ + 16 * i), inBody (decide (f.mask < 2 ^ 29)) (of_ + 16 * i + 4),
      inBody (if f.buffer = 0xFF then f.highPriority || f.host else (bufCfg p f.buffer).any (fun b => b.kind == 0))
        (of_ + 16 * i + 9)]) 0 p.filters,
    eachAt (fun i x => firstBad [inBody (decide (x.startBit ≤ 511)) (os + 16 * i), inBody (within 1 32 x.length) (os + 16 * i + 2),
      inBody (!x.float || x.length == 32) (os + 16 * i + 3), inBody (f32Finite x.scale && !f32Eq x.scale 0) (os + 16 * i + 8),
      inBody (f32Finite x.offset) (os + 16 * i + 12)]) 0 p.signals,
    eachNext (fun prev i w => checkWindow p (ow + 16 * i) i prev w) none 0 p.windows,
    eachAt (fun i b => inBody (cellOk p i b) (om + i)) 0 p.matrix,
    eachAt (fun i b => inBody (b.kind != 2 || p.matrix.contains b.buffer) (ob + 32 * i)) 0 p.buffers,
    inBody (!p.tt || !p.buffers.any (fun b => b.kind == 1) || p.windows.any (fun w => w.kind == 3)) ow]
/-- CAN by itself. -/
def checkCan (x : CanSec) : Chk :=
  lowestBad ((List.range 4).map (fun c => (x.ports.getD c none).bind (checkCanPort (tableOffset x.offsets c))))
/-- The signals of a port's buffers: the body offset of the entry, the signal, and whether it is received. -/
def canSignals (p : CanPortCfg) : List (Nat × CanSignal × Bool) :=
  p.buffers.flatMap (fun b => ((List.range b.signals).map (fun j =>
    (canAt p 2 + 16 * (b.signalFirst + j), p.signals.getD (b.signalFirst + j) {}, b.kind == 0))))
/-- Every signal of the section. -/
def allSignals (x : CanSec) : List (Nat × CanSignal × Bool) :=
  ((List.range 4).flatMap (fun c => ((x.ports.getD c none).map canSignals).getD []))
/-- CAN against POINTS: each signal's point exists; types other than 0 take no scaling (R389). -/
def checkCanPoints (r : Reel) : Chk :=
  let l := allSignals (r.can.getD {})
  eachAt (fun i e => inBody ((pointOf r e.2.1.point).any (fun p => p.typ == 0 || (e.2.1.scale == 0x3F800000 && f32Eq e.2.1.offset 0)) &&
    !(e.2.2 && (l.take i).any (fun d => d.2.2 && d.2.1.point == e.2.1.point))) (e.1 + 4)) 0 l
/-- CAN against CALL_SHEET (R404). -/
def checkCanEntries (r : Reel) : Chk := inCap (decide (1 ≤ maxEntriesOf r 17)) 0

/-! ### SPOTLIGHT (R411, R412) -/

/-- SPOTLIGHT by itself, with the variant and the key store: the WN9608, which lacks JUG, is the one that must be
WITNESS. -/
def checkSpotlight (x : SpotlightSec) (s : State) : Chk :=
  let w := x.witness
  firstBad [inBody (w == !present s 8) 0, inBody (w || !x.preferredB) 1, inBody (if w then x.mismatchLimit == 0 else within 1 255 x.mismatchLimit) 2,
    inBody (if w then x.missLimit == 0 else within 2 64 x.missLimit) 3,
    inBody (if w then x.healthMask == 0 else decide (x.healthMask < 2 ^ 24)) 4, need (w || hasKey s 5 x.pairKeyId) 0x0A 5,
    inBody (!w || x.pairKeyId == 0) 8, inBody (if w then x.stepLimitNs == 0 else within 100 10000 x.stepLimitNs) 16,
    inBody (if w then decide (x.startWindowMs ≤ 60000) else x.startWindowMs == 0) 20]
/-- The items that a task's scan can put into its record: stores, and timer, counter and edge instructions. -/
def scanItems (x : LogicSec) (t : TaskCfg) : Nat := ((x.instrs.drop t.first).take t.len).countP (fun w => (instrWrites w).isSome)
/-- The worst mirror delta of a Curtain (R412). DEDUCED, log entry 123. -/
def worstDelta (r : Reel) : Nat :=
  let logic := r.logic.getD {}
  let inputs := ((r.localIo.getD []).zip (List.range 208)).countP (fun e => e.1.mode != 0 && lioInput e.2 e.1)
  120 + 96 * (r.loops.getD {}).maxDue + ((tasksOf logic).map (fun e => 16 + 16 * scanItems logic e.2)).foldl (· + ·) 0 +
    (if inputs = 0 then 0 else 8 + pad8 (4 + 16 * inputs)) + 16 * 1024
/-- SPOTLIGHT against LOOPS, LOGIC and LOCAL_IO. -/
def checkDelta (r : Reel) : Chk := inCap (!pairRole r || decide (worstDelta r ≤ 114688)) 0

end Sys2Proof.Machine
end

