-- ==== Sys2Proof/Machine/Load.lean ====
section
/-! DEFINITION. Load steps 12 and 13 as a whole: the order of the body checks, the points that each source section
names, and the replay of the Splice log (R65, R72, R98, R126, R261, R284, R312, R376, R379, R405). -/

namespace Sys2Proof.Machine

open Sys2Proof

/-! ### Source points (R126) -/

/-- The section in which a SOURCE unit names its points. -/
def sourceSection : Nat → Nat
  | 5 => 0x07 | 9 => 0x0D | 10 => 0x0E | 11 => 0x10 | 12 => 0x10 | 14 => 0x12 | 16 => 0x13 | _ => 0x15
/-- A point that a section names as its own: body offset of the field, the point, its TYPE if the section fixes it. -/
abbrev SourcePoint := Nat × Nat × Option Nat
/-- Items with their positions. -/
def numbered {α : Type} (l : List α) : List (Nat × α) := (List.range l.length).zip l
/-- The points that unit `u` names as theirs. -/
def sourcePoints (r : Reel) (u : Nat) : List SourcePoint :=
  match u with
  | 5 => ((numbered (r.localIo.getD [])).filter (fun e => e.2.mode != 0 && lioInput e.1 e.2)).map
      (fun e => (16 + 16 * e.1 + 4, e.2.point, some (lioType e.1)))
  | 9 => (numbered (r.loops.getD {}).loops).flatMap (fun e =>
      let o := loopsAt (r.loops.getD {}) 0 + 320 * e.1
      (o + 28, e.2.outPoint, some 0) :: e.2.statusPoint.toList.map (fun p => (o + 36, p, some 4)))
  | 10 =>
    let x := r.logic.getD {}
    (numbered x.instrs).filterMap (fun e => match instrPoint e.2 with
      | some (p, _, true) => some (instrOffset x e.1, p, none)
      | _ => none)
  | 11 => (numbered (((r.metering.getD {}).elec.map MeterPart.points).getD [])).map
      (fun e => ((r.metering.getD {}).elecAt + 16 + 8 * e.1, e.2.point, (elecQuantity e.2.quantity).map Prod.fst))
  | 12 =>
    let m := r.metering.getD {}
    (numbered ((m.therm.map MeterPart.points).getD [])).map
      (fun e => (m.thermAt + 16 + 8 * e.1, e.2.point, thermQuantity e.2.quantity))
  | 14 => (numbered (r.network.getD {}).points).map (fun e => (96 + 8 * e.1, e.2.point, netType e.2.quantity))
  | 16 =>
    let x := r.stations.getD {}
    x.stations.flatMap (fun c => ((numbered c.slots).filter (fun e => !e.2.output)).map
      (fun e => (slotAt x c e.1 + 4, e.2.arg, some e.2.typ)))
  | 17 => ((allSignals (r.can.getD {})).filter (fun e => e.2.2)).map (fun e => (e.1 + 4, e.2.1.point, none))
  | _ => []
/-- Units whose points one entry each must name (R376, R379, R405). -/
def namedOnce (u : Nat) : Bool := u == 14 || u == 16 || u == 17
/-- Unit `u`'s section against POINTS: each point that it names exists, with its SOURCE and TYPE. -/
def checkSourceNames (r : Reel) (u : Nat) : Chk :=
  let l := sourcePoints r u
  eachAt (fun i e => inBody ((pointOf r e.2.1).any (fun p => p.source == u && e.2.2.all (· == p.typ)) &&
    !(namedOnce u && (l.take i).any (fun d => d.2.1 == e.2.1))) e.1) 0 l
/-- POINTS against unit `u`'s section: each point with that SOURCE is named there. -/
def checkSourceNamed (r : Reel) (u : Nat) : Chk :=
  let l := sourcePoints r u
  eachAt (fun i p => inBody (p.source != u || l.any (fun e => e.2.1 == p.index)) (16 + 32 * i)) 0 r.points

/-! ### Tunables against the sections that hold their targets (R82) -/

/-- The load range of a parameter of the loop that a tunable names (R219). -/
def tunableRange (r : Reel) (t : Tunable) (p : Nat) (v : Word) : Bool :=
  match (r.loops.getD {}).loops.find? (fun c => c.loop == t.target / 64) with
  | some c => paramOk c.form p v
  | none => true
/-- The tunables of a KIND. -/
def checkTunablesOf (r : Reel) (kind : Nat) : Chk :=
  eachAt (fun i t => if t.kind = kind then checkTunableTarget (tunableRange r t) r i t else none) 0 (r.tunables.getD {}).entries

/-! ### The checks of step 12 in their order -/

/-- The layout of a body: its lowest breach gives CALL_SHEET with check 1, elsewhere SECTION_CONTENT. -/
def layoutCheck (r : Reel) (t : Nat) : Chk :=
  (r.breaches.find? (fun e => e.1 == t)).map (fun e => if t = 0x02 then (0x12, 1) else (0x13, e.2))
/-- The checks that the fields of a section decide by themselves. -/
def fieldCheck (r : Reel) (s : State) (t : Nat) : Chk :=
  match t with
  | 0x01 => checkStart r.start
  | 0x02 => checkSheet r s
  | 0x03 => checkSafe r.safe
  | 0x04 => checkPower r s
  | 0x05 => checkTime r s
  | 0x06 => checkPoints r s
  | 0x07 => r.localIo.bind checkLocalIo
  | 0x08 => r.tunables.bind (fun x => checkTunables x s)
  | 0x09 => r.model.bind (fun x => checkModel x s)
  | 0x0A => r.stencils.bind checkStencils
  | 0x0B => checkStory r
  | 0x0C => r.solver.bind checkSolver
  | 0x0D => r.loops.bind checkLoops
  | 0x0E => r.logic.bind checkLogic
  | 0x0F => r.metrology.bind (fun x => checkMetrology x s)
  | 0x10 => r.metering.bind (fun x => checkMetering x s)
  | 0x12 => checkNetwork r s
  | 0x13 => r.stations.bind (fun x => checkStations x s)
  | 0x14 => r.longReach.bind checkLongReach
  | 0x15 => r.can.bind checkCan
  | 0x16 => r.spotlight.bind (fun x => checkSpotlight x s)
  | 0x17 => r.recorder.bind (fun x => checkRecorder x s)
  | 0x18 => r.security.bind checkSecurity
  | 0x19 => r.host.bind checkHost
  | _ => none
/-- The checks that the body of a section decides by itself. -/
def ownCheck (r : Reel) (s : State) (t : Nat) : Chk := lowerBad (layoutCheck r t) (fieldCheck r s t)
/-- A check between sections: the sections that it reads, the one whose index an error carries, and the check. -/
structure Cross where
  reads : List Nat
  blame : Nat
  chk : Chk
/-- A check that a section's presence calls for. -/
def whenCarried (r : Reel) (t : Nat) (other : List Nat) (chk : Chk) : Cross :=
  { reads := t :: other, blame := t, chk := if carries r t then chk else none }
/-- The checks between sections. DEDUCED, log entry 23. -/
def crossChecks (r : Reel) (s : State) : List Cross :=
  let on := whenCarried r
  [on 0x05 [0x01] (checkLockDomain r), on 0x02 [0x03] (checkSafeSets r s), on 0x03 [0x06] (checkSafePoints r),
    on 0x03 [0x02, 0x06] (checkSafeOwners r), on 0x07 [0x06] (checkLioOutputs r)] ++
  [1, 2, 3, 4].map (fun k => on 0x08 [targetSection k] (checkTunablesOf r k)) ++
  [on 0x0D [0x06] (checkLoopPoints r), on 0x0D [0x02, 0x03] (checkLoopSheet r), on 0x0E [0x06] (checkLogicPoints r),
    on 0x0E [0x02] (checkLogicEntries r), { reads := [0x0E, 0x02], blame := 0x02, chk := checkTaskWorks r },
    on 0x09 [0x06] (checkModelPoints r), on 0x0A [0x09] (checkStencilEntries r), on 0x0C [0x09] (checkSolverModel r),
    on 0x0C [0x0E] (checkSetpoints r 1), on 0x0C [0x0D] (checkSetpoints r 2), on 0x0C [0x13] (checkSetpoints r 6),
    on 0x0C [0x08] (checkSetpointTunables r), on 0x0C [0x09, 0x0A, 0x0B, 0x02] (checkDeadline r s),
    { on 0x0C [0x02] (checkRounds r) with blame := 0x02 }, { reads := [0x00], blame := 0x02, chk := checkRoundsThere r }, on 0x0B [0x09] (checkStoryModel r),
    on 0x0B [0x0C] (checkStoryRefine r), on 0x0B [0x09] (checkStoryOps r)] ++
  [on 0x0F [0x07] (checkThermLio r), on 0x0F [0x06] (checkThermPoints r), on 0x10 [0x02] (checkMeteringEntries r),
    on 0x12 [0x05, 0x16] (checkNetEntries r), on 0x13 [0x12, 0x14] (checkAttachments r), on 0x13 [0x06] (checkSlotPoints r),
    on 0x13 [0x12, 0x14] (checkReplay r), on 0x13 [0x02] (checkStationEntries r), on 0x15 [0x06] (checkCanPoints r),
    on 0x15 [0x02] (checkCanEntries r), on 0x16 [0x0D, 0x0E, 0x07] (checkDelta r)] ++
  [5, 9, 10, 11, 12, 14, 16, 17].flatMap (fun u =>
    [on (sourceSection u) [0x06] (checkSourceNames r u),
      { reads := [sourceSection u, 0x06], blame := 0x06, chk := checkSourceNamed r u }])
/-- The position at which a check between sections is made: when the last of them is applied, and once the last body
has been applied where one is absent. -/
def crossAt (r : Reel) (x : Cross) : Nat := (x.reads.map (sectionPos r)).foldl max 0
/-- A load error: code, section index, detail. -/
abbrev LoadError := Nat × Nat × Nat
/-- The first failing check between sections at a position. -/
def crossError (r : Reel) (s : State) (p : Nat) : Option LoadError :=
  (crossChecks r s).findSome? (fun x => if crossAt r x = p then x.chk.map (fun e => (e.1, sectionIndex r x.blame, e.2)) else none)
/-- An entry's own error: an unknown section without OPTIONAL gives UNSUPPORTED (R65). -/
def entryError (r : Reel) (s : State) (p : Nat) (e : SectionEntry) : Option LoadError :=
  if knownEntry e then (ownCheck r s e.typ).map (fun x => (x.1, p, x.2))
  else if entOptional e then none
  else some (0x14, p, 0)
/-- Sections in table order: each one's own checks, then those between it and others before it. -/
def bodyErrors (r : Reel) (s : State) : Nat → List SectionEntry → Option LoadError
  | _, [] => none
  | p, e :: t =>
    match entryError r s p e with
    | some x => some x
    | none => match crossError r s p with
      | some x => some x
      | none => bodyErrors r s (p + 1) t
/-- A section that R65 requires and the Reel lacks. -/
def sectionsMissing (r : Reel) (s : State) : Bool :=
  ([1, 2, 3, 4, 5, 6].any (fun t => !carries r t)) || (carries r 0x09 && [0x0A, 0x0B, 0x0C].any (fun t => !carries r t)) ||
    (carries r 0x0F && !carries r 0x11) || (!present s 8 && (!carries r 0x12 || !carries r 0x16))
/-- Step 12. DEDUCED, log entries 23 and 24. -/
def checkBodies (r : Reel) (s : State) : Option LoadError :=
  match bodyErrors r s 0 r.table with
  | some x => some x
  | none =>
    if sectionsMissing r s then some (0x13, 0xFF, 0) else crossError r s r.table.length

/-! ### Step 13 (R73, R98) -/

/-- An entry's writes name declared tunables, with their TYPE, outside METROLOGY (R98, R292). -/
def writesOk (r : Reel) (e : LogEntry) : Bool :=
  e.writes.all (fun w => ((r.tunables.getD {}).entries.find? (fun t => t.id == w.id)).any (fun t => t.typ == w.typ && t.cls != 2))
/-- ENTRY_LENGTH of a TAKE entry is a multiple of 64 that holds a head, a write and a mark; a marked one's is that of its
writes. -/
def lengthOk (e : LogEntry) : Bool :=
  if e.mark = .marked then e.length == entryLength e.writes.length else e.length % 64 == 0 && decide (e.length ≥ entryLength 1)
/-- The number of the first bad entry: `n` counts entries, `last` and `chain` are the Take ID and the CHAIN of the marked
one before. DEDUCED, log entry 29. -/
def badEntry (r : Reel) : Nat → Nat → List Nat → List LogEntry → Option Nat
  | _, _, _, [] => none
  | n, last, chain, e :: t =>
    match e.mark with
    | .filler => badEntry r n last chain t
    | .unmarked => if lengthOk e then badEntry r (n + 1) last chain t else some n
    | .unreadable => some n
    | .marked =>
      if lengthOk e && decide (last < e.takeId) && e.chain == chainOf chain e && writesOk r e then
        badEntry r (n + 1) e.takeId e.chain t
      else some n
/-- The Splice log is bound to this Reel. -/
def logIsOf (r : Reel) (s : State) : Bool := logHash s == r.hash
/-- Step 13. DEDUCED, log entry 29. -/
def checkSplice (r : Reel) (s : State) : Option LoadError :=
  if logIsOf r s then (badEntry r 0 0 (bytesOfWords r.hash) s.txn.log).map (fun n => (0x16, 0xFF, n)) else none

/-! ### The load as a whole -/

/-- The Reel of an image, as the module's key store lets it be read. -/
def loadedReel (x : ReelImage) (s : State) : Reel := readReel (keyMaterial s 2 (readHeader x.header).reelKeyId) x
/-- The first step that fails of steps 1 to 13 (R72), for an image and the Reel that it holds. -/
def loadErrorOf (x : ReelImage) (r : Reel) (c : CardInfo) (s : State) : Option LoadError :=
  match checkForm x r c s with
  | some e => some e
  | none => match wakeError r c s with
    | some d => some (0x11, 0xFF, d)
    | none => match checkBodies r s with
      | some e => some e
      | none => checkSplice r s
/-- The first step that fails. DEDUCED, log entry 23. -/
def loadError (x : ReelImage) (c : CardInfo) (s : State) : Option LoadError := loadErrorOf x (loadedReel x s) c s

end Sys2Proof.Machine
end

