-- ==== Sys2Proof/Machine/Apply.lean ====
section
/-! DEFINITION. What a Reel that passes puts into the units: the LK registers, and the starting values of the TK ones
(R6, R47, R72, R105, R137, R159, R184, R185, R238, R266, R293, R321, R347, R380 to R382, R408, R432, R455, R472, R495,
R507, R511, R533). -/

namespace Sys2Proof.Machine

open Sys2Proof

/-- Write several fields. -/
def putFields (l : List (Field × Nat)) (s : State) : State := l.foldl (fun t e => setF e.1 e.2 t) s

/-- TICK, from CALL_SHEET. -/
def tickFields (r : Reel) : List (Field × Nat) :=
  let x := r.sheet
  [(F.TICK.CONFIG_OVERRUN_LIMIT, x.overrunLimit), (F.TICK.CONFIG_CURTAIN_US, x.curtainUs),
    (F.TICK.CURTAIN_CYCLE, x.curtainUs * 500), (F.TICK.OUTPUT_CYCLES, x.outputCycles),
    (F.TICK.WORK_COUNT, x.works.length)] ++
  (numbered x.units).flatMap (fun e => [(F.TICK.UNIT_BUDGET_START_CYCLE e.1, e.2.startCycle),
    (F.TICK.UNIT_BUDGET_BUDGET_CYCLES e.1, e.2.budgetCycles), (F.TICK.UNIT_STATE_POSTS e.1, e.2.flags / 2 % 2),
    (F.TICK.UNIT_STATE_LIMIT e.1, if e.2.limit = 0 then x.overrunLimit else e.2.limit)]) ++
  (numbered x.works).flatMap (fun e => [(F.TICK.WORK_ID_ROUND e.1, e.2.flags % 2), (F.TICK.WORK_ID_UNIT e.1, e.2.unit),
    (F.TICK.WORK_ID_WORK e.1, e.2.work), (F.TICK.WORK_PERIOD e.1, e.2.period), (F.TICK.WORK_PHASE e.1, e.2.phase),
    (F.TICK.WORK_SLICE e.1, e.2.slice)])
/-- The words of a hash in their registers. -/
def hashFields (f : Nat → Field) (h : List Nat) : List (Field × Nat) := (List.range 12).map (fun i => (f i, h.getD i 0))
/-- CLAP, from TIME. -/
def clapFields (r : Reel) : List (Field × Nat) :=
  let x := r.time
  [(F.CLAP.CONFIG_SLEW_PPM, x.slewPpm), (F.CLAP.CONFIG_ALIGN_NS, x.alignNs),
    (F.CLAP.CONFIG_ENABLED, ((numbered x.domains).map (fun e => ofBool e.2.enabled * 2 ^ e.1)).foldl (· + ·) 0)] ++
  (numbered x.domains).flatMap (fun e => [(F.CLAP.BASE_PTP_DOMAIN (e.1 + 2), e.2.ptpDomain), (F.CLAP.BASE_SERVO (e.1 + 2), e.2.servo)]) ++
  (numbered x.ports).flatMap (fun e => [(F.CLAP.RX_ADJ e.1, ofSigned 32 e.2.1), (F.CLAP.TX_ADJ e.1, ofSigned 32 e.2.2)])
/-- ASM, STB and JUG, from MODEL, STENCILS, STORYBOARD, SOLVER and POWER. -/
def solverFields (r : Reel) : List (Field × Nat) :=
  let m := r.model.getD {}
  let e := r.stencils.getD {}
  let t := r.story.getD {}
  let x := r.solver.getD {}
  let a := if r.model.isNone then [] else [(F.ASM.ROW_COUNT, m.rowCount), (F.ASM.SLOT_COUNT, m.rowIdx.length),
    (F.ASM.EVAL_COUNT, e.evalCount), (F.ASM.PREDICTED_CYCLES, asmCycles m e), (F.ASM.HORIZON, m.horizon), (F.ASM.STEP_TICKS, m.stepTicks)]
  let b := if r.story.isNone then [] else [(F.STB.OP_COUNT, t.ops.length), (F.STB.SUPERNODE_COUNT, t.supernodes.length),
    (F.STB.FACTOR_ENTRIES, t.factorEntries), (F.STB.ITER_TICKS, t.iterTicks), (F.STB.REFINE_STEPS, t.refineSteps),
    (F.JUG.CONFIG_USED, t.clusterMask)] ++
    [0, 1, 2, 3].flatMap (fun g => [(F.STB.PRED_CYCLES g, (segment t g).2.2), (F.JUG.CLUSTER_STATE_USED g, t.clusterMask / 2 ^ g % 2)])
  let c := if r.solver.isNone then [] else [(F.JUG.ITER_MAX, iterMax t x.refineMax), (F.JUG.SOLVE_CONFIG_SHIFT_STEPS, x.period / m.stepTicks),
    (F.JUG.SOLVE_CONFIG_START_GUARD, ofBool x.startGuard), (F.JUG.SOLVE_CONFIG_TERMINAL, x.terminal),
    (F.JUG.SOLVE_CONFIG_REFINE_MAX, x.refineMax), (F.JUG.SOLVE_CONFIG_MAX_ITER, x.maxIter), (F.JUG.PERIOD_TICKS, x.period),
    (F.JUG.PHASE_TICKS, x.phase), (F.JUG.DEADLINE_TICKS, x.deadline), (F.JUG.PIVOT_TAU, x.pivotTau.toNat),
    (F.JUG.REFINE_TOL, x.refineTol.toNat), (F.JUG.FEAS_GATE, x.feasGate.toNat), (F.JUG.PRIMAL_TOL, x.primalTol.toNat),
    (F.JUG.DUAL_TOL, x.dualTol.toNat), (F.JUG.GAP_TOL, x.gapTol.toNat), (F.JUG.SIGMA, x.sigma.toNat),
    (F.JUG.STEP_FRACTION, x.stepFraction.toNat), (F.JUG.ALPHA_MIN, x.alphaMin.toNat), (F.JUG.MU0, x.mu0.toNat), (F.JUG.PUSH, x.push.toNat)]
  a ++ b ++ c ++ [(F.JUG.CONFIG_IDLE_GATING, r.power.idleGating)]
/-- PIMG, TRP and CAR, from POINTS, LOOPS and LOGIC. -/
def workFields (r : Reel) : List (Field × Nat) :=
  let l := r.loops.getD {}
  let x := r.logic.getD {}
  [(F.PIMG.POINT_COUNT, r.points.length), (F.TRP.LOOP_COUNT, l.loops.length), (F.TRP.MAX_DUE, l.maxDue),
    (F.TRP.PREDICTED_CYCLES, l.worstCycles), (F.CAR.INSTR_COUNT, x.instrs.length), (F.CAR.TIMER_COUNT, x.timers.length),
    (F.CAR.COUNTER_COUNT, x.counters.length), (F.CAR.EDGE_COUNT, x.edges.length)] ++
  l.loops.map (fun c => (F.TRP.LOOP_STATUS_CONFIGURED c.loop, 1)) ++
  (tasksOf x).flatMap (fun e => [(F.CAR.TASK_FIRST e.1, e.2.first), (F.CAR.TASK_SLOTS e.1, e.2.slots), (F.CAR.TASK_STATE_CONFIGURED e.1, 1)])
/-- BOE, from the electrical part of METROLOGY. -/
def boeFields (x : ElecMetro) : List (Field × Nat) :=
  [(F.BOE.METER_COUNT, x.meters.length)] ++
  [0, 1, 2, 3].map (fun k => (F.BOE.SET_STATE_ACTIVE k, ofBool (x.meters.any (fun m => m.voltageSet == k)))) ++
  x.meters.flatMap (fun m => [(F.BOE.METER_STATE_VOLTAGE_SET m.meter, m.voltageSet), (F.BOE.METER_STATE_WIRING m.meter, m.wiring),
    (F.BOE.METER_STATE_CONFIGURED m.meter, 1)]) ++
  (numbered x.volts).flatMap (fun e => [(F.BOE.V_STATE_USED e.1, ofBool e.2.used), (F.BOE.V_RATIO e.1, e.2.ratio.toNat),
    (F.BOE.V_GAIN e.1, e.2.gain.toNat), (F.BOE.V_OFFSET e.1, e.2.offset.toNat)]) ++
  (numbered x.currents).flatMap (fun e => [(F.BOE.I_STATE_USED e.1, ofBool (e.2.sensor != 0)), (F.BOE.I_RATIO e.1, e.2.ratio.toNat),
    (F.BOE.I_GAIN e.1, e.2.iGain.toNat), (F.BOE.I_OFFSET e.1, e.2.iOffset.toNat), (F.BOE.P_GAIN e.1, e.2.pGain.toNat),
    (F.BOE.P_OFFSET e.1, e.2.pOffset.toNat), (F.BOE.Q_GAIN e.1, e.2.qGain.toNat), (F.BOE.Q_OFFSET e.1, e.2.qOffset.toNat),
    (F.BOE.PHASE_DELAY e.1, ofSigned 32 e.2.phaseDelay)])
/-- BOE and BOT, from METROLOGY, its seal and METERING. -/
def meterFields (r : Reel) : List (Field × Nat) :=
  let m := r.metrology.getD {}
  let th := ((r.metering.getD {}).therm.map (fun p => [(F.BOT.CONFIG_SAVE_MIN, p.saveMin), (F.BOT.CONFIG_INTERVAL_MIN, p.intervalMin)])).getD []
  (m.elec.map boeFields).getD [] ++ hashFields F.BOE.METRO_HASH (r.metroSeal.getD {}).hash ++ th ++
  (m.therm.map (fun x => (F.BOT.CONFIG_CALC_COUNT, x.calcs.length) :: x.calcs.flatMap (fun c =>
    [(F.BOT.CALC_STATE_CONFIGURED c.number, 1), (F.BOT.CALC_STATE_MODE c.number, c.mode)]))).getD []
/-- NET, LRP and STN, from NETWORK, LONG_REACH, STATIONS and SPOTLIGHT. -/
def portFields (r : Reel) : List (Field × Nat) :=
  let n := r.network.getD {}
  let l := r.longReach.getD {}
  let t := r.stations.getD {}
  [(F.NET.CONFIG_IPV6, n.ipv6), (F.NET.CONFIG_MODE_1, n.modes.getD 1 0), (F.NET.CONFIG_MODE_0, n.modes.getD 0 0),
    (F.NET.CONFIG_USED, n.portMask), (F.NET.MIRROR_STATE_ENABLED, ofBool (pairRole r)), (F.NET.STATUS_RUNNING, ofBool (enables r 12)),
    (F.LRP.BUDGET_MW, l.budgetMw), (F.LRP.STATUS_RUNNING, ofBool (enables r 13)), (F.STN.STATION_COUNT, t.stations.length)] ++
  [0, 1, 2, 3].map (fun p => (F.NET.PORT_STATE_USED p, n.portMask / 2 ^ p % 2)) ++
  (numbered l.ports).flatMap (fun e => [(F.LRP.PORT_STATE_AMPLITUDE e.1, e.2.amplitude),
    (F.LRP.PORT_STATE_CLASS e.1, e.2.powerClass - 8), (F.LRP.PORT_STATE_USED e.1, ofBool e.2.used)]) ++
  t.stations.flatMap (fun c => [(F.STN.ST_STATE_CONFIGURED c.station, 1),
    (F.STN.ST_STATE_CLASSES c.station, ((stationClasses c).map (2 ^ ·)).foldl (· + ·) 0)])
/-- CAN, from its section. -/
def canFields (r : Reel) : List (Field × Nat) :=
  (F.CAN.STATUS_RUNNING, ofBool (enables r 14)) :: (numbered (r.can.getD {}).ports).flatMap (fun e => match e.2 with
    | none => []
    | some p => [(F.CAN.PORT_STATE_USED e.1, 1), (F.CAN.PORT_STATE_TT e.1, ofBool p.tt), (F.CAN.PORT_STATE_AUTO_RECOVER e.1, ofBool p.autoRecover),
        (F.CAN.BUF_STATUS_CONFIGURED e.1 128, 1)] ++
      p.buffers.flatMap (fun b => [(F.CAN.BUF_STATUS_CONFIGURED e.1 b.buffer, 1), (F.CAN.BUF_STATUS_KIND e.1 b.buffer, b.kind)]))
/-- SPOT, MEM, CONT, SEC, HOST and PWR, from SPOTLIGHT, POWER, RECORDER, SECURITY and HOST. -/
def systemFields (r : Reel) : List (Field × Nat) :=
  let x := r.security.getD {}
  let p := r.power
  [(F.SPOT.DELTA_BOUND, if pairRole r then worstDelta r else 0), (F.MEM.CROSS_TIMEOUT, p.crossTimeoutUs),
    (F.CONT.FLUSH_S, (r.recorder.getD {}).flushS), (F.SEC.CONFIG_IDLE_S, x.idleS), (F.SEC.CONFIG_MGMT_ROLES, x.mgmtRoles),
    (F.SEC.CONFIG_TAMPER_ACTION, x.tamperAction), (F.SEC.CONFIG_CERTIFIED_MODE, ofBool x.certifiedMode),
    (F.PWR.CONFIG_SUPPLY_MODE, p.supplyMode), (F.PWR.CONFIG_IDLE_GATING, p.idleGating), (F.PWR.CONFIG_DOMAIN_ENABLE, p.domainEnable),
    (F.PWR.CROSS_COMPAT, p.crossCompat)] ++
  ((r.recorder.getD {}).entries.map (fun e => (F.CONT.CODE_STATE_RATE e.code, e.rate))) ++
  (match r.host with
    | some h => [(F.HOST.CONFIG_MGMT_PORT, h.mgmtPort), (F.HOST.CONFIG_IPV6, h.ipv6), (F.HOST.CONFIG_MGMT_ENABLE, h.mgmtEnable)]
    | none => [])
/-- Every field that a Reel sets. -/
def reelFields (r : Reel) : List (Field × Nat) :=
  tickFields r ++ hashFields F.TXN.REEL_HASH r.hash ++ clapFields r ++ solverFields r ++ workFields r ++ meterFields r ++ portFields r ++
    canFields r ++ systemFields r
/-- What the sections change beyond registers: the Reel in force, the recorder's bursts, the HOST settings in flash. -/
def applyParts (r : Reel) (s : State) : State :=
  let h := r.host.getD {}
  let some_ := r.host.isSome
  { s with
    cfg := r, dev := { s.dev with reelHash := r.hash }
    cont := { s.cont with burst := (r.recorder.getD {}).entries.foldl (fun t e => tablePut 200 t e.code e.burst) s.cont.burst }
    host := { s.host with
      address := if some_ then h.address else s.host.address, prefixLen := if some_ then h.prefixLen else s.host.prefixLen
      gateway := if some_ then h.gateway else s.host.gateway } }
/-- Apply a Reel whose every check has passed. -/
def applyReel (r : Reel) (s : State) : State := putFields (reelFields r) (applyParts r s)

end Sys2Proof.Machine
end

