-- ==== Sys2Proof/Machine/Mem.lean ====
section
/-! DEFINITION. MEM: the scrubber, the effect of an uncorrectable error on its owner, and the crossing
supervisor (R434 to R455). -/

namespace Sys2Proof.Machine

open Sys2Proof

/-! ### The owner's effect (R439) -/

/-- A unit becomes FAULTED at the Curtain that is to fall. DEDUCED, log entry 131. -/
def faultAtCurtain (u : Nat) (s : State) : State := { s with tick := { s.tick with forceFault := s.tick.forceFault ++ [u] } }
/-- The unit that reads an owner's data. -/
def ownerUnit : MemOwner → Nat
  | .loop _ => 9 | .carousel _ => 10 | .collector => 1 | .recorder => 20 | .clapper => 3 | .meter _ => 11 | .meterChannel _ _ => 11 | .window _ => 11
  | .calculator _ => 12
  | .accumulator _ _ => 13 | .station _ => 16 | .canBuffer _ _ => 17 | .canPort _ => 17 | .key _ => 21 | .epochCopy => 3
  | .elapsedSeconds => 13 | .volatileRecord _ => 20 | .persistentSector _ => 20 | .point _ _ => 4 | .cluster _ => 8 | .assembly _ => 6 | .hostRing _ => 22 | .unit u => u
/-- A record of the volatile ring, or every slot of a flash sector, can no longer be read (R467). -/
def spoilRecords (o : MemOwner) (addr : Nat) (s : State) : State :=
  match o with
  | .volatileRecord q => { s with cont := { s.cont with unreadable := (q, addr) :: s.cont.unreadable.filter (fun x => x.1 != q) } }
  | .persistentSector n =>
    { s with cont := { s.cont with persistent := (List.range 32).foldl (fun t i => match tableGet .erased t (32 * n + i) with
      | .erased => t
      | _ => tablePut .erased t (32 * n + i) (.bad addr)) s.cont.persistent } }
  | _ => s
/-- What an uncorrectable error at `addr` does to its owner. DEDUCED, log entries 20 and 131. -/
def ownerEffect (o : MemOwner) (addr : Nat) (s : State) : State :=
  match o with
  | .loop l => { s with trp := { s.trp with errors := s.trp.errors ++ [(l, addr)] } }
  | .carousel t => abortScan t addr s
  | .collector | .recorder | .clapper => enterFaultSafe s
  | .meter m => haltMeter m addr s
  | .meterChannel i c => boeConfigError { kind := if i then 2 else 1, index := c, addr := addr } s
  | .window k => updSet k (fun v => { v with badAnalysis := if v.active then some addr else none }) s
  | .calculator k => haltCalc k addr s
  | .accumulator i both => if both then accumFailed i addr s else accumRepaired i s
  | .station n => haltStation n addr s
  | .canBuffer c b => haltBuffer c b addr s
  | .canPort c => haltPort c addr s
  | .key id => zeroiseKey id addr s
  | .epochCopy => { s with dev := { s.dev with epochPd0 := 0 } }
  | .elapsedSeconds => setF F.BAT.STATUS_ELAPSED_UNKNOWN 1 s
  | .point i e => memoryPoint i e s
  | .cluster c => jugMemory c addr s
  | .assembly d => asmMemory addr d s
  | .hostRing r =>
    match tableGet [] s.host.staging r with
    | [] => s
    | e :: q => { s with host := { s.host with staging := tablePut [] s.host.staging r ({ e with poisoned := true } :: q) } }
  | .volatileRecord q => spoilRecords (.volatileRecord q) addr s
  | .persistentSector n => spoilRecords (.persistentSector n) addr s
  | .unit u => faultAtCurtain u s
/-- A unit's own read finds an uncorrectable error: it is logged and takes effect (R438, R439). -/
def readError (e : ReadError) (s : State) : State :=
  ownerEffect e.owner e.address (noteUe e.memory e.address (some (ownerUnit e.owner)) s)
/-- The owners act at the Curtain as though they had read the words themselves (R442). -/
def memCurtain (s : State) : State :=
  let l := s.mem.atCurtain
  l.foldl (fun t e => ownerEffect e.1 e.2 t) { s with mem := { s.mem with atCurtain := [] } }
/-- RECORD_ADMIT (R458): CONT takes the next record of its FIFO; with none there, nothing happens. An uncorrectable error in
CONT's own state takes the module to FAULT_SAFE, and the record stays where it is (R467). DEDUCED, log entry 140. -/
def execRecordAdmit (ue : Option Nat) (s : State) : Result :=
  .next (match ue with
    | none => admitNext s
    | some addr => readError { owner := .recorder, memory := 6, address := addr } s)

/-! ### The scrubber (R441 to R443) -/

/-- The scrubber reaches memory `m`: it runs, and the memory is fitted and powered. -/
def scrubs (s : State) (m : Nat) : Bool :=
  flag s F.MEM.STATUS_SCRUBBING && unitRuns s 19 && memPresent s m && domainOn s (memDomain m) && decide (m < 9)
/-- A flash sector with 24 or more corrected bits (R443). -/
def relocateSector (addr bits : Nat) (spareLeft : Bool) (s : State) : State :=
  if bits < 24 then s
  else if spareLeft then emit 0x1306 (lo32 addr) bits 0 s
  else memDegraded (emit 0x1307 0 0 0 s)
/-- What the word read shows. -/
def scrubFinding (m addr : Nat) (found : ScrubFinding) (requester : Option Nat) (s : State) : State :=
  match found with
  | .clean => s
  | .correctable bits spare =>
    let s1 := noteCe m addr { s with mem := { s.mem with passCe := listUpd 0 s.mem.passCe m (· + 1) } }
    if m = 8 then relocateSector addr bits spare s1 else s1
  | .uncorrectable o =>
    let s1 := spoilRecords o addr (noteUe m addr requester { s with mem := { s.mem with passUe := listUpd 0 s.mem.passUe m (· + 1) } })
    if requester.isSome then ownerEffect o addr s1
    else if !privileged m then s1
    else if inState s .live then { s1 with mem := { s1.mem with atCurtain := s1.mem.atCurtain ++ [(o, addr)] } }
    else ownerEffect o addr s1
/-- The walk goes on; at the end of the memory a pass completes. -/
def scrubAdvance (m : Nat) (s : State) : State :=
  let next := s.mem.position.getD m 0 + wordBytes m
  if next ≥ memBytes m then
    let s1 := emit 0x1305 m (s.mem.passCe.getD m 0) (s.mem.passUe.getD m 0) (bumpF (F.MEM.SCRUB_PASSES m) 1
      (setF (F.MEM.SCRUB_PROGRESS m) 0 s))
    { s1 with mem := { s1.mem with
        position := s1.mem.position.set m 0, passCe := s1.mem.passCe.set m 0, passUe := s1.mem.passUe.set m 0 } }
  else
    setF (F.MEM.SCRUB_PROGRESS m) (next * 65536 / memBytes m) { s with mem := { s.mem with position := s.mem.position.set m next } }

/-- SCRUB_READ (R441): the scrubber reads the next protected word of memory `m`. A requester that reads the same word in the
same cycle takes an uncorrectable error in its place (R440). DEDUCED, log entry 131. -/
def execScrubRead (m : Nat) (found : ScrubFinding) (requester : Option Nat) (s : State) : Result :=
  .next (if scrubs s m then scrubAdvance m (scrubFinding m (s.mem.position.getD m 0) found requester s) else s)

/-! ### Clock crossings (R445, R449) -/

/-- The two clocks of a crossing group, the source side first. DEDUCED, log entry 132. -/
def groupClocks (g : Nat) : Nat × Nat :=
  [(1, 0), (0, 2), (1, 2), (3, 1), (4, 1), (5, 1), (6, 1), (7, 1), (8, 1), (9, 1), (6, 10), (10, 1)].getD g (1, 1)
/-- The power domain of each clock of R18, by the units that it drives. -/
def clockDomain (c : Nat) : Nat := [8, 1, 2, 12, 13, 14, 10, 11, 1, 15, 0].getD c 0
/-- Both domains of a group are on. -/
def crossingPowered (s : State) (g : Nat) : Bool :=
  domainOn s (clockDomain (groupClocks g).1) && domainOn s (clockDomain (groupClocks g).2)
/-- A group has left its reset: it transfers, or holds its data while a clock stands still (R449, R451). -/
def crossingReleased (s : State) (g : Nat) : Bool := bitOf s.mem.released g == 1
/-- The first transfer of a group after its reset carries the source's current value (R451): that of each digital input and
pulse counter. The registers of every other source show its value without a copy. -/
def firstTransfer (g : Nat) (s : State) : State :=
  if g = 7 && lioRuns s then (List.range 32).foldl (fun t c => pulseTransfer c t) (digitalFirst s) else s
/-- A group is held in reset until both of its domains are on and their clocks run; a domain that goes off resets it. -/
def settleCrossing (s : State) (g : Nat) : State :=
  let put := fun (n : Nat) => { s with mem := { s.mem with released := n } }
  if !crossingPowered s g then
    if crossingReleased s g then put (s.mem.released - 2 ^ g) else s
  else if crossingReleased s g || !clockRuns s (groupClocks g).1 || !clockRuns s (groupClocks g).2 then s
  else firstTransfer g (put (s.mem.released + 2 ^ g))
/-- Every group, after a domain or a clock has changed. DEDUCED, log entry 132. -/
def settleCrossings (s : State) : State := (List.range 12).foldl settleCrossing s
/-- The points that a group carries (R445). -/
def groupPoints (s : State) (g : Nat) : List Nat :=
  let src := fun (u : Nat) => (s.cfg.points.filter (fun c => c.source == u)).map PointCfg.index
  let stn := fun (lr : Bool) => ((stationList s).filter (fun c => (c.attach == 2) == lr)).flatMap inputPoints
  match g with
  | 3 => src 14 ++ stn false
  | 4 => stn true
  | 5 => src 17
  | 6 => src 11 ++ src 12
  | 7 => src 5
  | _ => []
/-- STALL_ANY follows CROSS_STALL. -/
def showStalls (s : State) : State := setF F.MEM.STATUS_STALL_ANY (ofBool (getF s F.MEM.CROSS_STALL != 0)) s

/-- LIO's part of a stall of its crossing (R133): each configured pulse channel's transfer stands still. DEDUCED, log entry 65. -/
def pulseStall (s : State) : State :=
  ((List.range 32).filter (fun c => (lioCh s (176 + c)).mode != 0)).foldl (fun t c =>
    emit 0x0504 (176 + c) (s.tick.number - tableGet 0 s.lio.pulseTick c) 0 (bumpF F.LIO.PULSE_STALL_COUNT 1 t))
    (setF F.LIO.STATUS_CROSSING_STALL 1 s)

/-- CROSSING_STALLED (R449): a clock of group `g` has stood still for CROSS_TIMEOUT, its domain being on; a crossing in reset
is quiet (R451). DEDUCED, log entry 132. -/
def execCrossingStalled (g : Nat) (s : State) : Result :=
  let (a, b) := groupClocks g
  let dead := if !clockRuns s a then a else b
  let since := tableGet 0 s.pwr.stoppedAt dead
  .next (if g < 12 && crossingReleased s g && !clockRuns s dead && !bitF s F.MEM.CROSS_STALL g &&
      decide (s.clap.cycles ≥ since + 500 * getF s F.MEM.CROSS_TIMEOUT) then
      let s1 := bumpF F.MEM.CROSS_STALL_COUNT 1 (showStalls (setBit F.MEM.CROSS_STALL g true s))
      let s2 := (groupPoints s1 g).foldl (fun t i => crossingStall i true t) (if g = 7 then pulseStall s1 else s1)
      emit 0x1308 g (ofBool (clockRuns s a)) 0
        { s2 with mem := { s2.mem with stallSince := tablePut 0 s2.mem.stallSince g since } }
    else s)

/-- CROSSING_RESUMED (R449): the clock is back, and the group makes its first delivery, of `items` held. DEDUCED, log entry 132. -/
def execCrossingResumed (g items : Nat) (s : State) : Result :=
  let (a, b) := groupClocks g
  .next (if g < 12 && bitF s F.MEM.CROSS_STALL g && clockRuns s a && clockRuns s b then
      let s1 := if g = 7 then setF F.LIO.STATUS_CROSSING_STALL 0 s else s
      emit 0x1309 g ((s.clap.cycles - tableGet 0 s.mem.stallSince g) / 500) items (showStalls (setBit F.MEM.CROSS_STALL g false s1))
    else s)

/-! ### Commands (R454) -/

/-- MEM commands are legal in ARMED, LIVE, FAULT_SAFE and MAINTENANCE. -/
def memLegal (s : State) : Bool := inState s .armed || inState s .live || inState s .faultSafe || inState s .maintenance
/-- Empty a table. -/
def clearTable (m : Nat) (s : State) : State :=
  setF (F.MEM.TABLE_FILL m) 0 (entryNumbers.foldl (fun t i =>
    resetFields [F.MEM.ENT_ADDR_LO m i, F.MEM.ENT_ADDR_HI m i, F.MEM.ENT_INFO_VALID m i, F.MEM.ENT_INFO_KIND m i,
      F.MEM.ENT_INFO_STICKY m i, F.MEM.ENT_INFO_COUNT m i, F.MEM.ENT_TICK m i] t) s)

/-- The CLEAR_TABLE command. -/
def cmdClearTable (c : Caller) (m a1 : Nat) (s : State) : State × Reply :=
  runCommand 19 0x01 c m (some [roleEngineer]) (memLegal s) (fun t =>
    if a1 ≠ 0 || (m > 8 && m ≠ 0xFF) then .error resBadArgument
    else if m = 0xFF then .ok ((List.range 9).foldl (fun x k => clearTable k x) t, resOk, 0)
    else if !memPresent t m then .error resUnitAbsent
    else .ok (clearTable m t, resOk, 0)) s
/-- CLEAR_TABLE (R454). -/
def execClearTable (c : Caller) (a0 a1 : Nat) (s : State) : Result := .next (cmdClearTable c a0 a1 s).1

/-- The range of SET_SCRUB (R441). -/
def scrubRange (m : Nat) : Nat × Nat := if m = 0 then (3600, 604800) else if m = 8 then (86400, 2592000) else (60, 86400)
/-- The SET_SCRUB command. -/
def cmdSetScrub (c : Caller) (m n : Nat) (s : State) : State × Reply :=
  runCommand 19 0x02 c m (some [roleEngineer]) (memLegal s) (fun t =>
    if m > 8 then .error resBadArgument
    else if !memPresent t m then .error resUnitAbsent
    else if n < (scrubRange m).1 || n > (scrubRange m).2 then .error resBadArgument
    else .ok (setF (F.MEM.SCRUB_PERIOD m) n t, resOk, 0)) s
/-- SET_SCRUB (R454). -/
def execSetScrub (c : Caller) (a0 a1 : Nat) (s : State) : Result := .next (cmdSetScrub c a0 a1 s).1

/-- Commands of MEM by opcode. -/
def memCommand (op : Nat) (c : Caller) (a0 a1 : Nat) (s : State) : State × Reply :=
  match op with
  | 1 => cmdClearTable c a0 a1 s
  | 2 => cmdSetScrub c a0 a1 s
  | _ => refuseOpcode 19 op c a0 s

end Sys2Proof.Machine
end

