-- ==== Sys2Proof/Machine/Tick.lean ====
section
/-! DEFINITION. The tick and the Curtain: tick starts, the collector's staging queues, overrun and fault, and the one
step in which a Curtain publishes (R25 to R48). -/

namespace Sys2Proof.Machine

open Sys2Proof

/-- Units that may post to the collector (R36). -/
def postingUnits : List Nat := [8, 9, 10, 11, 12, 16, 17]
/-- The Call sheet's entry of unit `u`. -/
def unitEntry (s : State) (u : Nat) : UnitEntry := s.cfg.sheet.units.getD u {}
/-- The module drives outputs: SOLO or LEAD. -/
def onAir (s : State) : Bool := role s == 0 || role s == 1

/-! ### Output moves (R30) -/

/-- Outputs of LIO, STN and CAN, by group 0 to 2. -/
def groupOutputs (s : State) : Nat → Nat
  | 0 => (lioOutputs s).length
  | 1 => (stationList s).foldl (fun n c => n + c.slots.countP (fun x => x.output)) 0
  | _ => (canOutputs s).length
/-- The crossing that a group's move takes, and the clock at its far end (R30, R445). -/
def groupCrossing : Nat → Nat × Nat
  | 0 => (7, 7) | 1 => (3, 3) | _ => (5, 5)
/-- The move of a group is held. DEDUCED, log entry 43. -/
def moveHeld (s : State) (g : Nat) : Bool :=
  bitF s F.MEM.CROSS_STALL (groupCrossing g).1 || !clockRuns s (groupCrossing g).2 ||
    !crossingReleased s (groupCrossing g).1
/-- The first `n` outputs of a group reach their launch registers. -/
def moveGroup (g n : Nat) (s : State) : State :=
  match g with
  | 0 => moveLioOutputs n s
  | 1 => if n = 0 then s else stnBuild s
  | _ => moveCanOutputs n s
/-- The output moves begin after a Curtain. `stn` and `can` tell whether those units' entries were published. The frames of
the stations are built at once; a held group waits. DEDUCED, log entry 43. -/
def beginMoves (stn can : Bool) (s : State) : State :=
  if !onAir s then s
  else
    let groups := [0, 1, 2].filter (fun g => decide (groupOutputs s g > 0) && !(g == 1 && !stn) && !(g == 2 && !can))
    let s1 := if groups.contains 1 && !moveHeld s 1 then stnBuild s else s
    { s1 with tick := { s1.tick with moves := groups.map (fun g => (g, moveHeld s g, s.clap.cycles)) } }
/-- How many outputs of a group have moved by T: all of them unless its crossing is held; none where it was held since
before the Curtain; else a free number, since the length of a move is not fixed. DEDUCED, log entry 43. -/
def movedBy (m : Nat × Bool × Nat) (s : State) : Nat × State :=
  let n := groupOutputs s m.1
  if !moveHeld s m.1 then (n, s)
  else if m.2.1 && decide (tableGet 0 s.pwr.stoppedAt (groupCrossing m.1).2 ≤ m.2.2) then (0, s)
  else
    let (v, t) := drawFree s
    (v.toNat % (n + 1), t)
/-- One group's move at T; the state, and the outputs that are still held. -/
def endMove (a : State × Nat) (m : Nat × Bool × Nat) : State × Nat :=
  let (k, t) := movedBy m a.1
  let moved := if m.1 = 1 && !m.2.1 then t else moveGroup m.1 k t
  (moved, a.2 + (groupOutputs t m.1 - k))
/-- At T the moves end: an output not yet moved keeps its previous value (R30). DEDUCED, log entry 43. -/
def endMoves (s : State) : State :=
  let (t, held) := s.tick.moves.foldl endMove (s, 0)
  let t1 := { t with tick := { t.tick with moves := [] } }
  if held = 0 then t1
  else emit 0x0104 held 0 0 (bumpF F.TICK.OUTPUT_LATE_COUNT 1 (setF F.TICK.STATUS_OUTPUT_LATE 1 t1))

/-! ### The tick start (R25 to R31) -/

/-- LIO drives the wired outputs at T: on air, or once more after standing down (R30, R130, R428). -/
def driveAtTick (s : State) : State :=
  if onAir s then driveOutputs s
  else if s.spot.driveOnce then updSpot (fun x => { x with driveOnce := false }) (driveOutputs s)
  else s
/-- The system points of a tick start (R111). DEDUCED, log entry 67. -/
def tickPoints (s : State) : State :=
  let stamp := stampAt s s.tick.startNs
  sysPoint 4 3 (getF s F.CLAP.POWER_EPOCH) stamp (sysPoint 3 4 (role s) stamp (sysPoint 2 4 (devCode s.dev.state) stamp
    (sysPoint 1 3 (hi32 s.tick.number) stamp (sysPoint 0 3 (lo32 s.tick.number) stamp s))))
/-- Expect a unit's result at this tick's Curtain where the condition holds and it is checked for overrun. A unit that
the power-fail sequence has shed owes none. DEDUCED, log entry 45. -/
def expectNow (u : Nat) (when_ : Bool) (s : State) : State :=
  if when_ && flag s (F.TICK.UNIT_STATE_POSTS u) && !bitF s F.TICK.FAULTED u && domainOn s (unitDomain u) then
    expectResult u s.tick.number 0 s
  else s
/-- The posts that the metering and communication units form in a tick. -/
def unitTicks (s : State) : State :=
  let s1 := if minuteBoundary s 1 then keepBoundary s else s
  let s2 := boeTick (expectNow 11 (elecMetro s1).isSome s1)
  let s3 := botTick (expectNow 12 ((thermMetro s2).isSome && flag s2 F.BOT.STATUS_INTEGRATING) s2)
  let s4 := stnTick (expectNow 16 (flag s3 F.STN.STATUS_RUNNING && !(stationList s3).isEmpty) s3)
  canTick (expectNow 17 (!(usedPorts s4).isEmpty) s4)
/-- The Ringmaster's RM_ALIVE toggles every tick (R413). -/
def aliveToggle (s : State) : State :=
  if role s = 3 then
    let v := getF s F.SPOT.INTERLOCK_RM_OUT
    setF F.SPOT.INTERLOCK_RM_OUT (if v / 4 = 1 then v - 4 else v + 4) s
  else s
/-- What a tick does from its start on: the drive, Local's rate, the freeze and the work that falls due. DEDUCED, log entry 67. -/
def beginTick (s : State) : State :=
  let s0 := { s with tick := { s.tick with curtainDone := false } }
  let s1 := localRateUpdate (driveAtTick (endMoves s0))
  let s2 := expireTakes (stnFreeze (canFreeze (checkTimeouts s1)))
  let s3 := freezeSnapshot (tickPoints s2)
  let s4 := handOver (gateClusters s3)
  let s5 := jugTick (checkShadowing (startScans (trpTick s4)))
  aliveToggle (unitTicks s5)

/-- The length of a completed tick in its registers. -/
def tickLength (n : Nat) (s : State) : State :=
  setF F.TICK.LENGTH_LAST n (setF F.TICK.LENGTH_RANGE_MAX (max n (getF s F.TICK.LENGTH_RANGE_MAX))
    (setF F.TICK.LENGTH_RANGE_MIN (min n (getF s F.TICK.LENGTH_RANGE_MIN)) s))
/-- TICK starts ticks: LIVE, with its clock running. -/
def ticksRun (s : State) : Bool := inState s .live && flag s F.TICK.STATUS_RUNNING && unitRuns s 1

/-- TICK_START (R25, R26, R27): Local crosses a multiple of 125,000 ns `crossing` CLK_CORE cycles after the last T. `ue` holds the
uncorrectable errors that the units' reads of this tick start find (R123, R230, R305, R439). DEDUCED, log entry 44. -/
def execTickStart (crossing : Nat) (ue : List ReadError) (s : State) : Result :=
  .next (if ticksRun s && s.tick.curtainDone then
      let len := max 62484 (min crossing 62516)
      let s1 := tickLength len (elapseTo len s)
      let nominal := (s.tick.startNs + 62500) / 125000 * 125000 + 125000
      let start := if len = crossing then nominal else nowNs s1 1
      let s2 := { s1 with tick := { s1.tick with number := s.tick.number + 1, cycle := 0, startNs := start } }
      let s3 := if len = crossing then s2
        else emit 0x0106 crossing len 0 (bumpF F.TICK.CLAMP_COUNT 1 (setF F.TICK.STATUS_CLAMPED 1 s2))
      beginTick (ue.foldl (fun t e => readError e t) s3)
    else s)

/-! ### Staging (R37, R39, R40) -/

/-- Order of arrival: tick, cycle, then unit number (R37). -/
def arrivesBefore (a b : StagedEntry) : Bool :=
  a.arrivalTick < b.arrivalTick || (a.arrivalTick == b.arrivalTick &&
    (a.arrival < b.arrival || (a.arrival == b.arrival && a.unit < b.unit)))
/-- Insert an entry after every entry that does not arrive later. -/
def insertStaged (e : StagedEntry) : List StagedEntry → List StagedEntry
  | [] => [e]
  | x :: t => if arrivesBefore e x then e :: x :: t else x :: insertStaged e t
/-- The Curtain of tick `n` is still to fall. -/
def curtainAhead (s : State) (n : Nat) : Bool :=
  decide (s.tick.number < n) ||
    (s.tick.number == n && !s.tick.curtainDone && decide (s.tick.cycle < getF s F.TICK.CURTAIN_CYCLE))
/-- A post reaches the collector. DEDUCED, log entries 41 and 42. -/
def collectEntry (e : StagedEntry) (s : State) : State :=
  let u := e.unit
  let limit := min 64 (unitEntry s u).maxEntries
  let have_ := s.tick.staging.countP (fun x => x.unit == u && x.due == e.due)
  if have_ ≥ limit then
    emit 0x0105 u have_ (unitEntry s u).maxEntries
      { s with tick := { s.tick with withheld := s.tick.withheld ++ [(u, e.due)] } }
  else
    let e1 := { e with arrival := s.tick.cycle, arrivalTick := s.tick.number }
    let s1 := { s with tick := { s.tick with staging := insertStaged e1 s.tick.staging } }
    let b := unitEntry s u
    if b.budgetCycles > 0 && s.tick.cycle > b.startCycle + b.budgetCycles then
      emit 0x0103 u s.tick.cycle (b.startCycle + b.budgetCycles) (setBit F.TICK.LATE u true s1)
    else s1

/-- STAGING_POST (R37): the oldest result that unit `u` has formed arrives at the collector at CLK_CORE cycle `cycle` of the
present tick. A FAULTED unit's post, and one whose Curtain has fallen, is discarded. -/
def execStagingPost (u cycle : Nat) (s : State) : Result :=
  .next (if !ticksRun s then s
    else match s.tick.outbox.find? (fun e => e.unit == u) with
      | none => s
      | some e =>
        let s1 := elapseTo cycle s
        let s2 := { s1 with tick := { s1.tick with outbox := s1.tick.outbox.erase e } }
        if bitF s F.TICK.FAULTED u || !curtainAhead s2 e.due then s2 else collectEntry e s2)

/-! ### Overrun and fault (R41 to R43) -/

/-- Health of a unit whose RUN is 0, from what else its chapter lets it report. DEDUCED, log entry 45. -/
def baseHealth (s : State) (u : Nat) : Nat :=
  if u = 9 then (if s.trp.faulted = [] then 0 else 1)
  else if u = 8 then (if (usedClusters s).any (fun c => getF s (F.JUG.CLUSTER_STATE_HEALTH c) == 2) then 2 else 0)
  else if u = 11 || u = 12 then (if accumLost s then 2 else 0)
  else 0
/-- JUG owes a result at this tick's Curtain: that of its round, or of one that could not start (R187). -/
def jugOwes (s : State) : Bool :=
  let n := s.tick.number
  s.cfg.solver.isSome && domainOn s 8 && !bitF s F.TICK.FAULTED 8 && !shadowIdle s &&
    (roundDue s n || (s.jug.round.isNone && publicationTick s n && decide (n ≥ (solverSec s).phase + (solverSec s).period - 1) &&
      !roundsRun s))
/-- The results of unit `u` that are due at this Curtain, by tag. -/
def dueTags (s : State) (u : Nat) : List Nat :=
  let n := s.tick.number
  ((s.tick.expected.filter (fun x => x.1 == u && x.2.1 == n)).map (fun x => x.2.2)) ++ (if u = 8 && jugOwes s then [0] else [])
/-- The entries of unit `u` that are due at this Curtain, in order. -/
def dueEntries (s : State) (u : Nat) : List StagedEntry :=
  s.tick.staging.filter (fun e => e.unit == u && e.due == s.tick.number)
/-- Entries for this Curtain are withheld (R39). DEDUCED, log entry 42. -/
def isWithheld (s : State) (u : Nat) : Bool := s.tick.withheld.contains (u, s.tick.number)
/-- The results due at this Curtain that the collector does not hold complete (R41); a withheld unit's are all missing (R39).
DEDUCED, log entry 40. -/
def missingTags (s : State) (u : Nat) : List Nat :=
  if isWithheld s u then (if dueTags s u = [] then [0] else dueTags s u)
  else (dueTags s u).filter (fun t => !(dueEntries s u).any (fun e => e.tag == t && e.final))
/-- A unit becomes FAULTED at this Curtain. -/
def faultUnit (u : Nat) (s : State) : State :=
  let s1 := setF (F.TICK.UNIT_STATE_FAULTED u) 1 (setBit F.TICK.FAULTED u true s)
  let s2 := setHealth u 2 (emit 0x0102 u (unitEntry s u).safeSet 0 s1)
  triggerFlush 2 (if u = 8 then dropRound s2 else if u = 9 then { s2 with trp := { s2.trp with next := [] } }
    else if u = 10 then carStop s2 else if u = 16 then stnFault s2 else if u = 17 then canFault s2 else s2)
/-- The unit's work for a result is abandoned (R41). -/
def abandonWork (u tag : Nat) (s : State) : State :=
  if u = 8 then
    dropRound s
  else if u = 9 then { s with trp := { s.trp with next := [] } }
  else if u = 10 then putScan tag none s
  else s
/-- An overrun of one due result (R41, R42). A unit that has become FAULTED is not checked again. DEDUCED, log entries 40 and 45. -/
def overrunResult (u tag : Nat) (s : State) : State :=
  if bitF s F.TICK.FAULTED u then abandonWork u tag s else
  let run := min (getF s (F.TICK.UNIT_STATE_RUN u) + 1) 15
  let s1 := bumpF (F.TICK.UNIT_OVERRUN_COUNT u) 1 (setBit F.TICK.OVERRUN u true (setBit F.TICK.OVERRUN_NOW u true
    (setF (F.TICK.UNIT_STATE_RUN u) run s)))
  let s2 := abandonWork u tag (emit 0x0101 u run (getF s1 (F.TICK.UNIT_OVERRUN_COUNT u)) s1)
  if run ≥ getF s (F.TICK.UNIT_STATE_LIMIT u) then faultUnit u s2 else setHealth u (max 1 (baseHealth s2 u)) s2
/-- The check of one posting unit; the state, and the results whose entries are not published (none: nothing of the unit is).
RUN counts the unit's due results in publication order, the missing ones after those that have arrived. DEDUCED, log entry 40. -/
def judgeUnit (u : Nat) (s : State) : State × Option (List Nat) :=
  let s0 := setBit F.TICK.OVERRUN_NOW u false s
  if !flag s (F.TICK.UNIT_STATE_POSTS u) || bitF s F.TICK.FAULTED u then (s0, none)
  else if s.tick.forceFault.contains u then (faultUnit u s0, none)
  else
    let missing := missingTags s u
    let s1 := if (dueTags s u).all missing.contains then s0
      else setHealth u (baseHealth s0 u) (setF (F.TICK.UNIT_STATE_RUN u) 0 s0)
    let s2 := missing.foldl (fun t k => overrunResult u k t) s1
    (s2, if isWithheld s u || bitF s2 F.TICK.FAULTED u then none else some missing)
/-- Units that post nothing become FAULTED too, where their data have failed (R439). -/
def faultOthers (s : State) : State :=
  (s.tick.forceFault.filter (fun u => !postingUnits.contains u)).foldl (fun t u =>
    if bitF t F.TICK.FAULTED u then t else faultUnit u t) s
/-- Every posting unit: the state, and for each unit that publishes the results that are missing. -/
def judgeUnits (s : State) : State × List (Nat × List Nat) :=
  postingUnits.foldl (fun (a : State × List (Nat × List Nat)) u =>
    let (t, ok) := judgeUnit u a.1
    (t, a.2 ++ (ok.map (fun m => (u, m))).toList)) (faultOthers s, [])
/-- A unit whose whole result is published. -/
def publishesAll (ok : List (Nat × List Nat)) (u : Nat) : Bool := ok.contains (u, [])
/-- The entry is published at this Curtain. -/
def publishes (ok : List (Nat × List Nat)) (e : StagedEntry) : Bool :=
  ok.any (fun x => x.1 == e.unit && !x.2.contains e.tag)

/-! ### The publication (R38) -/

/-- A point of unit `u` takes its value of the unit's safe-value set, or holds its value where the set does not name it (R122). -/
def takeSafe (u i stamp : Nat) (s : State) : State :=
  match (safeValues s.cfg.safe (unitEntry s u).safeSet).find? (fun v => v.1 == i) with
  | some v => safePoint u i v.2 stamp s
  | none => holdForSafe u i s
/-- A point of an entry, with the condition it carries. -/
def publishPoint (u : Nat) (p : PubPoint) (s : State) : State :=
  if hasCond p.conds condAbsent then declareAbsent p.index s
  else match [condOpenWire, condShort, condOverload].find? (hasCond p.conds) with
    | some c => frontFault u p.index c s
    | none =>
      if hasCond p.conds condSafe then takeSafe u p.index p.stamp s else sampleIn u p.index p.value p.stamp s
/-- Put a setpoint in force (R209). -/
def putSetpoint (x : Setpoint) (s : State) : State :=
  { s with txn := { s.txn with values := tablePut none s.txn.values (targetKey x.kind x.target) (some x.value) } }
/-- Put setpoints in force. -/
def putSetpoints (l : List Setpoint) (s : State) : State := l.foldl (fun t x => putSetpoint x t) s
/-- The keyed items whose state a scan changes (R264). -/
def changedKeyed (s : State) (t : Nat) : List CarItem :=
  match scanOf s t with
  | none => []
  | some x => ((writeItems x.writes).filter (fun y => 3 ≤ y.kind && y != presentItem s.car.items y)).filterMap (keyedItem s)
/-- What publishing the last entry of a result commits in its unit, and what the mirror is to carry of it. -/
def commitResult (u tag : Nat) (s : State) : State :=
  if u = 9 then
    trpCommit (updSpot (fun x => { x with loopsNow := s.trp.next.map Prod.fst }) s)
  else if u = 10 then
    carCommit tag (updSpot (fun x => { x with
      scansNow := x.scansNow ++ (carRec s tag).toList, keyedNow := x.keyedNow ++ changedKeyed s tag }) s)
  else if u = 8 && tag = 0 then
    let s1 := updSpot (fun x => { x with roundNow := true }) (jugCommit s)
    match s1.jug.front with
    | some p => startExport p s1
    | none => s1
  else s
/-- Publish one entry: points, registers, setpoints and, with the last entry of a result, what it commits. -/
def publishEntry (e : StagedEntry) (s : State) : State :=
  let s1 := e.points.foldl (fun t p => publishPoint e.unit p t) s
  let s2 := putSetpoints e.setpoints (e.fields.foldl (fun t x => setF x.1 x.2 t) s1)
  if e.final then commitResult e.unit e.tag s2 else s2
/-- ENTRIES and CYCLE of the latest Curtain (R46). -/
def lastPost (es : List StagedEntry) (u : Nat) (s : State) : State :=
  let mine := es.filter (fun e => e.unit == u)
  setF (F.TICK.UNIT_LAST_POST_ENTRIES u) mine.length
    (setF (F.TICK.UNIT_LAST_POST_CYCLE u) ((mine.getLast?.map StagedEntry.arrival).getD 0xFFFF) s)
/-- The safe-value set of a FAULTED unit, and the hold of its other points (R42, R122). -/
def publishSafe (u : Nat) (s : State) : State :=
  if !bitF s F.TICK.FAULTED u then s
  else
    let stamp := stampAt s s.tick.startNs
    (s.cfg.points.filter (fun c => c.source == u)).foldl (fun t c => takeSafe u c.index stamp t) s
/-- A step post of JUG that has missed its Curtain (R209). -/
def checkStep (es : List StagedEntry) (s : State) : State :=
  match stepDue s s.tick.number with
  | some j => if roundsRun s && !es.any (fun e => e.unit == 8) && !publicationTick s s.tick.number then stepSkipped j s else s
  | none => s
/-- Round 0 at the first Curtain, and the rounds of a new Lead (R189, R211, R427); the solution export follows. DEDUCED, log entry 74. -/
def publishRounds (s : State) : State :=
  let before := s.jug.front
  let (s1, i) := if !s.tick.anyCurtain && role s ≠ 2 then publishInitial s else (s, [])
  let (s2, a) := switchRound s1
  let (s3, b) := shiftRound s2.spot.mirrored.plan s2
  let s4 := putSetpoints (i ++ a ++ b) s3
  if s4.jug.front = before then s4
  else match s4.jug.front with
    | some p => startExport p (updSpot (fun x => { x with roundNow := true }) s4)
    | none => s4
/-- The system points of a Curtain (R111). -/
def curtainPoints (s : State) : State :=
  let stamp := stampAt s s.tick.startNs
  let st := (s.jug.front.map Plan.status).getD 0
  let s1 := sysPoint 7 3 (getF s F.TXN.LAST_APPLIED_ID) stamp (sysPoint 6 4 st stamp
    (sysPoint 5 3 (getF s F.JUG.PUBLISHED_ROUND) stamp s))
  (List.range 24).foldl (fun t n => sysPoint (0x10 + n) 4 (unitHealth t n) stamp t) s1
/-- The points that this Curtain publishes besides those of the Take. -/
def publishedPoints (es : List StagedEntry) (s : State) : List Nat :=
  es.flatMap (fun e => e.points.map PubPoint.index) ++
  (s.trp.errors.flatMap (fun e => match loopCfg s e.1 with
    | some c => c.outPoint :: c.statusPoint.toList
    | none => [])) ++
  (s.cfg.points.filter (fun c => decide (c.source < 24) && bitF s F.TICK.FAULTED c.source)).map PointCfg.index ++
  [5, 6, 7] ++ (List.range 24).map (0x10 + ·)
/-- The point window after a Curtain (R114): the snapshot, with every published point in its place. -/
def setWindow (pts : List Nat) (s : State) : State :=
  { s with pimg := { s.pimg with
      window := pts.foldl (fun t i => tablePut {} t i (tableGet {} s.pimg.live i)) s.pimg.snap } }
/-- The committed Take that is due (R38, R92); a Stand-in applies its Lead's instead. -/
def curtainTake (s : State) : State × List Nat :=
  if role s != 2 then
    let was := getF s F.TXN.LAST_APPLIED_ID
    let (t, pts) := applyDueTake (stampAt s s.tick.startNs) s
    (if getF t F.TXN.LAST_APPLIED_ID = was then t
     else updSpot (fun x => { x with takeNow := some (getF t F.TXN.LAST_APPLIED_ID) }) t, pts)
  else (s, [])
/-- What the mirror gathers starts anew at each Curtain. -/
def gatherMirror (s : State) : State :=
  updSpot (fun x => { x with
    loopsNow := [], scansNow := [], keyedNow := [], takeNow := none, roundNow := false, pointsNow := []
    commandsNow := s.trp.commands, itemsBefore := s.car.items
    pointsBefore := (s.cfg.points.filter (fun c => c.source == 10)).foldl (fun t c =>
      tablePut {} t c.index (livePoint s c.index)) [] }) s
/-- A new Lead's first Curtain discards the result of the round in progress that is due at it (R211). -/
def discardsRound (s : State) (e : StagedEntry) : Bool :=
  s.jug.switchPending && switchesOwn s && e.unit == 8 && e.tag == 0
/-- The plan that a joining Stand-in has received goes into its front buffer at its own Curtain (R208, R420). -/
def showBulkPlan (s : State) : State :=
  match s.jug.bulkPlan with
  | some p => setF F.JUG.PUBLISHED_ROUND p.round { s with jug := { s.jug with front := some p, bulkPlan := none } }
  | none => s
/-- The one step of the publication (R38): entries in order with what they commit, safe values, then the Take. DEDUCED, log entry 87. -/
def publish (ok : List (Nat × List Nat)) (s : State) : State :=
  let es := s.tick.staging.filter (fun e => e.due == s.tick.number && publishes ok e && !discardsRound s e)
  let s1 := es.foldl (fun t e => publishEntry e t) (checkStep es (showBulkPlan (gatherMirror s)))
  let s2 := publishRounds s1
  let pts := publishedPoints es s2
  let s3 := (List.range 24).foldl (fun t u => publishSafe u t) (boeCurtain (trpCurtain (stampAt s s.tick.startNs) s2))
  let (s4, taken) := curtainTake s3
  let shown := ((es.filter (fun e => e.unit == 9 || e.unit == 10)).flatMap (fun e => e.points.map PubPoint.index))
  subscriptionEntries (pts ++ taken) <| setWindow (pts ++ taken) (updSpot (fun x => { x with pointsNow := shown })
    (curtainPoints (postingUnits.foldl (fun t u => lastPost es u t) s4)))

/-! ### After the publication -/

/-- BEAT toggles at each Curtain of a controller (R413). -/
def beat (s : State) : State :=
  if pairReel s && (role s == 1 || role s == 2) then
    setF F.SPOT.INTERLOCK_BEAT (1 - getF s F.SPOT.INTERLOCK_BEAT) s
  else s
/-- The Lead hands over at this Curtain: by command, or in the power-fail sequence (R428, R430, R522). -/
def handoverCause (s : State) : Option Nat :=
  if role s ≠ 1 then none
  else if (s.pwr.failTick.map (· + 1)) == some s.tick.number then some 2
  else if s.spot.handover then some 1
  else none
/-- The delta of the Curtain, and a handover after it. -/
def mirrorCurtain (s : State) : State :=
  match handoverCause s with
  | some c => standDown c (sendDelta true s)
  | none => latchedFailure (sendDelta false s)
/-- What is over with this Curtain leaves the collector. -/
def clearStaging (s : State) : State :=
  let n := s.tick.number
  { s with tick := { s.tick with
      staging := s.tick.staging.filter (fun e => decide (e.due > n))
      outbox := s.tick.outbox.filter (fun e => decide (e.due > n))
      expected := s.tick.expected.filter (fun x => decide (x.2.1 > n))
      withheld := s.tick.withheld.filter (fun x => decide (x.2 > n))
      forceFault := [], anyCurtain := true } }

/-- The source writes of the Curtain's own cycle land after the publication (R113). -/
def landHeldSamples (s : State) : State :=
  s.pimg.afterCurtain.foldl (fun t h => match h.cond with
    | none => sampleIn h.unit h.point h.value h.stamp t
    | some c => frontFault h.unit h.point c t) { s with pimg := { s.pimg with afterCurtain := [] } }
/-- The Curtain of the present tick falls (R29, R38). It needs PD2, which holds the process image. -/
def curtainFalls (s : State) : State :=
  if ticksRun s && !s.tick.curtainDone && domainOn s 2 then
    let s0 := elapseTo (getF s F.TICK.CURTAIN_CYCLE) s
    let s1 := memCurtain { s0 with
      tick := { s0.tick with curtainDone := true }, cont := { s0.cont with curtainAt := some s0.clap.cycles } }
    if !inState s1 .live then s1 else
    let (s2, ok) := judgeUnits s1
    let s3 := clearStaging (publish ok s2)
    let s4 := canCurtain (beginMoves (publishesAll ok 16) (publishesAll ok 17) (beat (landHeldSamples s3)))
    let s5 := mirrorCurtain s4
    tickDivider (pumpExports (healthIfChanged s5))
  else s

/-! ### Commands (R47) -/

/-- The CLEAR_COUNTS command. -/
def cmdClearCounts (c : Caller) (u : Nat) (s : State) : State × Reply :=
  runCommand 1 0x01 c u (some [roleEngineer]) (flag s F.TICK.STATUS_RUNNING) (fun t =>
    if u = 0xFF then .ok ((List.range 24).foldl (fun x k => setF (F.TICK.UNIT_OVERRUN_COUNT k) 0 x) t, resOk, 0)
    else if u ≥ 24 then .error resBadArgument
    else if !present t u then .error resUnitAbsent
    else .ok (setF (F.TICK.UNIT_OVERRUN_COUNT u) 0 t, resOk, 0)) s
/-- CLEAR_COUNTS (R47). -/
def execClearCounts (c : Caller) (a0 : Nat) (s : State) : Result := .next (cmdClearCounts c a0 s).1

/-- Commands of TICK by opcode. -/
def tickCommand (op : Nat) (c : Caller) (a0 : Nat) (s : State) : State × Reply :=
  match op with
  | 1 => cmdClearCounts c a0 s
  | _ => refuseOpcode 1 op c a0 s

end Sys2Proof.Machine
end

