-- ==== Sys2Proof/Machine/Boot.lean ====
section
/-! DEFINITION. The entry to BOOT from OFF or by a restart: what is retained, what returns to its reset value, and what
BOOT does before its self-tests (R52, R53, R79, R309, R317, R468, R487). -/

namespace Sys2Proof.Machine

open Sys2Proof

/-! ### What survives -/

/-- Fields that a new start leaves alone: fixed by variant, retained in PD0, kept in flash or in one-time-programmable
memory, or measured. -/
def keptFields : List Field :=
  [F.DEV.UNITS_PRESENT, F.DEV.PART, F.DEV.SERIAL_LO, F.DEV.SERIAL_HI, F.JUG.CLUSTERS_PRESENT, F.NET.PORTS_PRESENT,
    F.TXN.NEXT_TAKE_ID, F.BOE.METRO_EVENT_COUNT, F.SEC.ZEROISE_COUNT, F.SEC.MIN_VERSION_WRITES_LEFT, F.SEC.MIN_VERSION_VERSION,
    F.SEC.STATUS_DEBUG_OPENED, F.SEC.CONFIG_TAMPER_ACTION, F.HOST.CONFIG_MGMT_PORT, F.HOST.CONFIG_IPV6, F.HOST.CONFIG_MGMT_ENABLE,
    F.PWR.POWER_FAIL_COUNT, F.PWR.SUPPLY_A_MV, F.PWR.SUPPLY_B_MV, F.PWR.INPUT_POWER, F.PWR.TEMPERATURE_BASE]
/-- The BAT registers that PD0 retains, by address: STATUS to ELAPSED_S, and the MAH blocks (R322). -/
def batRetained (addr : Nat) : Bool := within 0x0D00004 0x0D0001F addr || within 0x0D00100 0x0D003FF addr
/-- ERROR_S of a calculator, which PD0 retains (R304). -/
def errorSeconds (addr : Nat) : Bool := within 0x0C01000 0x0C02FFF addr && addr % 0x100 == 0x88
/-- A register file entry that a new start keeps. -/
def keptEntry (e : Nat × Nat) : Bool :=
  (keptFields.map fieldKey).contains e.1 || batRetained (e.1 / 32) || errorSeconds (e.1 / 32)
/-- The machine with every register and part that power or a restart does not keep at its reset value. DEDUCED, log entry 32. -/
def resetState (s : State) : State :=
  { pending := s.pending, regs := s.regs.filter keptEntry
    dev := { state := s.dev.state, maintenanceRequested := s.dev.maintenanceRequested, cardPresent := s.dev.cardPresent,
             metroHash := s.dev.metroHash, epochPd0 := s.dev.epochPd0, epochFlash := s.dev.epochFlash, referenceLost := s.dev.referenceLost }
    clap := { cycles := s.clap.cycles }, tick := {}, pimg := {}, lio := {}
    txn := { log := s.txn.log, headers := s.txn.headers, nextId := s.txn.nextId, spanId := s.txn.spanId, logBroken := s.txn.logBroken }
    trp := {}, car := {}, asm := {}, jug := {}, boe := {}, bot := {}, bat := s.bat, net := {}, lrp := {}, stn := {}, can := {}, spot := {}
    mem := {}, cont := { persistent := s.cont.persistent, headPd0 := s.cont.headPd0 }
    host := { address := s.host.address, prefixLen := s.host.prefixLen, gateway := s.host.gateway }
    sec := { keys := s.sec.keys, images := s.sec.images, runningSlot := s.sec.runningSlot, imageKeyHash := s.sec.imageKeyHash,
             debugKeyHash := s.sec.debugKeyHash, debugKey := s.sec.debugKey, zeroisePending := s.sec.zeroisePending,
             zeroiseCause := s.sec.zeroiseCause }
    pwr := { inputGood := s.pwr.inputGood, disconnected := s.pwr.disconnected }, cfg := {}, free := s.free }
/-- PD0 has lost its contents: what has no copy elsewhere reads as fresh from manufacture (R309 to R311, R317).
DEDUCED, log entries 20 and 34. -/
def losePd0 (s : State) : State :=
  { s with
    regs := s.regs.filter (fun e => !batRetained (e.1 / 32) && !errorSeconds (e.1 / 32) &&
      e.1 != fieldKey F.BOE.METRO_EVENT_COUNT && e.1 != fieldKey F.PWR.POWER_FAIL_COUNT)
    dev := { s.dev with epochPd0 := 0, metroHash := [] }, bat := { saves := s.bat.saves, nextSeq := s.bat.nextSeq } }

/-! ### The entry to BOOT -/

/-- A record's key is above another's (R469), by the low words of the epochs. -/
def newerRec (a b : Rec) : Bool :=
  let ea := a.stamp / 2 ^ 48
  let eb := b.stamp / 2 ^ 48
  if ea = eb then decide (b.seq < a.seq) else decide ((ea + 65536 - eb) % 65536 < 32768)
/-- The slot after the head holds a record that is newer than the head's (R468). -/
def headMoves (s : State) (h : Nat) : Bool :=
  match tableGet .erased s.cont.persistent ((h + 1) % persistSlots), tableGet .erased s.cont.persistent h with
  | .held r, .held b => newerRec r b
  | .held _, _ => true
  | _, _ => false
/-- The head of the persistent ring, sought from a slot onward. -/
def seekHead (s : State) : Nat → Nat → Nat
  | 0, h => h
  | n + 1, h => if headMoves s h then seekHead s n ((h + 1) % persistSlots) else h
/-- CONT finds the head (R468). -/
def findHead (s : State) : State :=
  let h := seekHead s s.cont.persistent.length s.cont.headPd0
  setF F.CONT.PERSIST_HEAD h { s with cont := { s.cont with headPd0 := h } }
/-- DEV.HEALTH shows 3 for an absent unit (R42). -/
def showAbsent (s : State) : State :=
  let v := fun (lo : Nat) (n : Nat) => ((List.range n).map (fun i => if present s (lo + i) then 0 else 3 * 4 ^ i)).foldl (· + ·) 0
  setF F.DEV.HEALTH_LO (v 0 16) (setF F.DEV.HEALTH_HI (v 16 8) s)
/-- The power epoch of R53. DEDUCED, log entry 20. -/
def newEpoch (s : State) : State :=
  let e := max s.dev.epochPd0 s.dev.epochFlash + 1
  setF F.CLAP.POWER_EPOCH e { s with dev := { s.dev with epochPd0 := e, epochFlash := e } }
/-- The domains of BOOT come up with their clocks; PWR, CONT and HOST run. DEDUCED, log entry 22. -/
def bootDomains (s : State) : State :=
  settleCrossings <| putFields [(F.PWR.DOMAIN_STATE, 0x800F), (F.PWR.PLL_LOCK, 0x7FF), (F.PWR.STATUS_RUNNING, 1), (F.CONT.STATUS_RUNNING, 1),
    (F.HOST.STATUS_RUNNING, 1), (F.PWR.STATUS_INPUT_A_GOOD, ofBool (s.pwr.inputGood.getD 0 false)),
    (F.PWR.STATUS_INPUT_B_GOOD, ofBool (s.pwr.inputGood.getD 1 false))] s
/-- The entry to BOOT: `retained` tells whether PD0 kept its contents, `outage` whether supply had been lost. -/
def enterBoot (retained outage : Bool) (s : State) : State :=
  let s1 := showAbsent (bootDomains (newEpoch (resetState s)))
  let s2 := findHead (putLogFill (setF F.TXN.NEXT_TAKE_ID s1.txn.nextId s1))
  let s3 := setState .boot s2
  let s4 := batReplay retained outage (batRestore retained s3)
  showSecHealth (finishZeroise (showKeys s4))

/-! ### Restart (R79) -/

/-- Steps 3 to 5 of R79: the flushes, the domains off, and BOOT again. -/
def restartFlush (maintenance : Bool) (s : State) : State :=
  let s1 := flushAll (if present s 13 then writeLastSave 3 true s else s)
  enterBoot true false { s1 with dev := { s1.dev with maintenanceRequested := maintenance } }
/-- The steps of R79: ON_AIR released and outputs de-energised, then the flushes. The RESTART save waits until BOE has
closed its windows (R285, R308). DEDUCED, log entry 32. -/
def restartNow (maintenance : Bool) (s : State) : State :=
  let s1 := endSessions 6 (lrpOff (dropOutputs (releaseAir (leaveLive s))))
  if windowsOpen s1 then { s1 with dev := { s1.dev with flushing := some maintenance } } else restartFlush maintenance s1
/-- A restart that waits for BOE's partial windows goes on when the last of them is closed. DEDUCED, log entry 32. -/
def finishRestart (s : State) : State :=
  match s.dev.flushing with
  | some m => if windowsOpen s || powerFailing s then s else restartFlush m s
  | none => s
/-- WINDOW_CLOSE (R278, R285). -/
def execWindowClose (d : WindowData) (s : State) : Result := .next (finishRestart (closeWindow d s))
/-- A restart: the wired outputs keep their value until the reference is there (R19), and the power-fail sequence goes on
to OFF (R51). A restart in progress is not begun again. DEDUCED, log entry 32. -/
def restart (maintenance : Bool) (s : State) : State :=
  if powerFailing s || s.dev.flushing.isSome then s
  else if s.dev.referenceLost then { s with dev := { s.dev with restartWaits := some maintenance } }
  else restartNow maintenance s
/-- ZEROISE (R487): every key is erased, and the module restarts. -/
def zeroise (cause : Nat) (s : State) : State := restart false (eraseKeys cause s)
/-- TAMPER_ACTION is ZEROISE (R488). -/
def tamperZeroises (s : State) : Bool := flag s F.SEC.CONFIG_TAMPER_ACTION
/-- SEC's answer to a tamper event under ZEROISE (R488). DEDUCED, log entry 151. -/
def tamperResponse (s : State) : State := zeroise 1 (emit 0x1509 1 0 0 s)

end Sys2Proof.Machine
end

