-- ==== Sys2Proof/Machine/Start.lean ====
section
/-! DEFINITION. From power-on to tick 0, and the start-up commands (R49 to R80, R100). -/

namespace Sys2Proof.Machine

open Sys2Proof

/-! ### X1_GOOD and the boot self-tests (R52 to R56) -/

/-- A tamper event stands in the battery log (R317, R488). -/
def tamperLogged (s : State) : Bool := s.bat.log.any (fun e => e.kind == 3)
/-- X1_GOOD (R52, R521): from OFF, with an input at 18 V or above and the cold plate below 80 °C. `pd0` tells whether PD0
kept its contents. DESIGN CHOICE, log entry 12. -/
def execX1Good (aMv bMv : Nat) (pd0 : Bool) (s : State) : Result :=
  let cold := decide (toSigned 16 (getF s F.PWR.TEMPERATURE_BASE) < 800)
  .next (if inState s .off && decide (18000 ≤ max aMv bMv) && cold then
      let outage := if pd0 then s.bat.measuring else s.dev.epochFlash != 0
      let tampered := pd0 && tamperLogged s
      let s1 := if pd0 then stopMeasuring s else losePd0 s
      let s2 := putFields [(F.PWR.SUPPLY_A_MV, aMv), (F.PWR.SUPPLY_B_MV, bMv)]
        { s1 with pwr := { s1.pwr with inputGood := [decide (16000 ≤ aMv), decide (16000 ≤ bMv)] } }
      let s3 := enterBoot pd0 outage s2
      if tampered && tamperZeroises s3 then tamperResponse s3 else s3
    else s)

/-- The slots with a valid image, the higher version first (R54). DEDUCED, log entry 21. -/
def bootOrder (s : State) : List Nat :=
  (if imageVersion (slotImage s 0) < imageVersion (slotImage s 1) then [1, 0] else [0, 1]).filter (imageValid s)
/-- The start-up self-test of a slot's image. -/
def startsOk (o : BootOutcome) (k : Nat) : Bool := if k = 0 then o.startA else o.startB
/-- The image that starts, and the version of one that failed its self-test before it. DEDUCED, log entry 21. -/
def bootChoice (s : State) (o : BootOutcome) : Option (Nat × Option Nat) :=
  match bootOrder s with
  | [] => none
  | x :: rest =>
    if startsOk o x then some (x, none)
    else (rest.find? (startsOk o)).map (fun y => (y, some (imageVersion (slotImage s x))))
/-- The cause of a halt (R56), 0 when every test passes. -/
def bootFailure (o : BootOutcome) : Nat :=
  if !o.katOk then 1 else if !o.entropyOk then 2 else if !o.trainingOk then 3 else if !o.eccOk then 4 else 0
/-- A microcode image runs. -/
def runImage (k : Nat) (fellBack : Option Nat) (s : State) : State :=
  let b := slotImage s k
  let s1 := putFields [(F.DEV.BOOT_IMAGE_IMAGE, k), (F.DEV.BOOT_IMAGE_VERSION, imageVersion b),
    (F.SEC.STATUS_VALIDATED_IMAGE, ofBool (imageValidated b))]
    (updSec (fun p => { p with runningSlot := k }) s)
  match fellBack with
  | some v => emit 0x0002 k v 0 s1
  | none => s1
/-- BOOT is working: neither halted nor in recovery, and not abandoned by the power-fail sequence (R51). -/
def booting (s : State) : Bool :=
  inState s .boot && !flag s F.DEV.STATE_BOOT_HALTED && !flag s F.DEV.STATE_RECOVERY && !powerFailing s
/-- BOOT is over: LOAD, or MAINTENANCE on request (R50, R80). -/
def leaveBoot (s : State) : State :=
  let s1 := showCertified (putFields [(F.SEC.STATUS_RUNNING, 1), (F.MEM.STATUS_SCRUBBING, 1)] s)
  if s.dev.maintenanceRequested then setState .maintenance { s1 with dev := { s1.dev with maintenanceRequested := false } }
  else setState .load s1
/-- BOOT_SELF_TESTS_DONE (R54 to R56). DEDUCED, log entry 21. -/
def execBootSelfTestsDone (o : BootOutcome) (s : State) : Result :=
  .next (if !booting s then s
    else
      match bootChoice s o with
      | none => setF F.DEV.BOOT_STATUS 5 (setF F.DEV.STATE_RECOVERY 1 s)
      | some (k, fellBack) =>
        let s1 := runImage k fellBack s
        let cause := bootFailure o
        if cause ≠ 0 then setF F.DEV.STATE_BOOT_HALTED 1 (setF F.DEV.BOOT_STATUS cause s1) else leaveBoot s1)

/-! ### LOAD (R57 to R73) -/

/-- The card's GPT was read, and its primary header was bad (R59). PRESUMED, log entry 36. -/
def gptBackup (c : CardInfo) (s : State) : State :=
  if c.present && c.readError.isNone && cardSupported c && !gptGood c.primary.header then emit 0x0209 0 0 0 s else s
/-- Sections of the table that are applied or skipped before step 12 fails; all of them where it passes. DEDUCED, log entry 27. -/
def sectionsPassed (r : Reel) (s : State) : Nat → List SectionEntry → Nat
  | p, [] => p
  | p, e :: t => if (entryError r s p e).isSome || (crossError r s p).isSome then p else sectionsPassed r s (p + 1) t
/-- SECTION_SKIPPED for each unknown optional section among the first `n` (R65). DEDUCED, log entry 27. -/
def skipSections (r : Reel) (n : Nat) (s : State) : State :=
  ((numbered r.table).take n).foldl (fun t e => if knownEntry e.2 then t else emit 0x0204 e.1 e.2.typ e.2.bodyVersion t) s
/-- The wake time that R525 allows a domain, in µs. -/
def wakeUs (d : Nat) : Nat :=
  if within 4 7 d then 60 else if d = 8 || d = 9 then 200 else if d = 10 then 5000 else if d = 11 then 10000
  else if d = 12 then 2000 else 1000
/-- The load fails with an error (R72): the domains of step 11 are off again, and MAINTENANCE follows. -/
def failLoad (e : LoadError) (s : State) : State :=
  let s1 := if e.1 = 0x11 then emit 0x1704 e.2.2 (wakeUs e.2.2) 0 s else s
  setState .maintenance (emit 0x0202 e.1 e.2.1 e.2.2
    (putFields [(F.TXN.LOAD_ERROR_CODE, e.1), (F.TXN.LOAD_ERROR_SECTION, e.2.1), (F.TXN.LOAD_DETAIL, e.2.2)] s1))
/-- LOAD is working: the power-fail sequence abandons it (R51). -/
def loading (s : State) : Bool := inState s .load && !powerFailing s
/-- The card in the slot, as LOAD finds it (R57, R59). -/
def readCard (c : CardInfo) (s : State) : State :=
  gptBackup c { s with dev := { s.dev with cardPresent := c.present, cardMode := if c.present then (cardMode c).getD 0 else 0 } }
/-- LOAD_FAILED (R72): the load of this Reel fails at its first failing step. -/
def execLoadFailed (x : ReelImage) (c : CardInfo) (s : State) : Result :=
  .next (if !loading s then s
    else
      let r := loadedReel x s
      match loadErrorOf x r c s with
      | none => s
      | some e =>
        let s1 := readCard c s
        let early := (checkForm x r c s).isSome || (wakeError r c s).isSome
        failLoad e (if early then s1 else skipSections r (sectionsPassed r s 0 r.table) s1))

/-! ### Step 13 and the entry to ARMED (R71, R73, R74, R98) -/

/-- A write of a replayed Take goes into the configuration (R73): a KIND 4 value waits for tick 0. -/
def replayWrite (w : TakeWrite) (s : State) : State :=
  match tunableOf s w.id with
  | none => s
  | some t =>
    if t.kind = 4 then
      { s with txn := { s.txn with values := tablePut none s.txn.values (targetKey 4 t.target) (some w.value) } }
    else applyWrite 0 w s
/-- The marked entries of the log. -/
def markedEntries (s : State) : List LogEntry := s.txn.log.filter (fun e => e.mark == .marked)
/-- The last entry without a commit mark is torn: its space is erased, and SPLICE_TORN recorded (R98). DEDUCED, log entry 29. -/
def dropTorn (s : State) : State :=
  match tornEntry s.txn.log with
  | some e => emit 0x0210 e.takeId 0 0 { s with txn := { s.txn with log := withoutTorn s.txn.log } }
  | none => s
/-- The first two words of a hash. -/
def hashHead (h : List Nat) : Nat × Nat := (h.getD 0 0, h.getD 1 0)
/-- Empty the log, bind it to a hash, and record SPLICE_RESET with the old hash and its Take count (R73, R100). DEDUCED, log entry 26. -/
def spliceReset (hash : List Nat) (s : State) : State :=
  let h := hashHead (logHash s)
  let n := logTakes s
  resetLog hash (emit 0x0207 h.1 h.2 n s)
/-- Bind or replay the Splice log (R73). -/
def bindSplice (s : State) : State :=
  if logHash s == s.dev.reelHash then
    let s1 := dropTorn s
    let es := markedEntries s1
    let s2 := es.foldl (fun t e => setF F.TXN.LAST_APPLIED_ID e.takeId (e.writes.foldl (fun u w => replayWrite w u) t)) s1
    putLogFill (emit 0x0206 es.length 0 0 s2)
  else spliceReset s.dev.reelHash s
/-- A new METRO_HASH is counted, recorded and kept in PD0 (R71). DEDUCED, log entry 26. -/
def metrologyChanged (s : State) : State :=
  match s.cfg.metroSeal with
  | none => s
  | some x =>
    if x.hash = s.dev.metroHash then s
    else
      let a := hashHead s.dev.metroHash
      let b := hashHead x.hash
      emitAt (nowStamp s) 0x0B01 [a.1, a.2, b.1, b.2]
        (bumpF F.BOE.METRO_EVENT_COUNT 1 { s with dev := { s.dev with metroHash := x.hash } })
/-- Local starts: at the time of LOCK_DOMAIN where that is locked, else at the bootstrap counter (R74). DEDUCED, log entry 30. -/
def startLocal (s : State) : State :=
  let d := s.cfg.start.lockDomain
  let src := if s.cfg.start.timePolicy ≠ 0 && lockDomainLocked s then d else 0
  let b := s.clap.bases.getD src {}
  reselect (setF F.CLAP.STATUS_LOCAL_RUNNING 1 { s with clap := { s.clap with bases := s.clap.bases.set 1 b, kOff := 0, localStart := b.ns } })
/-- Entry to ARMED (R74, R356). -/
def arm (s : State) : State :=
  let s1 := setState .armed (startLocal s)
  let s2 := lrpArm { s1 with dev := { s1.dev with armedAt := nowNs s1 1, lockWaited := false, goAccepted := false, tickZeroAt := none } }
  supplyHealth (showSecHealth (showKeys s2))
/-- The effect of a load that passes (R72, R73). DEDUCED, log entries 26 and 151. -/
def finishLoad (r : Reel) (c : CardInfo) (s : State) : State :=
  let s1 := readCard c s
  let s2 := applyReel r (settleCrossings (setF F.PWR.DOMAIN_STATE r.power.domainEnable (skipSections r r.table.length s1)))
  let h := hashHead r.hash
  let s3 := emit 0x0203 h.1 h.2 0 (bindSplice s2)
  let s4 := arm (metrologyChanged s3)
  if tamperZeroises s4 && flag s4 F.BAT.STATUS_TAMPER then tamperResponse s4 else s4
/-- LOAD_DONE (R72): every load step of this Reel passes. -/
def execLoadDone (x : ReelImage) (c : CardInfo) (s : State) : Result :=
  .next (if loading s && (loadError x c s).isNone then finishLoad (loadedReel x s) c s else s)
/-- CARD_REMOVED (R60): recorded; in LOAD it fails the load with CARD_ERROR, the SD status being a free value. DEDUCED, log entry 28. -/
def execCardRemoved (s : State) : Result :=
  let s1 := { s with dev := { s.dev with cardPresent := false } }
  .next (if inState s .off || inState s .boot then s1
    else
      let s2 := emit 0x0205 0 0 0 s1
      if loading s then
        let (v, s3) := drawFree s2
        failLoad (0x02, 0xFF, lo32 v.toNat) s3
      else s2)

/-! ### From ARMED to LIVE (R75, R76) -/

/-- LOCK_WAIT_EXPIRED (R75): LOCK_WAIT_S has passed in ARMED without the lock. -/
def execLockWaitExpired (s : State) : Result :=
  let x := s.cfg.start
  .next (if inState s .armed && x.timePolicy != 0 && !s.dev.lockWaited && !lockDomainLocked s &&
      decide (s.dev.armedAt + x.lockWaitS * 1000000000 ≤ nowNs s 1) then
      let s1 := { s with dev := { s.dev with lockWaited := true } }
      if x.timePolicy = 1 then emit 0x0208 0 0 0 s1 else s1
    else s)
/-- Tick 0 is scheduled (R76): the first multiple of 125,000 ns of Local at least 250,000 ns after G. -/
def scheduleStart (s : State) : State :=
  let g := nowNs s 1
  { s with dev := { s.dev with startMetAt := g, tickZeroAt := some ((g + 250000 + 124999) / 125000 * 125000) } }
/-- START_CONDITION_MET (R75, R418, R420): `peer` is the level of PEER_ON_AIR. A pair starts as LEAD with the grant, and
joins as STAND_IN without it while the peer is on air. -/
def execStartConditionMet (peer : Bool) (s : State) : Result :=
  .next (if inState s .armed && !powerFailing s && startReady s && s.dev.tickZeroAt.isNone && !s.spot.joining then
      if pairReel s then
        let s1 := setF F.SPOT.INTERLOCK_PEER_ON_AIR (ofBool peer) s
        if flag s F.SPOT.INTERLOCK_GRANT && !peer then scheduleStart s1
        else if !flag s F.SPOT.INTERLOCK_GRANT && peer then startJoin s1
        else s1
      else scheduleStart s
    else s)
/-- The role in which a module that starts its own ticks goes live (R1, R410). -/
def startRole (s : State) : Nat :=
  match s.cfg.spotlight with
  | none => 0
  | some x => if x.witness then 3 else 1
/-- GO_LIVE (R76): tick 0 starts at its instant of Local. DEDUCED, log entry 31. -/
def execGoLive (s : State) : Result :=
  .next (match s.dev.tickZeroAt with
    | some t =>
      if inState s .armed && !powerFailing s && decide (t ≤ nowNs s 1) then
        let g := s.dev.startMetAt
        let s1 := enterLive (startRole s) 0 t { s with dev := { s.dev with tickZeroAt := none } }
        digitalFirst (beginTick (emit 0x0201 (lo32 g) (hi32 g) 0 s1))
      else s
    | none => s)

/-! ### The start-up commands (R78 to R80, R100) -/

/-- The GO command. -/
def cmdGo (c : Caller) (a0 : Nat) (s : State) : State × Reply :=
  runCommand 2 0x10 c a0 (some [roleOperator])
    (inState s .armed && s.cfg.start.startMode == 1 && timeMet s && !s.dev.goAccepted)
    (fun t => .ok ({ t with dev := { t.dev with goAccepted := true } }, resOk, 0)) s
/-- GO (R78). -/
def execGo (c : Caller) (a0 : Nat) (s : State) : Result := .next (cmdGo c a0 s).1
/-- The states in which MAINTENANCE is legal, and RESTART too (R78). -/
def restartLegal (s : State) : Bool :=
  inState s .load || inState s .armed || inState s .faultSafe || inState s .maintenance ||
    (inState s .live && !(role s == 1 && healthyStandIn s))
/-- Run a command, and on its acceptance restart. -/
def thenRestart (maintenance : Bool) (x : State × Reply) : State × Reply :=
  if x.2.result = resOk then (restart maintenance x.1, x.2) else x
/-- The RESTART command. -/
def cmdRestart (c : Caller) (a0 : Nat) (s : State) : State × Reply :=
  thenRestart false (runCommand 2 0x11 c a0 (some [roleEngineer])
    (restartLegal s || (inState s .boot && flag s F.DEV.STATE_BOOT_HALTED)) (fun t => .ok (t, resOk, 0)) s)
/-- RESTART (R78, R79). -/
def execRestart (c : Caller) (a0 : Nat) (s : State) : Result := .next (cmdRestart c a0 s).1
/-- The MAINTENANCE command. -/
def cmdMaintenance (c : Caller) (a0 : Nat) (s : State) : State × Reply :=
  thenRestart true (runCommand 2 0x12 c a0 (some [roleEngineer, roleSecurity]) (restartLegal s) (fun t => .ok (t, resOk, 0)) s)
/-- MAINTENANCE (R78, R79). -/
def execMaintenance (c : Caller) (a0 : Nat) (s : State) : Result := .next (cmdMaintenance c a0 s).1
/-- The DISCARD_SPLICE_LOG command: the log is emptied and bound to no Reel. -/
def cmdDiscardSpliceLog (c : Caller) (a0 : Nat) (s : State) : State × Reply :=
  runCommand 2 0x13 c a0 (some [roleEngineer]) (inState s .maintenance)
    (fun t => .ok (spliceReset (List.replicate 12 0) t, resOk, 0)) s
/-- DISCARD_SPLICE_LOG (R100). -/
def execDiscardSpliceLog (c : Caller) (a0 : Nat) (s : State) : Result := .next (cmdDiscardSpliceLog c a0 s).1

/-- Commands of TXN by opcode (R78, R103). -/
def txnCommand (op : Nat) (c : Caller) (a0 a1 a2 : Nat) (s : State) : State × Reply :=
  match op with
  | 0x01 => cmdOpen { c with spare := [a1, a2] } a0 s
  | 0x02 => cmdStage c a0 a1 (BitVec.ofNat 32 a2) s
  | 0x03 => cmdCommit { c with spare := [a1, a2] } a0 s
  | 0x04 => cmdCut { c with spare := [a1, a2] } a0 s
  | 0x05 => cmdReadTunable { c with spare := [a2] } a0 a1 s
  | 0x10 => cmdGo c a0 s
  | 0x11 => cmdRestart c a0 s
  | 0x12 => cmdMaintenance c a0 s
  | 0x13 => cmdDiscardSpliceLog c a0 s
  | _ => refuseOpcode 2 op c a0 s

/-- TAMPER_OPEN (R319, R488): the tamper loop reads open for 10 samples. -/
def execTamperOpen (s : State) : Result :=
  let s1 := tamperOpen s
  .next (if flag s1 F.BAT.STATUS_LOOP_OPEN && !flag s F.BAT.STATUS_LOOP_OPEN && x1Good s then
      if tamperZeroises s1 then tamperResponse s1 else showSecHealth s1
    else s1)

end Sys2Proof.Machine
end

