-- ==== Sys2Proof/Machine/Pwr.lean ====
section
/-! DEFINITION. PWR: the power-fail sequence, the two supply inputs, the PLLs and the reference, and the temperature of the
base (R17, R19, R51, R342, R521, R522, R528). -/

namespace Sys2Proof.Machine

open Sys2Proof

/-! ### The power-fail sequence (R17, R51, R522) -/

/-- Switch a list of domains off. -/
def domainsOff (ds : List Nat) (s : State) : State :=
  settleCrossings (ds.foldl (fun t d => setBit F.PWR.DOMAIN_STATE d false t) s)
/-- The work that units of the domains of a group have in hand goes with their power. DEDUCED, log entry 170. -/
def dropUnitWork (us : List Nat) (s : State) : State :=
  { s with tick := { s.tick with
      expected := s.tick.expected.filter (fun x => !us.contains x.1)
      outbox := s.tick.outbox.filter (fun e => !us.contains e.unit) } }
/-- The power-fail sequence starts: `cause` 0 supply, 1 thermal. T(P) is the next tick start (R522). -/
def startPowerFail (cause : Nat) (s : State) : State :=
  let mv := max (getF s F.PWR.SUPPLY_A_MV) (getF s F.PWR.SUPPLY_B_MV)
  let s1 := bumpF F.PWR.POWER_FAIL_COUNT 1 (setF F.PWR.STATUS_POWER_FAIL 1
    { s with
      dev := { s.dev with tickZeroAt := none }
      pwr := { s.pwr with failStep := 1, failTick := some (s.tick.number + 1), flushedCont := false, flushedAccum := false } })
  triggerFlush 4 (emit 0x1703 mv (getF s F.PWR.INPUT_POWER) cause s1)
/-- The supply readings. -/
def showSupply (aMv bMv : Nat) (s : State) : State := putFields [(F.PWR.SUPPLY_A_MV, aMv), (F.PWR.SUPPLY_B_MV, bMv)] s
/-- The readings of an input show whether it is good. -/
def showInput (x : Nat) (good : Bool) (s : State) : State :=
  setF (if x = 0 then F.PWR.STATUS_INPUT_A_GOOD else F.PWR.STATUS_INPUT_B_GOOD) (ofBool good)
    { s with pwr := { s.pwr with inputGood := listPut s.pwr.inputGood x good } }
/-- POWER_FAIL_STARTED (R17, R521): the higher input has been below 16.0 V for 50 µs. -/
def execPowerFailStarted (aMv bMv mw : Nat) (s : State) : Result :=
  .next (if inState s .off || powerFailing s || decide (16000 ≤ max aMv bMv) then s
    else startPowerFail 0 (setF F.PWR.INPUT_POWER mw (showSupply aMv bMv (showInput 0 false (showInput 1 false s)))))

/-- PD13 off. -/
def shedLongReach (s : State) : State := setF F.LRP.STATUS_RUNNING 0 (domainsOff [13] (lrpOff s))
/-- PD4 to PD8 off: the round in flight is abandoned. -/
def shedJuggler (s : State) : State :=
  domainsOff [4, 5, 6, 7, 8] (dropUnitWork [8] (abandonWork 8 0 (setF F.ASM.STATUS_ASSEMBLING 0 s)))
/-- PD14 and PD12 off. -/
def shedNetworks (s : State) : State :=
  domainsOff [14, 12] (setF F.CAN.STATUS_RUNNING 0 (setF F.NET.STATUS_RUNNING 0 (dropUnitWork [16, 17] (canStop (stnStop s)))))
/-- PD9, PD10 and PD11 off: the wired outputs hold, BOE closes its windows, and BAT measures current on battery. -/
def shedField (s : State) : State :=
  let s1 := botStop (boeStop (dropUnitWork [9, 10, 11, 12] s))
  let s2 := setF F.TRP.STATUS_RUNNING 0 (setF F.CAR.STATUS_RUNNING 0 (setF F.LIO.STATUS_RUNNING 0 s1))
  startMeasuring (domainsOff [9, 10, 11] s2)
/-- The group that a step of R17 sheds. -/
def shedGroup (step : Nat) (s : State) : State :=
  match step with
  | 1 => shedLongReach s
  | 2 => shedJuggler s
  | 3 => shedNetworks s
  | _ => shedField s
/-- The next of steps 1 to 4 is due: each at its own tick start where ticks run. DEDUCED, log entry 170. -/
def shedDue (s : State) : Bool :=
  decide (1 ≤ s.pwr.failStep) && decide (s.pwr.failStep ≤ 4) &&
    (!ticksRun s || match s.pwr.failTick with
      | some p => decide (p + s.pwr.failStep ≤ s.tick.number + 1)
      | none => true)
/-- POWER_FAIL_SHED (R17): the next group of domains. -/
def execPowerFailShed (s : State) : Result :=
  .next (if shedDue s then
      let k := s.pwr.failStep
      let s1 := shedGroup k s
      { s1 with pwr := { s1.pwr with failStep := k + 1 } }
    else s)

/-- OFF: PD2, PD3, PD1 and PD15 off; PD0 runs from the battery. A Splice log entry whose commit mark is not written stays
torn (R98). DESIGN CHOICE, log entry 12. -/
def goDark (s : State) : State :=
  let s1 := resetState (abandonAhead (startMeasuring s))
  let s2 := resetFields [F.PWR.SUPPLY_A_MV, F.PWR.SUPPLY_B_MV, F.PWR.INPUT_POWER, F.PWR.TEMPERATURE_BASE]
    (setF F.PWR.DOMAIN_STATE 1 s1)
  { s2 with dev := { s2.dev with state := .off, maintenanceRequested := false }, pwr := { s2.pwr with inputGood := [false, false] } }
/-- POWER_FAIL_OFF (R17): both flushes have ended. DEDUCED, log entry 97. -/
def execPowerFailOff (s : State) : Result :=
  .next (if s.pwr.failStep = 5 && s.pwr.flushedCont && (s.pwr.flushedAccum || !present s 13) then goDark s else s)
/-- HOLD_UP_EXHAUSTED (R17): the hold-up ends before the flushes do. -/
def execHoldUpExhausted (s : State) : Result := .next (if powerFailing s then goDark s else s)

/-! ### The two inputs (R521) -/

/-- The mV of an input. -/
def putSupply (x mv : Nat) (s : State) : State := setF (if x = 0 then F.PWR.SUPPLY_A_MV else F.PWR.SUPPLY_B_MV) mv s
/-- INPUT_LOST (R521): one input below 16.0 V while the other is good. -/
def execInputLost (x mv : Nat) (s : State) : Result :=
  .next (if !inState s .off && !powerFailing s && decide (x < 2) && decide (mv < 16000) && s.pwr.inputGood.getD x false &&
      s.pwr.inputGood.getD (1 - x) false then
      supplyHealth (emit 0x1701 x mv 0 (bumpF F.PWR.INPUT_LOST_COUNT 1 (showInput x false (putSupply x mv s))))
    else s)
/-- INPUT_RESTORED (R521, R534). -/
def execInputRestored (x mv : Nat) (s : State) : Result :=
  .next (if !inState s .off && decide (x < 2) && decide (16000 ≤ mv) && !s.pwr.inputGood.getD x false then
      let off := s.pwr.disconnected.getD x false && decide (36000 ≤ mv)
      let s1 := supplyHealth (emit 0x1702 x mv 0 (showInput x true (putSupply x mv s)))
      { s1 with pwr := { s1.pwr with disconnected := listPut s1.pwr.disconnected x off } }
    else s)
/-- INPUT_OVERVOLTAGE (R521): above 38 V for 1 ms, the input is disconnected until it falls below 36 V. DEDUCED, log entry 171. -/
def execInputOvervoltage (x mv : Nat) (s : State) : Result :=
  .next (if !inState s .off && decide (x < 2) then
      let off := decide (38000 < mv) || (s.pwr.disconnected.getD x false && decide (36000 ≤ mv))
      let s1 := putSupply x mv s
      { s1 with pwr := { s1.pwr with disconnected := listPut s1.pwr.disconnected x off } }
    else s)

/-! ### PLLs and the reference (R19, R288, R342) -/

/-- The units whose main clock a PLL drives. -/
def drivenUnits (p : Nat) : List Nat := (List.range 24).filter (fun u => unitClock u == p)
/-- PLL_UNLOCKED (R19): the clock of PLL `p` stops, and its units are FAILED until the next BOOT. Without CLK_TS or CLK_CORE
no tick can start. -/
def execPllUnlocked (p : Nat) (s : State) : Result :=
  .next (if decide (p < 10) && !inState s .off && clockRuns s p then
      let s1 := emit 0x1705 p 0 0 (setBit F.PWR.PLL_LOCK p false
        { s with pwr := { s.pwr with
            stoppedClocks := s.pwr.stoppedClocks + 2 ^ p, stoppedAt := tablePut 0 s.pwr.stoppedAt p s.clap.cycles } })
      let s2 := (drivenUnits p).foldl (fun t u => setFailedSticky u t) s1
      let s3 := if p = 6 then boeClockStop s2 else s2
      if p = 1 || p = 8 then enterFaultSafe s3 else s3
    else s)
/-- PLL_RELOCKED (R19): the clock runs again; neither a FAULTED state nor the FAILED HEALTH is undone. -/
def execPllRelocked (p : Nat) (s : State) : Result :=
  .next (if decide (p < 10) && !inState s .off && !clockRuns s p then
      settleCrossings
        (setBit F.PWR.PLL_LOCK p true { s with pwr := { s.pwr with stoppedClocks := s.pwr.stoppedClocks - 2 ^ p } })
    else s)
/-- REFERENCE_LOST (R19): the 50 MHz reference has stopped for more than 20 µs. -/
def execReferenceLost (us : Nat) (s : State) : Result :=
  .next (if decide (20 < us) && !inState s .off && !s.dev.referenceLost then
      enterFaultSafe (releaseAir (emit 0x1706 us 0 0 { s with dev := { s.dev with referenceLost := true } }))
    else s)
/-- REFERENCE_RETURNED (R19): the module stays in FAULT_SAFE until it restarts; a restart that waited is made now. -/
def execReferenceReturned (s : State) : Result :=
  let s1 := { s with dev := { s.dev with referenceLost := false, restartWaits := none } }
  .next (match s.dev.restartWaits with
    | some m => restart m s1
    | none => s1)

/-! ### The temperature of the base (R528) -/

/-- The reading of the base, in 0.1 °C, and its peak. -/
def showBase (t : Int) (s : State) : State :=
  let peak := max t (toSigned 16 (getF s F.PWR.TEMPERATURE_PEAK))
  putFields [(F.PWR.TEMPERATURE_BASE, ofSigned 16 t), (F.PWR.TEMPERATURE_PEAK, ofSigned 16 peak)] s
/-- TEMP_HIGH (R528): 75 °C or above for 1 s. -/
def execTempHigh (t : Int) (s : State) : Result :=
  .next (if !inState s .off && decide (750 ≤ t) && !flag s F.PWR.STATUS_TEMP_HIGH then
      supplyHealth (emit 0x1707 (ofSigned 16 t) 0 0 (setF F.PWR.STATUS_TEMP_HIGH 1 (showBase t s)))
    else s)
/-- TEMP_NORMAL (R528): below 72 °C for 10 s. -/
def execTempNormal (t : Int) (s : State) : Result :=
  .next (if !inState s .off && decide (t < 720) && flag s F.PWR.STATUS_TEMP_HIGH then
      supplyHealth (emit 0x1708 (ofSigned 16 t) 0 0 (setF F.PWR.STATUS_TEMP_HIGH 0 (showBase t s)))
    else s)
/-- TEMP_FAILED (R528): 85 °C or above for 1 s. HEALTH stays FAILED until the module leaves LIVE. -/
def execTempFailed (t : Int) (s : State) : Result :=
  .next (if inState s .live && decide (850 ≤ t) && !flag s F.PWR.STATUS_TEMP_FAILED then
      supplyHealth (emit 0x1709 (ofSigned 16 t) 0 0 (setF F.PWR.STATUS_TEMP_FAILED 1 (showBase t s)))
    else s)
/-- THERMAL_SHUTDOWN (R528): 95 °C or above for 100 ms starts the power-fail sequence. -/
def execThermalShutdown (t : Int) (s : State) : Result :=
  .next (if !inState s .off && !powerFailing s && decide (950 ≤ t) then
      startPowerFail 1 (emit 0x170A (ofSigned 16 t) 0 0 (showBase t s))
    else s)

end Sys2Proof.Machine
end

