-- ==== Sys2Proof/Machine/SecCmd.lean ====
section
/-! DEFINITION. The commands of SEC: sessions, keys, identity and random bytes, microcode, and the debug lock (R475 to
R494). -/

namespace Sys2Proof.Machine

open Sys2Proof

/-! ### The mailbox and a command's course (R494) -/

/-- States with host access (R49, R55, R56): a halted BOOT once the known-answer and entropy tests have passed. -/
def hostAccess (s : State) : Bool :=
  !inState s .off && (!inState s .boot || (flag s F.DEV.STATE_BOOT_HALTED && decide (3 ≤ getF s F.DEV.BOOT_STATUS)))
/-- Recovery mode (R55). -/
def recoveryMode (s : State) : Bool := inState s .boot && flag s F.DEV.STATE_RECOVERY
/-- The words of a register, as its fields stand. -/
def regWord (s : State) (a : Nat) : Nat := ((fieldsAt a).map (fun f => getF s f * 2 ^ f.lsb)).sum
/-- The input words of a command: the mailbox, or the management message's. -/
def secInput (c : Caller) (s : State) : List Nat :=
  match c.transport with
  | .mgmt => s.sec.inbox
  | _ => (List.range 1024).map (fun j => getF s (F.SEC.MAILBOX j))
/-- The output words of a command, to where its caller reads them. -/
def putOutput (c : Caller) (ws : List Nat) (s : State) : State :=
  match c.transport with
  | .mgmt => updSec (fun x => { x with outbox := ws }) s
  | _ => (numbered ws).foldl (fun t e => setF (F.SEC.MAILBOX e.1) e.2 t) s
/-- Some words drawn from the DRBG. -/
def drawWords : Nat → State → List Nat × State
  | 0, s => ([], s)
  | n + 1, s =>
    let (v, s1) := drawFree s
    let (l, s2) := drawWords n s1
    (lo32 v.toNat :: l, s2)
/-- The transport code of SES_STATE. -/
def transportCode (c : Caller) : Nat := if c.transport = .mgmt then 1 else 0
/-- What a SEC command's own steps give: the state, its result code and its return value. -/
abbrev SecOut := State × Nat × Nat
/-- A refusal in the argument or resource step. -/
def refuse (code : Nat) (s : State) : SecOut := (s, code, 0)

/-! ### Sessions (R479 to R482) -/

/-- The session request of R479: HOST_PUBLIC without its leading byte, and whether the request keeps its layout. -/
structure SessionRequest where
  credential : Nat
  role : Nat
  nonce : List Nat
  hostPublic : List Nat
  wellFormed : Bool
deriving DecidableEq, Repr
/-- Read the request's 152 bytes. Bytes 9 to 15 and 145 to 151 are reserved, and HOST_PUBLIC is a point on P-384. -/
def sessionRequest (b : List Nat) : SessionRequest :=
  let part := fun (i n : Nat) => (b.drop i).take n
  let key := part 49 96
  { credential := natLE (part 0 8), role := b.getD 8 0, nonce := part 16 32, hostPublic := key
    wellFormed := decide (natLE (part 9 7) = 0) && decide (natLE (part 145 7) = 0) && b.getD 48 0 == 4 && (pointOn key).isSome }
/-- The next SESSION_ID: 1 to 65,535, and not that of a session that exists. DEDUCED, log entry 150. -/
def nextSessionId (s : State) : Nat → Nat → Nat
  | 0, i => i
  | n + 1, i =>
    let j := if i ≥ 65535 then 1 else i + 1
    if (List.range 8).any (fun k => sesState s k != 0 && getF s (F.SEC.SES_STATE_SESSION_ID k) == j) then nextSessionId s n j else j
/-- The ASCII bytes of a text. -/
def asciiBytes (t : String) : List Nat := t.toList.map Char.toNat
/-- The module's serial number, eight bytes. -/
def serialBytes (s : State) : List Nat := bytesLE 4 (getF s F.DEV.SERIAL_LO) ++ bytesLE 4 (getF s F.DEV.SERIAL_HI)
/-- The session response to a request, with H1 and the 64 bytes of key material (R479). DEVICE_NONCE and the ephemeral
private number are drawn from the DRBG, and the IDevID signature is a free value. DESIGN CHOICE, log entry 11. -/
def sessionResponse (id : Nat) (request : List Nat) (q : SessionRequest) (s : State) : (List Nat × List Nat × List Nat) × State :=
  let (nonce, s1) := drawWords 8 s
  let (secret, s2) := drawWords 12 s1
  let (sig, s3) := drawWords 24 s2
  let d := natLE (bytesOfWords secret) % (n384 - 1) + 1
  let nonceBytes := bytesOfWords nonce
  let head := bytesLE 2 id ++ bytesLE 6 0 ++ nonceBytes ++ publicKey d ++ bytesLE 7 0
  let h1 := sha384 (asciiBytes "WNSE-1" ++ request ++ head ++ serialBytes s)
  let keys := hkdf384 (q.nonce ++ nonceBytes) ((ecdhShared d q.hostPublic).getD []) (asciiBytes "WNSE-KEYS" ++ bytesLE 2 id) 64
  ((wordsLE head ++ sig, h1, keys), s3)
/-- Fill a session slot. -/
def fillSession (k id role transport state cred : Nat) (h1 keys : List Nat) (s : State) : State :=
  putFields [(F.SEC.SES_STATE_SESSION_ID k, id), (F.SEC.SES_STATE_ROLE k, role), (F.SEC.SES_STATE_BAR k, 0),
    (F.SEC.SES_STATE_TRANSPORT k, transport), (F.SEC.SES_STATE_STATE k, state), (F.SEC.SES_CRED_LO k, lo32 cred),
    (F.SEC.SES_CRED_HI k, hi32 cred), (F.SEC.SES_IDLE k, 0)]
    (updSec (fun x => { x with lastSessionId := id
                               sessions := listUpd {} x.sessions k (fun _ =>
                                 { beganNs := nowNs s 0, openedNs := nowNs s 0, lastNs := nowNs s 0, h1 := h1
                                   traffic := keys.take 32, wrap := keys.drop 32 }) }) s)
/-- A session opens: over PCIe it becomes the BAR session, and the old one ends (R480). DEDUCED, log entry 150. -/
def openSession (k : Nat) (s : State) : State :=
  let s1 := if getF s (F.SEC.SES_STATE_TRANSPORT k) = 0 then
      setF (F.SEC.SES_STATE_BAR k) 1 (match barSlot s with
        | some b => if b = k then s else endSession b 4 s
        | none => s)
    else s
  let s2 := setF (F.SEC.SES_IDLE k) 0 (setF (F.SEC.SES_STATE_STATE k) 2
    (updSec (fun x => { x with sessions := listUpd {} x.sessions k (fun y => { y with openedNs := nowNs s 0, lastNs := nowNs s 0 }) }) s1))
  emit 0x1501 (getF s2 (F.SEC.SES_STATE_SESSION_ID k) + 65536 * getF s2 (F.SEC.SES_STATE_ROLE k)) (getF s2 (F.SEC.SES_STATE_TRANSPORT k))
    (getF s2 (F.SEC.SES_CRED_LO k)) s2
/-- The request asks for a claim that R482 allows. -/
def claimAllowed (c : Caller) (q : SessionRequest) (s : State) : Bool :=
  q.credential == 0 && q.role == 4 && inState s .maintenance && c.transport != .mgmt && flag s F.SEC.STATUS_CLAIMABLE
/-- Create a session in a free slot, half-open or, for a claim, open. DEDUCED, log entry 150. -/
def createSession (c : Caller) (request : List Nat) (q : SessionRequest) (claim : Bool) (s : State) : SecOut :=
  match (List.range 8).find? (fun k => sesState s k == 0) with
  | none => refuse resExhausted s
  | some k =>
    let id := nextSessionId s 9 s.sec.lastSessionId
    let ((ws, h1, keys), s1) := sessionResponse id request q s
    let s2 := fillSession k id (if claim then 15 else q.role) (transportCode c) 1 q.credential h1 keys s1
    (putOutput c ws (if claim then openSession k s2 else s2), resOk, id)
/-- SESSION_BEGIN's own steps (R479, R481, R482). DEDUCED, log entry 150. -/
def beginBody (c : Caller) (ws : List Nat) (s : State) : SecOut :=
  let request := bytesOfWords (ws.take 38)
  let q := sessionRequest request
  let t := transportCode c
  if flag s F.SEC.STATUS_DRBG_FAILED then refuse resIllegal s
  else if !q.wellFormed || decide (4 < q.role) then refuse resBadArgument s
  else if s.sec.transportLocked.any (fun e => e.1 == t) then refuse resNotAuthorised s
  else if q.credential = 0 then
    if claimAllowed c q s then createSession c request q true s else refuse resNotAuthorised (authFailed t 0 0 s)
  else if s.sec.locked.any (fun e => e.1 == q.credential) then refuse resNotAuthorised s
  else match findKey s q.credential with
    | none => refuse resNotAuthorised (authFailed t q.credential 0 s)
    | some (_, k) =>
      if k.kind ≠ 6 then refuse resNotAuthorised (authFailed t q.credential 0 s)
      else if k.roles / 2 ^ q.role % 2 = 0 || (t = 1 && (secCfg s).mgmtRoles / 2 ^ q.role % 2 = 0) then
        refuse resNotAuthorised (authFailed t q.credential 3 s)
      else createSession c request q false s
/-- The proof of a half-open session: its credential's signature over H2 verifies. -/
def proofOk (s : State) (k : Nat) (sig : List Nat) : Bool :=
  signedBy s 6 (sesCredential s k) (sha384 (asciiBytes "WNSE-2" ++ (s.sec.sessions.getD k {}).h1)) sig
/-- SESSION_PROVE's own steps. -/
def proveBody (c : Caller) (ws : List Nat) (s : State) : SecOut :=
  let w := fun (i : Nat) => ws.getD i 0
  let id := w 0 % 65536
  let mine := fun (k : Nat) => sesState s k == 1 && getF s (F.SEC.SES_STATE_SESSION_ID k) == id &&
    getF s (F.SEC.SES_STATE_TRANSPORT k) == transportCode c
  if w 0 / 65536 ≠ 0 || w 1 ≠ 0 || w 2 ≠ 0 || w 3 ≠ 0 then refuse resBadArgument s
  else match (List.range 8).find? mine with
    | none => refuse resBadArgument s
    | some k =>
      if proofOk s k (bytesOfWords ((ws.drop 4).take 24)) then (openSession k s, resOk, id)
      else refuse resNotAuthorised (authFailed (transportCode c) (sesCredential s k) 1 s)
/-- SESSION_CLOSE's own step. -/
def closeBody (c : Caller) (s : State) : SecOut :=
  match callerSlot s c with
  | some k => (endSession k 0 s, resOk, 0)
  | none => (s, resOk, 0)

/-! ### Keys (R483 to R487) -/

/-- A key that the loaded Reel names. -/
def reelNames (id : Nat) (s : State) : Bool :=
  s.cfg.header.engKeyId == id || s.cfg.header.reelKeyId == id || s.cfg.metroSeal.any (fun x => x.keyId == id) ||
    (stationList s).any (fun c => c.keyId == id) || s.cfg.spotlight.any (fun x => x.pairKeyId == id)
/-- The states in which a key may be installed or deleted at all (R485). -/
def keyStates (s : State) : Bool := inState s .maintenance || inState s .armed || inState s .live
/-- A key of this kind and ID may be installed or deleted now (R485). -/
def keyFree (kind id : Nat) (s : State) : Bool := inState s .maintenance || kind == 6 || !reelNames id s
/-- The plain text of a key blob (R484). -/
structure KeyBlob where
  keyId : Nat
  kind : Nat
  roles : Nat
  length : Nat
  reserved : Nat
  material : List Nat
  /-- The zeros that fill the blob up to a multiple of 8 bytes. -/
  padding : List Nat
deriving DecidableEq, Repr
/-- Read a plain text. -/
def readBlob (b : List Nat) : KeyBlob :=
  let n := natLE ((b.drop 10).take 2)
  { keyId := natLE (b.take 8), kind := b.getD 8 0, roles := b.getD 9 0, length := n, reserved := natLE ((b.drop 12).take 4)
    material := (b.drop 16).take n, padding := b.drop (16 + n) }
/-- The blob in some bytes, wrapped under a key: a public one of 128 bytes, or a secret one of 56 (R484). DEDUCED, log entry 152. -/
def unwrapBlob (key b : List Nat) : Option KeyBlob :=
  let one := fun (open_ : Bool) (n : Nat) =>
    ((keyUnwrap key (b.take n)).map readBlob).filter (fun x => publicKind x.kind == open_)
  match one true 128 with
  | some x => some x
  | none => one false 56
/-- A blob keeps the table of R484 and the roles of R477. -/
def blobOk (b : KeyBlob) : Bool :=
  b.keyId != 0 && within 1 6 b.kind && b.reserved == 0 && b.padding.all (fun x => x == 0) &&
    (if publicKind b.kind then b.length == 97 && b.material.getD 0 0 == 4 && (pointOn (b.material.drop 1)).isSome
     else b.length == 32) &&
    (if b.kind == 6 then decide (b.roles < 32) && (b.roles / 16 % 2 == 0 || b.roles == 16 || b.roles == 17) else b.roles == 0)
/-- The lowest free entry of a kind's pool. -/
def freeEntry (kind : Nat) (s : State) : Option Nat :=
  let p := keyPool kind
  ((List.range p.2).map (· + p.1)).find? (fun n => (tableGet none s.sec.keys n).isNone)
/-- End the claim sessions (R482). -/
def endClaims (s : State) : State :=
  (List.range 8).foldl (fun t k => if sesState t k = 2 && getF t (F.SEC.SES_STATE_ROLE k) = 15 then endSession k 7 t else t) s
/-- The wrap key of the caller's session. -/
def wrapKey (c : Caller) (s : State) : List Nat :=
  match callerSlot s c with
  | some k => (s.sec.sessions.getD k {}).wrap
  | none => []
/-- INSTALL_KEY's own steps. -/
def installBody (c : Caller) (ws : List Nat) (s : State) : SecOut :=
  match unwrapBlob (wrapKey c s) (bytesOfWords (ws.take 32)) with
  | none => refuse resBadArgument s
  | some b =>
    if !blobOk b then refuse resBadArgument s
    else if callerRole s c = some 15 && b.kind ≠ 6 then refuse resNotAuthorised s
    else if !keyFree b.kind b.keyId s then refuse resIllegal s
    else if (findKey s b.keyId).isSome then refuse resConflict s
    else match freeEntry b.kind s with
      | none => refuse resExhausted s
      | some n =>
        let first := decide (officers s = 0)
        let s1 := putKey n (some { id := b.keyId, kind := b.kind, roles := b.roles, material := b.material }) s
        let s2 := emit 0x1505 (lo32 b.keyId) (hi32 b.keyId) b.kind s1
        (if first && decide (0 < officers s2) then endClaims s2 else s2, resOk, (keyPool b.kind).2 - poolUsed s2 b.kind)
/-- DELETE_KEY's own steps. -/
def deleteBody (a0 a1 : Nat) (s : State) : SecOut :=
  let id := lo32 a0 + 2 ^ 32 * lo32 a1
  match findKey s id with
  | none => refuse resBadArgument s
  | some (n, k) =>
    if !keyFree k.kind id s || (officerKey k && decide (officers s = 1)) then refuse resIllegal s
    else
      let s1 := emit 0x1506 (lo32 id) (hi32 id) k.kind (putKey n none s)
      (if k.kind = 6 then endCredential id s1 else s1, resOk, 0)
/-- KEY_INFO's own steps. DEDUCED, log entry 152. -/
def infoBody (c : Caller) (a0 : Nat) (s : State) : SecOut :=
  if a0 > 4735 then refuse resBadArgument s
  else match tableGet none s.sec.keys a0 with
    | some k => (putOutput c [lo32 k.id, hi32 k.id, k.kind + 2 ^ 8 * k.roles + 2 ^ 16] s, resOk, k.kind)
    | none => (putOutput c [0, 0, 0] s, resOk, 0)

/-! ### Identity and random bytes (R476, R492) -/

/-- GET_CERT's own step. DESIGN CHOICE, log entry 7. -/
def certBody (c : Caller) (s : State) : SecOut :=
  let n := min 2048 Config.certificateLength
  (putOutput c ((List.range ((n + 3) / 4)).map (fun i => (Config.certificateWord i).toNat)) s, resOk, n)
/-- Twelve words of a hash. -/
def hashWords (h : List Nat) : List Nat := (List.range 12).map (fun i => h.getD i 0)
/-- ATTEST's own step: 152 bytes of report, then the signature as free values. DESIGN CHOICE, log entry 11; DEDUCED, log entry 152. -/
def attestBody (c : Caller) (ws : List Nat) (s : State) : SecOut :=
  let metro := (s.cfg.metroSeal.map (fun x => x.hash)).getD []
  let report := (List.range 8).map (fun i => ws.getD i 0) ++ [getF s F.DEV.SERIAL_LO, getF s F.DEV.SERIAL_HI,
    getF s F.CLAP.POWER_EPOCH, getF s F.DEV.BOOT_IMAGE_VERSION] ++ hashWords s.dev.reelHash ++ hashWords metro ++
    [regWord s 0x1500004, regWord s 0x0000004]
  let (sig, s1) := drawWords 24 s
  (putOutput c (report ++ sig) s1, resOk, 248)
/-- RANDOM's own step: the bytes past the last one asked for are not written. -/
def randomBody (c : Caller) (a0 : Nat) (s : State) : SecOut :=
  if a0 = 0 || a0 > 4096 then refuse resBadArgument s
  else
    let n := (a0 + 3) / 4
    let (ws, s1) := drawWords n s
    let keep := 2 ^ (8 * (a0 - 4 * (n - 1)))
    let old := match c.transport with
      | .mgmt => 0
      | _ => getF s (F.SEC.MAILBOX (n - 1))
    let last := ws.getD (n - 1) 0 % keep + old / keep * keep
    (putOutput c (ws.take (n - 1) ++ [last]) s1, resOk, a0)

/-! ### Microcode and the debug lock (R489 to R491) -/

/-- A chunk of an image goes into a slot; the last one gives the image its length. -/
def writeChunk (slot offset : Nat) (bytes : List Nat) (last : Bool) (s : State) : State :=
  updSec (fun p => { p with images := listUpd {} p.images slot (fun x =>
    { size := if last then offset + bytes.length else 0, chunks := tablePut [] x.chunks (offset / 4096) bytes }) }) s
/-- The image in a slot is invalid. -/
def dropImage (slot : Nat) (s : State) : State :=
  updSec (fun p => { p with images := listUpd {} p.images slot (fun x => { x with size := 0 }) }) s
/-- MICROCODE_WRITE's own steps: after the last chunk the image is checked under R54. -/
def microcodeBody (a0 a1 a2 : Nat) (ws : List Nat) (s : State) : SecOut :=
  let slot := 1 - s.sec.runningSlot
  if a0 % 4096 ≠ 0 || a1 = 0 || a1 > 4096 || a0 + a1 > 67108864 then refuse resBadArgument s
  else
    let bytes := (bytesOfWords ws).take a1
    let chunk := bytes ++ List.replicate (a1 - bytes.length) 0
    let s1 := writeChunk slot a0 chunk (a2 % 2 == 1) s
    if a2 % 2 = 0 then (s1, resOk, a1)
    else
      let v := imageVersion (slotImage s1 slot)
      if imageValid s1 slot then (emit 0x150A slot v 0 s1, resOk, a1)
      else refuse resBadArgument (emit 0x150A slot v 1 (dropImage slot s1))
/-- SET_MIN_VERSION's own steps. -/
def minVersionBody (s : State) : SecOut :=
  let v := getF s F.DEV.BOOT_IMAGE_VERSION
  let left := getF s F.SEC.MIN_VERSION_WRITES_LEFT
  if v ≤ getF s F.SEC.MIN_VERSION_VERSION then refuse resBadArgument s
  else if left = 0 then refuse resExhausted s
  else (emit 0x150B v (left - 1) 0 (setF F.SEC.MIN_VERSION_VERSION v (setF F.SEC.MIN_VERSION_WRITES_LEFT (left - 1) s)), resOk, v)
/-- The debug signature over SHA-384 of "WNDB", the serial and ZEROISE_COUNT verifies under the debug key, which the hash in
one-time-programmable memory binds. DESIGN CHOICE, log entry 129. -/
def debugSigned (sig : List Nat) (s : State) : Bool :=
  sha384 s.sec.debugKey == s.sec.debugKeyHash &&
    ecdsaVerify (s.sec.debugKey.drop 1)
      (sha384 (asciiBytes "WNDB" ++ serialBytes s ++ bytesLE 4 (getF s F.SEC.ZEROISE_COUNT))) sig
/-- DEBUG_UNLOCK's check of its token. -/
def tokenBody (ws : List Nat) (s : State) : SecOut :=
  let w := fun (i : Nat) => ws.getD i 0
  if w 0 = getF s F.DEV.SERIAL_LO && w 1 = getF s F.DEV.SERIAL_HI && w 2 = 0 && w 3 = 0 &&
      debugSigned (bytesOfWords ((ws.drop 4).take 24)) s then (s, resOk, 0)
  else refuse resBadArgument s
/-- The effects of an accepted token, in order: keys erased, the fuse blown, a restart. -/
def debugOpen (s : State) : State :=
  restart false (emit 0x150C 0 0 0 (showCertified (setF F.SEC.STATUS_DEBUG_OPENED 1 (eraseKeys 2 s))))

/-! ### The commands (R494) -/

/-- The own steps of a SEC command. -/
def secBody (x : SecCall) (s : State) : SecOut :=
  match x.opcode with
  | 0x01 => beginBody x.caller x.input s
  | 0x02 => proveBody x.caller x.input s
  | 0x03 => closeBody x.caller s
  | 0x10 => installBody x.caller x.input s
  | 0x11 => deleteBody x.a0 x.a1 s
  | 0x12 => infoBody x.caller x.a0 s
  | 0x20 => certBody x.caller s
  | 0x21 => attestBody x.caller x.input s
  | 0x22 => randomBody x.caller x.a0 s
  | 0x30 => microcodeBody x.a0 x.a1 x.a2 x.input s
  | 0x31 => minVersionBody s
  | 0x40 => tokenBody x.input s
  | _ => (s, resOk, 0)
/-- The own steps, with the record of a refusal. -/
def secFinish (x : SecCall) (s : State) : SecOut :=
  let (t, code, ret) := secBody x s
  (if code = resOk then t else emit 0x15FF x.opcode code x.a0 t, code, ret)
/-- ZEROISE and DEBUG_UNLOCK restart the module once they are accepted. -/
def secAfter (op : Nat) (x : State × Reply) : State × Reply :=
  if x.2.result ≠ resOk then x
  else if op = 0x13 then (zeroise 0 x.1, x.2)
  else if op = 0x40 then (debugOpen x.1, x.2)
  else x
/-- A SEC command: its checks, then its own steps, at once or, where it takes longer than 2 µs, at SEC_COMMAND_DONE.
DEDUCED, log entry 152. -/
def runSec (op : Nat) (c : Caller) (a0 a1 a2 : Nat) (slow : Bool) (roles : Option (List Nat)) (legal : Bool) (s : State) :
    State × Reply :=
  secAfter op (runCommand 21 op c a0 roles legal (fun t =>
    let x : SecCall := { opcode := op, a0 := a0, a1 := a1, a2 := a2, input := secInput c t, caller := c }
    if t.sec.busy.isSome then .error resBusy
    else if slow then .ok (updSec (fun p => { p with busy := some x }) t, resPending, 0)
    else .ok (secFinish x t)) s)
/-- Roles of a command for every session but a claim. -/
def sessionRoles : Option (List Nat) := some anyRole
/-- Roles of a command that a claim session may use too. -/
def claimRoles : Option (List Nat) := some (anyRole ++ [15])
/-- The SECURITY_OFFICER role. -/
def officerRole : Option (List Nat) := some [roleSecurity]
/-- States of ATTEST and RANDOM. -/
def attestStates (s : State) : Bool := inState s .armed || inState s .live || inState s .faultSafe || inState s .maintenance

/-- SESSION_BEGIN (R479). -/
def cmdSessionBegin (c : Caller) (a0 : Nat) (slow : Bool) (s : State) : State × Reply :=
  runSec 0x01 c a0 0 0 slow none (hostAccess s) s
/-- SESSION_PROVE (R479). -/
def cmdSessionProve (c : Caller) (a0 : Nat) (slow : Bool) (s : State) : State × Reply :=
  runSec 0x02 c a0 0 0 slow none (hostAccess s) s
/-- SESSION_CLOSE (R480). -/
def cmdSessionClose (c : Caller) (a0 : Nat) (slow : Bool) (s : State) : State × Reply :=
  runSec 0x03 c a0 0 0 slow sessionRoles (hostAccess s) s
/-- INSTALL_KEY (R484, R485). -/
def cmdInstallKey (c : Caller) (a0 : Nat) (slow : Bool) (s : State) : State × Reply :=
  runSec 0x10 c a0 0 0 slow (some [roleSecurity, 15]) (keyStates s) s
/-- DELETE_KEY (R485). -/
def cmdDeleteKey (c : Caller) (a0 a1 : Nat) (slow : Bool) (s : State) : State × Reply :=
  runSec 0x11 c a0 a1 0 slow officerRole (keyStates s) s
/-- KEY_INFO (R494). -/
def cmdKeyInfo (c : Caller) (a0 : Nat) (slow : Bool) (s : State) : State × Reply :=
  runSec 0x12 c a0 0 0 slow claimRoles (hostAccess s) s
/-- ZEROISE (R487). -/
def cmdZeroise (c : Caller) (a0 : Nat) (slow : Bool) (s : State) : State × Reply :=
  runSec 0x13 c a0 0 0 slow officerRole (hostAccess s) s
/-- GET_CERT (R476). -/
def cmdGetCert (c : Caller) (a0 : Nat) (slow : Bool) (s : State) : State × Reply :=
  runSec 0x20 c a0 0 0 slow claimRoles (hostAccess s) s
/-- ATTEST (R492). -/
def cmdAttest (c : Caller) (a0 : Nat) (slow : Bool) (s : State) : State × Reply :=
  runSec 0x21 c a0 0 0 slow sessionRoles (attestStates s) s
/-- RANDOM (R492): refused while the DRBG is stopped. -/
def cmdRandom (c : Caller) (a0 : Nat) (slow : Bool) (s : State) : State × Reply :=
  runSec 0x22 c a0 0 0 slow sessionRoles (attestStates s && !flag s F.SEC.STATUS_DRBG_FAILED) s
/-- MICROCODE_WRITE (R489): in recovery it needs no session. -/
def cmdMicrocodeWrite (c : Caller) (a0 a1 a2 : Nat) (slow : Bool) (s : State) : State × Reply :=
  runSec 0x30 c a0 a1 a2 slow (if recoveryMode s then none else officerRole) (inState s .maintenance || recoveryMode s) s
/-- SET_MIN_VERSION (R490). -/
def cmdSetMinVersion (c : Caller) (a0 : Nat) (slow : Bool) (s : State) : State × Reply :=
  runSec 0x31 c a0 0 0 slow officerRole (inState s .maintenance) s
/-- DEBUG_UNLOCK (R491). -/
def cmdDebugUnlock (c : Caller) (a0 : Nat) (slow : Bool) (s : State) : State × Reply :=
  runSec 0x40 c a0 0 0 slow officerRole (inState s .maintenance) s

/-- SESSION_BEGIN (R479). -/
def execSessionBegin (c : Caller) (a0 : Nat) (slow : Bool) (s : State) : Result :=
  .next (cmdSessionBegin c a0 slow s).1
/-- SESSION_PROVE (R479). -/
def execSessionProve (c : Caller) (a0 : Nat) (slow : Bool) (s : State) : Result :=
  .next (cmdSessionProve c a0 slow s).1
/-- SESSION_CLOSE (R480). -/
def execSessionClose (c : Caller) (a0 : Nat) (slow : Bool) (s : State) : Result :=
  .next (cmdSessionClose c a0 slow s).1
/-- INSTALL_KEY (R484). -/
def execInstallKey (c : Caller) (a0 : Nat) (slow : Bool) (s : State) : Result :=
  .next (cmdInstallKey c a0 slow s).1
/-- DELETE_KEY (R485). -/
def execDeleteKey (c : Caller) (a0 a1 : Nat) (slow : Bool) (s : State) : Result :=
  .next (cmdDeleteKey c a0 a1 slow s).1
/-- KEY_INFO (R494). -/
def execKeyInfo (c : Caller) (a0 : Nat) (slow : Bool) (s : State) : Result :=
  .next (cmdKeyInfo c a0 slow s).1
/-- ZEROISE (R487). -/
def execZeroise (c : Caller) (a0 : Nat) (slow : Bool) (s : State) : Result :=
  .next (cmdZeroise c a0 slow s).1
/-- GET_CERT (R476). -/
def execGetCert (c : Caller) (a0 : Nat) (slow : Bool) (s : State) : Result :=
  .next (cmdGetCert c a0 slow s).1
/-- ATTEST (R492). -/
def execAttest (c : Caller) (a0 : Nat) (slow : Bool) (s : State) : Result :=
  .next (cmdAttest c a0 slow s).1
/-- RANDOM (R492). -/
def execRandom (c : Caller) (a0 : Nat) (slow : Bool) (s : State) : Result :=
  .next (cmdRandom c a0 slow s).1
/-- MICROCODE_WRITE (R489). -/
def execMicrocodeWrite (c : Caller) (a0 a1 a2 : Nat) (slow : Bool) (s : State) : Result :=
  .next (cmdMicrocodeWrite c a0 a1 a2 slow s).1
/-- SET_MIN_VERSION (R490). -/
def execSetMinVersion (c : Caller) (a0 : Nat) (slow : Bool) (s : State) : Result :=
  .next (cmdSetMinVersion c a0 slow s).1
/-- DEBUG_UNLOCK (R491). -/
def execDebugUnlock (c : Caller) (a0 : Nat) (slow : Bool) (s : State) : Result :=
  .next (cmdDebugUnlock c a0 slow s).1

/-! ### Answers to the management port (R508, R509) -/

/-- The reply to a BEGIN message is its response, that to a PROVE or COMMAND message a RESPONSE; a refused BEGIN or PROVE
has none. -/
def replyTo (kind id tag op : Nat) (r : Reply) (s : State) : State :=
  if kind = 1 then (if r.result = resOk then sendMessage 2 r.ret tag false s.sec.outbox s else s)
  else if kind = 3 && r.result ≠ resOk then s
  else sendResponse id tag 21 op r.result r.ret 4 s.sec.outbox s

/-- SEC_COMMAND_DONE (R494): the command that is PENDING ends, and a management message that waits for it is answered. -/
def execSecCommandDone (s : State) : Result :=
  .next (match s.sec.busy with
    | none => s
    | some x =>
      let (t, code, ret) := secFinish x (updSec (fun p => { p with busy := none }) s)
      let r : Reply := { result := code, ret := ret }
      let t1 := commandDone 21 x.opcode none code ret (showResult 21 x.opcode r t)
      let t2 := match t1.host.mgmtWaits with
        | some (kind, id, tag) => replyTo kind id tag x.opcode r { t1 with host := { t1.host with mgmtWaits := none } }
        | none => t1
      (secAfter x.opcode (t2, r)).1)

/-! ### Events of SEC -/

/-- SESSION_PROOF_TIMEOUT (R480, R481): a session not proved within 10 s is discarded. -/
def execSessionProofTimeout (k : Nat) (s : State) : Result :=
  .next (if decide (k < 8) && sesState s k == 1 && decide ((s.sec.sessions.getD k {}).beganNs + secondsNs 10 ≤ nowNs s 0) then
      freeSession k (authFailed (getF s (F.SEC.SES_STATE_TRANSPORT k)) (sesCredential s k) 2 s)
    else s)
/-- SESSION_ENDED (R480): a session reaches its idle time or its age. -/
def execSessionEnded (k : Nat) (s : State) : Result :=
  let x := s.sec.sessions.getD k {}
  .next (if !sessionOpen s k then s
    else if x.lastNs + secondsNs (secCfg s).idleS ≤ nowNs s 0 then endSession k 1 s
    else if x.openedNs + secondsNs (secCfg s).maxS ≤ nowNs s 0 then endSession k 2 s
    else s)
/-- LOCKOUT_EXPIRED (R481): the lock of a credential, or of a transport, has run its time. -/
def execLockoutExpired (credential : Nat) (transport : Option Nat) (s : State) : Result :=
  let now := nowNs s 0
  let held := fun (key ns : Nat) (e : Nat × Nat) => e.1 != key || decide (now < e.2 + ns)
  .next (match transport with
    | none => updSec (fun x => { x with locked := x.locked.filter (held credential (secondsNs (secCfg s).lockoutS)) }) s
    | some t => updSec (fun x => { x with transportLocked := x.transportLocked.filter (held t (secondsNs 60)) }) s)
/-- SELF_TEST_FAILED (R492): a continuous health test fails, `which` 0 of the entropy source, 1 of the DRBG. -/
def execSelfTestFailed (which : Nat) (s : State) : Result :=
  .next (if flag s F.SEC.STATUS_RUNNING && !flag s F.SEC.STATUS_DRBG_FAILED && decide (which < 2) then
      showCertified (showSecHealth (emit 0x150D which 0 0 (setF F.SEC.STATUS_DRBG_FAILED 1 s)))
    else s)

/-- Commands of SEC by opcode. -/
def secCommand (op : Nat) (c : Caller) (a0 a1 a2 : Nat) (slow : Bool) (s : State) : State × Reply :=
  match op with
  | 0x01 => cmdSessionBegin c a0 slow s
  | 0x02 => cmdSessionProve c a0 slow s
  | 0x03 => cmdSessionClose c a0 slow s
  | 0x10 => cmdInstallKey c a0 slow s
  | 0x11 => cmdDeleteKey c a0 a1 slow s
  | 0x12 => cmdKeyInfo c a0 slow s
  | 0x13 => cmdZeroise c a0 slow s
  | 0x20 => cmdGetCert c a0 slow s
  | 0x21 => cmdAttest c a0 slow s
  | 0x22 => cmdRandom c a0 slow s
  | 0x30 => cmdMicrocodeWrite c a0 a1 a2 slow s
  | 0x31 => cmdSetMinVersion c a0 slow s
  | 0x40 => cmdDebugUnlock c a0 slow s
  | _ => refuseOpcode 21 op c a0 s

end Sys2Proof.Machine
end

