-- ==== Sys2Proof/Machine/Access.lean ====
section
/-! DEFINITION. Host accesses to BAR0: what a register shows, the effects of a read and of a write, and accesses that do not
reach a unit (R2, R4 to R8, R11 to R15, R27, R207, R391, R450, R510). -/

namespace Sys2Proof.Machine

open Sys2Proof

/-! ### What a register shows -/

/-- Seconds between two counts. -/
def secondsSince (now since : Nat) : Nat := (now - since) / 1000000000
/-- Half of a 64-bit number: its low word at a LO register, its high word at a HI one. -/
def halfWord (hi : Bool) (n : Nat) : Nat := if hi then hi32 n else lo32 n
/-- TICK's computed registers. The per-unit registers of an absent unit read 0 (R46). -/
def viewTick (s : State) (f : Field) : Option Nat :=
  if f = F.TICK.NUMBER_LO then some (tickLo s)
  else if f = F.TICK.NUMBER_HI then some (hi32 s.tick.number)
  else if 0x0100100 ≤ f.addr && f.addr < 0x0100280 && !present s ((f.addr - 0x0100100) / 0x10) then some 0
  else none
/-- The Clapper's computed registers. -/
def viewClap (s : State) (f : Field) : Option Nat :=
  let o := f.addr - 0x0300000
  if f = F.CLAP.STATUS_LOCAL_QUALITY then some (if flag s F.CLAP.STATUS_LOCAL_RUNNING then baseQuality s 1 else 0)
  else if o = 0x10 || o = 0x14 then some (halfWord (o == 0x14) (ofSigned 64 s.clap.kOff))
  else if 0x100 ≤ o && o < 0x280 then
    let b := (o - 0x100) / 0x40
    let r := (o - 0x100) % 0x40
    if r = 0 || r = 4 then some (halfWord (r == 4) (nowNs s b))
    else if r = 0x34 then
      some (if getF s (F.CLAP.BASE_STATE b) = 3 && 2 ≤ b then secondsSince (nowNs s 0) (s.clap.domains.getD (b - 2) {}).holdoverSince else 0)
    else none
  else none
/-- Reel points of the latest snapshot whose quality bits pass a test (R135). -/
def countSnapshot (p : Nat → Bool) (s : State) : Nat :=
  if s.pimg.snap = [] then 0 else s.cfg.points.countP (fun c => p (snapPoint s c.index).quality)
/-- The process image's computed registers. -/
def viewPimg (s : State) (f : Field) : Option Nat :=
  if f = F.PIMG.STALE_NOW then some (countSnapshot (fun q => bitOf q 4 == 1) s)
  else if f = F.PIMG.ABSENT_NOW then some (countSnapshot (fun q => bitOf q 6 == 1) s)
  else if f = F.PIMG.INVALID_NOW then some (countSnapshot (fun q => bitOf q 0 == 0) s)
  else none
/-- A fault bit of LIO is set. -/
def lioFaultAny (s : State) : Bool :=
  [F.LIO.AI_FAULT, F.LIO.AO_FAULT, F.LIO.RTD_FAULT_LO, F.LIO.RTD_FAULT_HI, F.LIO.DO_FAULT_LO, F.LIO.DO_FAULT_HI].any (fun f => getF s f != 0)
/-- TRP's and CAR's RUNNING, TASK_STATE, parameters in force, constants in force, and the Carousel's timers and counters. -/
def viewWork (s : State) (f : Field) : Option Nat :=
  let t := (f.addr - 0x0A00100) / 0x10
  if f = F.TRP.STATUS_RUNNING then some (ofBool (trpRuns s))
  else if f = F.CAR.STATUS_RUNNING then some (ofBool (carRuns s))
  else if t < 4 && f = F.CAR.TASK_STATE_SCANNING t then some (taskShown s t).1
  else if t < 4 && f = F.CAR.TASK_STATE_DEPTH t then some (taskShown s t).2.1
  else if t < 4 && f = F.CAR.TASK_STATE_ADDR t then some (taskShown s t).2.2
  else if 0x0940000 ≤ f.addr && f.addr < 0x0A00000 then some (inForce s 2 ((f.addr - 0x0940000) / 4)).toNat
  else if 0x0A40000 ≤ f.addr && f.addr < 0x0A80000 then some (inForce s 1 ((f.addr - 0x0A40000) / 4)).toNat
  else if 0x0A80000 ≤ f.addr && f.addr < 0x0AC0000 then some (tableGet {} s.car.items.timers ((f.addr - 0x0A80000) / 4)).elapsed
  else if 0x0AC0000 ≤ f.addr && f.addr < 0x0B00000 then
    some (ofSigned 32 (tableGet {} s.car.items.counters ((f.addr - 0x0AC0000) / 4)).cv)
  else none
/-- The billing registers: BOE's meters, BOT's calculators, BAT's current channels. -/
def viewBilling (s : State) (f : Field) : Option Nat :=
  let a := f.addr
  let hi := a % 8 == 4
  if 0x0B01000 ≤ a && a < 0x0B02000 && a % 0x100 < 0x30 then
    some (halfWord hi (accumAt s (meterReg ((a - 0x0B01000) / 0x100) (a % 0x100 / 8))).count)
  else if 0x0C01000 ≤ a && a < 0x0C03000 && a % 0x100 < 0x70 then
    some (halfWord hi (accumAt s (calcReg ((a - 0x0C01000) / 0x100) (a % 0x100 / 8))).count)
  else if 0x0D00100 ≤ a && a < 0x0D00400 && a % 0x10 < 8 then
    some (halfWord hi (accumAt s (mahReg ((a - 0x0D00100) / 0x10))).count)
  else none
/-- Spotlight's computed registers. DESIGN CHOICE, log entry 8. -/
def viewSpot (s : State) (f : Field) : Option Nat :=
  if f = F.SPOT.HEALTH_MODULE then some (moduleHealth s)
  else if f = F.SPOT.HEALTH_FAILED_UNITS then
    some (((countedUnits s).filter (fun u => unitHealth s u == 2)).map (fun u => 2 ^ u)).sum
  else if f = F.SPOT.STATUS_READY || f = F.SPOT.INTERLOCK_READY then some (ofBool (ready s))
  else if f = F.SPOT.INTERLOCK_RM_ALIVE then some (ofBool (pairReel s && Config.rmAliveLevel s.clap.cycles))
  else none
/-- MEM's blocks: those of an absent memory read 0 (R453). -/
def viewMem (s : State) (f : Field) : Option Nat :=
  let a := f.addr
  let m := if a < 0x1301000 then (a - 0x1300100) / 0x20 else (a - 0x1301000) / 0x200
  if a < 0x1300100 then none
  else if !memPresent s m then some 0
  else if f = F.MEM.MEM_INFO_PRESENT m then some 1
  else none
/-- A computed register's value; none for a register that holds its value itself. -/
def viewField (s : State) (f : Field) : Option Nat :=
  match unitOfAddr f.addr with
  | 1 => viewTick s f
  | 3 => viewClap s f
  | 4 => viewPimg s f
  | 5 => if f = F.LIO.STATUS_FAULT_ANY then some (ofBool (lioFaultAny s)) else none
  | 8 =>
    let c := (f.addr - 0x0800010) / 4
    if c < 4 && f = F.JUG.CLUSTER_STATE_POWERED c then some (ofBool (domainOn s (clusterDomain c))) else none
  | 9 => viewWork s f
  | 10 => viewWork s f
  | 11 => viewBilling s f
  | 12 => viewBilling s f
  | 13 => viewBilling s f
  | 18 => viewSpot s f
  | 19 => viewMem s f
  | 21 =>
    let k := (f.addr - 0x1500100) / 0x10
    if 0x1500100 ≤ f.addr && f.addr < 0x1500180 && f.addr % 0x10 = 0xC then
      some (if sessionOpen s k then secondsSince (nowNs s 0) (s.sec.sessions.getD k {}).lastNs else 0)
    else none
  | 22 =>
    if f = F.HOST.STATUS_BAR_SESSION then some (ofBool (barSlot s).isSome)
    else if f = F.HOST.SUBSCRIBED then some s.host.subs.length
    else none
  | _ => none
/-- What a field shows at present; a WO field shows 0. -/
def showField (s : State) (f : Field) : Nat := if f.access = .wo then 0 else (viewField s f).getD (getF s f) % 2 ^ f.width
/-- The word of a register at present. -/
def showWord (s : State) (a : Nat) : Nat := ((fieldsAt a).map (fun f => showField s f * 2 ^ f.lsb)).sum

/-! ### Latched high words (R27, R107, R293, R323) -/

/-- The HI register that a read of this LO register latches. DEDUCED, log entry 160. -/
def latchedBy (a : Nat) : Option Nat :=
  let within_ := fun (lo hi stride top : Nat) => decide (lo ≤ a) && decide (a < hi) && decide ((a - lo) % stride < top) && a % 8 == lo % 8
  let pair := a == 0x0000010 || a == 0x0100008 || a == 0x0300010 || a == 0x120001C ||
    within_ 0x0300100 0x0300280 0x40 4 || within_ 0x0B01000 0x0B02000 0x100 0x30 || within_ 0x0C01000 0x0C03000 0x100 0x70 ||
    within_ 0x0D00100 0x0D00400 0x10 8 || (fieldsAt a == [F.STN.ST_UP_SEQ_LO ((a - 0x1010008) / 0x20)]) ||
    (decide (0x1110000 ≤ a) && decide (a < 0x1130000) && a % 0x80 == 8) ||
    (decide (0x1301000 ≤ a) && decide (a < 0x1302200) && a % 0x10 == 0) ||
    (decide (0x1500100 ≤ a) && decide (a < 0x1500180) && a % 0x10 == 4)
  if pair && !(fieldsAt a).isEmpty then some (a + 4) else none
/-- The register at an address is the HI word of such a pair. DEDUCED, log entry 160. -/
def latchedHigh (a : Nat) : Bool := decide (4 ≤ a) && latchedBy (a - 4) == some a
/-- What a HI register shows before any read of its LO register: 0 where that is its reset value, else its word. DEDUCED, log entry 160. -/
def unlatched (s : State) (a : Nat) : Nat :=
  if a = 0x0000014 || (0x0B00000 ≤ a && a < 0x0E00000) then showWord s a else 0
/-- The word that a read returns. DESIGN CHOICE, log entry 18. -/
def readValue (s : State) (a : Nat) : Nat :=
  if latchedHigh a then (tableGet none s.host.latched a).getD (unlatched s a) else showWord s a
/-- The effects of a read: RC fields clear to their reset values, 0 but for the 0xFFFF of TICK.LENGTH_RANGE.MIN; a LO word
latches its HI word, and NOW_LO its base's quality. DEDUCED, log entry 161. -/
def readEffects (a : Nat) (s : State) : State :=
  let s1 := match latchedBy a with
    | some h => { s with host := { s.host with latched := tablePut none s.host.latched h (some (showWord s h)) } }
    | none => s
  let s2 := if 0x0300100 ≤ a && a < 0x0300280 && (a - 0x0300100) % 0x40 = 0 then
      let b := (a - 0x0300100) / 0x40
      setF (F.CLAP.BASE_QUALITY b) (baseQuality s b) s1
    else s1
  ((fieldsAt a).filter (fun f => f.access == .rc)).foldl (fun t f => setF f f.reset t) s2

/-! ### Accesses that reach no unit -/

/-- HOST serves accesses. -/
def hostUp (s : State) : Bool := !inState s .off && domainOn s 15 && clockRuns s 9
/-- A unit that does not answer in recovery or in a halted BOOT (R55, R56). DEDUCED, log entry 15. -/
def silentUnit (s : State) (u : Nat) : Bool :=
  inState s .boot && ((flag s F.DEV.STATE_RECOVERY && !(u == 0 || u == 21 || u == 22)) ||
    (flag s F.DEV.STATE_BOOT_HALTED && !(u == 0 || u == 2 || u == 20 || u == 21 || u == 22)))
/-- A present unit whose domain is off or whose clock stands (R15, R450). DEDUCED, log entry 15. -/
def unitGated (s : State) (u : Nat) : Bool := present s u && (!unitRuns s u || silentUnit s u)
/-- An access that R4 or R11 does not allow. DEDUCED, log entry 14. -/
def accessBad (a width : Nat) (write : Bool) : Bool :=
  if a < 0x1800000 then width != 4 || a % 4 != 0
  else if a < 0x2000000 then true
  else write || !(width == 4 || width == 8 || width == 16) || a % width != 0
/-- The record and count of an access that is not allowed. DEDUCED, log entry 14. -/
def badAccess (a width : Nat) (write : Bool) (s : State) : State :=
  emit 0x1601 a width (ofBool write) (bumpF F.HOST.BAD_ACCESS_COUNT 1 s)
/-- The count and record of an access to an absent unit. -/
def absentAccess (a : Nat) (write : Bool) (s : State) : State :=
  emit 0x0003 a (ofBool write) (unitOfAddr a) (bumpF F.DEV.ABSENT_ACCESS_COUNT 1 s)
/-- The count and record of an access that PD15's shadow answers. DEDUCED, log entry 15. -/
def gatedAccess (a : Nat) (write : Bool) (s : State) : State :=
  emit 0x0004 a (ofBool write) (unitOfAddr a) (bumpF F.DEV.GATED_ACCESS_COUNT 1 s)

/-! ### Reads -/

/-- A word of the point window (R12, R114). DESIGN CHOICE, log entry 18. -/
def pointWindowWord (s : State) (a : Nat) : Nat := (pointWords (windowPoint s ((a - 0x2000000) / 16))).getD (a % 16 / 4) 0
/-- A word of the solution window (R207). DESIGN CHOICE, log entry 18. -/
def solutionWord (s : State) (a : Nat) : Nat :=
  let o := a - 0x3000000
  match s.jug.front with
  | none => 0
  | some p =>
    if o < 0x58 then (planHeader s p).getD (o / 4) 0
    else if 0x1000 ≤ o && (o - 0x1000) / 8 < (modelSec s).rowCount then
      halfWord (o % 8 == 4) (tableGet 0 p.values ((o - 0x1000) / 8)).toNat
    else 0
/-- An aligned 32-bit read: its word, and the state after it. -/
def hostRead (a : Nat) (s : State) : Nat × State :=
  let u := unitOfAddr a
  let (v, t) := if accessBad a 4 false then (0, badAccess a 4 false s)
    else if 0x3000000 ≤ a then (solutionWord s a, s)
    else if 0x2000000 ≤ a then (pointWindowWord s a, s)
    else if !present s u then (0, absentAccess a false s)
    else if unitGated s u then (if a % 0x100000 = 0 then regWord s a else 0, gatedAccess a false s)
    else (readValue s a, readEffects a s)
  (v, { t with host := { t.host with readData := v } })
/-- An aligned read of 4, 8 or 16 bytes (R11). The words of one read are of one instant, so that a read of a whole point shows it
before or after a Curtain (R12). -/
def hostReadWide (a width : Nat) (s : State) : State :=
  let r := (List.range (width / 4)).foldl (fun (x : Nat × State) i =>
    let (v, t) := hostRead (a + 4 * i) x.2
    (x.1 + v * 2 ^ (32 * i), t)) (0, s)
  { r.2 with host := { r.2.host with readData := r.1 } }

/-! ### Commands by unit -/

/-- Commands of CONT by opcode. -/
def contCommand (op : Nat) (c : Caller) (a0 a1 a2 : Nat) (s : State) : State × Reply :=
  match op with
  | 0x01 => cmdFlush { c with spare := [a1, a2] } a0 s
  | 0x02 => cmdContRead c a0 a1 a2 s
  | 0x03 => cmdReadStop { c with spare := [a1, a2] } a0 s
  | _ => refuseOpcode 20 op c a0 s

/-! ### The host's rings as a write changes them (R500) -/

/-- The causes of these interrupt bits are cleared: moderation counts anew for a ring. -/
def moderationAnew (rs : List Nat) (s : State) : State :=
  { s with host := { s.host with
      modCount := rs.foldl (fun t r => tablePut 0 t r 0) s.host.modCount
      modFirstNs := rs.foldl (fun t r => tablePut none t r none) s.host.modFirstNs } }
/-- The staged entries of a ring are discarded, their indices consumed. -/
def dropStaged (r : Nat) (s : State) : State := { s with host := { s.host with staging := tablePut [] s.host.staging r [] } }
/-- A ring is enabled: PROD and CONS are 0, and its array is empty. -/
def enableRing (r : Nat) (s : State) : State :=
  let s1 := putFields [(F.HOST.RING_CONFIG_ENABLE r, 1), (F.HOST.PROD r, 0), (F.HOST.CONS r, 0)] (dropStaged r s)
  { s1 with host := { s1.host with
      written := s1.host.written.filter (fun e => e.1 / 65536 != r), txGather := tablePut [] s1.host.txGather r [] } }
/-- A ring is disabled. DEDUCED, log entry 163. -/
def disableRing (r : Nat) (s : State) : State :=
  let s1 := setF (F.HOST.RING_CONFIG_ENABLE r) 0 (dropStaged r s)
  if r = 2 then { s1 with host := { s1.host with ring2 := none } } else s1
/-- A write of ENABLE. -/
def writeEnable (r : Nat) (on : Bool) (s : State) : State :=
  if flag s (F.HOST.RING_CONFIG_ENABLE r) = on then s else if on then enableRing r s else disableRing r s
/-- A write of CONS: it may move forward to PROD at most. -/
def writeCons (r v : Nat) (s : State) : State :=
  let cons := getF s (F.HOST.CONS r)
  let back := 2 ^ 32 - cons
  if flag s (F.HOST.RING_CONFIG_DIRECTION r) then s
  else if (v + back) % 2 ^ 32 ≤ (getF s (F.HOST.PROD r) + back) % 2 ^ 32 then pumpExports (setF (F.HOST.CONS r) v s)
  else emit 0x1604 r v cons s

/-! ### Writes (R6, R7) -/

/-- NEW_DATA of a buffer is cleared; that of the high-priority buffer clears the port's cause (R391, R392). -/
def clearNewData (c b : Nat) (s : State) : State :=
  let s1 := setF (F.CAN.BUF_STATUS_NEW_DATA c b) 0 s
  if b = 128 then setBit F.HOST.INT_CAUSE_CAN_HP c false s1 else s1
/-- The port and buffer of a BUF_STATUS register. -/
def bufferOf (a : Nat) : Nat × Nat := ((a - 0x1110000) / 0x8000, (a - 0x1110000) % 0x8000 / 0x80)
/-- Clear the bits of a W1C field that are written as 1. -/
def writeOnes (f : Field) (v : Nat) (s : State) : State :=
  let x := v / 2 ^ f.lsb % 2 ^ f.width
  if x = 0 then s
  else if f.addr = F.HOST.INT_CAUSE_RINGS.addr && f.lsb = 0 then
    moderationAnew ((List.range 16).filter (fun r => bitOf x r == 1)) ((List.range 16).foldl (fun t r => if bitOf x r = 1 then setBit f r false t else t) s)
  else if 0x1110000 ≤ f.addr && f.addr < 0x1130000 then clearNewData (bufferOf f.addr).1 (bufferOf f.addr).2 s
  else (List.range f.width).foldl (fun t i => if bitOf x i = 1 then setBit f i false t else t) s
/-- Set an RW field from its bits of a written word. -/
def writeField (f : Field) (v : Nat) (s : State) : State :=
  let x := v / 2 ^ f.lsb % 2 ^ f.width
  let r := (f.addr - 0x1600100) / 0x20
  let ring := decide (0x1600100 ≤ f.addr) && decide (f.addr < 0x1600300)
  if f = F.HOST.TICK_DIVIDER then setF f (min x 8000) s
  else if ring && f.addr % 0x20 < 0xC then (if flag s (F.HOST.RING_CONFIG_ENABLE r) then s else setF f x s)
  else if ring && f.addr % 0x20 = 0xC && f.lsb = 31 then writeEnable r (x == 1) s
  else if ring && f.addr % 0x20 = 0x14 then writeCons r x s
  else setF f x s
/-- A direct write to a TK field is dropped (R7). -/
def dropTk (a v : Nat) (s : State) : State := emit 0x1607 a v (unitOfAddr a) (bumpF F.HOST.BAD_ACCESS_COUNT 1 s)
/-- A write to a register other than CMD, as the access codes of its fields say. -/
def writeFields (a v : Nat) (s : State) : State :=
  let fs := fieldsAt a
  let s1 := if fs.any (fun f => f.access == .tk) then dropTk a v s else s
  fs.foldl (fun t f => match f.access with
    | .rw => writeField f v t
    | .w1c => writeOnes f v t
    | _ => t) s1
/-- An aligned 32-bit write that no CMD register takes. -/
def hostWrite (a v : Nat) (s : State) : State :=
  let u := unitOfAddr a
  if accessBad a 4 true then badAccess a 4 true s
  else if !present s u then absentAccess a true s
  else if unitGated s u then gatedAccess a true s
  else writeFields a v s
/-- The register at an address is a CMD register. -/
def isCmd (a : Nat) : Bool := (fieldsAt a).any (fun f => f.access == .wo)
/-- The present unit's register at an address has a field with one of these access codes. -/
def hasAccess (s : State) (a : Nat) (x : Access) : Bool :=
  hostUp s && present s (unitOfAddr a) && !unitGated s (unitOfAddr a) && (fieldsAt a).any (fun f => f.access == x)

/-! ### The rows -/

/-- BAD_ACCESS (R4, R11): a narrow, unaligned or disallowed access; a read returns 0. A read that the regions allow is served,
in a window of 4, 8 or 16 bytes. BAR0 ends at 64 MiB. -/
def execBadAccess (a width : Nat) (write : Bool) (s : State) : Result :=
  if 0x4000000 ≤ a then .fault .outsideBar0
  else .next (if !hostUp s then s
    else if accessBad a width write then
      let t := badAccess a width write s
      if write then t else { t with host := { t.host with readData := 0 } }
    else if write then s
    else hostReadWide a width s)
/-- ABSENT_ACCESS (R2, R510). -/
def execAbsentAccess (a : Nat) (write : Bool) (s : State) : Result :=
  if 0x4000000 ≤ a then .fault .outsideBar0
  else .next (if hostUp s && !accessBad a 4 write && decide (a < 0x1800000) && !present s (unitOfAddr a) then
      (if write then absentAccess a true s else (hostRead a s).2)
    else s)
/-- GATED_ACCESS (R15, R450). -/
def execGatedAccess (a : Nat) (write : Bool) (s : State) : Result :=
  if 0x4000000 ≤ a then .fault .outsideBar0
  else .next (if hostUp s && !accessBad a 4 write && decide (a < 0x1800000) && unitGated s (unitOfAddr a) then
      (if write then gatedAccess a true s else (hostRead a s).2)
    else s)
/-- A register write takes effect at once; one of the Curtain's own cycle waits for the publication (R13). DESIGN CHOICE, log entry 13. -/
def writeOrHold (w : HeldWrite) (act : State → State) (s : State) : State :=
  if inCurtainCycle s then { s with host := { s.host with afterCurtain := s.host.afterCurtain ++ [w] } } else act s
/-- TK_WRITE_DROPPED (R7). -/
def execTkWriteDropped (a v : Nat) (s : State) : Result :=
  if 0x4000000 ≤ a then .fault .outsideBar0
  else .next (if hasAccess s a .tk then writeOrHold { addr := a, value := v } (writeFields a (lo32 v)) s else s)
/-- RC_READ (R6). -/
def execRcRead (a : Nat) (s : State) : Result :=
  if 0x4000000 ≤ a then .fault .outsideBar0 else .next (if hasAccess s a .rc then (hostRead a s).2 else s)
/-- LATCHED_LO_READ (R27). -/
def execLatchedLoRead (a : Nat) (s : State) : Result :=
  if 0x4000000 ≤ a then .fault .outsideBar0 else .next (if hostUp s && (latchedBy a).isSome then (hostRead a s).2 else s)
/-- W1C_WRITE (R6). -/
def execW1cWrite (a v : Nat) (s : State) : Result :=
  if 0x4000000 ≤ a then .fault .outsideBar0
  else .next (if hasAccess s a .w1c then writeOrHold { addr := a, value := v } (hostWrite a (lo32 v)) s else s)
/-- NEW_DATA_CLEAR (R391, R392). -/
def execNewDataClear (c b : Nat) (s : State) : Result :=
  let f := F.CAN.BUF_STATUS_NEW_DATA c b
  .next (if decide (c < 4) && decide (b < 129) && hasAccess s f.addr .w1c then
      writeOrHold { addr := f.addr, value := 2 ^ f.lsb } (clearNewData c b) s
    else s)

end Sys2Proof.Machine
end

