-- ==== Sys2Proof/Machine/HostCmd.lean ====
section
/-! DEFINITION. HOST: its rings, the submission queue, transmit rings, interrupts, its commands, and the management port
(R497 to R513). -/

namespace Sys2Proof.Machine

open Sys2Proof

/-! ### HOST's commands (R513) -/

/-- A Reel point or a system point (R111). -/
def subscribable (s : State) (p : Nat) : Bool :=
  (pointCfg s p).isSome || decide (p < 8) || (decide (16 ≤ p) && decide (p < 40))
/-- States in which points are subscribed. -/
def subscribeLegal (s : State) : Bool := inState s .armed || inState s .live || inState s .faultSafe
/-- The SUBSCRIBE command. -/
def cmdSubscribe (c : Caller) (p : Nat) (s : State) : State × Reply :=
  runCommand 22 0x01 c p (some anyRole) (subscribeLegal s) (fun t =>
    if !subscribable t p then .error resBadArgument
    else if t.host.subs.any (fun x => x.point == p) then .error resConflict
    else if t.host.subs.length ≥ 4096 then .error resExhausted
    else .ok ({ t with host := { t.host with subs := t.host.subs ++ [{ point := p }] } }, resOk, 0)) s
/-- SUBSCRIBE (R513). -/
def execSubscribe (c : Caller) (a0 : Nat) (s : State) : Result := .next (cmdSubscribe c a0 s).1
/-- The UNSUBSCRIBE command. -/
def cmdUnsubscribe (c : Caller) (p : Nat) (s : State) : State × Reply :=
  runCommand 22 0x02 c p (some anyRole) (subscribeLegal s) (fun t =>
    if p = 0xFFFFFFFF then .ok ({ t with host := { t.host with subs := [] } }, resOk, 0)
    else if t.host.subs.any (fun x => x.point == p) then
      .ok ({ t with host := { t.host with subs := t.host.subs.filter (fun x => x.point != p) } }, resOk, 0)
    else .error resIllegal) s
/-- UNSUBSCRIBE (R513). -/
def execUnsubscribe (c : Caller) (a0 : Nat) (s : State) : Result := .next (cmdUnsubscribe c a0 s).1

/-- A host-frame queue of R358. -/
def hostQueue (q : Nat) : Bool := (decide (q < 32) && decide (q % 8 < 4)) || (decide (32 < q) && decide (q < 48) && q % 2 == 1)
/-- The port of a queue is fitted. -/
def queuePresent (s : State) (q : Nat) : Bool := if q < 32 then bitF s F.NET.PORTS_PRESENT (q / 8) else present s 15
/-- The RING_BIND command. -/
def cmdRingBind (c : Caller) (r fn q : Nat) (s : State) : State × Reply :=
  runCommand 22 0x03 c r (some [roleEngineer]) (hostAccess s) (fun t =>
    if r < 9 || r > 15 || !(fn == 0 || fn == 2) || (fn == 2 && !hostQueue q) then .error resBadArgument
    else if fn == 2 && !queuePresent t q then .error resUnitAbsent
    else if flag t (F.HOST.RING_CONFIG_ENABLE r) || getF t (F.HOST.RING_CONFIG_FUNCTION r) == 1 then .error resIllegal
    else .ok (putFields [(F.HOST.RING_CONFIG_FUNCTION r, fn), (F.HOST.RING_CONFIG_DIRECTION r, fn / 2),
      (F.HOST.RING_CONFIG_QUEUE r, if fn = 2 then q else 0)] t, resOk, 0)) s
/-- RING_BIND (R513). -/
def execRingBind (c : Caller) (a0 a1 a2 : Nat) (s : State) : Result := .next (cmdRingBind c a0 a1 a2 s).1

/-- Commands of HOST by opcode. -/
def hostCommand (op : Nat) (c : Caller) (a0 a1 a2 : Nat) (s : State) : State × Reply :=
  match op with
  | 0x01 => cmdSubscribe { c with spare := [a1, a2] } a0 s
  | 0x02 => cmdUnsubscribe { c with spare := [a1, a2] } a0 s
  | 0x03 => cmdRingBind c a0 a1 a2 s
  | _ => refuseOpcode 22 op c a0 s

/-- A command for a unit; none for a unit without a command register. -/
def unitCommand (u op : Nat) (c : Caller) (a0 a1 a2 : Nat) (slow : Bool) (s : State) : Option (State × Reply) :=
  match u with
  | 1 => some (tickCommand op c a0 s)
  | 2 => some (txnCommand op c a0 a1 a2 s)
  | 3 => some (clapCommand op c a0 a1 a2 s)
  | 9 => some (trpCommand op c a0 a1 s)
  | 11 => some (boeCommand op c a0 a1 s)
  | 13 => some (batCommand op c a0 s)
  | 15 => some (lrpCommand op c a0 s)
  | 17 => some (canCommand op c a0 a1 s)
  | 18 => some (spotCommand op c a0 s)
  | 19 => some (memCommand op c a0 a1 s)
  | 20 => some (contCommand op c a0 a1 a2 s)
  | 21 => some (secCommand op c a0 a1 a2 slow s)
  | 22 => some (hostCommand op c a0 a1 a2 s)
  | _ => none

/-! ### Register writes (R6) -/

/-- CMD_ARG `j` of the CMD register at an address; 0 where the unit has none. -/
def cmdArg (s : State) (a j : Nat) : Nat :=
  match fieldsAt (a + 4 * (j + 1)) with
  | [f] => if f.access = .rw then getF s f else 0
  | _ => 0
/-- A write of a CMD register starts its command under the BAR session (R8, R480). DEDUCED, log entry 16. -/
def writeCmd (a v : Nat) (slow : Bool) (s : State) : State :=
  let c : Caller := { transport := .bar, session := none, rivals := [] }
  match unitCommand (unitOfAddr a) (v % 256) c (cmdArg s a 0) (cmdArg s a 1) (cmdArg s a 2) slow s with
  | some x => x.1
  | none => s
/-- An aligned 32-bit register write, or the start of a command. -/
def registerWrite (w : HeldWrite) (s : State) : State :=
  if !hostUp s then s
  else if isCmd w.addr && present s (unitOfAddr w.addr) && !unitGated s (unitOfAddr w.addr) then
    writeCmd w.addr w.value w.slow s
  else hostWrite w.addr (lo32 w.value) s
/-- REGISTER_WRITE (R6, R13): an aligned 32-bit write. -/
def execRegisterWrite (a v : Nat) (slow : Bool) (s : State) : Result :=
  let w : HeldWrite := { addr := a, value := v, slow := slow }
  if 0x4000000 ≤ a then .fault .outsideBar0 else .next (writeOrHold w (registerWrite w) s)
/-- CURTAIN (R29, R38): the Curtain falls, and the register writes of its cycle take effect after the publication, in the order
of their arrival (R13). -/
def execCurtain (s : State) : Result :=
  let t := curtainFalls s
  .next (t.host.afterCurtain.foldl (fun x w => registerWrite w x) { t with host := { t.host with afterCurtain := [] } })

/-! ### Device-to-host rings (R500 to R502) -/

/-- Slots of a ring that hold entries the host has not consumed. -/
def ringUsed (s : State) (r : Nat) : Nat := (getF s (F.HOST.PROD r) + 2 ^ 32 - getF s (F.HOST.CONS r)) % 2 ^ 32
/-- A ring takes an entry now; with Bus Master Enable clear every ring behaves as full (R498). -/
def ringTakes (s : State) (r : Nat) : Bool :=
  hostUp s && flag s F.HOST.STATUS_BUS_MASTER && decide (r < 16) && flag s (F.HOST.RING_CONFIG_ENABLE r) &&
    !flag s (F.HOST.RING_CONFIG_DIRECTION r) && decide (ringUsed s r < getF s (F.HOST.SIZE r))
/-- An entry counts for its ring's moderation; MOD_ENTRIES of them raise the vector (R500). DEDUCED, log entry 162. -/
def moderate (r : Nat) (s : State) : State :=
  let n := tableGet 0 s.host.modCount r + 1
  let first := (tableGet none s.host.modFirstNs r).getD (nowNs s 0)
  let s1 := { s with host := { s.host with
    modCount := tablePut 0 s.host.modCount r n, modFirstNs := tablePut none s.host.modFirstNs r (some first) } }
  if getF s (F.HOST.RING_CONFIG_MOD_ENTRIES r) ≤ n then raiseCause r s1 else s1
/-- RING_WRITE (R500 to R502): the oldest staged entry goes to the ring; `ep` tells that it had an uncorrectable error.
DEDUCED, log entry 163. -/
def execRingWrite (r : Nat) (ep : Bool) (s : State) : Result :=
  .next (match tableGet [] s.host.staging r with
    | [] => s
    | e :: rest =>
      if !ringTakes s r then s
      else
        let prod := getF s (F.HOST.PROD r)
        let size := getF s (F.HOST.SIZE r)
        let w : RingEntry := { e with poisoned := ep || e.poisoned, lostBefore := (tableGet none s.host.lostFrom r).isSome, phase := 1 - prod / size % 2 }
        let s1 := setF (F.HOST.PROD r) (prod + 1) { s with host := { s.host with
          staging := tablePut [] s.host.staging r rest, lostFrom := tablePut none s.host.lostFrom r none
          written := tablePut none s.host.written (r * 65536 + prod % size) (some w) } }
        pumpExports (moderate r s1))
/-- RING_MODERATION (R500): MOD_US have passed since the first entry that is not signalled. -/
def execRingModeration (r : Nat) (s : State) : Result :=
  let us := getF s (F.HOST.RING_CONFIG_MOD_US r)
  .next (match tableGet none s.host.modFirstNs r with
    | some t => if decide (r < 16) && us != 0 && decide (t + us * 1000 ≤ nowNs s 0) then raiseCause r s else s
    | none => s)
/-- CONS_WRITE (R500): a write of a ring's CONS. -/
def execConsWrite (r v : Nat) (s : State) : Result :=
  .next (if hostUp s && decide (r < 16) then
      writeOrHold { addr := (F.HOST.CONS r).addr, value := v } (writeCons r (lo32 v)) s
    else s)
/-- RING_ENABLE (R500): a write that sets ENABLE. -/
def execRingEnable (r : Nat) (s : State) : Result :=
  let a := (F.HOST.RING_CONFIG_ENABLE r).addr
  .next (if hostUp s && decide (r < 16) then
      writeOrHold { addr := a, value := regWord s a % 2 ^ 31 + 2 ^ 31 } (writeEnable r true) s
    else s)
/-- BUS_MASTER_ENABLE (R498). -/
def execBusMasterEnable (on : Bool) (s : State) : Result :=
  .next (if hostUp s then pumpExports (setF F.HOST.STATUS_BUS_MASTER (ofBool on) s) else s)
/-- MSIX_UNMASK (R499): a pending vector's message is sent. DEDUCED, log entry 162. -/
def execMsixUnmask (v : Nat) (s : State) : Result :=
  .next (if !hostUp s || decide (64 ≤ v) then s
    else
      let mask := (List.range 64).map (fun i => if i = v then false else s.host.msixMask.getD i true)
      let held := s.host.msixPending.contains v
      { s with host := { s.host with
          msixMask := mask, msixPending := s.host.msixPending.filter (fun x => x != v)
          messages := if held then s.host.messages ++ [v] else s.host.messages } })

/-! ### The PCIe link and its resets (R498) -/

/-- HOST_RESET (R498): `cause` 0 FLR, 1 hot reset, 2 link down. DEDUCED, log entry 163. -/
def execHostReset (cause : Nat) (s : State) : Result :=
  .next (if !hostUp s || decide (3 ≤ cause) then s
    else
      let on := (List.range 16).filter (fun r => flag s (F.HOST.RING_CONFIG_ENABLE r))
      let s1 := (List.range 16).foldl (fun t r => disableRing r t) s
      let s2 := setF F.HOST.SQ_TAIL (getF s1 F.HOST.SQ_HEAD) { s1 with host := { s1.host with subs := [] } }
      let s3 := match barSlot s2 with
        | some k => endSession k 0 s2
        | none => s2
      emit 0x1602 cause on.length 0 s3)
/-- LINK_CHANGED (R516): the PCIe link (0) or X8 (1). -/
def execLinkChanged (which : Nat) (up : Bool) (speed width : Nat) (s : State) : Result :=
  .next (if !hostUp s || decide (2 ≤ which) then s
    else
      let s1 := if which = 1 then setF F.HOST.STATUS_MGMT_LINK (ofBool up) s
        else putFields [(F.HOST.STATUS_LINK_UP, ofBool up), (F.HOST.STATUS_SPEED, if up then speed else 0),
          (F.HOST.STATUS_WIDTH, if up then width else 0)] s
      emit 0x1606 which (ofBool up) speed s1)

/-! ### The submission queue (R505) -/

/-- The COMPLETION entry of a submission. -/
def complete (u op tag result ret : Nat) (s : State) : State :=
  stageEntry 0 1 12 (nowStamp s) [u + op * 2 ^ 8 + result * 2 ^ 16, tag, ret] s
/-- A command that is PENDING will be completed a second time. -/
def awaitSecond (u op key : Nat) (tag : Option Nat) (mgmt : Option (Nat × Nat)) (s : State) : State :=
  let p : PendingCmd := { unit := u, opcode := op, tag := tag, key := key, mgmt := mgmt }
  { s with host := { s.host with pendingCmds := s.host.pendingCmds ++ [p] } }
/-- HOST may fetch: an entry waits, the bus is its own, and ring 0 has two places (R498, R502). -/
def mayFetch (s : State) : Bool :=
  hostUp s && flag s F.HOST.STATUS_BUS_MASTER && decide (0 < getF s F.HOST.SQ_SIZE) &&
    getF s F.HOST.SQ_HEAD != getF s F.HOST.SQ_TAIL && decide (2 ≤ stagingFree s 0)
/-- Present a submission to its unit. -/
def presentSubmission (e : Submission) (rivals : List Transport) (slow : Bool) (s : State) : State :=
  let c : Caller := { transport := .queue, session := none, rivals := rivals }
  if 24 ≤ e.unit then complete e.unit e.opcode e.tag resBadArgument 0 s
  else if !present s e.unit then complete e.unit e.opcode e.tag resUnitAbsent 0 s
  else if unitGated s e.unit then gatedAccess (e.unit * 0x100000 + 0x40) true s
  else match unitCommand e.unit e.opcode c e.arg0 e.arg1 e.arg2 slow s with
    | none => complete e.unit e.opcode e.tag resBadArgument 0 s
    | some (t, r) =>
      let t1 := complete e.unit e.opcode e.tag r.result r.ret t
      if r.result = resPending then awaitSecond e.unit e.opcode e.arg0 (some e.tag) none t1 else t1
/-- SUBMISSION_FETCH (R505): the next entry of the queue. -/
def execSubmissionFetch (e : Submission) (rivals : List Transport) (slow : Bool) (s : State) : Result :=
  .next (if mayFetch s then presentSubmission e rivals slow (setF F.HOST.SQ_HEAD (getF s F.HOST.SQ_HEAD + 1) s) else s)

/-! ### Transmit rings (R506) -/

/-- The bytes of a gathered frame. -/
def frameBytes (es : List TxEntry) (n : Nat) : List Nat := (es.flatMap (fun e => e.bytes)).take n
/-- A gathered frame keeps the rules of R506. -/
def frameOk (q : Nat) (es : List TxEntry) : Bool :=
  match es with
  | [] => false
  | e :: _ => decide (60 ≤ e.length) && decide (e.length ≤ 1514) && es.all (fun x => x.length == e.length && x.queue == q && decide (x.bytes.length ≤ 248)) &&
      es.length == (e.length + 247) / 248 && (frameBytes es e.length).length == e.length
/-- Take a frame into its queue: on a backbone port once on each port of the pair. -/
def sendHostFrame (q : Nat) (bytes : List Nat) (s : State) : State :=
  let n := bytes.length
  if q < 32 then (enqueuePair (q / 16) (q % 8) { body := .host bytes, bits := (n + 6 + 4 + 20) * 8 } s).1
  else (enqueue q { body := .host bytes, bits := (n + 4 + 20) * 8 } s).1
/-- The queue's port runs. -/
def queueRuns (s : State) (q : Nat) : Bool := if q < 32 then netRuns s else lrpRuns s
/-- The LAST entry of a frame has been read. -/
def closeFrame (r : Nat) (es : List TxEntry) (s : State) : State :=
  let q := getF s (F.HOST.RING_CONFIG_QUEUE r)
  let s1 := { s with host := { s.host with txGather := tablePut [] s.host.txGather r [] } }
  match es with
  | e :: _ => if frameOk q es && onAir s && queueRuns s q then sendHostFrame q (frameBytes es e.length) s1 else bumpF F.HOST.TX_DROPPED 1 s1
  | [] => s1
/-- HOST reads one entry of a transmit ring. -/
def readTxEntry (r : Nat) (e : TxEntry) (s : State) : State :=
  let es := tableGet [] s.host.txGather r ++ [e]
  if e.last then closeFrame r es s else { s with host := { s.host with txGather := tablePut [] s.host.txGather r es } }
/-- TX_RING_DOORBELL (R506): the host writes PROD, and HOST reads the entries up to it. -/
def execTxRingDoorbell (r prod : Nat) (es : List TxEntry) (s : State) : Result :=
  .next (if hostUp s && flag s F.HOST.STATUS_BUS_MASTER && decide (r < 16) && flag s (F.HOST.RING_CONFIG_ENABLE r) &&
      getF s (F.HOST.RING_CONFIG_FUNCTION r) == 2 && es.length == (lo32 prod + 2 ^ 32 - getF s (F.HOST.CONS r)) % 2 ^ 32 &&
      decide (es.length ≤ getF s (F.HOST.SIZE r)) then
      es.foldl (fun t e => readTxEntry r e t) (putFields [(F.HOST.PROD r, lo32 prod), (F.HOST.CONS r, lo32 prod)] s)
    else s)

/-! ### The management port (R507 to R509) -/

/-- X8 takes datagrams. -/
def mgmtUp (s : State) : Bool := hostUp s && flag s F.HOST.CONFIG_MGMT_ENABLE && flag s F.HOST.STATUS_MGMT_LINK
/-- X8 takes a datagram: one to another port than MGMT_PORT is dropped (R507). -/
def mgmtTakes (s : State) (d : Datagram) : Bool := mgmtUp s && d.dest == getF s F.HOST.CONFIG_MGMT_PORT
/-- The header of a message, with its bytes, and what follows it. -/
structure MgmtHead where
  kind : Nat
  flags : Nat
  sessionId : Nat
  length : Nat
  sequence : Nat
  tag : Nat
  bytes : List Nat
  rest : List Nat
  /-- MAGIC, VERSION, FLAGS and the reserved bytes keep R508. -/
  formOk : Bool
deriving DecidableEq, Repr
/-- Read the header of a datagram. -/
def mgmtHead (d : Datagram) : MgmtHead :=
  let b := d.bytes
  let part := fun (i n : Nat) => natLE ((b.drop i).take n)
  { kind := part 5 1, flags := part 6 1, sessionId := part 8 2, length := part 10 2, sequence := part 12 8, tag := part 20 4
    bytes := b.take 32, rest := b.drop 32
    formOk := decide (32 ≤ b.length) && decide (b.length ≤ 1472) && part 0 4 == 0x474D4E57 && part 4 1 == 1 &&
      decide (part 6 1 < 2) && part 7 1 == 0 && part 24 8 == 0 }
/-- A message of a kind in clear: its body, of LENGTH bytes, is all that follows the header. -/
def clearBody (kind : Nat) (h : MgmtHead) : Option (List Nat) :=
  if h.formOk && h.kind == kind && h.rest.length == h.length then some h.rest else none
/-- A message is dropped without a reply. -/
def dropMessage (cause : Nat) (d : Datagram) (s : State) : State :=
  emit 0x1605 cause d.port (mgmtHead d).sessionId (bumpF F.HOST.MGMT_DROPPED 1 s)
/-- The SEQUENCE is one that the session accepts: above H − 64 and not yet seen. -/
def mgmtFresh (s : State) (k n : Nat) : Bool :=
  let h := tableGet 0 s.host.mgmtHigh k
  decide (1 ≤ n) && (decide (h < n) || (decide (h < n + 64) && bitOf (tableGet 0 s.host.mgmtSeen k) (h - n) == 0))
/-- Accept a SEQUENCE: bit i of the mask stands for H − i. -/
def acceptSequence (k n : Nat) (s : State) : State :=
  let h := tableGet 0 s.host.mgmtHigh k
  let seen := tableGet 0 s.host.mgmtSeen k
  let (h', seen') := if h < n then (n, (if n - h < 64 then seen * 2 ^ (n - h) % 2 ^ 64 else 0) + 1) else (h, seen + 2 ^ (h - n))
  { s with host := { s.host with mgmtHigh := tablePut 0 s.host.mgmtHigh k h', mgmtSeen := tablePut 0 s.host.mgmtSeen k seen' } }
/-- A sealed message of a kind: the open session that it travels under and its body in clear, or why it is dropped. Its body,
of LENGTH bytes, is followed by the tag of 16 bytes; `bodyOk` tells of a body whether it keeps R509. DEDUCED, log entry 165. -/
def mgmtOpen (kind : Nat) (h : MgmtHead) (bodyOk : List Nat → Bool) (s : State) : Except Nat (Nat × List Nat) :=
  if !h.formOk || h.kind != kind || h.rest.length != h.length + 16 then .error 2
  else match mgmtSlot s h.sessionId with
    | none => .error 3
    | some k =>
      if !sessionOpen s k then .error 3
      else match gcmOpen (s.sec.sessions.getD k {}).traffic (mgmtNonce 1 h.sequence) h.bytes (h.rest.take h.length)
          (h.rest.drop h.length) with
        | none => .error 0
        | some body =>
          if !mgmtFresh s k h.sequence then .error 1 else if !bodyOk body then .error 2 else .ok (k, body)
/-- A caller on the management port. -/
def mgmtCaller (k : Option Nat) (rivals : List Transport) : Caller := { transport := .mgmt, session := k, rivals := rivals }
/-- Put a message's words before SEC, and forget what it gave before. -/
def loadInbox (ws : List Nat) (s : State) : State := updSec (fun x => { x with inbox := ws, outbox := [] }) s
/-- Answer a message, or let its reply wait for SEC. -/
def answer (kind id tag op : Nat) (x : State × Reply) : State :=
  if x.2.result = resPending then { x.1 with host := { x.1.host with mgmtWaits := some (kind, id, tag) } }
  else replyTo kind id tag op x.2 x.1

/-- MGMT_BEGIN (R508): the body of SESSION_BEGIN, in clear. -/
def execMgmtBegin (d : Datagram) (slow : Bool) (s : State) : Result :=
  let h := mgmtHead d
  .next (if !mgmtTakes s d then s
    else match clearBody 1 h with
      | none => dropMessage 2 d s
      | some b =>
        if h.sessionId != 0 || b.length != 152 then dropMessage 2 d s
        else answer 1 0 h.tag 0x01 (cmdSessionBegin (mgmtCaller none []) 0 slow (loadInbox (wordsLE b) s)))
/-- MGMT_PROVE (R508): the body of SESSION_PROVE, in clear. -/
def execMgmtProve (d : Datagram) (slow : Bool) (s : State) : Result :=
  let h := mgmtHead d
  .next (if !mgmtTakes s d then s
    else match clearBody 3 h with
      | none => dropMessage 2 d s
      | some b =>
        if b.length != 112 then dropMessage 2 d s
        else if (mgmtSlot s h.sessionId).isNone then dropMessage 3 d s
        else answer 3 h.sessionId h.tag 0x02 (cmdSessionProve (mgmtCaller none []) 0 slow (loadInbox (wordsLE b) s)))

/-- Store a message's mailbox data at its offset. -/
def storeData (old : List Nat) (word : Nat) (data : List Nat) : List Nat :=
  old.take word ++ List.replicate (word - old.length) 0 ++ data ++ old.drop (word + data.length)
/-- The body of a COMMAND message (R509), its mailbox data as words. -/
structure MgmtCall where
  unit : Nat
  opcode : Nat
  arg0 : Nat
  arg1 : Nat
  arg2 : Nat
  offset : Nat
  data : List Nat
deriving DecidableEq, Repr
/-- Read a COMMAND body. -/
def readCall (b : List Nat) : MgmtCall :=
  let w := fun (i : Nat) => natLE ((b.drop i).take 4)
  { unit := b.getD 0 0, opcode := b.getD 1 0, arg0 := w 4, arg1 := w 8, arg2 := w 12, offset := w 16, data := wordsLE (b.drop 20) }
/-- A COMMAND body keeps R509. -/
def callOk (b : List Nat) : Bool :=
  within 20 1044 b.length && (readCall b).offset % 1024 == 0 && decide ((readCall b).offset < 4096)
/-- Run a COMMAND message under its session. DEDUCED, log entry 165. -/
def runMessage (h : MgmtHead) (e : MgmtCall) (slot : Nat) (rivals : List Transport) (slow : Bool) (s : State) : State :=
  let ws := storeData (tableGet [] s.host.mgmtData slot) (e.offset / 4) e.data
  let s1 := loadInbox ws { s with host := { s.host with mgmtData := tablePut [] s.host.mgmtData slot [] } }
  let reply := fun (r : Reply) (out : List Nat) (t : State) => sendResponse h.sessionId h.tag e.unit e.opcode r.result r.ret 4 out t
  if 24 ≤ e.unit then reply { result := resBadArgument } [] s1
  else if !present s1 e.unit then reply { result := resUnitAbsent } [] s1
  else if unitGated s1 e.unit then gatedAccess (e.unit * 0x100000 + 0x40) true s1
  else match unitCommand e.unit e.opcode (mgmtCaller (some slot) rivals) e.arg0 e.arg1 e.arg2 slow s1 with
    | none => reply { result := resBadArgument } [] s1
    | some (t, r) =>
      if e.unit = 21 then answer 4 h.sessionId h.tag e.opcode (t, r)
      else
        let t1 := reply r [] t
        if r.result = resPending then awaitSecond e.unit e.opcode e.arg0 none (some (h.sessionId, h.tag)) t1 else t1
/-- MGMT_COMMAND (R509): with MORE set, the data is stored and nothing runs. -/
def execMgmtCommand (d : Datagram) (rivals : List Transport) (slow : Bool) (s : State) : Result :=
  let h := mgmtHead d
  .next (if !mgmtTakes s d then s
    else match mgmtOpen 4 h callOk s with
      | .error c => dropMessage c d s
      | .ok (slot, b) =>
        let e := readCall b
        let s1 := acceptSequence slot h.sequence s
        if h.flags = 1 then
          let ws := storeData (tableGet [] s1.host.mgmtData slot) (e.offset / 4) e.data
          { s1 with host := { s1.host with mgmtData := tablePut [] s1.host.mgmtData slot ws } }
        else runMessage h e slot rivals slow s1)

/-- Read some words in turn. -/
def readWords : Nat → Nat → State → List Nat × State
  | 0, _, s => ([], s)
  | n + 1, a, s =>
    let (v, s1) := hostRead a s
    let (l, s2) := readWords n (a + 4) s1
    (v :: l, s2)
/-- A word of a body. -/
def bodyWord (b : List Nat) (i : Nat) : Nat := natLE ((b.drop (4 * i)).take 4)
/-- A READ body keeps R509: an aligned offset in BAR0, and 1 to 256 words. -/
def readOk (b : List Nat) : Bool :=
  b.length == 8 && bodyWord b 0 % 4 == 0 && within 1 256 (bodyWord b 1) && decide (bodyWord b 0 + 4 * bodyWord b 1 ≤ 0x4000000)
/-- MGMT_READ (R509): up to 256 words of BAR0. -/
def execMgmtRead (d : Datagram) (s : State) : Result :=
  let h := mgmtHead d
  .next (if !mgmtTakes s d then s
    else match mgmtOpen 6 h readOk s with
      | .error c => dropMessage c d s
      | .ok (slot, b) =>
        let (ws, t) := readWords (bodyWord b 1) (bodyWord b 0) (acceptSequence slot h.sequence s)
        sendMessage 7 h.sessionId h.tag false ws t)
/-- A WRITE body keeps R509: an aligned offset in BAR0, and one word. -/
def writeOk (b : List Nat) : Bool := b.length == 8 && bodyWord b 0 % 4 == 0 && decide (bodyWord b 0 < 0x4000000)
/-- MGMT_WRITE (R509): one word to an RW or W1C field, from any role but OBSERVER; a write to a CMD register is dropped.
DEDUCED, log entry 165. -/
def execMgmtWrite (d : Datagram) (s : State) : Result :=
  let h := mgmtHead d
  .next (if !mgmtTakes s d then s
    else match mgmtOpen 8 h writeOk s with
      | .error c => dropMessage c d s
      | .ok (slot, b) =>
        let a := bodyWord b 0
        let s1 := acceptSequence slot h.sequence s
        let s2 := if isCmd a || getF s (F.SEC.SES_STATE_ROLE slot) = roleObserver then s1
          else writeOrHold { addr := a, value := bodyWord b 1 } (hostWrite a (bodyWord b 1)) s1
        sendMessage 9 h.sessionId h.tag false [] s2)
/-- ARP_REQUEST (R507): an ARP request, or a Neighbor Solicitation, for an address. The answer carries MAC base + 11.
DEDUCED, log entry 165. -/
def execArpRequest (target : Nat) (v6 : Bool) (s : State) : Result :=
  .next (if mgmtUp s && flag s F.HOST.CONFIG_IPV6 == v6 && target == s.host.address then
      let mac := macOf s 11
      { s with host := { s.host with mgmtReplies := s.host.mgmtReplies ++ [[0, lo32 mac, hi32 mac]] } }
    else s)

end Sys2Proof.Machine
end

