-- ==== Sys2Proof/Machine/Dispatch.lean ====
section
/-! DEFINITION. exec: one arm for each command. -/

namespace Sys2Proof.Machine

open Sys2Proof

def exec (i : Instr) (s : State) : Host.Outcome State Fault Refusal :=
  match i with
  | .x1Good aMv bMv pd0 => Sys2Proof.Machine.execX1Good aMv bMv pd0 s
  | .bootSelfTestsDone o => Sys2Proof.Machine.execBootSelfTestsDone o s
  | .loadDone r c => Sys2Proof.Machine.execLoadDone r c s
  | .loadFailed r c => Sys2Proof.Machine.execLoadFailed r c s
  | .cardRemoved => Sys2Proof.Machine.execCardRemoved s
  | .lockWaitExpired => Sys2Proof.Machine.execLockWaitExpired s
  | .startConditionMet peer => Sys2Proof.Machine.execStartConditionMet peer s
  | .goLive => Sys2Proof.Machine.execGoLive s
  | .go c a0 => Sys2Proof.Machine.execGo c a0 s
  | .restart c a0 => Sys2Proof.Machine.execRestart c a0 s
  | .maintenance c a0 => Sys2Proof.Machine.execMaintenance c a0 s
  | .discardSpliceLog c a0 => Sys2Proof.Machine.execDiscardSpliceLog c a0 s
  | .tickStart crossing ue => Sys2Proof.Machine.execTickStart crossing ue s
  | .injectEnded l => Sys2Proof.Machine.execInjectEnded l s
  | .curtain => Sys2Proof.Machine.execCurtain s
  | .healthPeriodic => Sys2Proof.Machine.execHealthPeriodic s
  | .stagingPost u cycle => Sys2Proof.Machine.execStagingPost u cycle s
  | .clearCounts c a0 => Sys2Proof.Machine.execClearCounts c a0 s
  | .powerFailStarted aMv bMv mw => Sys2Proof.Machine.execPowerFailStarted aMv bMv mw s
  | .powerFailShed => Sys2Proof.Machine.execPowerFailShed s
  | .powerFailOff => Sys2Proof.Machine.execPowerFailOff s
  | .inputLost x mv => Sys2Proof.Machine.execInputLost x mv s
  | .inputRestored x mv => Sys2Proof.Machine.execInputRestored x mv s
  | .inputOvervoltage x mv => Sys2Proof.Machine.execInputOvervoltage x mv s
  | .pllUnlocked p => Sys2Proof.Machine.execPllUnlocked p s
  | .pllRelocked p => Sys2Proof.Machine.execPllRelocked p s
  | .referenceLost us => Sys2Proof.Machine.execReferenceLost us s
  | .tempHigh t => Sys2Proof.Machine.execTempHigh t s
  | .tempNormal t => Sys2Proof.Machine.execTempNormal t s
  | .tempFailed t => Sys2Proof.Machine.execTempFailed t s
  | .thermalShutdown t => Sys2Proof.Machine.execThermalShutdown t s
  | .open_ c a0 => Sys2Proof.Machine.execOpen c a0 s
  | .stage c a0 a1 a2 => Sys2Proof.Machine.execStage c a0 a1 a2 s
  | .commit c a0 => Sys2Proof.Machine.execCommit c a0 s
  | .cut c a0 => Sys2Proof.Machine.execCut c a0 s
  | .readTunable c a0 a1 => Sys2Proof.Machine.execReadTunable c a0 a1 s
  | .takeExpired k => Sys2Proof.Machine.execTakeExpired k s
  | .writeAheadTurn => Sys2Proof.Machine.execWriteAheadTurn s
  | .takeBodyWritten => Sys2Proof.Machine.execTakeBodyWritten s
  | .takeCommitted => Sys2Proof.Machine.execTakeCommitted s
  | .takeVoided readBack => Sys2Proof.Machine.execTakeVoided readBack s
  | .spliceWriteFailed => Sys2Proof.Machine.execSpliceWriteFailed s
  | .pointSample u p v stamp ue => Sys2Proof.Machine.execPointSample u p v stamp ue s
  | .pointStale p => Sys2Proof.Machine.execPointStale p s
  | .analogInputSample raws => Sys2Proof.Machine.execAnalogInputSample raws s
  | .shuntOpen c => Sys2Proof.Machine.execShuntOpen c s
  | .shuntReclose c => Sys2Proof.Machine.execShuntReclose c s
  | .rtdConversion k ohms broken => Sys2Proof.Machine.execRtdConversion k ohms broken s
  | .digitalInputChange c level => Sys2Proof.Machine.execDigitalInputChange c level s
  | .pulseTransfer => Sys2Proof.Machine.execPulseTransfer s
  | .digitalOutputOvercurrent c raw => Sys2Proof.Machine.execDigitalOutputOvercurrent c raw s
  | .outputRetry c above => Sys2Proof.Machine.execOutputRetry c above s
  | .analogOutputFault c raw => Sys2Proof.Machine.execAnalogOutputFault c raw s
  | .roundStart => Sys2Proof.Machine.execRoundStart s
  | .roundAssembled ue inData => Sys2Proof.Machine.execRoundAssembled ue inData s
  | .loadPanel k ue => Sys2Proof.Machine.execLoadPanel k ue s
  | .factor k ue => Sys2Proof.Machine.execFactor k ue s
  | .trsm k ue => Sys2Proof.Machine.execTrsm k ue s
  | .update k ue => Sys2Proof.Machine.execUpdate k ue s
  | .stbSend k ue => Sys2Proof.Machine.execStbSend k ue s
  | .extendAdd k ue => Sys2Proof.Machine.execExtendAdd k ue s
  | .storePanel k ue => Sys2Proof.Machine.execStorePanel k ue s
  | .arrive k => Sys2Proof.Machine.execArrive k s
  | .wait k => Sys2Proof.Machine.execWait k s
  | .fwd k ue => Sys2Proof.Machine.execFwd k ue s
  | .diag k ue => Sys2Proof.Machine.execDiag k ue s
  | .bwd k ue => Sys2Proof.Machine.execBwd k ue s
  | .resid k ue => Sys2Proof.Machine.execResid k ue s
  | .boundStep k ue => Sys2Proof.Machine.execBoundStep k ue s
  | .move k ue => Sys2Proof.Machine.execMove k ue s
  | .residuals k ue => Sys2Proof.Machine.execResiduals k ue s
  | .measure k ue => Sys2Proof.Machine.execMeasure k ue s
  | .prepare k ue => Sys2Proof.Machine.execPrepare k ue s
  | .reduce k ue => Sys2Proof.Machine.execReduce k ue s
  | .segmentRunEnd cycles ue => Sys2Proof.Machine.execSegmentRunEnd cycles ue s
  | .segmentStalled => Sys2Proof.Machine.execSegmentStalled s
  | .roundDeadline ue same => Sys2Proof.Machine.execRoundDeadline ue same s
  | .planWritten => Sys2Proof.Machine.execPlanWritten s
  | .clusterWakeFailed k => Sys2Proof.Machine.execClusterWakeFailed k s
  | .injectStart c a0 a1 => Sys2Proof.Machine.execInjectStart c a0 a1 s
  | .injectStop c a0 => Sys2Proof.Machine.execInjectStop c a0 s
  | .captureArm c a0 a1 => Sys2Proof.Machine.execCaptureArm c a0 a1 s
  | .captureStop c a0 => Sys2Proof.Machine.execCaptureStop c a0 s
  | .repClear c a0 => Sys2Proof.Machine.execRepClear c a0 s
  | .carNop t ue => Sys2Proof.Machine.execCarNop t ue s
  | .carLd t ue => Sys2Proof.Machine.execCarLd t ue s
  | .carLdn t ue => Sys2Proof.Machine.execCarLdn t ue s
  | .carAnd t ue => Sys2Proof.Machine.execCarAnd t ue s
  | .carAndn t ue => Sys2Proof.Machine.execCarAndn t ue s
  | .carOr t ue => Sys2Proof.Machine.execCarOr t ue s
  | .carOrn t ue => Sys2Proof.Machine.execCarOrn t ue s
  | .carXor t ue => Sys2Proof.Machine.execCarXor t ue s
  | .carSt t ue => Sys2Proof.Machine.execCarSt t ue s
  | .carStn t ue => Sys2Proof.Machine.execCarStn t ue s
  | .carSet t ue => Sys2Proof.Machine.execCarSet t ue s
  | .carRst t ue => Sys2Proof.Machine.execCarRst t ue s
  | .carLdq t ue => Sys2Proof.Machine.execCarLdq t ue s
  | .carNot t ue => Sys2Proof.Machine.execCarNot t ue s
  | .carTrue t ue => Sys2Proof.Machine.execCarTrue t ue s
  | .carPush t ue => Sys2Proof.Machine.execCarPush t ue s
  | .carRead t ue => Sys2Proof.Machine.execCarRead t ue s
  | .carPop t ue => Sys2Proof.Machine.execCarPop t ue s
  | .carAndp t ue => Sys2Proof.Machine.execCarAndp t ue s
  | .carOrp t ue => Sys2Proof.Machine.execCarOrp t ue s
  | .carRtrig t ue => Sys2Proof.Machine.execCarRtrig t ue s
  | .carFtrig t ue => Sys2Proof.Machine.execCarFtrig t ue s
  | .carTon t ue => Sys2Proof.Machine.execCarTon t ue s
  | .carTof t ue => Sys2Proof.Machine.execCarTof t ue s
  | .carTp t ue => Sys2Proof.Machine.execCarTp t ue s
  | .carCnt t ue => Sys2Proof.Machine.execCarCnt t ue s
  | .carCrst t ue => Sys2Proof.Machine.execCarCrst t ue s
  | .carLdw t ue => Sys2Proof.Machine.execCarLdw t ue s
  | .carStw t ue => Sys2Proof.Machine.execCarStw t ue s
  | .carAddi t ue => Sys2Proof.Machine.execCarAddi t ue s
  | .carSubi t ue => Sys2Proof.Machine.execCarSubi t ue s
  | .carMuli t ue => Sys2Proof.Machine.execCarMuli t ue s
  | .carDivi t ue => Sys2Proof.Machine.execCarDivi t ue s
  | .carAndw t ue => Sys2Proof.Machine.execCarAndw t ue s
  | .carOrw t ue => Sys2Proof.Machine.execCarOrw t ue s
  | .carAddf t ue => Sys2Proof.Machine.execCarAddf t ue s
  | .carSubf t ue => Sys2Proof.Machine.execCarSubf t ue s
  | .carMulf t ue => Sys2Proof.Machine.execCarMulf t ue s
  | .carDivf t ue => Sys2Proof.Machine.execCarDivf t ue s
  | .carMinf t ue => Sys2Proof.Machine.execCarMinf t ue s
  | .carMaxf t ue => Sys2Proof.Machine.execCarMaxf t ue s
  | .carItof t ue => Sys2Proof.Machine.execCarItof t ue s
  | .carFtoi t ue => Sys2Proof.Machine.execCarFtoi t ue s
  | .carEqi t ue => Sys2Proof.Machine.execCarEqi t ue s
  | .carLti t ue => Sys2Proof.Machine.execCarLti t ue s
  | .carGti t ue => Sys2Proof.Machine.execCarGti t ue s
  | .carLtf t ue => Sys2Proof.Machine.execCarLtf t ue s
  | .carGtf t ue => Sys2Proof.Machine.execCarGtf t ue s
  | .carEqw t ue => Sys2Proof.Machine.execCarEqw t ue s
  | .carSel t ue => Sys2Proof.Machine.execCarSel t ue s
  | .carJmp t ue => Sys2Proof.Machine.execCarJmp t ue s
  | .carJmpt t ue => Sys2Proof.Machine.execCarJmpt t ue s
  | .carJmpf t ue => Sys2Proof.Machine.execCarJmpf t ue s
  | .carEnd t ue => Sys2Proof.Machine.execCarEnd t ue s
  | .windowClose d => Sys2Proof.Machine.execWindowClose d s
  | .windowProcessed e => Sys2Proof.Machine.execWindowProcessed e s
  | .demandIntervalClose => Sys2Proof.Machine.execDemandIntervalClose s
  | .thermalIntervalClose => Sys2Proof.Machine.execThermalIntervalClose s
  | .calStart c a0 a1 => Sys2Proof.Machine.execCalStart c a0 a1 s
  | .calAbort c a0 => Sys2Proof.Machine.execCalAbort c a0 s
  | .calDone => Sys2Proof.Machine.execCalDone s
  | .periodicSave => Sys2Proof.Machine.execPeriodicSave s
  | .saveFailed cause => Sys2Proof.Machine.execSaveFailed cause s
  | .flushSave => Sys2Proof.Machine.execFlushSave s
  | .batterySecond rms => Sys2Proof.Machine.execBatterySecond rms s
  | .batteryCheck mv => Sys2Proof.Machine.execBatteryCheck mv s
  | .tamperOpen => Sys2Proof.Machine.execTamperOpen s
  | .tamperClosed => Sys2Proof.Machine.execTamperClosed s
  | .tamperClear c a0 => Sys2Proof.Machine.execTamperClear c a0 s
  | .offsetMeasurement b o => Sys2Proof.Machine.execOffsetMeasurement b o s
  | .domainHoldover b => Sys2Proof.Machine.execDomainHoldover b s
  | .domainInvalid b => Sys2Proof.Machine.execDomainInvalid b s
  | .localRevert b => Sys2Proof.Machine.execLocalRevert b s
  | .announceReceived b m => Sys2Proof.Machine.execAnnounceReceived b m s
  | .pdelayReq port req => Sys2Proof.Machine.execPdelayReq port req s
  | .setIncrement c a0 a1 a2 => Sys2Proof.Machine.execSetIncrement c a0 a1 a2 s
  | .step c a0 a1 a2 => Sys2Proof.Machine.execStep c a0 a1 a2 s
  | .setLock c a0 a1 => Sys2Proof.Machine.execSetLock c a0 a1 s
  | .select c a0 => Sys2Proof.Machine.execSelect c a0 s
  | .linkUp x => Sys2Proof.Machine.execLinkUp x s
  | .linkDown x => Sys2Proof.Machine.execLinkDown x s
  | .sfpMismatch x code => Sys2Proof.Machine.execSfpMismatch x code s
  | .backboneFrameRx f => Sys2Proof.Machine.execBackboneFrameRx f s
  | .prpSupervisionSend k => Sys2Proof.Machine.execPrpSupervisionSend k s
  | .prpNodeForget k => Sys2Proof.Machine.execPrpNodeForget k s
  | .frameLaunch p => Sys2Proof.Machine.execFrameLaunch p s
  | .detection l valid mw => Sys2Proof.Machine.execDetection l valid mw s
  | .powerFault l kind ma => Sys2Proof.Machine.execPowerFault l kind ma s
  | .powerOff c a0 => Sys2Proof.Machine.execPowerOff c a0 s
  | .powerOn c a0 => Sys2Proof.Machine.execPowerOn c a0 s
  | .inputFrame f => Sys2Proof.Machine.execInputFrame f s
  | .stationAbsent n => Sys2Proof.Machine.execStationAbsent n s
  | .stationSummary n => Sys2Proof.Machine.execStationSummary n s
  | .netDropPoint => Sys2Proof.Machine.execNetDropPoint s
  | .canFrameRx c f => Sys2Proof.Machine.execCanFrameRx c f s
  | .messageAged c b => Sys2Proof.Machine.execMessageAged c b s
  | .canWindowStart c k => Sys2Proof.Machine.execCanWindowStart c k s
  | .canWindowEnd c => Sys2Proof.Machine.execCanWindowEnd c s
  | .canFrameSent c => Sys2Proof.Machine.execCanFrameSent c s
  | .canBusError c tec rec => Sys2Proof.Machine.execCanBusError c tec rec s
  | .recoveryDone c => Sys2Proof.Machine.execRecoveryDone c s
  | .send c a0 a1 => Sys2Proof.Machine.execSend c a0 a1 s
  | .recover c a0 a1 => Sys2Proof.Machine.execRecover c a0 a1 s
  | .grantConfirmed level side peer => Sys2Proof.Machine.execGrantConfirmed level side peer s
  | .ringmasterLost => Sys2Proof.Machine.execRingmasterLost s
  | .ringmasterReturned level side peer => Sys2Proof.Machine.execRingmasterReturned level side peer s
  | .ringmasterStartGrant a b => Sys2Proof.Machine.execRingmasterStartGrant a b s
  | .grantMoved a b => Sys2Proof.Machine.execGrantMoved a b s
  | .grantRaise => Sys2Proof.Machine.execGrantRaise s
  | .spotLead peer => Sys2Proof.Machine.execSpotLead peer s
  | .outputRelease => Sys2Proof.Machine.execOutputRelease s
  | .joinRequest j => Sys2Proof.Machine.execJoinRequest j s
  | .mirrorDelta frames rxNs => Sys2Proof.Machine.execMirrorDelta frames rxNs s
  | .mirrorMiss => Sys2Proof.Machine.execMirrorMiss s
  | .returnSend => Sys2Proof.Machine.execReturnSend s
  | .returnFrame f => Sys2Proof.Machine.execReturnFrame f s
  | .peerLost => Sys2Proof.Machine.execPeerLost s
  | .handover c a0 => Sys2Proof.Machine.execHandover c a0 s
  | .rejoin c a0 => Sys2Proof.Machine.execRejoin c a0 s
  | .scrubRead m found requester => Sys2Proof.Machine.execScrubRead m found requester s
  | .crossingStalled g => Sys2Proof.Machine.execCrossingStalled g s
  | .crossingResumed g items => Sys2Proof.Machine.execCrossingResumed g items s
  | .clearTable c a0 a1 => Sys2Proof.Machine.execClearTable c a0 a1 s
  | .setScrub c a0 a1 => Sys2Proof.Machine.execSetScrub c a0 a1 s
  | .recordAdmit ue => Sys2Proof.Machine.execRecordAdmit ue s
  | .summaryTimeout code => Sys2Proof.Machine.execSummaryTimeout code s
  | .flushTimer => Sys2Proof.Machine.execFlushTimer s
  | .flushDone failures => Sys2Proof.Machine.execFlushDone failures s
  | .flush c a0 => Sys2Proof.Machine.execFlush c a0 s
  | .contRead c a0 a1 a2 => Sys2Proof.Machine.execContRead c a0 a1 a2 s
  | .readStop c a0 => Sys2Proof.Machine.execReadStop c a0 s
  | .readDone ring => Sys2Proof.Machine.execReadDone ring s
  | .sessionBegin c a0 slow => Sys2Proof.Machine.execSessionBegin c a0 slow s
  | .sessionProve c a0 slow => Sys2Proof.Machine.execSessionProve c a0 slow s
  | .sessionProofTimeout k => Sys2Proof.Machine.execSessionProofTimeout k s
  | .sessionClose c a0 slow => Sys2Proof.Machine.execSessionClose c a0 slow s
  | .sessionEnded k => Sys2Proof.Machine.execSessionEnded k s
  | .installKey c a0 slow => Sys2Proof.Machine.execInstallKey c a0 slow s
  | .deleteKey c a0 a1 slow => Sys2Proof.Machine.execDeleteKey c a0 a1 slow s
  | .keyInfo c a0 slow => Sys2Proof.Machine.execKeyInfo c a0 slow s
  | .zeroise c a0 slow => Sys2Proof.Machine.execZeroise c a0 slow s
  | .getCert c a0 slow => Sys2Proof.Machine.execGetCert c a0 slow s
  | .attest c a0 slow => Sys2Proof.Machine.execAttest c a0 slow s
  | .random c a0 slow => Sys2Proof.Machine.execRandom c a0 slow s
  | .selfTestFailed which => Sys2Proof.Machine.execSelfTestFailed which s
  | .microcodeWrite c a0 a1 a2 slow => Sys2Proof.Machine.execMicrocodeWrite c a0 a1 a2 slow s
  | .setMinVersion c a0 slow => Sys2Proof.Machine.execSetMinVersion c a0 slow s
  | .debugUnlock c a0 slow => Sys2Proof.Machine.execDebugUnlock c a0 slow s
  | .hostReset cause => Sys2Proof.Machine.execHostReset cause s
  | .linkChanged which up speed width => Sys2Proof.Machine.execLinkChanged which up speed width s
  | .ringWrite r ep => Sys2Proof.Machine.execRingWrite r ep s
  | .ringModeration r => Sys2Proof.Machine.execRingModeration r s
  | .consWrite r v => Sys2Proof.Machine.execConsWrite r v s
  | .ringEnable r => Sys2Proof.Machine.execRingEnable r s
  | .submissionFetch e rivals slow => Sys2Proof.Machine.execSubmissionFetch e rivals slow s
  | .txRingDoorbell r prod es => Sys2Proof.Machine.execTxRingDoorbell r prod es s
  | .mgmtBegin d slow => Sys2Proof.Machine.execMgmtBegin d slow s
  | .mgmtProve d slow => Sys2Proof.Machine.execMgmtProve d slow s
  | .mgmtCommand d rivals slow => Sys2Proof.Machine.execMgmtCommand d rivals slow s
  | .mgmtRead d => Sys2Proof.Machine.execMgmtRead d s
  | .mgmtWrite d => Sys2Proof.Machine.execMgmtWrite d s
  | .arpRequest target v6 => Sys2Proof.Machine.execArpRequest target v6 s
  | .subscribe c a0 => Sys2Proof.Machine.execSubscribe c a0 s
  | .unsubscribe c a0 => Sys2Proof.Machine.execUnsubscribe c a0 s
  | .ringBind c a0 a1 a2 => Sys2Proof.Machine.execRingBind c a0 a1 a2 s
  | .badAccess a width write => Sys2Proof.Machine.execBadAccess a width write s
  | .absentAccess a write => Sys2Proof.Machine.execAbsentAccess a write s
  | .gatedAccess a write => Sys2Proof.Machine.execGatedAccess a write s
  | .tkWriteDropped a v => Sys2Proof.Machine.execTkWriteDropped a v s
  | .rcRead a => Sys2Proof.Machine.execRcRead a s
  | .latchedLoRead a => Sys2Proof.Machine.execLatchedLoRead a s
  | .w1cWrite a v => Sys2Proof.Machine.execW1cWrite a v s
  | .newDataClear c b => Sys2Proof.Machine.execNewDataClear c b s
  | .registerWrite a v slow => Sys2Proof.Machine.execRegisterWrite a v slow s
  | .pulseEdge c => Sys2Proof.Machine.execPulseEdge c s
  | .armedBeat => Sys2Proof.Machine.execArmedBeat s
  | .referenceReturned => Sys2Proof.Machine.execReferenceReturned s
  | .holdUpExhausted => Sys2Proof.Machine.execHoldUpExhausted s
  | .lockoutExpired credential transport => Sys2Proof.Machine.execLockoutExpired credential transport s
  | .secCommandDone => Sys2Proof.Machine.execSecCommandDone s
  | .mirroredEntryDurable ok => Sys2Proof.Machine.execMirroredEntryDurable ok s
  | .pdelayRespReceived port delay => Sys2Proof.Machine.execPdelayRespReceived port delay s
  | .msixUnmask v => Sys2Proof.Machine.execMsixUnmask v s
  | .busMasterEnable on => Sys2Proof.Machine.execBusMasterEnable on s
  | .analogOutputFaultCleared c => Sys2Proof.Machine.execAnalogOutputFaultCleared c s

end Sys2Proof.Machine
end

