-- ==== Sys2Proof/Safety.lean ====
section
/-! DEFINITION. What every state of a run keeps and what a command may touch, in the terms that the claims use. -/

namespace Sys2Proof.Machine

open Sys2Proof

/-! ### The form of a state -/

/-- The keys of a table are strictly rising. -/
def keysRise {α : Type} : Table α → Bool
  | [] => true
  | [_] => true
  | (k, _) :: (k', v') :: t => decide (k < k') && keysRise ((k', v') :: t)

/-- The state keeps its form: one entry for each register field that is listed, in rising order; the live image, the
snapshot, the point window and the conditioning table canonical (R107, R113, R114); six time bases (R326), four Take
slots (R84), eight session slots (R480), four CAN ports (R384), at most 65,536 records in the volatile ring (R463), and two
header copies of the Splice log (R97). -/
structure WellKept (s : State) : Prop where
  regs : keysRise s.regs = true
  live : tableWf {} s.pimg.live = true
  snap : tableWf {} s.pimg.snap = true
  window : tableWf {} s.pimg.window = true
  cond : tableWf {} s.pimg.cond = true
  bases : s.clap.bases.length = 6
  slots : s.txn.slots.length = 4
  sessions : s.sec.sessions.length = 8
  ports : s.can.ports.length = 4
  volatileRing : s.cont.volatileRing.length ≤ 65536
  headers : s.txn.headers.length = 2

/-! ### Parts of the state -/

/-- What a command may leave alone: the queue, the register file, the state of one unit beyond its registers, the Reel in
force, the count of free values, and four things inside a unit: the device state, TICK.NUMBER, the Splice log and the
billing registers. -/
inductive Part where
  | pending | regs | dev | clap | tick | pimg | lio | txn | trp | car | asm | jug | boe | bot | bat | net | lrp | stn | can
  | spot | mem | cont | host | sec | pwr | cfg | free | devState | tickNumber | log | accum
deriving DecidableEq, Repr

/-- Two states agree in a part. -/
def Part.same (s t : State) : Part → Prop
  | .pending => t.pending = s.pending
  | .regs => t.regs = s.regs
  | .dev => t.dev = s.dev
  | .clap => t.clap = s.clap
  | .tick => t.tick = s.tick
  | .pimg => t.pimg = s.pimg
  | .lio => t.lio = s.lio
  | .txn => t.txn = s.txn
  | .trp => t.trp = s.trp
  | .car => t.car = s.car
  | .asm => t.asm = s.asm
  | .jug => t.jug = s.jug
  | .boe => t.boe = s.boe
  | .bot => t.bot = s.bot
  | .bat => t.bat = s.bat
  | .net => t.net = s.net
  | .lrp => t.lrp = s.lrp
  | .stn => t.stn = s.stn
  | .can => t.can = s.can
  | .spot => t.spot = s.spot
  | .mem => t.mem = s.mem
  | .cont => t.cont = s.cont
  | .host => t.host = s.host
  | .sec => t.sec = s.sec
  | .pwr => t.pwr = s.pwr
  | .cfg => t.cfg = s.cfg
  | .free => t.free = s.free
  | .devState => t.dev.state = s.dev.state
  | .tickNumber => t.tick.number = s.tick.number
  | .log => t.txn.log = s.txn.log
  | .accum => t.bat.accum = s.bat.accum

/-- The place of a part in a mask. -/
def Part.idx : Part → Nat
  | .pending => 0 | .regs => 1 | .dev => 2 | .clap => 3 | .tick => 4 | .pimg => 5 | .lio => 6 | .txn => 7 | .trp => 8
  | .car => 9 | .asm => 10 | .jug => 11 | .boe => 12 | .bot => 13 | .bat => 14 | .net => 15 | .lrp => 16 | .stn => 17
  | .can => 18 | .spot => 19 | .mem => 20 | .cont => 21 | .host => 22 | .sec => 23 | .pwr => 24 | .cfg => 25 | .free => 26
  | .devState => 27 | .tickNumber => 28 | .log => 29 | .accum => 30

/-- From `s` to `t`, at most the parts in the mask `m` have changed, and the form is kept. -/
structure Moves (m : Nat) (s t : State) : Prop where
  frame : ∀ p : Part, m.testBit p.idx = false → p.same s t
  form : WellKept s → WellKept t

/-- Every part but some. -/
def Part.allBut (ps : List Part) : List Part :=
  [.pending, .regs, .dev, .clap, .tick, .pimg, .lio, .txn, .trp, .car, .asm, .jug, .boe, .bot, .bat, .net, .lrp, .stn, .can,
    .spot, .mem, .cont, .host, .sec, .pwr, .cfg, .free, .devState, .tickNumber, .log, .accum].filter (fun p => !ps.contains p)

/-- A list of parts as a mask. -/
def Part.mask (ps : List Part) : Nat := ps.foldl (fun m p => m ||| 2 ^ p.idx) 0

/-- The parts that a command may change. A record of CONT, an interrupt and the end of a session by its caller's command
count as changes of CONT, HOST and SEC. -/
def touches : Instr → List Part
  | .x1Good .. => Part.allBut [.pending]
  | .bootSelfTestsDone .. => [.regs, .dev, .cont, .host, .sec, .devState]
  | .loadDone .. => Part.allBut [.pending]
  | .loadFailed .. =>
    [.regs, .dev, .tick, .pimg, .txn, .trp, .car, .asm, .jug, .boe, .bot, .bat, .net, .lrp, .stn, .can, .spot, .cont,
    .host, .sec, .free, .devState, .log]
  | .cardRemoved => [.regs, .dev, .cont, .host, .free, .devState]
  | .lockWaitExpired => [.dev, .cont]
  | .startConditionMet .. => [.regs, .dev, .tick, .trp, .car, .jug, .spot]
  | .goLive =>
    [.regs, .dev, .clap, .tick, .pimg, .lio, .txn, .trp, .car, .asm, .jug, .boe, .bot, .bat, .net, .stn, .can, .spot,
    .cont, .host, .free, .devState, .tickNumber, .accum]
  | .go .. => [.regs, .dev, .cont, .sec]
  | .restart .. | .maintenance .. => Part.allBut [.pending]
  | .discardSpliceLog .. => [.regs, .txn, .cont, .sec, .log]
  | .tickStart .. => Part.allBut [.pending, .mem, .pwr, .cfg]
  | .injectEnded .. => [.regs, .trp, .cont]
  | .curtain => Part.allBut [.pending]
  | .healthPeriodic => [.regs, .cont, .host]
  | .stagingPost .. => [.regs, .clap, .tick, .cont]
  | .clearCounts .. => [.regs, .cont, .sec]
  | .powerFailStarted .. => [.regs, .dev, .cont, .host, .pwr]
  | .powerFailShed =>
    [.regs, .tick, .pimg, .lio, .trp, .car, .jug, .boe, .bat, .lrp, .can, .spot, .mem, .cont, .host, .pwr, .free]
  | .powerFailOff => Part.allBut [.pending, .free, .accum]
  | .inputLost .. | .inputRestored .. => [.regs, .cont, .host, .pwr]
  | .inputOvervoltage .. => [.regs, .pwr]
  | .pllUnlocked .. =>
    [.regs, .dev, .tick, .txn, .trp, .car, .jug, .boe, .lrp, .can, .spot, .cont, .host, .pwr, .free, .devState, .log]
  | .pllRelocked .. => [.regs, .pimg, .lio, .spot, .mem, .cont, .pwr]
  | .referenceLost .. =>
    [.regs, .dev, .tick, .txn, .trp, .car, .jug, .boe, .lrp, .can, .spot, .cont, .host, .free, .devState, .log]
  | .tempHigh .. | .tempNormal .. | .tempFailed .. => [.regs, .cont, .host]
  | .thermalShutdown .. => [.regs, .dev, .cont, .host, .pwr]
  | .open_ .. | .stage .. | .commit .. | .cut .. => [.regs, .txn, .cont, .sec]
  | .readTunable .. => [.regs, .cont, .sec]
  | .takeExpired .. => [.regs, .txn, .cont]
  | .writeAheadTurn | .takeBodyWritten => [.txn]
  | .takeCommitted | .takeVoided .. => [.regs, .txn, .cont, .host, .log]
  | .spliceWriteFailed => [.regs, .txn, .cont, .host]
  | .pointSample .. => [.regs, .pimg, .cont, .host]
  | .pointStale .. => [.pimg, .cont]
  | .analogInputSample .. => [.regs, .clap, .tick, .pimg, .lio, .spot, .cont]
  | .shuntOpen .. | .shuntReclose .. => [.lio]
  | .rtdConversion .. | .digitalInputChange .. | .pulseTransfer => [.regs, .pimg, .lio, .spot, .cont]
  | .digitalOutputOvercurrent .. | .outputRetry .. | .analogOutputFault .. => [.regs, .lio, .cont]
  | .roundStart => [.regs, .asm, .jug, .cont]
  | .roundAssembled .. => [.regs, .asm, .jug, .cont, .host]
  | .loadPanel .. | .factor .. | .trsm .. | .update .. | .stbSend .. | .extendAdd .. | .storePanel ..
  | .arrive .. | .wait .. | .fwd .. | .diag .. | .bwd .. | .resid .. | .boundStep .. | .move ..
  | .residuals .. | .measure .. | .prepare .. | .reduce .. | .segmentRunEnd .. => [.regs, .jug, .cont, .host]
  | .segmentStalled => [.regs, .jug, .cont]
  | .roundDeadline .. => [.regs, .jug, .cont, .host]
  | .planWritten => [.regs, .jug]
  | .clusterWakeFailed .. => [.regs, .cont, .host]
  | .injectStart .. | .injectStop .. | .captureArm .. | .captureStop .. | .repClear .. => [.regs, .trp, .cont, .sec]
  | .carNop .. | .carLd .. | .carLdn .. | .carAnd .. | .carAndn .. | .carOr .. | .carOrn .. | .carXor ..
  | .carSt .. | .carStn .. | .carSet .. | .carRst .. | .carLdq .. | .carNot .. | .carTrue .. | .carPush ..
  | .carRead .. | .carPop .. | .carAndp .. | .carOrp .. | .carRtrig .. | .carFtrig .. | .carTon ..
  | .carTof .. | .carTp .. | .carCnt .. | .carCrst .. | .carLdw .. | .carStw .. | .carAddi .. | .carSubi ..
  | .carMuli .. | .carDivi .. | .carAndw .. | .carOrw .. | .carAddf .. | .carSubf .. | .carMulf ..
  | .carDivf .. | .carMinf .. | .carMaxf .. | .carItof .. | .carFtoi .. | .carEqi .. | .carLti .. | .carGti ..
  | .carLtf .. | .carGtf .. | .carEqw .. | .carSel .. | .carJmp .. | .carJmpt .. | .carJmpf .. | .carEnd .. =>
    [.regs, .clap, .tick, .car, .cont, .host]
  | .windowClose .. => Part.allBut [.pending, .log]
  | .windowProcessed .. => [.regs, .boe, .cont]
  | .demandIntervalClose => [.regs, .boe, .cont, .host]
  | .thermalIntervalClose => [.regs, .bot, .bat, .cont, .host]
  | .calStart .. => [.regs, .boe, .cont, .sec]
  | .calAbort .. => [.regs, .boe, .cont, .host, .sec, .free]
  | .calDone => [.regs, .boe, .cont, .host]
  | .periodicSave => [.regs, .bat]
  | .saveFailed .. => [.regs, .bat, .cont, .pwr, .free]
  | .flushSave => [.regs, .bat, .pwr, .free]
  | .batterySecond .. => [.regs, .bat, .accum]
  | .batteryCheck .. => [.regs, .bat, .cont]
  | .tamperOpen => Part.allBut [.pending]
  | .tamperClosed => [.regs, .bat, .cont]
  | .tamperClear .. => [.regs, .cont, .host, .sec]
  | .offsetMeasurement .. | .domainHoldover .. | .domainInvalid .. => [.regs, .clap, .pimg, .cont]
  | .localRevert .. => [.regs, .clap, .cont]
  | .announceReceived .. => [.regs, .clap, .pimg, .cont]
  | .pdelayReq .. => [.regs, .net, .cont]
  | .setIncrement .. | .step .. | .setLock .. => [.regs, .clap, .pimg, .cont, .sec]
  | .select .. => [.regs, .clap, .cont, .sec]
  | .linkUp .. => [.regs, .pimg, .cont]
  | .linkDown .. | .sfpMismatch .. => [.regs, .pimg, .net, .stn, .cont, .host]
  | .backboneFrameRx .. => [.regs, .net]
  | .prpSupervisionSend .. => [.regs, .net, .cont]
  | .prpNodeForget .. => [.regs, .net]
  | .frameLaunch .. => [.regs, .net, .stn, .can, .cont]
  | .detection .. | .powerFault .. => [.regs, .lrp, .cont]
  | .powerOff .. | .powerOn .. => [.regs, .lrp, .cont, .sec]
  | .inputFrame .. | .stationAbsent .. => [.regs, .pimg, .net, .stn, .cont, .host]
  | .stationSummary .. => [.regs, .cont, .host]
  | .netDropPoint => [.regs, .pimg, .cont]
  | .canFrameRx .. => [.regs, .pimg, .can, .cont, .host, .free]
  | .messageAged .. => [.regs, .pimg, .can, .cont]
  | .canWindowStart .. => [.regs, .can]
  | .canWindowEnd .. => [.regs, .can, .cont]
  | .canFrameSent .. => [.regs, .can, .cont, .host]
  | .canBusError .. => [.regs, .clap, .pimg, .can, .cont]
  | .recoveryDone .. => [.regs, .can]
  | .send .. | .recover .. => [.regs, .can, .cont, .sec]
  | .grantConfirmed .. | .ringmasterLost | .ringmasterReturned .. =>
    [.regs, .tick, .txn, .trp, .car, .jug, .net, .can, .spot, .cont, .host, .log]
  | .ringmasterStartGrant .. => [.regs, .spot]
  | .grantMoved .. => [.regs, .spot, .cont]
  | .grantRaise => [.regs, .spot]
  | .spotLead .. => [.regs, .clap, .tick, .pimg, .trp, .car, .jug, .stn, .can, .spot, .cont, .host, .free]
  | .outputRelease => [.regs, .lio]
  | .joinRequest .. => [.regs, .spot]
  | .mirrorDelta .. =>
    [.regs, .dev, .clap, .tick, .pimg, .lio, .txn, .trp, .car, .asm, .jug, .boe, .bot, .bat, .net, .stn, .can, .spot,
    .cont, .host, .free, .devState, .tickNumber, .log]
  | .mirrorMiss => [.regs, .tick, .trp, .car, .jug, .spot, .cont]
  | .returnSend => [.clap, .tick, .spot]
  | .returnFrame .. => [.regs, .txn, .spot]
  | .peerLost => [.regs, .txn, .spot, .cont]
  | .handover .. => [.regs, .spot, .cont, .sec]
  | .rejoin .. => [.regs, .tick, .trp, .car, .jug, .spot, .cont, .sec]
  | .scrubRead .. =>
    [.regs, .dev, .tick, .pimg, .txn, .trp, .car, .asm, .jug, .boe, .bot, .bat, .net, .lrp, .stn, .can, .spot, .mem,
    .cont, .host, .sec, .free, .devState, .log]
  | .crossingStalled .. => [.regs, .pimg, .mem, .cont]
  | .crossingResumed .. => [.regs, .cont]
  | .clearTable .. | .setScrub .. => [.regs, .cont, .sec]
  | .recordAdmit .. =>
    [.regs, .dev, .tick, .pimg, .txn, .trp, .car, .asm, .jug, .boe, .bot, .bat, .net, .lrp, .stn, .can, .spot, .cont,
    .host, .sec, .free, .devState, .log]
  | .summaryTimeout .. | .flushTimer => [.regs, .cont, .host]
  | .flushDone .. => [.regs, .cont, .host, .pwr]
  | .flush .. => [.regs, .cont, .host, .sec]
  | .contRead .. | .readStop .. => [.regs, .cont, .sec]
  | .readDone .. => [.regs, .cont, .host]
  | .sessionBegin .. | .sessionProve .. => [.regs, .txn, .cont, .host, .sec, .free]
  | .sessionProofTimeout .. => [.regs, .cont, .host, .sec]
  | .sessionClose .. => [.regs, .txn, .cont, .host, .sec, .free]
  | .sessionEnded .. => [.regs, .txn, .cont, .host, .sec]
  | .installKey .. | .deleteKey .. | .keyInfo .. => [.regs, .txn, .cont, .host, .sec, .free]
  | .zeroise .. => Part.allBut [.pending]
  | .getCert .. | .attest .. | .random .. => [.regs, .txn, .cont, .host, .sec, .free]
  | .selfTestFailed .. => [.regs, .cont, .host]
  | .microcodeWrite .. | .setMinVersion .. => [.regs, .txn, .cont, .host, .sec, .free]
  | .debugUnlock .. => Part.allBut [.pending]
  | .hostReset .. => [.regs, .txn, .cont, .host, .sec]
  | .linkChanged .. => [.regs, .cont]
  | .ringWrite .. => [.regs, .cont, .host]
  | .ringModeration .. => [.regs, .host]
  | .consWrite .. => [.regs, .cont, .host]
  | .ringEnable .. => [.regs, .host]
  | .submissionFetch .. => Part.allBut [.pending]
  | .txRingDoorbell .. => [.regs, .net, .cont, .host]
  | .mgmtBegin .. | .mgmtProve .. => [.regs, .txn, .cont, .host, .sec, .free]
  | .mgmtCommand .. => Part.allBut [.pending]
  | .mgmtRead .. | .mgmtWrite .. => [.regs, .cont, .host]
  | .arpRequest .. => [.host]
  | .subscribe .. | .unsubscribe .. => [.regs, .cont, .host, .sec]
  | .ringBind .. => [.regs, .cont, .sec]
  | .badAccess .. | .absentAccess .. | .gatedAccess .. | .tkWriteDropped .. | .rcRead .. | .latchedLoRead ..
  | .w1cWrite .. => [.regs, .cont, .host]
  | .newDataClear .. => [.regs, .host]
  | .registerWrite .. => Part.allBut [.pending]
  | .pulseEdge .. | .armedBeat => [.regs]
  | .referenceReturned => Part.allBut [.pending]
  | .holdUpExhausted => Part.allBut [.pending, .free, .accum]
  | .lockoutExpired .. => [.sec]
  | .secCommandDone => Part.allBut [.pending]
  | .mirroredEntryDurable .. => [.regs, .txn, .spot, .cont, .host, .log]
  | .pdelayRespReceived .. => [.regs]
  | .msixUnmask .. => [.host]
  | .busMasterEnable .. => [.regs, .cont, .host]
  | .analogOutputFaultCleared .. => [.regs, .lio, .cont]

/-- The BAR0 offset that a host access names (R11): the commands that stand for one register access. -/
def accessOffset : Instr → Option Nat
  | .badAccess a _ _ | .absentAccess a _ | .gatedAccess a _ | .tkWriteDropped a _ | .rcRead a | .latchedLoRead a
  | .w1cWrite a _ | .registerWrite a _ _ => some a
  | _ => none

/-! ### What the claims say of two states -/

/-- Between two states, at most some parts differ. -/
def OnlyParts (ps : List Part) (s t : State) : Prop := ∀ p : Part, p ∉ ps → p.same s t

/-- Every register field reads in `t` as in `s`, but for those listed. -/
def OnlyFields (fs : List Field) (s t : State) : Prop :=
  ∀ f : Field, (∀ g ∈ fs, fieldKey g ≠ fieldKey f) → getF t f = getF s f

/-- Between `s` and `t`, CONT was handed these records: code and payload, in order (R446). -/
def Records (s t : State) (l : List (Nat × List Nat)) : Prop :=
  t.cont.arrivals.map (fun r => (r.code, r.payload)) = s.cont.arrivals.map (fun r => (r.code, r.payload)) ++ l

/-- The payload of an event now: the low word of TICK.NUMBER and three words (R446). -/
def payload (s : State) (w1 w2 w3 : Nat) : List Nat := [tickLo s, lo32 w1, lo32 w2, lo32 w3]

/-- Nothing of R102 but the device state turns the command away: the caller's session has one of the roles, no power failure
is in progress, the command did not lose a tie, and the argument words that its row lists as 0 are 0. -/
def Admitted (c : Caller) (roles : List Nat) (s : State) : Prop :=
  (∃ r ∈ roles, callerRole s c = some r) ∧ powerFailing s = false ∧ lostTie c = false ∧ spareClear c = true

/-- The scan of task `t` stands at the instruction word `w` with opcode `op`, CAR runs, and the task's window of the present
tick has a slot left (R241, R242); `k` is the task's work entry. -/
def CarAt (t op : Nat) (k : WorkEntry) (x : Scan) (w : Word) (s : State) : Prop :=
  scanOf s t = some x ∧ taskWork s t = some k ∧ (logicSec s).instrs[x.addr]? = some w ∧ carOpcode w = op ∧ x.ended = false ∧
    carRuns s = true ∧ windowOpen s t k.slice x = true

/-- The instructions of the Carousel (R250), each with its opcode and the command that executes it in task `t`; `ue` is the
address of an uncorrectable error that it reads. -/
def carInstructions (t : Nat) (ue : Option Nat) : List (Nat × Instr) :=
  [(0x00, .carNop t ue), (0x01, .carLd t ue), (0x02, .carLdn t ue), (0x03, .carAnd t ue), (0x04, .carAndn t ue),
    (0x05, .carOr t ue), (0x06, .carOrn t ue), (0x07, .carXor t ue), (0x08, .carSt t ue), (0x09, .carStn t ue),
    (0x0A, .carSet t ue), (0x0B, .carRst t ue), (0x0C, .carLdq t ue), (0x0D, .carNot t ue), (0x0E, .carTrue t ue),
    (0x10, .carPush t ue), (0x11, .carRead t ue), (0x12, .carPop t ue), (0x13, .carAndp t ue), (0x14, .carOrp t ue),
    (0x18, .carRtrig t ue), (0x19, .carFtrig t ue), (0x1A, .carTon t ue), (0x1B, .carTof t ue), (0x1C, .carTp t ue),
    (0x1D, .carCnt t ue), (0x1E, .carCrst t ue), (0x20, .carLdw t ue), (0x21, .carStw t ue), (0x22, .carAddi t ue),
    (0x23, .carSubi t ue), (0x24, .carMuli t ue), (0x25, .carDivi t ue), (0x26, .carAndw t ue), (0x27, .carOrw t ue),
    (0x28, .carAddf t ue), (0x29, .carSubf t ue), (0x2A, .carMulf t ue), (0x2B, .carDivf t ue), (0x2C, .carMinf t ue),
    (0x2D, .carMaxf t ue), (0x2E, .carItof t ue), (0x2F, .carFtoi t ue), (0x30, .carEqi t ue), (0x31, .carLti t ue),
    (0x32, .carGti t ue), (0x33, .carLtf t ue), (0x34, .carGtf t ue), (0x35, .carEqw t ue), (0x36, .carSel t ue),
    (0x38, .carJmp t ue), (0x39, .carJmpt t ue), (0x3A, .carJmpf t ue), (0x3B, .carEnd t ue)]

/-- Command `c` executes an instruction of task `t` that reads an uncorrectable error at an address: wherever the task stands at
opcode `op`, the command completes at the cycle at which the instruction issues. The scan is aborted, CAR is to become FAULTED
at the Curtain, and no item has changed. -/
def CarReadsError (c : Nat → Instr) (t op : Nat) : Prop :=
  ∀ (k : WorkEntry) (x : Scan) (w : Word) (addr : Nat) (s : State), CarAt t op k x w s →
    ∃ u, exec (c addr) s = .next u ∧ scanOf u t = none ∧ 10 ∈ u.tick.forceFault ∧ u.car.items = s.car.items ∧
      u.tick.cycle = issueCycle s t k.slice x ∧ OnlyParts [.regs, .car, .tick, .clap, .cont, .host] s u

/-- Command `c` executes an instruction of task `t`: wherever the task stands at opcode `op`, the command completes at the cycle
at which the instruction issues, the task's scan becomes `f` of the scan that has taken `slots` slots of its window, and only
time has passed besides. Where the instruction reads an uncorrectable error, the scan is aborted. -/
def CarDoes (c : Option Nat → Instr) (t op slots : Nat) (f : State → Word → Scan → Scan) : Prop :=
  (∀ (k : WorkEntry) (x : Scan) (w : Word) (s : State), CarAt t op k x w s →
    ∃ u, exec (c none) s = .next u ∧ scanOf u t = some (f s w (takeSlots s t k.slice slots x)) ∧
      (∀ j, j ≠ t → scanOf u j = scanOf s j) ∧ u.car.items = s.car.items ∧ u.tick.cycle = issueCycle s t k.slice x ∧
      OnlyParts [.car, .tick, .clap] s u) ∧
  CarReadsError (fun addr => c (some addr)) t op

/-- Operation `k` of the Storyboard has the opcode (and function code), and its cluster may dispatch it now in the run `g` of
round `r` (R170, R171). -/
def StoryAt (opcode code k : Nat) (r : Round) (g : SegRun) (s : State) : Prop :=
  s.jug.round = some r ∧ r.run = some g ∧ r.ended = none ∧ unitRuns s 7 = true ∧ ((storySec s).ops.getD k {}).opcode = opcode ∧
    (opcode = 0x0E → ((storySec s).ops.getD k {}).source % 256 = code) ∧ opReady (storySec s) g k = true

/-- The run after operation `k`: it is done, and where it is ARRIVE its barrier has counted it. -/
def ranOp (s : State) (k : Nat) (g : SegRun) : SegRun :=
  let o := (storySec s).ops.getD k {}
  { g with done := g.done ++ [k], barriers :=
      if o.opcode = 0x08 then tablePut 0 g.barriers o.arg (tableGet 0 g.barriers o.arg + 1) else g.barriers }

/-- Command `c` executes Storyboard operation `k`, whose arithmetic is `f`. Where the operation may be dispatched, the command
completes: the round holds the result with `k` done, and nothing else changes but CURRENT_OP; or, where the arithmetic fails,
the round has ended with that cause. Where it may not be dispatched, nothing changes. -/
def StoryDoes (c : Instr) (opcode code k : Nat) (f : State → StoryOp → Round → OpOut) : Prop :=
  (∀ (r : Round) (g : SegRun) (s : State), StoryAt opcode code k r g s →
    let out := f s ((storySec s).ops.getD k {}) r
    ∃ t, exec c s = .next t ∧
      (out.2 = none → t.jug = { s.jug with round := some { out.1 with run := some (ranOp s k g) } } ∧
        OnlyParts [.regs, .jug] s t ∧ OnlyFields [F.STB.CURRENT_OP] s t) ∧
      (∀ cause detail, out.2 = some (cause, detail) → out.1.ended = none →
        (t.jug.round.bind Round.ended) = some (cause, endStatus out.1 cause) ∧ (t.jug.round.bind Round.run) = none ∧
        OnlyParts [.regs, .jug, .cont, .host] s t)) ∧
  (∀ (r : Round) (g : SegRun) (s : State), s.jug.round = some r → r.run = some g → opReady (storySec s) g k = false →
    exec c s = .next s)

/-- Command `c` executes Storyboard operation `k`, which reads an uncorrectable error of its cluster: in LPDDR, in the cluster's
own SRAM or in the shared solver SRAM. The round ends with MEMORY. -/
def StoryReadsError (c : Option (Nat × Nat) → Instr) (opcode code k : Nat) : Prop :=
  ∀ (r : Round) (g : SegRun) (m addr : Nat) (s : State), StoryAt opcode code k r g s →
    m = 0 ∨ m = 1 + ((storySec s).ops.getD k {}).cluster ∨ m = 5 →
    ∃ t, exec (c (some (m, addr))) s = .next t ∧ (t.jug.round.bind Round.ended) = some (10, 3) ∧
      (t.jug.round.bind Round.run) = none ∧ OnlyParts [.regs, .jug, .cont, .host] s t

end Sys2Proof.Machine
end

