-- ==== Sys2Proof/Certificates/Slice0/Obligations.lean ====
section
/-! DEFINITION. The statements for the provers, in the terms of the machine and of Safety. -/

open Sys2Proof Sys2Proof.Machine

/-- For every command c and every state s, the step of s with c at the front of its queue is exec of c on s with the rest
of the queue. (02_tick_and_curtain.md R28, 01_architecture.md R10) -/
def Obligations.StepRunsFrontCommand : Prop :=
  ∀ (c : Instr) (rest : List Instr) (s : State),
    step { s with pending := c :: rest } = Machine.exec c { s with pending := rest }

/-- The model's choice (log entry 1): with an empty queue a step answers a next state. In OFF that state is s. In every
other state with CLK_TS running, each base 0 to 5 that counts advances by its increment in units of 2^-32 ns, a base
that does not count keeps its count, CLK_CORE counts two cycles, and no register, no queue and no other part changes.
(13_clapper.md R326, 01_architecture.md R18) -/
def Obligations.IdleStepLetsOneTimestampCyclePass : Prop :=
  ∀ s : State, s.pending = [] →
    (inState s .off = true → step s = .next s) ∧
    (inState s .off = false → clockRuns s 8 = true → s.clap.cycles % 2 = 0 → ∃ t, step s = .next t ∧
      (∀ b, b < 6 → baseRuns s b = true → t.clap.bases[b]? = some (advanceCount (s.clap.bases.getD b {}) (baseInc s b) 1)) ∧
      (∀ b, b < 6 → baseRuns s b = false → t.clap.bases[b]? = some (s.clap.bases.getD b {})) ∧
      t.clap.cycles = s.clap.cycles + 2 ∧ OnlyParts [.clap, .tick] s t)

/-- For every command and every state exec answers a next state, with one exception: a register access, a register write,
a 1-to-clear write, a read-to-clear or latched read, and a write to a tunable window answer the fault outsideBar0
exactly where the offset is not below 0x4000000 (64 MiB). (01_architecture.md R11, 00_scope.md R4) -/
def Obligations.EveryCommandCompletes : Prop :=
  ∀ (c : Instr) (s : State),
    (∀ a, accessOffset c = some a → 0x4000000 ≤ a → Machine.exec c s = .fault .outsideBar0) ∧
    ((∀ a, accessOffset c = some a → a < 0x4000000) → ∃ t, Machine.exec c s = .next t)

/-- For every command c and all states s and t: if exec of c on s answers t, every part of the state outside the list
touches c is in t what it is in s: the queue, the registers, the device state, TICK.NUMBER, the Splice log, the
billing registers, the Reel in force, the count of free values and each unit's own state. (02_tick_and_curtain.md R44,
03_start_and_reel.md R50, 05_process_image.md R112) -/
def Obligations.EveryCommandTouchesOnlyItsParts : Prop :=
  ∀ (c : Instr) (s t : State), Machine.exec c s = .next t → OnlyParts (touches c) s t

/-- If s keeps its form (register keys strictly rising; the live image, the snapshot, the point window and the
conditioning table canonical; six time bases, four Take slots, eight session slots, four CAN ports; at most 65,536
records in the volatile ring; two header copies of the Splice log) and a step of s answers t, then t keeps it too.
(05_process_image.md R107, 05_process_image.md R113, 05_process_image.md R114, 13_clapper.md R326, 04_takes.md R84,
19_security.md R480, 15_can.md R384, 18_continuity.md R463, 04_takes.md R97) -/
def Obligations.EveryStepKeepsForm : Prop :=
  ∀ s t : State, WellKept s → step s = .next t → WellKept t

/-- The state after reset meets the invariant WellKept that every step keeps. At reset the device is in OFF, no command
waits, the Splice log is empty, no key is held, no session is open, PART names the WN9648 with all 24 units present,
and PD0 alone is on. The serial number 0 and an empty key store are the model's choices (log entry 2). (00_scope.md
R1, 03_start_and_reel.md R49, 01_architecture.md R14) -/
def Obligations.ResetState : Prop :=
  WellKept State.reset ∧ State.reset.dev.state = .off ∧ State.reset.pending = [] ∧ State.reset.txn.log = [] ∧
    getF State.reset F.DEV.PART = 0x9648 ∧ (∀ u, u < 24 → present State.reset u = true) ∧
    (∀ d, d < 16 → (domainOn State.reset d = true ↔ d = 0)) ∧ (∀ k, sessionOpen State.reset k = false) ∧
    (∀ i, tableGet {} State.reset.pimg.live i = {}) ∧ State.reset.can.ports.length = 4

/-- From OFF, with an input at 18 V or above, a base plate below 80 degrees C and no tamper event in the battery log,
X1_GOOD enters BOOT: the power epoch is one more than the larger of the PD0 copy (0 where PD0 lost its contents) and
the flash copy, both copies hold it, no Reel is in force, and the queue and the Splice log are kept. From OFF with
both inputs below 18 V, and in every other device state, nothing changes. (03_start_and_reel.md R50,
03_start_and_reel.md R52, 03_start_and_reel.md R53) -/
def Obligations.PowerOnEntersBoot : Prop :=
  ∀ (aMv bMv : Nat) (pd0 : Bool) (s : State),
    (inState s .off = true → 18000 ≤ max aMv bMv → toSigned 16 (getF s F.PWR.TEMPERATURE_BASE) < 800 → tamperLogged s = false →
      ∃ t, Machine.exec (.x1Good aMv bMv pd0) s = .next t ∧ t.dev.state = .boot ∧
        t.dev.epochFlash = max (if pd0 then s.dev.epochPd0 else 0) s.dev.epochFlash + 1 ∧ t.dev.epochPd0 = t.dev.epochFlash ∧
        t.cfg = {} ∧ t.pending = s.pending ∧ t.txn.log = s.txn.log ∧ logHash t = logHash s) ∧
    (inState s .off = true → max aMv bMv < 18000 → Machine.exec (.x1Good aMv bMv pd0) s = .next s) ∧
    (inState s .off = false → Machine.exec (.x1Good aMv bMv pd0) s = .next s)

/-- While BOOT is working: with no startable image the device stays in BOOT with RECOVERY set and BOOT_STATUS 5; with an
image whose tests fail with cause c it halts in BOOT with BOOT_HALTED set and BOOT_STATUS c; with every test passed it
enters MAINTENANCE where that was requested and LOAD otherwise. While BOOT is not working nothing changes.
(03_start_and_reel.md R50, 03_start_and_reel.md R54, 03_start_and_reel.md R55, 03_start_and_reel.md R56) -/
def Obligations.BootSelfTestsDecideTheState : Prop :=
  ∀ (o : BootOutcome) (s : State), WellKept s →
    (booting s = false → Machine.exec (.bootSelfTestsDone o) s = .next s) ∧
    (booting s = true → bootChoice s o = none → ∃ t, Machine.exec (.bootSelfTestsDone o) s = .next t ∧
      t.dev = s.dev ∧ flag t F.DEV.STATE_RECOVERY = true ∧ getF t F.DEV.BOOT_STATUS = 5 ∧ OnlyParts [.regs] s t) ∧
    (booting s = true → ∀ x, bootChoice s o = some x → bootFailure o ≠ 0 →
      ∃ t, Machine.exec (.bootSelfTestsDone o) s = .next t ∧ t.dev = s.dev ∧ flag t F.DEV.STATE_BOOT_HALTED = true ∧
        getF t F.DEV.BOOT_STATUS = bootFailure o ∧ t.sec.runningSlot = x.1 ∧ OnlyParts [.regs, .sec, .cont] s t) ∧
    (booting s = true → ∀ x, bootChoice s o = some x → bootFailure o = 0 →
      ∃ t, Machine.exec (.bootSelfTestsDone o) s = .next t ∧ t.sec.runningSlot = x.1 ∧
        t.dev.state = (if s.dev.maintenanceRequested then .maintenance else .load) ∧ t.dev.maintenanceRequested = false)

/-- While LOAD is working, an image whose first failing step gives code, section and detail: LOAD_FAILED completes, leaves
the three in LOAD_ERROR and LOAD_DETAIL and enters MAINTENANCE with no Reel applied, and LOAD_DONE of that image
changes nothing. While LOAD is working, an image that passes every step while no tamper event stands: LOAD_DONE
completes and enters ARMED with the Reel of the image in force and its hash as the loaded hash; the Splice log is
bound to that hash afterwards, its entries kept apart from a torn last one where it was bound to it before, and empty
otherwise; tick 0 is not scheduled and no GO is accepted. CARD_REMOVED completes in every state and marks the card
absent: while LOAD is working it enters MAINTENANCE with code 0x02, and otherwise the device state and every register
stay. While LOAD is not working, LOAD_DONE and LOAD_FAILED change nothing. (03_start_and_reel.md R50,
03_start_and_reel.md R60, 03_start_and_reel.md R72, 03_start_and_reel.md R73, 04_takes.md R97) -/
def Obligations.LoadsPassOrFail : Prop :=
  (∀ (x : ReelImage) (c : CardInfo) (s : State), WellKept s →
    (loading s = true → ∀ e, loadError x c s = some e →
      Machine.exec (.loadDone x c) s = .next s ∧
      ∃ t, Machine.exec (.loadFailed x c) s = .next t ∧ t.dev.state = .maintenance ∧ t.dev.cardPresent = c.present ∧
        getF t F.TXN.LOAD_ERROR_CODE = e.1 % 2 ^ 8 ∧ getF t F.TXN.LOAD_ERROR_SECTION = e.2.1 % 2 ^ 8 ∧
        getF t F.TXN.LOAD_DETAIL = e.2.2 % 2 ^ 32 ∧ t.cfg = s.cfg) ∧
    (loading s = true → loadError x c s = none → Machine.exec (.loadFailed x c) s = .next s) ∧
    (loading s = false → Machine.exec (.loadDone x c) s = .next s ∧ Machine.exec (.loadFailed x c) s = .next s) ∧
    (loading s = true → ∃ t, Machine.exec .cardRemoved s = .next t ∧ t.dev.cardPresent = false ∧ t.dev.state = .maintenance ∧
      getF t F.TXN.LOAD_ERROR_CODE = 2 ∧ t.cfg = s.cfg) ∧
    (loading s = false → ∃ t, Machine.exec .cardRemoved s = .next t ∧ t.dev = { s.dev with cardPresent := false } ∧
      OnlyParts [.dev, .cont] s t)) ∧
  (∀ (x : ReelImage) (c : CardInfo) (s : State), WellKept s → loading s = true → loadError x c s = none →
    flag s F.BAT.STATUS_TAMPER = false →
    ∃ t, Machine.exec (.loadDone x c) s = .next t ∧ t.dev.state = .armed ∧ t.cfg = loadedReel x s ∧
      t.dev.reelHash = (loadedReel x s).hash ∧ logHash t = (loadedReel x s).hash ∧ t.dev.tickZeroAt = none ∧
      t.dev.goAccepted = false ∧ t.dev.cardPresent = c.present ∧
      (logHash s ≠ (loadedReel x s).hash → t.txn.log = []) ∧
      (logHash s = (loadedReel x s).hash → t.txn.log = withoutTorn s.txn.log))

/-- START_CONDITION_MET completes in ARMED with every start condition met, no power failure in progress, no tick 0
scheduled and no join in progress: a Reel without a peer schedules tick 0 at a multiple of 125,000 ns of Local, at
least 250,000 ns and less than 375,000 ns from now; a Reel with a peer does so with the grant high and the peer off
air, starts a join with the grant low and the peer on air, and otherwise only shows the peer's ON_AIR. Outside that
condition it changes nothing. In ARMED with tick 0 scheduled at z, no power failure in progress and Local at or past
z, GO_LIVE completes and enters LIVE with TICK.NUMBER 0, its Curtain ahead, and no tick 0 scheduled any more; before
z, outside ARMED and with none scheduled it changes nothing. LOCK_WAIT_EXPIRED completes in ARMED once LOCK_WAIT_S has
passed without the lock under a policy that waits: it marks the wait as over, records it under WAIT_LOCK and changes
nothing else. Otherwise it changes nothing. (03_start_and_reel.md R50, 03_start_and_reel.md R74, 03_start_and_reel.md
R75, 03_start_and_reel.md R76, 16_spotlight.md R420) -/
def Obligations.TickZeroIsScheduledAndStarts : Prop :=
  (∀ (peer : Bool) (s : State),
    (inState s .armed = true → powerFailing s = false → startReady s = true → s.dev.tickZeroAt = none → s.spot.joining = false →
      (pairReel s = false ∨ (flag s F.SPOT.INTERLOCK_GRANT = true ∧ peer = false) →
        ∃ t z, Machine.exec (.startConditionMet peer) s = .next t ∧ t.dev.tickZeroAt = some z ∧ z % 125000 = 0 ∧
          nowNs s 1 + 250000 ≤ z ∧ z < nowNs s 1 + 375000 ∧ t.dev.startMetAt = nowNs s 1 ∧ OnlyParts [.regs, .dev] s t ∧
          OnlyFields [F.SPOT.INTERLOCK_PEER_ON_AIR] s t ∧ t.dev.state = .armed) ∧
      (pairReel s = true → flag s F.SPOT.INTERLOCK_GRANT = false → peer = true →
        ∃ t, Machine.exec (.startConditionMet peer) s = .next t ∧ t.spot.joining = true ∧ t.dev = s.dev ∧
          (t.spot.sentJoin.map JoinRequest.reelHash) = some s.dev.reelHash) ∧
      (pairReel s = true → flag s F.SPOT.INTERLOCK_GRANT = peer →
        ∃ t, Machine.exec (.startConditionMet peer) s = .next t ∧ OnlyParts [.regs] s t ∧
          OnlyFields [F.SPOT.INTERLOCK_PEER_ON_AIR] s t)) ∧
    (inState s .armed = false ∨ powerFailing s = true ∨ startReady s = false ∨ s.dev.tickZeroAt ≠ none ∨ s.spot.joining = true →
      Machine.exec (.startConditionMet peer) s = .next s)) ∧
  (∀ s : State,
    (∀ z, inState s .armed = true → powerFailing s = false → s.dev.tickZeroAt = some z → z ≤ nowNs s 1 →
      ∃ t, Machine.exec .goLive s = .next t ∧ t.dev.state = .live ∧ t.tick.number = 0 ∧ t.dev.tickZeroAt = none ∧
        t.tick.curtainDone = false ∧ t.cfg = s.cfg) ∧
    (∀ z, s.dev.tickZeroAt = some z → nowNs s 1 < z → Machine.exec .goLive s = .next s) ∧
    (inState s .armed = false ∨ powerFailing s = true ∨ s.dev.tickZeroAt = none → Machine.exec .goLive s = .next s) ∧
    (inState s .armed = true → s.cfg.start.timePolicy ≠ 0 → s.dev.lockWaited = false → lockDomainLocked s = false →
      s.dev.armedAt + s.cfg.start.lockWaitS * 1000000000 ≤ nowNs s 1 →
      ∃ t, Machine.exec .lockWaitExpired s = .next t ∧ t.dev = { s.dev with lockWaited := true } ∧
        OnlyParts (if s.cfg.start.timePolicy = 1 then [.dev, .cont] else [.dev]) s t) ∧
    (inState s .armed = false ∨ s.cfg.start.timePolicy = 0 ∨ s.dev.lockWaited = true ∨ lockDomainLocked s = true ∨
      nowNs s 1 < s.dev.armedAt + s.cfg.start.lockWaitS * 1000000000 → Machine.exec .lockWaitExpired s = .next s))

/-- An admitted GO by an OPERATOR in ARMED under START_MODE HOST with the time condition met is accepted once. An admitted
RESTART by an ENGINEER, where it is legal outside LIVE or in a BOOT that has halted, and an admitted MAINTENANCE by an
ENGINEER or a SECURITY_OFFICER where it is legal outside LIVE, enter BOOT with no Reel in force, the Splice log kept,
and MAINTENANCE requested by the second alone; while partial metering windows are still to be closed the restart waits
for them, and while the reference is lost it waits for its return. An admitted DISCARD_SPLICE_LOG by an ENGINEER in
MAINTENANCE empties the Splice log and binds it to no Reel. (03_start_and_reel.md R78, 03_start_and_reel.md R79,
03_start_and_reel.md R80) -/
def Obligations.StartCommands : Prop :=
  ∀ (c : Caller) (a0 : Nat) (s : State), WellKept s →
    (Admitted c [roleOperator] s → inState s .armed = true → s.cfg.start.startMode = 1 → timeMet s = true → s.dev.goAccepted = false →
      ∃ t, Machine.exec (.go c a0) s = .next t ∧ t.dev = { s.dev with goAccepted := true } ∧
        getF t F.TXN.CMD_RESULT_RESULT = resOk ∧ getF t F.TXN.CMD_RESULT_OPCODE = 0x10 ∧ OnlyParts [.regs, .dev, .sec] s t) ∧
    (Admitted c [roleEngineer] s → restartLegal s = true ∨ (inState s .boot = true ∧ flag s F.DEV.STATE_BOOT_HALTED = true) →
      inState s .live = false →
      (s.dev.referenceLost = false → windowsOpen s = false → ∃ t, Machine.exec (.restart c a0) s = .next t ∧ t.dev.state = .boot ∧
        t.cfg = {} ∧ t.txn.log = s.txn.log ∧ t.dev.maintenanceRequested = false ∧ t.pending = s.pending) ∧
      (s.dev.referenceLost = false → windowsOpen s = true → ∃ t, Machine.exec (.restart c a0) s = .next t ∧
        t.dev = { s.dev with flushing := some false }) ∧
      (s.dev.referenceLost = true → ∃ t, Machine.exec (.restart c a0) s = .next t ∧
        t.dev = { s.dev with restartWaits := some false })) ∧
    (Admitted c [roleEngineer, roleSecurity] s → restartLegal s = true → inState s .live = false →
      (s.dev.referenceLost = false → windowsOpen s = false → ∃ t, Machine.exec (.maintenance c a0) s = .next t ∧ t.dev.state = .boot ∧
        t.cfg = {} ∧ t.txn.log = s.txn.log ∧ t.dev.maintenanceRequested = true ∧ t.pending = s.pending) ∧
      (s.dev.referenceLost = false → windowsOpen s = true → ∃ t, Machine.exec (.maintenance c a0) s = .next t ∧
        t.dev = { s.dev with flushing := some true }) ∧
      (s.dev.referenceLost = true → ∃ t, Machine.exec (.maintenance c a0) s = .next t ∧
        t.dev = { s.dev with restartWaits := some true })) ∧
    (Admitted c [roleEngineer] s → inState s .maintenance = true →
      ∃ t, Machine.exec (.discardSpliceLog c a0) s = .next t ∧ t.txn.log = [] ∧ logHash t = List.replicate 12 0 ∧
        getF t F.TXN.CMD_RESULT_RESULT = resOk ∧ OnlyParts [.regs, .txn, .cont, .sec, .log] s t)

/-- In LIVE with ticks running and the Curtain fallen, TICK_START at crossing n completes and ends a tick of n CLK_CORE
cycles, limited to 62,484 to 62,516: TICK.NUMBER goes up by one, the new tick is at cycle 0 with its Curtain ahead,
and the Reel in force stays; where its reads find no uncorrectable error the device state and the Splice log stay too.
Otherwise it changes nothing. With ticks running, the Curtain still to fall and PD2 on, CURTAIN completes: the Curtain
has fallen, TICK.NUMBER, the Reel in force and the billing registers stay, and where the device is still LIVE
afterwards every entry left in staging and every result still to come is due at a later tick. A second CURTAIN in one
tick changes nothing. Register writes held in the Curtain's own cycle act after it, in order, and those of this clause
alone may change more. (02_tick_and_curtain.md R25, 02_tick_and_curtain.md R26, 02_tick_and_curtain.md R29,
02_tick_and_curtain.md R38, 02_tick_and_curtain.md R39) -/
def Obligations.TicksStartAndCurtainsFall : Prop :=
  (∀ (n : Nat) (ue : List ReadError) (s : State),
    (ticksRun s = true → s.tick.curtainDone = true →
      ∃ t, Machine.exec (.tickStart n ue) s = .next t ∧ t.tick.number = s.tick.number + 1 ∧ t.tick.cycle = 0 ∧
        t.tick.curtainDone = false ∧ t.cfg = s.cfg ∧
        (62484 ≤ n → n ≤ 62516 → t.tick.startNs = (s.tick.startNs + 62500) / 125000 * 125000 + 125000) ∧
        (ue = [] → t.dev = s.dev ∧ t.txn.log = s.txn.log)) ∧
    (ticksRun s = false ∨ s.tick.curtainDone = false → Machine.exec (.tickStart n ue) s = .next s)) ∧
  (∀ s : State, s.host.afterCurtain = [] →
    (ticksRun s = true → s.tick.curtainDone = false → domainOn s 2 = true →
      ∃ t, Machine.exec .curtain s = .next t ∧ t.tick.number = s.tick.number ∧ t.cfg = s.cfg ∧ t.bat.accum = s.bat.accum ∧
        t.tick.curtainDone = true ∧
        (t.dev.state = .live → (∀ e ∈ t.tick.staging, s.tick.number < e.due) ∧ (∀ e ∈ t.tick.outbox, s.tick.number < e.due))) ∧
    (ticksRun s = false ∨ s.tick.curtainDone = true ∨ domainOn s 2 = false → Machine.exec .curtain s = .next s)) ∧
  (∀ s : State, Machine.exec .curtain s = .next
    (s.host.afterCurtain.foldl (fun x w => registerWrite w x) { curtainFalls s with host := { (curtainFalls s).host with afterCurtain := [] } }))

/-- With ticks running and a result of unit u formed: STAGING_POST takes the oldest one out of the unit's hands; where the
unit is not FAULTED, its Curtain is ahead and the unit has fewer entries for that Curtain than it may have, the entry
stands in staging with the arrival cycle, and what was there stays. (02_tick_and_curtain.md R37,
02_tick_and_curtain.md R41, 02_tick_and_curtain.md R43) -/
def Obligations.StagingPostReachesTheCollector : Prop :=
  (∀ (u n : Nat) (s : State), ticksRun s = true → ∀ e, s.tick.outbox.find? (fun x => x.unit == u) = some e →
    ∃ t, Machine.exec (.stagingPost u n) s = .next t ∧ t.tick.outbox = s.tick.outbox.erase e ∧
      (bitF s F.TICK.FAULTED u = false → curtainAhead (elapseTo n s) e.due = true →
        s.tick.staging.countP (fun x => x.unit == u && x.due == e.due) < min 64 (unitEntry s u).maxEntries →
        { e with arrival := max n s.tick.cycle, arrivalTick := s.tick.number } ∈ t.tick.staging ∧
          (∀ x ∈ s.tick.staging, x ∈ t.tick.staging)) ∧
      (bitF s F.TICK.FAULTED u = true → t.tick.staging = s.tick.staging))

/-- An admitted CLEAR_COUNTS by an ENGINEER while STATUS.RUNNING is 1 sets the count of the named present unit, or of
every unit for 0xFF, to 0 and changes no other register but the result and the idle time of its session: RUN, FAULTED
and HEALTH stay. While STATUS.RUNNING is 0 the result is ILLEGAL_IN_STATE whatever the argument, and no count changes.
A unit that the variant lacks gives UNIT_ABSENT, and 24 to 0xFE gives BAD_ARGUMENT. (02_tick_and_curtain.md R47) -/
def Obligations.ClearCountsClearsTheOverrunCounts : Prop :=
  ∀ (c : Caller) (u : Nat) (s : State), WellKept s → Admitted c [roleEngineer] s →
    let result := fun (t : State) => getF t F.TICK.CMD_RESULT_RESULT
    let shown := F.TICK.CMD_RESULT_OPCODE :: F.TICK.CMD_RESULT_RESULT :: (List.range 8).map F.SEC.SES_IDLE
    (flag s F.TICK.STATUS_RUNNING = true →
      (u < 24 → present s u = true → ∃ t, Machine.exec (.clearCounts c u) s = .next t ∧ getF t (F.TICK.UNIT_OVERRUN_COUNT u) = 0 ∧
        result t = resOk ∧ OnlyParts [.regs, .sec] s t ∧ OnlyFields (F.TICK.UNIT_OVERRUN_COUNT u :: shown) s t) ∧
      (u = 0xFF → ∃ t, Machine.exec (.clearCounts c u) s = .next t ∧ (∀ k, k < 24 → getF t (F.TICK.UNIT_OVERRUN_COUNT k) = 0) ∧
        result t = resOk ∧ OnlyParts [.regs, .sec] s t ∧
        OnlyFields ((List.range 24).map F.TICK.UNIT_OVERRUN_COUNT ++ shown) s t) ∧
      (u < 24 → present s u = false → ∃ t, Machine.exec (.clearCounts c u) s = .next t ∧ result t = resUnitAbsent ∧
        OnlyParts [.regs, .sec, .cont] s t ∧ OnlyFields shown s t) ∧
      (24 ≤ u → u ≤ 0xFE → ∃ t, Machine.exec (.clearCounts c u) s = .next t ∧ result t = resBadArgument ∧
        OnlyParts [.regs, .sec, .cont] s t ∧ OnlyFields shown s t)) ∧
    (flag s F.TICK.STATUS_RUNNING = false → ∃ t, Machine.exec (.clearCounts c u) s = .next t ∧ result t = resIllegal ∧
      OnlyParts [.regs, .sec, .cont] s t ∧ OnlyFields shown s t)

/-- Wherever a task stands at a bit, stack, selection or jump instruction while its window has a slot left, the
instruction completes at the cycle at which it issues, in one slot: NOP leaves BA; LD, LDN, AND, ANDN, OR, ORN and XOR
give BA from BA and the operand bit; ST, STN, SET and RST store to the point or flag, the latter two only if BA; LDQ
loads a quality bit of the point; NOT and TRUE set BA; PUSH pushes BA; READ, POP, ANDP and ORP take the top of the
branch stack, the last three removing it; SEL loads WA with the operand if BA; JMP, JMPT (if BA) and JMPF (if not BA)
go on at their own address plus OFFSET, and else at the next address. Nothing but the scan changes, and the time that
passes. Where the instruction reads an uncorrectable error the scan is aborted, no item changes, and CAR is to become
FAULTED at the Curtain. (10_carousel.md R241, 10_carousel.md R242, 10_carousel.md R244, 10_carousel.md R248,
10_carousel.md R249, 10_carousel.md R250, 10_carousel.md R252) -/
def Obligations.CarouselBitsStackAndJumps : Prop :=
  (∀ t : Nat,
    CarDoes (.carNop t) t 0x00 1 (fun _ _ x => x) ∧
    CarDoes (.carLd t) t 0x01 1 (fun _ w x => { x with ba := bitOperand x w }) ∧
    CarDoes (.carLdn t) t 0x02 1 (fun _ w x => { x with ba := !bitOperand x w }) ∧
    CarDoes (.carAnd t) t 0x03 1 (fun _ w x => { x with ba := x.ba && bitOperand x w }) ∧
    CarDoes (.carAndn t) t 0x04 1 (fun _ w x => { x with ba := x.ba && !bitOperand x w }) ∧
    CarDoes (.carOr t) t 0x05 1 (fun _ w x => { x with ba := x.ba || bitOperand x w }) ∧
    CarDoes (.carOrn t) t 0x06 1 (fun _ w x => { x with ba := x.ba || !bitOperand x w }) ∧
    CarDoes (.carXor t) t 0x07 1 (fun _ w x => { x with ba := x.ba != bitOperand x w }) ∧
    CarDoes (.carSt t) t 0x08 1 (fun _ w x => storeBit w x.ba x) ∧
    CarDoes (.carStn t) t 0x09 1 (fun _ w x => storeBit w (!x.ba) x) ∧
    CarDoes (.carSet t) t 0x0A 1 (fun _ w x => if x.ba then storeBit w true x else x) ∧
    CarDoes (.carRst t) t 0x0B 1 (fun _ w x => if x.ba then storeBit w false x else x) ∧
    CarDoes (.carLdq t) t 0x0C 1 (fun _ w x => { x with ba := (seePoint x (carIndex w)).quality / 2 ^ carQbit w % 2 == 1 }) ∧
    CarDoes (.carNot t) t 0x0D 1 (fun _ _ x => { x with ba := !x.ba }) ∧
    CarDoes (.carTrue t) t 0x0E 1 (fun _ _ x => { x with ba := true })) ∧
  (∀ t : Nat,
    CarDoes (.carPush t) t 0x10 1 (fun _ _ x => { x with stack := x.ba :: x.stack }) ∧
    CarDoes (.carRead t) t 0x11 1 (fun _ _ x => { x with ba := x.stack.headD false }) ∧
    CarDoes (.carPop t) t 0x12 1 (fun _ _ x => { x with ba := x.stack.headD false, stack := x.stack.tail }) ∧
    CarDoes (.carAndp t) t 0x13 1 (fun _ _ x => { x with ba := x.ba && x.stack.headD false, stack := x.stack.tail }) ∧
    CarDoes (.carOrp t) t 0x14 1 (fun _ _ x => { x with ba := x.ba || x.stack.headD false, stack := x.stack.tail }) ∧
    CarDoes (.carSel t) t 0x36 1 (fun s w x => if x.ba then { x with wa := wordOperand s x w } else x) ∧
    CarDoes (.carJmp t) t 0x38 1 (fun _ w x => { x with addr := x.addr - 1 + carIndex w }) ∧
    CarDoes (.carJmpt t) t 0x39 1 (fun _ w x => if x.ba then { x with addr := x.addr - 1 + carIndex w } else x) ∧
    CarDoes (.carJmpf t) t 0x3A 1 (fun _ w x => if x.ba then x else { x with addr := x.addr - 1 + carIndex w }))

/-- Wherever a task stands at one of these while its window has a slot left, the instruction completes in one slot. RTRIG
gives BA and not PREV, FTRIG gives PREV and not BA, and both keep BA as it entered. TON counts the task's period while
IN and gives Q from PRESET on; TOF holds Q for PRESET after IN falls; TP gives a pulse of PRESET from a rising IN; all
saturate and give BA := Q. CNT counts a rising BA up or down, saturated to int32, and gives BA := Q; CRST, if BA,
loads 0 or PV. Q of a counter is CV at or above PV, or CV at or below 0 for a down counter. Nothing but the scan
changes, and the time that passes; where it reads an uncorrectable error the scan is aborted. (10_carousel.md R253,
10_carousel.md R254, 10_carousel.md R255, 10_carousel.md R262) -/
def Obligations.CarouselTimersCountersEdges : Prop :=
  ∀ t : Nat,
    CarDoes (.carRtrig t) t 0x18 1 (fun _ w x =>
      { x with ba := x.ba && !seeEdge x (carIndex w), writes := { x.writes with edges := tablePut none x.writes.edges (carIndex w) (some x.ba) } }) ∧
    CarDoes (.carFtrig t) t 0x19 1 (fun _ w x =>
      { x with ba := seeEdge x (carIndex w) && !x.ba, writes := { x.writes with edges := tablePut none x.writes.edges (carIndex w) (some x.ba) } }) ∧
    CarDoes (.carTon t) t 0x1A 1 (fun s w x =>
      let y := seeTimer x (carIndex w)
      let e := if x.ba then min (y.elapsed + periodOf s t) 0xFFFFFFFF else 0
      finishTimer (carIndex w) { y with elapsed := e, q := x.ba && decide (presetOf s x (carIndex w) ≤ e), lastIn := x.ba } x) ∧
    CarDoes (.carTof t) t 0x1B 1 (fun s w x =>
      let y := seeTimer x (carIndex w)
      let e := min (y.elapsed + periodOf s t) 0xFFFFFFFF
      finishTimer (carIndex w) (if x.ba then { y with elapsed := 0, q := true, lastIn := true }
        else if y.q then { y with elapsed := e, q := decide (e < presetOf s x (carIndex w)), lastIn := false }
        else { y with lastIn := false }) x) ∧
    CarDoes (.carTp t) t 0x1C 1 (fun s w x =>
      let y := seeTimer x (carIndex w)
      let start := x.ba && !y.running && !y.lastIn
      let e0 := if start then 0 else y.elapsed
      let e := if y.running || start then min (e0 + periodOf s t) 0xFFFFFFFF else e0
      let run := (y.running || start) && decide (e < presetOf s x (carIndex w))
      finishTimer (carIndex w) { elapsed := e, q := run, running := run, lastIn := x.ba } x) ∧
    CarDoes (.carCnt t) t 0x1D 1 (fun s w x =>
      let down := ((logicSec s).counters.getD (carIndex w) {}).down
      let y := seeCounter x (carIndex w)
      let cv := if x.ba && !y.lastIn then clampI32 (if down then y.cv - 1 else y.cv + 1) else y.cv
      let q := if down then decide (cv ≤ 0) else decide (pvOf s x (carIndex w) ≤ cv)
      storeCounter (carIndex w) { cv := cv, q := q, lastIn := x.ba } { x with ba := q }) ∧
    CarDoes (.carCrst t) t 0x1E 1 (fun s w x =>
      let down := ((logicSec s).counters.getD (carIndex w) {}).down
      let cv := if down then pvOf s x (carIndex w) else 0
      if x.ba then storeCounter (carIndex w) { seeCounter x (carIndex w) with
        cv := cv, q := if down then decide (cv ≤ 0) else decide (pvOf s x (carIndex w) ≤ cv) } x else x)

/-- Wherever a task stands at one of these while its window has a slot left, the instruction completes. LDW loads WA with
the operand word and STW stores WA; ADDI, SUBI and MULI compute exactly and saturate to int32, the last in two slots;
ANDW and ORW act on each bit; EQI, EQW, LTI and GTI set BA from WA and the operand, the last two signed; ITOF converts
WA to binary32 in two slots; ADDF, SUBF, MULF, MINF and MAXF each take two slots with WA the result. MINF and MAXF of
a NaN are the quiet NaN 0x7FC00000, and of two zeros of either sign they give -0 and +0. LTF and GTF set BA, false
where either operand is a NaN. Nothing but the scan changes, and the time that passes; where it reads an uncorrectable
error the scan is aborted. (10_carousel.md R249, 10_carousel.md R250, 10_carousel.md R251) -/
def Obligations.CarouselWordAndFloatArithmetic : Prop :=
  (∀ t : Nat,
    CarDoes (.carLdw t) t 0x20 1 (fun s w x => { x with wa := wordOperand s x w }) ∧
    CarDoes (.carStw t) t 0x21 1 (fun _ w x => storeWord w x.wa x) ∧
    CarDoes (.carAddi t) t 0x22 1 (fun s w x => { x with wa := .ofInt 32 (max (-2147483648) (min 2147483647 (x.wa.toInt + (wordOperand s x w).toInt))) }) ∧
    CarDoes (.carSubi t) t 0x23 1 (fun s w x => { x with wa := .ofInt 32 (max (-2147483648) (min 2147483647 (x.wa.toInt - (wordOperand s x w).toInt))) }) ∧
    CarDoes (.carMuli t) t 0x24 2 (fun s w x => { x with wa := .ofInt 32 (max (-2147483648) (min 2147483647 (x.wa.toInt * (wordOperand s x w).toInt))) }) ∧
    CarDoes (.carAndw t) t 0x26 1 (fun s w x => { x with wa := x.wa &&& wordOperand s x w }) ∧
    CarDoes (.carOrw t) t 0x27 1 (fun s w x => { x with wa := x.wa ||| wordOperand s x w }) ∧
    CarDoes (.carItof t) t 0x2E 2 (fun _ _ x => { x with wa := f32OfInt x.wa.toInt }) ∧
    CarDoes (.carEqi t) t 0x30 1 (fun s w x => { x with ba := decide (x.wa.toInt = (wordOperand s x w).toInt) }) ∧
    CarDoes (.carLti t) t 0x31 1 (fun s w x => { x with ba := decide (x.wa.toInt < (wordOperand s x w).toInt) }) ∧
    CarDoes (.carGti t) t 0x32 1 (fun s w x => { x with ba := decide ((wordOperand s x w).toInt < x.wa.toInt) }) ∧
    CarDoes (.carEqw t) t 0x35 1 (fun s w x => { x with ba := decide (x.wa = wordOperand s x w) })) ∧
  ((∀ t : Nat,
    CarDoes (.carAddf t) t 0x28 2 (fun s w x => { x with wa := f32Add x.wa (wordOperand s x w) }) ∧
    CarDoes (.carSubf t) t 0x29 2 (fun s w x => { x with wa := f32Sub x.wa (wordOperand s x w) }) ∧
    CarDoes (.carMulf t) t 0x2A 2 (fun s w x => { x with wa := f32Mul x.wa (wordOperand s x w) }) ∧
    CarDoes (.carMinf t) t 0x2C 2 (fun s w x => { x with wa := carMin x.wa (wordOperand s x w) }) ∧
    CarDoes (.carMaxf t) t 0x2D 2 (fun s w x => { x with wa := carMax x.wa (wordOperand s x w) }) ∧
    CarDoes (.carLtf t) t 0x33 1 (fun s w x => { x with ba := f32Lt x.wa (wordOperand s x w) }) ∧
    CarDoes (.carGtf t) t 0x34 1 (fun s w x => { x with ba := f32Lt (wordOperand s x w) x.wa })) ∧
  (∀ a b : F32, (f32Nan a = true ∨ f32Nan b = true →
      carMin a b = 0x7FC00000 ∧ carMax a b = 0x7FC00000 ∧ f32Lt a b = false) ∧
    (f32Nan a = false → carMin a a = a ∧ carMax a a = a ∧ f32Lt a a = false)) ∧
  carMin 0 0x80000000 = 0x80000000 ∧ carMax 0 0x80000000 = 0)

/-- Wherever a task stands at DIVI, DIVF or FTOI while its window has a slot left, the instruction completes. DIVI by 0
gives 0, and any other quotient truncates toward 0 and saturates; DIVI takes 16 slots, DIVF 16 and FTOI 2. FTOI of a
NaN gives 0. DIVI by 0, a DIVF of finite operands without a finite quotient, and an FTOI of a NaN or of a value
outside int32 set STATUS.ARITH and count ARITH_COUNT up; otherwise no register changes. Where it reads an
uncorrectable error the scan is aborted. (10_carousel.md R250, 10_carousel.md R251) -/
def Obligations.CarouselArithmeticEvents : Prop :=
  ∀ (t : Nat) (k : WorkEntry) (x : Scan) (w : Word) (s : State),
    let event := fun (u : State) => flag u F.CAR.STATUS_ARITH = true ∧
      getF u F.CAR.ARITH_COUNT = min (getF s F.CAR.ARITH_COUNT + 1) 0xFFFFFFFF ∧ OnlyParts [.regs, .car, .tick, .clap, .cont] s u
    let quiet := fun (u : State) => OnlyParts [.car, .tick, .clap] s u
    WellKept s →
    (CarAt t 0x25 k x w s → ∃ u, Machine.exec (.carDivi t none) s = .next u ∧
      scanOf u t = some { takeSlots s t k.slice 16 x with
        wa := if wordOperand s x w = 0 then 0 else .ofInt 32 (clampI32 (x.wa.toInt.tdiv (wordOperand s x w).toInt)) } ∧
      (wordOperand s x w = 0 → event u) ∧ (wordOperand s x w ≠ 0 → quiet u)) ∧
    (CarAt t 0x2B k x w s → ∃ u, Machine.exec (.carDivf t none) s = .next u ∧
      scanOf u t = some { takeSlots s t k.slice 16 x with wa := f32Div x.wa (wordOperand s x w) } ∧
      (f32Finite x.wa = true → f32Finite (wordOperand s x w) = true → f32Finite (f32Div x.wa (wordOperand s x w)) = false → event u) ∧
      (f32Finite (f32Div x.wa (wordOperand s x w)) = true ∨ f32Finite x.wa = false ∨ f32Finite (wordOperand s x w) = false → quiet u)) ∧
    (CarAt t 0x2F k x w s → ∃ u, Machine.exec (.carFtoi t none) s = .next u ∧
      scanOf u t = some { takeSlots s t k.slice 2 x with wa := .ofInt 32 (clampI32 (carRound x.wa)) } ∧
      (f32Nan x.wa = true ∨ carRound x.wa < -2147483648 ∨ 2147483647 < carRound x.wa → event u) ∧
      (f32Nan x.wa = false → -2147483648 ≤ carRound x.wa → carRound x.wa ≤ 2147483647 → quiet u)) ∧
    CarReadsError (fun addr => .carDivi t (some addr)) t 0x25 ∧ CarReadsError (fun addr => .carDivf t (some addr)) t 0x2B ∧
    CarReadsError (fun addr => .carFtoi t (some addr)) t 0x2F

/-- At END, with a slot of its window left, the instruction completes: the scan ends, TASK_STATE shows SCANNING 0, DEPTH 0
and the task's first address, and the unit's result for the Curtain of tick S + PERIOD - 1 with the scan's stores
waits for its post; nothing else changes but the time that passes. Where it reads an uncorrectable error the scan is
aborted. A command of any of the instructions changes nothing for a task that has no scan or no work entry, has ended
its scan, finds no slot left in its window of the present tick, or stands at another opcode, and while CAR does not
scan. (10_carousel.md R241, 10_carousel.md R242, 10_carousel.md R246, 10_carousel.md R247, 10_carousel.md R266) -/
def Obligations.CarouselEndAndWindows : Prop :=
  (∀ (t : Nat) (k : WorkEntry) (x : Scan) (w : Word) (s : State), CarAt t 0x3B k x w s →
    ∃ u, Machine.exec (.carEnd t none) s = .next u ∧ scanOf u t = some { takeSlots s t k.slice 1 x with ended := true } ∧
      u.tick.outbox = s.tick.outbox ++ [scanEntry s t x] ∧ (scanEntry s t x).due = x.start + periodOf s t - 1 ∧
      taskShown u t = (0, 0, (logicTask s t).first) ∧ OnlyParts [.car, .tick, .clap] s u) ∧
  (∀ t : Nat, CarReadsError (fun addr => .carEnd t (some addr)) t 0x3B) ∧
  (∀ (t : Nat) (ue : Option Nat) (s : State),
    scanOf s t = none ∨ taskWork s t = none ∨ carRuns s = false ∨
      (∃ x, scanOf s t = some x ∧ (x.ended = true ∨ ∃ k, taskWork s t = some k ∧ windowOpen s t k.slice x = false)) →
    ∀ i ∈ carInstructions t ue, Machine.exec i.2 s = .next s) ∧
  (∀ (t : Nat) (ue : Option Nat) (x : Scan) (w : Word) (s : State), scanOf s t = some x → (logicSec s).instrs[x.addr]? = some w →
    ∀ i ∈ carInstructions t ue, carOpcode w ≠ i.1 → Machine.exec i.2 s = .next s)

/-- Outside OFF and with no sequence in progress, both inputs below 16 V start the sequence: POWER_FAIL_COUNT counts up,
STATUS.POWER_FAIL is set, no tick 0 is scheduled any more and every command is refused from then on. Each due step
switches off its group: PD13; PD4 to PD8; PD12 and PD14; PD9 to PD11. After the four and both flushes POWER_FAIL_OFF
leaves OFF with PD0 alone on; HOLD_UP_EXHAUSTED does so at once. With no sequence in progress neither changes
anything. (01_architecture.md R17, 21_connectors_and_ratings.md R521, 21_connectors_and_ratings.md R522) -/
def Obligations.PowerFailSequenceShedsTheDomains : Prop :=
  (∀ (aMv bMv mw : Nat) (s : State), WellKept s → inState s .off = false → s.pwr.failStep = 0 → max aMv bMv < 16000 →
    ∃ t, Machine.exec (.powerFailStarted aMv bMv mw) s = .next t ∧ t.pwr.failStep = 1 ∧ powerFailing t = true ∧
      t.pwr.failTick = some (s.tick.number + 1) ∧ flag t F.PWR.STATUS_POWER_FAIL = true ∧
      getF t F.PWR.POWER_FAIL_COUNT = min (getF s F.PWR.POWER_FAIL_COUNT + 1) 0xFFFFFFFF ∧ t.dev = { s.dev with tickZeroAt := none } ∧ OnlyParts [.regs, .dev, .cont, .host, .pwr] s t) ∧
  (∀ s : State, WellKept s → shedDue s = true → ∃ t, Machine.exec .powerFailShed s = .next t ∧ t.pwr.failStep = s.pwr.failStep + 1 ∧
    t.dev = s.dev ∧ t.cfg = s.cfg ∧ t.txn = s.txn ∧
    (s.pwr.failStep = 1 → domainOn t 13 = false) ∧
    (s.pwr.failStep = 2 → ∀ d, 4 ≤ d → d ≤ 8 → domainOn t d = false) ∧
    (s.pwr.failStep = 3 → domainOn t 12 = false ∧ domainOn t 14 = false) ∧
    (s.pwr.failStep = 4 → ∀ d, 9 ≤ d → d ≤ 11 → domainOn t d = false)) ∧
  (∀ s : State, WellKept s → s.pwr.failStep = 5 → s.pwr.flushedCont = true → s.pwr.flushedAccum = true →
    ∃ t, Machine.exec .powerFailOff s = .next t ∧ t.dev.state = .off ∧ getF t F.PWR.DOMAIN_STATE = 1 ∧ t.pending = s.pending) ∧
  (∀ s : State, WellKept s → powerFailing s = true →
    ∃ t, Machine.exec .holdUpExhausted s = .next t ∧ t.dev.state = .off ∧ getF t F.PWR.DOMAIN_STATE = 1 ∧ t.pending = s.pending) ∧
  (∀ s : State, powerFailing s = false → Machine.exec .holdUpExhausted s = .next s ∧ Machine.exec .powerFailOff s = .next s ∧
    Machine.exec .powerFailShed s = .next s)

/-- Outside OFF and outside the power-fail sequence, an input that falls below 16 V while the other is good shows as lost,
counts INPUT_LOST_COUNT up and is recorded. One that returns at 16 V or above shows as good and is recorded, and stays
disconnected only at 36 V or above. An input above 38 V is disconnected. Each touches no other part than it names.
(21_connectors_and_ratings.md R521, 21_connectors_and_ratings.md R534) -/
def Obligations.SupplyInputs : Prop :=
  ∀ (x mv : Nat) (s : State), WellKept s → x < 2 → inState s .off = false → present s 23 = true →
    (powerFailing s = false → mv < 16000 → s.pwr.inputGood[x]? = some true → s.pwr.inputGood[1 - x]? = some true →
      ∃ t, Machine.exec (.inputLost x mv) s = .next t ∧ t.pwr.inputGood[x]? = some false ∧ t.pwr.inputGood[1 - x]? = some true ∧
        getF t F.PWR.INPUT_LOST_COUNT = min (getF s F.PWR.INPUT_LOST_COUNT + 1) 0xFFFFFFFF ∧
        Records s t [(0x1701, payload s x mv 0)] ∧ OnlyParts [.regs, .cont, .host, .pwr] s t) ∧
    (16000 ≤ mv → s.pwr.inputGood[x]? = some false → x < s.pwr.disconnected.length →
      ∃ t, Machine.exec (.inputRestored x mv) s = .next t ∧ t.pwr.inputGood[x]? = some true ∧
        t.pwr.disconnected[x]? = some (s.pwr.disconnected.getD x false && decide (36000 ≤ mv)) ∧
        Records s t [(0x1702, payload s x mv 0)] ∧ OnlyParts [.regs, .cont, .host, .pwr] s t) ∧
    (38000 < mv → x < s.pwr.disconnected.length → ∃ t, Machine.exec (.inputOvervoltage x mv) s = .next t ∧
      t.pwr.disconnected[x]? = some true ∧ t.pwr.inputGood = s.pwr.inputGood ∧ OnlyParts [.regs, .pwr] s t ∧
      OnlyFields [F.PWR.SUPPLY_A_MV, F.PWR.SUPPLY_B_MV] s t)

/-- Outside OFF, PLL_UNLOCKED of a PLL 0 to 9 whose clock runs completes: the clock stops, and the present units it drives
have FAILED health until the next BOOT; for CLK_CORE (1) and CLK_TS (8) a LIVE device enters FAULT_SAFE, and for any
other the device state stays. PLL_RELOCKED of a stopped one completes: that clock alone runs again, no HEALTH of R19
is undone, and every crossing whose domains are on and whose clocks run has left its reset. A reference lost for more
than 20 microseconds releases ON_AIR and takes a LIVE device to FAULT_SAFE. REFERENCE_RETURNED completes: the device
stays where it is, and a restart that waited for the reference is made. (01_architecture.md R18, 01_architecture.md
R19, 17_memory_crossings_recovery.md R451) -/
def Obligations.ClocksAndReference : Prop :=
  (∀ (p : Nat) (s : State), p < 10 → inState s .off = false → clockRuns s p = true →
    ∃ t, Machine.exec (.pllUnlocked p) s = .next t ∧ clockRuns t p = false ∧
      (∀ u, u < 24 → present s u = true → unitClock u = p → t.dev.failedSticky / 2 ^ u % 2 = 1) ∧
      ((p = 1 ∨ p = 8) → inState s .live = true → t.dev.state = .faultSafe) ∧
      (p ≠ 1 → p ≠ 8 → t.dev.state = s.dev.state)) ∧
  (∀ (p : Nat) (s : State), p < 10 → inState s .off = false → clockRuns s p = false →
    ∃ t, Machine.exec (.pllRelocked p) s = .next t ∧ clockRuns t p = true ∧ (∀ q, q ≠ p → clockRuns t q = clockRuns s q) ∧
      (∀ g, g < 12 → crossingPowered t g = true → clockRuns t (groupClocks g).1 = true → clockRuns t (groupClocks g).2 = true →
        crossingReleased t g = true) ∧
      t.dev = s.dev ∧ OnlyParts [.regs, .pimg, .lio, .spot, .mem, .cont, .pwr] s t) ∧
  (∀ (us : Nat) (s : State), WellKept s → 20 < us → inState s .off = false → s.dev.referenceLost = false →
    ∃ t, Machine.exec (.referenceLost us) s = .next t ∧ t.dev.referenceLost = true ∧ flag t F.SPOT.INTERLOCK_ON_AIR = false ∧
      t.dev.state = (if inState s .live then .faultSafe else s.dev.state)) ∧
  (∀ s : State,
    (s.dev.restartWaits = none → Machine.exec .referenceReturned s = .next { s with dev := { s.dev with referenceLost := false } }) ∧
    (∀ m, s.dev.restartWaits = some m → powerFailing s = false → s.dev.flushing = none → inState s .live = false → windowsOpen s = false →
      ∃ t, Machine.exec .referenceReturned s = .next t ∧ t.dev.state = .boot ∧ t.dev.maintenanceRequested = m))

/-- Outside OFF, 75.0 degrees or more sets TEMP_HIGH and below 72.0 clears it; in LIVE 85.0 or more sets TEMP_FAILED; 95.0
or more starts the power-fail sequence. Each shows the reading in TEMPERATURE_BASE, keeps the peak in TEMPERATURE_PEAK
and records its event first. Below its threshold none changes anything. (21_connectors_and_ratings.md R528) -/
def Obligations.BaseTemperatureThresholds : Prop :=
  ∀ (k : Int) (s : State), WellKept s → -32768 ≤ k → k ≤ 32767 → present s 23 = true →
    let shown := fun (t : State) => toSigned 16 (getF t F.PWR.TEMPERATURE_BASE) = k ∧
      toSigned 16 (getF t F.PWR.TEMPERATURE_PEAK) = max k (toSigned 16 (getF s F.PWR.TEMPERATURE_PEAK))
    let word := if k < 0 then (k + 65536).toNat else k.toNat
    (inState s .off = false → 750 ≤ k → flag s F.PWR.STATUS_TEMP_HIGH = false →
      ∃ t, Machine.exec (.tempHigh k) s = .next t ∧ flag t F.PWR.STATUS_TEMP_HIGH = true ∧ shown t ∧
        Records s t [(0x1707, payload s word 0 0)] ∧ OnlyParts [.regs, .cont, .host] s t) ∧
    (inState s .off = false → k < 720 → flag s F.PWR.STATUS_TEMP_HIGH = true →
      ∃ t, Machine.exec (.tempNormal k) s = .next t ∧ flag t F.PWR.STATUS_TEMP_HIGH = false ∧ shown t ∧
        Records s t [(0x1708, payload s word 0 0)] ∧ OnlyParts [.regs, .cont, .host] s t) ∧
    (inState s .live = true → 850 ≤ k → flag s F.PWR.STATUS_TEMP_FAILED = false →
      ∃ t, Machine.exec (.tempFailed k) s = .next t ∧ flag t F.PWR.STATUS_TEMP_FAILED = true ∧ shown t ∧
        Records s t [(0x1709, payload s word 0 0)] ∧ OnlyParts [.regs, .cont, .host] s t) ∧
    (inState s .off = false → s.pwr.failStep = 0 → 950 ≤ k →
      ∃ t, Machine.exec (.thermalShutdown k) s = .next t ∧ powerFailing t = true ∧ shown t ∧
        (∃ l, Records s t ((0x170A, payload s word 0 0) :: (0x1703, payload s (max (getF s F.PWR.SUPPLY_A_MV) (getF s F.PWR.SUPPLY_B_MV))
            (getF s F.PWR.INPUT_POWER) 1) :: l)) ∧ OnlyParts [.regs, .dev, .cont, .host, .pwr] s t) ∧
    (k < 750 → Machine.exec (.tempHigh k) s = .next s) ∧ (720 ≤ k → Machine.exec (.tempNormal k) s = .next s) ∧
    (k < 850 → Machine.exec (.tempFailed k) s = .next s) ∧ (k < 950 → Machine.exec (.thermalShutdown k) s = .next s)

/-- An admitted OPEN in LIVE, not on a Stand-in, with a lifetime of at most 600 s, a TUNABLES section and a free slot: the
lowest free slot k becomes OPEN with no writes, owned by the caller's session, its generation counts up from 1 to
16,383 and round to 1, its handle is generation x 4 + k and is returned, and its expiry lies lifetime (or the default)
x 8,000 ticks ahead; the other slots stay. With no free slot the result is EXHAUSTED and every slot stays. An admitted
CUT of an OPEN Take of the caller frees its slot, applies and logs nothing and is recorded. STAGE, COMMIT and CUT of a
COMMITTING or COMMITTED Take of the caller are ILLEGAL_IN_STATE and leave every Take and every value in force.
(04_takes.md R89) -/
def Obligations.OpenAndCut : Prop :=
  ∀ (c : Caller) (s : State), WellKept s → Admitted c takeRoles s → takesLegal s = true → present s 2 = true →
    (∀ (life k : Nat) (tn : TunablesSec), flag s F.SPOT.STATUS_PROGRAM_EXCHANGE = false → life ≤ 600 → s.cfg.tunables = some tn →
      (slotsIn s slotFree).head? = some k →
      ∃ t, Machine.exec (.open_ c life) s = .next t ∧ slotState t k = slotOpen ∧ (takeSlot t k).writes = [] ∧
        (takeSlot t k).gen = (if 16383 ≤ (takeSlot s k).gen then 1 else (takeSlot s k).gen + 1) ∧
        handleOf t k = (takeSlot t k).gen * 4 + k ∧ getF t F.TXN.CMD_RETURN = handleOf t k ∧
        (takeSlot t k).owner = callerSlot s c ∧
        (takeSlot t k).expiry = s.tick.number + (if life = 0 then tn.defaultLifetime else life) * 8000 ∧
        (∀ j, j < 4 → j ≠ k → takeSlot t j = takeSlot s j ∧ slotState t j = slotState s j) ∧
        getF t F.TXN.CMD_RESULT_RESULT = resOk ∧ OnlyParts [.regs, .txn, .cont, .sec] s t ∧ t.txn.log = s.txn.log) ∧
    (∀ (life : Nat), flag s F.SPOT.STATUS_PROGRAM_EXCHANGE = false → life ≤ 600 → slotsIn s slotFree = [] →
      ∃ t, Machine.exec (.open_ c life) s = .next t ∧ getF t F.TXN.CMD_RESULT_RESULT = resExhausted ∧ t.txn = s.txn ∧
        ∀ j, j < 4 → slotState t j = slotState s j) ∧
    (∀ (h k : Nat), openTake s c h = .ok k →
      ∃ t, Machine.exec (.cut c h) s = .next t ∧ slotState t k = slotFree ∧ (takeSlot t k).writes = [] ∧ t.txn.log = s.txn.log ∧
        t.txn.values = s.txn.values ∧ Records s t [(0x020D, payload s (handleOf s k) 0 0)] ∧
        (∀ j, j < 4 → j ≠ k → takeSlot t j = takeSlot s j ∧ slotState t j = slotState s j) ∧ getF t F.TXN.CMD_RESULT_RESULT = resOk) ∧
    (∀ (h k : Nat), findHandle s h = .ok k → callerSlot s c ≠ none → (takeSlot s k).owner = callerSlot s c →
      slotState s k = slotCommitting ∨ slotState s k = slotCommitted →
      ∀ i, (∃ id v, i = .stage c h id v) ∨ i = .commit c h ∨ i = .cut c h →
      ∃ t, Machine.exec i s = .next t ∧ getF t F.TXN.CMD_RESULT_RESULT = resIllegal ∧ t.txn = s.txn ∧
        ∀ j, j < 4 → slotState t j = slotState s j)

/-- An admitted STAGE in LIVE, to an OPEN Take of the caller, of a tunable that is not METROLOGY, that its role may write,
with a value in range, claimed by no other Take and with room in the list: the Take's list holds the write, in place
of an earlier one for the same tunable, SLOT.WRITES and the return value give its length, and no value in force
changes. An OPERATOR's STAGE of an ENGINEERING tunable is NOT_AUTHORISED. For a METROLOGY tunable the result is
METROLOGY_LOCKED and every Take stays. READ_TUNABLE from ARMED, LIVE or FAULT_SAFE returns the value in force and
changes no Take. (04_takes.md R83) -/
def Obligations.StageAndReadTunable : Prop :=
  ∀ (c : Caller) (s : State), WellKept s →
    (∀ (h k id : Nat) (v : Word) (tn : Tunable), Admitted c takeRoles s → takesLegal s = true → openTake s c h = .ok k →
      tunableOf s id = some tn →
      (tn.cls ≠ 2 → (tn.cls = 1 → callerRole s c = some roleEngineer) → valueOk tn (tunableValue s tn) v = true →
        claimedElsewhere s k id = false → (takeSlot s k).writes.length < 4096 →
        ∃ t, Machine.exec (.stage c h id v) s = .next t ∧
          (takeSlot t k).writes = stageWrite { id := id, typ := tn.typ, value := v } (takeSlot s k).writes ∧
          getF t (F.TXN.SLOT_WRITES k) = (takeSlot t k).writes.length ∧ getF t F.TXN.CMD_RETURN = (takeSlot t k).writes.length ∧
          (∀ j, j ≠ k → takeSlot t j = takeSlot s j) ∧ (∀ j, j < 4 → slotState t j = slotState s j) ∧ t.txn.values = s.txn.values ∧
          t.txn.log = s.txn.log ∧ getF t F.TXN.CMD_RESULT_RESULT = resOk ∧ OnlyParts [.regs, .txn, .sec] s t) ∧
      (tn.cls = 1 → callerRole s c = some roleOperator → ∃ t, Machine.exec (.stage c h id v) s = .next t ∧
        getF t F.TXN.CMD_RESULT_RESULT = resNotAuthorised ∧ t.txn = s.txn ∧ OnlyParts [.regs, .cont, .sec] s t) ∧
      (tn.cls = 2 → ∃ t, Machine.exec (.stage c h id v) s = .next t ∧ getF t F.TXN.CMD_RESULT_RESULT = resMetrologyLocked ∧
        t.txn = s.txn ∧ OnlyParts [.regs, .cont, .sec] s t)) ∧
    (∀ (id : Nat) (tn : Tunable), Admitted c anyRole s → inState s .armed = true ∨ inState s .live = true ∨ inState s .faultSafe = true →
      tunableOf s id = some tn →
      ∃ t, Machine.exec (.readTunable c 0 id) s = .next t ∧ getF t F.TXN.CMD_RETURN = (tunableValue s tn).toNat ∧
        getF t F.TXN.CMD_RESULT_RESULT = resOk ∧ OnlyParts [.regs, .sec] s t)

/-- An admitted COMMIT in LIVE of an OPEN Take of the caller with at least one write, for which the Splice log has room:
the slot becomes COMMITTING with NEXT_TAKE_ID as its Take ID, NEXT_TAKE_ID counts up by one, the result is PENDING,
and nothing is logged or applied yet. With no write the result is BAD_ARGUMENT and every Take stays. TAKE_EXPIRED of a
slot that is OPEN at or past its expiry tick frees it and marks its handle expired; of any other slot it changes
nothing. (04_takes.md R88, 04_takes.md R90, 04_takes.md R93) -/
def Obligations.CommitTakesTheNextTakeId : Prop :=
  ∀ (s : State), WellKept s →
    (∀ (c : Caller) (h k : Nat), Admitted c takeRoles s → takesLegal s = true → openTake s c h = .ok k →
      ((takeSlot s k).writes ≠ [] → logTakesEntry s (takeSlot s k).writes.length = true → getF s F.TXN.NEXT_TAKE_ID < 0xFFFFFFFF →
        ∃ t, Machine.exec (.commit c h) s = .next t ∧ slotState t k = slotCommitting ∧
          getF t (F.TXN.SLOT_TAKE_ID k) = getF s F.TXN.NEXT_TAKE_ID ∧ getF t F.TXN.NEXT_TAKE_ID = getF s F.TXN.NEXT_TAKE_ID + 1 ∧
          t.txn.nextId = getF t F.TXN.NEXT_TAKE_ID ∧ (takeSlot t k).writes = (takeSlot s k).writes ∧ t.txn.log = s.txn.log ∧
          t.txn.values = s.txn.values ∧ getF t F.TXN.CMD_RESULT_RESULT = resPending ∧
          (∀ j, j < 4 → j ≠ k → takeSlot t j = takeSlot s j ∧ slotState t j = slotState s j) ∧ OnlyParts [.regs, .txn, .sec] s t) ∧
      ((takeSlot s k).writes = [] → ∃ t, Machine.exec (.commit c h) s = .next t ∧
        getF t F.TXN.CMD_RESULT_RESULT = resBadArgument ∧ t.txn = s.txn)) ∧
    (∀ k, k < 4 → (slotState s k = slotOpen ∧ (takeSlot s k).expiry ≤ s.tick.number →
        ∃ t, Machine.exec (.takeExpired k) s = .next t ∧ slotState t k = slotFree ∧ (takeSlot t k).expired = true ∧
          (takeSlot t k).writes = [] ∧ t.txn.log = s.txn.log ∧ ∀ j, j ≠ k → takeSlot t j = takeSlot s j) ∧
      (slotState s k ≠ slotOpen ∨ s.tick.number < (takeSlot s k).expiry → Machine.exec (.takeExpired k) s = .next s))

/-- With none in progress, WRITE_AHEAD_TURN starts the body of the COMMITTING Take with the lowest ID. TAKE_BODY_WRITTEN
within 50 ms goes on to the mirror where a Stand-in is paired, and else to the mark. TAKE_COMMITTED within 50 ms of
the mark's start appends the marked entry with the Take's writes to the Splice log and the slot becomes COMMITTED.
TAKE_VOIDED, 50 ms after the start of the body, frees the slot with TIMEOUT, and the entry it leaves is not marked. A
mark that fails with the entry durable on the Stand-in fails TXN instead. (04_takes.md R90, 04_takes.md R91,
04_takes.md R97, 04_takes.md R98) -/
def Obligations.WriteAheadCommitsOrVoids : Prop :=
  ∀ (s : State), WellKept s →
    (∀ k, s.txn.ahead = none → lowestTake s (slotsIn s slotCommitting) = some k →
      ∃ t, Machine.exec .writeAheadTurn s = .next t ∧ t.txn.ahead = some { slot := k, stage := 1, startedNs := stampNs s, mirrored := standInPaired s } ∧
        t.txn.log = s.txn.log ∧ OnlyParts [.txn] s t) ∧
    (∀ a, s.txn.ahead = some a → a.stage = 1 → stampNs s ≤ a.startedNs + 50000000 →
      ∃ t, Machine.exec .takeBodyWritten s = .next t ∧
        t.txn.ahead = some { a with stage := if standInPaired s then 2 else 3, startedNs := stampNs s } ∧
        t.txn.log = s.txn.log ∧ OnlyParts [.txn] s t) ∧
    (∀ a, s.txn.ahead = some a → a.slot < 4 → a.stage = 3 → stampNs s ≤ a.startedNs + 50000000 →
      ∃ t e, Machine.exec .takeCommitted s = .next t ∧ t.txn.log = s.txn.log ++ [e] ∧ e.mark = .marked ∧
        e.takeId = getF s (F.TXN.SLOT_TAKE_ID a.slot) ∧ e.writes = (takeSlot s a.slot).writes ∧ t.txn.ahead = none ∧
        slotState t a.slot = slotCommitted ∧ (takeSlot t a.slot).committedAt = s.clap.cycles ∧ t.txn.values = s.txn.values ∧
        OnlyParts [.regs, .txn, .cont, .host, .log] s t) ∧
    (∀ a readBack, s.txn.ahead = some a → a.slot < 4 → a.stage = 1 → a.startedNs + 50000000 ≤ stampNs s →
      ∃ t e, Machine.exec (.takeVoided readBack) s = .next t ∧ t.txn.log = s.txn.log ++ [e] ∧ e.mark ≠ .marked ∧
        slotState t a.slot = slotFree ∧ getF t (F.TXN.SLOT_STATE_RESULT a.slot) = resTimeout ∧ t.txn.ahead = none ∧
        t.txn.values = s.txn.values ∧ logTakes t = logTakes s) ∧
    (∀ a, s.txn.ahead = some a → s.txn.spanId = none → a.stage = 3 → role s = 1 → a.durable = true →
      ∃ t, Machine.exec .spliceWriteFailed s = .next t ∧ t.txn.ahead = some { a with stage := 4 } ∧ t.txn.log = s.txn.log ∧
        OnlyParts [.regs, .txn, .cont, .host] s t)

/-- While PIMG runs, outside the Curtain's own cycle, a sample by a point's source that is not FAULTED, of a point whose
entry is sound, completes: a float that is NaN or infinite is rejected, which keeps VALUE and STAMP, clears VALID and
counts REJECT_COUNT up; with no range action, rate limit or filter any other value becomes the live VALUE with its
source, its stamp and quality VALID alone; below LO under CLAMP with an int value the live VALUE is LO and CLAMP_COUNT
counts up. A write by another unit, or of an unknown point, changes no point and counts WRITE_REFUSED_COUNT up. In the
Curtain's own cycle the write is kept for after the publication, and a FAULTED unit's write is dropped. Where PIMG's
own read of the point or its entry finds an uncorrectable error, VALUE reads 0, VALID is clear and REASON is MEMORY.
No other point and no snapshot changes. (05_process_image.md R108, 05_process_image.md R112, 05_process_image.md R113,
05_process_image.md R115, 05_process_image.md R116, 05_process_image.md R122, 05_process_image.md R123) -/
def Obligations.SamplesAreConditioned : Prop :=
  (∀ (u p : Nat) (v : Word) (stamp : Nat) (s : State), WellKept s → imageUp s = true → bitF s F.TICK.FAULTED u = false → inCurtainCycle s = false →
    (∀ c, pointCfg s p = some c → c.source = u → (pointCond s p).cfgFailed = false →
      (c.typ = 0 → f32Finite v = false →
        ∃ t, Machine.exec (.pointSample u p v stamp none) s = .next t ∧ (livePoint t p).value = (livePoint s p).value ∧
          (livePoint t p).stamp = (livePoint s p).stamp ∧ pointValid (livePoint t p) = false ∧
          getF t F.PIMG.REJECT_COUNT = min (getF s F.PIMG.REJECT_COUNT + 1) 0xFFFFFFFF ∧
          (∀ j, j ≠ p → livePoint t j = livePoint s j) ∧ t.pimg.snap = s.pimg.snap) ∧
      ((c.typ = 0 → f32Finite v = true) → (c.typ = 2 → v.toNat ≤ 1) → c.rangeAction = 0 → f32Lt 0 c.maxRate = false → c.filter = 0 →
        ∃ t, Machine.exec (.pointSample u p v stamp none) s = .next t ∧
          livePoint t p = { value := v, source := u, typ := c.typ, quality := 1, stamp := stamp } ∧
          (∀ j, j ≠ p → livePoint t j = livePoint s j) ∧ t.pimg.snap = s.pimg.snap ∧ OnlyParts [.pimg] s t) ∧
      (c.typ = 1 → c.rangeAction = 1 → v.toInt < c.lo.toInt → f32Lt 0 c.maxRate = false → c.filter = 0 →
        ∃ t, Machine.exec (.pointSample u p v stamp none) s = .next t ∧ (livePoint t p).value = c.lo ∧
          getF t F.PIMG.CLAMP_COUNT = min (getF s F.PIMG.CLAMP_COUNT + 1) 0xFFFFFFFF ∧ pointValid (livePoint t p) = true ∧
          (∀ j, j ≠ p → livePoint t j = livePoint s j) ∧ t.pimg.snap = s.pimg.snap)) ∧
    ((∀ c, pointCfg s p = some c → c.source ≠ u) →
      ∃ t, Machine.exec (.pointSample u p v stamp none) s = .next t ∧ t.pimg = s.pimg ∧
        getF t F.PIMG.WRITE_REFUSED_COUNT = min (getF s F.PIMG.WRITE_REFUSED_COUNT + 1) 0xFFFFFFFF ∧ OnlyParts [.regs, .cont] s t)) ∧
  (∀ (u p : Nat) (v : Word) (stamp : Nat) (s : State), imageUp s = true →
    (bitF s F.TICK.FAULTED u = true → Machine.exec (.pointSample u p v stamp none) s = .next s) ∧
    (bitF s F.TICK.FAULTED u = false → inCurtainCycle s = true → ∃ t, Machine.exec (.pointSample u p v stamp none) s = .next t ∧
      t.pimg = { s.pimg with afterCurtain := s.pimg.afterCurtain ++ [{ unit := u, point := p, value := v, stamp := stamp }] } ∧
      OnlyParts [.pimg] s t)) ∧
  (∀ (u p : Nat) (v : Word) (stamp addr : Nat) (entry : Bool) (s : State), WellKept s → imageUp s = true → pointCfg s p ≠ none →
    ∃ t, Machine.exec (.pointSample u p v stamp (some (addr, entry))) s = .next t ∧ (livePoint t p).value = 0 ∧
      pointValid (livePoint t p) = false ∧ (livePoint t p).quality / 4096 = 14 ∧ (∀ j, j ≠ p → livePoint t j = livePoint s j) ∧
      t.pimg.snap = s.pimg.snap)

/-- While PIMG runs, a point with a TIMEOUT that many ticks past its last write and not stale yet: POINT_STALE sets the
timeout condition, so that VALID is clear and STALE set, keeps VALUE and STAMP, discards the filter history, shows the
same in the snapshot, and changes no other point. A point that is not due, or unknown, is left alone.
(05_process_image.md R109, 05_process_image.md R119) -/
def Obligations.StalePointsKeepTheirValue : Prop :=
  ∀ (p : Nat) (s : State), WellKept s →
    (∀ c, pointCfg s p = some c → imageUp s = true → timeoutDue s c = true →
      ∃ t, Machine.exec (.pointStale p) s = .next t ∧ (livePoint t p).value = (livePoint s p).value ∧
        (livePoint t p).stamp = (livePoint s p).stamp ∧ pointValid (livePoint t p) = false ∧ (livePoint t p).quality / 16 % 2 = 1 ∧
        (pointCond t p).filt = [] ∧ snapPoint t p = livePoint t p ∧
        (∀ j, j ≠ p → livePoint t j = livePoint s j ∧ snapPoint t j = snapPoint s j) ∧ OnlyParts [.pimg, .cont] s t) ∧
    ((∀ c, pointCfg s p = some c → imageUp s = false ∨ timeoutDue s c = false) → Machine.exec (.pointStale p) s = .next s)

/-- With LIO running and not FAULTED on a module that is not a Stand-in, outside the Curtain's cycle, and one analog input
enabled, whose point LIO owns, ANALOG_INPUT_SAMPLE completes at cycle 42,500 of the tick: beyond 10.5 V in voltage
mode, above 22 mA in current mode, or with the shunt open, a sample sets the channel's AI_FAULT bit and the point
keeps its value with VALID clear; otherwise the bit is clear. A current input above 30 mA opens its shunt at this
tick; it recloses 1,000 ticks later and not before. So does RTD_CONVERSION of an enabled RTD input k whose point LIO
owns: a broken lead, or more than 4 times the nominal resistance of its mode (100, 500 or 1000 ohms), sets the
channel's RTD_FAULT bit with an open-circuit fault; below 0.6 of it, a short; either clears VALID, keeps the value and
leaves no conversion for BOT. Otherwise the bit is clear and a conversion is kept. (05_process_image.md R121,
05_process_image.md R128, 05_process_image.md R129, 05_process_image.md R131) -/
def Obligations.AnalogAndRtdInputs : Prop :=
  ((∀ (c : Nat) (raws : List F64) (s : State), WellKept s → lioRuns s = true → imageUp s = true → role s ≠ 2 → c < 32 →
    bitF s F.TICK.FAULTED 5 = false → inCurtainCycle (elapseTo 42500 s) = false →
    (∀ j, j < 32 → j ≠ c → (lioCh s j).mode = 0) → (lioCh s c).mode ≠ 0 →
    (∃ d, pointCfg s (lioCh s c).point = some d ∧ d.source = 5) → (pointCond s (lioCh s c).point).cfgFailed = false →
    ∃ t, Machine.exec (.analogInputSample raws) s = .next t ∧
      (bitF t F.LIO.AI_FAULT c = true ↔
        if (lioCh s c).mode = 1 then f64Lt (f64OfRatio 21 2) (f64Abs (raws.getD c 0)) = true
        else (tableGet none s.lio.shuntOpen c ≠ none ∨ f64Lt (f64OfInt 22) (raws.getD c 0) = true)) ∧
      (bitF t F.LIO.AI_FAULT c = true → pointValid (livePoint t (lioCh s c).point) = false ∧
        (livePoint t (lioCh s c).point).value = (livePoint s (lioCh s c).point).value) ∧
      (∀ j, j ≠ (lioCh s c).point → livePoint t j = livePoint s j) ∧ t.tick.cycle = max s.tick.cycle 42500 ∧ t.lio.shuntOpen = s.lio.shuntOpen ∧
      t.lio.launch = s.lio.launch) ∧
  (∀ (c : Nat) (s : State), c < 32 → (lioCh s c).mode = 2 → tableGet none s.lio.shuntOpen c = none →
    ∃ t, Machine.exec (.shuntOpen c) s = .next t ∧ tableGet none t.lio.shuntOpen c = some s.tick.number ∧ OnlyParts [.lio] s t) ∧
  (∀ (c n : Nat) (s : State), keysRise s.lio.shuntOpen = true → tableGet none s.lio.shuntOpen c = some n →
    (n + 1000 ≤ s.tick.number → ∃ t, Machine.exec (.shuntReclose c) s = .next t ∧ tableGet none t.lio.shuntOpen c = none ∧
      OnlyParts [.lio] s t) ∧
    (s.tick.number < n + 1000 → Machine.exec (.shuntReclose c) s = .next s))) ∧
  (∀ (k : Nat) (ohms : F64) (broken : Bool) (s : State), WellKept s → lioRuns s = true → imageUp s = true → role s ≠ 2 → k < 64 →
    bitF s F.TICK.FAULTED 5 = false → inCurtainCycle s = false →
    (lioCh s (48 + k)).mode ≠ 0 → (∃ d, pointCfg s (lioCh s (48 + k)).point = some d ∧ d.source = 5) →
    (pointCond s (lioCh s (48 + k)).point).cfgFailed = false → keysRise s.lio.rtd = true →
    let r := if (lioCh s (48 + k)).mode = 1 then 100 else if (lioCh s (48 + k)).mode = 2 then 500 else 1000
    let bit := fun (t : State) => bitF t (if k < 32 then F.LIO.RTD_FAULT_LO else F.LIO.RTD_FAULT_HI) (k % 32)
    ∃ t, Machine.exec (.rtdConversion k ohms broken) s = .next t ∧
      (bit t = true ↔ broken = true ∨ f64Lt (f64OfInt (4 * r)) ohms = true ∨ f64Lt ohms (f64OfRatio (6 * r) 10) = true) ∧
      (bit t = true → pointValid (livePoint t (lioCh s (48 + k)).point) = false ∧ tableGet none t.lio.rtd k = none ∧
        (livePoint t (lioCh s (48 + k)).point).value = (livePoint s (lioCh s (48 + k)).point).value) ∧
      (bit t = false → tableGet none t.lio.rtd k ≠ none) ∧
      (∀ j, j ≠ k → tableGet none t.lio.rtd j = tableGet none s.lio.rtd j) ∧ t.lio.launch = s.lio.launch)

/-- With LIO powered and digital channel c an input, DIGITAL_INPUT_CHANGE to the other level shows it in DI_STATE, with no
other channel changed. A pulse edge on an enabled input counts PULSE_COUNT up by one modulo 2^32 and changes nothing
else; on a disabled one it changes nothing. With LIO running and one pulse input enabled, PULSE_TRANSFER takes the
count over as the last one transferred. (05_process_image.md R132, 05_process_image.md R133) -/
def Obligations.DigitalAndPulseInputs : Prop :=
  (∀ (c : Nat) (level : Bool) (s : State), WellKept s → unitRuns s 5 = true → c < 64 → (lioCh s (112 + c)).mode = 1 →
    let shown := fun (t : State) (j : Nat) => bitF t (if j < 32 then F.LIO.DI_STATE_LO else F.LIO.DI_STATE_HI) (j % 32)
    (shown s c ≠ level → keysRise s.lio.diSince = true → ∃ t, Machine.exec (.digitalInputChange c level) s = .next t ∧ shown t c = level ∧
      (∀ j, j < 64 → j ≠ c → shown t j = shown s j) ∧
      tableGet none t.lio.diSince c =
        (if flag s F.CLAP.STATUS_LOCAL_RUNNING then some (nowNs s 1 - (lioCh s (112 + c)).debounceUs * 1000) else none)) ∧
    (shown s c = level → Machine.exec (.digitalInputChange c level) s = .next s)) ∧
  (∀ (c : Nat) (s : State), WellKept s → unitRuns s 5 = true → c < 32 →
    ((lioCh s (176 + c)).mode = 1 → ∃ t, Machine.exec (.pulseEdge c) s = .next t ∧
      getF t (F.LIO.PULSE_COUNT c) = (getF s (F.LIO.PULSE_COUNT c) + 1) % 2 ^ 32 ∧ OnlyParts [.regs] s t ∧
      OnlyFields [F.LIO.PULSE_COUNT c] s t) ∧
    ((lioCh s (176 + c)).mode ≠ 1 → Machine.exec (.pulseEdge c) s = .next s)) ∧
  (∀ (c : Nat) (s : State), lioRuns s = true → c < 32 → keysRise s.lio.pulseLast = true →
    keysRise s.lio.pulseTick = true → (∀ j, j < 32 → j ≠ c → (lioCh s (176 + j)).mode = 0) → (lioCh s (176 + c)).mode ≠ 0 →
    ∃ t, Machine.exec .pulseTransfer s = .next t ∧ tableGet 0 t.lio.pulseLast c = getF s (F.LIO.PULSE_COUNT c) ∧
      tableGet 0 t.lio.pulseTick c = s.tick.number)

/-- With LIO running: a digital output that is on and draws too much goes off, its DO_FAULT bit is set, the fault is
recorded with reason SHORT and its retry count starts at 0. A retry at a 1,000th tick after it, with its point asking
for on, counts and is recorded; without an overcurrent the output goes on and the bit clears, with one it stays off
and the bit stands. An analog output's fault sets its AO_FAULT bit once and is recorded; its end clears it.
(05_process_image.md R130, 05_process_image.md R136) -/
def Obligations.OutputFaults : Prop :=
  (∀ (c : Nat) (raw : Word) (s : State), WellKept s → present s 5 = true → lioRuns s = true → c < 64 → (lioCh s (112 + c)).mode = 2 →
    tableGet false s.lio.doOn c = true → doFaulted s c = false → keysRise s.lio.doOn = true → keysRise s.lio.doRetries = true →
    ∃ t, Machine.exec (.digitalOutputOvercurrent c raw) s = .next t ∧ tableGet false t.lio.doOn c = false ∧ doFaulted t c = true ∧
      tableGet 0 t.lio.doRetries c = 0 ∧ Records s t [(0x0501, payload s (112 + c) condShort raw.toNat)] ∧
      (∀ j, j ≠ c → tableGet false t.lio.doOn j = tableGet false s.lio.doOn j) ∧ OnlyParts [.regs, .lio, .cont] s t) ∧
  (∀ (c n : Nat) (above : Bool) (s : State), WellKept s → lioRuns s = true → c < 64 → doFaulted s c = true → doAsked s c = true →
    keysRise s.lio.doOn = true → s.tick.number = tableGet 0 s.lio.doFaultAt c + 1000 * (n + 1) →
    ∃ t, Machine.exec (.outputRetry c above) s = .next t ∧ tableGet false t.lio.doOn c = !above ∧ doFaulted t c = above ∧
      tableGet 0 t.lio.doRetries c = tableGet 0 s.lio.doRetries c + 1 ∧ OnlyParts [.regs, .lio, .cont] s t) ∧
  (∀ (c : Nat) (raw : Word) (s : State), WellKept s → present s 5 = true → c < 16 →
    (lioRuns s = true → (lioCh s (32 + c)).mode ≠ 0 → bitF s F.LIO.AO_FAULT c = false →
      ∃ t, Machine.exec (.analogOutputFault c raw) s = .next t ∧ bitF t F.LIO.AO_FAULT c = true ∧
        Records s t [(0x0501, payload s (32 + c) (if (lioCh s (32 + c)).mode = 1 then condOpenWire else condShort) raw.toNat)] ∧
        OnlyParts [.regs, .lio, .cont] s t ∧ OnlyFields [F.LIO.AO_FAULT] s t) ∧
      (bitF s F.LIO.AO_FAULT c = true → ∃ t, Machine.exec (.analogOutputFaultCleared c) s = .next t ∧ bitF t F.LIO.AO_FAULT c = false ∧
      OnlyParts [.regs, .lio, .cont] s t ∧ OnlyFields [F.LIO.AO_FAULT] s t) ∧
    (bitF s F.LIO.AO_FAULT c = false → Machine.exec (.analogOutputFaultCleared c) s = .next s))

/-- LOAD_PANEL, FACTOR, TRSM, UPDATE, SEND, EXTEND_ADD, STORE_PANEL, the barrier operations ARRIVE and WAIT, FWD, DIAG,
BWD, RESID, the VECTOR functions BOUND_STEP, MOVE, RESIDUALS, MEASURE and PREPARE, and REDUCE: where the operation may
be dispatched it completes; where its arithmetic does not fail the round holds its result, the operation counts as
done, ARRIVE counts its barrier up, and nothing else changes but CURRENT_OP; arithmetic that fails ends the round with
its cause. An operation that may not be dispatched changes nothing. STORE_PANEL copies the packed panel to the factor
store, entry by entry. DIAG divides W by D at every position of its supernode and changes W nowhere else. An
uncorrectable error that an operation reads in LPDDR, in its cluster's SRAM or in the shared solver SRAM ends the
round with cause 10. (07_storyboard_and_juggler.md R166, 07_storyboard_and_juggler.md R168,
07_storyboard_and_juggler.md R170, 07_storyboard_and_juggler.md R171, 07_storyboard_and_juggler.md R172,
07_storyboard_and_juggler.md R182, 08_solver_rounds.md R196, 08_solver_rounds.md R197, 08_solver_rounds.md R198,
08_solver_rounds.md R199, 08_solver_rounds.md R200, 08_solver_rounds.md R201) -/
def Obligations.StoryboardOperationsRunOnce : Prop :=
  ((∀ k : Nat,
    StoryDoes (.loadPanel k none) 0x01 0 k opLoadPanel ∧ StoryDoes (.factor k none) 0x02 0 k opFactor ∧
    StoryDoes (.trsm k none) 0x03 0 k opTrsm ∧ StoryDoes (.update k none) 0x04 0 k opUpdate ∧ StoryDoes (.stbSend k none) 0x05 0 k opSend ∧
    StoryDoes (.extendAdd k none) 0x06 0 k opExtendAdd ∧ StoryDoes (.storePanel k none) 0x07 0 k opStorePanel ∧
    StoryDoes (.arrive k) 0x08 0 k (fun _ _ r => (r, none)) ∧ StoryDoes (.wait k) 0x09 0 k (fun _ _ r => (r, none))) ∧
  (∀ (k e : Nat) (r : Round) (g : SegRun) (s : State), StoryAt 0x07 0 k r g s → keysRise r.store = true →
    let n := supernode (storySec s) ((storySec s).ops.getD k {}).target
    e < panelSize n → ∃ t x, Machine.exec (.storePanel k none) s = .next t ∧ t.jug.round = some x ∧
      tableGet 0 x.store (n.factorOffset + e) = tableGet 0 r.panel (n.factorOffset + e) ∧ x.panel = r.panel)) ∧
  ((∀ k : Nat,
    StoryDoes (.fwd k none) 0x0A 0 k opFwd ∧ StoryDoes (.diag k none) 0x0B 0 k opDiag ∧ StoryDoes (.bwd k none) 0x0C 0 k opBwd ∧
    StoryDoes (.resid k none) 0x0D 0 k opResid ∧ StoryDoes (.boundStep k none) 0x0E 1 k opVector ∧
    StoryDoes (.move k none) 0x0E 2 k opVector ∧ StoryDoes (.residuals k none) 0x0E 3 k opVector ∧
    StoryDoes (.measure k none) 0x0E 4 k opVector ∧ StoryDoes (.prepare k none) 0x0E 5 k opVector ∧
    StoryDoes (.reduce k none) 0x0F 0 k (fun _ _ r => opReduce r)) ∧
  (∀ (k : Nat) (r r' : Round) (g : SegRun) (s : State), StoryAt 0x0B 0 k r g s → keysRise r.w = true →
    opDiag s ((storySec s).ops.getD k {}) r = (r', none) →
    let n := supernode (storySec s) ((storySec s).ops.getD k {}).target
    ∃ t x, Machine.exec (.diag k none) s = .next t ∧ t.jug.round = some x ∧
      (∀ p, n.first ≤ p → p < n.first + n.width →
        tableGet 0 x.w p = f64Div (tableGet 0 r.w p) (f32to64 (tableGet 0 r.dwork p))) ∧
      (∀ p, p < n.first ∨ n.first + n.width ≤ p → tableGet 0 x.w p = tableGet 0 r.w p)) ∧
  (∀ k : Nat,
    StoryReadsError (.loadPanel k) 0x01 0 k ∧ StoryReadsError (.factor k) 0x02 0 k ∧ StoryReadsError (.trsm k) 0x03 0 k ∧
    StoryReadsError (.update k) 0x04 0 k ∧ StoryReadsError (.stbSend k) 0x05 0 k ∧ StoryReadsError (.extendAdd k) 0x06 0 k ∧
    StoryReadsError (.storePanel k) 0x07 0 k ∧ StoryReadsError (.fwd k) 0x0A 0 k ∧ StoryReadsError (.diag k) 0x0B 0 k ∧
    StoryReadsError (.bwd k) 0x0C 0 k ∧ StoryReadsError (.resid k) 0x0D 0 k ∧ StoryReadsError (.boundStep k) 0x0E 1 k ∧
    StoryReadsError (.move k) 0x0E 2 k ∧ StoryReadsError (.residuals k) 0x0E 3 k ∧ StoryReadsError (.measure k) 0x0E 4 k ∧
    StoryReadsError (.prepare k) 0x0E 5 k ∧ StoryReadsError (.reduce k) 0x0F 0 k))

/-- Where solver rounds run, PIMG runs and a round's start tick has come with its Curtain ahead, ROUND_START starts one:
its number is ROUND_NUMBER plus one, it starts at this tick, its deadline stands in DEADLINE_TICK, and TICK.NUMBER and
every point are unchanged. ROUND_ASSEMBLED before ASM's ticks have passed changes nothing; after them, with no
uncorrectable error, an assembly without fault is handed over at the next tick and any other ends the round with cause
9; an uncorrectable error that ASM reads ends it with cause 9 too. (06_model_and_assembly.md R152,
06_model_and_assembly.md R157, 08_solver_rounds.md R187, 08_solver_rounds.md R195) -/
def Obligations.RoundsStartAndAreAssembled : Prop :=
  (∀ s : State, WellKept s → roundsRun s = true → imageUp s = true → roundStartTick s s.tick.number = true → s.tick.curtainDone = false →
    (s.jug.round.map Round.start) ≠ some s.tick.number →
    ∃ t r, Machine.exec .roundStart s = .next t ∧ t.jug.round = some r ∧ r.number = getF s F.JUG.ROUND_NUMBER + 1 ∧
      r.start = s.tick.number ∧ getF t F.JUG.ROUND_NUMBER = (getF s F.JUG.ROUND_NUMBER + 1) % 2 ^ 32 ∧
      getF t F.JUG.DEADLINE_TICK = lo32 (s.tick.number + (solverSec s).deadline) ∧ t.pimg = s.pimg ∧ t.tick = s.tick) ∧
  (∀ s : State, (s.jug.round.map Round.start) = some s.tick.number → Machine.exec .roundStart s = .next s) ∧
  (∀ (r : Round) (ue : Option Nat) (inData : Bool) (s : State), s.jug.round = some r → r.ended = none → r.handOver = none →
    (s.tick.number + 1 < r.start + asmTicks s → Machine.exec (.roundAssembled ue inData) s = .next s) ∧
    (r.start + asmTicks s ≤ s.tick.number + 1 → unitRuns s 6 = true → s.asm.badData = none →
      ∃ t r', Machine.exec (.roundAssembled none inData) s = .next t ∧ t.jug.round = some r' ∧ r'.number = r.number ∧
        (if (assemble s r).2.1 = 0 then r'.handOver = some (s.tick.number + 1) ∧ r'.ended = (assemble s r).1.ended
         else r'.handOver = none ∧ ((assemble s r).1.ended = none → r'.ended.map Prod.fst = some 9))) ∧
    (r.start + asmTicks s ≤ s.tick.number + 1 → unitRuns s 6 = true → ∀ addr,
      ∃ t, Machine.exec (.roundAssembled (some addr) inData) s = .next t ∧ (t.jug.round.bind Round.ended) = some (9, 3)))

/-- A FACTOR run that completes before its stall limit shows its cycles and starts the SOLVE run; a run that reaches the
limit ends the round with cause 8, and an uncorrectable error read at its end ends it with cause 10. A stalled run
ends the round with cause 8 and counts STALL_COUNT up. At its deadline a round with a run in progress ends with cause
2 and counts ABANDON_COUNT up, or with cause 10 where the Juggler reads an uncorrectable error in that cycle, and a
round that ASM has not handed over ends with cause 9; before the deadline ROUND_DEADLINE changes nothing. An ended
round in phase 4 leaves its plan in the back buffer and phase 5. A used cluster that fails to wake in LIVE has health
2. (07_storyboard_and_juggler.md R177, 07_storyboard_and_juggler.md R179, 07_storyboard_and_juggler.md R180,
08_solver_rounds.md R195, 08_solver_rounds.md R204, 08_solver_rounds.md R205, 08_solver_rounds.md R206) -/
def Obligations.RoundsRunAndEnd : Prop :=
  ∀ s : State, WellKept s →
    (∀ (r : Round) (g : SegRun) (n : Nat), s.jug.round = some r → r.run = some g → unitRuns s 7 = true → runComplete s g = true →
      g.mode = .factor → n < 2 ^ 32 → n < stallLimit s 0 →
      ∃ t, Machine.exec (.segmentRunEnd n none) s = .next t ∧ getF t (F.STB.LAST_CYCLES 0) = n ∧
        (t.jug.round.bind Round.run) = some { mode := .solve } ∧ (t.jug.round.map Round.w) = some r.rhs ∧
        flag t F.STB.STATUS_RUNNING = true ∧ OnlyParts [.regs, .jug, .cont] s t) ∧
    (∀ (r : Round) (g : SegRun), s.jug.round = some r → r.run = some g → r.ended = none →
      (∀ n ue, unitRuns s 7 = true → runComplete s g = true → stallLimit s (segmentOf g.mode) ≤ n →
        ∃ t, Machine.exec (.segmentRunEnd n ue) s = .next t ∧ (t.jug.round.bind Round.ended) = some (8, endStatus r 8)) ∧
      (∀ addr n, unitRuns s 7 = true → runComplete s g = true → n < stallLimit s (segmentOf g.mode) →
        ∃ t, Machine.exec (.segmentRunEnd n (some (0, addr))) s = .next t ∧ (t.jug.round.bind Round.ended) = some (10, 3)) ∧
      (∃ t, Machine.exec .segmentStalled s = .next t ∧ (t.jug.round.bind Round.ended) = some (8, endStatus r 8) ∧
        getF t F.STB.STALL_COUNT = min (getF s F.STB.STALL_COUNT + 1) 0xFFFFFFFF ∧ flag t F.STB.STATUS_RUNNING = false ∧
        OnlyParts [.regs, .jug, .cont] s t) ∧
      (r.start + (solverSec s).deadline ≤ s.tick.number →
        ∀ same, ∃ t, Machine.exec (.roundDeadline none same) s = .next t ∧ (t.jug.round.bind Round.ended) = some (2, endStatus r 2) ∧
          getF t F.JUG.ABANDON_COUNT = min (getF s F.JUG.ABANDON_COUNT + 1) 0xFFFFFFFF ∧ OnlyParts [.regs, .jug, .cont] s t) ∧
      (r.start + (solverSec s).deadline ≤ s.tick.number → ∀ addr same,
        ∃ t, Machine.exec (.roundDeadline (some (0, addr)) same) s = .next t ∧ (t.jug.round.bind Round.ended) = some (10, 3))) ∧
    (∀ (r : Round) (ue : Option (Nat × Nat)) (same : Bool), s.jug.round = some r →
      (s.tick.number < r.start + (solverSec s).deadline → Machine.exec (.roundDeadline ue same) s = .next s) ∧
      (r.start + (solverSec s).deadline ≤ s.tick.number → r.ended = none → r.run = none →
        ∃ t, Machine.exec (.roundDeadline ue same) s = .next t ∧ (t.jug.round.bind Round.ended) = some (9, 3))) ∧
    (∀ (r : Round) (e : Nat × Nat), s.jug.round = some r → r.ended = some e → getF s F.JUG.ROUND_STATE_PHASE = 4 → unitRuns s 8 = true →
      ∃ t p, Machine.exec .planWritten s = .next t ∧ t.jug.back = some p ∧ p.round = r.number ∧ p.cause = e.1 ∧ p.status = e.2 ∧
        p.planStart = r.start + (solverSec s).period ∧ getF t F.JUG.ROUND_STATE_PHASE = 5 ∧ t.jug.front = s.jug.front ∧
        OnlyParts [.regs, .jug] s t ∧ OnlyFields [F.JUG.ROUND_STATE_PHASE] s t) ∧
    (∀ k, k < 4 → bitF s F.JUG.CONFIG_USED k = true → inState s .live = true →
      ∃ t, Machine.exec (.clusterWakeFailed k) s = .next t ∧ getF t (F.JUG.CLUSTER_STATE_HEALTH k) = 2 ∧
        OnlyParts [.regs, .cont, .host] s t)

/-- In LIVE as SOLO or LEAD, an admitted INJECT_START of a configured loop that is neither in fallback, FAULTED nor
injecting, with a known profile and fewer than 16 injections, is accepted; so are INJECT_STOP of an injecting loop,
CAPTURE_ARM of an idle slot, CAPTURE_STOP of a slot in use and REP_CLEAR of a repetitive loop: each adds one command
to those waiting, and no loop, slot or point changes yet. INJECT_START of an injecting loop is a CONFLICT.
INJECT_ENDED of a loop whose injection has made its DURATION ends it and leaves the rest of the loop, and every other
loop, as it was. (09_tightrope.md R233, 09_tightrope.md R234, 09_tightrope.md R236, 09_tightrope.md R237) -/
def Obligations.TightropeCommandsWaitForTheCurtain : Prop :=
  (∀ (c : Caller) (s : State), WellKept s → trpLegal s = true →
    let accepts := fun (i : Instr) (x : Nat × Nat × Nat) => ∃ t, Machine.exec i s = .next t ∧
      t.trp = { s.trp with commands := s.trp.commands ++ [x] } ∧ getF t F.TRP.CMD_RESULT_RESULT = resOk ∧ OnlyParts [.regs, .trp, .sec] s t
    (Admitted c [roleEngineer] s →
      (∀ l p, loopCfg s l ≠ none → p < (loopsSec s).profiles.length → (loopState s l).inFallback = false → loopFaulted s l = false →
        (injecting s l = false → loopsInjecting s + (s.trp.commands.filter (fun x => x.1 == 1)).length < 16 →
          accepts (.injectStart c l p) (1, l, p)) ∧
        (injecting s l = true → ∃ t, Machine.exec (.injectStart c l p) s = .next t ∧ t.trp = s.trp ∧
          getF t F.TRP.CMD_RESULT_RESULT = resConflict)) ∧
      (∀ k d, k < 4 → d < (loopsSec s).captures.length → getF s (F.TRP.CAP_STATE_STATE k) = 0 →
        (∀ x ∈ s.trp.commands, x.1 = 3 → x.2.1 ≠ k) → accepts (.captureArm c k d) (3, k, d)) ∧
      (∀ k, k < 4 → getF s (F.TRP.CAP_STATE_STATE k) ≠ 0 → accepts (.captureStop c k) (4, k, 0)) ∧
      (∀ l x, loopCfg s l = some x → x.comp = 1 → loopFaulted s l = false → accepts (.repClear c l) (5, l, 0))) ∧
    (Admitted c [roleOperator, roleEngineer] s → ∀ l, loopCfg s l ≠ none → injecting s l = true → accepts (.injectStop c l) (2, l, 0))) ∧
  (∀ (l : Nat) (j : Injection) (s : State), keysRise s.trp.loops = true → (loopState s l).inj = some j →
    (((loopsSec s).profiles.getD j.profile {}).duration ≤ j.made →
      ∃ t, Machine.exec (.injectEnded l) s = .next t ∧ loopState t l = { loopState s l with inj := none } ∧
        (∀ k, k ≠ l → loopState t k = loopState s k) ∧ OnlyParts [.regs, .trp, .cont] s t) ∧
    (j.made < ((loopsSec s).profiles.getD j.profile {}).duration → Machine.exec (.injectEnded l) s = .next s))

/-- For every command but X1_GOOD with PD0 lost, and every state: if it answers a next state, the count of each billing
register (of meters, calculators and battery channels) that is within 64 bits is afterwards at least what it was; a
restart and a power-on with PD0 retained included. (11_box_office_electrical.md R279,
12_box_office_thermal_and_battery.md R305, 12_box_office_thermal_and_battery.md R306,
12_box_office_thermal_and_battery.md R309) -/
def Obligations.BillingRegistersNeverRunBack : Prop :=
  ∀ (c : Instr) (s t : State), (∀ a b, c ≠ .x1Good a b false) → Machine.exec c s = .next t →
    ∀ i, (accumAt s i).count ≤ countMax → (accumAt s i).count ≤ (accumAt t i).count

/-- Outside a restart, an active set whose window has reached its length with integration running, or is closed after
integration has ended: WINDOW_CLOSE queues one result of that set, opens the next window now where integration runs
and none where it has ended, and changes no other set and no billing register but those of the set's own meters; an
empty partial window only ends. In a restart the last window to close lets it go on to BOOT. WINDOW_PROCESSED moves
the oldest closed window's results to those ready for the next post, without its analysis where an error lies in the
analysis memory, and changes no billing register. With no window closed it changes nothing.
(11_box_office_electrical.md R274, 11_box_office_electrical.md R275, 11_box_office_electrical.md R278,
11_box_office_electrical.md R285, 11_box_office_electrical.md R287, 03_start_and_reel.md R79) -/
def Obligations.WindowsCloseAndAreProcessed : Prop :=
  (∀ (d : WindowData) (e : ElecMetro) (s : State), elecMetro s = some e → s.dev.flushing = none →
    (voltSet s d.set).active = true → (voltSet s d.set).length ≠ 0 → d.samples ≠ 0 →
    ((voltSet s d.set).running = true ∧ (voltSet s d.set).length = d.samples ∧ boeRuns s = true ∨
      (voltSet s d.set).running = false ∧ d.samples ≤ (voltSet s d.set).length) →
    ∃ t r, Machine.exec (.windowClose d) s = .next t ∧ t.boe.closed = s.boe.closed ++ [r] ∧ r.set = d.set ∧ r.samples = d.samples ∧
      (voltSet t d.set).openedAt = s.clap.cycles ∧ ((voltSet s d.set).running = false → (voltSet t d.set).length = 0) ∧
      (∀ k, k ≠ d.set → voltSet t k = voltSet s k) ∧
      (∀ i, (∀ m ∈ e.meters, m.voltageSet = d.set → i / 6 ≠ m.meter) → accumAt t i = accumAt s i) ∧
      OnlyParts [.regs, .boe, .bat, .cont, .accum, .free] s t) ∧
  (∀ (d : WindowData) (e : ElecMetro) (s : State), elecMetro s = some e → s.dev.flushing = none → d.samples = 0 →
    (voltSet s d.set).active = true → (voltSet s d.set).length ≠ 0 → (voltSet s d.set).running = false →
    ∃ t, Machine.exec (.windowClose d) s = .next t ∧ (voltSet t d.set).length = 0 ∧ t.boe.closed = s.boe.closed ∧ OnlyParts [.boe] s t) ∧
  (∀ (d : WindowData) (e : ElecMetro) (m : Bool) (s : State), elecMetro s = some e → s.dev.flushing = some m → powerFailing s = false →
    (voltSet s d.set).active = true → (voltSet s d.set).length ≠ 0 → (voltSet s d.set).running = false →
    d.samples ≤ (voltSet s d.set).length → (∀ k, k ≠ d.set → (voltSet s k).active = false ∨ (voltSet s k).length = 0) →
    ∃ t, Machine.exec (.windowClose d) s = .next t ∧ t.dev.state = .boot ∧ t.dev.flushing = none ∧ t.cfg = {}) ∧
  (∀ (r : WindowResult) (rest : List WindowResult) (errors : List BoeError) (s : State), s.boe.closed = r :: rest → elecMetro s ≠ none →
    ∃ t r', Machine.exec (.windowProcessed errors) s = .next t ∧ t.boe.closed = rest ∧ t.boe.ready = s.boe.ready ++ [r'] ∧
      r'.set = r.set ∧ r'.volts = r.volts ∧ r'.currents = r.currents ∧ (errors = [] → r' = r) ∧
      ((∃ x ∈ errors, 3 ≤ x.kind) → r'.analysis = false) ∧ t.bat.accum = s.bat.accum ∧ OnlyParts [.regs, .boe, .cont] s t) ∧
  (∀ (errors : List BoeError) (s : State), s.boe.closed = [] → Machine.exec (.windowProcessed errors) s = .next s)

/-- In LIVE, at a tick start on an interval boundary with the counts kept and an interval still open:
DEMAND_INTERVAL_CLOSE opens each meter's next interval at the boundary's stamp with the next sequence number, and
THERMAL_INTERVAL_CLOSE each calculator's, with INTERVAL_SEQ showing the one closed. No billing register changes. At
another tick neither changes anything. (11_box_office_electrical.md R282, 11_box_office_electrical.md R283,
12_box_office_thermal_and_battery.md R313) -/
def Obligations.IntervalRecordsClose : Prop :=
  ∀ (s : State) (n stamp : Nat) (counts : Table Accum) (errs : List Nat), WellKept s → s.bat.boundary = some (n, stamp, counts, errs) →
    (∀ (e : ElecMetro) (p : MeterPart), elecMetro s = some e → elecMeter s = some p → (e.meters.map MeterCfg.meter).Nodup →
      keysRise s.boe.intervals = true →
      (n = s.tick.number → minuteBoundary s p.intervalMin = true → inState s .live = true →
        (∃ m ∈ e.meters, (meterInterval s m.meter).startStamp ≠ stamp) →
        ∃ t, Machine.exec .demandIntervalClose s = .next t ∧ (∀ m ∈ e.meters, (meterInterval t m.meter).startStamp = stamp ∧
          (meterInterval t m.meter).seq = (meterInterval s m.meter).seq + 1) ∧ OnlyParts [.regs, .boe, .cont, .host] s t) ∧
      (n ≠ s.tick.number → Machine.exec .demandIntervalClose s = .next s)) ∧
    (∀ (m : ThermMetro) (p : MeterPart), thermMetro s = some m → thermMeter s = some p → (m.calcs.map CalcCfg.number).Nodup →
      (∀ c ∈ m.calcs, c.number < 32) → keysRise s.bot.intervals = true →
      (n = s.tick.number → minuteBoundary s p.intervalMin = true → inState s .live = true →
        (∃ c ∈ m.calcs, (calcInterval s c.number).startStamp ≠ stamp) →
        ∃ t, Machine.exec .thermalIntervalClose s = .next t ∧ t.bat.accum = s.bat.accum ∧
          (∀ c ∈ m.calcs, (calcInterval t c.number).startStamp = stamp ∧
            (calcInterval t c.number).seq = (calcInterval s c.number).seq + 1 ∧
            getF t (F.BOT.INTERVAL_SEQ c.number) = (calcInterval s c.number).seq % 2 ^ 32) ∧
          OnlyParts [.regs, .bot, .bat, .cont, .host] s t) ∧
      (n ≠ s.tick.number → Machine.exec .thermalIntervalClose s = .next s))

/-- In LIVE, an admitted CAL_START by a METROLOGIST of a configured meter over 1 to 1024 windows starts the run where none
is in progress, shows it and answers PENDING; where one is, the result is BUSY and it goes on. CAL_DONE, once the
run's windows are complete, ends it with state 2; before that it changes nothing. An admitted CAL_ABORT ends it with
state 3 and clears the CAL registers. The result that completes an aborted CAL_START is a free value (log entry 19),
which nothing here rests on. (11_box_office_electrical.md R291) -/
def Obligations.CalibrationRuns : Prop :=
  ∀ (c : Caller) (s : State), WellKept s →
    (∀ (e : ElecMetro) (m n : Nat), Admitted c [roleMetrologist] s → inState s .live = true → elecMetro s = some e →
      (∃ x ∈ e.meters, x.meter = m) → 1 ≤ n → n ≤ 1024 →
      (s.boe.cal = none → ∃ t x, Machine.exec (.calStart c m n) s = .next t ∧ t.boe.cal = some x ∧ x.meter = m ∧ x.windows = n ∧ x.done = 0 ∧
        flag t F.BOE.STATUS_CAL_BUSY = true ∧ getF t F.BOE.CAL_STATE_STATE = 1 ∧ getF t F.BOE.CMD_RESULT_RESULT = resPending ∧
        OnlyParts [.regs, .boe, .sec] s t) ∧
      (s.boe.cal ≠ none → ∃ t, Machine.exec (.calStart c m n) s = .next t ∧ t.boe = s.boe ∧ getF t F.BOE.CMD_RESULT_RESULT = resBusy)) ∧
    (∀ r, s.boe.cal = some r →
      (r.windows ≤ r.done → ∃ t, Machine.exec .calDone s = .next t ∧ t.boe = { s.boe with cal := none } ∧
        flag t F.BOE.STATUS_CAL_BUSY = false ∧ getF t F.BOE.CAL_STATE_STATE = 2 ∧ OnlyParts [.regs, .boe, .cont, .host] s t) ∧
      (r.done < r.windows → Machine.exec .calDone s = .next s) ∧
      (Admitted c [roleMetrologist] s → inState s .live = true →
        ∃ t, Machine.exec (.calAbort c 0) s = .next t ∧ t.boe = { s.boe with cal := none } ∧ flag t F.BOE.STATUS_CAL_BUSY = false ∧
          getF t F.BOE.CAL_STATE_STATE = 3 ∧ (∀ k, k < 48 → getF t (F.BOE.CAL_V_RMS k) = 0 ∧ getF t (F.BOE.CAL_P k) = 0) ∧
          getF t F.BOE.CMD_RESULT_RESULT = resOk))

/-- A due PERIODIC_SAVE outside the power-fail sequence writes a valid save of cause 1 with the next sequence number into
slot number modulo 256, with every billing register as it stands, and shows it as the last one. A due FLUSH_SAVE does
so with cause 2, or 3 where a restart was running, and ends the accumulators' flush; of the other slots it can change
only that of a periodic save that may still be in progress. SAVE_FAILED leaves a save that is not valid and counts
SAVE_FAIL_COUNT up: a periodic one leaves the last valid save shown, one of the flush ends it, and a restart's save,
which fails in BOOT, is made invalid. None changes a billing register. (That FLUSH_SAVE of a restart has cause 3 is
the model's reading, log entry 97.) (12_box_office_thermal_and_battery.md R306, 12_box_office_thermal_and_battery.md
R307, 12_box_office_thermal_and_battery.md R308) -/
def Obligations.SavesHoldTheBillingRegisters : Prop :=
  ∀ s : State, WellKept s →
    let begun := match s.bat.savedTick with
      | some w => if w + 32 ≤ s.tick.number then [] else [(s.bat.nextSeq - 1) % 256]
      | none => []
    let written := fun (t : State) (cause : Nat) (ok : Bool) (open_ : List Nat) =>
      ∃ v, tableGet none t.bat.saves (s.bat.nextSeq % 256) = some v ∧
        v.seq = s.bat.nextSeq ∧ v.cause = cause ∧ v.valid = ok ∧ v.image = s.bat.accum ∧ t.bat.nextSeq = s.bat.nextSeq + 1 ∧
        t.bat.accum = s.bat.accum ∧
        (∀ k, k ≠ s.bat.nextSeq % 256 → k ∉ open_ → tableGet none t.bat.saves k = tableGet none s.bat.saves k)
    (saveDue s = true → powerFailing s = false →
      ∃ t, Machine.exec .periodicSave s = .next t ∧ written t 1 true [] ∧ getF t F.BAT.LAST_SAVE_SEQ = lo32 s.bat.nextSeq ∧
        getF t F.BAT.SAVE_STATE_CAUSE = 1 ∧ OnlyParts [.regs, .bat] s t) ∧
    (flushDue s = true →
      ∃ t, Machine.exec .flushSave s = .next t ∧ written t (flushCause s) true begun ∧ t.pwr.flushedAccum = true ∧
        getF t F.BAT.LAST_SAVE_SEQ = lo32 s.bat.nextSeq ∧ getF t F.BAT.SAVE_STATE_CAUSE = flushCause s ∧
        OnlyParts [.regs, .bat, .pwr, .free] s t) ∧
    (saveDue s = true → powerFailing s = false → ∃ t, Machine.exec (.saveFailed 1) s = .next t ∧ written t 1 false [] ∧
      getF t F.BAT.SAVE_FAIL_COUNT = min (getF s F.BAT.SAVE_FAIL_COUNT + 1) 0xFFFFFFFF ∧
      getF t F.BAT.LAST_SAVE_SEQ = getF s F.BAT.LAST_SAVE_SEQ ∧ OnlyParts [.regs, .bat, .cont] s t) ∧
    (flushDue s = true → restartSave s = none →
      ∃ t, Machine.exec (.saveFailed (flushCause s)) s = .next t ∧ written t (flushCause s) false begun ∧ t.pwr.flushedAccum = true ∧
        getF t F.BAT.SAVE_FAIL_COUNT = min (getF s F.BAT.SAVE_FAIL_COUNT + 1) 0xFFFFFFFF ∧
        OnlyParts [.regs, .bat, .cont, .pwr, .free] s t) ∧
    (∀ v, restartSave s = some v → ∃ t, Machine.exec (.saveFailed 3) s = .next t ∧
      tableGet none t.bat.saves (v.seq % 256) = some { v with valid := false } ∧ t.bat.accum = s.bat.accum ∧
      getF t F.BAT.SAVE_FAIL_COUNT = min (getF s F.BAT.SAVE_FAIL_COUNT + 1) 0xFFFFFFFF ∧ OnlyParts [.regs, .bat, .cont] s t) ∧
    (saveDue s = false → Machine.exec .periodicSave s = .next s ∧ Machine.exec (.saveFailed 1) s = .next s) ∧
    (flushDue s = false → Machine.exec .flushSave s = .next s ∧ Machine.exec (.saveFailed 2) s = .next s)

/-- In battery measurement a second counts ELAPSED_S up; once measurement has stopped it changes no charge register;
outside it, nothing. A check shows the battery's millivolts, LOW below 3.0 V, and ABSENT below 1.0 V with X1 good. A
loop that reads open sets LOOP_OPEN and TAMPER, or, where TAMPER_ACTION says so, erases every key and, with no partial
window of BOE to close first, no restart or power failure in progress and CLK_TS locked to its reference, enters BOOT
without a configuration; TAMPER stays when it closes, and an admitted TAMPER_CLEAR by a SECURITY_OFFICER clears it
only with the loop closed. (12_box_office_thermal_and_battery.md R314, 12_box_office_thermal_and_battery.md R315,
12_box_office_thermal_and_battery.md R318, 12_box_office_thermal_and_battery.md R319,
12_box_office_thermal_and_battery.md R320, 19_security.md R488) -/
def Obligations.BatteryAndTamperLoop : Prop :=
  (∀ (rms : List F64) (s : State), WellKept s →
    (s.bat.measuring = false → Machine.exec (.batterySecond rms) s = .next s) ∧
    (s.bat.measuring = true → s.bat.stopped = true → ∃ t, Machine.exec (.batterySecond rms) s = .next t ∧ t.bat = s.bat ∧
      getF t F.BAT.ELAPSED_S = min (getF s F.BAT.ELAPSED_S + 1) 0xFFFFFFFF ∧ OnlyFields [F.BAT.ELAPSED_S] s t) ∧
    (s.bat.measuring = true → s.bat.stopped = false → ∃ t, Machine.exec (.batterySecond rms) s = .next t ∧
      getF t F.BAT.ELAPSED_S = min (getF s F.BAT.ELAPSED_S + 1) 0xFFFFFFFF ∧ (∀ i, i < 552 → accumAt t i = accumAt s i))) ∧
  (∀ (mv : Nat) (s : State), WellKept s → present s 13 = true →
    ∃ t, Machine.exec (.batteryCheck mv) s = .next t ∧ getF t F.BAT.BATTERY_MV = mv % 2 ^ 16 ∧
      (flag t F.BAT.STATUS_BATTERY_LOW = true ↔ mv < 3000) ∧
      (flag t F.BAT.STATUS_BATTERY_ABSENT = true ↔ mv < 1000 ∧ x1Good s = true) ∧ OnlyParts [.regs, .bat, .cont] s t) ∧
  (∀ (s : State), WellKept s → present s 13 = true →
    (flag s F.BAT.STATUS_LOOP_OPEN = false → (tamperZeroises s = false ∨ x1Good s = false) →
      ∃ t, Machine.exec .tamperOpen s = .next t ∧ flag t F.BAT.STATUS_LOOP_OPEN = true ∧ flag t F.BAT.STATUS_TAMPER = true ∧
        t.dev.state = s.dev.state ∧ t.sec.keys = s.sec.keys) ∧
    (flag s F.BAT.STATUS_LOOP_OPEN = false → tamperZeroises s = true → x1Good s = true →
      ∃ t, Machine.exec .tamperOpen s = .next t ∧ t.sec.keys = [] ∧
        (powerFailing s = false → s.dev.flushing = none → s.dev.referenceLost = false → windowsOpen s = false →
          t.dev.state = .boot ∧ t.cfg = {})) ∧
    (flag s F.BAT.STATUS_LOOP_OPEN = true → Machine.exec .tamperOpen s = .next s ∧
      ∃ t, Machine.exec .tamperClosed s = .next t ∧ flag t F.BAT.STATUS_LOOP_OPEN = false ∧
        flag t F.BAT.STATUS_TAMPER = flag s F.BAT.STATUS_TAMPER ∧ OnlyParts [.regs, .bat, .cont] s t) ∧
    (∀ c : Caller, Admitted c [roleSecurity] s → inState s .off = false →
      (flag s F.BAT.STATUS_LOOP_OPEN = false → ∃ t, Machine.exec (.tamperClear c 0) s = .next t ∧
        flag t F.BAT.STATUS_TAMPER = false ∧ getF t F.BAT.CMD_RESULT_RESULT = resOk) ∧
      (flag s F.BAT.STATUS_LOOP_OPEN = true → ∃ t, Machine.exec (.tamperClear c 0) s = .next t ∧
        flag t F.BAT.STATUS_TAMPER = flag s F.BAT.STATUS_TAMPER ∧ getF t F.BAT.CMD_RESULT_RESULT = resIllegal)))

/-- For an enabled domain b of 2 to 5: with no accepted measurement for SYNC_TIMEOUT_MS it is in HOLDOVER, and a loss from
LOCKED is counted; after HOLDOVER_S it is INVALID; before those instants nothing changes. While Local runs unforced, a
LOCKED domain of higher priority that has been so for REVERT_S becomes the selected one. An unsupported Announce is
counted as rejected and nothing else changes; the first Announce of a new grandmaster makes a domain that is not
INVALID ACQUIRING. (13_clapper.md R327, 13_clapper.md R333, 13_clapper.md R334, 13_clapper.md R335, 13_clapper.md
R346) -/
def Obligations.DomainLockStates : Prop :=
  ∀ (b : Nat) (s : State), WellKept s → 2 ≤ b → b ≤ 5 → s.clap.domains.length = 4 → domainEnabled s b = true →
    ((domState s b = 1 ∨ domState s b = 2) →
      ((dom s b).lastAccept + (domCfg s b).syncTimeoutMs * 1000000 ≤ nowNs s 0 →
        ∃ t, Machine.exec (.domainHoldover b) s = .next t ∧ domState t b = 3 ∧ (dom t b).holdoverSince = nowNs s 0 ∧
          getF t (F.CLAP.LOCK_LOSS_COUNT b) = (if domState s b = 2 then min (getF s (F.CLAP.LOCK_LOSS_COUNT b) + 1) 0xFFFFFFFF
            else getF s (F.CLAP.LOCK_LOSS_COUNT b)) ∧ t.clap.bases = s.clap.bases) ∧
      (nowNs s 0 < (dom s b).lastAccept + (domCfg s b).syncTimeoutMs * 1000000 → Machine.exec (.domainHoldover b) s = .next s)) ∧
    (domState s b = 3 →
      ((dom s b).holdoverSince + s.cfg.time.holdoverS * 1000000000 ≤ nowNs s 0 →
        ∃ t, Machine.exec (.domainInvalid b) s = .next t ∧ domState t b = 0 ∧ t.clap.bases = s.clap.bases) ∧
      (nowNs s 0 < (dom s b).holdoverSince + s.cfg.time.holdoverS * 1000000000 → Machine.exec (.domainInvalid b) s = .next s)) ∧
    (flag s F.CLAP.STATUS_LOCAL_RUNNING = true → flag s F.CLAP.STATUS_FORCED = false → getF s F.CLAP.STATUS_SELECTED ≠ 0 →
      s.cfg.time.revertS ≠ 0 → domState s b = 2 → priorityOf s b < priorityOf s (getF s F.CLAP.STATUS_SELECTED) →
      (dom s b).lockedSince + s.cfg.time.revertS * 1000000000 ≤ nowNs s 0 →
      ∃ t, Machine.exec (.localRevert b) s = .next t ∧ getF t F.CLAP.STATUS_SELECTED = b ∧ t.clap.bases = s.clap.bases ∧
        OnlyParts [.regs, .clap, .cont] s t) ∧
    (∀ m : Announce, m.supported = false → ∃ t, Machine.exec (.announceReceived b m) s = .next t ∧
      getF t (F.CLAP.REJECT_COUNT b) = min (getF s (F.CLAP.REJECT_COUNT b) + 1) 0xFFFFFFFF ∧ OnlyParts [.regs] s t ∧
      OnlyFields [F.CLAP.REJECT_COUNT b] s t) ∧
    (∀ (m : Announce) (g : Nat × Nat), m.supported = true → m.ptpDomain = getF s (F.CLAP.BASE_PTP_DOMAIN b) → m.port = 0 →
      (dom s b).announceHi = none → (dom s b).gm = some g → g ≠ (m.gmLo, m.gmHi) → domState s b ≠ 0 →
      ∃ t, Machine.exec (.announceReceived b m) s = .next t ∧ domState t b = 1 ∧ (dom t b).gm = some (m.gmLo, m.gmHi))

/-- In ARMED or LIVE, for a domain b of 2 to 5 that a host servo runs and an OPERATOR's admitted command: SET_INCREMENT
puts an increment within its limits in force and makes an INVALID domain ACQUIRING; STEP moves the domain's count by
the signed 64-bit amount, counts STEP_COUNT up and moves no other base; SET_LOCK with 1 or 0 makes the domain LOCKED,
or puts one that is not INVALID in HOLDOVER. An ENGINEER's SELECT of a LOCKED or HOLDOVER domain forces it as the
selected one; of any other domain the result is ILLEGAL. (13_clapper.md R332, 13_clapper.md R335, 13_clapper.md R337,
13_clapper.md R346) -/
def Obligations.HostServoCommands : Prop :=
  ∀ (c : Caller) (b : Nat) (s : State), WellKept s → 2 ≤ b → b ≤ 5 → s.clap.domains.length = 4 → clapLegal s = true →
    (Admitted c [roleOperator] s → hostServo s b = true →
      (∀ frac ns, frac < 2 ^ 32 → incMin ≤ ns * 2 ^ 32 + frac → ns * 2 ^ 32 + frac ≤ incMax →
        ∃ t, Machine.exec (.setIncrement c b frac ns) s = .next t ∧ baseInc t b = ns * 2 ^ 32 + frac ∧
          domState t b = (if domState s b = 0 then 1 else domState s b) ∧ t.clap.bases = s.clap.bases ∧
          getF t F.CLAP.CMD_RESULT_RESULT = resOk) ∧
      (∀ lo hi, lo < 2 ^ 32 → hi < 2 ^ 32 → (toSigned 64 (hi * 2 ^ 32 + lo)).natAbs < 2 ^ 62 →
        ∃ t, Machine.exec (.step c b lo hi) s = .next t ∧
          t.clap.bases = s.clap.bases.set b { s.clap.bases.getD b {} with
            ns := ofSigned 64 (((s.clap.bases.getD b {}).ns : Int) + toSigned 64 (hi * 2 ^ 32 + lo)) } ∧
          getF t (F.CLAP.STEP_COUNT b) = min (getF s (F.CLAP.STEP_COUNT b) + 1) 0xFFFFFFFF ∧
          domState t b = (if domState s b = 0 ∨ domState s b = 2 then 1 else domState s b) ∧
          getF t F.CLAP.CMD_RESULT_RESULT = resOk) ∧
      (∃ t, Machine.exec (.setLock c b 1) s = .next t ∧ domState t b = 2 ∧ getF t F.CLAP.CMD_RESULT_RESULT = resOk) ∧
      (domState s b ≠ 0 → ∃ t, Machine.exec (.setLock c b 0) s = .next t ∧ domState t b = 3 ∧
        getF t F.CLAP.CMD_RESULT_RESULT = resOk)) ∧
    (Admitted c [roleEngineer] s →
      ((domState s b = 2 ∨ domState s b = 3) → ∃ t, Machine.exec (.select c b) s = .next t ∧ getF t F.CLAP.STATUS_SELECTED = b ∧
        flag t F.CLAP.STATUS_FORCED = true ∧ getF t F.CLAP.CMD_RESULT_RESULT = resOk ∧ t.clap.bases = s.clap.bases) ∧
      (domState s b < 2 → ∃ t, Machine.exec (.select c b) s = .next t ∧ getF t F.CLAP.CMD_RESULT_RESULT = resIllegal ∧
        t.clap = s.clap ∧ getF t F.CLAP.STATUS_SELECTED = getF s F.CLAP.STATUS_SELECTED))

/-- For an enabled domain with an internal servo and CLK_TS running: while INVALID or ACQUIRING an offset beyond STEP_NS
steps the count back by the offset and leaves the domain ACQUIRING; while LOCKED a change of offset beyond JUMP_NS is
rejected, counted and leaves count, increment and state as they were, but the fourth in a row puts the domain in
HOLDOVER; any other measurement shows the offset and counts SYNC_COUNT up. A peer delay stands in PATH_DELAY of each
enabled domain that uses the port. (13_clapper.md R332, 13_clapper.md R333) -/
def Obligations.InternalServoMeasurements : Prop :=
  ∀ (b : Nat) (o : Int) (s : State), WellKept s → 2 ≤ b → b ≤ 5 → s.clap.domains.length = 4 → domainEnabled s b = true → flag s (F.CLAP.BASE_SERVO b) = false →
    clockRuns s 8 = true → -2147483648 ≤ o → o ≤ 2147483647 →
    ((domState s b = 0 ∨ domState s b = 1) → (domCfg s b).stepNs < o.natAbs →
      ∃ t, Machine.exec (.offsetMeasurement b o) s = .next t ∧ domState t b = 1 ∧ toSigned 32 (getF t (F.CLAP.OFFSET_LAST b)) = o ∧
        t.clap.bases = s.clap.bases.set b { s.clap.bases.getD b {} with ns := ofSigned 64 (((s.clap.bases.getD b {}).ns : Int) - o) } ∧
        baseInc t b = baseInc s b) ∧
    (∀ p : Int, domState s b = 2 → (dom s b).oPred = some p → (domCfg s b).jumpNs < (o - p).natAbs →
      ∃ t, Machine.exec (.offsetMeasurement b o) s = .next t ∧
        getF t (F.CLAP.REJECT_COUNT b) = min (getF s (F.CLAP.REJECT_COUNT b) + 1) 0xFFFFFFFF ∧ t.clap.bases = s.clap.bases ∧
        baseInc t b = baseInc s b ∧ domState t b = (if (dom s b).nRej = 3 then 3 else 2)) ∧
    (∀ p : Int, (dom s b).oPred = some p → (o - p).natAbs ≤ (domCfg s b).jumpNs → o.natAbs ≤ (domCfg s b).stepNs →
      ∃ t, Machine.exec (.offsetMeasurement b o) s = .next t ∧ toSigned 32 (getF t (F.CLAP.OFFSET_LAST b)) = o ∧
        getF t (F.CLAP.SYNC_COUNT b) = min (getF s (F.CLAP.SYNC_COUNT b) + 1) 0xFFFFFFFF ∧ (dom t b).nRej = 0 ∧
        (dom t b).oPred = some o ∧ t.clap.bases = s.clap.bases) ∧
    (∀ (port : Nat), b ∈ domainsOnPort s port → getF s (F.CLAP.BASE_ACTIVE_PORT b) = port % 2 →
      ∃ t, Machine.exec (.pdelayRespReceived port o) s = .next t ∧ toSigned 32 (getF t (F.CLAP.PATH_DELAY b)) = o ∧ OnlyParts [.regs] s t)

/-- For a port that may have link: LINK_UP of one that is down brings it up with no module mismatch, and a backbone port's
pair with it; LINK_DOWN of one that is up takes it down, the pair is then up only where its other port is, and every
WAITING or ACTIVE station of that attachment with no link left is ABSENT with cause LINK; SFP_MISMATCH shows the
mismatch and holds the link down. At each tick 8000 k in LIVE NET_DROP_POINT writes the count of dropped frames of
each backbone port into its point. (14_ports_and_stations.md R349, 14_ports_and_stations.md R352,
14_ports_and_stations.md R371, 14_ports_and_stations.md R376) -/
def Obligations.LinksComeAndGo : Prop :=
  ∀ (x : Nat) (s : State), WellKept s →
    (linkUsable s x = true → linkIsUp s x = false → ∃ t, Machine.exec (.linkUp x) s = .next t ∧ linkIsUp t x = true ∧
      (x < 4 → pairUp t (x / 2) = 1 ∧ flag t (F.NET.PORT_STATE_SFP_MISMATCH x) = false) ∧
      (∀ y, y ≤ 4 ∨ (8 ≤ y ∧ y < 16) → y ≠ x → linkIsUp t y = linkIsUp s y) ∧ OnlyParts [.regs, .pimg, .cont] s t) ∧
    (linkUsable s x = true → linkIsUp s x = true → (∀ c ∈ stationList s, c.station < 4096) → keysRise s.stn.stations = true →
      ∃ t, Machine.exec (.linkDown x) s = .next t ∧ linkIsUp t x = false ∧ (∀ y, y ≤ 4 ∨ (8 ≤ y ∧ y < 16) → y ≠ x → linkIsUp t y = linkIsUp s y) ∧
        (x < 4 → (pairUp t (x / 2) = 1 ↔ linkIsUp s (if x % 2 = 0 then x + 1 else x - 1) = true)) ∧
        (stnRuns s = true → ∀ c ∈ stationList s, onAttachment c x = true → attachmentUp t c = false → canLose s c.station = true →
          (stnState t c.station).state = stnAbsent ∧ (stnState t c.station).cause = 2)) ∧
    (linkUsable s x = true → x ≤ 4 → ∀ code, ∃ t, Machine.exec (.sfpMismatch x code) s = .next t ∧ linkIsUp t x = false ∧
      (x < 4 → flag t (F.NET.PORT_STATE_SFP_MISMATCH x) = true) ∧ (x = 4 → flag t F.NET.MIRROR_STATE_SFP_MISMATCH = true) ∧
      OnlyParts [.regs, .pimg, .net, .stn, .cont, .host] s t) ∧
    (linkUsable s x = false → ∀ code, Machine.exec (.linkUp x) s = .next s ∧ Machine.exec (.linkDown x) s = .next s ∧
      Machine.exec (.sfpMismatch x code) s = .next s) ∧
    (inState s .live = true → netRuns s = true → imageUp s = true →
      (s.tick.number % 8000 = 0 → ∃ t, Machine.exec .netDropPoint s = .next t ∧ OnlyParts [.regs, .pimg, .cont] s t ∧
        (((netCfg s).points.map NetPoint.point).Nodup → ∀ e ∈ (netCfg s).points, e.quantity = 6 → e.object < 4 →
          ∀ c, pointCfg s e.point = some c → c.source = 14 → c.typ = 4 → c.rangeAction = 0 → c.filter = 0 →
            (pointCond s e.point).cfgFailed = false →
            (livePoint t e.point).value = BitVec.ofNat 32 (s.net.drops.getD e.object 0))) ∧
      (s.tick.number % 8000 ≠ 0 → Machine.exec .netDropPoint s = .next s))

/-- On a backbone port with link while NET runs, a frame counts in RX_FRAMES; one that is not among those received counts
as dropped and has no other effect; the second copy of a numbered datagram counts in PRP_DUPLICATE, the first is
remembered and does not; a supervision frame shows its node as seen. A long-reach port's frames count in its RX_FRAMES
and, where they are not among those received, as dropped. PRP_SUPERVISION_SEND, when due, queues one frame with the
same trailer number on both ports of the pair and takes the next number. PRP_NODE_FORGET removes the nodes of the pair
unseen for 60 s and the duplicate entries of ENTRY_FORGET_MS, and no others. A Pdelay request is answered on its port,
with a follow-up under two-step. (14_ports_and_stations.md R351, 14_ports_and_stations.md R352,
14_ports_and_stations.md R354, 14_ports_and_stations.md R358, 13_clapper.md R333) -/
def Obligations.BackboneFramesAndDuplicates : Prop :=
  (∀ (f : RxFrame) (s : State), WellKept s → f.port < 4 → netRuns s = true → portLink s f.port = true → s.net.drops.length = 4 →
    let k := f.port / 2
    let counted := fun (t : State) => getF t (F.NET.RX_FRAMES f.port) = min (getF s (F.NET.RX_FRAMES f.port) + 1) 0xFFFFFFFF
    (frameSupported s f = false → ∃ t, Machine.exec (.backboneFrameRx f) s = .next t ∧ counted t ∧
      getF t (F.NET.RX_DROPPED f.port) = min (getF s (F.NET.RX_DROPPED f.port) + 1) 0xFFFFFFFF ∧
      t.net = { s.net with drops := s.net.drops.set f.port (s.net.drops.getD f.port 0 + 1) } ∧ OnlyParts [.regs, .net] s t ∧
      OnlyFields [F.NET.RX_FRAMES f.port, F.NET.RX_DROPPED f.port] s t) ∧
    (∀ (a b c : Nat) (r : RctTrailer), frameSupported s f = true → f.kind = .datagram a b c → f.trailer = some r →
      r.sequence < 65536 →
      let same := fun (e : PrpEntry) => e.pair = k ∧ e.source = f.source ∧ e.sequence = r.sequence
      ∃ t, Machine.exec (.backboneFrameRx f) s = .next t ∧ counted t ∧ OnlyParts [.regs, .net] s t ∧
        (∃ e ∈ t.net.entries, same e) ∧ (∃ n ∈ t.net.nodes, n.pair = k ∧ n.node = f.source ∧ n.atNs = nowNs s 0) ∧
        ((∃ e ∈ s.net.entries, same e) →
          getF t (F.NET.PRP_DUPLICATE k) = min (getF s (F.NET.PRP_DUPLICATE k) + 1) 0xFFFFFFFF) ∧
        ((¬ ∃ e ∈ s.net.entries, same e) → getF t (F.NET.PRP_DUPLICATE k) = getF s (F.NET.PRP_DUPLICATE k)))) ∧
  (∀ (f : RxFrame) (s : State), WellKept s → f.port < 4 → netRuns s = true → portLink s f.port = true → frameSupported s f = true →
    f.trailer = none ∨ f.kind = .ptp →
    ∃ t, Machine.exec (.backboneFrameRx f) s = .next t ∧ OnlyParts [.regs, .net] s t ∧
      getF t (F.NET.RX_FRAMES f.port) = min (getF s (F.NET.RX_FRAMES f.port) + 1) 0xFFFFFFFF ∧
      (∀ node, f.kind = .supervision node →
        ∃ n ∈ t.net.nodes, n.pair = f.port / 2 ∧ n.node = node ∧ n.atNs = nowNs s 0) ∧ t.net.entries = s.net.entries) ∧
  (∀ (f : RxFrame) (s : State), WellKept s → 8 ≤ f.port → f.port < 16 → lrpRuns s = true → portLink s f.port = true →
    let l := f.port - 8
    ∃ t, Machine.exec (.backboneFrameRx f) s = .next t ∧ getF t (F.LRP.RX_FRAMES l) = min (getF s (F.LRP.RX_FRAMES l) + 1) 0xFFFFFFFF ∧
      getF t (F.LRP.RX_DROPPED l) = (if frameSupported s f then getF s (F.LRP.RX_DROPPED l)
        else min (getF s (F.LRP.RX_DROPPED l) + 1) 0xFFFFFFFF) ∧
      OnlyParts [.regs] s t ∧ OnlyFields [F.LRP.RX_FRAMES l, F.LRP.RX_DROPPED l] s t) ∧
  (∀ (f : RxFrame) (s : State), f.port < 4 → (netRuns s = false ∨ portLink s f.port = false) →
    Machine.exec (.backboneFrameRx f) s = .next s) ∧
  (∀ (k : Nat) (s : State), WellKept s → k < 2 → keysRise s.net.queues = true → s.net.trailerSeq.length = 2 →
    s.net.lastLife.length = 2 →
    let n := s.net.trailerSeq.getD k 0
    let due := netRuns s && flag s (F.NET.PORT_STATE_USED (2 * k)) &&
      decide (s.net.lastLife.getD k 0 + (netCfg s).lifeCheckMs * 1000000 ≤ nowNs s 0)
    (due = true → (queueOf s (16 * k + 4)).length < 16 → (queueOf s (16 * k + 12)).length < 16 →
      ∃ t, Machine.exec (.prpSupervisionSend k) s = .next t ∧ OnlyParts [.regs, .net] s t ∧
        (∀ q, q = 16 * k + 4 ∨ q = 16 * k + 12 →
          queueOf t q = queueOf s q ++ [{ body := .supervision, bits := supervisionBits, trailer := some n }]) ∧
        (∀ q, q ≠ 16 * k + 4 → q ≠ 16 * k + 12 → queueOf t q = queueOf s q) ∧ t.net.trailerSeq[k]? = some ((n + 1) % 65536) ∧
        t.net.lastLife[k]? = some (nowNs s 0)) ∧
    (due = false → Machine.exec (.prpSupervisionSend k) s = .next s) ∧
    (∃ t, Machine.exec (.prpNodeForget k) s = .next t ∧ OnlyParts [.regs, .net] s t ∧ t.net.queues = s.net.queues ∧
      (∀ e, e ∈ t.net.nodes ↔ e ∈ s.net.nodes ∧ (e.pair = k → nowNs s 0 < e.atNs + 60000000000)) ∧
      (∀ e, e ∈ t.net.entries ↔ e ∈ s.net.entries ∧ (e.pair = k → nowNs s 0 < e.atNs + (netCfg s).entryForgetMs * 1000000)))) ∧
  (∀ (port b : Nat) (m : PdelayMsg) (s : State), WellKept s → port < 4 → keysRise s.net.queues = true →
    (queueOf s (8 * port + 5)).length < 63 → b ∈ domainsOnPort s port → (domCfg s b).ptpDomain = m.ptpDomain →
    (∀ d ∈ domainsOnPort s port, (domCfg s d).ptpDomain = m.ptpDomain → d = b) →
    let frame := fun (late : Bool) => ({ body := .pdelay late m.source m.sequence m.receivedNs, bits := pdelayBits } : TxFrame)
    ∃ t, Machine.exec (.pdelayReq port m) s = .next t ∧ OnlyParts [.regs, .net] s t ∧
      queueOf t (8 * port + 5) = queueOf s (8 * port + 5) ++ (if (domCfg s b).stepMode = 1 then [frame false, frame true]
        else [frame false]) ∧ ∀ q, q ≠ 8 * port + 5 → queueOf t q = queueOf s q)

/-- An Ethernet port whose unit runs, with link and free: where every queue above one is empty and that queue's head may
start now and is not late, FRAME_LAUNCH takes the head out of its queue, puts it on the wire with the stamp of its
path, keeps the port busy for its wire time and counts it in TX_FRAMES and Q_SENT; where the port's one waiting frame
is late it is dropped and counted in LATE_DISCARDED and Q_LATE. A port without link, unpowered or busy starts nothing.
A NORMAL CAN port without a schedule matrix puts its one ready host message on the wire; outside LIVE a CAN port
starts nothing. (14_ports_and_stations.md R341, 14_ports_and_stations.md R359, 15_can.md R395, 13_clapper.md R338) -/
def Obligations.FramesLaunchHighestFirst : Prop :=
  ∀ (p : Nat) (s : State), WellKept s → (p < 4 ∨ (8 ≤ p ∧ p < 16)) → keysRise s.net.queues = true →
    let txF := if p < 4 then F.NET.TX_FRAMES p else F.LRP.TX_FRAMES (p - 8)
    let lateF := if p < 4 then F.NET.LATE_DISCARDED p else F.LRP.LATE_DISCARDED (p - 8)
    let up := portRuns s p && portLink s p && decide (tableGet 0 s.net.busyUntil p ≤ nowNs s 1)
    (∀ (hi lo : List Nat) (q : Nat) (f : TxFrame) (rest : List TxFrame), up = true → portQueues p = hi ++ q :: lo →
      (∀ h ∈ hi, queueOf s h = []) → queueOf s q = f :: rest → keysRise s.net.busyUntil = true →
      (∀ l, f.launch = some l → l ≤ nowNs s 1 ∧ nowNs s 1 ≤ l + lateWindow p) → (∀ o, f.body = .output o → o.station < 4096) →
      ∃ t, Machine.exec (.frameLaunch p) s = .next t ∧ queueOf t q = rest ∧ (∀ r, r ≠ q → queueOf t r = queueOf s r) ∧
        t.net.sent = s.net.sent ++ [{ port := p, queue := q, frame := f, stamp := portStamp s (portEntry p) true }] ∧
        tableGet 0 t.net.busyUntil p = nowNs s 1 + wireNs s p f.bits ∧ getF t txF = min (getF s txF + 1) 0xFFFFFFFF ∧
        getF t (qSentF q) = min (getF s (qSentF q) + 1) 0xFFFFFFFF ∧ OnlyParts [.regs, .net, .stn] s t) ∧
    (∀ (q l : Nat) (f : TxFrame), up = true → q ∈ portQueues p → queueOf s q = [f] → (∀ r ∈ portQueues p, r ≠ q → queueOf s r = []) →
      f.launch = some l → l + lateWindow p < nowNs s 1 →
      ∃ t, Machine.exec (.frameLaunch p) s = .next t ∧ queueOf t q = [] ∧ t.net.sent = s.net.sent ∧
        getF t lateF = min (getF s lateF + 1) 0xFFFFFFFF ∧ getF t (qLateF q) = min (getF s (qLateF q) + 1) 0xFFFFFFFF ∧
        OnlyParts [.regs, .net, .cont] s t) ∧
    (up = false → Machine.exec (.frameLaunch p) s = .next s) ∧
    (∀ (c : Nat) (g : CanPortCfg) (h : HostMessage) (rest : List HostMessage), c < 4 → canCfg s c = some g → g.tt = false →
      canRuns s = true → inState s .live = true → canMode s c = 1 → canError s c < 2 → (canPort s c).onWire = none →
      (canPort s c).mustFirst = none → (canPort s c).periodic = [] → (canPort s c).host = h :: rest → h.launch ≤ nowNs s 1 →
      ∃ t w, Machine.exec (.frameLaunch (16 + c)) s = .next t ∧ (canPort t c).onWire = some w ∧ w.source = .host ∧ w.data = h.data ∧
        OnlyParts [.can] s t) ∧
    (∀ c, c < 4 → inState s .live = false → Machine.exec (.frameLaunch (16 + c)) s = .next s)

/-- In ARMED or LIVE with LRP running, on a used port with a POWER_CLASS: a due detection with a valid signature turns the
port ON with no further detection due, an invalid one is repeated after 1 s; before it is due nothing changes. An
overcurrent or undervoltage of an ON port switches it to FAULT with no power, counts it and has it detected again
after 10 s; the 33 W rule does so to the ON port with the highest number. An OPERATOR's admitted POWER_OFF disables a
port and POWER_ON starts its detection at once; POWER_OFF of a disabled port, and POWER_ON of one that is not, are
ILLEGAL. (14_ports_and_stations.md R356, 14_ports_and_stations.md R357) -/
def Obligations.SinglePairPower : Prop :=
  ∀ (l : Nat) (s : State), WellKept s → lrPowered s l = true → s.lrp.detectAt.length = 8 →
    (inState s .armed = true ∨ inState s .live = true) →
    (lrpRuns s = true →
      (∀ (at_ mw : Nat), s.lrp.detectAt[l]? = some (some at_) → (lrPower s l = 1 ∨ lrPower s l = 3) →
        (at_ ≤ stampNs s → mw < 2 ^ 32 → ∃ t, Machine.exec (.detection l true mw) s = .next t ∧ lrPower t l = 2 ∧
          getF t (F.LRP.PORT_POWER_MW l) = mw ∧ t.lrp.detectAt[l]? = some none ∧ flag t F.LRP.STATUS_POWER_ANY = true ∧
          (∀ j, j < 8 → j ≠ l → lrPower t j = lrPower s j ∧ t.lrp.detectAt[j]? = s.lrp.detectAt[j]?) ∧
          OnlyParts [.regs, .lrp, .cont] s t) ∧
        (at_ ≤ stampNs s → ∃ t, Machine.exec (.detection l false mw) s = .next t ∧ lrPower t l = 1 ∧
          t.lrp.detectAt[l]? = some (some (stampNs s + 1000000000)) ∧ OnlyParts [.regs, .lrp] s t ∧
          (∀ j, j < 8 → j ≠ l → lrPower t j = lrPower s j)) ∧
        (stampNs s < at_ → ∀ valid, Machine.exec (.detection l valid mw) s = .next s)) ∧
      (∀ (kind ma : Nat), kind < 3 → lrPower s l = 2 → (kind = 2 → ∀ j, l < j → j < 8 → lrPower s j ≠ 2) →
        ∃ t, Machine.exec (.powerFault (if kind = 2 then 0 else l) kind ma) s = .next t ∧ lrPower t l = 3 ∧
          getF t (F.LRP.PORT_POWER_MW l) = 0 ∧ t.lrp.detectAt[l]? = some (some (stampNs s + 10000000000)) ∧
          getF t (F.LRP.POWER_FAULT_COUNT l) = min (getF s (F.LRP.POWER_FAULT_COUNT l) + 1) 0xFFFFFFFF ∧
          (∀ j, j < 8 → j ≠ l → lrPower t j = lrPower s j) ∧ (kind = 2 → flag t F.LRP.STATUS_TOTAL_SHED = true) ∧
          OnlyParts [.regs, .lrp, .cont] s t)) ∧
    (∀ c : Caller, Admitted c [roleOperator] s →
      (lrPower s l ≠ 4 →
        (∃ t, Machine.exec (.powerOff c l) s = .next t ∧ lrPower t l = 4 ∧ getF t (F.LRP.PORT_POWER_MW l) = 0 ∧
          t.lrp.detectAt[l]? = some none ∧ getF t F.LRP.CMD_RESULT_RESULT = resOk ∧ OnlyParts [.regs, .lrp, .sec] s t ∧
          (∀ j, j < 8 → j ≠ l → lrPower t j = lrPower s j)) ∧
        (∃ t, Machine.exec (.powerOn c l) s = .next t ∧ t.lrp = s.lrp ∧ lrPower t l = lrPower s l ∧
          getF t F.LRP.CMD_RESULT_RESULT = resIllegal)) ∧
      (lrPower s l = 4 →
        (∃ t, Machine.exec (.powerOn c l) s = .next t ∧ lrPower t l = 1 ∧ t.lrp.detectAt[l]? = some (some (stampNs s)) ∧
          getF t F.LRP.CMD_RESULT_RESULT = resOk ∧ OnlyParts [.regs, .lrp, .sec] s t) ∧
        (∃ t, Machine.exec (.powerOff c l) s = .next t ∧ t.lrp = s.lrp ∧ lrPower t l = 4 ∧
          getF t F.LRP.CMD_RESULT_RESULT = resIllegal)))

/-- While STN runs, an INPUT frame of an unknown station, or one of a station that is HALTED, from a wrong port or address
or of a wrong form, counts in MALFORMED_COUNT; else a body whose tag fails counts in AUTH_FAIL_COUNT, a sequence
number seen before in REPLAY_COUNT, an unknown exchange number in ECHO_FAIL_COUNT and an entry without a slot in
MALFORMED_COUNT, each leaving every station as it was; an older new number counts in LATE_COUNT and is marked seen;
beyond the tick's limit it counts in OVERLOAD_COUNT. With a new highest number the frame makes the station ACTIVE, or
ABSENT with cause LEAVE where it leaves, shows its sequence and status and counts in ST_IN_FRAMES. STATION_ABSENT
makes a station ABSENT with cause LINK without link, and MISS at its limit of misses. STATION_SUMMARY stages a SUMMARY
entry on ring 8 at the station's tick. (14_ports_and_stations.md R365, 14_ports_and_stations.md R371,
14_ports_and_stations.md R372, 20_host_port.md R501) -/
def Obligations.StationsAreHeardAndLost : Prop :=
  ∀ s : State, WellKept s → stnRuns s = true → keysRise s.stn.stations = true →
    let turnedAway := fun (t : State) (n : Field) => t.stn = s.stn ∧ t.pimg = s.pimg ∧ getF t n = min (getF s n + 1) 0xFFFFFFFF ∧
      OnlyParts [.regs, .cont] s t ∧ OnlyFields [n] s t
    (∀ f : InputFrame, stationCfg s (u16 f.payload 8) = none →
      ∃ t, Machine.exec (.inputFrame f) s = .next t ∧ turnedAway t F.STN.MALFORMED_COUNT) ∧
    (∀ (f : InputFrame) (c : StationCfg), stationCfg s (u16 f.payload 8) = some c → c.station < 4096 →
      (stnState s c.station).state = stnHalted ∨ onAttachment c f.port = false ∨ c.address ≠ f.address ∨
        f.contextError = none ∧ frameForm f.payload = false →
      ∃ t, Machine.exec (.inputFrame f) s = .next t ∧ turnedAway t F.STN.MALFORMED_COUNT) ∧
    (∀ (f : InputFrame) (c : StationCfg), stationCfg s (u16 f.payload 8) = some c → c.station < 4096 →
      (stnState s c.station).state ≠ stnHalted → onAttachment c f.port = true → c.address = f.address → f.contextError = none →
      frameForm f.payload = true →
      let n := c.station
      let x := stnState s n
      let q := u64 f.payload 20
      (frameBody s c f.payload = none → ∃ t, Machine.exec (.inputFrame f) s = .next t ∧ turnedAway t F.STN.AUTH_FAIL_COUNT) ∧
      (∀ body, frameBody s c f.payload = some body →
        (sequenceFresh x q = false → ∃ t, Machine.exec (.inputFrame f) s = .next t ∧ turnedAway t F.STN.REPLAY_COUNT) ∧
        (sequenceFresh x q = true → echoFresh x (u32 f.payload 28) = false →
          ∃ t, Machine.exec (.inputFrame f) s = .next t ∧ turnedAway t F.STN.ECHO_FAIL_COUNT) ∧
        (sequenceFresh x q = true → echoFresh x (u32 f.payload 28) = true →
          let named := ∀ e ∈ bodyEntries body, (entrySlot c (u8 f.payload 6) e).isSome = true
          (¬ named → ∃ t, Machine.exec (.inputFrame f) s = .next t ∧ turnedAway t F.STN.MALFORMED_COUNT) ∧
          (named → q ≤ x.high → ∃ t, Machine.exec (.inputFrame f) s = .next t ∧ t.pimg = s.pimg ∧
            getF t F.STN.LATE_COUNT = min (getF s F.STN.LATE_COUNT + 1) 0xFFFFFFFF ∧ (stnState t n).high = x.high ∧
            (stnState t n).state = x.state ∧ sequenceFresh (stnState t n) q = false ∧ OnlyParts [.regs, .stn] s t) ∧
          (named → x.high < q → 1024 ≤ s.stn.applied → ∃ t, Machine.exec (.inputFrame f) s = .next t ∧ t.pimg = s.pimg ∧
            getF t F.STN.OVERLOAD_COUNT = min (getF s F.STN.OVERLOAD_COUNT + 1) 0xFFFFFFFF ∧ t.stn.stations = s.stn.stations ∧
            OnlyParts [.regs, .stn, .cont] s t) ∧
          (named → x.high < q → s.stn.applied < 1024 →
            ∃ t, Machine.exec (.inputFrame f) s = .next t ∧ (stnState t n).high = q ∧ t.stn.applied = s.stn.applied + 1 ∧
              (u8 f.payload 7 % 2 = 0 → (stnState t n).state = stnActive) ∧
              (u8 f.payload 7 % 2 = 1 → canLose s n = true → (stnState t n).state = stnAbsent ∧ (stnState t n).cause = 3) ∧
              getF t (F.STN.ST_IN_FRAMES n) = min (getF s (F.STN.ST_IN_FRAMES n) + 1) 0xFFFFFFFF ∧
              getF t (F.STN.ST_STATUS n) = u32 body 8 % 2 ^ 32 ∧ getF t (F.STN.ST_UP_SEQ_LO n) = lo32 q ∧
              (∀ m, m ≠ n → stnState t m = stnState s m) ∧ OnlyParts [.regs, .pimg, .net, .stn, .cont, .host] s t)))) ∧
    (∀ (n : Nat) (c : StationCfg), stationCfg s n = some c → n < 4096 →
      (canLose s n = true → (attachmentUp s c = false ∨ c.missLimit ≤ (stnState s n).misses) →
        ∃ t, Machine.exec (.stationAbsent n) s = .next t ∧ (stnState t n).state = stnAbsent ∧
          (stnState t n).cause = (if attachmentUp s c = true then 1 else 2) ∧ (∀ m, m ≠ n → stnState t m = stnState s m) ∧
          OnlyParts [.regs, .pimg, .net, .stn, .cont, .host] s t) ∧
      (canLose s n = false ∨ (attachmentUp s c = true ∧ (stnState s n).misses < c.missLimit) →
        Machine.exec (.stationAbsent n) s = .next s) ∧
      (s.tick.number % 8000 = n → ∃ t, Machine.exec (.stationSummary n) s = .next t ∧ OnlyParts [.regs, .cont, .host] s t ∧
        (ringProduces s 8 = true → keysRise s.host.staging = true → (tableGet [] s.host.staging 8).length < 4096 →
          tableGet [] t.host.staging 8 = tableGet [] s.host.staging 8 ++ [{
            index := getF s (F.HOST.NEXT_INDEX 8), typ := 2, length := 28, stamp := nowStamp s, body := stationWords s n }])) ∧
      (s.tick.number % 8000 ≠ n → Machine.exec (.stationSummary n) s = .next s))

/-- On a used port that is not off nor bus-off while CAN runs: a frame counts in RX_FRAMES; a remote frame counts in
RX_ERRORS and one that no filter takes in RX_UNMATCHED, and neither touches a buffer or a point. A data frame taken
for an RX buffer that is not HALTED shows in it as one step: identifier, DLC, data, NEW_DATA and the next SEQ, its age
runs anew, and it is AGED no more; a high-priority filter fills buffer 128 and raises the port's cause. MESSAGE_AGED
at its age limit makes an RX buffer AGED and its points absent in the snapshot too. (15_can.md R388, 15_can.md R390,
15_can.md R391) -/
def Obligations.CanFramesReceived : Prop :=
  ∀ (c : Nat) (p : CanPortCfg) (s : State), WellKept s → c < 4 → canCfg s c = some p → canRuns s = true →
    (∀ f : CanFrame, canMode s c ≠ 0 → canError s c < 2 → getF s (F.CAN.ERROR_COUNTERS_REC c) ≤ 127 →
      let counted := fun (t : State) => getF t (F.CAN.RX_FRAMES c) = min (getF s (F.CAN.RX_FRAMES c) + 1) 0xFFFFFFFF
      (f.remote = true → ∃ t, Machine.exec (.canFrameRx c f) s = .next t ∧ counted t ∧
        getF t (F.CAN.RX_ERRORS c) = min (getF s (F.CAN.RX_ERRORS c) + 1) 0xFFFFFFFF ∧ OnlyParts [.regs, .cont] s t) ∧
      (f.remote = false → filterFor p f = none → ∃ t, Machine.exec (.canFrameRx c f) s = .next t ∧ counted t ∧
        getF t (F.CAN.RX_UNMATCHED c) = min (getF s (F.CAN.RX_UNMATCHED c) + 1) 0xFFFFFFFF ∧ OnlyParts [.regs, .cont] s t) ∧
      (∀ (x : CanFilter) (b : CanBufCfg), f.remote = false → filterFor p f = some x → bufCfg p x.buffer = some b → b.buffer < 128 →
        bufHalted s c b.buffer = false → f.bufferError = none → f.dlc < 16 → f.id < 2 ^ 29 →
        keysRise (canPort s c).ages = true →
        ∃ t, Machine.exec (.canFrameRx c f) s = .next t ∧ counted t ∧ flag t (F.CAN.BUF_STATUS_NEW_DATA c b.buffer) = true ∧
          getF t (F.CAN.BUF_STATUS_SEQ c b.buffer) = (getF s (F.CAN.BUF_STATUS_SEQ c b.buffer) + 1) % 256 ∧
          getF t (F.CAN.BUF_STATUS_DLC c b.buffer) = f.dlc ∧ flag t (F.CAN.BUF_STATUS_AGED c b.buffer) = false ∧
          getF t (F.CAN.BUF_ID c b.buffer) = bufIdWord f.id f.fdf f.brs f.ide ∧
          (∀ k, k < 16 → getF t (F.CAN.BUF_DATA c b.buffer k) = f.data % 2 ^ (8 * dlcBytes f.dlc) / 2 ^ (32 * k) % 2 ^ 32) ∧
          (tableGet {} (canPort t c).ages b.buffer).since = s.tick.number + 1 ∧
          (x.highPriority = true → bitF t F.HOST.INT_CAUSE_CAN_HP c = true ∧ flag t (F.CAN.BUF_STATUS_NEW_DATA c 128) = true ∧
            getF t (F.CAN.BUF_ID c 128) = bufIdWord f.id f.fdf f.brs f.ide))) ∧
    (∀ (b : Nat) (x : CanBufCfg), inState s .live = true → bufCfg p b = some x → b < 128 → flag s (F.CAN.BUF_STATUS_AGED c b) = false →
      (ageDue s c x = true → ∃ t, Machine.exec (.messageAged c b) s = .next t ∧ flag t (F.CAN.BUF_STATUS_AGED c b) = true ∧
        OnlyParts [.regs, .pimg, .can, .cont] s t ∧ (∀ g ∈ bufSignals p x, snapPoint t g.point = livePoint t g.point ∧
          (imageUp s = true → (pointCfg s g.point).isSome = true → hasCond (pointCond t g.point).conds condAbsent = true))) ∧
      (ageDue s c x = false → Machine.exec (.messageAged c b) s = .next s))

/-- On a used port: in LIVE a window that contains the present instant, with none open, opens and shows its number and
cycle; REFERENCE on a NORMAL port makes the reference message pending. At a window's end, and not within it, a cell,
or a pending reference, without its frame sent counts as missed. A frame sent by a NORMAL port leaves the wire, counts
in TX_FRAMES and Q_SENT and lowers TEC. A bus error shows TEC and REC; above 255 the port is bus-off, or recovering
under AUTO_RECOVER, counted, and its RX buffers AGED; recovery over, it is error-active. SEND appends a message to the
host queue or is EXHAUSTED; RECOVER starts recovery. (15_can.md R395, 15_can.md R396, 15_can.md R398, 15_can.md R399,
15_can.md R400, 15_can.md R401, 15_can.md R407) -/
def Obligations.CanWindowsSendsAndErrors : Prop :=
  ∀ (c : Nat) (p : CanPortCfg) (s : State), WellKept s → c < 4 → canCfg s c = some p → (∀ b ∈ p.buffers, b.buffer < 128) →
    let q := canPort s c
    let others := fun (t : State) => ∀ d, d ≠ c → canPort t d = canPort s d
    (∀ k w, inState s .live = true → canRuns s = true → p.tt = true → p.windows[k]? = some w → k < 64 →
      (q.window = none → (windowSpan s p w).1 ≤ nowNs s 1 → nowNs s 1 < (windowSpan s p w).2 →
        ∃ t, Machine.exec (.canWindowStart c k) s = .next t ∧ (canPort t c).window = some k ∧
          getF t (F.CAN.CYCLE_WINDOW c) = k ∧ getF t (F.CAN.CYCLE_COUNT c) = cycleCount s p ∧ others t ∧ OnlyParts [.regs, .can] s t ∧
          (canMode s c = 1 → w.kind = 1 → q.awaitCurtain = false → (canPort t c).reference =
            some (cycleCount s p + 256 * ((s.tick.number - cycleTick s p) % 2 ^ 24), (windowSpan s p w).1))) ∧
      (q.window ≠ none ∨ nowNs s 1 < (windowSpan s p w).1 ∨ (windowSpan s p w).2 ≤ nowNs s 1 →
        Machine.exec (.canWindowStart c k) s = .next s)) ∧
    (∀ k, q.window = some k → windowOver s p k = true → ∃ t, Machine.exec (.canWindowEnd c) s = .next t ∧ (canPort t c).window = none ∧ others t ∧
      OnlyParts [.regs, .can, .cont] s t ∧
      (canMode s c = 1 → (p.windows.getD k {}).kind = 2 → p.matrix.getD (64 * getF s (F.CAN.CYCLE_COUNT c) + k) 0xFF ≠ 0xFF →
        getF t (F.CAN.WINDOW_MISSED c) = (if q.complete then getF s (F.CAN.WINDOW_MISSED c)
          else min (getF s (F.CAN.WINDOW_MISSED c) + 1) 0xFFFFFFFF)) ∧
      (canMode s c = 1 → (p.windows.getD k {}).kind = 1 → q.reference ≠ none → q.complete = false →
        (canPort t c).reference = none ∧ getF t (F.CAN.REF_MISSED c) = min (getF s (F.CAN.REF_MISSED c) + 1) 0xFFFFFFFF)) ∧
    ((q.window = none ∨ ∃ k, q.window = some k ∧ windowOver s p k = false) → Machine.exec (.canWindowEnd c) s = .next s) ∧
    (∀ w, q.onWire = some w → canRuns s = true → canMode s c = 1 → (∀ b, w.source = .scheduled b ∨ w.source = .periodic b → b < 128) →
      getF s (F.CAN.ERROR_COUNTERS_TEC c) ≤ 256 →
      ∃ t, Machine.exec (.canFrameSent c) s = .next t ∧ (canPort t c).onWire = none ∧ (canPort t c).complete = true ∧ others t ∧
        getF t (F.CAN.TX_FRAMES c) = min (getF s (F.CAN.TX_FRAMES c) + 1) 0xFFFFFFFF ∧
        getF t (F.CAN.Q_SENT (4 * c + sourceQueue w.source)) =
          min (getF s (F.CAN.Q_SENT (4 * c + sourceQueue w.source)) + 1) 0xFFFFFFFF ∧
        getF t (F.CAN.ERROR_COUNTERS_TEC c) = getF s (F.CAN.ERROR_COUNTERS_TEC c) - 1 ∧
        (w.source = .host → (canPort t c).host = q.host.drop 1) ∧ (w.source = .reference → (canPort t c).reference = none)) ∧
    ((q.onWire = none ∨ canRuns s = false ∨ canMode s c ≠ 1) → Machine.exec (.canFrameSent c) s = .next s) ∧
    (∀ tec rec, canRuns s = true → canMode s c ≠ 0 → canError s c < 2 → tec ≤ 256 → rec ≤ 255 →
      ∃ t, Machine.exec (.canBusError c tec rec) s = .next t ∧ (canPort t c).onWire = none ∧ others t ∧
        getF t (F.CAN.ERROR_COUNTERS_TEC c) = tec ∧ getF t (F.CAN.ERROR_COUNTERS_REC c) = rec ∧
        (tec ≤ 255 → canError t c = (if 128 ≤ tec ∨ 128 ≤ rec then 1 else 0) ∧ OnlyParts [.regs, .can, .cont] s t) ∧
        (255 < tec → canError t c = (if p.autoRecover then 3 else 2) ∧ (canPort t c).recoverFrom = nowNs s 1 ∧
          getF t (F.CAN.BUS_OFF_COUNT c) = min (getF s (F.CAN.BUS_OFF_COUNT c) + 1) 0xFFFFFFFF ∧
          flag t F.CAN.STATUS_BUS_OFF_ANY = true ∧
          ∀ b ∈ p.buffers, b.kind = 0 → flag t (F.CAN.BUF_STATUS_AGED c b.buffer) = true)) ∧
    (canError s c = 3 → q.recoverFrom + (1408 * nominalBit p + 1) / 2 ≤ nowNs s 1 →
      ∃ t, Machine.exec (.recoveryDone c) s = .next t ∧ canError t c = 0 ∧ getF t (F.CAN.ERROR_COUNTERS_TEC c) = 0 ∧
        getF t (F.CAN.ERROR_COUNTERS_REC c) = 0 ∧ OnlyParts [.regs, .can] s t) ∧
    (canError s c ≠ 3 ∨ nowNs s 1 < q.recoverFrom + (1408 * nominalBit p + 1) / 2 → Machine.exec (.recoveryDone c) s = .next s) ∧
    (∀ u : Caller, inState s .live = true →
      (Admitted u [roleEngineer] s → role s ≤ 1 → canError s c ≠ 2 → canMode s c ≠ 2 → getF s (F.CAN.HTX_CTRL c) < 128 →
        (getF s (F.CAN.HTX_CTRL c) / 16 % 2 = 1 ∨ getF s (F.CAN.HTX_CTRL c) % 16 ≤ 8) →
        (q.host.length < 32 → ∃ t m, Machine.exec (.send u c 0) s = .next t ∧ (canPort t c).host = q.host ++ [m] ∧
          m.id = getF s (F.CAN.HTX_ID c) ∧ m.ctrl = getF s (F.CAN.HTX_CTRL c) ∧ m.launch = nowNs s 1 ∧ others t ∧
          getF t (F.CAN.Q_FILL (4 * c)) = q.host.length + 1 ∧ getF t F.CAN.CMD_RESULT_RESULT = resOk ∧
          OnlyParts [.regs, .can, .sec] s t) ∧
        (32 ≤ q.host.length → ∃ t, Machine.exec (.send u c 0) s = .next t ∧ t.can = s.can ∧
          getF t F.CAN.CMD_RESULT_RESULT = resExhausted ∧
          getF t (F.CAN.Q_REFUSED (4 * c)) = min (getF s (F.CAN.Q_REFUSED (4 * c)) + 1) 0xFFFFFFFF)) ∧
      (Admitted u [roleOperator] s → p.autoRecover = false →
        (canError s c = 2 → ∃ t, Machine.exec (.recover u c 0) s = .next t ∧ canError t c = 3 ∧
          (canPort t c).recoverFrom = nowNs s 1 ∧ getF t F.CAN.CMD_RESULT_RESULT = resOk ∧ OnlyParts [.regs, .can, .sec] s t) ∧
        (canError s c ≠ 2 → ∃ t, Machine.exec (.recover u c 0) s = .next t ∧ t.can = s.can ∧ canError t c = canError s c ∧
          getF t F.CAN.CMD_RESULT_RESULT = resIllegal)))

/-- With a pair's Reel: a confirmed grant level shows in GRANT, a rise is counted, a fall forces ON_AIR low and makes a
LEAD in LIVE a STAND_IN that joins; a lost Ringmaster latches the grant, which then ignores changes until it returns,
and a Lead whose health is FAILED stands down (the model's choice, log entry 118). A STAND_IN with the grant high and
the peer off air becomes LEAD on air. In ARMED with the reference BEAT toggles. Off air OUTPUT_RELEASE de-energises
the wired outputs. The Ringmaster grants the side R418 chooses, releases a failing side's grant towards a side that is
alive and READY, keeps it otherwise, and raises the new one 62.5 microseconds later. (16_spotlight.md R413,
16_spotlight.md R416, 16_spotlight.md R418, 16_spotlight.md R419, 16_spotlight.md R427, 16_spotlight.md R428) -/
def Obligations.GrantsMoveTheLead : Prop :=
  (∀ s : State, WellKept s → pairReel s = true →
    (∀ (level : Bool) (side : Nat) (peer : Bool), flag s F.SPOT.STATUS_RM_LATCHED = false →
      ∃ t, Machine.exec (.grantConfirmed level side peer) s = .next t ∧ flag t F.SPOT.INTERLOCK_GRANT = level ∧
        flag t F.SPOT.INTERLOCK_PEER_ON_AIR = peer ∧ getF t F.SPOT.STATUS_SIDE = side % 2 ∧
        (level = true → flag s F.SPOT.INTERLOCK_GRANT = false → OnlyParts [.regs] s t ∧
          getF t F.SPOT.SWITCH_COUNT = min (getF s F.SPOT.SWITCH_COUNT + 1) 0xFFFFFFFF) ∧
        (level = false → flag t F.SPOT.INTERLOCK_ON_AIR = false ∧ (inState s .live = true → role s = 1 →
          t.dev.state = .live ∧ t.spot.joining = true ∧ t.spot.sending = false))) ∧
    (∀ (level : Bool) (side : Nat) (peer : Bool), flag s F.SPOT.STATUS_RM_LATCHED = true →
      Machine.exec (.grantConfirmed level side peer) s = .next s ∧ Machine.exec .ringmasterLost s = .next s ∧
      ∃ t, Machine.exec (.ringmasterReturned level side peer) s = .next t ∧ flag t F.SPOT.STATUS_RM_LATCHED = false ∧
        flag t F.SPOT.INTERLOCK_GRANT = level ∧
        (flag s F.SPOT.INTERLOCK_GRANT = level → OnlyParts [.regs, .cont, .host] s t)) ∧
    (flag s F.SPOT.STATUS_RM_LATCHED = false →
      (∃ t, Machine.exec .ringmasterLost s = .next t ∧ flag t F.SPOT.STATUS_RM_LATCHED = true ∧
        getF t F.SPOT.INTERLOCK_GRANT = getF s F.SPOT.INTERLOCK_GRANT ∧
        (inState s .live = false ∨ role s ≠ 1 ∨ moduleHealth s ≠ 2 → OnlyParts [.regs, .cont, .host] s t) ∧
        (inState s .live = true → role s = 1 → moduleHealth s = 2 →
          flag t F.SPOT.INTERLOCK_ON_AIR = false ∧ t.spot.joining = true)) ∧
      ∀ level side peer, Machine.exec (.ringmasterReturned level side peer) s = .next s) ∧
    (∃ t, Machine.exec .outputRelease s = .next t ∧ flag t F.SPOT.INTERLOCK_PEER_ON_AIR = true ∧ OnlyParts [.regs, .lio] s t ∧
      (flag s F.SPOT.INTERLOCK_ON_AIR = true → t.lio = s.lio) ∧
      (flag s F.SPOT.INTERLOCK_ON_AIR = false → t.lio.doOn = [] ∧ t.lio.aoOut = [])) ∧
    (inState s .armed = true → s.dev.referenceLost = false → ∃ t, Machine.exec .armedBeat s = .next t ∧
      flag t F.SPOT.INTERLOCK_BEAT = (getF s F.SPOT.INTERLOCK_BEAT == 0) ∧ OnlyParts [.regs] s t ∧
      OnlyFields [F.SPOT.INTERLOCK_BEAT] s t) ∧
    (inState s .armed = false ∨ s.dev.referenceLost = true → Machine.exec .armedBeat s = .next s)) ∧
  (∀ s : State, WellKept s → inState s .live = true → role s = 2 → flag s F.SPOT.INTERLOCK_GRANT = true → s.tick.curtainDone = false →
    Machine.exec (.spotLead true) s = .next s ∧
    (∃ t, Machine.exec (.spotLead false) s = .next t ∧ t.dev = s.dev ∧ t.tick.number = s.tick.number ∧ t.txn = s.txn ∧
      t.cfg = s.cfg ∧ t.spot.joining = false ∧ t.spot.sending = false ∧ (exchanging s = false → loopsInjecting s = 0 →
        (∀ c ∈ (loopsSec s).loops, c.loop < 1024) →
        role t = 1 ∧ flag t F.SPOT.INTERLOCK_ON_AIR = true ∧ getF t F.SPOT.STATUS_STANDIN_STATE = 0))) ∧
  (∀ s : State, WellKept s → ringmaster s = true →
    let granted := fun (t : State) (g : Nat) => getF t F.SPOT.STATUS_GRANTED = g ∧ getF t F.SPOT.INTERLOCK_RM_OUT % 4 = g
    (∀ a b : SideInputs, getF s F.SPOT.STATUS_GRANTED = 0 → s.spot.moving = none →
      (∀ g, startChoice s a b = some g → ∃ t, Machine.exec (.ringmasterStartGrant a b) s = .next t ∧ granted t g ∧
        getF t F.SPOT.SWITCH_COUNT = min (getF s F.SPOT.SWITCH_COUNT + 1) 0xFFFFFFFF ∧ OnlyParts [.regs, .spot] s t) ∧
      (startChoice s a b = none → ∃ t, Machine.exec (.ringmasterStartGrant a b) s = .next t ∧
        getF t F.SPOT.STATUS_GRANTED = 0 ∧ OnlyParts [.regs] s t)) ∧
    (∀ (a b : SideInputs) (g : Nat), getF s F.SPOT.STATUS_GRANTED = g → g = 1 ∨ g = 2 →
      let own := if g = 1 then a else b
      let other := if g = 1 then b else a
      ∃ t, Machine.exec (.grantMoved a b) s = .next t ∧ OnlyParts [.regs, .spot, .cont] s t ∧
        (∀ k, sideFailure (s.spot.airSeen || own.air) own = some k → sideAlive other = true → other.ready = true →
          granted t 0 ∧ t.spot.moving = some (3 - g, nowNs s 1)) ∧
        (∀ k, sideFailure (s.spot.airSeen || own.air) own = some k → (sideAlive other && other.ready) = false →
          getF t F.SPOT.STATUS_GRANTED = g ∧ t.spot.moving = s.spot.moving ∧ t.spot.noStandby = true) ∧
        (sideFailure (s.spot.airSeen || own.air) own = none →
          getF t F.SPOT.STATUS_GRANTED = g ∧ t.spot.moving = s.spot.moving ∧ t.spot.noStandby = false)) ∧
    (∀ g at_, s.spot.moving = some (g, at_) → g = 1 ∨ g = 2 →
      (at_ + 62500 ≤ nowNs s 1 → ∃ t, Machine.exec .grantRaise s = .next t ∧ granted t g ∧ t.spot.moving = none ∧
        getF t F.SPOT.SWITCH_COUNT = min (getF s F.SPOT.SWITCH_COUNT + 1) 0xFFFFFFFF ∧ OnlyParts [.regs, .spot] s t) ∧
      (nowNs s 1 < at_ + 62500 → Machine.exec .grantRaise s = .next s)))

/-- A LEAD in LIVE takes an authentic, new JOIN_REQUEST and sends deltas with BULK from then on; a frame whose tag fails,
on either side, only counts in MIRROR_MISS_COUNT, and so does one that is not newer. With a pair's Reel whose KIND 0
tunables name TK fields, a STAND_IN takes the frames of its present tick's delta once: it shows the tick and phase
error and is OUT_OF_STEP, joining afresh, where phase or delay is too large; a delta of another tick has no effect. A
module that joins, from ARMED or in LIVE, is in LIVE and JOINING after the join Curtain's delta, or CATCHING_UP with
the last BULK item. A miss counts, and at its limit the Stand-in is OUT_OF_STEP. With the pair key a sealed RETURN
frame goes out once in a tick, not before 20 microseconds, with the next count; the LEAD takes newer ones alone, and
declares a lost peer absent. HANDOVER and REJOIN, accepted, mark the handover and start a join. An entry made durable
goes marked into the Splice log with its CHAIN. (16_spotlight.md R420, 16_spotlight.md R421, 16_spotlight.md R422,
16_spotlight.md R424, 16_spotlight.md R425, 16_spotlight.md R430, 04_takes.md R91, 04_takes.md R97) -/
def Obligations.MirrorBetweenLeadAndStandIn : Prop :=
  ∀ s : State, WellKept s →
    let missed := fun (t : State) (k : Nat) => getF t F.SPOT.MIRROR_MISS_COUNT = min (getF s F.SPOT.MIRROR_MISS_COUNT + k) 0xFFFFFFFF
    let outOfStep := fun (t : State) => getF t F.SPOT.STATUS_STANDIN_STATE = 4 ∧ t.spot.joining = true
    let tkOnly := ∀ id u f, tunableOf s id = some u → targetField u = some f → f.access = .tk
    (inState s .live = true → role s = 1 →
      (∀ j : JoinRequest,
        let stale := s.spot.peerSerial = j.sender ∧ s.spot.peerEpoch = j.epoch ∧ j.count ≤ s.spot.returnCount
        (joinGenuine s j = true → ¬ stale → ∃ t, Machine.exec (.joinRequest j) s = .next t ∧ t.spot.sending = true ∧ t.spot.bulkDue = true ∧
          t.spot.peerSerial = j.sender ∧ t.spot.returnCount = j.count ∧
          getF t F.SPOT.JOIN_COUNT = min (getF s F.SPOT.JOIN_COUNT + 1) 0xFFFFFFFF ∧
          (flag t F.SPOT.STATUS_PROGRAM_EXCHANGE = true ↔ j.reelHash ≠ s.dev.reelHash) ∧ OnlyParts [.regs, .spot] s t) ∧
        (joinGenuine s j = false ∨ stale → ∃ t, Machine.exec (.joinRequest j) s = .next t ∧ missed t 1 ∧ OnlyParts [.regs] s t)) ∧
      (∀ f : ReturnFrame, s.spot.sending = true →
        (returnGenuine s f = true → s.spot.returnCount < f.count → f.takeDurable = none → ∃ t, Machine.exec (.returnFrame f) s = .next t ∧
          t.spot.returnCount = f.count ∧ t.spot.returnTick = s.tick.number ∧ t.spot.peerReady = f.ready ∧
          (f.ready = true → flag t F.SPOT.STATUS_PEER_PRESENT = true) ∧ OnlyParts [.regs, .spot] s t) ∧
        (returnGenuine s f = false ∨ f.count ≤ s.spot.returnCount → ∃ t, Machine.exec (.returnFrame f) s = .next t ∧ missed t 1 ∧
          OnlyParts [.regs] s t) ∧
        (∀ id a, returnGenuine s f = true → s.spot.returnCount < f.count → f.takeDurable = some id → s.txn.ahead = some a → a.stage = 2 →
          getF s (F.TXN.SLOT_TAKE_ID a.slot) = id → ∃ t, Machine.exec (.returnFrame f) s = .next t ∧
          t.txn.ahead = some { a with stage := 3, startedNs := stampNs s, durable := true })) ∧
      (∀ k, peerLostCause s = some k → ∃ t, Machine.exec .peerLost s = .next t ∧ flag t F.SPOT.STATUS_PEER_PRESENT = false ∧
        flag t F.SPOT.STATUS_PROGRAM_EXCHANGE = false ∧ t.spot.sending = false ∧ t.spot.peerReady = false) ∧
      (peerLostCause s = none → Machine.exec .peerLost s = .next s) ∧
      (∀ c : Caller, Admitted c [roleEngineer] s → healthyStandIn s = true → ∃ t, Machine.exec (.handover c 0) s = .next t ∧
        t.spot = { s.spot with handover := true } ∧ getF t F.SPOT.CMD_RESULT_RESULT = resOk ∧ OnlyParts [.regs, .spot, .sec] s t)) ∧
    (pairReel s = true → (∀ c ∈ (loopsSec s).loops, c.loop < 1024) → tkOnly →
      (inState s .armed = true ∨ inState s .live = true ∧ role s = 2) → ∀ (frames : List MirrorFrame) (rxNs : Nat),
      ((∀ f ∈ frames, deltaGenuine s f = false) → ∃ t, Machine.exec (.mirrorDelta frames rxNs) s = .next t ∧ missed t frames.length ∧
        OnlyParts [.regs] s t) ∧
      (∀ d, (∀ f ∈ frames, deltaGenuine s f = true) → gatherFrames frames rxNs = some d →
        (s.spot.joining = true → ∃ t, Machine.exec (.mirrorDelta frames rxNs) s = .next t ∧ t.spot.joining = false ∧ t.dev.state = .live ∧
          getF t F.SPOT.STATUS_STANDIN_STATE = (if d.lastBulk then 2 else 1)) ∧
        (inState s .live = true → s.spot.joining = false → s.tick.number = d.tick → s.spot.mirrored.tick ≠ d.tick →
          ∃ t, Machine.exec (.mirrorDelta frames rxNs) s = .next t ∧ getF t F.SPOT.LAST_TICK_LO = lo32 d.tick ∧
            getF t F.SPOT.SYNC_ERROR = ofSigned 32 (clampI32 (mirrorPhase s d).1) ∧
            ((spotCfg s).stepLimitNs < (mirrorPhase s d).1.natAbs ∨ 2500 < (mirrorPhase s d).2 → outOfStep t)) ∧
        (s.spot.joining = false → (s.tick.number ≠ d.tick ∨ s.spot.mirrored.tick = d.tick) →
          ∃ t, Machine.exec (.mirrorDelta frames rxNs) s = .next t ∧ missed t 0 ∧ OnlyParts [.regs] s t ∧
            OnlyFields [F.SPOT.MIRROR_MISS_COUNT] s t))) ∧
    (inState s .live = true → role s = 2 →
      (s.spot.joining = false → s.spot.mirrored.tick + 1 < s.tick.number → s.spot.missedTick ≠ s.tick.number →
        ∃ t, Machine.exec .mirrorMiss s = .next t ∧ missed t 1 ∧
          (s.spot.misses + 1 < (spotCfg s).missLimit → t.spot.misses = s.spot.misses + 1 ∧ t.spot.joining = false) ∧
          ((spotCfg s).missLimit ≤ s.spot.misses + 1 → outOfStep t)) ∧
      (s.tick.number ≤ s.spot.mirrored.tick + 1 → Machine.exec .mirrorMiss s = .next s) ∧
      (hasPairKey s = true → s.spot.sentTick ≠ some s.tick.number → ∃ t f, Machine.exec .returnSend s = .next t ∧
        t.spot.sentReturn = some f ∧ f.count = s.spot.sentCount + 1 ∧
        t.spot.sentCount = f.count ∧ f.tick = s.spot.mirrored.tick ∧ f.standInState = getF s F.SPOT.STATUS_STANDIN_STATE ∧
        f.t3 = nowNs t 1 ∧ t.tick.cycle = max s.tick.cycle 10000 ∧
        f.tag = returnTag (standInKey t t.spot.peerSerial t.spot.peerEpoch) (serialNumber t) (getF t F.CLAP.POWER_EPOCH) f ∧
        OnlyParts [.spot, .clap, .tick] s t) ∧
      (hasPairKey s = false ∨ s.spot.sentTick = some s.tick.number → Machine.exec .returnSend s = .next s) ∧
      (∀ c : Caller, Admitted c [roleEngineer] s → ∃ t, Machine.exec (.rejoin c 0) s = .next t ∧ t.spot.joining = true ∧
        getF t F.SPOT.STATUS_STANDIN_STATE = 1 ∧ getF t F.SPOT.CMD_RESULT_RESULT = resOk) ∧
      (∀ e rest, s.txn.arriving = e :: rest →
        (∃ t, Machine.exec (.mirroredEntryDurable true) s = .next t ∧ t.txn.arriving = rest ∧
          t.txn.log = s.txn.log ++ [{ e with
            mark := .marked, chain := chainOf (lastChain (logHash s) s.txn.log) { e with mark := .marked } }] ∧
          t.txn.held = s.txn.held ++ [(e, s.clap.cycles)] ∧ (t.spot.sentReturn.bind ReturnFrame.takeDurable) = some e.takeId) ∧
        (∃ t, Machine.exec (.mirroredEntryDurable false) s = .next t ∧ t.txn = { s.txn with arriving := rest } ∧
          (present s 2 = true → unitHealth t 2 = 2))))

/-- Where the scrubber reaches a memory, a clean read only advances its walk, and completes a pass at the end; a
correctable error counts, shows CE_ANY and is in the table afterwards where an entry was free, matching or a CE; an
uncorrectable one found by the scrubber counts and has no owner act unless the memory is privileged, in LIVE at the
next Curtain; where a unit reads the word itself, the unit acts at once. Of a crossing that has left its reset, a
clock that has stood still for CROSS_TIMEOUT stalls its crossing, with the condition on every point it carries, until
both clocks run again. CLEAR_TABLE empties one memory's table, or all of them, SET_SCRUB sets a period within its
range; both refuse an absent memory. (17_memory_crossings_recovery.md R435, 17_memory_crossings_recovery.md R437,
17_memory_crossings_recovery.md R438, 17_memory_crossings_recovery.md R441, 17_memory_crossings_recovery.md R442,
17_memory_crossings_recovery.md R449, 17_memory_crossings_recovery.md R454) -/
def Obligations.MemoryErrorsAndCrossings : Prop :=
  ∀ s : State, WellKept s →
    (∀ (m : Nat) (req : Option Nat), s.mem.position.length = 9 →
      let pos := s.mem.position.getD m 0
      let walked := fun (t : State) => t.mem.position[m]? = some (if memBytes m ≤ pos + wordBytes m then 0 else pos + wordBytes m) ∧
        getF t (F.MEM.SCRUB_PASSES m) = (if memBytes m ≤ pos + wordBytes m
          then min (getF s (F.MEM.SCRUB_PASSES m) + 1) 0xFFFFFFFF else getF s (F.MEM.SCRUB_PASSES m))
      (scrubs s m = false → ∀ f, Machine.exec (.scrubRead m f req) s = .next s) ∧
      (scrubs s m = true → ∃ t, Machine.exec (.scrubRead m .clean req) s = .next t ∧ walked t ∧
        getF t (F.MEM.CE_COUNT m) = getF s (F.MEM.CE_COUNT m) ∧ OnlyParts [.regs, .mem, .cont] s t) ∧
      (∀ bits spare, scrubs s m = true → pos < 2 ^ 64 →
        ∃ t, Machine.exec (.scrubRead m (.correctable bits spare) req) s = .next t ∧ walked t ∧
          getF t (F.MEM.CE_COUNT m) = min (getF s (F.MEM.CE_COUNT m) + 1) 0xFFFFFFFF ∧ flag t F.MEM.STATUS_CE_ANY = true ∧
          OnlyParts [.regs, .mem, .cont, .host] s t ∧
          ((∃ i, i < 32 ∧ (entryUsed s m i = false ∨ flag s (F.MEM.ENT_INFO_KIND m i) = false ∨ entryAddr s m i = pos)) →
            ∃ i, i < 32 ∧ entryUsed t m i = true ∧ entryAddr t m i = pos)) ∧
      (∀ o : MemOwner, scrubs s m = true → (privileged m = false ∨ inState s .live = true) →
        ∃ t, Machine.exec (.scrubRead m (.uncorrectable o) none) s = .next t ∧ walked t ∧ flag t F.MEM.STATUS_UE_ANY = true ∧
          getF t (F.MEM.UE_COUNT m) = min (getF s (F.MEM.UE_COUNT m) + 1) 0xFFFFFFFF ∧
          t.mem.atCurtain = (if privileged m then s.mem.atCurtain ++ [(o, pos)] else s.mem.atCurtain) ∧
          OnlyParts [.regs, .mem, .cont, .host] s t) ∧
      (∀ u v : Nat, scrubs s m = true →
        ∃ t, Machine.exec (.scrubRead m (.uncorrectable (.unit u)) (some v)) s = .next t ∧ walked t ∧ flag t F.MEM.STATUS_UE_ANY = true ∧
          t.tick.forceFault = s.tick.forceFault ++ [u] ∧ t.mem.atCurtain = s.mem.atCurtain)) ∧
    (∀ g, g < 12 →
      let a := (groupClocks g).1
      let b := (groupClocks g).2
      let dead := if clockRuns s a = true then b else a
      (crossingReleased s g = true → clockRuns s dead = false → bitF s F.MEM.CROSS_STALL g = false →
        tableGet 0 s.pwr.stoppedAt dead + 500 * getF s F.MEM.CROSS_TIMEOUT ≤ s.clap.cycles →
        ∃ t, Machine.exec (.crossingStalled g) s = .next t ∧ bitF t F.MEM.CROSS_STALL g = true ∧ flag t F.MEM.STATUS_STALL_ANY = true ∧
          getF t F.MEM.CROSS_STALL_COUNT = min (getF s F.MEM.CROSS_STALL_COUNT + 1) 0xFFFFFFFF ∧
          (∀ i ∈ groupPoints s g, imageUp s = true → (pointCfg s i).isSome = true → hasCond (pointCond t i).conds condCrossing = true) ∧
          OnlyParts [.regs, .pimg, .mem, .cont] s t) ∧
      (crossingReleased s g = false ∨ clockRuns s dead = true ∨ bitF s F.MEM.CROSS_STALL g = true → Machine.exec (.crossingStalled g) s = .next s) ∧
      (∀ n, bitF s F.MEM.CROSS_STALL g = true → clockRuns s a = true → clockRuns s b = true →
        ∃ t, Machine.exec (.crossingResumed g n) s = .next t ∧ bitF t F.MEM.CROSS_STALL g = false ∧
          (∀ h, h < 12 → h ≠ g → bitF t F.MEM.CROSS_STALL h = bitF s F.MEM.CROSS_STALL h) ∧ OnlyParts [.regs, .cont] s t) ∧
      (∀ n, bitF s F.MEM.CROSS_STALL g = false → Machine.exec (.crossingResumed g n) s = .next s)) ∧
    (∀ c : Caller, Admitted c [roleEngineer] s → memLegal s = true →
      ∃ t, Machine.exec (.clearTable c 0xFF 0) s = .next t ∧ (∀ k i, k ≤ 8 → i < 32 → entryUsed t k i = false) ∧
        getF t F.MEM.CMD_RESULT_RESULT = resOk ∧ OnlyParts [.regs, .sec] s t) ∧
    (∀ (c : Caller) (m : Nat), Admitted c [roleEngineer] s → memLegal s = true → m ≤ 8 →
      (memPresent s m = true →
        (∃ t, Machine.exec (.clearTable c m 0) s = .next t ∧ getF t (F.MEM.TABLE_FILL m) = 0 ∧ (∀ i, i < 32 → entryUsed t m i = false) ∧
          (∀ k i, k ≤ 8 → i < 32 → k ≠ m → entryUsed t k i = entryUsed s k i ∧ entryAddr t k i = entryAddr s k i) ∧
          getF t F.MEM.CMD_RESULT_RESULT = resOk ∧ OnlyParts [.regs, .sec] s t) ∧
        (∀ n, (scrubRange m).1 ≤ n → n ≤ (scrubRange m).2 → ∃ t, Machine.exec (.setScrub c m n) s = .next t ∧
          getF t (F.MEM.SCRUB_PERIOD m) = n ∧ getF t F.MEM.CMD_RESULT_RESULT = resOk ∧ OnlyParts [.regs, .sec] s t) ∧
        (∀ n, (n < (scrubRange m).1 ∨ (scrubRange m).2 < n) → ∃ t, Machine.exec (.setScrub c m n) s = .next t ∧
          getF t (F.MEM.SCRUB_PERIOD m) = getF s (F.MEM.SCRUB_PERIOD m) ∧ getF t F.MEM.CMD_RESULT_RESULT = resBadArgument)) ∧
      (memPresent s m = false → ∀ n, (∃ t, Machine.exec (.clearTable c m 0) s = .next t ∧ getF t F.MEM.CMD_RESULT_RESULT = resUnitAbsent ∧
          OnlyParts [.regs, .cont, .sec] s t) ∧
        ∃ t, Machine.exec (.setScrub c m n) s = .next t ∧ getF t F.MEM.CMD_RESULT_RESULT = resUnitAbsent ∧
          OnlyParts [.regs, .cont, .sec] s t))

/-- RECORD_ADMIT takes the record that arrived first, of several in one cycle that of the lowest unit. An uncorrectable
error in CONT's state leaves the FIFO as it is and takes a module in LIVE to FAULT_SAFE. Where it is not limited, or
its bucket holds a token and the cap is not reached, with no summary pending, it is the newest of the volatile ring
under the next SEQUENCE; with an empty bucket it is counted as suppressed and pending and takes no number. A summary
that is due is written with its count and ends the run. FLUSH, or the timer with unpersisted records, starts a flush
of them, or lets one follow the flush that runs; a flush of one readable record puts it, marked persisted, into the
next slot. READ opens one read per ring, four at most; READ_DONE delivers as far as the ring has places and ends the
read with its last slot; READ_STOP ends it. (18_continuity.md R458, 18_continuity.md R461, 18_continuity.md R462,
18_continuity.md R463, 18_continuity.md R464, 18_continuity.md R465, 18_continuity.md R467, 18_continuity.md R469,
18_continuity.md R471) -/
def Obligations.RecordsAreNumberedAndFlushed : Prop :=
  ∀ s : State, WellKept s →
    (∀ (a : Arrival) (rest : List Arrival), nextArrival s = some (a, rest) → a.code < 65536 → flag s F.CONT.STATUS_EXHAUSTED = false →
      getF s F.CONT.NEXT_SEQUENCE < 0xFFFFFFFF →
      let used := if s.cont.capInterval = (if inState s .live = true then s.tick.number else now125 s) then s.cont.capUsed else 0
      ((unlimited a.code = true ∨ (8000 ≤ bucketTokens s a.code ∧ used < 1024 ∧ getF s (F.CONT.CODE_STATE_PENDING a.code) = 0)) →
        getF s F.CONT.VOL_UNPERSISTED < 49151 → s.cont.timerDue = false →
        ∃ t r, Machine.exec (.recordAdmit none) s = .next t ∧ t.cont.volatileRing.getLast? = some r ∧ r.code = a.code ∧ r.payload = a.payload ∧
          r.stamp = a.stamp ∧ r.seq = getF s F.CONT.NEXT_SEQUENCE ∧ r.role = role s ∧ r.summary = false ∧
          getF t F.CONT.NEXT_SEQUENCE = getF s F.CONT.NEXT_SEQUENCE + 1 ∧
          getF t F.CONT.VOL_UNPERSISTED = getF s F.CONT.VOL_UNPERSISTED + 1 ∧ OnlyParts [.regs, .cont, .host] s t) ∧
      (unlimited a.code = false → bucketTokens s a.code < 8000 → ∃ t, Machine.exec (.recordAdmit none) s = .next t ∧
        t.cont.arrivals = rest ∧ t.cont.volatileRing = s.cont.volatileRing ∧
        getF t F.CONT.NEXT_SEQUENCE = getF s F.CONT.NEXT_SEQUENCE ∧
        getF t F.CONT.SUPPRESSED_COUNT = min (getF s F.CONT.SUPPRESSED_COUNT + 1) 0xFFFFFFFF ∧
        getF t (F.CONT.CODE_STATE_PENDING a.code) = min (getF s (F.CONT.CODE_STATE_PENDING a.code) + 1) 0xFFFF ∧
        OnlyParts [.regs, .cont] s t)) ∧
    (s.cont.arrivals = [] → Machine.exec (.recordAdmit none) s = .next s) ∧
    (∀ addr, ∃ t l, Machine.exec (.recordAdmit (some addr)) s = .next t ∧ t.cont.arrivals = s.cont.arrivals ++ l ∧
      (inState s .live = true → t.dev.state = .faultSafe) ∧
      (inState s .live = false → OnlyParts [.regs, .cont, .host] s t ∧
        getF t (F.MEM.UE_COUNT 6) = min (getF s (F.MEM.UE_COUNT 6) + 1) 0xFFFFFFFF)) ∧
    (∀ code, code < 65536 →
      let x := tableGet {} s.cont.suppressed code
      let n := getF s (F.CONT.CODE_STATE_PENDING code)
      (n ≠ 0 → x.first125 + 8000 ≤ now125 s → flag s F.CONT.STATUS_EXHAUSTED = false → getF s F.CONT.NEXT_SEQUENCE < 0xFFFFFFFF →
        ∃ t r, Machine.exec (.summaryTimeout code) s = .next t ∧ t.cont.volatileRing.getLast? = some r ∧ r.summary = true ∧ r.code = code ∧
          r.payload = [n, x.firstTick, x.lastTick, 0] ∧ r.seq = getF s F.CONT.NEXT_SEQUENCE ∧
          getF t (F.CONT.CODE_STATE_PENDING code) = 0 ∧ OnlyParts [.regs, .cont, .host] s t) ∧
      (n = 0 ∨ now125 s < x.first125 + 8000 → Machine.exec (.summaryTimeout code) s = .next s)) ∧
    (let due := s.cont.lastFlushNs + flushSeconds s * 1000000000
     (due ≤ stampNs s → 0 < getF s F.CONT.VOL_UNPERSISTED → s.cont.flush = none → s.cont.suppressed = [] →
       ∃ t, Machine.exec .flushTimer s = .next t ∧ t.cont.flush = some { upTo := getF s F.CONT.VOL_UNPERSISTED, trigger := 1 } ∧
         flag t F.CONT.STATUS_FLUSHING = true ∧ OnlyParts [.regs, .cont] s t) ∧
     (stampNs s < due → Machine.exec .flushTimer s = .next s)) ∧
    (∀ c : Caller, Admitted c [roleOperator] s →
      (s.cont.flush = none → s.cont.suppressed = [] → ∃ t, Machine.exec (.flush c 0) s = .next t ∧
        t.cont.flush = some { upTo := getF s F.CONT.VOL_UNPERSISTED, trigger := 5 } ∧ getF t F.CONT.CMD_RESULT_RESULT = resOk) ∧
      (s.cont.flush ≠ none → ∃ t, Machine.exec (.flush c 0) s = .next t ∧ t.cont = { s.cont with queuedFlush := some 5 } ∧
        getF t F.CONT.CMD_RESULT_RESULT = resOk)) ∧
    (∀ (fl : Flush) (r : Rec), s.cont.flush = some fl → fl.trigger ≠ 4 → fl.upTo = 1 → getF s F.CONT.VOL_UNPERSISTED = 1 →
      s.cont.volatileRing.getLast? = some r → r.seq ∉ s.cont.unreadable.map Prod.fst → s.cont.lostRun = none →
      keysRise s.cont.persistent = true →
      let slot := (getF s F.CONT.PERSIST_HEAD + 1) % persistSlots
      ∃ t, Machine.exec (.flushDone 0) s = .next t ∧ getF t F.CONT.PERSIST_HEAD = slot ∧
        tableGet .erased t.cont.persistent slot = .held { r with persisted := true } ∧ t.cont.lastFlushNs = stampNs s ∧
        getF t F.CONT.FLUSH_COUNT = min (getF s F.CONT.FLUSH_COUNT + 1) 0xFFFFFFFF) ∧
    (s.cont.flush = none → ∀ n, Machine.exec (.flushDone n) s = .next s) ∧
    (∀ (c : Caller) (ring : Nat), Admitted c anyRole s → 9 ≤ ring → ring ≤ 15 →
      ((∀ r ∈ s.cont.reads, r.ring ≠ ring) →
        (∀ epoch seq, getF s (F.HOST.RING_CONFIG_FUNCTION ring) ≠ 2 → s.cont.reads.length < 4 →
          ∃ t x, Machine.exec (.contRead c ring epoch seq) s = .next t ∧ t.cont.reads = s.cont.reads ++ [x] ∧ x.ring = ring ∧
            getF t (F.HOST.RING_CONFIG_FUNCTION ring) = 1 ∧ getF t F.CONT.CMD_RESULT_RESULT = resOk ∧ OnlyParts [.regs, .cont, .sec] s t) ∧
        (∃ t, Machine.exec (.readStop c ring) s = .next t ∧ t.cont.reads = s.cont.reads ∧ getF t F.CONT.CMD_RESULT_RESULT = resIllegal)) ∧
      (∀ r ∈ s.cont.reads, r.ring = ring →
        (∃ t, Machine.exec (.readStop c ring) s = .next t ∧ t.cont.reads = s.cont.reads.filter (fun x => x.ring != ring) ∧
          getF t (F.HOST.RING_CONFIG_FUNCTION ring) = 0 ∧ getF t F.CONT.CMD_RESULT_RESULT = resOk ∧ OnlyParts [.regs, .cont, .sec] s t))) ∧
    (∀ (ring left : Nat) (rd : ContRead) (rs : List Rec) (bad : List Nat), 9 ≤ ring → ring ≤ 15 →
      s.cont.reads.find? (fun r => r.ring == ring) = some rd → readOn s rd rd.left (readPlaces s ring) = (rs, bad, left) →
      (left = 0 → ∃ t, Machine.exec (.readDone ring) s = .next t ∧ t.cont.reads = s.cont.reads.filter (fun x => x.ring != ring) ∧
        getF t (F.HOST.RING_CONFIG_FUNCTION ring) = 0 ∧ OnlyParts [.regs, .cont, .host] s t) ∧
      (left ≠ 0 → ∃ t, Machine.exec (.readDone ring) s = .next t ∧
        (∀ x ∈ t.cont.reads, x.ring = ring → x.left = left ∧ x.delivered = rd.delivered + rs.length) ∧
        t.cont.reads.length = s.cont.reads.length ∧ OnlyParts [.regs, .cont, .host] s t)) ∧
    (∀ ring, (∀ r ∈ s.cont.reads, r.ring ≠ ring) → Machine.exec (.readDone ring) s = .next s)

/-- Where SEC may take a command and is not busy: a well-formed SESSION_BEGIN of a known credential with the role it names
makes the lowest free slot half-open with its role and credential and returns its ID; with no free slot it is
EXHAUSTED; of an unknown credential it is NOT_AUTHORISED and counts. SESSION_PROVE opens the slot with its ID on a
true signature of its credential over H2, over PCIe as the BAR session in place of the old one, and otherwise counts a
failure. SESSION_CLOSE, the idle time, the age and 10 s without proof each free the slot. LOCKOUT_EXPIRED removes the
lock that has run out. A failed self-test sets DRBG_FAILED, ends CERTIFIED and makes SEC FAILED. (19_security.md R475,
19_security.md R479, 19_security.md R480, 19_security.md R481, 19_security.md R492) -/
def Obligations.SessionsOpenAndEnd : Prop :=
  ∀ s : State, WellKept s →
    (∀ (c : Caller) (a0 : Nat), hostAccess s = true → powerFailing s = false → lostTie c = false → spareClear c = true → s.sec.busy = none →
      (
        let q := sessionRequest (bytesOfWords ((secInput c s).take 38))
        flag s F.SEC.STATUS_DRBG_FAILED = false → q.wellFormed = true → q.role ≤ 4 → q.credential ≠ 0 →
        (∀ e ∈ s.sec.transportLocked, e.1 ≠ transportCode c) → (∀ e ∈ s.sec.locked, e.1 ≠ q.credential) →
        (∀ e, findKey s q.credential = some e → e.2.kind = 6 → e.2.roles / 2 ^ q.role % 2 = 1 →
          (transportCode c = 1 → (secCfg s).mgmtRoles / 2 ^ q.role % 2 = 1) →
          (∀ k, (List.range 8).find? (fun k => sesState s k == 0) = some k →
            ∃ t, Machine.exec (.sessionBegin c a0 false) s = .next t ∧ sesState t k = 1 ∧ getF t (F.SEC.SES_STATE_ROLE k) = q.role ∧
              sesCredential t k = q.credential ∧ getF t (F.SEC.SES_STATE_TRANSPORT k) = transportCode c ∧
              getF t F.SEC.CMD_RETURN = getF t (F.SEC.SES_STATE_SESSION_ID k) ∧ getF t F.SEC.CMD_RESULT_RESULT = resOk ∧
              (∀ j, j < 8 → j ≠ k → sesState t j = sesState s j) ∧ OnlyParts [.regs, .sec, .free] s t) ∧
          ((∀ k, k < 8 → sesState s k ≠ 0) → ∃ t, Machine.exec (.sessionBegin c a0 false) s = .next t ∧
            getF t F.SEC.CMD_RESULT_RESULT = resExhausted ∧ ∀ j, j < 8 → sesState t j = sesState s j)) ∧
        (findKey s q.credential = none → ∃ t, Machine.exec (.sessionBegin c a0 false) s = .next t ∧
          getF t F.SEC.CMD_RESULT_RESULT = resNotAuthorised ∧
          getF t F.SEC.AUTH_FAIL_COUNT = min (getF s F.SEC.AUTH_FAIL_COUNT + 1) 0xFFFFFFFF ∧
          (∀ j, j < 8 → sesState t j = sesState s j) ∧ OnlyParts [.regs, .sec, .cont] s t)) ∧
      (∀ k : Nat,
        let ws := secInput c s
        let ok := proofOk s k (bytesOfWords ((ws.drop 4).take 24))
        ws.getD 0 0 < 65536 → ws.getD 1 0 = 0 → ws.getD 2 0 = 0 → ws.getD 3 0 = 0 →
        (List.range 8).find? (fun k => sesState s k == 1 && getF s (F.SEC.SES_STATE_SESSION_ID k) == ws.getD 0 0 &&
          getF s (F.SEC.SES_STATE_TRANSPORT k) == transportCode c) = some k →
        (ok = true → ∃ t, Machine.exec (.sessionProve c a0 false) s = .next t ∧ sesState t k = 2 ∧
          getF t F.SEC.CMD_RESULT_RESULT = resOk ∧ (transportCode c = 0 → flag t (F.SEC.SES_STATE_BAR k) = true ∧
            ∀ b, barSlot s = some b → sesState t b = 0)) ∧
        (ok = false → ∃ t, Machine.exec (.sessionProve c a0 false) s = .next t ∧ sesState t k = 1 ∧
          getF t F.SEC.CMD_RESULT_RESULT = resNotAuthorised ∧
          getF t F.SEC.AUTH_FAIL_COUNT = min (getF s F.SEC.AUTH_FAIL_COUNT + 1) 0xFFFFFFFF)) ∧
      (∀ k, callerSlot s c = some k → getF s (F.SEC.SES_STATE_ROLE k) ≤ 4 → ∃ t, Machine.exec (.sessionClose c a0 false) s = .next t ∧
        sesState t k = 0 ∧ (∀ j, j < 8 → j ≠ k → sesState t j = sesState s j) ∧ getF t F.SEC.CMD_RESULT_RESULT = resOk)) ∧
    (∀ k, k < 8 →
      let x := s.sec.sessions.getD k {}
      (sesState s k = 1 → x.beganNs + secondsNs 10 ≤ nowNs s 0 → ∃ t, Machine.exec (.sessionProofTimeout k) s = .next t ∧ sesState t k = 0 ∧
        getF t F.SEC.AUTH_FAIL_COUNT = min (getF s F.SEC.AUTH_FAIL_COUNT + 1) 0xFFFFFFFF ∧
        (∀ j, j < 8 → j ≠ k → sesState t j = sesState s j) ∧ OnlyParts [.regs, .cont, .host, .sec] s t) ∧
      (sesState s k ≠ 1 ∨ nowNs s 0 < x.beganNs + secondsNs 10 → Machine.exec (.sessionProofTimeout k) s = .next s) ∧
      (sesState s k = 2 → (x.lastNs + secondsNs (secCfg s).idleS ≤ nowNs s 0 ∨ x.openedNs + secondsNs (secCfg s).maxS ≤ nowNs s 0) →
        ∃ t, Machine.exec (.sessionEnded k) s = .next t ∧ sesState t k = 0 ∧ (∀ j, j < 8 → j ≠ k → sesState t j = sesState s j) ∧
          (∀ i, i < 4 → (takeSlot s i).owner = some k → slotState s i = slotOpen → slotState t i = slotFree) ∧
          OnlyParts [.regs, .txn, .cont, .host, .sec] s t) ∧
      (sesState s k ≠ 2 ∨ (nowNs s 0 < x.lastNs + secondsNs (secCfg s).idleS ∧ nowNs s 0 < x.openedNs + secondsNs (secCfg s).maxS) →
        Machine.exec (.sessionEnded k) s = .next s)) ∧
    (∀ cred, ∃ t, Machine.exec (.lockoutExpired cred none) s = .next t ∧ OnlyParts [.sec] s t ∧
      t.sec.transportLocked = s.sec.transportLocked ∧ ∀ e, e ∈ t.sec.locked ↔
        e ∈ s.sec.locked ∧ (e.1 = cred → nowNs s 0 < e.2 + secondsNs (secCfg s).lockoutS)) ∧
    (∀ cred tr, ∃ t, Machine.exec (.lockoutExpired cred (some tr)) s = .next t ∧ OnlyParts [.sec] s t ∧
      t.sec.locked = s.sec.locked ∧ ∀ e, e ∈ t.sec.transportLocked ↔
        e ∈ s.sec.transportLocked ∧ (e.1 = tr → nowNs s 0 < e.2 + secondsNs 60)) ∧
    (∀ which, which < 2 → flag s F.SEC.STATUS_RUNNING = true → flag s F.SEC.STATUS_DRBG_FAILED = false →
      ∃ t, Machine.exec (.selfTestFailed which) s = .next t ∧ flag t F.SEC.STATUS_DRBG_FAILED = true ∧
        flag t F.SEC.STATUS_CERTIFIED = false ∧ (present s 21 = true → unitHealth t 21 = 2) ∧ OnlyParts [.regs, .cont, .host] s t)

/-- With SEC not busy, a SECURITY_OFFICER's admitted INSTALL_KEY, where its state allows it, whose input unwraps under the
session's wrap key to a well-formed blob of an unknown ID stores it with its material in the lowest free entry; of a
known ID it is in CONFLICT, and input that does not unwrap is BAD_ARGUMENT. DELETE_KEY of a key that may go empties
its entry. ZEROISE empties the store and, where neither BOE windows nor a lost reference hold the restart back, enters
BOOT. KEY_INFO, GET_CERT, ATTEST and RANDOM return kind, length, 248 and count and change no key; random bytes are
free values. In MAINTENANCE a chunk goes into the spare slot; the last one makes it the image it was written as where
its signature and version are good, and otherwise leaves it without one, BAD_ARGUMENT. SET_MIN_VERSION spends one
write. DEBUG_UNLOCK empties the store and restarts on a token of this module with a true signature, and is
BAD_ARGUMENT on any other. SEC_COMMAND_DONE ends the pending command. How an image is laid out is the model's choice
(log entry 129). (19_security.md R476, 19_security.md R483, 19_security.md R484, 19_security.md R485, 19_security.md
R487, 19_security.md R489, 19_security.md R490, 19_security.md R491, 19_security.md R492, 19_security.md R494) -/
def Obligations.KeysIdentityAndMicrocode : Prop :=
  (∀ (x : SecCall) (s : State), WellKept s → s.sec.busy = some x → x.opcode ≠ 0x13 → x.opcode ≠ 0x40 →
    ∃ t, Machine.exec .secCommandDone s = .next t ∧ t.sec.busy = none ∧ getF t F.SEC.CMD_RESULT_OPCODE = x.opcode % 256 ∧
      getF t F.SEC.CMD_RESULT_RESULT = (secBody x { s with sec := { s.sec with busy := none } }).2.1 % 256) ∧
  (∀ s : State, s.sec.busy = none → Machine.exec .secCommandDone s = .next s) ∧
  (∀ (c : Caller) (s : State), WellKept s → hostAccess s = true → s.sec.busy = none → keysRise s.sec.keys = true →
    let result := fun (t : State) => getF t F.SEC.CMD_RESULT_RESULT
    let restarts := s.dev.flushing = none ∧ s.dev.referenceLost = false ∧ windowsOpen s = false
    (Admitted c [roleSecurity] s →
      (∀ a0 : Nat, keyStates s = true →
        let blob := unwrapBlob (wrapKey c s) (bytesOfWords ((secInput c s).take 32))
        (∀ b, blob = some b → blobOk b = true → keyFree b.kind b.keyId s = true →
          (∀ n, findKey s b.keyId = none → freeEntry b.kind s = some n → ∃ t, Machine.exec (.installKey c a0 false) s = .next t ∧
            tableGet none t.sec.keys n = some { id := b.keyId, kind := b.kind, roles := b.roles, material := b.material } ∧
            (∀ k, k ≠ n → tableGet none t.sec.keys k = tableGet none s.sec.keys k) ∧ result t = resOk) ∧
          (findKey s b.keyId ≠ none → ∃ t, Machine.exec (.installKey c a0 false) s = .next t ∧ t.sec.keys = s.sec.keys ∧
            result t = resConflict)) ∧
        (blob = none → ∃ t, Machine.exec (.installKey c a0 false) s = .next t ∧ t.sec.keys = s.sec.keys ∧
          result t = resBadArgument)) ∧
      (∀ a0 a1 n k, keyStates s = true → a0 < 2 ^ 32 → a1 < 2 ^ 32 → findKey s (a0 + 2 ^ 32 * a1) = some (n, k) →
        keyFree k.kind (a0 + 2 ^ 32 * a1) s = true → (officerKey k = true → officers s ≠ 1) →
        ∃ t, Machine.exec (.deleteKey c a0 a1 false) s = .next t ∧ tableGet none t.sec.keys n = none ∧
          (∀ j, j ≠ n → tableGet none t.sec.keys j = tableGet none s.sec.keys j) ∧ result t = resOk) ∧
      (∀ a0, ∃ t, Machine.exec (.zeroise c a0 false) s = .next t ∧ t.sec.keys = [] ∧ t.pending = s.pending ∧
        (restarts → t.dev.state = .boot ∧ t.cfg = {})) ∧
      (inState s .maintenance = true →
        (∀ a0 a1 a2 : Nat, a0 % 4096 = 0 → 1 ≤ a1 → a1 ≤ 4096 → a0 + a1 ≤ 67108864 → s.sec.images.length = 2 →
          s.sec.runningSlot < 2 → (∀ x ∈ s.sec.images, keysRise x.chunks = true) →
          let chunk := (bytesOfWords (secInput c s) ++ List.replicate 4096 0).take a1
          ∃ t x, Machine.exec (.microcodeWrite c a0 a1 a2 false) s = .next t ∧ t.sec.images[1 - s.sec.runningSlot]? = some x ∧
            t.sec.images[s.sec.runningSlot]? = s.sec.images[s.sec.runningSlot]? ∧ tableGet [] x.chunks (a0 / 4096) = chunk ∧
            (∀ k, k ≠ a0 / 4096 → tableGet [] x.chunks k =
              tableGet [] (s.sec.images.getD (1 - s.sec.runningSlot) {}).chunks k) ∧
            (a2 % 2 = 0 → x.size = 0 ∧ result t = resOk) ∧
            (a2 % 2 = 1 →
              let image := imageBytes { size := a0 + a1, chunks := x.chunks }
              let good := imageSigned s.sec.imageKeyHash image = true ∧ getF s F.SEC.MIN_VERSION_VERSION ≤ imageVersion image
              (good → x.size = a0 + a1 ∧ result t = resOk) ∧ (¬ good → x.size = 0 ∧ result t = resBadArgument))) ∧
        (getF s F.SEC.MIN_VERSION_VERSION < getF s F.DEV.BOOT_IMAGE_VERSION → getF s F.DEV.BOOT_IMAGE_VERSION < 65536 →
          0 < getF s F.SEC.MIN_VERSION_WRITES_LEFT → getF s F.SEC.MIN_VERSION_WRITES_LEFT ≤ 64 → ∀ a0,
          ∃ t, Machine.exec (.setMinVersion c a0 false) s = .next t ∧ getF t F.SEC.MIN_VERSION_VERSION = getF s F.DEV.BOOT_IMAGE_VERSION ∧
            getF t F.SEC.MIN_VERSION_WRITES_LEFT = getF s F.SEC.MIN_VERSION_WRITES_LEFT - 1 ∧ result t = resOk ∧
            OnlyParts [.regs, .cont, .sec] s t) ∧
        (let ws := secInput c s
         let token := ws.getD 0 0 = getF s F.DEV.SERIAL_LO ∧ ws.getD 1 0 = getF s F.DEV.SERIAL_HI ∧ ws.getD 2 0 = 0 ∧ ws.getD 3 0 = 0 ∧
           debugSigned (bytesOfWords ((ws.drop 4).take 24)) s = true
         ∀ a0, (token → ∃ t, Machine.exec (.debugUnlock c a0 false) s = .next t ∧ t.sec.keys = [] ∧
             (restarts → t.dev.state = .boot ∧ t.cfg = {})) ∧
           (¬ token → ∃ t, Machine.exec (.debugUnlock c a0 false) s = .next t ∧ t.sec.keys = s.sec.keys ∧ t.dev = s.dev ∧
             result t = resBadArgument)))) ∧
    (Admitted c anyRole s →
      let kept := fun (t : State) (ret : Nat) => t.sec.keys = s.sec.keys ∧ result t = resOk ∧ getF t F.SEC.CMD_RETURN = ret % 2 ^ 32 ∧
        OnlyParts [.regs, .sec, .free] s t
      (∀ a0, a0 ≤ 4735 → ∃ t, Machine.exec (.keyInfo c a0 false) s = .next t ∧
        kept t (((tableGet none s.sec.keys a0).map KeyEntry.kind).getD 0)) ∧
      (∀ a0, ∃ t, Machine.exec (.getCert c a0 false) s = .next t ∧ kept t (min 2048 Config.certificateLength)) ∧
      (attestStates s = true →
        (∀ a0, ∃ t, Machine.exec (.attest c a0 false) s = .next t ∧ kept t 248) ∧
        (∀ a0, 1 ≤ a0 → a0 ≤ 4096 → flag s F.SEC.STATUS_DRBG_FAILED = false → ∃ t, Machine.exec (.random c a0 false) s = .next t ∧
          kept t a0 ∧ t.free = s.free + (a0 + 3) / 4))))

/-- With HOST up: RING_WRITE puts the oldest staged entry with its phase into the next slot and moves PROD, where the ring
takes one. CONS moves to PROD at most; a value past it is refused. Enabling a disabled ring empties it and zeroes PROD
and CONS. An unmasked pending vector is sent. A reset disables every ring, drops the subscriptions, empties the
submission queue and ends the BAR session. A submission moves SQ_HEAD and is completed with its command's result, or
BAD_ARGUMENT or UNIT_ABSENT; a PENDING one waits for its second completion. In the Curtain's cycle a write of CONS or
ENABLE waits for the publication. A good transmit frame goes onto both ports of its pair, any other is dropped and
counted. SUBSCRIBE, UNSUBSCRIBE and RING_BIND, accepted, do what they say. (20_host_port.md R498, 20_host_port.md
R499, 20_host_port.md R500, 20_host_port.md R501, 20_host_port.md R502, 20_host_port.md R505, 20_host_port.md R506,
20_host_port.md R513, 20_host_port.md R516) -/
def Obligations.RingsAndSubmissions : Prop :=
  ∀ s : State, WellKept s → hostUp s = true → (∀ e ∈ s.host.ring6, e.kind < 4) → keysRise s.host.staging = true →
    (∀ (r : Nat) (ep : Bool),
      let prod := getF s (F.HOST.PROD r)
      let size := getF s (F.HOST.SIZE r)
      (∀ e rest, tableGet [] s.host.staging r = e :: rest → ringTakes s r = true → keysRise s.host.written = true →
        ∃ t x, Machine.exec (.ringWrite r ep) s = .next t ∧ getF t (F.HOST.PROD r) = (prod + 1) % 2 ^ 32 ∧
          tableGet none t.host.written (r * 65536 + prod % size) = some x ∧ x.index = e.index ∧ x.body = e.body ∧ x.poisoned = (ep || e.poisoned) ∧
          x.phase = 1 - prod / size % 2 ∧ (r ≠ 2 → r ≠ 6 → tableGet [] t.host.staging r = rest)) ∧
      (tableGet [] s.host.staging r = [] ∨ ringTakes s r = false → Machine.exec (.ringWrite r ep) s = .next s)) ∧
    (∀ r, r < 16 →
      (∀ at_, tableGet none s.host.modFirstNs r = some at_ → getF s (F.HOST.RING_CONFIG_MOD_US r) ≠ 0 →
        at_ + getF s (F.HOST.RING_CONFIG_MOD_US r) * 1000 ≤ nowNs s 0 → ∃ t, Machine.exec (.ringModeration r) s = .next t ∧
          bitF t F.HOST.INT_CAUSE_RINGS r = true ∧ OnlyParts [.regs, .host] s t) ∧
      (tableGet none s.host.modFirstNs r = none → Machine.exec (.ringModeration r) s = .next s) ∧
      (∀ v, v < 2 ^ 32 → flag s (F.HOST.RING_CONFIG_DIRECTION r) = false → inCurtainCycle s = false →
        let ahead := fun (x : Nat) => (x + (2 ^ 32 - getF s (F.HOST.CONS r))) % 2 ^ 32
        (ahead v ≤ ahead (getF s (F.HOST.PROD r)) → ∃ t, Machine.exec (.consWrite r v) s = .next t ∧ getF t (F.HOST.CONS r) = v) ∧
        (ahead (getF s (F.HOST.PROD r)) < ahead v → ∃ t, Machine.exec (.consWrite r v) s = .next t ∧ OnlyParts [.cont] s t)) ∧
      (inCurtainCycle s = false → flag s (F.HOST.RING_CONFIG_ENABLE r) = false → ∃ t, Machine.exec (.ringEnable r) s = .next t ∧
        flag t (F.HOST.RING_CONFIG_ENABLE r) = true ∧ getF t (F.HOST.PROD r) = 0 ∧ getF t (F.HOST.CONS r) = 0 ∧
        tableGet [] t.host.staging r = [] ∧ OnlyParts [.regs, .host] s t) ∧
      (inCurtainCycle s = false → flag s (F.HOST.RING_CONFIG_ENABLE r) = true → Machine.exec (.ringEnable r) s = .next s) ∧
      (inCurtainCycle s = true →
        (∃ t x, Machine.exec (.ringEnable r) s = .next t ∧ t.host.afterCurtain = s.host.afterCurtain ++ [x] ∧
          x.addr = (F.HOST.RING_CONFIG_ENABLE r).addr ∧ OnlyParts [.host] s t) ∧
        (∀ v, ∃ t, Machine.exec (.consWrite r v) s = .next t ∧
          t.host.afterCurtain = s.host.afterCurtain ++ [{ addr := (F.HOST.CONS r).addr, value := v }] ∧ OnlyParts [.host] s t))) ∧
    (∀ on, ∃ t, Machine.exec (.busMasterEnable on) s = .next t ∧ flag t F.HOST.STATUS_BUS_MASTER = on ∧
      OnlyParts [.regs, .cont, .host] s t) ∧
    (∀ v, v < 64 → ∃ t, Machine.exec (.msixUnmask v) s = .next t ∧ t.host.msixMask[v]? = some false ∧
      t.host.messages = (if v ∈ s.host.msixPending then s.host.messages ++ [v] else s.host.messages) ∧
      v ∉ t.host.msixPending ∧ OnlyParts [.host] s t) ∧
    (∀ cause, cause < 3 → ∃ t, Machine.exec (.hostReset cause) s = .next t ∧ t.host.subs = [] ∧
      getF t F.HOST.SQ_TAIL = getF t F.HOST.SQ_HEAD ∧ (∀ r, r < 16 → flag t (F.HOST.RING_CONFIG_ENABLE r) = false) ∧
      (∀ k, barSlot s = some k → sesState t k = 0) ∧ OnlyParts [.regs, .txn, .cont, .host, .sec] s t) ∧
    (∀ up speed width, (∃ t, Machine.exec (.linkChanged 1 up speed width) s = .next t ∧ flag t F.HOST.STATUS_MGMT_LINK = up ∧
        OnlyParts [.regs, .cont] s t ∧ OnlyFields [F.HOST.STATUS_MGMT_LINK] s t) ∧
      ∃ t, Machine.exec (.linkChanged 0 up speed width) s = .next t ∧ flag t F.HOST.STATUS_LINK_UP = up ∧ OnlyParts [.regs, .cont] s t ∧
        OnlyFields [F.HOST.STATUS_LINK_UP, F.HOST.STATUS_SPEED, F.HOST.STATUS_WIDTH] s t) ∧
    (∀ (e : Submission) (rivals : List Transport) (slow : Bool),
      let s1 := setF F.HOST.SQ_HEAD (getF s F.HOST.SQ_HEAD + 1) s
      (mayFetch s = false → Machine.exec (.submissionFetch e rivals slow) s = .next s) ∧
      (mayFetch s = true → 24 ≤ e.unit →
        Machine.exec (.submissionFetch e rivals slow) s = .next (complete e.unit e.opcode e.tag resBadArgument 0 s1)) ∧
      (mayFetch s = true → e.unit < 24 → present s e.unit = false →
        Machine.exec (.submissionFetch e rivals slow) s = .next (complete e.unit e.opcode e.tag resUnitAbsent 0 s1)) ∧
      (mayFetch s = true → e.unit < 24 → unitGated s e.unit = true →
        Machine.exec (.submissionFetch e rivals slow) s = .next (gatedAccess (e.unit * 0x100000 + 0x40) true s1)) ∧
      (mayFetch s = true → e.unit < 24 → present s e.unit = true → unitGated s e.unit = false →
        let out := unitCommand e.unit e.opcode { transport := .queue, session := none, rivals := rivals } e.arg0 e.arg1 e.arg2 slow s1
        (out = none → Machine.exec (.submissionFetch e rivals slow) s = .next (complete e.unit e.opcode e.tag resBadArgument 0 s1)) ∧
        (∀ u rep, out = some (u, rep) →
          let done := complete e.unit e.opcode e.tag rep.result rep.ret u
          (rep.result ≠ resPending → Machine.exec (.submissionFetch e rivals slow) s = .next done) ∧
          (rep.result = resPending → ∃ t p, Machine.exec (.submissionFetch e rivals slow) s = .next t ∧
            t.host.pendingCmds = done.host.pendingCmds ++ [p] ∧ p.unit = e.unit ∧ p.opcode = e.opcode ∧ p.tag = some e.tag ∧
            OnlyParts [.host] done t)))) ∧
    (∀ (r prod q : Nat) (e : TxEntry), r < 16 → prod < 2 ^ 32 → flag s F.HOST.STATUS_BUS_MASTER = true →
      flag s (F.HOST.RING_CONFIG_ENABLE r) = true → getF s (F.HOST.RING_CONFIG_FUNCTION r) = 2 →
      getF s (F.HOST.RING_CONFIG_QUEUE r) = q → q < 32 → q % 8 < 4 → tableGet [] s.host.txGather r = [] → e.last = true →
      (prod + 2 ^ 32 - getF s (F.HOST.CONS r)) % 2 ^ 32 = 1 → 1 ≤ getF s (F.HOST.SIZE r) → keysRise s.net.queues = true →
      keysRise s.host.txGather = true →
      let lo := 16 * (q / 16) + q % 8
      let queued := frameOk q [e] && onAir s && queueRuns s q
      (queued = true → (queueOf s lo).length < 256 → (queueOf s (lo + 8)).length < 256 →
        ∃ t f, Machine.exec (.txRingDoorbell r prod [e]) s = .next t ∧ getF t (F.HOST.PROD r) = prod ∧ getF t (F.HOST.CONS r) = prod ∧
          queueOf t lo = queueOf s lo ++ [f] ∧ queueOf t (lo + 8) = queueOf s (lo + 8) ++ [f] ∧
          f.body = .host (frameBytes [e] e.length) ∧ (∀ j, j ≠ lo → j ≠ lo + 8 → queueOf t j = queueOf s j)) ∧
      (queued = false → ∃ t, Machine.exec (.txRingDoorbell r prod [e]) s = .next t ∧ t.net = s.net ∧
        getF t F.HOST.TX_DROPPED = min (getF s F.HOST.TX_DROPPED + 1) 0xFFFFFFFF)) ∧
    (∀ (c : Caller) (p : Nat), Admitted c anyRole s → subscribeLegal s = true →
      ((∀ x ∈ s.host.subs, x.point ≠ p) →
        (subscribable s p = true → s.host.subs.length < 4096 → ∃ t, Machine.exec (.subscribe c p) s = .next t ∧
          t.host = { s.host with subs := s.host.subs ++ [{ point := p }] } ∧ getF t F.HOST.CMD_RESULT_RESULT = resOk) ∧
        (p ≠ 0xFFFFFFFF → ∃ t, Machine.exec (.unsubscribe c p) s = .next t ∧ t.host = s.host ∧
          getF t F.HOST.CMD_RESULT_RESULT = resIllegal)) ∧
      (∀ x ∈ s.host.subs, x.point = p → p ≠ 0xFFFFFFFF → ∃ t, Machine.exec (.unsubscribe c p) s = .next t ∧
        t.host = { s.host with subs := s.host.subs.filter (fun y => y.point != p) } ∧ getF t F.HOST.CMD_RESULT_RESULT = resOk)) ∧
    (∀ (c : Caller) (r fn q : Nat), Admitted c [roleEngineer] s → hostAccess s = true → 9 ≤ r → r ≤ 15 →
      (fn = 0 ∨ (fn = 2 ∧ hostQueue q = true ∧ queuePresent s q = true)) →
      (flag s (F.HOST.RING_CONFIG_ENABLE r) = false → getF s (F.HOST.RING_CONFIG_FUNCTION r) ≠ 1 →
        ∃ t, Machine.exec (.ringBind c r fn q) s = .next t ∧ getF t (F.HOST.RING_CONFIG_FUNCTION r) = fn ∧
          getF t (F.HOST.RING_CONFIG_DIRECTION r) = fn / 2 ∧ getF t (F.HOST.RING_CONFIG_QUEUE r) = (if fn = 2 then q else 0) ∧
          getF t F.HOST.CMD_RESULT_RESULT = resOk ∧ OnlyParts [.regs, .sec] s t) ∧
      (flag s (F.HOST.RING_CONFIG_ENABLE r) = true → ∃ t, Machine.exec (.ringBind c r fn q) s = .next t ∧
        getF t F.HOST.CMD_RESULT_RESULT = resIllegal ∧ getF t (F.HOST.RING_CONFIG_FUNCTION r) = getF s (F.HOST.RING_CONFIG_FUNCTION r))) ∧
    (inState s .live = true → s.tick.number % 8000 = 0 → ∃ t, Machine.exec .healthPeriodic s = .next t ∧ t.host.lastHealth = healthWords s ∧
      (ringProduces s 4 = true → (tableGet [] s.host.staging 4).length < 4096 → ∃ x, tableGet [] t.host.staging 4 =
        tableGet [] s.host.staging 4 ++ [x] ∧ x.body = healthWords s ++ words2 s.tick.number) ∧ OnlyParts [.regs, .cont, .host] s t) ∧
    (inState s .live = false ∨ s.tick.number % 8000 ≠ 0 → Machine.exec .healthPeriodic s = .next s)

/-- With HOST up: a disallowed access, one to an absent unit and one to a gated unit each only count and are recorded, and
a read of them returns 0, but for a gated unit's first word; a whole point is read at once from the point window; in
the Curtain's cycle a register write waits for the publication; a write to a TK register is dropped and counted; a
read clears the RC fields it returns to their reset values; a read of a LO word latches its HI word; a 1 written to a
one-bit W1C field clears it and a 0 leaves it, and so with the ring causes; NEW_DATA is cleared by its own write; a
plain RW field takes the bits written, and a write to CMD runs the unit's command. A datagram for another port changes
nothing. A management message that fails a check is only counted as dropped; a sealed one uses up its SEQUENCE, and a
command, read or write it carries is carried out and answered. An ARP request for the port's address is answered.
(01_architecture.md R4, 01_architecture.md R6, 01_architecture.md R7, 01_architecture.md R11, 01_architecture.md R15,
02_tick_and_curtain.md R27, 15_can.md R391, 20_host_port.md R507, 20_host_port.md R508, 20_host_port.md R509,
20_host_port.md R510) -/
def Obligations.AccessesAndManagementPort : Prop :=
  ∀ s : State, WellKept s →
    (∀ a, hostUp s = true → a < 0x4000000 →
      let counted := fun (t : State) (f : Field) => getF t f = min (getF s f + 1) 0xFFFFFFFF ∧ OnlyParts [.regs, .cont] s t ∧ OnlyFields [f] s t
      let reached := a < 0x1800000 ∧ a % 4 = 0 ∧ present s (unitOfAddr a) = true ∧ unitGated s (unitOfAddr a) = false
      let read := fun (t : State) (f : Field) (v : Nat) => getF t f = min (getF s f + 1) 0xFFFFFFFF ∧ t.host.readData = v ∧
        OnlyParts [.regs, .cont, .host] s t ∧ OnlyFields [f] s t
      (∀ w, (accessBad a w true = true → ∃ t, Machine.exec (.badAccess a w true) s = .next t ∧ counted t F.HOST.BAD_ACCESS_COUNT) ∧
        (accessBad a w true = false → Machine.exec (.badAccess a w true) s = .next s) ∧
        (accessBad a w false = true → ∃ t, Machine.exec (.badAccess a w false) s = .next t ∧ read t F.HOST.BAD_ACCESS_COUNT 0)) ∧
      (∀ i, a = 0x2000000 + 16 * i → i < 0x100000 → ∃ t, Machine.exec (.badAccess a 16 false) s = .next t ∧
        t.host.readData = ((List.range 4).map (fun j => (pointWords (windowPoint s i)).getD j 0 * 2 ^ (32 * j))).sum ∧
        OnlyParts [.host] s t) ∧
      (a < 0x1800000 → a % 4 = 0 →
        (present s (unitOfAddr a) = false →
          (∃ t, Machine.exec (.absentAccess a true) s = .next t ∧ counted t F.DEV.ABSENT_ACCESS_COUNT) ∧
          ∃ t, Machine.exec (.absentAccess a false) s = .next t ∧ read t F.DEV.ABSENT_ACCESS_COUNT 0) ∧
        (present s (unitOfAddr a) = true → ∀ wr, Machine.exec (.absentAccess a wr) s = .next s) ∧
        (unitGated s (unitOfAddr a) = true →
          (∃ t, Machine.exec (.gatedAccess a true) s = .next t ∧ counted t F.DEV.GATED_ACCESS_COUNT) ∧
          ∃ t, Machine.exec (.gatedAccess a false) s = .next t ∧
            read t F.DEV.GATED_ACCESS_COUNT (if a % 0x100000 = 0 then regWord s a else 0)) ∧
        (unitGated s (unitOfAddr a) = false → ∀ wr, Machine.exec (.gatedAccess a wr) s = .next s)) ∧
      (inCurtainCycle s = true → ∀ v slow, ∃ t, Machine.exec (.registerWrite a v slow) s = .next t ∧
        t.host.afterCurtain = s.host.afterCurtain ++ [{ addr := a, value := v, slow := slow }] ∧ OnlyParts [.host] s t) ∧
      (reached →
        (∀ v, inCurtainCycle s = false → (fieldsAt a).any (fun f => f.access == .tk) = true → (∀ f ∈ fieldsAt a, f.access ≠ .rw ∧ f.access ≠ .w1c) →
          ∃ t, Machine.exec (.tkWriteDropped a v) s = .next t ∧ counted t F.HOST.BAD_ACCESS_COUNT) ∧
        ((fieldsAt a).any (fun f => f.access == .rc) = true → ∃ t, Machine.exec (.rcRead a) s = .next t ∧
          t.host.readData = readValue s a ∧ (∀ f ∈ fieldsAt a, f.access = .rc → getF t f = f.reset % 2 ^ f.width) ∧ OnlyParts [.regs, .host] s t) ∧
        (∀ h, latchedBy a = some h → keysRise s.host.latched = true → ∃ t, Machine.exec (.latchedLoRead a) s = .next t ∧
          tableGet none t.host.latched h = some (showWord s h) ∧ t.host.readData = readValue s a ∧ OnlyParts [.regs, .host] s t) ∧
        (∀ v f, f ∈ fieldsAt a → f.access = .w1c → f.width = 1 → a < 0x1110000 ∨ 0x1130000 ≤ a → f.addr = a → a ≠ 0x160000C →
          (∀ g ∈ fieldsAt a, g ≠ f → fieldKey g ≠ fieldKey f ∧ g.access ≠ .rw ∧ g.access ≠ .tk ∧ g.addr = a) → v < 2 ^ 32 → inCurtainCycle s = false →
          ∃ t, Machine.exec (.w1cWrite a v) s = .next t ∧ OnlyParts [.regs] s t ∧
            flag t f = (flag s f && v / 2 ^ f.lsb % 2 == 0)) ∧
        (∀ v f slow, inCurtainCycle s = false → fieldsAt a = [f] → f.access = .rw → f.addr = a → f ≠ F.HOST.TICK_DIVIDER → a < 0x1600100 → v < 2 ^ 32 →
          ∃ t, Machine.exec (.registerWrite a v slow) s = .next t ∧ getF t f = v / 2 ^ f.lsb % 2 ^ f.width ∧ OnlyParts [.regs] s t ∧
            OnlyFields [f] s t) ∧
        (∀ v slow x, inCurtainCycle s = false → isCmd a = true →
          unitCommand (unitOfAddr a) (v % 256) { transport := .bar, session := none, rivals := [] }
            (cmdArg s a 0) (cmdArg s a 1) (cmdArg s a 2) slow s = some x → Machine.exec (.registerWrite a v slow) s = .next x.1))) ∧
    (∀ v, hostUp s = true → present s 22 = true → unitGated s 22 = false → inCurtainCycle s = false → v < 2 ^ 16 →
      ∃ t, Machine.exec (.w1cWrite 0x160000C v) s = .next t ∧ (∀ r, r < 16 →
        bitF t F.HOST.INT_CAUSE_RINGS r = (bitF s F.HOST.INT_CAUSE_RINGS r && v / 2 ^ r % 2 == 0)) ∧ OnlyParts [.regs, .host] s t) ∧
    (∀ c b, inCurtainCycle s = false → c < 4 → b < 129 → hasAccess s (0x1110000 + 0x8000 * c + 0x80 * b) .w1c = true →
      ∃ t, Machine.exec (.newDataClear c b) s = .next t ∧ flag t (F.CAN.BUF_STATUS_NEW_DATA c b) = false ∧
        (b = 128 → bitF t F.HOST.INT_CAUSE_CAN_HP c = false) ∧ OnlyParts [.regs] s t ∧
        OnlyFields [F.CAN.BUF_STATUS_NEW_DATA c b, F.HOST.INT_CAUSE_CAN_HP] s t) ∧
    (∀ (d : Datagram) (rivals : List Transport) (slow : Bool), mgmtTakes s d = false →
      Machine.exec (.mgmtBegin d slow) s = .next s ∧ Machine.exec (.mgmtProve d slow) s = .next s ∧
      Machine.exec (.mgmtCommand d rivals slow) s = .next s ∧ Machine.exec (.mgmtRead d) s = .next s ∧
      Machine.exec (.mgmtWrite d) s = .next s) ∧
    (∀ (d : Datagram), mgmtTakes s d = true →
      let h := mgmtHead d
      let dropped := fun (t : State) => getF t F.HOST.MGMT_DROPPED = min (getF s F.HOST.MGMT_DROPPED + 1) 0xFFFFFFFF ∧
        OnlyParts [.regs, .cont] s t
      let last := fun (t : State) => t.host.mgmtReplies.getLast?
      (∀ slow, (∀ b, clearBody 1 h = some b → h.sessionId ≠ 0 ∨ b.length ≠ 152) →
        ∃ t, Machine.exec (.mgmtBegin d slow) s = .next t ∧ dropped t) ∧
      (∀ slow b, clearBody 1 h = some b → h.sessionId = 0 → b.length = 152 →
        let x := cmdSessionBegin (mgmtCaller none []) 0 slow (loadInbox (wordsLE b) s)
        let out := bytesOfWords x.1.sec.outbox
        (x.2.result = resOk → ∃ t k, Machine.exec (.mgmtBegin d slow) s = .next t ∧ t.regs = x.1.regs ∧ t.sec = x.1.sec ∧
          last t = some (mgmtHeader 2 0 x.2.ret out.length k h.tag ++ out)) ∧
        (x.2.result ≠ resOk → x.2.result ≠ resPending → Machine.exec (.mgmtBegin d slow) s = .next x.1) ∧
        (x.2.result = resPending → ∃ t, Machine.exec (.mgmtBegin d slow) s = .next t ∧ t.host.mgmtWaits = some (1, 0, h.tag) ∧
          OnlyParts [.host] x.1 t)) ∧
      (∀ slow, (∀ b, clearBody 3 h = some b → b.length ≠ 112 ∨ mgmtSlot s h.sessionId = none) →
        ∃ t, Machine.exec (.mgmtProve d slow) s = .next t ∧ dropped t) ∧
      (∀ slow b, clearBody 3 h = some b → b.length = 112 → mgmtSlot s h.sessionId ≠ none →
        let x := cmdSessionProve (mgmtCaller none []) 0 slow (loadInbox (wordsLE b) s)
        (x.2.result = resOk → Machine.exec (.mgmtProve d slow) s =
          .next (sendResponse h.sessionId h.tag 21 0x02 resOk x.2.ret 4 x.1.sec.outbox x.1)) ∧
        (x.2.result ≠ resOk → x.2.result ≠ resPending → Machine.exec (.mgmtProve d slow) s = .next x.1)) ∧
      (∀ rivals slow,
        (∀ cause, mgmtOpen 4 h callOk s = .error cause → ∃ t, Machine.exec (.mgmtCommand d rivals slow) s = .next t ∧ dropped t) ∧
        (∀ k b, mgmtOpen 4 h callOk s = .ok (k, b) →
          let e := readCall b
          let s1 := acceptSequence k h.sequence s
          let ws := storeData (tableGet [] s.host.mgmtData k) (e.offset / 4) e.data
          (h.flags = 1 → keysRise s.host.mgmtHigh = true → keysRise s.host.mgmtSeen = true → keysRise s.host.mgmtData = true →
            ∃ t, Machine.exec (.mgmtCommand d rivals slow) s = .next t ∧ mgmtFresh t k h.sequence = false ∧
              tableGet [] t.host.mgmtData k = ws ∧ OnlyParts [.host] s t) ∧
          (∀ u rep, h.flags ≠ 1 → e.unit < 24 → e.unit ≠ 21 → present s e.unit = true → unitGated s e.unit = false →
            let s2 := loadInbox ws { s1 with host := { s1.host with mgmtData := tablePut [] s1.host.mgmtData k [] } }
            unitCommand e.unit e.opcode (mgmtCaller (some k) rivals) e.arg0 e.arg1 e.arg2 slow s2 = some (u, rep) →
            let done := sendResponse h.sessionId h.tag e.unit e.opcode rep.result rep.ret 4 [] u
            (rep.result ≠ resPending → Machine.exec (.mgmtCommand d rivals slow) s = .next done) ∧
            (rep.result = resPending → ∃ t p, Machine.exec (.mgmtCommand d rivals slow) s = .next t ∧
              t.host.pendingCmds = done.host.pendingCmds ++ [p] ∧ p.unit = e.unit ∧ p.opcode = e.opcode ∧
              p.mgmt = some (h.sessionId, h.tag) ∧ OnlyParts [.host] done t)))) ∧
      ((∀ cause, mgmtOpen 6 h readOk s = .error cause → ∃ t, Machine.exec (.mgmtRead d) s = .next t ∧ dropped t) ∧
        (∀ k b, mgmtOpen 6 h readOk s = .ok (k, b) →
          let r := readWords (bodyWord b 1) (bodyWord b 0) (acceptSequence k h.sequence s)
          Machine.exec (.mgmtRead d) s = .next (sendMessage 7 h.sessionId h.tag false r.1 r.2))) ∧
      ((∀ cause, mgmtOpen 8 h writeOk s = .error cause → ∃ t, Machine.exec (.mgmtWrite d) s = .next t ∧ dropped t) ∧
        (∀ k b, mgmtOpen 8 h writeOk s = .ok (k, b) → inCurtainCycle s = false →
          let a := bodyWord b 0
          let unwritten := isCmd a = true ∨ getF s (F.SEC.SES_STATE_ROLE k) = roleObserver
          ∃ t, Machine.exec (.mgmtWrite d) s = .next t ∧ (unwritten → t.regs = s.regs ∧ OnlyParts [.host] s t) ∧
            (¬ unwritten → t.regs = (hostWrite a (bodyWord b 1) (acceptSequence k h.sequence s)).regs)))) ∧
    (∀ target v6, mgmtUp s = true → flag s F.HOST.CONFIG_IPV6 = v6 →
      (target = s.host.address → ∃ t x, Machine.exec (.arpRequest target v6) s = .next t ∧ OnlyParts [.host] s t ∧
        t.host.mgmtReplies = s.host.mgmtReplies ++ [x]) ∧
      (target ≠ s.host.address → Machine.exec (.arpRequest target v6) s = .next s))
end

