-- ==== Sys2Proof/Laws/Table.lean ====
section
/-! SUPPORT. The laws of tables: a read after a write, and that writes keep the canonical form. -/

namespace Sys2Proof.Machine

variable {α : Type}

theorem tableGet_insert_same (d : α) (t : Table α) (i : Nat) (x : α) : tableGet d (tableInsert t i x) i = x := by
  fun_induction tableInsert t i x <;> simp_all [tableGet]

theorem tableGet_insert_other (d : α) (t : Table α) (i j : Nat) (x : α) (h : i ≠ j) :
    tableGet d (tableInsert t i x) j = tableGet d t j := by
  fun_induction tableInsert t i x <;> simp_all [tableGet]

theorem tableGet_erase_other (d : α) (t : Table α) (i j : Nat) (h : i ≠ j) :
    tableGet d (tableErase t i) j = tableGet d t j := by
  fun_induction tableErase t i <;> simp_all [tableGet]

/-- All keys of a table lie above a bound. -/
def keysAbove (b : Nat) (t : Table α) : Prop := ∀ e ∈ t, b < e.1

theorem keysRise_tail (e : Nat × α) (t : Table α) (h : keysRise (e :: t) = true) : keysRise t = true := by
  cases t with
  | nil => rfl
  | cons e' t => simp_all [keysRise]

theorem keysAbove_of_rise (k : Nat) (v : α) (t : Table α) (h : keysRise ((k, v) :: t) = true) : keysAbove k t := by
  induction t generalizing k v with
  | nil => intro e he; cases he
  | cons e' t ih =>
    obtain ⟨k', v'⟩ := e'
    simp only [keysRise, Bool.and_eq_true, decide_eq_true_eq] at h
    intro e he
    rcases List.mem_cons.1 he with rfl | he
    · exact h.1
    · exact Nat.lt_trans h.1 (ih k' v' h.2 e he)

theorem keysRise_cons (k : Nat) (v : α) (t : Table α) (ha : keysAbove k t) (ht : keysRise t = true) :
    keysRise ((k, v) :: t) = true := by
  cases t with
  | nil => rfl
  | cons e t => simp [keysRise, ht, ha e (by simp)]

theorem tableGet_above (d : α) (t : Table α) (i : Nat) (h : keysAbove i t) : tableGet d t i = d := by
  induction t with
  | nil => rfl
  | cons e t ih =>
    have h1 := h e (by simp)
    have : keysAbove i t := fun x hx => h x (by simp [hx])
    simp [tableGet, ih this, Nat.ne_of_gt h1]

theorem mem_tableErase (t : Table α) (i : Nat) (e : Nat × α) (h : e ∈ tableErase t i) : e ∈ t := by
  fun_induction tableErase t i <;> simp_all
  rcases h with h | h <;> simp_all

theorem mem_tableInsert (t : Table α) (i : Nat) (x : α) (e : Nat × α) (h : e ∈ tableInsert t i x) : e = (i, x) ∨ e ∈ t := by
  fun_induction tableInsert t i x <;> simp_all
  · rcases h with h | h <;> simp_all
  · rcases h with h | h
    · simp_all
    · rename_i ih; rcases ih h with h | h <;> simp_all

theorem keysRise_erase (t : Table α) (i : Nat) (h : keysRise t = true) : keysRise (tableErase t i) = true := by
  induction t with
  | nil => rfl
  | cons e t ih =>
    obtain ⟨k, v⟩ := e
    have ht := keysRise_tail _ _ h
    simp only [tableErase]
    split
    · exact ht
    · split
      · exact h
      · exact keysRise_cons _ _ _ (fun e he => keysAbove_of_rise _ _ _ h e (mem_tableErase _ _ _ he)) (ih ht)

theorem keysRise_insert (t : Table α) (i : Nat) (x : α) (h : keysRise t = true) : keysRise (tableInsert t i x) = true := by
  induction t with
  | nil => rfl
  | cons e t ih =>
    obtain ⟨k, v⟩ := e
    have ht := keysRise_tail _ _ h
    simp only [tableInsert]
    split
    · rename_i hk
      subst hk
      exact keysRise_cons _ _ _ (keysAbove_of_rise _ _ _ h) ht
    · split
      · simp [keysRise, *]
      · refine keysRise_cons _ _ _ (fun e he => ?_) (ih ht)
        rcases mem_tableInsert _ _ _ _ he with rfl | he
        · show k < i; omega
        · exact keysAbove_of_rise _ _ _ h e he

theorem keysRise_put [DecidableEq α] (d : α) (t : Table α) (i : Nat) (x : α) (h : keysRise t = true) :
    keysRise (tablePut d t i x) = true := by
  unfold tablePut
  split
  · exact keysRise_erase t i h
  · exact keysRise_insert t i x h

theorem keysRise_filter (p : Nat × α → Bool) (t : Table α) (h : keysRise t = true) : keysRise (t.filter p) = true := by
  induction t with
  | nil => rfl
  | cons e t ih =>
    have ht := ih (keysRise_tail _ _ h)
    rw [List.filter_cons]
    split
    · exact keysRise_cons _ _ _ (fun x hx => keysAbove_of_rise _ _ _ h x (List.mem_filter.1 hx).1) ht
    · exact ht

/-- A read of the key just written, where the table is in order. -/
theorem tableGet_put_same [DecidableEq α] (d : α) (t : Table α) (i : Nat) (x : α) (h : keysRise t = true) :
    tableGet d (tablePut d t i x) i = x := by
  unfold tablePut
  split
  · subst x
    induction t with
    | nil => rfl
    | cons e t ih =>
      obtain ⟨k, v⟩ := e
      have ha := keysAbove_of_rise _ _ _ h
      simp only [tableErase]
      split
      · subst i; exact tableGet_above _ _ _ ha
      · split
        · refine tableGet_above _ _ _ (fun e he => ?_)
          rcases List.mem_cons.1 he with rfl | he
          · assumption
          · exact Nat.lt_trans ‹_› (ha e he)
        · simp [tableGet, *, ih (keysRise_tail _ _ h)]
  · exact tableGet_insert_same d t i x

/-- A read of another key. -/
theorem tableGet_put_other [DecidableEq α] (d e : α) (t : Table α) (i j : Nat) (x : α) (h : i ≠ j) :
    tableGet d (tablePut e t i x) j = tableGet d t j := by
  unfold tablePut
  split
  · exact tableGet_erase_other d t i j h
  · exact tableGet_insert_other d t i j x h

/-- The canonical form is rising keys with no entry at the default. -/
theorem tableWf_iff [DecidableEq α] (d : α) (t : Table α) :
    tableWf d t = true ↔ keysRise t = true ∧ ∀ e ∈ t, e.2 ≠ d := by
  induction t with
  | nil => simp [tableWf, keysRise]
  | cons e t ih =>
    cases t with
    | nil => simp [tableWf, keysRise]
    | cons e' t =>
      simp only [tableWf, keysRise, Bool.and_eq_true, decide_eq_true_eq, ih, List.forall_mem_cons]
      tauto

/-- A write keeps the canonical form. -/
theorem tableWf_put [DecidableEq α] (d : α) (t : Table α) (i : Nat) (x : α) (h : tableWf d t = true) :
    tableWf d (tablePut d t i x) = true := by
  rw [tableWf_iff] at h ⊢
  refine ⟨keysRise_put d t i x h.1, fun e he => ?_⟩
  unfold tablePut at he
  split at he
  · exact h.2 e (mem_tableErase _ _ _ he)
  · rcases mem_tableInsert _ _ _ _ he with rfl | he
    · assumption
    · exact h.2 e he

end Sys2Proof.Machine
end

