-- ==== Sys2Proof/Laws/Form.lean ====
section
/-! SUPPORT. What updates of the state leave alone, and how the form of a state passes through them. -/

namespace Sys2Proof.Machine

variable {m a : Nat} {q s t u : State}

/-- Every part of one mask is in another. -/
def sub (a m : Nat) : Bool := a &&& m == a

theorem sub_bit {i : Nat} (h : sub a m = true) (hm : m.testBit i = false) : a.testBit i = false := by
  have h : a &&& m = a := by simpa [sub] using h
  rw [← h, Nat.testBit_and, hm, Bool.and_false]

theorem sub_trans {b : Nat} (h1 : sub a b = true) (h2 : sub b m = true) : sub a m = true := by
  have h1 : a &&& b = a := by simpa [sub] using h1
  have h2 : b &&& m = b := by simpa [sub] using h2
  have : a &&& m = a := by rw [← h1, Nat.and_assoc, h2]
  simp [sub, this]

/-- A part in the mask owes nothing. -/
theorem moves_absurd {b : Bool} {P : Prop} (h : b = true) : b = false → P := fun e => Bool.noConfusion (h.symm.trans e)

theorem part_same_refl (p : Part) : p.same s s := by cases p <;> rfl

theorem part_same_trans (p : Part) (h1 : p.same s t) (h2 : p.same t u) : p.same s u := by
  cases p <;> exact Eq.trans h2 h1

theorem moves_refl : Moves m s s := ⟨fun p _ => part_same_refl p, id⟩

/-- One operation after others. -/
theorem moves_step (h1 : Moves a t u) (hs : sub a m = true) (h0 : Moves m s t) : Moves m s u :=
  ⟨fun p hp => part_same_trans p (h0.frame p hp) (h1.frame p (sub_bit hs hp)), fun w => h1.form (h0.form w)⟩

/-- An update of other parts than the queue, the registers and the point images, which leaves the banks alone. -/
theorem moves_frame {dev clap tick lio txn trp car asm jug boe bot bat net lrp stn can spot mem cont host sec pwr cfg free}
    (h : Moves m q s) (h1 : clap.bases = s.clap.bases) (h2 : txn.slots = s.txn.slots) (h3 : sec.sessions = s.sec.sessions)
    (h4 : can.ports = s.can.ports) (h5 : cont.volatileRing = s.cont.volatileRing)
    (h6 : txn.headers.length = s.txn.headers.length)
    (_ : m.testBit 2 = false → dev = s.dev) (_ : m.testBit 3 = false → clap = s.clap)
    (_ : m.testBit 4 = false → tick = s.tick) (_ : m.testBit 6 = false → lio = s.lio)
    (_ : m.testBit 7 = false → txn = s.txn) (_ : m.testBit 8 = false → trp = s.trp)
    (_ : m.testBit 9 = false → car = s.car) (_ : m.testBit 10 = false → asm = s.asm)
    (_ : m.testBit 11 = false → jug = s.jug) (_ : m.testBit 12 = false → boe = s.boe)
    (_ : m.testBit 13 = false → bot = s.bot) (_ : m.testBit 14 = false → bat = s.bat)
    (_ : m.testBit 15 = false → net = s.net) (_ : m.testBit 16 = false → lrp = s.lrp)
    (_ : m.testBit 17 = false → stn = s.stn) (_ : m.testBit 18 = false → can = s.can)
    (_ : m.testBit 19 = false → spot = s.spot) (_ : m.testBit 20 = false → mem = s.mem)
    (_ : m.testBit 21 = false → cont = s.cont) (_ : m.testBit 22 = false → host = s.host)
    (_ : m.testBit 23 = false → sec = s.sec) (_ : m.testBit 24 = false → pwr = s.pwr)
    (_ : m.testBit 25 = false → cfg = s.cfg) (_ : m.testBit 26 = false → free = s.free)
    (_ : m.testBit 27 = false → dev.state = s.dev.state) (_ : m.testBit 28 = false → tick.number = s.tick.number)
    (_ : m.testBit 29 = false → txn.log = s.txn.log) (_ : m.testBit 30 = false → bat.accum = s.bat.accum) :
    Moves m q (State.mk s.pending s.regs dev clap tick s.pimg lio txn trp car asm jug boe bot bat net lrp stn can spot mem cont
      host sec pwr cfg free) := by
  refine ⟨fun p hpm => part_same_trans p (h.frame p hpm) ?_, fun w => ?_⟩
  · cases p <;> first | rfl | (apply_assumption; exact hpm)
  · have w := h.form w
    exact ⟨w.regs, w.live, w.snap, w.window, w.cond, by rw [h1]; exact w.bases, by rw [h2]; exact w.slots,
      by rw [h3]; exact w.sessions, by rw [h4]; exact w.ports, by rw [h5]; exact w.volatileRing, h6.trans w.headers⟩

theorem moves_ite {c : Prop} [Decidable c] (h1 : Moves m q s) (h2 : Moves m q t) : Moves m q (if c then s else t) := by
  split <;> assumption

theorem moves_foldl {α : Type} {l : List α} {f : State → α → State} (h : Moves m q s)
    (hf : ∀ t x, Moves m q t → Moves m q (f t x)) : Moves m q (l.foldl f s) := by
  induction l generalizing s with
  | nil => exact h
  | cons x l ih => exact ih (hf s x h)

theorem moves_foldl_fst {α β : Type} {l : List α} {f : State × β → α → State × β} {p : State × β} (h : Moves m q p.1)
    (hf : ∀ t x, Moves m q t.1 → Moves m q (f t x).1) : Moves m q (l.foldl f p).1 := by
  induction l generalizing p with
  | nil => exact h
  | cons x l ih => exact ih (hf p x h)

theorem moves_foldl_snd {α β : Type} {l : List α} {f : β × State → α → β × State} {p : β × State} (h : Moves m q p.2)
    (hf : ∀ t x, Moves m q t.2 → Moves m q (f t x).2) : Moves m q (l.foldl f p).2 := by
  induction l generalizing p with
  | nil => exact h
  | cons x l ih => exact ih (hf p x h)

theorem setF_moves {f : Field} {v : Nat} {s : State} : Moves 0x2 s (setF f v s) :=
  ⟨fun p hp => by cases p <;> first | exact Bool.noConfusion (show true = false from hp) | rfl,
    fun w => ⟨keysRise_put _ _ _ _ w.regs, w.live, w.snap, w.window, w.cond, w.bases, w.slots, w.sessions, w.ports,
      w.volatileRing, w.headers⟩⟩

/-- A step's answer, if it is a next state, moves no more than the listed parts. -/
def ResultMoves (m : Nat) (s : State) (r : Result) : Prop := ∀ t, r = .next t → Moves m s t

theorem resultMoves_next (h : Moves m q s) : ResultMoves m q (.next s) := by
  intro t e; cases e; exact h

theorem resultMoves_fault (r : Fault) : ResultMoves m q (.fault r) := by
  intro t e; cases e

/-- What a command's own steps answer moves no more than the listed parts. -/
def BodyMoves (m : Nat) (s : State) (b : Body) : Prop := ∀ t r v, b = .ok (t, r, v) → Moves m s t

theorem bodyMoves_ok {r v : Nat} (h : Moves m q s) : BodyMoves m q (.ok (s, r, v)) := by
  intro t r v e; cases e; exact h

theorem bodyMoves_error (e : Nat) : BodyMoves m q (.error e) := by
  intro t r v e; cases e

theorem moves_fst {α : Type} {p : State × α} {b : α} (e : p = (s, b)) (h : Moves m q p.1) : Moves m q s := by
  subst e; exact h

theorem moves_snd {α : Type} {p : α × State} {b : α} (e : p = (b, s)) (h : Moves m q p.2) : Moves m q s := by
  subst e; exact h

/-- An update of the sessions that keeps their number. -/
theorem moves_sessions {sec : SecPart} (h : sec.sessions.length = s.sec.sessions.length) :
    Moves 0x800000 s { s with sec := sec } :=
  ⟨fun p hp => by cases p <;> first | exact Bool.noConfusion (show true = false from hp) | rfl,
    fun w => ⟨w.regs, w.live, w.snap, w.window, w.cond, w.bases, w.slots,
      by show sec.sessions.length = 8; rw [h]; exact w.sessions, w.ports, w.volatileRing, w.headers⟩⟩

/-- An update of the point images that keeps their canonical form. -/
theorem moves_images {pimg : PimgPart} (h : WellKept s → tableWf {} pimg.live = true ∧ tableWf {} pimg.snap = true ∧
    tableWf {} pimg.window = true ∧ tableWf {} pimg.cond = true) : Moves 0x20 s { s with pimg := pimg } :=
  ⟨fun p hp => by cases p <;> first | exact Bool.noConfusion (show true = false from hp) | rfl,
    fun w => ⟨w.regs, (h w).1, (h w).2.1, (h w).2.2.1, (h w).2.2.2, w.bases, w.slots, w.sessions, w.ports, w.volatileRing,
      w.headers⟩⟩

/-- An update of the time bases that keeps their number. -/
theorem moves_bases {clap : ClapPart} (h : clap.bases.length = s.clap.bases.length) :
    Moves 0x8 s { s with clap := clap } :=
  ⟨fun p hp => by cases p <;> first | exact Bool.noConfusion (show true = false from hp) | rfl,
    fun w => ⟨w.regs, w.live, w.snap, w.window, w.cond, by show clap.bases.length = 6; rw [h]; exact w.bases, w.slots,
      w.sessions, w.ports, w.volatileRing, w.headers⟩⟩

/-- An update of the Take slots that keeps their number. -/
theorem moves_slots {slots : List TakeSlot} (h : slots.length = s.txn.slots.length) :
    Moves 0x80 s { s with txn := { s.txn with slots := slots } } :=
  ⟨fun p hp => by cases p <;> first | exact Bool.noConfusion (show true = false from hp) | rfl,
    fun w => ⟨w.regs, w.live, w.snap, w.window, w.cond, w.bases, by show slots.length = 4; rw [h]; exact w.slots,
      w.sessions, w.ports, w.volatileRing, w.headers⟩⟩

/-- An update of the CAN ports that keeps their number. -/
theorem moves_ports {can : CanPart} (h : can.ports.length = s.can.ports.length) :
    Moves 0x40000 s { s with can := can } :=
  ⟨fun p hp => by cases p <;> first | exact Bool.noConfusion (show true = false from hp) | rfl,
    fun w => ⟨w.regs, w.live, w.snap, w.window, w.cond, w.bases, w.slots, w.sessions,
      by show can.ports.length = 4; rw [h]; exact w.ports, w.volatileRing, w.headers⟩⟩

/-- An update of CONT that keeps the volatile ring within its capacity. -/
theorem moves_ring {cont : ContPart} (h : cont.volatileRing.length ≤ 65536) : Moves 0x200000 s { s with cont := cont } :=
  ⟨fun p hp => by cases p <;> first | exact Bool.noConfusion (show true = false from hp) | rfl,
    fun w => ⟨w.regs, w.live, w.snap, w.window, w.cond, w.bases, w.slots, w.sessions, w.ports, h, w.headers⟩⟩

end Sys2Proof.Machine
end

