-- ==== Sys2Proof/Laws/MovesBase.lean ====
section
/-! SUPPORT. Which parts of the state the operations of the error table, CONT, the point images and the accumulators change, and that they keep
its form. -/

namespace Sys2Proof.Machine

open Sys2Proof

theorem bumpF_moves (f : Field) (k : Nat) (s : State) :
    Moves 0x2 s (bumpF f k s) := by
  unfold bumpF
  repeat' first
    | with_reducible exact moves_refl
    | decide
    | with_reducible apply moves_step (setF_moves ..)

theorem setBit_moves (f : Field) (i : Nat) (b : Bool) (s : State) :
    Moves 0x2 s (setBit f i b s) := by
  unfold setBit
  repeat' first
    | with_reducible exact moves_refl
    | decide
    | with_reducible apply moves_step (setF_moves ..)

theorem resetFields_moves (fs : List Field) (s : State) :
    Moves 0x2 s (resetFields fs s) := by
  unfold resetFields
  repeat' first
    | with_reducible assumption
    | with_reducible exact moves_refl
    | decide
    | with_reducible refine moves_foldl ?_ (fun _ _ _ => ?_)
    | with_reducible apply moves_step (setF_moves ..)

theorem drawFree_moves (s : State) :
    Moves 0x4000000 s (drawFree s).2 := by
  unfold drawFree
  repeat' first
    | with_reducible exact moves_refl
    | fail_if_no_progress
        (with_reducible apply moves_frame)
        all_goals try first | with_reducible exact rfl | exact moves_absurd rfl | with_reducible exact fun _ => rfl

theorem expectResult_moves (u due tag : Nat) (s : State) :
    Moves 0x10 s (expectResult u due tag s) := by
  unfold expectResult
  repeat' first
    | with_reducible exact moves_refl
    | fail_if_no_progress
        (with_reducible apply moves_frame)
        all_goals try first | with_reducible exact rfl | exact moves_absurd rfl | with_reducible exact fun _ => rfl

theorem setInc_moves (b inc : Nat) (s : State) :
    Moves 0x2 s (setInc b inc s) := by
  unfold setInc
  repeat' first
    | with_reducible exact moves_refl
    | decide
    | with_reducible apply moves_step (setF_moves ..)

theorem elapse_moves (n : Nat) (s : State) : Moves 0x18 s (elapse n s) :=
  ⟨fun p hp => by cases p <;> first | exact Bool.noConfusion (show true = false from hp) | rfl,
    fun w => ⟨w.regs, w.live, w.snap, w.window, w.cond, by simp [elapse], w.slots, w.sessions, w.ports, w.volatileRing, w.headers⟩⟩

theorem elapseTo_moves (c : Nat) (s : State) :
    Moves 0x18 s (elapseTo c s) := by
  unfold elapseTo
  repeat' first
    | with_reducible exact moves_refl
    | decide
    | with_reducible apply moves_step (elapse_moves ..)

theorem idle_moves (s : State) :
    ResultMoves 0x18 s (idle s) := by
  unfold idle
  repeat' first
    | with_reducible exact moves_refl
    | decide
    | with_reducible apply moves_step (elapse_moves ..)
    | with_reducible refine moves_ite ?_ ?_
    | with_reducible refine resultMoves_next ?_

theorem emitAt_moves (stamp code : Nat) (payload : List Nat) (s : State) :
    Moves 0x200000 s (emitAt stamp code payload s) := by
  unfold emitAt
  repeat' first
    | with_reducible exact moves_refl
    | with_reducible refine moves_ite ?_ ?_
    | fail_if_no_progress
        (with_reducible apply moves_frame)
        all_goals try first | with_reducible exact rfl | exact moves_absurd rfl | with_reducible exact fun _ => rfl

theorem emit_moves (code w1 w2 w3 : Nat) (s : State) :
    Moves 0x200000 s (emit code w1 w2 w3 s) := by
  unfold emit
  repeat' first
    | with_reducible exact moves_refl
    | decide
    | with_reducible apply moves_step (emitAt_moves ..)

theorem raiseCause_moves (c : Nat) (s : State) :
    Moves 0x400002 s (raiseCause c s) := by
  unfold raiseCause
  repeat' first
    | with_reducible exact moves_refl
    | decide
    | with_reducible apply moves_step (setBit_moves ..)
    | with_reducible refine moves_ite ?_ ?_
    | fail_if_no_progress
        (with_reducible apply moves_frame)
        all_goals try first | with_reducible exact rfl | exact moves_absurd rfl | with_reducible exact fun _ => rfl

theorem setHealth_moves (u v : Nat) (s : State) :
    Moves 0x400002 s (setHealth u v s) := by
  unfold setHealth
  repeat' first
    | with_reducible exact moves_refl
    | decide
    | with_reducible apply moves_step (setF_moves ..)
    | with_reducible apply moves_step (raiseCause_moves ..)
    | with_reducible refine moves_ite ?_ ?_

theorem setFailedSticky_moves (u : Nat) (s : State) :
    Moves 0x400006 s (setFailedSticky u s) := by
  unfold setFailedSticky
  repeat' first
    | with_reducible exact moves_refl
    | decide
    | with_reducible apply moves_step (setHealth_moves ..)
    | with_reducible refine moves_ite ?_ ?_
    | fail_if_no_progress
        (with_reducible apply moves_frame)
        all_goals try first | with_reducible exact rfl | exact moves_absurd rfl | with_reducible exact fun _ => rfl

theorem showSecHealth_moves (s : State) :
    Moves 0x400002 s (showSecHealth s) := by
  unfold showSecHealth
  repeat' first
    | with_reducible exact moves_refl
    | decide
    | with_reducible apply moves_step (setHealth_moves ..)

theorem stageEntry_moves (r typ length stamp : Nat) (body : List Nat) (s : State) :
    Moves 0x600002 s (stageEntry r typ length stamp body s) := by
  unfold stageEntry
  repeat' first
    | with_reducible exact moves_refl
    | decide
    | with_reducible apply moves_step (setF_moves ..)
    | with_reducible apply moves_step (bumpF_moves ..)
    | with_reducible apply moves_step (emit_moves ..)
    | with_reducible refine moves_ite ?_ ?_
    | fail_if_no_progress
        (with_reducible apply moves_frame)
        all_goals try first | with_reducible exact rfl | exact moves_absurd rfl | with_reducible exact fun _ => rfl

theorem showResult_moves (u op : Nat) (r : Reply) (s : State) :
    Moves 0x2 s (showResult u op r s) := by
  unfold showResult
  repeat' first
    | with_reducible exact moves_refl
    | decide
    | with_reducible apply moves_step (setF_moves ..)
    | split

theorem touchSession_moves (c : Caller) (s : State) : Moves 0x800002 s (touchSession c s) := by
  unfold touchSession
  split
  · exact moves_step setF_moves rfl (moves_step (moves_sessions (by simp [listUpd])) rfl moves_refl)
  · exact moves_refl

theorem runCommand_moves {m : Nat} {q : State} (u op : Nat) (c : Caller) (a0 : Nat) (roles : Option (List Nat))
    (legal : Bool) (body : State → Body) (s : State) (hm : sub 0xa00002 m = true) (h : Moves m q s)
    (hb : ∀ t, Moves m q t → BodyMoves m q (body t)) : Moves m q (runCommand u op c a0 roles legal body s).1 := by
  have step {a : Nat} {t u : State} (ha : sub a 0xa00002 = true) (h1 : Moves a t u) (h0 : Moves m q t) : Moves m q u :=
    moves_step h1 (sub_trans ha hm) h0
  have ht := step rfl (touchSession_moves c s) h
  unfold runCommand
  extract_lets t authorised out
  have ho : BodyMoves m q out := by
    intro s' res ret e
    simp only [out] at e
    split at e
    · cases e
    · split at e
      · cases e
      · split at e
        · cases e
        · split at e
          · cases e
          · exact hb _ ht _ _ _ e
  clear_value out
  rcases out with e | ⟨s', res, ret⟩
  · refine step rfl (showResult_moves ..) (moves_ite (step rfl (bumpF_moves ..) ?_) ?_) <;> exact step rfl (emit_moves ..) ht
  · exact step rfl (showResult_moves ..) (ho _ _ _ rfl)

theorem refuseOpcode_moves (u op : Nat) (c : Caller) (a0 : Nat) (s : State) :
    Moves 0xa00002 s (refuseOpcode u op c a0 s).1 := by
  unfold refuseOpcode
  repeat' first
    | with_reducible exact moves_refl
    | decide
    | with_reducible apply moves_step (emit_moves ..)
    | with_reducible apply moves_step (touchSession_moves ..)
    | with_reducible apply moves_step (bumpF_moves ..)
    | with_reducible apply moves_step (showResult_moves ..)
    | with_reducible refine moves_ite ?_ ?_

theorem sendMessage_moves (kind id tag : Nat) (more : Bool) (body : List Nat) (s : State) :
    Moves 0x400000 s (sendMessage kind id tag more body s) := by
  unfold sendMessage
  repeat' first
    | with_reducible exact moves_refl
    | fail_if_no_progress
        (with_reducible apply moves_frame)
        all_goals try first | with_reducible exact rfl | exact moves_absurd rfl | with_reducible exact fun _ => rfl

theorem sendResponse_moves (id tag unit op result ret n : Nat) (ws : List Nat) (s : State) :
    Moves 0x400000 s (sendResponse id tag unit op result ret n ws s) := by
  induction n generalizing ws s with
  | zero => exact moves_refl
  | succ n ih =>
    have h1 := moves_step (sendMessage_moves 5 id tag (decide (256 < ws.length))
      ([unit + op * 2 ^ 8 + result * 2 ^ 16, tag % 2 ^ 16, ret] ++ ws.take 256) s) rfl (moves_refl (m := 0x400000))
    exact moves_ite (moves_step (ih ..) rfl h1) h1

theorem commandDone_moves (u op : Nat) (key : Option Nat) (result ret : Nat) (s : State) :
    Moves 0x600002 s (commandDone u op key result ret s) := by
  unfold commandDone
  repeat' first
    | with_reducible exact moves_refl
    | decide
    | with_reducible apply moves_step (raiseCause_moves ..)
    | with_reducible apply moves_step (stageEntry_moves ..)
    | with_reducible apply moves_step (sendResponse_moves ..)
    | fail_if_no_progress
        (with_reducible apply moves_frame)
        all_goals try first | with_reducible exact rfl | exact moves_absurd rfl | with_reducible exact fun _ => rfl
    | split
    | (dsimp only; split)

theorem memDegraded_moves (s : State) :
    Moves 0x400002 s (memDegraded s) := by
  unfold memDegraded
  repeat' first
    | with_reducible exact moves_refl
    | decide
    | with_reducible apply moves_step (setHealth_moves ..)
    | with_reducible refine moves_ite ?_ ?_

theorem writeEntry_moves (m i addr : Nat) (ue : Bool) (s : State) :
    Moves 0x200002 s (writeEntry m i addr ue s) := by
  unfold writeEntry
  repeat' first
    | with_reducible exact moves_refl
    | decide
    | with_reducible apply moves_step (setF_moves ..)
    | with_reducible apply moves_step (bumpF_moves ..)
    | with_reducible apply moves_step (emit_moves ..)
    | with_reducible refine moves_ite ?_ ?_

theorem countEntry_moves (m i addr : Nat) (ue : Bool) (s : State) :
    Moves 0x600002 s (countEntry m i addr ue s) := by
  unfold countEntry
  repeat' first
    | with_reducible exact moves_refl
    | decide
    | with_reducible apply moves_step (setF_moves ..)
    | with_reducible apply moves_step (bumpF_moves ..)
    | with_reducible apply moves_step (memDegraded_moves ..)
    | with_reducible apply moves_step (emit_moves ..)
    | with_reducible refine moves_ite ?_ ?_

theorem logAddress_moves (m addr : Nat) (ue : Bool) (s : State) :
    Moves 0x600002 s (logAddress m addr ue s) := by
  unfold logAddress
  repeat' first
    | with_reducible exact moves_refl
    | decide
    | with_reducible apply moves_step (countEntry_moves ..)
    | with_reducible apply moves_step (writeEntry_moves ..)
    | with_reducible apply moves_step (bumpF_moves ..)
    | with_reducible apply moves_step (emit_moves ..)
    | split

theorem noteCe_moves (m addr : Nat) (s : State) :
    Moves 0x600002 s (noteCe m addr s) := by
  unfold noteCe
  repeat' first
    | with_reducible exact moves_refl
    | decide
    | with_reducible apply moves_step (setF_moves ..)
    | with_reducible apply moves_step (logAddress_moves ..)
    | with_reducible apply moves_step (bumpF_moves ..)

theorem noteUe_moves (m addr : Nat) (requester : Option Nat) (s : State) :
    Moves 0x600002 s (noteUe m addr requester s) := by
  unfold noteUe
  repeat' first
    | with_reducible exact moves_refl
    | decide
    | with_reducible apply moves_step (setF_moves ..)
    | with_reducible apply moves_step (logAddress_moves ..)
    | with_reducible apply moves_step (bumpF_moves ..)
    | with_reducible apply moves_step (emit_moves ..)
    | with_reducible apply moves_step (memDegraded_moves ..)
    | with_reducible refine moves_ite ?_ ?_

theorem setBucket_moves (code tokens : Nat) (s : State) :
    Moves 0x200000 s (setBucket code tokens s) := by
  unfold setBucket
  repeat' first
    | with_reducible exact moves_refl
    | fail_if_no_progress
        (with_reducible apply moves_frame)
        all_goals try first | with_reducible exact rfl | exact moves_absurd rfl | with_reducible exact fun _ => rfl

theorem writeVolatile_moves (r : Rec) (s : State) : Moves 0x600002 s (writeVolatile r s) := by
  unfold writeVolatile
  extract_lets c un ring ring' lost s1 s2
  have h1 : Moves 0x600002 s s1 := by
    refine moves_step (moves_ring ?_) rfl moves_refl
    show (if ring.length > 65536 then ring.drop (ring.length - 65536) else ring).length ≤ 65536
    split
    · rw [List.length_drop]; omega
    · omega
  exact moves_step (stageEntry_moves ..) rfl (moves_ite (moves_step (bumpF_moves ..) rfl h1) (moves_step setF_moves rfl h1))

theorem dropRecord_moves (s : State) :
    Moves 0x2 s (dropRecord s) := by
  unfold dropRecord
  repeat' first
    | with_reducible exact moves_refl
    | decide
    | with_reducible apply moves_step (bumpF_moves ..)

theorem numberRecord_moves (r : Rec) (s : State) :
    Moves 0x600002 s (numberRecord r s) := by
  unfold numberRecord
  repeat' first
    | with_reducible exact moves_refl
    | decide
    | with_reducible apply moves_step (setF_moves ..)
    | with_reducible apply moves_step (dropRecord_moves ..)
    | with_reducible apply moves_step (setHealth_moves ..)
    | with_reducible apply moves_step (writeVolatile_moves ..)
    | with_reducible refine moves_ite ?_ ?_

theorem writeSummary_moves (code : Nat) (s : State) :
    Moves 0x600002 s (writeSummary code s) := by
  unfold writeSummary
  repeat' first
    | with_reducible exact moves_refl
    | decide
    | with_reducible apply moves_step (setF_moves ..)
    | with_reducible apply moves_step (numberRecord_moves ..)
    | with_reducible refine moves_ite ?_ ?_
    | fail_if_no_progress
        (with_reducible apply moves_frame)
        all_goals try first | with_reducible exact rfl | exact moves_absurd rfl | with_reducible exact fun _ => rfl

theorem startFlush_moves (trigger : Nat) (s : State) :
    Moves 0x600002 s (startFlush trigger s) := by
  unfold startFlush
  repeat' first
    | with_reducible assumption
    | with_reducible exact moves_refl
    | decide
    | with_reducible refine moves_foldl ?_ (fun _ _ _ => ?_)
    | with_reducible apply moves_step (setF_moves ..)
    | with_reducible apply moves_step (writeSummary_moves ..)
    | fail_if_no_progress
        (with_reducible apply moves_frame)
        all_goals try first | with_reducible exact rfl | exact moves_absurd rfl | with_reducible exact fun _ => rfl

theorem triggerFlush_moves (trigger : Nat) (s : State) :
    Moves 0x600002 s (triggerFlush trigger s) := by
  unfold triggerFlush
  repeat' first
    | with_reducible exact moves_refl
    | decide
    | with_reducible apply moves_step (startFlush_moves ..)
    | with_reducible refine moves_ite ?_ ?_
    | fail_if_no_progress
        (with_reducible apply moves_frame)
        all_goals try first | with_reducible exact rfl | exact moves_absurd rfl | with_reducible exact fun _ => rfl

theorem fillTriggers_moves (s : State) :
    Moves 0x600002 s (fillTriggers s) := by
  unfold fillTriggers
  repeat' first
    | with_reducible exact moves_refl
    | decide
    | with_reducible apply moves_step (triggerFlush_moves ..)
    | with_reducible refine moves_ite ?_ ?_

theorem suppressRecord_moves (a : Arrival) (s : State) :
    Moves 0x200002 s (suppressRecord a s) := by
  unfold suppressRecord
  repeat' first
    | with_reducible exact moves_refl
    | decide
    | with_reducible apply moves_step (bumpF_moves ..)
    | fail_if_no_progress
        (with_reducible apply moves_frame)
        all_goals try first | with_reducible exact rfl | exact moves_absurd rfl | with_reducible exact fun _ => rfl

theorem refreshCap_moves (s : State) :
    Moves 0x200000 s (refreshCap s) := by
  unfold refreshCap
  repeat' first
    | with_reducible exact moves_refl
    | with_reducible refine moves_ite ?_ ?_
    | fail_if_no_progress
        (with_reducible apply moves_frame)
        all_goals try first | with_reducible exact rfl | exact moves_absurd rfl | with_reducible exact fun _ => rfl

theorem dropAtCap_moves (s : State) :
    Moves 0x200002 s (dropAtCap s) := by
  unfold dropAtCap
  repeat' first
    | with_reducible exact moves_refl
    | decide
    | with_reducible apply moves_step (setF_moves ..)
    | with_reducible apply moves_step (dropRecord_moves ..)
    | with_reducible refine moves_ite ?_ ?_
    | fail_if_no_progress
        (with_reducible apply moves_frame)
        all_goals try first | with_reducible exact rfl | exact moves_absurd rfl | with_reducible exact fun _ => rfl

theorem admitRecord_moves (a : Arrival) (s0 : State) :
    Moves 0x600002 s0 (admitRecord a s0) := by
  unfold admitRecord
  repeat' first
    | with_reducible exact moves_refl
    | decide
    | with_reducible apply moves_step (refreshCap_moves ..)
    | with_reducible apply moves_step (fillTriggers_moves ..)
    | with_reducible apply moves_step (numberRecord_moves ..)
    | with_reducible apply moves_step (suppressRecord_moves ..)
    | with_reducible apply moves_step (setBucket_moves ..)
    | with_reducible apply moves_step (dropAtCap_moves ..)
    | with_reducible apply moves_step (writeSummary_moves ..)
    | with_reducible refine moves_ite ?_ ?_
    | fail_if_no_progress
        (with_reducible apply moves_frame)
        all_goals try first | with_reducible exact rfl | exact moves_absurd rfl | with_reducible exact fun _ => rfl

theorem admitNext_moves (s : State) :
    Moves 0x600002 s (admitNext s) := by
  unfold admitNext
  repeat' first
    | with_reducible exact moves_refl
    | decide
    | with_reducible apply moves_step (admitRecord_moves ..)
    | fail_if_no_progress
        (with_reducible apply moves_frame)
        all_goals try first | with_reducible exact rfl | exact moves_absurd rfl | with_reducible exact fun _ => rfl
    | split

theorem execSummaryTimeout_moves (code : Nat) (s : State) :
    ResultMoves 0x600002 s (execSummaryTimeout code s) := by
  unfold execSummaryTimeout
  repeat' first
    | with_reducible exact moves_refl
    | decide
    | with_reducible apply moves_step (writeSummary_moves ..)
    | with_reducible refine moves_ite ?_ ?_
    | with_reducible refine resultMoves_next ?_

theorem execFlushTimer_moves (s : State) :
    ResultMoves 0x600002 s (execFlushTimer s) := by
  unfold execFlushTimer
  repeat' first
    | with_reducible exact moves_refl
    | decide
    | with_reducible apply moves_step (startFlush_moves ..)
    | with_reducible refine moves_ite ?_ ?_
    | with_reducible refine resultMoves_next ?_
    | fail_if_no_progress
        (with_reducible apply moves_frame)
        all_goals try first | with_reducible exact rfl | exact moves_absurd rfl | with_reducible exact fun _ => rfl

theorem eraseBlock_moves (k : Nat) (s : State) :
    Moves 0x200000 s (eraseBlock k s) := by
  unfold eraseBlock
  repeat' first
    | with_reducible exact moves_refl
    | fail_if_no_progress
        (with_reducible apply moves_frame)
        all_goals try first | with_reducible exact rfl | exact moves_absurd rfl | with_reducible exact fun _ => rfl

theorem nextSlot_moves (s : State) :
    Moves 0x200002 s (nextSlot s) := by
  unfold nextSlot
  repeat' first
    | with_reducible exact moves_refl
    | decide
    | with_reducible apply moves_step (setF_moves ..)
    | with_reducible apply moves_step (eraseBlock_moves ..)
    | with_reducible refine moves_ite ?_ ?_
    | fail_if_no_progress
        (with_reducible apply moves_frame)
        all_goals try first | with_reducible exact rfl | exact moves_absurd rfl | with_reducible exact fun _ => rfl

theorem writePersistent_moves (r : Rec) (s : State) :
    Moves 0x200002 s (writePersistent r s) := by
  unfold writePersistent
  repeat' first
    | with_reducible exact moves_refl
    | decide
    | with_reducible apply moves_step (nextSlot_moves ..)
    | fail_if_no_progress
        (with_reducible apply moves_frame)
        all_goals try first | with_reducible exact rfl | exact moves_absurd rfl | with_reducible exact fun _ => rfl

theorem failBlock_moves (s : State) : Moves 0x200002 s (failBlock s) :=
  moves_step (emit_moves ..) rfl (moves_step setF_moves rfl (moves_step (bumpF_moves ..) rfl
    (moves_step (eraseBlock_moves ..) rfl moves_refl)))

theorem persistAll_moves (rs : List Rec) (run : Option Nat) (s : State) : Moves 0x600002 s (persistAll rs run s) := by
  induction rs generalizing run s with
  | nil => exact moves_refl
  | cons r rs ih =>
    unfold persistAll
    split
    · exact moves_step (ih ..) rfl (moves_step (noteUe_moves ..) rfl moves_refl)
    · refine moves_step (ih ..) rfl (moves_step (writePersistent_moves ..) rfl ?_)
      split
      · exact moves_step (writePersistent_moves ..) rfl moves_refl
      · exact moves_refl

theorem admitAll_moves (s : State) : Moves 0x600002 s (admitAll s) := by
  unfold admitAll
  generalize s.cont.arrivals.length = n
  induction n with
  | zero => exact moves_refl
  | succ n ih => exact moves_step (admitNext_moves ..) rfl ih

theorem finishFlush_moves (failures : Nat) (s0 : State) :
    Moves 0x1600002 s0 (finishFlush failures s0) := by
  unfold finishFlush
  repeat' first
    | with_reducible assumption
    | with_reducible exact moves_refl
    | decide
    | with_reducible refine moves_foldl ?_ (fun _ _ _ => ?_)
    | with_reducible apply moves_step (setF_moves ..)
    | with_reducible apply moves_step (admitAll_moves ..)
    | with_reducible apply moves_step (failBlock_moves ..)
    | with_reducible apply moves_step (writePersistent_moves ..)
    | with_reducible apply moves_step (persistAll_moves ..)
    | with_reducible apply moves_step (bumpF_moves ..)
    | with_reducible apply moves_step (admitRecord_moves ..)
    | with_reducible apply moves_step (triggerFlush_moves ..)
    | fail_if_no_progress
        (with_reducible apply moves_frame)
        all_goals try first | with_reducible exact rfl | exact moves_absurd rfl | with_reducible exact fun _ => rfl
    | split
    | (dsimp only; split)

theorem execFlushDone_moves (failures : Nat) (s : State) :
    ResultMoves 0x1600002 s (execFlushDone failures s) := by
  unfold execFlushDone
  repeat' first
    | with_reducible exact moves_refl
    | decide
    | with_reducible apply moves_step (finishFlush_moves ..)
    | with_reducible refine resultMoves_next ?_

theorem flushAll_moves (s : State) :
    Moves 0x1600002 s (flushAll s) := by
  unfold flushAll
  repeat' first
    | with_reducible exact moves_refl
    | decide
    | with_reducible apply moves_step (finishFlush_moves ..)
    | with_reducible apply moves_step (triggerFlush_moves ..)
    | with_reducible apply moves_step (admitAll_moves ..)
    | with_reducible refine moves_ite ?_ ?_

theorem cmdFlush_moves (c : Caller) (a0 : Nat) (s : State) :
    Moves 0xe00002 s (cmdFlush c a0 s).1 := by
  unfold cmdFlush
  repeat' first
    | with_reducible assumption
    | with_reducible exact moves_refl
    | decide
    | with_reducible apply moves_step (triggerFlush_moves ..)
    | with_reducible refine bodyMoves_ok ?_
    | with_reducible refine runCommand_moves _ _ _ _ _ _ _ _ rfl ?_ (fun _ _ => ?_)

theorem execFlush_moves (c : Caller) (a0 : Nat) (s : State) :
    ResultMoves 0xe00002 s (execFlush c a0 s) := by
  unfold execFlush
  repeat' first
    | with_reducible exact moves_refl
    | decide
    | with_reducible apply moves_step (cmdFlush_moves ..)
    | with_reducible refine resultMoves_next ?_

theorem cmdContRead_moves (c : Caller) (ring epoch seq : Nat) (s : State) :
    Moves 0xa00002 s (cmdContRead c ring epoch seq s).1 := by
  unfold cmdContRead
  repeat' first
    | with_reducible assumption
    | with_reducible exact moves_refl
    | decide
    | with_reducible apply moves_step (setF_moves ..)
    | with_reducible refine bodyMoves_ok ?_
    | with_reducible exact bodyMoves_error _
    | with_reducible refine runCommand_moves _ _ _ _ _ _ _ _ rfl ?_ (fun _ _ => ?_)
    | fail_if_no_progress
        (with_reducible apply moves_frame)
        all_goals try first | with_reducible exact rfl | exact moves_absurd rfl | with_reducible exact fun _ => rfl
    | split

theorem execContRead_moves (c : Caller) (a0 a1 a2 : Nat) (s : State) :
    ResultMoves 0xa00002 s (execContRead c a0 a1 a2 s) := by
  unfold execContRead
  repeat' first
    | with_reducible exact moves_refl
    | decide
    | with_reducible apply moves_step (cmdContRead_moves ..)
    | with_reducible refine resultMoves_next ?_

theorem endRead_moves (ring : Nat) (s : State) :
    Moves 0x200002 s (endRead ring s) := by
  unfold endRead
  repeat' first
    | with_reducible exact moves_refl
    | decide
    | with_reducible apply moves_step (setF_moves ..)
    | fail_if_no_progress
        (with_reducible apply moves_frame)
        all_goals try first | with_reducible exact rfl | exact moves_absurd rfl | with_reducible exact fun _ => rfl

theorem cmdReadStop_moves (c : Caller) (ring : Nat) (s : State) :
    Moves 0xa00002 s (cmdReadStop c ring s).1 := by
  unfold cmdReadStop
  repeat' first
    | with_reducible assumption
    | with_reducible exact moves_refl
    | decide
    | with_reducible apply moves_step (endRead_moves ..)
    | with_reducible refine bodyMoves_ok ?_
    | with_reducible exact bodyMoves_error _
    | with_reducible refine runCommand_moves _ _ _ _ _ _ _ _ rfl ?_ (fun _ _ => ?_)
    | split

theorem execReadStop_moves (c : Caller) (a0 : Nat) (s : State) :
    ResultMoves 0xa00002 s (execReadStop c a0 s) := by
  unfold execReadStop
  repeat' first
    | with_reducible exact moves_refl
    | decide
    | with_reducible apply moves_step (cmdReadStop_moves ..)
    | with_reducible refine resultMoves_next ?_

theorem stageRecords_moves (ring fuel : Nat) (rs : List Rec) (s : State) : Moves 0x600002 s (stageRecords ring fuel rs s) := by
  induction fuel generalizing rs s with
  | zero => exact moves_refl
  | succ n ih =>
    cases rs with
    | nil => exact moves_refl
    | cons r rs => exact moves_step (ih ..) rfl (moves_step (stageEntry_moves ..) rfl moves_refl)

theorem execReadDone_moves (ring : Nat) (s : State) :
    ResultMoves 0x600002 s (execReadDone ring s) := by
  unfold execReadDone
  repeat' first
    | with_reducible assumption
    | with_reducible exact moves_refl
    | decide
    | with_reducible refine moves_foldl ?_ (fun _ _ _ => ?_)
    | with_reducible apply moves_step (noteUe_moves ..)
    | with_reducible apply moves_step (stageRecords_moves ..)
    | with_reducible apply moves_step (bumpF_moves ..)
    | with_reducible apply moves_step (emit_moves ..)
    | with_reducible apply moves_step (endRead_moves ..)
    | with_reducible refine resultMoves_next ?_
    | fail_if_no_progress
        (with_reducible apply moves_frame)
        all_goals try first | with_reducible exact rfl | exact moves_absurd rfl | with_reducible exact fun _ => rfl
    | split

theorem putPoint_moves (i : Nat) (p : PointVal) (c : PointCond) (s : State) : Moves 0x20 s (putPoint i p c s) :=
  moves_images fun w => ⟨tableWf_put _ _ _ _ w.live, w.snap, w.window, tableWf_put _ _ _ _ w.cond⟩

theorem rejectSample_moves (i : Nat) (reason : Nat) (x : Word) (k : PointCond) (s : State) :
    Moves 0x200022 s (rejectSample i reason x k s) := by
  unfold rejectSample
  repeat' first
    | with_reducible exact moves_refl
    | decide
    | with_reducible apply moves_step (emit_moves ..)
    | with_reducible apply moves_step (bumpF_moves ..)
    | with_reducible apply moves_step (putPoint_moves ..)

theorem conditionSample_moves (u i : Nat) (c : PointCfg) (x : Word) (stamp : Nat) (s : State) :
    Moves 0x200022 s (conditionSample u i c x stamp s) := by
  unfold conditionSample
  repeat' first
    | with_reducible exact moves_refl
    | decide
    | with_reducible apply moves_step (rejectSample_moves ..)
    | with_reducible apply moves_step (putPoint_moves ..)
    | with_reducible apply moves_step (bumpF_moves ..)
    | with_reducible apply moves_step (emit_moves ..)
    | with_reducible refine moves_ite ?_ ?_

theorem refuseWrite_moves (u i : Nat) (s : State) :
    Moves 0x200002 s (refuseWrite u i s) := by
  unfold refuseWrite
  repeat' first
    | with_reducible exact moves_refl
    | decide
    | with_reducible apply moves_step (emit_moves ..)
    | with_reducible apply moves_step (bumpF_moves ..)

theorem holdSample_moves (h : HeldSample) (s : State) : Moves 0x20 s (holdSample h s) :=
  moves_images fun w => ⟨w.live, w.snap, w.window, w.cond⟩

theorem sampleIn_moves (u i : Nat) (x : Word) (stamp : Nat) (s : State) :
    Moves 0x200022 s (sampleIn u i x stamp s) := by
  unfold sampleIn
  repeat' first
    | with_reducible exact moves_refl
    | decide
    | with_reducible apply moves_step (holdSample_moves ..)
    | with_reducible apply moves_step (refuseWrite_moves ..)
    | with_reducible apply moves_step (conditionSample_moves ..)
    | split

theorem frontFault_moves (u i code : Nat) (s : State) :
    Moves 0x200022 s (frontFault u i code s) := by
  unfold frontFault
  repeat' first
    | with_reducible exact moves_refl
    | decide
    | with_reducible apply moves_step (holdSample_moves ..)
    | with_reducible apply moves_step (refuseWrite_moves ..)
    | with_reducible apply moves_step (putPoint_moves ..)
    | split

theorem declareAbsent_moves (i : Nat) (s : State) :
    Moves 0x20 s (declareAbsent i s) := by
  unfold declareAbsent
  repeat' first
    | with_reducible exact moves_refl
    | decide
    | with_reducible apply moves_step (putPoint_moves ..)
    | with_reducible refine moves_ite ?_ ?_

theorem crossingStall_moves (i : Nat) (on : Bool) (s : State) :
    Moves 0x20 s (crossingStall i on s) := by
  unfold crossingStall
  repeat' first
    | with_reducible exact moves_refl
    | decide
    | with_reducible apply moves_step (putPoint_moves ..)
    | with_reducible refine moves_ite ?_ ?_

theorem takeWritePoint_moves (i : Nat) (x : Word) (stamp : Nat) (s : State) :
    Moves 0x20 s (takeWritePoint i x stamp s) := by
  unfold takeWritePoint
  repeat' first
    | with_reducible exact moves_refl
    | decide
    | with_reducible apply moves_step (putPoint_moves ..)
    | with_reducible refine moves_ite ?_ ?_
    | split

theorem memoryPoint_moves (i : Nat) (entry : Bool) (s : State) :
    Moves 0x200022 s (memoryPoint i entry s) := by
  unfold memoryPoint
  repeat' first
    | with_reducible exact moves_refl
    | decide
    | with_reducible apply moves_step (setF_moves ..)
    | with_reducible apply moves_step (emit_moves ..)
    | with_reducible apply moves_step (bumpF_moves ..)
    | with_reducible apply moves_step (putPoint_moves ..)
    | with_reducible refine moves_ite ?_ ?_

theorem safePoint_moves (u i : Nat) (x : Word) (stamp : Nat) (s : State) :
    Moves 0x20 s (safePoint u i x stamp s) := by
  unfold safePoint
  repeat' first
    | with_reducible exact moves_refl
    | decide
    | with_reducible apply moves_step (putPoint_moves ..)
    | split

theorem holdForSafe_moves (u i : Nat) (s : State) :
    Moves 0x20 s (holdForSafe u i s) := by
  unfold holdForSafe
  repeat' first
    | with_reducible exact moves_refl
    | decide
    | with_reducible apply moves_step (putPoint_moves ..)

theorem markStale_moves (c : PointCfg) (s : State) :
    Moves 0x200020 s (markStale c s) := by
  unfold markStale
  repeat' first
    | with_reducible exact moves_refl
    | decide
    | with_reducible apply moves_step (emit_moves ..)
    | with_reducible apply moves_step (putPoint_moves ..)

theorem checkTimeouts_moves (s : State) :
    Moves 0x200020 s (checkTimeouts s) := by
  unfold checkTimeouts
  repeat' first
    | with_reducible assumption
    | with_reducible exact moves_refl
    | decide
    | with_reducible refine moves_foldl ?_ (fun _ _ _ => ?_)
    | with_reducible apply moves_step (markStale_moves ..)
    | with_reducible refine moves_ite ?_ ?_

theorem sysPoint_moves (i typ v stamp : Nat) (s : State) : Moves 0x20 s (sysPoint i typ v stamp s) :=
  moves_images fun w => ⟨tableWf_put _ _ _ _ w.live, w.snap, w.window, w.cond⟩

theorem freezeSnapshot_moves (s : State) : Moves 0x20 s (freezeSnapshot s) :=
  moves_images fun w => ⟨w.live, w.live, w.window, w.cond⟩

theorem initImage_moves (stamp : Nat) (s : State) : Moves 0x20 s (initImage stamp s) :=
  moves_foldl (moves_step (moves_images fun _ => ⟨rfl, rfl, rfl, rfl⟩) rfl moves_refl)
    (fun _ _ ht => moves_step (putPoint_moves ..) rfl ht)

theorem execPointSample_moves (u p : Nat) (v : Word) (stamp : Nat) (ue : Option (Nat × Bool)) (s : State) :
    ResultMoves 0x600022 s (execPointSample u p v stamp ue s) := by
  unfold execPointSample
  repeat' first
    | with_reducible exact moves_refl
    | decide
    | with_reducible apply moves_step (sampleIn_moves ..)
    | with_reducible apply moves_step (memoryPoint_moves ..)
    | with_reducible apply moves_step (noteUe_moves ..)
    | with_reducible refine resultMoves_next ?_
    | split

theorem execPointStale_moves (p : Nat) (s : State) : ResultMoves 0x200020 s (execPointStale p s) := by
  unfold execPointStale
  split
  · exact resultMoves_next moves_refl
  · split
    · exact resultMoves_next (moves_step (moves_images fun w =>
        ⟨w.live, tableWf_put _ _ _ _ w.snap, w.window, w.cond⟩) rfl (moves_step (markStale_moves ..) rfl moves_refl))
    · exact resultMoves_next moves_refl

theorem addAccum_moves (i : Nat) (x : F64) (s : State) :
    Moves 0x40004000 s (addAccum i x s) := by
  unfold addAccum
  repeat' first
    | with_reducible exact moves_refl
    | with_reducible refine moves_ite ?_ ?_
    | fail_if_no_progress
        (with_reducible apply moves_frame)
        all_goals try first | with_reducible exact rfl | exact moves_absurd rfl | with_reducible exact fun _ => rfl

theorem stepCount_moves (i n : Nat) (s : State) :
    Moves 0x40004000 s (stepCount i n s) := by
  unfold stepCount
  repeat' first
    | with_reducible exact moves_refl
    | with_reducible refine moves_ite ?_ ?_
    | fail_if_no_progress
        (with_reducible apply moves_frame)
        all_goals try first | with_reducible exact rfl | exact moves_absurd rfl | with_reducible exact fun _ => rfl

theorem keepBoundary_moves (s : State) :
    Moves 0x4000 s (keepBoundary s) := by
  unfold keepBoundary
  repeat' first
    | with_reducible exact moves_refl
    | fail_if_no_progress
        (with_reducible apply moves_frame)
        all_goals try first | with_reducible exact rfl | exact moves_absurd rfl | with_reducible exact fun _ => rfl

end Sys2Proof.Machine
end

