-- ==== Sys2Proof/Laws/MovesMetro.lean ====
section
/-! SUPPORT. Which parts of the state the operations of BOE, LIO, BOT and BAT change, and that they keep
its form. -/

namespace Sys2Proof.Machine

open Sys2Proof

theorem updSet_moves (k : Nat) (f : VoltageSet → VoltageSet) (s : State) :
    Moves 0x1000 s (updSet k f s) := by
  unfold updSet
  repeat' first
    | with_reducible exact moves_refl
    | fail_if_no_progress
        (with_reducible apply moves_frame)
        all_goals try first | with_reducible exact rfl | exact moves_absurd rfl | with_reducible exact fun _ => rfl

theorem flagInterval_moves (m bit : Nat) (s : State) :
    Moves 0x1000 s (flagInterval m bit s) := by
  unfold flagInterval
  repeat' first
    | with_reducible exact moves_refl
    | fail_if_no_progress
        (with_reducible apply moves_frame)
        all_goals try first | with_reducible exact rfl | exact moves_absurd rfl | with_reducible exact fun _ => rfl

theorem flagMeters_moves (ms : List Nat) (bit : Nat) (s : State) :
    Moves 0x1000 s (flagMeters ms bit s) := by
  unfold flagMeters
  repeat' first
    | with_reducible assumption
    | with_reducible exact moves_refl
    | decide
    | with_reducible refine moves_foldl ?_ (fun _ _ _ => ?_)
    | with_reducible apply moves_step (flagInterval_moves ..)

theorem haltMeter_moves (m addr : Nat) (s : State) :
    Moves 0x201002 s (haltMeter m addr s) := by
  unfold haltMeter
  repeat' first
    | with_reducible exact moves_refl
    | decide
    | with_reducible apply moves_step (setF_moves ..)
    | with_reducible apply moves_step (flagInterval_moves ..)
    | with_reducible apply moves_step (emit_moves ..)
    | with_reducible refine moves_ite ?_ ?_
    | fail_if_no_progress
        (with_reducible apply moves_frame)
        all_goals try first | with_reducible exact rfl | exact moves_absurd rfl | with_reducible exact fun _ => rfl

theorem boeConfigError_moves (x : BoeError) (s : State) :
    Moves 0x201002 s (boeConfigError x s) := by
  unfold boeConfigError
  repeat' first
    | with_reducible assumption
    | with_reducible exact moves_refl
    | decide
    | with_reducible refine moves_foldl ?_ (fun _ _ _ => ?_)
    | with_reducible apply moves_step (haltMeter_moves ..)
    | split

theorem addEnergy_moves (e : ElecMetro) (d : WindowData) (r : WindowResult) (m : MeterCfg) (s : State) :
    Moves 0x40005000 s (addEnergy e d r m s) := by
  unfold addEnergy
  repeat' first
    | with_reducible exact moves_refl
    | decide
    | with_reducible apply moves_step (addAccum_moves ..)
    | with_reducible apply moves_step (flagInterval_moves ..)
    | with_reducible refine moves_ite ?_ ?_

theorem calWindow_moves (e : ElecMetro) (openedAt : Nat) (r : WindowResult) (s : State) :
    Moves 0x1002 s (calWindow e openedAt r s) := by
  unfold calWindow
  repeat' first
    | with_reducible exact moves_refl
    | decide
    | with_reducible apply moves_step (setF_moves ..)
    | fail_if_no_progress
        (with_reducible apply moves_frame)
        all_goals try first | with_reducible exact rfl | exact moves_absurd rfl | with_reducible exact fun _ => rfl
    | split

theorem windowFlags_moves (e : ElecMetro) (r : WindowResult) (s : State) :
    Moves 0x1000 s (windowFlags e r s) := by
  unfold windowFlags
  repeat' first
    | with_reducible assumption
    | with_reducible exact moves_refl
    | decide
    | with_reducible refine moves_foldl ?_ (fun _ _ _ => ?_)
    | with_reducible apply moves_step (flagInterval_moves ..)
    | with_reducible apply moves_step (flagMeters_moves ..)
    | with_reducible refine moves_ite ?_ ?_

theorem closeWindow_moves (d : WindowData) (s : State) :
    Moves 0x44205002 s (closeWindow d s) := by
  unfold closeWindow
  repeat' first
    | with_reducible assumption
    | with_reducible exact moves_refl
    | decide
    | with_reducible refine moves_foldl ?_ (fun _ _ _ => ?_)
    | with_reducible apply moves_step (setF_moves ..)
    | with_reducible apply moves_step (updSet_moves ..)
    | with_reducible apply moves_step (drawFree_moves ..)
    | with_reducible apply moves_step (boeConfigError_moves ..)
    | with_reducible apply moves_step (windowFlags_moves ..)
    | with_reducible apply moves_step (addEnergy_moves ..)
    | with_reducible apply moves_step (calWindow_moves ..)
    | with_reducible apply moves_step (emit_moves ..)
    | with_reducible refine moves_ite ?_ ?_
    | fail_if_no_progress
        (with_reducible apply moves_frame)
        all_goals try first | with_reducible exact rfl | exact moves_absurd rfl | with_reducible exact fun _ => rfl
    | split

theorem voltConditions_moves (e : ElecMetro) (k i : Nat) (x : ChannelResult) (s : State) :
    Moves 0x201002 s (voltConditions e k i x s) := by
  unfold voltConditions
  repeat' first
    | with_reducible exact moves_refl
    | decide
    | with_reducible apply moves_step (setF_moves ..)
    | with_reducible apply moves_step (emit_moves ..)
    | with_reducible refine moves_ite ?_ ?_
    | fail_if_no_progress
        (with_reducible apply moves_frame)
        all_goals try first | with_reducible exact rfl | exact moves_absurd rfl | with_reducible exact fun _ => rfl

theorem currConditions_moves (k : Nat) (x : Nat × ChannelResult) (s : State) :
    Moves 0x200002 s (currConditions k x s) := by
  unfold currConditions
  repeat' first
    | with_reducible exact moves_refl
    | decide
    | with_reducible apply moves_step (setF_moves ..)
    | with_reducible apply moves_step (emit_moves ..)
    | with_reducible refine moves_ite ?_ ?_

theorem freqConditions_moves (r : WindowResult) (s : State) :
    Moves 0x201000 s (freqConditions r s) := by
  unfold freqConditions
  repeat' first
    | with_reducible exact moves_refl
    | decide
    | with_reducible apply moves_step (emit_moves ..)
    | with_reducible refine moves_ite ?_ ?_
    | fail_if_no_progress
        (with_reducible apply moves_frame)
        all_goals try first | with_reducible exact rfl | exact moves_absurd rfl | with_reducible exact fun _ => rfl

theorem processErrors_moves (errors : List BoeError) (r : WindowResult) (s : State) :
    Moves 0x201002 s (processErrors errors r s).2 := by
  unfold processErrors
  repeat' first
    | with_reducible assumption
    | with_reducible exact moves_refl
    | decide
    | with_reducible refine moves_foldl ?_ (fun _ _ _ => ?_)
    | with_reducible apply moves_step (setF_moves ..)
    | with_reducible apply moves_step (boeConfigError_moves ..)
    | with_reducible apply moves_step (emit_moves ..)
    | split

theorem execWindowProcessed_moves (errors : List BoeError) (s : State) :
    ResultMoves 0x201002 s (execWindowProcessed errors s) := by
  unfold execWindowProcessed
  repeat' first
    | with_reducible assumption
    | with_reducible exact moves_refl
    | decide
    | with_reducible refine moves_foldl ?_ (fun _ _ _ => ?_)
    | with_reducible apply moves_step (processErrors_moves ..)
    | with_reducible apply moves_step (voltConditions_moves ..)
    | with_reducible apply moves_step (currConditions_moves ..)
    | with_reducible apply moves_step (freqConditions_moves ..)
    | with_reducible refine resultMoves_next ?_
    | fail_if_no_progress
        (with_reducible apply moves_frame)
        all_goals try first | with_reducible exact rfl | exact moves_absurd rfl | with_reducible exact fun _ => rfl
    | split

theorem boeTick_moves (s : State) :
    Moves 0x1010 s (boeTick s) := by
  unfold boeTick
  repeat' first
    | with_reducible exact moves_refl
    | fail_if_no_progress
        (with_reducible apply moves_frame)
        all_goals try first | with_reducible exact rfl | exact moves_absurd rfl | with_reducible exact fun _ => rfl
    | split

theorem boeCurtain_moves (s : State) :
    Moves 0x1000 s (boeCurtain s) := by
  unfold boeCurtain
  repeat' first
    | with_reducible exact moves_refl
    | fail_if_no_progress
        (with_reducible apply moves_frame)
        all_goals try first | with_reducible exact rfl | exact moves_absurd rfl | with_reducible exact fun _ => rfl
    | split

theorem closeMeterInterval_moves (stamp : Nat) (counts : Table Accum) (m : Nat) (s : State) :
    Moves 0x601002 s (closeMeterInterval stamp counts m s) := by
  unfold closeMeterInterval
  repeat' first
    | with_reducible exact moves_refl
    | decide
    | with_reducible apply moves_step (stageEntry_moves ..)
    | with_reducible refine moves_ite ?_ ?_
    | fail_if_no_progress
        (with_reducible apply moves_frame)
        all_goals try first | with_reducible exact rfl | exact moves_absurd rfl | with_reducible exact fun _ => rfl

theorem execDemandIntervalClose_moves (s : State) :
    ResultMoves 0x601002 s (execDemandIntervalClose s) := by
  unfold execDemandIntervalClose
  repeat' first
    | with_reducible assumption
    | with_reducible exact moves_refl
    | decide
    | with_reducible refine moves_foldl ?_ (fun _ _ _ => ?_)
    | with_reducible apply moves_step (closeMeterInterval_moves ..)
    | with_reducible refine moves_ite ?_ ?_
    | with_reducible refine resultMoves_next ?_
    | split

theorem boeGoLive_moves (stamp : Nat) (s : State) :
    Moves 0x1002 s (boeGoLive stamp s) := by
  unfold boeGoLive
  repeat' first
    | with_reducible exact moves_refl
    | decide
    | with_reducible apply moves_step (setF_moves ..)
    | fail_if_no_progress
        (with_reducible apply moves_frame)
        all_goals try first | with_reducible exact rfl | exact moves_absurd rfl | with_reducible exact fun _ => rfl
    | split

theorem clearCal_moves (s : State) :
    Moves 0x2 s (clearCal s) := by
  unfold clearCal
  repeat' first
    | with_reducible assumption
    | with_reducible exact moves_refl
    | decide
    | with_reducible refine moves_foldl ?_ (fun _ _ _ => ?_)
    | with_reducible apply moves_step (setF_moves ..)

theorem abortCal_moves (s : State) :
    Moves 0x4601002 s (abortCal s) := by
  unfold abortCal
  repeat' first
    | with_reducible exact moves_refl
    | decide
    | with_reducible apply moves_step (setF_moves ..)
    | with_reducible apply moves_step (drawFree_moves ..)
    | with_reducible apply moves_step (commandDone_moves ..)
    | with_reducible apply moves_step (emit_moves ..)
    | with_reducible apply moves_step (clearCal_moves ..)
    | fail_if_no_progress
        (with_reducible apply moves_frame)
        all_goals try first | with_reducible exact rfl | exact moves_absurd rfl | with_reducible exact fun _ => rfl
    | split

theorem boeStop_moves (s : State) :
    Moves 0x4601002 s (boeStop s) := by
  unfold boeStop
  repeat' first
    | with_reducible assumption
    | with_reducible exact moves_refl
    | decide
    | with_reducible refine moves_foldl ?_ (fun _ _ _ => ?_)
    | with_reducible apply moves_step (setF_moves ..)
    | with_reducible apply moves_step (abortCal_moves ..)
    | fail_if_no_progress
        (with_reducible apply moves_frame)
        all_goals try first | with_reducible exact rfl | exact moves_absurd rfl | with_reducible exact fun _ => rfl

theorem boeClockStop_moves (s : State) :
    Moves 0x201002 s (boeClockStop s) := by
  unfold boeClockStop
  repeat' first
    | with_reducible exact moves_refl
    | decide
    | with_reducible apply moves_step (setF_moves ..)
    | with_reducible apply moves_step (emit_moves ..)
    | with_reducible apply moves_step (flagMeters_moves ..)
    | with_reducible refine moves_ite ?_ ?_

theorem cmdCalStart_moves (c : Caller) (m n : Nat) (s : State) :
    Moves 0xa01002 s (cmdCalStart c m n s).1 := by
  unfold cmdCalStart
  repeat' first
    | with_reducible assumption
    | with_reducible exact moves_refl
    | decide
    | with_reducible apply moves_step (setF_moves ..)
    | with_reducible refine bodyMoves_ok ?_
    | with_reducible exact bodyMoves_error _
    | with_reducible refine runCommand_moves _ _ _ _ _ _ _ _ rfl ?_ (fun _ _ => ?_)
    | fail_if_no_progress
        (with_reducible apply moves_frame)
        all_goals try first | with_reducible exact rfl | exact moves_absurd rfl | with_reducible exact fun _ => rfl
    | split

theorem execCalStart_moves (c : Caller) (a0 a1 : Nat) (s : State) :
    ResultMoves 0xa01002 s (execCalStart c a0 a1 s) := by
  unfold execCalStart
  repeat' first
    | with_reducible exact moves_refl
    | decide
    | with_reducible apply moves_step (cmdCalStart_moves ..)
    | with_reducible refine resultMoves_next ?_

theorem cmdCalAbort_moves (c : Caller) (a0 : Nat) (s : State) :
    Moves 0x4e01002 s (cmdCalAbort c a0 s).1 := by
  unfold cmdCalAbort
  repeat' first
    | with_reducible assumption
    | with_reducible exact moves_refl
    | decide
    | with_reducible apply moves_step (abortCal_moves ..)
    | with_reducible refine bodyMoves_ok ?_
    | with_reducible exact bodyMoves_error _
    | with_reducible refine runCommand_moves _ _ _ _ _ _ _ _ rfl ?_ (fun _ _ => ?_)
    | split

theorem execCalAbort_moves (c : Caller) (a0 : Nat) (s : State) :
    ResultMoves 0x4e01002 s (execCalAbort c a0 s) := by
  unfold execCalAbort
  repeat' first
    | with_reducible exact moves_refl
    | decide
    | with_reducible apply moves_step (cmdCalAbort_moves ..)
    | with_reducible refine resultMoves_next ?_

theorem execCalDone_moves (s : State) :
    ResultMoves 0x601002 s (execCalDone s) := by
  unfold execCalDone
  repeat' first
    | with_reducible assumption
    | with_reducible exact moves_refl
    | decide
    | with_reducible refine moves_foldl ?_ (fun _ _ _ => ?_)
    | with_reducible apply moves_step (setF_moves ..)
    | with_reducible apply moves_step (commandDone_moves ..)
    | with_reducible apply moves_step (emit_moves ..)
    | with_reducible refine resultMoves_next ?_
    | fail_if_no_progress
        (with_reducible apply moves_frame)
        all_goals try first | with_reducible exact rfl | exact moves_absurd rfl | with_reducible exact fun _ => rfl
    | split

theorem boeCommand_moves (op : Nat) (c : Caller) (a0 a1 : Nat) (s : State) :
    Moves 0x4e01002 s (boeCommand op c a0 a1 s).1 := by
  unfold boeCommand
  repeat' first
    | with_reducible exact moves_refl
    | decide
    | with_reducible apply moves_step (cmdCalStart_moves ..)
    | with_reducible apply moves_step (cmdCalAbort_moves ..)
    | with_reducible apply moves_step (refuseOpcode_moves ..)
    | split

theorem channelFault_moves (f : Field) (bit n code : Nat) (raw : Nat) (s : State) :
    Moves 0x200042 s (channelFault f bit n code raw s) := by
  unfold channelFault
  repeat' first
    | with_reducible exact moves_refl
    | decide
    | with_reducible apply moves_step (emit_moves ..)
    | with_reducible apply moves_step (setBit_moves ..)
    | with_reducible refine moves_ite ?_ ?_
    | fail_if_no_progress
        (with_reducible apply moves_frame)
        all_goals try first | with_reducible exact rfl | exact moves_absurd rfl | with_reducible exact fun _ => rfl

theorem channelClear_moves (f : Field) (bit n : Nat) (s : State) :
    Moves 0x200042 s (channelClear f bit n s) := by
  unfold channelClear
  repeat' first
    | with_reducible exact moves_refl
    | decide
    | with_reducible apply moves_step (emit_moves ..)
    | with_reducible apply moves_step (setBit_moves ..)
    | with_reducible refine moves_ite ?_ ?_
    | fail_if_no_progress
        (with_reducible apply moves_frame)
        all_goals try first | with_reducible exact rfl | exact moves_absurd rfl | with_reducible exact fun _ => rfl

theorem keepWired_moves (n reason : Nat) (v : Word) (stamp : Nat) (s : State) :
    Moves 0x80000 s (keepWired n reason v stamp s) := by
  unfold keepWired
  repeat' first
    | with_reducible exact moves_refl
    | with_reducible refine moves_ite ?_ ?_
    | fail_if_no_progress
        (with_reducible apply moves_frame)
        all_goals try first | with_reducible exact rfl | exact moves_absurd rfl | with_reducible exact fun _ => rfl

theorem wiredSample_moves (n i : Nat) (v : Word) (stamp : Nat) (s : State) :
    Moves 0x280022 s (wiredSample n i v stamp s) := by
  unfold wiredSample
  repeat' first
    | with_reducible exact moves_refl
    | decide
    | with_reducible apply moves_step (keepWired_moves ..)
    | with_reducible apply moves_step (sampleIn_moves ..)
    | with_reducible refine moves_ite ?_ ?_

theorem wiredFault_moves (n i code : Nat) (s : State) :
    Moves 0x280022 s (wiredFault n i code s) := by
  unfold wiredFault
  repeat' first
    | with_reducible exact moves_refl
    | decide
    | with_reducible apply moves_step (keepWired_moves ..)
    | with_reducible apply moves_step (frontFault_moves ..)
    | with_reducible refine moves_ite ?_ ?_

theorem mirrorSample_moves (x : LioSample) (s : State) :
    Moves 0x280022 s (mirrorSample x s) := by
  unfold mirrorSample
  repeat' first
    | with_reducible exact moves_refl
    | decide
    | with_reducible apply moves_step (emit_moves ..)
    | with_reducible apply moves_step (bumpF_moves ..)
    | with_reducible apply moves_step (sampleIn_moves ..)
    | with_reducible apply moves_step (frontFault_moves ..)
    | fail_if_no_progress
        (with_reducible apply moves_frame)
        all_goals try first | with_reducible exact rfl | exact moves_absurd rfl | with_reducible exact fun _ => rfl
    | split

theorem analogSample_moves (c : Nat) (raw : F64) (s : State) :
    Moves 0x280062 s (analogSample c raw s) := by
  unfold analogSample
  repeat' first
    | with_reducible exact moves_refl
    | decide
    | with_reducible apply moves_step (wiredFault_moves ..)
    | with_reducible apply moves_step (channelFault_moves ..)
    | with_reducible apply moves_step (wiredSample_moves ..)
    | with_reducible apply moves_step (channelClear_moves ..)
    | with_reducible refine moves_ite ?_ ?_

theorem execAnalogInputSample_moves (raws : List F64) (s : State) :
    ResultMoves 0x28007a s (execAnalogInputSample raws s) := by
  unfold execAnalogInputSample
  repeat' first
    | with_reducible assumption
    | with_reducible exact moves_refl
    | decide
    | with_reducible refine moves_foldl ?_ (fun _ _ _ => ?_)
    | with_reducible apply moves_step (analogSample_moves ..)
    | with_reducible apply moves_step (elapseTo_moves ..)
    | with_reducible refine moves_ite ?_ ?_
    | with_reducible refine resultMoves_next ?_

theorem execShuntOpen_moves (c : Nat) (s : State) :
    ResultMoves 0x40 s (execShuntOpen c s) := by
  unfold execShuntOpen
  repeat' first
    | with_reducible exact moves_refl
    | with_reducible refine moves_ite ?_ ?_
    | with_reducible refine resultMoves_next ?_
    | fail_if_no_progress
        (with_reducible apply moves_frame)
        all_goals try first | with_reducible exact rfl | exact moves_absurd rfl | with_reducible exact fun _ => rfl

theorem execShuntReclose_moves (c : Nat) (s : State) :
    ResultMoves 0x40 s (execShuntReclose c s) := by
  unfold execShuntReclose
  repeat' first
    | with_reducible exact moves_refl
    | with_reducible refine resultMoves_next ?_
    | fail_if_no_progress
        (with_reducible apply moves_frame)
        all_goals try first | with_reducible exact rfl | exact moves_absurd rfl | with_reducible exact fun _ => rfl
    | split

theorem keepRtd_moves (k : Nat) (v : Option (Word × Nat × Nat)) (fault : Bool) (s : State) :
    Moves 0x40 s (keepRtd k v fault s) := by
  unfold keepRtd
  repeat' first
    | with_reducible exact moves_refl
    | fail_if_no_progress
        (with_reducible apply moves_frame)
        all_goals try first | with_reducible exact rfl | exact moves_absurd rfl | with_reducible exact fun _ => rfl

theorem rtdConversion_moves (k : Nat) (ohms : F64) (broken : Bool) (s : State) :
    Moves 0x280062 s (rtdConversion k ohms broken s) := by
  unfold rtdConversion
  repeat' first
    | with_reducible exact moves_refl
    | decide
    | with_reducible apply moves_step (keepRtd_moves ..)
    | with_reducible apply moves_step (wiredFault_moves ..)
    | with_reducible apply moves_step (channelFault_moves ..)
    | with_reducible apply moves_step (wiredSample_moves ..)
    | with_reducible apply moves_step (channelClear_moves ..)
    | with_reducible refine moves_ite ?_ ?_

theorem writeDigital_moves (c : Nat) (s : State) :
    Moves 0x280022 s (writeDigital c s) := by
  unfold writeDigital
  repeat' first
    | with_reducible exact moves_refl
    | decide
    | with_reducible apply moves_step (wiredSample_moves ..)

theorem execDigitalInputChange_moves (c : Nat) (level : Bool) (s : State) :
    ResultMoves 0x280062 s (execDigitalInputChange c level s) := by
  unfold execDigitalInputChange
  repeat' first
    | with_reducible exact moves_refl
    | decide
    | with_reducible apply moves_step (setBit_moves ..)
    | with_reducible apply moves_step (writeDigital_moves ..)
    | with_reducible refine moves_ite ?_ ?_
    | with_reducible refine resultMoves_next ?_
    | fail_if_no_progress
        (with_reducible apply moves_frame)
        all_goals try first | with_reducible exact rfl | exact moves_absurd rfl | with_reducible exact fun _ => rfl

theorem digitalFirst_moves (s : State) :
    Moves 0x280022 s (digitalFirst s) := by
  unfold digitalFirst
  repeat' first
    | with_reducible assumption
    | with_reducible exact moves_refl
    | decide
    | with_reducible refine moves_foldl ?_ (fun _ _ _ => ?_)
    | with_reducible apply moves_step (writeDigital_moves ..)
    | with_reducible refine moves_ite ?_ ?_

theorem pulseGoLive_moves (s : State) :
    Moves 0x40 s (pulseGoLive s) := by
  unfold pulseGoLive
  repeat' first
    | with_reducible exact moves_refl
    | fail_if_no_progress
        (with_reducible apply moves_frame)
        all_goals try first | with_reducible exact rfl | exact moves_absurd rfl | with_reducible exact fun _ => rfl

theorem execPulseEdge_moves (c : Nat) (s : State) :
    ResultMoves 0x2 s (execPulseEdge c s) := by
  unfold execPulseEdge
  repeat' first
    | with_reducible exact moves_refl
    | decide
    | with_reducible apply moves_step (setF_moves ..)
    | with_reducible refine moves_ite ?_ ?_
    | with_reducible refine resultMoves_next ?_

theorem pulseTransfer_moves (c : Nat) (s : State) :
    Moves 0x280062 s (pulseTransfer c s) := by
  unfold pulseTransfer
  repeat' first
    | with_reducible exact moves_refl
    | decide
    | with_reducible apply moves_step (wiredSample_moves ..)
    | with_reducible apply moves_step (crossingStall_moves ..)
    | with_reducible refine moves_ite ?_ ?_
    | fail_if_no_progress
        (with_reducible apply moves_frame)
        all_goals try first | with_reducible exact rfl | exact moves_absurd rfl | with_reducible exact fun _ => rfl

theorem execPulseTransfer_moves (s : State) :
    ResultMoves 0x280062 s (execPulseTransfer s) := by
  unfold execPulseTransfer
  repeat' first
    | with_reducible assumption
    | with_reducible exact moves_refl
    | decide
    | with_reducible refine moves_foldl ?_ (fun _ _ _ => ?_)
    | with_reducible apply moves_step (pulseTransfer_moves ..)
    | with_reducible refine moves_ite ?_ ?_
    | with_reducible refine resultMoves_next ?_

theorem driveAnalog_moves (c : Nat) (s : State) :
    Moves 0x40 s (driveAnalog c s) := by
  unfold driveAnalog
  repeat' first
    | with_reducible exact moves_refl
    | fail_if_no_progress
        (with_reducible apply moves_frame)
        all_goals try first | with_reducible exact rfl | exact moves_absurd rfl | with_reducible exact fun _ => rfl
    | split
    | (dsimp only; split)

theorem setOutput_moves (c : Nat) (on : Bool) (s : State) :
    Moves 0x40 s (setOutput c on s) := by
  unfold setOutput
  repeat' first
    | with_reducible exact moves_refl
    | fail_if_no_progress
        (with_reducible apply moves_frame)
        all_goals try first | with_reducible exact rfl | exact moves_absurd rfl | with_reducible exact fun _ => rfl

theorem driveDigital_moves (c : Nat) (s : State) :
    Moves 0x40 s (driveDigital c s) := by
  unfold driveDigital
  repeat' first
    | with_reducible exact moves_refl
    | decide
    | with_reducible apply moves_step (setOutput_moves ..)
    | with_reducible refine moves_ite ?_ ?_

theorem driveOutputs_moves (s : State) :
    Moves 0x40 s (driveOutputs s) := by
  unfold driveOutputs
  repeat' first
    | with_reducible assumption
    | with_reducible exact moves_refl
    | decide
    | with_reducible refine moves_foldl ?_ (fun _ _ _ => ?_)
    | with_reducible apply moves_step (driveAnalog_moves ..)
    | with_reducible apply moves_step (driveDigital_moves ..)
    | with_reducible refine moves_ite ?_ ?_

theorem launchOutput_moves (n : Nat) (s : State) :
    Moves 0x40 s (launchOutput n s) := by
  unfold launchOutput
  repeat' first
    | with_reducible exact moves_refl
    | fail_if_no_progress
        (with_reducible apply moves_frame)
        all_goals try first | with_reducible exact rfl | exact moves_absurd rfl | with_reducible exact fun _ => rfl

theorem moveLioOutputs_moves (n : Nat) (s : State) :
    Moves 0x40 s (moveLioOutputs n s) := by
  unfold moveLioOutputs
  repeat' first
    | with_reducible assumption
    | with_reducible exact moves_refl
    | decide
    | with_reducible refine moves_foldl ?_ (fun _ _ _ => ?_)
    | with_reducible apply moves_step (launchOutput_moves ..)

theorem execDigitalOutputOvercurrent_moves (c : Nat) (raw : Word) (s : State) :
    ResultMoves 0x200042 s (execDigitalOutputOvercurrent c raw s) := by
  unfold execDigitalOutputOvercurrent
  repeat' first
    | with_reducible exact moves_refl
    | decide
    | with_reducible apply moves_step (setOutput_moves ..)
    | with_reducible apply moves_step (channelFault_moves ..)
    | with_reducible refine moves_ite ?_ ?_
    | with_reducible refine resultMoves_next ?_
    | fail_if_no_progress
        (with_reducible apply moves_frame)
        all_goals try first | with_reducible exact rfl | exact moves_absurd rfl | with_reducible exact fun _ => rfl

theorem execOutputRetry_moves (c : Nat) (above : Bool) (s : State) :
    ResultMoves 0x200042 s (execOutputRetry c above s) := by
  unfold execOutputRetry
  repeat' first
    | with_reducible exact moves_refl
    | decide
    | with_reducible apply moves_step (emit_moves ..)
    | with_reducible apply moves_step (setOutput_moves ..)
    | with_reducible apply moves_step (channelClear_moves ..)
    | with_reducible refine moves_ite ?_ ?_
    | with_reducible refine resultMoves_next ?_
    | fail_if_no_progress
        (with_reducible apply moves_frame)
        all_goals try first | with_reducible exact rfl | exact moves_absurd rfl | with_reducible exact fun _ => rfl

theorem execAnalogOutputFault_moves (c : Nat) (raw : Word) (s : State) :
    ResultMoves 0x200042 s (execAnalogOutputFault c raw s) := by
  unfold execAnalogOutputFault
  repeat' first
    | with_reducible exact moves_refl
    | decide
    | with_reducible apply moves_step (channelFault_moves ..)
    | with_reducible refine moves_ite ?_ ?_
    | with_reducible refine resultMoves_next ?_

theorem execAnalogOutputFaultCleared_moves (c : Nat) (s : State) :
    ResultMoves 0x200042 s (execAnalogOutputFaultCleared c s) := by
  unfold execAnalogOutputFaultCleared
  repeat' first
    | with_reducible exact moves_refl
    | decide
    | with_reducible apply moves_step (channelClear_moves ..)
    | with_reducible refine moves_ite ?_ ?_
    | with_reducible refine resultMoves_next ?_

theorem dropOutputs_moves (s : State) :
    Moves 0x40 s (dropOutputs s) := by
  unfold dropOutputs
  repeat' first
    | with_reducible exact moves_refl
    | fail_if_no_progress
        (with_reducible apply moves_frame)
        all_goals try first | with_reducible exact rfl | exact moves_absurd rfl | with_reducible exact fun _ => rfl

theorem putCalc_moves (k : Nat) (x : CalcState) (s : State) :
    Moves 0x2000 s (putCalc k x s) := by
  unfold putCalc
  repeat' first
    | with_reducible exact moves_refl
    | fail_if_no_progress
        (with_reducible apply moves_frame)
        all_goals try first | with_reducible exact rfl | exact moves_absurd rfl | with_reducible exact fun _ => rfl

theorem flagCalc_moves (k bit : Nat) (s : State) :
    Moves 0x2000 s (flagCalc k bit s) := by
  unfold flagCalc
  repeat' first
    | with_reducible exact moves_refl
    | fail_if_no_progress
        (with_reducible apply moves_frame)
        all_goals try first | with_reducible exact rfl | exact moves_absurd rfl | with_reducible exact fun _ => rfl

theorem showTariff_moves (c : CalcCfg) (t : Nat × Bool) (s : State) :
    Moves 0x202002 s (showTariff c t s) := by
  unfold showTariff
  repeat' first
    | with_reducible exact moves_refl
    | decide
    | with_reducible apply moves_step (setF_moves ..)
    | with_reducible apply moves_step (flagCalc_moves ..)
    | with_reducible apply moves_step (emit_moves ..)
    | with_reducible refine moves_ite ?_ ?_

theorem tempCondition_moves (c : CalcCfg) (fwd ret : TickTemp) (s : State) :
    Moves 0x202002 s (tempCondition c fwd ret s) := by
  unfold tempCondition
  repeat' first
    | with_reducible exact moves_refl
    | decide
    | with_reducible apply moves_step (setF_moves ..)
    | with_reducible apply moves_step (flagCalc_moves ..)
    | with_reducible apply moves_step (putCalc_moves ..)
    | with_reducible apply moves_step (emit_moves ..)
    | with_reducible refine moves_ite ?_ ?_

theorem flowCondition_moves (c : CalcCfg) (bad : Bool) (s : State) :
    Moves 0x202002 s (flowCondition c bad s) := by
  unfold flowCondition
  repeat' first
    | with_reducible exact moves_refl
    | decide
    | with_reducible apply moves_step (setF_moves ..)
    | with_reducible apply moves_step (flagCalc_moves ..)
    | with_reducible apply moves_step (putCalc_moves ..)
    | with_reducible apply moves_step (emit_moves ..)
    | with_reducible refine moves_ite ?_ ?_

theorem countError_moves (k : Nat) (s : State) :
    Moves 0x2002 s (countError k s) := by
  unfold countError
  repeat' first
    | with_reducible exact moves_refl
    | decide
    | with_reducible apply moves_step (putCalc_moves ..)
    | with_reducible apply moves_step (bumpF_moves ..)
    | with_reducible refine moves_ite ?_ ?_

theorem noteDirection_moves (c : CalcCfg) (back : Bool) (s : State) :
    Moves 0x202002 s (noteDirection c back s) := by
  unfold noteDirection
  repeat' first
    | with_reducible exact moves_refl
    | decide
    | with_reducible apply moves_step (setF_moves ..)
    | with_reducible apply moves_step (putCalc_moves ..)
    | with_reducible apply moves_step (emitAt_moves ..)
    | with_reducible apply moves_step (flagCalc_moves ..)
    | with_reducible refine moves_ite ?_ ?_

theorem addHeat_moves (c : CalcCfg) (heat back : Bool) (tariff : Nat) (e : F64) (s : State) :
    Moves 0x40004000 s (addHeat c heat back tariff e s) := by
  unfold addHeat
  repeat' first
    | with_reducible exact moves_refl
    | decide
    | with_reducible apply moves_step (addAccum_moves ..)
    | with_reducible apply moves_step (stepCount_moves ..)
    | with_reducible refine moves_ite ?_ ?_

theorem calcTick_moves (c : CalcCfg) (s : State) :
    Moves 0x44206002 s (calcTick c s) := by
  unfold calcTick
  repeat' first
    | with_reducible exact moves_refl
    | decide
    | with_reducible apply moves_step (setF_moves ..)
    | with_reducible apply moves_step (flagCalc_moves ..)
    | with_reducible apply moves_step (putCalc_moves ..)
    | with_reducible apply moves_step (emit_moves ..)
    | with_reducible apply moves_step (drawFree_moves ..)
    | with_reducible apply moves_step (flowCondition_moves ..)
    | with_reducible apply moves_step (tempCondition_moves ..)
    | with_reducible apply moves_step (showTariff_moves ..)
    | with_reducible apply moves_step (countError_moves ..)
    | with_reducible apply moves_step (addAccum_moves ..)
    | with_reducible apply moves_step (noteDirection_moves ..)
    | with_reducible apply moves_step (addHeat_moves ..)
    | with_reducible refine moves_ite ?_ ?_
    | split

theorem botTick_moves (s : State) :
    Moves 0x44206012 s (botTick s) := by
  unfold botTick
  repeat' first
    | with_reducible assumption
    | with_reducible exact moves_refl
    | decide
    | with_reducible refine moves_foldl ?_ (fun _ _ _ => ?_)
    | with_reducible refine moves_foldl_snd ?_ (fun _ _ _ => ?_)
    | with_reducible apply moves_step (setF_moves ..)
    | with_reducible apply moves_step (calcTick_moves ..)
    | fail_if_no_progress
        (with_reducible apply moves_frame)
        all_goals try first | with_reducible exact rfl | exact moves_absurd rfl | with_reducible exact fun _ => rfl
    | split

theorem execRtdConversion_moves (k : Nat) (ohms : F64) (broken : Bool) (s : State) :
    ResultMoves 0x280062 s (execRtdConversion k ohms broken s) := by
  unfold execRtdConversion
  repeat' first
    | with_reducible exact moves_refl
    | decide
    | with_reducible apply moves_step (rtdConversion_moves ..)
    | with_reducible refine resultMoves_next ?_

theorem haltCalc_moves (k addr : Nat) (s : State) :
    Moves 0x202002 s (haltCalc k addr s) := by
  unfold haltCalc
  repeat' first
    | with_reducible exact moves_refl
    | decide
    | with_reducible apply moves_step (setF_moves ..)
    | with_reducible apply moves_step (emit_moves ..)
    | with_reducible apply moves_step (flagCalc_moves ..)
    | with_reducible refine moves_ite ?_ ?_

theorem closeCalcInterval_moves (stamp : Nat) (counts : Table Accum) (errs : List Nat) (k : Nat) (s : State) :
    Moves 0x606002 s (closeCalcInterval stamp counts errs k s) := by
  unfold closeCalcInterval
  repeat' first
    | with_reducible exact moves_refl
    | decide
    | with_reducible apply moves_step (setF_moves ..)
    | with_reducible apply moves_step (stageEntry_moves ..)
    | with_reducible refine moves_ite ?_ ?_
    | fail_if_no_progress
        (with_reducible apply moves_frame)
        all_goals try first | with_reducible exact rfl | exact moves_absurd rfl | with_reducible exact fun _ => rfl

theorem execThermalIntervalClose_moves (s : State) :
    ResultMoves 0x606002 s (execThermalIntervalClose s) := by
  unfold execThermalIntervalClose
  repeat' first
    | with_reducible assumption
    | with_reducible exact moves_refl
    | decide
    | with_reducible refine moves_foldl ?_ (fun _ _ _ => ?_)
    | with_reducible apply moves_step (closeCalcInterval_moves ..)
    | with_reducible refine moves_ite ?_ ?_
    | with_reducible refine resultMoves_next ?_
    | split

theorem botGoLive_moves (stamp : Nat) (s : State) :
    Moves 0x2002 s (botGoLive stamp s) := by
  unfold botGoLive
  repeat' first
    | with_reducible exact moves_refl
    | decide
    | with_reducible apply moves_step (setF_moves ..)
    | fail_if_no_progress
        (with_reducible apply moves_frame)
        all_goals try first | with_reducible exact rfl | exact moves_absurd rfl | with_reducible exact fun _ => rfl
    | split

theorem botStop_moves (s : State) :
    Moves 0x2 s (botStop s) := by
  unfold botStop
  repeat' first
    | with_reducible assumption
    | with_reducible exact moves_refl
    | decide
    | with_reducible refine moves_foldl ?_ (fun _ _ _ => ?_)
    | with_reducible apply moves_step (setF_moves ..)

theorem emitBat_moves (epoch code w1 w2 w3 : Nat) (s : State) :
    Moves 0x200000 s (emitBat epoch code w1 w2 w3 s) := by
  unfold emitBat
  repeat' first
    | with_reducible exact moves_refl
    | decide
    | with_reducible apply moves_step (emitAt_moves ..)

theorem accumFailed_moves (i addr : Nat) (s : State) :
    Moves 0x207002 s (accumFailed i addr s) := by
  unfold accumFailed
  repeat' first
    | with_reducible exact moves_refl
    | decide
    | with_reducible apply moves_step (haltMeter_moves ..)
    | with_reducible apply moves_step (haltCalc_moves ..)
    | with_reducible refine moves_ite ?_ ?_
    | fail_if_no_progress
        (with_reducible apply moves_frame)
        all_goals try first | with_reducible exact rfl | exact moves_absurd rfl | with_reducible exact fun _ => rfl

theorem accumRepaired_moves (i : Nat) (s : State) :
    Moves 0x200000 s (accumRepaired i s) := by
  unfold accumRepaired
  repeat' first
    | with_reducible exact moves_refl
    | decide
    | with_reducible apply moves_step (emitBat_moves ..)

theorem showSave_moves (v : Save) (s : State) :
    Moves 0x2 s (showSave v s) := by
  unfold showSave
  repeat' first
    | with_reducible exact moves_refl
    | decide
    | with_reducible apply moves_step (setF_moves ..)

theorem writeSave_moves (cause : Nat) (ok : Bool) (s : State) :
    Moves 0x4002 s (writeSave cause ok s) := by
  unfold writeSave
  repeat' first
    | with_reducible exact moves_refl
    | decide
    | with_reducible apply moves_step (showSave_moves ..)
    | with_reducible refine moves_ite ?_ ?_
    | fail_if_no_progress
        (with_reducible apply moves_frame)
        all_goals try first | with_reducible exact rfl | exact moves_absurd rfl | with_reducible exact fun _ => rfl

theorem abandonSave_moves (s : State) :
    Moves 0x4004002 s (abandonSave s) := by
  unfold abandonSave
  repeat' first
    | with_reducible exact moves_refl
    | decide
    | with_reducible apply moves_step (drawFree_moves ..)
    | with_reducible apply moves_step (showSave_moves ..)
    | with_reducible refine moves_ite ?_ ?_
    | fail_if_no_progress
        (with_reducible apply moves_frame)
        all_goals try first | with_reducible exact rfl | exact moves_absurd rfl | with_reducible exact fun _ => rfl
    | split
    | (dsimp only; split)

theorem writeLastSave_moves (cause : Nat) (ok : Bool) (s : State) :
    Moves 0x4004002 s (writeLastSave cause ok s) := by
  unfold writeLastSave
  repeat' first
    | with_reducible exact moves_refl
    | decide
    | with_reducible apply moves_step (writeSave_moves ..)
    | with_reducible apply moves_step (abandonSave_moves ..)

theorem periodicSave_moves (ok : Bool) (s : State) :
    Moves 0x4002 s (periodicSave ok s) := by
  unfold periodicSave
  repeat' first
    | with_reducible exact moves_refl
    | decide
    | with_reducible apply moves_step (writeSave_moves ..)
    | fail_if_no_progress
        (with_reducible apply moves_frame)
        all_goals try first | with_reducible exact rfl | exact moves_absurd rfl | with_reducible exact fun _ => rfl

theorem execPeriodicSave_moves (s : State) :
    ResultMoves 0x4002 s (execPeriodicSave s) := by
  unfold execPeriodicSave
  repeat' first
    | with_reducible exact moves_refl
    | decide
    | with_reducible apply moves_step (periodicSave_moves ..)
    | with_reducible refine moves_ite ?_ ?_
    | with_reducible refine resultMoves_next ?_

theorem execFlushSave_moves (s : State) :
    ResultMoves 0x5004002 s (execFlushSave s) := by
  unfold execFlushSave
  repeat' first
    | with_reducible exact moves_refl
    | decide
    | with_reducible apply moves_step (writeLastSave_moves ..)
    | with_reducible refine moves_ite ?_ ?_
    | with_reducible refine resultMoves_next ?_
    | fail_if_no_progress
        (with_reducible apply moves_frame)
        all_goals try first | with_reducible exact rfl | exact moves_absurd rfl | with_reducible exact fun _ => rfl

theorem execSaveFailed_moves (cause : Nat) (s : State) :
    ResultMoves 0x5204002 s (execSaveFailed cause s) := by
  unfold execSaveFailed
  repeat' first
    | with_reducible exact moves_refl
    | decide
    | with_reducible apply moves_step (showSave_moves ..)
    | with_reducible apply moves_step (emitBat_moves ..)
    | with_reducible apply moves_step (bumpF_moves ..)
    | with_reducible apply moves_step (periodicSave_moves ..)
    | with_reducible apply moves_step (writeLastSave_moves ..)
    | with_reducible refine resultMoves_next ?_
    | fail_if_no_progress
        (with_reducible apply moves_frame)
        all_goals try first | with_reducible exact rfl | exact moves_absurd rfl | with_reducible exact fun _ => rfl
    | split

theorem restoreAccum_moves (retained : Bool) (s : State) :
    Moves 0x40004002 s (restoreAccum retained s).1 := by
  unfold restoreAccum
  repeat' first
    | with_reducible assumption
    | with_reducible exact moves_refl
    | decide
    | with_reducible refine moves_foldl ?_ (fun _ _ _ => ?_)
    | with_reducible apply moves_step (setF_moves ..)
    | fail_if_no_progress
        (with_reducible apply moves_frame)
        all_goals try first | with_reducible exact rfl | exact moves_absurd rfl | with_reducible exact fun _ => rfl
    | split

theorem markGap_moves (v : Save) (s : State) :
    Moves 0x204002 s (markGap v s) := by
  unfold markGap
  repeat' first
    | with_reducible exact moves_refl
    | decide
    | with_reducible apply moves_step (setF_moves ..)
    | with_reducible apply moves_step (emitBat_moves ..)
    | fail_if_no_progress
        (with_reducible apply moves_frame)
        all_goals try first | with_reducible exact rfl | exact moves_absurd rfl | with_reducible exact fun _ => rfl

theorem batRestore_moves (retained : Bool) (s : State) :
    Moves 0x40604002 s (batRestore retained s) := by
  unfold batRestore
  repeat' first
    | with_reducible exact moves_refl
    | decide
    | with_reducible apply moves_step (setF_moves ..)
    | with_reducible apply moves_step (emitBat_moves ..)
    | with_reducible apply moves_step (showSave_moves ..)
    | with_reducible apply moves_step (restoreAccum_moves ..)
    | with_reducible apply moves_step (markGap_moves ..)
    | with_reducible apply moves_step (setHealth_moves ..)
    | with_reducible refine moves_ite ?_ ?_
    | fail_if_no_progress
        (with_reducible apply moves_frame)
        all_goals try first | with_reducible exact rfl | exact moves_absurd rfl | with_reducible exact fun _ => rfl
    | (dsimp only; split)

theorem logBattery_moves (kind channel value : Nat) (s : State) :
    Moves 0x4002 s (logBattery kind channel value s) := by
  unfold logBattery
  repeat' first
    | with_reducible exact moves_refl
    | decide
    | with_reducible apply moves_step (bumpF_moves ..)
    | with_reducible refine moves_ite ?_ ?_
    | fail_if_no_progress
        (with_reducible apply moves_frame)
        all_goals try first | with_reducible exact rfl | exact moves_absurd rfl | with_reducible exact fun _ => rfl

theorem startMeasuring_moves (s : State) :
    Moves 0x4002 s (startMeasuring s) := by
  unfold startMeasuring
  repeat' first
    | with_reducible exact moves_refl
    | decide
    | with_reducible apply moves_step (setF_moves ..)
    | with_reducible refine moves_ite ?_ ?_
    | fail_if_no_progress
        (with_reducible apply moves_frame)
        all_goals try first | with_reducible exact rfl | exact moves_absurd rfl | with_reducible exact fun _ => rfl

theorem batGoLive_moves (s : State) :
    Moves 0x4000 s (batGoLive s) := by
  unfold batGoLive
  repeat' first
    | with_reducible exact moves_refl
    | fail_if_no_progress
        (with_reducible apply moves_frame)
        all_goals try first | with_reducible exact rfl | exact moves_absurd rfl | with_reducible exact fun _ => rfl
    | split

theorem batteryChannel_moves (c : Nat) (v : F64) (s : State) :
    Moves 0x40004002 s (batteryChannel c v s) := by
  unfold batteryChannel
  repeat' first
    | with_reducible exact moves_refl
    | decide
    | with_reducible apply moves_step (setF_moves ..)
    | with_reducible apply moves_step (addAccum_moves ..)
    | with_reducible apply moves_step (logBattery_moves ..)
    | fail_if_no_progress
        (with_reducible apply moves_frame)
        all_goals try first | with_reducible exact rfl | exact moves_absurd rfl | with_reducible exact fun _ => rfl
    | split
    | (dsimp only; split)

theorem execBatterySecond_moves (rms : List F64) (s : State) :
    ResultMoves 0x40004002 s (execBatterySecond rms s) := by
  unfold execBatterySecond
  repeat' first
    | with_reducible assumption
    | with_reducible exact moves_refl
    | decide
    | with_reducible refine moves_foldl ?_ (fun _ _ _ => ?_)
    | with_reducible apply moves_step (bumpF_moves ..)
    | with_reducible apply moves_step (batteryChannel_moves ..)
    | with_reducible refine moves_ite ?_ ?_
    | with_reducible refine resultMoves_next ?_

theorem stopMeasuring_moves (s : State) :
    Moves 0x4002 s (stopMeasuring s) := by
  unfold stopMeasuring
  repeat' first
    | with_reducible assumption
    | with_reducible exact moves_refl
    | decide
    | with_reducible refine moves_foldl ?_ (fun _ _ _ => ?_)
    | with_reducible apply moves_step (setF_moves ..)
    | with_reducible apply moves_step (logBattery_moves ..)
    | fail_if_no_progress
        (with_reducible apply moves_frame)
        all_goals try first | with_reducible exact rfl | exact moves_absurd rfl | with_reducible exact fun _ => rfl
    | split

theorem replayBattery_moves (e : BatLog) (s : State) :
    Moves 0x200000 s (replayBattery e s) := by
  unfold replayBattery
  repeat' first
    | with_reducible exact moves_refl
    | decide
    | with_reducible apply moves_step (emitBat_moves ..)
    | split

theorem batReplay_moves (retained outage : Bool) (s : State) :
    Moves 0x4204002 s (batReplay retained outage s) := by
  unfold batReplay
  repeat' first
    | with_reducible assumption
    | with_reducible exact moves_refl
    | decide
    | with_reducible refine moves_foldl ?_ (fun _ _ _ => ?_)
    | with_reducible apply moves_step (setF_moves ..)
    | with_reducible apply moves_step (drawFree_moves ..)
    | with_reducible apply moves_step (emitBat_moves ..)
    | with_reducible apply moves_step (replayBattery_moves ..)
    | with_reducible refine moves_ite ?_ ?_
    | fail_if_no_progress
        (with_reducible apply moves_frame)
        all_goals try first | with_reducible exact rfl | exact moves_absurd rfl | with_reducible exact fun _ => rfl

theorem execBatteryCheck_moves (mv : Nat) (s : State) :
    ResultMoves 0x204002 s (execBatteryCheck mv s) := by
  unfold execBatteryCheck
  repeat' first
    | with_reducible exact moves_refl
    | decide
    | with_reducible apply moves_step (setF_moves ..)
    | with_reducible apply moves_step (emitBat_moves ..)
    | with_reducible apply moves_step (logBattery_moves ..)
    | with_reducible refine resultMoves_next ?_
    | fail_if_no_progress
        (with_reducible apply moves_frame)
        all_goals try first | with_reducible exact rfl | exact moves_absurd rfl | with_reducible exact fun _ => rfl
    | split

theorem tamperOpen_moves (s : State) :
    Moves 0x204002 s (tamperOpen s) := by
  unfold tamperOpen
  repeat' first
    | with_reducible exact moves_refl
    | decide
    | with_reducible apply moves_step (setF_moves ..)
    | with_reducible apply moves_step (emitBat_moves ..)
    | with_reducible apply moves_step (logBattery_moves ..)
    | with_reducible refine moves_ite ?_ ?_

theorem execTamperClosed_moves (s : State) :
    ResultMoves 0x204002 s (execTamperClosed s) := by
  unfold execTamperClosed
  repeat' first
    | with_reducible exact moves_refl
    | decide
    | with_reducible apply moves_step (setF_moves ..)
    | with_reducible apply moves_step (emitBat_moves ..)
    | with_reducible apply moves_step (logBattery_moves ..)
    | with_reducible refine moves_ite ?_ ?_
    | with_reducible refine resultMoves_next ?_

theorem cmdTamperClear_moves (c : Caller) (a0 : Nat) (s : State) :
    Moves 0xe00002 s (cmdTamperClear c a0 s).1 := by
  unfold cmdTamperClear
  repeat' first
    | with_reducible assumption
    | with_reducible exact moves_refl
    | decide
    | with_reducible apply moves_step (setF_moves ..)
    | with_reducible apply moves_step (showSecHealth_moves ..)
    | with_reducible refine bodyMoves_ok ?_
    | with_reducible exact bodyMoves_error _
    | with_reducible refine runCommand_moves _ _ _ _ _ _ _ _ rfl ?_ (fun _ _ => ?_)
    | split

theorem execTamperClear_moves (c : Caller) (a0 : Nat) (s : State) :
    ResultMoves 0xe00002 s (execTamperClear c a0 s) := by
  unfold execTamperClear
  repeat' first
    | with_reducible exact moves_refl
    | decide
    | with_reducible apply moves_step (cmdTamperClear_moves ..)
    | with_reducible refine resultMoves_next ?_

theorem batCommand_moves (op : Nat) (c : Caller) (a0 : Nat) (s : State) :
    Moves 0xe00002 s (batCommand op c a0 s).1 := by
  unfold batCommand
  repeat' first
    | with_reducible exact moves_refl
    | decide
    | with_reducible apply moves_step (cmdTamperClear_moves ..)
    | with_reducible apply moves_step (refuseOpcode_moves ..)
    | split

end Sys2Proof.Machine
end

