-- ==== Sys2Proof/Laws/MovesNet.lean ====
section
/-! SUPPORT. Which parts of the state the operations of NET, CLAP, CAN and the tunables change, and that they keep
its form. -/

namespace Sys2Proof.Machine

open Sys2Proof

theorem netPoint_moves (quantity object : Nat) (v : Nat) (stamp : Nat) (s : State) :
    Moves 0x200022 s (netPoint quantity object v stamp s) := by
  unfold netPoint
  repeat' first
    | with_reducible assumption
    | with_reducible exact moves_refl
    | decide
    | with_reducible refine moves_foldl ?_ (fun _ _ _ => ?_)
    | with_reducible apply moves_step (sampleIn_moves ..)

theorem netGoLive_moves (stamp : Nat) (s : State) :
    Moves 0x208022 s (netGoLive stamp s) := by
  unfold netGoLive
  repeat' first
    | with_reducible assumption
    | with_reducible exact moves_refl
    | decide
    | with_reducible refine moves_foldl ?_ (fun _ _ _ => ?_)
    | with_reducible apply moves_step (sampleIn_moves ..)
    | fail_if_no_progress
        (with_reducible apply moves_frame)
        all_goals try first | with_reducible exact rfl | exact moves_absurd rfl | with_reducible exact fun _ => rfl

theorem execNetDropPoint_moves (s : State) :
    ResultMoves 0x200022 s (execNetDropPoint s) := by
  unfold execNetDropPoint
  repeat' first
    | with_reducible assumption
    | with_reducible exact moves_refl
    | decide
    | with_reducible refine moves_foldl ?_ (fun _ _ _ => ?_)
    | with_reducible apply moves_step (netPoint_moves ..)
    | with_reducible refine moves_ite ?_ ?_
    | with_reducible refine resultMoves_next ?_

theorem putQueue_moves (q : Nat) (fs : List TxFrame) (s : State) :
    Moves 0x8002 s (putQueue q fs s) := by
  unfold putQueue
  repeat' first
    | with_reducible exact moves_refl
    | decide
    | with_reducible apply moves_step (setF_moves ..)
    | fail_if_no_progress
        (with_reducible apply moves_frame)
        all_goals try first | with_reducible exact rfl | exact moves_absurd rfl | with_reducible exact fun _ => rfl

theorem enqueue_moves (q : Nat) (f : TxFrame) (s : State) :
    Moves 0x208002 s (enqueue q f s).1 := by
  unfold enqueue
  repeat' first
    | with_reducible exact moves_refl
    | decide
    | with_reducible apply moves_step (emit_moves ..)
    | with_reducible apply moves_step (bumpF_moves ..)
    | with_reducible apply moves_step (putQueue_moves ..)
    | (dsimp only; split)

theorem nextTrailer_moves (k : Nat) (s : State) :
    Moves 0x8000 s (nextTrailer k s).2 := by
  unfold nextTrailer
  repeat' first
    | with_reducible exact moves_refl
    | fail_if_no_progress
        (with_reducible apply moves_frame)
        all_goals try first | with_reducible exact rfl | exact moves_absurd rfl | with_reducible exact fun _ => rfl

theorem enqueuePair_moves (k j : Nat) (f : TxFrame) (s : State) :
    Moves 0x208002 s (enqueuePair k j f s).1 := by
  unfold enqueuePair
  repeat' first
    | with_reducible exact moves_refl
    | decide
    | with_reducible apply moves_step (nextTrailer_moves ..)
    | with_reducible apply moves_step (enqueue_moves ..)

theorem noteSent_moves (f : TxFrame) (s : State) :
    Moves 0x20002 s (noteSent f s) := by
  unfold noteSent
  repeat' first
    | with_reducible exact moves_refl
    | decide
    | with_reducible apply moves_step (bumpF_moves ..)
    | with_reducible refine moves_ite ?_ ?_
    | fail_if_no_progress
        (with_reducible apply moves_frame)
        all_goals try first | with_reducible exact rfl | exact moves_absurd rfl | with_reducible exact fun _ => rfl
    | split

theorem startFrame_moves (p q : Nat) (f : TxFrame) (rest : List TxFrame) (s : State) :
    Moves 0x28002 s (startFrame p q f rest s) := by
  unfold startFrame
  repeat' first
    | with_reducible exact moves_refl
    | decide
    | with_reducible apply moves_step (putQueue_moves ..)
    | with_reducible apply moves_step (bumpF_moves ..)
    | with_reducible apply moves_step (noteSent_moves ..)
    | fail_if_no_progress
        (with_reducible apply moves_frame)
        all_goals try first | with_reducible exact rfl | exact moves_absurd rfl | with_reducible exact fun _ => rfl

theorem discardLate_moves (p q : Nat) (f : TxFrame) (s : State) :
    Moves 0x200002 s (discardLate p q f s) := by
  unfold discardLate
  repeat' first
    | with_reducible exact moves_refl
    | decide
    | with_reducible apply moves_step (emit_moves ..)
    | with_reducible apply moves_step (bumpF_moves ..)

theorem chooseFrame_moves (p : Nat) (qs : List Nat) (wait : Option Nat) (s : State) :
    Moves 0x228002 s (chooseFrame p qs wait s) := by
  induction qs generalizing wait s with
  | nil => exact moves_refl
  | cons k qs ih =>
    unfold chooseFrame
    extract_lets now fs isLate late rest s1
    have h1 : Moves 0x228002 s s1 := moves_ite moves_refl
      (moves_foldl (moves_step (putQueue_moves ..) rfl moves_refl) (fun _ _ ht => moves_step (discardLate_moves ..) rfl ht))
    clear_value s1 rest
    cases rest
    · exact moves_step (ih ..) rfl h1
    · exact moves_ite (moves_ite (moves_step (ih ..) rfl h1) (moves_step (startFrame_moves ..) rfl h1)) (moves_step (ih ..) rfl h1)

theorem launchPort_moves (p : Nat) (s : State) :
    Moves 0x228002 s (launchPort p s) := by
  unfold launchPort
  repeat' first
    | with_reducible exact moves_refl
    | decide
    | with_reducible apply moves_step (chooseFrame_moves ..)
    | with_reducible refine moves_ite ?_ ?_

theorem setPortLink_moves (p : Nat) (up : Bool) (s : State) :
    Moves 0x200022 s (setPortLink p up s) := by
  unfold setPortLink
  repeat' first
    | with_reducible exact moves_refl
    | decide
    | with_reducible apply moves_step (setF_moves ..)
    | with_reducible apply moves_step (emit_moves ..)
    | with_reducible apply moves_step (netPoint_moves ..)
    | with_reducible refine moves_ite ?_ ?_

theorem setMirrorLink_moves (up : Bool) (s : State) :
    Moves 0x200022 s (setMirrorLink up s) := by
  unfold setMirrorLink
  repeat' first
    | with_reducible exact moves_refl
    | decide
    | with_reducible apply moves_step (setF_moves ..)
    | with_reducible apply moves_step (netPoint_moves ..)
    | with_reducible apply moves_step (emit_moves ..)

theorem setLrLink_moves (l : Nat) (up : Bool) (s : State) :
    Moves 0x200002 s (setLrLink l up s) := by
  unfold setLrLink
  repeat' first
    | with_reducible exact moves_refl
    | decide
    | with_reducible apply moves_step (setF_moves ..)
    | with_reducible apply moves_step (emit_moves ..)

theorem changeLink_moves (x : Nat) (up : Bool) (s : State) :
    Moves 0x200022 s (changeLink x up s) := by
  unfold changeLink
  repeat' first
    | with_reducible exact moves_refl
    | decide
    | with_reducible apply moves_step (setPortLink_moves ..)
    | with_reducible apply moves_step (setMirrorLink_moves ..)
    | with_reducible apply moves_step (setLrLink_moves ..)
    | with_reducible refine moves_ite ?_ ?_

theorem execLinkUp_moves (x : Nat) (s : State) :
    ResultMoves 0x200022 s (execLinkUp x s) := by
  unfold execLinkUp
  repeat' first
    | with_reducible exact moves_refl
    | decide
    | with_reducible apply moves_step (setF_moves ..)
    | with_reducible apply moves_step (changeLink_moves ..)
    | with_reducible refine moves_ite ?_ ?_
    | with_reducible refine resultMoves_next ?_

theorem showNodes_moves (k : Nat) (s : State) :
    Moves 0x2 s (showNodes k s) := by
  unfold showNodes
  repeat' first
    | with_reducible exact moves_refl
    | decide
    | with_reducible apply moves_step (setF_moves ..)

theorem seeNode_moves (k node : Nat) (s : State) :
    Moves 0x8002 s (seeNode k node s) := by
  unfold seeNode
  repeat' first
    | with_reducible exact moves_refl
    | decide
    | with_reducible apply moves_step (showNodes_moves ..)
    | fail_if_no_progress
        (with_reducible apply moves_frame)
        all_goals try first | with_reducible exact rfl | exact moves_absurd rfl | with_reducible exact fun _ => rfl

theorem dropEntries_moves (k : Nat) (gone : PrpEntry → Bool) (s : State) :
    Moves 0x8002 s (dropEntries k gone s) := by
  unfold dropEntries
  repeat' first
    | with_reducible exact moves_refl
    | decide
    | with_reducible apply moves_step (bumpF_moves ..)
    | fail_if_no_progress
        (with_reducible apply moves_frame)
        all_goals try first | with_reducible exact rfl | exact moves_absurd rfl | with_reducible exact fun _ => rfl

theorem prpReceive_moves (f : RxFrame) (t : RctTrailer) (s : State) :
    Moves 0x8002 s (prpReceive f t s) := by
  unfold prpReceive
  repeat' first
    | with_reducible exact moves_refl
    | decide
    | with_reducible apply moves_step (bumpF_moves ..)
    | with_reducible apply moves_step (seeNode_moves ..)
    | with_reducible apply moves_step (dropEntries_moves ..)
    | with_reducible refine moves_ite ?_ ?_
    | fail_if_no_progress
        (with_reducible apply moves_frame)
        all_goals try first | with_reducible exact rfl | exact moves_absurd rfl | with_reducible exact fun _ => rfl

theorem execBackboneFrameRx_moves (f : RxFrame) (s : State) :
    ResultMoves 0x8002 s (execBackboneFrameRx f s) := by
  unfold execBackboneFrameRx
  repeat' first
    | with_reducible exact moves_refl
    | decide
    | with_reducible apply moves_step (bumpF_moves ..)
    | with_reducible apply moves_step (seeNode_moves ..)
    | with_reducible apply moves_step (prpReceive_moves ..)
    | with_reducible refine resultMoves_next ?_
    | fail_if_no_progress
        (with_reducible apply moves_frame)
        all_goals try first | with_reducible exact rfl | exact moves_absurd rfl | with_reducible exact fun _ => rfl
    | split
    | (dsimp only; split)

theorem execPrpSupervisionSend_moves (k : Nat) (s : State) :
    ResultMoves 0x208002 s (execPrpSupervisionSend k s) := by
  unfold execPrpSupervisionSend
  repeat' first
    | with_reducible exact moves_refl
    | decide
    | with_reducible apply moves_step (enqueuePair_moves ..)
    | with_reducible refine moves_ite ?_ ?_
    | with_reducible refine resultMoves_next ?_
    | fail_if_no_progress
        (with_reducible apply moves_frame)
        all_goals try first | with_reducible exact rfl | exact moves_absurd rfl | with_reducible exact fun _ => rfl

theorem execPrpNodeForget_moves (k : Nat) (s : State) :
    ResultMoves 0x8002 s (execPrpNodeForget k s) := by
  unfold execPrpNodeForget
  repeat' first
    | with_reducible exact moves_refl
    | decide
    | with_reducible apply moves_step (dropEntries_moves ..)
    | with_reducible apply moves_step (showNodes_moves ..)
    | with_reducible refine moves_ite ?_ ?_
    | with_reducible refine resultMoves_next ?_
    | fail_if_no_progress
        (with_reducible apply moves_frame)
        all_goals try first | with_reducible exact rfl | exact moves_absurd rfl | with_reducible exact fun _ => rfl

theorem enqueuePdelay_moves (port source sequence receivedNs : Nat) (twoStep : Bool) (s : State) :
    Moves 0x208002 s (enqueuePdelay port source sequence receivedNs twoStep s) := by
  unfold enqueuePdelay
  repeat' first
    | with_reducible exact moves_refl
    | decide
    | with_reducible apply moves_step (enqueue_moves ..)
    | with_reducible refine moves_ite ?_ ?_

theorem updDom_moves (b : Nat) (f : Domain → Domain) (s : State) :
    Moves 0x8 s (updDom b f s) := by
  unfold updDom
  repeat' first
    | with_reducible exact moves_refl
    | fail_if_no_progress
        (with_reducible apply moves_frame)
        all_goals try first | with_reducible exact rfl | exact moves_absurd rfl | with_reducible exact fun _ => rfl

theorem checkAligned_moves (s : State) :
    Moves 0x200002 s (checkAligned s) := by
  unfold checkAligned
  repeat' first
    | with_reducible exact moves_refl
    | decide
    | with_reducible apply moves_step (setF_moves ..)
    | with_reducible apply moves_step (emit_moves ..)
    | with_reducible refine moves_ite ?_ ?_

theorem selectDomain_moves (d : Nat) (s : State) :
    Moves 0x20000a s (selectDomain d s) := by
  unfold selectDomain
  repeat' first
    | with_reducible exact moves_refl
    | decide
    | with_reducible apply moves_step (setF_moves ..)
    | with_reducible apply moves_step (bumpF_moves ..)
    | with_reducible apply moves_step (emit_moves ..)
    | with_reducible apply moves_step (checkAligned_moves ..)
    | with_reducible refine moves_ite ?_ ?_
    | fail_if_no_progress
        (with_reducible apply moves_frame)
        all_goals try first | with_reducible exact rfl | exact moves_absurd rfl | with_reducible exact fun _ => rfl

theorem reselect_moves (s : State) :
    Moves 0x20000a s (reselect s) := by
  unfold reselect
  repeat' first
    | with_reducible exact moves_refl
    | decide
    | with_reducible apply moves_step (setF_moves ..)
    | with_reducible apply moves_step (selectDomain_moves ..)
    | with_reducible refine moves_ite ?_ ?_

theorem clapLeaveStandIn_moves (s : State) :
    Moves 0x20000a s (clapLeaveStandIn s) := by
  unfold clapLeaveStandIn
  repeat' first
    | with_reducible exact moves_refl
    | decide
    | with_reducible apply moves_step (setF_moves ..)
    | with_reducible apply moves_step (bumpF_moves ..)
    | with_reducible apply moves_step (checkAligned_moves ..)
    | with_reducible apply moves_step (emit_moves ..)
    | fail_if_no_progress
        (with_reducible apply moves_frame)
        all_goals try first | with_reducible exact rfl | exact moves_absurd rfl | with_reducible exact fun _ => rfl

theorem setDomState_moves (b st cause : Nat) (s : State) :
    Moves 0x20002a s (setDomState b st cause s) := by
  unfold setDomState
  repeat' first
    | with_reducible exact moves_refl
    | decide
    | with_reducible apply moves_step (setF_moves ..)
    | with_reducible apply moves_step (netPoint_moves ..)
    | with_reducible apply moves_step (emit_moves ..)
    | with_reducible apply moves_step (updDom_moves ..)
    | with_reducible apply moves_step (bumpF_moves ..)
    | with_reducible apply moves_step (reselect_moves ..)
    | with_reducible refine moves_ite ?_ ?_

theorem stepDomain_moves (b : Nat) (x : Int) (s : State) : Moves 0x20000a s (stepDomain b x s) := by
  unfold stepDomain
  dsimp only
  refine moves_ite (moves_step (checkAligned_moves ..) rfl ?_) ?_ <;> exact moves_step (emit_moves ..) rfl
    (moves_step (bumpF_moves ..) rfl (moves_step (moves_bases (by simp)) rfl moves_refl))

theorem acceptOffset_moves (b : Nat) (o : Int) (s : State) :
    Moves 0x20002a s (acceptOffset b o s) := by
  unfold acceptOffset
  repeat' first
    | with_reducible exact moves_refl
    | decide
    | with_reducible apply moves_step (setF_moves ..)
    | with_reducible apply moves_step (bumpF_moves ..)
    | with_reducible apply moves_step (updDom_moves ..)
    | with_reducible apply moves_step (netPoint_moves ..)

theorem servo_moves (b : Nat) (o : Int) (s : State) :
    Moves 0x20002a s (servo b o s) := by
  unfold servo
  repeat' first
    | with_reducible exact moves_refl
    | decide
    | with_reducible apply moves_step (stepDomain_moves ..)
    | with_reducible apply moves_step (acceptOffset_moves ..)
    | with_reducible apply moves_step (setDomState_moves ..)
    | with_reducible apply moves_step (updDom_moves ..)
    | with_reducible apply moves_step (emit_moves ..)
    | with_reducible apply moves_step (bumpF_moves ..)
    | with_reducible apply moves_step (setInc_moves ..)
    | with_reducible refine moves_ite ?_ ?_

theorem execOffsetMeasurement_moves (b : Nat) (o : Int) (s : State) :
    ResultMoves 0x20002a s (execOffsetMeasurement b o s) := by
  unfold execOffsetMeasurement
  repeat' first
    | with_reducible exact moves_refl
    | decide
    | with_reducible apply moves_step (servo_moves ..)
    | with_reducible refine moves_ite ?_ ?_
    | with_reducible refine resultMoves_next ?_

theorem execDomainHoldover_moves (b : Nat) (s : State) :
    ResultMoves 0x20002a s (execDomainHoldover b s) := by
  unfold execDomainHoldover
  repeat' first
    | with_reducible exact moves_refl
    | decide
    | with_reducible apply moves_step (setInc_moves ..)
    | with_reducible apply moves_step (setDomState_moves ..)
    | with_reducible refine moves_ite ?_ ?_
    | with_reducible refine resultMoves_next ?_

theorem execDomainInvalid_moves (b : Nat) (s : State) :
    ResultMoves 0x20002a s (execDomainInvalid b s) := by
  unfold execDomainInvalid
  repeat' first
    | with_reducible exact moves_refl
    | decide
    | with_reducible apply moves_step (setDomState_moves ..)
    | with_reducible refine moves_ite ?_ ?_
    | with_reducible refine resultMoves_next ?_

theorem execLocalRevert_moves (b : Nat) (s : State) :
    ResultMoves 0x20000a s (execLocalRevert b s) := by
  unfold execLocalRevert
  repeat' first
    | with_reducible exact moves_refl
    | decide
    | with_reducible apply moves_step (selectDomain_moves ..)
    | with_reducible refine moves_ite ?_ ?_
    | with_reducible refine resultMoves_next ?_

theorem execAnnounceReceived_moves (b : Nat) (m : Announce) (s : State) :
    ResultMoves 0x20002a s (execAnnounceReceived b m s) := by
  unfold execAnnounceReceived
  repeat' first
    | with_reducible exact moves_refl
    | decide
    | with_reducible apply moves_step (setF_moves ..)
    | with_reducible apply moves_step (bumpF_moves ..)
    | with_reducible apply moves_step (updDom_moves ..)
    | with_reducible apply moves_step (emit_moves ..)
    | with_reducible apply moves_step (setDomState_moves ..)
    | with_reducible refine resultMoves_next ?_
    | split
    | (dsimp only; split)

theorem execPdelayReq_moves (port : Nat) (req : PdelayMsg) (s : State) :
    ResultMoves 0x208002 s (execPdelayReq port req s) := by
  unfold execPdelayReq
  repeat' first
    | with_reducible exact moves_refl
    | decide
    | with_reducible apply moves_step (enqueuePdelay_moves ..)
    | with_reducible refine resultMoves_next ?_
    | split

theorem execPdelayRespReceived_moves (port : Nat) (delay : Int) (s : State) :
    ResultMoves 0x2 s (execPdelayRespReceived port delay s) := by
  unfold execPdelayRespReceived
  repeat' first
    | with_reducible assumption
    | with_reducible exact moves_refl
    | decide
    | with_reducible refine moves_foldl ?_ (fun _ _ _ => ?_)
    | with_reducible apply moves_step (setF_moves ..)
    | with_reducible refine resultMoves_next ?_

theorem slewLocal_moves (e : Int) (isel : Nat) (s : State) :
    Moves 0x2 s (slewLocal e isel s) := by
  unfold slewLocal
  repeat' first
    | with_reducible exact moves_refl
    | decide
    | with_reducible apply moves_step (setF_moves ..)
    | with_reducible apply moves_step (setInc_moves ..)

theorem localRateUpdate_moves (s : State) :
    Moves 0x20000a s (localRateUpdate s) := by
  unfold localRateUpdate
  repeat' first
    | with_reducible exact moves_refl
    | decide
    | with_reducible apply moves_step (setF_moves ..)
    | with_reducible apply moves_step (slewLocal_moves ..)
    | with_reducible apply moves_step (setInc_moves ..)
    | with_reducible apply moves_step (checkAligned_moves ..)
    | with_reducible refine moves_ite ?_ ?_
    | fail_if_no_progress
        (with_reducible apply moves_frame)
        all_goals try first | with_reducible exact rfl | exact moves_absurd rfl | with_reducible exact fun _ => rfl

theorem served_moves (b : Nat) (s : State) :
    Moves 0x8 s (served b s) := by
  unfold served
  repeat' first
    | with_reducible exact moves_refl
    | decide
    | with_reducible apply moves_step (updDom_moves ..)

theorem cmdSetIncrement_moves (c : Caller) (b frac ns : Nat) (s : State) :
    Moves 0xa0002a s (cmdSetIncrement c b frac ns s).1 := by
  unfold cmdSetIncrement
  repeat' first
    | with_reducible assumption
    | with_reducible exact moves_refl
    | decide
    | with_reducible apply moves_step (served_moves ..)
    | with_reducible apply moves_step (setInc_moves ..)
    | with_reducible apply moves_step (setDomState_moves ..)
    | with_reducible refine bodyMoves_ok ?_
    | with_reducible exact bodyMoves_error _
    | with_reducible refine runCommand_moves _ _ _ _ _ _ _ _ rfl ?_ (fun _ _ => ?_)
    | split
    | (dsimp only; split)

theorem execSetIncrement_moves (c : Caller) (a0 a1 a2 : Nat) (s : State) :
    ResultMoves 0xa0002a s (execSetIncrement c a0 a1 a2 s) := by
  unfold execSetIncrement
  repeat' first
    | with_reducible exact moves_refl
    | decide
    | with_reducible apply moves_step (cmdSetIncrement_moves ..)
    | with_reducible refine resultMoves_next ?_

theorem cmdStep_moves (c : Caller) (b lo hi : Nat) (s : State) :
    Moves 0xa0002a s (cmdStep c b lo hi s).1 := by
  unfold cmdStep
  repeat' first
    | with_reducible assumption
    | with_reducible exact moves_refl
    | decide
    | with_reducible apply moves_step (served_moves ..)
    | with_reducible apply moves_step (stepDomain_moves ..)
    | with_reducible apply moves_step (setDomState_moves ..)
    | with_reducible refine bodyMoves_ok ?_
    | with_reducible exact bodyMoves_error _
    | with_reducible refine runCommand_moves _ _ _ _ _ _ _ _ rfl ?_ (fun _ _ => ?_)
    | split
    | (dsimp only; split)

theorem execStep_moves (c : Caller) (a0 a1 a2 : Nat) (s : State) :
    ResultMoves 0xa0002a s (execStep c a0 a1 a2 s) := by
  unfold execStep
  repeat' first
    | with_reducible exact moves_refl
    | decide
    | with_reducible apply moves_step (cmdStep_moves ..)
    | with_reducible refine resultMoves_next ?_

theorem cmdSetLock_moves (c : Caller) (b v : Nat) (s : State) :
    Moves 0xa0002a s (cmdSetLock c b v s).1 := by
  unfold cmdSetLock
  repeat' first
    | with_reducible assumption
    | with_reducible exact moves_refl
    | decide
    | with_reducible apply moves_step (setDomState_moves ..)
    | with_reducible apply moves_step (served_moves ..)
    | with_reducible refine bodyMoves_ok ?_
    | with_reducible exact bodyMoves_error _
    | with_reducible refine runCommand_moves _ _ _ _ _ _ _ _ rfl ?_ (fun _ _ => ?_)
    | split

theorem execSetLock_moves (c : Caller) (a0 a1 : Nat) (s : State) :
    ResultMoves 0xa0002a s (execSetLock c a0 a1 s) := by
  unfold execSetLock
  repeat' first
    | with_reducible exact moves_refl
    | decide
    | with_reducible apply moves_step (cmdSetLock_moves ..)
    | with_reducible refine resultMoves_next ?_

theorem cmdSelect_moves (c : Caller) (b : Nat) (s : State) :
    Moves 0xa0000a s (cmdSelect c b s).1 := by
  unfold cmdSelect
  repeat' first
    | with_reducible assumption
    | with_reducible exact moves_refl
    | decide
    | with_reducible apply moves_step (setF_moves ..)
    | with_reducible apply moves_step (emit_moves ..)
    | with_reducible apply moves_step (reselect_moves ..)
    | with_reducible apply moves_step (selectDomain_moves ..)
    | with_reducible refine moves_ite ?_ ?_
    | with_reducible refine bodyMoves_ok ?_
    | with_reducible exact bodyMoves_error _
    | with_reducible refine runCommand_moves _ _ _ _ _ _ _ _ rfl ?_ (fun _ _ => ?_)
    | split

theorem execSelect_moves (c : Caller) (a0 : Nat) (s : State) :
    ResultMoves 0xa0000a s (execSelect c a0 s) := by
  unfold execSelect
  repeat' first
    | with_reducible exact moves_refl
    | decide
    | with_reducible apply moves_step (cmdSelect_moves ..)
    | with_reducible refine resultMoves_next ?_

theorem clapCommand_moves (op : Nat) (c : Caller) (a0 a1 a2 : Nat) (s : State) :
    Moves 0xa0002a s (clapCommand op c a0 a1 a2 s).1 := by
  unfold clapCommand
  repeat' first
    | with_reducible exact moves_refl
    | decide
    | with_reducible apply moves_step (cmdSetIncrement_moves ..)
    | with_reducible apply moves_step (cmdStep_moves ..)
    | with_reducible apply moves_step (cmdSetLock_moves ..)
    | with_reducible apply moves_step (cmdSelect_moves ..)
    | with_reducible apply moves_step (refuseOpcode_moves ..)
    | split

theorem updPort_moves (c : Nat) (f : CanPort → CanPort) (s : State) : Moves 0x40000 s (updPort c f s) :=
  moves_ports (by simp [listUpd])

theorem putMessage_moves (c b idWord dlc data : Nat) (s : State) :
    Moves 0x2 s (putMessage c b idWord dlc data s) := by
  unfold putMessage
  repeat' first
    | with_reducible assumption
    | with_reducible exact moves_refl
    | decide
    | with_reducible refine moves_foldl ?_ (fun _ _ _ => ?_)
    | with_reducible apply moves_step (setF_moves ..)

theorem putStamp_moves (c b stamp : Nat) (s : State) :
    Moves 0x2 s (putStamp c b stamp s) := by
  unfold putStamp
  repeat' first
    | with_reducible exact moves_refl
    | decide
    | with_reducible apply moves_step (setF_moves ..)

theorem fillBuffer_moves (c b : Nat) (f : CanFrame) (s : State) :
    Moves 0x2 s (fillBuffer c b f s) := by
  unfold fillBuffer
  repeat' first
    | with_reducible exact moves_refl
    | decide
    | with_reducible apply moves_step (setF_moves ..)
    | with_reducible apply moves_step (putStamp_moves ..)
    | with_reducible apply moves_step (putMessage_moves ..)

theorem ageBuffer_moves (c : Nat) (p : CanPortCfg) (b : CanBufCfg) (s : State) :
    Moves 0x240022 s (ageBuffer c p b s) := by
  unfold ageBuffer
  repeat' first
    | with_reducible assumption
    | with_reducible exact moves_refl
    | decide
    | with_reducible refine moves_foldl ?_ (fun _ _ _ => ?_)
    | with_reducible apply moves_step (setF_moves ..)
    | with_reducible apply moves_step (declareAbsent_moves ..)
    | with_reducible apply moves_step (updPort_moves ..)
    | with_reducible apply moves_step (emit_moves ..)
    | with_reducible refine moves_ite ?_ ?_

theorem canFreeze_moves (s : State) :
    Moves 0x240022 s (canFreeze s) := by
  unfold canFreeze
  repeat' first
    | with_reducible assumption
    | with_reducible exact moves_refl
    | decide
    | with_reducible refine moves_foldl ?_ (fun _ _ _ => ?_)
    | with_reducible apply moves_step (ageBuffer_moves ..)
    | with_reducible refine moves_ite ?_ ?_

theorem execMessageAged_moves (c b : Nat) (s : State) : ResultMoves 0x240022 s (execMessageAged c b s) := by
  unfold execMessageAged
  refine resultMoves_next ?_
  split
  · exact moves_refl
  · split
    · exact moves_refl
    · exact moves_ite (moves_foldl (moves_step (ageBuffer_moves ..) rfl moves_refl) (fun _ _ ht => moves_step
        (moves_images fun w => ⟨w.live, tableWf_put _ _ _ _ w.snap, w.window, w.cond⟩) rfl ht)) moves_refl

theorem showQueues_moves (c : Nat) (s : State) :
    Moves 0x2 s (showQueues c s) := by
  unfold showQueues
  repeat' first
    | with_reducible exact moves_refl
    | decide
    | with_reducible apply moves_step (setF_moves ..)

theorem makePending_moves (c : Nat) (b : CanBufCfg) (launch : Nat) (s : State) :
    Moves 0x40002 s (makePending c b launch s) := by
  unfold makePending
  repeat' first
    | with_reducible exact moves_refl
    | decide
    | with_reducible apply moves_step (setF_moves ..)
    | with_reducible apply moves_step (showQueues_moves ..)
    | with_reducible apply moves_step (updPort_moves ..)

theorem moveCanOutputs_moves (n : Nat) (s : State) :
    Moves 0x2 s (moveCanOutputs n s) := by
  unfold moveCanOutputs
  repeat' first
    | with_reducible assumption
    | with_reducible exact moves_refl
    | decide
    | with_reducible refine moves_foldl ?_ (fun _ _ _ => ?_)
    | with_reducible apply moves_step (putMessage_moves ..)
    | with_reducible refine moves_ite ?_ ?_

theorem canCurtain_moves (s : State) :
    Moves 0x40002 s (canCurtain s) := by
  unfold canCurtain
  repeat' first
    | with_reducible assumption
    | with_reducible exact moves_refl
    | decide
    | with_reducible refine moves_foldl ?_ (fun _ _ _ => ?_)
    | with_reducible apply moves_step (updPort_moves ..)
    | with_reducible apply moves_step (bumpF_moves ..)
    | with_reducible apply moves_step (makePending_moves ..)
    | with_reducible refine moves_ite ?_ ?_

theorem startCan_moves (c : Nat) (p : CanPortCfg) (x : CanSource) (stop : Option Nat) (s : State) :
    Moves 0x40000 s (startCan c p x stop s) := by
  unfold startCan
  repeat' first
    | with_reducible exact moves_refl
    | decide
    | with_reducible apply moves_step (updPort_moves ..)
    | with_reducible refine moves_ite ?_ ?_
    | split

theorem offerCan_moves (c : Nat) (p : CanPortCfg) (s : State) :
    Moves 0x40000 s (offerCan c p s) := by
  unfold offerCan
  repeat' first
    | with_reducible exact moves_refl
    | decide
    | with_reducible apply moves_step (startCan_moves ..)
    | with_reducible refine moves_ite ?_ ?_
    | split

theorem execCanWindowStart_moves (c k : Nat) (s : State) :
    ResultMoves 0x40002 s (execCanWindowStart c k s) := by
  unfold execCanWindowStart
  repeat' first
    | with_reducible exact moves_refl
    | decide
    | with_reducible apply moves_step (setF_moves ..)
    | with_reducible apply moves_step (updPort_moves ..)
    | with_reducible apply moves_step (showQueues_moves ..)
    | with_reducible apply moves_step (makePending_moves ..)
    | with_reducible apply moves_step (offerCan_moves ..)
    | with_reducible refine moves_ite ?_ ?_
    | with_reducible refine resultMoves_next ?_
    | split

theorem execCanWindowEnd_moves (c : Nat) (s : State) :
    ResultMoves 0x240002 s (execCanWindowEnd c s) := by
  unfold execCanWindowEnd
  repeat' first
    | with_reducible assumption
    | with_reducible exact moves_refl
    | decide
    | with_reducible refine moves_foldl ?_ (fun _ _ _ => ?_)
    | with_reducible apply moves_step (updPort_moves ..)
    | with_reducible apply moves_step (bumpF_moves ..)
    | with_reducible apply moves_step (showQueues_moves ..)
    | with_reducible apply moves_step (emit_moves ..)
    | with_reducible refine moves_ite ?_ ?_
    | with_reducible refine resultMoves_next ?_
    | split

theorem canLaunch_moves (c : Nat) (s : State) :
    Moves 0x40000 s (canLaunch c s) := by
  unfold canLaunch
  repeat' first
    | with_reducible exact moves_refl
    | decide
    | with_reducible apply moves_step (offerCan_moves ..)
    | split

theorem execFrameLaunch_moves (p : Nat) (s : State) :
    ResultMoves 0x268002 s (execFrameLaunch p s) := by
  unfold execFrameLaunch
  repeat' first
    | with_reducible exact moves_refl
    | decide
    | with_reducible apply moves_step (canLaunch_moves ..)
    | with_reducible apply moves_step (launchPort_moves ..)
    | with_reducible refine moves_ite ?_ ?_
    | with_reducible refine resultMoves_next ?_

theorem showErrors_moves (s : State) :
    Moves 0x2 s (showErrors s) := by
  unfold showErrors
  repeat' first
    | with_reducible exact moves_refl
    | decide
    | with_reducible apply moves_step (setF_moves ..)

theorem setCounters_moves (c tec rec : Nat) (s : State) :
    Moves 0x200002 s (setCounters c tec rec s) := by
  unfold setCounters
  repeat' first
    | with_reducible exact moves_refl
    | decide
    | with_reducible apply moves_step (setF_moves ..)
    | with_reducible apply moves_step (showErrors_moves ..)
    | with_reducible apply moves_step (emit_moves ..)
    | with_reducible refine moves_ite ?_ ?_

theorem busOff_moves (c : Nat) (p : CanPortCfg) (sending : Option CanSource) (s : State) :
    Moves 0x24002a s (busOff c p sending s) := by
  unfold busOff
  repeat' first
    | with_reducible assumption
    | with_reducible exact moves_refl
    | decide
    | with_reducible refine moves_foldl ?_ (fun _ _ _ => ?_)
    | with_reducible apply moves_step (setF_moves ..)
    | with_reducible apply moves_step (bumpF_moves ..)
    | with_reducible apply moves_step (updPort_moves ..)
    | with_reducible apply moves_step (emit_moves ..)
    | with_reducible apply moves_step (showErrors_moves ..)
    | with_reducible apply moves_step (ageBuffer_moves ..)

theorem execCanBusError_moves (c tec rec : Nat) (s : State) :
    ResultMoves 0x24002a s (execCanBusError c tec rec s) := by
  unfold execCanBusError
  repeat' first
    | with_reducible exact moves_refl
    | decide
    | with_reducible apply moves_step (setCounters_moves ..)
    | with_reducible apply moves_step (updPort_moves ..)
    | with_reducible apply moves_step (busOff_moves ..)
    | with_reducible refine resultMoves_next ?_
    | split

theorem execRecoveryDone_moves (c : Nat) (s : State) :
    ResultMoves 0x40002 s (execRecoveryDone c s) := by
  unfold execRecoveryDone
  repeat' first
    | with_reducible exact moves_refl
    | decide
    | with_reducible apply moves_step (setF_moves ..)
    | with_reducible apply moves_step (showErrors_moves ..)
    | with_reducible apply moves_step (updPort_moves ..)
    | with_reducible refine moves_ite ?_ ?_
    | with_reducible refine resultMoves_next ?_
    | split

theorem stageCan_moves (c : Nat) (fdf brs ide esi sent : Bool) (dlc id data stamp : Nat) (s : State) :
    Moves 0x600002 s (stageCan c fdf brs ide esi sent dlc id data stamp s) := by
  unfold stageCan
  repeat' first
    | with_reducible exact moves_refl
    | decide
    | with_reducible apply moves_step (stageEntry_moves ..)

theorem leaveQueue_moves (c : Nat) (x : CanSource) (stamp : Nat) (s : State) :
    Moves 0x40002 s (leaveQueue c x stamp s) := by
  unfold leaveQueue
  repeat' first
    | with_reducible exact moves_refl
    | decide
    | with_reducible apply moves_step (setF_moves ..)
    | with_reducible apply moves_step (updPort_moves ..)
    | with_reducible apply moves_step (putStamp_moves ..)
    | split

theorem execCanFrameSent_moves (c : Nat) (s : State) :
    ResultMoves 0x640002 s (execCanFrameSent c s) := by
  unfold execCanFrameSent
  repeat' first
    | with_reducible exact moves_refl
    | decide
    | with_reducible apply moves_step (updPort_moves ..)
    | with_reducible apply moves_step (showQueues_moves ..)
    | with_reducible apply moves_step (leaveQueue_moves ..)
    | with_reducible apply moves_step (bumpF_moves ..)
    | with_reducible apply moves_step (stageCan_moves ..)
    | with_reducible apply moves_step (emit_moves ..)
    | with_reducible apply moves_step (setCounters_moves ..)
    | with_reducible refine resultMoves_next ?_
    | split

theorem haltBuffer_moves (c b addr : Nat) (s : State) :
    Moves 0x240022 s (haltBuffer c b addr s) := by
  unfold haltBuffer
  repeat' first
    | with_reducible exact moves_refl
    | decide
    | with_reducible apply moves_step (setF_moves ..)
    | with_reducible apply moves_step (ageBuffer_moves ..)
    | with_reducible apply moves_step (showQueues_moves ..)
    | with_reducible apply moves_step (updPort_moves ..)
    | with_reducible apply moves_step (emit_moves ..)
    | split

theorem haltPort_moves (c addr : Nat) (s : State) :
    Moves 0x240022 s (haltPort c addr s) := by
  unfold haltPort
  repeat' first
    | with_reducible assumption
    | with_reducible exact moves_refl
    | decide
    | with_reducible refine moves_foldl ?_ (fun _ _ _ => ?_)
    | with_reducible apply moves_step (setF_moves ..)
    | with_reducible apply moves_step (ageBuffer_moves ..)
    | with_reducible apply moves_step (showQueues_moves ..)
    | with_reducible apply moves_step (updPort_moves ..)
    | with_reducible apply moves_step (emit_moves ..)
    | split

theorem canFault_moves (s : State) :
    Moves 0x40002 s (canFault s) := by
  unfold canFault
  repeat' first
    | with_reducible assumption
    | with_reducible exact moves_refl
    | decide
    | with_reducible refine moves_foldl ?_ (fun _ _ _ => ?_)
    | with_reducible apply moves_step (setF_moves ..)
    | with_reducible apply moves_step (updPort_moves ..)

theorem receiveInto_moves (c : Nat) (p : CanPortCfg) (b : CanBufCfg) (f : CanFrame) (s : State) :
    Moves 0x640022 s (receiveInto c p b f s) := by
  unfold receiveInto
  repeat' first
    | with_reducible assumption
    | with_reducible exact moves_refl
    | decide
    | with_reducible refine moves_foldl ?_ (fun _ _ _ => ?_)
    | with_reducible apply moves_step (setF_moves ..)
    | with_reducible apply moves_step (haltBuffer_moves ..)
    | with_reducible apply moves_step (noteUe_moves ..)
    | with_reducible apply moves_step (updPort_moves ..)
    | with_reducible apply moves_step (emit_moves ..)
    | with_reducible apply moves_step (fillBuffer_moves ..)
    | with_reducible apply moves_step (bumpF_moves ..)
    | with_reducible apply moves_step (sampleIn_moves ..)
    | split

theorem lowerRec_moves (c : Nat) (s : State) :
    Moves 0x4200002 s (lowerRec c s) := by
  unfold lowerRec
  repeat' first
    | with_reducible exact moves_refl
    | decide
    | with_reducible apply moves_step (drawFree_moves ..)
    | with_reducible apply moves_step (setCounters_moves ..)
    | with_reducible refine moves_ite ?_ ?_

theorem execCanFrameRx_moves (c : Nat) (f : CanFrame) (s : State) :
    ResultMoves 0x4640022 s (execCanFrameRx c f s) := by
  unfold execCanFrameRx
  repeat' first
    | with_reducible exact moves_refl
    | decide
    | with_reducible apply moves_step (lowerRec_moves ..)
    | with_reducible apply moves_step (bumpF_moves ..)
    | with_reducible apply moves_step (receiveInto_moves ..)
    | with_reducible apply moves_step (raiseCause_moves ..)
    | with_reducible apply moves_step (fillBuffer_moves ..)
    | with_reducible apply moves_step (stageCan_moves ..)
    | with_reducible refine resultMoves_next ?_
    | split

theorem canGoLive_moves (standIn : Bool) (s : State) :
    Moves 0x40002 s (canGoLive standIn s) := by
  unfold canGoLive
  repeat' first
    | with_reducible assumption
    | with_reducible exact moves_refl
    | decide
    | with_reducible refine moves_foldl ?_ (fun _ _ _ => ?_)
    | with_reducible apply moves_step (setF_moves ..)
    | with_reducible apply moves_step (updPort_moves ..)
    | with_reducible apply moves_step (showQueues_moves ..)
    | with_reducible apply moves_step (resetFields_moves ..)

theorem canStop_moves (s : State) :
    Moves 0x40002 s (canStop s) := by
  unfold canStop
  repeat' first
    | with_reducible assumption
    | with_reducible exact moves_refl
    | decide
    | with_reducible refine moves_foldl ?_ (fun _ _ _ => ?_)
    | with_reducible apply moves_step (setF_moves ..)
    | with_reducible apply moves_step (updPort_moves ..)

theorem canSwitchOver_moves (s : State) :
    Moves 0x240002 s (canSwitchOver s) := by
  unfold canSwitchOver
  repeat' first
    | with_reducible assumption
    | with_reducible exact moves_refl
    | decide
    | with_reducible refine moves_foldl ?_ (fun _ _ _ => ?_)
    | with_reducible apply moves_step (setF_moves ..)
    | with_reducible apply moves_step (showErrors_moves ..)
    | with_reducible apply moves_step (emit_moves ..)
    | with_reducible apply moves_step (updPort_moves ..)
    | with_reducible refine moves_ite ?_ ?_

theorem canTick_moves (s : State) :
    Moves 0x10 s (canTick s) := by
  unfold canTick
  repeat' first
    | with_reducible exact moves_refl
    | with_reducible refine moves_ite ?_ ?_
    | fail_if_no_progress
        (with_reducible apply moves_frame)
        all_goals try first | with_reducible exact rfl | exact moves_absurd rfl | with_reducible exact fun _ => rfl

theorem countRefused_moves {m : Nat} {q : State} (c : Nat) (r : State × Reply) (hm : sub 0x2 m = true)
    (h : Moves m q r.1) : Moves m q (countRefused c r).1 := by
  unfold countRefused
  split
  · exact moves_step (bumpF_moves ..) hm h
  · exact h

theorem cmdSend_moves (c : Caller) (port a1 : Nat) (s : State) :
    Moves 0xa40002 s (cmdSend c port a1 s).1 := by
  unfold cmdSend
  repeat' first
    | with_reducible assumption
    | with_reducible exact moves_refl
    | decide
    | with_reducible refine countRefused_moves _ _ rfl ?_
    | with_reducible apply moves_step (showQueues_moves ..)
    | with_reducible apply moves_step (updPort_moves ..)
    | with_reducible refine bodyMoves_ok ?_
    | with_reducible exact bodyMoves_error _
    | with_reducible refine runCommand_moves _ _ _ _ _ _ _ _ rfl ?_ (fun _ _ => ?_)
    | split
    | (dsimp only; split)

theorem execSend_moves (c : Caller) (a0 a1 : Nat) (s : State) :
    ResultMoves 0xa40002 s (execSend c a0 a1 s) := by
  unfold execSend
  repeat' first
    | with_reducible exact moves_refl
    | decide
    | with_reducible apply moves_step (cmdSend_moves ..)
    | with_reducible refine resultMoves_next ?_

theorem cmdRecover_moves (c : Caller) (port a1 : Nat) (s : State) :
    Moves 0xa40002 s (cmdRecover c port a1 s).1 := by
  unfold cmdRecover
  repeat' first
    | with_reducible assumption
    | with_reducible exact moves_refl
    | decide
    | with_reducible apply moves_step (setF_moves ..)
    | with_reducible apply moves_step (showErrors_moves ..)
    | with_reducible apply moves_step (updPort_moves ..)
    | with_reducible refine bodyMoves_ok ?_
    | with_reducible exact bodyMoves_error _
    | with_reducible refine runCommand_moves _ _ _ _ _ _ _ _ rfl ?_ (fun _ _ => ?_)
    | split

theorem execRecover_moves (c : Caller) (a0 a1 : Nat) (s : State) :
    ResultMoves 0xa40002 s (execRecover c a0 a1 s) := by
  unfold execRecover
  repeat' first
    | with_reducible exact moves_refl
    | decide
    | with_reducible apply moves_step (cmdRecover_moves ..)
    | with_reducible refine resultMoves_next ?_

theorem canCommand_moves (op : Nat) (c : Caller) (a0 a1 : Nat) (s : State) :
    Moves 0xa40002 s (canCommand op c a0 a1 s).1 := by
  unfold canCommand
  repeat' first
    | with_reducible exact moves_refl
    | decide
    | with_reducible apply moves_step (cmdSend_moves ..)
    | with_reducible apply moves_step (cmdRecover_moves ..)
    | with_reducible apply moves_step (refuseOpcode_moves ..)
    | split

theorem applyWrite_moves (stamp : Nat) (w : TakeWrite) (s : State) :
    Moves 0xa2 s (applyWrite stamp w s) := by
  unfold applyWrite
  repeat' first
    | with_reducible exact moves_refl
    | decide
    | with_reducible apply moves_step (setF_moves ..)
    | with_reducible apply moves_step (takeWritePoint_moves ..)
    | fail_if_no_progress
        (with_reducible apply moves_frame)
        all_goals try first | with_reducible exact rfl | exact moves_absurd rfl | with_reducible exact fun _ => rfl
    | split

theorem applyWrites_moves (stamp : Nat) (ws : List TakeWrite) (s : State) :
    Moves 0xa2 s (applyWrites stamp ws s) := by
  unfold applyWrites
  repeat' first
    | with_reducible assumption
    | with_reducible exact moves_refl
    | decide
    | with_reducible refine moves_foldl ?_ (fun _ _ _ => ?_)
    | with_reducible apply moves_step (applyWrite_moves ..)

end Sys2Proof.Machine
end

