-- ==== Sys2Proof/Laws/MovesLogic.lean ====
section
/-! SUPPORT. Which parts of the state the operations of CAR, ASM and JUG change, and that they keep
its form. -/

namespace Sys2Proof.Machine

open Sys2Proof

theorem putScan_moves (t : Nat) (x : Option Scan) (s : State) :
    Moves 0x200 s (putScan t x s) := by
  unfold putScan
  repeat' first
    | with_reducible exact moves_refl
    | fail_if_no_progress
        (with_reducible apply moves_frame)
        all_goals try first | with_reducible exact rfl | exact moves_absurd rfl | with_reducible exact fun _ => rfl

theorem startScan_moves (t : Nat) (s : State) :
    Moves 0x80210 s (startScan t s) := by
  unfold startScan
  repeat' first
    | with_reducible exact moves_refl
    | decide
    | with_reducible apply moves_step (expectResult_moves ..)
    | with_reducible apply moves_step (putScan_moves ..)
    | fail_if_no_progress
        (with_reducible apply moves_frame)
        all_goals try first | with_reducible exact rfl | exact moves_absurd rfl | with_reducible exact fun _ => rfl

theorem startScans_moves (s : State) :
    Moves 0x80210 s (startScans s) := by
  unfold startScans
  repeat' first
    | with_reducible assumption
    | with_reducible exact moves_refl
    | decide
    | with_reducible refine moves_foldl ?_ (fun _ _ _ => ?_)
    | with_reducible apply moves_step (startScan_moves ..)
    | with_reducible refine moves_ite ?_ ?_

theorem arithEvent_moves (t addr op : Nat) (s : State) :
    Moves 0x200002 s (arithEvent t addr op s) := by
  unfold arithEvent
  repeat' first
    | with_reducible exact moves_refl
    | decide
    | with_reducible apply moves_step (setF_moves ..)
    | with_reducible apply moves_step (emit_moves ..)
    | with_reducible apply moves_step (bumpF_moves ..)

theorem abortScan_moves (t addr : Nat) (s : State) :
    Moves 0x200212 s (abortScan t addr s) := by
  unfold abortScan
  repeat' first
    | with_reducible exact moves_refl
    | decide
    | with_reducible apply moves_step (setF_moves ..)
    | with_reducible apply moves_step (emit_moves ..)
    | fail_if_no_progress
        (with_reducible apply moves_frame)
        all_goals try first | with_reducible exact rfl | exact moves_absurd rfl | with_reducible exact fun _ => rfl

theorem carStep_moves (t op slots : Nat) (ue : Option Nat) (f : Word → Scan → Scan × Bool) (s : State) :
    Moves 0x60021a s (carStep t op slots ue f s) := by
  unfold carStep
  repeat' first
    | with_reducible exact moves_refl
    | decide
    | with_reducible apply moves_step (elapseTo_moves ..)
    | with_reducible apply moves_step (abortScan_moves ..)
    | with_reducible apply moves_step (noteUe_moves ..)
    | with_reducible apply moves_step (putScan_moves ..)
    | with_reducible apply moves_step (arithEvent_moves ..)
    | with_reducible refine moves_ite ?_ ?_
    | split

theorem execCarNop_moves (t : Nat) (ue : Option Nat) (s : State) :
    ResultMoves 0x60021a s (execCarNop t ue s) := by
  unfold execCarNop
  repeat' first
    | with_reducible exact moves_refl
    | decide
    | with_reducible apply moves_step (carStep_moves ..)
    | with_reducible refine resultMoves_next ?_

theorem execCarLd_moves (t : Nat) (ue : Option Nat) (s : State) :
    ResultMoves 0x60021a s (execCarLd t ue s) := by
  unfold execCarLd
  repeat' first
    | with_reducible exact moves_refl
    | decide
    | with_reducible apply moves_step (carStep_moves ..)
    | with_reducible refine resultMoves_next ?_

theorem execCarLdn_moves (t : Nat) (ue : Option Nat) (s : State) :
    ResultMoves 0x60021a s (execCarLdn t ue s) := by
  unfold execCarLdn
  repeat' first
    | with_reducible exact moves_refl
    | decide
    | with_reducible apply moves_step (carStep_moves ..)
    | with_reducible refine resultMoves_next ?_

theorem execCarAnd_moves (t : Nat) (ue : Option Nat) (s : State) :
    ResultMoves 0x60021a s (execCarAnd t ue s) := by
  unfold execCarAnd
  repeat' first
    | with_reducible exact moves_refl
    | decide
    | with_reducible apply moves_step (carStep_moves ..)
    | with_reducible refine resultMoves_next ?_

theorem execCarAndn_moves (t : Nat) (ue : Option Nat) (s : State) :
    ResultMoves 0x60021a s (execCarAndn t ue s) := by
  unfold execCarAndn
  repeat' first
    | with_reducible exact moves_refl
    | decide
    | with_reducible apply moves_step (carStep_moves ..)
    | with_reducible refine resultMoves_next ?_

theorem execCarOr_moves (t : Nat) (ue : Option Nat) (s : State) :
    ResultMoves 0x60021a s (execCarOr t ue s) := by
  unfold execCarOr
  repeat' first
    | with_reducible exact moves_refl
    | decide
    | with_reducible apply moves_step (carStep_moves ..)
    | with_reducible refine resultMoves_next ?_

theorem execCarOrn_moves (t : Nat) (ue : Option Nat) (s : State) :
    ResultMoves 0x60021a s (execCarOrn t ue s) := by
  unfold execCarOrn
  repeat' first
    | with_reducible exact moves_refl
    | decide
    | with_reducible apply moves_step (carStep_moves ..)
    | with_reducible refine resultMoves_next ?_

theorem execCarXor_moves (t : Nat) (ue : Option Nat) (s : State) :
    ResultMoves 0x60021a s (execCarXor t ue s) := by
  unfold execCarXor
  repeat' first
    | with_reducible exact moves_refl
    | decide
    | with_reducible apply moves_step (carStep_moves ..)
    | with_reducible refine resultMoves_next ?_

theorem execCarSt_moves (t : Nat) (ue : Option Nat) (s : State) :
    ResultMoves 0x60021a s (execCarSt t ue s) := by
  unfold execCarSt
  repeat' first
    | with_reducible exact moves_refl
    | decide
    | with_reducible apply moves_step (carStep_moves ..)
    | with_reducible refine resultMoves_next ?_

theorem execCarStn_moves (t : Nat) (ue : Option Nat) (s : State) :
    ResultMoves 0x60021a s (execCarStn t ue s) := by
  unfold execCarStn
  repeat' first
    | with_reducible exact moves_refl
    | decide
    | with_reducible apply moves_step (carStep_moves ..)
    | with_reducible refine resultMoves_next ?_

theorem execCarSet_moves (t : Nat) (ue : Option Nat) (s : State) :
    ResultMoves 0x60021a s (execCarSet t ue s) := by
  unfold execCarSet
  repeat' first
    | with_reducible exact moves_refl
    | decide
    | with_reducible apply moves_step (carStep_moves ..)
    | with_reducible refine resultMoves_next ?_

theorem execCarRst_moves (t : Nat) (ue : Option Nat) (s : State) :
    ResultMoves 0x60021a s (execCarRst t ue s) := by
  unfold execCarRst
  repeat' first
    | with_reducible exact moves_refl
    | decide
    | with_reducible apply moves_step (carStep_moves ..)
    | with_reducible refine resultMoves_next ?_

theorem execCarLdq_moves (t : Nat) (ue : Option Nat) (s : State) :
    ResultMoves 0x60021a s (execCarLdq t ue s) := by
  unfold execCarLdq
  repeat' first
    | with_reducible exact moves_refl
    | decide
    | with_reducible apply moves_step (carStep_moves ..)
    | with_reducible refine resultMoves_next ?_

theorem execCarNot_moves (t : Nat) (ue : Option Nat) (s : State) :
    ResultMoves 0x60021a s (execCarNot t ue s) := by
  unfold execCarNot
  repeat' first
    | with_reducible exact moves_refl
    | decide
    | with_reducible apply moves_step (carStep_moves ..)
    | with_reducible refine resultMoves_next ?_

theorem execCarTrue_moves (t : Nat) (ue : Option Nat) (s : State) :
    ResultMoves 0x60021a s (execCarTrue t ue s) := by
  unfold execCarTrue
  repeat' first
    | with_reducible exact moves_refl
    | decide
    | with_reducible apply moves_step (carStep_moves ..)
    | with_reducible refine resultMoves_next ?_

theorem execCarPush_moves (t : Nat) (ue : Option Nat) (s : State) :
    ResultMoves 0x60021a s (execCarPush t ue s) := by
  unfold execCarPush
  repeat' first
    | with_reducible exact moves_refl
    | decide
    | with_reducible apply moves_step (carStep_moves ..)
    | with_reducible refine resultMoves_next ?_

theorem execCarRead_moves (t : Nat) (ue : Option Nat) (s : State) :
    ResultMoves 0x60021a s (execCarRead t ue s) := by
  unfold execCarRead
  repeat' first
    | with_reducible exact moves_refl
    | decide
    | with_reducible apply moves_step (carStep_moves ..)
    | with_reducible refine resultMoves_next ?_

theorem execCarPop_moves (t : Nat) (ue : Option Nat) (s : State) :
    ResultMoves 0x60021a s (execCarPop t ue s) := by
  unfold execCarPop
  repeat' first
    | with_reducible exact moves_refl
    | decide
    | with_reducible apply moves_step (carStep_moves ..)
    | with_reducible refine resultMoves_next ?_

theorem execCarAndp_moves (t : Nat) (ue : Option Nat) (s : State) :
    ResultMoves 0x60021a s (execCarAndp t ue s) := by
  unfold execCarAndp
  repeat' first
    | with_reducible exact moves_refl
    | decide
    | with_reducible apply moves_step (carStep_moves ..)
    | with_reducible refine resultMoves_next ?_

theorem execCarOrp_moves (t : Nat) (ue : Option Nat) (s : State) :
    ResultMoves 0x60021a s (execCarOrp t ue s) := by
  unfold execCarOrp
  repeat' first
    | with_reducible exact moves_refl
    | decide
    | with_reducible apply moves_step (carStep_moves ..)
    | with_reducible refine resultMoves_next ?_

theorem execCarRtrig_moves (t : Nat) (ue : Option Nat) (s : State) :
    ResultMoves 0x60021a s (execCarRtrig t ue s) := by
  unfold execCarRtrig
  repeat' first
    | with_reducible exact moves_refl
    | decide
    | with_reducible apply moves_step (carStep_moves ..)
    | with_reducible refine resultMoves_next ?_

theorem execCarFtrig_moves (t : Nat) (ue : Option Nat) (s : State) :
    ResultMoves 0x60021a s (execCarFtrig t ue s) := by
  unfold execCarFtrig
  repeat' first
    | with_reducible exact moves_refl
    | decide
    | with_reducible apply moves_step (carStep_moves ..)
    | with_reducible refine resultMoves_next ?_

theorem execCarTon_moves (t : Nat) (ue : Option Nat) (s : State) :
    ResultMoves 0x60021a s (execCarTon t ue s) := by
  unfold execCarTon
  repeat' first
    | with_reducible exact moves_refl
    | decide
    | with_reducible apply moves_step (carStep_moves ..)
    | with_reducible refine resultMoves_next ?_

theorem execCarTof_moves (t : Nat) (ue : Option Nat) (s : State) :
    ResultMoves 0x60021a s (execCarTof t ue s) := by
  unfold execCarTof
  repeat' first
    | with_reducible exact moves_refl
    | decide
    | with_reducible apply moves_step (carStep_moves ..)
    | with_reducible refine resultMoves_next ?_

theorem execCarTp_moves (t : Nat) (ue : Option Nat) (s : State) :
    ResultMoves 0x60021a s (execCarTp t ue s) := by
  unfold execCarTp
  repeat' first
    | with_reducible exact moves_refl
    | decide
    | with_reducible apply moves_step (carStep_moves ..)
    | with_reducible refine resultMoves_next ?_

theorem execCarCnt_moves (t : Nat) (ue : Option Nat) (s : State) :
    ResultMoves 0x60021a s (execCarCnt t ue s) := by
  unfold execCarCnt
  repeat' first
    | with_reducible exact moves_refl
    | decide
    | with_reducible apply moves_step (carStep_moves ..)
    | with_reducible refine resultMoves_next ?_

theorem execCarCrst_moves (t : Nat) (ue : Option Nat) (s : State) :
    ResultMoves 0x60021a s (execCarCrst t ue s) := by
  unfold execCarCrst
  repeat' first
    | with_reducible exact moves_refl
    | decide
    | with_reducible apply moves_step (carStep_moves ..)
    | with_reducible refine resultMoves_next ?_

theorem execCarLdw_moves (t : Nat) (ue : Option Nat) (s : State) :
    ResultMoves 0x60021a s (execCarLdw t ue s) := by
  unfold execCarLdw
  repeat' first
    | with_reducible exact moves_refl
    | decide
    | with_reducible apply moves_step (carStep_moves ..)
    | with_reducible refine resultMoves_next ?_

theorem execCarStw_moves (t : Nat) (ue : Option Nat) (s : State) :
    ResultMoves 0x60021a s (execCarStw t ue s) := by
  unfold execCarStw
  repeat' first
    | with_reducible exact moves_refl
    | decide
    | with_reducible apply moves_step (carStep_moves ..)
    | with_reducible refine resultMoves_next ?_

theorem execCarAddi_moves (t : Nat) (ue : Option Nat) (s : State) :
    ResultMoves 0x60021a s (execCarAddi t ue s) := by
  unfold execCarAddi
  repeat' first
    | with_reducible exact moves_refl
    | decide
    | with_reducible apply moves_step (carStep_moves ..)
    | with_reducible refine resultMoves_next ?_

theorem execCarSubi_moves (t : Nat) (ue : Option Nat) (s : State) :
    ResultMoves 0x60021a s (execCarSubi t ue s) := by
  unfold execCarSubi
  repeat' first
    | with_reducible exact moves_refl
    | decide
    | with_reducible apply moves_step (carStep_moves ..)
    | with_reducible refine resultMoves_next ?_

theorem execCarMuli_moves (t : Nat) (ue : Option Nat) (s : State) :
    ResultMoves 0x60021a s (execCarMuli t ue s) := by
  unfold execCarMuli
  repeat' first
    | with_reducible exact moves_refl
    | decide
    | with_reducible apply moves_step (carStep_moves ..)
    | with_reducible refine resultMoves_next ?_

theorem execCarDivi_moves (t : Nat) (ue : Option Nat) (s : State) :
    ResultMoves 0x60021a s (execCarDivi t ue s) := by
  unfold execCarDivi
  repeat' first
    | with_reducible exact moves_refl
    | decide
    | with_reducible apply moves_step (carStep_moves ..)
    | with_reducible refine resultMoves_next ?_

theorem execCarAndw_moves (t : Nat) (ue : Option Nat) (s : State) :
    ResultMoves 0x60021a s (execCarAndw t ue s) := by
  unfold execCarAndw
  repeat' first
    | with_reducible exact moves_refl
    | decide
    | with_reducible apply moves_step (carStep_moves ..)
    | with_reducible refine resultMoves_next ?_

theorem execCarOrw_moves (t : Nat) (ue : Option Nat) (s : State) :
    ResultMoves 0x60021a s (execCarOrw t ue s) := by
  unfold execCarOrw
  repeat' first
    | with_reducible exact moves_refl
    | decide
    | with_reducible apply moves_step (carStep_moves ..)
    | with_reducible refine resultMoves_next ?_

theorem execCarAddf_moves (t : Nat) (ue : Option Nat) (s : State) :
    ResultMoves 0x60021a s (execCarAddf t ue s) := by
  unfold execCarAddf
  repeat' first
    | with_reducible exact moves_refl
    | decide
    | with_reducible apply moves_step (carStep_moves ..)
    | with_reducible refine resultMoves_next ?_

theorem execCarSubf_moves (t : Nat) (ue : Option Nat) (s : State) :
    ResultMoves 0x60021a s (execCarSubf t ue s) := by
  unfold execCarSubf
  repeat' first
    | with_reducible exact moves_refl
    | decide
    | with_reducible apply moves_step (carStep_moves ..)
    | with_reducible refine resultMoves_next ?_

theorem execCarMulf_moves (t : Nat) (ue : Option Nat) (s : State) :
    ResultMoves 0x60021a s (execCarMulf t ue s) := by
  unfold execCarMulf
  repeat' first
    | with_reducible exact moves_refl
    | decide
    | with_reducible apply moves_step (carStep_moves ..)
    | with_reducible refine resultMoves_next ?_

theorem execCarDivf_moves (t : Nat) (ue : Option Nat) (s : State) :
    ResultMoves 0x60021a s (execCarDivf t ue s) := by
  unfold execCarDivf
  repeat' first
    | with_reducible exact moves_refl
    | decide
    | with_reducible apply moves_step (carStep_moves ..)
    | with_reducible refine resultMoves_next ?_

theorem execCarMinf_moves (t : Nat) (ue : Option Nat) (s : State) :
    ResultMoves 0x60021a s (execCarMinf t ue s) := by
  unfold execCarMinf
  repeat' first
    | with_reducible exact moves_refl
    | decide
    | with_reducible apply moves_step (carStep_moves ..)
    | with_reducible refine resultMoves_next ?_

theorem execCarMaxf_moves (t : Nat) (ue : Option Nat) (s : State) :
    ResultMoves 0x60021a s (execCarMaxf t ue s) := by
  unfold execCarMaxf
  repeat' first
    | with_reducible exact moves_refl
    | decide
    | with_reducible apply moves_step (carStep_moves ..)
    | with_reducible refine resultMoves_next ?_

theorem execCarItof_moves (t : Nat) (ue : Option Nat) (s : State) :
    ResultMoves 0x60021a s (execCarItof t ue s) := by
  unfold execCarItof
  repeat' first
    | with_reducible exact moves_refl
    | decide
    | with_reducible apply moves_step (carStep_moves ..)
    | with_reducible refine resultMoves_next ?_

theorem execCarFtoi_moves (t : Nat) (ue : Option Nat) (s : State) :
    ResultMoves 0x60021a s (execCarFtoi t ue s) := by
  unfold execCarFtoi
  repeat' first
    | with_reducible exact moves_refl
    | decide
    | with_reducible apply moves_step (carStep_moves ..)
    | with_reducible refine resultMoves_next ?_

theorem execCarEqi_moves (t : Nat) (ue : Option Nat) (s : State) :
    ResultMoves 0x60021a s (execCarEqi t ue s) := by
  unfold execCarEqi
  repeat' first
    | with_reducible exact moves_refl
    | decide
    | with_reducible apply moves_step (carStep_moves ..)
    | with_reducible refine resultMoves_next ?_

theorem execCarLti_moves (t : Nat) (ue : Option Nat) (s : State) :
    ResultMoves 0x60021a s (execCarLti t ue s) := by
  unfold execCarLti
  repeat' first
    | with_reducible exact moves_refl
    | decide
    | with_reducible apply moves_step (carStep_moves ..)
    | with_reducible refine resultMoves_next ?_

theorem execCarGti_moves (t : Nat) (ue : Option Nat) (s : State) :
    ResultMoves 0x60021a s (execCarGti t ue s) := by
  unfold execCarGti
  repeat' first
    | with_reducible exact moves_refl
    | decide
    | with_reducible apply moves_step (carStep_moves ..)
    | with_reducible refine resultMoves_next ?_

theorem execCarLtf_moves (t : Nat) (ue : Option Nat) (s : State) :
    ResultMoves 0x60021a s (execCarLtf t ue s) := by
  unfold execCarLtf
  repeat' first
    | with_reducible exact moves_refl
    | decide
    | with_reducible apply moves_step (carStep_moves ..)
    | with_reducible refine resultMoves_next ?_

theorem execCarGtf_moves (t : Nat) (ue : Option Nat) (s : State) :
    ResultMoves 0x60021a s (execCarGtf t ue s) := by
  unfold execCarGtf
  repeat' first
    | with_reducible exact moves_refl
    | decide
    | with_reducible apply moves_step (carStep_moves ..)
    | with_reducible refine resultMoves_next ?_

theorem execCarEqw_moves (t : Nat) (ue : Option Nat) (s : State) :
    ResultMoves 0x60021a s (execCarEqw t ue s) := by
  unfold execCarEqw
  repeat' first
    | with_reducible exact moves_refl
    | decide
    | with_reducible apply moves_step (carStep_moves ..)
    | with_reducible refine resultMoves_next ?_

theorem execCarSel_moves (t : Nat) (ue : Option Nat) (s : State) :
    ResultMoves 0x60021a s (execCarSel t ue s) := by
  unfold execCarSel
  repeat' first
    | with_reducible exact moves_refl
    | decide
    | with_reducible apply moves_step (carStep_moves ..)
    | with_reducible refine resultMoves_next ?_

theorem execCarJmp_moves (t : Nat) (ue : Option Nat) (s : State) :
    ResultMoves 0x60021a s (execCarJmp t ue s) := by
  unfold execCarJmp
  repeat' first
    | with_reducible exact moves_refl
    | decide
    | with_reducible apply moves_step (carStep_moves ..)
    | with_reducible refine resultMoves_next ?_

theorem execCarJmpt_moves (t : Nat) (ue : Option Nat) (s : State) :
    ResultMoves 0x60021a s (execCarJmpt t ue s) := by
  unfold execCarJmpt
  repeat' first
    | with_reducible exact moves_refl
    | decide
    | with_reducible apply moves_step (carStep_moves ..)
    | with_reducible refine resultMoves_next ?_

theorem execCarJmpf_moves (t : Nat) (ue : Option Nat) (s : State) :
    ResultMoves 0x60021a s (execCarJmpf t ue s) := by
  unfold execCarJmpf
  repeat' first
    | with_reducible exact moves_refl
    | decide
    | with_reducible apply moves_step (carStep_moves ..)
    | with_reducible refine resultMoves_next ?_

theorem execCarEnd_moves (t : Nat) (ue : Option Nat) (s : State) :
    ResultMoves 0x60021a s (execCarEnd t ue s) := by
  unfold execCarEnd
  repeat' first
    | with_reducible exact moves_refl
    | decide
    | with_reducible apply moves_step (carStep_moves ..)
    | with_reducible refine resultMoves_next ?_
    | fail_if_no_progress
        (with_reducible apply moves_frame)
        all_goals try first | with_reducible exact rfl | exact moves_absurd rfl | with_reducible exact fun _ => rfl
    | split

theorem carCommit_moves (t : Nat) (s : State) :
    Moves 0x202 s (carCommit t s) := by
  unfold carCommit
  repeat' first
    | with_reducible exact moves_refl
    | decide
    | with_reducible apply moves_step (setF_moves ..)
    | with_reducible apply moves_step (putScan_moves ..)
    | fail_if_no_progress
        (with_reducible apply moves_frame)
        all_goals try first | with_reducible exact rfl | exact moves_absurd rfl | with_reducible exact fun _ => rfl
    | split

theorem carStop_moves (s : State) :
    Moves 0x200 s (carStop s) := by
  unfold carStop
  repeat' first
    | with_reducible exact moves_refl
    | fail_if_no_progress
        (with_reducible apply moves_frame)
        all_goals try first | with_reducible exact rfl | exact moves_absurd rfl | with_reducible exact fun _ => rfl

theorem carGoLive_moves (s : State) :
    Moves 0x200 s (carGoLive s) := by
  unfold carGoLive
  repeat' first
    | with_reducible exact moves_refl
    | fail_if_no_progress
        (with_reducible apply moves_frame)
        all_goals try first | with_reducible exact rfl | exact moves_absurd rfl | with_reducible exact fun _ => rfl

theorem judgeInput_moves (i : Nat) (c : InputCfg) (warm : Table F64) (s : State) :
    Moves 0x200402 s (judgeInput i c warm s).2 := by
  unfold judgeInput
  repeat' first
    | with_reducible exact moves_refl
    | decide
    | with_reducible apply moves_step (setF_moves ..)
    | with_reducible apply moves_step (emit_moves ..)
    | fail_if_no_progress
        (with_reducible apply moves_frame)
        all_goals try first | with_reducible exact rfl | exact moves_absurd rfl | with_reducible exact fun _ => rfl
    | (dsimp only; split)

theorem judgeInputs_moves (warm : Table F64) (s : State) :
    Moves 0x200402 s (judgeInputs warm s).2 := by
  unfold judgeInputs
  repeat' first
    | with_reducible assumption
    | with_reducible exact moves_refl
    | decide
    | with_reducible refine moves_foldl_snd ?_ (fun _ _ _ => ?_)
    | with_reducible apply moves_step (judgeInput_moves ..)

theorem clearScaling_moves (s : State) :
    Moves 0x2 s (clearScaling s) := by
  unfold clearScaling
  repeat' first
    | with_reducible exact moves_refl
    | decide
    | with_reducible apply moves_step (setF_moves ..)

theorem asmResult_moves (round result detail cycles : Nat) (s : State) :
    Moves 0x200002 s (asmResult round result detail cycles s) := by
  unfold asmResult
  repeat' first
    | with_reducible exact moves_refl
    | decide
    | with_reducible apply moves_step (setF_moves ..)
    | with_reducible apply moves_step (clearScaling_moves ..)
    | with_reducible apply moves_step (emit_moves ..)
    | with_reducible apply moves_step (bumpF_moves ..)
    | with_reducible refine moves_ite ?_ ?_

theorem showScaling_moves (m : ModelSec) (mx : Table F64) (x : Round) (s : State) :
    Moves 0x2 s (showScaling m mx x s) := by
  unfold showScaling
  repeat' first
    | with_reducible exact moves_refl
    | decide
    | with_reducible apply moves_step (setF_moves ..)

theorem updRound_moves (f : Round → Round) (s : State) :
    Moves 0x800 s (updRound f s) := by
  unfold updRound
  repeat' first
    | with_reducible exact moves_refl
    | fail_if_no_progress
        (with_reducible apply moves_frame)
        all_goals try first | with_reducible exact rfl | exact moves_absurd rfl | with_reducible exact fun _ => rfl

theorem dropRound_moves (s : State) :
    Moves 0x802 s (dropRound s) := by
  unfold dropRound
  repeat' first
    | with_reducible exact moves_refl
    | decide
    | with_reducible apply moves_step (setF_moves ..)
    | fail_if_no_progress
        (with_reducible apply moves_frame)
        all_goals try first | with_reducible exact rfl | exact moves_absurd rfl | with_reducible exact fun _ => rfl

theorem noteSlow_moves (g cycles : Nat) (s : State) :
    Moves 0x200002 s (noteSlow g cycles s) := by
  unfold noteSlow
  repeat' first
    | with_reducible exact moves_refl
    | decide
    | with_reducible apply moves_step (setF_moves ..)
    | with_reducible apply moves_step (emit_moves ..)
    | with_reducible apply moves_step (bumpF_moves ..)
    | with_reducible refine moves_ite ?_ ?_

theorem endRound_moves (cause detail : Nat) (s : State) :
    Moves 0x200802 s (endRound cause detail s) := by
  unfold endRound
  repeat' first
    | with_reducible exact moves_refl
    | decide
    | with_reducible apply moves_step (setF_moves ..)
    | with_reducible apply moves_step (noteSlow_moves ..)
    | with_reducible apply moves_step (updRound_moves ..)
    | with_reducible apply moves_step (bumpF_moves ..)
    | with_reducible apply moves_step (emit_moves ..)
    | fail_if_no_progress
        (with_reducible apply moves_frame)
        all_goals try first | with_reducible exact rfl | exact moves_absurd rfl | with_reducible exact fun _ => rfl
    | split

theorem jugMemory_moves (c addr : Nat) (s : State) :
    Moves 0x200802 s (jugMemory c addr s) := by
  unfold jugMemory
  repeat' first
    | with_reducible exact moves_refl
    | decide
    | with_reducible apply moves_step (setF_moves ..)
    | with_reducible apply moves_step (bumpF_moves ..)
    | with_reducible apply moves_step (endRound_moves ..)
    | with_reducible apply moves_step (emit_moves ..)
    | with_reducible refine moves_ite ?_ ?_

theorem solverMemory_moves (e : Nat × Nat × Nat) (s : State) :
    Moves 0x600802 s (solverMemory e s) := by
  unfold solverMemory
  repeat' first
    | with_reducible exact moves_refl
    | decide
    | with_reducible apply moves_step (jugMemory_moves ..)
    | with_reducible apply moves_step (noteUe_moves ..)

theorem storyOp_moves (opcode code k : Nat) (ue : Option (Nat × Nat)) (f : State → StoryOp → Round → OpOut) (s : State) :
    Moves 0x600802 s (storyOp opcode code k ue f s) := by
  unfold storyOp
  repeat' first
    | with_reducible exact moves_refl
    | decide
    | with_reducible apply moves_step (setF_moves ..)
    | with_reducible apply moves_step (solverMemory_moves ..)
    | with_reducible apply moves_step (updRound_moves ..)
    | with_reducible apply moves_step (endRound_moves ..)
    | split
    | (dsimp only; split)

theorem execLoadPanel_moves (k : Nat) (ue : Option (Nat × Nat)) (s : State) :
    ResultMoves 0x600802 s (execLoadPanel k ue s) := by
  unfold execLoadPanel
  repeat' first
    | with_reducible exact moves_refl
    | decide
    | with_reducible apply moves_step (storyOp_moves ..)
    | with_reducible refine resultMoves_next ?_

theorem execFactor_moves (k : Nat) (ue : Option (Nat × Nat)) (s : State) :
    ResultMoves 0x600802 s (execFactor k ue s) := by
  unfold execFactor
  repeat' first
    | with_reducible exact moves_refl
    | decide
    | with_reducible apply moves_step (storyOp_moves ..)
    | with_reducible refine resultMoves_next ?_

theorem execTrsm_moves (k : Nat) (ue : Option (Nat × Nat)) (s : State) :
    ResultMoves 0x600802 s (execTrsm k ue s) := by
  unfold execTrsm
  repeat' first
    | with_reducible exact moves_refl
    | decide
    | with_reducible apply moves_step (storyOp_moves ..)
    | with_reducible refine resultMoves_next ?_

theorem execUpdate_moves (k : Nat) (ue : Option (Nat × Nat)) (s : State) :
    ResultMoves 0x600802 s (execUpdate k ue s) := by
  unfold execUpdate
  repeat' first
    | with_reducible exact moves_refl
    | decide
    | with_reducible apply moves_step (storyOp_moves ..)
    | with_reducible refine resultMoves_next ?_

theorem execStbSend_moves (k : Nat) (ue : Option (Nat × Nat)) (s : State) :
    ResultMoves 0x600802 s (execStbSend k ue s) := by
  unfold execStbSend
  repeat' first
    | with_reducible exact moves_refl
    | decide
    | with_reducible apply moves_step (storyOp_moves ..)
    | with_reducible refine resultMoves_next ?_

theorem execExtendAdd_moves (k : Nat) (ue : Option (Nat × Nat)) (s : State) :
    ResultMoves 0x600802 s (execExtendAdd k ue s) := by
  unfold execExtendAdd
  repeat' first
    | with_reducible exact moves_refl
    | decide
    | with_reducible apply moves_step (storyOp_moves ..)
    | with_reducible refine resultMoves_next ?_

theorem execStorePanel_moves (k : Nat) (ue : Option (Nat × Nat)) (s : State) :
    ResultMoves 0x600802 s (execStorePanel k ue s) := by
  unfold execStorePanel
  repeat' first
    | with_reducible exact moves_refl
    | decide
    | with_reducible apply moves_step (storyOp_moves ..)
    | with_reducible refine resultMoves_next ?_

theorem execArrive_moves (k : Nat) (s : State) :
    ResultMoves 0x600802 s (execArrive k s) := by
  unfold execArrive
  repeat' first
    | with_reducible exact moves_refl
    | decide
    | with_reducible apply moves_step (storyOp_moves ..)
    | with_reducible refine resultMoves_next ?_

theorem execWait_moves (k : Nat) (s : State) :
    ResultMoves 0x600802 s (execWait k s) := by
  unfold execWait
  repeat' first
    | with_reducible exact moves_refl
    | decide
    | with_reducible apply moves_step (storyOp_moves ..)
    | with_reducible refine resultMoves_next ?_

theorem execFwd_moves (k : Nat) (ue : Option (Nat × Nat)) (s : State) :
    ResultMoves 0x600802 s (execFwd k ue s) := by
  unfold execFwd
  repeat' first
    | with_reducible exact moves_refl
    | decide
    | with_reducible apply moves_step (storyOp_moves ..)
    | with_reducible refine resultMoves_next ?_

theorem execDiag_moves (k : Nat) (ue : Option (Nat × Nat)) (s : State) :
    ResultMoves 0x600802 s (execDiag k ue s) := by
  unfold execDiag
  repeat' first
    | with_reducible exact moves_refl
    | decide
    | with_reducible apply moves_step (storyOp_moves ..)
    | with_reducible refine resultMoves_next ?_

theorem execBwd_moves (k : Nat) (ue : Option (Nat × Nat)) (s : State) :
    ResultMoves 0x600802 s (execBwd k ue s) := by
  unfold execBwd
  repeat' first
    | with_reducible exact moves_refl
    | decide
    | with_reducible apply moves_step (storyOp_moves ..)
    | with_reducible refine resultMoves_next ?_

theorem execResid_moves (k : Nat) (ue : Option (Nat × Nat)) (s : State) :
    ResultMoves 0x600802 s (execResid k ue s) := by
  unfold execResid
  repeat' first
    | with_reducible exact moves_refl
    | decide
    | with_reducible apply moves_step (storyOp_moves ..)
    | with_reducible refine resultMoves_next ?_

theorem execBoundStep_moves (k : Nat) (ue : Option (Nat × Nat)) (s : State) :
    ResultMoves 0x600802 s (execBoundStep k ue s) := by
  unfold execBoundStep
  repeat' first
    | with_reducible exact moves_refl
    | decide
    | with_reducible apply moves_step (storyOp_moves ..)
    | with_reducible refine resultMoves_next ?_

theorem execMove_moves (k : Nat) (ue : Option (Nat × Nat)) (s : State) :
    ResultMoves 0x600802 s (execMove k ue s) := by
  unfold execMove
  repeat' first
    | with_reducible exact moves_refl
    | decide
    | with_reducible apply moves_step (storyOp_moves ..)
    | with_reducible refine resultMoves_next ?_

theorem execResiduals_moves (k : Nat) (ue : Option (Nat × Nat)) (s : State) :
    ResultMoves 0x600802 s (execResiduals k ue s) := by
  unfold execResiduals
  repeat' first
    | with_reducible exact moves_refl
    | decide
    | with_reducible apply moves_step (storyOp_moves ..)
    | with_reducible refine resultMoves_next ?_

theorem execMeasure_moves (k : Nat) (ue : Option (Nat × Nat)) (s : State) :
    ResultMoves 0x600802 s (execMeasure k ue s) := by
  unfold execMeasure
  repeat' first
    | with_reducible exact moves_refl
    | decide
    | with_reducible apply moves_step (storyOp_moves ..)
    | with_reducible refine resultMoves_next ?_

theorem execPrepare_moves (k : Nat) (ue : Option (Nat × Nat)) (s : State) :
    ResultMoves 0x600802 s (execPrepare k ue s) := by
  unfold execPrepare
  repeat' first
    | with_reducible exact moves_refl
    | decide
    | with_reducible apply moves_step (storyOp_moves ..)
    | with_reducible refine resultMoves_next ?_

theorem execReduce_moves (k : Nat) (ue : Option (Nat × Nat)) (s : State) :
    ResultMoves 0x600802 s (execReduce k ue s) := by
  unfold execReduce
  repeat' first
    | with_reducible exact moves_refl
    | decide
    | with_reducible apply moves_step (storyOp_moves ..)
    | with_reducible refine resultMoves_next ?_

theorem setCluster_moves (on : Bool) (c : Nat) (s : State) :
    Moves 0x2 s (setCluster on c s) := by
  unfold setCluster
  repeat' first
    | with_reducible exact moves_refl
    | decide
    | with_reducible apply moves_step (setBit_moves ..)

theorem wakeClusters_moves (s : State) :
    Moves 0x2 s (wakeClusters s) := by
  unfold wakeClusters
  repeat' first
    | with_reducible assumption
    | with_reducible exact moves_refl
    | decide
    | with_reducible refine moves_foldl ?_ (fun _ _ _ => ?_)
    | with_reducible apply moves_step (setCluster_moves ..)
    | with_reducible refine moves_ite ?_ ?_

theorem gateClusters_moves (s : State) :
    Moves 0x802 s (gateClusters s) := by
  unfold gateClusters
  repeat' first
    | with_reducible assumption
    | with_reducible exact moves_refl
    | decide
    | with_reducible refine moves_foldl ?_ (fun _ _ _ => ?_)
    | with_reducible apply moves_step (setCluster_moves ..)
    | with_reducible refine moves_ite ?_ ?_
    | fail_if_no_progress
        (with_reducible apply moves_frame)
        all_goals try first | with_reducible exact rfl | exact moves_absurd rfl | with_reducible exact fun _ => rfl

theorem startRound_moves (s : State) :
    Moves 0x200c02 s (startRound s) := by
  unfold startRound
  repeat' first
    | with_reducible exact moves_refl
    | decide
    | with_reducible apply moves_step (setF_moves ..)
    | with_reducible apply moves_step (judgeInputs_moves ..)
    | with_reducible apply moves_step (wakeClusters_moves ..)
    | with_reducible apply moves_step (bumpF_moves ..)
    | with_reducible apply moves_step (endRound_moves ..)
    | with_reducible apply moves_step (asmResult_moves ..)
    | with_reducible refine moves_ite ?_ ?_
    | fail_if_no_progress
        (with_reducible apply moves_frame)
        all_goals try first | with_reducible exact rfl | exact moves_absurd rfl | with_reducible exact fun _ => rfl
    | (dsimp only; split)

theorem execRoundStart_moves (s : State) :
    ResultMoves 0x200c02 s (execRoundStart s) := by
  unfold execRoundStart
  repeat' first
    | with_reducible exact moves_refl
    | decide
    | with_reducible apply moves_step (startRound_moves ..)
    | with_reducible refine moves_ite ?_ ?_
    | with_reducible refine resultMoves_next ?_

theorem asmMemory_moves (addr : Nat) (inData : Bool) (s : State) :
    Moves 0x200c02 s (asmMemory addr inData s) := by
  unfold asmMemory
  repeat' first
    | with_reducible exact moves_refl
    | decide
    | with_reducible apply moves_step (setF_moves ..)
    | with_reducible apply moves_step (emit_moves ..)
    | with_reducible apply moves_step (endRound_moves ..)
    | with_reducible apply moves_step (asmResult_moves ..)
    | fail_if_no_progress
        (with_reducible apply moves_frame)
        all_goals try first | with_reducible exact rfl | exact moves_absurd rfl | with_reducible exact fun _ => rfl
    | split

theorem execRoundAssembled_moves (ue : Option Nat) (inData : Bool) (s : State) :
    ResultMoves 0x600c02 s (execRoundAssembled ue inData s) := by
  unfold execRoundAssembled
  repeat' first
    | with_reducible exact moves_refl
    | decide
    | with_reducible apply moves_step (asmMemory_moves ..)
    | with_reducible apply moves_step (noteUe_moves ..)
    | with_reducible apply moves_step (updRound_moves ..)
    | with_reducible apply moves_step (showScaling_moves ..)
    | with_reducible apply moves_step (asmResult_moves ..)
    | with_reducible apply moves_step (endRound_moves ..)
    | with_reducible refine resultMoves_next ?_
    | split

theorem startRun_moves (mode : RunMode) (s : State) :
    Moves 0x802 s (startRun mode s) := by
  unfold startRun
  repeat' first
    | with_reducible exact moves_refl
    | decide
    | with_reducible apply moves_step (setF_moves ..)
    | with_reducible apply moves_step (updRound_moves ..)

theorem handOver_moves (s : State) :
    Moves 0x200802 s (handOver s) := by
  unfold handOver
  repeat' first
    | with_reducible exact moves_refl
    | decide
    | with_reducible apply moves_step (setF_moves ..)
    | with_reducible apply moves_step (endRound_moves ..)
    | with_reducible apply moves_step (startRun_moves ..)
    | split

theorem completeIterate_moves (s : State) :
    Moves 0x802 s (completeIterate s) := by
  unfold completeIterate
  repeat' first
    | with_reducible exact moves_refl
    | decide
    | with_reducible apply moves_step (setF_moves ..)
    | with_reducible apply moves_step (updRound_moves ..)
    | split

theorem nextIteration_moves (s : State) :
    Moves 0x200802 s (nextIteration s) := by
  unfold nextIteration
  repeat' first
    | with_reducible exact moves_refl
    | decide
    | with_reducible apply moves_step (setF_moves ..)
    | with_reducible apply moves_step (endRound_moves ..)
    | with_reducible apply moves_step (startRun_moves ..)
    | with_reducible apply moves_step (updRound_moves ..)
    | with_reducible refine moves_ite ?_ ?_
    | split

theorem afterSolve_moves (s : State) :
    Moves 0x802 s (afterSolve s) := by
  unfold afterSolve
  repeat' first
    | with_reducible exact moves_refl
    | decide
    | with_reducible apply moves_step (startRun_moves ..)
    | with_reducible apply moves_step (updRound_moves ..)
    | split

theorem afterRun_moves (mode : RunMode) (s : State) :
    Moves 0x200802 s (afterRun mode s) := by
  unfold afterRun
  repeat' first
    | with_reducible exact moves_refl
    | decide
    | with_reducible apply moves_step (setF_moves ..)
    | with_reducible apply moves_step (startRun_moves ..)
    | with_reducible apply moves_step (updRound_moves ..)
    | with_reducible apply moves_step (nextIteration_moves ..)
    | with_reducible apply moves_step (completeIterate_moves ..)
    | with_reducible apply moves_step (afterSolve_moves ..)
    | with_reducible apply moves_step (endRound_moves ..)
    | with_reducible refine moves_ite ?_ ?_
    | split

theorem runRegisters_moves (g cycles : Nat) (s : State) :
    Moves 0x200002 s (runRegisters g cycles s) := by
  unfold runRegisters
  repeat' first
    | with_reducible exact moves_refl
    | decide
    | with_reducible apply moves_step (setF_moves ..)
    | with_reducible apply moves_step (noteSlow_moves ..)

theorem stallRun_moves (g : Nat) (s : State) :
    Moves 0x200802 s (stallRun g s) := by
  unfold stallRun
  repeat' first
    | with_reducible exact moves_refl
    | decide
    | with_reducible apply moves_step (setF_moves ..)
    | with_reducible apply moves_step (noteSlow_moves ..)
    | with_reducible apply moves_step (updRound_moves ..)
    | with_reducible apply moves_step (bumpF_moves ..)
    | with_reducible apply moves_step (endRound_moves ..)
    | with_reducible apply moves_step (emit_moves ..)

theorem execSegmentRunEnd_moves (cycles : Nat) (ue : Option (Nat × Nat)) (s : State) :
    ResultMoves 0x600802 s (execSegmentRunEnd cycles ue s) := by
  unfold execSegmentRunEnd
  repeat' first
    | with_reducible exact moves_refl
    | decide
    | with_reducible apply moves_step (setF_moves ..)
    | with_reducible apply moves_step (stallRun_moves ..)
    | with_reducible apply moves_step (updRound_moves ..)
    | with_reducible apply moves_step (runRegisters_moves ..)
    | with_reducible apply moves_step (solverMemory_moves ..)
    | with_reducible apply moves_step (afterRun_moves ..)
    | with_reducible refine resultMoves_next ?_
    | split
    | (dsimp only; split)

theorem execSegmentStalled_moves (s : State) :
    ResultMoves 0x200802 s (execSegmentStalled s) := by
  unfold execSegmentStalled
  repeat' first
    | with_reducible exact moves_refl
    | decide
    | with_reducible apply moves_step (stallRun_moves ..)
    | with_reducible refine resultMoves_next ?_
    | split

theorem execRoundDeadline_moves (ue : Option (Nat × Nat)) (same : Bool) (s : State) :
    ResultMoves 0x600802 s (execRoundDeadline ue same s) := by
  unfold execRoundDeadline
  repeat' first
    | with_reducible exact moves_refl
    | decide
    | with_reducible apply moves_step (emit_moves ..)
    | with_reducible apply moves_step (updRound_moves ..)
    | with_reducible apply moves_step (solverMemory_moves ..)
    | with_reducible apply moves_step (endRound_moves ..)
    | with_reducible apply moves_step (asmResult_moves ..)
    | with_reducible refine resultMoves_next ?_
    | fail_if_no_progress
        (with_reducible apply moves_frame)
        all_goals try first | with_reducible exact rfl | exact moves_absurd rfl | with_reducible exact fun _ => rfl
    | split

theorem execClusterWakeFailed_moves (k : Nat) (s : State) :
    ResultMoves 0x600002 s (execClusterWakeFailed k s) := by
  unfold execClusterWakeFailed
  repeat' first
    | with_reducible exact moves_refl
    | decide
    | with_reducible apply moves_step (setF_moves ..)
    | with_reducible apply moves_step (setHealth_moves ..)
    | with_reducible apply moves_step (emit_moves ..)
    | with_reducible refine moves_ite ?_ ?_
    | with_reducible refine resultMoves_next ?_

theorem execPlanWritten_moves (s : State) :
    ResultMoves 0x802 s (execPlanWritten s) := by
  unfold execPlanWritten
  repeat' first
    | with_reducible exact moves_refl
    | decide
    | with_reducible apply moves_step (setF_moves ..)
    | with_reducible refine resultMoves_next ?_
    | fail_if_no_progress
        (with_reducible apply moves_frame)
        all_goals try first | with_reducible exact rfl | exact moves_absurd rfl | with_reducible exact fun _ => rfl
    | split

theorem jugTick_moves (s : State) :
    Moves 0x10 s (jugTick s) := by
  unfold jugTick
  repeat' first
    | with_reducible exact moves_refl
    | with_reducible refine moves_ite ?_ ?_
    | fail_if_no_progress
        (with_reducible apply moves_frame)
        all_goals try first | with_reducible exact rfl | exact moves_absurd rfl | with_reducible exact fun _ => rfl
    | split

theorem stepSkipped_moves (j : Nat) (s : State) :
    Moves 0x200000 s (stepSkipped j s) := by
  unfold stepSkipped
  repeat' first
    | with_reducible exact moves_refl
    | decide
    | with_reducible apply moves_step (emit_moves ..)

theorem publishPlan_moves (p : Plan) (s : State) :
    Moves 0x200802 s (publishPlan p s) := by
  unfold publishPlan
  repeat' first
    | with_reducible exact moves_refl
    | decide
    | with_reducible apply moves_step (setF_moves ..)
    | with_reducible apply moves_step (bumpF_moves ..)
    | with_reducible apply moves_step (emit_moves ..)
    | fail_if_no_progress
        (with_reducible apply moves_frame)
        all_goals try first | with_reducible exact rfl | exact moves_absurd rfl | with_reducible exact fun _ => rfl
    | split

theorem jugCommit_moves (s : State) :
    Moves 0x200802 s (jugCommit s) := by
  unfold jugCommit
  repeat' first
    | with_reducible exact moves_refl
    | decide
    | with_reducible apply moves_step (setF_moves ..)
    | with_reducible apply moves_step (publishPlan_moves ..)
    | split

theorem publishInitial_moves (s : State) :
    Moves 0x200802 s (publishInitial s).1 := by
  unfold publishInitial
  repeat' first
    | with_reducible exact moves_refl
    | decide
    | with_reducible apply moves_step (publishPlan_moves ..)
    | split

theorem publishKeep_moves (p : Plan) (s : State) :
    Moves 0x200802 s (publishKeep p s) := by
  unfold publishKeep
  repeat' first
    | with_reducible exact moves_refl
    | decide
    | with_reducible apply moves_step (publishPlan_moves ..)
    | fail_if_no_progress
        (with_reducible apply moves_frame)
        all_goals try first | with_reducible exact rfl | exact moves_absurd rfl | with_reducible exact fun _ => rfl

theorem switchRound_moves (s : State) :
    Moves 0x200802 s (switchRound s).1 := by
  unfold switchRound
  repeat' first
    | with_reducible exact moves_refl
    | decide
    | with_reducible apply moves_step (setF_moves ..)
    | with_reducible apply moves_step (updRound_moves ..)
    | with_reducible apply moves_step (publishKeep_moves ..)
    | with_reducible apply moves_step (emit_moves ..)
    | fail_if_no_progress
        (with_reducible apply moves_frame)
        all_goals try first | with_reducible exact rfl | exact moves_absurd rfl | with_reducible exact fun _ => rfl
    | split

theorem shiftRound_moves (source : Option Plan) (s : State) :
    Moves 0x200802 s (shiftRound source s).1 := by
  unfold shiftRound
  repeat' first
    | with_reducible exact moves_refl
    | decide
    | with_reducible apply moves_step (publishKeep_moves ..)
    | fail_if_no_progress
        (with_reducible apply moves_frame)
        all_goals try first | with_reducible exact rfl | exact moves_absurd rfl | with_reducible exact fun _ => rfl
    | split

theorem jugReset_moves (s : State) :
    Moves 0xc02 s (jugReset s) := by
  unfold jugReset
  repeat' first
    | with_reducible exact moves_refl
    | decide
    | with_reducible apply moves_step (setF_moves ..)
    | fail_if_no_progress
        (with_reducible apply moves_frame)
        all_goals try first | with_reducible exact rfl | exact moves_absurd rfl | with_reducible exact fun _ => rfl

end Sys2Proof.Machine
end

