-- ==== Sys2Proof/Laws/MovesSteering.lean ====
section
/-! SUPPORT. Which parts of the state the operations of TRP, LRP, STN, the rings and TXN change, and that they keep
its form. -/

namespace Sys2Proof.Machine

open Sys2Proof

theorem emitAll_moves (rs : List (Nat × Nat × Nat × Nat)) (s : State) :
    Moves 0x200000 s (emitAll rs s) := by
  unfold emitAll
  repeat' first
    | with_reducible assumption
    | with_reducible exact moves_refl
    | decide
    | with_reducible refine moves_foldl ?_ (fun _ _ _ => ?_)
    | with_reducible apply moves_step (emit_moves ..)

theorem runLoop_moves (c : LoopCfg) (s : State) :
    Moves 0x4200102 s (runLoop c s) := by
  unfold runLoop
  repeat' first
    | with_reducible exact moves_refl
    | decide
    | with_reducible apply moves_step (drawFree_moves ..)
    | with_reducible apply moves_step (emitAll_moves ..)
    | with_reducible apply moves_step (bumpF_moves ..)
    | fail_if_no_progress
        (with_reducible apply moves_frame)
        all_goals try first | with_reducible exact rfl | exact moves_absurd rfl | with_reducible exact fun _ => rfl

theorem queueEntry_moves (e : StagedEntry) (s : State) :
    Moves 0x10 s (queueEntry e s) := by
  unfold queueEntry
  repeat' first
    | with_reducible exact moves_refl
    | fail_if_no_progress
        (with_reducible apply moves_frame)
        all_goals try first | with_reducible exact rfl | exact moves_absurd rfl | with_reducible exact fun _ => rfl

theorem trpTick_moves (s : State) :
    Moves 0x4200112 s (trpTick s) := by
  unfold trpTick
  repeat' first
    | with_reducible assumption
    | with_reducible exact moves_refl
    | decide
    | with_reducible refine moves_foldl ?_ (fun _ _ _ => ?_)
    | with_reducible apply moves_step (setF_moves ..)
    | with_reducible apply moves_step (runLoop_moves ..)
    | with_reducible apply moves_step (expectResult_moves ..)
    | with_reducible apply moves_step (queueEntry_moves ..)
    | with_reducible refine moves_ite ?_ ?_
    | fail_if_no_progress
        (with_reducible apply moves_frame)
        all_goals try first | with_reducible exact rfl | exact moves_absurd rfl | with_reducible exact fun _ => rfl

theorem showLoop_moves (l : Nat) (x : LoopState) (s : State) :
    Moves 0x2 s (showLoop l x s) := by
  unfold showLoop
  repeat' first
    | with_reducible exact moves_refl
    | decide
    | with_reducible apply moves_step (setF_moves ..)

theorem putLoop_moves (l : Nat) (x : LoopState) (s : State) :
    Moves 0x102 s (putLoop l x s) := by
  unfold putLoop
  repeat' first
    | with_reducible exact moves_refl
    | decide
    | with_reducible apply moves_step (showLoop_moves ..)
    | fail_if_no_progress
        (with_reducible apply moves_frame)
        all_goals try first | with_reducible exact rfl | exact moves_absurd rfl | with_reducible exact fun _ => rfl

theorem showTrp_moves (s : State) :
    Moves 0x2 s (showTrp s) := by
  unfold showTrp
  repeat' first
    | with_reducible exact moves_refl
    | decide
    | with_reducible apply moves_step (setF_moves ..)

theorem loopHealth_moves (s : State) :
    Moves 0x400002 s (loopHealth s) := by
  unfold loopHealth
  repeat' first
    | with_reducible exact moves_refl
    | decide
    | with_reducible apply moves_step (setHealth_moves ..)
    | with_reducible refine moves_ite ?_ ?_

theorem faultLoop_moves (stamp l addr : Nat) (s : State) :
    Moves 0x600122 s (faultLoop stamp l addr s) := by
  unfold faultLoop
  repeat' first
    | with_reducible exact moves_refl
    | decide
    | with_reducible apply moves_step (setF_moves ..)
    | with_reducible apply moves_step (safePoint_moves ..)
    | with_reducible apply moves_step (sampleIn_moves ..)
    | with_reducible apply moves_step (loopHealth_moves ..)
    | with_reducible apply moves_step (emit_moves ..)
    | with_reducible apply moves_step (emitAll_moves ..)
    | with_reducible apply moves_step (putLoop_moves ..)
    | fail_if_no_progress
        (with_reducible apply moves_frame)
        all_goals try first | with_reducible exact rfl | exact moves_absurd rfl | with_reducible exact fun _ => rfl
    | split

theorem updCapture_moves (k : Nat) (f : Capture → Capture) (s : State) :
    Moves 0x100 s (updCapture k f s) := by
  unfold updCapture
  repeat' first
    | with_reducible exact moves_refl
    | fail_if_no_progress
        (with_reducible apply moves_frame)
        all_goals try first | with_reducible exact rfl | exact moves_absurd rfl | with_reducible exact fun _ => rfl

theorem captureDone_moves (k : Nat) (s : State) :
    Moves 0x600002 s (captureDone k s) := by
  unfold captureDone
  repeat' first
    | with_reducible exact moves_refl
    | decide
    | with_reducible apply moves_step (setF_moves ..)
    | with_reducible apply moves_step (emit_moves ..)
    | fail_if_no_progress
        (with_reducible apply moves_frame)
        all_goals try first | with_reducible exact rfl | exact moves_absurd rfl | with_reducible exact fun _ => rfl

theorem storeSample_moves (k : Nat) (v : List F32) (keep : Nat) (s : State) :
    Moves 0x102 s (storeSample k v keep s) := by
  unfold storeSample
  repeat' first
    | with_reducible exact moves_refl
    | decide
    | with_reducible apply moves_step (setF_moves ..)
    | with_reducible apply moves_step (updCapture_moves ..)

theorem captureSample_moves (k : Nat) (s : State) :
    Moves 0x600102 s (captureSample k s) := by
  unfold captureSample
  repeat' first
    | with_reducible exact moves_refl
    | decide
    | with_reducible apply moves_step (setF_moves ..)
    | with_reducible apply moves_step (updCapture_moves ..)
    | with_reducible apply moves_step (emit_moves ..)
    | with_reducible apply moves_step (storeSample_moves ..)
    | with_reducible apply moves_step (captureDone_moves ..)
    | with_reducible refine moves_ite ?_ ?_
    | (dsimp only; split)

theorem captureSamples_moves (s : State) :
    Moves 0x600102 s (captureSamples s) := by
  unfold captureSamples
  repeat' first
    | with_reducible assumption
    | with_reducible exact moves_refl
    | decide
    | with_reducible refine moves_foldl ?_ (fun _ _ _ => ?_)
    | with_reducible apply moves_step (captureSample_moves ..)
    | with_reducible refine moves_ite ?_ ?_

theorem trpEffect_moves (cmd : Nat × Nat × Nat) (s : State) :
    Moves 0x600102 s (trpEffect cmd s) := by
  unfold trpEffect
  repeat' first
    | with_reducible exact moves_refl
    | decide
    | with_reducible apply moves_step (setF_moves ..)
    | with_reducible apply moves_step (emitAll_moves ..)
    | with_reducible apply moves_step (putLoop_moves ..)
    | with_reducible apply moves_step (updCapture_moves ..)
    | with_reducible apply moves_step (captureDone_moves ..)
    | fail_if_no_progress
        (with_reducible apply moves_frame)
        all_goals try first | with_reducible exact rfl | exact moves_absurd rfl | with_reducible exact fun _ => rfl
    | split
    | (dsimp only; split)

theorem noteStart_moves (l : Nat) (old new : LoopState) (s : State) :
    Moves 0x100 s (noteStart l old new s) := by
  unfold noteStart
  repeat' first
    | with_reducible assumption
    | with_reducible exact moves_refl
    | decide
    | with_reducible refine moves_foldl ?_ (fun _ _ _ => ?_)
    | with_reducible apply moves_step (updCapture_moves ..)
    | with_reducible refine moves_ite ?_ ?_
    | split

theorem trpCommit_moves (s : State) :
    Moves 0x102 s (trpCommit s) := by
  unfold trpCommit
  repeat' first
    | with_reducible assumption
    | with_reducible exact moves_refl
    | decide
    | with_reducible refine moves_foldl ?_ (fun _ _ _ => ?_)
    | with_reducible apply moves_step (putLoop_moves ..)
    | with_reducible apply moves_step (noteStart_moves ..)
    | with_reducible refine moves_ite ?_ ?_
    | fail_if_no_progress
        (with_reducible apply moves_frame)
        all_goals try first | with_reducible exact rfl | exact moves_absurd rfl | with_reducible exact fun _ => rfl

theorem trpCurtain_moves (stamp : Nat) (s : State) :
    Moves 0x600122 s (trpCurtain stamp s) := by
  unfold trpCurtain
  repeat' first
    | with_reducible assumption
    | with_reducible exact moves_refl
    | decide
    | with_reducible refine moves_foldl ?_ (fun _ _ _ => ?_)
    | with_reducible apply moves_step (faultLoop_moves ..)
    | with_reducible apply moves_step (trpEffect_moves ..)
    | with_reducible apply moves_step (showTrp_moves ..)
    | with_reducible apply moves_step (captureSamples_moves ..)
    | fail_if_no_progress
        (with_reducible apply moves_frame)
        all_goals try first | with_reducible exact rfl | exact moves_absurd rfl | with_reducible exact fun _ => rfl

theorem trpStop_moves (s : State) :
    Moves 0x102 s (trpStop s) := by
  unfold trpStop
  repeat' first
    | with_reducible assumption
    | with_reducible exact moves_refl
    | decide
    | with_reducible refine moves_foldl ?_ (fun _ _ _ => ?_)
    | with_reducible apply moves_step (putLoop_moves ..)
    | with_reducible apply moves_step (showTrp_moves ..)
    | fail_if_no_progress
        (with_reducible apply moves_frame)
        all_goals try first | with_reducible exact rfl | exact moves_absurd rfl | with_reducible exact fun _ => rfl

theorem dropCaptures_moves (s : State) :
    Moves 0x400102 s (dropCaptures s) := by
  unfold dropCaptures
  repeat' first
    | with_reducible assumption
    | with_reducible exact moves_refl
    | decide
    | with_reducible refine moves_foldl ?_ (fun _ _ _ => ?_)
    | with_reducible apply moves_step (setF_moves ..)
    | with_reducible apply moves_step (updCapture_moves ..)
    | fail_if_no_progress
        (with_reducible apply moves_frame)
        all_goals try first | with_reducible exact rfl | exact moves_absurd rfl | with_reducible exact fun _ => rfl

theorem execInjectEnded_moves (l : Nat) (s : State) :
    ResultMoves 0x200102 s (execInjectEnded l s) := by
  unfold execInjectEnded
  repeat' first
    | with_reducible exact moves_refl
    | decide
    | with_reducible apply moves_step (showTrp_moves ..)
    | with_reducible apply moves_step (putLoop_moves ..)
    | with_reducible apply moves_step (emitAll_moves ..)
    | with_reducible refine resultMoves_next ?_
    | split

theorem trpGoLive_moves (s : State) :
    Moves 0x102 s (trpGoLive s) := by
  unfold trpGoLive
  repeat' first
    | with_reducible assumption
    | with_reducible exact moves_refl
    | decide
    | with_reducible refine moves_foldl ?_ (fun _ _ _ => ?_)
    | with_reducible apply moves_step (putLoop_moves ..)
    | fail_if_no_progress
        (with_reducible apply moves_frame)
        all_goals try first | with_reducible exact rfl | exact moves_absurd rfl | with_reducible exact fun _ => rfl

theorem acceptTrp_moves {m : Nat} {q : State} (op a b : Nat) (s : State) (hm : sub 0x100 m = true) (h : Moves m q s) :
    BodyMoves m q (acceptTrp op a b s) :=
  bodyMoves_ok (moves_step (a := 0x100) (by apply moves_frame moves_refl <;> first | exact rfl | exact moves_absurd rfl | exact fun _ => rfl) hm h)

theorem cmdInjectStart_moves (c : Caller) (l p : Nat) (s : State) :
    Moves 0xa00102 s (cmdInjectStart c l p s).1 := by
  unfold cmdInjectStart
  repeat' first
    | with_reducible assumption
    | with_reducible exact moves_refl
    | with_reducible refine acceptTrp_moves _ _ _ _ rfl ?_
    | with_reducible exact bodyMoves_error _
    | with_reducible refine runCommand_moves _ _ _ _ _ _ _ _ rfl ?_ (fun _ _ => ?_)
    | split

theorem execInjectStart_moves (c : Caller) (a0 a1 : Nat) (s : State) :
    ResultMoves 0xa00102 s (execInjectStart c a0 a1 s) := by
  unfold execInjectStart
  repeat' first
    | with_reducible exact moves_refl
    | decide
    | with_reducible apply moves_step (cmdInjectStart_moves ..)
    | with_reducible refine resultMoves_next ?_

theorem cmdInjectStop_moves (c : Caller) (l : Nat) (s : State) :
    Moves 0xa00102 s (cmdInjectStop c l s).1 := by
  unfold cmdInjectStop
  repeat' first
    | with_reducible assumption
    | with_reducible exact moves_refl
    | with_reducible refine acceptTrp_moves _ _ _ _ rfl ?_
    | with_reducible exact bodyMoves_error _
    | with_reducible refine runCommand_moves _ _ _ _ _ _ _ _ rfl ?_ (fun _ _ => ?_)
    | split

theorem execInjectStop_moves (c : Caller) (a0 : Nat) (s : State) :
    ResultMoves 0xa00102 s (execInjectStop c a0 s) := by
  unfold execInjectStop
  repeat' first
    | with_reducible exact moves_refl
    | decide
    | with_reducible apply moves_step (cmdInjectStop_moves ..)
    | with_reducible refine resultMoves_next ?_

theorem cmdCaptureArm_moves (c : Caller) (k d : Nat) (s : State) :
    Moves 0xa00102 s (cmdCaptureArm c k d s).1 := by
  unfold cmdCaptureArm
  repeat' first
    | with_reducible assumption
    | with_reducible exact moves_refl
    | with_reducible refine acceptTrp_moves _ _ _ _ rfl ?_
    | with_reducible exact bodyMoves_error _
    | with_reducible refine runCommand_moves _ _ _ _ _ _ _ _ rfl ?_ (fun _ _ => ?_)
    | split

theorem execCaptureArm_moves (c : Caller) (a0 a1 : Nat) (s : State) :
    ResultMoves 0xa00102 s (execCaptureArm c a0 a1 s) := by
  unfold execCaptureArm
  repeat' first
    | with_reducible exact moves_refl
    | decide
    | with_reducible apply moves_step (cmdCaptureArm_moves ..)
    | with_reducible refine resultMoves_next ?_

theorem cmdCaptureStop_moves (c : Caller) (k : Nat) (s : State) :
    Moves 0xa00102 s (cmdCaptureStop c k s).1 := by
  unfold cmdCaptureStop
  repeat' first
    | with_reducible assumption
    | with_reducible exact moves_refl
    | with_reducible refine acceptTrp_moves _ _ _ _ rfl ?_
    | with_reducible exact bodyMoves_error _
    | with_reducible refine runCommand_moves _ _ _ _ _ _ _ _ rfl ?_ (fun _ _ => ?_)
    | split

theorem execCaptureStop_moves (c : Caller) (a0 : Nat) (s : State) :
    ResultMoves 0xa00102 s (execCaptureStop c a0 s) := by
  unfold execCaptureStop
  repeat' first
    | with_reducible exact moves_refl
    | decide
    | with_reducible apply moves_step (cmdCaptureStop_moves ..)
    | with_reducible refine resultMoves_next ?_

theorem cmdRepClear_moves (c : Caller) (l : Nat) (s : State) :
    Moves 0xa00102 s (cmdRepClear c l s).1 := by
  unfold cmdRepClear
  repeat' first
    | with_reducible assumption
    | with_reducible exact moves_refl
    | with_reducible refine acceptTrp_moves _ _ _ _ rfl ?_
    | with_reducible exact bodyMoves_error _
    | with_reducible refine runCommand_moves _ _ _ _ _ _ _ _ rfl ?_ (fun _ _ => ?_)
    | split

theorem execRepClear_moves (c : Caller) (a0 : Nat) (s : State) :
    ResultMoves 0xa00102 s (execRepClear c a0 s) := by
  unfold execRepClear
  repeat' first
    | with_reducible exact moves_refl
    | decide
    | with_reducible apply moves_step (cmdRepClear_moves ..)
    | with_reducible refine resultMoves_next ?_

theorem trpCommand_moves (op : Nat) (c : Caller) (a0 a1 : Nat) (s : State) :
    Moves 0xa00102 s (trpCommand op c a0 a1 s).1 := by
  unfold trpCommand
  repeat' first
    | with_reducible exact moves_refl
    | decide
    | with_reducible apply moves_step (cmdInjectStart_moves ..)
    | with_reducible apply moves_step (cmdInjectStop_moves ..)
    | with_reducible apply moves_step (cmdCaptureArm_moves ..)
    | with_reducible apply moves_step (cmdCaptureStop_moves ..)
    | with_reducible apply moves_step (cmdRepClear_moves ..)
    | with_reducible apply moves_step (refuseOpcode_moves ..)
    | split

theorem healthEntry_moves (s : State) :
    Moves 0x600002 s (healthEntry s) := by
  unfold healthEntry
  repeat' first
    | with_reducible exact moves_refl
    | decide
    | with_reducible apply moves_step (stageEntry_moves ..)
    | fail_if_no_progress
        (with_reducible apply moves_frame)
        all_goals try first | with_reducible exact rfl | exact moves_absurd rfl | with_reducible exact fun _ => rfl

theorem healthIfChanged_moves (s : State) :
    Moves 0x600002 s (healthIfChanged s) := by
  unfold healthIfChanged
  repeat' first
    | with_reducible exact moves_refl
    | decide
    | with_reducible apply moves_step (healthEntry_moves ..)
    | with_reducible refine moves_ite ?_ ?_

theorem execHealthPeriodic_moves (s : State) :
    ResultMoves 0x600002 s (execHealthPeriodic s) := by
  unfold execHealthPeriodic
  repeat' first
    | with_reducible exact moves_refl
    | decide
    | with_reducible apply moves_step (healthEntry_moves ..)
    | with_reducible refine moves_ite ?_ ?_
    | with_reducible refine resultMoves_next ?_

theorem subscriptionEntry_moves (x : Subscription) (s : State) :
    Moves 0x600002 s (subscriptionEntry x s).2 := by
  unfold subscriptionEntry
  repeat' first
    | with_reducible exact moves_refl
    | decide
    | with_reducible apply moves_step (stageEntry_moves ..)
    | split
    | (dsimp only; split)

theorem pointEntry_moves (i : Nat) (s : State) :
    Moves 0x600002 s (pointEntry i s) := by
  unfold pointEntry
  repeat' first
    | with_reducible exact moves_refl
    | decide
    | with_reducible apply moves_step (subscriptionEntry_moves ..)
    | fail_if_no_progress
        (with_reducible apply moves_frame)
        all_goals try first | with_reducible exact rfl | exact moves_absurd rfl | with_reducible exact fun _ => rfl
    | split

theorem subscriptionEntries_moves (published : List Nat) (s : State) :
    Moves 0x600002 s (subscriptionEntries published s) := by
  unfold subscriptionEntries
  repeat' first
    | with_reducible assumption
    | with_reducible exact moves_refl
    | decide
    | with_reducible refine moves_foldl ?_ (fun _ _ _ => ?_)
    | with_reducible apply moves_step (pointEntry_moves ..)

theorem exportRows_moves (p : Plan) (e : Export) (s : State) :
    Moves 0x600002 s (exportRows p e s).2 := by
  unfold exportRows
  repeat' first
    | with_reducible exact moves_refl
    | decide
    | with_reducible apply moves_step (stageEntry_moves ..)

theorem pumpSolution_moves (n : Nat) (s : State) : Moves 0x600002 s (pumpSolution n s) := by
  induction n generalizing s with
  | zero => exact moves_refl
  | succ n ih =>
    unfold pumpSolution
    split
    · refine moves_ite ?_ (moves_ite moves_refl (moves_step (ih _) rfl ?_))
      · apply moves_frame moves_refl <;> first | exact rfl | exact moves_absurd rfl | exact fun _ => rfl
      · with_reducible apply moves_frame (s := stageEntry _ _ _ _ _ _) (moves_step (stageEntry_moves ..) rfl moves_refl) <;> first | exact rfl | exact moves_absurd rfl | exact fun _ => rfl
    · exact moves_refl

theorem startExport_moves (p : Plan) (s : State) :
    Moves 0x600002 s (startExport p s) := by
  unfold startExport
  repeat' first
    | with_reducible exact moves_refl
    | decide
    | with_reducible apply moves_step (stageEntry_moves ..)
    | with_reducible apply moves_step (pumpSolution_moves ..)
    | with_reducible refine moves_ite ?_ ?_
    | fail_if_no_progress
        (with_reducible apply moves_frame)
        all_goals try first | with_reducible exact rfl | exact moves_absurd rfl | with_reducible exact fun _ => rfl
    | split

theorem captureHeader_moves (k : Nat) (s : State) :
    Moves 0x600002 s (captureHeader k s) := by
  unfold captureHeader
  repeat' first
    | with_reducible exact moves_refl
    | decide
    | with_reducible apply moves_step (setF_moves ..)
    | with_reducible apply moves_step (stageEntry_moves ..)

theorem exportSamples_moves (e : Export) (s : State) :
    Moves 0x600002 s (exportSamples e s).2 := by
  unfold exportSamples
  repeat' first
    | with_reducible exact moves_refl
    | decide
    | with_reducible apply moves_step (stageEntry_moves ..)

theorem pumpCaptures_moves (n : Nat) (s : State) : Moves 0x600002 s (pumpCaptures n s) := by
  induction n generalizing s with
  | zero => exact moves_refl
  | succ n ih =>
    unfold pumpCaptures
    split
    · exact moves_refl
    · refine moves_ite moves_refl (moves_ite (moves_step (ih _) rfl ?_) (moves_ite (moves_step (ih _) rfl
        (moves_step setF_moves rfl ?_)) (moves_step (ih _) rfl ?_)))
      · with_reducible apply moves_frame (s := captureHeader _ _) (moves_step (captureHeader_moves ..) rfl moves_refl) <;> first | exact rfl | exact moves_absurd rfl | exact fun _ => rfl
      · apply moves_frame moves_refl <;> first | exact rfl | exact moves_absurd rfl | exact fun _ => rfl
      · with_reducible apply moves_frame (s := stageEntry _ _ _ _ _ _) (moves_step (stageEntry_moves ..) rfl moves_refl) <;> first | exact rfl | exact moves_absurd rfl | exact fun _ => rfl

theorem pumpExports_moves (s : State) :
    Moves 0x600002 s (pumpExports s) := by
  unfold pumpExports
  repeat' first
    | with_reducible exact moves_refl
    | decide
    | with_reducible apply moves_step (pumpCaptures_moves ..)
    | with_reducible apply moves_step (pumpSolution_moves ..)

theorem tickDivider_moves (s : State) :
    Moves 0x400002 s (tickDivider s) := by
  unfold tickDivider
  repeat' first
    | with_reducible exact moves_refl
    | decide
    | with_reducible apply moves_step (raiseCause_moves ..)
    | with_reducible refine moves_ite ?_ ?_

theorem showPower_moves (s : State) :
    Moves 0x2 s (showPower s) := by
  unfold showPower
  repeat' first
    | with_reducible exact moves_refl
    | decide
    | with_reducible apply moves_step (setF_moves ..)

theorem setPower_moves (l code mw : Nat) (due : Option Nat) (s : State) :
    Moves 0x10002 s (setPower l code mw due s) := by
  unfold setPower
  repeat' first
    | with_reducible exact moves_refl
    | decide
    | with_reducible apply moves_step (setF_moves ..)
    | with_reducible apply moves_step (showPower_moves ..)
    | fail_if_no_progress
        (with_reducible apply moves_frame)
        all_goals try first | with_reducible exact rfl | exact moves_absurd rfl | with_reducible exact fun _ => rfl

theorem lrpArm_moves (s : State) :
    Moves 0x10002 s (lrpArm s) := by
  unfold lrpArm
  repeat' first
    | with_reducible assumption
    | with_reducible exact moves_refl
    | decide
    | with_reducible refine moves_foldl ?_ (fun _ _ _ => ?_)
    | with_reducible apply moves_step (setPower_moves ..)

theorem lrpOff_moves (s : State) :
    Moves 0x10002 s (lrpOff s) := by
  unfold lrpOff
  repeat' first
    | with_reducible assumption
    | with_reducible exact moves_refl
    | decide
    | with_reducible refine moves_foldl ?_ (fun _ _ _ => ?_)
    | with_reducible apply moves_step (setPower_moves ..)
    | with_reducible refine moves_ite ?_ ?_

theorem execDetection_moves (l : Nat) (valid : Bool) (mw : Nat) (s : State) :
    ResultMoves 0x210002 s (execDetection l valid mw s) := by
  unfold execDetection
  repeat' first
    | with_reducible exact moves_refl
    | decide
    | with_reducible apply moves_step (emit_moves ..)
    | with_reducible apply moves_step (setPower_moves ..)
    | with_reducible refine moves_ite ?_ ?_
    | with_reducible refine resultMoves_next ?_

theorem faultPort_moves (l kind ma : Nat) (s : State) :
    Moves 0x210002 s (faultPort l kind ma s) := by
  unfold faultPort
  repeat' first
    | with_reducible exact moves_refl
    | decide
    | with_reducible apply moves_step (emit_moves ..)
    | with_reducible apply moves_step (bumpF_moves ..)
    | with_reducible apply moves_step (setPower_moves ..)

theorem execPowerFault_moves (l kind ma : Nat) (s : State) :
    ResultMoves 0x210002 s (execPowerFault l kind ma s) := by
  unfold execPowerFault
  repeat' first
    | with_reducible exact moves_refl
    | decide
    | with_reducible apply moves_step (setF_moves ..)
    | with_reducible apply moves_step (faultPort_moves ..)
    | with_reducible refine resultMoves_next ?_
    | split

theorem cmdPowerOff_moves (c : Caller) (l : Nat) (s : State) :
    Moves 0xa10002 s (cmdPowerOff c l s).1 := by
  unfold cmdPowerOff
  repeat' first
    | with_reducible assumption
    | with_reducible exact moves_refl
    | decide
    | with_reducible apply moves_step (setPower_moves ..)
    | with_reducible refine bodyMoves_ok ?_
    | with_reducible exact bodyMoves_error _
    | with_reducible refine runCommand_moves _ _ _ _ _ _ _ _ rfl ?_ (fun _ _ => ?_)
    | split

theorem execPowerOff_moves (c : Caller) (a0 : Nat) (s : State) :
    ResultMoves 0xa10002 s (execPowerOff c a0 s) := by
  unfold execPowerOff
  repeat' first
    | with_reducible exact moves_refl
    | decide
    | with_reducible apply moves_step (cmdPowerOff_moves ..)
    | with_reducible refine resultMoves_next ?_

theorem cmdPowerOn_moves (c : Caller) (l : Nat) (s : State) :
    Moves 0xa10002 s (cmdPowerOn c l s).1 := by
  unfold cmdPowerOn
  repeat' first
    | with_reducible assumption
    | with_reducible exact moves_refl
    | decide
    | with_reducible apply moves_step (setPower_moves ..)
    | with_reducible refine bodyMoves_ok ?_
    | with_reducible exact bodyMoves_error _
    | with_reducible refine runCommand_moves _ _ _ _ _ _ _ _ rfl ?_ (fun _ _ => ?_)
    | split

theorem execPowerOn_moves (c : Caller) (a0 : Nat) (s : State) :
    ResultMoves 0xa10002 s (execPowerOn c a0 s) := by
  unfold execPowerOn
  repeat' first
    | with_reducible exact moves_refl
    | decide
    | with_reducible apply moves_step (cmdPowerOn_moves ..)
    | with_reducible refine resultMoves_next ?_

theorem lrpCommand_moves (op : Nat) (c : Caller) (a0 : Nat) (s : State) :
    Moves 0xa10002 s (lrpCommand op c a0 s).1 := by
  unfold lrpCommand
  repeat' first
    | with_reducible exact moves_refl
    | decide
    | with_reducible apply moves_step (cmdPowerOff_moves ..)
    | with_reducible apply moves_step (cmdPowerOn_moves ..)
    | with_reducible apply moves_step (refuseOpcode_moves ..)
    | split

theorem updStation_moves (n : Nat) (f : StationState → StationState) (s : State) :
    Moves 0x20000 s (updStation n f s) := by
  unfold updStation
  repeat' first
    | with_reducible exact moves_refl
    | fail_if_no_progress
        (with_reducible apply moves_frame)
        all_goals try first | with_reducible exact rfl | exact moves_absurd rfl | with_reducible exact fun _ => rfl

theorem setStation_moves (n st : Nat) (s : State) :
    Moves 0x620002 s (setStation n st s) := by
  unfold setStation
  repeat' first
    | with_reducible exact moves_refl
    | decide
    | with_reducible apply moves_step (updStation_moves ..)
    | with_reducible apply moves_step (stageEntry_moves ..)
    | with_reducible refine moves_ite ?_ ?_

theorem countDiscarded_moves (n : Nat) (k : Nat × Nat) (s : State) :
    Moves 0x200002 s (countDiscarded n k s) := by
  unfold countDiscarded
  repeat' first
    | with_reducible exact moves_refl
    | decide
    | with_reducible apply moves_step (emit_moves ..)
    | with_reducible apply moves_step (bumpF_moves ..)

theorem discardOutputs_moves (n : Nat) (s : State) :
    Moves 0x208002 s (discardOutputs n s) := by
  unfold discardOutputs
  repeat' first
    | with_reducible assumption
    | with_reducible exact moves_refl
    | decide
    | with_reducible refine moves_foldl ?_ (fun _ _ _ => ?_)
    | with_reducible apply moves_step (putQueue_moves ..)
    | with_reducible apply moves_step (countDiscarded_moves ..)
    | with_reducible refine moves_ite ?_ ?_

theorem absentInputs_moves (c : StationCfg) (s : State) :
    Moves 0x20 s (absentInputs c s) := by
  unfold absentInputs
  repeat' first
    | with_reducible assumption
    | with_reducible exact moves_refl
    | decide
    | with_reducible refine moves_foldl ?_ (fun _ _ _ => ?_)
    | with_reducible apply moves_step (declareAbsent_moves ..)

theorem stationLost_moves (c : StationCfg) (cause : Nat) (s : State) :
    Moves 0x628022 s (stationLost c cause s) := by
  unfold stationLost
  repeat' first
    | with_reducible exact moves_refl
    | decide
    | with_reducible apply moves_step (setStation_moves ..)
    | with_reducible apply moves_step (updStation_moves ..)
    | with_reducible apply moves_step (emit_moves ..)
    | with_reducible apply moves_step (discardOutputs_moves ..)
    | with_reducible apply moves_step (absentInputs_moves ..)

theorem stationHalt_moves (c : StationCfg) (addr : Nat) (s : State) :
    Moves 0x628022 s (stationHalt c addr s) := by
  unfold stationHalt
  repeat' first
    | with_reducible exact moves_refl
    | decide
    | with_reducible apply moves_step (setF_moves ..)
    | with_reducible apply moves_step (setStation_moves ..)
    | with_reducible apply moves_step (updStation_moves ..)
    | with_reducible apply moves_step (emit_moves ..)
    | with_reducible apply moves_step (discardOutputs_moves ..)
    | with_reducible apply moves_step (absentInputs_moves ..)
    | with_reducible refine moves_ite ?_ ?_

theorem haltStation_moves (n addr : Nat) (s : State) :
    Moves 0x628022 s (haltStation n addr s) := by
  unfold haltStation
  repeat' first
    | with_reducible exact moves_refl
    | decide
    | with_reducible apply moves_step (stationHalt_moves ..)
    | split

theorem stnFault_moves (s : State) :
    Moves 0x628022 s (stnFault s) := by
  unfold stnFault
  repeat' first
    | with_reducible assumption
    | with_reducible exact moves_refl
    | decide
    | with_reducible refine moves_foldl ?_ (fun _ _ _ => ?_)
    | with_reducible apply moves_step (stationLost_moves ..)
    | with_reducible refine moves_ite ?_ ?_

theorem stationMiss_moves (c : StationCfg) (s : State) :
    Moves 0x628022 s (stationMiss c s) := by
  unfold stationMiss
  repeat' first
    | with_reducible exact moves_refl
    | decide
    | with_reducible apply moves_step (updStation_moves ..)
    | with_reducible apply moves_step (stationLost_moves ..)
    | with_reducible refine moves_ite ?_ ?_
    | split

theorem stnFreeze_moves (s : State) :
    Moves 0x628022 s (stnFreeze s) := by
  unfold stnFreeze
  repeat' first
    | with_reducible assumption
    | with_reducible exact moves_refl
    | decide
    | with_reducible refine moves_foldl ?_ (fun _ _ _ => ?_)
    | with_reducible apply moves_step (stationMiss_moves ..)
    | with_reducible refine moves_ite ?_ ?_

theorem execStationAbsent_moves (n : Nat) (s : State) :
    ResultMoves 0x628022 s (execStationAbsent n s) := by
  unfold execStationAbsent
  repeat' first
    | with_reducible exact moves_refl
    | decide
    | with_reducible apply moves_step (stationLost_moves ..)
    | with_reducible refine resultMoves_next ?_
    | split

theorem loseLink_moves (x : Nat) (s : State) :
    Moves 0x628022 s (loseLink x s) := by
  unfold loseLink
  repeat' first
    | with_reducible assumption
    | with_reducible exact moves_refl
    | decide
    | with_reducible refine moves_foldl ?_ (fun _ _ _ => ?_)
    | with_reducible apply moves_step (changeLink_moves ..)
    | with_reducible apply moves_step (stationLost_moves ..)
    | with_reducible refine moves_ite ?_ ?_

theorem execLinkDown_moves (x : Nat) (s : State) :
    ResultMoves 0x628022 s (execLinkDown x s) := by
  unfold execLinkDown
  repeat' first
    | with_reducible exact moves_refl
    | decide
    | with_reducible apply moves_step (loseLink_moves ..)
    | with_reducible refine moves_ite ?_ ?_
    | with_reducible refine resultMoves_next ?_

theorem execSfpMismatch_moves (x code : Nat) (s : State) :
    ResultMoves 0x628022 s (execSfpMismatch x code s) := by
  unfold execSfpMismatch
  repeat' first
    | with_reducible exact moves_refl
    | decide
    | with_reducible apply moves_step (setF_moves ..)
    | with_reducible apply moves_step (loseLink_moves ..)
    | with_reducible apply moves_step (emit_moves ..)
    | with_reducible refine moves_ite ?_ ?_
    | with_reducible refine resultMoves_next ?_

theorem execStationSummary_moves (n : Nat) (s : State) :
    ResultMoves 0x600002 s (execStationSummary n s) := by
  unfold execStationSummary
  repeat' first
    | with_reducible exact moves_refl
    | decide
    | with_reducible apply moves_step (stageEntry_moves ..)
    | with_reducible refine moves_ite ?_ ?_
    | with_reducible refine resultMoves_next ?_

theorem applyEntry_moves (c : StationCfg) (cls stamp : Nat) (e : SlotEntry) (s : State) :
    Moves 0x200022 s (applyEntry c cls stamp e s) := by
  unfold applyEntry
  repeat' first
    | with_reducible exact moves_refl
    | decide
    | with_reducible apply moves_step (frontFault_moves ..)
    | with_reducible apply moves_step (sampleIn_moves ..)
    | with_reducible refine moves_ite ?_ ?_
    | split

theorem applyInput_moves (c : StationCfg) (f : InputFrame) (body : List Nat) (s : State) :
    Moves 0x628022 s (applyInput c f body s) := by
  unfold applyInput
  repeat' first
    | with_reducible assumption
    | with_reducible exact moves_refl
    | decide
    | with_reducible refine moves_foldl ?_ (fun _ _ _ => ?_)
    | with_reducible apply moves_step (setF_moves ..)
    | with_reducible apply moves_step (updStation_moves ..)
    | with_reducible apply moves_step (bumpF_moves ..)
    | with_reducible apply moves_step (applyEntry_moves ..)
    | with_reducible apply moves_step (stationLost_moves ..)
    | with_reducible apply moves_step (emit_moves ..)
    | with_reducible apply moves_step (setStation_moves ..)
    | with_reducible refine moves_ite ?_ ?_
    | fail_if_no_progress
        (with_reducible apply moves_frame)
        all_goals try first | with_reducible exact rfl | exact moves_absurd rfl | with_reducible exact fun _ => rfl

theorem dropOverload_moves (s : State) :
    Moves 0x220002 s (dropOverload s) := by
  unfold dropOverload
  repeat' first
    | with_reducible exact moves_refl
    | decide
    | with_reducible apply moves_step (setF_moves ..)
    | with_reducible apply moves_step (emit_moves ..)
    | with_reducible apply moves_step (bumpF_moves ..)
    | fail_if_no_progress
        (with_reducible apply moves_frame)
        all_goals try first | with_reducible exact rfl | exact moves_absurd rfl | with_reducible exact fun _ => rfl

theorem receiveInput_moves (f : InputFrame) (s : State) :
    Moves 0x628022 s (receiveInput f s) := by
  unfold receiveInput
  repeat' first
    | with_reducible exact moves_refl
    | decide
    | with_reducible apply moves_step (bumpF_moves ..)
    | with_reducible apply moves_step (stationHalt_moves ..)
    | with_reducible apply moves_step (noteUe_moves ..)
    | with_reducible apply moves_step (emit_moves ..)
    | with_reducible apply moves_step (updStation_moves ..)
    | with_reducible apply moves_step (dropOverload_moves ..)
    | with_reducible apply moves_step (applyInput_moves ..)
    | split
    | (dsimp only; split)

theorem execInputFrame_moves (f : InputFrame) (s : State) :
    ResultMoves 0x628022 s (execInputFrame f s) := by
  unfold execInputFrame
  repeat' first
    | with_reducible exact moves_refl
    | decide
    | with_reducible apply moves_step (receiveInput_moves ..)
    | with_reducible refine moves_ite ?_ ?_
    | with_reducible refine resultMoves_next ?_

theorem stnGoLive_moves (draw : Bool) (s : State) :
    Moves 0x4220002 s (stnGoLive draw s) := by
  unfold stnGoLive
  repeat' first
    | with_reducible assumption
    | with_reducible exact moves_refl
    | decide
    | with_reducible refine moves_foldl ?_ (fun _ _ _ => ?_)
    | with_reducible apply moves_step (setF_moves ..)
    | with_reducible apply moves_step (drawFree_moves ..)
    | with_reducible apply moves_step (updStation_moves ..)
    | with_reducible apply moves_step (emit_moves ..)
    | with_reducible refine moves_ite ?_ ?_
    | fail_if_no_progress
        (with_reducible apply moves_frame)
        all_goals try first | with_reducible exact rfl | exact moves_absurd rfl | with_reducible exact fun _ => rfl

theorem stnTick_moves (s : State) :
    Moves 0x20010 s (stnTick s) := by
  unfold stnTick
  repeat' first
    | with_reducible exact moves_refl
    | with_reducible refine moves_ite ?_ ?_
    | fail_if_no_progress
        (with_reducible apply moves_frame)
        all_goals try first | with_reducible exact rfl | exact moves_absurd rfl | with_reducible exact fun _ => rfl

theorem buildOutput_moves (c : StationCfg) (k : Nat) (s : State) :
    Moves 0x628002 s (buildOutput c k s) := by
  unfold buildOutput
  repeat' first
    | with_reducible exact moves_refl
    | decide
    | with_reducible apply moves_step (discardOutputs_moves ..)
    | with_reducible apply moves_step (setStation_moves ..)
    | with_reducible apply moves_step (updStation_moves ..)
    | with_reducible apply moves_step (enqueue_moves ..)
    | with_reducible apply moves_step (enqueuePair_moves ..)
    | with_reducible apply moves_step (countDiscarded_moves ..)
    | with_reducible refine moves_ite ?_ ?_
    | split

theorem stnBuild_moves (s : State) :
    Moves 0x628002 s (stnBuild s) := by
  unfold stnBuild
  repeat' first
    | with_reducible assumption
    | with_reducible exact moves_refl
    | decide
    | with_reducible refine moves_foldl ?_ (fun _ _ _ => ?_)
    | with_reducible apply moves_step (buildOutput_moves ..)
    | with_reducible refine moves_ite ?_ ?_

theorem mirrorExchange_moves (n k : Nat) (s : State) :
    Moves 0x20000 s (mirrorExchange n k s) := by
  unfold mirrorExchange
  repeat' first
    | with_reducible exact moves_refl
    | decide
    | with_reducible apply moves_step (updStation_moves ..)

theorem loseFrames_moves (s : State) :
    Moves 0x8002 s (loseFrames s) := by
  unfold loseFrames
  repeat' first
    | with_reducible assumption
    | with_reducible exact moves_refl
    | decide
    | with_reducible refine moves_foldl ?_ (fun _ _ _ => ?_)
    | with_reducible apply moves_step (putQueue_moves ..)
    | with_reducible refine moves_ite ?_ ?_

theorem stnSwitchOver_moves (s : State) :
    Moves 0x20000 s (stnSwitchOver s) := by
  unfold stnSwitchOver
  repeat' first
    | with_reducible assumption
    | with_reducible exact moves_refl
    | decide
    | with_reducible refine moves_foldl ?_ (fun _ _ _ => ?_)
    | with_reducible apply moves_step (updStation_moves ..)

theorem stnStop_moves (s : State) :
    Moves 0x2 s (stnStop s) := by
  unfold stnStop
  repeat' first
    | with_reducible exact moves_refl
    | decide
    | with_reducible apply moves_step (setF_moves ..)

theorem updSlot_moves (k : Nat) (f : TakeSlot → TakeSlot) (s : State) : Moves 0x80 s (updSlot k f s) :=
  moves_slots (by simp [listUpd])

theorem showSlots_moves (s : State) :
    Moves 0x2 s (showSlots s) := by
  unfold showSlots
  repeat' first
    | with_reducible exact moves_refl
    | decide
    | with_reducible apply moves_step (setF_moves ..)

theorem setSlotState_moves (k st : Nat) (s : State) :
    Moves 0x2 s (setSlotState k st s) := by
  unfold setSlotState
  repeat' first
    | with_reducible exact moves_refl
    | decide
    | with_reducible apply moves_step (setF_moves ..)
    | with_reducible apply moves_step (showSlots_moves ..)

theorem freeSlot_moves (k : Nat) (s : State) :
    Moves 0x82 s (freeSlot k s) := by
  unfold freeSlot
  repeat' first
    | with_reducible exact moves_refl
    | decide
    | with_reducible apply moves_step (setF_moves ..)
    | with_reducible apply moves_step (setSlotState_moves ..)
    | with_reducible apply moves_step (updSlot_moves ..)

theorem cutTake_moves (k cause : Nat) (s : State) :
    Moves 0x200082 s (cutTake k cause s) := by
  unfold cutTake
  repeat' first
    | with_reducible exact moves_refl
    | decide
    | with_reducible apply moves_step (freeSlot_moves ..)
    | with_reducible apply moves_step (emit_moves ..)

theorem sessionTakes_moves (ses : Nat) (s : State) :
    Moves 0x200082 s (sessionTakes ses s) := by
  unfold sessionTakes
  repeat' first
    | with_reducible assumption
    | with_reducible exact moves_refl
    | decide
    | with_reducible refine moves_foldl ?_ (fun _ _ _ => ?_)
    | with_reducible apply moves_step (cutTake_moves ..)
    | with_reducible apply moves_step (updSlot_moves ..)
    | with_reducible refine moves_ite ?_ ?_

theorem expireTake_moves (k : Nat) (s : State) :
    Moves 0x200082 s (expireTake k s) := by
  unfold expireTake
  repeat' first
    | with_reducible exact moves_refl
    | decide
    | with_reducible apply moves_step (updSlot_moves ..)
    | with_reducible apply moves_step (freeSlot_moves ..)
    | with_reducible apply moves_step (emit_moves ..)
    | with_reducible refine moves_ite ?_ ?_

theorem expireTakes_moves (s : State) :
    Moves 0x200082 s (expireTakes s) := by
  unfold expireTakes
  repeat' first
    | with_reducible assumption
    | with_reducible exact moves_refl
    | decide
    | with_reducible refine moves_foldl ?_ (fun _ _ _ => ?_)
    | with_reducible apply moves_step (expireTake_moves ..)

theorem execTakeExpired_moves (k : Nat) (s : State) :
    ResultMoves 0x200082 s (execTakeExpired k s) := by
  unfold execTakeExpired
  repeat' first
    | with_reducible exact moves_refl
    | decide
    | with_reducible apply moves_step (expireTake_moves ..)
    | with_reducible refine moves_ite ?_ ?_
    | with_reducible refine resultMoves_next ?_

theorem putLogFill_moves (s : State) :
    Moves 0x2 s (putLogFill s) := by
  unfold putLogFill
  repeat' first
    | with_reducible exact moves_refl
    | decide
    | with_reducible apply moves_step (setF_moves ..)

theorem showLog_moves (s : State) :
    Moves 0x200002 s (showLog s) := by
  unfold showLog
  repeat' first
    | with_reducible exact moves_refl
    | decide
    | with_reducible apply moves_step (emit_moves ..)
    | with_reducible apply moves_step (putLogFill_moves ..)
    | with_reducible refine moves_ite ?_ ?_

theorem writeHeader_moves (hash : List Nat) (s : State) : Moves 0x80 s (writeHeader hash s) := by
  unfold writeHeader
  apply moves_frame moves_refl <;> first | exact rfl | simp [listUpd]; done | exact moves_absurd rfl

theorem appendLog_moves (e : LogEntry) (s : State) :
    Moves 0x20200082 s (appendLog e s) := by
  unfold appendLog
  repeat' first
    | with_reducible exact moves_refl
    | decide
    | with_reducible apply moves_step (showLog_moves ..)
    | fail_if_no_progress
        (with_reducible apply moves_frame)
        all_goals try first | with_reducible exact rfl | exact moves_absurd rfl | with_reducible exact fun _ => rfl

theorem resetLog_moves (hash : List Nat) (s : State) :
    Moves 0x20200082 s (resetLog hash s) := by
  unfold resetLog
  repeat' first
    | with_reducible exact moves_refl
    | decide
    | with_reducible apply moves_step (writeHeader_moves ..)
    | with_reducible apply moves_step (showLog_moves ..)
    | fail_if_no_progress
        (with_reducible apply moves_frame)
        all_goals try first | with_reducible exact rfl | exact moves_absurd rfl | with_reducible exact fun _ => rfl

theorem cmdOpen_moves (c : Caller) (life : Nat) (s : State) :
    Moves 0xa00082 s (cmdOpen c life s).1 := by
  unfold cmdOpen
  repeat' first
    | with_reducible assumption
    | with_reducible exact moves_refl
    | decide
    | with_reducible apply moves_step (setF_moves ..)
    | with_reducible apply moves_step (updSlot_moves ..)
    | with_reducible apply moves_step (emit_moves ..)
    | with_reducible apply moves_step (setSlotState_moves ..)
    | with_reducible refine bodyMoves_ok ?_
    | with_reducible exact bodyMoves_error _
    | with_reducible refine runCommand_moves _ _ _ _ _ _ _ _ rfl ?_ (fun _ _ => ?_)
    | split

theorem execOpen_moves (c : Caller) (a0 : Nat) (s : State) :
    ResultMoves 0xa00082 s (execOpen c a0 s) := by
  unfold execOpen
  repeat' first
    | with_reducible exact moves_refl
    | decide
    | with_reducible apply moves_step (cmdOpen_moves ..)
    | with_reducible refine resultMoves_next ?_

theorem cmdStage_moves (c : Caller) (h id : Nat) (v : Word) (s : State) :
    Moves 0xa00082 s (cmdStage c h id v s).1 := by
  unfold cmdStage
  repeat' first
    | with_reducible assumption
    | with_reducible exact moves_refl
    | decide
    | with_reducible apply moves_step (setF_moves ..)
    | with_reducible apply moves_step (updSlot_moves ..)
    | with_reducible refine bodyMoves_ok ?_
    | with_reducible exact bodyMoves_error _
    | with_reducible refine runCommand_moves _ _ _ _ _ _ _ _ rfl ?_ (fun _ _ => ?_)
    | split
    | (dsimp only; split)

theorem execStage_moves (c : Caller) (a0 a1 : Nat) (a2 : Word) (s : State) :
    ResultMoves 0xa00082 s (execStage c a0 a1 a2 s) := by
  unfold execStage
  repeat' first
    | with_reducible exact moves_refl
    | decide
    | with_reducible apply moves_step (cmdStage_moves ..)
    | with_reducible refine resultMoves_next ?_

theorem cmdCommit_moves (c : Caller) (h : Nat) (s : State) :
    Moves 0xa00082 s (cmdCommit c h s).1 := by
  unfold cmdCommit
  repeat' first
    | with_reducible assumption
    | with_reducible exact moves_refl
    | decide
    | with_reducible apply moves_step (setF_moves ..)
    | with_reducible apply moves_step (updSlot_moves ..)
    | with_reducible apply moves_step (setSlotState_moves ..)
    | with_reducible refine bodyMoves_ok ?_
    | with_reducible exact bodyMoves_error _
    | with_reducible refine runCommand_moves _ _ _ _ _ _ _ _ rfl ?_ (fun _ _ => ?_)
    | fail_if_no_progress
        (with_reducible apply moves_frame)
        all_goals try first | with_reducible exact rfl | exact moves_absurd rfl | with_reducible exact fun _ => rfl
    | split
    | (dsimp only; split)

theorem execCommit_moves (c : Caller) (a0 : Nat) (s : State) :
    ResultMoves 0xa00082 s (execCommit c a0 s) := by
  unfold execCommit
  repeat' first
    | with_reducible exact moves_refl
    | decide
    | with_reducible apply moves_step (cmdCommit_moves ..)
    | with_reducible refine resultMoves_next ?_

theorem cmdCut_moves (c : Caller) (h : Nat) (s : State) :
    Moves 0xa00082 s (cmdCut c h s).1 := by
  unfold cmdCut
  repeat' first
    | with_reducible assumption
    | with_reducible exact moves_refl
    | decide
    | with_reducible apply moves_step (cutTake_moves ..)
    | with_reducible refine bodyMoves_ok ?_
    | with_reducible exact bodyMoves_error _
    | with_reducible refine runCommand_moves _ _ _ _ _ _ _ _ rfl ?_ (fun _ _ => ?_)
    | split

theorem execCut_moves (c : Caller) (a0 : Nat) (s : State) :
    ResultMoves 0xa00082 s (execCut c a0 s) := by
  unfold execCut
  repeat' first
    | with_reducible exact moves_refl
    | decide
    | with_reducible apply moves_step (cmdCut_moves ..)
    | with_reducible refine resultMoves_next ?_

theorem cmdReadTunable_moves (c : Caller) (a0 id : Nat) (s : State) :
    Moves 0xa00002 s (cmdReadTunable c a0 id s).1 := by
  unfold cmdReadTunable
  repeat' first
    | with_reducible assumption
    | with_reducible exact moves_refl
    | with_reducible refine bodyMoves_ok ?_
    | with_reducible exact bodyMoves_error _
    | with_reducible refine runCommand_moves _ _ _ _ _ _ _ _ rfl ?_ (fun _ _ => ?_)
    | split

theorem execReadTunable_moves (c : Caller) (a0 a1 : Nat) (s : State) :
    ResultMoves 0xa00002 s (execReadTunable c a0 a1 s) := by
  unfold execReadTunable
  repeat' first
    | with_reducible exact moves_refl
    | decide
    | with_reducible apply moves_step (cmdReadTunable_moves ..)
    | with_reducible refine resultMoves_next ?_

theorem setAhead_moves (a : Option WriteAhead) (s : State) :
    Moves 0x80 s (setAhead a s) := by
  unfold setAhead
  repeat' first
    | with_reducible exact moves_refl
    | fail_if_no_progress
        (with_reducible apply moves_frame)
        all_goals try first | with_reducible exact rfl | exact moves_absurd rfl | with_reducible exact fun _ => rfl

theorem execWriteAheadTurn_moves (s : State) :
    ResultMoves 0x80 s (execWriteAheadTurn s) := by
  unfold execWriteAheadTurn
  repeat' first
    | with_reducible exact moves_refl
    | with_reducible refine resultMoves_next ?_
    | fail_if_no_progress
        (with_reducible apply moves_frame)
        all_goals try first | with_reducible exact rfl | exact moves_absurd rfl | with_reducible exact fun _ => rfl
    | split

theorem startMark_moves (durable : Bool) (s : State) :
    Moves 0x80 s (startMark durable s) := by
  unfold startMark
  repeat' first
    | with_reducible exact moves_refl
    | decide
    | with_reducible apply moves_step (setAhead_moves ..)
    | split

theorem execTakeBodyWritten_moves (s : State) :
    ResultMoves 0x80 s (execTakeBodyWritten s) := by
  unfold execTakeBodyWritten
  repeat' first
    | with_reducible exact moves_refl
    | decide
    | with_reducible apply moves_step (setAhead_moves ..)
    | with_reducible refine resultMoves_next ?_
    | split

theorem execTakeCommitted_moves (s : State) :
    ResultMoves 0x20600082 s (execTakeCommitted s) := by
  unfold execTakeCommitted
  repeat' first
    | with_reducible exact moves_refl
    | decide
    | with_reducible apply moves_step (setF_moves ..)
    | with_reducible apply moves_step (appendLog_moves ..)
    | with_reducible apply moves_step (setAhead_moves ..)
    | with_reducible apply moves_step (updSlot_moves ..)
    | with_reducible apply moves_step (setSlotState_moves ..)
    | with_reducible apply moves_step (commandDone_moves ..)
    | with_reducible apply moves_step (emit_moves ..)
    | with_reducible refine resultMoves_next ?_
    | split

theorem execTakeVoided_moves (readBack : Bool) (s : State) :
    ResultMoves 0x20600082 s (execTakeVoided readBack s) := by
  unfold execTakeVoided
  repeat' first
    | with_reducible exact moves_refl
    | decide
    | with_reducible apply moves_step (setF_moves ..)
    | with_reducible apply moves_step (appendLog_moves ..)
    | with_reducible apply moves_step (setAhead_moves ..)
    | with_reducible apply moves_step (freeSlot_moves ..)
    | with_reducible apply moves_step (commandDone_moves ..)
    | with_reducible apply moves_step (emit_moves ..)
    | with_reducible refine moves_ite ?_ ?_
    | with_reducible refine resultMoves_next ?_
    | fail_if_no_progress
        (with_reducible apply moves_frame)
        all_goals try first | with_reducible exact rfl | exact moves_absurd rfl | with_reducible exact fun _ => rfl
    | split

theorem execSpliceWriteFailed_moves (s : State) :
    ResultMoves 0x600082 s (execSpliceWriteFailed s) := by
  unfold execSpliceWriteFailed
  repeat' first
    | with_reducible exact moves_refl
    | decide
    | with_reducible apply moves_step (setHealth_moves ..)
    | with_reducible apply moves_step (emit_moves ..)
    | with_reducible apply moves_step (setAhead_moves ..)
    | with_reducible apply moves_step (showLog_moves ..)
    | with_reducible refine resultMoves_next ?_
    | fail_if_no_progress
        (with_reducible apply moves_frame)
        all_goals try first | with_reducible exact rfl | exact moves_absurd rfl | with_reducible exact fun _ => rfl
    | split

theorem takeApplied_moves (id n : Nat) (s : State) :
    Moves 0x200002 s (takeApplied id n s) := by
  unfold takeApplied
  repeat' first
    | with_reducible exact moves_refl
    | decide
    | with_reducible apply moves_step (setF_moves ..)
    | with_reducible apply moves_step (emit_moves ..)

theorem applyDueTake_moves (stamp : Nat) (s : State) :
    Moves 0x2000a2 s (applyDueTake stamp s).1 := by
  unfold applyDueTake
  repeat' first
    | with_reducible exact moves_refl
    | decide
    | with_reducible apply moves_step (takeApplied_moves ..)
    | with_reducible apply moves_step (freeSlot_moves ..)
    | with_reducible apply moves_step (applyWrites_moves ..)
    | fail_if_no_progress
        (with_reducible apply moves_frame)
        all_goals try first | with_reducible exact rfl | exact moves_absurd rfl | with_reducible exact fun _ => rfl
    | split

theorem abandonAhead_moves (s : State) :
    Moves 0x20200082 s (abandonAhead s) := by
  unfold abandonAhead
  repeat' first
    | with_reducible exact moves_refl
    | decide
    | with_reducible apply moves_step (setAhead_moves ..)
    | with_reducible apply moves_step (appendLog_moves ..)
    | split

theorem takesLeaveLive_moves (s0 : State) :
    Moves 0x20200082 s0 (takesLeaveLive s0) := by
  unfold takesLeaveLive
  repeat' first
    | with_reducible assumption
    | with_reducible exact moves_refl
    | decide
    | with_reducible refine moves_foldl ?_ (fun _ _ _ => ?_)
    | with_reducible apply moves_step (abandonAhead_moves ..)
    | with_reducible apply moves_step (cutTake_moves ..)
    | with_reducible apply moves_step (freeSlot_moves ..)
    | with_reducible refine moves_ite ?_ ?_

theorem mirroredEntryDurable_moves (ok : Bool) (s : State) :
    Moves 0x20600082 s (mirroredEntryDurable ok s).1 := by
  unfold mirroredEntryDurable
  repeat' first
    | with_reducible exact moves_refl
    | decide
    | with_reducible apply moves_step (appendLog_moves ..)
    | with_reducible apply moves_step (setHealth_moves ..)
    | fail_if_no_progress
        (with_reducible apply moves_frame)
        all_goals try first | with_reducible exact rfl | exact moves_absurd rfl | with_reducible exact fun _ => rfl
    | split

end Sys2Proof.Machine
end

