-- ==== Sys2Proof/Laws/MovesMirror.lean ====
section
/-! SUPPORT. Which parts of the state the operations of SPOT, SEC and the mirrored values change, and that they keep
its form. -/

namespace Sys2Proof.Machine

open Sys2Proof

theorem updSpot_moves (f : SpotPart → SpotPart) (s : State) :
    Moves 0x80000 s (updSpot f s) := by
  unfold updSpot
  repeat' first
    | with_reducible exact moves_refl
    | fail_if_no_progress
        (with_reducible apply moves_frame)
        all_goals try first | with_reducible exact rfl | exact moves_absurd rfl | with_reducible exact fun _ => rfl

theorem adoptLoop_moves (r : LoopRec) (s : State) :
    Moves 0x102 s (adoptLoop r s) := by
  unfold adoptLoop
  repeat' first
    | with_reducible exact moves_refl
    | decide
    | with_reducible apply moves_step (putLoop_moves ..)
    | split

theorem compareLoop_moves (r : LoopRec) (s : State) :
    Moves 0x200102 s (compareLoop r s).1 := by
  unfold compareLoop
  repeat' first
    | with_reducible exact moves_refl
    | decide
    | with_reducible apply moves_step (adoptLoop_moves ..)
    | with_reducible apply moves_step (emit_moves ..)
    | with_reducible apply moves_step (bumpF_moves ..)
    | (dsimp only; split)

theorem adoptPoint_moves (u i stamp : Nat) (v : Word) (s : State) : Moves 0x200022 s (adoptPoint u i stamp v s) :=
  moves_step (moves_images fun w => ⟨w.live, w.snap, tableWf_put _ _ _ _ w.window, w.cond⟩) rfl
    (moves_step (sampleIn_moves u i v stamp s) rfl moves_refl)

theorem adoptItem_moves (stamp : Nat) (i : CarItem) (s : State) :
    Moves 0x200222 s (adoptItem stamp i s) := by
  unfold adoptItem
  repeat' first
    | with_reducible exact moves_refl
    | decide
    | with_reducible apply moves_step (adoptPoint_moves ..)
    | fail_if_no_progress
        (with_reducible apply moves_frame)
        all_goals try first | with_reducible exact rfl | exact moves_absurd rfl | with_reducible exact fun _ => rfl
    | split

theorem undoItem_moves (i : CarItem) (s : State) : Moves 0x200222 s (undoItem i s) :=
  moves_ite (moves_step (moves_images fun w => ⟨tableWf_put _ _ _ _ w.live, w.snap, tableWf_put _ _ _ _ w.window, w.cond⟩) rfl
    moves_refl) (moves_step (adoptItem_moves ..) rfl moves_refl)

theorem takeScan_moves (task : Nat) (lead own : List CarItem) (s : State) :
    Moves 0x200222 s (takeScan task lead own s) := by
  unfold takeScan
  repeat' first
    | with_reducible assumption
    | with_reducible exact moves_refl
    | decide
    | with_reducible refine moves_foldl ?_ (fun _ _ _ => ?_)
    | with_reducible apply moves_step (adoptItem_moves ..)
    | with_reducible apply moves_step (undoItem_moves ..)

theorem compareTask_moves (task : Nat) (lead own : Option (List CarItem)) (s : State) :
    Moves 0x200222 s (compareTask task lead own s).1 := by
  unfold compareTask
  repeat' first
    | with_reducible exact moves_refl
    | decide
    | with_reducible apply moves_step (takeScan_moves ..)
    | with_reducible apply moves_step (emit_moves ..)
    | with_reducible apply moves_step (bumpF_moves ..)
    | (dsimp only; split)

theorem compareScans_moves (l : List CarScan) (s : State) :
    Moves 0x200222 s (compareScans l s).1 := by
  unfold compareScans
  repeat' first
    | with_reducible assumption
    | with_reducible exact moves_refl
    | decide
    | with_reducible refine moves_foldl_fst ?_ (fun _ _ _ => ?_)
    | with_reducible apply moves_step (compareTask_moves ..)

theorem adoptKeyed_moves (i : CarItem) (s : State) :
    Moves 0x200222 s (adoptKeyed i s) := by
  unfold adoptKeyed
  repeat' first
    | with_reducible exact moves_refl
    | decide
    | with_reducible apply moves_step (adoptItem_moves ..)
    | with_reducible refine moves_ite ?_ ?_
    | fail_if_no_progress
        (with_reducible apply moves_frame)
        all_goals try first | with_reducible exact rfl | exact moves_absurd rfl | with_reducible exact fun _ => rfl
    | split

theorem sendDelta_moves (handover : Bool) (s : State) :
    Moves 0x80002 s (sendDelta handover s) := by
  unfold sendDelta
  repeat' first
    | with_reducible exact moves_refl
    | decide
    | with_reducible apply moves_step (setF_moves ..)
    | with_reducible apply moves_step (updSpot_moves ..)
    | with_reducible refine moves_ite ?_ ?_

theorem adoptBulk_moves (b : BulkItem) (s : State) :
    Moves 0x202a0ba2 s (adoptBulk b s) := by
  unfold adoptBulk
  repeat' first
    | with_reducible assumption
    | with_reducible exact moves_refl
    | decide
    | with_reducible refine moves_foldl ?_ (fun _ _ _ => ?_)
    | with_reducible apply moves_step (adoptLoop_moves ..)
    | with_reducible apply moves_step (putLoop_moves ..)
    | with_reducible apply moves_step (adoptKeyed_moves ..)
    | with_reducible apply moves_step (adoptItem_moves ..)
    | with_reducible apply moves_step (mirrorExchange_moves ..)
    | with_reducible apply moves_step (updSpot_moves ..)
    | with_reducible apply moves_step (appendLog_moves ..)
    | with_reducible apply moves_step (applyWrites_moves ..)
    | fail_if_no_progress
        (with_reducible apply moves_frame)
        all_goals try first | with_reducible exact rfl | exact moves_absurd rfl | with_reducible exact fun _ => rfl
    | split

theorem mirrorTake_moves (id : Nat) (s : State) : Moves 0x2000a2 s (mirrorTake id s) := by
  unfold mirrorTake
  split
  · exact moves_refl
  · refine moves_foldl (moves_step (takeApplied_moves ..) rfl (moves_step (applyWrites_moves ..) rfl ?_)) (fun _ _ ht =>
      moves_step (moves_images fun w => ⟨w.live, w.snap, tableWf_put _ _ _ _ w.window, w.cond⟩) rfl ht)
    apply moves_frame moves_refl <;> first | exact rfl | exact moves_absurd rfl | exact fun _ => rfl

theorem mirrorCommand_moves (c : Nat × Nat × Nat × Nat × Nat) (s : State) :
    Moves 0x600102 s (mirrorCommand c s) := by
  unfold mirrorCommand
  repeat' first
    | with_reducible exact moves_refl
    | decide
    | with_reducible apply moves_step (trpEffect_moves ..)
    | with_reducible refine moves_ite ?_ ?_

theorem countMismatches_moves (n : Nat) (s : State) :
    Moves 0x80002 s (countMismatches n s) := by
  unfold countMismatches
  repeat' first
    | with_reducible exact moves_refl
    | decide
    | with_reducible apply moves_step (setF_moves ..)
    | with_reducible apply moves_step (updSpot_moves ..)

theorem setState_moves (d : DevState) (s : State) :
    Moves 0x8600006 s (setState d s) := by
  unfold setState
  repeat' first
    | with_reducible exact moves_refl
    | decide
    | with_reducible apply moves_step (setF_moves ..)
    | with_reducible apply moves_step (raiseCause_moves ..)
    | with_reducible apply moves_step (emit_moves ..)
    | with_reducible refine moves_ite ?_ ?_
    | fail_if_no_progress
        (with_reducible apply moves_frame)
        all_goals try first | with_reducible exact rfl | exact moves_absurd rfl | with_reducible exact fun _ => rfl

theorem setRole_moves (r : Nat) (s : State) :
    Moves 0x400002 s (setRole r s) := by
  unfold setRole
  repeat' first
    | with_reducible exact moves_refl
    | decide
    | with_reducible apply moves_step (setF_moves ..)
    | with_reducible apply moves_step (raiseCause_moves ..)
    | with_reducible refine moves_ite ?_ ?_

theorem releaseAir_moves (s : State) :
    Moves 0x2 s (releaseAir s) := by
  unfold releaseAir
  repeat' first
    | with_reducible exact moves_refl
    | decide
    | with_reducible apply moves_step (setF_moves ..)

theorem raiseAir_moves (s : State) :
    Moves 0x2 s (raiseAir s) := by
  unfold raiseAir
  repeat' first
    | with_reducible exact moves_refl
    | decide
    | with_reducible apply moves_step (setF_moves ..)
    | with_reducible refine moves_ite ?_ ?_

theorem replayPoints_moves (stamp : Nat) (s : State) :
    Moves 0x20 s (replayPoints stamp s) := by
  unfold replayPoints
  repeat' first
    | with_reducible assumption
    | with_reducible exact moves_refl
    | decide
    | with_reducible refine moves_foldl ?_ (fun _ _ _ => ?_)
    | with_reducible apply moves_step (takeWritePoint_moves ..)
    | split

theorem startTicks_moves (number startNs : Nat) (s : State) :
    Moves 0x10000032 s (startTicks number startNs s) := by
  unfold startTicks
  repeat' first
    | with_reducible exact moves_refl
    | decide
    | with_reducible apply moves_step (setF_moves ..)
    | with_reducible apply moves_step (replayPoints_moves ..)
    | with_reducible apply moves_step (initImage_moves ..)
    | fail_if_no_progress
        (with_reducible apply moves_frame)
        all_goals try first | with_reducible exact rfl | exact moves_absurd rfl | with_reducible exact fun _ => rfl

theorem startUnits_moves (standIn : Bool) (s : State) :
    Moves 0x426ff62 s (startUnits standIn s) := by
  unfold startUnits
  repeat' first
    | with_reducible exact moves_refl
    | decide
    | with_reducible apply moves_step (setF_moves ..)
    | with_reducible apply moves_step (pulseGoLive_moves ..)
    | with_reducible apply moves_step (trpGoLive_moves ..)
    | with_reducible apply moves_step (carGoLive_moves ..)
    | with_reducible apply moves_step (netGoLive_moves ..)
    | with_reducible apply moves_step (jugReset_moves ..)
    | with_reducible apply moves_step (stnGoLive_moves ..)
    | with_reducible apply moves_step (canGoLive_moves ..)
    | with_reducible apply moves_step (batGoLive_moves ..)
    | with_reducible apply moves_step (botGoLive_moves ..)
    | with_reducible apply moves_step (boeGoLive_moves ..)
    | with_reducible refine moves_ite ?_ ?_

theorem enterLive_moves (r number startNs : Nat) (s : State) :
    Moves 0x1c66ff76 s (enterLive r number startNs s) := by
  unfold enterLive
  repeat' first
    | with_reducible exact moves_refl
    | decide
    | with_reducible apply moves_step (startUnits_moves ..)
    | with_reducible apply moves_step (startTicks_moves ..)
    | with_reducible apply moves_step (setRole_moves ..)
    | with_reducible apply moves_step (setState_moves ..)
    | with_reducible apply moves_step (triggerFlush_moves ..)
    | with_reducible apply moves_step (emit_moves ..)
    | with_reducible apply moves_step (raiseAir_moves ..)
    | with_reducible refine moves_ite ?_ ?_

theorem clearFaulted_moves (s : State) :
    Moves 0x400002 s (clearFaulted s) := by
  unfold clearFaulted
  repeat' first
    | with_reducible assumption
    | with_reducible exact moves_refl
    | decide
    | with_reducible refine moves_foldl ?_ (fun _ _ _ => ?_)
    | with_reducible apply moves_step (setF_moves ..)
    | with_reducible apply moves_step (setHealth_moves ..)
    | with_reducible apply moves_step (setBit_moves ..)
    | with_reducible refine moves_ite ?_ ?_

theorem supplyHealth_moves (s : State) :
    Moves 0x400002 s (supplyHealth s) := by
  unfold supplyHealth
  repeat' first
    | with_reducible exact moves_refl
    | decide
    | with_reducible apply moves_step (setHealth_moves ..)

theorem leaveLive_moves (s : State) :
    Moves 0x246d1b92 s (leaveLive s) := by
  unfold leaveLive
  repeat' first
    | with_reducible exact moves_refl
    | decide
    | with_reducible apply moves_step (setF_moves ..)
    | with_reducible apply moves_step (takesLeaveLive_moves ..)
    | with_reducible apply moves_step (botStop_moves ..)
    | with_reducible apply moves_step (boeStop_moves ..)
    | with_reducible apply moves_step (lrpOff_moves ..)
    | with_reducible apply moves_step (canStop_moves ..)
    | with_reducible apply moves_step (stnStop_moves ..)
    | with_reducible apply moves_step (dropRound_moves ..)
    | with_reducible apply moves_step (carStop_moves ..)
    | with_reducible apply moves_step (trpStop_moves ..)
    | with_reducible apply moves_step (supplyHealth_moves ..)
    | with_reducible apply moves_step (setRole_moves ..)
    | with_reducible apply moves_step (setHealth_moves ..)
    | with_reducible apply moves_step (clearFaulted_moves ..)
    | with_reducible apply moves_step (releaseAir_moves ..)
    | with_reducible refine moves_ite ?_ ?_
    | fail_if_no_progress
        (with_reducible apply moves_frame)
        all_goals try first | with_reducible exact rfl | exact moves_absurd rfl | with_reducible exact fun _ => rfl

theorem enterFaultSafe_moves (s : State) :
    Moves 0x2c6d1b96 s (enterFaultSafe s) := by
  unfold enterFaultSafe
  repeat' first
    | with_reducible exact moves_refl
    | decide
    | with_reducible apply moves_step (triggerFlush_moves ..)
    | with_reducible apply moves_step (setState_moves ..)
    | with_reducible apply moves_step (leaveLive_moves ..)
    | with_reducible refine moves_ite ?_ ?_

theorem takesStandDown_moves (s : State) :
    Moves 0x20200082 s (takesStandDown s) := by
  unfold takesStandDown
  repeat' first
    | with_reducible assumption
    | with_reducible exact moves_refl
    | decide
    | with_reducible refine moves_foldl ?_ (fun _ _ _ => ?_)
    | with_reducible apply moves_step (takesLeaveLive_moves ..)
    | with_reducible apply moves_step (freeSlot_moves ..)
    | fail_if_no_progress
        (with_reducible apply moves_frame)
        all_goals try first | with_reducible exact rfl | exact moves_absurd rfl | with_reducible exact fun _ => rfl

theorem dropShadowWork_moves (s : State) :
    Moves 0xb12 s (dropShadowWork s) := by
  unfold dropShadowWork
  repeat' first
    | with_reducible exact moves_refl
    | decide
    | with_reducible apply moves_step (dropRound_moves ..)
    | fail_if_no_progress
        (with_reducible apply moves_frame)
        all_goals try first | with_reducible exact rfl | exact moves_absurd rfl | with_reducible exact fun _ => rfl

theorem startJoin_moves (s0 : State) :
    Moves 0x80b12 s0 (startJoin s0) := by
  unfold startJoin
  repeat' first
    | with_reducible exact moves_refl
    | decide
    | with_reducible apply moves_step (dropShadowWork_moves ..)
    | with_reducible apply moves_step (bumpF_moves ..)
    | with_reducible apply moves_step (countMismatches_moves ..)
    | with_reducible apply moves_step (updSpot_moves ..)
    | with_reducible refine moves_ite ?_ ?_

theorem standDown_moves (cause : Nat) (s : State) :
    Moves 0x206c8b92 s (standDown cause s) := by
  unfold standDown
  repeat' first
    | with_reducible assumption
    | with_reducible exact moves_refl
    | decide
    | with_reducible refine moves_foldl ?_ (fun _ _ _ => ?_)
    | with_reducible apply moves_step (setF_moves ..)
    | with_reducible apply moves_step (triggerFlush_moves ..)
    | with_reducible apply moves_step (emit_moves ..)
    | with_reducible apply moves_step (loseFrames_moves ..)
    | with_reducible apply moves_step (releaseAir_moves ..)
    | with_reducible apply moves_step (takesStandDown_moves ..)
    | with_reducible apply moves_step (setRole_moves ..)
    | with_reducible apply moves_step (dropCaptures_moves ..)
    | with_reducible apply moves_step (updPort_moves ..)
    | with_reducible apply moves_step (startJoin_moves ..)
    | with_reducible apply moves_step (updSpot_moves ..)

theorem latchedFailure_moves (s : State) :
    Moves 0x206c8b92 s (latchedFailure s) := by
  unfold latchedFailure
  repeat' first
    | with_reducible exact moves_refl
    | decide
    | with_reducible apply moves_step (standDown_moves ..)
    | with_reducible refine moves_ite ?_ ?_

theorem confirmGrant_moves (level : Bool) (side : Nat) (peer : Bool) (s : State) :
    Moves 0x206c8b92 s (confirmGrant level side peer s) := by
  unfold confirmGrant
  repeat' first
    | with_reducible exact moves_refl
    | decide
    | with_reducible apply moves_step (setF_moves ..)
    | with_reducible apply moves_step (bumpF_moves ..)
    | with_reducible apply moves_step (standDown_moves ..)
    | with_reducible apply moves_step (releaseAir_moves ..)
    | with_reducible refine moves_ite ?_ ?_

theorem execGrantConfirmed_moves (level : Bool) (side : Nat) (peer : Bool) (s : State) :
    ResultMoves 0x206c8b92 s (execGrantConfirmed level side peer s) := by
  unfold execGrantConfirmed
  repeat' first
    | with_reducible exact moves_refl
    | decide
    | with_reducible apply moves_step (confirmGrant_moves ..)
    | with_reducible refine moves_ite ?_ ?_
    | with_reducible refine resultMoves_next ?_

theorem execRingmasterLost_moves (s : State) :
    ResultMoves 0x206c8b92 s (execRingmasterLost s) := by
  unfold execRingmasterLost
  repeat' first
    | with_reducible exact moves_refl
    | decide
    | with_reducible apply moves_step (setF_moves ..)
    | with_reducible apply moves_step (latchedFailure_moves ..)
    | with_reducible apply moves_step (raiseCause_moves ..)
    | with_reducible apply moves_step (emit_moves ..)
    | with_reducible refine moves_ite ?_ ?_
    | with_reducible refine resultMoves_next ?_

theorem execRingmasterReturned_moves (level : Bool) (side : Nat) (peer : Bool) (s : State) :
    ResultMoves 0x206c8b92 s (execRingmasterReturned level side peer s) := by
  unfold execRingmasterReturned
  repeat' first
    | with_reducible exact moves_refl
    | decide
    | with_reducible apply moves_step (setF_moves ..)
    | with_reducible apply moves_step (raiseCause_moves ..)
    | with_reducible apply moves_step (emit_moves ..)
    | with_reducible apply moves_step (confirmGrant_moves ..)
    | with_reducible refine moves_ite ?_ ?_
    | with_reducible refine resultMoves_next ?_

theorem execOutputRelease_moves (s : State) :
    ResultMoves 0x42 s (execOutputRelease s) := by
  unfold execOutputRelease
  repeat' first
    | with_reducible exact moves_refl
    | decide
    | with_reducible apply moves_step (setF_moves ..)
    | with_reducible apply moves_step (dropOutputs_moves ..)
    | with_reducible refine moves_ite ?_ ?_
    | with_reducible refine resultMoves_next ?_

theorem execArmedBeat_moves (s : State) :
    ResultMoves 0x2 s (execArmedBeat s) := by
  unfold execArmedBeat
  repeat' first
    | with_reducible exact moves_refl
    | decide
    | with_reducible apply moves_step (setF_moves ..)
    | with_reducible refine moves_ite ?_ ?_
    | with_reducible refine resultMoves_next ?_

theorem showSides_moves (a b : SideInputs) (s : State) :
    Moves 0x2 s (showSides a b s) := by
  unfold showSides
  repeat' first
    | with_reducible exact moves_refl
    | decide
    | with_reducible apply moves_step (setF_moves ..)

theorem driveGrant_moves (g : Nat) (s : State) :
    Moves 0x2 s (driveGrant g s) := by
  unfold driveGrant
  repeat' first
    | with_reducible exact moves_refl
    | decide
    | with_reducible apply moves_step (setF_moves ..)

theorem grantSide_moves (g : Nat) (s : State) :
    Moves 0x80002 s (grantSide g s) := by
  unfold grantSide
  repeat' first
    | with_reducible exact moves_refl
    | decide
    | with_reducible apply moves_step (bumpF_moves ..)
    | with_reducible apply moves_step (driveGrant_moves ..)
    | with_reducible apply moves_step (updSpot_moves ..)

theorem execRingmasterStartGrant_moves (a b : SideInputs) (s : State) :
    ResultMoves 0x80002 s (execRingmasterStartGrant a b s) := by
  unfold execRingmasterStartGrant
  repeat' first
    | with_reducible exact moves_refl
    | decide
    | with_reducible apply moves_step (showSides_moves ..)
    | with_reducible apply moves_step (grantSide_moves ..)
    | with_reducible refine resultMoves_next ?_
    | split

theorem execGrantMoved_moves (a b : SideInputs) (s : State) :
    ResultMoves 0x280002 s (execGrantMoved a b s) := by
  unfold execGrantMoved
  repeat' first
    | with_reducible exact moves_refl
    | decide
    | with_reducible apply moves_step (updSpot_moves ..)
    | with_reducible apply moves_step (showSides_moves ..)
    | with_reducible apply moves_step (emit_moves ..)
    | with_reducible apply moves_step (driveGrant_moves ..)
    | with_reducible refine moves_ite ?_ ?_
    | with_reducible refine resultMoves_next ?_
    | (dsimp only; split)

theorem execGrantRaise_moves (s : State) :
    ResultMoves 0x80002 s (execGrantRaise s) := by
  unfold execGrantRaise
  repeat' first
    | with_reducible exact moves_refl
    | decide
    | with_reducible apply moves_step (grantSide_moves ..)
    | with_reducible refine resultMoves_next ?_
    | split

theorem outOfStep_moves (cause : Nat) (s : State) :
    Moves 0x280b12 s (outOfStep cause s) := by
  unfold outOfStep
  repeat' first
    | with_reducible exact moves_refl
    | decide
    | with_reducible apply moves_step (setF_moves ..)
    | with_reducible apply moves_step (startJoin_moves ..)
    | with_reducible apply moves_step (emit_moves ..)

theorem shadowDiverged_moves (plan : Bool) (s : State) :
    Moves 0x280b12 s (shadowDiverged plan s) := by
  unfold shadowDiverged
  repeat' first
    | with_reducible exact moves_refl
    | decide
    | with_reducible apply moves_step (setF_moves ..)
    | with_reducible apply moves_step (startJoin_moves ..)
    | with_reducible apply moves_step (emit_moves ..)

theorem execMirrorMiss_moves (s : State) :
    ResultMoves 0x280b12 s (execMirrorMiss s) := by
  unfold execMirrorMiss
  repeat' first
    | with_reducible exact moves_refl
    | decide
    | with_reducible apply moves_step (emit_moves ..)
    | with_reducible apply moves_step (bumpF_moves ..)
    | with_reducible apply moves_step (updSpot_moves ..)
    | with_reducible apply moves_step (outOfStep_moves ..)
    | with_reducible refine moves_ite ?_ ?_
    | with_reducible refine resultMoves_next ?_

theorem joinTakes_moves (next : Nat) (s : State) :
    Moves 0x202000a2 s (joinTakes next s) := by
  unfold joinTakes
  repeat' first
    | with_reducible assumption
    | with_reducible exact moves_refl
    | decide
    | with_reducible refine moves_foldl ?_ (fun _ _ _ => ?_)
    | with_reducible apply moves_step (applyWrites_moves ..)
    | with_reducible apply moves_step (showLog_moves ..)
    | fail_if_no_progress
        (with_reducible apply moves_frame)
        all_goals try first | with_reducible exact rfl | exact moves_absurd rfl | with_reducible exact fun _ => rfl

theorem joinDelta_moves (d : MirrorDelta) (s : State) :
    Moves 0x3c6efffe s (joinDelta d s) := by
  unfold joinDelta
  repeat' first
    | with_reducible exact moves_refl
    | decide
    | with_reducible apply moves_step (setF_moves ..)
    | with_reducible apply moves_step (enterLive_moves ..)
    | with_reducible apply moves_step (joinTakes_moves ..)
    | with_reducible apply moves_step (emit_moves ..)
    | with_reducible apply moves_step (updSpot_moves ..)
    | with_reducible refine moves_ite ?_ ?_
    | fail_if_no_progress
        (with_reducible apply moves_frame)
        all_goals try first | with_reducible exact rfl | exact moves_absurd rfl | with_reducible exact fun _ => rfl

theorem mirrorCounters_moves (d : MirrorDelta) (s : State) :
    Moves 0xa0082 s (mirrorCounters d s) := by
  unfold mirrorCounters
  repeat' first
    | with_reducible assumption
    | with_reducible exact moves_refl
    | decide
    | with_reducible refine moves_foldl ?_ (fun _ _ _ => ?_)
    | with_reducible apply moves_step (setF_moves ..)
    | with_reducible apply moves_step (updSpot_moves ..)
    | with_reducible apply moves_step (mirrorExchange_moves ..)
    | fail_if_no_progress
        (with_reducible apply moves_frame)
        all_goals try first | with_reducible exact rfl | exact moves_absurd rfl | with_reducible exact fun _ => rfl

theorem mirrorRound_moves (compare : Bool) (d : MirrorDelta) (s : State) :
    Moves 0x80000 s (mirrorRound compare d s).1 := by
  unfold mirrorRound
  repeat' first
    | with_reducible exact moves_refl
    | decide
    | with_reducible apply moves_step (updSpot_moves ..)
    | split

theorem mirrorResults_moves (compare : Bool) (d : MirrorDelta) (s : State) :
    Moves 0x600322 s (mirrorResults compare d s).1 := by
  unfold mirrorResults
  repeat' first
    | with_reducible assumption
    | with_reducible exact moves_refl
    | decide
    | with_reducible refine moves_foldl ?_ (fun _ _ _ => ?_)
    | with_reducible refine moves_foldl_fst ?_ (fun _ _ _ => ?_)
    | with_reducible apply moves_step (mirrorCommand_moves ..)
    | with_reducible apply moves_step (adoptKeyed_moves ..)
    | with_reducible apply moves_step (adoptItem_moves ..)
    | with_reducible apply moves_step (adoptLoop_moves ..)
    | with_reducible apply moves_step (compareLoop_moves ..)
    | with_reducible apply moves_step (compareScans_moves ..)
    | split
    | (dsimp only; split)

theorem checkShadowing_moves (s : State) :
    Moves 0x2 s (checkShadowing s) := by
  unfold checkShadowing
  repeat' first
    | with_reducible exact moves_refl
    | decide
    | with_reducible apply moves_step (setF_moves ..)
    | with_reducible refine moves_ite ?_ ?_

theorem mirrorBulk_moves (d : MirrorDelta) (s : State) :
    Moves 0x202a0ba2 s (mirrorBulk d s) := by
  unfold mirrorBulk
  repeat' first
    | with_reducible assumption
    | with_reducible exact moves_refl
    | decide
    | with_reducible refine moves_foldl ?_ (fun _ _ _ => ?_)
    | with_reducible apply moves_step (setF_moves ..)
    | with_reducible apply moves_step (adoptBulk_moves ..)
    | with_reducible apply moves_step (updSpot_moves ..)
    | with_reducible refine moves_ite ?_ ?_

theorem takeDelta_moves (d : MirrorDelta) (s : State) :
    Moves 0x206a0bb2 s (takeDelta d s) := by
  unfold takeDelta
  repeat' first
    | with_reducible assumption
    | with_reducible exact moves_refl
    | decide
    | with_reducible refine moves_foldl ?_ (fun _ _ _ => ?_)
    | with_reducible apply moves_step (mirrorBulk_moves ..)
    | with_reducible apply moves_step (mirrorSample_moves ..)
    | with_reducible apply moves_step (mirrorResults_moves ..)
    | with_reducible apply moves_step (mirrorRound_moves ..)
    | with_reducible apply moves_step (updSpot_moves ..)
    | with_reducible apply moves_step (mirrorTake_moves ..)
    | with_reducible apply moves_step (countMismatches_moves ..)
    | with_reducible apply moves_step (shadowDiverged_moves ..)
    | with_reducible refine moves_ite ?_ ?_
    | fail_if_no_progress
        (with_reducible apply moves_frame)
        all_goals try first | with_reducible exact rfl | exact moves_absurd rfl | with_reducible exact fun _ => rfl
    | split

theorem takePhase_moves (d : MirrorDelta) (s : State) :
    Moves 0x280b12 s (takePhase d s) := by
  unfold takePhase
  repeat' first
    | with_reducible exact moves_refl
    | decide
    | with_reducible apply moves_step (setF_moves ..)
    | with_reducible apply moves_step (outOfStep_moves ..)
    | with_reducible refine moves_ite ?_ ?_

theorem receiveDelta_moves (d : MirrorDelta) (s : State) :
    Moves 0x3c6efffe s (receiveDelta d s) := by
  unfold receiveDelta
  repeat' first
    | with_reducible exact moves_refl
    | decide
    | with_reducible apply moves_step (takeDelta_moves ..)
    | with_reducible apply moves_step (mirrorCounters_moves ..)
    | with_reducible apply moves_step (joinDelta_moves ..)
    | with_reducible apply moves_step (takePhase_moves ..)
    | with_reducible refine moves_ite ?_ ?_

theorem execMirrorDelta_moves (frames : List MirrorFrame) (rxNs : Nat) (s : State) :
    ResultMoves 0x3c6efffe s (execMirrorDelta frames rxNs s) := by
  unfold execMirrorDelta
  repeat' first
    | with_reducible exact moves_refl
    | decide
    | with_reducible apply moves_step (setF_moves ..)
    | with_reducible apply moves_step (bumpF_moves ..)
    | with_reducible apply moves_step (receiveDelta_moves ..)
    | with_reducible refine moves_ite ?_ ?_
    | with_reducible refine resultMoves_next ?_
    | split

theorem execReturnSend_moves (s0 : State) :
    ResultMoves 0x80018 s0 (execReturnSend s0) := by
  unfold execReturnSend
  repeat' first
    | with_reducible exact moves_refl
    | decide
    | with_reducible apply moves_step (elapseTo_moves ..)
    | with_reducible apply moves_step (updSpot_moves ..)
    | with_reducible refine moves_ite ?_ ?_
    | with_reducible refine resultMoves_next ?_

theorem execMirroredEntryDurable_moves (ok : Bool) (s : State) :
    ResultMoves 0x20680082 s (execMirroredEntryDurable ok s) := by
  unfold execMirroredEntryDurable
  repeat' first
    | with_reducible exact moves_refl
    | decide
    | with_reducible apply moves_step (mirroredEntryDurable_moves ..)
    | with_reducible apply moves_step (updSpot_moves ..)
    | with_reducible refine resultMoves_next ?_
    | with_reducible refine moves_fst (by assumption) ?_
    | split

theorem execJoinRequest_moves (j : JoinRequest) (s : State) :
    ResultMoves 0x80002 s (execJoinRequest j s) := by
  unfold execJoinRequest
  repeat' first
    | with_reducible exact moves_refl
    | decide
    | with_reducible apply moves_step (setF_moves ..)
    | with_reducible apply moves_step (bumpF_moves ..)
    | with_reducible apply moves_step (updSpot_moves ..)
    | with_reducible refine moves_ite ?_ ?_
    | with_reducible refine resultMoves_next ?_

theorem execReturnFrame_moves (f : ReturnFrame) (s : State) :
    ResultMoves 0x80082 s (execReturnFrame f s) := by
  unfold execReturnFrame
  repeat' first
    | with_reducible exact moves_refl
    | decide
    | with_reducible apply moves_step (setF_moves ..)
    | with_reducible apply moves_step (bumpF_moves ..)
    | with_reducible apply moves_step (updSpot_moves ..)
    | with_reducible apply moves_step (startMark_moves ..)
    | with_reducible refine resultMoves_next ?_
    | split

theorem execPeerLost_moves (s : State) :
    ResultMoves 0x280082 s (execPeerLost s) := by
  unfold execPeerLost
  repeat' first
    | with_reducible exact moves_refl
    | decide
    | with_reducible apply moves_step (setF_moves ..)
    | with_reducible apply moves_step (startMark_moves ..)
    | with_reducible apply moves_step (emit_moves ..)
    | with_reducible apply moves_step (updSpot_moves ..)
    | with_reducible refine resultMoves_next ?_
    | split

theorem switchCounters_moves (s : State) :
    Moves 0x620002 s (switchCounters s) := by
  unfold switchCounters
  repeat' first
    | with_reducible assumption
    | with_reducible exact moves_refl
    | decide
    | with_reducible refine moves_foldl ?_ (fun _ _ _ => ?_)
    | with_reducible apply moves_step (setF_moves ..)
    | with_reducible apply moves_step (numberRecord_moves ..)
    | with_reducible apply moves_step (stnSwitchOver_moves ..)

theorem switchLoops_moves (s : State) :
    Moves 0x400102 s (switchLoops s) := by
  unfold switchLoops
  repeat' first
    | with_reducible assumption
    | with_reducible exact moves_refl
    | decide
    | with_reducible refine moves_foldl ?_ (fun _ _ _ => ?_)
    | with_reducible apply moves_step (dropCaptures_moves ..)
    | with_reducible apply moves_step (putLoop_moves ..)

theorem exchangeLoops_moves (s : State) :
    Moves 0x102 s (exchangeLoops s) := by
  unfold exchangeLoops
  repeat' first
    | with_reducible assumption
    | with_reducible exact moves_refl
    | decide
    | with_reducible refine moves_foldl ?_ (fun _ _ _ => ?_)
    | with_reducible apply moves_step (putLoop_moves ..)
    | with_reducible apply moves_step (trpGoLive_moves ..)
    | split

theorem keepPoint_moves (i : Nat) (p : PointVal) (s : State) : Moves 0x20 s (keepPoint i p s) := by
  unfold keepPoint
  split
  · exact moves_ite (moves_images fun w => ⟨tableWf_put _ _ _ _ w.live, tableWf_put _ _ _ _ w.snap, w.window, w.cond⟩) moves_refl
  · exact moves_refl

theorem exchangeCar_moves (s : State) :
    Moves 0x200222 s (exchangeCar s) := by
  unfold exchangeCar
  repeat' first
    | with_reducible assumption
    | with_reducible exact moves_refl
    | decide
    | with_reducible refine moves_foldl ?_ (fun _ _ _ => ?_)
    | with_reducible apply moves_step (setF_moves ..)
    | with_reducible apply moves_step (keepPoint_moves ..)
    | with_reducible apply moves_step (emit_moves ..)
    | with_reducible refine moves_ite ?_ ?_
    | fail_if_no_progress
        (with_reducible apply moves_frame)
        all_goals try first | with_reducible exact rfl | exact moves_absurd rfl | with_reducible exact fun _ => rfl

theorem switchPlan_moves (s : State) :
    Moves 0x800 s (switchPlan s) := by
  unfold switchPlan
  repeat' first
    | with_reducible exact moves_refl
    | fail_if_no_progress
        (with_reducible apply moves_frame)
        all_goals try first | with_reducible exact rfl | exact moves_absurd rfl | with_reducible exact fun _ => rfl

theorem leadTick_moves (s : State) :
    Moves 0x4280312 s (leadTick s) := by
  unfold leadTick
  repeat' first
    | with_reducible exact moves_refl
    | decide
    | with_reducible apply moves_step (setF_moves ..)
    | with_reducible apply moves_step (trpTick_moves ..)
    | with_reducible apply moves_step (startScans_moves ..)
    | with_reducible refine moves_ite ?_ ?_
    | fail_if_no_progress
        (with_reducible apply moves_frame)
        all_goals try first | with_reducible exact rfl | exact moves_absurd rfl | with_reducible exact fun _ => rfl

theorem becomeLead_moves (s : State) :
    Moves 0x46e0b3a s (becomeLead s) := by
  unfold becomeLead
  repeat' first
    | with_reducible exact moves_refl
    | decide
    | with_reducible apply moves_step (setF_moves ..)
    | with_reducible apply moves_step (setRole_moves ..)
    | with_reducible apply moves_step (raiseAir_moves ..)
    | with_reducible apply moves_step (switchCounters_moves ..)
    | with_reducible apply moves_step (canSwitchOver_moves ..)
    | with_reducible apply moves_step (clapLeaveStandIn_moves ..)
    | with_reducible apply moves_step (switchPlan_moves ..)
    | with_reducible apply moves_step (exchangeCar_moves ..)
    | with_reducible apply moves_step (exchangeLoops_moves ..)
    | with_reducible apply moves_step (switchLoops_moves ..)
    | with_reducible apply moves_step (leadTick_moves ..)
    | with_reducible apply moves_step (triggerFlush_moves ..)
    | with_reducible apply moves_step (emit_moves ..)
    | with_reducible apply moves_step (updSpot_moves ..)
    | with_reducible refine moves_ite ?_ ?_

theorem execSpotLead_moves (peer : Bool) (s : State) :
    ResultMoves 0x46e0b3a s (execSpotLead peer s) := by
  unfold execSpotLead
  repeat' first
    | with_reducible exact moves_refl
    | decide
    | with_reducible apply moves_step (becomeLead_moves ..)
    | with_reducible refine moves_ite ?_ ?_
    | with_reducible refine resultMoves_next ?_

theorem cmdHandover_moves (c : Caller) (a0 : Nat) (s : State) :
    Moves 0xa80002 s (cmdHandover c a0 s).1 := by
  unfold cmdHandover
  repeat' first
    | with_reducible assumption
    | with_reducible exact moves_refl
    | decide
    | with_reducible apply moves_step (updSpot_moves ..)
    | with_reducible refine bodyMoves_ok ?_
    | with_reducible exact bodyMoves_error _
    | with_reducible refine runCommand_moves _ _ _ _ _ _ _ _ rfl ?_ (fun _ _ => ?_)
    | split

theorem execHandover_moves (c : Caller) (a0 : Nat) (s : State) :
    ResultMoves 0xa80002 s (execHandover c a0 s) := by
  unfold execHandover
  repeat' first
    | with_reducible exact moves_refl
    | decide
    | with_reducible apply moves_step (cmdHandover_moves ..)
    | with_reducible refine resultMoves_next ?_

theorem cmdRejoin_moves (c : Caller) (a0 : Nat) (s : State) :
    Moves 0xa80b12 s (cmdRejoin c a0 s).1 := by
  unfold cmdRejoin
  repeat' first
    | with_reducible assumption
    | with_reducible exact moves_refl
    | decide
    | with_reducible apply moves_step (setF_moves ..)
    | with_reducible apply moves_step (startJoin_moves ..)
    | with_reducible refine bodyMoves_ok ?_
    | with_reducible exact bodyMoves_error _
    | with_reducible refine runCommand_moves _ _ _ _ _ _ _ _ rfl ?_ (fun _ _ => ?_)
    | split

theorem execRejoin_moves (c : Caller) (a0 : Nat) (s : State) :
    ResultMoves 0xa80b12 s (execRejoin c a0 s) := by
  unfold execRejoin
  repeat' first
    | with_reducible exact moves_refl
    | decide
    | with_reducible apply moves_step (cmdRejoin_moves ..)
    | with_reducible refine resultMoves_next ?_

theorem spotCommand_moves (op : Nat) (c : Caller) (a0 : Nat) (s : State) :
    Moves 0xa80b12 s (spotCommand op c a0 s).1 := by
  unfold spotCommand
  repeat' first
    | with_reducible exact moves_refl
    | decide
    | with_reducible apply moves_step (cmdHandover_moves ..)
    | with_reducible apply moves_step (cmdRejoin_moves ..)
    | with_reducible apply moves_step (refuseOpcode_moves ..)
    | split

theorem updSec_moves (f : SecPart → SecPart) (s : State)
    (hf : ∀ x, (f x).sessions.length = x.sessions.length) : Moves 0x800000 s (updSec f s) := moves_sessions (hf _)

theorem showCertified_moves (s : State) :
    Moves 0x200002 s (showCertified s) := by
  unfold showCertified
  repeat' first
    | with_reducible exact moves_refl
    | decide
    | with_reducible apply moves_step (setF_moves ..)
    | with_reducible apply moves_step (emit_moves ..)
    | split

theorem showKeys_moves (s : State) :
    Moves 0x200002 s (showKeys s) := by
  unfold showKeys
  repeat' first
    | with_reducible exact moves_refl
    | decide
    | with_reducible apply moves_step (setF_moves ..)
    | with_reducible apply moves_step (showCertified_moves ..)

theorem putKey_moves (n : Nat) (k : Option KeyEntry) (s : State) :
    Moves 0xa00002 s (putKey n k s) := by
  unfold putKey
  repeat' first
    | with_reducible exact moves_refl
    | decide
    | with_reducible apply moves_step (showKeys_moves ..)
    | with_reducible apply moves_step (updSec_moves _ _ (fun _ => by simp))

theorem freeSession_moves (k : Nat) (s : State) : Moves 0xc00002 s (freeSession k s) := by
  unfold freeSession
  extract_lets s1
  refine ⟨fun p hp => ?_, fun w => ?_⟩
  · exact part_same_trans p ((resetFields_moves _ _).frame p (sub_bit rfl hp))
      (by cases p <;> first | exact Bool.noConfusion (show true = false from hp) | rfl)
  · have h1 : WellKept s1 := (resetFields_moves _ _).form w
    clear_value s1
    exact ⟨h1.regs, h1.live, h1.snap, h1.window, h1.cond, h1.bases, h1.slots, by simp [listUpd, h1.sessions], h1.ports,
      h1.volatileRing, h1.headers⟩

theorem endSession_moves (k cause : Nat) (s : State) :
    Moves 0xe00082 s (endSession k cause s) := by
  unfold endSession
  repeat' first
    | with_reducible exact moves_refl
    | decide
    | with_reducible apply moves_step (freeSession_moves ..)
    | with_reducible apply moves_step (emit_moves ..)
    | with_reducible apply moves_step (sessionTakes_moves ..)
    | split

theorem endSessions_moves (cause : Nat) (s : State) :
    Moves 0xe00082 s (endSessions cause s) := by
  unfold endSessions
  repeat' first
    | with_reducible assumption
    | with_reducible exact moves_refl
    | decide
    | with_reducible refine moves_foldl ?_ (fun _ _ _ => ?_)
    | with_reducible apply moves_step (endSession_moves ..)

theorem endCredential_moves (id : Nat) (s : State) :
    Moves 0xe00082 s (endCredential id s) := by
  unfold endCredential
  repeat' first
    | with_reducible assumption
    | with_reducible exact moves_refl
    | decide
    | with_reducible refine moves_foldl ?_ (fun _ _ _ => ?_)
    | with_reducible apply moves_step (endSession_moves ..)
    | with_reducible refine moves_ite ?_ ?_

theorem authFailed_moves (transport cred cause : Nat) (s : State) :
    Moves 0xa00002 s (authFailed transport cred cause s) := by
  unfold authFailed
  repeat' first
    | with_reducible exact moves_refl
    | decide
    | with_reducible apply moves_step (emit_moves ..)
    | with_reducible apply moves_step (bumpF_moves ..)
    | with_reducible apply moves_step (updSec_moves _ _ (fun _ => by simp))
    | with_reducible refine moves_ite ?_ ?_

theorem eraseKeys_moves (cause : Nat) (s : State) :
    Moves 0xe00082 s (eraseKeys cause s) := by
  unfold eraseKeys
  repeat' first
    | with_reducible exact moves_refl
    | decide
    | with_reducible apply moves_step (setF_moves ..)
    | with_reducible apply moves_step (updSec_moves _ _ (fun _ => by simp))
    | with_reducible apply moves_step (showKeys_moves ..)
    | with_reducible apply moves_step (endSessions_moves ..)

theorem finishZeroise_moves (s : State) :
    Moves 0xa00002 s (finishZeroise s) := by
  unfold finishZeroise
  repeat' first
    | with_reducible exact moves_refl
    | decide
    | with_reducible apply moves_step (setF_moves ..)
    | with_reducible apply moves_step (updSec_moves _ _ (fun _ => by simp))
    | with_reducible apply moves_step (bumpF_moves ..)
    | with_reducible apply moves_step (emit_moves ..)
    | with_reducible apply moves_step (showKeys_moves ..)
    | with_reducible refine moves_ite ?_ ?_

theorem keyLost_moves (k : KeyEntry) (addr : Nat) (s : State) :
    Moves 0xea8bb2 s (keyLost k addr s) := by
  unfold keyLost
  repeat' first
    | with_reducible assumption
    | with_reducible exact moves_refl
    | decide
    | with_reducible refine moves_foldl ?_ (fun _ _ _ => ?_)
    | with_reducible apply moves_step (setF_moves ..)
    | with_reducible apply moves_step (haltStation_moves ..)
    | with_reducible apply moves_step (updSpot_moves ..)
    | with_reducible apply moves_step (updSec_moves _ _ (fun _ => by simp))
    | with_reducible apply moves_step (dropShadowWork_moves ..)
    | with_reducible apply moves_step (showSecHealth_moves ..)
    | with_reducible apply moves_step (endCredential_moves ..)
    | with_reducible refine moves_ite ?_ ?_

theorem zeroiseKey_moves (id addr : Nat) (s : State) :
    Moves 0xea8bb2 s (zeroiseKey id addr s) := by
  unfold zeroiseKey
  repeat' first
    | with_reducible exact moves_refl
    | decide
    | with_reducible apply moves_step (keyLost_moves ..)
    | with_reducible apply moves_step (emit_moves ..)
    | with_reducible apply moves_step (putKey_moves ..)
    | split

theorem putFields_moves (l : List (Field × Nat)) (s : State) :
    Moves 0x2 s (putFields l s) := by
  unfold putFields
  repeat' first
    | with_reducible assumption
    | with_reducible exact moves_refl
    | decide
    | with_reducible refine moves_foldl ?_ (fun _ _ _ => ?_)
    | with_reducible apply moves_step (setF_moves ..)

theorem applyParts_moves (r : Reel) (s : State) :
    Moves 0x2600004 s (applyParts r s) := by
  unfold applyParts
  repeat' first
    | with_reducible exact moves_refl
    | fail_if_no_progress
        (with_reducible apply moves_frame)
        all_goals try first | with_reducible exact rfl | exact moves_absurd rfl | with_reducible exact fun _ => rfl

theorem applyReel_moves (r : Reel) (s : State) :
    Moves 0x2600006 s (applyReel r s) := by
  unfold applyReel
  repeat' first
    | with_reducible exact moves_refl
    | decide
    | with_reducible apply moves_step (putFields_moves ..)
    | with_reducible apply moves_step (applyParts_moves ..)

end Sys2Proof.Machine
end

