-- ==== Sys2Proof/Laws/MovesTick.lean ====
section
/-! SUPPORT. Which parts of the state the operations of MEM, the tick, BOOT, the start and PWR change, and that they keep
its form. -/

namespace Sys2Proof.Machine

open Sys2Proof

theorem faultAtCurtain_moves (u : Nat) (s : State) :
    Moves 0x10 s (faultAtCurtain u s) := by
  unfold faultAtCurtain
  repeat' first
    | with_reducible exact moves_refl
    | fail_if_no_progress
        (with_reducible apply moves_frame)
        all_goals try first | with_reducible exact rfl | exact moves_absurd rfl | with_reducible exact fun _ => rfl

theorem spoilRecords_moves (o : MemOwner) (addr : Nat) (s : State) :
    Moves 0x200000 s (spoilRecords o addr s) := by
  unfold spoilRecords
  repeat' first
    | with_reducible exact moves_refl
    | fail_if_no_progress
        (with_reducible apply moves_frame)
        all_goals try first | with_reducible exact rfl | exact moves_absurd rfl | with_reducible exact fun _ => rfl
    | split

theorem ownerEffect_moves (o : MemOwner) (addr : Nat) (s : State) :
    Moves 0x2cefffb6 s (ownerEffect o addr s) := by
  unfold ownerEffect
  repeat' first
    | with_reducible exact moves_refl
    | decide
    | with_reducible apply moves_step (setF_moves ..)
    | with_reducible apply moves_step (abortScan_moves ..)
    | with_reducible apply moves_step (enterFaultSafe_moves ..)
    | with_reducible apply moves_step (haltMeter_moves ..)
    | with_reducible apply moves_step (boeConfigError_moves ..)
    | with_reducible apply moves_step (updSet_moves ..)
    | with_reducible apply moves_step (haltCalc_moves ..)
    | with_reducible apply moves_step (accumFailed_moves ..)
    | with_reducible apply moves_step (accumRepaired_moves ..)
    | with_reducible apply moves_step (haltStation_moves ..)
    | with_reducible apply moves_step (haltBuffer_moves ..)
    | with_reducible apply moves_step (haltPort_moves ..)
    | with_reducible apply moves_step (zeroiseKey_moves ..)
    | with_reducible apply moves_step (memoryPoint_moves ..)
    | with_reducible apply moves_step (jugMemory_moves ..)
    | with_reducible apply moves_step (asmMemory_moves ..)
    | with_reducible apply moves_step (spoilRecords_moves ..)
    | with_reducible apply moves_step (faultAtCurtain_moves ..)
    | fail_if_no_progress
        (with_reducible apply moves_frame)
        all_goals try first | with_reducible exact rfl | exact moves_absurd rfl | with_reducible exact fun _ => rfl
    | split

theorem readError_moves (e : ReadError) (s : State) :
    Moves 0x2cefffb6 s (readError e s) := by
  unfold readError
  repeat' first
    | with_reducible exact moves_refl
    | decide
    | with_reducible apply moves_step (ownerEffect_moves ..)
    | with_reducible apply moves_step (noteUe_moves ..)

theorem memCurtain_moves (s : State) :
    Moves 0x2cffffb6 s (memCurtain s) := by
  unfold memCurtain
  repeat' first
    | with_reducible assumption
    | with_reducible exact moves_refl
    | decide
    | with_reducible refine moves_foldl ?_ (fun _ _ _ => ?_)
    | with_reducible apply moves_step (ownerEffect_moves ..)
    | fail_if_no_progress
        (with_reducible apply moves_frame)
        all_goals try first | with_reducible exact rfl | exact moves_absurd rfl | with_reducible exact fun _ => rfl

theorem execRecordAdmit_moves (ue : Option Nat) (s : State) :
    ResultMoves 0x2cefffb6 s (execRecordAdmit ue s) := by
  unfold execRecordAdmit
  repeat' first
    | with_reducible exact moves_refl
    | decide
    | with_reducible apply moves_step (admitNext_moves ..)
    | with_reducible apply moves_step (readError_moves ..)
    | with_reducible refine resultMoves_next ?_
    | split

theorem relocateSector_moves (addr bits : Nat) (spareLeft : Bool) (s : State) :
    Moves 0x600002 s (relocateSector addr bits spareLeft s) := by
  unfold relocateSector
  repeat' first
    | with_reducible exact moves_refl
    | decide
    | with_reducible apply moves_step (emit_moves ..)
    | with_reducible apply moves_step (memDegraded_moves ..)
    | with_reducible refine moves_ite ?_ ?_

theorem scrubFinding_moves (m addr : Nat) (found : ScrubFinding) (requester : Option Nat) (s : State) :
    Moves 0x2cffffb6 s (scrubFinding m addr found requester s) := by
  unfold scrubFinding
  repeat' first
    | with_reducible exact moves_refl
    | decide
    | with_reducible apply moves_step (noteCe_moves ..)
    | with_reducible apply moves_step (relocateSector_moves ..)
    | with_reducible apply moves_step (spoilRecords_moves ..)
    | with_reducible apply moves_step (noteUe_moves ..)
    | with_reducible apply moves_step (ownerEffect_moves ..)
    | fail_if_no_progress
        (with_reducible apply moves_frame)
        all_goals try first | with_reducible exact rfl | exact moves_absurd rfl | with_reducible exact fun _ => rfl
    | split

theorem scrubAdvance_moves (m : Nat) (s : State) :
    Moves 0x300002 s (scrubAdvance m s) := by
  unfold scrubAdvance
  repeat' first
    | with_reducible exact moves_refl
    | decide
    | with_reducible apply moves_step (setF_moves ..)
    | with_reducible apply moves_step (emit_moves ..)
    | with_reducible apply moves_step (bumpF_moves ..)
    | with_reducible refine moves_ite ?_ ?_
    | fail_if_no_progress
        (with_reducible apply moves_frame)
        all_goals try first | with_reducible exact rfl | exact moves_absurd rfl | with_reducible exact fun _ => rfl

theorem execScrubRead_moves (m : Nat) (found : ScrubFinding) (requester : Option Nat) (s : State) :
    ResultMoves 0x2cffffb6 s (execScrubRead m found requester s) := by
  unfold execScrubRead
  repeat' first
    | with_reducible exact moves_refl
    | decide
    | with_reducible apply moves_step (scrubAdvance_moves ..)
    | with_reducible apply moves_step (scrubFinding_moves ..)
    | with_reducible refine moves_ite ?_ ?_
    | with_reducible refine resultMoves_next ?_

theorem firstTransfer_moves (g : Nat) (s : State) :
    Moves 0x280062 s (firstTransfer g s) := by
  unfold firstTransfer
  repeat' first
    | with_reducible assumption
    | with_reducible exact moves_refl
    | decide
    | with_reducible refine moves_foldl ?_ (fun _ _ _ => ?_)
    | with_reducible apply moves_step (pulseTransfer_moves ..)
    | with_reducible apply moves_step (digitalFirst_moves ..)
    | with_reducible refine moves_ite ?_ ?_

theorem settleCrossing_moves (s : State) (g : Nat) :
    Moves 0x380062 s (settleCrossing s g) := by
  unfold settleCrossing
  repeat' first
    | with_reducible exact moves_refl
    | decide
    | with_reducible apply moves_step (firstTransfer_moves ..)
    | with_reducible refine moves_ite ?_ ?_
    | fail_if_no_progress
        (with_reducible apply moves_frame)
        all_goals try first | with_reducible exact rfl | exact moves_absurd rfl | with_reducible exact fun _ => rfl

theorem settleCrossings_moves (s : State) :
    Moves 0x380062 s (settleCrossings s) := by
  unfold settleCrossings
  repeat' first
    | with_reducible assumption
    | with_reducible exact moves_refl
    | decide
    | with_reducible refine moves_foldl ?_ (fun _ _ _ => ?_)
    | with_reducible apply moves_step (settleCrossing_moves ..)

theorem showStalls_moves (s : State) :
    Moves 0x2 s (showStalls s) := by
  unfold showStalls
  repeat' first
    | with_reducible exact moves_refl
    | decide
    | with_reducible apply moves_step (setF_moves ..)

theorem pulseStall_moves (s : State) :
    Moves 0x200002 s (pulseStall s) := by
  unfold pulseStall
  repeat' first
    | with_reducible assumption
    | with_reducible exact moves_refl
    | decide
    | with_reducible refine moves_foldl ?_ (fun _ _ _ => ?_)
    | with_reducible apply moves_step (setF_moves ..)
    | with_reducible apply moves_step (emit_moves ..)
    | with_reducible apply moves_step (bumpF_moves ..)

theorem execCrossingStalled_moves (g : Nat) (s : State) :
    ResultMoves 0x300022 s (execCrossingStalled g s) := by
  unfold execCrossingStalled
  repeat' first
    | with_reducible assumption
    | with_reducible exact moves_refl
    | decide
    | with_reducible refine moves_foldl ?_ (fun _ _ _ => ?_)
    | with_reducible apply moves_step (bumpF_moves ..)
    | with_reducible apply moves_step (showStalls_moves ..)
    | with_reducible apply moves_step (setBit_moves ..)
    | with_reducible apply moves_step (crossingStall_moves ..)
    | with_reducible apply moves_step (pulseStall_moves ..)
    | with_reducible apply moves_step (emit_moves ..)
    | with_reducible refine moves_ite ?_ ?_
    | with_reducible refine resultMoves_next ?_
    | fail_if_no_progress
        (with_reducible apply moves_frame)
        all_goals try first | with_reducible exact rfl | exact moves_absurd rfl | with_reducible exact fun _ => rfl

theorem execCrossingResumed_moves (g items : Nat) (s : State) :
    ResultMoves 0x200002 s (execCrossingResumed g items s) := by
  unfold execCrossingResumed
  repeat' first
    | with_reducible exact moves_refl
    | decide
    | with_reducible apply moves_step (setF_moves ..)
    | with_reducible apply moves_step (emit_moves ..)
    | with_reducible apply moves_step (showStalls_moves ..)
    | with_reducible apply moves_step (setBit_moves ..)
    | with_reducible refine moves_ite ?_ ?_
    | with_reducible refine resultMoves_next ?_

theorem clearTable_moves (m : Nat) (s : State) :
    Moves 0x2 s (clearTable m s) := by
  unfold clearTable
  repeat' first
    | with_reducible assumption
    | with_reducible exact moves_refl
    | decide
    | with_reducible refine moves_foldl ?_ (fun _ _ _ => ?_)
    | with_reducible apply moves_step (setF_moves ..)
    | with_reducible apply moves_step (resetFields_moves ..)

theorem cmdClearTable_moves (c : Caller) (m a1 : Nat) (s : State) :
    Moves 0xa00002 s (cmdClearTable c m a1 s).1 := by
  unfold cmdClearTable
  repeat' first
    | with_reducible assumption
    | with_reducible exact moves_refl
    | decide
    | with_reducible refine moves_foldl ?_ (fun _ _ _ => ?_)
    | with_reducible apply moves_step (clearTable_moves ..)
    | with_reducible refine bodyMoves_ok ?_
    | with_reducible exact bodyMoves_error _
    | with_reducible refine runCommand_moves _ _ _ _ _ _ _ _ rfl ?_ (fun _ _ => ?_)
    | split

theorem execClearTable_moves (c : Caller) (a0 a1 : Nat) (s : State) :
    ResultMoves 0xa00002 s (execClearTable c a0 a1 s) := by
  unfold execClearTable
  repeat' first
    | with_reducible exact moves_refl
    | decide
    | with_reducible apply moves_step (cmdClearTable_moves ..)
    | with_reducible refine resultMoves_next ?_

theorem cmdSetScrub_moves (c : Caller) (m n : Nat) (s : State) :
    Moves 0xa00002 s (cmdSetScrub c m n s).1 := by
  unfold cmdSetScrub
  repeat' first
    | with_reducible assumption
    | with_reducible exact moves_refl
    | decide
    | with_reducible apply moves_step (setF_moves ..)
    | with_reducible refine bodyMoves_ok ?_
    | with_reducible exact bodyMoves_error _
    | with_reducible refine runCommand_moves _ _ _ _ _ _ _ _ rfl ?_ (fun _ _ => ?_)
    | split

theorem execSetScrub_moves (c : Caller) (a0 a1 : Nat) (s : State) :
    ResultMoves 0xa00002 s (execSetScrub c a0 a1 s) := by
  unfold execSetScrub
  repeat' first
    | with_reducible exact moves_refl
    | decide
    | with_reducible apply moves_step (cmdSetScrub_moves ..)
    | with_reducible refine resultMoves_next ?_

theorem memCommand_moves (op : Nat) (c : Caller) (a0 a1 : Nat) (s : State) :
    Moves 0xa00002 s (memCommand op c a0 a1 s).1 := by
  unfold memCommand
  repeat' first
    | with_reducible exact moves_refl
    | decide
    | with_reducible apply moves_step (cmdClearTable_moves ..)
    | with_reducible apply moves_step (cmdSetScrub_moves ..)
    | with_reducible apply moves_step (refuseOpcode_moves ..)
    | split

theorem moveGroup_moves (g n : Nat) (s : State) :
    Moves 0x628042 s (moveGroup g n s) := by
  unfold moveGroup
  repeat' first
    | with_reducible exact moves_refl
    | decide
    | with_reducible apply moves_step (moveLioOutputs_moves ..)
    | with_reducible apply moves_step (stnBuild_moves ..)
    | with_reducible apply moves_step (moveCanOutputs_moves ..)
    | split

theorem beginMoves_moves (stn can : Bool) (s : State) :
    Moves 0x628012 s (beginMoves stn can s) := by
  unfold beginMoves
  repeat' first
    | with_reducible exact moves_refl
    | decide
    | with_reducible apply moves_step (stnBuild_moves ..)
    | with_reducible refine moves_ite ?_ ?_
    | fail_if_no_progress
        (with_reducible apply moves_frame)
        all_goals try first | with_reducible exact rfl | exact moves_absurd rfl | with_reducible exact fun _ => rfl

theorem movedBy_moves (m : Nat × Bool × Nat) (s : State) :
    Moves 0x4000000 s (movedBy m s).2 := by
  unfold movedBy
  repeat' first
    | with_reducible exact moves_refl
    | decide
    | with_reducible apply moves_step (drawFree_moves ..)
    | split

theorem endMove_moves (x : State × Nat) (m : Nat × Bool × Nat) : Moves 0x4628042 x.1 (endMove x m).1 := by
  have h : Moves 0x4628042 x.1 (movedBy m x.1).2 := moves_step (movedBy_moves ..) rfl moves_refl
  unfold endMove
  generalize movedBy m x.1 = y at h
  exact moves_ite h (moves_step (moveGroup_moves ..) rfl h)

theorem endMoves_moves (s : State) : Moves 0x4628052 s (endMoves s) := by
  have h : Moves 0x4628052 s (s.tick.moves.foldl endMove (s, 0)).1 :=
    moves_foldl_fst (p := (s, 0)) moves_refl (fun _ _ ht => moves_step (endMove_moves ..) rfl ht)
  unfold endMoves
  generalize s.tick.moves.foldl endMove (s, 0) = y at h
  obtain ⟨t, held⟩ := y
  dsimp only
  have h1 : Moves 0x4628052 s { t with tick := { t.tick with moves := [] } } := by
    apply moves_frame h <;> first | exact rfl | exact moves_absurd rfl | exact fun _ => rfl
  exact moves_ite h1 (moves_step (emit_moves ..) rfl (moves_step (bumpF_moves ..) rfl (moves_step setF_moves rfl h1)))

theorem driveAtTick_moves (s : State) :
    Moves 0x80040 s (driveAtTick s) := by
  unfold driveAtTick
  repeat' first
    | with_reducible exact moves_refl
    | decide
    | with_reducible apply moves_step (driveOutputs_moves ..)
    | with_reducible apply moves_step (updSpot_moves ..)
    | with_reducible refine moves_ite ?_ ?_

theorem tickPoints_moves (s : State) :
    Moves 0x20 s (tickPoints s) := by
  unfold tickPoints
  repeat' first
    | with_reducible exact moves_refl
    | decide
    | with_reducible apply moves_step (sysPoint_moves ..)

theorem expectNow_moves (u : Nat) (when_ : Bool) (s : State) :
    Moves 0x10 s (expectNow u when_ s) := by
  unfold expectNow
  repeat' first
    | with_reducible exact moves_refl
    | decide
    | with_reducible apply moves_step (expectResult_moves ..)
    | with_reducible refine moves_ite ?_ ?_

theorem unitTicks_moves (s : State) :
    Moves 0x44227012 s (unitTicks s) := by
  unfold unitTicks
  repeat' first
    | with_reducible exact moves_refl
    | decide
    | with_reducible apply moves_step (keepBoundary_moves ..)
    | with_reducible apply moves_step (boeTick_moves ..)
    | with_reducible apply moves_step (expectNow_moves ..)
    | with_reducible apply moves_step (botTick_moves ..)
    | with_reducible apply moves_step (stnTick_moves ..)
    | with_reducible apply moves_step (canTick_moves ..)
    | with_reducible refine moves_ite ?_ ?_

theorem aliveToggle_moves (s : State) :
    Moves 0x2 s (aliveToggle s) := by
  unfold aliveToggle
  repeat' first
    | with_reducible exact moves_refl
    | decide
    | with_reducible apply moves_step (setF_moves ..)
    | with_reducible refine moves_ite ?_ ?_

theorem beginTick_moves (s : State) :
    Moves 0x446efbfa s (beginTick s) := by
  unfold beginTick
  repeat' first
    | with_reducible exact moves_refl
    | decide
    | with_reducible apply moves_step (localRateUpdate_moves ..)
    | with_reducible apply moves_step (driveAtTick_moves ..)
    | with_reducible apply moves_step (endMoves_moves ..)
    | with_reducible apply moves_step (expireTakes_moves ..)
    | with_reducible apply moves_step (stnFreeze_moves ..)
    | with_reducible apply moves_step (canFreeze_moves ..)
    | with_reducible apply moves_step (checkTimeouts_moves ..)
    | with_reducible apply moves_step (freezeSnapshot_moves ..)
    | with_reducible apply moves_step (tickPoints_moves ..)
    | with_reducible apply moves_step (handOver_moves ..)
    | with_reducible apply moves_step (gateClusters_moves ..)
    | with_reducible apply moves_step (jugTick_moves ..)
    | with_reducible apply moves_step (checkShadowing_moves ..)
    | with_reducible apply moves_step (startScans_moves ..)
    | with_reducible apply moves_step (trpTick_moves ..)
    | with_reducible apply moves_step (aliveToggle_moves ..)
    | with_reducible apply moves_step (unitTicks_moves ..)
    | fail_if_no_progress
        (with_reducible apply moves_frame)
        all_goals try first | with_reducible exact rfl | exact moves_absurd rfl | with_reducible exact fun _ => rfl

theorem tickLength_moves (n : Nat) (s : State) :
    Moves 0x2 s (tickLength n s) := by
  unfold tickLength
  repeat' first
    | with_reducible exact moves_refl
    | decide
    | with_reducible apply moves_step (setF_moves ..)

theorem execTickStart_moves (crossing : Nat) (ue : List ReadError) (s : State) :
    ResultMoves 0x7ceffffe s (execTickStart crossing ue s) := by
  unfold execTickStart
  repeat' first
    | with_reducible assumption
    | with_reducible exact moves_refl
    | decide
    | with_reducible refine moves_foldl ?_ (fun _ _ _ => ?_)
    | with_reducible apply moves_step (setF_moves ..)
    | with_reducible apply moves_step (tickLength_moves ..)
    | with_reducible apply moves_step (elapseTo_moves ..)
    | with_reducible apply moves_step (emit_moves ..)
    | with_reducible apply moves_step (bumpF_moves ..)
    | with_reducible apply moves_step (beginTick_moves ..)
    | with_reducible apply moves_step (readError_moves ..)
    | with_reducible refine moves_ite ?_ ?_
    | with_reducible refine resultMoves_next ?_
    | fail_if_no_progress
        (with_reducible apply moves_frame)
        all_goals try first | with_reducible exact rfl | exact moves_absurd rfl | with_reducible exact fun _ => rfl

theorem collectEntry_moves (e : StagedEntry) (s : State) :
    Moves 0x200012 s (collectEntry e s) := by
  unfold collectEntry
  repeat' first
    | with_reducible exact moves_refl
    | decide
    | with_reducible apply moves_step (emit_moves ..)
    | with_reducible apply moves_step (setBit_moves ..)
    | with_reducible refine moves_ite ?_ ?_
    | fail_if_no_progress
        (with_reducible apply moves_frame)
        all_goals try first | with_reducible exact rfl | exact moves_absurd rfl | with_reducible exact fun _ => rfl

theorem execStagingPost_moves (u cycle : Nat) (s : State) :
    ResultMoves 0x20001a s (execStagingPost u cycle s) := by
  unfold execStagingPost
  repeat' first
    | with_reducible exact moves_refl
    | decide
    | with_reducible apply moves_step (elapseTo_moves ..)
    | with_reducible apply moves_step (collectEntry_moves ..)
    | with_reducible refine moves_ite ?_ ?_
    | with_reducible refine resultMoves_next ?_
    | fail_if_no_progress
        (with_reducible apply moves_frame)
        all_goals try first | with_reducible exact rfl | exact moves_absurd rfl | with_reducible exact fun _ => rfl
    | split

theorem faultUnit_moves (u : Nat) (s : State) :
    Moves 0x668b22 s (faultUnit u s) := by
  unfold faultUnit
  repeat' first
    | with_reducible exact moves_refl
    | decide
    | with_reducible apply moves_step (setF_moves ..)
    | with_reducible apply moves_step (setBit_moves ..)
    | with_reducible apply moves_step (setHealth_moves ..)
    | with_reducible apply moves_step (emit_moves ..)
    | with_reducible apply moves_step (triggerFlush_moves ..)
    | with_reducible apply moves_step (dropRound_moves ..)
    | with_reducible apply moves_step (carStop_moves ..)
    | with_reducible apply moves_step (stnFault_moves ..)
    | with_reducible apply moves_step (canFault_moves ..)
    | with_reducible refine moves_ite ?_ ?_
    | fail_if_no_progress
        (with_reducible apply moves_frame)
        all_goals try first | with_reducible exact rfl | exact moves_absurd rfl | with_reducible exact fun _ => rfl

theorem abandonWork_moves (u tag : Nat) (s : State) :
    Moves 0xb02 s (abandonWork u tag s) := by
  unfold abandonWork
  repeat' first
    | with_reducible exact moves_refl
    | decide
    | with_reducible apply moves_step (dropRound_moves ..)
    | with_reducible apply moves_step (putScan_moves ..)
    | with_reducible refine moves_ite ?_ ?_
    | fail_if_no_progress
        (with_reducible apply moves_frame)
        all_goals try first | with_reducible exact rfl | exact moves_absurd rfl | with_reducible exact fun _ => rfl

theorem overrunResult_moves (u tag : Nat) (s : State) :
    Moves 0x668b22 s (overrunResult u tag s) := by
  unfold overrunResult
  repeat' first
    | with_reducible exact moves_refl
    | decide
    | with_reducible apply moves_step (setF_moves ..)
    | with_reducible apply moves_step (abandonWork_moves ..)
    | with_reducible apply moves_step (bumpF_moves ..)
    | with_reducible apply moves_step (setBit_moves ..)
    | with_reducible apply moves_step (emit_moves ..)
    | with_reducible apply moves_step (faultUnit_moves ..)
    | with_reducible apply moves_step (setHealth_moves ..)
    | with_reducible refine moves_ite ?_ ?_

theorem judgeUnit_moves (u : Nat) (s : State) :
    Moves 0x668b22 s (judgeUnit u s).1 := by
  unfold judgeUnit
  repeat' first
    | with_reducible assumption
    | with_reducible exact moves_refl
    | decide
    | with_reducible refine moves_foldl ?_ (fun _ _ _ => ?_)
    | with_reducible apply moves_step (setF_moves ..)
    | with_reducible apply moves_step (setBit_moves ..)
    | with_reducible apply moves_step (faultUnit_moves ..)
    | with_reducible apply moves_step (setHealth_moves ..)
    | with_reducible apply moves_step (overrunResult_moves ..)
    | split

theorem faultOthers_moves (s : State) :
    Moves 0x668b22 s (faultOthers s) := by
  unfold faultOthers
  repeat' first
    | with_reducible assumption
    | with_reducible exact moves_refl
    | decide
    | with_reducible refine moves_foldl ?_ (fun _ _ _ => ?_)
    | with_reducible apply moves_step (faultUnit_moves ..)
    | with_reducible refine moves_ite ?_ ?_

theorem judgeUnits_moves (s : State) :
    Moves 0x668b22 s (judgeUnits s).1 := by
  unfold judgeUnits
  repeat' first
    | with_reducible assumption
    | with_reducible exact moves_refl
    | decide
    | with_reducible refine moves_foldl_fst ?_ (fun _ _ _ => ?_)
    | with_reducible apply moves_step (judgeUnit_moves ..)
    | with_reducible apply moves_step (faultOthers_moves ..)

theorem takeSafe_moves (u i stamp : Nat) (s : State) :
    Moves 0x20 s (takeSafe u i stamp s) := by
  unfold takeSafe
  repeat' first
    | with_reducible exact moves_refl
    | decide
    | with_reducible apply moves_step (safePoint_moves ..)
    | with_reducible apply moves_step (holdForSafe_moves ..)
    | split

theorem publishPoint_moves (u : Nat) (p : PubPoint) (s : State) :
    Moves 0x200022 s (publishPoint u p s) := by
  unfold publishPoint
  repeat' first
    | with_reducible exact moves_refl
    | decide
    | with_reducible apply moves_step (declareAbsent_moves ..)
    | with_reducible apply moves_step (frontFault_moves ..)
    | with_reducible apply moves_step (takeSafe_moves ..)
    | with_reducible apply moves_step (sampleIn_moves ..)
    | split

theorem putSetpoint_moves (x : Setpoint) (s : State) :
    Moves 0x80 s (putSetpoint x s) := by
  unfold putSetpoint
  repeat' first
    | with_reducible exact moves_refl
    | fail_if_no_progress
        (with_reducible apply moves_frame)
        all_goals try first | with_reducible exact rfl | exact moves_absurd rfl | with_reducible exact fun _ => rfl

theorem putSetpoints_moves (l : List Setpoint) (s : State) :
    Moves 0x80 s (putSetpoints l s) := by
  unfold putSetpoints
  repeat' first
    | with_reducible assumption
    | with_reducible exact moves_refl
    | decide
    | with_reducible refine moves_foldl ?_ (fun _ _ _ => ?_)
    | with_reducible apply moves_step (putSetpoint_moves ..)

theorem commitResult_moves (u tag : Nat) (s : State) :
    Moves 0x680b02 s (commitResult u tag s) := by
  unfold commitResult
  repeat' first
    | with_reducible exact moves_refl
    | decide
    | with_reducible apply moves_step (trpCommit_moves ..)
    | with_reducible apply moves_step (updSpot_moves ..)
    | with_reducible apply moves_step (carCommit_moves ..)
    | with_reducible apply moves_step (jugCommit_moves ..)
    | with_reducible apply moves_step (startExport_moves ..)
    | with_reducible refine moves_ite ?_ ?_
    | (dsimp only; split)

theorem publishEntry_moves (e : StagedEntry) (s : State) :
    Moves 0x680ba2 s (publishEntry e s) := by
  unfold publishEntry
  repeat' first
    | with_reducible assumption
    | with_reducible exact moves_refl
    | decide
    | with_reducible refine moves_foldl ?_ (fun _ _ _ => ?_)
    | with_reducible apply moves_step (setF_moves ..)
    | with_reducible apply moves_step (publishPoint_moves ..)
    | with_reducible apply moves_step (putSetpoints_moves ..)
    | with_reducible apply moves_step (commitResult_moves ..)
    | with_reducible refine moves_ite ?_ ?_

theorem lastPost_moves (es : List StagedEntry) (u : Nat) (s : State) :
    Moves 0x2 s (lastPost es u s) := by
  unfold lastPost
  repeat' first
    | with_reducible exact moves_refl
    | decide
    | with_reducible apply moves_step (setF_moves ..)

theorem publishSafe_moves (u : Nat) (s : State) :
    Moves 0x20 s (publishSafe u s) := by
  unfold publishSafe
  repeat' first
    | with_reducible assumption
    | with_reducible exact moves_refl
    | decide
    | with_reducible refine moves_foldl ?_ (fun _ _ _ => ?_)
    | with_reducible apply moves_step (takeSafe_moves ..)
    | with_reducible refine moves_ite ?_ ?_

theorem checkStep_moves (es : List StagedEntry) (s : State) :
    Moves 0x200000 s (checkStep es s) := by
  unfold checkStep
  repeat' first
    | with_reducible exact moves_refl
    | decide
    | with_reducible apply moves_step (stepSkipped_moves ..)
    | split

theorem publishRounds_moves (s : State) :
    Moves 0x680882 s (publishRounds s) := by
  unfold publishRounds
  repeat' first
    | with_reducible exact moves_refl
    | decide
    | with_reducible apply moves_step (publishInitial_moves ..)
    | with_reducible apply moves_step (switchRound_moves ..)
    | with_reducible apply moves_step (shiftRound_moves ..)
    | with_reducible apply moves_step (putSetpoints_moves ..)
    | with_reducible apply moves_step (startExport_moves ..)
    | with_reducible apply moves_step (updSpot_moves ..)
    | with_reducible refine moves_ite ?_ ?_
    | split

theorem curtainPoints_moves (s : State) :
    Moves 0x20 s (curtainPoints s) := by
  unfold curtainPoints
  repeat' first
    | with_reducible assumption
    | with_reducible exact moves_refl
    | decide
    | with_reducible refine moves_foldl ?_ (fun _ _ _ => ?_)
    | with_reducible apply moves_step (sysPoint_moves ..)

theorem setWindow_moves (pts : List Nat) (s : State) : Moves 0x20 s (setWindow pts s) := by
  refine moves_images fun w => ⟨w.live, w.snap, ?_, w.cond⟩
  have : ∀ (l : List Nat) (v : Table PointVal), tableWf {} v = true →
      tableWf {} (l.foldl (fun t i => tablePut {} t i (tableGet {} s.pimg.live i)) v) = true := by
    intro l
    induction l with
    | nil => exact fun _ hv => hv
    | cons i l ih => exact fun v hv => ih _ (tableWf_put _ _ _ _ hv)
  exact this _ _ w.snap

theorem curtainTake_moves (s : State) :
    Moves 0x2800a2 s (curtainTake s).1 := by
  unfold curtainTake
  repeat' first
    | with_reducible exact moves_refl
    | decide
    | with_reducible apply moves_step (applyDueTake_moves ..)
    | with_reducible apply moves_step (updSpot_moves ..)
    | with_reducible refine moves_ite ?_ ?_
    | split

theorem gatherMirror_moves (s : State) :
    Moves 0x80000 s (gatherMirror s) := by
  unfold gatherMirror
  repeat' first
    | with_reducible exact moves_refl
    | decide
    | with_reducible apply moves_step (updSpot_moves ..)

theorem showBulkPlan_moves (s : State) :
    Moves 0x802 s (showBulkPlan s) := by
  unfold showBulkPlan
  repeat' first
    | with_reducible exact moves_refl
    | decide
    | with_reducible apply moves_step (setF_moves ..)
    | fail_if_no_progress
        (with_reducible apply moves_frame)
        all_goals try first | with_reducible exact rfl | exact moves_absurd rfl | with_reducible exact fun _ => rfl
    | split

theorem publish_moves (ok : List (Nat × List Nat)) (s : State) :
    Moves 0x681ba2 s (publish ok s) := by
  unfold publish
  repeat' first
    | with_reducible assumption
    | with_reducible exact moves_refl
    | decide
    | with_reducible refine moves_foldl ?_ (fun _ _ _ => ?_)
    | with_reducible apply moves_step (publishEntry_moves ..)
    | with_reducible apply moves_step (checkStep_moves ..)
    | with_reducible apply moves_step (showBulkPlan_moves ..)
    | with_reducible apply moves_step (gatherMirror_moves ..)
    | with_reducible apply moves_step (publishRounds_moves ..)
    | with_reducible apply moves_step (publishSafe_moves ..)
    | with_reducible apply moves_step (boeCurtain_moves ..)
    | with_reducible apply moves_step (trpCurtain_moves ..)
    | with_reducible apply moves_step (curtainTake_moves ..)
    | with_reducible apply moves_step (subscriptionEntries_moves ..)
    | with_reducible apply moves_step (setWindow_moves ..)
    | with_reducible apply moves_step (updSpot_moves ..)
    | with_reducible apply moves_step (curtainPoints_moves ..)
    | with_reducible apply moves_step (lastPost_moves ..)

theorem beat_moves (s : State) :
    Moves 0x2 s (beat s) := by
  unfold beat
  repeat' first
    | with_reducible exact moves_refl
    | decide
    | with_reducible apply moves_step (setF_moves ..)
    | with_reducible refine moves_ite ?_ ?_

theorem mirrorCurtain_moves (s : State) :
    Moves 0x206c8b92 s (mirrorCurtain s) := by
  unfold mirrorCurtain
  repeat' first
    | with_reducible exact moves_refl
    | decide
    | with_reducible apply moves_step (standDown_moves ..)
    | with_reducible apply moves_step (sendDelta_moves ..)
    | with_reducible apply moves_step (latchedFailure_moves ..)
    | split

theorem clearStaging_moves (s : State) :
    Moves 0x10 s (clearStaging s) := by
  unfold clearStaging
  repeat' first
    | with_reducible exact moves_refl
    | fail_if_no_progress
        (with_reducible apply moves_frame)
        all_goals try first | with_reducible exact rfl | exact moves_absurd rfl | with_reducible exact fun _ => rfl

theorem landHeldSamples_moves (s : State) : Moves 0x200022 s (landHeldSamples s) := by
  refine moves_foldl (moves_step (moves_images fun w => ⟨w.live, w.snap, w.window, w.cond⟩) rfl moves_refl) (fun _ _ ht => ?_)
  split
  · exact moves_step (sampleIn_moves ..) rfl ht
  · exact moves_step (frontFault_moves ..) rfl ht

theorem curtainFalls_moves (s : State) :
    Moves 0x2cffffbe s (curtainFalls s) := by
  unfold curtainFalls
  repeat' first
    | with_reducible exact moves_refl
    | decide
    | with_reducible apply moves_step (elapseTo_moves ..)
    | with_reducible apply moves_step (memCurtain_moves ..)
    | with_reducible apply moves_step (judgeUnits_moves ..)
    | with_reducible apply moves_step (clearStaging_moves ..)
    | with_reducible apply moves_step (publish_moves ..)
    | with_reducible apply moves_step (canCurtain_moves ..)
    | with_reducible apply moves_step (beginMoves_moves ..)
    | with_reducible apply moves_step (beat_moves ..)
    | with_reducible apply moves_step (landHeldSamples_moves ..)
    | with_reducible apply moves_step (mirrorCurtain_moves ..)
    | with_reducible apply moves_step (tickDivider_moves ..)
    | with_reducible apply moves_step (pumpExports_moves ..)
    | with_reducible apply moves_step (healthIfChanged_moves ..)
    | with_reducible refine moves_ite ?_ ?_
    | fail_if_no_progress
        (with_reducible apply moves_frame)
        all_goals try first | with_reducible exact rfl | exact moves_absurd rfl | with_reducible exact fun _ => rfl

theorem cmdClearCounts_moves (c : Caller) (u : Nat) (s : State) :
    Moves 0xa00002 s (cmdClearCounts c u s).1 := by
  unfold cmdClearCounts
  repeat' first
    | with_reducible assumption
    | with_reducible exact moves_refl
    | decide
    | with_reducible refine moves_foldl ?_ (fun _ _ _ => ?_)
    | with_reducible apply moves_step (setF_moves ..)
    | with_reducible refine bodyMoves_ok ?_
    | with_reducible exact bodyMoves_error _
    | with_reducible refine runCommand_moves _ _ _ _ _ _ _ _ rfl ?_ (fun _ _ => ?_)
    | split

theorem execClearCounts_moves (c : Caller) (a0 : Nat) (s : State) :
    ResultMoves 0xa00002 s (execClearCounts c a0 s) := by
  unfold execClearCounts
  repeat' first
    | with_reducible exact moves_refl
    | decide
    | with_reducible apply moves_step (cmdClearCounts_moves ..)
    | with_reducible refine resultMoves_next ?_

theorem tickCommand_moves (op : Nat) (c : Caller) (a0 : Nat) (s : State) :
    Moves 0xa00002 s (tickCommand op c a0 s).1 := by
  unfold tickCommand
  repeat' first
    | with_reducible exact moves_refl
    | decide
    | with_reducible apply moves_step (cmdClearCounts_moves ..)
    | with_reducible apply moves_step (refuseOpcode_moves ..)
    | split

theorem resetState_moves (s : State) : Moves 0x13ffbffe s (resetState s) :=
  ⟨fun p hp => by cases p <;> first | exact Bool.noConfusion (show true = false from hp) | rfl,
    fun w => ⟨keysRise_filter _ _ w.regs, rfl, rfl, rfl, rfl, rfl, rfl, rfl, rfl, Nat.zero_le _, w.headers⟩⟩

theorem losePd0_moves (s : State) : Moves 0x40004006 s (losePd0 s) :=
  ⟨fun p hp => by cases p <;> first | exact Bool.noConfusion (show true = false from hp) | rfl,
    fun w => ⟨keysRise_filter _ _ w.regs, w.live, w.snap, w.window, w.cond, w.bases, w.slots, w.sessions, w.ports,
      w.volatileRing, w.headers⟩⟩

theorem findHead_moves (s : State) :
    Moves 0x200002 s (findHead s) := by
  unfold findHead
  repeat' first
    | with_reducible exact moves_refl
    | decide
    | with_reducible apply moves_step (setF_moves ..)
    | fail_if_no_progress
        (with_reducible apply moves_frame)
        all_goals try first | with_reducible exact rfl | exact moves_absurd rfl | with_reducible exact fun _ => rfl

theorem showAbsent_moves (s : State) :
    Moves 0x2 s (showAbsent s) := by
  unfold showAbsent
  repeat' first
    | with_reducible exact moves_refl
    | decide
    | with_reducible apply moves_step (setF_moves ..)

theorem newEpoch_moves (s : State) :
    Moves 0x6 s (newEpoch s) := by
  unfold newEpoch
  repeat' first
    | with_reducible exact moves_refl
    | decide
    | with_reducible apply moves_step (setF_moves ..)
    | fail_if_no_progress
        (with_reducible apply moves_frame)
        all_goals try first | with_reducible exact rfl | exact moves_absurd rfl | with_reducible exact fun _ => rfl

theorem bootDomains_moves (s : State) :
    Moves 0x380062 s (bootDomains s) := by
  unfold bootDomains
  repeat' first
    | with_reducible exact moves_refl
    | decide
    | with_reducible apply moves_step (settleCrossings_moves ..)
    | with_reducible apply moves_step (putFields_moves ..)

theorem enterBoot_moves (retained outage : Bool) (s : State) :
    Moves 0x5ffffffe s (enterBoot retained outage s) := by
  unfold enterBoot
  repeat' first
    | with_reducible exact moves_refl
    | decide
    | with_reducible apply moves_step (setF_moves ..)
    | with_reducible apply moves_step (showAbsent_moves ..)
    | with_reducible apply moves_step (bootDomains_moves ..)
    | with_reducible apply moves_step (newEpoch_moves ..)
    | with_reducible apply moves_step (resetState_moves ..)
    | with_reducible apply moves_step (findHead_moves ..)
    | with_reducible apply moves_step (putLogFill_moves ..)
    | with_reducible apply moves_step (setState_moves ..)
    | with_reducible apply moves_step (batReplay_moves ..)
    | with_reducible apply moves_step (batRestore_moves ..)
    | with_reducible apply moves_step (showSecHealth_moves ..)
    | with_reducible apply moves_step (finishZeroise_moves ..)
    | with_reducible apply moves_step (showKeys_moves ..)

theorem restartFlush_moves (maintenance : Bool) (s : State) :
    Moves 0x5ffffffe s (restartFlush maintenance s) := by
  unfold restartFlush
  repeat' first
    | with_reducible exact moves_refl
    | decide
    | with_reducible apply moves_step (flushAll_moves ..)
    | with_reducible apply moves_step (writeLastSave_moves ..)
    | with_reducible apply moves_step (enterBoot_moves ..)
    | with_reducible refine moves_ite ?_ ?_
    | fail_if_no_progress
        (with_reducible apply moves_frame)
        all_goals try first | with_reducible exact rfl | exact moves_absurd rfl | with_reducible exact fun _ => rfl

theorem restartNow_moves (maintenance : Bool) (s : State) :
    Moves 0x7ffffffe s (restartNow maintenance s) := by
  unfold restartNow
  repeat' first
    | with_reducible exact moves_refl
    | decide
    | with_reducible apply moves_step (endSessions_moves ..)
    | with_reducible apply moves_step (lrpOff_moves ..)
    | with_reducible apply moves_step (dropOutputs_moves ..)
    | with_reducible apply moves_step (releaseAir_moves ..)
    | with_reducible apply moves_step (leaveLive_moves ..)
    | with_reducible apply moves_step (restartFlush_moves ..)
    | with_reducible refine moves_ite ?_ ?_
    | fail_if_no_progress
        (with_reducible apply moves_frame)
        all_goals try first | with_reducible exact rfl | exact moves_absurd rfl | with_reducible exact fun _ => rfl

theorem finishRestart_moves (s : State) :
    Moves 0x5ffffffe s (finishRestart s) := by
  unfold finishRestart
  repeat' first
    | with_reducible exact moves_refl
    | decide
    | with_reducible apply moves_step (restartFlush_moves ..)
    | split

theorem execWindowClose_moves (d : WindowData) (s : State) :
    ResultMoves 0x5ffffffe s (execWindowClose d s) := by
  unfold execWindowClose
  repeat' first
    | with_reducible exact moves_refl
    | decide
    | with_reducible apply moves_step (finishRestart_moves ..)
    | with_reducible apply moves_step (closeWindow_moves ..)
    | with_reducible refine resultMoves_next ?_

theorem restart_moves (maintenance : Bool) (s : State) :
    Moves 0x7ffffffe s (restart maintenance s) := by
  unfold restart
  repeat' first
    | with_reducible exact moves_refl
    | decide
    | with_reducible apply moves_step (restartNow_moves ..)
    | with_reducible refine moves_ite ?_ ?_
    | fail_if_no_progress
        (with_reducible apply moves_frame)
        all_goals try first | with_reducible exact rfl | exact moves_absurd rfl | with_reducible exact fun _ => rfl

theorem zeroise_moves (cause : Nat) (s : State) :
    Moves 0x7ffffffe s (zeroise cause s) := by
  unfold zeroise
  repeat' first
    | with_reducible exact moves_refl
    | decide
    | with_reducible apply moves_step (restart_moves ..)
    | with_reducible apply moves_step (eraseKeys_moves ..)

theorem tamperResponse_moves (s : State) :
    Moves 0x7ffffffe s (tamperResponse s) := by
  unfold tamperResponse
  repeat' first
    | with_reducible exact moves_refl
    | decide
    | with_reducible apply moves_step (zeroise_moves ..)
    | with_reducible apply moves_step (emit_moves ..)

theorem execX1Good_moves (aMv bMv : Nat) (pd0 : Bool) (s : State) :
    ResultMoves 0x7ffffffe s (execX1Good aMv bMv pd0 s) := by
  unfold execX1Good
  repeat' first
    | with_reducible exact moves_refl
    | decide
    | with_reducible apply moves_step (stopMeasuring_moves ..)
    | with_reducible apply moves_step (losePd0_moves ..)
    | with_reducible apply moves_step (putFields_moves ..)
    | with_reducible apply moves_step (enterBoot_moves ..)
    | with_reducible apply moves_step (tamperResponse_moves ..)
    | with_reducible refine moves_ite ?_ ?_
    | with_reducible refine resultMoves_next ?_
    | fail_if_no_progress
        (with_reducible apply moves_frame)
        all_goals try first | with_reducible exact rfl | exact moves_absurd rfl | with_reducible exact fun _ => rfl

theorem runImage_moves (k : Nat) (fellBack : Option Nat) (s : State) :
    Moves 0xa00002 s (runImage k fellBack s) := by
  unfold runImage
  repeat' first
    | with_reducible exact moves_refl
    | decide
    | with_reducible apply moves_step (putFields_moves ..)
    | with_reducible apply moves_step (updSec_moves _ _ (fun _ => by simp))
    | with_reducible apply moves_step (emit_moves ..)
    | split

theorem leaveBoot_moves (s : State) :
    Moves 0x8600006 s (leaveBoot s) := by
  unfold leaveBoot
  repeat' first
    | with_reducible exact moves_refl
    | decide
    | with_reducible apply moves_step (showCertified_moves ..)
    | with_reducible apply moves_step (putFields_moves ..)
    | with_reducible apply moves_step (setState_moves ..)
    | with_reducible refine moves_ite ?_ ?_
    | fail_if_no_progress
        (with_reducible apply moves_frame)
        all_goals try first | with_reducible exact rfl | exact moves_absurd rfl | with_reducible exact fun _ => rfl

theorem execBootSelfTestsDone_moves (o : BootOutcome) (s : State) :
    ResultMoves 0x8e00006 s (execBootSelfTestsDone o s) := by
  unfold execBootSelfTestsDone
  repeat' first
    | with_reducible exact moves_refl
    | decide
    | with_reducible apply moves_step (setF_moves ..)
    | with_reducible apply moves_step (runImage_moves ..)
    | with_reducible apply moves_step (leaveBoot_moves ..)
    | with_reducible refine moves_ite ?_ ?_
    | with_reducible refine resultMoves_next ?_
    | split

theorem gptBackup_moves (c : CardInfo) (s : State) :
    Moves 0x2cefffb6 s (gptBackup c s) := by
  unfold gptBackup
  repeat' first
    | with_reducible exact moves_refl
    | decide
    | with_reducible apply moves_step (emit_moves ..)
    | with_reducible refine moves_ite ?_ ?_

theorem skipSections_moves (r : Reel) (n : Nat) (s : State) :
    Moves 0x200000 s (skipSections r n s) := by
  unfold skipSections
  repeat' first
    | with_reducible assumption
    | with_reducible exact moves_refl
    | decide
    | with_reducible refine moves_foldl ?_ (fun _ _ _ => ?_)
    | with_reducible apply moves_step (emit_moves ..)
    | with_reducible refine moves_ite ?_ ?_

theorem failLoad_moves (e : LoadError) (s : State) :
    Moves 0x8600006 s (failLoad e s) := by
  unfold failLoad
  repeat' first
    | with_reducible exact moves_refl
    | decide
    | with_reducible apply moves_step (emit_moves ..)
    | with_reducible apply moves_step (setState_moves ..)
    | with_reducible apply moves_step (putFields_moves ..)
    | with_reducible refine moves_ite ?_ ?_

theorem readCard_moves (c : CardInfo) (s : State) :
    Moves 0x2cefffb6 s (readCard c s) := by
  unfold readCard
  repeat' first
    | with_reducible exact moves_refl
    | decide
    | with_reducible apply moves_step (gptBackup_moves ..)
    | fail_if_no_progress
        (with_reducible apply moves_frame)
        all_goals try first | with_reducible exact rfl | exact moves_absurd rfl | with_reducible exact fun _ => rfl

theorem execLoadFailed_moves (x : ReelImage) (c : CardInfo) (s : State) :
    ResultMoves 0x2cefffb6 s (execLoadFailed x c s) := by
  unfold execLoadFailed
  repeat' first
    | with_reducible exact moves_refl
    | decide
    | with_reducible apply moves_step (readCard_moves ..)
    | with_reducible apply moves_step (failLoad_moves ..)
    | with_reducible apply moves_step (skipSections_moves ..)
    | with_reducible refine moves_ite ?_ ?_
    | with_reducible refine resultMoves_next ?_
    | (dsimp only; split)

theorem replayWrite_moves (w : TakeWrite) (s : State) :
    Moves 0xa2 s (replayWrite w s) := by
  unfold replayWrite
  repeat' first
    | with_reducible exact moves_refl
    | decide
    | with_reducible apply moves_step (applyWrite_moves ..)
    | fail_if_no_progress
        (with_reducible apply moves_frame)
        all_goals try first | with_reducible exact rfl | exact moves_absurd rfl | with_reducible exact fun _ => rfl
    | split

theorem dropTorn_moves (s : State) :
    Moves 0x20200080 s (dropTorn s) := by
  unfold dropTorn
  repeat' first
    | with_reducible exact moves_refl
    | decide
    | with_reducible apply moves_step (emit_moves ..)
    | fail_if_no_progress
        (with_reducible apply moves_frame)
        all_goals try first | with_reducible exact rfl | exact moves_absurd rfl | with_reducible exact fun _ => rfl
    | split

theorem spliceReset_moves (hash : List Nat) (s : State) :
    Moves 0x20200082 s (spliceReset hash s) := by
  unfold spliceReset
  repeat' first
    | with_reducible exact moves_refl
    | decide
    | with_reducible apply moves_step (resetLog_moves ..)
    | with_reducible apply moves_step (emit_moves ..)

theorem bindSplice_moves (s : State) :
    Moves 0x202000a2 s (bindSplice s) := by
  unfold bindSplice
  repeat' first
    | with_reducible assumption
    | with_reducible exact moves_refl
    | decide
    | with_reducible refine moves_foldl ?_ (fun _ _ _ => ?_)
    | with_reducible apply moves_step (setF_moves ..)
    | with_reducible apply moves_step (dropTorn_moves ..)
    | with_reducible apply moves_step (replayWrite_moves ..)
    | with_reducible apply moves_step (putLogFill_moves ..)
    | with_reducible apply moves_step (emit_moves ..)
    | with_reducible apply moves_step (spliceReset_moves ..)
    | with_reducible refine moves_ite ?_ ?_

theorem metrologyChanged_moves (s : State) :
    Moves 0x200006 s (metrologyChanged s) := by
  unfold metrologyChanged
  repeat' first
    | with_reducible exact moves_refl
    | decide
    | with_reducible apply moves_step (emitAt_moves ..)
    | with_reducible apply moves_step (bumpF_moves ..)
    | fail_if_no_progress
        (with_reducible apply moves_frame)
        all_goals try first | with_reducible exact rfl | exact moves_absurd rfl | with_reducible exact fun _ => rfl
    | split

theorem startLocal_moves (s : State) : Moves 0x20000a s (startLocal s) :=
  moves_step (reselect_moves ..) rfl (moves_step setF_moves rfl (moves_step (moves_bases (by simp)) rfl moves_refl))

theorem arm_moves (s : State) :
    Moves 0x861000e s (arm s) := by
  unfold arm
  repeat' first
    | with_reducible exact moves_refl
    | decide
    | with_reducible apply moves_step (setState_moves ..)
    | with_reducible apply moves_step (startLocal_moves ..)
    | with_reducible apply moves_step (lrpArm_moves ..)
    | with_reducible apply moves_step (supplyHealth_moves ..)
    | with_reducible apply moves_step (showSecHealth_moves ..)
    | with_reducible apply moves_step (showKeys_moves ..)
    | fail_if_no_progress
        (with_reducible apply moves_frame)
        all_goals try first | with_reducible exact rfl | exact moves_absurd rfl | with_reducible exact fun _ => rfl

theorem finishLoad_moves (r : Reel) (c : CardInfo) (s : State) :
    Moves 0x7ffffffe s (finishLoad r c s) := by
  unfold finishLoad
  repeat' first
    | with_reducible exact moves_refl
    | decide
    | with_reducible apply moves_step (setF_moves ..)
    | with_reducible apply moves_step (readCard_moves ..)
    | with_reducible apply moves_step (applyReel_moves ..)
    | with_reducible apply moves_step (settleCrossings_moves ..)
    | with_reducible apply moves_step (skipSections_moves ..)
    | with_reducible apply moves_step (emit_moves ..)
    | with_reducible apply moves_step (bindSplice_moves ..)
    | with_reducible apply moves_step (arm_moves ..)
    | with_reducible apply moves_step (metrologyChanged_moves ..)
    | with_reducible apply moves_step (tamperResponse_moves ..)
    | with_reducible refine moves_ite ?_ ?_

theorem execLoadDone_moves (x : ReelImage) (c : CardInfo) (s : State) :
    ResultMoves 0x7ffffffe s (execLoadDone x c s) := by
  unfold execLoadDone
  repeat' first
    | with_reducible exact moves_refl
    | decide
    | with_reducible apply moves_step (finishLoad_moves ..)
    | with_reducible refine moves_ite ?_ ?_
    | with_reducible refine resultMoves_next ?_

theorem execCardRemoved_moves (s : State) :
    ResultMoves 0xc600006 s (execCardRemoved s) := by
  unfold execCardRemoved
  repeat' first
    | with_reducible exact moves_refl
    | decide
    | with_reducible apply moves_step (emit_moves ..)
    | with_reducible apply moves_step (drawFree_moves ..)
    | with_reducible apply moves_step (failLoad_moves ..)
    | with_reducible refine moves_ite ?_ ?_
    | with_reducible refine resultMoves_next ?_
    | fail_if_no_progress
        (with_reducible apply moves_frame)
        all_goals try first | with_reducible exact rfl | exact moves_absurd rfl | with_reducible exact fun _ => rfl

theorem execLockWaitExpired_moves (s : State) :
    ResultMoves 0x200004 s (execLockWaitExpired s) := by
  unfold execLockWaitExpired
  repeat' first
    | with_reducible exact moves_refl
    | decide
    | with_reducible apply moves_step (emit_moves ..)
    | with_reducible refine moves_ite ?_ ?_
    | with_reducible refine resultMoves_next ?_
    | fail_if_no_progress
        (with_reducible apply moves_frame)
        all_goals try first | with_reducible exact rfl | exact moves_absurd rfl | with_reducible exact fun _ => rfl

theorem scheduleStart_moves (s : State) :
    Moves 0x4 s (scheduleStart s) := by
  unfold scheduleStart
  repeat' first
    | with_reducible exact moves_refl
    | fail_if_no_progress
        (with_reducible apply moves_frame)
        all_goals try first | with_reducible exact rfl | exact moves_absurd rfl | with_reducible exact fun _ => rfl

theorem execStartConditionMet_moves (peer : Bool) (s : State) :
    ResultMoves 0x80b16 s (execStartConditionMet peer s) := by
  unfold execStartConditionMet
  repeat' first
    | with_reducible exact moves_refl
    | decide
    | with_reducible apply moves_step (setF_moves ..)
    | with_reducible apply moves_step (scheduleStart_moves ..)
    | with_reducible apply moves_step (startJoin_moves ..)
    | with_reducible refine moves_ite ?_ ?_
    | with_reducible refine resultMoves_next ?_

theorem execGoLive_moves (s : State) :
    ResultMoves 0x5c6efffe s (execGoLive s) := by
  unfold execGoLive
  repeat' first
    | with_reducible exact moves_refl
    | decide
    | with_reducible apply moves_step (enterLive_moves ..)
    | with_reducible apply moves_step (digitalFirst_moves ..)
    | with_reducible apply moves_step (beginTick_moves ..)
    | with_reducible apply moves_step (emit_moves ..)
    | with_reducible refine resultMoves_next ?_
    | fail_if_no_progress
        (with_reducible apply moves_frame)
        all_goals try first | with_reducible exact rfl | exact moves_absurd rfl | with_reducible exact fun _ => rfl
    | split

theorem cmdGo_moves (c : Caller) (a0 : Nat) (s : State) :
    Moves 0xa00006 s (cmdGo c a0 s).1 := by
  unfold cmdGo
  repeat' first
    | with_reducible assumption
    | with_reducible exact moves_refl
    | with_reducible refine bodyMoves_ok ?_
    | with_reducible refine runCommand_moves _ _ _ _ _ _ _ _ rfl ?_ (fun _ _ => ?_)
    | fail_if_no_progress
        (with_reducible apply moves_frame)
        all_goals try first | with_reducible exact rfl | exact moves_absurd rfl | with_reducible exact fun _ => rfl

theorem execGo_moves (c : Caller) (a0 : Nat) (s : State) :
    ResultMoves 0xa00006 s (execGo c a0 s) := by
  unfold execGo
  repeat' first
    | with_reducible exact moves_refl
    | decide
    | with_reducible apply moves_step (cmdGo_moves ..)
    | with_reducible refine resultMoves_next ?_

theorem thenRestart_moves {m : Nat} {q : State} (b : Bool) (x : State × Reply) (hm : sub 0x7ffffffe m = true)
    (h : Moves m q x.1) : Moves m q (thenRestart b x).1 := by
  unfold thenRestart
  split
  · exact moves_step (restart_moves ..) hm h
  · exact h

theorem cmdRestart_moves (c : Caller) (a0 : Nat) (s : State) :
    Moves 0x7ffffffe s (cmdRestart c a0 s).1 := by
  unfold cmdRestart
  repeat' first
    | with_reducible assumption
    | with_reducible exact moves_refl
    | with_reducible refine thenRestart_moves _ _ rfl ?_
    | with_reducible refine bodyMoves_ok ?_
    | with_reducible refine runCommand_moves _ _ _ _ _ _ _ _ rfl ?_ (fun _ _ => ?_)

theorem execRestart_moves (c : Caller) (a0 : Nat) (s : State) :
    ResultMoves 0x7ffffffe s (execRestart c a0 s) := by
  unfold execRestart
  repeat' first
    | with_reducible exact moves_refl
    | decide
    | with_reducible apply moves_step (cmdRestart_moves ..)
    | with_reducible refine resultMoves_next ?_

theorem cmdMaintenance_moves (c : Caller) (a0 : Nat) (s : State) :
    Moves 0x7ffffffe s (cmdMaintenance c a0 s).1 := by
  unfold cmdMaintenance
  repeat' first
    | with_reducible assumption
    | with_reducible exact moves_refl
    | with_reducible refine thenRestart_moves _ _ rfl ?_
    | with_reducible refine bodyMoves_ok ?_
    | with_reducible refine runCommand_moves _ _ _ _ _ _ _ _ rfl ?_ (fun _ _ => ?_)

theorem execMaintenance_moves (c : Caller) (a0 : Nat) (s : State) :
    ResultMoves 0x7ffffffe s (execMaintenance c a0 s) := by
  unfold execMaintenance
  repeat' first
    | with_reducible exact moves_refl
    | decide
    | with_reducible apply moves_step (cmdMaintenance_moves ..)
    | with_reducible refine resultMoves_next ?_

theorem cmdDiscardSpliceLog_moves (c : Caller) (a0 : Nat) (s : State) :
    Moves 0x20a00082 s (cmdDiscardSpliceLog c a0 s).1 := by
  unfold cmdDiscardSpliceLog
  repeat' first
    | with_reducible assumption
    | with_reducible exact moves_refl
    | decide
    | with_reducible apply moves_step (spliceReset_moves ..)
    | with_reducible refine bodyMoves_ok ?_
    | with_reducible refine runCommand_moves _ _ _ _ _ _ _ _ rfl ?_ (fun _ _ => ?_)

theorem execDiscardSpliceLog_moves (c : Caller) (a0 : Nat) (s : State) :
    ResultMoves 0x20a00082 s (execDiscardSpliceLog c a0 s) := by
  unfold execDiscardSpliceLog
  repeat' first
    | with_reducible exact moves_refl
    | decide
    | with_reducible apply moves_step (cmdDiscardSpliceLog_moves ..)
    | with_reducible refine resultMoves_next ?_

theorem txnCommand_moves (op : Nat) (c : Caller) (a0 a1 a2 : Nat) (s : State) :
    Moves 0x7ffffffe s (txnCommand op c a0 a1 a2 s).1 := by
  unfold txnCommand
  repeat' first
    | with_reducible exact moves_refl
    | decide
    | with_reducible apply moves_step (cmdOpen_moves ..)
    | with_reducible apply moves_step (cmdStage_moves ..)
    | with_reducible apply moves_step (cmdCommit_moves ..)
    | with_reducible apply moves_step (cmdCut_moves ..)
    | with_reducible apply moves_step (cmdReadTunable_moves ..)
    | with_reducible apply moves_step (cmdGo_moves ..)
    | with_reducible apply moves_step (cmdRestart_moves ..)
    | with_reducible apply moves_step (cmdMaintenance_moves ..)
    | with_reducible apply moves_step (cmdDiscardSpliceLog_moves ..)
    | with_reducible apply moves_step (refuseOpcode_moves ..)
    | split

theorem execTamperOpen_moves (s : State) :
    ResultMoves 0x7ffffffe s (execTamperOpen s) := by
  unfold execTamperOpen
  repeat' first
    | with_reducible exact moves_refl
    | decide
    | with_reducible apply moves_step (tamperOpen_moves ..)
    | with_reducible apply moves_step (tamperResponse_moves ..)
    | with_reducible apply moves_step (showSecHealth_moves ..)
    | with_reducible refine moves_ite ?_ ?_
    | with_reducible refine resultMoves_next ?_

theorem domainsOff_moves (ds : List Nat) (s : State) :
    Moves 0x380062 s (domainsOff ds s) := by
  unfold domainsOff
  repeat' first
    | with_reducible assumption
    | with_reducible exact moves_refl
    | decide
    | with_reducible refine moves_foldl ?_ (fun _ _ _ => ?_)
    | with_reducible apply moves_step (settleCrossings_moves ..)
    | with_reducible apply moves_step (setBit_moves ..)

theorem dropUnitWork_moves (us : List Nat) (s : State) :
    Moves 0x10 s (dropUnitWork us s) := by
  unfold dropUnitWork
  repeat' first
    | with_reducible exact moves_refl
    | fail_if_no_progress
        (with_reducible apply moves_frame)
        all_goals try first | with_reducible exact rfl | exact moves_absurd rfl | with_reducible exact fun _ => rfl

theorem startPowerFail_moves (cause : Nat) (s : State) :
    Moves 0x1600006 s (startPowerFail cause s) := by
  unfold startPowerFail
  repeat' first
    | with_reducible exact moves_refl
    | decide
    | with_reducible apply moves_step (setF_moves ..)
    | with_reducible apply moves_step (bumpF_moves ..)
    | with_reducible apply moves_step (triggerFlush_moves ..)
    | with_reducible apply moves_step (emit_moves ..)
    | fail_if_no_progress
        (with_reducible apply moves_frame)
        all_goals try first | with_reducible exact rfl | exact moves_absurd rfl | with_reducible exact fun _ => rfl

theorem showSupply_moves (aMv bMv : Nat) (s : State) :
    Moves 0x2 s (showSupply aMv bMv s) := by
  unfold showSupply
  repeat' first
    | with_reducible exact moves_refl
    | decide
    | with_reducible apply moves_step (putFields_moves ..)

theorem showInput_moves (x : Nat) (good : Bool) (s : State) :
    Moves 0x1000002 s (showInput x good s) := by
  unfold showInput
  repeat' first
    | with_reducible exact moves_refl
    | decide
    | with_reducible apply moves_step (setF_moves ..)
    | fail_if_no_progress
        (with_reducible apply moves_frame)
        all_goals try first | with_reducible exact rfl | exact moves_absurd rfl | with_reducible exact fun _ => rfl

theorem execPowerFailStarted_moves (aMv bMv mw : Nat) (s : State) :
    ResultMoves 0x1600006 s (execPowerFailStarted aMv bMv mw s) := by
  unfold execPowerFailStarted
  repeat' first
    | with_reducible exact moves_refl
    | decide
    | with_reducible apply moves_step (setF_moves ..)
    | with_reducible apply moves_step (startPowerFail_moves ..)
    | with_reducible apply moves_step (showSupply_moves ..)
    | with_reducible apply moves_step (showInput_moves ..)
    | with_reducible refine moves_ite ?_ ?_
    | with_reducible refine resultMoves_next ?_

theorem shedLongReach_moves (s : State) :
    Moves 0x390062 s (shedLongReach s) := by
  unfold shedLongReach
  repeat' first
    | with_reducible exact moves_refl
    | decide
    | with_reducible apply moves_step (setF_moves ..)
    | with_reducible apply moves_step (domainsOff_moves ..)
    | with_reducible apply moves_step (lrpOff_moves ..)

theorem shedJuggler_moves (s : State) :
    Moves 0x380b72 s (shedJuggler s) := by
  unfold shedJuggler
  repeat' first
    | with_reducible exact moves_refl
    | decide
    | with_reducible apply moves_step (setF_moves ..)
    | with_reducible apply moves_step (domainsOff_moves ..)
    | with_reducible apply moves_step (dropUnitWork_moves ..)
    | with_reducible apply moves_step (abandonWork_moves ..)

theorem shedNetworks_moves (s : State) :
    Moves 0x3c0072 s (shedNetworks s) := by
  unfold shedNetworks
  repeat' first
    | with_reducible exact moves_refl
    | decide
    | with_reducible apply moves_step (setF_moves ..)
    | with_reducible apply moves_step (domainsOff_moves ..)
    | with_reducible apply moves_step (dropUnitWork_moves ..)
    | with_reducible apply moves_step (canStop_moves ..)
    | with_reducible apply moves_step (stnStop_moves ..)

theorem shedField_moves (s : State) :
    Moves 0x4785072 s (shedField s) := by
  unfold shedField
  repeat' first
    | with_reducible exact moves_refl
    | decide
    | with_reducible apply moves_step (setF_moves ..)
    | with_reducible apply moves_step (botStop_moves ..)
    | with_reducible apply moves_step (boeStop_moves ..)
    | with_reducible apply moves_step (dropUnitWork_moves ..)
    | with_reducible apply moves_step (startMeasuring_moves ..)
    | with_reducible apply moves_step (domainsOff_moves ..)

theorem shedGroup_moves (step : Nat) (s : State) :
    Moves 0x47d5b72 s (shedGroup step s) := by
  unfold shedGroup
  repeat' first
    | with_reducible exact moves_refl
    | decide
    | with_reducible apply moves_step (shedLongReach_moves ..)
    | with_reducible apply moves_step (shedJuggler_moves ..)
    | with_reducible apply moves_step (shedNetworks_moves ..)
    | with_reducible apply moves_step (shedField_moves ..)
    | split

theorem execPowerFailShed_moves (s : State) :
    ResultMoves 0x57d5b72 s (execPowerFailShed s) := by
  unfold execPowerFailShed
  repeat' first
    | with_reducible exact moves_refl
    | decide
    | with_reducible apply moves_step (shedGroup_moves ..)
    | with_reducible refine moves_ite ?_ ?_
    | with_reducible refine resultMoves_next ?_
    | fail_if_no_progress
        (with_reducible apply moves_frame)
        all_goals try first | with_reducible exact rfl | exact moves_absurd rfl | with_reducible exact fun _ => rfl

theorem goDark_moves (s : State) :
    Moves 0x3bfffffe s (goDark s) := by
  unfold goDark
  repeat' first
    | with_reducible exact moves_refl
    | decide
    | with_reducible apply moves_step (setF_moves ..)
    | with_reducible apply moves_step (resetState_moves ..)
    | with_reducible apply moves_step (abandonAhead_moves ..)
    | with_reducible apply moves_step (startMeasuring_moves ..)
    | with_reducible apply moves_step (resetFields_moves ..)
    | fail_if_no_progress
        (with_reducible apply moves_frame)
        all_goals try first | with_reducible exact rfl | exact moves_absurd rfl | with_reducible exact fun _ => rfl

theorem execPowerFailOff_moves (s : State) :
    ResultMoves 0x3bfffffe s (execPowerFailOff s) := by
  unfold execPowerFailOff
  repeat' first
    | with_reducible exact moves_refl
    | decide
    | with_reducible apply moves_step (goDark_moves ..)
    | with_reducible refine moves_ite ?_ ?_
    | with_reducible refine resultMoves_next ?_

theorem execHoldUpExhausted_moves (s : State) :
    ResultMoves 0x3bfffffe s (execHoldUpExhausted s) := by
  unfold execHoldUpExhausted
  repeat' first
    | with_reducible exact moves_refl
    | decide
    | with_reducible apply moves_step (goDark_moves ..)
    | with_reducible refine moves_ite ?_ ?_
    | with_reducible refine resultMoves_next ?_

theorem putSupply_moves (x mv : Nat) (s : State) :
    Moves 0x2 s (putSupply x mv s) := by
  unfold putSupply
  repeat' first
    | with_reducible exact moves_refl
    | decide
    | with_reducible apply moves_step (setF_moves ..)

theorem execInputLost_moves (x mv : Nat) (s : State) :
    ResultMoves 0x1600002 s (execInputLost x mv s) := by
  unfold execInputLost
  repeat' first
    | with_reducible exact moves_refl
    | decide
    | with_reducible apply moves_step (supplyHealth_moves ..)
    | with_reducible apply moves_step (emit_moves ..)
    | with_reducible apply moves_step (bumpF_moves ..)
    | with_reducible apply moves_step (showInput_moves ..)
    | with_reducible apply moves_step (putSupply_moves ..)
    | with_reducible refine moves_ite ?_ ?_
    | with_reducible refine resultMoves_next ?_

theorem execInputRestored_moves (x mv : Nat) (s : State) :
    ResultMoves 0x1600002 s (execInputRestored x mv s) := by
  unfold execInputRestored
  repeat' first
    | with_reducible exact moves_refl
    | decide
    | with_reducible apply moves_step (supplyHealth_moves ..)
    | with_reducible apply moves_step (emit_moves ..)
    | with_reducible apply moves_step (showInput_moves ..)
    | with_reducible apply moves_step (putSupply_moves ..)
    | with_reducible refine moves_ite ?_ ?_
    | with_reducible refine resultMoves_next ?_
    | fail_if_no_progress
        (with_reducible apply moves_frame)
        all_goals try first | with_reducible exact rfl | exact moves_absurd rfl | with_reducible exact fun _ => rfl

theorem execInputOvervoltage_moves (x mv : Nat) (s : State) :
    ResultMoves 0x1000002 s (execInputOvervoltage x mv s) := by
  unfold execInputOvervoltage
  repeat' first
    | with_reducible exact moves_refl
    | decide
    | with_reducible apply moves_step (putSupply_moves ..)
    | with_reducible refine moves_ite ?_ ?_
    | with_reducible refine resultMoves_next ?_
    | fail_if_no_progress
        (with_reducible apply moves_frame)
        all_goals try first | with_reducible exact rfl | exact moves_absurd rfl | with_reducible exact fun _ => rfl

theorem execPllUnlocked_moves (p : Nat) (s : State) :
    ResultMoves 0x2d6d1b96 s (execPllUnlocked p s) := by
  unfold execPllUnlocked
  repeat' first
    | with_reducible assumption
    | with_reducible exact moves_refl
    | decide
    | with_reducible refine moves_foldl ?_ (fun _ _ _ => ?_)
    | with_reducible apply moves_step (emit_moves ..)
    | with_reducible apply moves_step (setBit_moves ..)
    | with_reducible apply moves_step (setFailedSticky_moves ..)
    | with_reducible apply moves_step (boeClockStop_moves ..)
    | with_reducible apply moves_step (enterFaultSafe_moves ..)
    | with_reducible refine moves_ite ?_ ?_
    | with_reducible refine resultMoves_next ?_
    | fail_if_no_progress
        (with_reducible apply moves_frame)
        all_goals try first | with_reducible exact rfl | exact moves_absurd rfl | with_reducible exact fun _ => rfl

theorem execPllRelocked_moves (p : Nat) (s : State) :
    ResultMoves 0x1380062 s (execPllRelocked p s) := by
  unfold execPllRelocked
  repeat' first
    | with_reducible exact moves_refl
    | decide
    | with_reducible apply moves_step (settleCrossings_moves ..)
    | with_reducible apply moves_step (setBit_moves ..)
    | with_reducible refine moves_ite ?_ ?_
    | with_reducible refine resultMoves_next ?_
    | fail_if_no_progress
        (with_reducible apply moves_frame)
        all_goals try first | with_reducible exact rfl | exact moves_absurd rfl | with_reducible exact fun _ => rfl

theorem execReferenceLost_moves (us : Nat) (s : State) :
    ResultMoves 0x2c6d1b96 s (execReferenceLost us s) := by
  unfold execReferenceLost
  repeat' first
    | with_reducible exact moves_refl
    | decide
    | with_reducible apply moves_step (enterFaultSafe_moves ..)
    | with_reducible apply moves_step (releaseAir_moves ..)
    | with_reducible apply moves_step (emit_moves ..)
    | with_reducible refine moves_ite ?_ ?_
    | with_reducible refine resultMoves_next ?_
    | fail_if_no_progress
        (with_reducible apply moves_frame)
        all_goals try first | with_reducible exact rfl | exact moves_absurd rfl | with_reducible exact fun _ => rfl

theorem execReferenceReturned_moves (s : State) :
    ResultMoves 0x7ffffffe s (execReferenceReturned s) := by
  unfold execReferenceReturned
  repeat' first
    | with_reducible exact moves_refl
    | decide
    | with_reducible apply moves_step (restart_moves ..)
    | with_reducible refine resultMoves_next ?_
    | fail_if_no_progress
        (with_reducible apply moves_frame)
        all_goals try first | with_reducible exact rfl | exact moves_absurd rfl | with_reducible exact fun _ => rfl
    | split

theorem showBase_moves (t : Int) (s : State) :
    Moves 0x2 s (showBase t s) := by
  unfold showBase
  repeat' first
    | with_reducible exact moves_refl
    | decide
    | with_reducible apply moves_step (putFields_moves ..)

theorem execTempHigh_moves (t : Int) (s : State) :
    ResultMoves 0x600002 s (execTempHigh t s) := by
  unfold execTempHigh
  repeat' first
    | with_reducible exact moves_refl
    | decide
    | with_reducible apply moves_step (setF_moves ..)
    | with_reducible apply moves_step (supplyHealth_moves ..)
    | with_reducible apply moves_step (emit_moves ..)
    | with_reducible apply moves_step (showBase_moves ..)
    | with_reducible refine moves_ite ?_ ?_
    | with_reducible refine resultMoves_next ?_

theorem execTempNormal_moves (t : Int) (s : State) :
    ResultMoves 0x600002 s (execTempNormal t s) := by
  unfold execTempNormal
  repeat' first
    | with_reducible exact moves_refl
    | decide
    | with_reducible apply moves_step (setF_moves ..)
    | with_reducible apply moves_step (supplyHealth_moves ..)
    | with_reducible apply moves_step (emit_moves ..)
    | with_reducible apply moves_step (showBase_moves ..)
    | with_reducible refine moves_ite ?_ ?_
    | with_reducible refine resultMoves_next ?_

theorem execTempFailed_moves (t : Int) (s : State) :
    ResultMoves 0x600002 s (execTempFailed t s) := by
  unfold execTempFailed
  repeat' first
    | with_reducible exact moves_refl
    | decide
    | with_reducible apply moves_step (setF_moves ..)
    | with_reducible apply moves_step (supplyHealth_moves ..)
    | with_reducible apply moves_step (emit_moves ..)
    | with_reducible apply moves_step (showBase_moves ..)
    | with_reducible refine moves_ite ?_ ?_
    | with_reducible refine resultMoves_next ?_

theorem execThermalShutdown_moves (t : Int) (s : State) :
    ResultMoves 0x1600006 s (execThermalShutdown t s) := by
  unfold execThermalShutdown
  repeat' first
    | with_reducible exact moves_refl
    | decide
    | with_reducible apply moves_step (startPowerFail_moves ..)
    | with_reducible apply moves_step (emit_moves ..)
    | with_reducible apply moves_step (showBase_moves ..)
    | with_reducible refine moves_ite ?_ ?_
    | with_reducible refine resultMoves_next ?_

end Sys2Proof.Machine
end

