-- ==== Sys2Proof/Laws/MovesHost.lean ====
section
/-! SUPPORT. Which parts of the state the operations of the commands of SEC and HOST change, and that they keep
its form. -/

namespace Sys2Proof.Machine

open Sys2Proof

theorem putOutput_moves (c : Caller) (ws : List Nat) (s : State) :
    Moves 0x800002 s (putOutput c ws s) := by
  unfold putOutput
  repeat' first
    | with_reducible assumption
    | with_reducible exact moves_refl
    | decide
    | with_reducible refine moves_foldl ?_ (fun _ _ _ => ?_)
    | with_reducible apply moves_step (setF_moves ..)
    | with_reducible apply moves_step (updSec_moves _ _ (fun _ => by simp))
    | split

theorem drawWords_moves (n : Nat) (s : State) : Moves 0x4000000 s (drawWords n s).2 := by
  induction n generalizing s with
  | zero => exact moves_refl
  | succ n ih => exact moves_step (ih _) rfl (moves_step (drawFree_moves ..) rfl moves_refl)

theorem refuse_moves (code : Nat) (s : State) :
    Moves 0x0 s (refuse code s).1 := by
  unfold refuse
  repeat' (with_reducible exact moves_refl)

theorem sessionResponse_moves (id : Nat) (request : List Nat) (q : SessionRequest) (s : State) :
    Moves 0x4000000 s (sessionResponse id request q s).2 := by
  unfold sessionResponse
  repeat' first
    | with_reducible exact moves_refl
    | decide
    | with_reducible apply moves_step (drawWords_moves ..)

theorem fillSession_moves (k id role transport state cred : Nat) (h1 keys : List Nat) (s : State) :
    Moves 0x800002 s (fillSession k id role transport state cred h1 keys s) := by
  unfold fillSession
  repeat' first
    | with_reducible exact moves_refl
    | decide
    | with_reducible apply moves_step (putFields_moves ..)
    | with_reducible apply moves_step (updSec_moves _ _ (fun _ => by simp [listUpd]))

theorem openSession_moves (k : Nat) (s : State) :
    Moves 0xe00082 s (openSession k s) := by
  unfold openSession
  repeat' first
    | with_reducible exact moves_refl
    | decide
    | with_reducible apply moves_step (setF_moves ..)
    | with_reducible apply moves_step (endSession_moves ..)
    | with_reducible apply moves_step (updSec_moves _ _ (fun _ => by simp [listUpd]))
    | with_reducible apply moves_step (emit_moves ..)
    | split

theorem createSession_moves (c : Caller) (request : List Nat) (q : SessionRequest) (claim : Bool) (s : State) :
    Moves 0x4e00082 s (createSession c request q claim s).1 := by
  unfold createSession
  repeat' first
    | with_reducible exact moves_refl
    | decide
    | with_reducible apply moves_step (refuse_moves ..)
    | with_reducible apply moves_step (sessionResponse_moves ..)
    | with_reducible apply moves_step (fillSession_moves ..)
    | with_reducible apply moves_step (putOutput_moves ..)
    | with_reducible apply moves_step (openSession_moves ..)
    | split

theorem beginBody_moves (c : Caller) (ws : List Nat) (s : State) :
    Moves 0x4e00082 s (beginBody c ws s).1 := by
  unfold beginBody
  repeat' first
    | with_reducible exact moves_refl
    | decide
    | with_reducible apply moves_step (refuse_moves ..)
    | with_reducible apply moves_step (createSession_moves ..)
    | with_reducible apply moves_step (authFailed_moves ..)
    | split
    | (dsimp only; split)

theorem proveBody_moves (c : Caller) (ws : List Nat) (s : State) :
    Moves 0xe00082 s (proveBody c ws s).1 := by
  unfold proveBody
  repeat' first
    | with_reducible exact moves_refl
    | decide
    | with_reducible apply moves_step (refuse_moves ..)
    | with_reducible apply moves_step (openSession_moves ..)
    | with_reducible apply moves_step (authFailed_moves ..)
    | split
    | (dsimp only; split)

theorem closeBody_moves (c : Caller) (s : State) :
    Moves 0xe00082 s (closeBody c s).1 := by
  unfold closeBody
  repeat' first
    | with_reducible exact moves_refl
    | decide
    | with_reducible apply moves_step (endSession_moves ..)
    | split

theorem endClaims_moves (s : State) :
    Moves 0xe00082 s (endClaims s) := by
  unfold endClaims
  repeat' first
    | with_reducible assumption
    | with_reducible exact moves_refl
    | decide
    | with_reducible refine moves_foldl ?_ (fun _ _ _ => ?_)
    | with_reducible apply moves_step (endSession_moves ..)
    | with_reducible refine moves_ite ?_ ?_

theorem installBody_moves (c : Caller) (ws : List Nat) (s : State) :
    Moves 0xe00082 s (installBody c ws s).1 := by
  unfold installBody
  repeat' first
    | with_reducible exact moves_refl
    | decide
    | with_reducible apply moves_step (refuse_moves ..)
    | with_reducible apply moves_step (putKey_moves ..)
    | with_reducible apply moves_step (emit_moves ..)
    | with_reducible apply moves_step (endClaims_moves ..)
    | with_reducible refine moves_ite ?_ ?_
    | split

theorem deleteBody_moves (a0 a1 : Nat) (s : State) :
    Moves 0xe00082 s (deleteBody a0 a1 s).1 := by
  unfold deleteBody
  repeat' first
    | with_reducible exact moves_refl
    | decide
    | with_reducible apply moves_step (refuse_moves ..)
    | with_reducible apply moves_step (emit_moves ..)
    | with_reducible apply moves_step (putKey_moves ..)
    | with_reducible apply moves_step (endCredential_moves ..)
    | split
    | (dsimp only; split)

theorem infoBody_moves (c : Caller) (a0 : Nat) (s : State) :
    Moves 0x800002 s (infoBody c a0 s).1 := by
  unfold infoBody
  repeat' first
    | with_reducible exact moves_refl
    | decide
    | with_reducible apply moves_step (refuse_moves ..)
    | with_reducible apply moves_step (putOutput_moves ..)
    | split

theorem certBody_moves (c : Caller) (s : State) :
    Moves 0x800002 s (certBody c s).1 := by
  unfold certBody
  repeat' first
    | with_reducible exact moves_refl
    | decide
    | with_reducible apply moves_step (putOutput_moves ..)

theorem attestBody_moves (c : Caller) (ws : List Nat) (s : State) :
    Moves 0x4800002 s (attestBody c ws s).1 := by
  unfold attestBody
  repeat' first
    | with_reducible exact moves_refl
    | decide
    | with_reducible apply moves_step (drawWords_moves ..)
    | with_reducible apply moves_step (putOutput_moves ..)

theorem randomBody_moves (c : Caller) (a0 : Nat) (s : State) :
    Moves 0x4800002 s (randomBody c a0 s).1 := by
  unfold randomBody
  repeat' first
    | with_reducible exact moves_refl
    | decide
    | with_reducible apply moves_step (refuse_moves ..)
    | with_reducible apply moves_step (drawWords_moves ..)
    | with_reducible apply moves_step (putOutput_moves ..)
    | split

theorem writeChunk_moves (slot offset : Nat) (bytes : List Nat) (last : Bool) (s : State) :
    Moves 0x800000 s (writeChunk slot offset bytes last s) := by
  unfold writeChunk
  repeat' first
    | with_reducible exact moves_refl
    | decide
    | with_reducible apply moves_step (updSec_moves _ _ (fun _ => by simp))

theorem dropImage_moves (slot : Nat) (s : State) :
    Moves 0x800000 s (dropImage slot s) := by
  unfold dropImage
  repeat' first
    | with_reducible exact moves_refl
    | decide
    | with_reducible apply moves_step (updSec_moves _ _ (fun _ => by simp))

theorem microcodeBody_moves (a0 a1 a2 : Nat) (ws : List Nat) (s : State) :
    Moves 0xa00000 s (microcodeBody a0 a1 a2 ws s).1 := by
  unfold microcodeBody
  repeat' first
    | with_reducible exact moves_refl
    | decide
    | with_reducible apply moves_step (refuse_moves ..)
    | with_reducible apply moves_step (writeChunk_moves ..)
    | with_reducible apply moves_step (emit_moves ..)
    | with_reducible apply moves_step (dropImage_moves ..)
    | split
    | (dsimp only; split)

theorem minVersionBody_moves (s : State) :
    Moves 0x200002 s (minVersionBody s).1 := by
  unfold minVersionBody
  repeat' first
    | with_reducible exact moves_refl
    | decide
    | with_reducible apply moves_step (setF_moves ..)
    | with_reducible apply moves_step (refuse_moves ..)
    | with_reducible apply moves_step (emit_moves ..)
    | split
    | (dsimp only; split)

theorem tokenBody_moves (ws : List Nat) (s : State) :
    Moves 0x0 s (tokenBody ws s).1 := by
  unfold tokenBody
  repeat' first
    | with_reducible exact moves_refl
    | decide
    | with_reducible apply moves_step (refuse_moves ..)
    | (dsimp only; split)

theorem debugOpen_moves (s : State) :
    Moves 0x7ffffffe s (debugOpen s) := by
  unfold debugOpen
  repeat' first
    | with_reducible exact moves_refl
    | decide
    | with_reducible apply moves_step (setF_moves ..)
    | with_reducible apply moves_step (restart_moves ..)
    | with_reducible apply moves_step (emit_moves ..)
    | with_reducible apply moves_step (showCertified_moves ..)
    | with_reducible apply moves_step (eraseKeys_moves ..)

theorem secBody_moves (x : SecCall) (s : State) :
    Moves 0x4e00082 s (secBody x s).1 := by
  unfold secBody
  repeat' first
    | with_reducible exact moves_refl
    | decide
    | with_reducible apply moves_step (beginBody_moves ..)
    | with_reducible apply moves_step (proveBody_moves ..)
    | with_reducible apply moves_step (closeBody_moves ..)
    | with_reducible apply moves_step (installBody_moves ..)
    | with_reducible apply moves_step (deleteBody_moves ..)
    | with_reducible apply moves_step (infoBody_moves ..)
    | with_reducible apply moves_step (certBody_moves ..)
    | with_reducible apply moves_step (attestBody_moves ..)
    | with_reducible apply moves_step (randomBody_moves ..)
    | with_reducible apply moves_step (microcodeBody_moves ..)
    | with_reducible apply moves_step (minVersionBody_moves ..)
    | with_reducible apply moves_step (tokenBody_moves ..)
    | split

theorem secFinish_moves (x : SecCall) (s : State) :
    Moves 0x4e00082 s (secFinish x s).1 := by
  unfold secFinish
  repeat' first
    | with_reducible exact moves_refl
    | decide
    | with_reducible apply moves_step (secBody_moves ..)
    | with_reducible apply moves_step (emit_moves ..)
    | with_reducible refine moves_ite ?_ ?_

theorem secAfter_moves {m : Nat} {q : State} (op : Nat) (x : State × Reply) (hm : sub 0x7ffffffe m = true)
    (h : Moves m q x.1) : Moves m q (secAfter op x).1 := by
  have inner {a : Nat} (ha : sub a 0x7ffffffe = true) : sub a m = true := sub_trans ha hm
  unfold secAfter
  split
  · exact h
  · split
    · dsimp only
      exact moves_step (zeroise_moves ..) (inner rfl) h
    · split
      · dsimp only
        exact moves_step (debugOpen_moves ..) (inner rfl) h
      · exact h

theorem runSec_moves (op : Nat) (c : Caller) (a0 a1 a2 : Nat) (slow : Bool) (roles : Option (List Nat)) (legal : Bool)
    (s : State) : Moves 0x7ffffffe s (runSec op c a0 a1 a2 slow roles legal s).1 := by
  refine secAfter_moves _ _ rfl (runCommand_moves _ _ _ _ _ _ _ _ rfl moves_refl (fun t ht => ?_))
  dsimp only
  split
  · exact bodyMoves_error _
  · split
    · exact bodyMoves_ok (moves_step (updSec_moves _ _ (fun _ => rfl)) rfl ht)
    · intro u r v e
      cases e
      exact moves_step (secFinish_moves ..) rfl ht

theorem runSecPlain_moves (op : Nat) (c : Caller) (a0 a1 a2 : Nat) (slow : Bool) (roles : Option (List Nat)) (legal : Bool)
    (s : State) (h1 : op ≠ 0x13) (h2 : op ≠ 0x40) : Moves 0x4e00082 s (runSec op c a0 a1 a2 slow roles legal s).1 := by
  have e : ∀ x : State × Reply, secAfter op x = x := fun x => by unfold secAfter; split <;> simp [h1, h2]
  unfold runSec
  rw [e]
  refine runCommand_moves _ _ _ _ _ _ _ _ rfl moves_refl (fun t ht => ?_)
  dsimp only
  split
  · exact bodyMoves_error _
  · split
    · exact bodyMoves_ok (moves_step (updSec_moves _ _ (fun _ => rfl)) rfl ht)
    · intro u r v e
      cases e
      exact moves_step (secFinish_moves ..) rfl ht

theorem cmdSessionBegin_moves (c : Caller) (a0 : Nat) (slow : Bool) (s : State) :
    Moves 0x4e00082 s (cmdSessionBegin c a0 slow s).1 := by
  unfold cmdSessionBegin
  repeat' first
    | with_reducible exact moves_refl
    | decide
    | with_reducible apply moves_step (runSecPlain_moves _ _ _ _ _ _ _ _ _ (by decide) (by decide))

theorem cmdSessionProve_moves (c : Caller) (a0 : Nat) (slow : Bool) (s : State) :
    Moves 0x4e00082 s (cmdSessionProve c a0 slow s).1 := by
  unfold cmdSessionProve
  repeat' first
    | with_reducible exact moves_refl
    | decide
    | with_reducible apply moves_step (runSecPlain_moves _ _ _ _ _ _ _ _ _ (by decide) (by decide))

theorem cmdSessionClose_moves (c : Caller) (a0 : Nat) (slow : Bool) (s : State) :
    Moves 0x4e00082 s (cmdSessionClose c a0 slow s).1 := by
  unfold cmdSessionClose
  repeat' first
    | with_reducible exact moves_refl
    | decide
    | with_reducible apply moves_step (runSecPlain_moves _ _ _ _ _ _ _ _ _ (by decide) (by decide))

theorem cmdInstallKey_moves (c : Caller) (a0 : Nat) (slow : Bool) (s : State) :
    Moves 0x4e00082 s (cmdInstallKey c a0 slow s).1 := by
  unfold cmdInstallKey
  repeat' first
    | with_reducible exact moves_refl
    | decide
    | with_reducible apply moves_step (runSecPlain_moves _ _ _ _ _ _ _ _ _ (by decide) (by decide))

theorem cmdDeleteKey_moves (c : Caller) (a0 a1 : Nat) (slow : Bool) (s : State) :
    Moves 0x4e00082 s (cmdDeleteKey c a0 a1 slow s).1 := by
  unfold cmdDeleteKey
  repeat' first
    | with_reducible exact moves_refl
    | decide
    | with_reducible apply moves_step (runSecPlain_moves _ _ _ _ _ _ _ _ _ (by decide) (by decide))

theorem cmdKeyInfo_moves (c : Caller) (a0 : Nat) (slow : Bool) (s : State) :
    Moves 0x4e00082 s (cmdKeyInfo c a0 slow s).1 := by
  unfold cmdKeyInfo
  repeat' first
    | with_reducible exact moves_refl
    | decide
    | with_reducible apply moves_step (runSecPlain_moves _ _ _ _ _ _ _ _ _ (by decide) (by decide))

theorem cmdZeroise_moves (c : Caller) (a0 : Nat) (slow : Bool) (s : State) :
    Moves 0x7ffffffe s (cmdZeroise c a0 slow s).1 := by
  unfold cmdZeroise
  repeat' first
    | with_reducible exact moves_refl
    | decide
    | with_reducible apply moves_step (runSec_moves ..)

theorem cmdGetCert_moves (c : Caller) (a0 : Nat) (slow : Bool) (s : State) :
    Moves 0x4e00082 s (cmdGetCert c a0 slow s).1 := by
  unfold cmdGetCert
  repeat' first
    | with_reducible exact moves_refl
    | decide
    | with_reducible apply moves_step (runSecPlain_moves _ _ _ _ _ _ _ _ _ (by decide) (by decide))

theorem cmdAttest_moves (c : Caller) (a0 : Nat) (slow : Bool) (s : State) :
    Moves 0x4e00082 s (cmdAttest c a0 slow s).1 := by
  unfold cmdAttest
  repeat' first
    | with_reducible exact moves_refl
    | decide
    | with_reducible apply moves_step (runSecPlain_moves _ _ _ _ _ _ _ _ _ (by decide) (by decide))

theorem cmdRandom_moves (c : Caller) (a0 : Nat) (slow : Bool) (s : State) :
    Moves 0x4e00082 s (cmdRandom c a0 slow s).1 := by
  unfold cmdRandom
  repeat' first
    | with_reducible exact moves_refl
    | decide
    | with_reducible apply moves_step (runSecPlain_moves _ _ _ _ _ _ _ _ _ (by decide) (by decide))

theorem cmdMicrocodeWrite_moves (c : Caller) (a0 a1 a2 : Nat) (slow : Bool) (s : State) :
    Moves 0x4e00082 s (cmdMicrocodeWrite c a0 a1 a2 slow s).1 := by
  unfold cmdMicrocodeWrite
  repeat' first
    | with_reducible exact moves_refl
    | decide
    | with_reducible apply moves_step (runSecPlain_moves _ _ _ _ _ _ _ _ _ (by decide) (by decide))

theorem cmdSetMinVersion_moves (c : Caller) (a0 : Nat) (slow : Bool) (s : State) :
    Moves 0x4e00082 s (cmdSetMinVersion c a0 slow s).1 := by
  unfold cmdSetMinVersion
  repeat' first
    | with_reducible exact moves_refl
    | decide
    | with_reducible apply moves_step (runSecPlain_moves _ _ _ _ _ _ _ _ _ (by decide) (by decide))

theorem cmdDebugUnlock_moves (c : Caller) (a0 : Nat) (slow : Bool) (s : State) :
    Moves 0x7ffffffe s (cmdDebugUnlock c a0 slow s).1 := by
  unfold cmdDebugUnlock
  repeat' first
    | with_reducible exact moves_refl
    | decide
    | with_reducible apply moves_step (runSec_moves ..)

theorem execSessionBegin_moves (c : Caller) (a0 : Nat) (slow : Bool) (s : State) :
    ResultMoves 0x4e00082 s (execSessionBegin c a0 slow s) := by
  unfold execSessionBegin
  repeat' first
    | with_reducible exact moves_refl
    | decide
    | with_reducible apply moves_step (cmdSessionBegin_moves ..)
    | with_reducible refine resultMoves_next ?_

theorem execSessionProve_moves (c : Caller) (a0 : Nat) (slow : Bool) (s : State) :
    ResultMoves 0x4e00082 s (execSessionProve c a0 slow s) := by
  unfold execSessionProve
  repeat' first
    | with_reducible exact moves_refl
    | decide
    | with_reducible apply moves_step (cmdSessionProve_moves ..)
    | with_reducible refine resultMoves_next ?_

theorem execSessionClose_moves (c : Caller) (a0 : Nat) (slow : Bool) (s : State) :
    ResultMoves 0x4e00082 s (execSessionClose c a0 slow s) := by
  unfold execSessionClose
  repeat' first
    | with_reducible exact moves_refl
    | decide
    | with_reducible apply moves_step (cmdSessionClose_moves ..)
    | with_reducible refine resultMoves_next ?_

theorem execInstallKey_moves (c : Caller) (a0 : Nat) (slow : Bool) (s : State) :
    ResultMoves 0x4e00082 s (execInstallKey c a0 slow s) := by
  unfold execInstallKey
  repeat' first
    | with_reducible exact moves_refl
    | decide
    | with_reducible apply moves_step (cmdInstallKey_moves ..)
    | with_reducible refine resultMoves_next ?_

theorem execDeleteKey_moves (c : Caller) (a0 a1 : Nat) (slow : Bool) (s : State) :
    ResultMoves 0x4e00082 s (execDeleteKey c a0 a1 slow s) := by
  unfold execDeleteKey
  repeat' first
    | with_reducible exact moves_refl
    | decide
    | with_reducible apply moves_step (cmdDeleteKey_moves ..)
    | with_reducible refine resultMoves_next ?_

theorem execKeyInfo_moves (c : Caller) (a0 : Nat) (slow : Bool) (s : State) :
    ResultMoves 0x4e00082 s (execKeyInfo c a0 slow s) := by
  unfold execKeyInfo
  repeat' first
    | with_reducible exact moves_refl
    | decide
    | with_reducible apply moves_step (cmdKeyInfo_moves ..)
    | with_reducible refine resultMoves_next ?_

theorem execZeroise_moves (c : Caller) (a0 : Nat) (slow : Bool) (s : State) :
    ResultMoves 0x7ffffffe s (execZeroise c a0 slow s) := by
  unfold execZeroise
  repeat' first
    | with_reducible exact moves_refl
    | decide
    | with_reducible apply moves_step (cmdZeroise_moves ..)
    | with_reducible refine resultMoves_next ?_

theorem execGetCert_moves (c : Caller) (a0 : Nat) (slow : Bool) (s : State) :
    ResultMoves 0x4e00082 s (execGetCert c a0 slow s) := by
  unfold execGetCert
  repeat' first
    | with_reducible exact moves_refl
    | decide
    | with_reducible apply moves_step (cmdGetCert_moves ..)
    | with_reducible refine resultMoves_next ?_

theorem execAttest_moves (c : Caller) (a0 : Nat) (slow : Bool) (s : State) :
    ResultMoves 0x4e00082 s (execAttest c a0 slow s) := by
  unfold execAttest
  repeat' first
    | with_reducible exact moves_refl
    | decide
    | with_reducible apply moves_step (cmdAttest_moves ..)
    | with_reducible refine resultMoves_next ?_

theorem execRandom_moves (c : Caller) (a0 : Nat) (slow : Bool) (s : State) :
    ResultMoves 0x4e00082 s (execRandom c a0 slow s) := by
  unfold execRandom
  repeat' first
    | with_reducible exact moves_refl
    | decide
    | with_reducible apply moves_step (cmdRandom_moves ..)
    | with_reducible refine resultMoves_next ?_

theorem execMicrocodeWrite_moves (c : Caller) (a0 a1 a2 : Nat) (slow : Bool) (s : State) :
    ResultMoves 0x4e00082 s (execMicrocodeWrite c a0 a1 a2 slow s) := by
  unfold execMicrocodeWrite
  repeat' first
    | with_reducible exact moves_refl
    | decide
    | with_reducible apply moves_step (cmdMicrocodeWrite_moves ..)
    | with_reducible refine resultMoves_next ?_

theorem execSetMinVersion_moves (c : Caller) (a0 : Nat) (slow : Bool) (s : State) :
    ResultMoves 0x4e00082 s (execSetMinVersion c a0 slow s) := by
  unfold execSetMinVersion
  repeat' first
    | with_reducible exact moves_refl
    | decide
    | with_reducible apply moves_step (cmdSetMinVersion_moves ..)
    | with_reducible refine resultMoves_next ?_

theorem execDebugUnlock_moves (c : Caller) (a0 : Nat) (slow : Bool) (s : State) :
    ResultMoves 0x7ffffffe s (execDebugUnlock c a0 slow s) := by
  unfold execDebugUnlock
  repeat' first
    | with_reducible exact moves_refl
    | decide
    | with_reducible apply moves_step (cmdDebugUnlock_moves ..)
    | with_reducible refine resultMoves_next ?_

theorem replyTo_moves (kind id tag op : Nat) (r : Reply) (s : State) :
    Moves 0x400000 s (replyTo kind id tag op r s) := by
  unfold replyTo
  repeat' first
    | with_reducible exact moves_refl
    | decide
    | with_reducible apply moves_step (sendMessage_moves ..)
    | with_reducible apply moves_step (sendResponse_moves ..)
    | with_reducible refine moves_ite ?_ ?_

theorem execSecCommandDone_moves (s : State) : ResultMoves 0x7ffffffe s (execSecCommandDone s) := by
  unfold execSecCommandDone
  refine resultMoves_next ?_
  split
  · exact moves_refl
  · rename_i x _
    have ht : Moves 0x7ffffffe s (secFinish x (updSec (fun p => { p with busy := none }) s)).1 :=
      moves_step (secFinish_moves ..) rfl (moves_step (updSec_moves _ _ (fun _ => rfl)) rfl moves_refl)
    generalize secFinish x _ = y at ht
    obtain ⟨t, code, ret⟩ := y
    dsimp only
    have h1 := moves_step (commandDone_moves 21 x.opcode none code ret _) rfl
      (moves_step (showResult_moves 21 x.opcode { result := code, ret := ret } t) rfl ht)
    refine secAfter_moves _ _ rfl ?_
    dsimp only
    split
    · refine moves_step (replyTo_moves ..) rfl ?_
      apply moves_frame h1 <;> first | exact rfl | exact moves_absurd rfl
    · exact h1

theorem execSessionProofTimeout_moves (k : Nat) (s : State) :
    ResultMoves 0xe00002 s (execSessionProofTimeout k s) := by
  unfold execSessionProofTimeout
  repeat' first
    | with_reducible exact moves_refl
    | decide
    | with_reducible apply moves_step (freeSession_moves ..)
    | with_reducible apply moves_step (authFailed_moves ..)
    | with_reducible refine moves_ite ?_ ?_
    | with_reducible refine resultMoves_next ?_

theorem execSessionEnded_moves (k : Nat) (s : State) :
    ResultMoves 0xe00082 s (execSessionEnded k s) := by
  unfold execSessionEnded
  repeat' first
    | with_reducible exact moves_refl
    | decide
    | with_reducible apply moves_step (endSession_moves ..)
    | with_reducible refine moves_ite ?_ ?_
    | with_reducible refine resultMoves_next ?_

theorem execLockoutExpired_moves (credential : Nat) (transport : Option Nat) (s : State) :
    ResultMoves 0x800000 s (execLockoutExpired credential transport s) := by
  unfold execLockoutExpired
  repeat' first
    | with_reducible exact moves_refl
    | decide
    | with_reducible apply moves_step (updSec_moves _ _ (fun _ => by simp))
    | with_reducible refine resultMoves_next ?_
    | split

theorem execSelfTestFailed_moves (which : Nat) (s : State) :
    ResultMoves 0x600002 s (execSelfTestFailed which s) := by
  unfold execSelfTestFailed
  repeat' first
    | with_reducible exact moves_refl
    | decide
    | with_reducible apply moves_step (setF_moves ..)
    | with_reducible apply moves_step (showCertified_moves ..)
    | with_reducible apply moves_step (showSecHealth_moves ..)
    | with_reducible apply moves_step (emit_moves ..)
    | with_reducible refine moves_ite ?_ ?_
    | with_reducible refine resultMoves_next ?_

theorem secCommand_moves (op : Nat) (c : Caller) (a0 a1 a2 : Nat) (slow : Bool) (s : State) :
    Moves 0x7ffffffe s (secCommand op c a0 a1 a2 slow s).1 := by
  unfold secCommand
  repeat' first
    | with_reducible exact moves_refl
    | decide
    | with_reducible apply moves_step (cmdSessionBegin_moves ..)
    | with_reducible apply moves_step (cmdSessionProve_moves ..)
    | with_reducible apply moves_step (cmdSessionClose_moves ..)
    | with_reducible apply moves_step (cmdInstallKey_moves ..)
    | with_reducible apply moves_step (cmdDeleteKey_moves ..)
    | with_reducible apply moves_step (cmdKeyInfo_moves ..)
    | with_reducible apply moves_step (cmdZeroise_moves ..)
    | with_reducible apply moves_step (cmdGetCert_moves ..)
    | with_reducible apply moves_step (cmdAttest_moves ..)
    | with_reducible apply moves_step (cmdRandom_moves ..)
    | with_reducible apply moves_step (cmdMicrocodeWrite_moves ..)
    | with_reducible apply moves_step (cmdSetMinVersion_moves ..)
    | with_reducible apply moves_step (cmdDebugUnlock_moves ..)
    | with_reducible apply moves_step (refuseOpcode_moves ..)
    | split

theorem readEffects_moves (a : Nat) (s : State) :
    Moves 0x400002 s (readEffects a s) := by
  unfold readEffects
  repeat' first
    | with_reducible assumption
    | with_reducible exact moves_refl
    | decide
    | with_reducible refine moves_foldl ?_ (fun _ _ _ => ?_)
    | with_reducible apply moves_step (setF_moves ..)
    | fail_if_no_progress
        (with_reducible apply moves_frame)
        all_goals try first | with_reducible exact rfl | exact moves_absurd rfl | with_reducible exact fun _ => rfl
    | split

theorem badAccess_moves (a width : Nat) (write : Bool) (s : State) :
    Moves 0x200002 s (badAccess a width write s) := by
  unfold badAccess
  repeat' first
    | with_reducible exact moves_refl
    | decide
    | with_reducible apply moves_step (emit_moves ..)
    | with_reducible apply moves_step (bumpF_moves ..)

theorem absentAccess_moves (a : Nat) (write : Bool) (s : State) :
    Moves 0x200002 s (absentAccess a write s) := by
  unfold absentAccess
  repeat' first
    | with_reducible exact moves_refl
    | decide
    | with_reducible apply moves_step (emit_moves ..)
    | with_reducible apply moves_step (bumpF_moves ..)

theorem gatedAccess_moves (a : Nat) (write : Bool) (s : State) :
    Moves 0x200002 s (gatedAccess a write s) := by
  unfold gatedAccess
  repeat' first
    | with_reducible exact moves_refl
    | decide
    | with_reducible apply moves_step (emit_moves ..)
    | with_reducible apply moves_step (bumpF_moves ..)

theorem hostRead_moves (a : Nat) (s : State) :
    Moves 0x600002 s (hostRead a s).2 := by
  unfold hostRead
  repeat' first
    | with_reducible exact moves_refl
    | decide
    | with_reducible apply moves_step (badAccess_moves ..)
    | with_reducible apply moves_step (absentAccess_moves ..)
    | with_reducible apply moves_step (gatedAccess_moves ..)
    | with_reducible apply moves_step (readEffects_moves ..)
    | fail_if_no_progress
        (with_reducible apply moves_frame)
        all_goals try first | with_reducible exact rfl | exact moves_absurd rfl | with_reducible exact fun _ => rfl
    | split

theorem hostReadWide_moves (a width : Nat) (s : State) :
    Moves 0x600002 s (hostReadWide a width s) := by
  unfold hostReadWide
  repeat' first
    | with_reducible assumption
    | with_reducible exact moves_refl
    | decide
    | with_reducible refine moves_foldl_snd ?_ (fun _ _ _ => ?_)
    | with_reducible apply moves_step (hostRead_moves ..)
    | fail_if_no_progress
        (with_reducible apply moves_frame)
        all_goals try first | with_reducible exact rfl | exact moves_absurd rfl | with_reducible exact fun _ => rfl

theorem contCommand_moves (op : Nat) (c : Caller) (a0 a1 a2 : Nat) (s : State) :
    Moves 0xe00002 s (contCommand op c a0 a1 a2 s).1 := by
  unfold contCommand
  repeat' first
    | with_reducible exact moves_refl
    | decide
    | with_reducible apply moves_step (cmdFlush_moves ..)
    | with_reducible apply moves_step (cmdContRead_moves ..)
    | with_reducible apply moves_step (cmdReadStop_moves ..)
    | with_reducible apply moves_step (refuseOpcode_moves ..)
    | split

theorem moderationAnew_moves (rs : List Nat) (s : State) :
    Moves 0x400000 s (moderationAnew rs s) := by
  unfold moderationAnew
  repeat' first
    | with_reducible exact moves_refl
    | fail_if_no_progress
        (with_reducible apply moves_frame)
        all_goals try first | with_reducible exact rfl | exact moves_absurd rfl | with_reducible exact fun _ => rfl

theorem dropStaged_moves (r : Nat) (s : State) :
    Moves 0x400000 s (dropStaged r s) := by
  unfold dropStaged
  repeat' first
    | with_reducible exact moves_refl
    | fail_if_no_progress
        (with_reducible apply moves_frame)
        all_goals try first | with_reducible exact rfl | exact moves_absurd rfl | with_reducible exact fun _ => rfl

theorem enableRing_moves (r : Nat) (s : State) :
    Moves 0x400002 s (enableRing r s) := by
  unfold enableRing
  repeat' first
    | with_reducible exact moves_refl
    | decide
    | with_reducible apply moves_step (putFields_moves ..)
    | with_reducible apply moves_step (dropStaged_moves ..)
    | fail_if_no_progress
        (with_reducible apply moves_frame)
        all_goals try first | with_reducible exact rfl | exact moves_absurd rfl | with_reducible exact fun _ => rfl

theorem disableRing_moves (r : Nat) (s : State) :
    Moves 0x400002 s (disableRing r s) := by
  unfold disableRing
  repeat' first
    | with_reducible exact moves_refl
    | decide
    | with_reducible apply moves_step (setF_moves ..)
    | with_reducible apply moves_step (dropStaged_moves ..)
    | with_reducible refine moves_ite ?_ ?_
    | fail_if_no_progress
        (with_reducible apply moves_frame)
        all_goals try first | with_reducible exact rfl | exact moves_absurd rfl | with_reducible exact fun _ => rfl

theorem writeEnable_moves (r : Nat) (on : Bool) (s : State) :
    Moves 0x400002 s (writeEnable r on s) := by
  unfold writeEnable
  repeat' first
    | with_reducible exact moves_refl
    | decide
    | with_reducible apply moves_step (enableRing_moves ..)
    | with_reducible apply moves_step (disableRing_moves ..)
    | with_reducible refine moves_ite ?_ ?_

theorem writeCons_moves (r v : Nat) (s : State) :
    Moves 0x600002 s (writeCons r v s) := by
  unfold writeCons
  repeat' first
    | with_reducible exact moves_refl
    | decide
    | with_reducible apply moves_step (setF_moves ..)
    | with_reducible apply moves_step (pumpExports_moves ..)
    | with_reducible apply moves_step (emit_moves ..)
    | with_reducible refine moves_ite ?_ ?_

theorem clearNewData_moves (c b : Nat) (s : State) :
    Moves 0x2 s (clearNewData c b s) := by
  unfold clearNewData
  repeat' first
    | with_reducible exact moves_refl
    | decide
    | with_reducible apply moves_step (setF_moves ..)
    | with_reducible apply moves_step (setBit_moves ..)
    | with_reducible refine moves_ite ?_ ?_

theorem writeOnes_moves (f : Field) (v : Nat) (s : State) :
    Moves 0x400002 s (writeOnes f v s) := by
  unfold writeOnes
  repeat' first
    | with_reducible assumption
    | with_reducible exact moves_refl
    | decide
    | with_reducible refine moves_foldl ?_ (fun _ _ _ => ?_)
    | with_reducible apply moves_step (moderationAnew_moves ..)
    | with_reducible apply moves_step (setBit_moves ..)
    | with_reducible apply moves_step (clearNewData_moves ..)
    | with_reducible refine moves_ite ?_ ?_

theorem writeField_moves (f : Field) (v : Nat) (s : State) :
    Moves 0x600002 s (writeField f v s) := by
  unfold writeField
  repeat' first
    | with_reducible exact moves_refl
    | decide
    | with_reducible apply moves_step (setF_moves ..)
    | with_reducible apply moves_step (writeEnable_moves ..)
    | with_reducible apply moves_step (writeCons_moves ..)
    | with_reducible refine moves_ite ?_ ?_

theorem dropTk_moves (a v : Nat) (s : State) :
    Moves 0x200002 s (dropTk a v s) := by
  unfold dropTk
  repeat' first
    | with_reducible exact moves_refl
    | decide
    | with_reducible apply moves_step (emit_moves ..)
    | with_reducible apply moves_step (bumpF_moves ..)

theorem writeFields_moves (a v : Nat) (s : State) :
    Moves 0x600002 s (writeFields a v s) := by
  unfold writeFields
  repeat' first
    | with_reducible assumption
    | with_reducible exact moves_refl
    | decide
    | with_reducible refine moves_foldl ?_ (fun _ _ _ => ?_)
    | with_reducible apply moves_step (dropTk_moves ..)
    | with_reducible apply moves_step (writeField_moves ..)
    | with_reducible apply moves_step (writeOnes_moves ..)
    | split

theorem hostWrite_moves (a v : Nat) (s : State) :
    Moves 0x600002 s (hostWrite a v s) := by
  unfold hostWrite
  repeat' first
    | with_reducible exact moves_refl
    | decide
    | with_reducible apply moves_step (badAccess_moves ..)
    | with_reducible apply moves_step (absentAccess_moves ..)
    | with_reducible apply moves_step (gatedAccess_moves ..)
    | with_reducible apply moves_step (writeFields_moves ..)
    | with_reducible refine moves_ite ?_ ?_

theorem execBadAccess_moves (a width : Nat) (write : Bool) (s : State) :
    ResultMoves 0x600002 s (execBadAccess a width write s) := by
  unfold execBadAccess
  repeat' first
    | with_reducible exact moves_refl
    | decide
    | with_reducible apply moves_step (badAccess_moves ..)
    | with_reducible apply moves_step (hostReadWide_moves ..)
    | with_reducible refine resultMoves_next ?_
    | with_reducible exact resultMoves_fault _
    | fail_if_no_progress
        (with_reducible apply moves_frame)
        all_goals try first | with_reducible exact rfl | exact moves_absurd rfl | with_reducible exact fun _ => rfl
    | split

theorem execAbsentAccess_moves (a : Nat) (write : Bool) (s : State) :
    ResultMoves 0x600002 s (execAbsentAccess a write s) := by
  unfold execAbsentAccess
  repeat' first
    | with_reducible exact moves_refl
    | decide
    | with_reducible apply moves_step (absentAccess_moves ..)
    | with_reducible apply moves_step (hostRead_moves ..)
    | with_reducible refine resultMoves_next ?_
    | with_reducible exact resultMoves_fault _
    | split

theorem execGatedAccess_moves (a : Nat) (write : Bool) (s : State) :
    ResultMoves 0x600002 s (execGatedAccess a write s) := by
  unfold execGatedAccess
  repeat' first
    | with_reducible exact moves_refl
    | decide
    | with_reducible apply moves_step (gatedAccess_moves ..)
    | with_reducible apply moves_step (hostRead_moves ..)
    | with_reducible refine resultMoves_next ?_
    | with_reducible exact resultMoves_fault _
    | split

theorem writeOrHold_moves {m : Nat} {q : State} (w : HeldWrite) (act : State → State) (s : State) (hm : sub 0x400000 m = true)
    (h : Moves m q s) (ha : Moves m q (act s)) : Moves m q (writeOrHold w act s) := by
  refine moves_ite (moves_step (a := 0x400000) ?_ hm h) ha
  apply moves_frame moves_refl <;> first | exact rfl | exact moves_absurd rfl | exact fun _ => rfl

theorem execTkWriteDropped_moves (a v : Nat) (s : State) :
    ResultMoves 0x600002 s (execTkWriteDropped a v s) := by
  unfold execTkWriteDropped
  repeat' first
    | with_reducible exact moves_refl
    | decide
    | with_reducible refine writeOrHold_moves _ _ _ rfl ?_ ?_
    | with_reducible apply moves_step (writeFields_moves ..)
    | with_reducible refine resultMoves_next ?_
    | with_reducible exact resultMoves_fault _
    | split

theorem execRcRead_moves (a : Nat) (s : State) :
    ResultMoves 0x600002 s (execRcRead a s) := by
  unfold execRcRead
  repeat' first
    | with_reducible exact moves_refl
    | decide
    | with_reducible apply moves_step (hostRead_moves ..)
    | with_reducible refine resultMoves_next ?_
    | with_reducible exact resultMoves_fault _
    | split

theorem execLatchedLoRead_moves (a : Nat) (s : State) :
    ResultMoves 0x600002 s (execLatchedLoRead a s) := by
  unfold execLatchedLoRead
  repeat' first
    | with_reducible exact moves_refl
    | decide
    | with_reducible apply moves_step (hostRead_moves ..)
    | with_reducible refine resultMoves_next ?_
    | with_reducible exact resultMoves_fault _
    | split

theorem execW1cWrite_moves (a v : Nat) (s : State) :
    ResultMoves 0x600002 s (execW1cWrite a v s) := by
  unfold execW1cWrite
  repeat' first
    | with_reducible exact moves_refl
    | decide
    | with_reducible refine writeOrHold_moves _ _ _ rfl ?_ ?_
    | with_reducible apply moves_step (hostWrite_moves ..)
    | with_reducible refine resultMoves_next ?_
    | with_reducible exact resultMoves_fault _
    | split

theorem execNewDataClear_moves (c b : Nat) (s : State) :
    ResultMoves 0x400002 s (execNewDataClear c b s) := by
  unfold execNewDataClear
  repeat' first
    | with_reducible exact moves_refl
    | decide
    | with_reducible refine writeOrHold_moves _ _ _ rfl ?_ ?_
    | with_reducible apply moves_step (clearNewData_moves ..)
    | with_reducible refine moves_ite ?_ ?_
    | with_reducible refine resultMoves_next ?_

theorem cmdSubscribe_moves (c : Caller) (p : Nat) (s : State) :
    Moves 0xe00002 s (cmdSubscribe c p s).1 := by
  unfold cmdSubscribe
  repeat' first
    | with_reducible assumption
    | with_reducible exact moves_refl
    | with_reducible refine bodyMoves_ok ?_
    | with_reducible exact bodyMoves_error _
    | with_reducible refine runCommand_moves _ _ _ _ _ _ _ _ rfl ?_ (fun _ _ => ?_)
    | fail_if_no_progress
        (with_reducible apply moves_frame)
        all_goals try first | with_reducible exact rfl | exact moves_absurd rfl | with_reducible exact fun _ => rfl
    | split

theorem execSubscribe_moves (c : Caller) (a0 : Nat) (s : State) :
    ResultMoves 0xe00002 s (execSubscribe c a0 s) := by
  unfold execSubscribe
  repeat' first
    | with_reducible exact moves_refl
    | decide
    | with_reducible apply moves_step (cmdSubscribe_moves ..)
    | with_reducible refine resultMoves_next ?_

theorem cmdUnsubscribe_moves (c : Caller) (p : Nat) (s : State) :
    Moves 0xe00002 s (cmdUnsubscribe c p s).1 := by
  unfold cmdUnsubscribe
  repeat' first
    | with_reducible assumption
    | with_reducible exact moves_refl
    | with_reducible refine bodyMoves_ok ?_
    | with_reducible exact bodyMoves_error _
    | with_reducible refine runCommand_moves _ _ _ _ _ _ _ _ rfl ?_ (fun _ _ => ?_)
    | fail_if_no_progress
        (with_reducible apply moves_frame)
        all_goals try first | with_reducible exact rfl | exact moves_absurd rfl | with_reducible exact fun _ => rfl
    | split

theorem execUnsubscribe_moves (c : Caller) (a0 : Nat) (s : State) :
    ResultMoves 0xe00002 s (execUnsubscribe c a0 s) := by
  unfold execUnsubscribe
  repeat' first
    | with_reducible exact moves_refl
    | decide
    | with_reducible apply moves_step (cmdUnsubscribe_moves ..)
    | with_reducible refine resultMoves_next ?_

theorem cmdRingBind_moves (c : Caller) (r fn q : Nat) (s : State) :
    Moves 0xa00002 s (cmdRingBind c r fn q s).1 := by
  unfold cmdRingBind
  repeat' first
    | with_reducible assumption
    | with_reducible exact moves_refl
    | decide
    | with_reducible apply moves_step (putFields_moves ..)
    | with_reducible refine bodyMoves_ok ?_
    | with_reducible exact bodyMoves_error _
    | with_reducible refine runCommand_moves _ _ _ _ _ _ _ _ rfl ?_ (fun _ _ => ?_)
    | split

theorem execRingBind_moves (c : Caller) (a0 a1 a2 : Nat) (s : State) :
    ResultMoves 0xa00002 s (execRingBind c a0 a1 a2 s) := by
  unfold execRingBind
  repeat' first
    | with_reducible exact moves_refl
    | decide
    | with_reducible apply moves_step (cmdRingBind_moves ..)
    | with_reducible refine resultMoves_next ?_

theorem hostCommand_moves (op : Nat) (c : Caller) (a0 a1 a2 : Nat) (s : State) :
    Moves 0xe00002 s (hostCommand op c a0 a1 a2 s).1 := by
  unfold hostCommand
  repeat' first
    | with_reducible exact moves_refl
    | decide
    | with_reducible apply moves_step (cmdSubscribe_moves ..)
    | with_reducible apply moves_step (cmdUnsubscribe_moves ..)
    | with_reducible apply moves_step (cmdRingBind_moves ..)
    | with_reducible apply moves_step (refuseOpcode_moves ..)
    | split

theorem unitCommand_moves (u op : Nat) (c : Caller) (a0 a1 a2 : Nat) (slow : Bool) (s : State) (x : State × Reply)
    (e : unitCommand u op c a0 a1 a2 slow s = some x) : Moves 0x7ffffffe s x.1 := by
  unfold unitCommand at e
  split at e <;> first
    | (cases e; first
      | exact moves_step (tickCommand_moves ..) rfl moves_refl | exact moves_step (txnCommand_moves ..) rfl moves_refl
      | exact moves_step (clapCommand_moves ..) rfl moves_refl | exact moves_step (trpCommand_moves ..) rfl moves_refl
      | exact moves_step (boeCommand_moves ..) rfl moves_refl | exact moves_step (batCommand_moves ..) rfl moves_refl
      | exact moves_step (lrpCommand_moves ..) rfl moves_refl | exact moves_step (canCommand_moves ..) rfl moves_refl
      | exact moves_step (spotCommand_moves ..) rfl moves_refl | exact moves_step (memCommand_moves ..) rfl moves_refl
      | exact moves_step (contCommand_moves ..) rfl moves_refl | exact moves_step (secCommand_moves ..) rfl moves_refl
      | exact moves_step (hostCommand_moves ..) rfl moves_refl)
    | cases e

theorem writeCmd_moves (a v : Nat) (slow : Bool) (s : State) : Moves 0x7ffffffe s (writeCmd a v slow s) := by
  unfold writeCmd
  extract_lets c
  split
  · exact moves_step (unitCommand_moves _ _ _ _ _ _ _ _ _ ‹_›) rfl moves_refl
  · exact moves_refl

theorem registerWrite_moves (w : HeldWrite) (s : State) :
    Moves 0x7ffffffe s (registerWrite w s) := by
  unfold registerWrite
  repeat' first
    | with_reducible exact moves_refl
    | decide
    | with_reducible apply moves_step (writeCmd_moves ..)
    | with_reducible apply moves_step (hostWrite_moves ..)
    | with_reducible refine moves_ite ?_ ?_

theorem execRegisterWrite_moves (a v : Nat) (slow : Bool) (s : State) :
    ResultMoves 0x7ffffffe s (execRegisterWrite a v slow s) := by
  unfold execRegisterWrite
  repeat' first
    | with_reducible exact moves_refl
    | decide
    | with_reducible refine writeOrHold_moves _ _ _ rfl ?_ ?_
    | with_reducible apply moves_step (registerWrite_moves ..)
    | with_reducible refine resultMoves_next ?_
    | with_reducible exact resultMoves_fault _
    | split

theorem execCurtain_moves (s : State) :
    ResultMoves 0x7ffffffe s (execCurtain s) := by
  unfold execCurtain
  repeat' first
    | with_reducible assumption
    | with_reducible exact moves_refl
    | decide
    | with_reducible refine moves_foldl ?_ (fun _ _ _ => ?_)
    | with_reducible apply moves_step (curtainFalls_moves ..)
    | with_reducible apply moves_step (registerWrite_moves ..)
    | with_reducible refine resultMoves_next ?_
    | fail_if_no_progress
        (with_reducible apply moves_frame)
        all_goals try first | with_reducible exact rfl | exact moves_absurd rfl | with_reducible exact fun _ => rfl

theorem moderate_moves (r : Nat) (s : State) :
    Moves 0x400002 s (moderate r s) := by
  unfold moderate
  repeat' first
    | with_reducible exact moves_refl
    | decide
    | with_reducible apply moves_step (raiseCause_moves ..)
    | with_reducible refine moves_ite ?_ ?_
    | fail_if_no_progress
        (with_reducible apply moves_frame)
        all_goals try first | with_reducible exact rfl | exact moves_absurd rfl | with_reducible exact fun _ => rfl

theorem execRingWrite_moves (r : Nat) (ep : Bool) (s : State) :
    ResultMoves 0x600002 s (execRingWrite r ep s) := by
  unfold execRingWrite
  repeat' first
    | with_reducible exact moves_refl
    | decide
    | with_reducible apply moves_step (setF_moves ..)
    | with_reducible apply moves_step (pumpExports_moves ..)
    | with_reducible apply moves_step (moderate_moves ..)
    | with_reducible refine resultMoves_next ?_
    | fail_if_no_progress
        (with_reducible apply moves_frame)
        all_goals try first | with_reducible exact rfl | exact moves_absurd rfl | with_reducible exact fun _ => rfl
    | split

theorem execRingModeration_moves (r : Nat) (s : State) :
    ResultMoves 0x400002 s (execRingModeration r s) := by
  unfold execRingModeration
  repeat' first
    | with_reducible exact moves_refl
    | decide
    | with_reducible apply moves_step (raiseCause_moves ..)
    | with_reducible refine resultMoves_next ?_
    | split

theorem execConsWrite_moves (r v : Nat) (s : State) :
    ResultMoves 0x600002 s (execConsWrite r v s) := by
  unfold execConsWrite
  repeat' first
    | with_reducible exact moves_refl
    | decide
    | with_reducible refine writeOrHold_moves _ _ _ rfl ?_ ?_
    | with_reducible apply moves_step (writeCons_moves ..)
    | with_reducible refine moves_ite ?_ ?_
    | with_reducible refine resultMoves_next ?_

theorem execRingEnable_moves (r : Nat) (s : State) :
    ResultMoves 0x400002 s (execRingEnable r s) := by
  unfold execRingEnable
  repeat' first
    | with_reducible exact moves_refl
    | decide
    | with_reducible refine writeOrHold_moves _ _ _ rfl ?_ ?_
    | with_reducible apply moves_step (writeEnable_moves ..)
    | with_reducible refine moves_ite ?_ ?_
    | with_reducible refine resultMoves_next ?_

theorem execBusMasterEnable_moves (on : Bool) (s : State) :
    ResultMoves 0x600002 s (execBusMasterEnable on s) := by
  unfold execBusMasterEnable
  repeat' first
    | with_reducible exact moves_refl
    | decide
    | with_reducible apply moves_step (setF_moves ..)
    | with_reducible apply moves_step (pumpExports_moves ..)
    | with_reducible refine moves_ite ?_ ?_
    | with_reducible refine resultMoves_next ?_

theorem execMsixUnmask_moves (v : Nat) (s : State) :
    ResultMoves 0x400000 s (execMsixUnmask v s) := by
  unfold execMsixUnmask
  repeat' first
    | with_reducible exact moves_refl
    | with_reducible refine moves_ite ?_ ?_
    | with_reducible refine resultMoves_next ?_
    | fail_if_no_progress
        (with_reducible apply moves_frame)
        all_goals try first | with_reducible exact rfl | exact moves_absurd rfl | with_reducible exact fun _ => rfl

theorem execHostReset_moves (cause : Nat) (s : State) :
    ResultMoves 0xe00082 s (execHostReset cause s) := by
  unfold execHostReset
  repeat' first
    | with_reducible assumption
    | with_reducible exact moves_refl
    | decide
    | with_reducible refine moves_foldl ?_ (fun _ _ _ => ?_)
    | with_reducible apply moves_step (setF_moves ..)
    | with_reducible apply moves_step (disableRing_moves ..)
    | with_reducible apply moves_step (endSession_moves ..)
    | with_reducible apply moves_step (emit_moves ..)
    | with_reducible refine resultMoves_next ?_
    | fail_if_no_progress
        (with_reducible apply moves_frame)
        all_goals try first | with_reducible exact rfl | exact moves_absurd rfl | with_reducible exact fun _ => rfl
    | split

theorem execLinkChanged_moves (which : Nat) (up : Bool) (speed width : Nat) (s : State) :
    ResultMoves 0x200002 s (execLinkChanged which up speed width s) := by
  unfold execLinkChanged
  repeat' first
    | with_reducible exact moves_refl
    | decide
    | with_reducible apply moves_step (setF_moves ..)
    | with_reducible apply moves_step (putFields_moves ..)
    | with_reducible apply moves_step (emit_moves ..)
    | with_reducible refine moves_ite ?_ ?_
    | with_reducible refine resultMoves_next ?_

theorem complete_moves (u op tag result ret : Nat) (s : State) :
    Moves 0x600002 s (complete u op tag result ret s) := by
  unfold complete
  repeat' first
    | with_reducible exact moves_refl
    | decide
    | with_reducible apply moves_step (stageEntry_moves ..)

theorem awaitSecond_moves (u op key : Nat) (tag : Option Nat) (mgmt : Option (Nat × Nat)) (s : State) :
    Moves 0x400000 s (awaitSecond u op key tag mgmt s) := by
  unfold awaitSecond
  repeat' first
    | with_reducible exact moves_refl
    | fail_if_no_progress
        (with_reducible apply moves_frame)
        all_goals try first | with_reducible exact rfl | exact moves_absurd rfl | with_reducible exact fun _ => rfl

theorem presentSubmission_moves (e : Submission) (rivals : List Transport) (slow : Bool) (s : State) :
    Moves 0x7ffffffe s (presentSubmission e rivals slow s) := by
  unfold presentSubmission
  extract_lets c
  refine moves_ite (moves_step (complete_moves ..) rfl moves_refl) (moves_ite (moves_step (complete_moves ..) rfl moves_refl)
    (moves_ite (moves_step (gatedAccess_moves ..) rfl moves_refl) ?_))
  split
  · exact moves_step (complete_moves ..) rfl moves_refl
  · rename_i t r he
    have h1 := moves_step (complete_moves e.unit e.opcode e.tag r.result r.ret t) rfl
      (moves_step (m := 0x7ffffffe) (unitCommand_moves _ _ _ _ _ _ _ _ _ he) rfl moves_refl)
    exact moves_ite (moves_step (awaitSecond_moves ..) rfl h1) h1

theorem execSubmissionFetch_moves (e : Submission) (rivals : List Transport) (slow : Bool) (s : State) :
    ResultMoves 0x7ffffffe s (execSubmissionFetch e rivals slow s) := by
  unfold execSubmissionFetch
  repeat' first
    | with_reducible exact moves_refl
    | decide
    | with_reducible apply moves_step (setF_moves ..)
    | with_reducible apply moves_step (presentSubmission_moves ..)
    | with_reducible refine moves_ite ?_ ?_
    | with_reducible refine resultMoves_next ?_

theorem sendHostFrame_moves (q : Nat) (bytes : List Nat) (s : State) :
    Moves 0x208002 s (sendHostFrame q bytes s) := by
  unfold sendHostFrame
  repeat' first
    | with_reducible exact moves_refl
    | decide
    | with_reducible apply moves_step (enqueuePair_moves ..)
    | with_reducible apply moves_step (enqueue_moves ..)
    | with_reducible refine moves_ite ?_ ?_

theorem closeFrame_moves (r : Nat) (es : List TxEntry) (s : State) :
    Moves 0x608002 s (closeFrame r es s) := by
  unfold closeFrame
  repeat' first
    | with_reducible exact moves_refl
    | decide
    | with_reducible apply moves_step (sendHostFrame_moves ..)
    | with_reducible apply moves_step (bumpF_moves ..)
    | with_reducible refine moves_ite ?_ ?_
    | fail_if_no_progress
        (with_reducible apply moves_frame)
        all_goals try first | with_reducible exact rfl | exact moves_absurd rfl | with_reducible exact fun _ => rfl
    | split

theorem readTxEntry_moves (r : Nat) (e : TxEntry) (s : State) :
    Moves 0x608002 s (readTxEntry r e s) := by
  unfold readTxEntry
  repeat' first
    | with_reducible exact moves_refl
    | decide
    | with_reducible apply moves_step (closeFrame_moves ..)
    | with_reducible refine moves_ite ?_ ?_
    | fail_if_no_progress
        (with_reducible apply moves_frame)
        all_goals try first | with_reducible exact rfl | exact moves_absurd rfl | with_reducible exact fun _ => rfl

theorem execTxRingDoorbell_moves (r prod : Nat) (es : List TxEntry) (s : State) :
    ResultMoves 0x608002 s (execTxRingDoorbell r prod es s) := by
  unfold execTxRingDoorbell
  repeat' first
    | with_reducible assumption
    | with_reducible exact moves_refl
    | decide
    | with_reducible refine moves_foldl ?_ (fun _ _ _ => ?_)
    | with_reducible apply moves_step (readTxEntry_moves ..)
    | with_reducible apply moves_step (putFields_moves ..)
    | with_reducible refine moves_ite ?_ ?_
    | with_reducible refine resultMoves_next ?_

theorem dropMessage_moves (cause : Nat) (d : Datagram) (s : State) :
    Moves 0x200002 s (dropMessage cause d s) := by
  unfold dropMessage
  repeat' first
    | with_reducible exact moves_refl
    | decide
    | with_reducible apply moves_step (emit_moves ..)
    | with_reducible apply moves_step (bumpF_moves ..)

theorem acceptSequence_moves (k n : Nat) (s : State) :
    Moves 0x400000 s (acceptSequence k n s) := by
  unfold acceptSequence
  repeat' first
    | with_reducible exact moves_refl
    | fail_if_no_progress
        (with_reducible apply moves_frame)
        all_goals try first | with_reducible exact rfl | exact moves_absurd rfl | with_reducible exact fun _ => rfl

theorem loadInbox_moves (ws : List Nat) (s : State) :
    Moves 0x800000 s (loadInbox ws s) := by
  unfold loadInbox
  repeat' first
    | with_reducible exact moves_refl
    | decide
    | with_reducible apply moves_step (updSec_moves _ _ (fun _ => by simp))

theorem answer_moves {m : Nat} {q : State} (kind id tag op : Nat) (x : State × Reply) (hm : sub 0x400000 m = true)
    (h : Moves m q x.1) : Moves m q (answer kind id tag op x) := by
  have inner {a : Nat} (ha : sub a 0x400000 = true) : sub a m = true := sub_trans ha hm
  unfold answer
  refine moves_ite (moves_step (a := 0x400000) ?_ (inner rfl) h)
    (moves_step (replyTo_moves ..) (inner rfl) h)
  apply moves_frame moves_refl <;> first | exact rfl | exact moves_absurd rfl | exact fun _ => rfl

theorem execMgmtBegin_moves (d : Datagram) (slow : Bool) (s : State) :
    ResultMoves 0x4e00082 s (execMgmtBegin d slow s) := by
  unfold execMgmtBegin
  repeat' first
    | with_reducible exact moves_refl
    | decide
    | with_reducible apply moves_step (dropMessage_moves ..)
    | with_reducible refine answer_moves _ _ _ _ _ rfl ?_
    | with_reducible apply moves_step (cmdSessionBegin_moves ..)
    | with_reducible apply moves_step (loadInbox_moves ..)
    | with_reducible refine resultMoves_next ?_
    | split

theorem execMgmtProve_moves (d : Datagram) (slow : Bool) (s : State) :
    ResultMoves 0x4e00082 s (execMgmtProve d slow s) := by
  unfold execMgmtProve
  repeat' first
    | with_reducible exact moves_refl
    | decide
    | with_reducible apply moves_step (dropMessage_moves ..)
    | with_reducible refine answer_moves _ _ _ _ _ rfl ?_
    | with_reducible apply moves_step (cmdSessionProve_moves ..)
    | with_reducible apply moves_step (loadInbox_moves ..)
    | with_reducible refine resultMoves_next ?_
    | split

theorem runMessage_moves (h : MgmtHead) (e : MgmtCall) (slot : Nat) (rivals : List Transport) (slow : Bool) (s : State) :
    Moves 0x7ffffffe s (runMessage h e slot rivals slow s) := by
  unfold runMessage
  extract_lets ws p s1 reply
  have h1 : Moves 0x7ffffffe s s1 := by
    refine moves_step (loadInbox_moves ..) rfl ?_
    apply moves_frame moves_refl <;> first | exact rfl | exact moves_absurd rfl | exact fun _ => rfl
  have hr : ∀ r out t, Moves 0x7ffffffe s t → Moves 0x7ffffffe s (reply r out t) := fun _ _ _ ht =>
    moves_step (sendResponse_moves ..) rfl ht
  clear_value reply s1
  refine moves_ite (hr _ _ _ h1) (moves_ite (hr _ _ _ h1) (moves_ite (moves_step (gatedAccess_moves ..) rfl h1) ?_))
  split
  · exact hr _ _ _ h1
  · rename_i t r he
    have ht : Moves 0x7ffffffe s t := moves_step (unitCommand_moves _ _ _ _ _ _ _ _ _ he) rfl h1
    exact moves_ite (answer_moves _ _ _ _ _ rfl ht) (moves_ite (moves_step (awaitSecond_moves ..) rfl (hr _ _ _ ht)) (hr _ _ _ ht))

theorem execMgmtCommand_moves (d : Datagram) (rivals : List Transport) (slow : Bool) (s : State) :
    ResultMoves 0x7ffffffe s (execMgmtCommand d rivals slow s) := by
  unfold execMgmtCommand
  repeat' first
    | with_reducible exact moves_refl
    | decide
    | with_reducible apply moves_step (dropMessage_moves ..)
    | with_reducible apply moves_step (acceptSequence_moves ..)
    | with_reducible apply moves_step (runMessage_moves ..)
    | with_reducible refine resultMoves_next ?_
    | fail_if_no_progress
        (with_reducible apply moves_frame)
        all_goals try first | with_reducible exact rfl | exact moves_absurd rfl | with_reducible exact fun _ => rfl
    | split

theorem readWords_moves (n a : Nat) (s : State) : Moves 0x600002 s (readWords n a s).2 := by
  induction n generalizing a s with
  | zero => exact moves_refl
  | succ n ih => exact moves_step (ih ..) rfl (moves_step (hostRead_moves ..) rfl moves_refl)

theorem execMgmtRead_moves (d : Datagram) (s : State) :
    ResultMoves 0x600002 s (execMgmtRead d s) := by
  unfold execMgmtRead
  repeat' first
    | with_reducible exact moves_refl
    | decide
    | with_reducible apply moves_step (dropMessage_moves ..)
    | with_reducible apply moves_step (readWords_moves ..)
    | with_reducible apply moves_step (acceptSequence_moves ..)
    | with_reducible apply moves_step (sendMessage_moves ..)
    | with_reducible refine resultMoves_next ?_
    | split

theorem execMgmtWrite_moves (d : Datagram) (s : State) :
    ResultMoves 0x600002 s (execMgmtWrite d s) := by
  unfold execMgmtWrite
  repeat' first
    | with_reducible exact moves_refl
    | decide
    | with_reducible apply moves_step (dropMessage_moves ..)
    | with_reducible apply moves_step (acceptSequence_moves ..)
    | with_reducible refine writeOrHold_moves _ _ _ rfl ?_ ?_
    | with_reducible apply moves_step (hostWrite_moves ..)
    | with_reducible apply moves_step (sendMessage_moves ..)
    | with_reducible refine resultMoves_next ?_
    | split

theorem execArpRequest_moves (target : Nat) (v6 : Bool) (s : State) :
    ResultMoves 0x400000 s (execArpRequest target v6 s) := by
  unfold execArpRequest
  repeat' first
    | with_reducible exact moves_refl
    | with_reducible refine moves_ite ?_ ?_
    | with_reducible refine resultMoves_next ?_
    | fail_if_no_progress
        (with_reducible apply moves_frame)
        all_goals try first | with_reducible exact rfl | exact moves_absurd rfl | with_reducible exact fun _ => rfl

end Sys2Proof.Machine
end

