-- ==== Sys2Proof/Laws/State.lean ====
section
/-! SUPPORT. What the updates of the state leave in each field, a register field after a write, and how a mask of parts reads. -/

namespace Sys2Proof.Machine

open Sys2Proof

variable (s : State)

/-! ### Register fields -/

/-- A field reads back the value written, as far as it is wide. -/
theorem getF_setF_same (f : Field) (v : Nat) (h : keysRise s.regs = true) : getF (setF f v s) f = v % 2 ^ f.width :=
  tableGet_put_same f.reset s.regs (fieldKey f) (v % 2 ^ f.width) h

/-- A write leaves every other field. -/
theorem getF_setF_other (f g : Field) (v : Nat) (h : fieldKey f ≠ fieldKey g) : getF (setF f v s) g = getF s g :=
  tableGet_put_other g.reset f.reset s.regs (fieldKey f) (fieldKey g) (v % 2 ^ f.width) h

/-- A write keeps the order of the register file. -/
theorem setF_keysRise (f : Field) (v : Nat) (h : keysRise s.regs = true) : keysRise (setF f v s).regs = true :=
  keysRise_put f.reset s.regs (fieldKey f) (v % 2 ^ f.width) h

/-- Fields read alike where the register files are the same. -/
theorem getF_congr (t : State) (f : Field) (h : t.regs = s.regs) : getF t f = getF s f := by
  unfold getF
  rw [h]

/-! ### Parts -/

/-- A part outside a list is not in its mask. -/
theorem mask_testBit (ps : List Part) (p : Part) (h : p ∉ ps) : (Part.mask ps).testBit p.idx = false := by
  have inj : ∀ q : Part, p ≠ q → (2 ^ q.idx).testBit p.idx = false := by
    intro q hq
    rw [Nat.testBit_two_pow]
    have : q.idx ≠ p.idx := fun e => hq (by revert e; cases p <;> cases q <;> simp [Part.idx])
    simp [this]
  have go : ∀ (l : List Part) (m : Nat), p ∉ l → m.testBit p.idx = false →
      (l.foldl (fun m q => m ||| 2 ^ q.idx) m).testBit p.idx = false := by
    intro l
    induction l with
    | nil => exact fun m _ h => h
    | cons q l ih =>
      intro m hl hm
      simp only [List.mem_cons, not_or] at hl
      exact ih _ hl.2 (by rw [Nat.testBit_or, hm, inj q hl.1, Bool.or_false])
  exact go ps 0 h (Nat.zero_testBit _)

/-- What moves within a mask moves within the parts of a list that covers it. -/
theorem onlyParts_of_moves {m : Nat} {t : State} (ps : List Part) (h : Moves m s t) (hs : sub m (Part.mask ps) = true) :
    OnlyParts ps s t := fun p hp => h.frame p (sub_bit hs (mask_testBit ps p hp))

/-! ### One lemma for each field and update -/

@[simp] theorem setF_pending (f : Field) (v : Nat) : (setF f v s).pending = s.pending := rfl
@[simp] theorem setF_dev (f : Field) (v : Nat) : (setF f v s).dev = s.dev := rfl
@[simp] theorem setF_clap (f : Field) (v : Nat) : (setF f v s).clap = s.clap := rfl
@[simp] theorem setF_tick (f : Field) (v : Nat) : (setF f v s).tick = s.tick := rfl
@[simp] theorem setF_pimg (f : Field) (v : Nat) : (setF f v s).pimg = s.pimg := rfl
@[simp] theorem setF_lio (f : Field) (v : Nat) : (setF f v s).lio = s.lio := rfl
@[simp] theorem setF_txn (f : Field) (v : Nat) : (setF f v s).txn = s.txn := rfl
@[simp] theorem setF_trp (f : Field) (v : Nat) : (setF f v s).trp = s.trp := rfl
@[simp] theorem setF_car (f : Field) (v : Nat) : (setF f v s).car = s.car := rfl
@[simp] theorem setF_asm (f : Field) (v : Nat) : (setF f v s).asm = s.asm := rfl
@[simp] theorem setF_jug (f : Field) (v : Nat) : (setF f v s).jug = s.jug := rfl
@[simp] theorem setF_boe (f : Field) (v : Nat) : (setF f v s).boe = s.boe := rfl
@[simp] theorem setF_bot (f : Field) (v : Nat) : (setF f v s).bot = s.bot := rfl
@[simp] theorem setF_bat (f : Field) (v : Nat) : (setF f v s).bat = s.bat := rfl
@[simp] theorem setF_net (f : Field) (v : Nat) : (setF f v s).net = s.net := rfl
@[simp] theorem setF_lrp (f : Field) (v : Nat) : (setF f v s).lrp = s.lrp := rfl
@[simp] theorem setF_stn (f : Field) (v : Nat) : (setF f v s).stn = s.stn := rfl
@[simp] theorem setF_can (f : Field) (v : Nat) : (setF f v s).can = s.can := rfl
@[simp] theorem setF_spot (f : Field) (v : Nat) : (setF f v s).spot = s.spot := rfl
@[simp] theorem setF_mem (f : Field) (v : Nat) : (setF f v s).mem = s.mem := rfl
@[simp] theorem setF_cont (f : Field) (v : Nat) : (setF f v s).cont = s.cont := rfl
@[simp] theorem setF_host (f : Field) (v : Nat) : (setF f v s).host = s.host := rfl
@[simp] theorem setF_sec (f : Field) (v : Nat) : (setF f v s).sec = s.sec := rfl
@[simp] theorem setF_pwr (f : Field) (v : Nat) : (setF f v s).pwr = s.pwr := rfl
@[simp] theorem setF_cfg (f : Field) (v : Nat) : (setF f v s).cfg = s.cfg := rfl
@[simp] theorem setF_free (f : Field) (v : Nat) : (setF f v s).free = s.free := rfl

@[simp] theorem updDom_pending (b : Nat) (f : Domain → Domain) : (updDom b f s).pending = s.pending := rfl
@[simp] theorem updDom_regs (b : Nat) (f : Domain → Domain) : (updDom b f s).regs = s.regs := rfl
@[simp] theorem updDom_dev (b : Nat) (f : Domain → Domain) : (updDom b f s).dev = s.dev := rfl
@[simp] theorem updDom_tick (b : Nat) (f : Domain → Domain) : (updDom b f s).tick = s.tick := rfl
@[simp] theorem updDom_pimg (b : Nat) (f : Domain → Domain) : (updDom b f s).pimg = s.pimg := rfl
@[simp] theorem updDom_lio (b : Nat) (f : Domain → Domain) : (updDom b f s).lio = s.lio := rfl
@[simp] theorem updDom_txn (b : Nat) (f : Domain → Domain) : (updDom b f s).txn = s.txn := rfl
@[simp] theorem updDom_trp (b : Nat) (f : Domain → Domain) : (updDom b f s).trp = s.trp := rfl
@[simp] theorem updDom_car (b : Nat) (f : Domain → Domain) : (updDom b f s).car = s.car := rfl
@[simp] theorem updDom_asm (b : Nat) (f : Domain → Domain) : (updDom b f s).asm = s.asm := rfl
@[simp] theorem updDom_jug (b : Nat) (f : Domain → Domain) : (updDom b f s).jug = s.jug := rfl
@[simp] theorem updDom_boe (b : Nat) (f : Domain → Domain) : (updDom b f s).boe = s.boe := rfl
@[simp] theorem updDom_bot (b : Nat) (f : Domain → Domain) : (updDom b f s).bot = s.bot := rfl
@[simp] theorem updDom_bat (b : Nat) (f : Domain → Domain) : (updDom b f s).bat = s.bat := rfl
@[simp] theorem updDom_net (b : Nat) (f : Domain → Domain) : (updDom b f s).net = s.net := rfl
@[simp] theorem updDom_lrp (b : Nat) (f : Domain → Domain) : (updDom b f s).lrp = s.lrp := rfl
@[simp] theorem updDom_stn (b : Nat) (f : Domain → Domain) : (updDom b f s).stn = s.stn := rfl
@[simp] theorem updDom_can (b : Nat) (f : Domain → Domain) : (updDom b f s).can = s.can := rfl
@[simp] theorem updDom_spot (b : Nat) (f : Domain → Domain) : (updDom b f s).spot = s.spot := rfl
@[simp] theorem updDom_mem (b : Nat) (f : Domain → Domain) : (updDom b f s).mem = s.mem := rfl
@[simp] theorem updDom_cont (b : Nat) (f : Domain → Domain) : (updDom b f s).cont = s.cont := rfl
@[simp] theorem updDom_host (b : Nat) (f : Domain → Domain) : (updDom b f s).host = s.host := rfl
@[simp] theorem updDom_sec (b : Nat) (f : Domain → Domain) : (updDom b f s).sec = s.sec := rfl
@[simp] theorem updDom_pwr (b : Nat) (f : Domain → Domain) : (updDom b f s).pwr = s.pwr := rfl
@[simp] theorem updDom_cfg (b : Nat) (f : Domain → Domain) : (updDom b f s).cfg = s.cfg := rfl
@[simp] theorem updDom_free (b : Nat) (f : Domain → Domain) : (updDom b f s).free = s.free := rfl
@[simp] theorem getF_updDom (b : Nat) (f : Domain → Domain) (g : Field) : getF (updDom b f s) g = getF s g := rfl

@[simp] theorem queueEntry_pending (e : StagedEntry) : (queueEntry e s).pending = s.pending := rfl
@[simp] theorem queueEntry_regs (e : StagedEntry) : (queueEntry e s).regs = s.regs := rfl
@[simp] theorem queueEntry_dev (e : StagedEntry) : (queueEntry e s).dev = s.dev := rfl
@[simp] theorem queueEntry_clap (e : StagedEntry) : (queueEntry e s).clap = s.clap := rfl
@[simp] theorem queueEntry_pimg (e : StagedEntry) : (queueEntry e s).pimg = s.pimg := rfl
@[simp] theorem queueEntry_lio (e : StagedEntry) : (queueEntry e s).lio = s.lio := rfl
@[simp] theorem queueEntry_txn (e : StagedEntry) : (queueEntry e s).txn = s.txn := rfl
@[simp] theorem queueEntry_trp (e : StagedEntry) : (queueEntry e s).trp = s.trp := rfl
@[simp] theorem queueEntry_car (e : StagedEntry) : (queueEntry e s).car = s.car := rfl
@[simp] theorem queueEntry_asm (e : StagedEntry) : (queueEntry e s).asm = s.asm := rfl
@[simp] theorem queueEntry_jug (e : StagedEntry) : (queueEntry e s).jug = s.jug := rfl
@[simp] theorem queueEntry_boe (e : StagedEntry) : (queueEntry e s).boe = s.boe := rfl
@[simp] theorem queueEntry_bot (e : StagedEntry) : (queueEntry e s).bot = s.bot := rfl
@[simp] theorem queueEntry_bat (e : StagedEntry) : (queueEntry e s).bat = s.bat := rfl
@[simp] theorem queueEntry_net (e : StagedEntry) : (queueEntry e s).net = s.net := rfl
@[simp] theorem queueEntry_lrp (e : StagedEntry) : (queueEntry e s).lrp = s.lrp := rfl
@[simp] theorem queueEntry_stn (e : StagedEntry) : (queueEntry e s).stn = s.stn := rfl
@[simp] theorem queueEntry_can (e : StagedEntry) : (queueEntry e s).can = s.can := rfl
@[simp] theorem queueEntry_spot (e : StagedEntry) : (queueEntry e s).spot = s.spot := rfl
@[simp] theorem queueEntry_mem (e : StagedEntry) : (queueEntry e s).mem = s.mem := rfl
@[simp] theorem queueEntry_cont (e : StagedEntry) : (queueEntry e s).cont = s.cont := rfl
@[simp] theorem queueEntry_host (e : StagedEntry) : (queueEntry e s).host = s.host := rfl
@[simp] theorem queueEntry_sec (e : StagedEntry) : (queueEntry e s).sec = s.sec := rfl
@[simp] theorem queueEntry_pwr (e : StagedEntry) : (queueEntry e s).pwr = s.pwr := rfl
@[simp] theorem queueEntry_cfg (e : StagedEntry) : (queueEntry e s).cfg = s.cfg := rfl
@[simp] theorem queueEntry_free (e : StagedEntry) : (queueEntry e s).free = s.free := rfl
@[simp] theorem getF_queueEntry (e : StagedEntry) (g : Field) : getF (queueEntry e s) g = getF s g := rfl

@[simp] theorem putPoint_pending (i : Nat) (p : PointVal) (c : PointCond) : (putPoint i p c s).pending = s.pending := rfl
@[simp] theorem putPoint_regs (i : Nat) (p : PointVal) (c : PointCond) : (putPoint i p c s).regs = s.regs := rfl
@[simp] theorem putPoint_dev (i : Nat) (p : PointVal) (c : PointCond) : (putPoint i p c s).dev = s.dev := rfl
@[simp] theorem putPoint_clap (i : Nat) (p : PointVal) (c : PointCond) : (putPoint i p c s).clap = s.clap := rfl
@[simp] theorem putPoint_tick (i : Nat) (p : PointVal) (c : PointCond) : (putPoint i p c s).tick = s.tick := rfl
@[simp] theorem putPoint_lio (i : Nat) (p : PointVal) (c : PointCond) : (putPoint i p c s).lio = s.lio := rfl
@[simp] theorem putPoint_txn (i : Nat) (p : PointVal) (c : PointCond) : (putPoint i p c s).txn = s.txn := rfl
@[simp] theorem putPoint_trp (i : Nat) (p : PointVal) (c : PointCond) : (putPoint i p c s).trp = s.trp := rfl
@[simp] theorem putPoint_car (i : Nat) (p : PointVal) (c : PointCond) : (putPoint i p c s).car = s.car := rfl
@[simp] theorem putPoint_asm (i : Nat) (p : PointVal) (c : PointCond) : (putPoint i p c s).asm = s.asm := rfl
@[simp] theorem putPoint_jug (i : Nat) (p : PointVal) (c : PointCond) : (putPoint i p c s).jug = s.jug := rfl
@[simp] theorem putPoint_boe (i : Nat) (p : PointVal) (c : PointCond) : (putPoint i p c s).boe = s.boe := rfl
@[simp] theorem putPoint_bot (i : Nat) (p : PointVal) (c : PointCond) : (putPoint i p c s).bot = s.bot := rfl
@[simp] theorem putPoint_bat (i : Nat) (p : PointVal) (c : PointCond) : (putPoint i p c s).bat = s.bat := rfl
@[simp] theorem putPoint_net (i : Nat) (p : PointVal) (c : PointCond) : (putPoint i p c s).net = s.net := rfl
@[simp] theorem putPoint_lrp (i : Nat) (p : PointVal) (c : PointCond) : (putPoint i p c s).lrp = s.lrp := rfl
@[simp] theorem putPoint_stn (i : Nat) (p : PointVal) (c : PointCond) : (putPoint i p c s).stn = s.stn := rfl
@[simp] theorem putPoint_can (i : Nat) (p : PointVal) (c : PointCond) : (putPoint i p c s).can = s.can := rfl
@[simp] theorem putPoint_spot (i : Nat) (p : PointVal) (c : PointCond) : (putPoint i p c s).spot = s.spot := rfl
@[simp] theorem putPoint_mem (i : Nat) (p : PointVal) (c : PointCond) : (putPoint i p c s).mem = s.mem := rfl
@[simp] theorem putPoint_cont (i : Nat) (p : PointVal) (c : PointCond) : (putPoint i p c s).cont = s.cont := rfl
@[simp] theorem putPoint_host (i : Nat) (p : PointVal) (c : PointCond) : (putPoint i p c s).host = s.host := rfl
@[simp] theorem putPoint_sec (i : Nat) (p : PointVal) (c : PointCond) : (putPoint i p c s).sec = s.sec := rfl
@[simp] theorem putPoint_pwr (i : Nat) (p : PointVal) (c : PointCond) : (putPoint i p c s).pwr = s.pwr := rfl
@[simp] theorem putPoint_cfg (i : Nat) (p : PointVal) (c : PointCond) : (putPoint i p c s).cfg = s.cfg := rfl
@[simp] theorem putPoint_free (i : Nat) (p : PointVal) (c : PointCond) : (putPoint i p c s).free = s.free := rfl
@[simp] theorem getF_putPoint (i : Nat) (p : PointVal) (c : PointCond) (g : Field) : getF (putPoint i p c s) g = getF s g := rfl

@[simp] theorem setOutput_pending (c : Nat) (on : Bool) : (setOutput c on s).pending = s.pending := rfl
@[simp] theorem setOutput_regs (c : Nat) (on : Bool) : (setOutput c on s).regs = s.regs := rfl
@[simp] theorem setOutput_dev (c : Nat) (on : Bool) : (setOutput c on s).dev = s.dev := rfl
@[simp] theorem setOutput_clap (c : Nat) (on : Bool) : (setOutput c on s).clap = s.clap := rfl
@[simp] theorem setOutput_tick (c : Nat) (on : Bool) : (setOutput c on s).tick = s.tick := rfl
@[simp] theorem setOutput_pimg (c : Nat) (on : Bool) : (setOutput c on s).pimg = s.pimg := rfl
@[simp] theorem setOutput_txn (c : Nat) (on : Bool) : (setOutput c on s).txn = s.txn := rfl
@[simp] theorem setOutput_trp (c : Nat) (on : Bool) : (setOutput c on s).trp = s.trp := rfl
@[simp] theorem setOutput_car (c : Nat) (on : Bool) : (setOutput c on s).car = s.car := rfl
@[simp] theorem setOutput_asm (c : Nat) (on : Bool) : (setOutput c on s).asm = s.asm := rfl
@[simp] theorem setOutput_jug (c : Nat) (on : Bool) : (setOutput c on s).jug = s.jug := rfl
@[simp] theorem setOutput_boe (c : Nat) (on : Bool) : (setOutput c on s).boe = s.boe := rfl
@[simp] theorem setOutput_bot (c : Nat) (on : Bool) : (setOutput c on s).bot = s.bot := rfl
@[simp] theorem setOutput_bat (c : Nat) (on : Bool) : (setOutput c on s).bat = s.bat := rfl
@[simp] theorem setOutput_net (c : Nat) (on : Bool) : (setOutput c on s).net = s.net := rfl
@[simp] theorem setOutput_lrp (c : Nat) (on : Bool) : (setOutput c on s).lrp = s.lrp := rfl
@[simp] theorem setOutput_stn (c : Nat) (on : Bool) : (setOutput c on s).stn = s.stn := rfl
@[simp] theorem setOutput_can (c : Nat) (on : Bool) : (setOutput c on s).can = s.can := rfl
@[simp] theorem setOutput_spot (c : Nat) (on : Bool) : (setOutput c on s).spot = s.spot := rfl
@[simp] theorem setOutput_mem (c : Nat) (on : Bool) : (setOutput c on s).mem = s.mem := rfl
@[simp] theorem setOutput_cont (c : Nat) (on : Bool) : (setOutput c on s).cont = s.cont := rfl
@[simp] theorem setOutput_host (c : Nat) (on : Bool) : (setOutput c on s).host = s.host := rfl
@[simp] theorem setOutput_sec (c : Nat) (on : Bool) : (setOutput c on s).sec = s.sec := rfl
@[simp] theorem setOutput_pwr (c : Nat) (on : Bool) : (setOutput c on s).pwr = s.pwr := rfl
@[simp] theorem setOutput_cfg (c : Nat) (on : Bool) : (setOutput c on s).cfg = s.cfg := rfl
@[simp] theorem setOutput_free (c : Nat) (on : Bool) : (setOutput c on s).free = s.free := rfl
@[simp] theorem getF_setOutput (c : Nat) (on : Bool) (g : Field) : getF (setOutput c on s) g = getF s g := rfl

@[simp] theorem updSlot_pending (k : Nat) (f : TakeSlot → TakeSlot) : (updSlot k f s).pending = s.pending := rfl
@[simp] theorem updSlot_regs (k : Nat) (f : TakeSlot → TakeSlot) : (updSlot k f s).regs = s.regs := rfl
@[simp] theorem updSlot_dev (k : Nat) (f : TakeSlot → TakeSlot) : (updSlot k f s).dev = s.dev := rfl
@[simp] theorem updSlot_clap (k : Nat) (f : TakeSlot → TakeSlot) : (updSlot k f s).clap = s.clap := rfl
@[simp] theorem updSlot_tick (k : Nat) (f : TakeSlot → TakeSlot) : (updSlot k f s).tick = s.tick := rfl
@[simp] theorem updSlot_pimg (k : Nat) (f : TakeSlot → TakeSlot) : (updSlot k f s).pimg = s.pimg := rfl
@[simp] theorem updSlot_lio (k : Nat) (f : TakeSlot → TakeSlot) : (updSlot k f s).lio = s.lio := rfl
@[simp] theorem updSlot_trp (k : Nat) (f : TakeSlot → TakeSlot) : (updSlot k f s).trp = s.trp := rfl
@[simp] theorem updSlot_car (k : Nat) (f : TakeSlot → TakeSlot) : (updSlot k f s).car = s.car := rfl
@[simp] theorem updSlot_asm (k : Nat) (f : TakeSlot → TakeSlot) : (updSlot k f s).asm = s.asm := rfl
@[simp] theorem updSlot_jug (k : Nat) (f : TakeSlot → TakeSlot) : (updSlot k f s).jug = s.jug := rfl
@[simp] theorem updSlot_boe (k : Nat) (f : TakeSlot → TakeSlot) : (updSlot k f s).boe = s.boe := rfl
@[simp] theorem updSlot_bot (k : Nat) (f : TakeSlot → TakeSlot) : (updSlot k f s).bot = s.bot := rfl
@[simp] theorem updSlot_bat (k : Nat) (f : TakeSlot → TakeSlot) : (updSlot k f s).bat = s.bat := rfl
@[simp] theorem updSlot_net (k : Nat) (f : TakeSlot → TakeSlot) : (updSlot k f s).net = s.net := rfl
@[simp] theorem updSlot_lrp (k : Nat) (f : TakeSlot → TakeSlot) : (updSlot k f s).lrp = s.lrp := rfl
@[simp] theorem updSlot_stn (k : Nat) (f : TakeSlot → TakeSlot) : (updSlot k f s).stn = s.stn := rfl
@[simp] theorem updSlot_can (k : Nat) (f : TakeSlot → TakeSlot) : (updSlot k f s).can = s.can := rfl
@[simp] theorem updSlot_spot (k : Nat) (f : TakeSlot → TakeSlot) : (updSlot k f s).spot = s.spot := rfl
@[simp] theorem updSlot_mem (k : Nat) (f : TakeSlot → TakeSlot) : (updSlot k f s).mem = s.mem := rfl
@[simp] theorem updSlot_cont (k : Nat) (f : TakeSlot → TakeSlot) : (updSlot k f s).cont = s.cont := rfl
@[simp] theorem updSlot_host (k : Nat) (f : TakeSlot → TakeSlot) : (updSlot k f s).host = s.host := rfl
@[simp] theorem updSlot_sec (k : Nat) (f : TakeSlot → TakeSlot) : (updSlot k f s).sec = s.sec := rfl
@[simp] theorem updSlot_pwr (k : Nat) (f : TakeSlot → TakeSlot) : (updSlot k f s).pwr = s.pwr := rfl
@[simp] theorem updSlot_cfg (k : Nat) (f : TakeSlot → TakeSlot) : (updSlot k f s).cfg = s.cfg := rfl
@[simp] theorem updSlot_free (k : Nat) (f : TakeSlot → TakeSlot) : (updSlot k f s).free = s.free := rfl
@[simp] theorem getF_updSlot (k : Nat) (f : TakeSlot → TakeSlot) (g : Field) : getF (updSlot k f s) g = getF s g := rfl

@[simp] theorem putSetpoint_pending (x : Setpoint) : (putSetpoint x s).pending = s.pending := rfl
@[simp] theorem putSetpoint_regs (x : Setpoint) : (putSetpoint x s).regs = s.regs := rfl
@[simp] theorem putSetpoint_dev (x : Setpoint) : (putSetpoint x s).dev = s.dev := rfl
@[simp] theorem putSetpoint_clap (x : Setpoint) : (putSetpoint x s).clap = s.clap := rfl
@[simp] theorem putSetpoint_tick (x : Setpoint) : (putSetpoint x s).tick = s.tick := rfl
@[simp] theorem putSetpoint_pimg (x : Setpoint) : (putSetpoint x s).pimg = s.pimg := rfl
@[simp] theorem putSetpoint_lio (x : Setpoint) : (putSetpoint x s).lio = s.lio := rfl
@[simp] theorem putSetpoint_trp (x : Setpoint) : (putSetpoint x s).trp = s.trp := rfl
@[simp] theorem putSetpoint_car (x : Setpoint) : (putSetpoint x s).car = s.car := rfl
@[simp] theorem putSetpoint_asm (x : Setpoint) : (putSetpoint x s).asm = s.asm := rfl
@[simp] theorem putSetpoint_jug (x : Setpoint) : (putSetpoint x s).jug = s.jug := rfl
@[simp] theorem putSetpoint_boe (x : Setpoint) : (putSetpoint x s).boe = s.boe := rfl
@[simp] theorem putSetpoint_bot (x : Setpoint) : (putSetpoint x s).bot = s.bot := rfl
@[simp] theorem putSetpoint_bat (x : Setpoint) : (putSetpoint x s).bat = s.bat := rfl
@[simp] theorem putSetpoint_net (x : Setpoint) : (putSetpoint x s).net = s.net := rfl
@[simp] theorem putSetpoint_lrp (x : Setpoint) : (putSetpoint x s).lrp = s.lrp := rfl
@[simp] theorem putSetpoint_stn (x : Setpoint) : (putSetpoint x s).stn = s.stn := rfl
@[simp] theorem putSetpoint_can (x : Setpoint) : (putSetpoint x s).can = s.can := rfl
@[simp] theorem putSetpoint_spot (x : Setpoint) : (putSetpoint x s).spot = s.spot := rfl
@[simp] theorem putSetpoint_mem (x : Setpoint) : (putSetpoint x s).mem = s.mem := rfl
@[simp] theorem putSetpoint_cont (x : Setpoint) : (putSetpoint x s).cont = s.cont := rfl
@[simp] theorem putSetpoint_host (x : Setpoint) : (putSetpoint x s).host = s.host := rfl
@[simp] theorem putSetpoint_sec (x : Setpoint) : (putSetpoint x s).sec = s.sec := rfl
@[simp] theorem putSetpoint_pwr (x : Setpoint) : (putSetpoint x s).pwr = s.pwr := rfl
@[simp] theorem putSetpoint_cfg (x : Setpoint) : (putSetpoint x s).cfg = s.cfg := rfl
@[simp] theorem putSetpoint_free (x : Setpoint) : (putSetpoint x s).free = s.free := rfl
@[simp] theorem getF_putSetpoint (x : Setpoint) (g : Field) : getF (putSetpoint x s) g = getF s g := rfl

@[simp] theorem updCapture_pending (k : Nat) (f : Capture → Capture) : (updCapture k f s).pending = s.pending := rfl
@[simp] theorem updCapture_regs (k : Nat) (f : Capture → Capture) : (updCapture k f s).regs = s.regs := rfl
@[simp] theorem updCapture_dev (k : Nat) (f : Capture → Capture) : (updCapture k f s).dev = s.dev := rfl
@[simp] theorem updCapture_clap (k : Nat) (f : Capture → Capture) : (updCapture k f s).clap = s.clap := rfl
@[simp] theorem updCapture_tick (k : Nat) (f : Capture → Capture) : (updCapture k f s).tick = s.tick := rfl
@[simp] theorem updCapture_pimg (k : Nat) (f : Capture → Capture) : (updCapture k f s).pimg = s.pimg := rfl
@[simp] theorem updCapture_lio (k : Nat) (f : Capture → Capture) : (updCapture k f s).lio = s.lio := rfl
@[simp] theorem updCapture_txn (k : Nat) (f : Capture → Capture) : (updCapture k f s).txn = s.txn := rfl
@[simp] theorem updCapture_car (k : Nat) (f : Capture → Capture) : (updCapture k f s).car = s.car := rfl
@[simp] theorem updCapture_asm (k : Nat) (f : Capture → Capture) : (updCapture k f s).asm = s.asm := rfl
@[simp] theorem updCapture_jug (k : Nat) (f : Capture → Capture) : (updCapture k f s).jug = s.jug := rfl
@[simp] theorem updCapture_boe (k : Nat) (f : Capture → Capture) : (updCapture k f s).boe = s.boe := rfl
@[simp] theorem updCapture_bot (k : Nat) (f : Capture → Capture) : (updCapture k f s).bot = s.bot := rfl
@[simp] theorem updCapture_bat (k : Nat) (f : Capture → Capture) : (updCapture k f s).bat = s.bat := rfl
@[simp] theorem updCapture_net (k : Nat) (f : Capture → Capture) : (updCapture k f s).net = s.net := rfl
@[simp] theorem updCapture_lrp (k : Nat) (f : Capture → Capture) : (updCapture k f s).lrp = s.lrp := rfl
@[simp] theorem updCapture_stn (k : Nat) (f : Capture → Capture) : (updCapture k f s).stn = s.stn := rfl
@[simp] theorem updCapture_can (k : Nat) (f : Capture → Capture) : (updCapture k f s).can = s.can := rfl
@[simp] theorem updCapture_spot (k : Nat) (f : Capture → Capture) : (updCapture k f s).spot = s.spot := rfl
@[simp] theorem updCapture_mem (k : Nat) (f : Capture → Capture) : (updCapture k f s).mem = s.mem := rfl
@[simp] theorem updCapture_cont (k : Nat) (f : Capture → Capture) : (updCapture k f s).cont = s.cont := rfl
@[simp] theorem updCapture_host (k : Nat) (f : Capture → Capture) : (updCapture k f s).host = s.host := rfl
@[simp] theorem updCapture_sec (k : Nat) (f : Capture → Capture) : (updCapture k f s).sec = s.sec := rfl
@[simp] theorem updCapture_pwr (k : Nat) (f : Capture → Capture) : (updCapture k f s).pwr = s.pwr := rfl
@[simp] theorem updCapture_cfg (k : Nat) (f : Capture → Capture) : (updCapture k f s).cfg = s.cfg := rfl
@[simp] theorem updCapture_free (k : Nat) (f : Capture → Capture) : (updCapture k f s).free = s.free := rfl
@[simp] theorem getF_updCapture (k : Nat) (f : Capture → Capture) (g : Field) : getF (updCapture k f s) g = getF s g := rfl

@[simp] theorem putScan_pending (n : Nat) (x : Option Scan) : (putScan n x s).pending = s.pending := rfl
@[simp] theorem putScan_regs (n : Nat) (x : Option Scan) : (putScan n x s).regs = s.regs := rfl
@[simp] theorem putScan_dev (n : Nat) (x : Option Scan) : (putScan n x s).dev = s.dev := rfl
@[simp] theorem putScan_clap (n : Nat) (x : Option Scan) : (putScan n x s).clap = s.clap := rfl
@[simp] theorem putScan_tick (n : Nat) (x : Option Scan) : (putScan n x s).tick = s.tick := rfl
@[simp] theorem putScan_pimg (n : Nat) (x : Option Scan) : (putScan n x s).pimg = s.pimg := rfl
@[simp] theorem putScan_lio (n : Nat) (x : Option Scan) : (putScan n x s).lio = s.lio := rfl
@[simp] theorem putScan_txn (n : Nat) (x : Option Scan) : (putScan n x s).txn = s.txn := rfl
@[simp] theorem putScan_trp (n : Nat) (x : Option Scan) : (putScan n x s).trp = s.trp := rfl
@[simp] theorem putScan_asm (n : Nat) (x : Option Scan) : (putScan n x s).asm = s.asm := rfl
@[simp] theorem putScan_jug (n : Nat) (x : Option Scan) : (putScan n x s).jug = s.jug := rfl
@[simp] theorem putScan_boe (n : Nat) (x : Option Scan) : (putScan n x s).boe = s.boe := rfl
@[simp] theorem putScan_bot (n : Nat) (x : Option Scan) : (putScan n x s).bot = s.bot := rfl
@[simp] theorem putScan_bat (n : Nat) (x : Option Scan) : (putScan n x s).bat = s.bat := rfl
@[simp] theorem putScan_net (n : Nat) (x : Option Scan) : (putScan n x s).net = s.net := rfl
@[simp] theorem putScan_lrp (n : Nat) (x : Option Scan) : (putScan n x s).lrp = s.lrp := rfl
@[simp] theorem putScan_stn (n : Nat) (x : Option Scan) : (putScan n x s).stn = s.stn := rfl
@[simp] theorem putScan_can (n : Nat) (x : Option Scan) : (putScan n x s).can = s.can := rfl
@[simp] theorem putScan_spot (n : Nat) (x : Option Scan) : (putScan n x s).spot = s.spot := rfl
@[simp] theorem putScan_mem (n : Nat) (x : Option Scan) : (putScan n x s).mem = s.mem := rfl
@[simp] theorem putScan_cont (n : Nat) (x : Option Scan) : (putScan n x s).cont = s.cont := rfl
@[simp] theorem putScan_host (n : Nat) (x : Option Scan) : (putScan n x s).host = s.host := rfl
@[simp] theorem putScan_sec (n : Nat) (x : Option Scan) : (putScan n x s).sec = s.sec := rfl
@[simp] theorem putScan_pwr (n : Nat) (x : Option Scan) : (putScan n x s).pwr = s.pwr := rfl
@[simp] theorem putScan_cfg (n : Nat) (x : Option Scan) : (putScan n x s).cfg = s.cfg := rfl
@[simp] theorem putScan_free (n : Nat) (x : Option Scan) : (putScan n x s).free = s.free := rfl
@[simp] theorem getF_putScan (n : Nat) (x : Option Scan) (g : Field) : getF (putScan n x s) g = getF s g := rfl

@[simp] theorem updSet_pending (k : Nat) (f : VoltageSet → VoltageSet) : (updSet k f s).pending = s.pending := rfl
@[simp] theorem updSet_regs (k : Nat) (f : VoltageSet → VoltageSet) : (updSet k f s).regs = s.regs := rfl
@[simp] theorem updSet_dev (k : Nat) (f : VoltageSet → VoltageSet) : (updSet k f s).dev = s.dev := rfl
@[simp] theorem updSet_clap (k : Nat) (f : VoltageSet → VoltageSet) : (updSet k f s).clap = s.clap := rfl
@[simp] theorem updSet_tick (k : Nat) (f : VoltageSet → VoltageSet) : (updSet k f s).tick = s.tick := rfl
@[simp] theorem updSet_pimg (k : Nat) (f : VoltageSet → VoltageSet) : (updSet k f s).pimg = s.pimg := rfl
@[simp] theorem updSet_lio (k : Nat) (f : VoltageSet → VoltageSet) : (updSet k f s).lio = s.lio := rfl
@[simp] theorem updSet_txn (k : Nat) (f : VoltageSet → VoltageSet) : (updSet k f s).txn = s.txn := rfl
@[simp] theorem updSet_trp (k : Nat) (f : VoltageSet → VoltageSet) : (updSet k f s).trp = s.trp := rfl
@[simp] theorem updSet_car (k : Nat) (f : VoltageSet → VoltageSet) : (updSet k f s).car = s.car := rfl
@[simp] theorem updSet_asm (k : Nat) (f : VoltageSet → VoltageSet) : (updSet k f s).asm = s.asm := rfl
@[simp] theorem updSet_jug (k : Nat) (f : VoltageSet → VoltageSet) : (updSet k f s).jug = s.jug := rfl
@[simp] theorem updSet_bot (k : Nat) (f : VoltageSet → VoltageSet) : (updSet k f s).bot = s.bot := rfl
@[simp] theorem updSet_bat (k : Nat) (f : VoltageSet → VoltageSet) : (updSet k f s).bat = s.bat := rfl
@[simp] theorem updSet_net (k : Nat) (f : VoltageSet → VoltageSet) : (updSet k f s).net = s.net := rfl
@[simp] theorem updSet_lrp (k : Nat) (f : VoltageSet → VoltageSet) : (updSet k f s).lrp = s.lrp := rfl
@[simp] theorem updSet_stn (k : Nat) (f : VoltageSet → VoltageSet) : (updSet k f s).stn = s.stn := rfl
@[simp] theorem updSet_can (k : Nat) (f : VoltageSet → VoltageSet) : (updSet k f s).can = s.can := rfl
@[simp] theorem updSet_spot (k : Nat) (f : VoltageSet → VoltageSet) : (updSet k f s).spot = s.spot := rfl
@[simp] theorem updSet_mem (k : Nat) (f : VoltageSet → VoltageSet) : (updSet k f s).mem = s.mem := rfl
@[simp] theorem updSet_cont (k : Nat) (f : VoltageSet → VoltageSet) : (updSet k f s).cont = s.cont := rfl
@[simp] theorem updSet_host (k : Nat) (f : VoltageSet → VoltageSet) : (updSet k f s).host = s.host := rfl
@[simp] theorem updSet_sec (k : Nat) (f : VoltageSet → VoltageSet) : (updSet k f s).sec = s.sec := rfl
@[simp] theorem updSet_pwr (k : Nat) (f : VoltageSet → VoltageSet) : (updSet k f s).pwr = s.pwr := rfl
@[simp] theorem updSet_cfg (k : Nat) (f : VoltageSet → VoltageSet) : (updSet k f s).cfg = s.cfg := rfl
@[simp] theorem updSet_free (k : Nat) (f : VoltageSet → VoltageSet) : (updSet k f s).free = s.free := rfl
@[simp] theorem getF_updSet (k : Nat) (f : VoltageSet → VoltageSet) (g : Field) : getF (updSet k f s) g = getF s g := rfl

@[simp] theorem putCalc_pending (k : Nat) (x : CalcState) : (putCalc k x s).pending = s.pending := rfl
@[simp] theorem putCalc_regs (k : Nat) (x : CalcState) : (putCalc k x s).regs = s.regs := rfl
@[simp] theorem putCalc_dev (k : Nat) (x : CalcState) : (putCalc k x s).dev = s.dev := rfl
@[simp] theorem putCalc_clap (k : Nat) (x : CalcState) : (putCalc k x s).clap = s.clap := rfl
@[simp] theorem putCalc_tick (k : Nat) (x : CalcState) : (putCalc k x s).tick = s.tick := rfl
@[simp] theorem putCalc_pimg (k : Nat) (x : CalcState) : (putCalc k x s).pimg = s.pimg := rfl
@[simp] theorem putCalc_lio (k : Nat) (x : CalcState) : (putCalc k x s).lio = s.lio := rfl
@[simp] theorem putCalc_txn (k : Nat) (x : CalcState) : (putCalc k x s).txn = s.txn := rfl
@[simp] theorem putCalc_trp (k : Nat) (x : CalcState) : (putCalc k x s).trp = s.trp := rfl
@[simp] theorem putCalc_car (k : Nat) (x : CalcState) : (putCalc k x s).car = s.car := rfl
@[simp] theorem putCalc_asm (k : Nat) (x : CalcState) : (putCalc k x s).asm = s.asm := rfl
@[simp] theorem putCalc_jug (k : Nat) (x : CalcState) : (putCalc k x s).jug = s.jug := rfl
@[simp] theorem putCalc_boe (k : Nat) (x : CalcState) : (putCalc k x s).boe = s.boe := rfl
@[simp] theorem putCalc_bat (k : Nat) (x : CalcState) : (putCalc k x s).bat = s.bat := rfl
@[simp] theorem putCalc_net (k : Nat) (x : CalcState) : (putCalc k x s).net = s.net := rfl
@[simp] theorem putCalc_lrp (k : Nat) (x : CalcState) : (putCalc k x s).lrp = s.lrp := rfl
@[simp] theorem putCalc_stn (k : Nat) (x : CalcState) : (putCalc k x s).stn = s.stn := rfl
@[simp] theorem putCalc_can (k : Nat) (x : CalcState) : (putCalc k x s).can = s.can := rfl
@[simp] theorem putCalc_spot (k : Nat) (x : CalcState) : (putCalc k x s).spot = s.spot := rfl
@[simp] theorem putCalc_mem (k : Nat) (x : CalcState) : (putCalc k x s).mem = s.mem := rfl
@[simp] theorem putCalc_cont (k : Nat) (x : CalcState) : (putCalc k x s).cont = s.cont := rfl
@[simp] theorem putCalc_host (k : Nat) (x : CalcState) : (putCalc k x s).host = s.host := rfl
@[simp] theorem putCalc_sec (k : Nat) (x : CalcState) : (putCalc k x s).sec = s.sec := rfl
@[simp] theorem putCalc_pwr (k : Nat) (x : CalcState) : (putCalc k x s).pwr = s.pwr := rfl
@[simp] theorem putCalc_cfg (k : Nat) (x : CalcState) : (putCalc k x s).cfg = s.cfg := rfl
@[simp] theorem putCalc_free (k : Nat) (x : CalcState) : (putCalc k x s).free = s.free := rfl
@[simp] theorem getF_putCalc (k : Nat) (x : CalcState) (g : Field) : getF (putCalc k x s) g = getF s g := rfl

@[simp] theorem updStation_pending (n : Nat) (f : StationState → StationState) : (updStation n f s).pending = s.pending := rfl
@[simp] theorem updStation_regs (n : Nat) (f : StationState → StationState) : (updStation n f s).regs = s.regs := rfl
@[simp] theorem updStation_dev (n : Nat) (f : StationState → StationState) : (updStation n f s).dev = s.dev := rfl
@[simp] theorem updStation_clap (n : Nat) (f : StationState → StationState) : (updStation n f s).clap = s.clap := rfl
@[simp] theorem updStation_tick (n : Nat) (f : StationState → StationState) : (updStation n f s).tick = s.tick := rfl
@[simp] theorem updStation_pimg (n : Nat) (f : StationState → StationState) : (updStation n f s).pimg = s.pimg := rfl
@[simp] theorem updStation_lio (n : Nat) (f : StationState → StationState) : (updStation n f s).lio = s.lio := rfl
@[simp] theorem updStation_txn (n : Nat) (f : StationState → StationState) : (updStation n f s).txn = s.txn := rfl
@[simp] theorem updStation_trp (n : Nat) (f : StationState → StationState) : (updStation n f s).trp = s.trp := rfl
@[simp] theorem updStation_car (n : Nat) (f : StationState → StationState) : (updStation n f s).car = s.car := rfl
@[simp] theorem updStation_asm (n : Nat) (f : StationState → StationState) : (updStation n f s).asm = s.asm := rfl
@[simp] theorem updStation_jug (n : Nat) (f : StationState → StationState) : (updStation n f s).jug = s.jug := rfl
@[simp] theorem updStation_boe (n : Nat) (f : StationState → StationState) : (updStation n f s).boe = s.boe := rfl
@[simp] theorem updStation_bot (n : Nat) (f : StationState → StationState) : (updStation n f s).bot = s.bot := rfl
@[simp] theorem updStation_bat (n : Nat) (f : StationState → StationState) : (updStation n f s).bat = s.bat := rfl
@[simp] theorem updStation_net (n : Nat) (f : StationState → StationState) : (updStation n f s).net = s.net := rfl
@[simp] theorem updStation_lrp (n : Nat) (f : StationState → StationState) : (updStation n f s).lrp = s.lrp := rfl
@[simp] theorem updStation_can (n : Nat) (f : StationState → StationState) : (updStation n f s).can = s.can := rfl
@[simp] theorem updStation_spot (n : Nat) (f : StationState → StationState) : (updStation n f s).spot = s.spot := rfl
@[simp] theorem updStation_mem (n : Nat) (f : StationState → StationState) : (updStation n f s).mem = s.mem := rfl
@[simp] theorem updStation_cont (n : Nat) (f : StationState → StationState) : (updStation n f s).cont = s.cont := rfl
@[simp] theorem updStation_host (n : Nat) (f : StationState → StationState) : (updStation n f s).host = s.host := rfl
@[simp] theorem updStation_sec (n : Nat) (f : StationState → StationState) : (updStation n f s).sec = s.sec := rfl
@[simp] theorem updStation_pwr (n : Nat) (f : StationState → StationState) : (updStation n f s).pwr = s.pwr := rfl
@[simp] theorem updStation_cfg (n : Nat) (f : StationState → StationState) : (updStation n f s).cfg = s.cfg := rfl
@[simp] theorem updStation_free (n : Nat) (f : StationState → StationState) : (updStation n f s).free = s.free := rfl
@[simp] theorem getF_updStation (n : Nat) (f : StationState → StationState) (g : Field) : getF (updStation n f s) g = getF s g := rfl

@[simp] theorem updPort_pending (c : Nat) (f : CanPort → CanPort) : (updPort c f s).pending = s.pending := rfl
@[simp] theorem updPort_regs (c : Nat) (f : CanPort → CanPort) : (updPort c f s).regs = s.regs := rfl
@[simp] theorem updPort_dev (c : Nat) (f : CanPort → CanPort) : (updPort c f s).dev = s.dev := rfl
@[simp] theorem updPort_clap (c : Nat) (f : CanPort → CanPort) : (updPort c f s).clap = s.clap := rfl
@[simp] theorem updPort_tick (c : Nat) (f : CanPort → CanPort) : (updPort c f s).tick = s.tick := rfl
@[simp] theorem updPort_pimg (c : Nat) (f : CanPort → CanPort) : (updPort c f s).pimg = s.pimg := rfl
@[simp] theorem updPort_lio (c : Nat) (f : CanPort → CanPort) : (updPort c f s).lio = s.lio := rfl
@[simp] theorem updPort_txn (c : Nat) (f : CanPort → CanPort) : (updPort c f s).txn = s.txn := rfl
@[simp] theorem updPort_trp (c : Nat) (f : CanPort → CanPort) : (updPort c f s).trp = s.trp := rfl
@[simp] theorem updPort_car (c : Nat) (f : CanPort → CanPort) : (updPort c f s).car = s.car := rfl
@[simp] theorem updPort_asm (c : Nat) (f : CanPort → CanPort) : (updPort c f s).asm = s.asm := rfl
@[simp] theorem updPort_jug (c : Nat) (f : CanPort → CanPort) : (updPort c f s).jug = s.jug := rfl
@[simp] theorem updPort_boe (c : Nat) (f : CanPort → CanPort) : (updPort c f s).boe = s.boe := rfl
@[simp] theorem updPort_bot (c : Nat) (f : CanPort → CanPort) : (updPort c f s).bot = s.bot := rfl
@[simp] theorem updPort_bat (c : Nat) (f : CanPort → CanPort) : (updPort c f s).bat = s.bat := rfl
@[simp] theorem updPort_net (c : Nat) (f : CanPort → CanPort) : (updPort c f s).net = s.net := rfl
@[simp] theorem updPort_lrp (c : Nat) (f : CanPort → CanPort) : (updPort c f s).lrp = s.lrp := rfl
@[simp] theorem updPort_stn (c : Nat) (f : CanPort → CanPort) : (updPort c f s).stn = s.stn := rfl
@[simp] theorem updPort_spot (c : Nat) (f : CanPort → CanPort) : (updPort c f s).spot = s.spot := rfl
@[simp] theorem updPort_mem (c : Nat) (f : CanPort → CanPort) : (updPort c f s).mem = s.mem := rfl
@[simp] theorem updPort_cont (c : Nat) (f : CanPort → CanPort) : (updPort c f s).cont = s.cont := rfl
@[simp] theorem updPort_host (c : Nat) (f : CanPort → CanPort) : (updPort c f s).host = s.host := rfl
@[simp] theorem updPort_sec (c : Nat) (f : CanPort → CanPort) : (updPort c f s).sec = s.sec := rfl
@[simp] theorem updPort_pwr (c : Nat) (f : CanPort → CanPort) : (updPort c f s).pwr = s.pwr := rfl
@[simp] theorem updPort_cfg (c : Nat) (f : CanPort → CanPort) : (updPort c f s).cfg = s.cfg := rfl
@[simp] theorem updPort_free (c : Nat) (f : CanPort → CanPort) : (updPort c f s).free = s.free := rfl
@[simp] theorem getF_updPort (c : Nat) (f : CanPort → CanPort) (g : Field) : getF (updPort c f s) g = getF s g := rfl

@[simp] theorem updSpot_pending (f : SpotPart → SpotPart) : (updSpot f s).pending = s.pending := rfl
@[simp] theorem updSpot_regs (f : SpotPart → SpotPart) : (updSpot f s).regs = s.regs := rfl
@[simp] theorem updSpot_dev (f : SpotPart → SpotPart) : (updSpot f s).dev = s.dev := rfl
@[simp] theorem updSpot_clap (f : SpotPart → SpotPart) : (updSpot f s).clap = s.clap := rfl
@[simp] theorem updSpot_tick (f : SpotPart → SpotPart) : (updSpot f s).tick = s.tick := rfl
@[simp] theorem updSpot_pimg (f : SpotPart → SpotPart) : (updSpot f s).pimg = s.pimg := rfl
@[simp] theorem updSpot_lio (f : SpotPart → SpotPart) : (updSpot f s).lio = s.lio := rfl
@[simp] theorem updSpot_txn (f : SpotPart → SpotPart) : (updSpot f s).txn = s.txn := rfl
@[simp] theorem updSpot_trp (f : SpotPart → SpotPart) : (updSpot f s).trp = s.trp := rfl
@[simp] theorem updSpot_car (f : SpotPart → SpotPart) : (updSpot f s).car = s.car := rfl
@[simp] theorem updSpot_asm (f : SpotPart → SpotPart) : (updSpot f s).asm = s.asm := rfl
@[simp] theorem updSpot_jug (f : SpotPart → SpotPart) : (updSpot f s).jug = s.jug := rfl
@[simp] theorem updSpot_boe (f : SpotPart → SpotPart) : (updSpot f s).boe = s.boe := rfl
@[simp] theorem updSpot_bot (f : SpotPart → SpotPart) : (updSpot f s).bot = s.bot := rfl
@[simp] theorem updSpot_bat (f : SpotPart → SpotPart) : (updSpot f s).bat = s.bat := rfl
@[simp] theorem updSpot_net (f : SpotPart → SpotPart) : (updSpot f s).net = s.net := rfl
@[simp] theorem updSpot_lrp (f : SpotPart → SpotPart) : (updSpot f s).lrp = s.lrp := rfl
@[simp] theorem updSpot_stn (f : SpotPart → SpotPart) : (updSpot f s).stn = s.stn := rfl
@[simp] theorem updSpot_can (f : SpotPart → SpotPart) : (updSpot f s).can = s.can := rfl
@[simp] theorem updSpot_mem (f : SpotPart → SpotPart) : (updSpot f s).mem = s.mem := rfl
@[simp] theorem updSpot_cont (f : SpotPart → SpotPart) : (updSpot f s).cont = s.cont := rfl
@[simp] theorem updSpot_host (f : SpotPart → SpotPart) : (updSpot f s).host = s.host := rfl
@[simp] theorem updSpot_sec (f : SpotPart → SpotPart) : (updSpot f s).sec = s.sec := rfl
@[simp] theorem updSpot_pwr (f : SpotPart → SpotPart) : (updSpot f s).pwr = s.pwr := rfl
@[simp] theorem updSpot_cfg (f : SpotPart → SpotPart) : (updSpot f s).cfg = s.cfg := rfl
@[simp] theorem updSpot_free (f : SpotPart → SpotPart) : (updSpot f s).free = s.free := rfl
@[simp] theorem getF_updSpot (f : SpotPart → SpotPart) (g : Field) : getF (updSpot f s) g = getF s g := rfl

@[simp] theorem setBucket_pending (code tokens : Nat) : (setBucket code tokens s).pending = s.pending := rfl
@[simp] theorem setBucket_regs (code tokens : Nat) : (setBucket code tokens s).regs = s.regs := rfl
@[simp] theorem setBucket_dev (code tokens : Nat) : (setBucket code tokens s).dev = s.dev := rfl
@[simp] theorem setBucket_clap (code tokens : Nat) : (setBucket code tokens s).clap = s.clap := rfl
@[simp] theorem setBucket_tick (code tokens : Nat) : (setBucket code tokens s).tick = s.tick := rfl
@[simp] theorem setBucket_pimg (code tokens : Nat) : (setBucket code tokens s).pimg = s.pimg := rfl
@[simp] theorem setBucket_lio (code tokens : Nat) : (setBucket code tokens s).lio = s.lio := rfl
@[simp] theorem setBucket_txn (code tokens : Nat) : (setBucket code tokens s).txn = s.txn := rfl
@[simp] theorem setBucket_trp (code tokens : Nat) : (setBucket code tokens s).trp = s.trp := rfl
@[simp] theorem setBucket_car (code tokens : Nat) : (setBucket code tokens s).car = s.car := rfl
@[simp] theorem setBucket_asm (code tokens : Nat) : (setBucket code tokens s).asm = s.asm := rfl
@[simp] theorem setBucket_jug (code tokens : Nat) : (setBucket code tokens s).jug = s.jug := rfl
@[simp] theorem setBucket_boe (code tokens : Nat) : (setBucket code tokens s).boe = s.boe := rfl
@[simp] theorem setBucket_bot (code tokens : Nat) : (setBucket code tokens s).bot = s.bot := rfl
@[simp] theorem setBucket_bat (code tokens : Nat) : (setBucket code tokens s).bat = s.bat := rfl
@[simp] theorem setBucket_net (code tokens : Nat) : (setBucket code tokens s).net = s.net := rfl
@[simp] theorem setBucket_lrp (code tokens : Nat) : (setBucket code tokens s).lrp = s.lrp := rfl
@[simp] theorem setBucket_stn (code tokens : Nat) : (setBucket code tokens s).stn = s.stn := rfl
@[simp] theorem setBucket_can (code tokens : Nat) : (setBucket code tokens s).can = s.can := rfl
@[simp] theorem setBucket_spot (code tokens : Nat) : (setBucket code tokens s).spot = s.spot := rfl
@[simp] theorem setBucket_mem (code tokens : Nat) : (setBucket code tokens s).mem = s.mem := rfl
@[simp] theorem setBucket_host (code tokens : Nat) : (setBucket code tokens s).host = s.host := rfl
@[simp] theorem setBucket_sec (code tokens : Nat) : (setBucket code tokens s).sec = s.sec := rfl
@[simp] theorem setBucket_pwr (code tokens : Nat) : (setBucket code tokens s).pwr = s.pwr := rfl
@[simp] theorem setBucket_cfg (code tokens : Nat) : (setBucket code tokens s).cfg = s.cfg := rfl
@[simp] theorem setBucket_free (code tokens : Nat) : (setBucket code tokens s).free = s.free := rfl
@[simp] theorem getF_setBucket (code tokens : Nat) (g : Field) : getF (setBucket code tokens s) g = getF s g := rfl

@[simp] theorem updSec_pending (f : SecPart → SecPart) : (updSec f s).pending = s.pending := rfl
@[simp] theorem updSec_regs (f : SecPart → SecPart) : (updSec f s).regs = s.regs := rfl
@[simp] theorem updSec_dev (f : SecPart → SecPart) : (updSec f s).dev = s.dev := rfl
@[simp] theorem updSec_clap (f : SecPart → SecPart) : (updSec f s).clap = s.clap := rfl
@[simp] theorem updSec_tick (f : SecPart → SecPart) : (updSec f s).tick = s.tick := rfl
@[simp] theorem updSec_pimg (f : SecPart → SecPart) : (updSec f s).pimg = s.pimg := rfl
@[simp] theorem updSec_lio (f : SecPart → SecPart) : (updSec f s).lio = s.lio := rfl
@[simp] theorem updSec_txn (f : SecPart → SecPart) : (updSec f s).txn = s.txn := rfl
@[simp] theorem updSec_trp (f : SecPart → SecPart) : (updSec f s).trp = s.trp := rfl
@[simp] theorem updSec_car (f : SecPart → SecPart) : (updSec f s).car = s.car := rfl
@[simp] theorem updSec_asm (f : SecPart → SecPart) : (updSec f s).asm = s.asm := rfl
@[simp] theorem updSec_jug (f : SecPart → SecPart) : (updSec f s).jug = s.jug := rfl
@[simp] theorem updSec_boe (f : SecPart → SecPart) : (updSec f s).boe = s.boe := rfl
@[simp] theorem updSec_bot (f : SecPart → SecPart) : (updSec f s).bot = s.bot := rfl
@[simp] theorem updSec_bat (f : SecPart → SecPart) : (updSec f s).bat = s.bat := rfl
@[simp] theorem updSec_net (f : SecPart → SecPart) : (updSec f s).net = s.net := rfl
@[simp] theorem updSec_lrp (f : SecPart → SecPart) : (updSec f s).lrp = s.lrp := rfl
@[simp] theorem updSec_stn (f : SecPart → SecPart) : (updSec f s).stn = s.stn := rfl
@[simp] theorem updSec_can (f : SecPart → SecPart) : (updSec f s).can = s.can := rfl
@[simp] theorem updSec_spot (f : SecPart → SecPart) : (updSec f s).spot = s.spot := rfl
@[simp] theorem updSec_mem (f : SecPart → SecPart) : (updSec f s).mem = s.mem := rfl
@[simp] theorem updSec_cont (f : SecPart → SecPart) : (updSec f s).cont = s.cont := rfl
@[simp] theorem updSec_host (f : SecPart → SecPart) : (updSec f s).host = s.host := rfl
@[simp] theorem updSec_pwr (f : SecPart → SecPart) : (updSec f s).pwr = s.pwr := rfl
@[simp] theorem updSec_cfg (f : SecPart → SecPart) : (updSec f s).cfg = s.cfg := rfl
@[simp] theorem updSec_free (f : SecPart → SecPart) : (updSec f s).free = s.free := rfl
@[simp] theorem getF_updSec (f : SecPart → SecPart) (g : Field) : getF (updSec f s) g = getF s g := rfl

end Sys2Proof.Machine
end

