-- ==== Sys2Proof/WellFormed.lean ====
section
/-! DEFINITION. Which operands the block's interfaces can carry: 32-bit arguments and addresses, the numbers of ports,
channels, slots, rings and vectors that exist. The meanings are total: they answer for ill-formed operands too. -/

namespace Sys2Proof

/-- A number below a bound. -/
def below (n k : Nat) : Bool := decide (k < n)
/-- A 32-bit word. -/
def word (k : Nat) : Bool := below 0x100000000 k
/-- A 64-bit word. -/
def double (k : Nat) : Bool := below 0x10000000000000000 k
/-- A session slot, where one is given, is one of eight (R480). -/
def Caller.ok (c : Caller) : Bool := c.session.all (below 8)
/-- A list of bytes. -/
def bytes (l : List Nat) : Bool := l.all (below 256)
/-- A Reel image holds bytes. -/
def ReelImage.ok (x : ReelImage) : Bool := bytes x.header && bytes x.table && x.stored.all bytes
/-- A datagram on the management port (R508). -/
def mgmtOk (d : Datagram) : Bool := below 65536 d.port && below 65536 d.dest && bytes d.bytes

/-- The operands of a command lie in their ranges. -/
def Instr.wf : Instr → Bool
  | .x1Good _ _ _ => true
  | .bootSelfTestsDone _ => true
  | .loadDone x _ => x.ok
  | .loadFailed x _ => x.ok
  | .cardRemoved => true
  | .lockWaitExpired => true
  | .startConditionMet _ => true
  | .goLive => true
  | .go c a0 => c.ok && word a0
  | .restart c a0 => c.ok && word a0
  | .maintenance c a0 => c.ok && word a0
  | .discardSpliceLog c a0 => c.ok && word a0
  | .tickStart _ ue => ue.all (fun e => below 9 e.memory)
  | .injectEnded l => below 512 l
  | .curtain => true
  | .healthPeriodic => true
  | .stagingPost u _ => below 24 u
  | .clearCounts c a0 => c.ok && word a0
  | .powerFailStarted _ _ _ => true
  | .powerFailShed => true
  | .powerFailOff => true
  | .inputLost x _ => below 2 x
  | .inputRestored x _ => below 2 x
  | .inputOvervoltage x _ => below 2 x
  | .pllUnlocked p => below 11 p
  | .pllRelocked p => below 11 p
  | .referenceLost _ => true
  | .tempHigh _ => true
  | .tempNormal _ => true
  | .tempFailed _ => true
  | .thermalShutdown _ => true
  | .open_ c a0 => c.ok && word a0
  | .stage c a0 a1 _ => c.ok && word a0 && word a1
  | .commit c a0 => c.ok && word a0
  | .cut c a0 => c.ok && word a0
  | .readTunable c a0 a1 => c.ok && word a0 && word a1
  | .takeExpired k => below 4 k
  | .writeAheadTurn => true
  | .takeBodyWritten => true
  | .takeCommitted => true
  | .takeVoided _ => true
  | .spliceWriteFailed => true
  | .pointSample u p _ stamp _ => below 24 u && below 1048576 p && double stamp
  | .pointStale p => below 1048576 p
  | .analogInputSample raws => decide (raws.length = 32)
  | .shuntOpen c => below 32 c
  | .shuntReclose c => below 32 c
  | .rtdConversion k _ _ => below 64 k
  | .digitalInputChange c _ => below 64 c
  | .pulseTransfer => true
  | .digitalOutputOvercurrent c _ => below 64 c
  | .outputRetry c _ => below 64 c
  | .analogOutputFault c _ => below 16 c
  | .roundStart => true
  | .roundAssembled _ _ => true
  | .loadPanel _ _ => true
  | .factor _ _ => true
  | .trsm _ _ => true
  | .update _ _ => true
  | .stbSend _ _ => true
  | .extendAdd _ _ => true
  | .storePanel _ _ => true
  | .arrive _ => true
  | .wait _ => true
  | .fwd _ _ => true
  | .diag _ _ => true
  | .bwd _ _ => true
  | .resid _ _ => true
  | .boundStep _ _ => true
  | .move _ _ => true
  | .residuals _ _ => true
  | .measure _ _ => true
  | .prepare _ _ => true
  | .reduce _ _ => true
  | .segmentRunEnd _ _ => true
  | .segmentStalled => true
  | .roundDeadline _ _ => true
  | .planWritten => true
  | .clusterWakeFailed k => below 4 k
  | .injectStart c a0 a1 => c.ok && word a0 && word a1
  | .injectStop c a0 => c.ok && word a0
  | .captureArm c a0 a1 => c.ok && word a0 && word a1
  | .captureStop c a0 => c.ok && word a0
  | .repClear c a0 => c.ok && word a0
  | .carNop _ _ => true
  | .carLd _ _ => true
  | .carLdn _ _ => true
  | .carAnd _ _ => true
  | .carAndn _ _ => true
  | .carOr _ _ => true
  | .carOrn _ _ => true
  | .carXor _ _ => true
  | .carSt _ _ => true
  | .carStn _ _ => true
  | .carSet _ _ => true
  | .carRst _ _ => true
  | .carLdq _ _ => true
  | .carNot _ _ => true
  | .carTrue _ _ => true
  | .carPush _ _ => true
  | .carRead _ _ => true
  | .carPop _ _ => true
  | .carAndp _ _ => true
  | .carOrp _ _ => true
  | .carRtrig _ _ => true
  | .carFtrig _ _ => true
  | .carTon _ _ => true
  | .carTof _ _ => true
  | .carTp _ _ => true
  | .carCnt _ _ => true
  | .carCrst _ _ => true
  | .carLdw _ _ => true
  | .carStw _ _ => true
  | .carAddi _ _ => true
  | .carSubi _ _ => true
  | .carMuli _ _ => true
  | .carDivi _ _ => true
  | .carAndw _ _ => true
  | .carOrw _ _ => true
  | .carAddf _ _ => true
  | .carSubf _ _ => true
  | .carMulf _ _ => true
  | .carDivf _ _ => true
  | .carMinf _ _ => true
  | .carMaxf _ _ => true
  | .carItof _ _ => true
  | .carFtoi _ _ => true
  | .carEqi _ _ => true
  | .carLti _ _ => true
  | .carGti _ _ => true
  | .carLtf _ _ => true
  | .carGtf _ _ => true
  | .carEqw _ _ => true
  | .carSel _ _ => true
  | .carJmp _ _ => true
  | .carJmpt _ _ => true
  | .carJmpf _ _ => true
  | .carEnd _ _ => true
  | .windowClose _ => true
  | .windowProcessed _ => true
  | .demandIntervalClose => true
  | .thermalIntervalClose => true
  | .calStart c a0 a1 => c.ok && word a0 && word a1
  | .calAbort c a0 => c.ok && word a0
  | .calDone => true
  | .periodicSave => true
  | .saveFailed cause => below 4 cause
  | .flushSave => true
  | .batterySecond rms => decide (rms.length = 48)
  | .batteryCheck _ => true
  | .tamperOpen => true
  | .tamperClosed => true
  | .tamperClear c a0 => c.ok && word a0
  | .offsetMeasurement b _ => decide (2 ≤ b) && below 6 b
  | .domainHoldover b => decide (2 ≤ b) && below 6 b
  | .domainInvalid b => decide (2 ≤ b) && below 6 b
  | .localRevert b => decide (2 ≤ b) && below 6 b
  | .announceReceived b m => decide (2 ≤ b) && below 6 b && below 2 m.port && below 256 m.ptpDomain && word m.gmLo && word m.gmHi &&
      [m.priority1, m.clockClass, m.accuracy, m.priority2].all (below 256) && below 65536 m.variance && below 65536 m.stepsRemoved
  | .pdelayReq port req => below 17 port && below 256 req.ptpDomain && below 65536 req.sequence
  | .setIncrement c a0 a1 a2 => c.ok && word a0 && word a1 && word a2
  | .step c a0 a1 a2 => c.ok && word a0 && word a1 && word a2
  | .setLock c a0 a1 => c.ok && word a0 && word a1
  | .select c a0 => c.ok && word a0
  | .linkUp x => below 17 x
  | .linkDown x => below 17 x
  | .sfpMismatch x code => below 5 x && below 256 code
  | .backboneFrameRx f => below 16 f.port && below (2 ^ 48) f.source && below (2 ^ 48) f.dest
  | .prpSupervisionSend k => below 2 k
  | .prpNodeForget _ => true
  | .frameLaunch p => below 20 p
  | .detection l _ _ => below 8 l
  | .powerFault l kind _ => below 8 l && below 3 kind
  | .powerOff c a0 => c.ok && word a0
  | .powerOn c a0 => c.ok && word a0
  | .inputFrame f => below 16 f.port && f.payload.all (below 256)
  | .stationAbsent n => below 1024 n
  | .stationSummary n => below 1024 n
  | .netDropPoint => true
  | .canFrameRx c f => below 4 c && below (2 ^ 29) f.id && below 16 f.dlc && below (2 ^ 512) f.data
  | .messageAged c b => below 4 c && below 128 b
  | .canWindowStart c _ => below 4 c
  | .canWindowEnd c => below 4 c
  | .canFrameSent c => below 4 c
  | .canBusError c tec rec => below 4 c && below 512 tec && below 512 rec
  | .recoveryDone c => below 4 c
  | .send c a0 a1 => c.ok && word a0 && word a1
  | .recover c a0 a1 => c.ok && word a0 && word a1
  | .grantConfirmed _ side _ => below 2 side
  | .ringmasterLost => true
  | .ringmasterReturned _ side _ => below 2 side
  | .ringmasterStartGrant _ _ => true
  | .grantMoved _ _ => true
  | .grantRaise => true
  | .spotLead _ => true
  | .outputRelease => true
  | .joinRequest _ => true
  | .mirrorDelta _ _ => true
  | .mirrorMiss => true
  | .returnSend => true
  | .returnFrame _ => true
  | .peerLost => true
  | .handover c a0 => c.ok && word a0
  | .rejoin c a0 => c.ok && word a0
  | .scrubRead m _ requester => below 9 m && requester.all (below 24)
  | .crossingStalled g => below 12 g
  | .crossingResumed g _ => below 12 g
  | .clearTable c a0 a1 => c.ok && word a0 && word a1
  | .setScrub c a0 a1 => c.ok && word a0 && word a1
  | .recordAdmit _ => true
  | .summaryTimeout code => below 65536 code
  | .flushTimer => true
  | .flushDone _ => true
  | .flush c a0 => c.ok && word a0
  | .contRead c a0 a1 a2 => c.ok && word a0 && word a1 && word a2
  | .readStop c a0 => c.ok && word a0
  | .readDone ring => below 16 ring
  | .sessionBegin c a0 _ => c.ok && word a0
  | .sessionProve c a0 _ => c.ok && word a0
  | .sessionProofTimeout k => below 8 k
  | .sessionClose c a0 _ => c.ok && word a0
  | .sessionEnded k => below 8 k
  | .installKey c a0 _ => c.ok && word a0
  | .deleteKey c a0 a1 _ => c.ok && word a0 && word a1
  | .keyInfo c a0 _ => c.ok && word a0
  | .zeroise c a0 _ => c.ok && word a0
  | .getCert c a0 _ => c.ok && word a0
  | .attest c a0 _ => c.ok && word a0
  | .random c a0 _ => c.ok && word a0
  | .selfTestFailed which => below 2 which
  | .microcodeWrite c a0 a1 a2 _ => c.ok && word a0 && word a1 && word a2
  | .setMinVersion c a0 _ => c.ok && word a0
  | .debugUnlock c a0 _ => c.ok && word a0
  | .hostReset cause => below 3 cause
  | .linkChanged which _ _ _ => below 2 which
  | .ringWrite r _ => below 16 r
  | .ringModeration r => below 16 r
  | .consWrite r v => below 16 r && word v
  | .ringEnable r => below 16 r
  | .submissionFetch e _ _ => below 256 e.unit && below 256 e.opcode && word e.tag && word e.arg0 && word e.arg1 && word e.arg2
  | .txRingDoorbell r prod _ => below 16 r && word prod
  | .mgmtBegin d _ => mgmtOk d
  | .mgmtProve d _ => mgmtOk d
  | .mgmtCommand d _ _ => mgmtOk d
  | .mgmtRead d => mgmtOk d
  | .mgmtWrite d => mgmtOk d
  | .arpRequest _ _ => true
  | .subscribe c a0 => c.ok && word a0
  | .unsubscribe c a0 => c.ok && word a0
  | .ringBind c a0 a1 a2 => c.ok && word a0 && word a1 && word a2
  | .badAccess a _ _ => word a
  | .absentAccess a _ => word a
  | .gatedAccess a _ => word a
  | .tkWriteDropped a v => word a && word v
  | .rcRead a => word a
  | .latchedLoRead a => word a
  | .w1cWrite a v => word a && word v
  | .newDataClear c b => below 4 c && below 128 b
  | .registerWrite a v _ => word a && word v
  | .pulseEdge c => below 32 c
  | .armedBeat => true
  | .referenceReturned => true
  | .holdUpExhausted => true
  | .lockoutExpired _ transport => transport.all (below 2)
  | .secCommandDone => true
  | .mirroredEntryDurable _ => true
  | .pdelayRespReceived port _ => below 17 port
  | .msixUnmask v => below 64 v
  | .busMasterEnable _ => true
  | .analogOutputFaultCleared c => below 16 c

end Sys2Proof
end

