-- ==== Sys2Proof/Tests/Slice0.lean ====
section
/-! SUPPORT. Tests: operands that no interface can carry are refused by the check; small states that meet the hypotheses of
the statements, clause by clause; single steps whose results the manual gives. -/

namespace Sys2Proof.Tests

set_option Elab.async false

open Sys2Proof Sys2Proof.Machine

/-! ### Operands that the check refuses -/

/-- A caller over the management port whose session holds a role. -/
def by_ (role : Nat) : Caller := ⟨.mgmt, some (role + 1), [], []⟩
/-- The caller of a register access. -/
def bar : Caller := ⟨.bar, none, [], []⟩

/-- One ill-formed operand for each check of Instr.wf, in the order of its kinds. -/
theorem test_ill_formed_operands_are_refused :
    ([.loadDone { header := [256] } {}, .loadFailed { stored := [[0], [300]] } {}, .go ⟨.mgmt, some 8, [], []⟩ 0, .clearCounts bar 0x100000000,
      .tickStart 62500 [⟨.collector, 9, 0⟩], .injectEnded 512, .stagingPost 24 0, .inputLost 2 0,
      .pllUnlocked 11, .takeExpired 4, .pointSample 24 0 0 0 none, .pointSample 0 1048576 0 0 none, .pointSample 0 0 0 (2 ^ 64) none,
      .pointStale 1048576, .analogInputSample [], .shuntOpen 32, .rtdConversion 64 0 false, .digitalInputChange 64 true,
      .digitalOutputOvercurrent 64 0, .analogOutputFault 16 0, .clusterWakeFailed 4, .saveFailed 4, .batterySecond [],
      .offsetMeasurement 1 0, .domainInvalid 6, .announceReceived 2 ⟨2, 0, 0, 0, 0, 0, 0, 0, 0, 0, true⟩,
      .announceReceived 2 ⟨0, 256, 0, 0, 0, 0, 0, 0, 0, 0, true⟩, .announceReceived 2 ⟨0, 0, 0x100000000, 0, 0, 0, 0, 0, 0, 0, true⟩,
      .announceReceived 2 ⟨0, 0, 0, 0, 0, 256, 0, 0, 0, 0, true⟩, .announceReceived 2 ⟨0, 0, 0, 0, 0, 0, 0, 65536, 0, 0, true⟩,
      .announceReceived 2 ⟨0, 0, 0, 0, 0, 0, 0, 0, 0, 65536, true⟩, .pdelayReq 17 ⟨0, 0, 0, 0⟩, .pdelayReq 0 ⟨256, 0, 0, 0⟩,
      .pdelayReq 0 ⟨0, 0, 65536, 0⟩, .linkUp 17, .sfpMismatch 5 0, .sfpMismatch 0 256, .backboneFrameRx ⟨16, 0, 0, .ptp, none⟩,
      .backboneFrameRx ⟨0, 2 ^ 48, 0, .ptp, none⟩, .backboneFrameRx ⟨0, 0, 2 ^ 48, .ptp, none⟩, .prpSupervisionSend 2, .frameLaunch 20,
      .detection 8 true 0, .powerFault 0 3 0, .inputFrame ⟨16, 0, [], none⟩, .inputFrame ⟨0, 0, [256], none⟩, .stationAbsent 1024,
      .canFrameRx 0 ⟨2 ^ 29, false, false, false, false, false, 0, 0, none, 0⟩,
      .canFrameRx 0 ⟨0, false, false, false, false, false, 16, 0, none, 0⟩,
      .canFrameRx 0 ⟨0, false, false, false, false, false, 0, 2 ^ 512, none, 0⟩, .messageAged 0 128, .canBusError 0 512 0,
      .canBusError 4 0 0, .grantConfirmed true 2 false, .scrubRead 9 .clean none, .scrubRead 0 .clean (some 24),
      .crossingStalled 12, .summaryTimeout 65536, .readDone 16, .sessionEnded 8, .selfTestFailed 2, .hostReset 3,
      .linkChanged 2 true 0 0, .ringWrite 16 false, .submissionFetch ⟨256, 0, 0, 0, 0, 0⟩ [] false,
      .txRingDoorbell 16 0 [], .mgmtRead ⟨65536, 0, []⟩, .mgmtWrite ⟨0, 65536, []⟩, .mgmtBegin ⟨0, 0, [256]⟩ false,
      .badAccess (2 ^ 32) 4 false, .newDataClear 4 0, .lockoutExpired 0 (some 2), .msixUnmask 64] : List Instr).all
      (fun i => !i.wf) = true := by decide +kernel

/-- Operands at the ends of their ranges pass the check. -/
theorem test_operands_at_the_ends_are_well_formed :
    ([.loadDone { header := [255] } {}, .go ⟨.mgmt, some 7, [], []⟩ 0, .clearCounts bar 0xFFFFFFFF, .injectEnded 511, .stagingPost 23 62499,
      .pllUnlocked 10, .pointSample 23 1048575 0 (2 ^ 64 - 1) none, .offsetMeasurement 5 (-1), .linkUp 16, .frameLaunch 19, .messageAged 3 127,
      .canBusError 3 511 511, .scrubRead 8 .clean (some 23), .hostReset 2, .badAccess 0xFFFFFFFF 4 false] : List Instr).all
      Instr.wf = true := by decide +kernel

/-! ### Small states -/

/-- Register fields set to values. -/
def setAll (l : List (Field × Nat)) (s : State) : State := l.foldl (fun t e => setF e.1 e.2 t) s

/-- A device state with every domain on and every clock running, two bases counting, and a Reel in force. Sessions 1 to 5 are
open over the management port with roles 0 to 4, session 0 is the BAR session of an ENGINEER, session 6 is half-open. -/
def ready (d : DevState) (r : Reel) (l : List (Field × Nat)) : State :=
  setAll ([(F.PWR.DOMAIN_STATE, 0xFFFF), (F.TICK.STATUS_RUNNING, 1), (F.PIMG.STATUS_RUNNING, 1), (F.LIO.STATUS_RUNNING, 1),
      (F.CAR.STATUS_RUNNING, 1), (F.STN.STATUS_RUNNING, 1), (F.SEC.STATUS_RUNNING, 1), (F.BOE.STATUS_INTEGRATING, 1),
      (F.MEM.STATUS_SCRUBBING, 1), (F.CLAP.STATUS_LOCAL_RUNNING, 1), (F.HOST.STATUS_MGMT_LINK, 1), (F.HOST.CONFIG_MGMT_ENABLE, 1),
      (F.HOST.STATUS_BUS_MASTER, 1), (F.CLAP.CONFIG_ENABLED, 15), (F.SPOT.STATUS_ROLE, 0),
      (F.TICK.CURTAIN_CYCLE, 50000),
      (F.SEC.SES_STATE_STATE 0, 2), (F.SEC.SES_STATE_ROLE 0, 2), (F.SEC.SES_STATE_BAR 0, 1), (F.SEC.SES_STATE_SESSION_ID 0, 1)] ++
      [1, 2, 3, 4, 5].flatMap (fun k => [(F.SEC.SES_STATE_STATE k, 2), (F.SEC.SES_STATE_ROLE k, k - 1),
        (F.SEC.SES_STATE_TRANSPORT k, 1), (F.SEC.SES_STATE_SESSION_ID k, k + 1)]) ++
      [(F.SEC.SES_STATE_STATE 6, 1), (F.SEC.SES_STATE_TRANSPORT 6, 1), (F.SEC.SES_STATE_SESSION_ID 6, 9)] ++ l)
    { State.reset with
      dev := { State.reset.dev with state := d }, cfg := r,
      pwr := { State.reset.pwr with stoppedClocks := 0, inputGood := [true, true] }, tick := { State.reset.tick with curtainDone := false } }

/-- LIVE without a Reel. -/
def live : State := ready .live {} []

/-- What WellKept asks, as a check. -/
def keeps (s : State) : Bool :=
  [keysRise s.regs, tableWf {} s.pimg.live, tableWf {} s.pimg.snap, tableWf {} s.pimg.window, tableWf {} s.pimg.cond,
    decide (s.clap.bases.length = 6), decide (s.txn.slots.length = 4), decide (s.sec.sessions.length = 8),
    decide (s.can.ports.length = 4), decide (s.cont.volatileRing.length ≤ 65536), decide (s.txn.headers.length = 2)].all id

theorem wellKept_of_keeps (s : State) (h : keeps s = true) : WellKept s := by
  constructor <;> simp_all [keeps]

theorem admitted_of (c : Caller) (l : List Nat) (s : State)
    (h : (l.any (fun r => callerRole s c == some r) && !powerFailing s && !lostTie c && spareClear c) = true) : Admitted c l s := by
  constructor
  · simpa using (Bool.and_eq_true_iff.mp (Bool.and_eq_true_iff.mp (Bool.and_eq_true_iff.mp h).1).1).1
  · simp_all

/-! ### Hypotheses of the statements: the frame of the model -/

theorem test_met_IdleStepLetsOneTimestampCyclePass :
    (State.reset.pending = [] ∧ inState State.reset .off = true) ∧
    (live.pending = [] ∧ inState live .off = false ∧ clockRuns live 8 = true ∧ live.clap.cycles % 2 = 0 ∧ baseRuns live 0 = true ∧
      baseRuns (ready .boot {} [(F.CLAP.STATUS_LOCAL_RUNNING, 0)]) 1 = false) := by decide +kernel

theorem test_met_EveryCommandCompletes :
    accessOffset (.rcRead 0x4000000) = some 0x4000000 ∧ accessOffset (.rcRead 0x3FFFFFF) = some 0x3FFFFFF ∧ accessOffset .goLive = none := by
  decide

theorem test_met_EveryCommandTouchesOnlyItsParts : Machine.exec (.prpNodeForget 2) State.reset = .next State.reset := by rfl

theorem test_met_EveryStepKeepsForm : WellKept State.reset ∧ step State.reset = .next State.reset :=
  ⟨wellKept_of_keeps _ (by decide +kernel), rfl⟩

/-! ### Start -/

/-- A fresh module with a battery log entry of another kind. -/
def offState : State := { State.reset with bat := { State.reset.bat with log := [⟨1, 1, 0, 0⟩] } }

theorem test_met_PowerOnEntersBoot :
    (inState offState .off = true ∧ 18000 ≤ max 18000 0 ∧ toSigned 16 (getF offState F.PWR.TEMPERATURE_BASE) < 800 ∧
      tamperLogged offState = false) ∧
    max 17999 0 < 18000 ∧ inState live .off = false := by decide +kernel

/-- What the boot ROM and the self-tests find: the image of slot A starts or does not, ECC initialisation passes or does not. -/
def found (start ecc : Bool) : BootOutcome := ⟨start, false, true, true, true, ecc⟩

theorem test_met_BootSelfTestsDecideTheState :
    let boot := ready .boot {} []
    WellKept boot ∧ WellKept live ∧ booting live = false ∧ booting boot = true ∧ bootChoice boot (found false true) = none ∧
      bootChoice boot (found true true) = some (0, none) ∧ bootFailure (found true false) = 4 ∧ bootFailure (found true true) = 0 :=
  ⟨wellKept_of_keeps _ (by decide +kernel), wellKept_of_keeps _ (by decide +kernel), by decide +kernel⟩

/-- The bytes of the sections of a Reel: START of an immediate start, a Call Sheet without work, no safe set, the domains that
are always on, TIME without a domain, and no point. -/
def bodies : List (List Nat) :=
  [[0, 0, 0, 0, 60, 0, 0, 0, 0, 0, 0, 0, 0, 0, 0, 0],
    [1, 0, 0, 0, 24, 0, 0, 0, 100, 0, 3, 0, 224, 46] ++ List.replicate 18 0 ++
      (List.range 24).flatMap (fun u => u :: (List.replicate 11 0 ++ List.replicate 4 255)),
    List.replicate 16 0, [15, 128, 0, 0, 244, 1] ++ List.replicate 26 0,
    [0, 0, 0, 0, 50, 0, 232, 3, 16, 14, 0, 0, 60] ++ List.replicate 19 0 ++
      (List.replicate 4 ([0, 0, 0, 0, 0, 0, 0, 0, 232, 3, 0, 0, 16, 39, 0, 0, 8, 0, 184, 11, 0, 0, 0, 63, 0, 0, 128, 62, 160, 134, 1, 0])).flatten ++ List.replicate 136 0,
    List.replicate 16 0]
/-- The SHA-384 of each of them. -/
def bodyHashes : List Nat :=
  [0x1A48428412366A22B24D78B6A322BFF7ABC4564DE91B75667A3F37D80BF330C4E89C8B9E107C5AA57E33C9ECB4F0B258,
    0x4675172830334CE8D5CFAAA80481D977F943D1B858A7B2AC10D6293EBF27F99CF199E0F1ADBF12C91C9DB9A01C928C13,
    0xAE40659DA1193CDEC8DF474B5E36416A82473B83D32DBBE1DD6DF8EC9499D24902CA08C334876BC8E69E818BEECC046A,
    0x8231CBD148945EE9DB27FE8B106A204B2DF8D997E94A85B5D6C05C898B9D86DFC3A194D30A6CEC3CD5878E666B2705D6,
    0xC876EE7F9EFFA304D26EF87442FA0F2BE25E6480889CE405C87CE28FC75DF43FE5703582309966D58FF60D389D2976C9,
    0xAE40659DA1193CDEC8DF474B5E36416A82473B83D32DBBE1DD6DF8EC9499D24902CA08C334876BC8E69E818BEECC046A]
/-- The header of that Reel, with the signature under the engineering key. -/
def reelHeader : List Nat :=
  [87, 78, 82, 76, 1, 0, 0, 0, 0, 128, 0, 0, 0, 0, 0, 0, 6, 0, 0, 0, 30, 0, 128, 0, 0, 0, 0, 0, 1, 0, 0, 0, 0, 0, 0, 0, 0, 0, 0, 0, 1] ++ List.replicate 47 0 ++ [115, 108, 105, 99, 101] ++ List.replicate 67 0 ++
    bytesBE 96 0x598571621929AB3EE0CCA331E55615681974CFBA924EDBB6BC20BD8A1E11968B0E94F7A5A16B0E28CDC54C79BD607F920BF3271BDDBCA922F051CD8633C1DB49FF97A657E621194BB96F88E3F6EC8104F181E87CC66AFFEEC8FCA0BAC97B00A1
/-- The image of that Reel. -/
def image : ReelImage :=
  { header := reelHeader, stored := bodies
    table := (List.range 6).flatMap (fun i => let n := (bodies.getD i []).length
      bytesLE 2 (i + 1) ++ [1, 0, 0, 0, 0, 0] ++ bytesLE 8 (4096 * (i + 1)) ++ bytesLE 8 n ++ bytesLE 8 n ++ bytesBE 48 (bodyHashes.getD i 0)) }
/-- The engineering key that signed it. -/
def engKey : KeyEntry :=
  { id := 1, kind := 1,
    material := bytesBE 97 0x043C077F9E37CA5F1320C88E016B06B8E9799305C1B339ABE3744CB3CFAD0C169165D869F02CEAE8D66EDB0C1869E4ABCEC5BCCBD4F17D06AFEE599284316BEA3D788E84E4B0D7BAE00C9A28AD67C6E14052B1DB03B892D580BA9223B90C7C1ECE }
/-- A card with its partition: a good primary GPT, one entry of the Reel's type, 64 blocks. -/
def card : CardInfo :=
  { primary := {
      header := [69, 70, 73, 32, 80, 65, 82, 84, 0, 0, 1, 0, 92, 0, 0, 0, 120, 86, 66, 54] ++ List.replicate 72 0
      entries := [[30, 156, 59, 90, 36, 125, 134, 79, 176, 161, 44, 110, 143, 77, 113, 83] ++ List.replicate 16 0 ++ bytesLE 8 64 ++ bytesLE 8 127] } }
/-- LOAD with that key in the store, and a Splice log of no Reel. -/
def loadState : State := { ready .load {} [] with sec := { State.reset.sec with keys := [(4608, some engKey)] } }
/-- The same with a Splice log that is bound to a hash. -/
def boundTo (hash : List Nat) : State := writeHeader hash loadState

/-- The load of the small Reel passes every step, its signature and its hashes included. -/
theorem test_small_reel_loads : loadError image card loadState = none := by decide +kernel

theorem test_met_LoadsPassOrFail :
    (WellKept loadState ∧ loading loadState = true ∧ loading live = false ∧ flag loadState F.BAT.STATUS_TAMPER = false ∧
      loadError image { card with present := false } loadState = some (0x01, 0xFF, 0) ∧
      loadError { image with header := [] } card loadState = some (0x06, 0xFF, 0)) ∧
    (logHash loadState ≠ (loadedReel image loadState).hash ∧
      logHash (boundTo (loadedReel image loadState).hash) = (loadedReel image loadState).hash ∧
      WellKept (boundTo (List.replicate 12 1)) ∧ loading (boundTo (List.replicate 12 1)) = true) :=
  ⟨⟨wellKept_of_keeps _ (by decide +kernel), by decide +kernel⟩, by decide +kernel, by decide +kernel,
    wellKept_of_keeps _ (by decide +kernel), by decide +kernel⟩

/-- ARMED with Local at 1 ms, a pair's Reel or none, GRANT and a scheduled tick 0. -/
def armed (spot : Option SpotlightSec) (grant : Nat) (z : Option Nat) : State :=
  let s := ready .armed { spotlight := spot, start := { startMode := 0 } } [(F.SPOT.INTERLOCK_GRANT, grant)]
  { s with dev := { s.dev with tickZeroAt := z }, clap := { s.clap with bases := [{}, { ns := 1000000 }, {}, {}, {}, {}] } }

theorem test_met_TickZeroIsScheduledAndStarts :
    (let s := armed none 0 none; inState s .armed = true ∧ powerFailing s = false ∧ startReady s = true ∧ s.dev.tickZeroAt = none ∧
      s.spot.joining = false ∧ pairReel s = false) ∧
    (let s := armed (some {}) 1 none; startReady s = true ∧ pairReel s = true ∧ flag s F.SPOT.INTERLOCK_GRANT = true ∧ s.spot.joining = false) ∧
    (let s := armed (some {}) 0 none; startReady s = true ∧ pairReel s = true ∧ flag s F.SPOT.INTERLOCK_GRANT = false ∧ powerFailing s = false) ∧
    inState live .armed = false ∧
    (let s := armed none 0 (some 1000000); inState s .armed = true ∧ s.dev.tickZeroAt = some 1000000 ∧ 1000000 ≤ nowNs s 1 ∧ powerFailing s = false) ∧
    (let s := armed none 0 (some 1000001); s.dev.tickZeroAt = some 1000001 ∧ nowNs s 1 < 1000001) ∧
    (let s0 := ready .armed { start := { timePolicy := 1, lockDomain := 2, lockWaitS := 1 } } []
     let s := { s0 with clap := { s0.clap with bases := [{}, { ns := 1000000000 }, {}, {}, {}, {}] } }
     inState s .armed = true ∧ s.cfg.start.timePolicy ≠ 0 ∧ s.dev.lockWaited = false ∧ lockDomainLocked s = false ∧
      s.dev.armedAt + s.cfg.start.lockWaitS * 1000000000 ≤ nowNs s 1 ∧
      nowNs s0 1 < s0.dev.armedAt + s0.cfg.start.lockWaitS * 1000000000) := by decide +kernel

/-- A state with an open window of voltage set 0, or with the reference lost. -/
def withWindow (s : State) : State := { s with boe := { s.boe with sets := [{ active := true, length := 5 }, {}, {}, {}] } }
def withoutReference (s : State) : State := { s with dev := { s.dev with referenceLost := true } }

theorem test_met_StartCommands :
    let armedGo := ready .armed { start := { startMode := 1 } } []
    let maint := ready .maintenance {} []
    let halted := ready .boot {} [(F.DEV.STATE_BOOT_HALTED, 1)]
    let e := fun (s : State) => WellKept s ∧ Admitted (by_ 2) [roleEngineer] s
    (WellKept armedGo ∧ Admitted (by_ 1) [roleOperator] armedGo) ∧
    (e armedGo ∧ e maint ∧ e halted ∧ e (withWindow armedGo) ∧ e (withoutReference armedGo)) ∧
    inState armedGo .armed = true ∧ armedGo.cfg.start.startMode = 1 ∧ timeMet armedGo = true ∧ armedGo.dev.goAccepted = false ∧
    restartLegal armedGo = true ∧ inState armedGo .live = false ∧ armedGo.dev.referenceLost = false ∧ windowsOpen armedGo = false ∧
    (inState halted .boot = true ∧ flag halted F.DEV.STATE_BOOT_HALTED = true ∧ inState halted .live = false) ∧
    (restartLegal (withWindow armedGo) = true ∧ windowsOpen (withWindow armedGo) = true ∧ (withWindow armedGo).dev.referenceLost = false) ∧
    (restartLegal (withoutReference armedGo) = true ∧ (withoutReference armedGo).dev.referenceLost = true) ∧ inState maint .maintenance = true :=
  ⟨⟨wellKept_of_keeps _ (by decide +kernel), admitted_of _ _ _ (by decide +kernel)⟩,
    ⟨⟨wellKept_of_keeps _ (by decide +kernel), admitted_of _ _ _ (by decide +kernel)⟩,
      ⟨wellKept_of_keeps _ (by decide +kernel), admitted_of _ _ _ (by decide +kernel)⟩,
      ⟨wellKept_of_keeps _ (by decide +kernel), admitted_of _ _ _ (by decide +kernel)⟩,
      ⟨wellKept_of_keeps _ (by decide +kernel), admitted_of _ _ _ (by decide +kernel)⟩,
      ⟨wellKept_of_keeps _ (by decide +kernel), admitted_of _ _ _ (by decide +kernel)⟩⟩, by decide +kernel⟩

/-! ### Ticks and staging -/

/-- LIVE at tick 7 with its Curtain fallen, or ahead. -/
def atTick (fallen : Bool) : State := { live with tick := { live.tick with number := 7, curtainDone := fallen } }

theorem test_met_TicksStartAndCurtainsFall :
    (ticksRun (atTick true) = true ∧ (atTick true).tick.curtainDone = true ∧ (62484 ≤ 62484 ∧ 62516 ≤ 62516)) ∧
    (ticksRun (atTick false) = true ∧ (atTick false).tick.curtainDone = false ∧ domainOn (atTick false) 2 = true ∧
      (atTick false).host.afterCurtain = []) ∧
    ticksRun State.reset = false := by decide +kernel

/-- A unit that may post two entries a Curtain, with one formed for tick 7. -/
def posting (faulted : Nat) : State :=
  let s := ready .live { sheet := { units := (List.range 24).map (fun u => { unit := u, maxEntries := 2 }) } }
    [(F.TICK.FAULTED, faulted)]
  { s with tick := { s.tick with number := 7, outbox := [{ unit := 10, due := 7 }] } }

theorem test_met_StagingPostReachesTheCollector :
    (ticksRun (posting 0) = true ∧ (posting 0).tick.outbox.find? (fun x => x.unit == 10) = some { unit := 10, due := 7 } ∧
      bitF (posting 0) F.TICK.FAULTED 10 = false ∧ curtainAhead (elapseTo 49998 (posting 0)) 7 = true ∧
      (posting 0).tick.staging.countP (fun x => x.unit == 10 && x.due == 7) < min 64 (unitEntry (posting 0) 10).maxEntries) ∧
    (ticksRun (posting 1024) = true ∧ (posting 1024).tick.outbox.find? (fun x => x.unit == 10) = some { unit := 10, due := 7 } ∧
      bitF (posting 1024) F.TICK.FAULTED 10 = true) := by decide +kernel

theorem test_met_ClearCountsClearsTheOverrunCounts :
    let lacking := ready .live {} [(F.DEV.UNITS_PRESENT, 0x7FFFFF)]
    let stopped := ready .maintenance {} [(F.TICK.STATUS_RUNNING, 0)]
    (WellKept lacking ∧ Admitted (by_ 2) [roleEngineer] lacking) ∧ (WellKept stopped ∧ Admitted (by_ 2) [roleEngineer] stopped) ∧
    flag lacking F.TICK.STATUS_RUNNING = true ∧ present lacking 0 = true ∧ present lacking 22 = true ∧ present lacking 23 = false ∧
    flag stopped F.TICK.STATUS_RUNNING = false :=
  ⟨⟨wellKept_of_keeps _ (by decide +kernel), admitted_of _ _ _ (by decide +kernel)⟩,
    ⟨wellKept_of_keeps _ (by decide +kernel), admitted_of _ _ _ (by decide +kernel)⟩, by decide +kernel⟩

/-! ### The Carousel -/

/-- An instruction word (R248): opcode, operand kind, index. -/
def insn (op k i : Nat) : Word := BitVec.ofNat 32 (op * 2 ^ 26 + k * 2 ^ 24 + i)
/-- Task 0 in its first window with ten cycles of CAR, at a program of one instruction. -/
def scanning (op slots : Nat) : State :=
  let s := ready .live { logic := some { instrs := [insn op 0 0] }, sheet := { works := [{ unit := 10, work := 0, period := 1, slice := 10 }] } } []
  { s with car := { s.car with scans := [(0, some { start := 0, addr := 0, winSlots := slots })] } }
/-- Every opcode of R249 to R252 but END. -/
def opcodes : List Nat :=
  [0x00, 0x01, 0x02, 0x03, 0x04, 0x05, 0x06, 0x07, 0x08, 0x09, 0x0A, 0x0B, 0x0C, 0x0D, 0x0E, 0x10, 0x11, 0x12, 0x13, 0x14, 0x18, 0x19,
    0x1A, 0x1B, 0x1C, 0x1D, 0x1E, 0x20, 0x21, 0x22, 0x23, 0x24, 0x25, 0x26, 0x27, 0x28, 0x29, 0x2A, 0x2B, 0x2C, 0x2D, 0x2E, 0x2F, 0x30,
    0x31, 0x32, 0x33, 0x34, 0x35, 0x36, 0x38, 0x39, 0x3A]

/-- The scan of `scanning`, and its work entry. -/
def scan0 (slots : Nat) : Scan := { start := 0, addr := 0, winSlots := slots }
def work0 : WorkEntry := { unit := 10, work := 0, period := 1, slice := 10 }

/-- Every opcode of the Carousel has a state in which its row finds it: the hypothesis of CarDoes. -/
theorem test_met_CarouselInstructions :
    ∀ op ∈ opcodes, scanOf (scanning op 0) 0 = some (scan0 0) ∧ taskWork (scanning op 0) 0 = some work0 ∧
      (logicSec (scanning op 0)).instrs[(scan0 0).addr]? = some (insn op 0 0) ∧
      carOpcode (insn op 0 0) = op ∧ (scan0 0).ended = false ∧ carRuns (scanning op 0) = true ∧
      windowOpen (scanning op 0) 0 10 (scan0 0) = true := by decide +kernel

/-- The hypothesis at the last slot of the window, as CarAt states it. -/
theorem test_met_CarouselBitsStackAndJumps : CarAt 0 0x01 work0 (scan0 19) (insn 0x01 0 0) (scanning 0x01 19) := by
  unfold CarAt; decide +kernel
theorem test_met_CarouselTimersCountersEdges : CarAt 0 0x1A work0 (scan0 0) (insn 0x1A 0 0) (scanning 0x1A 0) := by
  unfold CarAt; decide +kernel
theorem test_met_CarouselWordAndFloatArithmetic :
    CarAt 0 0x28 work0 (scan0 0) (insn 0x28 0 0) (scanning 0x28 0) ∧ f32Nan 0x7FC00000 = true ∧ f32Nan 0x3F800000 = false := by
  unfold CarAt; decide +kernel
theorem test_met_CarouselArithmeticEvents :
    WellKept (scanning 0x25 0) ∧ CarAt 0 0x25 work0 (scan0 0) (insn 0x25 0 0) (scanning 0x25 0) ∧
      WellKept (scanning 0x2B 0) ∧ CarAt 0 0x2B work0 (scan0 0) (insn 0x2B 0 0) (scanning 0x2B 0) ∧
      WellKept (scanning 0x2F 0) ∧ CarAt 0 0x2F work0 (scan0 0) (insn 0x2F 0 0) (scanning 0x2F 0) :=
  ⟨wellKept_of_keeps _ (by decide +kernel), by unfold CarAt; decide +kernel, wellKept_of_keeps _ (by decide +kernel),
    by unfold CarAt; decide +kernel, wellKept_of_keeps _ (by decide +kernel), by unfold CarAt; decide +kernel⟩
theorem test_met_CarouselEndAndWindows :
    WellKept (scanning 0x3B 0) ∧ CarAt 0 0x3B work0 (scan0 0) (insn 0x3B 0 0) (scanning 0x3B 0) ∧
      (scanOf live 0 = none ∧ windowOpen (scanning 0x01 20) 0 10 (scan0 20) = false ∧ carRuns State.reset = false) ∧
      carOpcode (insn 0x3B 0 0) ≠ 0x01 :=
  ⟨wellKept_of_keeps _ (by decide +kernel), by unfold CarAt; decide +kernel, by decide +kernel⟩

/-! ### Supply, clocks, temperature -/

/-- LIVE with the power-fail sequence at a step. -/
def failing (step : Nat) : State :=
  { live with pwr := { live.pwr with failStep := step, failTick := some 0, flushedCont := true, flushedAccum := true } }

theorem test_met_PowerFailSequenceShedsTheDomains :
    (WellKept live ∧ inState live .off = false ∧ live.pwr.failStep = 0 ∧ max 15999 0 < 16000) ∧
    (∀ k, k < 4 → let s := { failing (k + 1) with tick := { live.tick with number := 10 } }; shedDue s = true ∧ s.pwr.failStep = k + 1) ∧
    (WellKept (failing 5) ∧ (failing 5).pwr.failStep = 5 ∧ (failing 5).pwr.flushedCont = true ∧ (failing 5).pwr.flushedAccum = true) ∧
    powerFailing (failing 5) = true ∧ powerFailing live = false :=
  ⟨⟨wellKept_of_keeps _ (by decide +kernel), by decide +kernel⟩, by decide +kernel,
    ⟨wellKept_of_keeps _ (by decide +kernel), by decide +kernel⟩, by decide +kernel⟩

theorem test_met_SupplyInputs :
    let s := { live with pwr := { live.pwr with inputGood := [true, false] } }
    (WellKept live ∧ inState live .off = false ∧ present live 23 = true ∧ powerFailing live = false ∧ live.pwr.inputGood[1]? = some true ∧
      live.pwr.inputGood[1 - 1]? = some true ∧ (15999 < 16000)) ∧
    (WellKept s ∧ inState s .off = false ∧ present s 23 = true ∧ s.pwr.inputGood[1]? = some false ∧ 1 < s.pwr.disconnected.length) ∧
    (38000 < 38001 ∧ 0 < live.pwr.disconnected.length) :=
  ⟨⟨wellKept_of_keeps _ (by decide +kernel), by decide +kernel⟩, ⟨wellKept_of_keeps _ (by decide +kernel), by decide +kernel⟩, by decide⟩

theorem test_met_ClocksAndReference :
    (inState live .live = true ∧ clockRuns live 1 = true ∧ clockRuns live 8 = true ∧ clockRuns live 9 = true ∧ clockRuns live 0 = true) ∧
    (let s := { live with pwr := { live.pwr with stoppedClocks := 0x201 } }
     inState s .off = false ∧ clockRuns s 9 = false ∧ clockRuns s 0 = false) ∧
    (WellKept live ∧ live.dev.referenceLost = false ∧ 20 < 21 ∧ inState live .off = false) ∧
    (let s0 := ready .armed {} []
     let s := { s0 with dev := { s0.dev with restartWaits := some true } }
     s0.dev.restartWaits = none ∧ s.dev.restartWaits = some true ∧ powerFailing s = false ∧ s.dev.flushing = none ∧
      inState s .live = false ∧ windowsOpen s = false) :=
  ⟨by decide +kernel, by decide +kernel, ⟨wellKept_of_keeps _ (by decide +kernel), by decide +kernel⟩, by decide +kernel⟩

theorem test_met_BaseTemperatureThresholds :
    let hot := ready .live {} [(F.PWR.STATUS_TEMP_HIGH, 1)]
    (WellKept live ∧ present live 23 = true ∧ inState live .live = true ∧ flag live F.PWR.STATUS_TEMP_HIGH = false ∧
      flag live F.PWR.STATUS_TEMP_FAILED = false ∧ live.pwr.failStep = 0) ∧
    (WellKept hot ∧ present hot 23 = true ∧ inState hot .off = false ∧ flag hot F.PWR.STATUS_TEMP_HIGH = true) ∧
    ((750 : Int) ≤ 750 ∧ (749 : Int) < 750 ∧ (719 : Int) < 720 ∧ (850 : Int) ≤ 850 ∧ (950 : Int) ≤ 32767) :=
  ⟨⟨wellKept_of_keeps _ (by decide +kernel), by decide +kernel⟩, ⟨wellKept_of_keeps _ (by decide +kernel), by decide +kernel⟩, by decide⟩

/-! ### Takes -/

/-- Tunables of each class: 1 OPERATIONAL, 2 ENGINEERING, 3 METROLOGY, all int32 constants. -/
def tuned : TunablesSec :=
  { entries := [1, 2, 3].map (fun i => { id := i, cls := i - 1, typ := 1, kind := 1, target := i, min := 0, max := 100 }) }
/-- LIVE with those tunables and slot 0 in a state, generation 1, owned by the ENGINEER's session 3, with writes. -/
def taking (st : Nat) (ws : List TakeWrite) (l : List (Field × Nat)) : State :=
  let s := ready .live { tunables := some tuned } ([(F.TXN.SLOT_STATE_STATE 0, st), (F.TXN.SLOT_STATE_HANDLE 0, 4), (F.TXN.NEXT_TAKE_ID, 9),
    (F.TXN.SLOT_TAKE_ID 0, 9)] ++ l)
  { s with txn := { s.txn with slots := [{ gen := 1, owner := some 3, writes := ws, expiry := 80000 }, {}, {}, {}] } }
/-- One staged write. -/
def oneWrite : List TakeWrite := [⟨1, 1, 5⟩]

theorem test_met_OpenAndCut :
    let full := taking 2 [] [(F.TXN.SLOT_STATE_STATE 1, 3), (F.TXN.SLOT_STATE_STATE 2, 2), (F.TXN.SLOT_STATE_STATE 3, 1)]
    (WellKept (taking 1 oneWrite []) ∧ Admitted (by_ 2) takeRoles (taking 1 oneWrite []) ∧ WellKept full ∧ Admitted (by_ 2) takeRoles full) ∧
    (let s := taking 1 oneWrite []
     takesLegal s = true ∧ present s 2 = true ∧ flag s F.SPOT.STATUS_PROGRAM_EXCHANGE = false ∧ s.cfg.tunables = some tuned ∧
      (slotsIn s slotFree).head? = some 1 ∧ 600 ≤ 600 ∧ openTake s (by_ 2) 4 = .ok 0) ∧
    (takesLegal full = true ∧ present full 2 = true ∧ slotsIn full slotFree = [] ∧ findHandle full 4 = .ok 0 ∧
      callerSlot full (by_ 2) ≠ none ∧ (takeSlot full 0).owner = callerSlot full (by_ 2) ∧ slotState full 0 = slotCommitting) ∧
    (let s := taking 3 oneWrite []
     findHandle s 4 = .ok 0 ∧ (takeSlot s 0).owner = callerSlot s (by_ 2) ∧ slotState s 0 = slotCommitted) :=
  ⟨⟨wellKept_of_keeps _ (by decide +kernel), admitted_of _ _ _ (by decide +kernel), wellKept_of_keeps _ (by decide +kernel),
    admitted_of _ _ _ (by decide +kernel)⟩, by decide +kernel⟩

theorem test_met_StageAndReadTunable :
    let s := taking 1 oneWrite []
    let operator := { s with txn := { s.txn with slots := [{ gen := 1, owner := some 2, expiry := 80000 }, {}, {}, {}] } }
    (WellKept s ∧ Admitted (by_ 2) takeRoles s ∧ Admitted (by_ 0) anyRole s ∧ WellKept operator ∧ Admitted (by_ 1) takeRoles operator) ∧
    (takesLegal s = true ∧ openTake s (by_ 2) 4 = .ok 0 ∧ (∀ i, 1 ≤ i → i ≤ 3 → (tunableOf s i).map Tunable.cls = some (i - 1)) ∧
      callerRole s (by_ 2) = some roleEngineer ∧ (∀ i, 1 ≤ i → i ≤ 2 → ((tunableOf s i).map (fun t => valueOk t (tunableValue s t) 100)) = some true) ∧
      claimedElsewhere s 0 1 = false ∧ (takeSlot s 0).writes.length < 4096) ∧
    (takesLegal operator = true ∧ openTake operator (by_ 1) 4 = .ok 0 ∧ callerRole operator (by_ 1) = some roleOperator) ∧
    inState s .live = true :=
  ⟨⟨wellKept_of_keeps _ (by decide +kernel), admitted_of _ _ _ (by decide +kernel), admitted_of _ _ _ (by decide +kernel),
    wellKept_of_keeps _ (by decide +kernel), admitted_of _ _ _ (by decide +kernel)⟩, by decide +kernel⟩

theorem test_met_CommitTakesTheNextTakeId :
    let empty := taking 1 [] []
    let due := { taking 1 oneWrite [] with tick := { live.tick with number := 80000 } }
    (WellKept (taking 1 oneWrite []) ∧ Admitted (by_ 2) takeRoles (taking 1 oneWrite []) ∧ WellKept empty ∧
      Admitted (by_ 2) takeRoles empty ∧ WellKept due) ∧
    (let s := taking 1 oneWrite []
     takesLegal s = true ∧ openTake s (by_ 2) 4 = .ok 0 ∧ (takeSlot s 0).writes ≠ [] ∧ logTakesEntry s (takeSlot s 0).writes.length = true ∧
      getF s F.TXN.NEXT_TAKE_ID < 0xFFFFFFFF ∧ s.tick.number < (takeSlot s 0).expiry) ∧
    (openTake empty (by_ 2) 4 = .ok 0 ∧ (takeSlot empty 0).writes = []) ∧
    (slotState due 0 = slotOpen ∧ (takeSlot due 0).expiry ≤ due.tick.number ∧ slotState due 1 ≠ slotOpen) :=
  ⟨⟨wellKept_of_keeps _ (by decide +kernel), admitted_of _ _ _ (by decide +kernel), wellKept_of_keeps _ (by decide +kernel),
    admitted_of _ _ _ (by decide +kernel), wellKept_of_keeps _ (by decide +kernel)⟩, by decide +kernel⟩

/-- A committing Take with the write-ahead at a step, the stamping base at a count. -/
def ahead (stage ns role : Nat) : State :=
  let s := taking 2 oneWrite [(F.SPOT.STATUS_ROLE, role)]
  { s with
    txn := { s.txn with ahead := some { slot := 0, stage := stage, startedNs := 0, durable := true } }
    clap := { s.clap with bases := [{ ns := ns }, { ns := ns }, {}, {}, {}, {}] } }

theorem test_met_WriteAheadCommitsOrVoids :
    let s := taking 2 oneWrite []
    let a := ahead 1 50000000 0
    let b := ahead 3 50000000 0
    let c := ahead 3 0 1
    (WellKept s ∧ WellKept a ∧ WellKept b ∧ WellKept c) ∧
    (s.txn.ahead = none ∧ lowestTake s (slotsIn s slotCommitting) = some 0) ∧
    (a.txn.ahead = some { slot := 0, stage := 1, startedNs := 0, durable := true } ∧ stampNs a ≤ 0 + 50000000 ∧ 0 + 50000000 ≤ stampNs a) ∧
    (b.txn.ahead = some { slot := 0, stage := 3, startedNs := 0, durable := true } ∧ stampNs b ≤ 0 + 50000000) ∧
    (c.txn.ahead = some { slot := 0, stage := 3, startedNs := 0, durable := true } ∧ c.txn.spanId = none ∧ role c = 1) :=
  ⟨⟨wellKept_of_keeps _ (by decide +kernel), wellKept_of_keeps _ (by decide +kernel), wellKept_of_keeps _ (by decide +kernel),
    wellKept_of_keeps _ (by decide +kernel)⟩, by decide +kernel⟩

/-! ### Points and local inputs and outputs -/

/-- Points: 0 a float of unit 5 with a timeout, 1 an int clamped to 3 to 9 of unit 10, 2 a bool of unit 10. -/
def somePoints : List PointCfg :=
  [{ index := 0, typ := 0, source := 5, timeout := 5 }, { index := 1, typ := 1, source := 10, rangeAction := 1, lo := 3, hi := 9 },
    { index := 2, typ := 2, source := 10 }]
/-- LIVE with those points, at a tick. -/
def pointed (n : Nat) : State :=
  let s := ready .live { points := somePoints } []
  { s with tick := { s.tick with number := n } }

theorem test_met_SamplesAreConditioned :
    let s := pointed 0
    WellKept s ∧ imageUp s = true ∧
    (pointCfg s 0 = some { index := 0, typ := 0, source := 5, timeout := 5 } ∧ (pointCond s 0).cfgFailed = false ∧
      f32Finite 0x7F800000 = false ∧ f32Finite 0x7F7FFFFF = true ∧ f32Lt 0 (0 : F32) = false) ∧
    (pointCfg s 2 = some { index := 2, typ := 2, source := 10 } ∧ (1 : Word).toNat ≤ 1) ∧
    (pointCfg s 1 = some { index := 1, typ := 1, source := 10, rangeAction := 1, lo := 3, hi := 9 } ∧ (2 : Word).toInt < (3 : Word).toInt) ∧
    pointCfg s 3 = none ∧ (5 : Nat) ≠ 10 ∧ bitF s F.TICK.FAULTED 5 = false ∧ inCurtainCycle s = false ∧
    (let f := setF F.TICK.FAULTED 32 s; imageUp f = true ∧ bitF f F.TICK.FAULTED 5 = true) ∧
    (let c := { s with tick := { s.tick with cycle := 50000 } }
     imageUp c = true ∧ bitF c F.TICK.FAULTED 5 = false ∧ inCurtainCycle c = true) :=
  ⟨wellKept_of_keeps _ (by decide +kernel), by decide +kernel⟩

theorem test_met_StalePointsKeepTheirValue :
    WellKept (pointed 5) ∧ imageUp (pointed 5) = true ∧
      timeoutDue (pointed 5) { index := 0, typ := 0, source := 5, timeout := 5 } = true ∧
      timeoutDue (pointed 4) { index := 0, typ := 0, source := 5, timeout := 5 } = false ∧ imageUp State.reset = false :=
  ⟨wellKept_of_keeps _ (by decide +kernel), by decide +kernel⟩

/-- LIVE with one channel of LOCAL_IO in use, whose point is 0, and registers. -/
def channel (n mode : Nat) (l : List (Field × Nat)) : State :=
  ready .live { points := somePoints, localIo := some ((List.range 208).map (fun k => if k = n then { mode := mode, point := 0 } else {})) } l

theorem test_met_AnalogAndRtdInputs :
    let a := channel 31 1 []
    let b := channel 0 2 []
    let shut := { b with lio := { b.lio with shuntOpen := [(0, some 0)] }, tick := { b.tick with number := 1000 } }
    let r := channel 111 1 []
    (WellKept a ∧ WellKept b ∧ WellKept r) ∧
    (lioRuns a = true ∧ imageUp a = true ∧ role a ≠ 2 ∧ (∀ j, j < 32 → j ≠ 31 → (lioCh a j).mode = 0) ∧ (lioCh a 31).mode ≠ 0 ∧
      (pointCfg a (lioCh a 31).point).map PointCfg.source = some 5 ∧ (pointCond a (lioCh a 31).point).cfgFailed = false ∧
      bitF a F.TICK.FAULTED 5 = false ∧ inCurtainCycle (elapseTo 42500 a) = false) ∧
    (lioRuns b = true ∧ (lioCh b 0).mode = 2 ∧ tableGet none b.lio.shuntOpen 0 = none) ∧
    (keysRise shut.lio.shuntOpen = true ∧ tableGet none shut.lio.shuntOpen 0 = some 0 ∧ 0 + 1000 ≤ shut.tick.number ∧ 999 < 0 + 1000) ∧
    (lioRuns r = true ∧ imageUp r = true ∧ role r ≠ 2 ∧ (lioCh r (48 + 63)).mode ≠ 0 ∧
      (pointCfg r (lioCh r (48 + 63)).point).map PointCfg.source = some 5 ∧ (pointCond r (lioCh r (48 + 63)).point).cfgFailed = false ∧
      keysRise r.lio.rtd = true ∧ bitF r F.TICK.FAULTED 5 = false ∧ inCurtainCycle r = false) :=
  ⟨⟨wellKept_of_keeps _ (by decide +kernel), wellKept_of_keeps _ (by decide +kernel), wellKept_of_keeps _ (by decide +kernel)⟩,
    by decide +kernel⟩

theorem test_met_DigitalAndPulseInputs :
    let d := channel 175 1 []
    let p := channel 207 1 []
    (WellKept d ∧ WellKept p) ∧
    (unitRuns d 5 = true ∧ (lioCh d (112 + 63)).mode = 1 ∧ bitF d F.LIO.DI_STATE_HI 31 ≠ true ∧ keysRise d.lio.diSince = true) ∧
    (unitRuns p 5 = true ∧ (lioCh p (176 + 31)).mode = 1 ∧ (lioCh p (176 + 0)).mode ≠ 1) ∧
    (lioRuns p = true ∧ keysRise p.lio.pulseLast = true ∧ keysRise p.lio.pulseTick = true ∧
      (∀ j, j < 32 → j ≠ 31 → (lioCh p (176 + j)).mode = 0)) :=
  ⟨⟨wellKept_of_keeps _ (by decide +kernel), wellKept_of_keeps _ (by decide +kernel)⟩, by decide +kernel⟩

theorem test_met_OutputFaults :
    let s0 := channel 175 2 []
    let on := { s0 with lio := { s0.lio with doOn := [(63, true)] } }
    let f0 := channel 175 2 [(F.LIO.DO_FAULT_HI, 0x80000000)]
    let bad := { f0 with lio := { f0.lio with launch := [(175, some 1)] }, tick := { f0.tick with number := 1000 } }
    let ao := channel 47 1 []
    let aoBad := channel 47 1 [(F.LIO.AO_FAULT, 0x8000)]
    (WellKept on ∧ WellKept bad ∧ WellKept ao ∧ WellKept aoBad) ∧
    (present on 5 = true ∧ lioRuns on = true ∧ (lioCh on (112 + 63)).mode = 2 ∧ tableGet false on.lio.doOn 63 = true ∧
      doFaulted on 63 = false ∧ keysRise on.lio.doOn = true ∧ keysRise on.lio.doRetries = true) ∧
    (lioRuns bad = true ∧ doFaulted bad 63 = true ∧ doAsked bad 63 = true ∧ keysRise bad.lio.doOn = true ∧
      bad.tick.number = tableGet 0 bad.lio.doFaultAt 63 + 1000 * (0 + 1)) ∧
    (present ao 5 = true ∧ lioRuns ao = true ∧ (lioCh ao (32 + 15)).mode ≠ 0 ∧ bitF ao F.LIO.AO_FAULT 15 = false) ∧
    bitF aoBad F.LIO.AO_FAULT 15 = true :=
  ⟨⟨wellKept_of_keeps _ (by decide +kernel), wellKept_of_keeps _ (by decide +kernel), wellKept_of_keeps _ (by decide +kernel),
    wellKept_of_keeps _ (by decide +kernel)⟩, by decide +kernel⟩

/-! ### Rounds -/

/-- A model of one row with its diagonal entry alone. -/
def oneRow : ModelSec :=
  { rowCount := 1, primalCount := 1, signs := [true], colPtr := [0, 1], rowIdx := [0], entities := [{ id := 1 }] }
/-- One supernode, one operation in each segment's place. -/
def oneNode (ops : List StoryOp) (segments : List (Nat × Nat × Nat)) : StorySec :=
  { clusterMask := 1, perm := [0], supernodes := [{}], barriers := [(1, 0)], ops := ops, segments := segments }
/-- A segment of one operation, run in a mode, in a round whose only matrix entry is 1. -/
def operating (mode : RunMode) (o : StoryOp) (r : Round) : State :=
  let segs := (List.range 4).map (fun g => if g = segmentOf mode then (0, 1, 100) else (0, 0, 0))
  let s := ready .live { model := some oneRow, story := some (oneNode [o] segs), solver := some { deadline := 50 } } []
  { s with jug := { s.jug with round := some { r with run := some { mode := mode } } } }
/-- A round at row 0: matrix, work vector, pivot. -/
def round0 (pivot : F32) : Round :=
  { number := 1, start := 0, mat := [(0, 0x3FF0000000000000)], w := [(0, 0x3FF0000000000000)], dwork := [(0, pivot)], panel := [(0, 0x3F800000)] }

/-- The rows of the Storyboard's operations: mode of the segment, opcode, VECTOR code. -/
def storyRows : List (RunMode × Nat × Nat) :=
  [(.factor, 0x01, 0), (.factor, 0x02, 0), (.factor, 0x03, 0), (.factor, 0x04, 0), (.factor, 0x05, 0), (.factor, 0x06, 0), (.factor, 0x07, 0),
    (.factor, 0x08, 0), (.factor, 0x09, 0), (.solve, 0x0A, 0), (.solve, 0x0B, 0), (.solve, 0x0C, 0), (.residual, 0x0D, 0), (.step, 0x0E, 1),
    (.step, 0x0E, 2), (.step, 0x0E, 3), (.step, 0x0E, 4), (.start, 0x0E, 5), (.step, 0x0F, 0)]
/-- A row's operation, and the round that runs it. -/
def rowOp (x : RunMode × Nat × Nat) : StoryOp := { opcode := x.2.1, source := x.2.2, count := 1 }
def rowRound (x : RunMode × Nat × Nat) (pivot : F32) : Round := { round0 pivot with run := some { mode := x.1 } }
/-- The arithmetic that the statement names for the row. -/
def rowArith (x : RunMode × Nat × Nat) : State → StoryOp → Round → OpOut :=
  match x.2.1 with
  | 0x01 => opLoadPanel | 0x02 => opFactor | 0x03 => opTrsm | 0x04 => opUpdate | 0x05 => opSend | 0x06 => opExtendAdd
  | 0x07 => opStorePanel | 0x0A => opFwd | 0x0B => opDiag | 0x0C => opBwd | 0x0D => opResid | 0x0E => opVector
  | 0x0F => fun _ _ r => opReduce r
  | _ => fun _ _ r => (r, none)

/-- For every row: the operation may be dispatched (each part of StoryAt) and its arithmetic succeeds. -/
theorem test_met_StoryboardOperationsRunOnce :
    ∀ x ∈ storyRows, let s := operating x.1 (rowOp x) (round0 0x3F800000)
      s.jug.round = some (rowRound x 0x3F800000) ∧ (rowRound x 0x3F800000).run = some { mode := x.1 } ∧ unitRuns s 7 = true ∧
        ((storySec s).ops.getD 0 {}).opcode = x.2.1 ∧ ((storySec s).ops.getD 0 {}).source % 256 = x.2.2 ∧
        opReady (storySec s) { mode := x.1 } 0 = true ∧ (rowArith x s (rowOp x) (rowRound x 0x3F800000)).2 = none := by decide +kernel

/-- The same as StoryAt states it; arithmetic that fails; an operation past its segment. -/
theorem test_met_StoryboardFailures :
    let fac : RunMode × Nat × Nat := (.factor, 0x02, 0)
    let dia : RunMode × Nat × Nat := (.solve, 0x0B, 0)
    StoryAt 0x0B 0 0 (rowRound dia 0) { mode := .solve } (operating .solve (rowOp dia) (round0 0)) ∧
    (opDiag (operating .solve (rowOp dia) (round0 0)) (rowOp dia) (rowRound dia 0)).2 = some (7, 0) ∧
    (opDiag (operating .solve (rowOp dia) (round0 0)) (rowOp dia) (rowRound dia 0)).1.ended = none ∧
    StoryAt 0x02 0 0 { rowRound fac 0 with panel := [(0, 0x7F800000)] } { mode := .factor }
      (operating .factor (rowOp fac) { round0 0 with panel := [(0, 0x7F800000)] }) ∧
    opReady (storySec (operating .factor (rowOp fac) (round0 0))) { mode := .factor } 1 = false ∧
    keysRise (round0 0).store = true ∧ keysRise (round0 0).w = true ∧
    0 < panelSize (supernode (storySec (operating .factor (rowOp fac) (round0 0))) 0) := by
  unfold StoryAt; decide +kernel

/-- A round that may start at tick 4000, or one in progress at tick n. -/
def rounding (n : Nat) (r : Option Round) (l : List (Field × Nat)) : State :=
  let story := oneNode [{ opcode := 0x08 }] [(0, 1, 100), (0, 0, 0), (0, 0, 0), (0, 0, 0)]
  let cfg : Reel := {
    model := some oneRow, stencils := some {}, story := some story, solver := some { deadline := 50, initial := [0] }
    sheet := { works := [{ unit := 6, slice := 4100 }] } }
  let s := ready .live cfg l
  { s with tick := { s.tick with number := n }, jug := { s.jug with round := r } }

theorem test_met_RoundsStartAndAreAssembled :
    let s := rounding 4000 none []
    let r : Round := { number := 1, start := 4000 }
    WellKept s ∧
    (roundsRun s = true ∧ imageUp s = true ∧ roundStartTick s s.tick.number = true ∧ s.tick.curtainDone = false ∧
      (s.jug.round.map Round.start) ≠ some s.tick.number) ∧
    ((rounding 4000 (some r) []).jug.round.map Round.start) = some (rounding 4000 (some r) []).tick.number ∧
    (let t := rounding 4000 (some r) []
     t.jug.round = some r ∧ r.ended = none ∧ r.handOver = none ∧ unitRuns t 6 = true ∧ t.asm.badData = none ∧
      (r.start + asmTicks t ≤ t.tick.number + 1 ∨ t.tick.number + 1 < r.start + asmTicks t)) ∧
    (let t := rounding 4001 (some r) []; r.start + asmTicks t ≤ t.tick.number + 1) :=
  ⟨wellKept_of_keeps _ (by decide +kernel), by decide +kernel⟩

theorem test_met_RoundsRunAndEnd :
    let run : SegRun := { mode := .factor, done := [0] }
    let r : Round := { number := 1, start := 4000, run := some run }
    let s := rounding 4050 (some r) [(F.JUG.CONFIG_USED, 8)]
    let e := rounding 4049 (some { r with run := none, ended := some (0, 1) }) [(F.JUG.ROUND_STATE_PHASE, 4)]
    (WellKept s ∧ WellKept e) ∧
    (s.jug.round = some r ∧ r.run = some run ∧ unitRuns s 7 = true ∧ runComplete s run = true ∧ run.mode = .factor ∧ r.ended = none ∧
      r.start + (solverSec s).deadline ≤ s.tick.number ∧ 4049 < r.start + (solverSec s).deadline) ∧
    (e.jug.round.bind Round.ended = some (0, 1) ∧ getF e F.JUG.ROUND_STATE_PHASE = 4 ∧ unitRuns e 8 = true) ∧
    (runComplete s run = true ∧ 77 < stallLimit s 0 ∧ stallLimit s (segmentOf .factor) ≤ 156450 ∧ 77 < 2 ^ 32) ∧
    (let a := rounding 4050 (some { r with run := none }) []
     (a.jug.round.bind Round.ended) = none ∧ (a.jug.round.bind Round.run) = none ∧ r.start + (solverSec a).deadline ≤ a.tick.number) ∧
    (bitF s F.JUG.CONFIG_USED 3 = true ∧ inState s .live = true) :=
  ⟨⟨wellKept_of_keeps _ (by decide +kernel), wellKept_of_keeps _ (by decide +kernel)⟩, by decide +kernel⟩

/-! ### Loops -/

/-- LIVE with a PID loop and a repetitive one, and a profile; loop 0 injects, with n samples made, where asked. -/
def looping (inj : Option Nat) (l : List (Field × Nat)) : State :=
  let sec : LoopsSec := {
    loops := [{ loop := 0 }, { loop := 1, comp := 1, repLength := 8 }], profiles := [{ duration := 2 }]
    captures := [{ signals := [(0, 1)] }] }
  let s := ready .live { loops := some sec } l
  { s with trp := { s.trp with loops := match inj with | some n => [(0, { inj := some { profile := 0, made := n } })] | none => [] } }

theorem test_met_TightropeCommandsWaitForTheCurtain :
    let s := looping none [(F.TRP.CAP_STATE_STATE 3, 1)]
    let i := looping (some 2) []
    (WellKept s ∧ Admitted (by_ 2) [roleEngineer] s ∧ Admitted (by_ 1) [roleOperator, roleEngineer] i ∧ WellKept i) ∧
    (trpLegal s = true ∧ loopCfg s 0 ≠ none ∧ 0 < (loopsSec s).profiles.length ∧ (loopState s 0).inFallback = false ∧ loopFaulted s 0 = false ∧
      injecting s 0 = false ∧ loopsInjecting s + (s.trp.commands.filter (fun x => x.1 == 1)).length < 16) ∧
    (trpLegal i = true ∧ loopCfg i 0 ≠ none ∧ injecting i 0 = true) ∧
    (0 < (loopsSec s).captures.length ∧ getF s (F.TRP.CAP_STATE_STATE 0) = 0 ∧ s.trp.commands = [] ∧ getF s (F.TRP.CAP_STATE_STATE 3) ≠ 0 ∧
      (loopCfg s 1).map LoopCfg.comp = some 1 ∧ loopFaulted s 1 = false) ∧
    (keysRise i.trp.loops = true ∧ (loopState i 0).inj = some { profile := 0, made := 2 } ∧ ((loopsSec i).profiles.getD 0 {}).duration ≤ 2 ∧
      1 < ((loopsSec i).profiles.getD 0 {}).duration) :=
  ⟨⟨wellKept_of_keeps _ (by decide +kernel), admitted_of _ _ _ (by decide +kernel), admitted_of _ _ _ (by decide +kernel),
    wellKept_of_keeps _ (by decide +kernel)⟩, by decide +kernel⟩

/-! ### Meters and the battery -/

/-- One meter on voltage set 0, one calculator, one-minute intervals. -/
def metered (l : List (Field × Nat)) : State :=
  let cfg : Reel := {
    metrology := some { elec := some { meters := [{ meter := 2, elements := [0] }] }, therm := some { calcs := [{ number := 31 }] } }
    metering := some { elec := some {}, therm := some { saveMin := 1 } } }
  let s := ready .live cfg l
  { s with boe := { s.boe with sets := [{ active := true, running := true, length := 6400 }, {}, {}, {}] }, tick := { s.tick with number := 9 } }

theorem test_met_BillingRegistersNeverRunBack :
    (∀ a b, Instr.prpNodeForget 2 ≠ .x1Good a b false) ∧ Machine.exec (.prpNodeForget 2) State.reset = .next State.reset ∧
      (accumAt State.reset 0).count ≤ countMax :=
  ⟨fun _ _ => Instr.noConfusion, rfl, by decide⟩

theorem test_met_WindowsCloseAndAreProcessed :
    let s := metered []
    let d : WindowData := { set := 0, samples := 6400 }
    let part : State := { s with boe := { s.boe with sets := [{ active := true, length := 6400 }, {}, {}, {}] } }
    let leaving : State := { part with dev := { part.dev with flushing := some false } }
    let r : WindowResult := { set := 0 }
    (elecMetro s = some { meters := [{ meter := 2, elements := [0] }] } ∧ s.dev.flushing = none ∧
      (voltSet s d.set).active = true ∧ (voltSet s d.set).running = true ∧ (voltSet s d.set).length = d.samples ∧ d.samples ≠ 0 ∧
      boeRuns s = true) ∧
    (elecMetro part ≠ none ∧ part.dev.flushing = none ∧ (voltSet part 0).active = true ∧ (voltSet part 0).length ≠ 0 ∧
      (voltSet part 0).running = false ∧ 5 ≤ (voltSet part 0).length) ∧
    (leaving.dev.flushing = some false ∧ powerFailing leaving = false ∧ (voltSet leaving 1).active = false ∧ (voltSet leaving 2).active = false ∧
      (voltSet leaving 3).active = false ∧ (voltSet leaving 4).active = false) ∧
    ({ s with boe := { s.boe with closed := [r] } }.boe.closed = r :: [] ∧ elecMetro s ≠ none ∧
      (∃ x ∈ ([⟨3, 0, 9⟩] : List BoeError), 3 ≤ x.kind)) ∧ s.boe.closed = [] := by decide +kernel

theorem test_met_IntervalRecordsClose :
    let s0 := metered []
    let s := { s0 with bat := { s0.bat with boundary := some (9, 5, [], []) } }
    WellKept s ∧ s.bat.boundary = some (9, 5, [], []) ∧ (elecMetro s).isSome = true ∧ elecMeter s = some {} ∧ 9 = s.tick.number ∧
      minuteBoundary s 1 = true ∧ inState s .live = true ∧ (meterInterval s 2).startStamp ≠ 5 ∧ keysRise s.boe.intervals = true ∧
      (thermMetro s).isSome = true ∧ (thermMeter s).isSome = true ∧ (calcInterval s 31).startStamp ≠ 5 ∧
      keysRise s.bot.intervals = true ∧ 8 ≠ s.tick.number ∧ ([2] : List Nat).Nodup ∧ ([31] : List Nat).Nodup :=
  ⟨wellKept_of_keeps _ (by decide +kernel), by decide +kernel, by decide +kernel, by decide +kernel, by decide +kernel, by decide +kernel,
    by decide +kernel, by decide +kernel, by decide +kernel, by decide +kernel, by decide +kernel, by decide +kernel, by decide +kernel,
    by decide +kernel, List.nodup_singleton _, List.nodup_singleton _⟩

theorem test_met_CalibrationRuns :
    let s := metered []
    let c := fun (n : Nat) => { s with boe := { s.boe with cal := some { meter := 2, windows := 3, done := n } } }
    (WellKept s ∧ Admitted (by_ 3) [roleMetrologist] s ∧ WellKept (c 3) ∧ WellKept (c 2) ∧ Admitted (by_ 3) [roleMetrologist] (c 2)) ∧
    (inState s .live = true ∧ (elecMetro s).map (fun e => e.meters.map MeterCfg.meter) = some [2] ∧ s.boe.cal = none ∧ 1 ≤ 1024 ∧ 1024 ≤ 1024) ∧
    ((c 3).boe.cal = some { meter := 2, windows := 3, done := 3 } ∧ (c 2).boe.cal = some { meter := 2, windows := 3, done := 2 }) :=
  ⟨⟨wellKept_of_keeps _ (by decide +kernel), admitted_of _ _ _ (by decide +kernel), wellKept_of_keeps _ (by decide +kernel),
    wellKept_of_keeps _ (by decide +kernel), admitted_of _ _ _ (by decide +kernel)⟩, by decide +kernel⟩

theorem test_met_SavesHoldTheBillingRegisters :
    let s := metered []
    let f := { ready .live {} [(F.BOE.STATUS_INTEGRATING, 0)] with pwr := { live.pwr with failStep := 5 } }
    let g := { f with dev := { f.dev with flushing := some true } }
    let v : Save := { seq := 7, cause := 3, epoch := 0, valid := true }
    let b0 := ready .boot {} [(F.CLAP.POWER_EPOCH, 1)]
    let b := { b0 with bat := { b0.bat with saves := [(7, some v)], nextSeq := 8 } }
    (WellKept s ∧ WellKept f ∧ WellKept g ∧ WellKept b) ∧ saveDue s = true ∧ powerFailing s = false ∧ flushDue f = true ∧ restartSave f = none ∧
      flushDue g = true ∧ flushCause g = 3 ∧ restartSave b = some v ∧ saveDue State.reset = false ∧ flushDue s = false :=
  ⟨⟨wellKept_of_keeps _ (by decide +kernel), wellKept_of_keeps _ (by decide +kernel), wellKept_of_keeps _ (by decide +kernel),
    wellKept_of_keeps _ (by decide +kernel)⟩, by decide +kernel⟩

theorem test_met_BatteryAndTamperLoop :
    let m := fun (stopped : Bool) => { State.reset with bat := { State.reset.bat with measuring := true, stopped := stopped } }
    let z := ready .live {} [(F.SEC.CONFIG_TAMPER_ACTION, 1)]
    let o := ready .live {} [(F.BAT.STATUS_LOOP_OPEN, 1)]
    (WellKept live ∧ WellKept (m true) ∧ WellKept (m false) ∧ WellKept z ∧ WellKept o ∧ Admitted (by_ 4) [roleSecurity] live ∧
      Admitted (by_ 4) [roleSecurity] o) ∧
    (live.bat.measuring = false ∧ (m true).bat.measuring = true ∧ (m true).bat.stopped = true ∧ (m false).bat.stopped = false) ∧
    (present live 13 = true ∧ flag live F.BAT.STATUS_LOOP_OPEN = false ∧ tamperZeroises live = false) ∧
    (present z 13 = true ∧ flag z F.BAT.STATUS_LOOP_OPEN = false ∧ tamperZeroises z = true ∧ x1Good z = true ∧ powerFailing z = false ∧
      z.dev.flushing = none ∧ z.dev.referenceLost = false ∧ windowsOpen z = false) ∧
    (present o 13 = true ∧ flag o F.BAT.STATUS_LOOP_OPEN = true ∧ inState o .off = false ∧ inState live .off = false) :=
  ⟨⟨wellKept_of_keeps _ (by decide +kernel), wellKept_of_keeps _ (by decide +kernel), wellKept_of_keeps _ (by decide +kernel),
    wellKept_of_keeps _ (by decide +kernel), wellKept_of_keeps _ (by decide +kernel), admitted_of _ _ _ (by decide +kernel),
    admitted_of _ _ _ (by decide +kernel)⟩, by decide +kernel⟩

/-! ### Time -/

/-- LIVE at base 0 and base 1 counts, with four domains of Reel defaults in a priority order, and registers. -/
def timed (servo ns : Nat) (d : Domain) (l : List (Field × Nat)) : State :=
  let cfg : Reel := { time := { priority := [5, 2, 3, 4], domains := [{ enabled := true }, {}, {}, { enabled := true, portPair := 1, ptpDomain := 3 }] } }
  let s := ready .live cfg ([(F.CLAP.BASE_SERVO 5, servo), (F.CLAP.STATUS_SELECTED, 2)] ++ l)
  { s with clap := { s.clap with domains := [{}, {}, {}, d], bases := [{ ns := ns }, { ns := ns }, {}, {}, {}, {}] } }

theorem test_met_DomainLockStates :
    let k := timed 0 3000000000 {} [(F.CLAP.BASE_STATE 5, 2)]
    let h := timed 0 3600000000000 {} [(F.CLAP.BASE_STATE 5, 3)]
    let r := timed 0 60000000000 {} [(F.CLAP.BASE_STATE 5, 2)]
    let g := timed 0 0 { gm := some (1, 2) } [(F.CLAP.BASE_STATE 5, 2), (F.CLAP.BASE_PTP_DOMAIN 5, 3)]
    (WellKept k ∧ WellKept h ∧ WellKept r ∧ WellKept g) ∧ (2 ≤ 5 ∧ 5 ≤ 5 ∧ k.clap.domains.length = 4 ∧ domainEnabled k 5 = true) ∧
    (domState k 5 = 2 ∧ (dom k 5).lastAccept + (domCfg k 5).syncTimeoutMs * 1000000 ≤ nowNs k 0) ∧
    (nowNs g 0 < (dom g 5).lastAccept + (domCfg g 5).syncTimeoutMs * 1000000) ∧
    (domState h 5 = 3 ∧ (dom h 5).holdoverSince + h.cfg.time.holdoverS * 1000000000 ≤ nowNs h 0) ∧
    (flag r F.CLAP.STATUS_LOCAL_RUNNING = true ∧ flag r F.CLAP.STATUS_FORCED = false ∧ getF r F.CLAP.STATUS_SELECTED ≠ 0 ∧
      r.cfg.time.revertS ≠ 0 ∧ domState r 5 = 2 ∧ priorityOf r 5 < priorityOf r (getF r F.CLAP.STATUS_SELECTED) ∧
      (dom r 5).lockedSince + r.cfg.time.revertS * 1000000000 ≤ nowNs r 0) ∧
    (3 = getF g (F.CLAP.BASE_PTP_DOMAIN 5) ∧ (dom g 5).announceHi = none ∧ (dom g 5).gm = some (1, 2) ∧ (1, 2) ≠ (3, 4) ∧ domState g 5 ≠ 0) :=
  ⟨⟨wellKept_of_keeps _ (by decide +kernel), wellKept_of_keeps _ (by decide +kernel), wellKept_of_keeps _ (by decide +kernel),
    wellKept_of_keeps _ (by decide +kernel)⟩, by decide +kernel⟩

theorem test_met_HostServoCommands :
    let s := timed 1 0 {} [(F.CLAP.BASE_STATE 5, 3)]
    let i := timed 1 0 {} []
    (WellKept s ∧ Admitted (by_ 1) [roleOperator] s ∧ Admitted (by_ 2) [roleEngineer] s ∧ WellKept i ∧ Admitted (by_ 2) [roleEngineer] i) ∧
    (s.clap.domains.length = 4 ∧ clapLegal s = true ∧ hostServo s 5 = true ∧ domState s 5 = 3 ∧ domState s 5 ≠ 0) ∧
    (clapLegal i = true ∧ domState i 5 < 2) ∧
    (let frac := incMin % 2 ^ 32; frac < 2 ^ 32 ∧ incMin ≤ 3 * 2 ^ 32 + frac + 2 ^ 32 ∧ 4 * 2 ^ 32 + 0 ≤ incMax ∧ incMin ≤ 4 * 2 ^ 32 + 0) ∧
    (toSigned 64 (2 ^ 30 * 2 ^ 32 - 1)).natAbs < 2 ^ 62 :=
  ⟨⟨wellKept_of_keeps _ (by decide +kernel), admitted_of _ _ _ (by decide +kernel), admitted_of _ _ _ (by decide +kernel),
    wellKept_of_keeps _ (by decide +kernel), admitted_of _ _ _ (by decide +kernel)⟩, by decide +kernel⟩

theorem test_met_InternalServoMeasurements :
    let a := timed 0 0 {} [(F.CLAP.BASE_STATE 5, 1), (F.CLAP.BASE_ACTIVE_PORT 5, 1)]
    let k := timed 0 0 { oPred := some 0, nRej := 3 } [(F.CLAP.BASE_STATE 5, 2)]
    (WellKept a ∧ WellKept k) ∧
    (a.clap.domains.length = 4 ∧ domainEnabled a 5 = true ∧ flag a (F.CLAP.BASE_SERVO 5) = false ∧ clockRuns a 8 = true ∧ domState a 5 = 1 ∧
      (domCfg a 5).stepNs < (100001 : Int).natAbs) ∧
    (domainEnabled k 5 = true ∧ flag k (F.CLAP.BASE_SERVO 5) = false ∧ domState k 5 = 2 ∧ (dom k 5).oPred = some 0 ∧
      (domCfg k 5).jumpNs < (10001 - 0 : Int).natAbs ∧ (10000 - 0 : Int).natAbs ≤ (domCfg k 5).jumpNs ∧ (10000 : Int).natAbs ≤ (domCfg k 5).stepNs) ∧
    (5 ∈ domainsOnPort a 3 ∧ getF a (F.CLAP.BASE_ACTIVE_PORT 5) = 3 % 2) :=
  ⟨⟨wellKept_of_keeps _ (by decide +kernel), wellKept_of_keeps _ (by decide +kernel)⟩, by decide +kernel⟩

/-! ### Ports and stations -/

/-- LIVE on four backbone ports with link, a long-reach port, a float point of NET, a station on pair 0 and one on port 8. -/
def netted (n ns : Nat) (l : List (Field × Nat)) : State :=
  let slots : List SlotCfg := [{ slot := 0, arg := 0 }]
  let st : List StationCfg := [{ station := 0, address := 77, missLimit := 3, slots := slots }, { station := 1, attach := 2, address := 78 }]
  let cfg : Reel := {
    points := [{ index := 0, typ := 0, source := 16 }, { index := 1, typ := 4, source := 14 }]
    network := some { portMask := 15, points := [{ point := 1, quantity := 6, object := 3 }], group := [9, 9] }
    longReach := some { ports := [{ used := true, powerClass := 10 }, { used := true, powerClass := 10 }] }
    stations := some { stations := st }, time := { domains := [{ enabled := true, ptpDomain := 7 }] } }
  let s := ready .live cfg ([0, 1, 2, 3].flatMap (fun p => [(F.NET.PORT_STATE_USED p, 1), (F.NET.PORT_STATE_LINK_UP p, 1)]) ++
    [(F.NET.STATUS_PAIR0_UP, 1), (F.LRP.PORT_STATE_USED 0, 1), (F.CLAP.CONFIG_ENABLED, 1)] ++ l)
  { s with
    tick := { s.tick with number := n }, clap := { s.clap with bases := [{ ns := ns }, { ns := ns }, {}, {}, {}, {}] }
    stn := { s.stn with stations := [(0, { state := stnActive, high := 4, seen := 1, latest := 3, consumed := 2 })] } }

theorem test_met_LinksComeAndGo :
    let s := netted 8000 0 [(F.NET.PORT_STATE_LINK_UP 3, 0), (F.NET.STATUS_PAIR0_UP, 0), (F.NET.MIRROR_STATE_ENABLED, 1)]
    (WellKept s ∧ WellKept (netted 1 0 [])) ∧
    (linkUsable s 3 = true ∧ linkIsUp s 3 = false ∧ linkUsable s 15 = false ∧ linkUsable s 8 = true ∧ linkUsable s 4 = true) ∧
    (linkUsable s 0 = true ∧ linkIsUp s 0 = true ∧ (∀ c ∈ stationList s, c.station < 4096) ∧ keysRise s.stn.stations = true ∧ stnRuns s = true ∧
      onAttachment { station := 0, address := 77, missLimit := 3 } 0 = true ∧ canLose s 0 = true) ∧
    (inState s .live = true ∧ netRuns s = true ∧ imageUp s = true ∧ s.tick.number % 8000 = 0 ∧
      (pointCfg s 1).map (fun c => (c.source, c.typ, c.rangeAction, c.filter)) = some (14, 4, 0, 0) ∧ (pointCond s 1).cfgFailed = false ∧
      (netCfg s).points.map NetPoint.object = [3]) ∧ (netted 1 0 []).tick.number % 8000 ≠ 0 :=
  ⟨⟨wellKept_of_keeps _ (by decide +kernel), wellKept_of_keeps _ (by decide +kernel)⟩, by decide +kernel⟩

theorem test_met_BackboneFramesAndDuplicates :
    let s := netted 0 2000000000 []
    let f : RxFrame := ⟨0, 77, 0, .datagram 18716 9 77, some ⟨65535, false⟩⟩
    let t := { s with net := { s.net with entries := [⟨0, 77, 65535, 0, false⟩] } }
    (WellKept s ∧ WellKept t) ∧
    (netRuns s = true ∧ portLink s 0 = true ∧ portLink s 3 = true ∧ s.net.drops.length = 4 ∧ frameSupported s f = true ∧
      frameSupported s ⟨3, 5, 0, .unsupported, none⟩ = false ∧ (65535 < 65536) ∧ s.net.entries = []) ∧
    (t.net.entries.map (fun e => (e.pair, e.source, e.sequence)) = [(0 / 2, 77, 65535)] ∧ frameSupported t f = true) ∧
    (netRuns State.reset = false ∧ frameSupported s ⟨3, 5, 0, .ptp, none⟩ = true ∧ frameSupported s ⟨3, 5, 0, .supervision 6, none⟩ = true) ∧
    (let l := netted 0 0 [(F.LRP.PORT_STATE_LINK_UP 0, 1)]; lrpRuns l = true ∧ portLink l 8 = true ∧ keeps l = true) ∧
    (keysRise s.net.queues = true ∧ s.net.trailerSeq.length = 2 ∧ s.net.lastLife.length = 2 ∧ flag s (F.NET.PORT_STATE_USED (2 * 1)) = true ∧
      s.net.lastLife.getD 1 0 + (netCfg s).lifeCheckMs * 1000000 ≤ nowNs s 0 ∧ (queueOf s (16 * 1 + 12)).length < 16) ∧
    (2 ∈ domainsOnPort s 1 ∧ (domCfg s 2).ptpDomain = 7 ∧ (queueOf s (8 * 1 + 5)).length < 63 ∧
      (∀ d ∈ domainsOnPort s 1, (domCfg s d).ptpDomain = 7 → d = 2)) :=
  ⟨⟨wellKept_of_keeps _ (by decide +kernel), wellKept_of_keeps _ (by decide +kernel)⟩, by decide +kernel⟩

theorem test_met_FramesLaunchHighestFirst :
    let s0 := netted 0 5000 [(F.LRP.PORT_STATE_LINK_UP 0, 1)]
    let f : TxFrame := { body := .supervision, bits := 1000, launch := some 4000 }
    let late : TxFrame := { f with launch := some 3999 }
    let s := { s0 with net := { s0.net with queues := [(8 * 3 + 4, [f])] } }
    let t := { s0 with net := { s0.net with queues := [(8 * 3 + 4, [late])] } }
    (WellKept s ∧ WellKept t) ∧
    (keysRise s.net.queues = true ∧ portRuns s 3 = true ∧ portLink s 3 = true ∧ tableGet 0 s.net.busyUntil 3 ≤ nowNs s 1 ∧
      portQueues 3 = [31, 30, 29] ++ 28 :: [27, 26, 25, 24] ∧ (∀ h ∈ ([31, 30, 29] : List Nat), queueOf s h = []) ∧ queueOf s 28 = f :: [] ∧
      keysRise s.net.busyUntil = true ∧ 4000 ≤ nowNs s 1 ∧ nowNs s 1 ≤ 4000 + lateWindow 3) ∧
    (queueOf t 28 = [late] ∧ 28 ∈ portQueues 3 ∧ (∀ r ∈ portQueues 3, r ≠ 28 → queueOf t r = []) ∧ 3999 + lateWindow 3 < nowNs t 1) ∧
    (portRuns s 8 = true ∧ portLink s 8 = true ∧ portLink s 9 = false ∧ inState State.reset .live = false) :=
  ⟨⟨wellKept_of_keeps _ (by decide +kernel), wellKept_of_keeps _ (by decide +kernel)⟩, by decide +kernel⟩

theorem test_met_SinglePairPower :
    let det := fun (p at_ : Nat) =>
      let s := netted 0 1000 [(F.LRP.PORT_STATE_POWER 1, p)]
      { s with lrp := { s.lrp with detectAt := [none, some at_, none, none, none, none, none, none] } }
    (WellKept (det 1 1000) ∧ Admitted (by_ 1) [roleOperator] (det 1 1000) ∧ WellKept (det 3 1001) ∧ WellKept (det 2 0) ∧ WellKept (det 4 0) ∧
      Admitted (by_ 1) [roleOperator] (det 4 0)) ∧
    (lrPowered (det 1 1000) 1 = true ∧ (det 1 1000).lrp.detectAt.length = 8 ∧ inState (det 1 1000) .live = true ∧ lrpRuns (det 1 1000) = true ∧
      (det 1 1000).lrp.detectAt[1]? = some (some 1000) ∧ lrPower (det 1 1000) 1 = 1 ∧ 1000 ≤ stampNs (det 1 1000)) ∧
    (lrPower (det 3 1001) 1 = 3 ∧ (det 3 1001).lrp.detectAt[1]? = some (some 1001) ∧ stampNs (det 3 1001) < 1001) ∧
    (lrPower (det 2 0) 1 = 2 ∧ (∀ j, j < 8 → 1 < j → lrPower (det 2 0) j ≠ 2)) ∧ lrPower (det 4 0) 1 = 4 :=
  ⟨⟨wellKept_of_keeps _ (by decide +kernel), admitted_of _ _ _ (by decide +kernel), wellKept_of_keeps _ (by decide +kernel),
    wellKept_of_keeps _ (by decide +kernel), wellKept_of_keeps _ (by decide +kernel), admitted_of _ _ _ (by decide +kernel)⟩, by decide +kernel⟩

/-- The payload of an INPUT frame of station 0 with entries, sealed under its uplink key: flags, sequence and exchange number. -/
def upPayload (s : State) (flags seq exch : Nat) (es : List SlotEntry) : List Nat :=
  let c := (stationCfg s 0).getD {}
  let header := bytesLE 4 0x58534E57 ++ [1, 1, 0, flags, 0, 0] ++ bytesLE 2 es.length ++ bytesLE 8 0 ++ bytesLE 8 seq ++ bytesLE 4 exch
  header ++ gcmSeal (uplinkKey s c) (frameNonce 1 seq) header (List.replicate 16 0 ++ es.flatMap slotBytes)
/-- The frame with that payload on port 0. -/
def input (s : State) (flags seq exch : Nat) (es : List SlotEntry) : InputFrame := ⟨0, 77, upPayload s flags seq exch es, none⟩

/-- The checks on a frame: its form, its body, its sequence number, its exchange number, each entry a slot. -/
def inputChecks (s : State) (f : InputFrame) : List Bool :=
  let c := (stationCfg s 0).getD {}
  let x := stnState s 0
  [frameForm f.payload, (frameBody s c f.payload).isSome, sequenceFresh x (u64 f.payload 20), echoFresh x (u32 f.payload 28),
    ((frameBody s c f.payload).map bodyEntries).all (fun es => es.all (fun e => (entrySlot c (u8 f.payload 6) e).isSome))]

theorem test_input_frames_are_judged :
    let s := netted 8000 0 []
    let e : SlotEntry := ⟨0, 0, 0, 0⟩
    inputChecks s (input s 0 5 3 [e]) = [true, true, true, true, true] ∧ inputChecks s (input s 0 4 3 [e]) = [true, true, false, true, true] ∧
    inputChecks s (input s 0 5 1 [e]) = [true, true, true, false, true] ∧ inputChecks s (input s 0 5 3 [⟨9, 0, 0, 0⟩]) = [true, true, true, true, false] ∧
    inputChecks s ⟨0, 77, (upPayload s 0 5 3 [e]).dropLast ++ [1, 2], none⟩ = [false, false, true, true, true] ∧
    (let p := upPayload s 0 5 3 [e]; (frameBody s ((stationCfg s 0).getD {}) (p.set 33 (255 - p.getD 33 0))).isNone = true) := by decide +kernel

theorem test_met_StationsAreHeardAndLost :
    let s := netted 8000 0 [(F.HOST.RING_CONFIG_ENABLE 8, 1)]
    let x := stnState s 0
    let f := input s 1 5 3 [⟨0, 0, 0, 0⟩]
    let gone := { s with stn := { s.stn with stations := [(0, { state := stnActive, misses := 3 })] } }
    let older := { s with stn := { s.stn with stations := [(0, { state := stnActive, high := 40, seen := 1, latest := 3, consumed := 2 })] } }
    let busy := { s with stn := { s.stn with applied := 1024 } }
    (WellKept s ∧ stnRuns s = true ∧ keysRise s.stn.stations = true ∧ WellKept gone ∧ stnRuns gone = true) ∧
    (stationCfg s 0 = some { station := 0, address := 77, missLimit := 3, slots := [{ slot := 0, arg := 0 }] } ∧ x.state ≠ stnHalted ∧
      stationCfg s (u16 f.payload 8) = stationCfg s 0 ∧ onAttachment { station := 0, address := 77 } f.port = true ∧ (77 : Nat) = f.address ∧
      f.contextError = none ∧ stationCfg s (u16 (f.payload.set 8 9) 8) = none ∧ onAttachment { station := 0, address := 77 } 8 = false) ∧
    (x.high < u64 f.payload 20 ∧ s.stn.applied < 1024 ∧ 1024 ≤ busy.stn.applied ∧ u8 f.payload 7 % 2 = 1 ∧ canLose s 0 = true ∧
      inputChecks older (input older 0 39 3 [⟨0, 0, 0, 0⟩]) = [true, true, true, true, true] ∧ 39 ≤ (stnState older 0).high) ∧
    (canLose gone 0 = true ∧ 3 ≤ (stnState gone 0).misses ∧ attachmentUp gone { station := 0 } = true ∧
      (stnState s 0).misses < 3 ∧ attachmentUp s { station := 1, attach := 2 } = false ∧
      canLose { s with stn := { s.stn with stations := [(0, { state := stnHalted })] } } 0 = false) ∧
    (s.tick.number % 8000 = 0 ∧ ringProduces s 8 = true ∧ keysRise s.host.staging = true ∧ (tableGet [] s.host.staging 8).length < 4096 ∧
      s.tick.number % 8000 ≠ 1) :=
  ⟨⟨wellKept_of_keeps _ (by decide +kernel), by decide +kernel, by decide +kernel, wellKept_of_keeps _ (by decide +kernel), by decide +kernel⟩,
    by decide +kernel⟩

/-! ### CAN -/

/-- A port with an RX buffer 127 that ages and a SCHEDULED buffer 0, two filters, one signal and three windows. -/
def canPort0 (recover : Bool) : CanPortCfg :=
  { tt := true, autoRecover := recover, cycleTicks := 8
    buffers := [{ buffer := 127, kind := 0, dlc := 8, id := 0x100, signals := 1, maxAge := 5 }, { buffer := 0, kind := 2, dlc := 8, id := 0x300 }]
    filters := [{ id := 0x100, mask := 0x7FF, buffer := 127 }, { id := 0x101, mask := 0x7FF, buffer := 127, highPriority := true }]
    signals := [{ length := 8, point := 0, scale := 0x3F800000 }]
    windows := [{ kind := 1, startNs := 0, lengthNs := 200000 }, { kind := 2, startNs := 200000, lengthNs := 200000 }]
    matrix := [0, 0] }
/-- LIVE on that port 3 at a Local count, the port with some state, and registers. -/
def canned (n ns : Nat) (recover : Bool) (q : CanPort) (l : List (Field × Nat)) : State :=
  let s := ready .live { points := [{ index := 0, source := 17 }], can := some { ports := [none, none, none, some (canPort0 recover)] } }
    ((F.CAN.PORT_STATE_MODE 3, 1) :: l)
  { s with
    tick := { s.tick with number := n }, can := { s.can with ports := [{}, {}, {}, q] }
    clap := { s.clap with bases := [{ ns := ns }, { ns := ns }, {}, {}, {}, {}] } }
/-- A data frame. -/
def dataFrame (id : Nat) : CanFrame := ⟨id, false, false, false, false, false, 15, 0x1234, none, 0⟩

theorem test_met_CanFramesReceived :
    let s := canned 5 0 false {} [(F.CAN.ERROR_COUNTERS_REC 3, 127)]
    let f := canPort0 false
    WellKept s ∧
    (canCfg s 3 = some f ∧ canRuns s = true ∧ canMode s 3 ≠ 0 ∧ canError s 3 < 2 ∧ getF s (F.CAN.ERROR_COUNTERS_REC 3) ≤ 127) ∧
    (filterFor f (dataFrame 0x7FF) = none ∧ filterFor f (dataFrame 0x100) = some { id := 0x100, mask := 0x7FF, buffer := 127 } ∧
      filterFor f (dataFrame 0x101) = some { id := 0x101, mask := 0x7FF, buffer := 127, highPriority := true } ∧
      (bufCfg f 127).map CanBufCfg.buffer = some 127 ∧ bufHalted s 3 127 = false ∧ keysRise (canPort s 3).ages = true) ∧
    (inState s .live = true ∧ flag s (F.CAN.BUF_STATUS_AGED 3 127) = false ∧ ageDue s 3 { buffer := 127, kind := 0, maxAge := 5 } = true ∧
      ageDue s 3 { buffer := 127, kind := 0, maxAge := 6 } = false ∧ (pointCfg s 0).isSome = true ∧ imageUp s = true) :=
  ⟨wellKept_of_keeps _ (by decide +kernel), by decide +kernel⟩

theorem test_met_FramesLaunchOnCan :
    let s := canned 0 0 false { host := [⟨0x100, 16, 0x1234, 0⟩] } []
    let g := { canPort0 false with tt := false }
    let s := { s with cfg := { s.cfg with can := some { ports := [none, none, none, some g] } } }
    (WellKept s ∧ keysRise s.net.queues = true) ∧
    (canCfg s 3 = some g ∧ canRuns s = true ∧ inState s .live = true ∧ canMode s 3 = 1 ∧ canError s 3 < 2 ∧ (canPort s 3).onWire = none ∧
      (canPort s 3).mustFirst = none ∧ (canPort s 3).periodic = [] ∧ (canPort s 3).host = ⟨0x100, 16, 0x1234, 0⟩ :: [] ∧ 0 ≤ nowNs s 1) ∧
    inState loadState .live = false :=
  ⟨⟨wellKept_of_keeps _ (by decide +kernel), by decide +kernel⟩, by decide +kernel⟩

theorem test_met_CanWindowsSendsAndErrors :
    let s := canned 0 0 false {} [(F.CAN.HTX_CTRL 3, 127)]
    let w : CanTx := ⟨.scheduled 127, 0, 0, 0, 0⟩
    let e := canned 0 400000 false { window := some 1, onWire := some w, host := List.replicate 32 ⟨0, 0, 0, 0⟩ } [(F.CAN.ERROR_COUNTERS_TEC 3, 256)]
    let r := canned 0 400000 false { window := some 0, reference := some (0, 0) } [(F.CAN.PORT_STATE_ERROR_STATE 3, 2)]
    let b := canned 0 400000 true { onWire := some { w with source := .host }, recoverFrom := 0 } [(F.CAN.PORT_STATE_ERROR_STATE 3, 3)]
    (WellKept s ∧ Admitted (by_ 2) [roleEngineer] s ∧ WellKept e ∧ Admitted (by_ 2) [roleEngineer] e ∧ WellKept r ∧
      Admitted (by_ 1) [roleOperator] r ∧ WellKept b) ∧
    (canCfg s 3 = some (canPort0 false) ∧ (∀ b ∈ (canPort0 false).buffers, b.buffer < 128) ∧ inState s .live = true ∧ canRuns s = true ∧
      (canPort0 false).tt = true ∧ (canPort0 false).windows[0]? = some { kind := 1, startNs := 0, lengthNs := 200000 } ∧
      (canPort s 3).window = none ∧ (windowSpan s (canPort0 false) { kind := 1, startNs := 0, lengthNs := 200000 }).1 ≤ nowNs s 1 ∧
      nowNs s 1 < (windowSpan s (canPort0 false) { kind := 1, startNs := 0, lengthNs := 200000 }).2 ∧ canMode s 3 = 1 ∧
      (canPort s 3).awaitCurtain = false ∧
      nowNs s 1 < (windowSpan s (canPort0 false) { kind := 2, startNs := 200000, lengthNs := 200000 }).1) ∧
    (windowOver e (canPort0 false) 1 = true ∧ windowOver { r with clap := s.clap } (canPort0 false) 0 = false ∧
      (canPort e 3).window = some 1 ∧ canMode e 3 = 1 ∧ ((canPort0 false).windows.getD 1 {}).kind = 2 ∧
      (canPort0 false).matrix.getD (64 * getF e (F.CAN.CYCLE_COUNT 3) + 1) 0xFF ≠ 0xFF ∧ (canPort e 3).onWire = some w ∧
      getF e (F.CAN.ERROR_COUNTERS_TEC 3) ≤ 256 ∧ 32 ≤ (canPort e 3).host.length) ∧
    (windowOver r (canPort0 false) 0 = true ∧ (canPort r 3).window = some 0 ∧ ((canPort0 false).windows.getD 0 {}).kind = 1 ∧ (canPort r 3).reference ≠ none ∧
      (canPort r 3).complete = false ∧ canError r 3 = 2 ∧ (canPort0 false).autoRecover = false) ∧
    (canMode s 3 ≠ 0 ∧ canError s 3 < 2 ∧ 255 < 256) ∧
    (canError b 3 = 3 ∧ (canPort b 3).recoverFrom + (1408 * nominalBit (canPort0 true) + 1) / 2 ≤ nowNs b 1 ∧ (canPort b 3).onWire ≠ none) ∧
    (role s ≤ 1 ∧ canError s 3 ≠ 2 ∧ canMode s 3 ≠ 2 ∧ getF s (F.CAN.HTX_CTRL 3) < 128 ∧ getF s (F.CAN.HTX_CTRL 3) / 16 % 2 = 1 ∧
      (canPort s 3).host.length < 32) :=
  ⟨⟨wellKept_of_keeps _ (by decide +kernel), admitted_of _ _ _ (by decide +kernel), wellKept_of_keeps _ (by decide +kernel),
    admitted_of _ _ _ (by decide +kernel), wellKept_of_keeps _ (by decide +kernel), admitted_of _ _ _ (by decide +kernel),
    wellKept_of_keeps _ (by decide +kernel)⟩, by decide +kernel⟩

/-! ### The pair -/

/-- LIVE in a role of a pair, or as Ringmaster, at tick 9 and a Local count, with the pair key in the store. -/
def paired (r ns : Nat) (p : SpotPart) (l : List (Field × Nat)) : State :=
  let s := ready .live { spotlight := some { witness := r == 3, missLimit := 2, pairKeyId := 5 }, loops := some { loops := [{ loop := 0 }] } }
    ((F.SPOT.STATUS_ROLE, r) :: l)
  { s with
    spot := p, sec := { s.sec with keys := [(0, some { id := 5, kind := 5, material := List.replicate 32 7 })] }
    tick := { s.tick with number := 9 }, dev := { s.dev with reelHash := [1] }
    clap := { s.clap with bases := [{ ns := ns }, { ns := ns }, {}, {}, {}, {}] } }
/-- A side that is alive and READY, with its AIR level, and a dead one. -/
def side (air : Bool) : SideInputs := ⟨1000, true, air, 5000⟩
def dead : SideInputs := ⟨250000, false, false, 0⟩

theorem test_met_GrantsMoveTheLead :
    let lead := paired 1 0 {} [(F.SPOT.INTERLOCK_GRANT, 1), (F.SPOT.INTERLOCK_ON_AIR, 1)]
    let latched := paired 1 0 {} [(F.SPOT.STATUS_RM_LATCHED, 1)]
    let stand := paired 2 0 {} [(F.SPOT.INTERLOCK_GRANT, 1)]
    let ill := setF F.DEV.HEALTH_LO (2 * 4 ^ 2) lead
    let rm := fun (g : Nat) => paired 3 62500 { moving := if g = 0 then some (2, 0) else none } [(F.SPOT.STATUS_GRANTED, g)]
    (WellKept lead ∧ WellKept latched ∧ WellKept stand ∧ WellKept (rm 0) ∧ WellKept (rm 2)) ∧
    (pairReel lead = true ∧ flag lead F.SPOT.STATUS_RM_LATCHED = false ∧ role lead = 1 ∧ inState lead .live = true ∧
      flag lead F.SPOT.INTERLOCK_GRANT = true ∧ flag stand F.SPOT.INTERLOCK_ON_AIR = false ∧ flag latched F.SPOT.INTERLOCK_GRANT = false ∧
      inState (armed (some {}) 0 none) .armed = true ∧ pairReel (armed (some {}) 0 none) = true ∧
      (armed (some {}) 0 none).dev.referenceLost = false ∧ inState lead .armed = false ∧ moduleHealth lead ≠ 2 ∧ moduleHealth ill = 2 ∧
      inState ill .live = true ∧ role ill = 1 ∧ flag ill F.SPOT.STATUS_RM_LATCHED = false ∧ pairReel ill = true) ∧
    (pairReel latched = true ∧ flag latched F.SPOT.STATUS_RM_LATCHED = true) ∧
    (inState stand .live = true ∧ role stand = 2 ∧ flag stand F.SPOT.INTERLOCK_GRANT = true ∧ stand.tick.curtainDone = false ∧
      exchanging stand = false ∧ loopsInjecting stand = 0 ∧ (∀ c ∈ (loopsSec stand).loops, c.loop < 1024)) ∧
    (let z := { rm 0 with spot := {} }
     ringmaster z = true ∧ getF z F.SPOT.STATUS_GRANTED = 0 ∧ z.spot.moving = none ∧ startChoice z (side false) (side false) = some 1 ∧
      startChoice z dead (side true) = some 2 ∧ startChoice z dead dead = none) ∧
    (getF (rm 2) F.SPOT.STATUS_GRANTED = 2 ∧ sideFailure ((rm 2).spot.airSeen || false) dead = some 0 ∧
      sideFailure ((rm 2).spot.airSeen || true) (side true) = none ∧ sideAlive (side false) = true ∧ (side false).ready = true ∧
      (sideAlive dead && dead.ready) = false) ∧
    (ringmaster (rm 0) = true ∧ (rm 0).spot.moving = some (2, 0) ∧ 0 + 62500 ≤ nowNs (rm 0) 1 ∧ nowNs (paired 3 62499 {} []) 1 < 0 + 62500) :=
  ⟨⟨wellKept_of_keeps _ (by decide +kernel), wellKept_of_keeps _ (by decide +kernel), wellKept_of_keeps _ (by decide +kernel),
    wellKept_of_keeps _ (by decide +kernel), wellKept_of_keeps _ (by decide +kernel)⟩, by decide +kernel⟩

/-- The Stand-in of a pair, and a frame of its Lead's delta of tick 9, sealed. -/
def follower (p : SpotPart) : State := paired 2 0 p []
/-- See follower. -/
def headFrame (s : State) (r : List MirrorRecord) : MirrorFrame :=
  let f : MirrorFrame := { index := 0, count := 1, tick := 9, sender := 1, epoch := 1, records := r, tag := [] }
  { f with tag := deltaTag (standInKey s 1 1) f }
/-- A RETURN frame with its tag, on the Lead; and a JOIN_REQUEST with its own. -/
def sealed (s : State) (f : ReturnFrame) : ReturnFrame := { f with tag := returnTag (leadKey s) s.spot.peerSerial s.spot.peerEpoch f }
/-- See sealed. -/
def joinSealed (s : State) (j : JoinRequest) : JoinRequest :=
  { j with tag := joinTag (mirrorKey s (serialNumber s) j.sender (getF s F.CLAP.POWER_EPOCH) j.epoch) j }

theorem test_met_MirrorLead :
    let lead0 := paired 1 0 { sending := true, returnCount := 4, peerReady := true } [(F.SPOT.STATUS_PEER_PRESENT, 1), (F.TXN.SLOT_TAKE_ID 0, 7)]
    let w : WriteAhead := { slot := 0, stage := 2, startedNs := 0 }
    let lead := { lead0 with txn := { lead0.txn with ahead := some w } }
    let j : JoinRequest := { count := 1, sender := 2, epoch := 3, reelHash := [1] }
    let f : ReturnFrame := { count := 5, ready := true }
    let bare := { lead with sec := State.reset.sec }
    (WellKept lead ∧ WellKept bare ∧ Admitted (by_ 2) [roleEngineer] lead) ∧
    (inState lead .live = true ∧ role lead = 1 ∧ hasPairKey lead = true ∧ joinGenuine lead (joinSealed lead j) = true ∧
      joinGenuine bare j = false ∧ lead.spot.peerSerial ≠ 2 ∧ j.reelHash = lead.dev.reelHash ∧
      (let late := joinSealed lead { j with sender := 0, epoch := 0, count := 4 }
       joinGenuine lead late = true ∧ lead.spot.peerSerial = late.sender ∧ lead.spot.peerEpoch = late.epoch ∧ late.count ≤ lead.spot.returnCount)) ∧
    (lead.spot.sending = true ∧ returnGenuine lead (sealed lead f) = true ∧ lead.spot.returnCount < f.count ∧ f.takeDurable = none ∧
      returnGenuine bare f = false ∧ returnGenuine lead (sealed lead { f with takeDurable := some 7 }) = true ∧
      lead.txn.ahead = some w ∧ w.stage = 2 ∧ getF lead (F.TXN.SLOT_TAKE_ID w.slot) = 7) ∧
    (peerLostCause lead = some 0 ∧ peerLostCause (paired 1 0 {} []) = none ∧ healthyStandIn lead = true) :=
  ⟨⟨wellKept_of_keeps _ (by decide +kernel), wellKept_of_keeps _ (by decide +kernel), admitted_of _ _ _ (by decide +kernel)⟩, by decide +kernel⟩

theorem test_met_MirrorStandIn :
    let entry : LogEntry := { takeId := 7, writes := [], role := 1, mirrored := true, stamp := 0, principal := 0, length := 128, mark := .unmarked }
    let stand0 := follower { mirrored := { tick := 7 }, misses := 1 }
    let stand := { stand0 with txn := { stand0.txn with arriving := [entry] } }
    let joining := follower { joining := true }
    let joinArmed := { armed (some { pairKeyId := 5 }) 0 none with sec := stand.sec, spot := joining.spot }
    let far := headFrame stand [.curtain { t1 := 1000000, t3 := 1, t4 := 1 }]
    let d : MirrorDelta := { tick := 9, sender := 1, epoch := 1, curtain := { t1 := 1000000, t3 := 1, t4 := 1 } }
    let bare := { stand with sec := State.reset.sec }
    (WellKept stand ∧ WellKept bare ∧ Admitted (by_ 2) [roleEngineer] stand ∧ WellKept joining ∧ WellKept joinArmed) ∧
    (pairReel stand = true ∧ (∀ c ∈ (loopsSec stand).loops, c.loop < 1024) ∧ inState stand .live = true ∧ role stand = 2 ∧
      stand.cfg.tunables = none) ∧
    (deltaGenuine bare far = false ∧ deltaGenuine stand far = true ∧ gatherFrames [far] 0 = some d) ∧
    (deltaGenuine joining (headFrame joining []) = true ∧ joining.spot.joining = true ∧
      (gatherFrames [headFrame joining [.bulk .done]] 0).map MirrorDelta.lastBulk = some true ∧
      deltaGenuine joinArmed (headFrame joinArmed []) = true ∧ inState joinArmed .armed = true ∧ pairReel joinArmed = true) ∧
    (stand.spot.joining = false ∧ stand.tick.number = d.tick ∧ stand.spot.mirrored.tick ≠ d.tick ∧
      (spotCfg stand).stepLimitNs < (mirrorPhase stand d).1.natAbs ∧ (follower { mirrored := { tick := 9 } }).spot.mirrored.tick = d.tick ∧
      2500 < (mirrorPhase stand { d with curtain := {}, rxNs := 2501 }).2) ∧
    (stand.spot.mirrored.tick + 1 < stand.tick.number ∧ stand.spot.missedTick ≠ stand.tick.number ∧
      (spotCfg stand).missLimit ≤ stand.spot.misses + 1 ∧ joining.spot.misses + 1 < (spotCfg joining).missLimit ∧
      stand.txn.arriving = entry :: [] ∧ hasPairKey stand = true ∧ stand.spot.sentTick ≠ some stand.tick.number) :=
  ⟨⟨wellKept_of_keeps _ (by decide +kernel), wellKept_of_keeps _ (by decide +kernel), admitted_of _ _ _ (by decide +kernel), wellKept_of_keeps _ (by decide +kernel),
    wellKept_of_keeps _ (by decide +kernel)⟩, by decide +kernel⟩

/-! ### Memories, crossings, records -/

theorem test_met_MemoryErrorsAndCrossings :
    let full := ready .live {} ((List.range 32).map (fun i => (F.MEM.ENT_INFO_VALID 8 i, 1)))
    let lacking := ready .live {} [(F.JUG.CLUSTERS_PRESENT, 7)]
    let stopped := { ready .live {} [(F.MEM.CROSS_TIMEOUT, 250)] with mem := { live.mem with released := 0xFFF }, pwr := { live.pwr with stoppedClocks := 32 }, clap := { live.clap with cycles := 125000 } }
    let stalled := ready .live {} [(F.MEM.CROSS_STALL, 0x820)]
    (WellKept full ∧ Admitted (by_ 2) [roleEngineer] full ∧ WellKept lacking ∧ Admitted (by_ 2) [roleEngineer] lacking ∧ WellKept stopped ∧
      WellKept stalled) ∧
    (full.mem.position.length = 9 ∧ scrubs full 8 = true ∧ scrubs full 0 = true ∧ scrubs full 9 = false ∧ full.mem.position.getD 8 0 < 2 ^ 64 ∧
      flag full (F.MEM.ENT_INFO_KIND 8 31) = false ∧ privileged 8 = false ∧ privileged 6 = true ∧ inState full .live = true) ∧
    (crossingReleased stopped 5 = true ∧ crossingReleased full 5 = false ∧
     let dead := if clockRuns stopped (groupClocks 5).1 = true then (groupClocks 5).2 else (groupClocks 5).1
     clockRuns stopped dead = false ∧ bitF stopped F.MEM.CROSS_STALL 5 = false ∧
      tableGet 0 stopped.pwr.stoppedAt dead + 500 * getF stopped F.MEM.CROSS_TIMEOUT ≤ stopped.clap.cycles) ∧
    (bitF stalled F.MEM.CROSS_STALL 11 = true ∧ bitF stalled F.MEM.CROSS_STALL 0 = false ∧ clockRuns stalled (groupClocks 11).1 = true ∧
      clockRuns stalled (groupClocks 11).2 = true) ∧
    (memLegal full = true ∧ memPresent full 8 = true ∧ (scrubRange 8).1 ≤ 86400 ∧ 2592000 ≤ (scrubRange 8).2 ∧ (scrubRange 8).2 < 2592001 ∧
      memPresent lacking 4 = false) :=
  ⟨⟨wellKept_of_keeps _ (by decide +kernel), admitted_of _ _ _ (by decide +kernel), wellKept_of_keeps _ (by decide +kernel),
    admitted_of _ _ _ (by decide +kernel), wellKept_of_keeps _ (by decide +kernel), wellKept_of_keeps _ (by decide +kernel)⟩, by decide +kernel⟩

/-- LIVE with a CONT in some state, at a count of the bases. -/
def recording (c : ContPart) (ns : Nat) (l : List (Field × Nat)) : State :=
  { ready .live {} l with cont := c, clap := { live.clap with bases := [{ ns := ns }, { ns := ns }, {}, {}, {}, {}] } }

theorem test_met_RecordsAreNumberedAndFlushed :
    let one : Arrival := ⟨0, 0x0101, [1, 2, 3, 4], false, 0⟩
    let a := recording { arrivals := [one] } 0 []
    let b := recording { arrivals := [one], buckets := [(0x0101, some ⟨7999, 0⟩)] } 0 []
    let p := recording {} 1000000000 [(F.CONT.CODE_STATE_PENDING 0x0101, 65535), (F.CONT.VOL_UNPERSISTED, 1), (F.CONT.FLUSH_S, 1)]
    let f := recording { flush := some ⟨1, 5⟩, volatileRing := [{ seq := 1 }] } 0 [(F.CONT.VOL_UNPERSISTED, 1)]
    let r := recording { reads := [⟨15, 0, 0, 0, 0⟩] } 0 []
    let r3 := recording { reads := [⟨15, 0, 3, 0, 0⟩] } 0 []
    (WellKept a ∧ WellKept b ∧ WellKept p ∧ WellKept f ∧ WellKept r ∧ Admitted (by_ 1) [roleOperator] p ∧ Admitted (by_ 1) [roleOperator] f ∧
      Admitted (by_ 0) anyRole r ∧ WellKept r3) ∧
    (nextArrival a = some (one, []) ∧ flag a F.CONT.STATUS_EXHAUSTED = false ∧ getF a F.CONT.NEXT_SEQUENCE < 0xFFFFFFFF ∧
      8000 ≤ bucketTokens a 0x0101 ∧ a.cont.capUsed < 1024 ∧ getF a (F.CONT.CODE_STATE_PENDING 0x0101) = 0 ∧ unlimited 0x1401 = true ∧
      getF a F.CONT.VOL_UNPERSISTED < 49151 ∧ a.cont.timerDue = false ∧
      nextArrival { a with cont := { a.cont with arrivals := [one, { one with code := 0x0001 }] } } = some ({ one with code := 0x0001 }, [one])) ∧
    (unlimited 0x0101 = false ∧ bucketTokens b 0x0101 < 8000 ∧ inState a .live = true ∧ inState loadState .live = false ∧ p.cont.arrivals = []) ∧
    (getF p (F.CONT.CODE_STATE_PENDING 0x0101) ≠ 0 ∧ (tableGet {} p.cont.suppressed 0x0101).first125 + 8000 ≤ now125 p ∧
      getF p (F.CONT.CODE_STATE_PENDING 0x0102) = 0 ∧ p.cont.lastFlushNs + flushSeconds p * 1000000000 ≤ stampNs p ∧
      0 < getF p F.CONT.VOL_UNPERSISTED ∧ p.cont.flush = none ∧ p.cont.suppressed = []) ∧
    (stampNs a < a.cont.lastFlushNs + flushSeconds a * 1000000000) ∧
    (f.cont.flush = some ⟨1, 5⟩ ∧ getF f F.CONT.VOL_UNPERSISTED = 1 ∧ f.cont.volatileRing.getLast?.map Rec.seq = some 1 ∧ f.cont.unreadable = [] ∧
      f.cont.lostRun = none ∧ keysRise f.cont.persistent = true) ∧
    (r.cont.reads.map ContRead.ring = [15] ∧ r.cont.reads.length < 4 ∧ getF r (F.HOST.RING_CONFIG_FUNCTION 9) ≠ 2 ∧
      r.cont.reads.find? (fun x => x.ring == 15) = some ⟨15, 0, 0, 0, 0⟩ ∧ readOn r ⟨15, 0, 0, 0, 0⟩ 0 (readPlaces r 15) = ([], [], 0) ∧
      readOn r3 ⟨15, 0, 3, 0, 0⟩ 3 (readPlaces r3 15) = ([], [], 3)) :=
  ⟨⟨wellKept_of_keeps _ (by decide +kernel), wellKept_of_keeps _ (by decide +kernel), wellKept_of_keeps _ (by decide +kernel),
    wellKept_of_keeps _ (by decide +kernel), wellKept_of_keeps _ (by decide +kernel), admitted_of _ _ _ (by decide +kernel),
    admitted_of _ _ _ (by decide +kernel), admitted_of _ _ _ (by decide +kernel), wellKept_of_keeps _ (by decide +kernel)⟩, by decide +kernel⟩

/-! ### Sessions, keys, microcode -/

/-- A credential of the store, whose key is that of the small Reel's signer. -/
def credential (id roles : Nat) : KeyEntry := { id := id, kind := 6, roles := roles, material := engKey.material }
/-- A state with a secret key and three credentials in the store, an OPERATOR's, an ENGINEER's and a SECURITY_OFFICER's; with
key material in sessions 2 and 5 and H1 in session 6; and registers. -/
def keyed (d : DevState) (l : List (Field × Nat)) : State :=
  let s := ready d {} l
  let x := s.sec.sessions
  { s with
    sec := { s.sec with
      keys := [(0, some { id := 8, kind := 2 }), (4608, some (credential 5 2)), (4609, some (credential 6 16)), (4610, some (credential 7 17))]
      sessions := ((x.set 2 { traffic := List.replicate 32 5 }).set 5 { wrap := List.replicate 32 9 }).set 6 { h1 := List.replicate 48 1 } } }
/-- Bytes in the mailbox. -/
def mail (bs : List Nat) : List (Field × Nat) := (numbered (wordsLE bs)).map (fun e => (F.SEC.MAILBOX e.1, e.2))
/-- A SESSION_BEGIN request of a credential for a role, its HOST_PUBLIC a point of the curve. -/
def request (id role : Nat) : List Nat := bytesLE 8 id ++ [role] ++ List.replicate 39 0 ++ engKey.material ++ List.replicate 7 0
/-- A SESSION_PROVE body of the half-open session: its credential's signature over H2. -/
def proof : List Nat :=
  bytesLE 16 9 ++ bytesBE 96 0x8384CF5368A8AB28D53DC44A900146E373BE2EDD44C90F208BB055F1A0FCFBC971A8C8F7B51449EE1E8756940D33F54654B793DB6463FB6A954EE6AABA159F4BEA5B201DD7B843BF8958644F4F5C9D549987AFDF31FBD984F95CCF32809B51BC

theorem test_met_SessionsOpenAndEnd :
    let s := keyed .live (mail (request 5 1))
    let full := keyed .live (mail (request 5 1) ++ [(F.SEC.SES_STATE_STATE 7, 1)])
    let unknown := keyed .live (mail (request 99 1))
    let half := keyed .live (mail proof ++ [(F.SEC.SES_STATE_TRANSPORT 6, 0), (F.SEC.SES_CRED_LO 6, 5)])
    let late := { half with clap := { half.clap with bases := [{ ns := 28800000000000 }, {}, {}, {}, {}, {}] } }
    (WellKept s ∧ WellKept full ∧ WellKept unknown ∧ WellKept half ∧ WellKept late) ∧
    (hostAccess s = true ∧ powerFailing s = false ∧ lostTie bar = false ∧ spareClear bar = true ∧ s.sec.busy = none ∧
      flag s F.SEC.STATUS_DRBG_FAILED = false ∧
      (let q := sessionRequest (bytesOfWords ((secInput bar s).take 38))
       q.wellFormed = true ∧ q.role ≤ 4 ∧ q.credential ≠ 0 ∧ findKey s q.credential = some (4608, credential 5 2) ∧
        2 / 2 ^ q.role % 2 = 1) ∧ s.sec.transportLocked = [] ∧ s.sec.locked = [] ∧ transportCode bar ≠ 1 ∧
      (List.range 8).find? (fun k => sesState s k == 0) = some 7) ∧
    (∀ k, k < 8 → sesState full k ≠ 0) ∧
    findKey unknown (sessionRequest (bytesOfWords ((secInput bar unknown).take 38))).credential = none ∧
    (let ws := secInput bar half
     ws.getD 0 0 = 9 ∧ ws.getD 1 0 = 0 ∧ ws.getD 2 0 = 0 ∧ ws.getD 3 0 = 0 ∧
      (List.range 8).find? (fun k => sesState half k == 1 && getF half (F.SEC.SES_STATE_SESSION_ID k) == 9 &&
        getF half (F.SEC.SES_STATE_TRANSPORT k) == transportCode bar) = some 6 ∧ barSlot half = some 0 ∧
      proofOk half 6 (bytesOfWords ((ws.drop 4).take 24)) = true ∧ proofOk half 6 (List.replicate 96 0) = false) ∧
    (callerSlot s bar = some 0 ∧ getF s (F.SEC.SES_STATE_ROLE 0) ≤ 4) ∧
    (sesState late 6 = 1 ∧ (late.sec.sessions.getD 6 {}).beganNs + secondsNs 10 ≤ nowNs late 0 ∧ sesState late 7 ≠ 1 ∧
      sesState late 5 = 2 ∧ (late.sec.sessions.getD 5 {}).openedNs + secondsNs (secCfg late).maxS ≤ nowNs late 0 ∧ sesState late 7 ≠ 2 ∧
      nowNs half 0 < (half.sec.sessions.getD 5 {}).lastNs + secondsNs (secCfg half).idleS) ∧
    (flag s F.SEC.STATUS_RUNNING = true ∧ present s 21 = true) :=
  ⟨⟨wellKept_of_keeps _ (by decide +kernel), wellKept_of_keeps _ (by decide +kernel), wellKept_of_keeps _ (by decide +kernel),
    wellKept_of_keeps _ (by decide +kernel), wellKept_of_keeps _ (by decide +kernel)⟩, by decide +kernel⟩

/-- A secret key of 32 bytes of 7 with ID 50, wrapped under session 5's wrap key. -/
def wrapped : List Nat := bytesBE 56 0x40B546907F66AA779521DAABC7C8884852D4BABA835D10ECC87220E40B2457497799BA2E10E2A581A9CE57571C18C18FB9BC2CFC7F1832EB
/-- Its blob. -/
def newKey : KeyBlob := { keyId := 50, kind := 2, roles := 0, length := 32, reserved := 0, material := List.replicate 32 7, padding := [] }

/-- AES-256 key wrap, opened. -/
theorem test_key_unwraps :
    keyUnwrap (List.replicate 32 9) wrapped = some ([50, 0, 0, 0, 0, 0, 0, 0, 2, 0, 32, 0, 0, 0, 0, 0] ++ List.replicate 32 7) := by
  decide +kernel

theorem test_blob_unwraps : unwrapBlob (List.replicate 32 9) wrapped = some newKey := by
  have h : wrapped.take 128 = wrapped := by decide +kernel
  have g : wrapped.take 56 = wrapped := by decide +kernel
  simp only [unwrapBlob, h, g, test_key_unwraps]
  decide +kernel

/-- The debug signature for the serial number 0 and no zeroisation. -/
def debugProof : List Nat :=
  bytesBE 96 0x3373CADCA4ABBEF7A3C66C33104F4D7D02A2D01BA80F8171491327EF04890795DC0AF40A62D2749C739ED276E486583EC8589D45C52227D15848C38D31E0FB04D48683600216EAAFAB4702DCFE77575FCF58D79ADCCC62E7758DD35EEA9C0513
/-- MAINTENANCE with some bytes in a message to SEC. -/
def officer (bs : List Nat) : State :=
  let s := keyed .maintenance [(F.SEC.MIN_VERSION_WRITES_LEFT, 64), (F.DEV.BOOT_IMAGE_VERSION, 1)]
  { s with sec := { s.sec with inbox := wordsLE bs } }

theorem test_met_KeysIdentityAndMicrocode :
    let s := officer wrapped
    let c := by_ 4
    let call : SecCall := { opcode := 0x10, caller := c }
    let busy := { s with sec := { s.sec with busy := some call } }
    let known := { s with sec := { s.sec with keys := (1, some { id := 50, kind := 2 }) :: s.sec.keys.drop 1 } }
    let blob := fun (t : State) => (wrapKey c t, bytesOfWords ((secInput c t).take 32))
    (WellKept s ∧ Admitted c [roleSecurity] s ∧ Admitted (by_ 0) anyRole s ∧ WellKept busy ∧ WellKept known) ∧
    (busy.sec.busy = some call ∧ call.opcode ≠ 0x13 ∧ call.opcode ≠ 0x40) ∧
    (hostAccess s = true ∧ s.sec.busy = none ∧ keysRise s.sec.keys = true ∧ keyStates s = true ∧ blob s = (List.replicate 32 9, wrapped) ∧ blobOk newKey = true ∧
      keyFree newKey.kind newKey.keyId s = true ∧ findKey s newKey.keyId = none ∧ freeEntry newKey.kind s = some 1 ∧
      blob known = blob s ∧ findKey known newKey.keyId ≠ none ∧ unwrapBlob (blob (officer [])).1 (blob (officer [])).2 = none) ∧
    (findKey s (6 + 2 ^ 32 * 0) = some (4609, credential 6 16) ∧ keyFree 6 (6 + 2 ^ 32 * 0) s = true ∧
      officerKey (credential 6 16) = true ∧ officers s ≠ 1) ∧
    (s.dev.flushing = none ∧ s.dev.referenceLost = false ∧ windowsOpen s = false) ∧
    (inState s .maintenance = true ∧ s.sec.images.length = 2 ∧ s.sec.runningSlot < 2 ∧ (67108864 - 4096) % 4096 = 0 ∧
      67108864 - 4096 + 4096 ≤ 67108864 ∧ (∀ x ∈ s.sec.images, keysRise x.chunks = true) ∧
      (let image := imageBytes { size := 0 + 224, chunks := [(0, factoryImage)] }
       imageSigned s.sec.imageKeyHash image = true ∧ getF s F.SEC.MIN_VERSION_VERSION ≤ imageVersion image ∧
        imageSigned s.sec.imageKeyHash (List.replicate 224 0) = false) ∧
      getF s F.SEC.MIN_VERSION_VERSION < getF s F.DEV.BOOT_IMAGE_VERSION ∧ getF s F.DEV.BOOT_IMAGE_VERSION < 65536 ∧
      0 < getF s F.SEC.MIN_VERSION_WRITES_LEFT ∧ getF s F.SEC.MIN_VERSION_WRITES_LEFT ≤ 64) ∧
    (let t := officer (List.replicate 16 0 ++ debugProof)
     let ws := secInput c t
     ws.getD 0 0 = getF t F.DEV.SERIAL_LO ∧ ws.getD 1 0 = getF t F.DEV.SERIAL_HI ∧ ws.getD 2 0 = 0 ∧ ws.getD 3 0 = 0 ∧
      debugSigned (bytesOfWords ((ws.drop 4).take 24)) t = true ∧ debugSigned (List.replicate 96 0) t = false) ∧
    (attestStates s = true ∧ flag s F.SEC.STATUS_DRBG_FAILED = false ∧ 4735 ≤ 4735 ∧ 4096 ≤ 4096) :=
  ⟨⟨wellKept_of_keeps _ (by decide +kernel), admitted_of _ _ _ (by decide +kernel), admitted_of _ _ _ (by decide +kernel),
    wellKept_of_keeps _ (by decide +kernel), wellKept_of_keeps _ (by decide +kernel)⟩, by decide +kernel⟩

/-! ### The host port -/

/-- LIVE at tick n with the host port's part, ports of NET used, and registers. -/
def hosted (n : Nat) (h : HostPart) (l : List (Field × Nat)) : State :=
  let s := ready .live { points := [{ index := 0x400 }] } ([(F.HOST.RING_CONFIG_ENABLE 9, 1), (F.HOST.RING_CONFIG_FUNCTION 9, 2),
    (F.HOST.RING_CONFIG_DIRECTION 9, 1), (F.HOST.RING_CONFIG_QUEUE 9, 3), (F.HOST.SIZE 9, 64), (F.HOST.RING_CONFIG_ENABLE 4, 1),
    (F.HOST.SIZE 4, 64), (F.HOST.SQ_SIZE, 16), (F.HOST.SQ_TAIL, 1)] ++ l)
  { s with host := h, tick := { s.tick with number := n } }
/-- A frame of 60 bytes in one entry. -/
def frame60 (q : Nat) : TxEntry := ⟨60, q, true, List.replicate 60 3⟩

theorem test_met_RingsAndSubmissions :
    let s := hosted 8000 { staging := [(4, [{ index := 1 }])], modFirstNs := [(15, some 0)], msixPending := [63], subs := [⟨0x401, none⟩] }
      [(F.HOST.RING_CONFIG_MOD_US 15, 10), (F.HOST.PROD 15, 2)]
    let m := { s with clap := { s.clap with bases := [{ ns := 10000 }, {}, {}, {}, {}, {}] } }
    let quiet := hosted 1 {} [(F.HOST.SQ_TAIL, 0), (F.DEV.UNITS_PRESENT, 0x7FFFFF), (F.HOST.RING_CONFIG_ENABLE 4, 0)]
    let lacking := hosted 1 {} [(F.DEV.UNITS_PRESENT, 0x7FFFFF), (F.PWR.DOMAIN_STATE, 0xDFFF)]
    let falling := { s with tick := { s.tick with cycle := 50000 } }
    let call := fun (u op : Nat) (slow : Bool) => ((unitCommand u op { transport := .queue, session := none, rivals := [] } 0xFF 0 0 slow
      (setF F.HOST.SQ_HEAD (getF s F.HOST.SQ_HEAD + 1) s)).map (fun x => x.2.result))
    (WellKept s ∧ WellKept m ∧ WellKept quiet ∧ WellKept lacking ∧ WellKept falling ∧ Admitted (by_ 0) anyRole s ∧ Admitted (by_ 2) [roleEngineer] s) ∧
    (hostUp s = true ∧ (∀ e ∈ s.host.ring6, e.kind < 4) ∧ keysRise s.host.staging = true ∧ tableGet [] s.host.staging 4 = { index := 1 } :: [] ∧
      ringTakes s 4 = true ∧ keysRise s.host.written = true ∧ tableGet [] s.host.staging 5 = [] ∧ ringTakes s 5 = false) ∧
    (inCurtainCycle s = false ∧ inCurtainCycle falling = true ∧ hostUp falling = true) ∧
    (tableGet none m.host.modFirstNs 15 = some 0 ∧ getF m (F.HOST.RING_CONFIG_MOD_US 15) ≠ 0 ∧
      0 + getF m (F.HOST.RING_CONFIG_MOD_US 15) * 1000 ≤ nowNs m 0 ∧ tableGet none m.host.modFirstNs 0 = none) ∧
    (flag s (F.HOST.RING_CONFIG_DIRECTION 15) = false ∧ (let a := fun (x : Nat) => (x + (2 ^ 32 - getF s (F.HOST.CONS 15))) % 2 ^ 32
      a 2 ≤ a (getF s (F.HOST.PROD 15)) ∧ a (getF s (F.HOST.PROD 15)) < a 3) ∧ flag s (F.HOST.RING_CONFIG_ENABLE 15) = false ∧
      flag s (F.HOST.RING_CONFIG_ENABLE 9) = true) ∧
    (63 ∈ s.host.msixPending ∧ 0 ∉ s.host.msixPending ∧ barSlot s = some 0) ∧
    (mayFetch quiet = false ∧ mayFetch s = true ∧ mayFetch lacking = true ∧ present lacking 23 = false ∧ present s 1 = true ∧
      unitGated s 1 = false ∧ call 1 1 false = some resOk ∧ call 21 0x20 true = some resPending ∧ call 5 0x20 false = none ∧
      unitGated lacking 15 = true ∧ resOk ≠ resPending) ∧
    (flag s F.HOST.STATUS_BUS_MASTER = true ∧ getF s (F.HOST.RING_CONFIG_FUNCTION 9) = 2 ∧ getF s (F.HOST.RING_CONFIG_QUEUE 9) = 3 ∧
      tableGet [] s.host.txGather 9 = [] ∧ (1 + 2 ^ 32 - getF s (F.HOST.CONS 9)) % 2 ^ 32 = 1 ∧ 1 ≤ getF s (F.HOST.SIZE 9) ∧
      keysRise s.net.queues = true ∧ keysRise s.host.txGather = true ∧ (frameOk 3 [frame60 3] && onAir s && queueRuns s 3) = true ∧
      frameOk 3 [frame60 2] = false ∧ (queueOf s 11).length < 256) ∧
    (subscribeLegal s = true ∧ subscribable s 0x400 = true ∧ (∀ x ∈ s.host.subs, x.point ≠ 0x400) ∧ s.host.subs.length < 4096 ∧
      s.host.subs.map Subscription.point = [0x401]) ∧
    (hostAccess s = true ∧ hostQueue 3 = true ∧ queuePresent s 3 = true ∧ getF s (F.HOST.RING_CONFIG_FUNCTION 15) ≠ 1) ∧
    (s.tick.number % 8000 = 0 ∧ ringProduces s 4 = true ∧ (tableGet [] s.host.staging 4).length < 4096 ∧ quiet.tick.number % 8000 ≠ 0) :=
  ⟨⟨wellKept_of_keeps _ (by decide +kernel), wellKept_of_keeps _ (by decide +kernel), wellKept_of_keeps _ (by decide +kernel),
    wellKept_of_keeps _ (by decide +kernel), wellKept_of_keeps _ (by decide +kernel), admitted_of _ _ _ (by decide +kernel), admitted_of _ _ _ (by decide +kernel)⟩, by decide +kernel, by decide +kernel, by decide +kernel, by decide +kernel, by decide +kernel⟩

/-- A datagram to MGMT_PORT: a message in clear, or sealed under the key of the OPERATOR's session 2, whose ID is 3. -/
def clear (kind id : Nat) (body : List Nat) : Datagram := { bytes := mgmtHeader kind 0 id body.length 0 7 ++ body }
/-- See clear. -/
def sealed3 (kind flags seq id : Nat) (body : List Nat) : Datagram :=
  let head := mgmtHeader kind flags id body.length seq 7
  { bytes := head ++ gcmSeal (List.replicate 32 5) (mgmtNonce 1 seq) head body }
/-- A COMMAND body without data. -/
def callBody (unit op a0 : Nat) : List Nat := [unit, op, 0, 0] ++ bytesLE 4 a0 ++ List.replicate 12 0

theorem test_met_AccessesAndManagementPort :
    let s := keyed .live [(F.SEC.SES_STATE_TRANSPORT 6, 1)]
    let lacking := ready .live {} [(F.DEV.UNITS_PRESENT, 0x7FFFFF), (F.PWR.DOMAIN_STATE, 0xDFFF)]
    let falling := { s with tick := { s.tick with cycle := 50000 } }
    (WellKept s ∧ WellKept lacking ∧ WellKept falling) ∧
    ((hostUp s = true ∧ accessBad 0x1800000 4 false = true ∧ accessBad 0x17FFFFC 4 true = false ∧ accessBad 0x3FFFFFC 4 true = true ∧
      accessBad 2 4 false = true ∧ inCurtainCycle s = false ∧ inCurtainCycle falling = true ∧ hostUp falling = true) ∧
    (present lacking (unitOfAddr 0x1700000) = false ∧ present s (unitOfAddr 0x1700000) = true ∧ unitGated lacking (unitOfAddr 0xF00000) = true ∧
      unitGated s (unitOfAddr 0xF00000) = false) ∧
    (let tk := F.JUG.SOLVE_CONFIG_MAX_ITER.addr
     tk < 0x1800000 ∧ tk % 4 = 0 ∧ present s (unitOfAddr tk) = true ∧ unitGated s (unitOfAddr tk) = false ∧
      (fieldsAt tk).any (fun f => f.access == .tk) = true ∧ (∀ f ∈ fieldsAt tk, f.access ≠ .rw ∧ f.access ≠ .w1c)) ∧
    (let rc := F.TICK.LENGTH_RANGE_MAX.addr
     present s (unitOfAddr rc) = true ∧ unitGated s (unitOfAddr rc) = false ∧ (fieldsAt rc).any (fun f => f.access == .rc) = true) ∧
    (let f := F.TICK.STATUS_CLAMPED
     f ∈ fieldsAt f.addr ∧ f.access = .w1c ∧ f.width = 1 ∧ f.addr < 0x1110000 ∧ f.addr ≠ 0x160000C ∧ present s (unitOfAddr f.addr) = true ∧
      unitGated s (unitOfAddr f.addr) = false ∧
      (∀ g ∈ fieldsAt f.addr, g ≠ f → fieldKey g ≠ fieldKey f ∧ g.access ≠ .rw ∧ g.access ≠ .tk ∧ g.addr = f.addr))) ∧
    ((latchedBy F.TICK.NUMBER_LO.addr = some (F.TICK.NUMBER_LO.addr + 4) ∧ keysRise s.host.latched = true) ∧
    (let f := F.HOST.SQ_SIZE
     fieldsAt f.addr = [f] ∧ f.access = .rw ∧ f ≠ F.HOST.TICK_DIVIDER ∧ f.addr < 0x1600100) ∧
    (isCmd F.TICK.CMD.addr = true ∧ (unitCommand (unitOfAddr F.TICK.CMD.addr) (1 % 256) bar 0 0 0 false s).isSome = true) ∧
    (hasAccess s (0x1110000 + 0x8000 * 3 + 0x80 * 128) .w1c = true) ∧
    (flag s F.HOST.CONFIG_IPV6 = false ∧ s.host.address = 0 ∧ 1 ≠ s.host.address)) :=
  ⟨⟨wellKept_of_keeps _ (by decide +kernel), wellKept_of_keeps _ (by decide +kernel), wellKept_of_keeps _ (by decide +kernel)⟩, by decide +kernel, by decide +kernel⟩

theorem test_met_MessagesOfTheManagementPort :
    let s := keyed .live [(F.SEC.SES_CRED_LO 6, 5)]
    let begin_ := fun (d : Datagram) => cmdSessionBegin (mgmtCaller none []) 0 false (loadInbox (wordsLE ((clearBody 1 (mgmtHead d)).getD [])) s)
    let prove := fun (d : Datagram) => cmdSessionProve (mgmtCaller none []) 0 false (loadInbox (wordsLE ((clearBody 3 (mgmtHead d)).getD [])) s)
    WellKept s ∧
    (mgmtTakes s { dest := 1 } = false ∧ mgmtTakes s {} = true ∧ flag s F.HOST.CONFIG_IPV6 = false ∧ mgmtUp s = true) ∧
    (clearBody 1 (mgmtHead {}) = none ∧ clearBody 1 (mgmtHead (clear 1 0 (request 5 1))) = some (request 5 1) ∧
      (mgmtHead (clear 1 0 (request 5 1))).sessionId = 0 ∧ (request 5 1).length = 152 ∧ (begin_ (clear 1 0 (request 5 1))).2.result = resOk ∧
      (begin_ (clear 1 0 (request 99 1))).2.result = resNotAuthorised) ∧
    (clearBody 3 (mgmtHead (clear 3 9 proof)) = some proof ∧ proof.length = 112 ∧ mgmtSlot s 9 = some 6 ∧ mgmtSlot s 99 = none ∧
      (prove (clear 3 9 proof)).2.result = resOk ∧ (prove (clear 3 9 (List.replicate 112 0))).2.result = resBadArgument) ∧
    (cmdSessionBegin (mgmtCaller none []) 0 true s).2.result = resPending :=
  ⟨wellKept_of_keeps _ (by decide +kernel), by decide +kernel, by decide +kernel, by decide +kernel, by decide +kernel⟩

/-- What the check of a sealed message gives: the cause of its being dropped, or its session slot and its body. -/
def opened (x : Except Nat (Nat × List Nat)) : Nat ⊕ (Nat × List Nat) :=
  match x with
  | .error c => .inl c
  | .ok b => .inr b

theorem test_met_SealedMessages :
    let s := keyed .live []
    let seen := { s with host := { s.host with mgmtHigh := [(2, 100)], mgmtSeen := [(2, 1)] } }
    let open4 := fun (d : Datagram) (t : State) => opened (mgmtOpen 4 (mgmtHead d) callOk t)
    let call := sealed3 4 0 1 3 (callBody 20 1 0)
    (WellKept s ∧ WellKept seen) ∧
    (open4 call s = .inr (2, callBody 20 1 0) ∧ (mgmtHead call).flags ≠ 1 ∧ (mgmtHead (sealed3 4 1 1 3 (callBody 20 1 0))).flags = 1 ∧
      open4 (sealed3 4 0 1 9 (callBody 20 1 0)) s = .inl 3 ∧ open4 (sealed3 4 0 36 3 (callBody 20 1 0)) seen = .inl 1 ∧
      open4 { call with bytes := call.bytes.dropLast ++ [256] } s = .inl 0 ∧ open4 {} s = .inl 2) ∧
    (keysRise s.host.mgmtHigh = true ∧ keysRise s.host.mgmtSeen = true ∧ keysRise s.host.mgmtData = true ∧ present s 20 = true ∧
      unitGated s 20 = false ∧ ((unitCommand 20 1 (mgmtCaller (some 2) []) 0 0 0 false s).map (fun x => x.2.result)) = some resOk) ∧
    (opened (mgmtOpen 6 (mgmtHead (sealed3 6 0 1 3 (bytesLE 4 0x100000 ++ bytesLE 4 256))) readOk s) = .inr (2, bytesLE 4 0x100000 ++ bytesLE 4 256) ∧
      opened (mgmtOpen 6 (mgmtHead (sealed3 6 0 1 3 (bytesLE 4 0x100000 ++ bytesLE 4 257))) readOk s) = .inl 2) ∧
    (opened (mgmtOpen 8 (mgmtHead (sealed3 8 0 1 3 (bytesLE 8 0x100040))) writeOk s) = .inr (2, bytesLE 8 0x100040) ∧ isCmd 0x100040 = true ∧
      opened (mgmtOpen 8 (mgmtHead (sealed3 8 0 1 3 (bytesLE 8 2))) writeOk s) = .inl 2 ∧ isCmd F.HOST.SQ_SIZE.addr = false ∧
      getF s (F.SEC.SES_STATE_ROLE 2) ≠ roleObserver ∧ getF s (F.SEC.SES_STATE_ROLE 1) = roleObserver) :=
  ⟨⟨wellKept_of_keeps _ (by decide +kernel), wellKept_of_keeps _ (by decide +kernel)⟩, by decide +kernel, by decide +kernel, by decide +kernel,
    by decide +kernel⟩

/-! ### Single steps, with the results that the manual gives -/

/-- The command at the front of the queue, run by a step, leaves a next state that passes the check. -/
def stepHas (c : Instr) (s : State) (check : State → Bool) : Bool :=
  match step { s with pending := c :: s.pending } with
  | .next t => check t && t.pending == s.pending
  | _ => false

/-- Power-on below 18,000 mV leaves the module OFF; at 18,000 mV it enters BOOT (the supply thresholds of the manual). -/
theorem test_power_on_threshold :
    (stepHas (.x1Good 17999 0 true) offState (fun t => t.dev.state == .off) &&
      stepHas (.x1Good 0 18000 true) offState (fun t => t.dev.state == .boot)) = true := by decide +kernel

/-- TICK_START early by more than 16 cycles is clamped to 62,484 cycles, counted, and the tick's number goes up by one. -/
theorem test_tick_start_clamped :
    stepHas (.tickStart 62000 []) { ready .live {} [] with tick := { live.tick with number := 4, curtainDone := true } } (fun t =>
      t.tick.number == 5 && getF t F.TICK.LENGTH_LAST == 62484 && getF t F.TICK.CLAMP_COUNT == 1 &&
        flag t F.TICK.STATUS_CLAMPED) = true := by decide +kernel

/-- A read of LENGTH_RANGE gives both fields and sets MAX to 0x0000 and MIN to 0xFFFF. -/
theorem test_length_range_read :
    stepHas (.rcRead 0x0100020) (ready .live {} [(F.TICK.LENGTH_RANGE_MAX, 62501), (F.TICK.LENGTH_RANGE_MIN, 62499)]) (fun t =>
      t.host.readData == 62501 * 65536 + 62499 && getF t F.TICK.LENGTH_RANGE_MAX == 0 &&
        getF t F.TICK.LENGTH_RANGE_MIN == 0xFFFF) = true := by decide +kernel

/-- A write of 1 to a W1C bit clears it and leaves its neighbour, whose written bit is 0. -/
theorem test_w1c_write :
    stepHas (.w1cWrite 0x0100004 2) (ready .live {} [(F.TICK.STATUS_CLAMPED, 1), (F.TICK.STATUS_OUTPUT_LATE, 1)]) (fun t =>
      !flag t F.TICK.STATUS_CLAMPED && flag t F.TICK.STATUS_OUTPUT_LATE) = true := by decide +kernel

/-- A misaligned access counts one bad access; the counter saturates. -/
theorem test_bad_access_saturates :
    (stepHas (.badAccess 2 4 false) live (fun t => getF t F.HOST.BAD_ACCESS_COUNT == 1) &&
      stepHas (.badAccess 2 4 false) (ready .live {} [(F.HOST.BAD_ACCESS_COUNT, 0xFFFFFFFF)])
        (fun t => getF t F.HOST.BAD_ACCESS_COUNT == 0xFFFFFFFF)) = true := by decide +kernel

/-- Task 0 at one instruction, with WA and scratch word 3. -/
def scanning2 (op : Nat) (wa w : Word) : State :=
  let s := scanning op 0
  { s with cfg := { s.cfg with logic := some { instrs := [insn op 2 3] } },
           car := { s.car with scans := [(0, some { start := 0, addr := 0, wa := wa, writes := { scratch := [(3, some w)] } })] } }
/-- WA of task 0's scan after the step. -/
def waIs (v : Word) (t : State) : Bool := ((scanOf t 0).map Scan.wa) == some v

/-- ADDI and SUBI saturate at 2³¹ − 1 and −2³¹. -/
theorem test_integer_sums_saturate :
    (stepHas (.carAddi 0 none) (scanning2 0x22 0x7FFFFFFF 1) (waIs 0x7FFFFFFF) &&
      stepHas (.carAddi 0 none) (scanning2 0x22 5 0xFFFFFFFE) (waIs 3) &&
      stepHas (.carSubi 0 none) (scanning2 0x23 0x80000000 1) (waIs 0x80000000)) = true := by decide +kernel

/-- FTOI rounds half to even and saturates, and a NaN gives 0: 2.5 gives 2, 3.5 gives 4, 2³¹ gives 2³¹ − 1. -/
theorem test_ftoi :
    (stepHas (.carFtoi 0 none) (scanning2 0x2F 0x40200000 0) (waIs 2) && stepHas (.carFtoi 0 none) (scanning2 0x2F 0x40600000 0) (waIs 4) &&
      stepHas (.carFtoi 0 none) (scanning2 0x2F 0x4F000000 0) (waIs 0x7FFFFFFF) &&
      stepHas (.carFtoi 0 none) (scanning2 0x2F 0x7FC00000 0) (waIs 0)) = true := by decide +kernel

/-- ADDF of 1.5 and 2.25 is 3.75. -/
theorem test_addf : stepHas (.carAddf 0 none) (scanning2 0x28 0x3FC00000 0x40100000) (waIs 0x40700000) = true := by decide +kernel

/-- An access past BAR0's 64 MiB is the model's only fault. -/
theorem test_outside_bar0 :
    (match step { live with pending := [.rcRead 0x4000000] } with | .fault .outsideBar0 => true | _ => false) = true := by decide +kernel

/-- The table gives no row bits: no word spells a command, and nothing is put in the queue. -/
theorem test_no_word_spells_a_command : decodeTableWord 32 5 = none ∧ (live.withFetchWord 32 5).pending = [] := by decide +kernel

/-- The manual's worked example of instruction words: LD POINT 0x03041, TON timer 12, ST POINT 0x03100, END. -/
theorem test_carousel_words :
    ([0x04003041, 0x6800000C, 0x20003100, 0xEC000000] : List Word).map (fun w => (carOpcode w, carKind w, carIndex w)) =
      [(0x01, 0, 0x3041), (0x1A, 0, 12), (0x08, 0, 0x3100), (0x3B, 0, 0)] := by decide +kernel

end Sys2Proof.Tests
end

section
/-! SUPPORT. What the machine holds before power first comes on. -/

namespace Sys2Proof.Machine

open Sys2Proof

theorem wellKept_reset : WellKept State.reset where
  regs := by decide
  live := rfl
  snap := rfl
  window := rfl
  cond := rfl
  bases := rfl
  slots := rfl
  sessions := rfl
  ports := rfl
  volatileRing := by decide
  headers := rfl

/-- A fresh module has every unit (R1). -/
theorem present_reset {u : Nat} (hu : u < 24) : present State.reset u = true := by
  revert u
  decide

/-- A fresh module shows PD0 alone (R49). -/
theorem domainOn_reset {d : Nat} (hd : d < 16) : domainOn State.reset d = true ↔ d = 0 := by
  revert d
  decide

theorem sessionOpen_reset (k : Nat) : sessionOpen State.reset k = false := by
  have hslots : ∀ j < 8, sessionOpen State.reset j = false := by decide
  rcases Nat.lt_or_ge k 8 with hk | hk
  · exact hslots k hk
  · simp [sessionOpen, Nat.not_lt.2 hk]

end Sys2Proof.Machine

namespace Sys2Proof.Certificates

open Sys2Proof.Machine

/-- Settles O6: the registers of a fresh module are the reset values of their rows but for PART and DOMAIN_STATE, and every
other store is empty or has its fixed number of entries. -/
theorem resetState : Obligations.ResetState :=
  ⟨wellKept_reset, rfl, rfl, rfl, by decide, fun _ => present_reset, fun _ => domainOn_reset, sessionOpen_reset, fun _ => rfl, rfl⟩

end Sys2Proof.Certificates
end

section
/-! SUPPORT. Laws of the parts of the state, of counters, of lists of fields and of single bits that the proofs about host
accesses use. -/

namespace Sys2Proof.Machine

open Sys2Proof

variable (s : State)

/-! ### Parts -/

/-- An update of HOST's part leaves every other part. -/
theorem onlyParts_host (h : HostPart) : OnlyParts [.host] s { s with host := h } := by
  intro p hp
  cases p
  case host => exact absurd (List.mem_singleton_self _) hp
  all_goals rfl

theorem onlyParts_trans {ps : List Part} {s t u : State} (h1 : OnlyParts ps s t) (h2 : OnlyParts ps t u) : OnlyParts ps s u :=
  fun p hp => part_same_trans p (h1 p hp) (h2 p hp)

theorem onlyParts_mono {ps qs : List Part} {s t : State} (h : OnlyParts ps s t) (hs : ps ⊆ qs) : OnlyParts qs s t :=
  fun p hp => h p fun hq => hp (hs hq)

/-! ### Counters and records -/

@[simp] theorem emit_regs (code w1 w2 w3 : Nat) : (emit code w1 w2 w3 s).regs = s.regs := by
  unfold emit emitAt
  split <;> rfl

@[simp] theorem getF_emit (code w1 w2 w3 : Nat) (f : Field) : getF (emit code w1 w2 w3 s) f = getF s f :=
  getF_congr s _ f (emit_regs s code w1 w2 w3)

/-- A 32-bit counter goes up and stays at all ones. -/
theorem getF_bumpF_same (f : Field) (k : Nat) (hf : f.width = 32) (h : keysRise s.regs = true) :
    getF (bumpF f k s) f = min (getF s f + k) 0xFFFFFFFF := by
  rw [bumpF, getF_setF_same s f _ h, hf]
  exact Nat.mod_eq_of_lt (by omega)

theorem getF_bumpF_other (f g : Field) (k : Nat) (h : fieldKey f ≠ fieldKey g) : getF (bumpF f k s) g = getF s g :=
  getF_setF_other s f g _ h

/-- From `s` to `t` the counter `f` has gone up by one, CONT may have been handed a record, and nothing else has changed. -/
def Counted (f : Field) (s t : State) : Prop :=
  getF t f = min (getF s f + 1) 0xFFFFFFFF ∧ OnlyParts [.regs, .cont] s t ∧ OnlyFields [f] s t

theorem counted_emit_bumpF (f : Field) (code w1 w2 w3 : Nat) (hf : f.width = 32) (h : keysRise s.regs = true) :
    Counted f s (emit code w1 w2 w3 (bumpF f 1 s)) := by
  refine ⟨?_, ?_, fun g hg => ?_⟩
  · rw [getF_emit, getF_bumpF_same s f 1 hf h]
  · have hm : Moves 0x200002 s (emit code w1 w2 w3 (bumpF f 1 s)) :=
      moves_step (emit_moves ..) rfl (moves_step (bumpF_moves ..) rfl moves_refl)
    exact onlyParts_of_moves s _ hm rfl
  · rw [getF_emit, getF_bumpF_other s f g 1 (hg f (List.mem_singleton_self f))]

/-- HOST has returned a word. -/
def withReadData (v : Nat) (t : State) : State := { t with host := { t.host with readData := v } }

@[simp] theorem withReadData_withReadData (v w : Nat) : withReadData v (withReadData w s) = withReadData v s := rfl

theorem onlyParts_withReadData (v : Nat) : OnlyParts [.host] s (withReadData v s) := onlyParts_host s _

/-- From `s` to `t` the counter `f` has gone up by one, CONT may have been handed a record, HOST has returned the word `v`, and
nothing else has changed. -/
def CountedRead (f : Field) (v : Nat) (s t : State) : Prop :=
  getF t f = min (getF s f + 1) 0xFFFFFFFF ∧ t.host.readData = v ∧ OnlyParts [.regs, .cont, .host] s t ∧ OnlyFields [f] s t

theorem counted_withReadData {s t : State} {f : Field} (v : Nat) (h : Counted f s t) : CountedRead f v s (withReadData v t) := by
  obtain ⟨hcount, hparts, hfields⟩ := h
  exact ⟨hcount, rfl, onlyParts_trans (onlyParts_mono hparts (by simp)) (onlyParts_mono (onlyParts_withReadData t v) (by simp)),
    hfields⟩

/-! ### Lists of fields -/

@[simp] theorem resetFields_host (fs : List Field) : (resetFields fs s).host = s.host := by
  induction fs generalizing s with
  | nil => rfl
  | cons f fs ih => exact ih (setF f f.reset s)

theorem getF_resetFields_other (fs : List Field) (g : Field) (h : ∀ f ∈ fs, fieldKey f ≠ fieldKey g) :
    getF (resetFields fs s) g = getF s g := by
  induction fs generalizing s with
  | nil => rfl
  | cons f fs ih =>
    rw [List.forall_mem_cons] at h
    exact (ih (setF f f.reset s) h.2).trans (getF_setF_other s f g _ h.1)

/-- Fields with keys of their own are each at their reset value once all have been reset. -/
theorem getF_resetFields_mem (fs : List Field) (f : Field) (hs : keysRise s.regs = true) (hk : (fs.map fieldKey).Nodup)
    (hf : f ∈ fs) : getF (resetFields fs s) f = f.reset % 2 ^ f.width := by
  induction fs generalizing s with
  | nil => cases hf
  | cons g fs ih =>
    obtain ⟨hg, hk⟩ := List.nodup_cons.1 hk
    rcases List.mem_cons.1 hf with rfl | hf
    · have hother : ∀ x ∈ fs, fieldKey x ≠ fieldKey f := fun x hx e => hg (e ▸ List.mem_map_of_mem hx)
      exact (getF_resetFields_other (setF f f.reset s) fs f hother).trans (getF_setF_same s f _ hs)
    · exact ih (setF g g.reset s) (setF_keysRise s g _ hs) hk hf

/-! ### Single bits -/

theorem bitF_eq_testBit (f : Field) (i : Nat) : bitF s f i = (getF s f).testBit i := by
  rw [Nat.testBit_eq_decide_div_mod_eq]
  rfl

/-- Subtracting a bit that is set clears that bit and no other. -/
theorem testBit_sub_two_pow (v i j : Nat) (h : v.testBit i = true) : (v - 2 ^ i).testBit j = (v.testBit j && decide (j ≠ i)) := by
  obtain ⟨x, rfl⟩ := Nat.exists_eq_add_of_le (Nat.ge_two_pow_of_testBit h)
  have hx : x.testBit i = false := by simpa [Nat.testBit_two_pow_add_eq] using h
  rw [Nat.add_sub_cancel_left]
  rcases Nat.lt_trichotomy j i with hj | rfl | hj
  · simp [Nat.testBit_two_pow_add_gt hj, Nat.ne_of_lt hj]
  · simp [hx]
  · obtain ⟨k, rfl⟩ := Nat.exists_eq_add_of_le' hj
    have hdiv : (2 ^ i + x) / 2 ^ (i + 1) = x / 2 ^ (i + 1) := by
      have hpow : 0 < 2 ^ i := Nat.two_pow_pos i
      rw [Nat.testBit_eq_decide_div_mod_eq, decide_eq_false_iff_not] at hx
      rw [Nat.pow_succ, ← Nat.div_div_eq_div_mul, ← Nat.div_div_eq_div_mul, Nat.add_div_left x hpow]
      omega
    rw [Nat.testBit_add, Nat.testBit_add, hdiv]
    simp
    omega

theorem setBit_keysRise (f : Field) (i : Nat) (b : Bool) (h : keysRise s.regs = true) : keysRise (setBit f i b s).regs = true :=
  setF_keysRise s f _ h

theorem getF_setBit_other (f g : Field) (i : Nat) (b : Bool) (h : fieldKey f ≠ fieldKey g) :
    getF (setBit f i b s) g = getF s g :=
  getF_setF_other s f g _ h

/-- Clearing bit `i` of a field clears it and keeps the field's other bits. -/
theorem bitF_setBit_false (f : Field) (i j : Nat) (hj : j < f.width) (h : keysRise s.regs = true) :
    bitF (setBit f i false s) f j = (bitF s f j && decide (j ≠ i)) := by
  rw [bitF_eq_testBit, bitF_eq_testBit, setBit, getF_setF_same s f _ h, Nat.testBit_mod_two_pow]
  cases hi : (getF s f).testBit i with
  | true =>
    have hbit : getF s f / 2 ^ i % 2 = 1 := by simpa [Nat.testBit_eq_decide_div_mod_eq] using hi
    simp [hj, hbit, testBit_sub_two_pow _ _ _ hi]
  | false =>
    have hbit : getF s f / 2 ^ i % 2 ≠ 1 := by simpa [Nat.testBit_eq_decide_div_mod_eq] using hi
    by_cases e : j = i
    · subst e; simp [hj, hbit, hi]
    · simp [hj, hbit, e]

end Sys2Proof.Machine
end

section
/-! SUPPORT. What a host access to BAR0 answers: the reads and writes of R4 to R7, R11 to R15 and R27 case by case, and the
commands of the opcode table that stand for them. -/

namespace Sys2Proof.Machine

open Sys2Proof

variable {s : State} {a : Nat}

/-! ### Fields of one register -/

theorem unitRows_lsb_nodup : ∀ u < 24, ∀ r ∈ unitRows u, (r.fields.map Field.lsb).Nodup := by decide +kernel

theorem unitRows_above {u : Nat} (h : 24 ≤ u) : unitRows u = [] := by
  obtain ⟨k, rfl⟩ := Nat.exists_eq_add_of_le h
  rw [Nat.add_comm]
  rfl

/-- The fields of one register have keys of their own. -/
theorem fieldsAt_keys_nodup (a : Nat) : ((fieldsAt a).map fieldKey).Nodup := by
  unfold fieldsAt
  split
  · rename_i r hr
    have hmem : r ∈ unitRows (unitOfAddr a) := List.mem_of_find?_eq_some hr
    have hu : unitOfAddr a < 24 := by
      by_contra hu
      rw [unitRows_above (Nat.le_of_not_lt hu)] at hmem
      cases hmem
    have hkey : (r.fields.map (fun f => fieldAt f a)).map fieldKey = (r.fields.map Field.lsb).map (a * 32 + ·) := by
      simp [fieldKey, fieldAt, Function.comp_def]
    rw [hkey]
    exact (unitRows_lsb_nodup _ hu r hmem).map fun _ _ e => Nat.add_left_cancel e
  · exact List.nodup_nil

/-! ### Accesses that only count -/

theorem badAccess_counted (a w : Nat) (wr : Bool) (h : keysRise s.regs = true) :
    Counted F.HOST.BAD_ACCESS_COUNT s (badAccess a w wr s) :=
  counted_emit_bumpF s _ _ _ _ _ rfl h

theorem absentAccess_counted (a : Nat) (wr : Bool) (h : keysRise s.regs = true) :
    Counted F.DEV.ABSENT_ACCESS_COUNT s (absentAccess a wr s) :=
  counted_emit_bumpF s _ _ _ _ _ rfl h

theorem gatedAccess_counted (a : Nat) (wr : Bool) (h : keysRise s.regs = true) :
    Counted F.DEV.GATED_ACCESS_COUNT s (gatedAccess a wr s) :=
  counted_emit_bumpF s _ _ _ _ _ rfl h

theorem dropTk_counted (a v : Nat) (h : keysRise s.regs = true) : Counted F.HOST.BAD_ACCESS_COUNT s (dropTk a v s) :=
  counted_emit_bumpF s _ _ _ _ _ rfl h

/-! ### Which accesses are disallowed -/

/-- An aligned 32-bit access to the unit windows is allowed. -/
theorem accessBad_unit (ha : a < 0x1800000) (h4 : a % 4 = 0) (wr : Bool) : accessBad a 4 wr = false := by
  simp [accessBad, ha, h4]

/-- An aligned read of 4 or 16 bytes from the two windows above the units is allowed. -/
theorem accessBad_window_read {w : Nat} (ha : 0x2000000 ≤ a) (hw : w = 4 ∨ w = 16) (hm : a % w = 0) :
    accessBad a w false = false := by
  have h1 : ¬ a < 0x1800000 := by omega
  have h2 : ¬ a < 0x2000000 := by omega
  rcases hw with rfl | rfl <;> simp [accessBad, h1, h2, hm]

theorem present_of_unitGated {u : Nat} (h : unitGated s u = true) : present s u = true := by
  unfold unitGated at h
  exact (Bool.and_eq_true_iff.1 h).1

/-! ### A read of one word -/

theorem hostRead_absent (ha : a < 0x1800000) (h4 : a % 4 = 0) (hp : present s (unitOfAddr a) = false) :
    hostRead a s = (0, withReadData 0 (absentAccess a false s)) := by
  have h1 : ¬ 0x3000000 ≤ a := by omega
  have h2 : ¬ 0x2000000 ≤ a := by omega
  simp [hostRead, accessBad_unit ha h4, h1, h2, hp, withReadData]

theorem hostRead_gated (ha : a < 0x1800000) (h4 : a % 4 = 0) (hg : unitGated s (unitOfAddr a) = true) :
    hostRead a s = (if a % 0x100000 = 0 then regWord s a else 0,
      withReadData (if a % 0x100000 = 0 then regWord s a else 0) (gatedAccess a false s)) := by
  have h1 : ¬ 0x3000000 ≤ a := by omega
  have h2 : ¬ 0x2000000 ≤ a := by omega
  simp [hostRead, accessBad_unit ha h4, h1, h2, present_of_unitGated hg, hg, withReadData]

theorem hostRead_reached (ha : a < 0x1800000) (h4 : a % 4 = 0) (hp : present s (unitOfAddr a) = true)
    (hg : unitGated s (unitOfAddr a) = false) :
    hostRead a s = (readValue s a, withReadData (readValue s a) (readEffects a s)) := by
  have h1 : ¬ 0x3000000 ≤ a := by omega
  have h2 : ¬ 0x2000000 ≤ a := by omega
  simp [hostRead, accessBad_unit ha h4, h1, h2, hp, hg, withReadData]

theorem hostRead_pointWindow (h0 : 0x2000000 ≤ a) (h1 : a < 0x3000000) (h4 : a % 4 = 0) :
    hostRead a s = (pointWindowWord s a, withReadData (pointWindowWord s a) s) := by
  have h2 : ¬ 0x3000000 ≤ a := by omega
  simp [hostRead, accessBad_window_read h0 (.inl rfl) h4, h0, h2, withReadData]

/-- Word `j` of point `i` in the point window; what HOST last returned does not matter. -/
theorem pointWindowWord_eq (s : State) (v i j : Nat) (hj : j < 4) :
    pointWindowWord (withReadData v s) (0x2000000 + 16 * i + 4 * j) = (pointWords (windowPoint s i)).getD j 0 := by
  have hi : (0x2000000 + 16 * i + 4 * j - 0x2000000) / 16 = i := by omega
  have hw : (0x2000000 + 16 * i + 4 * j) % 16 / 4 = j := by omega
  rw [pointWindowWord, hi, hw]
  rfl

/-- The value of a read of a whole point: its four words at once (R12). -/
def pointValue (s : State) (i : Nat) : Nat :=
  ((List.range 4).map (fun j => (pointWords (windowPoint s i)).getD j 0 * 2 ^ (32 * j))).sum

theorem sum_range_four (w : Nat → Nat) : ((List.range 4).map w).sum = 0 + w 0 + w 1 + w 2 + w 3 := by
  simp [List.range_succ, Nat.add_assoc]

theorem hostReadWide_point (s : State) {i : Nat} (hi : i < 0x100000) :
    hostReadWide (0x2000000 + 16 * i) 16 s = withReadData (pointValue s i) s := by
  have hread : ∀ v j, j < 4 → hostRead (0x2000000 + 16 * i + 4 * j) (withReadData v s) =
      ((pointWords (windowPoint s i)).getD j 0, withReadData ((pointWords (windowPoint s i)).getD j 0) s) := by
    intro v j hj
    rw [hostRead_pointWindow (by omega) (by omega) (by omega), pointWindowWord_eq s v i j hj, withReadData_withReadData]
  have hfirst := hread s.host.readData 0 (by omega)
  rw [show withReadData s.host.readData s = s from rfl] at hfirst
  have hfour : List.range (16 / 4) = [0, 1, 2, 3] := rfl
  simp only [hostReadWide, hfour, List.foldl_cons, List.foldl_nil, hfirst, hread _ 1 (by omega), hread _ 2 (by omega),
    hread _ 3 (by omega)]
  rw [pointValue, sum_range_four]
  rfl

/-! ### The effects of a read -/

/-- A read resets the register's RC fields, after a latched HI word and the quality of a time base have been set. -/
theorem readEffects_eq (a : Nat) (h : keysRise s.regs = true) :
    ∃ u, readEffects a s = resetFields ((fieldsAt a).filter (fun f => f.access == .rc)) u ∧ keysRise u.regs = true ∧
      (∀ l, latchedBy a = some l → u.host.latched = tablePut none s.host.latched l (some (showWord s l))) := by
  unfold readEffects
  extract_lets _ s1 _ s2
  have h1 : keysRise s1.regs = true := by
    simp only [s1]
    split <;> exact h
  have h2 : keysRise s2.regs = true := by
    simp only [s2]
    split
    · exact setF_keysRise s1 _ _ h1
    · exact h1
  refine ⟨s2, rfl, h2, fun l hl => ?_⟩
  have hhost : s2.host = s1.host := by
    simp only [s2]
    split
    · exact setF_host s1 _ _
    · exact Eq.refl s1.host
  rw [hhost]
  simp only [s1, hl]

theorem getF_readEffects_rc (h : keysRise s.regs = true) {f : Field} (hf : f ∈ fieldsAt a) (hrc : f.access = .rc) :
    getF (readEffects a s) f = f.reset % 2 ^ f.width := by
  obtain ⟨u, hu, hregs, -⟩ := readEffects_eq a h
  rw [hu]
  exact getF_resetFields_mem u _ f hregs ((fieldsAt_keys_nodup a).sublist (List.filter_sublist.map _))
    (List.mem_filter.2 ⟨hf, by simp [hrc]⟩)

theorem latched_readEffects (h : keysRise s.regs = true) (hl : keysRise s.host.latched = true) {l : Nat}
    (ha : latchedBy a = some l) : tableGet none (readEffects a s).host.latched l = some (showWord s l) := by
  obtain ⟨u, hu, -, hlatched⟩ := readEffects_eq a h
  rw [hu, resetFields_host, hlatched l ha, tableGet_put_same _ _ _ _ hl]

/-- A read of a register that a unit answers changes registers and HOST at most. -/
theorem onlyParts_readEffects (v : Nat) : OnlyParts [.regs, .host] s (withReadData v (readEffects a s)) :=
  onlyParts_trans (onlyParts_of_moves s _ (readEffects_moves a s) rfl)
    (onlyParts_mono (onlyParts_withReadData (readEffects a s) v) (by simp))

end Sys2Proof.Machine
end

section
/-! SUPPORT. What a host write to BAR0 does (R6, R7, R13, R391), by the access codes of the fields it meets. -/

namespace Sys2Proof.Machine

open Sys2Proof

variable {s : State} {a : Nat}

/-! ### Bits written as 1 -/

/-- A one-bit field is clear once its bit has been cleared. -/
theorem flag_setBit_false (f : Field) (hf : f.width = 1) (h : keysRise s.regs = true) : flag (setBit f 0 false s) f = false := by
  have hget : getF (setBit f 0 false s) f = (if getF s f % 2 = 1 then getF s f - 1 else getF s f) % 2 := by
    rw [setBit, getF_setF_same s f _ h, hf]
    rcases Nat.mod_two_eq_zero_or_one (getF s f) with e | e <;> simp [e]
  simp only [flag, hget, bne_eq_false_iff_eq]
  split <;> omega

/-- The bits of a field that a written value has as 1 are cleared. -/
def clearOnes (f : Field) (x : Nat) (l : List Nat) (s : State) : State :=
  l.foldl (fun t i => if bitOf x i = 1 then setBit f i false t else t) s

theorem clearOnes_keysRise (f : Field) (x : Nat) (l : List Nat) (h : keysRise s.regs = true) :
    keysRise (clearOnes f x l s).regs = true := by
  induction l generalizing s with
  | nil => exact h
  | cons i l ih =>
    refine ih ?_
    dsimp only
    split
    · exact setBit_keysRise s f i false h
    · exact h

theorem getF_clearOnes_other (f g : Field) (x : Nat) (l : List Nat) (h : fieldKey f ≠ fieldKey g) :
    getF (clearOnes f x l s) g = getF s g := by
  induction l generalizing s with
  | nil => rfl
  | cons i l ih =>
    refine ih.trans ?_
    dsimp only
    split
    · exact getF_setBit_other s f g i false h
    · rfl

theorem clearOnes_moves (f : Field) (x : Nat) (l : List Nat) : Moves 0x2 s (clearOnes f x l s) :=
  moves_foldl moves_refl fun _ _ ht => moves_ite (moves_step (setBit_moves ..) rfl ht) ht

/-- A bit stands after the write if it stood before and was not written as 1. -/
theorem bitF_clearOnes (f : Field) (x j : Nat) (l : List Nat) (hj : j < f.width) (h : keysRise s.regs = true) :
    bitF (clearOnes f x l s) f j = (bitF s f j && !(decide (j ∈ l) && decide (bitOf x j = 1))) := by
  induction l generalizing s with
  | nil => simp [clearOnes]
  | cons i l ih =>
    by_cases hi : bitOf x i = 1
    · have hstep : clearOnes f x (i :: l) s = clearOnes f x l (setBit f i false s) := by simp [clearOnes, hi]
      rw [hstep, ih (setBit_keysRise s f i false h), bitF_setBit_false s f i j hj h]
      by_cases e : j = i
      · subst e; simp [hi]
      · simp [e]
    · have hstep : clearOnes f x (i :: l) s = clearOnes f x l s := by simp [clearOnes, hi]
      rw [hstep, ih h]
      by_cases e : j = i
      · subst e; simp [hi]
      · simp [e]

/-! ### Writes of 1 to W1C fields -/

/-- A write of 0 to a W1C field leaves it. -/
theorem writeOnes_zero (f : Field) (v : Nat) (h : v / 2 ^ f.lsb % 2 ^ f.width = 0) : writeOnes f v s = s := by
  simp [writeOnes, h]

/-- Neither the ring causes nor NEW_DATA of a buffer, whose clearing does more. -/
def plainOnes (f : Field) : Prop := f.addr ≠ 0x160000C ∧ (f.addr < 0x1110000 ∨ 0x1130000 ≤ f.addr)

theorem writeOnes_plain (f : Field) (v : Nat) (hf : plainOnes f) :
    writeOnes f v s = clearOnes f (v / 2 ^ f.lsb % 2 ^ f.width) (List.range f.width) s := by
  obtain ⟨hring, hcan⟩ := hf
  by_cases hx : v / 2 ^ f.lsb % 2 ^ f.width = 0
  · rw [writeOnes_zero f v hx, hx]
    exact (List.foldl_fixed' (fun i => by simp [bitOf]) _).symm
  · have hr : (f.addr = F.HOST.INT_CAUSE_RINGS.addr) = False := eq_false hring
    have hc : ¬ (0x1110000 ≤ f.addr ∧ f.addr < 0x1130000) := by omega
    simp [writeOnes, clearOnes, hx, hr, hc]

theorem writeOnes_plain_moves (f : Field) (v : Nat) (hf : plainOnes f) : Moves 0x2 s (writeOnes f v s) := by
  rw [writeOnes_plain f v hf]
  exact clearOnes_moves ..

theorem foldl_writeOnes_moves (l : List Field) (v : Nat) (hl : ∀ f ∈ l, plainOnes f) :
    Moves 0x2 s (l.foldl (fun t f => writeOnes f v t) s) := by
  induction l generalizing s with
  | nil => exact moves_refl
  | cons f l ih =>
    rw [List.forall_mem_cons] at hl
    exact moves_step (ih hl.2) rfl (writeOnes_plain_moves f v hl.1)

/-- A one-bit W1C field is cleared by a 1 and left by a 0. -/
theorem flag_writeOnes_same (f : Field) (v : Nat) (hf : plainOnes f) (hw : f.width = 1) (h : keysRise s.regs = true) :
    flag (writeOnes f v s) f = (flag s f && v / 2 ^ f.lsb % 2 == 0) := by
  rcases Nat.mod_two_eq_zero_or_one (v / 2 ^ f.lsb) with hx | hx
  · rw [writeOnes_zero f v (by simpa [hw] using hx)]
    simp [hx]
  · have hset : writeOnes f v s = setBit f 0 false s := by
      rw [writeOnes_plain f v hf]
      simp [hw, hx, clearOnes, bitOf, List.range_succ]
    rw [hset, flag_setBit_false f hw h]
    simp [hx]

theorem getF_writeOnes_other (f g : Field) (v : Nat) (hf : plainOnes f) (h : fieldKey f ≠ fieldKey g) :
    getF (writeOnes f v s) g = getF s g := by
  rw [writeOnes_plain f v hf]
  exact getF_clearOnes_other f g _ _ h

theorem writeOnes_plain_keysRise (f : Field) (v : Nat) (hf : plainOnes f) (h : keysRise s.regs = true) :
    keysRise (writeOnes f v s).regs = true := by
  rw [writeOnes_plain f v hf]
  exact clearOnes_keysRise _ _ _ h

/-- A one-bit W1C field after a write to several W1C fields, of which no other has its key. -/
theorem flag_foldl_writeOnes (l : List Field) (f : Field) (v : Nat) (hw : f.width = 1) (hl : ∀ g ∈ l, plainOnes g)
    (hk : ∀ g ∈ l, g ≠ f → fieldKey g ≠ fieldKey f) (h : keysRise s.regs = true) :
    flag (l.foldl (fun t g => writeOnes g v t) s) f = (flag s f && (!decide (f ∈ l) || v / 2 ^ f.lsb % 2 == 0)) := by
  induction l generalizing s with
  | nil => simp
  | cons g l ih =>
    rw [List.forall_mem_cons] at hl hk
    rw [List.foldl_cons, ih hl.2 hk.2 (writeOnes_plain_keysRise g v hl.1 h)]
    by_cases e : g = f
    · subst e
      rw [flag_writeOnes_same g v hl.1 hw h]
      cases v / 2 ^ g.lsb % 2 == 0 <;> simp
    · have hflag : flag (writeOnes g v s) f = flag s f := by
        rw [flag, getF_writeOnes_other g f v hl.1 (hk.1 e)]
        rfl
      simp [hflag, Ne.symm e]

/-! ### A write to a register -/

theorem hostWrite_reached (v : Nat) (ha : a < 0x1800000) (h4 : a % 4 = 0) (hp : present s (unitOfAddr a) = true)
    (hg : unitGated s (unitOfAddr a) = false) : hostWrite a v s = writeFields a v s := by
  simp [hostWrite, accessBad_unit ha h4, hp, hg]

/-- A write to a register with TK fields, and with none that takes a direct write, is dropped. -/
theorem writeFields_tk (v : Nat) (htk : (fieldsAt a).any (fun f => f.access == .tk) = true)
    (hno : ∀ f ∈ fieldsAt a, f.access ≠ .rw ∧ f.access ≠ .w1c) : writeFields a v s = dropTk a v s := by
  rw [writeFields, if_pos htk]
  clear htk
  generalize dropTk a v s = t
  generalize fieldsAt a = fs at hno ⊢
  induction fs generalizing t with
  | nil => rfl
  | cons f l ih =>
    rw [List.forall_mem_cons] at hno
    obtain ⟨⟨hrw, hw1c⟩, hl⟩ := hno
    rw [List.foldl_cons]
    cases hacc : f.access with
    | rw => exact absurd hacc hrw
    | w1c => exact absurd hacc hw1c
    | _ => exact ih t hl

/-- A write to a register without RW and TK fields writes its W1C fields. -/
theorem writeFields_w1c (v : Nat) (hno : ∀ f ∈ fieldsAt a, f.access ≠ .rw ∧ f.access ≠ .tk) :
    writeFields a v s = ((fieldsAt a).filter (fun f => f.access == .w1c)).foldl (fun t f => writeOnes f v t) s := by
  have htk : ¬ (fieldsAt a).any (fun f => f.access == .tk) = true := by
    simpa using fun f hf => (hno f hf).2
  rw [writeFields, if_neg htk]
  clear htk
  generalize fieldsAt a = fs at hno ⊢
  induction fs generalizing s with
  | nil => rfl
  | cons f l ih =>
    rw [List.forall_mem_cons] at hno
    obtain ⟨⟨hrw, -⟩, hl⟩ := hno
    rw [List.foldl_cons, List.filter_cons]
    cases hacc : f.access with
    | rw => exact absurd hacc hrw
    | _ => exact ih hl

/-- A write to a register that is one RW field. -/
theorem writeFields_rw (v : Nat) {f : Field} (hf : fieldsAt a = [f]) (hrw : f.access = .rw) :
    writeFields a v s = writeField f v s := by
  simp [writeFields, hf, hrw]

/-- Outside HOST's rings, an RW field other than TICK_DIVIDER takes the bits written. -/
theorem writeField_plain (f : Field) (v : Nat) (hdiv : f ≠ F.HOST.TICK_DIVIDER) (hring : f.addr < 0x1600100) :
    writeField f v s = setF f (v / 2 ^ f.lsb % 2 ^ f.width) s := by
  have hr : ¬ 0x1600100 ≤ f.addr := by omega
  simp [writeField, hdiv, hr]

/-! ### The ring causes and NEW_DATA -/

theorem fieldsAt_intCause : fieldsAt 0x160000C = [F.HOST.INT_CAUSE_HIGH, F.HOST.INT_CAUSE_CAN_HP, F.HOST.INT_CAUSE_RINGS] := by
  decide +kernel

@[simp] theorem moderationAnew_regs (rs : List Nat) : (moderationAnew rs s).regs = s.regs := rfl

/-- A write to the ring causes clears those written as 1, and moderation counts anew for their rings. -/
theorem bitF_writeOnes_rings (v r : Nat) (hv : v < 2 ^ 16) (hr : r < 16) (h : keysRise s.regs = true) :
    bitF (writeOnes F.HOST.INT_CAUSE_RINGS v s) F.HOST.INT_CAUSE_RINGS r =
      (bitF s F.HOST.INT_CAUSE_RINGS r && v / 2 ^ r % 2 == 0) := by
  have hx : v / 2 ^ F.HOST.INT_CAUSE_RINGS.lsb % 2 ^ F.HOST.INT_CAUSE_RINGS.width = v := by
    simpa [F.HOST.INT_CAUSE_RINGS] using Nat.mod_eq_of_lt hv
  by_cases h0 : v = 0
  · rw [writeOnes_zero _ v (hx.trans h0), h0]
    simp
  · have hwrite : writeOnes F.HOST.INT_CAUSE_RINGS v s =
        moderationAnew ((List.range 16).filter (fun r => bitOf v r == 1)) (clearOnes F.HOST.INT_CAUSE_RINGS v (List.range 16) s) := by
      rw [writeOnes, hx, if_neg h0]
      rfl
    have hbit : bitF (writeOnes F.HOST.INT_CAUSE_RINGS v s) F.HOST.INT_CAUSE_RINGS r =
        bitF (clearOnes F.HOST.INT_CAUSE_RINGS v (List.range 16) s) F.HOST.INT_CAUSE_RINGS r := by
      rw [hwrite, bitF, getF_congr _ _ _ (moderationAnew_regs _)]
      rfl
    rw [hbit, bitF_clearOnes _ _ _ _ hr h]
    rcases Nat.mod_two_eq_zero_or_one (v / 2 ^ r) with e | e <;> simp [hr, bitOf, e]

/-- A write that reaches the ring causes alone. -/
theorem writeFields_intCause (v : Nat) (hv : v < 2 ^ 16) :
    writeFields 0x160000C v s = writeOnes F.HOST.INT_CAUSE_RINGS v s := by
  have hhigh : v / 2 ^ F.HOST.INT_CAUSE_HIGH.lsb % 2 ^ F.HOST.INT_CAUSE_HIGH.width = 0 := by
    have hdiv : v / 2 ^ 20 = 0 := Nat.div_eq_of_lt (by omega)
    rw [show F.HOST.INT_CAUSE_HIGH.lsb = 20 from rfl, hdiv, Nat.zero_mod]
  have hno : ∀ f ∈ fieldsAt 0x160000C, f.access ≠ .rw ∧ f.access ≠ .tk := by rw [fieldsAt_intCause]; decide
  have hfields : (fieldsAt 0x160000C).filter (fun f => f.access == .w1c) = [F.HOST.INT_CAUSE_HIGH, F.HOST.INT_CAUSE_RINGS] := by
    rw [fieldsAt_intCause]; rfl
  rw [writeFields_w1c v hno, hfields, List.foldl_cons, List.foldl_cons, List.foldl_nil, writeOnes_zero _ v hhigh]

/-- NEW_DATA of a buffer and the cause of its port lie in different registers. -/
theorem newData_key_ne (c b : Nat) :
    fieldKey F.HOST.INT_CAUSE_CAN_HP ≠ fieldKey (F.CAN.BUF_STATUS_NEW_DATA c b) := by
  simp only [fieldKey, F.HOST.INT_CAUSE_CAN_HP, F.CAN.BUF_STATUS_NEW_DATA]
  omega

theorem flag_clearNewData (c b : Nat) (h : keysRise s.regs = true) :
    flag (clearNewData c b s) (F.CAN.BUF_STATUS_NEW_DATA c b) = false := by
  have hset : getF (setF (F.CAN.BUF_STATUS_NEW_DATA c b) 0 s) (F.CAN.BUF_STATUS_NEW_DATA c b) = 0 := by
    rw [getF_setF_same s _ _ h, Nat.zero_mod]
  unfold clearNewData flag
  split
  · rw [getF_setBit_other _ _ _ _ _ (newData_key_ne c b), hset]
    rfl
  · rw [hset]
    rfl

/-- Clearing NEW_DATA of the high-priority buffer clears the port's cause (R392). -/
theorem bitF_clearNewData_highPriority (c : Nat) (hc : c < 4) (h : keysRise s.regs = true) :
    bitF (clearNewData c 128 s) F.HOST.INT_CAUSE_CAN_HP c = false := by
  have hclear : clearNewData c 128 s = setBit F.HOST.INT_CAUSE_CAN_HP c false (setF (F.CAN.BUF_STATUS_NEW_DATA c 128) 0 s) := rfl
  rw [hclear, bitF_setBit_false _ _ _ _ hc (setF_keysRise s _ _ h)]
  simp

theorem onlyFields_clearNewData (c b : Nat) :
    OnlyFields [F.CAN.BUF_STATUS_NEW_DATA c b, F.HOST.INT_CAUSE_CAN_HP] s (clearNewData c b s) := by
  intro g hg
  have hnew : fieldKey (F.CAN.BUF_STATUS_NEW_DATA c b) ≠ fieldKey g := hg _ (by simp)
  have hcause : fieldKey F.HOST.INT_CAUSE_CAN_HP ≠ fieldKey g := hg _ (by simp)
  unfold clearNewData
  split
  · rw [getF_setBit_other _ _ _ _ _ hcause, getF_setF_other _ _ _ _ hnew]
  · exact getF_setF_other _ _ _ _ hnew

end Sys2Proof.Machine
end

section
/-! SUPPORT. The host accesses of the opcode table: what each answers while HOST is up (R4 to R7, R11 to R15, R27, R391). -/

namespace Sys2Proof.Machine

open Sys2Proof

variable {s : State} {a : Nat}

/-! ### Accesses that reach no unit -/

theorem exec_badAccess (w : Nat) (wr : Bool) (hup : hostUp s = true) (ha : a < 0x4000000) :
    Machine.exec (.badAccess a w wr) s = .next
      (if accessBad a w wr then (if wr then badAccess a w wr s else withReadData 0 (badAccess a w wr s))
        else if wr then s else hostReadWide a w s) := by
  show execBadAccess a w wr s = _
  rw [execBadAccess, if_neg (Nat.not_le.2 ha), hup]
  rfl

theorem exec_absentAccess (wr : Bool) (hup : hostUp s = true) (ha : a < 0x1800000) (h4 : a % 4 = 0) :
    Machine.exec (.absentAccess a wr) s = .next
      (if present s (unitOfAddr a) = false then (if wr then absentAccess a true s else (hostRead a s).2) else s) := by
  have hin : ¬ 0x4000000 ≤ a := by omega
  show execAbsentAccess a wr s = _
  simp [execAbsentAccess, hin, hup, accessBad_unit ha h4, ha]

theorem exec_gatedAccess (wr : Bool) (hup : hostUp s = true) (ha : a < 0x1800000) (h4 : a % 4 = 0) :
    Machine.exec (.gatedAccess a wr) s = .next
      (if unitGated s (unitOfAddr a) then (if wr then gatedAccess a true s else (hostRead a s).2) else s) := by
  have hin : ¬ 0x4000000 ≤ a := by omega
  show execGatedAccess a wr s = _
  simp [execGatedAccess, hin, hup, accessBad_unit ha h4, ha]

/-- A disallowed access is counted and recorded; a write that is allowed is no bad access, and a disallowed read returns 0. -/
theorem badAccess_cases (h : keysRise s.regs = true) (w : Nat) (hup : hostUp s = true) (ha : a < 0x4000000) :
    (accessBad a w true = true →
      ∃ t, Machine.exec (.badAccess a w true) s = .next t ∧ Counted F.HOST.BAD_ACCESS_COUNT s t) ∧
    (accessBad a w true = false → Machine.exec (.badAccess a w true) s = .next s) ∧
    (accessBad a w false = true →
      ∃ t, Machine.exec (.badAccess a w false) s = .next t ∧ CountedRead F.HOST.BAD_ACCESS_COUNT 0 s t) := by
  refine ⟨fun hbad => ⟨_, ?_, badAccess_counted a w true h⟩, fun hok => ?_,
    fun hbad => ⟨_, ?_, counted_withReadData 0 (badAccess_counted a w false h)⟩⟩
  · rw [exec_badAccess w true hup ha, if_pos hbad, if_pos rfl]
  · rw [exec_badAccess w true hup ha, hok]
    rfl
  · rw [exec_badAccess w false hup ha, if_pos hbad]
    rfl

/-- A whole point is read at once (R12). -/
theorem pointRead (hup : hostUp s = true) (i : Nat) (ha : a = 0x2000000 + 16 * i) (hi : i < 0x100000) :
    ∃ t, Machine.exec (.badAccess a 16 false) s = .next t ∧ t.host.readData = pointValue s i ∧ OnlyParts [.host] s t := by
  have hok : accessBad a 16 false = false := accessBad_window_read (by omega) (.inr rfl) (by omega)
  refine ⟨withReadData (pointValue s i) s, ?_, rfl, onlyParts_withReadData s _⟩
  rw [exec_badAccess 16 false hup (by omega), hok, ha, hostReadWide_point s hi]
  rfl

/-- An access to an absent unit is counted and recorded, and its read returns 0. -/
theorem absentAccess_cases (h : keysRise s.regs = true) (hup : hostUp s = true) (ha : a < 0x1800000) (h4 : a % 4 = 0) :
    (present s (unitOfAddr a) = false →
      (∃ t, Machine.exec (.absentAccess a true) s = .next t ∧ Counted F.DEV.ABSENT_ACCESS_COUNT s t) ∧
      ∃ t, Machine.exec (.absentAccess a false) s = .next t ∧ CountedRead F.DEV.ABSENT_ACCESS_COUNT 0 s t) ∧
    (present s (unitOfAddr a) = true → ∀ wr, Machine.exec (.absentAccess a wr) s = .next s) := by
  refine ⟨fun hp => ⟨⟨_, ?_, absentAccess_counted a true h⟩, ⟨_, ?_, counted_withReadData 0 (absentAccess_counted a false h)⟩⟩,
    fun hp wr => ?_⟩
  · rw [exec_absentAccess true hup ha h4, if_pos hp, if_pos rfl]
  · rw [exec_absentAccess false hup ha h4, if_pos hp, hostRead_absent ha h4 hp]
    rfl
  · rw [exec_absentAccess wr hup ha h4, hp]
    rfl

/-- An access to a gated unit is counted and recorded, and its read returns 0 but for the unit's first word (R15). -/
theorem gatedAccess_cases (h : keysRise s.regs = true) (hup : hostUp s = true) (ha : a < 0x1800000) (h4 : a % 4 = 0) :
    (unitGated s (unitOfAddr a) = true →
      (∃ t, Machine.exec (.gatedAccess a true) s = .next t ∧ Counted F.DEV.GATED_ACCESS_COUNT s t) ∧
      ∃ t, Machine.exec (.gatedAccess a false) s = .next t ∧
        CountedRead F.DEV.GATED_ACCESS_COUNT (if a % 0x100000 = 0 then regWord s a else 0) s t) ∧
    (unitGated s (unitOfAddr a) = false → ∀ wr, Machine.exec (.gatedAccess a wr) s = .next s) := by
  refine ⟨fun hg => ⟨⟨_, ?_, gatedAccess_counted a true h⟩, ⟨_, ?_, counted_withReadData _ (gatedAccess_counted a false h)⟩⟩,
    fun hg wr => ?_⟩
  · rw [exec_gatedAccess true hup ha h4, if_pos hg, if_pos rfl]
  · rw [exec_gatedAccess false hup ha h4, if_pos hg, hostRead_gated ha h4 hg]
    rfl
  · rw [exec_gatedAccess wr hup ha h4, hg]
    rfl

/-! ### The Curtain's cycle -/

/-- A register write of the Curtain's cycle waits for the publication (R13). -/
theorem registerWrite_held (hcur : inCurtainCycle s = true) (ha : a < 0x4000000) (v : Nat) (slow : Bool) :
    ∃ t, Machine.exec (.registerWrite a v slow) s = .next t ∧
      t.host.afterCurtain = s.host.afterCurtain ++ [{ addr := a, value := v, slow := slow }] ∧ OnlyParts [.host] s t := by
  refine ⟨{ s with host := { s.host with afterCurtain := s.host.afterCurtain ++ [{ addr := a, value := v, slow := slow }] } },
    ?_, rfl, onlyParts_host s _⟩
  show execRegisterWrite a v slow s = _
  rw [execRegisterWrite, if_neg (Nat.not_le.2 ha), writeOrHold, if_pos hcur]

theorem writeOrHold_now (w : HeldWrite) (act : State → State) (hcur : inCurtainCycle s = false) :
    writeOrHold w act s = act s := by
  simp [writeOrHold, hcur]

/-! ### Accesses that a unit answers -/

/-- An aligned 32-bit access at an address reaches a unit that is fitted, powered and clocked. -/
structure Reached (s : State) (a : Nat) : Prop where
  unitWindow : a < 0x1800000
  aligned : a % 4 = 0
  fitted : present s (unitOfAddr a) = true
  awake : unitGated s (unitOfAddr a) = false

theorem Reached.insideBar0 (r : Reached s a) : ¬ 0x4000000 ≤ a := by
  have := r.unitWindow
  omega

theorem Reached.hasAccess (r : Reached s a) (hup : hostUp s = true) {x : Access}
    (hx : (fieldsAt a).any (fun f => f.access == x) = true) : hasAccess s a x = true := by
  simp only [Machine.hasAccess, hup, r.fitted, r.awake, hx]
  rfl

theorem Reached.hostRead (r : Reached s a) : hostRead a s = (readValue s a, withReadData (readValue s a) (readEffects a s)) :=
  hostRead_reached r.unitWindow r.aligned r.fitted r.awake

theorem Reached.hostWrite (r : Reached s a) (v : Nat) : hostWrite a v s = writeFields a v s :=
  hostWrite_reached v r.unitWindow r.aligned r.fitted r.awake

/-- A direct write to a TK register is dropped, counted and recorded (R7). -/
theorem tkWriteDropped_counts (h : keysRise s.regs = true) (r : Reached s a) (hup : hostUp s = true) (v : Nat)
    (hcur : inCurtainCycle s = false) (htk : (fieldsAt a).any (fun f => f.access == .tk) = true)
    (hno : ∀ f ∈ fieldsAt a, f.access ≠ .rw ∧ f.access ≠ .w1c) :
    ∃ t, Machine.exec (.tkWriteDropped a v) s = .next t ∧ Counted F.HOST.BAD_ACCESS_COUNT s t := by
  refine ⟨_, ?_, dropTk_counted a (lo32 v) h⟩
  show execTkWriteDropped a v s = _
  rw [execTkWriteDropped, if_neg r.insideBar0, if_pos (r.hasAccess hup htk), writeOrHold_now _ _ hcur,
    writeFields_tk (lo32 v) htk hno]

/-- A read returns the register's word and resets its RC fields (R6). -/
theorem rcRead_resets (h : keysRise s.regs = true) (r : Reached s a) (hup : hostUp s = true)
    (hrc : (fieldsAt a).any (fun f => f.access == .rc) = true) :
    ∃ t, Machine.exec (.rcRead a) s = .next t ∧ t.host.readData = readValue s a ∧
      (∀ f ∈ fieldsAt a, f.access = .rc → getF t f = f.reset % 2 ^ f.width) ∧ OnlyParts [.regs, .host] s t := by
  refine ⟨withReadData (readValue s a) (readEffects a s), ?_, rfl, fun f hf hacc => getF_readEffects_rc h hf hacc,
    onlyParts_readEffects _⟩
  show execRcRead a s = _
  rw [execRcRead, if_neg r.insideBar0, if_pos (r.hasAccess hup hrc), r.hostRead]

/-- A read of a LO word latches its HI word (R27). -/
theorem latchedLoRead_latches (h : keysRise s.regs = true) (r : Reached s a) (hup : hostUp s = true) {l : Nat}
    (hl : latchedBy a = some l) (hk : keysRise s.host.latched = true) :
    ∃ t, Machine.exec (.latchedLoRead a) s = .next t ∧ tableGet none t.host.latched l = some (showWord s l) ∧
      t.host.readData = readValue s a ∧ OnlyParts [.regs, .host] s t := by
  refine ⟨withReadData (readValue s a) (readEffects a s), ?_, latched_readEffects h hk hl, rfl, onlyParts_readEffects _⟩
  show execLatchedLoRead a s = _
  rw [execLatchedLoRead, if_neg r.insideBar0, hup, hl, r.hostRead]
  rfl

/-- A one-bit W1C field is cleared by a 1 written to it and left by a 0 (R6). -/
theorem w1cWrite_clears (h : keysRise s.regs = true) (r : Reached s a) (hup : hostUp s = true) {v : Nat} {f : Field}
    (hf : f ∈ fieldsAt a) (hacc : f.access = .w1c) (hw : f.width = 1) (hplain : plainOnes f) (haddr : f.addr = a)
    (hothers : ∀ g ∈ fieldsAt a, g ≠ f → fieldKey g ≠ fieldKey f ∧ g.access ≠ .rw ∧ g.access ≠ .tk ∧ g.addr = a)
    (hv : v < 2 ^ 32) (hcur : inCurtainCycle s = false) :
    ∃ t, Machine.exec (.w1cWrite a v) s = .next t ∧ OnlyParts [.regs] s t ∧
      flag t f = (flag s f && v / 2 ^ f.lsb % 2 == 0) := by
  have hno : ∀ g ∈ fieldsAt a, g.access ≠ .rw ∧ g.access ≠ .tk := by
    intro g hg
    by_cases e : g = f
    · simp [e, hacc]
    · exact ⟨(hothers g hg e).2.1, (hothers g hg e).2.2.1⟩
  have hplains : ∀ g ∈ (fieldsAt a).filter (fun f => f.access == .w1c), plainOnes g := by
    intro g hg
    by_cases e : g = f
    · exact e ▸ hplain
    · have hga := (hothers g (List.mem_filter.1 hg).1 e).2.2.2
      rw [plainOnes, hga, ← haddr]
      exact hplain
  have hkeys : ∀ g ∈ (fieldsAt a).filter (fun f => f.access == .w1c), g ≠ f → fieldKey g ≠ fieldKey f :=
    fun g hg e => (hothers g (List.mem_filter.1 hg).1 e).1
  have hmem : f ∈ (fieldsAt a).filter (fun f => f.access == .w1c) := List.mem_filter.2 ⟨hf, by simp [hacc]⟩
  refine ⟨((fieldsAt a).filter (fun f => f.access == .w1c)).foldl (fun t g => writeOnes g v t) s, ?_, ?_, ?_⟩
  · show execW1cWrite a v s = _
    rw [execW1cWrite, if_neg r.insideBar0, if_pos (r.hasAccess hup (List.any_eq_true.2 ⟨f, hf, by simp [hacc]⟩)),
      writeOrHold_now _ _ hcur, r.hostWrite, writeFields_w1c _ hno, show lo32 v = v from Nat.mod_eq_of_lt hv]
  · exact onlyParts_of_moves s _ (foldl_writeOnes_moves _ v hplains) rfl
  · rw [flag_foldl_writeOnes _ f v hw hplains hkeys h]
    simp [hmem]

/-- A plain RW field takes the bits written (R6). -/
theorem registerWrite_rw (h : keysRise s.regs = true) (r : Reached s a) (hup : hostUp s = true) {v : Nat} {f : Field}
    (slow : Bool) (hcur : inCurtainCycle s = false) (hf : fieldsAt a = [f]) (hacc : f.access = .rw) (haddr : f.addr = a)
    (hdiv : f ≠ F.HOST.TICK_DIVIDER) (hring : a < 0x1600100) (hv : v < 2 ^ 32) :
    ∃ t, Machine.exec (.registerWrite a v slow) s = .next t ∧ getF t f = v / 2 ^ f.lsb % 2 ^ f.width ∧ OnlyParts [.regs] s t ∧
      OnlyFields [f] s t := by
  have hcmd : isCmd a = false := by simp [isCmd, hf, hacc]
  refine ⟨setF f (v / 2 ^ f.lsb % 2 ^ f.width) s, ?_, ?_, onlyParts_of_moves s _ setF_moves rfl, fun g hg => ?_⟩
  · show execRegisterWrite a v slow s = _
    rw [execRegisterWrite, if_neg r.insideBar0, writeOrHold_now _ _ hcur, registerWrite]
    simp only [hup, hcmd, Bool.not_true, Bool.false_and, Bool.false_eq_true, if_false, r.hostWrite]
    rw [writeFields_rw _ hf hacc, writeField_plain f _ hdiv (haddr ▸ hring), show lo32 v = v from Nat.mod_eq_of_lt hv]
  · rw [getF_setF_same s f _ h, Nat.mod_mod]
  · exact getF_setF_other s f g _ (hg f (List.mem_singleton_self f))

/-- A write to CMD runs the unit's command under the BAR session (R8). -/
theorem registerWrite_cmd (r : Reached s a) (hup : hostUp s = true) (v : Nat) (slow : Bool) {x : State × Reply}
    (hcur : inCurtainCycle s = false) (hcmd : isCmd a = true)
    (hx : unitCommand (unitOfAddr a) (v % 256) { transport := .bar, session := none, rivals := [] }
      (cmdArg s a 0) (cmdArg s a 1) (cmdArg s a 2) slow s = some x) :
    Machine.exec (.registerWrite a v slow) s = .next x.1 := by
  show execRegisterWrite a v slow s = _
  rw [execRegisterWrite, if_neg r.insideBar0, writeOrHold_now _ _ hcur, registerWrite]
  simp only [hup, hcmd, r.fitted, r.awake, Bool.not_true, Bool.not_false, Bool.and_self, Bool.false_eq_true, if_false, if_true,
    writeCmd, hx]

/-! ### The ring causes and NEW_DATA -/

/-- A 1 written to a ring's cause clears it and a 0 leaves it. -/
theorem w1cWrite_rings (h : keysRise s.regs = true) {v : Nat} (hup : hostUp s = true) (hp : present s 22 = true)
    (hg : unitGated s 22 = false) (hcur : inCurtainCycle s = false) (hv : v < 2 ^ 16) :
    ∃ t, Machine.exec (.w1cWrite 0x160000C v) s = .next t ∧ (∀ r, r < 16 →
      bitF t F.HOST.INT_CAUSE_RINGS r = (bitF s F.HOST.INT_CAUSE_RINGS r && v / 2 ^ r % 2 == 0)) ∧ OnlyParts [.regs, .host] s t := by
  have r : Reached s 0x160000C := ⟨by decide, by decide, hp, hg⟩
  refine ⟨writeOnes F.HOST.INT_CAUSE_RINGS v s, ?_, fun i hi => bitF_writeOnes_rings v i hv hi h,
    onlyParts_of_moves s _ (writeOnes_moves ..) rfl⟩
  have hany : (fieldsAt 0x160000C).any (fun f => f.access == .w1c) = true := by
    rw [fieldsAt_intCause]
    rfl
  show execW1cWrite 0x160000C v s = _
  rw [execW1cWrite, if_neg r.insideBar0, if_pos (r.hasAccess hup hany), writeOrHold_now _ _ hcur, r.hostWrite,
    show lo32 v = v from Nat.mod_eq_of_lt (by omega), writeFields_intCause v hv]

/-- NEW_DATA of a buffer is cleared, and with that of the high-priority buffer the cause of its port (R391, R392). -/
theorem newDataClear_clears (h : keysRise s.regs = true) {c b : Nat} (hcur : inCurtainCycle s = false) (hc : c < 4) (hb : b < 129)
    (hacc : hasAccess s (0x1110000 + 0x8000 * c + 0x80 * b) .w1c = true) :
    ∃ t, Machine.exec (.newDataClear c b) s = .next t ∧ flag t (F.CAN.BUF_STATUS_NEW_DATA c b) = false ∧
      (b = 128 → bitF t F.HOST.INT_CAUSE_CAN_HP c = false) ∧ OnlyParts [.regs] s t ∧
      OnlyFields [F.CAN.BUF_STATUS_NEW_DATA c b, F.HOST.INT_CAUSE_CAN_HP] s t := by
  refine ⟨clearNewData c b s, ?_, flag_clearNewData c b h, fun e => e ▸ bitF_clearNewData_highPriority c hc h,
    onlyParts_of_moves s _ (clearNewData_moves ..) rfl, onlyFields_clearNewData c b⟩
  have hdue : (decide (c < 4) && decide (b < 129) && hasAccess s (F.CAN.BUF_STATUS_NEW_DATA c b).addr .w1c) = true := by
    rw [decide_eq_true hc, decide_eq_true hb]
    exact hacc
  show execNewDataClear c b s = _
  rw [execNewDataClear, if_pos hdue, writeOrHold_now _ _ hcur]

end Sys2Proof.Machine
end

section
/-! SUPPORT. The management port (R507 to R509): messages that are dropped, sequence numbers, and what the messages that are
taken do. -/

namespace Sys2Proof.Machine

open Sys2Proof

variable {s : State} {d : Datagram}

/-! ### Messages that are dropped -/

/-- A datagram that X8 does not take changes nothing. -/
theorem mgmt_notTaken (rivals : List Transport) (slow : Bool) (hd : mgmtTakes s d = false) :
    Machine.exec (.mgmtBegin d slow) s = .next s ∧ Machine.exec (.mgmtProve d slow) s = .next s ∧
      Machine.exec (.mgmtCommand d rivals slow) s = .next s ∧ Machine.exec (.mgmtRead d) s = .next s ∧
      Machine.exec (.mgmtWrite d) s = .next s := by
  have hno : (!mgmtTakes s d) = true := by rw [hd]; rfl
  refine ⟨?_, ?_, ?_, ?_, ?_⟩
  · show execMgmtBegin d slow s = _
    rw [execMgmtBegin, if_pos hno]
  · show execMgmtProve d slow s = _
    rw [execMgmtProve, if_pos hno]
  · show execMgmtCommand d rivals slow s = _
    rw [execMgmtCommand, if_pos hno]
  · show execMgmtRead d s = _
    rw [execMgmtRead, if_pos hno]
  · show execMgmtWrite d s = _
    rw [execMgmtWrite, if_pos hno]

/-- Between `s` and `t` a message was dropped: MGMT_DROPPED has gone up by one, and CONT may have been handed a record. -/
def Dropped (s t : State) : Prop :=
  getF t F.HOST.MGMT_DROPPED = min (getF s F.HOST.MGMT_DROPPED + 1) 0xFFFFFFFF ∧ OnlyParts [.regs, .cont] s t

theorem dropMessage_dropped (h : keysRise s.regs = true) (cause : Nat) (d : Datagram) : Dropped s (dropMessage cause d s) := by
  obtain ⟨hcount, hparts, -⟩ : Counted F.HOST.MGMT_DROPPED s (dropMessage cause d s) := counted_emit_bumpF s _ _ _ _ _ rfl h
  exact ⟨hcount, hparts⟩

/-! ### BEGIN and PROVE -/

theorem exec_mgmtBegin_dropped (h : keysRise s.regs = true) (slow : Bool) (hd : mgmtTakes s d = true)
    (hno : ∀ b, clearBody 1 (mgmtHead d) = some b → (mgmtHead d).sessionId ≠ 0 ∨ b.length ≠ 152) :
    ∃ t, Machine.exec (.mgmtBegin d slow) s = .next t ∧ Dropped s t := by
  refine ⟨_, ?_, dropMessage_dropped h 2 d⟩
  show execMgmtBegin d slow s = _
  cases hb : clearBody 1 (mgmtHead d) with
  | none => simp [execMgmtBegin, hd, hb]
  | some b => simpa [execMgmtBegin, hd, hb] using fun h1 h2 => absurd (hno b hb) (by simp [h1, h2])

theorem exec_mgmtBegin (slow : Bool) {b : List Nat} (hd : mgmtTakes s d = true) (hb : clearBody 1 (mgmtHead d) = some b)
    (hid : (mgmtHead d).sessionId = 0) (hlen : b.length = 152) :
    Machine.exec (.mgmtBegin d slow) s = .next
      (answer 1 0 (mgmtHead d).tag 0x01 (cmdSessionBegin (mgmtCaller none []) 0 slow (loadInbox (wordsLE b) s))) := by
  show execMgmtBegin d slow s = _
  simp [execMgmtBegin, hd, hb, hid, hlen]

theorem exec_mgmtProve_dropped (h : keysRise s.regs = true) (slow : Bool) (hd : mgmtTakes s d = true)
    (hno : ∀ b, clearBody 3 (mgmtHead d) = some b → b.length ≠ 112 ∨ mgmtSlot s (mgmtHead d).sessionId = none) :
    ∃ t, Machine.exec (.mgmtProve d slow) s = .next t ∧ Dropped s t := by
  have hdrop : ∃ cause, Machine.exec (.mgmtProve d slow) s = .next (dropMessage cause d s) := by
    show ∃ cause, execMgmtProve d slow s = _
    cases hb : clearBody 3 (mgmtHead d) with
    | none => exact ⟨2, by simp [execMgmtProve, hd, hb]⟩
    | some b =>
      by_cases hlen : b.length = 112
      · have hslot : mgmtSlot s (mgmtHead d).sessionId = none := (hno b hb).resolve_left (not_not_intro hlen)
        exact ⟨3, by simp [execMgmtProve, hd, hb, hlen, hslot]⟩
      · exact ⟨2, by simp [execMgmtProve, hd, hb, hlen]⟩
  obtain ⟨cause, hexec⟩ := hdrop
  exact ⟨_, hexec, dropMessage_dropped h cause d⟩

theorem exec_mgmtProve (slow : Bool) {b : List Nat} (hd : mgmtTakes s d = true) (hb : clearBody 3 (mgmtHead d) = some b)
    (hlen : b.length = 112) (hslot : mgmtSlot s (mgmtHead d).sessionId ≠ none) :
    Machine.exec (.mgmtProve d slow) s = .next (answer 3 (mgmtHead d).sessionId (mgmtHead d).tag 0x02
      (cmdSessionProve (mgmtCaller none []) 0 slow (loadInbox (wordsLE b) s))) := by
  show execMgmtProve d slow s = _
  simp [execMgmtProve, hd, hb, hlen, hslot]

/-- A BEGIN that a session is opened for is answered with SEC's output in clear. -/
theorem answer_begin_ok (id tag : Nat) (x : State × Reply) (hx : x.2.result = resOk) :
    ∃ k, (answer 1 id tag 0x01 x).regs = x.1.regs ∧ (answer 1 id tag 0x01 x).sec = x.1.sec ∧
      (answer 1 id tag 0x01 x).host.mgmtReplies.getLast? = some (mgmtHeader 2 0 x.2.ret (bytesOfWords x.1.sec.outbox).length k tag ++
        bytesOfWords x.1.sec.outbox) := by
  have hne : ¬ x.2.result = resPending := by rw [hx]; decide
  have hsend : answer 1 id tag 0x01 x = sendMessage 2 x.2.ret tag false x.1.sec.outbox x.1 := by
    rw [answer, if_neg hne, replyTo, if_pos rfl, if_pos hx]
  rw [hsend]
  exact ⟨_, rfl, rfl, List.getLast?_concat⟩

/-- A BEGIN that is refused at once has no reply. -/
theorem answer_begin_refused (id tag : Nat) (x : State × Reply) (hok : x.2.result ≠ resOk) (hp : x.2.result ≠ resPending) :
    answer 1 id tag 0x01 x = x.1 := by
  rw [answer, if_neg hp, replyTo, if_pos rfl, if_neg hok]

theorem answer_prove_ok (id tag : Nat) (x : State × Reply) (hx : x.2.result = resOk) :
    answer 3 id tag 0x02 x = sendResponse id tag 21 0x02 resOk x.2.ret 4 x.1.sec.outbox x.1 := by
  have hne : ¬ x.2.result = resPending := by rw [hx]; decide
  rw [answer, if_neg hne, replyTo, if_neg (by decide), if_neg (by simp [hx]), hx]

/-- A PROVE that is refused at once has no reply. -/
theorem answer_prove_refused (id tag : Nat) (x : State × Reply) (hok : x.2.result ≠ resOk) (hp : x.2.result ≠ resPending) :
    answer 3 id tag 0x02 x = x.1 := by
  simp [answer, hp, replyTo, hok]

/-- A message that SEC is still at work on waits for its reply. -/
theorem answer_pending (kind id tag op : Nat) (x : State × Reply) (hp : x.2.result = resPending) :
    answer kind id tag op x = { x.1 with host := { x.1.host with mgmtWaits := some (kind, id, tag) } } := by
  rw [answer, if_pos hp]

/-- The answers to a BEGIN message that keeps its layout: a session is opened, the request is refused, or SEC is still at
work. -/
theorem mgmtBegin_answers (slow : Bool) {b : List Nat} (hd : mgmtTakes s d = true) (hb : clearBody 1 (mgmtHead d) = some b)
    (hid : (mgmtHead d).sessionId = 0) (hlen : b.length = 152) :
    let x := cmdSessionBegin (mgmtCaller none []) 0 slow (loadInbox (wordsLE b) s)
    let out := bytesOfWords x.1.sec.outbox
    (x.2.result = resOk → ∃ t k, Machine.exec (.mgmtBegin d slow) s = .next t ∧ t.regs = x.1.regs ∧ t.sec = x.1.sec ∧
      t.host.mgmtReplies.getLast? = some (mgmtHeader 2 0 x.2.ret out.length k (mgmtHead d).tag ++ out)) ∧
    (x.2.result ≠ resOk → x.2.result ≠ resPending → Machine.exec (.mgmtBegin d slow) s = .next x.1) ∧
    (x.2.result = resPending → ∃ t, Machine.exec (.mgmtBegin d slow) s = .next t ∧
      t.host.mgmtWaits = some (1, 0, (mgmtHead d).tag) ∧ OnlyParts [.host] x.1 t) := by
  intro x out
  have hexec : Machine.exec (.mgmtBegin d slow) s = .next (answer 1 0 (mgmtHead d).tag 0x01 x) :=
    exec_mgmtBegin slow hd hb hid hlen
  refine ⟨fun hok => ?_, fun hok hp => ?_, fun hp => ?_⟩
  · obtain ⟨k, hregs, hsec, hlast⟩ := answer_begin_ok 0 (mgmtHead d).tag x hok
    exact ⟨_, k, hexec, hregs, hsec, hlast⟩
  · rw [hexec, answer_begin_refused _ _ x hok hp]
  · rw [answer_pending _ _ _ _ x hp] at hexec
    exact ⟨_, hexec, rfl, onlyParts_host x.1 _⟩

/-- The answers to a PROVE message for a session of the port. -/
theorem mgmtProve_answers (slow : Bool) {b : List Nat} (hd : mgmtTakes s d = true) (hb : clearBody 3 (mgmtHead d) = some b)
    (hlen : b.length = 112) (hslot : mgmtSlot s (mgmtHead d).sessionId ≠ none) :
    let x := cmdSessionProve (mgmtCaller none []) 0 slow (loadInbox (wordsLE b) s)
    (x.2.result = resOk → Machine.exec (.mgmtProve d slow) s =
      .next (sendResponse (mgmtHead d).sessionId (mgmtHead d).tag 21 0x02 resOk x.2.ret 4 x.1.sec.outbox x.1)) ∧
    (x.2.result ≠ resOk → x.2.result ≠ resPending → Machine.exec (.mgmtProve d slow) s = .next x.1) := by
  intro x
  have hexec : Machine.exec (.mgmtProve d slow) s = .next (answer 3 (mgmtHead d).sessionId (mgmtHead d).tag 0x02 x) :=
    exec_mgmtProve slow hd hb hlen hslot
  refine ⟨fun hok => ?_, fun hok hp => ?_⟩
  · rw [hexec, answer_prove_ok _ _ x hok]
  · rw [hexec, answer_prove_refused _ _ x hok hp]

/-! ### Sequence numbers (R508) -/

/-- A message that opens has a fresh SEQUENCE. -/
theorem mgmtFresh_of_mgmtOpen {kind k : Nat} {h : MgmtHead} {ok : List Nat → Bool} {b : List Nat}
    (ho : mgmtOpen kind h ok s = .ok (k, b)) : mgmtFresh s k h.sequence = true := by
  unfold mgmtOpen at ho
  iterate 6 (split at ho; · cases ho)
  rename_i hfresh _
  cases ho
  simpa using hfresh

/-- The mask of seen numbers, moved up to a new highest number, has that number's bit. -/
theorem bitOf_shifted_mask (seen n : Nat) (hn : 0 < n) :
    bitOf ((if n < 64 then seen * 2 ^ n % 2 ^ 64 else 0) + 1) 0 = 1 := by
  obtain ⟨m, rfl⟩ := Nat.exists_eq_add_of_le' hn
  have heven : seen * 2 ^ (m + 1) % 2 = 0 := by
    rw [Nat.pow_succ, ← Nat.mul_assoc]
    exact Nat.mul_mod_left ..
  generalize seen * 2 ^ (m + 1) = x at heven ⊢
  unfold bitOf
  split <;> omega

/-- A clear bit of the mask of seen numbers is set by adding it. -/
theorem bitOf_add_two_pow (seen i : Nat) (h : bitOf seen i = 0) : bitOf (seen + 2 ^ i) i = 1 := by
  unfold bitOf at h ⊢
  rw [Nat.add_div_right _ (Nat.two_pow_pos i)]
  omega

/-- A SEQUENCE that has been accepted is used up. -/
theorem mgmtFresh_acceptSequence (k n : Nat) (hh : keysRise s.host.mgmtHigh = true) (hs : keysRise s.host.mgmtSeen = true)
    (hf : mgmtFresh s k n = true) : mgmtFresh (acceptSequence k n s) k n = false := by
  simp only [mgmtFresh, Bool.and_eq_true, Bool.or_eq_true, decide_eq_true_eq, beq_iff_eq] at hf
  obtain ⟨-, hf⟩ := hf
  unfold acceptSequence
  by_cases hn : tableGet 0 s.host.mgmtHigh k < n
  · simp only [hn, if_true, mgmtFresh, tableGet_put_same _ _ _ _ hh, tableGet_put_same _ _ _ _ hs, Nat.sub_self,
      bitOf_shifted_mask _ _ (Nat.sub_pos_of_lt hn)]
    simp
  · have hbit : bitOf (tableGet 0 s.host.mgmtSeen k) (tableGet 0 s.host.mgmtHigh k - n) = 0 := (hf.resolve_left hn).2
    simp only [hn, if_false, mgmtFresh, tableGet_put_same _ _ _ _ hh, tableGet_put_same _ _ _ _ hs, bitOf_add_two_pow _ _ hbit]
    simp

/-! ### Sealed messages (R509) -/

theorem exec_mgmtCommand_dropped (h : keysRise s.regs = true) (rivals : List Transport) (slow : Bool) {cause : Nat}
    (hd : mgmtTakes s d = true) (ho : mgmtOpen 4 (mgmtHead d) callOk s = .error cause) :
    ∃ t, Machine.exec (.mgmtCommand d rivals slow) s = .next t ∧ Dropped s t := by
  refine ⟨_, ?_, dropMessage_dropped h cause d⟩
  show execMgmtCommand d rivals slow s = _
  simp [execMgmtCommand, hd, ho]

theorem exec_mgmtRead_dropped (h : keysRise s.regs = true) {cause : Nat} (hd : mgmtTakes s d = true)
    (ho : mgmtOpen 6 (mgmtHead d) readOk s = .error cause) : ∃ t, Machine.exec (.mgmtRead d) s = .next t ∧ Dropped s t := by
  refine ⟨_, ?_, dropMessage_dropped h cause d⟩
  show execMgmtRead d s = _
  simp [execMgmtRead, hd, ho]

theorem exec_mgmtWrite_dropped (h : keysRise s.regs = true) {cause : Nat} (hd : mgmtTakes s d = true)
    (ho : mgmtOpen 8 (mgmtHead d) writeOk s = .error cause) : ∃ t, Machine.exec (.mgmtWrite d) s = .next t ∧ Dropped s t := by
  refine ⟨_, ?_, dropMessage_dropped h cause d⟩
  show execMgmtWrite d s = _
  simp [execMgmtWrite, hd, ho]

/-- The mailbox data of a session once a COMMAND message has added its own. -/
def callData (s : State) (k : Nat) (e : MgmtCall) : List Nat := storeData (tableGet [] s.host.mgmtData k) (e.offset / 4) e.data

/-- A COMMAND message with MORE uses up its SEQUENCE and stores its data; nothing runs. -/
theorem mgmtCommand_stores (rivals : List Transport) (slow : Bool) {k : Nat} {b : List Nat} (hd : mgmtTakes s d = true)
    (ho : mgmtOpen 4 (mgmtHead d) callOk s = .ok (k, b)) (hmore : (mgmtHead d).flags = 1)
    (hh : keysRise s.host.mgmtHigh = true) (hs : keysRise s.host.mgmtSeen = true) (hm : keysRise s.host.mgmtData = true) :
    ∃ t, Machine.exec (.mgmtCommand d rivals slow) s = .next t ∧ mgmtFresh t k (mgmtHead d).sequence = false ∧
      tableGet [] t.host.mgmtData k = callData s k (readCall b) ∧ OnlyParts [.host] s t := by
  let s1 := acceptSequence k (mgmtHead d).sequence s
  refine ⟨{ s1 with host := { s1.host with mgmtData := tablePut [] s1.host.mgmtData k (callData s k (readCall b)) } }, ?_,
    mgmtFresh_acceptSequence k _ hh hs (mgmtFresh_of_mgmtOpen ho), tableGet_put_same _ _ _ _ hm,
    onlyParts_trans (onlyParts_host s s1.host) (onlyParts_host s1 _)⟩
  show execMgmtCommand d rivals slow s = _
  simp only [execMgmtCommand, hd, ho, hmore, Bool.not_true, Bool.false_eq_true, if_false, if_true]
  rfl

/-- The state in which a COMMAND message's command runs: its data is before SEC, and the session's store is empty. -/
def callState (s : State) (k : Nat) (e : MgmtCall) : State :=
  loadInbox (callData s k e) { s with host := { s.host with mgmtData := tablePut [] s.host.mgmtData k [] } }

/-- The answer to a COMMAND message whose command has run: its response, and where it is PENDING a second one to come. -/
def callAnswer (h : MgmtHead) (e : MgmtCall) (u : State) (rep : Reply) : State :=
  let done := sendResponse h.sessionId h.tag e.unit e.opcode rep.result rep.ret 4 [] u
  if rep.result = resPending then awaitSecond e.unit e.opcode e.arg0 none (some (h.sessionId, h.tag)) done else done

/-- A COMMAND message for another unit than SEC, present and awake, runs its command. -/
theorem runMessage_otherUnit (h : MgmtHead) (e : MgmtCall) (k : Nat) (rivals : List Transport) (slow : Bool) {u : State} {rep : Reply}
    (hu : e.unit < 24) (hsec : e.unit ≠ 21) (hp : present s e.unit = true) (hg : unitGated s e.unit = false)
    (hx : unitCommand e.unit e.opcode (mgmtCaller (some k) rivals) e.arg0 e.arg1 e.arg2 slow (callState s k e) = some (u, rep)) :
    runMessage h e k rivals slow s = callAnswer h e u rep := by
  have hp' : present (callState s k e) e.unit = true := hp
  have hg' : unitGated (callState s k e) e.unit = false := hg
  unfold callState callData at hp' hg' hx
  simp only [runMessage, Nat.not_le.2 hu, hp', hg', hx, hsec, Bool.not_true, Bool.false_eq_true, if_false]
  rfl

theorem exec_mgmtCommand_runs (rivals : List Transport) (slow : Bool) {k : Nat} {b : List Nat} (hd : mgmtTakes s d = true)
    (ho : mgmtOpen 4 (mgmtHead d) callOk s = .ok (k, b)) (hmore : (mgmtHead d).flags ≠ 1) :
    Machine.exec (.mgmtCommand d rivals slow) s = .next
      (runMessage (mgmtHead d) (readCall b) k rivals slow (acceptSequence k (mgmtHead d).sequence s)) := by
  show execMgmtCommand d rivals slow s = _
  simp only [execMgmtCommand, hd, ho, hmore, Bool.not_true, Bool.false_eq_true, if_false]

/-- The command of a COMMAND message runs once the message's SEQUENCE is used up. -/
theorem mgmtCommand_runs (rivals : List Transport) (slow : Bool) {k : Nat} {b : List Nat} (hd : mgmtTakes s d = true)
    (ho : mgmtOpen 4 (mgmtHead d) callOk s = .ok (k, b)) (hmore : (mgmtHead d).flags ≠ 1) {u : State} {rep : Reply}
    (hu : (readCall b).unit < 24) (hsec : (readCall b).unit ≠ 21) (hp : present s (readCall b).unit = true)
    (hg : unitGated s (readCall b).unit = false)
    (hx : unitCommand (readCall b).unit (readCall b).opcode (mgmtCaller (some k) rivals) (readCall b).arg0 (readCall b).arg1
      (readCall b).arg2 slow (callState (acceptSequence k (mgmtHead d).sequence s) k (readCall b)) = some (u, rep)) :
    let e := readCall b
    let done := sendResponse (mgmtHead d).sessionId (mgmtHead d).tag e.unit e.opcode rep.result rep.ret 4 [] u
    (rep.result ≠ resPending → Machine.exec (.mgmtCommand d rivals slow) s = .next done) ∧
    (rep.result = resPending → ∃ t p, Machine.exec (.mgmtCommand d rivals slow) s = .next t ∧
      t.host.pendingCmds = done.host.pendingCmds ++ [p] ∧ p.unit = e.unit ∧ p.opcode = e.opcode ∧
      p.mgmt = some ((mgmtHead d).sessionId, (mgmtHead d).tag) ∧ OnlyParts [.host] done t) := by
  intro e done
  have hexec : Machine.exec (.mgmtCommand d rivals slow) s = .next (callAnswer (mgmtHead d) e u rep) := by
    rw [exec_mgmtCommand_runs rivals slow hd ho hmore]
    exact congrArg _ (runMessage_otherUnit (s := acceptSequence k (mgmtHead d).sequence s) _ e k rivals slow hu hsec hp hg hx)
  refine ⟨fun hr => ?_, fun hr => ?_⟩
  · rw [hexec, callAnswer, if_neg hr]
  · rw [callAnswer, if_pos hr] at hexec
    exact ⟨_, _, hexec, rfl, rfl, rfl, rfl, onlyParts_host done _⟩

/-- A READ message is answered with the words that its reads return. -/
theorem exec_mgmtRead {k : Nat} {b : List Nat} (hd : mgmtTakes s d = true)
    (ho : mgmtOpen 6 (mgmtHead d) readOk s = .ok (k, b)) :
    Machine.exec (.mgmtRead d) s = .next (sendMessage 7 (mgmtHead d).sessionId (mgmtHead d).tag false
      (readWords (bodyWord b 1) (bodyWord b 0) (acceptSequence k (mgmtHead d).sequence s)).1
      (readWords (bodyWord b 1) (bodyWord b 0) (acceptSequence k (mgmtHead d).sequence s)).2) := by
  show execMgmtRead d s = _
  simp only [execMgmtRead, hd, ho, Bool.not_true, Bool.false_eq_true, if_false]

theorem exec_mgmtWrite {k : Nat} {b : List Nat} (hd : mgmtTakes s d = true)
    (ho : mgmtOpen 8 (mgmtHead d) writeOk s = .ok (k, b)) (hcur : inCurtainCycle s = false) :
    Machine.exec (.mgmtWrite d) s = .next (sendMessage 9 (mgmtHead d).sessionId (mgmtHead d).tag false []
      (if isCmd (bodyWord b 0) = true ∨ getF s (F.SEC.SES_STATE_ROLE k) = roleObserver then
          acceptSequence k (mgmtHead d).sequence s
        else hostWrite (bodyWord b 0) (bodyWord b 1) (acceptSequence k (mgmtHead d).sequence s))) := by
  have hcur' : inCurtainCycle (acceptSequence k (mgmtHead d).sequence s) = false := hcur
  show execMgmtWrite d s = _
  simp only [execMgmtWrite, hd, ho, Bool.not_true, Bool.false_eq_true, if_false, writeOrHold_now _ _ hcur', Bool.or_eq_true,
    decide_eq_true_eq]

/-- A WRITE message writes its register, but for a CMD register and for an OBSERVER. -/
theorem mgmtWrite_cases {k : Nat} {b : List Nat} (hd : mgmtTakes s d = true)
    (ho : mgmtOpen 8 (mgmtHead d) writeOk s = .ok (k, b)) (hcur : inCurtainCycle s = false) :
    let unwritten := isCmd (bodyWord b 0) = true ∨ getF s (F.SEC.SES_STATE_ROLE k) = roleObserver
    ∃ t, Machine.exec (.mgmtWrite d) s = .next t ∧ (unwritten → t.regs = s.regs ∧ OnlyParts [.host] s t) ∧
      (¬ unwritten → t.regs = (hostWrite (bodyWord b 0) (bodyWord b 1) (acceptSequence k (mgmtHead d).sequence s)).regs) := by
  intro unwritten
  refine ⟨_, exec_mgmtWrite hd ho hcur, fun hun => ?_, fun hw => ?_⟩
  · rw [if_pos hun]
    exact ⟨rfl, onlyParts_trans (onlyParts_host s (acceptSequence k (mgmtHead d).sequence s).host) (onlyParts_host _ _)⟩
  · rw [if_neg hw]
    rfl

/-! ### ARP (R507) -/

/-- A request for the port's own address is answered, and one for another address is not. -/
theorem arpRequest_cases {target : Nat} {v6 : Bool} (hup : mgmtUp s = true) (h6 : flag s F.HOST.CONFIG_IPV6 = v6) :
    (target = s.host.address → ∃ t x, Machine.exec (.arpRequest target v6) s = .next t ∧ OnlyParts [.host] s t ∧
      t.host.mgmtReplies = s.host.mgmtReplies ++ [x]) ∧
    (target ≠ s.host.address → Machine.exec (.arpRequest target v6) s = .next s) := by
  refine ⟨fun he => ⟨{ s with host := { s.host with
    mgmtReplies := s.host.mgmtReplies ++ [[0, lo32 (macOf s 11), hi32 (macOf s 11)]] } }, _, ?_, onlyParts_host s _, rfl⟩, fun hne => ?_⟩
  · show execArpRequest target v6 s = _
    simp only [execArpRequest, hup, h6, he, beq_self_eq_true, Bool.and_self, if_true]
  · show execArpRequest target v6 s = _
    simp [execArpRequest, hne]

end Sys2Proof.Machine
end

section
/-! The statement about host accesses and the management port, assembled from what each access and message does. -/

namespace Sys2Proof.Certificates

open Sys2Proof Sys2Proof.Machine

/-- Settles O60: each access by where it goes and by the access codes it meets, each message by how it opens. -/
theorem accessesAndManagementPort : Obligations.AccessesAndManagementPort := by
  intro s wf
  have h := wf.regs
  refine ⟨fun a hup ha => ?_, fun v hup hp hg hcur hv => w1cWrite_rings h hup hp hg hcur hv,
    fun c b hcur hc hb hacc => newDataClear_clears h hcur hc hb hacc, fun d rivals slow hd => mgmt_notTaken rivals slow hd,
    fun d hd => ?_, fun target v6 hup h6 => arpRequest_cases hup h6⟩
  · intro counted reached read
    refine ⟨fun w => badAccess_cases h w hup ha, fun i he hi => pointRead hup i he hi, fun hin h4 => ?_,
      fun hcur v slow => registerWrite_held hcur ha v slow, fun hr => ?_⟩
    · obtain ⟨habsent, hpresent⟩ := absentAccess_cases h hup hin h4
      obtain ⟨hgated, hawake⟩ := gatedAccess_cases h hup hin h4
      exact ⟨habsent, hpresent, hgated, hawake⟩
    · obtain ⟨hin, h4, hp, hg⟩ := hr
      have r : Reached s a := ⟨hin, h4, hp, hg⟩
      exact ⟨fun v hcur htk hno => tkWriteDropped_counts h r hup v hcur htk hno, fun hrc => rcRead_resets h r hup hrc,
        fun l hl hk => latchedLoRead_latches h r hup hl hk,
        fun v f hf hacc hw hcan haddr hne hothers hv hcur =>
          w1cWrite_clears h r hup hf hacc hw ⟨haddr ▸ hne, haddr ▸ hcan⟩ haddr hothers hv hcur,
        fun v f slow hcur hf hacc haddr hdiv hring hv => registerWrite_rw h r hup slow hcur hf hacc haddr hdiv hring hv,
        fun v slow x hcur hcmd hx => registerWrite_cmd r hup v slow hcur hcmd hx⟩
  · intro head dropped last
    refine ⟨fun slow hno => exec_mgmtBegin_dropped h slow hd hno, fun slow b hb hid hlen => mgmtBegin_answers slow hd hb hid hlen,
      fun slow hno => exec_mgmtProve_dropped h slow hd hno, fun slow b hb hlen hslot => mgmtProve_answers slow hd hb hlen hslot,
      fun rivals slow => ⟨fun cause ho => exec_mgmtCommand_dropped h rivals slow hd ho, fun k b ho => ⟨?_, ?_⟩⟩,
      ⟨fun cause ho => exec_mgmtRead_dropped h hd ho, fun k b ho => exec_mgmtRead hd ho⟩,
      ⟨fun cause ho => exec_mgmtWrite_dropped h hd ho, fun k b ho hcur => mgmtWrite_cases hd ho hcur⟩⟩
    · exact fun hmore hh hs hm => mgmtCommand_stores rivals slow hd ho hmore hh hs hm
    · exact fun u rep hmore hu hsec hp hg hx => mgmtCommand_runs rivals slow hd ho hmore hu hsec hp hg hx

end Sys2Proof.Certificates
end

section
/-! SUPPORT. Which commands answer a next state: those that name no BAR0 offset, and those whose offset lies inside BAR0. -/

namespace Sys2Proof.Machine

open Sys2Proof

/-! ### Answers that are a next state -/

/-- A command answers a next state. -/
def Completes (r : Result) : Prop := ∃ t, r = .next t

theorem completes_next (t : State) : Completes (.next t) := ⟨t, rfl⟩

theorem completes_ite {c : Prop} [Decidable c] {x y : Result} (hx : Completes x) (hy : Completes y) :
    Completes (if c then x else y) := by
  split <;> assumption

variable (s : State)

/-! ### The commands whose meaning branches before it answers -/

theorem execPointStale_completes (p : Nat) : Completes (execPointStale p s) := by
  unfold execPointStale
  split
  · exact completes_next _
  · exact completes_ite (completes_next _) (completes_next _)

theorem execWindowProcessed_completes (errors : List BoeError) : Completes (execWindowProcessed errors s) := by
  unfold execWindowProcessed
  split
  · exact completes_next _
  · exact completes_next _

theorem execBatteryCheck_completes (mv : Nat) : Completes (execBatteryCheck mv s) :=
  completes_ite (completes_next _) (completes_next _)

theorem execBackboneFrameRx_completes (f : RxFrame) : Completes (execBackboneFrameRx f s) :=
  completes_ite
    (completes_ite (completes_next _) (completes_ite (completes_next _) (completes_next _)))
    (completes_ite (completes_next _) (completes_next _))

theorem execAnnounceReceived_completes (b : Nat) (m : Announce) : Completes (execAnnounceReceived b m s) := by
  unfold execAnnounceReceived
  refine completes_ite (completes_next _) (completes_ite (completes_next _) (completes_ite (completes_next _) ?_))
  extract_lets a s1 p s2
  split
  · exact completes_next _
  · exact completes_next _

theorem execRoundAssembled_completes (ue : Option Nat) (inData : Bool) : Completes (execRoundAssembled ue inData s) := by
  unfold execRoundAssembled
  split
  · exact completes_next _
  · exact completes_ite (completes_next _) (completes_next _)

theorem execSegmentRunEnd_completes (cycles : Nat) (ue : Option (Nat × Nat)) : Completes (execSegmentRunEnd cycles ue s) := by
  unfold execSegmentRunEnd
  split
  · exact completes_next _
  · split
    · exact completes_next _
    · exact completes_ite (completes_next _) (completes_ite (completes_next _) (completes_next _))

theorem execSegmentStalled_completes : Completes (execSegmentStalled s) := by
  unfold execSegmentStalled
  split
  · exact completes_next _
  · split
    · exact completes_next _
    · exact completes_next _

theorem execRoundDeadline_completes (ue : Option (Nat × Nat)) (same : Bool) : Completes (execRoundDeadline ue same s) := by
  unfold execRoundDeadline
  split
  · exact completes_next _
  · refine completes_ite (completes_next _) (completes_ite (completes_next _) ?_)
    split
    · exact completes_next _
    · exact completes_next _

/-! ### By whether the command names an offset -/

/-- A command that names no BAR0 offset answers a next state: every one but those above answers it in every branch at once. -/
theorem exec_completes_of_noOffset (c : Instr) (h : accessOffset c = none) : Completes (exec c s) := by
  cases c
  case pointStale => exact execPointStale_completes ..
  case windowProcessed => exact execWindowProcessed_completes ..
  case batteryCheck => exact execBatteryCheck_completes ..
  case backboneFrameRx => exact execBackboneFrameRx_completes ..
  case announceReceived => exact execAnnounceReceived_completes ..
  case roundAssembled => exact execRoundAssembled_completes ..
  case segmentRunEnd => exact execSegmentRunEnd_completes ..
  case segmentStalled => exact execSegmentStalled_completes ..
  case roundDeadline => exact execRoundDeadline_completes ..
  case badAccess | absentAccess | gatedAccess | tkWriteDropped | rcRead | latchedLoRead | w1cWrite | registerWrite => cases h
  all_goals exact completes_next _

/-- A command that names an offset is turned away outside BAR0, and answers a next state inside it. -/
theorem exec_of_offset {c : Instr} {a : Nat} (h : accessOffset c = some a) :
    ∃ t, exec c s = if 0x4000000 ≤ a then .fault .outsideBar0 else .next t := by
  cases c
  case badAccess | absentAccess | gatedAccess | tkWriteDropped | rcRead | latchedLoRead | w1cWrite | registerWrite =>
    cases h
    exact ⟨_, rfl⟩
  all_goals cases h

end Sys2Proof.Machine
end

section
/-! The statement about the answers of commands. -/

namespace Sys2Proof.Certificates

open Sys2Proof Sys2Proof.Machine

/-- Settles O3, by whether the command names a BAR0 offset. -/
theorem everyCommandCompletes : Obligations.EveryCommandCompletes := by
  intro c s
  refine ⟨fun a ha hout => ?_, fun hin => ?_⟩
  · obtain ⟨t, ht⟩ := exec_of_offset s ha
    rw [ht, if_pos hout]
  · cases ha : accessOffset c with
    | none => exact exec_completes_of_noOffset s c ha
    | some a =>
      obtain ⟨t, ht⟩ := exec_of_offset s ha
      exact ⟨t, by rw [ht, if_neg (Nat.not_le.2 (hin a ha))]⟩

end Sys2Proof.Certificates
end

section
/-! SUPPORT. Which register fields the operations that a clock's loss and return lead to can write: health, interrupts, the
recorder's flush, and a crossing's first transfer. -/

namespace Sys2Proof.Machine

open Sys2Proof

variable {fs gs : List Field} {q s t u : State}

/-! ### The calculus of written fields -/

theorem onlyFields_refl : OnlyFields fs s s := fun _ _ => rfl

theorem onlyFields_trans (h1 : OnlyFields fs s t) (h2 : OnlyFields fs t u) : OnlyFields fs s u :=
  fun f hf => (h2 f hf).trans (h1 f hf)

theorem onlyFields_mono (h : OnlyFields fs s t) (hs : fs ⊆ gs) : OnlyFields gs s t := fun f hf => h f fun g hg => hf g (hs hg)

theorem onlyFields_setF {f : Field} {v : Nat} (hf : f ∈ fs) (h : OnlyFields fs s t) : OnlyFields fs s (setF f v t) :=
  fun g hg => (getF_setF_other t f g v (hg f hf)).trans (h g hg)

theorem onlyFields_emit {code w1 w2 w3 : Nat} (h : OnlyFields fs s t) : OnlyFields fs s (emit code w1 w2 w3 t) :=
  fun g hg => (getF_emit t code w1 w2 w3 g).trans (h g hg)

theorem onlyFields_ite {c : Prop} [Decidable c] (h1 : OnlyFields fs q s) (h2 : OnlyFields fs q t) :
    OnlyFields fs q (if c then s else t) := by
  split <;> assumption

theorem onlyFields_foldl {α : Type} {l : List α} {f : State → α → State} (hf : ∀ x ∈ l, ∀ v, OnlyFields fs v (f v x)) :
    OnlyFields fs s (l.foldl f s) := by
  induction l generalizing s with
  | nil => exact onlyFields_refl
  | cons x l ih =>
    rw [List.forall_mem_cons] at hf
    exact onlyFields_trans (hf.1 s) (ih hf.2)

/-! ### Interrupts and health -/

/-- The fields of the interrupt causes (R499). -/
def causeFields : List Field := [F.HOST.INT_CAUSE_RINGS, F.HOST.INT_CAUSE_CAN_HP, F.HOST.INT_CAUSE_HIGH]

theorem raiseCause_onlyFields (c : Nat) (s : State) : OnlyFields causeFields s (raiseCause c s) := by
  unfold raiseCause
  extract_lets f i s1
  have hf : f ∈ causeFields := by
    simp only [f, causeFields]
    split
    · simp
    · split <;> simp
  have h1 : OnlyFields causeFields s s1 := onlyFields_setF hf onlyFields_refl
  exact onlyFields_ite onlyFields_refl (onlyFields_ite h1 (onlyFields_ite h1 h1))

/-- The fields in which a unit's health is shown (R42, R499). -/
def healthFields (u : Nat) : List Field := F.DEV.HEALTH_LO :: F.DEV.HEALTH_HI :: F.TICK.UNIT_STATE_HEALTH u :: causeFields

theorem setHealth_onlyFields (u v : Nat) (s : State) : OnlyFields (healthFields u) s (setHealth u v s) := by
  unfold setHealth
  extract_lets w old f i s1 s2
  have hf : f ∈ healthFields u := by
    simp only [f, healthFields]
    split <;> simp
  have h2 : OnlyFields (healthFields u) s s2 :=
    onlyFields_setF (by simp [healthFields]) (onlyFields_setF hf onlyFields_refl)
  have h3 : OnlyFields (healthFields u) s2 (raiseCause 22 s2) :=
    onlyFields_mono (raiseCause_onlyFields 22 s2) fun g hg => by simp [healthFields, hg]
  exact onlyFields_ite onlyFields_refl (onlyFields_ite (onlyFields_trans h2 h3) h2)

/-- The fields of a unit's health are apart from a field at the low end of a register that is none of the fixed ones. -/
theorem healthFields_apart (f : Field) (u : Nat) (hlow : f.lsb = 0)
    (hfixed : ∀ g ∈ F.DEV.HEALTH_LO :: F.DEV.HEALTH_HI :: causeFields, fieldKey g ≠ fieldKey f) :
    ∀ g ∈ healthFields u, fieldKey g ≠ fieldKey f := by
  intro g hg
  rcases eq_or_ne g (F.TICK.UNIT_STATE_HEALTH u) with rfl | hne
  · simp only [fieldKey, F.TICK.UNIT_STATE_HEALTH, hlow]
    omega
  · exact hfixed g (by simpa [healthFields, hne] using hg)

/-! ### The recorder's flush -/

/-- The fields that the recorder writes when it numbers a record (R456 to R466, R502). -/
def recordFields : List Field :=
  [F.CONT.VOL_LOST_COUNT, F.CONT.VOL_UNPERSISTED, F.CONT.DROPPED_COUNT, F.CONT.STATUS_EXHAUSTED, F.CONT.NEXT_SEQUENCE,
    F.HOST.NEXT_INDEX 1, F.HOST.LOST_COUNT 1] ++ healthFields 20

theorem stageEntry_onlyFields (r typ length stamp : Nat) (body : List Nat) (s : State) :
    OnlyFields [F.HOST.NEXT_INDEX r, F.HOST.LOST_COUNT r] s (stageEntry r typ length stamp body s) := by
  unfold stageEntry
  extract_lets idx s1 staged s2
  have h1 : OnlyFields [F.HOST.NEXT_INDEX r, F.HOST.LOST_COUNT r] s s1 := onlyFields_setF (by simp) onlyFields_refl
  have h2 : OnlyFields [F.HOST.NEXT_INDEX r, F.HOST.LOST_COUNT r] s s2 := onlyFields_setF (by simp) h1
  exact onlyFields_ite onlyFields_refl (onlyFields_ite (onlyFields_emit h2) h1)

theorem writeVolatile_onlyFields (r : Rec) (s : State) : OnlyFields recordFields s (writeVolatile r s) := by
  unfold writeVolatile
  extract_lets c un ring ring' lost s1 s2
  have h1 : OnlyFields recordFields s s1 := onlyFields_refl
  have h2 : OnlyFields recordFields s s2 :=
    onlyFields_ite (onlyFields_setF (by simp [recordFields]) h1) (onlyFields_setF (by simp [recordFields]) h1)
  refine onlyFields_trans h2 (onlyFields_mono (stageEntry_onlyFields 1 1 32 r.stamp (recWords r) s2) ?_)
  simp [recordFields]

theorem numberRecord_onlyFields (r : Rec) (s : State) : OnlyFields recordFields s (numberRecord r s) := by
  unfold numberRecord
  extract_lets seq x
  have hfull : OnlyFields recordFields s (setF F.CONT.STATUS_EXHAUSTED 1 (writeVolatile x s)) :=
    onlyFields_setF (by simp [recordFields]) (writeVolatile_onlyFields x s)
  have hhealth : healthFields 20 ⊆ recordFields := List.subset_append_right _ _
  have hnext : OnlyFields recordFields s (setF F.CONT.NEXT_SEQUENCE (seq + 1) s) :=
    onlyFields_setF (by simp [recordFields]) onlyFields_refl
  refine onlyFields_ite (onlyFields_setF (by simp [recordFields]) onlyFields_refl) (onlyFields_ite ?_ ?_)
  · exact onlyFields_setF (by simp [recordFields])
      (onlyFields_trans hfull (onlyFields_mono (setHealth_onlyFields 20 1 _) hhealth))
  · exact onlyFields_trans hnext (writeVolatile_onlyFields _ _)

theorem writeSummary_onlyFields (code : Nat) (s : State) :
    OnlyFields (F.CONT.CODE_STATE_PENDING code :: recordFields) s (writeSummary code s) := by
  unfold writeSummary
  extract_lets n x r s1
  have h1 : OnlyFields (F.CONT.CODE_STATE_PENDING code :: recordFields) s s1 :=
    onlyFields_mono (numberRecord_onlyFields r s) (List.subset_cons_self _ _)
  exact onlyFields_ite onlyFields_refl (onlyFields_setF List.mem_cons_self h1)

/-- The fields that the start of a flush writes: it writes the summary of every code with suppressed records first (R462, R465). -/
def flushFields (s : State) : List Field :=
  s.cont.suppressed.map (fun e => F.CONT.CODE_STATE_PENDING e.1) ++ F.CONT.STATUS_FLUSHING :: recordFields

theorem triggerFlush_onlyFields (trigger : Nat) (s : State) : OnlyFields (flushFields s) s (triggerFlush trigger s) := by
  refine onlyFields_ite onlyFields_refl ?_
  have hsum : OnlyFields (flushFields s) s ((s.cont.suppressed.map Prod.fst).foldl (fun t c => writeSummary c t) s) := by
    refine onlyFields_foldl fun c hc v => onlyFields_mono (writeSummary_onlyFields c v) ?_
    obtain ⟨e, he, rfl⟩ := List.mem_map.1 hc
    exact List.cons_subset.2 ⟨List.mem_append_left _ (List.mem_map_of_mem he),
      fun g hg => List.mem_append_right _ (List.mem_cons_of_mem _ hg)⟩
  exact onlyFields_setF (by simp [flushFields]) hsum

/-! ### The first transfer of a crossing -/

/-- The counters of the process image that a sample can move (R112, R115). -/
def sampleCounters : List Field :=
  [F.PIMG.REJECT_COUNT, F.PIMG.CLAMP_COUNT, F.PIMG.RATE_COUNT, F.PIMG.FILTER_COUNT, F.PIMG.WRITE_REFUSED_COUNT]

theorem refuseWrite_onlyFields (u i : Nat) (s : State) : OnlyFields sampleCounters s (refuseWrite u i s) :=
  onlyFields_emit (onlyFields_setF (by simp [sampleCounters]) onlyFields_refl)

theorem rejectSample_onlyFields (i reason : Nat) (x : Word) (k : PointCond) (s : State) :
    OnlyFields sampleCounters s (rejectSample i reason x k s) :=
  onlyFields_emit (onlyFields_setF (by simp [sampleCounters]) onlyFields_refl)

theorem conditionSample_onlyFields (u i : Nat) (c : PointCfg) (x : Word) (stamp : Nat) (s : State) :
    OnlyFields sampleCounters s (conditionSample u i c x stamp s) := by
  have counts : ∀ {f t} (k : Nat), f ∈ sampleCounters → OnlyFields sampleCounters s t → OnlyFields sampleCounters s (bumpF f k t) :=
    fun _ hf ht => onlyFields_setF hf ht
  unfold conditionSample
  extract_lets k out x1 dt rl k1
  refine onlyFields_ite (rejectSample_onlyFields _ _ _ _ _) (onlyFields_ite (rejectSample_onlyFields _ _ _ _ _) ?_)
  split
  extract_lets m0 m1 m s1 s2 s3
  have h1 : OnlyFields sampleCounters s s1 := onlyFields_refl
  have h2 : OnlyFields sampleCounters s s2 := onlyFields_ite (counts 1 (by simp [sampleCounters]) h1) h1
  have h3 : OnlyFields sampleCounters s s3 := onlyFields_ite (counts 1 (by simp [sampleCounters]) h2) h2
  exact onlyFields_ite (onlyFields_emit (counts 1 (by simp [sampleCounters]) h3)) h3

theorem sampleIn_onlyFields (u i : Nat) (x : Word) (stamp : Nat) (s : State) :
    OnlyFields sampleCounters s (sampleIn u i x stamp s) := by
  refine onlyFields_ite onlyFields_refl (onlyFields_ite onlyFields_refl ?_)
  split
  · exact refuseWrite_onlyFields u i s
  · exact onlyFields_ite (refuseWrite_onlyFields u i s) (onlyFields_ite onlyFields_refl
      (onlyFields_ite onlyFields_refl (conditionSample_onlyFields u i _ x stamp s)))

theorem keepWired_regs (n reason : Nat) (v : Word) (stamp : Nat) (s : State) : (keepWired n reason v stamp s).regs = s.regs := by
  unfold keepWired
  split
  · rfl
  · split <;> rfl

theorem wiredSample_onlyFields (n i : Nat) (v : Word) (stamp : Nat) (s : State) :
    OnlyFields sampleCounters s (wiredSample n i v stamp s) := by
  have h : OnlyFields sampleCounters s (keepWired n 0 v stamp s) := fun f _ => getF_congr s _ f (keepWired_regs n 0 v stamp s)
  exact onlyFields_ite h (onlyFields_trans h (sampleIn_onlyFields 5 i v stamp _))

theorem digitalFirst_onlyFields (s : State) : OnlyFields sampleCounters s (digitalFirst s) :=
  onlyFields_ite onlyFields_refl
    (onlyFields_foldl fun _ _ t => onlyFields_ite (wiredSample_onlyFields _ _ _ _ t) onlyFields_refl)

theorem pulseTransfer_onlyFields (c : Nat) (s : State) : OnlyFields sampleCounters s (pulseTransfer c s) := by
  unfold pulseTransfer
  extract_lets ch count delta p stalled long s1 s2
  have h1 : OnlyFields sampleCounters s s1 := wiredSample_onlyFields _ _ _ _ s
  have hstall : OnlyFields sampleCounters s1 (crossingStall ch.point true s1) := onlyFields_ite onlyFields_refl onlyFields_refl
  have h2 : OnlyFields sampleCounters s s2 := onlyFields_ite (onlyFields_trans h1 hstall) h1
  exact onlyFields_ite onlyFields_refl h2

theorem firstTransfer_onlyFields (g : Nat) (s : State) : OnlyFields sampleCounters s (firstTransfer g s) :=
  onlyFields_ite
    (onlyFields_trans (digitalFirst_onlyFields s) (onlyFields_foldl fun c _ t => pulseTransfer_onlyFields c t)) onlyFields_refl

/-- The mask of the crossings that have left their reset. -/
def putReleased (n : Nat) (s : State) : State := { s with mem := { s.mem with released := n } }

theorem settleCrossing_eq (s : State) (g : Nat) : settleCrossing s g =
    if !crossingPowered s g then
      if crossingReleased s g then putReleased (s.mem.released - 2 ^ g) s else s
    else if crossingReleased s g || !clockRuns s (groupClocks g).1 || !clockRuns s (groupClocks g).2 then s
    else firstTransfer g (putReleased (s.mem.released + 2 ^ g) s) := rfl

theorem settleCrossing_onlyFields (g : Nat) (s : State) : OnlyFields sampleCounters s (settleCrossing s g) := by
  have hput : ∀ n, OnlyFields sampleCounters s (putReleased n s) := fun _ => onlyFields_refl
  rw [settleCrossing_eq]
  exact onlyFields_ite (onlyFields_ite (hput _) onlyFields_refl)
    (onlyFields_ite onlyFields_refl (onlyFields_trans (hput _) (firstTransfer_onlyFields g _)))

end Sys2Proof.Machine
end

section
/-! SUPPORT. What a clock's loss and return, and the loss of the reference, leave in the state (R18, R19, R449, R451). -/

namespace Sys2Proof.Machine

open Sys2Proof

variable (s : State)

/-! ### The device part -/

theorem setState_dev (d : DevState) : (setState d s).dev = { s.dev with state := d } := by
  unfold setState
  split
  · next h => rw [← h]
  · exact ((raiseCause_moves ..).frame .dev rfl).trans ((emit_moves ..).frame .dev rfl)

theorem enterFaultSafe_dev :
    (enterFaultSafe s).dev = { s.dev with state := if inState s .live then .faultSafe else s.dev.state } := by
  unfold enterFaultSafe
  split
  · have hflush : (triggerFlush 2 (setState .faultSafe (leaveLive s))).dev = (setState .faultSafe (leaveLive s)).dev :=
      (triggerFlush_moves ..).frame .dev rfl
    rw [hflush, setState_dev, (leaveLive_moves s).frame .dev rfl]
  · rfl

/-! ### Bits of the masks -/

theorem testBit_add_two_pow {v i : Nat} (h : v.testBit i = false) (j : Nat) :
    (v + 2 ^ i).testBit j = (v.testBit j || decide (j = i)) := by
  have hi : (v + 2 ^ i).testBit i = true := by rw [Nat.add_comm, Nat.testBit_two_pow_add_eq, h]; rfl
  by_cases e : j = i
  · subst e; simp [hi]
  · have hsub := testBit_sub_two_pow (v + 2 ^ i) i j hi
    rw [Nat.add_sub_cancel] at hsub
    simp [hsub, e]

theorem clockRuns_eq (p : Nat) : clockRuns s p = !s.pwr.stoppedClocks.testBit p := by
  rw [clockRuns, Nat.testBit_eq_decide_div_mod_eq]
  rcases Nat.mod_two_eq_zero_or_one (s.pwr.stoppedClocks / 2 ^ p) with h | h <;> simp [h]

theorem clockRuns_congr {s t : State} (h : t.pwr = s.pwr) (p : Nat) : clockRuns t p = clockRuns s p := by
  unfold clockRuns
  rw [h]

theorem crossingReleased_eq (g : Nat) : crossingReleased s g = s.mem.released.testBit g := by
  rw [Nat.testBit_eq_decide_div_mod_eq]
  rfl

theorem crossingReleased_congr {s t : State} (h : t.mem = s.mem) (g : Nat) : crossingReleased t g = crossingReleased s g := by
  unfold crossingReleased
  rw [h]

/-! ### Units that stay FAILED -/

theorem present_of_onlyFields {fs : List Field} {s t : State} (h : OnlyFields fs s t)
    (hfs : ∀ f ∈ fs, fieldKey f ≠ fieldKey F.DEV.UNITS_PRESENT) (u : Nat) : present t u = present s u := by
  unfold present bitF
  rw [h _ hfs]

theorem present_setHealth (u v k : Nat) : present (setHealth u v s) k = present s k :=
  present_of_onlyFields (setHealth_onlyFields u v s) (healthFields_apart _ u rfl (by decide)) k

/-- A unit's FAILED health has been made to stay (R19). -/
def staysFailed (s : State) (u : Nat) : Bool := s.dev.failedSticky.testBit u

theorem setFailedSticky_dev {u : Nat} (hu : present s u = true) :
    (setFailedSticky u s).dev =
      { s.dev with failedSticky := if staysFailed s u then s.dev.failedSticky else s.dev.failedSticky + 2 ^ u } := by
  have hbit : (s.dev.failedSticky / 2 ^ u % 2 == 1) = staysFailed s u := by
    rw [staysFailed, Nat.testBit_eq_decide_div_mod_eq]; rfl
  simp only [setFailedSticky, hu, hbit, Bool.not_true, Bool.false_eq_true, if_false]
  exact (setHealth_moves ..).frame .dev rfl

theorem present_setFailedSticky (u k : Nat) : present (setFailedSticky u s) k = present s k := by
  unfold setFailedSticky
  split
  · rfl
  · exact present_setHealth _ u 2 k

theorem staysFailed_setFailedSticky {u : Nat} (hu : present s u = true) (k : Nat) :
    staysFailed (setFailedSticky u s) k = (staysFailed s k || decide (k = u)) := by
  rw [staysFailed, setFailedSticky_dev s hu]
  cases h : staysFailed s u with
  | true =>
    show staysFailed s k = _
    by_cases e : k = u
    · simp [e, h]
    · simp [e]
  | false => exact testBit_add_two_pow h k

/-- The units of a list have been made to stay FAILED. -/
def failUnits (us : List Nat) (s : State) : State := us.foldl (fun t u => setFailedSticky u t) s

theorem failUnits_moves (us : List Nat) : Moves 0x400006 s (failUnits us s) :=
  moves_foldl moves_refl fun _ _ ht => moves_step (setFailedSticky_moves ..) rfl ht

theorem setFailedSticky_absent {u : Nat} (hu : present s u = false) : setFailedSticky u s = s := by simp [setFailedSticky, hu]

theorem failUnits_dev (us : List Nat) :
    (failUnits us s).dev = { s.dev with failedSticky := (failUnits us s).dev.failedSticky } := by
  induction us generalizing s with
  | nil => rfl
  | cons u us ih =>
    have hrest := ih (setFailedSticky u s)
    cases hu : present s u with
    | true => rw [setFailedSticky_dev s hu] at hrest; exact hrest
    | false => rw [setFailedSticky_absent s hu] at hrest; simpa [failUnits, setFailedSticky_absent s hu] using hrest

theorem staysFailed_failUnits (us : List Nat) (k : Nat) :
    staysFailed (failUnits us s) k = (staysFailed s k || (decide (k ∈ us) && present s k)) := by
  induction us generalizing s with
  | nil => simp [failUnits]
  | cons u us ih =>
    have hrest := ih (setFailedSticky u s)
    rw [present_setFailedSticky] at hrest
    refine hrest.trans ?_
    cases hu : present s u with
    | true =>
      rw [staysFailed_setFailedSticky s hu]
      by_cases e : k = u
      · simp [e, hu]
      · simp [e]
    | false =>
      rw [setFailedSticky_absent s hu]
      by_cases e : k = u
      · simp [e, hu]
      · simp [e]

/-! ### A PLL unlocks -/

/-- The clock of PLL `p` has stopped, and that is recorded. -/
def clockStopped (p : Nat) (s : State) : State :=
  emit 0x1705 p 0 0 (setBit F.PWR.PLL_LOCK p false
    { s with pwr := { s.pwr with
        stoppedClocks := s.pwr.stoppedClocks + 2 ^ p, stoppedAt := tablePut 0 s.pwr.stoppedAt p s.clap.cycles } })

/-- The clock of PLL `p` has stopped with all that hangs on it, but for the device state. -/
def pllLost (p : Nat) (s : State) : State :=
  if p = 6 then boeClockStop (failUnits (drivenUnits p) (clockStopped p s)) else failUnits (drivenUnits p) (clockStopped p s)

theorem exec_pllUnlocked {p : Nat} (hp : p < 10) (hup : inState s .off = false) (hrun : clockRuns s p = true) :
    exec (.pllUnlocked p) s = .next (if p = 1 ∨ p = 8 then enterFaultSafe (pllLost p s) else pllLost p s) := by
  show execPllUnlocked p s = _
  simp [execPllUnlocked, hp, hup, hrun]
  rfl

theorem present_clockStopped (p u : Nat) : present (clockStopped p s) u = present s u := by
  refine present_of_onlyFields (fs := [F.PWR.PLL_LOCK]) (onlyFields_emit (onlyFields_setF (by simp) onlyFields_refl)) ?_ u
  simp [fieldKey, F.PWR.PLL_LOCK, F.DEV.UNITS_PRESENT]

theorem clockStopped_dev (p : Nat) : (clockStopped p s).dev = s.dev := (emit_moves ..).frame .dev rfl

theorem clockRuns_clockStopped {p : Nat} (hrun : clockRuns s p = true) : clockRuns (clockStopped p s) p = false := by
  have hpwr : (clockStopped p s).pwr.stoppedClocks = s.pwr.stoppedClocks + 2 ^ p :=
    congrArg PwrPart.stoppedClocks ((emit_moves ..).frame .pwr rfl)
  rw [clockRuns_eq] at hrun ⊢
  rw [hpwr, testBit_add_two_pow (by simpa using hrun)]
  simp

theorem pllLost_dev (p : Nat) : (pllLost p s).dev = (failUnits (drivenUnits p) (clockStopped p s)).dev := by
  unfold pllLost
  split
  · exact (boeClockStop_moves ..).frame .dev rfl
  · rfl

theorem pllLost_pwr (p : Nat) : (pllLost p s).pwr = (clockStopped p s).pwr := by
  have hfail := (failUnits_moves (clockStopped p s) (drivenUnits p)).frame .pwr rfl
  unfold pllLost
  split
  · exact ((boeClockStop_moves ..).frame .pwr rfl).trans hfail
  · exact hfail

/-- The loss of a clock leaves the device state. -/
theorem pllLost_dev_eq (p : Nat) : (pllLost p s).dev = { s.dev with failedSticky := (pllLost p s).dev.failedSticky } := by
  rw [pllLost_dev, failUnits_dev, clockStopped_dev]

/-- The present units that the clock drives stay FAILED. -/
theorem staysFailed_pllLost {p u : Nat} (hu : u < 24) (hpres : present s u = true) (hclock : unitClock u = p) :
    staysFailed (pllLost p s) u = true := by
  have hmem : u ∈ drivenUnits p := by simp [drivenUnits, hu, hclock]
  rw [staysFailed, pllLost_dev]
  refine (staysFailed_failUnits (clockStopped p s) (drivenUnits p) u).trans ?_
  simp [hmem, present_clockStopped, hpres]

/-- PLL_UNLOCKED, by whether the clock is one of those without which no tick starts. -/
theorem pllUnlocked_stops {p : Nat} (hp : p < 10) (hup : inState s .off = false) (hrun : clockRuns s p = true) :
    ∃ t, exec (.pllUnlocked p) s = .next t ∧ clockRuns t p = false ∧
      (∀ u, u < 24 → present s u = true → unitClock u = p → staysFailed t u = true) ∧
      t.dev.state = if (p = 1 ∨ p = 8) ∧ inState s .live = true then .faultSafe else s.dev.state := by
  have hstop : clockRuns (pllLost p s) p = false := (clockRuns_congr (pllLost_pwr s p) p).trans (clockRuns_clockStopped s hrun)
  have hdev := pllLost_dev_eq s p
  refine ⟨_, exec_pllUnlocked s hp hup hrun, ?_⟩
  split
  · next hcore =>
    have hsafe := enterFaultSafe_dev (pllLost p s)
    have hlive : inState (pllLost p s) .live = inState s .live := by unfold inState; rw [hdev]
    refine ⟨(clockRuns_congr ((enterFaultSafe_moves ..).frame .pwr rfl) p).trans hstop, fun u hu hpres hclock => ?_, ?_⟩
    · rw [staysFailed, hsafe]
      exact staysFailed_pllLost s hu hpres hclock
    · rw [hsafe, hlive, hdev]
      simp [hcore]
  · next hother =>
    refine ⟨hstop, fun u hu hpres hclock => staysFailed_pllLost s hu hpres hclock, ?_⟩
    rw [hdev]
    simp [hother]

/-! ### A PLL locks again -/

theorem domainOn_settleCrossing (g d : Nat) : domainOn (settleCrossing s g) d = domainOn s d := by
  unfold domainOn bitF
  rw [settleCrossing_onlyFields g s _ (by simp [sampleCounters, fieldKey, F.PIMG.REJECT_COUNT, F.PIMG.CLAMP_COUNT,
    F.PIMG.RATE_COUNT, F.PIMG.FILTER_COUNT, F.PIMG.WRITE_REFUSED_COUNT, F.PWR.DOMAIN_STATE])]

theorem clockRuns_settleCrossing (g p : Nat) : clockRuns (settleCrossing s g) p = clockRuns s p :=
  clockRuns_congr ((settleCrossing_moves s g).frame .pwr rfl) p

/-- A crossing group may transfer: both of its domains are on, and both of its clocks run (R451). -/
def crossingFed (s : State) (g : Nat) : Bool :=
  crossingPowered s g && clockRuns s (groupClocks g).1 && clockRuns s (groupClocks g).2

theorem crossingFed_settleCrossing (g k : Nat) : crossingFed (settleCrossing s g) k = crossingFed s k := by
  simp [crossingFed, crossingPowered, domainOn_settleCrossing, clockRuns_settleCrossing]

theorem released_firstTransfer (g k : Nat) : crossingReleased (firstTransfer g s) k = crossingReleased s k :=
  crossingReleased_congr ((firstTransfer_moves g s).frame .mem rfl) k

theorem released_putReleased (n k : Nat) : crossingReleased (putReleased n s) k = n.testBit k :=
  crossingReleased_eq (putReleased n s) k

/-- A group that may transfer has left its reset once it has been settled. -/
theorem released_settleCrossing_same {g : Nat} (h : crossingFed s g = true) : crossingReleased (settleCrossing s g) g = true := by
  simp only [crossingFed, Bool.and_eq_true] at h
  obtain ⟨⟨hpower, hsource⟩, hsink⟩ := h
  cases hrel : crossingReleased s g with
  | true => simp [settleCrossing_eq, hpower, hrel]
  | false =>
    simp only [settleCrossing_eq, hpower, hrel, hsource, hsink, Bool.not_true, Bool.or_false, Bool.false_eq_true, if_false]
    rw [released_firstTransfer, released_putReleased, testBit_add_two_pow (by rw [← crossingReleased_eq, hrel])]
    simp

/-- Settling a group leaves every other one. -/
theorem released_settleCrossing_other {g k : Nat} (h : k ≠ g) : crossingReleased (settleCrossing s g) k = crossingReleased s k := by
  rw [settleCrossing_eq]
  cases hrel : crossingReleased s g with
  | true =>
    have hdrop := testBit_sub_two_pow s.mem.released g k (by rw [← crossingReleased_eq, hrel])
    split
    · rw [if_pos rfl, released_putReleased, hdrop, crossingReleased_eq]
      simp [h]
    · simp
  | false =>
    have hadd := testBit_add_two_pow (by rw [← crossingReleased_eq, hrel]) k
    split
    · simp
    · split
      · rfl
      · rw [released_firstTransfer, released_putReleased, hadd, crossingReleased_eq]
        simp [h]

theorem crossingFed_foldl (l : List Nat) (k : Nat) : crossingFed (l.foldl settleCrossing s) k = crossingFed s k := by
  induction l generalizing s with
  | nil => rfl
  | cons g l ih => exact (ih (settleCrossing s g)).trans (crossingFed_settleCrossing s g k)

theorem released_foldl (l : List Nat) {k : Nat} (hfed : crossingFed s k = true) (hk : k ∈ l ∨ crossingReleased s k = true) :
    crossingReleased (l.foldl settleCrossing s) k = true := by
  induction l generalizing s with
  | nil => exact hk.resolve_left List.not_mem_nil
  | cons g l ih =>
    refine ih (settleCrossing s g) ((crossingFed_settleCrossing s g k).trans hfed) ?_
    by_cases e : k = g
    · subst e; exact .inr (released_settleCrossing_same s hfed)
    · rw [released_settleCrossing_other s e]
      exact hk.imp_left fun hmem => (List.mem_cons.1 hmem).resolve_left e

/-- After the crossings have been settled, every one that may transfer has left its reset. -/
theorem released_settleCrossings {g : Nat} (hg : g < 12) (h : crossingFed (settleCrossings s) g = true) :
    crossingReleased (settleCrossings s) g = true :=
  released_foldl s (List.range 12) ((crossingFed_foldl s (List.range 12) g).symm.trans h) (.inl (List.mem_range.2 hg))

/-- The clock of PLL `p` runs again. -/
def clockResumed (p : Nat) (s : State) : State :=
  setBit F.PWR.PLL_LOCK p true { s with pwr := { s.pwr with stoppedClocks := s.pwr.stoppedClocks - 2 ^ p } }

theorem exec_pllRelocked {p : Nat} (hp : p < 10) (hup : inState s .off = false) (hstop : clockRuns s p = false) :
    exec (.pllRelocked p) s = .next (settleCrossings (clockResumed p s)) := by
  show execPllRelocked p s = _
  simp [execPllRelocked, hp, hup, hstop]
  rfl

theorem clockRuns_clockResumed {p : Nat} (hstop : clockRuns s p = false) (k : Nat) :
    clockRuns (clockResumed p s) k = (clockRuns s k || decide (k = p)) := by
  have hp : s.pwr.stoppedClocks.testBit p = true := by rw [clockRuns_eq] at hstop; simpa using hstop
  have hk := testBit_sub_two_pow s.pwr.stoppedClocks p k hp
  rw [clockRuns_eq, clockRuns_eq]
  show (!(s.pwr.stoppedClocks - 2 ^ p).testBit k) = _
  rw [hk]
  simp

/-- PLL_RELOCKED: the clock alone runs again, and the crossings have been settled. -/
theorem pllRelocked_resumes {p : Nat} (hp : p < 10) (hup : inState s .off = false) (hstop : clockRuns s p = false) :
    ∃ t, exec (.pllRelocked p) s = .next t ∧ (∀ k, clockRuns t k = (clockRuns s k || decide (k = p))) ∧
      (∀ g, g < 12 → crossingFed t g = true → crossingReleased t g = true) ∧
      t.dev = s.dev ∧ OnlyParts [.regs, .pimg, .lio, .spot, .mem, .cont, .pwr] s t := by
  have hexec := exec_pllRelocked s hp hup hstop
  have hmoves : Moves 0x1380062 s (settleCrossings (clockResumed p s)) := execPllRelocked_moves p s _ hexec
  exact ⟨_, hexec,
    fun k => (clockRuns_congr ((settleCrossings_moves _).frame .pwr rfl) k).trans (clockRuns_clockResumed s hstop k),
    fun g hg hfed => released_settleCrossings _ hg hfed, hmoves.frame .dev rfl, onlyParts_of_moves s _ hmoves rfl⟩

/-! ### The reference is lost -/

theorem onAir_setHealth (u v : Nat) : getF (setHealth u v s) F.SPOT.INTERLOCK_ON_AIR = getF s F.SPOT.INTERLOCK_ON_AIR :=
  setHealth_onlyFields u v s _ (healthFields_apart _ u rfl (by decide))

theorem onAir_raiseCause (c : Nat) : getF (raiseCause c s) F.SPOT.INTERLOCK_ON_AIR = getF s F.SPOT.INTERLOCK_ON_AIR :=
  raiseCause_onlyFields c s _ (by decide)

theorem onAir_setRole (r : Nat) : getF (setRole r s) F.SPOT.INTERLOCK_ON_AIR = getF s F.SPOT.INTERLOCK_ON_AIR := by
  unfold setRole
  split
  · rfl
  · exact (onAir_raiseCause _ 21).trans (getF_setF_other s _ _ r (by decide))

theorem onAir_clearFaulted : getF (clearFaulted s) F.SPOT.INTERLOCK_ON_AIR = getF s F.SPOT.INTERLOCK_ON_AIR := by
  refine List.foldlRecOn (motive := fun t => getF t F.SPOT.INTERLOCK_ON_AIR = getF s F.SPOT.INTERLOCK_ON_AIR) _ _ rfl ?_
  intro t ht u hu
  have hu : u < 24 := List.mem_range.1 hu
  split
  · rw [onAir_setHealth, getF_setF_other, getF_setF_other, getF_setBit_other]
    · exact ht
    · decide
    · simp only [fieldKey, F.TICK.UNIT_STATE_FAULTED, F.SPOT.INTERLOCK_ON_AIR]
      omega
    · simp only [fieldKey, F.TICK.UNIT_STATE_RUN, F.SPOT.INTERLOCK_ON_AIR]
      omega
  · exact ht

theorem onAir_setState (d : DevState) : getF (setState d s) F.SPOT.INTERLOCK_ON_AIR = getF s F.SPOT.INTERLOCK_ON_AIR := by
  unfold setState
  split
  · rfl
  · exact (onAir_raiseCause _ 20).trans ((getF_emit ..).trans (getF_setF_other _ _ _ _ (by decide)))

theorem onAir_triggerFlush (k : Nat) : getF (triggerFlush k s) F.SPOT.INTERLOCK_ON_AIR = getF s F.SPOT.INTERLOCK_ON_AIR := by
  have hrecord : ∀ g ∈ F.CONT.STATUS_FLUSHING :: recordFields, fieldKey g ≠ fieldKey F.SPOT.INTERLOCK_ON_AIR := by decide
  refine triggerFlush_onlyFields k s _ fun g hg => ?_
  rcases List.mem_append.1 hg with hg | hg
  · obtain ⟨e, -, rfl⟩ := List.mem_map.1 hg
    simp only [fieldKey, F.CONT.CODE_STATE_PENDING, F.SPOT.INTERLOCK_ON_AIR]
    omega
  · exact hrecord g hg

/-- Takes, units, ticks and what Spotlight had in hand have ended: `leaveLive` up to its release of ON_AIR. -/
def endLiveWork (s : State) : State :=
  let s1 := takesLeaveLive s
  let s2 := setF F.TICK.STATUS_RUNNING 0 (setF F.PIMG.STATUS_RUNNING 0 (setF F.LIO.STATUS_RUNNING 0
    (setF F.TRP.STATUS_RUNNING 0 (setF F.CAR.STATUS_RUNNING 0 s1))))
  let s3 := botStop (boeStop (lrpOff (canStop (stnStop s2))))
  let s4 := dropRound (carStop (trpStop s3))
  let s5 := setF F.SPOT.STATUS_PEER_PRESENT 0 (setF F.SPOT.STATUS_STANDIN_STATE 0 (setF F.SPOT.STATUS_PROGRAM_EXCHANGE 0 s4))
  { s5 with
    tick := { s5.tick with outbox := [], staging := [], expected := [], forceFault := [], moves := [] }
    spot := { s5.spot with joining := false, sending := false, handover := false } }

theorem leaveLive_eq (h : inState s .live = true) : leaveLive s =
    supplyHealth (setF F.PWR.STATUS_TEMP_FAILED 0 (setRole 7 (setHealth 19 0 (setHealth 9 0
      (clearFaulted (releaseAir (endLiveWork s))))))) := by
  rw [leaveLive, h]
  rfl

theorem endLiveWork_keysRise (wf : WellKept s) : keysRise (endLiveWork s).regs = true := by
  unfold endLiveWork
  extract_lets s1 s2 s3 s4 s5
  have w1 : WellKept s1 := (takesLeaveLive_moves s).form wf
  have w2 : WellKept s2 := setF_moves.form (setF_moves.form (setF_moves.form (setF_moves.form (setF_moves.form w1))))
  have w3 : WellKept s3 := (botStop_moves _).form ((boeStop_moves _).form ((lrpOff_moves _).form ((canStop_moves _).form
    ((stnStop_moves _).form w2))))
  have w4 : WellKept s4 := (dropRound_moves _).form ((carStop_moves _).form ((trpStop_moves _).form w3))
  have w5 : WellKept s5 := setF_moves.form (setF_moves.form (setF_moves.form w4))
  clear_value s5
  exact w5.regs

theorem onAir_releaseAir (h : keysRise s.regs = true) : getF (releaseAir s) F.SPOT.INTERLOCK_ON_AIR = 0 :=
  getF_setF_same s _ 0 h

theorem onAir_leaveLive (wf : WellKept s) (h : inState s .live = true) : getF (leaveLive s) F.SPOT.INTERLOCK_ON_AIR = 0 := by
  rw [leaveLive_eq s h, supplyHealth, onAir_setHealth, getF_setF_other _ _ _ _ (by decide), onAir_setRole, onAir_setHealth,
    onAir_setHealth, onAir_clearFaulted, onAir_releaseAir _ (endLiveWork_keysRise s wf)]

/-- FAULT_SAFE keeps ON_AIR released, from LIVE or not (R19). -/
theorem onAir_enterFaultSafe (wf : WellKept s) (hair : getF s F.SPOT.INTERLOCK_ON_AIR = 0) :
    getF (enterFaultSafe s) F.SPOT.INTERLOCK_ON_AIR = 0 := by
  unfold enterFaultSafe
  split
  · next hlive => rw [onAir_triggerFlush, onAir_setState, onAir_leaveLive s wf hlive]
  · exact hair

/-- The loss of the reference has been recorded and ON_AIR released. -/
def referenceGone (us : Nat) (s : State) : State :=
  releaseAir (emit 0x1706 us 0 0 { s with dev := { s.dev with referenceLost := true } })

theorem exec_referenceLost {us : Nat} (hus : 20 < us) (hup : inState s .off = false) (hthere : s.dev.referenceLost = false) :
    exec (.referenceLost us) s = .next (enterFaultSafe (referenceGone us s)) := by
  show execReferenceLost us s = _
  simp [execReferenceLost, hus, hup, hthere]
  rfl

theorem referenceGone_dev (us : Nat) : (referenceGone us s).dev = { s.dev with referenceLost := true } :=
  (emit_moves ..).frame .dev rfl

theorem referenceGone_wellKept (us : Nat) (wf : WellKept s) : WellKept (referenceGone us s) :=
  (releaseAir_moves _).form ((emit_moves ..).form
    ⟨wf.regs, wf.live, wf.snap, wf.window, wf.cond, wf.bases, wf.slots, wf.sessions, wf.ports, wf.volatileRing, wf.headers⟩)

/-- REFERENCE_LOST: ON_AIR is released, and a LIVE device is in FAULT_SAFE. -/
theorem referenceLost_releases {us : Nat} (wf : WellKept s) (hus : 20 < us) (hup : inState s .off = false)
    (hthere : s.dev.referenceLost = false) :
    ∃ t, exec (.referenceLost us) s = .next t ∧ t.dev.referenceLost = true ∧ flag t F.SPOT.INTERLOCK_ON_AIR = false ∧
      t.dev.state = (if inState s .live then .faultSafe else s.dev.state) := by
  have hdev := enterFaultSafe_dev (referenceGone us s)
  have hlive : inState (referenceGone us s) .live = inState s .live := by unfold inState; rw [referenceGone_dev]
  have hair : getF (referenceGone us s) F.SPOT.INTERLOCK_ON_AIR = 0 := onAir_releaseAir _ (by simpa using wf.regs)
  rw [referenceGone_dev, hlive] at hdev
  refine ⟨_, exec_referenceLost s hus hup hthere, by rw [hdev], ?_, by rw [hdev]⟩
  rw [flag, onAir_enterFaultSafe _ (referenceGone_wellKept s us wf) hair]
  rfl

/-! ### The reference returns -/

/-- The entry to BOOT keeps what was asked of the restart (R80). -/
theorem enterBoot_dev (retained outage : Bool) : (enterBoot retained outage s).dev.state = .boot ∧
    (enterBoot retained outage s).dev.maintenanceRequested = s.dev.maintenanceRequested := by
  unfold enterBoot
  extract_lets s1 s2 s3 s4
  have h1 : s1.dev = (newEpoch (resetState s)).dev :=
    ((showAbsent_moves _).frame .dev rfl).trans ((bootDomains_moves _).frame .dev rfl)
  have h2 : s2.dev = s1.dev := ((findHead_moves _).frame .dev rfl).trans ((putLogFill_moves _).frame .dev rfl)
  have h3 : s3.dev = { s1.dev with state := .boot } := by rw [← h2]; exact setState_dev s2 .boot
  have h4 : s4.dev = s3.dev := ((batReplay_moves ..).frame .dev rfl).trans ((batRestore_moves ..).frame .dev rfl)
  have h5 : (showSecHealth (finishZeroise (showKeys s4))).dev = s4.dev :=
    ((showSecHealth_moves _).frame .dev rfl).trans (((finishZeroise_moves _).frame .dev rfl).trans ((showKeys_moves _).frame .dev rfl))
  rw [h5, h4, h3, h1]
  exact ⟨rfl, rfl⟩

theorem restartFlush_dev (m : Bool) :
    (restartFlush m s).dev.state = .boot ∧ (restartFlush m s).dev.maintenanceRequested = m :=
  enterBoot_dev _ true false

theorem windowsOpen_congr {s t : State} (h : t.boe = s.boe) : windowsOpen t = windowsOpen s := by
  unfold windowsOpen
  rw [h]

/-- A restart outside LIVE with no window open and with the reference there leads to BOOT at once (R79). -/
theorem restart_boots (m : Bool) (hpf : powerFailing s = false) (hflush : s.dev.flushing = none) (href : s.dev.referenceLost = false)
    (hlive : inState s .live = false) (hwin : windowsOpen s = false) :
    (restart m s).dev.state = .boot ∧ (restart m s).dev.maintenanceRequested = m := by
  have hclosed : windowsOpen (endSessions 6 (lrpOff (dropOutputs (releaseAir s)))) = false := by
    refine (windowsOpen_congr ?_).trans hwin
    exact ((endSessions_moves ..).frame .boe rfl).trans ((lrpOff_moves _).frame .boe rfl)
  have hnow : restart m s = restartFlush m (endSessions 6 (lrpOff (dropOutputs (releaseAir s)))) := by
    simp [restart, restartNow, leaveLive, hpf, hflush, href, hlive, hclosed]
  rw [hnow]
  exact restartFlush_dev _ m

/-- REFERENCE_RETURNED with a restart that waited. -/
theorem referenceReturned_restarts {m : Bool} (hwait : s.dev.restartWaits = some m) (hpf : powerFailing s = false)
    (hflush : s.dev.flushing = none) (hlive : inState s .live = false) (hwin : windowsOpen s = false) :
    ∃ t, exec .referenceReturned s = .next t ∧ t.dev.state = .boot ∧ t.dev.maintenanceRequested = m := by
  refine ⟨restart m { s with dev := { s.dev with referenceLost := false, restartWaits := none } }, ?_,
    restart_boots _ m hpf hflush rfl hlive hwin⟩
  show execReferenceReturned s = _
  simp [execReferenceReturned, hwait]

/-- REFERENCE_RETURNED with none. -/
theorem referenceReturned_stays (hwait : s.dev.restartWaits = none) :
    exec .referenceReturned s = .next { s with dev := { s.dev with referenceLost := false } } := by
  show execReferenceReturned s = _
  simp [execReferenceReturned, hwait]

end Sys2Proof.Machine
end

section
/-! The statement about clocks and the reference. -/

namespace Sys2Proof.Certificates

open Sys2Proof Sys2Proof.Machine

/-- Settles O22: the two PLL events by what hangs on a clock, and the two reference events by FAULT_SAFE and the restart. -/
theorem clocksAndReference : Obligations.ClocksAndReference := by
  refine ⟨fun p s hp hup hrun => ?_, fun p s hp hup hstop => ?_,
    fun us s wf hus hup hthere => referenceLost_releases s wf hus hup hthere,
    fun s => ⟨referenceReturned_stays s, fun m hwait hpf hflush hlive hwin => referenceReturned_restarts s hwait hpf hflush hlive hwin⟩⟩
  · obtain ⟨t, hexec, hclock, hfailed, hstate⟩ := pllUnlocked_stops s hp hup hrun
    refine ⟨t, hexec, hclock, fun u hu hpres hu' => ?_, fun hcore hlive => ?_, fun h1 h8 => ?_⟩
    · simpa [staysFailed, Nat.testBit_eq_decide_div_mod_eq] using hfailed u hu hpres hu'
    · rw [hstate, if_pos ⟨hcore, hlive⟩]
    · rw [hstate, if_neg (by tauto)]
  · obtain ⟨t, hexec, hclocks, hcross, hdev, hparts⟩ := pllRelocked_resumes s hp hup hstop
    refine ⟨t, hexec, by rw [hclocks]; simp, fun q hq => by rw [hclocks]; simp [hq], fun g hg hpower hsource hsink => ?_, hdev, hparts⟩
    exact hcross g hg (by simp [crossingFed, hpower, hsource, hsink])

end Sys2Proof.Certificates
end

section
/-! SUPPORT. A state in which the summary of a suppressed code takes POWER_FAIL_COUNT back to 0. -/

namespace Sys2Proof.Machine

open Sys2Proof

/-- A number beyond the 6,144 codes of CODE_STATE (R472): its PENDING has the key of POWER_FAIL_COUNT, and nothing in the form of a
state keeps the recorder's table of suppressed codes from holding it. -/
def strayCode : Nat := 0xBC009

/-- A module in MAINTENANCE whose recorder has a run of the stray code suppressed, and is otherwise fresh. -/
def strayState : State :=
  { State.reset with
    dev := { State.reset.dev with state := .maintenance }
    cont := { State.reset.cont with suppressed := [(strayCode, {})] } }

theorem strayState_wellKept : WellKept strayState :=
  ⟨wellKept_reset.regs, rfl, rfl, rfl, rfl, rfl, rfl, rfl, rfl, wellKept_reset.volatileRing, rfl⟩

/-- The flush that starts with the power-fail sequence writes the stray code's summary and clears its PENDING, and with it the
count of the failure (R462, R465). -/
theorem strayState_loses_count :
    ∃ t, exec (.powerFailStarted 0 0 0) strayState = .next t ∧ getF t F.PWR.POWER_FAIL_COUNT = 0 :=
  ⟨_, rfl, by decide +kernel⟩

end Sys2Proof.Machine
end

section
/-! The statement about the power-fail sequence. -/

namespace Sys2Proof.Certificates

open Sys2Proof Sys2Proof.Machine

/-- Refutes O20, in the clause on POWER_FAIL_COUNT: `WellKept` lets the recorder hold any number as the code of a suppressed
run, and where such a number's PENDING has the key of POWER_FAIL_COUNT, the flush that the sequence starts takes the count that
has just gone up back to 0. -/
theorem not_powerFailSequenceShedsTheDomains : ¬ Obligations.PowerFailSequenceShedsTheDomains := by
  intro h
  obtain ⟨t, hexec, -, -, -, -, hcount, -, -⟩ := h.1 0 0 0 strayState strayState_wellKept rfl rfl (by decide)
  obtain ⟨u, hexec', hzero⟩ := strayState_loses_count
  obtain rfl : t = u := by rw [hexec] at hexec'; exact Host.Outcome.next.inj hexec'
  have hbefore : getF strayState F.PWR.POWER_FAIL_COUNT = 0 := by decide +kernel
  rw [hzero, hbefore] at hcount
  exact absurd hcount (by decide)

end Sys2Proof.Certificates
end

section
/-! SUPPORT. What a command moves, from the laws of its own operations: the parts that Safety's `touches` lists, and the form of the
state. -/

namespace Sys2Proof.Machine

open Sys2Proof

/-- An answer moves within every mask that covers its own. -/
theorem resultMoves_mono {a m : Nat} {s : State} {r : Result} (h : ResultMoves a s r) (hs : sub a m = true) : ResultMoves m s r :=
  fun t e => moves_step (h t e) hs moves_refl

/-- A command moves no more than the parts that it may touch, and keeps the form of the state. The instructions of the Carousel
share one law, and so do the operations of the Storyboard; every other command has its own. -/
theorem exec_moves (c : Instr) (s : State) : ResultMoves (Part.mask (touches c)) s (exec c s) := by
  cases c <;> dsimp only [touches]
  case carNop | carLd | carLdn | carAnd | carAndn | carOr | carOrn | carXor | carSt | carStn | carSet | carRst |
      carLdq | carNot | carTrue | carPush | carRead | carPop | carAndp | carOrp | carRtrig | carFtrig | carTon |
      carTof | carTp | carCnt | carCrst | carLdw | carStw | carAddi | carSubi | carMuli | carDivi | carAndw |
      carOrw | carAddf | carSubf | carMulf | carDivf | carMinf | carMaxf | carItof | carFtoi | carEqi | carLti |
      carGti | carLtf | carGtf | carEqw | carSel | carJmp | carJmpt | carJmpf =>
    exact resultMoves_mono (a := 0x60021a) (resultMoves_next (carStep_moves ..)) rfl
  case loadPanel | factor | trsm | update | stbSend | extendAdd | storePanel | arrive | wait | fwd | diag | bwd |
      resid | boundStep | move | residuals | measure | prepare | reduce =>
    exact resultMoves_mono (a := 0x600802) (resultMoves_next (storyOp_moves ..)) rfl
  case x1Good => exact resultMoves_mono (execX1Good_moves _ _ _ s) rfl
  case bootSelfTestsDone => exact resultMoves_mono (execBootSelfTestsDone_moves _ s) rfl
  case loadDone => exact resultMoves_mono (execLoadDone_moves _ _ s) rfl
  case loadFailed => exact resultMoves_mono (execLoadFailed_moves _ _ s) rfl
  case cardRemoved => exact resultMoves_mono (execCardRemoved_moves s) rfl
  case lockWaitExpired => exact resultMoves_mono (execLockWaitExpired_moves s) rfl
  case startConditionMet => exact resultMoves_mono (execStartConditionMet_moves _ s) rfl
  case goLive => exact resultMoves_mono (execGoLive_moves s) rfl
  case go => exact resultMoves_mono (execGo_moves _ _ s) rfl
  case restart => exact resultMoves_mono (execRestart_moves _ _ s) rfl
  case maintenance => exact resultMoves_mono (execMaintenance_moves _ _ s) rfl
  case discardSpliceLog => exact resultMoves_mono (execDiscardSpliceLog_moves _ _ s) rfl
  case tickStart => exact resultMoves_mono (execTickStart_moves _ _ s) rfl
  case injectEnded => exact resultMoves_mono (execInjectEnded_moves _ s) rfl
  case curtain => exact resultMoves_mono (execCurtain_moves s) rfl
  case healthPeriodic => exact resultMoves_mono (execHealthPeriodic_moves s) rfl
  case stagingPost => exact resultMoves_mono (execStagingPost_moves _ _ s) rfl
  case clearCounts => exact resultMoves_mono (execClearCounts_moves _ _ s) rfl
  case powerFailStarted => exact resultMoves_mono (execPowerFailStarted_moves _ _ _ s) rfl
  case powerFailShed => exact resultMoves_mono (execPowerFailShed_moves s) rfl
  case powerFailOff => exact resultMoves_mono (execPowerFailOff_moves s) rfl
  case inputLost => exact resultMoves_mono (execInputLost_moves _ _ s) rfl
  case inputRestored => exact resultMoves_mono (execInputRestored_moves _ _ s) rfl
  case inputOvervoltage => exact resultMoves_mono (execInputOvervoltage_moves _ _ s) rfl
  case pllUnlocked => exact resultMoves_mono (execPllUnlocked_moves _ s) rfl
  case pllRelocked => exact resultMoves_mono (execPllRelocked_moves _ s) rfl
  case referenceLost => exact resultMoves_mono (execReferenceLost_moves _ s) rfl
  case tempHigh => exact resultMoves_mono (execTempHigh_moves _ s) rfl
  case tempNormal => exact resultMoves_mono (execTempNormal_moves _ s) rfl
  case tempFailed => exact resultMoves_mono (execTempFailed_moves _ s) rfl
  case thermalShutdown => exact resultMoves_mono (execThermalShutdown_moves _ s) rfl
  case open_ => exact resultMoves_mono (execOpen_moves _ _ s) rfl
  case stage => exact resultMoves_mono (execStage_moves _ _ _ _ s) rfl
  case commit => exact resultMoves_mono (execCommit_moves _ _ s) rfl
  case cut => exact resultMoves_mono (execCut_moves _ _ s) rfl
  case readTunable => exact resultMoves_mono (execReadTunable_moves _ _ _ s) rfl
  case takeExpired => exact resultMoves_mono (execTakeExpired_moves _ s) rfl
  case writeAheadTurn => exact resultMoves_mono (execWriteAheadTurn_moves s) rfl
  case takeBodyWritten => exact resultMoves_mono (execTakeBodyWritten_moves s) rfl
  case takeCommitted => exact resultMoves_mono (execTakeCommitted_moves s) rfl
  case takeVoided => exact resultMoves_mono (execTakeVoided_moves _ s) rfl
  case spliceWriteFailed => exact resultMoves_mono (execSpliceWriteFailed_moves s) rfl
  case pointSample => exact resultMoves_mono (execPointSample_moves _ _ _ _ _ s) rfl
  case pointStale => exact resultMoves_mono (execPointStale_moves _ s) rfl
  case analogInputSample => exact resultMoves_mono (execAnalogInputSample_moves _ s) rfl
  case shuntOpen => exact resultMoves_mono (execShuntOpen_moves _ s) rfl
  case shuntReclose => exact resultMoves_mono (execShuntReclose_moves _ s) rfl
  case rtdConversion => exact resultMoves_mono (execRtdConversion_moves _ _ _ s) rfl
  case digitalInputChange => exact resultMoves_mono (execDigitalInputChange_moves _ _ s) rfl
  case pulseTransfer => exact resultMoves_mono (execPulseTransfer_moves s) rfl
  case digitalOutputOvercurrent => exact resultMoves_mono (execDigitalOutputOvercurrent_moves _ _ s) rfl
  case outputRetry => exact resultMoves_mono (execOutputRetry_moves _ _ s) rfl
  case analogOutputFault => exact resultMoves_mono (execAnalogOutputFault_moves _ _ s) rfl
  case roundStart => exact resultMoves_mono (execRoundStart_moves s) rfl
  case roundAssembled => exact resultMoves_mono (execRoundAssembled_moves _ _ s) rfl
  case segmentRunEnd => exact resultMoves_mono (execSegmentRunEnd_moves _ _ s) rfl
  case segmentStalled => exact resultMoves_mono (execSegmentStalled_moves s) rfl
  case roundDeadline => exact resultMoves_mono (execRoundDeadline_moves _ _ s) rfl
  case planWritten => exact resultMoves_mono (execPlanWritten_moves s) rfl
  case clusterWakeFailed => exact resultMoves_mono (execClusterWakeFailed_moves _ s) rfl
  case injectStart => exact resultMoves_mono (execInjectStart_moves _ _ _ s) rfl
  case injectStop => exact resultMoves_mono (execInjectStop_moves _ _ s) rfl
  case captureArm => exact resultMoves_mono (execCaptureArm_moves _ _ _ s) rfl
  case captureStop => exact resultMoves_mono (execCaptureStop_moves _ _ s) rfl
  case repClear => exact resultMoves_mono (execRepClear_moves _ _ s) rfl
  case carEnd => exact resultMoves_mono (execCarEnd_moves _ _ s) rfl
  case windowClose => exact resultMoves_mono (execWindowClose_moves _ s) rfl
  case windowProcessed => exact resultMoves_mono (execWindowProcessed_moves _ s) rfl
  case demandIntervalClose => exact resultMoves_mono (execDemandIntervalClose_moves s) rfl
  case thermalIntervalClose => exact resultMoves_mono (execThermalIntervalClose_moves s) rfl
  case calStart => exact resultMoves_mono (execCalStart_moves _ _ _ s) rfl
  case calAbort => exact resultMoves_mono (execCalAbort_moves _ _ s) rfl
  case calDone => exact resultMoves_mono (execCalDone_moves s) rfl
  case periodicSave => exact resultMoves_mono (execPeriodicSave_moves s) rfl
  case saveFailed => exact resultMoves_mono (execSaveFailed_moves _ s) rfl
  case flushSave => exact resultMoves_mono (execFlushSave_moves s) rfl
  case batterySecond => exact resultMoves_mono (execBatterySecond_moves _ s) rfl
  case batteryCheck => exact resultMoves_mono (execBatteryCheck_moves _ s) rfl
  case tamperOpen => exact resultMoves_mono (execTamperOpen_moves s) rfl
  case tamperClosed => exact resultMoves_mono (execTamperClosed_moves s) rfl
  case tamperClear => exact resultMoves_mono (execTamperClear_moves _ _ s) rfl
  case offsetMeasurement => exact resultMoves_mono (execOffsetMeasurement_moves _ _ s) rfl
  case domainHoldover => exact resultMoves_mono (execDomainHoldover_moves _ s) rfl
  case domainInvalid => exact resultMoves_mono (execDomainInvalid_moves _ s) rfl
  case localRevert => exact resultMoves_mono (execLocalRevert_moves _ s) rfl
  case announceReceived => exact resultMoves_mono (execAnnounceReceived_moves _ _ s) rfl
  case pdelayReq => exact resultMoves_mono (execPdelayReq_moves _ _ s) rfl
  case setIncrement => exact resultMoves_mono (execSetIncrement_moves _ _ _ _ s) rfl
  case step => exact resultMoves_mono (execStep_moves _ _ _ _ s) rfl
  case setLock => exact resultMoves_mono (execSetLock_moves _ _ _ s) rfl
  case select => exact resultMoves_mono (execSelect_moves _ _ s) rfl
  case linkUp => exact resultMoves_mono (execLinkUp_moves _ s) rfl
  case linkDown => exact resultMoves_mono (execLinkDown_moves _ s) rfl
  case sfpMismatch => exact resultMoves_mono (execSfpMismatch_moves _ _ s) rfl
  case backboneFrameRx => exact resultMoves_mono (execBackboneFrameRx_moves _ s) rfl
  case prpSupervisionSend => exact resultMoves_mono (execPrpSupervisionSend_moves _ s) rfl
  case prpNodeForget => exact resultMoves_mono (execPrpNodeForget_moves _ s) rfl
  case frameLaunch => exact resultMoves_mono (execFrameLaunch_moves _ s) rfl
  case detection => exact resultMoves_mono (execDetection_moves _ _ _ s) rfl
  case powerFault => exact resultMoves_mono (execPowerFault_moves _ _ _ s) rfl
  case powerOff => exact resultMoves_mono (execPowerOff_moves _ _ s) rfl
  case powerOn => exact resultMoves_mono (execPowerOn_moves _ _ s) rfl
  case inputFrame => exact resultMoves_mono (execInputFrame_moves _ s) rfl
  case stationAbsent => exact resultMoves_mono (execStationAbsent_moves _ s) rfl
  case stationSummary => exact resultMoves_mono (execStationSummary_moves _ s) rfl
  case netDropPoint => exact resultMoves_mono (execNetDropPoint_moves s) rfl
  case canFrameRx => exact resultMoves_mono (execCanFrameRx_moves _ _ s) rfl
  case messageAged => exact resultMoves_mono (execMessageAged_moves _ _ s) rfl
  case canWindowStart => exact resultMoves_mono (execCanWindowStart_moves _ _ s) rfl
  case canWindowEnd => exact resultMoves_mono (execCanWindowEnd_moves _ s) rfl
  case canFrameSent => exact resultMoves_mono (execCanFrameSent_moves _ s) rfl
  case canBusError => exact resultMoves_mono (execCanBusError_moves _ _ _ s) rfl
  case recoveryDone => exact resultMoves_mono (execRecoveryDone_moves _ s) rfl
  case send => exact resultMoves_mono (execSend_moves _ _ _ s) rfl
  case recover => exact resultMoves_mono (execRecover_moves _ _ _ s) rfl
  case grantConfirmed => exact resultMoves_mono (execGrantConfirmed_moves _ _ _ s) rfl
  case ringmasterLost => exact resultMoves_mono (execRingmasterLost_moves s) rfl
  case ringmasterReturned => exact resultMoves_mono (execRingmasterReturned_moves _ _ _ s) rfl
  case ringmasterStartGrant => exact resultMoves_mono (execRingmasterStartGrant_moves _ _ s) rfl
  case grantMoved => exact resultMoves_mono (execGrantMoved_moves _ _ s) rfl
  case grantRaise => exact resultMoves_mono (execGrantRaise_moves s) rfl
  case spotLead => exact resultMoves_mono (execSpotLead_moves _ s) rfl
  case outputRelease => exact resultMoves_mono (execOutputRelease_moves s) rfl
  case joinRequest => exact resultMoves_mono (execJoinRequest_moves _ s) rfl
  case mirrorDelta => exact resultMoves_mono (execMirrorDelta_moves _ _ s) rfl
  case mirrorMiss => exact resultMoves_mono (execMirrorMiss_moves s) rfl
  case returnSend => exact resultMoves_mono (execReturnSend_moves s) rfl
  case returnFrame => exact resultMoves_mono (execReturnFrame_moves _ s) rfl
  case peerLost => exact resultMoves_mono (execPeerLost_moves s) rfl
  case handover => exact resultMoves_mono (execHandover_moves _ _ s) rfl
  case rejoin => exact resultMoves_mono (execRejoin_moves _ _ s) rfl
  case scrubRead => exact resultMoves_mono (execScrubRead_moves _ _ _ s) rfl
  case crossingStalled => exact resultMoves_mono (execCrossingStalled_moves _ s) rfl
  case crossingResumed => exact resultMoves_mono (execCrossingResumed_moves _ _ s) rfl
  case clearTable => exact resultMoves_mono (execClearTable_moves _ _ _ s) rfl
  case setScrub => exact resultMoves_mono (execSetScrub_moves _ _ _ s) rfl
  case recordAdmit => exact resultMoves_mono (execRecordAdmit_moves _ s) rfl
  case summaryTimeout => exact resultMoves_mono (execSummaryTimeout_moves _ s) rfl
  case flushTimer => exact resultMoves_mono (execFlushTimer_moves s) rfl
  case flushDone => exact resultMoves_mono (execFlushDone_moves _ s) rfl
  case flush => exact resultMoves_mono (execFlush_moves _ _ s) rfl
  case contRead => exact resultMoves_mono (execContRead_moves _ _ _ _ s) rfl
  case readStop => exact resultMoves_mono (execReadStop_moves _ _ s) rfl
  case readDone => exact resultMoves_mono (execReadDone_moves _ s) rfl
  case sessionBegin => exact resultMoves_mono (execSessionBegin_moves _ _ _ s) rfl
  case sessionProve => exact resultMoves_mono (execSessionProve_moves _ _ _ s) rfl
  case sessionProofTimeout => exact resultMoves_mono (execSessionProofTimeout_moves _ s) rfl
  case sessionClose => exact resultMoves_mono (execSessionClose_moves _ _ _ s) rfl
  case sessionEnded => exact resultMoves_mono (execSessionEnded_moves _ s) rfl
  case installKey => exact resultMoves_mono (execInstallKey_moves _ _ _ s) rfl
  case deleteKey => exact resultMoves_mono (execDeleteKey_moves _ _ _ _ s) rfl
  case keyInfo => exact resultMoves_mono (execKeyInfo_moves _ _ _ s) rfl
  case zeroise => exact resultMoves_mono (execZeroise_moves _ _ _ s) rfl
  case getCert => exact resultMoves_mono (execGetCert_moves _ _ _ s) rfl
  case attest => exact resultMoves_mono (execAttest_moves _ _ _ s) rfl
  case random => exact resultMoves_mono (execRandom_moves _ _ _ s) rfl
  case selfTestFailed => exact resultMoves_mono (execSelfTestFailed_moves _ s) rfl
  case microcodeWrite => exact resultMoves_mono (execMicrocodeWrite_moves _ _ _ _ _ s) rfl
  case setMinVersion => exact resultMoves_mono (execSetMinVersion_moves _ _ _ s) rfl
  case debugUnlock => exact resultMoves_mono (execDebugUnlock_moves _ _ _ s) rfl
  case hostReset => exact resultMoves_mono (execHostReset_moves _ s) rfl
  case linkChanged => exact resultMoves_mono (execLinkChanged_moves _ _ _ _ s) rfl
  case ringWrite => exact resultMoves_mono (execRingWrite_moves _ _ s) rfl
  case ringModeration => exact resultMoves_mono (execRingModeration_moves _ s) rfl
  case consWrite => exact resultMoves_mono (execConsWrite_moves _ _ s) rfl
  case ringEnable => exact resultMoves_mono (execRingEnable_moves _ s) rfl
  case submissionFetch => exact resultMoves_mono (execSubmissionFetch_moves _ _ _ s) rfl
  case txRingDoorbell => exact resultMoves_mono (execTxRingDoorbell_moves _ _ _ s) rfl
  case mgmtBegin => exact resultMoves_mono (execMgmtBegin_moves _ _ s) rfl
  case mgmtProve => exact resultMoves_mono (execMgmtProve_moves _ _ s) rfl
  case mgmtCommand => exact resultMoves_mono (execMgmtCommand_moves _ _ _ s) rfl
  case mgmtRead => exact resultMoves_mono (execMgmtRead_moves _ s) rfl
  case mgmtWrite => exact resultMoves_mono (execMgmtWrite_moves _ s) rfl
  case arpRequest => exact resultMoves_mono (execArpRequest_moves _ _ s) rfl
  case subscribe => exact resultMoves_mono (execSubscribe_moves _ _ s) rfl
  case unsubscribe => exact resultMoves_mono (execUnsubscribe_moves _ _ s) rfl
  case ringBind => exact resultMoves_mono (execRingBind_moves _ _ _ _ s) rfl
  case badAccess => exact resultMoves_mono (execBadAccess_moves _ _ _ s) rfl
  case absentAccess => exact resultMoves_mono (execAbsentAccess_moves _ _ s) rfl
  case gatedAccess => exact resultMoves_mono (execGatedAccess_moves _ _ s) rfl
  case tkWriteDropped => exact resultMoves_mono (execTkWriteDropped_moves _ _ s) rfl
  case rcRead => exact resultMoves_mono (execRcRead_moves _ s) rfl
  case latchedLoRead => exact resultMoves_mono (execLatchedLoRead_moves _ s) rfl
  case w1cWrite => exact resultMoves_mono (execW1cWrite_moves _ _ s) rfl
  case newDataClear => exact resultMoves_mono (execNewDataClear_moves _ _ s) rfl
  case registerWrite => exact resultMoves_mono (execRegisterWrite_moves _ _ _ s) rfl
  case pulseEdge => exact resultMoves_mono (execPulseEdge_moves _ s) rfl
  case armedBeat => exact resultMoves_mono (execArmedBeat_moves s) rfl
  case referenceReturned => exact resultMoves_mono (execReferenceReturned_moves s) rfl
  case holdUpExhausted => exact resultMoves_mono (execHoldUpExhausted_moves s) rfl
  case lockoutExpired => exact resultMoves_mono (execLockoutExpired_moves _ _ s) rfl
  case secCommandDone => exact resultMoves_mono (execSecCommandDone_moves s) rfl
  case mirroredEntryDurable => exact resultMoves_mono (execMirroredEntryDurable_moves _ s) rfl
  case pdelayRespReceived => exact resultMoves_mono (execPdelayRespReceived_moves _ _ s) rfl
  case msixUnmask => exact resultMoves_mono (execMsixUnmask_moves _ s) rfl
  case busMasterEnable => exact resultMoves_mono (execBusMasterEnable_moves _ s) rfl
  case analogOutputFaultCleared => exact resultMoves_mono (execAnalogOutputFaultCleared_moves _ s) rfl

end Sys2Proof.Machine
end

section
/-! The statement about the parts that a command may touch. -/

namespace Sys2Proof.Certificates

open Sys2Proof Sys2Proof.Machine

/-- Settles O4, from the law of each command's own operations. -/
theorem everyCommandTouchesOnlyItsParts : Obligations.EveryCommandTouchesOnlyItsParts := by
  intro c s t hexec p hp
  exact (exec_moves c s t hexec).frame p (mask_testBit _ p hp)

end Sys2Proof.Certificates
end

section
/-! The statement about the queue. -/

namespace Sys2Proof.Certificates

open Sys2Proof Sys2Proof.Machine

/-- Settles O1: a state whose queue has a front takes that branch of the step. -/
theorem stepRunsFrontCommand : Obligations.StepRunsFrontCommand := fun _ _ _ => rfl

end Sys2Proof.Certificates
end

section
/-! SUPPORT. The laws of the collector's staging queue: a post that arrives and the order in which it is kept (R37, R39). -/

namespace Sys2Proof.Machine

open Sys2Proof

variable {s : State}

theorem mem_insertStaged {e x : StagedEntry} {l : List StagedEntry} : x ∈ insertStaged e l ↔ x = e ∨ x ∈ l := by
  induction l with
  | nil => simp [insertStaged]
  | cons y l ih =>
    rw [insertStaged]
    split
    · exact List.mem_cons
    · rw [List.mem_cons, ih, List.mem_cons]
      tauto

/-- Time goes on to a cycle of the present tick, and never back. -/
theorem elapseTo_tick (n : Nat) : (elapseTo n s).tick = { s.tick with cycle := max n s.tick.cycle } := by
  have hcycle : s.tick.cycle + (n - s.tick.cycle) = max n s.tick.cycle := by omega
  rw [← hcycle]
  rfl

@[simp] theorem emit_tick (code w1 w2 w3 : Nat) : (emit code w1 w2 w3 s).tick = s.tick := (emit_moves ..).frame .tick rfl

@[simp] theorem setBit_tick (f : Field) (i : Nat) (b : Bool) : (setBit f i b s).tick = s.tick := (setBit_moves ..).frame .tick rfl

/-- Whatever becomes of a post, the collector takes nothing out of the units' hands. -/
theorem collectEntry_outbox (e : StagedEntry) : (collectEntry e s).tick.outbox = s.tick.outbox := by
  unfold collectEntry
  extract_lets u limit have_ e1 s1 b
  split
  · rw [emit_tick]
  · split
    · rw [emit_tick, setBit_tick]
    · rfl

/-- A unit may still post for the Curtain of tick `due` (R39). -/
def PostsInLimit (s : State) (u due : Nat) : Prop :=
  s.tick.staging.countP (fun x => x.unit == u && x.due == due) < min 64 (unitEntry s u).maxEntries

/-- A post of a unit that may still post is staged with the present cycle and tick. -/
theorem collectEntry_staging {e : StagedEntry} (h : PostsInLimit s e.unit e.due) : (collectEntry e s).tick.staging =
    insertStaged { e with arrival := s.tick.cycle, arrivalTick := s.tick.number } s.tick.staging := by
  unfold collectEntry
  extract_lets u limit have_ e1 s1 b
  rw [if_neg (Nat.not_le.2 h)]
  split
  · rw [emit_tick, setBit_tick]
  · rfl

/-- The state in which a post arrives: time has gone on to its cycle, and it is out of its unit's hands. -/
def postArrives (n : Nat) (e : StagedEntry) (s : State) : State :=
  { elapseTo n s with tick := { (elapseTo n s).tick with outbox := (elapseTo n s).tick.outbox.erase e } }

theorem exec_stagingPost {u n : Nat} {e : StagedEntry} (hrun : ticksRun s = true)
    (he : s.tick.outbox.find? (fun x => x.unit == u) = some e) :
    exec (.stagingPost u n) s = .next (if bitF s F.TICK.FAULTED u || !curtainAhead (elapseTo n s) e.due then postArrives n e s
      else collectEntry e (postArrives n e s)) := by
  show execStagingPost u n s = _
  rw [execStagingPost, hrun, he]
  rfl

end Sys2Proof.Machine
end

section
/-! The statement about posts. -/

namespace Sys2Proof.Certificates

open Sys2Proof Sys2Proof.Machine

/-- Settles O13: the collector keeps a post of a healthy unit in its time, and drops one of a FAULTED unit. -/
theorem stagingPostReachesTheCollector : Obligations.StagingPostReachesTheCollector := by
  intro u n s hrun e he
  obtain rfl : e.unit = u := by simpa using List.find?_some he
  refine ⟨_, exec_stagingPost hrun he, ?_, fun hok hahead hmay => ?_, fun hfaulted => ?_⟩
  · split
    · rfl
    · exact collectEntry_outbox e
  · have hstaged := collectEntry_staging (s := postArrives n e s) (e := e) hmay
    simp only [hok, hahead, Bool.not_true, Bool.or_self, Bool.false_eq_true, if_false, hstaged, mem_insertStaged]
    refine ⟨.inl ?_, fun x hx => .inr hx⟩
    rw [postArrives, elapseTo_tick]
  · simp only [hfaulted, Bool.true_or, if_true]
    rfl

end Sys2Proof.Certificates
end

section
/-! SUPPORT. What a command answers whose caller may give it: its result, and the fields and parts that the answer changes
(R78, R101, R102). -/

namespace Sys2Proof.Machine

open Sys2Proof

variable {s t : State} {c : Caller} {roles : List Nat}

/-! ### The caller's session -/

theorem callerSlot_lt {k : Nat} (h : callerSlot s c = some k) : k < 8 := by
  have hopen : ∀ j, sessionOpen s j = true → j < 8 := fun j hj => by simp_all [sessionOpen]
  have hbar : barSlot s = some k → k < 8 := fun hb => List.mem_range.1 (List.mem_of_find?_eq_some hb)
  unfold callerSlot at h
  split at h
  · split at h
    · split at h
      next hj =>
        rw [Bool.and_eq_true] at hj
        exact Option.some.inj h ▸ hopen _ hj.1
      next => cases h
    · cases h
  · exact hbar h

/-- The idle times of the sessions (R480). -/
def idleFields : List Field := (List.range 8).map F.SEC.SES_IDLE

theorem touchSession_onlyFields (c : Caller) (s : State) : OnlyFields idleFields s (touchSession c s) := by
  unfold touchSession
  split
  · rename_i k hk
    have hmem : F.SEC.SES_IDLE k ∈ idleFields := List.mem_map_of_mem (List.mem_range.2 (callerSlot_lt hk))
    exact fun f hf => getF_setF_other _ _ f 0 (hf _ hmem)
  · exact onlyFields_refl

/-! ### The checks of R102 -/

theorem runCommand_ok {u op a0 res ret : Nat} {body : State → Body} (h : Admitted c roles s)
    (hbody : body (touchSession c s) = .ok (t, res, ret)) :
    (runCommand u op c a0 (some roles) true body s).1 = showResult u op { result := res, ret := ret } t := by
  obtain ⟨⟨r, hr, hrole⟩, hpower, htie, hspare⟩ := h
  simp [runCommand, hrole, hr, hpower, htie, hspare, hbody]

/-- A refusal past the check of the caller's role: of the device state, or by the command's own checks. -/
theorem runCommand_error {u op a0 e : Nat} {legal : Bool} {body : State → Body} (hu : u ≠ 2) (h : Admitted c roles s)
    (herror : (if legal then body (touchSession c s) else .error resIllegal) = .error e) :
    (runCommand u op c a0 (some roles) legal body s).1 =
      showResult u op { result := e } (emit (u * 256 + 0xFF) op e a0 (touchSession c s)) := by
  obtain ⟨⟨r, hr, hrole⟩, hpower, htie, hspare⟩ := h
  cases legal
  case false =>
    obtain rfl : resIllegal = e := Except.error.inj herror
    simp [runCommand, hrole, hr, hpower, hu]
  case true =>
    rw [if_pos rfl] at herror
    simp [runCommand, hrole, hr, hpower, htie, hspare, hu, herror]

end Sys2Proof.Machine
end

section
/-! SUPPORT. The laws of CLEAR_COUNTS (R47). -/

namespace Sys2Proof.Machine

open Sys2Proof

variable {s t : State} {c : Caller} {u : Nat}

/-- The fields in which TICK shows a command's result. -/
def tickResultFields : List Field := [F.TICK.CMD_RESULT_OPCODE, F.TICK.CMD_RESULT_RESULT]

/-- TICK's answer to a command, shown in a state `t` that `s` has come to. -/
structure TickAnswers (fs : List Field) (ps : List Part) (res : Nat) (s t : State) : Prop where
  result : getF t F.TICK.CMD_RESULT_RESULT = res
  parts : OnlyParts ps s t
  fields : OnlyFields (fs ++ (tickResultFields ++ idleFields)) s t

theorem tickResult_onlyFields (op : Nat) (r : Reply) (s : State) : OnlyFields tickResultFields s (showResult 1 op r s) :=
  onlyFields_setF (by simp [tickResultFields]) (onlyFields_setF (by simp [tickResultFields]) onlyFields_refl)

theorem getF_tickResult (op : Nat) (r : Reply) (h : keysRise s.regs = true) :
    getF (showResult 1 op r s) F.TICK.CMD_RESULT_RESULT = r.result % 2 ^ 8 :=
  getF_setF_same _ F.TICK.CMD_RESULT_RESULT r.result (setF_keysRise s F.TICK.CMD_RESULT_OPCODE op h)

/-- TICK's result fields are none of the overrun counts. -/
theorem getF_overrunCount_tickResult (op k : Nat) (r : Reply) (s : State) :
    getF (showResult 1 op r s) (F.TICK.UNIT_OVERRUN_COUNT k) = getF s (F.TICK.UNIT_OVERRUN_COUNT k) := by
  refine tickResult_onlyFields op r s _ fun g hg => ?_
  simp only [tickResultFields, List.mem_cons, List.not_mem_nil, or_false] at hg
  rcases hg with rfl | rfl
  · simp only [fieldKey, F.TICK.CMD_RESULT_OPCODE, F.TICK.UNIT_OVERRUN_COUNT]
    omega
  · simp only [fieldKey, F.TICK.CMD_RESULT_RESULT, F.TICK.UNIT_OVERRUN_COUNT]
    omega

/-- The state after a CLEAR_COUNTS that takes the counts of the units `us` to 0. -/
def clearedCounts (us : List Nat) (c : Caller) (s : State) : State :=
  showResult 1 0x01 { result := resOk } (resetFields (us.map F.TICK.UNIT_OVERRUN_COUNT) (touchSession c s))

theorem overrunCount_keys_nodup {us : List Nat} (h : us.Nodup) : ((us.map F.TICK.UNIT_OVERRUN_COUNT).map fieldKey).Nodup := by
  rw [List.map_map]
  refine h.map fun i j hij => ?_
  simp only [Function.comp_apply, fieldKey, F.TICK.UNIT_OVERRUN_COUNT] at hij
  omega

theorem present_touchSession (c : Caller) (u : Nat) (s : State) : present (touchSession c s) u = present s u := by
  refine present_of_onlyFields (touchSession_onlyFields c s) (fun g hg => ?_) u
  obtain ⟨k, -, rfl⟩ := List.mem_map.1 hg
  simp only [fieldKey, F.SEC.SES_IDLE, F.DEV.UNITS_PRESENT]
  omega

theorem clearedCounts_zero {us : List Nat} (wf : WellKept s) (hus : us.Nodup) {k : Nat} (hk : k ∈ us) :
    getF (clearedCounts us c s) (F.TICK.UNIT_OVERRUN_COUNT k) = 0 := by
  rw [clearedCounts, getF_overrunCount_tickResult]
  exact getF_resetFields_mem _ _ _ ((touchSession_moves c s).form wf).regs (overrunCount_keys_nodup hus) (List.mem_map_of_mem hk)

theorem clearedCounts_answers (us : List Nat) (wf : WellKept s) :
    TickAnswers (us.map F.TICK.UNIT_OVERRUN_COUNT) [.regs, .sec] resOk s (clearedCounts us c s) := by
  have hclear : Moves 0x800002 s (resetFields (us.map F.TICK.UNIT_OVERRUN_COUNT) (touchSession c s)) :=
    moves_step (resetFields_moves ..) rfl (touchSession_moves c s)
  have hreset : OnlyFields (us.map F.TICK.UNIT_OVERRUN_COUNT) (touchSession c s) (resetFields _ (touchSession c s)) :=
    fun g hg => getF_resetFields_other _ _ g hg
  refine ⟨getF_tickResult _ _ (hclear.form wf).regs, onlyParts_of_moves s _ (moves_step (showResult_moves ..) rfl hclear) rfl, ?_⟩
  exact onlyFields_trans (onlyFields_mono (touchSession_onlyFields c s) (by simp))
    (onlyFields_trans (onlyFields_mono hreset (by simp)) (onlyFields_mono (tickResult_onlyFields _ _ _) (by simp)))

/-- The state after a refusal of CLEAR_COUNTS with a result code. -/
def refusedCounts (e : Nat) (c : Caller) (u : Nat) (s : State) : State :=
  showResult 1 0x01 { result := e } (emit 0x01FF 0x01 e u (touchSession c s))

theorem refusedCounts_answers {e : Nat} (wf : WellKept s) (he : e < 2 ^ 8) :
    TickAnswers [] [.regs, .sec, .cont] e s (refusedCounts e c u s) := by
  have hrecord : Moves 0xa00002 s (emit 0x01FF 0x01 e u (touchSession c s)) :=
    moves_step (emit_moves ..) rfl (moves_step (touchSession_moves ..) rfl moves_refl)
  refine ⟨(getF_tickResult _ _ (hrecord.form wf).regs).trans (Nat.mod_eq_of_lt he),
    onlyParts_of_moves s _ (moves_step (showResult_moves ..) rfl hrecord) rfl, ?_⟩
  exact onlyFields_trans (onlyFields_mono (onlyFields_emit (touchSession_onlyFields c s)) (by simp))
    (onlyFields_mono (tickResult_onlyFields _ _ _) (by simp))

/-! ### The cases of R47 -/

theorem clearCounts_unit (h : Admitted c [roleEngineer] s) (hrun : flag s F.TICK.STATUS_RUNNING = true) (hu : u < 24)
    (hp : present s u = true) : exec (.clearCounts c u) s = .next (clearedCounts [u] c s) := by
  show Host.Outcome.next (cmdClearCounts c u s).1 = _
  rw [cmdClearCounts, hrun, runCommand_ok h (t := resetFields ([u].map F.TICK.UNIT_OVERRUN_COUNT) (touchSession c s))]
  · rfl
  · rw [if_neg (by omega), if_neg (by omega), present_touchSession, hp]
    rfl

theorem clearCounts_all (h : Admitted c [roleEngineer] s) (hrun : flag s F.TICK.STATUS_RUNNING = true) :
    exec (.clearCounts c 0xFF) s = .next (clearedCounts (List.range 24) c s) := by
  show Host.Outcome.next (cmdClearCounts c 0xFF s).1 = _
  rw [cmdClearCounts, hrun, runCommand_ok h (if_pos rfl), clearedCounts, resetFields, List.foldl_map]
  rfl

theorem clearCounts_absent (h : Admitted c [roleEngineer] s) (hrun : flag s F.TICK.STATUS_RUNNING = true) (hu : u < 24)
    (hp : present s u = false) : exec (.clearCounts c u) s = .next (refusedCounts resUnitAbsent c u s) := by
  show Host.Outcome.next (cmdClearCounts c u s).1 = _
  rw [cmdClearCounts, runCommand_error (by decide) h (e := resUnitAbsent)]
  · rfl
  · rw [if_pos hrun, if_neg (by omega), if_neg (by omega), present_touchSession, hp]
    rfl

theorem clearCounts_beyond (h : Admitted c [roleEngineer] s) (hrun : flag s F.TICK.STATUS_RUNNING = true) (hu : 24 ≤ u)
    (hu' : u ≠ 0xFF) : exec (.clearCounts c u) s = .next (refusedCounts resBadArgument c u s) := by
  show Host.Outcome.next (cmdClearCounts c u s).1 = _
  rw [cmdClearCounts, runCommand_error (by decide) h (e := resBadArgument)]
  · rfl
  · rw [if_pos hrun, if_neg hu', if_pos hu]

theorem clearCounts_notRunning (h : Admitted c [roleEngineer] s) (hrun : flag s F.TICK.STATUS_RUNNING = false) :
    exec (.clearCounts c u) s = .next (refusedCounts resIllegal c u s) := by
  show Host.Outcome.next (cmdClearCounts c u s).1 = _
  rw [cmdClearCounts, runCommand_error (by decide) h (e := resIllegal)]
  · rfl
  · rw [hrun]
    rfl

end Sys2Proof.Machine
end

section
/-! The statement about CLEAR_COUNTS. -/

namespace Sys2Proof.Certificates

open Sys2Proof Sys2Proof.Machine

/-- Settles O14: whether ticks run, and then which units the argument names. -/
theorem clearCountsClearsTheOverrunCounts : Obligations.ClearCountsClearsTheOverrunCounts := by
  intro c u s wf hadm result shown
  have refused : ∀ {e : Nat}, e < 2 ^ 8 → exec (.clearCounts c u) s = .next (refusedCounts e c u s) →
      ∃ t, exec (.clearCounts c u) s = .next t ∧ result t = e ∧ OnlyParts [.regs, .sec, .cont] s t ∧ OnlyFields shown s t := by
    intro e he hexec
    have hans := refusedCounts_answers (c := c) (u := u) wf he
    exact ⟨_, hexec, hans.result, hans.parts, hans.fields⟩
  refine ⟨fun hrun => ⟨fun hu hp => ?_, fun hall => ?_, fun hu hp => ?_, fun hu hu' => ?_⟩, fun hstop => ?_⟩
  · have hans := clearedCounts_answers (c := c) [u] wf
    exact ⟨_, clearCounts_unit hadm hrun hu hp, clearedCounts_zero wf (List.nodup_singleton u) (List.mem_singleton_self u),
      hans.result, hans.parts, hans.fields⟩
  · subst hall
    have hans := clearedCounts_answers (c := c) (List.range 24) wf
    exact ⟨_, clearCounts_all hadm hrun, fun k hk => clearedCounts_zero wf List.nodup_range (List.mem_range.2 hk),
      hans.result, hans.parts, hans.fields⟩
  · exact refused (by decide) (clearCounts_absent hadm hrun hu hp)
  · exact refused (by decide) (clearCounts_beyond hadm hrun hu (by omega))
  · exact refused (by decide) (clearCounts_notRunning hadm hstop)

end Sys2Proof.Certificates
end


section
/-! SUPPORT. What an uncorrectable error does to its owner, case by case (R439). -/

namespace Sys2Proof.Machine

open Sys2Proof

/-- Most owners move neither the device, nor TICK, nor HOST; what holds of every state reached so, and of what the others
do, holds of every owner's effect. -/
theorem ownerEffect_cases {P : State → Prop} {s : State} (o : MemOwner) (addr : Nat)
    (hquiet : ∀ t, Moves 0x247c22 s t → P t)
    (hsafe : P (enterFaultSafe s)) (hscan : ∀ t, P (abortScan t addr s)) (hstation : ∀ n, P (haltStation n addr s))
    (hkey : ∀ id, P (zeroiseKey id addr s)) (hfault : ∀ u, P (faultAtCurtain u s))
    (hloop : ∀ l, P { s with trp := { s.trp with errors := l } })
    (hepoch : P { s with dev := { s.dev with epochPd0 := 0 } })
    (hring : ∀ q, P { s with host := { s.host with staging := q } }) : P (ownerEffect o addr s) := by
  have quiet : ∀ {m : Nat} {t : State}, Moves m s t → sub m 0x247c22 = true → P t := fun h hm =>
    hquiet _ (moves_step h hm moves_refl)
  cases o
  case loop => exact hloop _
  case carousel => exact hscan _
  case collector | recorder | clapper => exact hsafe
  case meter => exact quiet (haltMeter_moves ..) rfl
  case meterChannel => exact quiet (boeConfigError_moves ..) rfl
  case window => exact quiet (updSet_moves ..) rfl
  case calculator => exact quiet (haltCalc_moves ..) rfl
  case accumulator =>
    exact hquiet _ (moves_ite (moves_step (accumFailed_moves ..) rfl moves_refl)
      (moves_step (accumRepaired_moves ..) rfl moves_refl))
  case station => exact hstation _
  case canBuffer => exact quiet (haltBuffer_moves ..) rfl
  case canPort => exact quiet (haltPort_moves ..) rfl
  case key => exact hkey _
  case epochCopy => exact hepoch
  case elapsedSeconds => exact quiet setF_moves rfl
  case point => exact quiet (memoryPoint_moves ..) rfl
  case cluster => exact quiet (jugMemory_moves ..) rfl
  case assembly => exact quiet (asmMemory_moves ..) rfl
  case hostRing r =>
    unfold ownerEffect
    dsimp only
    split
    · exact hquiet s moves_refl
    · exact hring _
  case volatileRecord q => exact quiet (spoilRecords_moves (.volatileRecord q) addr s) rfl
  case persistentSector n => exact quiet (spoilRecords_moves (.persistentSector n) addr s) rfl
  case unit => exact hfault _

end Sys2Proof.Machine
end

section
/-! SUPPORT. The register writes that wait for the Curtain (R13) wait on: the operations of a Curtain neither hold one nor let one
go. -/

namespace Sys2Proof.Machine

open Sys2Proof

variable {s t : State}

/-! ### How the held writes pass through updates of the state -/

/-- The register writes of the Curtain's own cycle that wait for it (R13). -/
def heldWrites (s : State) : List HeldWrite := s.host.afterCurtain

theorem afterCurtain_eq (s : State) : s.host.afterCurtain = heldWrites s := rfl

/-- What does not move HOST leaves the held writes. -/
theorem heldWrites_of_moves {m : Nat} (h : Moves m s t) (hm : m.testBit 22 = false) : heldWrites t = heldWrites s :=
  congrArg HostPart.afterCurtain (h.frame .host hm)

@[simp] theorem heldWrites_mk (pending regs dev clap tick pimg lio txn trp car asm jug boe bot bat net lrp stn can spot mem cont
    host sec pwr cfg free) : heldWrites (State.mk pending regs dev clap tick pimg lio txn trp car asm jug boe bot bat net lrp stn
      can spot mem cont host sec pwr cfg free) = host.afterCurtain := rfl

@[simp] theorem heldWrites_ite {c : Prop} [Decidable c] :
    heldWrites (if c then s else t) = if c then heldWrites s else heldWrites t :=
  apply_ite ..

@[simp] theorem heldWrites_foldl {α : Type} {l : List α} {f : State → α → State}
    (h : ∀ t x, heldWrites (f t x) = heldWrites t) : heldWrites (l.foldl f s) = heldWrites s := by
  induction l generalizing s with
  | nil => rfl
  | cons x l ih => exact ih.trans (h s x)

theorem heldWrites_fst {α : Type} {p : State × α} {b : α} (e : p = (t, b)) (h : heldWrites p.1 = heldWrites s) :
    heldWrites t = heldWrites s := by
  subst e
  exact h

theorem heldWrites_foldl_fst {α β : Type} {l : List α} {f : State × β → α → State × β} {p : State × β}
    (h : ∀ q x, heldWrites (f q x).1 = heldWrites q.1) : heldWrites (l.foldl f p).1 = heldWrites p.1 := by
  induction l generalizing p with
  | nil => rfl
  | cons x l ih => exact ih.trans (h p x)

/-! ### Fields, records, interrupts and ring entries -/

@[simp] theorem heldWrites_setF (f : Field) (v : Nat) : heldWrites (setF f v s) = heldWrites s :=
  heldWrites_of_moves setF_moves rfl
@[simp] theorem heldWrites_bumpF (f : Field) (k : Nat) : heldWrites (bumpF f k s) = heldWrites s :=
  heldWrites_of_moves (bumpF_moves ..) rfl
@[simp] theorem heldWrites_setBit (f : Field) (i : Nat) (b : Bool) : heldWrites (setBit f i b s) = heldWrites s :=
  heldWrites_of_moves (setBit_moves ..) rfl
@[simp] theorem heldWrites_resetFields (fs : List Field) : heldWrites (resetFields fs s) = heldWrites s :=
  heldWrites_of_moves (resetFields_moves ..) rfl
@[simp] theorem heldWrites_emit (code w1 w2 w3 : Nat) : heldWrites (emit code w1 w2 w3 s) = heldWrites s :=
  heldWrites_of_moves (emit_moves ..) rfl
@[simp] theorem heldWrites_updSpot (f : SpotPart → SpotPart) : heldWrites (updSpot f s) = heldWrites s :=
  heldWrites_of_moves (updSpot_moves ..) rfl

@[simp] theorem heldWrites_raiseCause (c : Nat) : heldWrites (raiseCause c s) = heldWrites s := by
  simp [raiseCause, afterCurtain_eq]

@[simp] theorem heldWrites_setHealth (u v : Nat) : heldWrites (setHealth u v s) = heldWrites s := by
  simp [setHealth]

@[simp] theorem heldWrites_stageEntry (r typ length stamp : Nat) (body : List Nat) :
    heldWrites (stageEntry r typ length stamp body s) = heldWrites s := by
  simp [stageEntry, afterCurtain_eq]

/-! ### Health, the role and the device state -/

@[simp] theorem heldWrites_supplyHealth : heldWrites (supplyHealth s) = heldWrites s := heldWrites_setHealth ..
@[simp] theorem heldWrites_showSecHealth : heldWrites (showSecHealth s) = heldWrites s := heldWrites_setHealth ..

@[simp] theorem heldWrites_setRole (r : Nat) : heldWrites (setRole r s) = heldWrites s := by
  simp [setRole]

@[simp] theorem heldWrites_setState (d : DevState) : heldWrites (setState d s) = heldWrites s := by
  simp [setState, afterCurtain_eq]

@[simp] theorem heldWrites_clearFaulted : heldWrites (clearFaulted s) = heldWrites s := by
  simp [clearFaulted]

/-! ### The recorder's flush (R462 to R465) -/

@[simp] theorem heldWrites_writeVolatile (r : Rec) : heldWrites (writeVolatile r s) = heldWrites s := by
  simp [writeVolatile, afterCurtain_eq]

@[simp] theorem heldWrites_numberRecord (r : Rec) : heldWrites (numberRecord r s) = heldWrites s := by
  simp [numberRecord, heldWrites_of_moves (dropRecord_moves _) rfl]

@[simp] theorem heldWrites_writeSummary (code : Nat) : heldWrites (writeSummary code s) = heldWrites s := by
  simp [writeSummary, afterCurtain_eq]

@[simp] theorem heldWrites_triggerFlush (k : Nat) : heldWrites (triggerFlush k s) = heldWrites s := by
  simp [triggerFlush, startFlush, afterCurtain_eq]

/-! ### Commands that end (R101, R508) -/

@[simp] theorem heldWrites_sendMessage (kind id tag : Nat) (more : Bool) (body : List Nat) :
    heldWrites (sendMessage kind id tag more body s) = heldWrites s := rfl

@[simp] theorem heldWrites_sendResponse (id tag u op result ret n : Nat) (ws : List Nat) :
    heldWrites (sendResponse id tag u op result ret n ws s) = heldWrites s := by
  induction n generalizing ws s with
  | zero => rfl
  | succ n ih => simp [sendResponse, ih]

@[simp] theorem heldWrites_commandDone (u op : Nat) (key : Option Nat) (result ret : Nat) :
    heldWrites (commandDone u op key result ret s) = heldWrites s := by
  unfold commandDone
  dsimp only
  split
  · split
    · simp [afterCurtain_eq]
    · split
      · simp [afterCurtain_eq]
      · exact heldWrites_raiseCause 24
  · exact heldWrites_raiseCause 24

/-! ### Leaving LIVE -/

@[simp] theorem heldWrites_abortCal : heldWrites (abortCal s) = heldWrites s := by
  unfold abortCal
  split
  · rfl
  · simp [drawFree, heldWrites_of_moves (clearCal_moves _) rfl, afterCurtain_eq]

@[simp] theorem heldWrites_boeStop : heldWrites (boeStop s) = heldWrites s := by
  simp [boeStop, afterCurtain_eq]

@[simp] theorem heldWrites_dropRound : heldWrites (dropRound s) = heldWrites s := heldWrites_of_moves (dropRound_moves ..) rfl
@[simp] theorem heldWrites_carStop : heldWrites (carStop s) = heldWrites s := rfl
@[simp] theorem heldWrites_releaseAir : heldWrites (releaseAir s) = heldWrites s := rfl

theorem heldWrites_endLiveWork : heldWrites (endLiveWork s) = heldWrites s := by
  simp [endLiveWork, heldWrites_of_moves (takesLeaveLive_moves _) rfl, heldWrites_of_moves (stnStop_moves _) rfl,
    heldWrites_of_moves (canStop_moves _) rfl, heldWrites_of_moves (lrpOff_moves _) rfl,
    heldWrites_of_moves (botStop_moves _) rfl, heldWrites_of_moves (trpStop_moves _) rfl, afterCurtain_eq]

@[simp] theorem heldWrites_leaveLive : heldWrites (leaveLive s) = heldWrites s := by
  cases h : inState s .live
  · simp [leaveLive, h]
  · simp [leaveLive_eq s h, heldWrites_endLiveWork]

@[simp] theorem heldWrites_enterFaultSafe : heldWrites (enterFaultSafe s) = heldWrites s := by
  simp [enterFaultSafe]

/-! ### Sessions and keys -/

@[simp] theorem heldWrites_freeSession (k : Nat) : heldWrites (freeSession k s) = heldWrites s := by
  simp [freeSession, afterCurtain_eq]

@[simp] theorem heldWrites_endSession (k cause : Nat) : heldWrites (endSession k cause s) = heldWrites s := by
  unfold endSession
  split
  · rfl
  · simp
  · simp [heldWrites_of_moves (sessionTakes_moves _ _) rfl]

@[simp] theorem heldWrites_endCredential (id : Nat) : heldWrites (endCredential id s) = heldWrites s := by
  simp [endCredential]

/-! ### Stations -/

@[simp] theorem heldWrites_updStation (n : Nat) (f : StationState → StationState) :
    heldWrites (updStation n f s) = heldWrites s :=
  heldWrites_of_moves (updStation_moves ..) rfl
@[simp] theorem heldWrites_discardOutputs (n : Nat) : heldWrites (discardOutputs n s) = heldWrites s :=
  heldWrites_of_moves (discardOutputs_moves ..) rfl
@[simp] theorem heldWrites_absentInputs (c : StationCfg) : heldWrites (absentInputs c s) = heldWrites s :=
  heldWrites_of_moves (absentInputs_moves ..) rfl

@[simp] theorem heldWrites_setStation (n st : Nat) : heldWrites (setStation n st s) = heldWrites s := by
  simp [setStation]

@[simp] theorem heldWrites_haltStation (n addr : Nat) : heldWrites (haltStation n addr s) = heldWrites s := by
  unfold haltStation
  split
  · simp [stationHalt]
  · rfl

@[simp] theorem heldWrites_stationLost (c : StationCfg) (cause : Nat) : heldWrites (stationLost c cause s) = heldWrites s := by
  simp [stationLost]

@[simp] theorem heldWrites_stnFault : heldWrites (stnFault s) = heldWrites s := by
  simp [stnFault]

theorem heldWrites_buildOutput (c : StationCfg) (k : Nat) : heldWrites (buildOutput c k s) = heldWrites s := by
  have hqueue : ∀ (f : TxFrame) (t : State), heldWrites (if c.attach = 2 then enqueue (32 + 2 * c.lrPort) f t
      else enqueuePair c.attach (if k = 0 then 7 else 6) f t).1 = heldWrites t := fun f t => by
    split
    · exact heldWrites_of_moves (enqueue_moves ..) rfl
    · exact heldWrites_of_moves (enqueuePair_moves ..) rfl
  unfold buildOutput
  extract_lets n x active entries epoch stamp payload o f s1
  split
  · simp
  · rw [heldWrites_ite, heldWrites_of_moves (countDiscarded_moves ..) rfl, hqueue, ite_self, heldWrites_updStation]

@[simp] theorem heldWrites_stnBuild : heldWrites (stnBuild s) = heldWrites s := by
  simp [stnBuild, heldWrites_buildOutput]

@[simp] theorem heldWrites_beginMoves (stn can : Bool) : heldWrites (beginMoves stn can s) = heldWrites s := by
  simp [beginMoves, afterCurtain_eq]

/-! ### What the owners of spoilt data do (R439) -/

@[simp] theorem heldWrites_keyLost (k : KeyEntry) (addr : Nat) : heldWrites (keyLost k addr s) = heldWrites s := by
  simp [keyLost, heldWrites_of_moves (updSec_moves _ _ _) rfl, heldWrites_of_moves (dropShadowWork_moves _) rfl]

@[simp] theorem heldWrites_zeroiseKey (id addr : Nat) : heldWrites (zeroiseKey id addr s) = heldWrites s := by
  unfold zeroiseKey
  split
  · rfl
  · simp [heldWrites_of_moves (putKey_moves _ _ _) rfl]

@[simp] theorem heldWrites_ownerEffect (o : MemOwner) (addr : Nat) : heldWrites (ownerEffect o addr s) = heldWrites s :=
  ownerEffect_cases o addr (P := fun t => heldWrites t = heldWrites s) (fun _ h => heldWrites_of_moves h rfl)
    heldWrites_enterFaultSafe (fun t => heldWrites_of_moves (abortScan_moves t addr s) rfl)
    (fun n => heldWrites_haltStation n addr)
    (fun id => heldWrites_zeroiseKey id addr) (fun _ => rfl) (fun _ => rfl) rfl (fun _ => rfl)

@[simp] theorem heldWrites_memCurtain : heldWrites (memCurtain s) = heldWrites s := by
  simp [memCurtain, afterCurtain_eq]

/-! ### The judgement (R41, R42) -/

@[simp] theorem heldWrites_faultUnit (u : Nat) : heldWrites (faultUnit u s) = heldWrites s := by
  simp [faultUnit, heldWrites_of_moves (canFault_moves _) rfl, afterCurtain_eq]

@[simp] theorem heldWrites_overrunResult (u tag : Nat) : heldWrites (overrunResult u tag s) = heldWrites s := by
  simp [overrunResult, heldWrites_of_moves (abandonWork_moves _ _ _) rfl]

theorem heldWrites_judgeUnit (u : Nat) : heldWrites (judgeUnit u s).1 = heldWrites s := by
  simp [judgeUnit, apply_ite Prod.fst]

theorem heldWrites_judgeUnits : heldWrites (judgeUnits s).1 = heldWrites s := by
  have hothers : heldWrites (faultOthers s) = heldWrites s := by simp [faultOthers]
  unfold judgeUnits
  rw [heldWrites_foldl_fst, hothers]
  intro a u
  have hunit : heldWrites (judgeUnit u a.1).1 = heldWrites a.1 := heldWrites_judgeUnit u
  generalize judgeUnit u a.1 = x at hunit
  exact hunit

/-! ### The rings that the publication fills (R236, R503) -/

@[simp] theorem heldWrites_pumpSolution (n : Nat) : heldWrites (pumpSolution n s) = heldWrites s := by
  induction n generalizing s with
  | zero => rfl
  | succ n ih =>
    unfold pumpSolution
    split
    · simp [ih, exportRows, afterCurtain_eq]
    · rfl

@[simp] theorem heldWrites_pumpCaptures (n : Nat) : heldWrites (pumpCaptures n s) = heldWrites s := by
  induction n generalizing s with
  | zero => rfl
  | succ n ih =>
    unfold pumpCaptures
    split
    · rfl
    · simp [ih, captureHeader, exportSamples, afterCurtain_eq]

@[simp] theorem heldWrites_startExport (p : Plan) : heldWrites (startExport p s) = heldWrites s := by
  unfold startExport
  split
  · simp [afterCurtain_eq]
  · simp [afterCurtain_eq]

@[simp] theorem heldWrites_pointEntry (i : Nat) : heldWrites (pointEntry i s) = heldWrites s := by
  unfold pointEntry
  split
  · rfl
  · simp [subscriptionEntry, apply_ite Prod.snd, afterCurtain_eq]

@[simp] theorem heldWrites_subscriptionEntries (l : List Nat) : heldWrites (subscriptionEntries l s) = heldWrites s := by
  simp [subscriptionEntries]

/-! ### Loops and captures (R224, R230, R235) -/

@[simp] theorem heldWrites_putLoop (l : Nat) (x : LoopState) : heldWrites (putLoop l x s) = heldWrites s := rfl
@[simp] theorem heldWrites_emitAll (l : List (Nat × Nat × Nat × Nat)) : heldWrites (emitAll l s) = heldWrites s :=
  heldWrites_of_moves (emitAll_moves ..) rfl
@[simp] theorem heldWrites_showTrp : heldWrites (showTrp s) = heldWrites s := heldWrites_of_moves (showTrp_moves ..) rfl
@[simp] theorem heldWrites_updCapture (k : Nat) (f : Capture → Capture) : heldWrites (updCapture k f s) = heldWrites s := rfl

@[simp] theorem heldWrites_storeSample (k : Nat) (v : List F32) (keep : Nat) :
    heldWrites (storeSample k v keep s) = heldWrites s :=
  heldWrites_of_moves (storeSample_moves ..) rfl

@[simp] theorem heldWrites_faultLoop (stamp l addr : Nat) : heldWrites (faultLoop stamp l addr s) = heldWrites s := by
  unfold faultLoop
  split
  · rfl
  · split
    · rfl
    · extract_lets entry set safe x trp s1 s2 s3 s4
      have h1 : heldWrites s1 = heldWrites s := by
        simp [s1, heldWrites_of_moves (safePoint_moves _ _ _ _ _) rfl, afterCurtain_eq]
      have h2 : heldWrites s2 = heldWrites s := by
        simp only [s2]
        split
        · exact (heldWrites_of_moves (sampleIn_moves ..) rfl).trans h1
        · exact h1
      have h3 : heldWrites s3 = heldWrites s := by simp [s3, loopHealth, h2]
      have h4 : heldWrites s4 = heldWrites s := by
        simp only [s4]
        split
        · exact (heldWrites_emitAll _).trans h3
        · exact h3
      exact h4

@[simp] theorem heldWrites_captureDone (k : Nat) : heldWrites (captureDone k s) = heldWrites s := by
  simp [captureDone, afterCurtain_eq]

@[simp] theorem heldWrites_trpEffect (c : Nat × Nat × Nat) : heldWrites (trpEffect c s) = heldWrites s := by
  obtain ⟨op, a, b⟩ := c
  unfold trpEffect
  dsimp only
  split
  · simp
  · split <;> simp
  · simp
  · split <;> simp [afterCurtain_eq]
  · simp

@[simp] theorem heldWrites_captureSample (k : Nat) : heldWrites (captureSample k s) = heldWrites s := by
  unfold captureSample
  dsimp only
  split
  · rfl
  · simp

@[simp] theorem heldWrites_trpCurtain (stamp : Nat) : heldWrites (trpCurtain stamp s) = heldWrites s := by
  simp [trpCurtain, captureSamples, afterCurtain_eq]

/-! ### The publication (R38) -/

@[simp] theorem heldWrites_commitResult (u tag : Nat) : heldWrites (commitResult u tag s) = heldWrites s := by
  unfold commitResult
  extract_lets s1
  have h1 : heldWrites s1 = heldWrites s := (heldWrites_updSpot _).trans (heldWrites_of_moves (jugCommit_moves ..) rfl)
  split
  · exact (heldWrites_of_moves (trpCommit_moves ..) rfl).trans (heldWrites_updSpot _)
  · split
    · exact (heldWrites_of_moves (carCommit_moves ..) rfl).trans (heldWrites_updSpot _)
    · split
      · split
        · exact (heldWrites_startExport _).trans h1
        · exact h1
      · rfl

@[simp] theorem heldWrites_putSetpoints (l : List Setpoint) : heldWrites (putSetpoints l s) = heldWrites s :=
  heldWrites_of_moves (putSetpoints_moves ..) rfl

@[simp] theorem heldWrites_publishEntry (e : StagedEntry) : heldWrites (publishEntry e s) = heldWrites s := by
  simp [publishEntry, heldWrites_of_moves (publishPoint_moves _ _ _) rfl]

@[simp] theorem heldWrites_publishRounds : heldWrites (publishRounds s) = heldWrites s := by
  unfold publishRounds
  extract_lets before
  split
  next s1 i hinitial =>
  split
  next s2 a hswitch =>
  split
  next s3 b hshift =>
  extract_lets s4
  have h1 : heldWrites s1 = heldWrites s := by
    refine heldWrites_fst hinitial ?_
    split
    · exact heldWrites_of_moves (publishInitial_moves s) rfl
    · rfl
  have h2 : heldWrites s2 = heldWrites s := (heldWrites_fst hswitch (heldWrites_of_moves (switchRound_moves s1) rfl)).trans h1
  have h3 : heldWrites s3 = heldWrites s := (heldWrites_fst hshift (heldWrites_of_moves (shiftRound_moves _ s2) rfl)).trans h2
  have h4 : heldWrites s4 = heldWrites s := (heldWrites_putSetpoints _).trans h3
  split
  · exact h4
  · split
    · simp [h4]
    · exact h4

theorem heldWrites_publish (ok : List (Nat × List Nat)) : heldWrites (publish ok s) = heldWrites s := by
  unfold publish
  extract_lets es s1 s2 pts s3
  split
  next s4 taken htake =>
  have h1 : heldWrites s1 = heldWrites s := by
    simp [s1, heldWrites_of_moves (checkStep_moves _ _) rfl, heldWrites_of_moves (showBulkPlan_moves _) rfl, gatherMirror]
  have h3 : heldWrites s3 = heldWrites s := by
    simp [s3, s2, h1, heldWrites_of_moves (publishSafe_moves _ _) rfl, heldWrites_of_moves (boeCurtain_moves _) rfl]
  have h4 : heldWrites s4 = heldWrites s := (heldWrites_fst htake (heldWrites_of_moves (curtainTake_moves s3) rfl)).trans h3
  simp [heldWrites_of_moves (setWindow_moves _ _) rfl, heldWrites_of_moves (curtainPoints_moves _) rfl,
    heldWrites_of_moves (lastPost_moves _ _ _) rfl, h4]

/-! ### After the publication -/

theorem heldWrites_standDown (cause : Nat) : heldWrites (standDown cause s) = heldWrites s := by
  simp [standDown, dropCaptures, heldWrites_of_moves (startJoin_moves _) rfl, heldWrites_of_moves (updPort_moves _ _ _) rfl,
    heldWrites_of_moves (takesStandDown_moves _) rfl, heldWrites_of_moves (loseFrames_moves _) rfl, afterCurtain_eq]

theorem heldWrites_mirrorCurtain : heldWrites (mirrorCurtain s) = heldWrites s := by
  unfold mirrorCurtain
  split
  · exact (heldWrites_standDown _).trans (heldWrites_of_moves (sendDelta_moves ..) rfl)
  · simp [latchedFailure, heldWrites_standDown, heldWrites_of_moves (sendDelta_moves _ _) rfl]

/-! ### The Curtain in two parts -/

/-- The Curtain has begun to fall: it is its cycle, and the owners of spoilt data have acted (R442). -/
def curtainBegins (s : State) : State :=
  let s0 := elapseTo (getF s F.TICK.CURTAIN_CYCLE) s
  memCurtain { s0 with
    tick := { s0.tick with curtainDone := true }, cont := { s0.cont with curtainAt := some s0.clap.cycles } }

/-- The rest of a Curtain, once the units that publish are known (R38). -/
def curtainPublishes (ok : List (Nat × List Nat)) (s : State) : State :=
  tickDivider (pumpExports (healthIfChanged (mirrorCurtain (canCurtain (beginMoves (publishesAll ok 16) (publishesAll ok 17)
    (beat (landHeldSamples (clearStaging (publish ok s)))))))))

theorem curtainFalls_eq (hrun : ticksRun s = true) (hahead : s.tick.curtainDone = false) (hon : domainOn s 2 = true) :
    curtainFalls s = if inState (curtainBegins s) .live then
      curtainPublishes (judgeUnits (curtainBegins s)).2 (judgeUnits (curtainBegins s)).1 else curtainBegins s := by
  unfold curtainFalls
  rw [if_pos (by simp [hrun, hahead, hon])]
  extract_lets s0 tick cont s1
  have hbegins : curtainBegins s = s1 := rfl
  rw [hbegins]
  generalize judgeUnits s1 = judged
  cases inState s1 .live
  · rfl
  · rfl

theorem curtainFalls_of_not (h : ticksRun s = false ∨ s.tick.curtainDone = true ∨ domainOn s 2 = false) :
    curtainFalls s = s := by
  unfold curtainFalls
  rcases h with h | h | h <;> simp [h]

theorem heldWrites_curtainBegins : heldWrites (curtainBegins s) = heldWrites s := by
  simp [curtainBegins, heldWrites_of_moves (elapseTo_moves _ _) rfl, afterCurtain_eq]

theorem heldWrites_curtainPublishes (ok : List (Nat × List Nat)) : heldWrites (curtainPublishes ok s) = heldWrites s := by
  simp [curtainPublishes, tickDivider, pumpExports, healthIfChanged, healthEntry, heldWrites_mirrorCurtain, heldWrites_publish,
    heldWrites_of_moves (canCurtain_moves _) rfl, heldWrites_of_moves (beat_moves _) rfl,
    heldWrites_of_moves (landHeldSamples_moves _) rfl, heldWrites_of_moves (clearStaging_moves _) rfl, afterCurtain_eq]

/-- A Curtain neither holds a register write nor lets one go. -/
theorem heldWrites_curtainFalls : heldWrites (curtainFalls s) = heldWrites s := by
  by_cases h : ticksRun s = false ∨ s.tick.curtainDone = true ∨ domainOn s 2 = false
  · rw [curtainFalls_of_not h]
  · simp only [not_or, Bool.not_eq_false, Bool.not_eq_true] at h
    obtain ⟨hrun, hahead, hon⟩ := h
    rw [curtainFalls_eq hrun hahead hon]
    split
    · rw [heldWrites_curtainPublishes, heldWrites_judgeUnits, heldWrites_curtainBegins]
    · exact heldWrites_curtainBegins

end Sys2Proof.Machine
end


section
/-! SUPPORT. The sequencer of ticks: what a tick's work, the owners of spoilt data and a Curtain leave of the cycle, of the
start of the tick and of its Curtain (R25, R29). -/

namespace Sys2Proof.Machine

open Sys2Proof

variable {s t : State}

/-! ### How the sequencer passes through updates of the state -/

/-- The cycle of the present tick, its start, and whether its Curtain has fallen. -/
def sequencer (s : State) : Nat × Nat × Bool := (s.tick.cycle, s.tick.startNs, s.tick.curtainDone)

theorem tick_eq_sequencer (s : State) : (s.tick.cycle, s.tick.startNs, s.tick.curtainDone) = sequencer s := rfl

theorem sequencer_congr (h : t.tick = s.tick) : sequencer t = sequencer s := by
  rw [sequencer, h, sequencer]

/-- What does not move TICK leaves the sequencer. -/
theorem sequencer_of_moves {m : Nat} (h : Moves m s t) (hm : m.testBit 4 = false) : sequencer t = sequencer s :=
  sequencer_congr (h.frame .tick hm)

@[simp] theorem sequencer_mk (pending regs dev clap tick pimg lio txn trp car asm jug boe bot bat net lrp stn can spot mem cont
    host sec pwr cfg free) : sequencer (State.mk pending regs dev clap tick pimg lio txn trp car asm jug boe bot bat net lrp stn
      can spot mem cont host sec pwr cfg free) = (tick.cycle, tick.startNs, tick.curtainDone) := rfl

@[simp] theorem sequencer_ite {c : Prop} [Decidable c] :
    sequencer (if c then s else t) = if c then sequencer s else sequencer t :=
  apply_ite ..

@[simp] theorem sequencer_foldl {α : Type} {l : List α} {f : State → α → State}
    (h : ∀ t x, sequencer (f t x) = sequencer t) : sequencer (l.foldl f s) = sequencer s := by
  induction l generalizing s with
  | nil => rfl
  | cons x l ih => exact ih.trans (h s x)

@[simp] theorem sequencer_setF (f : Field) (v : Nat) : sequencer (setF f v s) = sequencer s := sequencer_of_moves setF_moves rfl
@[simp] theorem sequencer_emit (code w1 w2 w3 : Nat) : sequencer (emit code w1 w2 w3 s) = sequencer s :=
  sequencer_of_moves (emit_moves ..) rfl
@[simp] theorem sequencer_updSpot (f : SpotPart → SpotPart) : sequencer (updSpot f s) = sequencer s :=
  sequencer_of_moves (updSpot_moves ..) rfl

/-! ### The work of a tick (R27, R30, R31) -/

@[simp] theorem sequencer_expectResult (u due tag : Nat) : sequencer (expectResult u due tag s) = sequencer s := by
  simp [expectResult, tick_eq_sequencer]

@[simp] theorem sequencer_expectNow (u : Nat) (w : Bool) : sequencer (expectNow u w s) = sequencer s := by
  simp [expectNow]

theorem sequencer_startScan (k : Nat) : sequencer (startScan k s) = sequencer s := by
  unfold startScan
  extract_lets stamp x due
  rw [sequencer_expectResult, sequencer_of_moves (putScan_moves ..) rfl]
  exact sequencer_congr rfl

@[simp] theorem sequencer_startScans : sequencer (startScans s) = sequencer s := by
  simp [startScans, sequencer_startScan]

@[simp] theorem sequencer_trpTick : sequencer (trpTick s) = sequencer s := by
  have hqueue : ∀ (e : StagedEntry) (u : State), sequencer (queueEntry e u) = sequencer u := fun _ _ => by rfl
  unfold trpTick
  split
  · rfl
  · extract_lets n due cycles trp s0 s1 stamp outs entry last
    have h0 : sequencer s0 = sequencer s := (sequencer_setF ..).trans (sequencer_setF ..)
    have h1 : sequencer s1 = sequencer s := (sequencer_foldl fun t c => sequencer_of_moves (runLoop_moves c t) rfl).trans h0
    rw [sequencer_expectResult, sequencer_foldl fun t e => hqueue e t, h1]

@[simp] theorem sequencer_jugTick : sequencer (jugTick s) = sequencer s := by
  unfold jugTick
  extract_lets n tick put
  have hput : ∀ e, sequencer (put e) = sequencer s := fun _ => rfl
  split
  · rfl
  · split
    · split
      · exact hput _
      · split
        · exact hput _
        · rfl
    · split
      · exact hput _
      · rfl
    · rfl

@[simp] theorem sequencer_boeTick : sequencer (boeTick s) = sequencer s := by
  unfold boeTick
  split
  · rfl
  · split <;> rfl

@[simp] theorem sequencer_botTick : sequencer (botTick s) = sequencer s := by
  unfold botTick
  split
  · rfl
  · simp [sequencer_of_moves (calcTick_moves _ _) rfl, tick_eq_sequencer]

@[simp] theorem sequencer_stnTick : sequencer (stnTick s) = sequencer s := by
  simp [stnTick, tick_eq_sequencer]

@[simp] theorem sequencer_canTick : sequencer (canTick s) = sequencer s := by
  simp [canTick, tick_eq_sequencer]

@[simp] theorem sequencer_unitTicks : sequencer (unitTicks s) = sequencer s := by
  simp [unitTicks, sequencer_of_moves (keepBoundary_moves _) rfl]

@[simp] theorem sequencer_endMoves : sequencer (endMoves s) = sequencer s := by
  have hmoved : sequencer (s.tick.moves.foldl endMove (s, 0)).1 = sequencer s :=
    sequencer_of_moves (moves_foldl_fst (m := 0x4628042) moves_refl fun a x h => moves_step (endMove_moves a x) rfl h) rfl
  unfold endMoves
  generalize s.tick.moves.foldl endMove (s, 0) = moved at hmoved
  simp [sequencer_of_moves (bumpF_moves _ _ _) rfl, tick_eq_sequencer, hmoved]

/-- A tick starts with its Curtain ahead. -/
theorem sequencer_beginTick : sequencer (beginTick s) = (s.tick.cycle, s.tick.startNs, false) := by
  simp [beginTick, sequencer_of_moves (aliveToggle_moves _) rfl, sequencer_of_moves (checkShadowing_moves _) rfl,
    sequencer_of_moves (handOver_moves _) rfl, sequencer_of_moves (gateClusters_moves _) rfl,
    sequencer_of_moves (freezeSnapshot_moves _) rfl, sequencer_of_moves (tickPoints_moves _) rfl,
    sequencer_of_moves (expireTakes_moves _) rfl, sequencer_of_moves (stnFreeze_moves _) rfl,
    sequencer_of_moves (canFreeze_moves _) rfl, sequencer_of_moves (checkTimeouts_moves _) rfl,
    sequencer_of_moves (localRateUpdate_moves _) rfl, sequencer_of_moves (driveAtTick_moves _) rfl]

/-! ### The owners of spoilt data (R439) -/

@[simp] theorem sequencer_dropShadowWork : sequencer (dropShadowWork s) = sequencer s := by
  simp [dropShadowWork, tick_eq_sequencer, sequencer_of_moves (dropRound_moves _) rfl]

theorem sequencer_endLiveWork : sequencer (endLiveWork s) = sequencer s := by
  simp [endLiveWork, sequencer_of_moves (takesLeaveLive_moves _) rfl, sequencer_of_moves (stnStop_moves _) rfl,
    sequencer_of_moves (canStop_moves _) rfl, sequencer_of_moves (lrpOff_moves _) rfl, sequencer_of_moves (botStop_moves _) rfl,
    sequencer_of_moves (boeStop_moves _) rfl, sequencer_of_moves (trpStop_moves _) rfl, sequencer_of_moves (carStop_moves _) rfl,
    sequencer_of_moves (dropRound_moves _) rfl, tick_eq_sequencer]

@[simp] theorem sequencer_enterFaultSafe : sequencer (enterFaultSafe s) = sequencer s := by
  unfold enterFaultSafe
  split
  · next hlive =>
    simp [leaveLive_eq s hlive, sequencer_of_moves (triggerFlush_moves _ _) rfl, sequencer_of_moves (setState_moves _ _) rfl,
      sequencer_of_moves (supplyHealth_moves _) rfl, sequencer_of_moves (setRole_moves _ _) rfl,
      sequencer_of_moves (setHealth_moves _ _ _) rfl, sequencer_of_moves (clearFaulted_moves _) rfl,
      sequencer_of_moves (releaseAir_moves _) rfl, sequencer_endLiveWork]
  · rfl

@[simp] theorem sequencer_zeroiseKey (id addr : Nat) : sequencer (zeroiseKey id addr s) = sequencer s := by
  have hlost : ∀ (k : KeyEntry) (u : State), sequencer (keyLost k addr u) = sequencer u := fun k u => by
    simp [keyLost, sequencer_of_moves (haltStation_moves _ _ _) rfl, sequencer_of_moves (showSecHealth_moves _) rfl,
      sequencer_of_moves (updSec_moves _ _ _) rfl, sequencer_of_moves (endCredential_moves _ _) rfl]
  unfold zeroiseKey
  split
  · rfl
  · simp [hlost, sequencer_of_moves (putKey_moves _ _ _) rfl]

@[simp] theorem sequencer_abortScan (t addr : Nat) : sequencer (abortScan t addr s) = sequencer s := by
  simp [abortScan, tick_eq_sequencer]

theorem sequencer_ownerEffect (o : MemOwner) (addr : Nat) : sequencer (ownerEffect o addr s) = sequencer s :=
  ownerEffect_cases o addr (P := fun t => sequencer t = sequencer s) (fun _ h => sequencer_of_moves h rfl)
    sequencer_enterFaultSafe (fun t => sequencer_abortScan t addr) (fun n => sequencer_of_moves (haltStation_moves n addr s) rfl)
    (fun id => sequencer_zeroiseKey id addr) (fun _ => rfl) (fun _ => rfl) rfl (fun _ => rfl)

@[simp] theorem sequencer_readError (e : ReadError) : sequencer (readError e s) = sequencer s :=
  (sequencer_ownerEffect ..).trans (sequencer_of_moves (noteUe_moves ..) rfl)

theorem sequencer_memCurtain : sequencer (memCurtain s) = sequencer s := by
  simp [memCurtain, sequencer_ownerEffect, tick_eq_sequencer]

end Sys2Proof.Machine
end


section
/-! SUPPORT. The start of a tick and the fall of its Curtain (R25, R26, R29, R38, R39). -/

namespace Sys2Proof.Machine

open Sys2Proof

variable {s t : State}

/-! ### The start of a tick -/

/-- An update of TICK's part leaves every part but TICK's and TICK.NUMBER. -/
theorem onlyParts_tick (x : TickPart) : OnlyParts [.tick, .tickNumber] s { s with tick := x } := by
  intro p hp
  cases p
  case tick | tickNumber => simp at hp
  all_goals rfl

/-- The length that a tick of `n` cycles counts with (R26). -/
def tickCycles (n : Nat) : Nat := max 62484 (min n 62516)

/-- The new tick is counted: `execTickStart` up to what the units read. -/
def tickCounted (n : Nat) (s : State) : State :=
  let s1 := tickLength (tickCycles n) (elapseTo (tickCycles n) s)
  let start := if tickCycles n = n then (s.tick.startNs + 62500) / 125000 * 125000 + 125000 else nowNs s1 1
  let s2 := { s1 with tick := { s1.tick with number := s.tick.number + 1, cycle := 0, startNs := start } }
  if tickCycles n = n then s2 else emit 0x0106 n (tickCycles n) 0 (bumpF F.TICK.CLAMP_COUNT 1 (setF F.TICK.STATUS_CLAMPED 1 s2))

/-- The units' reads of a tick start find these errors. -/
def readErrors (ue : List ReadError) (s : State) : State := ue.foldl (fun t e => readError e t) s

/-- The new tick has begun. -/
def tickBegun (n : Nat) (ue : List ReadError) (s : State) : State := beginTick (readErrors ue (tickCounted n s))

theorem exec_tickStart {n : Nat} {ue : List ReadError} (hrun : ticksRun s = true) (hfallen : s.tick.curtainDone = true) :
    exec (.tickStart n ue) s = .next (tickBegun n ue s) := by
  show execTickStart n ue s = _
  unfold execTickStart
  rw [if_pos (by rw [hrun, hfallen]; rfl)]
  rfl

theorem exec_tickStart_of_not {n : Nat} {ue : List ReadError} (h : ticksRun s = false ∨ s.tick.curtainDone = false) :
    exec (.tickStart n ue) s = .next s := by
  show execTickStart n ue s = _
  unfold execTickStart
  rcases h with h | h <;> simp [h]

theorem tickCounted_parts (n : Nat) : OnlyParts [.regs, .clap, .tick, .tickNumber, .cont] s (tickCounted n s) := by
  unfold tickCounted
  extract_lets s1 start tick s2
  have h1 : OnlyParts [.regs, .clap, .tick, .tickNumber, .cont] s s1 :=
    onlyParts_of_moves s _ (m := 0x1a) (moves_step (tickLength_moves ..) rfl (moves_step (elapseTo_moves ..) rfl moves_refl)) rfl
  have h2 : OnlyParts [.regs, .clap, .tick, .tickNumber, .cont] s s2 :=
    onlyParts_trans h1 (onlyParts_mono (onlyParts_tick _) (by simp))
  split
  · exact h2
  · exact onlyParts_trans h2 (onlyParts_of_moves s2 _ (m := 0x200002)
      (moves_step (emit_moves ..) rfl (moves_step (bumpF_moves ..) rfl (moves_step setF_moves rfl moves_refl))) rfl)

theorem tickCounted_tick (n : Nat) : (tickCounted n s).tick.number = s.tick.number + 1 ∧ (tickCounted n s).tick.cycle = 0 ∧
    (tickCycles n = n → (tickCounted n s).tick.startNs = (s.tick.startNs + 62500) / 125000 * 125000 + 125000) := by
  unfold tickCounted
  extract_lets s1 start tick s2
  have htick : (if tickCycles n = n then s2 else emit 0x0106 n (tickCycles n) 0 (bumpF F.TICK.CLAMP_COUNT 1
      (setF F.TICK.STATUS_CLAMPED 1 s2))).tick = s2.tick := by
    split
    · rfl
    · rw [emit_tick, (bumpF_moves F.TICK.CLAMP_COUNT 1 _).frame .tick rfl, setF_tick]
  rw [htick]
  exact ⟨rfl, rfl, fun hn => if_pos hn⟩

theorem readErrors_moves (ue : List ReadError) (s : State) : Moves 0x2cefffb6 s (readErrors ue s) :=
  moves_foldl moves_refl fun t e h => moves_step (readError_moves e t) rfl h

theorem sequencer_readErrors (ue : List ReadError) : sequencer (readErrors ue s) = sequencer s := by
  simp [readErrors]

/-- Whatever its reads find, a new tick is at cycle 0 with its Curtain ahead, and it starts where it was counted to start. -/
theorem tickBegun_sequencer (n : Nat) (ue : List ReadError) :
    sequencer (tickBegun n ue s) = (0, (tickCounted n s).tick.startNs, false) := by
  have herrors : sequencer (readErrors ue (tickCounted n s)) = sequencer (tickCounted n s) := sequencer_readErrors ue
  have hbegin : sequencer (tickBegun n ue s) = _ := sequencer_beginTick
  simp only [sequencer, Prod.mk.injEq] at herrors
  obtain ⟨hcycle, hstart, -⟩ := herrors
  obtain ⟨-, hzero, -⟩ := tickCounted_tick (s := s) n
  rw [hbegin, hcycle, hstart, hzero]

/-- The new tick is the next one, under the same Reel. -/
theorem tickBegun_counts (n : Nat) (ue : List ReadError) :
    (tickBegun n ue s).tick.number = s.tick.number + 1 ∧ (tickBegun n ue s).cfg = s.cfg := by
  have hbegin := beginTick_moves (readErrors ue (tickCounted n s))
  have herrors := readErrors_moves ue (tickCounted n s)
  obtain ⟨hnumber, -, -⟩ := tickCounted_tick (s := s) n
  exact ⟨(hbegin.frame .tickNumber rfl).trans ((herrors.frame .tickNumber rfl).trans hnumber),
    (hbegin.frame .cfg rfl).trans ((herrors.frame .cfg rfl).trans (tickCounted_parts n .cfg (by simp)))⟩

/-- A tick start whose reads find no error leaves the device and the Splice log. -/
theorem tickBegun_keeps (n : Nat) : (tickBegun n [] s).dev = s.dev ∧ (tickBegun n [] s).txn.log = s.txn.log :=
  ⟨((beginTick_moves _).frame .dev rfl).trans (tickCounted_parts n .dev (by simp)),
    ((beginTick_moves _).frame .log rfl).trans (tickCounted_parts n .log (by simp))⟩

/-! ### The Curtain leaves LIVE or goes on -/

/-- No owner's effect starts or ends the flush of a restart. -/
theorem flushing_ownerEffect (o : MemOwner) (addr : Nat) : (ownerEffect o addr s).dev.flushing = s.dev.flushing := by
  have of_dev : ∀ {m : Nat} {t : State}, Moves m s t → m.testBit 2 = false → t.dev.flushing = s.dev.flushing := fun h hm =>
    congrArg DevPart.flushing (h.frame .dev hm)
  have hsafe : (enterFaultSafe s).dev.flushing = s.dev.flushing := by rw [enterFaultSafe_dev]
  exact ownerEffect_cases o addr (P := fun t => t.dev.flushing = s.dev.flushing) (fun _ h => of_dev h rfl) hsafe
    (fun t => of_dev (abortScan_moves t addr s) rfl) (fun n => of_dev (haltStation_moves n addr s) rfl)
    (fun id => of_dev (zeroiseKey_moves id addr s) rfl) (fun _ => rfl) (fun _ => rfl) rfl (fun _ => rfl)

theorem flushing_memCurtain : (memCurtain s).dev.flushing = s.dev.flushing := by
  unfold memCurtain
  exact List.foldlRecOn (motive := fun t : State => t.dev.flushing = s.dev.flushing) s.mem.atCurtain _ rfl
    fun _ ht e _ => (flushing_ownerEffect e.1 e.2).trans ht

theorem flushing_curtainBegins : (curtainBegins s).dev.flushing = s.dev.flushing :=
  flushing_memCurtain.trans (congrArg DevPart.flushing ((elapseTo_moves (getF s F.TICK.CURTAIN_CYCLE) s).frame .dev rfl))

theorem curtainDone_of_sequencer (h : sequencer t = sequencer s) : t.tick.curtainDone = s.tick.curtainDone :=
  congrArg (fun x => x.2.2) h

theorem curtainBegins_fallen : (curtainBegins s).tick.curtainDone = true :=
  curtainDone_of_sequencer sequencer_memCurtain

/-- A Curtain in LIVE that is not to publish has taken the device out of LIVE. -/
theorem curtainBegins_leaves (hrun : ticksRun s = true) (h : inState (curtainBegins s) .live = false) :
    (curtainBegins s).dev.state ≠ .live := by
  intro hlive
  have hflush : s.dev.flushing.isNone = true := by
    simp only [ticksRun, inState, Bool.and_eq_true] at hrun
    exact hrun.1.1.2
  simp [inState, hlive, flushing_curtainBegins, hflush] at h

/-! ### What is over leaves the collector (R39) -/

/-- Every entry in staging, and every result still to come, is due after tick `n`. -/
def DueAfter (n : Nat) (s : State) : Prop := (∀ e ∈ s.tick.staging, n < e.due) ∧ (∀ e ∈ s.tick.outbox, n < e.due)

theorem dueAfter_of_moves {m n : Nat} (h : Moves m s t) (hd : DueAfter n s) (hm : m.testBit 4 = false) : DueAfter n t := by
  rw [DueAfter, h.frame .tick hm]
  exact hd

theorem clearStaging_dueAfter : DueAfter s.tick.number (clearStaging s) :=
  ⟨fun _ he => of_decide_eq_true (List.mem_filter.1 he).2, fun _ he => of_decide_eq_true (List.mem_filter.1 he).2⟩

theorem beginMoves_dueAfter {n : Nat} (stn can : Bool) (h : DueAfter n s) : DueAfter n (beginMoves stn can s) := by
  unfold beginMoves
  extract_lets groups s1 tick
  have h1 : DueAfter n s1 := by
    simp only [s1]
    split
    · exact dueAfter_of_moves (stnBuild_moves ..) h rfl
    · exact h
  split
  · exact h
  · exact h1

theorem dropShadowWork_dueAfter {n : Nat} (h : DueAfter n s) : DueAfter n (dropShadowWork s) := by
  have h1 : DueAfter n (dropRound s) := dueAfter_of_moves (dropRound_moves ..) h rfl
  exact ⟨fun e he => h1.1 e (List.mem_filter.1 he).1, fun e he => h1.2 e (List.mem_filter.1 he).1⟩

theorem startJoin_dueAfter {n : Nat} (h : DueAfter n s) : DueAfter n (startJoin s) := by
  unfold startJoin
  extract_lets s1 req key
  have h1 : DueAfter n s1 := by
    simp only [s1]
    split
    · exact dropShadowWork_dueAfter h
    · exact h
  exact dueAfter_of_moves (m := 0x80002) (moves_step (bumpF_moves ..) rfl (moves_step (countMismatches_moves ..) rfl
    (moves_step (updSpot_moves ..) rfl moves_refl))) h1 rfl

theorem standDown_dueAfter {n : Nat} (cause : Nat) (h : DueAfter n s) : DueAfter n (standDown cause s) := by
  unfold standDown
  extract_lets s1 s2 s3
  have h1 : DueAfter n s1 := dueAfter_of_moves (m := 0x688002) (moves_step (triggerFlush_moves ..) rfl
    (moves_step (emit_moves ..) rfl (moves_step (loseFrames_moves ..) rfl
      (moves_step (releaseAir_moves ..) rfl moves_refl)))) h rfl
  have h2 : DueAfter n s2 := dueAfter_of_moves (m := 0x20600182) (moves_step setF_moves rfl (moves_step setF_moves rfl
    (moves_step (takesStandDown_moves ..) rfl (moves_step (setRole_moves ..) rfl
      (moves_step (dropCaptures_moves ..) rfl moves_refl))))) h1 rfl
  have h3 : DueAfter n s3 := dueAfter_of_moves (m := 0x40002) (moves_foldl moves_refl fun t e ht =>
    moves_step setF_moves rfl (moves_step (updPort_moves ..) rfl ht)) h2 rfl
  exact startJoin_dueAfter (dueAfter_of_moves (updSpot_moves ..) h3 rfl)

theorem mirrorCurtain_dueAfter {n : Nat} (h : DueAfter n s) : DueAfter n (mirrorCurtain s) := by
  have hdelta : ∀ b, DueAfter n (sendDelta b s) := fun b => dueAfter_of_moves (sendDelta_moves ..) h rfl
  unfold mirrorCurtain
  split
  · exact standDown_dueAfter _ (hdelta true)
  · unfold latchedFailure
    split
    · exact standDown_dueAfter _ (hdelta false)
    · exact hdelta false

/-- After a Curtain that publishes, the collector holds nothing that was due. -/
theorem curtainPublishes_dueAfter (ok : List (Nat × List Nat)) : DueAfter s.tick.number (curtainPublishes ok s) := by
  have hnumber : (publish ok s).tick.number = s.tick.number := (publish_moves ok s).frame .tickNumber rfl
  have h1 : DueAfter s.tick.number (clearStaging (publish ok s)) := hnumber ▸ clearStaging_dueAfter
  have h2 := dueAfter_of_moves (m := 0x200022) (moves_step (beat_moves _) rfl (landHeldSamples_moves _)) h1 rfl
  have h3 := dueAfter_of_moves (canCurtain_moves _) (beginMoves_dueAfter (publishesAll ok 16) (publishesAll ok 17) h2) rfl
  exact dueAfter_of_moves (m := 0x600002) (moves_step (tickDivider_moves _) rfl (moves_step (pumpExports_moves _) rfl
    (healthIfChanged_moves _))) (mirrorCurtain_dueAfter h3) rfl

/-! ### The Curtain that has fallen stays so -/

theorem sequencer_standDown (cause : Nat) : sequencer (standDown cause s) = sequencer s := by
  simp [standDown, startJoin, sequencer_of_moves (bumpF_moves _ _ _) rfl, sequencer_of_moves (countMismatches_moves _ _) rfl,
    sequencer_of_moves (updPort_moves _ _ _) rfl, sequencer_of_moves (takesStandDown_moves _) rfl,
    sequencer_of_moves (setRole_moves _ _) rfl, sequencer_of_moves (dropCaptures_moves _) rfl,
    sequencer_of_moves (triggerFlush_moves _ _) rfl, sequencer_of_moves (loseFrames_moves _) rfl,
    sequencer_of_moves (releaseAir_moves _) rfl]

theorem sequencer_mirrorCurtain : sequencer (mirrorCurtain s) = sequencer s := by
  unfold mirrorCurtain
  split
  · exact (sequencer_standDown _).trans (sequencer_of_moves (sendDelta_moves ..) rfl)
  · simp [latchedFailure, sequencer_standDown, sequencer_of_moves (sendDelta_moves _ _) rfl]

theorem sequencer_curtainPublishes (ok : List (Nat × List Nat)) : sequencer (curtainPublishes ok s) = sequencer s := by
  simp [curtainPublishes, sequencer_of_moves (tickDivider_moves _) rfl, sequencer_of_moves (pumpExports_moves _) rfl,
    sequencer_of_moves (healthIfChanged_moves _) rfl, sequencer_mirrorCurtain, sequencer_of_moves (canCurtain_moves _) rfl,
    beginMoves, sequencer_of_moves (stnBuild_moves _) rfl, sequencer_of_moves (beat_moves _) rfl,
    sequencer_of_moves (landHeldSamples_moves _) rfl, clearStaging, sequencer_of_moves (publish_moves _ _) rfl,
    tick_eq_sequencer]

theorem curtainFalls_fallen (hrun : ticksRun s = true) (hahead : s.tick.curtainDone = false) (hon : domainOn s 2 = true) :
    (curtainFalls s).tick.curtainDone = true := by
  rw [curtainFalls_eq hrun hahead hon]
  split
  · have hjudge : sequencer (judgeUnits (curtainBegins s)).1 = sequencer (curtainBegins s) :=
      sequencer_of_moves (judgeUnits_moves _) rfl
    generalize judgeUnits (curtainBegins s) = judged at hjudge
    rw [curtainDone_of_sequencer (sequencer_curtainPublishes judged.2), curtainDone_of_sequencer hjudge, curtainBegins_fallen]
  · exact curtainBegins_fallen

theorem curtainFalls_dueAfter (hrun : ticksRun s = true) (hahead : s.tick.curtainDone = false) (hon : domainOn s 2 = true)
    (hlive : (curtainFalls s).dev.state = .live) : DueAfter s.tick.number (curtainFalls s) := by
  rw [curtainFalls_eq hrun hahead hon] at hlive ⊢
  split at hlive
  next h =>
    rw [if_pos h]
    have hjudge : (judgeUnits (curtainBegins s)).1.tick.number = (curtainBegins s).tick.number :=
      (judgeUnits_moves _).frame .tickNumber rfl
    have hbegins : (curtainBegins s).tick.number = s.tick.number :=
      ((memCurtain_moves _).frame .tickNumber rfl).trans ((elapseTo_moves (getF s F.TICK.CURTAIN_CYCLE) s).frame .tickNumber rfl)
    generalize judgeUnits (curtainBegins s) = judged at hjudge
    rw [← hbegins, ← hjudge]
    exact curtainPublishes_dueAfter judged.2
  next h => exact absurd hlive (curtainBegins_leaves hrun (Bool.not_eq_true _ ▸ h))

/-- The command is the Curtain, and then the register writes that waited for it (R13). -/
theorem exec_curtain : exec .curtain s = .next (s.host.afterCurtain.foldl (fun x w => registerWrite w x)
    { curtainFalls s with host := { (curtainFalls s).host with afterCurtain := [] } }) := by
  show execCurtain s = _
  rw [execCurtain, ← show (curtainFalls s).host.afterCurtain = s.host.afterCurtain from heldWrites_curtainFalls]

end Sys2Proof.Machine
end

section
/-! The statement about tick starts and Curtains. -/

namespace Sys2Proof.Certificates

open Sys2Proof Sys2Proof.Machine

/-- Settles O12: what a tick start counts and keeps, what a Curtain keeps and clears, and that it lets no held write go. -/
theorem ticksStartAndCurtainsFall : Obligations.TicksStartAndCurtainsFall := by
  refine ⟨fun n ue s => ⟨fun hrun hfallen => ?_, exec_tickStart_of_not⟩,
    fun s hheld => ⟨fun hrun hahead hon => ?_, fun hnot => ?_⟩, fun s => exec_curtain⟩
  · obtain ⟨hnumber, hcfg⟩ := tickBegun_counts (s := s) n ue
    have hseq := tickBegun_sequencer (s := s) n ue
    simp only [sequencer, Prod.mk.injEq] at hseq
    obtain ⟨hcycle, hstart, hdone⟩ := hseq
    obtain ⟨-, -, hnominal⟩ := tickCounted_tick (s := s) n
    refine ⟨_, exec_tickStart hrun hfallen, hnumber, hcycle, hdone, hcfg, fun hlo hhi => ?_, fun hue => ?_⟩
    · have hunclamped : tickCycles n = n := by rw [tickCycles]; omega
      rw [hstart, hnominal hunclamped]
    · subst hue
      exact tickBegun_keeps n
  · have hexec := exec_curtain (s := s)
    rw [hheld] at hexec
    have hmoves := curtainFalls_moves s
    exact ⟨_, hexec, hmoves.frame .tickNumber rfl, hmoves.frame .cfg rfl, hmoves.frame .accum rfl,
      curtainFalls_fallen hrun hahead hon, curtainFalls_dueAfter hrun hahead hon⟩
  · have hhost : { s.host with afterCurtain := [] } = s.host := by rw [← hheld]
    rw [exec_curtain, hheld, curtainFalls_of_not (by tauto), List.foldl_nil, hhost]

end Sys2Proof.Certificates
end

section
/-! SUPPORT. What the entry to BOOT keeps and what it begins anew (R52, R53, R79), and what X1_GOOD hands to it (R52, R521). -/

namespace Sys2Proof.Machine

open Sys2Proof

variable (s : State)

/-! ### The Splice log's header (R97) -/

theorem logHash_congr {s t : State} (h : t.txn.headers = s.txn.headers) : logHash t = logHash s := by
  unfold logHash headerInUse
  rw [h]

/-! ### The entry to BOOT -/

/-- BOOT's entry up to the change of the device state: the domains are up, and CONT has found its head. -/
def bootPrepared (s : State) : State :=
  let s1 := showAbsent (bootDomains (newEpoch (resetState s)))
  findHead (putLogFill (setF F.TXN.NEXT_TAKE_ID s1.txn.nextId s1))

theorem bootPrepared_moves : Moves 0x380062 (newEpoch (resetState s)) (bootPrepared s) :=
  moves_step (findHead_moves ..) rfl <| moves_step (putLogFill_moves ..) rfl <| moves_step setF_moves rfl <|
    moves_step (showAbsent_moves ..) rfl <| moves_step (bootDomains_moves ..) rfl moves_refl

theorem enterBoot_moves_setState (retained outage : Bool) :
    Moves 0x44e04002 (setState .boot (bootPrepared s)) (enterBoot retained outage s) :=
  moves_step (showSecHealth_moves ..) rfl <| moves_step (finishZeroise_moves ..) rfl <| moves_step (showKeys_moves ..) rfl <|
    moves_step (batReplay_moves ..) rfl <| moves_step (batRestore_moves ..) rfl moves_refl

/-- The entry to BOOT begins a power epoch above both copies and holds it in both (R53). -/
theorem enterBoot_dev_eq (retained outage : Bool) :
    (enterBoot retained outage s).dev = { (newEpoch (resetState s)).dev with state := .boot } := by
  rw [(enterBoot_moves_setState s retained outage).frame .dev rfl, setState_dev, (bootPrepared_moves s).frame .dev rfl]

theorem enterBoot_moves_reset (retained outage : Bool) : Moves 0x4cf84066 (resetState s) (enterBoot retained outage s) := by
  have hepoch : Moves 0x6 (resetState s) (newEpoch (resetState s)) := newEpoch_moves _
  have hprepared := moves_step (m := 0x4cf84066) (bootPrepared_moves s) rfl (moves_step hepoch rfl moves_refl)
  exact moves_step (enterBoot_moves_setState s retained outage) rfl (moves_step (setState_moves ..) rfl hprepared)

/-- No Reel is in force after the entry to BOOT. -/
theorem enterBoot_cfg (retained outage : Bool) : (enterBoot retained outage s).cfg = {} :=
  (enterBoot_moves_reset s retained outage).frame .cfg rfl

/-- The entry to BOOT keeps the Splice log, and with it what the log is bound to. -/
theorem enterBoot_log (retained outage : Bool) : (enterBoot retained outage s).txn.log = s.txn.log :=
  (enterBoot_moves_reset s retained outage).frame .log rfl

theorem enterBoot_logHash (retained outage : Bool) : logHash (enterBoot retained outage s) = logHash s := by
  have htxn : (enterBoot retained outage s).txn = (resetState s).txn := (enterBoot_moves_reset s retained outage).frame .txn rfl
  refine logHash_congr ?_
  rw [htxn]
  rfl

/-! ### X1_GOOD -/

/-- What X1_GOOD hands to the entry to BOOT: PD0 as it was retained or lost, and the inputs as measured. -/
def supplyGood (aMv bMv : Nat) (pd0 : Bool) (s : State) : State :=
  let s1 := if pd0 then stopMeasuring s else losePd0 s
  putFields [(F.PWR.SUPPLY_A_MV, aMv), (F.PWR.SUPPLY_B_MV, bMv)]
    { s1 with pwr := { s1.pwr with inputGood := [decide (16000 ≤ aMv), decide (16000 ≤ bMv)] } }

theorem supplyGood_dev (aMv bMv : Nat) (pd0 : Bool) : (supplyGood aMv bMv pd0 s).dev =
    if pd0 then s.dev else { s.dev with epochPd0 := 0, metroHash := [] } := by
  cases pd0
  case false => rfl
  case true => exact (stopMeasuring_moves s).frame .dev rfl

theorem supplyGood_txn (aMv bMv : Nat) (pd0 : Bool) : (supplyGood aMv bMv pd0 s).txn = s.txn := by
  cases pd0
  case false => rfl
  case true => exact (stopMeasuring_moves s).frame .txn rfl

theorem supplyGood_pending (aMv bMv : Nat) (pd0 : Bool) : (supplyGood aMv bMv pd0 s).pending = s.pending := by
  cases pd0
  case false => rfl
  case true => exact (stopMeasuring_moves s).frame .pending rfl

theorem exec_x1Good {aMv bMv : Nat} (pd0 : Bool) (hoff : inState s .off = true) (hsupply : 18000 ≤ max aMv bMv)
    (hcool : toSigned 16 (getF s F.PWR.TEMPERATURE_BASE) < 800) (htamper : tamperLogged s = false) :
    exec (.x1Good aMv bMv pd0) s =
      .next (enterBoot pd0 (if pd0 then s.bat.measuring else s.dev.epochFlash != 0) (supplyGood aMv bMv pd0 s)) := by
  show execX1Good aMv bMv pd0 s = _
  rw [execX1Good, hoff, decide_eq_true hsupply, decide_eq_true hcool, htamper, Bool.and_false]
  rfl

/-- X1_GOOD changes nothing outside OFF or with both inputs below 18 V. -/
theorem exec_x1Good_idle {aMv bMv : Nat} (pd0 : Bool) (h : inState s .off = false ∨ max aMv bMv < 18000) :
    exec (.x1Good aMv bMv pd0) s = .next s := by
  show execX1Good aMv bMv pd0 s = _
  have hnot : (inState s .off && decide (18000 ≤ max aMv bMv)) = false := by
    rcases h with hoff | hlow
    · rw [hoff, Bool.false_and]
    · rw [decide_eq_false (Nat.not_le_of_lt hlow), Bool.and_false]
  rw [execX1Good, hnot]
  rfl

end Sys2Proof.Machine
end

section
/-! The statement about X1_GOOD. -/

namespace Sys2Proof.Certificates

open Sys2Proof Sys2Proof.Machine

/-- Settles O7: X1_GOOD is the entry to BOOT of what PD0 retained; that a lost PD0 copy of the epoch counts as 0 and that both
copies take the new one is log entry 20, the thresholds are R521 and log entry 12. -/
theorem powerOnEntersBoot : Obligations.PowerOnEntersBoot := by
  intro aMv bMv pd0 s
  refine ⟨fun hoff hsupply hcool htamper => ?_, fun _ hlow => exec_x1Good_idle s pd0 (.inr hlow),
    fun hup => exec_x1Good_idle s pd0 (.inl hup)⟩
  have hdev := enterBoot_dev_eq (supplyGood aMv bMv pd0 s) pd0 (if pd0 then s.bat.measuring else s.dev.epochFlash != 0)
  have htxn := supplyGood_txn s aMv bMv pd0
  refine ⟨_, exec_x1Good s pd0 hoff hsupply hcool htamper, by rw [hdev], ?_, by rw [hdev]; rfl, enterBoot_cfg .., ?_, ?_, ?_⟩
  · rw [hdev]
    show max (supplyGood aMv bMv pd0 s).dev.epochPd0 (supplyGood aMv bMv pd0 s).dev.epochFlash + 1 = _
    rw [supplyGood_dev]
    cases pd0 <;> rfl
  · rw [(enterBoot_moves ..).frame .pending rfl, supplyGood_pending]
  · rw [enterBoot_log, htxn]
  · rw [enterBoot_logHash, logHash_congr (congrArg TxnPart.headers htxn)]

end Sys2Proof.Certificates
end

section
/-! SUPPORT. What BOOT's self-tests lead to: the image that runs, a halt, recovery, or the end of BOOT (R54 to R56, R80). -/

namespace Sys2Proof.Machine

open Sys2Proof

variable (s : State)

theorem putFields_dev (l : List (Field × Nat)) : (putFields l s).dev = s.dev := (putFields_moves l s).frame .dev rfl

theorem runImage_dev (k : Nat) (fellBack : Option Nat) : (runImage k fellBack s).dev = s.dev :=
  (runImage_moves k fellBack s).frame .dev rfl

theorem runImage_runningSlot (k : Nat) (fellBack : Option Nat) : (runImage k fellBack s).sec.runningSlot = k := by
  have hset : ∀ l, (putFields l (updSec (fun p => { p with runningSlot := k }) s)).sec.runningSlot = k := fun l =>
    congrArg SecPart.runningSlot ((putFields_moves l _).frame .sec rfl)
  cases fellBack
  case none => exact hset _
  case some v => exact (congrArg SecPart.runningSlot ((emit_moves ..).frame .sec rfl)).trans (hset _)

theorem bootFailure_lt (o : BootOutcome) : bootFailure o < 2 ^ 4 := by
  unfold bootFailure
  split_ifs <;> decide

theorem flag_setF_one {f : Field} (hw : f.width = 1) (h : keysRise s.regs = true) : flag (setF f 1 s) f = true := by
  rw [flag, getF_setF_same _ _ _ h, hw]
  rfl

/-- The end of BOOT takes the request for MAINTENANCE with it (R80). -/
theorem leaveBoot_dev : (leaveBoot s).dev =
    { s.dev with state := if s.dev.maintenanceRequested then .maintenance else .load, maintenanceRequested := false } := by
  have hdev : (showCertified (putFields [(F.SEC.STATUS_RUNNING, 1), (F.MEM.STATUS_SCRUBBING, 1)] s)).dev = s.dev :=
    ((showCertified_moves _).frame .dev rfl).trans (putFields_dev ..)
  unfold leaveBoot
  cases hreq : s.dev.maintenanceRequested with
  | true => simp only [if_true, setState_dev, hdev]
  | false =>
    simp only [Bool.false_eq_true, if_false, setState_dev, hdev]
    rw [← hreq]

/-! ### BOOT_SELF_TESTS_DONE -/

theorem exec_bootSelfTests_idle (o : BootOutcome) (hboot : booting s = false) : exec (.bootSelfTestsDone o) s = .next s := by
  show execBootSelfTestsDone o s = _
  rw [execBootSelfTestsDone, hboot]
  rfl

/-- With no startable image the device is in recovery (R55). -/
def inRecovery (s : State) : State := setF F.DEV.BOOT_STATUS 5 (setF F.DEV.STATE_RECOVERY 1 s)

theorem exec_bootSelfTests_recovers {o : BootOutcome} (hboot : booting s = true) (hnone : bootChoice s o = none) :
    exec (.bootSelfTestsDone o) s = .next (inRecovery s) := by
  show execBootSelfTestsDone o s = _
  rw [execBootSelfTestsDone, hboot, hnone]
  rfl

theorem inRecovery_shown (h : keysRise s.regs = true) :
    flag (inRecovery s) F.DEV.STATE_RECOVERY = true ∧ getF (inRecovery s) F.DEV.BOOT_STATUS = 5 := by
  refine ⟨?_, getF_setF_same _ F.DEV.BOOT_STATUS 5 (setF_keysRise s _ _ h)⟩
  rw [flag, inRecovery, getF_setF_other _ _ _ _ (by decide)]
  exact flag_setF_one s rfl h

/-- A self-test has failed with a cause: BOOT has halted (R56). -/
def haltedBoot (cause : Nat) (s : State) : State := setF F.DEV.STATE_BOOT_HALTED 1 (setF F.DEV.BOOT_STATUS cause s)

theorem exec_bootSelfTests_halts {o : BootOutcome} {x : Nat × Option Nat} (hboot : booting s = true)
    (hx : bootChoice s o = some x) (hfail : bootFailure o ≠ 0) :
    exec (.bootSelfTestsDone o) s = .next (haltedBoot (bootFailure o) (runImage x.1 x.2 s)) := by
  show execBootSelfTestsDone o s = _
  rw [execBootSelfTestsDone, hboot, hx]
  exact congrArg _ (if_pos hfail)

theorem haltedBoot_shown {cause : Nat} (hcause : cause < 2 ^ 4) (h : keysRise s.regs = true) :
    flag (haltedBoot cause s) F.DEV.STATE_BOOT_HALTED = true ∧ getF (haltedBoot cause s) F.DEV.BOOT_STATUS = cause := by
  refine ⟨flag_setF_one _ rfl (setF_keysRise s _ _ h), ?_⟩
  rw [haltedBoot, getF_setF_other _ _ _ _ (by decide), getF_setF_same _ _ _ h]
  exact Nat.mod_eq_of_lt hcause

theorem exec_bootSelfTests_passes {o : BootOutcome} {x : Nat × Option Nat} (hboot : booting s = true)
    (hx : bootChoice s o = some x) (hpass : bootFailure o = 0) :
    exec (.bootSelfTestsDone o) s = .next (leaveBoot (runImage x.1 x.2 s)) := by
  show execBootSelfTestsDone o s = _
  rw [execBootSelfTestsDone, hboot, hx]
  exact congrArg _ (if_neg (not_not_intro hpass))

end Sys2Proof.Machine
end

section
/-! The statement about the boot self-tests. -/

namespace Sys2Proof.Certificates

open Sys2Proof Sys2Proof.Machine

/-- Settles O8, by the image that can start and the cause of the first failing test; that recovery follows where every valid
image fails its own self-test is log entry 21. -/
theorem bootSelfTestsDecideTheState : Obligations.BootSelfTestsDecideTheState := by
  intro o s wf
  refine ⟨exec_bootSelfTests_idle s o, fun hboot hnone => ?_, fun hboot x hx hfail => ?_, fun hboot x hx hpass => ?_⟩
  · obtain ⟨hflag, hstatus⟩ := inRecovery_shown s wf.regs
    have hmoves : Moves 0x2 s (inRecovery s) := moves_step setF_moves rfl setF_moves
    exact ⟨_, exec_bootSelfTests_recovers s hboot hnone, rfl, hflag, hstatus, onlyParts_of_moves s _ hmoves rfl⟩
  · have hrun := runImage_moves x.1 x.2 s
    obtain ⟨hflag, hstatus⟩ := haltedBoot_shown (runImage x.1 x.2 s) (bootFailure_lt o) (hrun.form wf).regs
    have hmoves : Moves 0xa00002 s (haltedBoot (bootFailure o) (runImage x.1 x.2 s)) :=
      moves_step setF_moves rfl (moves_step setF_moves rfl hrun)
    exact ⟨_, exec_bootSelfTests_halts s hboot hx hfail, runImage_dev .., hflag, hstatus, runImage_runningSlot ..,
      onlyParts_of_moves s _ hmoves rfl⟩
  · have hsec : (leaveBoot (runImage x.1 x.2 s)).sec = (runImage x.1 x.2 s).sec := (leaveBoot_moves _).frame .sec rfl
    refine ⟨_, exec_bootSelfTests_passes s hboot hx hpass, ?_, ?_, ?_⟩
    · rw [hsec, runImage_runningSlot]
    · rw [leaveBoot_dev, runImage_dev]
    · rw [leaveBoot_dev]

end Sys2Proof.Certificates
end

section
/-! SUPPORT. What starts tick 0: the instant that is scheduled, a pair's join, the entry to LIVE, and the end of the wait for the
lock (R75, R76, R420). -/

namespace Sys2Proof.Machine

open Sys2Proof

variable (s : State)

/-! ### The device state -/

theorem inState_eq {d : DevState} (h : inState s d = true) : s.dev.state = d := by
  rw [inState, Bool.and_eq_true, beq_iff_eq] at h
  exact h.1

theorem inState_unique {d d' : DevState} (h : inState s d = true) (hd : d ≠ d') : inState s d' = false := by
  simp [inState, inState_eq s h, hd]

/-! ### START_CONDITION_MET -/

/-- START_CONDITION_MET has an effect: ARMED with every condition met, and neither tick 0 nor a join under way (R75). -/
def startDue (s : State) : Bool :=
  inState s .armed && !powerFailing s && startReady s && s.dev.tickZeroAt.isNone && !s.spot.joining

/-- The peer's level has been read at the start condition (R418). -/
def peerShown (peer : Bool) (s : State) : State := setF F.SPOT.INTERLOCK_PEER_ON_AIR (ofBool peer) s

theorem exec_startConditionMet (peer : Bool) : exec (.startConditionMet peer) s =
    .next (if startDue s then
        if pairReel s then
          if flag s F.SPOT.INTERLOCK_GRANT && !peer then scheduleStart (peerShown peer s)
          else if !flag s F.SPOT.INTERLOCK_GRANT && peer then startJoin (peerShown peer s)
          else peerShown peer s
        else scheduleStart s
      else s) := rfl

theorem startDue_iff : startDue s = true ↔ inState s .armed = true ∧ powerFailing s = false ∧ startReady s = true ∧
    s.dev.tickZeroAt = none ∧ s.spot.joining = false := by
  simp [startDue, and_assoc]

/-- START_CONDITION_MET changes nothing outside its condition. -/
theorem exec_startConditionMet_idle (peer : Bool) (h : inState s .armed = false ∨ powerFailing s = true ∨ startReady s = false ∨
    s.dev.tickZeroAt ≠ none ∨ s.spot.joining = true) : exec (.startConditionMet peer) s = .next s := by
  have hdue : startDue s = false := by
    rw [Bool.eq_false_iff, Ne, startDue_iff]
    rintro ⟨harmed, hpower, hready, hnone, hjoin⟩
    simp [harmed, hpower, hready, hnone, hjoin] at h
  rw [exec_startConditionMet, hdue]
  rfl

/-- The instant of tick 0 for a start condition met at `g` (R76). -/
def tickZeroFor (g : Nat) : Nat := (g + 250000 + 124999) / 125000 * 125000

theorem tickZeroFor_bounds (g : Nat) :
    tickZeroFor g % 125000 = 0 ∧ g + 250000 ≤ tickZeroFor g ∧ tickZeroFor g < g + 375000 := by
  unfold tickZeroFor
  omega

theorem scheduleStart_dev :
    (scheduleStart s).dev = { s.dev with startMetAt := nowNs s 1, tickZeroAt := some (tickZeroFor (nowNs s 1)) } := rfl

/-- A start condition met in `s` schedules tick 0, where at most the peer's level has been shown in `t` before. -/
theorem scheduleStart_schedules {t : State} (harmed : inState s .armed = true) (hmoves : Moves 0x2 s t)
    (hfields : OnlyFields [F.SPOT.INTERLOCK_PEER_ON_AIR] s t) :
    ∃ z, (scheduleStart t).dev.tickZeroAt = some z ∧ z % 125000 = 0 ∧ nowNs s 1 + 250000 ≤ z ∧ z < nowNs s 1 + 375000 ∧
      (scheduleStart t).dev.startMetAt = nowNs s 1 ∧ OnlyParts [.regs, .dev] s (scheduleStart t) ∧
      OnlyFields [F.SPOT.INTERLOCK_PEER_ON_AIR] s (scheduleStart t) ∧ (scheduleStart t).dev.state = .armed := by
  have hnow : nowNs t 1 = nowNs s 1 := by rw [nowNs, hmoves.frame .clap rfl, nowNs]
  obtain ⟨hmultiple, hfrom, hto⟩ := tickZeroFor_bounds (nowNs s 1)
  have hsched : Moves 0x6 s (scheduleStart t) := moves_step (scheduleStart_moves t) rfl (moves_step hmoves rfl moves_refl)
  refine ⟨tickZeroFor (nowNs s 1), by rw [scheduleStart_dev, hnow], hmultiple, hfrom, hto, by rw [scheduleStart_dev, hnow],
    onlyParts_of_moves s _ hsched rfl, hfields, ?_⟩
  rw [hsched.frame .devState rfl, inState_eq s harmed]

/-- A module in ARMED starts its join with the Reel in force (R420). -/
theorem startJoin_spot (harmed : inState s .armed = true) : (startJoin s).spot.joining = true ∧
    (startJoin s).spot.sentJoin.map JoinRequest.reelHash = some s.dev.reelHash := by
  rw [startJoin, inState_unique s harmed (by decide)]
  exact ⟨rfl, rfl⟩

/-! ### GO_LIVE -/

/-- The entry to LIVE at the instant of tick 0, which is no longer scheduled (R76). -/
def wentLive (z : Nat) (s : State) : State :=
  enterLive (startRole s) 0 z { s with dev := { s.dev with tickZeroAt := none } }

/-- The first tick: the entry to LIVE, then what a tick does from its start on (R76). -/
def firstTick (z : Nat) (s : State) : State :=
  digitalFirst (beginTick (emit 0x0201 (lo32 s.dev.startMetAt) (hi32 s.dev.startMetAt) 0 (wentLive z s)))

theorem exec_goLive {z : Nat} (hz : s.dev.tickZeroAt = some z) : exec .goLive s =
    .next (if inState s .armed && !powerFailing s && decide (z ≤ nowNs s 1) then firstTick z s else s) := by
  show execGoLive s = _
  rw [execGoLive, hz]
  rfl

/-- GO_LIVE changes nothing outside ARMED, during a power failure, and with no tick 0 scheduled. -/
theorem exec_goLive_idle (h : inState s .armed = false ∨ powerFailing s = true ∨ s.dev.tickZeroAt = none) :
    exec .goLive s = .next s := by
  rcases hz : s.dev.tickZeroAt with _ | z
  · show execGoLive s = _
    rw [execGoLive, hz]
  · have hstill : (inState s .armed && !powerFailing s) = false := by
      rcases h with h | h | h
      · rw [h, Bool.false_and]
      · rw [h, Bool.not_true, Bool.and_false]
      · rw [hz] at h; cases h
    rw [exec_goLive s hz, hstill]
    rfl

/-- The tick sequencer and the units at the entry to LIVE, past the change of the device state. -/
theorem enterLive_moves_setState (r number startNs : Nat) :
    Moves 0x1466ff72 (setState .live s) (enterLive r number startNs s) := by
  have hunits : Moves 0x1466ff72 (setState .live s) (startUnits (r == 2) (startTicks number startNs (setRole r (setState .live s)))) :=
    moves_step (startUnits_moves ..) rfl <| moves_step (startTicks_moves ..) rfl <| moves_step (setRole_moves ..) rfl moves_refl
  unfold enterLive
  exact moves_ite (moves_step (triggerFlush_moves ..) rfl <| moves_step (emit_moves ..) rfl <|
    moves_step (raiseAir_moves ..) rfl hunits) hunits

theorem enterLive_dev (r number startNs : Nat) : (enterLive r number startNs s).dev = { s.dev with state := .live } :=
  ((enterLive_moves_setState s r number startNs).frame .dev rfl).trans (setState_dev ..)

theorem startTicks_number (number startNs : Nat) : (startTicks number startNs s).tick.number = number := by
  unfold startTicks
  extract_lets cycle s1 stamp
  have himage : (replayPoints stamp (initImage stamp s1)).tick = s1.tick :=
    ((replayPoints_moves ..).frame .tick rfl).trans ((initImage_moves ..).frame .tick rfl)
  exact congrArg TickPart.number himage

theorem enterLive_number (r number startNs : Nat) : (enterLive r number startNs s).tick.number = number := by
  have hunits : (startUnits (r == 2) (startTicks number startNs (setRole r (setState .live s)))).tick.number = number :=
    (congrArg TickPart.number ((startUnits_moves ..).frame .tick rfl)).trans (startTicks_number ..)
  unfold enterLive
  extract_lets t
  split
  · have hair : (triggerFlush 3 (emit 0x1201 0 0 0 (raiseAir t))).tick = t.tick :=
      ((triggerFlush_moves ..).frame .tick rfl).trans (((emit_moves ..).frame .tick rfl).trans ((raiseAir_moves ..).frame .tick rfl))
    exact (congrArg TickPart.number hair).trans hunits
  · exact hunits

/-- What the first tick leaves in the state. -/
theorem firstTick_live (z : Nat) : (firstTick z s).dev = { s.dev with state := .live, tickZeroAt := none } ∧
    (firstTick z s).tick.number = 0 ∧ (firstTick z s).tick.curtainDone = false ∧ (firstTick z s).cfg = s.cfg := by
  have hdev : (wentLive z s).dev = { s.dev with state := .live, tickZeroAt := none } := enterLive_dev ..
  have hnumber : (wentLive z s).tick.number = 0 := enterLive_number ..
  have hcfg : (wentLive z s).cfg = s.cfg := (enterLive_moves ..).frame .cfg rfl
  unfold firstTick
  generalize hemit : emit 0x0201 _ _ 0 (wentLive z s) = s2
  have hs2 : Moves 0x200000 (wentLive z s) s2 := hemit ▸ emit_moves ..
  have hbegin := beginTick_moves s2
  have hfirst := digitalFirst_moves (beginTick s2)
  refine ⟨?_, ?_, ?_, ?_⟩
  · rw [hfirst.frame .dev rfl, hbegin.frame .dev rfl, hs2.frame .dev rfl, hdev]
  · rw [hfirst.frame .tick rfl, hbegin.frame .tickNumber rfl, hs2.frame .tick rfl, hnumber]
  · rw [hfirst.frame .tick rfl]
    exact congrArg (fun q => q.2.2) (sequencer_beginTick (s := s2))
  · rw [hfirst.frame .cfg rfl, hbegin.frame .cfg rfl, hs2.frame .cfg rfl, hcfg]

/-! ### LOCK_WAIT_EXPIRED -/

/-- LOCK_WAIT_S has passed in ARMED without the lock, under a policy that waits (R75). -/
def lockWaitOver (s : State) : Bool :=
  inState s .armed && s.cfg.start.timePolicy != 0 && !s.dev.lockWaited && !lockDomainLocked s &&
    decide (s.dev.armedAt + s.cfg.start.lockWaitS * 1000000000 ≤ nowNs s 1)

/-- The wait for the lock is over. -/
def lockWaitDone (s : State) : State := { s with dev := { s.dev with lockWaited := true } }

theorem exec_lockWaitExpired : exec .lockWaitExpired s =
    .next (if lockWaitOver s then
        if s.cfg.start.timePolicy = 1 then emit 0x0208 0 0 0 (lockWaitDone s) else lockWaitDone s
      else s) := rfl

theorem exec_lockWaitExpired_idle (h : inState s .armed = false ∨ s.cfg.start.timePolicy = 0 ∨ s.dev.lockWaited = true ∨
    lockDomainLocked s = true ∨ nowNs s 1 < s.dev.armedAt + s.cfg.start.lockWaitS * 1000000000) :
    exec .lockWaitExpired s = .next s := by
  have hover : lockWaitOver s = false := by
    rw [lockWaitOver]
    rcases h with h | h | h | h | h
    · simp [h]
    · simp [h]
    · simp [h]
    · simp [h]
    · simp [Nat.not_le_of_lt h]
  rw [exec_lockWaitExpired, hover]
  rfl

/-- An update of DEV's part that keeps the device state leaves every other part. -/
theorem onlyParts_dev {d : DevPart} (h : d.state = s.dev.state) : OnlyParts [.dev] s { s with dev := d } := by
  intro p hp
  cases p
  case dev => exact absurd (List.mem_singleton_self _) hp
  case devState => exact h
  all_goals rfl

/-- The end of the wait is recorded under WAIT_LOCK, and nothing else changes. -/
theorem exec_lockWaitExpired_over (hover : lockWaitOver s = true) : ∃ t, exec .lockWaitExpired s = .next t ∧
    t.dev = { s.dev with lockWaited := true } ∧
    OnlyParts (if s.cfg.start.timePolicy = 1 then [.dev, .cont] else [.dev]) s t := by
  have hdone : OnlyParts [.dev] s (lockWaitDone s) := onlyParts_dev s rfl
  have hrecord : Moves 0x200000 (lockWaitDone s) (emit 0x0208 0 0 0 (lockWaitDone s)) := emit_moves ..
  refine ⟨_, (exec_lockWaitExpired s).trans (congrArg _ (if_pos hover)), ?_⟩
  by_cases hpolicy : s.cfg.start.timePolicy = 1
  · rw [if_pos hpolicy, if_pos hpolicy]
    exact ⟨hrecord.frame .dev rfl, onlyParts_trans (onlyParts_mono hdone (by simp)) (onlyParts_of_moves _ _ hrecord rfl)⟩
  · rw [if_neg hpolicy, if_neg hpolicy]
    exact ⟨rfl, hdone⟩

end Sys2Proof.Machine
end

section
/-! The statement about the start of tick 0. -/

namespace Sys2Proof.Certificates

open Sys2Proof Sys2Proof.Machine

/-- Settles O10: START_CONDITION_MET by whether the Reel has a peer and by the levels of the grant and of the peer, GO_LIVE and
LOCK_WAIT_EXPIRED by whether their instant has come. -/
theorem tickZeroIsScheduledAndStarts : Obligations.TickZeroIsScheduledAndStarts := by
  refine ⟨fun peer s => ⟨fun harmed hpower hready hnone hjoin => ?_, exec_startConditionMet_idle s peer⟩,
    fun s => ⟨fun z harmed hpower hz hpast => ?_, fun z hz hahead => ?_, exec_goLive_idle s,
      fun harmed hpolicy hwaited hlock hpast => ?_, exec_lockWaitExpired_idle s⟩⟩
  · have hexec := exec_startConditionMet s peer
    rw [if_pos ((startDue_iff s).2 ⟨harmed, hpower, hready, hnone, hjoin⟩)] at hexec
    have hshown : OnlyFields [F.SPOT.INTERLOCK_PEER_ON_AIR] s (peerShown peer s) :=
      onlyFields_setF (List.mem_singleton_self _) onlyFields_refl
    refine ⟨fun hstart => ?_, fun hpair hgrant hpeer => ?_, fun hpair hlevels => ?_⟩
    · rcases hp : pairReel s with _ | _
      · obtain ⟨z, hz⟩ := scheduleStart_schedules s harmed moves_refl onlyFields_refl
        exact ⟨_, z, by simpa [hp] using hexec, hz⟩
      · obtain ⟨hgrant, hpeer⟩ := hstart.resolve_left (by simp [hp])
        obtain ⟨z, hz⟩ := scheduleStart_schedules (t := peerShown peer s) s harmed setF_moves hshown
        exact ⟨_, z, by simpa [hp, hgrant, hpeer] using hexec, hz⟩
    · obtain ⟨hjoins, hhash⟩ := startJoin_spot (peerShown peer s) harmed
      exact ⟨startJoin (peerShown peer s), by simpa [hpair, hgrant, hpeer] using hexec, hjoins, (startJoin_moves _).frame .dev rfl,
        hhash⟩
    · refine ⟨peerShown peer s, ?_, onlyParts_of_moves s _ setF_moves rfl, hshown⟩
      rw [hexec, if_pos hpair, hlevels]
      cases peer <;> rfl
  · obtain ⟨hdev, hnumber, hcurtain, hcfg⟩ := firstTick_live s z
    refine ⟨firstTick z s, ?_, by rw [hdev], hnumber, by rw [hdev], hcurtain, hcfg⟩
    rw [exec_goLive s hz, harmed, hpower, decide_eq_true hpast]
    rfl
  · rw [exec_goLive s hz, decide_eq_false (Nat.not_le_of_lt hahead), Bool.and_false]
    rfl
  · exact exec_lockWaitExpired_over s (by simp [lockWaitOver, harmed, hpolicy, hwaited, hlock, hpast])

end Sys2Proof.Certificates
end

section
/-! SUPPORT. The start-up commands of TXN: what TXN shows of a result, the restart that RESTART and MAINTENANCE call for, and a
Splice log that is emptied and bound anew (R78 to R80, R97, R100). -/

namespace Sys2Proof.Machine

open Sys2Proof

variable {s w : State} {c : Caller} {roles : List Nat}

/-! ### What TXN shows of a result -/

theorem runCommand_ok_reply {u op a0 res ret : Nat} {body : State → Body} {t : State} (h : Admitted c roles s)
    (hbody : body (touchSession c s) = .ok (t, res, ret)) :
    (runCommand u op c a0 (some roles) true body s).2 = { result := res, ret := ret } := by
  obtain ⟨⟨r, hr, hrole⟩, hpower, htie, hspare⟩ := h
  simp [runCommand, hrole, hr, hpower, htie, hspare, hbody]

theorem getF_txnResult (op : Nat) (r : Reply) (h : keysRise s.regs = true) :
    getF (showResult 2 op r s) F.TXN.CMD_RESULT_RESULT = r.result % 2 ^ 8 := by
  show getF (setF F.TXN.CMD_RETURN r.ret (setF F.TXN.CMD_RESULT_RESULT r.result (setF F.TXN.CMD_RESULT_OPCODE op s))) _ = _
  rw [getF_setF_other _ _ _ _ (by decide), getF_setF_same _ _ _ (setF_keysRise s _ _ h)]
  rfl

theorem getF_txnOpcode (op : Nat) (r : Reply) (h : keysRise s.regs = true) :
    getF (showResult 2 op r s) F.TXN.CMD_RESULT_OPCODE = op % 2 ^ 8 := by
  show getF (setF F.TXN.CMD_RETURN r.ret (setF F.TXN.CMD_RESULT_RESULT r.result (setF F.TXN.CMD_RESULT_OPCODE op s))) _ = _
  rw [getF_setF_other _ _ _ _ (by decide), getF_setF_other _ _ _ _ (by decide), getF_setF_same _ _ _ h]
  rfl

/-- An accepted command without a return value, shown. -/
def accepted (op : Nat) (c : Caller) (s : State) : State := showResult 2 op { result := resOk } (touchSession c s)

theorem accepted_moves (op : Nat) : Moves 0x800002 s (accepted op c s) :=
  moves_step (showResult_moves ..) rfl (touchSession_moves c s)

/-! ### GO -/

/-- The GO command has been given. -/
def goGiven (s : State) : State := { s with dev := { s.dev with goAccepted := true } }

/-- A GO that has been accepted. -/
def goTaken (c : Caller) (s : State) : State := showResult 2 0x10 { result := resOk } (goGiven (touchSession c s))

theorem exec_go {a0 : Nat} (h : Admitted c [roleOperator] s)
    (hlegal : (inState s .armed && s.cfg.start.startMode == 1 && timeMet s && !s.dev.goAccepted) = true) :
    exec (.go c a0) s = .next (goTaken c s) := by
  show Host.Outcome.next (cmdGo c a0 s).1 = _
  rw [cmdGo, hlegal, runCommand_ok h rfl]
  rfl

theorem goTaken_onlyParts : OnlyParts [.regs, .dev, .sec] s (goTaken c s) := by
  have htouch : OnlyParts [.regs, .dev, .sec] s (touchSession c s) := onlyParts_of_moves s _ (touchSession_moves c s) rfl
  have hgiven : OnlyParts [.dev] (touchSession c s) (goGiven (touchSession c s)) := onlyParts_dev _ rfl
  have hshown : Moves 0x2 (goGiven (touchSession c s)) (goTaken c s) := showResult_moves ..
  exact onlyParts_trans htouch (onlyParts_trans (onlyParts_mono hgiven (by simp)) (onlyParts_of_moves _ _ hshown rfl))

theorem goTaken_dev : (goTaken c s).dev = { s.dev with goAccepted := true } := by
  have htouch : (touchSession c s).dev = s.dev := (touchSession_moves c s).frame .dev rfl
  rw [← htouch]
  rfl

/-! ### The restart -/

/-- The steps of R79 that come before the flushes, outside LIVE. -/
def restartReleased (s : State) : State := endSessions 6 (lrpOff (dropOutputs (releaseAir s)))

theorem restartReleased_moves (s : State) : Moves 0xe100c2 s (restartReleased s) :=
  moves_step (endSessions_moves ..) rfl <| moves_step (lrpOff_moves ..) rfl <| moves_step (dropOutputs_moves ..) rfl <|
    moves_step (releaseAir_moves ..) rfl moves_refl

/-- A restart flushes at once, or waits for the windows that are open. -/
def flushOrWait (m : Bool) (s : State) : State :=
  if windowsOpen s then { s with dev := { s.dev with flushing := some m } } else restartFlush m s

theorem restartNow_eq (m : Bool) (s : State) : restartNow m s = flushOrWait m (restartReleased (leaveLive s)) := by
  unfold restartNow flushOrWait restartReleased
  rfl

theorem restart_goes (m : Bool) (hpower : powerFailing s = false) (hflush : s.dev.flushing = none)
    (href : s.dev.referenceLost = false) (hlive : inState s .live = false) :
    restart m s = flushOrWait m (restartReleased s) := by
  have hair : leaveLive s = s := by rw [leaveLive, hlive]; rfl
  have hnow : restart m s = restartNow m s := by simp [restart, hpower, hflush, href]
  rw [hnow, restartNow_eq, hair]

theorem restart_waits (m : Bool) (hpower : powerFailing s = false) (hflush : s.dev.flushing = none)
    (href : s.dev.referenceLost = true) : restart m s = { s with dev := { s.dev with restartWaits := some m } } := by
  rw [restart, hpower, hflush, href]
  rfl

theorem restartFlush_cfg (m : Bool) (s : State) : (restartFlush m s).cfg = {} := enterBoot_cfg ..

/-- The flushes of a restart and the entry to BOOT keep the Splice log. -/
theorem restartFlush_log (m : Bool) (s : State) : (restartFlush m s).txn.log = s.txn.log :=
  (restartFlush_moves m s).frame .log rfl

/-- What an accepted RESTART or MAINTENANCE leads to: BOOT at once, or a wait for the windows that are open or for the
reference. -/
theorem restart_outcomes (m : Bool) (hmoves : Moves 0x800002 s w) (hpower : powerFailing s = false)
    (hflush : s.dev.flushing = none) (hlive : inState s .live = false) :
    (s.dev.referenceLost = false → windowsOpen s = false → (restart m w).dev.state = .boot ∧ (restart m w).cfg = {} ∧
      (restart m w).txn.log = s.txn.log ∧ (restart m w).dev.maintenanceRequested = m ∧ (restart m w).pending = s.pending) ∧
    (s.dev.referenceLost = false → windowsOpen s = true → (restart m w).dev = { s.dev with flushing := some m }) ∧
    (s.dev.referenceLost = true → (restart m w).dev = { s.dev with restartWaits := some m }) := by
  have hdev : w.dev = s.dev := hmoves.frame .dev rfl
  have hpower' : powerFailing w = false := by rw [powerFailing, hmoves.frame .pwr rfl]; exact hpower
  have hlive' : inState w .live = false := by rw [inState, hdev]; exact hlive
  have hopen : windowsOpen w = windowsOpen s := windowsOpen_congr (hmoves.frame .boe rfl)
  have hreleased : windowsOpen (restartReleased w) = windowsOpen w := windowsOpen_congr ((restartReleased_moves w).frame .boe rfl)
  rw [← hdev] at hflush ⊢
  rw [← hopen]
  refine ⟨fun href hclosed => ?_, fun href hstill => ?_, fun href => ?_⟩
  · obtain ⟨hstate, hrequest⟩ := restart_boots w m hpower' hflush href hlive' hclosed
    have hgoes := restart_goes m hpower' hflush href hlive'
    rw [flushOrWait, hreleased, hclosed] at hgoes
    refine ⟨hstate, ?_, ?_, hrequest, ((restart_moves m w).frame .pending rfl).trans (hmoves.frame .pending rfl)⟩
    · rw [hgoes]
      exact restartFlush_cfg ..
    · rw [hgoes]
      exact (restartFlush_log ..).trans (((restartReleased_moves w).frame .log rfl).trans (hmoves.frame .log rfl))
  · rw [restart_goes m hpower' hflush href hlive', flushOrWait, hreleased, hstill, ← (restartReleased_moves w).frame .dev rfl]
    rfl
  · rw [restart_waits m hpower' hflush href]

theorem exec_restart {a0 : Nat} (h : Admitted c [roleEngineer] s)
    (hlegal : (restartLegal s || (inState s .boot && flag s F.DEV.STATE_BOOT_HALTED)) = true) :
    exec (.restart c a0) s = .next (restart false (accepted 0x11 c s)) := by
  show Host.Outcome.next (cmdRestart c a0 s).1 = _
  rw [cmdRestart, hlegal, thenRestart, runCommand_ok_reply h rfl, if_pos rfl, runCommand_ok h rfl]
  rfl

theorem exec_maintenance {a0 : Nat} (h : Admitted c [roleEngineer, roleSecurity] s) (hlegal : restartLegal s = true) :
    exec (.maintenance c a0) s = .next (restart true (accepted 0x12 c s)) := by
  show Host.Outcome.next (cmdMaintenance c a0 s).1 = _
  rw [cmdMaintenance, hlegal, thenRestart, runCommand_ok_reply h rfl, if_pos rfl, runCommand_ok h rfl]
  rfl

/-- In a device state no restart is flushing. -/
theorem flushing_of_inState {d : DevState} (h : inState s d = true) : s.dev.flushing = none := by
  rw [inState, Bool.and_eq_true, Option.isNone_iff_eq_none] at h
  exact h.2

theorem flushing_of_restartLegal (h : restartLegal s = true) : s.dev.flushing = none := by
  simp only [restartLegal, Bool.or_eq_true, Bool.and_eq_true] at h
  rcases h with (((h | h) | h) | h) | ⟨h, -⟩ <;> exact flushing_of_inState h

/-! ### The Splice log, emptied and bound anew -/

/-- A header as it is written: its HEADER_HASH holds. -/
def freshHeader (hash : List Nat) (gen nextId : Nat) : LogHeader :=
  let h : LogHeader := { magic := 0x474C5053, format := 1, generation := gen, reelHash := hash, nextTakeId := nextId }
  { h with headerHash := wordsLE (sha384 (headerBytes h)) }

theorem headerValid_freshHeader (hash : List Nat) (gen nextId : Nat) : headerValid (freshHeader hash gen nextId) = true := by
  simp [headerValid, freshHeader, headerBytes]

theorem headers_writeHeader (hash : List Nat) : (writeHeader hash s).txn.headers =
    listUpd {} s.txn.headers (if headerInUse s = some 0 then 1 else 0) (fun _ => freshHeader hash
      (match headerInUse s with
        | some k => (s.txn.headers.getD k {}).generation + 1
        | none => 1) s.txn.nextId) := rfl

/-- Which of two header copies is in use. -/
theorem headerInUse_cases {a b : LogHeader} (h : s.txn.headers = [a, b]) :
    (headerInUse s = none ∧ headerValid b = false) ∨ (headerInUse s = some 0 ∧ headerValid a = true) ∨
      (headerInUse s = some 1 ∧ headerValid b = true) := by
  unfold headerInUse
  rw [h]
  cases ha : headerValid a with
  | false => cases hb : headerValid b <;> simp [ha, hb]
  | true =>
    cases hb : headerValid b with
    | false => simp [ha, hb]
    | true => simpa [ha, hb] using le_or_gt b.generation a.generation

/-- The copy that holds a valid header with the higher generation gives the hash. -/
theorem logHash_left {a b : LogHeader} (h : s.txn.headers = [a, b]) (ha : headerValid a = true)
    (hb : headerValid b = true → b.generation ≤ a.generation) : logHash s = a.reelHash := by
  unfold logHash headerInUse
  rw [h]
  cases hv : headerValid b with
  | false => simp [ha, hv]
  | true => simp [ha, hv, Nat.not_lt_of_le (hb hv)]

/-- See logHash_left. -/
theorem logHash_right {a b : LogHeader} (h : s.txn.headers = [a, b]) (hb : headerValid b = true)
    (ha : a.generation < b.generation) : logHash s = b.reelHash := by
  unfold logHash headerInUse
  rw [h]
  cases hv : headerValid a with
  | false => simp [hb, hv]
  | true => simp [hb, hv, ha]

/-- A written header is the one in use: the log is bound to its hash. -/
theorem logHash_writeHeader (hash : List Nat) (h : s.txn.headers.length = 2) : logHash (writeHeader hash s) = hash := by
  obtain ⟨a, b, hab⟩ := List.length_eq_two.1 h
  have hw := headers_writeHeader (s := s) hash
  rcases headerInUse_cases hab with ⟨huse, hb⟩ | ⟨huse, ha⟩ | ⟨huse, hb⟩
  all_goals rw [huse, hab] at hw
  · exact logHash_left hw (headerValid_freshHeader ..) fun hb' => absurd (hb.symm.trans hb') Bool.false_ne_true
  · exact logHash_right hw (headerValid_freshHeader ..) (Nat.lt_succ_self _)
  · exact logHash_left hw (headerValid_freshHeader ..) fun _ => Nat.le_succ _

theorem resetLog_txn (hash : List Nat) (s : State) :
    (resetLog hash s).txn = { (writeHeader hash s).txn with log := [], logBroken := false, spanId := none } :=
  (showLog_moves _).frame .txn rfl

theorem spliceReset_log (hash : List Nat) (s : State) : (spliceReset hash s).txn.log = [] :=
  congrArg TxnPart.log (resetLog_txn ..)

theorem logHash_spliceReset (hash : List Nat) (h : s.txn.headers.length = 2) : logHash (spliceReset hash s) = hash := by
  unfold spliceReset
  extract_lets p n
  generalize hemit : emit 0x0207 p.1 p.2 n s = t
  have htxn : t.txn = s.txn := hemit ▸ (emit_moves ..).frame .txn rfl
  have hheaders : (resetLog hash t).txn.headers = (writeHeader hash t).txn.headers := by rw [resetLog_txn]
  rw [logHash_congr hheaders]
  exact logHash_writeHeader hash (htxn ▸ h)

/-- A DISCARD_SPLICE_LOG that has been accepted. -/
def logDiscarded (c : Caller) (s : State) : State :=
  showResult 2 0x13 { result := resOk } (spliceReset (List.replicate 12 0) (touchSession c s))

theorem exec_discardSpliceLog {a0 : Nat} (h : Admitted c [roleEngineer] s) (hstate : inState s .maintenance = true) :
    exec (.discardSpliceLog c a0) s = .next (logDiscarded c s) := by
  show Host.Outcome.next (cmdDiscardSpliceLog c a0 s).1 = _
  rw [cmdDiscardSpliceLog, hstate, runCommand_ok h rfl]
  rfl

end Sys2Proof.Machine
end

section
/-! The statement about the start-up commands. -/

namespace Sys2Proof.Certificates

open Sys2Proof Sys2Proof.Machine

/-- Settles O11: each command is admitted and legal, so that it answers with its own effect; that a restart waits for the open
windows and for the reference is log entry 32. -/
theorem startCommands : Obligations.StartCommands := by
  intro c a0 s wf
  have htouch : WellKept (touchSession c s) := (touchSession_moves c s).form wf
  refine ⟨fun hadm harmed hmode htime hgo => ?_, fun hadm hlegal hlive => ?_, fun hadm hlegal hlive => ?_, fun hadm hstate => ?_⟩
  · exact ⟨_, exec_go hadm (by simp [harmed, hmode, htime, hgo]), goTaken_dev, getF_txnResult _ _ htouch.regs,
      getF_txnOpcode _ _ htouch.regs, goTaken_onlyParts⟩
  · have hflush : s.dev.flushing = none := hlegal.elim flushing_of_restartLegal fun h => flushing_of_inState h.1
    have hexec := exec_restart (a0 := a0) hadm (by simpa using hlegal)
    obtain ⟨hboot, hwait, href⟩ := restart_outcomes false (accepted_moves (c := c) 0x11) hadm.2.1 hflush hlive
    exact ⟨fun h1 h2 => ⟨_, hexec, hboot h1 h2⟩, fun h1 h2 => ⟨_, hexec, hwait h1 h2⟩, fun h1 => ⟨_, hexec, href h1⟩⟩
  · have hflush : s.dev.flushing = none := flushing_of_restartLegal hlegal
    have hexec := exec_maintenance (a0 := a0) hadm hlegal
    obtain ⟨hboot, hwait, href⟩ := restart_outcomes true (accepted_moves (c := c) 0x12) hadm.2.1 hflush hlive
    exact ⟨fun h1 h2 => ⟨_, hexec, hboot h1 h2⟩, fun h1 h2 => ⟨_, hexec, hwait h1 h2⟩, fun h1 => ⟨_, hexec, href h1⟩⟩
  · have hreset := spliceReset_moves (List.replicate 12 0) (touchSession c s)
    have hshown : Moves 0x2 (spliceReset (List.replicate 12 0) (touchSession c s)) (logDiscarded c s) := showResult_moves ..
    have hmoves : Moves 0x20a00082 s (logDiscarded c s) :=
      moves_step hshown rfl <| moves_step hreset rfl <| moves_step (touchSession_moves c s) rfl moves_refl
    refine ⟨_, exec_discardSpliceLog hadm hstate, ?_, ?_, getF_txnResult _ _ (hreset.form htouch).regs,
      onlyParts_of_moves s _ hmoves rfl⟩
    · rw [hshown.frame .txn rfl, spliceReset_log]
    · rw [logHash_congr (congrArg TxnPart.headers (hshown.frame .txn rfl)), logHash_spliceReset _ htouch.headers]

end Sys2Proof.Certificates
end

section
/-! SUPPORT. Loads that fail (R57 to R60, R72): what LOAD_ERROR shows, and what a failed load and a removed card leave. -/

namespace Sys2Proof.Machine

open Sys2Proof

variable (s : State)

/-! ### What a change of the device state writes -/

theorem setState_onlyFields (d : DevState) : OnlyFields (F.DEV.STATE_STATE :: causeFields) s (setState d s) := by
  refine onlyFields_ite onlyFields_refl ?_
  have hstate : OnlyFields (F.DEV.STATE_STATE :: causeFields) s
      (setF F.DEV.STATE_STATE (devCode d) { s with dev := { s.dev with state := d } }) :=
    onlyFields_setF List.mem_cons_self onlyFields_refl
  exact onlyFields_trans (onlyFields_emit hstate) (onlyFields_mono (raiseCause_onlyFields 20 _) (List.subset_cons_self _ _))

/-! ### The load error -/

/-- LOAD_ERROR and LOAD_DETAIL show an error (R72). -/
def errorShown (e : LoadError) (s : State) : State :=
  setF F.TXN.LOAD_DETAIL e.2.2 (setF F.TXN.LOAD_ERROR_SECTION e.2.1 (setF F.TXN.LOAD_ERROR_CODE e.1 s))

theorem errorShown_fields (e : LoadError) (h : keysRise s.regs = true) :
    getF (errorShown e s) F.TXN.LOAD_ERROR_CODE = e.1 % 2 ^ 8 ∧ getF (errorShown e s) F.TXN.LOAD_ERROR_SECTION = e.2.1 % 2 ^ 8 ∧
      getF (errorShown e s) F.TXN.LOAD_DETAIL = e.2.2 % 2 ^ 32 := by
  have hcode := setF_keysRise s F.TXN.LOAD_ERROR_CODE e.1 h
  have hsection := setF_keysRise _ F.TXN.LOAD_ERROR_SECTION e.2.1 hcode
  refine ⟨?_, ?_, getF_setF_same _ _ _ hsection⟩
  · rw [errorShown, getF_setF_other _ _ _ _ (by decide), getF_setF_other _ _ _ _ (by decide), getF_setF_same _ _ _ h]
    rfl
  · rw [errorShown, getF_setF_other _ _ _ _ (by decide), getF_setF_same _ _ _ hcode]
    rfl

/-- A domain that did not wake is recorded with its wake time (R72, R525). -/
def wakeRecorded (e : LoadError) (s : State) : State := if e.1 = 0x11 then emit 0x1704 e.2.2 (wakeUs e.2.2) 0 s else s

theorem wakeRecorded_moves (e : LoadError) : Moves 0x200000 s (wakeRecorded e s) := moves_ite (emit_moves ..) moves_refl

theorem failLoad_eq (e : LoadError) :
    failLoad e s = setState .maintenance (emit 0x0202 e.1 e.2.1 e.2.2 (errorShown e (wakeRecorded e s))) := rfl

/-- A failed load shows its error. -/
theorem failLoad_fields (e : LoadError) (wf : WellKept s) :
    getF (failLoad e s) F.TXN.LOAD_ERROR_CODE = e.1 % 2 ^ 8 ∧ getF (failLoad e s) F.TXN.LOAD_ERROR_SECTION = e.2.1 % 2 ^ 8 ∧
      getF (failLoad e s) F.TXN.LOAD_DETAIL = e.2.2 % 2 ^ 32 := by
  have hshown := errorShown_fields (wakeRecorded e s) e ((wakeRecorded_moves s e).form wf).regs
  have hkeep : ∀ f, (∀ g ∈ F.DEV.STATE_STATE :: causeFields, fieldKey g ≠ fieldKey f) →
      getF (failLoad e s) f = getF (errorShown e (wakeRecorded e s)) f := fun f hf =>
    (setState_onlyFields _ .maintenance f hf).trans (getF_emit ..)
  rw [hkeep _ (by decide), hkeep _ (by decide), hkeep _ (by decide)]
  exact hshown

theorem failLoad_dev (e : LoadError) : (failLoad e s).dev = { s.dev with state := .maintenance } := by
  have hdev : (emit 0x0202 e.1 e.2.1 e.2.2 (errorShown e (wakeRecorded e s))).dev = s.dev :=
    ((emit_moves ..).frame .dev rfl).trans ((wakeRecorded_moves s e).frame .dev rfl)
  rw [failLoad_eq, setState_dev, hdev]

/-! ### LOAD_FAILED -/

theorem gptBackup_moves_cont (c : CardInfo) : Moves 0x200000 s (gptBackup c s) := moves_ite (emit_moves ..) moves_refl

/-- The card in the slot has been seen (R57). -/
def cardSeen (c : CardInfo) (s : State) : State :=
  { s with dev := { s.dev with cardPresent := c.present, cardMode := if c.present then (cardMode c).getD 0 else 0 } }

theorem readCard_moves_cont (c : CardInfo) : Moves 0x200000 (cardSeen c s) (readCard c s) := gptBackup_moves_cont _ c

/-- What LOAD has done before it fails: the card is read, and the sections that passed before step 12 fails are skipped or
applied. -/
def loadBegun (x : ReelImage) (c : CardInfo) (s : State) : State :=
  let r := loadedReel x s
  if (checkForm x r c s).isSome || (wakeError r c s).isSome then readCard c s
  else skipSections r (sectionsPassed r s 0 r.table) (readCard c s)

theorem loadBegun_moves (x : ReelImage) (c : CardInfo) : Moves 0x200000 (cardSeen c s) (loadBegun x c s) :=
  moves_ite (readCard_moves_cont s c) (moves_step (skipSections_moves ..) rfl (readCard_moves_cont s c))

theorem cardSeen_wellKept (c : CardInfo) (wf : WellKept s) : WellKept (cardSeen c s) :=
  ⟨wf.regs, wf.live, wf.snap, wf.window, wf.cond, wf.bases, wf.slots, wf.sessions, wf.ports, wf.volatileRing, wf.headers⟩

theorem exec_loadFailed {x : ReelImage} {c : CardInfo} {e : LoadError} (hload : loading s = true)
    (herror : loadError x c s = some e) : exec (.loadFailed x c) s = .next (failLoad e (loadBegun x c s)) := by
  show execLoadFailed x c s = _
  rw [loadError] at herror
  simp only [execLoadFailed, hload, herror, Bool.not_true, Bool.false_eq_true, if_false]
  rfl

/-- LOAD_FAILED changes nothing where LOAD is not working or the image passes. -/
theorem exec_loadFailed_idle {x : ReelImage} {c : CardInfo} (h : loading s = false ∨ loadError x c s = none) :
    exec (.loadFailed x c) s = .next s := by
  show execLoadFailed x c s = _
  unfold execLoadFailed
  cases hload : loading s with
  | false => rfl
  | true =>
    have hpass := h.resolve_left (by simp [hload])
    rw [loadError] at hpass
    simp only [hpass, Bool.not_true, Bool.false_eq_true, if_false]

/-- LOAD_DONE changes nothing where LOAD is not working or the image fails. -/
theorem exec_loadDone_idle {x : ReelImage} {c : CardInfo} (h : loading s = false ∨ (loadError x c s).isNone = false) :
    exec (.loadDone x c) s = .next s := by
  show execLoadDone x c s = _
  have hnot : (loading s && (loadError x c s).isNone) = false := by
    rcases h with hload | herror
    · rw [hload, Bool.false_and]
    · rw [herror, Bool.and_false]
  rw [execLoadDone, hnot]
  rfl

/-! ### CARD_REMOVED -/

/-- The slot is empty (R60). -/
def cardGone (s : State) : State := { s with dev := { s.dev with cardPresent := false } }

theorem cardGone_wellKept (wf : WellKept s) : WellKept (cardGone s) :=
  ⟨wf.regs, wf.live, wf.snap, wf.window, wf.cond, wf.bases, wf.slots, wf.sessions, wf.ports, wf.volatileRing, wf.headers⟩

/-- The removal is recorded. -/
def removalRecorded (s : State) : State := emit 0x0205 0 0 0 (cardGone s)

theorem removalRecorded_moves : Moves 0x200000 (cardGone s) (removalRecorded s) := emit_moves ..

theorem exec_cardRemoved : exec .cardRemoved s =
    .next (if inState s .off || inState s .boot then cardGone s
      else if loading s then
        failLoad (0x02, 0xFF, lo32 (drawFree (removalRecorded s)).1.toNat) (drawFree (removalRecorded s)).2
      else removalRecorded s) := rfl

/-- The card that goes while LOAD works fails the load with CARD_ERROR. -/
theorem exec_cardRemoved_loading (hload : loading s = true) : ∃ n, exec .cardRemoved s =
    .next (failLoad (0x02, 0xFF, n) (drawFree (removalRecorded s)).2) := by
  have hstate : inState s .load = true := ((Bool.and_eq_true ..).mp hload).1
  have hexec := exec_cardRemoved s
  rw [inState_unique s hstate (by decide), inState_unique s hstate (by decide), hload] at hexec
  exact ⟨_, hexec⟩

/-! ### What the two leave -/

theorem loadFailed_outcome {x : ReelImage} {c : CardInfo} {e : LoadError} (wf : WellKept s) (hload : loading s = true)
    (herror : loadError x c s = some e) : ∃ t, exec (.loadFailed x c) s = .next t ∧ t.dev.state = .maintenance ∧
      t.dev.cardPresent = c.present ∧ getF t F.TXN.LOAD_ERROR_CODE = e.1 % 2 ^ 8 ∧
      getF t F.TXN.LOAD_ERROR_SECTION = e.2.1 % 2 ^ 8 ∧ getF t F.TXN.LOAD_DETAIL = e.2.2 % 2 ^ 32 ∧ t.cfg = s.cfg := by
  have hbegun := loadBegun_moves s x c
  have hdev : (failLoad e (loadBegun x c s)).dev = { (cardSeen c s).dev with state := .maintenance } := by
    rw [failLoad_dev, hbegun.frame .dev rfl]
  obtain ⟨hcode, hsection, hdetail⟩ := failLoad_fields (loadBegun x c s) e (hbegun.form (cardSeen_wellKept s c wf))
  refine ⟨_, exec_loadFailed s hload herror, by rw [hdev], by rw [hdev]; rfl, hcode, hsection, hdetail, ?_⟩
  exact ((failLoad_moves ..).frame .cfg rfl).trans (hbegun.frame .cfg rfl)

theorem cardRemoved_fails (wf : WellKept s) (hload : loading s = true) : ∃ t, exec .cardRemoved s = .next t ∧
    t.dev.cardPresent = false ∧ t.dev.state = .maintenance ∧ getF t F.TXN.LOAD_ERROR_CODE = 2 ∧ t.cfg = s.cfg := by
  obtain ⟨n, hexec⟩ := exec_cardRemoved_loading s hload
  have hdrawn : Moves 0x4200000 (cardGone s) (drawFree (removalRecorded s)).2 :=
    moves_step (drawFree_moves _) rfl (moves_step (removalRecorded_moves s) rfl moves_refl)
  have hdev : (failLoad (0x02, 0xFF, n) (drawFree (removalRecorded s)).2).dev = { (cardGone s).dev with state := .maintenance } := by
    rw [failLoad_dev, hdrawn.frame .dev rfl]
  refine ⟨_, hexec, by rw [hdev]; rfl, by rw [hdev], (failLoad_fields _ _ (hdrawn.form (cardGone_wellKept s wf))).1, ?_⟩
  exact ((failLoad_moves ..).frame .cfg rfl).trans (hdrawn.frame .cfg rfl)

theorem cardRemoved_stays (hidle : loading s = false) : ∃ t, exec .cardRemoved s = .next t ∧
    t.dev = { s.dev with cardPresent := false } ∧ OnlyParts [.dev, .cont] s t := by
  have hgone : OnlyParts [.dev, .cont] s (cardGone s) := onlyParts_mono (onlyParts_dev s rfl) (by simp)
  have hrecorded := removalRecorded_moves s
  have hexec := exec_cardRemoved s
  rw [hidle] at hexec
  refine ⟨_, hexec, ?_⟩
  split
  · exact ⟨rfl, hgone⟩
  · exact ⟨hrecorded.frame .dev rfl, onlyParts_trans hgone (onlyParts_of_moves _ _ hrecorded rfl)⟩

end Sys2Proof.Machine
end

section
/-! SUPPORT. Which fields a Reel sets: BAT's TAMPER flag is none of them (R6, R319). -/

namespace Sys2Proof.Machine

open Sys2Proof

/-! ### Fields off the TAMPER flag -/

/-- A field that stands at another bit than BAT.STATUS.TAMPER, or at an address that no row places with it. -/
def offTamper (f : Field) : Bool := decide (f.lsb < 32) && (f.lsb != 2 || f.addr % 16 != 4)

theorem fieldKey_of_offTamper {f : Field} (h : offTamper f = true) : fieldKey f ≠ fieldKey F.BAT.STATUS_TAMPER := by
  simp only [offTamper, Bool.and_eq_true, Bool.or_eq_true, decide_eq_true_eq, bne_iff_ne] at h
  simp only [fieldKey, F.BAT.STATUS_TAMPER]
  omega

/-- Every field of a list of writes stands off the TAMPER flag. -/
def allOff (l : List (Field × Nat)) : Bool := l.all (fun e => offTamper e.1)

theorem allOff_append {l m : List (Field × Nat)} (hl : allOff l = true) (hm : allOff m = true) : allOff (l ++ m) = true := by
  rw [allOff, List.all_append, Bool.and_eq_true]
  exact ⟨hl, hm⟩

theorem allOff_cons {f : Field} {v : Nat} {l : List (Field × Nat)} (hf : offTamper f = true) (hl : allOff l = true) :
    allOff ((f, v) :: l) = true := by
  rw [allOff, List.all_cons, Bool.and_eq_true]
  exact ⟨hf, hl⟩

theorem allOff_flatMap {α : Type} {l : List α} {f : α → List (Field × Nat)} (h : ∀ x, allOff (f x) = true) :
    allOff (l.flatMap f) = true := by
  rw [allOff, List.all_flatMap, List.all_eq_true]
  exact fun x _ => h x

theorem allOff_map {α : Type} {l : List α} {f : α → Field × Nat} (h : ∀ x, offTamper (f x).1 = true) :
    allOff (l.map f) = true := by
  rw [allOff, List.all_map, List.all_eq_true]
  exact fun x _ => h x

theorem allOff_ite {c : Prop} [Decidable c] {l m : List (Field × Nat)} (hl : allOff l = true) (hm : allOff m = true) :
    allOff (if c then l else m) = true := by
  split <;> assumption

theorem allOff_getD {α : Type} {o : Option α} {f : α → List (Field × Nat)} (h : ∀ x, allOff (f x) = true) :
    allOff ((o.map f).getD []) = true := by
  cases o with
  | none => rfl
  | some x => exact h x

/-! ### The fields that a Reel sets -/

/-- The two rows of the Reel's fields with a field at bit 2 lie at multiples of 16. -/
theorem offTamper_baseServo (i : Nat) : offTamper (F.CLAP.BASE_SERVO i) = true := by
  have haddr : (F.CLAP.BASE_SERVO i).addr % 16 ≠ 4 := by simp only [F.CLAP.BASE_SERVO]; omega
  rw [offTamper, bne_iff_ne.2 haddr, Bool.or_true]
  rfl

/-- See offTamper_baseServo. -/
theorem offTamper_meterWiring (i : Nat) : offTamper (F.BOE.METER_STATE_WIRING i) = true := by
  have haddr : (F.BOE.METER_STATE_WIRING i).addr % 16 ≠ 4 := by simp only [F.BOE.METER_STATE_WIRING]; omega
  rw [offTamper, bne_iff_ne.2 haddr, Bool.or_true]
  rfl

variable (r : Reel)

theorem tickFields_off : allOff (tickFields r) = true :=
  allOff_append (allOff_append rfl (allOff_flatMap fun _ => rfl)) (allOff_flatMap fun _ => rfl)

theorem hashFields_off {f : Nat → Field} (hf : ∀ i, offTamper (f i) = true) (h : List Nat) : allOff (hashFields f h) = true :=
  allOff_map fun i => hf i

theorem clapFields_off : allOff (clapFields r) = true :=
  allOff_append (allOff_append rfl (allOff_flatMap fun _ => allOff_cons rfl (allOff_cons (offTamper_baseServo _) rfl)))
    (allOff_flatMap fun _ => rfl)

theorem solverFields_off : allOff (solverFields r) = true :=
  allOff_append (allOff_append (allOff_append (allOff_ite rfl rfl)
    (allOff_ite rfl (allOff_append rfl (allOff_flatMap fun _ => rfl)))) (allOff_ite rfl rfl)) rfl

theorem workFields_off : allOff (workFields r) = true :=
  allOff_append (allOff_append rfl (allOff_map fun _ => rfl)) (allOff_flatMap fun _ => rfl)

theorem boeFields_off (x : ElecMetro) : allOff (boeFields x) = true :=
  allOff_append (allOff_append (allOff_append (allOff_append rfl (allOff_map fun _ => rfl))
    (allOff_flatMap fun c => allOff_cons rfl (allOff_cons (offTamper_meterWiring c.meter) rfl)))
    (allOff_flatMap fun _ => rfl)) (allOff_flatMap fun _ => rfl)

theorem meterFields_off : allOff (meterFields r) = true :=
  allOff_append (allOff_append (allOff_append (allOff_getD boeFields_off) (hashFields_off (fun _ => rfl) _))
    (allOff_getD fun _ => rfl))
    (allOff_getD fun _ => allOff_cons rfl (allOff_flatMap fun _ => rfl))

theorem portFields_off : allOff (portFields r) = true :=
  allOff_append (allOff_append (allOff_append rfl (allOff_map fun _ => rfl)) (allOff_flatMap fun _ => rfl))
    (allOff_flatMap fun _ => rfl)

theorem canFields_off : allOff (canFields r) = true := by
  refine allOff_cons rfl (allOff_flatMap fun e => ?_)
  rcases e with ⟨n, _ | p⟩
  · rfl
  · exact allOff_append rfl (allOff_flatMap fun _ => rfl)

theorem systemFields_off : allOff (systemFields r) = true := by
  refine allOff_append (allOff_append rfl (allOff_map fun _ => rfl)) ?_
  split <;> rfl

/-- No field that a Reel sets is BAT's TAMPER flag. -/
theorem reelFields_off : allOff (reelFields r) = true :=
  allOff_append (allOff_append (allOff_append (allOff_append (allOff_append (allOff_append (allOff_append (allOff_append
    (tickFields_off r) (hashFields_off (fun _ => rfl) _)) (clapFields_off r)) (solverFields_off r)) (workFields_off r))
    (meterFields_off r)) (portFields_off r)) (canFields_off r)) (systemFields_off r)

/-! ### The fields that a tunable may name -/

theorem unitRows_lsb_lt : ∀ u < 24, ∀ x ∈ unitRows u, ∀ f ∈ x.fields, f.lsb < 32 := by decide +kernel

/-- A register's fields lie at its address. -/
theorem fieldsAt_placed {a : Nat} {f : Field} (hf : f ∈ fieldsAt a) : f.addr = a ∧ f.lsb < 32 := by
  unfold fieldsAt at hf
  split at hf
  next x hx =>
    obtain ⟨g, hg, rfl⟩ := List.mem_map.1 hf
    have hmem : x ∈ unitRows (unitOfAddr a) := List.mem_of_find?_eq_some hx
    have hu : unitOfAddr a < 24 := by
      by_contra hu
      rw [unitRows_above (Nat.le_of_not_lt hu)] at hmem
      cases hmem
    exact ⟨rfl, unitRows_lsb_lt _ hu x hmem g hg⟩
  next => cases hf

theorem batStatus_readOnly : ∀ f ∈ fieldsAt 0x0D00004, f.access ≠ .tk := by decide +kernel

/-- A field that a Take may write is not BAT's TAMPER flag. -/
theorem fieldKey_of_tk {a : Nat} {f : Field} (hf : f ∈ fieldsAt a) (htk : f.access = .tk) :
    fieldKey f ≠ fieldKey F.BAT.STATUS_TAMPER := by
  obtain ⟨haddr, hlsb⟩ := fieldsAt_placed hf
  intro hkey
  have ha : a = 0x0D00004 := by
    simp only [fieldKey, F.BAT.STATUS_TAMPER, haddr] at hkey
    omega
  subst ha
  exact batStatus_readOnly f hf htk

/-! ### What the load's checks say of the tunables (R82) -/

/-- The tunables of a Reel that stand for a register field name one that a Take may write. -/
def TunablesNameTk (r : Reel) : Prop :=
  ∀ x, r.tunables = some x → ∀ t ∈ x.entries, t.kind = 0 → (targetField t).map Field.access = some .tk

theorem firstBad_cons {a : Chk} {l : List Chk} : firstBad (a :: l) = none ↔ a = none ∧ firstBad l = none := by
  cases a <;> simp [firstBad]

theorem inBody_none {ok : Bool} {o : Nat} (h : inBody ok o = none) : ok = true := by
  unfold inBody need at h
  split at h
  · assumption
  · cases h

theorem eachNext_none {α : Type} {f : Option α → Nat → α → Chk} {l : List α} {p : Option α} {i : Nat}
    (h : eachNext f p i l = none) : ∀ x ∈ l, ∃ q j, f q j x = none := by
  induction l generalizing p i with
  | nil => exact fun _ hx => absurd hx List.not_mem_nil
  | cons y l ih =>
    unfold eachNext at h
    split at h
    next => cases h
    next hy => exact List.forall_mem_cons.2 ⟨⟨_, _, hy⟩, ih h⟩

/-- TUNABLES passes only where its KIND 0 entries name fields that a Take may write. -/
theorem checkTunables_tk {x : TunablesSec} {s : State} (h : checkTunables x s = none) {t : Tunable} (ht : t ∈ x.entries)
    (hkind : t.kind = 0) : (targetField t).map Field.access = some .tk := by
  simp only [checkTunables, firstBad_cons] at h
  obtain ⟨-, -, -, heach, -⟩ := h
  obtain ⟨q, j, hentry⟩ := eachNext_none heach t ht
  simp only [firstBad_cons] at hentry
  obtain ⟨-, -, -, -, -, -, -, htarget, -⟩ := hentry
  simpa [hkind] using inBody_none htarget

theorem lowerBad_none {a b : Chk} (h : lowerBad a b = none) : b = none := by
  cases a with
  | none => exact h
  | some x =>
    cases b with
    | none => rfl
    | some y =>
      change (if _ then some y else some x) = none at h
      split at h <;> cases h

theorem bodyErrors_none {s : State} {p : Nat} {l : List SectionEntry} (h : bodyErrors r s p l = none) :
    ∀ e ∈ l, knownEntry e = true → fieldCheck r s e.typ = none := by
  induction l generalizing p with
  | nil => exact fun _ he => absurd he List.not_mem_nil
  | cons e l ih =>
    unfold bodyErrors at h
    split at h
    next => cases h
    next hown =>
      split at h
      next => cases h
      next =>
        refine List.forall_mem_cons.2 ⟨fun hknown => ?_, ih h⟩
        rw [entryError, if_pos hknown, Option.map_eq_none_iff] at hown
        exact lowerBad_none hown

/-- A body is read only from an entry that the manual defines. -/
theorem bodiesFrom_known {x : ReelImage} {h : ReelHeader} {k : List Nat} {i : Nat} {l : List SectionEntry} {b : Nat × List Nat}
    (hb : b ∈ bodiesFrom x h k i l) : ∃ e ∈ l, knownEntry e = true ∧ e.typ = b.1 := by
  induction l generalizing i with
  | nil => exact absurd hb List.not_mem_nil
  | cons e l ih =>
    unfold bodiesFrom at hb
    extract_lets rest at hb
    have hrest : b ∈ rest → ∃ e' ∈ e :: l, knownEntry e' = true ∧ e'.typ = b.1 := fun hb =>
      (ih hb).imp fun e' h => ⟨List.mem_cons_of_mem _ h.1, h.2⟩
    split at hb
    next hknown =>
      rcases List.mem_cons.1 hb with rfl | hb
      · exact ⟨e, List.mem_cons_self, hknown, rfl⟩
      · exact hrest hb
    next => exact hrest hb

theorem readReel_tunables {k : List Nat} {x : ReelImage} {t : TunablesSec} (h : (readReel k x).tunables = some t) :
    ∃ e ∈ (readReel k x).table, knownEntry e = true ∧ e.typ = 0x08 := by
  obtain ⟨b, hb, -⟩ := Option.map_eq_some_iff.1 h
  obtain ⟨p, hp, -⟩ := Option.map_eq_some_iff.1 hb
  obtain ⟨e, he, hknown, htyp⟩ := bodiesFrom_known (List.mem_of_find?_eq_some hp)
  have hp8 : p.1 = 0x08 := by simpa using List.find?_some hp
  exact ⟨e, he, hknown, htyp.trans hp8⟩

/-- The Reel of an image that passes names fields that a Take may write. -/
theorem tunablesNameTk_of_loads {x : ReelImage} {c : CardInfo} {s : State} (h : loadError x c s = none) :
    TunablesNameTk (loadedReel x s) := by
  intro tn htn t ht hkind
  have hbodies : checkBodies (loadedReel x s) s = none := by
    unfold loadError loadErrorOf at h
    split at h
    · cases h
    · split at h
      · cases h
      · split at h
        · cases h
        · assumption
  have herrors : bodyErrors (loadedReel x s) s 0 (loadedReel x s).table = none := by
    unfold checkBodies at hbodies
    split at hbodies
    · cases hbodies
    · assumption
  obtain ⟨e, he, hknown, htyp⟩ := readReel_tunables htn
  have hcheck := bodyErrors_none _ herrors e he hknown
  rw [htyp] at hcheck
  simp only [fieldCheck, htn, Option.bind_some] at hcheck
  exact checkTunables_tk hcheck ht hkind

end Sys2Proof.Machine
end

section
/-! SUPPORT. What the operations of a load that passes leave of BAT's TAMPER flag (R73, R74, R319). -/

namespace Sys2Proof.Machine

open Sys2Proof

variable {s t : State}

/-- BAT's TAMPER flag, as the register file holds it. -/
def tamperBit (s : State) : Nat := getF s F.BAT.STATUS_TAMPER

theorem tamperBit_congr (h : t.regs = s.regs) : tamperBit t = tamperBit s := getF_congr s t _ h

/-- What does not move the register file leaves the flag. -/
theorem tamperBit_of_moves {m : Nat} (h : Moves m s t) (hm : m.testBit 1 = false) : tamperBit t = tamperBit s :=
  tamperBit_congr (h.frame .regs hm)

theorem tamperBit_of_onlyFields {fs : List Field} (h : OnlyFields fs s t) (hfs : ∀ f ∈ fs, offTamper f = true) :
    tamperBit t = tamperBit s :=
  h _ fun f hf => fieldKey_of_offTamper (hfs f hf)

theorem tamperBit_setF {f : Field} {v : Nat} (hf : offTamper f = true) : tamperBit (setF f v s) = tamperBit s :=
  getF_setF_other s f _ v (fieldKey_of_offTamper hf)

theorem tamperBit_bumpF {f : Field} {v : Nat} (hf : offTamper f = true) : tamperBit (bumpF f v s) = tamperBit s := tamperBit_setF hf

@[simp] theorem tamperBit_emit (code w1 w2 w3 : Nat) : tamperBit (emit code w1 w2 w3 s) = tamperBit s := getF_emit ..

@[simp] theorem tamperBit_emitAt (stamp code : Nat) (payload : List Nat) : tamperBit (emitAt stamp code payload s) = tamperBit s := by
  have hmoves : Moves 0x200000 s (emitAt stamp code payload s) := emitAt_moves ..
  exact tamperBit_of_moves hmoves rfl

theorem tamperBit_ite {c : Prop} [Decidable c] {u : State} (ht : tamperBit t = tamperBit s) (hu : tamperBit u = tamperBit s) :
    tamperBit (if c then t else u) = tamperBit s := by
  split <;> assumption

theorem tamperBit_foldl {α : Type} {l : List α} {f : State → α → State}
    (hf : ∀ t, ∀ x ∈ l, tamperBit (f t x) = tamperBit t) : tamperBit (l.foldl f s) = tamperBit s :=
  List.foldlRecOn (motive := fun t => tamperBit t = tamperBit s) l f rfl fun t ht x hx => (hf t x hx).trans ht

theorem tamperBit_putFields {l : List (Field × Nat)} (hl : allOff l = true) : tamperBit (putFields l s) = tamperBit s :=
  tamperBit_foldl fun _ e he => tamperBit_setF (List.all_eq_true.1 hl e he)

/-! ### Health, the device state and the key store -/

@[simp] theorem tamperBit_setHealth (u v : Nat) : tamperBit (setHealth u v s) = tamperBit s := by
  refine tamperBit_of_onlyFields (setHealth_onlyFields u v s) fun f hf => ?_
  simp only [healthFields, causeFields, List.mem_cons, List.not_mem_nil, or_false] at hf
  rcases hf with rfl | rfl | rfl | rfl | rfl | rfl <;> rfl

@[simp] theorem tamperBit_setState (d : DevState) : tamperBit (setState d s) = tamperBit s :=
  tamperBit_of_onlyFields (setState_onlyFields s d) (by decide)

@[simp] theorem tamperBit_showKeys : tamperBit (showKeys s) = tamperBit s := by
  have hcertified : ∀ t, tamperBit (showCertified t) = tamperBit t := by
    intro t
    unfold showCertified
    split
    · exact tamperBit_setF rfl
    · exact (tamperBit_emit ..).trans (tamperBit_setF rfl)
    · rfl
  rw [showKeys, hcertified, tamperBit_setF rfl, tamperBit_setF rfl, tamperBit_setF rfl]

@[simp] theorem tamperBit_showSecHealth : tamperBit (showSecHealth s) = tamperBit s := tamperBit_setHealth ..

@[simp] theorem tamperBit_supplyHealth : tamperBit (supplyHealth s) = tamperBit s := tamperBit_setHealth ..

/-! ### Crossings, Local and the long-reach ports -/

@[simp] theorem tamperBit_settleCrossings : tamperBit (settleCrossings s) = tamperBit s :=
  tamperBit_foldl fun t g _ => tamperBit_of_onlyFields (settleCrossing_onlyFields g t) (by decide)

@[simp] theorem tamperBit_selectDomain (d : Nat) : tamperBit (selectDomain d s) = tamperBit s := by
  have haligned : ∀ t, tamperBit (checkAligned t) = tamperBit t := by
    intro t
    have hshown : ∀ v, tamperBit (setF F.CLAP.STATUS_ALIGNED v t) = tamperBit t := fun _ => tamperBit_setF rfl
    exact tamperBit_ite ((tamperBit_emit ..).trans (hshown _)) (hshown _)
  have hswitch : ∀ t, tamperBit (bumpF F.CLAP.SWITCH_COUNT 1 (setF F.CLAP.STATUS_SELECTED d t)) = tamperBit t := fun _ =>
    (tamperBit_bumpF rfl).trans (tamperBit_setF rfl)
  exact tamperBit_ite rfl ((haligned _).trans ((tamperBit_emit ..).trans (hswitch _)))

@[simp] theorem tamperBit_startLocal : tamperBit (startLocal s) = tamperBit s := by
  have hselect : ∀ t, tamperBit (reselect t) = tamperBit t := by
    intro t
    unfold reselect
    split
    · rfl
    · extract_lets cur t1
      split
      · rfl
      · exact (tamperBit_selectDomain _).trans (tamperBit_setF rfl)
  exact (hselect _).trans (tamperBit_setF rfl)

@[simp] theorem tamperBit_lrpArm : tamperBit (lrpArm s) = tamperBit s :=
  tamperBit_foldl fun _ _ _ =>
    (tamperBit_setF rfl).trans <| (tamperBit_setF rfl).trans <| (tamperBit_setF rfl).trans (tamperBit_setF rfl)

/-! ### The Splice log -/

@[simp] theorem tamperBit_putLogFill : tamperBit (putLogFill s) = tamperBit s :=
  (tamperBit_setF rfl).trans <| (tamperBit_setF rfl).trans <| (tamperBit_setF rfl).trans (tamperBit_setF rfl)

@[simp] theorem tamperBit_resetLog (hash : List Nat) : tamperBit (resetLog hash s) = tamperBit s := by
  have hshow : ∀ t, tamperBit (showLog t) = tamperBit t := fun t =>
    tamperBit_ite ((tamperBit_emit ..).trans tamperBit_putLogFill) tamperBit_putLogFill
  have hwrite : tamperBit (writeHeader hash s) = tamperBit s := tamperBit_of_moves (writeHeader_moves hash s) (by decide)
  exact (hshow _).trans hwrite

@[simp] theorem tamperBit_spliceReset (hash : List Nat) : tamperBit (spliceReset hash s) = tamperBit s :=
  (tamperBit_resetLog hash).trans (tamperBit_emit ..)

/-! ### The Reel -/

theorem tamperBit_applyReel (r : Reel) : tamperBit (applyReel r s) = tamperBit s := tamperBit_putFields (reelFields_off r)

theorem tamperBit_metrologyChanged : tamperBit (metrologyChanged s) = tamperBit s := by
  unfold metrologyChanged
  split
  · rfl
  · split
    · rfl
    · exact (tamperBit_emitAt ..).trans (tamperBit_bumpF rfl)

/-- ARMED has been entered: Local runs, and neither a GO nor a wait nor a tick 0 stands from before (R74). -/
def armBegun (s : State) : State :=
  let s1 := setState .armed (startLocal s)
  { s1 with dev := { s1.dev with armedAt := nowNs s1 1, lockWaited := false, goAccepted := false, tickZeroAt := none } }

theorem arm_eq (s : State) : arm s = supplyHealth (showSecHealth (showKeys (lrpArm (armBegun s)))) := rfl

theorem tamperBit_arm : tamperBit (arm s) = tamperBit s := by
  have hbegun : tamperBit (armBegun s) = tamperBit s := (tamperBit_setState .armed).trans tamperBit_startLocal
  rw [arm_eq, tamperBit_supplyHealth, tamperBit_showSecHealth, tamperBit_showKeys, tamperBit_lrpArm, hbegun]

end Sys2Proof.Machine
end

section
/-! SUPPORT. The Splice log at the end of a load: replayed, or emptied and bound to the Reel (R73, R98). -/

namespace Sys2Proof.Machine

open Sys2Proof

variable {s t u : State}

/-- Between two states of a replay: the Reel, the log with its headers and BAT's TAMPER flag are the same. -/
structure ReplayKeeps (s t : State) : Prop where
  cfg : t.cfg = s.cfg
  log : t.txn.log = s.txn.log
  headers : t.txn.headers = s.txn.headers
  tamper : tamperBit t = tamperBit s

theorem ReplayKeeps.refl : ReplayKeeps s s := ⟨rfl, rfl, rfl, rfl⟩

theorem ReplayKeeps.trans (h1 : ReplayKeeps s t) (h2 : ReplayKeeps t u) : ReplayKeeps s u :=
  ⟨h2.cfg.trans h1.cfg, h2.log.trans h1.log, h2.headers.trans h1.headers, h2.tamper.trans h1.tamper⟩

theorem replayKeeps_setF {f : Field} {v : Nat} (hf : fieldKey f ≠ fieldKey F.BAT.STATUS_TAMPER) : ReplayKeeps s (setF f v s) :=
  ⟨rfl, rfl, rfl, getF_setF_other s f _ v hf⟩

theorem replayKeeps_foldl {α : Type} {l : List α} {f : State → α → State}
    (hf : ∀ t x, ReplayKeeps s t → ReplayKeeps s (f t x)) (h : ReplayKeeps s t) : ReplayKeeps s (l.foldl f t) :=
  List.foldlRecOn (motive := ReplayKeeps s) l f h fun t ht x _ => hf t x ht

/-- The field of a KIND 0 target in a Reel whose tunables name fields that a Take may write. -/
theorem fieldKey_targetField {id : Nat} {x : Tunable} {f : Field} (htk : TunablesNameTk s.cfg) (hx : tunableOf s id = some x)
    (hkind : x.kind = 0) (hf : targetField x = some f) : fieldKey f ≠ fieldKey F.BAT.STATUS_TAMPER := by
  unfold tunableOf at hx
  split at hx
  next tn htn =>
    have haccess := htk tn htn x (List.mem_of_find?_eq_some hx) hkind
    rw [hf] at haccess
    exact fieldKey_of_tk (List.mem_of_find?_eq_some hf) (Option.some.inj haccess)
  next => cases hx

/-- A write of a replayed Take goes into a register field or into a table of values (R73). -/
theorem replayWrite_keeps (w : TakeWrite) (htk : TunablesNameTk s.cfg) : ReplayKeeps s (replayWrite w s) := by
  unfold replayWrite
  split
  next => exact .refl
  next x hx =>
    split
    next => exact ⟨rfl, rfl, rfl, rfl⟩
    next hpoint =>
      unfold applyWrite
      rw [hx]
      dsimp only
      split
      next hkind =>
        split
        next f hf => exact replayKeeps_setF (fieldKey_targetField htk hx hkind hf)
        next => exact .refl
      next hkind => exact absurd hkind hpoint
      next => exact ⟨rfl, rfl, rfl, rfl⟩

/-- The marked entries of a log are replayed (R73). -/
def replayEntries (es : List LogEntry) (s : State) : State :=
  es.foldl (fun t e => setF F.TXN.LAST_APPLIED_ID e.takeId (e.writes.foldl (fun u w => replayWrite w u) t)) s

theorem replayEntries_keeps (es : List LogEntry) (htk : TunablesNameTk s.cfg) : ReplayKeeps s (replayEntries es s) := by
  have hwrite : ∀ t w, ReplayKeeps s t → ReplayKeeps s (replayWrite w t) := fun t w ht =>
    ht.trans (replayWrite_keeps w (by rw [ht.cfg]; exact htk))
  exact replayKeeps_foldl (fun t e ht => (replayKeeps_foldl hwrite ht).trans (replayKeeps_setF (by decide))) .refl

theorem dropTorn_txn : (dropTorn s).txn = { s.txn with log := withoutTorn s.txn.log } := by
  unfold dropTorn withoutTorn
  cases tornEntry s.txn.log with
  | none => rfl
  | some e => exact (emit_moves ..).frame .txn rfl

theorem dropTorn_tamper : tamperBit (dropTorn s) = tamperBit s := by
  unfold dropTorn
  cases tornEntry s.txn.log with
  | none => rfl
  | some e => exact tamperBit_emit ..

theorem dropTorn_cfg : (dropTorn s).cfg = s.cfg := (dropTorn_moves s).frame .cfg rfl

/-- A log that is bound to the Reel is replayed without its torn entry. -/
theorem bindSplice_bound (hbound : logHash s = s.dev.reelHash) (htk : TunablesNameTk s.cfg) :
    (bindSplice s).txn.log = withoutTorn s.txn.log ∧ (bindSplice s).txn.headers = s.txn.headers ∧
      tamperBit (bindSplice s) = tamperBit s := by
  have hreplay := replayEntries_keeps (s := dropTorn s) (markedEntries (dropTorn s)) (by rw [dropTorn_cfg]; exact htk)
  have hbind : bindSplice s =
      putLogFill (emit 0x0206 (markedEntries (dropTorn s)).length 0 0 (replayEntries (markedEntries (dropTorn s)) (dropTorn s))) := by
    rw [bindSplice, hbound, if_pos (beq_self_eq_true _)]
    rfl
  have htxn : (bindSplice s).txn = (replayEntries (markedEntries (dropTorn s)) (dropTorn s)).txn := by
    rw [hbind]
    exact ((putLogFill_moves _).frame .txn rfl).trans ((emit_moves ..).frame .txn rfl)
  refine ⟨?_, ?_, ?_⟩
  · rw [htxn, hreplay.log, dropTorn_txn]
  · rw [htxn, hreplay.headers, dropTorn_txn]
  · rw [hbind, tamperBit_putLogFill, tamperBit_emit, hreplay.tamper, dropTorn_tamper]

/-- A log that is bound to another Reel is emptied and bound to this one. -/
theorem bindSplice_unbound (hother : logHash s ≠ s.dev.reelHash) : bindSplice s = spliceReset s.dev.reelHash s := by
  rw [bindSplice, if_neg (by simpa using hother)]

theorem tamperBit_bindSplice (htk : TunablesNameTk s.cfg) : tamperBit (bindSplice s) = tamperBit s := by
  by_cases hbound : logHash s = s.dev.reelHash
  · exact (bindSplice_bound hbound htk).2.2
  · rw [bindSplice_unbound hbound, tamperBit_spliceReset]

/-- After the load the log is bound to the Reel. -/
theorem logHash_bindSplice (htk : TunablesNameTk s.cfg) (hlen : s.txn.headers.length = 2) :
    logHash (bindSplice s) = s.dev.reelHash := by
  by_cases hbound : logHash s = s.dev.reelHash
  · rw [logHash_congr (bindSplice_bound hbound htk).2.1, hbound]
  · rw [bindSplice_unbound hbound, logHash_spliceReset _ hlen]

end Sys2Proof.Machine
end

section
/-! SUPPORT. A load that passes: the Reel in force, the Splice log bound to it, and the entry to ARMED (R71 to R74). -/

namespace Sys2Proof.Machine

open Sys2Proof

variable (s : State)

/-- The Reel is in force: the card has been read, unknown sections are skipped, the domains are up (R72). -/
def reelApplied (r : Reel) (c : CardInfo) (s : State) : State :=
  applyReel r (settleCrossings (setF F.PWR.DOMAIN_STATE r.power.domainEnable (skipSections r r.table.length (readCard c s))))

/-- The Splice log is bound to the Reel, and the load is recorded (R73). -/
def reelBound (r : Reel) (c : CardInfo) (s : State) : State :=
  emit 0x0203 (hashHead r.hash).1 (hashHead r.hash).2 0 (bindSplice (reelApplied r c s))

/-- The load has passed: the module is in ARMED (R71, R74). -/
def loadPassed (r : Reel) (c : CardInfo) (s : State) : State := arm (metrologyChanged (reelBound r c s))

theorem finishLoad_eq (r : Reel) (c : CardInfo) : finishLoad r c s =
    if tamperZeroises (loadPassed r c s) && flag (loadPassed r c s) F.BAT.STATUS_TAMPER then tamperResponse (loadPassed r c s)
    else loadPassed r c s := rfl

theorem reelApplied_prepared (r : Reel) (c : CardInfo) : Moves 0x380062 (cardSeen c s)
    (settleCrossings (setF F.PWR.DOMAIN_STATE r.power.domainEnable (skipSections r r.table.length (readCard c s)))) :=
  moves_step (settleCrossings_moves _) rfl <| moves_step setF_moves rfl <| moves_step (skipSections_moves ..) rfl <|
    moves_step (readCard_moves_cont s c) rfl moves_refl

theorem applyReel_dev (r : Reel) : (applyReel r s).dev = { s.dev with reelHash := r.hash } := putFields_dev ..

theorem applyReel_cfg (r : Reel) : (applyReel r s).cfg = r := (putFields_moves ..).frame .cfg rfl

theorem reelApplied_dev (r : Reel) (c : CardInfo) :
    (reelApplied r c s).dev = { (cardSeen c s).dev with reelHash := r.hash } := by
  rw [reelApplied, applyReel_dev, (reelApplied_prepared s r c).frame .dev rfl]

theorem reelApplied_txn (r : Reel) (c : CardInfo) : (reelApplied r c s).txn = s.txn :=
  ((applyReel_moves ..).frame .txn rfl).trans ((reelApplied_prepared s r c).frame .txn rfl)

theorem reelApplied_cfg (r : Reel) (c : CardInfo) : (reelApplied r c s).cfg = r := applyReel_cfg ..

theorem reelApplied_tamper (r : Reel) (c : CardInfo) : tamperBit (reelApplied r c s) = tamperBit s := by
  rw [reelApplied, tamperBit_applyReel, tamperBit_settleCrossings, tamperBit_setF rfl,
    tamperBit_of_moves (skipSections_moves ..) rfl, tamperBit_of_moves (readCard_moves_cont s c) rfl]
  rfl

theorem metrologyChanged_dev : ∃ h, (metrologyChanged s).dev = { s.dev with metroHash := h } := by
  unfold metrologyChanged
  split
  · exact ⟨_, rfl⟩
  · split
    · exact ⟨_, rfl⟩
    · exact ⟨_, (emitAt_moves ..).frame .dev rfl⟩

/-- ARMED begins without a GO, without a wait and without a tick 0 (R74). -/
theorem arm_dev : ∃ now, (arm s).dev =
    { s.dev with state := .armed, armedAt := now, lockWaited := false, goAccepted := false, tickZeroAt := none } := by
  have hstate : (setState .armed (startLocal s)).dev = { s.dev with state := .armed } := by
    rw [setState_dev, (startLocal_moves s).frame .dev rfl]
  have hbegun : (armBegun s).dev = { (setState .armed (startLocal s)).dev with
      armedAt := nowNs (setState .armed (startLocal s)) 1, lockWaited := false, goAccepted := false, tickZeroAt := none } := rfl
  refine ⟨nowNs (setState .armed (startLocal s)) 1, ?_⟩
  rw [arm_eq, (supplyHealth_moves _).frame .dev rfl, (showSecHealth_moves _).frame .dev rfl, (showKeys_moves _).frame .dev rfl,
    (lrpArm_moves _).frame .dev rfl, hbegun, hstate]

theorem reelBound_moves (r : Reel) (c : CardInfo) : Moves 0x200000 (bindSplice (reelApplied r c s)) (reelBound r c s) :=
  emit_moves ..

/-- From the Splice log bound to ARMED, TXN and the Reel in force stay. -/
theorem loadPassed_moves (r : Reel) (c : CardInfo) : Moves 0x861000e (bindSplice (reelApplied r c s)) (loadPassed r c s) := by
  have hbound := moves_step (m := 0x861000e) (reelBound_moves s r c) rfl moves_refl
  exact moves_step (arm_moves _) rfl (moves_step (metrologyChanged_moves _) rfl hbound)

theorem loadPassed_txn (r : Reel) (c : CardInfo) : (loadPassed r c s).txn = (bindSplice (reelApplied r c s)).txn :=
  (loadPassed_moves s r c).frame .txn rfl

theorem loadPassed_cfg (r : Reel) (c : CardInfo) : (loadPassed r c s).cfg = r := by
  rw [(loadPassed_moves s r c).frame .cfg rfl, (bindSplice_moves _).frame .cfg rfl, reelApplied_cfg]

theorem loadPassed_dev (r : Reel) (c : CardInfo) : ∃ h now, (loadPassed r c s).dev =
    { (cardSeen c s).dev with
      reelHash := r.hash, metroHash := h, state := .armed, armedAt := now, lockWaited := false, goAccepted := false
      tickZeroAt := none } := by
  obtain ⟨h, hmetro⟩ := metrologyChanged_dev (reelBound r c s)
  obtain ⟨now, harm⟩ := arm_dev (metrologyChanged (reelBound r c s))
  refine ⟨h, now, ?_⟩
  rw [loadPassed, harm, hmetro, (reelBound_moves s r c).frame .dev rfl, (bindSplice_moves _).frame .dev rfl, reelApplied_dev]

theorem loadPassed_tamper {r : Reel} (c : CardInfo) (htk : TunablesNameTk r) : tamperBit (loadPassed r c s) = tamperBit s := by
  rw [loadPassed, tamperBit_arm, tamperBit_metrologyChanged, reelBound, tamperBit_emit,
    tamperBit_bindSplice (by rw [reelApplied_cfg]; exact htk), reelApplied_tamper]

/-- The log is bound to the Reel: with its entries but a torn last one where it was so before, and else empty (R73, R98). -/
theorem loadPassed_log {s : State} {r : Reel} (c : CardInfo) (htk : TunablesNameTk r) (hlen : s.txn.headers.length = 2) :
    logHash (loadPassed r c s) = r.hash ∧ (logHash s ≠ r.hash → (loadPassed r c s).txn.log = []) ∧
      (logHash s = r.hash → (loadPassed r c s).txn.log = withoutTorn s.txn.log) := by
  have htxn := loadPassed_txn s r c
  have happlied := reelApplied_txn s r c
  have hhash : (reelApplied r c s).dev.reelHash = r.hash := by rw [reelApplied_dev]
  have hbefore : logHash (reelApplied r c s) = logHash s := logHash_congr (by rw [happlied])
  have hafter : logHash (loadPassed r c s) = logHash (bindSplice (reelApplied r c s)) := logHash_congr (by rw [htxn])
  have htk : TunablesNameTk (reelApplied r c s).cfg := by rw [reelApplied_cfg]; exact htk
  refine ⟨?_, fun hother => ?_, fun hbound => ?_⟩
  · rw [hafter, logHash_bindSplice htk (by rw [happlied]; exact hlen), hhash]
  · rw [htxn, bindSplice_unbound (by rw [hbefore, hhash]; exact hother), spliceReset_log]
  · rw [htxn, (bindSplice_bound (by rw [hbefore, hhash]; exact hbound) htk).1, happlied]

theorem exec_loadDone {x : ReelImage} {c : CardInfo} (hload : loading s = true) (hpass : loadError x c s = none)
    (htamper : flag s F.BAT.STATUS_TAMPER = false) : exec (.loadDone x c) s = .next (loadPassed (loadedReel x s) c s) := by
  have hflag : flag (loadPassed (loadedReel x s) c s) F.BAT.STATUS_TAMPER = false := by
    have hsame := loadPassed_tamper s c (tunablesNameTk_of_loads hpass)
    rw [← htamper]
    unfold flag
    exact congrArg (· != 0) hsame
  show execLoadDone x c s = _
  rw [execLoadDone, hload, hpass, finishLoad_eq, hflag, Bool.and_false]
  rfl

end Sys2Proof.Machine
end

section
/-! The statement about loads. -/

namespace Sys2Proof.Certificates

open Sys2Proof Sys2Proof.Machine

/-- Settles O9, by the first failing step of the image; that a torn last entry goes with the fillers after it is R98 and log
entry 29. -/
theorem loadsPassOrFail : Obligations.LoadsPassOrFail := by
  refine ⟨fun x c s wf => ⟨fun hload e herror => ⟨exec_loadDone_idle s (.inr (by rw [herror]; rfl)), ?_⟩,
    fun _ hpass => exec_loadFailed_idle s (.inr hpass),
    fun hidle => ⟨exec_loadDone_idle s (.inl hidle), exec_loadFailed_idle s (.inl hidle)⟩,
    cardRemoved_fails s wf, cardRemoved_stays s⟩, fun x c s wf hload hpass htamper => ?_⟩
  · exact loadFailed_outcome s wf hload herror
  · obtain ⟨h, now, hdev⟩ := loadPassed_dev s (loadedReel x s) c
    obtain ⟨hhash, hother, hbound⟩ := loadPassed_log c (tunablesNameTk_of_loads hpass) wf.headers
    exact ⟨_, exec_loadDone s hload hpass htamper, by rw [hdev], loadPassed_cfg .., by rw [hdev], hhash, by rw [hdev], by rw [hdev],
      by rw [hdev]; rfl, hother, hbound⟩

end Sys2Proof.Certificates
end

section
/-! SUPPORT. The laws of the Take slots (R84 to R89, R105): what a slot reads after a change of it or of another slot, and which
register fields the changes write. -/

namespace Sys2Proof.Machine

open Sys2Proof

variable {s t : State} {k j : Nat}

/-! ### A slot's part beyond its registers -/

theorem takeSlot_congr (h : t.txn = s.txn) (k : Nat) : takeSlot t k = takeSlot s k := by rw [takeSlot, takeSlot, h]

theorem takeSlot_updSlot_same {f : TakeSlot → TakeSlot} (hk : k < s.txn.slots.length) :
    takeSlot (updSlot k f s) k = f (takeSlot s k) := by
  simp [takeSlot, updSlot, listUpd, List.getElem?_set_self hk, List.getElem?_eq_getElem hk]

theorem takeSlot_updSlot_other {f : TakeSlot → TakeSlot} (h : j ≠ k) : takeSlot (updSlot k f s) j = takeSlot s j := by
  simp [takeSlot, updSlot, listUpd, List.getElem?_set_ne h.symm]

/-- An update of TXN's part that keeps the Splice log leaves every other part. -/
theorem onlyParts_txn {x : TxnPart} (h : x.log = s.txn.log) : OnlyParts [.txn] s { s with txn := x } := by
  intro p hp
  cases p
  case txn => exact absurd (List.mem_singleton_self _) hp
  case log => exact h
  all_goals rfl

/-! ### A slot's state -/

/-- Slot states read alike where none of the fields that were written is one. -/
theorem slotState_of_onlyFields {fs : List Field} (h : OnlyFields fs s t)
    (hfs : ∀ g ∈ fs, fieldKey g ≠ fieldKey (F.TXN.SLOT_STATE_STATE k)) : slotState t k = slotState s k := h _ hfs

theorem slotsIn_congr (h : ∀ k, slotState t k = slotState s k) (st : Nat) : slotsIn t st = slotsIn s st := by
  simp only [slotsIn, h]

theorem lt_four_of_mem_slotsIn {st : Nat} (h : k ∈ slotsIn s st) : k < 4 := by
  have hk : k ∈ [0, 1, 2, 3] := List.mem_of_mem_filter h
  simp at hk
  omega

theorem setSlotState_onlyFields (k st : Nat) (s : State) :
    OnlyFields [F.TXN.STATUS_OPEN, F.TXN.STATUS_QUEUED, F.TXN.SLOT_STATE_STATE k] s (setSlotState k st s) :=
  onlyFields_setF (by simp) (onlyFields_setF (by simp) (onlyFields_setF (by simp) onlyFields_refl))

theorem showSlots_onlyFields (s : State) : OnlyFields [F.TXN.STATUS_OPEN, F.TXN.STATUS_QUEUED] s (showSlots s) :=
  onlyFields_setF (by simp) (onlyFields_setF (by simp) onlyFields_refl)

theorem setSlotState_keysRise (k st : Nat) (h : keysRise s.regs = true) : keysRise (setSlotState k st s).regs = true :=
  setF_keysRise _ _ _ (setF_keysRise _ _ _ (setF_keysRise _ _ _ h))

theorem slotState_setSlotState_same {st : Nat} (hst : st < 16) (h : keysRise s.regs = true) :
    slotState (setSlotState k st s) k = st := by
  have hshow : slotState (setSlotState k st s) k = slotState (setF (F.TXN.SLOT_STATE_STATE k) st s) k :=
    slotState_of_onlyFields (showSlots_onlyFields _)
      (by simp [fieldKey, F.TXN.STATUS_OPEN, F.TXN.STATUS_QUEUED, F.TXN.SLOT_STATE_STATE]; omega)
  rw [hshow]
  exact (getF_setF_same s _ st h).trans (Nat.mod_eq_of_lt hst)

theorem slotState_setSlotState_other (st : Nat) (h : j ≠ k) : slotState (setSlotState k st s) j = slotState s j :=
  slotState_of_onlyFields (setSlotState_onlyFields k st s)
    (by simp [fieldKey, F.TXN.STATUS_OPEN, F.TXN.STATUS_QUEUED, F.TXN.SLOT_STATE_STATE]; omega)

@[simp] theorem setSlotState_txn (k st : Nat) : (setSlotState k st s).txn = s.txn := rfl

/-! ### A slot is freed -/

theorem freeSlot_onlyFields (k : Nat) (s : State) : OnlyFields [F.TXN.STATUS_OPEN, F.TXN.STATUS_QUEUED,
    F.TXN.SLOT_STATE_STATE k, F.TXN.SLOT_WRITES k, F.TXN.SLOT_TAKE_ID k] s (freeSlot k s) := by
  have hslot : OnlyFields [F.TXN.SLOT_WRITES k, F.TXN.SLOT_TAKE_ID k] s (setF (F.TXN.SLOT_WRITES k) 0 (setF (F.TXN.SLOT_TAKE_ID k) 0
      (updSlot k (fun x => { x with writes := [], owner := none }) s))) :=
    onlyFields_setF (by simp) (onlyFields_setF (by simp) fun f _ => getF_updSlot s k _ f)
  exact onlyFields_trans (onlyFields_mono hslot (by simp)) (onlyFields_mono (setSlotState_onlyFields k slotFree _) (by simp))

theorem freeSlot_txn (k : Nat) (s : State) :
    (freeSlot k s).txn = (updSlot k (fun x => { x with writes := [], owner := none }) s).txn := rfl

theorem slotState_freeSlot_same (h : keysRise s.regs = true) : slotState (freeSlot k s) k = slotFree :=
  slotState_setSlotState_same (by decide) (setF_keysRise _ _ _ (setF_keysRise _ _ _ h))

theorem slotState_freeSlot_other (h : j ≠ k) : slotState (freeSlot k s) j = slotState s j :=
  slotState_of_onlyFields (freeSlot_onlyFields k s) (by
    simp [fieldKey, F.TXN.STATUS_OPEN, F.TXN.STATUS_QUEUED, F.TXN.SLOT_STATE_STATE, F.TXN.SLOT_WRITES, F.TXN.SLOT_TAKE_ID]
    omega)

theorem takeSlot_freeSlot_same (hk : k < s.txn.slots.length) :
    takeSlot (freeSlot k s) k = { takeSlot s k with writes := [], owner := none } :=
  (takeSlot_congr (freeSlot_txn k s) k).trans (takeSlot_updSlot_same hk)

theorem takeSlot_freeSlot_other (h : j ≠ k) : takeSlot (freeSlot k s) j = takeSlot s j :=
  (takeSlot_congr (freeSlot_txn k s) j).trans (takeSlot_updSlot_other h)

/-! ### Records -/

@[simp] theorem emit_txn (code w1 w2 w3 : Nat) : (emit code w1 w2 w3 s).txn = s.txn := (emit_moves ..).frame .txn rfl

@[simp] theorem takeSlot_emit (code w1 w2 w3 k : Nat) : takeSlot (emit code w1 w2 w3 s) k = takeSlot s k :=
  takeSlot_congr (emit_txn ..) k

@[simp] theorem slotState_emit (code w1 w2 w3 k : Nat) : slotState (emit code w1 w2 w3 s) k = slotState s k := getF_emit ..

/-- A unit that is fitted hands CONT its record. -/
theorem records_emit {code w1 w2 w3 : Nat} (h : present s (code / 256) = true) :
    Records s (emit code w1 w2 w3 s) [(code, payload s w1 w2 w3)] := by
  simp [Records, emit, emitAt, h, payload]

end Sys2Proof.Machine
end

section
/-! SUPPORT. What the commands on Takes find after the caller's session has been marked, and how TXN shows their results and
refusals (R101 to R105). -/

namespace Sys2Proof.Machine

open Sys2Proof

variable {s t : State} {c : Caller} {roles : List Nat}

/-! ### The state that a command's own steps begin with -/

theorem touchSession_txn (c : Caller) (s : State) : (touchSession c s).txn = s.txn := (touchSession_moves c s).frame .txn rfl

theorem touchSession_tick (c : Caller) (s : State) : (touchSession c s).tick = s.tick := (touchSession_moves c s).frame .tick rfl

theorem touchSession_cfg (c : Caller) (s : State) : (touchSession c s).cfg = s.cfg := (touchSession_moves c s).frame .cfg rfl

/-- Every field but the sessions' idle times is as it was. -/
theorem getF_touchSession {f : Field} (h : ∀ i, fieldKey (F.SEC.SES_IDLE i) ≠ fieldKey f) :
    getF (touchSession c s) f = getF s f := by
  refine touchSession_onlyFields c s f fun g hg => ?_
  obtain ⟨i, -, rfl⟩ := List.mem_map.1 hg
  exact h i

@[simp] theorem takeSlot_touchSession (k : Nat) : takeSlot (touchSession c s) k = takeSlot s k :=
  takeSlot_congr (touchSession_txn c s) k

@[simp] theorem slotState_touchSession (k : Nat) : slotState (touchSession c s) k = slotState s k :=
  getF_touchSession (by simp [fieldKey, F.SEC.SES_IDLE, F.TXN.SLOT_STATE_STATE]; omega)

@[simp] theorem slotsIn_touchSession (st : Nat) : slotsIn (touchSession c s) st = slotsIn s st :=
  slotsIn_congr (fun _ => slotState_touchSession _) st

@[simp] theorem handleOf_touchSession (k : Nat) : handleOf (touchSession c s) k = handleOf s k :=
  getF_touchSession (by simp [fieldKey, F.SEC.SES_IDLE, F.TXN.SLOT_STATE_HANDLE]; omega)

@[simp] theorem nextTakeId_touchSession : getF (touchSession c s) F.TXN.NEXT_TAKE_ID = getF s F.TXN.NEXT_TAKE_ID :=
  getF_touchSession (by simp [fieldKey, F.SEC.SES_IDLE, F.TXN.NEXT_TAKE_ID]; omega)

theorem sessionState_touchSession {f : Nat → Field} (hf : ∀ k, ∃ b < 384, fieldKey (f k) = 0x2A002000 + 512 * k + b) (k : Nat) :
    getF (touchSession c s) (f k) = getF s (f k) := by
  refine getF_touchSession fun i => ?_
  obtain ⟨b, hb, hkey⟩ := hf k
  rw [hkey]
  simp only [fieldKey, F.SEC.SES_IDLE]
  omega

@[simp] theorem callerSlot_touchSession (d : Caller) : callerSlot (touchSession c s) d = callerSlot s d := by
  have hstate : ∀ k, getF (touchSession c s) (F.SEC.SES_STATE_STATE k) = getF s (F.SEC.SES_STATE_STATE k) :=
    sessionState_touchSession fun k => ⟨0, by decide, by simp only [fieldKey, F.SEC.SES_STATE_STATE]; omega⟩
  have hbar : ∀ k, getF (touchSession c s) (F.SEC.SES_STATE_BAR k) = getF s (F.SEC.SES_STATE_BAR k) :=
    sessionState_touchSession fun k => ⟨4, by decide, by simp only [fieldKey, F.SEC.SES_STATE_BAR]; omega⟩
  have hport : ∀ k, getF (touchSession c s) (F.SEC.SES_STATE_TRANSPORT k) = getF s (F.SEC.SES_STATE_TRANSPORT k) :=
    sessionState_touchSession fun k => ⟨2, by decide, by simp only [fieldKey, F.SEC.SES_STATE_TRANSPORT]; omega⟩
  simp only [callerSlot, barSlot, sessionOpen, flag, hstate, hbar, hport]
  rfl

@[simp] theorem callerRole_touchSession (d : Caller) : callerRole (touchSession c s) d = callerRole s d := by
  have hrole : ∀ k, getF (touchSession c s) (F.SEC.SES_STATE_ROLE k) = getF s (F.SEC.SES_STATE_ROLE k) :=
    sessionState_touchSession fun k => ⟨8, by decide, by simp only [fieldKey, F.SEC.SES_STATE_ROLE]; omega⟩
  simp only [callerRole, callerSlot_touchSession, hrole]

@[simp] theorem findHandle_touchSession (h : Nat) : findHandle (touchSession c s) h = findHandle s h := by
  simp [findHandle, takeExpiredNow, touchSession_tick]

@[simp] theorem openTake_touchSession (d : Caller) (h : Nat) : openTake (touchSession c s) d h = openTake s d h := by
  simp only [openTake, findHandle_touchSession, takeSlot_touchSession, slotState_touchSession, callerSlot_touchSession]

@[simp] theorem logTakesEntry_touchSession (n : Nat) : logTakesEntry (touchSession c s) n = logTakesEntry s n := by
  have htake : takeSlot (touchSession c s) = takeSlot s := funext takeSlot_touchSession
  have htakes : logTakes (touchSession c s) = logTakes s := by rw [logTakes, logTakes, touchSession_txn]
  have hbytes : logBytes (touchSession c s) = logBytes s := by rw [logBytes, logBytes, touchSession_txn]
  unfold logTakesEntry
  rw [slotsIn_touchSession, htake, htakes, hbytes, touchSession_txn]

/-! ### A handle and its slot -/

/-- A handle names one of the four slots (R84). -/
theorem findHandle_lt {h k : Nat} (hfind : findHandle s h = .ok k) : k < 4 := by
  unfold findHandle at hfind
  extract_lets k' x at hfind
  split at hfind
  · cases hfind
  · split at hfind
    · cases hfind
    · split at hfind
      · cases hfind
      · obtain rfl := Except.ok.inj hfind
        exact Nat.mod_lt _ (by decide)

theorem findHandle_of_openTake {h k : Nat} (hopen : openTake s c h = .ok k) : findHandle s h = .ok k := by
  unfold openTake at hopen
  split at hopen
  · cases hopen
  next k' hfind =>
    split at hopen
    · cases hopen
    · split at hopen
      · cases hopen
      · rwa [Except.ok.inj hopen] at hfind

/-- See findHandle_lt. -/
theorem openTake_lt {h k : Nat} (hopen : openTake s c h = .ok k) : k < 4 := findHandle_lt (findHandle_of_openTake hopen)

/-- A Take of the caller that is past OPEN takes no STAGE, COMMIT or CUT (R106). -/
theorem openTake_illegal {h k : Nat} (hfind : findHandle s h = .ok k) (hcaller : callerSlot s c ≠ none)
    (howner : (takeSlot s k).owner = callerSlot s c) (hstate : slotState s k ≠ slotOpen) :
    openTake s c h = .error resIllegal := by
  obtain ⟨j, hj⟩ := Option.ne_none_iff_exists'.1 hcaller
  simp [openTake, hfind, howner, hj, hstate]

/-! ### Results -/

/-- The fields in which TXN shows a command's result. -/
def txnResultFields : List Field := [F.TXN.CMD_RESULT_OPCODE, F.TXN.CMD_RESULT_RESULT, F.TXN.CMD_RETURN]

theorem txnResult_onlyFields (op : Nat) (r : Reply) (s : State) : OnlyFields txnResultFields s (showResult 2 op r s) :=
  onlyFields_setF (by simp [txnResultFields])
    (onlyFields_setF (by simp [txnResultFields]) (onlyFields_setF (by simp [txnResultFields]) onlyFields_refl))

theorem getF_txnReturn (op : Nat) (r : Reply) (h : keysRise s.regs = true) :
    getF (showResult 2 op r s) F.TXN.CMD_RETURN = r.ret % 2 ^ 32 :=
  getF_setF_same _ F.TXN.CMD_RETURN r.ret (setF_keysRise _ _ _ (setF_keysRise _ _ _ h))

@[simp] theorem txnResult_txn (op : Nat) (r : Reply) : (showResult 2 op r s).txn = s.txn := rfl

@[simp] theorem takeSlot_txnResult (op : Nat) (r : Reply) (k : Nat) : takeSlot (showResult 2 op r s) k = takeSlot s k := rfl

/-- The fields of the slots lie above those in which TXN shows a result. -/
theorem getF_txnResult_slot (op : Nat) (r : Reply) {f : Field} (hf : fieldKey (F.TXN.SLOT_STATE_STATE 0) ≤ fieldKey f) :
    getF (showResult 2 op r s) f = getF s f := by
  refine txnResult_onlyFields op r s f ?_
  simp only [fieldKey, F.TXN.SLOT_STATE_STATE] at hf
  simp only [txnResultFields, List.forall_mem_cons, fieldKey, F.TXN.CMD_RESULT_OPCODE, F.TXN.CMD_RESULT_RESULT, F.TXN.CMD_RETURN]
  refine ⟨by omega, by omega, by omega, by simp⟩

@[simp] theorem slotState_txnResult (op : Nat) (r : Reply) (k : Nat) : slotState (showResult 2 op r s) k = slotState s k :=
  getF_txnResult_slot op r (by simp only [fieldKey, F.TXN.SLOT_STATE_STATE]; omega)

/-! ### Refusals -/

/-- The state after TXN has refused a command with a result code. -/
def refusedTake (op e a0 : Nat) (c : Caller) (s : State) : State :=
  showResult 2 op { result := e } (bumpF F.TXN.REFUSED_COUNT 1 (emit 0x02FF op e a0 (touchSession c s)))

theorem runCommand_refused {op a0 e : Nat} {body : State → Body} (h : Admitted c roles s)
    (herror : body (touchSession c s) = .error e) :
    (runCommand 2 op c a0 (some roles) true body s).1 = refusedTake op e a0 c s := by
  obtain ⟨⟨r, hr, hrole⟩, hpower, htie, hspare⟩ := h
  simp [runCommand, refusedTake, hrole, hr, hpower, htie, hspare, herror]

theorem refusedTake_moves (op e a0 : Nat) : Moves 0xa00002 s (refusedTake op e a0 c s) :=
  moves_step (showResult_moves ..) rfl (moves_step (bumpF_moves ..) rfl (moves_step (emit_moves ..) rfl
    (moves_step (touchSession_moves ..) rfl moves_refl)))

theorem refusedTake_txn (op e a0 : Nat) : (refusedTake op e a0 c s).txn = s.txn := (refusedTake_moves op e a0).frame .txn rfl

theorem refusedTake_result (op a0 : Nat) {e : Nat} (he : e < 2 ^ 8) (wf : WellKept s) :
    getF (refusedTake op e a0 c s) F.TXN.CMD_RESULT_RESULT = e := by
  have hbefore : Moves 0xa00002 s (bumpF F.TXN.REFUSED_COUNT 1 (emit 0x02FF op e a0 (touchSession c s))) :=
    moves_step (bumpF_moves ..) rfl (moves_step (emit_moves ..) rfl (moves_step (touchSession_moves ..) rfl moves_refl))
  exact (getF_txnResult op _ (hbefore.form wf).regs).trans (Nat.mod_eq_of_lt he)

@[simp] theorem slotState_refusedTake (op e a0 k : Nat) : slotState (refusedTake op e a0 c s) k = slotState s k := by
  have hcount : ∀ t, slotState (bumpF F.TXN.REFUSED_COUNT 1 t) k = slotState t k := fun t =>
    getF_bumpF_other t _ _ 1 (by simp only [fieldKey, F.TXN.REFUSED_COUNT, F.TXN.SLOT_STATE_STATE]; omega)
  rw [refusedTake, slotState_txnResult, hcount, slotState_emit, slotState_touchSession]

end Sys2Proof.Machine
end

section
/-! SUPPORT. OPEN, and what STAGE, COMMIT and CUT do with a Take that is OPEN or past it (R84, R88, R89, R106). -/

namespace Sys2Proof.Machine

open Sys2Proof

variable {s : State} {c : Caller} {h k j : Nat}

/-! ### OPEN -/

/-- The generation that a slot takes on the next OPEN: 1 to 16,383 and round. -/
def nextGen (s : State) (k : Nat) : Nat := if 16383 ≤ (takeSlot s k).gen then 1 else (takeSlot s k).gen + 1

theorem nextGen_le (s : State) (k : Nat) : nextGen s k ≤ 16383 := by
  unfold nextGen
  split <;> omega

/-- Slot `k` is given a handle and a part beyond its registers, without a write. -/
def handleGiven (k handle : Nat) (x : TakeSlot) (s : State) : State :=
  setF (F.TXN.SLOT_STATE_HANDLE k) handle (setF (F.TXN.SLOT_WRITES k) 0 (setF (F.TXN.SLOT_EXPIRY k) (lo32 x.expiry)
    (setF (F.TXN.SLOT_TAKE_ID k) 0 (updSlot k (fun _ => x) s))))

theorem handleGiven_moves (k handle : Nat) (x : TakeSlot) : Moves 0x82 s (handleGiven k handle x s) :=
  moves_step setF_moves rfl (moves_step setF_moves rfl (moves_step setF_moves rfl (moves_step setF_moves rfl
    (moves_step (updSlot_moves ..) rfl moves_refl))))

theorem handleGiven_onlyFields (k handle : Nat) (x : TakeSlot) : OnlyFields [F.TXN.SLOT_STATE_HANDLE k, F.TXN.SLOT_WRITES k,
    F.TXN.SLOT_EXPIRY k, F.TXN.SLOT_TAKE_ID k] s (handleGiven k handle x s) :=
  onlyFields_setF (by simp) (onlyFields_setF (by simp) (onlyFields_setF (by simp) (onlyFields_setF (by simp) fun f _ =>
    getF_updSlot s k _ f)))

theorem handleGiven_keysRise (k handle : Nat) (x : TakeSlot) (hs : keysRise s.regs = true) :
    keysRise (handleGiven k handle x s).regs = true :=
  setF_keysRise _ _ _ (setF_keysRise _ _ _ (setF_keysRise _ _ _ (setF_keysRise _ _ _ hs)))

/-- Slot `k` becomes OPEN. -/
def slotOpened (k handle : Nat) (x : TakeSlot) (s : State) : State := setSlotState k slotOpen (handleGiven k handle x s)

theorem slotOpened_moves (k handle : Nat) (x : TakeSlot) : Moves 0x82 s (slotOpened k handle x s) :=
  moves_step (setSlotState_moves ..) rfl (handleGiven_moves k handle x)

theorem slotOpened_txn (k handle : Nat) (x : TakeSlot) : (slotOpened k handle x s).txn = (updSlot k (fun _ => x) s).txn := rfl

theorem slotState_slotOpened_same (handle : Nat) (x : TakeSlot) (hs : keysRise s.regs = true) :
    slotState (slotOpened k handle x s) k = slotOpen :=
  slotState_setSlotState_same (by decide) (handleGiven_keysRise k handle x hs)

theorem slotState_slotOpened_other (handle : Nat) (x : TakeSlot) (hj : j ≠ k) :
    slotState (slotOpened k handle x s) j = slotState s j := by
  refine (slotState_setSlotState_other slotOpen hj).trans (slotState_of_onlyFields (handleGiven_onlyFields k handle x) ?_)
  simp [fieldKey, F.TXN.SLOT_STATE_STATE, F.TXN.SLOT_STATE_HANDLE, F.TXN.SLOT_WRITES, F.TXN.SLOT_EXPIRY, F.TXN.SLOT_TAKE_ID]
  omega

theorem handleOf_slotOpened {handle : Nat} (x : TakeSlot) (hhandle : handle < 2 ^ 16) (hs : keysRise s.regs = true) :
    handleOf (slotOpened k handle x s) k = handle := by
  refine (setSlotState_onlyFields k slotOpen _ (F.TXN.SLOT_STATE_HANDLE k) ?_).trans
    ((getF_setF_same _ _ handle ?_).trans (Nat.mod_eq_of_lt hhandle))
  · simp [fieldKey, F.TXN.STATUS_OPEN, F.TXN.STATUS_QUEUED, F.TXN.SLOT_STATE_STATE, F.TXN.SLOT_STATE_HANDLE]
    omega
  · exact setF_keysRise _ _ _ (setF_keysRise _ _ _ (setF_keysRise _ _ _ hs))

/-- The part of a slot that a caller opens for `secs` seconds. -/
def openedSlot (s : State) (c : Caller) (k secs : Nat) : TakeSlot :=
  { gen := nextGen s k, owner := callerSlot s c, expiry := s.tick.number + secs * 8000 }

/-- An OPEN of slot `k` for `secs` seconds that has been accepted. -/
def takeOpened (c : Caller) (k secs : Nat) (s : State) : State :=
  showResult 2 0x01 { result := resOk, ret := nextGen s k * 4 + k } (emit 0x020A (nextGen s k * 4 + k) secs 0
    (slotOpened k (nextGen s k * 4 + k) (openedSlot s c k secs) (touchSession c s)))

theorem exec_open {life : Nat} {tn : TunablesSec} (hadm : Admitted c takeRoles s) (hlegal : takesLegal s = true)
    (hexchange : flag s F.SPOT.STATUS_PROGRAM_EXCHANGE = false) (hlife : life ≤ 600) (htn : s.cfg.tunables = some tn)
    (hfree : (slotsIn s slotFree).head? = some k) :
    exec (.open_ c life) s = .next (takeOpened c k (if life = 0 then tn.defaultLifetime else life) s) := by
  show Host.Outcome.next (cmdOpen c life s).1 = _
  rw [cmdOpen, hlegal, hexchange]
  refine congrArg _ ((runCommand_ok hadm ?_).trans rfl)
  rw [if_neg (by omega)]
  simp only [touchSession_cfg, htn, slotsIn_touchSession, hfree]
  simp [slotOpened, handleGiven, openedSlot, nextGen, touchSession_tick]

/-- With no free slot OPEN is refused. -/
theorem exec_open_exhausted {life : Nat} (hadm : Admitted c takeRoles s) (hlegal : takesLegal s = true)
    (hexchange : flag s F.SPOT.STATUS_PROGRAM_EXCHANGE = false) (hlife : life ≤ 600) (hfree : slotsIn s slotFree = []) :
    exec (.open_ c life) s = .next (refusedTake 0x01 resExhausted life c s) := by
  show Host.Outcome.next (cmdOpen c life s).1 = _
  rw [cmdOpen, hlegal, hexchange]
  refine congrArg _ (runCommand_refused hadm ?_)
  rw [if_neg (by omega), slotsIn_touchSession, hfree]
  simp

/-- What an accepted OPEN leaves (R84, R88). -/
theorem takeOpened_outcome (secs : Nat) (wf : WellKept s) (hk : k < 4) :
    slotState (takeOpened c k secs s) k = slotOpen ∧ takeSlot (takeOpened c k secs s) k = openedSlot s c k secs ∧
      handleOf (takeOpened c k secs s) k = nextGen s k * 4 + k ∧
      getF (takeOpened c k secs s) F.TXN.CMD_RETURN = nextGen s k * 4 + k ∧
      (∀ j, j ≠ k → takeSlot (takeOpened c k secs s) j = takeSlot s j ∧ slotState (takeOpened c k secs s) j = slotState s j) ∧
      getF (takeOpened c k secs s) F.TXN.CMD_RESULT_RESULT = resOk := by
  have hhandle : nextGen s k * 4 + k < 2 ^ 16 := by have := nextGen_le s k; omega
  have htouched : WellKept (touchSession c s) := (touchSession_moves c s).form wf
  have hopened := (slotOpened_moves k (nextGen s k * 4 + k) (openedSlot s c k secs)).form htouched
  have hrecorded := ((emit_moves 0x020A (nextGen s k * 4 + k) secs 0 _).form hopened).regs
  have hlen : k < (touchSession c s).txn.slots.length := htouched.slots ▸ hk
  have htxn := slotOpened_txn (s := touchSession c s) k (nextGen s k * 4 + k) (openedSlot s c k secs)
  unfold takeOpened
  refine ⟨?_, ?_, ?_, ?_, fun j hj => ⟨?_, ?_⟩, getF_txnResult 0x01 _ hrecorded⟩
  · rw [slotState_txnResult, slotState_emit]
    exact slotState_slotOpened_same _ _ htouched.regs
  · rw [takeSlot_txnResult, takeSlot_emit, takeSlot_congr htxn]
    exact takeSlot_updSlot_same hlen
  · rw [handleOf, getF_txnResult_slot _ _ (by simp only [fieldKey, F.TXN.SLOT_STATE_STATE, F.TXN.SLOT_STATE_HANDLE]; omega),
      getF_emit]
    exact handleOf_slotOpened _ hhandle htouched.regs
  · exact (getF_txnReturn 0x01 _ hrecorded).trans (Nat.mod_eq_of_lt (Nat.lt_trans hhandle (by decide)))
  · rw [takeSlot_txnResult, takeSlot_emit, takeSlot_congr htxn, takeSlot_updSlot_other hj, takeSlot_touchSession]
  · rw [slotState_txnResult, slotState_emit, slotState_slotOpened_other _ _ hj, slotState_touchSession]

theorem takeOpened_moves (secs : Nat) : Moves 0xa00082 s (takeOpened c k secs s) :=
  moves_step (showResult_moves ..) rfl (moves_step (emit_moves ..) rfl (moves_step (slotOpened_moves ..) rfl
    (moves_step (touchSession_moves ..) rfl moves_refl)))

/-! ### CUT -/

theorem slotState_cutTake_same (cause : Nat) (hs : keysRise s.regs = true) : slotState (cutTake k cause s) k = slotFree :=
  slotState_freeSlot_same (by rwa [emit_regs])

theorem slotState_cutTake_other (cause : Nat) (hj : j ≠ k) : slotState (cutTake k cause s) j = slotState s j :=
  (slotState_freeSlot_other hj).trans (slotState_emit ..)

theorem takeSlot_cutTake_same (cause : Nat) (hk : k < s.txn.slots.length) :
    takeSlot (cutTake k cause s) k = { takeSlot s k with writes := [], owner := none } := by
  rw [cutTake, takeSlot_freeSlot_same (by rwa [emit_txn]), takeSlot_emit]

theorem takeSlot_cutTake_other (cause : Nat) (hj : j ≠ k) : takeSlot (cutTake k cause s) j = takeSlot s j :=
  (takeSlot_freeSlot_other hj).trans (takeSlot_emit ..)

/-- The slots are all of TXN beyond its registers that a cut changes: nothing is logged or applied (R89). -/
theorem cutTake_txn (k cause : Nat) (s : State) :
    (cutTake k cause s).txn = (updSlot k (fun x => { x with writes := [], owner := none }) s).txn := by
  rw [cutTake, freeSlot_txn, updSlot, updSlot, emit_txn]

/-- The end of the Take is recorded under its handle, with its cause (R106). -/
theorem records_cutTake (cause : Nat) (hpres : present s 2 = true) :
    Records s (cutTake k cause s) [(0x020D, payload s (handleOf s k) cause 0)] := by
  have hcont : (cutTake k cause s).cont = (emit 0x020D (handleOf s k) cause 0 s).cont := (freeSlot_moves k _).frame .cont rfl
  rw [Records, hcont]
  exact records_emit hpres

/-- A CUT of slot `k` that has been accepted. -/
def takeCut (c : Caller) (k : Nat) (s : State) : State :=
  showResult 2 0x04 { result := resOk } (cutTake k 0 (touchSession c s))

theorem exec_cut (hadm : Admitted c takeRoles s) (hlegal : takesLegal s = true) (hopen : openTake s c h = .ok k) :
    exec (.cut c h) s = .next (takeCut c k s) := by
  show Host.Outcome.next (cmdCut c h s).1 = _
  rw [cmdCut, hlegal]
  refine congrArg _ (runCommand_ok hadm ?_)
  rw [openTake_touchSession, hopen]

theorem takeCut_txn : (takeCut c k s).txn = (updSlot k (fun x => { x with writes := [], owner := none }) s).txn := by
  rw [takeCut, txnResult_txn, cutTake_txn, updSlot, updSlot, touchSession_txn]

theorem records_takeCut (hpres : present s 2 = true) : Records s (takeCut c k s) [(0x020D, payload s (handleOf s k) 0 0)] := by
  have hrecord := records_cutTake (s := touchSession c s) (k := k) 0 ((present_touchSession c 2 s).trans hpres)
  have hbefore : (touchSession c s).cont = s.cont := (touchSession_moves c s).frame .cont rfl
  rw [Records, hbefore, handleOf_touchSession, payload, tickLo, touchSession_tick] at hrecord
  exact hrecord

/-- What a CUT leaves: the slot is FREE without a write, and the other slots are as they were (R89). -/
theorem takeCut_outcome (wf : WellKept s) (hk : k < 4) :
    slotState (takeCut c k s) k = slotFree ∧ (takeSlot (takeCut c k s) k).writes = [] ∧
      (∀ j, j ≠ k → takeSlot (takeCut c k s) j = takeSlot s j ∧ slotState (takeCut c k s) j = slotState s j) ∧
      getF (takeCut c k s) F.TXN.CMD_RESULT_RESULT = resOk := by
  have htouched : WellKept (touchSession c s) := (touchSession_moves c s).form wf
  have hcut : WellKept (cutTake k 0 (touchSession c s)) := (cutTake_moves ..).form htouched
  refine ⟨?_, ?_, fun j hj => ⟨?_, ?_⟩, getF_txnResult 0x04 _ hcut.regs⟩
  · rw [takeCut, slotState_txnResult, slotState_cutTake_same 0 htouched.regs]
  · rw [takeCut, takeSlot_txnResult, takeSlot_cutTake_same 0 (htouched.slots ▸ hk)]
  · rw [takeCut, takeSlot_txnResult, takeSlot_cutTake_other 0 hj, takeSlot_touchSession]
  · rw [takeCut, slotState_txnResult, slotState_cutTake_other 0 hj, slotState_touchSession]

/-! ### A Take past OPEN -/

theorem takeCommand_refused {op e : Nat} {body : State → Body} (hadm : Admitted c takeRoles s) (hlegal : takesLegal s = true)
    (herror : body (touchSession c s) = .error e) :
    (runCommand 2 op c h (some takeRoles) (takesLegal s) body s).1 = refusedTake op e h c s := by
  rw [hlegal, runCommand_refused hadm herror]

/-- STAGE, COMMIT and CUT are refused for what the handle's checks find (R103). -/
theorem exec_refused_handle {e : Nat} {i : Instr} (hadm : Admitted c takeRoles s) (hlegal : takesLegal s = true)
    (herror : openTake s c h = .error e) (hi : (∃ id v, i = .stage c h id v) ∨ i = .commit c h ∨ i = .cut c h) :
    ∃ op, exec i s = .next (refusedTake op e h c s) := by
  have herror' : openTake (touchSession c s) c h = .error e := (openTake_touchSession c h).trans herror
  rcases hi with ⟨id, v, rfl⟩ | rfl | rfl
  · have hstage : (cmdStage c h id v s).1 = refusedTake 0x02 e h c s := takeCommand_refused hadm hlegal (by rw [herror'])
    exact ⟨0x02, congrArg Host.Outcome.next hstage⟩
  · have hcommit : (cmdCommit c h s).1 = refusedTake 0x03 e h c s := takeCommand_refused hadm hlegal (by rw [herror'])
    exact ⟨0x03, congrArg Host.Outcome.next hcommit⟩
  · have hcut : (cmdCut c h s).1 = refusedTake 0x04 e h c s := takeCommand_refused hadm hlegal (by rw [herror'])
    exact ⟨0x04, congrArg Host.Outcome.next hcut⟩

end Sys2Proof.Machine
end

section
/-! The statement about OPEN and CUT. -/

namespace Sys2Proof.Certificates

open Sys2Proof Sys2Proof.Machine

/-- Settles O24: OPEN takes the lowest free slot or is refused, CUT frees an OPEN one, and the handle's checks (R103) turn away
what is past OPEN. -/
theorem openAndCut : Obligations.OpenAndCut := by
  intro c s wf hadm hlegal hpres
  refine ⟨fun life k tn hexchange hlife htn hfree => ?_, fun life hexchange hlife hfree => ?_, fun h k hopen => ?_,
    fun h k hfind hcaller howner hstate i hi => ?_⟩
  · have hk : k < 4 := lt_four_of_mem_slotsIn (List.mem_of_mem_head? hfree)
    obtain ⟨hopen, hslot, hhandle, hret, hothers, hres⟩ :=
      takeOpened_outcome (c := c) (if life = 0 then tn.defaultLifetime else life) wf hk
    have hmoves := takeOpened_moves (s := s) (c := c) (k := k) (if life = 0 then tn.defaultLifetime else life)
    refine ⟨_, exec_open hadm hlegal hexchange hlife htn hfree, hopen, ?_⟩
    rw [hslot, hhandle, hret]
    exact ⟨rfl, rfl, rfl, rfl, rfl, rfl, fun j _ hj => hothers j hj, hres, onlyParts_of_moves s _ hmoves rfl,
      hmoves.frame .log rfl⟩
  · exact ⟨_, exec_open_exhausted hadm hlegal hexchange hlife hfree, refusedTake_result _ _ (by decide) wf, refusedTake_txn ..,
      fun j _ => slotState_refusedTake ..⟩
  · have hk : k < 4 := openTake_lt hopen
    obtain ⟨hfreed, hwrites, hothers, hres⟩ := takeCut_outcome (c := c) wf hk
    exact ⟨_, exec_cut hadm hlegal hopen, hfreed, hwrites, by rw [takeCut_txn]; rfl, by rw [takeCut_txn]; rfl,
      records_takeCut hpres, fun j _ hj => hothers j hj, hres⟩
  · have hpast : slotState s k ≠ slotOpen := by rcases hstate with hs | hs <;> rw [hs] <;> decide
    obtain ⟨op, hexec⟩ := exec_refused_handle hadm hlegal (openTake_illegal hfind hcaller howner hpast) hi
    exact ⟨_, hexec, refusedTake_result _ _ (by decide) wf, refusedTake_txn .., fun j _ => slotState_refusedTake ..⟩

end Sys2Proof.Certificates
end

section
/-! SUPPORT. A state in which a tunable stands for the idle time of the session that reads it. -/

namespace Sys2Proof.Machine

open Sys2Proof

/-- A tunable that names SES_IDLE of session slot 0. The field is not one that a Take may write, so that no Reel that names it
loads (R82); nothing in the form of a state keeps the Reel in force from holding it. -/
def idleTunable : Tunable := { id := 1, kind := 0, target := 0x150010C, lsb := 0, width := 32 }

/-- A fresh module in ARMED with that tunable, whose BAR session, an OBSERVER's in slot 0, has been idle for 5 s. -/
def idleState : State :=
  { setF (F.SEC.SES_IDLE 0) 5 (setF (F.SEC.SES_STATE_BAR 0) 1 (setF (F.SEC.SES_STATE_STATE 0) 2 State.reset)) with
    dev := { State.reset.dev with state := .armed }
    cfg := { tunables := some { entries := [idleTunable] } } }

/-- The BAR session's caller. -/
def idleCaller : Caller := { transport := .bar, session := none, rivals := [] }

theorem idleState_wellKept : WellKept idleState :=
  ⟨by decide +kernel, rfl, rfl, rfl, rfl, rfl, rfl, rfl, rfl, wellKept_reset.volatileRing, rfl⟩

theorem idleState_admits : Admitted idleCaller anyRole idleState :=
  ⟨⟨roleObserver, by decide, by decide +kernel⟩, by decide, by decide, by decide⟩

/-- READ_TUNABLE marks the session as used before it reads the value in force (R480). -/
theorem idleState_reads_zero :
    ∃ t, exec (.readTunable idleCaller 0 1) idleState = .next t ∧ getF t F.TXN.CMD_RETURN = 0 :=
  ⟨_, rfl, by decide +kernel⟩

end Sys2Proof.Machine
end

section
/-! The statement about STAGE and READ_TUNABLE. -/

namespace Sys2Proof.Certificates

open Sys2Proof Sys2Proof.Machine

/-- Refutes O25, in the clause on READ_TUNABLE: `WellKept` lets the Reel in force name the idle time of the caller's own session
as a tunable, which the command takes to 0 before it reads it (R480); the statement asks for the value before the command. What
rules such a Reel out is the load (R82), and the statement does not ask for a Reel that has been loaded. -/
theorem not_stageAndReadTunable : ¬ Obligations.StageAndReadTunable := by
  intro h
  obtain ⟨t, hexec, hreturn, -, -⟩ :=
    (h idleCaller idleState idleState_wellKept).2 1 idleTunable idleState_admits (.inl (by decide)) (by decide)
  obtain ⟨u, hexec', hzero⟩ := idleState_reads_zero
  obtain rfl : t = u := by rw [hexec] at hexec'; exact Host.Outcome.next.inj hexec'
  have hbefore : (tunableValue idleState idleTunable).toNat = 5 := by decide +kernel
  rw [hzero, hbefore] at hreturn
  exact absurd hreturn (by decide)

end Sys2Proof.Certificates
end

section
/-! SUPPORT. COMMIT, and the expiry of an OPEN Take (R88, R90, R93). -/

namespace Sys2Proof.Machine

open Sys2Proof

variable {s : State} {c : Caller} {h k j id : Nat} {f : TakeSlot → TakeSlot}

/-! ### COMMIT -/

/-- Slot `k` takes a Take ID, which counts up, and what the entry in the log is to carry of the COMMIT. -/
def takeIdGiven (k id : Nat) (f : TakeSlot → TakeSlot) (s : State) : State :=
  let x := { (updSlot k f s).txn with nextId := id + 1 }
  setF (F.TXN.SLOT_TAKE_ID k) id (setF (F.TXN.SLOT_STATE_RESULT k) resPending
    (setF F.TXN.NEXT_TAKE_ID (id + 1) { updSlot k f s with txn := x }))

theorem takeIdGiven_txn (k id : Nat) (f : TakeSlot → TakeSlot) :
    (takeIdGiven k id f s).txn = { (updSlot k f s).txn with nextId := id + 1 } := rfl

theorem takeIdGiven_onlyFields (k id : Nat) (f : TakeSlot → TakeSlot) :
    OnlyFields [F.TXN.SLOT_TAKE_ID k, F.TXN.SLOT_STATE_RESULT k, F.TXN.NEXT_TAKE_ID] s (takeIdGiven k id f s) :=
  onlyFields_setF (by simp) (onlyFields_setF (by simp) (onlyFields_setF (by simp) fun _ _ => rfl))

theorem takeIdGiven_onlyParts (k id : Nat) (f : TakeSlot → TakeSlot) : OnlyParts [.regs, .txn] s (takeIdGiven k id f s) := by
  have hslot : OnlyParts [.regs, .txn] s (updSlot k f s) := onlyParts_of_moves s _ (updSlot_moves k f s) rfl
  have hnext : OnlyParts [.txn] (updSlot k f s) { updSlot k f s with txn := { (updSlot k f s).txn with nextId := id + 1 } } :=
    onlyParts_txn rfl
  have hfields : Moves 0x2 { updSlot k f s with txn := { (updSlot k f s).txn with nextId := id + 1 } } (takeIdGiven k id f s) :=
    moves_step setF_moves rfl (moves_step setF_moves rfl setF_moves)
  exact onlyParts_trans hslot (onlyParts_trans (onlyParts_mono hnext (by simp)) (onlyParts_of_moves _ _ hfields rfl))

theorem takeIdGiven_keysRise (k id : Nat) (f : TakeSlot → TakeSlot) (hs : keysRise s.regs = true) :
    keysRise (takeIdGiven k id f s).regs = true :=
  setF_keysRise _ _ _ (setF_keysRise _ _ _ (setF_keysRise _ _ _ hs))

theorem getF_takeId_takeIdGiven (f : TakeSlot → TakeSlot) (hid : id < 2 ^ 32) (hs : keysRise s.regs = true) :
    getF (takeIdGiven k id f s) (F.TXN.SLOT_TAKE_ID k) = id :=
  (getF_setF_same _ _ id (setF_keysRise _ _ _ (setF_keysRise _ _ _ hs))).trans (Nat.mod_eq_of_lt hid)

theorem getF_nextTakeId_takeIdGiven (f : TakeSlot → TakeSlot) (hid : id + 1 < 2 ^ 32) (hs : keysRise s.regs = true) :
    getF (takeIdGiven k id f s) F.TXN.NEXT_TAKE_ID = id + 1 := by
  rw [takeIdGiven, getF_setF_other _ _ _ _ (by simp [fieldKey, F.TXN.SLOT_TAKE_ID, F.TXN.NEXT_TAKE_ID]; omega),
    getF_setF_other _ _ _ _ (by simp [fieldKey, F.TXN.SLOT_STATE_RESULT, F.TXN.NEXT_TAKE_ID]; omega),
    getF_setF_same _ _ _ (by exact hs)]
  exact Nat.mod_eq_of_lt hid

theorem slotState_takeIdGiven (k id j : Nat) (f : TakeSlot → TakeSlot) : slotState (takeIdGiven k id f s) j = slotState s j :=
  slotState_of_onlyFields (takeIdGiven_onlyFields k id f) (by
    simp [fieldKey, F.TXN.SLOT_TAKE_ID, F.TXN.SLOT_STATE_RESULT, F.TXN.NEXT_TAKE_ID, F.TXN.SLOT_STATE_STATE]
    omega)

/-- What the entry of a Take is to carry of its COMMIT (R97): the role, the principal and the instant. -/
def commitStamped (c : Caller) (s : State) (x : TakeSlot) : TakeSlot :=
  let ses := (callerSlot s c).getD 0
  { x with
    role := (callerRole s c).getD 0
    principal := getF s (F.SEC.SES_CRED_LO ses) + 2 ^ 32 * getF s (F.SEC.SES_CRED_HI ses)
    stamp := nowStamp s }

/-- Slot `k` becomes COMMITTING with a Take ID. -/
def slotCommits (c : Caller) (k id : Nat) (s : State) : State :=
  setSlotState k slotCommitting (takeIdGiven k id (commitStamped c s) s)

/-- A COMMIT of slot `k` that has been accepted. -/
def takeCommits (c : Caller) (k : Nat) (s : State) : State :=
  showResult 2 0x03 { result := resPending } (slotCommits c k (getF s F.TXN.NEXT_TAKE_ID) (touchSession c s))

theorem exec_commit (hadm : Admitted c takeRoles s) (hlegal : takesLegal s = true) (hopen : openTake s c h = .ok k)
    (hwrites : (takeSlot s k).writes ≠ []) (hlog : logTakesEntry s (takeSlot s k).writes.length = true)
    (hid : getF s F.TXN.NEXT_TAKE_ID < 0xFFFFFFFF) : exec (.commit c h) s = .next (takeCommits c k s) := by
  show Host.Outcome.next (cmdCommit c h s).1 = _
  rw [cmdCommit, hlegal]
  refine congrArg _ (runCommand_ok hadm ?_)
  rw [openTake_touchSession, hopen]
  simp only [takeSlot_touchSession, logTakesEntry_touchSession, hlog, nextTakeId_touchSession]
  rw [if_neg (by simpa using hwrites), if_neg (by simpa using Nat.ne_of_lt hid)]
  rfl

/-- A Take without a write is not committed (R103). -/
theorem exec_commit_empty (hadm : Admitted c takeRoles s) (hlegal : takesLegal s = true) (hopen : openTake s c h = .ok k)
    (hwrites : (takeSlot s k).writes = []) : exec (.commit c h) s = .next (refusedTake 0x03 resBadArgument h c s) := by
  show Host.Outcome.next (cmdCommit c h s).1 = _
  rw [cmdCommit, hlegal]
  refine congrArg _ (runCommand_refused hadm ?_)
  rw [openTake_touchSession, hopen]
  simp [hwrites]

theorem takeCommits_txn : (takeCommits c k s).txn =
    { (updSlot k (commitStamped c (touchSession c s)) s).txn with nextId := getF s F.TXN.NEXT_TAKE_ID + 1 } := by
  rw [takeCommits, txnResult_txn, slotCommits, setSlotState_txn, takeIdGiven_txn, updSlot, updSlot, touchSession_txn]

theorem takeCommits_onlyParts : OnlyParts [.regs, .txn, .sec] s (takeCommits c k s) := by
  have htouch : OnlyParts [.regs, .txn, .sec] s (touchSession c s) := onlyParts_of_moves s _ (touchSession_moves c s) rfl
  have hgiven := takeIdGiven_onlyParts (s := touchSession c s) k (getF s F.TXN.NEXT_TAKE_ID) (commitStamped c (touchSession c s))
  have hshown : Moves 0x2 _ (takeCommits c k s) := moves_step (showResult_moves ..) rfl (setSlotState_moves k slotCommitting _)
  exact onlyParts_trans htouch (onlyParts_trans (onlyParts_mono hgiven (by simp)) (onlyParts_of_moves _ _ hshown rfl))

theorem takeSlot_takeCommits_same (wf : WellKept s) (hk : k < 4) :
    takeSlot (takeCommits c k s) k = commitStamped c (touchSession c s) (takeSlot s k) := by
  have hslot := takeSlot_updSlot_same (f := commitStamped c (touchSession c s)) (wf.slots ▸ hk)
  rw [← hslot, takeSlot, takeCommits_txn]
  rfl

theorem takeSlot_takeCommits_other (hj : j ≠ k) : takeSlot (takeCommits c k s) j = takeSlot s j := by
  have hslot := takeSlot_updSlot_other (s := s) (f := commitStamped c (touchSession c s)) hj
  rw [← hslot, takeSlot, takeCommits_txn]
  rfl

/-- What a COMMIT leaves in the registers: the slot is COMMITTING under the next Take ID, which has counted up (R90). -/
theorem takeCommits_fields (wf : WellKept s) (hid : getF s F.TXN.NEXT_TAKE_ID < 0xFFFFFFFF) :
    slotState (takeCommits c k s) k = slotCommitting ∧
      getF (takeCommits c k s) (F.TXN.SLOT_TAKE_ID k) = getF s F.TXN.NEXT_TAKE_ID ∧
      getF (takeCommits c k s) F.TXN.NEXT_TAKE_ID = getF s F.TXN.NEXT_TAKE_ID + 1 ∧
      (∀ j, j ≠ k → slotState (takeCommits c k s) j = slotState s j) ∧
      getF (takeCommits c k s) F.TXN.CMD_RESULT_RESULT = resPending := by
  have htouched : keysRise (touchSession c s).regs = true := ((touchSession_moves c s).form wf).regs
  have hgiven := takeIdGiven_keysRise k (getF s F.TXN.NEXT_TAKE_ID) (commitStamped c (touchSession c s)) htouched
  have hstate : ∀ g, (∀ x ∈ [F.TXN.STATUS_OPEN, F.TXN.STATUS_QUEUED, F.TXN.SLOT_STATE_STATE k], fieldKey x ≠ fieldKey g) →
      getF (slotCommits c k (getF s F.TXN.NEXT_TAKE_ID) (touchSession c s)) g =
        getF (takeIdGiven k (getF s F.TXN.NEXT_TAKE_ID) (commitStamped c (touchSession c s)) (touchSession c s)) g :=
    setSlotState_onlyFields k slotCommitting _
  refine ⟨?_, ?_, ?_, fun j hj => ?_, ?_⟩
  · rw [takeCommits, slotState_txnResult]
    exact slotState_setSlotState_same (by decide) hgiven
  · rw [takeCommits, getF_txnResult_slot _ _ (by simp only [fieldKey, F.TXN.SLOT_STATE_STATE, F.TXN.SLOT_TAKE_ID]; omega), hstate]
    · exact getF_takeId_takeIdGiven _ (by omega) htouched
    · simp [fieldKey, F.TXN.STATUS_OPEN, F.TXN.STATUS_QUEUED, F.TXN.SLOT_STATE_STATE, F.TXN.SLOT_TAKE_ID]
      omega
  · rw [takeCommits, txnResult_onlyFields _ _ _ _ (by decide), hstate]
    · exact getF_nextTakeId_takeIdGiven _ (by omega) htouched
    · simp [fieldKey, F.TXN.STATUS_OPEN, F.TXN.STATUS_QUEUED, F.TXN.SLOT_STATE_STATE, F.TXN.NEXT_TAKE_ID]
      omega
  · rw [takeCommits, slotState_txnResult, slotCommits, slotState_setSlotState_other _ hj, slotState_takeIdGiven,
      slotState_touchSession]
  · exact getF_txnResult 0x03 _ (setSlotState_keysRise _ _ hgiven)

/-! ### Expiry -/

theorem takeExpiredNow_iff : takeExpiredNow s k = true ↔ slotState s k = slotOpen ∧ (takeSlot s k).expiry ≤ s.tick.number := by
  simp [takeExpiredNow]

/-- An OPEN Take that has expired: the slot is freed and its handle marked (R88). -/
def takeExpired (k : Nat) (s : State) : State :=
  updSlot k (fun x => { x with expired := true }) (freeSlot k (emit 0x020E (handleOf s k) (getF s (F.TXN.SLOT_WRITES k)) 0 s))

theorem exec_takeExpired (hk : k < 4) (hdue : takeExpiredNow s k = true) : exec (.takeExpired k) s = .next (takeExpired k s) := by
  show execTakeExpired k s = _
  rw [execTakeExpired, if_pos hk, expireTake, if_pos hdue]
  rfl

theorem exec_takeExpired_idle (hdue : takeExpiredNow s k = false) : exec (.takeExpired k) s = .next s := by
  show execTakeExpired k s = _
  rw [execTakeExpired, expireTake, hdue]
  exact congrArg _ (ite_self s)

theorem slotState_takeExpired (hs : keysRise s.regs = true) : slotState (takeExpired k s) k = slotFree := by
  have hmark : slotState (takeExpired k s) k =
      slotState (freeSlot k (emit 0x020E (handleOf s k) (getF s (F.TXN.SLOT_WRITES k)) 0 s)) k := getF_updSlot ..
  rw [hmark, slotState_freeSlot_same (by rwa [emit_regs])]

theorem takeSlot_takeExpired_same (wf : WellKept s) (hk : k < 4) :
    takeSlot (takeExpired k s) k = { takeSlot s k with writes := [], owner := none, expired := true } := by
  have hrecorded : WellKept (emit 0x020E (handleOf s k) (getF s (F.TXN.SLOT_WRITES k)) 0 s) := (emit_moves ..).form wf
  have hfreed := (freeSlot_moves k _).form hrecorded
  rw [takeExpired, takeSlot_updSlot_same (hfreed.slots ▸ hk), takeSlot_freeSlot_same (hrecorded.slots ▸ hk), takeSlot_emit]

theorem takeSlot_takeExpired_other (hj : j ≠ k) : takeSlot (takeExpired k s) j = takeSlot s j := by
  rw [takeExpired, takeSlot_updSlot_other hj, takeSlot_freeSlot_other hj, takeSlot_emit]

theorem takeExpired_moves : Moves 0x200082 s (takeExpired k s) :=
  moves_step (updSlot_moves ..) rfl (moves_step (freeSlot_moves ..) rfl (moves_step (emit_moves ..) rfl moves_refl))

end Sys2Proof.Machine
end

section
/-! The statement about COMMIT and the expiry. -/

namespace Sys2Proof.Certificates

open Sys2Proof Sys2Proof.Machine

/-- Settles O26: a COMMIT by whether the Take has a write, and TAKE_EXPIRED by whether its slot is OPEN and due. -/
theorem commitTakesTheNextTakeId : Obligations.CommitTakesTheNextTakeId := by
  refine fun s wf => ⟨fun c h k hadm hlegal hopen => ⟨fun hwrites hlog hid => ?_, fun hempty => ?_⟩, fun k hk =>
    ⟨fun hdue => ?_, fun hidle => ?_⟩⟩
  · have hk : k < 4 := openTake_lt hopen
    obtain ⟨hstate, htake, hnext, hothers, hres⟩ := takeCommits_fields (c := c) (k := k) wf hid
    refine ⟨_, exec_commit hadm hlegal hopen hwrites hlog hid, hstate, htake, hnext, ?_, ?_, ?_, ?_, hres, fun j _ hj =>
      ⟨takeSlot_takeCommits_other hj, hothers j hj⟩, takeCommits_onlyParts⟩
    · rw [hnext, takeCommits_txn]
    · rw [takeSlot_takeCommits_same wf hk]
      rfl
    · rw [takeCommits_txn]
      rfl
    · rw [takeCommits_txn]
      rfl
  · exact ⟨_, exec_commit_empty hadm hlegal hopen hempty, refusedTake_result _ _ (by decide) wf, refusedTake_txn ..⟩
  · have hslot := takeSlot_takeExpired_same wf hk
    exact ⟨_, exec_takeExpired hk (takeExpiredNow_iff.2 hdue), slotState_takeExpired wf.regs, by rw [hslot], by rw [hslot],
      takeExpired_moves.frame .log rfl, fun j hj => takeSlot_takeExpired_other hj⟩
  · refine exec_takeExpired_idle (Bool.eq_false_iff.2 fun hdue => ?_)
    obtain ⟨hopen, hlate⟩ := takeExpiredNow_iff.1 hdue
    exact hidle.elim (absurd hopen) fun hearly => absurd hlate (Nat.not_le_of_lt hearly)

end Sys2Proof.Certificates
end

section
/-! SUPPORT. The write-ahead (R90, R91): its steps, the entry that each end of it leaves in the Splice log, and what a unit shows of a
command that was pending (R97 to R99). -/

namespace Sys2Proof.Machine

open Sys2Proof

variable {s : State} {a : WriteAhead} {e : LogEntry} {k : Nat}

/-! ### The Splice log -/

/-- An entry as it is appended: a marked one takes its CHAIN. -/
def chained (s : State) (e : LogEntry) : LogEntry :=
  if e.mark = .marked then { e with chain := chainOf (lastChain (logHash s) s.txn.log) e } else e

theorem chained_mark (s : State) (e : LogEntry) : (chained s e).mark = e.mark := by
  unfold chained
  split <;> rfl

theorem chained_takeId (s : State) (e : LogEntry) : (chained s e).takeId = e.takeId := by
  unfold chained
  split <;> rfl

theorem chained_writes (s : State) (e : LogEntry) : (chained s e).writes = e.writes := by
  unfold chained
  split <;> rfl

theorem appendLog_txn (e : LogEntry) (s : State) : (appendLog e s).txn = { s.txn with log := s.txn.log ++ [chained s e] } :=
  (showLog_moves _).frame .txn rfl

/-- An entry without a mark does not count as a Take of the log (R99). -/
theorem logTakes_append {t : State} (hlog : t.txn.log = s.txn.log ++ [e]) (hmark : e.mark ≠ .marked) : logTakes t = logTakes s := by
  simp [logTakes, hlog, hmark]

/-! ### A command that was pending -/

/-- The command is not pending any more. -/
def pendingTaken (p : PendingCmd) (s : State) : State :=
  { s with host := { s.host with pendingCmds := s.host.pendingCmds.filter (fun q => !(q == p)) } }

/-- The final result goes to the sender of a command that was pending: to its queue, or to its management session (R90, R505). -/
def answerPending (u op result ret : Nat) (p : PendingCmd) (s : State) : State :=
  match p.tag with
  | some tag => stageEntry 0 1 12 (nowStamp s) [u + op * 2 ^ 8 + result * 2 ^ 16, tag, ret] s
  | none =>
    match p.mgmt with
    | some (id, tag) => if (mgmtSlot s id).isSome then sendResponse id tag u op result ret 4 [] s else s
    | none => s

theorem answerPending_onlyFields (u op result ret : Nat) (p : PendingCmd) (s : State) :
    OnlyFields [F.HOST.NEXT_INDEX 0, F.HOST.LOST_COUNT 0] s (answerPending u op result ret p s) := by
  unfold answerPending
  split
  · exact stageEntry_onlyFields _ _ _ _ _ _
  · split
    · exact onlyFields_ite (fun g _ => getF_congr _ _ g ((sendResponse_moves ..).frame .regs rfl)) onlyFields_refl
    · exact onlyFields_refl

/-- The end of a command raises its cause, and is answered where the command is found pending. -/
theorem commandDone_cases (u op : Nat) (key : Option Nat) (result ret : Nat) (s : State) :
    commandDone u op key result ret s = raiseCause 24 s ∨
      ∃ p, commandDone u op key result ret s = answerPending u op result ret p (pendingTaken p (raiseCause 24 s)) := by
  unfold commandDone
  extract_lets mine s1
  clear_value mine
  cases mine with
  | none => exact .inl rfl
  | some p => exact .inr ⟨p, rfl⟩

/-- The fields that the end of a pending command writes: the interrupt causes, and ring 0 (R499, R505). -/
def lateFields : List Field := [F.HOST.NEXT_INDEX 0, F.HOST.LOST_COUNT 0] ++ causeFields

theorem commandDone_onlyFields (u op : Nat) (key : Option Nat) (result ret : Nat) (s : State) :
    OnlyFields lateFields s (commandDone u op key result ret s) := by
  have hcause : OnlyFields lateFields s (raiseCause 24 s) := onlyFields_mono (raiseCause_onlyFields 24 s) (by simp [lateFields])
  rcases commandDone_cases u op key result ret s with hdone | ⟨p, hdone⟩
  · rw [hdone]
    exact hcause
  · rw [hdone]
    have htaken : OnlyFields lateFields s (pendingTaken p (raiseCause 24 s)) := hcause
    exact onlyFields_trans htaken (onlyFields_mono (answerPending_onlyFields _ _ _ _ _ _) (by simp [lateFields]))

/-- The end of a Take's COMMIT: its record, and the answer to the command that was pending (R90, R91). -/
def commitEnds (code result handle w1 w2 : Nat) (s : State) : State :=
  commandDone 2 3 (some handle) result 0 (emit code w1 w2 handle s)

theorem commitEnds_moves (code result handle w1 w2 : Nat) : Moves 0x600002 s (commitEnds code result handle w1 w2 s) :=
  moves_step (commandDone_moves ..) rfl (moves_step (emit_moves ..) rfl moves_refl)

theorem commitEnds_txn (code result handle w1 w2 : Nat) : (commitEnds code result handle w1 w2 s).txn = s.txn :=
  (commitEnds_moves ..).frame .txn rfl

/-- TXN's fields lie below those that the end of a pending command writes. -/
theorem getF_commitEnds (code result handle w1 w2 : Nat) {f : Field} (hf : fieldKey f < 0x2C000000) :
    getF (commitEnds code result handle w1 w2 s) f = getF s f := by
  refine (commandDone_onlyFields _ _ _ _ _ _ f fun g hg => ?_).trans (getF_emit ..)
  have hg : 0x2C000000 ≤ fieldKey g := by revert g; decide
  omega

theorem slotState_commitEnds (code result handle w1 w2 : Nat) (hk : k < 4) :
    slotState (commitEnds code result handle w1 w2 s) k = slotState s k :=
  getF_commitEnds _ _ _ _ _ (by simp only [fieldKey, F.TXN.SLOT_STATE_STATE]; omega)

/-! ### The steps -/

theorem exec_writeAheadTurn (hnone : s.txn.ahead = none) (hlow : lowestTake s (slotsIn s slotCommitting) = some k) :
    exec .writeAheadTurn s = .next { s with txn := { s.txn with
      ahead := some { slot := k, stage := 1, startedNs := stampNs s, mirrored := standInPaired s }, spanId := none } } := by
  show execWriteAheadTurn s = _
  rw [execWriteAheadTurn, hnone, hlow]

theorem exec_takeBodyWritten (hahead : s.txn.ahead = some a) (hstage : a.stage = 1) (htime : stampNs s ≤ a.startedNs + 50000000) :
    exec .takeBodyWritten s =
      .next (setAhead (some { a with stage := if standInPaired s then 2 else 3, startedNs := stampNs s }) s) := by
  show execTakeBodyWritten s = _
  simp [execTakeBodyWritten, hahead, hstage, writeLimitNs, htime]

/-- The entry of the Take in progress is appended with a mark, and nothing is in progress any more. -/
def entryLogged (a : WriteAhead) (mark : LogMark) (s : State) : State :=
  appendLog (entryOf s a.slot a.mirrored mark) (setAhead none s)

/-- The entry that `entryLogged` appends. -/
def loggedEntry (a : WriteAhead) (mark : LogMark) (s : State) : LogEntry :=
  chained (setAhead none s) (entryOf s a.slot a.mirrored mark)

theorem entryLogged_txn (mark : LogMark) :
    (entryLogged a mark s).txn = { s.txn with ahead := none, log := s.txn.log ++ [loggedEntry a mark s] } := appendLog_txn ..

theorem entryLogged_moves (mark : LogMark) : Moves 0x20200082 s (entryLogged a mark s) :=
  moves_step (appendLog_moves ..) rfl (moves_step (setAhead_moves none s) rfl moves_refl)

theorem entryLogged_wellKept (mark : LogMark) (wf : WellKept s) : WellKept (entryLogged a mark s) := (entryLogged_moves mark).form wf

/-! ### TAKE_COMMITTED -/

/-- The marked entry is in the log, and the Take is COMMITTED from now on (R90, R92). -/
def takeDurable (a : WriteAhead) (s : State) : State :=
  setSlotState a.slot slotCommitted (setF (F.TXN.SLOT_STATE_RESULT a.slot) resOk
    (updSlot a.slot (fun x => { x with committedAt := s.clap.cycles }) (entryLogged a .marked s)))

theorem exec_takeCommitted (hahead : s.txn.ahead = some a) (hstage : a.stage = 3) (htime : stampNs s ≤ a.startedNs + 50000000) :
    exec .takeCommitted s = .next (commitEnds 0x020B resOk (handleOf s a.slot) (getF s (F.TXN.SLOT_TAKE_ID a.slot))
      (takeSlot s a.slot).writes.length (takeDurable a s)) := by
  show execTakeCommitted s = _
  simp [execTakeCommitted, hahead, hstage, writeLimitNs, htime]
  rfl

theorem takeDurable_slots : (takeDurable a s).txn =
    (updSlot a.slot (fun x => { x with committedAt := s.clap.cycles }) (entryLogged a .marked s)).txn := rfl

/-- Of TXN beyond its registers a commit changes its slot, the write-ahead and the log alone. -/
theorem takeDurable_txn : (takeDurable a s).txn.log = s.txn.log ++ [loggedEntry a .marked s] ∧
    (takeDurable a s).txn.ahead = none ∧ (takeDurable a s).txn.values = s.txn.values := by
  rw [takeDurable_slots, updSlot, entryLogged_txn]
  exact ⟨rfl, rfl, rfl⟩

theorem takeDurable_moves : Moves 0x20200082 s (takeDurable a s) :=
  moves_step (setSlotState_moves ..) rfl (moves_step setF_moves rfl (moves_step (updSlot_moves ..) rfl (entryLogged_moves .marked)))

theorem slotState_takeDurable (wf : WellKept s) : slotState (takeDurable a s) a.slot = slotCommitted :=
  slotState_setSlotState_same (by decide) (setF_keysRise _ _ _ (entryLogged_wellKept .marked wf).regs)

theorem committedAt_takeDurable (wf : WellKept s) (hk : a.slot < 4) :
    (takeSlot (takeDurable a s) a.slot).committedAt = s.clap.cycles := by
  rw [takeSlot_congr takeDurable_slots, takeSlot_updSlot_same ((entryLogged_wellKept .marked wf).slots ▸ hk)]

/-! ### TAKE_VOIDED -/

/-- A span of the log is to be programmed to 0x00, or none is (R91). -/
def setSpan (id : Option Nat) (s : State) : State := { s with txn := { s.txn with spanId := id } }

/-- The entry stays in the log without a mark, or as a span to be programmed to 0x00, and the slot is freed (R91). -/
def takeVoid (a : WriteAhead) (readBack : Bool) (s : State) : State :=
  freeSlot a.slot (setF (F.TXN.SLOT_STATE_RESULT a.slot) resTimeout
    (setSpan (if readBack then none else some (getF s (F.TXN.SLOT_TAKE_ID a.slot)))
      (entryLogged a (if readBack then .unmarked else .filler) s)))

theorem exec_takeVoided (readBack : Bool) (hahead : s.txn.ahead = some a) (hstage : a.stage = 1)
    (htime : a.startedNs + 50000000 ≤ stampNs s) :
    exec (.takeVoided readBack) s = .next (commitEnds 0x020F resTimeout (handleOf s a.slot) (getF s (F.TXN.SLOT_TAKE_ID a.slot))
      a.stage (takeVoid a readBack s)) := by
  show execTakeVoided readBack s = _
  simp [execTakeVoided, hahead, hstage, writeLimitNs, htime]
  rfl

/-- The entry that a voided Take leaves. -/
def voidEntry (a : WriteAhead) (readBack : Bool) (s : State) : LogEntry :=
  loggedEntry a (if readBack then .unmarked else .filler) s

theorem voidEntry_unmarked (readBack : Bool) : (voidEntry a readBack s).mark ≠ .marked := by
  rw [voidEntry, loggedEntry, chained_mark]
  cases readBack <;> exact LogMark.noConfusion

/-- Of TXN beyond its registers a void changes its slot, the write-ahead, the span and the log alone. -/
theorem takeVoid_txn (readBack : Bool) : (takeVoid a readBack s).txn.log = s.txn.log ++ [voidEntry a readBack s] ∧
    (takeVoid a readBack s).txn.ahead = none ∧ (takeVoid a readBack s).txn.values = s.txn.values := by
  have hlogged := entryLogged_txn (s := s) (a := a) (if readBack then .unmarked else .filler)
  rw [takeVoid, freeSlot_txn, updSlot, setF_txn, setSpan, hlogged]
  exact ⟨rfl, rfl, rfl⟩

/-- The slot is FREE, and its RESULT is TIMEOUT (R91). -/
theorem takeVoid_slot (readBack : Bool) (wf : WellKept s) : slotState (takeVoid a readBack s) a.slot = slotFree ∧
    getF (takeVoid a readBack s) (F.TXN.SLOT_STATE_RESULT a.slot) = resTimeout := by
  have hlogged := (entryLogged_wellKept (a := a) (if readBack then .unmarked else .filler) wf).regs
  refine ⟨slotState_freeSlot_same (setF_keysRise _ _ _ hlogged), ?_⟩
  refine (freeSlot_onlyFields a.slot _ _ ?_).trans (getF_setF_same _ _ _ hlogged)
  simp [fieldKey, F.TXN.STATUS_OPEN, F.TXN.STATUS_QUEUED, F.TXN.SLOT_STATE_STATE, F.TXN.SLOT_WRITES, F.TXN.SLOT_TAKE_ID,
    F.TXN.SLOT_STATE_RESULT]
  omega

/-! ### SPLICE_WRITE_FAILED -/

/-- The Take waits for its turn at the Stand-in, and TXN has failed (R91). -/
def markFailed (a : WriteAhead) (s : State) : State :=
  setHealth 2 2 (emit 0x0212 (getF s (F.TXN.SLOT_TAKE_ID a.slot)) 0 0 (setAhead (some { a with stage := 4 }) s))

theorem exec_spliceWriteFailed (hahead : s.txn.ahead = some a) (hspan : s.txn.spanId = none) (hstage : a.stage = 3)
    (hlead : role s = 1) (hdurable : a.durable = true) : exec .spliceWriteFailed s = .next (markFailed a s) := by
  show execSpliceWriteFailed s = _
  have hcond : (a.stage = 3 && role s == 1 && a.durable) = true := by simp [hstage, hlead, hdurable]
  rw [execSpliceWriteFailed, hahead, hspan]
  exact congrArg _ (if_pos hcond)

theorem markFailed_txn : (markFailed a s).txn = { s.txn with ahead := some { a with stage := 4 } } :=
  have hmoves : Moves 0x600002 (setAhead (some { a with stage := 4 }) s) (markFailed a s) :=
    moves_step (setHealth_moves ..) rfl (moves_step (emit_moves ..) rfl moves_refl)
  hmoves.frame .txn rfl

theorem markFailed_moves : Moves 0x600082 s (markFailed a s) :=
  moves_step (setHealth_moves ..) rfl (moves_step (emit_moves ..) rfl (moves_step (setAhead_moves ..) rfl moves_refl))

end Sys2Proof.Machine
end

section
/-! The statement about the write-ahead. -/

namespace Sys2Proof.Certificates

open Sys2Proof Sys2Proof.Machine

/-- Settles O27, step by step: the flag in the entry is as it was when the body began (log entry 57), and a mark that failed
leaves the Take at step 4 (log entry 53). -/
theorem writeAheadCommitsOrVoids : Obligations.WriteAheadCommitsOrVoids := by
  refine fun s wf => ⟨fun k hnone hlow => ?_, fun a hahead hstage htime => ?_, fun a hahead hk hstage htime => ?_,
    fun a readBack hahead hk hstage htime => ?_, fun a hahead hspan hstage hlead hdurable => ?_⟩
  · exact ⟨_, exec_writeAheadTurn hnone hlow, rfl, rfl, onlyParts_txn rfl⟩
  · exact ⟨_, exec_takeBodyWritten hahead hstage htime, rfl, rfl, onlyParts_txn rfl⟩
  · obtain ⟨hlog, hdone, hvalues⟩ := takeDurable_txn (s := s) (a := a)
    refine ⟨_, loggedEntry a .marked s, exec_takeCommitted hahead hstage htime, ?_⟩
    rw [slotState_commitEnds _ _ _ _ _ hk, takeSlot_congr (commitEnds_txn ..), commitEnds_txn]
    exact ⟨hlog, chained_mark .., chained_takeId .., chained_writes .., hdone, slotState_takeDurable wf,
      committedAt_takeDurable wf hk, hvalues, onlyParts_of_moves s _ (moves_step (commitEnds_moves ..) rfl
        (moves_step takeDurable_moves rfl moves_refl) : Moves 0x20600082 s _) rfl⟩
  · obtain ⟨hlog, hdone, hvalues⟩ := takeVoid_txn (s := s) (a := a) readBack
    obtain ⟨hfree, hresult⟩ := takeVoid_slot (a := a) readBack wf
    refine ⟨_, voidEntry a readBack s, exec_takeVoided readBack hahead hstage htime, ?_⟩
    rw [slotState_commitEnds _ _ _ _ _ hk, commitEnds_txn,
      getF_commitEnds _ _ _ _ _ (by simp only [fieldKey, F.TXN.SLOT_STATE_RESULT]; omega)]
    exact ⟨hlog, voidEntry_unmarked readBack, hfree, hresult, hdone, hvalues,
      logTakes_append (by rw [commitEnds_txn, hlog]) (voidEntry_unmarked readBack)⟩
  · have htxn := markFailed_txn (s := s) (a := a)
    exact ⟨_, exec_spliceWriteFailed hahead hspan hstage hlead hdurable, by rw [htxn], by rw [htxn],
      onlyParts_of_moves s _ markFailed_moves rfl⟩

end Sys2Proof.Certificates
end

section
/-! SUPPORT. What a step keeps: the form of the state. -/

namespace Sys2Proof.Machine

open Sys2Proof

variable {s t : State}

/-- The queue is no part of the form. -/
theorem wellKept_pending (q : List Instr) (wf : WellKept s) : WellKept { s with pending := q } :=
  ⟨wf.regs, wf.live, wf.snap, wf.window, wf.cond, wf.bases, wf.slots, wf.sessions, wf.ports, wf.volatileRing, wf.headers⟩

/-- With no command waiting a cycle passes, and with one its operations run: the law of either keeps the form. -/
theorem step_wellKept (wf : WellKept s) (hstep : step s = .next t) : WellKept t := by
  unfold step at hstep
  split at hstep
  case h_1 => exact (idle_moves s t hstep).form wf
  case h_2 c rest _ => exact (exec_moves c _ t hstep).form (wellKept_pending rest wf)

end Sys2Proof.Machine
end

section
/-! The statement about the form of the state. -/

namespace Sys2Proof.Certificates

open Sys2Proof Sys2Proof.Machine

/-- Settles O5: the invariant is the form itself, which every command's law carries. -/
theorem everyStepKeepsForm : Obligations.EveryStepKeepsForm := fun _ _ => step_wellKept

end Sys2Proof.Certificates
end

section
/-! SUPPORT. Single bits of a mask after a bit has been put: a point's conditions and a field's bits, and what QUALITY shows of
the conditions (R109, R110, R121). -/

namespace Sys2Proof.Machine

open Sys2Proof

variable (s : State)

/-! ### One bit of a mask -/

theorem hasCond_eq_testBit (m c : Nat) : hasCond m c = m.testBit c := by
  rw [Nat.testBit_eq_decide_div_mod_eq]
  rfl

/-- A mask after one condition has been put in or taken out. -/
@[simp] theorem hasCond_putCond (m c d : Nat) (b : Bool) : hasCond (putCond m c b) d = if d = c then b else hasCond m d := by
  rw [putCond]
  cases hc : hasCond m c with
  | false =>
    have hbit : m.testBit c = false := hasCond_eq_testBit m c ▸ hc
    cases b with
    | false => by_cases e : d = c <;> simp [e, hc]
    | true => by_cases e : d = c <;> simp [hasCond_eq_testBit, testBit_add_two_pow hbit, e]
  | true =>
    have hbit : m.testBit c = true := hasCond_eq_testBit m c ▸ hc
    cases b with
    | true => by_cases e : d = c <;> simp [e, hc]
    | false => by_cases e : d = c <;> simp [hasCond_eq_testBit, testBit_sub_two_pow _ _ _ hbit, e]

@[simp] theorem hasCond_dropConds (m : Nat) (cs : List Nat) (d : Nat) :
    hasCond (dropConds m cs) d = (hasCond m d && !cs.contains d) := by
  induction cs generalizing m with
  | nil => simp [dropConds]
  | cons c cs ih =>
    have hstep : dropConds m (c :: cs) = dropConds (putCond m c false) cs := rfl
    rw [hstep, ih, hasCond_putCond]
    by_cases e : d = c <;> simp [e]

/-! ### One bit of a field -/

theorem setBit_eq (f : Field) (i : Nat) (b : Bool) : setBit f i b s = setF f (putCond (getF s f) i b) s := rfl

/-- Writing bit `i` of a field keeps the field's other bits. -/
theorem bitF_setBit (f : Field) (i j : Nat) (b : Bool) (hj : j < f.width) (h : keysRise s.regs = true) :
    bitF (setBit f i b s) f j = if j = i then b else bitF s f j := by
  have hput : (putCond (getF s f) i b).testBit j = if j = i then b else (getF s f).testBit j := by
    rw [← hasCond_eq_testBit, ← hasCond_eq_testBit, hasCond_putCond]
  rw [bitF_eq_testBit, bitF_eq_testBit, setBit_eq, getF_setF_same s f _ h, Nat.testBit_mod_two_pow, hput]
  simp [hj]

/-! ### QUALITY -/

theorem ofBool_le_one (b : Bool) : ofBool b ≤ 1 := by cases b <;> decide

/-- QUALITY with VALID, STALE and REASON apart from its other bits. -/
theorem qualityBits_split (m : Nat) (rejected : Bool) : ∃ low high, low < 8 ∧ high < 16 ∧ qualityBits m rejected =
    ofBool (validOf m rejected) + 2 * low + 16 * ofBool (hasCond m condTimeout) + 32 * high + 4096 * reasonOf m := by
  have three : ∀ a b c, ofBool a + 2 * ofBool b + 4 * ofBool c < 8 := by decide
  have four : ∀ a b c d, ofBool a + 2 * ofBool b + 4 * ofBool c + 8 * ofBool d < 16 := by decide
  refine ⟨_, _, three (validOf m rejected && (anyCond m [condLow, condHigh] || hasCond m condRate || hasCond m condAbsent ||
    hasCond m condFilter || hasCond m condCrossing)) (anyCond m [condLow, condHigh]) (hasCond m condRate),
    four (anyCond m [condInitial, condTake, condSafe]) (hasCond m condAbsent) (hasCond m condFilter) (hasCond m condCrossing),
    ?_⟩
  simp only [qualityBits]
  omega

/-- VALID is bit 0 of QUALITY. -/
theorem qualityBits_valid (m : Nat) (rejected : Bool) : (qualityBits m rejected % 2 == 1) = validOf m rejected := by
  obtain ⟨low, high, -, -, hsplit⟩ := qualityBits_split m rejected
  have hparity : qualityBits m rejected % 2 = ofBool (validOf m rejected) := by
    have hle := ofBool_le_one (validOf m rejected)
    omega
  rw [hparity]
  cases validOf m rejected <;> rfl

/-- STALE is bit 4 of QUALITY. -/
theorem qualityBits_stale (m : Nat) (rejected : Bool) : qualityBits m rejected / 16 % 2 = ofBool (hasCond m condTimeout) := by
  obtain ⟨low, high, hlow, hhigh, hsplit⟩ := qualityBits_split m rejected
  have hvalid := ofBool_le_one (validOf m rejected)
  have hstale := ofBool_le_one (hasCond m condTimeout)
  omega

/-- REASON is bits 15:12 of QUALITY. -/
theorem qualityBits_reason (m : Nat) (rejected : Bool) : qualityBits m rejected / 4096 = reasonOf m := by
  obtain ⟨low, high, hlow, hhigh, hsplit⟩ := qualityBits_split m rejected
  have hvalid := ofBool_le_one (validOf m rejected)
  have hstale := ofBool_le_one (hasCond m condTimeout)
  omega

/-- A rejected sample clears VALID (R116). -/
theorem validOf_rejected (m : Nat) : validOf m true = false := rfl

/-- So does any condition of R121. -/
theorem validOf_hasCond {m c : Nat} (rejected : Bool) (h : hasCond m c = true)
    (hc : c ∈ [condInitial, condTimeout, condOpenWire, condShort, condOverload, condMemory]) : validOf m rejected = false := by
  have hany : anyCond m [condInitial, condTimeout, condOpenWire, condShort, condOverload, condMemory] = true :=
    List.any_eq_true.2 ⟨c, hc, h⟩
  simp [validOf, hany]

/-- Without a condition QUALITY is VALID alone. -/
theorem qualityBits_clear {m : Nat} (h : ∀ c, 1 ≤ c → c ≤ 14 → hasCond m c = false) : qualityBits m false = 1 := by
  have hreason : reasonOf m = 0 := by
    simp [reasonOf, h]
  simp [qualityBits, validOf, anyCond, hreason, h, condInitial, condLow, condHigh, condRate, condFilter, condTimeout, condAbsent,
    condCrossing, condOpenWire, condShort, condOverload, condTake, condSafe, condMemory, ofBool]

end Sys2Proof.Machine
end

section
/-! SUPPORT. The rules of the point images: what a written point reads, what a write leaves alone, and when a unit's write of a
point is taken (R107, R112, R113, R122, R123). -/

namespace Sys2Proof.Machine

open Sys2Proof

variable {s t u : State} {unit i j : Nat} {c : PointCfg}

/-! ### One point -/

theorem livePoint_congr (h : t.pimg = s.pimg) (j : Nat) : livePoint t j = livePoint s j := by rw [livePoint, livePoint, h]

theorem pointCond_congr (h : t.pimg = s.pimg) (j : Nat) : pointCond t j = pointCond s j := by rw [pointCond, pointCond, h]

theorem pointCfg_congr (h : t.cfg = s.cfg) (j : Nat) : pointCfg t j = pointCfg s j := by rw [pointCfg, pointCfg, h]

@[simp] theorem emit_pimg (code w1 w2 w3 : Nat) : (emit code w1 w2 w3 s).pimg = s.pimg := (emit_moves ..).frame .pimg rfl

@[simp] theorem livePoint_emit (code w1 w2 w3 j : Nat) : livePoint (emit code w1 w2 w3 s) j = livePoint s j :=
  livePoint_congr (emit_pimg ..) j

@[simp] theorem livePoint_bumpF (f : Field) (k j : Nat) : livePoint (bumpF f k s) j = livePoint s j := rfl

@[simp] theorem livePoint_setF (f : Field) (v j : Nat) : livePoint (setF f v s) j = livePoint s j := rfl

/-- A point reads back as written, with the QUALITY of its conditions. -/
theorem livePoint_putPoint_same (i : Nat) (p : PointVal) (k : PointCond) (wf : WellKept s) :
    livePoint (putPoint i p k s) i = { p with quality := qualityBits k.conds k.rejected } :=
  tableGet_put_same _ _ _ _ ((tableWf_iff _ _).1 wf.live).1

theorem livePoint_putPoint_other (p : PointVal) (k : PointCond) (h : j ≠ i) : livePoint (putPoint i p k s) j = livePoint s j :=
  tableGet_put_other _ _ _ _ _ _ h.symm

theorem pointCond_putPoint_same (i : Nat) (p : PointVal) (k : PointCond) (wf : WellKept s) :
    pointCond (putPoint i p k s) i = k :=
  tableGet_put_same _ _ _ _ ((tableWf_iff _ _).1 wf.cond).1

theorem pointValid_eq {p : PointVal} {m : Nat} {rejected : Bool} (h : p.quality = qualityBits m rejected) :
    pointValid p = validOf m rejected := by
  rw [pointValid, h, qualityBits_valid]

/-! ### One point alone -/

/-- From `s` to `t` no point but `i` has changed in the live image, and none in the snapshot. -/
structure OnlyPoint (i : Nat) (s t : State) : Prop where
  live : ∀ j, j ≠ i → livePoint t j = livePoint s j
  snap : t.pimg.snap = s.pimg.snap

theorem onlyPoint_of_pimg (h : t.pimg = s.pimg) : OnlyPoint i s t := ⟨fun j _ => livePoint_congr h j, by rw [h]⟩

theorem onlyPoint_trans (h1 : OnlyPoint i s t) (h2 : OnlyPoint i t u) : OnlyPoint i s u :=
  ⟨fun j hj => (h2.live j hj).trans (h1.live j hj), h2.snap.trans h1.snap⟩

theorem onlyPoint_putPoint (p : PointVal) (k : PointCond) : OnlyPoint i s (putPoint i p k s) :=
  ⟨fun _ hj => livePoint_putPoint_other p k hj, rfl⟩

theorem onlyPoint_emit {code w1 w2 w3 : Nat} (h : OnlyPoint i s t) : OnlyPoint i s (emit code w1 w2 w3 t) :=
  onlyPoint_trans h (onlyPoint_of_pimg (emit_pimg ..))

theorem onlyPoint_setF {f : Field} {v : Nat} (h : OnlyPoint i s t) : OnlyPoint i s (setF f v t) :=
  onlyPoint_trans h (onlyPoint_of_pimg rfl)

theorem onlyPoint_bumpF {f : Field} {k : Nat} (h : OnlyPoint i s t) : OnlyPoint i s (bumpF f k t) := onlyPoint_setF h

theorem onlyPoint_ite {q : Prop} [Decidable q] (h1 : OnlyPoint i s t) (h2 : OnlyPoint i s u) :
    OnlyPoint i s (if q then t else u) := by
  split <;> assumption

theorem rejectSample_onlyPoint (reason : Nat) (x : Word) (k : PointCond) : OnlyPoint i s (rejectSample i reason x k s) :=
  onlyPoint_emit (onlyPoint_bumpF (onlyPoint_putPoint _ _))

theorem conditionSample_onlyPoint (x : Word) (stamp : Nat) : OnlyPoint i s (conditionSample unit i c x stamp s) := by
  unfold conditionSample
  extract_lets k out x1 dt rl k1
  refine onlyPoint_ite (rejectSample_onlyPoint _ _ _) (onlyPoint_ite (rejectSample_onlyPoint _ _ _) ?_)
  split
  extract_lets m0 m1 m s1 s2 s3
  have h1 : OnlyPoint i s s1 := onlyPoint_putPoint _ _
  have h2 : OnlyPoint i s s2 := onlyPoint_ite (onlyPoint_bumpF h1) h1
  have h3 : OnlyPoint i s s3 := onlyPoint_ite (onlyPoint_bumpF h2) h2
  exact onlyPoint_ite (onlyPoint_emit (onlyPoint_bumpF h3)) h3

/-! ### Which writes are taken -/

/-- PIMG takes the writes of point `i` that the unit brings: the image is in use, the unit is not FAULTED, the cycle is not the
Curtain's own, and the point is the unit's own with the sound entry `c`. -/
structure TakesWrite (unit i : Nat) (c : PointCfg) (s : State) : Prop where
  up : imageUp s = true
  healthy : bitF s F.TICK.FAULTED unit = false
  early : inCurtainCycle s = false
  listed : pointCfg s i = some c
  own : c.source = unit
  sound : (pointCond s i).cfgFailed = false

/-- The register fields on which a write's being taken depends. -/
def writeGates : List Field := [F.PIMG.STATUS_RUNNING, F.TICK.FAULTED, F.TICK.STATUS_RUNNING, F.TICK.CURTAIN_CYCLE]

theorem TakesWrite.congr (h : TakesWrite unit i c s) (hregs : ∀ g ∈ writeGates, getF t g = getF s g) (hdev : t.dev = s.dev)
    (htick : t.tick = s.tick) (hpimg : t.pimg = s.pimg) (hcfg : t.cfg = s.cfg) : TakesWrite unit i c t := by
  have hrunning := hregs F.PIMG.STATUS_RUNNING (by simp [writeGates])
  have hfaulted := hregs F.TICK.FAULTED (by simp [writeGates])
  have hticks := hregs F.TICK.STATUS_RUNNING (by simp [writeGates])
  have hcycle := hregs F.TICK.CURTAIN_CYCLE (by simp [writeGates])
  obtain ⟨hup, hhealthy, hearly, hlisted, hown, hsound⟩ := h
  refine ⟨?_, ?_, ?_, by rw [pointCfg_congr hcfg, hlisted], hown, by rw [pointCond_congr hpimg, hsound]⟩
  · rw [← hup, imageUp, imageUp, flag, flag, hrunning]
  · rw [← hhealthy, bitF, bitF, hfaulted]
  · rw [← hearly, inCurtainCycle, inCurtainCycle, inState, inState, flag, flag, hticks, hcycle, hdev, htick]

/-- A sample that is taken is conditioned, but for a bool that is neither 0 nor 1 (R108). -/
theorem sampleIn_taken (h : TakesWrite unit i c s) (x : Word) (stamp : Nat) : sampleIn unit i x stamp s =
    if c.typ = 2 && x.toNat > 1 then s else conditionSample unit i c x stamp s := by
  obtain ⟨hup, hhealthy, hearly, hlisted, hown, hsound⟩ := h
  simp [sampleIn, hup, hhealthy, hearly, hlisted, hown, hsound]

theorem sampleIn_taken_onlyPoint (h : TakesWrite unit i c s) (x : Word) (stamp : Nat) :
    OnlyPoint i s (sampleIn unit i x stamp s) := by
  rw [sampleIn_taken h]
  exact onlyPoint_ite (onlyPoint_of_pimg rfl) (conditionSample_onlyPoint x stamp)

/-- A fault that is taken holds the point's value under its condition (R119, R121). -/
theorem frontFault_taken (h : TakesWrite unit i c s) (code : Nat) :
    ∃ k, hasCond k.conds code = true ∧ frontFault unit i code s = putPoint i (livePoint s i) k s := by
  obtain ⟨hup, hhealthy, hearly, hlisted, hown, hsound⟩ := h
  refine ⟨{ sourceWrote s (pointCond s i) with conds := putCond (sourceWrote s (pointCond s i)).conds code true }, by simp, ?_⟩
  simp [frontFault, hup, hhealthy, hearly, hlisted, hown, hsound]

/-- A write of a point that is not the unit's own is refused (R112). -/
theorem sampleIn_refused (hup : imageUp s = true) (hhealthy : bitF s F.TICK.FAULTED unit = false)
    (hearly : inCurtainCycle s = false) (hother : ∀ c, pointCfg s i = some c → c.source ≠ unit) (x : Word) (stamp : Nat) :
    sampleIn unit i x stamp s = refuseWrite unit i s := by
  cases hlisted : pointCfg s i with
  | none => simp [sampleIn, hup, hhealthy, hearly, hlisted]
  | some c => simp [sampleIn, hup, hhealthy, hearly, hlisted, hother c hlisted]

/-- A FAULTED unit's write is dropped (R122). -/
theorem sampleIn_faulted (hfaulted : bitF s F.TICK.FAULTED unit = true) (x : Word) (stamp : Nat) :
    sampleIn unit i x stamp s = s := by
  simp [sampleIn, hfaulted]

/-- A write of the Curtain's own cycle is kept for after the publication (R113). -/
theorem sampleIn_held (hup : imageUp s = true) (hhealthy : bitF s F.TICK.FAULTED unit = false)
    (hcurtain : inCurtainCycle s = true) (x : Word) (stamp : Nat) :
    sampleIn unit i x stamp s = holdSample { unit := unit, point := i, value := x, stamp := stamp } s := by
  simp [sampleIn, hup, hhealthy, hcurtain]

end Sys2Proof.Machine
end

section
/-! SUPPORT. What becomes of a sample that PIMG conditions, of a point that an uncorrectable error has hit, and of a point that
goes stale (R109, R115, R116, R119, R123). -/

namespace Sys2Proof.Machine

open Sys2Proof

variable {s : State} {unit i : Nat} {c : PointCfg}

/-! ### Conditioning -/

theorem conditionSample_notFinite {x : Word} (htyp : c.typ = 0) (hinf : f32Finite x = false) (stamp : Nat) :
    ∃ reason, conditionSample unit i c x stamp s = rejectSample i reason x (sourceWrote s (pointCond s i)) s :=
  ⟨_, by unfold conditionSample; exact if_pos (by simp [htyp, hinf])⟩

/-- A rejected sample changes a point's QUALITY alone (R115). -/
theorem livePoint_rejectSample (reason : Nat) (x : Word) (k : PointCond) (wf : WellKept s) :
    ∃ m, livePoint (rejectSample i reason x k s) i = { livePoint s i with quality := qualityBits m true } :=
  ⟨_, by rw [rejectSample, livePoint_emit, livePoint_bumpF, livePoint_putPoint_same _ _ _ wf]⟩

theorem rejectSample_count (reason : Nat) (x : Word) (k : PointCond) (wf : WellKept s) :
    getF (rejectSample i reason x k s) F.PIMG.REJECT_COUNT = min (getF s F.PIMG.REJECT_COUNT + 1) 0xFFFFFFFF := by
  rw [rejectSample, getF_emit]
  exact getF_bumpF_same (putPoint i _ _ s) _ _ rfl wf.regs

/-- The conditions that an accepted sample leaves where neither the rate limit nor the filter adds one: those before it without
the ones that a sample ends, and the range condition, if any. -/
def takenConds (out : Option Nat) (m : Nat) : Nat :=
  let m0 := dropConds m [condInitial, condLow, condHigh, condRate, condFilter, condTake, condSafe]
  putCond (putCond (out.elim m0 fun r => putCond m0 r true) condRate false) condFilter false

/-- A point's conditioning state after a sample that neither the rate limit nor the filter changes. -/
def takenCond (out : Option Nat) (x : Word) (stamp : Nat) (k : PointCond) : PointCond :=
  { k with rateValue := x, rateStamp := stamp, hasRate := true, rejected := false, conds := takenConds out k.conds }

theorem conditionSample_plain {x : Word} (hfinite : c.typ = 0 → f32Finite x = true) (haction : c.rangeAction = 0)
    (hrate : f32Lt 0 c.maxRate = false) (hfilter : c.filter = 0) (stamp : Nat) : conditionSample unit i c x stamp s =
      putPoint i { value := x, source := unit, typ := c.typ, stamp := stamp }
        (takenCond none x stamp (sourceWrote s (pointCond s i))) s := by
  have hkept : ¬(c.typ = 0 ∧ f32Finite x = false) := fun h => by simp [hfinite h.1] at h
  have hunlimited : f32Lt 0#32 c.maxRate = false := hrate
  simp [conditionSample, hkept, haction, hunlimited, hfilter, filterStep, takenCond, takenConds]

theorem conditionSample_clampedLow {x : Word} (htyp : c.typ = 1) (haction : c.rangeAction = 1) (hlow : x.toInt < c.lo.toInt)
    (hrate : f32Lt 0 c.maxRate = false) (hfilter : c.filter = 0) (stamp : Nat) : conditionSample unit i c x stamp s =
      bumpF F.PIMG.CLAMP_COUNT 1 (putPoint i { value := c.lo, source := unit, typ := c.typ, stamp := stamp }
        (takenCond (some condLow) c.lo stamp (sourceWrote s (pointCond s i))) s) := by
  have hout : outside c.typ x c.lo c.hi = some condLow := by simp [outside, htyp, BitVec.slt, hlow]
  rw [htyp] at hout
  have hunlimited : f32Lt 0#32 c.maxRate = false := hrate
  simp [conditionSample, hout, htyp, haction, hunlimited, hfilter, filterStep, takenCond, takenConds]

/-- Of the conditions of R110, an accepted sample that neither the rate limit nor the filter changes leaves the range condition
alone. -/
theorem hasCond_takenConds {out : Option Nat} {d : Nat} (k : PointCond) (hlow : 1 ≤ d) (hhigh : d ≤ 14)
    (hout : ∀ r, out = some r → r = condLow ∨ r = condHigh) :
    hasCond (takenConds out (sourceWrote s k).conds) d = decide (out = some d) := by
  have hnone : hasCond (dropConds (sourceWrote s k).conds
      [condInitial, condLow, condHigh, condRate, condFilter, condTake, condSafe]) d = false := by
    interval_cases d <;> simp [sourceWrote, condInitial, condLow, condHigh, condRate, condFilter, condTimeout, condAbsent,
      condCrossing, condOpenWire, condShort, condOverload, condTake, condSafe, condMemory]
  cases out with
  | none => simp [takenConds, hnone]
  | some r =>
    have hr : r < condRate := by
      rcases hout r rfl with rfl | rfl <;> decide
    have hfilter : condRate < condFilter := by decide
    by_cases hd : d = r
    · simp [takenConds, hd, hr.ne, (hr.trans hfilter).ne]
    · simp [takenConds, hnone, hd, Ne.symm hd]

/-- A sample with no range condition leaves VALID alone in QUALITY. -/
theorem qualityBits_takenConds_none (k : PointCond) : qualityBits (takenConds none (sourceWrote s k).conds) false = 1 :=
  qualityBits_clear fun _ hlow hhigh => hasCond_takenConds k hlow hhigh (fun _ => nofun)

/-- A clamped sample is valid (R116). -/
theorem validOf_takenConds_low (k : PointCond) : validOf (takenConds (some condLow) (sourceWrote s k).conds) false = true := by
  have apart : ∀ d ∈ [condInitial, condTimeout, condOpenWire, condShort, condOverload, condMemory],
      1 ≤ d ∧ d ≤ 14 ∧ condLow ≠ d := by decide
  have hnone : anyCond (takenConds (some condLow) (sourceWrote s k).conds)
      [condInitial, condTimeout, condOpenWire, condShort, condOverload, condMemory] = false := by
    refine List.any_eq_false.2 fun d hd => ?_
    obtain ⟨hlow, hhigh, hne⟩ := apart d hd
    rw [hasCond_takenConds k hlow hhigh (by rintro r ⟨⟩; exact .inl rfl)]
    simpa using hne
  rw [validOf, hnone]
  rfl

/-! ### An uncorrectable error -/

/-- A point that an uncorrectable error has hit reads 0 and has the condition MEMORY (R123). -/
theorem livePoint_memoryPoint (entry : Bool) (hlisted : pointCfg s i ≠ none) (wf : WellKept s) :
    ∃ m rejected, hasCond m condMemory = true ∧
      livePoint (memoryPoint i entry s) i = { livePoint s i with value := 0, quality := qualityBits m rejected } := by
  have hsome : ¬(pointCfg s i).isNone = true := by simpa using hlisted
  refine ⟨putCond (pointCond s i).conds condMemory true, (pointCond s i).rejected, by simp, ?_⟩
  rw [memoryPoint, if_neg hsome, livePoint_emit, livePoint_setF, livePoint_bumpF, livePoint_putPoint_same _ _ _ wf]

theorem memoryPoint_onlyPoint (entry : Bool) : OnlyPoint i s (memoryPoint i entry s) :=
  onlyPoint_ite (onlyPoint_of_pimg rfl) (onlyPoint_emit (onlyPoint_setF (onlyPoint_bumpF (onlyPoint_putPoint _ _))))

/-- MEMORY is the largest condition code, so that REASON shows it whatever else is present (R110). -/
theorem reasonOf_memory {m : Nat} (h : hasCond m condMemory = true) : reasonOf m = condMemory := by
  have hfirst : hasCond m 14 = true := h
  rw [reasonOf, List.find?_cons_of_pos hfirst]
  rfl

/-! ### Staleness -/

/-- What POINT_STALE makes of a point that is due: stale, and shown so in the snapshot. -/
def staleShown (c : PointCfg) (s : State) : State :=
  let t := markStale c s
  { t with pimg := { t.pimg with snap := tablePut {} t.pimg.snap c.index (livePoint t c.index) } }

theorem pointCfg_index (h : pointCfg s i = some c) : c.index = i := by simpa using List.find?_some h

theorem exec_pointStale_due (hlisted : pointCfg s i = some c) (hup : imageUp s = true) (hdue : timeoutDue s c = true) :
    exec (.pointStale i) s = .next (staleShown c s) := by
  show execPointStale i s = _
  simp [execPointStale, staleShown, hlisted, hup, hdue, pointCfg_index hlisted]

/-- A point that is not due, or unknown, is left alone. -/
theorem exec_pointStale_idle (h : ∀ c, pointCfg s i = some c → imageUp s = false ∨ timeoutDue s c = false) :
    exec (.pointStale i) s = .next s := by
  show execPointStale i s = _
  cases hlisted : pointCfg s i with
  | none => simp [execPointStale, hlisted]
  | some c =>
    have hidle : (imageUp s && timeoutDue s c) = false := Bool.and_eq_false_iff.2 (h c hlisted)
    simp [execPointStale, hlisted, hidle]

/-- The point's conditioning state once its timeout has expired (R119). -/
def staleCond (k : PointCond) : PointCond := forgetHistory { k with conds := putCond k.conds condTimeout true }

theorem markStale_pimg (c : PointCfg) (s : State) : (markStale c s).pimg =
    (putPoint c.index (livePoint s c.index) (staleCond (pointCond s c.index)) s).pimg := emit_pimg ..

theorem livePoint_markStale_same (c : PointCfg) (wf : WellKept s) : livePoint (markStale c s) c.index =
    { livePoint s c.index with quality := qualityBits (staleCond (pointCond s c.index)).conds (pointCond s c.index).rejected } :=
  (livePoint_congr (markStale_pimg c s) c.index).trans (livePoint_putPoint_same _ _ _ wf)

/-- A stale point keeps VALUE and STAMP, is not valid, and has lost its filter's history; the snapshot shows the same (R119). -/
theorem staleShown_outcome (c : PointCfg) (wf : WellKept s) :
    (livePoint (staleShown c s) c.index).value = (livePoint s c.index).value ∧
    (livePoint (staleShown c s) c.index).stamp = (livePoint s c.index).stamp ∧
    pointValid (livePoint (staleShown c s) c.index) = false ∧ (livePoint (staleShown c s) c.index).quality / 16 % 2 = 1 ∧
    (pointCond (staleShown c s) c.index).filt = [] ∧ snapPoint (staleShown c s) c.index = livePoint (staleShown c s) c.index := by
  have hlive : livePoint (staleShown c s) c.index = livePoint (markStale c s) c.index := rfl
  have hcond : pointCond (staleShown c s) c.index = staleCond (pointCond s c.index) :=
    (pointCond_congr (markStale_pimg c s) c.index).trans (pointCond_putPoint_same _ _ _ wf)
  have htimeout : hasCond (staleCond (pointCond s c.index)).conds condTimeout = true := by simp [staleCond, forgetHistory]
  have hsnap : tableWf {} (markStale c s).pimg.snap = true := ((markStale_moves c s).form wf).snap
  rw [hlive, hcond, livePoint_markStale_same c wf]
  refine ⟨rfl, rfl, (pointValid_eq rfl).trans (validOf_hasCond _ htimeout (by simp)), ?_, rfl, ?_⟩
  · exact (qualityBits_stale _ _).trans (congrArg ofBool htimeout)
  · rw [← livePoint_markStale_same c wf]
    exact tableGet_put_same _ _ _ _ ((tableWf_iff _ _).1 hsnap).1

/-- Every other point is as it was, in the live image and in the snapshot. -/
theorem staleShown_other (c : PointCfg) {j : Nat} (hj : j ≠ c.index) :
    livePoint (staleShown c s) j = livePoint s j ∧ snapPoint (staleShown c s) j = snapPoint s j := by
  have hlive : livePoint (staleShown c s) j = livePoint (markStale c s) j := rfl
  have hsnap : (markStale c s).pimg.snap = s.pimg.snap := (congrArg PimgPart.snap (markStale_pimg c s)).trans rfl
  rw [hlive, livePoint_congr (markStale_pimg c s), livePoint_putPoint_other _ _ hj]
  refine ⟨rfl, ?_⟩
  rw [snapPoint, snapPoint, ← hsnap]
  exact tableGet_put_other _ _ _ _ _ _ hj.symm

end Sys2Proof.Machine
end

section
/-! The statements about samples and about stale points. -/

namespace Sys2Proof.Certificates

open Sys2Proof Sys2Proof.Machine

/-- Settles O28, by what PIMG makes of the write: conditioned, refused, dropped, kept, or the point marked by an error that PIMG
itself has read (log entry 131). -/
theorem samplesAreConditioned : Obligations.SamplesAreConditioned := by
  refine ⟨fun unit i x stamp s wf hup hhealthy hearly => ⟨fun c hlisted hown hsound => ?_, fun hother => ?_⟩,
    fun unit i x stamp s hup => ⟨fun hfaulted => ?_, fun hhealthy hcurtain => ?_⟩,
    fun unit i x stamp addr entry s wf hup hlisted => ?_⟩
  · have htaken := sampleIn_taken ⟨hup, hhealthy, hearly, hlisted, hown, hsound⟩ x stamp
    have honly : OnlyPoint i s (sampleIn unit i x stamp s) :=
      sampleIn_taken_onlyPoint ⟨hup, hhealthy, hearly, hlisted, hown, hsound⟩ x stamp
    refine ⟨fun htyp hinf => ?_, fun hfinite hbool haction hrate hfilter => ?_, fun htyp haction hlow hrate hfilter => ?_⟩
    · obtain ⟨reason, hreject⟩ := conditionSample_notFinite (s := s) (unit := unit) (i := i) htyp hinf stamp
      rw [if_neg (by simp [htyp]), hreject] at htaken
      obtain ⟨m, hpoint⟩ := livePoint_rejectSample (i := i) reason x (sourceWrote s (pointCond s i)) wf
      rw [← htaken] at hpoint
      refine ⟨_, rfl, by rw [hpoint], by rw [hpoint], ?_, ?_, honly.live, honly.snap⟩
      · rw [pointValid_eq (congrArg PointVal.quality hpoint), validOf_rejected]
      · rw [htaken, rejectSample_count _ _ _ wf]
    · rw [if_neg (by simpa using hbool), conditionSample_plain hfinite haction hrate hfilter] at htaken
      refine ⟨_, rfl, ?_, honly.live, honly.snap, ?_⟩
      · rw [htaken, livePoint_putPoint_same _ _ _ wf]
        exact congrArg (fun q : Nat => PointVal.mk x unit c.typ q stamp) (qualityBits_takenConds_none _)
      · rw [htaken]
        exact onlyParts_of_moves s _ (putPoint_moves ..) rfl
    · rw [if_neg (by simp [htyp]), conditionSample_clampedLow htyp haction hlow hrate hfilter] at htaken
      refine ⟨_, rfl, ?_, ?_, ?_, honly.live, honly.snap⟩
      · rw [htaken, livePoint_bumpF, livePoint_putPoint_same _ _ _ wf]
      · rw [htaken, getF_bumpF_same _ _ _ rfl (by exact wf.regs), getF_putPoint]
      · rw [htaken, livePoint_bumpF, livePoint_putPoint_same _ _ _ wf]
        exact (pointValid_eq rfl).trans (validOf_takenConds_low _)
  · obtain ⟨hcount, hparts, -⟩ := counted_emit_bumpF s F.PIMG.WRITE_REFUSED_COUNT 0x0403 i unit 0 rfl wf.regs
    refine ⟨_, congrArg Host.Outcome.next (sampleIn_refused hup hhealthy hearly hother x stamp), emit_pimg .., hcount, hparts⟩
  · exact congrArg Host.Outcome.next (sampleIn_faulted hfaulted x stamp)
  · exact ⟨_, congrArg Host.Outcome.next (sampleIn_held hup hhealthy hcurtain x stamp), rfl,
      onlyParts_of_moves s _ (holdSample_moves ..) rfl⟩
  · have hmoves := noteUe_moves 0 addr (some 4) s
    have hpimg : (noteUe 0 addr (some 4) s).pimg = s.pimg := hmoves.frame .pimg rfl
    rw [← pointCfg_congr (hmoves.frame .cfg rfl)] at hlisted
    obtain ⟨m, rejected, hmemory, hpoint⟩ := livePoint_memoryPoint entry hlisted (hmoves.form wf)
    have honly := onlyPoint_trans (onlyPoint_of_pimg hpimg) (memoryPoint_onlyPoint (i := i) entry)
    refine ⟨_, congrArg Host.Outcome.next (if_pos hup), by rw [hpoint], ?_, ?_, honly.live, honly.snap⟩
    · rw [pointValid_eq (congrArg PointVal.quality hpoint), validOf_hasCond _ hmemory (by simp)]
    · rw [hpoint]
      exact (qualityBits_reason m rejected).trans (reasonOf_memory hmemory)

/-- Settles O29: a point that is due goes stale in both images, and any other stays. -/
theorem stalePointsKeepTheirValue : Obligations.StalePointsKeepTheirValue := by
  refine fun i s wf => ⟨fun c hlisted hup hdue => ?_, exec_pointStale_idle⟩
  obtain rfl := pointCfg_index hlisted
  have hexec := exec_pointStale_due hlisted hup hdue
  obtain ⟨hvalue, hstamp, hvalid, hstale, hfilt, hsnap⟩ := staleShown_outcome c wf
  exact ⟨_, hexec, hvalue, hstamp, hvalid, hstale, hfilt, hsnap, fun j hj => staleShown_other c hj,
    onlyParts_of_moves s _ (execPointStale_moves _ s _ hexec) rfl⟩

end Sys2Proof.Certificates
end

section
/-! SUPPORT. What a front end's fault and its end do to the channel's bit, to LIO and to the channel's point (R121, R128 to
R137). -/

namespace Sys2Proof.Machine

open Sys2Proof

variable {s t : State} {f : Field} {bit n code raw i : Nat} {b : Bool} {c : PointCfg}

/-! ### A channel's fault bit -/

theorem bitF_congr (h : getF t f = getF s f) (i : Nat) : bitF t f i = bitF s f i := by rw [bitF, bitF, h]

@[simp] theorem bitF_emit (code w1 w2 w3 : Nat) (f : Field) (i : Nat) : bitF (emit code w1 w2 w3 s) f i = bitF s f i :=
  bitF_congr (getF_emit ..) i

@[simp] theorem emit_lio (code w1 w2 w3 : Nat) : (emit code w1 w2 w3 s).lio = s.lio := (emit_moves ..).frame .lio rfl

/-- LIO has noted the reason of a channel's fault. -/
def withReason (n code : Nat) (s : State) : State := { s with lio := { s.lio with reason := tablePut 0 s.lio.reason n code } }

theorem channelFault_eq (f : Field) (bit n code raw : Nat) (s : State) : channelFault f bit n code raw s =
    if bitF s f bit && tableGet 0 s.lio.reason n == code then s
    else emit 0x0501 n code raw (setBit f bit true (withReason n code s)) := rfl

theorem channelClear_eq (f : Field) (bit n : Nat) (s : State) : channelClear f bit n s =
    if bitF s f bit then emit 0x0502 n (tableGet 0 s.lio.reason n) 0 (setBit f bit false (withReason n 0 s)) else s := rfl

/-- From `s` to `t` a channel's fault bit has been written, LIO may have noted a reason and CONT been handed a record, and nothing
else has changed. -/
structure ChannelNoted (f : Field) (bit : Nat) (b : Bool) (s t : State) : Prop where
  shown : bitF t f bit = b
  fields : OnlyFields [f] s t
  lio : ∃ reason, t.lio = { s.lio with reason := reason }
  moves : Moves 0x200042 s t

theorem channelNoted_unchanged (h : bitF s f bit = b) : ChannelNoted f bit b s s :=
  ⟨h, onlyFields_refl, ⟨_, rfl⟩, moves_refl⟩

theorem channelNoted_fault (hbit : bit < f.width) (hregs : keysRise s.regs = true) :
    ChannelNoted f bit true s (channelFault f bit n code raw s) := by
  have hmoves := channelFault_moves f bit n code raw s
  rw [channelFault_eq] at hmoves ⊢
  split at hmoves
  case isTrue hsame =>
    rw [if_pos hsame]
    exact channelNoted_unchanged (Bool.and_eq_true_iff.1 hsame).1
  case isFalse hnew =>
    rw [if_neg hnew]
    refine ⟨?_, onlyFields_emit (onlyFields_setF (List.mem_singleton_self f) onlyFields_refl), ⟨_, emit_lio ..⟩, hmoves⟩
    rw [bitF_emit]
    exact (bitF_setBit (withReason n code s) f bit bit true hbit hregs).trans (if_pos rfl)

theorem channelNoted_clear (hbit : bit < f.width) (hregs : keysRise s.regs = true) :
    ChannelNoted f bit false s (channelClear f bit n s) := by
  have hmoves := channelClear_moves f bit n s
  rw [channelClear_eq] at hmoves ⊢
  split at hmoves
  case isTrue hset =>
    rw [if_pos hset]
    refine ⟨?_, onlyFields_emit (onlyFields_setF (List.mem_singleton_self f) onlyFields_refl), ⟨_, emit_lio ..⟩, hmoves⟩
    rw [bitF_emit]
    exact (bitF_setBit (withReason n 0 s) f bit bit false hbit hregs).trans (if_pos rfl)
  case isFalse hclear =>
    rw [if_neg hclear]
    exact channelNoted_unchanged (Bool.not_eq_true _ ▸ hclear)

/-- A fault that does not stand yet is recorded with its reason (R136). -/
theorem channelFault_new (h : bitF s f bit = false) : channelFault f bit n code raw s =
    emit 0x0501 n code raw (setBit f bit true (withReason n code s)) := by
  simp [channelFault_eq, h]

/-! ### A channel's point -/

/-- The register fields that a wired channel's way to its point reads or counts in: the role, PIMG's gates and PIMG's counters. -/
def frontGates : List Field := F.SPOT.STATUS_ROLE :: (writeGates ++ sampleCounters)

/-- A channel's fault bit is none of those fields. -/
def FrontBit (f : Field) : Prop := ∀ g ∈ frontGates, fieldKey f ≠ fieldKey g

theorem ChannelNoted.getF_gate (h : ChannelNoted f bit b s t) (hf : FrontBit f) {g : Field} (hg : g ∈ frontGates) :
    getF t g = getF s g :=
  h.fields g fun f' hf' => by rw [List.mem_singleton.1 hf']; exact hf g hg

theorem ChannelNoted.role_eq (h : ChannelNoted f bit b s t) (hf : FrontBit f) : role t = role s :=
  h.getF_gate hf (by simp [frontGates])

theorem ChannelNoted.takesWrite (h : ChannelNoted f bit b s t) (hf : FrontBit f) (htakes : TakesWrite 5 i c s) :
    TakesWrite 5 i c t :=
  htakes.congr (fun _ hg => h.getF_gate hf (by simp [frontGates, hg])) (h.moves.frame .dev rfl) (h.moves.frame .tick rfl)
    (h.moves.frame .pimg rfl) (h.moves.frame .cfg rfl)

theorem keepWired_takesWrite (reason : Nat) (v : Word) (stamp : Nat) (htakes : TakesWrite 5 i c s) :
    TakesWrite 5 i c (keepWired n reason v stamp s) :=
  have hmoves := keepWired_moves n reason v stamp s
  htakes.congr (fun g _ => getF_congr s _ g (keepWired_regs ..)) (hmoves.frame .dev rfl) (hmoves.frame .tick rfl)
    (hmoves.frame .pimg rfl) (hmoves.frame .cfg rfl)

/-- From `s` to `t` a channel has reported a fault: its bit is set and its point holds its value without VALID. -/
structure ChannelFaulted (f : Field) (bit i : Nat) (s t : State) : Prop where
  shown : bitF t f bit = true
  invalid : pointValid (livePoint t i) = false
  value : (livePoint t i).value = (livePoint s i).value
  only : OnlyPoint i s t
  lio : ∃ reason, t.lio = { s.lio with reason := reason }

/-- From `s` to `t` a channel has brought a sample: its bit is clear. -/
structure ChannelSampled (f : Field) (bit i : Nat) (s t : State) : Prop where
  shown : bitF t f bit = false
  only : OnlyPoint i s t
  lio : ∃ reason, t.lio = { s.lio with reason := reason }

theorem channelFaulted (hf : FrontBit f) (hbit : bit < f.width) (wf : WellKept s) (hrole : role s ≠ 2)
    (htakes : TakesWrite 5 i c s) (hcode : code ∈ [condOpenWire, condShort, condOverload]) :
    ChannelFaulted f bit i s (wiredFault n i code (channelFault f bit n code raw s)) := by
  have hnoted : ChannelNoted f bit true s (channelFault f bit n code raw s) := channelNoted_fault hbit wf.regs
  generalize channelFault f bit n code raw s = t at hnoted
  have hkeep := keepWired_moves n code 0 (nowStamp t) t
  have hpimg : (keepWired n code 0 (nowStamp t) t).pimg = s.pimg := (hkeep.frame .pimg rfl).trans (hnoted.moves.frame .pimg rfl)
  have hlio : (keepWired n code 0 (nowStamp t) t).lio = t.lio := hkeep.frame .lio rfl
  obtain ⟨k, hcond, hput⟩ :=
    frontFault_taken (keepWired_takesWrite (n := n) code 0 (nowStamp t) (hnoted.takesWrite hf htakes)) code
  have hpoint := livePoint_putPoint_same i (livePoint (keepWired n code 0 (nowStamp t) t) i) k
    (hkeep.form (hnoted.moves.form wf))
  rw [wiredFault, if_neg (by rw [hnoted.role_eq hf]; exact hrole), hput]
  refine ⟨?_, ?_, ?_, onlyPoint_trans (onlyPoint_of_pimg hpimg) (onlyPoint_putPoint _ _), ?_⟩
  · exact (bitF_congr (getF_congr t _ f (keepWired_regs ..)) bit).trans hnoted.shown
  · rw [hpoint]
    refine (pointValid_eq rfl).trans (validOf_hasCond _ hcond ?_)
    simp only [List.mem_cons, List.not_mem_nil, or_false] at hcode ⊢
    tauto
  · rw [hpoint, livePoint_congr hpimg]
  · rw [putPoint_lio, hlio]
    exact hnoted.lio

theorem channelSampled (hf : FrontBit f) (hbit : bit < f.width) (wf : WellKept s) (hrole : role s ≠ 2)
    (htakes : TakesWrite 5 i c s) (v : Word) (stamp : Nat) :
    ChannelSampled f bit i s (wiredSample n i v stamp (channelClear f bit n s)) := by
  have hnoted : ChannelNoted f bit false s (channelClear f bit n s) := channelNoted_clear hbit wf.regs
  generalize channelClear f bit n s = t at hnoted
  have hkeep := keepWired_moves n 0 v stamp t
  have hpimg : (keepWired n 0 v stamp t).pimg = s.pimg := (hkeep.frame .pimg rfl).trans (hnoted.moves.frame .pimg rfl)
  have hlio : (wiredSample n i v stamp t).lio = t.lio := (wiredSample_moves n i v stamp t).frame .lio rfl
  have htakes' := keepWired_takesWrite (n := n) 0 v stamp (hnoted.takesWrite hf htakes)
  have hfield : getF (wiredSample n i v stamp t) f = getF t f :=
    wiredSample_onlyFields n i v stamp t f fun g hg => (hf g (by simp [frontGates, hg])).symm
  refine ⟨(bitF_congr hfield bit).trans hnoted.shown, ?_, hlio ▸ hnoted.lio⟩
  rw [wiredSample, if_neg (by rw [hnoted.role_eq hf]; exact hrole)]
  exact onlyPoint_trans (onlyPoint_of_pimg hpimg) (sampleIn_taken_onlyPoint htakes' v stamp)

end Sys2Proof.Machine
end

section
/-! SUPPORT. What the analog and RTD inputs' commands do, input by input (R128, R129, R131). -/

namespace Sys2Proof.Machine

open Sys2Proof

variable {s u : State} {c d k code n : Nat} {p : PointCfg}

/-! ### One channel of many -/

/-- A pass over the channels below `n` in which `c` alone is in use is the step of channel `c`. -/
theorem foldl_range_one {f : State → Nat → State} (hc : c < n) (hbefore : ∀ j < n, j ≠ c → f s j = s) (hc' : f s c = u)
    (hafter : ∀ j < n, j ≠ c → f u j = u) : (List.range n).foldl f s = u := by
  have idle : ∀ m ≤ c, (List.range m).foldl f s = s := by
    intro m
    induction m with
    | zero => exact fun _ => rfl
    | succ m ih =>
      intro hm
      rw [List.range_succ, List.foldl_append, ih (by omega)]
      exact hbefore m (by omega) (by omega)
  induction n with
  | zero => omega
  | succ n ih =>
    rw [List.range_succ, List.foldl_append]
    rcases Nat.lt_succ_iff_lt_or_eq.1 hc with hlt | rfl
    · rw [ih hlt (fun j hj => hbefore j (by omega)) fun j hj => hafter j (by omega)]
      exact hafter n (by omega) (by omega)
    · rw [idle c le_rfl]
      exact hc'

theorem lioCh_congr (h : u.cfg = s.cfg) (n : Nat) : lioCh u n = lioCh s n := by rw [lioCh, lioCh, h]

/-! ### Analog inputs -/

theorem analogSample_unused (raw : F64) (h : (lioCh s c).mode = 0) : analogSample c raw s = s := if_pos h

theorem frontBit_aiFault : FrontBit F.LIO.AI_FAULT := by
  unfold FrontBit
  decide

theorem analogSample_faulted {raw : F64} (hc : c < 32) (hmode : (lioCh s c).mode ≠ 0)
    (hover : overload (lioCh s c).mode (tableGet none s.lio.shuntOpen c).isSome raw = true) (wf : WellKept s) (hrole : role s ≠ 2)
    (htakes : TakesWrite 5 (lioCh s c).point p s) :
    ChannelFaulted F.LIO.AI_FAULT c (lioCh s c).point s (analogSample c raw s) := by
  have heq : analogSample c raw s =
      wiredFault c (lioCh s c).point condOverload (channelFault F.LIO.AI_FAULT c c condOverload (f64to32 raw).toNat s) := by
    simp [analogSample, hmode, hover]
  rw [heq]
  exact channelFaulted frontBit_aiFault hc wf hrole htakes (by decide)

theorem analogSample_sampled {raw : F64} (hc : c < 32) (hmode : (lioCh s c).mode ≠ 0)
    (hover : overload (lioCh s c).mode (tableGet none s.lio.shuntOpen c).isSome raw = false) (wf : WellKept s) (hrole : role s ≠ 2)
    (htakes : TakesWrite 5 (lioCh s c).point p s) :
    ChannelSampled F.LIO.AI_FAULT c (lioCh s c).point s (analogSample c raw s) := by
  have heq : analogSample c raw s = wiredSample c (lioCh s c).point (engineering (lioCh s c) raw) (stampAt s (analogInstant s))
      (channelClear F.LIO.AI_FAULT c c s) := by
    simp [analogSample, hmode, hover]
  rw [heq]
  exact channelSampled frontBit_aiFault hc wf hrole htakes _ _

theorem overload_iff (mode : Nat) (shunt : Option Nat) (raw : F64) : overload mode shunt.isSome raw = true ↔
    if mode = 1 then f64Lt (f64OfRatio 21 2) (f64Abs raw) = true else (shunt ≠ none ∨ f64Lt (f64OfInt 22) raw = true) := by
  rw [overload]
  split
  · rfl
  · rw [Bool.or_eq_true, Option.isSome_iff_ne_none]

/-- With one analog input in use, the samples of a tick are that input's, at cycle 42,500. -/
theorem exec_analogInputSample_one (raws : List F64) (hruns : lioRuns s = true) (hc : c < 32)
    (hunused : ∀ j, j < 32 → j ≠ c → (lioCh s j).mode = 0) :
    exec (.analogInputSample raws) s = .next (analogSample c (raws.getD c 0) (elapseTo 42500 s)) := by
  refine congrArg Host.Outcome.next ((if_pos hruns).trans (foldl_range_one hc (fun j hj hne => ?_) rfl fun j hj hne => ?_))
  · exact analogSample_unused _ (hunused j hj hne)
  · have hcfg := (analogSample_moves c (raws.getD c 0) (elapseTo 42500 s)).frame .cfg rfl
    exact analogSample_unused _ ((congrArg LioChannel.mode (lioCh_congr hcfg j)).trans (hunused j hj hne))

theorem exec_shuntOpen (hc : c < 32) (hmode : (lioCh s c).mode = 2) (hclosed : tableGet none s.lio.shuntOpen c = none) :
    exec (.shuntOpen c) s =
      .next { s with lio := { s.lio with shuntOpen := tablePut none s.lio.shuntOpen c (some s.tick.number) } } :=
  congrArg Host.Outcome.next (if_pos (by simp [hc, hmode, hclosed]))

theorem exec_shuntReclose (hopen : tableGet none s.lio.shuntOpen c = some n) : exec (.shuntReclose c) s =
    .next (if n + 1000 ≤ s.tick.number then
      { s with lio := { s.lio with shuntOpen := tablePut none s.lio.shuntOpen c none } } else s) := by
  show execShuntReclose c s = _
  rw [execShuntReclose, hopen]

/-- An update of LIO leaves every other part. -/
theorem onlyParts_lio (x : LioPart) : OnlyParts [.lio] s { s with lio := x } := by
  intro q hq
  cases q
  case lio => exact absurd (List.mem_singleton_self _) hq
  all_goals rfl

/-! ### RTD inputs -/

/-- The field of an RTD input's fault bit. -/
def rtdField (k : Nat) : Field := if k < 32 then F.LIO.RTD_FAULT_LO else F.LIO.RTD_FAULT_HI

theorem frontBit_rtdField (k : Nat) : FrontBit (rtdField k) := by
  unfold rtdField FrontBit
  split
  · decide
  · decide

theorem mod_lt_rtdField (k : Nat) : k % 32 < (rtdField k).width := by
  unfold rtdField
  split
  · exact Nat.mod_lt k (by decide)
  · exact Nat.mod_lt k (by decide)

/-- The reason of the fault that a resistance or a broken lead gives, none within the range of the mode (R131). -/
def rtdReason (mode : Nat) (ohms : F64) (broken : Bool) : Option Nat :=
  if broken || f64Lt (f64OfInt (4 * rtdNominal mode)) ohms then some condOpenWire
  else if f64Lt ohms (f64OfRatio (6 * rtdNominal mode) 10) then some condShort else none

theorem rtdReason_ne_none {mode : Nat} {ohms : F64} {broken : Bool} : rtdReason mode ohms broken ≠ none ↔
    broken = true ∨ f64Lt (f64OfInt (4 * rtdNominal mode)) ohms = true ∨
      f64Lt ohms (f64OfRatio (6 * rtdNominal mode) 10) = true := by
  rw [rtdReason]
  split
  case isTrue hopen =>
    rw [Bool.or_eq_true] at hopen
    exact iff_of_true nofun (hopen.imp_right Or.inl)
  case isFalse hopen =>
    rw [Bool.or_eq_true, not_or] at hopen
    split
    case isTrue hshort => exact iff_of_true nofun (.inr (.inr hshort))
    case isFalse hshort => simp [hopen.1, hopen.2, hshort]

theorem rtdReason_code {mode : Nat} {ohms : F64} {broken : Bool} (h : rtdReason mode ohms broken = some code) :
    code ∈ [condOpenWire, condShort, condOverload] := by
  unfold rtdReason at h
  split at h
  · cases h; decide
  · split at h
    · cases h; decide
    · cases h

theorem rtdNominal_cast (mode : Nat) :
    (rtdNominal mode : Int) = if mode = 1 then 100 else if mode = 2 then 500 else 1000 := by
  unfold rtdNominal
  split
  · rfl
  · split <;> rfl

variable {ohms : F64} {broken : Bool}

theorem rtdConversion_faulted (hruns : lioRuns s = true) (hk : k < 64) (hmode : (lioCh s (48 + k)).mode ≠ 0)
    (hreason : rtdReason (lioCh s (48 + k)).mode ohms broken = some code) (wf : WellKept s) (hrole : role s ≠ 2)
    (htakes : TakesWrite 5 (lioCh s (48 + k)).point p s) : ∃ u, rtdConversion k ohms broken s = keepRtd k none true u ∧
      ChannelFaulted (rtdField k) (k % 32) (lioCh s (48 + k)).point s u := by
  have hused : ¬((!lioRuns s || decide (k ≥ 64) || decide ((lioCh s (48 + k)).mode = 0)) = true) := by simp [hruns, hk, hmode]
  refine ⟨_, ?_, channelFaulted (n := 48 + k) (raw := (f64to32 ohms).toNat) (frontBit_rtdField k) (mod_lt_rtdField k) wf hrole
    htakes (rtdReason_code hreason)⟩
  rw [rtdConversion, if_neg hused]
  unfold rtdReason at hreason
  split at hreason
  case isTrue hopen =>
    cases hreason
    exact if_pos hopen
  case isFalse hopen =>
    split at hreason
    case isTrue hshort =>
      cases hreason
      exact (if_neg hopen).trans (if_pos hshort)
    case isFalse => cases hreason

/-- A conversion as it is kept for BOT: the value, its stamp, and the middle of the input's slot. -/
def rtdSample (k : Nat) (ohms : F64) (s : State) : Word × Nat × Nat :=
  (engineering (lioCh s (48 + k)) (rtdTemperature ohms (rtdNominal (lioCh s (48 + k)).mode)), stampAt s (rtdMiddle s k),
    rtdMiddle s k)

theorem rtdConversion_sampled (hruns : lioRuns s = true) (hk : k < 64) (hmode : (lioCh s (48 + k)).mode ≠ 0)
    (hreason : rtdReason (lioCh s (48 + k)).mode ohms broken = none) (wf : WellKept s) (hrole : role s ≠ 2)
    (htakes : TakesWrite 5 (lioCh s (48 + k)).point p s) : ∃ u v, rtdConversion k ohms broken s = keepRtd k (some v) false u ∧
      ChannelSampled (rtdField k) (k % 32) (lioCh s (48 + k)).point s u := by
  have hused : ¬((!lioRuns s || decide (k ≥ 64) || decide ((lioCh s (48 + k)).mode = 0)) = true) := by simp [hruns, hk, hmode]
  refine ⟨_, rtdSample k ohms s, ?_, channelSampled (n := 48 + k) (frontBit_rtdField k) (mod_lt_rtdField k) wf hrole htakes
    (rtdSample k ohms s).1 (rtdSample k ohms s).2.1⟩
  rw [rtdConversion, if_neg hused]
  unfold rtdReason at hreason
  split at hreason
  case isTrue => cases hreason
  case isFalse hopen =>
    split at hreason
    case isTrue => cases hreason
    case isFalse hshort => exact (if_neg hopen).trans (if_neg hshort)

/-- A conversion that is kept reads back, and no other one changes. -/
theorem rtd_keepRtd (v : Option (Word × Nat × Nat)) (fault : Bool) (h : keysRise s.lio.rtd = true) :
    tableGet none (keepRtd k v fault s).lio.rtd k = v ∧
      ∀ j, j ≠ k → tableGet none (keepRtd k v fault s).lio.rtd j = tableGet none s.lio.rtd j :=
  ⟨tableGet_put_same _ _ _ _ h, fun _ hj => tableGet_put_other _ _ _ _ _ _ hj.symm⟩

end Sys2Proof.Machine
end

section
/-! The statement about analog and RTD inputs. -/

namespace Sys2Proof.Certificates

open Sys2Proof Sys2Proof.Machine

/-- Settles O30, by what the reading or the resistance means for the channel: a fault or a sample. That the samples of a tick
complete at its cycle 42,500 is log entry 1. -/
theorem analogAndRtdInputs : Obligations.AnalogAndRtdInputs := by
  refine ⟨⟨?_, fun c s hc hmode hclosed => ?_, fun c n s hrise hopen => ⟨fun hdue => ?_, fun hearly => ?_⟩⟩, ?_⟩
  · intro c raws s wf hruns hup hrole hc hhealthy hearly hunused hmode ⟨d, hlisted, hown⟩ hsound
    have helapse := elapseTo_moves 42500 s
    have wf' : WellKept (elapseTo 42500 s) := helapse.form wf
    have hlio : (elapseTo 42500 s).lio = s.lio := helapse.frame .lio rfl
    have htakes : TakesWrite 5 (lioCh s c).point d (elapseTo 42500 s) := ⟨hup, hhealthy, hearly, hlisted, hown, hsound⟩
    have htick := (analogSample_moves c (raws.getD c 0) (elapseTo 42500 s)).frame .tick rfl
    have hcycle : (analogSample c (raws.getD c 0) (elapseTo 42500 s)).tick.cycle = max s.tick.cycle 42500 := by
      rw [htick, elapseTo_tick, Nat.max_comm]
    refine ⟨_, exec_analogInputSample_one raws hruns hc hunused, ?_⟩
    cases hover : overload (lioCh s c).mode (tableGet none s.lio.shuntOpen c).isSome (raws.getD c 0) with
    | true =>
      obtain ⟨hshown, hinvalid, hvalue, honly, reason, hlio'⟩ :=
        analogSample_faulted (s := elapseTo 42500 s) hc hmode hover wf' hrole htakes
      rw [← overload_iff, hover, hshown, hlio', hlio]
      exact ⟨Iff.rfl, fun _ => ⟨hinvalid, hvalue⟩, honly.live, hcycle, rfl, rfl⟩
    | false =>
      obtain ⟨hshown, honly, reason, hlio'⟩ :=
        analogSample_sampled (s := elapseTo 42500 s) hc hmode hover wf' hrole htakes
      rw [← overload_iff, hover, hshown, hlio', hlio]
      exact ⟨Iff.rfl, nofun, honly.live, hcycle, rfl, rfl⟩
  · exact ⟨_, exec_shuntOpen hc hmode hclosed, by simp [tablePut, tableGet_insert_same], onlyParts_lio _⟩
  · exact ⟨_, (exec_shuntReclose hopen).trans (congrArg Host.Outcome.next (if_pos hdue)),
      tableGet_put_same none s.lio.shuntOpen c none hrise, onlyParts_lio _⟩
  · exact (exec_shuntReclose hopen).trans (congrArg Host.Outcome.next (if_neg (by omega)))
  · intro k ohms broken s wf hruns hup hrole hk hhealthy hearly hmode ⟨d, hlisted, hown⟩ hsound hrise r bit
    have htakes : TakesWrite 5 (lioCh s (48 + k)).point d s := ⟨hup, hhealthy, hearly, hlisted, hown, hsound⟩
    have hr : r = (rtdNominal (lioCh s (48 + k)).mode : Int) := (rtdNominal_cast _).symm
    rw [hr, ← rtdReason_ne_none]
    refine ⟨rtdConversion k ohms broken s, rfl, ?_⟩
    cases hreason : rtdReason (lioCh s (48 + k)).mode ohms broken with
    | some code =>
      obtain ⟨u, hconversion, hshown, hinvalid, hvalue, honly, reason, hlio⟩ :=
        rtdConversion_faulted hruns hk hmode hreason wf hrole htakes
      obtain ⟨hkept, hothers⟩ := rtd_keepRtd (k := k) none true (by rw [hlio]; exact hrise)
      rw [hconversion]
      refine ⟨iff_of_true hshown nofun, fun _ => ⟨hinvalid, hkept, hvalue⟩, fun hclear => ?_, fun j hj => ?_, ?_⟩
      · exact absurd (hshown.symm.trans hclear) nofun
      · rw [hothers j hj, hlio]
      · rw [keepRtd, hlio]
    | none =>
      obtain ⟨u, v, hconversion, hshown, honly, reason, hlio⟩ := rtdConversion_sampled hruns hk hmode hreason wf hrole htakes
      have hclear : ¬bit (keepRtd k (some v) false u) = true := fun hset => absurd (hshown.symm.trans hset) nofun
      obtain ⟨hkept, hothers⟩ := rtd_keepRtd (k := k) (some v) false (by rw [hlio]; exact hrise)
      rw [hconversion]
      refine ⟨iff_of_false hclear (by simp), fun hset => absurd hset hclear, fun _ => by rw [hkept]; nofun, fun j hj => ?_, ?_⟩
      · rw [hothers j hj, hlio]
      · rw [keepRtd, hlio]

end Sys2Proof.Certificates
end

section
/-! SUPPORT. What the digital and pulse inputs' commands do (R132, R133). -/

namespace Sys2Proof.Machine

open Sys2Proof

variable {s : State} {c j : Nat} {level : Bool}

/-! ### Digital inputs -/

theorem frontBit_diField (c : Nat) : FrontBit (diField c) := by
  unfold diField FrontBit
  split
  · decide
  · decide

/-- The channels of DI_STATE: the bit that is written, and every other one. -/
theorem bitF_setBit_diField (hj : j < 64) (hc : c < 64) (h : keysRise s.regs = true) :
    bitF (setBit (diField c) (c % 32) level s) (diField j) (j % 32) = if j = c then level else bitF s (diField j) (j % 32) := by
  by_cases hhalf : (j < 32 ↔ c < 32)
  · have hfield : diField j = diField c := by simp only [diField, hhalf]
    have hwidth : j % 32 < (diField c).width := by
      unfold diField
      split <;> exact Nat.mod_lt j (by decide)
    have hchannel : j % 32 = c % 32 ↔ j = c := by omega
    rw [hfield, bitF_setBit s _ _ _ _ hwidth h]
    simp only [hchannel]
  · have hkey : fieldKey (diField c) ≠ fieldKey (diField j) := by
      unfold diField
      by_cases hc' : c < 32
      · rw [if_pos hc', if_neg (by omega)]
        decide
      · rw [if_neg hc', if_pos (by omega)]
        decide
    rw [bitF_congr (getF_setBit_other s _ _ _ _ hkey), if_neg (by omega)]

/-- The qualifying instant less DEBOUNCE_US, where Local runs (R132). -/
def qualifiedAt (c : Nat) (s : State) : Option Nat :=
  if flag s F.CLAP.STATUS_LOCAL_RUNNING then some (nowNs s 1 - (lioCh s (112 + c)).debounceUs * 1000) else none

/-- A digital input's debounced level is noted with its qualifying instant, -/
def levelNoted (c : Nat) (level : Bool) (s : State) : State :=
  setBit (diField c) (c % 32) level { s with lio := { s.lio with diSince := tablePut none s.lio.diSince c (qualifiedAt c s) } }

/-- and, with LIO running, written to the input's point. -/
def levelChanged (c : Nat) (level : Bool) (s : State) : State :=
  if lioRuns s then writeDigital c (levelNoted c level s) else levelNoted c level s

theorem exec_digitalInputChange (hruns : unitRuns s 5 = true) (hc : c < 64) (hmode : (lioCh s (112 + c)).mode = 1)
    (hnew : bitF s (diField c) (c % 32) ≠ level) : exec (.digitalInputChange c level) s = .next (levelChanged c level s) :=
  congrArg Host.Outcome.next (if_pos (by simp [hruns, hc, hmode, hnew]))

theorem exec_digitalInputChange_same (hsame : bitF s (diField c) (c % 32) = level) :
    exec (.digitalInputChange c level) s = .next s :=
  congrArg Host.Outcome.next (if_neg (by simp [hsame]))

/-- The way to the point leaves DI_STATE as it is. -/
theorem bitF_levelChanged : bitF (levelChanged c level s) (diField j) (j % 32) =
    bitF (levelNoted c level s) (diField j) (j % 32) := by
  unfold levelChanged
  split
  · refine bitF_congr (wiredSample_onlyFields _ _ _ _ _ _ fun g hg => ?_) _
    exact (frontBit_diField j g (by simp [frontGates, hg])).symm
  · rfl

theorem levelChanged_lio : (levelChanged c level s).lio = (levelNoted c level s).lio := by
  unfold levelChanged
  split
  · exact (wiredSample_moves ..).frame .lio rfl
  · rfl

/-! ### Pulse inputs -/

theorem exec_pulseEdge (hruns : unitRuns s 5 = true) (hc : c < 32) (hmode : (lioCh s (176 + c)).mode = 1) :
    exec (.pulseEdge c) s = .next (setF (F.LIO.PULSE_COUNT c) (getF s (F.LIO.PULSE_COUNT c) + 1) s) :=
  congrArg Host.Outcome.next (if_pos (by simp [hruns, hc, hmode]))

theorem exec_pulseEdge_disabled (hmode : (lioCh s (176 + c)).mode ≠ 1) : exec (.pulseEdge c) s = .next s :=
  congrArg Host.Outcome.next (if_neg (by simp [hmode]))

theorem pulseTransfer_unused (h : (lioCh s (176 + c)).mode = 0) : pulseTransfer c s = s := if_pos h

/-- LIO's part after a transfer of channel `c`: the count, and the Local count and the tick of the transfer. -/
def transferNoted (c : Nat) (s : State) (x : LioPart) : LioPart :=
  { x with
    pulseLast := tablePut 0 x.pulseLast c (getF s (F.LIO.PULSE_COUNT c))
    pulseNs := tablePut 0 x.pulseNs c (nowNs s 1)
    pulseTick := tablePut 0 x.pulseTick c s.tick.number }

theorem pulseTransfer_lio (hmode : (lioCh s (176 + c)).mode ≠ 0) : (pulseTransfer c s).lio = transferNoted c s s.lio := by
  rw [pulseTransfer, if_neg hmode]
  extract_lets count delta p stalled long s1 s2
  have h1 : s1.lio = s.lio := (wiredSample_moves ..).frame .lio rfl
  have h2 : s2.lio = s1.lio := by
    simp only [s2]
    split
    · exact (crossingStall_moves ..).frame .lio rfl
    · rfl
  exact congrArg (transferNoted c s) (h2.trans h1)

/-- With one pulse input in use, the transfer at T is that input's. -/
theorem exec_pulseTransfer_one (hruns : lioRuns s = true) (hc : c < 32)
    (hunused : ∀ j, j < 32 → j ≠ c → (lioCh s (176 + j)).mode = 0) : exec .pulseTransfer s = .next (pulseTransfer c s) := by
  have hcfg := (pulseTransfer_moves c s).frame .cfg rfl
  refine congrArg Host.Outcome.next ((if_pos hruns).trans
    (foldl_range_one (f := fun t j => pulseTransfer j t) hc (fun j hj hne => ?_) rfl fun j hj hne => ?_))
  · exact pulseTransfer_unused (hunused j hj hne)
  · exact pulseTransfer_unused ((congrArg LioChannel.mode (lioCh_congr hcfg _)).trans (hunused j hj hne))

end Sys2Proof.Machine
end

section
/-! The statement about digital and pulse inputs. -/

namespace Sys2Proof.Certificates

open Sys2Proof Sys2Proof.Machine

/-- Settles O31, input by input: the channel's bit of DI_STATE, the channel's count, and the transfer of the one count in use. -/
theorem digitalAndPulseInputs : Obligations.DigitalAndPulseInputs := by
  refine ⟨fun c level s wf hruns hc hmode => ⟨fun hnew hrise => ?_, exec_digitalInputChange_same⟩,
    fun c s wf hruns hc => ⟨fun hmode => ?_, exec_pulseEdge_disabled⟩, fun c s hruns hc hlast htick hunused hmode => ?_⟩
  · have hbits {j : Nat} (hj : j < 64) : bitF (levelChanged c level s) (diField j) (j % 32) =
        if j = c then level else bitF s (diField j) (j % 32) :=
      bitF_levelChanged.trans (bitF_setBit_diField hj hc wf.regs)
    refine ⟨_, exec_digitalInputChange hruns hc hmode hnew, (hbits hc).trans (if_pos rfl),
      fun j hj hne => (hbits hj).trans (if_neg hne), ?_⟩
    rw [levelChanged_lio]
    exact tableGet_put_same _ _ _ _ hrise
  · exact ⟨_, exec_pulseEdge hruns hc hmode, getF_setF_same s _ _ wf.regs, onlyParts_of_moves s _ setF_moves rfl,
      onlyFields_setF (List.mem_singleton_self _) onlyFields_refl⟩
  · refine ⟨_, exec_pulseTransfer_one hruns hc hunused, ?_, ?_⟩
    · rw [pulseTransfer_lio hmode]
      exact tableGet_put_same _ _ _ _ hlast
    · rw [pulseTransfer_lio hmode]
      exact tableGet_put_same _ _ _ _ htick

end Sys2Proof.Certificates
end

section
/-! SUPPORT. What the output channels' fault commands do (R130, R136). -/

namespace Sys2Proof.Machine

open Sys2Proof

variable {s : State} {f : Field} {bit n code raw c : Nat}

/-- A new fault of a channel hands CONT its record (R136). -/
theorem records_channelFault (hpresent : present s 5 = true) (hf : fieldKey f ≠ fieldKey F.DEV.UNITS_PRESENT)
    (hnew : bitF s f bit = false) : Records s (channelFault f bit n code raw s) [(0x0501, payload s n code raw)] := by
  rw [channelFault_new hnew]
  have hpresent' : present (setBit f bit true (withReason n code s)) 5 = true :=
    (bitF_congr (getF_setBit_other (withReason n code s) f _ bit true hf) 5).trans hpresent
  have hrecord := records_emit (code := 0x0501) (w1 := n) (w2 := code) (w3 := raw) hpresent'
  rw [Records] at hrecord ⊢
  exact hrecord

/-! ### Digital outputs -/

theorem mod_lt_doField (c : Nat) : c % 32 < (doField c).width := by
  unfold doField
  split <;> exact Nat.mod_lt c (by decide)

theorem doField_apart (c : Nat) : fieldKey (doField c) ≠ fieldKey F.DEV.UNITS_PRESENT := by
  unfold doField
  split
  · decide
  · decide

theorem doOn_setOutput_same (c : Nat) (on : Bool) (h : keysRise s.lio.doOn = true) :
    tableGet false (setOutput c on s).lio.doOn c = on := tableGet_put_same _ _ _ _ h

theorem doOn_setOutput_other (on : Bool) {j : Nat} (h : j ≠ c) :
    tableGet false (setOutput c on s).lio.doOn j = tableGet false s.lio.doOn j := tableGet_put_other _ _ _ _ _ _ h.symm

theorem doRetries_setOutput (c : Nat) (on : Bool) : (setOutput c on s).lio.doRetries = s.lio.doRetries := rfl

/-- A digital output has been switched off for an overcurrent at this tick. -/
def outputShut (c raw : Nat) (s : State) : State :=
  let s1 := setOutput c false (channelFault (doField c) (c % 32) (112 + c) condShort raw s)
  { s1 with lio := { s1.lio with
      doFaultAt := tablePut 0 s1.lio.doFaultAt c s.tick.number, doRetries := tablePut 0 s1.lio.doRetries c 0 } }

theorem exec_digitalOutputOvercurrent {raw : Word} (hruns : lioRuns s = true) (hc : c < 64) (hmode : (lioCh s (112 + c)).mode = 2)
    (hon : tableGet false s.lio.doOn c = true) (hgood : doFaulted s c = false) :
    exec (.digitalOutputOvercurrent c raw) s = .next (outputShut c raw.toNat s) :=
  congrArg Host.Outcome.next (if_pos (by simp [hruns, hc, hmode, hon, hgood]))

theorem outputShut_outcome (c raw : Nat) (wf : WellKept s) (hon : keysRise s.lio.doOn = true)
    (hretries : keysRise s.lio.doRetries = true) : tableGet false (outputShut c raw s).lio.doOn c = false ∧
      doFaulted (outputShut c raw s) c = true ∧ tableGet 0 (outputShut c raw s).lio.doRetries c = 0 ∧
      ∀ j, j ≠ c → tableGet false (outputShut c raw s).lio.doOn j = tableGet false s.lio.doOn j := by
  obtain ⟨hshown, -, ⟨reason, hlio⟩, -⟩ :=
    channelNoted_fault (n := 112 + c) (code := condShort) (raw := raw) (mod_lt_doField c) wf.regs
  have hkept : keysRise (setOutput c false (channelFault (doField c) (c % 32) (112 + c) condShort raw s)).lio.doRetries = true := by
    rw [doRetries_setOutput, hlio]
    exact hretries
  refine ⟨doOn_setOutput_same c false (by rw [hlio]; exact hon), hshown, tableGet_put_same 0 _ c 0 hkept, fun j hj => ?_⟩
  refine (doOn_setOutput_other false hj).trans ?_
  rw [hlio]

/-- A retry of a digital output has been counted and recorded. -/
def retryCounted (c : Nat) (s : State) : State :=
  emit 0x0503 (112 + c) (tableGet 0 s.lio.doRetries c + 1) 0
    { s with lio := { s.lio with doRetries := tablePut 0 s.lio.doRetries c (tableGet 0 s.lio.doRetries c + 1) } }

theorem retryCounted_lio : (retryCounted c s).lio =
    { s.lio with doRetries := tablePut 0 s.lio.doRetries c (tableGet 0 s.lio.doRetries c + 1) } := emit_lio ..

theorem retries_retryCounted : tableGet 0 (retryCounted c s).lio.doRetries c = tableGet 0 s.lio.doRetries c + 1 := by
  rw [retryCounted_lio]
  simp [tablePut, tableGet_insert_same]

theorem exec_outputRetry {above : Bool} {m : Nat} (hruns : lioRuns s = true) (hc : c < 64) (hfaulted : doFaulted s c = true)
    (hasked : doAsked s c = true) (htick : s.tick.number = tableGet 0 s.lio.doFaultAt c + 1000 * (m + 1)) :
    exec (.outputRetry c above) s = .next (if above then setOutput c false (retryCounted c s)
      else setOutput c true (channelClear (doField c) (c % 32) (112 + c) (retryCounted c s))) := by
  have hdue : s.tick.number - tableGet 0 s.lio.doFaultAt c = 1000 * (m + 1) := by omega
  exact congrArg Host.Outcome.next (if_pos (by simp [hruns, hc, hfaulted, hasked, hdue]))

/-! ### Analog outputs -/

theorem exec_analogOutputFault {raw : Word} (hruns : lioRuns s = true) (hc : c < 16) (hmode : (lioCh s (32 + c)).mode ≠ 0) :
    exec (.analogOutputFault c raw) s = .next (channelFault F.LIO.AO_FAULT c (32 + c) (aoReason s c) raw.toNat s) :=
  congrArg Host.Outcome.next (if_pos (by simp [hruns, hc, hmode]))

theorem exec_analogOutputFaultCleared (hc : c < 16) :
    exec (.analogOutputFaultCleared c) s = .next (channelClear F.LIO.AO_FAULT c (32 + c) s) :=
  congrArg Host.Outcome.next (if_pos hc)

end Sys2Proof.Machine
end

section
/-! The statement about the outputs' faults. -/

namespace Sys2Proof.Certificates

open Sys2Proof Sys2Proof.Machine

/-- Settles O32, command by command; that an overcurrent's reason is SHORT is log entry 66. -/
theorem outputFaults : Obligations.OutputFaults := by
  refine ⟨?_, ?_, fun c raw s wf hpresent hc => ⟨fun hruns hmode hgood => ?_, fun hset => ?_, fun hgood => ?_⟩⟩
  · intro c raw s wf hpresent hruns hc hmode hon hgood hrise hretries
    have hexec := exec_digitalOutputOvercurrent (raw := raw) hruns hc hmode hon hgood
    obtain ⟨hoff, hfaulted, hcount, hothers⟩ := outputShut_outcome c raw.toNat wf hrise hretries
    exact ⟨_, hexec, hoff, hfaulted, hcount, records_channelFault hpresent (doField_apart c) hgood, hothers,
      onlyParts_of_moves s _ (execDigitalOutputOvercurrent_moves _ _ s _ hexec) rfl⟩
  · intro c n above s wf hruns hc hfaulted hasked hrise htick
    have hexec := exec_outputRetry (above := above) hruns hc hfaulted hasked htick
    have hparts := onlyParts_of_moves s [.regs, .lio, .cont] (execOutputRetry_moves _ _ s _ hexec) rfl
    have hrise' : keysRise (retryCounted c s).lio.doOn = true := by rw [retryCounted_lio]; exact hrise
    cases above with
    | true =>
      exact ⟨_, hexec, doOn_setOutput_same c false hrise', (bitF_emit ..).trans hfaulted, retries_retryCounted, hparts⟩
    | false =>
      obtain ⟨hshown, -, ⟨reason, hlio⟩, -⟩ := channelNoted_clear (s := retryCounted c s) (n := 112 + c) (mod_lt_doField c)
        (by rw [retryCounted, emit_regs]; exact wf.regs)
      refine ⟨_, hexec, doOn_setOutput_same c true (by rw [hlio]; exact hrise'), hshown, ?_, hparts⟩
      rw [if_neg Bool.false_ne_true, doRetries_setOutput, hlio]
      exact retries_retryCounted
  · obtain ⟨hshown, hfields, -, hmoves⟩ :=
      channelNoted_fault (n := 32 + c) (code := aoReason s c) (raw := raw.toNat) (f := F.LIO.AO_FAULT) hc wf.regs
    exact ⟨_, exec_analogOutputFault hruns hc hmode, hshown, records_channelFault hpresent (by decide) hgood,
      onlyParts_of_moves s _ hmoves rfl, hfields⟩
  · obtain ⟨hshown, hfields, -, hmoves⟩ := channelNoted_clear (n := 32 + c) (f := F.LIO.AO_FAULT) hc wf.regs
    exact ⟨_, exec_analogOutputFaultCleared hc, hshown, onlyParts_of_moves s _ hmoves rfl, hfields⟩
  · exact (exec_analogOutputFaultCleared hc).trans (congrArg Host.Outcome.next (if_neg (by simp [hgood])))

end Sys2Proof.Certificates
end

section
/-! SUPPORT. How a solver round ends (R195, R204): the round that `endRound` leaves, and the registers that it and ASM's result
write. -/

namespace Sys2Proof.Machine

open Sys2Proof

variable {s : State} {r : Round}

/-! ### The round that has ended -/

/-- The segment that an end of this cause names: the one that ran, or 4 for none (R179). -/
def endSegmentOf (cause : Nat) (s : State) : Nat :=
  if decide (4 ≤ cause) && decide (cause ≤ 8) || cause == 10 then getF s F.STB.STATUS_SEGMENT else 4

/-- The round once it has ended with this cause. -/
def endedRound (cause : Nat) (s : State) (r : Round) : Round :=
  { r with ended := some (cause, endStatus r cause), run := none, endCycle := s.clap.cycles, endSegment := endSegmentOf cause s }

@[simp] theorem emit_jug (code w1 w2 w3 : Nat) (s : State) : (emit code w1 w2 w3 s).jug = s.jug := (emit_moves ..).frame .jug rfl

@[simp] theorem bumpF_jug (f : Field) (k : Nat) (s : State) : (bumpF f k s).jug = s.jug := rfl

@[simp] theorem noteSlow_jug (g cycles : Nat) (s : State) : (noteSlow g cycles s).jug = s.jug := (noteSlow_moves ..).frame .jug rfl

@[simp] theorem asmResult_jug (round result detail cycles : Nat) (s : State) :
    (asmResult round result detail cycles s).jug = s.jug := (asmResult_moves ..).frame .jug rfl

@[simp] theorem showScaling_jug (m : ModelSec) (mx : Table F64) (x : Round) (s : State) : (showScaling m mx x s).jug = s.jug :=
  (showScaling_moves ..).frame .jug rfl

/-- A round that is over does not end again. -/
theorem endRound_ended (cause detail : Nat) (hr : s.jug.round = some r) (hended : r.ended.isSome = true) :
    endRound cause detail s = s := by
  unfold endRound
  simp [hr, hended]

/-- A round in progress ends with the cause. -/
theorem endRound_open (cause detail : Nat) (hr : s.jug.round = some r) (hopen : r.ended = none) :
    (endRound cause detail s).jug.round = some (endedRound cause s r) := by
  unfold endRound
  rw [hr]
  dsimp -zeta only
  rw [if_neg (by simp [hopen])]
  extract_lets st seg s0 s1 s2 s3 s4 jug s5
  have h0 : s0.jug = s.jug := by
    simp only [s0]
    split
    · exact noteSlow_jug ..
    · rfl
  have h4 : s4.jug = s1.jug := by
    simp only [s4]
    split
    · rfl
    · rfl
  have h5 : s5.jug.round = some (endedRound cause s r) := by
    show s4.jug.round = _
    rw [h4]
    show s0.jug.round.map _ = _
    rw [h0, hr]
    rfl
  split
  · exact h5
  · rw [emit_jug]
    exact h5

/-! ### The registers of an end -/

/-- The registers that show the end of a round, and those of a run that it cuts short (R177, R204). -/
def roundEndFields : List Field :=
  [F.STB.STATUS_SLOW, F.STB.SLOW_COUNT, F.JUG.LAST_WRONG_SIGN, F.JUG.LAST_PERTURBED, F.JUG.LAST_RESULT_STATUS,
    F.JUG.LAST_RESULT_CAUSE, F.JUG.LAST_RESULT_ITERATIONS, F.JUG.ROUND_STATE_PHASE, F.ASM.STATUS_ASSEMBLING,
    F.STB.STATUS_RUNNING, F.JUG.STATUS_SOLVING, F.JUG.ABANDON_COUNT]

/-- The registers that show the result of an assembly (R156, R159). -/
def asmResultFields : List Field :=
  [F.ASM.LAST_EXP_RANGE_MIN_EXP, F.ASM.LAST_EXP_RANGE_MAX_EXP, F.ASM.LAST_ZERO_ROWS, F.ASM.STATUS_LAST_FAILED, F.ASM.LAST_CYCLES,
    F.ASM.LAST_DETAIL, F.ASM.LAST_RESULT, F.ASM.LAST_ROUND, F.ASM.STATUS_ASSEMBLING, F.ASM.FAIL_COUNT]

theorem onlyFields_bumpF {fs : List Field} {q : State} {f : Field} {k : Nat} (hf : f ∈ fs) (h : OnlyFields fs q s) :
    OnlyFields fs q (bumpF f k s) := onlyFields_setF hf h

theorem noteSlow_onlyFields (g cycles : Nat) (s : State) : OnlyFields roundEndFields s (noteSlow g cycles s) :=
  onlyFields_ite (onlyFields_emit (onlyFields_bumpF (by simp [roundEndFields])
    (onlyFields_setF (by simp [roundEndFields]) onlyFields_refl))) onlyFields_refl

theorem endRound_onlyFields (cause detail : Nat) (s : State) : OnlyFields roundEndFields s (endRound cause detail s) := by
  unfold endRound
  split
  · exact onlyFields_refl
  · refine onlyFields_ite onlyFields_refl ?_
    extract_lets st seg s0 s1 s2 s3 s4 jug s5
    have h0 : OnlyFields roundEndFields s s0 := by
      simp only [s0]
      split
      · exact noteSlow_onlyFields _ _ s
      · exact onlyFields_refl
    have h1 : OnlyFields roundEndFields s s1 := h0
    have h3 : OnlyFields roundEndFields s s3 := by
      repeat' refine onlyFields_setF (by simp [roundEndFields]) ?_
      exact h1
    have h4 : OnlyFields roundEndFields s s4 := onlyFields_ite (onlyFields_bumpF (by simp [roundEndFields]) h3) h3
    have h5 : OnlyFields roundEndFields s s5 := h4
    exact onlyFields_ite h5 (onlyFields_emit h5)

theorem clearScaling_onlyFields (s : State) : OnlyFields asmResultFields s (clearScaling s) :=
  onlyFields_setF (by simp [asmResultFields]) (onlyFields_setF (by simp [asmResultFields])
    (onlyFields_setF (by simp [asmResultFields]) onlyFields_refl))

theorem asmResult_onlyFields (round result detail cycles : Nat) (s : State) :
    OnlyFields asmResultFields s (asmResult round result detail cycles s) := by
  unfold asmResult
  extract_lets s1
  have h1 : OnlyFields asmResultFields s s1 := by
    repeat' refine onlyFields_setF (by simp [asmResultFields]) ?_
    exact onlyFields_ite onlyFields_refl (clearScaling_onlyFields s)
  exact onlyFields_ite (onlyFields_emit h1) (onlyFields_emit (onlyFields_bumpF (by simp [asmResultFields])
    (onlyFields_setF (by simp [asmResultFields]) h1)))

end Sys2Proof.Machine
end

section
/-! SUPPORT. The start of a solver round (R152, R187, R195). -/

namespace Sys2Proof.Machine

open Sys2Proof

variable {s : State}

/-- What ASM makes of the inputs at the start of a round (R152, R153), and the state that shows it. -/
def inputsJudged (s : State) : (List F64 × Nat × Option Nat) × State :=
  judgeInputs (warmPlan s (s.tick.number + (solverSec s).period)).1 (wakeClusters s)

/-- The round that starts at this tick, as its snapshot makes it. -/
def snapshotRound (s : State) : Round :=
  let p := warmPlan s (s.tick.number + (solverSec s).period)
  { number := getF s F.JUG.ROUND_NUMBER + 1, start := s.tick.number, cfg := roundCfgNow s, stamp := stampAt s s.tick.startNs,
    inputs := (inputsJudged s).1.1, values := s.txn.values, warm := p.1, warmRound := p.2.2, warmAdvance := p.2.1 }

/-- The round is in progress and its registers show it; no input has failed it yet. -/
def roundOpened (s : State) : State :=
  let subst := (inputsJudged s).1.2.1
  let t := (inputsJudged s).2
  setF F.JUG.ROUND_NUMBER (snapshotRound s).number (setF F.JUG.ROUND_STATE_ITERATION 0 (setF F.JUG.ROUND_STATE_PHASE 1
    (setF F.JUG.DEADLINE_TICK (lo32 (s.tick.number + (solverSec s).deadline))
      (setF F.JUG.PUBLISH_TICK (lo32 (s.tick.number + (solverSec s).period - 1))
        (setF F.ASM.STATUS_ASSEMBLING 1 (setF F.ASM.LAST_SUBST subst (bumpF F.ASM.SUBST_TOTAL subst
          { t with jug := { t.jug with round := some (snapshotRound s) } })))))))

/-- A round that starts is in progress, or its inputs end it at once with cause 9 (R154). -/
theorem startRound_cases (s : State) : startRound s = roundOpened s ∨
    ∃ result detail, startRound s = endRound 9 0 (asmResult (snapshotRound s).number result detail 0 (roundOpened s)) := by
  unfold startRound
  dsimp only
  split
  · exact .inr ⟨_, _, rfl⟩
  · split
    · exact .inr ⟨_, _, rfl⟩
    · exact .inl rfl

theorem roundOpened_round (s : State) : (roundOpened s).jug.round = some (snapshotRound s) := rfl

theorem inputsJudged_keysRise (wf : WellKept s) : keysRise (inputsJudged s).2.regs = true :=
  ((judgeInputs_moves ..).form ((wakeClusters_moves s).form wf)).regs

/-- The registers of a round in progress (R187). -/
theorem getF_roundOpened (wf : WellKept s) :
    getF (roundOpened s) F.JUG.ROUND_NUMBER = (getF s F.JUG.ROUND_NUMBER + 1) % 2 ^ 32 ∧
      getF (roundOpened s) F.JUG.DEADLINE_TICK = lo32 (s.tick.number + (solverSec s).deadline) := by
  have hrise := inputsJudged_keysRise wf
  constructor
  · refine getF_setF_same _ _ _ ?_
    repeat' refine setF_keysRise _ _ _ ?_
    exact hrise
  · unfold roundOpened
    extract_lets subst t
    rw [getF_setF_other _ _ _ _ (by decide), getF_setF_other _ _ _ _ (by decide), getF_setF_other _ _ _ _ (by decide),
      getF_setF_same]
    · exact Nat.mod_mod _ _
    · repeat' refine setF_keysRise _ _ _ ?_
      exact hrise

/-- The round that has started, in progress or ended at once, and its registers (R152, R187). -/
theorem startRound_outcome (wf : WellKept s) :
    (∃ r, (startRound s).jug.round = some r ∧ r.number = getF s F.JUG.ROUND_NUMBER + 1 ∧ r.start = s.tick.number) ∧
      getF (startRound s) F.JUG.ROUND_NUMBER = (getF s F.JUG.ROUND_NUMBER + 1) % 2 ^ 32 ∧
      getF (startRound s) F.JUG.DEADLINE_TICK = lo32 (s.tick.number + (solverSec s).deadline) := by
  obtain ⟨hnumber, hdeadline⟩ := getF_roundOpened wf
  rcases startRound_cases s with hstart | ⟨result, detail, hstart⟩
  · rw [hstart]
    exact ⟨⟨_, roundOpened_round s, rfl, rfl⟩, hnumber, hdeadline⟩
  · have hround : (asmResult (snapshotRound s).number result detail 0 (roundOpened s)).jug.round = some (snapshotRound s) := by
      rw [asmResult_jug, roundOpened_round]
    have hfields : ∀ f, (∀ g ∈ roundEndFields, fieldKey g ≠ fieldKey f) → (∀ g ∈ asmResultFields, fieldKey g ≠ fieldKey f) →
        getF (startRound s) f = getF (roundOpened s) f := fun f hend hasm => by
      rw [hstart, endRound_onlyFields 9 0 _ f hend, asmResult_onlyFields _ _ _ _ _ f hasm]
    refine ⟨⟨_, by rw [hstart]; exact endRound_open 9 0 hround rfl, rfl, rfl⟩, ?_, ?_⟩
    · rw [hfields _ (by decide) (by decide), hnumber]
    · rw [hfields _ (by decide) (by decide), hdeadline]

/-! ### ROUND_START -/

theorem exec_roundStart_due (hrun : roundsRun s = true) (hup : imageUp s = true) (htick : roundStartTick s s.tick.number = true)
    (hahead : s.tick.curtainDone = false) (hfresh : s.jug.round.map Round.start ≠ some s.tick.number) :
    exec .roundStart s = .next (startRound s) :=
  congrArg Host.Outcome.next (if_pos (by simp [hrun, hup, htick, hahead, hfresh]))

/-- One round starts at a tick, however often the event comes. -/
theorem exec_roundStart_again (hagain : s.jug.round.map Round.start = some s.tick.number) : exec .roundStart s = .next s :=
  congrArg Host.Outcome.next (if_neg (by simp [hagain]))

end Sys2Proof.Machine
end

section
/-! SUPPORT. The end of an assembly (R155 to R158). -/

namespace Sys2Proof.Machine

open Sys2Proof

variable {s : State} {r : Round}

/-! ### Assembly keeps the round's number -/

theorem putTarget_number (cls i : Nat) (v : F64) (x : Round) : (putTarget cls i v x).number = x.number := by
  unfold putTarget
  split <;> rfl

theorem stencilEntry_number (s : State) (e : StencilCfg) (x : Round) : (stencilEntry s e x).1.number = x.number := by
  refine List.foldlRecOn (motive := fun a : Round × Bool => a.1.number = x.number) _ _ rfl ?_
  intro a ha i _
  split
  · exact ha
  · exact (putTarget_number ..).trans ha

theorem runStencils_number (s : State) (x : Round) : (runStencils s x).1.number = x.number := by
  refine List.foldlRecOn (motive := fun a : Round × Option Nat => a.1.number = x.number) _ _ rfl ?_
  intro a ha n _
  split
  · exact ha
  · exact (stencilEntry_number ..).trans ha

theorem assemble_number (s : State) (x : Round) : (assemble s x).1.number = x.number := by
  have hrun := runStencils_number s x
  unfold assemble
  dsimp only
  split
  · exact hrun
  · split
    · exact hrun
    · split
      · exact hrun
      · exact hrun

/-! ### The result of an assembly -/

/-- The assembled round, to be handed over at the next tick unless the assembly has failed (R157). -/
def assembledRound (s : State) (r : Round) : Round :=
  { (assemble s r).1 with handOver := if (assemble s r).2.1 = 0 then some (s.tick.number + 1) else none }

/-- ASM's registers and record show the result of the assembly (R159, R160). -/
def assemblyShown (s : State) (r : Round) : State :=
  let o := assemble s r
  let s1 := updRound (fun _ => assembledRound s r) s
  let s2 := if o.2.1 = 0 || o.2.1 = 5 then
      showScaling (modelSec s) (rowMax (modelSec s) (runStencils s r).1.mat) o.1 s1
    else s1
  asmResult r.number o.2.1 o.2.2 (asmCycles (modelSec s) (stencilsSec s)) s2

theorem assemblyShown_round (hr : s.jug.round = some r) : (assemblyShown s r).jug.round = some (assembledRound s r) := by
  have h1 : (updRound (fun _ => assembledRound s r) s).jug.round = some (assembledRound s r) := by simp [updRound, hr]
  unfold assemblyShown
  extract_lets o s1 s2
  have h2 : s2.jug = s1.jug := by
    simp only [s2]
    split
    · exact showScaling_jug ..
    · rfl
  rw [asmResult_jug, h2]
  exact h1

/-- An uncorrectable error that ASM reads ends the round with cause 9 and status 3 (R158). -/
theorem asmMemory_ends (addr : Nat) (inData : Bool) (hr : s.jug.round = some r) (hopen : r.ended = none) :
    (asmMemory addr inData s).jug.round.bind Round.ended = some (9, 3) := by
  unfold asmMemory
  rw [hr]
  dsimp -zeta only
  extract_lets asm s1 s2
  have h2 : s2.jug = s.jug := by
    simp only [s2, emit_jug, setF_jug, s1]
    split <;> rfl
  rw [endRound_open (r := r) 9 0 (by rw [asmResult_jug, h2, hr]) hopen]
  rfl

/-! ### ROUND_ASSEMBLED -/

theorem exec_roundAssembled_early (ue : Option Nat) (inData : Bool) (hr : s.jug.round = some r)
    (hearly : s.tick.number + 1 < r.start + asmTicks s) : exec (.roundAssembled ue inData) s = .next s := by
  show execRoundAssembled ue inData s = _
  simp [execRoundAssembled, hr, hearly]

section Due

/-! ASM's ticks have passed, and the round in progress is still ASM's. -/

variable (hopen : r.ended = none) (hasm : r.handOver = none) (hrun : unitRuns s 6 = true)
  (hdue : r.start + asmTicks s ≤ s.tick.number + 1)
include hopen hasm hrun hdue

theorem execRoundAssembled_guard : ¬(r.ended.isSome || r.handOver.isSome || !unitRuns s 6 ||
    decide (s.tick.number + 1 < r.start + asmTicks s)) = true := by
  simp [hopen, hasm, hrun, hdue]

variable (hr : s.jug.round = some r)
include hr

theorem exec_roundAssembled_error (addr : Nat) (inData : Bool) :
    exec (.roundAssembled (some addr) inData) s = .next (asmMemory addr inData (noteUe 0 addr (some 6) s)) := by
  show execRoundAssembled (some addr) inData s = _
  unfold execRoundAssembled
  rw [hr]
  exact if_neg (execRoundAssembled_guard hopen hasm hrun hdue)

theorem exec_roundAssembled_sound (inData : Bool) (hdata : s.asm.badData = none) : exec (.roundAssembled none inData) s =
    .next (if (assemble s r).2.1 = 0 then assemblyShown s r else endRound 9 0 (assemblyShown s r)) := by
  show execRoundAssembled none inData s = _
  unfold execRoundAssembled
  rw [hr, hdata]
  exact if_neg (execRoundAssembled_guard hopen hasm hrun hdue)

/-- An assembly without fault is handed over, and any other ends the round (R156, R157). -/
theorem roundAssembled_sound (inData : Bool) (hdata : s.asm.badData = none) :
    ∃ t r', exec (.roundAssembled none inData) s = .next t ∧ t.jug.round = some r' ∧ r'.number = r.number ∧
      (if (assemble s r).2.1 = 0 then r'.handOver = some (s.tick.number + 1) ∧ r'.ended = (assemble s r).1.ended
       else r'.handOver = none ∧ ((assemble s r).1.ended = none → r'.ended.map Prod.fst = some 9)) := by
  have hexec := exec_roundAssembled_sound hopen hasm hrun hdue hr inData hdata
  have hshown := assemblyShown_round hr
  have hnumber : (assembledRound s r).number = r.number := assemble_number s r
  by_cases hok : (assemble s r).2.1 = 0
  · simp only [if_pos hok] at hexec ⊢
    exact ⟨_, _, hexec, hshown, hnumber, if_pos hok, rfl⟩
  · have hheld : (assembledRound s r).handOver = none := if_neg hok
    simp only [if_neg hok] at hexec ⊢
    cases hended : (assemble s r).1.ended with
    | none => exact ⟨_, _, hexec, endRound_open 9 0 hshown hended, hnumber, hheld, fun _ => rfl⟩
    | some e =>
      have hover : (assembledRound s r).ended.isSome = true := congrArg Option.isSome hended
      exact ⟨_, _, hexec, by rw [endRound_ended 9 0 hshown hover]; exact hshown, hnumber, hheld, nofun⟩

theorem roundAssembled_error (addr : Nat) (inData : Bool) :
    ∃ t, exec (.roundAssembled (some addr) inData) s = .next t ∧ t.jug.round.bind Round.ended = some (9, 3) := by
  have hkept : (noteUe 0 addr (some 6) s).jug = s.jug := (noteUe_moves ..).frame .jug rfl
  exact ⟨_, exec_roundAssembled_error hopen hasm hrun hdue hr addr inData, asmMemory_ends addr inData (by rw [hkept, hr]) hopen⟩

end Due

end Sys2Proof.Machine
end

section
/-! The statement about the start and the assembly of rounds. -/

namespace Sys2Proof.Certificates

open Sys2Proof Sys2Proof.Machine

/-- Settles O34, by whether a round starts anew and by what ASM finds once its ticks have passed. -/
theorem roundsStartAndAreAssembled : Obligations.RoundsStartAndAreAssembled := by
  refine ⟨fun s wf hrun hup htick hahead hfresh => ?_, fun s hagain => exec_roundStart_again hagain,
    fun r ue inData s hr hopen hasm => ⟨exec_roundAssembled_early ue inData hr, fun hdue hrun hdata => ?_, fun hdue hrun addr => ?_⟩⟩
  · obtain ⟨⟨r, hround, hnumber, hstart⟩, hshown, hdeadline⟩ := startRound_outcome wf
    have hmoves := startRound_moves s
    exact ⟨_, r, exec_roundStart_due hrun hup htick hahead hfresh, hround, hnumber, hstart, hshown, hdeadline,
      hmoves.frame .pimg rfl, hmoves.frame .tick rfl⟩
  · exact roundAssembled_sound hopen hasm hrun hdue hr inData hdata
  · exact roundAssembled_error hopen hasm hrun hdue hr addr inData

end Sys2Proof.Certificates
end

section
/-! SUPPORT. What the Storyboard's dispatch does (R170, R171), and how an uncorrectable error that the Juggler reads ends the round
(R182). -/

namespace Sys2Proof.Machine

open Sys2Proof

variable {s : State} {r : Round} {g : SegRun} {opcode code k : Nat} {f : State → StoryOp → Round → OpOut}

/-! ### The round in progress -/

theorem updRound_round (f : Round → Round) (hr : s.jug.round = some r) : (updRound f s).jug.round = some (f r) :=
  congrArg (Option.map f) hr

@[simp] theorem noteUe_jug (m addr : Nat) (requester : Option Nat) (s : State) : (noteUe m addr requester s).jug = s.jug :=
  (noteUe_moves ..).frame .jug rfl

/-- The round ends with MEMORY in some state that no longer matters, and its status is 3 (R182, R204). -/
theorem solverMemory_ends (e : Nat × Nat × Nat) (hr : s.jug.round = some r) (hopen : r.ended = none) :
    ∃ x, (solverMemory e s).jug.round = some x ∧ x.ended = some (10, 3) ∧ x.run = none := by
  unfold solverMemory jugMemory
  extract_lets n s1 s2
  have h2 : s2.jug = s.jug := by
    simp only [s2]
    split <;> simp [s1]
  exact ⟨_, endRound_open 10 0 (by rw [emit_jug, h2, hr]) hopen, rfl, rfl⟩

theorem solverError_read {c m : Nat} (addr : Nat) (hm : m = 0 ∨ m = 1 + c ∨ m = 5) :
    solverError c (some (m, addr)) = some (c, m, addr) := by
  rcases hm with rfl | rfl | rfl <;> simp [solverError]

/-! ### Dispatch -/

/-- The round once operation `k` has left `x` of it (R170, R171). -/
def opRan (s : State) (k : Nat) (g : SegRun) (x : Round) : Round := { x with run := some (ranOp s k g) }

/-- The state that shows operation `k` and holds a round. -/
def opShown (k : Nat) (x : Round) (s : State) : State := updRound (fun _ => x) (setF F.STB.CURRENT_OP k s)

theorem opShown_jug (x : Round) (hr : s.jug.round = some r) : (opShown k x s).jug = { s.jug with round := some x } :=
  congrArg (fun o => ({ s.jug with round := o } : JugPart)) (updRound_round (fun _ => x) hr)

theorem opShown_round (x : Round) (hr : s.jug.round = some r) : (opShown k x s).jug.round = some x :=
  congrArg JugPart.round (opShown_jug x hr)

theorem opShown_moves (k : Nat) (x : Round) (s : State) : Moves 0x802 s (opShown k x s) :=
  moves_step (updRound_moves ..) rfl (moves_step setF_moves rfl moves_refl)

theorem opShown_onlyFields (k : Nat) (x : Round) (s : State) : OnlyFields [F.STB.CURRENT_OP] s (opShown k x s) :=
  onlyFields_setF (List.mem_singleton_self _) onlyFields_refl

/-- An operation that may not be dispatched changes nothing (R170). -/
theorem storyOp_waits (ue : Option (Nat × Nat)) (hr : s.jug.round = some r) (hrun : r.run = some g)
    (hwait : opReady (storySec s) g k = false) : storyOp opcode code k ue f s = s := by
  unfold storyOp
  simp [hr, hrun, hwait]

/-- Nothing in the dispatch of an operation turns it away. -/
theorem storyAt_guard (h : StoryAt opcode code k r g s) :
    ¬(!unitRuns s 7 || decide (((storySec s).ops.getD k {}).opcode ≠ opcode) ||
      (opcode == 0x0E && ((storySec s).ops.getD k {}).source % 256 != code) || !opReady (storySec s) g k) = true := by
  obtain ⟨-, -, -, hunit, hop, hcode, hready⟩ := h
  generalize (storySec s).ops.getD k {} = o at hop hcode ⊢
  simpa [hunit, hop, hready] using hcode

theorem storyOp_reads (h : StoryAt opcode code k r g s) {ue : Option (Nat × Nat)} {e : Nat × Nat × Nat}
    (he : solverError ((storySec s).ops.getD k {}).cluster ue = some e) :
    storyOp opcode code k ue f s = solverMemory e (setF F.STB.CURRENT_OP k s) := by
  have hguard := storyAt_guard h
  obtain ⟨hr, hrun, -⟩ := h
  unfold storyOp
  rw [hr]
  dsimp only
  rw [hrun]
  dsimp only
  rw [if_neg hguard, he]

/-- What an operation's arithmetic leaves is the round's, and a failure ends it (R201). -/
theorem storyOp_computes (h : StoryAt opcode code k r g s) :
    storyOp opcode code k none f s = (f s ((storySec s).ops.getD k {}) r).2.elim id (fun e => endRound e.1 e.2)
      (opShown k (opRan s k g (f s ((storySec s).ops.getD k {}) r).1) s) := by
  have hguard := storyAt_guard h
  obtain ⟨hr, hrun, -, -, hop, -, -⟩ := h
  unfold storyOp
  rw [hr]
  dsimp only
  rw [hrun]
  dsimp only
  rw [if_neg hguard]
  dsimp only [solverError, opShown, opRan, ranOp]
  rw [hop]
  cases (f s ((storySec s).ops.getD k {}) r).2 <;> rfl

theorem storyOp_succeeds (h : StoryAt opcode code k r g s) (hout : (f s ((storySec s).ops.getD k {}) r).2 = none) :
    storyOp opcode code k none f s = opShown k (opRan s k g (f s ((storySec s).ops.getD k {}) r).1) s := by
  rw [storyOp_computes h, hout]
  rfl

theorem storyOp_fails (h : StoryAt opcode code k r g s) {cause detail : Nat}
    (hout : (f s ((storySec s).ops.getD k {}) r).2 = some (cause, detail)) :
    storyOp opcode code k none f s =
      endRound cause detail (opShown k (opRan s k g (f s ((storySec s).ops.getD k {}) r).1) s) := by
  rw [storyOp_computes h, hout]
  rfl

/-! ### What the commands of the Storyboard have in common -/

/-- A command that is the dispatch of an operation executes it. -/
theorem storyDoes_of_exec {c : Instr} (hc : ∀ s, exec c s = .next (storyOp opcode code k none f s)) :
    StoryDoes c opcode code k f := by
  refine ⟨fun r g s h => ⟨_, hc s, fun hok => ?_, fun cause detail hfail hopen => ?_⟩, fun r g s hr hrun hwait => ?_⟩
  · rw [storyOp_succeeds h hok]
    exact ⟨opShown_jug _ h.1, onlyParts_of_moves s _ (opShown_moves ..) rfl, opShown_onlyFields k _ s⟩
  · refine ⟨?_, ?_, onlyParts_of_moves s _ (storyOp_moves ..) rfl⟩ <;>
      rw [storyOp_fails h hfail, endRound_open cause detail (opShown_round _ h.1) (r := opRan s k g _) hopen] <;> rfl
  · rw [hc, storyOp_waits none hr hrun hwait]

/-- A command that is the dispatch of an operation ends the round at an error that the operation reads. -/
theorem storyReadsError_of_exec {c : Option (Nat × Nat) → Instr} (f : State → StoryOp → Round → OpOut)
    (hc : ∀ ue s, exec (c ue) s = .next (storyOp opcode code k ue f s)) : StoryReadsError c opcode code k := by
  intro r g m addr s h hm
  obtain ⟨hr, -, hopen, -⟩ := id h
  obtain ⟨x, hround, hended, hrun⟩ := solverMemory_ends (s := setF F.STB.CURRENT_OP k s)
    (((storySec s).ops.getD k {}).cluster, m, addr) hr hopen
  refine ⟨_, hc _ s, ?_, ?_, onlyParts_of_moves s _ (storyOp_moves ..) rfl⟩ <;>
    rw [storyOp_reads h (solverError_read addr hm), hround]
  · exact hended
  · exact hrun

end Sys2Proof.Machine
end

section
/-! SUPPORT. What STORE_PANEL and DIAG compute, entry by entry (R166, R172). -/

namespace Sys2Proof.Machine

open Sys2Proof

variable {s : State} {r x : Round} {k : Nat}

/-! ### STORE_PANEL -/

/-- Entries written one after another from a base on: each of them is in the table. -/
theorem tableGet_foldl_put {α : Type} [DecidableEq α] (d : α) (v : Nat → α) (b n : Nat) (t : Table α) (h : keysRise t = true) :
    let u := (List.range n).foldl (fun m e => tablePut d m (b + e) (v (b + e))) t
    keysRise u = true ∧ ∀ e, e < n → tableGet d u (b + e) = v (b + e) := by
  induction n with
  | zero => exact ⟨h, fun e he => absurd he (Nat.not_lt_zero e)⟩
  | succ n ih =>
    obtain ⟨hrise, hget⟩ := ih
    simp only [List.range_succ, List.foldl_append, List.foldl_cons, List.foldl_nil]
    refine ⟨keysRise_put _ _ _ _ hrise, fun e he => ?_⟩
    rcases Nat.lt_succ_iff_lt_or_eq.1 he with hlt | rfl
    · rw [tableGet_put_other _ _ _ _ _ _ (by omega), hget e hlt]
    · exact tableGet_put_same _ _ _ _ hrise

/-- The factor store holds each entry of the panel. -/
theorem opStorePanel_store (s : State) (o : StoryOp) (h : keysRise r.store = true) {e : Nat}
    (he : e < panelSize (supernode (storySec s) o.target)) :
    tableGet 0 (opStorePanel s o r).1.store ((supernode (storySec s) o.target).factorOffset + e) =
      tableGet 0 r.panel ((supernode (storySec s) o.target).factorOffset + e) :=
  (tableGet_foldl_put 0 (tableGet 0 r.panel) _ _ _ h).2 e he

/-! ### DIAG -/

/-- A fold of operations that has not failed: neither has what came before its last one. -/
theorem foldOps_succ_ok {f : Nat → Round → OpOut} (h : foldOps (k + 1) f r = (x, none)) :
    ∃ y, foldOps k f r = (y, none) ∧ f k y = (x, none) := by
  unfold foldOps at h ⊢
  rw [List.range_succ, List.foldl_append, List.foldl_cons, List.foldl_nil] at h
  generalize (List.range k).foldl _ (r, none) = a at h ⊢
  obtain ⟨y, e⟩ := a
  cases e with
  | none => exact ⟨y, rfl, h⟩
  | some e => cases h

/-- DIAG at one column of a supernode. -/
def divideAt (n : SupernodeCfg) (c : Nat) (x : Round) : OpOut :=
  let v := f64Div (wAt x (n.first + c)) (f32to64 (tableGet 0 x.dwork (n.first + c)))
  (putW (n.first + c) v x, finiteOr v)

theorem opDiag_eq (s : State) (o : StoryOp) (r : Round) :
    opDiag s o r = foldOps (supernode (storySec s) o.target).width (divideAt (supernode (storySec s) o.target)) r := rfl

/-- The first `k` positions of W from `first` on have been divided by D, and no other has changed. -/
structure Divided (first k : Nat) (r x : Round) : Prop where
  rise : keysRise x.w = true
  dwork : x.dwork = r.dwork
  inside : ∀ p, first ≤ p → p < first + k → tableGet 0 x.w p = f64Div (tableGet 0 r.w p) (f32to64 (tableGet 0 r.dwork p))
  outside : ∀ p, p < first ∨ first + k ≤ p → tableGet 0 x.w p = tableGet 0 r.w p

theorem divided_refl (first : Nat) (h : keysRise r.w = true) : Divided first 0 r r :=
  ⟨h, rfl, fun p h1 h2 => absurd h2 (by omega), fun _ _ => rfl⟩

theorem divided_step {n : SupernodeCfg} {y : Round} (h : Divided n.first k r y) : Divided n.first (k + 1) r (divideAt n k y).1 where
  rise := keysRise_put _ _ _ _ h.rise
  dwork := h.dwork
  inside p hlo hhi := by
    rcases eq_or_ne (n.first + k) p with rfl | hne
    · refine (tableGet_put_same _ _ _ _ h.rise).trans ?_
      rw [wAt, h.outside _ (Or.inr le_rfl), h.dwork]
    · exact (tableGet_put_other _ _ _ _ _ _ hne).trans (h.inside p hlo (by omega))
  outside p hp := (tableGet_put_other _ _ _ _ _ _ (by omega)).trans (h.outside p (by omega))

theorem foldOps_divided {n : SupernodeCfg} (hrise : keysRise r.w = true) (h : foldOps k (divideAt n) r = (x, none)) :
    Divided n.first k r x := by
  induction k generalizing x with
  | zero =>
    obtain rfl : r = x := congrArg Prod.fst h
    exact divided_refl n.first hrise
  | succ k ih =>
    obtain ⟨y, hy, hx⟩ := foldOps_succ_ok h
    obtain rfl : (divideAt n k y).1 = x := congrArg Prod.fst hx
    exact divided_step (ih hy)

theorem opDiag_divided {o : StoryOp} (hrise : keysRise r.w = true) (h : opDiag s o r = (x, none)) :
    Divided (supernode (storySec s) o.target).first (supernode (storySec s) o.target).width r x :=
  foldOps_divided hrise (opDiag_eq s o r ▸ h)

end Sys2Proof.Machine
end

section
/-! The statement about the Storyboard's operations. -/

namespace Sys2Proof.Certificates

open Sys2Proof Sys2Proof.Machine

/-- Settles O33: each command is the dispatch of its operation, and STORE_PANEL and DIAG compute entry by entry. -/
theorem storyboardOperationsRunOnce : Obligations.StoryboardOperationsRunOnce := by
  refine ⟨⟨fun k => ?_, fun k e r g s h hrise he => ?_⟩, fun k => ?_, fun k r r' g s h hrise hout => ?_, fun k => ?_⟩
  · refine ⟨?_, ?_, ?_, ?_, ?_, ?_, ?_, ?_, ?_⟩ <;> exact storyDoes_of_exec fun _ => rfl
  · refine ⟨_, opRan s k g (opStorePanel s ((storySec s).ops.getD k {}) r).1,
      congrArg Host.Outcome.next (storyOp_succeeds (f := opStorePanel) h rfl), ?_, opStorePanel_store s _ hrise he, rfl⟩
    exact opShown_round _ h.1
  · refine ⟨?_, ?_, ?_, ?_, ?_, ?_, ?_, ?_, ?_, ?_⟩ <;> exact storyDoes_of_exec fun _ => rfl
  · have hdivided := opDiag_divided hrise hout
    refine ⟨_, opRan s k g r', congrArg Host.Outcome.next (storyOp_succeeds (f := opDiag) h (congrArg Prod.snd hout)), ?_,
      hdivided.inside, hdivided.outside⟩
    rw [hout]
    exact opShown_round _ h.1
  · refine ⟨?_, ?_, ?_, ?_, ?_, ?_, ?_, ?_, ?_, ?_, ?_, ?_, ?_, ?_, ?_, ?_, ?_⟩ <;> exact storyReadsError_of_exec _ fun _ _ => rfl

end Sys2Proof.Certificates
end

section
/-! SUPPORT. The registers that the end of a round leaves (R177, R179, R205), the completed and the stopped run of a segment (R177,
R195), the deadline, the plan that an ended round leaves, and a cluster that does not wake (R180, R206). -/

namespace Sys2Proof.Machine

open Sys2Proof

variable {s : State} {r : Round} {g : SegRun} {n : Nat}

/-! ### The registers of an end -/

theorem flag_setF_zero {f : Field} (h : keysRise s.regs = true) : flag (setF f 0 s) f = false := by
  rw [flag, getF_setF_same _ _ _ h, Nat.zero_mod]
  rfl

theorem flag_congr {t : State} {f : Field} (h : getF t f = getF s f) : flag t f = flag s f := by rw [flag, flag, h]

/-- A slow run shows in its two fields alone (R177). -/
theorem noteSlow_slowFields (g cycles : Nat) (s : State) :
    OnlyFields [F.STB.STATUS_SLOW, F.STB.SLOW_COUNT] s (noteSlow g cycles s) :=
  onlyFields_ite (onlyFields_emit (onlyFields_bumpF (by simp) (onlyFields_setF (by simp) onlyFields_refl))) onlyFields_refl

/-- No segment runs once a round has ended, and a round that its deadline ends is counted (R205). -/
theorem endRound_shown (wf : WellKept s) (cause detail : Nat) (hr : s.jug.round = some r) (hopen : r.ended = none) :
    flag (endRound cause detail s) F.STB.STATUS_RUNNING = false ∧
      (cause = 2 → getF (endRound cause detail s) F.JUG.ABANDON_COUNT = min (getF s F.JUG.ABANDON_COUNT + 1) 0xFFFFFFFF) := by
  unfold endRound
  rw [hr]
  dsimp -zeta only
  rw [if_neg (by simp [hopen])]
  extract_lets st seg s0 s1 s2 s3 s4 jug s5
  have h0 : WellKept s0 ∧ getF s0 F.JUG.ABANDON_COUNT = getF s F.JUG.ABANDON_COUNT := by
    simp only [s0]
    split
    · exact ⟨(noteSlow_moves ..).form wf, noteSlow_slowFields _ _ s _ (by decide)⟩
    · exact ⟨wf, rfl⟩
  obtain ⟨wf0, hcount0⟩ := h0
  have hrise3 : keysRise s3.regs = true := by
    repeat' refine setF_keysRise _ _ _ ?_
    exact wf0.regs
  have hrun3 : flag s3 F.STB.STATUS_RUNNING = false :=
    (flag_congr (getF_setF_other _ _ _ _ (by decide))).trans (flag_setF_zero (by
      repeat' refine setF_keysRise _ _ _ ?_
      exact wf0.regs))
  have hcount3 : getF s3 F.JUG.ABANDON_COUNT = getF s F.JUG.ABANDON_COUNT := by
    refine Eq.trans ?_ hcount0
    repeat' refine (getF_setF_other _ _ _ _ (by decide)).trans ?_
    rfl
  have hfinal : ∀ f, getF (if cause = 0 then s5 else emit 0x0804 r.number cause detail s5) f = getF s4 f := fun f => by
    split
    · rfl
    · exact getF_emit ..
  constructor
  · refine (flag_congr (hfinal _)).trans ((flag_congr ?_).trans hrun3)
    simp only [s4]
    split
    · exact getF_bumpF_other _ _ _ _ (by decide)
    · rfl
  · intro h2
    rw [hfinal, ← hcount3]
    simp only [s4, if_pos h2]
    exact getF_bumpF_same _ _ _ rfl hrise3

/-! ### A run that is stopped -/

/-- The state in which a stalled run has been taken off and recorded, before the round ends (R177). -/
def runStopped (n : Nat) (s : State) : State :=
  let op := getF s F.STB.CURRENT_OP
  emit 0x0702 n op ((storySec s).ops.getD op {}).cluster (setF F.STB.STATUS_STALLED 1 (bumpF F.STB.STALL_COUNT 1
    (noteSlow n (stallLimit s n) (updRound (fun x => { x with run := none }) s))))

theorem stallRun_eq (n : Nat) (s : State) : stallRun n s = endRound 8 0 (runStopped n s) := rfl

theorem runStopped_moves (n : Nat) (s : State) : Moves 0x200802 s (runStopped n s) :=
  moves_step (emit_moves ..) rfl (moves_step setF_moves rfl (moves_step (bumpF_moves ..) rfl
    (moves_step (noteSlow_moves ..) rfl (moves_step (updRound_moves ..) rfl moves_refl))))

theorem runStopped_round (n : Nat) (hr : s.jug.round = some r) : (runStopped n s).jug.round = some { r with run := none } := by
  rw [runStopped, emit_jug, setF_jug, bumpF_jug, noteSlow_jug]
  exact updRound_round _ hr

theorem runStopped_count (wf : WellKept s) (n : Nat) :
    getF (runStopped n s) F.STB.STALL_COUNT = min (getF s F.STB.STALL_COUNT + 1) 0xFFFFFFFF := by
  have hwf := ((noteSlow_moves n (stallLimit s n) _).form ((updRound_moves (fun x => { x with run := none }) s).form wf)).regs
  rw [runStopped, getF_emit, getF_setF_other _ _ _ _ (by decide), getF_bumpF_same _ _ _ rfl hwf,
    noteSlow_slowFields _ _ _ _ (by decide)]
  rfl

theorem stallRun_ends (n : Nat) (hr : s.jug.round = some r) (hopen : r.ended = none) :
    (stallRun n s).jug.round.bind Round.ended = some (8, endStatus r 8) := by
  rw [stallRun_eq, endRound_open 8 0 (runStopped_round n hr) hopen]
  rfl

theorem stallRun_shown (wf : WellKept s) (n : Nat) (hr : s.jug.round = some r) (hopen : r.ended = none) :
    getF (stallRun n s) F.STB.STALL_COUNT = min (getF s F.STB.STALL_COUNT + 1) 0xFFFFFFFF ∧
      flag (stallRun n s) F.STB.STATUS_RUNNING = false := by
  rw [stallRun_eq, endRound_onlyFields 8 0 _ _ (by decide)]
  exact ⟨runStopped_count wf n, (endRound_shown ((runStopped_moves n s).form wf) 8 0 (runStopped_round n hr) hopen).1⟩

theorem exec_segmentStalled (hr : s.jug.round = some r) (hrun : r.run = some g) :
    exec .segmentStalled s = .next (stallRun (segmentOf g.mode) s) := by
  show execSegmentStalled s = _
  simp [execSegmentStalled, hr, hrun]

/-! ### A run that completes -/

/-- The round whose run has taken so many cycles, and the state that shows them (R177, R195). -/
def runClosed (n cycles : Nat) (s : State) : State :=
  setF F.STB.STATUS_RUNNING 0
    (updRound (fun x => { x with run := none, iterCycles := x.iterCycles + cycles, runCycles := x.runCycles + cycles })
      (runRegisters n cycles s))

theorem runRegisters_jug (n cycles : Nat) (s : State) : (runRegisters n cycles s).jug = s.jug :=
  (runRegisters_moves ..).frame .jug rfl

theorem runClosed_moves (n cycles : Nat) (s : State) : Moves 0x200802 s (runClosed n cycles s) :=
  moves_step setF_moves rfl (moves_step (updRound_moves ..) rfl (moves_step (runRegisters_moves ..) rfl moves_refl))

theorem runClosed_round (n cycles : Nat) (hr : s.jug.round = some r) : (runClosed n cycles s).jug.round =
    some { r with run := none, iterCycles := r.iterCycles + cycles, runCycles := r.runCycles + cycles } := by
  rw [runClosed, setF_jug]
  exact updRound_round _ (by rw [runRegisters_jug, hr])

/-- A FACTOR run's cycles are shown (R184). -/
theorem runClosed_cycles (wf : WellKept s) {cycles : Nat} (hn : cycles < 2 ^ 32) :
    getF (runClosed 0 cycles s) (F.STB.LAST_CYCLES 0) = cycles := by
  rw [runClosed, getF_setF_other _ _ _ _ (by decide)]
  refine (noteSlow_slowFields _ _ _ _ (by decide)).trans ?_
  rw [getF_setF_same _ _ _ (setF_keysRise _ _ _ wf.regs)]
  exact Nat.mod_eq_of_lt hn

section Complete

variable (hr : s.jug.round = some r) (hrun : r.run = some g) (hunit : unitRuns s 7 = true) (hdone : runComplete s g = true)
include hr hrun hunit hdone

theorem exec_segmentRunEnd_stalled (ue : Option (Nat × Nat)) (hn : stallLimit s (segmentOf g.mode) ≤ n) :
    exec (.segmentRunEnd n ue) s = .next (stallRun (segmentOf g.mode) s) := by
  show execSegmentRunEnd n ue s = _
  simp [execSegmentRunEnd, hr, hrun, hunit, hdone, hn]

variable (hn : n < stallLimit s (segmentOf g.mode))
include hn

theorem exec_segmentRunEnd_completes :
    exec (.segmentRunEnd n none) s = .next (afterRun g.mode (runClosed (segmentOf g.mode) n s)) := by
  show execSegmentRunEnd n none s = _
  simp [execSegmentRunEnd, hr, hrun, hunit, hdone, Nat.not_le.2 hn, solverError, runClosed]

theorem exec_segmentRunEnd_error (addr : Nat) : ∃ c, exec (.segmentRunEnd n (some (0, addr))) s =
    .next (solverMemory (c, 0, addr) (runClosed (segmentOf g.mode) n s)) := by
  refine ⟨((storySec s).ops.getD (getF s F.STB.CURRENT_OP) {}).cluster, ?_⟩
  show execSegmentRunEnd n (some (0, addr)) s = _
  simp [execSegmentRunEnd, hr, hrun, hunit, hdone, Nat.not_le.2 hn, solverError, runClosed]

/-- An uncorrectable error read at the end of a run ends the round with cause 10 (R182). -/
theorem segmentRunEnd_error (hopen : r.ended = none) (addr : Nat) : ∃ t, exec (.segmentRunEnd n (some (0, addr))) s = .next t ∧
    t.jug.round.bind Round.ended = some (10, 3) := by
  obtain ⟨c, hexec⟩ := exec_segmentRunEnd_error hr hrun hunit hdone hn addr
  obtain ⟨x, hround, hended, -⟩ := solverMemory_ends (c, 0, addr) (runClosed_round (segmentOf g.mode) n hr) hopen
  exact ⟨_, hexec, by rw [hround]; exact hended⟩

end Complete

/-- The run of another segment follows (R195). -/
theorem startRun_round (mode : RunMode) (hr : s.jug.round = some r) :
    (startRun mode s).jug.round = some { r with run := some { mode := mode } } := updRound_round _ hr

theorem startRun_running (wf : WellKept s) (mode : RunMode) : flag (startRun mode s) F.STB.STATUS_RUNNING = true :=
  flag_setF_one _ rfl (setF_keysRise _ _ _ wf.regs)

theorem startRun_onlyFields (mode : RunMode) (s : State) :
    OnlyFields [F.STB.STATUS_RUNNING, F.STB.STATUS_SEGMENT] s (startRun mode s) :=
  onlyFields_setF (by simp) (onlyFields_setF (by simp) onlyFields_refl)

/-- After a FACTOR run the SOLVE run starts on the right-hand side (R195). -/
theorem factorRun_follows (wf : WellKept s) {cycles : Nat} (hcycles : cycles < 2 ^ 32) (hr : s.jug.round = some r) :
    let t := afterRun .factor (runClosed 0 cycles s)
    getF t (F.STB.LAST_CYCLES 0) = cycles ∧ t.jug.round.bind Round.run = some { mode := .solve } ∧
      t.jug.round.map Round.w = some r.rhs ∧ flag t F.STB.STATUS_RUNNING = true ∧ OnlyParts [.regs, .jug, .cont] s t := by
  have hmoves := runClosed_moves 0 cycles s
  have hround := startRun_round .solve (updRound_round (fun x => { x with w := x.rhs }) (runClosed_round 0 cycles hr))
  refine ⟨?_, ?_, ?_, startRun_running ((updRound_moves ..).form (hmoves.form wf)) .solve,
    onlyParts_of_moves s _ (moves_step (afterRun_moves ..) rfl hmoves) rfl⟩
  · exact (startRun_onlyFields .solve _ _ (by decide)).trans (runClosed_cycles wf hcycles)
  · exact congrArg (Option.bind · Round.run) hround
  · exact congrArg (Option.map Round.w) hround

/-! ### The deadline -/

theorem exec_roundDeadline_early (ue : Option (Nat × Nat)) (same : Bool) (hr : s.jug.round = some r)
    (hearly : s.tick.number < r.start + (solverSec s).deadline) : exec (.roundDeadline ue same) s = .next s := by
  show execRoundDeadline ue same s = _
  simp [execRoundDeadline, hr, hearly]

/-- The abandonment of the run is recorded (R205). -/
def abandonNoted (r : Round) (g : SegRun) (s : State) : State :=
  emit 0x0703 r.number (segmentOf g.mode) (getF s F.STB.CURRENT_OP) s

theorem abandonNoted_moves (r : Round) (g : SegRun) (s : State) : Moves 0x200802 s (abandonNoted r g s) :=
  moves_step (emit_moves ..) rfl moves_refl

theorem abandonNoted_round (g : SegRun) (hr : s.jug.round = some r) : (abandonNoted r g s).jug.round = some r := by
  rw [abandonNoted, emit_jug, hr]

section Deadline

variable (hr : s.jug.round = some r) (hopen : r.ended = none) (hdue : r.start + (solverSec s).deadline ≤ s.tick.number)
  (same : Bool)
include hr hopen hdue

/-- A round that ASM still has ends with cause 9 (R157, R179). -/
theorem roundDeadline_assembling (ue : Option (Nat × Nat)) (hrun : r.run = none) :
    ∃ t, exec (.roundDeadline ue same) s = .next t ∧ t.jug.round.bind Round.ended = some (9, 3) := by
  have hexec : exec (.roundDeadline ue same) s = .next (endRound 9 0 (asmResult r.number 7
      (asmSteps s (asmUsed s (solverSec s).deadline)) (asmUsed s (solverSec s).deadline) s)) := by
    show execRoundDeadline ue same s = _
    simp [execRoundDeadline, hr, Nat.not_lt.2 hdue, hopen, hrun]
  refine ⟨_, hexec, ?_⟩
  rw [endRound_open 9 0 (by rw [asmResult_jug, hr]) hopen]
  rfl

variable (hrun : r.run = some g)
include hrun

/-- A run in progress is abandoned, and counted (R205). -/
theorem roundDeadline_abandons (wf : WellKept s) : ∃ t, exec (.roundDeadline none same) s = .next t ∧
    t.jug.round.bind Round.ended = some (2, endStatus r 2) ∧
    getF t F.JUG.ABANDON_COUNT = min (getF s F.JUG.ABANDON_COUNT + 1) 0xFFFFFFFF ∧ OnlyParts [.regs, .jug, .cont] s t := by
  have hexec : exec (.roundDeadline none same) s = .next (endRound 2 0 (abandonNoted r g s)) := by
    show execRoundDeadline none same s = _
    simp [execRoundDeadline, hr, Nat.not_lt.2 hdue, hopen, hrun, solverError, abandonNoted]
  have hmoves := abandonNoted_moves r g s
  have hround := abandonNoted_round g hr
  refine ⟨_, hexec, ?_, ?_, onlyParts_of_moves s _ (moves_step (endRound_moves ..) rfl hmoves) rfl⟩
  · rw [endRound_open 2 0 hround hopen]
    rfl
  · rw [(endRound_shown (hmoves.form wf) 2 0 hround hopen).2 rfl, abandonNoted, getF_emit]

theorem exec_roundDeadline_error (addr : Nat) : ∃ c, exec (.roundDeadline (some (0, addr)) same) s =
    .next (updRound (fun x => { x with endSegment := 4 }) (solverMemory (c, 0, addr) (abandonNoted r g s))) := by
  refine ⟨((storySec s).ops.getD (getF s F.STB.CURRENT_OP) {}).cluster, ?_⟩
  show execRoundDeadline (some (0, addr)) same s = _
  simp [execRoundDeadline, hr, Nat.not_lt.2 hdue, hopen, hrun, solverError, abandonNoted]

/-- An error that the Juggler reads in the deadline's cycle ends the round with cause 10 (R182, R205). -/
theorem roundDeadline_error (addr : Nat) : ∃ t, exec (.roundDeadline (some (0, addr)) same) s = .next t ∧
    t.jug.round.bind Round.ended = some (10, 3) := by
  obtain ⟨c, hexec⟩ := exec_roundDeadline_error hr hopen hdue same hrun addr
  obtain ⟨x, hround, hended, -⟩ := solverMemory_ends (c, 0, addr) (abandonNoted_round g hr) hopen
  refine ⟨_, hexec, ?_⟩
  rw [updRound_round _ hround]
  exact hended

end Deadline

/-! ### PLAN_WRITTEN -/

/-- The plan of a round carries its number, its end and the tick that it starts from (R204, R207). -/
theorem planOf_ended {e : Nat × Nat} (hended : r.ended = some e) : (planOf s r).round = r.number ∧ (planOf s r).cause = e.1 ∧
    (planOf s r).status = e.2 ∧ (planOf s r).planStart = r.start + (solverSec s).period := by
  unfold planOf
  rw [hended]
  exact ⟨rfl, rfl, rfl, rfl⟩

/-- The state whose back buffer holds a plan, in phase 5 (R206). -/
def planStands (p : Plan) (s : State) : State := setF F.JUG.ROUND_STATE_PHASE 5 { s with jug := { s.jug with back := some p } }

theorem exec_planWritten {e : Nat × Nat} (hr : s.jug.round = some r) (hended : r.ended = some e)
    (hphase : getF s F.JUG.ROUND_STATE_PHASE = 4) (hunit : unitRuns s 8 = true) :
    exec .planWritten s = .next (planStands (planOf s r) s) := by
  show execPlanWritten s = _
  simp [execPlanWritten, hr, hended, hphase, hunit, planStands]

/-! ### CLUSTER_WAKE_FAILED -/

/-- A used cluster that does not wake fails, and JUG with it (R180). -/
theorem clusterWakeFailed_health (wf : WellKept s) {k : Nat} (hk : k < 4) (hused : bitF s F.JUG.CONFIG_USED k = true)
    (hlive : inState s .live = true) : ∃ t, exec (.clusterWakeFailed k) s = .next t ∧
      getF t (F.JUG.CLUSTER_STATE_HEALTH k) = 2 ∧ OnlyParts [.regs, .cont, .host] s t := by
  have hexec : exec (.clusterWakeFailed k) s = .next (setHealth 8 2 (emit 0x0802 k (getF s F.JUG.ROUND_NUMBER) 0
      (setF (F.JUG.CLUSTER_STATE_HEALTH k) 2 s))) := congrArg Host.Outcome.next (if_pos (by simp [hk, hused, hlive]))
  refine ⟨_, hexec, ?_, onlyParts_of_moves s _ (execClusterWakeFailed_moves k s _ hexec) rfl⟩
  have happart : ∀ f ∈ healthFields 8, fieldKey f ≠ fieldKey (F.JUG.CLUSTER_STATE_HEALTH k) := by
    interval_cases k <;> decide
  rw [setHealth_onlyFields 8 2 _ _ happart, getF_emit, getF_setF_same _ _ _ wf.regs]
  rfl

end Sys2Proof.Machine
end

section
/-! The statement about the runs of a round and its end. -/

namespace Sys2Proof.Certificates

open Sys2Proof Sys2Proof.Machine

/-- Settles O35, command by command: what ends the round is an `endRound` with the cause, and a completed FACTOR run is followed by
the SOLVE run. -/
theorem roundsRunAndEnd : Obligations.RoundsRunAndEnd := by
  refine fun s wf => ⟨fun r g n hr hrun hunit hdone hmode hcycles hn => ?_, fun r g hr hrun hopen => ⟨?_, ?_, ?_, ?_, ?_⟩,
    fun r ue same hr => ⟨exec_roundDeadline_early ue same hr, fun hdue hopen hrun => ?_⟩,
    fun r e hr hended hphase hunit => ?_, fun k hk hused hlive => clusterWakeFailed_health wf hk hused hlive⟩
  · have hexec := exec_segmentRunEnd_completes hr hrun hunit hdone (by rwa [hmode])
    rw [hmode] at hexec
    exact ⟨_, hexec, factorRun_follows wf hcycles hr⟩
  · exact fun n ue hunit hdone hn => ⟨_, exec_segmentRunEnd_stalled hr hrun hunit hdone ue hn, stallRun_ends _ hr hopen⟩
  · exact fun addr n hunit hdone hn => segmentRunEnd_error hr hrun hunit hdone hn hopen addr
  · obtain ⟨hcount, hstill⟩ := stallRun_shown wf (segmentOf g.mode) hr hopen
    exact ⟨_, exec_segmentStalled hr hrun, stallRun_ends _ hr hopen, hcount, hstill,
      onlyParts_of_moves s _ (stallRun_moves ..) rfl⟩
  · exact fun hdue same => roundDeadline_abandons hr hopen hdue same hrun wf
  · exact fun hdue addr same => roundDeadline_error hr hopen hdue same hrun addr
  · exact roundDeadline_assembling hr hopen hdue same ue hrun
  · obtain ⟨hround, hcause, hstatus, hstart⟩ := planOf_ended (s := s) hended
    have hexec := exec_planWritten hr hended hphase hunit
    exact ⟨_, planOf s r, hexec, rfl, hround, hcause, hstatus, hstart,
      getF_setF_same _ _ _ wf.regs, rfl,
      onlyParts_of_moves s _ (execPlanWritten_moves s _ hexec) rfl, onlyFields_setF (List.mem_singleton_self _) onlyFields_refl⟩

end Sys2Proof.Certificates
end

section
/-! SUPPORT. Tightrope's commands, which wait for the Curtain, and the injection that has made its DURATION (R234, R236, R237). -/

namespace Sys2Proof.Machine

open Sys2Proof

variable {s : State} {c : Caller} {roles : List Nat} {k l op a b : Nat}

/-! ### The state that a command's own steps begin with -/

theorem touchSession_trp (c : Caller) (s : State) : (touchSession c s).trp = s.trp := (touchSession_moves c s).frame .trp rfl

@[simp] theorem loopsSec_touchSession : loopsSec (touchSession c s) = loopsSec s := by
  rw [loopsSec, touchSession_cfg, loopsSec]

@[simp] theorem loopCfg_touchSession : loopCfg (touchSession c s) l = loopCfg s l := by
  rw [loopCfg, loopsSec_touchSession, loopCfg]

@[simp] theorem loopState_touchSession : loopState (touchSession c s) l = loopState s l := by
  rw [loopState, touchSession_trp, loopState]

@[simp] theorem loopFaulted_touchSession : loopFaulted (touchSession c s) l = loopFaulted s l := by
  rw [loopFaulted, touchSession_trp, loopFaulted]

@[simp] theorem injecting_touchSession : injecting (touchSession c s) l = injecting s l := by
  rw [injecting, loopState_touchSession, touchSession_trp, injecting]

@[simp] theorem loopsInjecting_touchSession : loopsInjecting (touchSession c s) = loopsInjecting s := by
  rw [loopsInjecting, touchSession_trp, loopsInjecting]

@[simp] theorem captureState_touchSession :
    getF (touchSession c s) (F.TRP.CAP_STATE_STATE k) = getF s (F.TRP.CAP_STATE_STATE k) :=
  getF_touchSession fun i => by
    simp only [fieldKey, F.SEC.SES_IDLE, F.TRP.CAP_STATE_STATE]
    omega

/-! ### What TRP answers -/

theorem getF_trpResult (op : Nat) (r : Reply) (h : keysRise s.regs = true) :
    getF (showResult 9 op r s) F.TRP.CMD_RESULT_RESULT = r.result % 2 ^ 8 :=
  getF_setF_same _ F.TRP.CMD_RESULT_RESULT r.result (setF_keysRise s F.TRP.CMD_RESULT_OPCODE op h)

theorem showResult_trp (u op : Nat) (r : Reply) (s : State) : (showResult u op r s).trp = s.trp :=
  (showResult_moves u op r s).frame .trp rfl

/-- From `s` to `t` the command `x` has been accepted: it waits for the Curtain, behind those that wait already (R237). -/
structure TrpAccepts (x : Nat × Nat × Nat) (s t : State) : Prop where
  waits : t.trp = { s.trp with commands := s.trp.commands ++ [x] }
  result : getF t F.TRP.CMD_RESULT_RESULT = resOk
  parts : OnlyParts [.regs, .trp, .sec] s t

/-- A command of TRP that is legal and whose own checks let it pass is accepted. -/
theorem runCommand_trpAccepts {body : State → Body} (wf : WellKept s) (h : Admitted c roles s)
    (hbody : body (touchSession c s) = acceptTrp op a b (touchSession c s)) :
    TrpAccepts (op, a, b) s (runCommand 9 op c a (some roles) true body s).1 := by
  rw [runCommand_ok h hbody, touchSession_trp]
  have hqueued : Moves 0x800102 s
      { touchSession c s with trp := { s.trp with commands := s.trp.commands ++ [(op, a, b)] } } := by
    have hok := acceptTrp_moves op a b (touchSession c s) (m := 0x800102) rfl (moves_step (touchSession_moves c s) rfl moves_refl)
    rw [← touchSession_trp c s]
    exact hok _ _ _ rfl
  exact ⟨showResult_trp .., getF_trpResult op _ (hqueued.form wf).regs,
    onlyParts_of_moves s _ (moves_step (showResult_moves ..) rfl hqueued) rfl⟩

/-- A command of TRP that its own checks turn away with `e` leaves what waits, every loop and every slot. -/
theorem runCommand_trpRefuses {body : State → Body} {e : Nat} (wf : WellKept s) (h : Admitted c roles s) (he : e < 2 ^ 8)
    (hbody : body (touchSession c s) = .error e) :
    (runCommand 9 op c a (some roles) true body s).1.trp = s.trp ∧
      getF (runCommand 9 op c a (some roles) true body s).1 F.TRP.CMD_RESULT_RESULT = e := by
  rw [runCommand_error (by decide) h ((if_pos rfl).trans hbody)]
  have hrecord : Moves 0xa00002 s (emit (9 * 256 + 0xFF) op e a (touchSession c s)) :=
    moves_step (emit_moves ..) rfl (moves_step (touchSession_moves ..) rfl moves_refl)
  exact ⟨(showResult_trp ..).trans (hrecord.frame .trp rfl),
    (getF_trpResult op _ (hrecord.form wf).regs).trans (Nat.mod_eq_of_lt he)⟩

/-! ### The checks of each command (R237) -/

section Checks

variable (wf : WellKept s) (hlegal : trpLegal s = true)
include wf hlegal

section Start

variable {p : Nat} (h : Admitted c [roleEngineer] s) (hcfg : loopCfg s l ≠ none) (hp : p < (loopsSec s).profiles.length)
  (hfallback : (loopState s l).inFallback = false) (hfaulted : loopFaulted s l = false)
include h hcfg hp hfallback hfaulted

theorem injectStart_accepted (hidle : injecting s l = false)
    (hroom : loopsInjecting s + (s.trp.commands.filter (fun x => x.1 == 1)).length < 16) :
    TrpAccepts (1, l, p) s (cmdInjectStart c l p s).1 := by
  rw [cmdInjectStart, hlegal]
  refine runCommand_trpAccepts wf h ?_
  simp [hcfg, Nat.not_le.2 hp, hfallback, hfaulted, hidle, Nat.not_le.2 hroom, touchSession_trp]

theorem injectStart_conflict (hinj : injecting s l = true) :
    (cmdInjectStart c l p s).1.trp = s.trp ∧ getF (cmdInjectStart c l p s).1 F.TRP.CMD_RESULT_RESULT = resConflict := by
  rw [cmdInjectStart, hlegal]
  refine runCommand_trpRefuses wf h (by decide) ?_
  simp [hcfg, Nat.not_le.2 hp, hfallback, hfaulted, hinj]

end Start

theorem injectStop_accepted (h : Admitted c [roleOperator, roleEngineer] s) (hcfg : loopCfg s l ≠ none)
    (hinj : injecting s l = true) : TrpAccepts (2, l, 0) s (cmdInjectStop c l s).1 := by
  rw [cmdInjectStop, hlegal]
  refine runCommand_trpAccepts wf h ?_
  simp [hcfg, hinj]

variable (h : Admitted c [roleEngineer] s)
include h

theorem captureArm_accepted {d : Nat} (hk : k < 4) (hd : d < (loopsSec s).captures.length)
    (hidle : getF s (F.TRP.CAP_STATE_STATE k) = 0) (hfree : ∀ x ∈ s.trp.commands, x.1 = 3 → x.2.1 ≠ k) :
    TrpAccepts (3, k, d) s (cmdCaptureArm c k d s).1 := by
  rw [cmdCaptureArm, hlegal]
  refine runCommand_trpAccepts wf h ?_
  have hnone : s.trp.commands.any (fun x => x.1 == 3 && x.2.1 == k) = false := by
    simpa [List.any_eq_false] using hfree
  simp [Nat.not_lt.2 (Nat.le_of_lt_succ hk), hd, hidle, touchSession_trp, hnone]

theorem captureStop_accepted (hk : k < 4) (hused : getF s (F.TRP.CAP_STATE_STATE k) ≠ 0) :
    TrpAccepts (4, k, 0) s (cmdCaptureStop c k s).1 := by
  rw [cmdCaptureStop, hlegal]
  refine runCommand_trpAccepts wf h ?_
  simp [Nat.not_lt.2 (Nat.le_of_lt_succ hk), hused]

theorem repClear_accepted {x : LoopCfg} (hcfg : loopCfg s l = some x) (hrep : x.comp = 1) (hfaulted : loopFaulted s l = false) :
    TrpAccepts (5, l, 0) s (cmdRepClear c l s).1 := by
  rw [cmdRepClear, hlegal]
  refine runCommand_trpAccepts wf h ?_
  simp [hcfg, hrep, hfaulted]

end Checks

/-! ### INJECT_ENDED -/

theorem emitAll_trp (rs : List (Nat × Nat × Nat × Nat)) (s : State) : (emitAll rs s).trp = s.trp :=
  (emitAll_moves rs s).frame .trp rfl

theorem loopState_putLoop_same (x : LoopState) (hrise : keysRise s.trp.loops = true) : loopState (putLoop l x s) l = x :=
  tableGet_put_same _ _ _ _ hrise

theorem loopState_putLoop_other (x : LoopState) (hkl : k ≠ l) : loopState (putLoop l x s) k = loopState s k :=
  tableGet_put_other _ _ _ _ _ _ hkl.symm

/-- The state in which the injection of loop `l` has made its DURATION, which is recorded and shown (R234). -/
def injectionDone (l : Nat) (j : Injection) (s : State) : State :=
  showTrp (putLoop l { loopState s l with inj := none } (emitAll (injectionEnd l j 0) s))

theorem injectionDone_moves (l : Nat) (j : Injection) (s : State) : Moves 0x200102 s (injectionDone l j s) :=
  moves_step (showTrp_moves ..) rfl (moves_step (putLoop_moves ..) rfl (moves_step (emitAll_moves ..) rfl moves_refl))

theorem loopState_showTrp (k : Nat) (s : State) : loopState (showTrp s) k = loopState s k := rfl

theorem loopState_emitAll (rs : List (Nat × Nat × Nat × Nat)) (k : Nat) (s : State) :
    loopState (emitAll rs s) k = loopState s k := by
  rw [loopState, emitAll_trp, loopState]

theorem injectionDone_same (j : Injection) (hrise : keysRise s.trp.loops = true) :
    loopState (injectionDone l j s) l = { loopState s l with inj := none } := by
  rw [injectionDone, loopState_showTrp, loopState_putLoop_same _ (by rwa [emitAll_trp])]

theorem injectionDone_other (j : Injection) (hkl : k ≠ l) : loopState (injectionDone l j s) k = loopState s k := by
  rw [injectionDone, loopState_showTrp, loopState_putLoop_other _ hkl, loopState_emitAll]

section Ended

variable {j : Injection} (hinj : (loopState s l).inj = some j)
include hinj

theorem exec_injectEnded_due (hdue : ((loopsSec s).profiles.getD j.profile {}).duration ≤ j.made) :
    exec (.injectEnded l) s = .next (injectionDone l j s) := by
  show execInjectEnded l s = _
  simp only [execInjectEnded, hinj, ge_iff_le, if_pos hdue, injectionDone]

theorem exec_injectEnded_early (hearly : j.made < ((loopsSec s).profiles.getD j.profile {}).duration) :
    exec (.injectEnded l) s = .next s := by
  show execInjectEnded l s = _
  simp only [execInjectEnded, hinj, ge_iff_le, if_neg (Nat.not_le.2 hearly)]

end Ended

end Sys2Proof.Machine
end

section
/-! The statement about Tightrope's commands. -/

namespace Sys2Proof.Certificates

open Sys2Proof Sys2Proof.Machine

/-- Settles O36: each command's own checks let it pass, which leaves the queue of what waits for the Curtain one longer; and an
injection's end is a write of its loop's state. -/
theorem tightropeCommandsWaitForTheCurtain : Obligations.TightropeCommandsWaitForTheCurtain := by
  constructor
  · intro c s wf hlegal accepts
    have answer : ∀ {i : Instr} {x : Nat × Nat × Nat} {t : State}, exec i s = .next t → TrpAccepts x s t → accepts i x :=
      fun hexec h => ⟨_, hexec, h.waits, h.result, h.parts⟩
    refine ⟨fun h => ⟨fun l p hcfg hp hfallback hfaulted => ⟨fun hidle hroom => ?_, fun hinj => ?_⟩,
      fun k d hk hd hidle hfree => ?_, fun k hk hused => ?_, fun l x hcfg hrep hfaulted => ?_⟩, fun h l hcfg hinj => ?_⟩
    · exact answer rfl (injectStart_accepted wf hlegal h hcfg hp hfallback hfaulted hidle hroom)
    · exact ⟨_, rfl, injectStart_conflict wf hlegal h hcfg hp hfallback hfaulted hinj⟩
    · exact answer rfl (captureArm_accepted wf hlegal h hk hd hidle hfree)
    · exact answer rfl (captureStop_accepted wf hlegal h hk hused)
    · exact answer rfl (repClear_accepted wf hlegal h hcfg hrep hfaulted)
    · exact answer rfl (injectStop_accepted wf hlegal h hcfg hinj)
  · refine fun l j s hrise hinj => ⟨fun hdue => ?_, exec_injectEnded_early hinj⟩
    exact ⟨_, exec_injectEnded_due hinj hdue, injectionDone_same j hrise, fun k hkl => injectionDone_other j hkl,
      onlyParts_of_moves s _ (injectionDone_moves l j s) rfl⟩

end Sys2Proof.Certificates
end

section
/-! SUPPORT. What one instruction of the Carousel does (R241, R242, R262): it acts on the task's scan at its issue cycle, aborts
the scan, or is not the task's next one and does nothing. -/

namespace Sys2Proof.Machine

open Sys2Proof

variable {s : State} {t op slots c addr : Nat} {k : WorkEntry} {x y : Scan} {w : Word}

/-! ### Scans -/

theorem scanOf_congr {u : State} (h : u.car = s.car) (j : Nat) : scanOf u j = scanOf s j := by rw [scanOf, h, scanOf]

theorem scanOf_putScan_same (t : Nat) (y : Scan) (s : State) : scanOf (putScan t (some y) s) t = some y := by
  show tableGet none (tablePut none s.car.scans t (some y)) t = some y
  rw [tablePut, if_neg (Option.some_ne_none y)]
  exact tableGet_insert_same ..

theorem scanOf_putScan_other (y : Option Scan) {j : Nat} (h : j ≠ t) : scanOf (putScan t y s) j = scanOf s j :=
  tableGet_put_other _ _ _ _ _ _ h.symm

theorem elapseTo_car (c : Nat) (s : State) : (elapseTo c s).car = s.car := (elapseTo_moves c s).frame .car rfl

/-- The issue cycle is never past, so time goes on to it exactly. -/
theorem elapseTo_issueCycle (s : State) (t slice : Nat) (x : Scan) :
    (elapseTo (issueCycle s t slice x) s).tick.cycle = issueCycle s t slice x := by
  rw [elapseTo_tick]
  exact Nat.max_eq_left (Nat.le_max_left ..)

/-! ### An instruction that acts -/

/-- Time has gone on to cycle `c`, and the scan of task `t` has become `y`. -/
def scanActs (t c : Nat) (y : Scan) (s : State) : State := putScan t (some y) (elapseTo c s)

theorem scanOf_scanActs_same (t c : Nat) (y : Scan) (s : State) : scanOf (scanActs t c y s) t = some y := scanOf_putScan_same ..

theorem scanOf_scanActs_other {j : Nat} (h : j ≠ t) : scanOf (scanActs t c y s) j = scanOf s j :=
  (scanOf_putScan_other _ h).trans (scanOf_congr (elapseTo_car c s) j)

theorem scanActs_items (t c : Nat) (y : Scan) (s : State) : (scanActs t c y s).car.items = s.car.items := by
  rw [← elapseTo_car c s]
  rfl

theorem scanActs_moves (t c : Nat) (y : Scan) (s : State) : Moves 0x218 s (scanActs t c y s) :=
  moves_step (putScan_moves ..) rfl (moves_step (elapseTo_moves ..) rfl moves_refl)

theorem carStep_acts {f : Word → Scan → Scan × Bool} (h : CarAt t op k x w s) : carStep t op slots none f s =
    if (f w (takeSlots s t k.slice slots x)).2 then
      arithEvent t x.addr op (scanActs t (issueCycle s t k.slice x) (f w (takeSlots s t k.slice slots x)).1 s)
    else scanActs t (issueCycle s t k.slice x) (f w (takeSlots s t k.slice slots x)).1 s := by
  obtain ⟨hscan, hwork, hinstr, hop, hgoing, hruns, hopen⟩ := h
  simp [carStep, hscan, hwork, hinstr, hop, hgoing, hruns, hopen, scanActs]

/-! ### An instruction that reads an uncorrectable error -/

/-- At cycle `c`, the scan of task `t` is aborted over the error at `addr`. -/
def scanAborts (t c addr : Nat) (s : State) : State := abortScan t addr (noteUe 6 addr (some 10) (elapseTo c s))

theorem carStep_aborts {f : Word → Scan → Scan × Bool} (h : CarAt t op k x w s) :
    carStep t op slots (some addr) f s = scanAborts t (issueCycle s t k.slice x) addr s := by
  obtain ⟨hscan, hwork, hinstr, hop, hgoing, hruns, hopen⟩ := h
  simp [carStep, hscan, hwork, hinstr, hop, hgoing, hruns, hopen, scanAborts]

theorem scanOf_abortScan (t addr j : Nat) (s : State) : scanOf (abortScan t addr s) j = none := rfl

theorem mem_forceFault_abortScan (t addr : Nat) (s : State) : 10 ∈ (abortScan t addr s).tick.forceFault :=
  List.mem_append_right _ (List.mem_singleton_self _)

theorem abortScan_items (t addr : Nat) (s : State) : (abortScan t addr s).car.items = s.car.items := by
  rw [abortScan, (emit_moves ..).frame .car rfl]
  rfl

theorem abortScan_cycle (t addr : Nat) (s : State) : (abortScan t addr s).tick.cycle = s.tick.cycle := by
  rw [abortScan, emit_tick]
  rfl

theorem scanOf_scanAborts (t c addr : Nat) (s : State) : scanOf (scanAborts t c addr s) t = none := scanOf_abortScan ..

theorem scanAborts_items (t c addr : Nat) (s : State) : (scanAborts t c addr s).car.items = s.car.items := by
  rw [scanAborts, abortScan_items, (noteUe_moves ..).frame .car rfl, elapseTo_car]

theorem scanAborts_cycle (t c addr : Nat) (s : State) : (scanAborts t c addr s).tick.cycle = (elapseTo c s).tick.cycle := by
  rw [scanAborts, abortScan_cycle, (noteUe_moves ..).frame .tick rfl]

theorem scanAborts_moves (t c addr : Nat) (s : State) : Moves 0x60021a s (scanAborts t c addr s) :=
  moves_step (abortScan_moves ..) rfl (moves_step (noteUe_moves ..) rfl (moves_step (elapseTo_moves ..) rfl moves_refl))

/-! ### The two halves of an instruction's statement -/

/-- A command that aborts the scan wherever the task stands at its opcode meets the statement about errors. -/
theorem carReadsError_of_aborts {i : Nat → Instr} (hi : ∀ {k x w} {addr : Nat} {s}, CarAt t op k x w s →
    exec (i addr) s = .next (scanAborts t (issueCycle s t k.slice x) addr s)) : CarReadsError i t op :=
  fun k x _ _ s h => ⟨_, hi h, scanOf_scanAborts .., mem_forceFault_abortScan .., scanAborts_items ..,
    (scanAborts_cycle ..).trans (elapseTo_issueCycle s t k.slice x), onlyParts_of_moves s _ (scanAborts_moves ..) rfl⟩

theorem carReadsError_of_carStep {i : Nat → Instr} {f : State → Word → Scan → Scan × Bool}
    (hi : ∀ addr s, exec (i addr) s = .next (carStep t op slots (some addr) (f s) s)) : CarReadsError i t op :=
  carReadsError_of_aborts fun h => by rw [hi, carStep_aborts h]

/-- A command that is one step of the Carousel without arithmetic events, with action `f`, does `f` to its task's scan. -/
theorem carDoes_of_carStep {i : Option Nat → Instr} {f : State → Word → Scan → Scan}
    (hi : ∀ ue s, exec (i ue) s = .next (carStep t op slots ue (plain (f s)) s)) : CarDoes i t op slots f := by
  refine ⟨fun k x w s h => ?_, carReadsError_of_carStep (f := fun s => plain (f s)) fun addr => hi (some addr)⟩
  refine ⟨_, (hi none s).trans (congrArg Host.Outcome.next (carStep_acts h)), scanOf_scanActs_same ..,
    fun j => scanOf_scanActs_other, scanActs_items .., elapseTo_issueCycle .., onlyParts_of_moves s _ (scanActs_moves ..) rfl⟩

/-- The action of an instruction in other words. -/
theorem carDoes_congr {i : Option Nat → Instr} {f g : State → Word → Scan → Scan} (h : CarDoes i t op slots g)
    (hfg : ∀ s w x, f s w x = g s w x) : CarDoes i t op slots f := by
  obtain rfl : f = g := funext fun s => funext₂ (hfg s)
  exact h

/-! ### An instruction that is not the task's next one -/

theorem carStep_of_not_carAt {ue : Option Nat} {f : Word → Scan → Scan × Bool} (h : ∀ k x w, ¬ CarAt t op k x w s) :
    carStep t op slots ue f s = s := by
  unfold carStep
  split
  case h_2 => rfl
  case h_1 x k hscan hwork =>
    split
    · rfl
    case h_2 w hinstr =>
      refine if_neg fun hnext => h k x w ?_
      simp only [Bool.and_eq_true, Bool.not_eq_true', beq_iff_eq] at hnext
      obtain ⟨⟨⟨hruns, hgoing⟩, hop⟩, hopen⟩ := hnext
      exact ⟨hscan, hwork, hinstr, hop, hgoing, hruns, hopen⟩

end Sys2Proof.Machine
end

section
/-! The statement about the bit instructions. -/

namespace Sys2Proof.Certificates

open Sys2Proof Sys2Proof.Machine

/-- Settles O15: each of these instructions is one step of the Carousel whose action is the one stated. -/
theorem carouselBitsStackAndJumps : Obligations.CarouselBitsStackAndJumps := by
  refine ⟨fun t => ⟨?_, ?_, ?_, ?_, ?_, ?_, ?_, ?_, ?_, ?_, ?_, ?_, ?_, ?_, ?_⟩, fun t => ⟨?_, ?_, ?_, ?_, ?_, ?_, ?_, ?_, ?_⟩⟩
  all_goals exact carDoes_of_carStep fun _ _ => rfl

end Sys2Proof.Certificates
end

section
/-! SUPPORT. The off-delay timer of R253, by its input. -/

namespace Sys2Proof.Machine

theorem timerOff_eq (inp : Bool) (p preset : Nat) (y : TimerState) : timerOff inp p preset y =
    if inp then { y with elapsed := 0, q := true, lastIn := true }
    else if y.q then { y with
      elapsed := min (y.elapsed + p) 0xFFFFFFFF, q := decide (min (y.elapsed + p) 0xFFFFFFFF < preset), lastIn := false }
    else { y with lastIn := false } := by
  cases inp <;> rfl

end Sys2Proof.Machine
end

section
/-! The statement about timers, counters and edge detectors. -/

namespace Sys2Proof.Certificates

open Sys2Proof Sys2Proof.Machine

/-- Settles O16: each of these instructions is one step of the Carousel whose action is the one stated; that of TOF is stated by
the two values of its input. -/
theorem carouselTimersCountersEdges : Obligations.CarouselTimersCountersEdges := by
  intro t
  refine ⟨?_, ?_, ?_, ?tof, ?_, ?_, ?_⟩
  case tof =>
    exact carDoes_congr (carDoes_of_carStep fun _ _ => rfl)
      fun s w x => congrArg (finishTimer (carIndex w) · x) (timerOff_eq ..).symm
  all_goals exact carDoes_of_carStep fun _ _ => rfl

end Sys2Proof.Certificates
end

section
/-! SUPPORT. The words that the Carousel computes (R251). -/

namespace Sys2Proof.Machine

variable {a b : F32}

theorem satWord_eq (i : Int) : satWord i = BitVec.ofInt 32 (max (-2147483648) (min 2147483647 i)) := by
  rw [satWord, clampI32, min_comm]

theorem beq_eq_decide_toInt (a b : Word) : (a == b) = decide (a.toInt = b.toInt) := by
  rw [decide_eq_decide.2 BitVec.toInt_inj]
  rfl

/-- A NaN is unordered. -/
theorem fvCmp_nan (v : FVal) : fvCmp v .nan = none := by cases v <;> rfl

theorem fvCmp_self {v : FVal} (h : v ≠ .nan) : fvCmp v v = some 0 := by
  cases v with
  | nan => exact absurd rfl h
  | inf => simp [fvCmp]
  | fin => simp [fvCmp]

theorem f32Lt_nan (h : f32Nan a = true ∨ f32Nan b = true) : f32Lt a b = false := by
  simp only [f32Nan, beq_iff_eq] at h
  rcases h with h | h
  · rw [f32Lt, h]; rfl
  · rw [f32Lt, h, fvCmp_nan]; rfl

theorem carMin_nan (h : f32Nan a = true ∨ f32Nan b = true) : carMin a b = 0x7FC00000 := if_pos (Bool.or_eq_true_iff.2 h)

theorem carMax_nan (h : f32Nan a = true ∨ f32Nan b = true) : carMax a b = 0x7FC00000 := if_pos (Bool.or_eq_true_iff.2 h)

theorem fvCmp_f32v_self (h : f32Nan a = false) : fvCmp (f32v a) (f32v a) = some 0 := fvCmp_self (beq_eq_false_iff_ne.1 h)

theorem f32Lt_self (h : f32Nan a = false) : f32Lt a a = false := by rw [f32Lt, fvCmp_f32v_self h]; rfl

theorem f32Eq_self (h : f32Nan a = false) : f32Eq a a = true := by rw [f32Eq, fvCmp_f32v_self h]; rfl

theorem carMin_self (h : f32Nan a = false) : carMin a a = a := by simp [carMin, h, f32Eq_self h]

theorem carMax_self (h : f32Nan a = false) : carMax a a = a := by simp [carMax, h, f32Eq_self h]

end Sys2Proof.Machine
end

section
/-! The statement about word and binary32 arithmetic. -/

namespace Sys2Proof.Certificates

open Sys2Proof Sys2Proof.Machine

/-- Settles O17: each of these instructions is one step of the Carousel whose action is the one stated, with saturation and
equality of words in the statement's terms; the rest is the order of binary32. -/
theorem carouselWordAndFloatArithmetic : Obligations.CarouselWordAndFloatArithmetic := by
  refine ⟨fun t => ⟨?_, ?_, ?addi, ?subi, ?muli, ?_, ?_, ?_, ?eqi, ?_, ?_, ?_⟩, fun t => ⟨?_, ?_, ?_, ?_, ?_, ?_, ?_⟩,
    fun a b => ⟨fun h => ⟨carMin_nan h, carMax_nan h, f32Lt_nan h⟩, fun h => ⟨carMin_self h, carMax_self h, f32Lt_self h⟩⟩,
    by decide, by decide⟩
  case addi | subi | muli =>
    exact carDoes_congr (carDoes_of_carStep fun _ _ => rfl) fun s w x => congrArg (fun v => { x with wa := v }) (satWord_eq _).symm
  case eqi =>
    exact carDoes_congr (carDoes_of_carStep fun _ _ => rfl)
      fun s w x => congrArg (fun b => { x with ba := b }) (beq_eq_decide_toInt ..).symm
  all_goals exact carDoes_of_carStep fun _ _ => rfl

end Sys2Proof.Certificates
end

section
/-! SUPPORT. Arithmetic events (R251). -/

namespace Sys2Proof.Machine

open Sys2Proof

variable {s : State} {t op slots addr : Nat} {k : WorkEntry} {x : Scan} {w : Word}

/-- From `s` to `u` an arithmetic event was counted and shown, and perhaps recorded, as a scan went on. -/
structure CountsArith (s u : State) : Prop where
  shown : flag u F.CAR.STATUS_ARITH = true
  counted : getF u F.CAR.ARITH_COUNT = min (getF s F.CAR.ARITH_COUNT + 1) 0xFFFFFFFF
  parts : OnlyParts [.regs, .car, .tick, .clap, .cont] s u

theorem flag_arithEvent (h : keysRise s.regs = true) : flag (arithEvent t addr op s) F.CAR.STATUS_ARITH = true := by
  rw [flag, arithEvent, getF_emit]
  exact flag_setF_one _ rfl (setF_keysRise _ _ _ h)

theorem getF_arithEvent_count (h : keysRise s.regs = true) :
    getF (arithEvent t addr op s) F.CAR.ARITH_COUNT = min (getF s F.CAR.ARITH_COUNT + 1) 0xFFFFFFFF := by
  rw [arithEvent, getF_emit, getF_setF_other _ _ _ _ (by decide), getF_bumpF_same _ _ _ rfl h]

theorem scanOf_arithEvent (j : Nat) : scanOf (arithEvent t addr op s) j = scanOf s j :=
  scanOf_congr ((arithEvent_moves ..).frame .car rfl) j

theorem countsArith_scanActs {c : Nat} {y : Scan} (wf : WellKept s) : CountsArith s (arithEvent t addr op (scanActs t c y s)) := by
  have hmoves := scanActs_moves t c y s
  have hcount : getF (scanActs t c y s) F.CAR.ARITH_COUNT = getF s F.CAR.ARITH_COUNT := getF_congr _ _ _ (hmoves.frame .regs rfl)
  refine ⟨flag_arithEvent (hmoves.form wf).regs, ?_,
    onlyParts_of_moves s _ (m := 0x20021a) (moves_step (arithEvent_moves ..) rfl (moves_step hmoves rfl moves_refl)) rfl⟩
  rw [getF_arithEvent_count (hmoves.form wf).regs, hcount]

/-- An instruction with arithmetic events, where its task stands at it: its action tells which of the two it was. -/
theorem exec_arith {i : Instr} {f : Word → Scan → Scan × Bool} (hi : exec i s = .next (carStep t op slots none f s))
    (wf : WellKept s) (h : CarAt t op k x w s) :
    ∃ u, exec i s = .next u ∧ scanOf u t = some (f w (takeSlots s t k.slice slots x)).1 ∧
      ((f w (takeSlots s t k.slice slots x)).2 = true → CountsArith s u) ∧
      ((f w (takeSlots s t k.slice slots x)).2 = false → OnlyParts [.car, .tick, .clap] s u) := by
  refine ⟨_, hi.trans (congrArg Host.Outcome.next (carStep_acts h)), ?_, fun hevent => ?_, fun hquiet => ?_⟩
  · split
    · rw [scanOf_arithEvent, scanOf_scanActs_same]
    · exact scanOf_scanActs_same ..
  · rw [if_pos hevent]
    exact countsArith_scanActs wf
  · rw [if_neg (Bool.eq_false_iff.1 hquiet)]
    exact onlyParts_of_moves s _ (scanActs_moves ..) rfl

theorem ftoiEvent_iff {a : F32} :
    ftoiEvent a = true ↔ f32Nan a = true ∨ carRound a < -2147483648 ∨ 2147483647 < carRound a := by
  rw [ftoiEvent, Bool.or_eq_true_iff, bne_iff_ne, clampI32]
  exact or_congr_right (by omega)

theorem divfEvent_iff {a b : F32} :
    divfEvent a b = true ↔ f32Finite a = true ∧ f32Finite b = true ∧ f32Finite (f32Div a b) = false := by
  simp only [divfEvent, Bool.and_eq_true, Bool.not_eq_true', and_assoc]

end Sys2Proof.Machine
end

section
/-! The statement about arithmetic events. -/

namespace Sys2Proof.Certificates

open Sys2Proof Sys2Proof.Machine

/-- Settles O18: each of the three is one step of the Carousel, and its action tells whether an event is counted. -/
theorem carouselArithmeticEvents : Obligations.CarouselArithmeticEvents := by
  intro t k x w s event quiet wf
  have counts : ∀ {u}, CountsArith s u → event u := fun h => ⟨h.shown, h.counted, h.parts⟩
  refine ⟨fun h => ?_, fun h => ?_, fun h => ?_, ?_⟩
  · obtain ⟨u, hexec, hscan, hevent, hquiet⟩ := exec_arith (i := .carDivi t none) rfl wf h
    exact ⟨u, hexec, hscan, fun hzero => counts (hevent (beq_iff_eq.2 hzero)), fun hne => hquiet (beq_eq_false_iff_ne.2 hne)⟩
  · obtain ⟨u, hexec, hscan, hevent, hquiet⟩ := exec_arith (i := .carDivf t none) rfl wf h
    refine ⟨u, hexec, hscan, fun ha hb hq => counts (hevent (divfEvent_iff.2 ⟨ha, hb, hq⟩)),
      fun hfinite => hquiet (Bool.eq_false_iff.2 fun he => ?_)⟩
    obtain ⟨ha, hb, hq⟩ := divfEvent_iff.1 he
    rcases hfinite with h | h | h
    · exact Bool.noConfusion (h.symm.trans hq)
    · exact Bool.noConfusion (h.symm.trans ha)
    · exact Bool.noConfusion (h.symm.trans hb)
  · obtain ⟨u, hexec, hscan, hevent, hquiet⟩ := exec_arith (i := .carFtoi t none) rfl wf h
    refine ⟨u, hexec, hscan, fun hout => counts (hevent (ftoiEvent_iff.2 hout)),
      fun hnum hlo hhi => hquiet (Bool.eq_false_iff.2 fun he => ?_)⟩
    rcases ftoiEvent_iff.1 he with h | h | h
    · exact Bool.noConfusion (hnum.symm.trans h)
    · exact not_lt.2 hlo h
    · exact not_lt.2 hhi h
  · and_intros <;> exact carReadsError_of_carStep fun _ _ => rfl

end Sys2Proof.Certificates
end

section
/-! SUPPORT. END hands the scan's stores over (R246, R247), and a command of another instruction does nothing. -/

namespace Sys2Proof.Machine

open Sys2Proof

variable {s u : State} {t : Nat} {k : WorkEntry} {x y : Scan} {w : Word} {ue : Option Nat}

/-- A unit's result waits for its post. -/
def awaitPost (e : StagedEntry) (s : State) : State := { s with tick := { s.tick with outbox := s.tick.outbox ++ [e] } }

theorem onlyParts_awaitPost (e : StagedEntry) (s : State) : OnlyParts [.tick] s (awaitPost e s) := by
  intro p hp
  cases p
  case tick => exact absurd (List.mem_singleton_self _) hp
  all_goals rfl

/-- What END adds to its step from `s` to `u`: where that ended the scan of task `t`, its result waits for its post. -/
def endHandsOver (t : Nat) (s u : State) : State :=
  match scanOf u t with
  | some x =>
    if !((scanOf s t).map Scan.ended).getD false && ((scanOf u t).map Scan.ended).getD false then awaitPost (scanEntry u t x) u
    else u
  | none => u

theorem endHandsOver_ended (hs : scanOf s t = some x) (hgoing : x.ended = false) (hu : scanOf u t = some y)
    (hended : y.ended = true) : endHandsOver t s u = awaitPost (scanEntry u t y) u := by
  simp [endHandsOver, hs, hu, hgoing, hended]

theorem endHandsOver_none (h : scanOf u t = none) : endHandsOver t s u = u := by rw [endHandsOver, h]

theorem endHandsOver_self (t : Nat) (s : State) : endHandsOver t s s = s := by
  unfold endHandsOver
  split
  · exact if_neg (by simp)
  · rfl

/-- END is a step of the Carousel that ends the scan, and hands the result over. -/
theorem exec_carEnd (t : Nat) (ue : Option Nat) (s : State) : exec (.carEnd t ue) s =
    .next (endHandsOver t s (carStep t 0x3B 1 ue (plain fun _ x => { x with ended := true }) s)) := rfl

theorem carReadsError_carEnd (t : Nat) : CarReadsError (fun addr => .carEnd t (some addr)) t 0x3B :=
  carReadsError_of_aborts fun h => by rw [exec_carEnd, carStep_aborts h, endHandsOver_none (scanOf_scanAborts ..)]

theorem exec_carEnd_acts (h : CarAt t 0x3B k x w s) :
    let y : Scan := { takeSlots s t k.slice 1 x with ended := true }
    let u := scanActs t (issueCycle s t k.slice x) y s
    exec (.carEnd t none) s = .next (awaitPost (scanEntry u t y) u) := by
  intro y u
  rw [exec_carEnd, carStep_acts h]
  obtain ⟨hscan, -, -, -, hgoing, -⟩ := h
  exact congrArg Host.Outcome.next (endHandsOver_ended hscan hgoing (scanOf_scanActs_same t _ y s) rfl)

theorem scanEntry_congr (h : u.cfg = s.cfg) (t : Nat) (x : Scan) : scanEntry u t x = scanEntry s t x := by
  rw [scanEntry, periodOf, taskWork, h]
  rfl

theorem taskShown_ended (h : scanOf s t = some x) (hended : x.ended = true) : taskShown s t = (0, 0, (logicTask s t).first) := by
  simp [taskShown, h, hended]

theorem logicTask_congr (h : u.cfg = s.cfg) (t : Nat) : logicTask u t = logicTask s t := by rw [logicTask, logicSec, h]; rfl

/-- Each instruction does nothing where the task does not stand at it. -/
theorem exec_carInstruction_of_not_carAt :
    ∀ i ∈ carInstructions t ue, (∀ k x w, ¬ CarAt t i.1 k x w s) → exec i.2 s = .next s := by
  have hlast : carInstructions t ue = (carInstructions t ue).take 53 ++ [(0x3B, .carEnd t ue)] := rfl
  rw [hlast, List.forall_mem_append, List.forall_mem_singleton]
  constructor
  · rw [← List.forall_iff_forall_mem]
    simp only [carInstructions, List.take_succ_cons, List.take_zero, List.Forall]
    and_intros <;> exact fun h => congrArg Host.Outcome.next (carStep_of_not_carAt h)
  · intro h
    rw [exec_carEnd, carStep_of_not_carAt h, endHandsOver_self]

end Sys2Proof.Machine
end

section
/-! The statement about END and about instructions that do nothing. -/

namespace Sys2Proof.Certificates

open Sys2Proof Sys2Proof.Machine

/-- Settles O19: END is one step of the Carousel with the result handed over, and every instruction does nothing where its task
does not stand at it, which each of the listed conditions says. -/
theorem carouselEndAndWindows : Obligations.CarouselEndAndWindows := by
  refine ⟨fun t k x w s h => ?_, carReadsError_carEnd, fun t ue s hidle i hi => ?_, fun t ue x w s hscan hinstr i hi hop => ?_⟩
  · let y : Scan := { takeSlots s t k.slice 1 x with ended := true }
    have hscan := scanOf_scanActs_same t (issueCycle s t k.slice x) y s
    have hmoves := scanActs_moves t (issueCycle s t k.slice x) y s
    have hcfg := hmoves.frame .cfg rfl
    refine ⟨_, exec_carEnd_acts h, hscan, ?_, rfl, ?_,
      onlyParts_trans (onlyParts_of_moves s _ hmoves rfl) (onlyParts_mono (onlyParts_awaitPost _ _) (by simp))⟩
    · rw [scanEntry_congr hcfg]
      rfl
    · rw [← logicTask_congr hcfg]
      exact taskShown_ended hscan rfl
  · refine exec_carInstruction_of_not_carAt i hi fun k x w hat => ?_
    obtain ⟨hscan, hwork, -, -, hgoing, hruns, hopen⟩ := hat
    simp [hscan, hwork, hgoing, hruns, hopen] at hidle
  · refine exec_carInstruction_of_not_carAt i hi fun k y v hat => hop ?_
    obtain ⟨hscan', -, hinstr', hop', -⟩ := hat
    obtain rfl : x = y := Option.some.inj (hscan.symm.trans hscan')
    obtain rfl : w = v := Option.some.inj (hinstr.symm.trans hinstr')
    exact hop'

end Sys2Proof.Certificates
end

section
/-! SUPPORT. The counts of the billing registers do not run back: what adds to a register, and what leaves the registers alone
(R279, R305). -/

namespace Sys2Proof.Machine

open Sys2Proof

variable {m : Nat} {q s t u : State}

/-! ### The order of the counts -/

/-- No billing register that is within 64 bits counts less in `t` than in `s`, and none that is beyond falls below the largest
count. -/
structure CountsRise (s t : State) : Prop where
  le : ∀ i, min (accumAt s i).count countMax ≤ (accumAt t i).count

theorem countsRise_of_accum (h : t.bat.accum = s.bat.accum) : CountsRise s t := by
  refine ⟨fun i => ?_⟩
  rw [accumAt, accumAt, h]
  exact Nat.min_le_left _ _

theorem countsRise_refl : CountsRise s s := countsRise_of_accum rfl

theorem countsRise_trans (h1 : CountsRise s t) (h2 : CountsRise t u) : CountsRise s u := by
  refine ⟨fun i => ?_⟩
  have hst := h1.le i
  have htu := h2.le i
  omega

theorem countsRise_keep (h0 : CountsRise s t) (h : u.bat.accum = t.bat.accum) : CountsRise s u :=
  countsRise_trans h0 (countsRise_of_accum h)

/-- An operation that does not move the billing registers. -/
theorem countsRise_step (h1 : Moves m t u) (hm : m.testBit 30 = false) (h0 : CountsRise s t) : CountsRise s u :=
  countsRise_keep h0 (h1.frame .accum hm)

theorem countsRise_ite {c : Prop} [Decidable c] (h1 : CountsRise q s) (h2 : CountsRise q t) :
    CountsRise q (if c then s else t) := by
  split <;> assumption

theorem countsRise_foldl {α : Type} {l : List α} {f : State → α → State} (hf : ∀ t x, CountsRise t (f t x)) :
    CountsRise s (l.foldl f s) := by
  induction l generalizing s with
  | nil => exact countsRise_refl
  | cons x l ih => exact countsRise_trans (hf s x) ih

/-! ### A write to one register -/

/-- A register reads at least the count just written, whatever the order of the table: only an empty register is left out of it. -/
theorem count_le_tablePut (t : Table Accum) (i : Nat) (x : Accum) : x.count ≤ (tableGet {} (tablePut {} t i x) i).count := by
  unfold tablePut
  split
  next h => rw [h]; exact Nat.zero_le _
  next => rw [tableGet_insert_same]

theorem countsRise_put {b : BatPart} (i : Nat) (x : Accum) (hb : b.accum = tablePut {} s.bat.accum i x)
    (hx : min (accumAt s i).count countMax ≤ x.count) : CountsRise s { s with bat := b } := by
  refine ⟨fun j => ?_⟩
  show _ ≤ (tableGet {} b.accum j).count
  rw [hb]
  by_cases h : i = j
  · subst h
    exact hx.trans (count_le_tablePut _ _ _)
  · rw [tableGet_put_other _ _ _ _ _ _ h]
    exact Nat.min_le_left _ _

theorem addAccum_countsRise (i : Nat) (x : F64) (s : State) : CountsRise s (addAccum i x s) :=
  countsRise_ite countsRise_refl (countsRise_put i _ rfl (min_le_min_right _ (Nat.le_add_right _ _)))

theorem stepCount_countsRise (i n : Nat) (s : State) : CountsRise s (stepCount i n s) :=
  countsRise_ite countsRise_refl (countsRise_put i _ rfl (min_le_min_right _ (Nat.le_add_right _ _)))

/-! ### The meters -/

theorem addEnergy_countsRise (e : ElecMetro) (d : WindowData) (r : WindowResult) (m : MeterCfg) (s : State) :
    CountsRise s (addEnergy e d r m s) := by
  unfold addEnergy
  refine countsRise_ite countsRise_refl ?_
  refine countsRise_ite ?_ ?_
  · exact countsRise_trans (addAccum_countsRise ..) (addAccum_countsRise ..)
  · exact countsRise_step (flagInterval_moves ..) rfl (addAccum_countsRise ..)

/-! ### The calculators -/

theorem addHeat_countsRise (c : CalcCfg) (heat back : Bool) (tariff : Nat) (e : F64) (s : State) :
    CountsRise s (addHeat c heat back tariff e s) :=
  countsRise_ite (countsRise_trans (addAccum_countsRise ..) (stepCount_countsRise ..)) (addAccum_countsRise ..)

/-! ### The battery channels -/

theorem batteryChannel_countsRise (c : Nat) (v : F64) (s : State) : CountsRise s (batteryChannel c v s) := by
  unfold batteryChannel
  split
  · exact countsRise_refl
  next ratio rated _ =>
    extract_lets a mah s1 on
    have h1 : CountsRise s s1 :=
      countsRise_step setF_moves rfl (countsRise_ite countsRise_refl (addAccum_countsRise ..))
    clear_value s1
    have hlogged : ∀ (k x : Nat) (b : BatPart), b.accum = s1.bat.accum → CountsRise s (logBattery k c x { s1 with bat := b }) :=
      fun k x b hb => countsRise_step (logBattery_moves ..) rfl (countsRise_keep h1 hb)
    split
    · exact countsRise_ite (hlogged _ _ _ rfl) h1
    · exact countsRise_ite (hlogged _ _ _ rfl) (countsRise_keep h1 rfl)

theorem execBatterySecond_countsRise {rms : List F64} (h : execBatterySecond rms s = .next t) : CountsRise s t := by
  cases h
  have h1 : CountsRise s (bumpF F.BAT.ELAPSED_S 1 s) := countsRise_step (bumpF_moves ..) rfl countsRise_refl
  exact countsRise_ite countsRise_refl (countsRise_ite h1
    (countsRise_trans h1 (countsRise_foldl fun t c => batteryChannel_countsRise ..)))

end Sys2Proof.Machine
end

section
/-! SUPPORT. The counts of the billing registers do not run back over a tick, a closed window, or a restart and what leads to one
(R26, R279, R299, R306, R309). -/

namespace Sys2Proof.Machine

open Sys2Proof

variable {s t u : State}

/-! ### A tick -/

/-- A value that is drawn, or not. -/
theorem countsRise_drawn {c : Prop} [Decidable c] {x : F64} (h : (if c then drawFree t else (0, t)) = (x, u))
    (h0 : CountsRise s t) : CountsRise s u := by
  split at h
  · exact countsRise_keep h0 (by rw [← show (drawFree t).2 = u by rw [h]]; rfl)
  · cases h
    exact h0

theorem calcTick_countsRise (c : CalcCfg) (s : State) : CountsRise s (calcTick c s) := by
  unfold calcTick
  extract_lets k x s0 vol v moving back flow w
  have h0 : CountsRise s s0 := countsRise_ite countsRise_refl <| countsRise_step (emit_moves ..) rfl <|
    countsRise_step setF_moves rfl (countsRise_step (putCalc_moves ..) rfl countsRise_refl)
  refine countsRise_ite countsRise_refl (countsRise_ite (countsRise_step (flagCalc_moves ..) rfl <|
    countsRise_step setF_moves rfl (countsRise_step (putCalc_moves ..) rfl countsRise_refl)) ?_)
  split
  next openForward sf hf =>
  split
  next openReturn sr hr =>
  extract_lets fwd ret tariff s1 x1 s2 ok s3 x3 s4 s5 terms wide e s6 power kf x6
  have h1 : CountsRise s s1 := countsRise_step (flowCondition_moves ..) rfl <| countsRise_step (tempCondition_moves ..) rfl <|
    countsRise_step (showTariff_moves ..) rfl (countsRise_drawn hr (countsRise_drawn hf h0))
  have h2 : CountsRise s s2 := countsRise_step (putCalc_moves ..) rfl h1
  have h3 : CountsRise s s3 := countsRise_ite (countsRise_step (countError_moves ..) rfl h2) h2
  have h4 : CountsRise s s4 := countsRise_ite (countsRise_step (putCalc_moves ..) rfl h3) h3
  have h5 : CountsRise s s5 := countsRise_ite (countsRise_trans (countsRise_step (noteDirection_moves ..) rfl h4)
    (addAccum_countsRise ..)) h4
  have h6 : CountsRise s s6 := by
    simp only [s6]
    split
    · exact countsRise_ite (countsRise_trans h5 (addHeat_countsRise ..)) h5
    · exact h5
  exact countsRise_step setF_moves rfl <| countsRise_step setF_moves rfl <| countsRise_step setF_moves rfl <|
    countsRise_step setF_moves rfl <| countsRise_step setF_moves rfl <| countsRise_step (putCalc_moves ..) rfl h6

theorem botTick_countsRise (s : State) : CountsRise s (botTick s) := by
  unfold botTick
  split
  · exact countsRise_refl
  next m _ =>
    extract_lets s1 err s2
    have h1 : CountsRise s s1 := countsRise_foldl fun t c => calcTick_countsRise c t
    have h2 : CountsRise s s2 := countsRise_step setF_moves rfl h1
    exact countsRise_ite countsRise_refl (countsRise_ite h2 (countsRise_keep h2 rfl))

theorem unitTicks_countsRise (s : State) : CountsRise s (unitTicks s) := by
  unfold unitTicks
  extract_lets s1 s2 s3 s4
  have h1 : CountsRise s s1 := countsRise_ite (countsRise_of_accum rfl) countsRise_refl
  have h2 : CountsRise s s2 := countsRise_step (boeTick_moves ..) rfl (countsRise_step (expectNow_moves ..) rfl h1)
  have h3 : CountsRise s s3 :=
    countsRise_trans (countsRise_step (expectNow_moves ..) rfl h2) (botTick_countsRise _)
  have h4 : CountsRise s s4 := countsRise_step (stnTick_moves ..) rfl (countsRise_step (expectNow_moves ..) rfl h3)
  exact countsRise_step (canTick_moves ..) rfl (countsRise_step (expectNow_moves ..) rfl h4)

/-- Of what a tick does from its start on, the units' own work alone adds to registers. -/
theorem beginTick_countsRise (s : State) : CountsRise s (beginTick s) := by
  unfold beginTick
  extract_lets tick s0 s1 s2 s3 s4 s5
  have h0 : CountsRise s s0 := countsRise_of_accum rfl
  have h1 : CountsRise s s1 := countsRise_step (localRateUpdate_moves ..) rfl <| countsRise_step (driveAtTick_moves ..) rfl <|
    countsRise_step (endMoves_moves ..) rfl h0
  have h2 : CountsRise s s2 := countsRise_step (expireTakes_moves ..) rfl <| countsRise_step (stnFreeze_moves ..) rfl <|
    countsRise_step (canFreeze_moves ..) rfl <| countsRise_step (checkTimeouts_moves ..) rfl h1
  have h3 : CountsRise s s3 := countsRise_step (freezeSnapshot_moves ..) rfl (countsRise_step (tickPoints_moves ..) rfl h2)
  have h4 : CountsRise s s4 := countsRise_step (handOver_moves ..) rfl (countsRise_step (gateClusters_moves ..) rfl h3)
  have h5 : CountsRise s s5 := countsRise_step (jugTick_moves ..) rfl <| countsRise_step (checkShadowing_moves ..) rfl <|
    countsRise_step (startScans_moves ..) rfl <| countsRise_step (trpTick_moves ..) rfl h4
  exact countsRise_step (aliveToggle_moves ..) rfl (countsRise_trans h5 (unitTicks_countsRise _))

theorem execTickStart_countsRise {n : Nat} {ue : List ReadError} (h : exec (.tickStart n ue) s = .next t) : CountsRise s t := by
  by_cases hrun : ticksRun s = true ∧ s.tick.curtainDone = true
  · obtain ⟨hrun, hfallen⟩ := hrun
    rw [exec_tickStart hrun hfallen] at h
    cases h
    have hcounted : CountsRise s (tickCounted n s) := countsRise_of_accum (tickCounted_parts n .accum (by simp))
    exact countsRise_trans (countsRise_step (readErrors_moves ue _) rfl hcounted) (beginTick_countsRise _)
  · rw [exec_tickStart_of_not (by simpa [imp_iff_not_or] using hrun)] at h
    cases h
    exact countsRise_refl

theorem execGoLive_countsRise (h : exec .goLive s = .next t) : CountsRise s t := by
  rcases hz : s.dev.tickZeroAt with _ | z
  · rw [exec_goLive_idle s (.inr (.inr hz))] at h
    cases h
    exact countsRise_refl
  · rw [exec_goLive s hz] at h
    cases h
    have hlive : CountsRise s (wentLive z s) := countsRise_step (enterLive_moves ..) rfl (countsRise_of_accum rfl)
    have hfirst : CountsRise s (firstTick z s) := countsRise_step (digitalFirst_moves _) rfl <|
      countsRise_trans (countsRise_step (emit_moves ..) rfl hlive) (beginTick_countsRise _)
    exact countsRise_ite hfirst countsRise_refl

/-! ### The entry to BOOT with PD0 retained (R309) -/

theorem count_le_largerAccum (a b : Accum) : a.count ≤ (largerAccum a b).count := by
  unfold largerAccum
  split
  next h => exact Nat.le_of_lt h
  next =>
    split
    next => exact Nat.le_refl _
    next => split <;> omega

/-- Registers that take the larger of their own count and that of a save's image count no less than before. -/
theorem count_le_restored (image : Table Accum) (l : List Nat) (a : Table Accum) (j : Nat) : (tableGet {} a j).count ≤
    (tableGet {} (l.foldl (fun t i => tablePut {} t i (largerAccum (tableGet {} t i) (tableGet {} image i))) a) j).count := by
  induction l generalizing a with
  | nil => exact Nat.le_refl _
  | cons i l ih =>
    refine le_trans ?_ (ih _)
    by_cases h : i = j
    · subst h
      exact (count_le_largerAccum _ _).trans (count_le_tablePut _ _ _)
    · rw [tableGet_put_other _ _ _ _ _ _ h]

theorem restoreAccum_countsRise (s : State) : CountsRise s (restoreAccum true s).1 := by
  unfold restoreAccum
  split
  · exact countsRise_refl
  next v _ =>
    rw [if_pos rfl]
    extract_lets bad fixed acc errs
    have hacc : CountsRise s { s with bat := { s.bat with accum := acc } } :=
      ⟨fun j => (Nat.min_le_left _ _).trans (count_le_restored v.image bad s.bat.accum j)⟩
    exact countsRise_trans hacc (countsRise_foldl fun t k => countsRise_step setF_moves rfl countsRise_refl)

theorem batRestore_countsRise (s : State) : CountsRise s (batRestore true s) := by
  unfold batRestore
  refine countsRise_ite countsRise_refl ?_
  extract_lets s0
  have h0 : CountsRise s s0 := countsRise_step setF_moves rfl countsRise_refl
  clear_value s0
  split
  · exact countsRise_step (emitBat_moves ..) rfl (countsRise_step (showSave_moves ..) rfl (countsRise_step setF_moves rfl h0))
  · exact countsRise_step (emitBat_moves ..) rfl (countsRise_step setF_moves rfl h0)
  next v _ =>
    have hrestored : CountsRise s (restoreAccum true s0).1 := countsRise_trans h0 (restoreAccum_countsRise s0)
    generalize restoreAccum true s0 = x at hrestored ⊢
    obtain ⟨s1, n⟩ := x
    dsimp -zeta only
    extract_lets bat s2 s3 covered
    have h3 : CountsRise s s3 := countsRise_step (emitBat_moves ..) rfl <| countsRise_step (showSave_moves ..) rfl <|
      countsRise_step setF_moves rfl (countsRise_keep hrestored rfl)
    exact countsRise_ite h3 (countsRise_step (markGap_moves ..) rfl h3)
  · rw [if_pos rfl]
    exact countsRise_step (emitBat_moves ..) rfl (countsRise_step setF_moves rfl (countsRise_keep h0 rfl))

theorem enterBoot_countsRise (outage : Bool) (s : State) : CountsRise s (enterBoot true outage s) := by
  have hreset : CountsRise s (resetState s) := countsRise_step (resetState_moves s) rfl countsRise_refl
  have hprepared : CountsRise s (setState .boot (bootPrepared s)) := countsRise_step (setState_moves ..) rfl <|
    countsRise_step (bootPrepared_moves s) rfl (countsRise_step (newEpoch_moves _) rfl hreset)
  have hrestored := countsRise_trans hprepared (batRestore_countsRise _)
  exact countsRise_step (showSecHealth_moves ..) rfl <| countsRise_step (finishZeroise_moves ..) rfl <|
    countsRise_step (showKeys_moves ..) rfl <| countsRise_step (batReplay_moves true outage _) rfl hrestored

/-! ### Restarts (R79, R487, R488) -/

theorem restartFlush_countsRise (maintenance : Bool) (s : State) : CountsRise s (restartFlush maintenance s) := by
  have hsaved : CountsRise s (if present s 13 then writeLastSave 3 true s else s) :=
    countsRise_ite (countsRise_step (writeLastSave_moves ..) rfl countsRise_refl) countsRise_refl
  have hflushed := countsRise_step (flushAll_moves _) rfl hsaved
  unfold restartFlush
  refine countsRise_trans ?_ (enterBoot_countsRise false _)
  exact countsRise_keep hflushed rfl

theorem restart_countsRise (maintenance : Bool) (s : State) : CountsRise s (restart maintenance s) := by
  have hreleased : CountsRise s (restartReleased (leaveLive s)) :=
    countsRise_step (restartReleased_moves _) rfl (countsRise_step (leaveLive_moves s) rfl countsRise_refl)
  have hnow : CountsRise s (restartNow maintenance s) := by
    rw [restartNow_eq, flushOrWait]
    generalize restartReleased (leaveLive s) = u at hreleased ⊢
    exact countsRise_ite (countsRise_keep hreleased rfl) (countsRise_trans hreleased (restartFlush_countsRise ..))
  exact countsRise_ite countsRise_refl (countsRise_ite (countsRise_of_accum rfl) hnow)

theorem finishRestart_countsRise (s : State) : CountsRise s (finishRestart s) := by
  unfold finishRestart
  split
  · exact countsRise_ite countsRise_refl (restartFlush_countsRise ..)
  · exact countsRise_refl

theorem zeroise_countsRise (cause : Nat) (s : State) : CountsRise s (zeroise cause s) :=
  countsRise_trans (countsRise_step (eraseKeys_moves cause s) rfl countsRise_refl) (restart_countsRise ..)

theorem tamperResponse_countsRise (s : State) : CountsRise s (tamperResponse s) :=
  countsRise_trans (countsRise_step (emit_moves ..) rfl countsRise_refl) (zeroise_countsRise ..)

theorem debugOpen_countsRise (s : State) : CountsRise s (debugOpen s) := by
  have herased : CountsRise s (eraseKeys 2 s) := countsRise_step (eraseKeys_moves 2 s) rfl countsRise_refl
  exact countsRise_trans (countsRise_step (emit_moves ..) rfl <| countsRise_step (showCertified_moves ..) rfl <|
    countsRise_step setF_moves rfl herased) (restart_countsRise ..)

/-! ### The events that lead to a restart -/

theorem execX1Good_countsRise {a b : Nat} (h : execX1Good a b true s = .next t) : CountsRise s t := by
  cases h
  have hgood : CountsRise s (supplyGood a b true s) := countsRise_step (putFields_moves ..) rfl <|
    countsRise_trans (countsRise_step (stopMeasuring_moves s) rfl countsRise_refl) (countsRise_of_accum rfl)
  have hboot : CountsRise s (enterBoot true s.bat.measuring (supplyGood a b true s)) :=
    countsRise_trans hgood (enterBoot_countsRise ..)
  exact countsRise_ite (countsRise_ite (countsRise_trans hboot (tamperResponse_countsRise _)) hboot) countsRise_refl

theorem execLoadDone_countsRise {x : ReelImage} {c : CardInfo} (h : execLoadDone x c s = .next t) : CountsRise s t := by
  cases h
  refine countsRise_ite ?_ countsRise_refl
  have happlied : CountsRise s (reelApplied (loadedReel x s) c s) := countsRise_step (applyReel_moves ..) rfl <|
    countsRise_step (settleCrossings_moves _) rfl <| countsRise_step setF_moves rfl <|
      countsRise_step (skipSections_moves ..) rfl (countsRise_step (readCard_moves c s) rfl countsRise_refl)
  have hpassed : CountsRise s (loadPassed (loadedReel x s) c s) :=
    countsRise_step (loadPassed_moves ..) rfl (countsRise_step (bindSplice_moves _) rfl happlied)
  rw [finishLoad_eq]
  exact countsRise_ite (countsRise_trans hpassed (tamperResponse_countsRise _)) hpassed

theorem execTamperOpen_countsRise (h : execTamperOpen s = .next t) : CountsRise s t := by
  cases h
  have hopen : CountsRise s (tamperOpen s) := countsRise_step (tamperOpen_moves s) rfl countsRise_refl
  exact countsRise_ite (countsRise_ite (countsRise_trans hopen (tamperResponse_countsRise _))
    (countsRise_step (showSecHealth_moves _) rfl hopen)) hopen

theorem execReferenceReturned_countsRise (h : execReferenceReturned s = .next t) : CountsRise s t := by
  cases h
  split
  · refine countsRise_trans ?_ (restart_countsRise ..)
    exact countsRise_of_accum rfl
  · exact countsRise_of_accum rfl

end Sys2Proof.Machine
end

section
/-! SUPPORT. The counts of the billing registers do not run back over a command, whichever way it reaches its unit (R279, R505,
R509). -/

namespace Sys2Proof.Machine

open Sys2Proof

variable {s t : State}

/-! ### TXN and SEC, whose commands can restart the module -/

theorem thenRestart_countsRise (maintenance : Bool) {x : State × Reply} (h : CountsRise s x.1) :
    CountsRise s (thenRestart maintenance x).1 := by
  unfold thenRestart
  split
  · exact countsRise_trans h (restart_countsRise ..)
  · exact h

/-- A command whose own steps change nothing, and then a restart. -/
theorem restartCommand_countsRise (maintenance : Bool) (op : Nat) (c : Caller) (a0 : Nat) (roles : Option (List Nat)) (legal : Bool)
    (s : State) :
    CountsRise s (thenRestart maintenance (runCommand 2 op c a0 roles legal (fun t => .ok (t, resOk, 0)) s)).1 :=
  thenRestart_countsRise maintenance (countsRise_step (m := 0xa00002)
    (runCommand_moves _ _ _ _ _ _ _ _ rfl moves_refl fun _ ht => bodyMoves_ok ht) rfl countsRise_refl)

theorem secAfter_countsRise (op : Nat) {x : State × Reply} (h : CountsRise s x.1) : CountsRise s (secAfter op x).1 := by
  unfold secAfter
  split
  · exact h
  · split
    · dsimp only
      exact countsRise_trans h (zeroise_countsRise ..)
    · split
      · dsimp only
        exact countsRise_trans h (debugOpen_countsRise _)
      · exact h

theorem runSec_countsRise (op : Nat) (c : Caller) (a0 a1 a2 : Nat) (slow : Bool) (roles : Option (List Nat)) (legal : Bool)
    (s : State) : CountsRise s (runSec op c a0 a1 a2 slow roles legal s).1 := by
  refine secAfter_countsRise op (countsRise_step (m := 0x4e00082)
    (runCommand_moves _ _ _ _ _ _ _ _ rfl moves_refl fun u hu => ?_) rfl countsRise_refl)
  dsimp only
  split
  · exact bodyMoves_error _
  · split
    · exact bodyMoves_ok (moves_step (updSec_moves _ _ (fun _ => rfl)) rfl hu)
    · exact bodyMoves_ok (moves_step (secFinish_moves ..) rfl hu)

theorem execSecCommandDone_countsRise (h : execSecCommandDone s = .next t) : CountsRise s t := by
  cases h
  split
  · exact countsRise_refl
  next x _ =>
    have hown : CountsRise s (secFinish x (updSec (fun p => { p with busy := none }) s)).1 :=
      countsRise_step (secFinish_moves ..) rfl (countsRise_step (updSec_moves _ _ fun _ => rfl) rfl countsRise_refl)
    generalize secFinish x _ = y at hown ⊢
    obtain ⟨u, code, ret⟩ := y
    dsimp -zeta only
    extract_lets r t1 host t2
    have h1 : CountsRise s t1 := countsRise_step (commandDone_moves ..) rfl (countsRise_step (showResult_moves ..) rfl hown)
    have h2 : CountsRise s t2 := by
      simp only [t2]
      split
      · exact countsRise_step (replyTo_moves ..) rfl (countsRise_keep h1 rfl)
      · exact h1
    exact secAfter_countsRise _ h2

theorem txnCommand_countsRise (op : Nat) (c : Caller) (a0 a1 a2 : Nat) (s : State) :
    CountsRise s (txnCommand op c a0 a1 a2 s).1 := by
  unfold txnCommand
  split
  · exact countsRise_step (cmdOpen_moves ..) rfl countsRise_refl
  · exact countsRise_step (cmdStage_moves ..) rfl countsRise_refl
  · exact countsRise_step (cmdCommit_moves ..) rfl countsRise_refl
  · exact countsRise_step (cmdCut_moves ..) rfl countsRise_refl
  · exact countsRise_step (cmdReadTunable_moves ..) rfl countsRise_refl
  · exact countsRise_step (cmdGo_moves ..) rfl countsRise_refl
  · exact restartCommand_countsRise ..
  · exact restartCommand_countsRise ..
  · exact countsRise_step (cmdDiscardSpliceLog_moves ..) rfl countsRise_refl
  · exact countsRise_step (refuseOpcode_moves ..) rfl countsRise_refl

theorem secCommand_countsRise (op : Nat) (c : Caller) (a0 a1 a2 : Nat) (slow : Bool) (s : State) :
    CountsRise s (secCommand op c a0 a1 a2 slow s).1 := by
  unfold secCommand
  split
  case h_14 => exact countsRise_step (refuseOpcode_moves ..) rfl countsRise_refl
  all_goals exact runSec_countsRise ..

/-! ### Every unit -/

theorem unitCommand_countsRise {u op : Nat} {c : Caller} {a0 a1 a2 : Nat} {slow : Bool} {x : State × Reply}
    (h : unitCommand u op c a0 a1 a2 slow s = some x) : CountsRise s x.1 := by
  unfold unitCommand at h
  split at h <;> cases h
  · exact countsRise_step (tickCommand_moves ..) rfl countsRise_refl
  · exact txnCommand_countsRise ..
  · exact countsRise_step (clapCommand_moves ..) rfl countsRise_refl
  · exact countsRise_step (trpCommand_moves ..) rfl countsRise_refl
  · exact countsRise_step (boeCommand_moves ..) rfl countsRise_refl
  · exact countsRise_step (batCommand_moves ..) rfl countsRise_refl
  · exact countsRise_step (lrpCommand_moves ..) rfl countsRise_refl
  · exact countsRise_step (canCommand_moves ..) rfl countsRise_refl
  · exact countsRise_step (spotCommand_moves ..) rfl countsRise_refl
  · exact countsRise_step (memCommand_moves ..) rfl countsRise_refl
  · exact countsRise_step (contCommand_moves ..) rfl countsRise_refl
  · exact secCommand_countsRise ..
  · exact countsRise_step (hostCommand_moves ..) rfl countsRise_refl

/-! ### The ways to a unit: register writes, the submission queue, the management port -/

theorem writeCmd_countsRise (a v : Nat) (slow : Bool) (s : State) : CountsRise s (writeCmd a v slow s) := by
  unfold writeCmd
  extract_lets c
  split
  · exact unitCommand_countsRise ‹_›
  · exact countsRise_refl

theorem registerWrite_countsRise (w : HeldWrite) (s : State) : CountsRise s (registerWrite w s) :=
  countsRise_ite countsRise_refl (countsRise_ite (writeCmd_countsRise ..)
    (countsRise_step (hostWrite_moves ..) rfl countsRise_refl))

theorem execRegisterWrite_countsRise {a v : Nat} {slow : Bool} (h : execRegisterWrite a v slow s = .next t) : CountsRise s t := by
  unfold execRegisterWrite at h
  split at h
  · cases h
  · cases h
    exact countsRise_ite (countsRise_of_accum rfl) (registerWrite_countsRise ..)

theorem execCurtain_countsRise (h : exec .curtain s = .next t) : CountsRise s t := by
  rw [exec_curtain] at h
  cases h
  have hfalls : CountsRise s (curtainFalls s) := countsRise_step (curtainFalls_moves s) rfl countsRise_refl
  refine countsRise_trans ?_ (countsRise_foldl fun u w => registerWrite_countsRise w u)
  exact countsRise_keep hfalls rfl

theorem presentSubmission_countsRise (e : Submission) (rivals : List Transport) (slow : Bool) (s : State) :
    CountsRise s (presentSubmission e rivals slow s) := by
  unfold presentSubmission
  extract_lets c
  have hcomplete : ∀ (res : Nat), CountsRise s (complete e.unit e.opcode e.tag res 0 s) := fun _ =>
    countsRise_step (complete_moves ..) rfl countsRise_refl
  refine countsRise_ite (hcomplete _) (countsRise_ite (hcomplete _)
    (countsRise_ite (countsRise_step (gatedAccess_moves ..) rfl countsRise_refl) ?_))
  split
  · exact hcomplete _
  next u r hu =>
    have hdone := countsRise_step (complete_moves e.unit e.opcode e.tag r.result r.ret u) rfl (unitCommand_countsRise hu)
    exact countsRise_ite (countsRise_step (awaitSecond_moves ..) rfl hdone) hdone

theorem execSubmissionFetch_countsRise {e : Submission} {rivals : List Transport} {slow : Bool}
    (h : execSubmissionFetch e rivals slow s = .next t) : CountsRise s t := by
  cases h
  exact countsRise_ite (countsRise_trans (countsRise_step setF_moves rfl countsRise_refl) (presentSubmission_countsRise ..))
    countsRise_refl

theorem runMessage_countsRise (h : MgmtHead) (e : MgmtCall) (slot : Nat) (rivals : List Transport) (slow : Bool) (s : State) :
    CountsRise s (runMessage h e slot rivals slow s) := by
  unfold runMessage
  extract_lets ws host s1 reply
  have h1 : CountsRise s s1 := countsRise_step (loadInbox_moves ..) rfl (countsRise_of_accum rfl)
  have hreply : ∀ r out u, CountsRise s u → CountsRise s (reply r out u) := fun _ _ _ =>
    countsRise_step (sendResponse_moves ..) rfl
  clear_value reply s1
  refine countsRise_ite (hreply _ _ _ h1) (countsRise_ite (hreply _ _ _ h1)
    (countsRise_ite (countsRise_step (gatedAccess_moves ..) rfl h1) ?_))
  split
  · exact hreply _ _ _ h1
  next u r hu =>
    have hran : CountsRise s u := countsRise_trans h1 (unitCommand_countsRise hu)
    have hanswered : CountsRise s (answer 4 h.sessionId h.tag e.opcode (u, r)) :=
      countsRise_step (m := 0x400000) (answer_moves _ _ _ _ _ rfl moves_refl) rfl hran
    exact countsRise_ite hanswered
      (countsRise_ite (countsRise_step (awaitSecond_moves ..) rfl (hreply _ _ _ hran)) (hreply _ _ _ hran))

theorem execMgmtCommand_countsRise {d : Datagram} {rivals : List Transport} {slow : Bool}
    (h : execMgmtCommand d rivals slow s = .next t) : CountsRise s t := by
  cases h
  refine countsRise_ite countsRise_refl ?_
  split
  · exact countsRise_step (dropMessage_moves ..) rfl countsRise_refl
  next slot b _ =>
    have haccepted : CountsRise s (acceptSequence slot (mgmtHead d).sequence s) :=
      countsRise_step (acceptSequence_moves ..) rfl countsRise_refl
    exact countsRise_ite (countsRise_keep haccepted rfl) (countsRise_trans haccepted (runMessage_countsRise ..))

end Sys2Proof.Machine
end

section
/-! SUPPORT. What BOE does with a window that closes (R274, R278, R285): the energy of the set's own meters, one result, and the next
window. -/

namespace Sys2Proof.Machine

open Sys2Proof

variable {s t u : State} {e : ElecMetro} {d : WindowData}

/-! ### The windows of BOE -/

/-- Steps each of which leaves what is looked at. -/
theorem look_foldl {α β : Type} {f : State → α → State} {look : State → β} {l : List α}
    (h : ∀ t, ∀ x ∈ l, look (f t x) = look t) : look (l.foldl f s) = look s := by
  induction l generalizing s with
  | nil => rfl
  | cons x l ih =>
    rw [List.foldl_cons, ih fun t y hy => h t y (List.mem_cons_of_mem _ hy), h s x List.mem_cons_self]

/-- The windows in progress, those closed, and those that are ready for the next post. -/
def windowsOf (s : State) : List VoltageSet × List WindowResult × List WindowResult := (s.boe.sets, s.boe.closed, s.boe.ready)

theorem windowsOf_congr (h : t.boe = s.boe) : windowsOf t = windowsOf s := by
  rw [windowsOf, h, windowsOf]

theorem windowsOf_of_moves {m : Nat} (h : Moves m s t) (hm : m.testBit 12 = false) : windowsOf t = windowsOf s :=
  windowsOf_congr (h.frame .boe hm)

theorem windowsOf_foldl {α : Type} {l : List α} {f : State → α → State} (hf : ∀ t x, windowsOf (f t x) = windowsOf t) :
    windowsOf (l.foldl f s) = windowsOf s := look_foldl fun t x _ => hf t x

@[simp] theorem windowsOf_setF (f : Field) (v : Nat) : windowsOf (setF f v s) = windowsOf s := rfl

@[simp] theorem windowsOf_emit (code w1 w2 w3 : Nat) : windowsOf (emit code w1 w2 w3 s) = windowsOf s :=
  windowsOf_of_moves (emit_moves ..) rfl

@[simp] theorem windowsOf_flagInterval (m bit : Nat) : windowsOf (flagInterval m bit s) = windowsOf s := rfl

@[simp] theorem windowsOf_flagMeters (ms : List Nat) (bit : Nat) : windowsOf (flagMeters ms bit s) = windowsOf s :=
  windowsOf_foldl fun _ _ => rfl

@[simp] theorem windowsOf_haltMeter (m addr : Nat) : windowsOf (haltMeter m addr s) = windowsOf s := by
  unfold haltMeter
  split
  · rfl
  · simp only [windowsOf_emit, windowsOf_setF, windowsOf_flagInterval]
    rfl

@[simp] theorem windowsOf_boeConfigError (x : BoeError) : windowsOf (boeConfigError x s) = windowsOf s := by
  unfold boeConfigError
  split
  · exact windowsOf_foldl fun _ _ => windowsOf_haltMeter ..
  · rfl

@[simp] theorem windowsOf_addAccum (i : Nat) (x : F64) : windowsOf (addAccum i x s) = windowsOf s :=
  windowsOf_of_moves (addAccum_moves ..) rfl

@[simp] theorem windowsOf_addEnergy (r : WindowResult) (m : MeterCfg) : windowsOf (addEnergy e d r m s) = windowsOf s := by
  unfold addEnergy
  split
  · rfl
  · dsimp only
    split <;> simp only [windowsOf_addAccum, windowsOf_flagInterval]

@[simp] theorem windowsOf_windowFlags (r : WindowResult) : windowsOf (windowFlags e r s) = windowsOf s := by
  unfold windowFlags
  extract_lets s1 s2
  have h1 : windowsOf s1 = windowsOf s := windowsOf_foldl fun _ _ => rfl
  have h2 : windowsOf s2 = windowsOf s1 := by
    simp only [s2]
    split
    · exact windowsOf_flagMeters ..
    · rfl
  split
  · rw [windowsOf_flagMeters, h2, h1]
  · rw [h2, h1]

@[simp] theorem windowsOf_calWindow (openedAt : Nat) (r : WindowResult) : windowsOf (calWindow e openedAt r s) = windowsOf s := by
  unfold calWindow
  split
  · rfl
  · split
    · split <;> rfl
    · rfl

/-! ### The energy of a window (R278, R279) -/

/-- The registers of a meter, and only they, take its energy. -/
theorem accumAt_addAccum_other {i j : Nat} (x : F64) (h : i ≠ j) : accumAt (addAccum i x s) j = accumAt s j := by
  unfold addAccum
  split
  · rfl
  · exact tableGet_put_other _ _ _ _ _ _ h

theorem accumAt_congr (h : t.bat.accum = s.bat.accum) (i : Nat) : accumAt t i = accumAt s i := by
  rw [accumAt, h, accumAt]

theorem accumAt_of_moves {m : Nat} (h : Moves m s t) (hm : m.testBit 30 = false) (i : Nat) : accumAt t i = accumAt s i :=
  accumAt_congr (h.frame .accum hm) i

theorem meterReg_div {m r : Nat} (h : r < 6) : meterReg m r / 6 = m := by
  rw [meterReg]
  omega

theorem accumAt_addEnergy_other (r : WindowResult) {m : MeterCfg} {i : Nat} (h : i / 6 ≠ m.meter) :
    accumAt (addEnergy e d r m s) i = accumAt s i := by
  have hother : ∀ {k : Nat} (x : F64) (u : State), k < 6 → accumAt (addAccum (meterReg m.meter k) x u) i = accumAt u i :=
    fun x u hk => accumAt_addAccum_other x fun he => h (by rw [← he, meterReg_div hk])
  unfold addEnergy
  split
  · rfl
  · dsimp only
    split
    · rw [hother, hother]
      · split <;> decide
      · (repeat' split) <;> decide
    · rw [accumAt_of_moves (flagInterval_moves ..) rfl, hother]
      split <;> decide

/-! ### The close of a window in its steps -/

/-- The window in progress of the set closes: a whole one while integration runs, and one of any length up to it once integration
has ended (R274, R285). -/
def windowCloses (d : WindowData) (s : State) : Bool :=
  let v := voltSet s d.set
  v.active && v.length != 0 && (if v.running then d.samples == v.length && boeRuns s else decide (d.samples ≤ v.length))

/-- An uncorrectable error in the set's analysis memory, met now or found before (R287). -/
def windowMemory (d : WindowData) (s : State) : Option Nat :=
  ((d.errors.find? (fun x => decide (3 ≤ x.kind))).map BoeError.addr).or (voltSet s d.set).badAnalysis

/-- The phase that stands for a missing reference, and the state in which the window's configuration errors have HALTed their
meters (R287). -/
def windowChecked (d : WindowData) (s : State) : F64 × State :=
  let p := if (voltSet s d.set).reference.isNone then drawFree s else (0, s)
  (p.1, (d.errors.filter (fun x => x.kind < 3)).foldl (fun t x => boeConfigError x t) p.2)

/-- The results of the window that closes. -/
def closedResult (e : ElecMetro) (d : WindowData) (s : State) : WindowResult :=
  windowResult (windowChecked d s).2 e d (windowMemory d s).isNone ((windowMemory d s).getD 0) (windowChecked d s).1

/-- The window's energy is added to its set's meters (R278). -/
def energyAdded (e : ElecMetro) (d : WindowData) (s : State) : State :=
  (e.meters.filter (fun m => m.voltageSet == d.set)).foldl (fun t m => addEnergy e d (closedResult e d s) m t) (windowChecked d s).2

/-- The window's results wait for their processing (R275). -/
def resultQueued (e : ElecMetro) (d : WindowData) (s : State) : State :=
  let r := closedResult e d s
  let t := windowFlags e r (energyAdded e d s)
  { t with boe := { t.boe with closed := t.boe.closed ++ [r] } }

/-- A calibration run has counted the window, and an error of the analysis memory is recorded (R287, R291). -/
def windowNoted (e : ElecMetro) (d : WindowData) (s : State) : State :=
  let v := voltSet s d.set
  let t := if v.running then calWindow e v.openedAt (closedResult e d s) (resultQueued e d s) else resultQueued e d s
  match windowMemory d s with
  | some x => emit 0x0B07 d.set (lo32 x) 0 (setF F.BOE.STATUS_MEMORY_ERROR 1 t)
  | none => t

/-- The set's next window: it opens now, with a length only where integration runs. -/
def nextWindow (e : ElecMetro) (d : WindowData) (s : State) (x : VoltageSet) : VoltageSet :=
  let r := closedResult e d s
  { x with
    length := if x.running then nextLength e r.freq else 0
    reference := (List.range 3).find? (fun i => (voltCfg e (3 * d.set + i)).used && !(r.volts.getD i {}).below)
    openedAt := s.clap.cycles
    badAnalysis := none }

theorem closeWindow_eq (hcfg : elecMetro s = some e) : closeWindow d s =
    if windowCloses d s then
      if d.samples = 0 then updSet d.set (fun x => { x with length := 0 }) s
      else updSet d.set (nextWindow e d s) (windowNoted e d s)
    else s := by
  have hguard : (!(voltSet s d.set).active || decide ((voltSet s d.set).length = 0) ||
      !(if (voltSet s d.set).running then d.samples == (voltSet s d.set).length && boeRuns s
        else decide (d.samples ≤ (voltSet s d.set).length))) = !windowCloses d s := by
    simp only [windowCloses, Bool.not_and, bne, Bool.not_not]
    rfl
  unfold closeWindow
  rw [hcfg]
  dsimp only
  rw [hguard]
  cases windowCloses d s <;> rfl

end Sys2Proof.Machine
end

section
/-! SUPPORT. No command but a power-on without PD0 lets the count of a billing register run back (R279, R305, R309). -/

namespace Sys2Proof.Machine

open Sys2Proof

variable {s t : State}

/-! ### A window closes -/

theorem windowChecked_countsRise (d : WindowData) (s : State) : CountsRise s (windowChecked d s).2 := by
  refine countsRise_trans (t := (if (voltSet s d.set).reference.isNone then drawFree s else (0, s)).2) ?_
    (countsRise_foldl fun _ _ => countsRise_step (boeConfigError_moves ..) rfl countsRise_refl)
  split
  · exact countsRise_step (drawFree_moves s) rfl countsRise_refl
  · exact countsRise_refl

theorem resultQueued_countsRise (e : ElecMetro) (d : WindowData) (s : State) : CountsRise s (resultQueued e d s) := by
  have henergy : CountsRise s (energyAdded e d s) :=
    countsRise_trans (windowChecked_countsRise d s) (countsRise_foldl fun _ m => addEnergy_countsRise e d _ m _)
  exact countsRise_keep (countsRise_step (windowFlags_moves e (closedResult e d s) _) rfl henergy) rfl

theorem windowNoted_countsRise (e : ElecMetro) (d : WindowData) (s : State) : CountsRise s (windowNoted e d s) := by
  have hqueued := resultQueued_countsRise e d s
  have hcounted : CountsRise s (if (voltSet s d.set).running then
      calWindow e (voltSet s d.set).openedAt (closedResult e d s) (resultQueued e d s) else resultQueued e d s) :=
    countsRise_ite (countsRise_step (calWindow_moves ..) rfl hqueued) hqueued
  unfold windowNoted
  dsimp only
  split
  · exact countsRise_step (emit_moves ..) rfl (countsRise_step setF_moves rfl hcounted)
  · exact hcounted

theorem closeWindow_countsRise (d : WindowData) (s : State) : CountsRise s (closeWindow d s) := by
  rcases hcfg : elecMetro s with _ | e
  · rw [closeWindow, hcfg]
    exact countsRise_refl
  · rw [closeWindow_eq hcfg]
    exact countsRise_ite (countsRise_ite (countsRise_step (updSet_moves ..) rfl countsRise_refl)
      (countsRise_step (updSet_moves ..) rfl (windowNoted_countsRise e d s))) countsRise_refl

theorem execWindowClose_countsRise {d : WindowData} (h : execWindowClose d s = .next t) : CountsRise s t := by
  cases h
  exact countsRise_trans (closeWindow_countsRise d s) (finishRestart_countsRise _)

/-! ### Every command -/

/-- The commands that may change a billing register have their own law; every other one leaves them alone. -/
theorem exec_countsRise (c : Instr) (hretained : ∀ a b, c ≠ .x1Good a b false) (h : exec c s = .next t) : CountsRise s t := by
  have hkept : (Part.mask (touches c)).testBit Part.accum.idx = false → CountsRise s t := fun hm =>
    countsRise_of_accum ((exec_moves c s t h).frame .accum hm)
  cases c
  case x1Good a b pd0 =>
    cases pd0 with
    | true => exact execX1Good_countsRise h
    | false => exact absurd rfl (hretained a b)
  case loadDone => exact execLoadDone_countsRise h
  case goLive => exact execGoLive_countsRise h
  case restart =>
    cases h
    exact restartCommand_countsRise ..
  case maintenance =>
    cases h
    exact restartCommand_countsRise ..
  case tickStart => exact execTickStart_countsRise h
  case curtain => exact execCurtain_countsRise h
  case windowClose => exact execWindowClose_countsRise h
  case batterySecond => exact execBatterySecond_countsRise h
  case tamperOpen => exact execTamperOpen_countsRise h
  case zeroise =>
    cases h
    exact runSec_countsRise ..
  case debugUnlock =>
    cases h
    exact runSec_countsRise ..
  case submissionFetch => exact execSubmissionFetch_countsRise h
  case mgmtCommand => exact execMgmtCommand_countsRise h
  case registerWrite => exact execRegisterWrite_countsRise h
  case referenceReturned => exact execReferenceReturned_countsRise h
  case secCommandDone => exact execSecCommandDone_countsRise h
  all_goals
    refine hkept ?_
    dsimp only [touches]
    rfl

end Sys2Proof.Machine
end

section
/-! The statement about the billing registers. -/

namespace Sys2Proof.Certificates

open Sys2Proof Sys2Proof.Machine

/-- Settles O37: every command keeps the order of the counts (`exec_countsRise`), and a count within 64 bits is its own minimum
with the largest. -/
theorem billingRegistersNeverRunBack : Obligations.BillingRegistersNeverRunBack := by
  intro c s t hretained hnext i hi
  have hle := (exec_countsRise c hretained hnext).le i
  rwa [Nat.min_eq_left hi] at hle

end Sys2Proof.Certificates
end

section
/-! SUPPORT. The windows of BOE from one to the next: what WINDOW_CLOSE leaves in each set, in the queue of results and in the billing
registers, what it leaves of a restart that waits for it (R79), and what WINDOW_PROCESSED makes of the oldest result (R275, R287). -/

namespace Sys2Proof.Machine

open Sys2Proof

variable {s t : State} {e : ElecMetro} {d : WindowData} {m : Nat}

/-! ### A set's window -/

theorem voltSet_congr (h : t.boe.sets = s.boe.sets) (k : Nat) : voltSet t k = voltSet s k := by
  rw [voltSet, h, voltSet]

theorem voltSet_updSet_other {j k : Nat} (f : VoltageSet → VoltageSet) (h : k ≠ j) : voltSet (updSet j f s) k = voltSet s k := by
  show (listUpd {} s.boe.sets j f).getD k {} = s.boe.sets.getD k {}
  rw [listUpd, List.getD_eq_getElem?_getD, List.getElem?_set_ne h.symm, ← List.getD_eq_getElem?_getD]

/-- Only the sets that the model holds are active. -/
theorem voltSet_lt_of_active {k : Nat} (h : (voltSet s k).active = true) : k < s.boe.sets.length := by
  by_contra hge
  rw [voltSet, List.getD_eq_default _ _ (Nat.not_lt.mp hge)] at h
  exact absurd h (by decide)

theorem voltSet_updSet_same {k : Nat} (f : VoltageSet → VoltageSet) (h : (voltSet s k).active = true) :
    voltSet (updSet k f s) k = f (voltSet s k) := by
  show (listUpd {} s.boe.sets k f).getD k {} = f (s.boe.sets.getD k {})
  rw [listUpd, List.getD_eq_getElem _ _ (by rw [List.length_set]; exact voltSet_lt_of_active h), List.getElem_set_self]

theorem windowsOpen_eq_false (h : ∀ k, (voltSet s k).active = false ∨ (voltSet s k).length = 0) : windowsOpen s = false := by
  refine List.any_eq_false.mpr fun v hv => ?_
  obtain ⟨k, hk, rfl⟩ := List.mem_iff_getElem.mp hv
  have hset := h k
  rw [voltSet, List.getD_eq_getElem _ _ hk] at hset
  rcases hset with hidle | hempty
  · simp [hidle]
  · simp [hempty]

/-! ### WINDOW_CLOSE -/

@[simp] theorem windowsOf_windowChecked : windowsOf (windowChecked d s).2 = windowsOf s := by
  refine (windowsOf_foldl fun _ _ => windowsOf_boeConfigError _).trans ?_
  split <;> rfl

theorem windowsOf_energyAdded : windowsOf (energyAdded e d s) = windowsOf s :=
  (windowsOf_foldl fun _ _ => windowsOf_addEnergy ..).trans windowsOf_windowChecked

theorem windowsOf_resultQueued :
    windowsOf (resultQueued e d s) = (s.boe.sets, s.boe.closed ++ [closedResult e d s], s.boe.ready) := by
  have hkept : windowsOf (windowFlags e (closedResult e d s) (energyAdded e d s)) = windowsOf s := by
    rw [windowsOf_windowFlags, windowsOf_energyAdded]
  obtain ⟨hsets, hrest⟩ := Prod.ext_iff.mp hkept
  obtain ⟨hclosed, hready⟩ := Prod.ext_iff.mp hrest
  exact Prod.ext hsets (Prod.ext (congrArg (· ++ [closedResult e d s]) hclosed) hready)

theorem windowsOf_windowNoted :
    windowsOf (windowNoted e d s) = (s.boe.sets, s.boe.closed ++ [closedResult e d s], s.boe.ready) := by
  have hcounted : windowsOf (if (voltSet s d.set).running then
      calWindow e (voltSet s d.set).openedAt (closedResult e d s) (resultQueued e d s) else resultQueued e d s) =
      windowsOf (resultQueued e d s) := by
    split
    · exact windowsOf_calWindow ..
    · rfl
  unfold windowNoted
  dsimp only
  split
  · rw [windowsOf_emit, windowsOf_setF, hcounted, windowsOf_resultQueued]
  · rw [hcounted, windowsOf_resultQueued]

theorem voltSet_windowNoted (k : Nat) : voltSet (windowNoted e d s) k = voltSet s k :=
  voltSet_congr (congrArg Prod.fst windowsOf_windowNoted) k

/-- Outside the meters of the window's set no register takes energy. -/
theorem accumAt_windowNoted_other {i : Nat} (hi : ∀ m ∈ e.meters, m.voltageSet = d.set → i / 6 ≠ m.meter) :
    accumAt (windowNoted e d s) i = accumAt s i := by
  have hchecked : accumAt (windowChecked d s).2 i = accumAt s i := by
    refine (accumAt_of_moves (moves_foldl (m := 0x201002) moves_refl fun _ _ h => moves_step (boeConfigError_moves ..) rfl h) rfl i).trans ?_
    split <;> rfl
  have henergy : accumAt (energyAdded e d s) i = accumAt s i := by
    refine (look_foldl (look := fun t => accumAt t i) fun t m hm => ?_).trans hchecked
    obtain ⟨hmem, hset⟩ := List.mem_filter.mp hm
    exact accumAt_addEnergy_other _ (hi m hmem (beq_iff_eq.mp hset))
  have hqueued : accumAt (resultQueued e d s) i = accumAt s i :=
    (accumAt_of_moves (windowFlags_moves e (closedResult e d s) (energyAdded e d s)) rfl i).trans henergy
  have hcounted : accumAt (if (voltSet s d.set).running then
      calWindow e (voltSet s d.set).openedAt (closedResult e d s) (resultQueued e d s) else resultQueued e d s) i = accumAt s i := by
    split
    · exact (accumAt_of_moves (calWindow_moves ..) rfl i).trans hqueued
    · exact hqueued
  unfold windowNoted
  dsimp only
  split
  · exact (accumAt_of_moves (emit_moves ..) rfl i).trans hcounted
  · exact hcounted

theorem windowCloses_of (hactive : (voltSet s d.set).active = true) (hlength : (voltSet s d.set).length ≠ 0)
    (h : (voltSet s d.set).running = true ∧ (voltSet s d.set).length = d.samples ∧ boeRuns s = true ∨
      (voltSet s d.set).running = false ∧ d.samples ≤ (voltSet s d.set).length) : windowCloses d s = true := by
  rcases h with ⟨hrunning, hwhole, hruns⟩ | ⟨hended, hpartial⟩
  · rw [hwhole] at hlength
    simp [windowCloses, hactive, hlength, hrunning, hwhole, hruns]
  · simp [windowCloses, hactive, hlength, hended, hpartial]

theorem closeWindow_queues (hcfg : elecMetro s = some e) (hcloses : windowCloses d s = true) (hsamples : d.samples ≠ 0) :
    closeWindow d s = updSet d.set (nextWindow e d s) (windowNoted e d s) := by
  rw [closeWindow_eq hcfg, if_pos hcloses, if_neg hsamples]

theorem closeWindow_ends (hcfg : elecMetro s = some e) (hcloses : windowCloses d s = true) (hsamples : d.samples = 0) :
    closeWindow d s = updSet d.set (fun x => { x with length := 0 }) s := by
  rw [closeWindow_eq hcfg, if_pos hcloses, if_pos hsamples]

theorem voltSet_closeWindow_other {k : Nat} (hcfg : elecMetro s = some e) (h : k ≠ d.set) :
    voltSet (closeWindow d s) k = voltSet s k := by
  rw [closeWindow_eq hcfg]
  split
  · split
    · exact voltSet_updSet_other _ h
    · rw [voltSet_updSet_other _ h, voltSet_windowNoted]
  · rfl

theorem voltSet_closeWindow_same (hcfg : elecMetro s = some e) (hcloses : windowCloses d s = true) (hsamples : d.samples ≠ 0)
    (hactive : (voltSet s d.set).active = true) :
    voltSet (closeWindow d s) d.set = nextWindow e d s (voltSet s d.set) := by
  rw [closeWindow_queues hcfg hcloses hsamples, voltSet_updSet_same _ (by rwa [voltSet_windowNoted]), voltSet_windowNoted]

/-- Where integration has ended no next window opens. -/
theorem length_closeWindow_ended (hcfg : elecMetro s = some e) (hcloses : windowCloses d s = true)
    (hactive : (voltSet s d.set).active = true) (hended : (voltSet s d.set).running = false) :
    (voltSet (closeWindow d s) d.set).length = 0 := by
  by_cases hsamples : d.samples = 0
  · rw [closeWindow_ends hcfg hcloses hsamples, voltSet_updSet_same _ hactive]
  · rw [voltSet_closeWindow_same hcfg hcloses hsamples hactive, nextWindow, hended]
    rfl

theorem exec_windowClose (d : WindowData) (s : State) : exec (.windowClose d) s = .next (finishRestart (closeWindow d s)) := rfl

/-- Outside a restart WINDOW_CLOSE is the close of the window. -/
theorem exec_windowClose_of_not_flushing (h : s.dev.flushing = none) : exec (.windowClose d) s = .next (closeWindow d s) := by
  have hdev : (closeWindow d s).dev = s.dev := (closeWindow_moves d s).frame .dev rfl
  rw [exec_windowClose, finishRestart, hdev, h]

theorem exec_windowClose_queues (hcfg : elecMetro s = some e) (hflushing : s.dev.flushing = none) (hcloses : windowCloses d s = true)
    (hsamples : d.samples ≠ 0) (hactive : (voltSet s d.set).active = true) :
    ∃ t r, exec (.windowClose d) s = .next t ∧ t.boe.closed = s.boe.closed ++ [r] ∧ r.set = d.set ∧ r.samples = d.samples ∧
      (voltSet t d.set).openedAt = s.clap.cycles ∧ ((voltSet s d.set).running = false → (voltSet t d.set).length = 0) ∧
      (∀ k, k ≠ d.set → voltSet t k = voltSet s k) ∧
      (∀ i, (∀ m ∈ e.meters, m.voltageSet = d.set → i / 6 ≠ m.meter) → accumAt t i = accumAt s i) ∧
      OnlyParts [.regs, .boe, .bat, .cont, .accum, .free] s t := by
  have heq := closeWindow_queues hcfg hcloses hsamples
  refine ⟨_, closedResult e d s, exec_windowClose_of_not_flushing hflushing, ?_, rfl, rfl, ?_,
    length_closeWindow_ended hcfg hcloses hactive, fun _ => voltSet_closeWindow_other hcfg, fun i hi => ?_,
    onlyParts_of_moves _ _ (closeWindow_moves d s) rfl⟩
  · rw [heq]
    exact congrArg (fun w => w.2.1) windowsOf_windowNoted
  · rw [voltSet_closeWindow_same hcfg hcloses hsamples hactive]
    rfl
  · rw [heq]
    exact (accumAt_congr rfl i).trans (accumAt_windowNoted_other hi)

theorem exec_windowClose_ends (hcfg : elecMetro s = some e) (hflushing : s.dev.flushing = none) (hcloses : windowCloses d s = true)
    (hsamples : d.samples = 0) (hactive : (voltSet s d.set).active = true) :
    ∃ t, exec (.windowClose d) s = .next t ∧ (voltSet t d.set).length = 0 ∧ t.boe.closed = s.boe.closed ∧ OnlyParts [.boe] s t := by
  have heq := closeWindow_ends hcfg hcloses hsamples
  refine ⟨_, exec_windowClose_of_not_flushing hflushing, ?_, ?_, ?_⟩
  · rw [heq, voltSet_updSet_same _ hactive]
  · rw [heq]
    rfl
  · rw [heq]
    exact onlyParts_of_moves _ _ (updSet_moves ..) rfl

/-! ### A restart that waits for the last window (R79) -/

theorem restartFlush_flushing (maintenance : Bool) (s : State) : (restartFlush maintenance s).dev.flushing = none := by
  rw [restartFlush, enterBoot_dev_eq]
  rfl

theorem finishRestart_goes (maintenance : Bool) (hflushing : s.dev.flushing = some maintenance) (hclosed : windowsOpen s = false)
    (hpower : powerFailing s = false) : finishRestart s = restartFlush maintenance s := by
  rw [finishRestart, hflushing]
  dsimp only
  rw [hclosed, hpower]
  rfl

theorem exec_windowClose_boots (maintenance : Bool) (hcfg : elecMetro s = some e) (hflushing : s.dev.flushing = some maintenance)
    (hpower : powerFailing s = false) (hactive : (voltSet s d.set).active = true) (hended : (voltSet s d.set).running = false)
    (hcloses : windowCloses d s = true) (hlast : ∀ k, k ≠ d.set → (voltSet s k).active = false ∨ (voltSet s k).length = 0) :
    ∃ t, exec (.windowClose d) s = .next t ∧ t.dev.state = .boot ∧ t.dev.flushing = none ∧ t.cfg = {} := by
  have hmoves := closeWindow_moves d s
  have hflushing' : (closeWindow d s).dev.flushing = some maintenance := by rw [hmoves.frame .dev rfl, hflushing]
  have hpower' : powerFailing (closeWindow d s) = false := by
    rw [powerFailing, hmoves.frame .pwr rfl]
    exact hpower
  have hclosed : windowsOpen (closeWindow d s) = false := by
    refine windowsOpen_eq_false fun k => ?_
    by_cases hk : k = d.set
    · subst hk
      exact .inr (length_closeWindow_ended hcfg hcloses hactive hended)
    · rw [voltSet_closeWindow_other hcfg hk]
      exact hlast k hk
  rw [exec_windowClose, finishRestart_goes maintenance hflushing' hclosed hpower']
  exact ⟨_, rfl, (restartFlush_dev _ maintenance).1, restartFlush_flushing .., restartFlush_cfg ..⟩

/-! ### WINDOW_PROCESSED (R275, R287) -/

theorem windowsOf_voltConditions (k i : Nat) (x : ChannelResult) : windowsOf (voltConditions e k i x s) = windowsOf s := by
  unfold voltConditions
  extract_lets c s1 was
  have h1 : windowsOf s1 = windowsOf s := by
    simp only [s1]
    split
    · simp only [windowsOf_emit, windowsOf_setF]
    · rfl
  split
  · rfl
  · split
    · rw [windowsOf_emit, ← h1]
      rfl
    · split
      · rw [windowsOf_emit, ← h1]
        rfl
      · exact h1

theorem windowsOf_currConditions (k : Nat) (x : Nat × ChannelResult) : windowsOf (currConditions k x s) = windowsOf s := by
  unfold currConditions
  split
  · simp only [windowsOf_emit, windowsOf_setF]
  · rfl

theorem windowsOf_freqConditions (r : WindowResult) : windowsOf (freqConditions r s) = windowsOf s := by
  unfold freqConditions
  split
  · split
    · rfl
    · rw [windowsOf_emit]
      rfl
  · rfl

theorem windowsOf_processErrors (errors : List BoeError) (r : WindowResult) :
    windowsOf (processErrors errors r s).2 = windowsOf s := by
  have hfolded : windowsOf ((errors.filter (fun x => x.kind < 3)).foldl (fun t x => boeConfigError x t) s) = windowsOf s :=
    windowsOf_foldl fun _ _ => windowsOf_boeConfigError _
  unfold processErrors
  dsimp only
  split
  · rw [windowsOf_emit, windowsOf_setF, hfolded]
  · exact hfolded

/-- An error of the analysis memory takes the analysis from the results, and nothing else from what they show of the window. -/
theorem processErrors_result (errors : List BoeError) (r : WindowResult) (s : State) :
    let r' := (processErrors errors r s).1
    r'.set = r.set ∧ r'.volts = r.volts ∧ r'.currents = r.currents ∧ (errors = [] → r' = r) ∧
      ((∃ x ∈ errors, 3 ≤ x.kind) → r'.analysis = false) := by
  unfold processErrors
  dsimp only
  split
  next x hfound =>
    refine ⟨rfl, rfl, rfl, fun hnil => ?_, fun _ => rfl⟩
    rw [hnil] at hfound
    cases hfound
  next hnone =>
    refine ⟨rfl, rfl, rfl, fun _ => rfl, fun ⟨x, hx, hkind⟩ => ?_⟩
    exact absurd (decide_eq_true hkind) (List.find?_eq_none.mp hnone x hx)

theorem exec_windowProcessed (errors : List BoeError) (r : WindowResult) (rest : List WindowResult) (hclosed : s.boe.closed = r :: rest)
    (hcfg : elecMetro s = some e) : ∃ t, exec (.windowProcessed errors) s = .next t ∧ t.boe.closed = rest ∧
      t.boe.ready = s.boe.ready ++ [(processErrors errors r s).1] := by
  show ∃ t, execWindowProcessed errors s = .next t ∧ _
  rw [execWindowProcessed, hclosed, hcfg]
  dsimp only
  refine ⟨_, rfl, ?_⟩
  have hready : (processErrors errors r s).2.boe.ready = s.boe.ready := congrArg (fun w => w.2.2) (windowsOf_processErrors errors r)
  generalize hs1 : ({ (processErrors errors r s).2 with boe := { (processErrors errors r s).2.boe with
    closed := rest, ready := (processErrors errors r s).2.boe.ready ++ [(processErrors errors r s).1] } } : State) = s1
  have hkept : ∀ u, windowsOf u = windowsOf s1 → u.boe.closed = rest ∧ u.boe.ready = s.boe.ready ++ [(processErrors errors r s).1] := by
    intro u hu
    obtain ⟨-, hrest⟩ := Prod.ext_iff.mp hu
    obtain ⟨hqueue, hpost⟩ := Prod.ext_iff.mp hrest
    rw [← hready]
    subst hs1
    exact ⟨hqueue, hpost⟩
  refine hkept _ ?_
  rw [windowsOf_freqConditions, windowsOf_foldl fun _ _ => windowsOf_currConditions ..,
    windowsOf_foldl fun _ _ => windowsOf_voltConditions ..]

theorem exec_windowProcessed_none (errors : List BoeError) (h : s.boe.closed = []) : exec (.windowProcessed errors) s = .next s := by
  show execWindowProcessed errors s = .next s
  rw [execWindowProcessed, h]

end Sys2Proof.Machine
end

section
/-! The statement about the windows of BOE. -/

namespace Sys2Proof.Certificates

open Sys2Proof Sys2Proof.Machine

/-- Settles O38: WINDOW_CLOSE by the steps of a window's close (`closeWindow_eq`), and the flush that a restart's last window sets
off; WINDOW_PROCESSED by what its errors leave of the result. -/
theorem windowsCloseAndAreProcessed : Obligations.WindowsCloseAndAreProcessed := by
  refine ⟨?_, ?_, ?_, ?_, fun errors s => exec_windowProcessed_none errors⟩
  · intro d e s hcfg hflushing hactive hlength hsamples hdue
    exact exec_windowClose_queues hcfg hflushing (windowCloses_of hactive hlength hdue) hsamples hactive
  · intro d e s hcfg hflushing hsamples hactive hlength hended
    have hcloses : windowCloses d s = true :=
      windowCloses_of hactive hlength (.inr ⟨hended, hsamples ▸ Nat.zero_le _⟩)
    exact exec_windowClose_ends hcfg hflushing hcloses hsamples hactive
  · intro d e m s hcfg hflushing hpower hactive hlength hended hpartial hlast
    have hcloses : windowCloses d s = true := windowCloses_of hactive hlength (.inr ⟨hended, hpartial⟩)
    exact exec_windowClose_boots m hcfg hflushing hpower hactive hended hcloses hlast
  · intro r rest errors s hclosed hconfigured
    obtain ⟨e, hcfg⟩ := Option.ne_none_iff_exists'.mp hconfigured
    obtain ⟨t, hnext, hqueue, hpost⟩ := exec_windowProcessed errors r rest hclosed hcfg
    obtain ⟨hset, hvolts, hcurrents, hsame, hanalysis⟩ := processErrors_result errors r s
    have hmoves := execWindowProcessed_moves errors s t hnext
    exact ⟨t, _, hnext, hqueue, hpost, hset, hvolts, hcurrents, hsame, hanalysis, hmoves.frame .accum rfl,
      onlyParts_of_moves _ _ hmoves rfl⟩

end Sys2Proof.Certificates
end

section
/-! SUPPORT. The interval records of BOE and BOT (R282, R283, R313): each meter's and each calculator's next interval. -/

namespace Sys2Proof.Machine

open Sys2Proof

variable {s t : State} {e : ElecMetro} {m : ThermMetro} {p : MeterPart} {n stamp : Nat} {counts : Table Accum} {errs : List Nat}

/-! ### One step for each entry of a list -/

/-- Steps over a list of distinct keys, each of which leaves what stands under the others' keys: every key is stepped once. -/
theorem foldl_each {α β : Type} {f : State → α → State} {key : α → Nat} {look : State → Nat → β} {kept : State → Prop}
    {stepped : β → β → Prop} {l : List α} (hkept : ∀ t, ∀ x ∈ l, kept t → kept (f t x))
    (hown : ∀ t, ∀ x ∈ l, kept t → stepped (look t (key x)) (look (f t x) (key x)))
    (hother : ∀ t, ∀ x ∈ l, ∀ y ∈ l, key y ≠ key x → look (f t x) (key y) = look t (key y))
    (hdistinct : (l.map key).Nodup) (hs : kept s) : ∀ x ∈ l, stepped (look s (key x)) (look (l.foldl f s) (key x)) := by
  induction l generalizing s with
  | nil => exact fun x hx => absurd hx List.not_mem_nil
  | cons x l ih =>
    rw [List.map_cons, List.nodup_cons] at hdistinct
    obtain ⟨hfresh, hrest⟩ := hdistinct
    have hne : ∀ z ∈ l, key x ≠ key z := fun z hz heq => hfresh (heq ▸ List.mem_map_of_mem hz)
    have hx : x ∈ x :: l := List.mem_cons_self
    have hmem : ∀ {z}, z ∈ l → z ∈ x :: l := List.mem_cons_of_mem x
    refine List.forall_mem_cons.mpr ⟨?_, fun y hy => ?_⟩ <;> rw [List.foldl_cons]
    · rw [look_foldl (look := fun t => look t (key x)) fun t z hz => hother t z (hmem hz) x hx (hne z hz)]
      exact hown s x hx hs
    · rw [← hother s x hx y (hmem hy) (hne y hy).symm]
      exact ih (fun t z hz => hkept t z (hmem hz)) (fun t z hz => hown t z (hmem hz))
        (fun t z hz w hw => hother t z (hmem hz) w (hmem hw)) hrest (hkept s x hx hs) y hy

/-! ### Meters -/

/-- The close of an interval: the next one opens at the boundary's stamp, with the next sequence number. -/
def NextInterval (stamp : Nat) (x y : Interval) : Prop := y.startStamp = stamp ∧ y.seq = x.seq + 1

theorem closeMeterInterval_intervals (k : Nat) : ∃ y,
    (closeMeterInterval stamp counts k s).boe.intervals = tablePut {} s.boe.intervals k y ∧
    NextInterval stamp (meterInterval s k) y := by
  unfold closeMeterInterval
  extract_lets x now deltas quality flags words ns demand pts out keep boe s1
  refine ⟨_, Eq.trans (b := s1.boe.intervals) ?_ rfl, rfl, rfl⟩
  split
  · exact congrArg BoePart.intervals ((stageEntry_moves ..).frame .boe rfl)
  · rfl

theorem meterInterval_closeMeterInterval_same (k : Nat) (hrise : keysRise s.boe.intervals = true) :
    NextInterval stamp (meterInterval s k) (meterInterval (closeMeterInterval stamp counts k s) k) := by
  obtain ⟨y, hput, hy⟩ := closeMeterInterval_intervals (s := s) (stamp := stamp) (counts := counts) k
  rw [meterInterval, meterInterval, hput, tableGet_put_same _ _ _ _ hrise]
  exact hy

theorem meterInterval_closeMeterInterval_other {j k : Nat} (h : j ≠ k) :
    meterInterval (closeMeterInterval stamp counts k s) j = meterInterval s j := by
  obtain ⟨y, hput, -⟩ := closeMeterInterval_intervals (s := s) (stamp := stamp) (counts := counts) k
  rw [meterInterval, hput, tableGet_put_other _ _ _ _ _ _ h.symm, meterInterval]

theorem closeMeterInterval_keysRise (k : Nat) (hrise : keysRise s.boe.intervals = true) :
    keysRise (closeMeterInterval stamp counts k s).boe.intervals = true := by
  obtain ⟨y, hput, -⟩ := closeMeterInterval_intervals (s := s) (stamp := stamp) (counts := counts) k
  rw [hput]
  exact keysRise_put _ _ _ _ hrise

theorem exec_demandIntervalClose (hcfg : elecMetro s = some e) (hmeter : elecMeter s = some p)
    (hboundary : s.bat.boundary = some (n, stamp, counts, errs)) : exec .demandIntervalClose s = .next
      (if (n = s.tick.number && minuteBoundary s p.intervalMin &&
          e.meters.any (fun m => (meterInterval s m.meter).startStamp != stamp) && inState s .live) = true
        then e.meters.foldl (fun t m => closeMeterInterval stamp counts m.meter t) s else s) := by
  show execDemandIntervalClose s = _
  rw [execDemandIntervalClose, hcfg, hmeter, hboundary]

/-- At a boundary every meter's next interval opens (R282). -/
theorem demandIntervals_open (hrise : keysRise s.boe.intervals = true) (hdistinct : (e.meters.map MeterCfg.meter).Nodup) :
    ∀ x ∈ e.meters, NextInterval stamp (meterInterval s x.meter)
      (meterInterval (e.meters.foldl (fun t m => closeMeterInterval stamp counts m.meter t) s) x.meter) :=
  foldl_each (look := meterInterval) (kept := fun t => keysRise t.boe.intervals = true) (stepped := NextInterval stamp)
    (fun _ x _ => closeMeterInterval_keysRise x.meter) (fun _ x _ => meterInterval_closeMeterInterval_same x.meter)
    (fun _ _ _ _ _ => meterInterval_closeMeterInterval_other) hdistinct hrise

/-! ### Calculators -/

/-- What a calculator shows of its intervals: the one in progress, and the number of the one last closed. -/
def calcShown (s : State) (k : Nat) : Interval × Nat := (calcInterval s k, getF s (F.BOT.INTERVAL_SEQ k))

/-- The close of a calculator's interval shows its number. -/
def NextShown (stamp : Nat) (x y : Interval × Nat) : Prop := NextInterval stamp x.1 y.1 ∧ y.2 = x.1.seq % 2 ^ 32

theorem closeCalcInterval_intervals (k : Nat) : ∃ y,
    (closeCalcInterval stamp counts errs k s).bot.intervals = tablePut {} s.bot.intervals k y ∧
    NextInterval stamp (calcInterval s k) y := by
  unfold closeCalcInterval
  extract_lets x now delta quality gap flags err words keep y bot s1 bat s2
  refine ⟨y, ?_, rfl, rfl⟩
  have h2 : s2.bot = s1.bot := by
    simp only [s2]
    split <;> rfl
  split
  · rw [(stageEntry_moves ..).frame .bot rfl, h2]
    rfl
  · rw [h2]
    rfl

/-- The fields of the Interval ring lie above those of BOT. -/
theorem intervalSeq_lt_ring {k : Nat} (h : k < 32) :
    ∀ g ∈ [F.HOST.NEXT_INDEX 5, F.HOST.LOST_COUNT 5], fieldKey g ≠ fieldKey (F.BOT.INTERVAL_SEQ k) := by
  intro g hg
  have hkey : 0x2C000000 ≤ fieldKey g := by
    rcases List.mem_pair.mp hg with rfl | rfl <;> decide
  have hlow : fieldKey (F.BOT.INTERVAL_SEQ k) < 0x2C000000 := by
    show (0x0C0108C + 0x100 * k) * 32 + 0 < 0x2C000000
    omega
  omega

theorem getF_closeCalcInterval (k : Nat) {j : Nat} (hj : j < 32) :
    getF (closeCalcInterval stamp counts errs k s) (F.BOT.INTERVAL_SEQ j) =
      getF (setF (F.BOT.INTERVAL_SEQ k) (calcInterval s k).seq s) (F.BOT.INTERVAL_SEQ j) := by
  unfold closeCalcInterval
  extract_lets x now delta quality gap flags err words keep y bot s1 bat s2
  have h2 : getF s2 (F.BOT.INTERVAL_SEQ j) = getF s1 (F.BOT.INTERVAL_SEQ j) := by
    simp only [s2]
    split <;> rfl
  split
  · exact (stageEntry_onlyFields _ _ _ _ _ _ _ (intervalSeq_lt_ring hj)).trans h2
  · exact h2

theorem calcShown_closeCalcInterval_same {k : Nat} (hk : k < 32) (hrise : keysRise s.bot.intervals = true)
    (hregs : keysRise s.regs = true) :
    NextShown stamp (calcShown s k) (calcShown (closeCalcInterval stamp counts errs k s) k) := by
  obtain ⟨y, hput, hy⟩ := closeCalcInterval_intervals (s := s) (stamp := stamp) (counts := counts) (errs := errs) k
  refine ⟨?_, ?_⟩
  · show NextInterval stamp (calcInterval s k) (tableGet {} (closeCalcInterval stamp counts errs k s).bot.intervals k)
    rw [hput, tableGet_put_same _ _ _ _ hrise]
    exact hy
  · exact (getF_closeCalcInterval k hk).trans (getF_setF_same _ _ _ hregs)

theorem calcShown_closeCalcInterval_other {j k : Nat} (hj : j < 32) (h : j ≠ k) :
    calcShown (closeCalcInterval stamp counts errs k s) j = calcShown s j := by
  obtain ⟨y, hput, -⟩ := closeCalcInterval_intervals (s := s) (stamp := stamp) (counts := counts) (errs := errs) k
  refine Prod.ext ?_ ?_
  · show tableGet {} (closeCalcInterval stamp counts errs k s).bot.intervals j = tableGet {} s.bot.intervals j
    rw [hput, tableGet_put_other _ _ _ _ _ _ h.symm]
  · refine (getF_closeCalcInterval k hj).trans (getF_setF_other _ _ _ _ ?_)
    show (0x0C0108C + 0x100 * k) * 32 + 0 ≠ (0x0C0108C + 0x100 * j) * 32 + 0
    omega

/-- The intervals of BOT and the register file stand in their order. -/
def BotOrdered (s : State) : Prop := keysRise s.bot.intervals = true ∧ WellKept s

theorem closeCalcInterval_botOrdered (k : Nat) (h : BotOrdered s) : BotOrdered (closeCalcInterval stamp counts errs k s) := by
  obtain ⟨hrise, wf⟩ := h
  obtain ⟨y, hput, -⟩ := closeCalcInterval_intervals (s := s) (stamp := stamp) (counts := counts) (errs := errs) k
  refine ⟨?_, (closeCalcInterval_moves ..).form wf⟩
  rw [hput]
  exact keysRise_put _ _ _ _ hrise

theorem exec_thermalIntervalClose (hcfg : thermMetro s = some m) (hmeter : thermMeter s = some p)
    (hboundary : s.bat.boundary = some (n, stamp, counts, errs)) : exec .thermalIntervalClose s = .next
      (if (n = s.tick.number && minuteBoundary s p.intervalMin &&
          m.calcs.any (fun c => (calcInterval s c.number).startStamp != stamp) && inState s .live) = true
        then m.calcs.foldl (fun t c => closeCalcInterval stamp counts errs c.number t) s else s) := by
  show execThermalIntervalClose s = _
  rw [execThermalIntervalClose, hcfg, hmeter, hboundary]

/-- At a boundary every calculator's next interval opens (R313). -/
theorem thermalIntervals_open (hs : BotOrdered s) (hdistinct : (m.calcs.map CalcCfg.number).Nodup)
    (hnumbers : ∀ c ∈ m.calcs, c.number < 32) : ∀ x ∈ m.calcs, NextShown stamp (calcShown s x.number)
      (calcShown (m.calcs.foldl (fun t c => closeCalcInterval stamp counts errs c.number t) s) x.number) :=
  foldl_each (look := calcShown) (kept := BotOrdered) (stepped := NextShown stamp)
    (fun _ x _ => closeCalcInterval_botOrdered x.number)
    (fun _ x hx h => calcShown_closeCalcInterval_same (hnumbers x hx) h.1 h.2.regs)
    (fun _ _ _ y hy => calcShown_closeCalcInterval_other (hnumbers y hy)) hdistinct hs

end Sys2Proof.Machine
end

section
/-! The statement about the interval records. -/

namespace Sys2Proof.Certificates

open Sys2Proof Sys2Proof.Machine

/-- Settles O39: at a boundary the meters' and the calculators' intervals are closed one by one (`foldl_each`), and each one's step
leaves the others'. -/
theorem intervalRecordsClose : Obligations.IntervalRecordsClose := by
  intro s n stamp counts errs wf hboundary
  refine ⟨fun e p hcfg hmeter hdistinct hrise => ?_, fun m p hcfg hmeter hdistinct hnumbers hrise => ?_⟩
  · have hexec := exec_demandIntervalClose hcfg hmeter hboundary
    refine ⟨fun htick hminute hlive ⟨x, hx, hopen⟩ => ?_, fun htick => ?_⟩
    · have hfresh : e.meters.any (fun m => (meterInterval s m.meter).startStamp != stamp) = true :=
        List.any_eq_true.mpr ⟨x, hx, bne_iff_ne.mpr hopen⟩
      refine ⟨_, hexec, ?_, onlyParts_of_moves _ _ (execDemandIntervalClose_moves s _ hexec) rfl⟩
      rw [if_pos (by simp [htick, hminute, hfresh, hlive])]
      exact demandIntervals_open hrise hdistinct
    · rw [hexec, if_neg (by simp [htick])]
  · have hexec := exec_thermalIntervalClose hcfg hmeter hboundary
    refine ⟨fun htick hminute hlive ⟨x, hx, hopen⟩ => ?_, fun htick => ?_⟩
    · have hfresh : m.calcs.any (fun c => (calcInterval s c.number).startStamp != stamp) = true :=
        List.any_eq_true.mpr ⟨x, hx, bne_iff_ne.mpr hopen⟩
      have hmoves := execThermalIntervalClose_moves s _ hexec
      refine ⟨_, hexec, hmoves.frame .accum rfl, ?_, onlyParts_of_moves _ _ hmoves rfl⟩
      rw [if_pos (by simp [htick, hminute, hfresh, hlive])]
      intro c hc
      obtain ⟨⟨hstamp, hseq⟩, hshown⟩ := thermalIntervals_open (counts := counts) (errs := errs) ⟨hrise, wf⟩ hdistinct hnumbers c hc
      exact ⟨hstamp, hseq, hshown⟩
    · rw [hexec, if_neg (by simp [htick])]

end Sys2Proof.Certificates
end

section
/-! SUPPORT. The calibration run of BOE (R291): its start, its end, and its abort. -/

namespace Sys2Proof.Machine

open Sys2Proof

variable {s : State} {c : Caller} {e : ElecMetro} {f : Field} {m n : Nat} {r : Calibration}

/-! ### Fields of BOE behind the results of commands -/

theorem showResult_boe_eq (op : Nat) (y : Reply) (s : State) :
    showResult 11 op y s = setF F.BOE.CMD_RESULT_RESULT y.result (setF F.BOE.CMD_RESULT_OPCODE op s) := rfl

/-- BOE's CMD_RESULT is the only register that the result of a command of BOE shows in. -/
theorem getF_showResult_boe (op : Nat) (y : Reply) (hresult : fieldKey F.BOE.CMD_RESULT_RESULT ≠ fieldKey f)
    (hopcode : fieldKey F.BOE.CMD_RESULT_OPCODE ≠ fieldKey f) : getF (showResult 11 op y s) f = getF s f := by
  rw [showResult_boe_eq, getF_setF_other _ _ _ _ hresult, getF_setF_other _ _ _ _ hopcode]

theorem getF_showResult_boe_result (op : Nat) (y : Reply) (wf : WellKept s) :
    getF (showResult 11 op y s) F.BOE.CMD_RESULT_RESULT = y.result % 2 ^ 8 := by
  rw [showResult_boe_eq]
  exact getF_setF_same _ _ _ (setF_keysRise _ _ _ wf.regs)

theorem showResult_boe (u op : Nat) (y : Reply) (s : State) : (showResult u op y s).boe = s.boe :=
  (showResult_moves u op y s).frame .boe rfl

theorem touchSession_boe (c : Caller) (s : State) : (touchSession c s).boe = s.boe := (touchSession_moves c s).frame .boe rfl

theorem elecMetro_touchSession : elecMetro (touchSession c s) = elecMetro s := by
  rw [elecMetro, touchSession_cfg, elecMetro]

/-- The fields that the completion of a PENDING command may change are HOST's, above those of BOE. -/
theorem getF_commandDone_low {u op result ret : Nat} {key : Option Nat} (h : fieldKey f < 0x2C000000) :
    getF (commandDone u op key result ret s) f = getF s f := by
  refine commandDone_onlyFields _ _ _ _ _ _ _ fun g hg => ?_
  have hhigh : ∀ g ∈ lateFields, 0x2C000000 ≤ fieldKey g := by decide
  have hkey := hhigh g hg
  omega

theorem putBoe_moves (b : BoePart) (s : State) : Moves 0x1000 s { s with boe := b } := by
  refine ⟨fun p hp => ?_, fun wf => { wf with }⟩
  cases p
  case boe => exact absurd hp (by decide)
  all_goals rfl

/-! ### CAL_START -/

/-- The run stands in BOE, and the status registers show it. -/
def calStarted (m n : Nat) (s : State) : State :=
  setF F.BOE.STATUS_CAL_BUSY 1 (setF F.BOE.CAL_STATE_STATE 1 (setF F.BOE.CAL_STATE_METER m
    (setF F.BOE.CAL_STATE_WINDOWS 0 { s with boe := { s.boe with cal := some { meter := m, windows := n } } })))

theorem calStarted_moves (m n : Nat) (s : State) : Moves 0x1002 s (calStarted m n s) :=
  moves_step setF_moves rfl <| moves_step setF_moves rfl <| moves_step setF_moves rfl <| moves_step setF_moves rfl <|
    moves_step (putBoe_moves ..) rfl moves_refl

theorem flag_calStarted (wf : WellKept s) : flag (calStarted m n s) F.BOE.STATUS_CAL_BUSY = true :=
  flag_setF_one _ rfl (setF_keysRise _ _ _ (setF_keysRise _ _ _ (setF_keysRise _ _ _ wf.regs)))

theorem getF_calStarted_state (wf : WellKept s) : getF (calStarted m n s) F.BOE.CAL_STATE_STATE = 1 :=
  (getF_setF_other _ _ _ _ (by decide)).trans (getF_setF_same _ _ _ (setF_keysRise _ _ _ (setF_keysRise _ _ _ wf.regs)))

/-- A configured meter and 1 to 1024 windows are good arguments. -/
theorem calArguments_good (hcfg : elecMetro s = some e) (hmeter : ∃ x ∈ e.meters, x.meter = m) (hlow : 1 ≤ n) (hhigh : n ≤ 1024) :
    (!(((elecMetro (touchSession c s)).map ElecMetro.meters).getD []).any (fun x => x.meter == m) || n = 0 || n > 1024) = false := by
  obtain ⟨x, hx, rfl⟩ := hmeter
  have hfound : e.meters.any (fun y => y.meter == x.meter) = true := List.any_eq_true.mpr ⟨x, hx, beq_self_eq_true _⟩
  have hn : n ≠ 0 := by omega
  rw [elecMetro_touchSession, hcfg, Option.map_some, Option.getD_some, hfound]
  simp [hn, hhigh]

theorem exec_calStart (hadmitted : Admitted c [roleMetrologist] s) (hlive : inState s .live = true) (hcfg : elecMetro s = some e)
    (hmeter : ∃ x ∈ e.meters, x.meter = m) (hlow : 1 ≤ n) (hhigh : n ≤ 1024) (hfree : s.boe.cal = none) :
    exec (.calStart c m n) s = .next (showResult 11 1 { result := resPending } (calStarted m n (touchSession c s))) := by
  have hfree' : (touchSession c s).boe.cal = none := by rw [touchSession_boe, hfree]
  show Host.Outcome.next (cmdCalStart c m n s).1 = _
  rw [cmdCalStart, hlive]
  refine congrArg Host.Outcome.next (runCommand_ok hadmitted ?_)
  dsimp only
  rw [calArguments_good hcfg hmeter hlow hhigh, hfree']
  rfl

theorem exec_calStart_busy (hadmitted : Admitted c [roleMetrologist] s) (hlive : inState s .live = true) (hcfg : elecMetro s = some e)
    (hmeter : ∃ x ∈ e.meters, x.meter = m) (hlow : 1 ≤ n) (hhigh : n ≤ 1024) (hrun : s.boe.cal ≠ none) :
    exec (.calStart c m n) s = .next (showResult 11 1 { result := resBusy } (emit 0x0BFF 1 resBusy m (touchSession c s))) := by
  show Host.Outcome.next (cmdCalStart c m n s).1 = _
  rw [cmdCalStart]
  refine congrArg Host.Outcome.next (runCommand_error (by decide) hadmitted ?_)
  rw [hlive, if_pos rfl]
  dsimp only
  rw [calArguments_good hcfg hmeter hlow hhigh, touchSession_boe, Option.isSome_iff_ne_none.mpr hrun]
  rfl

/-- An accepted CAL_START (R291). -/
theorem calStart_starts (wf : WellKept s) (hadmitted : Admitted c [roleMetrologist] s) (hlive : inState s .live = true)
    (hcfg : elecMetro s = some e) (hmeter : ∃ x ∈ e.meters, x.meter = m) (hlow : 1 ≤ n) (hhigh : n ≤ 1024) (hfree : s.boe.cal = none) :
    ∃ t x, exec (.calStart c m n) s = .next t ∧ t.boe.cal = some x ∧ x.meter = m ∧ x.windows = n ∧ x.done = 0 ∧
      flag t F.BOE.STATUS_CAL_BUSY = true ∧ getF t F.BOE.CAL_STATE_STATE = 1 ∧ getF t F.BOE.CMD_RESULT_RESULT = resPending ∧
      OnlyParts [.regs, .boe, .sec] s t := by
  have htouched : WellKept (touchSession c s) := (touchSession_moves c s).form wf
  have hstarted := calStarted_moves m n (touchSession c s)
  refine ⟨_, { meter := m, windows := n }, exec_calStart hadmitted hlive hcfg hmeter hlow hhigh hfree, ?_, rfl, rfl, rfl, ?_, ?_,
    getF_showResult_boe_result _ _ (hstarted.form htouched), ?_⟩
  · rw [showResult_boe]
    rfl
  · exact (flag_congr (getF_showResult_boe _ _ (by decide) (by decide))).trans (flag_calStarted htouched)
  · exact (getF_showResult_boe _ _ (by decide) (by decide)).trans (getF_calStarted_state htouched)
  · exact onlyParts_of_moves (m := 0x801002) _ _ (moves_step (showResult_moves ..) rfl <| moves_step hstarted rfl <|
      moves_step (touchSession_moves ..) rfl moves_refl) rfl

/-- A CAL_START while a run is in progress. -/
theorem calStart_refused (wf : WellKept s) (hadmitted : Admitted c [roleMetrologist] s) (hlive : inState s .live = true)
    (hcfg : elecMetro s = some e) (hmeter : ∃ x ∈ e.meters, x.meter = m) (hlow : 1 ≤ n) (hhigh : n ≤ 1024) (hrun : s.boe.cal ≠ none) :
    ∃ t, exec (.calStart c m n) s = .next t ∧ t.boe = s.boe ∧ getF t F.BOE.CMD_RESULT_RESULT = resBusy := by
  have htouched : WellKept (touchSession c s) := (touchSession_moves c s).form wf
  refine ⟨_, exec_calStart_busy hadmitted hlive hcfg hmeter hlow hhigh hrun, ?_,
    getF_showResult_boe_result _ _ ((emit_moves ..).form htouched)⟩
  rw [showResult_boe, (emit_moves ..).frame .boe rfl, touchSession_boe]

/-! ### The end of a run -/

/-- The run is over, and CAL_STATE shows how it ended. -/
def calEnded (how : Nat) (s : State) : State :=
  setF F.BOE.STATUS_CAL_BUSY 0 (setF F.BOE.CAL_STATE_STATE how { s with boe := { s.boe with cal := none } })

theorem calEnded_moves (how : Nat) (s : State) : Moves 0x1002 s (calEnded how s) :=
  moves_step setF_moves rfl <| moves_step setF_moves rfl <| moves_step (putBoe_moves ..) rfl moves_refl

theorem flag_calEnded (how : Nat) (wf : WellKept s) : flag (calEnded how s) F.BOE.STATUS_CAL_BUSY = false :=
  flag_setF_zero (setF_keysRise _ _ _ wf.regs)

theorem getF_calEnded_state {how : Nat} (wf : WellKept s) (h : how < 4) : getF (calEnded how s) F.BOE.CAL_STATE_STATE = how :=
  (getF_setF_other _ _ _ _ (by decide)).trans ((getF_setF_same _ _ _ wf.regs).trans (Nat.mod_eq_of_lt h))

/-! ### CAL_DONE -/

/-- The means of the run stand in the CAL registers. -/
def calMeans (r : Calibration) (s : State) : State :=
  let n := f64OfInt r.windows
  r.sums.foldl (fun t x =>
    setF (F.BOE.CAL_V_RMS x.1) (word64 (f64Div x.2.1 n)) (setF (F.BOE.CAL_I_RMS x.1) (word64 (f64Div x.2.2.1 n))
      (setF (F.BOE.CAL_P x.1) (word64 (f64Div x.2.2.2.1 n)) (setF (F.BOE.CAL_Q x.1) (word64 (f64Div x.2.2.2.2 n)) t)))) s

theorem calMeans_moves (r : Calibration) (s : State) : Moves 0x2 s (calMeans r s) :=
  moves_foldl moves_refl fun _ _ h => moves_step setF_moves rfl <| moves_step setF_moves rfl <| moves_step setF_moves rfl <|
    moves_step setF_moves rfl h

theorem exec_calDone (h : s.boe.cal = some r) : exec .calDone s = .next (if r.done < r.windows then s
    else commandDone 11 1 none resOk 0 (emit 0x0B08 r.meter r.windows 0 (calEnded 2 (calMeans r s)))) := by
  show execCalDone s = _
  rw [execCalDone, h]
  rfl

theorem calDone_ends (wf : WellKept s) (hrun : s.boe.cal = some r) (hcomplete : r.windows ≤ r.done) :
    ∃ t, exec .calDone s = .next t ∧ t.boe = { s.boe with cal := none } ∧ flag t F.BOE.STATUS_CAL_BUSY = false ∧
      getF t F.BOE.CAL_STATE_STATE = 2 ∧ OnlyParts [.regs, .boe, .cont, .host] s t := by
  have hexec := exec_calDone hrun
  rw [if_neg (Nat.not_lt.mpr hcomplete)] at hexec
  have hmeans := calMeans_moves r s
  have hfield : ∀ {f : Field}, fieldKey f < 0x2C000000 →
      getF (commandDone 11 1 none resOk 0 (emit 0x0B08 r.meter r.windows 0 (calEnded 2 (calMeans r s)))) f =
        getF (calEnded 2 (calMeans r s)) f := fun h => (getF_commandDone_low h).trans (getF_emit ..)
  refine ⟨_, hexec, ?_, (flag_congr (hfield (by decide))).trans (flag_calEnded 2 (hmeans.form wf)),
    (hfield (by decide)).trans (getF_calEnded_state (hmeans.form wf) (by decide)),
    onlyParts_of_moves _ _ (execCalDone_moves s _ hexec) rfl⟩
  rw [(commandDone_moves ..).frame .boe rfl, (emit_moves ..).frame .boe rfl]
  show { (calMeans r s).boe with cal := none } = _
  rw [hmeans.frame .boe rfl]

/-! ### CAL_ABORT -/

/-- The CAL registers, in the order in which they are cleared. -/
def calFields : List Field := (List.range 48).flatMap fun k => [F.BOE.CAL_Q k, F.BOE.CAL_P k, F.BOE.CAL_I_RMS k, F.BOE.CAL_V_RMS k]

theorem mem_calFields : f ∈ calFields ↔
    ∃ k < 48, f = F.BOE.CAL_Q k ∨ f = F.BOE.CAL_P k ∨ f = F.BOE.CAL_I_RMS k ∨ f = F.BOE.CAL_V_RMS k := by
  simp [calFields]

theorem clearCal_eq (s : State) : clearCal s = resetFields calFields s := by
  rw [resetFields, calFields, List.foldl_flatMap]
  rfl

/-- The registers of a current channel, from the lowest: every one has its place. -/
theorem calFields_keys : calFields.map fieldKey = (List.range 48).flatMap fun k =>
    [0x16060580 + 0x800 * k, 0x16060500 + 0x800 * k, 0x16060480 + 0x800 * k, 0x16060400 + 0x800 * k] := by
  rw [calFields, List.map_flatMap]
  refine congrArg (fun g => (List.range 48).flatMap g) (funext fun k => ?_)
  simp only [List.map_cons, List.map_nil, fieldKey, F.BOE.CAL_Q, F.BOE.CAL_P, F.BOE.CAL_I_RMS, F.BOE.CAL_V_RMS, List.cons.injEq]
  exact ⟨by omega, by omega, by omega, by omega, trivial⟩

theorem calFields_nodup : (calFields.map fieldKey).Nodup := by
  rw [calFields_keys, List.nodup_flatMap]
  refine ⟨fun k _ => ?_, List.nodup_range.imp fun {j k} hne x hj hk => ?_⟩
  · simp
  · simp only [List.mem_cons, List.not_mem_nil, or_false] at hj hk
    omega

theorem getF_clearCal (wf : WellKept s) (hf : f ∈ calFields) : getF (clearCal s) f = 0 := by
  rw [clearCal_eq, getF_resetFields_mem _ _ _ wf.regs calFields_nodup hf]
  obtain ⟨k, -, rfl | rfl | rfl | rfl⟩ := mem_calFields.mp hf <;> rfl

theorem getF_clearCal_other (h : fieldKey f < 0x16060400) : getF (clearCal s) f = getF s f := by
  rw [clearCal_eq]
  refine getF_resetFields_other _ _ _ fun g hg => ?_
  have hkey : 0x16060400 ≤ fieldKey g := by
    obtain ⟨k, -, rfl | rfl | rfl | rfl⟩ := mem_calFields.mp hg <;>
      simp only [fieldKey, F.BOE.CAL_Q, F.BOE.CAL_P, F.BOE.CAL_I_RMS, F.BOE.CAL_V_RMS] <;> omega
  omega

/-- The CAL registers are cleared, and the run is over. -/
def calCleared (s : State) : State := clearCal (calEnded 3 (drawFree s).2)

theorem calCleared_boe (s : State) : (calCleared s).boe = { s.boe with cal := none } := (clearCal_moves _).frame .boe rfl

theorem abortCal_eq (h : s.boe.cal = some r) :
    abortCal s = commandDone 11 1 none ((drawFree s).1.toNat % 256) 0 (emit 0x0B08 r.meter r.done 1 (calCleared s)) := by
  rw [abortCal, h]
  rfl

theorem abortCal_boe (h : s.boe.cal = some r) : (abortCal s).boe = { s.boe with cal := none } := by
  rw [abortCal_eq h, (commandDone_moves ..).frame .boe rfl, (emit_moves ..).frame .boe rfl, calCleared_boe]

theorem getF_abortCal (h : s.boe.cal = some r) (hf : fieldKey f < 0x2C000000) : getF (abortCal s) f = getF (calCleared s) f := by
  rw [abortCal_eq h, getF_commandDone_low hf, getF_emit]

theorem exec_calAbort (hadmitted : Admitted c [roleMetrologist] s) (hlive : inState s .live = true) (hrun : s.boe.cal ≠ none) :
    exec (.calAbort c 0) s =
      .next (showResult 11 2 { result := resOk } (abortCal (touchSession { c with spare := 0 :: c.spare } s))) := by
  have hspare : Admitted { c with spare := 0 :: c.spare } [roleMetrologist] s := hadmitted
  show Host.Outcome.next (cmdCalAbort c 0 s).1 = _
  rw [cmdCalAbort, hlive]
  refine congrArg Host.Outcome.next (runCommand_ok hspare ?_)
  rw [touchSession_boe, Option.isNone_eq_false_iff.mpr (Option.isSome_iff_ne_none.mpr hrun)]
  rfl

theorem calAbort_ends (wf : WellKept s) (hadmitted : Admitted c [roleMetrologist] s) (hlive : inState s .live = true)
    (hrun : s.boe.cal = some r) : ∃ t, exec (.calAbort c 0) s = .next t ∧ t.boe = { s.boe with cal := none } ∧
      flag t F.BOE.STATUS_CAL_BUSY = false ∧ getF t F.BOE.CAL_STATE_STATE = 3 ∧
      (∀ k, k < 48 → getF t (F.BOE.CAL_V_RMS k) = 0 ∧ getF t (F.BOE.CAL_P k) = 0) ∧ getF t F.BOE.CMD_RESULT_RESULT = resOk := by
  have hexec := exec_calAbort hadmitted hlive (hrun ▸ Option.some_ne_none r)
  generalize hu : touchSession { c with spare := 0 :: c.spare } s = u at hexec
  have hboe : u.boe = s.boe := hu ▸ touchSession_boe ..
  have hwf : WellKept u := hu ▸ (touchSession_moves ..).form wf
  have hcal : u.boe.cal = some r := by rw [hboe, hrun]
  have hended : WellKept (calEnded 3 (drawFree u).2) := (calEnded_moves 3 _).form ((drawFree_moves u).form hwf)
  have hfield : ∀ {f : Field}, fieldKey f < 0x2C000000 → fieldKey F.BOE.CMD_RESULT_RESULT ≠ fieldKey f →
      fieldKey F.BOE.CMD_RESULT_OPCODE ≠ fieldKey f →
      getF (showResult 11 2 { result := resOk } (abortCal u)) f = getF (calCleared u) f :=
    fun hlow hresult hopcode => (getF_showResult_boe _ _ hresult hopcode).trans (getF_abortCal hcal hlow)
  refine ⟨_, hexec, ?_, ?_, ?_, fun k hk => ⟨?_, ?_⟩, getF_showResult_boe_result _ _ ((abortCal_moves u).form hwf)⟩
  · rw [showResult_boe, abortCal_boe hcal, hboe]
  · refine (flag_congr ((hfield (by decide) (by decide) (by decide)).trans (getF_clearCal_other (by decide)))).trans ?_
    exact flag_calEnded 3 ((drawFree_moves u).form hwf)
  · refine ((hfield (by decide) (by decide) (by decide)).trans (getF_clearCal_other (by decide))).trans ?_
    exact getF_calEnded_state ((drawFree_moves u).form hwf) (by decide)
  · have hkey : fieldKey (F.BOE.CAL_V_RMS k) = 0x16060400 + 0x800 * k := by simp only [fieldKey, F.BOE.CAL_V_RMS]; omega
    have hresult : fieldKey F.BOE.CMD_RESULT_RESULT = 0x16001180 := rfl
    have hopcode : fieldKey F.BOE.CMD_RESULT_OPCODE = 0x16001188 := rfl
    refine (hfield (by omega) (by omega) (by omega)).trans (getF_clearCal hended ?_)
    exact mem_calFields.mpr ⟨k, hk, .inr (.inr (.inr rfl))⟩
  · have hkey : fieldKey (F.BOE.CAL_P k) = 0x16060500 + 0x800 * k := by simp only [fieldKey, F.BOE.CAL_P]; omega
    have hresult : fieldKey F.BOE.CMD_RESULT_RESULT = 0x16001180 := rfl
    have hopcode : fieldKey F.BOE.CMD_RESULT_OPCODE = 0x16001188 := rfl
    refine (hfield (by omega) (by omega) (by omega)).trans (getF_clearCal hended ?_)
    exact mem_calFields.mpr ⟨k, hk, .inr (.inl rfl)⟩

end Sys2Proof.Machine
end

section
/-! The statement about the calibration run. -/

namespace Sys2Proof.Certificates

open Sys2Proof Sys2Proof.Machine

/-- Settles O40, command by command: CAL_START, free or BUSY, CAL_DONE, and CAL_ABORT. -/
theorem calibrationRuns : Obligations.CalibrationRuns := by
  refine fun c s wf => ⟨fun e m n hadmitted hlive hcfg hmeter hlow hhigh => ⟨?_, ?_⟩, fun r hrun => ⟨?_, ?_, ?_⟩⟩
  · exact calStart_starts wf hadmitted hlive hcfg hmeter hlow hhigh
  · exact calStart_refused wf hadmitted hlive hcfg hmeter hlow hhigh
  · exact calDone_ends wf hrun
  · intro hrunning
    rw [exec_calDone hrun, if_pos hrunning]
  · exact fun hadmitted hlive => calAbort_ends wf hadmitted hlive hrun

end Sys2Proof.Certificates
end

section
/-! SUPPORT. Rules that the proofs about single commands share: what a command's answer keeps, fields read in a chain of writes, and
records that are handed to CONT. -/

namespace Sys2Proof.Machine

open Sys2Proof

variable {s t u : State}

/-! ### Answers of commands -/

theorem exec_onlyParts {c : Instr} (h : exec c s = .next t) : OnlyParts (touches c) s t :=
  fun p hp => (exec_moves c s t h).frame p (mask_testBit _ p hp)

/-! ### Fields -/

theorem getF_of_onlyFields {fs : List Field} (h : OnlyFields fs s t) (f : Field) (hf : ∀ g ∈ fs, fieldKey g ≠ fieldKey f) :
    getF t f = getF s f := h f hf

theorem flag_of_onlyFields {fs : List Field} (h : OnlyFields fs s t) (f : Field) (hf : ∀ g ∈ fs, fieldKey g ≠ fieldKey f) :
    flag t f = flag s f := by
  unfold flag
  rw [h f hf]

/-- A field's value once it has been written with a number that it can hold. -/
theorem getF_setF_lt {f : Field} {v : Nat} (h : keysRise s.regs = true) (hv : v < 2 ^ f.width) : getF (setF f v s) f = v :=
  (getF_setF_same s f v h).trans (Nat.mod_eq_of_lt hv)

theorem flag_setF_ofBool {f : Field} (b : Bool) (hw : f.width = 1) (h : keysRise s.regs = true) :
    flag (setF f (ofBool b) s) f = b := by
  unfold flag
  rw [getF_setF_same s f _ h, hw]
  cases b <;> rfl

theorem flag_setF_other (f g : Field) (v : Nat) (h : fieldKey f ≠ fieldKey g) : flag (setF f v s) g = flag s g := by
  unfold flag
  rw [getF_setF_other s f g v h]

theorem onlyFields_single_setF (f : Field) (v : Nat) (s : State) : OnlyFields [f] s (setF f v s) :=
  onlyFields_setF (by simp) onlyFields_refl

/-! ### Results of commands (R101) -/

theorem showResult_onlyFields {n op : Nat} {r : Reply} {fo fr : Field} (h : cmdResultFields n = some (fo, fr)) (h2 : n ≠ 2)
    (h21 : n ≠ 21) : OnlyFields [fo, fr] s (showResult n op r s) := by
  simp only [showResult, h, h2, h21, if_false]
  exact onlyFields_setF (by simp) (onlyFields_setF (by simp) onlyFields_refl)

theorem getF_showResult {n op : Nat} {r : Reply} {fo fr : Field} (h : cmdResultFields n = some (fo, fr)) (h2 : n ≠ 2) (h21 : n ≠ 21)
    (hr : r.result < 2 ^ fr.width) (hs : keysRise s.regs = true) : getF (showResult n op r s) fr = r.result := by
  simp only [showResult, h, h2, h21, if_false]
  exact getF_setF_lt (setF_keysRise s fo op hs) hr

/-- The idle times of sessions are registers of SEC. -/
theorem getF_touchSession_below (c : Caller) {f : Field} (hf : f.addr < 0x1500000) (hlsb : f.lsb < 32) (s : State) :
    getF (touchSession c s) f = getF s f := by
  refine touchSession_onlyFields c s f fun g hg => ?_
  obtain ⟨k, -, rfl⟩ := List.mem_map.1 hg
  simp only [fieldKey, F.SEC.SES_IDLE]
  omega

/-! ### Records -/

theorem records_of_cont {l : List (Nat × List Nat)} {s' t' : State} (h : Records s t l) (hs : s'.cont = s.cont)
    (ht : t'.cont = t.cont) : Records s' t' l := by
  rw [Records, hs, ht]
  exact h

theorem emit_pwr (code w1 w2 w3 : Nat) (s : State) : (emit code w1 w2 w3 s).pwr = s.pwr := (emit_moves ..).frame .pwr rfl

end Sys2Proof.Machine
end

section
/-! SUPPORT. Zeroisation: a key store that has been emptied stays empty through the restart that follows, and the restart leads to BOOT
from LIVE too (R79, R487). -/

namespace Sys2Proof.Machine

open Sys2Proof

variable {s t : State}

/-! ### The key store -/

/-- The key store (R483). -/
def keyStore (s : State) : Table (Option KeyEntry) := s.sec.keys

theorem keyStore_of_moves {m : Nat} (h : Moves m s t) (hm : m.testBit 23 = false) : keyStore t = keyStore s :=
  congrArg SecPart.keys (h.frame .sec hm)

theorem keyStore_resetFields (fs : List Field) (s : State) : keyStore (resetFields fs s) = keyStore s :=
  keyStore_of_moves (resetFields_moves ..) rfl

theorem keyStore_freeSession (k : Nat) (s : State) : keyStore (freeSession k s) = keyStore s := keyStore_resetFields _ s

theorem keyStore_endSession (k cause : Nat) (s : State) : keyStore (endSession k cause s) = keyStore s := by
  unfold endSession
  split
  · rfl
  · exact keyStore_freeSession k s
  · rw [keyStore_freeSession, keyStore_of_moves (emit_moves ..) rfl, keyStore_of_moves (sessionTakes_moves ..) rfl]

theorem keyStore_endSessions (cause : Nat) (s : State) : keyStore (endSessions cause s) = keyStore s :=
  look_foldl fun t k _ => keyStore_endSession k cause t

theorem keyStore_eraseKeys (cause : Nat) (s : State) : keyStore (eraseKeys cause s) = [] := by
  unfold eraseKeys
  rw [keyStore_of_moves (showKeys_moves _) rfl, keyStore_endSessions]
  rfl

theorem keyStore_finishZeroise (h : keyStore s = []) : keyStore (finishZeroise s) = [] := by
  unfold finishZeroise
  split
  · exact h
  · rw [keyStore_of_moves (emit_moves ..) rfl, keyStore_of_moves (showKeys_moves _) rfl]
    rfl

theorem keyStore_setState_bootPrepared (s : State) : keyStore (setState .boot (bootPrepared s)) = keyStore s := by
  rw [keyStore_of_moves (setState_moves ..) rfl, keyStore_of_moves (bootPrepared_moves s) rfl,
    keyStore_of_moves (newEpoch_moves _) rfl]
  rfl

theorem keyStore_enterBoot (retained outage : Bool) (h : keyStore s = []) : keyStore (enterBoot retained outage s) = [] := by
  show keyStore (showSecHealth (finishZeroise (showKeys (batReplay retained outage (batRestore retained
    (setState .boot (bootPrepared s))))))) = []
  rw [keyStore_of_moves (showSecHealth_moves _) rfl]
  refine keyStore_finishZeroise ?_
  rw [keyStore_of_moves (showKeys_moves _) rfl, keyStore_of_moves (batReplay_moves ..) rfl,
    keyStore_of_moves (batRestore_moves ..) rfl, keyStore_setState_bootPrepared, h]

theorem keyStore_restartFlush (m : Bool) (h : keyStore s = []) : keyStore (restartFlush m s) = [] := by
  refine keyStore_enterBoot true false ?_
  show keyStore (flushAll _) = []
  rw [keyStore_of_moves (flushAll_moves _) rfl]
  split
  · rw [keyStore_of_moves (writeLastSave_moves ..) rfl, h]
  · exact h

/-- A restart leaves an empty key store empty. -/
theorem keyStore_restart (m : Bool) (h : keyStore s = []) : keyStore (restart m s) = [] := by
  have hreleased : keyStore (restartReleased (leaveLive s)) = [] := by
    unfold restartReleased
    rw [keyStore_endSessions, keyStore_of_moves (lrpOff_moves _) rfl, keyStore_of_moves (dropOutputs_moves _) rfl,
      keyStore_of_moves (releaseAir_moves _) rfl, keyStore_of_moves (leaveLive_moves s) rfl, h]
  unfold restart
  split
  · exact h
  · split
    · exact h
    · rw [restartNow_eq, flushOrWait]
      generalize restartReleased (leaveLive s) = w at hreleased
      split
      · exact hreleased
      · exact keyStore_restartFlush m hreleased

theorem keyStore_zeroise (cause : Nat) (s : State) : keyStore (zeroise cause s) = [] :=
  keyStore_restart false (keyStore_eraseKeys cause s)

theorem keys_zeroise (cause : Nat) (s : State) : (zeroise cause s).sec.keys = [] := by
  have h := keyStore_zeroise cause s
  unfold keyStore at h
  exact h

/-! ### The windows of BOE -/

/-- Whether a window is open depends on the sets in use and their lengths alone. -/
theorem windowsOpen_stopped (h : t.boe.sets = s.boe.sets.map (fun x => { x with running := false })) :
    windowsOpen t = windowsOpen s := by
  unfold windowsOpen
  rw [h, List.any_map]
  rfl

theorem windowsOpen_boeStop (s : State) : windowsOpen (boeStop s) = windowsOpen s := by
  refine windowsOpen_stopped ?_
  unfold boeStop
  extract_lets sets s1
  have hfold : s1.boe.sets = s.boe.sets := look_foldl (look := fun t => t.boe.sets) fun _ _ _ => rfl
  show (abortCal { s1 with boe := { s1.boe with sets := sets } }).boe.sets = sets
  unfold abortCal
  split
  · rfl
  · exact congrArg BoePart.sets (((commandDone_moves ..).frame .boe rfl).trans
      (((emit_moves ..).frame .boe rfl).trans ((clearCal_moves _).frame .boe rfl)))

theorem windowsOpen_endLiveWork (s : State) : windowsOpen (endLiveWork s) = windowsOpen s := by
  unfold endLiveWork
  extract_lets s1 s2 s3 s4 s5
  have h1 : windowsOpen s1 = windowsOpen s := windowsOpen_congr ((takesLeaveLive_moves s).frame .boe rfl)
  have h2 : windowsOpen s2 = windowsOpen s1 := windowsOpen_congr (by simp only [s2, setF_boe])
  have hcan : windowsOpen (lrpOff (canStop (stnStop s2))) = windowsOpen s2 :=
    windowsOpen_congr (((lrpOff_moves _).frame .boe rfl).trans
      (((canStop_moves _).frame .boe rfl).trans ((stnStop_moves _).frame .boe rfl)))
  have h3 : windowsOpen s3 = windowsOpen s2 :=
    (windowsOpen_congr ((botStop_moves _).frame .boe rfl)).trans ((windowsOpen_boeStop _).trans hcan)
  have h4 : windowsOpen s4 = windowsOpen s3 :=
    windowsOpen_congr (((dropRound_moves _).frame .boe rfl).trans
      (((carStop_moves _).frame .boe rfl).trans ((trpStop_moves _).frame .boe rfl)))
  have h5 : windowsOpen s5 = windowsOpen s4 := windowsOpen_congr (by simp only [s5, setF_boe])
  clear_value s5
  exact (windowsOpen_congr (s := s5) rfl).trans (h5.trans (h4.trans (h3.trans (h2.trans h1))))

theorem windowsOpen_leaveLive (s : State) : windowsOpen (leaveLive s) = windowsOpen s := by
  cases hlive : inState s .live
  · rw [leaveLive, hlive]
    rfl
  · rw [leaveLive_eq s hlive]
    have hshown : Moves 0x400002 (endLiveWork s) (supplyHealth (setF F.PWR.STATUS_TEMP_FAILED 0 (setRole 7 (setHealth 19 0 (setHealth 9 0
        (clearFaulted (releaseAir (endLiveWork s)))))))) :=
      moves_step (supplyHealth_moves _) rfl <| moves_step setF_moves rfl <| moves_step (setRole_moves ..) rfl <|
        moves_step (setHealth_moves ..) rfl <| moves_step (setHealth_moves ..) rfl <| moves_step (clearFaulted_moves _) rfl <|
          moves_step (releaseAir_moves _) rfl moves_refl
    exact (windowsOpen_congr (hshown.frame .boe rfl)).trans (windowsOpen_endLiveWork s)

/-! ### The restart -/

/-- From any state a restart leads to BOOT at once where nothing holds it back, and no Reel is in force then (R79). -/
theorem restart_enters_boot (m : Bool) (hpower : powerFailing s = false) (hflush : s.dev.flushing = none)
    (href : s.dev.referenceLost = false) (hclosed : windowsOpen s = false) :
    (restart m s).dev.state = .boot ∧ (restart m s).cfg = {} := by
  have hnow : restart m s = restartNow m s := by simp [restart, hpower, hflush, href]
  have hreleased : windowsOpen (restartReleased (leaveLive s)) = false :=
    (windowsOpen_congr ((restartReleased_moves _).frame .boe rfl)).trans ((windowsOpen_leaveLive s).trans hclosed)
  rw [hnow, restartNow_eq, flushOrWait, hreleased]
  exact ⟨(restartFlush_dev _ m).1, restartFlush_cfg ..⟩

theorem zeroise_enters_boot (cause : Nat) (hpower : powerFailing s = false) (hflush : s.dev.flushing = none)
    (href : s.dev.referenceLost = false) (hclosed : windowsOpen s = false) :
    (zeroise cause s).dev.state = .boot ∧ (zeroise cause s).cfg = {} := by
  have herased := eraseKeys_moves cause s
  have hdev : (eraseKeys cause s).dev = s.dev := herased.frame .dev rfl
  have hpwr : (eraseKeys cause s).pwr = s.pwr := herased.frame .pwr rfl
  have hboe : (eraseKeys cause s).boe = s.boe := herased.frame .boe rfl
  rw [← hdev] at hflush href
  unfold zeroise
  refine restart_enters_boot false ?_ hflush href ((windowsOpen_congr hboe).trans hclosed)
  rw [powerFailing, hpwr]
  exact hpower

end Sys2Proof.Machine
end

section
/-! SUPPORT. What a change of a domain's lock state and of the selection leaves unchanged (R327, R335 to R337). -/

namespace Sys2Proof.Machine

open Sys2Proof

variable {s t : State} {b : Nat}

/-! ### Counts and servos -/

/-- The counts of the time bases and the servo states of the domains. -/
def servos (s : State) : List BaseCount × List Domain := (s.clap.bases, s.clap.domains)

theorem bases_of_servos (h : servos t = servos s) : t.clap.bases = s.clap.bases := congrArg Prod.fst h

theorem domains_of_servos (h : servos t = servos s) : t.clap.domains = s.clap.domains := congrArg Prod.snd h

theorem dom_of_servos (h : servos t = servos s) (b : Nat) : dom t b = dom s b := by rw [dom, dom, domains_of_servos h]

theorem servos_of_moves {m : Nat} (h : Moves m s t) (hm : m.testBit 3 = false) : servos t = servos s :=
  congrArg (fun c => (c.bases, c.domains)) (h.frame .clap hm)

theorem dom_updDom (f : Domain → Domain) (hb : b - 2 < s.clap.domains.length) : dom (updDom b f s) b = f (dom s b) := by
  simp [dom, updDom, listUpd, List.getD_eq_getElem?_getD, hb]

theorem domains_updDom_length (f : Domain → Domain) : (updDom b f s).clap.domains.length = s.clap.domains.length := by
  simp [updDom, listUpd]

theorem servos_selectDomain (d : Nat) (s : State) : servos (selectDomain d s) = servos s := by
  unfold selectDomain
  extract_lets old k clap s1 s2
  split
  · rfl
  · rw [servos_of_moves (checkAligned_moves s2) rfl, servos_of_moves (emit_moves ..) rfl, servos_of_moves (bumpF_moves ..) rfl,
      servos_of_moves setF_moves rfl]
    rfl

theorem servos_reselect (s : State) : servos (reselect s) = servos s := by
  unfold reselect
  split
  · rfl
  · extract_lets cur s1
    split
    · rfl
    · exact (servos_selectDomain _ s1).trans rfl

/-! ### Fields -/

theorem checkAligned_onlyFields (s : State) : OnlyFields [F.CLAP.STATUS_ALIGNED] s (checkAligned s) := by
  unfold checkAligned
  extract_lets sel al was s1
  have h1 : OnlyFields [F.CLAP.STATUS_ALIGNED] s s1 := onlyFields_setF (by simp) onlyFields_refl
  exact onlyFields_ite (onlyFields_emit h1) h1

/-- The fields in which a selection is shown (R335 to R337). -/
def selectionFields : List Field := [F.CLAP.STATUS_ALIGNED, F.CLAP.SWITCH_COUNT, F.CLAP.STATUS_SELECTED]

theorem selectDomain_onlyFields (d : Nat) (s : State) : OnlyFields selectionFields s (selectDomain d s) := by
  unfold selectDomain
  extract_lets old k clap s1 s2
  have h1 : OnlyFields selectionFields s s1 :=
    onlyFields_bumpF (by simp [selectionFields]) (onlyFields_setF (by simp [selectionFields]) onlyFields_refl)
  exact onlyFields_ite onlyFields_refl
    (onlyFields_trans (onlyFields_emit h1) (onlyFields_mono (checkAligned_onlyFields s2) (by simp [selectionFields])))

theorem getF_selectDomain (d : Nat) (hd : d < 8) (hs : keysRise s.regs = true) :
    getF (selectDomain d s) F.CLAP.STATUS_SELECTED = d := by
  unfold selectDomain
  extract_lets old k clap s1 s2
  split
  next h => exact h.symm
  · rw [checkAligned_onlyFields s2 _ (by decide), getF_emit, getF_bumpF_other _ _ _ _ (by decide)]
    exact getF_setF_lt hs hd

theorem reselect_onlyFields (s : State) : OnlyFields (F.CLAP.STATUS_FORCED :: selectionFields) s (reselect s) := by
  unfold reselect
  extract_lets cur s1
  have h1 : OnlyFields (F.CLAP.STATUS_FORCED :: selectionFields) s s1 := onlyFields_setF (by simp) onlyFields_refl
  exact onlyFields_ite onlyFields_refl (onlyFields_ite onlyFields_refl
    (onlyFields_trans h1 (onlyFields_mono (selectDomain_onlyFields _ s1) (List.subset_cons_self _ _))))

theorem netPoint_onlyFields (q o v stamp : Nat) (s : State) : OnlyFields sampleCounters s (netPoint q o v stamp s) :=
  onlyFields_foldl fun _ _ t => sampleIn_onlyFields _ _ _ _ t

/-- The fields outside a domain's own registers that a change of its lock state can write. -/
def lockFields : List Field := F.CLAP.STATUS_FORCED :: selectionFields ++ sampleCounters

theorem reselect_lockFields (s : State) : OnlyFields lockFields s (reselect s) :=
  onlyFields_mono (reselect_onlyFields s) (List.subset_append_left _ _)

theorem netPoint_lockFields (q o v stamp : Nat) (s : State) : OnlyFields lockFields s (netPoint q o v stamp s) :=
  onlyFields_mono (netPoint_onlyFields q o v stamp s) (List.subset_append_right _ _)

/-- They are apart from every register of a time base. -/
theorem lockFields_apart {f : Field} (hlow : 0x0300100 ≤ f.addr) (hhigh : f.addr < 0x0300400) (hlsb : f.lsb < 32) :
    ∀ g ∈ lockFields, fieldKey g ≠ fieldKey f := by
  simp only [lockFields, selectionFields, sampleCounters, List.cons_append, List.nil_append, List.forall_mem_cons, fieldKey,
    F.CLAP.STATUS_FORCED, F.CLAP.STATUS_ALIGNED, F.CLAP.SWITCH_COUNT, F.CLAP.STATUS_SELECTED, F.PIMG.REJECT_COUNT,
    F.PIMG.CLAMP_COUNT, F.PIMG.RATE_COUNT, F.PIMG.FILTER_COUNT, F.PIMG.WRITE_REFUSED_COUNT]
  refine ⟨?_, ?_, ?_, ?_, ?_, ?_, ?_, ?_, ?_, by simp⟩ <;> omega

/-! ### A change of the lock state -/

/-- What a servo keeps of the instant at which its domain entered `st`. -/
def enteredAt (st now : Nat) (d : Domain) : Domain :=
  if st = 2 then { d with lockedSince := now } else if st = 3 then { d with holdoverSince := now } else d

/-- A domain's state on a new lock state, before the selection is decided anew. -/
def lockChanged (b st cause : Nat) (s : State) : State :=
  let s0 := setF (F.CLAP.BASE_STATE b) st s
  let s1 := netPoint 3 (b - 2) st (nowStamp s0) s0
  if st = 2 then emit 0x0301 b (getF s (F.CLAP.OFFSET_LAST b)) 0 (updDom b (fun d => { d with lockedSince := nowNs s 0 }) s1)
  else if st = 3 then
    emit 0x0302 b cause 0 (updDom b (fun d => { d with holdoverSince := nowNs s 0 })
      (if domState s b = 2 then bumpF (F.CLAP.LOCK_LOSS_COUNT b) 1 s1 else s1))
  else if st = 0 then emit 0x0303 b s.cfg.time.holdoverS 0 s1
  else s1

theorem setDomState_new {st : Nat} (cause : Nat) (h : domState s b ≠ st) :
    setDomState b st cause s = reselect (lockChanged b st cause s) := by
  rw [setDomState, if_neg h]
  rfl

theorem setDomState_same {st : Nat} (cause : Nat) (h : domState s b = st) : setDomState b st cause s = s := by
  rw [setDomState, if_pos h]

theorem bases_setDomState (b st cause : Nat) (s : State) : (setDomState b st cause s).clap.bases = s.clap.bases := by
  by_cases h : domState s b = st
  · rw [setDomState_same cause h]
  · rw [setDomState_new cause h, bases_of_servos (servos_reselect _)]
    unfold lockChanged
    extract_lets s0 s1
    have h0 : servos s1 = servos s0 := servos_of_moves (netPoint_moves ..) rfl
    have h1 : s1.clap.bases = s.clap.bases := bases_of_servos h0
    have hemit : ∀ code w1 w2 w3 u, (emit code w1 w2 w3 u).clap.bases = u.clap.bases :=
      fun _ _ _ _ _ => bases_of_servos (servos_of_moves (emit_moves ..) rfl)
    split
    · rw [hemit]
      exact h1
    · split
      · rw [hemit]
        show (ite _ _ _ : State).clap.bases = _
        split <;> exact h1
      · split
        · rw [hemit, h1]
        · exact h1

theorem lockChanged_keeps {st : Nat} (cause : Nat) (hb : b - 2 < s.clap.domains.length) :
    dom (lockChanged b st cause s) b = enteredAt st (nowNs s 0) (dom s b) ∧
      (lockChanged b st cause s).clap.domains.length = s.clap.domains.length := by
  unfold lockChanged
  extract_lets s0 s1
  have h0 : servos s1 = servos s0 := servos_of_moves (netPoint_moves ..) rfl
  have h1 : servos s1 = servos s := h0
  have hemit : ∀ code w1 w2 w3 u, servos (emit code w1 w2 w3 u) = servos u := fun _ _ _ _ _ => servos_of_moves (emit_moves ..) rfl
  clear_value s1
  have hput : ∀ u : State, servos u = servos s → ∀ f, dom (updDom b f u) b = f (dom s b) ∧
      (updDom b f u).clap.domains.length = s.clap.domains.length := fun u hu f =>
    ⟨(dom_updDom f (by rw [domains_of_servos hu]; exact hb)).trans (congrArg f (dom_of_servos hu b)),
      (domains_updDom_length f).trans (congrArg List.length (domains_of_servos hu))⟩
  have hkeep : ∀ u : State, servos u = servos s → dom u b = dom s b ∧ u.clap.domains.length = s.clap.domains.length :=
    fun u hu => ⟨dom_of_servos hu b, congrArg List.length (domains_of_servos hu)⟩
  unfold enteredAt
  split
  · rw [dom_of_servos (hemit ..), domains_of_servos (hemit ..)]
    exact hput s1 h1 _
  · split
    · rw [dom_of_servos (hemit ..), domains_of_servos (hemit ..)]
      refine hput _ ?_ _
      split
      · exact (servos_of_moves (bumpF_moves ..) rfl).trans h1
      · exact h1
    · split
      · exact hkeep _ ((hemit ..).trans h1)
      · exact hkeep _ h1

theorem dom_setDomState {st : Nat} (cause : Nat) (hb : b - 2 < s.clap.domains.length) :
    dom (setDomState b st cause s) b =
      if domState s b = st then dom s b else enteredAt st (nowNs s 0) (dom s b) := by
  split
  next h => rw [setDomState_same cause h]
  next h => rw [setDomState_new cause h, dom_of_servos (servos_reselect _), (lockChanged_keeps cause hb).1]

theorem domains_setDomState_length {st : Nat} (cause : Nat) (hb : b - 2 < s.clap.domains.length) :
    (setDomState b st cause s).clap.domains.length = s.clap.domains.length := by
  by_cases h : domState s b = st
  · rw [setDomState_same cause h]
  · rw [setDomState_new cause h, domains_of_servos (servos_reselect _), (lockChanged_keeps cause hb).2]

/-- Everything that a change of the lock state does after its state and a loss of lock are shown. -/
theorem lockChanged_onlyFields (b st cause : Nat) (s : State) :
    OnlyFields (F.CLAP.LOCK_LOSS_COUNT b :: lockFields) (setF (F.CLAP.BASE_STATE b) st s) (lockChanged b st cause s) := by
  unfold lockChanged
  extract_lets s0 s1
  have h1 : OnlyFields (F.CLAP.LOCK_LOSS_COUNT b :: lockFields) s0 s1 :=
    onlyFields_mono (netPoint_lockFields _ _ _ _ s0) (List.subset_cons_self _ _)
  have hput : ∀ (u : State) (f : Domain → Domain), OnlyFields (F.CLAP.LOCK_LOSS_COUNT b :: lockFields) s0 u →
      OnlyFields (F.CLAP.LOCK_LOSS_COUNT b :: lockFields) s0 (updDom b f u) := fun _ _ hu => hu
  refine onlyFields_ite (onlyFields_emit (hput _ _ h1)) (onlyFields_ite (onlyFields_emit (hput _ _ (onlyFields_ite ?_ h1)))
    (onlyFields_ite (onlyFields_emit h1) h1))
  exact onlyFields_bumpF List.mem_cons_self h1

theorem domState_setDomState {st : Nat} (cause : Nat) (hb : b ≤ 5) (hst : st < 4) (hs : keysRise s.regs = true) :
    domState (setDomState b st cause s) b = st := by
  by_cases h : domState s b = st
  · rw [setDomState_same cause h, h]
  · have hlow : 0x0300100 ≤ (F.CLAP.BASE_STATE b).addr := by simp only [F.CLAP.BASE_STATE]; omega
    have hhigh : (F.CLAP.BASE_STATE b).addr < 0x0300400 := by simp only [F.CLAP.BASE_STATE]; omega
    have hapart := lockFields_apart hlow hhigh (by simp [F.CLAP.BASE_STATE])
    rw [setDomState_new cause h, domState, reselect_lockFields _ _ hapart, lockChanged_onlyFields b st cause s _ ?_]
    · exact getF_setF_lt hs hst
    · refine List.forall_mem_cons.2 ⟨?_, hapart⟩
      simp only [fieldKey, F.CLAP.BASE_STATE, F.CLAP.LOCK_LOSS_COUNT]
      omega

/-- The fields that a change of a domain's lock state can write. -/
def domStateFields (b : Nat) : List Field := F.CLAP.BASE_STATE b :: F.CLAP.LOCK_LOSS_COUNT b :: lockFields

theorem setDomState_onlyFields (b st cause : Nat) (s : State) : OnlyFields (domStateFields b) s (setDomState b st cause s) := by
  by_cases h : domState s b = st
  · rw [setDomState_same cause h]
    exact onlyFields_refl
  · rw [setDomState_new cause h]
    have hset : OnlyFields (domStateFields b) s (setF (F.CLAP.BASE_STATE b) st s) :=
      onlyFields_setF List.mem_cons_self onlyFields_refl
    have hlock : lockFields ⊆ domStateFields b := fun g hg => List.mem_cons_of_mem _ (List.mem_cons_of_mem _ hg)
    exact onlyFields_trans hset (onlyFields_trans (onlyFields_mono (lockChanged_onlyFields b st cause s) (List.subset_cons_self _ _))
      (onlyFields_mono (reselect_lockFields _) hlock))

/-- They are apart from every other register of a time base. -/
theorem domStateFields_apart {f : Field} (hlow : 0x0300100 ≤ f.addr) (hhigh : f.addr < 0x0300400) (hlsb : f.lsb < 32)
    (hstate : fieldKey (F.CLAP.BASE_STATE b) ≠ fieldKey f) (hloss : fieldKey (F.CLAP.LOCK_LOSS_COUNT b) ≠ fieldKey f) :
    ∀ g ∈ domStateFields b, fieldKey g ≠ fieldKey f :=
  List.forall_mem_cons.2 ⟨hstate, List.forall_mem_cons.2 ⟨hloss, lockFields_apart hlow hhigh hlsb⟩⟩

theorem setInc_keeps (inc : Nat) : domState (setInc b inc s) b = domState s b ∧
    getF (setInc b inc s) (F.CLAP.LOCK_LOSS_COUNT b) = getF s (F.CLAP.LOCK_LOSS_COUNT b) := by
  constructor
  all_goals
    refine (getF_setF_other _ _ _ _ ?_).trans (getF_setF_other _ _ _ _ ?_)
    all_goals simp only [fieldKey, F.CLAP.BASE_STATE, F.CLAP.LOCK_LOSS_COUNT, F.CLAP.INC_NS, F.CLAP.INC_FRAC]; omega

end Sys2Proof.Machine
end

section
/-! SUPPORT. The frame queues of the Ethernet ports (R358 to R360): what reading one gives after another has been written. -/

namespace Sys2Proof.Machine

open Sys2Proof

variable {s t : State}

theorem queueOf_congr (h : t.net = s.net) (q : Nat) : queueOf t q = queueOf s q := by rw [queueOf, queueOf, h]

theorem queueOf_putQueue_same (q : Nat) (fs : List TxFrame) (h : keysRise s.net.queues = true) :
    queueOf (putQueue q fs s) q = fs := tableGet_put_same _ _ _ _ h

theorem queueOf_putQueue_other {q r : Nat} (fs : List TxFrame) (h : r ≠ q) : queueOf (putQueue q fs s) r = queueOf s r :=
  tableGet_put_other _ _ _ _ _ _ h.symm

theorem putQueue_queuesRise (q : Nat) (fs : List TxFrame) (h : keysRise s.net.queues = true) :
    keysRise (putQueue q fs s).net.queues = true := keysRise_put _ _ _ _ h

theorem getF_putQueue {q : Nat} (fs : List TxFrame) {f : Field} (h : fieldKey (qFillF q) ≠ fieldKey f) :
    getF (putQueue q fs s) f = getF s f := getF_setF_other _ _ _ _ h

/-- A frame without a launch time goes to the end. -/
theorem insertFrame_last {f : TxFrame} (h : f.launch = none) : ∀ fs : List TxFrame, insertFrame f fs = fs ++ [f]
  | [] => rfl
  | g :: gs => by
    rw [insertFrame, h, insertFrame_last h gs]
    rfl

theorem enqueue_taken {q : Nat} {f : TxFrame} (hroom : (queueOf s q).length < queueDepth q) (hf : f.launch = none) :
    (enqueue q f s).1 = putQueue q (queueOf s q ++ [f]) s := by
  rw [enqueue, if_neg (Nat.not_le.2 hroom), insertFrame_last hf]

end Sys2Proof.Machine
end

section
/-! SUPPORT. What a save of the billing registers leaves (R306 to R308). -/

namespace Sys2Proof.Machine

open Sys2Proof

variable {s t : State}

/-- From `s` to `t` a save of the billing registers as they stand in `s` has been written under the next number; of the other slots,
only those listed can have changed. -/
def SaveWritten (cause : Nat) (ok : Bool) (others : List Nat) (s t : State) : Prop :=
  ∃ v, tableGet none t.bat.saves (s.bat.nextSeq % 256) = some v ∧
    v.seq = s.bat.nextSeq ∧ v.cause = cause ∧ v.valid = ok ∧ v.image = s.bat.accum ∧ t.bat.nextSeq = s.bat.nextSeq + 1 ∧
    t.bat.accum = s.bat.accum ∧
    (∀ k, k ≠ s.bat.nextSeq % 256 → k ∉ others → tableGet none t.bat.saves k = tableGet none s.bat.saves k)

/-- What counts for a save of BAT's part: the registers, the slots and the next number. -/
theorem SaveWritten.of_bat {cause : Nat} {ok : Bool} {others : List Nat} {s' t' : State} (h : SaveWritten cause ok others s t)
    (hs : s'.bat.accum = s.bat.accum ∧ s'.bat.nextSeq = s.bat.nextSeq)
    (hslots : ∀ k, k ∉ others → tableGet none s.bat.saves k = tableGet none s'.bat.saves k) (ht : t'.bat = t.bat) :
    SaveWritten cause ok others s' t' := by
  obtain ⟨haccum, hseq⟩ := hs
  obtain ⟨v, hv, hrest⟩ := h
  rw [← hseq, ← ht] at *
  rw [← haccum] at hrest
  obtain ⟨hvseq, hcause, hok, himage, hnext, hkeep, hother⟩ := hrest
  exact ⟨v, hv, hvseq, hcause, hok, himage, hnext, hkeep, fun k hk hk' => (hother k hk hk').trans (hslots k hk')⟩

/-! ### One save -/

/-- The fields in which the last valid save is shown (R322). -/
def saveFields : List Field :=
  [F.BAT.LAST_SAVE_SEQ, F.BAT.LAST_SAVE_EPOCH, F.BAT.LAST_SAVE_STAMP_LO, F.BAT.LAST_SAVE_STAMP_HI, F.BAT.SAVE_STATE_CAUSE]

theorem showSave_onlyFields (v : Save) (s : State) : OnlyFields saveFields s (showSave v s) := by
  have hmem : ∀ {f : Field} {x : Nat} {t : State}, f ∈ saveFields → OnlyFields saveFields s t → OnlyFields saveFields s (setF f x t) :=
    fun hf ht => onlyFields_setF hf ht
  exact hmem (by simp [saveFields]) (hmem (by simp [saveFields]) (hmem (by simp [saveFields]) (hmem (by simp [saveFields])
    (hmem (by simp [saveFields]) onlyFields_refl))))

theorem showSave_bat (v : Save) (s : State) : (showSave v s).bat = s.bat := (showSave_moves v s).frame .bat rfl

theorem showSave_shows (v : Save) (h : keysRise s.regs = true) (hcause : v.cause < 4) :
    getF (showSave v s) F.BAT.LAST_SAVE_SEQ = lo32 v.seq ∧ getF (showSave v s) F.BAT.SAVE_STATE_CAUSE = v.cause := by
  have hseq : lo32 v.seq < 2 ^ 32 := Nat.mod_lt _ (by decide)
  have hrise : ∀ {f : Field} {x : Nat} {t : State}, keysRise t.regs = true → keysRise (setF f x t).regs = true :=
    fun {f x t} ht => setF_keysRise t f x ht
  unfold showSave
  refine ⟨getF_setF_lt (hrise (hrise (hrise (hrise h)))) hseq, ?_⟩
  rw [getF_setF_other _ _ _ _ (by decide), getF_setF_other _ _ _ _ (by decide), getF_setF_other _ _ _ _ (by decide),
    getF_setF_other _ _ _ _ (by decide)]
  exact getF_setF_lt h hcause

/-- The slot of the next save and its number after a save. -/
def nextSave (v : Save) (s : State) : State :=
  { s with bat := { s.bat with saves := tablePut none s.bat.saves (v.seq % 256) (some v), nextSeq := v.seq + 1 } }

/-- The image as it stands, under the next number. -/
def saveNow (cause : Nat) (ok : Bool) (s : State) : Save :=
  { seq := s.bat.nextSeq, cause := cause, stamp := nowStamp s, epoch := epochNow s, image := s.bat.accum,
    errorS := errorImage s, valid := ok }

theorem writeSave_eq (cause : Nat) (ok : Bool) (s : State) : writeSave cause ok s =
    if ok then showSave (saveNow cause ok s) (nextSave (saveNow cause ok s) s) else nextSave (saveNow cause ok s) s := rfl

theorem writeSave_bat (cause : Nat) (ok : Bool) (s : State) :
    (writeSave cause ok s).bat = (nextSave (saveNow cause ok s) s).bat := by
  rw [writeSave_eq]
  split
  · exact showSave_bat ..
  · rfl

theorem writeSave_written (cause : Nat) (ok : Bool) (s : State) : SaveWritten cause ok [] s (writeSave cause ok s) := by
  rw [SaveWritten, writeSave_bat]
  refine ⟨saveNow cause ok s, ?_, rfl, rfl, rfl, rfl, rfl, rfl,
    fun k hk _ => tableGet_put_other none none s.bat.saves (s.bat.nextSeq % 256) k (some (saveNow cause ok s)) (Ne.symm hk)⟩
  exact tableGet_insert_same none s.bat.saves (s.bat.nextSeq % 256) (some (saveNow cause ok s))

theorem writeSave_shows {cause : Nat} (wf : WellKept s) (hcause : cause < 4) :
    getF (writeSave cause true s) F.BAT.LAST_SAVE_SEQ = lo32 s.bat.nextSeq ∧
      getF (writeSave cause true s) F.BAT.SAVE_STATE_CAUSE = cause :=
  showSave_shows (s := nextSave (saveNow cause true s) s) (saveNow cause true s) wf.regs hcause

theorem writeSave_onlyFields (cause : Nat) (ok : Bool) (s : State) : OnlyFields saveFields s (writeSave cause ok s) := by
  rw [writeSave_eq]
  have hnext : OnlyFields saveFields s (nextSave (saveNow cause ok s) s) := onlyFields_refl
  exact onlyFields_ite (onlyFields_trans hnext (showSave_onlyFields _ _)) hnext

theorem writeSave_failed (cause : Nat) (s : State) (f : Field) : getF (writeSave cause false s) f = getF s f := rfl

/-! ### A periodic save that may still be in progress -/

/-- The slot of a periodic save that may still be in progress (R308, log entry 95). -/
def begunSlots (s : State) : List Nat :=
  match s.bat.savedTick with
  | some w => if w + 32 ≤ s.tick.number then [] else [(s.bat.nextSeq - 1) % 256]
  | none => []

/-- No periodic save is in progress any more. -/
def saveEnded (s : State) : State := { s with bat := { s.bat with savedTick := none }, free := s.free + 1 }

/-- The save in a slot no longer passes its hash. -/
def slotSpoilt (k : Nat) (s : State) : State :=
  { s with bat := { s.bat with
      saves := tablePut none s.bat.saves k ((tableGet none s.bat.saves k).map (fun x => { x with valid := false })) } }

/-- The latest valid save, if there is one, is shown. -/
def latestShown (s : State) : State :=
  match latestSave s with
  | some x => showSave x s
  | none => s

theorem latestShown_bat (s : State) : (latestShown s).bat = s.bat := by
  unfold latestShown
  split
  · exact showSave_bat ..
  · rfl

theorem latestShown_onlyFields (s : State) : OnlyFields saveFields s (latestShown s) := by
  unfold latestShown
  split
  next x _ => exact showSave_onlyFields x s
  next => exact onlyFields_refl

theorem abandonSave_cases (s : State) :
    abandonSave s = s ∨ abandonSave s = saveEnded s ∨
      (begunSlots s = [(s.bat.nextSeq - 1) % 256] ∧
        abandonSave s = latestShown (slotSpoilt ((s.bat.nextSeq - 1) % 256) (saveEnded s))) := by
  unfold abandonSave begunSlots
  split
  next => exact .inl rfl
  next w hw =>
    by_cases hended : (decide (s.tick.number ≥ w + 32) || decide ((Config.freeValue s.free).toNat % 2 = 0)) = true
    · exact .inr (.inl (if_pos hended))
    · have hfresh : ¬ w + 32 ≤ s.tick.number := by
        simp only [Bool.or_eq_true, decide_eq_true_eq, not_or] at hended
        exact hended.1
      exact .inr (.inr ⟨by rw [hw]; exact if_neg hfresh, (if_neg hended).trans rfl⟩)

theorem abandonSave_keeps (s : State) :
    ((abandonSave s).bat.accum = s.bat.accum ∧ (abandonSave s).bat.nextSeq = s.bat.nextSeq) ∧
      (∀ k, k ∉ begunSlots s → tableGet none (abandonSave s).bat.saves k = tableGet none s.bat.saves k) ∧
      OnlyFields saveFields s (abandonSave s) := by
  rcases abandonSave_cases s with h | h | ⟨hbegun, h⟩
  · rw [h]
    exact ⟨⟨rfl, rfl⟩, fun _ _ => rfl, onlyFields_refl⟩
  · rw [h]
    exact ⟨⟨rfl, rfl⟩, fun _ _ => rfl, onlyFields_refl⟩
  · rw [h, latestShown_bat, hbegun]
    refine ⟨⟨rfl, rfl⟩, fun k hk => ?_, ?_⟩
    · exact tableGet_put_other _ _ _ _ _ _ (Ne.symm (List.ne_of_not_mem_cons hk))
    · have hspoilt : OnlyFields saveFields s (slotSpoilt ((s.bat.nextSeq - 1) % 256) (saveEnded s)) := onlyFields_refl
      exact onlyFields_trans hspoilt (latestShown_onlyFields _)

theorem writeLastSave_written (cause : Nat) (ok : Bool) (s : State) :
    SaveWritten cause ok (begunSlots s) s (writeLastSave cause ok s) := by
  obtain ⟨hkept, hslots, -⟩ := abandonSave_keeps s
  obtain ⟨v, hv, hseq, hcause, hok, himage, hnext, haccum, hother⟩ := writeSave_written cause ok (abandonSave s)
  have hwide : SaveWritten cause ok (begunSlots s) (abandonSave s) (writeLastSave cause ok s) :=
    ⟨v, hv, hseq, hcause, hok, himage, hnext, haccum, fun k hk _ => hother k hk (by simp)⟩
  exact hwide.of_bat ⟨hkept.1.symm, hkept.2.symm⟩ hslots rfl

/-! ### The commands -/

theorem flushCause_cases (s : State) : flushCause s = 2 ∨ flushCause s = 3 := by
  unfold flushCause
  split
  · exact .inr rfl
  · exact .inl rfl

/-- The accumulators' flush of the power-fail sequence has ended. -/
def accumFlushed (s : State) : State := { s with pwr := { s.pwr with flushedAccum := true } }

theorem accumFlushed_bat (s : State) : (accumFlushed s).bat = s.bat := rfl

theorem getF_accumFlushed (s : State) (f : Field) : getF (accumFlushed s) f = getF s f := rfl

theorem getF_emitBat (epoch code w1 w2 w3 : Nat) (s : State) (f : Field) : getF (emitBat epoch code w1 w2 w3 s) f = getF s f := by
  refine getF_congr s _ f ?_
  unfold emitBat emitAt
  split <;> rfl

theorem emitBat_bat (epoch code w1 w2 w3 : Nat) (s : State) : (emitBat epoch code w1 w2 w3 s).bat = s.bat :=
  (emitBat_moves ..).frame .bat rfl

theorem emitBat_pwr (epoch code w1 w2 w3 : Nat) (s : State) : (emitBat epoch code w1 w2 w3 s).pwr = s.pwr :=
  (emitBat_moves ..).frame .pwr rfl

theorem restartSave_of_live (h : inState s .live = true) : restartSave s = none := by
  rw [restartSave, inState_unique s h (by decide)]
  rfl

theorem live_of_saveDue (h : saveDue s = true) : inState s .live = true := by
  simp only [saveDue, Bool.and_eq_true] at h
  exact h.1.1.1.1

/-- A failed save counts SAVE_FAIL_COUNT up and changes no other field. -/
theorem failSaved_count (epoch seq cause : Nat) (hfields : OnlyFields saveFields s t) (h : keysRise t.regs = true) :
    getF (emitBat epoch 0x0D05 seq cause 0 (bumpF F.BAT.SAVE_FAIL_COUNT 1 t)) F.BAT.SAVE_FAIL_COUNT =
      min (getF s F.BAT.SAVE_FAIL_COUNT + 1) 0xFFFFFFFF := by
  rw [getF_emitBat, getF_bumpF_same t _ 1 rfl h, hfields _ (by decide)]

/-- The tick of a periodic save has been noted. -/
def saveNoted (s : State) : State := { s with bat := { s.bat with savedTick := some s.tick.number } }

theorem saveNoted_wellKept (wf : WellKept s) : WellKept (saveNoted s) := by
  obtain ⟨h1, h2, h3, h4, h5, h6, h7, h8, h9, h10, h11⟩ := wf
  exact ⟨h1, h2, h3, h4, h5, h6, h7, h8, h9, h10, h11⟩

theorem periodicSave_written (ok : Bool) (s : State) : SaveWritten 1 ok [] s (periodicSave ok s) :=
  (writeSave_written 1 ok (saveNoted s)).of_bat ⟨rfl, rfl⟩ (fun _ _ => rfl) rfl

theorem exec_periodicSave (hdue : saveDue s = true) (hpower : powerFailing s = false) :
    exec .periodicSave s = .next (periodicSave true s) := by
  show execPeriodicSave s = _
  simp [execPeriodicSave, hdue, hpower]

theorem exec_periodicSave_idle (h : saveDue s = false) : exec .periodicSave s = .next s := by
  show execPeriodicSave s = _
  simp [execPeriodicSave, h]

theorem exec_flushSave (h : flushDue s = true) :
    exec .flushSave s = .next (accumFlushed (writeLastSave (flushCause s) true s)) := by
  show execFlushSave s = _
  rw [execFlushSave, h]
  rfl

theorem exec_flushSave_idle (h : flushDue s = false) : exec .flushSave s = .next s := by
  show execFlushSave s = _
  simp [execFlushSave, h]

/-- The state after a periodic save whose write failed. -/
def periodicFailed (s : State) : State :=
  emitBat (epochNow s) 0x0D05 (lo32 s.bat.nextSeq) 1 0 (bumpF F.BAT.SAVE_FAIL_COUNT 1 (periodicSave false s))

theorem exec_saveFailed_periodic (hdue : saveDue s = true) (hpower : powerFailing s = false) :
    exec (.saveFailed 1) s = .next (periodicFailed s) := by
  show execSaveFailed 1 s = _
  rw [execSaveFailed, restartSave_of_live (live_of_saveDue hdue)]
  simp [hdue, hpower, periodicFailed]

/-- The state after a flush's save whose write failed. -/
def flushFailed (s : State) : State :=
  emitBat (epochNow s) 0x0D05 (lo32 s.bat.nextSeq) (flushCause s) 0
    (accumFlushed (bumpF F.BAT.SAVE_FAIL_COUNT 1 (writeLastSave (flushCause s) false s)))

theorem exec_saveFailed_flush (hdue : flushDue s = true) (hnone : restartSave s = none) :
    exec (.saveFailed (flushCause s)) s = .next (flushFailed s) := by
  have hcause : flushCause s ≠ 1 := by rcases flushCause_cases s with h | h <;> omega
  show execSaveFailed (flushCause s) s = _
  rw [execSaveFailed, hnone]
  simp [hdue, hcause, flushFailed, accumFlushed]

/-- A save of the restart that has led to BOOT is invalid. -/
def saveSpoilt (v : Save) (s : State) : State :=
  { s with bat := { s.bat with saves := tablePut none s.bat.saves (v.seq % 256) (some { v with valid := false }) } }

/-- The state after the failure of a restart's save. -/
def restartFailed (v : Save) (s : State) : State :=
  emitBat (epochNow s) 0x0D05 (lo32 v.seq) 3 0 (bumpF F.BAT.SAVE_FAIL_COUNT 1 (latestShown (saveSpoilt v s)))

theorem exec_saveFailed_restart {v : Save} (h : restartSave s = some v) : exec (.saveFailed 3) s = .next (restartFailed v s) := by
  show execSaveFailed 3 s = _
  rw [execSaveFailed, h]
  rfl

theorem exec_saveFailed_idle {cause : Nat} (hcause : cause ≠ 3) (hdue : cause ≠ 1 ∨ saveDue s = false)
    (hflush : cause ≠ flushCause s ∨ flushDue s = false) : exec (.saveFailed cause) s = .next s := by
  show execSaveFailed cause s = _
  unfold execSaveFailed
  split
  · simp [hcause]
  · have h1 : (decide (cause = 1) && saveDue s && !powerFailing s) = false := by rcases hdue with h | h <;> simp [h]
    have h2 : (decide (cause = flushCause s) && flushDue s) = false := by rcases hflush with h | h <;> simp [h]
    rw [h1, h2]
    rfl

/-! ### What a failed save leaves -/

theorem periodicFailed_written (s : State) : SaveWritten 1 false [] s (periodicFailed s) :=
  (periodicSave_written false s).of_bat ⟨rfl, rfl⟩ (fun _ _ => rfl) (emitBat_bat ..)

theorem periodicFailed_fields (wf : WellKept s) :
    getF (periodicFailed s) F.BAT.SAVE_FAIL_COUNT = min (getF s F.BAT.SAVE_FAIL_COUNT + 1) 0xFFFFFFFF ∧
      getF (periodicFailed s) F.BAT.LAST_SAVE_SEQ = getF s F.BAT.LAST_SAVE_SEQ := by
  have hsame : ∀ f, getF (periodicSave false s) f = getF s f := fun f => writeSave_failed 1 (saveNoted s) f
  refine ⟨failSaved_count _ _ _ (fun f _ => hsame f) ((periodicSave_moves false s).form wf).regs, ?_⟩
  rw [periodicFailed, getF_emitBat, getF_bumpF_other _ _ _ _ (by decide), hsame]

theorem periodicFailed_onlyParts (s : State) : OnlyParts [.regs, .bat, .cont] s (periodicFailed s) :=
  onlyParts_of_moves s (m := 0x204002) _
    (moves_step (emitBat_moves ..) rfl (moves_step (bumpF_moves ..) rfl (moves_step (periodicSave_moves ..) rfl moves_refl))) rfl

theorem writeLastSave_onlyFields (cause : Nat) (ok : Bool) (s : State) : OnlyFields saveFields s (writeLastSave cause ok s) :=
  onlyFields_trans (abandonSave_keeps s).2.2 (writeSave_onlyFields cause ok _)

theorem flushSaved_written (s : State) :
    SaveWritten (flushCause s) true (begunSlots s) s (accumFlushed (writeLastSave (flushCause s) true s)) :=
  (writeLastSave_written (flushCause s) true s).of_bat ⟨rfl, rfl⟩ (fun _ _ => rfl) (accumFlushed_bat _)

theorem flushSaved_shows (wf : WellKept s) :
    getF (accumFlushed (writeLastSave (flushCause s) true s)) F.BAT.LAST_SAVE_SEQ = lo32 s.bat.nextSeq ∧
      getF (accumFlushed (writeLastSave (flushCause s) true s)) F.BAT.SAVE_STATE_CAUSE = flushCause s := by
  have hcause : flushCause s < 4 := by rcases flushCause_cases s with h | h <;> omega
  have hshown := writeSave_shows ((abandonSave_moves s).form wf) hcause
  rw [(abandonSave_keeps s).1.2] at hshown
  rw [getF_accumFlushed, getF_accumFlushed]
  exact hshown

theorem flushFailed_written (s : State) : SaveWritten (flushCause s) false (begunSlots s) s (flushFailed s) :=
  (writeLastSave_written (flushCause s) false s).of_bat ⟨rfl, rfl⟩ (fun _ _ => rfl)
    ((emitBat_bat ..).trans ((accumFlushed_bat _).trans ((bumpF_moves ..).frame .bat rfl)))

theorem flushFailed_ended (s : State) : (flushFailed s).pwr.flushedAccum = true :=
  congrArg PwrPart.flushedAccum (emitBat_pwr ..)

theorem flushFailed_count (wf : WellKept s) :
    getF (flushFailed s) F.BAT.SAVE_FAIL_COUNT = min (getF s F.BAT.SAVE_FAIL_COUNT + 1) 0xFFFFFFFF := by
  have hcount := failSaved_count (epochNow s) (lo32 s.bat.nextSeq) (flushCause s)
    (writeLastSave_onlyFields (flushCause s) false s) ((writeLastSave_moves (flushCause s) false s).form wf).regs
  rw [getF_emitBat] at hcount
  rw [flushFailed, getF_emitBat]
  exact hcount

theorem restartFailed_bat (v : Save) (s : State) : (restartFailed v s).bat = (saveSpoilt v s).bat := by
  rw [restartFailed, emitBat_bat]
  exact latestShown_bat _

theorem latestShown_moves (s : State) : Moves 0x2 s (latestShown s) := by
  unfold latestShown
  split
  · exact showSave_moves ..
  · exact moves_refl

theorem restartFailed_count (v : Save) (wf : WellKept s) :
    getF (restartFailed v s) F.BAT.SAVE_FAIL_COUNT = min (getF s F.BAT.SAVE_FAIL_COUNT + 1) 0xFFFFFFFF := by
  have hspoilt : OnlyFields saveFields s (saveSpoilt v s) := onlyFields_refl
  have hrise : keysRise (latestShown (saveSpoilt v s)).regs = true := by
    unfold latestShown
    split
    · exact setF_keysRise _ _ _ (setF_keysRise _ _ _ (setF_keysRise _ _ _ (setF_keysRise _ _ _ (setF_keysRise _ _ _ wf.regs))))
    · exact wf.regs
  exact failSaved_count _ _ _ (onlyFields_trans hspoilt (latestShown_onlyFields _)) hrise

theorem onlyParts_bat (b : BatPart) (h : b.accum = s.bat.accum) : OnlyParts [.bat] s { s with bat := b } := by
  intro p hp
  cases p
  case bat => exact absurd (List.mem_singleton_self _) hp
  case accum => exact h
  all_goals rfl

theorem restartFailed_onlyParts (v : Save) (s : State) : OnlyParts [.regs, .bat, .cont] s (restartFailed v s) := by
  have hspoilt : OnlyParts [.bat] s (saveSpoilt v s) := onlyParts_bat _ rfl
  have hshown : OnlyParts [.regs, .bat, .cont] (saveSpoilt v s) (restartFailed v s) :=
    onlyParts_of_moves _ (m := 0x200002) _
      (moves_step (emitBat_moves ..) rfl (moves_step (bumpF_moves ..) rfl (moves_step (latestShown_moves _) rfl moves_refl))) rfl
  exact onlyParts_trans (onlyParts_mono hspoilt (by simp)) hshown

end Sys2Proof.Machine
end

section
/-! The statement about saves. -/

namespace Sys2Proof.Certificates

open Sys2Proof Sys2Proof.Machine

/-- Settles O41, save by save: each is `writeSave`, after a periodic save in progress has been abandoned; the 32 ticks of such a save
are log entry 95, and cause 3 of FLUSH_SAVE is log entry 97. -/
theorem savesHoldTheBillingRegisters : Obligations.SavesHoldTheBillingRegisters := by
  intro s wf begun written
  refine ⟨fun hsave hpower => ?_, fun hflush => ?_, fun hsave hpower => ?_, fun hflush hnone => ?_, fun v hv => ?_, fun hnot => ?_,
    fun hnot => ?_⟩
  · have hexec := exec_periodicSave hsave hpower
    obtain ⟨hseq, hshown⟩ := writeSave_shows (cause := 1) (saveNoted_wellKept wf) (by decide)
    exact ⟨_, hexec, periodicSave_written true s, hseq, hshown, exec_onlyParts hexec⟩
  · have hexec := exec_flushSave hflush
    obtain ⟨hseq, hshown⟩ := flushSaved_shows wf
    exact ⟨_, hexec, flushSaved_written s, rfl, hseq, hshown, exec_onlyParts hexec⟩
  · obtain ⟨hcount, hlast⟩ := periodicFailed_fields wf
    exact ⟨_, exec_saveFailed_periodic hsave hpower, periodicFailed_written s, hcount, hlast, periodicFailed_onlyParts s⟩
  · have hexec := exec_saveFailed_flush hflush hnone
    exact ⟨_, hexec, flushFailed_written s, flushFailed_ended s, flushFailed_count wf, exec_onlyParts hexec⟩
  · refine ⟨_, exec_saveFailed_restart hv, ?_, ?_, restartFailed_count v wf, restartFailed_onlyParts v s⟩
    · rw [restartFailed_bat]
      exact tableGet_insert_same none s.bat.saves (v.seq % 256) (some { v with valid := false })
    · rw [restartFailed_bat, saveSpoilt]
  · have h2 : 1 ≠ flushCause s := by rcases flushCause_cases s with h | h <;> omega
    exact ⟨exec_periodicSave_idle hnot, exec_saveFailed_idle (by decide) (.inr hnot) (.inl h2)⟩
  · exact ⟨exec_flushSave_idle hnot, exec_saveFailed_idle (by decide) (.inl (by decide)) (.inr hnot)⟩

end Sys2Proof.Certificates
end

section
/-! SUPPORT. The battery second, the battery check and the tamper loop (R314 to R320, R488). -/

namespace Sys2Proof.Machine

open Sys2Proof

variable {s t : State}

/-! ### The battery second -/

theorem logBattery_onlyFields (kind channel value : Nat) (s : State) :
    OnlyFields [F.BAT.LOG_DROPPED] s (logBattery kind channel value s) :=
  onlyFields_ite (onlyFields_bumpF (by simp) onlyFields_refl) onlyFields_refl

theorem getF_addAccum (i : Nat) (x : F64) (s : State) (f : Field) : getF (addAccum i x s) f = getF s f := by
  unfold addAccum
  split <;> rfl

theorem batteryChannel_onlyFields (c : Nat) (v : F64) (s : State) :
    OnlyFields [F.BAT.RMS_LAST c, F.BAT.LOG_DROPPED] s (batteryChannel c v s) := by
  unfold batteryChannel
  split
  · exact onlyFields_refl
  next ratio rated _ =>
    extract_lets a mah s1 on
    have h1 : OnlyFields [F.BAT.RMS_LAST c, F.BAT.LOG_DROPPED] s s1 :=
      onlyFields_setF (by simp) (onlyFields_ite onlyFields_refl fun f _ => getF_addAccum ..)
    clear_value s1
    have hput : ∀ b : BatPart, OnlyFields [F.BAT.RMS_LAST c, F.BAT.LOG_DROPPED] s { s1 with bat := b } := fun _ => h1
    have hlog : ∀ (k x : Nat) (b : BatPart),
        OnlyFields [F.BAT.RMS_LAST c, F.BAT.LOG_DROPPED] s (logBattery k c x { s1 with bat := b }) :=
      fun k x b => onlyFields_trans (hput b) (onlyFields_mono (logBattery_onlyFields _ _ _ _) (by simp))
    split
    · exact onlyFields_ite (hlog _ _ _) h1
    · exact onlyFields_ite (hlog _ _ _) (hput _)

/-- The meters' and calculators' registers are none of the battery's MAH. -/
theorem accumAt_batteryChannel (c : Nat) (v : F64) {i : Nat} (hi : i < 552) (s : State) :
    accumAt (batteryChannel c v s) i = accumAt s i := by
  have hite : ∀ {p : Prop} [Decidable p] {t u : State}, accumAt t i = accumAt s i → accumAt u i = accumAt s i →
      accumAt (if p then t else u) i = accumAt s i := fun ht hu => by split <;> assumption
  unfold batteryChannel
  split
  · rfl
  next ratio rated _ =>
    extract_lets a mah s1 on
    have h1 : accumAt s1 i = accumAt s i :=
      (accumAt_of_moves setF_moves rfl i).trans
        (hite rfl (accumAt_addAccum_other _ (by simp only [mahReg]; omega)))
    clear_value s1
    have hlog : ∀ (k x : Nat) (b : BatPart), b.accum = s1.bat.accum →
        accumAt (logBattery k c x { s1 with bat := b }) i = accumAt s i := fun k x b hb =>
      (accumAt_of_moves (logBattery_moves ..) rfl i).trans ((accumAt_congr hb i).trans h1)
    split
    · exact hite (hlog _ _ _ rfl) h1
    · exact hite (hlog _ _ _ rfl) h1

/-- The channels of a battery second. -/
def batteryChannels (rms : List F64) (s : State) : State := (List.range 48).foldl (fun t c => batteryChannel c (rms.getD c 0) t) s

theorem batteryChannels_elapsed (rms : List F64) (s : State) : getF (batteryChannels rms s) F.BAT.ELAPSED_S = getF s F.BAT.ELAPSED_S :=
  look_foldl (look := fun t => getF t F.BAT.ELAPSED_S) fun t c _ =>
    getF_of_onlyFields (batteryChannel_onlyFields c _ t) _ (by
      simp only [List.forall_mem_cons, fieldKey, F.BAT.RMS_LAST, F.BAT.LOG_DROPPED, F.BAT.ELAPSED_S]
      exact ⟨by omega, by decide, by simp⟩)

theorem accumAt_batteryChannels (rms : List F64) {i : Nat} (hi : i < 552) (s : State) :
    accumAt (batteryChannels rms s) i = accumAt s i :=
  look_foldl (look := fun t => accumAt t i) fun t c _ => accumAt_batteryChannel c _ hi t

theorem exec_batterySecond (rms : List F64) (s : State) : exec (.batterySecond rms) s = .next (if !s.bat.measuring then s
    else if s.bat.stopped then bumpF F.BAT.ELAPSED_S 1 s else batteryChannels rms (bumpF F.BAT.ELAPSED_S 1 s)) := rfl

/-! ### The battery check -/

/-- What the check shows of the battery. -/
def batteryShown (mv : Nat) (s : State) : State :=
  setF F.BAT.BATTERY_MV mv (setF F.BAT.STATUS_BATTERY_LOW (ofBool (decide (mv < 3000)))
    (setF F.BAT.STATUS_BATTERY_ABSENT (ofBool (decide (mv < 1000) && x1Good s)) s))

/-- A battery that has become low is recorded, or goes into the battery log. -/
def lowNoted (mv : Nat) (s t : State) : State :=
  if decide (mv < 3000) && !flag s F.BAT.STATUS_BATTERY_LOW then
    (if x1Good s then emitBat (epochNow s) 0x0D0A 0 mv 0 t else logBattery 5 0xFF mv t) else t

/-- A low battery stops the measurement (R314). -/
def measuringStopped (mv : Nat) (t : State) : State :=
  if decide (mv < 3000) && t.bat.measuring && !t.bat.stopped then
    logBattery 6 0xFF mv { t with bat := { t.bat with stopped := true } } else t

/-- A battery that has become absent is recorded. -/
def absentNoted (mv : Nat) (s t : State) : State :=
  if decide (mv < 1000) && x1Good s && !flag s F.BAT.STATUS_BATTERY_ABSENT then emitBat (epochNow s) 0x0D0B mv 0 0 t else t

theorem exec_batteryCheck (mv : Nat) (hpresent : present s 13 = true) : exec (.batteryCheck mv) s =
    .next (absentNoted mv s (measuringStopped mv (lowNoted mv s (batteryShown mv s)))) := by
  show execBatteryCheck mv s = _
  rw [execBatteryCheck, hpresent]
  rfl

theorem batteryNoted_onlyFields (mv : Nat) (s t : State) :
    OnlyFields [F.BAT.LOG_DROPPED] t (absentNoted mv s (measuringStopped mv (lowNoted mv s t))) := by
  have hemit : ∀ epoch code w1 w2 w3 u, OnlyFields [F.BAT.LOG_DROPPED] u (emitBat epoch code w1 w2 w3 u) :=
    fun _ _ _ _ _ _ f _ => getF_emitBat ..
  have hlow : OnlyFields [F.BAT.LOG_DROPPED] t (lowNoted mv s t) :=
    onlyFields_ite (onlyFields_ite (hemit _ _ _ _ _ _) (logBattery_onlyFields _ _ _ _)) onlyFields_refl
  have hstop : ∀ u, OnlyFields [F.BAT.LOG_DROPPED] u (measuringStopped mv u) := fun u =>
    onlyFields_ite (onlyFields_trans (s := u) (t := { u with bat := { u.bat with stopped := true } }) onlyFields_refl
      (logBattery_onlyFields _ _ _ _)) onlyFields_refl
  have habsent : ∀ u, OnlyFields [F.BAT.LOG_DROPPED] u (absentNoted mv s u) := fun u => onlyFields_ite (hemit _ _ _ _ _ _) onlyFields_refl
  exact onlyFields_trans hlow (onlyFields_trans (hstop _) (habsent _))

theorem batteryShown_shows (mv : Nat) (wf : WellKept s) :
    getF (batteryShown mv s) F.BAT.BATTERY_MV = mv % 2 ^ 16 ∧
      flag (batteryShown mv s) F.BAT.STATUS_BATTERY_LOW = decide (mv < 3000) ∧
      flag (batteryShown mv s) F.BAT.STATUS_BATTERY_ABSENT = (decide (mv < 1000) && x1Good s) := by
  have h1 := setF_keysRise s F.BAT.STATUS_BATTERY_ABSENT (ofBool (decide (mv < 1000) && x1Good s)) wf.regs
  refine ⟨getF_setF_same _ _ _ (setF_keysRise _ _ _ h1), ?_, ?_⟩
  · exact (flag_setF_other _ _ _ (by decide)).trans (flag_setF_ofBool _ rfl h1)
  · exact (flag_setF_other _ _ _ (by decide)).trans ((flag_setF_other _ _ _ (by decide)).trans (flag_setF_ofBool _ rfl wf.regs))

theorem batteryCheck_shows (mv : Nat) (wf : WellKept s) (hpresent : present s 13 = true) :
    ∃ t, exec (.batteryCheck mv) s = .next t ∧ getF t F.BAT.BATTERY_MV = mv % 2 ^ 16 ∧
      (flag t F.BAT.STATUS_BATTERY_LOW = true ↔ mv < 3000) ∧
      (flag t F.BAT.STATUS_BATTERY_ABSENT = true ↔ mv < 1000 ∧ x1Good s = true) ∧ OnlyParts [.regs, .bat, .cont] s t := by
  have hexec := exec_batteryCheck mv hpresent
  have hnoted := batteryNoted_onlyFields mv s (batteryShown mv s)
  generalize absentNoted mv s (measuringStopped mv (lowNoted mv s (batteryShown mv s))) = t at hexec hnoted
  obtain ⟨hmv, hlow, habsent⟩ := batteryShown_shows mv wf
  refine ⟨t, hexec, (hnoted _ (by decide)).trans hmv, ?_, ?_, exec_onlyParts hexec⟩
  · rw [flag_of_onlyFields hnoted _ (by decide), hlow, decide_eq_true_iff]
  · rw [flag_of_onlyFields hnoted _ (by decide), habsent, Bool.and_eq_true, decide_eq_true_iff]

/-! ### The tamper loop -/

/-- The loop is open, and that is noted. -/
def loopOpened (s : State) : State :=
  let s1 := setF F.BAT.STATUS_TAMPER 1 (setF F.BAT.STATUS_LOOP_OPEN 1 s)
  if x1Good s then emitBat (epochNow s) 0x0D08 0 0 0 s1 else logBattery 3 0xFF 0 s1

theorem loopOpened_onlyFields (s : State) :
    OnlyFields [F.BAT.LOG_DROPPED] (setF F.BAT.STATUS_TAMPER 1 (setF F.BAT.STATUS_LOOP_OPEN 1 s)) (loopOpened s) :=
  onlyFields_ite (fun _ _ => getF_emitBat ..) (logBattery_onlyFields _ _ _ _)

theorem tamperOpen_closed (hpresent : present s 13 = true) (hclosed : flag s F.BAT.STATUS_LOOP_OPEN = false) :
    tamperOpen s = loopOpened s := by
  rw [tamperOpen, hpresent, hclosed]
  rfl

theorem loopOpened_shows (wf : WellKept s) :
    flag (loopOpened s) F.BAT.STATUS_LOOP_OPEN = true ∧ flag (loopOpened s) F.BAT.STATUS_TAMPER = true := by
  have h1 := setF_keysRise s F.BAT.STATUS_LOOP_OPEN 1 wf.regs
  refine ⟨(flag_of_onlyFields (loopOpened_onlyFields s) _ (by decide)).trans ?_,
    (flag_of_onlyFields (loopOpened_onlyFields s) _ (by decide)).trans (flag_setF_one _ rfl h1)⟩
  exact (flag_setF_other _ _ _ (by decide)).trans (flag_setF_one _ rfl wf.regs)

theorem loopOpened_tamperAction (s : State) : tamperZeroises (loopOpened s) = tamperZeroises s := by
  refine (flag_of_onlyFields (loopOpened_onlyFields s) _ (by decide)).trans ?_
  exact (flag_setF_other _ _ _ (by decide)).trans (flag_setF_other _ _ _ (by decide))

theorem loopOpened_moves (s : State) : Moves 0x204002 s (loopOpened s) :=
  moves_ite (moves_step (emitBat_moves ..) rfl (moves_step setF_moves rfl (moves_step setF_moves rfl moves_refl)))
    (moves_step (logBattery_moves ..) rfl (moves_step setF_moves rfl (moves_step setF_moves rfl moves_refl)))

theorem exec_tamperOpen (wf : WellKept s) (hpresent : present s 13 = true) (hclosed : flag s F.BAT.STATUS_LOOP_OPEN = false) :
    exec .tamperOpen s = .next (if x1Good s then
      if tamperZeroises s then tamperResponse (loopOpened s) else showSecHealth (loopOpened s) else loopOpened s) := by
  show execTamperOpen s = _
  rw [execTamperOpen, tamperOpen_closed hpresent hclosed, (loopOpened_shows wf).1, hclosed, loopOpened_tamperAction]
  rfl

theorem exec_tamperOpen_idle (hopen : flag s F.BAT.STATUS_LOOP_OPEN = true) : exec .tamperOpen s = .next s := by
  show execTamperOpen s = _
  simp [execTamperOpen, tamperOpen, hopen]

theorem showSecHealth_onlyFields (s : State) : OnlyFields (healthFields 21) s (showSecHealth s) := setHealth_onlyFields 21 _ s

theorem emptied_by_tamper (hpresent : present s 13 = true) (hclosed : flag s F.BAT.STATUS_LOOP_OPEN = false) (wf : WellKept s)
    (hzeroises : tamperZeroises s = true) (hx1 : x1Good s = true) :
    ∃ t, exec .tamperOpen s = .next t ∧ t.sec.keys = [] ∧
      (powerFailing s = false → s.dev.flushing = none → s.dev.referenceLost = false → windowsOpen s = false →
        t.dev.state = .boot ∧ t.cfg = {}) := by
  have hmoves : Moves 0x204002 s (emit 0x1509 1 0 0 (loopOpened s)) := moves_step (emit_moves ..) rfl (loopOpened_moves s)
  refine ⟨tamperResponse (loopOpened s), ?_, ?_, fun hpower hflush href hwindows => ?_⟩
  · rw [exec_tamperOpen wf hpresent hclosed, if_pos hx1, if_pos hzeroises]
  · unfold tamperResponse
    exact keys_zeroise 1 _
  · unfold tamperResponse
    generalize emit 0x1509 1 0 0 (loopOpened s) = w at hmoves
    have hdev : w.dev = s.dev := hmoves.frame .dev rfl
    have hpwr : w.pwr = s.pwr := hmoves.frame .pwr rfl
    refine zeroise_enters_boot 1 ?_ (hdev ▸ hflush) (hdev ▸ href) ((windowsOpen_congr (hmoves.frame .boe rfl)).trans hwindows)
    rw [powerFailing, hpwr]
    exact hpower

theorem noted_by_tamper (hpresent : present s 13 = true) (hclosed : flag s F.BAT.STATUS_LOOP_OPEN = false) (wf : WellKept s)
    (hkept : tamperZeroises s = false ∨ x1Good s = false) :
    ∃ t, exec .tamperOpen s = .next t ∧ flag t F.BAT.STATUS_LOOP_OPEN = true ∧ flag t F.BAT.STATUS_TAMPER = true ∧
      t.dev.state = s.dev.state ∧ t.sec.keys = s.sec.keys := by
  obtain ⟨hopen, htamper⟩ := loopOpened_shows wf
  have hdev : (loopOpened s).dev.state = s.dev.state := congrArg DevPart.state ((loopOpened_moves s).frame .dev rfl)
  have hkeys : keyStore (loopOpened s) = keyStore s := keyStore_of_moves (loopOpened_moves s) rfl
  have hexec := exec_tamperOpen wf hpresent hclosed
  cases hx1 : x1Good s
  · rw [hx1, if_neg (by decide)] at hexec
    exact ⟨_, hexec, hopen, htamper, hdev, hkeys⟩
  · obtain hzeroises := hkept.resolve_right (by simp [hx1])
    rw [hx1, if_pos rfl, hzeroises, if_neg (by decide)] at hexec
    have hshown := showSecHealth_moves (loopOpened s)
    exact ⟨_, hexec, (flag_of_onlyFields (showSecHealth_onlyFields _) _ (by decide)).trans hopen,
      (flag_of_onlyFields (showSecHealth_onlyFields _) _ (by decide)).trans htamper,
      (congrArg DevPart.state (hshown.frame .dev rfl)).trans hdev, (keyStore_of_moves hshown rfl).trans hkeys⟩

/-- The loop is closed again, and that is noted. -/
def loopClosed (s : State) : State :=
  if x1Good s then emitBat (epochNow s) 0x0D09 0 0 0 (setF F.BAT.STATUS_LOOP_OPEN 0 s)
  else logBattery 4 0xFF 0 (setF F.BAT.STATUS_LOOP_OPEN 0 s)

theorem exec_tamperClosed (hpresent : present s 13 = true) (hopen : flag s F.BAT.STATUS_LOOP_OPEN = true) :
    exec .tamperClosed s = .next (loopClosed s) := by
  show execTamperClosed s = _
  rw [execTamperClosed, hpresent, hopen]
  rfl

theorem loopClosed_shows (wf : WellKept s) :
    flag (loopClosed s) F.BAT.STATUS_LOOP_OPEN = false ∧ flag (loopClosed s) F.BAT.STATUS_TAMPER = flag s F.BAT.STATUS_TAMPER := by
  have h : OnlyFields [F.BAT.LOG_DROPPED] (setF F.BAT.STATUS_LOOP_OPEN 0 s) (loopClosed s) :=
    onlyFields_ite (fun _ _ => getF_emitBat ..) (logBattery_onlyFields _ _ _ _)
  exact ⟨(flag_of_onlyFields h _ (by decide)).trans (flag_setF_ofBool false rfl wf.regs),
    (flag_of_onlyFields h _ (by decide)).trans (flag_setF_other _ _ _ (by decide))⟩

/-! ### TAMPER_CLEAR -/

theorem flag_touchSession_bat {c : Caller} (f : Field) (hf : ∀ g ∈ idleFields, fieldKey g ≠ fieldKey f) :
    flag (touchSession c s) f = flag s f := flag_of_onlyFields (touchSession_onlyFields c s) f hf

theorem tamperClear_clears {c : Caller} (wf : WellKept s) (hadm : Admitted c [roleSecurity] s) (hstate : inState s .off = false)
    (hclosed : flag s F.BAT.STATUS_LOOP_OPEN = false) : ∃ t, exec (.tamperClear c 0) s = .next t ∧
      flag t F.BAT.STATUS_TAMPER = false ∧ getF t F.BAT.CMD_RESULT_RESULT = resOk := by
  have htouched : flag (touchSession c s) F.BAT.STATUS_LOOP_OPEN = false := by rw [flag_touchSession_bat _ (by decide), hclosed]
  have hwf : keysRise (touchSession c s).regs = true := ((touchSession_moves c s).form wf).regs
  have hcleared : WellKept (showSecHealth (setF F.BAT.STATUS_TAMPER 0 (touchSession c s))) :=
    (showSecHealth_moves _).form (setF_moves.form ((touchSession_moves c s).form wf))
  have hexec : exec (.tamperClear c 0) s =
      .next (showResult 13 1 { result := resOk, ret := 0 } (showSecHealth (setF F.BAT.STATUS_TAMPER 0 (touchSession c s)))) := by
    show Host.Outcome.next (cmdTamperClear c 0 s).1 = _
    rw [cmdTamperClear, hstate]
    exact congrArg _ (runCommand_ok hadm (by simp [htouched]))
  refine ⟨_, hexec, ?_, getF_showResult rfl (by decide) (by decide) (by decide) hcleared.regs⟩
  rw [flag_of_onlyFields (showResult_onlyFields rfl (by decide) (by decide)) _ (by decide),
    flag_of_onlyFields (showSecHealth_onlyFields _) _ (by decide)]
  exact flag_setF_ofBool false rfl hwf

theorem tamperClear_refused {c : Caller} (wf : WellKept s) (hadm : Admitted c [roleSecurity] s) (hstate : inState s .off = false)
    (hopen : flag s F.BAT.STATUS_LOOP_OPEN = true) : ∃ t, exec (.tamperClear c 0) s = .next t ∧
      flag t F.BAT.STATUS_TAMPER = flag s F.BAT.STATUS_TAMPER ∧ getF t F.BAT.CMD_RESULT_RESULT = resIllegal := by
  have htouched : flag (touchSession c s) F.BAT.STATUS_LOOP_OPEN = true := by rw [flag_touchSession_bat _ (by decide), hopen]
  have hwf : keysRise (emit (13 * 256 + 0xFF) 1 resIllegal 0 (touchSession c s)).regs = true := by
    rw [emit_regs]
    exact ((touchSession_moves c s).form wf).regs
  have hexec : exec (.tamperClear c 0) s =
      .next (showResult 13 1 { result := resIllegal } (emit (13 * 256 + 0xFF) 1 resIllegal 0 (touchSession c s))) := by
    show Host.Outcome.next (cmdTamperClear c 0 s).1 = _
    rw [cmdTamperClear, hstate]
    exact congrArg _ (runCommand_error (by decide) hadm (by simp [htouched]))
  refine ⟨_, hexec, ?_, getF_showResult rfl (by decide) (by decide) (by decide) hwf⟩
  rw [flag_of_onlyFields (showResult_onlyFields rfl (by decide) (by decide)) _ (by decide), flag, getF_emit]
  exact flag_touchSession_bat _ (by decide)

end Sys2Proof.Machine
end

section
/-! The statement about the battery and the tamper loop. -/

namespace Sys2Proof.Certificates

open Sys2Proof Sys2Proof.Machine

/-- Settles O42, command by command: the battery second and check on the fields that they write, TAMPER_OPEN through the note of the
open loop and, where it zeroises, the restart. -/
theorem batteryAndTamperLoop : Obligations.BatteryAndTamperLoop := by
  refine ⟨fun rms s wf => ⟨fun hidle => ?_, fun hon hstopped => ?_, fun hon hruns => ?_⟩, fun mv s wf hpresent => ?_,
    fun s wf hpresent => ⟨fun hclosed => noted_by_tamper hpresent hclosed wf, fun hclosed => emptied_by_tamper hpresent hclosed wf,
      fun hopen => ⟨exec_tamperOpen_idle hopen, _, exec_tamperClosed hpresent hopen, (loopClosed_shows wf).1, (loopClosed_shows wf).2,
        exec_onlyParts (exec_tamperClosed hpresent hopen)⟩,
      fun c hadm hstate => ⟨tamperClear_clears wf hadm hstate, tamperClear_refused wf hadm hstate⟩⟩⟩
  · rw [exec_batterySecond, hidle]
    rfl
  · have hexec := exec_batterySecond rms s
    rw [hon, hstopped, if_neg (by decide), if_pos rfl] at hexec
    exact ⟨_, hexec, rfl, getF_bumpF_same _ _ _ rfl wf.regs, onlyFields_bumpF (by simp) onlyFields_refl⟩
  · have hexec := exec_batterySecond rms s
    rw [hon, hruns, if_neg (by decide), if_neg (by decide)] at hexec
    exact ⟨_, hexec, (batteryChannels_elapsed rms _).trans (getF_bumpF_same _ _ _ rfl wf.regs),
      fun i hi => accumAt_batteryChannels rms hi _⟩
  · exact batteryCheck_shows mv wf hpresent

end Sys2Proof.Certificates
end

section
/-! SUPPORT. What `elapse` leaves of the time bases (R326). -/

namespace Sys2Proof.Machine

open Sys2Proof

variable {s : State} {b : Nat}

/-- How many CLK_TS cycles are among the next `n` CLK_CORE cycles. -/
def tsCycles (n : Nat) (s : State) : Nat := if clockRuns s 8 then (s.clap.cycles + n) / 2 - s.clap.cycles / 2 else 0

theorem elapse_base_running (n : Nat) (hb : b < 6) (hrun : baseRuns s b = true) :
    (elapse n s).clap.bases[b]? = some (advanceCount (s.clap.bases.getD b {}) (baseInc s b) (tsCycles n s)) := by
  simp [elapse, tsCycles, hb, hrun]

theorem elapse_base_held (n : Nat) (hb : b < 6) (hrun : baseRuns s b = false) :
    (elapse n s).clap.bases[b]? = some (s.clap.bases.getD b {}) := by
  simp [elapse, hb, hrun]

theorem elapse_onlyParts (n : Nat) (s : State) : OnlyParts [.clap, .tick] s (elapse n s) :=
  onlyParts_of_moves s _ (elapse_moves ..) rfl

theorem step_idle (hqueue : s.pending = []) : step s = .next (if inState s .off then s else elapse 2 s) := by
  rw [step, hqueue]
  rfl

end Sys2Proof.Machine
end

section
/-! The statement about the step with an empty queue. -/

namespace Sys2Proof.Certificates

open Sys2Proof Sys2Proof.Machine

/-- Settles O2: outside OFF an idle step is `elapse` by two CLK_CORE cycles, which are one CLK_TS cycle (log entry 1). -/
theorem idleStepLetsOneTimestampCyclePass : Obligations.IdleStepLetsOneTimestampCyclePass := by
  intro s hqueue
  refine ⟨fun hoff => by rw [step_idle hqueue, if_pos hoff], fun hup hclock heven => ?_⟩
  have hone : tsCycles 2 s = 1 := by rw [tsCycles, if_pos hclock]; omega
  refine ⟨elapse 2 s, by rw [step_idle hqueue, hup]; rfl, fun b hb hrun => ?_, fun b => elapse_base_held 2, rfl, elapse_onlyParts 2 s⟩
  rw [elapse_base_running 2 hb hrun, hone]

end Sys2Proof.Certificates
end

section
/-! SUPPORT. The timeouts of a domain, the reversal of Local, and Announce messages (R327, R333 to R335). -/

namespace Sys2Proof.Machine

open Sys2Proof

variable {s t : State} {b : Nat}

/-! ### Holdover and invalid -/

/-- A loss from LOCKED is counted. -/
theorem lockLoss_of_holdover (cause : Nat) (hb : b ≤ 5) (h3 : domState s b ≠ 3) (wf : WellKept s) :
    getF (setDomState b 3 cause s) (F.CLAP.LOCK_LOSS_COUNT b) =
      if domState s b = 2 then min (getF s (F.CLAP.LOCK_LOSS_COUNT b) + 1) 0xFFFFFFFF else getF s (F.CLAP.LOCK_LOSS_COUNT b) := by
  have hapart : ∀ g ∈ lockFields, fieldKey g ≠ fieldKey (F.CLAP.LOCK_LOSS_COUNT b) :=
    lockFields_apart (by simp only [F.CLAP.LOCK_LOSS_COUNT]; omega) (by simp only [F.CLAP.LOCK_LOSS_COUNT]; omega)
      (by simp [F.CLAP.LOCK_LOSS_COUNT])
  rw [setDomState_new cause h3, reselect_lockFields _ _ hapart, lockChanged, if_neg (by decide), if_pos rfl, getF_emit]
  generalize hs1 : setF (F.CLAP.BASE_STATE b) 3 s = s0
  have hs0 : getF s0 (F.CLAP.LOCK_LOSS_COUNT b) = getF s (F.CLAP.LOCK_LOSS_COUNT b) :=
    hs1 ▸ getF_setF_other _ _ _ _ (by simp only [fieldKey, F.CLAP.BASE_STATE, F.CLAP.LOCK_LOSS_COUNT]; omega)
  have hwf : WellKept s0 := hs1 ▸ setF_moves.form wf
  have hmoves := netPoint_moves 3 (b - 2) 3 (nowStamp s0) s0
  have hs1 : getF (netPoint 3 (b - 2) 3 (nowStamp s0) s0) (F.CLAP.LOCK_LOSS_COUNT b) = getF s (F.CLAP.LOCK_LOSS_COUNT b) :=
    (netPoint_lockFields _ _ _ _ s0 _ hapart).trans hs0
  generalize netPoint 3 (b - 2) 3 (nowStamp s0) s0 = s1 at hs1 hmoves
  show getF (ite _ _ _ : State) _ = _
  split
  · rw [getF_bumpF_same _ _ _ rfl (hmoves.form hwf).regs, hs1]
  · exact hs1

/-- The increment on which a domain counts on in HOLDOVER: an internal servo leaves out the KP term. -/
def heldOver (b : Nat) (s : State) : State := if flag s (F.CLAP.BASE_SERVO b) then s else setInc b (incOf (dom s b).f) s

theorem heldOver_keeps (b : Nat) (s : State) : domState (heldOver b s) b = domState s b ∧
    getF (heldOver b s) (F.CLAP.LOCK_LOSS_COUNT b) = getF s (F.CLAP.LOCK_LOSS_COUNT b) ∧ (heldOver b s).clap = s.clap ∧
    (WellKept s → WellKept (heldOver b s)) := by
  unfold heldOver
  split
  · exact ⟨rfl, rfl, rfl, id⟩
  · exact ⟨(setInc_keeps _).1, (setInc_keeps _).2, rfl, (setInc_moves ..).form⟩

theorem domainHoldover_due (wf : WellKept s) (hb : b ≤ 5) (hlen : s.clap.domains.length = 4) (hon : domainEnabled s b = true)
    (hstate : domState s b = 1 ∨ domState s b = 2)
    (hdue : (dom s b).lastAccept + (domCfg s b).syncTimeoutMs * 1000000 ≤ nowNs s 0) :
    ∃ t, exec (.domainHoldover b) s = .next t ∧ domState t b = 3 ∧ (dom t b).holdoverSince = nowNs s 0 ∧
      getF t (F.CLAP.LOCK_LOSS_COUNT b) = (if domState s b = 2 then min (getF s (F.CLAP.LOCK_LOSS_COUNT b) + 1) 0xFFFFFFFF
        else getF s (F.CLAP.LOCK_LOSS_COUNT b)) ∧ t.clap.bases = s.clap.bases := by
  obtain ⟨hkept, hloss, hclap, hkeys⟩ := heldOver_keeps b s
  have hexec : exec (.domainHoldover b) s = .next (setDomState b 3 0 (heldOver b s)) := by
    show execDomainHoldover b s = _
    rw [execDomainHoldover, decide_eq_true hdue, hon]
    rcases hstate with h | h <;> rw [h] <;> rfl
  have h3 : domState (heldOver b s) b ≠ 3 := by omega
  have hb' : b - 2 < (heldOver b s).clap.domains.length := by rw [hclap, hlen]; omega
  refine ⟨_, hexec, domState_setDomState 0 hb (by decide) (hkeys wf).regs, ?_, ?_, ?_⟩
  · rw [dom_setDomState 0 hb', if_neg h3, enteredAt, if_neg (by decide), if_pos rfl]
    exact congrArg (fun c => ((ClapPart.bases c).getD 0 {}).ns) hclap
  · rw [lockLoss_of_holdover 0 hb h3 (hkeys wf), hkept, hloss]
  · rw [bases_setDomState, hclap]

theorem domainInvalid_due (wf : WellKept s) (hb : b ≤ 5) (hon : domainEnabled s b = true) (hstate : domState s b = 3)
    (hdue : (dom s b).holdoverSince + s.cfg.time.holdoverS * 1000000000 ≤ nowNs s 0) :
    ∃ t, exec (.domainInvalid b) s = .next t ∧ domState t b = 0 ∧ t.clap.bases = s.clap.bases := by
  refine ⟨setDomState b 0 0 s, ?_, domState_setDomState 0 hb (by decide) wf.regs, bases_setDomState ..⟩
  show execDomainInvalid b s = _
  rw [execDomainInvalid, decide_eq_true hdue, hon, hstate]
  rfl

/-! ### Local reverts -/

theorem localRevert_due (wf : WellKept s) (hb : b ≤ 5) (hon : domainEnabled s b = true)
    (hlocal : flag s F.CLAP.STATUS_LOCAL_RUNNING = true) (hforced : flag s F.CLAP.STATUS_FORCED = false)
    (hsel : getF s F.CLAP.STATUS_SELECTED ≠ 0) (hrevert : s.cfg.time.revertS ≠ 0) (hstate : domState s b = 2)
    (hprior : priorityOf s b < priorityOf s (getF s F.CLAP.STATUS_SELECTED))
    (hdue : (dom s b).lockedSince + s.cfg.time.revertS * 1000000000 ≤ nowNs s 0) :
    ∃ t, exec (.localRevert b) s = .next t ∧ getF t F.CLAP.STATUS_SELECTED = b ∧ t.clap.bases = s.clap.bases ∧
      OnlyParts [.regs, .clap, .cont] s t := by
  have hexec : exec (.localRevert b) s = .next (selectDomain b s) := by
    show execLocalRevert b s = _
    simp [execLocalRevert, hlocal, hforced, hsel, hrevert, hon, hstate, hprior, hdue]
  exact ⟨_, hexec, getF_selectDomain b (by omega) wf.regs, bases_of_servos (servos_selectDomain b s), exec_onlyParts hexec⟩

/-! ### Announce -/

theorem announce_unsupported (wf : WellKept s) (hon : domainEnabled s b = true) {m : Announce} (hm : m.supported = false) :
    ∃ t, exec (.announceReceived b m) s = .next t ∧
      getF t (F.CLAP.REJECT_COUNT b) = min (getF s (F.CLAP.REJECT_COUNT b) + 1) 0xFFFFFFFF ∧ OnlyParts [.regs] s t ∧
      OnlyFields [F.CLAP.REJECT_COUNT b] s t := by
  refine ⟨bumpF (F.CLAP.REJECT_COUNT b) 1 s, ?_, getF_bumpF_same _ _ _ rfl wf.regs, onlyParts_of_moves s _ (bumpF_moves ..) rfl,
    onlyFields_bumpF (by simp) onlyFields_refl⟩
  show execAnnounceReceived b m s = _
  simp [execAnnounceReceived, hon, hm]

/-- The data that are kept of an Announce message. -/
abbrev announceData (m : Announce) (s : State) : AnnounceData :=
  { rank := announceRank m, gmLo := m.gmLo, gmHi := m.gmHi, atNs := nowNs s 0 }

/-- An Announce message on the low port is noted. -/
def announceNoted (b : Nat) (m : Announce) (s : State) : State :=
  updDom b (fun d => { d with announceLo := some (announceData m s) }) s

/-- What an Announce of a new grandmaster on the low port leaves before the lock state changes. -/
def grandmasterTaken (b : Nat) (m : Announce) (s : State) : State :=
  emit 0x0308 b m.gmLo m.gmHi (setF (F.CLAP.GM_ID_LO b) m.gmLo (setF (F.CLAP.GM_ID_HI b) m.gmHi
    (updDom b (fun d => { d with gm := some (m.gmLo, m.gmHi) }) (setF (F.CLAP.BASE_ACTIVE_PORT b) 0 (announceNoted b m s)))))

theorem grandmasterTaken_keeps (m : Announce) (hb : b - 2 < s.clap.domains.length) (hs : keysRise s.regs = true) :
    domState (grandmasterTaken b m s) b = domState s b ∧ (dom (grandmasterTaken b m s) b).gm = some (m.gmLo, m.gmHi) ∧
      (grandmasterTaken b m s).clap.domains.length = s.clap.domains.length ∧ keysRise (grandmasterTaken b m s).regs = true := by
  unfold grandmasterTaken
  generalize hs1 : setF (F.CLAP.BASE_ACTIVE_PORT b) 0 (announceNoted b m s) = s1
  have hlen : s1.clap.domains.length = s.clap.domains.length := by
    rw [← hs1]
    exact domains_updDom_length _
  have hstate : domState s1 b = domState s b := by
    rw [← hs1]
    exact getF_setF_other _ _ _ _ (by simp only [fieldKey, F.CLAP.BASE_STATE, F.CLAP.BASE_ACTIVE_PORT]; omega)
  have hs1k : keysRise s1.regs = true := by
    rw [← hs1]
    exact setF_keysRise _ _ _ hs
  have hservos : ∀ u : State, servos (emit 0x0308 b m.gmLo m.gmHi (setF (F.CLAP.GM_ID_LO b) m.gmLo (setF (F.CLAP.GM_ID_HI b) m.gmHi u))) =
      servos u := fun u => by rw [servos_of_moves (emit_moves ..) rfl, servos_of_moves setF_moves rfl, servos_of_moves setF_moves rfl]
  refine ⟨?_, ?_, ?_, ?_⟩
  · refine Eq.trans ?_ hstate
    refine (getF_emit ..).trans ((getF_setF_other _ _ _ _ ?_).trans (getF_setF_other _ _ _ _ ?_))
    all_goals simp only [fieldKey, F.CLAP.BASE_STATE, F.CLAP.GM_ID_LO, F.CLAP.GM_ID_HI]; omega
  · rw [dom_of_servos (hservos _), dom_updDom _ (by rw [hlen]; exact hb)]
  · rw [domains_of_servos (hservos _), domains_updDom_length, hlen]
  · rw [emit_regs]
    exact setF_keysRise _ _ _ (setF_keysRise _ _ _ hs1k)

/-- With nothing from the high port, an Announce on the low port selects the low port. -/
theorem exec_announceReceived {m : Announce} {g : Nat × Nat} (hon : domainEnabled s b = true) (hm : m.supported = true)
    (hdomain : m.ptpDomain = getF s (F.CLAP.BASE_PTP_DOMAIN b)) (hport : m.port = 0) (hhi : (dom s b).announceHi = none)
    (hgm : (dom s b).gm = some g) (hg : g ≠ (m.gmLo, m.gmHi)) (hb : b - 2 < s.clap.domains.length)
    (hs : keysRise s.regs = true) (hstate : domState s b ≠ 0) :
    exec (.announceReceived b m) s = .next (setDomState b 1 0 (grandmasterTaken b m s)) := by
  have hchoice : choosePort (announceNoted b m s) b = 0 := by
    have hdom := dom_updDom (s := s) (fun d => { d with announceLo := some (announceData m s) }) hb
    have hfresh : announceFresh (announceNoted b m s) (announceData m s) = true := by
      simp [announceFresh, announceNoted, announceData, nowNs, updDom]
    rw [choosePort, show dom (announceNoted b m s) b = _ from hdom]
    simp only [hhi, Option.filter_none, Option.filter_some, hfresh, if_true]
  have hdomU : ∀ f, dom (setF (F.CLAP.BASE_ACTIVE_PORT b) 0 (updDom b f s)) b = f (dom s b) := fun f => dom_updDom f hb
  have htaken : domState (grandmasterTaken b m s) b ≠ 0 := by rw [(grandmasterTaken_keeps m hb hs).1]; exact hstate
  show execAnnounceReceived b m s = _
  rw [execAnnounceReceived, hon, hm, if_neg (by decide), if_neg (by decide), if_neg (not_not.2 hdomain)]
  simp only [hport, if_true]
  rw [announceNoted] at hchoice
  rw [hchoice]
  simp only [if_true, hdomU, hgm, if_neg hg]
  exact congrArg _ (if_neg htaken)

theorem announce_newGrandmaster {m : Announce} {g : Nat × Nat} (wf : WellKept s) (hb : b ≤ 5) (hlen : s.clap.domains.length = 4)
    (hon : domainEnabled s b = true) (hm : m.supported = true) (hdomain : m.ptpDomain = getF s (F.CLAP.BASE_PTP_DOMAIN b))
    (hport : m.port = 0) (hhi : (dom s b).announceHi = none) (hgm : (dom s b).gm = some g) (hg : g ≠ (m.gmLo, m.gmHi))
    (hstate : domState s b ≠ 0) :
    ∃ t, exec (.announceReceived b m) s = .next t ∧ domState t b = 1 ∧ (dom t b).gm = some (m.gmLo, m.gmHi) := by
  have hb' : b - 2 < s.clap.domains.length := by omega
  obtain ⟨-, hgm', hlen', hkeys⟩ := grandmasterTaken_keeps m hb' wf.regs
  refine ⟨_, exec_announceReceived hon hm hdomain hport hhi hgm hg hb' wf.regs hstate,
    domState_setDomState 0 hb (by decide) hkeys, ?_⟩
  rw [dom_setDomState 0 (by omega)]
  split <;> exact hgm'

end Sys2Proof.Machine
end

section
/-! The statement about the lock states of the time domains. -/

namespace Sys2Proof.Certificates

open Sys2Proof Sys2Proof.Machine

/-- Settles O43: each instruction is one change of the lock state or of the selection, and before its instant none. -/
theorem domainLockStates : Obligations.DomainLockStates := by
  intro b s wf _ hb hlen hon
  refine ⟨fun hstate => ⟨domainHoldover_due wf hb hlen hon hstate, fun hearly => ?_⟩,
    fun hstate => ⟨domainInvalid_due wf hb hon hstate, fun hearly => ?_⟩, localRevert_due wf hb hon,
    fun m => announce_unsupported wf hon, fun m g hm hdomain hport hhi hgm hg hstate =>
      announce_newGrandmaster wf hb hlen hon hm hdomain hport hhi hgm hg hstate⟩
  · show execDomainHoldover b s = _
    rw [execDomainHoldover, decide_eq_false (Nat.not_le.2 hearly), Bool.and_false]
    rfl
  · show execDomainInvalid b s = _
    rw [execDomainInvalid, decide_eq_false (Nat.not_le.2 hearly), Bool.and_false]
    rfl

end Sys2Proof.Certificates
end

section
/-! SUPPORT. The commands of the Clapper (R346): what each does to the domain, on the state in which the caller's session has been
touched. -/

namespace Sys2Proof.Machine

open Sys2Proof

variable {s t : State} {b : Nat} {c : Caller}

/-! ### Registers of a time base through the command's parts -/

theorem domState_touchSession (hb : b ≤ 5) : domState (touchSession c s) b = domState s b :=
  getF_touchSession_below c (by simp only [F.CLAP.BASE_STATE]; omega) (by simp [F.CLAP.BASE_STATE]) s

theorem hostServo_touchSession (hb : b ≤ 5) : hostServo (touchSession c s) b = hostServo s b := by
  have hservo := getF_touchSession_below c (f := F.CLAP.BASE_SERVO b) (by simp only [F.CLAP.BASE_SERVO]; omega)
    (by simp [F.CLAP.BASE_SERVO]) s
  have henabled := getF_touchSession_below c (f := F.CLAP.CONFIG_ENABLED) (by decide) (by decide) s
  have hdomain : getF (touchSession c s) F.PWR.DOMAIN_STATE = getF s F.PWR.DOMAIN_STATE := touchSession_onlyFields c s _ (by decide)
  simp only [hostServo, domainEnabled, flag, bitF, domainOn, hservo, henabled, hdomain]

theorem clap_touchSession (c : Caller) (s : State) : (touchSession c s).clap = s.clap := (touchSession_moves c s).frame .clap rfl

/-- A register of a time base stands in the answer as before it. -/
theorem getF_clapAnswer {op : Nat} {r : Reply} {f : Field} (hlow : 0x0300100 ≤ f.addr) :
    getF (showResult 3 op r s) f = getF s f := by
  refine showResult_onlyFields rfl (by decide) (by decide) f ?_
  simp only [List.forall_mem_cons, fieldKey, F.CLAP.CMD_RESULT_OPCODE, F.CLAP.CMD_RESULT_RESULT]
  exact ⟨by omega, by omega, by simp⟩

theorem clap_showResult (n op : Nat) (r : Reply) (s : State) : (showResult n op r s).clap = s.clap :=
  (showResult_moves ..).frame .clap rfl

theorem getF_clapResult {op : Nat} {r : Reply} (hr : r.result < 256) (wf : WellKept s) :
    getF (showResult 3 op r s) F.CLAP.CMD_RESULT_RESULT = r.result :=
  getF_showResult rfl (by decide) (by decide) hr wf.regs

theorem domState_clapAnswer {op : Nat} {r : Reply} : domState (showResult 3 op r s) b = domState s b :=
  getF_clapAnswer (by simp only [F.CLAP.BASE_STATE]; omega)

/-! ### SET_INCREMENT -/

theorem baseInc_setInc {inc : Nat} (hinc : inc < 2 ^ 64) (hs : keysRise s.regs = true) : baseInc (setInc b inc s) b = inc := by
  have hfrac : getF (setInc b inc s) (F.CLAP.INC_FRAC b) = inc % 2 ^ 32 := by
    refine (getF_setF_other _ _ _ _ (by simp only [fieldKey, F.CLAP.INC_NS, F.CLAP.INC_FRAC]; omega)).trans ?_
    exact getF_setF_lt hs (Nat.mod_lt _ (by decide))
  have hns : getF (setInc b inc s) (F.CLAP.INC_NS b) = inc / 2 ^ 32 :=
    getF_setF_lt (setF_keysRise _ _ _ hs) (Nat.div_lt_of_lt_mul (show inc < 2 ^ 32 * 2 ^ 32 from hinc))
  rw [baseInc, hfrac, hns]
  exact Nat.div_add_mod' inc (2 ^ 32)

theorem baseInc_congr (h : t.regs = s.regs) : baseInc t b = baseInc s b := by
  rw [baseInc, baseInc, getF_congr _ _ _ h, getF_congr _ _ _ h]

/-- The increment of a base is none of what a change of the lock state writes. -/
theorem baseInc_setDomState (st cause : Nat) (hb : b ≤ 5) : baseInc (setDomState b st cause s) b = baseInc s b := by
  have hns : ∀ g ∈ domStateFields b, fieldKey g ≠ fieldKey (F.CLAP.INC_NS b) := by
    refine domStateFields_apart ?_ ?_ ?_ ?_ ?_ <;>
      simp only [fieldKey, F.CLAP.INC_NS, F.CLAP.BASE_STATE, F.CLAP.LOCK_LOSS_COUNT] <;> omega
  have hfrac : ∀ g ∈ domStateFields b, fieldKey g ≠ fieldKey (F.CLAP.INC_FRAC b) := by
    refine domStateFields_apart ?_ ?_ ?_ ?_ ?_ <;>
      simp only [fieldKey, F.CLAP.INC_FRAC, F.CLAP.BASE_STATE, F.CLAP.LOCK_LOSS_COUNT] <;> omega
  have h := setDomState_onlyFields b st cause s
  rw [baseInc, baseInc, h _ hns, h _ hfrac]

/-- A host-servo command wakes an INVALID domain. -/
def wokenIf (p : Prop) [Decidable p] (b : Nat) (s : State) : State := if p then setDomState b 1 0 s else s

theorem wokenIf_keeps (p : Prop) [Decidable p] (hb : b ≤ 5) (wf : WellKept s) :
    domState (wokenIf p b s) b = (if p then 1 else domState s b) ∧ (wokenIf p b s).clap.bases = s.clap.bases ∧
      baseInc (wokenIf p b s) b = baseInc s b ∧ OnlyFields (domStateFields b) s (wokenIf p b s) ∧ WellKept (wokenIf p b s) := by
  unfold wokenIf
  split
  · exact ⟨domState_setDomState 0 hb (by decide) wf.regs, bases_setDomState .., baseInc_setDomState 1 0 hb,
      setDomState_onlyFields b 1 0 s, (setDomState_moves ..).form wf⟩
  · exact ⟨rfl, rfl, rfl, onlyFields_refl, wf⟩

theorem baseInc_clapAnswer {op : Nat} {r : Reply} : baseInc (showResult 3 op r s) b = baseInc s b := by
  rw [baseInc, baseInc, getF_clapAnswer (by simp only [F.CLAP.INC_NS]; omega), getF_clapAnswer (by simp only [F.CLAP.INC_FRAC]; omega)]

theorem increment_inRange {inc : Nat} (hb2 : 2 ≤ b) (hb : b ≤ 5) (hmin : incMin ≤ inc) (hmax : inc ≤ incMax) :
    (!ptpBase b || decide (inc < incMin) || decide (inc > incMax)) = false := by
  simp only [ptpBase, decide_eq_true hb2, decide_eq_true hb, decide_eq_false (Nat.not_lt.2 hmin),
    decide_eq_false (Nat.not_lt.2 hmax)]
  rfl

theorem exec_setIncrement (hb2 : 2 ≤ b) (hb : b ≤ 5) (hlegal : clapLegal s = true) (hadm : Admitted c [roleOperator] s)
    (hservo : hostServo s b = true) (frac ns : Nat) (hmin : incMin ≤ ns * 2 ^ 32 + frac) (hmax : ns * 2 ^ 32 + frac ≤ incMax) :
    exec (.setIncrement c b frac ns) s = .next (showResult 3 1 { result := resOk, ret := 0 }
      (wokenIf (domState s b = 0) b (served b (setInc b (ns * 2 ^ 32 + frac) (touchSession c s))))) := by
  show Host.Outcome.next (cmdSetIncrement c b frac ns s).1 = _
  rw [cmdSetIncrement, hlegal]
  refine congrArg _ (runCommand_ok hadm ?_)
  have hrange := increment_inRange hb2 hb hmin hmax
  generalize ns * 2 ^ 32 + frac = inc at hrange ⊢
  exact (if_neg (by rw [hrange]; decide)).trans ((if_neg (by rw [hostServo_touchSession hb, hservo]; decide)).trans
    (by rw [domState_touchSession hb]; rfl))

/-- An increment in force, the domain served. -/
theorem served_setInc (wf : WellKept s) {inc : Nat} (hinc : inc < 2 ^ 64) :
    baseInc (served b (setInc b inc s)) b = inc ∧ domState (served b (setInc b inc s)) b = domState s b ∧
      (served b (setInc b inc s)).clap.bases = s.clap.bases ∧ WellKept (served b (setInc b inc s)) := by
  have hregs : (served b (setInc b inc s)).regs = (setInc b inc s).regs := rfl
  exact ⟨(baseInc_congr hregs).trans (baseInc_setInc hinc wf.regs), (getF_congr _ _ _ hregs).trans (setInc_keeps inc).1, rfl,
    (updDom_moves ..).form ((setInc_moves ..).form wf)⟩

theorem setIncrement_answer (hb : b ≤ 5) (wf : WellKept s) {inc : Nat} (hinc : inc < 2 ^ 64) (p : Prop) [Decidable p] :
    baseInc (showResult 3 1 { result := resOk, ret := 0 } (wokenIf p b (served b (setInc b inc s)))) b = inc ∧
      domState (showResult 3 1 { result := resOk, ret := 0 } (wokenIf p b (served b (setInc b inc s)))) b =
        (if p then 1 else domState s b) ∧
      (showResult 3 1 { result := resOk, ret := 0 } (wokenIf p b (served b (setInc b inc s)))).clap.bases = s.clap.bases ∧
      getF (showResult 3 1 { result := resOk, ret := 0 } (wokenIf p b (served b (setInc b inc s)))) F.CLAP.CMD_RESULT_RESULT =
        resOk := by
  obtain ⟨hput, hkept, hbases, hwf⟩ := served_setInc wf hinc
  generalize served b (setInc b inc s) = v at hput hkept hbases hwf ⊢
  obtain ⟨hstate', hbases', hinc', -, hwf'⟩ := wokenIf_keeps p hb hwf
  exact ⟨baseInc_clapAnswer.trans (hinc'.trans hput), domState_clapAnswer.trans (hstate'.trans (by rw [hkept])),
    (congrArg ClapPart.bases (clap_showResult ..)).trans (hbases'.trans hbases), getF_clapResult (by decide) hwf'⟩

theorem setIncrement_sets (wf : WellKept s) (hb2 : 2 ≤ b) (hb : b ≤ 5) (hlegal : clapLegal s = true)
    (hadm : Admitted c [roleOperator] s) (hservo : hostServo s b = true) (frac ns : Nat)
    (hmin : incMin ≤ ns * 2 ^ 32 + frac) (hmax : ns * 2 ^ 32 + frac ≤ incMax) :
    ∃ t, exec (.setIncrement c b frac ns) s = .next t ∧ baseInc t b = ns * 2 ^ 32 + frac ∧
      domState t b = (if domState s b = 0 then 1 else domState s b) ∧ t.clap.bases = s.clap.bases ∧
      getF t F.CLAP.CMD_RESULT_RESULT = resOk := by
  have hexec := exec_setIncrement hb2 hb hlegal hadm hservo frac ns hmin hmax
  have hinc : ns * 2 ^ 32 + frac < 2 ^ 64 := by rw [incMax] at hmax; omega
  generalize ns * 2 ^ 32 + frac = inc at hexec hinc ⊢
  obtain ⟨hput, hstate, hbases, hresult⟩ :=
    setIncrement_answer hb ((touchSession_moves c s).form wf) hinc (domState s b = 0)
  rw [domState_touchSession hb] at hstate
  exact ⟨_, hexec, hput, hstate, hbases.trans (congrArg ClapPart.bases (clap_touchSession c s)), hresult⟩

/-! ### STEP -/

theorem stepDomain_bases (b : Nat) (x : Int) (s : State) : (stepDomain b x s).clap.bases =
    s.clap.bases.set b { s.clap.bases.getD b {} with ns := ofSigned 64 (((s.clap.bases.getD b {}).ns : Int) + x) } := by
  unfold stepDomain
  extract_lets c n clap s1 w s2
  have h2 : servos s2 = servos s1 := (servos_of_moves (emit_moves ..) rfl).trans (servos_of_moves (bumpF_moves ..) rfl)
  have h3 : servos (checkAligned s2) = servos s1 := (servos_of_moves (checkAligned_moves s2) rfl).trans h2
  split
  · exact bases_of_servos h3
  · exact bases_of_servos h2

theorem stepDomain_onlyFields (b : Nat) (x : Int) (s : State) :
    OnlyFields [F.CLAP.STATUS_ALIGNED] (bumpF (F.CLAP.STEP_COUNT b) 1 s) (stepDomain b x s) := by
  unfold stepDomain
  extract_lets c n clap s1 w s2
  have h2 : OnlyFields [F.CLAP.STATUS_ALIGNED] (bumpF (F.CLAP.STEP_COUNT b) 1 s) s2 :=
    onlyFields_emit (t := bumpF (F.CLAP.STEP_COUNT b) 1 s1) fun _ _ => rfl
  exact onlyFields_ite (onlyFields_trans h2 (checkAligned_onlyFields s2)) h2

theorem exec_step (hb2 : 2 ≤ b) (hb : b ≤ 5) (hlegal : clapLegal s = true) (hadm : Admitted c [roleOperator] s)
    (hservo : hostServo s b = true) (lo hi : Nat) (hsmall : (toSigned 64 (hi * 2 ^ 32 + lo)).natAbs < 2 ^ 62) :
    exec (.step c b lo hi) s = .next (showResult 3 2 { result := resOk, ret := 0 }
      (wokenIf (domState s b = 0 ∨ domState s b = 2) b
        (served b (stepDomain b (toSigned 64 (hi * 2 ^ 32 + lo)) (touchSession c s))))) := by
  show Host.Outcome.next (cmdStep c b lo hi s).1 = _
  rw [cmdStep, hlegal]
  refine congrArg _ (runCommand_ok hadm ?_)
  have hrange : (!ptpBase b || decide ((toSigned 64 (hi * 2 ^ 32 + lo)).natAbs ≥ 2 ^ 62)) = false := by
    simp only [ptpBase, decide_eq_true hb2, decide_eq_true hb, decide_eq_false (Nat.not_le.2 hsmall)]
    rfl
  dsimp only
  rw [hrange, hostServo_touchSession hb, hservo, domState_touchSession hb, wokenIf]
  simp only [Bool.or_eq_true, decide_eq_true_eq]
  rfl

theorem step_steps (wf : WellKept s) (hb2 : 2 ≤ b) (hb : b ≤ 5) (hlegal : clapLegal s = true)
    (hadm : Admitted c [roleOperator] s) (hservo : hostServo s b = true) (lo hi : Nat)
    (hsmall : (toSigned 64 (hi * 2 ^ 32 + lo)).natAbs < 2 ^ 62) :
    ∃ t, exec (.step c b lo hi) s = .next t ∧
      t.clap.bases = s.clap.bases.set b { s.clap.bases.getD b {} with
        ns := ofSigned 64 (((s.clap.bases.getD b {}).ns : Int) + toSigned 64 (hi * 2 ^ 32 + lo)) } ∧
      getF t (F.CLAP.STEP_COUNT b) = min (getF s (F.CLAP.STEP_COUNT b) + 1) 0xFFFFFFFF ∧
      domState t b = (if domState s b = 0 ∨ domState s b = 2 then 1 else domState s b) ∧
      getF t F.CLAP.CMD_RESULT_RESULT = resOk := by
  refine ⟨_, exec_step hb2 hb hlegal hadm hservo lo hi hsmall, ?_⟩
  have hwf : WellKept (touchSession c s) := (touchSession_moves c s).form wf
  have hstate := domState_touchSession (c := c) (s := s) hb
  have hclap := clap_touchSession c s
  have hcount := getF_touchSession_below c (f := F.CLAP.STEP_COUNT b) (by simp only [F.CLAP.STEP_COUNT]; omega)
    (by simp [F.CLAP.STEP_COUNT]) s
  generalize touchSession c s = u at hwf hstate hclap hcount
  generalize toSigned 64 (hi * 2 ^ 32 + lo) = x
  have hstepped := stepDomain_onlyFields b x u
  have hvwf : WellKept (served b (stepDomain b x u)) := (updDom_moves ..).form ((stepDomain_moves ..).form hwf)
  have hbases : (served b (stepDomain b x u)).clap.bases = _ := stepDomain_bases b x u
  rw [hclap] at hbases
  have hkept : domState (served b (stepDomain b x u)) b = domState s b := by
    refine (hstepped _ ?_).trans ((getF_bumpF_other _ _ _ _ ?_).trans hstate)
    · simp only [List.forall_mem_cons, fieldKey, F.CLAP.BASE_STATE, F.CLAP.STATUS_ALIGNED]
      exact ⟨by omega, by simp⟩
    · simp only [fieldKey, F.CLAP.BASE_STATE, F.CLAP.STEP_COUNT]
      omega
  have hbumped : getF (served b (stepDomain b x u)) (F.CLAP.STEP_COUNT b) = min (getF s (F.CLAP.STEP_COUNT b) + 1) 0xFFFFFFFF := by
    refine (hstepped _ ?_).trans ((getF_bumpF_same _ _ _ rfl hwf.regs).trans (by rw [hcount]))
    simp only [List.forall_mem_cons, fieldKey, F.CLAP.STEP_COUNT, F.CLAP.STATUS_ALIGNED]
    exact ⟨by omega, by simp⟩
  generalize served b (stepDomain b x u) = v at hvwf hbases hkept hbumped
  obtain ⟨hstate', hbases', -, hfields, hwf'⟩ := wokenIf_keeps (domState s b = 0 ∨ domState s b = 2) hb hvwf
  have hcount' : getF (wokenIf (domState s b = 0 ∨ domState s b = 2) b v) (F.CLAP.STEP_COUNT b) = getF v (F.CLAP.STEP_COUNT b) := by
    refine hfields _ (domStateFields_apart ?_ ?_ ?_ ?_ ?_) <;>
      simp only [fieldKey, F.CLAP.STEP_COUNT, F.CLAP.BASE_STATE, F.CLAP.LOCK_LOSS_COUNT] <;> omega
  exact ⟨(congrArg ClapPart.bases (clap_showResult ..)).trans (hbases'.trans hbases),
    (getF_clapAnswer (by simp only [F.CLAP.STEP_COUNT]; omega)).trans (hcount'.trans hbumped),
    domState_clapAnswer.trans (hstate'.trans (by rw [hkept])), getF_clapResult (by decide) hwf'⟩

/-! ### SET_LOCK -/

theorem setLock_sets (wf : WellKept s) (hb2 : 2 ≤ b) (hb : b ≤ 5) (hlegal : clapLegal s = true)
    (hadm : Admitted c [roleOperator] s) (hservo : hostServo s b = true) {v : Nat} (hv : v ≤ 1)
    (hvalid : v = 1 ∨ domState s b ≠ 0) :
    ∃ t, exec (.setLock c b v) s = .next t ∧ domState t b = (if v = 1 then 2 else 3) ∧
      getF t F.CLAP.CMD_RESULT_RESULT = resOk := by
  have hwf : WellKept (served b (touchSession c s)) := (updDom_moves ..).form ((touchSession_moves c s).form wf)
  have hst : (if v = 1 then 2 else 3) < 4 := by split <;> decide
  refine ⟨showResult 3 3 { result := resOk, ret := 0 } (setDomState b (if v = 1 then 2 else 3) 2 (served b (touchSession c s))), ?_,
    domState_clapAnswer.trans (domState_setDomState 2 hb hst hwf.regs), getF_clapResult (by decide) ((setDomState_moves ..).form hwf)⟩
  show Host.Outcome.next (cmdSetLock c b v s).1 = _
  rw [cmdSetLock, hlegal]
  refine congrArg _ (runCommand_ok hadm ?_)
  have hrange : (!ptpBase b || decide (v > 1)) = false := by
    simp only [ptpBase, decide_eq_true hb2, decide_eq_true hb, decide_eq_false (Nat.not_lt.2 hv)]
    rfl
  have hknown : (domState s b == 0 && v == 0) = false := by
    rcases hvalid with rfl | h
    · exact Bool.and_false _
    · rw [beq_false_of_ne h, Bool.false_and]
  rw [hrange, hostServo_touchSession hb, hservo, domState_touchSession hb, hknown]
  rfl

/-! ### SELECT -/

/-- Each SELECT is recorded, one that changes nothing too. -/
def selectedAgain (cur : Nat) (u : State) : State :=
  if getF u F.CLAP.STATUS_SELECTED = cur then emit 0x0306 cur cur (ofSigned 32 (phaseError u)) u else u

theorem selectedAgain_keeps (cur : Nat) (u : State) :
    (∀ f, getF (selectedAgain cur u) f = getF u f) ∧ (selectedAgain cur u).clap = u.clap ∧
      (WellKept u → WellKept (selectedAgain cur u)) := by
  unfold selectedAgain
  split
  · exact ⟨getF_emit u _ _ _ _, (emit_moves ..).frame .clap rfl, (emit_moves ..).form⟩
  · exact ⟨fun _ => rfl, rfl, id⟩

theorem exec_select (hb2 : 2 ≤ b) (hb : b ≤ 5) (hlegal : clapLegal s = true) (hadm : Admitted c [roleEngineer] s)
    (hstate : domState s b = 2 ∨ domState s b = 3) :
    exec (.select c b) s = .next (showResult 3 4 { result := resOk, ret := 0 }
      (selectedAgain (getF (touchSession c s) F.CLAP.STATUS_SELECTED) (selectDomain b (setF F.CLAP.STATUS_FORCED 1 (touchSession c s))))) := by
  show Host.Outcome.next (cmdSelect c b s).1 = _
  rw [cmdSelect, hlegal]
  refine congrArg _ (runCommand_ok hadm ?_)
  have hrange : (decide (b ≠ 0) && !ptpBase b) = false := by
    simp only [ptpBase, decide_eq_true hb2, decide_eq_true hb]
    exact Bool.and_false _
  have hgood : (domState s b == 2 || domState s b == 3) = true := by rcases hstate with h | h <;> rw [h] <;> rfl
  dsimp only
  rw [hrange, domState_touchSession hb, hgood, if_neg (by decide), if_neg (by omega), if_neg (by decide)]
  rfl

theorem select_forces (wf : WellKept s) (hb2 : 2 ≤ b) (hb : b ≤ 5) (hlegal : clapLegal s = true)
    (hadm : Admitted c [roleEngineer] s) (hstate : domState s b = 2 ∨ domState s b = 3) :
    ∃ t, exec (.select c b) s = .next t ∧ getF t F.CLAP.STATUS_SELECTED = b ∧ flag t F.CLAP.STATUS_FORCED = true ∧
      getF t F.CLAP.CMD_RESULT_RESULT = resOk ∧ t.clap.bases = s.clap.bases := by
  refine ⟨_, exec_select hb2 hb hlegal hadm hstate, ?_⟩
  have hwf : WellKept (touchSession c s) := (touchSession_moves c s).form wf
  have hclap := clap_touchSession c s
  generalize touchSession c s = u at hwf hclap
  generalize getF u F.CLAP.STATUS_SELECTED = cur
  have hforced : WellKept (setF F.CLAP.STATUS_FORCED 1 u) := setF_moves.form hwf
  have hsel := getF_selectDomain b (by omega) hforced.regs
  have hkept : flag (selectDomain b (setF F.CLAP.STATUS_FORCED 1 u)) F.CLAP.STATUS_FORCED = true :=
    (flag_of_onlyFields (selectDomain_onlyFields b _) _ (by decide)).trans (flag_setF_one _ rfl hwf.regs)
  have hbases : (selectDomain b (setF F.CLAP.STATUS_FORCED 1 u)).clap.bases = s.clap.bases :=
    (bases_of_servos (servos_selectDomain b _)).trans (congrArg ClapPart.bases hclap)
  have hselected : WellKept (selectDomain b (setF F.CLAP.STATUS_FORCED 1 u)) := (selectDomain_moves ..).form hforced
  generalize selectDomain b (setF F.CLAP.STATUS_FORCED 1 u) = v at hsel hkept hbases hselected
  obtain ⟨hfields, hclap', hform⟩ := selectedAgain_keeps cur v
  have hanswer := showResult_onlyFields (s := selectedAgain cur v) (op := 4) (r := { result := resOk, ret := 0 })
    (n := 3) rfl (by decide) (by decide)
  refine ⟨(hanswer _ (by decide)).trans ((hfields _).trans hsel), ?_, getF_clapResult (by decide) (hform hselected), ?_⟩
  · rw [flag_of_onlyFields hanswer _ (by decide), flag, hfields]
    exact hkept
  · rw [clap_showResult, hclap', hbases]

theorem select_refused (wf : WellKept s) (hb2 : 2 ≤ b) (hb : b ≤ 5) (hlegal : clapLegal s = true)
    (hadm : Admitted c [roleEngineer] s) (hstate : domState s b < 2) :
    ∃ t, exec (.select c b) s = .next t ∧ getF t F.CLAP.CMD_RESULT_RESULT = resIllegal ∧ t.clap = s.clap ∧
      getF t F.CLAP.STATUS_SELECTED = getF s F.CLAP.STATUS_SELECTED := by
  have hexec : exec (.select c b) s = .next (showResult 3 4 { result := resIllegal }
      (emit (3 * 256 + 0xFF) 4 resIllegal b (touchSession c s))) := by
    show Host.Outcome.next (cmdSelect c b s).1 = _
    rw [cmdSelect, hlegal]
    refine congrArg _ (runCommand_error (by decide) hadm ?_)
    have hrange : (decide (b ≠ 0) && !ptpBase b) = false := by
      simp only [ptpBase, decide_eq_true hb2, decide_eq_true hb]
      exact Bool.and_false _
    have hbad : (domState s b == 2 || domState s b == 3) = false := by
      rw [beq_false_of_ne (by omega), beq_false_of_ne (by omega)]
      rfl
    rw [if_pos rfl]
    dsimp only
    rw [hrange, domState_touchSession hb, hbad, if_neg (by decide), if_neg (by omega)]
    rfl
  have hmoves : Moves 0xa00002 s (emit (3 * 256 + 0xFF) 4 resIllegal b (touchSession c s)) :=
    moves_step (emit_moves ..) rfl (moves_step (touchSession_moves ..) rfl moves_refl)
  refine ⟨_, hexec, getF_clapResult (by decide) (hmoves.form wf), (clap_showResult ..).trans (hmoves.frame .clap rfl), ?_⟩
  rw [showResult_onlyFields rfl (by decide) (by decide) _ (by decide), getF_emit]
  exact getF_touchSession_below c (by decide) (by decide) s

end Sys2Proof.Machine
end

section
/-! The statement about the commands of a host servo. -/

namespace Sys2Proof.Certificates

open Sys2Proof Sys2Proof.Machine

/-- Settles O44, command by command. -/
theorem hostServoCommands : Obligations.HostServoCommands := by
  intro c b s wf hb2 hb hlen hlegal
  refine ⟨fun hadm hservo => ⟨fun frac ns _ hmin hmax => setIncrement_sets wf hb2 hb hlegal hadm hservo frac ns hmin hmax,
    fun lo hi _ _ hsmall => step_steps wf hb2 hb hlegal hadm hservo lo hi hsmall,
    setLock_sets wf hb2 hb hlegal hadm hservo (by decide) (Or.inl rfl),
    fun hstate => setLock_sets wf hb2 hb hlegal hadm hservo (by decide) (Or.inr hstate)⟩,
    fun hadm => ⟨select_forces wf hb2 hb hlegal hadm, select_refused wf hb2 hb hlegal hadm⟩⟩

end Sys2Proof.Certificates
end

section
/-! SUPPORT. The internal servo on one measurement (R332), and peer delays (R333). -/

namespace Sys2Proof.Machine

open Sys2Proof

variable {s t : State} {b : Nat}

theorem clampI32_small {o : Int} (hlow : -2147483648 ≤ o) (hhigh : o ≤ 2147483647) : clampI32 o = o := by
  unfold clampI32
  omega

theorem ofSigned_lt (o : Int) : ofSigned 32 o < 2 ^ 32 := by
  simp only [ofSigned]
  omega

theorem toSigned_ofSigned {o : Int} (hlow : -2147483648 ≤ o) (hhigh : o ≤ 2147483647) : toSigned 32 (ofSigned 32 o) = o := by
  have hmod : (ofSigned 32 o : Int) = o % 4294967296 := Int.toNat_of_nonneg (Int.emod_nonneg o (by decide))
  have hsame : ofSigned 32 o % 2 ^ 32 = ofSigned 32 o := Nat.mod_eq_of_lt (ofSigned_lt o)
  rw [toSigned, hsame]
  split <;> push_cast <;> omega

/-! ### An accepted offset -/

/-- The counters of the image lie above every register of a time base. -/
theorem sampleCounters_apart {f : Field} (hf : f.addr < 0x0400000) (hlsb : f.lsb < 32) : ∀ g ∈ sampleCounters, fieldKey g ≠ fieldKey f := by
  simp only [sampleCounters, List.forall_mem_cons, fieldKey, F.PIMG.REJECT_COUNT, F.PIMG.CLAMP_COUNT, F.PIMG.RATE_COUNT,
    F.PIMG.FILTER_COUNT, F.PIMG.WRITE_REFUSED_COUNT]
  refine ⟨?_, ?_, ?_, ?_, ?_, by simp⟩ <;> omega

/-- The offset is shown and the measurement counted, before NET's points of it are written. -/
def offsetShown (b : Nat) (o : Int) (s : State) : State :=
  bumpF (F.CLAP.SYNC_COUNT b) 1 (setF (F.CLAP.OFFSET_LAST b) (ofSigned 32 (clampI32 o))
    (updDom b (fun d => { d with lastAccept := nowNs s 0 }) s))

theorem acceptOffset_onlyFields (b : Nat) (o : Int) (s : State) : OnlyFields sampleCounters (offsetShown b o s) (acceptOffset b o s) :=
  onlyFields_trans (netPoint_onlyFields _ _ _ _ _) (netPoint_onlyFields _ _ _ _ _)

theorem servos_acceptOffset (b : Nat) (o : Int) (s : State) : servos (acceptOffset b o s) = servos (offsetShown b o s) :=
  (servos_of_moves (netPoint_moves ..) rfl).trans (servos_of_moves (netPoint_moves ..) rfl)

theorem bases_acceptOffset (b : Nat) (o : Int) (s : State) : (acceptOffset b o s).clap.bases = s.clap.bases :=
  (bases_of_servos (servos_acceptOffset b o s)).trans rfl

theorem domains_acceptOffset_length (b : Nat) (o : Int) (s : State) :
    (acceptOffset b o s).clap.domains.length = s.clap.domains.length :=
  (congrArg List.length (domains_of_servos (servos_acceptOffset b o s))).trans (domains_updDom_length _)

theorem getF_acceptOffset {o : Int} {f : Field} (hf : f.addr < 0x0400000) (hlsb : f.lsb < 32)
    (hoffset : fieldKey (F.CLAP.OFFSET_LAST b) ≠ fieldKey f) (hsync : fieldKey (F.CLAP.SYNC_COUNT b) ≠ fieldKey f) :
    getF (acceptOffset b o s) f = getF s f := by
  rw [acceptOffset_onlyFields b o s f (sampleCounters_apart hf hlsb), offsetShown, getF_bumpF_other _ _ _ _ hsync,
    getF_setF_other _ _ _ _ hoffset]
  rfl

theorem acceptOffset_shows {o : Int} (hlow : -2147483648 ≤ o) (hhigh : o ≤ 2147483647) (hb : b ≤ 5) (hs : keysRise s.regs = true) :
    toSigned 32 (getF (acceptOffset b o s) (F.CLAP.OFFSET_LAST b)) = o ∧
      getF (acceptOffset b o s) (F.CLAP.SYNC_COUNT b) = min (getF s (F.CLAP.SYNC_COUNT b) + 1) 0xFFFFFFFF := by
  have hapart : fieldKey (F.CLAP.SYNC_COUNT b) ≠ fieldKey (F.CLAP.OFFSET_LAST b) := by
    simp only [fieldKey, F.CLAP.SYNC_COUNT, F.CLAP.OFFSET_LAST]
    omega
  have hput := setF_keysRise (updDom b (fun d => { d with lastAccept := nowNs s 0 }) s) (F.CLAP.OFFSET_LAST b)
    (ofSigned 32 (clampI32 o)) hs
  have hfields := acceptOffset_onlyFields b o s
  constructor
  · rw [hfields _ (sampleCounters_apart (by simp only [F.CLAP.OFFSET_LAST]; omega) (by simp [F.CLAP.OFFSET_LAST])), offsetShown,
      getF_bumpF_other _ _ _ _ hapart, clampI32_small hlow hhigh]
    exact (congrArg (toSigned 32) (getF_setF_lt hs (ofSigned_lt o))).trans (toSigned_ofSigned hlow hhigh)
  · rw [hfields _ (sampleCounters_apart (by simp only [F.CLAP.SYNC_COUNT]; omega) (by simp [F.CLAP.SYNC_COUNT])), offsetShown,
      getF_bumpF_same _ _ _ rfl hput, getF_setF_other _ _ _ _ hapart.symm]
    rfl

theorem getF_setDomState {f : Field} (st cause : Nat) (hlow : 0x0300100 ≤ f.addr) (hhigh : f.addr < 0x0300400) (hlsb : f.lsb < 32)
    (hstate : fieldKey (F.CLAP.BASE_STATE b) ≠ fieldKey f) (hloss : fieldKey (F.CLAP.LOCK_LOSS_COUNT b) ≠ fieldKey f) :
    getF (setDomState b st cause s) f = getF s f :=
  setDomState_onlyFields b st cause s f (domStateFields_apart hlow hhigh hlsb hstate hloss)

theorem offsetLast_setDomState (st cause : Nat) (hb : b ≤ 5) :
    getF (setDomState b st cause s) (F.CLAP.OFFSET_LAST b) = getF s (F.CLAP.OFFSET_LAST b) := by
  apply getF_setDomState <;> simp only [fieldKey, F.CLAP.OFFSET_LAST, F.CLAP.BASE_STATE, F.CLAP.LOCK_LOSS_COUNT] <;> omega

theorem syncCount_setDomState (st cause : Nat) (hb : b ≤ 5) :
    getF (setDomState b st cause s) (F.CLAP.SYNC_COUNT b) = getF s (F.CLAP.SYNC_COUNT b) := by
  apply getF_setDomState <;> simp only [fieldKey, F.CLAP.SYNC_COUNT, F.CLAP.BASE_STATE, F.CLAP.LOCK_LOSS_COUNT] <;> omega

theorem rejectCount_setDomState (st cause : Nat) (hb : b ≤ 5) :
    getF (setDomState b st cause s) (F.CLAP.REJECT_COUNT b) = getF s (F.CLAP.REJECT_COUNT b) := by
  apply getF_setDomState <;> simp only [fieldKey, F.CLAP.REJECT_COUNT, F.CLAP.BASE_STATE, F.CLAP.LOCK_LOSS_COUNT] <;> omega

theorem baseInc_of_fields (hns : getF t (F.CLAP.INC_NS b) = getF s (F.CLAP.INC_NS b))
    (hfrac : getF t (F.CLAP.INC_FRAC b) = getF s (F.CLAP.INC_FRAC b)) : baseInc t b = baseInc s b := by
  rw [baseInc, baseInc, hns, hfrac]

theorem exec_offsetMeasurement {o : Int} (hon : domainEnabled s b = true) (hservo : flag s (F.CLAP.BASE_SERVO b) = false)
    (hclock : clockRuns s 8 = true) : exec (.offsetMeasurement b o) s = .next (servo b o s) := by
  show execOffsetMeasurement b o s = _
  rw [execOffsetMeasurement, hon, hservo, hclock]
  rfl

/-! ### A step while the domain acquires -/

/-- The measurement that steps the count, before the domain is ACQUIRING. -/
def steppedBack (b : Nat) (o : Int) (g : Domain → Domain) (s : State) : State :=
  updDom b g (stepDomain b (-o) (acceptOffset b o s))

theorem getF_steppedBack {o : Int} {g : Domain → Domain} {f : Field} (hf : 0x0300100 ≤ f.addr) (hstep : fieldKey (F.CLAP.STEP_COUNT b) ≠ fieldKey f) :
    getF (steppedBack b o g s) f = getF (acceptOffset b o s) f := by
  refine (stepDomain_onlyFields b (-o) _ f ?_).trans (getF_bumpF_other _ _ _ _ hstep)
  simp only [List.forall_mem_cons, fieldKey, F.CLAP.STATUS_ALIGNED]
  exact ⟨by omega, by simp⟩

theorem measurement_steps {o : Int} (wf : WellKept s) (hb : b ≤ 5) (hlow : -2147483648 ≤ o) (hhigh : o ≤ 2147483647)
    (hstate : domState s b = 0 ∨ domState s b = 1) (hbeyond : (domCfg s b).stepNs < o.natAbs) :
    domState (servo b o s) b = 1 ∧ toSigned 32 (getF (servo b o s) (F.CLAP.OFFSET_LAST b)) = o ∧
      (servo b o s).clap.bases =
        s.clap.bases.set b { s.clap.bases.getD b {} with ns := ofSigned 64 (((s.clap.bases.getD b {}).ns : Int) - o) } ∧
      baseInc (servo b o s) b = baseInc s b := by
  have hst : (decide (domState s b = 0) || decide (domState s b = 1) || (dom s b).oPred.isNone) = true := by
    rcases hstate with h | h <;> simp [h]
  have hservo : ∃ g, servo b o s = setDomState b 1 0 (steppedBack b o g s) :=
    ⟨_, if_pos (by rw [hst, decide_eq_true hbeyond]; rfl)⟩
  obtain ⟨g, hservo⟩ := hservo
  rw [hservo]
  have hwf : WellKept (steppedBack b o g s) :=
    (updDom_moves ..).form ((stepDomain_moves ..).form ((acceptOffset_moves ..).form wf))
  refine ⟨domState_setDomState 0 hb (by decide) hwf.regs, ?_, ?_, ?_⟩
  · rw [offsetLast_setDomState 1 0 hb, getF_steppedBack]
    · exact (acceptOffset_shows hlow hhigh hb wf.regs).1
    all_goals simp only [fieldKey, F.CLAP.OFFSET_LAST, F.CLAP.STEP_COUNT]; omega
  · rw [bases_setDomState]
    exact (stepDomain_bases b (-o) _).trans (by rw [bases_acceptOffset, Int.add_neg_eq_sub])
  · rw [baseInc_setDomState 1 0 hb]
    refine baseInc_of_fields ?_ ?_
    all_goals
      refine (getF_steppedBack ?_ ?_).trans (getF_acceptOffset ?_ ?_ ?_ ?_)
      all_goals
        simp only [fieldKey, F.CLAP.INC_NS, F.CLAP.INC_FRAC, F.CLAP.STEP_COUNT, F.CLAP.OFFSET_LAST, F.CLAP.SYNC_COUNT]
        omega

/-! ### A rejected jump -/

/-- A jump is rejected, recorded and counted. -/
def jumpRejected (b : Nat) (o : Int) (s : State) : State :=
  emit 0x0304 b (ofSigned 32 (clampI32 o)) (ofSigned 32 (clampI32 ((dom s b).oPred.getD 0)))
    (bumpF (F.CLAP.REJECT_COUNT b) 1 (updDom b (fun x => { x with nRej := x.nRej + 1 }) s))

theorem getF_jumpRejected {o : Int} {f : Field} (hf : fieldKey (F.CLAP.REJECT_COUNT b) ≠ fieldKey f) :
    getF (jumpRejected b o s) f = getF s f := (getF_emit ..).trans (getF_bumpF_other _ _ _ _ hf)

theorem jumpRejected_counts (b : Nat) (o : Int) (hs : keysRise s.regs = true) : getF (jumpRejected b o s) (F.CLAP.REJECT_COUNT b) =
    min (getF s (F.CLAP.REJECT_COUNT b) + 1) 0xFFFFFFFF :=
  (getF_emit ..).trans (getF_bumpF_same _ _ _ rfl hs)

theorem jumpRejected_moves (b : Nat) (o : Int) (s : State) : Moves 0x20000a s (jumpRejected b o s) :=
  moves_step (emit_moves ..) rfl (moves_step (bumpF_moves ..) rfl (moves_step (updDom_moves ..) rfl moves_refl))

theorem bases_jumpRejected (b : Nat) (o : Int) (s : State) : (jumpRejected b o s).clap.bases = s.clap.bases :=
  bases_of_servos (s := bumpF (F.CLAP.REJECT_COUNT b) 1 (updDom b (fun x => { x with nRej := x.nRej + 1 }) s))
    (servos_of_moves (emit_moves ..) rfl)

theorem measurement_jumps {o p : Int} (wf : WellKept s) (hb : b ≤ 5) (hstate : domState s b = 2) (hpred : (dom s b).oPred = some p)
    (hjump : (domCfg s b).jumpNs < (o - p).natAbs) :
    getF (servo b o s) (F.CLAP.REJECT_COUNT b) = min (getF s (F.CLAP.REJECT_COUNT b) + 1) 0xFFFFFFFF ∧
      (servo b o s).clap.bases = s.clap.bases ∧ baseInc (servo b o s) b = baseInc s b ∧
      domState (servo b o s) b = (if (dom s b).nRej = 3 then 3 else 2) := by
  have hservo : ∃ g, servo b o s = if (dom s b).nRej + 1 = 4 then setDomState b 3 1 (updDom b g (jumpRejected b o s))
      else jumpRejected b o s := by
    refine ⟨_, (if_neg ?_).trans (if_pos ?_)⟩
    · simp [hstate, hpred]
    · simp [hstate, hpred, hjump]
  obtain ⟨g, hservo⟩ := hservo
  have hinc : baseInc (jumpRejected b o s) b = baseInc s b := by
    refine baseInc_of_fields (getF_jumpRejected ?_) (getF_jumpRejected ?_)
    all_goals simp only [fieldKey, F.CLAP.INC_NS, F.CLAP.INC_FRAC, F.CLAP.REJECT_COUNT]; omega
  have hkept : domState (jumpRejected b o s) b = 2 :=
    (getF_jumpRejected (by simp only [fieldKey, F.CLAP.BASE_STATE, F.CLAP.REJECT_COUNT]; omega)).trans hstate
  have hcount := jumpRejected_counts b o wf.regs
  have hwf : WellKept (jumpRejected b o s) := (jumpRejected_moves b o s).form wf
  have hbases := bases_jumpRejected b o s
  rw [hservo]
  generalize jumpRejected b o s = v at hinc hkept hcount hwf hbases ⊢
  by_cases hrej : (dom s b).nRej = 3
  · rw [if_pos (by omega), if_pos hrej, rejectCount_setDomState 3 1 hb, bases_setDomState, baseInc_setDomState 3 1 hb]
    exact ⟨hcount, hbases, (baseInc_congr rfl).trans hinc, domState_setDomState 1 hb (by decide) hwf.regs⟩
  · rw [if_neg (by omega), if_neg hrej]
    exact ⟨hcount, hbases, hinc, hkept⟩

/-! ### Any other measurement -/

/-- A measurement is taken into the servo: its offset accepted, and the increment set. -/
def measured (b : Nat) (o : Int) (g : Domain → Domain) (inc : Nat) (s : State) : State :=
  setInc b inc (updDom b g (acceptOffset b o s))

theorem getF_measured {o : Int} {g : Domain → Domain} {inc : Nat} {f : Field} (hns : fieldKey (F.CLAP.INC_NS b) ≠ fieldKey f)
    (hfrac : fieldKey (F.CLAP.INC_FRAC b) ≠ fieldKey f) : getF (measured b o g inc s) f = getF (acceptOffset b o s) f :=
  (getF_setF_other _ _ _ _ hns).trans (getF_setF_other _ _ _ _ hfrac)

/-- The measurement `o` stands in domain `b` as the accepted one, the counts of the bases being `bases`. -/
def Measured (b : Nat) (o : Int) (n : Nat) (bases : List BaseCount) (s : State) : Prop :=
  toSigned 32 (getF s (F.CLAP.OFFSET_LAST b)) = o ∧ getF s (F.CLAP.SYNC_COUNT b) = n ∧ (dom s b).nRej = 0 ∧
    (dom s b).oPred = some o ∧ s.clap.bases = bases ∧ b - 2 < s.clap.domains.length

theorem measured_shows {o : Int} {g : Domain → Domain} {inc : Nat} (wf : WellKept s) (hb : b ≤ 5)
    (hlen : b - 2 < s.clap.domains.length) (hlow : -2147483648 ≤ o) (hhigh : o ≤ 2147483647)
    (hrej : ∀ d, (g d).nRej = 0) (hpred : ∀ d, (g d).oPred = some o) :
    Measured b o (min (getF s (F.CLAP.SYNC_COUNT b) + 1) 0xFFFFFFFF) s.clap.bases (measured b o g inc s) := by
  obtain ⟨hoffset, hsync⟩ := acceptOffset_shows hlow hhigh hb wf.regs
  have hlen' : b - 2 < (acceptOffset b o s).clap.domains.length := by rw [domains_acceptOffset_length]; exact hlen
  have hdom : dom (measured b o g inc s) b = g (dom (acceptOffset b o s) b) := dom_updDom g hlen'
  refine ⟨?_, ?_, by rw [hdom, hrej], by rw [hdom, hpred], bases_acceptOffset b o s, (domains_updDom_length g).symm ▸ hlen'⟩
  · rw [getF_measured]
    · exact hoffset
    all_goals simp only [fieldKey, F.CLAP.INC_NS, F.CLAP.INC_FRAC, F.CLAP.OFFSET_LAST]; omega
  · rw [getF_measured]
    · exact hsync
    all_goals simp only [fieldKey, F.CLAP.INC_NS, F.CLAP.INC_FRAC, F.CLAP.SYNC_COUNT]; omega

theorem enteredAt_keeps (st now : Nat) (d : Domain) : (enteredAt st now d).nRej = d.nRej ∧ (enteredAt st now d).oPred = d.oPred := by
  unfold enteredAt
  split
  · exact ⟨rfl, rfl⟩
  · split <;> exact ⟨rfl, rfl⟩

theorem measured_setDomState {o : Int} {n : Nat} {bases : List BaseCount} (st : Nat) (hb : b ≤ 5) (h : Measured b o n bases s) :
    Measured b o n bases (setDomState b st 0 s) := by
  obtain ⟨hoffset, hsync, hrej, hpred, hbases, hlen⟩ := h
  obtain ⟨hrej', hpred'⟩ := enteredAt_keeps st (nowNs s 0) (dom s b)
  have hdom := dom_setDomState (st := st) 0 hlen
  refine ⟨(congrArg (toSigned 32) (offsetLast_setDomState st 0 hb)).trans hoffset, (syncCount_setDomState st 0 hb).trans hsync,
    ?_, ?_, (bases_setDomState ..).trans hbases, by rw [domains_setDomState_length 0 hlen]; exact hlen⟩
  · rw [hdom]
    split
    · exact hrej
    · exact hrej'.trans hrej
  · rw [hdom]
    split
    · exact hpred
    · exact hpred'.trans hpred

theorem measured_setDomState_ite {o : Int} {n : Nat} {bases : List BaseCount} (p : Prop) [Decidable p] (st : Nat) (hb : b ≤ 5)
    (h : Measured b o n bases s) : Measured b o n bases (if p then setDomState b st 0 s else s) := by
  split
  · exact measured_setDomState st hb h
  · exact h

theorem measurement_shows {o p : Int} (wf : WellKept s) (hb : b ≤ 5) (hlen : b - 2 < s.clap.domains.length)
    (hlow : -2147483648 ≤ o) (hhigh : o ≤ 2147483647) (hpred : (dom s b).oPred = some p)
    (hjump : (o - p).natAbs ≤ (domCfg s b).jumpNs) (hstep : o.natAbs ≤ (domCfg s b).stepNs) :
    Measured b o (min (getF s (F.CLAP.SYNC_COUNT b) + 1) 0xFFFFFFFF) s.clap.bases (servo b o s) := by
  have hservo : ∃ (p1 p2 : Prop) (_ : Decidable p1) (_ : Decidable p2) (g : Domain → Domain) (inc : Nat),
      (∀ d, (g d).nRej = 0) ∧ (∀ d, (g d).oPred = some o) ∧
      servo b o s = if p2 then setDomState b 2 0 (if p1 then setDomState b 1 0 (measured b o g inc s) else measured b o g inc s)
        else (if p1 then setDomState b 1 0 (measured b o g inc s) else measured b o g inc s) := by
    refine ⟨_, _, _, _, _, _, ?_, ?_, (if_neg ?_).trans (if_neg ?_)⟩
    · exact fun _ => rfl
    · exact fun _ => rfl
    · simp [hstep]
    · simp [hpred, hjump]
  obtain ⟨p1, p2, _, _, g, inc, hrej, hpred', hservo⟩ := hservo
  rw [hservo]
  exact measured_setDomState_ite p2 2 hb (measured_setDomState_ite p1 1 hb (measured_shows wf hb hlen hlow hhigh hrej hpred'))

/-! ### Peer delays -/

theorem getF_setPathDelays {l : List Nat} {v : Nat} (hv : v < 2 ^ 32) (hs : keysRise s.regs = true)
    (h : b ∈ l ∨ getF s (F.CLAP.PATH_DELAY b) = v) : getF (l.foldl (fun t x => setF (F.CLAP.PATH_DELAY x) v t) s) (F.CLAP.PATH_DELAY b) = v := by
  induction l generalizing s with
  | nil => exact h.resolve_left List.not_mem_nil
  | cons x l ih =>
    refine ih (setF_keysRise _ _ _ hs) ?_
    by_cases hx : x = b
    · exact Or.inr (hx ▸ getF_setF_lt hs hv)
    · refine h.imp (fun hmem => (List.mem_cons.1 hmem).resolve_left (Ne.symm hx)) fun hold => ?_
      rw [getF_setF_other _ _ _ _ (by simp only [fieldKey, F.CLAP.PATH_DELAY]; omega)]
      exact hold

theorem pdelayResp_shows {port : Nat} {o : Int} (wf : WellKept s) (hlow : -2147483648 ≤ o) (hhigh : o ≤ 2147483647)
    (hmem : b ∈ domainsOnPort s port) (hport : getF s (F.CLAP.BASE_ACTIVE_PORT b) = port % 2) :
    ∃ t, exec (.pdelayRespReceived port o) s = .next t ∧ toSigned 32 (getF t (F.CLAP.PATH_DELAY b)) = o ∧ OnlyParts [.regs] s t := by
  have hexec : exec (.pdelayRespReceived port o) s = .next (((domainsOnPort s port).filter
      (fun x => getF s (F.CLAP.BASE_ACTIVE_PORT x) == port % 2)).foldl (fun t x => setF (F.CLAP.PATH_DELAY x) (ofSigned 32 (clampI32 o)) t) s) := rfl
  refine ⟨_, hexec, ?_, exec_onlyParts hexec⟩
  have hin : b ∈ (domainsOnPort s port).filter (fun x => getF s (F.CLAP.BASE_ACTIVE_PORT x) == port % 2) :=
    List.mem_filter.2 ⟨hmem, beq_iff_eq.2 hport⟩
  rw [getF_setPathDelays (ofSigned_lt _) wf.regs (Or.inl hin), clampI32_small hlow hhigh, toSigned_ofSigned hlow hhigh]

end Sys2Proof.Machine
end

section
/-! The statement about the internal servo. -/

namespace Sys2Proof.Certificates

open Sys2Proof Sys2Proof.Machine

/-- Settles O45, branch by branch of the servo. -/
theorem internalServoMeasurements : Obligations.InternalServoMeasurements := by
  intro b o s wf hb2 hb hlen hon hservo hclock hlow hhigh
  have hexec := exec_offsetMeasurement (o := o) hon hservo hclock
  refine ⟨fun hstate hbeyond => ⟨_, hexec, measurement_steps wf hb hlow hhigh hstate hbeyond⟩,
    fun p hstate hpred hjump => ⟨_, hexec, measurement_jumps wf hb hstate hpred hjump⟩,
    fun p hpred hjump hstep => ⟨_, hexec, ?_⟩, fun port hmem hport => pdelayResp_shows wf hlow hhigh hmem hport⟩
  obtain ⟨hoffset, hsync, hrej, hpred', hbases, -⟩ := measurement_shows wf hb (by omega) hlow hhigh hpred hjump hstep
  exact ⟨hoffset, hsync, hrej, hpred', hbases⟩

end Sys2Proof.Certificates
end

section
/-! SUPPORT. FRAME_LAUNCH on an Ethernet port (R341, R359) and on a CAN port (R395). -/

namespace Sys2Proof.Machine

open Sys2Proof

variable {s t : State} {p q : Nat}

/-! ### The counters of a port and of a queue -/

/-- TX_FRAMES of an Ethernet port. -/
def txCounter (p : Nat) : Field := if p < 4 then F.NET.TX_FRAMES p else F.LRP.TX_FRAMES (p - 8)

/-- LATE_DISCARDED of an Ethernet port. -/
def lateCounter (p : Nat) : Field := if p < 4 then F.NET.LATE_DISCARDED p else F.LRP.LATE_DISCARDED (p - 8)

/-- An Ethernet port: of the backbone or long-reach. -/
def EthernetPort (p : Nat) : Prop := p < 4 ∨ (8 ≤ p ∧ p < 16)

/-- The registers of a queue and the counters of a port are apart. -/
theorem queueFields_apart (hp : EthernetPort p) (q : Nat) :
    fieldKey (qFillF q) ≠ fieldKey (txCounter p) ∧ fieldKey (qFillF q) ≠ fieldKey (qSentF q) ∧
      fieldKey (qSentF q) ≠ fieldKey (txCounter p) ∧ fieldKey (qFillF q) ≠ fieldKey (lateCounter p) ∧
      fieldKey (qFillF q) ≠ fieldKey (qLateF q) ∧ fieldKey (qLateF q) ≠ fieldKey (lateCounter p) := by
  unfold EthernetPort at hp
  simp only [qFillF, qSentF, qLateF, txCounter, lateCounter]
  split <;> split <;>
    simp only [fieldKey, F.NET.Q_FILL, F.LRP.Q_FILL, F.NET.Q_SENT, F.LRP.Q_SENT, F.NET.Q_LATE, F.LRP.Q_LATE, F.NET.TX_FRAMES,
      F.LRP.TX_FRAMES, F.NET.LATE_DISCARDED, F.LRP.LATE_DISCARDED] <;>
    omega

theorem txCounter_width (p : Nat) : (txCounter p).width = 32 := by unfold txCounter; split <;> rfl

theorem lateCounter_width (p : Nat) : (lateCounter p).width = 32 := by unfold lateCounter; split <;> rfl

theorem qSentF_width (q : Nat) : (qSentF q).width = 32 := by unfold qSentF; split <;> rfl

theorem qLateF_width (q : Nat) : (qLateF q).width = 32 := by unfold qLateF; split <;> rfl

theorem lt_of_mem_portQueues (hp : EthernetPort p) (h : q ∈ portQueues p) : q < 48 := by
  unfold EthernetPort at hp
  unfold portQueues at h
  split at h
  · obtain ⟨k, hk, rfl⟩ := List.mem_map.1 h
    have hk8 := List.mem_range.1 (List.mem_reverse.1 hk)
    omega
  · simp only [List.mem_cons, List.not_mem_nil, or_false] at h
    omega

/-! ### The start of a frame -/

/-- A station frame is counted in STN's registers, which lie above those of the ports. -/
theorem getF_noteSent (f : TxFrame) {g : Field} (hg : fieldKey g < 0x1010018 * 32) : getF (noteSent f s) g = getF s g := by
  unfold noteSent
  split
  · extract_lets x y stn
    split
    · rfl
    · exact getF_bumpF_other _ _ _ _ (by simp only [fieldKey, F.STN.ST_OUT_FRAMES] at hg ⊢; omega)
  · rfl

theorem noteSent_net (f : TxFrame) (s : State) : (noteSent f s).net = s.net := (noteSent_moves f s).frame .net rfl

/-- The frame is taken from its queue and on the wire. -/
def frameStarted (p q : Nat) (f : TxFrame) (rest : List TxFrame) (s : State) : State :=
  putQueue q rest { s with net := { s.net with
    busyUntil := tablePut 0 s.net.busyUntil p (nowNs s 1 + wireNs s p f.bits)
    sent := s.net.sent ++ [{ port := p, queue := q, frame := f, stamp := portStamp s (portEntry p) true }] } }

theorem startFrame_eq (p q : Nat) (f : TxFrame) (rest : List TxFrame) (s : State) :
    startFrame p q f rest s = noteSent f (bumpF (qSentF q) 1 (bumpF (txCounter p) 1 (frameStarted p q f rest s))) := rfl

theorem startFrame_net (p q : Nat) (f : TxFrame) (rest : List TxFrame) (s : State) :
    (startFrame p q f rest s).net = (frameStarted p q f rest s).net := by
  rw [startFrame_eq, noteSent_net]
  rfl

theorem startFrame_counts {f : TxFrame} {rest : List TxFrame} (hp : EthernetPort p) (hq : q < 48) (wf : WellKept s) :
    getF (startFrame p q f rest s) (txCounter p) = min (getF s (txCounter p) + 1) 0xFFFFFFFF ∧
      getF (startFrame p q f rest s) (qSentF q) = min (getF s (qSentF q) + 1) 0xFFFFFFFF := by
  obtain ⟨hfillTx, hfillSent, hsentTx, -⟩ := queueFields_apart hp q
  have hwf : keysRise (frameStarted p q f rest s).regs = true := setF_keysRise _ _ _ wf.regs
  have hput : ∀ g, fieldKey (qFillF q) ≠ fieldKey g → getF (frameStarted p q f rest s) g = getF s g := fun g hg => getF_putQueue rest hg
  rw [startFrame_eq, getF_noteSent, getF_noteSent]
  · constructor
    · rw [getF_bumpF_other _ _ _ _ hsentTx, getF_bumpF_same _ _ _ (txCounter_width p) hwf, hput _ hfillTx]
    · rw [getF_bumpF_same (bumpF (txCounter p) 1 (frameStarted p q f rest s)) _ _ (qSentF_width q) (setF_keysRise _ _ _ hwf),
        getF_bumpF_other _ _ _ _ hsentTx.symm, hput _ hfillSent]
  · unfold qSentF
    split <;> simp only [fieldKey, F.NET.Q_SENT, F.LRP.Q_SENT] <;> omega
  · unfold EthernetPort at hp
    unfold txCounter
    split <;> simp only [fieldKey, F.NET.TX_FRAMES, F.LRP.TX_FRAMES] <;> omega

/-! ### The port's choice -/

theorem chooseFrame_empty {qs : List Nat} {wait : Option Nat} (h : queueOf s q = []) :
    chooseFrame p (q :: qs) wait s = chooseFrame p qs wait s := by
  rw [chooseFrame, h]
  rfl

theorem chooseFrame_allEmpty {qs : List Nat} {wait : Option Nat} (h : ∀ r ∈ qs, queueOf s r = []) : chooseFrame p qs wait s = s := by
  induction qs with
  | nil => rw [chooseFrame]
  | cons r qs ih =>
    rw [List.forall_mem_cons] at h
    rw [chooseFrame_empty h.1, ih h.2]

theorem chooseFrame_skip {hi qs : List Nat} {wait : Option Nat} (h : ∀ r ∈ hi, queueOf s r = []) :
    chooseFrame p (hi ++ qs) wait s = chooseFrame p qs wait s := by
  induction hi with
  | nil => rfl
  | cons r hi ih =>
    rw [List.forall_mem_cons] at h
    rw [List.cons_append, chooseFrame_empty h.1, ih h.2]

theorem chooseFrame_ready {qs : List Nat} {f : TxFrame} {rest : List TxFrame} (h : queueOf s q = f :: rest)
    (hready : ∀ l, f.launch = some l → l ≤ nowNs s 1 ∧ nowNs s 1 ≤ l + lateWindow p) :
    chooseFrame p (q :: qs) none s = startFrame p q f rest s := by
  rw [chooseFrame, h]
  cases hl : f.launch with
  | none => simp [hl]
  | some l =>
    obtain ⟨hdue, hintime⟩ := hready l hl
    simp [hl, hdue, Nat.not_lt.2 hintime]

theorem chooseFrame_late {qs : List Nat} {wait : Option Nat} {f : TxFrame} {l : Nat} (h : queueOf s q = [f])
    (hl : f.launch = some l) (hlate : l + lateWindow p < nowNs s 1) :
    chooseFrame p (q :: qs) wait s = chooseFrame p qs wait (discardLate p q f (putQueue q [] s)) := by
  rw [chooseFrame, h]
  simp [hl, hlate]

theorem discardLate_counts (p q : Nat) (f : TxFrame) (hapart : fieldKey (qLateF q) ≠ fieldKey (lateCounter p))
    (hs : keysRise s.regs = true) : getF (discardLate p q f s) (lateCounter p) = min (getF s (lateCounter p) + 1) 0xFFFFFFFF ∧
      getF (discardLate p q f s) (qLateF q) = min (getF s (qLateF q) + 1) 0xFFFFFFFF := by
  have heq : discardLate p q f s = emit (queueEvent q 6) q (nowNs s 1 - f.launch.getD 0) 0
      (bumpF (qLateF q) 1 (bumpF (lateCounter p) 1 s)) := rfl
  rw [heq, getF_emit, getF_emit, getF_bumpF_other _ _ _ _ hapart, getF_bumpF_same _ _ _ (lateCounter_width p) hs,
    getF_bumpF_same (bumpF (lateCounter p) 1 s) _ _ (qLateF_width q) (setF_keysRise _ _ _ hs), getF_bumpF_other _ _ _ _ hapart.symm]
  exact ⟨rfl, rfl⟩

/-- Where the one waiting frame is late, it is dropped and nothing is left to start. -/
theorem chooseFrame_onlyLate {qs : List Nat} {wait : Option Nat} {f : TxFrame} {l : Nat} (hqueues : keysRise s.net.queues = true)
    (hmem : q ∈ qs) (hempty : ∀ r ∈ qs, r ≠ q → queueOf s r = []) (h : queueOf s q = [f]) (hl : f.launch = some l)
    (hlate : l + lateWindow p < nowNs s 1) : chooseFrame p qs wait s = discardLate p q f (putQueue q [] s) := by
  induction qs with
  | nil => exact absurd hmem List.not_mem_nil
  | cons r qs ih =>
    rw [List.forall_mem_cons] at hempty
    by_cases hr : r = q
    · subst hr
      rw [chooseFrame_late h hl hlate, chooseFrame_allEmpty]
      intro x hx
      rw [queueOf_congr ((discardLate_moves ..).frame .net rfl)]
      by_cases hxr : x = r
      · rw [hxr, queueOf_putQueue_same r [] hqueues]
      · rw [queueOf_putQueue_other [] hxr, hempty.2 x hx hxr]
    · rw [chooseFrame_empty (hempty.1 hr), ih ((List.mem_cons.1 hmem).resolve_left (Ne.symm hr)) hempty.2]

/-! ### FRAME_LAUNCH -/

/-- An Ethernet port that may start a frame: its unit runs, it has link and is free. -/
def portReady (s : State) (p : Nat) : Bool := portRuns s p && portLink s p && decide (tableGet 0 s.net.busyUntil p ≤ nowNs s 1)

theorem exec_frameLaunch (hp : EthernetPort p) :
    exec (.frameLaunch p) s = .next (if portReady s p then chooseFrame p (portQueues p) none s else s) := by
  unfold EthernetPort at hp
  have hcan : (decide (16 ≤ p) && decide (p < 20)) = false := by rw [decide_eq_false (by omega), Bool.false_and]
  have hport : (decide (p < 4) || (decide (8 ≤ p) && decide (p < 16))) = true := by simpa using hp
  show execFrameLaunch p s = _
  rw [execFrameLaunch, hcan, if_neg Bool.false_ne_true, launchPort, hport, Bool.true_and]
  rfl

theorem frameLaunch_starts (wf : WellKept s) (hp : EthernetPort p) (hqueues : keysRise s.net.queues = true) {hi lo : List Nat}
    {f : TxFrame} {rest : List TxFrame} (hup : portReady s p = true) (hsplit : portQueues p = hi ++ q :: lo)
    (hempty : ∀ h ∈ hi, queueOf s h = []) (hhead : queueOf s q = f :: rest) (hbusy : keysRise s.net.busyUntil = true)
    (hready : ∀ l, f.launch = some l → l ≤ nowNs s 1 ∧ nowNs s 1 ≤ l + lateWindow p) :
    ∃ t, exec (.frameLaunch p) s = .next t ∧ queueOf t q = rest ∧ (∀ r, r ≠ q → queueOf t r = queueOf s r) ∧
      t.net.sent = s.net.sent ++ [{ port := p, queue := q, frame := f, stamp := portStamp s (portEntry p) true }] ∧
      tableGet 0 t.net.busyUntil p = nowNs s 1 + wireNs s p f.bits ∧
      getF t (txCounter p) = min (getF s (txCounter p) + 1) 0xFFFFFFFF ∧
      getF t (qSentF q) = min (getF s (qSentF q) + 1) 0xFFFFFFFF ∧ OnlyParts [.regs, .net, .stn] s t := by
  have hq : q < 48 := lt_of_mem_portQueues hp (hsplit ▸ List.mem_append_right _ List.mem_cons_self)
  obtain ⟨htx, hsent⟩ := startFrame_counts (f := f) (rest := rest) hp hq wf
  have hnet := startFrame_net p q f rest s
  refine ⟨startFrame p q f rest s, ?_, (queueOf_congr hnet q).trans (queueOf_putQueue_same q rest hqueues),
    fun r hr => (queueOf_congr hnet r).trans (queueOf_putQueue_other rest hr), ?_, ?_, htx, hsent,
    onlyParts_of_moves s _ (startFrame_moves p q f rest s) rfl⟩
  · rw [exec_frameLaunch hp, hup, if_pos rfl, hsplit, chooseFrame_skip hempty, chooseFrame_ready hhead hready]
  · rw [hnet]
    rfl
  · rw [hnet]
    exact tableGet_put_same _ _ _ _ hbusy

theorem frameLaunch_drops (wf : WellKept s) (hp : EthernetPort p) (hqueues : keysRise s.net.queues = true) {l : Nat} {f : TxFrame}
    (hup : portReady s p = true) (hmem : q ∈ portQueues p) (hhead : queueOf s q = [f])
    (hempty : ∀ r ∈ portQueues p, r ≠ q → queueOf s r = []) (hl : f.launch = some l) (hlate : l + lateWindow p < nowNs s 1) :
    ∃ t, exec (.frameLaunch p) s = .next t ∧ queueOf t q = [] ∧ t.net.sent = s.net.sent ∧
      getF t (lateCounter p) = min (getF s (lateCounter p) + 1) 0xFFFFFFFF ∧
      getF t (qLateF q) = min (getF s (qLateF q) + 1) 0xFFFFFFFF ∧ OnlyParts [.regs, .net, .cont] s t := by
  obtain ⟨-, -, -, hfillLate, hfillQ, hlateApart⟩ := queueFields_apart hp q
  have hput : keysRise (putQueue q [] s).regs = true := setF_keysRise _ _ _ wf.regs
  have hmoves : Moves 0x208002 s (discardLate p q f (putQueue q [] s)) :=
    moves_step (discardLate_moves ..) rfl (moves_step (putQueue_moves ..) rfl moves_refl)
  have hnet : (discardLate p q f (putQueue q [] s)).net = (putQueue q [] s).net := (discardLate_moves ..).frame .net rfl
  refine ⟨discardLate p q f (putQueue q [] s), ?_, ?_, (congrArg NetPart.sent hnet).trans rfl, ?_, ?_, onlyParts_of_moves s _ hmoves rfl⟩
  · rw [exec_frameLaunch hp, hup, if_pos rfl, chooseFrame_onlyLate hqueues hmem hempty hhead hl hlate]
  · rw [queueOf_congr hnet, queueOf_putQueue_same q [] hqueues]
  · rw [(discardLate_counts p q f hlateApart hput).1, getF_putQueue [] hfillLate]
  · rw [(discardLate_counts p q f hlateApart hput).2, getF_putQueue [] hfillQ]

/-! ### A CAN port -/

theorem canPort_updPort {c : Nat} (g : CanPort → CanPort) (hc : c < 4) (wf : WellKept s) : canPort (updPort c g s) c = g (canPort s c) := by
  have hlen : c < s.can.ports.length := by rw [wf.ports]; exact hc
  simp [canPort, updPort, listUpd, List.getD_eq_getElem?_getD, hlen]

theorem exec_frameLaunch_can {c : Nat} (hc : c < 4) : exec (.frameLaunch (16 + c)) s = .next (canLaunch c s) := by
  show execFrameLaunch (16 + c) s = _
  rw [execFrameLaunch, Nat.add_sub_cancel_left, decide_eq_true (by omega), decide_eq_true (by omega)]
  rfl

theorem offerCan_host {c : Nat} {g : CanPortCfg} {h : HostMessage} {rest : List HostMessage} (htt : g.tt = false)
    (hmode : canMode s c = 1) (herror : canError s c < 2) (hwire : (canPort s c).onWire = none)
    (hmust : (canPort s c).mustFirst = none) (hperiodic : (canPort s c).periodic = []) (hhost : (canPort s c).host = h :: rest)
    (hdue : h.launch ≤ nowNs s 1) : offerCan c g s = startCan c g .host none s := by
  have hheads : arbHeads s c g true = [(arbKey (h.id % 2 ^ 29) (h.ctrl / 64 % 2 == 1), .host)] := by
    simp [arbHeads, offerOf, hperiodic, hhost, hdue]
  have hbusy : (decide (canMode s c ≠ 1) || decide (canError s c ≥ 2) || (canPort s c).onWire.isSome) = false := by
    rw [hmode, hwire, decide_eq_false (Nat.not_le.2 herror)]
    rfl
  rw [offerCan]
  dsimp only
  rw [hbusy, hmust, htt, hheads]
  rfl

theorem startCan_host {c : Nat} {g : CanPortCfg} {h : HostMessage} {rest : List HostMessage}
    (hmust : (canPort s c).mustFirst = none) (hhost : (canPort s c).host = h :: rest) :
    ∃ w : CanTx, w.source = .host ∧ w.data = h.data ∧
      startCan c g .host none s = updPort c (fun q => { q with onWire := some w, attempted := true }) s := by
  have hoffer : offerOf s c g .host = some (h.id % 2 ^ 29, h.ctrl / 64 % 2 == 1, h.ctrl / 16 % 2 == 1, h.ctrl / 32 % 2 == 1,
      h.ctrl % 16, h.data, h.launch) := by
    rw [offerOf, hhost]
    rfl
  rw [startCan, hoffer, hmust]
  exact ⟨_, rfl, rfl, rfl⟩

theorem canLaunch_sends {c : Nat} {g : CanPortCfg} {h : HostMessage} {rest : List HostMessage} (wf : WellKept s) (hc : c < 4)
    (hcfg : canCfg s c = some g) (htt : g.tt = false) (hruns : canRuns s = true) (hlive : inState s .live = true)
    (hmode : canMode s c = 1) (herror : canError s c < 2) (hwire : (canPort s c).onWire = none)
    (hmust : (canPort s c).mustFirst = none) (hperiodic : (canPort s c).periodic = []) (hhost : (canPort s c).host = h :: rest)
    (hdue : h.launch ≤ nowNs s 1) :
    ∃ t w, exec (.frameLaunch (16 + c)) s = .next t ∧ (canPort t c).onWire = some w ∧ w.source = .host ∧ w.data = h.data ∧
      OnlyParts [.can] s t := by
  obtain ⟨w, hsource, hdata, hstart⟩ := startCan_host (g := g) hmust hhost
  refine ⟨updPort c (fun q => { q with onWire := some w, attempted := true }) s, w, ?_, ?_, hsource, hdata,
    onlyParts_of_moves s _ (updPort_moves ..) rfl⟩
  · rw [exec_frameLaunch_can hc, canLaunch, hcfg]
    dsimp only
    rw [hruns, hlive, offerCan_host htt hmode herror hwire hmust hperiodic hhost hdue, hstart]
    rfl
  · rw [canPort_updPort _ hc wf]

theorem canLaunch_outside {c : Nat} (hc : c < 4) (hlive : inState s .live = false) :
    exec (.frameLaunch (16 + c)) s = .next s := by
  rw [exec_frameLaunch_can hc, canLaunch]
  split
  · rw [hlive, Bool.and_false]
    rfl
  · rfl

end Sys2Proof.Machine
end

section
/-! The statement about the start of frames. -/

namespace Sys2Proof.Certificates

open Sys2Proof Sys2Proof.Machine

/-- Settles O48: the choice over the queues of an Ethernet port skips those that are empty, and a CAN port without a schedule
matrix offers the head of its host queue. -/
theorem framesLaunchHighestFirst : Obligations.FramesLaunchHighestFirst := by
  intro p s wf hp hqueues
  refine ⟨fun hi lo q f rest hup hsplit hempty hhead hbusy hready _ =>
      frameLaunch_starts wf hp hqueues hup hsplit hempty hhead hbusy hready,
    fun q l f hup hmem hhead hempty hl hlate => frameLaunch_drops wf hp hqueues hup hmem hhead hempty hl hlate, fun hdown => ?_,
    fun c g h rest hc hcfg htt hruns hlive hmode herror hwire hmust hperiodic hhost hdue =>
      canLaunch_sends wf hc hcfg htt hruns hlive hmode herror hwire hmust hperiodic hhost hdue,
    fun c hc hlive => canLaunch_outside hc hlive⟩
  rw [exec_frameLaunch hp, show portReady s p = false from hdown]
  rfl

end Sys2Proof.Certificates
end

section
/-! SUPPORT. Frames received, and the two copies of a numbered datagram (R351, R352, R354); supervision and Pdelay frames. -/

namespace Sys2Proof.Machine

open Sys2Proof

variable {s t : State} {k : Nat} {f : RxFrame}

/-! ### Frames that are let in -/

/-- On the backbone only the NETWORK and STATION sections decide whether a frame is among those received. -/
theorem frameSupported_bumpF_net (hport : f.port < 4) (g : Field) (n : Nat) :
    frameSupported (bumpF g n s) f = frameSupported s f := by
  unfold frameSupported
  split
  · rfl
  · rfl
  · simp only [hport, if_true]
    rfl
  · rfl

/-- A frame that is not among those received is counted as dropped. -/
def frameDropped (f : RxFrame) (s : State) : State :=
  bumpF (F.NET.RX_DROPPED f.port) 1 { s with net := { s.net with drops := listUpd 0 s.net.drops f.port (fun n => n + 1) } }

theorem exec_backboneFrameRx_unsupported (hport : f.port < 4) (hruns : netRuns s = true) (hlink : portLink s f.port = true)
    (hsupported : frameSupported s f = false) :
    exec (.backboneFrameRx f) s = .next (frameDropped f (bumpF (F.NET.RX_FRAMES f.port) 1 s)) := by
  show execBackboneFrameRx f s = _
  rw [execBackboneFrameRx, if_pos hport, hruns, hlink, if_neg (by decide)]
  exact if_pos (by rw [frameSupported_bumpF_net hport, hsupported]; rfl)

theorem exec_backboneFrameRx_numbered {a b c : Nat} {r : RctTrailer} (hport : f.port < 4) (hruns : netRuns s = true)
    (hlink : portLink s f.port = true) (hsupported : frameSupported s f = true) (hkind : f.kind = .datagram a b c)
    (htrailer : f.trailer = some r) :
    exec (.backboneFrameRx f) s = .next (prpReceive f r (bumpF (F.NET.RX_FRAMES f.port) 1 s)) := by
  show execBackboneFrameRx f s = _
  rw [execBackboneFrameRx, if_pos hport, hruns, hlink, if_neg (by decide)]
  refine (if_neg (by rw [frameSupported_bumpF_net hport, hsupported]; decide)).trans ?_
  rw [hkind, htrailer]

/-- A frame that carries no number, or is of PTP, shows the node of a supervision frame and does no more. -/
theorem exec_backboneFrameRx_plain (hport : f.port < 4) (hruns : netRuns s = true) (hlink : portLink s f.port = true)
    (hsupported : frameSupported s f = true) (hplain : f.trailer = none ∨ f.kind = .ptp) :
    (∃ node, f.kind = .supervision node ∧
      exec (.backboneFrameRx f) s = .next (seeNode (f.port / 2) node (bumpF (F.NET.RX_FRAMES f.port) 1 s))) ∨
    ((∀ node, f.kind ≠ .supervision node) ∧ exec (.backboneFrameRx f) s = .next (bumpF (F.NET.RX_FRAMES f.port) 1 s)) := by
  have hexec : exec (.backboneFrameRx f) s = execBackboneFrameRx f s := rfl
  have hlet : (!frameSupported (bumpF (F.NET.RX_FRAMES f.port) 1 s) f) = false := by
    rw [frameSupported_bumpF_net hport, hsupported]
    rfl
  rw [hexec, execBackboneFrameRx, if_pos hport, hruns, hlink, if_neg (by decide)]
  dsimp only
  rw [hlet, if_neg Bool.false_ne_true]
  cases hkind : f.kind with
  | supervision node =>
    obtain hnone := hplain.resolve_right (by simp [hkind])
    exact Or.inl ⟨node, rfl, by rw [hnone]⟩
  | ptp => exact Or.inr ⟨by simp, rfl⟩
  | datagram a b c =>
    obtain hnone := hplain.resolve_right (by simp [hkind])
    exact Or.inr ⟨by simp, by rw [hnone]⟩
  | unsupported =>
    obtain hnone := hplain.resolve_right (by simp [hkind])
    exact Or.inr ⟨by simp, by rw [hnone]⟩

theorem backbone_unsupported (wf : WellKept s) (hport : f.port < 4) (hruns : netRuns s = true) (hlink : portLink s f.port = true)
    (hsupported : frameSupported s f = false) : ∃ t, exec (.backboneFrameRx f) s = .next t ∧
      getF t (F.NET.RX_FRAMES f.port) = min (getF s (F.NET.RX_FRAMES f.port) + 1) 0xFFFFFFFF ∧
      getF t (F.NET.RX_DROPPED f.port) = min (getF s (F.NET.RX_DROPPED f.port) + 1) 0xFFFFFFFF ∧
      t.net = { s.net with drops := s.net.drops.set f.port (s.net.drops.getD f.port 0 + 1) } ∧ OnlyParts [.regs, .net] s t ∧
      OnlyFields [F.NET.RX_FRAMES f.port, F.NET.RX_DROPPED f.port] s t := by
  have hexec := exec_backboneFrameRx_unsupported hport hruns hlink hsupported
  have hapart : fieldKey (F.NET.RX_DROPPED f.port) ≠ fieldKey (F.NET.RX_FRAMES f.port) := by
    simp only [fieldKey, F.NET.RX_DROPPED, F.NET.RX_FRAMES]
    omega
  have hregs : keysRise (bumpF (F.NET.RX_FRAMES f.port) 1 s).regs = true := setF_keysRise _ _ _ wf.regs
  refine ⟨_, hexec, ?_, ?_, rfl, exec_onlyParts hexec, ?_⟩
  · exact (getF_bumpF_other _ _ _ _ hapart).trans (getF_bumpF_same s _ _ rfl wf.regs)
  · rw [← getF_bumpF_other (s := s) (F.NET.RX_FRAMES f.port) _ 1 hapart.symm]
    exact getF_bumpF_same _ _ _ rfl hregs
  · exact onlyFields_bumpF (by simp) (onlyFields_trans (t := bumpF (F.NET.RX_FRAMES f.port) 1 s)
      (onlyFields_bumpF (by simp) onlyFields_refl) onlyFields_refl)

/-! ### Nodes of a pair -/

theorem seeNode_nodes (k node : Nat) (s : State) :
    ∃ n ∈ (seeNode k node s).net.nodes, n.pair = k ∧ n.node = node ∧ n.atNs = nowNs s 0 :=
  ⟨{ pair := k, node := node, atNs := nowNs s 0 }, List.mem_append_right _ (List.mem_singleton.2 rfl), rfl, rfl, rfl⟩

theorem seeNode_entries (k node : Nat) (s : State) : (seeNode k node s).net.entries = s.net.entries := rfl

theorem seeNode_onlyFields (k node : Nat) (s : State) : OnlyFields [F.NET.PRP_NODES k] s (seeNode k node s) :=
  fun _ hg => getF_setF_other _ _ _ _ (hg _ List.mem_cons_self)

/-- The registers of a pair's PRP counters lie above those of the ports. -/
theorem rxFrames_below {p : Nat} (hp : p < 4) (k : Nat) :
    fieldKey (F.NET.PRP_NODES k) ≠ fieldKey (F.NET.RX_FRAMES p) ∧ fieldKey (F.NET.PRP_DUPLICATE k) ≠ fieldKey (F.NET.RX_FRAMES p) ∧
      fieldKey (F.NET.PRP_UNIQUE k) ≠ fieldKey (F.NET.RX_FRAMES p) ∧ fieldKey (F.NET.PRP_WRONG_LAN k) ≠ fieldKey (F.NET.RX_FRAMES p) := by
  simp only [fieldKey, F.NET.PRP_NODES, F.NET.PRP_DUPLICATE, F.NET.PRP_UNIQUE, F.NET.PRP_WRONG_LAN, F.NET.RX_FRAMES]
  omega

/-! ### Duplicate discard -/

/-- The pair, source and number of a numbered datagram. -/
def SameNumber (f : RxFrame) (r : RctTrailer) (e : PrpEntry) : Prop :=
  e.pair = f.port / 2 ∧ e.source = f.source ∧ e.sequence = r.sequence

/-- An entry that leaves the window of 64 numbers behind the newest. -/
def leftBehind (f : RxFrame) (r : RctTrailer) (e : PrpEntry) : Bool :=
  e.source == f.source &&
    (let d := (r.sequence + 65536 - e.sequence % 65536) % 65536
     decide (64 ≤ d) && decide (d < 32768))

/-- What a numbered datagram has done before its copy is looked for. -/
def numberSeen (f : RxFrame) (r : RctTrailer) (s : State) : State :=
  seeNode (f.port / 2) f.source (dropEntries (f.port / 2) (leftBehind f r)
    (if r.lanB == (f.port % 2 == 1) then s else bumpF (F.NET.PRP_WRONG_LAN (f.port / 2)) 1 s))

theorem dropEntries_entries (k : Nat) (gone : PrpEntry → Bool) (s : State) :
    (dropEntries k gone s).net.entries = s.net.entries.filter (fun e => !(e.pair == k && gone e)) := rfl

theorem dropEntries_onlyFields (k : Nat) (gone : PrpEntry → Bool) (s : State) :
    OnlyFields [F.NET.PRP_UNIQUE k] s (dropEntries k gone s) :=
  fun _ hg => getF_setF_other _ _ _ _ (hg _ List.mem_cons_self)

/-- The fields that a numbered datagram writes before its copy is looked for. -/
theorem numberSeen_onlyFields (f : RxFrame) (r : RctTrailer) (s : State) :
    OnlyFields [F.NET.PRP_NODES (f.port / 2), F.NET.PRP_UNIQUE (f.port / 2), F.NET.PRP_WRONG_LAN (f.port / 2)] s (numberSeen f r s) :=
  onlyFields_trans (onlyFields_trans (onlyFields_ite onlyFields_refl (onlyFields_bumpF (by simp) onlyFields_refl))
    (onlyFields_mono (dropEntries_onlyFields _ _ _) (by simp))) (onlyFields_mono (seeNode_onlyFields _ _ _) (by simp))

theorem sameNumber_stays {r : RctTrailer} {e : PrpEntry} (hr : r.sequence < 65536) (h : SameNumber f r e) :
    e ∈ (numberSeen f r s).net.entries ↔ e ∈ s.net.entries := by
  obtain ⟨hpair, hsource, hseq⟩ := h
  have hkept : leftBehind f r e = false := by
    rw [leftBehind, hseq, Nat.mod_eq_of_lt hr, Nat.add_sub_cancel_left]
    simp
  have hentries : (numberSeen f r s).net.entries =
      s.net.entries.filter (fun e => !(e.pair == f.port / 2 && leftBehind f r e)) := by
    rw [numberSeen, seeNode_entries, dropEntries_entries]
    split <;> rfl
  rw [hentries, List.mem_filter, hkept, Bool.and_false]
  simp

theorem numberSeen_moves (f : RxFrame) (r : RctTrailer) (s : State) : Moves 0x8002 s (numberSeen f r s) :=
  moves_step (seeNode_moves ..) rfl (moves_step (dropEntries_moves ..) rfl
    (moves_ite moves_refl (moves_step (bumpF_moves ..) rfl moves_refl)))

theorem numberSeen_nodes (f : RxFrame) (r : RctTrailer) (s : State) :
    ∃ n ∈ (numberSeen f r s).net.nodes, n.pair = f.port / 2 ∧ n.node = f.source ∧ n.atNs = nowNs s 0 := by
  obtain ⟨n, hn, hpair, hnode, hat⟩ := seeNode_nodes (f.port / 2) f.source (dropEntries (f.port / 2) (leftBehind f r)
    (if r.lanB == (f.port % 2 == 1) then s else bumpF (F.NET.PRP_WRONG_LAN (f.port / 2)) 1 s))
  refine ⟨n, hn, hpair, hnode, hat.trans ?_⟩
  split <;> rfl

theorem prpReceive_eq (f : RxFrame) (r : RctTrailer) (s : State) : prpReceive f r s =
    (let u := numberSeen f r s
     let same := fun (e : PrpEntry) => e.pair == f.port / 2 && e.source == f.source && e.sequence == r.sequence
     if u.net.entries.any same then bumpF (F.NET.PRP_DUPLICATE (f.port / 2)) 1
        { u with net := { u.net with entries := u.net.entries.map (fun e => if same e then { e with twice := true } else e) } }
     else { u with net := { u.net with
        entries := u.net.entries ++ [{ pair := f.port / 2, source := f.source, sequence := r.sequence, atNs := nowNs u 0 }] } }) := rfl

theorem prpReceive_shows {r : RctTrailer} (wf : WellKept s) (hport : f.port < 4) (hr : r.sequence < 65536) :
    getF (prpReceive f r s) (F.NET.RX_FRAMES f.port) = getF s (F.NET.RX_FRAMES f.port) ∧
      (∃ e ∈ (prpReceive f r s).net.entries, SameNumber f r e) ∧
      (∃ n ∈ (prpReceive f r s).net.nodes, n.pair = f.port / 2 ∧ n.node = f.source ∧ n.atNs = nowNs s 0) ∧
      ((∃ e ∈ s.net.entries, SameNumber f r e) → getF (prpReceive f r s) (F.NET.PRP_DUPLICATE (f.port / 2)) =
        min (getF s (F.NET.PRP_DUPLICATE (f.port / 2)) + 1) 0xFFFFFFFF) ∧
      ((¬ ∃ e ∈ s.net.entries, SameNumber f r e) → getF (prpReceive f r s) (F.NET.PRP_DUPLICATE (f.port / 2)) =
        getF s (F.NET.PRP_DUPLICATE (f.port / 2))) := by
  obtain ⟨hnodes, hduplicate, hunique, hlan⟩ := rxFrames_below hport (f.port / 2)
  have hseen := numberSeen_onlyFields f r s
  have hframes : getF (numberSeen f r s) (F.NET.RX_FRAMES f.port) = getF s (F.NET.RX_FRAMES f.port) :=
    hseen _ (by simp [hnodes, hunique, hlan])
  have hcount : getF (numberSeen f r s) (F.NET.PRP_DUPLICATE (f.port / 2)) = getF s (F.NET.PRP_DUPLICATE (f.port / 2)) := by
    refine hseen _ ?_
    simp only [List.forall_mem_cons, fieldKey, F.NET.PRP_NODES, F.NET.PRP_DUPLICATE, F.NET.PRP_UNIQUE, F.NET.PRP_WRONG_LAN]
    exact ⟨by omega, by omega, by omega, by simp⟩
  have hwf : WellKept (numberSeen f r s) := (numberSeen_moves f r s).form wf
  have hmem : (∃ e ∈ (numberSeen f r s).net.entries, SameNumber f r e) ↔ ∃ e ∈ s.net.entries, SameNumber f r e :=
    ⟨fun ⟨e, he, h⟩ => ⟨e, (sameNumber_stays hr h).1 he, h⟩, fun ⟨e, he, h⟩ => ⟨e, (sameNumber_stays hr h).2 he, h⟩⟩
  have hseenNodes := numberSeen_nodes f r s
  rw [prpReceive_eq, ← hmem]
  generalize numberSeen f r s = u at hframes hcount hwf hseenNodes ⊢
  have hany : (u.net.entries.any fun e => e.pair == f.port / 2 && e.source == f.source && e.sequence == r.sequence) = true ↔
      ∃ e ∈ u.net.entries, SameNumber f r e := by
    simp [SameNumber, List.any_eq_true, and_assoc]
  dsimp only
  by_cases hold : ∃ e ∈ u.net.entries, SameNumber f r e
  · rw [if_pos (hany.2 hold)]
    obtain ⟨e, he, hpair, hsource, hseq⟩ := hold
    refine ⟨(getF_bumpF_other _ _ _ _ hduplicate).trans hframes, ⟨{ e with twice := true }, List.mem_map.2 ⟨e, he, ?_⟩, hpair, hsource, hseq⟩,
      hseenNodes, fun _ => ?_, fun hnone => absurd ⟨e, he, hpair, hsource, hseq⟩ hnone⟩
    · rw [if_pos (by simp [hpair, hsource, hseq])]
    · rw [← hcount]
      exact getF_bumpF_same _ _ _ rfl hwf.regs
  · rw [if_neg (fun h => hold (hany.1 h))]
    exact ⟨hframes, ⟨_, List.mem_append_right _ (List.mem_singleton.2 rfl), rfl, rfl, rfl⟩, hseenNodes,
      fun h => absurd h hold, fun _ => hcount⟩

theorem backbone_numbered {a b c : Nat} {r : RctTrailer} (wf : WellKept s) (hport : f.port < 4) (hruns : netRuns s = true)
    (hlink : portLink s f.port = true) (hsupported : frameSupported s f = true) (hkind : f.kind = .datagram a b c)
    (htrailer : f.trailer = some r) (hr : r.sequence < 65536) :
    ∃ t, exec (.backboneFrameRx f) s = .next t ∧
      getF t (F.NET.RX_FRAMES f.port) = min (getF s (F.NET.RX_FRAMES f.port) + 1) 0xFFFFFFFF ∧ OnlyParts [.regs, .net] s t ∧
      (∃ e ∈ t.net.entries, SameNumber f r e) ∧ (∃ n ∈ t.net.nodes, n.pair = f.port / 2 ∧ n.node = f.source ∧ n.atNs = nowNs s 0) ∧
      ((∃ e ∈ s.net.entries, SameNumber f r e) →
        getF t (F.NET.PRP_DUPLICATE (f.port / 2)) = min (getF s (F.NET.PRP_DUPLICATE (f.port / 2)) + 1) 0xFFFFFFFF) ∧
      ((¬ ∃ e ∈ s.net.entries, SameNumber f r e) →
        getF t (F.NET.PRP_DUPLICATE (f.port / 2)) = getF s (F.NET.PRP_DUPLICATE (f.port / 2))) := by
  have hexec := exec_backboneFrameRx_numbered hport hruns hlink hsupported hkind htrailer
  obtain ⟨hframes, hentry, hnode, htwice, honce⟩ := prpReceive_shows (r := r) (f := f)
    (bumpF_moves (F.NET.RX_FRAMES f.port) 1 s |>.form wf) hport hr
  have hcount : getF (bumpF (F.NET.RX_FRAMES f.port) 1 s) (F.NET.PRP_DUPLICATE (f.port / 2)) =
      getF s (F.NET.PRP_DUPLICATE (f.port / 2)) := getF_bumpF_other _ _ _ _ (rxFrames_below hport _).2.1.symm
  rw [hcount] at htwice honce
  exact ⟨_, hexec, hframes.trans (getF_bumpF_same _ _ _ rfl wf.regs), exec_onlyParts hexec, hentry, hnode, htwice, honce⟩

theorem backbone_plain (wf : WellKept s) (hport : f.port < 4) (hruns : netRuns s = true) (hlink : portLink s f.port = true)
    (hsupported : frameSupported s f = true) (hplain : f.trailer = none ∨ f.kind = .ptp) :
    ∃ t, exec (.backboneFrameRx f) s = .next t ∧ OnlyParts [.regs, .net] s t ∧
      getF t (F.NET.RX_FRAMES f.port) = min (getF s (F.NET.RX_FRAMES f.port) + 1) 0xFFFFFFFF ∧
      (∀ node, f.kind = .supervision node → ∃ n ∈ t.net.nodes, n.pair = f.port / 2 ∧ n.node = node ∧ n.atNs = nowNs s 0) ∧
      t.net.entries = s.net.entries := by
  have hcount := getF_bumpF_same s (F.NET.RX_FRAMES f.port) 1 rfl wf.regs
  rcases exec_backboneFrameRx_plain hport hruns hlink hsupported hplain with ⟨node, hkind, hexec⟩ | ⟨hkind, hexec⟩
  · refine ⟨_, hexec, exec_onlyParts hexec, (seeNode_onlyFields _ _ _ _ ?_).trans hcount, fun x hx => ?_, rfl⟩
    · simp [(rxFrames_below hport _).1]
    · obtain rfl : node = x := RxKind.supervision.inj (hkind.symm.trans hx)
      exact seeNode_nodes _ _ _
  · exact ⟨_, hexec, exec_onlyParts hexec, hcount, fun x hx => absurd hx (hkind x), rfl⟩

theorem backbone_down (hport : f.port < 4) (hdown : netRuns s = false ∨ portLink s f.port = false) :
    exec (.backboneFrameRx f) s = .next s := by
  show execBackboneFrameRx f s = _
  rw [execBackboneFrameRx, if_pos hport]
  exact if_pos (by rcases hdown with h | h <;> simp [h])

/-! ### Long-reach ports -/

theorem macOf_bumpF_lrp (l n k : Nat) : macOf (bumpF (F.LRP.RX_FRAMES l) n s) k = macOf s k := by
  have hlo : getF (bumpF (F.LRP.RX_FRAMES l) n s) F.NET.MAC_BASE_LO = getF s F.NET.MAC_BASE_LO :=
    getF_bumpF_other _ _ _ _ (by simp only [fieldKey, F.LRP.RX_FRAMES, F.NET.MAC_BASE_LO]; omega)
  have hhi : getF (bumpF (F.LRP.RX_FRAMES l) n s) F.NET.MAC_BASE_HI = getF s F.NET.MAC_BASE_HI :=
    getF_bumpF_other _ _ _ _ (by simp only [fieldKey, F.LRP.RX_FRAMES, F.NET.MAC_BASE_HI]; omega)
  rw [macOf, macOf, hlo, hhi]

theorem frameSupported_bumpF_lrp (l n : Nat) : frameSupported (bumpF (F.LRP.RX_FRAMES l) n s) f = frameSupported s f := by
  unfold frameSupported
  split
  · rfl
  · rfl
  · simp only [macOf_bumpF_lrp]
    rfl
  · rfl

theorem longReach_counts (wf : WellKept s) (hlow : 8 ≤ f.port) (hhigh : f.port < 16) (hruns : lrpRuns s = true)
    (hlink : portLink s f.port = true) :
    ∃ t, exec (.backboneFrameRx f) s = .next t ∧
      getF t (F.LRP.RX_FRAMES (f.port - 8)) = min (getF s (F.LRP.RX_FRAMES (f.port - 8)) + 1) 0xFFFFFFFF ∧
      getF t (F.LRP.RX_DROPPED (f.port - 8)) = (if frameSupported s f then getF s (F.LRP.RX_DROPPED (f.port - 8))
        else min (getF s (F.LRP.RX_DROPPED (f.port - 8)) + 1) 0xFFFFFFFF) ∧
      OnlyParts [.regs] s t ∧ OnlyFields [F.LRP.RX_FRAMES (f.port - 8), F.LRP.RX_DROPPED (f.port - 8)] s t := by
  have hexec : exec (.backboneFrameRx f) s = .next (if frameSupported s f then bumpF (F.LRP.RX_FRAMES (f.port - 8)) 1 s
      else bumpF (F.LRP.RX_DROPPED (f.port - 8)) 1 (bumpF (F.LRP.RX_FRAMES (f.port - 8)) 1 s)) := by
    show execBackboneFrameRx f s = _
    rw [execBackboneFrameRx, if_neg (by omega), decide_eq_true hlow, decide_eq_true hhigh, hruns, hlink,
      ← frameSupported_bumpF_lrp (f.port - 8) 1]
    exact if_pos rfl
  have hapart : fieldKey (F.LRP.RX_DROPPED (f.port - 8)) ≠ fieldKey (F.LRP.RX_FRAMES (f.port - 8)) := by
    simp only [fieldKey, F.LRP.RX_DROPPED, F.LRP.RX_FRAMES]
    omega
  have hcount := getF_bumpF_same s (F.LRP.RX_FRAMES (f.port - 8)) 1 rfl wf.regs
  have hfirst : OnlyFields [F.LRP.RX_FRAMES (f.port - 8), F.LRP.RX_DROPPED (f.port - 8)] s (bumpF (F.LRP.RX_FRAMES (f.port - 8)) 1 s) :=
    onlyFields_bumpF (by simp) onlyFields_refl
  have hmoves : Moves 0x2 s (bumpF (F.LRP.RX_FRAMES (f.port - 8)) 1 s) := bumpF_moves ..
  have hkept : getF (bumpF (F.LRP.RX_FRAMES (f.port - 8)) 1 s) (F.LRP.RX_DROPPED (f.port - 8)) = getF s (F.LRP.RX_DROPPED (f.port - 8)) :=
    getF_bumpF_other _ _ _ _ hapart.symm
  generalize bumpF (F.LRP.RX_FRAMES (f.port - 8)) 1 s = u at hexec hcount hfirst hmoves hkept
  refine ⟨_, hexec, ?_⟩
  cases frameSupported s f
  · exact ⟨(getF_bumpF_other _ _ _ _ hapart).trans hcount, (getF_bumpF_same _ _ _ rfl (hmoves.form wf).regs).trans (by rw [hkept]; rfl),
      onlyParts_of_moves s _ (moves_step (bumpF_moves ..) rfl hmoves) rfl, onlyFields_bumpF (by simp) hfirst⟩
  · exact ⟨hcount, hkept, onlyParts_of_moves s _ hmoves rfl, hfirst⟩

/-! ### Supervision frames -/

/-- The supervision frame of a pair under a trailer number. -/
def lifeFrame (n : Nat) : TxFrame := { body := .supervision, bits := supervisionBits, trailer := some n }

/-- A pair's numbers after a supervision frame: the next trailer number, and the instant of the last frame. -/
def lifeNumbered (k : Nat) (s : State) : State :=
  { s with net := { s.net with
      lastLife := listPut s.net.lastLife k (nowNs s 0)
      trailerSeq := listPut s.net.trailerSeq k ((s.net.trailerSeq.getD k 0 + 1) % 2 ^ 16) } }

/-- The supervision frame goes into the queues of both ports. -/
def lifeSent (k : Nat) (s : State) : State :=
  putQueue (16 * k + 12) (queueOf s (16 * k + 12) ++ [lifeFrame (s.net.trailerSeq.getD k 0)])
    (putQueue (16 * k + 4) (queueOf s (16 * k + 4) ++ [lifeFrame (s.net.trailerSeq.getD k 0)]) (lifeNumbered k s))

theorem queueDepth_prp {q : Nat} (hq : q < 32) (h4 : q % 8 = 4) : queueDepth q = 16 := by simp [queueDepth, hq, h4]

theorem exec_prpSupervisionSend (hk : k < 2) (hdue : (netRuns s && flag s (F.NET.PORT_STATE_USED (2 * k)) &&
      decide (s.net.lastLife.getD k 0 + (netCfg s).lifeCheckMs * 1000000 ≤ nowNs s 0)) = true)
    (hroom : (queueOf s (16 * k + 4)).length < 16) (hroom' : (queueOf s (16 * k + 12)).length < 16) :
    exec (.prpSupervisionSend k) s = .next (lifeSent k s) := by
  have hfirst : (enqueue (16 * k + 4) (lifeFrame (s.net.trailerSeq.getD k 0)) (lifeNumbered k s)).1 =
      putQueue (16 * k + 4) (queueOf s (16 * k + 4) ++ [lifeFrame (s.net.trailerSeq.getD k 0)]) (lifeNumbered k s) :=
    enqueue_taken (by rw [queueDepth_prp (by omega) (by omega)]; exact hroom) rfl
  have hother : queueOf (putQueue (16 * k + 4) (queueOf s (16 * k + 4) ++ [lifeFrame (s.net.trailerSeq.getD k 0)]) (lifeNumbered k s))
      (16 * k + 12) = queueOf s (16 * k + 12) := queueOf_putQueue_other _ (by omega)
  show execPrpSupervisionSend k s = _
  refine congrArg _ ((if_pos ?_).trans ?_)
  · simpa [hk] using hdue
  · show (enqueue (16 * k + 8 + 4) (lifeFrame (s.net.trailerSeq.getD k 0))
      (enqueue (16 * k + 4) (lifeFrame (s.net.trailerSeq.getD k 0)) (lifeNumbered k s)).1).1 = _
    rw [hfirst, enqueue_taken (by rw [hother, queueDepth_prp (by omega) (by omega)]; exact hroom') rfl, hother]
    rfl

theorem prpSupervision_sends (hk : k < 2) (hqueues : keysRise s.net.queues = true)
    (hseq : s.net.trailerSeq.length = 2) (hlife : s.net.lastLife.length = 2)
    (hdue : (netRuns s && flag s (F.NET.PORT_STATE_USED (2 * k)) &&
      decide (s.net.lastLife.getD k 0 + (netCfg s).lifeCheckMs * 1000000 ≤ nowNs s 0)) = true)
    (hroom : (queueOf s (16 * k + 4)).length < 16) (hroom' : (queueOf s (16 * k + 12)).length < 16) :
    ∃ t, exec (.prpSupervisionSend k) s = .next t ∧ OnlyParts [.regs, .net] s t ∧
      (∀ q, q = 16 * k + 4 ∨ q = 16 * k + 12 → queueOf t q = queueOf s q ++
        [{ body := .supervision, bits := supervisionBits, trailer := some (s.net.trailerSeq.getD k 0) }]) ∧
      (∀ q, q ≠ 16 * k + 4 → q ≠ 16 * k + 12 → queueOf t q = queueOf s q) ∧
      t.net.trailerSeq[k]? = some ((s.net.trailerSeq.getD k 0 + 1) % 65536) ∧ t.net.lastLife[k]? = some (nowNs s 0) := by
  have hfirst : keysRise (putQueue (16 * k + 4) (queueOf s (16 * k + 4) ++ [lifeFrame (s.net.trailerSeq.getD k 0)])
      (lifeNumbered k s)).net.queues = true := putQueue_queuesRise _ _ hqueues
  refine ⟨lifeSent k s, exec_prpSupervisionSend hk hdue hroom hroom', ?_, ?_, ?_, ?_, ?_⟩
  · have hparts := exec_onlyParts (exec_prpSupervisionSend hk hdue hroom hroom')
    intro p hp
    by_cases hcont : p = .cont
    · subst hcont
      rfl
    · exact hparts p (by simpa [touches, hcont] using hp)
  · rintro q (rfl | rfl)
    · exact (queueOf_putQueue_other _ (by omega)).trans (queueOf_putQueue_same _ _ hqueues)
    · exact queueOf_putQueue_same _ _ hfirst
  · intro q h4 h12
    exact (queueOf_putQueue_other _ h12).trans ((queueOf_putQueue_other _ h4).trans rfl)
  · exact List.getElem?_set_self (by omega)
  · exact List.getElem?_set_self (by omega)

theorem prpSupervision_early (hdue : (netRuns s && flag s (F.NET.PORT_STATE_USED (2 * k)) &&
      decide (s.net.lastLife.getD k 0 + (netCfg s).lifeCheckMs * 1000000 ≤ nowNs s 0)) = false) :
    exec (.prpSupervisionSend k) s = .next s := by
  show execPrpSupervisionSend k s = _
  refine congrArg _ (if_neg ?_)
  rw [Bool.and_assoc, Bool.and_assoc, ← Bool.and_assoc (netRuns s)]
  rw [show (netRuns s && flag s (F.NET.PORT_STATE_USED (2 * k)) && _) = _ from hdue, Bool.and_false]
  decide

theorem prpNodeForget_forgets (hk : k < 2) :
    ∃ t, exec (.prpNodeForget k) s = .next t ∧ OnlyParts [.regs, .net] s t ∧ t.net.queues = s.net.queues ∧
      (∀ e, e ∈ t.net.nodes ↔ e ∈ s.net.nodes ∧ (e.pair = k → nowNs s 0 < e.atNs + 60000000000)) ∧
      (∀ e, e ∈ t.net.entries ↔ e ∈ s.net.entries ∧ (e.pair = k → nowNs s 0 < e.atNs + (netCfg s).entryForgetMs * 1000000)) := by
  have hexec : exec (.prpNodeForget k) s = .next (dropEntries k (fun e => decide (nowNs s 0 ≥ e.atNs + (netCfg s).entryForgetMs * 1000000))
      (showNodes k { s with net := { s.net with
        nodes := s.net.nodes.filter (fun n => !(n.pair == k && decide (nowNs s 0 ≥ n.atNs + 60000000000))) } })) :=
    congrArg _ (if_pos hk)
  refine ⟨_, hexec, exec_onlyParts hexec, rfl, fun e => ?_, fun e => ?_⟩
  · refine List.mem_filter.trans (and_congr_right fun _ => ?_)
    by_cases hpair : e.pair = k <;> simp [hpair]
  · refine List.mem_filter.trans (and_congr_right fun _ => ?_)
    by_cases hpair : e.pair = k <;> simp [hpair]

/-! ### Pdelay -/

/-- A Pdelay answer, or its follow-up. -/
def pdelayFrame (late : Bool) (m : PdelayMsg) : TxFrame := { body := .pdelay late m.source m.sequence m.receivedNs, bits := pdelayBits }

/-- The first of some domains with a property is the only one that has it. -/
theorem head_of_only {α : Type} {l m : List α} {p : α → Bool} {b : α} (hb : b ∈ l) (hp : p b = true)
    (honly : ∀ d ∈ l, p d = true → d = b) : (l.filter p ++ m).head? = some b := by
  have hmem : b ∈ l.filter p := List.mem_filter.2 ⟨hb, hp⟩
  cases hl : l.filter p with
  | nil => exact absurd hmem (by simp [hl])
  | cons x xs =>
    have hx : x ∈ l.filter p := hl ▸ List.mem_cons_self
    obtain ⟨hxl, hxp⟩ := List.mem_filter.1 hx
    rw [honly x hxl hxp]
    rfl

theorem exec_pdelayReq {port b : Nat} {m : PdelayMsg} (hmem : b ∈ domainsOnPort s port) (hdomain : (domCfg s b).ptpDomain = m.ptpDomain)
    (honly : ∀ d ∈ domainsOnPort s port, (domCfg s d).ptpDomain = m.ptpDomain → d = b) : exec (.pdelayReq port m) s =
      .next (enqueuePdelay port m.source m.sequence m.receivedNs ((domCfg s b).stepMode == 1) s) := by
  show execPdelayReq port m s = _
  rw [execPdelayReq, head_of_only (p := fun d => (domCfg s d).ptpDomain == m.ptpDomain) hmem (beq_iff_eq.2 hdomain)
    fun d hd h => honly d hd (beq_iff_eq.1 h)]

theorem pdelay_answered {port b : Nat} {m : PdelayMsg} (hport : port < 4) (hqueues : keysRise s.net.queues = true)
    (hroom : (queueOf s (8 * port + 5)).length < 63) (hmem : b ∈ domainsOnPort s port) (hdomain : (domCfg s b).ptpDomain = m.ptpDomain)
    (honly : ∀ d ∈ domainsOnPort s port, (domCfg s d).ptpDomain = m.ptpDomain → d = b) :
    ∃ t, exec (.pdelayReq port m) s = .next t ∧ OnlyParts [.regs, .net] s t ∧
      queueOf t (8 * port + 5) = queueOf s (8 * port + 5) ++
        (if (domCfg s b).stepMode = 1 then [pdelayFrame false m, pdelayFrame true m] else [pdelayFrame false m]) ∧
      ∀ q, q ≠ 8 * port + 5 → queueOf t q = queueOf s q := by
  have hdepth : queueDepth (8 * port + 5) = 64 := by simp [queueDepth, show 8 * port + 5 < 32 by omega]
  have hfirst : (enqueue (8 * port + 5) (pdelayFrame false m) s).1 = putQueue (8 * port + 5) (queueOf s (8 * port + 5) ++ [pdelayFrame false m]) s :=
    enqueue_taken (by omega) rfl
  have hqueue := queueOf_putQueue_same (s := s) (8 * port + 5) (queueOf s (8 * port + 5) ++ [pdelayFrame false m]) hqueues
  have hother : ∀ q, q ≠ 8 * port + 5 →
      queueOf (putQueue (8 * port + 5) (queueOf s (8 * port + 5) ++ [pdelayFrame false m]) s) q = queueOf s q :=
    fun q hq => queueOf_putQueue_other _ hq
  have hrise := putQueue_queuesRise (s := s) (8 * port + 5) (queueOf s (8 * port + 5) ++ [pdelayFrame false m]) hqueues
  have hmoves := putQueue_moves (8 * port + 5) (queueOf s (8 * port + 5) ++ [pdelayFrame false m]) s
  have hexec : exec (.pdelayReq port m) s = .next (if (domCfg s b).stepMode == 1
      then (enqueue (8 * port + 5) (pdelayFrame true m) (enqueue (8 * port + 5) (pdelayFrame false m) s).1).1
      else (enqueue (8 * port + 5) (pdelayFrame false m) s).1) := exec_pdelayReq hmem hdomain honly
  rw [hfirst] at hexec
  generalize putQueue (8 * port + 5) (queueOf s (8 * port + 5) ++ [pdelayFrame false m]) s = u at hqueue hother hrise hmoves hexec
  by_cases htwo : (domCfg s b).stepMode = 1
  · rw [if_pos (beq_iff_eq.2 htwo), enqueue_taken (by rw [hqueue, List.length_append, hdepth, List.length_singleton]; omega) rfl,
      hqueue] at hexec
    refine ⟨_, hexec, onlyParts_of_moves s _ (moves_step (putQueue_moves ..) rfl hmoves) rfl, ?_, fun q hq =>
      (queueOf_putQueue_other _ hq).trans (hother q hq)⟩
    rw [queueOf_putQueue_same _ _ hrise, if_pos htwo, List.append_assoc]
    rfl
  · rw [if_neg (fun h => htwo (beq_iff_eq.1 h))] at hexec
    refine ⟨u, hexec, onlyParts_of_moves s _ hmoves rfl, ?_, hother⟩
    rw [hqueue, if_neg htwo]

end Sys2Proof.Machine
end

section
/-! The statement about frames received and duplicate discard. -/

namespace Sys2Proof.Certificates

open Sys2Proof Sys2Proof.Machine

/-- Settles O47, clause by clause: of the entries of a numbered datagram's source, those with its own number are never behind the
window. -/
theorem backboneFramesAndDuplicates : Obligations.BackboneFramesAndDuplicates := by
  refine ⟨fun f s wf hport hruns hlink _ => ⟨backbone_unsupported wf hport hruns hlink,
      fun a b c r hsupported hkind htrailer hr => backbone_numbered wf hport hruns hlink hsupported hkind htrailer hr⟩,
    fun f s wf hport hruns hlink hsupported hplain => backbone_plain wf hport hruns hlink hsupported hplain,
    fun f s wf hlow hhigh hruns hlink => longReach_counts wf hlow hhigh hruns hlink,
    fun f s hport hdown => backbone_down hport hdown,
    fun k s _ hk hqueues hseq hlife => ⟨prpSupervision_sends hk hqueues hseq hlife, prpSupervision_early, prpNodeForget_forgets hk⟩,
    fun port b m s _ hport hqueues hroom hmem hdomain honly => pdelay_answered hport hqueues hroom hmem hdomain honly⟩

end Sys2Proof.Certificates
end

section
/-! SUPPORT. Power over a single pair: what a change of a port's POWER shows, and the four commands that change it (R356, R357). -/

namespace Sys2Proof.Machine

open Sys2Proof

variable {s t : State} {l : Nat} {c : Caller}

/-! ### A change of a port's power -/

/-- The fields that show a port's power and the total. -/
def powerFields (l : Nat) : List Field :=
  [F.LRP.STATUS_POWER_ANY, F.LRP.POWER_MW, F.LRP.PORT_POWER_MW l, F.LRP.PORT_STATE_POWER l]

/-- A port's power, before the total is shown. -/
def powerSet (l code mw : Nat) (due : Option Nat) (s : State) : State :=
  setF (F.LRP.PORT_POWER_MW l) mw (setF (F.LRP.PORT_STATE_POWER l) code
    { s with lrp := { s.lrp with detectAt := listPut s.lrp.detectAt l due } })

theorem showPower_onlyFields (s : State) : OnlyFields [F.LRP.STATUS_POWER_ANY, F.LRP.POWER_MW] s (showPower s) :=
  onlyFields_setF (by simp) (onlyFields_setF (by simp) onlyFields_refl)

theorem setPower_onlyFields (l code mw : Nat) (due : Option Nat) (s : State) : OnlyFields (powerFields l) s (setPower l code mw due s) :=
  onlyFields_trans (t := powerSet l code mw due s)
    (onlyFields_setF (by simp [powerFields]) (onlyFields_setF (by simp [powerFields]) onlyFields_refl))
    (onlyFields_mono (showPower_onlyFields _) (by simp [powerFields]))

theorem lrPower_showPower (j : Nat) : lrPower (showPower s) j = lrPower s j :=
  showPower_onlyFields s _ (by
    simp only [List.forall_mem_cons, fieldKey, F.LRP.STATUS_POWER_ANY, F.LRP.POWER_MW, F.LRP.PORT_STATE_POWER]
    exact ⟨by omega, by omega, by simp⟩)

theorem lrPower_powerSet {code mw : Nat} {due : Option Nat} (hcode : code < 8) (hs : keysRise s.regs = true) :
    lrPower (powerSet l code mw due s) l = code := by
  refine (getF_setF_other _ _ _ _ ?_).trans (getF_setF_lt hs hcode)
  simp only [fieldKey, F.LRP.PORT_POWER_MW, F.LRP.PORT_STATE_POWER]
  omega

theorem setPower_sets {code mw : Nat} {due : Option Nat} (wf : WellKept s) (hl : l < 8) (hcode : code < 8) (hmw : mw < 2 ^ 32)
    (hlen : s.lrp.detectAt.length = 8) :
    lrPower (setPower l code mw due s) l = code ∧ getF (setPower l code mw due s) (F.LRP.PORT_POWER_MW l) = mw ∧
      (setPower l code mw due s).lrp.detectAt[l]? = some due := by
  refine ⟨(lrPower_showPower l).trans (lrPower_powerSet hcode wf.regs), ?_, List.getElem?_set_self (by omega)⟩
  refine (showPower_onlyFields _ _ ?_).trans (getF_setF_lt (setF_keysRise _ _ _ wf.regs) hmw)
  simp only [List.forall_mem_cons, fieldKey, F.LRP.STATUS_POWER_ANY, F.LRP.POWER_MW, F.LRP.PORT_POWER_MW]
  exact ⟨by omega, by omega, by simp⟩

theorem setPower_others (l code mw : Nat) (due : Option Nat) {j : Nat} (hj : j ≠ l) :
    lrPower (setPower l code mw due s) j = lrPower s j ∧ (setPower l code mw due s).lrp.detectAt[j]? = s.lrp.detectAt[j]? := by
  refine ⟨setPower_onlyFields l code mw due s _ ?_, List.getElem?_set_ne hj.symm⟩
  simp only [powerFields, List.forall_mem_cons, fieldKey, F.LRP.STATUS_POWER_ANY, F.LRP.POWER_MW, F.LRP.PORT_POWER_MW,
    F.LRP.PORT_STATE_POWER]
  exact ⟨by omega, by omega, by omega, by omega, by simp⟩

/-- With a port ON some power is delivered. -/
theorem powerAny_of_on {mw : Nat} {due : Option Nat} (wf : WellKept s) (hl : l < 8) :
    flag (setPower l powerOn mw due s) F.LRP.STATUS_POWER_ANY = true := by
  have hon : lrPower (powerSet l powerOn mw due s) l = powerOn := lrPower_powerSet (by decide) wf.regs
  have hmem : l ∈ (List.range 8).filter (fun i => lrPower (powerSet l powerOn mw due s) i == powerOn) :=
    List.mem_filter.2 ⟨List.mem_range.2 hl, beq_iff_eq.2 hon⟩
  have hset : keysRise (powerSet l powerOn mw due s).regs = true := setF_keysRise _ _ _ (setF_keysRise _ _ _ wf.regs)
  have hany : (!((List.range 8).filter (fun i => lrPower (powerSet l powerOn mw due s) i == powerOn)).isEmpty) = true := by
    rw [List.isEmpty_eq_false_iff.2 (List.ne_nil_of_mem hmem)]
    rfl
  exact (flag_setF_ofBool _ rfl (setF_keysRise (powerSet l powerOn mw due s) _ _ hset)).trans hany

/-! ### Detection and faults -/

theorem exec_detection_due {at_ mw : Nat} {valid : Bool} (hpowers : lrpPowers s = true) (hport : lrPowered s l = true)
    (hdetect : s.lrp.detectAt[l]? = some (some at_)) (hstate : lrPower s l = 1 ∨ lrPower s l = 3) (hdue : at_ ≤ stampNs s) :
    exec (.detection l valid mw) s = .next (if valid then emit 0x0F01 l (lrCfg s l).powerClass 0 (setPower l powerOn mw none s)
      else setPower l powerDetecting 0 (some (stampNs s + 1000000000)) s) := by
  have hat : s.lrp.detectAt.getD l none = some at_ := by rw [List.getD_eq_getElem?_getD, hdetect]; rfl
  have hcode : (lrPower s l == powerDetecting || lrPower s l == powerFault) = true := by rcases hstate with h | h <;> rw [h] <;> rfl
  show execDetection l valid mw s = _
  rw [execDetection, hpowers, hport, hcode, hat]
  exact congrArg _ (if_pos (by simpa using hdue))

theorem exec_detection_early {at_ mw : Nat} {valid : Bool} (hdetect : s.lrp.detectAt[l]? = some (some at_)) (hearly : stampNs s < at_) :
    exec (.detection l valid mw) s = .next s := by
  have hat : s.lrp.detectAt.getD l none = some at_ := by rw [List.getD_eq_getElem?_getD, hdetect]; rfl
  show execDetection l valid mw s = _
  rw [execDetection, hat]
  exact congrArg _ (if_neg (by simp [Nat.not_le.2 hearly]))

theorem detection_valid {at_ mw : Nat} (wf : WellKept s) (hl : l < 8) (hlen : s.lrp.detectAt.length = 8) (hpowers : lrpPowers s = true)
    (hport : lrPowered s l = true) (hdetect : s.lrp.detectAt[l]? = some (some at_)) (hstate : lrPower s l = 1 ∨ lrPower s l = 3)
    (hdue : at_ ≤ stampNs s) (hmw : mw < 2 ^ 32) :
    ∃ t, exec (.detection l true mw) s = .next t ∧ lrPower t l = 2 ∧ getF t (F.LRP.PORT_POWER_MW l) = mw ∧
      t.lrp.detectAt[l]? = some none ∧ flag t F.LRP.STATUS_POWER_ANY = true ∧
      (∀ j, j < 8 → j ≠ l → lrPower t j = lrPower s j ∧ t.lrp.detectAt[j]? = s.lrp.detectAt[j]?) ∧
      OnlyParts [.regs, .lrp, .cont] s t := by
  have hexec := exec_detection_due (mw := mw) (valid := true) hpowers hport hdetect hstate hdue
  rw [if_pos rfl] at hexec
  obtain ⟨hpower, hshown, hnext⟩ := setPower_sets (due := none) wf hl (show powerOn < 8 by decide) hmw hlen
  have hlrp : (emit 0x0F01 l (lrCfg s l).powerClass 0 (setPower l powerOn mw none s)).lrp = (setPower l powerOn mw none s).lrp :=
    (emit_moves ..).frame .lrp rfl
  refine ⟨_, hexec, (getF_emit ..).trans hpower, (getF_emit ..).trans hshown, by rw [hlrp]; exact hnext, ?_, fun j _ hj => ?_,
    exec_onlyParts hexec⟩
  · rw [flag, getF_emit]
    exact powerAny_of_on wf hl
  · obtain ⟨hpower', hnext'⟩ := setPower_others (s := s) l powerOn mw none hj
    exact ⟨(getF_emit ..).trans hpower', by rw [hlrp]; exact hnext'⟩

theorem detection_invalid {at_ mw : Nat} (wf : WellKept s) (hl : l < 8) (hlen : s.lrp.detectAt.length = 8) (hpowers : lrpPowers s = true)
    (hport : lrPowered s l = true) (hdetect : s.lrp.detectAt[l]? = some (some at_)) (hstate : lrPower s l = 1 ∨ lrPower s l = 3)
    (hdue : at_ ≤ stampNs s) :
    ∃ t, exec (.detection l false mw) s = .next t ∧ lrPower t l = 1 ∧
      t.lrp.detectAt[l]? = some (some (stampNs s + 1000000000)) ∧ OnlyParts [.regs, .lrp] s t ∧
      (∀ j, j < 8 → j ≠ l → lrPower t j = lrPower s j) := by
  have hexec := exec_detection_due (mw := mw) (valid := false) hpowers hport hdetect hstate hdue
  rw [if_neg (by decide)] at hexec
  obtain ⟨hpower, -, hnext⟩ := setPower_sets (due := some (stampNs s + 1000000000)) wf hl (show powerDetecting < 8 by decide)
    (show 0 < 2 ^ 32 by decide) hlen
  exact ⟨_, hexec, hpower, hnext, onlyParts_of_moves s _ (setPower_moves ..) rfl, fun j _ hj => (setPower_others _ _ _ _ hj).1⟩

theorem faultPort_faults (wf : WellKept s) (hl : l < 8) (hlen : s.lrp.detectAt.length = 8) (kind ma : Nat) :
    lrPower (faultPort l kind ma s) l = 3 ∧ getF (faultPort l kind ma s) (F.LRP.PORT_POWER_MW l) = 0 ∧
      (faultPort l kind ma s).lrp.detectAt[l]? = some (some (stampNs s + 10000000000)) ∧
      getF (faultPort l kind ma s) (F.LRP.POWER_FAULT_COUNT l) = min (getF s (F.LRP.POWER_FAULT_COUNT l) + 1) 0xFFFFFFFF ∧
      (∀ j, j ≠ l → lrPower (faultPort l kind ma s) j = lrPower s j) := by
  obtain ⟨hpower, hshown, hnext⟩ := setPower_sets (due := some (stampNs s + 10000000000)) wf hl (show powerFault < 8 by decide)
    (show 0 < 2 ^ 32 by decide) hlen
  have hothers : ∀ j, j ≠ l → lrPower (setPower l powerFault 0 (some (stampNs s + 10000000000)) s) j = lrPower s j :=
    fun j hj => (setPower_others _ _ _ _ hj).1
  have hcount := setPower_onlyFields l powerFault 0 (some (stampNs s + 10000000000)) s (F.LRP.POWER_FAULT_COUNT l) (by
    simp only [powerFields, List.forall_mem_cons, fieldKey, F.LRP.STATUS_POWER_ANY, F.LRP.POWER_MW, F.LRP.PORT_POWER_MW,
      F.LRP.PORT_STATE_POWER, F.LRP.POWER_FAULT_COUNT]
    exact ⟨by omega, by omega, by omega, by omega, by simp⟩)
  have hwf : WellKept (setPower l powerFault 0 (some (stampNs s + 10000000000)) s) := (setPower_moves ..).form wf
  unfold faultPort
  generalize setPower l powerFault 0 (some (stampNs s + 10000000000)) s = u at hpower hshown hnext hothers hcount hwf ⊢
  have hlrp : (emit 0x0F02 l kind ma (bumpF (F.LRP.POWER_FAULT_COUNT l) 1 u)).lrp = u.lrp := (emit_moves ..).frame .lrp rfl
  have hkept : ∀ j, lrPower (emit 0x0F02 l kind ma (bumpF (F.LRP.POWER_FAULT_COUNT l) 1 u)) j = lrPower u j := fun j =>
    (getF_emit ..).trans (getF_bumpF_other _ _ _ _ (by simp only [fieldKey, F.LRP.PORT_STATE_POWER, F.LRP.POWER_FAULT_COUNT]; omega))
  refine ⟨(hkept l).trans hpower, (getF_emit ..).trans ((getF_bumpF_other _ _ _ _ ?_).trans hshown), by rw [hlrp, hnext],
    (getF_emit ..).trans ((getF_bumpF_same _ _ _ rfl hwf.regs).trans (by rw [hcount])), fun j hj => (hkept j).trans (hothers j hj)⟩
  simp only [fieldKey, F.LRP.PORT_POWER_MW, F.LRP.POWER_FAULT_COUNT]
  omega

/-- The ports from the highest down, about one of them. -/
theorem ports_split : ∀ l < 8, (List.range 8).reverse =
    ((List.range 8).filter (l < ·)).reverse ++ l :: ((List.range 8).filter (· < l)).reverse := by
  decide

/-- The ON port with the highest number. -/
theorem find_highest_on (hl : l < 8) (hon : lrPower s l = 2) (habove : ∀ j, l < j → j < 8 → lrPower s j ≠ 2) :
    (List.range 8).reverse.find? (fun i => lrPower s i == powerOn) = some l := by
  refine List.find?_eq_some_iff_append.2 ⟨beq_iff_eq.2 hon, _, _, ports_split l hl, fun j hj => ?_⟩
  obtain ⟨hj8, hlj⟩ := List.mem_filter.1 (List.mem_reverse.1 hj)
  rw [show (lrPower s j == powerOn) = false from beq_false_of_ne (habove j (of_decide_eq_true hlj) (List.mem_range.1 hj8))]
  rfl

theorem powerFault_faults {kind ma : Nat} (wf : WellKept s) (hl : l < 8) (hlen : s.lrp.detectAt.length = 8)
    (hpowers : lrpPowers s = true) (hkind : kind < 3) (hon : lrPower s l = 2)
    (habove : kind = 2 → ∀ j, l < j → j < 8 → lrPower s j ≠ 2) :
    ∃ t, exec (.powerFault (if kind = 2 then 0 else l) kind ma) s = .next t ∧ lrPower t l = 3 ∧
      getF t (F.LRP.PORT_POWER_MW l) = 0 ∧ t.lrp.detectAt[l]? = some (some (stampNs s + 10000000000)) ∧
      getF t (F.LRP.POWER_FAULT_COUNT l) = min (getF s (F.LRP.POWER_FAULT_COUNT l) + 1) 0xFFFFFFFF ∧
      (∀ j, j < 8 → j ≠ l → lrPower t j = lrPower s j) ∧ (kind = 2 → flag t F.LRP.STATUS_TOTAL_SHED = true) ∧
      OnlyParts [.regs, .lrp, .cont] s t := by
  have hrule : ∀ i, exec (.powerFault i kind ma) s = .next (if kind = 2 then
      match (List.range 8).reverse.find? (fun i => lrPower s i == powerOn) with
      | some i => setF F.LRP.STATUS_TOTAL_SHED 1 (faultPort i 2 ma s)
      | none => s
    else if kind < 2 && i < 8 && lrPower s i = powerOn then faultPort i kind ma s
    else s) := fun i => by
    show execPowerFault i kind ma s = _
    rw [execPowerFault, hpowers]
    rfl
  obtain ⟨hpower, hmw, hnext, hcount, hothers⟩ := faultPort_faults wf hl hlen kind ma
  by_cases h2 : kind = 2
  · subst h2
    have hexec := hrule 0
    rw [if_pos rfl, find_highest_on hl hon (habove rfl)] at hexec
    rw [if_pos rfl]
    have hshed : OnlyFields [F.LRP.STATUS_TOTAL_SHED] (faultPort l 2 ma s) (setF F.LRP.STATUS_TOTAL_SHED 1 (faultPort l 2 ma s)) :=
      onlyFields_single_setF _ _ _
    have hapart : ∀ f : Field, 0x0F00008 ≤ f.addr → ∀ g ∈ [F.LRP.STATUS_TOTAL_SHED], fieldKey g ≠ fieldKey f := by
      intro f hf
      simp only [List.forall_mem_cons, fieldKey, F.LRP.STATUS_TOTAL_SHED]
      exact ⟨by omega, by simp⟩
    have hport : ∀ j, lrPower (setF F.LRP.STATUS_TOTAL_SHED 1 (faultPort l 2 ma s)) j = lrPower (faultPort l 2 ma s) j :=
      fun j => hshed _ (hapart _ (by simp only [F.LRP.PORT_STATE_POWER]; omega))
    exact ⟨_, hexec, (hport l).trans hpower, (hshed _ (hapart _ (by simp only [F.LRP.PORT_POWER_MW]; omega))).trans hmw, hnext,
      (hshed _ (hapart _ (by simp only [F.LRP.POWER_FAULT_COUNT]; omega))).trans hcount,
      fun j _ hj => (hport j).trans (hothers j hj), fun _ => flag_setF_one _ rfl ((faultPort_moves ..).form wf).regs,
      exec_onlyParts hexec⟩
  · have hexec := hrule l
    have hcond : (decide (kind < 2) && decide (l < 8) && decide (lrPower s l = powerOn)) = true := by
      rw [decide_eq_true (by omega), decide_eq_true hl, decide_eq_true (show lrPower s l = powerOn from hon)]
      rfl
    rw [if_neg h2, hcond, if_pos rfl] at hexec
    rw [if_neg h2]
    exact ⟨_, hexec, hpower, hmw, hnext, hcount, fun j _ hj => hothers j hj, fun h => absurd h h2, exec_onlyParts hexec⟩

/-! ### POWER_OFF and POWER_ON -/

theorem lrPower_touchSession (hl : l < 8) : lrPower (touchSession c s) l = lrPower s l :=
  getF_touchSession_below c (by simp only [F.LRP.PORT_STATE_POWER]; omega) (by simp [F.LRP.PORT_STATE_POWER]) s

theorem lrp_touchSession (c : Caller) (s : State) : (touchSession c s).lrp = s.lrp := (touchSession_moves c s).frame .lrp rfl

theorem stampNs_touchSession (c : Caller) (s : State) : stampNs (touchSession c s) = stampNs s := by
  have hclap : (touchSession c s).clap = s.clap := (touchSession_moves c s).frame .clap rfl
  have hdev : (touchSession c s).dev = s.dev := (touchSession_moves c s).frame .dev rfl
  have hbase : stampBase (touchSession c s) = stampBase s := by
    unfold stampBase inState
    rw [hdev]
  rw [stampNs, stampNs, nowNs, nowNs, hclap, hbase]

theorem lrPowered_touchSession (c : Caller) (s : State) (l : Nat) : lrPowered (touchSession c s) l = lrPowered s l := by
  have hcfg : (touchSession c s).cfg = s.cfg := (touchSession_moves c s).frame .cfg rfl
  rw [lrPowered, lrPowered, lrCfg, lrCfg, hcfg]

/-- A register of a port stands in the answer as before it. -/
theorem getF_lrpAnswer {op : Nat} {r : Reply} {f : Field} (hf : 0x0F00100 ≤ f.addr) : getF (showResult 15 op r s) f = getF s f := by
  refine showResult_onlyFields rfl (by decide) (by decide) f ?_
  simp only [List.forall_mem_cons, fieldKey, F.LRP.CMD_RESULT_OPCODE, F.LRP.CMD_RESULT_RESULT]
  exact ⟨by omega, by omega, by simp⟩

theorem lrPower_lrpAnswer {op : Nat} {r : Reply} : lrPower (showResult 15 op r s) l = lrPower s l :=
  getF_lrpAnswer (by simp only [F.LRP.PORT_STATE_POWER]; omega)

theorem lrp_showResult (op : Nat) (r : Reply) (s : State) : (showResult 15 op r s).lrp = s.lrp := (showResult_moves ..).frame .lrp rfl

theorem getF_lrpResult {op : Nat} {r : Reply} (hr : r.result < 256) (wf : WellKept s) :
    getF (showResult 15 op r s) F.LRP.CMD_RESULT_RESULT = r.result :=
  getF_showResult rfl (by decide) (by decide) hr wf.regs

/-- An accepted command that sets a port's power. -/
theorem power_commanded {op code : Nat} {due : Option Nat} (wf : WellKept s) (hl : l < 8) (hlen : s.lrp.detectAt.length = 8)
    (hcode : code < 8) (c : Caller) : let t := showResult 15 op { result := resOk, ret := 0 } (setPower l code 0 due (touchSession c s))
    lrPower t l = code ∧ getF t (F.LRP.PORT_POWER_MW l) = 0 ∧ t.lrp.detectAt[l]? = some due ∧
      getF t F.LRP.CMD_RESULT_RESULT = resOk ∧ OnlyParts [.regs, .lrp, .sec] s t ∧
      (∀ j, j < 8 → j ≠ l → lrPower t j = lrPower s j) := by
  intro t
  have htouched : WellKept (touchSession c s) := (touchSession_moves c s).form wf
  obtain ⟨hpower, hmw, hnext⟩ := setPower_sets (due := due) htouched hl hcode (show 0 < 2 ^ 32 by decide)
    (by rw [lrp_touchSession, hlen])
  refine ⟨lrPower_lrpAnswer.trans hpower, (getF_lrpAnswer (by simp only [F.LRP.PORT_POWER_MW]; omega)).trans hmw, ?_,
    getF_lrpResult (by decide) ((setPower_moves ..).form htouched), ?_, fun j hj8 hj => ?_⟩
  · rw [lrp_showResult]
    exact hnext
  · have hmoves : Moves 0x810002 s t := moves_step (showResult_moves ..) rfl (moves_step (setPower_moves ..) rfl
      (moves_step (touchSession_moves ..) rfl moves_refl))
    exact onlyParts_of_moves s _ hmoves rfl
  · exact lrPower_lrpAnswer.trans ((setPower_others _ _ _ _ hj).1.trans (lrPower_touchSession hj8))

/-- A refused command leaves every port as it was. -/
theorem power_refused (wf : WellKept s) (hl : l < 8) (op : Nat) (c : Caller) :
    let t := showResult 15 op { result := resIllegal } (emit (15 * 256 + 0xFF) op resIllegal l (touchSession c s))
    t.lrp = s.lrp ∧ lrPower t l = lrPower s l ∧ getF t F.LRP.CMD_RESULT_RESULT = resIllegal := by
  intro t
  have hmoves : Moves 0xa00002 s (emit (15 * 256 + 0xFF) op resIllegal l (touchSession c s)) :=
    moves_step (emit_moves ..) rfl (moves_step (touchSession_moves ..) rfl moves_refl)
  exact ⟨(lrp_showResult ..).trans (hmoves.frame .lrp rfl), lrPower_lrpAnswer.trans ((getF_emit ..).trans (lrPower_touchSession hl)),
    getF_lrpResult (by decide) (hmoves.form wf)⟩

theorem lrpLegal_of (h : inState s .armed = true ∨ inState s .live = true) : lrpLegal s = true := by
  rw [lrpLegal]
  rcases h with h | h <;> simp [h]

theorem exec_powerOff (hlegal : lrpLegal s = true) (hadm : Admitted c [roleOperator] s) (hl : l < 8)
    (hport : lrPowered s l = true) (hon : lrPower s l ≠ 4) :
    exec (.powerOff c l) s = .next (showResult 15 1 { result := resOk, ret := 0 } (setPower l powerDisabled 0 none (touchSession c s))) := by
  show Host.Outcome.next (cmdPowerOff c l s).1 = _
  rw [cmdPowerOff, hlegal]
  refine congrArg _ (runCommand_ok hadm ?_)
  rw [lrPowered_touchSession, hport, lrPower_touchSession hl]
  exact (if_neg (by decide)).trans (if_neg hon)

theorem exec_powerOn (hlegal : lrpLegal s = true) (hadm : Admitted c [roleOperator] s) (hl : l < 8)
    (hport : lrPowered s l = true) (hoff : lrPower s l = 4) :
    exec (.powerOn c l) s = .next (showResult 15 2 { result := resOk, ret := 0 }
      (setPower l powerDetecting 0 (some (stampNs s)) (touchSession c s))) := by
  show Host.Outcome.next (cmdPowerOn c l s).1 = _
  rw [cmdPowerOn, hlegal]
  refine congrArg _ (runCommand_ok hadm ?_)
  rw [lrPowered_touchSession, hport, lrPower_touchSession hl, stampNs_touchSession]
  exact (if_neg (by decide)).trans (if_neg (not_not.2 hoff))

theorem exec_powerOff_refused (hlegal : lrpLegal s = true) (hadm : Admitted c [roleOperator] s) (hl : l < 8)
    (hport : lrPowered s l = true) (hoff : lrPower s l = 4) :
    exec (.powerOff c l) s = .next (showResult 15 1 { result := resIllegal } (emit (15 * 256 + 0xFF) 1 resIllegal l (touchSession c s))) := by
  show Host.Outcome.next (cmdPowerOff c l s).1 = _
  rw [cmdPowerOff, hlegal]
  refine congrArg _ (runCommand_error (by decide) hadm ((if_pos rfl).trans ?_))
  rw [lrPowered_touchSession, hport, lrPower_touchSession hl]
  exact (if_neg (by decide)).trans (if_pos hoff)

theorem exec_powerOn_refused (hlegal : lrpLegal s = true) (hadm : Admitted c [roleOperator] s) (hl : l < 8)
    (hport : lrPowered s l = true) (hon : lrPower s l ≠ 4) :
    exec (.powerOn c l) s = .next (showResult 15 2 { result := resIllegal } (emit (15 * 256 + 0xFF) 2 resIllegal l (touchSession c s))) := by
  show Host.Outcome.next (cmdPowerOn c l s).1 = _
  rw [cmdPowerOn, hlegal]
  refine congrArg _ (runCommand_error (by decide) hadm ((if_pos rfl).trans ?_))
  rw [lrPowered_touchSession, hport, lrPower_touchSession hl]
  exact (if_neg (by decide)).trans (if_pos hon)

theorem lt_of_lrPowered (h : lrPowered s l = true) : l < 8 := by
  simp only [lrPowered, Bool.and_eq_true, decide_eq_true_eq] at h
  exact h.1.1

end Sys2Proof.Machine
end

section
/-! The statement about single-pair power. -/

namespace Sys2Proof.Certificates

open Sys2Proof Sys2Proof.Machine

/-- Settles O49, command by command, over what `setPower` shows. -/
theorem singlePairPower : Obligations.SinglePairPower := by
  intro l s wf hport hlen hstate
  have hl := lt_of_lrPowered hport
  have hlegal := lrpLegal_of hstate
  refine ⟨fun hruns => ?_, fun c hadm => ⟨fun hon => ?_, fun hoff => ?_⟩⟩
  · have hpowers : lrpPowers s = true := by rw [lrpPowers, hruns, Bool.and_true]; exact hlegal
    exact ⟨fun at_ mw hdetect hcode => ⟨detection_valid wf hl hlen hpowers hport hdetect hcode,
      detection_invalid wf hl hlen hpowers hport hdetect hcode, fun hearly _ => exec_detection_early hdetect hearly⟩,
      fun kind ma hkind hon habove => powerFault_faults wf hl hlen hpowers hkind hon habove⟩
  · obtain ⟨hpower, hmw, hnext, hresult, hparts, hothers⟩ := power_commanded (op := 1) (due := none) wf hl hlen
      (show powerDisabled < 8 by decide) c
    obtain ⟨hlrp, hkept, hillegal⟩ := power_refused wf hl 2 c
    exact ⟨⟨_, exec_powerOff hlegal hadm hl hport hon, hpower, hmw, hnext, hresult, hparts, hothers⟩,
      _, exec_powerOn_refused hlegal hadm hl hport hon, hlrp, hkept, hillegal⟩
  · obtain ⟨hpower, -, hnext, hresult, hparts, -⟩ := power_commanded (op := 2) (due := some (stampNs s)) wf hl hlen
      (show powerDetecting < 8 by decide) c
    obtain ⟨hlrp, hkept, hillegal⟩ := power_refused wf hl 1 c
    exact ⟨⟨_, exec_powerOn hlegal hadm hl hport hoff, hpower, hnext, hresult, hparts⟩,
      _, exec_powerOff_refused hlegal hadm hl hport hoff, hlrp, hkept.trans hoff, hillegal⟩

end Sys2Proof.Certificates
end

section
/-! SUPPORT. Stations: what a step leaves of a station's context and of its registers (R365, R371, R372). -/

namespace Sys2Proof.Machine

open Sys2Proof

variable {s t u : State} {n : Nat}

/-! ### One station's context -/

/-- From `s` to `t` station `n`'s context has changed by `g`; every other station's, and the tick's count of frames, stand. -/
structure StationMoved (n : Nat) (g : StationState → StationState) (s t : State) : Prop where
  own : stnState t n = g (stnState s n)
  others : ∀ m, m ≠ n → stnState t m = stnState s m
  rise : keysRise s.stn.stations = true → keysRise t.stn.stations = true
  applied : t.stn.applied = s.stn.applied

theorem stationMoved_trans {g h : StationState → StationState} (h1 : StationMoved n g s t) (h2 : StationMoved n h t u) :
    StationMoved n (fun x => h (g x)) s u :=
  ⟨h2.own.trans (congrArg h h1.own), fun m hm => (h2.others m hm).trans (h1.others m hm), fun hs => h2.rise (h1.rise hs),
    h2.applied.trans h1.applied⟩

theorem stationMoved_then {g : StationState → StationState} (h : StationMoved n g s t) (hstn : u.stn = t.stn) : StationMoved n g s u := by
  refine ⟨?_, fun m hm => ?_, fun hs => ?_, ?_⟩
  · rw [← h.own, stnState, stnState, hstn]
  · rw [← h.others m hm, stnState, stnState, hstn]
  · rw [hstn, h.rise hs]
  · rw [hstn, h.applied]

theorem stationMoved_of_stn (h : t.stn = s.stn) : StationMoved n id s t :=
  ⟨by rw [stnState, stnState, h]; rfl, fun m _ => by rw [stnState, stnState, h], fun hs => by rw [h, hs], by rw [h]⟩

theorem stationMoved_of_moves {m : Nat} (h : Moves m s t) (hm : m.testBit 17 = false) : StationMoved n id s t :=
  stationMoved_of_stn (h.frame .stn hm)

theorem stationMoved_updStation (n : Nat) (g : StationState → StationState) (hs : keysRise s.stn.stations = true) :
    StationMoved n g s (updStation n g s) :=
  ⟨tableGet_put_same _ _ _ _ hs, fun _ hm => tableGet_put_other _ _ _ _ _ _ hm.symm, fun h => keysRise_put _ _ _ _ h, rfl⟩

theorem stationMoved_setStation (n st : Nat) (hs : keysRise s.stn.stations = true) :
    StationMoved n (fun x => { x with state := st }) s (setStation n st s) := by
  unfold setStation
  split
  next h =>
    refine ⟨?_, fun _ _ => rfl, id, rfl⟩
    rw [← h]
  · extract_lets s1
    have h1 : StationMoved n (fun x => { x with state := st }) s s1 := stationMoved_updStation n _ hs
    have h2 : StationMoved n id s1 (stageEntry 8 1 28 (nowStamp s1) (stationWords s1 n) s1) :=
      stationMoved_of_moves (stageEntry_moves ..) rfl
    exact stationMoved_trans h1 h2

/-- A station that is lost is ABSENT with the cause of its loss. -/
theorem stationMoved_stationLost (c : StationCfg) (cause : Nat) (hs : keysRise s.stn.stations = true) :
    StationMoved c.station (fun x => { x with cause := cause, state := stnAbsent }) s (stationLost c cause s) := by
  unfold stationLost
  extract_lets n s1
  have hcause : StationMoved n (fun x => { x with cause := cause }) s (updStation n (fun x => { x with cause := cause }) s) :=
    stationMoved_updStation n _ hs
  have habsent : StationMoved n (fun x => { x with cause := cause, state := stnAbsent }) s s1 :=
    stationMoved_trans hcause (stationMoved_setStation n stnAbsent (hcause.rise hs))
  have hrest : Moves 0x208022 s1 (emit 0x1002 n cause (stnState s1 n).latest (discardOutputs n (absentInputs c s1))) :=
    moves_step (emit_moves ..) rfl (moves_step (discardOutputs_moves ..) rfl (moves_step (absentInputs_moves ..) rfl moves_refl))
  exact stationMoved_trans habsent (stationMoved_of_moves hrest rfl)

/-! ### Registers -/

/-- The fields that a station's loss or return writes outside its own status registers. -/
def lossFields (n : Nat) : List Field :=
  [F.HOST.NEXT_INDEX 8, F.HOST.LOST_COUNT 8, F.STN.OUT_DISCARDED_COUNT, F.STN.ST_OUT_DISCARDED n] ++ (List.range 48).map qFillF

theorem setStation_onlyFields (n st : Nat) (s : State) : OnlyFields (lossFields n) s (setStation n st s) := by
  unfold setStation
  split
  · exact onlyFields_refl
  · extract_lets s1
    have h1 : OnlyFields (lossFields n) s s1 := onlyFields_refl
    exact onlyFields_trans h1 (onlyFields_mono (stageEntry_onlyFields 8 1 28 _ _ s1) (by simp [lossFields]))

theorem declareAbsent_regs (i : Nat) (s : State) : (declareAbsent i s).regs = s.regs := by
  unfold declareAbsent
  split <;> rfl

theorem absentInputs_onlyFields (fs : List Field) (c : StationCfg) (s : State) : OnlyFields fs s (absentInputs c s) :=
  onlyFields_foldl fun _ _ t f _ => getF_congr t _ f (declareAbsent_regs _ t)

theorem discardOutputs_onlyFields (n : Nat) (s : State) : OnlyFields (lossFields n) s (discardOutputs n s) := by
  unfold discardOutputs
  extract_lets gone keys s1
  have h1 : OnlyFields (lossFields n) s s1 := by
    refine onlyFields_foldl fun q hq t => onlyFields_ite ?_ onlyFields_refl
    have hmem : qFillF q ∈ lossFields n := List.mem_append_right _ (List.mem_map_of_mem hq)
    exact fun f hf => getF_setF_other _ _ _ _ (hf _ hmem)
  refine onlyFields_trans h1 (onlyFields_foldl fun k _ t => ?_)
  exact onlyFields_emit (onlyFields_bumpF (by simp [lossFields]) (onlyFields_bumpF (by simp [lossFields]) onlyFields_refl))

theorem stationLost_onlyFields (c : StationCfg) (cause : Nat) (s : State) :
    OnlyFields (lossFields c.station) s (stationLost c cause s) := by
  unfold stationLost
  extract_lets n s1
  have hset : OnlyFields (lossFields n) (updStation n (fun x => { x with cause := cause }) s) s1 := setStation_onlyFields n _ _
  have h1 : OnlyFields (lossFields n) s s1 := hset
  exact onlyFields_emit (onlyFields_trans (onlyFields_trans h1 (absentInputs_onlyFields _ c s1)) (discardOutputs_onlyFields n _))

/-- They are apart from the other registers of a station. -/
theorem lossFields_apart {f : Field} (hlow : 0x1010000 ≤ f.addr) (hhigh : f.addr < 0x1100000) (hlsb : f.lsb < 32)
    (hown : fieldKey (F.STN.ST_OUT_DISCARDED n) ≠ fieldKey f) : ∀ g ∈ lossFields n, fieldKey g ≠ fieldKey f := by
  simp only [lossFields, List.cons_append, List.nil_append, List.forall_mem_cons, List.forall_mem_map]
  refine ⟨?_, ?_, ?_, hown, fun q hq => ?_⟩
  · simp only [fieldKey, F.HOST.NEXT_INDEX]
    omega
  · simp only [fieldKey, F.HOST.LOST_COUNT]
    omega
  · simp only [fieldKey, F.STN.OUT_DISCARDED_COUNT]
    omega
  · have hq48 := List.mem_range.1 hq
    unfold qFillF
    split <;> simp only [fieldKey, F.NET.Q_FILL, F.LRP.Q_FILL] <;> omega

theorem frontFault_onlyFields (v i code : Nat) (s : State) : OnlyFields sampleCounters s (frontFault v i code s) := by
  unfold frontFault
  refine onlyFields_ite onlyFields_refl (onlyFields_ite onlyFields_refl ?_)
  split
  · exact refuseWrite_onlyFields v i s
  · exact onlyFields_ite (refuseWrite_onlyFields v i s) (onlyFields_ite onlyFields_refl onlyFields_refl)

theorem applyEntry_onlyFields (c : StationCfg) (cls stamp : Nat) (e : SlotEntry) (s : State) :
    OnlyFields sampleCounters s (applyEntry c cls stamp e s) := by
  unfold applyEntry
  split
  · exact onlyFields_refl
  · exact onlyFields_ite (frontFault_onlyFields _ _ _ s) (sampleIn_onlyFields _ _ _ _ s)

/-- The image's counters lie below STN's registers. -/
theorem sampleCounters_below {f : Field} (hf : 0x1000000 ≤ f.addr) : ∀ g ∈ sampleCounters, fieldKey g ≠ fieldKey f := by
  simp only [sampleCounters, List.forall_mem_cons, fieldKey, F.PIMG.REJECT_COUNT, F.PIMG.CLAMP_COUNT, F.PIMG.RATE_COUNT,
    F.PIMG.FILTER_COUNT, F.PIMG.WRITE_REFUSED_COUNT]
  refine ⟨?_, ?_, ?_, ?_, ?_, by simp⟩ <;> omega

/-! ### A frame that is turned away -/

/-- The counter `f` has gone up by one, CONT may have been handed a record, and stations, points and every other field stand. -/
def TurnedAway (s t : State) (f : Field) : Prop :=
  t.stn = s.stn ∧ t.pimg = s.pimg ∧ getF t f = min (getF s f + 1) 0xFFFFFFFF ∧ OnlyParts [.regs, .cont] s t ∧ OnlyFields [f] s t

theorem turnedAway_bumpF (f : Field) (hf : f.width = 32) (wf : WellKept s) : TurnedAway s (bumpF f 1 s) f :=
  ⟨rfl, rfl, getF_bumpF_same _ _ _ hf wf.regs, onlyParts_of_moves s _ (bumpF_moves ..) rfl, onlyFields_bumpF (by simp) onlyFields_refl⟩

theorem turnedAway_emit (f : Field) (code w1 w2 w3 : Nat) (hf : f.width = 32) (wf : WellKept s) :
    TurnedAway s (emit code w1 w2 w3 (bumpF f 1 s)) f := by
  have hmoves : Moves 0x200002 s (emit code w1 w2 w3 (bumpF f 1 s)) := moves_step (emit_moves ..) rfl (moves_step (bumpF_moves ..) rfl moves_refl)
  exact ⟨hmoves.frame .stn rfl, hmoves.frame .pimg rfl, (getF_emit ..).trans (getF_bumpF_same _ _ _ hf wf.regs),
    onlyParts_of_moves s _ hmoves rfl, onlyFields_emit (onlyFields_bumpF (by simp) onlyFields_refl)⟩

/-! ### The checks of an INPUT frame -/

variable {f : InputFrame} {c : StationCfg}

theorem exec_inputFrame (hruns : stnRuns s = true) : exec (.inputFrame f) s = .next (receiveInput f s) := by
  show execInputFrame f s = _
  rw [execInputFrame, hruns]
  rfl

theorem receiveInput_unknown (h : stationCfg s (u16 f.payload 8) = none) : receiveInput f s = bumpF F.STN.MALFORMED_COUNT 1 s := by
  rw [receiveInput, h]

/-- The first two checks fail: a HALTED station, a wrong port or address, or a wrong form. -/
theorem receiveInput_misplaced (h : stationCfg s (u16 f.payload 8) = some c)
    (hbad : (stnState s c.station).state = stnHalted ∨ onAttachment c f.port = false ∨ c.address ≠ f.address ∨
      f.contextError = none ∧ frameForm f.payload = false) : receiveInput f s = bumpF F.STN.MALFORMED_COUNT 1 s := by
  rw [receiveInput, h]
  refine ite_eq_left_iff.2 fun hgood => ?_
  simp only [Bool.or_eq_true, decide_eq_true_eq, Bool.not_eq_true', not_or] at hgood
  obtain ⟨⟨hstate, hport⟩, haddress⟩ := hgood
  obtain ⟨hctx, hform⟩ := ((hbad.resolve_left hstate).resolve_left hport).resolve_left haddress
  rw [hctx, hform]
  rfl

/-- The rest of the checks, on the body that the third one gives. -/
def checkedInput (c : StationCfg) (f : InputFrame) (s : State) : Option (List Nat) → State
  | none => emit 0x1003 c.station f.port 0 (bumpF F.STN.AUTH_FAIL_COUNT 1 s)
  | some body =>
    let x := stnState s c.station
    let q := u64 f.payload 20
    if !sequenceFresh x q then emit 0x1004 c.station (lo32 q) (lo32 x.high) (bumpF F.STN.REPLAY_COUNT 1 s)
    else if !echoFresh x (u32 f.payload 28) then emit 0x1005 c.station (u32 f.payload 28) x.latest (bumpF F.STN.ECHO_FAIL_COUNT 1 s)
    else if (bodyEntries body).any (fun e => (entrySlot c (u8 f.payload 6) e).isNone) then bumpF F.STN.MALFORMED_COUNT 1 s
    else if q ≤ x.high then updStation c.station (markSeen q) (bumpF F.STN.LATE_COUNT 1 s)
    else if s.stn.applied ≥ 1024 then dropOverload s
    else applyInput c f body s

theorem receiveInput_checked (h : stationCfg s (u16 f.payload 8) = some c) (hstate : (stnState s c.station).state ≠ stnHalted)
    (hport : onAttachment c f.port = true) (haddress : c.address = f.address) (hctx : f.contextError = none)
    (hform : frameForm f.payload = true) : receiveInput f s = checkedInput c f s (frameBody s c f.payload) := by
  have hgood : (decide ((stnState s c.station).state = stnHalted) || !onAttachment c f.port || decide (c.address ≠ f.address)) = false := by
    rw [decide_eq_false hstate, hport, haddress]
    simp
  rw [receiveInput, h]
  refine (if_neg (by rw [hgood]; decide)).trans ?_
  rw [hctx, hform]
  refine (if_neg (by decide)).trans ?_
  cases frameBody s c f.payload with
  | none => rw [checkedInput]
  | some body => rw [checkedInput]

section
variable {body : List Nat}

theorem checkedInput_replayed (h : sequenceFresh (stnState s c.station) (u64 f.payload 20) = false) : checkedInput c f s (some body) =
    emit 0x1004 c.station (lo32 (u64 f.payload 20)) (lo32 (stnState s c.station).high) (bumpF F.STN.REPLAY_COUNT 1 s) :=
  if_pos (by rw [h]; rfl)

variable (hfresh : sequenceFresh (stnState s c.station) (u64 f.payload 20) = true)
include hfresh

theorem checkedInput_unknownEcho (h : echoFresh (stnState s c.station) (u32 f.payload 28) = false) : checkedInput c f s (some body) =
    emit 0x1005 c.station (u32 f.payload 28) (stnState s c.station).latest (bumpF F.STN.ECHO_FAIL_COUNT 1 s) :=
  (if_neg (by rw [hfresh]; decide)).trans (if_pos (by rw [h]; rfl))

variable (hecho : echoFresh (stnState s c.station) (u32 f.payload 28) = true)
include hecho

theorem checkedInput_unnamed (h : ¬ ∀ e ∈ bodyEntries body, (entrySlot c (u8 f.payload 6) e).isSome = true) :
    checkedInput c f s (some body) = bumpF F.STN.MALFORMED_COUNT 1 s := by
  refine (if_neg (by rw [hfresh]; decide)).trans ((if_neg (by rw [hecho]; decide)).trans (if_pos ?_))
  simpa using h

theorem checkedInput_named (h : ∀ e ∈ bodyEntries body, (entrySlot c (u8 f.payload 6) e).isSome = true) :
    checkedInput c f s (some body) = if u64 f.payload 20 ≤ (stnState s c.station).high
      then updStation c.station (markSeen (u64 f.payload 20)) (bumpF F.STN.LATE_COUNT 1 s)
      else if s.stn.applied ≥ 1024 then dropOverload s else applyInput c f body s := by
  refine (if_neg (by rw [hfresh]; decide)).trans ((if_neg (by rw [hecho]; decide)).trans (if_neg ?_))
  simpa [Option.isSome_iff_ne_none] using h

end

/-! ### A frame that comes late -/

theorem markSeen_older {x : StationState} {q : Nat} (hfresh : sequenceFresh x q = true) (hold : q ≤ x.high) :
    (markSeen q x).high = x.high ∧ (markSeen q x).state = x.state ∧ sequenceFresh (markSeen q x) q = false := by
  have hbit : x.seen / 2 ^ (x.high - q) % 2 = 0 := by
    simp only [sequenceFresh, Nat.not_lt.2 hold, decide_false, Bool.false_or, Bool.and_eq_true, beq_iff_eq] at hfresh
    exact hfresh.2
  have hmark : markSeen q x = { x with seen := x.seen + 2 ^ (x.high - q) } := by
    rw [markSeen, if_neg (Nat.not_lt.2 hold)]
    exact if_neg (by rw [hbit]; decide)
  rw [hmark]
  refine ⟨rfl, rfl, ?_⟩
  have hset : (x.seen + 2 ^ (x.high - q)) / 2 ^ (x.high - q) % 2 = 1 := by
    rw [Nat.add_div_right _ (Nat.two_pow_pos _)]
    omega
  rw [sequenceFresh, hset, decide_eq_false (Nat.not_lt.2 hold)]
  exact Bool.and_false _

theorem lateFrame_marked {q : Nat} (wf : WellKept s) (hs : keysRise s.stn.stations = true)
    (hfresh : sequenceFresh (stnState s n) q = true) (hold : q ≤ (stnState s n).high) :
    let t := updStation n (markSeen q) (bumpF F.STN.LATE_COUNT 1 s)
    t.pimg = s.pimg ∧ getF t F.STN.LATE_COUNT = min (getF s F.STN.LATE_COUNT + 1) 0xFFFFFFFF ∧
      (stnState t n).high = (stnState s n).high ∧ (stnState t n).state = (stnState s n).state ∧
      sequenceFresh (stnState t n) q = false ∧ OnlyParts [.regs, .stn] s t := by
  intro t
  have hown : stnState t n = markSeen q (stnState s n) := (stationMoved_updStation n (markSeen q) (s := bumpF F.STN.LATE_COUNT 1 s) hs).own
  obtain ⟨hhigh, hstate, hseen⟩ := markSeen_older hfresh hold
  have hmoves : Moves 0x20002 s t := moves_step (updStation_moves ..) rfl (moves_step (bumpF_moves ..) rfl moves_refl)
  rw [hown]
  exact ⟨rfl, getF_bumpF_same s _ _ rfl wf.regs, hhigh, hstate, hseen,
    onlyParts_of_moves s _ hmoves rfl⟩

theorem overload_counted (wf : WellKept s) : (dropOverload s).pimg = s.pimg ∧
    getF (dropOverload s) F.STN.OVERLOAD_COUNT = min (getF s F.STN.OVERLOAD_COUNT + 1) 0xFFFFFFFF ∧
    (dropOverload s).stn.stations = s.stn.stations ∧ OnlyParts [.regs, .stn, .cont] s (dropOverload s) := by
  have hmoves := dropOverload_moves s
  refine ⟨hmoves.frame .pimg rfl, ?_, ?_, onlyParts_of_moves s _ hmoves rfl⟩
  · unfold dropOverload
    extract_lets k stn
    rw [getF_emit, getF_setF_other _ _ _ _ (by decide)]
    exact getF_bumpF_same _ _ _ rfl wf.regs
  · unfold dropOverload
    extract_lets k stn
    rw [(emit_moves ..).frame .stn rfl]
    rfl

/-! ### A frame that is applied -/

/-- The new highest number is seen, and its sequence and status are shown. -/
def inputFrameShown (c : StationCfg) (f : InputFrame) (body : List Nat) (s : State) : State :=
  setF (F.STN.ST_UP_SEQ_LO c.station) (lo32 (u64 f.payload 20)) (setF (F.STN.ST_UP_SEQ_HI c.station) (hi32 (u64 f.payload 20))
    (setF (F.STN.ST_STATUS c.station) (u32 body 8) (bumpF (F.STN.ST_IN_FRAMES c.station) 1
      (updStation c.station (markSeen (u64 f.payload 20)) { s with stn := { s.stn with applied := s.stn.applied + 1 } }))))

/-- The entries go to their points, and the station has been heard. -/
def inputFrameApplied (c : StationCfg) (f : InputFrame) (body : List Nat) (s : State) : State :=
  let s3 := (bodyEntries body).foldl (fun t e => applyEntry c (u8 f.payload 6) (portStamp s (portEntry f.port) false) e t)
    (inputFrameShown c f body s)
  if fastestInput c = some (u8 f.payload 6) then updStation c.station (fun x => { x with heard := true, misses := 0 }) s3 else s3

theorem applyInput_eq (c : StationCfg) (f : InputFrame) (body : List Nat) (s : State) : applyInput c f body s =
    (if u8 f.payload 7 % 2 = 1
      then (if canLose (inputFrameApplied c f body s) c.station then stationLost c 3 (inputFrameApplied c f body s) else inputFrameApplied c f body s)
      else if (stnState (inputFrameApplied c f body s) c.station).state = stnActive then inputFrameApplied c f body s
      else emit 0x1001 c.station (u32 f.payload 28) 0 (setStation c.station stnActive (inputFrameApplied c f body s))) := rfl

theorem inputFrameShown_station {body : List Nat} (hs : keysRise s.stn.stations = true) :
    StationMoved c.station (markSeen (u64 f.payload 20)) { s with stn := { s.stn with applied := s.stn.applied + 1 } }
      (inputFrameShown c f body s) := by
  have hseen := stationMoved_updStation (s := { s with stn := { s.stn with applied := s.stn.applied + 1 } }) c.station
    (markSeen (u64 f.payload 20)) hs
  exact stationMoved_then hseen rfl

/-- The entries of a frame leave the stations alone. -/
theorem applyEntries_stn (cls stamp : Nat) (es : List SlotEntry) (s : State) :
    (es.foldl (fun t e => applyEntry c cls stamp e t) s).stn = s.stn :=
  (moves_foldl (m := 0x200022) moves_refl fun _ _ ht => moves_step (applyEntry_moves ..) rfl ht).frame .stn rfl

/-- A frame that has been applied changes its station's context by the mark, and by its having been heard. -/
theorem inputFrameApplied_station {body : List Nat} (hs : keysRise s.stn.stations = true) :
    ∃ g : StationState → StationState, (∀ x, (g x).state = x.state ∧ (g x).high = x.high) ∧
      StationMoved c.station (fun x => g (markSeen (u64 f.payload 20) x)) { s with stn := { s.stn with applied := s.stn.applied + 1 } }
        (inputFrameApplied c f body s) := by
  have hshown := inputFrameShown_station (c := c) (f := f) (body := body) hs
  unfold inputFrameApplied
  generalize inputFrameShown c f body s = u at hshown ⊢
  have hentries := stationMoved_then hshown
    (applyEntries_stn (u8 f.payload 6) (portStamp s (portEntry f.port) false) (bodyEntries body) u (c := c))
  generalize (bodyEntries body).foldl (fun t e => applyEntry c (u8 f.payload 6) (portStamp s (portEntry f.port) false) e t) u = v at hentries ⊢
  dsimp only
  split
  · exact ⟨fun x => { x with heard := true, misses := 0 }, fun _ => ⟨rfl, rfl⟩,
      stationMoved_trans hentries (stationMoved_updStation c.station (fun x => { x with heard := true, misses := 0 }) (hentries.rise hs))⟩
  · exact ⟨id, fun _ => ⟨rfl, rfl⟩, hentries⟩

/-- A register of a station other than its discarded frames reads as after the frame was shown. -/
theorem inputFrameApplied_onlyFields (c : StationCfg) (f : InputFrame) (body : List Nat) (s : State) :
    OnlyFields sampleCounters (inputFrameShown c f body s) (inputFrameApplied c f body s) := by
  have hentries : OnlyFields sampleCounters (inputFrameShown c f body s)
      ((bodyEntries body).foldl (fun t e => applyEntry c (u8 f.payload 6) (portStamp s (portEntry f.port) false) e t) (inputFrameShown c f body s)) :=
    onlyFields_foldl fun e _ t => applyEntry_onlyFields c _ _ e t
  exact onlyFields_ite (c := fastestInput c = some (u8 f.payload 6)) hentries hentries

theorem inputFrameShown_shows {body : List Nat} (wf : WellKept s) :
    getF (inputFrameShown c f body s) (F.STN.ST_IN_FRAMES c.station) = min (getF s (F.STN.ST_IN_FRAMES c.station) + 1) 0xFFFFFFFF ∧
      getF (inputFrameShown c f body s) (F.STN.ST_STATUS c.station) = u32 body 8 % 2 ^ 32 ∧
      getF (inputFrameShown c f body s) (F.STN.ST_UP_SEQ_LO c.station) = lo32 (u64 f.payload 20) := by
  unfold inputFrameShown
  generalize hu : updStation c.station (markSeen (u64 f.payload 20)) { s with stn := { s.stn with applied := s.stn.applied + 1 } } = v
  have hregs : v.regs = s.regs := by
    rw [← hu]
    rfl
  have h0 : keysRise v.regs = true := hregs ▸ wf.regs
  have h1 : keysRise (bumpF (F.STN.ST_IN_FRAMES c.station) 1 v).regs = true := setF_keysRise _ _ _ h0
  have h2 := setF_keysRise (bumpF (F.STN.ST_IN_FRAMES c.station) 1 v) (F.STN.ST_STATUS c.station) (u32 body 8) h1
  refine ⟨?_, ?_, ?_⟩
  · rw [getF_setF_other, getF_setF_other, getF_setF_other, getF_bumpF_same _ _ _ rfl h0, getF_congr _ _ _ hregs]
    all_goals simp only [fieldKey, F.STN.ST_IN_FRAMES, F.STN.ST_UP_SEQ_LO, F.STN.ST_UP_SEQ_HI, F.STN.ST_STATUS]; omega
  · rw [getF_setF_other, getF_setF_other]
    · exact getF_setF_same _ _ _ h1
    all_goals simp only [fieldKey, F.STN.ST_UP_SEQ_LO, F.STN.ST_UP_SEQ_HI, F.STN.ST_STATUS]; omega
  · exact getF_setF_lt (setF_keysRise _ _ _ h2) (Nat.mod_lt _ (by decide))

/-- The last part of an applied frame: the station leaves, or is ACTIVE. -/
theorem applyInput_station {body : List Nat} (hs : keysRise (inputFrameApplied c f body s).stn.stations = true) :
    (stnState (applyInput c f body s) c.station).high = (stnState (inputFrameApplied c f body s) c.station).high ∧
      (∀ m, m ≠ c.station → stnState (applyInput c f body s) m = stnState (inputFrameApplied c f body s) m) ∧
      (applyInput c f body s).stn.applied = (inputFrameApplied c f body s).stn.applied ∧
      (u8 f.payload 7 % 2 = 0 → (stnState (applyInput c f body s) c.station).state = stnActive) ∧
      (u8 f.payload 7 % 2 = 1 → canLose (inputFrameApplied c f body s) c.station = true →
        (stnState (applyInput c f body s) c.station).state = stnAbsent ∧ (stnState (applyInput c f body s) c.station).cause = 3) ∧
      OnlyFields (lossFields c.station) (inputFrameApplied c f body s) (applyInput c f body s) := by
  rw [applyInput_eq]
  generalize inputFrameApplied c f body s = v at hs ⊢
  by_cases hleave : u8 f.payload 7 % 2 = 1
  · rw [if_pos hleave]
    by_cases hlose : canLose v c.station = true
    · rw [if_pos hlose]
      have hlost := stationMoved_stationLost c 3 hs
      rw [hlost.own]
      exact ⟨rfl, hlost.others, hlost.applied, fun h => by omega, fun _ _ => ⟨rfl, rfl⟩, stationLost_onlyFields c 3 v⟩
    · rw [if_neg hlose]
      exact ⟨rfl, fun _ _ => rfl, rfl, fun h => by omega, fun _ h => absurd h hlose, onlyFields_refl⟩
  · rw [if_neg hleave]
    by_cases hactive : (stnState v c.station).state = stnActive
    · rw [if_pos hactive]
      exact ⟨rfl, fun _ _ => rfl, rfl, fun _ => hactive, fun h => absurd h hleave, onlyFields_refl⟩
    · rw [if_neg hactive]
      have hset : StationMoved c.station (fun x => { x with state := stnActive }) v
          (emit 0x1001 c.station (u32 f.payload 28) 0 (setStation c.station stnActive v)) :=
        stationMoved_trans (stationMoved_setStation c.station stnActive hs) (stationMoved_of_moves (emit_moves ..) rfl)
      rw [hset.own]
      exact ⟨rfl, hset.others, hset.applied, fun _ => rfl, fun h => absurd h hleave, onlyFields_emit (setStation_onlyFields _ _ v)⟩

theorem applyInput_applies {body : List Nat} (wf : WellKept s) (hn : c.station < 4096) (hs : keysRise s.stn.stations = true)
    (hnew : (stnState s c.station).high < u64 f.payload 20) :
    let t := applyInput c f body s
    (stnState t c.station).high = u64 f.payload 20 ∧ t.stn.applied = s.stn.applied + 1 ∧
      (u8 f.payload 7 % 2 = 0 → (stnState t c.station).state = stnActive) ∧
      (u8 f.payload 7 % 2 = 1 → canLose s c.station = true →
        (stnState t c.station).state = stnAbsent ∧ (stnState t c.station).cause = 3) ∧
      getF t (F.STN.ST_IN_FRAMES c.station) = min (getF s (F.STN.ST_IN_FRAMES c.station) + 1) 0xFFFFFFFF ∧
      getF t (F.STN.ST_STATUS c.station) = u32 body 8 % 2 ^ 32 ∧ getF t (F.STN.ST_UP_SEQ_LO c.station) = lo32 (u64 f.payload 20) ∧
      (∀ m, m ≠ c.station → stnState t m = stnState s m) ∧ OnlyParts [.regs, .pimg, .net, .stn, .cont, .host] s t := by
  intro t
  obtain ⟨g, hg, hmoved⟩ := inputFrameApplied_station (c := c) (f := f) (body := body) hs
  obtain ⟨hhigh, hothers, happlied, hactive, habsent, hfields⟩ := applyInput_station (c := c) (f := f) (body := body) (hmoved.rise hs)
  obtain ⟨hframes, hstatus, hseq⟩ := inputFrameShown_shows (c := c) (f := f) (body := body) wf
  have hmark : (markSeen (u64 f.payload 20) (stnState s c.station)).high = u64 f.payload 20 ∧
      (markSeen (u64 f.payload 20) (stnState s c.station)).state = (stnState s c.station).state := by
    rw [markSeen, if_pos hnew]
    exact ⟨rfl, rfl⟩
  have hown : stnState (inputFrameApplied c f body s) c.station = g (markSeen (u64 f.payload 20) (stnState s c.station)) := hmoved.own
  have hlose : canLose (inputFrameApplied c f body s) c.station = canLose s c.station := by
    rw [canLose, canLose, hown, (hg _).1, hmark.2]
  have hreg : ∀ r : Field, 0x1010000 ≤ r.addr → r.addr < 0x1100000 → r.lsb < 32 →
      fieldKey (F.STN.ST_OUT_DISCARDED c.station) ≠ fieldKey r → getF t r = getF (inputFrameShown c f body s) r := fun r hlow hhi hlsb hr =>
    (hfields r (lossFields_apart hlow hhi hlsb hr)).trans (inputFrameApplied_onlyFields c f body s r (sampleCounters_below (by omega)))
  refine ⟨hhigh.trans (by rw [hown, (hg _).2, hmark.1]), happlied.trans hmoved.applied, hactive, fun hleave h => habsent hleave (hlose.trans h),
    (hreg _ ?_ ?_ ?_ ?_).trans hframes, (hreg _ ?_ ?_ ?_ ?_).trans hstatus, (hreg _ ?_ ?_ ?_ ?_).trans hseq,
    fun m hm => (hothers m hm).trans (hmoved.others m hm), onlyParts_of_moves s _ (applyInput_moves c f body s) rfl⟩
  all_goals
    simp only [fieldKey, F.STN.ST_IN_FRAMES, F.STN.ST_STATUS, F.STN.ST_UP_SEQ_LO, F.STN.ST_OUT_DISCARDED]
    omega

/-! ### Losses and summaries -/

theorem station_of_stationCfg (h : stationCfg s n = some c) : c.station = n := by
  unfold stationCfg at h
  exact beq_iff_eq.1 (List.find?_some (p := fun x : StationCfg => x.station == n) h)

theorem stationAbsent_loses (hruns : stnRuns s = true) (hs : keysRise s.stn.stations = true) (hcfg : stationCfg s n = some c)
    (hlose : canLose s n = true) (hcause : attachmentUp s c = false ∨ c.missLimit ≤ (stnState s n).misses) :
    ∃ t, exec (.stationAbsent n) s = .next t ∧ (stnState t n).state = stnAbsent ∧
      (stnState t n).cause = (if attachmentUp s c = true then 1 else 2) ∧ (∀ m, m ≠ n → stnState t m = stnState s m) ∧
      OnlyParts [.regs, .pimg, .net, .stn, .cont, .host] s t := by
  obtain rfl := station_of_stationCfg hcfg
  have hexec : exec (.stationAbsent c.station) s = .next (stationLost c (if attachmentUp s c = true then 1 else 2) s) := by
    show execStationAbsent c.station s = _
    rw [execStationAbsent, hcfg]
    refine congrArg _ ((if_neg (by rw [hruns, hlose]; decide)).trans ?_)
    cases hup : attachmentUp s c
    · rfl
    · exact (if_neg (by decide)).trans (if_pos (hcause.resolve_left (by simp [hup])))
  have hlost := stationMoved_stationLost c (if attachmentUp s c = true then 1 else 2) hs
  refine ⟨_, hexec, ?_, ?_, hlost.others, onlyParts_of_moves s _ (stationLost_moves ..) rfl⟩
  all_goals rw [hlost.own]

theorem stationAbsent_keeps (hcfg : stationCfg s n = some c)
    (hkept : canLose s n = false ∨ (attachmentUp s c = true ∧ (stnState s n).misses < c.missLimit)) :
    exec (.stationAbsent n) s = .next s := by
  show execStationAbsent n s = _
  rw [execStationAbsent, hcfg]
  refine congrArg _ (ite_eq_left_iff.2 fun hruns => ?_)
  obtain ⟨hup, hmisses⟩ := hkept.resolve_left (by simpa using fun h : canLose s n = false => hruns (by simp [h]))
  exact (if_neg (by rw [hup]; decide)).trans (if_neg (Nat.not_le.2 hmisses))

theorem stageEntry_stages {r typ length stamp : Nat} {body : List Nat} (hproduces : ringProduces s r = true)
    (hs : keysRise s.host.staging = true) (hroom : (tableGet [] s.host.staging r).length < 4096) :
    tableGet [] (stageEntry r typ length stamp body s).host.staging r = tableGet [] s.host.staging r ++
      [{ index := getF s (F.HOST.NEXT_INDEX r), typ := typ, length := length, stamp := stamp, body := body }] := by
  have hstaged : stageEntry r typ length stamp body s =
      (let s1 := setF (F.HOST.NEXT_INDEX r) (getF s (F.HOST.NEXT_INDEX r) + 1) s
       { s1 with host := { s1.host with staging := tablePut [] s1.host.staging r (tableGet [] s.host.staging r ++
          [{ index := getF s (F.HOST.NEXT_INDEX r), typ := typ, length := length, stamp := stamp, body := body }]) } }) := by
    rw [stageEntry, hproduces]
    exact (if_neg (by decide)).trans (if_neg (by simp [Nat.not_le.2 hroom]))
  rw [hstaged]
  exact tableGet_put_same _ _ _ _ hs

theorem stationSummary_due (hruns : stnRuns s = true) (hcfg : stationCfg s n = some c) (hdue : s.tick.number % 8000 = n) :
    exec (.stationSummary n) s = .next (stageEntry 8 2 28 (nowStamp s) (stationWords s n) s) := by
  show execStationSummary n s = _
  rw [execStationSummary, hruns, hcfg, hdue, beq_self_eq_true]
  rfl

theorem stationSummary_other (hdue : s.tick.number % 8000 ≠ n) : exec (.stationSummary n) s = .next s := by
  show execStationSummary n s = _
  rw [execStationSummary, beq_false_of_ne hdue, Bool.and_false]
  rfl

end Sys2Proof.Machine
end

section
/-! The statement about stations. -/

namespace Sys2Proof.Certificates

open Sys2Proof Sys2Proof.Machine

/-- Settles O50: the checks in their order, the frame that passes them all, and the losses, over what each leaves of one station's
context. -/
theorem stationsAreHeardAndLost : Obligations.StationsAreHeardAndLost := by
  intro s wf hruns hs turnedAway
  refine ⟨fun f hunknown => ⟨_, exec_inputFrame hruns, ?_⟩, fun f c hcfg _ hbad => ⟨_, exec_inputFrame hruns, ?_⟩,
    fun f c hcfg hn hstate hport haddress hctx hform => ?_, fun n c hcfg _ => ⟨stationAbsent_loses hruns hs hcfg, stationAbsent_keeps hcfg,
      fun hdue => ⟨_, stationSummary_due hruns hcfg hdue, onlyParts_of_moves s _ (stageEntry_moves ..) rfl, stageEntry_stages⟩,
      stationSummary_other⟩⟩
  · rw [receiveInput_unknown hunknown]
    exact turnedAway_bumpF _ rfl wf
  · rw [receiveInput_misplaced hcfg hbad]
    exact turnedAway_bumpF _ rfl wf
  · have hexec : Machine.exec (.inputFrame f) s = .next (checkedInput c f s (frameBody s c f.payload)) :=
      (exec_inputFrame hruns).trans (congrArg _ (receiveInput_checked hcfg hstate hport haddress hctx hform))
    refine ⟨fun hbody => ⟨_, hexec, ?_⟩, fun body hbody => ?_⟩
    · rw [hbody]
      exact turnedAway_emit _ _ _ _ _ rfl wf
    · rw [hbody] at hexec
      refine ⟨fun hold => ⟨_, hexec, ?_⟩, fun hfresh hecho => ⟨_, hexec, ?_⟩, fun hfresh hecho => ⟨fun hnamed => ⟨_, hexec, ?_⟩,
        fun hnamed hold => ⟨_, hexec, ?_⟩, fun hnamed hnew hfull => ⟨_, hexec, ?_⟩, fun hnamed hnew hroom => ⟨_, hexec, ?_⟩⟩⟩
      · rw [checkedInput_replayed hold]
        exact turnedAway_emit _ _ _ _ _ rfl wf
      · rw [checkedInput_unknownEcho hfresh hecho]
        exact turnedAway_emit _ _ _ _ _ rfl wf
      · rw [checkedInput_unnamed hfresh hecho hnamed]
        exact turnedAway_bumpF _ rfl wf
      · rw [checkedInput_named hfresh hecho hnamed, if_pos hold]
        exact lateFrame_marked wf hs hfresh hold
      · rw [checkedInput_named hfresh hecho hnamed, if_neg (Nat.not_le.2 hnew), if_pos hfull]
        exact overload_counted wf
      · rw [checkedInput_named hfresh hecho hnamed, if_neg (Nat.not_le.2 hnew), if_neg (Nat.not_le.2 hroom)]
        exact applyInput_applies wf hn hs hnew

end Sys2Proof.Certificates
end

section
/-! SUPPORT. The CAN ports (R387, R390, R391, R400): what the shared operations on a port write, in its state and in its registers. -/

namespace Sys2Proof.Machine

open Sys2Proof

variable {s t u : State} {c : Nat}

/-! ### One port's state -/

theorem canPort_congr (h : t.can = s.can) (d : Nat) : canPort t d = canPort s d := by rw [canPort, canPort, h]

theorem canPort_updPort_other {d : Nat} (g : CanPort → CanPort) (h : d ≠ c) : canPort (updPort c g s) d = canPort s d := by
  simp [canPort, updPort, listUpd, List.getD_eq_getElem?_getD, List.getElem?_set_ne h.symm]

/-- From `s` to `t` port `c`'s state has changed by `g`, and every other port's stands. -/
structure PortMoved (c : Nat) (g : CanPort → CanPort) (s t : State) : Prop where
  own : canPort t c = g (canPort s c)
  others : ∀ d, d ≠ c → canPort t d = canPort s d

theorem portMoved_trans {g h : CanPort → CanPort} (h1 : PortMoved c g s t) (h2 : PortMoved c h t u) :
    PortMoved c (fun q => h (g q)) s u :=
  ⟨h2.own.trans (congrArg h h1.own), fun d hd => (h2.others d hd).trans (h1.others d hd)⟩

theorem portMoved_of_can (h : t.can = s.can) : PortMoved c id s t := ⟨canPort_congr h c, fun d _ => canPort_congr h d⟩

theorem portMoved_of_moves {m : Nat} (h : Moves m s t) (hm : m.testBit 18 = false) : PortMoved c id s t :=
  portMoved_of_can (h.frame .can hm)

theorem portMoved_then {m : Nat} {g : CanPort → CanPort} (h : PortMoved c g s t) (hrest : Moves m t u) (hm : m.testBit 18 = false) :
    PortMoved c g s u :=
  have hcan : u.can = t.can := hrest.frame .can hm
  ⟨(canPort_congr hcan c).trans h.own, fun d hd => (canPort_congr hcan d).trans (h.others d hd)⟩

theorem portMoved_updPort (g : CanPort → CanPort) (hc : c < 4) (wf : WellKept s) : PortMoved c g s (updPort c g s) :=
  ⟨canPort_updPort g hc wf, fun _ hd => canPort_updPort_other g hd⟩

/-! ### Queues and errors shown -/

/-- Q_FILL of the port's four queues. -/
def fillFields (c : Nat) : List Field :=
  [F.CAN.Q_FILL (4 * c), F.CAN.Q_FILL (4 * c + 1), F.CAN.Q_FILL (4 * c + 2), F.CAN.Q_FILL (4 * c + 3)]

theorem showQueues_onlyFields (c : Nat) (s : State) : OnlyFields (fillFields c) s (showQueues c s) :=
  onlyFields_setF (by simp [fillFields]) (onlyFields_setF (by simp [fillFields]) (onlyFields_setF (by simp [fillFields])
    (onlyFields_setF (by simp [fillFields]) onlyFields_refl)))

/-- The fields that show that a port is error-passive or bus-off. -/
def errorFlags : List Field := [F.CAN.STATUS_PASSIVE_ANY, F.CAN.STATUS_BUS_OFF_ANY]

theorem showErrors_onlyFields (s : State) : OnlyFields errorFlags s (showErrors s) :=
  onlyFields_setF (by simp [errorFlags]) (onlyFields_setF (by simp [errorFlags]) onlyFields_refl)

/-- The fields that a change of a port's error counters writes. -/
def errorFields (c : Nat) : List Field :=
  [F.CAN.ERROR_COUNTERS_TEC c, F.CAN.ERROR_COUNTERS_REC c, F.CAN.PORT_STATE_ERROR_STATE c] ++ errorFlags

theorem showErrors_errorFields (c : Nat) (s : State) : OnlyFields (errorFields c) s (showErrors s) :=
  onlyFields_mono (showErrors_onlyFields s) (List.subset_append_right ..)

theorem setCounters_onlyFields (c tec rec : Nat) (s : State) : OnlyFields (errorFields c) s (setCounters c tec rec s) := by
  unfold setCounters
  extract_lets was s1 passive s2
  have h1 : OnlyFields (errorFields c) s s1 :=
    onlyFields_setF (by simp [errorFields]) (onlyFields_setF (by simp [errorFields]) onlyFields_refl)
  have hstate : OnlyFields (errorFields c) s (setF (F.CAN.PORT_STATE_ERROR_STATE c) (ofBool passive) s1) :=
    onlyFields_setF (by simp [errorFields]) h1
  have h2 : OnlyFields (errorFields c) s s2 := onlyFields_trans hstate (showErrors_errorFields c _)
  exact onlyFields_ite h1 (onlyFields_ite (onlyFields_emit h2) (onlyFields_ite (onlyFields_emit h2) h2))

/-- They are apart from the other registers of the ports. -/
theorem errorFields_apart {f : Field} (hport : 0x1100108 + 0x100 * c ≤ f.addr)
    (hlsb : f.lsb < 32) : ∀ g ∈ errorFields c, fieldKey g ≠ fieldKey f := by
  simp only [errorFields, errorFlags, List.cons_append, List.nil_append, List.forall_mem_cons, fieldKey, F.CAN.ERROR_COUNTERS_TEC,
    F.CAN.ERROR_COUNTERS_REC, F.CAN.PORT_STATE_ERROR_STATE, F.CAN.STATUS_PASSIVE_ANY, F.CAN.STATUS_BUS_OFF_ANY]
  exact ⟨by omega, by omega, by omega, by omega, by omega, by simp⟩

theorem getF_showErrors (f : Field) (hport : 0x1100100 ≤ f.addr) (s : State) : getF (showErrors s) f = getF s f := by
  refine showErrors_onlyFields s f ?_
  simp only [errorFlags, List.forall_mem_cons, fieldKey, F.CAN.STATUS_PASSIVE_ANY, F.CAN.STATUS_BUS_OFF_ANY]
  exact ⟨by omega, by omega, by simp⟩

/-- The counters that `setCounters` shows, and the state that it puts an error-active or error-passive port in. -/
theorem setCounters_shows {tec rec : Nat} (htec : tec ≤ 256) (wf : WellKept s) :
    getF (setCounters c tec rec s) (F.CAN.ERROR_COUNTERS_TEC c) = tec ∧
      (rec ≤ 255 → getF (setCounters c tec rec s) (F.CAN.ERROR_COUNTERS_REC c) = rec) ∧
      (canError s c < 2 → canError (setCounters c tec rec s) c = ofBool (decide (tec ≥ 128) || decide (rec ≥ 128))) := by
  unfold setCounters
  extract_lets was s1 passive s2
  have hapart : fieldKey (F.CAN.ERROR_COUNTERS_TEC c) ≠ fieldKey (F.CAN.ERROR_COUNTERS_REC c) := by
    simp only [fieldKey, F.CAN.ERROR_COUNTERS_TEC, F.CAN.ERROR_COUNTERS_REC]
    omega
  have hrise : keysRise (setF (F.CAN.ERROR_COUNTERS_REC c) (min rec 255) s).regs = true := setF_keysRise _ _ _ wf.regs
  have htec1 : getF s1 (F.CAN.ERROR_COUNTERS_TEC c) = tec :=
    (getF_setF_lt hrise (show min tec 256 < 512 by omega)).trans (Nat.min_eq_left htec)
  have hrec1 : rec ≤ 255 → getF s1 (F.CAN.ERROR_COUNTERS_REC c) = rec := fun hrec =>
    (getF_setF_other _ _ _ _ hapart).trans ((getF_setF_lt wf.regs (show min rec 255 < 256 by omega)).trans (Nat.min_eq_left hrec))
  by_cases hwas : was ≥ 2
  · rw [if_pos hwas]
    exact ⟨htec1, hrec1, fun h => absurd h (Nat.not_lt.2 hwas)⟩
  · rw [if_neg hwas]
    have hend : ∀ f, getF (if passive && was = 0 then emit 0x1101 c tec rec s2
        else if !passive && was = 1 then emit 0x1102 c tec rec s2 else s2) f = getF s2 f := fun f => by
      split
      · exact getF_emit ..
      · split
        · exact getF_emit ..
        · rfl
    have hs1 : keysRise s1.regs = true := setF_keysRise _ _ _ hrise
    have hstate : ∀ f, fieldKey (F.CAN.PORT_STATE_ERROR_STATE c) ≠ fieldKey f → 0x1100100 ≤ f.addr → getF s2 f = getF s1 f :=
      fun f hf hport => (getF_showErrors f hport _).trans (getF_setF_other _ _ _ _ hf)
    refine ⟨?_, fun hrec => ?_, fun _ => ?_⟩
    · rw [hend, hstate _ (by simp only [fieldKey, F.CAN.PORT_STATE_ERROR_STATE, F.CAN.ERROR_COUNTERS_TEC]; omega)
        (Nat.le_add_right_of_le (by decide)), htec1]
    · rw [hend, hstate _ (by simp only [fieldKey, F.CAN.PORT_STATE_ERROR_STATE, F.CAN.ERROR_COUNTERS_REC]; omega)
        (Nat.le_add_right_of_le (by decide)), hrec1 hrec]
    · rw [canError, hend, getF_showErrors _ (Nat.le_add_right ..), getF_setF_lt hs1 (show ofBool passive < 4 by cases passive <;> decide)]

/-! ### A buffer's registers -/

/-- The fields of a buffer that its message and its stamp occupy. -/
def messageFields (c b : Nat) : List Field :=
  [F.CAN.BUF_STAMP_LO c b, F.CAN.BUF_STAMP_HI c b, F.CAN.BUF_ID c b, F.CAN.BUF_STATUS_DLC c b] ++ (List.range 16).map (F.CAN.BUF_DATA c b)

theorem putMessage_onlyFields (c b idWord dlc data : Nat) (s : State) :
    OnlyFields (messageFields c b) s (putMessage c b idWord dlc data s) :=
  onlyFields_trans (onlyFields_setF (by simp [messageFields]) (onlyFields_setF (by simp [messageFields]) onlyFields_refl))
    (onlyFields_foldl fun _ hk _ => onlyFields_setF (List.mem_append_right _ (List.mem_map_of_mem hk)) onlyFields_refl)

theorem putStamp_onlyFields (c b stamp : Nat) (s : State) : OnlyFields (messageFields c b) s (putStamp c b stamp s) :=
  onlyFields_setF (by simp [messageFields]) (onlyFields_setF (by simp [messageFields]) onlyFields_refl)

/-- They are apart from every register outside the buffer, and from the buffer's other fields. -/
theorem messageFields_apart {b : Nat} {f : Field} (hlsb : f.lsb < 32)
    (h : f.addr < 0x1110000 + 0x8000 * c + 0x80 * b ∨ 0x1110080 + 0x8000 * c + 0x80 * b ≤ f.addr ∨
      (f.addr = 0x1110000 + 0x8000 * c + 0x80 * b ∧ f.lsb ≠ 8)) : ∀ g ∈ messageFields c b, fieldKey g ≠ fieldKey f := by
  simp only [messageFields, List.cons_append, List.nil_append, List.forall_mem_cons, List.forall_mem_map, fieldKey,
    F.CAN.BUF_STAMP_LO, F.CAN.BUF_STAMP_HI, F.CAN.BUF_ID, F.CAN.BUF_STATUS_DLC, F.CAN.BUF_DATA]
  refine ⟨by omega, by omega, by omega, by omega, fun k hk => ?_⟩
  have hk16 := List.mem_range.1 hk
  omega

/-- The fields of a buffer that a received frame writes. -/
def bufferFields (c b : Nat) : List Field :=
  [F.CAN.BUF_STATUS_SEQ c b, F.CAN.BUF_STATUS_NEW_DATA c b, F.CAN.BUF_STATUS_ESI c b] ++ messageFields c b

theorem bufferFields_apart {b : Nat} {f : Field} (h : f.addr < 0x1110000 + 0x8000 * c + 0x80 * b ∨ 0x1110080 + 0x8000 * c + 0x80 * b ≤ f.addr)
    (hlsb : f.lsb < 32) : ∀ g ∈ bufferFields c b, fieldKey g ≠ fieldKey f := by
  have hmessage : ∀ g ∈ messageFields c b, fieldKey g ≠ fieldKey f := messageFields_apart hlsb (h.imp_right Or.inl)
  simp only [bufferFields, List.cons_append, List.nil_append, List.forall_mem_cons, fieldKey,
    F.CAN.BUF_STATUS_SEQ, F.CAN.BUF_STATUS_NEW_DATA, F.CAN.BUF_STATUS_ESI]
  exact ⟨by omega, by omega, by omega, hmessage⟩

theorem fillBuffer_onlyFields (c b : Nat) (f : CanFrame) (s : State) : OnlyFields (bufferFields c b) s (fillBuffer c b f s) := by
  unfold fillBuffer
  extract_lets data s1
  have hmessage : OnlyFields (messageFields c b) s s1 := onlyFields_trans (putMessage_onlyFields c b _ _ data s) (putStamp_onlyFields c b _ _)
  have h1 : OnlyFields (bufferFields c b) s s1 := onlyFields_mono hmessage (List.subset_append_right ..)
  exact onlyFields_setF (by simp [bufferFields]) (onlyFields_setF (by simp [bufferFields]) (onlyFields_setF (by simp [bufferFields]) h1))

/-- A buffer that ages changes no register but its own AGED. -/
theorem ageBuffer_onlyFields (c : Nat) (p : CanPortCfg) (b : CanBufCfg) (s : State) :
    OnlyFields [F.CAN.BUF_STATUS_AGED c b.buffer] s (ageBuffer c p b s) := by
  unfold ageBuffer
  split
  · exact onlyFields_refl
  · extract_lets s1 s2
    have h1 : OnlyFields [F.CAN.BUF_STATUS_AGED c b.buffer] s s1 :=
      onlyFields_foldl fun _ _ v f _ => getF_congr v _ f (declareAbsent_regs _ v)
    have h2 : OnlyFields [F.CAN.BUF_STATUS_AGED c b.buffer] s s2 := h1
    exact onlyFields_emit (onlyFields_setF (by simp) h2)

theorem ageBuffer_aged (c : Nat) (p : CanPortCfg) (b : CanBufCfg) (wf : WellKept s) :
    flag (ageBuffer c p b s) (F.CAN.BUF_STATUS_AGED c b.buffer) = true := by
  unfold ageBuffer
  split
  next h => exact h
  · extract_lets s1 s2
    have hmoves : Moves 0x40020 s s2 :=
      moves_step (updPort_moves ..) rfl (moves_foldl moves_refl fun _ _ h => moves_step (declareAbsent_moves ..) rfl h)
    rw [flag, getF_emit]
    exact flag_setF_one _ rfl (hmoves.form wf).regs

/-- The state of its port changes in the ages alone. -/
theorem ageBuffer_port (p : CanPortCfg) (b : CanBufCfg) (hc : c < 4) (wf : WellKept s) :
    ∃ ages, PortMoved c (fun q => { q with ages := ages }) s (ageBuffer c p b s) := by
  unfold ageBuffer
  split
  · exact ⟨(canPort s c).ages, rfl, fun _ _ => rfl⟩
  · extract_lets s1 s2
    have hmoves : Moves 0x20 s s1 := moves_foldl moves_refl fun _ _ h => moves_step (declareAbsent_moves ..) rfl h
    have hend : Moves 0x200002 s2 (emit 0x1106 c b.buffer b.maxAge (setF (F.CAN.BUF_STATUS_AGED c b.buffer) 1 s2)) :=
      moves_step (emit_moves ..) rfl (moves_step (setF_moves ..) rfl moves_refl)
    have h1 : PortMoved c id s s1 := portMoved_of_moves hmoves rfl
    have h2 : PortMoved c _ s1 s2 := portMoved_updPort _ hc (hmoves.form wf)
    have h3 := portMoved_trans (portMoved_trans h1 h2) (portMoved_of_moves hend rfl)
    exact ⟨_, h3.own, h3.others⟩

end Sys2Proof.Machine
end

section
/-! SUPPORT. Reception on a CAN port (R388, R390, R391): what each stage of a received frame writes. -/

namespace Sys2Proof.Machine

open Sys2Proof

variable {s t : State} {c : Nat} {p : CanPortCfg} {f : CanFrame}

/-! ### The count of frames -/

/-- A received frame counted, with REC lowered. -/
def frameCounted (c : Nat) (s : State) : State :=
  setCounters c (getF s (F.CAN.ERROR_COUNTERS_TEC c)) (getF s (F.CAN.ERROR_COUNTERS_REC c) - 1) (bumpF (F.CAN.RX_FRAMES c) 1 s)

theorem lowerRec_counted (hrec : getF s (F.CAN.ERROR_COUNTERS_REC c) ≤ 127) :
    lowerRec c (bumpF (F.CAN.RX_FRAMES c) 1 s) = frameCounted c s := by
  have hrecKept : getF (bumpF (F.CAN.RX_FRAMES c) 1 s) (F.CAN.ERROR_COUNTERS_REC c) = getF s (F.CAN.ERROR_COUNTERS_REC c) :=
    getF_bumpF_other _ _ _ _ (by simp only [fieldKey, F.CAN.RX_FRAMES, F.CAN.ERROR_COUNTERS_REC]; omega)
  have htecKept : getF (bumpF (F.CAN.RX_FRAMES c) 1 s) (F.CAN.ERROR_COUNTERS_TEC c) = getF s (F.CAN.ERROR_COUNTERS_TEC c) :=
    getF_bumpF_other _ _ _ _ (by simp only [fieldKey, F.CAN.RX_FRAMES, F.CAN.ERROR_COUNTERS_TEC]; omega)
  rw [lowerRec, hrecKept, htecKept]
  exact if_neg (Nat.not_lt.2 hrec)

theorem frameCounted_moves (c : Nat) (s : State) : Moves 0x200002 s (frameCounted c s) :=
  moves_step (setCounters_moves ..) rfl (moves_step (bumpF_moves ..) rfl moves_refl)

/-- The count stands in RX_FRAMES, and the port's other registers but TEC, REC and ERROR_STATE stand. -/
theorem frameCounted_shows (wf : WellKept s) :
    getF (frameCounted c s) (F.CAN.RX_FRAMES c) = min (getF s (F.CAN.RX_FRAMES c) + 1) 0xFFFFFFFF ∧
      ∀ g : Field, 0x1100114 + 0x100 * c ≤ g.addr → g.lsb < 32 → getF (frameCounted c s) g = getF s g := by
  have herror : ∀ g : Field, 0x1100108 + 0x100 * c ≤ g.addr → g.lsb < 32 →
      getF (frameCounted c s) g = getF (bumpF (F.CAN.RX_FRAMES c) 1 s) g :=
    fun g haddr hlsb => setCounters_onlyFields c _ _ _ g (errorFields_apart haddr hlsb)
  refine ⟨?_, fun g haddr hlsb => ?_⟩
  · rw [herror _ (by simp only [F.CAN.RX_FRAMES]; omega) (by simp [F.CAN.RX_FRAMES]), getF_bumpF_same _ _ _ rfl wf.regs]
  · rw [herror g (by omega) hlsb]
    exact getF_bumpF_other _ _ _ _ (by simp only [fieldKey, F.CAN.RX_FRAMES]; omega)

/-! ### A frame's way -/

/-- The high-priority buffer takes the frame where its filter says so. -/
def raiseHigh (c : Nat) (x : CanFilter) (f : CanFrame) (s : State) : State :=
  if x.highPriority then raiseCause (16 + c) (fillBuffer c 128 f s) else s

/-- The frame goes onto the host's ring where its filter says so. -/
def passToHost (c : Nat) (x : CanFilter) (f : CanFrame) (stamp : Nat) (s : State) : State :=
  if x.host then stageCan c f.fdf f.brs f.ide f.esi false f.dlc f.id (f.data % 2 ^ (8 * dlcBytes f.dlc)) stamp s else s

/-- The way of a frame that has been counted. -/
def takeFrame (c : Nat) (p : CanPortCfg) (f : CanFrame) (stamp : Nat) (s : State) : State :=
  if f.remote then bumpF (F.CAN.RX_ERRORS c) 1 s
  else match filterFor p f with
    | none => bumpF (F.CAN.RX_UNMATCHED c) 1 s
    | some x => passToHost c x f stamp (raiseHigh c x f (match bufCfg p x.buffer with
      | some b => receiveInto c p b f s
      | none => s))

theorem exec_canFrameRx (hcfg : canCfg s c = some p) (hruns : canRuns s = true) (hmode : canMode s c ≠ 0) (herror : canError s c < 2)
    (hrec : getF s (F.CAN.ERROR_COUNTERS_REC c) ≤ 127) :
    exec (.canFrameRx c f) s = .next (takeFrame c p f (canStamp c f s) (frameCounted c s)) := by
  show execCanFrameRx c f s = _
  have hup : ¬ (!canRuns s || decide (canMode s c = 0) || decide (canError s c ≥ 2)) = true := by
    simp [hruns, hmode, herror]
  rw [execCanFrameRx, hcfg, ← lowerRec_counted hrec]
  exact congrArg _ (if_neg hup)

theorem takeFrame_remote (stamp : Nat) (h : f.remote = true) : takeFrame c p f stamp s = bumpF (F.CAN.RX_ERRORS c) 1 s := by
  rw [takeFrame, if_pos h]

theorem takeFrame_unmatched (stamp : Nat) (h : f.remote = false) (hfilter : filterFor p f = none) :
    takeFrame c p f stamp s = bumpF (F.CAN.RX_UNMATCHED c) 1 s := by
  rw [takeFrame, if_neg (by rw [h]; decide), hfilter]

theorem takeFrame_taken {x : CanFilter} {b : CanBufCfg} (stamp : Nat) (h : f.remote = false) (hfilter : filterFor p f = some x)
    (hbuf : bufCfg p x.buffer = some b) :
    takeFrame c p f stamp s = passToHost c x f stamp (raiseHigh c x f (receiveInto c p b f s)) := by
  rw [takeFrame, if_neg (by rw [h]; decide), hfilter]
  dsimp only
  rw [hbuf]

/-- A frame that goes no further than a counter of the port. -/
theorem frame_dropped {g : Field} (hw : g.width = 32) (hg : 0x1100114 + 0x100 * c ≤ g.addr) (hlsb : g.lsb < 32) (wf : WellKept s) :
    getF (bumpF g 1 (frameCounted c s)) (F.CAN.RX_FRAMES c) = min (getF s (F.CAN.RX_FRAMES c) + 1) 0xFFFFFFFF ∧
      getF (bumpF g 1 (frameCounted c s)) g = min (getF s g + 1) 0xFFFFFFFF ∧
      OnlyParts [.regs, .cont] s (bumpF g 1 (frameCounted c s)) := by
  obtain ⟨hframes, hkept⟩ := frameCounted_shows (c := c) wf
  have hmoves : Moves 0x200002 s (bumpF g 1 (frameCounted c s)) :=
    moves_step (bumpF_moves ..) rfl (frameCounted_moves c s)
  refine ⟨?_, ?_, onlyParts_of_moves s _ hmoves rfl⟩
  · rw [getF_bumpF_other _ _ _ _ (by simp only [fieldKey, F.CAN.RX_FRAMES]; omega), hframes]
  · rw [getF_bumpF_same _ _ _ hw ((frameCounted_moves c s).form wf).regs, hkept g hg hlsb]

/-! ### Filling a buffer (R391) -/

/-- A frame stands in buffer `b` of port `c`. -/
structure FrameIn (c b : Nat) (f : CanFrame) (t : State) : Prop where
  fresh : flag t (F.CAN.BUF_STATUS_NEW_DATA c b) = true
  dlc : getF t (F.CAN.BUF_STATUS_DLC c b) = f.dlc
  id : getF t (F.CAN.BUF_ID c b) = bufIdWord f.id f.fdf f.brs f.ide
  data : ∀ k, k < 16 → getF t (F.CAN.BUF_DATA c b k) = f.data % 2 ^ (8 * dlcBytes f.dlc) / 2 ^ (32 * k) % 2 ^ 32

theorem frameIn_keeps {b : Nat} {fs : List Field} (h : FrameIn c b f s) (hkeep : OnlyFields fs s t)
    (hfs : ∀ g : Field, 0x1110000 + 0x8000 * c + 0x80 * b ≤ g.addr → g.addr < 0x1110080 + 0x8000 * c + 0x80 * b → g.lsb < 32 →
      ∀ x ∈ fs, fieldKey x ≠ fieldKey g) : FrameIn c b f t := by
  obtain ⟨hfresh, hdlc, hid, hdata⟩ := h
  refine ⟨?_, ?_, ?_, fun k hk => ?_⟩
  · rw [flag, hkeep _ (hfs _ (by simp [F.CAN.BUF_STATUS_NEW_DATA]) (by simp only [F.CAN.BUF_STATUS_NEW_DATA]; omega) (show 0 < 32 by decide))]
    exact hfresh
  · rw [hkeep _ (hfs _ (by simp [F.CAN.BUF_STATUS_DLC]) (by simp only [F.CAN.BUF_STATUS_DLC]; omega) (show 8 < 32 by decide)), hdlc]
  · rw [hkeep _ (hfs _ (by simp only [F.CAN.BUF_ID]; omega) (by simp only [F.CAN.BUF_ID]; omega) (show 0 < 32 by decide)), hid]
  · rw [hkeep _ (hfs _ (by simp only [F.CAN.BUF_DATA]; omega) (by simp only [F.CAN.BUF_DATA]; omega) (show 0 < 32 by decide)), hdata k hk]

theorem getF_dataWords {b data : Nat} {k n : Nat} (hk : k < n) (h : keysRise s.regs = true) :
    getF ((List.range n).foldl (fun v j => setF (F.CAN.BUF_DATA c b j) (data / 2 ^ (32 * j)) v) s) (F.CAN.BUF_DATA c b k) =
      data / 2 ^ (32 * k) % 2 ^ 32 := by
  have hrise : ∀ m, keysRise ((List.range m).foldl (fun v j => setF (F.CAN.BUF_DATA c b j) (data / 2 ^ (32 * j)) v) s).regs = true := by
    intro m
    induction m with
    | zero => exact h
    | succ m ih =>
      rw [List.range_succ, List.foldl_append]
      exact setF_keysRise _ _ _ ih
  induction n with
  | zero => omega
  | succ n ih =>
    rw [List.range_succ, List.foldl_append]
    by_cases hlast : k = n
    · subst hlast
      exact getF_setF_same _ _ _ (hrise k)
    · exact (getF_setF_other _ _ _ _ (by simp only [fieldKey, F.CAN.BUF_DATA]; omega)).trans (ih (by omega))

theorem bufIdWord_lt (hid : f.id < 2 ^ 29) : bufIdWord f.id f.fdf f.brs f.ide < 2 ^ 32 := by
  have hbit : ∀ b : Bool, ofBool b ≤ 1 := fun b => by cases b <;> decide
  have h1 := hbit f.fdf
  have h2 := hbit f.brs
  have h3 := hbit f.ide
  unfold bufIdWord
  omega

/-- What a message leaves in its buffer: identifier, DLC and the sixteen words of data. -/
theorem putMessage_shows {b idWord dlc data : Nat} (hid : idWord < 2 ^ 32) (hdlc : dlc < 16) (h : keysRise s.regs = true) :
    getF (putMessage c b idWord dlc data s) (F.CAN.BUF_STATUS_DLC c b) = dlc ∧
      getF (putMessage c b idWord dlc data s) (F.CAN.BUF_ID c b) = idWord ∧
      ∀ k, k < 16 → getF (putMessage c b idWord dlc data s) (F.CAN.BUF_DATA c b k) = data / 2 ^ (32 * k) % 2 ^ 32 := by
  have hdlcRise : keysRise (setF (F.CAN.BUF_STATUS_DLC c b) dlc s).regs = true := setF_keysRise _ _ _ h
  have hwords : ∀ g : Field, g.addr < 0x1110040 + 0x8000 * c + 0x80 * b → g.lsb < 32 → getF (putMessage c b idWord dlc data s) g =
      getF (setF (F.CAN.BUF_ID c b) idWord (setF (F.CAN.BUF_STATUS_DLC c b) dlc s)) g := by
    intro g hg hlsb
    refine onlyFields_foldl (fs := (List.range 16).map (F.CAN.BUF_DATA c b))
      (fun _ hk _ => onlyFields_setF (List.mem_map_of_mem hk) onlyFields_refl) g ?_
    simp only [List.forall_mem_map, fieldKey, F.CAN.BUF_DATA]
    omega
  refine ⟨?_, ?_, fun k hk => getF_dataWords hk (setF_keysRise _ _ _ hdlcRise)⟩
  · rw [hwords _ (by simp only [F.CAN.BUF_STATUS_DLC]; omega) (by simp [F.CAN.BUF_STATUS_DLC]),
      getF_setF_other _ _ _ _ (by simp only [fieldKey, F.CAN.BUF_STATUS_DLC, F.CAN.BUF_ID]; omega)]
    exact getF_setF_lt h hdlc
  · rw [hwords _ (by simp only [F.CAN.BUF_ID]; omega) (by simp [F.CAN.BUF_ID])]
    exact getF_setF_lt hdlcRise hid

/-- The fields that show that a buffer has been filled anew, with its stamp. -/
def newsFields (c b : Nat) : List Field :=
  [F.CAN.BUF_STATUS_SEQ c b, F.CAN.BUF_STATUS_NEW_DATA c b, F.CAN.BUF_STATUS_ESI c b, F.CAN.BUF_STAMP_LO c b, F.CAN.BUF_STAMP_HI c b]

theorem newsFields_apart {b : Nat} {g : Field}
    (h : fieldKey g = fieldKey (F.CAN.BUF_STATUS_DLC c b) ∨ fieldKey g = fieldKey (F.CAN.BUF_ID c b) ∨
      ∃ k, fieldKey g = fieldKey (F.CAN.BUF_DATA c b k)) : ∀ x ∈ newsFields c b, fieldKey x ≠ fieldKey g := by
  simp only [newsFields, List.forall_mem_cons, fieldKey, F.CAN.BUF_STATUS_SEQ, F.CAN.BUF_STATUS_NEW_DATA, F.CAN.BUF_STATUS_ESI,
    F.CAN.BUF_STAMP_LO, F.CAN.BUF_STAMP_HI, F.CAN.BUF_STATUS_DLC, F.CAN.BUF_ID, F.CAN.BUF_DATA] at h ⊢
  obtain h | h | ⟨k, h⟩ := h <;> exact ⟨by omega, by omega, by omega, by omega, by omega, by simp⟩

theorem fillBuffer_shows {b : Nat} (hid : f.id < 2 ^ 29) (hdlc : f.dlc < 16) (wf : WellKept s) :
    FrameIn c b f (fillBuffer c b f s) ∧
      getF (fillBuffer c b f s) (F.CAN.BUF_STATUS_SEQ c b) = (getF s (F.CAN.BUF_STATUS_SEQ c b) + 1) % 256 := by
  unfold fillBuffer
  extract_lets data s1
  obtain ⟨hdlcShown, hidShown, hdataShown⟩ :=
    putMessage_shows (c := c) (b := b) (data := data) (bufIdWord_lt hid) hdlc wf.regs
  have hstamped : OnlyFields (newsFields c b) (putMessage c b (bufIdWord f.id f.fdf f.brs f.ide) f.dlc data s) s1 :=
    onlyFields_setF (by simp [newsFields]) (onlyFields_setF (by simp [newsFields]) onlyFields_refl)
  have h1 : Moves 0x2 s s1 := moves_step (putStamp_moves ..) rfl (moves_step (putMessage_moves ..) rfl moves_refl)
  have hs1 : keysRise s1.regs = true := (h1.form wf).regs
  have hesi : keysRise (setF (F.CAN.BUF_STATUS_ESI c b) (ofBool f.esi) s1).regs = true := setF_keysRise _ _ _ hs1
  have hend : OnlyFields (newsFields c b) (putMessage c b (bufIdWord f.id f.fdf f.brs f.ide) f.dlc data s)
      (setF (F.CAN.BUF_STATUS_SEQ c b) (getF s1 (F.CAN.BUF_STATUS_SEQ c b) + 1)
        (setF (F.CAN.BUF_STATUS_NEW_DATA c b) 1 (setF (F.CAN.BUF_STATUS_ESI c b) (ofBool f.esi) s1))) :=
    onlyFields_setF (by simp [newsFields]) (onlyFields_setF (by simp [newsFields]) (onlyFields_setF (by simp [newsFields]) hstamped))
  have hseq : getF s1 (F.CAN.BUF_STATUS_SEQ c b) = getF s (F.CAN.BUF_STATUS_SEQ c b) := by
    have hmessage : OnlyFields (messageFields c b) s s1 :=
      onlyFields_trans (putMessage_onlyFields c b _ _ data s) (putStamp_onlyFields c b _ _)
    exact hmessage _ (messageFields_apart (show 16 < 32 by decide) (Or.inr (Or.inr ⟨rfl, show 16 ≠ 8 by decide⟩)))
  refine ⟨⟨?_, ?_, ?_, fun k hk => ?_⟩, ?_⟩
  · rw [flag_setF_other _ _ _ (by simp only [fieldKey, F.CAN.BUF_STATUS_SEQ, F.CAN.BUF_STATUS_NEW_DATA]; omega)]
    exact flag_setF_one _ rfl hesi
  · rw [hend _ (newsFields_apart (Or.inl rfl)), hdlcShown]
  · rw [hend _ (newsFields_apart (Or.inr (Or.inl rfl))), hidShown]
  · rw [hend _ (newsFields_apart (Or.inr (Or.inr ⟨k, rfl⟩))), hdataShown k hk]
  · rw [getF_setF_same _ _ _ (setF_keysRise _ _ _ hesi), hseq]
    rfl

/-! ### A buffer that receives (R390, R391) -/

/-- A buffer's age runs anew, and it is AGED no more. -/
def ageRestarted (c b : Nat) (s : State) : State :=
  let a := tableGet {} (canPort s c).ages b
  let s0 := updPort c (fun q => { q with ages := tablePut {} q.ages b { since := s.tick.number + 1 } }) s
  if flag s0 (F.CAN.BUF_STATUS_AGED c b) then
    emit 0x1107 c b (s0.tick.number - a.agedAt) (setF (F.CAN.BUF_STATUS_AGED c b) 0 s0)
  else s0

/-- The signals of a frame of the right length are written; any other frame counts as an error. -/
def bringSignals (c : Nat) (p : CanPortCfg) (b : CanBufCfg) (f : CanFrame) (stamp : Nat) (s : State) : State :=
  if f.dlc ≠ b.dlc then bumpF (F.CAN.RX_ERRORS c) 1 s
  else (bufSignals p b).foldl (fun t x =>
    sampleIn 17 x.point (decodeSignal x (((pointCfg t x.point).map PointCfg.typ).getD 0) f.data) stamp t) s

theorem receiveInto_fills {b : CanBufCfg} (hhalted : bufHalted s c b.buffer = false) (herror : f.bufferError = none) :
    receiveInto c p b f s = bringSignals c p b f (canStamp c f s) (fillBuffer c b.buffer f (ageRestarted c b.buffer s)) := by
  rw [receiveInto, hhalted, herror]
  rfl

theorem ageRestarted_moves (c b : Nat) (s : State) : Moves 0x240002 s (ageRestarted c b s) := by
  unfold ageRestarted
  extract_lets a s0
  have h0 : Moves 0x240002 s s0 := moves_step (updPort_moves ..) rfl moves_refl
  exact moves_ite (moves_step (emit_moves ..) rfl (moves_step (setF_moves ..) rfl h0)) h0

theorem ageRestarted_onlyFields (c b : Nat) (s : State) : OnlyFields [F.CAN.BUF_STATUS_AGED c b] s (ageRestarted c b s) := by
  unfold ageRestarted
  extract_lets a s0
  have h0 : OnlyFields [F.CAN.BUF_STATUS_AGED c b] s s0 := onlyFields_refl
  exact onlyFields_ite (onlyFields_emit (onlyFields_setF (by simp) h0)) h0

theorem ageRestarted_shows {b : Nat} (hc : c < 4) (wf : WellKept s) (hages : keysRise (canPort s c).ages = true) :
    flag (ageRestarted c b s) (F.CAN.BUF_STATUS_AGED c b) = false ∧
      (tableGet {} (canPort (ageRestarted c b s) c).ages b).since = s.tick.number + 1 := by
  unfold ageRestarted
  extract_lets a s0
  have hport : canPort s0 c = _ := canPort_updPort _ hc wf
  have hage : (tableGet {} (canPort s0 c).ages b).since = s.tick.number + 1 := by
    rw [hport]
    exact congrArg CanAge.since (tableGet_put_same (α := CanAge) {} _ b { since := s.tick.number + 1 } hages)
  split
  · have hend : Moves 0x200002 s0 (emit 0x1107 c b (s0.tick.number - a.agedAt) (setF (F.CAN.BUF_STATUS_AGED c b) 0 s0)) :=
      moves_step (emit_moves ..) rfl (moves_step (setF_moves ..) rfl moves_refl)
    refine ⟨?_, ?_⟩
    · have hs0 : keysRise s0.regs = true := wf.regs
      rw [flag, getF_emit, getF_setF_same _ _ _ hs0]
      rfl
    · rw [canPort_congr (hend.frame .can rfl), hage]
  next h => exact ⟨Bool.eq_false_iff.2 h, hage⟩

theorem bringSignals_moves (b : CanBufCfg) (stamp : Nat) (s : State) : Moves 0x200022 s (bringSignals c p b f stamp s) :=
  moves_ite (moves_step (bumpF_moves ..) rfl moves_refl)
    (moves_foldl moves_refl fun _ _ h => moves_step (sampleIn_moves ..) rfl h)

theorem bringSignals_onlyFields (b : CanBufCfg) (stamp : Nat) (s : State) :
    OnlyFields (F.CAN.RX_ERRORS c :: sampleCounters) s (bringSignals c p b f stamp s) :=
  onlyFields_ite (onlyFields_bumpF (by simp) onlyFields_refl) (onlyFields_foldl fun _ _ v =>
    onlyFields_mono (sampleIn_onlyFields 17 _ _ stamp v) (List.subset_cons_self ..))

/-! ### The rest of the way -/

theorem raiseHigh_onlyFields (c : Nat) (x : CanFilter) (f : CanFrame) (s : State) :
    OnlyFields (bufferFields c 128 ++ causeFields) s (raiseHigh c x f s) :=
  onlyFields_ite (onlyFields_trans (onlyFields_mono (fillBuffer_onlyFields c 128 f s) (List.subset_append_left ..))
    (onlyFields_mono (raiseCause_onlyFields (16 + c) _) (List.subset_append_right ..))) onlyFields_refl

theorem raiseHigh_moves (c : Nat) (x : CanFilter) (f : CanFrame) (s : State) : Moves 0x400002 s (raiseHigh c x f s) :=
  moves_ite (moves_step (raiseCause_moves ..) rfl (moves_step (fillBuffer_moves ..) rfl moves_refl)) moves_refl

theorem passToHost_onlyFields (c : Nat) (x : CanFilter) (f : CanFrame) (stamp : Nat) (s : State) :
    OnlyFields [F.HOST.NEXT_INDEX 7, F.HOST.LOST_COUNT 7] s (passToHost c x f stamp s) :=
  onlyFields_ite (stageEntry_onlyFields 7 1 72 stamp _ s) onlyFields_refl

theorem passToHost_moves (c : Nat) (x : CanFilter) (f : CanFrame) (stamp : Nat) (s : State) :
    Moves 0x600002 s (passToHost c x f stamp s) := moves_ite (moves_step (stageCan_moves ..) rfl moves_refl) moves_refl

theorem bitF_raiseCause_can (hc : c < 4) (wf : WellKept s) : bitF (raiseCause (16 + c) s) F.HOST.INT_CAUSE_CAN_HP c = true := by
  have hfield : (if 16 + c < 16 then F.HOST.INT_CAUSE_RINGS else if 16 + c < 20 then F.HOST.INT_CAUSE_CAN_HP
      else F.HOST.INT_CAUSE_HIGH) = F.HOST.INT_CAUSE_CAN_HP := by
    rw [if_neg (by omega), if_pos (by omega)]
  have hindex : (if 16 + c < 16 then 16 + c else if 16 + c < 20 then 16 + c - 16 else 16 + c - 20) = c := by
    rw [if_neg (by omega), if_pos (by omega), Nat.add_sub_cancel_left]
  have hset : bitF (setBit F.HOST.INT_CAUSE_CAN_HP c true s) F.HOST.INT_CAUSE_CAN_HP c = true := by
    rw [bitF_setBit _ _ _ _ _ (show c < 4 from hc) wf.regs, if_pos rfl]
  rw [raiseCause, hfield, hindex]
  split
  next h => exact h
  · split
    · exact hset
    · split <;> exact hset

/-- The high-priority buffer and the port's cause, where the filter is of high priority. -/
theorem raiseHigh_shows {x : CanFilter} (hhigh : x.highPriority = true) (hc : c < 4) (hid : f.id < 2 ^ 29) (hdlc : f.dlc < 16)
    (wf : WellKept s) : bitF (raiseHigh c x f s) F.HOST.INT_CAUSE_CAN_HP c = true ∧ FrameIn c 128 f (raiseHigh c x f s) := by
  rw [raiseHigh, if_pos hhigh]
  refine ⟨bitF_raiseCause_can hc ((fillBuffer_moves c 128 f s).form wf),
    frameIn_keeps (fillBuffer_shows hid hdlc wf).1 (raiseCause_onlyFields (16 + c) _) fun g hg _ hlsb => ?_⟩
  simp only [causeFields, List.forall_mem_cons, fieldKey, F.HOST.INT_CAUSE_RINGS, F.HOST.INT_CAUSE_CAN_HP, F.HOST.INT_CAUSE_HIGH]
  exact ⟨by omega, by omega, by omega, by simp⟩

/-- What the frame's way writes once its buffer is filled. -/
def laterFields (c : Nat) : List Field :=
  (F.CAN.RX_ERRORS c :: sampleCounters) ++ (bufferFields c 128 ++ causeFields) ++ [F.HOST.NEXT_INDEX 7, F.HOST.LOST_COUNT 7]

theorem later_onlyFields (x : CanFilter) (b : CanBufCfg) (at_ stamp : Nat) (s : State) :
    OnlyFields (laterFields c) s (passToHost c x f stamp (raiseHigh c x f (bringSignals c p b f at_ s))) :=
  onlyFields_trans (onlyFields_mono (onlyFields_trans
      (onlyFields_mono (bringSignals_onlyFields b at_ s) (List.subset_append_left ..))
      (onlyFields_mono (raiseHigh_onlyFields c x f _) (List.subset_append_right ..))) (List.subset_append_left ..))
    (onlyFields_mono (passToHost_onlyFields c x f stamp _) (List.subset_append_right ..))

/-- They are apart from the receiving buffers' registers, and from RX_FRAMES. -/
theorem laterFields_apart {g : Field} (hc : c < 4) (hlow : 0x1100110 + 0x100 * c ≤ g.addr) (herrors : g.addr ≠ 0x110011C + 0x100 * c)
    (hhigh : g.addr < 0x1114000 + 0x8000 * c) (hlsb : g.lsb < 32) : ∀ x ∈ laterFields c, fieldKey x ≠ fieldKey g := by
  simp only [laterFields, List.mem_append, List.mem_cons]
  rintro x (((rfl | hx) | hx | hx) | hx)
  · simp only [fieldKey, F.CAN.RX_ERRORS]
    omega
  · exact sampleCounters_below (by omega) x hx
  · exact bufferFields_apart (Or.inl (by omega)) hlsb x hx
  · simp only [causeFields, List.mem_cons, List.not_mem_nil, or_false] at hx
    obtain rfl | rfl | rfl := hx <;>
      simp only [fieldKey, F.HOST.INT_CAUSE_RINGS, F.HOST.INT_CAUSE_CAN_HP, F.HOST.INT_CAUSE_HIGH] <;> omega
  · simp only [List.not_mem_nil, or_false] at hx
    obtain rfl | rfl := hx <;> simp only [fieldKey, F.HOST.NEXT_INDEX, F.HOST.LOST_COUNT] <;> omega

theorem bufferFields_apart_aged (c b : Nat) : ∀ g ∈ bufferFields c b, fieldKey g ≠ fieldKey (F.CAN.BUF_STATUS_AGED c b) := by
  have hmessage : ∀ g ∈ messageFields c b, fieldKey g ≠ fieldKey (F.CAN.BUF_STATUS_AGED c b) :=
    messageFields_apart (show 3 < 32 by decide) (Or.inr (Or.inr ⟨rfl, show 3 ≠ 8 by decide⟩))
  simp only [bufferFields, List.cons_append, List.nil_append, List.forall_mem_cons, fieldKey,
    F.CAN.BUF_STATUS_SEQ, F.CAN.BUF_STATUS_NEW_DATA, F.CAN.BUF_STATUS_ESI, F.CAN.BUF_STATUS_AGED] at hmessage ⊢
  exact ⟨by omega, by omega, by omega, hmessage⟩

theorem frame_taken {x : CanFilter} {b : CanBufCfg} (hc : c < 4) (wf : WellKept s) (hb : b.buffer < 128)
    (hhalted : bufHalted s c b.buffer = false) (herror : f.bufferError = none) (hdlc : f.dlc < 16) (hid : f.id < 2 ^ 29)
    (hages : keysRise (canPort s c).ages = true) (stamp : Nat) {t : State}
    (ht : t = passToHost c x f stamp (raiseHigh c x f (receiveInto c p b f (frameCounted c s)))) :
    getF t (F.CAN.RX_FRAMES c) = min (getF s (F.CAN.RX_FRAMES c) + 1) 0xFFFFFFFF ∧ FrameIn c b.buffer f t ∧
      getF t (F.CAN.BUF_STATUS_SEQ c b.buffer) = (getF s (F.CAN.BUF_STATUS_SEQ c b.buffer) + 1) % 256 ∧
      flag t (F.CAN.BUF_STATUS_AGED c b.buffer) = false ∧ (tableGet {} (canPort t c).ages b.buffer).since = s.tick.number + 1 ∧
      (x.highPriority = true → bitF t F.HOST.INT_CAUSE_CAN_HP c = true ∧ FrameIn c 128 f t) := by
  obtain ⟨hframes, hcounted⟩ := frameCounted_shows (c := c) wf
  have hmoved := frameCounted_moves c s
  generalize frameCounted c s = v at hframes hcounted hmoved ht
  have wfv := hmoved.form wf
  have hhaltedV : bufHalted v c b.buffer = false := by
    rw [bufHalted, flag, hcounted _ (by simp only [F.CAN.BUF_STATUS_HALTED]; omega) (by simp [F.CAN.BUF_STATUS_HALTED])]
    exact hhalted
  have hport : canPort v c = canPort s c := canPort_congr (hmoved.frame .can rfl) c
  have htick : v.tick.number = s.tick.number := congrArg TickPart.number (hmoved.frame .tick rfl)
  obtain ⟨haged, hsince⟩ := ageRestarted_shows (b := b.buffer) hc wfv (hport.symm ▸ hages)
  rw [receiveInto_fills hhaltedV herror] at ht
  have hrestart := ageRestarted_onlyFields c b.buffer v
  have wfw := (ageRestarted_moves c b.buffer v).form wfv
  generalize canStamp c f v = at_ at ht
  generalize ageRestarted c b.buffer v = w at haged hsince hrestart wfw ht
  obtain ⟨hframe, hseq⟩ := fillBuffer_shows (c := c) (b := b.buffer) hid hdlc wfw
  have hfill := fillBuffer_onlyFields c b.buffer f w
  have hfillMoves := fillBuffer_moves c b.buffer f w
  generalize fillBuffer c b.buffer f w = y at hframe hseq hfill hfillMoves ht
  have hlater : OnlyFields (laterFields c) y t := ht ▸ later_onlyFields x b at_ stamp y
  have hbring := bringSignals_moves (c := c) (p := p) (f := f) b at_ y
  have hlaterMoves : Moves 0x600022 y t := by
    rw [ht]
    exact moves_step (passToHost_moves ..) rfl (moves_step (raiseHigh_moves ..) rfl (moves_step hbring rfl moves_refl))
  have hstatus : ∀ g : Field, g.addr = 0x1110000 + 0x8000 * c + 0x80 * b.buffer → g.lsb < 32 → getF t g = getF y g :=
    fun g haddr hlsb => hlater g (laterFields_apart hc (by omega) (by omega) (by omega) hlsb)
  refine ⟨?_, frameIn_keeps hframe hlater fun g hlo hhi hlsb => laterFields_apart hc (by omega) (by omega) (by omega) hlsb, ?_, ?_, ?_,
    fun hhigh => ?_⟩
  · rw [hlater _ (laterFields_apart hc (Nat.le_refl _) (by simp only [F.CAN.RX_FRAMES]; omega) (by simp only [F.CAN.RX_FRAMES]; omega)
        (show 0 < 32 by decide)),
      hfill _ (bufferFields_apart (Or.inl (by simp only [F.CAN.RX_FRAMES]; omega)) (show 0 < 32 by decide)),
      getF_of_onlyFields hrestart _ (by
        simp only [List.forall_mem_cons, fieldKey, F.CAN.RX_FRAMES, F.CAN.BUF_STATUS_AGED]
        exact ⟨by omega, by simp⟩),
      hframes]
  · rw [hstatus _ rfl (show 16 < 32 by decide), hseq,
      getF_of_onlyFields hrestart _ (by
        simp only [List.forall_mem_cons, fieldKey, F.CAN.BUF_STATUS_SEQ, F.CAN.BUF_STATUS_AGED]
        exact ⟨by omega, by simp⟩),
      hcounted _ (by simp only [F.CAN.BUF_STATUS_SEQ]; omega) (show 16 < 32 by decide)]
  · rw [flag, hstatus _ rfl (show 3 < 32 by decide), hfill _ (bufferFields_apart_aged c b.buffer)]
    exact haged
  · rw [canPort_congr ((hlaterMoves.frame .can rfl).trans (hfillMoves.frame .can rfl)), hsince, htick]
  · have wfz := hbring.form (hfillMoves.form wfw)
    generalize bringSignals c p b f at_ y = z at ht wfz
    obtain ⟨hcause, hframeHigh⟩ := raiseHigh_shows hhigh hc hid hdlc wfz
    have hhost : OnlyFields [F.HOST.NEXT_INDEX 7, F.HOST.LOST_COUNT 7] (raiseHigh c x f z) t := ht ▸ passToHost_onlyFields c x f stamp _
    refine ⟨(bitF_congr (hhost _ (by decide)) c).trans hcause, frameIn_keeps hframeHigh hhost fun g hlo hhi hlsb => ?_⟩
    simp only [List.forall_mem_cons, fieldKey, F.HOST.NEXT_INDEX, F.HOST.LOST_COUNT]
    exact ⟨by omega, by omega, by simp⟩

/-! ### A buffer that ages (R390) -/

theorem imageUp_congr (h : t.regs = s.regs) : imageUp t = imageUp s := by
  rw [imageUp, imageUp, flag, flag, getF_congr s t _ h]

/-- A point that is absent in the image. -/
def AbsentPoint (i : Nat) (s : State) : Prop := hasCond (pointCond s i).conds condAbsent = true

theorem declareAbsent_unknown {i : Nat} (h : ¬ (imageUp s = true ∧ (pointCfg s i).isSome = true)) : declareAbsent i s = s := by
  refine if_pos ?_
  cases himage : imageUp s with
  | false => rfl
  | true => simpa [himage] using h

theorem declareAbsent_known {i : Nat} (hup : imageUp s = true) (hcfg : (pointCfg s i).isSome = true) :
    declareAbsent i s = putPoint i (livePoint s i) (forgetHistory { pointCond s i with
      conds := putCond (pointCond s i).conds condAbsent true }) s := by
  refine if_neg ?_
  rw [hup, Option.isNone_eq_false_iff.2 hcfg]
  decide

theorem declareAbsent_absent {i j : Nat} (wf : WellKept s) (hup : imageUp s = true) (hcfg : (pointCfg s j).isSome = true)
    (h : j = i ∨ AbsentPoint j s) : AbsentPoint j (declareAbsent i s) := by
  unfold AbsentPoint
  by_cases hj : j = i
  · subst hj
    rw [declareAbsent_known hup hcfg, pointCond_putPoint_same _ _ _ wf]
    simp [forgetHistory]
  · by_cases hknown : imageUp s = true ∧ (pointCfg s i).isSome = true
    · rw [declareAbsent_known hknown.1 hknown.2]
      exact (congrArg (fun k => hasCond (PointCond.conds k) condAbsent) (tableGet_put_other _ _ _ _ _ _ (Ne.symm hj))).trans (h.resolve_left hj)
    · rw [declareAbsent_unknown hknown]
      exact h.resolve_left hj

theorem declareAbsents_absent {j : Nat} {l : List CanSignal} (wf : WellKept s) (hup : imageUp s = true)
    (hcfg : (pointCfg s j).isSome = true) (h : (∃ g ∈ l, g.point = j) ∨ AbsentPoint j s) :
    AbsentPoint j (l.foldl (fun t x => declareAbsent x.point t) s) := by
  induction l generalizing s with
  | nil => exact h.resolve_left (by simp)
  | cons x xs ih =>
    have hmoves := declareAbsent_moves x.point s
    refine ih (hmoves.form wf) ((imageUp_congr (declareAbsent_regs _ s)).trans hup)
      ((congrArg Option.isSome (pointCfg_congr (hmoves.frame .cfg rfl) j)).trans hcfg) ?_
    by_cases hmore : ∃ g ∈ xs, g.point = j
    · exact Or.inl hmore
    · refine Or.inr (declareAbsent_absent wf hup hcfg (h.imp_left fun ⟨g, hg, hpoint⟩ => ?_))
      obtain rfl | hxs := List.mem_cons.1 hg
      · exact hpoint.symm
      · exact absurd ⟨g, hxs, hpoint⟩ hmore

/-- The live values of the signals' points go into the snapshot. -/
def snapSignals (l : List CanSignal) (s : State) : State :=
  l.foldl (fun u g => { u with pimg := { u.pimg with snap := tablePut {} u.pimg.snap g.point (livePoint u g.point) } }) s

theorem snapSignals_moves (l : List CanSignal) (s : State) : Moves 0x20 s (snapSignals l s) :=
  moves_foldl moves_refl fun _ _ ht => moves_step
    (moves_images fun w => ⟨w.live, tableWf_put _ _ _ _ w.snap, w.window, w.cond⟩) rfl ht

theorem snapSignals_image (l : List CanSignal) (s : State) :
    (snapSignals l s).pimg.live = s.pimg.live ∧ (snapSignals l s).pimg.cond = s.pimg.cond ∧ (snapSignals l s).regs = s.regs := by
  induction l generalizing s with
  | nil => exact ⟨rfl, rfl, rfl⟩
  | cons x xs ih => exact ih _

theorem snapSignals_snap {l : List CanSignal} {i : Nat} (wf : WellKept s)
    (h : (∃ g ∈ l, g.point = i) ∨ snapPoint s i = livePoint s i) : snapPoint (snapSignals l s) i = livePoint s i := by
  induction l generalizing s with
  | nil => exact h.resolve_left (by simp)
  | cons x xs ih =>
    have hmoves : Moves 0x20 s (snapSignals [x] s) := snapSignals_moves [x] s
    have hlive : livePoint (snapSignals [x] s) i = livePoint s i := rfl
    refine (ih (s := snapSignals [x] s) (hmoves.form wf) ?_).trans hlive
    by_cases hpoint : x.point = i
    · subst hpoint
      exact Or.inr (tableGet_put_same _ _ _ _ ((tableWf_iff _ _).1 wf.snap).1)
    · refine h.imp (fun ⟨g, hg, hi⟩ => ?_) fun hsame => (tableGet_put_other _ _ _ _ _ _ hpoint).trans hsame
      exact ⟨g, (List.mem_cons.1 hg).resolve_left fun hgx => hpoint (hgx ▸ hi), hi⟩

theorem ageBuffer_absent {b : CanBufCfg} {j : Nat} (wf : WellKept s) (hfresh : flag s (F.CAN.BUF_STATUS_AGED c b.buffer) = false)
    (hup : imageUp s = true) (hcfg : (pointCfg s j).isSome = true) (hj : ∃ g ∈ bufSignals p b, g.point = j) :
    AbsentPoint j (ageBuffer c p b s) := by
  have hpimg : (ageBuffer c p b s).pimg = ((bufSignals p b).foldl (fun t x => declareAbsent x.point t) s).pimg := by
    rw [ageBuffer, hfresh]
    exact (emit_moves ..).frame .pimg rfl
  rw [AbsentPoint, pointCond, hpimg]
  exact declareAbsents_absent wf hup hcfg (Or.inl hj)

theorem exec_messageAged {b : Nat} {x : CanBufCfg} (hcfg : canCfg s c = some p) (hruns : canRuns s = true)
    (hlive : inState s .live = true) (hbuf : bufCfg p b = some x) (hfresh : flag s (F.CAN.BUF_STATUS_AGED c b) = false) :
    exec (.messageAged c b) s = .next (if ageDue s c x then snapSignals (bufSignals p x) (ageBuffer c p x s) else s) := by
  show execMessageAged c b s = _
  rw [execMessageAged, hcfg]
  dsimp only
  rw [hbuf]
  dsimp only
  rw [hruns, hlive, hfresh, Bool.true_and, Bool.true_and, Bool.not_false, Bool.and_true]
  rfl

theorem buffer_of_bufCfg {b : Nat} {x : CanBufCfg} (h : bufCfg p b = some x) : x.buffer = b := by
  simpa using List.find?_some h

end Sys2Proof.Machine
end

section
/-! The statement about received CAN frames. -/

namespace Sys2Proof.Certificates

open Sys2Proof Sys2Proof.Machine

/-- Settles O51: the stages of a frame's way write apart from each other, and the points of a buffer that ages are absent before
the snapshot takes them. -/
theorem canFramesReceived : Obligations.CanFramesReceived := by
  intro c p s wf hc hcfg hruns
  refine ⟨fun f hmode herror hrec => ?_, fun b x hlive hbuf hb hfresh => ⟨fun hdue => ?_, fun hdue => ?_⟩⟩
  · have hexec := exec_canFrameRx (f := f) hcfg hruns hmode herror hrec
    refine ⟨fun hremote => ?_, fun hdata hfilter => ?_, fun x b hdata hfilter hbuf hb hhalted hbuferr hdlc hid hages => ?_⟩
    · rw [takeFrame_remote _ hremote] at hexec
      exact ⟨_, hexec, frame_dropped rfl (by simp only [F.CAN.RX_ERRORS]; omega) (show 0 < 32 by decide) wf⟩
    · rw [takeFrame_unmatched _ hdata hfilter] at hexec
      exact ⟨_, hexec, frame_dropped rfl (by simp only [F.CAN.RX_UNMATCHED]; omega) (show 0 < 32 by decide) wf⟩
    · rw [takeFrame_taken _ hdata hfilter hbuf] at hexec
      obtain ⟨hframes, hframe, hseq, haged, hsince, hhigh⟩ := frame_taken (x := x) (f := f) hc wf hb hhalted hbuferr hdlc hid hages _ rfl
      exact ⟨_, hexec, hframes, hframe.fresh, hseq, hframe.dlc, haged, hframe.id, hframe.data, hsince,
        fun h => ⟨(hhigh h).1, (hhigh h).2.fresh, (hhigh h).2.id⟩⟩
  · have hexec := exec_messageAged hcfg hruns hlive hbuf hfresh
    rw [if_pos hdue] at hexec
    obtain rfl := buffer_of_bufCfg hbuf
    have hage := ageBuffer_moves c p x s
    obtain ⟨himage, hcond, hregs⟩ := snapSignals_image (bufSignals p x) (ageBuffer c p x s)
    have hmoves : Moves 0x240022 s (snapSignals (bufSignals p x) (ageBuffer c p x s)) := moves_step (snapSignals_moves ..) rfl hage
    refine ⟨_, hexec, ?_, onlyParts_of_moves s _ hmoves rfl, fun g hg => ⟨?_, fun hup hlisted => ?_⟩⟩
    · rw [flag, getF_congr _ _ _ hregs]
      exact ageBuffer_aged c p x wf
    · rw [snapSignals_snap (hage.form wf) (Or.inl ⟨g, hg, rfl⟩), livePoint, livePoint, himage]
    · rw [pointCond, hcond]
      exact ageBuffer_absent wf hfresh hup hlisted ⟨g, hg, rfl⟩
  · rw [exec_messageAged hcfg hruns hlive hbuf hfresh, if_neg (by rw [hdue]; decide)]

end Sys2Proof.Certificates
end

section
/-! SUPPORT. The schedule matrix, completed frames, error states and commands of the CAN ports (R395 to R401, R407). -/

namespace Sys2Proof.Machine

open Sys2Proof

variable {s t : State} {c : Nat} {p : CanPortCfg}

/-! ### Windows open (R396, R399) -/

/-- From `s` to `t` port `c`'s open window and its pending reference stand, and every other port's state. -/
structure WindowStands (c : Nat) (s t : State) : Prop where
  window : (canPort t c).window = (canPort s c).window
  reference : (canPort t c).reference = (canPort s c).reference
  others : ∀ d, d ≠ c → canPort t d = canPort s d

theorem windowStands_refl : WindowStands c s s := ⟨rfl, rfl, fun _ _ => rfl⟩

theorem windowStands_of_moved {g : CanPort → CanPort} (h : PortMoved c g s t) (hwindow : ∀ q, (g q).window = q.window)
    (href : ∀ q, (g q).reference = q.reference) : WindowStands c s t :=
  ⟨by rw [h.own, hwindow], by rw [h.own, href], h.others⟩

theorem startCan_stands (x : CanSource) (stop : Option Nat) (hc : c < 4) (wf : WellKept s) : WindowStands c s (startCan c p x stop s) := by
  unfold startCan
  split
  · exact windowStands_refl
  · extract_lets wait now fits free w
    split
    · exact windowStands_of_moved (portMoved_updPort _ hc wf) (fun _ => rfl) fun _ => rfl
    · exact windowStands_refl

theorem offerCan_stands (hc : c < 4) (wf : WellKept s) : WindowStands c s (offerCan c p s) := by
  have harb : ∀ (lowest : Option CanSource) (stop : Option Nat), WindowStands c s (match lowest with
      | some x => startCan c p x stop s
      | none => s) := fun lowest stop => by
    cases lowest with
    | none => exact windowStands_refl
    | some x => exact startCan_stands x stop hc wf
  unfold offerCan
  extract_lets q lowest arb
  split
  · exact windowStands_refl
  · split
    · exact harb lowest none
    · split
      · exact windowStands_refl
      · extract_lets w span
        split
        · exact windowStands_refl
        · split
          · split
            · exact windowStands_refl
            · exact startCan_stands _ _ hc wf
          · split
            · exact windowStands_refl
            · exact startCan_stands _ _ hc wf
          · exact harb lowest (some span.2)
          · exact windowStands_refl

theorem makePending_stands (b : CanBufCfg) (launch : Nat) (hc : c < 4) (wf : WellKept s) : WindowStands c s (makePending c b launch s) := by
  unfold makePending
  extract_lets w
  have hport : PortMoved c _ s (updPort c (fun q =>
      if b.kind = 2 then { q with scheduled := insertWait w q.scheduled } else { q with periodic := insertWait w q.periodic }) s) :=
    portMoved_updPort _ hc wf
  generalize updPort c _ s = v at hport ⊢
  have hshown : Moves 0x2 v (showQueues c (setF (F.CAN.BUF_STATUS_PENDING c b.buffer) 1 v)) :=
    moves_step (showQueues_moves ..) rfl (moves_step (setF_moves ..) rfl moves_refl)
  exact windowStands_of_moved (portMoved_trans hport (portMoved_of_moves hshown rfl)) (fun q => by dsimp only [id]; split <;> rfl)
    fun q => by dsimp only [id]; split <;> rfl

/-- A window is open: its number and the cycle are shown. -/
def windowOpened (c k : Nat) (p : CanPortCfg) (s : State) : State :=
  setF (F.CAN.CYCLE_WINDOW c) k (setF (F.CAN.CYCLE_COUNT c) (cycleCount s p)
    (updPort c (fun q => { q with window := some k, attempted := false, complete := false }) s))

/-- Its reference message, or the buffer of its cell, becomes pending. -/
def windowFilled (c k : Nat) (p : CanPortCfg) (w : CanWindow) (n launch : Nat) (s : State) : State :=
  if canMode s c ≠ 1 then s
  else if w.kind = 1 && !(canPort s c).awaitCurtain then
    showQueues c (updPort c (fun q => { q with reference := some (n + 256 * ((s.tick.number - cycleTick s p) % 2 ^ 24), launch) }) s)
  else if w.kind = 2 then
    match bufCfg p (cellOf s p k) with
    | some b =>
      if bufHalted s c b.buffer || flag s (F.CAN.BUF_STATUS_PENDING c b.buffer) then s
      else makePending c b launch s
    | none => s
  else s

theorem exec_canWindowStart {k : Nat} {w : CanWindow} (hcfg : canCfg s c = some p) (hruns : canRuns s = true)
    (hlive : inState s .live = true) (htt : p.tt = true) (hw : p.windows[k]? = some w) :
    exec (.canWindowStart c k) s = .next (if (canPort s c).window.isSome || nowNs s 1 < (windowSpan s p w).1 || nowNs s 1 ≥ (windowSpan s p w).2
      then s else offerCan c p (windowFilled c k p w (cycleCount s p) (windowSpan s p w).1 (windowOpened c k p s))) := by
  have hlength : k < p.windows.length := (List.getElem?_eq_some_iff.1 hw).1
  have hget : p.windows.getD k {} = w := by rw [List.getD_eq_getElem?_getD, hw]; rfl
  have hopen : (!canRuns s || !inState s .live || !p.tt || decide (k ≥ p.windows.length) || (canPort s c).window.isSome ||
      decide (nowNs s 1 < (windowSpan s p w).1) || decide (nowNs s 1 ≥ (windowSpan s p w).2)) =
      ((canPort s c).window.isSome || decide (nowNs s 1 < (windowSpan s p w).1) || decide (nowNs s 1 ≥ (windowSpan s p w).2)) := by
    rw [hruns, hlive, htt, decide_eq_false (Nat.not_le.2 hlength)]
    rfl
  show execCanWindowStart c k s = _
  rw [execCanWindowStart, hcfg]
  dsimp only
  rw [hget, hopen]
  rfl

theorem windowOpened_moves (c k : Nat) (p : CanPortCfg) (s : State) : Moves 0x40002 s (windowOpened c k p s) :=
  moves_step (setF_moves ..) rfl (moves_step (setF_moves ..) rfl (moves_step (updPort_moves ..) rfl moves_refl))

theorem windowFilled_moves (c k : Nat) (p : CanPortCfg) (w : CanWindow) (n launch : Nat) (s : State) :
    Moves 0x40002 s (windowFilled c k p w n launch s) := by
  unfold windowFilled
  refine moves_ite moves_refl (moves_ite (moves_step (showQueues_moves ..) rfl (moves_step (updPort_moves ..) rfl moves_refl))
    (moves_ite ?_ moves_refl))
  split
  · exact moves_ite moves_refl (makePending_moves ..)
  · exact moves_refl

theorem makePending_onlyFields (b : CanBufCfg) (launch : Nat) (s : State) :
    OnlyFields (F.CAN.BUF_STATUS_PENDING c b.buffer :: fillFields c) s (makePending c b launch s) := by
  unfold makePending
  extract_lets w
  refine onlyFields_trans ?_ (onlyFields_mono (showQueues_onlyFields c _) (List.subset_cons_self ..))
  exact onlyFields_setF (List.mem_cons_self ..) onlyFields_refl

/-- No register of the port's cycle changes, and no port's window. -/
theorem windowFilled_keeps {k n launch : Nat} {w : CanWindow} (hc : c < 4) (wf : WellKept s) :
    (canPort (windowFilled c k p w n launch s) c).window = (canPort s c).window ∧
      (∀ d, d ≠ c → canPort (windowFilled c k p w n launch s) d = canPort s d) ∧
      ∀ f : Field, f.addr < 0x1100800 → f.lsb < 32 → getF (windowFilled c k p w n launch s) f = getF s f := by
  have hfill : ∀ f : Field, f.addr < 0x1100800 → f.lsb < 32 → ∀ g ∈ fillFields c, fieldKey g ≠ fieldKey f := by
    intro f hf hlsb
    simp only [fillFields, List.forall_mem_cons, fieldKey, F.CAN.Q_FILL]
    exact ⟨by omega, by omega, by omega, by omega, by simp⟩
  unfold windowFilled
  split
  · exact ⟨rfl, fun _ _ => rfl, fun _ _ _ => rfl⟩
  · split
    · have hport : PortMoved c (fun q => { q with reference := some (n + 256 * ((s.tick.number - cycleTick s p) % 2 ^ 24), launch) }) s
          (showQueues c (updPort c (fun q => { q with
            reference := some (n + 256 * ((s.tick.number - cycleTick s p) % 2 ^ 24), launch) }) s)) :=
        portMoved_trans (portMoved_updPort _ hc wf) (portMoved_of_moves (showQueues_moves ..) rfl)
      exact ⟨by rw [hport.own], hport.others, fun f hf hlsb => showQueues_onlyFields c _ f (hfill f hf hlsb)⟩
    · split
      · split
        next b _ =>
          split
          · exact ⟨rfl, fun _ _ => rfl, fun _ _ _ => rfl⟩
          · obtain ⟨hwindow, -, hothers⟩ := makePending_stands b launch hc wf
            refine ⟨hwindow, hothers, fun f hf hlsb => makePending_onlyFields b launch s f ?_⟩
            refine List.forall_mem_cons.2 ⟨?_, hfill f hf hlsb⟩
            simp only [fieldKey, F.CAN.BUF_STATUS_PENDING]
            omega
        · exact ⟨rfl, fun _ _ => rfl, fun _ _ _ => rfl⟩
      · exact ⟨rfl, fun _ _ => rfl, fun _ _ _ => rfl⟩

theorem windowFilled_reference {k n launch : Nat} {w : CanWindow} (hc : c < 4) (wf : WellKept s) (hmode : canMode s c = 1)
    (hkind : w.kind = 1) (hwait : (canPort s c).awaitCurtain = false) :
    (canPort (windowFilled c k p w n launch s) c).reference =
      some (n + 256 * ((s.tick.number - cycleTick s p) % 2 ^ 24), launch) := by
  have hfilled : windowFilled c k p w n launch s = showQueues c (updPort c (fun q => { q with
      reference := some (n + 256 * ((s.tick.number - cycleTick s p) % 2 ^ 24), launch) }) s) := by
    rw [windowFilled, if_neg (not_not.2 hmode), hkind, hwait]
    rfl
  rw [hfilled, canPort_congr ((showQueues_moves c _).frame .can rfl), canPort_updPort _ hc wf]

theorem windowStart_opens {k : Nat} {w : CanWindow} (hc : c < 4) (wf : WellKept s) (hk : k < 64) {t : State}
    (ht : t = offerCan c p (windowFilled c k p w (cycleCount s p) (windowSpan s p w).1 (windowOpened c k p s))) :
    (canPort t c).window = some k ∧ getF t (F.CAN.CYCLE_WINDOW c) = k ∧ getF t (F.CAN.CYCLE_COUNT c) = cycleCount s p ∧
      (∀ d, d ≠ c → canPort t d = canPort s d) ∧ OnlyParts [.regs, .can] s t ∧
      (canMode s c = 1 → w.kind = 1 → (canPort s c).awaitCurtain = false → (canPort t c).reference =
        some (cycleCount s p + 256 * ((s.tick.number - cycleTick s p) % 2 ^ 24), (windowSpan s p w).1)) := by
  have hopenMoves := windowOpened_moves c k p s
  have hcycle : cycleCount s p < 64 := by
    unfold cycleCount
    omega
  have hopen : PortMoved c _ s (windowOpened c k p s) :=
    portMoved_trans (portMoved_updPort _ hc wf) (portMoved_of_moves (m := 0x2) (moves_step (setF_moves ..) rfl
      (moves_step (setF_moves ..) rfl moves_refl)) rfl)
  have hwindow : (canPort (windowOpened c k p s) c).window = some k := by rw [hopen.own]; rfl
  have hapart : fieldKey (F.CAN.CYCLE_WINDOW c) ≠ fieldKey (F.CAN.CYCLE_COUNT c) := by
    simp only [fieldKey, F.CAN.CYCLE_WINDOW, F.CAN.CYCLE_COUNT]
    omega
  have hshown : getF (windowOpened c k p s) (F.CAN.CYCLE_WINDOW c) = k ∧
      getF (windowOpened c k p s) (F.CAN.CYCLE_COUNT c) = cycleCount s p :=
    ⟨getF_setF_lt (setF_keysRise _ _ _ wf.regs) hk, (getF_setF_other _ _ _ _ hapart).trans (getF_setF_lt wf.regs hcycle)⟩
  have hmode : canMode (windowOpened c k p s) c = canMode s c := by
    rw [canMode, canMode, windowOpened, getF_setF_other _ _ _ _ (by simp only [fieldKey, F.CAN.CYCLE_WINDOW, F.CAN.PORT_STATE_MODE]; omega),
      getF_setF_other _ _ _ _ (by simp only [fieldKey, F.CAN.CYCLE_COUNT, F.CAN.PORT_STATE_MODE]; omega)]
    rfl
  have hwait : (canPort (windowOpened c k p s) c).awaitCurtain = (canPort s c).awaitCurtain := by rw [hopen.own]; rfl
  have htick : (windowOpened c k p s).tick = s.tick := hopenMoves.frame .tick rfl
  have hopenOthers := hopen.others
  clear hopen
  have wfv := hopenMoves.form wf
  have hnumber : cycleTick (windowOpened c k p s) p = cycleTick s p := by rw [cycleTick, cycleTick, htick]
  generalize windowOpened c k p s = v at *
  obtain ⟨hfilled, hfilledOthers, hfilledRegs⟩ := windowFilled_keeps (k := k) (n := cycleCount s p) (launch := (windowSpan s p w).1)
    (w := w) (p := p) hc wfv
  have hfilledMoves := windowFilled_moves c k p w (cycleCount s p) (windowSpan s p w).1 v
  have hreference := fun hkind hmode' hwait' => windowFilled_reference (k := k) (n := cycleCount s p) (launch := (windowSpan s p w).1)
    (w := w) (p := p) hc wfv hmode' hkind hwait'
  have wfx := hfilledMoves.form wfv
  generalize windowFilled c k p w (cycleCount s p) (windowSpan s p w).1 v = x at *
  have hoffer : Moves 0x40000 x t := ht ▸ offerCan_moves c p x
  have hstands : WindowStands c x t := ht ▸ offerCan_stands hc wfx
  have hregs : t.regs = x.regs := hoffer.frame .regs rfl
  have hmoves : Moves 0x40002 s t := moves_step hoffer rfl (moves_step hfilledMoves rfl hopenMoves)
  refine ⟨?_, ?_, ?_, fun d hd => ?_, onlyParts_of_moves s _ hmoves rfl, fun hm hkind hw => ?_⟩
  · rw [hstands.window, hfilled, hwindow]
  · rw [getF_congr _ _ _ hregs, hfilledRegs _ (by simp only [F.CAN.CYCLE_WINDOW]; omega) (show 8 < 32 by decide), hshown.1]
  · rw [getF_congr _ _ _ hregs, hfilledRegs _ (by simp only [F.CAN.CYCLE_COUNT]; omega) (show 0 < 32 by decide), hshown.2]
  · rw [hstands.others d hd, hfilledOthers d hd, hopenOthers d hd]
  · rw [hstands.reference, hreference hkind (hmode.trans hm) (hwait.trans hw), htick, hnumber]

/-! ### Windows end (R398) -/

/-- The port's window is closed. -/
def windowClosed (c : Nat) (s : State) : State := updPort c (fun x => { x with window := none }) s

/-- A pending reference that was not sent counts as missed. -/
def referenceMissed (c : Nat) (q : CanPort) (s : State) : State :=
  if q.complete || q.reference.isNone then s
  else bumpF (F.CAN.REF_MISSED c) 1 (bumpF (F.CAN.Q_LATE (4 * c + 3)) 1
    (showQueues c (updPort c (fun x => { x with reference := none }) s)))

/-- A cell `b` of the cycle `n`, served in window `k`, that was not sent whole counts as missed. -/
def cellMissed (c b n k : Nat) (q : CanPort) (s : State) : State :=
  if b = 0xFF || q.complete then s
  else
    let s2 := emit 0x1105 c b (n * 64 + k) (bumpF (F.CAN.WINDOW_MISSED c) 1 s)
    if flag s2 (F.CAN.BUF_STATUS_PENDING c b) then bumpF (F.CAN.Q_LATE (4 * c + 2)) 1 s2 else s2

/-- What was ready in an arbitration window counts as late. -/
def arbitrationLate (c : Nat) (p : CanPortCfg) (s : State) : State :=
  (arbHeads s c p true).foldl (fun t e => bumpF (F.CAN.Q_LATE (4 * c + sourceQueue e.2)) 1 t) s

/-- What the window leaves unsent, by its kind. -/
def windowLeft (c k : Nat) (p : CanPortCfg) (q : CanPort) (n : Nat) (s : State) : State :=
  match (p.windows.getD k {}).kind with
  | 1 => referenceMissed c q s
  | 2 => cellMissed c (p.matrix.getD (64 * n + k) 0xFF) n k q s
  | 3 => arbitrationLate c p s
  | _ => s

theorem exec_canWindowEnd {k : Nat} (hcfg : canCfg s c = some p) (hopen : (canPort s c).window = some k) :
    exec (.canWindowEnd c) s = .next (if !windowOver s p k then s else if canMode s c ≠ 1 then windowClosed c s
      else windowLeft c k p (canPort s c) (getF s (F.CAN.CYCLE_COUNT c)) (windowClosed c s)) := by
  show execCanWindowEnd c s = _
  rw [execCanWindowEnd, hcfg, hopen]
  rfl

theorem exec_canWindowEnd_none (hcfg : canCfg s c = some p) (hnone : (canPort s c).window = none) :
    exec (.canWindowEnd c) s = .next s := by
  show execCanWindowEnd c s = _
  rw [execCanWindowEnd, hcfg, hnone]

theorem referenceMissed_keeps (q : CanPort) (hc : c < 4) (wf : WellKept s) :
    (canPort (referenceMissed c q s) c).window = (canPort s c).window ∧
      (∀ d, d ≠ c → canPort (referenceMissed c q s) d = canPort s d) ∧ Moves 0x40002 s (referenceMissed c q s) := by
  unfold referenceMissed
  split
  · exact ⟨rfl, fun _ _ => rfl, moves_refl⟩
  · have hport : PortMoved c (fun x => { x with reference := none }) s (updPort c (fun x => { x with reference := none }) s) :=
      portMoved_updPort _ hc wf
    have hmoves : Moves 0x40002 s (updPort c (fun x => { x with reference := none }) s) := moves_step (updPort_moves ..) rfl moves_refl
    generalize updPort c _ s = v at hport hmoves ⊢
    have hcounted : Moves 0x2 v (bumpF (F.CAN.REF_MISSED c) 1 (bumpF (F.CAN.Q_LATE (4 * c + 3)) 1 (showQueues c v))) :=
      moves_step (bumpF_moves ..) rfl (moves_step (bumpF_moves ..) rfl (showQueues_moves ..))
    have hall := portMoved_trans hport (portMoved_of_moves hcounted rfl)
    exact ⟨by rw [hall.own]; rfl, hall.others, moves_step hcounted rfl hmoves⟩

theorem cellMissed_moves (c b n k : Nat) (q : CanPort) (s : State) : Moves 0x200002 s (cellMissed c b n k q s) := by
  unfold cellMissed
  have h2 : Moves 0x200002 s (emit 0x1105 c b (n * 64 + k) (bumpF (F.CAN.WINDOW_MISSED c) 1 s)) :=
    moves_step (emit_moves ..) rfl (moves_step (bumpF_moves ..) rfl moves_refl)
  exact moves_ite moves_refl (moves_ite (moves_step (bumpF_moves ..) rfl h2) h2)

theorem arbitrationLate_moves (c : Nat) (p : CanPortCfg) (s : State) : Moves 0x2 s (arbitrationLate c p s) :=
  moves_foldl moves_refl fun _ _ h => moves_step (bumpF_moves ..) rfl h

theorem windowLeft_keeps (k n : Nat) (q : CanPort) (hc : c < 4) (wf : WellKept s) :
    (canPort (windowLeft c k p q n s) c).window = (canPort s c).window ∧
      (∀ d, d ≠ c → canPort (windowLeft c k p q n s) d = canPort s d) ∧ Moves 0x240002 s (windowLeft c k p q n s) := by
  unfold windowLeft
  split
  · obtain ⟨hwindow, hothers, hmoves⟩ := referenceMissed_keeps (c := c) (s := s) q hc wf
    exact ⟨hwindow, hothers, moves_step hmoves rfl moves_refl⟩
  · have hmoves := cellMissed_moves c (p.matrix.getD (64 * n + k) 0xFF) n k q s
    have hcan := hmoves.frame .can rfl
    exact ⟨by rw [canPort_congr hcan], fun d _ => canPort_congr hcan d, moves_step hmoves rfl moves_refl⟩
  · have hmoves := arbitrationLate_moves c p s
    have hcan := hmoves.frame .can rfl
    exact ⟨by rw [canPort_congr hcan], fun d _ => canPort_congr hcan d, moves_step hmoves rfl moves_refl⟩
  · exact ⟨rfl, fun _ _ => rfl, moves_refl⟩

theorem cellMissed_counts {b n k : Nat} {q : CanPort} (hb : b ≠ 0xFF) (wf : WellKept s) :
    getF (cellMissed c b n k q s) (F.CAN.WINDOW_MISSED c) =
      (if q.complete then getF s (F.CAN.WINDOW_MISSED c) else min (getF s (F.CAN.WINDOW_MISSED c) + 1) 0xFFFFFFFF) := by
  cases hcomplete : q.complete with
  | true => rw [cellMissed, hcomplete, Bool.or_true]; rfl
  | false =>
    have hcounted : ∀ v1 v2 v3, getF (emit 0x1105 v1 v2 v3 (bumpF (F.CAN.WINDOW_MISSED c) 1 s)) (F.CAN.WINDOW_MISSED c) =
        min (getF s (F.CAN.WINDOW_MISSED c) + 1) 0xFFFFFFFF := fun _ _ _ => by
      rw [getF_emit, getF_bumpF_same _ _ _ rfl wf.regs]
    rw [cellMissed, hcomplete, if_neg (by simp [hb])]
    extract_lets s2
    split
    · rw [getF_bumpF_other _ _ _ _ (by simp only [fieldKey, F.CAN.Q_LATE, F.CAN.WINDOW_MISSED]; omega)]
      exact hcounted ..
    · exact hcounted ..

theorem referenceMissed_counts {q : CanPort} (hc : c < 4) (wf : WellKept s) (hpending : q.reference ≠ none) (hunsent : q.complete = false) :
    (canPort (referenceMissed c q s) c).reference = none ∧
      getF (referenceMissed c q s) (F.CAN.REF_MISSED c) = min (getF s (F.CAN.REF_MISSED c) + 1) 0xFFFFFFFF := by
  rw [referenceMissed, hunsent, if_neg (by simpa using hpending)]
  have hport : canPort (updPort c (fun x => { x with reference := none }) s) c = _ := canPort_updPort _ hc wf
  have hregs : (updPort c (fun x => { x with reference := none }) s).regs = s.regs := rfl
  have wfv := (updPort_moves c (fun x => { x with reference := none }) s).form wf
  generalize updPort c _ s = v at hport hregs wfv ⊢
  have hcounted : Moves 0x2 v (bumpF (F.CAN.REF_MISSED c) 1 (bumpF (F.CAN.Q_LATE (4 * c + 3)) 1 (showQueues c v))) :=
    moves_step (bumpF_moves ..) rfl (moves_step (bumpF_moves ..) rfl (showQueues_moves ..))
  have hlate : Moves 0x2 v (bumpF (F.CAN.Q_LATE (4 * c + 3)) 1 (showQueues c v)) := moves_step (bumpF_moves ..) rfl (showQueues_moves ..)
  refine ⟨by rw [canPort_congr (hcounted.frame .can rfl), hport], ?_⟩
  have hfill : ∀ g ∈ fillFields c, fieldKey g ≠ fieldKey (F.CAN.REF_MISSED c) := by
    simp only [fillFields, List.forall_mem_cons, fieldKey, F.CAN.Q_FILL, F.CAN.REF_MISSED]
    exact ⟨by omega, by omega, by omega, by omega, by simp⟩
  rw [getF_bumpF_same _ _ _ rfl (hlate.form wfv).regs,
    getF_bumpF_other _ _ _ _ (by simp only [fieldKey, F.CAN.Q_LATE, F.CAN.REF_MISSED]; omega), showQueues_onlyFields c v _ hfill,
    getF_congr _ _ _ hregs]

theorem windowEnd_ends {k : Nat} (hc : c < 4) (wf : WellKept s) (hcfg : canCfg s c = some p) (hopen : (canPort s c).window = some k)
    (hover : windowOver s p k = true) : ∃ t, exec (.canWindowEnd c) s = .next t ∧ (canPort t c).window = none ∧
      (∀ d, d ≠ c → canPort t d = canPort s d) ∧ OnlyParts [.regs, .can, .cont] s t ∧
      (canMode s c = 1 → (p.windows.getD k {}).kind = 2 → p.matrix.getD (64 * getF s (F.CAN.CYCLE_COUNT c) + k) 0xFF ≠ 0xFF →
        getF t (F.CAN.WINDOW_MISSED c) = (if (canPort s c).complete then getF s (F.CAN.WINDOW_MISSED c)
          else min (getF s (F.CAN.WINDOW_MISSED c) + 1) 0xFFFFFFFF)) ∧
      (canMode s c = 1 → (p.windows.getD k {}).kind = 1 → (canPort s c).reference ≠ none → (canPort s c).complete = false →
        (canPort t c).reference = none ∧ getF t (F.CAN.REF_MISSED c) = min (getF s (F.CAN.REF_MISSED c) + 1) 0xFFFFFFFF) := by
  have hclosed : PortMoved c (fun x => { x with window := none }) s (windowClosed c s) := portMoved_updPort _ hc wf
  have hclosedMoves : Moves 0x40000 s (windowClosed c s) := updPort_moves ..
  have hexec := exec_canWindowEnd hcfg hopen
  rw [hover, if_neg (by decide)] at hexec
  by_cases hmode : canMode s c = 1
  · rw [if_neg (not_not.2 hmode)] at hexec
    have hkeeps := windowLeft_keeps (p := p) k (getF s (F.CAN.CYCLE_COUNT c)) (canPort s c) hc (hclosedMoves.form wf)
    obtain ⟨hwindow, hothers, hmoves⟩ := hkeeps
    have hall : Moves 0x240002 s _ := moves_step hmoves rfl (moves_step hclosedMoves rfl moves_refl)
    refine ⟨_, hexec, by rw [hwindow, hclosed.own], fun d hd => (hothers d hd).trans (hclosed.others d hd),
      onlyParts_of_moves s _ hall rfl, fun _ hkind hcell => ?_, fun _ hkind hpending hunsent => ?_⟩
    · rw [windowLeft, hkind]
      exact cellMissed_counts hcell (hclosedMoves.form wf)
    · rw [windowLeft, hkind]
      exact referenceMissed_counts hc (hclosedMoves.form wf) hpending hunsent
  · rw [if_pos hmode] at hexec
    refine ⟨_, hexec, by rw [hclosed.own], hclosed.others, onlyParts_of_moves s _ hclosedMoves rfl,
      fun h => absurd h hmode, fun h => absurd h hmode⟩

/-! ### A frame sent (R395, R401) -/

/-- A port's state once a sent frame has left its queue. -/
def queueLeft : CanSource → CanPort → CanPort
  | .reference, q => { q with reference := none }
  | .scheduled b, q => { q with scheduled := q.scheduled.filter (fun w => w.buffer != b) }
  | .periodic b, q => { q with periodic := q.periodic.filter (fun w => w.buffer != b) }
  | .host, q => { q with host := q.host.drop 1 }

/-- The fields that a source's departure writes beyond the queues' fill. -/
def leftFields (c : Nat) : CanSource → List Field
  | .scheduled b | .periodic b => F.CAN.BUF_STATUS_PENDING c b :: messageFields c b
  | _ => []

theorem leaveQueue_port (x : CanSource) (stamp : Nat) (hc : c < 4) (wf : WellKept s) :
    PortMoved c (queueLeft x) s (leaveQueue c x stamp s) := by
  have hshown : ∀ (b : Nat) (v : State), Moves 0x2 v (putStamp c b stamp (setF (F.CAN.BUF_STATUS_PENDING c b) 0 v)) := fun b v =>
    moves_step (putStamp_moves ..) rfl (setF_moves ..)
  cases x with
  | reference => exact portMoved_updPort _ hc wf
  | host => exact portMoved_updPort _ hc wf
  | scheduled b => exact portMoved_then (portMoved_updPort (queueLeft (.scheduled b)) hc wf) (hshown b _) rfl
  | periodic b => exact portMoved_then (portMoved_updPort (queueLeft (.periodic b)) hc wf) (hshown b _) rfl

theorem leaveQueue_onlyFields (x : CanSource) (stamp : Nat) (s : State) : OnlyFields (leftFields c x) s (leaveQueue c x stamp s) := by
  have hshown : ∀ (b : Nat) (v : State), OnlyFields (F.CAN.BUF_STATUS_PENDING c b :: messageFields c b) v
      (putStamp c b stamp (setF (F.CAN.BUF_STATUS_PENDING c b) 0 v)) := fun b v =>
    onlyFields_trans (onlyFields_setF (List.mem_cons_self ..) onlyFields_refl)
      (onlyFields_mono (putStamp_onlyFields c b stamp _) (List.subset_cons_self ..))
  cases x with
  | reference => exact onlyFields_refl
  | host => exact onlyFields_refl
  | scheduled b => exact hshown b (updPort c (queueLeft (.scheduled b)) s)
  | periodic b => exact hshown b (updPort c (queueLeft (.periodic b)) s)

/-- The frame off the wire and out of its queue, and counted. -/
def sentCounted (c : Nat) (w : CanTx) (s : State) : State :=
  bumpF (F.CAN.TX_FRAMES c) 1 (bumpF (F.CAN.Q_SENT (4 * c + sourceQueue w.source)) 1
    (showQueues c (leaveQueue c w.source w.stamp (updPort c (fun q => { q with onWire := none, complete := true }) s))))

/-- The host's ring shows the frame where the host has sent it. -/
def sentStaged (c : Nat) (w : CanTx) (offer : Option (Nat × Bool × Bool × Bool × Nat × Nat × Nat)) (s : State) : State :=
  match offer with
  | some (id, ide, fdf, brs, dlc, _, _) => if w.source = .host then stageCan c fdf brs ide false true dlc id w.data w.stamp s else s
  | none => s

/-- The first frame after recovery is recorded with its delay. -/
def recoveryNoted (c : Nat) (w : CanTx) (s : State) : State :=
  if (canPort s c).recovered then
    emit 0x1104 c (sourceBuffer w.source) ((w.startNs - w.launch) / 1000)
      (updPort c (fun q => { q with mustFirst := none, recovered := false }) s)
  else s

/-- A frame sent lowers TEC. -/
def tecLowered (c : Nat) (s : State) : State :=
  setCounters c (getF s (F.CAN.ERROR_COUNTERS_TEC c) - 1) (getF s (F.CAN.ERROR_COUNTERS_REC c)) s

theorem exec_canFrameSent {w : CanTx} (hcfg : canCfg s c = some p) (hwire : (canPort s c).onWire = some w) :
    exec (.canFrameSent c) s = .next (if !canRuns s || canMode s c ≠ 1 then s
      else tecLowered c (recoveryNoted c w (sentStaged c w (offerOf s c p w.source) (sentCounted c w s)))) := by
  show execCanFrameSent c s = _
  rw [execCanFrameSent, hcfg, hwire]
  rfl

theorem exec_canFrameSent_idle (hcfg : canCfg s c = some p) (h : (canPort s c).onWire = none ∨ canRuns s = false ∨ canMode s c ≠ 1) :
    exec (.canFrameSent c) s = .next s := by
  cases hwire : (canPort s c).onWire with
  | none =>
    show execCanFrameSent c s = _
    rw [execCanFrameSent, hcfg, hwire]
  | some w =>
    obtain h | h := h.resolve_left (by rw [hwire]; simp)
    · rw [exec_canFrameSent hcfg hwire, h]
      rfl
    · rw [exec_canFrameSent hcfg hwire, if_pos (by simp [h])]

theorem sentStaged_moves (c : Nat) (w : CanTx) (offer : Option (Nat × Bool × Bool × Bool × Nat × Nat × Nat)) (s : State) :
    Moves 0x600002 s (sentStaged c w offer s) := by
  unfold sentStaged
  split
  · exact moves_ite (stageCan_moves ..) moves_refl
  · exact moves_refl

theorem sentStaged_onlyFields (c : Nat) (w : CanTx) (offer : Option (Nat × Bool × Bool × Bool × Nat × Nat × Nat)) (s : State) :
    OnlyFields [F.HOST.NEXT_INDEX 7, F.HOST.LOST_COUNT 7] s (sentStaged c w offer s) := by
  unfold sentStaged
  split
  · exact onlyFields_ite (stageEntry_onlyFields 7 1 72 w.stamp _ s) onlyFields_refl
  · exact onlyFields_refl

theorem sentCounted_moves (c : Nat) (w : CanTx) (s : State) : Moves 0x40002 s (sentCounted c w s) :=
  moves_step (bumpF_moves ..) rfl (moves_step (bumpF_moves ..) rfl (moves_step (showQueues_moves ..) rfl
    (moves_step (leaveQueue_moves ..) rfl (moves_step (updPort_moves ..) rfl moves_refl))))

theorem sentCounted_port (w : CanTx) (hc : c < 4) (wf : WellKept s) :
    PortMoved c (fun q => queueLeft w.source { q with onWire := none, complete := true }) s (sentCounted c w s) := by
  have hoff : PortMoved c (fun q => { q with onWire := none, complete := true }) s
      (updPort c (fun q => { q with onWire := none, complete := true }) s) := portMoved_updPort _ hc wf
  have hleft := leaveQueue_port w.source w.stamp hc ((updPort_moves c (fun q => { q with onWire := none, complete := true }) s).form wf)
  have hcounted : ∀ v, Moves 0x2 v (bumpF (F.CAN.TX_FRAMES c) 1 (bumpF (F.CAN.Q_SENT (4 * c + sourceQueue w.source)) 1 (showQueues c v))) :=
    fun v => moves_step (bumpF_moves ..) rfl (moves_step (bumpF_moves ..) rfl (showQueues_moves ..))
  exact portMoved_then (portMoved_trans hoff hleft) (hcounted _) rfl

theorem sourceQueue_lt (x : CanSource) : sourceQueue x < 4 := by
  cases x <;> simp [sourceQueue]

/-- What the departure writes is apart from the ports' registers. -/
theorem leftFields_apart {x : CanSource} {g : Field} (hg : g.addr < 0x1110000) (hlsb : g.lsb < 32) :
    ∀ y ∈ leftFields c x, fieldKey y ≠ fieldKey g := by
  have hbuffer : ∀ b, ∀ y ∈ F.CAN.BUF_STATUS_PENDING c b :: messageFields c b, fieldKey y ≠ fieldKey g := fun b => by
    refine List.forall_mem_cons.2 ⟨?_, messageFields_apart hlsb (Or.inl (by omega))⟩
    simp only [fieldKey, F.CAN.BUF_STATUS_PENDING]
    omega
  cases x with
  | reference => simp [leftFields]
  | host => simp [leftFields]
  | scheduled b => exact hbuffer b
  | periodic b => exact hbuffer b

theorem sentCounted_counts (w : CanTx) (hc : c < 4) (wf : WellKept s) :
    getF (sentCounted c w s) (F.CAN.TX_FRAMES c) = min (getF s (F.CAN.TX_FRAMES c) + 1) 0xFFFFFFFF ∧
      getF (sentCounted c w s) (F.CAN.Q_SENT (4 * c + sourceQueue w.source)) =
        min (getF s (F.CAN.Q_SENT (4 * c + sourceQueue w.source)) + 1) 0xFFFFFFFF ∧
      getF (sentCounted c w s) (F.CAN.ERROR_COUNTERS_TEC c) = getF s (F.CAN.ERROR_COUNTERS_TEC c) := by
  have hq := sourceQueue_lt w.source
  unfold sentCounted
  have hmoves : Moves 0x40002 s (showQueues c (leaveQueue c w.source w.stamp (updPort c (fun q => { q with onWire := none, complete := true }) s))) :=
    moves_step (showQueues_moves ..) rfl (moves_step (leaveQueue_moves ..) rfl (moves_step (updPort_moves ..) rfl moves_refl))
  have hkept : ∀ g : Field, g.addr < 0x1110000 → g.lsb < 32 → (∀ y ∈ fillFields c, fieldKey y ≠ fieldKey g) →
      getF (showQueues c (leaveQueue c w.source w.stamp (updPort c (fun q => { q with onWire := none, complete := true }) s))) g = getF s g :=
    fun g hg hlsb hfill => (showQueues_onlyFields c _ g hfill).trans (leaveQueue_onlyFields w.source w.stamp _ g (leftFields_apart hg hlsb))
  have wfv := hmoves.form wf
  generalize showQueues c _ = v at hkept wfv ⊢
  have hfill : ∀ g : Field, g.addr < 0x1100800 ∨ (g.addr % 16 = 4) → g.lsb < 32 → ∀ y ∈ fillFields c, fieldKey y ≠ fieldKey g := fun g hg hlsb => by
    simp only [fillFields, List.forall_mem_cons, fieldKey, F.CAN.Q_FILL]
    exact ⟨by omega, by omega, by omega, by omega, by simp⟩
  have hcount : keysRise (bumpF (F.CAN.Q_SENT (4 * c + sourceQueue w.source)) 1 v).regs = true := setF_keysRise _ _ _ wfv.regs
  have hapart : fieldKey (F.CAN.Q_SENT (4 * c + sourceQueue w.source)) ≠ fieldKey (F.CAN.TX_FRAMES c) := by
    simp only [fieldKey, F.CAN.Q_SENT, F.CAN.TX_FRAMES]
    omega
  refine ⟨?_, ?_, ?_⟩
  · rw [getF_bumpF_same _ _ _ rfl hcount, getF_bumpF_other _ _ _ _ hapart,
      hkept _ (by simp only [F.CAN.TX_FRAMES]; omega) (show 0 < 32 by decide)
        (hfill _ (Or.inl (by simp only [F.CAN.TX_FRAMES]; omega)) (show 0 < 32 by decide))]
  · rw [getF_bumpF_other _ _ _ _ hapart.symm, getF_bumpF_same _ _ _ rfl wfv.regs,
      hkept _ (by simp only [F.CAN.Q_SENT]; omega) (show 0 < 32 by decide)
        (hfill _ (Or.inr (by simp only [F.CAN.Q_SENT]; omega)) (show 0 < 32 by decide))]
  · rw [getF_bumpF_other _ _ _ _ (by simp only [fieldKey, F.CAN.TX_FRAMES, F.CAN.ERROR_COUNTERS_TEC]; omega),
      getF_bumpF_other _ _ _ _ (by simp only [fieldKey, F.CAN.Q_SENT, F.CAN.ERROR_COUNTERS_TEC]; omega),
      hkept _ (by simp only [F.CAN.ERROR_COUNTERS_TEC]; omega) (show 16 < 32 by decide)
        (hfill _ (Or.inl (by simp only [F.CAN.ERROR_COUNTERS_TEC]; omega)) (show 16 < 32 by decide))]

/-- A state of the port with the frame sent, up to what recovery left. -/
theorem recoveryNoted_port (w : CanTx) (hc : c < 4) (wf : WellKept s) :
    ∃ first again, PortMoved c (fun q => { q with mustFirst := first, recovered := again }) s (recoveryNoted c w s) := by
  unfold recoveryNoted
  split
  · exact ⟨_, _, portMoved_then (portMoved_updPort (fun q => { q with mustFirst := none, recovered := false }) hc wf) (emit_moves ..) rfl⟩
  · exact ⟨(canPort s c).mustFirst, (canPort s c).recovered, rfl, fun _ _ => rfl⟩

theorem getF_recoveryNoted (w : CanTx) (f : Field) : getF (recoveryNoted c w s) f = getF s f := by
  unfold recoveryNoted
  split
  · exact getF_emit ..
  · rfl

theorem recoveryNoted_moves (w : CanTx) (s : State) : Moves 0x240000 s (recoveryNoted c w s) :=
  moves_ite (moves_step (emit_moves ..) rfl (moves_step (updPort_moves ..) rfl moves_refl)) moves_refl

theorem queueLeft_host {x : CanSource} {q : CanPort} (h : x = .host) : (queueLeft x q).host = q.host.drop 1 := by subst h; rfl

theorem queueLeft_reference {x : CanSource} {q : CanPort} (h : x = .reference) : (queueLeft x q).reference = none := by subst h; rfl

theorem queueLeft_sent (x : CanSource) (q : CanPort) : (queueLeft x q).onWire = q.onWire ∧ (queueLeft x q).complete = q.complete := by
  cases x <;> exact ⟨rfl, rfl⟩

theorem frameSent_leaves {w : CanTx} (hc : c < 4) (wf : WellKept s) (htec : getF s (F.CAN.ERROR_COUNTERS_TEC c) ≤ 256) {t : State}
    {offer : Option (Nat × Bool × Bool × Bool × Nat × Nat × Nat)}
    (ht : t = tecLowered c (recoveryNoted c w (sentStaged c w offer (sentCounted c w s)))) :
    (canPort t c).onWire = none ∧ (canPort t c).complete = true ∧ (∀ d, d ≠ c → canPort t d = canPort s d) ∧
      getF t (F.CAN.TX_FRAMES c) = min (getF s (F.CAN.TX_FRAMES c) + 1) 0xFFFFFFFF ∧
      getF t (F.CAN.Q_SENT (4 * c + sourceQueue w.source)) =
        min (getF s (F.CAN.Q_SENT (4 * c + sourceQueue w.source)) + 1) 0xFFFFFFFF ∧
      getF t (F.CAN.ERROR_COUNTERS_TEC c) = getF s (F.CAN.ERROR_COUNTERS_TEC c) - 1 ∧
      (w.source = .host → (canPort t c).host = (canPort s c).host.drop 1) ∧ (w.source = .reference → (canPort t c).reference = none) := by
  obtain ⟨hframes, hsent, htecKept⟩ := sentCounted_counts w hc wf
  have hport := sentCounted_port w hc wf
  have wfv := (sentCounted_moves c w s).form wf
  generalize sentCounted c w s = v at *
  have hstagedMoves := sentStaged_moves c w offer v
  have hstaged := sentStaged_onlyFields c w offer v
  generalize sentStaged c w offer v = x at *
  have wfx := hstagedMoves.form wfv
  obtain ⟨first, again, hnoted⟩ := recoveryNoted_port w hc wfx
  have hregs := fun f => getF_recoveryNoted (c := c) (s := x) w f
  have wfy := (recoveryNoted_moves (c := c) w x).form wfx
  generalize recoveryNoted c w x = y at *
  have hlowered : Moves 0x200002 y t := ht ▸ setCounters_moves ..
  have hcounters : OnlyFields (errorFields c) y t := ht ▸ setCounters_onlyFields c _ _ y
  have hall := portMoved_then (portMoved_trans (portMoved_then hport hstagedMoves rfl) hnoted) hlowered rfl
  obtain ⟨honWire, hcomplete⟩ := queueLeft_sent w.source { canPort s c with onWire := none, complete := true }
  have hregister : ∀ f : Field, 0x1100000 ≤ f.addr → f.addr < 0x1600000 → f.lsb < 32 → getF y f = getF v f := fun f hlow hhigh hlsb => by
    rw [hregs, hstaged f (by simp only [List.forall_mem_cons, fieldKey, F.HOST.NEXT_INDEX, F.HOST.LOST_COUNT]; exact ⟨by omega, by omega, by simp⟩)]
  have hq := sourceQueue_lt w.source
  refine ⟨?_, ?_, hall.others, ?_, ?_, ?_, fun h => ?_, fun h => ?_⟩
  · rw [hall.own]
    exact honWire
  · rw [hall.own]
    exact hcomplete
  · rw [hcounters _ (errorFields_apart (by simp only [F.CAN.TX_FRAMES]; omega) (show 0 < 32 by decide)),
      hregister _ (by simp only [F.CAN.TX_FRAMES]; omega) (by simp only [F.CAN.TX_FRAMES]; omega) (show 0 < 32 by decide), hframes]
  · rw [hcounters _ (errorFields_apart (by simp only [F.CAN.Q_SENT]; omega) (show 0 < 32 by decide)),
      hregister _ (by simp only [F.CAN.Q_SENT]; omega) (by simp only [F.CAN.Q_SENT]; omega) (show 0 < 32 by decide), hsent]
  · have htecY : getF y (F.CAN.ERROR_COUNTERS_TEC c) = getF s (F.CAN.ERROR_COUNTERS_TEC c) := by
      rw [hregister _ (by simp only [F.CAN.ERROR_COUNTERS_TEC]; omega) (by simp only [F.CAN.ERROR_COUNTERS_TEC]; omega)
        (show 16 < 32 by decide), htecKept]
    rw [ht, tecLowered, (setCounters_shows (by omega) wfy).1, htecY]
  · rw [hall.own]
    exact queueLeft_host h
  · rw [hall.own]
    exact queueLeft_reference h

/-! ### Bus errors and recovery (R400, R401) -/

/-- The port itself goes bus-off, before its buffers age. -/
def busOffEntered (c : Nat) (p : CanPortCfg) (sending : Option CanSource) (s : State) : State :=
  let served := servedCell s c p
  let s1 := bumpF (F.CAN.BUS_OFF_COUNT c) 1 (setF (F.CAN.ERROR_COUNTERS_TEC c) 256
    (setF (F.CAN.PORT_STATE_ERROR_STATE c) (if p.autoRecover then 3 else 2)
      (updPort c (fun q => { q with mustFirst := served, recoverFrom := nowNs s 1 }) s)))
  emit 0x1103 c ((sending.map sourceBuffer).getD 0xFF) (getF s1 (F.CAN.BUS_OFF_COUNT c)) (showErrors s1)

/-- An error ends the frame on the wire and sets the counters. -/
def errorCounted (c tec rec : Nat) (s : State) : State := setCounters c tec rec (updPort c (fun q => { q with onWire := none }) s)

theorem exec_canBusError {tec rec : Nat} (hcfg : canCfg s c = some p) (hruns : canRuns s = true) (hmode : canMode s c ≠ 0)
    (herror : canError s c < 2) : exec (.canBusError c tec rec) s = .next (if tec > 255 then
      busOff c p ((canPort s c).onWire.map CanTx.source) (errorCounted c tec rec s) else errorCounted c tec rec s) := by
  have hup : ¬ (!canRuns s || decide (canMode s c = 0) || decide (canError s c ≥ 2)) = true := by
    simp [hruns, hmode, herror]
  show execCanBusError c tec rec s = _
  rw [execCanBusError, hcfg]
  exact congrArg _ (if_neg hup)

theorem errorCounted_moves (c tec rec : Nat) (s : State) : Moves 0x240002 s (errorCounted c tec rec s) :=
  moves_step (setCounters_moves ..) rfl (moves_step (updPort_moves ..) rfl moves_refl)

theorem errorCounted_port (tec rec : Nat) (hc : c < 4) (wf : WellKept s) :
    PortMoved c (fun q => { q with onWire := none }) s (errorCounted c tec rec s) :=
  portMoved_then (portMoved_updPort (fun q => { q with onWire := none }) hc wf) (setCounters_moves ..) rfl

/-- What aging buffers leaves of a port. -/
structure AgesOnly (c : Nat) (s t : State) : Prop where
  port : ∃ ages, PortMoved c (fun q => { q with ages := ages }) s t
  form : WellKept t

theorem ageBuffer_agesOnly (b : CanBufCfg) (hc : c < 4) (wf : WellKept s) : AgesOnly c s (ageBuffer c p b s) :=
  ⟨ageBuffer_port p b hc wf, (ageBuffer_moves ..).form wf⟩

theorem agesOnly_trans {u : State} (h1 : AgesOnly c s t) (h2 : AgesOnly c t u) : AgesOnly c s u := by
  obtain ⟨⟨a1, hport1⟩, -⟩ := h1
  obtain ⟨⟨a2, hport2⟩, hform⟩ := h2
  have hall := portMoved_trans hport1 hport2
  exact ⟨⟨a2, hall.own, hall.others⟩, hform⟩

/-- The AGED flags of the RX buffers are set, no other register changes, and of the ports the ages alone. -/
theorem agedList {bs : List CanBufCfg} (hc : c < 4) (wf : WellKept s) :
    AgesOnly c s (bs.foldl (fun t b => ageBuffer c p b t) s) ∧
      OnlyFields (bs.map fun b => F.CAN.BUF_STATUS_AGED c b.buffer) s (bs.foldl (fun t b => ageBuffer c p b t) s) ∧
      ∀ b : CanBufCfg, (b ∈ bs ∨ flag s (F.CAN.BUF_STATUS_AGED c b.buffer) = true) →
        flag (bs.foldl (fun t b => ageBuffer c p b t) s) (F.CAN.BUF_STATUS_AGED c b.buffer) = true := by
  induction bs generalizing s with
  | nil => exact ⟨⟨⟨(canPort s c).ages, rfl, fun _ _ => rfl⟩, wf⟩, onlyFields_refl, fun _ h => h.resolve_left (by simp)⟩
  | cons x xs ih =>
    have hstep := ageBuffer_agesOnly (p := p) x hc wf
    have hfields := ageBuffer_onlyFields c p x s
    obtain ⟨hrest, hrestFields, hrestAged⟩ := ih hstep.form
    refine ⟨agesOnly_trans hstep hrest, ?_, fun b hb => hrestAged b ?_⟩
    · exact onlyFields_trans (onlyFields_mono hfields (by simp)) (onlyFields_mono hrestFields (List.subset_cons_self ..))
    · by_cases hkey : fieldKey (F.CAN.BUF_STATUS_AGED c x.buffer) = fieldKey (F.CAN.BUF_STATUS_AGED c b.buffer)
      · have hsame : b.buffer = x.buffer := by
          simp only [fieldKey, F.CAN.BUF_STATUS_AGED] at hkey
          omega
        rw [hsame]
        exact Or.inr (ageBuffer_aged c p x wf)
      · refine hb.imp (fun hmem => ?_) fun haged => ?_
        · exact (List.mem_cons.1 hmem).resolve_left fun h => hkey (by rw [h])
        · rw [flag_of_onlyFields hfields _ (by simpa using hkey)]
          exact haged

theorem busOffEntered_port (sending : Option CanSource) (hc : c < 4) (wf : WellKept s) :
    ∃ first, PortMoved c (fun q => { q with mustFirst := first, recoverFrom := nowNs s 1 }) s (busOffEntered c p sending s) := by
  unfold busOffEntered
  extract_lets served s1
  have hport := portMoved_updPort (fun q => { q with mustFirst := served, recoverFrom := nowNs s 1 }) hc wf
  have h1 : PortMoved c (fun q => { q with mustFirst := served, recoverFrom := nowNs s 1 }) s s1 :=
    portMoved_then (m := 0x2) hport (moves_step (bumpF_moves ..) rfl (moves_step (setF_moves ..) rfl
      (moves_step (setF_moves ..) rfl moves_refl))) rfl
  have hend : Moves 0x200002 s1 (emit 0x1103 c ((sending.map sourceBuffer).getD 0xFF) (getF s1 (F.CAN.BUS_OFF_COUNT c)) (showErrors s1)) :=
    moves_step (emit_moves ..) rfl (moves_step (showErrors_moves ..) rfl moves_refl)
  exact ⟨served, portMoved_then h1 hend rfl⟩

theorem busOffEntered_moves (c : Nat) (p : CanPortCfg) (sending : Option CanSource) (s : State) :
    Moves 0x240002 s (busOffEntered c p sending s) := by
  unfold busOffEntered
  extract_lets served s1
  have h1 : Moves 0x240002 s s1 := moves_step (bumpF_moves ..) rfl (moves_step (setF_moves ..) rfl (moves_step (setF_moves ..) rfl
    (moves_step (updPort_moves ..) rfl moves_refl)))
  exact moves_step (emit_moves ..) rfl (moves_step (showErrors_moves ..) rfl h1)

theorem busOffAny_shown (hc : c < 4) (wf : WellKept s) (h : canError s c ≥ 2) :
    flag (showErrors s) F.CAN.STATUS_BUS_OFF_ANY = true := by
  have hany : [0, 1, 2, 3].any (fun d => decide (canError s d ≥ 2)) = true :=
    List.any_eq_true.2 ⟨c, by simp only [List.mem_cons]; omega, decide_eq_true h⟩
  rw [showErrors, flag_setF_other _ _ _ (by decide), flag_setF_ofBool _ rfl wf.regs, hany]

theorem busOffEntered_shows (sending : Option CanSource) (hc : c < 4) (wf : WellKept s) :
    getF (busOffEntered c p sending s) (F.CAN.ERROR_COUNTERS_TEC c) = 256 ∧
      getF (busOffEntered c p sending s) (F.CAN.ERROR_COUNTERS_REC c) = getF s (F.CAN.ERROR_COUNTERS_REC c) ∧
      canError (busOffEntered c p sending s) c = (if p.autoRecover then 3 else 2) ∧
      getF (busOffEntered c p sending s) (F.CAN.BUS_OFF_COUNT c) = min (getF s (F.CAN.BUS_OFF_COUNT c) + 1) 0xFFFFFFFF ∧
      flag (busOffEntered c p sending s) F.CAN.STATUS_BUS_OFF_ANY = true := by
  unfold busOffEntered
  extract_lets served s1
  have hstateRise : keysRise (setF (F.CAN.PORT_STATE_ERROR_STATE c) (if p.autoRecover then 3 else 2)
      (updPort c (fun q => { q with mustFirst := served, recoverFrom := nowNs s 1 }) s)).regs = true := setF_keysRise _ _ _ wf.regs
  have htecRise := setF_keysRise _ (F.CAN.ERROR_COUNTERS_TEC c) 256 hstateRise
  have hcode : (if p.autoRecover then 3 else 2) < 4 := by cases p.autoRecover <;> decide
  have htecState : fieldKey (F.CAN.ERROR_COUNTERS_TEC c) ≠ fieldKey (F.CAN.PORT_STATE_ERROR_STATE c) := by
    simp only [fieldKey, F.CAN.ERROR_COUNTERS_TEC, F.CAN.PORT_STATE_ERROR_STATE]
    omega
  have hcountState : fieldKey (F.CAN.BUS_OFF_COUNT c) ≠ fieldKey (F.CAN.PORT_STATE_ERROR_STATE c) := by
    simp only [fieldKey, F.CAN.BUS_OFF_COUNT, F.CAN.PORT_STATE_ERROR_STATE]
    omega
  have hcountTec : fieldKey (F.CAN.BUS_OFF_COUNT c) ≠ fieldKey (F.CAN.ERROR_COUNTERS_TEC c) := by
    simp only [fieldKey, F.CAN.BUS_OFF_COUNT, F.CAN.ERROR_COUNTERS_TEC]
    omega
  have hs1 : WellKept s1 := Moves.form (m := 0x40002) (moves_step (bumpF_moves ..) rfl (moves_step (setF_moves ..) rfl
    (moves_step (setF_moves ..) rfl (moves_step (updPort_moves ..) rfl moves_refl)))) wf
  have hstate : canError s1 c = (if p.autoRecover then 3 else 2) := by
    refine (getF_bumpF_other _ _ _ _ hcountState).trans ((getF_setF_other _ _ _ _ htecState).trans ?_)
    exact getF_setF_lt wf.regs hcode
  have hend : ∀ w1 w2 w3 (f : Field), 0x1100100 ≤ f.addr → getF (emit 0x1103 w1 w2 w3 (showErrors s1)) f = getF s1 f :=
    fun w1 w2 w3 f hf => (getF_emit ..).trans (getF_showErrors f hf s1)
  refine ⟨?_, ?_, ?_, ?_, ?_⟩
  · rw [hend _ _ _ _ (Nat.le_add_right_of_le (by decide))]
    exact (getF_bumpF_other _ _ _ _ hcountTec).trans (getF_setF_lt hstateRise (show 256 < 512 by decide))
  · rw [hend _ _ _ _ (Nat.le_add_right_of_le (by decide))]
    refine (getF_bumpF_other _ _ _ _ ?_).trans ((getF_setF_other _ _ _ _ ?_).trans (getF_setF_other _ _ _ _ ?_)) <;>
      simp only [fieldKey, F.CAN.BUS_OFF_COUNT, F.CAN.ERROR_COUNTERS_TEC, F.CAN.ERROR_COUNTERS_REC, F.CAN.PORT_STATE_ERROR_STATE] <;> omega
  · rw [canError, hend _ _ _ _ (Nat.le_add_right_of_le (by decide))]
    exact hstate
  · rw [hend _ _ _ _ (Nat.le_add_right_of_le (by decide)), getF_bumpF_same _ _ _ rfl htecRise, getF_setF_other _ _ _ _ hcountTec.symm,
      getF_setF_other _ _ _ _ hcountState.symm]
    rfl
  · rw [flag, getF_emit]
    exact busOffAny_shown hc hs1 (by rw [hstate]; split <;> decide)

/-- The ages of buffers change no register below the buffers. -/
theorem agedFields_apart (bs : List CanBufCfg) {f : Field} (hf : f.addr < 0x1110000) (hlsb : f.lsb < 32) :
    ∀ g ∈ bs.map fun b => F.CAN.BUF_STATUS_AGED c b.buffer, fieldKey g ≠ fieldKey f := by
  simp only [List.forall_mem_map, fieldKey, F.CAN.BUF_STATUS_AGED]
  omega

theorem busOff_shows (sending : Option CanSource) (hc : c < 4) (wf : WellKept s) :
    getF (busOff c p sending s) (F.CAN.ERROR_COUNTERS_TEC c) = 256 ∧
      getF (busOff c p sending s) (F.CAN.ERROR_COUNTERS_REC c) = getF s (F.CAN.ERROR_COUNTERS_REC c) ∧
      canError (busOff c p sending s) c = (if p.autoRecover then 3 else 2) ∧
      getF (busOff c p sending s) (F.CAN.BUS_OFF_COUNT c) = min (getF s (F.CAN.BUS_OFF_COUNT c) + 1) 0xFFFFFFFF ∧
      flag (busOff c p sending s) F.CAN.STATUS_BUS_OFF_ANY = true ∧
      (∀ b ∈ p.buffers, b.kind = 0 → flag (busOff c p sending s) (F.CAN.BUF_STATUS_AGED c b.buffer) = true) ∧
      ∃ first ages, PortMoved c (fun q => { q with mustFirst := first, recoverFrom := nowNs s 1, ages := ages }) s (busOff c p sending s) := by
  obtain ⟨htec, hrec, herror, hcount, hany⟩ := busOffEntered_shows (p := p) sending hc wf
  obtain ⟨first, hport⟩ := busOffEntered_port (p := p) sending hc wf
  obtain ⟨⟨⟨ages, hages⟩, -⟩, hfields, haged⟩ := agedList (p := p) (bs := p.buffers.filter (fun b => b.kind == 0)) hc
    ((busOffEntered_moves c p sending s).form wf)
  have hkept : ∀ f : Field, f.addr < 0x1110000 → f.lsb < 32 → getF (busOff c p sending s) f = getF (busOffEntered c p sending s) f :=
    fun f hf hlsb => hfields f (agedFields_apart _ hf hlsb)
  have hall := portMoved_trans hport hages
  refine ⟨?_, ?_, ?_, ?_, ?_, fun b hb hkind => ?_, first, ages, hall.own, hall.others⟩
  · rw [hkept _ (by simp only [F.CAN.ERROR_COUNTERS_TEC]; omega) (show 16 < 32 by decide), htec]
  · rw [hkept _ (by simp only [F.CAN.ERROR_COUNTERS_REC]; omega) (show 0 < 32 by decide), hrec]
  · rw [canError, hkept _ (by simp only [F.CAN.PORT_STATE_ERROR_STATE]; omega) (show 16 < 32 by decide)]
    exact herror
  · rw [hkept _ (by simp only [F.CAN.BUS_OFF_COUNT]; omega) (show 0 < 32 by decide), hcount]
  · rw [flag, hkept _ (by decide) (by decide)]
    exact hany
  · exact haged b (Or.inl (List.mem_filter.2 ⟨hb, by rw [hkind]; rfl⟩))

theorem busError_counts {tec rec : Nat} (hc : c < 4) (wf : WellKept s) (hcfg : canCfg s c = some p) (hruns : canRuns s = true)
    (hmode : canMode s c ≠ 0) (herror : canError s c < 2) (htec : tec ≤ 256) (hrec : rec ≤ 255) :
    ∃ t, exec (.canBusError c tec rec) s = .next t ∧ (canPort t c).onWire = none ∧ (∀ d, d ≠ c → canPort t d = canPort s d) ∧
      getF t (F.CAN.ERROR_COUNTERS_TEC c) = tec ∧ getF t (F.CAN.ERROR_COUNTERS_REC c) = rec ∧
      (tec ≤ 255 → canError t c = (if 128 ≤ tec ∨ 128 ≤ rec then 1 else 0) ∧ OnlyParts [.regs, .can, .cont] s t) ∧
      (255 < tec → canError t c = (if p.autoRecover then 3 else 2) ∧ (canPort t c).recoverFrom = nowNs s 1 ∧
        getF t (F.CAN.BUS_OFF_COUNT c) = min (getF s (F.CAN.BUS_OFF_COUNT c) + 1) 0xFFFFFFFF ∧
        flag t F.CAN.STATUS_BUS_OFF_ANY = true ∧
        ∀ b ∈ p.buffers, b.kind = 0 → flag t (F.CAN.BUF_STATUS_AGED c b.buffer) = true) := by
  have hexec := exec_canBusError (tec := tec) (rec := rec) hcfg hruns hmode herror
  have hport := errorCounted_port tec rec hc wf
  have hmoves := errorCounted_moves c tec rec s
  obtain ⟨htecShown, hrecShown, hstate⟩ := setCounters_shows (c := c) (tec := tec) (rec := rec) htec
    ((updPort_moves c (fun q => { q with onWire := none }) s).form wf)
  have hbusCount : getF (errorCounted c tec rec s) (F.CAN.BUS_OFF_COUNT c) = getF s (F.CAN.BUS_OFF_COUNT c) :=
    setCounters_onlyFields c tec rec (updPort c (fun q => { q with onWire := none }) s) _
      (errorFields_apart (by simp only [F.CAN.BUS_OFF_COUNT]; omega) (show 0 < 32 by decide))
  have hnow : nowNs (errorCounted c tec rec s) 1 = nowNs s 1 := by rw [nowNs, nowNs, hmoves.frame .clap rfl]
  replace htecShown : getF (errorCounted c tec rec s) (F.CAN.ERROR_COUNTERS_TEC c) = tec := htecShown
  replace hrecShown : getF (errorCounted c tec rec s) (F.CAN.ERROR_COUNTERS_REC c) = rec := hrecShown hrec
  replace hstate : canError (errorCounted c tec rec s) c = _ := hstate herror
  have wfv := hmoves.form wf
  generalize errorCounted c tec rec s = v at *
  by_cases hoff : tec > 255
  · rw [if_pos hoff] at hexec
    obtain ⟨htecT, hrecT, herrorT, hcountT, hanyT, hagedT, first, ages, hportT⟩ :=
      busOff_shows (p := p) ((canPort s c).onWire.map CanTx.source) hc wfv
    have hall := portMoved_trans hport hportT
    refine ⟨_, hexec, by rw [hall.own], hall.others, htecT.trans (by omega), hrecT.trans hrecShown, fun h => absurd h (Nat.not_le.2 hoff),
      fun _ => ⟨herrorT, by rw [hall.own]; exact hnow, by rw [hcountT, hbusCount], hanyT, hagedT⟩⟩
  · rw [if_neg hoff] at hexec
    refine ⟨_, hexec, by rw [hport.own], hport.others, htecShown, hrecShown,
      fun _ => ⟨?_, onlyParts_of_moves s _ hmoves rfl⟩, fun h => absurd h hoff⟩
    rw [hstate, ← Bool.decide_or]
    by_cases hpassive : 128 ≤ tec ∨ 128 ≤ rec
    · rw [if_pos hpassive, decide_eq_true hpassive]
      rfl
    · rw [if_neg hpassive, decide_eq_false hpassive]
      rfl

/-- The port is error-active again, with its counters at 0. -/
def errorActive (c : Nat) (first : Option CanSource) (s : State) : State :=
  showErrors (setF (F.CAN.PORT_STATE_ERROR_STATE c) 0 (setF (F.CAN.ERROR_COUNTERS_TEC c) 0
    (setF (F.CAN.ERROR_COUNTERS_REC c) 0 (updPort c (fun q => { q with mustFirst := first, recovered := true }) s))))

/-- The frame that must be the first after recovery. -/
def firstAgain (c : Nat) (p : CanPortCfg) (s : State) : Option CanSource :=
  match (canPort s c).mustFirst with
  | some m => some m
  | none => lowestOf (arbHeads s c p false ++ scheduledWaits s c p)

theorem exec_recoveryDone (hcfg : canCfg s c = some p) : exec (.recoveryDone c) s = .next
    (if canError s c ≠ 3 || nowNs s 1 < (canPort s c).recoverFrom + (1408 * nominalBit p + 1) / 2 then s
      else errorActive c (firstAgain c p s) s) := by
  show execRecoveryDone c s = _
  rw [execRecoveryDone, hcfg]
  rfl

theorem errorActive_shows (first : Option CanSource) (wf : WellKept s) :
    canError (errorActive c first s) c = 0 ∧ getF (errorActive c first s) (F.CAN.ERROR_COUNTERS_TEC c) = 0 ∧
      getF (errorActive c first s) (F.CAN.ERROR_COUNTERS_REC c) = 0 ∧ OnlyParts [.regs, .can] s (errorActive c first s) := by
  have hrecRise :
      keysRise (setF (F.CAN.ERROR_COUNTERS_REC c) 0 (updPort c (fun q => { q with mustFirst := first, recovered := true }) s)).regs = true :=
    setF_keysRise _ _ _ wf.regs
  have htecRise := setF_keysRise _ (F.CAN.ERROR_COUNTERS_TEC c) 0 hrecRise
  have hmoves : Moves 0x40002 s (errorActive c first s) := moves_step (showErrors_moves ..) rfl (moves_step (setF_moves ..) rfl
    (moves_step (setF_moves ..) rfl (moves_step (setF_moves ..) rfl (moves_step (updPort_moves ..) rfl moves_refl))))
  refine ⟨?_, ?_, ?_, onlyParts_of_moves s _ hmoves rfl⟩
  · exact (getF_showErrors _ (Nat.le_add_right ..) _).trans (getF_setF_same _ _ _ htecRise)
  · refine (getF_showErrors _ (Nat.le_add_right_of_le (by decide)) _).trans ((getF_setF_other _ _ _ _ ?_).trans (getF_setF_same _ _ _ hrecRise))
    simp only [fieldKey, F.CAN.PORT_STATE_ERROR_STATE, F.CAN.ERROR_COUNTERS_TEC]
    omega
  · refine (getF_showErrors _ (Nat.le_add_right_of_le (by decide)) _).trans ((getF_setF_other _ _ _ _ ?_).trans
      ((getF_setF_other _ _ _ _ ?_).trans (getF_setF_same _ _ _ wf.regs))) <;>
      simp only [fieldKey, F.CAN.PORT_STATE_ERROR_STATE, F.CAN.ERROR_COUNTERS_TEC, F.CAN.ERROR_COUNTERS_REC] <;> omega

/-! ### SEND and RECOVER (R407) -/

theorem canPort_touchSession (u : Caller) (d : Nat) : canPort (touchSession u s) d = canPort s d :=
  canPort_congr ((touchSession_moves u s).frame .can rfl) d

theorem getF_touchSession_can (u : Caller) {f : Field} (hf : f.addr < 0x1200000) (hlsb : f.lsb < 32) :
    getF (touchSession u s) f = getF s f := getF_touchSession_below u (by omega) hlsb s

theorem canError_touchSession (u : Caller) (hc : c < 4) : canError (touchSession u s) c = canError s c :=
  getF_touchSession_can u (by simp only [F.CAN.PORT_STATE_ERROR_STATE]; omega) (show 16 < 32 by decide)

theorem canCfg_touchSession (u : Caller) : canCfg (touchSession u s) c = canCfg s c := by
  rw [canCfg, canCfg, (touchSession_moves u s).frame .cfg rfl]

/-- The message that HTX holds, launched at once. -/
def htxMessage (c : Nat) (s : State) : HostMessage :=
  { id := getF s (F.CAN.HTX_ID c), ctrl := getF s (F.CAN.HTX_CTRL c),
    data := (List.range 16).foldr (fun j a => a * 2 ^ 32 + getF s (F.CAN.HTX_DATA c j)) 0, launch := nowNs s 1 }

/-- SEND's own part: the message goes to the end of the host queue. -/
def messageSent (c : Nat) (s : State) : State := showQueues c (updPort c (fun q => { q with host := q.host ++ [htxMessage c s] }) s)

/-- SEND of a message that HTX holds well on a port that may send. -/
structure SendAllowed (s : State) (u : Caller) (c : Nat) : Prop where
  live : inState s .live = true
  admitted : Admitted u [roleEngineer] s
  role : role s ≤ 1
  used : (canCfg s c).isSome = true
  error : canError s c ≠ 2
  mode : canMode s c ≠ 2
  ctrl : getF s (F.CAN.HTX_CTRL c) < 128
  length : getF s (F.CAN.HTX_CTRL c) / 16 % 2 = 1 ∨ getF s (F.CAN.HTX_CTRL c) % 16 ≤ 8

/-- What SEND does to a message that it may take. -/
def sendBody (c : Nat) (t : State) : Body :=
  if (canPort t c).host.length ≥ 32 then .error resExhausted else .ok (messageSent c t, resOk, 0)

theorem cmdSend_allowed {u : Caller} (hc : c < 4) (h : SendAllowed s u c) : ∃ body : State → Body,
    cmdSend u c 0 s = countRefused c (runCommand 17 0x01 u c (some [roleEngineer]) true body s) ∧
      body (touchSession u s) = sendBody c (touchSession u s) := by
  obtain ⟨hlive, -, hrole, hused, herror, hmode, hctrl, hlength⟩ := h
  have hlegal : (inState s .live && (role s == 0 || role s == 1)) = true := by
    rw [hlive]
    simp only [Bool.true_and, Bool.or_eq_true, beq_iff_eq]
    omega
  rw [cmdSend, hlegal]
  refine ⟨_, rfl, ?_⟩
  have hctrlT : getF (touchSession u s) (F.CAN.HTX_CTRL c) = getF s (F.CAN.HTX_CTRL c) :=
    getF_touchSession_can u (by simp only [F.CAN.HTX_CTRL]; omega) (show 0 < 32 by decide)
  have hmodeT : canMode (touchSession u s) c = canMode s c :=
    getF_touchSession_can u (by simp only [F.CAN.PORT_STATE_MODE]; omega) (show 24 < 32 by decide)
  have hargument : ¬ ((decide (0 ≠ 0) || (canCfg (touchSession u s) c).isNone ||
      decide (getF (touchSession u s) (F.CAN.HTX_CTRL c) ≥ 128) ||
      (decide (getF (touchSession u s) (F.CAN.HTX_CTRL c) / 16 % 2 = 0) && decide (getF (touchSession u s) (F.CAN.HTX_CTRL c) % 16 > 8))) = true) := by
    rw [hctrlT, canCfg_touchSession, Option.isNone_eq_false_iff.2 hused]
    simp only [Bool.or_eq_true, Bool.and_eq_true, decide_eq_true_eq, Bool.false_eq_true]
    rintro (((h | h) | h) | ⟨h1, h2⟩)
    · exact h rfl
    · exact h
    · omega
    · omega
  have hillegal : ¬ ((decide (canError (touchSession u s) c = 2) || decide (canMode (touchSession u s) c = 2)) = true) := by
    rw [canError_touchSession u hc, hmodeT]
    simp [herror, hmode]
  exact (if_neg hargument).trans (if_neg hillegal)

theorem runCommand_error_reply {v op a0 e : Nat} {u : Caller} {roles : List Nat} {legal : Bool} {body : State → Body}
    (h : Admitted u roles s) (herror : (if legal then body (touchSession u s) else .error resIllegal) = .error e) :
    (runCommand v op u a0 (some roles) legal body s).2 = { result := e } := by
  obtain ⟨⟨r, hr, hrole⟩, hpower, htie, hspare⟩ := h
  cases legal with
  | false =>
    obtain rfl : resIllegal = e := Except.error.inj herror
    simp [runCommand, hrole, hr, hpower]
  | true => simp [runCommand, hrole, hr, hpower, htie, hspare, (if_pos rfl).symm.trans herror]

theorem exec_send_taken {u : Caller} (hc : c < 4) (h : SendAllowed s u c) (hroom : (canPort s c).host.length < 32) :
    exec (.send u c 0) s = .next (showResult 17 1 { result := resOk, ret := 0 } (messageSent c (touchSession u s))) := by
  obtain ⟨body, hcmd, hbody⟩ := cmdSend_allowed hc h
  have hok : body (touchSession u s) = .ok (messageSent c (touchSession u s), resOk, 0) :=
    hbody.trans (if_neg (by rw [canPort_touchSession]; omega))
  show Host.Outcome.next (cmdSend u c 0 s).1 = _
  rw [hcmd, countRefused, runCommand_ok_reply h.admitted hok]
  exact congrArg _ ((congrArg Prod.fst (if_neg (by decide))).trans (runCommand_ok h.admitted hok))

theorem exec_send_exhausted {u : Caller} (hc : c < 4) (h : SendAllowed s u c) (hfull : 32 ≤ (canPort s c).host.length) :
    exec (.send u c 0) s = .next (bumpF (F.CAN.Q_REFUSED (4 * c)) 1 (showResult 17 1 { result := resExhausted }
      (emit (17 * 256 + 0xFF) 1 resExhausted c (touchSession u s)))) := by
  obtain ⟨body, hcmd, hbody⟩ := cmdSend_allowed hc h
  have herror : (if true then body (touchSession u s) else .error resIllegal) = .error resExhausted :=
    (if_pos rfl).trans (hbody.trans (if_pos (by rw [canPort_touchSession]; exact hfull)))
  show Host.Outcome.next (cmdSend u c 0 s).1 = _
  rw [hcmd, countRefused, runCommand_error_reply h.admitted herror, if_pos rfl, runCommand_error (by decide) h.admitted herror]

/-- The result of a command of CAN, which changes no other register of the unit. -/
theorem canResult {op res ret : Nat} (hres : res < 256) (hs : keysRise s.regs = true) :
    getF (showResult 17 op { result := res, ret := ret } s) F.CAN.CMD_RESULT_RESULT = res ∧
      ∀ f : Field, 0x1100100 ≤ f.addr → f.addr < 0x1200000 → f.lsb < 32 →
        getF (showResult 17 op { result := res, ret := ret } s) f = getF s f := by
  refine ⟨getF_showResult rfl (by decide) (by decide) hres hs, fun f hlow _ hlsb => ?_⟩
  refine showResult_onlyFields (n := 17) rfl (by decide) (by decide) f ?_
  simp only [List.forall_mem_cons, fieldKey, F.CAN.CMD_RESULT_OPCODE, F.CAN.CMD_RESULT_RESULT]
  exact ⟨by omega, by omega, by simp⟩

theorem messageSent_moves (c : Nat) (s : State) : Moves 0x40002 s (messageSent c s) :=
  moves_step (showQueues_moves ..) rfl (moves_step (updPort_moves ..) rfl moves_refl)

theorem messageSent_shows (hc : c < 4) (wf : WellKept s) (hroom : (canPort s c).host.length < 32) :
    PortMoved c (fun q => { q with host := q.host ++ [htxMessage c s] }) s (messageSent c s) ∧
      getF (messageSent c s) (F.CAN.Q_FILL (4 * c)) = (canPort s c).host.length + 1 := by
  have hport := portMoved_updPort (fun q => { q with host := q.host ++ [htxMessage c s] }) hc wf
  refine ⟨portMoved_then hport (showQueues_moves ..) rfl, ?_⟩
  unfold messageSent
  have hregs : keysRise (updPort c (fun q => { q with host := q.host ++ [htxMessage c s] }) s).regs = true := wf.regs
  have hhost := congrArg (fun q => q.host.length) hport.own
  generalize updPort c _ s = v at hhost hregs ⊢
  have hlength : (canPort v c).host.length = (canPort s c).host.length + 1 := by
    rw [hhost]
    exact List.length_append
  have hfill : getF (showQueues c v) (F.CAN.Q_FILL (4 * c)) = (canPort v c).host.length % 2 ^ 32 :=
    getF_setF_same _ _ _ (setF_keysRise _ _ _ (setF_keysRise _ _ _ (setF_keysRise _ _ _ hregs)))
  rw [hfill, hlength]
  omega

theorem send_appends {u : Caller} (hc : c < 4) (wf : WellKept s) (h : SendAllowed s u c) (hroom : (canPort s c).host.length < 32) :
    ∃ t m, exec (.send u c 0) s = .next t ∧ (canPort t c).host = (canPort s c).host ++ [m] ∧
      m.id = getF s (F.CAN.HTX_ID c) ∧ m.ctrl = getF s (F.CAN.HTX_CTRL c) ∧ m.launch = nowNs s 1 ∧
      (∀ d, d ≠ c → canPort t d = canPort s d) ∧
      getF t (F.CAN.Q_FILL (4 * c)) = (canPort s c).host.length + 1 ∧ getF t F.CAN.CMD_RESULT_RESULT = resOk ∧
      OnlyParts [.regs, .can, .sec] s t := by
  have htouch := touchSession_moves u s
  have hexec := exec_send_taken hc h hroom
  have hid : getF (touchSession u s) (F.CAN.HTX_ID c) = getF s (F.CAN.HTX_ID c) :=
    getF_touchSession_can u (by simp only [F.CAN.HTX_ID]; omega) (show 0 < 32 by decide)
  have hctrl : getF (touchSession u s) (F.CAN.HTX_CTRL c) = getF s (F.CAN.HTX_CTRL c) :=
    getF_touchSession_can u (by simp only [F.CAN.HTX_CTRL]; omega) (show 0 < 32 by decide)
  have hnow : nowNs (touchSession u s) 1 = nowNs s 1 := by rw [nowNs, nowNs, htouch.frame .clap rfl]
  have hports := fun d => canPort_touchSession (s := s) u d
  have wfv := htouch.form wf
  generalize touchSession u s = v at *
  obtain ⟨hport, hfill⟩ := messageSent_shows hc wfv (hports c ▸ hroom)
  have hsentMoves := messageSent_moves c v
  obtain ⟨hresult, hkept⟩ := canResult (op := 1) (res := resOk) (ret := 0) (by decide) (hsentMoves.form wfv).regs
  have hshow : Moves 0x2 (messageSent c v) (showResult 17 1 { result := resOk, ret := 0 } (messageSent c v)) := showResult_moves ..
  have hall := portMoved_then hport hshow rfl
  have hmoves : Moves 0x840002 s (showResult 17 1 { result := resOk, ret := 0 } (messageSent c v)) :=
    moves_step hshow rfl (moves_step hsentMoves rfl (moves_step htouch rfl moves_refl))
  refine ⟨_, htxMessage c v, hexec, ?_, hid, hctrl, hnow, fun d hd => (hall.others d hd).trans (hports d), ?_, hresult,
    onlyParts_of_moves s _ hmoves rfl⟩
  · rw [hall.own, hports]
  · rw [hkept _ (by simp only [F.CAN.Q_FILL]; omega) (by simp only [F.CAN.Q_FILL]; omega) (show 0 < 32 by decide), hfill, hports]

theorem send_exhausted {u : Caller} (hc : c < 4) (wf : WellKept s) (h : SendAllowed s u c) (hfull : 32 ≤ (canPort s c).host.length) :
    ∃ t, exec (.send u c 0) s = .next t ∧ t.can = s.can ∧ getF t F.CAN.CMD_RESULT_RESULT = resExhausted ∧
      getF t (F.CAN.Q_REFUSED (4 * c)) = min (getF s (F.CAN.Q_REFUSED (4 * c)) + 1) 0xFFFFFFFF := by
  have hrefused : Moves 0xa00002 s (emit (17 * 256 + 0xFF) 1 resExhausted c (touchSession u s)) :=
    moves_step (emit_moves ..) rfl (moves_step (touchSession_moves u s) rfl moves_refl)
  have hcount : getF (emit (17 * 256 + 0xFF) 1 resExhausted c (touchSession u s)) (F.CAN.Q_REFUSED (4 * c)) =
      getF s (F.CAN.Q_REFUSED (4 * c)) :=
    (getF_emit ..).trans (getF_touchSession_can u (by simp only [F.CAN.Q_REFUSED]; omega) (show 0 < 32 by decide))
  have hexec := exec_send_exhausted hc h hfull
  have wfv := hrefused.form wf
  generalize emit (17 * 256 + 0xFF) 1 resExhausted c (touchSession u s) = v at *
  obtain ⟨hresult, hkept⟩ := canResult (s := v) (op := 1) (res := resExhausted) (ret := 0) (by decide) wfv.regs
  have hshow : Moves 0x2 v (showResult 17 1 { result := resExhausted } v) := showResult_moves ..
  have hall : Moves 0xa00002 s (bumpF (F.CAN.Q_REFUSED (4 * c)) 1 (showResult 17 1 { result := resExhausted } v)) :=
    moves_step (bumpF_moves ..) rfl (moves_step hshow rfl hrefused)
  refine ⟨_, hexec, hall.frame .can rfl, ?_, ?_⟩
  · rw [getF_bumpF_other _ _ _ _ (by simp only [fieldKey, F.CAN.Q_REFUSED, F.CAN.CMD_RESULT_RESULT]; omega), hresult]
  · rw [getF_bumpF_same _ _ _ rfl (hshow.form wfv).regs,
      hkept _ (by simp only [F.CAN.Q_REFUSED]; omega) (by simp only [F.CAN.Q_REFUSED]; omega) (show 0 < 32 by decide), hcount]

/-- RECOVER's own part. -/
def recoveryStarted (c : Nat) (s : State) : State :=
  showErrors (setF (F.CAN.PORT_STATE_ERROR_STATE c) 3 (updPort c (fun q => { q with recoverFrom := nowNs s 1 }) s))

/-- What RECOVER does on a used port. -/
def recoverBody (c : Nat) (p : CanPortCfg) (t : State) : Body :=
  if canError t c ≠ 2 || p.autoRecover then .error resIllegal else .ok (recoveryStarted c t, resOk, 0)

theorem cmdRecover_used {u : Caller} (hlive : inState s .live = true) (hcfg : canCfg s c = some p) : ∃ body : State → Body,
    cmdRecover u c 0 s = runCommand 17 0x02 u c (some [roleOperator]) true body s ∧
      body (touchSession u s) = recoverBody c p (touchSession u s) := by
  rw [cmdRecover, hlive]
  refine ⟨_, rfl, ?_⟩
  rw [canCfg_touchSession, hcfg]
  rfl

theorem recover_starts {u : Caller} (hc : c < 4) (wf : WellKept s) (hlive : inState s .live = true) (hcfg : canCfg s c = some p)
    (hadm : Admitted u [roleOperator] s) (hauto : p.autoRecover = false) (hoff : canError s c = 2) :
    ∃ t, exec (.recover u c 0) s = .next t ∧ canError t c = 3 ∧ (canPort t c).recoverFrom = nowNs s 1 ∧
      getF t F.CAN.CMD_RESULT_RESULT = resOk ∧ OnlyParts [.regs, .can, .sec] s t := by
  obtain ⟨body, hcmd, hbody⟩ := cmdRecover_used (u := u) hlive hcfg
  have herror := canError_touchSession (s := s) u hc
  have hok : body (touchSession u s) = .ok (recoveryStarted c (touchSession u s), resOk, 0) := by
    refine hbody.trans (if_neg ?_)
    rw [herror, hoff, hauto]
    decide
  have hexec : exec (.recover u c 0) s = .next (showResult 17 2 { result := resOk, ret := 0 } (recoveryStarted c (touchSession u s))) :=
    congrArg Host.Outcome.next ((congrArg Prod.fst hcmd).trans (runCommand_ok hadm hok))
  have htouch := touchSession_moves u s
  have hnow : nowNs (touchSession u s) 1 = nowNs s 1 := by rw [nowNs, nowNs, htouch.frame .clap rfl]
  have wfv := htouch.form wf
  clear hok hbody hcmd herror
  generalize touchSession u s = v at *
  have hport : PortMoved c (fun q => { q with recoverFrom := nowNs v 1 }) v (recoveryStarted c v) :=
    portMoved_then (m := 0x2) (portMoved_updPort _ hc wfv) (moves_step (showErrors_moves ..) rfl (moves_step (setF_moves ..) rfl moves_refl)) rfl
  have hstarted : Moves 0x40002 v (recoveryStarted c v) := moves_step (showErrors_moves ..) rfl (moves_step (setF_moves ..) rfl
    (moves_step (updPort_moves ..) rfl moves_refl))
  have hstate : canError (recoveryStarted c v) c = 3 :=
    (getF_showErrors _ (Nat.le_add_right ..) _).trans (getF_setF_same _ _ _ wfv.regs)
  have wfr := hstarted.form wfv
  generalize recoveryStarted c v = r at *
  obtain ⟨hresult, hkept⟩ := canResult (s := r) (op := 2) (res := resOk) (ret := 0) (by decide) wfr.regs
  have hshow : Moves 0x2 r (showResult 17 2 { result := resOk, ret := 0 } r) := showResult_moves ..
  have hmoves : Moves 0x840002 s (showResult 17 2 { result := resOk, ret := 0 } r) :=
    moves_step hshow rfl (moves_step hstarted rfl (moves_step htouch rfl moves_refl))
  refine ⟨_, hexec, ?_, ?_, hresult, onlyParts_of_moves s _ hmoves rfl⟩
  · rw [canError, hkept _ (Nat.le_add_right ..) (by simp only [F.CAN.PORT_STATE_ERROR_STATE]; omega) (show 16 < 32 by decide)]
    exact hstate
  · rw [(portMoved_then hport hshow rfl).own]
    exact hnow

theorem recover_refused {u : Caller} (hc : c < 4) (wf : WellKept s) (hlive : inState s .live = true) (hcfg : canCfg s c = some p)
    (hadm : Admitted u [roleOperator] s) (hoff : canError s c ≠ 2) :
    ∃ t, exec (.recover u c 0) s = .next t ∧ t.can = s.can ∧ canError t c = canError s c ∧
      getF t F.CAN.CMD_RESULT_RESULT = resIllegal := by
  obtain ⟨body, hcmd, hbody⟩ := cmdRecover_used (u := u) hlive hcfg
  have herrorT := canError_touchSession (s := s) u hc
  have herror : (if true then body (touchSession u s) else .error resIllegal) = .error resIllegal := by
    refine (if_pos rfl).trans (hbody.trans (if_pos ?_))
    rw [herrorT]
    simp [hoff]
  have hexec : exec (.recover u c 0) s = .next (showResult 17 2 { result := resIllegal }
      (emit (17 * 256 + 0xFF) 2 resIllegal c (touchSession u s))) :=
    congrArg Host.Outcome.next ((congrArg Prod.fst hcmd).trans (runCommand_error (by decide) hadm herror))
  have hrefused : Moves 0xa00002 s (emit (17 * 256 + 0xFF) 2 resIllegal c (touchSession u s)) :=
    moves_step (emit_moves ..) rfl (moves_step (touchSession_moves u s) rfl moves_refl)
  have hstate : canError (emit (17 * 256 + 0xFF) 2 resIllegal c (touchSession u s)) c = canError s c :=
    (getF_emit ..).trans herrorT
  have wfv := hrefused.form wf
  clear hbody hcmd herror herrorT
  generalize emit (17 * 256 + 0xFF) 2 resIllegal c (touchSession u s) = v at *
  obtain ⟨hresult, hkept⟩ := canResult (s := v) (op := 2) (res := resIllegal) (ret := 0) (by decide) wfv.regs
  have hall : Moves 0xa00002 s (showResult 17 2 { result := resIllegal } v) := moves_step (showResult_moves ..) rfl hrefused
  refine ⟨_, hexec, hall.frame .can rfl, ?_, hresult⟩
  rw [canError, hkept _ (Nat.le_add_right ..) (by simp only [F.CAN.PORT_STATE_ERROR_STATE]; omega) (show 16 < 32 by decide)]
  exact hstate

end Sys2Proof.Machine
end

section
/-! The statement about CAN windows, errors and commands. -/

namespace Sys2Proof.Certificates

open Sys2Proof Sys2Proof.Machine

/-- Settles O52, command by command: of each, what it leaves of the ports' states and of the registers that it does not write. -/
theorem canWindowsSendsAndErrors : Obligations.CanWindowsSendsAndErrors := by
  intro c p s wf hc hcfg _
  refine ⟨fun k w hlive hruns htt hw hk => ⟨fun hnone hstart hend => ?_, fun hclosed => ?_⟩,
    fun k hopen hover => windowEnd_ends hc wf hcfg hopen hover, fun hidle => ?_, fun w hwire hruns hmode _ htec => ?_,
    fun hidle => exec_canFrameSent_idle hcfg hidle,
    fun tec rec hruns hmode herror htec hrec => busError_counts hc wf hcfg hruns hmode herror htec hrec,
    fun herror hover => ?_, fun hkept => ?_, fun u hlive => ⟨fun hadm hrole herror hmode hctrl hlength => ?_, fun hadm hauto => ?_⟩⟩
  · have hexec := exec_canWindowStart (k := k) hcfg hruns hlive htt hw
    rw [if_neg (by simp [hnone, Nat.not_lt.2 hstart, hend])] at hexec
    exact ⟨_, hexec, windowStart_opens hc wf hk rfl⟩
  · rw [exec_canWindowStart hcfg hruns hlive htt hw, if_pos]
    simpa [Option.isSome_iff_ne_none, or_assoc] using hclosed
  · obtain hnone | ⟨k, hopen, hover⟩ := hidle
    · exact exec_canWindowEnd_none hcfg hnone
    · rw [exec_canWindowEnd hcfg hopen, hover]
      rfl
  · have hexec := exec_canFrameSent hcfg hwire
    rw [if_neg (by simp [hruns, hmode])] at hexec
    exact ⟨_, hexec, frameSent_leaves hc wf htec rfl⟩
  · have hexec := exec_recoveryDone hcfg
    rw [if_neg (by simp [herror, hover])] at hexec
    exact ⟨_, hexec, errorActive_shows _ wf⟩
  · rw [exec_recoveryDone hcfg, if_pos (by simpa using hkept)]
  · have hallowed : SendAllowed s u c := ⟨hlive, hadm, hrole, by rw [hcfg]; rfl, herror, hmode, hctrl, hlength⟩
    exact ⟨send_appends hc wf hallowed, send_exhausted hc wf hallowed⟩
  · exact ⟨recover_starts hc wf hlive hcfg hadm hauto, recover_refused hc wf hlive hcfg hadm⟩

end Sys2Proof.Certificates
end

section
/-! SUPPORT. SPOT's status, interlock, health, phase and counter registers (R410 to R432): the operations of the other units leave
them as they are. -/

namespace Sys2Proof.Machine

open Sys2Proof

variable {s t u : State}

/-! ### The calculus -/

/-- A field outside SPOT's registers from 0x000 to 0x03C. -/
abbrev OffSpot (g : Field) : Prop := (g.addr < 0x1200000 ∨ 0x1200040 ≤ g.addr) ∧ g.lsb < 32

/-- SPOT's registers from 0x000 to 0x03C stand. -/
def SpotKept (s t : State) : Prop := ∀ f : Field, 0x1200000 ≤ f.addr → f.addr < 0x1200040 → f.lsb < 32 → getF t f = getF s f

theorem spotKept_refl : SpotKept s s := fun _ _ _ _ => rfl

theorem spotKept_trans (h1 : SpotKept s t) (h2 : SpotKept t u) : SpotKept s u :=
  fun f hlow hhigh hlsb => (h2 f hlow hhigh hlsb).trans (h1 f hlow hhigh hlsb)

theorem spotKept_of_regs (h : t.regs = s.regs) : SpotKept s t := fun f _ _ _ => getF_congr s t f h

theorem spotKept_of_onlyFields {fs : List Field} (h : OnlyFields fs s t) (hfs : ∀ g ∈ fs, OffSpot g) : SpotKept s t := by
  refine fun f hlow hhigh hlsb => h f fun g hg => ?_
  obtain ⟨haddr, hglsb⟩ := hfs g hg
  simp only [fieldKey]
  omega

theorem spotKept_setF {g : Field} {v : Nat} (hg : OffSpot g) (h : SpotKept s t) : SpotKept s (setF g v t) :=
  spotKept_trans h (spotKept_of_onlyFields (onlyFields_single_setF g v t) (by simpa using hg))

theorem spotKept_bumpF {g : Field} {k : Nat} (hg : OffSpot g) (h : SpotKept s t) : SpotKept s (bumpF g k t) := spotKept_setF hg h

theorem spotKept_emit {code w1 w2 w3 : Nat} (h : SpotKept s t) : SpotKept s (emit code w1 w2 w3 t) :=
  spotKept_trans h fun f _ _ _ => getF_emit t code w1 w2 w3 f

theorem spotKept_ite {c : Prop} [Decidable c] (h1 : SpotKept u s) (h2 : SpotKept u t) : SpotKept u (if c then s else t) := by
  split <;> assumption

theorem spotKept_foldl {α : Type} {l : List α} {f : State → α → State} (hf : ∀ x ∈ l, ∀ v, SpotKept v (f v x)) :
    SpotKept s (l.foldl f s) := by
  induction l generalizing s with
  | nil => exact spotKept_refl
  | cons x l ih =>
    rw [List.forall_mem_cons] at hf
    exact spotKept_trans (hf.1 s) (ih hf.2)

/-! ### Records and causes -/

theorem spotKept_raiseCause (c : Nat) (s : State) : SpotKept s (raiseCause c s) :=
  spotKept_of_onlyFields (raiseCause_onlyFields c s) (by decide)

theorem recordFields_offSpot : ∀ g ∈ recordFields, OffSpot g := by decide

theorem spotKept_numberRecord (r : Rec) (s : State) : SpotKept s (numberRecord r s) :=
  spotKept_of_onlyFields (numberRecord_onlyFields r s) recordFields_offSpot

theorem spotKept_triggerFlush (trigger : Nat) (s : State) : SpotKept s (triggerFlush trigger s) := by
  refine spotKept_of_onlyFields (triggerFlush_onlyFields trigger s) fun g hg => ?_
  obtain hpending | hrest := List.mem_append.1 hg
  · obtain ⟨e, -, rfl⟩ := List.mem_map.1 hpending
    exact ⟨Or.inr (Nat.le_add_right_of_le (by decide)), show 0 < 32 by decide⟩
  · obtain rfl | hrecord := List.mem_cons.1 hrest
    · decide
    · exact recordFields_offSpot g hrecord

/-! ### Frames, captures, the round in progress -/

theorem qFillF_offSpot {q : Nat} (hq : q < 48) : OffSpot (qFillF q) := by
  unfold qFillF
  split
  · exact ⟨Or.inl (by simp only [F.NET.Q_FILL]; omega), show 0 < 32 by decide⟩
  · exact ⟨Or.inl (by simp only [F.LRP.Q_FILL]; omega), show 0 < 32 by decide⟩

theorem spotKept_loseFrames (s : State) : SpotKept s (loseFrames s) :=
  spotKept_foldl fun _ hq _ => spotKept_ite
    (spotKept_trans (spotKept_of_regs rfl) (spotKept_setF (qFillF_offSpot (List.mem_range.1 hq)) spotKept_refl)) spotKept_refl

theorem spotKept_dropCaptures (s : State) : SpotKept s (dropCaptures s) := by
  unfold dropCaptures
  extract_lets s1
  have h1 : SpotKept s s1 := by
    refine spotKept_foldl fun k hk v => ?_
    have hk4 : k < 4 := by
      simp only [List.mem_cons, List.not_mem_nil, or_false] at hk
      omega
    have hupd : SpotKept v (updCapture k (fun _ => {}) v) := spotKept_of_regs rfl
    exact spotKept_setF ⟨Or.inl (by simp only [F.TRP.CAP_FILLED]; omega), show 0 < 32 by decide⟩
      (spotKept_setF ⟨Or.inl (by simp only [F.TRP.CAP_STATE_STATE]; omega), show 0 < 32 by decide⟩ hupd)
  exact spotKept_trans h1 (spotKept_of_regs rfl)

theorem spotKept_dropRound (s : State) : SpotKept s (dropRound s) :=
  spotKept_setF (by decide) (spotKept_setF (by decide) (spotKept_setF (by decide) (spotKept_setF (by decide) (spotKept_of_regs rfl))))

theorem spotKept_dropShadowWork (s : State) : SpotKept s (dropShadowWork s) :=
  spotKept_trans (spotKept_dropRound s) (spotKept_of_regs rfl)

/-! ### Takes -/

theorem spotKept_freeSlot {k : Nat} (hk : k < 4) (s : State) : SpotKept s (freeSlot k s) := by
  refine spotKept_of_onlyFields (freeSlot_onlyFields k s) ?_
  simp only [List.forall_mem_cons, OffSpot, F.TXN.STATUS_OPEN, F.TXN.STATUS_QUEUED, F.TXN.SLOT_STATE_STATE, F.TXN.SLOT_WRITES, F.TXN.SLOT_TAKE_ID]
  exact ⟨by omega, by omega, by omega, by omega, by omega, by simp⟩

theorem spotKept_showLog (s : State) : SpotKept s (showLog s) := by
  have hfill : SpotKept s (putLogFill s) := spotKept_setF (by decide) (spotKept_setF (by decide) (spotKept_setF (by decide)
    (spotKept_setF (by decide) spotKept_refl)))
  exact spotKept_ite (spotKept_emit hfill) hfill

theorem spotKept_appendLog (e : LogEntry) (s : State) : SpotKept s (appendLog e s) := by
  unfold appendLog
  extract_lets x
  exact spotKept_trans (spotKept_of_regs rfl) (spotKept_showLog _)

theorem spotKept_abandonAhead (s : State) : SpotKept s (abandonAhead s) := by
  unfold abandonAhead
  split
  next a _ =>
    have hlog : SpotKept s (if a.stage = 1 then s else appendLog (entryOf s a.slot a.mirrored .unmarked) s) :=
      spotKept_ite spotKept_refl (spotKept_appendLog _ s)
    exact spotKept_trans hlog (spotKept_of_regs rfl)
  · exact spotKept_refl

theorem lt_four_of_mem {k : Nat} (h : k ∈ [0, 1, 2, 3]) : k < 4 := by
  simp only [List.mem_cons, List.not_mem_nil, or_false] at h
  omega

theorem spotKept_takesLeaveLive (s : State) : SpotKept s (takesLeaveLive s) := by
  unfold takesLeaveLive
  extract_lets v
  have h1 : SpotKept s v := spotKept_abandonAhead s
  refine spotKept_trans h1 (spotKept_foldl fun k hk _ => ?_)
  have hk4 := lt_four_of_mem hk
  exact spotKept_ite (spotKept_trans (spotKept_emit spotKept_refl) (spotKept_freeSlot hk4 _)) (spotKept_ite (spotKept_freeSlot hk4 _) spotKept_refl)

theorem spotKept_takesStandDown (s : State) : SpotKept s (takesStandDown s) := by
  unfold takesStandDown
  extract_lets ks es s1 s2
  have h1 : SpotKept s s1 := spotKept_takesLeaveLive s
  have h2 : SpotKept s1 s2 := spotKept_foldl fun k hk v => spotKept_freeSlot (lt_four_of_mem (List.mem_of_mem_filter hk)) v
  exact spotKept_trans h1 (spotKept_trans h2 (spotKept_of_regs rfl))

/-! ### The Clapper, CAN and the loops at a change of Lead -/

theorem spotKept_clapLeaveStandIn (s : State) : SpotKept s (clapLeaveStandIn s) := by
  unfold clapLeaveStandIn
  extract_lets cur d k clap s1
  have h1 : SpotKept s s1 := spotKept_bumpF (by decide) (spotKept_setF (by decide) (spotKept_of_regs rfl))
  have hend : ∀ v, SpotKept v (checkAligned v) := fun v => spotKept_ite
    (spotKept_emit (spotKept_setF (by decide) spotKept_refl)) (spotKept_setF (by decide) spotKept_refl)
  exact spotKept_trans (spotKept_emit h1) (hend _)

theorem usedPort_lt {e : Nat × CanPortCfg} (h : e ∈ usedPorts s) : e.1 < 4 := by
  obtain ⟨c, hc, hmap⟩ := List.mem_filterMap.1 h
  obtain ⟨q, -, rfl⟩ := Option.map_eq_some_iff.1 hmap
  exact lt_four_of_mem hc

theorem portFields_offSpot {c : Nat} (hc : c < 4) : OffSpot (F.CAN.PORT_STATE_MODE c) ∧ OffSpot (F.CAN.PORT_STATE_ERROR_STATE c) ∧
    OffSpot (F.CAN.ERROR_COUNTERS_TEC c) ∧ OffSpot (F.CAN.ERROR_COUNTERS_REC c) := by
  simp only [OffSpot, F.CAN.PORT_STATE_MODE, F.CAN.PORT_STATE_ERROR_STATE, F.CAN.ERROR_COUNTERS_TEC, F.CAN.ERROR_COUNTERS_REC]
  omega

theorem spotKept_canSwitchOver (s : State) : SpotKept s (canSwitchOver s) := by
  unfold canSwitchOver
  refine spotKept_setF (by decide) (spotKept_setF (by decide) (spotKept_foldl fun e he v => ?_))
  extract_lets c v1 mode
  obtain ⟨hmode, herror, htec, hrec⟩ := portFields_offSpot (usedPort_lt he)
  have h1 : SpotKept v v1 := spotKept_ite (spotKept_emit spotKept_refl) spotKept_refl
  exact spotKept_setF hmode (spotKept_setF herror (spotKept_setF htec (spotKept_setF hrec (spotKept_trans h1 (spotKept_of_regs rfl)))))

theorem spotKept_putLoop {l : Nat} (hl : l < 1024) (x : LoopState) (s : State) : SpotKept s (putLoop l x s) := by
  have hoff : OffSpot (F.TRP.LOOP_STATUS_STATE l) ∧ OffSpot (F.TRP.LOOP_STATUS_INJECTING l) ∧ OffSpot (F.TRP.LOOP_STATUS_CLOSING l) ∧
      OffSpot (F.TRP.LOOP_STATUS_REP_INDEX l) ∧ OffSpot (F.TRP.LOOP_OUTPUT l) := by
    simp only [OffSpot, F.TRP.LOOP_STATUS_STATE, F.TRP.LOOP_STATUS_INJECTING, F.TRP.LOOP_STATUS_CLOSING, F.TRP.LOOP_STATUS_REP_INDEX,
      F.TRP.LOOP_OUTPUT]
    omega
  obtain ⟨hstate, hinj, hclosing, hindex, hout⟩ := hoff
  exact spotKept_setF hstate (spotKept_setF hinj (spotKept_setF hclosing (spotKept_setF hindex (spotKept_setF hout (spotKept_of_regs rfl)))))

/-! ### A Stand-in joins (R420, R428) -/

/-- Of SPOT's registers from 0x000 to 0x03C only some change. -/
def SpotOnly (fs : List Field) (s t : State) : Prop :=
  ∀ f : Field, 0x1200000 ≤ f.addr → f.addr < 0x1200040 → f.lsb < 32 → (∀ g ∈ fs, fieldKey g ≠ fieldKey f) → getF t f = getF s f

theorem spotOnly_of_kept {fs : List Field} (h : SpotKept s t) : SpotOnly fs s t := fun f hlow hhigh hlsb _ => h f hlow hhigh hlsb

theorem spotOnly_trans {fs : List Field} (h1 : SpotOnly fs s t) (h2 : SpotOnly fs t u) : SpotOnly fs s u :=
  fun f hlow hhigh hlsb hf => (h2 f hlow hhigh hlsb hf).trans (h1 f hlow hhigh hlsb hf)

theorem spotOnly_mono {fs gs : List Field} (h : SpotOnly fs s t) (hs : fs ⊆ gs) : SpotOnly gs s t :=
  fun f hlow hhigh hlsb hf => h f hlow hhigh hlsb fun g hg => hf g (hs hg)

theorem spotOnly_setF {fs : List Field} {g : Field} {v : Nat} (hg : g ∈ fs) (h : SpotOnly fs s t) : SpotOnly fs s (setF g v t) :=
  spotOnly_trans h fun f _ _ _ hf => getF_setF_other t g f v (hf g hg)

theorem startJoin_spotOnly (s : State) : SpotOnly [F.SPOT.JOIN_COUNT, F.SPOT.MISMATCH_COUNT] s (startJoin s) := by
  unfold startJoin
  extract_lets v req key
  have hdrop : SpotKept s v := spotKept_ite (spotKept_dropShadowWork s) spotKept_refl
  refine spotOnly_setF (by simp) (spotOnly_setF (by simp) (spotOnly_trans (spotOnly_of_kept hdrop) (spotOnly_of_kept (spotKept_of_regs rfl))))

theorem startJoin_joins (s : State) : (startJoin s).spot.joining = true ∧ (startJoin s).spot.sending = s.spot.sending := by
  have hspot : (if inState s .live then dropShadowWork s else s).spot = s.spot :=
    (moves_ite (dropShadowWork_moves s) moves_refl : Moves 0xb12 s _).frame .spot rfl
  unfold startJoin
  extract_lets v req key
  exact ⟨rfl, (congrArg SpotPart.sending hspot : v.spot.sending = s.spot.sending)⟩

/-- The fields of SPOT that a stand-down writes once ON_AIR has been released. -/
def standDownFields : List Field :=
  [F.SPOT.STATUS_ROLE, F.SPOT.STATUS_PEER_PRESENT, F.SPOT.STATUS_STANDIN_STATE, F.SPOT.JOIN_COUNT, F.SPOT.MISMATCH_COUNT]

/-- The frames of a Lead that stands down are lost, and the recorder flushes. -/
def leadFlushed (cause : Nat) (s : State) : State := triggerFlush 3 (emit 0x1202 cause 0 0 (loseFrames s))

/-- Its role and its Takes are given up. -/
def leadGivenUp (s : State) : State :=
  setF F.SPOT.STATUS_PEER_PRESENT 0 (setF F.SPOT.STATUS_STANDIN_STATE 1 (takesStandDown (setRole 2 (dropCaptures s))))

/-- Its CAN ports monitor. -/
def portsMonitor (s : State) : State :=
  (usedPorts s).foldl (fun t e => setF (F.CAN.PORT_STATE_MODE e.1) 2 (updPort e.1 (fun _ => {}) t)) s

/-- It is no Lead any more. -/
def leadEnded (s : State) : State :=
  updSpot (fun x => { x with driveOnce := true, sending := false, handover := false, peerReady := false }) s

theorem standDown_eq (cause : Nat) (s : State) :
    standDown cause s = startJoin (leadEnded (portsMonitor (leadGivenUp (leadFlushed cause (releaseAir s))))) := rfl

theorem setRole_spotOnly (r : Nat) (s : State) : SpotOnly [F.SPOT.STATUS_ROLE] s (setRole r s) := by
  unfold setRole
  split
  · exact spotOnly_of_kept spotKept_refl
  · exact spotOnly_trans (spotOnly_setF (by simp) (spotOnly_of_kept spotKept_refl)) (spotOnly_of_kept (spotKept_raiseCause 21 _))

theorem leadGivenUp_spotOnly (s : State) : SpotOnly standDownFields s (leadGivenUp s) := by
  have hrole : SpotOnly standDownFields s (setRole 2 (dropCaptures s)) :=
    spotOnly_trans (spotOnly_of_kept (spotKept_dropCaptures s)) (spotOnly_mono (setRole_spotOnly 2 _) (by simp [standDownFields]))
  exact spotOnly_setF (by simp [standDownFields]) (spotOnly_setF (by simp [standDownFields])
    (spotOnly_trans hrole (spotOnly_of_kept (spotKept_takesStandDown _))))

theorem spotKept_leadFlushed (cause : Nat) (s : State) : SpotKept s (leadFlushed cause s) :=
  spotKept_trans (spotKept_emit (spotKept_loseFrames s)) (spotKept_triggerFlush 3 _)

theorem spotKept_portsMonitor (s : State) : SpotKept s (portsMonitor s) :=
  spotKept_foldl fun _ he _ => spotKept_setF (portFields_offSpot (usedPort_lt he)).1 (spotKept_of_regs rfl)

theorem spotKept_leadEnded (s : State) : SpotKept s (leadEnded s) := spotKept_of_regs rfl

theorem standDown_spotOnly (cause : Nat) (s : State) : SpotOnly standDownFields (releaseAir s) (standDown cause s) := by
  rw [standDown_eq]
  generalize releaseAir s = v
  have h1 : SpotOnly standDownFields v (leadFlushed cause v) := spotOnly_of_kept (spotKept_leadFlushed cause v)
  generalize leadFlushed cause v = x at *
  have h2 : SpotOnly standDownFields x (leadGivenUp x) := leadGivenUp_spotOnly x
  generalize leadGivenUp x = y at *
  have h3 : SpotOnly standDownFields y (leadEnded (portsMonitor y)) :=
    spotOnly_of_kept (spotKept_trans (spotKept_portsMonitor y) (spotKept_leadEnded _))
  generalize leadEnded (portsMonitor y) = z at *
  exact spotOnly_trans h1 (spotOnly_trans h2 (spotOnly_trans h3 (spotOnly_mono (startJoin_spotOnly z) (by simp [standDownFields]))))

theorem standDown_offAir (cause : Nat) (wf : WellKept s) : flag (standDown cause s) F.SPOT.INTERLOCK_ON_AIR = false := by
  rw [flag, standDown_spotOnly cause s _ (by decide) (by decide) (by decide) (by decide), releaseAir, getF_setF_same _ _ _ wf.regs]
  rfl

/-- A stand-down leaves the device in its state, and a module that joins and sends no deltas. -/
theorem standDown_joins (cause : Nat) (s : State) : (standDown cause s).dev.state = s.dev.state ∧
    (standDown cause s).spot.joining = true ∧ (standDown cause s).spot.sending = false := by
  refine ⟨(standDown_moves cause s).frame .devState rfl, ?_⟩
  rw [standDown_eq]
  generalize portsMonitor _ = v
  obtain ⟨hjoining, hsending⟩ := startJoin_joins (leadEnded v)
  exact ⟨hjoining, hsending⟩

end Sys2Proof.Machine
end

section
/-! SUPPORT. The grant of a controller, the change to Lead, and the Ringmaster's decisions (R413, R416, R418, R419, R427, R428). -/

namespace Sys2Proof.Machine

open Sys2Proof

variable {s t : State}

/-! ### The confirmed grant (R416, R428) -/

/-- GRANT, the side and the peer's level, as a confirmed change shows them. -/
def grantShown (level : Bool) (side : Nat) (peer : Bool) (s : State) : State :=
  setF F.SPOT.INTERLOCK_GRANT (ofBool level) (setF F.SPOT.STATUS_SIDE side (setF F.SPOT.INTERLOCK_PEER_ON_AIR (ofBool peer) s))

/-- The fields that show the grant. -/
def grantFields : List Field := [F.SPOT.INTERLOCK_GRANT, F.SPOT.STATUS_SIDE, F.SPOT.INTERLOCK_PEER_ON_AIR]

theorem confirmGrant_eq (level : Bool) (side : Nat) (peer : Bool) (s : State) : confirmGrant level side peer s =
    (if level && !flag s F.SPOT.INTERLOCK_GRANT then bumpF F.SPOT.SWITCH_COUNT 1 (grantShown level side peer s)
    else if !level && inState s .live && role s == 1 then standDown 0 (grantShown level side peer s)
    else if !level then releaseAir (grantShown level side peer s)
    else grantShown level side peer s) := rfl

/-- What a state shows of the grant. -/
structure GrantShows (level : Bool) (side : Nat) (peer : Bool) (t : State) : Prop where
  grant : flag t F.SPOT.INTERLOCK_GRANT = level
  peer : flag t F.SPOT.INTERLOCK_PEER_ON_AIR = peer
  side : getF t F.SPOT.STATUS_SIDE = side % 2

theorem grantShown_shows (level : Bool) (side : Nat) (peer : Bool) (wf : WellKept s) : GrantShows level side peer (grantShown level side peer s) := by
  have h1 := setF_keysRise s F.SPOT.INTERLOCK_PEER_ON_AIR (ofBool peer) wf.regs
  refine ⟨flag_setF_ofBool level rfl (setF_keysRise _ _ _ h1), ?_, ?_⟩
  · rw [grantShown, flag_setF_other _ _ _ (by decide), flag_setF_other _ _ _ (by decide)]
    exact flag_setF_ofBool peer rfl wf.regs
  · rw [grantShown, getF_setF_other _ _ _ _ (by decide), getF_setF_same _ _ _ h1]
    rfl

theorem grantShows_keeps {level : Bool} {side : Nat} {peer : Bool} {fs : List Field} (h : GrantShows level side peer s)
    (hkeep : SpotOnly fs s t) (hfs : ∀ f ∈ grantFields, ∀ g ∈ fs, fieldKey g ≠ fieldKey f) : GrantShows level side peer t := by
  obtain ⟨hgrant, hpeer, hside⟩ := h
  refine ⟨?_, ?_, ?_⟩
  · rw [flag, hkeep _ (by decide) (by decide) (by decide) (hfs _ (by simp [grantFields]))]
    exact hgrant
  · rw [flag, hkeep _ (by decide) (by decide) (by decide) (hfs _ (by simp [grantFields]))]
    exact hpeer
  · rw [hkeep _ (by decide) (by decide) (by decide) (hfs _ (by simp [grantFields])), hside]

theorem grantShown_moves (level : Bool) (side : Nat) (peer : Bool) (s : State) : Moves 0x2 s (grantShown level side peer s) :=
  moves_step (setF_moves ..) rfl (moves_step (setF_moves ..) rfl (setF_moves ..))

theorem releaseAir_spotOnly (s : State) : SpotOnly [F.SPOT.INTERLOCK_ON_AIR] s (releaseAir s) :=
  spotOnly_setF (by simp) (spotOnly_of_kept spotKept_refl)

theorem standDown_grant {level : Bool} {side : Nat} {peer : Bool} (cause : Nat) (h : GrantShows level side peer s) :
    GrantShows level side peer (standDown cause s) :=
  grantShows_keeps (grantShows_keeps h (releaseAir_spotOnly s) (by decide)) (standDown_spotOnly cause s) (by decide)

/-- What a confirmed grant does: it shows; a rise counts and does no more; a fall takes the module off air, and a LEAD in LIVE stands
down. -/
theorem confirmGrant_shows (level : Bool) (side : Nat) (peer : Bool) (wf : WellKept s) :
    GrantShows level side peer (confirmGrant level side peer s) ∧
      (level = true → flag s F.SPOT.INTERLOCK_GRANT = false → OnlyParts [.regs] s (confirmGrant level side peer s) ∧
        getF (confirmGrant level side peer s) F.SPOT.SWITCH_COUNT = min (getF s F.SPOT.SWITCH_COUNT + 1) 0xFFFFFFFF) ∧
      (level = false → flag (confirmGrant level side peer s) F.SPOT.INTERLOCK_ON_AIR = false ∧ (inState s .live = true → role s = 1 →
        (confirmGrant level side peer s).dev.state = .live ∧ (confirmGrant level side peer s).spot.joining = true ∧
          (confirmGrant level side peer s).spot.sending = false)) := by
  have hshows := grantShown_shows level side peer wf
  have hmoves := grantShown_moves level side peer s
  have wfv := hmoves.form wf
  have hswitch : getF (grantShown level side peer s) F.SPOT.SWITCH_COUNT = getF s F.SPOT.SWITCH_COUNT := by
    rw [grantShown, getF_setF_other _ _ _ _ (by decide), getF_setF_other _ _ _ _ (by decide), getF_setF_other _ _ _ _ (by decide)]
  rw [confirmGrant_eq]
  generalize grantShown level side peer s = v at *
  cases level with
  | true =>
    cases hwas : flag s F.SPOT.INTERLOCK_GRANT with
    | true => exact ⟨hshows, fun _ h => absurd h (by decide), fun h => absurd h (by decide)⟩
    | false =>
      have hcount : Moves 0x2 s (bumpF F.SPOT.SWITCH_COUNT 1 v) := moves_step (bumpF_moves ..) rfl hmoves
      refine ⟨grantShows_keeps hshows (spotOnly_setF (List.mem_singleton.2 rfl) (spotOnly_of_kept spotKept_refl)) (by decide),
        fun _ _ => ⟨onlyParts_of_moves s _ hcount rfl, ?_⟩, fun h => absurd h (by decide)⟩
      exact (getF_bumpF_same _ _ _ rfl wfv.regs).trans (by rw [hswitch])
  | false =>
    by_cases hlead : (inState s .live && role s == 1) = true
    · obtain ⟨hstate, hjoining, hsending⟩ := standDown_joins 0 v
      rw [if_neg (by simp), if_pos (by simpa using hlead)]
      refine ⟨standDown_grant 0 hshows, fun h => absurd h (by decide), fun _ => ⟨standDown_offAir 0 wfv, fun hlive _ => ⟨?_, hjoining, hsending⟩⟩⟩
      rw [hstate, hmoves.frame .devState rfl, inState_eq s hlive]
    · rw [if_neg (by simp), if_neg (by simpa using hlead), if_pos (by decide)]
      refine ⟨grantShows_keeps hshows (releaseAir_spotOnly v) (by decide), fun h => absurd h (by decide), fun _ => ⟨?_, fun hlive hrole => ?_⟩⟩
      · rw [flag, releaseAir, getF_setF_same _ _ _ wfv.regs]
        rfl
      · exact absurd (by rw [hlive, hrole]; rfl) hlead

/-! ### The Ringmaster lost and returned (R419) -/

/-- A confirmed grant is latched. -/
def grantLatched (s : State) : State :=
  raiseCause 21 (emit 0x1209 (getF s F.SPOT.INTERLOCK_GRANT) 0 0 (setF F.SPOT.STATUS_RM_LATCHED 1 s))

/-- A latch has ended. -/
def latchEnded (level : Bool) (s : State) : State := raiseCause 21 (emit 0x120A (ofBool level) 0 0 (setF F.SPOT.STATUS_RM_LATCHED 0 s))

theorem exec_ringmasterLost (hpair : pairReel s = true) :
    exec .ringmasterLost s = .next (if flag s F.SPOT.STATUS_RM_LATCHED then s else latchedFailure (grantLatched s)) := by
  show execRingmasterLost s = _
  rw [execRingmasterLost, hpair]
  cases flag s F.SPOT.STATUS_RM_LATCHED <;> rfl

theorem exec_grantConfirmed (level : Bool) (side : Nat) (peer : Bool) (hpair : pairReel s = true) :
    exec (.grantConfirmed level side peer) s =
      .next (if flag s F.SPOT.STATUS_RM_LATCHED then s else confirmGrant level side peer s) := by
  show execGrantConfirmed level side peer s = _
  rw [execGrantConfirmed, hpair]
  cases flag s F.SPOT.STATUS_RM_LATCHED <;> rfl

theorem exec_ringmasterReturned (level : Bool) (side : Nat) (peer : Bool) :
    exec (.ringmasterReturned level side peer) s = .next (if flag s F.SPOT.STATUS_RM_LATCHED then
      if level == flag s F.SPOT.INTERLOCK_GRANT then latchEnded level s else confirmGrant level side peer (latchEnded level s) else s) := rfl

theorem latchEnded_spotOnly (level : Bool) (s : State) : SpotOnly [F.SPOT.STATUS_RM_LATCHED] s (latchEnded level s) := by
  have hset : SpotOnly [F.SPOT.STATUS_RM_LATCHED] s (setF F.SPOT.STATUS_RM_LATCHED 0 s) :=
    spotOnly_setF (by simp) (spotOnly_of_kept spotKept_refl)
  exact spotOnly_trans (spotOnly_trans hset (spotOnly_of_kept (spotKept_emit spotKept_refl))) (spotOnly_of_kept (spotKept_raiseCause 21 _))

theorem grantLatched_spotOnly (s : State) : SpotOnly [F.SPOT.STATUS_RM_LATCHED] s (grantLatched s) := by
  have hset : SpotOnly [F.SPOT.STATUS_RM_LATCHED] s (setF F.SPOT.STATUS_RM_LATCHED 1 s) :=
    spotOnly_setF (by simp) (spotOnly_of_kept spotKept_refl)
  exact spotOnly_trans (spotOnly_trans hset (spotOnly_of_kept (spotKept_emit spotKept_refl))) (spotOnly_of_kept (spotKept_raiseCause 21 _))

theorem confirmGrant_spotOnly (level : Bool) (side : Nat) (peer : Bool) (s : State) :
    SpotOnly (grantFields ++ F.SPOT.SWITCH_COUNT :: F.SPOT.INTERLOCK_ON_AIR :: standDownFields) s (confirmGrant level side peer s) := by
  have hshown : SpotOnly grantFields s (grantShown level side peer s) := spotOnly_setF (by simp [grantFields])
    (spotOnly_setF (by simp [grantFields]) (spotOnly_setF (by simp [grantFields]) (spotOnly_of_kept spotKept_refl)))
  rw [confirmGrant_eq]
  generalize grantShown level side peer s = v at *
  refine spotOnly_trans (spotOnly_mono hshown (by simp)) ?_
  have hair := releaseAir_spotOnly v
  split
  · exact spotOnly_setF (by simp) (spotOnly_of_kept spotKept_refl)
  · split
    · exact spotOnly_trans (spotOnly_mono hair (by simp)) (spotOnly_mono (standDown_spotOnly 0 v)
        fun g hg => List.mem_append_right _ (List.mem_cons_of_mem _ (List.mem_cons_of_mem _ hg)))
    · split
      · exact spotOnly_mono hair (by simp)
      · exact spotOnly_of_kept spotKept_refl

theorem latchEnded_moves (level : Bool) (s : State) : Moves 0x600002 s (latchEnded level s) :=
  moves_step (raiseCause_moves ..) rfl (moves_step (emit_moves ..) rfl (moves_step (setF_moves ..) rfl moves_refl))

theorem grantLatched_moves (s : State) : Moves 0x600002 s (grantLatched s) :=
  moves_step (raiseCause_moves ..) rfl (moves_step (emit_moves ..) rfl (moves_step (setF_moves ..) rfl moves_refl))

theorem ringmasterReturned_shows (level : Bool) (side : Nat) (peer : Bool) (wf : WellKept s) (hlatched : flag s F.SPOT.STATUS_RM_LATCHED = true) :
    ∃ t, exec (.ringmasterReturned level side peer) s = .next t ∧ flag t F.SPOT.STATUS_RM_LATCHED = false ∧
      flag t F.SPOT.INTERLOCK_GRANT = level ∧ (flag s F.SPOT.INTERLOCK_GRANT = level → OnlyParts [.regs, .cont, .host] s t) := by
  have hexec := exec_ringmasterReturned (s := s) level side peer
  have hended := latchEnded_spotOnly level s
  have hmoves := latchEnded_moves level s
  have hcleared : flag (latchEnded level s) F.SPOT.STATUS_RM_LATCHED = false := by
    rw [flag, latchEnded, spotKept_raiseCause 21 _ _ (by decide) (by decide) (by decide), getF_emit, getF_setF_same _ _ _ wf.regs]
    rfl
  rw [hlatched, if_pos rfl] at hexec
  generalize latchEnded level s = v at *
  by_cases hsame : level = flag s F.SPOT.INTERLOCK_GRANT
  · rw [if_pos (by simpa using hsame)] at hexec
    refine ⟨v, hexec, hcleared, ?_, fun _ => onlyParts_of_moves s _ hmoves rfl⟩
    rw [flag, hended _ (by decide) (by decide) (by decide) (by decide)]
    exact hsame.symm
  · rw [if_neg (by simpa using hsame)] at hexec
    refine ⟨_, hexec, ?_, (confirmGrant_shows level side peer (hmoves.form wf)).1.grant, fun h => absurd h.symm hsame⟩
    rw [flag, confirmGrant_spotOnly level side peer v _ (by decide) (by decide) (by decide) (by decide)]
    exact hcleared

theorem grantLatched_onlyFields (s : State) : OnlyFields (F.SPOT.STATUS_RM_LATCHED :: causeFields) s (grantLatched s) :=
  onlyFields_trans (onlyFields_emit (onlyFields_setF (by simp) onlyFields_refl))
    (onlyFields_mono (raiseCause_onlyFields 21 _) (List.subset_cons_self ..))

theorem moduleHealth_grantLatched (s : State) : moduleHealth (grantLatched s) = moduleHealth s := by
  have hfields := grantLatched_onlyFields s
  have hpresent : ∀ u, present (grantLatched s) u = present s u := fun u => bitF_congr (hfields _ (by decide)) u
  have hunit : ∀ u, unitHealth (grantLatched s) u = unitHealth s u := fun u => by
    rw [unitHealth, unitHealth, hpresent, hfields _ (by decide), hfields _ (by decide)]
  have hcfg : (grantLatched s).cfg = s.cfg := (grantLatched_moves s).frame .cfg rfl
  have hcounted : countedUnits (grantLatched s) = countedUnits s := by simp only [countedUnits, spotCfg, hpresent, hcfg]
  simp only [moduleHealth, hcounted, hunit]

theorem ringmasterLost_shows (wf : WellKept s) (hpair : pairReel s = true) (hlatched : flag s F.SPOT.STATUS_RM_LATCHED = false) :
    ∃ t, exec .ringmasterLost s = .next t ∧ flag t F.SPOT.STATUS_RM_LATCHED = true ∧
      getF t F.SPOT.INTERLOCK_GRANT = getF s F.SPOT.INTERLOCK_GRANT ∧
      (inState s .live = false ∨ role s ≠ 1 ∨ moduleHealth s ≠ 2 → OnlyParts [.regs, .cont, .host] s t) ∧
      (inState s .live = true → role s = 1 → moduleHealth s = 2 →
        flag t F.SPOT.INTERLOCK_ON_AIR = false ∧ t.spot.joining = true) := by
  have hexec := exec_ringmasterLost hpair
  have honly := grantLatched_spotOnly s
  have hmoves := grantLatched_moves s
  have hhealth := moduleHealth_grantLatched s
  have hset : flag (grantLatched s) F.SPOT.STATUS_RM_LATCHED = true := by
    rw [flag, grantLatched, spotKept_raiseCause 21 _ _ (by decide) (by decide) (by decide), getF_emit]
    exact flag_setF_one _ rfl wf.regs
  rw [hlatched, if_neg (by decide)] at hexec
  generalize grantLatched s = v at *
  have hrole : role v = role s := honly _ (by decide) (by decide) (by decide) (by decide)
  have hgrant : getF v F.SPOT.INTERLOCK_GRANT = getF s F.SPOT.INTERLOCK_GRANT := honly _ (by decide) (by decide) (by decide) (by decide)
  have hlive : inState v .live = inState s .live := by rw [inState, inState, hmoves.frame .dev rfl]
  have hfails : (inState v .live && role v == 1 && flag v F.SPOT.STATUS_RM_LATCHED && moduleHealth v == 2) =
      (inState s .live && role s == 1 && moduleHealth s == 2) := by rw [hlive, hrole, hset, hhealth, Bool.and_true]
  rw [latchedFailure, hfails] at hexec
  by_cases hfail : (inState s .live && role s == 1 && moduleHealth s == 2) = true
  · rw [if_pos hfail] at hexec
    have hkept : ∀ f : Field, 0x1200000 ≤ f.addr → f.addr < 0x1200040 → f.lsb < 32 →
        (∀ g ∈ F.SPOT.INTERLOCK_ON_AIR :: standDownFields, fieldKey g ≠ fieldKey f) → getF (standDown 0 v) f = getF v f :=
      spotOnly_trans (spotOnly_mono (releaseAir_spotOnly v) (by simp)) (spotOnly_mono (standDown_spotOnly 0 v) (List.subset_cons_self ..))
    refine ⟨_, hexec, ?_, ?_, fun h => ?_, fun _ _ _ => ⟨standDown_offAir 0 (hmoves.form wf), (standDown_joins 0 v).2.1⟩⟩
    · rw [flag, hkept _ (by decide) (by decide) (by decide) (by decide)]
      exact hset
    · rw [hkept _ (by decide) (by decide) (by decide) (by decide), hgrant]
    · simp only [Bool.and_eq_true, beq_iff_eq] at hfail
      obtain h | h | h := h
      · exact absurd hfail.1.1 (by rw [h]; decide)
      · exact absurd hfail.1.2 h
      · exact absurd hfail.2 h
  · rw [if_neg hfail] at hexec
    refine ⟨v, hexec, hset, hgrant, fun _ => onlyParts_of_moves s _ hmoves rfl, fun hl hr hh => ?_⟩
    exact absurd (by rw [hl, hr, hh]; rfl) hfail

/-! ### Outputs and the beat (R413, R428) -/

theorem outputRelease_shows (wf : WellKept s) (hpair : pairReel s = true) : ∃ t, exec .outputRelease s = .next t ∧
    flag t F.SPOT.INTERLOCK_PEER_ON_AIR = true ∧ OnlyParts [.regs, .lio] s t ∧
    (flag s F.SPOT.INTERLOCK_ON_AIR = true → t.lio = s.lio) ∧
    (flag s F.SPOT.INTERLOCK_ON_AIR = false → t.lio.doOn = [] ∧ t.lio.aoOut = []) := by
  have hair : flag (setF F.SPOT.INTERLOCK_PEER_ON_AIR 1 s) F.SPOT.INTERLOCK_ON_AIR = flag s F.SPOT.INTERLOCK_ON_AIR :=
    flag_setF_other _ _ _ (by decide)
  have hexec : exec .outputRelease s = .next (if flag s F.SPOT.INTERLOCK_ON_AIR then setF F.SPOT.INTERLOCK_PEER_ON_AIR 1 s
      else dropOutputs (setF F.SPOT.INTERLOCK_PEER_ON_AIR 1 s)) := by
    show execOutputRelease s = _
    rw [execOutputRelease, hpair, ← hair]
    rfl
  have hpeer : flag (setF F.SPOT.INTERLOCK_PEER_ON_AIR 1 s) F.SPOT.INTERLOCK_PEER_ON_AIR = true := flag_setF_one _ rfl wf.regs
  have hset : Moves 0x42 s (setF F.SPOT.INTERLOCK_PEER_ON_AIR 1 s) := moves_step (setF_moves ..) rfl moves_refl
  have hdrop : Moves 0x42 s (dropOutputs (setF F.SPOT.INTERLOCK_PEER_ON_AIR 1 s)) := moves_step (dropOutputs_moves _) rfl hset
  cases hon : flag s F.SPOT.INTERLOCK_ON_AIR with
  | true =>
    rw [hon] at hexec
    exact ⟨_, hexec, hpeer, onlyParts_of_moves s _ hset rfl, fun _ => rfl, fun h => absurd h (by decide)⟩
  | false =>
    rw [hon] at hexec
    exact ⟨_, hexec, hpeer, onlyParts_of_moves s _ hdrop rfl, fun h => absurd h (by decide), fun _ => ⟨rfl, rfl⟩⟩

theorem exec_armedBeat (hpair : pairReel s = true) : exec .armedBeat s = .next (if inState s .armed && !s.dev.referenceLost then
    setF F.SPOT.INTERLOCK_BEAT (1 - getF s F.SPOT.INTERLOCK_BEAT) s else s) := by
  show execArmedBeat s = _
  rw [execArmedBeat, hpair]
  rfl

theorem beat_toggles (wf : WellKept s) :
    flag (setF F.SPOT.INTERLOCK_BEAT (1 - getF s F.SPOT.INTERLOCK_BEAT) s) F.SPOT.INTERLOCK_BEAT = (getF s F.SPOT.INTERLOCK_BEAT == 0) := by
  rw [flag, getF_setF_same _ _ _ wf.regs]
  match getF s F.SPOT.INTERLOCK_BEAT with
  | 0 => rfl
  | n + 1 => rw [show 1 - (n + 1) = 0 by omega]; rfl

/-! ### The Ringmaster (R413, R418) -/

/-- The Ringmaster's lines show that it grants `g`. -/
def Granted (t : State) (g : Nat) : Prop := getF t F.SPOT.STATUS_GRANTED = g ∧ getF t F.SPOT.INTERLOCK_RM_OUT % 4 = g

theorem driveGrant_granted {g : Nat} (hg : g < 4) (wf : WellKept s) : Granted (driveGrant g s) g := by
  unfold driveGrant
  extract_lets alive
  have halive : alive % 4 = 0 := by
    simp only [alive]
    omega
  refine ⟨getF_setF_lt (setF_keysRise _ _ _ wf.regs) hg, ?_⟩
  rw [getF_setF_other _ _ _ _ (by decide), getF_setF_same _ _ _ wf.regs, show F.SPOT.INTERLOCK_RM_OUT.width = 3 from rfl]
  omega

theorem granted_congr {g : Nat} (h : Granted s g) (hgranted : getF t F.SPOT.STATUS_GRANTED = getF s F.SPOT.STATUS_GRANTED)
    (hout : getF t F.SPOT.INTERLOCK_RM_OUT = getF s F.SPOT.INTERLOCK_RM_OUT) : Granted t g := by
  rw [Granted, hgranted, hout]
  exact h

theorem grantSide_grants {g : Nat} (hg : g < 4) (wf : WellKept s) : Granted (grantSide g s) g ∧ (grantSide g s).spot.moving = none ∧
    getF (grantSide g s) F.SPOT.SWITCH_COUNT = min (getF s F.SPOT.SWITCH_COUNT + 1) 0xFFFFFFFF ∧ Moves 0x80002 s (grantSide g s) := by
  have hupd : Moves 0x80000 s (updSpot (fun x => { x with airSeen := false, noStandby := false, moving := none }) s) := updSpot_moves ..
  have hregs : (updSpot (fun x => { x with airSeen := false, noStandby := false, moving := none }) s).regs = s.regs := rfl
  unfold grantSide
  have hmoving : (updSpot (fun x => { x with airSeen := false, noStandby := false, moving := none }) s).spot.moving = none := rfl
  generalize updSpot _ s = v at *
  have hdrive := driveGrant_moves g v
  refine ⟨granted_congr (driveGrant_granted hg (hupd.form wf)) (getF_bumpF_other _ _ _ _ (by decide)) (getF_bumpF_other _ _ _ _ (by decide)),
    hmoving, ?_, moves_step (bumpF_moves ..) rfl (moves_step hdrive rfl (moves_step hupd rfl moves_refl))⟩
  rw [getF_bumpF_same _ _ _ rfl (hdrive.form (hupd.form wf)).regs, driveGrant, getF_setF_other _ _ _ _ (by decide),
    getF_setF_other _ _ _ _ (by decide), getF_congr _ _ _ hregs]

/-- What the Ringmaster sees leaves the rest of its registers as it is. -/
theorem getF_showSides (a b : SideInputs) {f : Field} (h1 : fieldKey F.SPOT.INTERLOCK_READY_AB ≠ fieldKey f)
    (h2 : fieldKey F.SPOT.INTERLOCK_ALIVE_AB ≠ fieldKey f) (h3 : fieldKey F.SPOT.INTERLOCK_AIR_AB ≠ fieldKey f) :
    getF (showSides a b s) f = getF s f := by
  rw [showSides, getF_setF_other _ _ _ _ h1, getF_setF_other _ _ _ _ h2, getF_setF_other _ _ _ _ h3]

theorem startChoice_side {a b : SideInputs} {g : Nat} (h : startChoice s a b = some g) : g < 4 := by
  unfold startChoice at h
  grind

theorem startGrant_grants {a b : SideInputs} {g : Nat} (wf : WellKept s) (hrm : ringmaster s = true)
    (hnone : getF s F.SPOT.STATUS_GRANTED = 0) (hstill : s.spot.moving = none) (hchoice : startChoice s a b = some g) :
    ∃ t, exec (.ringmasterStartGrant a b) s = .next t ∧ Granted t g ∧
      getF t F.SPOT.SWITCH_COUNT = min (getF s F.SPOT.SWITCH_COUNT + 1) 0xFFFFFFFF ∧ OnlyParts [.regs, .spot] s t := by
  have hsides := showSides_moves a b s
  obtain ⟨hgranted, -, hcount, hmoves⟩ := grantSide_grants (startChoice_side hchoice) (hsides.form wf)
  have hall : Moves 0x80002 s (grantSide g (showSides a b s)) := moves_step hmoves rfl (moves_step hsides rfl moves_refl)
  refine ⟨_, ?_, hgranted, ?_, onlyParts_of_moves s _ hall rfl⟩
  · show execRingmasterStartGrant a b s = _
    rw [execRingmasterStartGrant, hrm, hnone, hstill, hchoice]
    rfl
  · rw [hcount, getF_showSides a b (by decide) (by decide) (by decide)]

theorem startGrant_waits {a b : SideInputs} (hrm : ringmaster s = true)
    (hnone : getF s F.SPOT.STATUS_GRANTED = 0) (hstill : s.spot.moving = none) (hchoice : startChoice s a b = none) :
    ∃ t, exec (.ringmasterStartGrant a b) s = .next t ∧ getF t F.SPOT.STATUS_GRANTED = 0 ∧ OnlyParts [.regs] s t := by
  refine ⟨showSides a b s, ?_, ?_, onlyParts_of_moves s _ (showSides_moves a b s) rfl⟩
  · show execRingmasterStartGrant a b s = _
    rw [execRingmasterStartGrant, hrm, hnone, hstill, hchoice]
    rfl
  · rw [getF_showSides a b (by decide) (by decide) (by decide), hnone]

/-- What the Ringmaster sees of its granted side `own`, and that it has been on air. -/
def sidesSeen (a b own : SideInputs) (s : State) : State :=
  updSpot (fun p => { p with airSeen := p.airSeen || own.air }) (showSides a b s)

/-- The Ringmaster's answer to a cause: it releases its grant, or keeps it with no other side ready. -/
def grantAnswer (g : Nat) (other : SideInputs) (at_ : Nat) (s1 : State) : Option Nat → State
  | none => updSpot (fun p => { p with noStandby := false }) s1
  | some cause =>
    if sideAlive other && other.ready then
      emit 0x120B g (3 - g) cause (driveGrant 0 (updSpot (fun p => { p with moving := some (3 - g, at_), noStandby := false }) s1))
    else if s1.spot.noStandby then s1
    else emit 0x120C g cause (ofBool other.ready) (updSpot (fun p => { p with noStandby := true }) s1)

theorem exec_grantMoved {a b : SideInputs} {g : Nat} (hrm : ringmaster s = true) (hgranted : getF s F.SPOT.STATUS_GRANTED = g)
    (hg : g = 1 ∨ g = 2) : exec (.grantMoved a b) s = .next (grantAnswer g (if g = 1 then b else a) (nowNs s 1)
      (sidesSeen a b (if g = 1 then a else b) s) (sideFailure (s.spot.airSeen || (if g = 1 then a else b).air) (if g = 1 then a else b))) := by
  show execGrantMoved a b s = _
  rw [execGrantMoved, hgranted, hrm]
  obtain rfl | rfl := hg <;> rfl

theorem sidesSeen_moves (a b own : SideInputs) (s : State) : Moves 0x80002 s (sidesSeen a b own s) :=
  moves_step (updSpot_moves ..) rfl (moves_step (showSides_moves ..) rfl moves_refl)

theorem sidesSeen_keeps (a b own : SideInputs) (s : State) :
    getF (sidesSeen a b own s) F.SPOT.STATUS_GRANTED = getF s F.SPOT.STATUS_GRANTED ∧ (sidesSeen a b own s).spot.moving = s.spot.moving :=
  have hspot : (showSides a b s).spot = s.spot := (showSides_moves a b s).frame .spot rfl
  ⟨getF_showSides a b (by decide) (by decide) (by decide), (congrArg SpotPart.moving hspot : (showSides a b s).spot.moving = s.spot.moving)⟩

theorem grantAnswer_moves (g : Nat) (other : SideInputs) (at_ : Nat) (s : State) (cause : Option Nat) :
    Moves 0x280002 s (grantAnswer g other at_ s cause) := by
  have hupd : ∀ f : SpotPart → SpotPart, Moves 0x280002 s (updSpot f s) := fun f => moves_step (updSpot_moves f s) rfl moves_refl
  cases cause with
  | none => exact hupd (fun p => { p with noStandby := false })
  | some k =>
    refine moves_ite (moves_step (emit_moves ..) rfl (moves_step (driveGrant_moves ..) rfl (hupd _))) (moves_ite moves_refl ?_)
    exact moves_step (emit_moves ..) rfl (hupd _)

theorem emit_spot (code w1 w2 w3 : Nat) (s : State) : (emit code w1 w2 w3 s).spot = s.spot := (emit_moves code w1 w2 w3 s).frame .spot rfl

theorem grantAnswer_releases {g at_ k : Nat} {other : SideInputs} (wf : WellKept s) (hother : (sideAlive other && other.ready) = true) :
    Granted (grantAnswer g other at_ s (some k)) 0 ∧ (grantAnswer g other at_ s (some k)).spot.moving = some (3 - g, at_) := by
  rw [grantAnswer, if_pos hother]
  have hupd : Moves 0x80000 s (updSpot (fun p => { p with moving := some (3 - g, at_), noStandby := false }) s) := updSpot_moves ..
  have hmoving : (updSpot (fun p => { p with moving := some (3 - g, at_), noStandby := false }) s).spot.moving = some (3 - g, at_) := rfl
  generalize updSpot _ s = v at *
  exact ⟨granted_congr (driveGrant_granted (by decide) (hupd.form wf)) (getF_emit ..) (getF_emit ..), by rw [emit_spot]; exact hmoving⟩

theorem grantAnswer_keeps {g at_ k : Nat} {other : SideInputs} (hother : (sideAlive other && other.ready) = false) :
    getF (grantAnswer g other at_ s (some k)) F.SPOT.STATUS_GRANTED = getF s F.SPOT.STATUS_GRANTED ∧
      (grantAnswer g other at_ s (some k)).spot.moving = s.spot.moving ∧ (grantAnswer g other at_ s (some k)).spot.noStandby = true := by
  rw [grantAnswer, if_neg (by rw [hother]; decide)]
  split
  next h => exact ⟨rfl, rfl, h⟩
  · exact ⟨getF_emit .., by rw [emit_spot]; rfl, by rw [emit_spot]; rfl⟩

theorem grantMoved_answers {a b : SideInputs} {g : Nat} (wf : WellKept s) (hrm : ringmaster s = true)
    (hgranted : getF s F.SPOT.STATUS_GRANTED = g) (hg : g = 1 ∨ g = 2) {own other : SideInputs}
    (hown : own = if g = 1 then a else b) (hother : other = if g = 1 then b else a) :
    ∃ t, exec (.grantMoved a b) s = .next t ∧ OnlyParts [.regs, .spot, .cont] s t ∧
      (∀ k, sideFailure (s.spot.airSeen || own.air) own = some k → sideAlive other = true → other.ready = true →
        Granted t 0 ∧ t.spot.moving = some (3 - g, nowNs s 1)) ∧
      (∀ k, sideFailure (s.spot.airSeen || own.air) own = some k → (sideAlive other && other.ready) = false →
        getF t F.SPOT.STATUS_GRANTED = g ∧ t.spot.moving = s.spot.moving ∧ t.spot.noStandby = true) ∧
      (sideFailure (s.spot.airSeen || own.air) own = none →
        getF t F.SPOT.STATUS_GRANTED = g ∧ t.spot.moving = s.spot.moving ∧ t.spot.noStandby = false) := by
  have hexec := exec_grantMoved (a := a) (b := b) hrm hgranted hg
  rw [← hown, ← hother] at hexec
  have hseen := sidesSeen_moves a b own s
  obtain ⟨hkept, hmoving⟩ := sidesSeen_keeps a b own s
  generalize sidesSeen a b own s = v at *
  have hall : Moves 0x280002 s _ := moves_step (grantAnswer_moves g other (nowNs s 1) v (sideFailure (s.spot.airSeen || own.air) own)) rfl
    (moves_step hseen rfl moves_refl)
  refine ⟨_, hexec, onlyParts_of_moves s _ hall rfl, fun k hk halive hready => ?_, fun k hk hnone => ?_, fun hk => ?_⟩
  · rw [hk]
    exact grantAnswer_releases (hseen.form wf) (by rw [halive, hready]; rfl)
  · rw [hk]
    obtain ⟨h1, h2, h3⟩ := grantAnswer_keeps (s := v) (g := g) (at_ := nowNs s 1) (k := k) hnone
    exact ⟨h1.trans (hkept.trans hgranted), h2.trans hmoving, h3⟩
  · rw [hk]
    exact ⟨hkept.trans hgranted, hmoving, rfl⟩

theorem exec_grantRaise {g at_ : Nat} (hrm : ringmaster s = true) (hmoving : s.spot.moving = some (g, at_)) :
    exec .grantRaise s = .next (if nowNs s 1 ≥ at_ + 62500 then grantSide g s else s) := by
  show execGrantRaise s = _
  rw [execGrantRaise, hmoving, hrm]
  refine congrArg _ ?_
  simp

theorem grantRaise_raises {g at_ : Nat} (wf : WellKept s) (hrm : ringmaster s = true) (hmoving : s.spot.moving = some (g, at_))
    (hg : g = 1 ∨ g = 2) (hdue : at_ + 62500 ≤ nowNs s 1) : ∃ t, exec .grantRaise s = .next t ∧ Granted t g ∧ t.spot.moving = none ∧
      getF t F.SPOT.SWITCH_COUNT = min (getF s F.SPOT.SWITCH_COUNT + 1) 0xFFFFFFFF ∧ OnlyParts [.regs, .spot] s t := by
  obtain ⟨hgranted, hnone, hcount, hmoves⟩ := grantSide_grants (g := g) (by omega) wf
  exact ⟨_, by rw [exec_grantRaise hrm hmoving, if_pos hdue], hgranted, hnone, hcount, onlyParts_of_moves s _ hmoves rfl⟩

/-! ### The change to Lead (R427) -/

theorem spotKept_switchCounters (s : State) : SpotKept s (switchCounters s) := by
  unfold switchCounters
  extract_lets m seq gap s1 s2
  have h1 : SpotKept s s1 := spotKept_trans (spotKept_setF (by decide) spotKept_refl) (spotKept_numberRecord gap _)
  have h2 : SpotKept s1 s2 := spotKept_foldl fun r hr v => by
    have hr16 := List.mem_range.1 hr
    exact spotKept_setF ⟨Or.inr (by simp only [F.HOST.NEXT_INDEX]; omega), show 0 < 32 by decide⟩ spotKept_refl
  have hstations : SpotKept s2 (stnSwitchOver s2) := spotKept_foldl fun _ _ v => spotKept_of_regs rfl
  exact spotKept_trans h1 (spotKept_trans h2 hstations)

/-- No loop injects. -/
def NoInjection (s : State) : Prop := ∀ e ∈ s.trp.loops, e.2.inj = none

theorem noInjection_iff : loopsInjecting s = 0 ↔ NoInjection s := by
  rw [loopsInjecting, List.length_eq_zero_iff, List.filter_eq_nil_iff]
  refine forall₂_congr fun e _ => ?_
  cases e.2.inj <;> simp

theorem inj_loopState (h : NoInjection s) (l : Nat) : (loopState s l).inj = none := by
  unfold loopState
  revert h
  unfold NoInjection
  induction s.trp.loops with
  | nil => exact fun _ => rfl
  | cons e t ih =>
    intro h
    rw [List.forall_mem_cons] at h
    obtain ⟨k, x⟩ := e
    rw [tableGet]
    split
    · exact h.1
    · exact ih h.2

theorem noInjection_putLoop {l : Nat} {x : LoopState} (h : NoInjection s) (hx : x.inj = none) : NoInjection (putLoop l x s) := by
  intro e he
  have hput : e ∈ tablePut {} s.trp.loops l x := he
  unfold tablePut at hput
  split at hput
  · exact h e (mem_tableErase _ _ _ hput)
  · obtain rfl | hold := mem_tableInsert _ _ _ _ hput
    · exact hx
    · exact h e hold

theorem noInjection_congr (h : t.trp.loops = s.trp.loops) (hs : NoInjection s) : NoInjection t := by
  rw [NoInjection, h]
  exact hs

theorem switchLoops_keeps (hloops : ∀ c ∈ (loopsSec s).loops, c.loop < 1024) (h : NoInjection s) :
    SpotKept s (switchLoops s) ∧ NoInjection (switchLoops s) := by
  unfold switchLoops
  generalize (loopsSec s).loops = l at hloops
  have hfold : SpotKept s (l.foldl (fun t c => putLoop c.loop { loopState t c.loop with leadEnds := true } t) s) ∧
      NoInjection (l.foldl (fun t c => putLoop c.loop { loopState t c.loop with leadEnds := true } t) s) := by
    induction l generalizing s with
    | nil => exact ⟨spotKept_refl, h⟩
    | cons c cs ih =>
      rw [List.forall_mem_cons] at hloops
      obtain ⟨hkept, hnone⟩ := ih (noInjection_putLoop (l := c.loop) (x := { loopState s c.loop with leadEnds := true }) h
        (inj_loopState h c.loop)) hloops.2
      exact ⟨spotKept_trans (spotKept_putLoop hloops.1 _ s) hkept, hnone⟩
  generalize l.foldl _ s = v at hfold
  have hdrop : (dropCaptures v).trp.loops = v.trp.loops := by
    unfold dropCaptures
    extract_lets s1
    have h1 : s1.trp.loops = v.trp.loops := look_foldl (look := fun t => t.trp.loops) fun _ _ _ => rfl
    exact h1
  exact ⟨spotKept_trans hfold.1 (spotKept_dropCaptures v), noInjection_congr hdrop hfold.2⟩

/-- The module is LEAD, and on air where the gate lets it be. -/
def leadShown (s : State) : State := setRole 1 (raiseAir (setF F.SPOT.INTERLOCK_PEER_ON_AIR 0 s))

/-- The counters, the Clapper and the CAN ports of a new Lead. -/
def leadCounted (s : State) : State := setF F.SPOT.STATUS_STANDIN_STATE 0 (canSwitchOver (clapLeaveStandIn (switchCounters s)))

/-- The plan, the record and the flush of a new Lead. -/
def leadRecorded (m : Mirrored) (s : State) : State :=
  triggerFlush 3 <| emit 0x1201 (if m.handover then 2 else 1) (lo32 m.tick) m.publishedRound
    (updSpot (fun x => { x with driveOnce := false, joining := false, sending := false, peerReady := false, lioOwn := [] }) (switchPlan s))

theorem becomeLead_eq (s : State) : becomeLead s = leadTick (leadRecorded s.spot.mirrored
    (if exchanging s then exchangeCar (exchangeLoops (leadCounted (leadShown s))) else switchLoops (leadCounted (leadShown s)))) := rfl

theorem leadShown_shows (wf : WellKept s) (hrole : role s = 2) (hgrant : flag s F.SPOT.INTERLOCK_GRANT = true) :
    role (leadShown s) = 1 ∧ flag (leadShown s) F.SPOT.INTERLOCK_ON_AIR = true ∧ exchanging (leadShown s) = exchanging s := by
  have hpeer : flag (setF F.SPOT.INTERLOCK_PEER_ON_AIR 0 s) F.SPOT.INTERLOCK_PEER_ON_AIR = false := by
    rw [flag, getF_setF_same _ _ _ wf.regs]
    rfl
  have hgate : raiseAir (setF F.SPOT.INTERLOCK_PEER_ON_AIR 0 s) =
      setF F.SPOT.INTERLOCK_ON_AIR 1 (setF F.SPOT.INTERLOCK_PEER_ON_AIR 0 s) := by
    rw [raiseAir, hpeer, flag_setF_other _ _ _ (by decide), hgrant]
    rfl
  have hraised : keysRise (setF F.SPOT.INTERLOCK_PEER_ON_AIR 0 s).regs = true := setF_keysRise _ _ _ wf.regs
  have hother : role (setF F.SPOT.INTERLOCK_ON_AIR 1 (setF F.SPOT.INTERLOCK_PEER_ON_AIR 0 s)) ≠ 1 := by
    rw [role, getF_setF_other _ _ _ _ (by decide), getF_setF_other _ _ _ _ (by decide)]
    exact fun h => absurd (hrole.symm.trans h) (by decide)
  rw [leadShown, hgate, setRole, if_neg hother]
  have hcause : ∀ f : Field, 0x1200000 ≤ f.addr → f.addr < 0x1200040 → f.lsb < 32 → ∀ v, getF (raiseCause 21 v) f = getF v f :=
    fun f hlow hhigh hlsb v => spotKept_raiseCause 21 v f hlow hhigh hlsb
  refine ⟨?_, ?_, ?_⟩
  · rw [role, hcause _ (by decide) (by decide) (by decide), getF_setF_same _ _ _ (setF_keysRise _ _ _ hraised)]
    rfl
  · rw [flag, hcause _ (by decide) (by decide) (by decide), getF_setF_other _ _ _ _ (by decide), getF_setF_same _ _ _ hraised]
    rfl
  · rw [exchanging, flag, hcause _ (by decide) (by decide) (by decide), getF_setF_other _ _ _ _ (by decide),
      getF_setF_other _ _ _ _ (by decide), getF_setF_other _ _ _ _ (by decide)]
    rfl

theorem leadCounted_spotOnly (s : State) : SpotOnly [F.SPOT.STATUS_STANDIN_STATE] s (leadCounted s) :=
  spotOnly_setF (by simp) (spotOnly_of_kept (spotKept_trans (spotKept_trans (spotKept_switchCounters s) (spotKept_clapLeaveStandIn _))
    (spotKept_canSwitchOver _)))

theorem leadCounted_moves (s : State) : Moves 0x66000a s (leadCounted s) :=
  moves_step (setF_moves ..) rfl (moves_step (canSwitchOver_moves ..) rfl (moves_step (clapLeaveStandIn_moves ..) rfl
    (moves_step (switchCounters_moves ..) rfl moves_refl)))

theorem spotKept_leadRecorded (m : Mirrored) (s : State) : SpotKept s (leadRecorded m s) := by
  have hupd : SpotKept s (updSpot (fun x => { x with
      driveOnce := false, joining := false, sending := false, peerReady := false, lioOwn := [] }) (switchPlan s)) := spotKept_of_regs rfl
  exact spotKept_trans (spotKept_emit hupd) (spotKept_triggerFlush 3 _)

/-- What `leadRecorded` leaves of the join, and of the loops. -/
theorem leadRecorded_ends (m : Mirrored) (s : State) : (leadRecorded m s).spot.joining = false ∧ (leadRecorded m s).spot.sending = false ∧
    (leadRecorded m s).trp = s.trp := by
  have hend : ∀ w1 w2 w3 v, Moves 0x600002 v (triggerFlush 3 (emit 0x1201 w1 w2 w3 v)) := fun _ _ _ _ =>
    moves_step (triggerFlush_moves ..) rfl (moves_step (emit_moves ..) rfl moves_refl)
  have hspot := fun w1 w2 w3 v => (hend w1 w2 w3 v).frame .spot rfl
  have htrp := fun w1 w2 w3 v => (hend w1 w2 w3 v).frame .trp rfl
  unfold leadRecorded
  refine ⟨congrArg SpotPart.joining (hspot ..), congrArg SpotPart.sending (hspot ..), (htrp ..).trans rfl⟩

/-- Whether the module joins, and whether it sends deltas. -/
def joinAndSend (s : State) : Bool × Bool := (s.spot.joining, s.spot.sending)

theorem joinAndSend_of_moves {m : Nat} (h : Moves m s t) (hm : m.testBit 19 = false) : joinAndSend t = joinAndSend s := by
  rw [joinAndSend, joinAndSend, (h.frame .spot hm : t.spot = s.spot)]

theorem joinAndSend_withScanned (car : CarPart) (scanned : List Nat) :
    joinAndSend { s with car := car, spot := { s.spot with scanned := scanned } } = joinAndSend s := rfl

theorem joinAndSend_startScan (k : Nat) (s : State) : joinAndSend (startScan k s) = joinAndSend s := by
  unfold startScan
  extract_lets stamp x due
  rw [joinAndSend_of_moves (expectResult_moves 10 due k _) rfl, joinAndSend_of_moves (putScan_moves k (some x) _) rfl]
  exact joinAndSend_withScanned ..

theorem joinAndSend_startScans (s : State) : joinAndSend (startScans s) = joinAndSend s := by
  unfold startScans
  split
  · rfl
  · exact look_foldl fun t w _ => joinAndSend_startScan w.work t

/-- The scans and evaluations of the tick leave the join and the deltas as they stand. -/
theorem joinAndSend_leadTick (s : State) : joinAndSend (leadTick s) = joinAndSend s := by
  unfold leadTick
  split
  · extract_lets n tick s1 s2
    have h1 : joinAndSend s1 = joinAndSend s := rfl
    have h2 : joinAndSend s2 = joinAndSend s := (joinAndSend_of_moves (trpTick_moves s1) rfl).trans h1
    clear_value s2
    split
    · have hset : Moves 0x2 (startScans s2) (setF F.SPOT.STATUS_PROGRAM_EXCHANGE 0 (startScans s2)) := setF_moves ..
      rw [joinAndSend_of_moves hset rfl, joinAndSend_startScans, h2]
    · exact h2
  · rfl

theorem becomeLead_ends (s : State) : joinAndSend (becomeLead s) = (false, false) := by
  rw [becomeLead_eq, joinAndSend_leadTick]
  generalize (if exchanging s then exchangeCar (exchangeLoops (leadCounted (leadShown s))) else switchLoops (leadCounted (leadShown s))) = v
  obtain ⟨hjoining, hsending, -⟩ := leadRecorded_ends s.spot.mirrored v
  rw [joinAndSend, hjoining, hsending]

/-- With no program exchange and no injection the new Lead shows its role, is on air, and is no Stand-in. -/
theorem becomeLead_shows (wf : WellKept s) (hrole : role s = 2) (hgrant : flag s F.SPOT.INTERLOCK_GRANT = true)
    (hexchange : exchanging s = false) (hinject : loopsInjecting s = 0) (hloops : ∀ c ∈ (loopsSec s).loops, c.loop < 1024) :
    role (becomeLead s) = 1 ∧ flag (becomeLead s) F.SPOT.INTERLOCK_ON_AIR = true ∧
      getF (becomeLead s) F.SPOT.STATUS_STANDIN_STATE = 0 := by
  rw [becomeLead_eq, hexchange, if_neg (by decide)]
  obtain ⟨hroleV, hairV, hexchangeV⟩ := leadShown_shows wf hrole hgrant
  have hshown : Moves 0x400002 s (leadShown s) := moves_step (setRole_moves ..) rfl (moves_step (raiseAir_moves ..) rfl
    (moves_step (setF_moves ..) rfl moves_refl))
  generalize leadShown s = v at *
  have hcounted := leadCounted_spotOnly v
  have hcountedMoves := leadCounted_moves v
  have hstandin : getF (leadCounted v) F.SPOT.STATUS_STANDIN_STATE = 0 := by
    have hmoves : Moves 0x66000a v (canSwitchOver (clapLeaveStandIn (switchCounters v))) :=
      moves_step (canSwitchOver_moves ..) rfl (moves_step (clapLeaveStandIn_moves ..) rfl (moves_step (switchCounters_moves ..) rfl moves_refl))
    exact getF_setF_same _ _ _ ((hmoves.form (hshown.form wf)).regs)
  generalize leadCounted v = x at *
  have htrp : x.trp = s.trp := (hcountedMoves.frame .trp rfl).trans (hshown.frame .trp rfl)
  have hcfg : x.cfg = s.cfg := (hcountedMoves.frame .cfg rfl).trans (hshown.frame .cfg rfl)
  obtain ⟨hswitched, hnone⟩ := switchLoops_keeps (s := x) (by rw [loopsSec, hcfg]; exact hloops)
    (noInjection_congr (by rw [htrp]) (noInjection_iff.1 hinject))
  generalize switchLoops x = y at *
  have hrecorded : SpotKept x (leadRecorded s.spot.mirrored y) := spotKept_trans hswitched (spotKept_leadRecorded _ y)
  have hloopsEnd : loopsInjecting (leadRecorded s.spot.mirrored y) = 0 :=
    noInjection_iff.2 (noInjection_congr (by rw [(leadRecorded_ends s.spot.mirrored y).2.2]) hnone)
  generalize leadRecorded s.spot.mirrored y = z at *
  have hkept : ∀ f : Field, 0x1200000 ≤ f.addr → f.addr < 0x1200040 → f.lsb < 32 →
      fieldKey F.SPOT.STATUS_STANDIN_STATE ≠ fieldKey f → getF z f = getF v f := fun f hlow hhigh hlsb hf =>
    (hrecorded f hlow hhigh hlsb).trans (hcounted f hlow hhigh hlsb (by simpa using hf))
  have hidle : leadTick z = z := by
    have hexchangeZ : exchanging z = false := by
      rw [exchanging, flag, hkept _ (by decide) (by decide) (by decide) (by decide)]
      exact hexchangeV.trans hexchange
    rw [leadTick, hexchangeZ, hloopsEnd]
    rfl
  rw [hidle]
  refine ⟨?_, ?_, ?_⟩
  · rw [role, hkept _ (by decide) (by decide) (by decide) (by decide)]
    exact hroleV
  · rw [flag, hkept _ (by decide) (by decide) (by decide) (by decide)]
    exact hairV
  · rw [hrecorded _ (by decide) (by decide) (by decide), hstandin]

theorem exec_spotLead (peer : Bool) (hlive : inState s .live = true) (hrole : role s = 2) (hgrant : flag s F.SPOT.INTERLOCK_GRANT = true)
    (hcurtain : s.tick.curtainDone = false) : exec (.spotLead peer) s = .next (if peer then s else becomeLead s) := by
  show execSpotLead peer s = _
  rw [execSpotLead, hlive, hrole, hgrant, hcurtain]
  cases peer <;> rfl

end Sys2Proof.Machine
end

section
/-! The statement about the grant and the Lead. -/

namespace Sys2Proof.Certificates

open Sys2Proof Sys2Proof.Machine

/-- Settles O53: a stand-down writes no line of the grant, and a change to Lead writes the role, the air and the Stand-in's state
before anything that leaves SPOT's registers alone. -/
theorem grantsMoveTheLead : Obligations.GrantsMoveTheLead := by
  refine ⟨fun s wf hpair => ⟨fun level side peer hlatched => ?_, fun level side peer hlatched => ⟨?_, ?_, ?_⟩,
      fun hlatched => ⟨ringmasterLost_shows wf hpair hlatched, fun level side peer => ?_⟩, outputRelease_shows wf hpair, fun harmed href => ?_,
      fun hidle => ?_⟩,
    fun s wf hlive hrole hgrant hcurtain => ⟨exec_spotLead true hlive hrole hgrant hcurtain, ?_⟩,
    fun s wf hrm => ⟨fun a b hnone hstill => ⟨fun g hchoice => startGrant_grants wf hrm hnone hstill hchoice,
        fun hchoice => startGrant_waits hrm hnone hstill hchoice⟩,
      fun a b g hgranted hg => grantMoved_answers wf hrm hgranted hg rfl rfl,
      fun g at_ hmoving hg => ⟨grantRaise_raises wf hrm hmoving hg, fun hearly => ?_⟩⟩⟩
  · obtain ⟨⟨hgrant, hpeer, hside⟩, hrise, hfall⟩ := confirmGrant_shows level side peer wf
    exact ⟨_, by rw [exec_grantConfirmed level side peer hpair, hlatched]; rfl, hgrant, hpeer, hside, hrise, hfall⟩
  · rw [exec_grantConfirmed level side peer hpair, if_pos hlatched]
  · rw [exec_ringmasterLost hpair, if_pos hlatched]
  · exact ringmasterReturned_shows level side peer wf hlatched
  · rw [exec_ringmasterReturned, if_neg (by rw [hlatched]; decide)]
  · refine ⟨_, by rw [exec_armedBeat hpair, harmed, href]; rfl, beat_toggles wf,
      onlyParts_of_moves s _ (setF_moves ..) rfl, onlyFields_single_setF _ _ s⟩
  · rw [exec_armedBeat hpair, if_neg]
    obtain h | h := hidle <;> simp [h]
  · have hmoves := becomeLead_moves s
    obtain ⟨hjoining, hsending⟩ := Prod.mk.inj (becomeLead_ends s)
    exact ⟨_, exec_spotLead false hlive hrole hgrant hcurtain, hmoves.frame .dev rfl, hmoves.frame .tickNumber rfl, hmoves.frame .txn rfl,
      hmoves.frame .cfg rfl, hjoining, hsending, fun hexchange hinject hloops => becomeLead_shows wf hrole hgrant hexchange hinject hloops⟩
  · rw [exec_grantRaise hrm hmoving, if_neg (Nat.not_le.2 hearly)]

end Sys2Proof.Certificates
end

section
/-! SUPPORT. An authentic mirror frame with a command for a loop number beyond the 1,024 loops, and a Stand-in that takes it. -/

namespace Sys2Proof.Machine

open Sys2Proof

/-- The number whose LOOP_OUTPUT has the address of LAST_TICK_LO. -/
def strayLoop : Nat := 0x23F807

/-- A Stand-in in LIVE at tick 1, in step since tick 0, with a pair's Reel of no loops and no tunables, and the pair key. -/
def strayStandIn : State :=
  { State.reset with
    dev := { State.reset.dev with state := .live }
    regs := [(fieldKey F.DEV.PART, 38472), (fieldKey F.SPOT.STATUS_ROLE, 2), (fieldKey F.PWR.DOMAIN_STATE, 0xFFFF)]
    tick := { State.reset.tick with number := 1 }
    sec := { State.reset.sec with keys := [(0, some { id := 1, kind := 5 })] }
    cfg := { State.reset.cfg with spotlight := some { pairKeyId := 1 } } }

/-- The head frame of tick 1's delta before its tag: CURTAIN, and an injection into the stray loop. -/
def strayFrameBare : MirrorFrame :=
  { index := 0, count := 1, tick := 1, sender := 0, epoch := 0, records := [.curtain {}, .command 9 1 strayLoop 0 0], tag := [] }

/-- A DELTA frame sealed under the session key of a Stand-in and the Lead that the frame names. -/
def sealFrame (s : State) (f : MirrorFrame) : MirrorFrame := { f with tag := deltaTag (standInKey s f.sender f.epoch) f }

/-- The frame sealed. -/
def strayFrame : MirrorFrame := sealFrame strayStandIn strayFrameBare

/-- The delta that the frame carries. -/
def strayDelta : MirrorDelta := { tick := 1, commands := [(9, 1, strayLoop, 0, 0)] }

theorem strayStandIn_wellKept : WellKept strayStandIn :=
  ⟨by decide, rfl, rfl, rfl, rfl, rfl, rfl, rfl, rfl, wellKept_reset.volatileRing, rfl⟩

theorem deltaTag_tag (key tag : List Nat) (f : MirrorFrame) : deltaTag key { f with tag := tag } = deltaTag key f := by
  cases f
  rfl

theorem sealFrame_tag (s : State) (f : MirrorFrame) :
    (sealFrame s f).tag = deltaTag (standInKey s (sealFrame s f).sender (sealFrame s f).epoch) (sealFrame s f) := by
  rw [sealFrame]
  dsimp only
  exact (deltaTag_tag _ _ f).symm

theorem deltaGenuine_sealFrame {s : State} (f : MirrorFrame) (h : hasPairKey s = true) : deltaGenuine s (sealFrame s f) = true := by
  rw [deltaGenuine, h, Bool.true_and, beq_iff_eq]
  exact sealFrame_tag s f

theorem strayFrame_genuine : deltaGenuine strayStandIn strayFrame = true := deltaGenuine_sealFrame _ (by decide)

theorem strayFrame_gathered : gatherFrames [strayFrame] 0 = some strayDelta := rfl

/-- The Stand-in with the count of frames dropped, of which there is none. -/
def strayCounted : State := bumpF F.SPOT.MIRROR_MISS_COUNT 0 strayStandIn

theorem exec_strayDelta : exec (.mirrorDelta [strayFrame] 0) strayStandIn = .next (receiveDelta strayDelta strayCounted) := by
  have hgood : [strayFrame].filter (deltaGenuine strayStandIn) = [strayFrame] := by
    rw [List.filter_cons_of_pos strayFrame_genuine, List.filter_nil]
  have hpair : pairReel strayStandIn = true := rfl
  show execMirrorDelta [strayFrame] 0 strayStandIn = _
  rw [execMirrorDelta, hgood, hpair, strayFrame_gathered]
  rfl

/-- The injection shows the stray loop's output, 0, at the address of LAST_TICK_LO. -/
theorem strayDelta_loses_tick : getF (receiveDelta strayDelta strayCounted) F.SPOT.LAST_TICK_LO = 0 := by decide +kernel

end Sys2Proof.Machine
end

section
/-! The statement about the mirror. -/

namespace Sys2Proof.Certificates

open Sys2Proof Sys2Proof.Machine

/-- Refutes O54, in the clause on a delta of the present tick: the loop number of a mirrored command has no bound, and an injection into
the loop whose LOOP_OUTPUT would lie at LAST_TICK_LO takes the tick that has just been shown back to 0. -/
theorem not_mirrorBetweenLeadAndStandIn : ¬ Obligations.MirrorBetweenLeadAndStandIn := by
  intro h
  obtain ⟨-, hdelta, -⟩ := h strayStandIn strayStandIn_wellKept
  obtain ⟨-, hgathered⟩ := hdelta rfl (fun c hc => absurd hc (List.not_mem_nil)) (fun id u f hu => nomatch hu)
    (Or.inr ⟨rfl, by decide⟩) [strayFrame] 0
  obtain ⟨-, htaken, -⟩ := hgathered strayDelta (fun f hf => by rw [List.mem_singleton.1 hf]; exact strayFrame_genuine) strayFrame_gathered
  obtain ⟨t, hexec, htick, -⟩ := htaken rfl rfl rfl (by decide)
  rw [exec_strayDelta] at hexec
  rw [← Host.Outcome.next.inj hexec, strayDelta_loses_tick] at htick
  exact absurd htick (by decide)

end Sys2Proof.Certificates
end

section
/-! SUPPORT. The error tables of MEM (R435 to R438, R444): what logging an error writes, and where its address then stands. -/

namespace Sys2Proof.Machine

open Sys2Proof

variable {s t : State} {m i : Nat}

/-! ### One entry -/

/-- The registers of entry `i` of memory `m`'s table. -/
def entryFields (m i : Nat) : List Field :=
  [F.MEM.ENT_ADDR_LO m i, F.MEM.ENT_ADDR_HI m i, F.MEM.ENT_INFO_VALID m i, F.MEM.ENT_INFO_KIND m i, F.MEM.ENT_INFO_STICKY m i,
    F.MEM.ENT_INFO_COUNT m i, F.MEM.ENT_TICK m i]

theorem entryFields_apart {f : Field} (h : f.addr < 0x1301000 + 0x200 * m + 0x10 * i ∨ 0x1301010 + 0x200 * m + 0x10 * i ≤ f.addr)
    (hlsb : f.lsb < 32) : ∀ g ∈ entryFields m i, fieldKey g ≠ fieldKey f := by
  simp only [entryFields, List.forall_mem_cons, fieldKey, F.MEM.ENT_ADDR_LO, F.MEM.ENT_ADDR_HI, F.MEM.ENT_INFO_VALID, F.MEM.ENT_INFO_KIND,
    F.MEM.ENT_INFO_STICKY, F.MEM.ENT_INFO_COUNT, F.MEM.ENT_TICK]
  exact ⟨by omega, by omega, by omega, by omega, by omega, by omega, by omega, by simp⟩

theorem entryFields_nodup (m i : Nat) : ((entryFields m i).map fieldKey).Nodup := by
  simp only [entryFields, List.map_cons, List.map_nil, fieldKey, F.MEM.ENT_ADDR_LO, F.MEM.ENT_ADDR_HI, F.MEM.ENT_INFO_VALID,
    F.MEM.ENT_INFO_KIND, F.MEM.ENT_INFO_STICKY, F.MEM.ENT_INFO_COUNT, F.MEM.ENT_TICK, List.nodup_cons, List.mem_cons, List.not_mem_nil,
    not_or, or_false, not_false_eq_true, List.nodup_nil, and_true]
  omega

theorem memDegraded_onlyFields (s : State) : OnlyFields (healthFields 19) s (memDegraded s) :=
  onlyFields_ite (setHealth_onlyFields 19 _ s) onlyFields_refl

/-- The fields that logging an error in memory `m` at entry `i` writes. -/
def loggedFields (m i : Nat) : List Field := entryFields m i ++ F.MEM.TABLE_FILL m :: healthFields 19

theorem writeEntry_onlyFields (m i addr : Nat) (ue : Bool) (s : State) : OnlyFields (loggedFields m i) s (writeEntry m i addr ue s) := by
  unfold writeEntry
  extract_lets fresh s1 s2
  have hmem : ∀ f ∈ entryFields m i, f ∈ loggedFields m i := fun f hf => List.mem_append_left _ hf
  have h1 : OnlyFields (loggedFields m i) s s1 := by
    refine onlyFields_setF (hmem _ ?_) (onlyFields_setF (hmem _ ?_) (onlyFields_setF (hmem _ ?_) (onlyFields_setF (hmem _ ?_)
      (onlyFields_setF (hmem _ ?_) (onlyFields_setF (hmem _ ?_) (onlyFields_setF (hmem _ ?_) onlyFields_refl)))))) <;> simp [entryFields]
  have h2 : OnlyFields (loggedFields m i) s s2 := onlyFields_ite (onlyFields_bumpF (by simp [loggedFields]) h1) h1
  exact onlyFields_ite h2 (onlyFields_emit h2)

theorem countEntry_onlyFields (m i addr : Nat) (ue : Bool) (s : State) : OnlyFields (loggedFields m i) s (countEntry m i addr ue s) := by
  unfold countEntry
  extract_lets s1 s2
  have h1 : OnlyFields (loggedFields m i) s s1 :=
    onlyFields_bumpF (by simp [loggedFields, entryFields]) (onlyFields_setF (by simp [loggedFields, entryFields]) onlyFields_refl)
  have h2 : OnlyFields (loggedFields m i) s s2 := onlyFields_ite (onlyFields_setF (by simp [loggedFields, entryFields]) h1) h1
  refine onlyFields_ite (onlyFields_trans (onlyFields_emit (onlyFields_setF (by simp [loggedFields, entryFields]) h2))
    (onlyFields_mono (memDegraded_onlyFields _) fun f hf => ?_)) h2
  exact List.mem_append_right _ (List.mem_cons_of_mem _ hf)

/-- The health registers lie below MEM's, and HOST's above. -/
theorem healthFields_offMem {f : Field} (hlow : 0x1300000 ≤ f.addr) (hhigh : f.addr < 0x1400000) (hlsb : f.lsb < 32) :
    ∀ g ∈ healthFields 19, fieldKey g ≠ fieldKey f := by
  simp only [healthFields, causeFields, List.forall_mem_cons, fieldKey, F.DEV.HEALTH_LO, F.DEV.HEALTH_HI, F.TICK.UNIT_STATE_HEALTH,
    F.HOST.INT_CAUSE_RINGS, F.HOST.INT_CAUSE_CAN_HP, F.HOST.INT_CAUSE_HIGH]
  exact ⟨by omega, by omega, by omega, by omega, by omega, by omega, by simp⟩

/-- Logging writes none of MEM's registers below the tables but TABLE_FILL and TABLE_OVERFLOW. -/
theorem loggedFields_apart {f : Field} (hlow : 0x1300000 ≤ f.addr) (hhigh : f.addr < 0x1301000)
    (hfill : f.addr ≠ 0x1300118 + 0x20 * m) (hlsb : f.lsb < 32) : ∀ g ∈ loggedFields m i, fieldKey g ≠ fieldKey f := by
  intro g hg
  obtain hentry | hrest := List.mem_append.1 hg
  · exact entryFields_apart (Or.inl (by omega)) hlsb g hentry
  · obtain rfl | hhealth := List.mem_cons.1 hrest
    · simp only [fieldKey, F.MEM.TABLE_FILL]
      omega
    · exact healthFields_offMem hlow (by omega) hlsb g hhealth

theorem logAddress_keeps {addr : Nat} {ue : Bool} {f : Field} (hlow : 0x1300000 ≤ f.addr) (hhigh : f.addr < 0x1301000)
    (hfill : f.addr ≠ 0x1300118 + 0x20 * m) (hover : f.addr ≠ 0x130011C + 0x20 * m) (hlsb : f.lsb < 32) :
    getF (logAddress m addr ue s) f = getF s f := by
  have hwrite := fun i => writeEntry_onlyFields m i addr ue s f (loggedFields_apart hlow hhigh hfill hlsb)
  unfold logAddress
  split
  · exact countEntry_onlyFields m _ addr ue s f (loggedFields_apart hlow hhigh hfill hlsb)
  · split
    · exact hwrite _
    · split
      · exact hwrite _
      · extract_lets s1
        refine (getF_emit ..).trans (getF_bumpF_other _ _ _ _ ?_)
        simp only [fieldKey, F.MEM.TABLE_OVERFLOW]
        omega

/-! ### Where an address stands -/

/-- Entry `i` of memory `m`'s table is in use and holds `addr`. -/
def EntryHolds (m i addr : Nat) (s : State) : Prop := entryUsed s m i = true ∧ entryAddr s m i = addr

/-- The three fields that say where an entry's address stands. -/
def addressFields (m i : Nat) : List Field := [F.MEM.ENT_INFO_VALID m i, F.MEM.ENT_ADDR_LO m i, F.MEM.ENT_ADDR_HI m i]

theorem entryHolds_congr {addr : Nat} (h : EntryHolds m i addr s) (hvalid : getF t (F.MEM.ENT_INFO_VALID m i) = getF s (F.MEM.ENT_INFO_VALID m i))
    (hlo : getF t (F.MEM.ENT_ADDR_LO m i) = getF s (F.MEM.ENT_ADDR_LO m i))
    (hhi : getF t (F.MEM.ENT_ADDR_HI m i) = getF s (F.MEM.ENT_ADDR_HI m i)) : EntryHolds m i addr t := by
  obtain ⟨hused, haddr⟩ := h
  refine ⟨?_, ?_⟩
  · rw [entryUsed, flag, hvalid]
    exact hused
  · rw [entryAddr, hlo, hhi]
    exact haddr

/-- What writes none of an entry's three fields of its address leaves it holding the address. -/
theorem entryHolds_of_onlyFields {addr : Nat} {fs : List Field} (h : EntryHolds m i addr s) (hkeep : OnlyFields fs s t)
    (hfs : ∀ f ∈ addressFields m i, ∀ g ∈ fs, fieldKey g ≠ fieldKey f) :
    EntryHolds m i addr t :=
  entryHolds_congr h (hkeep _ (hfs _ (by simp [addressFields]))) (hkeep _ (hfs _ (by simp [addressFields])))
    (hkeep _ (hfs _ (by simp [addressFields])))

theorem writeEntry_holds {addr : Nat} (ue : Bool) (haddr : addr < 2 ^ 64) (wf : WellKept s) : EntryHolds m i addr (writeEntry m i addr ue s) := by
  unfold writeEntry
  extract_lets fresh s1 s2
  have h1 : EntryHolds m i addr s1 := by
    have hrise : ∀ v : State, keysRise v.regs = true → ∀ f n, keysRise (setF f n v).regs = true := fun v hv f n => setF_keysRise v f n hv
    have hbase := hrise _ (hrise _ (hrise _ (hrise s wf.regs (F.MEM.ENT_TICK m i) (tickLo s)) (F.MEM.ENT_INFO_COUNT m i) 1)
      (F.MEM.ENT_INFO_STICKY m i) 0) (F.MEM.ENT_INFO_KIND m i) (ofBool ue)
    have hlohi : fieldKey (F.MEM.ENT_ADDR_LO m i) ≠ fieldKey (F.MEM.ENT_ADDR_HI m i) := by
      simp only [fieldKey, F.MEM.ENT_ADDR_LO, F.MEM.ENT_ADDR_HI]
      omega
    have hlovalid : fieldKey (F.MEM.ENT_ADDR_LO m i) ≠ fieldKey (F.MEM.ENT_INFO_VALID m i) := by
      simp only [fieldKey, F.MEM.ENT_ADDR_LO, F.MEM.ENT_INFO_VALID]
      omega
    have hhivalid : fieldKey (F.MEM.ENT_ADDR_HI m i) ≠ fieldKey (F.MEM.ENT_INFO_VALID m i) := by
      simp only [fieldKey, F.MEM.ENT_ADDR_HI, F.MEM.ENT_INFO_VALID]
      omega
    have hvalid := hrise _ hbase (F.MEM.ENT_INFO_VALID m i) 1
    refine ⟨?_, ?_⟩
    · rw [entryUsed, flag_setF_other _ _ _ hlovalid, flag_setF_other _ _ _ hhivalid]
      exact flag_setF_one _ rfl hbase
    · have hlo : lo32 addr < 2 ^ 32 := Nat.mod_lt _ (by decide)
      have hhi : hi32 addr < 2 ^ 32 := by
        simp only [hi32]
        omega
      rw [entryAddr, getF_setF_lt (hrise _ hvalid _ _) hlo, getF_setF_other _ _ _ _ hlohi, getF_setF_lt hvalid hhi]
      simp only [lo32, hi32]
      omega
  have hfill : ∀ f ∈ addressFields m i, fieldKey (F.MEM.TABLE_FILL m) ≠ fieldKey f := by
    simp only [addressFields, List.forall_mem_cons, fieldKey, F.MEM.TABLE_FILL, F.MEM.ENT_INFO_VALID, F.MEM.ENT_ADDR_LO, F.MEM.ENT_ADDR_HI]
    exact ⟨by omega, by omega, by omega, by simp⟩
  have h2 : EntryHolds m i addr s2 := by
    have hkeep : OnlyFields [F.MEM.TABLE_FILL m] s1 s2 := onlyFields_ite (onlyFields_bumpF (by simp) onlyFields_refl) onlyFields_refl
    exact entryHolds_of_onlyFields h1 hkeep fun f hf => by simpa using hfill f hf
  have hemit : ∀ w1 w2 w3, EntryHolds m i addr (emit 0x1301 w1 w2 w3 s2) := fun _ _ _ =>
    entryHolds_congr h2 (getF_emit ..) (getF_emit ..) (getF_emit ..)
  split
  · exact h2
  · exact hemit ..

theorem addressFields_offHealth (hm : m < 9) (hi : i < 32) : ∀ f ∈ addressFields m i, ∀ g ∈ healthFields 19, fieldKey g ≠ fieldKey f := by
  intro f hf
  have hplace : 0x1300000 ≤ f.addr ∧ f.addr < 0x1400000 ∧ f.lsb < 32 := by
    simp only [addressFields, List.mem_cons, List.not_mem_nil, or_false] at hf
    obtain rfl | rfl | rfl := hf
    · exact ⟨by simp only [F.MEM.ENT_INFO_VALID]; omega, by simp only [F.MEM.ENT_INFO_VALID]; omega, show 31 < 32 by decide⟩
    · exact ⟨by simp only [F.MEM.ENT_ADDR_LO]; omega, by simp only [F.MEM.ENT_ADDR_LO]; omega, show 0 < 32 by decide⟩
    · exact ⟨by simp only [F.MEM.ENT_ADDR_HI]; omega, by simp only [F.MEM.ENT_ADDR_HI]; omega, show 0 < 32 by decide⟩
  obtain ⟨hlow, hhigh, hlsb⟩ := hplace
  exact healthFields_offMem hlow hhigh hlsb

theorem countEntry_holds {addr : Nat} (ue : Bool) (hm : m < 9) (hi : i < 32) (h : EntryHolds m i addr s) :
    EntryHolds m i addr (countEntry m i addr ue s) := by
  have hinfo : ∀ f ∈ addressFields m i, ∀ g ∈ [F.MEM.ENT_INFO_COUNT m i, F.MEM.ENT_TICK m i, F.MEM.ENT_INFO_KIND m i,
      F.MEM.ENT_INFO_STICKY m i], fieldKey g ≠ fieldKey f := by
    simp only [addressFields, List.forall_mem_cons, fieldKey, F.MEM.ENT_INFO_VALID, F.MEM.ENT_ADDR_LO, F.MEM.ENT_ADDR_HI, F.MEM.ENT_INFO_COUNT,
      F.MEM.ENT_TICK, F.MEM.ENT_INFO_KIND, F.MEM.ENT_INFO_STICKY]
    refine ⟨⟨by omega, by omega, by omega, by omega, by simp⟩, ⟨by omega, by omega, by omega, by omega, by simp⟩,
      ⟨by omega, by omega, by omega, by omega, by simp⟩, by simp⟩
  unfold countEntry
  extract_lets s1 s2
  have h1 : OnlyFields [F.MEM.ENT_INFO_COUNT m i, F.MEM.ENT_TICK m i, F.MEM.ENT_INFO_KIND m i, F.MEM.ENT_INFO_STICKY m i] s s1 :=
    onlyFields_bumpF (by simp) (onlyFields_setF (by simp) onlyFields_refl)
  have h2 : EntryHolds m i addr s2 :=
    entryHolds_of_onlyFields h (onlyFields_ite (onlyFields_setF (by simp) h1) h1) hinfo
  split
  · have hsticky : EntryHolds m i addr (setF (F.MEM.ENT_INFO_STICKY m i) 1 s2) :=
      entryHolds_of_onlyFields h2 (onlyFields_single_setF _ _ _) fun f hf => by simpa using hinfo f hf _ (by simp)
    exact entryHolds_of_onlyFields (entryHolds_congr hsticky (getF_emit ..) (getF_emit ..) (getF_emit ..)) (memDegraded_onlyFields _)
      (addressFields_offHealth hm hi)
  · exact h2

/-! ### Logging an address (R437) -/

/-- Some entry of memory `m`'s table is free, holds `addr` or is of a correctable error. -/
def TableTakes (m addr : Nat) (s : State) : Prop :=
  ∃ i, i < 32 ∧ (entryUsed s m i = false ∨ flag s (F.MEM.ENT_INFO_KIND m i) = false ∨ entryAddr s m i = addr)

/-- A fold that takes each item or keeps the choice it has ends with one of the items, or with the first choice. -/
theorem foldl_choice {α : Type} {f : Option α → α → Option α}
    (hf : ∀ best x, f best x = some x ∨ (best ≠ none ∧ f best x = best)) (l : List α) (best : Option α) (h : best ≠ none ∨ l ≠ []) :
    ∃ j, l.foldl f best = some j ∧ (best = some j ∨ j ∈ l) := by
  induction l generalizing best with
  | nil =>
    obtain ⟨b, rfl⟩ := Option.ne_none_iff_exists'.1 (h.resolve_right fun h => h rfl)
    exact ⟨b, rfl, Or.inl rfl⟩
  | cons x l ih =>
    rcases hf best x with htaken | ⟨hsome, hkept⟩
    · obtain ⟨j, hj, hmem⟩ := ih (some x) (Or.inl (by simp))
      refine ⟨j, by rw [List.foldl_cons, htaken, hj], Or.inr ?_⟩
      rcases hmem with ⟨⟨⟩⟩ | hmem
      · exact List.mem_cons_self
      · exact List.mem_cons_of_mem _ hmem
    · obtain ⟨j, hj, hmem⟩ := ih best (Or.inl hsome)
      exact ⟨j, by rw [List.foldl_cons, hkept, hj], hmem.imp id (List.mem_cons_of_mem _)⟩

theorem oldestCe_some (hkind : flag s (F.MEM.ENT_INFO_KIND m i) = false) (hi : i < 32) : ∃ j, oldestCe s m = some j ∧ j < 32 := by
  have hcandidate : i ∈ entryNumbers.filter (fun k => !flag s (F.MEM.ENT_INFO_KIND m k)) :=
    List.mem_filter.2 ⟨List.mem_range.2 hi, by rw [hkind]; rfl⟩
  obtain ⟨j, hj, hmem⟩ := foldl_choice (f := fun best k => match best with
      | none => some k
      | some b => if getF s (F.MEM.ENT_TICK m k) < getF s (F.MEM.ENT_TICK m b) then some k else some b)
    (fun best k => by
      cases best with
      | none => exact Or.inl rfl
      | some b =>
        by_cases holder : getF s (F.MEM.ENT_TICK m k) < getF s (F.MEM.ENT_TICK m b)
        · exact Or.inl (if_pos holder)
        · exact Or.inr ⟨by simp, if_neg holder⟩)
    _ none (Or.inr (List.ne_nil_of_mem hcandidate))
  refine ⟨j, hj, List.mem_range.1 (List.mem_filter.1 (hmem.resolve_left (by simp))).1⟩

/-- Where the table can take the address, it stands in it afterwards. -/
theorem logAddress_holds {addr : Nat} (ue : Bool) (hm : m < 9) (haddr : addr < 2 ^ 64) (wf : WellKept s) (h : TableTakes m addr s) :
    ∃ i, i < 32 ∧ EntryHolds m i addr (logAddress m addr ue s) := by
  unfold logAddress
  split
  case h_1 i hfound =>
    have hi : i < 32 := List.mem_range.1 (List.mem_of_find?_eq_some hfound)
    have hholds : EntryHolds m i addr s := by simpa [EntryHolds] using List.find?_some hfound
    exact ⟨i, hi, countEntry_holds ue hm hi hholds⟩
  case h_2 hnone =>
    split
    case h_1 i hfound => exact ⟨i, List.mem_range.1 (List.mem_of_find?_eq_some hfound), writeEntry_holds ue haddr wf⟩
    case h_2 hfull =>
      obtain ⟨i, hi, htakes⟩ := h
      have hused : entryUsed s m i = true := by simpa using List.find?_eq_none.1 hfull i (List.mem_range.2 hi)
      have hother : ¬ entryAddr s m i = addr := by
        simpa [hused] using List.find?_eq_none.1 hnone i (List.mem_range.2 hi)
      have hkind : flag s (F.MEM.ENT_INFO_KIND m i) = false := by
        rcases htakes with hfree | hkind | hsame
        · rw [hused] at hfree
          exact absurd hfree (by decide)
        · exact hkind
        · exact absurd hsame hother
      obtain ⟨j, holdest, hj⟩ := oldestCe_some hkind hi
      rw [holdest]
      exact ⟨j, hj, writeEntry_holds ue haddr wf⟩

end Sys2Proof.Machine
end

section
/-! SUPPORT. The scrubber (R441, R442), the crossing supervisor (R449) and MEM's commands (R454). -/

namespace Sys2Proof.Machine

open Sys2Proof

variable {s t : State} {m g : Nat}

/-! ### Errors noted -/

theorem getF_memDegraded {f : Field} (hlow : 0x1300000 ≤ f.addr) (hhigh : f.addr < 0x1400000) (hlsb : f.lsb < 32) :
    getF (memDegraded s) f = getF s f := memDegraded_onlyFields s f (healthFields_offMem hlow hhigh hlsb)

/-- An error of memory `m` counted in `counter`, shown in `any` and logged. -/
def errorLogged (m addr : Nat) (ue : Bool) (counter any : Field) (s : State) : State :=
  logAddress m addr ue (setF any 1 (bumpF counter 1 s))

theorem errorLogged_shows {addr : Nat} {ue : Bool} {counter any : Field} (hm : m < 9) (wf : WellKept s)
    (hcounter : 0x1300104 + 0x20 * m ≤ counter.addr ∧ counter.addr < 0x1300114 + 0x20 * m ∧ counter.width = 32 ∧ counter.lsb = 0)
    (hany : any.addr = 0x1300004 ∧ any.width = 1 ∧ any.lsb < 32) :
    getF (errorLogged m addr ue counter any s) counter = min (getF s counter + 1) 0xFFFFFFFF ∧
      flag (errorLogged m addr ue counter any s) any = true ∧
      getF (errorLogged m addr ue counter any s) (F.MEM.SCRUB_PASSES m) = getF s (F.MEM.SCRUB_PASSES m) := by
  obtain ⟨hlow, hhigh, hwidth, hlsb⟩ := hcounter
  obtain ⟨hstatus, hbit, hanyLsb⟩ := hany
  have hrise : keysRise (bumpF counter 1 s).regs = true := ((bumpF_moves counter 1 s).form wf).regs
  have hapart : fieldKey any ≠ fieldKey counter := by
    simp only [fieldKey]
    omega
  refine ⟨?_, ?_, ?_⟩
  · rw [errorLogged, logAddress_keeps (by omega) (by omega) (by omega) (by omega) (by omega), getF_setF_other _ _ _ _ hapart,
      getF_bumpF_same _ _ _ hwidth wf.regs]
  · rw [errorLogged, flag, logAddress_keeps (by omega) (by omega) (by omega) (by omega) hanyLsb]
    exact flag_setF_one _ hbit hrise
  · have hpasses : (F.MEM.SCRUB_PASSES m).addr = 0x1300114 + 0x20 * m := rfl
    rw [errorLogged, logAddress_keeps (by omega) (by omega) (by omega) (by omega) (show 0 < 32 by decide),
      getF_setF_other _ _ _ _ (by simp only [fieldKey, hpasses]; omega), getF_bumpF_other _ _ _ _ (by simp only [fieldKey, hpasses]; omega)]

/-- Where the table could take the address before the error was counted, it stands in it once it is logged. -/
theorem errorLogged_holds {addr : Nat} {ue : Bool} {counter any : Field} (hm : m < 9) (haddr : addr < 2 ^ 64) (wf : WellKept s)
    (hcounter : counter.addr < 0x1301000) (hany : any.addr < 0x1301000) (hlsb : counter.lsb < 32 ∧ any.lsb < 32) (h : TableTakes m addr s) :
    ∃ i, i < 32 ∧ EntryHolds m i addr (errorLogged m addr ue counter any s) := by
  have hmoves : Moves 0x2 s (setF any 1 (bumpF counter 1 s)) := moves_step (setF_moves ..) rfl (moves_step (bumpF_moves ..) rfl moves_refl)
  have hkept : ∀ f : Field, 0x1301000 ≤ f.addr → getF (setF any 1 (bumpF counter 1 s)) f = getF s f := fun f hf => by
    rw [getF_setF_other _ _ _ _ (by simp only [fieldKey]; omega), getF_bumpF_other _ _ _ _ (by simp only [fieldKey]; omega)]
  refine logAddress_holds ue hm haddr (hmoves.form wf) ?_
  obtain ⟨i, hi, htakes⟩ := h
  refine ⟨i, hi, ?_⟩
  rwa [entryUsed, flag, flag, entryAddr, hkept _ (by simp only [F.MEM.ENT_INFO_VALID]; omega), hkept _ (by simp only [F.MEM.ENT_INFO_KIND]; omega),
    hkept _ (by simp only [F.MEM.ENT_ADDR_LO]; omega), hkept _ (by simp only [F.MEM.ENT_ADDR_HI]; omega)]

/-- What noting an uncorrectable error writes after it has logged it. -/
theorem noteUe_kept (addr : Nat) (requester : Option Nat) (s : State) {f : Field} (hlow : 0x1300000 ≤ f.addr) (hhigh : f.addr < 0x1400000)
    (hlsb : f.lsb < 32) :
    getF (noteUe m addr requester s) f = getF (errorLogged m addr true (F.MEM.UE_COUNT m) F.MEM.STATUS_UE_ANY s) f := by
  unfold noteUe
  extract_lets who s1 s2
  split
  · exact (getF_memDegraded hlow hhigh hlsb).trans (getF_emit ..)
  · exact getF_emit ..

theorem noteUe_shows {addr : Nat} (requester : Option Nat) (hm : m < 9) (wf : WellKept s) :
    getF (noteUe m addr requester s) (F.MEM.UE_COUNT m) = min (getF s (F.MEM.UE_COUNT m) + 1) 0xFFFFFFFF ∧
      flag (noteUe m addr requester s) F.MEM.STATUS_UE_ANY = true ∧
      getF (noteUe m addr requester s) (F.MEM.SCRUB_PASSES m) = getF s (F.MEM.SCRUB_PASSES m) := by
  obtain ⟨hcount, hany, hpasses⟩ := errorLogged_shows (addr := addr) (ue := true) (counter := F.MEM.UE_COUNT m) (any := F.MEM.STATUS_UE_ANY)
    hm wf ⟨by simp only [F.MEM.UE_COUNT]; omega, by simp only [F.MEM.UE_COUNT]; omega, rfl, rfl⟩ ⟨rfl, rfl, by decide⟩
  refine ⟨?_, ?_, ?_⟩
  · rw [noteUe_kept _ _ _ (by simp only [F.MEM.UE_COUNT]; omega) (by simp only [F.MEM.UE_COUNT]; omega) (show 0 < 32 by decide), hcount]
  · rw [flag, noteUe_kept _ _ _ (by decide) (by decide) (by decide)]
    exact hany
  · rw [noteUe_kept _ _ _ (by simp only [F.MEM.SCRUB_PASSES]; omega) (by simp only [F.MEM.SCRUB_PASSES]; omega) (show 0 < 32 by decide), hpasses]

theorem noteCe_shows {addr : Nat} (hm : m < 9) (wf : WellKept s) :
    getF (noteCe m addr s) (F.MEM.CE_COUNT m) = min (getF s (F.MEM.CE_COUNT m) + 1) 0xFFFFFFFF ∧
      flag (noteCe m addr s) F.MEM.STATUS_CE_ANY = true ∧
      getF (noteCe m addr s) (F.MEM.SCRUB_PASSES m) = getF s (F.MEM.SCRUB_PASSES m) :=
  errorLogged_shows hm wf ⟨by simp only [F.MEM.CE_COUNT]; omega, by simp only [F.MEM.CE_COUNT]; omega, rfl, rfl⟩ ⟨rfl, rfl, by decide⟩

theorem noteCe_holds {addr : Nat} (hm : m < 9) (haddr : addr < 2 ^ 64) (wf : WellKept s) (h : TableTakes m addr s) :
    ∃ i, i < 32 ∧ EntryHolds m i addr (noteCe m addr s) :=
  errorLogged_holds hm haddr wf (by simp only [F.MEM.CE_COUNT]; omega) (by decide) ⟨show 0 < 32 by decide, by decide⟩ h

/-! ### The walk (R441) -/

/-- The scrubber's place in memory `m`. -/
def scrubPlace (m : Nat) (s : State) : Nat := s.mem.position.getD m 0

/-- From `s` to `t` the scrubber has gone one word further in memory `m`, and has counted a pass at its end. -/
structure Walked (m : Nat) (s t : State) : Prop where
  place : t.mem.position[m]? = some (if memBytes m ≤ scrubPlace m s + wordBytes m then 0 else scrubPlace m s + wordBytes m)
  passes : getF t (F.MEM.SCRUB_PASSES m) = (if memBytes m ≤ scrubPlace m s + wordBytes m
    then min (getF s (F.MEM.SCRUB_PASSES m) + 1) 0xFFFFFFFF else getF s (F.MEM.SCRUB_PASSES m))

theorem scrubAdvance_keeps {f : Field} (hpasses : fieldKey (F.MEM.SCRUB_PASSES m) ≠ fieldKey f)
    (hprogress : fieldKey (F.MEM.SCRUB_PROGRESS m) ≠ fieldKey f) (s : State) : getF (scrubAdvance m s) f = getF s f := by
  unfold scrubAdvance
  extract_lets next s1
  split
  · exact (getF_emit ..).trans ((getF_bumpF_other _ _ _ _ hpasses).trans (getF_setF_other _ _ _ _ hprogress))
  · exact getF_setF_other _ _ _ _ hprogress

/-- The walk goes on from what has been found, which moves neither the scrubber's place nor its count of passes. -/
theorem scrubAdvance_walked {u : State} (hm : m < 9) (hlen : s.mem.position.length = 9) (wf : WellKept u)
    (hplace : u.mem.position = s.mem.position) (hpasses : getF u (F.MEM.SCRUB_PASSES m) = getF s (F.MEM.SCRUB_PASSES m)) :
    Walked m s (scrubAdvance m u) := by
  have hprogress : ∀ (n : Nat) (v : State),
      getF (setF (F.MEM.SCRUB_PROGRESS m) n v) (F.MEM.SCRUB_PASSES m) = getF v (F.MEM.SCRUB_PASSES m) :=
    fun n v => getF_setF_other _ _ _ _ (by simp only [fieldKey, F.MEM.SCRUB_PROGRESS, F.MEM.SCRUB_PASSES]; omega)
  have hset : ∀ n, (u.mem.position.set m n)[m]? = some n := fun n => List.getElem?_set_self (by rw [hplace]; omega)
  have hsame : u.mem.position.getD m 0 = scrubPlace m s := by rw [hplace]; rfl
  unfold scrubAdvance
  rw [hsame]
  extract_lets next s1
  by_cases hend : next ≥ memBytes m
  · have hmoves : Moves 0x200002 u s1 := moves_step (emit_moves ..) rfl (moves_step (bumpF_moves ..) rfl (moves_step (setF_moves ..) rfl moves_refl))
    rw [if_pos hend]
    refine ⟨?_, ?_⟩
    · rw [if_pos hend]
      exact (congrArg (fun p : MemPart => (p.position.set m 0)[m]?) (hmoves.frame .mem rfl)).trans (hset 0)
    · rw [if_pos hend, ← hpasses]
      refine (getF_emit ..).trans ?_
      rw [getF_bumpF_same _ _ _ rfl (setF_keysRise _ _ _ wf.regs), hprogress]
  · rw [if_neg hend]
    refine ⟨?_, ?_⟩
    · rw [if_neg hend]
      exact hset next
    · rw [if_neg hend, ← hpasses]
      exact hprogress ..

/-! ### What is found -/

theorem scrubs_lt (h : scrubs s m = true) : m < 9 := by
  simp only [scrubs, Bool.and_eq_true, decide_eq_true_eq] at h
  exact h.2

theorem exec_scrubRead {found : ScrubFinding} {req : Option Nat} (h : scrubs s m = true) :
    exec (.scrubRead m found req) s = .next (scrubAdvance m (scrubFinding m (scrubPlace m s) found req s)) := by
  show execScrubRead m found req s = _
  rw [execScrubRead, if_pos h]
  rfl

theorem exec_scrubRead_off {found : ScrubFinding} {req : Option Nat} (h : scrubs s m = false) : exec (.scrubRead m found req) s = .next s := by
  show execScrubRead m found req s = _
  rw [execScrubRead, if_neg (by simp [h])]

theorem relocateSector_keeps {addr bits : Nat} {spare : Bool} {f : Field} (hlow : 0x1300000 ≤ f.addr) (hhigh : f.addr < 0x1400000)
    (hlsb : f.lsb < 32) : getF (relocateSector addr bits spare s) f = getF s f := by
  unfold relocateSector
  split
  · rfl
  · split
    · exact getF_emit ..
    · exact (getF_memDegraded hlow hhigh hlsb).trans (getF_emit ..)

/-- MEM's part put in place. -/
def putMem (x : MemPart) (s : State) : State := { s with mem := x }

theorem putMem_moves (x : MemPart) (s : State) : Moves 0x100000 s (putMem x s) where
  frame p hp := by
    cases p
    case mem => exact absurd hp (by decide)
    all_goals rfl
  form w := ⟨w.regs, w.live, w.snap, w.window, w.cond, w.bases, w.slots, w.sessions, w.ports, w.volatileRing, w.headers⟩

/-- A correctable error counted for the pass. -/
def countedCe (m : Nat) (s : State) : State := putMem { s.mem with passCe := listUpd 0 s.mem.passCe m (· + 1) } s

/-- An uncorrectable error counted for the pass. -/
def countedUe (m : Nat) (s : State) : State := putMem { s.mem with passUe := listUpd 0 s.mem.passUe m (· + 1) } s

/-- What a correctable error at the scrubber's place does before the walk goes on. -/
def scrubCe (m bits : Nat) (spare : Bool) (s : State) : State :=
  if m = 8 then relocateSector (scrubPlace m s) bits spare (noteCe m (scrubPlace m s) (countedCe m s))
  else noteCe m (scrubPlace m s) (countedCe m s)

theorem scrubFinding_correctable (bits : Nat) (spare : Bool) (req : Option Nat) :
    scrubFinding m (scrubPlace m s) (.correctable bits spare) req s = scrubCe m bits spare s := rfl

theorem scrubCe_keeps {bits : Nat} {spare : Bool} {f : Field} (hlow : 0x1300000 ≤ f.addr) (hhigh : f.addr < 0x1400000) (hlsb : f.lsb < 32) :
    getF (scrubCe m bits spare s) f = getF (noteCe m (scrubPlace m s) (countedCe m s)) f := by
  unfold scrubCe
  split
  · exact relocateSector_keeps hlow hhigh hlsb
  · rfl

theorem scrubCe_moves (bits : Nat) (spare : Bool) (s : State) : Moves 0x700002 s (scrubCe m bits spare s) := by
  have h1 : Moves 0x700002 s (noteCe m (scrubPlace m s) (countedCe m s)) :=
    moves_step (noteCe_moves ..) rfl (moves_step (putMem_moves ..) rfl moves_refl)
  exact moves_ite (moves_step (relocateSector_moves ..) rfl h1) h1

theorem scrubCe_position (bits : Nat) (spare : Bool) : (scrubCe m bits spare s).mem.position = s.mem.position := by
  have hnote : (noteCe m (scrubPlace m s) (countedCe m s)).mem = (countedCe m s).mem := (noteCe_moves ..).frame .mem rfl
  unfold scrubCe
  split
  · rw [(relocateSector_moves ..).frame .mem rfl, hnote]
    rfl
  · rw [hnote]
    rfl

theorem scrubRead_correctable {bits : Nat} {spare : Bool} {req : Option Nat} (hscrubs : scrubs s m = true)
    (hlen : s.mem.position.length = 9) (hplace : scrubPlace m s < 2 ^ 64) (wf : WellKept s) :
    ∃ t, exec (.scrubRead m (.correctable bits spare) req) s = .next t ∧ Walked m s t ∧
      getF t (F.MEM.CE_COUNT m) = min (getF s (F.MEM.CE_COUNT m) + 1) 0xFFFFFFFF ∧ flag t F.MEM.STATUS_CE_ANY = true ∧
      OnlyParts [.regs, .mem, .cont, .host] s t ∧
      (TableTakes m (scrubPlace m s) s → ∃ i, i < 32 ∧ EntryHolds m i (scrubPlace m s) t) := by
  have hm := scrubs_lt hscrubs
  have wf1 : WellKept (countedCe m s) := (putMem_moves ..).form wf
  obtain ⟨hcount, hany, hpasses⟩ := noteCe_shows (addr := scrubPlace m s) hm wf1
  have hkeeps : ∀ f : Field, 0x1300000 ≤ f.addr → f.addr < 0x1400000 → f.lsb < 32 → fieldKey (F.MEM.SCRUB_PASSES m) ≠ fieldKey f →
      fieldKey (F.MEM.SCRUB_PROGRESS m) ≠ fieldKey f →
      getF (scrubAdvance m (scrubCe m bits spare s)) f = getF (noteCe m (scrubPlace m s) (countedCe m s)) f :=
    fun f hlow hhigh hlsb h1 h2 => (scrubAdvance_keeps h1 h2 _).trans (scrubCe_keeps hlow hhigh hlsb)
  refine ⟨_, (exec_scrubRead hscrubs).trans (congrArg (fun u => Host.Outcome.next (scrubAdvance m u)) (scrubFinding_correctable bits spare req)),
    scrubAdvance_walked hm hlen ((scrubCe_moves bits spare s).form wf) (scrubCe_position bits spare) ?_, ?_, ?_,
    onlyParts_of_moves s _ (moves_step (scrubAdvance_moves ..) rfl (scrubCe_moves bits spare s) : Moves 0x700002 s _) rfl, fun htakes => ?_⟩
  · exact (scrubCe_keeps (by simp only [F.MEM.SCRUB_PASSES]; omega) (by simp only [F.MEM.SCRUB_PASSES]; omega) (show 0 < 32 by decide)).trans hpasses
  · exact (hkeeps _ (by simp only [F.MEM.CE_COUNT]; omega) (by simp only [F.MEM.CE_COUNT]; omega) (show 0 < 32 by decide)
      (by simp only [fieldKey, F.MEM.CE_COUNT, F.MEM.SCRUB_PASSES]; omega)
      (by simp only [fieldKey, F.MEM.CE_COUNT, F.MEM.SCRUB_PROGRESS]; omega)).trans hcount
  · rw [flag, hkeeps _ (by decide) (by decide) (by decide) (by simp only [fieldKey, F.MEM.STATUS_CE_ANY, F.MEM.SCRUB_PASSES]; omega)
      (by simp only [fieldKey, F.MEM.STATUS_CE_ANY, F.MEM.SCRUB_PROGRESS]; omega)]
    exact hany
  · obtain ⟨i, hi, hholds⟩ := noteCe_holds (s := countedCe m s) hm hplace wf1 htakes
    refine ⟨i, hi, entryHolds_congr hholds (hkeeps _ ?_ ?_ (show 31 < 32 by decide) ?_ ?_) (hkeeps _ ?_ ?_ (show 0 < 32 by decide) ?_ ?_)
      (hkeeps _ ?_ ?_ (show 0 < 32 by decide) ?_ ?_)⟩ <;>
    simp only [fieldKey, F.MEM.ENT_INFO_VALID, F.MEM.ENT_ADDR_LO, F.MEM.ENT_ADDR_HI, F.MEM.SCRUB_PASSES, F.MEM.SCRUB_PROGRESS] <;> omega

theorem scrubRead_clean {req : Option Nat} (hscrubs : scrubs s m = true) (hlen : s.mem.position.length = 9) (wf : WellKept s) :
    ∃ t, exec (.scrubRead m .clean req) s = .next t ∧ Walked m s t ∧ getF t (F.MEM.CE_COUNT m) = getF s (F.MEM.CE_COUNT m) ∧
      OnlyParts [.regs, .mem, .cont] s t := by
  have hexec : exec (.scrubRead m .clean req) s = .next (scrubAdvance m s) := exec_scrubRead hscrubs
  refine ⟨_, hexec, scrubAdvance_walked (scrubs_lt hscrubs) hlen wf rfl rfl, scrubAdvance_keeps ?_ ?_ _,
    onlyParts_of_moves s _ (scrubAdvance_moves ..) rfl⟩
  · simp only [fieldKey, F.MEM.CE_COUNT, F.MEM.SCRUB_PASSES]
    omega
  · simp only [fieldKey, F.MEM.CE_COUNT, F.MEM.SCRUB_PROGRESS]
    omega

/-! ### An uncorrectable error (R438, R439, R442) -/

/-- What an uncorrectable error at the scrubber's place does before an owner acts. -/
def scrubUe (m : Nat) (o : MemOwner) (req : Option Nat) (s : State) : State :=
  spoilRecords o (scrubPlace m s) (noteUe m (scrubPlace m s) req (countedUe m s))

theorem spoilRecords_regs (o : MemOwner) (addr : Nat) (s : State) : (spoilRecords o addr s).regs = s.regs := by
  cases o <;> simp only [spoilRecords]

theorem scrubUe_moves (o : MemOwner) (req : Option Nat) (s : State) : Moves 0x700002 s (scrubUe m o req s) :=
  moves_step (spoilRecords_moves ..) rfl (moves_step (noteUe_moves ..) rfl (moves_step (putMem_moves ..) rfl moves_refl))

theorem scrubUe_mem (o : MemOwner) (req : Option Nat) (s : State) : (scrubUe m o req s).mem = (countedUe m s).mem :=
  ((spoilRecords_moves ..).frame .mem rfl).trans ((noteUe_moves ..).frame .mem rfl)

theorem scrubUe_position (o : MemOwner) (req : Option Nat) (s : State) : (scrubUe m o req s).mem.position = s.mem.position := by
  rw [scrubUe_mem]
  rfl

theorem scrubUe_atCurtain (o : MemOwner) (req : Option Nat) (s : State) : (scrubUe m o req s).mem.atCurtain = s.mem.atCurtain := by
  rw [scrubUe_mem]
  rfl

theorem scrubUe_tick (o : MemOwner) (req : Option Nat) (s : State) : (scrubUe m o req s).tick = s.tick :=
  (scrubUe_moves o req s).frame .tick rfl

/-- The walk goes on from a state that has the error's registers and the scrubber's place. -/
theorem scrubUe_walked {o : MemOwner} {req : Option Nat} {u : State} (hm : m < 9) (hlen : s.mem.position.length = 9) (wf : WellKept s)
    (wfu : WellKept u) (hregs : u.regs = (scrubUe m o req s).regs) (hplace : u.mem.position = s.mem.position) :
    Walked m s (scrubAdvance m u) ∧ flag (scrubAdvance m u) F.MEM.STATUS_UE_ANY = true ∧
      getF (scrubAdvance m u) (F.MEM.UE_COUNT m) = min (getF s (F.MEM.UE_COUNT m) + 1) 0xFFFFFFFF := by
  obtain ⟨hcount, hany, hpasses⟩ := noteUe_shows (addr := scrubPlace m s) req hm ((putMem_moves ..).form wf : WellKept (countedUe m s))
  have hsame : ∀ f, getF u f = getF (noteUe m (scrubPlace m s) req (countedUe m s)) f := fun f =>
    getF_congr _ _ f (hregs.trans (spoilRecords_regs ..))
  refine ⟨scrubAdvance_walked hm hlen wfu hplace ((hsame _).trans hpasses), ?_, ?_⟩
  · rw [flag, scrubAdvance_keeps (by simp only [fieldKey, F.MEM.STATUS_UE_ANY, F.MEM.SCRUB_PASSES]; omega)
      (by simp only [fieldKey, F.MEM.STATUS_UE_ANY, F.MEM.SCRUB_PROGRESS]; omega), hsame]
    exact hany
  · rw [scrubAdvance_keeps (by simp only [fieldKey, F.MEM.UE_COUNT, F.MEM.SCRUB_PASSES]; omega)
      (by simp only [fieldKey, F.MEM.UE_COUNT, F.MEM.SCRUB_PROGRESS]; omega), hsame]
    exact hcount

theorem scrubAdvance_atCurtain (m : Nat) (s : State) : (scrubAdvance m s).mem.atCurtain = s.mem.atCurtain := by
  unfold scrubAdvance
  extract_lets next s1
  have hmoves : Moves 0x200002 s s1 := moves_step (emit_moves ..) rfl (moves_step (bumpF_moves ..) rfl (moves_step (setF_moves ..) rfl moves_refl))
  split
  · show s1.mem.atCurtain = s.mem.atCurtain
    rw [hmoves.frame .mem rfl]
  · rfl

/-- The owner's entry for the Curtain. -/
def forCurtain (o : MemOwner) (addr : Nat) (s : State) : State := putMem { s.mem with atCurtain := s.mem.atCurtain ++ [(o, addr)] } s

theorem scrubFinding_unread {o : MemOwner} (h : privileged m = false ∨ inState s .live = true) :
    scrubFinding m (scrubPlace m s) (.uncorrectable o) none s =
      if privileged m then forCurtain o (scrubPlace m s) (scrubUe m o none s) else scrubUe m o none s := by
  unfold scrubFinding
  dsimp only
  rw [if_neg (by simp)]
  cases hpriv : privileged m with
  | false => rfl
  | true =>
    rw [if_neg (by decide), if_pos (h.resolve_left (by simp [hpriv]))]
    rfl

theorem scrubRead_unread {o : MemOwner} (hscrubs : scrubs s m = true) (h : privileged m = false ∨ inState s .live = true)
    (hlen : s.mem.position.length = 9) (wf : WellKept s) :
    ∃ t, exec (.scrubRead m (.uncorrectable o) none) s = .next t ∧ Walked m s t ∧ flag t F.MEM.STATUS_UE_ANY = true ∧
      getF t (F.MEM.UE_COUNT m) = min (getF s (F.MEM.UE_COUNT m) + 1) 0xFFFFFFFF ∧
      t.mem.atCurtain = (if privileged m then s.mem.atCurtain ++ [(o, scrubPlace m s)] else s.mem.atCurtain) ∧
      OnlyParts [.regs, .mem, .cont, .host] s t := by
  have hm := scrubs_lt hscrubs
  have hmoves : Moves 0x700002 s (scrubUe m o none s) := scrubUe_moves o none s
  have hexec := exec_scrubRead (found := .uncorrectable o) (req := none) hscrubs
  rw [scrubFinding_unread h] at hexec
  cases hpriv : privileged m with
  | false =>
    rw [hpriv, if_neg (by decide)] at hexec
    obtain ⟨hwalked, hany, hcount⟩ := scrubUe_walked hm hlen wf (hmoves.form wf) rfl (scrubUe_position ..)
    exact ⟨_, hexec, hwalked, hany, hcount, (scrubAdvance_atCurtain ..).trans (scrubUe_atCurtain ..),
      onlyParts_of_moves s _ (moves_step (scrubAdvance_moves ..) rfl hmoves : Moves 0x700002 s _) rfl⟩
  | true =>
    rw [hpriv, if_pos rfl] at hexec
    have hput : Moves 0x700002 s (forCurtain o (scrubPlace m s) (scrubUe m o none s)) := moves_step (putMem_moves ..) rfl hmoves
    obtain ⟨hwalked, hany, hcount⟩ := scrubUe_walked (u := forCurtain o (scrubPlace m s) (scrubUe m o none s)) hm hlen wf
      (hput.form wf) rfl (scrubUe_position ..)
    exact ⟨_, hexec, hwalked, hany, hcount,
      (scrubAdvance_atCurtain ..).trans (congrArg (· ++ [(o, scrubPlace m s)]) (scrubUe_atCurtain ..)),
      onlyParts_of_moves s _ (moves_step (scrubAdvance_moves ..) rfl hput : Moves 0x700002 s _) rfl⟩

theorem scrubRead_read {u v : Nat} (hscrubs : scrubs s m = true) (hlen : s.mem.position.length = 9) (wf : WellKept s) :
    ∃ t, exec (.scrubRead m (.uncorrectable (.unit u)) (some v)) s = .next t ∧ Walked m s t ∧ flag t F.MEM.STATUS_UE_ANY = true ∧
      t.tick.forceFault = s.tick.forceFault ++ [u] ∧ t.mem.atCurtain = s.mem.atCurtain := by
  have hexec : exec (.scrubRead m (.uncorrectable (.unit u)) (some v)) s =
      .next (scrubAdvance m (faultAtCurtain u (scrubUe m (.unit u) (some v) s))) := exec_scrubRead hscrubs
  obtain ⟨hwalked, hany, -⟩ := scrubUe_walked (u := faultAtCurtain u (scrubUe m (.unit u) (some v) s)) (scrubs_lt hscrubs) hlen wf
    ((faultAtCurtain_moves ..).form ((scrubUe_moves ..).form wf)) rfl (scrubUe_position ..)
  refine ⟨_, hexec, hwalked, hany, ?_, (scrubAdvance_atCurtain ..).trans (scrubUe_atCurtain ..)⟩
  rw [(scrubAdvance_moves ..).frame .tick rfl]
  exact congrArg (fun p : TickPart => p.forceFault ++ [u]) (scrubUe_tick (.unit u) (some v) s)

/-! ### A crossing that stalls and resumes (R449) -/

/-- A point that the stall of its crossing is shown on. -/
def CrossPoint (i : Nat) (s : State) : Prop := hasCond (pointCond s i).conds condCrossing = true

theorem crossingStall_regs (i : Nat) (on : Bool) (s : State) : (crossingStall i on s).regs = s.regs := (crossingStall_moves ..).frame .regs rfl

theorem crossingStall_known {i : Nat} (hup : imageUp s = true) (hcfg : (pointCfg s i).isSome = true) :
    crossingStall i true s = putPoint i (livePoint s i) { pointCond s i with
      conds := putCond (pointCond s i).conds condCrossing true } s := by
  refine if_neg ?_
  rw [hup, Option.isNone_eq_false_iff.2 hcfg]
  decide

theorem crossingStall_cross {i j : Nat} (wf : WellKept s) (hup : imageUp s = true) (hcfg : (pointCfg s j).isSome = true)
    (h : j = i ∨ CrossPoint j s) : CrossPoint j (crossingStall i true s) := by
  unfold CrossPoint
  by_cases hj : j = i
  · subst hj
    rw [crossingStall_known hup hcfg, pointCond_putPoint_same _ _ _ wf]
    simp
  · by_cases hknown : (pointCfg s i).isSome = true
    · rw [crossingStall_known hup hknown]
      exact (congrArg (fun k => hasCond (PointCond.conds k) condCrossing) (tableGet_put_other _ _ _ _ _ _ (Ne.symm hj))).trans
        (h.resolve_left hj)
    · rw [crossingStall, if_pos (by simp [Option.not_isSome_iff_eq_none.1 hknown])]
      exact h.resolve_left hj

/-- Every point of a crossing that has stalled shows it. -/
theorem crossingStalls_cross {j : Nat} {l : List Nat} (wf : WellKept s) (hup : imageUp s = true) (hcfg : (pointCfg s j).isSome = true)
    (h : j ∈ l ∨ CrossPoint j s) : CrossPoint j (l.foldl (fun t i => crossingStall i true t) s) := by
  induction l generalizing s with
  | nil => exact h.resolve_left (by simp)
  | cons x xs ih =>
    have hmoves := crossingStall_moves x true s
    refine ih (hmoves.form wf) ((imageUp_congr (crossingStall_regs x true s)).trans hup)
      ((congrArg Option.isSome (pointCfg_congr (hmoves.frame .cfg rfl) j)).trans hcfg) ?_
    by_cases hmore : j ∈ xs
    · exact Or.inl hmore
    · exact Or.inr (crossingStall_cross wf hup hcfg (h.imp_left fun hj => (List.mem_cons.1 hj).resolve_right hmore))

theorem crossingStalls_moves (l : List Nat) (s : State) : Moves 0x20 s (l.foldl (fun t i => crossingStall i true t) s) :=
  moves_foldl moves_refl fun _ _ h => moves_step (crossingStall_moves ..) rfl h

/-- The bit of crossing `g` in CROSS_STALL, with STALL_ANY. -/
def stallBit (g : Nat) (on : Bool) (s : State) : State := showStalls (setBit F.MEM.CROSS_STALL g on s)

theorem stallBit_moves (g : Nat) (on : Bool) (s : State) : Moves 0x2 s (stallBit g on s) :=
  moves_step (showStalls_moves ..) rfl (moves_step (setBit_moves ..) rfl moves_refl)

theorem bitF_stallBit {h : Nat} (on : Bool) (hh : h < 12) (wf : WellKept s) :
    bitF (stallBit g on s) F.MEM.CROSS_STALL h = if h = g then on else bitF s F.MEM.CROSS_STALL h := by
  have hshow : bitF (stallBit g on s) F.MEM.CROSS_STALL h = bitF (setBit F.MEM.CROSS_STALL g on s) F.MEM.CROSS_STALL h := by
    unfold bitF
    rw [stallBit, showStalls, getF_setF_other _ _ _ _ (by decide)]
  rw [hshow, bitF_setBit _ F.MEM.CROSS_STALL g h on hh wf.regs]

theorem getF_stallBit (on : Bool) {f : Field} (hany : fieldKey F.MEM.STATUS_STALL_ANY ≠ fieldKey f)
    (hstall : fieldKey F.MEM.CROSS_STALL ≠ fieldKey f) : getF (stallBit g on s) f = getF s f :=
  (getF_setF_other _ _ _ _ hany).trans (getF_setF_other _ _ _ _ hstall)

theorem stallBit_any (hg : g < 12) (wf : WellKept s) : flag (stallBit g true s) F.MEM.STATUS_STALL_ANY = true := by
  have hbit : bitF (setBit F.MEM.CROSS_STALL g true s) F.MEM.CROSS_STALL g = true := by
    rw [bitF_setBit _ F.MEM.CROSS_STALL g g true hg wf.regs, if_pos rfl]
  have hsome : getF (setBit F.MEM.CROSS_STALL g true s) F.MEM.CROSS_STALL ≠ 0 := by
    intro hzero
    rw [bitF, hzero] at hbit
    simp at hbit
  rw [stallBit, showStalls, flag_setF_ofBool _ rfl (setBit_keysRise _ _ _ _ wf.regs)]
  simpa using hsome

theorem pulseStall_onlyFields (s : State) : OnlyFields [F.LIO.STATUS_CROSSING_STALL, F.LIO.PULSE_STALL_COUNT] s (pulseStall s) := by
  unfold pulseStall
  exact onlyFields_trans (onlyFields_setF (by simp) onlyFields_refl)
    (onlyFields_foldl fun _ _ _ => onlyFields_emit (onlyFields_bumpF (by simp) onlyFields_refl))

/-- The registers of a stall: the bit, the count, and LIO's where it carries pulses. -/
def stallShown (g : Nat) (s : State) : State :=
  let s1 := bumpF F.MEM.CROSS_STALL_COUNT 1 (stallBit g true s)
  if g = 7 then pulseStall s1 else s1

theorem stallShown_moves (g : Nat) (s : State) : Moves 0x200002 s (stallShown g s) := by
  have h1 : Moves 0x200002 s (bumpF F.MEM.CROSS_STALL_COUNT 1 (stallBit g true s)) :=
    moves_step (bumpF_moves ..) rfl (moves_step (stallBit_moves ..) rfl moves_refl)
  exact moves_ite (moves_step (pulseStall_moves ..) rfl h1) h1

theorem stallShown_onlyFields (g : Nat) (s : State) :
    OnlyFields [F.LIO.STATUS_CROSSING_STALL, F.LIO.PULSE_STALL_COUNT] (bumpF F.MEM.CROSS_STALL_COUNT 1 (stallBit g true s)) (stallShown g s) :=
  onlyFields_ite (pulseStall_onlyFields _) onlyFields_refl

theorem stallShown_shows (hg : g < 12) (wf : WellKept s) :
    bitF (stallShown g s) F.MEM.CROSS_STALL g = true ∧ flag (stallShown g s) F.MEM.STATUS_STALL_ANY = true ∧
      getF (stallShown g s) F.MEM.CROSS_STALL_COUNT = min (getF s F.MEM.CROSS_STALL_COUNT + 1) 0xFFFFFFFF ∧
      imageUp (stallShown g s) = imageUp s := by
  have hlio : ∀ f : Field, (∀ x ∈ [F.LIO.STATUS_CROSSING_STALL, F.LIO.PULSE_STALL_COUNT], fieldKey x ≠ fieldKey f) →
      fieldKey F.MEM.CROSS_STALL_COUNT ≠ fieldKey f → getF (stallShown g s) f = getF (stallBit g true s) f := fun f h hcount =>
    (stallShown_onlyFields g s f h).trans (getF_bumpF_other _ _ _ _ hcount)
  have hmoves := stallBit_moves g true s
  refine ⟨?_, ?_, ?_, ?_⟩
  · rw [bitF, hlio _ (by decide) (by decide)]
    exact (bitF_stallBit true hg wf).trans (if_pos rfl)
  · rw [flag, hlio _ (by decide) (by decide)]
    exact stallBit_any hg wf
  · rw [stallShown_onlyFields g s _ (by decide), getF_bumpF_same _ _ _ rfl (hmoves.form wf).regs, getF_stallBit true (by decide) (by decide)]
  · rw [imageUp, imageUp, flag, flag, hlio _ (by decide) (by decide), getF_stallBit true (by decide) (by decide)]

/-- A crossing that has stalled, shown on its points too. -/
def stalledOn (g since : Nat) (l : List Nat) (s : State) : State :=
  let s2 := l.foldl (fun t i => crossingStall i true t) (stallShown g s)
  putMem { s2.mem with stallSince := tablePut 0 s2.mem.stallSince g since } s2

theorem getF_stalledOn (g since : Nat) (l : List Nat) (s : State) (f : Field) : getF (stalledOn g since l s) f = getF (stallShown g s) f :=
  getF_congr _ _ f ((crossingStalls_moves l (stallShown g s)).frame .regs rfl)

/-- The clock of crossing `g` that a stall waits for. -/
def deadClock (g : Nat) (s : State) : Nat := if clockRuns s (groupClocks g).1 = true then (groupClocks g).2 else (groupClocks g).1

theorem deadClock_eq (g : Nat) (s : State) :
    (if (!clockRuns s (groupClocks g).1) = true then (groupClocks g).1 else (groupClocks g).2) = deadClock g s := by
  unfold deadClock
  cases clockRuns s (groupClocks g).1 <;> rfl

theorem groupPoints_congr (h : t.cfg = s.cfg) (g : Nat) : groupPoints t g = groupPoints s g := by
  unfold groupPoints stationList
  rw [h]

theorem exec_crossingStalled (hg : g < 12) (hreleased : crossingReleased s g = true) (hdead : clockRuns s (deadClock g s) = false)
    (hfree : bitF s F.MEM.CROSS_STALL g = false)
    (hdue : tableGet 0 s.pwr.stoppedAt (deadClock g s) + 500 * getF s F.MEM.CROSS_TIMEOUT ≤ s.clap.cycles) :
    exec (.crossingStalled g) s = .next (emit 0x1308 g (ofBool (clockRuns s (groupClocks g).1)) 0
      (stalledOn g (tableGet 0 s.pwr.stoppedAt (deadClock g s)) (groupPoints s g) s)) := by
  have hcfg : (bumpF F.MEM.CROSS_STALL_COUNT 1 (stallBit g true s)).cfg = s.cfg := rfl
  show execCrossingStalled g s = _
  unfold execCrossingStalled
  dsimp only
  rw [deadClock_eq, if_pos (by simp [hg, hreleased, hdead, hfree, hdue]), ← groupPoints_congr hcfg]
  rfl

theorem exec_crossingStalled_off (h : crossingReleased s g = false ∨ clockRuns s (deadClock g s) = true ∨ bitF s F.MEM.CROSS_STALL g = true) :
    exec (.crossingStalled g) s = .next s := by
  show execCrossingStalled g s = _
  unfold execCrossingStalled
  dsimp only
  rw [deadClock_eq, if_neg ?_]
  rcases h with h | h | h <;> simp [h]

theorem crossingStalled_shows (hg : g < 12) (hreleased : crossingReleased s g = true) (hdead : clockRuns s (deadClock g s) = false)
    (hfree : bitF s F.MEM.CROSS_STALL g = false)
    (hdue : tableGet 0 s.pwr.stoppedAt (deadClock g s) + 500 * getF s F.MEM.CROSS_TIMEOUT ≤ s.clap.cycles) (wf : WellKept s) :
    ∃ t, exec (.crossingStalled g) s = .next t ∧ bitF t F.MEM.CROSS_STALL g = true ∧ flag t F.MEM.STATUS_STALL_ANY = true ∧
      getF t F.MEM.CROSS_STALL_COUNT = min (getF s F.MEM.CROSS_STALL_COUNT + 1) 0xFFFFFFFF ∧
      (∀ i ∈ groupPoints s g, imageUp s = true → (pointCfg s i).isSome = true → hasCond (pointCond t i).conds condCrossing = true) ∧
      OnlyParts [.regs, .pimg, .mem, .cont] s t := by
  have hexec := exec_crossingStalled hg hreleased hdead hfree hdue
  obtain ⟨hbit, hany, hcount, hup⟩ := stallShown_shows hg wf
  have hshown := stallShown_moves g s
  refine ⟨_, hexec, ?_, ?_, ?_, fun i hi himage hcfg => ?_, exec_onlyParts hexec⟩
  · rw [bitF, getF_emit, getF_stalledOn]
    exact hbit
  · rw [flag, getF_emit, getF_stalledOn]
    exact hany
  · rw [getF_emit, getF_stalledOn, hcount]
  · have hcross := crossingStalls_cross (l := groupPoints s g) (j := i) (hshown.form wf) (hup.trans himage)
      ((congrArg Option.isSome (pointCfg_congr (hshown.frame .cfg rfl) i)).trans hcfg) (Or.inl hi)
    rw [pointCond_congr ((emit_moves ..).frame .pimg rfl)]
    exact hcross

/-- LIO's flag of a stall goes when its crossing resumes. -/
def pulseResumed (g : Nat) (s : State) : State := if g = 7 then setF F.LIO.STATUS_CROSSING_STALL 0 s else s

theorem exec_crossingResumed (n : Nat) (hg : g < 12) (hstall : bitF s F.MEM.CROSS_STALL g = true) (ha : clockRuns s (groupClocks g).1 = true)
    (hb : clockRuns s (groupClocks g).2 = true) :
    exec (.crossingResumed g n) s = .next (emit 0x1309 g ((s.clap.cycles - tableGet 0 s.mem.stallSince g) / 500) n
      (stallBit g false (pulseResumed g s))) := by
  show execCrossingResumed g n s = _
  unfold execCrossingResumed
  dsimp only
  rw [if_pos (by simp [hg, hstall, ha, hb])]
  rfl

theorem exec_crossingResumed_off (n : Nat) (h : bitF s F.MEM.CROSS_STALL g = false) : exec (.crossingResumed g n) s = .next s := by
  show execCrossingResumed g n s = _
  unfold execCrossingResumed
  dsimp only
  rw [if_neg (by simp [h])]

theorem crossingResumed_shows (n : Nat) (hg : g < 12) (hstall : bitF s F.MEM.CROSS_STALL g = true) (ha : clockRuns s (groupClocks g).1 = true)
    (hb : clockRuns s (groupClocks g).2 = true) (wf : WellKept s) :
    ∃ t, exec (.crossingResumed g n) s = .next t ∧ bitF t F.MEM.CROSS_STALL g = false ∧
      (∀ h, h < 12 → h ≠ g → bitF t F.MEM.CROSS_STALL h = bitF s F.MEM.CROSS_STALL h) ∧ OnlyParts [.regs, .cont] s t := by
  have hexec := exec_crossingResumed n hg hstall ha hb
  have hmoves : Moves 0x2 s (pulseResumed g s) := moves_ite (moves_step (setF_moves ..) rfl moves_refl) moves_refl
  have hlio : ∀ h, bitF (pulseResumed g s) F.MEM.CROSS_STALL h = bitF s F.MEM.CROSS_STALL h := fun h => by
    have hkeep : OnlyFields [F.LIO.STATUS_CROSSING_STALL] s (pulseResumed g s) :=
      onlyFields_ite (onlyFields_single_setF _ _ _) onlyFields_refl
    rw [bitF, bitF, hkeep _ (by decide)]
  have hbits : ∀ h, h < 12 → bitF (stallBit g false (pulseResumed g s)) F.MEM.CROSS_STALL h =
      if h = g then false else bitF s F.MEM.CROSS_STALL h := fun h hh => by
    rw [bitF_stallBit false hh (hmoves.form wf), hlio]
  refine ⟨_, hexec, ?_, fun h hh hne => ?_, exec_onlyParts hexec⟩
  · rw [bitF, getF_emit]
    exact (hbits g hg).trans (if_pos rfl)
  · rw [bitF, getF_emit]
    exact (hbits h hh).trans (if_neg hne)

/-! ### Tables emptied (R454) -/

theorem entryFields_reset (m i : Nat) : ∀ f ∈ entryFields m i, f.reset = 0 := by
  simp [entryFields, F.MEM.ENT_ADDR_LO, F.MEM.ENT_ADDR_HI, F.MEM.ENT_INFO_VALID, F.MEM.ENT_INFO_KIND, F.MEM.ENT_INFO_STICKY,
    F.MEM.ENT_INFO_COUNT, F.MEM.ENT_TICK]

theorem entryReset_keeps_unused {k i x : Nat} (wf : WellKept s) (h : (k = m ∧ i = x) ∨ entryUsed s k i = false) (hi : i < 32) (hx : x < 32) :
    entryUsed (resetFields (entryFields m x) s) k i = false := by
  have hvalid : (F.MEM.ENT_INFO_VALID k i).addr = 0x1301008 + 0x200 * k + 0x10 * i := rfl
  by_cases hsame : k = m ∧ i = x
  · obtain ⟨rfl, rfl⟩ := hsame
    have hmem : F.MEM.ENT_INFO_VALID k i ∈ entryFields k i := by simp [entryFields]
    rw [entryUsed, flag, getF_resetFields_mem _ _ _ wf.regs (entryFields_nodup k i) hmem, entryFields_reset k i _ hmem]
    rfl
  · rw [entryUsed, flag, getF_resetFields_other _ _ _ (entryFields_apart (by rw [hvalid]; omega) (show 31 < 32 by decide))]
    exact h.resolve_left hsame

/-- The entries of memory `m`'s table that `l` names, emptied. -/
def emptyEntries (m : Nat) (l : List Nat) (s : State) : State := l.foldl (fun t i => resetFields (entryFields m i) t) s

theorem emptyEntries_moves (m : Nat) (l : List Nat) (s : State) : Moves 0x2 s (emptyEntries m l s) :=
  moves_foldl moves_refl fun _ _ h => moves_step (resetFields_moves ..) rfl h

theorem clearTable_eq (m : Nat) (s : State) : clearTable m s = setF (F.MEM.TABLE_FILL m) 0 (emptyEntries m entryNumbers s) := rfl

theorem emptyEntries_unused {l : List Nat} {k i : Nat} (wf : WellKept s) (hl : ∀ x ∈ l, x < 32) (hi : i < 32)
    (h : (k = m ∧ i ∈ l) ∨ entryUsed s k i = false) : entryUsed (emptyEntries m l s) k i = false := by
  induction l generalizing s with
  | nil => exact h.resolve_left (by simp)
  | cons x xs ih =>
    refine ih ((resetFields_moves ..).form wf) (fun y hy => hl y (by simp [hy])) ?_
    by_cases hmore : k = m ∧ i ∈ xs
    · exact Or.inl hmore
    · refine Or.inr (entryReset_keeps_unused wf (h.imp_left fun ⟨hk, hmem⟩ => ⟨hk, ?_⟩) hi (hl x (by simp)))
      exact (List.mem_cons.1 hmem).resolve_right fun hxs => hmore ⟨hk, hxs⟩

theorem emptyEntries_keeps {l : List Nat} {f : Field} (hl : ∀ x ∈ l, x < 32)
    (haddr : f.addr < 0x1301000 + 0x200 * m ∨ 0x1301200 + 0x200 * m ≤ f.addr) (hlsb : f.lsb < 32) :
    getF (emptyEntries m l s) f = getF s f := by
  induction l generalizing s with
  | nil => rfl
  | cons x xs ih =>
    have hx := hl x (by simp)
    exact (ih fun y hy => hl y (by simp [hy])).trans
      (getF_resetFields_other _ _ _ (entryFields_apart (by omega) hlsb))

theorem entryNumbers_lt : ∀ x ∈ entryNumbers, x < 32 := fun _ hx => List.mem_range.1 hx

theorem clearTable_keeps {f : Field} (haddr : f.addr < 0x1301000 + 0x200 * m ∨ 0x1301200 + 0x200 * m ≤ f.addr)
    (hfill : fieldKey (F.MEM.TABLE_FILL m) ≠ fieldKey f) (hlsb : f.lsb < 32) : getF (clearTable m s) f = getF s f :=
  (getF_setF_other _ _ _ _ hfill).trans (emptyEntries_keeps entryNumbers_lt haddr hlsb)

theorem fill_below_tables {k i : Nat} (_ : m < 9) : fieldKey (F.MEM.TABLE_FILL m) ≠ fieldKey (F.MEM.ENT_INFO_VALID k i) ∧
    fieldKey (F.MEM.TABLE_FILL m) ≠ fieldKey (F.MEM.ENT_ADDR_LO k i) ∧ fieldKey (F.MEM.TABLE_FILL m) ≠ fieldKey (F.MEM.ENT_ADDR_HI k i) := by
  simp only [fieldKey, F.MEM.TABLE_FILL, F.MEM.ENT_INFO_VALID, F.MEM.ENT_ADDR_LO, F.MEM.ENT_ADDR_HI]
  omega

theorem clearTable_unused {k i : Nat} (hm : m < 9) (wf : WellKept s) (hi : i < 32) (h : k = m ∨ entryUsed s k i = false) :
    entryUsed (clearTable m s) k i = false := by
  have hfill : entryUsed (clearTable m s) k i = entryUsed (emptyEntries m entryNumbers s) k i := by
    rw [entryUsed, entryUsed, flag, flag, clearTable_eq, getF_setF_other _ _ _ _ (fill_below_tables hm).1]
  have hmem : i ∈ entryNumbers := List.mem_range.2 hi
  rw [hfill]
  exact emptyEntries_unused wf entryNumbers_lt hi (h.imp_left fun hk => ⟨hk, hmem⟩)

theorem clearTable_others {k i : Nat} (hm : m < 9) (hi : i < 32) (hk : k ≠ m) :
    entryUsed (clearTable m s) k i = entryUsed s k i ∧ entryAddr (clearTable m s) k i = entryAddr s k i := by
  obtain ⟨hvalid, hlo, hhi⟩ := fill_below_tables (k := k) (i := i) hm
  have hkeep := fun (f : Field) haddr hfill hlsb => clearTable_keeps (s := s) (m := m) (f := f) haddr hfill hlsb
  refine ⟨?_, ?_⟩
  · rw [entryUsed, entryUsed, flag, flag, hkeep _ (by simp only [F.MEM.ENT_INFO_VALID]; omega) hvalid (show 31 < 32 by decide)]
  · rw [entryAddr, entryAddr, hkeep _ (by simp only [F.MEM.ENT_ADDR_LO]; omega) hlo (show 0 < 32 by decide),
      hkeep _ (by simp only [F.MEM.ENT_ADDR_HI]; omega) hhi (show 0 < 32 by decide)]

theorem clearTables_unused {l : List Nat} {k i : Nat} (hl : ∀ x ∈ l, x < 9) (wf : WellKept s) (hi : i < 32)
    (h : k ∈ l ∨ entryUsed s k i = false) : entryUsed (l.foldl (fun x m => clearTable m x) s) k i = false := by
  induction l generalizing s with
  | nil => simpa using h
  | cons x xs ih =>
    rw [List.foldl_cons]
    refine ih (fun y hy => hl y (by simp [hy])) ((clearTable_moves ..).form wf) ?_
    by_cases hmore : k ∈ xs
    · exact Or.inl hmore
    · exact Or.inr (clearTable_unused (hl x (by simp)) wf hi (h.imp_left fun hk => (List.mem_cons.1 hk).resolve_right hmore))

theorem clearTables_moves (l : List Nat) (s : State) : Moves 0x2 s (l.foldl (fun x m => clearTable m x) s) :=
  moves_foldl moves_refl fun _ _ h => moves_step (clearTable_moves ..) rfl h

/-! ### CLEAR_TABLE and SET_SCRUB -/

variable {c : Caller}

/-- The answer of a MEM command. -/
def memAnswer (op : Nat) (r : Reply) (s : State) : State := showResult 19 op r s

theorem memAnswer_moves (op : Nat) (r : Reply) (s : State) : Moves 0x2 s (memAnswer op r s) := showResult_moves ..

theorem memAnswer_onlyFields (op : Nat) (r : Reply) (s : State) :
    OnlyFields [F.MEM.CMD_RESULT_OPCODE, F.MEM.CMD_RESULT_RESULT] s (memAnswer op r s) :=
  showResult_onlyFields rfl (by decide) (by decide)

theorem memAnswer_result {op : Nat} {r : Reply} (hr : r.result < 256) (wf : WellKept s) :
    getF (memAnswer op r s) F.MEM.CMD_RESULT_RESULT = r.result := getF_showResult rfl (by decide) (by decide) hr wf.regs

theorem getF_memAnswer {op : Nat} {r : Reply} {f : Field} (h : 0x1300100 ≤ f.addr) : getF (memAnswer op r s) f = getF s f := by
  refine memAnswer_onlyFields op r s f ?_
  simp only [List.forall_mem_cons, fieldKey, F.MEM.CMD_RESULT_OPCODE, F.MEM.CMD_RESULT_RESULT]
  exact ⟨by omega, by omega, by simp⟩

theorem memPresent_touchSession (c : Caller) (m : Nat) : memPresent (touchSession c s) m = memPresent s m := by
  have hjug : ∀ k, bitF (touchSession c s) F.JUG.CLUSTERS_PRESENT k = bitF s F.JUG.CLUSTERS_PRESENT k := fun k => by
    rw [bitF, bitF, getF_touchSession_below c (by decide) (by decide)]
  simp only [memPresent, hjug, present_touchSession]

theorem exec_clearTable_all (h : Admitted c [roleEngineer] s) (hlegal : memLegal s = true) :
    exec (.clearTable c 0xFF 0) s = .next (memAnswer 1 { result := resOk, ret := 0 }
      ((List.range 9).foldl (fun x k => clearTable k x) (touchSession c s))) := by
  show execClearTable c 0xFF 0 s = _
  rw [execClearTable, cmdClearTable, hlegal, runCommand_ok h (if_neg (by decide))]
  rfl

theorem clearTable_all_shows (h : Admitted c [roleEngineer] s) (hlegal : memLegal s = true) (wf : WellKept s) :
    ∃ t, exec (.clearTable c 0xFF 0) s = .next t ∧ (∀ k i, k ≤ 8 → i < 32 → entryUsed t k i = false) ∧
      getF t F.MEM.CMD_RESULT_RESULT = resOk ∧ OnlyParts [.regs, .sec] s t := by
  have wf1 : WellKept (touchSession c s) := (touchSession_moves c s).form wf
  have hclear := clearTables_moves (List.range 9) (touchSession c s)
  refine ⟨_, exec_clearTable_all h hlegal, fun k i hk hi => ?_, memAnswer_result (by decide) (hclear.form wf1),
    onlyParts_of_moves s _ (moves_step (memAnswer_moves ..) rfl (moves_step hclear rfl (touchSession_moves c s)) : Moves 0x800002 s _) rfl⟩
  have hkept : entryUsed (memAnswer 1 { result := resOk, ret := 0 } ((List.range 9).foldl (fun x k => clearTable k x) (touchSession c s))) k i =
      entryUsed ((List.range 9).foldl (fun x k => clearTable k x) (touchSession c s)) k i := by
    rw [entryUsed, entryUsed, flag, flag, getF_memAnswer (by simp only [F.MEM.ENT_INFO_VALID]; omega)]
  have hmem : k ∈ List.range 9 := List.mem_range.2 (by omega)
  exact hkept.trans (clearTables_unused (fun x hx => List.mem_range.1 hx) wf1 hi (Or.inl hmem))

theorem exec_clearTable_one (h : Admitted c [roleEngineer] s) (hlegal : memLegal s = true) (hm : m < 9) (hpresent : memPresent s m = true) :
    exec (.clearTable c m 0) s = .next (memAnswer 1 { result := resOk, ret := 0 } (clearTable m (touchSession c s))) := by
  show execClearTable c m 0 s = _
  rw [execClearTable, cmdClearTable, hlegal, runCommand_ok h ?_]
  · rfl
  · rw [memPresent_touchSession, hpresent, if_neg (by simp; omega), if_neg (by omega)]
    rfl

theorem clearTable_one_shows (h : Admitted c [roleEngineer] s) (hlegal : memLegal s = true) (hm : m < 9) (hpresent : memPresent s m = true)
    (wf : WellKept s) :
    ∃ t, exec (.clearTable c m 0) s = .next t ∧ getF t (F.MEM.TABLE_FILL m) = 0 ∧ (∀ i, i < 32 → entryUsed t m i = false) ∧
      (∀ k i, k ≤ 8 → i < 32 → k ≠ m → entryUsed t k i = entryUsed s k i ∧ entryAddr t k i = entryAddr s k i) ∧
      getF t F.MEM.CMD_RESULT_RESULT = resOk ∧ OnlyParts [.regs, .sec] s t := by
  have wf1 : WellKept (touchSession c s) := (touchSession_moves c s).form wf
  have hclear := clearTable_moves m (touchSession c s)
  have hentry : ∀ k i, entryUsed (memAnswer 1 { result := resOk, ret := 0 } (clearTable m (touchSession c s))) k i =
        entryUsed (clearTable m (touchSession c s)) k i ∧
      entryAddr (memAnswer 1 { result := resOk, ret := 0 } (clearTable m (touchSession c s))) k i =
        entryAddr (clearTable m (touchSession c s)) k i := fun k i => by
    refine ⟨?_, ?_⟩
    · rw [entryUsed, entryUsed, flag, flag, getF_memAnswer (by simp only [F.MEM.ENT_INFO_VALID]; omega)]
    · rw [entryAddr, entryAddr, getF_memAnswer (by simp only [F.MEM.ENT_ADDR_LO]; omega), getF_memAnswer (by simp only [F.MEM.ENT_ADDR_HI]; omega)]
  refine ⟨_, exec_clearTable_one h hlegal hm hpresent, ?_, fun i hi => ?_, fun k i hk hi hne => ?_,
    memAnswer_result (by decide) (hclear.form wf1),
    onlyParts_of_moves s _ (moves_step (memAnswer_moves ..) rfl (moves_step hclear rfl (touchSession_moves c s)) : Moves 0x800002 s _) rfl⟩
  · rw [getF_memAnswer (by simp only [F.MEM.TABLE_FILL]; omega), clearTable_eq]
    exact getF_setF_lt ((emptyEntries_moves ..).form wf1).regs (show 0 < 2 ^ 32 by decide)
  · rw [(hentry m i).1]
    exact clearTable_unused hm wf1 hi (Or.inl rfl)
  · obtain ⟨hused, haddr⟩ := clearTable_others (s := touchSession c s) hm hi hne
    have htouch : ∀ f : Field, f.addr < 0x1500000 → f.lsb < 32 → getF (touchSession c s) f = getF s f := fun f hf hlsb =>
      getF_touchSession_below c hf hlsb s
    rw [(hentry k i).1, (hentry k i).2, hused, haddr, entryUsed, entryUsed, flag, flag, entryAddr, entryAddr,
      htouch _ (by simp only [F.MEM.ENT_INFO_VALID]; omega) (show 31 < 32 by decide),
      htouch _ (by simp only [F.MEM.ENT_ADDR_LO]; omega) (show 0 < 32 by decide),
      htouch _ (by simp only [F.MEM.ENT_ADDR_HI]; omega) (show 0 < 32 by decide)]
    exact ⟨rfl, rfl⟩

/-- A MEM command that its own checks refuse, as it leaves the state. -/
def memRefused (op e a0 : Nat) (c : Caller) (s : State) : State :=
  memAnswer op { result := e } (emit (19 * 256 + 0xFF) op e a0 (touchSession c s))

theorem memRefused_moves (op e a0 : Nat) (c : Caller) (s : State) : Moves 0xa00002 s (memRefused op e a0 c s) :=
  moves_step (memAnswer_moves ..) rfl (moves_step (emit_moves ..) rfl (moves_step (touchSession_moves c s) rfl moves_refl))

theorem memRefused_result {op e a0 : Nat} (he : e < 256) (wf : WellKept s) : getF (memRefused op e a0 c s) F.MEM.CMD_RESULT_RESULT = e :=
  memAnswer_result he ((emit_moves ..).form ((touchSession_moves c s).form wf))

theorem exec_clearTable_absent (h : Admitted c [roleEngineer] s) (hlegal : memLegal s = true) (hm : m < 9) (hpresent : memPresent s m = false) :
    exec (.clearTable c m 0) s = .next (memRefused 1 resUnitAbsent m c s) := by
  show execClearTable c m 0 s = _
  rw [execClearTable, cmdClearTable, hlegal, runCommand_error (by decide) h ((if_pos rfl).trans ?_)]
  · rfl
  · rw [memPresent_touchSession, hpresent, if_neg (by simp; omega), if_neg (by omega)]
    rfl

/-- The checks of SET_SCRUB. -/
def scrubAnswer (m n : Nat) (t : State) : Body :=
  if !memPresent t m then .error resUnitAbsent
  else if n < (scrubRange m).1 || n > (scrubRange m).2 then .error resBadArgument
  else .ok (setF (F.MEM.SCRUB_PERIOD m) n t, resOk, 0)

theorem execSetScrub_eq {n : Nat} (hm : m < 9) (hlegal : memLegal s = true) :
    exec (.setScrub c m n) s = .next (runCommand 19 0x02 c m (some [roleEngineer]) true (scrubAnswer m n) s).1 := by
  show execSetScrub c m n s = _
  have hchecks : (fun t => if m > 8 then Except.error resBadArgument else scrubAnswer m n t) = scrubAnswer m n :=
    funext fun t => if_neg (by omega)
  rw [execSetScrub, cmdSetScrub, hlegal, ← hchecks]
  rfl

theorem exec_setScrub_taken {n : Nat} (h : Admitted c [roleEngineer] s) (hlegal : memLegal s = true) (hm : m < 9)
    (hpresent : memPresent s m = true) (hlow : (scrubRange m).1 ≤ n) (hhigh : n ≤ (scrubRange m).2) :
    exec (.setScrub c m n) s =
      .next (memAnswer 2 { result := resOk, ret := 0 } (setF (F.MEM.SCRUB_PERIOD m) n (touchSession c s))) := by
  rw [execSetScrub_eq hm hlegal, runCommand_ok h ?_]
  · rfl
  · rw [scrubAnswer, memPresent_touchSession, hpresent, if_neg (by simp), if_neg (by simp; omega)]

theorem exec_setScrub_range {n : Nat} (h : Admitted c [roleEngineer] s) (hlegal : memLegal s = true) (hm : m < 9)
    (hpresent : memPresent s m = true) (hn : n < (scrubRange m).1 ∨ (scrubRange m).2 < n) :
    exec (.setScrub c m n) s = .next (memRefused 2 resBadArgument m c s) := by
  rw [execSetScrub_eq hm hlegal, runCommand_error (by decide) h ((if_pos rfl).trans ?_)]
  · rfl
  · rw [scrubAnswer, memPresent_touchSession, hpresent, if_neg (by simp), if_pos (by simpa using hn)]

theorem exec_setScrub_absent {n : Nat} (h : Admitted c [roleEngineer] s) (hlegal : memLegal s = true) (hm : m < 9)
    (hpresent : memPresent s m = false) : exec (.setScrub c m n) s = .next (memRefused 2 resUnitAbsent m c s) := by
  rw [execSetScrub_eq hm hlegal, runCommand_error (by decide) h ((if_pos rfl).trans ?_)]
  · rfl
  · rw [scrubAnswer, memPresent_touchSession, hpresent, if_pos (by simp)]

theorem scrubRange_lt (m : Nat) : (scrubRange m).2 < 2 ^ 32 := by
  unfold scrubRange
  split
  · decide
  · split <;> decide

theorem setScrub_taken_shows {n : Nat} (h : Admitted c [roleEngineer] s) (hlegal : memLegal s = true) (hm : m < 9)
    (hpresent : memPresent s m = true) (hlow : (scrubRange m).1 ≤ n) (hhigh : n ≤ (scrubRange m).2) (wf : WellKept s) :
    ∃ t, exec (.setScrub c m n) s = .next t ∧ getF t (F.MEM.SCRUB_PERIOD m) = n ∧ getF t F.MEM.CMD_RESULT_RESULT = resOk ∧
      OnlyParts [.regs, .sec] s t := by
  have wf1 : WellKept (touchSession c s) := (touchSession_moves c s).form wf
  refine ⟨_, exec_setScrub_taken h hlegal hm hpresent hlow hhigh, ?_, memAnswer_result (by decide) ((setF_moves ..).form wf1),
    onlyParts_of_moves s _ (moves_step (memAnswer_moves ..) rfl (moves_step (setF_moves ..) rfl (touchSession_moves c s)) : Moves 0x800002 s _)
      rfl⟩
  rw [getF_memAnswer (by simp only [F.MEM.SCRUB_PERIOD]; omega)]
  exact getF_setF_lt wf1.regs (Nat.lt_of_le_of_lt hhigh (scrubRange_lt m))

theorem setScrub_range_shows {n : Nat} (h : Admitted c [roleEngineer] s) (hlegal : memLegal s = true) (hm : m < 9)
    (hpresent : memPresent s m = true) (hn : n < (scrubRange m).1 ∨ (scrubRange m).2 < n) (wf : WellKept s) :
    ∃ t, exec (.setScrub c m n) s = .next t ∧ getF t (F.MEM.SCRUB_PERIOD m) = getF s (F.MEM.SCRUB_PERIOD m) ∧
      getF t F.MEM.CMD_RESULT_RESULT = resBadArgument := by
  refine ⟨_, exec_setScrub_range h hlegal hm hpresent hn, ?_, memRefused_result (by decide) wf⟩
  rw [memRefused, getF_memAnswer (by simp only [F.MEM.SCRUB_PERIOD]; omega), getF_emit,
    getF_touchSession_below c (by simp only [F.MEM.SCRUB_PERIOD]; omega) (show 0 < 32 by decide)]

end Sys2Proof.Machine
end

section
/-! The statement about memory errors and clock crossings. -/

namespace Sys2Proof.Certificates

open Sys2Proof Sys2Proof.Machine

/-- Settles O55: an error goes through one count, one flag and one table entry before the walk goes on; a stall is one bit with its
points; and MEM's two commands run their own checks in order. -/
theorem memoryErrorsAndCrossings : Obligations.MemoryErrorsAndCrossings := by
  unfold Obligations.MemoryErrorsAndCrossings
  intro s wf
  refine ⟨fun m req hlen => ⟨fun hoff _ => exec_scrubRead_off hoff, fun hscrubs => ?_, fun bits spare hscrubs hplace => ?_,
    fun o hscrubs hquiet => ?_, fun u v hscrubs => ?_⟩, fun g hg => ⟨fun hreleased hdead hfree hdue => ?_, exec_crossingStalled_off,
    fun n hstall ha hb => crossingResumed_shows n hg hstall ha hb wf, fun n hfree => exec_crossingResumed_off n hfree⟩,
    fun c h hlegal => clearTable_all_shows h hlegal wf, fun c m h hlegal hm => ⟨fun hpresent => ⟨?_, ?_, ?_⟩, fun habsent n => ⟨?_, ?_⟩⟩⟩
  · obtain ⟨t, hexec, ⟨hplace, hpasses⟩, hcount, hparts⟩ := scrubRead_clean (req := req) hscrubs hlen wf
    exact ⟨t, hexec, ⟨hplace, hpasses⟩, hcount, hparts⟩
  · obtain ⟨t, hexec, ⟨hat, hpasses⟩, hcount, hany, hparts, htable⟩ := scrubRead_correctable (bits := bits) (spare := spare) (req := req)
      hscrubs hlen hplace wf
    exact ⟨t, hexec, ⟨hat, hpasses⟩, hcount, hany, hparts, htable⟩
  · obtain ⟨t, hexec, ⟨hat, hpasses⟩, hany, hcount, hcurtain, hparts⟩ := scrubRead_unread hscrubs hquiet hlen wf
    exact ⟨t, hexec, ⟨hat, hpasses⟩, hany, hcount, hcurtain, hparts⟩
  · obtain ⟨t, hexec, ⟨hat, hpasses⟩, hany, hforce, hcurtain⟩ := scrubRead_read (u := u) (v := v) hscrubs hlen wf
    exact ⟨t, hexec, ⟨hat, hpasses⟩, hany, hforce, hcurtain⟩
  · exact crossingStalled_shows hg hreleased hdead hfree hdue wf
  · exact clearTable_one_shows h hlegal (Nat.lt_succ_of_le hm) hpresent wf
  · exact fun n hlow hhigh => setScrub_taken_shows h hlegal (Nat.lt_succ_of_le hm) hpresent hlow hhigh wf
  · exact fun n hn => setScrub_range_shows h hlegal (Nat.lt_succ_of_le hm) hpresent hn wf
  · exact ⟨_, exec_clearTable_absent h hlegal (Nat.lt_succ_of_le hm) habsent, memRefused_result (by decide) wf,
      onlyParts_of_moves s _ (memRefused_moves ..) rfl⟩
  · exact ⟨_, exec_setScrub_absent h hlegal (Nat.lt_succ_of_le hm) habsent, memRefused_result (by decide) wf,
      onlyParts_of_moves s _ (memRefused_moves ..) rfl⟩

end Sys2Proof.Certificates
end

section
/-! SUPPORT. What the handing over and the numbering of records leave of CONT (R456 to R466): the persistent ring, its last flush and the
reads stand, and records are only added to those that wait. -/

namespace Sys2Proof.Machine

open Sys2Proof

variable {s t u : State}

/-- CONT's persistent ring, its last flush and its reads stand, and the FIFO has only been added to. -/
structure ContKept (s t : State) : Prop where
  arrivals : ∃ l, t.cont.arrivals = s.cont.arrivals ++ l
  persistent : t.cont.persistent = s.cont.persistent
  lastFlush : t.cont.lastFlushNs = s.cont.lastFlushNs
  reads : t.cont.reads = s.cont.reads

theorem contKept_refl : ContKept s s := ⟨⟨[], (List.append_nil _).symm⟩, rfl, rfl, rfl⟩

theorem contKept_trans (h1 : ContKept s t) (h2 : ContKept t u) : ContKept s u := by
  obtain ⟨⟨l1, ha1⟩, hp1, hf1, hr1⟩ := h1
  obtain ⟨⟨l2, ha2⟩, hp2, hf2, hr2⟩ := h2
  exact ⟨⟨l1 ++ l2, by rw [ha2, ha1, List.append_assoc]⟩, hp2.trans hp1, hf2.trans hf1, hr2.trans hr1⟩

theorem contKept_of_cont (h : t.cont = s.cont) : ContKept s t := by
  refine ⟨⟨[], ?_⟩, ?_, ?_, ?_⟩ <;> rw [h]
  rw [List.append_nil]

theorem contKept_of_moves {m : Nat} (h : Moves m s t) (hm : m.testBit 21 = false) : ContKept s t := contKept_of_cont (h.frame .cont hm)

theorem contKept_setF {f : Field} {v : Nat} (h : ContKept s t) : ContKept s (setF f v t) := contKept_trans h (contKept_of_cont rfl)

theorem contKept_bumpF {f : Field} {k : Nat} (h : ContKept s t) : ContKept s (bumpF f k t) := contKept_trans h (contKept_of_cont rfl)

theorem contKept_emit {code w1 w2 w3 : Nat} (h : ContKept s t) : ContKept s (emit code w1 w2 w3 t) := by
  refine contKept_trans h ?_
  unfold emit emitAt
  split
  · exact ⟨⟨_, rfl⟩, rfl, rfl, rfl⟩
  · exact contKept_refl

theorem contKept_ite {c : Prop} [Decidable c] (h1 : ContKept u s) (h2 : ContKept u t) : ContKept u (if c then s else t) := by
  split <;> assumption

theorem contKept_foldl {α : Type} {l : List α} {f : State → α → State} (hf : ∀ x ∈ l, ∀ v, ContKept v (f v x)) :
    ContKept s (l.foldl f s) := by
  induction l generalizing s with
  | nil => exact contKept_refl
  | cons x l ih =>
    rw [List.forall_mem_cons] at hf
    exact contKept_trans (hf.1 s) (ih hf.2)

theorem contKept_putHost (x : HostPart) (s : State) : ContKept s { s with host := x } := contKept_of_cont rfl

theorem contKept_putTxn (x : TxnPart) (s : State) : ContKept s { s with txn := x } := contKept_of_cont rfl

theorem contKept_putBoe (x : BoePart) (s : State) : ContKept s { s with boe := x } := contKept_of_cont rfl

theorem contKept_putDev (x : DevPart) (s : State) : ContKept s { s with dev := x } := contKept_of_cont rfl

theorem contKept_raiseCause (c : Nat) (s : State) : ContKept s (raiseCause c s) := contKept_of_moves (raiseCause_moves ..) rfl

theorem contKept_setHealth (u v : Nat) (s : State) : ContKept s (setHealth u v s) := contKept_of_moves (setHealth_moves ..) rfl

theorem contKept_stageEntry (r typ length stamp : Nat) (body : List Nat) (s : State) : ContKept s (stageEntry r typ length stamp body s) := by
  unfold stageEntry
  extract_lets idx s1 q s2 first
  have h1 : ContKept s s1 := contKept_setF contKept_refl
  have h2 : ContKept s s2 := contKept_bumpF h1
  exact contKept_ite contKept_refl (contKept_ite (contKept_emit (contKept_trans h2 (contKept_of_cont rfl)))
    (contKept_trans h1 (contKept_of_cont rfl)))

/-! ### Numbering (R458 to R463) -/

theorem contKept_writeVolatile (r : Rec) (s : State) : ContKept s (writeVolatile r s) := by
  unfold writeVolatile
  extract_lets c un ring ring' lost s1 s2
  have h1 : ContKept s s1 := ⟨⟨[], (List.append_nil _).symm⟩, rfl, rfl, rfl⟩
  exact contKept_trans (contKept_ite (contKept_bumpF h1) (contKept_setF h1)) (contKept_stageEntry ..)

theorem contKept_dropRecord (s : State) : ContKept s (dropRecord s) := contKept_bumpF contKept_refl

theorem contKept_numberRecord (r : Rec) (s : State) : ContKept s (numberRecord r s) := by
  unfold numberRecord
  extract_lets seq x
  have hfull : ContKept s (setF F.CONT.STATUS_EXHAUSTED 1 (writeVolatile x s)) := contKept_setF (contKept_writeVolatile x s)
  exact contKept_ite (contKept_dropRecord s) (contKept_ite
    (contKept_trans (contKept_trans hfull (contKept_setHealth ..)) (contKept_dropRecord _))
    (contKept_trans (contKept_setF contKept_refl) (contKept_writeVolatile ..)))

theorem contKept_writeSummary (code : Nat) (s : State) : ContKept s (writeSummary code s) := by
  unfold writeSummary
  extract_lets n x r s1
  have h1 : ContKept s s1 := contKept_numberRecord r s
  exact contKept_ite contKept_refl (contKept_setF ⟨h1.arrivals, h1.persistent, h1.lastFlush, h1.reads⟩)

theorem contKept_startFlush (trigger : Nat) (s : State) : ContKept s (startFlush trigger s) := by
  unfold startFlush
  extract_lets s1
  have h1 : ContKept s s1 := contKept_foldl fun c _ v => contKept_writeSummary c v
  exact contKept_setF ⟨h1.arrivals, h1.persistent, h1.lastFlush, h1.reads⟩

theorem contKept_triggerFlush (trigger : Nat) (s : State) : ContKept s (triggerFlush trigger s) :=
  contKept_ite ⟨⟨[], (List.append_nil _).symm⟩, rfl, rfl, rfl⟩ (contKept_startFlush trigger s)

theorem contKept_fillTriggers (s : State) : ContKept s (fillTriggers s) :=
  contKept_ite (contKept_triggerFlush ..) (contKept_ite (contKept_triggerFlush ..) contKept_refl)

theorem contKept_refreshCap (s : State) : ContKept s (refreshCap s) := by
  unfold refreshCap
  extract_lets k
  exact contKept_ite contKept_refl ⟨⟨[], (List.append_nil _).symm⟩, rfl, rfl, rfl⟩

theorem contKept_setBucket (code tokens : Nat) (s : State) : ContKept s (setBucket code tokens s) :=
  ⟨⟨[], (List.append_nil _).symm⟩, rfl, rfl, rfl⟩

theorem contKept_suppressRecord (a : Arrival) (s : State) : ContKept s (suppressRecord a s) :=
  contKept_bumpF (contKept_bumpF ⟨⟨[], (List.append_nil _).symm⟩, rfl, rfl, rfl⟩)

theorem contKept_dropAtCap (s : State) : ContKept s (dropAtCap s) := by
  refine contKept_trans (contKept_ite contKept_refl (contKept_setF ?_)) (contKept_dropRecord _)
  exact ⟨⟨[], (List.append_nil _).symm⟩, rfl, rfl, rfl⟩

theorem contKept_admitRecord (a : Arrival) (s : State) : ContKept s (admitRecord a s) := by
  unfold admitRecord
  extract_lets s0 r tokens s1 c1 s2
  have h0 : ContKept s s0 := contKept_refreshCap s
  have h1 : ContKept s s1 := contKept_trans h0 (contKept_setBucket ..)
  have h2 : ContKept s s2 := ⟨h1.arrivals, h1.persistent, h1.lastFlush, h1.reads⟩
  exact contKept_ite (contKept_trans (contKept_trans h0 (contKept_numberRecord ..)) (contKept_fillTriggers _))
    (contKept_ite (contKept_trans (contKept_trans h0 (contKept_setBucket ..)) (contKept_suppressRecord ..))
      (contKept_ite (contKept_trans h1 (contKept_dropAtCap s1))
        (contKept_trans (contKept_trans (contKept_trans h2 (contKept_writeSummary ..)) (contKept_numberRecord ..)) (contKept_fillTriggers _))))

/-! ### Errors in memories (R437, R438) -/

theorem contKept_memDegraded (s : State) : ContKept s (memDegraded s) := contKept_of_moves (memDegraded_moves s) rfl

theorem contKept_logAddress (m addr : Nat) (ue : Bool) (s : State) : ContKept s (logAddress m addr ue s) := by
  have hwrite : ∀ i, ContKept s (writeEntry m i addr ue s) := fun i => by
    unfold writeEntry
    extract_lets fresh s1 s2
    have h1 : ContKept s s1 := contKept_of_cont rfl
    have h2 : ContKept s s2 := contKept_ite (contKept_bumpF h1) h1
    exact contKept_ite h2 (contKept_emit h2)
  have hcount : ∀ i, ContKept s (countEntry m i addr ue s) := fun i => by
    unfold countEntry
    extract_lets s1 s2
    have h1 : ContKept s s1 := contKept_of_cont rfl
    have h2 : ContKept s s2 := contKept_ite (contKept_setF h1) h1
    exact contKept_ite (contKept_trans (contKept_emit (contKept_setF h2)) (contKept_memDegraded _)) h2
  unfold logAddress
  split
  · exact hcount _
  · split
    · exact hwrite _
    · split
      · exact hwrite _
      · exact contKept_emit (contKept_bumpF contKept_refl)

theorem contKept_noteUe (m addr : Nat) (requester : Option Nat) (s : State) : ContKept s (noteUe m addr requester s) := by
  unfold noteUe
  extract_lets who s1 s2
  have h1 : ContKept s s1 := contKept_trans (contKept_setF (contKept_bumpF contKept_refl)) (contKept_logAddress ..)
  have h2 : ContKept s s2 := contKept_emit h1
  exact contKept_ite (contKept_trans h2 (contKept_memDegraded _)) h2

/-! ### Leaving LIVE (R43, R94) -/

theorem contKept_freeSlot (k : Nat) (s : State) : ContKept s (freeSlot k s) := contKept_of_moves (freeSlot_moves ..) rfl

theorem contKept_cutTake (k cause : Nat) (s : State) : ContKept s (cutTake k cause s) :=
  contKept_trans (contKept_emit contKept_refl) (contKept_freeSlot ..)

theorem contKept_showLog (s : State) : ContKept s (showLog s) := by
  have hfill : ContKept s (putLogFill s) := contKept_of_moves (putLogFill_moves s) rfl
  exact contKept_ite (contKept_emit hfill) hfill

theorem contKept_appendLog (e : LogEntry) (s : State) : ContKept s (appendLog e s) := by
  unfold appendLog
  extract_lets x
  exact contKept_trans (contKept_putTxn _ s) (contKept_showLog _)

theorem contKept_abandonAhead (s : State) : ContKept s (abandonAhead s) := by
  unfold abandonAhead
  split
  · exact contKept_trans (contKept_ite contKept_refl (contKept_appendLog _ s)) (contKept_of_moves (setAhead_moves ..) rfl)
  · exact contKept_refl

theorem contKept_takesLeaveLive (s : State) : ContKept s (takesLeaveLive s) :=
  contKept_trans (contKept_abandonAhead s) (contKept_foldl fun _ _ _ =>
    contKept_ite (contKept_cutTake ..) (contKept_ite (contKept_freeSlot ..) contKept_refl))

theorem contKept_commandDone (u op : Nat) (key : Option Nat) (result ret : Nat) (s : State) :
    ContKept s (commandDone u op key result ret s) := by
  unfold commandDone
  dsimp only
  have h1 : ContKept s (raiseCause 24 s) := contKept_raiseCause 24 s
  split
  · split
    · refine contKept_trans ?_ (contKept_stageEntry ..)
      exact contKept_trans h1 (contKept_putHost ..)
    · split
      · refine contKept_ite (contKept_trans ?_ (contKept_of_moves (sendResponse_moves ..) rfl)) ?_
        · exact contKept_trans h1 (contKept_putHost ..)
        · exact contKept_trans h1 (contKept_putHost ..)
      · exact contKept_trans h1 (contKept_putHost ..)
  · exact h1

theorem contKept_abortCal (s : State) : ContKept s (abortCal s) := by
  unfold abortCal
  split
  · exact contKept_refl
  · refine contKept_trans (contKept_emit (contKept_trans (contKept_setF (contKept_setF ?_)) (contKept_of_moves (clearCal_moves _) rfl)))
      (contKept_commandDone ..)
    exact contKept_trans (contKept_of_moves (drawFree_moves s) rfl) (contKept_putBoe ..)

theorem contKept_boeStop (s : State) : ContKept s (boeStop s) := by
  unfold boeStop
  extract_lets sets s1
  have h1 : ContKept s s1 := contKept_foldl fun _ _ _ => contKept_setF contKept_refl
  refine contKept_setF (contKept_trans ?_ (contKept_abortCal _))
  exact contKept_trans h1 (contKept_putBoe ..)

theorem contKept_endLiveWork (s : State) : ContKept s (endLiveWork s) := by
  unfold endLiveWork
  extract_lets s1 s2 s3 s4 s5
  have h2 : ContKept s s2 := contKept_setF (contKept_setF (contKept_setF (contKept_setF (contKept_setF (contKept_takesLeaveLive s)))))
  have hlrp : ContKept s (lrpOff (canStop (stnStop s2))) := contKept_trans (contKept_trans (contKept_trans h2
    (contKept_of_moves (stnStop_moves _) rfl)) (contKept_of_moves (canStop_moves _) rfl)) (contKept_of_moves (lrpOff_moves _) rfl)
  have h3 : ContKept s s3 := contKept_trans (contKept_trans hlrp (contKept_boeStop _)) (contKept_of_moves (botStop_moves _) rfl)
  have h4 : ContKept s s4 := contKept_trans (contKept_trans (contKept_trans h3 (contKept_of_moves (trpStop_moves _) rfl))
    (contKept_of_moves (carStop_moves _) rfl)) (contKept_of_moves (dropRound_moves _) rfl)
  clear_value s4
  have h5 : ContKept s s5 := contKept_setF (contKept_setF (contKept_setF h4))
  exact ⟨h5.arrivals, h5.persistent, h5.lastFlush, h5.reads⟩

theorem contKept_leaveLive (s : State) : ContKept s (leaveLive s) := by
  cases h : inState s .live
  case false =>
    rw [leaveLive, if_pos (by simp [h])]
    exact contKept_refl
  case true =>
    rw [leaveLive_eq s h]
    have hair : ContKept s (releaseAir (endLiveWork s)) := contKept_trans (contKept_endLiveWork s) (contKept_of_moves (releaseAir_moves _) rfl)
    have hhealth := contKept_trans (contKept_trans (contKept_trans hair (contKept_of_moves (clearFaulted_moves _) rfl))
      (contKept_setHealth 9 0 _)) (contKept_setHealth 19 0 _)
    exact contKept_trans (contKept_setF (contKept_trans hhealth (contKept_of_moves (setRole_moves 7 _) rfl)))
      (contKept_of_moves (supplyHealth_moves _) rfl)

theorem contKept_setState (d : DevState) (s : State) : ContKept s (setState d s) := by
  unfold setState
  split
  · exact contKept_refl
  · exact contKept_trans (contKept_emit (contKept_setF (contKept_putDev ..))) (contKept_raiseCause ..)

theorem contKept_enterFaultSafe (s : State) : ContKept s (enterFaultSafe s) := by
  unfold enterFaultSafe
  split
  · have hstate : ContKept s (setState .faultSafe (leaveLive s)) := contKept_trans (contKept_leaveLive s) (contKept_setState ..)
    generalize setState .faultSafe (leaveLive s) = v at hstate ⊢
    exact contKept_trans hstate (contKept_triggerFlush 2 v)
  · exact contKept_refl

end Sys2Proof.Machine
end

section
/-! SUPPORT. The recorder (R458 to R471): what numbering a record shows, what a flush copies, and the reads of persistent records. -/

namespace Sys2Proof.Machine

open Sys2Proof

variable {s t : State} {c : Caller}

/-! ### A record in the volatile ring (R458, R463) -/

theorem emit_ring (code w1 w2 w3 : Nat) (s : State) : (emit code w1 w2 w3 s).cont.volatileRing = s.cont.volatileRing := by
  unfold emit emitAt
  split <;> rfl

theorem emit_timerDue (code w1 w2 w3 : Nat) (s : State) : (emit code w1 w2 w3 s).cont.timerDue = s.cont.timerDue := by
  unfold emit emitAt
  split <;> rfl

/-- Staging an entry leaves the volatile ring and the timer's mark. -/
theorem stageEntry_ring (r typ length stamp : Nat) (body : List Nat) (s : State) :
    (stageEntry r typ length stamp body s).cont.volatileRing = s.cont.volatileRing ∧
      (stageEntry r typ length stamp body s).cont.timerDue = s.cont.timerDue := by
  unfold stageEntry
  extract_lets idx s1 q s2 first
  split
  · exact ⟨rfl, rfl⟩
  · split
    · exact ⟨emit_ring .., emit_timerDue ..⟩
    · exact ⟨rfl, rfl⟩

/-- The ring that a record has been put into, cut to its 65,536 places. -/
theorem getLast?_cut (l : List Rec) (r : Rec) :
    (if (l ++ [r]).length > 65536 then (l ++ [r]).drop ((l ++ [r]).length - 65536) else l ++ [r]).getLast? = some r := by
  split
  · next h => rw [List.getLast?_drop, if_neg (by omega), List.getLast?_append_of_ne_nil _ (by simp)]; rfl
  · simp

theorem writeVolatile_newest (r : Rec) (s : State) : (writeVolatile r s).cont.volatileRing.getLast? = some r := by
  unfold writeVolatile
  extract_lets c un ring ring' lost s1 s2
  rw [(stageEntry_ring 1 1 32 r.stamp (recWords r) s2).1]
  have h2 : s2.cont.volatileRing = ring' := by
    show (if un ≥ 65536 then _ else _ : State).cont.volatileRing = ring'
    split <;> rfl
  rw [h2]
  exact getLast?_cut c.volatileRing r

theorem writeVolatile_below (r : Rec) (hun : getF s F.CONT.VOL_UNPERSISTED < 65536) (wf : WellKept s) :
    getF (writeVolatile r s) F.CONT.VOL_UNPERSISTED = getF s F.CONT.VOL_UNPERSISTED + 1 ∧
      getF (writeVolatile r s) F.CONT.NEXT_SEQUENCE = getF s F.CONT.NEXT_SEQUENCE ∧
      (writeVolatile r s).cont.timerDue = s.cont.timerDue := by
  unfold writeVolatile
  extract_lets c un ring ring' lost s1 s2
  have h2 : s2 = setF F.CONT.VOL_UNPERSISTED (un + 1) s1 := if_neg (Nat.not_le.2 hun)
  have hstage := stageEntry_onlyFields 1 1 32 r.stamp (recWords r) s2
  refine ⟨?_, ?_, ?_⟩
  · rw [hstage _ (by decide), h2]
    exact getF_setF_lt wf.regs (show un + 1 < 2 ^ 32 by omega)
  · rw [hstage _ (by decide), h2]
    exact getF_setF_other _ _ _ _ (by decide)
  · rw [(stageEntry_ring ..).2, h2]
    rfl

theorem numberRecord_next (r : Rec) (hopen : flag s F.CONT.STATUS_EXHAUSTED = false) (hseq : getF s F.CONT.NEXT_SEQUENCE < 0xFFFFFFFF) :
    numberRecord r s = writeVolatile { r with seq := getF s F.CONT.NEXT_SEQUENCE, role := role s }
      (setF F.CONT.NEXT_SEQUENCE (getF s F.CONT.NEXT_SEQUENCE + 1) s) := by
  rw [numberRecord, if_neg (by simp [hopen])]
  exact if_neg (Nat.ne_of_lt hseq)

/-! ### Admission (R458 to R462) -/

/-- The record of an arrival, before its number. -/
def arrivalRec (a : Arrival) : Rec :=
  { stamp := a.stamp, code := a.code, payload := a.payload, replayed := a.replayed, gap := a.code == 0x1401 }

/-- From `s` to `t` only CONT's state beside its ring and its timer's mark may have changed. -/
structure RingKept (s t : State) : Prop where
  moves : Moves 0x200000 s t
  ring : t.cont.volatileRing = s.cont.volatileRing
  timerDue : t.cont.timerDue = s.cont.timerDue

theorem ringKept_getF (h : RingKept s t) (f : Field) : getF t f = getF s f := getF_congr s t f (h.moves.frame .regs rfl)

/-- A record numbered from a state whose registers, ring and timer's mark are those of `s`. -/
theorem fillTriggers_numbered (a : Arrival) (h : RingKept s t) (wf : WellKept s) (hopen : flag s F.CONT.STATUS_EXHAUSTED = false)
    (hseq : getF s F.CONT.NEXT_SEQUENCE < 0xFFFFFFFF) (hun : getF s F.CONT.VOL_UNPERSISTED < 49151) (htimer : s.cont.timerDue = false) :
    ∃ r, (fillTriggers (numberRecord (arrivalRec a) t)).cont.volatileRing.getLast? = some r ∧ r.code = a.code ∧ r.payload = a.payload ∧
      r.stamp = a.stamp ∧ r.seq = getF s F.CONT.NEXT_SEQUENCE ∧ r.role = role s ∧ r.summary = false ∧
      getF (fillTriggers (numberRecord (arrivalRec a) t)) F.CONT.NEXT_SEQUENCE = getF s F.CONT.NEXT_SEQUENCE + 1 ∧
      getF (fillTriggers (numberRecord (arrivalRec a) t)) F.CONT.VOL_UNPERSISTED = getF s F.CONT.VOL_UNPERSISTED + 1 := by
  have hregs := ringKept_getF h
  have hopen1 : flag t F.CONT.STATUS_EXHAUSTED = false := by
    rw [flag, hregs]
    exact hopen
  have hset : ∀ f, fieldKey F.CONT.NEXT_SEQUENCE ≠ fieldKey f →
      getF (setF F.CONT.NEXT_SEQUENCE (getF t F.CONT.NEXT_SEQUENCE + 1) t) f = getF s f := fun f hf =>
    (getF_setF_other _ _ _ _ hf).trans (hregs f)
  have hun1 := hset F.CONT.VOL_UNPERSISTED (by decide)
  obtain ⟨hcount, hnext, hmark⟩ := writeVolatile_below { arrivalRec a with seq := getF t F.CONT.NEXT_SEQUENCE, role := role t }
    (s := setF F.CONT.NEXT_SEQUENCE (getF t F.CONT.NEXT_SEQUENCE + 1) t) (by omega) ((setF_moves ..).form (h.moves.form wf))
  have hnewest := writeVolatile_newest { arrivalRec a with seq := getF t F.CONT.NEXT_SEQUENCE, role := role t }
    (setF F.CONT.NEXT_SEQUENCE (getF t F.CONT.NEXT_SEQUENCE + 1) t)
  have hquiet : fillTriggers (numberRecord (arrivalRec a) t) = numberRecord (arrivalRec a) t := by
    rw [numberRecord_next _ hopen1 (by rw [hregs]; exact hseq), fillTriggers, hcount, hmark, if_neg (by omega), if_neg]
    rw [show (setF F.CONT.NEXT_SEQUENCE (getF t F.CONT.NEXT_SEQUENCE + 1) t).cont.timerDue = false from h.timerDue.trans htimer]
    simp
  rw [hquiet, numberRecord_next _ hopen1 (by rw [hregs]; exact hseq)]
  refine ⟨_, hnewest, rfl, rfl, rfl, hregs _, hregs _, rfl, ?_, hcount.trans (congrArg (· + 1) hun1)⟩
  rw [hnext, getF_setF_lt (h.moves.form wf).regs (by rw [hregs]; show _ < 2 ^ 32; omega), hregs]

theorem ringKept_trans {u : State} (h1 : RingKept s t) (h2 : RingKept t u) : RingKept s u :=
  ⟨moves_step h2.moves rfl h1.moves, h2.ring.trans h1.ring, h2.timerDue.trans h1.timerDue⟩

/-- The arrivals that wait behind the one that is taken. -/
def arrivalTaken (rest : List Arrival) (s : State) : State := { s with cont := { s.cont with arrivals := rest } }

theorem ringKept_arrivalTaken (rest : List Arrival) (wf : WellKept s) : RingKept s (arrivalTaken rest s) :=
  ⟨moves_ring wf.volatileRing, rfl, rfl⟩

theorem ringKept_refreshCap (s : State) : RingKept s (refreshCap s) := by
  refine ⟨refreshCap_moves s, ?_, ?_⟩ <;>
  · unfold refreshCap
    extract_lets k
    split <;> rfl

theorem ringKept_setBucket (code tokens : Nat) (s : State) : RingKept s (setBucket code tokens s) :=
  ⟨setBucket_moves .., rfl, rfl⟩

/-- The cap's interval of now (R459). -/
def capNow (s : State) : Nat := if inState s .live = true then s.tick.number else now125 s

/-- The records that the cap has counted in the present interval. -/
def capTaken (s : State) : Nat := if s.cont.capInterval = capNow s then s.cont.capUsed else 0

theorem refreshCap_capUsed (s : State) : (refreshCap s).cont.capUsed = capTaken s := by
  rw [refreshCap, capTaken]
  dsimp only
  by_cases h : s.cont.capInterval = capNow s
  · rw [if_pos h]
    exact congrArg (fun v : State => v.cont.capUsed) (if_pos h)
  · rw [if_neg h]
    exact congrArg (fun v : State => v.cont.capUsed) (if_neg h)

theorem bucketTokens_refreshCap (code : Nat) (s : State) : bucketTokens (refreshCap s) code = bucketTokens s code := by
  unfold refreshCap
  extract_lets k
  split <;> rfl

/-- The state in which an arrival has been taken and the cap's interval is that of now. -/
def admitting (rest : List Arrival) (s : State) : State := refreshCap (arrivalTaken rest s)

theorem ringKept_admitting (rest : List Arrival) (wf : WellKept s) : RingKept s (admitting rest s) :=
  ringKept_trans (ringKept_arrivalTaken rest wf) (ringKept_refreshCap _)

theorem admitRecord_unlimited {a : Arrival} (h : unlimited a.code = true) :
    admitRecord a s = fillTriggers (numberRecord (arrivalRec a) (refreshCap s)) := by
  rw [admitRecord]
  exact if_pos h

/-- The token and the place under the cap that a limited record takes. -/
def recordCounted (a : Arrival) (s : State) : State :=
  let s1 := setBucket a.code (bucketTokens s a.code - 8000) s
  { s1 with cont := { s1.cont with capUsed := s1.cont.capUsed + 1 } }

theorem ringKept_recordCounted (a : Arrival) (wf : WellKept s) : RingKept s (recordCounted a s) :=
  ⟨moves_ring wf.volatileRing, rfl, rfl⟩

theorem admitRecord_limited {a : Arrival} (h : unlimited a.code = false) (htokens : 8000 ≤ bucketTokens (refreshCap s) a.code)
    (hcap : (refreshCap s).cont.capUsed < 1024) (hpending : getF (refreshCap s) (F.CONT.CODE_STATE_PENDING a.code) = 0) :
    admitRecord a s = fillTriggers (numberRecord (arrivalRec a) (recordCounted a (refreshCap s))) := by
  have hsummary : writeSummary a.code (recordCounted a (refreshCap s)) = recordCounted a (refreshCap s) := if_pos hpending
  rw [admitRecord, ← hsummary]
  exact (if_neg (by rw [h]; decide)).trans ((if_neg (Nat.not_lt.2 htokens)).trans (if_neg (Nat.not_le.2 hcap)))

theorem admitRecord_suppressed {a : Arrival} (h : unlimited a.code = false) (htokens : bucketTokens (refreshCap s) a.code < 8000) :
    admitRecord a s = suppressRecord a (setBucket a.code (bucketTokens (refreshCap s) a.code) (refreshCap s)) := by
  rw [admitRecord]
  exact (if_neg (by rw [h]; decide)).trans (if_pos htokens)

theorem exec_recordAdmit {a : Arrival} {rest : List Arrival} (h : nextArrival s = some (a, rest)) :
    exec (.recordAdmit none) s = .next (admitRecord a (arrivalTaken rest s)) := by
  show execRecordAdmit none s = _
  rw [execRecordAdmit]
  rw [admitNext, h]
  rfl

theorem exec_recordAdmit_empty (h : s.cont.arrivals = []) : exec (.recordAdmit none) s = .next s := by
  show execRecordAdmit none s = _
  have hnone : nextArrival s = none := by rw [nextArrival, h]
  rw [execRecordAdmit]
  rw [admitNext, hnone]

/-- A record that may be numbered goes through the recorder from a state with the registers, ring and timer's mark of before. -/
theorem admitRecord_numbers {a : Arrival} {rest : List Arrival} (wf : WellKept s)
    (h : unlimited a.code = true ∨
      (8000 ≤ bucketTokens s a.code ∧ capTaken s < 1024 ∧ getF s (F.CONT.CODE_STATE_PENDING a.code) = 0)) :
    ∃ v, RingKept s v ∧ admitRecord a (arrivalTaken rest s) = fillTriggers (numberRecord (arrivalRec a) v) := by
  have hkept := ringKept_admitting rest wf
  by_cases hunlimited : unlimited a.code = true
  · exact ⟨_, hkept, admitRecord_unlimited hunlimited⟩
  · obtain ⟨htokens, hcap, hpending⟩ := h.resolve_left hunlimited
    refine ⟨_, ringKept_trans hkept (ringKept_recordCounted a (hkept.moves.form wf)), admitRecord_limited (by simpa using hunlimited) ?_ ?_ ?_⟩
    · rw [bucketTokens_refreshCap]
      exact htokens
    · rw [refreshCap_capUsed]
      exact hcap
    · exact (ringKept_getF hkept _).trans hpending

theorem recordAdmit_numbered {a : Arrival} {rest : List Arrival} (hnext : nextArrival s = some (a, rest))
    (hopen : flag s F.CONT.STATUS_EXHAUSTED = false) (hseq : getF s F.CONT.NEXT_SEQUENCE < 0xFFFFFFFF)
    (h : unlimited a.code = true ∨
      (8000 ≤ bucketTokens s a.code ∧ capTaken s < 1024 ∧ getF s (F.CONT.CODE_STATE_PENDING a.code) = 0))
    (hun : getF s F.CONT.VOL_UNPERSISTED < 49151) (htimer : s.cont.timerDue = false) (wf : WellKept s) :
    ∃ t r, exec (.recordAdmit none) s = .next t ∧ t.cont.volatileRing.getLast? = some r ∧ r.code = a.code ∧ r.payload = a.payload ∧
      r.stamp = a.stamp ∧ r.seq = getF s F.CONT.NEXT_SEQUENCE ∧ r.role = role s ∧ r.summary = false ∧
      getF t F.CONT.NEXT_SEQUENCE = getF s F.CONT.NEXT_SEQUENCE + 1 ∧
      getF t F.CONT.VOL_UNPERSISTED = getF s F.CONT.VOL_UNPERSISTED + 1 ∧ OnlyParts [.regs, .cont, .host] s t := by
  obtain ⟨v, hkept, hadmit⟩ := admitRecord_numbers (rest := rest) wf h
  obtain ⟨r, hlast, hcode, hpayload, hstamp, hnumber, hrole, hsummary, hsequence, hcount⟩ :=
    fillTriggers_numbered a hkept wf hopen hseq hun htimer
  refine ⟨_, r, (exec_recordAdmit hnext).trans (congrArg Host.Outcome.next hadmit), hlast, hcode, hpayload, hstamp, hnumber, hrole, hsummary,
    hsequence, hcount, onlyParts_of_moves s _ (?_ : Moves 0x600002 s _) rfl⟩
  exact moves_step (fillTriggers_moves _) rfl (moves_step (numberRecord_moves ..) rfl (moves_step hkept.moves rfl moves_refl))

theorem getF_bumpF (f : Field) (k : Nat) (h : keysRise s.regs = true) : getF (bumpF f k s) f = min (getF s f + k) (2 ^ f.width - 1) := by
  rw [bumpF, getF_setF_same s f _ h]
  exact Nat.mod_eq_of_lt (Nat.lt_of_le_of_lt (Nat.min_le_right _ _) (Nat.sub_lt (Nat.two_pow_pos _) Nat.one_pos))

theorem suppressRecord_shows (a : Arrival) (wf : WellKept s) :
    (suppressRecord a s).cont.arrivals = s.cont.arrivals ∧ (suppressRecord a s).cont.volatileRing = s.cont.volatileRing ∧
      getF (suppressRecord a s) F.CONT.NEXT_SEQUENCE = getF s F.CONT.NEXT_SEQUENCE ∧
      getF (suppressRecord a s) F.CONT.SUPPRESSED_COUNT = min (getF s F.CONT.SUPPRESSED_COUNT + 1) 0xFFFFFFFF ∧
      getF (suppressRecord a s) (F.CONT.CODE_STATE_PENDING a.code) = min (getF s (F.CONT.CODE_STATE_PENDING a.code) + 1) 0xFFFF := by
  have hcode : ∀ f : Field, f.addr < 0x1410000 → f.lsb < 32 → fieldKey (F.CONT.CODE_STATE_PENDING a.code) ≠ fieldKey f := fun f hf hlsb => by
    simp only [fieldKey, F.CONT.CODE_STATE_PENDING]
    omega
  unfold suppressRecord
  extract_lets n x y
  generalize hv : ({ s with cont := { s.cont with suppressed := tablePut {} s.cont.suppressed a.code y } } : State) = v
  have hregs : ∀ f, getF v f = getF s f := fun f => getF_congr s v f (by rw [← hv])
  have hrise : keysRise v.regs = true := by
    rw [← hv]
    exact wf.regs
  refine ⟨?_, ?_, ?_, ?_, ?_⟩
  · show v.cont.arrivals = _
    rw [← hv]
  · show v.cont.volatileRing = _
    rw [← hv]
  · rw [getF_bumpF_other _ _ _ _ (by decide), getF_bumpF_other _ _ _ _ (hcode _ (by decide) (by decide)), hregs]
  · have hrise1 : keysRise (bumpF (F.CONT.CODE_STATE_PENDING a.code) 1 v).regs = true := setF_keysRise _ _ _ hrise
    rw [getF_bumpF_same _ _ _ rfl hrise1, getF_bumpF_other _ _ _ _ (hcode _ (by decide) (by decide)), hregs]
  · rw [getF_bumpF_other _ _ _ _ (hcode _ (by decide) (by decide)).symm, getF_bumpF _ _ hrise, hregs]
    rfl

theorem admitting_arrivals (rest : List Arrival) (s : State) : (admitting rest s).cont.arrivals = rest := by
  unfold admitting refreshCap
  extract_lets k
  split <;> rfl

theorem recordAdmit_suppressed {a : Arrival} {rest : List Arrival} (hnext : nextArrival s = some (a, rest))
    (h : unlimited a.code = false) (htokens : bucketTokens s a.code < 8000) (wf : WellKept s) :
    ∃ t, exec (.recordAdmit none) s = .next t ∧ t.cont.arrivals = rest ∧ t.cont.volatileRing = s.cont.volatileRing ∧
      getF t F.CONT.NEXT_SEQUENCE = getF s F.CONT.NEXT_SEQUENCE ∧
      getF t F.CONT.SUPPRESSED_COUNT = min (getF s F.CONT.SUPPRESSED_COUNT + 1) 0xFFFFFFFF ∧
      getF t (F.CONT.CODE_STATE_PENDING a.code) = min (getF s (F.CONT.CODE_STATE_PENDING a.code) + 1) 0xFFFF ∧
      OnlyParts [.regs, .cont] s t := by
  have hadmit := admitRecord_suppressed (s := arrivalTaken rest s) (a := a) h (by rw [bucketTokens_refreshCap]; exact htokens)
  have hkept := ringKept_trans (ringKept_admitting rest wf)
    (ringKept_setBucket a.code (bucketTokens (admitting rest s) a.code) (admitting rest s))
  have hregs := ringKept_getF hkept
  have hfifo : (setBucket a.code (bucketTokens (admitting rest s) a.code) (admitting rest s)).cont.arrivals = rest := admitting_arrivals rest s
  change admitRecord a (arrivalTaken rest s) =
    suppressRecord a (setBucket a.code (bucketTokens (admitting rest s) a.code) (admitting rest s)) at hadmit
  generalize setBucket a.code (bucketTokens (admitting rest s) a.code) (admitting rest s) = v at hadmit hkept hregs hfifo
  obtain ⟨harrivals, hring, hnextSeq, hcount, hpending⟩ := suppressRecord_shows a (hkept.moves.form wf)
  refine ⟨_, (exec_recordAdmit hnext).trans (congrArg Host.Outcome.next hadmit), harrivals.trans hfifo, hring.trans hkept.ring,
    hnextSeq.trans (hregs _), by rw [hcount, hregs], by rw [hpending, hregs],
    onlyParts_of_moves s _ (moves_step (suppressRecord_moves ..) rfl (moves_step hkept.moves rfl moves_refl) : Moves 0x200002 s _) rfl⟩

/-! ### An error in CONT's own state (R467) -/

theorem exec_recordAdmit_error (addr : Nat) (s : State) :
    exec (.recordAdmit (some addr)) s = .next (enterFaultSafe (noteUe 6 addr (some 20) s)) := rfl

theorem inState_noteUe (m addr : Nat) (req : Option Nat) (d : DevState) (s : State) : inState (noteUe m addr req s) d = inState s d := by
  rw [inState, inState, (noteUe_moves m addr req s).frame .dev rfl]

theorem recordAdmit_error (addr : Nat) (wf : WellKept s) :
    ∃ t l, exec (.recordAdmit (some addr)) s = .next t ∧ t.cont.arrivals = s.cont.arrivals ++ l ∧
      (inState s .live = true → t.dev.state = .faultSafe) ∧
      (inState s .live = false → OnlyParts [.regs, .cont, .host] s t ∧
        getF t (F.MEM.UE_COUNT 6) = min (getF s (F.MEM.UE_COUNT 6) + 1) 0xFFFFFFFF) := by
  obtain ⟨l, hl⟩ := (contKept_trans (contKept_noteUe 6 addr (some 20) s) (contKept_enterFaultSafe _)).arrivals
  refine ⟨_, l, exec_recordAdmit_error addr s, hl, fun hlive => ?_, fun hother => ?_⟩
  · rw [enterFaultSafe_dev, inState_noteUe, hlive]
    rfl
  · rw [enterFaultSafe, inState_noteUe, hother, if_neg (by decide)]
    exact ⟨onlyParts_of_moves s _ (noteUe_moves ..) rfl, (noteUe_shows (some 20) (by decide) wf).1⟩

/-! ### Summaries (R462) -/

/-- The summary record of a code. -/
def summaryRec (code : Nat) (s : State) : Rec :=
  { stamp := (tableGet {} s.cont.suppressed code).lastStamp, code := code, summary := true,
    payload := [getF s (F.CONT.CODE_STATE_PENDING code), (tableGet {} s.cont.suppressed code).firstTick,
      (tableGet {} s.cont.suppressed code).lastTick, 0] }

/-- The code's run of suppressed records ended. -/
def runEnded (code : Nat) (s : State) : State :=
  setF (F.CONT.CODE_STATE_PENDING code) 0 { s with cont := { s.cont with suppressed := tablePut {} s.cont.suppressed code {} } }

theorem writeSummary_pending {code : Nat} (h : getF s (F.CONT.CODE_STATE_PENDING code) ≠ 0) :
    writeSummary code s = runEnded code (numberRecord (summaryRec code s) s) := if_neg h

theorem runEnded_shows (code : Nat) (wf : WellKept s) :
    (runEnded code s).cont.volatileRing = s.cont.volatileRing ∧ getF (runEnded code s) (F.CONT.CODE_STATE_PENDING code) = 0 :=
  ⟨rfl, getF_setF_lt wf.regs (show 0 < 2 ^ 16 by decide)⟩

theorem summaryTimeout_due {code : Nat} (hpending : getF s (F.CONT.CODE_STATE_PENDING code) ≠ 0)
    (hdue : (tableGet {} s.cont.suppressed code).first125 + 8000 ≤ now125 s) (hopen : flag s F.CONT.STATUS_EXHAUSTED = false)
    (hseq : getF s F.CONT.NEXT_SEQUENCE < 0xFFFFFFFF) (wf : WellKept s) :
    ∃ t r, exec (.summaryTimeout code) s = .next t ∧ t.cont.volatileRing.getLast? = some r ∧ r.summary = true ∧ r.code = code ∧
      r.payload = [getF s (F.CONT.CODE_STATE_PENDING code), (tableGet {} s.cont.suppressed code).firstTick,
        (tableGet {} s.cont.suppressed code).lastTick, 0] ∧ r.seq = getF s F.CONT.NEXT_SEQUENCE ∧
      getF t (F.CONT.CODE_STATE_PENDING code) = 0 ∧ OnlyParts [.regs, .cont, .host] s t := by
  have hexec : exec (.summaryTimeout code) s = .next (writeSummary code s) := by
    show execSummaryTimeout code s = _
    rw [execSummaryTimeout]
    exact congrArg Host.Outcome.next (if_pos hdue)
  have hmoves := numberRecord_moves (summaryRec code s) s
  obtain ⟨hring, hzero⟩ := runEnded_shows code (hmoves.form wf)
  rw [← writeSummary_pending hpending] at hring hzero
  refine ⟨_, { summaryRec code s with seq := getF s F.CONT.NEXT_SEQUENCE, role := role s }, hexec, ?_, rfl, rfl, rfl, rfl, hzero,
    exec_onlyParts hexec⟩
  rw [hring, numberRecord_next _ hopen hseq]
  exact writeVolatile_newest ..

theorem summaryTimeout_idle {code : Nat} (h : getF s (F.CONT.CODE_STATE_PENDING code) = 0 ∨
    now125 s < (tableGet {} s.cont.suppressed code).first125 + 8000) : exec (.summaryTimeout code) s = .next s := by
  show execSummaryTimeout code s = _
  rw [execSummaryTimeout]
  refine congrArg Host.Outcome.next ?_
  by_cases hdue : now125 s ≥ (tableGet {} s.cont.suppressed code).first125 + 8000
  · exact (if_pos hdue).trans (if_pos (h.resolve_right (Nat.not_lt.2 hdue)))
  · exact if_neg hdue

/-! ### Flushes started (R465) -/

/-- A flush begun where no code has suppressed records. -/
def flushBegun (trigger : Nat) (s : State) : State :=
  setF F.CONT.STATUS_FLUSHING 1 { s with cont := { s.cont with
    flush := some { upTo := getF s F.CONT.VOL_UNPERSISTED, trigger := trigger }, timerDue := false } }

theorem startFlush_plain (trigger : Nat) (h : s.cont.suppressed = []) : startFlush trigger s = flushBegun trigger s := by
  rw [startFlush, h]
  rfl

theorem flushTimer_due (hdue : s.cont.lastFlushNs + flushSeconds s * 1000000000 ≤ stampNs s) (hun : 0 < getF s F.CONT.VOL_UNPERSISTED)
    (hflush : s.cont.flush = none) (hplain : s.cont.suppressed = []) (wf : WellKept s) :
    ∃ t, exec .flushTimer s = .next t ∧ t.cont.flush = some { upTo := getF s F.CONT.VOL_UNPERSISTED, trigger := 1 } ∧
      flag t F.CONT.STATUS_FLUSHING = true ∧ OnlyParts [.regs, .cont] s t := by
  have hexec : exec .flushTimer s = .next (flushBegun 1 s) := by
    show execFlushTimer s = _
    rw [execFlushTimer, if_pos hdue, if_pos hun, hflush, if_neg (by simp), startFlush_plain 1 hplain]
  have hmoves : Moves 0x200002 s (flushBegun 1 s) := moves_step (setF_moves ..) rfl (moves_step (moves_ring wf.volatileRing) rfl moves_refl)
  exact ⟨_, hexec, rfl, flag_setF_one _ rfl wf.regs, onlyParts_of_moves s _ hmoves rfl⟩

theorem flushTimer_early (h : stampNs s < s.cont.lastFlushNs + flushSeconds s * 1000000000) : exec .flushTimer s = .next s := by
  show execFlushTimer s = _
  rw [execFlushTimer, if_neg (Nat.not_le.2 h)]

/-! ### Commands of the recorder (R471) -/

/-- The answer of a CONT command. -/
def contAnswer (op : Nat) (r : Reply) (s : State) : State := showResult 20 op r s

theorem contAnswer_cont (op : Nat) (r : Reply) (s : State) : (contAnswer op r s).cont = s.cont := (showResult_moves ..).frame .cont rfl

theorem contAnswer_result {op : Nat} {r : Reply} (hr : r.result < 256) (h : keysRise s.regs = true) :
    getF (contAnswer op r s) F.CONT.CMD_RESULT_RESULT = r.result := getF_showResult rfl (by decide) (by decide) hr h

theorem getF_contAnswer {op : Nat} {r : Reply} {f : Field} (h : f.addr ≠ 0x1400050) (hlsb : f.lsb < 32) :
    getF (contAnswer op r s) f = getF s f := by
  refine showResult_onlyFields rfl (by decide) (by decide) f ?_
  simp only [List.forall_mem_cons, fieldKey, F.CONT.CMD_RESULT_OPCODE, F.CONT.CMD_RESULT_RESULT]
  exact ⟨by omega, by omega, by simp⟩

/-- A CONT command that its own checks refuse, as it leaves the state. -/
def contRefused (op e a0 : Nat) (c : Caller) (s : State) : State :=
  contAnswer op { result := e } (emit (20 * 256 + 0xFF) op e a0 (touchSession c s))

theorem contRefused_reads (op e a0 : Nat) (c : Caller) (s : State) : (contRefused op e a0 c s).cont.reads = s.cont.reads := by
  rw [contRefused, contAnswer_cont]
  have htouch : ContKept s (touchSession c s) := contKept_of_moves (touchSession_moves c s) rfl
  exact (contKept_emit htouch).reads

theorem contRefused_result {op e a0 : Nat} (he : e < 256) (wf : WellKept s) : getF (contRefused op e a0 c s) F.CONT.CMD_RESULT_RESULT = e :=
  contAnswer_result he ((emit_moves ..).form ((touchSession_moves c s).form wf)).regs

theorem cont_touchSession (c : Caller) (s : State) : (touchSession c s).cont = s.cont := (touchSession_moves c s).frame .cont rfl

theorem exec_flush (h : Admitted c [roleOperator] s) : ∃ c' : Caller,
    exec (.flush c 0) s = .next (contAnswer 1 { result := resOk, ret := 0 } (triggerFlush 5 (touchSession c' s))) := by
  have hspare : Admitted { c with spare := 0 :: c.spare } [roleOperator] s := h
  refine ⟨{ c with spare := 0 :: c.spare }, ?_⟩
  show execFlush c 0 s = _
  rw [execFlush, cmdFlush, runCommand_ok hspare rfl]
  rfl

theorem triggerFlush_running (trigger : Nat) (h : s.cont.flush ≠ none) :
    triggerFlush trigger s = { s with cont := { s.cont with queuedFlush := some trigger } } := if_pos (Option.isSome_iff_ne_none.2 h)

theorem triggerFlush_plain (trigger : Nat) (h : s.cont.flush = none) (hplain : s.cont.suppressed = []) :
    triggerFlush trigger s = flushBegun trigger s := by
  rw [triggerFlush, h, if_neg (by simp), startFlush_plain trigger hplain]

theorem flush_begins (h : Admitted c [roleOperator] s) (hflush : s.cont.flush = none) (hplain : s.cont.suppressed = []) (wf : WellKept s) :
    ∃ t, exec (.flush c 0) s = .next t ∧ t.cont.flush = some { upTo := getF s F.CONT.VOL_UNPERSISTED, trigger := 5 } ∧
      getF t F.CONT.CMD_RESULT_RESULT = resOk := by
  obtain ⟨c', hexec⟩ := exec_flush h
  have hcont := cont_touchSession c' s
  have wf1 := (touchSession_moves c' s).form wf
  have hun : getF (touchSession c' s) F.CONT.VOL_UNPERSISTED = getF s F.CONT.VOL_UNPERSISTED := getF_touchSession_below c' (by decide) (by decide) s
  generalize touchSession c' s = v at hexec hcont wf1 hun
  rw [triggerFlush_plain 5 (by rw [hcont]; exact hflush) (by rw [hcont]; exact hplain)] at hexec
  refine ⟨_, hexec, ?_, contAnswer_result (by decide) (setF_keysRise _ _ _ wf1.regs)⟩
  rw [contAnswer_cont, ← hun]
  rfl

theorem flush_queued (h : Admitted c [roleOperator] s) (hflush : s.cont.flush ≠ none) (wf : WellKept s) :
    ∃ t, exec (.flush c 0) s = .next t ∧ t.cont = { s.cont with queuedFlush := some 5 } ∧ getF t F.CONT.CMD_RESULT_RESULT = resOk := by
  obtain ⟨c', hexec⟩ := exec_flush h
  have hcont := cont_touchSession c' s
  have wf1 := (touchSession_moves c' s).form wf
  generalize touchSession c' s = v at hexec hcont wf1
  rw [triggerFlush_running 5 (by rw [hcont]; exact hflush)] at hexec
  refine ⟨_, hexec, ?_, contAnswer_result (by decide) wf1.regs⟩
  rw [contAnswer_cont, ← hcont]

/-! ### A flush that ends (R464, R465) -/

/-- A flush of the one record `r` ended, once the record is in the persistent ring. -/
def flushEnded (r : Rec) (s : State) : State :=
  setF F.CONT.STATUS_FLUSHING 0 (setF F.CONT.VOL_UNPERSISTED (1 - 1) (bumpF F.CONT.FLUSH_COUNT 1 { s with
    cont := { s.cont with
      flush := none, queuedFlush := none, lastFlushNs := stampNs s, lostRun := none
      unreadable := s.cont.unreadable.filter (fun q => !([r].map Rec.seq).contains q.1) } }))

/-- The record of an ended flush. -/
def flushRecord (trigger : Nat) (s : State) : Arrival :=
  { stamp := nowStamp s, code := 0x1403, payload := [tickLo s, 1, trigger, getF s F.CONT.PERSIST_HEAD] }

/-- The flush that was queued behind one that has ended. -/
def followFlush (q : Option Nat) (s : State) : State :=
  match q with
  | some trigger => triggerFlush trigger s
  | none => s

theorem newest_taken {l : List Rec} {r : Rec} (h : l.getLast? = some r) : (l.drop (l.length - 1)).take 1 = [r] := by
  obtain ⟨front, rfl⟩ := List.getLast?_eq_some_iff.1 h
  simp

theorem persistAll_one {r : Rec} (h : r.seq ∉ s.cont.unreadable.map Prod.fst) : persistAll [r] none s = writePersistent r s := by
  have hnone : s.cont.unreadable.find? (fun x => x.1 == r.seq) = none := by
    rw [List.find?_eq_none]
    intro x hx
    simp only [beq_iff_eq]
    exact fun e => h (e ▸ List.mem_map_of_mem hx)
  rw [persistAll, hnone]
  rfl

theorem finishFlush_one {fl : Flush} {r : Rec} (hflush : s.cont.flush = some fl) (htrigger : fl.trigger ≠ 4) (hupTo : fl.upTo = 1)
    (hun : getF s F.CONT.VOL_UNPERSISTED = 1) (hlast : s.cont.volatileRing.getLast? = some r)
    (hreadable : r.seq ∉ s.cont.unreadable.map Prod.fst) (hlost : s.cont.lostRun = none) :
    finishFlush 0 s = followFlush s.cont.queuedFlush
      (admitRecord (flushRecord fl.trigger (flushEnded r (writePersistent r s))) (flushEnded r (writePersistent r s))) := by
  have hone : min 1 1 = 1 := rfl
  rw [finishFlush, hflush]
  dsimp only
  rw [if_neg (by simp [htrigger])]
  simp only [if_neg htrigger, hun, hupTo, hone, newest_taken hlast, hlost, List.range_zero, List.foldl_nil, persistAll_one hreadable]
  rw [if_neg (by simp)]
  rfl

/-- The persistent ring's head and the count of flushes stand. -/
def HeadKept (s t : State) : Prop := ∀ f ∈ [F.CONT.PERSIST_HEAD, F.CONT.FLUSH_COUNT], getF t f = getF s f

theorem headKept_refl : HeadKept s s := fun _ _ => rfl

theorem headKept_trans {u : State} (h1 : HeadKept s t) (h2 : HeadKept t u) : HeadKept s u := fun f hf => (h2 f hf).trans (h1 f hf)

theorem headKept_of_regs (h : t.regs = s.regs) : HeadKept s t := fun f _ => getF_congr s t f h

theorem headKept_ite {u : State} {p : Prop} [Decidable p] (h1 : HeadKept u s) (h2 : HeadKept u t) : HeadKept u (if p then s else t) := by
  split <;> assumption

/-- A field that is neither of the two, at the low end of a register or among STATUS. -/
theorem headKept_of_onlyFields {fs : List Field} (h : OnlyFields fs s t)
    (hfs : ∀ g ∈ fs, ∀ f ∈ [F.CONT.PERSIST_HEAD, F.CONT.FLUSH_COUNT], fieldKey g ≠ fieldKey f) : HeadKept s t :=
  fun f hf => h f fun g hg => hfs g hg f hf

theorem recordFields_offHead : ∀ g ∈ recordFields, ∀ f ∈ [F.CONT.PERSIST_HEAD, F.CONT.FLUSH_COUNT], fieldKey g ≠ fieldKey f := by decide

theorem pending_offHead (code : Nat) :
    ∀ f ∈ [F.CONT.PERSIST_HEAD, F.CONT.FLUSH_COUNT], fieldKey (F.CONT.CODE_STATE_PENDING code) ≠ fieldKey f := by
  simp only [List.forall_mem_cons, fieldKey, F.CONT.CODE_STATE_PENDING, F.CONT.PERSIST_HEAD, F.CONT.FLUSH_COUNT]
  exact ⟨by omega, by omega, by simp⟩

theorem headKept_numberRecord (r : Rec) (s : State) : HeadKept s (numberRecord r s) :=
  headKept_of_onlyFields (numberRecord_onlyFields r s) recordFields_offHead

theorem headKept_writeSummary (code : Nat) (s : State) : HeadKept s (writeSummary code s) :=
  headKept_of_onlyFields (writeSummary_onlyFields code s) (List.forall_mem_cons.2 ⟨pending_offHead code, recordFields_offHead⟩)

theorem headKept_triggerFlush (trigger : Nat) (s : State) : HeadKept s (triggerFlush trigger s) := by
  refine headKept_of_onlyFields (triggerFlush_onlyFields trigger s) fun g hg => ?_
  obtain hpending | hrest := List.mem_append.1 hg
  · obtain ⟨e, -, rfl⟩ := List.mem_map.1 hpending
    exact pending_offHead e.1
  · obtain rfl | hrecord := List.mem_cons.1 hrest
    · decide
    · exact recordFields_offHead g hrecord

theorem headKept_fillTriggers (s : State) : HeadKept s (fillTriggers s) :=
  headKept_ite (headKept_triggerFlush _ _) (headKept_ite (headKept_triggerFlush _ _) headKept_refl)

theorem headKept_suppressRecord (a : Arrival) (s : State) : HeadKept s (suppressRecord a s) := by
  refine fun f hf => (getF_bumpF_other _ _ _ _ ?_).trans (getF_bumpF_other _ _ _ _ (pending_offHead a.code f hf))
  revert f
  decide

theorem headKept_dropAtCap (s : State) : HeadKept s (dropAtCap s) := by
  intro f hf
  have hdrop : fieldKey F.CONT.DROPPED_COUNT ≠ fieldKey f ∧ fieldKey F.CONT.STATUS_DROPPED ≠ fieldKey f := by
    revert f
    decide
  refine (getF_bumpF_other _ _ _ _ hdrop.1).trans ?_
  split
  · rfl
  · exact getF_setF_other _ _ _ _ hdrop.2

theorem headKept_admitRecord (a : Arrival) (s : State) : HeadKept s (admitRecord a s) := by
  unfold admitRecord
  extract_lets s0 r tokens s1 c1 s2
  have h0 : HeadKept s s0 := headKept_of_regs ((ringKept_refreshCap s).moves.frame .regs rfl)
  have h1 : HeadKept s s1 := headKept_trans h0 (headKept_of_regs rfl)
  have h2 : HeadKept s s2 := headKept_trans h1 (headKept_of_regs rfl)
  exact headKept_ite (headKept_trans (headKept_trans h0 (headKept_numberRecord _ _)) (headKept_fillTriggers _))
    (headKept_ite (headKept_trans (headKept_trans h0 (headKept_of_regs rfl)) (headKept_suppressRecord _ _))
      (headKept_ite (headKept_trans h1 (headKept_dropAtCap s1))
        (headKept_trans (headKept_trans (headKept_trans h2 (headKept_writeSummary _ _)) (headKept_numberRecord _ _)) (headKept_fillTriggers _))))

/-- What follows a flush's end leaves the head, the count, the persistent ring and the time of the flush. -/
theorem afterFlush_kept (a : Arrival) (q : Option Nat) (s : State) :
    HeadKept s (followFlush q (admitRecord a s)) ∧ ContKept s (followFlush q (admitRecord a s)) := by
  have hhead := headKept_admitRecord a s
  have hcont := contKept_admitRecord a s
  cases q with
  | none => exact ⟨hhead, hcont⟩
  | some trigger => exact ⟨headKept_trans hhead (headKept_triggerFlush _ _), contKept_trans hcont (contKept_triggerFlush ..)⟩

/-! ### The persistent ring -/

/-- The slot that the next record goes to. -/
def nextHead (s : State) : Nat := (getF s F.CONT.PERSIST_HEAD + 1) % persistSlots

theorem nextHead_lt (s : State) : nextHead s < 2 ^ 32 := Nat.lt_trans (Nat.mod_lt _ (by decide)) (by decide)

theorem nextSlot_shows (wf : WellKept s) (h : keysRise s.cont.persistent = true) :
    getF (nextSlot s) F.CONT.PERSIST_HEAD = nextHead s ∧ getF (nextSlot s) F.CONT.FLUSH_COUNT = getF s F.CONT.FLUSH_COUNT ∧
      keysRise (nextSlot s).cont.persistent = true := by
  unfold nextSlot
  extract_lets k n s1
  have hregs : s1.regs = s.regs := by
    show (if _ then _ else _ : State).regs = s.regs
    split <;> rfl
  have hrise : keysRise s1.cont.persistent = true := by
    show keysRise (if _ then _ else _ : State).cont.persistent = true
    split
    · exact keysRise_filter _ _ h
    · exact h
  refine ⟨getF_setF_lt ?_ (nextHead_lt s), (getF_setF_other _ _ _ _ (by decide)).trans (getF_congr _ _ _ hregs), hrise⟩
  show keysRise s1.regs = true
  rw [hregs]
  exact wf.regs

theorem writePersistent_shows (r : Rec) (wf : WellKept s) (h : keysRise s.cont.persistent = true) :
    getF (writePersistent r s) F.CONT.PERSIST_HEAD = nextHead s ∧
      getF (writePersistent r s) F.CONT.FLUSH_COUNT = getF s F.CONT.FLUSH_COUNT ∧
      tableGet .erased (writePersistent r s).cont.persistent (nextHead s) = .held { r with persisted := true } := by
  obtain ⟨hhead, hcount, hrise⟩ := nextSlot_shows wf h
  have hput : (writePersistent r s).cont.persistent = tablePut .erased (nextSlot s).cont.persistent (getF (nextSlot s) F.CONT.PERSIST_HEAD)
    (.held { r with persisted := true }) := rfl
  refine ⟨hhead, hcount, ?_⟩
  rw [hput, hhead, tableGet_put_same _ _ _ _ hrise]

theorem stampNs_congr (hclap : t.clap = s.clap) (hdev : t.dev = s.dev) : stampNs t = stampNs s := by
  have hbase : stampBase t = stampBase s := by
    unfold stampBase inState
    rw [hdev]
  rw [stampNs, stampNs, nowNs, nowNs, hclap, hbase]

theorem flushEnded_shows (r : Rec) (wf : WellKept s) :
    getF (flushEnded r s) F.CONT.PERSIST_HEAD = getF s F.CONT.PERSIST_HEAD ∧
      getF (flushEnded r s) F.CONT.FLUSH_COUNT = min (getF s F.CONT.FLUSH_COUNT + 1) 0xFFFFFFFF ∧
      (flushEnded r s).cont.persistent = s.cont.persistent ∧ (flushEnded r s).cont.lastFlushNs = stampNs s := by
  refine ⟨?_, ?_, rfl, rfl⟩
  · exact (getF_setF_other _ _ _ _ (by decide)).trans ((getF_setF_other _ _ _ _ (by decide)).trans (getF_bumpF_other _ _ _ _ (by decide)))
  · refine (getF_setF_other _ _ _ _ (by decide)).trans ((getF_setF_other _ _ _ _ (by decide)).trans ?_)
    exact getF_bumpF_same _ _ _ rfl wf.regs

theorem flushDone_one {fl : Flush} {r : Rec} (hflush : s.cont.flush = some fl) (htrigger : fl.trigger ≠ 4) (hupTo : fl.upTo = 1)
    (hun : getF s F.CONT.VOL_UNPERSISTED = 1) (hlast : s.cont.volatileRing.getLast? = some r)
    (hreadable : r.seq ∉ s.cont.unreadable.map Prod.fst) (hlost : s.cont.lostRun = none) (hrise : keysRise s.cont.persistent = true)
    (wf : WellKept s) :
    ∃ t, exec (.flushDone 0) s = .next t ∧ getF t F.CONT.PERSIST_HEAD = nextHead s ∧
      tableGet .erased t.cont.persistent (nextHead s) = .held { r with persisted := true } ∧ t.cont.lastFlushNs = stampNs s ∧
      getF t F.CONT.FLUSH_COUNT = min (getF s F.CONT.FLUSH_COUNT + 1) 0xFFFFFFFF := by
  have hexec : exec (.flushDone 0) s = .next (finishFlush 0 s) := rfl
  rw [finishFlush_one hflush htrigger hupTo hun hlast hreadable hlost] at hexec
  obtain ⟨hhead, hcount, htable⟩ := writePersistent_shows r wf hrise
  have hmoves := writePersistent_moves r s
  have hstamp : stampNs (writePersistent r s) = stampNs s := stampNs_congr (hmoves.frame .clap rfl) (hmoves.frame .dev rfl)
  obtain ⟨hhead1, hcount1, hpersistent1, hlast1⟩ := flushEnded_shows r (hmoves.form wf)
  generalize writePersistent r s = v at *
  generalize flushEnded r v = w at *
  obtain ⟨hkept, hcont⟩ := afterFlush_kept (flushRecord fl.trigger w) s.cont.queuedFlush w
  refine ⟨_, hexec, ?_, ?_, ?_, ?_⟩
  · rw [hkept _ (by simp), hhead1, hhead]
  · rw [hcont.persistent, hpersistent1, htable]
  · rw [hcont.lastFlush, hlast1, hstamp]
  · rw [hkept _ (by simp), hcount1, hcount]

theorem flushDone_none (n : Nat) (h : s.cont.flush = none) : exec (.flushDone n) s = .next s := by
  show Host.Outcome.next (finishFlush n s) = _
  rw [finishFlush, h]

/-! ### Reads (R469, R471) -/

theorem function_touchSession (ring : Nat) (c : Caller) (s : State) :
    getF (touchSession c s) (F.HOST.RING_CONFIG_FUNCTION ring) = getF s (F.HOST.RING_CONFIG_FUNCTION ring) := by
  refine touchSession_onlyFields c s _ fun g hg => ?_
  obtain ⟨k, hk, rfl⟩ := List.mem_map.1 hg
  have hk8 := List.mem_range.1 hk
  simp only [fieldKey, F.SEC.SES_IDLE, F.HOST.RING_CONFIG_FUNCTION]
  omega

/-- The read that a READ begins: it starts at the oldest record whose key is at or after the given one. -/
def newRead (ring epoch seq : Nat) (s : State) : ContRead :=
  let order := persistentOrder s
  let first := if epoch = 0xFFFFFFFF then order.head? else
    order.find? (fun e => decide (e.2.stamp / 2 ^ 48 > epoch % 2 ^ 16) ||
      (e.2.stamp / 2 ^ 48 == epoch % 2 ^ 16 && decide (e.2.seq ≥ seq)))
  let h := getF s F.CONT.PERSIST_HEAD
  { ring := ring, last := h, left := ((first.map (fun e => (h + persistSlots - e.1) % persistSlots + 1)).getD 0) }

/-- A read on a ring put in place. -/
def readBegun (ring : Nat) (rd : ContRead) (s : State) : State :=
  setF (F.HOST.RING_CONFIG_FUNCTION ring) 1 { s with cont := { s.cont with reads := s.cont.reads ++ [rd] } }

theorem readBegun_moves (ring : Nat) (rd : ContRead) (wf : WellKept s) : Moves 0x200002 s (readBegun ring rd s) :=
  moves_step (setF_moves ..) rfl (moves_step (moves_ring wf.volatileRing) rfl moves_refl)

theorem noRead_any {ring : Nat} (h : ∀ r ∈ s.cont.reads, r.ring ≠ ring) : s.cont.reads.any (fun r => r.ring == ring) = false := by
  simpa using h

theorem exec_contRead {ring epoch seq : Nat} (h : Admitted c anyRole s) (hlow : 9 ≤ ring) (hhigh : ring ≤ 15)
    (hnone : ∀ r ∈ s.cont.reads, r.ring ≠ ring) (hfunction : getF s (F.HOST.RING_CONFIG_FUNCTION ring) ≠ 2) (hroom : s.cont.reads.length < 4) :
    exec (.contRead c ring epoch seq) s = .next (contAnswer 2 { result := resOk, ret := 0 }
      (readBegun ring (newRead ring epoch seq (touchSession c s)) (touchSession c s))) := by
  show execContRead c ring epoch seq s = _
  rw [execContRead, cmdContRead, runCommand_ok h ?_]
  · rfl
  · have hrange : (decide (ring < 9) || decide (ring > 15) || getF (touchSession c s) (F.HOST.RING_CONFIG_FUNCTION ring) == 2) = false := by
      rw [function_touchSession]
      simp
      omega
    rw [hrange, if_neg (by decide), cont_touchSession, noRead_any hnone, if_neg (by decide), if_neg (by omega)]
    rw [← cont_touchSession c s]
    rfl

theorem contRead_begins {ring : Nat} (epoch seq : Nat) (h : Admitted c anyRole s) (hlow : 9 ≤ ring) (hhigh : ring ≤ 15)
    (hnone : ∀ r ∈ s.cont.reads, r.ring ≠ ring) (hfunction : getF s (F.HOST.RING_CONFIG_FUNCTION ring) ≠ 2) (hroom : s.cont.reads.length < 4)
    (wf : WellKept s) :
    ∃ t x, exec (.contRead c ring epoch seq) s = .next t ∧ t.cont.reads = s.cont.reads ++ [x] ∧ x.ring = ring ∧
      getF t (F.HOST.RING_CONFIG_FUNCTION ring) = 1 ∧ getF t F.CONT.CMD_RESULT_RESULT = resOk ∧ OnlyParts [.regs, .cont, .sec] s t := by
  have wf1 := (touchSession_moves c s).form wf
  have hexec := exec_contRead (epoch := epoch) (seq := seq) h hlow hhigh hnone hfunction hroom
  have hbegun := readBegun_moves ring (newRead ring epoch seq (touchSession c s)) wf1
  refine ⟨_, newRead ring epoch seq (touchSession c s), hexec, ?_, rfl, ?_, contAnswer_result (by decide) (hbegun.form wf1).regs,
    exec_onlyParts hexec⟩
  · rw [contAnswer_cont, ← cont_touchSession c s]
    rfl
  · rw [getF_contAnswer (by simp only [F.HOST.RING_CONFIG_FUNCTION]; omega) (show 28 < 32 by decide)]
    exact getF_setF_lt wf1.regs (show 1 < 2 ^ 2 by decide)

theorem exec_readStop_none {ring : Nat} (h : Admitted c anyRole s) (hlow : 9 ≤ ring) (hhigh : ring ≤ 15)
    (hnone : ∀ r ∈ s.cont.reads, r.ring ≠ ring) : exec (.readStop c ring) s = .next (contRefused 3 resIllegal ring c s) := by
  show execReadStop c ring s = _
  rw [execReadStop, cmdReadStop, runCommand_error (by decide) h ((if_pos rfl).trans ?_)]
  · rfl
  · rw [cont_touchSession, noRead_any hnone, if_neg (by simp; omega), if_neg (by decide)]

theorem exec_readStop {ring : Nat} {r : ContRead} (h : Admitted c anyRole s) (hlow : 9 ≤ ring) (hhigh : ring ≤ 15)
    (hr : r ∈ s.cont.reads) (hring : r.ring = ring) :
    exec (.readStop c ring) s = .next (contAnswer 3 { result := resOk, ret := 0 } (endRead ring (touchSession c s))) := by
  have hany : s.cont.reads.any (fun r => r.ring == ring) = true := List.any_eq_true.2 ⟨r, hr, by simpa using hring⟩
  show execReadStop c ring s = _
  rw [execReadStop, cmdReadStop, runCommand_ok h ?_]
  · rfl
  · rw [cont_touchSession, hany, if_neg (by simp; omega), if_pos rfl]

theorem endRead_shows (ring : Nat) (wf : WellKept s) :
    (endRead ring s).cont.reads = s.cont.reads.filter (fun x => x.ring != ring) ∧
      getF (endRead ring s) (F.HOST.RING_CONFIG_FUNCTION ring) = 0 :=
  ⟨rfl, getF_setF_lt wf.regs (show 0 < 2 ^ 2 by decide)⟩

theorem readStop_ends {ring : Nat} {r : ContRead} (h : Admitted c anyRole s) (hlow : 9 ≤ ring) (hhigh : ring ≤ 15)
    (hr : r ∈ s.cont.reads) (hring : r.ring = ring) (wf : WellKept s) :
    ∃ t, exec (.readStop c ring) s = .next t ∧ t.cont.reads = s.cont.reads.filter (fun x => x.ring != ring) ∧
      getF t (F.HOST.RING_CONFIG_FUNCTION ring) = 0 ∧ getF t F.CONT.CMD_RESULT_RESULT = resOk ∧ OnlyParts [.regs, .cont, .sec] s t := by
  have wf1 := (touchSession_moves c s).form wf
  have hexec := exec_readStop h hlow hhigh hr hring
  obtain ⟨hreads, hfunction⟩ := endRead_shows ring wf1
  refine ⟨_, hexec, ?_, ?_, contAnswer_result (by decide) ((endRead_moves ..).form wf1).regs, exec_onlyParts hexec⟩
  · rw [contAnswer_cont, hreads, cont_touchSession]
  · rw [getF_contAnswer (by simp only [F.HOST.RING_CONFIG_FUNCTION]; omega) (show 28 < 32 by decide), hfunction]

/-! ### A read delivers (R469, R471) -/

/-- The entries and the errors of a read that has delivered the records `rs`. -/
def readDelivered (ring : Nat) (rs : List Rec) (bad : List Nat) (s : State) : State :=
  bumpF F.CONT.PERSIST_UE_COUNT bad.length
    (bad.eraseDups.foldl (fun t a => noteUe 8 a (some 20) t) (stageRecords ring rs.length rs s))

/-- The read on a ring gone on. -/
def readContinued (ring left delivered skipped : Nat) (s : State) : State :=
  { s with cont := { s.cont with reads := s.cont.reads.map (fun r =>
    if r.ring = ring then { r with left := left, delivered := delivered, skipped := skipped } else r) } }

theorem contKept_stageRecords (ring fuel : Nat) (rs : List Rec) (s : State) : ContKept s (stageRecords ring fuel rs s) := by
  induction fuel generalizing rs s with
  | zero => exact contKept_refl
  | succ fuel ih =>
    cases rs with
    | nil => exact contKept_refl
    | cons r rs => exact contKept_trans (contKept_stageEntry ..) (ih ..)

theorem contKept_readDelivered (ring : Nat) (rs : List Rec) (bad : List Nat) (s : State) : ContKept s (readDelivered ring rs bad s) :=
  contKept_bumpF (contKept_trans (contKept_stageRecords ..) (contKept_foldl fun _ _ _ => contKept_noteUe ..))

theorem readDelivered_moves (ring : Nat) (rs : List Rec) (bad : List Nat) (s : State) : Moves 0x600002 s (readDelivered ring rs bad s) :=
  moves_step (bumpF_moves ..) rfl (moves_foldl (stageRecords_moves ..) fun _ _ h => moves_step (noteUe_moves ..) rfl h)

/-- The records that a read has passed over without delivering them. -/
def readSkipped (rd : ContRead) (left : Nat) (rs : List Rec) : Nat := rd.skipped + (rd.left - left - rs.length)

theorem exec_readDone {ring left : Nat} {rd : ContRead} {rs : List Rec} {bad : List Nat}
    (hread : s.cont.reads.find? (fun r => r.ring == ring) = some rd) (hon : readOn s rd rd.left (readPlaces s ring) = (rs, bad, left)) :
    exec (.readDone ring) s = .next (if left = 0
      then emit 0x1406 ring (rd.delivered + rs.length) (readSkipped rd left rs) (endRead ring (readDelivered ring rs bad s))
      else readContinued ring left (rd.delivered + rs.length) (readSkipped rd left rs) (readDelivered ring rs bad s)) := by
  show execReadDone ring s = _
  rw [execReadDone, hread]
  dsimp only
  rw [hon]
  rfl

theorem readDone_none {ring : Nat} (h : ∀ r ∈ s.cont.reads, r.ring ≠ ring) : exec (.readDone ring) s = .next s := by
  have hnone : s.cont.reads.find? (fun r => r.ring == ring) = none := by simpa [List.find?_eq_none] using h
  show execReadDone ring s = _
  rw [execReadDone, hnone]

theorem readDone_ends {ring : Nat} {rd : ContRead} {rs : List Rec} {bad : List Nat}
    (hread : s.cont.reads.find? (fun r => r.ring == ring) = some rd) (hon : readOn s rd rd.left (readPlaces s ring) = (rs, bad, 0))
    (wf : WellKept s) :
    ∃ t, exec (.readDone ring) s = .next t ∧ t.cont.reads = s.cont.reads.filter (fun x => x.ring != ring) ∧
      getF t (F.HOST.RING_CONFIG_FUNCTION ring) = 0 ∧ OnlyParts [.regs, .cont, .host] s t := by
  have hexec := exec_readDone hread hon
  rw [if_pos rfl] at hexec
  have hkept := contKept_readDelivered ring rs bad s
  obtain ⟨hreads, hfunction⟩ := endRead_shows ring ((readDelivered_moves ring rs bad s).form wf)
  refine ⟨_, hexec, ?_, ?_, exec_onlyParts hexec⟩
  · rw [(contKept_emit contKept_refl).reads, hreads, hkept.reads]
  · rw [getF_emit, hfunction]

theorem readDone_continues {ring left : Nat} {rd : ContRead} {rs : List Rec} {bad : List Nat}
    (hread : s.cont.reads.find? (fun r => r.ring == ring) = some rd) (hon : readOn s rd rd.left (readPlaces s ring) = (rs, bad, left))
    (hleft : left ≠ 0) :
    ∃ t, exec (.readDone ring) s = .next t ∧
      (∀ x ∈ t.cont.reads, x.ring = ring → x.left = left ∧ x.delivered = rd.delivered + rs.length) ∧
      t.cont.reads.length = s.cont.reads.length ∧ OnlyParts [.regs, .cont, .host] s t := by
  have hexec := exec_readDone hread hon
  rw [if_neg hleft] at hexec
  have hkept := contKept_readDelivered ring rs bad s
  refine ⟨_, hexec, fun x hx hring => ?_, ?_, exec_onlyParts hexec⟩
  · obtain ⟨r, -, rfl⟩ := List.mem_map.1 hx
    by_cases h : r.ring = ring
    · rw [if_pos h]
      exact ⟨rfl, rfl⟩
    · rw [if_neg h] at hring
      exact absurd hring h
  · exact (List.length_map _).trans (congrArg List.length hkept.reads)

end Sys2Proof.Machine
end

section
/-! The statement about the recorder. -/

namespace Sys2Proof.Certificates

open Sys2Proof Sys2Proof.Machine

/-- Settles O56: a record goes through its bucket, the cap and its number one step at a time; a flush copies what it took; and reads are a
list that three operations add to, go on in and remove from. -/
theorem recordsAreNumberedAndFlushed : Obligations.RecordsAreNumberedAndFlushed := by
  unfold Obligations.RecordsAreNumberedAndFlushed
  intro s wf
  refine ⟨fun a rest hnext _ hopen hseq => ⟨fun h hun htimer => recordAdmit_numbered hnext hopen hseq h hun htimer wf,
      fun h htokens => recordAdmit_suppressed hnext h htokens wf⟩, exec_recordAdmit_empty, fun addr => recordAdmit_error addr wf,
    fun code _ => ⟨fun hpending hdue hopen hseq => summaryTimeout_due hpending hdue hopen hseq wf, summaryTimeout_idle⟩,
    ⟨fun hdue hun hflush hplain => flushTimer_due hdue hun hflush hplain wf, flushTimer_early⟩,
    fun c h => ⟨fun hflush hplain => flush_begins h hflush hplain wf, fun hflush => flush_queued h hflush wf⟩,
    fun fl r hflush htrigger hupTo hun hlast hreadable hlost hrise =>
      flushDone_one hflush htrigger hupTo hun hlast hreadable hlost hrise wf, fun hflush n => flushDone_none n hflush,
    fun c ring h hlow hhigh => ⟨fun hnone => ⟨fun epoch seq hfunction hroom =>
        contRead_begins epoch seq h hlow hhigh hnone hfunction hroom wf, ?_⟩,
      fun r hr hring => readStop_ends h hlow hhigh hr hring wf⟩,
    fun ring left rd rs bad _ _ hread hon => ⟨fun hleft => ?_, fun hleft => readDone_continues hread hon hleft⟩,
    fun ring h => readDone_none h⟩
  · exact ⟨_, exec_readStop_none h hlow hhigh hnone, contRefused_reads .., contRefused_result (by decide) wf⟩
  · subst hleft
    exact readDone_ends hread hon wf

end Sys2Proof.Certificates
end

section
/-! SUPPORT. The course of a SEC command (R494): its checks, its own steps at once, and what its answer leaves. -/

namespace Sys2Proof.Machine

open Sys2Proof

variable {s t : State} {c : Caller}

/-! ### A call taken -/

/-- A call as it stands once its checks have passed. -/
def secCall (op : Nat) (c : Caller) (a0 a1 a2 : Nat) (s : State) : SecCall :=
  { opcode := op, a0 := a0, a1 := a1, a2 := a2, input := secInput c s, caller := c }

/-- The roles of a command take the caller: it needs no session, or the caller's session has one of them. -/
def RoleTaken (roles : Option (List Nat)) (c : Caller) (s : State) : Prop :=
  ∀ rs, roles = some rs → ∃ r ∈ rs, callerRole s c = some r

/-- Nothing of R102 but the role and the device state turns the command away. -/
structure CallClear (c : Caller) (s : State) : Prop where
  power : powerFailing s = false
  tie : lostTie c = false
  spare : spareClear c = true

theorem admitted_clear {rs : List Nat} (h : Admitted c rs s) : CallClear c s := ⟨h.2.1, h.2.2.1, h.2.2.2⟩

theorem admitted_role {rs rs' : List Nat} (h : Admitted c rs s) (hsub : rs ⊆ rs') : RoleTaken (some rs') c s := by
  rintro _ ⟨⟩
  obtain ⟨⟨r, hr, hrole⟩, -⟩ := h
  exact ⟨r, hsub hr, hrole⟩

theorem roleTaken_none : RoleTaken none c s := fun _ h => nomatch h

theorem runCommand_clear {u op a0 res ret : Nat} {roles : Option (List Nat)} {body : State → Body} (hrole : RoleTaken roles c s)
    (h : CallClear c s) (hbody : body (touchSession c s) = .ok (t, res, ret)) :
    runCommand u op c a0 roles true body s = (showResult u op { result := res, ret := ret } t, { result := res, ret := ret }) := by
  obtain ⟨hpower, htie, hspare⟩ := h
  cases roles with
  | none => simp [runCommand, hpower, htie, hspare, hbody]
  | some rs =>
    obtain ⟨r, hr, hcaller⟩ := hrole rs rfl
    simp [runCommand, hcaller, hr, hpower, htie, hspare, hbody]

/-! ### What the mark of the session's use leaves -/

theorem sec_touchSession (c : Caller) (s : State) : ∃ l, (touchSession c s).sec = { s.sec with sessions := l } := by
  unfold touchSession
  split
  · exact ⟨_, rfl⟩
  · exact ⟨_, rfl⟩

theorem getF_touchSession_off (c : Caller) {f : Field} (hf : f.addr < 0x1500100 ∨ 0x1500180 ≤ f.addr ∨ f.addr % 16 ≠ 12) (hlsb : f.lsb < 32)
    (s : State) : getF (touchSession c s) f = getF s f := by
  refine touchSession_onlyFields c s f fun g hg => ?_
  obtain ⟨k, hk, rfl⟩ := List.mem_map.1 hg
  have hk8 := List.mem_range.1 hk
  simp only [fieldKey, F.SEC.SES_IDLE]
  omega

theorem busy_touchSession (c : Caller) (s : State) : (touchSession c s).sec.busy = s.sec.busy := by
  obtain ⟨l, hl⟩ := sec_touchSession c s
  rw [hl]

theorem keys_touchSession (c : Caller) (s : State) : (touchSession c s).sec.keys = s.sec.keys := by
  obtain ⟨l, hl⟩ := sec_touchSession c s
  rw [hl]

theorem inbox_touchSession (c : Caller) (s : State) : (touchSession c s).sec.inbox = s.sec.inbox := by
  obtain ⟨l, hl⟩ := sec_touchSession c s
  rw [hl]

theorem secInput_touchSession (c d : Caller) (s : State) : secInput d (touchSession c s) = secInput d s := by
  have hmail : ∀ j, getF (touchSession c s) (F.SEC.MAILBOX j) = getF s (F.SEC.MAILBOX j) := fun j =>
    getF_touchSession_off c (Or.inr (Or.inl (by simp only [F.SEC.MAILBOX]; omega))) (show 0 < 32 by decide) s
  simp only [secInput, hmail, inbox_touchSession]

theorem keyEntries_touchSession (c : Caller) (s : State) : keyEntries (touchSession c s) = keyEntries s := by
  rw [keyEntries, keyEntries, keys_touchSession]

theorem findKey_touchSession (c : Caller) (id : Nat) (s : State) : findKey (touchSession c s) id = findKey s id := by
  rw [findKey, findKey, keyEntries_touchSession]

theorem dev_touchSession (c : Caller) (s : State) : (touchSession c s).dev = s.dev := (touchSession_moves c s).frame .dev rfl

theorem cfg_touchSession (c : Caller) (s : State) : (touchSession c s).cfg = s.cfg := (touchSession_moves c s).frame .cfg rfl

/-! ### The answer -/

/-- The answer of a SEC command. -/
def secAnswer (op : Nat) (code ret : Nat) (s : State) : State := showResult 21 op { result := code, ret := ret } s

theorem secAnswer_moves (op code ret : Nat) (s : State) : Moves 0x2 s (secAnswer op code ret s) := showResult_moves ..

theorem secAnswer_onlyFields (op code ret : Nat) (s : State) :
    OnlyFields [F.SEC.CMD_RETURN, F.SEC.CMD_RESULT_RESULT, F.SEC.CMD_RESULT_OPCODE] s (secAnswer op code ret s) :=
  onlyFields_setF (by simp) (onlyFields_setF (by simp) (onlyFields_setF (by simp) onlyFields_refl))

theorem getF_secAnswer {op code ret : Nat} {f : Field} (h : f.addr ≠ 0x1500050 ∧ f.addr ≠ 0x1500054) (hlsb : f.lsb < 32) :
    getF (secAnswer op code ret s) f = getF s f := by
  refine secAnswer_onlyFields op code ret s f ?_
  simp only [List.forall_mem_cons, fieldKey, F.SEC.CMD_RETURN, F.SEC.CMD_RESULT_RESULT, F.SEC.CMD_RESULT_OPCODE]
  exact ⟨by omega, by omega, by omega, by simp⟩

theorem secAnswer_result (op code ret : Nat) (h : keysRise s.regs = true) :
    getF (secAnswer op code ret s) F.SEC.CMD_RESULT_RESULT = code % 256 :=
  (getF_setF_other _ _ _ _ (by decide)).trans (getF_setF_same _ _ _ (setF_keysRise _ _ _ h))

theorem secAnswer_opcode (op code ret : Nat) (h : keysRise s.regs = true) :
    getF (secAnswer op code ret s) F.SEC.CMD_RESULT_OPCODE = op % 256 :=
  (getF_setF_other _ _ _ _ (by decide)).trans ((getF_setF_other _ _ _ _ (by decide)).trans (getF_setF_same _ _ _ h))

theorem secAnswer_return (op code ret : Nat) (h : keysRise s.regs = true) :
    getF (secAnswer op code ret s) F.SEC.CMD_RETURN = ret % 2 ^ 32 :=
  getF_setF_same _ _ _ (setF_keysRise _ _ _ (setF_keysRise _ _ _ h))

theorem secAnswer_sec (op code ret : Nat) (s : State) : (secAnswer op code ret s).sec = s.sec := (secAnswer_moves ..).frame .sec rfl

/-! ### A command that ends at once -/

/-- The state that a call's own steps leave, with the record of a refusal. -/
def secDone (x : SecCall) (s : State) : State := secAnswer x.opcode (secFinish x s).2.1 (secFinish x s).2.2 (secFinish x s).1

theorem runSec_now {op a0 a1 a2 : Nat} {roles : Option (List Nat)} (hrole : RoleTaken roles c s) (h : CallClear c s)
    (hbusy : s.sec.busy = none) :
    runSec op c a0 a1 a2 false roles true s = secAfter op (secDone (secCall op c a0 a1 a2 s) (touchSession c s),
      { result := (secFinish (secCall op c a0 a1 a2 s) (touchSession c s)).2.1,
        ret := (secFinish (secCall op c a0 a1 a2 s) (touchSession c s)).2.2 }) := by
  unfold runSec
  rw [runCommand_clear (t := (secFinish (secCall op c a0 a1 a2 s) (touchSession c s)).1)
    (res := (secFinish (secCall op c a0 a1 a2 s) (touchSession c s)).2.1)
    (ret := (secFinish (secCall op c a0 a1 a2 s) (touchSession c s)).2.2) hrole h ?_]
  · rfl
  · dsimp only
    rw [busy_touchSession, hbusy, secInput_touchSession, if_neg (by simp), if_neg (by decide)]
    rfl

theorem secAfter_plain {op : Nat} (x : State × Reply) (h13 : op ≠ 0x13) (h40 : op ≠ 0x40) : secAfter op x = x := by
  simp only [secAfter, h13, h40, if_false, ite_self]

theorem runSec_plain {op a0 a1 a2 : Nat} {roles : Option (List Nat)} (hrole : RoleTaken roles c s) (h : CallClear c s)
    (hbusy : s.sec.busy = none) (h13 : op ≠ 0x13) (h40 : op ≠ 0x40) :
    (runSec op c a0 a1 a2 false roles true s).1 = secDone (secCall op c a0 a1 a2 s) (touchSession c s) := by
  rw [runSec_now hrole h hbusy, secAfter_plain _ h13 h40]

theorem secDone_ok {x : SecCall} {ret : Nat} (h : secBody x s = (t, resOk, ret)) : secDone x s = secAnswer x.opcode resOk ret t := by
  have hfinish : secFinish x s = (t, resOk, ret) := by
    rw [secFinish, h]
    rfl
  rw [secDone, hfinish]

theorem secDone_refused {x : SecCall} {code : Nat} (h : secBody x s = refuse code t) (hcode : code ≠ resOk) :
    secDone x s = secAnswer x.opcode code 0 (emit 0x15FF x.opcode code x.a0 t) := by
  have hfinish : secFinish x s = (emit 0x15FF x.opcode code x.a0 t, code, 0) := by
    rw [secFinish, h]
    exact Prod.ext (if_neg hcode) rfl
  rw [secDone, hfinish]

/-! ### Output and random words -/

theorem getF_putOutput (c : Caller) (ws : List Nat) (s : State) {f : Field} (hf : f.addr < 0x1501000) (hlsb : f.lsb < 32) :
    getF (putOutput c ws s) f = getF s f := by
  unfold putOutput
  split
  · rfl
  · refine look_foldl (look := fun t => getF t f) fun t e _ => getF_setF_other _ _ _ _ ?_
    simp only [fieldKey, F.SEC.MAILBOX]
    omega

theorem keys_putOutput (c : Caller) (ws : List Nat) (s : State) : (putOutput c ws s).sec.keys = s.sec.keys := by
  unfold putOutput
  split
  · rfl
  · exact look_foldl (look := fun t : State => t.sec.keys) fun _ _ _ => rfl

theorem drawWords_free (n : Nat) (s : State) : (drawWords n s).2.free = s.free + n := by
  induction n generalizing s with
  | zero => rfl
  | succ n ih =>
    show (drawWords n (drawFree s).2).2.free = _
    rw [ih]
    show s.free + 1 + n = _
    omega

end Sys2Proof.Machine
end

section
/-! SUPPORT. Session slots (R479 to R481): what begins, opens and ends a session. -/

namespace Sys2Proof.Machine

open Sys2Proof

variable {s t : State} {c : Caller} {k j : Nat}

/-! ### The registers of a slot -/

/-- The registers of session slot `k`. -/
def sesFields (k : Nat) : List Field :=
  [F.SEC.SES_STATE_SESSION_ID k, F.SEC.SES_STATE_ROLE k, F.SEC.SES_STATE_BAR k, F.SEC.SES_STATE_TRANSPORT k, F.SEC.SES_STATE_STATE k,
    F.SEC.SES_CRED_LO k, F.SEC.SES_CRED_HI k, F.SEC.SES_IDLE k]

theorem sesFields_apart {f : Field} (h : f.addr < 0x1500100 + 0x10 * k ∨ 0x1500110 + 0x10 * k ≤ f.addr) (hlsb : f.lsb < 32) :
    ∀ g ∈ sesFields k, fieldKey g ≠ fieldKey f := by
  simp only [sesFields, List.forall_mem_cons, fieldKey, F.SEC.SES_STATE_SESSION_ID, F.SEC.SES_STATE_ROLE, F.SEC.SES_STATE_BAR,
    F.SEC.SES_STATE_TRANSPORT, F.SEC.SES_STATE_STATE, F.SEC.SES_CRED_LO, F.SEC.SES_CRED_HI, F.SEC.SES_IDLE]
  exact ⟨by omega, by omega, by omega, by omega, by omega, by omega, by omega, by omega, by simp⟩

theorem sesFields_nodup (k : Nat) : ((sesFields k).map fieldKey).Nodup := by
  simp only [sesFields, List.map_cons, List.map_nil, fieldKey, F.SEC.SES_STATE_SESSION_ID, F.SEC.SES_STATE_ROLE, F.SEC.SES_STATE_BAR,
    F.SEC.SES_STATE_TRANSPORT, F.SEC.SES_STATE_STATE, F.SEC.SES_CRED_LO, F.SEC.SES_CRED_HI, F.SEC.SES_IDLE, List.nodup_cons, List.mem_cons,
    List.not_mem_nil, not_or, or_false, not_false_eq_true, List.nodup_nil, and_true]
  omega

theorem stateField_apart (h : j ≠ k) : ∀ g ∈ sesFields k, fieldKey g ≠ fieldKey (F.SEC.SES_STATE_STATE j) :=
  sesFields_apart (by simp only [F.SEC.SES_STATE_STATE]; omega) (show 0 < 32 by decide)

theorem sesState_touchSession (c : Caller) (j : Nat) (s : State) : sesState (touchSession c s) j = sesState s j :=
  getF_touchSession_off c (Or.inr (Or.inr (by simp only [F.SEC.SES_STATE_STATE]; omega))) (show 0 < 32 by decide) s

theorem sesState_secAnswer (op code ret j : Nat) (s : State) : sesState (secAnswer op code ret s) j = sesState s j :=
  getF_secAnswer (by simp only [F.SEC.SES_STATE_STATE]; omega) (show 0 < 32 by decide)

theorem sesState_emit (code w1 w2 w3 j : Nat) (s : State) : sesState (emit code w1 w2 w3 s) j = sesState s j := getF_emit ..

/-! ### A slot freed -/

theorem getF_freeSession {f : Field} (h : ∀ g ∈ sesFields k, fieldKey g ≠ fieldKey f) : getF (freeSession k s) f = getF s f :=
  getF_resetFields_other _ (sesFields k) f h

theorem sesState_freeSession_same (wf : WellKept s) : sesState (freeSession k s) k = 0 :=
  getF_resetFields_mem _ (sesFields k) (F.SEC.SES_STATE_STATE k) wf.regs (sesFields_nodup k) (by simp [sesFields])

theorem sesState_freeSession_other (h : j ≠ k) : sesState (freeSession k s) j = sesState s j := getF_freeSession (stateField_apart h)

/-! ### The Takes of a session that ends (R85) -/

/-- What the end of session `ses` does to the Take in slot `k`. -/
def sessionTake (ses : Nat) (s : State) (k : Nat) : State :=
  if (takeSlot s k).owner = some ses then
    if slotState s k = slotOpen then cutTake k 1 s else updSlot k (fun x => { x with owner := none }) s
  else s

theorem sessionTakes_eq (ses : Nat) (s : State) : sessionTakes ses s = [0, 1, 2, 3].foldl (sessionTake ses) s := rfl

theorem sessionTake_moves (ses : Nat) (s : State) (k : Nat) : Moves 0x200082 s (sessionTake ses s k) := by
  refine moves_ite (moves_ite (moves_step (cutTake_moves ..) rfl moves_refl) ?_) moves_refl
  exact moves_step (updSlot_moves ..) rfl moves_refl

theorem getF_sessionTake (ses : Nat) {i : Nat} (hi : i < 4) {f : Field} (hf : 0x1500000 ≤ f.addr) (hlsb : f.lsb < 32) (s : State) :
    getF (sessionTake ses s i) f = getF s f := by
  unfold sessionTake
  split
  · split
    · refine (freeSlot_onlyFields i _ f ?_).trans (getF_emit ..)
      simp only [List.forall_mem_cons, fieldKey, F.TXN.STATUS_OPEN, F.TXN.STATUS_QUEUED, F.TXN.SLOT_STATE_STATE, F.TXN.SLOT_WRITES,
        F.TXN.SLOT_TAKE_ID]
      exact ⟨by omega, by omega, by omega, by omega, by omega, by simp⟩
    · rfl
  · rfl

theorem getF_sessionTakes (ses : Nat) {f : Field} (hf : 0x1500000 ≤ f.addr) (hlsb : f.lsb < 32) (s : State) :
    getF (sessionTakes ses s) f = getF s f := by
  rw [sessionTakes_eq]
  refine look_foldl (look := fun v => getF v f) fun v i hi => getF_sessionTake ses ?_ hf hlsb v
  simp only [List.mem_cons, List.not_mem_nil, or_false] at hi
  omega

theorem sessionTake_other {ses i : Nat} (h : i ≠ k) :
    takeSlot (sessionTake ses s k) i = takeSlot s i ∧ slotState (sessionTake ses s k) i = slotState s i := by
  unfold sessionTake
  split
  · split
    · exact ⟨takeSlot_cutTake_other 1 h, slotState_cutTake_other 1 h⟩
    · exact ⟨takeSlot_updSlot_other h, rfl⟩
  · exact ⟨rfl, rfl⟩

theorem sessionTake_frees {ses i : Nat} (wf : WellKept s)
    (h : slotState s i = slotFree ∨ ((takeSlot s i).owner = some ses ∧ slotState s i = slotOpen ∧ i = k)) :
    slotState (sessionTake ses s k) i = slotFree := by
  by_cases hik : i = k
  · subst hik
    unfold sessionTake
    rcases h with hfree | ⟨howner, hopen, -⟩
    · split
      · rw [if_neg (by rw [hfree]; decide)]
        exact hfree
      · exact hfree
    · rw [if_pos howner, if_pos hopen]
      exact slotState_cutTake_same 1 wf.regs
  · rw [(sessionTake_other hik).2]
    exact h.resolve_right fun hs => hik hs.2.2

/-- The open Takes of the session are free once every slot has been looked at. -/
theorem sessionTakes_free {ses i : Nat} {l : List Nat} (wf : WellKept s)
    (h : slotState s i = slotFree ∨ ((takeSlot s i).owner = some ses ∧ slotState s i = slotOpen ∧ i ∈ l)) :
    slotState (l.foldl (sessionTake ses) s) i = slotFree := by
  induction l generalizing s with
  | nil => exact h.resolve_right (by simp)
  | cons x xs ih =>
    rw [List.foldl_cons]
    refine ih ((sessionTake_moves ..).form wf) ?_
    by_cases hx : i = x
    · exact Or.inl (sessionTake_frees wf (h.imp_right fun hs => ⟨hs.1, hs.2.1, hx⟩))
    · obtain ⟨htake, hstate⟩ := sessionTake_other (s := s) (ses := ses) hx
      rw [htake, hstate]
      exact h.imp_right fun hs => ⟨hs.1, hs.2.1, (List.mem_cons.1 hs.2.2).resolve_left hx⟩

/-! ### A session that ends (R480) -/

/-- An open session ended. -/
def sessionGone (k cause : Nat) (s : State) : State :=
  freeSession k (emit 0x1502 (getF s (F.SEC.SES_STATE_SESSION_ID k)) cause 0 (sessionTakes k s))

theorem endSession_open {cause : Nat} (h : sesState s k = 2) : endSession k cause s = sessionGone k cause s := by
  rw [endSession, h]
  rfl

theorem endSession_same (cause : Nat) (wf : WellKept s) : sesState (endSession k cause s) k = 0 := by
  unfold endSession
  split
  · next h => exact h
  · exact sesState_freeSession_same wf
  · exact sesState_freeSession_same ((emit_moves ..).form ((sessionTakes_moves ..).form wf))

theorem getF_endSession {cause : Nat} {f : Field} (hf : 0x1500000 ≤ f.addr) (hlsb : f.lsb < 32) (h : ∀ g ∈ sesFields k, fieldKey g ≠ fieldKey f) :
    getF (endSession k cause s) f = getF s f := by
  unfold endSession
  split
  · rfl
  · exact getF_freeSession h
  · exact (getF_freeSession h).trans ((getF_emit ..).trans (getF_sessionTakes k hf hlsb s))

theorem sesState_endSession_other (cause : Nat) (h : j ≠ k) : sesState (endSession k cause s) j = sesState s j :=
  getF_endSession (by simp only [F.SEC.SES_STATE_STATE]; omega) (show 0 < 32 by decide) (stateField_apart h)

theorem sessionGone_takes {cause i : Nat} (hi : i < 4) (howner : (takeSlot s i).owner = some k) (hopen : slotState s i = slotOpen)
    (wf : WellKept s) : slotState (sessionGone k cause s) i = slotFree := by
  have hmem : i ∈ [0, 1, 2, 3] := by
    simp only [List.mem_cons, List.not_mem_nil, or_false]
    omega
  have hfree : getF (sessionGone k cause s) (F.TXN.SLOT_STATE_STATE i) = getF (sessionTakes k s) (F.TXN.SLOT_STATE_STATE i) :=
    (getF_freeSession (sesFields_apart (by simp only [F.TXN.SLOT_STATE_STATE]; omega) (show 0 < 32 by decide))).trans (getF_emit ..)
  have htakes := sessionTakes_free (ses := k) (l := [0, 1, 2, 3]) wf (Or.inr ⟨howner, hopen, hmem⟩)
  rw [← sessionTakes_eq] at htakes
  rw [slotState, hfree]
  exact htakes

/-! ### Failed authentications (R481) -/

theorem getF_authFailed {transport cred cause : Nat} (f : Field) :
    getF (authFailed transport cred cause s) f = getF (bumpF F.SEC.AUTH_FAIL_COUNT 1 s) f := by
  unfold authFailed
  extract_lets now lockNs s1 tf cf known lockT lockC s2
  have h1 : getF s1 f = getF (bumpF F.SEC.AUTH_FAIL_COUNT 1 s) f := getF_emit ..
  have h2 : getF s2 f = getF s1 f := rfl
  split
  · exact (getF_emit ..).trans (h2.trans h1)
  · exact h2.trans h1

theorem authFailed_counts {transport cred cause : Nat} (wf : WellKept s) :
    getF (authFailed transport cred cause s) F.SEC.AUTH_FAIL_COUNT = min (getF s F.SEC.AUTH_FAIL_COUNT + 1) 0xFFFFFFFF :=
  (getF_authFailed _).trans (getF_bumpF_same _ _ _ rfl wf.regs)

theorem sesState_authFailed (transport cred cause j : Nat) (s : State) : sesState (authFailed transport cred cause s) j = sesState s j :=
  (getF_authFailed _).trans (getF_bumpF_other _ _ _ _ (by simp only [fieldKey, F.SEC.AUTH_FAIL_COUNT, F.SEC.SES_STATE_STATE]; omega))

/-! ### The two timers of a slot (R480) -/

theorem proofTimeout_due (hk : k < 8) (hhalf : sesState s k = 1) (hdue : (s.sec.sessions.getD k {}).beganNs + secondsNs 10 ≤ nowNs s 0)
    (wf : WellKept s) :
    ∃ t, exec (.sessionProofTimeout k) s = .next t ∧ sesState t k = 0 ∧
      getF t F.SEC.AUTH_FAIL_COUNT = min (getF s F.SEC.AUTH_FAIL_COUNT + 1) 0xFFFFFFFF ∧
      (∀ j, j < 8 → j ≠ k → sesState t j = sesState s j) ∧ OnlyParts [.regs, .cont, .host, .sec] s t := by
  have hexec : exec (.sessionProofTimeout k) s =
      .next (freeSession k (authFailed (getF s (F.SEC.SES_STATE_TRANSPORT k)) (sesCredential s k) 2 s)) := by
    show execSessionProofTimeout k s = _
    rw [execSessionProofTimeout, if_pos (by rw [decide_eq_true hk, decide_eq_true hdue, hhalf]; rfl)]
  refine ⟨_, hexec, sesState_freeSession_same ((authFailed_moves ..).form wf), ?_, fun j _ hj => ?_, exec_onlyParts hexec⟩
  · rw [getF_freeSession (sesFields_apart (Or.inl (by simp only [F.SEC.AUTH_FAIL_COUNT]; omega)) (by decide)), authFailed_counts wf]
  · rw [sesState_freeSession_other hj, sesState_authFailed]

theorem proofTimeout_idle (h : sesState s k ≠ 1 ∨ nowNs s 0 < (s.sec.sessions.getD k {}).beganNs + secondsNs 10) :
    exec (.sessionProofTimeout k) s = .next s := by
  show execSessionProofTimeout k s = _
  rw [execSessionProofTimeout, if_neg ?_]
  rcases h with hstate | hearly
  · simp [hstate]
  · rw [decide_eq_false (Nat.not_le.2 hearly), Bool.and_false]
    decide

theorem sessionEnded_due (hk : k < 8) (hopen : sesState s k = 2)
    (hdue : (s.sec.sessions.getD k {}).lastNs + secondsNs (secCfg s).idleS ≤ nowNs s 0 ∨
      (s.sec.sessions.getD k {}).openedNs + secondsNs (secCfg s).maxS ≤ nowNs s 0) :
    ∃ cause, exec (.sessionEnded k) s = .next (sessionGone k cause s) := by
  have hsession : sessionOpen s k = true := by simp [sessionOpen, hk, show getF s (F.SEC.SES_STATE_STATE k) = 2 from hopen]
  have hends : exec (.sessionEnded k) s = .next
      (if (s.sec.sessions.getD k {}).lastNs + secondsNs (secCfg s).idleS ≤ nowNs s 0 then endSession k 1 s
       else if (s.sec.sessions.getD k {}).openedNs + secondsNs (secCfg s).maxS ≤ nowNs s 0 then endSession k 2 s else s) := by
    show execSessionEnded k s = _
    rw [execSessionEnded]
    exact congrArg Host.Outcome.next (if_neg (by simp [hsession]))
  rw [endSession_open hopen, endSession_open hopen] at hends
  by_cases hidle : (s.sec.sessions.getD k {}).lastNs + secondsNs (secCfg s).idleS ≤ nowNs s 0
  · rw [if_pos hidle] at hends
    exact ⟨1, hends⟩
  · rw [if_neg hidle, if_pos (hdue.resolve_left hidle)] at hends
    exact ⟨2, hends⟩

theorem sessionEnded_shows (hk : k < 8) (hopen : sesState s k = 2)
    (hdue : (s.sec.sessions.getD k {}).lastNs + secondsNs (secCfg s).idleS ≤ nowNs s 0 ∨
      (s.sec.sessions.getD k {}).openedNs + secondsNs (secCfg s).maxS ≤ nowNs s 0) (wf : WellKept s) :
    ∃ t, exec (.sessionEnded k) s = .next t ∧ sesState t k = 0 ∧ (∀ j, j < 8 → j ≠ k → sesState t j = sesState s j) ∧
      (∀ i, i < 4 → (takeSlot s i).owner = some k → slotState s i = slotOpen → slotState t i = slotFree) ∧
      OnlyParts [.regs, .txn, .cont, .host, .sec] s t := by
  obtain ⟨cause, hexec⟩ := sessionEnded_due hk hopen hdue
  have hgone := endSession_open (cause := cause) hopen
  refine ⟨_, hexec, ?_, fun j _ hj => ?_, fun i hi howner htake => sessionGone_takes hi howner htake wf, exec_onlyParts hexec⟩
  · rw [← hgone]
    exact endSession_same cause wf
  · rw [← hgone]
    exact sesState_endSession_other cause hj

theorem sessionEnded_idle (h : sesState s k ≠ 2 ∨ (nowNs s 0 < (s.sec.sessions.getD k {}).lastNs + secondsNs (secCfg s).idleS ∧
    nowNs s 0 < (s.sec.sessions.getD k {}).openedNs + secondsNs (secCfg s).maxS)) : exec (.sessionEnded k) s = .next s := by
  show execSessionEnded k s = _
  rw [execSessionEnded]
  refine congrArg Host.Outcome.next ?_
  by_cases hopen : sessionOpen s k = true
  · obtain ⟨hidle, hage⟩ := h.resolve_left fun hne => hne (eq_of_beq (Bool.and_eq_true_iff.1 hopen).2)
    exact (if_neg (by simp [hopen])).trans ((if_neg (Nat.not_le.2 hidle)).trans (if_neg (Nat.not_le.2 hage)))
  · exact if_pos (by simpa using hopen)

/-! ### Lockouts and the self-test (R481, R492) -/

theorem lockoutExpired_credential (cred : Nat) (s : State) :
    ∃ t, exec (.lockoutExpired cred none) s = .next t ∧ OnlyParts [.sec] s t ∧ t.sec.transportLocked = s.sec.transportLocked ∧
      ∀ e, e ∈ t.sec.locked ↔ e ∈ s.sec.locked ∧ (e.1 = cred → nowNs s 0 < e.2 + secondsNs (secCfg s).lockoutS) := by
  have hexec : exec (.lockoutExpired cred none) s = .next (updSec (fun x => { x with
      locked := x.locked.filter (fun e => e.1 != cred || decide (nowNs s 0 < e.2 + secondsNs (secCfg s).lockoutS)) }) s) := rfl
  refine ⟨_, hexec, exec_onlyParts hexec, rfl, fun e => List.mem_filter.trans (and_congr_right fun _ => ?_)⟩
  simp [imp_iff_not_or]

theorem lockoutExpired_transport (cred tr : Nat) (s : State) :
    ∃ t, exec (.lockoutExpired cred (some tr)) s = .next t ∧ OnlyParts [.sec] s t ∧ t.sec.locked = s.sec.locked ∧
      ∀ e, e ∈ t.sec.transportLocked ↔ e ∈ s.sec.transportLocked ∧ (e.1 = tr → nowNs s 0 < e.2 + secondsNs 60) := by
  have hexec : exec (.lockoutExpired cred (some tr)) s = .next (updSec (fun x => { x with
      transportLocked := x.transportLocked.filter (fun e => e.1 != tr || decide (nowNs s 0 < e.2 + secondsNs 60)) }) s) := rfl
  refine ⟨_, hexec, exec_onlyParts hexec, rfl, fun e => List.mem_filter.trans (and_congr_right fun _ => ?_)⟩
  simp [imp_iff_not_or]

theorem certifiedFails_drbg (h : flag s F.SEC.STATUS_DRBG_FAILED = true) : ∃ n, certifiedFails s = some n := by
  rw [certifiedFails, h]
  split
  · exact ⟨_, rfl⟩
  · split
    · exact ⟨_, rfl⟩
    · split
      · exact ⟨_, rfl⟩
      · split <;> exact ⟨_, rfl⟩

/-- CERTIFIED is down where a condition fails, and nothing else of the registers changes. -/
theorem showCertified_fallen {n : Nat} (h : certifiedFails s = some n) (wf : WellKept s) :
    flag (showCertified s) F.SEC.STATUS_CERTIFIED = false ∧ OnlyFields [F.SEC.STATUS_CERTIFIED] s (showCertified s) := by
  cases hcert : flag s F.SEC.STATUS_CERTIFIED with
  | false =>
    have hsame : showCertified s = s := by rw [showCertified, h, hcert]
    rw [hsame]
    exact ⟨hcert, onlyFields_refl⟩
  | true =>
    have hfall : showCertified s = emit 0x150E n 0 0 (setF F.SEC.STATUS_CERTIFIED 0 s) := by rw [showCertified, h, hcert]
    rw [hfall]
    refine ⟨?_, onlyFields_emit (onlyFields_single_setF _ _ _)⟩
    rw [flag, getF_emit]
    exact flag_setF_ofBool (s := s) (f := F.SEC.STATUS_CERTIFIED) false rfl wf.regs

/-! ### A unit's health -/

/-- A base-4 digit replaced by 2, in a number that is then cut to `w` digits. -/
theorem digit_replaced (n : Nat) {i w : Nat} (hi : i < w) : (n + 2 * 4 ^ i - n / 4 ^ i % 4 * 4 ^ i) % 4 ^ w / 4 ^ i % 4 = 2 := by
  have hpow : 4 ^ w = 4 ^ i * (4 * 4 ^ (w - i - 1)) := by
    rw [← Nat.mul_assoc, ← Nat.pow_succ, ← Nat.pow_add]
    congr 1
    omega
  have hsplit : n + 2 * 4 ^ i - n / 4 ^ i % 4 * 4 ^ i = n % 4 ^ i + 4 ^ i * (4 * (n / 4 ^ i / 4) + 2) := by
    have hdigits : n = n % 4 ^ i + 4 ^ i * (4 * (n / 4 ^ i / 4) + n / 4 ^ i % 4) := by
      rw [Nat.div_add_mod, Nat.mod_add_div]
    have hexpand : ∀ q d a r : Nat, r + a * (4 * q + d) + 2 * a - d * a = r + a * (4 * q + 2) := fun q d a r => by
      rw [Nat.mul_add, Nat.mul_add, Nat.mul_comm d a, Nat.mul_comm 2 a]
      omega
    calc n + 2 * 4 ^ i - n / 4 ^ i % 4 * 4 ^ i
        = n % 4 ^ i + 4 ^ i * (4 * (n / 4 ^ i / 4) + n / 4 ^ i % 4) + 2 * 4 ^ i - n / 4 ^ i % 4 * 4 ^ i := by rw [← hdigits]
      _ = n % 4 ^ i + 4 ^ i * (4 * (n / 4 ^ i / 4) + 2) := hexpand _ _ _ _
  rw [hsplit, hpow, Nat.mod_mul_right_div_self, Nat.add_mul_div_left _ _ (Nat.pow_pos (by decide)),
    Nat.div_eq_of_lt (Nat.mod_lt _ (Nat.pow_pos (by decide))), Nat.mod_mul_right_mod]
  omega

/-- The word of HEALTH that holds unit `u`'s digit. -/
def healthWord (u : Nat) : Field := if u < 16 then F.DEV.HEALTH_LO else F.DEV.HEALTH_HI

/-- The place of unit `u`'s digit in its word. -/
def healthPlace (u : Nat) : Nat := if u < 16 then u else u - 16

theorem unitHealth_eq {u : Nat} (hpresent : present s u = true) : unitHealth s u = getF s (healthWord u) / 4 ^ healthPlace u % 4 := by
  rw [unitHealth, hpresent, if_neg (by decide), healthWord, healthPlace]
  split <;> rfl

theorem healthWord_shows (u : Nat) : (healthWord u).width = 32 ∧ fieldKey (F.TICK.UNIT_STATE_HEALTH u) ≠ fieldKey (healthWord u) ∧
    ∀ g ∈ causeFields, fieldKey g ≠ fieldKey (healthWord u) := by
  unfold healthWord
  split
  · refine ⟨rfl, ?_, by decide⟩
    simp only [fieldKey, F.TICK.UNIT_STATE_HEALTH, F.DEV.HEALTH_LO]
    omega
  · refine ⟨rfl, ?_, by decide⟩
    simp only [fieldKey, F.TICK.UNIT_STATE_HEALTH, F.DEV.HEALTH_HI]
    omega

/-- Unit `u`'s digit of HEALTH and its UNIT_STATE written FAILED. -/
def healthWritten (u : Nat) (s : State) : State :=
  setF (F.TICK.UNIT_STATE_HEALTH u) 2
    (setF (healthWord u) (getF s (healthWord u) + 2 * 4 ^ healthPlace u - unitHealth s u * 4 ^ healthPlace u) s)

theorem setHealth_two {u : Nat} (hpresent : present s u = true) :
    setHealth u 2 s = if (2 == 2 && unitHealth s u != 2) = true then raiseCause 22 (healthWritten u s) else healthWritten u s := by
  unfold setHealth
  rw [if_neg (by rw [hpresent]; decide), ite_self]
  rfl

theorem setHealth_word {u : Nat} (hpresent : present s u = true) (wf : WellKept s) :
    getF (setHealth u 2 s) (healthWord u) =
      (getF s (healthWord u) + 2 * 4 ^ healthPlace u - unitHealth s u * 4 ^ healthPlace u) % 2 ^ 32 := by
  obtain ⟨hwidth, hunit, hcause⟩ := healthWord_shows u
  have hwritten : getF (healthWritten u s) (healthWord u) =
      (getF s (healthWord u) + 2 * 4 ^ healthPlace u - unitHealth s u * 4 ^ healthPlace u) % 2 ^ 32 := by
    rw [healthWritten, getF_setF_other _ _ _ _ hunit, getF_setF_same _ _ _ wf.regs, hwidth]
  rw [setHealth_two hpresent]
  split
  · exact (raiseCause_onlyFields 22 _ _ hcause).trans hwritten
  · exact hwritten

/-- A unit that is present is FAILED once its health is set so. -/
theorem setHealth_failed {u : Nat} (hu : u < 24) (hpresent : present s u = true) (wf : WellKept s) : unitHealth (setHealth u 2 s) u = 2 := by
  have hplace : healthPlace u < 16 := by
    unfold healthPlace
    split <;> omega
  rw [unitHealth_eq ((present_setHealth _ u 2 u).trans hpresent), setHealth_word hpresent wf, unitHealth_eq hpresent]
  exact digit_replaced _ hplace

/-! ### The self-test (R492) -/

/-- The registers of a failed self-test before CERTIFIED falls. -/
def drbgStopped (which : Nat) (s : State) : State := showSecHealth (emit 0x150D which 0 0 (setF F.SEC.STATUS_DRBG_FAILED 1 s))

theorem drbgStopped_moves (which : Nat) (s : State) : Moves 0x600002 s (drbgStopped which s) :=
  moves_step (showSecHealth_moves _) rfl (moves_step (emit_moves ..) rfl (moves_step (setF_moves ..) rfl moves_refl))

theorem drbgStopped_shows (which : Nat) (wf : WellKept s) :
    flag (drbgStopped which s) F.SEC.STATUS_DRBG_FAILED = true ∧
      (present s 21 = true → unitHealth (drbgStopped which s) 21 = 2) := by
  have hfailed : flag (emit 0x150D which 0 0 (setF F.SEC.STATUS_DRBG_FAILED 1 s)) F.SEC.STATUS_DRBG_FAILED = true := by
    rw [flag, getF_emit]
    exact flag_setF_one _ rfl wf.regs
  have hpresent : present (emit 0x150D which 0 0 (setF F.SEC.STATUS_DRBG_FAILED 1 s)) 21 = present s 21 :=
    present_of_onlyFields (fs := [F.SEC.STATUS_DRBG_FAILED]) (onlyFields_emit (onlyFields_single_setF _ _ _)) (by decide) 21
  have hwf : WellKept (emit 0x150D which 0 0 (setF F.SEC.STATUS_DRBG_FAILED 1 s)) := (emit_moves ..).form ((setF_moves ..).form wf)
  unfold drbgStopped
  generalize emit 0x150D which 0 0 (setF F.SEC.STATUS_DRBG_FAILED 1 s) = v at hfailed hpresent hwf ⊢
  have hhealth : showSecHealth v = setHealth 21 2 v := by rw [showSecHealth, hfailed, if_pos rfl]
  rw [hhealth]
  refine ⟨?_, fun h => setHealth_failed (by decide) (hpresent.trans h) hwf⟩
  rw [flag, setHealth_onlyFields 21 2 v _ (by decide)]
  exact hfailed

theorem selfTestFailed_shows {which : Nat} (hwhich : which < 2) (hruns : flag s F.SEC.STATUS_RUNNING = true)
    (hdrbg : flag s F.SEC.STATUS_DRBG_FAILED = false) (wf : WellKept s) :
    ∃ t, exec (.selfTestFailed which) s = .next t ∧ flag t F.SEC.STATUS_DRBG_FAILED = true ∧ flag t F.SEC.STATUS_CERTIFIED = false ∧
      (present s 21 = true → unitHealth t 21 = 2) ∧ OnlyParts [.regs, .cont, .host] s t := by
  have hexec : exec (.selfTestFailed which) s = .next (showCertified (drbgStopped which s)) := by
    show execSelfTestFailed which s = _
    rw [execSelfTestFailed, if_pos (by rw [hruns, hdrbg, decide_eq_true hwhich]; rfl)]
    rfl
  have hmoves := drbgStopped_moves which s
  obtain ⟨hfailed, hhealth⟩ := drbgStopped_shows which wf
  obtain ⟨n, hn⟩ := certifiedFails_drbg hfailed
  obtain ⟨hfallen, hkept⟩ := showCertified_fallen hn (hmoves.form wf)
  refine ⟨_, hexec, ?_, hfallen, fun h => ?_, onlyParts_of_moves s _ (moves_step (showCertified_moves _) rfl hmoves : Moves 0x600002 s _) rfl⟩
  · rw [flag, hkept _ (by decide)]
    exact hfailed
  · rw [← hhealth h, unitHealth, unitHealth, present_of_onlyFields hkept (by decide), hkept _ (by decide), hkept _ (by decide)]

/-! ### A session begun (R479) -/

theorem getF_putFields_other (l : List (Field × Nat)) {f : Field} (h : ∀ e ∈ l, fieldKey e.1 ≠ fieldKey f) :
    getF (putFields l s) f = getF s f := by
  unfold putFields
  exact look_foldl (look := fun v => getF v f) fun v e he => getF_setF_other _ _ _ _ (h e he)

theorem getF_putFields_mem (l : List (Field × Nat)) {f : Field} {n : Nat} (hs : keysRise s.regs = true)
    (hk : (l.map fun e => fieldKey e.1).Nodup) (hf : (f, n) ∈ l) : getF (putFields l s) f = n % 2 ^ f.width := by
  induction l generalizing s with
  | nil => cases hf
  | cons e l ih =>
    obtain ⟨he, hk⟩ := List.nodup_cons.1 hk
    rcases List.mem_cons.1 hf with rfl | hf
    · have hother : ∀ x ∈ l, fieldKey x.1 ≠ fieldKey f := fun x hx hsame => he (List.mem_map.2 ⟨x, hx, hsame⟩)
      exact (getF_putFields_other (s := setF f n s) l hother).trans (getF_setF_same _ _ _ hs)
    · exact ih (s := setF e.1 e.2 s) (setF_keysRise _ _ _ hs) hk hf

theorem nextSessionId_lt (n i : Nat) (s : State) (h : i < 65536 ∨ 0 < n) : nextSessionId s n i < 65536 := by
  induction n generalizing i with
  | zero => exact h.resolve_right (by decide)
  | succ n ih =>
    have hnext : (if i ≥ 65535 then 1 else i + 1) < 65536 := by
      split <;> omega
    unfold nextSessionId
    extract_lets j
    split
    · exact ih j (Or.inl hnext)
    · exact hnext

/-- The values that fill a slot. -/
def sesValues (k id role transport state cred : Nat) : List (Field × Nat) :=
  [(F.SEC.SES_STATE_SESSION_ID k, id), (F.SEC.SES_STATE_ROLE k, role), (F.SEC.SES_STATE_BAR k, 0),
    (F.SEC.SES_STATE_TRANSPORT k, transport), (F.SEC.SES_STATE_STATE k, state), (F.SEC.SES_CRED_LO k, lo32 cred),
    (F.SEC.SES_CRED_HI k, hi32 cred), (F.SEC.SES_IDLE k, 0)]

theorem sesValues_fields (k id role transport state cred : Nat) : (sesValues k id role transport state cred).map Prod.fst = sesFields k := rfl

theorem sesValues_nodup (k id role transport state cred : Nat) :
    ((sesValues k id role transport state cred).map fun e => fieldKey e.1).Nodup := sesFields_nodup k

/-- A filled slot as its registers show it. -/
theorem fillSession_shows {id role transport state cred : Nat} {h1 keys : List Nat} (hid : id < 65536) (hrole : role < 16)
    (htransport : transport < 4) (hstate : state < 4) (hcred : cred < 2 ^ 64) (wf : WellKept s) :
    getF (fillSession k id role transport state cred h1 keys s) (F.SEC.SES_STATE_SESSION_ID k) = id ∧
      getF (fillSession k id role transport state cred h1 keys s) (F.SEC.SES_STATE_ROLE k) = role ∧
      getF (fillSession k id role transport state cred h1 keys s) (F.SEC.SES_STATE_TRANSPORT k) = transport ∧
      sesState (fillSession k id role transport state cred h1 keys s) k = state ∧
      sesCredential (fillSession k id role transport state cred h1 keys s) k = cred := by
  have hmem : ∀ (f : Field) (n : Nat), (f, n) ∈ sesValues k id role transport state cred → n < 2 ^ f.width →
      getF (fillSession k id role transport state cred h1 keys s) f = n := fun f n hf hn =>
    (getF_putFields_mem _ (show keysRise s.regs = true from wf.regs) (sesValues_nodup k id role transport state cred) hf).trans
      (Nat.mod_eq_of_lt hn)
  have hlo : lo32 cred < 2 ^ 32 := Nat.mod_lt _ (by decide)
  have hhi : hi32 cred < 2 ^ 32 := by
    simp only [hi32]
    omega
  refine ⟨hmem _ _ (by simp [sesValues]) hid, hmem _ _ (by simp [sesValues]) hrole, hmem _ _ (by simp [sesValues]) htransport,
    hmem _ _ (by simp [sesValues]) hstate, ?_⟩
  rw [sesCredential, hmem _ _ (by simp [sesValues]) hlo, hmem _ _ (by simp [sesValues]) hhi]
  simp only [lo32, hi32]
  omega

theorem getF_fillSession_other {id role transport state cred : Nat} {h1 keys : List Nat} {f : Field}
    (h : ∀ g ∈ sesFields k, fieldKey g ≠ fieldKey f) : getF (fillSession k id role transport state cred h1 keys s) f = getF s f := by
  refine getF_putFields_other (sesValues k id role transport state cred) fun e he => h e.1 ?_
  rw [← sesValues_fields k id role transport state cred]
  exact List.mem_map_of_mem he

/-- A session created half-open in slot `k`, its response in the caller's output. -/
def sessionMade (c : Caller) (k : Nat) (request : List Nat) (q : SessionRequest) (s : State) : State :=
  let id := nextSessionId s 9 s.sec.lastSessionId
  let r := sessionResponse id request q s
  putOutput c r.1.1 (fillSession k id q.role (transportCode c) 1 q.credential r.1.2.1 r.1.2.2 r.2)

theorem createSession_free {request : List Nat} {q : SessionRequest} (h : (List.range 8).find? (fun k => sesState s k == 0) = some k) :
    createSession c request q false s = (sessionMade c k request q s, resOk, nextSessionId s 9 s.sec.lastSessionId) := by
  rw [createSession, h, sessionMade]
  dsimp only
  generalize nextSessionId s 9 s.sec.lastSessionId = id
  generalize sessionResponse id request q s = r
  obtain ⟨⟨ws, h1, keys⟩, s1⟩ := r
  rfl

theorem createSession_full {request : List Nat} {q : SessionRequest} (h : ∀ k, k < 8 → sesState s k ≠ 0) :
    createSession c request q false s = refuse resExhausted s := by
  have hnone : (List.range 8).find? (fun k => sesState s k == 0) = none := by
    simpa [List.find?_eq_none] using h
  rw [createSession, hnone]

theorem sessionMade_moves (c : Caller) (k : Nat) (request : List Nat) (q : SessionRequest) (s : State) :
    Moves 0x4800002 s (sessionMade c k request q s) :=
  moves_step (putOutput_moves ..) rfl (moves_step (fillSession_moves ..) rfl (moves_step (sessionResponse_moves ..) rfl moves_refl))

theorem transportCode_lt (c : Caller) : transportCode c < 4 := by
  unfold transportCode
  split <;> decide

theorem sessionMade_shows {request : List Nat} {q : SessionRequest} (hk : k < 8) (hrole : q.role ≤ 4) (hcred : q.credential < 2 ^ 64)
    (wf : WellKept s) :
    sesState (sessionMade c k request q s) k = 1 ∧ getF (sessionMade c k request q s) (F.SEC.SES_STATE_ROLE k) = q.role ∧
      sesCredential (sessionMade c k request q s) k = q.credential ∧
      getF (sessionMade c k request q s) (F.SEC.SES_STATE_TRANSPORT k) = transportCode c ∧
      getF (sessionMade c k request q s) (F.SEC.SES_STATE_SESSION_ID k) = nextSessionId s 9 s.sec.lastSessionId ∧
      ∀ j, j < 8 → j ≠ k → sesState (sessionMade c k request q s) j = sesState s j := by
  have hid := nextSessionId_lt 9 s.sec.lastSessionId s (Or.inr (by decide))
  unfold sessionMade
  extract_lets id r
  have hr : Moves 0x4000000 s r.2 := sessionResponse_moves ..
  obtain ⟨hsession, hroleShown, htransport, hstate, hcredential⟩ := fillSession_shows (k := k) (h1 := r.1.2.1) (keys := r.1.2.2) (state := 1)
    hid (Nat.lt_of_le_of_lt hrole (by decide)) (transportCode_lt c) (by decide) hcred (hr.form wf)
  have hout : ∀ f : Field, f.addr < 0x1501000 → f.lsb < 32 → ∀ v, getF (putOutput c r.1.1 v) f = getF v f := fun f hf hlsb v =>
    getF_putOutput c r.1.1 v hf hlsb
  refine ⟨?_, ?_, ?_, ?_, ?_, fun j hj hne => ?_⟩
  · rw [sesState, hout _ (by simp only [F.SEC.SES_STATE_STATE]; omega) (show 0 < 32 by decide)]
    exact hstate
  · rw [hout _ (by simp only [F.SEC.SES_STATE_ROLE]; omega) (show 8 < 32 by decide), hroleShown]
  · rw [sesCredential, hout _ (by simp only [F.SEC.SES_CRED_LO]; omega) (show 0 < 32 by decide),
      hout _ (by simp only [F.SEC.SES_CRED_HI]; omega) (show 0 < 32 by decide)]
    exact hcredential
  · rw [hout _ (by simp only [F.SEC.SES_STATE_TRANSPORT]; omega) (show 2 < 32 by decide), htransport]
  · rw [hout _ (by simp only [F.SEC.SES_STATE_SESSION_ID]; omega) (show 16 < 32 by decide), hsession]
  · rw [sesState, hout _ (by simp only [F.SEC.SES_STATE_STATE]; omega) (show 0 < 32 by decide),
      getF_fillSession_other (stateField_apart hne), getF_congr s r.2 _ (hr.frame .regs rfl)]
    rfl

/-- The request of a SESSION_BEGIN in some input words. -/
def requestOf (ws : List Nat) : SessionRequest := sessionRequest (bytesOfWords (ws.take 38))

/-- Nothing turns a request away before its credential is looked up. -/
structure RequestClear (c : Caller) (q : SessionRequest) (s : State) : Prop where
  drbg : flag s F.SEC.STATUS_DRBG_FAILED = false
  form : q.wellFormed = true
  role : q.role ≤ 4
  named : q.credential ≠ 0
  transport : ∀ e ∈ s.sec.transportLocked, e.1 ≠ transportCode c
  credential : ∀ e ∈ s.sec.locked, e.1 ≠ q.credential

/-- The outcome of a clear request is decided by its credential. -/
theorem beginBody_clear {ws : List Nat} (h : RequestClear c (requestOf ws) s) :
    beginBody c ws s = match findKey s (requestOf ws).credential with
      | none => refuse resNotAuthorised (authFailed (transportCode c) (requestOf ws).credential 0 s)
      | some (_, k) =>
        if k.kind ≠ 6 then refuse resNotAuthorised (authFailed (transportCode c) (requestOf ws).credential 0 s)
        else if k.roles / 2 ^ (requestOf ws).role % 2 = 0 ||
            (transportCode c = 1 && (secCfg s).mgmtRoles / 2 ^ (requestOf ws).role % 2 = 0) then
          refuse resNotAuthorised (authFailed (transportCode c) (requestOf ws).credential 3 s)
        else createSession c (bytesOfWords (ws.take 38)) (requestOf ws) false s := by
  obtain ⟨hdrbg, hform, hrole, hnamed, htransport, hcredential⟩ := h
  have hport : s.sec.transportLocked.any (fun e => e.1 == transportCode c) = false := by simpa using htransport
  have hlock : s.sec.locked.any (fun e => e.1 == (requestOf ws).credential) = false := by simpa using hcredential
  have hread : (!(requestOf ws).wellFormed || decide (4 < (requestOf ws).role)) = false := by
    rw [hform, decide_eq_false (Nat.not_lt.2 hrole)]
    rfl
  unfold beginBody
  exact (if_neg (by simp [hdrbg])).trans ((if_neg (Bool.eq_false_iff.1 hread)).trans
    ((if_neg (by simp [hport])).trans ((if_neg hnamed).trans (if_neg (Bool.eq_false_iff.1 hlock)))))

theorem requestClear_touchSession {q : SessionRequest} (h : RequestClear c q s) : RequestClear c q (touchSession c s) := by
  obtain ⟨hdrbg, hform, hrole, hnamed, htransport, hcredential⟩ := h
  obtain ⟨l, hl⟩ := sec_touchSession c s
  refine ⟨?_, hform, hrole, hnamed, by rw [hl]; exact htransport, by rw [hl]; exact hcredential⟩
  rw [flag, getF_touchSession_off c (Or.inl (by decide)) (by decide)]
  exact hdrbg

theorem exec_sessionBegin (a0 : Nat) (hhost : hostAccess s = true) (h : CallClear c s) (hbusy : s.sec.busy = none) :
    exec (.sessionBegin c a0 false) s = .next (secDone (secCall 0x01 c a0 0 0 s) (touchSession c s)) := by
  show execSessionBegin c a0 false s = _
  rw [execSessionBegin, cmdSessionBegin, hhost, runSec_plain roleTaken_none h hbusy (by decide) (by decide)]

theorem bytesLE_lt (n v : Nat) : ∀ b ∈ bytesLE n v, b < 256 := by
  induction n generalizing v with
  | zero => simp [bytesLE]
  | succ n ih => exact List.forall_mem_cons.2 ⟨Nat.mod_lt _ (by decide), ih _⟩

theorem natLE_lt {l : List Nat} (h : ∀ b ∈ l, b < 256) : natLE l < 256 ^ l.length := by
  induction l with
  | nil => decide
  | cons b l ih =>
    rw [List.forall_mem_cons] at h
    have hrest := ih h.2
    rw [natLE, List.length_cons, Nat.pow_succ]
    omega

theorem requestOf_credential_lt (ws : List Nat) : (requestOf ws).credential < 2 ^ 64 := by
  have hbytes : ∀ b ∈ ((bytesOfWords (ws.take 38)).drop 0).take 8, b < 256 := fun b hb => by
    obtain ⟨w, -, hw⟩ := List.mem_flatMap.1 (List.mem_of_mem_drop (List.mem_of_mem_take hb))
    exact bytesLE_lt 4 w b hw
  refine Nat.lt_of_lt_of_le (natLE_lt hbytes) ?_
  calc 256 ^ (((bytesOfWords (ws.take 38)).drop 0).take 8).length ≤ 256 ^ 8 := Nat.pow_le_pow_right (by decide) (List.length_take_le _ _)
    _ = 2 ^ 64 := by decide

theorem secBody_begin (c : Caller) (a0 : Nat) (s v : State) : secBody (secCall 0x01 c a0 0 0 s) v = beginBody c (secInput c s) v := rfl

theorem sessionBegin_creates {e : Nat × KeyEntry}
    (hclear : RequestClear c (requestOf (secInput c s)) s) (hkey : findKey s (requestOf (secInput c s)).credential = some e)
    (hkind : e.2.kind = 6) (hrole : e.2.roles / 2 ^ (requestOf (secInput c s)).role % 2 = 1)
    (hmgmt : transportCode c = 1 → (secCfg s).mgmtRoles / 2 ^ (requestOf (secInput c s)).role % 2 = 1) :
    beginBody c (secInput c s) (touchSession c s) =
      createSession c (bytesOfWords ((secInput c s).take 38)) (requestOf (secInput c s)) false (touchSession c s) := by
  rw [beginBody_clear (requestClear_touchSession hclear), findKey_touchSession, hkey]
  obtain ⟨n, k⟩ := e
  dsimp only at hkind hrole ⊢
  rw [if_neg (fun hne => hne hkind), if_neg]
  have hcfg : secCfg (touchSession c s) = secCfg s := by rw [secCfg, secCfg, cfg_touchSession]
  rw [hcfg, hrole]
  simpa using hmgmt

theorem findFree_touchSession (c : Caller) (s : State) :
    (List.range 8).find? (fun k => sesState (touchSession c s) k == 0) = (List.range 8).find? (fun k => sesState s k == 0) := by
  simp only [sesState_touchSession]

theorem sessionBegin_made {a0 : Nat} {q : SessionRequest} (hhost : hostAccess s = true) (h : CallClear c s) (hbusy : s.sec.busy = none)
    (hbody : beginBody c (secInput c s) (touchSession c s) =
      createSession c (bytesOfWords ((secInput c s).take 38)) q false (touchSession c s))
    (hrole : q.role ≤ 4) (hcred : q.credential < 2 ^ 64) (hfree : (List.range 8).find? (fun k => sesState s k == 0) = some k)
    (wf : WellKept s) :
    ∃ t, exec (.sessionBegin c a0 false) s = .next t ∧ sesState t k = 1 ∧ getF t (F.SEC.SES_STATE_ROLE k) = q.role ∧
      sesCredential t k = q.credential ∧ getF t (F.SEC.SES_STATE_TRANSPORT k) = transportCode c ∧
      getF t F.SEC.CMD_RETURN = getF t (F.SEC.SES_STATE_SESSION_ID k) ∧ getF t F.SEC.CMD_RESULT_RESULT = resOk ∧
      (∀ j, j < 8 → j ≠ k → sesState t j = sesState s j) ∧ OnlyParts [.regs, .sec, .free] s t := by
  have hexec := exec_sessionBegin a0 hhost h hbusy
  have wf1 := (touchSession_moves c s).form wf
  have hk : k < 8 := List.mem_range.1 (List.mem_of_find?_eq_some hfree)
  rw [secDone_ok ((secBody_begin c a0 s _).trans (hbody.trans (createSession_free ((findFree_touchSession c s).trans hfree))))] at hexec
  obtain ⟨hstate, hroleShown, hcredential, htransport, hsession, hothers⟩ :=
    sessionMade_shows (c := c) (request := bytesOfWords ((secInput c s).take 38)) hk hrole hcred wf1
  have hmade := sessionMade_moves c k (bytesOfWords ((secInput c s).take 38)) q (touchSession c s)
  have hrise := (hmade.form wf1).regs
  have hid := nextSessionId_lt 9 (touchSession c s).sec.lastSessionId (touchSession c s) (Or.inr (by decide))
  have hall : Moves 0x4800002 s (sessionMade c k (bytesOfWords ((secInput c s).take 38)) q (touchSession c s)) :=
    moves_step hmade rfl (moves_step (touchSession_moves c s) rfl moves_refl)
  generalize sessionMade c k (bytesOfWords ((secInput c s).take 38)) q (touchSession c s) = v at *
  have hkeep : ∀ f : Field, 0x1500100 ≤ f.addr → f.lsb < 32 → ∀ op code ret, getF (secAnswer op code ret v) f = getF v f :=
    fun f hf hlsb op code ret => getF_secAnswer (by omega) hlsb
  refine ⟨_, hexec, (sesState_secAnswer ..).trans hstate, ?_, ?_, ?_, ?_, secAnswer_result _ _ _ hrise, fun j hj hne => ?_,
    onlyParts_of_moves s _ (moves_step (secAnswer_moves ..) rfl hall : Moves 0x4800002 s _) rfl⟩
  · rw [hkeep _ (by simp only [F.SEC.SES_STATE_ROLE]; omega) (show 8 < 32 by decide), hroleShown]
  · rw [sesCredential, hkeep _ (by simp only [F.SEC.SES_CRED_LO]; omega) (show 0 < 32 by decide),
      hkeep _ (by simp only [F.SEC.SES_CRED_HI]; omega) (show 0 < 32 by decide)]
    exact hcredential
  · rw [hkeep _ (by simp only [F.SEC.SES_STATE_TRANSPORT]; omega) (show 2 < 32 by decide), htransport]
  · rw [secAnswer_return _ _ _ hrise, hkeep _ (by simp only [F.SEC.SES_STATE_SESSION_ID]; omega) (show 16 < 32 by decide), hsession]
    exact Nat.mod_eq_of_lt (by omega)
  · rw [sesState_secAnswer, hothers j hj hne, sesState_touchSession]

/-- What a refusal by a command's own steps shows. -/
theorem secDone_refusedShows {x : SecCall} {code : Nat} {v : State} (h : secBody x s = refuse code v) (hcode : code ≠ resOk ∧ code < 256)
    (wf : WellKept v) :
    getF (secDone x s) F.SEC.CMD_RESULT_RESULT = code ∧ (∀ j, sesState (secDone x s) j = sesState v j) ∧
      (∀ f : Field, (f.addr ≠ 0x1500050 ∧ f.addr ≠ 0x1500054) → f.lsb < 32 → getF (secDone x s) f = getF v f) ∧
      Moves 0x200002 v (secDone x s) := by
  rw [secDone_refused h hcode.1]
  refine ⟨?_, fun j => ?_, fun f hf hlsb => ?_, moves_step (secAnswer_moves ..) rfl (moves_step (emit_moves ..) rfl moves_refl)⟩
  · rw [secAnswer_result _ _ _ ((emit_moves ..).form wf).regs]
    exact Nat.mod_eq_of_lt hcode.2
  · rw [sesState_secAnswer, sesState_emit]
  · rw [getF_secAnswer hf hlsb, getF_emit]

theorem sessionBegin_full {a0 : Nat} {q : SessionRequest} (hhost : hostAccess s = true) (h : CallClear c s) (hbusy : s.sec.busy = none)
    (hbody : beginBody c (secInput c s) (touchSession c s) =
      createSession c (bytesOfWords ((secInput c s).take 38)) q false (touchSession c s))
    (hfull : ∀ k, k < 8 → sesState s k ≠ 0) (wf : WellKept s) :
    ∃ t, exec (.sessionBegin c a0 false) s = .next t ∧ getF t F.SEC.CMD_RESULT_RESULT = resExhausted ∧
      ∀ j, j < 8 → sesState t j = sesState s j := by
  have hnone := createSession_full (c := c) (request := bytesOfWords ((secInput c s).take 38)) (q := q) (s := touchSession c s)
    (fun k hk => by rw [sesState_touchSession]; exact hfull k hk)
  obtain ⟨hresult, hstates, -, -⟩ := secDone_refusedShows (x := secCall 0x01 c a0 0 0 s)
    ((secBody_begin c a0 s _).trans (hbody.trans hnone)) (by decide) ((touchSession_moves c s).form wf)
  exact ⟨_, exec_sessionBegin a0 hhost h hbusy, hresult, fun j _ => by rw [hstates, sesState_touchSession]⟩

theorem sessionBegin_unknown {a0 : Nat} (hhost : hostAccess s = true) (h : CallClear c s) (hbusy : s.sec.busy = none)
    (hclear : RequestClear c (requestOf (secInput c s)) s) (hkey : findKey s (requestOf (secInput c s)).credential = none)
    (wf : WellKept s) :
    ∃ t, exec (.sessionBegin c a0 false) s = .next t ∧ getF t F.SEC.CMD_RESULT_RESULT = resNotAuthorised ∧
      getF t F.SEC.AUTH_FAIL_COUNT = min (getF s F.SEC.AUTH_FAIL_COUNT + 1) 0xFFFFFFFF ∧
      (∀ j, j < 8 → sesState t j = sesState s j) ∧ OnlyParts [.regs, .sec, .cont] s t := by
  have wf1 := (touchSession_moves c s).form wf
  have hbody := beginBody_clear (requestClear_touchSession hclear)
  rw [findKey_touchSession, hkey] at hbody
  have hfailed := authFailed_moves (transportCode c) (requestOf (secInput c s)).credential 0 (touchSession c s)
  obtain ⟨hresult, hstates, hregs, hmoves⟩ := secDone_refusedShows (x := secCall 0x01 c a0 0 0 s)
    ((secBody_begin c a0 s _).trans hbody) (by decide) (hfailed.form wf1)
  refine ⟨_, exec_sessionBegin a0 hhost h hbusy, hresult, ?_, fun j _ => ?_, onlyParts_of_moves s _ (moves_step hmoves rfl
    (moves_step hfailed rfl (moves_step (touchSession_moves c s) rfl moves_refl)) : Moves 0xa00002 s _) rfl⟩
  · rw [hregs _ (by decide) (by decide), authFailed_counts wf1, getF_touchSession_off c (Or.inl (by decide)) (by decide)]
  · rw [hstates, sesState_authFailed, sesState_touchSession]

/-! ### A session proved (R479, R480) -/

theorem barSlot_touchSession (c : Caller) (s : State) : barSlot (touchSession c s) = barSlot s :=
  callerSlot_touchSession { c with transport := .bar }

theorem barSlot_open {b : Nat} (h : barSlot s = some b) : b < 8 ∧ sesState s b = 2 := by
  have hb := List.find?_some h
  simp only [Bool.and_eq_true, sessionOpen, decide_eq_true_eq, beq_iff_eq] at hb
  exact hb.1

/-- The BAR session in place of which another opens, ended. -/
def oldBarEnded (k : Nat) (s : State) : State :=
  match barSlot s with
  | some b => if b = k then s else endSession b 4 s
  | none => s

theorem oldBarEnded_moves (k : Nat) (s : State) : Moves 0xe00082 s (oldBarEnded k s) := by
  unfold oldBarEnded
  split
  · exact moves_ite moves_refl (moves_step (endSession_moves ..) rfl moves_refl)
  · exact moves_refl

/-- The session of slot `k` made the BAR session where it came over PCIe. -/
def barMoved (k : Nat) (s : State) : State :=
  if getF s (F.SEC.SES_STATE_TRANSPORT k) = 0 then setF (F.SEC.SES_STATE_BAR k) 1 (oldBarEnded k s) else s

theorem barMoved_moves (k : Nat) (s : State) : Moves 0xe00082 s (barMoved k s) :=
  moves_ite (moves_step (setF_moves ..) rfl (oldBarEnded_moves k s)) moves_refl

/-- The session of slot `k` open. -/
def sessionOpened (k : Nat) (now : Nat) (s : State) : State :=
  setF (F.SEC.SES_IDLE k) 0 (setF (F.SEC.SES_STATE_STATE k) 2
    (updSec (fun x => { x with sessions := listUpd {} x.sessions k (fun y => { y with openedNs := now, lastNs := now }) }) s))

theorem openSession_eq (k : Nat) (s : State) : ∃ w1 w2 w3, openSession k s = emit 0x1501 w1 w2 w3 (sessionOpened k (nowNs s 0) (barMoved k s)) :=
  ⟨_, _, _, rfl⟩

theorem sessionOpened_shows {now : Nat} (wf : WellKept s) :
    sesState (sessionOpened k now s) k = 2 ∧ flag (sessionOpened k now s) (F.SEC.SES_STATE_BAR k) = flag s (F.SEC.SES_STATE_BAR k) ∧
      ∀ j, j ≠ k → sesState (sessionOpened k now s) j = sesState s j := by
  refine ⟨?_, ?_, fun j hj => ?_⟩
  · rw [sesState, sessionOpened, getF_setF_other _ _ _ _ (by simp only [fieldKey, F.SEC.SES_IDLE, F.SEC.SES_STATE_STATE]; omega)]
    exact getF_setF_lt (show keysRise s.regs = true from wf.regs) (show 2 < 2 ^ 2 by decide)
  · rw [flag, sessionOpened, getF_setF_other _ _ _ _ (by simp only [fieldKey, F.SEC.SES_IDLE, F.SEC.SES_STATE_BAR]; omega),
      getF_setF_other _ _ _ _ (by simp only [fieldKey, F.SEC.SES_STATE_STATE, F.SEC.SES_STATE_BAR]; omega)]
    rfl
  · rw [sesState, sessionOpened, getF_setF_other _ _ _ _ (by simp only [fieldKey, F.SEC.SES_IDLE, F.SEC.SES_STATE_STATE]; omega),
      getF_setF_other _ _ _ _ (by simp only [fieldKey, F.SEC.SES_STATE_STATE]; omega)]
    rfl

theorem barMoved_bar (htransport : getF s (F.SEC.SES_STATE_TRANSPORT k) = 0) (hhalf : sesState s k = 1) (wf : WellKept s) :
    flag (barMoved k s) (F.SEC.SES_STATE_BAR k) = true ∧ ∀ b, barSlot s = some b → b ≠ k ∧ sesState (barMoved k s) b = 0 := by
  rw [barMoved, if_pos htransport]
  have hrise := ((oldBarEnded_moves k s).form wf).regs
  refine ⟨flag_setF_one _ rfl hrise, fun b hb => ?_⟩
  obtain ⟨-, hopen⟩ := barSlot_open hb
  have hne : b ≠ k := fun e => by
    rw [e, hhalf] at hopen
    exact absurd hopen (by decide)
  have hold : oldBarEnded k s = endSession b 4 s := by rw [oldBarEnded, hb]; exact if_neg hne
  refine ⟨hne, ?_⟩
  rw [sesState, getF_setF_other _ _ _ _ (by simp only [fieldKey, F.SEC.SES_STATE_BAR, F.SEC.SES_STATE_STATE]; omega), hold]
  exact endSession_same 4 wf

theorem openSession_shows (hhalf : sesState s k = 1) (wf : WellKept s) :
    sesState (openSession k s) k = 2 ∧ (getF s (F.SEC.SES_STATE_TRANSPORT k) = 0 → flag (openSession k s) (F.SEC.SES_STATE_BAR k) = true ∧
      ∀ b, barSlot s = some b → sesState (openSession k s) b = 0) := by
  obtain ⟨w1, w2, w3, hopen⟩ := openSession_eq k s
  obtain ⟨hstate, hbar, hothers⟩ := sessionOpened_shows (k := k) (now := nowNs s 0) ((barMoved_moves k s).form wf)
  rw [hopen]
  refine ⟨(sesState_emit ..).trans hstate, fun htransport => ?_⟩
  obtain ⟨hflag, hgone⟩ := barMoved_bar htransport hhalf wf
  refine ⟨?_, fun b hb => ?_⟩
  · rw [flag, getF_emit]
    exact hbar.trans hflag
  · obtain ⟨hne, hzero⟩ := hgone b hb
    rw [sesState_emit, hothers b hne, hzero]

/-- Session slot `k` is half-open under an ID over the caller's transport. -/
def provePending (c : Caller) (id : Nat) (s : State) (k : Nat) : Bool :=
  sesState s k == 1 && getF s (F.SEC.SES_STATE_SESSION_ID k) == id && getF s (F.SEC.SES_STATE_TRANSPORT k) == transportCode c

theorem transport_touchSession (c : Caller) (k : Nat) (s : State) :
    getF (touchSession c s) (F.SEC.SES_STATE_TRANSPORT k) = getF s (F.SEC.SES_STATE_TRANSPORT k) :=
  getF_touchSession_off c (Or.inr (Or.inr (by simp only [F.SEC.SES_STATE_TRANSPORT]; omega))) (show 2 < 32 by decide) s

theorem provePending_touchSession (c : Caller) (id : Nat) (s : State) : provePending c id (touchSession c s) = provePending c id s := by
  have hid : ∀ k, getF (touchSession c s) (F.SEC.SES_STATE_SESSION_ID k) = getF s (F.SEC.SES_STATE_SESSION_ID k) := fun k =>
    getF_touchSession_off c (Or.inr (Or.inr (by simp only [F.SEC.SES_STATE_SESSION_ID]; omega))) (show 16 < 32 by decide) s
  funext k
  rw [provePending, provePending, sesState_touchSession, hid, transport_touchSession]

theorem sesCredential_touchSession (c : Caller) (k : Nat) (s : State) : sesCredential (touchSession c s) k = sesCredential s k := by
  rw [sesCredential, sesCredential,
    getF_touchSession_off c (Or.inr (Or.inr (by simp only [F.SEC.SES_CRED_LO]; omega))) (show 0 < 32 by decide),
    getF_touchSession_off c (Or.inr (Or.inr (by simp only [F.SEC.SES_CRED_HI]; omega))) (show 0 < 32 by decide)]

/-- Of a session's slot the mark of its use changes the time of the last command alone. -/
theorem session_touchSession (c : Caller) (k : Nat) (s : State) :
    ∃ n, (touchSession c s).sec.sessions.getD k {} = { s.sec.sessions.getD k {} with lastNs := n } := by
  unfold touchSession
  split
  · next i hi =>
    show ∃ n, (listUpd {} s.sec.sessions i fun x => { x with lastNs := nowNs s 0 }).getD k {} = _
    rw [listUpd, List.getD_eq_getElem?_getD, List.getD_eq_getElem?_getD, List.getElem?_set]
    split
    · next hik =>
      subst hik
      split
      · exact ⟨_, by rw [List.getD_eq_getElem?_getD]; rfl⟩
      · next hlen =>
        rw [List.getD_eq_getElem?_getD, List.getElem?_eq_none (Nat.not_lt.1 hlen)]
        exact ⟨_, rfl⟩
    · exact ⟨_, rfl⟩
  · exact ⟨_, rfl⟩

theorem sessionH1_touchSession (c : Caller) (k : Nat) (s : State) :
    ((touchSession c s).sec.sessions.getD k {}).h1 = (s.sec.sessions.getD k {}).h1 := by
  obtain ⟨n, hn⟩ := session_touchSession c k s
  rw [hn]

theorem proofOk_touchSession (c : Caller) (k : Nat) (sig : List Nat) (s : State) : proofOk (touchSession c s) k sig = proofOk s k sig := by
  rw [proofOk, proofOk, sessionH1_touchSession, sesCredential_touchSession, signedBy, signedBy, keyMaterial, keyMaterial,
    keyEntries_touchSession]

/-- A PROVE finds its slot, and the signature decides. -/
theorem proveBody_found {ws : List Nat} (h0 : ws.getD 0 0 < 65536) (h1 : ws.getD 1 0 = 0) (h2 : ws.getD 2 0 = 0) (h3 : ws.getD 3 0 = 0)
    (hfind : (List.range 8).find? (provePending c (ws.getD 0 0) s) = some k) :
    proveBody c ws s = if proofOk s k (bytesOfWords ((ws.drop 4).take 24)) = true then (openSession k s, resOk, ws.getD 0 0)
      else refuse resNotAuthorised (authFailed (transportCode c) (sesCredential s k) 1 s) := by
  have hid : ws.getD 0 0 % 65536 = ws.getD 0 0 := Nat.mod_eq_of_lt h0
  have hform : (decide (ws.getD 0 0 / 65536 ≠ 0) || decide (ws.getD 1 0 ≠ 0) || decide (ws.getD 2 0 ≠ 0) || decide (ws.getD 3 0 ≠ 0)) = false := by
    simp only [Nat.div_eq_of_lt h0, h1, h2, h3]
    decide
  unfold proveBody
  dsimp only
  rw [hid, if_neg (Bool.eq_false_iff.1 hform)]
  show (match (List.range 8).find? (provePending c (ws.getD 0 0) s) with
    | none => refuse resBadArgument s
    | some k => if proofOk s k (bytesOfWords ((ws.drop 4).take 24)) = true then (openSession k s, resOk, ws.getD 0 0)
      else refuse resNotAuthorised (authFailed (transportCode c) (sesCredential s k) 1 s)) = _
  rw [hfind]

theorem exec_sessionProve (a0 : Nat) (hhost : hostAccess s = true) (h : CallClear c s) (hbusy : s.sec.busy = none) :
    exec (.sessionProve c a0 false) s = .next (secDone (secCall 0x02 c a0 0 0 s) (touchSession c s)) := by
  show execSessionProve c a0 false s = _
  rw [execSessionProve, cmdSessionProve, hhost, runSec_plain roleTaken_none h hbusy (by decide) (by decide)]

theorem secBody_prove (c : Caller) (a0 : Nat) (s v : State) : secBody (secCall 0x02 c a0 0 0 s) v = proveBody c (secInput c s) v := rfl

theorem sessionProve_decided {a0 : Nat} (hhost : hostAccess s = true) (h : CallClear c s) (hbusy : s.sec.busy = none)
    (h0 : (secInput c s).getD 0 0 < 65536) (h1 : (secInput c s).getD 1 0 = 0) (h2 : (secInput c s).getD 2 0 = 0)
    (h3 : (secInput c s).getD 3 0 = 0) (hfind : (List.range 8).find? (provePending c ((secInput c s).getD 0 0) s) = some k) (wf : WellKept s) :
    (proofOk s k (bytesOfWords (((secInput c s).drop 4).take 24)) = true →
      ∃ t, exec (.sessionProve c a0 false) s = .next t ∧ sesState t k = 2 ∧ getF t F.SEC.CMD_RESULT_RESULT = resOk ∧
        (transportCode c = 0 → flag t (F.SEC.SES_STATE_BAR k) = true ∧ ∀ b, barSlot s = some b → sesState t b = 0)) ∧
    (proofOk s k (bytesOfWords (((secInput c s).drop 4).take 24)) = false →
      ∃ t, exec (.sessionProve c a0 false) s = .next t ∧ sesState t k = 1 ∧ getF t F.SEC.CMD_RESULT_RESULT = resNotAuthorised ∧
        getF t F.SEC.AUTH_FAIL_COUNT = min (getF s F.SEC.AUTH_FAIL_COUNT + 1) 0xFFFFFFFF) := by
  have wf1 := (touchSession_moves c s).form wf
  have hexec := exec_sessionProve a0 hhost h hbusy
  have hpending := List.find?_some hfind
  simp only [provePending, Bool.and_eq_true, beq_iff_eq] at hpending
  obtain ⟨⟨hhalf, -⟩, htransport⟩ := hpending
  have hbody := proveBody_found (c := c) (s := touchSession c s) h0 h1 h2 h3 (by rw [provePending_touchSession]; exact hfind)
  rw [proofOk_touchSession, sesCredential_touchSession] at hbody
  have hhalf1 := (sesState_touchSession c k s).trans hhalf
  refine ⟨fun hok => ?_, fun hok => ?_⟩
  · rw [if_pos hok] at hbody
    rw [secDone_ok ((secBody_prove c a0 s _).trans hbody)] at hexec
    obtain ⟨hstate, hbar⟩ := openSession_shows hhalf1 wf1
    rw [transport_touchSession, barSlot_touchSession] at hbar
    refine ⟨_, hexec, (sesState_secAnswer ..).trans hstate, secAnswer_result _ _ _ ((openSession_moves ..).form wf1).regs, fun hcode => ?_⟩
    obtain ⟨hflag, hold⟩ := hbar (htransport.trans hcode)
    refine ⟨?_, fun b hb => (sesState_secAnswer ..).trans (hold b hb)⟩
    rw [flag, getF_secAnswer (by simp only [F.SEC.SES_STATE_BAR]; omega) (show 4 < 32 by decide)]
    exact hflag
  · rw [if_neg (by rw [hok]; decide)] at hbody
    obtain ⟨hresult, hstates, hregs, -⟩ := secDone_refusedShows (x := secCall 0x02 c a0 0 0 s)
      ((secBody_prove c a0 s _).trans hbody) (by decide) ((authFailed_moves ..).form wf1)
    refine ⟨_, hexec, ?_, hresult, ?_⟩
    · rw [hstates, sesState_authFailed, hhalf1]
    · rw [hregs _ (by decide) (by decide), authFailed_counts wf1, getF_touchSession_off c (Or.inl (by decide)) (by decide)]

/-! ### A session closed (R480) -/

theorem sessionClose_ends {a0 : Nat} (hhost : hostAccess s = true) (h : CallClear c s) (hbusy : s.sec.busy = none)
    (hslot : callerSlot s c = some k) (hrole : getF s (F.SEC.SES_STATE_ROLE k) ≤ 4) (wf : WellKept s) :
    ∃ t, exec (.sessionClose c a0 false) s = .next t ∧ sesState t k = 0 ∧ (∀ j, j < 8 → j ≠ k → sesState t j = sesState s j) ∧
      getF t F.SEC.CMD_RESULT_RESULT = resOk := by
  have wf1 := (touchSession_moves c s).form wf
  have htaken : RoleTaken sessionRoles c s := by
    rintro _ ⟨⟩
    refine ⟨getF s (F.SEC.SES_STATE_ROLE k), ?_, by rw [callerRole, hslot]; rfl⟩
    simp only [anyRole, List.mem_cons, List.not_mem_nil, or_false]
    omega
  have hbody : secBody (secCall 0x03 c a0 0 0 s) (touchSession c s) = (endSession k 0 (touchSession c s), resOk, 0) := by
    show closeBody c (touchSession c s) = _
    rw [closeBody, callerSlot_touchSession, hslot]
  have hexec : exec (.sessionClose c a0 false) s = .next (secDone (secCall 0x03 c a0 0 0 s) (touchSession c s)) := by
    show execSessionClose c a0 false s = _
    rw [execSessionClose, cmdSessionClose, hhost, runSec_plain htaken h hbusy (by decide) (by decide)]
  rw [secDone_ok hbody] at hexec
  refine ⟨_, hexec, (sesState_secAnswer ..).trans (endSession_same 0 wf1), fun j _ hj => ?_,
    secAnswer_result _ _ _ ((endSession_moves ..).form wf1).regs⟩
  rw [sesState_secAnswer, sesState_endSession_other 0 hj, sesState_touchSession]

end Sys2Proof.Machine
end

section
/-! The statement about sessions. -/

namespace Sys2Proof.Certificates

open Sys2Proof Sys2Proof.Machine

/-- Settles O57: each command of a session is its checks and then one step on one slot; the timers free a slot; and a failed self-test is
one flag with what follows it. -/
theorem sessionsOpenAndEnd : Obligations.SessionsOpenAndEnd := by
  unfold Obligations.SessionsOpenAndEnd
  intro s wf
  refine ⟨fun c a0 hhost hpower htie hspare hbusy => ⟨?_, fun k => ?_, fun k hslot hrole => ?_⟩, fun k hk => ⟨?_, proofTimeout_idle, ?_,
      sessionEnded_idle⟩, fun cred => lockoutExpired_credential cred s, fun cred tr => lockoutExpired_transport cred tr s,
    fun which hwhich hruns hdrbg => selfTestFailed_shows hwhich hruns hdrbg wf⟩
  · have hcall : CallClear c s := ⟨hpower, htie, hspare⟩
    intro q hdrbg hform hrole hnamed htransport hcredential
    have hclear : RequestClear c (requestOf (secInput c s)) s := ⟨hdrbg, hform, hrole, hnamed, htransport, hcredential⟩
    refine ⟨fun e hkey hkind hroles hmgmt => ?_, fun hkey => sessionBegin_unknown hhost hcall hbusy hclear hkey wf⟩
    have hbody := sessionBegin_creates hclear hkey hkind hroles hmgmt
    exact ⟨fun k hfree => sessionBegin_made hhost hcall hbusy hbody hrole (requestOf_credential_lt _) hfree wf,
      fun hfull => sessionBegin_full hhost hcall hbusy hbody hfull wf⟩
  · intro ws ok h0 h1 h2 h3 hfind
    exact sessionProve_decided hhost ⟨hpower, htie, hspare⟩ hbusy h0 h1 h2 h3 hfind wf
  · exact sessionClose_ends hhost ⟨hpower, htie, hspare⟩ hbusy hslot hrole wf
  · exact fun hhalf hdue => proofTimeout_due hk hhalf hdue wf
  · exact fun hopen hdue => sessionEnded_shows hk hopen hdue wf

end Sys2Proof.Certificates
end

section
/-! SUPPORT. SEC's pending command and its end (R494). -/

namespace Sys2Proof.Machine

open Sys2Proof

variable {s t : State} {c : Caller}

/-! ### The pending command stands through every command's own steps -/

/-- The command of SEC that is PENDING. -/
def secBusy (s : State) : Option SecCall := s.sec.busy

theorem secBusy_of_moves {m : Nat} (h : Moves m s t) (hm : m.testBit 23 = false) : secBusy t = secBusy s :=
  congrArg SecPart.busy (h.frame .sec hm)

theorem secBusy_putOutput (c : Caller) (ws : List Nat) (s : State) : secBusy (putOutput c ws s) = secBusy s := by
  unfold putOutput
  split
  · rfl
  · exact look_foldl (look := secBusy) fun _ _ _ => rfl

theorem secBusy_endSession (k cause : Nat) (s : State) : secBusy (endSession k cause s) = secBusy s := by
  have hfree : ∀ v : State, secBusy (freeSession k v) = secBusy v := fun v =>
    secBusy_of_moves (s := v) (t := resetFields (sesFields k) v) (resetFields_moves ..) rfl
  unfold endSession
  split
  · rfl
  · exact hfree s
  · rw [hfree, secBusy_of_moves (emit_moves ..) rfl, secBusy_of_moves (sessionTakes_moves ..) rfl]

theorem secBusy_endClaims (s : State) : secBusy (endClaims s) = secBusy s := by
  refine look_foldl (look := secBusy) fun v k _ => ?_
  split
  · exact secBusy_endSession ..
  · rfl

theorem secBusy_endCredential (id : Nat) (s : State) : secBusy (endCredential id s) = secBusy s := by
  refine look_foldl (look := secBusy) fun v k _ => ?_
  split
  · exact secBusy_endSession ..
  · rfl

theorem secBusy_authFailed (transport cred cause : Nat) (s : State) : secBusy (authFailed transport cred cause s) = secBusy s := by
  unfold authFailed
  extract_lets now lockNs s1 tf cf known lockT lockC s2
  have h2 : secBusy s2 = secBusy s :=
    (secBusy_of_moves (s := bumpF F.SEC.AUTH_FAIL_COUNT 1 s) (emit_moves ..) rfl).trans (secBusy_of_moves (bumpF_moves ..) rfl)
  split
  · exact (secBusy_of_moves (emit_moves ..) rfl).trans h2
  · exact h2

theorem secBusy_openSession (k : Nat) (s : State) : secBusy (openSession k s) = secBusy s := by
  obtain ⟨w1, w2, w3, hopen⟩ := openSession_eq k s
  have hold : secBusy (oldBarEnded k s) = secBusy s := by
    unfold oldBarEnded
    split
    · split
      · rfl
      · exact secBusy_endSession ..
    · rfl
  have hbar : secBusy (barMoved k s) = secBusy s := by
    unfold barMoved
    split
    · exact (secBusy_of_moves (setF_moves ..) rfl).trans hold
    · rfl
  rw [hopen, secBusy_of_moves (emit_moves ..) rfl]
  exact hbar

theorem secBusy_createSession (c : Caller) (request : List Nat) (q : SessionRequest) (claim : Bool) (s : State) :
    secBusy (createSession c request q claim s).1 = secBusy s := by
  unfold createSession
  split
  · rfl
  · next k _ =>
    have hdrawn := sessionResponse_moves (nextSessionId s 9 s.sec.lastSessionId) request q s
    dsimp only
    generalize sessionResponse (nextSessionId s 9 s.sec.lastSessionId) request q s = out at hdrawn
    have hfilled : ∀ role h1 keys, secBusy (fillSession k (nextSessionId s 9 s.sec.lastSessionId) role (transportCode c) 1 q.credential h1 keys
        out.2) = secBusy s := fun role h1 keys => by
      rw [fillSession, secBusy_of_moves (m := 0x2) (putFields_moves ..) rfl]
      exact (secBusy_of_moves hdrawn rfl :)
    rw [secBusy_putOutput]
    split
    · rw [secBusy_openSession]
      exact hfilled ..
    · exact hfilled ..

theorem secBusy_beginBody (c : Caller) (ws : List Nat) (s : State) : secBusy (beginBody c ws s).1 = secBusy s := by
  unfold beginBody
  extract_lets request q tr
  have hcreate : ∀ claim, secBusy (createSession c request q claim s).1 = secBusy s := fun claim => secBusy_createSession ..
  have hfailed : ∀ cred cause, secBusy (refuse resNotAuthorised (authFailed tr cred cause s)).1 = secBusy s := fun cred cause =>
    secBusy_authFailed ..
  clear_value request q tr
  split
  · rfl
  · split
    · rfl
    · split
      · rfl
      · split
        · split
          · exact hcreate true
          · exact hfailed ..
        · split
          · rfl
          · split
            · exact hfailed ..
            · split
              · exact hfailed ..
              · split
                · exact hfailed ..
                · exact hcreate false

theorem secBusy_proveBody (c : Caller) (ws : List Nat) (s : State) : secBusy (proveBody c ws s).1 = secBusy s := by
  unfold proveBody
  dsimp only
  split
  · rfl
  · split
    · rfl
    · split
      · exact secBusy_openSession ..
      · exact secBusy_authFailed ..

theorem secBusy_closeBody (c : Caller) (s : State) : secBusy (closeBody c s).1 = secBusy s := by
  unfold closeBody
  split
  · exact secBusy_endSession ..
  · rfl

theorem secBusy_putKey (n : Nat) (k : Option KeyEntry) (s : State) : secBusy (putKey n k s) = secBusy s := by
  rw [putKey, secBusy_of_moves (showKeys_moves _) rfl]
  rfl

theorem secBusy_installBody (c : Caller) (ws : List Nat) (s : State) : secBusy (installBody c ws s).1 = secBusy s := by
  have hput : ∀ (n : Nat) (k : Option KeyEntry) (w1 w2 w3 : Nat), secBusy (emit 0x1505 w1 w2 w3 (putKey n k s)) = secBusy s :=
    fun n k w1 w2 w3 => (secBusy_of_moves (emit_moves ..) rfl).trans (secBusy_putKey ..)
  unfold installBody
  split
  · rfl
  · split
    · rfl
    · split
      · rfl
      · split
        · rfl
        · split
          · rfl
          · split
            · rfl
            · dsimp only
              split
              · exact (secBusy_endClaims _).trans (hput ..)
              · exact hput ..

theorem secBusy_deleteBody (a0 a1 : Nat) (s : State) : secBusy (deleteBody a0 a1 s).1 = secBusy s := by
  have hput : ∀ (n w1 w2 w3 : Nat), secBusy (emit 0x1506 w1 w2 w3 (putKey n none s)) = secBusy s :=
    fun n w1 w2 w3 => (secBusy_of_moves (emit_moves ..) rfl).trans (secBusy_putKey ..)
  unfold deleteBody
  dsimp only
  split
  · rfl
  · split
    · rfl
    · dsimp only
      split
      · exact (secBusy_endCredential ..).trans (hput ..)
      · exact hput ..

theorem secBusy_infoBody (c : Caller) (a0 : Nat) (s : State) : secBusy (infoBody c a0 s).1 = secBusy s := by
  unfold infoBody
  split
  · rfl
  · split <;> exact secBusy_putOutput ..

theorem secBusy_certBody (c : Caller) (s : State) : secBusy (certBody c s).1 = secBusy s := secBusy_putOutput ..

theorem secBusy_attestBody (c : Caller) (ws : List Nat) (s : State) : secBusy (attestBody c ws s).1 = secBusy s :=
  (secBusy_putOutput ..).trans (secBusy_of_moves (drawWords_moves 24 s) rfl)

theorem secBusy_randomBody (c : Caller) (a0 : Nat) (s : State) : secBusy (randomBody c a0 s).1 = secBusy s := by
  unfold randomBody
  split
  · rfl
  · exact (secBusy_putOutput ..).trans (secBusy_of_moves (drawWords_moves ((a0 + 3) / 4) s) rfl)

theorem secBusy_microcodeBody (a0 a1 a2 : Nat) (ws : List Nat) (s : State) : secBusy (microcodeBody a0 a1 a2 ws s).1 = secBusy s := by
  unfold microcodeBody
  dsimp only
  split
  · rfl
  · split
    · rfl
    · split
      · exact (secBusy_of_moves (emit_moves ..) rfl).trans rfl
      · rw [refuse, secBusy_of_moves (emit_moves ..) rfl]
        rfl

theorem secBusy_minVersionBody (s : State) : secBusy (minVersionBody s).1 = secBusy s := secBusy_of_moves (minVersionBody_moves s) rfl

theorem secBusy_tokenBody (ws : List Nat) (s : State) : secBusy (tokenBody ws s).1 = secBusy s := secBusy_of_moves (tokenBody_moves ws s) rfl

theorem secBusy_secBody (x : SecCall) (s : State) : secBusy (secBody x s).1 = secBusy s := by
  unfold secBody
  split
  · exact secBusy_beginBody ..
  · exact secBusy_proveBody ..
  · exact secBusy_closeBody ..
  · exact secBusy_installBody ..
  · exact secBusy_deleteBody ..
  · exact secBusy_infoBody ..
  · exact secBusy_certBody ..
  · exact secBusy_attestBody ..
  · exact secBusy_randomBody ..
  · exact secBusy_microcodeBody ..
  · exact secBusy_minVersionBody ..
  · exact secBusy_tokenBody ..
  · rfl

theorem secBusy_secDone (x : SecCall) (s : State) : secBusy (secDone x s) = secBusy s := by
  have hfinish : secBusy (secFinish x s).1 = secBusy s := by
    rw [secFinish]
    dsimp only
    split
    · exact secBusy_secBody x s
    · exact (secBusy_of_moves (emit_moves ..) rfl).trans (secBusy_secBody x s)
  exact (secBusy_of_moves (secAnswer_moves ..) rfl).trans hfinish

theorem secDone_shows (x : SecCall) (wf : WellKept s) :
    getF (secDone x s) F.SEC.CMD_RESULT_RESULT = (secBody x s).2.1 % 256 ∧ getF (secDone x s) F.SEC.CMD_RESULT_OPCODE = x.opcode % 256 :=
  ⟨secAnswer_result _ _ _ ((secFinish_moves x s).form wf).regs, secAnswer_opcode _ _ _ ((secFinish_moves x s).form wf).regs⟩

/-! ### The end of the pending command -/

/-- SEC with no command pending. -/
def notBusy (s : State) : State := { s with sec := { s.sec with busy := none } }

theorem notBusy_form (wf : WellKept s) : WellKept (notBusy s) := (updSec_moves (fun p => { p with busy := none }) s fun _ => rfl).form wf

/-- The pending command's own steps, and its second answer. -/
def secEnded (x : SecCall) (s : State) : State :=
  commandDone 21 x.opcode none (secFinish x (notBusy s)).2.1 (secFinish x (notBusy s)).2.2 (secDone x (notBusy s))

/-- The management message that waits for the command, answered. -/
def secReplied (x : SecCall) (r : Reply) (s : State) : State :=
  match s.host.mgmtWaits with
  | some (kind, id, tag) => replyTo kind id tag x.opcode r { s with host := { s.host with mgmtWaits := none } }
  | none => s

theorem secReplied_stands (x : SecCall) (r : Reply) (s : State) :
    (secReplied x r s).regs = s.regs ∧ secBusy (secReplied x r s) = secBusy s := by
  unfold secReplied
  split
  · next kind id tag _ =>
    have hreply := replyTo_moves kind id tag x.opcode r { s with host := { s.host with mgmtWaits := none } }
    exact ⟨hreply.frame .regs rfl, (secBusy_of_moves hreply rfl :)⟩
  · exact ⟨rfl, rfl⟩

theorem exec_secCommandDone {x : SecCall} (hbusy : s.sec.busy = some x) (h13 : x.opcode ≠ 0x13) (h40 : x.opcode ≠ 0x40) :
    exec .secCommandDone s = .next (secReplied x { result := (secFinish x (notBusy s)).2.1, ret := (secFinish x (notBusy s)).2.2 }
      (secEnded x s)) := by
  show execSecCommandDone s = _
  unfold execSecCommandDone
  rw [hbusy]
  refine congrArg Host.Outcome.next ?_
  dsimp only
  rw [secAfter_plain _ h13 h40]
  rfl

theorem secCommandDone_ends {x : SecCall} (wf : WellKept s) (hbusy : s.sec.busy = some x) (h13 : x.opcode ≠ 0x13) (h40 : x.opcode ≠ 0x40) :
    ∃ t, exec .secCommandDone s = .next t ∧ t.sec.busy = none ∧ getF t F.SEC.CMD_RESULT_OPCODE = x.opcode % 256 ∧
      getF t F.SEC.CMD_RESULT_RESULT = (secBody x (notBusy s)).2.1 % 256 := by
  obtain ⟨hresult, hopcode⟩ := secDone_shows x (notBusy_form wf)
  have hbusyEnded : secBusy (secEnded x s) = none := by
    rw [secEnded, secBusy_of_moves (commandDone_moves ..) rfl, secBusy_secDone]
    rfl
  have hended : ∀ {f : Field}, fieldKey f < 0x2C000000 → getF (secEnded x s) f = getF (secDone x (notBusy s)) f := fun {f} hf => by
    refine commandDone_onlyFields _ _ _ _ _ _ f fun g hg => ?_
    have hg : 0x2C000000 ≤ fieldKey g := by revert g; decide
    omega
  obtain ⟨hregs, hstands⟩ := secReplied_stands x { result := (secFinish x (notBusy s)).2.1, ret := (secFinish x (notBusy s)).2.2 }
    (secEnded x s)
  exact ⟨_, exec_secCommandDone hbusy h13 h40, hstands.trans hbusyEnded,
    (getF_congr _ _ _ hregs).trans ((hended (by decide)).trans hopcode), (getF_congr _ _ _ hregs).trans ((hended (by decide)).trans hresult)⟩

theorem secCommandDone_idle (h : s.sec.busy = none) : exec .secCommandDone s = .next s := by
  show execSecCommandDone s = _
  unfold execSecCommandDone
  rw [h]

end Sys2Proof.Machine
end

section
/-! SUPPORT. Keys, identity, microcode and the debug lock (R483 to R492): each command's own step on the key store, on an image slot or
on the output. -/

namespace Sys2Proof.Machine

open Sys2Proof

variable {s t : State} {c : Caller}

/-! ### The answer and the key store -/

theorem keyStore_touchSession (c : Caller) (s : State) : keyStore (touchSession c s) = keyStore s := keys_touchSession c s

theorem keyStore_secAnswer (op code ret : Nat) (s : State) : keyStore (secAnswer op code ret s) = keyStore s :=
  keyStore_of_moves (secAnswer_moves ..) rfl

theorem keyStore_putKey (n : Nat) (k : Option KeyEntry) (s : State) : keyStore (putKey n k s) = tablePut none (keyStore s) n k := by
  rw [putKey, keyStore_of_moves (showKeys_moves _) rfl]
  rfl

theorem keyStore_endClaims (s : State) : keyStore (endClaims s) = keyStore s := by
  refine look_foldl (look := keyStore) fun v k _ => ?_
  split
  · exact keyStore_endSession ..
  · rfl

theorem keyStore_endCredential (id : Nat) (s : State) : keyStore (endCredential id s) = keyStore s := by
  refine look_foldl (look := keyStore) fun v k _ => ?_
  split
  · exact keyStore_endSession ..
  · rfl

/-- A refused command shows its code and leaves the key store and the device as the body left them. -/
theorem secDone_refusedKeeps {x : SecCall} {code : Nat} (h : secBody x s = refuse code t) (hcode : code ≠ resOk) (wf : WellKept t) :
    getF (secDone x s) F.SEC.CMD_RESULT_RESULT = code % 256 ∧ (secDone x s).sec = t.sec ∧ (secDone x s).dev = t.dev := by
  rw [secDone_refused h hcode]
  have hrecord : Moves 0x200002 t (secAnswer x.opcode code 0 (emit 0x15FF x.opcode code x.a0 t)) :=
    moves_step (secAnswer_moves ..) rfl (moves_step (emit_moves ..) rfl moves_refl)
  exact ⟨secAnswer_result _ _ _ ((emit_moves ..).form wf).regs, hrecord.frame .sec rfl, hrecord.frame .dev rfl⟩

theorem secDone_okResult {x : SecCall} {ret : Nat} (h : secBody x s = (t, resOk, ret)) (wf : WellKept t) :
    getF (secDone x s) F.SEC.CMD_RESULT_RESULT = resOk := by
  rw [secDone_ok h]
  exact secAnswer_result _ _ _ wf.regs

/-- A call ends with the code of its own steps. -/
theorem secFinish_code {x : SecCall} {code ret : Nat} (h : secBody x s = (t, code, ret)) : (secFinish x s).2.1 = code :=
  congrArg (fun out : SecOut => out.2.1) h

/-! ### INSTALL_KEY (R484, R485) -/

theorem keyFree_touchSession (c : Caller) (kind id : Nat) (s : State) : keyFree kind id (touchSession c s) = keyFree kind id s := by
  rw [keyFree, keyFree, inState, inState, reelNames, reelNames, stationList, stationList, dev_touchSession, cfg_touchSession]

theorem freeEntry_touchSession (c : Caller) (kind : Nat) (s : State) : freeEntry kind (touchSession c s) = freeEntry kind s := by
  rw [freeEntry, freeEntry, keys_touchSession]

theorem wrapKey_touchSession (c : Caller) (s : State) : wrapKey c (touchSession c s) = wrapKey c s := by
  rw [wrapKey, wrapKey, callerSlot_touchSession]
  split
  · next k _ =>
    obtain ⟨n, hn⟩ := session_touchSession c k s
    rw [hn]
  · rfl

/-- The entry that a blob gives. -/
def blobEntry (b : KeyBlob) : KeyEntry := { id := b.keyId, kind := b.kind, roles := b.roles, material := b.material }

/-- INSTALL_KEY with a well-formed blob that may go in: an ID that is known is in conflict, another takes the lowest free entry. -/
theorem installBody_blob {ws : List Nat} {b : KeyBlob} (hblob : unwrapBlob (wrapKey c s) (bytesOfWords (ws.take 32)) = some b)
    (hok : blobOk b = true) (hrole : callerRole s c = some roleSecurity) (hfree : keyFree b.kind b.keyId s = true) :
    (findKey s b.keyId ≠ none → installBody c ws s = refuse resConflict s) ∧
    (∀ n, findKey s b.keyId = none → freeEntry b.kind s = some n →
      ∃ v ret, installBody c ws s = (v, resOk, ret) ∧ keyStore v = tablePut none (keyStore s) n (some (blobEntry b))) := by
  have hclaim : (decide (callerRole s c = some 15) && decide (b.kind ≠ 6)) = false := by
    rw [hrole]
    rfl
  unfold installBody
  rw [hblob]
  dsimp only
  rw [if_neg (by rw [hok]; decide), if_neg (Bool.eq_false_iff.1 hclaim), if_neg (by rw [hfree]; decide)]
  refine ⟨fun hknown => if_pos (Option.isSome_iff_ne_none.2 hknown), fun n hunknown hentry => ?_⟩
  rw [if_neg (by rw [hunknown]; decide), hentry]
  refine ⟨_, _, rfl, ?_⟩
  have hput : keyStore (emit 0x1505 (lo32 b.keyId) (hi32 b.keyId) b.kind (putKey n (some (blobEntry b)) s)) =
      tablePut none (keyStore s) n (some (blobEntry b)) := by
    rw [keyStore_of_moves (emit_moves ..) rfl, keyStore_putKey]
  split
  · exact (keyStore_endClaims _).trans hput
  · exact hput

theorem exec_installKey (a0 : Nat) (hstates : keyStates s = true) (h : Admitted c [roleSecurity] s) (hbusy : s.sec.busy = none) :
    exec (.installKey c a0 false) s = .next (secDone (secCall 0x10 c a0 0 0 s) (touchSession c s)) := by
  show execInstallKey c a0 false s = _
  rw [execInstallKey, cmdInstallKey, hstates,
    runSec_plain (admitted_role h (by simp)) (admitted_clear h) hbusy (by decide) (by decide)]

theorem secBody_install (c : Caller) (a0 : Nat) (s v : State) : secBody (secCall 0x10 c a0 0 0 s) v = installBody c (secInput c s) v := rfl

theorem installKey_unwrapped {a0 : Nat} {b : KeyBlob} (hstates : keyStates s = true) (h : Admitted c [roleSecurity] s)
    (hbusy : s.sec.busy = none) (hblob : unwrapBlob (wrapKey c s) (bytesOfWords ((secInput c s).take 32)) = some b) (hok : blobOk b = true)
    (hfree : keyFree b.kind b.keyId s = true) (hrise : keysRise s.sec.keys = true) (wf : WellKept s) :
    (∀ n, findKey s b.keyId = none → freeEntry b.kind s = some n → ∃ t, exec (.installKey c a0 false) s = .next t ∧
      tableGet none t.sec.keys n = some (blobEntry b) ∧ (∀ k, k ≠ n → tableGet none t.sec.keys k = tableGet none s.sec.keys k) ∧
      getF t F.SEC.CMD_RESULT_RESULT = resOk) ∧
    (findKey s b.keyId ≠ none → ∃ t, exec (.installKey c a0 false) s = .next t ∧ t.sec.keys = s.sec.keys ∧
      getF t F.SEC.CMD_RESULT_RESULT = resConflict) := by
  have wf1 := (touchSession_moves c s).form wf
  obtain ⟨⟨r, hr, hrole⟩, -⟩ := id h
  rw [List.mem_singleton.1 hr] at hrole
  obtain ⟨hconflict, hstored⟩ := installBody_blob (s := touchSession c s) (c := c) (by rw [wrapKey_touchSession]; exact hblob) hok
    (by rw [callerRole_touchSession]; exact hrole) (by rw [keyFree_touchSession]; exact hfree)
  rw [findKey_touchSession] at hconflict hstored
  rw [freeEntry_touchSession] at hstored
  have hexec := exec_installKey a0 hstates h hbusy
  refine ⟨fun n hunknown hentry => ?_, fun hknown => ?_⟩
  · obtain ⟨v, ret, hbody, hstore⟩ := hstored n hunknown hentry
    have hbody' := (secBody_install c a0 s (touchSession c s)).trans hbody
    have wfv : WellKept v := by
      have hm := installBody_moves c (secInput c s) (touchSession c s)
      rw [hbody] at hm
      exact hm.form wf1
    have hkeys : (secDone (secCall 0x10 c a0 0 0 s) (touchSession c s)).sec.keys = tablePut none s.sec.keys n (some (blobEntry b)) := by
      rw [secDone_ok hbody']
      exact (keyStore_secAnswer ..).trans (hstore.trans (by rw [keyStore_touchSession]; rfl))
    refine ⟨_, hexec, ?_, fun k hk => ?_, secDone_okResult hbody' wfv⟩
    · rw [hkeys, tableGet_put_same none _ _ _ hrise]
    · rw [hkeys, tableGet_put_other none none _ _ _ _ (Ne.symm hk)]
  · obtain ⟨hresult, hsec, -⟩ := secDone_refusedKeeps ((secBody_install c a0 s (touchSession c s)).trans (hconflict hknown)) (by decide) wf1
    exact ⟨_, hexec, (congrArg SecPart.keys hsec).trans (keys_touchSession c s), hresult⟩

theorem installKey_wrong {a0 : Nat} (hstates : keyStates s = true) (h : Admitted c [roleSecurity] s) (hbusy : s.sec.busy = none)
    (hblob : unwrapBlob (wrapKey c s) (bytesOfWords ((secInput c s).take 32)) = none) (wf : WellKept s) :
    ∃ t, exec (.installKey c a0 false) s = .next t ∧ t.sec.keys = s.sec.keys ∧ getF t F.SEC.CMD_RESULT_RESULT = resBadArgument := by
  have hbody : installBody c (secInput c s) (touchSession c s) = refuse resBadArgument (touchSession c s) := by
    rw [installBody, wrapKey_touchSession, hblob]
  obtain ⟨hresult, hsec, -⟩ := secDone_refusedKeeps ((secBody_install c a0 s (touchSession c s)).trans hbody) (by decide)
    ((touchSession_moves c s).form wf)
  exact ⟨_, exec_installKey a0 hstates h hbusy, (congrArg SecPart.keys hsec).trans (keys_touchSession c s), hresult⟩

/-! ### DELETE_KEY (R485) -/

theorem officers_touchSession (c : Caller) (s : State) : officers (touchSession c s) = officers s := by
  rw [officers, officers, keyEntries_touchSession]

theorem deleteBody_free {a0 a1 n : Nat} {k : KeyEntry} (h0 : a0 < 2 ^ 32) (h1 : a1 < 2 ^ 32)
    (hkey : findKey s (a0 + 2 ^ 32 * a1) = some (n, k)) (hfree : keyFree k.kind (a0 + 2 ^ 32 * a1) s = true)
    (hlast : officerKey k = true → officers s ≠ 1) :
    ∃ v, deleteBody a0 a1 s = (v, resOk, 0) ∧ keyStore v = tablePut none (keyStore s) n none := by
  have hid : lo32 a0 + 2 ^ 32 * lo32 a1 = a0 + 2 ^ 32 * a1 := by
    unfold lo32
    omega
  have hgo : (!keyFree k.kind (a0 + 2 ^ 32 * a1) s || (officerKey k && decide (officers s = 1))) = false := by
    cases ho : officerKey k with
    | false => rw [hfree]; rfl
    | true => rw [hfree, decide_eq_false (hlast ho)]; rfl
  unfold deleteBody
  dsimp only
  rw [hid, hkey]
  dsimp only
  rw [if_neg (Bool.eq_false_iff.1 hgo)]
  refine ⟨_, rfl, ?_⟩
  have hput : ∀ w1 w2 w3, keyStore (emit 0x1506 w1 w2 w3 (putKey n none s)) = tablePut none (keyStore s) n none := fun w1 w2 w3 => by
    rw [keyStore_of_moves (emit_moves ..) rfl, keyStore_putKey]
  split
  · exact (keyStore_endCredential ..).trans (hput ..)
  · exact hput ..

theorem deleteKey_empties {a0 a1 n : Nat} {k : KeyEntry} (hstates : keyStates s = true) (h : Admitted c [roleSecurity] s)
    (hbusy : s.sec.busy = none) (h0 : a0 < 2 ^ 32) (h1 : a1 < 2 ^ 32) (hkey : findKey s (a0 + 2 ^ 32 * a1) = some (n, k))
    (hfree : keyFree k.kind (a0 + 2 ^ 32 * a1) s = true) (hlast : officerKey k = true → officers s ≠ 1)
    (hrise : keysRise s.sec.keys = true) (wf : WellKept s) :
    ∃ t, exec (.deleteKey c a0 a1 false) s = .next t ∧ tableGet none t.sec.keys n = none ∧
      (∀ j, j ≠ n → tableGet none t.sec.keys j = tableGet none s.sec.keys j) ∧ getF t F.SEC.CMD_RESULT_RESULT = resOk := by
  have wf1 := (touchSession_moves c s).form wf
  obtain ⟨v, hbody, hstore⟩ := deleteBody_free (s := touchSession c s) h0 h1 (by rw [findKey_touchSession]; exact hkey)
    (by rw [keyFree_touchSession]; exact hfree) (by rw [officers_touchSession]; exact hlast)
  have hbody' : secBody (secCall 0x11 c a0 a1 0 s) (touchSession c s) = (v, resOk, 0) := hbody
  have wfv : WellKept v := by
    have hm := deleteBody_moves a0 a1 (touchSession c s)
    rw [hbody] at hm
    exact hm.form wf1
  have hexec : exec (.deleteKey c a0 a1 false) s = .next (secDone (secCall 0x11 c a0 a1 0 s) (touchSession c s)) := by
    show execDeleteKey c a0 a1 false s = _
    rw [execDeleteKey, cmdDeleteKey, hstates, officerRole,
      runSec_plain (admitted_role h (by simp)) (admitted_clear h) hbusy (by decide) (by decide)]
  have hkeys : (secDone (secCall 0x11 c a0 a1 0 s) (touchSession c s)).sec.keys = tablePut none s.sec.keys n none := by
    rw [secDone_ok hbody']
    exact (keyStore_secAnswer ..).trans (hstore.trans (by rw [keyStore_touchSession]; rfl))
  refine ⟨_, hexec, ?_, fun j hj => ?_, secDone_okResult hbody' wfv⟩
  · rw [hkeys, tableGet_put_same none _ _ _ hrise]
  · rw [hkeys, tableGet_put_other none none _ _ _ _ (Ne.symm hj)]

/-! ### ZEROISE and DEBUG_UNLOCK (R487, R491) -/

/-- Nothing holds a restart back (R79). -/
structure RestartFree (s : State) : Prop where
  flushing : s.dev.flushing = none
  reference : s.dev.referenceLost = false
  closed : windowsOpen s = false

theorem restartFree_of_moves {m : Nat} (h : Moves m s t) (hdev : m.testBit 2 = false) (hboe : m.testBit 12 = false) (hs : RestartFree s) :
    RestartFree t := by
  obtain ⟨hflush, href, hclosed⟩ := hs
  have hd : t.dev = s.dev := h.frame .dev hdev
  exact ⟨by rw [hd]; exact hflush, by rw [hd]; exact href, (windowsOpen_congr (h.frame .boe hboe)).trans hclosed⟩

theorem powerFailing_of_moves {m : Nat} (h : Moves m s t) (hpwr : m.testBit 24 = false) (hs : powerFailing s = false) :
    powerFailing t = false := by
  have hp : t.pwr = s.pwr := h.frame .pwr hpwr
  rw [powerFailing, hp]
  exact hs

/-- An accepted call's steps before the restart: the use of the session and the answer. -/
theorem secAccepted_moves (c : Caller) (op code ret : Nat) (s : State) : Moves 0x800002 s (secAnswer op code ret (touchSession c s)) :=
  moves_step (secAnswer_moves ..) rfl (moves_step (touchSession_moves c s) rfl moves_refl)

theorem secAfter_zeroise (ret : Nat) (v : State) :
    secAfter 0x13 (v, { result := resOk, ret := ret }) = (zeroise 0 v, { result := resOk, ret := ret }) := by
  rw [secAfter, if_neg (not_not_intro rfl), if_pos rfl]

theorem secAfter_debug (ret : Nat) (v : State) :
    secAfter 0x40 (v, { result := resOk, ret := ret }) = (debugOpen v, { result := resOk, ret := ret }) := by
  rw [secAfter, if_neg (not_not_intro rfl), if_neg (by decide), if_pos rfl]

theorem zeroiseCommand_empties {a0 : Nat} (hhost : hostAccess s = true) (h : Admitted c [roleSecurity] s) (hbusy : s.sec.busy = none) :
    ∃ t, exec (.zeroise c a0 false) s = .next t ∧ t.sec.keys = [] ∧ t.pending = s.pending ∧
      (RestartFree s → t.dev.state = .boot ∧ t.cfg = {}) := by
  have hexec : exec (.zeroise c a0 false) s = .next (zeroise 0 (secAnswer 0x13 resOk 0 (touchSession c s))) := by
    show execZeroise c a0 false s = _
    have hbody : secBody (secCall 0x13 c a0 0 0 s) (touchSession c s) = (touchSession c s, resOk, 0) := rfl
    have hdone : secDone (secCall 0x13 c a0 0 0 s) (touchSession c s) = secAnswer 0x13 resOk 0 (touchSession c s) := secDone_ok hbody
    have hcode : (secFinish (secCall 0x13 c a0 0 0 s) (touchSession c s)).2.1 = resOk := secFinish_code hbody
    rw [execZeroise, cmdZeroise, hhost, officerRole, runSec_now (admitted_role h (by simp)) (admitted_clear h) hbusy, hdone, hcode,
      secAfter_zeroise]
  have hmoves := secAccepted_moves c 0x13 resOk 0 s
  generalize secAnswer 0x13 resOk 0 (touchSession c s) = v at hexec hmoves
  have hpending : (zeroise 0 v).pending = v.pending := (zeroise_moves 0 v).frame .pending rfl
  refine ⟨_, hexec, keys_zeroise .., hpending.trans (hmoves.frame .pending rfl), fun hfree => ?_⟩
  obtain ⟨hflush, href, hclosed⟩ := restartFree_of_moves hmoves rfl rfl hfree
  exact zeroise_enters_boot 0 (powerFailing_of_moves hmoves rfl (admitted_clear h).power) hflush href hclosed

/-- What DEBUG_UNLOCK does before its restart. -/
def debugErased (s : State) : State := emit 0x150C 0 0 0 (showCertified (setF F.SEC.STATUS_DEBUG_OPENED 1 (eraseKeys 2 s)))

theorem debugErased_moves (s : State) : Moves 0xe00082 s (debugErased s) :=
  moves_step (emit_moves ..) rfl (moves_step (showCertified_moves _) rfl (moves_step (setF_moves ..) rfl
    (moves_step (eraseKeys_moves ..) rfl moves_refl)))

theorem keyStore_debugErased (s : State) : keyStore (debugErased s) = [] := by
  rw [debugErased, keyStore_of_moves (emit_moves ..) rfl, keyStore_of_moves (showCertified_moves _) rfl,
    keyStore_of_moves (setF_moves ..) rfl, keyStore_eraseKeys]

theorem serialBytes_touchSession (c : Caller) (s : State) : serialBytes (touchSession c s) = serialBytes s := by
  rw [serialBytes, serialBytes, getF_touchSession_off c (Or.inl (by decide)) (by decide),
    getF_touchSession_off c (Or.inl (by decide)) (by decide)]

theorem debugSigned_touchSession (c : Caller) (sig : List Nat) (s : State) : debugSigned sig (touchSession c s) = debugSigned sig s := by
  obtain ⟨l, hl⟩ := sec_touchSession c s
  rw [debugSigned, debugSigned, serialBytes_touchSession, getF_touchSession_off c (Or.inl (by decide)) (by decide), hl]

/-- The words of a token are of this module, and its signature is true. -/
def TokenTrue (ws : List Nat) (s : State) : Prop :=
  ws.getD 0 0 = getF s F.DEV.SERIAL_LO ∧ ws.getD 1 0 = getF s F.DEV.SERIAL_HI ∧ ws.getD 2 0 = 0 ∧ ws.getD 3 0 = 0 ∧
    debugSigned (bytesOfWords ((ws.drop 4).take 24)) s = true

theorem tokenTrue_touchSession (c : Caller) (ws : List Nat) (s : State) : TokenTrue ws (touchSession c s) ↔ TokenTrue ws s := by
  rw [TokenTrue, TokenTrue, debugSigned_touchSession, getF_touchSession_off c (Or.inl (by decide)) (by decide),
    getF_touchSession_off c (Or.inl (by decide)) (by decide)]

theorem tokenBody_decided (ws : List Nat) (s : State) :
    (TokenTrue ws s → tokenBody ws s = (s, resOk, 0)) ∧ (¬ TokenTrue ws s → tokenBody ws s = refuse resBadArgument s) := by
  have hiff : (decide (ws.getD 0 0 = getF s F.DEV.SERIAL_LO) && decide (ws.getD 1 0 = getF s F.DEV.SERIAL_HI) && decide (ws.getD 2 0 = 0) &&
      decide (ws.getD 3 0 = 0) && debugSigned (bytesOfWords ((ws.drop 4).take 24)) s) = true ↔ TokenTrue ws s := by
    simp only [Bool.and_eq_true, decide_eq_true_eq, TokenTrue, and_assoc]
  unfold tokenBody
  exact ⟨fun h => if_pos (hiff.2 h), fun h => if_neg fun hb => h (hiff.1 hb)⟩

theorem debugUnlock_decided {a0 : Nat} (hmaint : inState s .maintenance = true) (h : Admitted c [roleSecurity] s)
    (hbusy : s.sec.busy = none) (wf : WellKept s) :
    (TokenTrue (secInput c s) s → ∃ t, exec (.debugUnlock c a0 false) s = .next t ∧ t.sec.keys = [] ∧
      (RestartFree s → t.dev.state = .boot ∧ t.cfg = {})) ∧
    (¬ TokenTrue (secInput c s) s → ∃ t, exec (.debugUnlock c a0 false) s = .next t ∧ t.sec.keys = s.sec.keys ∧ t.dev = s.dev ∧
      getF t F.SEC.CMD_RESULT_RESULT = resBadArgument) := by
  obtain ⟨htrue, hfalse⟩ := tokenBody_decided (secInput c s) (touchSession c s)
  rw [tokenTrue_touchSession] at htrue hfalse
  have hexec : exec (.debugUnlock c a0 false) s = .next (secAfter 0x40 (secDone (secCall 0x40 c a0 0 0 s) (touchSession c s),
      { result := (secFinish (secCall 0x40 c a0 0 0 s) (touchSession c s)).2.1,
        ret := (secFinish (secCall 0x40 c a0 0 0 s) (touchSession c s)).2.2 })).1 := by
    show execDebugUnlock c a0 false s = _
    rw [execDebugUnlock, cmdDebugUnlock, hmaint, officerRole, runSec_now (admitted_role h (by simp)) (admitted_clear h) hbusy]
  refine ⟨fun htoken => ?_, fun htoken => ?_⟩
  · have hbody : secBody (secCall 0x40 c a0 0 0 s) (touchSession c s) = (touchSession c s, resOk, 0) := htrue htoken
    have hcode : (secFinish (secCall 0x40 c a0 0 0 s) (touchSession c s)).2.1 = resOk := secFinish_code hbody
    rw [secDone_ok hbody, hcode, secAfter_debug] at hexec
    have hmoves : Moves 0xe00082 s (debugErased (secAnswer 0x40 resOk 0 (touchSession c s))) :=
      moves_step (debugErased_moves _) rfl (moves_step (secAccepted_moves c 0x40 resOk 0 s) rfl moves_refl)
    refine ⟨_, hexec, keyStore_restart false (keyStore_debugErased _), fun hfree => ?_⟩
    obtain ⟨hflush, href, hclosed⟩ := restartFree_of_moves hmoves rfl rfl hfree
    exact restart_enters_boot false (powerFailing_of_moves hmoves rfl (admitted_clear h).power) hflush href hclosed
  · have hbody : secBody (secCall 0x40 c a0 0 0 s) (touchSession c s) = refuse resBadArgument (touchSession c s) := hfalse htoken
    have hcode : (secFinish (secCall 0x40 c a0 0 0 s) (touchSession c s)).2.1 ≠ resOk := by
      rw [secFinish_code hbody]
      decide
    obtain ⟨hresult, hsec, hdev⟩ := secDone_refusedKeeps hbody (by decide) ((touchSession_moves c s).form wf)
    rw [secAfter, if_pos hcode] at hexec
    exact ⟨_, hexec, (congrArg SecPart.keys hsec).trans (keys_touchSession c s), hdev.trans (dev_touchSession c s), hresult⟩

end Sys2Proof.Machine
end

section
/-! SUPPORT. Microcode images and SEC's answers with an output (R483, R489, R490, R492). -/

namespace Sys2Proof.Machine

open Sys2Proof

variable {s t : State} {c : Caller}

/-! ### MICROCODE_WRITE (R489) -/

/-- The image slots (R54). -/
def imageSlots (s : State) : List ImageSlot := s.sec.images

theorem imageSlots_of_moves {m : Nat} (h : Moves m s t) (hm : m.testBit 23 = false) : imageSlots t = imageSlots s :=
  congrArg SecPart.images (h.frame .sec hm)

/-- The chunk that a write puts into a slot: its bytes, with zeros for what the input lacks. -/
def chunkBytes (ws : List Nat) (n : Nat) : List Nat := (bytesOfWords ws ++ List.replicate 4096 0).take n

theorem chunkBytes_eq (ws : List Nat) {n : Nat} (h : n ≤ 4096) :
    (bytesOfWords ws).take n ++ List.replicate (n - ((bytesOfWords ws).take n).length) 0 = chunkBytes ws n := by
  rw [chunkBytes, List.take_append, List.take_replicate, List.length_take]
  congr 2
  omega

theorem chunkBytes_length (ws : List Nat) {n : Nat} (h : n ≤ 4096) : (chunkBytes ws n).length = n := by
  rw [chunkBytes, List.length_take, List.length_append, List.length_replicate]
  omega

/-- An image slot with a chunk written, of the length `size`. -/
def chunkWritten (offset size : Nat) (bytes : List Nat) (x : ImageSlot) : ImageSlot :=
  { size := size, chunks := tablePut [] x.chunks (offset / 4096) bytes }

/-- The image in slot `i` is `x` and those of the other slots stand. -/
def SlotWritten (i : Nat) (x : ImageSlot) (s t : State) : Prop := (imageSlots t) = (imageSlots s).set i x

theorem slotWritten_writeChunk (i offset : Nat) (bytes : List Nat) (last : Bool) (s : State) :
    SlotWritten i (chunkWritten offset (if last then offset + bytes.length else 0) bytes ((imageSlots s).getD i {})) s
      (writeChunk i offset bytes last s) := rfl

theorem slotWritten_dropImage {i : Nat} {x : ImageSlot} (hi : i < (imageSlots s).length) (h : SlotWritten i x s t) :
    SlotWritten i { x with size := 0 } s (dropImage i t) := by
  have hat : (imageSlots t).getD i {} = x := by
    rw [h, List.getD_eq_getElem?_getD, List.getElem?_set_self hi]
    rfl
  show listUpd {} (imageSlots t) i (fun y => { y with size := 0 }) = _
  rw [listUpd, hat, h, List.set_set]

theorem slotWritten_of_moves {m i : Nat} {x : ImageSlot} {v : State} (h : Moves m t v) (hm : m.testBit 23 = false)
    (hw : SlotWritten i x s t) : SlotWritten i x s v := (imageSlots_of_moves h hm).trans hw

/-- The image in a slot is signed and of the least version that the registers of `s` allow. -/
def ImageGood (image : List Nat) (s : State) : Prop :=
  imageSigned s.sec.imageKeyHash image = true ∧ getF s F.SEC.MIN_VERSION_VERSION ≤ imageVersion image

theorem imageValid_written {i offset : Nat} {bytes : List Nat} {last : Bool} (hi : i < (imageSlots s).length) :
    imageValid (writeChunk i offset bytes last s) i = true ↔
      ImageGood (imageBytes (chunkWritten offset (if last then offset + bytes.length else 0) bytes ((imageSlots s).getD i {}))) s := by
  have hslot : slotImage (writeChunk i offset bytes last s) i =
      imageBytes (chunkWritten offset (if last then offset + bytes.length else 0) bytes ((imageSlots s).getD i {})) := by
    have hwritten := slotWritten_writeChunk i offset bytes last s
    rw [SlotWritten] at hwritten
    show imageBytes ((imageSlots (writeChunk i offset bytes last s)).getD i {}) = _
    rw [hwritten, List.getD_eq_getElem?_getD, List.getElem?_set_self hi]
    rfl
  rw [imageValid, hslot, Bool.and_eq_true, decide_eq_true_eq]
  rfl

/-- The own steps of MICROCODE_WRITE on a chunk within the slot, by whether it is the last one and the image is good. -/
theorem microcodeBody_writes {a0 a1 a2 : Nat} {ws : List Nat} (h0 : a0 % 4096 = 0) (h1 : 1 ≤ a1) (h4096 : a1 ≤ 4096)
    (hroom : a0 + a1 ≤ 67108864) (hi : 1 - s.sec.runningSlot < (imageSlots s).length) :
    let x := fun size => chunkWritten a0 size (chunkBytes ws a1) ((imageSlots s).getD (1 - s.sec.runningSlot) {})
    ∃ v, (a2 % 2 = 0 → microcodeBody a0 a1 a2 ws s = (v, resOk, a1) ∧ SlotWritten (1 - s.sec.runningSlot) (x 0) s v) ∧
      (a2 % 2 = 1 →
        (ImageGood (imageBytes (x (a0 + a1))) s →
          microcodeBody a0 a1 a2 ws s = (v, resOk, a1) ∧ SlotWritten (1 - s.sec.runningSlot) (x (a0 + a1)) s v) ∧
        (¬ ImageGood (imageBytes (x (a0 + a1))) s →
          microcodeBody a0 a1 a2 ws s = refuse resBadArgument v ∧ SlotWritten (1 - s.sec.runningSlot) (x 0) s v)) := by
  intro x
  have hform : (decide (a0 % 4096 ≠ 0) || decide (a1 = 0) || decide (a1 > 4096) || decide (a0 + a1 > 67108864)) = false := by
    simp only [h0, ne_eq, not_true_eq_false, decide_false, Bool.false_or, Bool.or_eq_false_iff, decide_eq_false_iff_not]
    omega
  have hlen := chunkBytes_length ws h4096
  unfold microcodeBody
  dsimp only
  rw [if_neg (Bool.eq_false_iff.1 hform), chunkBytes_eq ws h4096]
  rcases Nat.mod_two_eq_zero_or_one a2 with heven | hodd
  · rw [if_pos heven, heven]
    exact ⟨_, fun _ => ⟨rfl, slotWritten_writeChunk ..⟩, fun h => absurd h (by decide)⟩
  · rw [if_neg (by rw [hodd]; decide), hodd]
    have hvalid := imageValid_written (s := s) (offset := a0) (bytes := chunkBytes ws a1) (last := 1 == 1) hi
    have hwritten := slotWritten_writeChunk (1 - s.sec.runningSlot) a0 (chunkBytes ws a1) (1 == 1) s
    have hx : chunkWritten a0 (if (1 == 1) = true then a0 + (chunkBytes ws a1).length else 0) (chunkBytes ws a1)
        ((imageSlots s).getD (1 - s.sec.runningSlot) {}) = x (a0 + a1) := by
      rw [if_pos (show (1 == 1) = true from rfl), hlen]
    rw [hx] at hvalid hwritten
    by_cases hgood : ImageGood (imageBytes (x (a0 + a1))) s
    · rw [if_pos (hvalid.2 hgood)]
      exact ⟨_, fun h => absurd h (by decide), fun _ => ⟨fun _ => ⟨rfl, slotWritten_of_moves (emit_moves ..) rfl hwritten⟩,
        fun hbad => absurd hgood hbad⟩⟩
    · rw [if_neg fun hv => hgood (hvalid.1 hv)]
      exact ⟨_, fun h => absurd h (by decide), fun _ => ⟨fun hg => absurd hg hgood,
        fun _ => ⟨rfl, slotWritten_of_moves (emit_moves ..) rfl (slotWritten_dropImage hi hwritten)⟩⟩⟩

theorem exec_microcodeWrite (a0 a1 a2 : Nat) (hmaint : inState s .maintenance = true) (h : Admitted c [roleSecurity] s)
    (hbusy : s.sec.busy = none) :
    exec (.microcodeWrite c a0 a1 a2 false) s = .next (secDone (secCall 0x30 c a0 a1 a2 s) (touchSession c s)) := by
  have hrecovery : recoveryMode s = false := by
    rw [recoveryMode, inState, inState_eq _ hmaint]
    rfl
  show execMicrocodeWrite c a0 a1 a2 false s = _
  rw [execMicrocodeWrite, cmdMicrocodeWrite, hrecovery, hmaint, officerRole]
  exact congrArg Host.Outcome.next (runSec_plain (admitted_role h (by simp)) (admitted_clear h) hbusy (by decide) (by decide))

/-- A slot as a write leaves it: read back, beside the other slot. -/
theorem slotWritten_reads {i j : Nat} {x : ImageSlot} (hi : i < (imageSlots s).length) (hij : i ≠ j) (h : SlotWritten i x s t) :
    t.sec.images[i]? = some x ∧ t.sec.images[j]? = s.sec.images[j]? := by
  have himages : t.sec.images = (imageSlots s).set i x := h
  exact ⟨by rw [himages, List.getElem?_set_self hi], by rw [himages, List.getElem?_set_ne hij]; rfl⟩

theorem imageGood_touchSession (c : Caller) (image : List Nat) (s : State) : ImageGood image (touchSession c s) ↔ ImageGood image s := by
  obtain ⟨l, hl⟩ := sec_touchSession c s
  rw [ImageGood, ImageGood, getF_touchSession_off c (Or.inl (by decide)) (by decide), hl]

theorem microcodeWrite_writes {a0 a1 a2 : Nat} (hmaint : inState s .maintenance = true) (h : Admitted c [roleSecurity] s)
    (hbusy : s.sec.busy = none) (h0 : a0 % 4096 = 0) (h1 : 1 ≤ a1) (h4096 : a1 ≤ 4096) (hroom : a0 + a1 ≤ 67108864)
    (htwo : s.sec.images.length = 2) (hrunning : s.sec.runningSlot < 2) (hrise : ∀ x ∈ s.sec.images, keysRise x.chunks = true)
    (wf : WellKept s) :
    ∃ t x, exec (.microcodeWrite c a0 a1 a2 false) s = .next t ∧ t.sec.images[1 - s.sec.runningSlot]? = some x ∧
      t.sec.images[s.sec.runningSlot]? = s.sec.images[s.sec.runningSlot]? ∧
      tableGet [] x.chunks (a0 / 4096) = chunkBytes (secInput c s) a1 ∧
      (∀ k, k ≠ a0 / 4096 → tableGet [] x.chunks k = tableGet [] (s.sec.images.getD (1 - s.sec.runningSlot) {}).chunks k) ∧
      (a2 % 2 = 0 → x.size = 0 ∧ getF t F.SEC.CMD_RESULT_RESULT = resOk) ∧
      (a2 % 2 = 1 →
        (ImageGood (imageBytes { size := a0 + a1, chunks := x.chunks }) s → x.size = a0 + a1 ∧ getF t F.SEC.CMD_RESULT_RESULT = resOk) ∧
        (¬ ImageGood (imageBytes { size := a0 + a1, chunks := x.chunks }) s →
          x.size = 0 ∧ getF t F.SEC.CMD_RESULT_RESULT = resBadArgument)) := by
  obtain ⟨l, hl⟩ := sec_touchSession c s
  have himages : imageSlots (touchSession c s) = s.sec.images := by rw [imageSlots, hl]
  have hslot : (touchSession c s).sec.runningSlot = s.sec.runningSlot := by rw [hl]
  have hi : 1 - s.sec.runningSlot < s.sec.images.length := by omega
  have hne : 1 - s.sec.runningSlot ≠ s.sec.runningSlot := by omega
  have hi1 : 1 - s.sec.runningSlot < (imageSlots (touchSession c s)).length := by rw [himages]; exact hi
  have hwrites := microcodeBody_writes (s := touchSession c s) (a2 := a2) (ws := secInput c s) h0 h1 h4096 hroom
    (by rw [hslot]; exact hi1)
  rw [hslot, himages] at hwrites
  dsimp only at hwrites
  obtain ⟨v, heven, hodd⟩ := hwrites
  generalize hold : s.sec.images.getD (1 - s.sec.runningSlot) {} = old at heven hodd ⊢
  have hchunks : keysRise old.chunks = true := by
    refine hrise _ ?_
    rw [← hold, List.getD_eq_getElem?_getD, List.getElem?_eq_getElem hi]
    exact List.getElem_mem hi
  have hchunk : ∀ size, tableGet [] (chunkWritten a0 size (chunkBytes (secInput c s) a1) old).chunks (a0 / 4096) =
      chunkBytes (secInput c s) a1 := fun _ => tableGet_put_same [] _ _ _ hchunks
  have hothers : ∀ size k, k ≠ a0 / 4096 → tableGet [] (chunkWritten a0 size (chunkBytes (secInput c s) a1) old).chunks k =
      tableGet [] old.chunks k := fun _ k hk => tableGet_put_other [] [] _ _ _ _ (Ne.symm hk)
  have hexec := exec_microcodeWrite a0 a1 a2 hmaint h hbusy
  have hmoves := microcodeBody_moves a0 a1 a2 (secInput c s) (touchSession c s)
  have wf1 := (touchSession_moves c s).form wf
  have hreads : ∀ {w : State} {x : ImageSlot}, SlotWritten (1 - s.sec.runningSlot) x (touchSession c s) w →
      w.sec.images[1 - s.sec.runningSlot]? = some x ∧ w.sec.images[s.sec.runningSlot]? = s.sec.images[s.sec.runningSlot]? := fun {w x} hw => by
    obtain ⟨hx, hother⟩ := slotWritten_reads hi1 hne hw
    exact ⟨hx, hother.trans (by rw [hl])⟩
  have hok : microcodeBody a0 a1 a2 (secInput c s) (touchSession c s) = (v, resOk, a1) →
      getF (secDone (secCall 0x30 c a0 a1 a2 s) (touchSession c s)) F.SEC.CMD_RESULT_RESULT = resOk ∧
        (secDone (secCall 0x30 c a0 a1 a2 s) (touchSession c s)).sec = v.sec := fun hbody => by
    rw [hbody] at hmoves
    have hbody' : secBody (secCall 0x30 c a0 a1 a2 s) (touchSession c s) = (v, resOk, a1) := hbody
    refine ⟨secDone_okResult hbody' (hmoves.form wf1), ?_⟩
    rw [secDone_ok hbody']
    exact secAnswer_sec ..
  have hrefused : microcodeBody a0 a1 a2 (secInput c s) (touchSession c s) = refuse resBadArgument v →
      getF (secDone (secCall 0x30 c a0 a1 a2 s) (touchSession c s)) F.SEC.CMD_RESULT_RESULT = resBadArgument ∧
        (secDone (secCall 0x30 c a0 a1 a2 s) (touchSession c s)).sec = v.sec := fun hbody => by
    rw [hbody] at hmoves
    obtain ⟨hresult, hsec, -⟩ := secDone_refusedKeeps (x := secCall 0x30 c a0 a1 a2 s) hbody (by decide) (hmoves.form wf1)
    exact ⟨hresult, hsec⟩
  rcases Nat.mod_two_eq_zero_or_one a2 with hparity | hparity
  · obtain ⟨hbody, hw⟩ := heven hparity
    obtain ⟨hresult, hsec⟩ := hok hbody
    obtain ⟨hx, hother⟩ := hreads hw
    rw [← hsec] at hx hother
    exact ⟨_, _, hexec, hx, hother, hchunk 0, hothers 0, fun _ => ⟨rfl, hresult⟩, fun hp => absurd (hparity.symm.trans hp) (by decide)⟩
  · obtain ⟨hgoodCase, hbadCase⟩ := hodd hparity
    rw [imageGood_touchSession] at hgoodCase hbadCase
    by_cases hgood : ImageGood (imageBytes (chunkWritten a0 (a0 + a1) (chunkBytes (secInput c s) a1) old)) s
    · obtain ⟨hbody, hw⟩ := hgoodCase hgood
      obtain ⟨hresult, hsec⟩ := hok hbody
      obtain ⟨hx, hother⟩ := hreads hw
      rw [← hsec] at hx hother
      exact ⟨_, _, hexec, hx, hother, hchunk _, hothers _, fun hp => absurd (hparity.symm.trans hp) (by decide),
        fun _ => ⟨fun _ => ⟨rfl, hresult⟩, fun hbad => absurd hgood hbad⟩⟩
    · obtain ⟨hbody, hw⟩ := hbadCase hgood
      obtain ⟨hresult, hsec⟩ := hrefused hbody
      obtain ⟨hx, hother⟩ := hreads hw
      rw [← hsec] at hx hother
      exact ⟨_, _, hexec, hx, hother, hchunk _, hothers _, fun hp => absurd (hparity.symm.trans hp) (by decide),
        fun _ => ⟨fun hg => absurd hg hgood, fun _ => ⟨rfl, hresult⟩⟩⟩

/-! ### SET_MIN_VERSION (R490) -/

theorem setMinVersion_spends {a0 : Nat} (hmaint : inState s .maintenance = true) (h : Admitted c [roleSecurity] s)
    (hbusy : s.sec.busy = none) (hbelow : getF s F.SEC.MIN_VERSION_VERSION < getF s F.DEV.BOOT_IMAGE_VERSION)
    (hversion : getF s F.DEV.BOOT_IMAGE_VERSION < 65536) (hsome : 0 < getF s F.SEC.MIN_VERSION_WRITES_LEFT)
    (hleft : getF s F.SEC.MIN_VERSION_WRITES_LEFT ≤ 64) (wf : WellKept s) :
    ∃ t, exec (.setMinVersion c a0 false) s = .next t ∧ getF t F.SEC.MIN_VERSION_VERSION = getF s F.DEV.BOOT_IMAGE_VERSION ∧
      getF t F.SEC.MIN_VERSION_WRITES_LEFT = getF s F.SEC.MIN_VERSION_WRITES_LEFT - 1 ∧ getF t F.SEC.CMD_RESULT_RESULT = resOk ∧
      OnlyParts [.regs, .cont, .sec] s t := by
  have wf1 := (touchSession_moves c s).form wf
  have hstands : ∀ f : Field, f.addr < 0x1500100 → f.lsb < 32 → getF (touchSession c s) f = getF s f := fun f hf hlsb =>
    getF_touchSession_off c (Or.inl hf) hlsb s
  generalize hv : getF s F.DEV.BOOT_IMAGE_VERSION = v at hbelow hversion ⊢
  generalize hn : getF s F.SEC.MIN_VERSION_WRITES_LEFT = n at hsome hleft ⊢
  have hbody : secBody (secCall 0x31 c a0 0 0 s) (touchSession c s) = (emit 0x150B v (n - 1) 0 (setF F.SEC.MIN_VERSION_VERSION v
      (setF F.SEC.MIN_VERSION_WRITES_LEFT (n - 1) (touchSession c s))), resOk, v) := by
    show minVersionBody (touchSession c s) = _
    unfold minVersionBody
    dsimp only
    rw [hstands _ (by decide) (by decide), hstands _ (by decide) (by decide), hstands _ (by decide) (by decide), hv, hn,
      if_neg (Nat.not_le.2 hbelow), if_neg (by omega)]
  have hexec : exec (.setMinVersion c a0 false) s = .next (secDone (secCall 0x31 c a0 0 0 s) (touchSession c s)) := by
    show execSetMinVersion c a0 false s = _
    rw [execSetMinVersion, cmdSetMinVersion, hmaint, officerRole,
      runSec_plain (admitted_role h (by simp)) (admitted_clear h) hbusy (by decide) (by decide)]
  have hmoves : Moves 0x200002 (touchSession c s) (emit 0x150B v (n - 1) 0 (setF F.SEC.MIN_VERSION_VERSION v
      (setF F.SEC.MIN_VERSION_WRITES_LEFT (n - 1) (touchSession c s)))) :=
    moves_step (emit_moves ..) rfl (moves_step (setF_moves ..) rfl (moves_step (setF_moves ..) rfl moves_refl))
  have hresult := secDone_okResult hbody (hmoves.form wf1)
  rw [secDone_ok hbody] at hexec hresult
  refine ⟨_, hexec, ?_, ?_, hresult, onlyParts_of_moves s _ (moves_step (secAnswer_moves ..) rfl (moves_step hmoves rfl
    (moves_step (touchSession_moves c s) rfl moves_refl)) : Moves 0xa00002 s _) rfl⟩
  · rw [getF_secAnswer (by decide) (by decide), getF_emit]
    exact getF_setF_lt (setF_keysRise _ _ _ wf1.regs) hversion
  · rw [getF_secAnswer (by decide) (by decide), getF_emit, getF_setF_other _ _ _ _ (by decide)]
    exact getF_setF_lt wf1.regs (show n - 1 < 256 by omega)

/-! ### Commands that return an output and change no key (R476, R483, R492) -/

/-- A call that ends well at once, keeps the key store and moves only the registers, SEC and the free values. -/
theorem secDone_keeps {op a0 ret : Nat} {v : State} (wf : WellKept s)
    (hbody : secBody (secCall op c a0 0 0 s) (touchSession c s) = (v, resOk, ret)) (hmoves : Moves 0x4800002 (touchSession c s) v)
    (hkeys : v.sec.keys = s.sec.keys) :
    (secDone (secCall op c a0 0 0 s) (touchSession c s)).sec.keys = s.sec.keys ∧
      getF (secDone (secCall op c a0 0 0 s) (touchSession c s)) F.SEC.CMD_RESULT_RESULT = resOk ∧
      getF (secDone (secCall op c a0 0 0 s) (touchSession c s)) F.SEC.CMD_RETURN = ret % 2 ^ 32 ∧
      OnlyParts [.regs, .sec, .free] s (secDone (secCall op c a0 0 0 s) (touchSession c s)) ∧
      (secDone (secCall op c a0 0 0 s) (touchSession c s)).free = v.free := by
  have wfv := hmoves.form ((touchSession_moves c s).form wf)
  have hall : Moves 0x4800002 s (secAnswer op resOk ret v) :=
    moves_step (secAnswer_moves ..) rfl (moves_step hmoves rfl (moves_step (touchSession_moves c s) rfl moves_refl))
  refine ⟨?_, secDone_okResult hbody wfv, ?_, ?_, ?_⟩ <;> rw [secDone_ok hbody]
  · exact (congrArg SecPart.keys (secAnswer_sec ..)).trans hkeys
  · exact secAnswer_return _ _ _ wfv.regs
  · exact onlyParts_of_moves s _ hall rfl
  · exact (secAnswer_moves ..).frame .free rfl

theorem admitted_any {rs : Option (List Nat)} (h : Admitted c anyRole s) (hrs : rs = claimRoles ∨ rs = sessionRoles) : RoleTaken rs c s := by
  rcases hrs with rfl | rfl
  · exact admitted_role h (List.subset_append_left _ _)
  · exact admitted_role h (List.Subset.refl _)

theorem exec_keyInfo (a0 : Nat) (hhost : hostAccess s = true) (h : Admitted c anyRole s) (hbusy : s.sec.busy = none) :
    exec (.keyInfo c a0 false) s = .next (secDone (secCall 0x12 c a0 0 0 s) (touchSession c s)) := by
  show execKeyInfo c a0 false s = _
  rw [execKeyInfo, cmdKeyInfo, hhost, runSec_plain (admitted_any h (Or.inl rfl)) (admitted_clear h) hbusy (by decide) (by decide)]

theorem exec_getCert (a0 : Nat) (hhost : hostAccess s = true) (h : Admitted c anyRole s) (hbusy : s.sec.busy = none) :
    exec (.getCert c a0 false) s = .next (secDone (secCall 0x20 c a0 0 0 s) (touchSession c s)) := by
  show execGetCert c a0 false s = _
  rw [execGetCert, cmdGetCert, hhost, runSec_plain (admitted_any h (Or.inl rfl)) (admitted_clear h) hbusy (by decide) (by decide)]

theorem exec_attest (a0 : Nat) (hstates : attestStates s = true) (h : Admitted c anyRole s) (hbusy : s.sec.busy = none) :
    exec (.attest c a0 false) s = .next (secDone (secCall 0x21 c a0 0 0 s) (touchSession c s)) := by
  show execAttest c a0 false s = _
  rw [execAttest, cmdAttest, hstates, runSec_plain (admitted_any h (Or.inr rfl)) (admitted_clear h) hbusy (by decide) (by decide)]

theorem exec_random (a0 : Nat) (hstates : attestStates s = true) (hdrbg : flag s F.SEC.STATUS_DRBG_FAILED = false)
    (h : Admitted c anyRole s) (hbusy : s.sec.busy = none) :
    exec (.random c a0 false) s = .next (secDone (secCall 0x22 c a0 0 0 s) (touchSession c s)) := by
  show execRandom c a0 false s = _
  rw [execRandom, cmdRandom, hstates, hdrbg]
  exact congrArg Host.Outcome.next (runSec_plain (admitted_any h (Or.inr rfl)) (admitted_clear h) hbusy (by decide) (by decide))

theorem keys_drawWords (n : Nat) (s : State) : (drawWords n s).2.sec.keys = s.sec.keys :=
  congrArg SecPart.keys ((drawWords_moves n s).frame .sec rfl)

theorem keys_written (c d : Caller) (ws : List Nat) (s : State) : (putOutput d ws (touchSession c s)).sec.keys = s.sec.keys :=
  (keys_putOutput ..).trans (keys_touchSession c s)

theorem putOutput_wide (d : Caller) (ws : List Nat) (s : State) : Moves 0x4800002 s (putOutput d ws s) :=
  moves_step (putOutput_moves ..) rfl moves_refl

/-- KEY_INFO gives the words of the entry, or zeros, and returns its kind. -/
theorem infoBody_gives {a0 : Nat} (h : a0 ≤ 4735) (v : State) :
    ∃ ws, infoBody c a0 v = (putOutput c ws v, resOk, ((tableGet none v.sec.keys a0).map KeyEntry.kind).getD 0) := by
  rw [infoBody, if_neg (Nat.not_lt.2 h)]
  cases tableGet none v.sec.keys a0 with
  | none => exact ⟨_, rfl⟩
  | some k => exact ⟨_, rfl⟩

theorem randomBody_draws {a0 : Nat} (h1 : 1 ≤ a0) (h4096 : a0 ≤ 4096) (v : State) :
    ∃ ws, randomBody c a0 v = (putOutput c ws (drawWords ((a0 + 3) / 4) v).2, resOk, a0) := by
  have hrange : (decide (a0 = 0) || decide (a0 > 4096)) = false := by
    rw [decide_eq_false (by omega), decide_eq_false (by omega)]
    rfl
  rw [randomBody, if_neg (Bool.eq_false_iff.1 hrange)]
  exact ⟨_, rfl⟩

end Sys2Proof.Machine
end

section
/-! The statement about keys, identity and microcode. -/

namespace Sys2Proof.Certificates

open Sys2Proof Sys2Proof.Machine

/-- Settles O58: a pending command ends with its own steps, none of which starts another; and each command at once is its checks, its
step on the key store, on an image slot or on the output, and its answer. -/
theorem keysIdentityAndMicrocode : Obligations.KeysIdentityAndMicrocode := by
  unfold Obligations.KeysIdentityAndMicrocode
  refine ⟨fun x s wf hbusy h13 h40 => secCommandDone_ends wf hbusy h13 h40, fun s h => secCommandDone_idle h,
    fun c s wf hhost hbusy hrise => ?_⟩
  intro result restarts
  refine ⟨fun h => ⟨fun a0 hstates => ⟨fun b hblob hok hfree => installKey_unwrapped hstates h hbusy hblob hok hfree hrise wf,
      fun hblob => installKey_wrong hstates h hbusy hblob wf⟩,
    fun a0 a1 n k hstates h0 h1 hkey hfree hlast => deleteKey_empties hstates h hbusy h0 h1 hkey hfree hlast hrise wf,
    fun a0 => ?_, fun hmaint => ⟨fun a0 a1 a2 h0 h1 h4096 hroom htwo hrunning hchunks => ?_, fun hbelow hversion hsome hleft a0 => ?_,
      fun a0 => ?_⟩⟩, fun h => ?_⟩
  · obtain ⟨t, hexec, hkeys, hpending, hboot⟩ := zeroiseCommand_empties (a0 := a0) hhost h hbusy
    exact ⟨t, hexec, hkeys, hpending, fun ⟨hflush, href, hclosed⟩ => hboot ⟨hflush, href, hclosed⟩⟩
  · exact microcodeWrite_writes hmaint h hbusy h0 h1 h4096 hroom htwo hrunning hchunks wf
  · exact setMinVersion_spends hmaint h hbusy hbelow hversion hsome hleft wf
  · obtain ⟨htrue, hfalse⟩ := debugUnlock_decided (a0 := a0) hmaint h hbusy wf
    refine ⟨fun htoken => ?_, hfalse⟩
    obtain ⟨t, hexec, hkeys, hboot⟩ := htrue htoken
    exact ⟨t, hexec, hkeys, fun ⟨hflush, href, hclosed⟩ => hboot ⟨hflush, href, hclosed⟩⟩
  · intro kept
    refine ⟨fun a0 ha0 => ?_, fun a0 => ?_, fun hstates => ⟨fun a0 => ?_, fun a0 h1 h4096 hdrbg => ?_⟩⟩
    · obtain ⟨ws, hbody⟩ := infoBody_gives (c := c) ha0 (touchSession c s)
      rw [keys_touchSession] at hbody
      obtain ⟨hkeys, hresult, hreturn, hparts, -⟩ := secDone_keeps (op := 0x12) (c := c) (a0 := a0) wf hbody (putOutput_wide ..) (keys_written ..)
      exact ⟨_, exec_keyInfo a0 hhost h hbusy, hkeys, hresult, hreturn, hparts⟩
    · obtain ⟨hkeys, hresult, hreturn, hparts, -⟩ := secDone_keeps (op := 0x20) (c := c) (a0 := a0) wf rfl (putOutput_wide ..) (keys_written ..)
      exact ⟨_, exec_getCert a0 hhost h hbusy, hkeys, hresult, hreturn, hparts⟩
    · obtain ⟨hkeys, hresult, hreturn, hparts, -⟩ := secDone_keeps (op := 0x21) (c := c) (a0 := a0) wf rfl (attestBody_moves ..)
        ((keys_putOutput ..).trans ((keys_drawWords 24 _).trans (keys_touchSession c s)))
      exact ⟨_, exec_attest a0 hstates h hbusy, hkeys, hresult, hreturn, hparts⟩
    · obtain ⟨ws, hbody⟩ := randomBody_draws (c := c) h1 h4096 (touchSession c s)
      obtain ⟨hkeys, hresult, hreturn, hparts, hfree⟩ := secDone_keeps (op := 0x22) (c := c) (a0 := a0) wf hbody
        (moves_step (putOutput_moves ..) rfl (moves_step (drawWords_moves ..) rfl moves_refl))
        ((keys_putOutput ..).trans ((keys_drawWords ..).trans (keys_touchSession c s)))
      refine ⟨_, exec_random a0 hstates hdrbg h hbusy, ⟨hkeys, hresult, hreturn, hparts⟩, hfree.trans ?_⟩
      have hdrawn := (drawWords_free ((a0 + 3) / 4) (touchSession c s)).trans (congrArg (· + (a0 + 3) / 4) ((touchSession_moves c s).frame .free rfl))
      exact ((putOutput_moves ..).frame .free rfl).trans hdrawn

end Sys2Proof.Certificates
end

section
/-! SUPPORT. A state whose register file holds more than a register can in the submission queue's head. -/

namespace Sys2Proof.Machine

open Sys2Proof

/-- A module in MAINTENANCE with its domains on, otherwise fresh, whose SQ_HEAD stands one past the 32 bits of the register. -/
def wideHeadState : State :=
  { State.reset with
    dev := { State.reset.dev with state := .maintenance }
    regs := [(fieldKey F.DEV.PART, 38472), (fieldKey F.HOST.SQ_HEAD, 2 ^ 32), (fieldKey F.PWR.DOMAIN_STATE, 0xFFFF)] }

theorem wideHeadState_wellKept : WellKept wideHeadState :=
  ⟨by decide, rfl, rfl, rfl, rfl, rfl, rfl, rfl, rfl, wellKept_reset.volatileRing, rfl⟩

theorem wideHeadState_up : hostUp wideHeadState = true := by decide +kernel

/-- A reset copies the head to the tail, which keeps its own 32 bits only (R498). -/
theorem wideHeadState_reset_differs :
    ∃ t, exec (.hostReset 0) wideHeadState = .next t ∧ getF t F.HOST.SQ_TAIL ≠ getF t F.HOST.SQ_HEAD :=
  ⟨_, rfl, by decide +kernel⟩

end Sys2Proof.Machine
end

section
/-! The statement about rings and submissions. -/

namespace Sys2Proof.Certificates

open Sys2Proof Sys2Proof.Machine

/-- Refutes O59, in the clause on HOST_RESET: `WellKept` bounds no register's value by its width, and where SQ_HEAD stands at 2^32 the
reset leaves SQ_TAIL at 0, so that the submission queue is not empty. -/
theorem not_ringsAndSubmissions : ¬ Obligations.RingsAndSubmissions := by
  intro h
  obtain ⟨-, -, -, -, hreset, -⟩ := h wideHeadState wideHeadState_wellKept wideHeadState_up (by decide) (by decide)
  obtain ⟨t, hexec, -, hempty, -⟩ := hreset 0 (by decide)
  obtain ⟨u, hexec', hdiffers⟩ := wideHeadState_reset_differs
  obtain rfl : t = u := by rw [hexec] at hexec'; exact Host.Outcome.next.inj hexec'
  exact hdiffers hempty

end Sys2Proof.Certificates
end

section
/-! SUPPORT. What the events of the two X1 inputs leave (R521, R534). -/

namespace Sys2Proof.Machine

open Sys2Proof

variable {s : State} {x mv : Nat}

/-- An input's reading and whether it is good are shown. -/
def inputShown (x mv : Nat) (good : Bool) (s : State) : State := showInput x good (putSupply x mv s)

/-- INPUT_LOST, once it is due: the input is lost, counted and recorded. -/
def inputGone (x mv : Nat) (s : State) : State :=
  supplyHealth (emit 0x1701 x mv 0 (bumpF F.PWR.INPUT_LOST_COUNT 1 (inputShown x mv false s)))

/-- INPUT_RESTORED, once it is due, but for the overvoltage stage. -/
def inputReturned (x mv : Nat) (s : State) : State := supplyHealth (emit 0x1702 x mv 0 (inputShown x mv true s))

/-- The overvoltage stage keeps an input off or lets it on. -/
def withDisconnected (x : Nat) (off : Bool) (s : State) : State :=
  { s with pwr := { s.pwr with disconnected := listPut s.pwr.disconnected x off } }

theorem exec_inputLost (hx : x < 2) (hup : inState s .off = false) (hpower : powerFailing s = false) (hmv : mv < 16000)
    (hgood : s.pwr.inputGood[x]? = some true) (hother : s.pwr.inputGood[1 - x]? = some true) :
    exec (.inputLost x mv) s = .next (inputGone x mv s) := by
  show execInputLost x mv s = _
  simp [execInputLost, hup, hpower, hx, hmv, hgood, hother, inputGone, inputShown]

theorem exec_inputRestored (hx : x < 2) (hup : inState s .off = false) (hmv : 16000 ≤ mv)
    (hlost : s.pwr.inputGood[x]? = some false) :
    exec (.inputRestored x mv) s =
      .next (withDisconnected x (s.pwr.disconnected.getD x false && decide (36000 ≤ mv)) (inputReturned x mv s)) := by
  show execInputRestored x mv s = _
  simp [execInputRestored, hup, hx, hmv, hlost, withDisconnected, inputReturned, inputShown]

theorem exec_inputOvervoltage (hx : x < 2) (hup : inState s .off = false) (hmv : 38000 < mv) :
    exec (.inputOvervoltage x mv) s = .next (withDisconnected x true (putSupply x mv s)) := by
  show execInputOvervoltage x mv s = _
  simp [execInputOvervoltage, hup, hx, hmv, withDisconnected]

/-! ### Fields -/

theorem putSupply_onlyFields (x mv : Nat) (s : State) :
    OnlyFields [F.PWR.SUPPLY_A_MV, F.PWR.SUPPLY_B_MV] s (putSupply x mv s) := by
  unfold putSupply
  split <;> exact onlyFields_setF (by simp) onlyFields_refl

/-- The fields in which the state of the inputs is shown. -/
def inputFields : List Field :=
  [F.PWR.SUPPLY_A_MV, F.PWR.SUPPLY_B_MV, F.PWR.STATUS_INPUT_A_GOOD, F.PWR.STATUS_INPUT_B_GOOD]

theorem inputShown_onlyFields (x mv : Nat) (good : Bool) (s : State) : OnlyFields inputFields s (inputShown x mv good s) := by
  have hsupply : OnlyFields inputFields s (putSupply x mv s) :=
    onlyFields_mono (putSupply_onlyFields x mv s) (by simp [inputFields])
  unfold inputShown showInput
  split <;> exact onlyFields_setF (by simp [inputFields]) hsupply

theorem inputShown_moves (x mv : Nat) (good : Bool) (s : State) : Moves 0x1000002 s (inputShown x mv good s) :=
  moves_step (showInput_moves ..) rfl (moves_step (putSupply_moves ..) rfl moves_refl)

theorem inputShown_pwr (x mv : Nat) (good : Bool) (s : State) :
    (inputShown x mv good s).pwr = { s.pwr with inputGood := listPut s.pwr.inputGood x good } := by
  unfold inputShown putSupply
  rfl

theorem supplyHealth_onlyFields (s : State) : OnlyFields (healthFields 23) s (supplyHealth s) := setHealth_onlyFields 23 _ s

theorem getF_inputLostCount (x mv : Nat) (wf : WellKept s) :
    getF (inputGone x mv s) F.PWR.INPUT_LOST_COUNT = min (getF s F.PWR.INPUT_LOST_COUNT + 1) 0xFFFFFFFF := by
  have hwf : WellKept (inputShown x mv false s) := (inputShown_moves x mv false s).form wf
  rw [inputGone, supplyHealth_onlyFields _ _ (healthFields_apart _ 23 rfl (by decide)), getF_emit,
    getF_bumpF_same _ _ 1 rfl hwf.regs, inputShown_onlyFields x mv false s _ (by decide)]

/-! ### The state of the inputs -/

theorem inputGone_inputGood (x mv : Nat) (s : State) : (inputGone x mv s).pwr.inputGood = s.pwr.inputGood.set x false := by
  rw [inputGone, (supplyHealth_moves _).frame .pwr rfl, emit_pwr, (bumpF_moves ..).frame .pwr rfl, inputShown_pwr]
  rfl

theorem inputReturned_pwr (x mv : Nat) (s : State) :
    (inputReturned x mv s).pwr = { s.pwr with inputGood := s.pwr.inputGood.set x true } := by
  rw [inputReturned, (supplyHealth_moves _).frame .pwr rfl, emit_pwr, inputShown_pwr]
  rfl

/-! ### Records -/

/-- An event of PWR that is recorded once the inputs have been shown. -/
theorem records_inputEvent {s' t' : State} (hpres : present s' 23 = true) (hcont : s'.cont = s.cont) (htick : s'.tick = s.tick)
    (code w1 w2 w3 : Nat) (hcode : code / 256 = 23) (ht : t'.cont = (emit code w1 w2 w3 s').cont) :
    Records s t' [(code, payload s w1 w2 w3)] := by
  have hrecord := records_emit (s := s') (code := code) (w1 := w1) (w2 := w2) (w3 := w3) (by rw [hcode]; exact hpres)
  rw [payload, tickLo, htick] at hrecord
  exact records_of_cont hrecord hcont.symm ht

theorem records_inputGone (x mv : Nat) (hpres : present s 23 = true) :
    Records s (inputGone x mv s) [(0x1701, payload s x mv 0)] := by
  have hmoves : Moves 0x1000002 s (bumpF F.PWR.INPUT_LOST_COUNT 1 (inputShown x mv false s)) :=
    moves_step (bumpF_moves ..) rfl (inputShown_moves ..)
  have hfields : OnlyFields (F.PWR.INPUT_LOST_COUNT :: inputFields) s (bumpF F.PWR.INPUT_LOST_COUNT 1 (inputShown x mv false s)) :=
    onlyFields_bumpF (by simp) (onlyFields_mono (inputShown_onlyFields x mv false s) (by simp))
  exact records_inputEvent ((present_of_onlyFields hfields (by decide) 23).trans hpres) (hmoves.frame .cont rfl)
    (hmoves.frame .tick rfl) 0x1701 x mv 0 rfl ((supplyHealth_moves _).frame .cont rfl)

theorem records_inputReturned (x mv : Nat) (hpres : present s 23 = true) :
    Records s (inputReturned x mv s) [(0x1702, payload s x mv 0)] :=
  records_inputEvent ((present_of_onlyFields (inputShown_onlyFields x mv true s) (by decide) 23).trans hpres)
    ((inputShown_moves ..).frame .cont rfl) ((inputShown_moves ..).frame .tick rfl) 0x1702 x mv 0 rfl
    ((supplyHealth_moves _).frame .cont rfl)

end Sys2Proof.Machine
end

section
/-! The statement about the two inputs. -/

namespace Sys2Proof.Certificates

open Sys2Proof Sys2Proof.Machine

/-- Settles O21, input by input; that an overvoltage leaves the input's good flag as it is is log entry 171. -/
theorem supplyInputs : Obligations.SupplyInputs := by
  intro x mv s wf hx hup hpres
  have hlen : ∀ {l : List Bool} {b : Bool}, l[x]? = some b → x < l.length := fun h => (List.getElem?_eq_some_iff.1 h).1
  refine ⟨fun hpower hmv hgood hother => ?_, fun hmv hlost hstage => ?_, fun hmv hstage => ?_⟩
  · have hexec := exec_inputLost hx hup hpower hmv hgood hother
    refine ⟨_, hexec, ?_, ?_, getF_inputLostCount x mv wf, records_inputGone x mv hpres, exec_onlyParts hexec⟩
    · rw [inputGone_inputGood]
      exact List.getElem?_set_self (hlen hgood)
    · rw [inputGone_inputGood]
      exact (List.getElem?_set_ne (by omega)).trans hother
  · have hexec := exec_inputRestored hx hup hmv hlost
    refine ⟨_, hexec, ?_, ?_, records_inputReturned x mv hpres, exec_onlyParts hexec⟩
    · show (inputReturned x mv s).pwr.inputGood[x]? = _
      rw [inputReturned_pwr]
      exact List.getElem?_set_self (hlen hlost)
    · show (listPut (inputReturned x mv s).pwr.disconnected x _)[x]? = _
      rw [inputReturned_pwr]
      exact List.getElem?_set_self hstage
  · have hexec := exec_inputOvervoltage hx hup hmv
    exact ⟨_, hexec, List.getElem?_set_self hstage, rfl, exec_onlyParts hexec, putSupply_onlyFields x mv s⟩

end Sys2Proof.Certificates
end

section
/-! SUPPORT. A state in which the summary of a suppressed code takes the reading of the base plate back to 0. -/

namespace Sys2Proof.Machine

open Sys2Proof

/-- A number beyond the 6,144 codes of CODE_STATE (R472) whose PENDING has the key of TEMPERATURE_BASE. -/
def strayBaseCode : Nat := 0xBC007

/-- A module in MAINTENANCE whose recorder has a run of the stray code suppressed, and is otherwise fresh. -/
def strayBaseState : State :=
  { State.reset with
    dev := { State.reset.dev with state := .maintenance }
    cont := { State.reset.cont with suppressed := [(strayBaseCode, {})] } }

theorem strayBaseState_wellKept : WellKept strayBaseState :=
  ⟨wellKept_reset.regs, rfl, rfl, rfl, rfl, rfl, rfl, rfl, rfl, wellKept_reset.volatileRing, rfl⟩

/-- The flush that starts with the power-fail sequence writes the stray code's summary and clears its PENDING, and with it the
reading that has just been shown (R462, R465, R528). -/
theorem strayBaseState_loses_reading :
    ∃ t, exec (.thermalShutdown 950) strayBaseState = .next t ∧ getF t F.PWR.TEMPERATURE_BASE = 0 :=
  ⟨_, rfl, by decide +kernel⟩

end Sys2Proof.Machine
end

section
/-! The statement about the temperature of the base plate. -/

namespace Sys2Proof.Certificates

open Sys2Proof Sys2Proof.Machine

/-- Refutes O23, in the clause on the shutdown at 95 degrees: `WellKept` lets the recorder hold any number as the code of a
suppressed run, and where such a number's PENDING has the key of TEMPERATURE_BASE, the flush that the power-fail sequence starts
takes the reading that has just been shown back to 0. -/
theorem not_baseTemperatureThresholds : ¬ Obligations.BaseTemperatureThresholds := by
  intro h
  obtain ⟨-, -, -, hshutdown, -⟩ := h 950 strayBaseState strayBaseState_wellKept (by decide) (by decide) (by decide +kernel)
  obtain ⟨t, hexec, -, ⟨hbase, -⟩, -⟩ := hshutdown rfl rfl (by decide)
  obtain ⟨u, hexec', hzero⟩ := strayBaseState_loses_reading
  obtain rfl : t = u := by rw [hexec] at hexec'; exact Host.Outcome.next.inj hexec'
  rw [hzero] at hbase
  exact absurd hbase (by decide)

end Sys2Proof.Certificates
end
